-- ==== Sys2Proof/Word.lean ====
section
/-! DEFINITION. Word.lean: the word types of the block and their plainest arithmetic: little-endian byte lists (R5). -/
namespace Sys2Proof

/-- A byte. -/
abbrev Byte := BitVec 8

/-- A 32-bit register word (R8). -/
abbrev Word := BitVec 32

/-- A list of bytes, lowest address first. -/
abbrev Bytes := List Byte

end Sys2Proof
end

