-- ==== Sys2Proof/Syntax.lean ====
section
/-! DEFINITION. Syntax.lean: the commands of the block, one constructor per row of the opcode table, and their
operands. The first operand `t` of every command is the TIMEBASE tick at which it takes place (DESIGN CHOICE, log
entry 1). A value that only the outside world can give (a measurement, a received frame, a pin level) is an operand
of the command that brings it (DESIGN CHOICE, log entry 4). -/
namespace Sys2Proof

/-- Where a descriptor came from: a host queue pair (R15), the Drover port (R15), or the monitor's DESC (R423). -/
inductive Source
  | host (pair : Nat)
  | drover
  | monitor
  deriving DecidableEq, Repr

/-- A submission descriptor (Table 05.6) with its source and ring index. -/
structure Desc where
  /-- where it came from -/
  src : Source
  /-- ring index, returned as SQ_IDX -/
  idx : Nat
  /-- what tells it from every other descriptor in flight: the dispatcher numbers those of the host pairs, since a ring
  index may be in use again before its completion (R113); Drover and the monitor number their own -/
  no : Nat
  /-- byte 0 -/
  opcode : Nat
  /-- byte 1 -/
  flags : Nat
  /-- bytes 2 to 3 -/
  tag : Nat
  /-- bytes 4 to 7 -/
  target : Nat
  /-- bytes 8 to 11 -/
  len : Nat
  /-- bytes 12 to 13, units of 0.1 ms -/
  timeout : Nat
  /-- bytes 14 to 15, reserved -/
  rsv : Nat
  /-- bytes 16 to 23 -/
  srcAddr : Nat
  /-- bytes 24 to 31 -/
  dstAddr : Nat
  /-- bytes 32 to 55, parameter bytes 0 to 23 -/
  par : Bytes
  /-- bytes 56 to 63 -/
  atTb : Nat
  deriving DecidableEq, Repr

/-- REFCLK content classes (Table 03.1); `none` is stopped or qualifying. -/
inductive Content
  | none | fast38 | fast19 | slow | invalid
  deriving DecidableEq, Repr

/-- The checks of the clock watch (Table 03.5). -/
inductive ClkCheck
  /-- no rising edge within 17.5 periods -/
  | missingEdge
  /-- a measurement, in units of 10 Hz, outside the band of the class in force -/
  | frequency (freq : Nat)
  /-- a lock detector reports unlock -/
  | pllLock
  deriving DecidableEq, Repr

/-- PCIe link states (HIF_LINK.LSTATE). -/
inductive LinkState
  | down | training | l0 | l1 | l2l3
  deriving DecidableEq, Repr

/-- The measured waveform of a REFCLK gap (R68, R69); the tick of its command is the rising edge that ends it. -/
structure Gap where
  /-- I: the interval from the last rising edge before the gap to the edge that ends it, in a unit of the sender's -/
  interval : Nat
  /-- P: the REFCLK period in the same unit -/
  period : Nat
  /-- TIMEBASE at the last falling edge before the gap -/
  fall : Nat
  deriving DecidableEq, Repr

/-- What became of the word in flight when VHOLD stopped the drain (Table 15.3). -/
inductive TornWord
  | old | new | uncorrectable
  deriving DecidableEq, Repr

/-- What the noise source has delivered since the last Steep (R326): samples tested, longest run, highest window
count. -/
structure RngObs where
  /-- TESTED -/
  tested : Nat
  /-- RCT_MAX -/
  rctMax : Nat
  /-- APT_MAX -/
  aptMax : Nat
  deriving DecidableEq, Repr

/-- A frame that the UHF radio receives for the host (R221), with what the receiver measures. -/
structure UhfFrame where
  /-- profile -/
  ch : Nat
  /-- TIMEBASE of the last sync bit -/
  tb : Nat
  /-- bit errors in the sync pattern -/
  syncErr : Nat
  /-- RSSI in dBm -/
  rssi : Int
  /-- frequency offset in 100 Hz -/
  fofs : Int
  /-- bytes received after the sync pattern -/
  bytes : Bytes
  deriving DecidableEq, Repr

/-- What a UHF_CAL measures (Table 09.6). -/
structure UhfMeas where
  /-- image rejection, dB -/
  irr : Nat
  /-- filter corner, kHz -/
  filt : Nat
  /-- the reference carrier was found -/
  refFound : Bool
  /-- REFCLK offset in 0.01 ppm -/
  ppm : Int
  /-- VCO band of TARGET's frequency -/
  band : Nat
  /-- residual offset, mV -/
  dc : Nat
  /-- die temperature in degrees -/
  temp : Int
  deriving DecidableEq, Repr

/-- A UWB Response frame as the radio measures it (R234, R235, R239). -/
structure UwbReply where
  /-- raw receive timestamp minus raw transmit timestamp of the Poll, in u -/
  raw : Nat
  /-- STSQ in percent -/
  stsq : Nat
  /-- the STS peak lies within 1.0 ns of the RMARKER -/
  peakOk : Bool
  /-- RSSI on chain A in dBm -/
  rssi : Int
  /-- carrier frequency offset of the responder in 0.01 ppm -/
  cfo : Int
  /-- raw phase difference of the chains in 0.01 degrees, when chain B received it -/
  phase : Option Int
  /-- PSDU of an SP1 frame, without its FCS; empty for an SP3 frame -/
  psdu : Bytes
  /-- the FCS is good -/
  fcsOk : Bool
  deriving DecidableEq, Repr

/-- A UWB Report frame as the radio measures it (R236). -/
structure UwbReport where
  /-- STSQ in percent -/
  stsq : Nat
  /-- the STS peak lies within 1.0 ns of the RMARKER -/
  peakOk : Bool
  /-- chain B received it -/
  chainB : Bool
  /-- PSDU without its FCS -/
  psdu : Bytes
  /-- the FCS is good -/
  fcsOk : Bool
  deriving DecidableEq, Repr

/-- What a UWB_CAL measures on one port (Table 10.6). -/
structure UwbMeas where
  /-- image rejection, dB -/
  irr : Nat
  /-- exchanges that ranged -/
  ranged : Nat
  /-- mean raw time of flight in u, with TXD = RXD = 0 -/
  tof : Int
  /-- circular mean of the raw phase difference in 0.01 degrees -/
  phase : Int
  /-- mean STSQ in percent -/
  stsq : Nat
  /-- standard deviation of the raw ranges in mm -/
  sd : Nat
  deriving DecidableEq, Repr

/-- A sample of a sense pin (R54, R147). -/
structure AdcSample where
  /-- voltage at the pin in microvolts -/
  uv : Nat
  /-- the clamp conducts -/
  clamp : Bool
  deriving DecidableEq, Repr

/-- A period of a ring-down, from one upward zero crossing about LFBIAS to the next, with its samples in order (R148). -/
structure RingPeriod where
  /-- its length in 0.1 ns -/
  len : Nat
  /-- its samples -/
  samples : List AdcSample
  deriving DecidableEq, Repr

/-- A ring-down of one leaf as its pin shows it (R148), or the current check of a coil (R156). -/
structure RingMeas where
  /-- leaf node identifier -/
  node : Nat
  /-- the periods of the ring window -/
  periods : List RingPeriod
  /-- coil current in percent of the DRIVE setting -/
  coilPct : Nat
  /-- the coil driver reached its current limit -/
  coilLimit : Bool
  deriving DecidableEq, Repr

/-- What the LF engine senses on one channel (R152, R161). -/
structure SenseMeas where
  /-- LF channel -/
  ch : Nat
  /-- peak of the band-filtered signal in ADC LSB -/
  peak : Nat
  /-- its RMS in ADC LSB -/
  rms : Nat
  /-- dominant frequency in 10 Hz units -/
  freq : Nat
  /-- a sample was saturated -/
  sat : Bool
  deriving DecidableEq, Repr

/-- A token's answer frame as it ends on a UHF Obane channel (R189). -/
structure ObaneFrame where
  /-- channel, 0 or 1 -/
  ch : Nat
  /-- payload bytes 0 to 27 and the two CRC bytes -/
  bytes : Bytes
  /-- RSSI in dBm -/
  rssi : Int
  /-- variation of the RSSI between the SYNC and the end, in dB -/
  spread : Nat
  deriving DecidableEq, Repr

/-- A CAN frame from another node (R291). -/
structure EcuFrame where
  /-- identifier -/
  id : Nat
  /-- 29-bit identifier -/
  xtd : Bool
  /-- FD frame -/
  fd : Bool
  /-- data bytes -/
  data : Bytes
  deriving DecidableEq, Repr

/-- A WAKE pin that has come to its active level (R93). -/
structure PinEvent where
  /-- pin -/
  pin : Nat
  /-- for how long it has been active, in us of the delay-line reference -/
  active : Nat
  /-- for how long it had been inactive before that -/
  inactive : Nat
  deriving DecidableEq, Repr

/-- An access to BAR0 or BAR2. -/
structure BarAccess where
  /-- its offset; BAR2 lies at 0x10000 -/
  off : Nat
  /-- its width in bytes -/
  size : Nat
  deriving DecidableEq, Repr

/-- Kinds of wake trigger (PWR_STATUS.WAKE_SRC). -/
inductive WakeSrc
  | pin (n : Nat) | attention | refclk | perst | pcie | sched | can
  deriving DecidableEq, Repr

/-- The commands of the block: one constructor per row of spec/opcode_table.json, in its order. -/
inductive Instr
  /-- NOP_FENCE (R122). NOP descriptor completes with OK and, with FENCE set, acts as a barrier within its pair. -/
  | nopFence (t : Nat) (d : Desc)
  /-- POWER_HINT (R87). Sets the exit-latency tolerance and keep-mask in force, stores them if PERSIST is set, and returns the selected target state. -/
  | powerHint (t : Nat) (d : Desc)
  /-- TIME_SET_NOW (R132). TIME_SET MODE 0 applies a wall-clock value at the completion and cancels any pending value. -/
  | timeSetNow (t : Nat) (d : Desc)
  /-- TIME_SET_AT_EPOCH (R132). TIME_SET MODE 1 makes a wall-clock value pending, to be applied at the next EPOCH mark. -/
  | timeSetAtEpoch (t : Nat) (d : Desc)
  /-- TIME_SET_CANCEL (R132). TIME_SET MODE 2 cancels a pending TIME_SET. -/
  | timeSetCancel (t : Nat) (d : Desc)
  /-- EVENT_ROUTE (R134). Names the queue pair that receives later events and returns the previous pair. -/
  | eventRoute (t : Nat) (d : Desc)
  /-- LF_POLL (R158). Queues a poll of a fold or leaf that drives the wake preamble, header and code frames, then collects and verifies the answers. -/
  | lfPoll (t : Nat) (d : Desc)
  /-- LF_DIAG_RING (R160). Runs diagnostic burst rounds with focused ring-down analysis on the leaves of the target and reports one record per leaf. -/
  | lfDiagRing (t : Nat) (d : Desc)
  /-- LF_DIAG_APPLY (R160). Checks DUTY and TRIM entries, applies all of them together between LF operations, and commits them if PERSIST is set. -/
  | lfDiagApply (t : Nat) (d : Desc)
  /-- LF_CAL (R162). Firmware-class TUNE and LEVEL calibration that Drover runs as LF_DIAG passes, applying the results only with APPLY. `tag` is the TAG that Drover gives these (log entry 110). -/
  | lfCal (t : Nat) (d : Desc) (tag : Nat)
  /-- LF_LISTEN (R161). Senses the enabled channels of the target round-robin for WINDOW_MS without driving, and reports foreign fields. -/
  | lfListen (t : Nat) (d : Desc)
  /-- FOLD_BARRIER (R175). FOLD_OP BARRIER waits until earlier operations on the subtree have completed, then walks the subtree and completes at B. -/
  | foldBarrier (t : Nat) (d : Desc)
  /-- FOLD_BROADCAST (R176). FOLD_OP BROADCAST writes one set-up field of every unretired leaf of the subtree at B. -/
  | foldBroadcast (t : Nat) (d : Desc)
  /-- FOLD_SNAPSHOT (R177). FOLD_OP SNAPSHOT latches every node of the subtree at B and writes 16-byte records in preorder. -/
  | foldSnapshot (t : Nat) (d : Desc)
  /-- FOLD_RESET (R178). FOLD_OP RESET waits as BARRIER does, then clears the run-time state of the leaves at B, and with CFG also reloads their set-up. -/
  | foldReset (t : Nat) (d : Desc)
  /-- FOLD_RETIRE (R179). FOLD_OP RETIRE retires the leaves of the subtree at B, or returns them to service with RESTORE, then stores the tree record. -/
  | foldRetire (t : Nat) (d : Desc)
  /-- FOLD_ADOPT (R180). FOLD_OP ADOPT puts a leaf in the place of a retired leaf at B, copying POS and optionally the tuning. -/
  | foldAdopt (t : Nat) (d : Desc)
  /-- FOLD_BROADCAST_TICK (R171). At broadcast tick B, after every member island has acknowledged, every member of a fold operation changes or is latched. -/
  | foldBroadcastTick (t : Nat)
  /-- UHF_TX (R220). Transmits a frame of LEN bytes on a UHF profile, immediately or at AT, subject to reserved windows and the coexistence grant. -/
  | uhfTx (t : Nat) (d : Desc) (temp : Int)
  /-- UHF_TX_END (R220). The last bit of a UHF transmission has been sent; the PA ramps down and the descriptor completes. -/
  | uhfTxEnd (t : Nat)
  /-- UHF_RX (R221). Receives frames on one or both UHF profiles for a window and writes one record per frame. -/
  | uhfRx (t : Nat) (d : Desc) (temp : Int)
  /-- UHF_RX_END (R221). A UHF_RX reception ends when its window elapses or MAXFRAMES is reached, and the descriptor completes. -/
  | uhfRxEnd (t : Nat)
  /-- UHF_CAL (R222). Firmware-class run of the selected UHF calibrations for a profile, applied only with APPLY. -/
  | uhfCal (t : Nat) (d : Desc) (m : UhfMeas)
  /-- UWB_RANGE (R243). Ranges a host-session responder from a port or from each eligible port of a fold, with up to TRIES attempts. -/
  | uwbRange (t : Nat) (d : Desc) (temp : Int)
  /-- UWB_CAL (R242). Firmware-class run of the selected UWB calibrations on each port of the target, applied together with APPLY. -/
  | uwbCal (t : Nat) (d : Desc) (m : List UwbMeas) (temp : Int)
  /-- VRD_RULES_LOAD (R262). Checks a rules blob and writes it into the staged bank, storing it and optionally activating it. -/
  | vrdRulesLoad (t : Nat) (d : Desc)
  /-- VRD_MAP_LOAD (R262). Checks a pasture map blob and writes it into the staged bank, storing it and optionally activating it. -/
  | vrdMapLoad (t : Nat) (d : Desc)
  /-- VRD_EVAL (R264). Classifies and evaluates synthetic answers against the active or staged banks without taking any action. -/
  | vrdEval (t : Nat) (d : Desc)
  /-- FLOCK_LEARN (R270). Checks an authorised flock blob, decrypts it into the staged bank and commits the new flock and epoch. -/
  | flockLearn (t : Nat) (d : Desc)
  /-- FLOCK_STATUS_SLOT (R278). FLOCK_STATUS MODE 0 reports flock slots from TARGET upward. -/
  | flockStatusSlot (t : Nat) (d : Desc)
  /-- FLOCK_STATUS_PIN (R278). FLOCK_STATUS MODE 1 reports the pinfold state of a fold. -/
  | flockStatusPin (t : Nat) (d : Desc)
  /-- FLOCK_STATUS_SHORTEN (R285). FLOCK_STATUS MODE 2 in Service shortens or ends the own pinfold of a fold, and with CLEAR_LEVEL forgets its escalation. -/
  | flockStatusShorten (t : Nat) (d : Desc)
  /-- IMMO_PAIR (R296). Firmware-class installation of an immobiliser pairing after unwrap, CMAC, probe and store checks. -/
  | immoPair (t : Nat) (d : Desc)
  /-- IMMO_PAIR_STEP_CMAC (R31). Drover-port IMMO_PAIR STEP 1 checks the blob CMAC under the staged K_pair. -/
  | immoPairStepCmac (t : Nat) (d : Desc)
  /-- IMMO_PAIR_STEP_PROBE (R31). Drover-port IMMO_PAIR STEP 2 sends PROBE through the CAN island and checks PROBE_ANS within 200 ms. -/
  | immoPairStepProbe (t : Nat) (d : Desc)
  /-- IMMO_PAIR_STEP_INSTALL (R31). Drover-port IMMO_PAIR STEP 3 installs the staged pairing. -/
  | immoPairStepInstall (t : Nat) (d : Desc)
  /-- START_REVOKE (R290). Ends an active start permission with reason 2 and completes after the static STARTEN edge. -/
  | startRevoke (t : Nat) (d : Desc)
  /-- CRYPT_ECB (R309). CRYPT MODE 0 encrypts or decrypts data in ECB on the block core. -/
  | cryptEcb (t : Nat) (d : Desc)
  /-- CRYPT_CBC (R309). CRYPT MODE 1 encrypts with PKCS#7 padding, or decrypts and checks the padding, in CBC. -/
  | cryptCbc (t : Nat) (d : Desc)
  /-- CRYPT_CTR (R309). CRYPT MODE 2 processes data in CTR mode. -/
  | cryptCtr (t : Nat) (d : Desc)
  /-- CRYPT_GCM (R309). CRYPT MODE 3 performs GCM authenticated encryption or decryption with tag check. -/
  | cryptGcm (t : Nat) (d : Desc)
  /-- CRYPT_CCM (R309). CRYPT MODE 4 performs CCM authenticated encryption or decryption with tag check. -/
  | cryptCcm (t : Nat) (d : Desc)
  /-- CRYPT_CMAC (R309). CRYPT MODE 5 generates or verifies an AES-CMAC tag. -/
  | cryptCmac (t : Nat) (d : Desc)
  /-- CRYPT_KW (R309). CRYPT MODE 6 wraps or unwraps data with AES-KW. -/
  | cryptKw (t : Nat) (d : Desc)
  /-- CRYPT_STAGE (R31). Drover-port GCM decryption of flock blob entries straight into the staged flock bank during FLOCK_LEARN. -/
  | cryptStage (t : Nat) (d : Desc)
  /-- KEY_UNWRAP (R306). Unwraps a key under a fuse-derived or Caddy KEK into a Caddy slot and increments the slot generation. -/
  | keyUnwrap (t : Nat) (d : Desc)
  /-- KEY_IMPORT (R306). KEY_UNWRAP with KEK_SEL 0xFE in Blank wraps a plain-text key, writes the blob to DST and then loads the slot. -/
  | keyImport (t : Nat) (d : Desc)
  /-- KEY_UNWRAP_PAIRING (R31). Drover-port KEY_UNWRAP with KEK_SEL 0x81 unwraps K_pair into the pairing stage of VRD/CRY. -/
  | keyUnwrapPairing (t : Nat) (d : Desc)
  /-- KEY_DERIVE (R307). Derives a key from a parent Caddy key and a context into a slot. -/
  | keyDerive (t : Nat) (d : Desc)
  /-- KEY_CLEAR (R308). Zeroises a Caddy slot and increments its generation. -/
  | keyClear (t : Nat) (d : Desc)
  /-- PKE_SIGN_MESSAGE (R320). PKE_SIGN MODE 0 hashes a message and signs it with a Caddy P-256 key or the DAK. -/
  | pkeSignMessage (t : Nat) (d : Desc)
  /-- PKE_SIGN_DIGEST (R320). PKE_SIGN MODE 1 signs a given digest with a Caddy P-256 key. -/
  | pkeSignDigest (t : Nat) (d : Desc)
  /-- PKE_SIGN_LEDGER (R320). Drover-port PKE_SIGN MODE 2 signs a ledger statement with the DAK under the ledger prefix. -/
  | pkeSignLedger (t : Nat) (d : Desc)
  /-- PKE_VERIFY (R321). Verifies an ECDSA P-256 signature over a message or digest under a given public key. -/
  | pkeVerify (t : Nat) (d : Desc)
  /-- RNG_GET (R335). Returns DRBG output, or raw samples in Blank, after any wait for the Steep. -/
  | rngGet (t : Nat) (d : Desc)
  /-- RNG_STAT (R336). Reports the RNG state, health statistics and estimator values without waiting. -/
  | rngStat (t : Nat) (d : Desc) (o : RngObs)
  /-- NV_READ (R362). Reads a host record, the host scratch area or raw NV content into host memory. -/
  | nvRead (t : Nat) (d : Desc)
  /-- NV_WRITE (R362). Writes a host dual-copy record or scratch bytes; with LEN 0, completes once earlier NV writes have drained. -/
  | nvWrite (t : Nat) (d : Desc)
  /-- NV_WRITE_FW_CHUNK (R31). Drover-port NV_WRITE of an image chunk into a firmware bank during FW_STAGE. -/
  | nvWriteFwChunk (t : Nat) (d : Desc)
  /-- NV_WRITE_OTP (R415). Drover-port NV_WRITE that programs the OTP override field during LIFECYCLE OTP_K. -/
  | nvWriteOtp (t : Nat) (d : Desc)
  /-- NV_WRITE_DEVICE_RECORD (R31). Drover-port NV_WRITE of a device record as a dual-copy record within the work that owns it. -/
  | nvWriteDeviceRecord (t : Nat) (d : Desc)
  /-- TALLY_INC (R357). Increments a tally counter by ADD into the next cell of its ring. -/
  | tallyInc (t : Nat) (d : Desc)
  /-- TALLY_READ (R363). Returns the value, current slot and valid cell count of a tally counter. -/
  | tallyRead (t : Nat) (d : Desc)
  /-- LEDGER_APPEND (R379). Appends host entries to the ledger with the device wall clock and optional driver binding. -/
  | ledgerAppend (t : Nat) (d : Desc)
  /-- LEDGER_READ_BLOCKS (R380). LEDGER_READ MODE 0 copies ledger blocks from FROM, optionally verifying their tags. -/
  | ledgerReadBlocks (t : Nat) (d : Desc)
  /-- LEDGER_READ_STATEMENTS (R380). LEDGER_READ MODE 1 copies signed statements from the statement ring. -/
  | ledgerReadStatements (t : Nat) (d : Desc)
  /-- LEDGER_SEAL (R381). Seals the open ledger block with FORCED and returns its SEQ and TAG. -/
  | ledgerSeal (t : Nat) (d : Desc)
  /-- LEDGER_ATTEST (R382). Firmware-class signed attestation over a range of verified ledger blocks with a host nonce. -/
  | ledgerAttest (t : Nat) (d : Desc)
  /-- LEDGER_RELEASE (R383). Raises the ledger watermark up to SIGNED, allowing older blocks to be overwritten. -/
  | ledgerRelease (t : Nat) (d : Desc)
  /-- TIMER_CFG (R400). Configures a timer channel's mode, source, compare value, period and actions, effective at tick E. -/
  | timerCfg (t : Nat) (d : Desc)
  /-- TIMER_READ (R402). Takes an atomic snapshot of a timer channel and writes its record to host memory. -/
  | timerRead (t : Nat) (d : Desc)
  /-- FW_STAGE (R418). Writes and checks one chunk of a firmware image into a bank, marking the bank valid after the final chunk. -/
  | fwStage (t : Nat) (d : Desc)
  /-- FW_ACTIVATE_TRIAL (R419). FW_ACTIVATE MODE 0 resets Drover and boots it from the target bank on trial. -/
  | fwActivateTrial (t : Nat) (d : Desc)
  /-- FW_ACTIVATE_CONFIRM (R419). FW_ACTIVATE MODE 1 stores the bank selection and raises MINVER unless KEEP_MIN is set. -/
  | fwActivateConfirm (t : Nat) (d : Desc)
  /-- FW_ACTIVATE_REVERT (R419). FW_ACTIVATE MODE 2 resets Drover and boots it from the previous bank, ending the trial. -/
  | fwActivateRevert (t : Nat) (d : Desc)
  /-- LIFECYCLE_CHALLENGE (R414). Returns a fresh 16-byte nonce for a signed lifecycle request. -/
  | lifecycleChallenge (t : Nat) (d : Desc)
  /-- LIFECYCLE_ADVANCE (R410). Performs a permitted lifecycle transition, with a fleet signature where required. -/
  | lifecycleAdvance (t : Nat) (d : Desc)
  /-- LIFECYCLE_FLEET_KEY (R413). Installs or replaces the fleet public key. -/
  | lifecycleFleetKey (t : Nat) (d : Desc)
  /-- LIFECYCLE_OTP_K (R415). Programs the one-time REFCLK qualification exponent override in Blank. -/
  | lifecycleOtpK (t : Nat) (d : Desc)
  /-- DESCRIPTOR_DISPATCH (R121). The dispatcher takes a pair's head descriptor in its round-robin turn, checks it and hands it to its unit or to Drover. -/
  | descriptorDispatch (t : Nat) (n : Nat)
  /-- SQ_FETCH_ERROR (R116). A DMA read error on a submission ring fetch stops the pair. -/
  | sqFetchError (t : Nat) (n : Nat)
  /-- SQ_TAIL_DOORBELL (R113). A write to a submission tail doorbell exposes new descriptors, or is ignored and flagged when out of range or disabled. -/
  | sqTailDoorbell (t : Nat) (n : Nat) (v : Word)
  /-- CQ_HEAD_DOORBELL (R114). A write to a completion head doorbell releases completion entries to the device. -/
  | cqHeadDoorbell (t : Nat) (n : Nat) (v : Word)
  /-- QP_ENABLE (R110). A QPn_CFG write that sets both sizes enables a quiesced pair and resets its ring positions. -/
  | qpEnable (t : Nat) (n : Nat) (v : Word)
  /-- QP_DISABLE (R110). A QPn_CFG write that sets a size to 0 disables the pair; in-flight descriptors finish with completions discarded. -/
  | qpDisable (t : Nat) (n : Nat) (v : Word)
  /-- QP_QUIESCED (R110). The last in-flight descriptor of a disabled pair ends and QUIESCED becomes 1. -/
  | qpQuiesced (t : Nat) (n : Nat)
  /-- HIF_CTL_EN_WRITE (R111). A write of HIF_CTL.EN starts or stops fetching and dispatch on every pair. -/
  | hifCtlEnWrite (t : Nat) (v : Word)
  /-- BUS_MASTER_ENABLE_CHANGE (R107). A change of the Bus Master Enable bit stops or resumes descriptor fetch, DMA and completion writing. -/
  | busMasterEnableChange (t : Nat) (on : Bool)
  /-- D3HOT_TRANSITION (R106). A move into or out of D3hot acts as HIF_CTL.EN = 0, or resumes dispatch on return to D0. -/
  | d3hotTransition (t : Nat) (enter : Bool)
  /-- MSIX_COALESCE_TIMEOUT (R130). The oldest unsignalled completion has waited COAL_US, so the pair's vector is raised. -/
  | msixCoalesceTimeout (t : Nat) (n : Nat)
  /-- BACKLOG_DELIVERY (R28). When event delivery to host memory becomes possible again, the whole backlog is delivered in order before new events. -/
  | backlogDelivery (t : Nat)
  /-- POWER_ON_RESET (R98). VAON below its power-on threshold clears everything, sets TIMEBASE to 0 and asserts the safe state. -/
  | powerOnReset (t : Nat)
  /-- POR_RELEASE (R44). The VAON power-on reset releases 0.5 ms after VAON rises past 2.7 V, and the straps are latched. -/
  | porRelease (t : Nat) (straps : Nat) (testN : Bool)
  /-- RESET_N_LOW (R52). RESET_N at its low level asynchronously asserts the pad safe state on BRIDGE_EN and LFD pins. -/
  | resetNLow (t : Nat)
  /-- SYSTEM_RESET (R98). An accepted RESET_N pulse drives STARTEN low, drains the write buffer and resets every island, including AON. -/
  | systemReset (t : Nat)
  /-- RESET_N_PULSE_REJECTED (R52). A RESET_N pulse that is not accepted is treated as a single-island reset of LFS. -/
  | resetNPulseRejected (t : Nat)
  /-- SYSTEM_RESET_RELEASE (R346). Release of the system reset once VCORE and VHOLD are ready, or after the 20 ms VHOLD wait, starting PLL lock and recall. -/
  | systemResetRelease (t : Nat) (vhold : Nat) (vaon : Nat)
  /-- BROWN_OUT (R99). VCORE or VAON below its brown-out threshold runs the safe state, the emergency drain and a system reset. -/
  | brownOut (t : Nat) (written : Nat) (torn : TornWord)
  /-- BROWN_OUT_RELEASE (R99). After the supply has stayed above threshold for 1.0 ms, the reset is released and the device restarts as after a system reset. -/
  | brownOutRelease (t : Nat) (vhold : Nat) (vaon : Nat)
  /-- REFCLK_QUALIFIED (R60). The qualification count completes; the content is classified, and within Watch the qualifying periods are credited to TIMEBASE. -/
  | refclkQualified (t : Nat) (freq : Nat)
  /-- SECOND_MARK (R71). A 3-cycle REFCLK gap marks a whole second and may discipline the wall clock. -/
  | secondMark (t : Nat) (g : Gap)
  /-- EPOCH_MARK (R72). A 5-cycle REFCLK gap applies or drops a pending TIME_SET, or disciplines as a SECOND mark, and is recorded in the ledger. -/
  | epochMark (t : Nat) (g : Gap)
  /-- ATTENTION_MARK (R73). A 7-cycle REFCLK gap requests an exit to Run and holds Run until the next POWER_HINT. -/
  | attentionMark (t : Nat) (g : Gap)
  /-- GAP_VIOLATION (R70). A malformed, invalid-length or too-close REFCLK gap is counted and captured, and its event posted if enabled. -/
  | gapViolation (t : Nat) (g : Gap)
  /-- CLOCK_LOSS (R76). A failed missing-edge, frequency or PLL-lock check with islands on a PLL starts holdover, the safe state and the clock-stop sequence. -/
  | clockLoss (t : Nat) (why : ClkCheck)
  /-- REFCLK_STOP (R78). In Watch with no PLL island running, a failed clock check is a stop: TIMEBASE holds and due work is held. -/
  | refclkStop (t : Nat) (why : ClkCheck)
  /-- CLOCK_LOSS_RECOVERY (R77). After REFCLK returns and qualifies, PLLs relock, every island except AON resets and recall and configuration load run. -/
  | clockLossRecovery (t : Nat) (freq : Nat)
  /-- WAKE_PIN_EVENT (R93). A WAKE pin holds its active level for DEBOUNCE ms, posting a WAKE event and optionally queueing a poll of its bound fold. -/
  | wakePinEvent (t : Nat) (e : PinEvent)
  /-- SCHEDULED_POLL_DUE (R95). An autonomous schedule entry falls due and queues, merges or drops a poll of its fold. -/
  | scheduledPollDue (t : Nat) (e : Nat)
  /-- PWR_SCHED_ENABLE (R95). An enabling write of ENTRY_EN or EN starts schedule entries with their first due times. -/
  | pwrSchedEnable (t : Nat) (off : Nat) (v : Word)
  /-- PWR_SCHED_COMMIT (R96). A write of PWR_SCHED_CTL.COMMIT stores EN and all 16 entries as one dual-copy record. -/
  | pwrSchedCommit (t : Nat) (v : Word)
  /-- POWER_STATE_ENTRY (R89). After IDLE_US of idleness, the device enters the deeper Graze, Pen or Watch target state. -/
  | powerStateEntry (t : Nat)
  /-- FALLOW_ENTRY (R89). Fallow entry appends FALLOW_ENTER, seals the open block, stores records, drains the buffer and powers down MRAM and VCORE. -/
  | fallowEntry (t : Nat)
  /-- WAKE_EXIT (R90). A wake trigger exits Graze, Pen or Watch to Run, or aborts an entry that has not yet committed. -/
  | wakeExit (t : Nat) (w : WakeSrc)
  /-- FALLOW_EXIT (R90). A WAKE pin or a REFCLK restart after quiet exits Fallow through qualification, power-up, recall and configuration load. -/
  | fallowExit (t : Nat) (w : WakeSrc) (freq : Nat)
  /-- PERST_N_ASSERT (R98). PERST_N assertion, or a Function Level Reset, resets the PCIE island and queue-pair state. -/
  | perstNAssert (t : Nat) (flr : Bool)
  /-- PERST_N_DEASSERT (R94). PERST_N deassertion wakes the device from Watch or Fallow and releases WAKE_N. -/
  | perstNDeassert (t : Nat)
  /-- LINK_STATE_CHANGE (R86). The PCIe link enters L0, L1, a training state or goes down, changing the state bound and releasing held completions. -/
  | linkStateChange (t : Nat) (l : LinkState) (speed : Nat) (width : Nat)
  /-- PME_TURN_OFF (R86). The host's PME_Turn_Off message starts the link's move to L2 or L3. -/
  | pmeTurnOff (t : Nat)
  /-- PME_TO_ACK (R86). Once the device is idle after PME_Turn_Off, it sends PME_TO_Ack. -/
  | pmeToAck (t : Nat)
  /-- PCIE_TLP_WAKE (R92). A PCIe TLP or L1 exit wakes the device from Graze or Pen. -/
  | pcieTlpWake (t : Nat)
  /-- DROVER_WATCHDOG_EXPIRY (R18). Drover held work without progress for 50 ms; the Drover island alone is reset and its accepted descriptors complete with ISLAND_RESET. -/
  | droverWatchdogExpiry (t : Nat)
  /-- ISLAND_HANG (R102). An island without progress for 10 ms is reset alone, or on its third hang within 1 s the device does a system reset. -/
  | islandHang (t : Nat) (isl : Nat)
  /-- PWR_ISLAND_RST (R100). A write to PWR_ISLAND_RST resets the selected islands alone. -/
  | pwrIslandRst (t : Nat) (v : Word)
  /-- DROVER_BOOT (R417). Drover's boot ROM decrypts the selected bootable bank and checks its digest. -/
  | droverBoot (t : Nat)
  /-- FW_READY (R419). The new firmware reports ready after an activation reset and the pending FW_ACTIVATE completes. -/
  | fwReady (t : Nat)
  /-- FW_TRIAL_TIMEOUT (R420). Trial firmware not ready within 100 ms of its boot is reverted to the previous bank automatically. -/
  | fwTrialTimeout (t : Nat)
  /-- NV_RECALL (R350). Recall after a start without retained state finds the ledger head, repairs the tail, writes buffered appends and loads the device records. -/
  | nvRecall (t : Nat)
  /-- CONFIGURATION_LOAD (R111). Configuration is loaded from the Pasture region, interrupted lifecycle steps are finished, and READY becomes 1. -/
  | configurationLoad (t : Nat)
  /-- SCRUB_PASS (R342). The scrubber reads Pasture and firmware banks once per SCRUB_H hours and rewrites corrected words. -/
  | scrubPass (t : Nat)
  /-- VHOLD_MEASURE (R346). Once per second the device measures VHOLD, updates HOLD_LOW and appends a HOLD_LOW record on a new low. -/
  | vholdMeasure (t : Nat) (vhold : Nat) (vaon : Nat)
  /-- POLL_START (R145). The LF sequencer takes the operation at the head of its queue, builds the frame map and starts the drive sequence. -/
  | pollStart (t : Nat)
  /-- DRIVE_SEQUENCE_END (R51). At the final chip boundary of the last code frame, the driving quarters run drive-to-listen and ring-down sensing starts. -/
  | driveSequenceEnd (t : Nat) (r : List RingMeas)
  /-- FOREIGN_FIELD_WINDOW_END (R153). The foreign-field window closes and channels over threshold are flagged, recorded and reported. -/
  | foreignFieldWindowEnd (t : Nat) (m : List SenseMeas)
  /-- RESPONSE_WINDOW_OPEN (R145). After token processing, the UHF response window opens and coil exchanges start. -/
  | responseWindowOpen (t : Nat)
  /-- RESPONSE_WINDOW_CLOSE (R196). The response window closes; a re-slot drive sequence is decided, or the poll writes its records and completes. -/
  | responseWindowClose (t : Nat)
  /-- LF_DIAG_ROUND_END (R151). A diagnostic round's ring window ends and its leaves are classified, starting the next round or completing. -/
  | lfDiagRoundEnd (t : Nat) (r : List RingMeas)
  /-- LF_LISTEN_WINDOW_END (R161). The LF_LISTEN window elapses and the listen descriptor completes with its records. -/
  | lfListenWindowEnd (t : Nat) (m : List SenseMeas)
  /-- LF_QUEUE_TIMEOUT (R144). A host or Drover LF descriptor that waited its TIMEOUT for a queue entry completes with BUSY_RETRY. -/
  | lfQueueTimeout (t : Nat)
  /-- UHF_WINDOW_PREPARE (R210). The UHF radio leaves Sleep 200 µs before a reserved response window so as to receive on both channels. -/
  | uhfWindowPrepare (t : Nat) (temp : Int)
  /-- OBANE_ANSWER_FRAME (R192). A token answer frame ends; CRC, vehicle, position, key, counter and repeat checks decide its outcome. -/
  | obaneAnswerFrame (t : Nat) (f : ObaneFrame)
  /-- VERDICT_PASS (R246). The verdict engine takes a trigger and runs a preliminary or verdict pass of classification, gate evaluation and actions. -/
  | verdictPass (t : Nat)
  /-- UWB_PREWARM (R21). The AON island sends the UWB pre-warm request at the start of the response window, taking the radio to Synth. -/
  | uwbPrewarm (t : Nat) (temp : Int)
  /-- UWB_EXCHANGE_START (R201). A poll's ranging exchange starts at the later of CRC pass plus 0.35 ms and the end of the previous exchange, sending the Poll. -/
  | uwbExchangeStart (t : Nat)
  /-- UWB_RESPONSE_FRAME (R235). The responder's Response frame is received and STS-checked; SS-TWR ends, DS-TWR sends the Final. -/
  | uwbResponseFrame (t : Nat) (f : UwbReply)
  /-- UWB_REPORT_FRAME (R236). The DS-TWR Report is received and checked, and the range, PDoA and STSQ go to VRD/CRY. -/
  | uwbReportFrame (t : Nat) (f : UwbReport)
  /-- UWB_REPLY_TIMEOUT (R235). No reply preamble 10 µs after its nominal start ends the exchange with NO_RESPONSE. -/
  | uwbReplyTimeout (t : Nat)
  /-- RANGE_RESULT_ARRIVAL (R247). An exchange outcome reaches VRD/CRY and triggers the answer's verdict pass. -/
  | rangeResultArrival (t : Nat)
  /-- UHF_RADIO_IDLE_SLEEP (R209). The UHF radio returns to Sleep 100 µs after its last activity. -/
  | uhfRadioIdleSleep (t : Nat)
  /-- UWB_RADIO_IDLE_SLEEP (R230). The UWB radio returns to Sleep or Standby after its pre-warm hold or last activity ends. -/
  | uwbRadioIdleSleep (t : Nat)
  /-- UHF_BG_CAL (R214). Background IMAGE and DCOFS calibration of the UHF radio every BG_PERIOD or on a temperature change. -/
  | uhfBgCal (t : Nat) (irr : Nat) (dc : Nat) (temp : Int)
  /-- UWB_BG_CAL (R241). Background IMAGE and DCOFS calibration of the UWB radio every BG_PERIOD or on a temperature change. -/
  | uwbBgCal (t : Nat) (irr : Nat) (temp : Int)
  /-- COEX_GRANT (R217). COEX_GNT rises and the waiting activities that need a grant start. -/
  | coexGrant (t : Nat)
  /-- COEX_TIMEOUT (R217). No grant within TIMEOUT of the request; the activity is skipped as COEX_DENIED. -/
  | coexTimeout (t : Nat)
  /-- COEX_GRANT_WITHDRAWN (R218). COEX_GNT falls during an activity that needs it; transmissions stop and are aborted, receptions pause. -/
  | coexGrantWithdrawn (t : Nat)
  /-- COIL_EXCHANGE_START (R155). A coil checks its driver current, powers the token and sends the downlink challenge. -/
  | coilExchangeStart (t : Nat) (coil : Nat) (pct : Nat) (limit : Bool)
  /-- COIL_UPLINK_FRAME (R203). A coil uplink frame ends and goes through CRC and checks 3 to 5. -/
  | coilUplinkFrame (t : Nat) (coil : Nat) (bs : Bytes)
  /-- COIL_ATTEMPT_TIMEOUT (R203). No START by 4.2 ms after the downlink; the attempt has no answer and is retried once. -/
  | coilAttemptTimeout (t : Nat) (coil : Nat)
  /-- ECU_CHALLENGE (R293). A valid CHALLENGE frame from the engine ECU is answered with a RESPONSE within 10 µs. -/
  | ecuChallenge (t : Nat) (f : EcuFrame)
  /-- ECU_VIOLATION (R295). A protocol-breaking frame in the ID block is NAKed, recorded and counted. -/
  | ecuViolation (t : Nat) (f : EcuFrame)
  /-- ECU_SILENCE_END (R295). The 1 s silence ends and an ECU_SILENCE record is appended, or a new silence follows. -/
  | ecuSilenceEnd (t : Nat)
  /-- CAN_WAKE (R92). A dominant edge on CAN_RX wakes the device or powers the CAN island. -/
  | canWake (t : Nat)
  /-- CAN_BUS_OFF_RECOVERY (R291). After 128 occurrences of 11 recessive bits the CAN controller leaves bus-off. -/
  | canBusOffRecovery (t : Nat)
  /-- START_HOLD_EXPIRY (R289). HOLD_S of TIMEBASE since the last GRANT ends the start permission with reason 3. -/
  | startHoldExpiry (t : Nat)
  /-- STARTEN_TICK (R405). At each 0.5 ms grid tick, STARTEN channels 29 and 30 set, toggle or clear the STARTEN lines. -/
  | startenTick (t : Nat)
  /-- FLK_START_DISABLE (R289). A write of FLK_START_CTL.EN = 0 ends any start permission with reason 7 and releases the channels. -/
  | flkStartDisable (t : Nat) (v : Word)
  /-- PTIME_ADVANCE (R280). Every 38,400,000 ticks of TIMEBASE, PTIME advances by one credited second. -/
  | ptimeAdvance (t : Nat)
  /-- PINFOLD_EXPIRY (R282). PTIME reaches the end of an engagement; the own pinfold ends with a PINFOLD_EXIT record. -/
  | pinfoldExpiry (t : Nat)
  /-- PINFOLD_RECORD_PERIODIC (R284). Every 10 s of PTIME while an entry is in use, the pinfold record is written. -/
  | pinfoldRecordPeriodic (t : Nat)
  /-- WALL_CLOCK_STORE (R133). Once per 600 s of TIMEBASE, the wall clock is stored as a dual-copy record. -/
  | wallClockStore (t : Nat)
  /-- BELLWETHER_POLL (R272). During a BELLWETHER learn, Drover submits an LF_POLL of BW_FOLD every 2.0 s. -/
  | bellwetherPoll (t : Nat)
  /-- BELLWETHER_TIMEOUT (R272). No qualifying Bellwether answer within 60 s; the learn completes with NO_RESPONSE. -/
  | bellwetherTimeout (t : Nat)
  /-- TIMER_COMPARE_MATCH (R391). A COMPARE or PERIODIC channel matches its compare value, applies its action and re-arms or disarms. -/
  | timerCompareMatch (t : Nat) (n : Nat) (credit : Bool)
  /-- TIMER_OVERFLOW (R394). TIMEBASE[31:0] wraps through 0 and every active channel applies its overflow action. -/
  | timerOverflow (t : Nat) (credit : Bool)
  /-- TIMER_CAPTURE_PAIR (R396). A capture channel accepts the second edge of a pair and latches its timestamps and width. -/
  | timerCapturePair (t : Nat) (n : Nat) (first : Nat) (second : Nat) (credit : Bool)
  /-- GPIO_PULSE_END (R403). A verdict-output pulse reaches its WIDTH and the pin returns to IDLE. -/
  | gpioPulseEnd (t : Nat) (pin : Nat)
  /-- RNG_STEEP_PASS (R330). The Steep completes its tests and conditioning, instantiates the DRBG and serves waiting requests. -/
  | rngSteepPass (t : Nat) (o : RngObs)
  /-- RNG_HEALTH_FAIL (R331). A health test fails; waiting requests fail, state is zeroised and a new Steep starts unless the RNG latches off. -/
  | rngHealthFail (t : Nat) (test : Nat) (value : Nat) (o : RngObs)
  /-- RNG_FAILS_CLEAR (R332). After 2^22 samples pass following a Steep, FAILS returns to 0. -/
  | rngFailsClear (t : Nat) (o : RngObs)
  /-- RNG_POOL_REFILL (R325). The Infuser refills the empty spare seed pool from 1536 raw bits. -/
  | rngPoolRefill (t : Nat)
  /-- RNG_RESEED (R334). After 2^16 generate requests, the DRBG reseeds from the pool once it is full. -/
  | rngReseed (t : Nat)
  /-- RNG_ESTIMATOR_WINDOW (R327). A 65,536-sample estimator window completes and its bias and correlation values are held. -/
  | rngEstimatorWindow (t : Nat) (bias : Int) (c1 : Int) (c2 : Int) (c3 : Int) (c4 : Int) (o : RngObs)
  /-- RNG_WAIT_TIMEOUT (R335). An RNG_GET waiting in Steep or Resteep reaches its TIMEOUT and completes with NOT_READY_ENTROPY or HEALTH_FAIL. -/
  | rngWaitTimeout (t : Nat)
  /-- CRYPT_QUEUE_TIMEOUT (R315). A CRYPT or KEY_ descriptor that waited its TIMEOUT for the message-engine queue completes with BUSY_RETRY. -/
  | cryptQueueTimeout (t : Nat) (d : Desc)
  /-- PKE_WAIT_TIMEOUT (R318). A PKE_VERIFY waiting longer than its TIMEOUT for the PKE unit completes with BUSY_RETRY. -/
  | pkeWaitTimeout (t : Nat) (d : Desc)
  /-- STEEP_WAIT_TIMEOUT (R320). PKE_SIGN, LIFECYCLE CHALLENGE or LEDGER_ATTEST waiting for the Steep beyond TIMEOUT gives NOT_READY_ENTROPY. -/
  | steepWaitTimeout (t : Nat)
  /-- BARRIER_TIMEOUT (R175). A BARRIER or RESET wait beyond TIMEOUT completes with BUSY_RETRY. -/
  | barrierTimeout (t : Nat)
  /-- LEDGER_APPEND_WAIT_TIMEOUT (R351). A host append that finds the recall buffer full waits its TIMEOUT and completes with BUSY_RETRY. -/
  | ledgerAppendWaitTimeout (t : Nat)
  /-- LEDGER_SEAL_TIMER (R369). SEAL_S seconds after a block's first record, the open block is sealed with TIMED. -/
  | ledgerSealTimer (t : Nat)
  /-- LEDGER_CHECKPOINT (R378). Drover makes a pending signed checkpoint over 4096 sealed blocks, stores it and appends a CHECKPOINT record. -/
  | ledgerCheckpoint (t : Nat)
  /-- FOLD_TREE_LIVE (R168). A validated staging copy becomes the live tree when the fold engine is next idle. -/
  | foldTreeLive (t : Nat)
  /-- FLD_APPLY (R167). A write of FLD_CTL.APPLY validates the staging copy of the fold tree. -/
  | fldApply (t : Nat) (v : Word)
  /-- FLD_COMMIT (R169). A write of FLD_CTL.COMMIT stores the live tree and retirement state. -/
  | fldCommit (t : Nat) (v : Word)
  /-- FLD_DISCARD (R181). A write of FLD_CTL.DISCARD copies the live tree into the staging copy. -/
  | fldDiscard (t : Nat) (v : Word)
  /-- LFE_COMMIT (R163). A write of LFE_CTL.COMMIT stores the LF engine set-up as one dual-copy record. -/
  | lfeCommit (t : Nat) (v : Word)
  /-- UHF_COMMIT (R223). A write of UHF_CTL.COMMIT stores the UHF set-up and applied calibration results. -/
  | uhfCommit (t : Nat) (v : Word)
  /-- UWB_COMMIT (R245). A write of UWB_CTL.COMMIT stores the UWB set-up and calibration results. -/
  | uwbCommit (t : Nat) (v : Word)
  /-- VRD_ACT_RULES (R263). A write of VRD_CTL.ACT_RULES activates the staged rule set at the next trigger. -/
  | vrdActRules (t : Nat) (v : Word)
  /-- VRD_ACT_MAP (R263). A write of VRD_CTL.ACT_MAP activates the staged map at the next trigger. -/
  | vrdActMap (t : Nat) (v : Word)
  /-- VRD_COMMIT (R266). A write of VRD_CTL.COMMIT stores EVT, MARGIN and MAC_DUMMY. -/
  | vrdCommit (t : Nat) (v : Word)
  /-- FLK_COMMIT (R298). A write of FLK_CTL.COMMIT stores the flock, STARTEN and CAN set-up. -/
  | flkCommit (t : Nat) (v : Word)
  /-- CRY_COMMIT (R323). A write of CRY_CTL.COMMIT stores DUMMY_MAX. -/
  | cryCommit (t : Nat) (v : Word)
  /-- LGR_COMMIT (R387). A write of LGR_CTL.COMMIT stores EVT, FULL_WARN and SEAL_S. -/
  | lgrCommit (t : Nat) (v : Word)
  /-- TMR_COMMIT (R406). A write of TMR_CTL.COMMIT stores the pin functions. -/
  | tmrCommit (t : Nat) (v : Word)
  /-- LCY_COMMIT (R426). A write of LCY_CTL.COMMIT stores SVC_MAX. -/
  | lcyCommit (t : Nat) (v : Word)
  /-- MON_CTL_WRITE (R426). A write to MON_CTL.BAUD or IDLE_S takes effect and stores MON_CTL. -/
  | monCtlWrite (t : Nat) (v : Word)
  /-- TMR_PINF_WRITE (R403). A write to TMR_PINFn changes GPIO functions at the next evaluated tick, ending pulses or the monitor as needed. -/
  | tmrPinfWrite (t : Nat) (n : Nat) (v : Word)
  /-- RNG_TEST_SRC_WRITE (R337). A write of RNG_CTL.TEST_SRC in Blank switches to the test pattern and starts a new Steep. -/
  | rngTestSrcWrite (t : Nat) (v : Word)
  /-- CLK_SHADOW_WRITE (R80). A write to CLK_GAP_CTL or CLK_WATCH_CTL goes to a shadow applied at the next entry into Pen, Watch or Fallow. -/
  | clkShadowWrite (t : Nat) (off : Nat) (v : Word)
  /-- CLK_CNT_CLR (R80). A write to CLK_CNT_CLR clears the selected clock counters. -/
  | clkCntClr (t : Nat) (v : Word)
  /-- HIF_CNT_CLR (R108). A write to HIF_CNT_CLR clears the violation counters or the Drover queue statistics. -/
  | hifCntClr (t : Nat) (v : Word)
  /-- LFE_CNT_CLR (R163). A write to LFE_CNT_CLR clears LFE_CNT. -/
  | lfeCntClr (t : Nat) (v : Word)
  /-- FLD_CNT_CLR (R181). A write to FLD_CNT_CLR clears FLD_CNT. -/
  | fldCntClr (t : Nat) (v : Word)
  /-- UHF_CNT_CLR (R223). A write to UHF_CNT_CLR clears the Obane or coexistence counters. -/
  | uhfCntClr (t : Nat) (v : Word)
  /-- UWB_CNT_CLR (R245). A write to UWB_CNT_CLR clears UWB_CNT0 and UWB_CNT1. -/
  | uwbCntClr (t : Nat) (v : Word)
  /-- VRD_CNT_CLR (R266). A write to VRD_CNT_CLR clears the verdict counters or the path timing maxima. -/
  | vrdCntClr (t : Nat) (v : Word)
  /-- FLK_CNT_CLR (R298). A write to FLK_CNT_CLR clears the selected flock, coil, ECU or pinfold counters. -/
  | flkCntClr (t : Nat) (v : Word)
  /-- CRY_CNT_CLR (R323). A write to CRY_CNT_CLR clears the cipher and PKE counters. -/
  | cryCntClr (t : Nat) (v : Word)
  /-- RNG_CNT_CLR (R338). A write to RNG_CNT_CLR clears RNG_CNT0 and RNG_RESEED_CNT. -/
  | rngCntClr (t : Nat) (v : Word)
  /-- NVS_CNT_CLR (R364). A write to NVS_CNT_CLR clears the selected NV store counters. -/
  | nvsCntClr (t : Nat) (v : Word)
  /-- LGR_CNT_CLR (R387). A write to LGR_CNT_CLR clears LGR_CNT0-2. -/
  | lgrCntClr (t : Nat) (v : Word)
  /-- TMR_CNT_CLR (R406). A write to TMR_CNT_CLR clears TMR_CNT. -/
  | tmrCntClr (t : Nat) (v : Word)
  /-- LCY_CNT_CLR (R426). A write to LCY_CNT_CLR clears LCY_CNT. -/
  | lcyCntClr (t : Nat) (v : Word)
  /-- MON_CNT_CLR (R426). A write to MON_CNT_CLR clears MON_CNT. -/
  | monCntClr (t : Nat) (v : Word)
  /-- REGISTER_WRITE (R7). A write to a register field with no behaviour of its own sets its value, or is held, discarded or flagged ERR_RANGE. -/
  | registerWrite (t : Nat) (a : BarAccess) (v : Word)
  /-- SERVICE_TIMEOUT (R409). SVC_MAX minutes after entry into Service, the device returns to Field. -/
  | serviceTimeout (t : Nat)
  /-- LIFECYCLE_NONCE_EXPIRY (R412). A CHALLENGE nonce expires 300 s of TIMEBASE after its issue. -/
  | lifecycleNonceExpiry (t : Nat)
  /-- MON_INFO (R423). Monitor INFO prints part, revision, DSN, lifecycle state, banks and MINVER. -/
  | monInfo (t : Nat)
  /-- MON_RD (R423). Monitor RD reads 1-64 BAR0 words through the BAR0 mirror. -/
  | monRd (t : Nat) (addr : Nat) (count : Nat)
  /-- MON_WR (R423). Monitor WR writes one BAR0 word through the mirror, refusing LCY_ and MON_ words. -/
  | monWr (t : Nat) (addr : Nat) (value : Word)
  /-- MON_BUF (R423). Monitor BUF reads or writes the monitor's 4 KiB buffer. -/
  | monBuf (t : Nat) (off : Nat) (bs : Bytes)
  /-- MON_DESC (R423). Monitor DESC submits a descriptor on the Drover port and prints its completion. -/
  | monDesc (t : Nat) (bs : Bytes)
  /-- MON_FOLDS (R423). Monitor FOLDS prints a fold snapshot of a node or of every top fold. -/
  | monFolds (t : Nat) (node : Option Nat)
  /-- MON_LEDGER (R423). Monitor LEDGER prints 1-16 ledger blocks. -/
  | monLedger (t : Nat) (q : Nat) (count : Nat)
  /-- MON_RNG (R423). Monitor RNG prints the RNG_STAT result. -/
  | monRng (t : Nat) (o : RngObs)
  /-- MON_TB (R423). Monitor TB prints TIMEBASE, the wall clock and PTIME. -/
  | monTb (t : Nat)
  /-- MON_EVT (R423). Monitor EVT turns the echo of events on or off. -/
  | monEvt (t : Nat) (on : Bool)
  /-- MON_BAUD (R423). Monitor BAUD sets MON_CTL.BAUD after the answer line. -/
  | monBaud (t : Nat) (code : Nat)
  /-- MON_UNLOCK_NONCE (R425). Monitor UNLOCK without an argument prints a fresh nonce valid for 60 s and one attempt. -/
  | monUnlockNonce (t : Nat)
  /-- MON_UNLOCK (R425). Monitor UNLOCK with a signature unlocks the monitor if it verifies under the fleet key. -/
  | monUnlock (t : Nat) (sig : Bytes)
  /-- MON_LOCK (R425). Monitor LOCK ends an unlock. -/
  | monLock (t : Nat)
  /-- MON_IDLE_TIMEOUT (R425). An unlock ends after MON_CTL.IDLE_S with no command. -/
  | monIdleTimeout (t : Nat)
  /-- MON_LOCKOUT_END (R425). The 300 s lockout after three failed unlocks ends. -/
  | monLockoutEnd (t : Nat)
  /-- SYNC_DETECTED (R190). A SYNC completes on a UHF Obane channel; it is accepted inside its window, marks a collision if a frame is already being received, or counts as a position violation. -/
  | syncDetected (t : Nat) (ch : Nat)
  /-- UHF_RX_FRAME_DETECTED (R221). A frame whose sync and RSSI pass is received during a host UHF_RX, writing its record and counting toward MAXFRAMES. -/
  | uhfRxFrameDetected (t : Nat) (f : UhfFrame)
  /-- PROBE_ANS_FRAME (R296). A PROBE_ANS frame from the ECU arrives on the new BASE and its MAC is checked for the pairing probe. -/
  | probeAnsFrame (t : Nat) (f : EcuFrame)
  /-- PROBE_ANS_TIMEOUT (R296). No PROBE_ANS arrives within 200 ms of PROBE, so the pairing ends with NO_RESPONSE. -/
  | probeAnsTimeout (t : Nat)
  /-- MSIX_VECTOR_UNMASK (R130). Unmasking a vector, or enabling MSI-X, sends the message whose pending bit was set while it was masked. -/
  | msixVectorUnmask (t : Nat) (n : Nat) (en : Bool)
  /-- FALLOW_EDGE_DETECTOR_ARM (R56). In Fallow, once REFCLK has been quiet for 13 µs on the delay line, the edge detector arms so that the next rising edge starts an exit. -/
  | fallowEdgeDetectorArm (t : Nat)
  /-- QUALIFICATION_COUNT_START (R61). The first rising edge of new content after a stop in Watch, or after a rule-breaking period, starts or restarts the qualification count and sets QUAL_BUSY. -/
  | qualificationCountStart (t : Nat)
  /-- MON_UNKNOWN_COMMAND (R423). A monitor line whose command is not in Table 18.12 is answered with ERR 01 and the prompt. -/
  | monUnknownCommand (t : Nat)
  deriving DecidableEq, Repr

end Sys2Proof
end

