-- ==== Sys2Proof/WellFormed.lean ====
section
/-! DEFINITION. WellFormed.lean: the operands that a command can have: fields of the widths the spec gives them, and the
numbers of pairs, pins, channels and entries that exist. Every meaning answers for every operand; these checks say which
commands the outside world can give. -/
namespace Sys2Proof

/-- Number `n` fits `w` bits. -/
def fits (w n : Nat) : Bool := decide (n < 2 ^ w)

/-- Number `n` is below `k`. -/
def below (k n : Nat) : Bool := decide (n < k)

/-- A source that exists: pairs 0 to 31 (R109). -/
def Source.wf : Source → Bool
  | .host n => decide (n < 32)
  | .drover | .monitor => true

/-- A descriptor whose fields have the widths of Table 05.6. -/
def Desc.wf (d : Desc) : Bool :=
  d.src.wf && fits 12 d.idx && fits 8 d.opcode && fits 8 d.flags && fits 16 d.tag && fits 32 d.target && fits 32 d.len
    && fits 16 d.timeout && fits 16 d.rsv && fits 64 d.srcAddr && fits 64 d.dstAddr && decide (d.par.length = 24)
    && fits 64 d.atTb

/-- Counts of the noise source (Table 14.5). -/
def RngObs.wf (o : RngObs) : Bool := fits 64 o.tested && fits 8 o.rctMax && decide (o.aptMax ≤ 1024)

/-- A gap of a clock that has a period (R68). -/
def Gap.wf (g : Gap) : Bool := decide (0 < g.period) && fits 64 g.fall

/-- A wake trigger that exists. -/
def WakeSrc.wf : WakeSrc → Bool
  | .pin n => decide (n < 8)
  | .attention | .refclk | .perst | .pcie | .sched | .can => true

/-- A CAN frame: an identifier of its width and at most 64 data bytes (R291). -/
def EcuFrame.wf (f : EcuFrame) : Bool := fits (if f.xtd then 29 else 11) f.id && decide (f.data.length ≤ 64)

/-- An answer frame of 28 payload bytes and its CRC on channel 0 or 1 (R189). -/
def ObaneFrame.wf (f : ObaneFrame) : Bool := decide (f.ch < 2) && decide (f.bytes.length = 30)

/-- A frame on profile 0 or 1, of at most 255 payload bytes with its length byte and CRC (R221). -/
def UhfFrame.wf (f : UhfFrame) : Bool := decide (f.ch < 2) && fits 64 f.tb && decide (f.bytes.length ≤ 258)

/-- A measured quality is a percentage, and a PSDU has at most 127 bytes. -/
def UwbReply.wf (f : UwbReply) : Bool := decide (f.stsq ≤ 100) && decide (f.psdu.length ≤ 127)

/-- As for a Response. -/
def UwbReport.wf (f : UwbReport) : Bool := decide (f.stsq ≤ 100) && decide (f.psdu.length ≤ 127)

/-- Results that fit their registers (Table 09.6). -/
def UhfMeas.wf (m : UhfMeas) : Bool := fits 8 m.irr && fits 16 m.filt && fits 8 m.dc

/-- Results that fit their report (Table 10.6). -/
def UwbMeas.wf (m : UwbMeas) : Bool := fits 8 m.irr && decide (m.stsq ≤ 100) && fits 16 m.sd

/-- A ring-down of a leaf: its periods have a length (R148). -/
def RingMeas.wf (m : RingMeas) : Bool := decide (m.node < 0x94) && m.periods.all (fun p => decide (0 < p.len))

/-- A sensed channel (Table 06.13). -/
def SenseMeas.wf (m : SenseMeas) : Bool := decide (m.ch < 128) && fits 12 m.peak && fits 12 m.rms

/-- A command that the outside world can give. -/
def Instr.wf (i : Instr) : Bool :=
  match i with
  | .nopFence t d | .powerHint t d | .timeSetNow t d | .timeSetAtEpoch t d | .timeSetCancel t d | .eventRoute t d
  | .lfPoll t d | .lfDiagRing t d | .lfDiagApply t d | .lfListen t d | .foldBarrier t d | .foldBroadcast t d
  | .foldSnapshot t d | .foldReset t d | .foldRetire t d | .foldAdopt t d | .vrdRulesLoad t d | .vrdMapLoad t d
  | .vrdEval t d | .flockLearn t d | .flockStatusSlot t d | .flockStatusPin t d | .flockStatusShorten t d
  | .immoPair t d | .immoPairStepCmac t d | .immoPairStepProbe t d | .immoPairStepInstall t d | .startRevoke t d
  | .cryptEcb t d | .cryptCbc t d | .cryptCtr t d | .cryptGcm t d | .cryptCcm t d | .cryptCmac t d | .cryptKw t d
  | .cryptStage t d | .keyUnwrap t d | .keyImport t d | .keyUnwrapPairing t d | .keyDerive t d | .keyClear t d
  | .pkeSignMessage t d | .pkeSignDigest t d | .pkeSignLedger t d | .pkeVerify t d | .rngGet t d | .nvRead t d
  | .nvWrite t d | .nvWriteFwChunk t d | .nvWriteOtp t d | .nvWriteDeviceRecord t d | .tallyInc t d | .tallyRead t d
  | .ledgerAppend t d | .ledgerReadBlocks t d | .ledgerReadStatements t d | .ledgerSeal t d | .ledgerAttest t d
  | .ledgerRelease t d | .timerCfg t d | .timerRead t d | .fwStage t d | .fwActivateTrial t d
  | .fwActivateConfirm t d | .fwActivateRevert t d | .lifecycleChallenge t d | .lifecycleAdvance t d
  | .lifecycleFleetKey t d | .lifecycleOtpK t d | .cryptQueueTimeout t d | .pkeWaitTimeout t d =>
    fits 64 t && d.wf
  | .foldBroadcastTick t | .uhfTxEnd t | .uhfRxEnd t | .backlogDelivery t | .powerOnReset t | .resetNLow t
  | .systemReset t | .resetNPulseRejected t | .powerStateEntry t | .fallowEntry t | .perstNDeassert t | .pmeTurnOff t
  | .pmeToAck t | .pcieTlpWake t | .droverWatchdogExpiry t | .droverBoot t | .fwReady t | .fwTrialTimeout t
  | .nvRecall t | .configurationLoad t | .scrubPass t | .pollStart t | .responseWindowOpen t | .responseWindowClose t
  | .lfQueueTimeout t | .verdictPass t | .uwbExchangeStart t | .uwbReplyTimeout t | .rangeResultArrival t
  | .uhfRadioIdleSleep t | .uwbRadioIdleSleep t | .coexGrant t | .coexTimeout t | .coexGrantWithdrawn t
  | .ecuSilenceEnd t | .canWake t | .canBusOffRecovery t | .startHoldExpiry t | .startenTick t | .ptimeAdvance t
  | .pinfoldExpiry t | .pinfoldRecordPeriodic t | .wallClockStore t | .bellwetherPoll t | .bellwetherTimeout t
  | .rngPoolRefill t | .rngReseed t | .rngWaitTimeout t | .steepWaitTimeout t | .barrierTimeout t
  | .ledgerAppendWaitTimeout t | .ledgerSealTimer t | .ledgerCheckpoint t | .foldTreeLive t | .serviceTimeout t
  | .lifecycleNonceExpiry t | .monInfo t | .monTb t | .monUnlockNonce t | .monLock t | .monIdleTimeout t
  | .monLockoutEnd t | .probeAnsTimeout t | .fallowEdgeDetectorArm t | .qualificationCountStart t
  | .monUnknownCommand t =>
    fits 64 t
  | .uhfTx t d _ | .uhfRx t d _ | .uwbRange t d _ =>
    fits 64 t && d.wf
  | .lfCal t d tag =>
    fits 64 t && d.wf && fits 16 tag
  | .uhfCal t d m =>
    fits 64 t && d.wf && m.wf
  | .uwbCal t d m _ =>
    fits 64 t && d.wf && below 5 m.length && m.all UwbMeas.wf
  | .rngStat t d o =>
    fits 64 t && d.wf && o.wf
  | .descriptorDispatch t n | .sqFetchError t n | .qpQuiesced t n | .msixCoalesceTimeout t n =>
    fits 64 t && below 32 n
  | .sqTailDoorbell t n _ | .cqHeadDoorbell t n _ | .qpEnable t n _ | .qpDisable t n _ | .timerCompareMatch t n _ =>
    fits 64 t && below 32 n
  | .hifCtlEnWrite t _ | .busMasterEnableChange t _ | .d3hotTransition t _ | .clockLoss t _ | .refclkStop t _
  | .pwrSchedCommit t _ | .perstNAssert t _ | .pwrIslandRst t _ | .uhfWindowPrepare t _ | .uwbPrewarm t _
  | .flkStartDisable t _ | .timerOverflow t _ | .fldApply t _ | .fldCommit t _ | .fldDiscard t _ | .lfeCommit t _
  | .uhfCommit t _ | .uwbCommit t _ | .vrdActRules t _ | .vrdActMap t _ | .vrdCommit t _ | .flkCommit t _
  | .cryCommit t _ | .lgrCommit t _ | .tmrCommit t _ | .lcyCommit t _ | .monCtlWrite t _ | .rngTestSrcWrite t _
  | .clkCntClr t _ | .hifCntClr t _ | .lfeCntClr t _ | .fldCntClr t _ | .uhfCntClr t _ | .uwbCntClr t _
  | .vrdCntClr t _ | .flkCntClr t _ | .cryCntClr t _ | .rngCntClr t _ | .nvsCntClr t _ | .lgrCntClr t _
  | .tmrCntClr t _ | .lcyCntClr t _ | .monCntClr t _ | .monEvt t _ =>
    fits 64 t
  | .porRelease t straps _ =>
    fits 64 t && below 16 straps
  | .systemResetRelease t vhold vaon | .brownOutRelease t vhold vaon | .vholdMeasure t vhold vaon =>
    fits 64 t && below 1000 vhold && below 1000 vaon
  | .brownOut t written _ =>
    fits 64 t && below 65 written
  | .refclkQualified t freq | .clockLossRecovery t freq =>
    fits 64 t && fits 23 freq
  | .secondMark t g | .epochMark t g | .attentionMark t g | .gapViolation t g =>
    fits 64 t && g.wf
  | .wakePinEvent t e =>
    fits 64 t && below 8 e.pin
  | .scheduledPollDue t e =>
    fits 64 t && below 16 e
  | .pwrSchedEnable t off _ | .clkShadowWrite t off _ =>
    fits 64 t && below 0x4000 off
  | .wakeExit t w =>
    fits 64 t && w.wf
  | .fallowExit t w freq =>
    fits 64 t && w.wf && fits 23 freq
  | .linkStateChange t _ speed width =>
    fits 64 t && below 4 speed && below 3 width
  | .islandHang t isl =>
    fits 64 t && below 13 isl
  | .driveSequenceEnd t r | .lfDiagRoundEnd t r =>
    fits 64 t && r.all RingMeas.wf
  | .foreignFieldWindowEnd t m | .lfListenWindowEnd t m =>
    fits 64 t && m.all SenseMeas.wf
  | .obaneAnswerFrame t f | .uwbResponseFrame t f | .uwbReportFrame t f | .ecuChallenge t f | .ecuViolation t f
  | .uhfRxFrameDetected t f | .probeAnsFrame t f =>
    fits 64 t && f.wf
  | .uhfBgCal t irr dc _ =>
    fits 64 t && below 256 irr && below 256 dc
  | .uwbBgCal t irr _ =>
    fits 64 t && below 256 irr
  | .coilExchangeStart t coil pct _ =>
    fits 64 t && below 4 coil && below 1000 pct
  | .coilUplinkFrame t coil bs =>
    fits 64 t && below 4 coil && below 33 bs.length
  | .coilAttemptTimeout t coil =>
    fits 64 t && below 4 coil
  | .timerCapturePair t n first second _ =>
    fits 64 t && below 32 n && fits 64 first && fits 64 second
  | .gpioPulseEnd t pin =>
    fits 64 t && below 24 pin
  | .rngSteepPass t o | .rngFailsClear t o | .monRng t o =>
    fits 64 t && o.wf
  | .rngHealthFail t test value o =>
    fits 64 t && below 4 test && fits 16 value && o.wf
  | .rngEstimatorWindow t _ _ _ _ _ o =>
    fits 64 t && o.wf
  | .tmrPinfWrite t n _ =>
    fits 64 t && below 6 n
  | .registerWrite t a _ =>
    fits 64 t && below 0x11000 a.off && below 9 a.size
  | .monRd t addr count =>
    fits 64 t && below 0x4000 addr && below 65 count
  | .monWr t addr _ =>
    fits 64 t && below 0x4000 addr
  | .monBuf t off bs =>
    fits 64 t && below 4096 off && below 65 bs.length
  | .monDesc t bs =>
    fits 64 t && decide (bs.length = 64)
  | .monFolds t node =>
    fits 64 t && below 0x200 (node.getD 0)
  | .monLedger t q count =>
    fits 64 t && fits 32 q && below 17 count
  | .monBaud t code =>
    fits 64 t && below 7 code
  | .monUnlock t sig =>
    fits 64 t && decide (sig.length = 64)
  | .syncDetected t ch =>
    fits 64 t && below 2 ch
  | .msixVectorUnmask t n _ =>
    fits 64 t && below 34 n

end Sys2Proof
end

