-- ==== Sys2Proof/Decode.lean ====
section
/-! DEFINITION. Decode.lean: commands from table words. No row of spec/opcode_table.json gives bits (every "fields" is
empty): a command of this block is a register access, a descriptor in memory, a frame or a pin event, and no word spells
one. -/
namespace Sys2Proof

/-- The command that a word of the table's bits spells: none, since no row gives bits. -/
def decodeTableWord (_nbits _w : Nat) : Option Instr := none

end Sys2Proof
end

