-- ==== Sys2Proof/Machine/Bits.lean ====
section
/-! DEFINITION. Machine/Bits.lean: byte-order, bit-field and two's-complement helpers (R4, R5). -/
namespace Sys2Proof.Machine

/-- The byte holding `n` modulo 256. -/
def byteOf (n : Nat) : Byte := BitVec.ofNat 8 n

/-- `k` little-endian bytes of `n` (R5). -/
def leBytes : Nat → Nat → Bytes
  | 0, _ => []
  | k + 1, n => byteOf n :: leBytes k (n / 256)

/-- The number that little-endian bytes spell (R5). -/
def leNat : Bytes → Nat
  | [] => 0
  | b :: bs => b.toNat + 256 * leNat bs

/-- `k` big-endian bytes of `n`. -/
def beBytes (k n : Nat) : Bytes := (leBytes k n).reverse

/-- The number that big-endian bytes spell. -/
def beNat (bs : Bytes) : Nat := leNat bs.reverse

/-- `len` bytes of `bs` from `off`, zero beyond its end. -/
def slice (off len : Nat) (bs : Bytes) : Bytes :=
  let x := (bs.drop off).take len
  x ++ List.replicate (len - x.length) 0

/-- Little-endian number at bytes `off` to `off + len - 1`. -/
def leAt (off len : Nat) (bs : Bytes) : Nat := leNat (slice off len bs)

/-- Byte `i` of `bs` as a number, 0 beyond its end. -/
def byteAt (i : Nat) (bs : Bytes) : Nat := (bs.getD i 0).toNat

/-- Bits `hi` down to `lo` of `n` (R4). -/
def bits (hi lo n : Nat) : Nat := n / 2 ^ lo % 2 ^ (hi + 1 - lo)

/-- Bit `i` of `n`. -/
def bit (i n : Nat) : Bool := n / 2 ^ i % 2 == 1

/-- 1 for true and 0 for false. -/
def b2n (b : Bool) : Nat := if b then 1 else 0

/-- The number whose low `n` bits are `f 0` to `f (n - 1)`. -/
def packBits (n : Nat) (f : Nat → Bool) : Nat := (List.range n).foldl (fun w i => w + 2 ^ i * b2n (f i)) 0

/-- The signed value of the low `w` bits of `n`. -/
def signed (w n : Nat) : Int :=
  let m := n % 2 ^ w
  if m < 2 ^ (w - 1) then (m : Int) else (m : Int) - (2 ^ w : Nat)

/-- `z` as `w` bits of two's complement, clamped to the signed range. -/
def encSigned (w : Nat) (z : Int) : Nat :=
  let hi : Int := (2 ^ (w - 1) : Nat) - 1
  let lo : Int := - (2 ^ (w - 1) : Nat)
  let c := if z > hi then hi else if z < lo then lo else z
  (c % (2 ^ w : Nat)).toNat

/-- `n` saturated at the largest value of `w` bits. -/
def sat (w n : Nat) : Nat := min n (2 ^ w - 1)

/-- `n` rounded up to a multiple of `m`, counted in units of `m`. -/
def ceilDiv (n m : Nat) : Nat := (n + m - 1) / m

/-- The first `n` bytes of `bs`, padded with zeros to `n`. -/
def fit (n : Nat) (bs : Bytes) : Bytes := slice 0 n bs

/-- XOR of two byte lists over the shorter length. -/
def xorBytes (a b : Bytes) : Bytes := List.zipWith (· ^^^ ·) a b

/-- All bytes zero. -/
def allZero (bs : Bytes) : Bool := bs.all (· == 0)

/-- Replaces entry `i` of a list. -/
def upd {α : Type} (l : List α) (i : Nat) (x : α) : List α := l.set i x

/-- Splits a byte list into pieces of `n` bytes; the last may be shorter. -/
def chunks (n : Nat) (bs : Bytes) : List Bytes :=
  (List.range (ceilDiv bs.length n)).map (fun i => (bs.drop (n * i)).take n)

/-! ## Text of the monitor (R422) -/

/-- A hexadecimal digit. -/
def hexDigit (n : Nat) : Char := Char.ofNat (if n < 10 then 48 + n else 55 + n)

/-- `n` as `w` hexadecimal digits. -/
def hexNat (w n : Nat) : String := String.ofList ((List.range w).map (fun i => hexDigit (n / 16 ^ (w - 1 - i) % 16)))

/-- Bytes in hexadecimal, in order. -/
def hexBytes (bs : Bytes) : String := String.join (bs.map (fun b => hexNat 2 b.toNat))

end Sys2Proof.Machine
end

