-- ==== Sys2Proof/Machine/Aes.lean ====
section
/-! DEFINITION. Machine/Aes.lean: the AES block cipher and the modes the cipher engine gives (R309): ECB, CBC,
CTR, GCM, CCM, CMAC, AES-KW, and the key derivation of R305. PRESUMED: the spec names the algorithms, and their
definitions are those of FIPS 197, SP 800-38A to 38F, SP 800-108 and RFC 4493 (log entry 13). -/
namespace Sys2Proof.Machine

/-- Doubling in GF(2^8) with the AES polynomial. -/
def xtime (b : Nat) : Nat := if b ≥ 128 then Nat.xor (b * 2 % 256) 0x1B else b * 2

/-- Product in GF(2^8), over the low `n` bits of `b`. -/
def gmulN : Nat → Nat → Nat → Nat
  | 0, _, _ => 0
  | n + 1, a, b => Nat.xor (if b % 2 = 1 then a else 0) (gmulN n (xtime a) (b / 2))

/-- Product in GF(2^8). -/
def gmul (a b : Nat) : Nat := gmulN 8 a b

/-- Inverse in GF(2^8) as the power 254; the inverse of 0 is 0. -/
def ginv (a : Nat) : Nat :=
  let a2 := gmul a a
  let a4 := gmul a2 a2
  let a8 := gmul a4 a4
  let a16 := gmul a8 a8
  let a32 := gmul a16 a16
  let a64 := gmul a32 a32
  let a128 := gmul a64 a64
  gmul (gmul (gmul a2 a4) (gmul a8 a16)) (gmul a32 (gmul a64 a128))

/-- Rotation of a byte left by `n`. -/
def rotl8 (n b : Nat) : Nat := (b * 2 ^ n % 256) + b / 2 ^ (8 - n)

/-- The AES S-box by its formula: the inverse, then the affine map. -/
def sboxFormula (a : Nat) : Nat :=
  let b := ginv a
  Nat.xor (Nat.xor (Nat.xor b (rotl8 1 b)) (Nat.xor (rotl8 2 b) (rotl8 3 b))) (Nat.xor (rotl8 4 b) 0x63)

/-- Byte `a` of a table of 16 rows of 16 bytes, each row written as one number with its first byte first. -/
def tableByte (rows : List Nat) (a : Nat) : Nat := rows.getD (a / 16) 0 / 2 ^ (8 * (15 - a % 16)) % 256

/-- The AES S-box as a table (FIPS 197). -/
def sboxRows : List Nat :=
  [0x637C777BF26B6FC53001672BFED7AB76, 0xCA82C97DFA5947F0ADD4A2AF9CA472C0,
   0xB7FD9326363FF7CC34A5E5F171D83115, 0x04C723C31896059A071280E2EB27B275,
   0x09832C1A1B6E5AA0523BD6B329E32F84, 0x53D100ED20FCB15B6ACBBE394A4C58CF,
   0xD0EFAAFB434D338545F9027F503C9FA8, 0x51A3408F929D38F5BCB6DA2110FFF3D2,
   0xCD0C13EC5F974417C4A77E3D645D1973, 0x60814FDC222A908846EEB814DE5E0BDB,
   0xE0323A0A4906245CC2D3AC629195E479, 0xE7C8376D8DD54EA96C56F4EA657AAE08,
   0xBA78252E1CA6B4C6E8DD741F4BBD8B8A, 0x703EB5664803F60E613557B986C11D9E,
   0xE1F8981169D98E949B1E87E9CE5528DF, 0x8CA1890DBFE6426841992D0FB054BB16]

/-- The inverse AES S-box as a table (FIPS 197). -/
def invSboxRows : List Nat :=
  [0x52096AD53036A538BF40A39E81F3D7FB, 0x7CE339829B2FFF87348E4344C4DEE9CB,
   0x547B9432A6C2233DEE4C950B42FAC34E, 0x082EA16628D924B2765BA2496D8BD125,
   0x72F8F66486689816D4A45CCC5D65B692, 0x6C704850FDEDB9DA5E154657A78D9D84,
   0x90D8AB008CBCD30AF7E45805B8B34506, 0xD02C1E8FCA3F0F02C1AFBD0301138A6B,
   0x3A9111414F67DCEA97F2CFCEF0B4E673, 0x96AC7422E7AD3585E2F937E81C75DF6E,
   0x47F11A711D29C5896FB7620EAA18BE1B, 0xFC563E4BC6D279209ADBC0FE78CD5AF4,
   0x1FDDA8338807C731B11210592780EC5F, 0x60517FA919B54A0D2DE57A9F93C99CEF,
   0xA0E03B4DAE2AF5B0C8EBBB3C83539961, 0x172B047EBA77D626E169146355210C7D]

/-- The AES S-box. -/
def sbox (a : Nat) : Nat := tableByte sboxRows a

/-- The inverse AES S-box. -/
def invSbox (a : Nat) : Nat := tableByte invSboxRows a

/-- The table of the S-box holds the values of its formula. -/
theorem sbox_formula : (List.range 256).map sbox = (List.range 256).map sboxFormula := by decide +kernel

/-- The inverse table undoes the S-box. -/
theorem invSbox_sbox : (List.range 256).map (fun a => invSbox (sbox a)) = List.range 256 := by decide +kernel

/-- XOR of two lists of numbers. -/
def xorL (a b : List Nat) : List Nat := List.zipWith Nat.xor a b

/-- Round constant `i`, from 1. -/
def rcon : Nat → Nat
  | 0 => 0
  | 1 => 1
  | i + 1 => xtime (rcon i)

/-- Key schedule words still to make: `ws` is newest first, each word four bytes. -/
def expandN (nk : Nat) : Nat → Nat → List (List Nat) → List (List Nat)
  | 0, _, ws => ws
  | n + 1, i, ws =>
    let prev := ws.getD 0 []
    let old := ws.getD (nk - 1) []
    let t :=
      if i % nk = 0 then
        xorL ((prev.drop 1 ++ prev.take 1).map sbox) [rcon (i / nk), 0, 0, 0]
      else if nk > 6 ∧ i % nk = 4 then prev.map sbox else prev
    expandN nk n (i + 1) (xorL old t :: ws)

/-- Splits a list of numbers into fours. -/
def fours : Nat → List Nat → List (List Nat)
  | 0, _ => []
  | n + 1, l => l.take 4 :: fours n (l.drop 4)

/-- The round keys of an AES key of 16, 24 or 32 bytes, each of 16 numbers. -/
def roundKeys (key : Bytes) : List (List Nat) :=
  let nk := key.length / 4
  let nr := nk + 6
  let w0 := (fours nk (key.map BitVec.toNat)).reverse
  let ws := (expandN nk (4 * (nr + 1) - nk) nk w0).reverse
  (List.range (nr + 1)).map (fun r => ((ws.drop (4 * r)).take 4).flatten)

/-- ShiftRows on 16 bytes in column order. -/
def shiftRows (s : List Nat) : List Nat :=
  (List.range 16).map (fun i => s.getD ((i + 4 * (i % 4)) % 16) 0)

/-- Inverse of ShiftRows. -/
def invShiftRows (s : List Nat) : List Nat :=
  (List.range 16).map (fun i => s.getD ((i + 12 * (i % 4)) % 16) 0)

/-- A column mixed with a circulant row of coefficients, each below 16. -/
def mixCol (m : List Nat) (c : List Nat) : List Nat :=
  (List.range 4).map (fun r =>
    (List.range 4).foldl (fun x k => Nat.xor x (gmulN 4 (c.getD k 0) (m.getD ((k + 4 - r) % 4) 0))) 0)

/-- MixColumns with the given coefficients. -/
def mixCols (m : List Nat) (s : List Nat) : List Nat := ((fours 4 s).map (mixCol m)).flatten

/-- One block encrypted under round keys. -/
def encRounds : List (List Nat) → List Nat → List Nat
  | [], s => s
  | [k], s => xorL (shiftRows (s.map sbox)) k
  | k :: ks, s => encRounds ks (xorL (mixCols [2, 3, 1, 1] (shiftRows (s.map sbox))) k)

/-- One block decrypted under round keys in reverse order. -/
def decRounds : List (List Nat) → List Nat → List Nat
  | [], s => s
  | [k], s => xorL ((invShiftRows s).map invSbox) k
  | k :: ks, s => decRounds ks (mixCols [14, 11, 13, 9] (xorL ((invShiftRows s).map invSbox) k))

/-- AES encryption of one 16-byte block. -/
def aesEnc (key blk : Bytes) : Bytes :=
  let ks := roundKeys key
  (encRounds (ks.drop 1) (xorL (blk.map BitVec.toNat) (ks.getD 0 []))).map byteOf

/-- AES decryption of one 16-byte block. -/
def aesDec (key blk : Bytes) : Bytes :=
  let ks := (roundKeys key).reverse
  (decRounds (ks.drop 1) (xorL (blk.map BitVec.toNat) (ks.getD 0 []))).map byteOf

/-- ECB encryption of whole blocks. -/
def ecbEnc (key bs : Bytes) : Bytes := ((chunks 16 bs).map (aesEnc key)).flatten

/-- ECB decryption of whole blocks. -/
def ecbDec (key bs : Bytes) : Bytes := ((chunks 16 bs).map (aesDec key)).flatten

/-- CBC encryption of whole blocks from an initial vector. -/
def cbcEncL (key : Bytes) : Bytes → List Bytes → Bytes
  | _, [] => []
  | iv, b :: bs => let c := aesEnc key (xorBytes b iv); c ++ cbcEncL key c bs

/-- CBC decryption of whole blocks from an initial vector. -/
def cbcDecL (key : Bytes) : Bytes → List Bytes → Bytes
  | _, [] => []
  | iv, c :: cs => xorBytes (aesDec key c) iv ++ cbcDecL key c cs

/-- PKCS#7 padding to whole blocks. -/
def pkcs7 (bs : Bytes) : Bytes :=
  let p := 16 - bs.length % 16
  bs ++ List.replicate p (byteOf p)

/-- The text before a valid PKCS#7 padding, if the padding is valid. -/
def unpkcs7 (bs : Bytes) : Option Bytes :=
  let p := byteAt (bs.length - 1) bs
  if 1 ≤ p ∧ p ≤ 16 ∧ p ≤ bs.length ∧ (bs.drop (bs.length - p)).all (· == byteOf p) then
    some (bs.take (bs.length - p)) else none

/-- The counter block with its low 32 bits (big-endian) advanced by `n`. -/
def inc32 (blk : Bytes) (n : Nat) : Bytes :=
  blk.take 12 ++ beBytes 4 (beNat (blk.drop 12) + n)

/-- The 128-bit counter block advanced by `n`. -/
def inc128 (blk : Bytes) (n : Nat) : Bytes := beBytes 16 (beNat blk + n)

/-- CTR over `bs` with block `i` of the key stream under `ctr i`. -/
def ctrWith (key : Bytes) (ctr : Nat → Bytes) (bs : Bytes) : Bytes :=
  ((chunks 16 bs).mapIdx (fun i c => xorBytes c (aesEnc key (ctr i)))).flatten

/-- Product in GF(2^128) in GCM's bit order; `x`, `y` are big-endian numbers. -/
def ghashMulN : Nat → Nat → Nat → Nat → Nat
  | 0, _, _, z => z
  | n + 1, x, v, z =>
    let z' := if x / 2 ^ n % 2 = 1 then Nat.xor z v else z
    let v' := if v % 2 = 1 then Nat.xor (v / 2) (0xE1 * 2 ^ 120) else v / 2
    ghashMulN n x v' z'

/-- GHASH of zero-padded blocks. -/
def ghash (h : Nat) (blks : List Bytes) : Nat :=
  blks.foldl (fun y b => ghashMulN 128 (Nat.xor y (beNat (fit 16 b))) h 0) 0

/-- GCM's first counter block for its 12-byte IV (R310). -/
def gcmJ0 (iv : Bytes) : Bytes := fit 12 iv ++ [0, 0, 0, 1]

/-- GCM's 16-byte tag. -/
def gcmTag (key iv aad ct : Bytes) : Bytes :=
  let h := beNat (aesEnc key (List.replicate 16 0))
  let s := ghash h (chunks 16 aad ++ chunks 16 ct ++ [beBytes 8 (8 * aad.length) ++ beBytes 8 (8 * ct.length)])
  xorBytes (beBytes 16 s) (aesEnc key (gcmJ0 iv))

/-- GCM's key-stream encryption or decryption. -/
def gcmCrypt (key iv bs : Bytes) : Bytes := ctrWith key (fun i => inc32 (gcmJ0 iv) (i + 1)) bs

/-- Left shift of a 128-bit number with the CMAC constant. -/
def cmacDbl (n : Nat) : Nat :=
  let m := n * 2 % 2 ^ 128
  if n / 2 ^ 127 % 2 = 1 then Nat.xor m 0x87 else m

/-- The CBC-MAC of whole blocks from a start block. -/
def cbcMac (key : Bytes) (start : Bytes) (blks : List Bytes) : Bytes :=
  blks.foldl (fun x b => aesEnc key (xorBytes x (fit 16 b))) start

/-- AES-CMAC. -/
def cmac (key msg : Bytes) : Bytes :=
  let k1 := cmacDbl (beNat (aesEnc key (List.replicate 16 0)))
  let n := if msg.length = 0 then 1 else ceilDiv msg.length 16
  let head := msg.take (16 * (n - 1))
  let lastB := msg.drop (16 * (n - 1))
  let lastBlk :=
    if lastB.length = 16 then xorBytes lastB (beBytes 16 k1)
    else xorBytes (fit 16 (lastB ++ [0x80])) (beBytes 16 (cmacDbl k1))
  cbcMac key (List.replicate 16 0) (chunks 16 head ++ [lastBlk])

/-- CCM's authentication field before encryption, for tag length `tl` and a nonce of `15 - q` bytes. -/
def ccmMac (key nonce aad pt : Bytes) (tl : Nat) : Bytes :=
  let q := 15 - nonce.length
  let flags := (if aad.length > 0 then 64 else 0) + 8 * ((tl - 2) / 2) + (q - 1)
  let b0 := byteOf flags :: nonce ++ beBytes q pt.length
  let alen := if aad.length = 0 then [] else
    if aad.length < 0xFF00 then beBytes 2 aad.length else [0xFF, 0xFE] ++ beBytes 4 aad.length
  cbcMac key (List.replicate 16 0) (b0 :: chunks 16 (alen ++ aad) ++ chunks 16 pt)

/-- CCM's counter block `i`. -/
def ccmCtr (nonce : Bytes) (i : Nat) : Bytes :=
  byteOf (15 - nonce.length - 1) :: nonce ++ beBytes (15 - nonce.length) i

/-- CCM's key-stream encryption or decryption. -/
def ccmCrypt (key nonce bs : Bytes) : Bytes := ctrWith key (fun i => ccmCtr nonce (i + 1)) bs

/-- CCM's tag of `tl` bytes over plaintext `pt`. -/
def ccmTag (key nonce aad pt : Bytes) (tl : Nat) : Bytes :=
  (xorBytes (ccmMac key nonce aad pt tl) (aesEnc key (ccmCtr nonce 0))).take tl

/-- One forward pass of AES-KW over the registers `rs`. -/
def kwPass (key : Bytes) : Nat → Bytes → List Bytes → Bytes × List Bytes
  | _, a, [] => (a, [])
  | t, a, r :: rs =>
    let b := aesEnc key (a ++ r)
    let a' := xorBytes (b.take 8) (beBytes 8 t)
    let p := kwPass key (t + 1) a' rs
    (p.1, b.drop 8 :: p.2)

/-- `n` forward passes of AES-KW. -/
def kwPasses (key : Bytes) : Nat → Nat → Bytes → List Bytes → Bytes × List Bytes
  | 0, _, a, rs => (a, rs)
  | n + 1, t, a, rs => let p := kwPass key t a rs; kwPasses key n (t + rs.length) p.1 p.2

/-- AES-KW wrap with the default initial value A6 repeated. -/
def kwWrap (key pt : Bytes) : Bytes :=
  let p := kwPasses key 6 1 (List.replicate 8 0xA6) (chunks 8 pt)
  p.1 ++ p.2.flatten

/-- One backward pass of AES-KW over the registers in reverse order, counting down from `t`. -/
def kwUnpass (key : Bytes) : Nat → Bytes → List Bytes → Bytes × List Bytes
  | _, a, [] => (a, [])
  | t, a, r :: rs =>
    let b := aesDec key (xorBytes a (beBytes 8 t) ++ r)
    let p := kwUnpass key (t - 1) (b.take 8) rs
    (p.1, b.drop 8 :: p.2)

/-- `n` backward passes of AES-KW. -/
def kwUnpasses (key : Bytes) : Nat → Nat → Bytes → List Bytes → Bytes × List Bytes
  | 0, _, a, rs => (a, rs)
  | n + 1, t, a, rs => let p := kwUnpass key t a rs; kwUnpasses key n (t - rs.length) p.1 p.2

/-- AES-KW unwrap: the plain text, if the integrity value is right. -/
def kwUnwrap (key ct : Bytes) : Option Bytes :=
  let rs := (chunks 8 (ct.drop 8)).reverse
  let p := kwUnpasses key 6 (6 * rs.length) (ct.take 8) rs
  if p.1 = List.replicate 8 0xA6 then some p.2.reverse.flatten else none

/-- SP 800-108 KDF in counter mode with AES-CMAC as R305 lays it out:
K(i) = CMAC(K, [i]8 ‖ label ‖ 00 ‖ context ‖ [L]16), `bitsN` = L bits in all. -/
def kdf (key label ctx : Bytes) (bitsN : Nat) : Bytes :=
  (((List.range (ceilDiv bitsN 128)).map (fun i =>
    cmac key (beBytes 1 (i + 1) ++ label ++ [0] ++ ctx ++ beBytes 2 bitsN))).flatten).take (bitsN / 8)

end Sys2Proof.Machine
end

