-- ==== Sys2Proof/Machine/Flags.lean ====
section
/-! DEFINITION. Machine/Flags.lean: the place of every field of every register of BAR0, as the register tables of the
spec give it (R7, R108): the status flags, the set-up fields and the counters. Reserved fields have no place here: they
read 0 and ignore writes. -/
namespace Sys2Proof.Machine

/-- A register field: BAR0 offset, lowest bit, width. -/
structure Field where
  /-- BAR0 offset of the register -/
  off : Nat
  /-- lowest bit -/
  lo : Nat
  /-- width in bits -/
  width : Nat
  deriving DecidableEq, Repr

/-- CLK_STATUS (R80, spec/03_clocking.md): Content, PLL lock, marks, loss flags. -/
def CLK_STATUS.reg : Nat := 0x0400
/-- CLK_STATUS [2:0] CONTENT. -/
def CLK_STATUS.CONTENT : Field := ⟨0x0400, 0, 3⟩
/-- CLK_STATUS [3] QUAL_BUSY. -/
def CLK_STATUS.QUAL_BUSY : Field := ⟨0x0400, 3, 1⟩
/-- CLK_STATUS [7:4] PLL_LOCK. -/
def CLK_STATUS.PLL_LOCK : Field := ⟨0x0400, 4, 4⟩
/-- CLK_STATUS [10:8] LAST_MARK. -/
def CLK_STATUS.LAST_MARK : Field := ⟨0x0400, 8, 3⟩
/-- CLK_STATUS [11] EPOCH_PEND. -/
def CLK_STATUS.EPOCH_PEND : Field := ⟨0x0400, 11, 1⟩
/-- CLK_STATUS [14:12] TB_FRAC. -/
def CLK_STATUS.TB_FRAC : Field := ⟨0x0400, 12, 3⟩
/-- CLK_STATUS [15] SHADOW_PEND. -/
def CLK_STATUS.SHADOW_PEND : Field := ⟨0x0400, 15, 1⟩
/-- CLK_STATUS [16] LOST. -/
def CLK_STATUS.LOST : Field := ⟨0x0400, 16, 1⟩
/-- CLK_STATUS [17] STOPPED. -/
def CLK_STATUS.STOPPED : Field := ⟨0x0400, 17, 1⟩
/-- CLK_STATUS [18] FREQ_ERR. -/
def CLK_STATUS.FREQ_ERR : Field := ⟨0x0400, 18, 1⟩
/-- CLK_STATUS [19] UNLOCK. -/
def CLK_STATUS.UNLOCK : Field := ⟨0x0400, 19, 1⟩
/-- CLK_STATUS [20] WALL_STALE. -/
def CLK_STATUS.WALL_STALE : Field := ⟨0x0400, 20, 1⟩
/-- CLK_STATUS [31] ERR_RANGE. -/
def CLK_STATUS.ERR_RANGE : Field := ⟨0x0400, 31, 1⟩
/-- CLK_STRAP (R80, spec/03_clocking.md): Latched straps and effective k. -/
def CLK_STRAP.reg : Nat := 0x0404
/-- CLK_STRAP [3:0] CFG. -/
def CLK_STRAP.CFG : Field := ⟨0x0404, 0, 4⟩
/-- CLK_STRAP [4] SRC. -/
def CLK_STRAP.SRC : Field := ⟨0x0404, 4, 1⟩
/-- CLK_STRAP [12:8] K. -/
def CLK_STRAP.K : Field := ⟨0x0404, 8, 5⟩
/-- CLK_GAP_CTL (R80, spec/03_clocking.md): Mark handling (shadowed). -/
def CLK_GAP_CTL.reg : Nat := 0x0408
/-- CLK_GAP_CTL [0] SEC_EVT. -/
def CLK_GAP_CTL.SEC_EVT : Field := ⟨0x0408, 0, 1⟩
/-- CLK_GAP_CTL [1] EPOCH_EVT. -/
def CLK_GAP_CTL.EPOCH_EVT : Field := ⟨0x0408, 1, 1⟩
/-- CLK_GAP_CTL [2] SEC_DISC. -/
def CLK_GAP_CTL.SEC_DISC : Field := ⟨0x0408, 2, 1⟩
/-- CLK_GAP_CTL [3] VIOL_EVT. -/
def CLK_GAP_CTL.VIOL_EVT : Field := ⟨0x0408, 3, 1⟩
/-- CLK_GAP_CTL [4] ATTN_EN. -/
def CLK_GAP_CTL.ATTN_EN : Field := ⟨0x0408, 4, 1⟩
/-- CLK_GAP_CTL [15:8] SNAP_WIN. -/
def CLK_GAP_CTL.SNAP_WIN : Field := ⟨0x0408, 8, 8⟩
/-- CLK_WATCH_CTL (R80, spec/03_clocking.md): Content policy in Watch (shadowed). -/
def CLK_WATCH_CTL.reg : Nat := 0x040C
/-- CLK_WATCH_CTL [0] SLOW_EN. -/
def CLK_WATCH_CTL.SLOW_EN : Field := ⟨0x040C, 0, 1⟩
/-- CLK_WATCH_CTL [1] FAST_REQ_WAKEN. -/
def CLK_WATCH_CTL.FAST_REQ_WAKEN : Field := ⟨0x040C, 1, 1⟩
/-- CLK_MARK_CNT (R80, spec/03_clocking.md): Valid mark counters. -/
def CLK_MARK_CNT.reg : Nat := 0x0410
/-- CLK_MARK_CNT [15:0] SECOND. -/
def CLK_MARK_CNT.SECOND : Field := ⟨0x0410, 0, 16⟩
/-- CLK_MARK_CNT [23:16] EPOCH. -/
def CLK_MARK_CNT.EPOCH : Field := ⟨0x0410, 16, 8⟩
/-- CLK_MARK_CNT [31:24] ATTENTION. -/
def CLK_MARK_CNT.ATTENTION : Field := ⟨0x0410, 24, 8⟩
/-- CLK_VIOL_CNT (R80, spec/03_clocking.md): Violation counters. -/
def CLK_VIOL_CNT.reg : Nat := 0x0414
/-- CLK_VIOL_CNT [7:0] GAP1. -/
def CLK_VIOL_CNT.GAP1 : Field := ⟨0x0414, 0, 8⟩
/-- CLK_VIOL_CNT [15:8] GAP2. -/
def CLK_VIOL_CNT.GAP2 : Field := ⟨0x0414, 8, 8⟩
/-- CLK_VIOL_CNT [23:16] GAP4_6. -/
def CLK_VIOL_CNT.GAP4_6 : Field := ⟨0x0414, 16, 8⟩
/-- CLK_VIOL_CNT [31:24] OTHER. -/
def CLK_VIOL_CNT.OTHER : Field := ⟨0x0414, 24, 8⟩
/-- CLK_LOSS_CNT (R80, spec/03_clocking.md): Loss and stop counters. -/
def CLK_LOSS_CNT.reg : Nat := 0x0418
/-- CLK_LOSS_CNT [7:0] LOSS. -/
def CLK_LOSS_CNT.LOSS : Field := ⟨0x0418, 0, 8⟩
/-- CLK_LOSS_CNT [15:8] STOPS. -/
def CLK_LOSS_CNT.STOPS : Field := ⟨0x0418, 8, 8⟩
/-- CLK_LOSS_CNT [23:16] FREQ_ERR. -/
def CLK_LOSS_CNT.FREQ_ERR : Field := ⟨0x0418, 16, 8⟩
/-- CLK_LOSS_CNT [31:24] UNLOCK. -/
def CLK_LOSS_CNT.UNLOCK : Field := ⟨0x0418, 24, 8⟩
/-- CLK_MEAS (R80, spec/03_clocking.md): Last frequency measurement. -/
def CLK_MEAS.reg : Nat := 0x041C
/-- CLK_MEAS [22:0] FREQ. -/
def CLK_MEAS.FREQ : Field := ⟨0x041C, 0, 23⟩
/-- CLK_LAST_MARK_LO (R80, spec/03_clocking.md): TIMEBASE of last valid mark, bits [31:0]. -/
def CLK_LAST_MARK_LO.reg : Nat := 0x0420
/-- CLK_LAST_MARK_LO [31:0] TB. -/
def CLK_LAST_MARK_LO.TB : Field := ⟨0x0420, 0, 32⟩
/-- CLK_LAST_MARK_HI (R80, spec/03_clocking.md): Bits [63:32]. -/
def CLK_LAST_MARK_HI.reg : Nat := 0x0424
/-- CLK_LAST_MARK_HI [31:0] TB. -/
def CLK_LAST_MARK_HI.TB : Field := ⟨0x0424, 0, 32⟩
/-- CLK_LOSS_TB_LO (R80, spec/03_clocking.md): TIMEBASE held at the last loss or stop, bits [31:0]. -/
def CLK_LOSS_TB_LO.reg : Nat := 0x0428
/-- CLK_LOSS_TB_LO [31:0] TB. -/
def CLK_LOSS_TB_LO.TB : Field := ⟨0x0428, 0, 32⟩
/-- CLK_LOSS_TB_HI (R80, spec/03_clocking.md): Bits [63:32]. -/
def CLK_LOSS_TB_HI.reg : Nat := 0x042C
/-- CLK_LOSS_TB_HI [31:0] TB. -/
def CLK_LOSS_TB_HI.TB : Field := ⟨0x042C, 0, 32⟩
/-- CLK_CNT_CLR (R80, spec/03_clocking.md): Counter clear. -/
def CLK_CNT_CLR.reg : Nat := 0x0430
/-- CLK_CNT_CLR [0] MARK. -/
def CLK_CNT_CLR.MARK : Field := ⟨0x0430, 0, 1⟩
/-- CLK_CNT_CLR [1] VIOL. -/
def CLK_CNT_CLR.VIOL : Field := ⟨0x0430, 1, 1⟩
/-- CLK_CNT_CLR [2] LOSS. -/
def CLK_CNT_CLR.LOSS : Field := ⟨0x0430, 2, 1⟩
/-- PWR_STATUS (R102, spec/04_power_reset.md): State, target, limit, wake cause. -/
def PWR_STATUS.reg : Nat := 0x0600
/-- PWR_STATUS [2:0] STATE. -/
def PWR_STATUS.STATE : Field := ⟨0x0600, 0, 3⟩
/-- PWR_STATUS [5:3] TARGET. -/
def PWR_STATUS.TARGET : Field := ⟨0x0600, 3, 3⟩
/-- PWR_STATUS [6] POLL_ACTIVE. -/
def PWR_STATUS.POLL_ACTIVE : Field := ⟨0x0600, 6, 1⟩
/-- PWR_STATUS [7] HOLD_RUN. -/
def PWR_STATUS.HOLD_RUN : Field := ⟨0x0600, 7, 1⟩
/-- PWR_STATUS [11:8] LIMIT. -/
def PWR_STATUS.LIMIT : Field := ⟨0x0600, 8, 4⟩
/-- PWR_STATUS [12] LINK_WAIT. -/
def PWR_STATUS.LINK_WAIT : Field := ⟨0x0600, 12, 1⟩
/-- PWR_STATUS [20:16] WAKE_SRC. -/
def PWR_STATUS.WAKE_SRC : Field := ⟨0x0600, 16, 5⟩
/-- PWR_STATUS [31] ERR_RANGE. -/
def PWR_STATUS.ERR_RANGE : Field := ⟨0x0600, 31, 1⟩
/-- PWR_CTL (R102, spec/04_power_reset.md): Idle time before entry. -/
def PWR_CTL.reg : Nat := 0x0604
/-- PWR_CTL [9:0] IDLE_US. -/
def PWR_CTL.IDLE_US : Field := ⟨0x0604, 0, 10⟩
/-- PWR_HINT_TOL (R102, spec/04_power_reset.md): TOL_US in force. -/
def PWR_HINT_TOL.reg : Nat := 0x0608
/-- PWR_HINT_TOL [31:0] TOL_US. -/
def PWR_HINT_TOL.TOL_US : Field := ⟨0x0608, 0, 32⟩
/-- PWR_HINT_KEEP (R102, spec/04_power_reset.md): KEEP in force. -/
def PWR_HINT_KEEP.reg : Nat := 0x060C
/-- PWR_HINT_KEEP [4:0] KEEP. -/
def PWR_HINT_KEEP.KEEP : Field := ⟨0x060C, 0, 5⟩
/-- PWR_HINT_KEEP [8] PERSISTED. -/
def PWR_HINT_KEEP.PERSISTED : Field := ⟨0x060C, 8, 1⟩
/-- PWR_WAKE_CTL (R102, spec/04_power_reset.md): WAKE pin policy. -/
def PWR_WAKE_CTL.reg : Nat := 0x0610
/-- PWR_WAKE_CTL [7:0] EN. -/
def PWR_WAKE_CTL.EN : Field := ⟨0x0610, 0, 8⟩
/-- PWR_WAKE_CTL [15:8] POL. -/
def PWR_WAKE_CTL.POL : Field := ⟨0x0610, 8, 8⟩
/-- PWR_WAKE_CTL [23:16] POLL. -/
def PWR_WAKE_CTL.POLL : Field := ⟨0x0610, 16, 8⟩
/-- PWR_WAKE_CTL [27:24] DEBOUNCE. -/
def PWR_WAKE_CTL.DEBOUNCE : Field := ⟨0x0610, 24, 4⟩
/-- PWR_WAKE_CTL [28] HOSTWAKE. -/
def PWR_WAKE_CTL.HOSTWAKE : Field := ⟨0x0610, 28, 1⟩
/-- PWR_WAKE_BIND0 (R102, spec/04_power_reset.md): Bound folds of WAKE0–3. -/
def PWR_WAKE_BIND0.reg : Nat := 0x0614
/-- PWR_WAKE_BIND0 [7:0], [15:8], [23:16], [31:24] FOLD. -/
def PWR_WAKE_BIND0.FOLD (j : Nat) : Field := ⟨0x0614, 8 * j, 8⟩
/-- PWR_WAKE_BIND1 (R102, spec/04_power_reset.md): Bound folds of WAKE4–7. -/
def PWR_WAKE_BIND1.reg : Nat := 0x0618
/-- PWR_WAKE_BIND1 [7:0], [15:8], [23:16], [31:24] FOLD. -/
def PWR_WAKE_BIND1.FOLD (j : Nat) : Field := ⟨0x0618, 8 * j, 8⟩
/-- PWR_SCHED_CTL (R102, spec/04_power_reset.md): Schedule enable and commit. -/
def PWR_SCHED_CTL.reg : Nat := 0x061C
/-- PWR_SCHED_CTL [0] EN. -/
def PWR_SCHED_CTL.EN : Field := ⟨0x061C, 0, 1⟩
/-- PWR_SCHED_CTL [1] COMMIT. -/
def PWR_SCHED_CTL.COMMIT : Field := ⟨0x061C, 1, 1⟩
/-- PWR_SCHED_CTL [2] BUSY. -/
def PWR_SCHED_CTL.BUSY : Field := ⟨0x061C, 2, 1⟩
/-- PWR_SCHED_CTL [3] VALID. -/
def PWR_SCHED_CTL.VALID : Field := ⟨0x061C, 3, 1⟩
/-- PWR_SCHED_CTL [4] COMMIT_ERR. -/
def PWR_SCHED_CTL.COMMIT_ERR : Field := ⟨0x061C, 4, 1⟩
/-- PWR_SCHEDn (R102, spec/04_power_reset.md): Schedule entries, 4 bytes each. -/
def PWR_SCHEDn.reg (n : Nat) : Nat := 0x0620 + 4 * n
/-- PWR_SCHEDn [7:0] FOLD. -/
def PWR_SCHEDn.FOLD (n : Nat) : Field := ⟨0x0620 + 4 * n, 0, 8⟩
/-- PWR_SCHEDn [23:8] PERIOD. -/
def PWR_SCHEDn.PERIOD (n : Nat) : Field := ⟨0x0620 + 4 * n, 8, 16⟩
/-- PWR_SCHEDn [25:24] SLOTS. -/
def PWR_SCHEDn.SLOTS (n : Nat) : Field := ⟨0x0620 + 4 * n, 24, 2⟩
/-- PWR_SCHEDn [26] ENTRY_EN. -/
def PWR_SCHEDn.ENTRY_EN (n : Nat) : Field := ⟨0x0620 + 4 * n, 26, 1⟩
/-- PWR_RST_CAUSE (R102, spec/04_power_reset.md): Reset causes since last cleared. -/
def PWR_RST_CAUSE.reg : Nat := 0x0660
/-- PWR_RST_CAUSE [0] POR. -/
def PWR_RST_CAUSE.POR : Field := ⟨0x0660, 0, 1⟩
/-- PWR_RST_CAUSE [1] PIN. -/
def PWR_RST_CAUSE.PIN : Field := ⟨0x0660, 1, 1⟩
/-- PWR_RST_CAUSE [2] BOD. -/
def PWR_RST_CAUSE.BOD : Field := ⟨0x0660, 2, 1⟩
/-- PWR_RST_CAUSE [3] CLKREC. -/
def PWR_RST_CAUSE.CLKREC : Field := ⟨0x0660, 3, 1⟩
/-- PWR_RST_CAUSE [4] FALLOW. -/
def PWR_RST_CAUSE.FALLOW : Field := ⟨0x0660, 4, 1⟩
/-- PWR_RST_CAUSE [5] WDT. -/
def PWR_RST_CAUSE.WDT : Field := ⟨0x0660, 5, 1⟩
/-- PWR_RST_CAUSE [6] HOSTISL. -/
def PWR_RST_CAUSE.HOSTISL : Field := ⟨0x0660, 6, 1⟩
/-- PWR_RST_CAUSE [7] LINK. -/
def PWR_RST_CAUSE.LINK : Field := ⟨0x0660, 7, 1⟩
/-- PWR_RST_CAUSE [8] HANG. -/
def PWR_RST_CAUSE.HANG : Field := ⟨0x0660, 8, 1⟩
/-- PWR_ISLAND_RST (R102, spec/04_power_reset.md): Single-island reset. -/
def PWR_ISLAND_RST.reg : Nat := 0x0664
/-- PWR_ISLAND_RST [7:0] ISL. -/
def PWR_ISLAND_RST.ISL : Field := ⟨0x0664, 0, 8⟩
/-- PWR_ISLANDS (R102, spec/04_power_reset.md): Islands powered and out of reset. -/
def PWR_ISLANDS.reg : Nat := 0x0668
/-- PWR_ISLANDS [12:0] ON. -/
def PWR_ISLANDS.ON : Field := ⟨0x0668, 0, 13⟩
/-- PWR_CNT (R102, spec/04_power_reset.md): Event counters. -/
def PWR_CNT.reg : Nat := 0x066C
/-- PWR_CNT [7:0] WDT. -/
def PWR_CNT.WDT : Field := ⟨0x066C, 0, 8⟩
/-- PWR_CNT [15:8] BOD. -/
def PWR_CNT.BOD : Field := ⟨0x066C, 8, 8⟩
/-- PWR_CNT [31:16] SCHED_MISS. -/
def PWR_CNT.SCHED_MISS : Field := ⟨0x066C, 16, 16⟩
/-- HIF_ID (R108, spec/05_host_queues.md): Family, silicon revision, device. -/
def HIF_ID.reg : Nat := 0x0000
/-- HIF_ID [15:0] DEVICE. -/
def HIF_ID.DEVICE : Field := ⟨0x0000, 0, 16⟩
/-- HIF_ID [23:16] REV. -/
def HIF_ID.REV : Field := ⟨0x0000, 16, 8⟩
/-- HIF_ID [31:24] FAMILY. -/
def HIF_ID.FAMILY : Field := ⟨0x0000, 24, 8⟩
/-- HIF_VERSION (R108, spec/05_host_queues.md): Host interface version. -/
def HIF_VERSION.reg : Nat := 0x0004
/-- HIF_VERSION [15:0] MINOR. -/
def HIF_VERSION.MINOR : Field := ⟨0x0004, 0, 16⟩
/-- HIF_VERSION [31:16] MAJOR. -/
def HIF_VERSION.MAJOR : Field := ⟨0x0004, 16, 16⟩
/-- HIF_CAPS (R108, spec/05_host_queues.md): Unit counts and presence. -/
def HIF_CAPS.reg : Nat := 0x0008
/-- HIF_CAPS [7:0] LF_CH. -/
def HIF_CAPS.LF_CH : Field := ⟨0x0008, 0, 8⟩
/-- HIF_CAPS [11:8] COILS. -/
def HIF_CAPS.COILS : Field := ⟨0x0008, 8, 4⟩
/-- HIF_CAPS [15:12] UWB_PORTS. -/
def HIF_CAPS.UWB_PORTS : Field := ⟨0x0008, 12, 4⟩
/-- HIF_CAPS [17:16] UHF_CH. -/
def HIF_CAPS.UHF_CH : Field := ⟨0x0008, 16, 2⟩
/-- HIF_CAPS [18] UWB_UNIT. -/
def HIF_CAPS.UWB_UNIT : Field := ⟨0x0008, 18, 1⟩
/-- HIF_CAPS [31:24] MRAM_MIB. -/
def HIF_CAPS.MRAM_MIB : Field := ⟨0x0008, 24, 8⟩
/-- HIF_CAPS2 (R108, spec/05_host_queues.md): Ledger size and queue pairs. -/
def HIF_CAPS2.reg : Nat := 0x000C
/-- HIF_CAPS2 [19:0] LGR_BLOCKS. -/
def HIF_CAPS2.LGR_BLOCKS : Field := ⟨0x000C, 0, 20⟩
/-- HIF_CAPS2 [25:20] QPS. -/
def HIF_CAPS2.QPS : Field := ⟨0x000C, 20, 6⟩
/-- HIF_CTL (R108, spec/05_host_queues.md): Global enable. -/
def HIF_CTL.reg : Nat := 0x0010
/-- HIF_CTL [0] EN. -/
def HIF_CTL.EN : Field := ⟨0x0010, 0, 1⟩
/-- HIF_STATUS (R108, spec/05_host_queues.md): Readiness, backlog, range error. -/
def HIF_STATUS.reg : Nat := 0x0014
/-- HIF_STATUS [0] READY. -/
def HIF_STATUS.READY : Field := ⟨0x0014, 0, 1⟩
/-- HIF_STATUS [1] IDLE. -/
def HIF_STATUS.IDLE : Field := ⟨0x0014, 1, 1⟩
/-- HIF_STATUS [10:2] BACKLOG. -/
def HIF_STATUS.BACKLOG : Field := ⟨0x0014, 2, 9⟩
/-- HIF_STATUS [31] ERR_RANGE. -/
def HIF_STATUS.ERR_RANGE : Field := ⟨0x0014, 31, 1⟩
/-- HIF_EVT_ROUTE (R108, spec/05_host_queues.md): Pair that receives events. -/
def HIF_EVT_ROUTE.reg : Nat := 0x0018
/-- HIF_EVT_ROUTE [4:0] QP. -/
def HIF_EVT_ROUTE.QP : Field := ⟨0x0018, 0, 5⟩
/-- HIF_DRV_Q (R108, spec/05_host_queues.md): Drover input queue occupancy. -/
def HIF_DRV_Q.reg : Nat := 0x001C
/-- HIF_DRV_Q [6:0] DEPTH. -/
def HIF_DRV_Q.DEPTH : Field := ⟨0x001C, 0, 7⟩
/-- HIF_DRV_Q [7] FULL. -/
def HIF_DRV_Q.FULL : Field := ⟨0x001C, 7, 1⟩
/-- HIF_DRV_Q [14:8] HWM. -/
def HIF_DRV_Q.HWM : Field := ⟨0x001C, 8, 7⟩
/-- HIF_DRV_Q [31:16] STALLS. -/
def HIF_DRV_Q.STALLS : Field := ⟨0x001C, 16, 16⟩
/-- HIF_BLOCKED (R108, spec/05_host_queues.md): Pairs whose head waits for Drover. -/
def HIF_BLOCKED.reg : Nat := 0x0020
/-- HIF_BLOCKED [31:0] QP. -/
def HIF_BLOCKED.QP : Field := ⟨0x0020, 0, 32⟩
/-- HIF_FAULT (R108, spec/05_host_queues.md): Interface faults. -/
def HIF_FAULT.reg : Nat := 0x0024
/-- HIF_FAULT [0] SQ_FETCH. -/
def HIF_FAULT.SQ_FETCH : Field := ⟨0x0024, 0, 1⟩
/-- HIF_FAULT [1] DB_RANGE. -/
def HIF_FAULT.DB_RANGE : Field := ⟨0x0024, 1, 1⟩
/-- HIF_FAULT [2] DB_DISABLED. -/
def HIF_FAULT.DB_DISABLED : Field := ⟨0x0024, 2, 1⟩
/-- HIF_FAULT [3] CFG_WHILE_EN. -/
def HIF_FAULT.CFG_WHILE_EN : Field := ⟨0x0024, 3, 1⟩
/-- HIF_FAULT [4] BACKLOG_OVF. -/
def HIF_FAULT.BACKLOG_OVF : Field := ⟨0x0024, 4, 1⟩
/-- HIF_FAULT [5] DATA_DMA. -/
def HIF_FAULT.DATA_DMA : Field := ⟨0x0024, 5, 1⟩
/-- HIF_QP_ERR (R108, spec/05_host_queues.md): Pairs stopped by a ring fetch error. -/
def HIF_QP_ERR.reg : Nat := 0x0028
/-- HIF_QP_ERR [31:0] QP. -/
def HIF_QP_ERR.QP : Field := ⟨0x0028, 0, 32⟩
/-- HIF_VIOL_CNT (R108, spec/05_host_queues.md): Violation counters. -/
def HIF_VIOL_CNT.reg : Nat := 0x002C
/-- HIF_VIOL_CNT [15:0] DESC. -/
def HIF_VIOL_CNT.DESC : Field := ⟨0x002C, 0, 16⟩
/-- HIF_VIOL_CNT [23:16] DB. -/
def HIF_VIOL_CNT.DB : Field := ⟨0x002C, 16, 8⟩
/-- HIF_VIOL_CNT [31:24] CFG. -/
def HIF_VIOL_CNT.CFG : Field := ⟨0x002C, 24, 8⟩
/-- HIF_LINK (R108, spec/05_host_queues.md): Link state. -/
def HIF_LINK.reg : Nat := 0x0030
/-- HIF_LINK [3:0] SPEED. -/
def HIF_LINK.SPEED : Field := ⟨0x0030, 0, 4⟩
/-- HIF_LINK [5:4] WIDTH. -/
def HIF_LINK.WIDTH : Field := ⟨0x0030, 4, 2⟩
/-- HIF_LINK [8:6] LSTATE. -/
def HIF_LINK.LSTATE : Field := ⟨0x0030, 6, 3⟩
/-- HIF_CNT_CLR (R108, spec/05_host_queues.md): Counter clear. -/
def HIF_CNT_CLR.reg : Nat := 0x0034
/-- HIF_CNT_CLR [0] VIOL. -/
def HIF_CNT_CLR.VIOL : Field := ⟨0x0034, 0, 1⟩
/-- HIF_CNT_CLR [1] DRV. -/
def HIF_CNT_CLR.DRV : Field := ⟨0x0034, 1, 1⟩
/-- QPn_SQB_LO (R108, spec/05_host_queues.md): Submission ring base, bits [31:0]. -/
def QPn_SQB_LO.reg (n : Nat) : Nat := 0x0100 + 24 * n
/-- QPn_SQB_LO [31:12] ADDR. -/
def QPn_SQB_LO.ADDR (n : Nat) : Field := ⟨0x0100 + 24 * n, 12, 20⟩
/-- QPn_SQB_HI (R108, spec/05_host_queues.md): Submission ring base, bits [63:32]. -/
def QPn_SQB_HI.reg (n : Nat) : Nat := 0x0104 + 24 * n
/-- QPn_SQB_HI [31:0] ADDR. -/
def QPn_SQB_HI.ADDR (n : Nat) : Field := ⟨0x0104 + 24 * n, 0, 32⟩
/-- QPn_CQB_LO (R108, spec/05_host_queues.md): Completion ring base, bits [31:0]. -/
def QPn_CQB_LO.reg (n : Nat) : Nat := 0x0108 + 24 * n
/-- QPn_CQB_LO [31:12] ADDR. -/
def QPn_CQB_LO.ADDR (n : Nat) : Field := ⟨0x0108 + 24 * n, 12, 20⟩
/-- QPn_CQB_HI (R108, spec/05_host_queues.md): Completion ring base, bits [63:32]. -/
def QPn_CQB_HI.reg (n : Nat) : Nat := 0x010C + 24 * n
/-- QPn_CQB_HI [31:0] ADDR. -/
def QPn_CQB_HI.ADDR (n : Nat) : Field := ⟨0x010C + 24 * n, 0, 32⟩
/-- QPn_CFG (R108, spec/05_host_queues.md): Ring sizes and interrupt coalescing. -/
def QPn_CFG.reg (n : Nat) : Nat := 0x0110 + 24 * n
/-- QPn_CFG [3:0] SQ_SIZE. -/
def QPn_CFG.SQ_SIZE (n : Nat) : Field := ⟨0x0110 + 24 * n, 0, 4⟩
/-- QPn_CFG [7:4] CQ_SIZE. -/
def QPn_CFG.CQ_SIZE (n : Nat) : Field := ⟨0x0110 + 24 * n, 4, 4⟩
/-- QPn_CFG [15:8] COAL_CNT. -/
def QPn_CFG.COAL_CNT (n : Nat) : Field := ⟨0x0110 + 24 * n, 8, 8⟩
/-- QPn_CFG [23:16] COAL_US. -/
def QPn_CFG.COAL_US (n : Nat) : Field := ⟨0x0110 + 24 * n, 16, 8⟩
/-- QPn_STATUS (R108, spec/05_host_queues.md): Ring positions and pair state. -/
def QPn_STATUS.reg (n : Nat) : Nat := 0x0114 + 24 * n
/-- QPn_STATUS [11:0] SQ_HEAD. -/
def QPn_STATUS.SQ_HEAD (n : Nat) : Field := ⟨0x0114 + 24 * n, 0, 12⟩
/-- QPn_STATUS [12] ENABLED. -/
def QPn_STATUS.ENABLED (n : Nat) : Field := ⟨0x0114 + 24 * n, 12, 1⟩
/-- QPn_STATUS [13] QUIESCED. -/
def QPn_STATUS.QUIESCED (n : Nat) : Field := ⟨0x0114 + 24 * n, 13, 1⟩
/-- QPn_STATUS [14] ERR. -/
def QPn_STATUS.ERR (n : Nat) : Field := ⟨0x0114 + 24 * n, 14, 1⟩
/-- QPn_STATUS [15] BLK_DRV. -/
def QPn_STATUS.BLK_DRV (n : Nat) : Field := ⟨0x0114 + 24 * n, 15, 1⟩
/-- QPn_STATUS [27:16] CQ_TAIL. -/
def QPn_STATUS.CQ_TAIL (n : Nat) : Field := ⟨0x0114 + 24 * n, 16, 12⟩
/-- QPn_STATUS [28] PHASE. -/
def QPn_STATUS.PHASE (n : Nat) : Field := ⟨0x0114 + 24 * n, 28, 1⟩
/-- QPn_STATUS [29] BLK_FENCE. -/
def QPn_STATUS.BLK_FENCE (n : Nat) : Field := ⟨0x0114 + 24 * n, 29, 1⟩
/-- QPn_STATUS [30] BLK_CREDIT. -/
def QPn_STATUS.BLK_CREDIT (n : Nat) : Field := ⟨0x0114 + 24 * n, 30, 1⟩
/-- LFE_CTL (R163, spec/06_lf_field_engine.md): Automatic analyses, shaping, commit. -/
def LFE_CTL.reg : Nat := 0x0800
/-- LFE_CTL [0] COMMIT. -/
def LFE_CTL.COMMIT : Field := ⟨0x0800, 0, 1⟩
/-- LFE_CTL [1] BUSY. -/
def LFE_CTL.BUSY : Field := ⟨0x0800, 1, 1⟩
/-- LFE_CTL [2] VALID. -/
def LFE_CTL.VALID : Field := ⟨0x0800, 2, 1⟩
/-- LFE_CTL [3] COMMIT_ERR. -/
def LFE_CTL.COMMIT_ERR : Field := ⟨0x0800, 3, 1⟩
/-- LFE_CTL [4] RING_AUTO. -/
def LFE_CTL.RING_AUTO : Field := ⟨0x0800, 4, 1⟩
/-- LFE_CTL [5] FF_AUTO. -/
def LFE_CTL.FF_AUTO : Field := ⟨0x0800, 5, 1⟩
/-- LFE_CTL [6] FF_EVT. -/
def LFE_CTL.FF_EVT : Field := ⟨0x0800, 6, 1⟩
/-- LFE_CTL [10:8] RAMP. -/
def LFE_CTL.RAMP : Field := ⟨0x0800, 8, 3⟩
/-- LFE_STATUS (R163, spec/06_lf_field_engine.md): Operation, phases, flags. -/
def LFE_STATUS.reg : Nat := 0x0804
/-- LFE_STATUS [0] BUSY. -/
def LFE_STATUS.BUSY : Field := ⟨0x0804, 0, 1⟩
/-- LFE_STATUS [3:1] OP. -/
def LFE_STATUS.OP : Field := ⟨0x0804, 1, 3⟩
/-- LFE_STATUS [7:4] DRIVE. -/
def LFE_STATUS.DRIVE : Field := ⟨0x0804, 4, 4⟩
/-- LFE_STATUS [11:8] BRIDGE. -/
def LFE_STATUS.BRIDGE : Field := ⟨0x0804, 8, 4⟩
/-- LFE_STATUS [12] PEND. -/
def LFE_STATUS.PEND : Field := ⟨0x0804, 12, 1⟩
/-- LFE_STATUS [13] FF_SEEN. -/
def LFE_STATUS.FF_SEEN : Field := ⟨0x0804, 13, 1⟩
/-- LFE_STATUS [14] SAT_SEEN. -/
def LFE_STATUS.SAT_SEEN : Field := ⟨0x0804, 14, 1⟩
/-- LFE_STATUS [15] COIL_FAULT. -/
def LFE_STATUS.COIL_FAULT : Field := ⟨0x0804, 15, 1⟩
/-- LFE_STATUS [31] ERR_RANGE. -/
def LFE_STATUS.ERR_RANGE : Field := ⟨0x0804, 31, 1⟩
/-- LFE_CARRIER (R163, spec/06_lf_field_engine.md): Common carrier frequency. -/
def LFE_CARRIER.reg : Nat := 0x0808
/-- LFE_CARRIER [17:0] F_HZ. -/
def LFE_CARRIER.F_HZ : Field := ⟨0x0808, 0, 18⟩
/-- LFE_SENSE (R163, spec/06_lf_field_engine.md): Foreign-field windows and threshold. -/
def LFE_SENSE.reg : Nat := 0x080C
/-- LFE_SENSE [6:0] FF_DELAY. -/
def LFE_SENSE.FF_DELAY : Field := ⟨0x080C, 0, 7⟩
/-- LFE_SENSE [14:8] FF_WIN. -/
def LFE_SENSE.FF_WIN : Field := ⟨0x080C, 8, 7⟩
/-- LFE_SENSE [15] FF_BAND. -/
def LFE_SENSE.FF_BAND : Field := ⟨0x080C, 15, 1⟩
/-- LFE_SENSE [27:16] FF_THR. -/
def LFE_SENSE.FF_THR : Field := ⟨0x080C, 16, 12⟩
/-- LFE_THR (R163, spec/06_lf_field_engine.md): Open threshold. -/
def LFE_THR.reg : Nat := 0x0810
/-- LFE_THR [11:0] OPEN_THR. -/
def LFE_THR.OPEN_THR : Field := ⟨0x0810, 0, 12⟩
/-- LFE_DIAG_CTL (R163, spec/06_lf_field_engine.md): Diagnostic burst and classification. -/
def LFE_DIAG_CTL.reg : Nat := 0x0814
/-- LFE_DIAG_CTL [7:0] BURST. -/
def LFE_DIAG_CTL.BURST : Field := ⟨0x0814, 0, 8⟩
/-- LFE_DIAG_CTL [15:8] RING. -/
def LFE_DIAG_CTL.RING : Field := ⟨0x0814, 8, 8⟩
/-- LFE_DIAG_CTL [19:16] QMIN_SHORT. -/
def LFE_DIAG_CTL.QMIN_SHORT : Field := ⟨0x0814, 16, 4⟩
/-- LFE_DIAG_CTL [31:24] DETUNE_THR. -/
def LFE_DIAG_CTL.DETUNE_THR : Field := ⟨0x0814, 24, 8⟩
/-- LFE_COIL_CTL (R163, spec/06_lf_field_engine.md): Coil readers. -/
def LFE_COIL_CTL.reg : Nat := 0x0818
/-- LFE_COIL_CTL [17:0] F_HZ. -/
def LFE_COIL_CTL.F_HZ : Field := ⟨0x0818, 0, 18⟩
/-- LFE_COIL_CTL [19:18] DRIVE. -/
def LFE_COIL_CTL.DRIVE : Field := ⟨0x0818, 18, 2⟩
/-- LFE_COIL_CTL [23:20] EN. -/
def LFE_COIL_CTL.EN : Field := ⟨0x0818, 20, 4⟩
/-- LFE_QUEUE (R163, spec/06_lf_field_engine.md): Operation queue. -/
def LFE_QUEUE.reg : Nat := 0x081C
/-- LFE_QUEUE [4:0] DEPTH. -/
def LFE_QUEUE.DEPTH : Field := ⟨0x081C, 0, 5⟩
/-- LFE_QUEUE [23:8] SCHED. -/
def LFE_QUEUE.SCHED : Field := ⟨0x081C, 8, 16⟩
/-- LFE_QUEUE [31:24] WAKE. -/
def LFE_QUEUE.WAKE : Field := ⟨0x081C, 24, 8⟩
/-- LFE_CNT (R163, spec/06_lf_field_engine.md): Counters. -/
def LFE_CNT.reg : Nat := 0x0820
/-- LFE_CNT [15:0] OPS. -/
def LFE_CNT.OPS : Field := ⟨0x0820, 0, 16⟩
/-- LFE_CNT [23:16] FF. -/
def LFE_CNT.FF : Field := ⟨0x0820, 16, 8⟩
/-- LFE_CNT [31:24] SAT. -/
def LFE_CNT.SAT : Field := ⟨0x0820, 24, 8⟩
/-- LFE_CNT_CLR (R163, spec/06_lf_field_engine.md): Counter clear. -/
def LFE_CNT_CLR.reg : Nat := 0x0824
/-- LFE_CNT_CLR [0] CNT. -/
def LFE_CNT_CLR.CNT : Field := ⟨0x0824, 0, 1⟩
/-- LFE_CHn_CFG (R163, spec/06_lf_field_engine.md): Channel n set-up, n = 0–127. -/
def LFE_CHn_CFG.reg (n : Nat) : Nat := 0x0C00 + 8 * n
/-- LFE_CHn_CFG [0] EN. -/
def LFE_CHn_CFG.EN (n : Nat) : Field := ⟨0x0C00 + 8 * n, 0, 1⟩
/-- LFE_CHn_CFG [1] NET. -/
def LFE_CHn_CFG.NET (n : Nat) : Field := ⟨0x0C00 + 8 * n, 1, 1⟩
/-- LFE_CHn_CFG [15:4] TRIM. -/
def LFE_CHn_CFG.TRIM (n : Nat) : Field := ⟨0x0C00 + 8 * n, 4, 12⟩
/-- LFE_CHn_CFG [22:16] DUTY. -/
def LFE_CHn_CFG.DUTY (n : Nat) : Field := ⟨0x0C00 + 8 * n, 16, 7⟩
/-- LFE_CHn_CFG [30:24] POS. -/
def LFE_CHn_CFG.POS (n : Nat) : Field := ⟨0x0C00 + 8 * n, 24, 7⟩
/-- LFE_CHn_STAT (R163, spec/06_lf_field_engine.md): Channel n results. -/
def LFE_CHn_STAT.reg (n : Nat) : Nat := 0x0C04 + 8 * n
/-- LFE_CHn_STAT [13:0] FRES. -/
def LFE_CHn_STAT.FRES (n : Nat) : Field := ⟨0x0C04 + 8 * n, 0, 14⟩
/-- LFE_CHn_STAT [21:14] Q. -/
def LFE_CHn_STAT.Q (n : Nat) : Field := ⟨0x0C04 + 8 * n, 14, 8⟩
/-- LFE_CHn_STAT [24:22] RESULT. -/
def LFE_CHn_STAT.RESULT (n : Nat) : Field := ⟨0x0C04 + 8 * n, 22, 3⟩
/-- LFE_CHn_STAT [25] FF. -/
def LFE_CHn_STAT.FF (n : Nat) : Field := ⟨0x0C04 + 8 * n, 25, 1⟩
/-- LFE_CHn_STAT [26] RETIRED. -/
def LFE_CHn_STAT.RETIRED (n : Nat) : Field := ⟨0x0C04 + 8 * n, 26, 1⟩
/-- LFE_CHn_STAT [27] PINFOLD. -/
def LFE_CHn_STAT.PINFOLD (n : Nat) : Field := ⟨0x0C04 + 8 * n, 27, 1⟩
/-- LFE_CHn_STAT [28] ABSENT. -/
def LFE_CHn_STAT.ABSENT (n : Nat) : Field := ⟨0x0C04 + 8 * n, 28, 1⟩
/-- FLD_CTL (R181, spec/07_folds.md): Apply, commit, view. -/
def FLD_CTL.reg : Nat := 0x1000
/-- FLD_CTL [0] APPLY. -/
def FLD_CTL.APPLY : Field := ⟨0x1000, 0, 1⟩
/-- FLD_CTL [1] COMMIT. -/
def FLD_CTL.COMMIT : Field := ⟨0x1000, 1, 1⟩
/-- FLD_CTL [2] DISCARD. -/
def FLD_CTL.DISCARD : Field := ⟨0x1000, 2, 1⟩
/-- FLD_CTL [3] VIEW. -/
def FLD_CTL.VIEW : Field := ⟨0x1000, 3, 1⟩
/-- FLD_CTL [4] BUSY. -/
def FLD_CTL.BUSY : Field := ⟨0x1000, 4, 1⟩
/-- FLD_CTL [5] VALID. -/
def FLD_CTL.VALID : Field := ⟨0x1000, 5, 1⟩
/-- FLD_CTL [6] COMMIT_ERR. -/
def FLD_CTL.COMMIT_ERR : Field := ⟨0x1000, 6, 1⟩
/-- FLD_STATUS (R181, spec/07_folds.md): Apply result and pending state. -/
def FLD_STATUS.reg : Nat := 0x1004
/-- FLD_STATUS [3:0] APPLY_ERR. -/
def FLD_STATUS.APPLY_ERR : Field := ⟨0x1004, 0, 4⟩
/-- FLD_STATUS [4] DIRTY. -/
def FLD_STATUS.DIRTY : Field := ⟨0x1004, 4, 1⟩
/-- FLD_STATUS [5] PEND. -/
def FLD_STATUS.PEND : Field := ⟨0x1004, 5, 1⟩
/-- FLD_STATUS [16:8] ERR_NODE. -/
def FLD_STATUS.ERR_NODE : Field := ⟨0x1004, 8, 9⟩
/-- FLD_STATUS [31] ERR_RANGE. -/
def FLD_STATUS.ERR_RANGE : Field := ⟨0x1004, 31, 1⟩
/-- FLD_SIZE (R181, spec/07_folds.md): Size of the live tree. -/
def FLD_SIZE.reg : Nat := 0x1008
/-- FLD_SIZE [7:0] FOLDS. -/
def FLD_SIZE.FOLDS : Field := ⟨0x1008, 0, 8⟩
/-- FLD_SIZE [16:8] NODES. -/
def FLD_SIZE.NODES : Field := ⟨0x1008, 8, 9⟩
/-- FLD_SIZE [20:17] DEPTH. -/
def FLD_SIZE.DEPTH : Field := ⟨0x1008, 17, 4⟩
/-- FLD_GEN (R181, spec/07_folds.md): Tree generation. -/
def FLD_GEN.reg : Nat := 0x100C
/-- FLD_GEN [15:0] GEN. -/
def FLD_GEN.GEN : Field := ⟨0x100C, 0, 16⟩
/-- FLD_CNT (R181, spec/07_folds.md): Counters. -/
def FLD_CNT.reg : Nat := 0x1010
/-- FLD_CNT [15:0] OPS. -/
def FLD_CNT.OPS : Field := ⟨0x1010, 0, 16⟩
/-- FLD_CNT [23:16] APPLY_FAIL. -/
def FLD_CNT.APPLY_FAIL : Field := ⟨0x1010, 16, 8⟩
/-- FLD_CNT [31:24] WAIT_TO. -/
def FLD_CNT.WAIT_TO : Field := ⟨0x1010, 24, 8⟩
/-- FLD_CNT_CLR (R181, spec/07_folds.md): Counter clear. -/
def FLD_CNT_CLR.reg : Nat := 0x1014
/-- FLD_CNT_CLR [0] CNT. -/
def FLD_CNT_CLR.CNT : Field := ⟨0x1014, 0, 1⟩
/-- FLD_LPARn (R181, spec/07_folds.md): Parents of leaf indices 4n to 4n + 3, n = 0–33. -/
def FLD_LPARn.reg (n : Nat) : Nat := 0x1040 + 4 * n
/-- FLD_LPARn [8j+7:8j] PARENT. -/
def FLD_LPARn.PARENT (n j : Nat) : Field := ⟨0x1040 + 4 * n, 8 * j, 8⟩
/-- FLD_FPARn (R181, spec/07_folds.md): Parents of folds 4n to 4n + 3, n = 0–63. -/
def FLD_FPARn.reg (n : Nat) : Nat := 0x1100 + 4 * n
/-- FLD_FPARn [8j+7:8j] PARENT. -/
def FLD_FPARn.PARENT (n j : Nat) : Field := ⟨0x1100 + 4 * n, 8 * j, 8⟩
/-- FLD_FDEFn (R181, spec/07_folds.md): Defined folds 32n to 32n + 31, n = 0–7. -/
def FLD_FDEFn.reg (n : Nat) : Nat := 0x1200 + 4 * n
/-- FLD_FDEFn [j] DEF. -/
def FLD_FDEFn.DEF (n j : Nat) : Field := ⟨0x1200 + 4 * n, j, 1⟩
/-- FLD_PINn (R181, spec/07_folds.md): Own pinfold of folds 32n to 32n + 31, n = 0–7. -/
def FLD_PINn.reg (n : Nat) : Nat := 0x1220 + 4 * n
/-- FLD_PINn [j] PIN. -/
def FLD_PINn.PIN (n j : Nat) : Field := ⟨0x1220 + 4 * n, j, 1⟩
/-- FLD_RETn (R181, spec/07_folds.md): Retired leaf indices 32n to 32n + 31, n = 0–4. -/
def FLD_RETn.reg (n : Nat) : Nat := 0x1240 + 4 * n
/-- FLD_RETn [j] RET. -/
def FLD_RETn.RET (n j : Nat) : Field := ⟨0x1240 + 4 * n, j, 1⟩
/-- UHF_CTL (R223, spec/09_uhf_radio.md): Background calibration, commit. -/
def UHF_CTL.reg : Nat := 0x1400
/-- UHF_CTL [0] COMMIT. -/
def UHF_CTL.COMMIT : Field := ⟨0x1400, 0, 1⟩
/-- UHF_CTL [1] BUSY. -/
def UHF_CTL.BUSY : Field := ⟨0x1400, 1, 1⟩
/-- UHF_CTL [2] VALID. -/
def UHF_CTL.VALID : Field := ⟨0x1400, 2, 1⟩
/-- UHF_CTL [3] COMMIT_ERR. -/
def UHF_CTL.COMMIT_ERR : Field := ⟨0x1400, 3, 1⟩
/-- UHF_CTL [4] BG_CAL. -/
def UHF_CTL.BG_CAL : Field := ⟨0x1400, 4, 1⟩
/-- UHF_CTL [15:8] BG_PERIOD. -/
def UHF_CTL.BG_PERIOD : Field := ⟨0x1400, 8, 8⟩
/-- UHF_STATUS (R223, spec/09_uhf_radio.md): State, lock, coexistence levels, flags. -/
def UHF_STATUS.reg : Nat := 0x1404
/-- UHF_STATUS [2:0] STATE. -/
def UHF_STATUS.STATE : Field := ⟨0x1404, 0, 3⟩
/-- UHF_STATUS [3] LOCK. -/
def UHF_STATUS.LOCK : Field := ⟨0x1404, 3, 1⟩
/-- UHF_STATUS [4] CAL_BUSY. -/
def UHF_STATUS.CAL_BUSY : Field := ⟨0x1404, 4, 1⟩
/-- UHF_STATUS [5] WINDOW. -/
def UHF_STATUS.WINDOW : Field := ⟨0x1404, 5, 1⟩
/-- UHF_STATUS [6] REQ. -/
def UHF_STATUS.REQ : Field := ⟨0x1404, 6, 1⟩
/-- UHF_STATUS [7] PRI. -/
def UHF_STATUS.PRI : Field := ⟨0x1404, 7, 1⟩
/-- UHF_STATUS [8] GNT. -/
def UHF_STATUS.GNT : Field := ⟨0x1404, 8, 1⟩
/-- UHF_STATUS [9] DENIED. -/
def UHF_STATUS.DENIED : Field := ⟨0x1404, 9, 1⟩
/-- UHF_STATUS [10] ABORT. -/
def UHF_STATUS.ABORT : Field := ⟨0x1404, 10, 1⟩
/-- UHF_STATUS [11] BG_ABORT. -/
def UHF_STATUS.BG_ABORT : Field := ⟨0x1404, 11, 1⟩
/-- UHF_STATUS [12] SPAN_ERR. -/
def UHF_STATUS.SPAN_ERR : Field := ⟨0x1404, 12, 1⟩
/-- UHF_STATUS [31] ERR_RANGE. -/
def UHF_STATUS.ERR_RANGE : Field := ⟨0x1404, 31, 1⟩
/-- UHF_CH0_FREQ (R223, spec/09_uhf_radio.md): Profile 0 frequency. -/
def UHF_CH0_FREQ.reg : Nat := 0x1408
/-- UHF_CH0_FREQ [19:0] F_KHZ. -/
def UHF_CH0_FREQ.F_KHZ : Field := ⟨0x1408, 0, 20⟩
/-- UHF_CH1_FREQ (R223, spec/09_uhf_radio.md): Profile 1 frequency. -/
def UHF_CH1_FREQ.reg : Nat := 0x140C
/-- UHF_CH1_FREQ [19:0] F_KHZ. -/
def UHF_CH1_FREQ.F_KHZ : Field := ⟨0x140C, 0, 20⟩
/-- UHF_CH0_MOD (R223, spec/09_uhf_radio.md): Profile 0 modulation. -/
def UHF_CH0_MOD.reg : Nat := 0x1410
/-- UHF_CH0_MOD [1:0] MOD. -/
def UHF_CH0_MOD.MOD : Field := ⟨0x1410, 0, 2⟩
/-- UHF_CH0_MOD [3:2] BT. -/
def UHF_CH0_MOD.BT : Field := ⟨0x1410, 2, 2⟩
/-- UHF_CH0_MOD [13:4] RATE. -/
def UHF_CH0_MOD.RATE : Field := ⟨0x1410, 4, 10⟩
/-- UHF_CH0_MOD [25:16] DEV. -/
def UHF_CH0_MOD.DEV : Field := ⟨0x1410, 16, 10⟩
/-- UHF_CH1_MOD (R223, spec/09_uhf_radio.md): Profile 1 modulation. -/
def UHF_CH1_MOD.reg : Nat := 0x1414
/-- UHF_CH1_MOD [1:0] MOD. -/
def UHF_CH1_MOD.MOD : Field := ⟨0x1414, 0, 2⟩
/-- UHF_CH1_MOD [3:2] BT. -/
def UHF_CH1_MOD.BT : Field := ⟨0x1414, 2, 2⟩
/-- UHF_CH1_MOD [13:4] RATE. -/
def UHF_CH1_MOD.RATE : Field := ⟨0x1414, 4, 10⟩
/-- UHF_CH1_MOD [25:16] DEV. -/
def UHF_CH1_MOD.DEV : Field := ⟨0x1414, 16, 10⟩
/-- UHF_RXCFG (R223, spec/09_uhf_radio.md): Detection thresholds. -/
def UHF_RXCFG.reg : Nat := 0x1418
/-- UHF_RXCFG [7:0] RSSI_MIN. -/
def UHF_RXCFG.RSSI_MIN : Field := ⟨0x1418, 0, 8⟩
/-- UHF_RXCFG [9:8] SYNC_ERR. -/
def UHF_RXCFG.SYNC_ERR : Field := ⟨0x1418, 8, 2⟩
/-- UHF_TXLIM (R223, spec/09_uhf_radio.md): Transmit power limit. -/
def UHF_TXLIM.reg : Nat := 0x141C
/-- UHF_TXLIM [7:0] TX_MAX. -/
def UHF_TXLIM.TX_MAX : Field := ⟨0x141C, 0, 8⟩
/-- UHF_COEX_CTL (R223, spec/09_uhf_radio.md): Coexistence enable and timing. -/
def UHF_COEX_CTL.reg : Nat := 0x1420
/-- UHF_COEX_CTL [0] EN. -/
def UHF_COEX_CTL.EN : Field := ⟨0x1420, 0, 1⟩
/-- UHF_COEX_CTL [15:8] TIMEOUT. -/
def UHF_COEX_CTL.TIMEOUT : Field := ⟨0x1420, 8, 8⟩
/-- UHF_COEX_CTL [23:16] LEAD. -/
def UHF_COEX_CTL.LEAD : Field := ⟨0x1420, 16, 8⟩
/-- UHF_COEX_POL (R223, spec/09_uhf_radio.md): PRI and NEED per class. -/
def UHF_COEX_POL.reg : Nat := 0x1424
/-- UHF_COEX_POL [2k] PRI. -/
def UHF_COEX_POL.PRI (j : Nat) : Field := ⟨0x1424, 2 * j, 1⟩
/-- UHF_COEX_POL [2k+1] NEED. -/
def UHF_COEX_POL.NEED (j : Nat) : Field := ⟨0x1424, 2 * j + 1, 1⟩
/-- UHF_CAL_STAT (R223, spec/09_uhf_radio.md): Applied calibration results. -/
def UHF_CAL_STAT.reg : Nat := 0x1428
/-- UHF_CAL_STAT [7:0] IRR. -/
def UHF_CAL_STAT.IRR : Field := ⟨0x1428, 0, 8⟩
/-- UHF_CAL_STAT [23:8] PPM. -/
def UHF_CAL_STAT.PPM : Field := ⟨0x1428, 8, 16⟩
/-- UHF_CAL_STAT [31:24] CAL_TEMP. -/
def UHF_CAL_STAT.CAL_TEMP : Field := ⟨0x1428, 24, 8⟩
/-- UHF_OBN_CNT0 (R223, spec/09_uhf_radio.md): OBN_CRC, OBN_COLL. -/
def UHF_OBN_CNT0.reg : Nat := 0x142C
/-- UHF_OBN_CNT0 [15:0] OBN_CRC. -/
def UHF_OBN_CNT0.OBN_CRC : Field := ⟨0x142C, 0, 16⟩
/-- UHF_OBN_CNT0 [31:16] OBN_COLL. -/
def UHF_OBN_CNT0.OBN_COLL : Field := ⟨0x142C, 16, 16⟩
/-- UHF_OBN_CNT1 (R223, spec/09_uhf_radio.md): OBN_VID, OBN_POS. -/
def UHF_OBN_CNT1.reg : Nat := 0x1430
/-- UHF_OBN_CNT1 [15:0] OBN_VID. -/
def UHF_OBN_CNT1.OBN_VID : Field := ⟨0x1430, 0, 16⟩
/-- UHF_OBN_CNT1 [31:16] OBN_POS. -/
def UHF_OBN_CNT1.OBN_POS : Field := ⟨0x1430, 16, 16⟩
/-- UHF_COEX_CNT (R223, spec/09_uhf_radio.md): Denied and aborted activities. -/
def UHF_COEX_CNT.reg : Nat := 0x1434
/-- UHF_COEX_CNT [15:0] DENIED. -/
def UHF_COEX_CNT.DENIED : Field := ⟨0x1434, 0, 16⟩
/-- UHF_COEX_CNT [31:16] ABORT. -/
def UHF_COEX_CNT.ABORT : Field := ⟨0x1434, 16, 16⟩
/-- UHF_CNT_CLR (R223, spec/09_uhf_radio.md): Counter clear. -/
def UHF_CNT_CLR.reg : Nat := 0x1438
/-- UHF_CNT_CLR [0] OBN. -/
def UHF_CNT_CLR.OBN : Field := ⟨0x1438, 0, 1⟩
/-- UHF_CNT_CLR [1] COEX. -/
def UHF_CNT_CLR.COEX : Field := ⟨0x1438, 1, 1⟩
/-- UWB_CTL (R245, spec/10_uwb_ranging.md): Channel, code, STS threshold, commit. -/
def UWB_CTL.reg : Nat := 0x1600
/-- UWB_CTL [0] COMMIT. -/
def UWB_CTL.COMMIT : Field := ⟨0x1600, 0, 1⟩
/-- UWB_CTL [1] BUSY. -/
def UWB_CTL.BUSY : Field := ⟨0x1600, 1, 1⟩
/-- UWB_CTL [2] VALID. -/
def UWB_CTL.VALID : Field := ⟨0x1600, 2, 1⟩
/-- UWB_CTL [3] COMMIT_ERR. -/
def UWB_CTL.COMMIT_ERR : Field := ⟨0x1600, 3, 1⟩
/-- UWB_CTL [4] BG_CAL. -/
def UWB_CTL.BG_CAL : Field := ⟨0x1600, 4, 1⟩
/-- UWB_CTL [5] CHANNEL. -/
def UWB_CTL.CHANNEL : Field := ⟨0x1600, 5, 1⟩
/-- UWB_CTL [11:8] PCODE. -/
def UWB_CTL.PCODE : Field := ⟨0x1600, 8, 4⟩
/-- UWB_CTL [14:12] DEF_PORT. -/
def UWB_CTL.DEF_PORT : Field := ⟨0x1600, 12, 3⟩
/-- UWB_CTL [23:16] STSQ_MIN. -/
def UWB_CTL.STSQ_MIN : Field := ⟨0x1600, 16, 8⟩
/-- UWB_CTL [31:24] BG_PERIOD. -/
def UWB_CTL.BG_PERIOD : Field := ⟨0x1600, 24, 8⟩
/-- UWB_STATUS (R245, spec/10_uwb_ranging.md): State and flags. -/
def UWB_STATUS.reg : Nat := 0x1604
/-- UWB_STATUS [2:0] STATE. -/
def UWB_STATUS.STATE : Field := ⟨0x1604, 0, 3⟩
/-- UWB_STATUS [3] LOCK. -/
def UWB_STATUS.LOCK : Field := ⟨0x1604, 3, 1⟩
/-- UWB_STATUS [4] CAL_BUSY. -/
def UWB_STATUS.CAL_BUSY : Field := ⟨0x1604, 4, 1⟩
/-- UWB_STATUS [5] PREWARM. -/
def UWB_STATUS.PREWARM : Field := ⟨0x1604, 5, 1⟩
/-- UWB_STATUS [6] KEEP. -/
def UWB_STATUS.KEEP : Field := ⟨0x1604, 6, 1⟩
/-- UWB_STATUS [8] BG_ABORT. -/
def UWB_STATUS.BG_ABORT : Field := ⟨0x1604, 8, 1⟩
/-- UWB_STATUS [9] STS_FAIL. -/
def UWB_STATUS.STS_FAIL : Field := ⟨0x1604, 9, 1⟩
/-- UWB_STATUS [10] LATE. -/
def UWB_STATUS.LATE : Field := ⟨0x1604, 10, 1⟩
/-- UWB_STATUS [31] ERR_RANGE. -/
def UWB_STATUS.ERR_RANGE : Field := ⟨0x1604, 31, 1⟩
/-- UWB_TXCFG (R245, spec/10_uwb_ranging.md): Transmit level. -/
def UWB_TXCFG.reg : Nat := 0x1608
/-- UWB_TXCFG [5:0] TX_ATT. -/
def UWB_TXCFG.TX_ATT : Field := ⟨0x1608, 0, 6⟩
/-- UWB_PORTn_CFG (R245, spec/10_uwb_ranging.md): Port n set-up, n = 0–3. -/
def UWB_PORTn_CFG.reg (n : Nat) : Nat := 0x1610 + 16 * n
/-- UWB_PORTn_CFG [0] EN. -/
def UWB_PORTn_CFG.EN (n : Nat) : Field := ⟨0x1610 + 16 * n, 0, 1⟩
/-- UWB_PORTn_CFG [3:2] PARTNER. -/
def UWB_PORTn_CFG.PARTNER (n : Nat) : Field := ⟨0x1610 + 16 * n, 2, 2⟩
/-- UWB_PORTn_CFG [4] PDOA_EN. -/
def UWB_PORTn_CFG.PDOA_EN (n : Nat) : Field := ⟨0x1610 + 16 * n, 4, 1⟩
/-- UWB_PORTn_CFG [15:8] SPACING. -/
def UWB_PORTn_CFG.SPACING (n : Nat) : Field := ⟨0x1610 + 16 * n, 8, 8⟩
/-- UWB_PORTn_DLY5 (R245, spec/10_uwb_ranging.md): Port n delays, channel 5. -/
def UWB_PORTn_DLY5.reg (n : Nat) : Nat := 0x1614 + 16 * n
/-- UWB_PORTn_DLY5 [15:0] TXD. -/
def UWB_PORTn_DLY5.TXD (n : Nat) : Field := ⟨0x1614 + 16 * n, 0, 16⟩
/-- UWB_PORTn_DLY5 [31:16] RXD. -/
def UWB_PORTn_DLY5.RXD (n : Nat) : Field := ⟨0x1614 + 16 * n, 16, 16⟩
/-- UWB_PORTn_DLY9 (R245, spec/10_uwb_ranging.md): Port n delays, channel 9. -/
def UWB_PORTn_DLY9.reg (n : Nat) : Nat := 0x1618 + 16 * n
/-- UWB_PORTn_DLY9 [15:0] TXD. -/
def UWB_PORTn_DLY9.TXD (n : Nat) : Field := ⟨0x1618 + 16 * n, 0, 16⟩
/-- UWB_PORTn_DLY9 [31:16] RXD. -/
def UWB_PORTn_DLY9.RXD (n : Nat) : Field := ⟨0x1618 + 16 * n, 16, 16⟩
/-- UWB_PORTn_PHS (R245, spec/10_uwb_ranging.md): Port n phase offsets. -/
def UWB_PORTn_PHS.reg (n : Nat) : Nat := 0x161C + 16 * n
/-- UWB_PORTn_PHS [15:0] PH5. -/
def UWB_PORTn_PHS.PH5 (n : Nat) : Field := ⟨0x161C + 16 * n, 0, 16⟩
/-- UWB_PORTn_PHS [31:16] PH9. -/
def UWB_PORTn_PHS.PH9 (n : Nat) : Field := ⟨0x161C + 16 * n, 16, 16⟩
/-- UWB_LASTn (R245, spec/10_uwb_ranging.md): Port n last result. -/
def UWB_LASTn.reg (n : Nat) : Nat := 0x1650 + 4 * n
/-- UWB_LASTn [23:0] RANGE_CM. -/
def UWB_LASTn.RANGE_CM (n : Nat) : Field := ⟨0x1650 + 4 * n, 0, 24⟩
/-- UWB_LASTn [31:24] STSQ. -/
def UWB_LASTn.STSQ (n : Nat) : Field := ⟨0x1650 + 4 * n, 24, 8⟩
/-- UWB_CAL_STAT (R245, spec/10_uwb_ranging.md): Calibration in force. -/
def UWB_CAL_STAT.reg : Nat := 0x1660
/-- UWB_CAL_STAT [7:0] IRR. -/
def UWB_CAL_STAT.IRR : Field := ⟨0x1660, 0, 8⟩
/-- UWB_CAL_STAT [15:8] CAL_TEMP. -/
def UWB_CAL_STAT.CAL_TEMP : Field := ⟨0x1660, 8, 8⟩
/-- UWB_CNT0 (R245, spec/10_uwb_ranging.md): Exchanges, no replies. -/
def UWB_CNT0.reg : Nat := 0x1664
/-- UWB_CNT0 [15:0] EXCH. -/
def UWB_CNT0.EXCH : Field := ⟨0x1664, 0, 16⟩
/-- UWB_CNT0 [31:16] NORESP. -/
def UWB_CNT0.NORESP : Field := ⟨0x1664, 16, 16⟩
/-- UWB_CNT1 (R245, spec/10_uwb_ranging.md): STS failures, late transmissions. -/
def UWB_CNT1.reg : Nat := 0x1668
/-- UWB_CNT1 [15:0] STS_FAIL. -/
def UWB_CNT1.STS_FAIL : Field := ⟨0x1668, 0, 16⟩
/-- UWB_CNT1 [31:16] LATE. -/
def UWB_CNT1.LATE : Field := ⟨0x1668, 16, 16⟩
/-- UWB_CNT_CLR (R245, spec/10_uwb_ranging.md): Counter clear. -/
def UWB_CNT_CLR.reg : Nat := 0x166C
/-- UWB_CNT_CLR [0] CNT. -/
def UWB_CNT_CLR.CNT : Field := ⟨0x166C, 0, 1⟩
/-- VRD_CTL (R266, spec/11_verdict_engine.md): Activation, commit, event policy, margin, dummy rounds. -/
def VRD_CTL.reg : Nat := 0x1800
/-- VRD_CTL [0] ACT_RULES. -/
def VRD_CTL.ACT_RULES : Field := ⟨0x1800, 0, 1⟩
/-- VRD_CTL [1] ACT_MAP. -/
def VRD_CTL.ACT_MAP : Field := ⟨0x1800, 1, 1⟩
/-- VRD_CTL [2] COMMIT. -/
def VRD_CTL.COMMIT : Field := ⟨0x1800, 2, 1⟩
/-- VRD_CTL [3] BUSY. -/
def VRD_CTL.BUSY : Field := ⟨0x1800, 3, 1⟩
/-- VRD_CTL [4] VALID. -/
def VRD_CTL.VALID : Field := ⟨0x1800, 4, 1⟩
/-- VRD_CTL [5] COMMIT_ERR. -/
def VRD_CTL.COMMIT_ERR : Field := ⟨0x1800, 5, 1⟩
/-- VRD_CTL [7:6] EVT. -/
def VRD_CTL.EVT : Field := ⟨0x1800, 6, 2⟩
/-- VRD_CTL [15:8] MARGIN. -/
def VRD_CTL.MARGIN : Field := ⟨0x1800, 8, 8⟩
/-- VRD_CTL [18:16] MAC_DUMMY. -/
def VRD_CTL.MAC_DUMMY : Field := ⟨0x1800, 16, 3⟩
/-- VRD_STATUS (R266, spec/11_verdict_engine.md): Bank validity and swap state. -/
def VRD_STATUS.reg : Nat := 0x1804
/-- VRD_STATUS [0] RULES_VALID. -/
def VRD_STATUS.RULES_VALID : Field := ⟨0x1804, 0, 1⟩
/-- VRD_STATUS [1] MAP_VALID. -/
def VRD_STATUS.MAP_VALID : Field := ⟨0x1804, 1, 1⟩
/-- VRD_STATUS [2] STG_RULES. -/
def VRD_STATUS.STG_RULES : Field := ⟨0x1804, 2, 1⟩
/-- VRD_STATUS [3] STG_MAP. -/
def VRD_STATUS.STG_MAP : Field := ⟨0x1804, 3, 1⟩
/-- VRD_STATUS [4] LOADING. -/
def VRD_STATUS.LOADING : Field := ⟨0x1804, 4, 1⟩
/-- VRD_STATUS [5] SWAP_PEND. -/
def VRD_STATUS.SWAP_PEND : Field := ⟨0x1804, 5, 1⟩
/-- VRD_STATUS [6] BUSY. -/
def VRD_STATUS.BUSY : Field := ⟨0x1804, 6, 1⟩
/-- VRD_STATUS [7] SWAP_ERR. -/
def VRD_STATUS.SWAP_ERR : Field := ⟨0x1804, 7, 1⟩
/-- VRD_STATUS [31] ERR_RANGE. -/
def VRD_STATUS.ERR_RANGE : Field := ⟨0x1804, 31, 1⟩
/-- VRD_RULES_VER (R266, spec/11_verdict_engine.md): VERSION of the active rule set. -/
def VRD_RULES_VER.reg : Nat := 0x1808
/-- VRD_RULES_VER [31:0] VERSION. -/
def VRD_RULES_VER.VERSION : Field := ⟨0x1808, 0, 32⟩
/-- VRD_MAP_VER (R266, spec/11_verdict_engine.md): VERSION of the active map. -/
def VRD_MAP_VER.reg : Nat := 0x180C
/-- VRD_MAP_VER [31:0] VERSION. -/
def VRD_MAP_VER.VERSION : Field := ⟨0x180C, 0, 32⟩
/-- VRD_STG_RULES_VER (R266, spec/11_verdict_engine.md): VERSION of the staged rule set. -/
def VRD_STG_RULES_VER.reg : Nat := 0x1810
/-- VRD_STG_RULES_VER [31:0] VERSION. -/
def VRD_STG_RULES_VER.VERSION : Field := ⟨0x1810, 0, 32⟩
/-- VRD_STG_MAP_VER (R266, spec/11_verdict_engine.md): VERSION of the staged map. -/
def VRD_STG_MAP_VER.reg : Nat := 0x1814
/-- VRD_STG_MAP_VER [31:0] VERSION. -/
def VRD_STG_MAP_VER.VERSION : Field := ⟨0x1814, 0, 32⟩
/-- VRD_SIZE (R266, spec/11_verdict_engine.md): Counts of the active sets. -/
def VRD_SIZE.reg : Nat := 0x1818
/-- VRD_SIZE [8:0] NGATES. -/
def VRD_SIZE.NGATES : Field := ⟨0x1818, 0, 9⟩
/-- VRD_SIZE [15:9] NACT. -/
def VRD_SIZE.NACT : Field := ⟨0x1818, 9, 7⟩
/-- VRD_SIZE [24:16] NTEMPL. -/
def VRD_SIZE.NTEMPL : Field := ⟨0x1818, 16, 9⟩
/-- VRD_STG_SIZE (R266, spec/11_verdict_engine.md): Counts of the staged sets. -/
def VRD_STG_SIZE.reg : Nat := 0x181C
/-- VRD_STG_SIZE [8:0] NGATES. -/
def VRD_STG_SIZE.NGATES : Field := ⟨0x181C, 0, 9⟩
/-- VRD_STG_SIZE [15:9] NACT. -/
def VRD_STG_SIZE.NACT : Field := ⟨0x181C, 9, 7⟩
/-- VRD_STG_SIZE [24:16] NTEMPL. -/
def VRD_STG_SIZE.NTEMPL : Field := ⟨0x181C, 16, 9⟩
/-- VRD_LAST (R266, spec/11_verdict_engine.md): Path timing and last status. -/
def VRD_LAST.reg : Nat := 0x1820
/-- VRD_LAST [7:0] CYCLES. -/
def VRD_LAST.CYCLES : Field := ⟨0x1820, 0, 8⟩
/-- VRD_LAST [15:8] MAX_CYCLES. -/
def VRD_LAST.MAX_CYCLES : Field := ⟨0x1820, 8, 8⟩
/-- VRD_LAST [23:16] WAIT_MAX. -/
def VRD_LAST.WAIT_MAX : Field := ⟨0x1820, 16, 8⟩
/-- VRD_LAST [31:24] STATUS. -/
def VRD_LAST.STATUS : Field := ⟨0x1820, 24, 8⟩
/-- VRD_CNT0 (R266, spec/11_verdict_engine.md): Verdicts, verdicts that acted. -/
def VRD_CNT0.reg : Nat := 0x1824
/-- VRD_CNT0 [15:0] VERDICTS. -/
def VRD_CNT0.VERDICTS : Field := ⟨0x1824, 0, 16⟩
/-- VRD_CNT0 [31:16] ACTED. -/
def VRD_CNT0.ACTED : Field := ⟨0x1824, 16, 16⟩
/-- VRD_CNT1 (R266, spec/11_verdict_engine.md): Relay suspects, verdicts with no match. -/
def VRD_CNT1.reg : Nat := 0x1828
/-- VRD_CNT1 [15:0] RELAY. -/
def VRD_CNT1.RELAY : Field := ⟨0x1828, 0, 16⟩
/-- VRD_CNT1 [31:16] NOMATCH. -/
def VRD_CNT1.NOMATCH : Field := ⟨0x1828, 16, 16⟩
/-- VRD_CNT2 (R266, spec/11_verdict_engine.md): Ranging misses, skips, stale answers, ambiguities. -/
def VRD_CNT2.reg : Nat := 0x182C
/-- VRD_CNT2 [7:0] NORANGE. -/
def VRD_CNT2.NORANGE : Field := ⟨0x182C, 0, 8⟩
/-- VRD_CNT2 [15:8] ACT_SKIP. -/
def VRD_CNT2.ACT_SKIP : Field := ⟨0x182C, 8, 8⟩
/-- VRD_CNT2 [23:16] STALE. -/
def VRD_CNT2.STALE : Field := ⟨0x182C, 16, 8⟩
/-- VRD_CNT2 [31:24] AMBIG. -/
def VRD_CNT2.AMBIG : Field := ⟨0x182C, 24, 8⟩
/-- VRD_CNT_CLR (R266, spec/11_verdict_engine.md): Counter clear. -/
def VRD_CNT_CLR.reg : Nat := 0x1830
/-- VRD_CNT_CLR [0] CNT. -/
def VRD_CNT_CLR.CNT : Field := ⟨0x1830, 0, 1⟩
/-- VRD_CNT_CLR [1] LAST. -/
def VRD_CNT_CLR.LAST : Field := ⟨0x1830, 1, 1⟩
/-- FLK_CTL (R298, spec/12_flock_immobiliser.md): Events, pinfold reach, commit. -/
def FLK_CTL.reg : Nat := 0x1C00
/-- FLK_CTL [0] COMMIT. -/
def FLK_CTL.COMMIT : Field := ⟨0x1C00, 0, 1⟩
/-- FLK_CTL [1] BUSY. -/
def FLK_CTL.BUSY : Field := ⟨0x1C00, 1, 1⟩
/-- FLK_CTL [2] VALID. -/
def FLK_CTL.VALID : Field := ⟨0x1C00, 2, 1⟩
/-- FLK_CTL [3] COMMIT_ERR. -/
def FLK_CTL.COMMIT_ERR : Field := ⟨0x1C00, 3, 1⟩
/-- FLK_CTL [4] PIN_EVT. -/
def FLK_CTL.PIN_EVT : Field := ⟨0x1C00, 4, 1⟩
/-- FLK_CTL [5] ECU_EVT. -/
def FLK_CTL.ECU_EVT : Field := ⟨0x1C00, 5, 1⟩
/-- FLK_CTL [10:8] PIN_UP. -/
def FLK_CTL.PIN_UP : Field := ⟨0x1C00, 8, 3⟩
/-- FLK_STATUS (R298, spec/12_flock_immobiliser.md): Flock, learn, pairing, permission, flags. -/
def FLK_STATUS.reg : Nat := 0x1C04
/-- FLK_STATUS [0] FLOCK_VALID. -/
def FLK_STATUS.FLOCK_VALID : Field := ⟨0x1C04, 0, 1⟩
/-- FLK_STATUS [1] LEARN_BUSY. -/
def FLK_STATUS.LEARN_BUSY : Field := ⟨0x1C04, 1, 1⟩
/-- FLK_STATUS [2] BW_WAIT. -/
def FLK_STATUS.BW_WAIT : Field := ⟨0x1C04, 2, 1⟩
/-- FLK_STATUS [3] PAIRED. -/
def FLK_STATUS.PAIRED : Field := ⟨0x1C04, 3, 1⟩
/-- FLK_STATUS [4] START_ACTIVE. -/
def FLK_STATUS.START_ACTIVE : Field := ⟨0x1C04, 4, 1⟩
/-- FLK_STATUS [11:8] END_REASON. -/
def FLK_STATUS.END_REASON : Field := ⟨0x1C04, 8, 4⟩
/-- FLK_STATUS [12] ECU_SILENT. -/
def FLK_STATUS.ECU_SILENT : Field := ⟨0x1C04, 12, 1⟩
/-- FLK_STATUS [13] PIN_LOST. -/
def FLK_STATUS.PIN_LOST : Field := ⟨0x1C04, 13, 1⟩
/-- FLK_STATUS [14] TRACK_FULL. -/
def FLK_STATUS.TRACK_FULL : Field := ⟨0x1C04, 14, 1⟩
/-- FLK_STATUS [31] ERR_RANGE. -/
def FLK_STATUS.ERR_RANGE : Field := ⟨0x1C04, 31, 1⟩
/-- FLK_FLOCK (R298, spec/12_flock_immobiliser.md): Epoch and token counts. -/
def FLK_FLOCK.reg : Nat := 0x1C08
/-- FLK_FLOCK [7:0] EPOCH. -/
def FLK_FLOCK.EPOCH : Field := ⟨0x1C08, 0, 8⟩
/-- FLK_FLOCK [15:8] NEXT. -/
def FLK_FLOCK.NEXT : Field := ⟨0x1C08, 8, 8⟩
/-- FLK_FLOCK [22:16] TOKENS. -/
def FLK_FLOCK.TOKENS : Field := ⟨0x1C08, 16, 7⟩
/-- FLK_FLOCK [30:24] BELLS. -/
def FLK_FLOCK.BELLS : Field := ⟨0x1C08, 24, 7⟩
/-- FLK_VID (R298, spec/12_flock_immobiliser.md): Vehicle ID. -/
def FLK_VID.reg : Nat := 0x1C0C
/-- FLK_VID [23:0] VID. -/
def FLK_VID.VID : Field := ⟨0x1C0C, 0, 24⟩
/-- FLK_PTIME (R298, spec/12_flock_immobiliser.md): Pinfold time (R280). -/
def FLK_PTIME.reg : Nat := 0x1C10
/-- FLK_PTIME [31:0] PTIME. -/
def FLK_PTIME.PTIME : Field := ⟨0x1C10, 0, 32⟩
/-- FLK_START_CTL (R298, spec/12_flock_immobiliser.md): STARTEN enable and hold. -/
def FLK_START_CTL.reg : Nat := 0x1C14
/-- FLK_START_CTL [11:0] HOLD_S. -/
def FLK_START_CTL.HOLD_S : Field := ⟨0x1C14, 0, 12⟩
/-- FLK_START_CTL [12] EN. -/
def FLK_START_CTL.EN : Field := ⟨0x1C14, 12, 1⟩
/-- FLK_DRIVER (R298, spec/12_flock_immobiliser.md): Driver of record. -/
def FLK_DRIVER.reg : Nat := 0x1C18
/-- FLK_DRIVER [7:0] DOR. -/
def FLK_DRIVER.DOR : Field := ⟨0x1C18, 0, 8⟩
/-- FLK_DRIVER [15:8] CO. -/
def FLK_DRIVER.CO : Field := ⟨0x1C18, 8, 8⟩
/-- FLK_DRIVER [16] CO_PRESENT. -/
def FLK_DRIVER.CO_PRESENT : Field := ⟨0x1C18, 16, 1⟩
/-- FLK_PIN_CNT (R298, spec/12_flock_immobiliser.md): Pinfold counts. -/
def FLK_PIN_CNT.reg : Nat := 0x1C1C
/-- FLK_PIN_CNT [7:0] OWN. -/
def FLK_PIN_CNT.OWN : Field := ⟨0x1C1C, 0, 8⟩
/-- FLK_PIN_CNT [15:8] TRACKED. -/
def FLK_PIN_CNT.TRACKED : Field := ⟨0x1C1C, 8, 8⟩
/-- FLK_PIN_CNT [31:16] ENGAGED. -/
def FLK_PIN_CNT.ENGAGED : Field := ⟨0x1C1C, 16, 16⟩
/-- FLK_AUTH_CNT (R298, spec/12_flock_immobiliser.md): AUTH_FAIL, REPLAY (Table 08.8). -/
def FLK_AUTH_CNT.reg : Nat := 0x1C20
/-- FLK_AUTH_CNT [15:0] AUTH_FAIL. -/
def FLK_AUTH_CNT.AUTH_FAIL : Field := ⟨0x1C20, 0, 16⟩
/-- FLK_AUTH_CNT [31:16] REPLAY. -/
def FLK_AUTH_CNT.REPLAY : Field := ⟨0x1C20, 16, 16⟩
/-- FLK_COIL_CNT (R298, spec/12_flock_immobiliser.md): COIL_CRC (Table 08.8). -/
def FLK_COIL_CNT.reg : Nat := 0x1C24
/-- FLK_COIL_CNT [15:0] COIL_CRC. -/
def FLK_COIL_CNT.COIL_CRC : Field := ⟨0x1C24, 0, 16⟩
/-- FLK_CAN_CFG (R298, spec/12_flock_immobiliser.md): CAN enable and data rate. -/
def FLK_CAN_CFG.reg : Nat := 0x1C28
/-- FLK_CAN_CFG [0] EN. -/
def FLK_CAN_CFG.EN : Field := ⟨0x1C28, 0, 1⟩
/-- FLK_CAN_CFG [2:1] DRATE. -/
def FLK_CAN_CFG.DRATE : Field := ⟨0x1C28, 1, 2⟩
/-- FLK_CAN_STAT (R298, spec/12_flock_immobiliser.md): CAN error state. -/
def FLK_CAN_STAT.reg : Nat := 0x1C2C
/-- FLK_CAN_STAT [7:0] TEC. -/
def FLK_CAN_STAT.TEC : Field := ⟨0x1C2C, 0, 8⟩
/-- FLK_CAN_STAT [15:8] REC. -/
def FLK_CAN_STAT.REC : Field := ⟨0x1C2C, 8, 8⟩
/-- FLK_CAN_STAT [17:16] STATE. -/
def FLK_CAN_STAT.STATE : Field := ⟨0x1C2C, 16, 2⟩
/-- FLK_ECU_BASE (R298, spec/12_flock_immobiliser.md): Paired ID block. -/
def FLK_ECU_BASE.reg : Nat := 0x1C30
/-- FLK_ECU_BASE [28:0] BASE. -/
def FLK_ECU_BASE.BASE : Field := ⟨0x1C30, 0, 29⟩
/-- FLK_ECU_BASE [29] XTD. -/
def FLK_ECU_BASE.XTD : Field := ⟨0x1C30, 29, 1⟩
/-- FLK_ECU_BASE [30] PAIRED. -/
def FLK_ECU_BASE.PAIRED : Field := ⟨0x1C30, 30, 1⟩
/-- FLK_ECU_CNT0 (R298, spec/12_flock_immobiliser.md): Answers, selects. -/
def FLK_ECU_CNT0.reg : Nat := 0x1C34
/-- FLK_ECU_CNT0 [15:0] ANSWERED. -/
def FLK_ECU_CNT0.ANSWERED : Field := ⟨0x1C34, 0, 16⟩
/-- FLK_ECU_CNT0 [31:16] SELECT. -/
def FLK_ECU_CNT0.SELECT : Field := ⟨0x1C34, 16, 16⟩
/-- FLK_ECU_CNT1 (R298, spec/12_flock_immobiliser.md): Violations, drops, silences. -/
def FLK_ECU_CNT1.reg : Nat := 0x1C38
/-- FLK_ECU_CNT1 [15:0] VIOL. -/
def FLK_ECU_CNT1.VIOL : Field := ⟨0x1C38, 0, 16⟩
/-- FLK_ECU_CNT1 [23:16] DROP. -/
def FLK_ECU_CNT1.DROP : Field := ⟨0x1C38, 16, 8⟩
/-- FLK_ECU_CNT1 [31:24] SILENCES. -/
def FLK_ECU_CNT1.SILENCES : Field := ⟨0x1C38, 24, 8⟩
/-- FLK_CNT_CLR (R298, spec/12_flock_immobiliser.md): Counter clear. -/
def FLK_CNT_CLR.reg : Nat := 0x1C3C
/-- FLK_CNT_CLR [0] AUTH. -/
def FLK_CNT_CLR.AUTH : Field := ⟨0x1C3C, 0, 1⟩
/-- FLK_CNT_CLR [1] COIL. -/
def FLK_CNT_CLR.COIL : Field := ⟨0x1C3C, 1, 1⟩
/-- FLK_CNT_CLR [2] ECU. -/
def FLK_CNT_CLR.ECU : Field := ⟨0x1C3C, 2, 1⟩
/-- FLK_CNT_CLR [3] PIN. -/
def FLK_CNT_CLR.PIN : Field := ⟨0x1C3C, 3, 1⟩
/-- CRY_CTL (R323, spec/13_cipher_engine.md): Dummy rounds, commit. -/
def CRY_CTL.reg : Nat := 0x2000
/-- CRY_CTL [0] COMMIT. -/
def CRY_CTL.COMMIT : Field := ⟨0x2000, 0, 1⟩
/-- CRY_CTL [1] BUSY. -/
def CRY_CTL.BUSY : Field := ⟨0x2000, 1, 1⟩
/-- CRY_CTL [2] VALID. -/
def CRY_CTL.VALID : Field := ⟨0x2000, 2, 1⟩
/-- CRY_CTL [3] COMMIT_ERR. -/
def CRY_CTL.COMMIT_ERR : Field := ⟨0x2000, 3, 1⟩
/-- CRY_CTL [6:4] DUMMY_MAX. -/
def CRY_CTL.DUMMY_MAX : Field := ⟨0x2000, 4, 3⟩
/-- CRY_STATUS (R323, spec/13_cipher_engine.md): Engine and PKE state, root availability. -/
def CRY_STATUS.reg : Nat := 0x2004
/-- CRY_STATUS [0] BUSY. -/
def CRY_STATUS.BUSY : Field := ⟨0x2004, 0, 1⟩
/-- CRY_STATUS [3:1] ACTIVE. -/
def CRY_STATUS.ACTIVE : Field := ⟨0x2004, 1, 3⟩
/-- CRY_STATUS [8:4] QUEUED. -/
def CRY_STATUS.QUEUED : Field := ⟨0x2004, 4, 5⟩
/-- CRY_STATUS [9] PKE_BUSY. -/
def CRY_STATUS.PKE_BUSY : Field := ⟨0x2004, 9, 1⟩
/-- CRY_STATUS [10] ROOT_OK. -/
def CRY_STATUS.ROOT_OK : Field := ⟨0x2004, 10, 1⟩
/-- CRY_STATUS [11] MASK_DEGRADED. -/
def CRY_STATUS.MASK_DEGRADED : Field := ⟨0x2004, 11, 1⟩
/-- CRY_STATUS [31] ERR_RANGE. -/
def CRY_STATUS.ERR_RANGE : Field := ⟨0x2004, 31, 1⟩
/-- CRY_SLOTS_LO (R323, spec/13_cipher_engine.md): Occupied slots 0–31. -/
def CRY_SLOTS_LO.reg : Nat := 0x2008
/-- CRY_SLOTS_LO [31:0] OCC. -/
def CRY_SLOTS_LO.OCC : Field := ⟨0x2008, 0, 32⟩
/-- CRY_SLOTS_HI (R323, spec/13_cipher_engine.md): Occupied slots 32–63. -/
def CRY_SLOTS_HI.reg : Nat := 0x200C
/-- CRY_SLOTS_HI [31:0] OCC. -/
def CRY_SLOTS_HI.OCC : Field := ⟨0x200C, 0, 32⟩
/-- CRY_CNT0 (R323, spec/13_cipher_engine.md): Tag and unwrap failures. -/
def CRY_CNT0.reg : Nat := 0x2010
/-- CRY_CNT0 [15:0] TAG_FAIL. -/
def CRY_CNT0.TAG_FAIL : Field := ⟨0x2010, 0, 16⟩
/-- CRY_CNT0 [31:16] UNWRAP_FAIL. -/
def CRY_CNT0.UNWRAP_FAIL : Field := ⟨0x2010, 16, 16⟩
/-- CRY_CNT1 (R323, spec/13_cipher_engine.md): Padding and MAC failures. -/
def CRY_CNT1.reg : Nat := 0x2014
/-- CRY_CNT1 [15:0] PAD_FAIL. -/
def CRY_CNT1.PAD_FAIL : Field := ⟨0x2014, 0, 16⟩
/-- CRY_CNT1 [31:16] MAC_FAIL. -/
def CRY_CNT1.MAC_FAIL : Field := ⟨0x2014, 16, 16⟩
/-- CRY_PKE_CNT (R323, spec/13_cipher_engine.md): Signatures and verifications. -/
def CRY_PKE_CNT.reg : Nat := 0x2018
/-- CRY_PKE_CNT [15:0] SIGN. -/
def CRY_PKE_CNT.SIGN : Field := ⟨0x2018, 0, 16⟩
/-- CRY_PKE_CNT [31:16] VERIFY. -/
def CRY_PKE_CNT.VERIFY : Field := ⟨0x2018, 16, 16⟩
/-- CRY_CNT_CLR (R323, spec/13_cipher_engine.md): Counter clear. -/
def CRY_CNT_CLR.reg : Nat := 0x201C
/-- CRY_CNT_CLR [0] CNT. -/
def CRY_CNT_CLR.CNT : Field := ⟨0x201C, 0, 1⟩
/-- CRY_SLOTn (R323, spec/13_cipher_engine.md): Slot n attributes, n = 0–63. -/
def CRY_SLOTn.reg (n : Nat) : Nat := 0x2040 + 4 * n
/-- CRY_SLOTn [2:0] KIND. -/
def CRY_SLOTn.KIND (n : Nat) : Field := ⟨0x2040 + 4 * n, 0, 3⟩
/-- CRY_SLOTn [10:4] USAGE. -/
def CRY_SLOTn.USAGE (n : Nat) : Field := ⟨0x2040 + 4 * n, 4, 7⟩
/-- CRY_SLOTn [11] BUSY. -/
def CRY_SLOTn.BUSY (n : Nat) : Field := ⟨0x2040 + 4 * n, 11, 1⟩
/-- CRY_SLOTn [23:16] GEN. -/
def CRY_SLOTn.GEN (n : Nat) : Field := ⟨0x2040 + 4 * n, 16, 8⟩
/-- CRY_SLOTn [25:24] ORIGIN. -/
def CRY_SLOTn.ORIGIN (n : Nat) : Field := ⟨0x2040 + 4 * n, 24, 2⟩
/-- CRY_DAK_PUBn (R323, spec/13_cipher_engine.md): DAK public key, n = 0–15. -/
def CRY_DAK_PUBn.reg (n : Nat) : Nat := 0x2180 + 4 * n
/-- CRY_DAK_PUBn [31:0] PUB. -/
def CRY_DAK_PUBn.PUB (n : Nat) : Field := ⟨0x2180 + 4 * n, 0, 32⟩
/-- RNG_CTL (R338, spec/14_random_numbers.md): Test source, estimator enable. -/
def RNG_CTL.reg : Nat := 0x2200
/-- RNG_CTL [0] TEST_SRC. -/
def RNG_CTL.TEST_SRC : Field := ⟨0x2200, 0, 1⟩
/-- RNG_CTL [1] EST_EN. -/
def RNG_CTL.EST_EN : Field := ⟨0x2200, 1, 1⟩
/-- RNG_STATUS (R338, spec/14_random_numbers.md): State, failures, pool. -/
def RNG_STATUS.reg : Nat := 0x2204
/-- RNG_STATUS [2:0] STATE. -/
def RNG_STATUS.STATE : Field := ⟨0x2204, 0, 3⟩
/-- RNG_STATUS [4:3] FAILS. -/
def RNG_STATUS.FAILS : Field := ⟨0x2204, 3, 2⟩
/-- RNG_STATUS [5] POOL_FULL. -/
def RNG_STATUS.POOL_FULL : Field := ⟨0x2204, 5, 1⟩
/-- RNG_STATUS [6] RESEED_DUE. -/
def RNG_STATUS.RESEED_DUE : Field := ⟨0x2204, 6, 1⟩
/-- RNG_STATUS [7] TEST_ACTIVE. -/
def RNG_STATUS.TEST_ACTIVE : Field := ⟨0x2204, 7, 1⟩
/-- RNG_STATUS [9:8] LAST_FAIL. -/
def RNG_STATUS.LAST_FAIL : Field := ⟨0x2204, 8, 2⟩
/-- RNG_STATUS [31] ERR_RANGE. -/
def RNG_STATUS.ERR_RANGE : Field := ⟨0x2204, 31, 1⟩
/-- RNG_TEST_PAT (R338, spec/14_random_numbers.md): Test pattern. -/
def RNG_TEST_PAT.reg : Nat := 0x2208
/-- RNG_TEST_PAT [31:0] PAT. -/
def RNG_TEST_PAT.PAT : Field := ⟨0x2208, 0, 32⟩
/-- RNG_EST0 (R338, spec/14_random_numbers.md): BIAS, C1. -/
def RNG_EST0.reg : Nat := 0x220C
/-- RNG_EST0 [15:0] BIAS. -/
def RNG_EST0.BIAS : Field := ⟨0x220C, 0, 16⟩
/-- RNG_EST0 [31:16] C1. -/
def RNG_EST0.C1 : Field := ⟨0x220C, 16, 16⟩
/-- RNG_EST1 (R338, spec/14_random_numbers.md): C2, C3. -/
def RNG_EST1.reg : Nat := 0x2210
/-- RNG_EST1 [15:0] C2. -/
def RNG_EST1.C2 : Field := ⟨0x2210, 0, 16⟩
/-- RNG_EST1 [31:16] C3. -/
def RNG_EST1.C3 : Field := ⟨0x2210, 16, 16⟩
/-- RNG_EST2 (R338, spec/14_random_numbers.md): C4, APT_MAX. -/
def RNG_EST2.reg : Nat := 0x2214
/-- RNG_EST2 [15:0] C4. -/
def RNG_EST2.C4 : Field := ⟨0x2214, 0, 16⟩
/-- RNG_EST2 [26:16] APT_MAX. -/
def RNG_EST2.APT_MAX : Field := ⟨0x2214, 16, 11⟩
/-- RNG_CNT0 (R338, spec/14_random_numbers.md): Failure and Steep counts. -/
def RNG_CNT0.reg : Nat := 0x2218
/-- RNG_CNT0 [7:0] RCT_FAIL. -/
def RNG_CNT0.RCT_FAIL : Field := ⟨0x2218, 0, 8⟩
/-- RNG_CNT0 [15:8] APT_FAIL. -/
def RNG_CNT0.APT_FAIL : Field := ⟨0x2218, 8, 8⟩
/-- RNG_CNT0 [23:16] KAT_FAIL. -/
def RNG_CNT0.KAT_FAIL : Field := ⟨0x2218, 16, 8⟩
/-- RNG_CNT0 [31:24] STEEPS. -/
def RNG_CNT0.STEEPS : Field := ⟨0x2218, 24, 8⟩
/-- RNG_RESEED_CNT (R338, spec/14_random_numbers.md): Reseeds. -/
def RNG_RESEED_CNT.reg : Nat := 0x221C
/-- RNG_RESEED_CNT [31:0] RESEEDS. -/
def RNG_RESEED_CNT.RESEEDS : Field := ⟨0x221C, 0, 32⟩
/-- RNG_REQ_CNT (R338, spec/14_random_numbers.md): Requests since reseed. -/
def RNG_REQ_CNT.reg : Nat := 0x2220
/-- RNG_REQ_CNT [16:0] SINCE_RESEED. -/
def RNG_REQ_CNT.SINCE_RESEED : Field := ⟨0x2220, 0, 17⟩
/-- RNG_CNT_CLR (R338, spec/14_random_numbers.md): Counter clear. -/
def RNG_CNT_CLR.reg : Nat := 0x2224
/-- RNG_CNT_CLR [0] CNT. -/
def RNG_CNT_CLR.CNT : Field := ⟨0x2224, 0, 1⟩
/-- NVS_CTL (R364, spec/15_nv_store_tally.md): Scrubber. -/
def NVS_CTL.reg : Nat := 0x2400
/-- NVS_CTL [0] SCRUB_EN. -/
def NVS_CTL.SCRUB_EN : Field := ⟨0x2400, 0, 1⟩
/-- NVS_CTL [15:8] SCRUB_H. -/
def NVS_CTL.SCRUB_H : Field := ⟨0x2400, 8, 8⟩
/-- NVS_STATUS (R364, spec/15_nv_store_tally.md): Recall, buffer, hold-up and record flags. -/
def NVS_STATUS.reg : Nat := 0x2404
/-- NVS_STATUS [0] PASTURE_LOADED. -/
def NVS_STATUS.PASTURE_LOADED : Field := ⟨0x2404, 0, 1⟩
/-- NVS_STATUS [1] LEDGER_READY. -/
def NVS_STATUS.LEDGER_READY : Field := ⟨0x2404, 1, 1⟩
/-- NVS_STATUS [2] DRAINING. -/
def NVS_STATUS.DRAINING : Field := ⟨0x2404, 2, 1⟩
/-- NVS_STATUS [12:3] BUF_FILL. -/
def NVS_STATUS.BUF_FILL : Field := ⟨0x2404, 3, 10⟩
/-- NVS_STATUS [13] HOLD_LOW. -/
def NVS_STATUS.HOLD_LOW : Field := ⟨0x2404, 13, 1⟩
/-- NVS_STATUS [14] TWIN. -/
def NVS_STATUS.TWIN : Field := ⟨0x2404, 14, 1⟩
/-- NVS_STATUS [15] REPAIRED. -/
def NVS_STATUS.REPAIRED : Field := ⟨0x2404, 15, 1⟩
/-- NVS_STATUS [16] DRAIN_DONE. -/
def NVS_STATUS.DRAIN_DONE : Field := ⟨0x2404, 16, 1⟩
/-- NVS_STATUS [17] DRAIN_CUT. -/
def NVS_STATUS.DRAIN_CUT : Field := ⟨0x2404, 17, 1⟩
/-- NVS_STATUS [31] ERR_RANGE. -/
def NVS_STATUS.ERR_RANGE : Field := ⟨0x2404, 31, 1⟩
/-- NVS_MAP (R364, spec/15_nv_store_tally.md): Array and Ledger region sizes. -/
def NVS_MAP.reg : Nat := 0x2408
/-- NVS_MAP [7:0] MRAM_MIB. -/
def NVS_MAP.MRAM_MIB : Field := ⟨0x2408, 0, 8⟩
/-- NVS_MAP [23:16] LEDGER_MIB. -/
def NVS_MAP.LEDGER_MIB : Field := ⟨0x2408, 16, 8⟩
/-- NVS_HOLD (R364, spec/15_nv_store_tally.md): Last VHOLD measurement. -/
def NVS_HOLD.reg : Nat := 0x240C
/-- NVS_HOLD [8:0] HOLD_CV. -/
def NVS_HOLD.HOLD_CV : Field := ⟨0x240C, 0, 9⟩
/-- NVS_ECC_CNT (R364, spec/15_nv_store_tally.md): Corrected and uncorrectable words. -/
def NVS_ECC_CNT.reg : Nat := 0x2410
/-- NVS_ECC_CNT [15:0] CORR. -/
def NVS_ECC_CNT.CORR : Field := ⟨0x2410, 0, 16⟩
/-- NVS_ECC_CNT [31:16] UNCORR. -/
def NVS_ECC_CNT.UNCORR : Field := ⟨0x2410, 16, 16⟩
/-- NVS_ERR_ADDR (R364, spec/15_nv_store_tally.md): Last uncorrectable word. -/
def NVS_ERR_ADDR.reg : Nat := 0x2414
/-- NVS_ERR_ADDR [25:0] ADDR. -/
def NVS_ERR_ADDR.ADDR : Field := ⟨0x2414, 0, 26⟩
/-- NVS_ERR_ADDR [31] VALID. -/
def NVS_ERR_ADDR.VALID : Field := ⟨0x2414, 31, 1⟩
/-- NVS_REC_CNT (R364, spec/15_nv_store_tally.md): Repairs, twin conflicts, failed writes. -/
def NVS_REC_CNT.reg : Nat := 0x2418
/-- NVS_REC_CNT [15:0] REPAIRS. -/
def NVS_REC_CNT.REPAIRS : Field := ⟨0x2418, 0, 16⟩
/-- NVS_REC_CNT [23:16] TWIN. -/
def NVS_REC_CNT.TWIN : Field := ⟨0x2418, 16, 8⟩
/-- NVS_REC_CNT [31:24] WFAIL. -/
def NVS_REC_CNT.WFAIL : Field := ⟨0x2418, 24, 8⟩
/-- NVS_TALLY_CNT (R364, spec/15_nv_store_tally.md): Increments, invalid cells, saturations. -/
def NVS_TALLY_CNT.reg : Nat := 0x241C
/-- NVS_TALLY_CNT [15:0] INC. -/
def NVS_TALLY_CNT.INC : Field := ⟨0x241C, 0, 16⟩
/-- NVS_TALLY_CNT [23:16] INVALID. -/
def NVS_TALLY_CNT.INVALID : Field := ⟨0x241C, 16, 8⟩
/-- NVS_TALLY_CNT [31:24] SAT. -/
def NVS_TALLY_CNT.SAT : Field := ⟨0x241C, 24, 8⟩
/-- NVS_CNT_CLR (R364, spec/15_nv_store_tally.md): Counter clear. -/
def NVS_CNT_CLR.reg : Nat := 0x2420
/-- NVS_CNT_CLR [0] ECC. -/
def NVS_CNT_CLR.ECC : Field := ⟨0x2420, 0, 1⟩
/-- NVS_CNT_CLR [1] REC. -/
def NVS_CNT_CLR.REC : Field := ⟨0x2420, 1, 1⟩
/-- NVS_CNT_CLR [2] TALLY. -/
def NVS_CNT_CLR.TALLY : Field := ⟨0x2420, 2, 1⟩
/-- LGR_CTL (R387, spec/16_custody_ledger.md): Events, fill warning, seal time, commit. -/
def LGR_CTL.reg : Nat := 0x2600
/-- LGR_CTL [0] COMMIT. -/
def LGR_CTL.COMMIT : Field := ⟨0x2600, 0, 1⟩
/-- LGR_CTL [1] BUSY. -/
def LGR_CTL.BUSY : Field := ⟨0x2600, 1, 1⟩
/-- LGR_CTL [2] VALID. -/
def LGR_CTL.VALID : Field := ⟨0x2600, 2, 1⟩
/-- LGR_CTL [3] COMMIT_ERR. -/
def LGR_CTL.COMMIT_ERR : Field := ⟨0x2600, 3, 1⟩
/-- LGR_CTL [4] EVT. -/
def LGR_CTL.EVT : Field := ⟨0x2600, 4, 1⟩
/-- LGR_CTL [14:8] FULL_WARN. -/
def LGR_CTL.FULL_WARN : Field := ⟨0x2600, 8, 7⟩
/-- LGR_CTL [27:16] SEAL_S. -/
def LGR_CTL.SEAL_S : Field := ⟨0x2600, 16, 12⟩
/-- LGR_STATUS (R387, spec/16_custody_ledger.md): Readiness, open block, flags. -/
def LGR_STATUS.reg : Nat := 0x2604
/-- LGR_STATUS [0] READY. -/
def LGR_STATUS.READY : Field := ⟨0x2604, 0, 1⟩
/-- LGR_STATUS [1] OPEN. -/
def LGR_STATUS.OPEN : Field := ⟨0x2604, 1, 1⟩
/-- LGR_STATUS [4:2] OPEN_RECS. -/
def LGR_STATUS.OPEN_RECS : Field := ⟨0x2604, 2, 3⟩
/-- LGR_STATUS [5] CKPT_PEND. -/
def LGR_STATUS.CKPT_PEND : Field := ⟨0x2604, 5, 1⟩
/-- LGR_STATUS [6] MARGIN. -/
def LGR_STATUS.MARGIN : Field := ⟨0x2604, 6, 1⟩
/-- LGR_STATUS [7] FULL. -/
def LGR_STATUS.FULL : Field := ⟨0x2604, 7, 1⟩
/-- LGR_STATUS [8] LOST. -/
def LGR_STATUS.LOST : Field := ⟨0x2604, 8, 1⟩
/-- LGR_STATUS [9] BREAK. -/
def LGR_STATUS.BREAK : Field := ⟨0x2604, 9, 1⟩
/-- LGR_STATUS [10] LATE. -/
def LGR_STATUS.LATE : Field := ⟨0x2604, 10, 1⟩
/-- LGR_STATUS [31] ERR_RANGE. -/
def LGR_STATUS.ERR_RANGE : Field := ⟨0x2604, 31, 1⟩
/-- LGR_TAIL_SEQ (R387, spec/16_custody_ledger.md): TAIL. -/
def LGR_TAIL_SEQ.reg : Nat := 0x2608
/-- LGR_TAIL_SEQ [31:0] SEQ. -/
def LGR_TAIL_SEQ.SEQ : Field := ⟨0x2608, 0, 32⟩
/-- LGR_HEAD_SEQ (R387, spec/16_custody_ledger.md): HEAD. -/
def LGR_HEAD_SEQ.reg : Nat := 0x260C
/-- LGR_HEAD_SEQ [31:0] SEQ. -/
def LGR_HEAD_SEQ.SEQ : Field := ⟨0x260C, 0, 32⟩
/-- LGR_WMARK (R387, spec/16_custody_ledger.md): W. -/
def LGR_WMARK.reg : Nat := 0x2610
/-- LGR_WMARK [31:0] SEQ. -/
def LGR_WMARK.SEQ : Field := ⟨0x2610, 0, 32⟩
/-- LGR_SIGNED (R387, spec/16_custody_ledger.md): SIGNED. -/
def LGR_SIGNED.reg : Nat := 0x2614
/-- LGR_SIGNED [31:0] SEQ. -/
def LGR_SIGNED.SEQ : Field := ⟨0x2614, 0, 32⟩
/-- LGR_FREE (R387, spec/16_custody_ledger.md): FREE. -/
def LGR_FREE.reg : Nat := 0x2618
/-- LGR_FREE [31:0] FREE. -/
def LGR_FREE.FREE : Field := ⟨0x2618, 0, 32⟩
/-- LGR_CKPT (R387, spec/16_custody_ledger.md): Checkpoint count and ring index. -/
def LGR_CKPT.reg : Nat := 0x261C
/-- LGR_CKPT [23:0] COUNT. -/
def LGR_CKPT.COUNT : Field := ⟨0x261C, 0, 24⟩
/-- LGR_CKPT [31:24] IDX. -/
def LGR_CKPT.IDX : Field := ⟨0x261C, 24, 8⟩
/-- LGR_CNT0 (R387, spec/16_custody_ledger.md): Records appended. -/
def LGR_CNT0.reg : Nat := 0x2620
/-- LGR_CNT0 [15:0] DEVICE. -/
def LGR_CNT0.DEVICE : Field := ⟨0x2620, 0, 16⟩
/-- LGR_CNT0 [31:16] HOST. -/
def LGR_CNT0.HOST : Field := ⟨0x2620, 16, 16⟩
/-- LGR_CNT1 (R387, spec/16_custody_ledger.md): Records lost, appends refused. -/
def LGR_CNT1.reg : Nat := 0x2624
/-- LGR_CNT1 [15:0] LOST. -/
def LGR_CNT1.LOST : Field := ⟨0x2624, 0, 16⟩
/-- LGR_CNT1 [31:16] REFUSED. -/
def LGR_CNT1.REFUSED : Field := ⟨0x2624, 16, 16⟩
/-- LGR_CNT2 (R387, spec/16_custody_ledger.md): Repairs, breaks, failed checkpoints. -/
def LGR_CNT2.reg : Nat := 0x2628
/-- LGR_CNT2 [7:0] LATE. -/
def LGR_CNT2.LATE : Field := ⟨0x2628, 0, 8⟩
/-- LGR_CNT2 [15:8] BREAK. -/
def LGR_CNT2.BREAK : Field := ⟨0x2628, 8, 8⟩
/-- LGR_CNT2 [23:16] CKPT_FAIL. -/
def LGR_CNT2.CKPT_FAIL : Field := ⟨0x2628, 16, 8⟩
/-- LGR_CNT_CLR (R387, spec/16_custody_ledger.md): Counter clear. -/
def LGR_CNT_CLR.reg : Nat := 0x262C
/-- LGR_CNT_CLR [0] CNT. -/
def LGR_CNT_CLR.CNT : Field := ⟨0x262C, 0, 1⟩
/-- TMR_CTL (R406, spec/17_timers.md): Commit. -/
def TMR_CTL.reg : Nat := 0x2800
/-- TMR_CTL [0] COMMIT. -/
def TMR_CTL.COMMIT : Field := ⟨0x2800, 0, 1⟩
/-- TMR_CTL [1] BUSY. -/
def TMR_CTL.BUSY : Field := ⟨0x2800, 1, 1⟩
/-- TMR_CTL [2] VALID. -/
def TMR_CTL.VALID : Field := ⟨0x2800, 2, 1⟩
/-- TMR_CTL [3] COMMIT_ERR. -/
def TMR_CTL.COMMIT_ERR : Field := ⟨0x2800, 3, 1⟩
/-- TMR_STATUS (R406, spec/17_timers.md): Resolution and flags. -/
def TMR_STATUS.reg : Nat := 0x2804
/-- TMR_STATUS [1:0] RES. -/
def TMR_STATUS.RES : Field := ⟨0x2804, 0, 2⟩
/-- TMR_STATUS [2] LATE_SEEN. -/
def TMR_STATUS.LATE_SEEN : Field := ⟨0x2804, 2, 1⟩
/-- TMR_STATUS [3] OVR_SEEN. -/
def TMR_STATUS.OVR_SEEN : Field := ⟨0x2804, 3, 1⟩
/-- TMR_STATUS [4] MISS_SEEN. -/
def TMR_STATUS.MISS_SEEN : Field := ⟨0x2804, 4, 1⟩
/-- TMR_STATUS [31] ERR_RANGE. -/
def TMR_STATUS.ERR_RANGE : Field := ⟨0x2804, 31, 1⟩
/-- TMR_TB_LO (R406, spec/17_timers.md): TIMEBASE bits [31:0]. -/
def TMR_TB_LO.reg : Nat := 0x2808
/-- TMR_TB_LO [31:0] TB. -/
def TMR_TB_LO.TB : Field := ⟨0x2808, 0, 32⟩
/-- TMR_TB_HI (R406, spec/17_timers.md): TIMEBASE bits [63:32]. -/
def TMR_TB_HI.reg : Nat := 0x280C
/-- TMR_TB_HI [31:0] TB. -/
def TMR_TB_HI.TB : Field := ⟨0x280C, 0, 32⟩
/-- TMR_RESV (R406, spec/17_timers.md): Reserved channels. -/
def TMR_RESV.reg : Nat := 0x2810
/-- TMR_RESV [31:0] CH. -/
def TMR_RESV.CH : Field := ⟨0x2810, 0, 32⟩
/-- TMR_ARMED (R406, spec/17_timers.md): Channels armed. -/
def TMR_ARMED.reg : Nat := 0x2814
/-- TMR_ARMED [31:0] CH. -/
def TMR_ARMED.CH : Field := ⟨0x2814, 0, 32⟩
/-- TMR_NEW (R406, spec/17_timers.md): Channels with NEW = 1. -/
def TMR_NEW.reg : Nat := 0x2818
/-- TMR_NEW [31:0] CH. -/
def TMR_NEW.CH : Field := ⟨0x2818, 0, 32⟩
/-- TMR_OUT (R406, spec/17_timers.md): Channel outputs. -/
def TMR_OUT.reg : Nat := 0x281C
/-- TMR_OUT [31:0] CH. -/
def TMR_OUT.CH : Field := ⟨0x281C, 0, 32⟩
/-- TMR_PINFn (R406, spec/17_timers.md): Functions of GPIO 4n to 4n + 3, n = 0–5. -/
def TMR_PINFn.reg (n : Nat) : Nat := 0x2820 + 4 * n
/-- TMR_PINFn [8j+2:8j] FUNC. -/
def TMR_PINFn.FUNC (n j : Nat) : Field := ⟨0x2820 + 4 * n, 8 * j, 3⟩
/-- TMR_PINFn [8j+7:8j+3] CH. -/
def TMR_PINFn.CH (n j : Nat) : Field := ⟨0x2820 + 4 * n, 8 * j + 3, 5⟩
/-- TMR_PIN_IN (R406, spec/17_timers.md): Pad levels. -/
def TMR_PIN_IN.reg : Nat := 0x2838
/-- TMR_PIN_IN [23:0] GPIO. -/
def TMR_PIN_IN.GPIO : Field := ⟨0x2838, 0, 24⟩
/-- TMR_PIN_IN [31:24] WAKE. -/
def TMR_PIN_IN.WAKE : Field := ⟨0x2838, 24, 8⟩
/-- TMR_CNT (R406, spec/17_timers.md): Overruns and skipped periods. -/
def TMR_CNT.reg : Nat := 0x283C
/-- TMR_CNT [15:0] OVERRUN. -/
def TMR_CNT.OVERRUN : Field := ⟨0x283C, 0, 16⟩
/-- TMR_CNT [31:16] MISSED. -/
def TMR_CNT.MISSED : Field := ⟨0x283C, 16, 16⟩
/-- TMR_CNT_CLR (R406, spec/17_timers.md): Counter clear. -/
def TMR_CNT_CLR.reg : Nat := 0x2840
/-- TMR_CNT_CLR [0] CNT. -/
def TMR_CNT_CLR.CNT : Field := ⟨0x2840, 0, 1⟩
/-- LCY_STATUS (R426, spec/18_lifecycle_update_monitor.md): State, keys, banks, trial. -/
def LCY_STATUS.reg : Nat := 0x2C00
/-- LCY_STATUS [2:0] STATE. -/
def LCY_STATUS.STATE : Field := ⟨0x2C00, 0, 3⟩
/-- LCY_STATUS [3] FLEET_KEY. -/
def LCY_STATUS.FLEET_KEY : Field := ⟨0x2C00, 3, 1⟩
/-- LCY_STATUS [4] NONCE_VALID. -/
def LCY_STATUS.NONCE_VALID : Field := ⟨0x2C00, 4, 1⟩
/-- LCY_STATUS [5] NO_FW. -/
def LCY_STATUS.NO_FW : Field := ⟨0x2C00, 5, 1⟩
/-- LCY_STATUS [6] TRIAL. -/
def LCY_STATUS.TRIAL : Field := ⟨0x2C00, 6, 1⟩
/-- LCY_STATUS [7] CNT_LOST. -/
def LCY_STATUS.CNT_LOST : Field := ⟨0x2C00, 7, 1⟩
/-- LCY_STATUS [8] RUNNING. -/
def LCY_STATUS.RUNNING : Field := ⟨0x2C00, 8, 1⟩
/-- LCY_STATUS [9] BOOT0. -/
def LCY_STATUS.BOOT0 : Field := ⟨0x2C00, 9, 1⟩
/-- LCY_STATUS [10] BOOT1. -/
def LCY_STATUS.BOOT1 : Field := ⟨0x2C00, 10, 1⟩
/-- LCY_STATUS [11] STAGING. -/
def LCY_STATUS.STAGING : Field := ⟨0x2C00, 11, 1⟩
/-- LCY_STATUS [12] STG_BANK. -/
def LCY_STATUS.STG_BANK : Field := ⟨0x2C00, 12, 1⟩
/-- LCY_STATUS [31] ERR_RANGE. -/
def LCY_STATUS.ERR_RANGE : Field := ⟨0x2C00, 31, 1⟩
/-- LCY_CTL (R426, spec/18_lifecycle_update_monitor.md): Service limit, commit. -/
def LCY_CTL.reg : Nat := 0x2C04
/-- LCY_CTL [0] COMMIT. -/
def LCY_CTL.COMMIT : Field := ⟨0x2C04, 0, 1⟩
/-- LCY_CTL [1] BUSY. -/
def LCY_CTL.BUSY : Field := ⟨0x2C04, 1, 1⟩
/-- LCY_CTL [2] VALID. -/
def LCY_CTL.VALID : Field := ⟨0x2C04, 2, 1⟩
/-- LCY_CTL [3] COMMIT_ERR. -/
def LCY_CTL.COMMIT_ERR : Field := ⟨0x2C04, 3, 1⟩
/-- LCY_CTL [15:4] SVC_MAX. -/
def LCY_CTL.SVC_MAX : Field := ⟨0x2C04, 4, 12⟩
/-- LCY_FW_VER0 (R426, spec/18_lifecycle_update_monitor.md): VERSION of bank 0; 0 invalid. -/
def LCY_FW_VER0.reg : Nat := 0x2C08
/-- LCY_FW_VER0 [31:0] VERSION. -/
def LCY_FW_VER0.VERSION : Field := ⟨0x2C08, 0, 32⟩
/-- LCY_FW_VER1 (R426, spec/18_lifecycle_update_monitor.md): VERSION of bank 1; 0 invalid. -/
def LCY_FW_VER1.reg : Nat := 0x2C0C
/-- LCY_FW_VER1 [31:0] VERSION. -/
def LCY_FW_VER1.VERSION : Field := ⟨0x2C0C, 0, 32⟩
/-- LCY_MINVER (R426, spec/18_lifecycle_update_monitor.md): Counter 248, bits [31:0]. -/
def LCY_MINVER.reg : Nat := 0x2C10
/-- LCY_MINVER [31:0] VERSION. -/
def LCY_MINVER.VERSION : Field := ⟨0x2C10, 0, 32⟩
/-- LCY_FLEET (R426, spec/18_lifecycle_update_monitor.md): Fleet key fingerprint. -/
def LCY_FLEET.reg : Nat := 0x2C14
/-- LCY_FLEET [31:0] FPR. -/
def LCY_FLEET.FPR : Field := ⟨0x2C14, 0, 32⟩
/-- LCY_OTP (R426, spec/18_lifecycle_update_monitor.md): OTP override. -/
def LCY_OTP.reg : Nat := 0x2C18
/-- LCY_OTP [4:0] K. -/
def LCY_OTP.K : Field := ⟨0x2C18, 0, 5⟩
/-- LCY_SVC_LEFT (R426, spec/18_lifecycle_update_monitor.md): Service time remaining. -/
def LCY_SVC_LEFT.reg : Nat := 0x2C1C
/-- LCY_SVC_LEFT [31:0] SECONDS. -/
def LCY_SVC_LEFT.SECONDS : Field := ⟨0x2C1C, 0, 32⟩
/-- LCY_CNT (R426, spec/18_lifecycle_update_monitor.md): Counters. -/
def LCY_CNT.reg : Nat := 0x2C20
/-- LCY_CNT [7:0] SVC. -/
def LCY_CNT.SVC : Field := ⟨0x2C20, 0, 8⟩
/-- LCY_CNT [15:8] AUTH_FAIL. -/
def LCY_CNT.AUTH_FAIL : Field := ⟨0x2C20, 8, 8⟩
/-- LCY_CNT [23:16] REVERTS. -/
def LCY_CNT.REVERTS : Field := ⟨0x2C20, 16, 8⟩
/-- LCY_CNT_CLR (R426, spec/18_lifecycle_update_monitor.md): Counter clear. -/
def LCY_CNT_CLR.reg : Nat := 0x2C24
/-- LCY_CNT_CLR [0] CNT. -/
def LCY_CNT_CLR.CNT : Field := ⟨0x2C24, 0, 1⟩
/-- MON_CTL (R426, spec/18_lifecycle_update_monitor.md): Baud rate, idle time, echo. -/
def MON_CTL.reg : Nat := 0x3000
/-- MON_CTL [2:0] BAUD. -/
def MON_CTL.BAUD : Field := ⟨0x3000, 0, 3⟩
/-- MON_CTL [15:4] IDLE_S. -/
def MON_CTL.IDLE_S : Field := ⟨0x3000, 4, 12⟩
/-- MON_CTL [16] EVT_ECHO. -/
def MON_CTL.EVT_ECHO : Field := ⟨0x3000, 16, 1⟩
/-- MON_STATUS (R426, spec/18_lifecycle_update_monitor.md): Access level, lockout. -/
def MON_STATUS.reg : Nat := 0x3004
/-- MON_STATUS [0] ACTIVE. -/
def MON_STATUS.ACTIVE : Field := ⟨0x3004, 0, 1⟩
/-- MON_STATUS [1] OPEN. -/
def MON_STATUS.OPEN : Field := ⟨0x3004, 1, 1⟩
/-- MON_STATUS [2] UNLOCKED. -/
def MON_STATUS.UNLOCKED : Field := ⟨0x3004, 2, 1⟩
/-- MON_STATUS [4:3] FAILS. -/
def MON_STATUS.FAILS : Field := ⟨0x3004, 3, 2⟩
/-- MON_STATUS [5] LOCKOUT. -/
def MON_STATUS.LOCKOUT : Field := ⟨0x3004, 5, 1⟩
/-- MON_STATUS [31] ERR_RANGE. -/
def MON_STATUS.ERR_RANGE : Field := ⟨0x3004, 31, 1⟩
/-- MON_LOCK_LEFT (R426, spec/18_lifecycle_update_monitor.md): Lockout time remaining. -/
def MON_LOCK_LEFT.reg : Nat := 0x3008
/-- MON_LOCK_LEFT [31:0] SECONDS. -/
def MON_LOCK_LEFT.SECONDS : Field := ⟨0x3008, 0, 32⟩
/-- MON_CNT (R426, spec/18_lifecycle_update_monitor.md): Counters. -/
def MON_CNT.reg : Nat := 0x300C
/-- MON_CNT [15:0] COMMANDS. -/
def MON_CNT.COMMANDS : Field := ⟨0x300C, 0, 16⟩
/-- MON_CNT [23:16] UNLOCKS. -/
def MON_CNT.UNLOCKS : Field := ⟨0x300C, 16, 8⟩
/-- MON_CNT [31:24] UNLOCK_FAIL. -/
def MON_CNT.UNLOCK_FAIL : Field := ⟨0x300C, 24, 8⟩
/-- MON_CNT_CLR (R426, spec/18_lifecycle_update_monitor.md): Counter clear. -/
def MON_CNT_CLR.reg : Nat := 0x3010
/-- MON_CNT_CLR [0] CNT. -/
def MON_CNT_CLR.CNT : Field := ⟨0x3010, 0, 1⟩

end Sys2Proof.Machine
end

