-- ==== Sys2Proof/Config.lean ====
section
/-! DEFINITION. Config.lean: what the spec leaves to the device or leaves open: constants without a body, so that no
proof can see what they are (log entries 5, 12, 108 and 117). -/
namespace Sys2Proof.Config

/-- Byte `n` of the stream of free values: random bits (R325, R333), torn words (R349), dummy draws (R304) and every
other value the spec leaves open. The step takes the next ones by the counter `free` of State. -/
opaque freeByte : Nat → Byte

/-- Byte `i` of the 256-bit fuse root key (R305). -/
opaque fuseRoot : Nat → Byte

/-- Byte `i` of the 8-byte Device Serial Number in fuses (R104, R273). -/
opaque dsnByte : Nat → Byte

/-- Byte `i` of the vendor's firmware image key (R418). -/
opaque fwKeyByte : Nat → Byte

/-- Byte `i` of the public key of Yiltex in ROM (R412). -/
opaque yiltexKeyByte : Nat → Byte

/-- What the frequency measurement that ends at an instant, in eighths of a tick, finds (R75); its place in the band of
the class in force is what is used of it. -/
opaque measured : Nat → Nat

/-- Between 1.0 us and 2.0 us after an assertion of the pad safe state at an instant, the LFD pins have let go (R52). -/
opaque padsReleased : Nat → Bool

end Sys2Proof.Config
end

