-- ==== Sys2Proof/Machine/State.lean ====
section
/-! DEFINITION. Machine/State.lean: everything the spec gives the machine, as plain data, and the state after reset.
Registers live in `regs`, a sparse list in which an unlisted offset holds its reset value; what a register only
mirrors is held here in its own type. -/
namespace Sys2Proof.Machine

/-- No command of this model stops it: every command has an effect, if only that its descriptor completes with an
error status. The one name stands for a state that no rule reaches. -/
inductive Fault
  /-- never raised; kept so that the type is inhabited (safe) -/
  | unreachable
  deriving DecidableEq, Repr

/-- Why a command is refused. -/
inductive Refusal
  /-- raised by an arm of Dispatch.lean for a command without a meaning yet (safe) -/
  | notModelled (mnemonic : String)
  deriving DecidableEq, Repr

/-- The orderable parts (R1). -/
inductive Part
  | blv8128 | blv8064 | blv8032n
  deriving DecidableEq, Repr

/-- Power states (Table 04.1). -/
inductive PState
  | run | graze | pen | watch | fallow
  deriving DecidableEq, Repr

/-- The islands in the order of Table 01.1. -/
inductive Island
  | aon | drover | fabric | vrdcry | lfs | lfa | uhf | uwb | pcie | nvs | can | slow | rng
  deriving DecidableEq, Repr

/-- Clock state behind the CLK_ registers (R57 to R80). -/
structure Clk where
  /-- TIMEBASE (R65) -/
  tb : BitVec 64
  /-- fraction of a tick in eighths (R65) -/
  frac : Nat
  /-- wall clock, 48.16 (R131) -/
  wall : BitVec 64
  /-- part of the wall clock below 1/65,536 s, in units of 1/9375 of it -/
  wallRem : Nat
  /-- the wall clock runs (R133) -/
  wallRun : Bool
  /-- TIMEBASE of the last 600 s store of the wall clock (R133) -/
  wallAt : Nat
  /-- lag still to be made by running at half rate, in units of 1/9375 of 1/65,536 s (R71) -/
  slew : Nat
  /-- content class in force (R59) -/
  content : Content
  /-- fast content last in force (R84) -/
  lastFast : Content
  /-- pending TIME_SET value (R72) -/
  timeSet : Option (BitVec 64)
  /-- TIMEBASE at the end of the last frequency measurement that a command brought (R75) -/
  measAt : Nat
  /-- TIMEBASE at the end of the last gap, in eighths of a tick (R70) -/
  gapAt : Option Nat
  /-- times of the gap violations of the last second (R74) -/
  viols : List Nat
  /-- time of the last CLOCK_VIOL record (R74) -/
  lastViolRec : Option Nat
  /-- shadow of CLK_GAP_CTL (R80) -/
  shGap : Option Word
  /-- shadow of CLK_WATCH_CTL (R80) -/
  shWatch : Option Word
  /-- the clock is lost and the device stopped (R76, R77) -/
  lost : Bool
  deriving DecidableEq, Repr

/-- Work held in Watch for lack of fast content (R78): a due schedule entry with its due time, or a WAKE pin event with
the TIMEBASE at which its debounce completed. -/
inductive HeldWork
  | sched (e : Nat) (due : Nat)
  | wake (pin : Nat) (tb : Nat)
  deriving DecidableEq, Repr

/-- Power and reset state behind the PWR_ registers (R81 to R103). -/
structure Pwr where
  /-- power state (R81) -/
  st : PState
  /-- entry under way: target and TIMEBASE of its commit (R89) -/
  entering : Option (PState × Nat)
  /-- start of idleness (R85) -/
  idleSince : Option Nat
  /-- next due time of each schedule entry (R95) -/
  due : List (Option Nat)
  /-- islands powered and out of reset, bit per island in the order of Table 01.1 (PWR_ISLANDS) -/
  islands : BitVec 13
  /-- hang times of each island within 1 s (R102) -/
  hangs : List (Nat × Nat)
  /-- work held in Watch (R78) -/
  held : List HeldWork
  /-- TIMEBASE of the exit that WAKE_SRC names (R92) -/
  srcAt : Option Nat
  /-- WAKE pins that have produced an event since they were last re-armed (R93) -/
  wakeSeen : BitVec 8
  /-- what each island holds to do, in the order of Table 01.1, and the TIMEBASE at which that last changed (R102) -/
  workAt : List (Nat × Nat)
  /-- an exit from Watch waits for fast content: its WAKE_SRC code (R73, R78) -/
  exitArmed : Option Nat
  /-- a dominant edge on CAN_RX has powered the CAN island in Watch, and its frame has not ended (R92) -/
  canAsked : Bool
  /-- a system reset holds every island except AON (R98, R346) -/
  inReset : Bool
  /-- VAON is below its power-on threshold, or the strap latch has not come yet (R44, R98) -/
  vaonDown : Bool
  /-- a qualification count runs (R61) -/
  qual : Bool
  /-- Fallow's REFCLK edge detector is armed (R56) -/
  edgeArmed : Bool
  /-- the last reset cleared the AON island, and its stored records have not been loaded since (R82) -/
  aonLoad : Bool
  deriving DecidableEq, Repr

/-- Pad levels (Table 02.5). -/
structure Pins where
  /-- quarters in drive phase, bit per quarter (R48) -/
  drive : BitVec 4
  /-- BRIDGE_EN0 to 3 (R46) -/
  bridge : BitVec 4
  /-- the pad safe state is asserted (R52) -/
  lfdSafe : Bool
  /-- TIMEBASE of its last assertion, and the quarters that were in drive phase then -/
  safeAt : Nat × BitVec 4
  /-- latched straps CFG3 to CFG0 (R44) -/
  straps : BitVec 4
  /-- TEST_N was low at power-up in Blank (R41) -/
  testMode : Bool
  /-- RESET_N is low (R52) -/
  resetN : Bool
  /-- PERST_N level: true is asserted (R86) -/
  perst : Bool
  /-- WAKE_N asserted (R94) -/
  wakeN : Bool
  /-- STARTEN_A (R404) -/
  startA : Bool
  /-- STARTEN_B (R404) -/
  startB : Bool
  /-- COEX_REQ (R215) -/
  coexReq : Bool
  /-- COEX_PRI (R215) -/
  coexPri : Bool
  /-- COEX_GNT (R215) -/
  coexGnt : Bool
  /-- UHF_TRSW: high is transmit (Table 02.5) -/
  trsw : Bool
  /-- UHF PA on (R220) -/
  pa : Bool
  /-- CAN_STB high is standby (Table 02.5) -/
  canStb : Bool
  /-- levels of GPIO0 to 23 as driven or sampled (R403) -/
  gpio : BitVec 24
  /-- levels of WAKE0 to 7 as sampled (R93) -/
  wake : BitVec 8
  deriving DecidableEq, Repr

/-- An event (R128) before it becomes a completion entry. -/
structure Evt where
  /-- event code of Table 05.11 -/
  code : Nat
  /-- status of Table 05.10 -/
  status : Nat
  /-- EVT_SEQ -/
  seq : Nat
  /-- TIMESTAMP -/
  ts : Nat
  /-- result bytes 0 to 13 -/
  res : Bytes
  /-- DETAIL -/
  det : Nat
  deriving DecidableEq, Repr

/-- A descriptor dispatched and not completed (R110, R121). -/
structure Flight where
  /-- the descriptor -/
  d : Desc
  /-- its unit has acknowledged it (R100) -/
  accepted : Bool
  /-- its pair was disabled or abandoned: its completion is discarded (R98, R110) -/
  discard : Bool
  /-- TIMEBASE of the dispatch -/
  since : Nat
  deriving DecidableEq, Repr

/-- A completion entry that waits until the link can take it (R77). -/
structure HeldCpl where
  /-- the descriptor -/
  d : Desc
  /-- STATUS -/
  status : Nat
  /-- result bytes -/
  res : Bytes
  /-- DETAIL -/
  detail : Nat
  /-- TIMESTAMP -/
  ts : Nat
  deriving DecidableEq, Repr

/-- A queue pair behind its QPn_ registers (R109 to R116, R130). -/
structure Qp where
  /-- SQ_HEAD -/
  sqHead : Nat
  /-- submission tail doorbell -/
  sqTail : Nat
  /-- CQ_TAIL -/
  cqTail : Nat
  /-- completion head doorbell -/
  cqHead : Nat
  /-- completions written and not released -/
  used : Nat
  /-- PHASE -/
  phase : Bool
  /-- ENABLED -/
  enabled : Bool
  /-- QUIESCED -/
  quiesced : Bool
  /-- ERR -/
  err : Bool
  /-- BLK_DRV -/
  blkDrv : Bool
  /-- completions not yet signalled (R130) -/
  unsig : Nat
  /-- TIMEBASE of the oldest of them -/
  unsigAt : Option Nat
  deriving DecidableEq, Repr

/-- One vector of the MSI-X table as the PCIe base specification lays it out. -/
structure MsixEntry where
  /-- message address -/
  addr : BitVec 64
  /-- message data -/
  data : Word
  /-- vector control bit 0 -/
  masked : Bool
  deriving DecidableEq, Repr

/-- Host-interface state (R104 to R134). -/
structure Hif where
  /-- PCIe link state (R86) -/
  link : LinkState
  /-- the link has trained since reset (R86) -/
  trained : Bool
  /-- the link is in the recovery in which its rate changes, and PLL_PCIE locks again (R63) -/
  relock : Bool
  /-- PME_Turn_Off received and not yet acknowledged (R86) -/
  pmeOff : Bool
  /-- Bus Master Enable (R107) -/
  busMaster : Bool
  /-- D3hot (R106) -/
  d3hot : Bool
  /-- the 32 queue pairs -/
  qps : List Qp
  /-- number of the next descriptor that the dispatcher takes from a host pair (R121) -/
  dispNo : Nat
  /-- source that the dispatcher served last: pair 0 to 31, or 32 for the Drover port (R15) -/
  turn : Nat
  /-- descriptors dispatched and not completed, oldest first -/
  flight : List Flight
  /-- completions held for the link (R77) -/
  held : List HeldCpl
  /-- Drover's input queue, oldest first (R124) -/
  droverQ : List Desc
  /-- completions returned to Drover and to the monitor, newest first (R15, R423) -/
  back : List HeldCpl
  /-- MSI-X table (R130) -/
  msix : List MsixEntry
  /-- MSI-X pending bits -/
  pba : BitVec 34
  /-- MSI-X enabled in its capability -/
  msixEn : Bool
  /-- messages sent, newest first: vector numbers -/
  sent : List Nat
  /-- event backlog, oldest first (R27) -/
  backlog : List Evt
  /-- overflow entry: events dropped, EVT_SEQ and TIMESTAMP of the first (R27) -/
  overflow : Option (Nat × Nat × Nat)
  /-- EVT_SEQ of the next event (R126) -/
  evtSeq : BitVec 16
  /-- pairs that events went to before the present route, each with the TIMESTAMP up to which they did, oldest first
  (R134) -/
  routes : List (Nat × Nat)
  deriving DecidableEq, Repr

/-- One copy of a dual-copy record (Table 15.5). -/
structure Copy where
  /-- SEQ -/
  seq : Nat
  /-- DATA -/
  data : Bytes
  deriving DecidableEq, Repr

/-- A device record: its valid copies A and B (R352, R353). -/
structure Dual where
  /-- copy A when valid -/
  a : Option Copy
  /-- copy B when valid -/
  b : Option Copy
  deriving DecidableEq, Repr

/-- A word accepted by the write-combining buffer and not yet in the array (R343). -/
inductive BufEntry
  /-- word address and its bytes before the write -/
  | word (addr : Nat) (old : Nat)
  /-- device record, its copies before the write, and its length in words -/
  | record (id : Nat) (old : Dual) (words : Nat)
  deriving DecidableEq, Repr

/-- NV store (R339 to R364). -/
structure Nv where
  /-- the MRAM array with the buffer's newer data over it; an unlisted byte is factory content -/
  mem : List Host.Cell
  /-- word addresses that read as uncorrectable (R341) -/
  bad : List Nat
  /-- word addresses whose next read corrects one bit (R341) -/
  soft : List Nat
  /-- word addresses whose next write does not verify and is made once more (R344) -/
  weak : List Nat
  /-- word addresses that no longer take a write (R344) -/
  worn : List Nat
  /-- device records by ID (R340) -/
  recs : List (Nat × Dual)
  /-- device records whose next write fails (R344) -/
  wornRecs : List Nat
  /-- records that report TWIN_CONFLICT until their next write (R354) -/
  twins : List Nat
  /-- host records repaired since the last load (R354) -/
  checked : List Nat
  /-- write-combining buffer in acceptance order (R343) -/
  buf : List BufEntry
  /-- start of the next increment of a counter: counter and TIMEBASE (R358) -/
  incAt : List (Nat × Nat)
  /-- TIMEBASE at which the last scrub pass ended -/
  scrubEnd : Nat
  /-- a VHOLD measurement has been made and was low (R346) -/
  holdWasLow : Bool
  /-- TIMEBASE of the last VHOLD measurement -/
  holdAt : Option Nat
  /-- recall since the last NVS start has reached step 3 (Table 15.4) -/
  ledgerReady : Bool
  /-- and step 4 -/
  loaded : Bool
  deriving DecidableEq, Repr

/-- A ledger record to be appended: type, SRC/SLOT, DATA, wall clock of its instant. -/
structure LRec where
  /-- TYPE -/
  typ : Nat
  /-- SRC/SLOT -/
  src : Nat
  /-- DATA -/
  data : Nat
  /-- wall clock of the event's instant, 48.16 -/
  wall : Nat
  /-- TIMEBASE of it -/
  tb : Nat
  deriving DecidableEq, Repr

/-- An entry of the recall append buffer (R351): a device record, or a host append with its descriptor, its wall clock
and its checked entries. -/
inductive Buffered
  | device (r : LRec)
  | host (d : Desc) (wall : Nat) (data : Bytes)
  deriving DecidableEq, Repr

/-- Ledger sequencer (R365 to R387). -/
structure Lgr where
  /-- SEQ that the next opened block takes (R372) -/
  next : Nat
  /-- records in the open block; none when no block is open -/
  openRecs : Option Nat
  /-- TIMEBASE of the open block's first record (R369) -/
  openTb : Nat
  /-- for each record of the open block the TIMEBASE of its event and the place of its island in Table 01.1 (R25) -/
  marks : List (Nat × Nat)
  /-- block and slot of the record written last -/
  placed : Nat × Nat
  /-- oldest block present -/
  head : Nat
  /-- watermark W (R372) -/
  w : Nat
  /-- SIGNED (R378) -/
  signed : Nat
  /-- device records dropped and not yet reported (R372) -/
  lost : Nat
  /-- the pre-clear of the last seal is deferred (R369) -/
  preclear : Bool
  /-- checkpoints pending: their numbers k, in order (R378) -/
  ckpt : List Nat
  /-- closed for good in Retired, or after block 0xFFFFFFFF (R370, R378) -/
  closed : Bool
  /-- appends buffered during recall (R351), oldest first -/
  buffered : List Buffered
  /-- device records waiting in their channels for a place (R351) -/
  waiting : List LRec
  /-- host appends waiting their TIMEOUT for a place (R351): descriptor and TIMEBASE of its limit -/
  hostWait : List (Desc × Nat)
  /-- EVT in force: that of LGR_CTL at the last record (R387) -/
  evt : Bool
  /-- FULL_WARN in force (R387) -/
  fullWarn : Nat
  /-- SEAL_S in force (R387) -/
  sealS : Nat
  /-- K_led is usable (R378) -/
  keyOk : Bool
  deriving DecidableEq, Repr

/-- A fold tree (R164, R165): parents by leaf index and by fold number, 255 for none, and the defined folds. -/
structure Tree where
  /-- parent fold of leaf indices 0 to 135 -/
  lpar : List Nat
  /-- parent fold of folds 0 to 254 -/
  fpar : List Nat
  /-- defined folds -/
  fdef : List Bool
  deriving DecidableEq, Repr

/-- Names an operation that others may wait for: a descriptor, or an operation of the LF queue by its number (R22, R144,
R175). -/
inductive OpKey
  | desc (src : Source) (no : Nat)
  | lf (no : Nat)
  deriving DecidableEq, Repr

/-- Who asks for an autonomous poll: a schedule entry or a WAKE pin (R22). -/
inductive Asker
  | sched (e : Nat)
  | wake (pin : Nat)
  deriving DecidableEq, Repr

/-- A fold operation that has walked its subtree and waits for its broadcast tick (R171). -/
structure FoldOp where
  /-- its descriptor -/
  d : Desc
  /-- TIMEBASE of B -/
  b : Nat
  /-- the tree it works on (R168) -/
  tree : Tree
  deriving DecidableEq, Repr

/-- A BARRIER or RESET that waits (R175, R178). -/
structure FoldWait where
  /-- its descriptor -/
  d : Desc
  /-- the operations it waits for -/
  on : List OpKey
  /-- TIMEBASE at which its TIMEOUT ends -/
  limit : Nat
  deriving DecidableEq, Repr

/-- Fold engine (R164 to R181). -/
structure Fold where
  /-- live tree -/
  live : Tree
  /-- staging copy -/
  staging : Tree
  /-- validated copy not yet live (R168) -/
  pend : Option Tree
  /-- retired leaves by leaf index -/
  retired : List Bool
  /-- operation between its walk and B -/
  op : Option FoldOp
  /-- fold operations waiting for the engine, in dispatch order -/
  queue : List Desc
  /-- BARRIER and RESET operations waiting -/
  wait : List FoldWait
  deriving DecidableEq, Repr

/-- What an LF operation is (R144). -/
inductive LfKind
  | poll | diagRing | diagApply | listen
  deriving DecidableEq, Repr

/-- Set-up that an LF_DIAG APPLY or a pass of LF_CAL gives a channel (Table 06.11). -/
structure TuneEntry where
  /-- CH -/
  ch : Nat
  /-- DUTY -/
  duty : Nat
  /-- TRIM -/
  trim : Int
  deriving DecidableEq, Repr

/-- An operation in the LF queue (R22, R144). -/
structure LfReq where
  /-- its number -/
  no : Nat
  /-- the requesters of an autonomous or WAKE poll, each with the TIMEBASE at which its poll fell due; those after the
  first merged into it (R22) -/
  askers : List (Asker × Nat)
  /-- kind -/
  kind : LfKind
  /-- TARGET node -/
  node : Nat
  /-- S of a poll -/
  slots : Nat
  /-- OPTS -/
  opts : Nat
  /-- RESLOT of a poll -/
  reslot : Nat
  /-- its descriptor, for a host or Drover operation -/
  desc : Option Desc
  /-- the settings that a pass of LF_CAL drives its channels with, or that its APPLY applies (R162) -/
  trial : List TuneEntry
  deriving DecidableEq, Repr

/-- One leaf of a frame map (R140). -/
structure MapLeaf where
  /-- LF channel -/
  ch : Nat
  /-- code frame -/
  frame : Nat
  /-- Walsh code -/
  code : Nat
  /-- in pinfold: not driven -/
  silent : Bool
  deriving DecidableEq, Repr

/-- Phases of the LF engine (Table 06.3). -/
inductive LfPhase
  | drive | sense | respond | listen
  deriving DecidableEq, Repr

/-- A tested leaf's ring-down (Table 06.11). -/
structure RingRec where
  /-- node identifier -/
  node : Nat
  /-- class of Table 06.4 -/
  result : Nat
  /-- FRES, 10 Hz units -/
  fres : Nat
  /-- Q -/
  q : Nat
  /-- periods skipped for saturation -/
  sat : Nat
  /-- A0 -/
  a0 : Nat
  deriving DecidableEq, Repr

/-- The LF operation in progress (R145, R146). -/
structure LfRun where
  /-- the operation -/
  req : LfReq
  /-- TIMEBASE at time 0 of its first sequence -/
  start : Nat
  /-- TIMEBASE at time 0 of the sequence running now -/
  seq : Nat
  /-- phase -/
  phase : LfPhase
  /-- frame map -/
  map : List MapLeaf
  /-- F -/
  f : Nat
  /-- quarters that drive -/
  quarters : Nat
  /-- diagnostic rounds still to end, the present one first (R151) -/
  todo : List Nat
  /-- diagnostic rounds run -/
  rounds : Nat
  /-- leaves tested so far -/
  rings : List RingRec
  /-- the tree it works on (R168) -/
  tree : Tree
  /-- LF channels that an LF_DIAG tests or an LF_LISTEN senses, fixed at its start (R141) -/
  chans : List Nat
  /-- coils of the operation, fixed at its start (R141) -/
  coils : List Nat
  /-- AT had passed at its start (R144) -/
  late : Bool
  /-- the foreign-field window of this sequence has been evaluated (R153) -/
  sensed : Bool
  /-- foreign field seen (R153) -/
  ff : Bool
  /-- a ring-down class other than OK (Table 06.10) -/
  ringBad : Bool
  /-- saturated samples seen -/
  satur : Bool
  deriving DecidableEq, Repr

/-- A channel while LF_CAL works on it (R162). -/
structure CalChan where
  /-- channel -/
  ch : Nat
  /-- TRIM so far -/
  trim : Int
  /-- DUTY so far -/
  duty : Nat
  /-- class at the last pass -/
  result : Nat
  /-- FRES at the last pass, 10 Hz units -/
  fres : Nat
  /-- A0 at the last pass -/
  a0 : Nat
  deriving DecidableEq, Repr

/-- What the present LF_DIAG of an LF_CAL is for (R162). -/
inductive CalStep
  | tune
  /-- with the passes that may still follow it -/
  | level (left : Nat)
  | verify
  | apply
  deriving DecidableEq, Repr

/-- An LF_CAL that Drover is carrying out as a series of LF_DIAG descriptors on its port (R16, R162). -/
structure LfCal where
  /-- its descriptor -/
  d : Desc
  /-- step -/
  step : CalStep
  /-- channels -/
  chans : List CalChan
  /-- the LF_DIAG descriptor under way -/
  pass : Desc
  /-- the records of that pass, once it has ended -/
  rings : List RingRec
  deriving DecidableEq, Repr

/-- LF field engine (R135 to R163). -/
structure Lf where
  /-- LF_CAL operations under way -/
  cals : List LfCal
  /-- number of the next operation that asks for the engine -/
  nextNo : Nat
  /-- queue, oldest first -/
  queue : List LfReq
  /-- host and Drover operations waiting for an entry, with the TIMEBASE of their limit (R144) -/
  wait : List (LfReq × Nat)
  /-- operation in progress -/
  run : Option LfRun
  /-- TIMEBASE of the last FOREIGN_FIELD record (R153) -/
  ffRec : Option Nat
  /-- TIMEBASE of the last TOKEN_VIOL record (R192) -/
  violRec : Option Nat
  /-- frames dropped at check 2 since then -/
  viols : Nat
  /-- coil fault latch and last check of coils 0 to 3: Table 07.7 RESULT -/
  coils : List Nat
  deriving DecidableEq, Repr

/-- State of a coil in a poll (R202, R203). -/
structure CoilRun where
  /-- coil number -/
  coil : Nat
  /-- attempts started -/
  tries : Nat
  /-- challenge of the running attempt -/
  challenge : Nat
  /-- VID and EPOCH of its downlink, as they were when it started (R202) -/
  head : Nat × Nat
  /-- TIMEBASE from which the coil drives its carrier (R155) -/
  from_ : Option Nat
  /-- an attempt is running -/
  active : Bool
  /-- TIMEBASE at which the attempt's downlink starts (Table 08.7 step 2) -/
  since : Nat
  /-- the attempt was cut by a re-slot drive sequence and is made again after it (R155) -/
  cut : Bool
  /-- no further attempt in this poll -/
  done : Bool
  deriving DecidableEq, Repr

/-- An answer of a poll (Table 06.9) with what its verdict still needs. -/
structure Answer where
  /-- TIMEBASE of CRC pass -/
  tb : Nat
  /-- FSLOT sent by the token -/
  fslot : Nat
  /-- FLOCK_SLOT of the record -/
  slot : Nat
  /-- SOURCE -/
  source : Nat
  /-- STATUS -/
  status : Nat
  /-- RESLOT -/
  reslot : Nat
  /-- ZONE, 0xFFFF none -/
  zone : Nat
  /-- COUNTER -/
  counter : Nat
  /-- FRAME -/
  frame : Nat
  /-- 16 magnitudes -/
  mag : List Nat
  /-- range in mm, 0xFFFFFFFF none -/
  range : Nat
  /-- RSSI byte -/
  rssi : Nat
  /-- passed check 4 -/
  verified : Bool
  /-- failed check 3 -/
  authFail : Bool
  /-- its verdict pass has run -/
  judged : Bool
  /-- challenge it answered -/
  challenge : Nat
  /-- payload byte 4 -/
  b4 : Nat
  /-- TIMEBASE of the trigger that waits for the verdict engine (R248) -/
  trig : Option Nat
  /-- its exchange has been asked for and its outcome has not arrived -/
  ranging : Bool
  /-- outcome of its exchange: status of Table 10.5, RANGE_MM, DS-TWR -/
  out : Option (Nat × Nat × Bool)
  /-- SCORE of its verdict -/
  score : Nat
  /-- its verdict's template has SEAT = 1 -/
  seat : Bool
  /-- role of its slot -/
  role : Nat
  /-- tag of the flock that verified it (R247) -/
  tag : Nat
  /-- CO_PRESENT (R259) -/
  co : Bool
  deriving DecidableEq, Repr

/-- The poll in progress (R182 to R203). -/
structure Poll where
  /-- challenge of the sequence running now -/
  challenge : Nat
  /-- RSEQ -/
  rseq : Nat
  /-- S -/
  s : Nat
  /-- answers in order of CRC pass -/
  answers : List Answer
  /-- slot-channels of this window that collided: (time slot, channel) -/
  collided : List (Nat × Nat)
  /-- slot-channels of this window in which a SYNC was accepted -/
  synced : List (Nat × Nat)
  /-- TIMEBASE at which the response window opened -/
  window : Option Nat
  /-- slot-channels of this window whose frame has ended -/
  ended : List (Nat × Nat)
  /-- its last response window has closed (R196), or it has none -/
  shut : Bool
  /-- a frame has passed CRC (R92) -/
  heard : Bool
  /-- coils of this poll -/
  coils : List CoilRun
  /-- a coil exchange ran -/
  coilRan : Bool
  /-- a frame with this vehicle's ID passed CRC (R159) -/
  vidSeen : Bool
  /-- CONCURRENT_BAD has been appended (R198) -/
  concurrent : Bool
  /-- a fold of the poll entered pinfold (R197) -/
  pinStop : Bool
  /-- VID and EPOCH of the sequence's header: as they are when it starts (R184); none until then -/
  header : Option (Nat × Nat)
  /-- receptions of this window paused by a withdrawn grant (R218) -/
  paused : Bool
  /-- port node it ranges from (R227) -/
  port : Option Nat
  /-- chain B can receive on its PARTNER (R226, R227) -/
  chainB : Bool
  /-- a gate of the active gate set has RANGING not 0 (R249) -/
  gateRange : Bool
  /-- one has FF policy 2 (R249) -/
  gateFf : Bool
  /-- one carries a STARTEN or CAN action (R216) -/
  gateImmo : Bool
  /-- the pre-warm request has been sent (R21) -/
  warmed : Bool
  /-- the window was skipped for want of a grant (R217) -/
  denied : Bool
  /-- TIMEBASE from which the window receives: its opening, or a grant that came late (R217) -/
  rxFrom : Nat
  deriving DecidableEq, Repr

/-- A flock slot (R267). -/
structure Token where
  /-- role (Table 12.1) -/
  role : Nat
  /-- TOKEN_ID -/
  id : Nat
  /-- token key, 16 bytes -/
  key : Bytes
  /-- LAST (R194) -/
  last : Nat
  /-- wall-clock seconds of the last verified answer, 0 for none (R278) -/
  seen : Nat
  /-- CO_PRESENT in the last poll (R278) -/
  co : Bool
  deriving DecidableEq, Repr

/-- A flock (R267). -/
structure Flock where
  /-- vehicle ID -/
  vid : Nat
  /-- value of counter 252 that it belongs to (R275) -/
  tag : Nat
  /-- 64 slots -/
  slots : List (Option Token)
  deriving DecidableEq, Repr

/-- A pinfold tracker entry (R281, R283). Times are PTIME. -/
structure PinEntry where
  /-- fold -/
  fold : Nat
  /-- counted failures of the window, oldest first -/
  fails : List Nat
  /-- level of the present or last engagement -/
  level : Option Nat
  /-- end of the own pinfold in force -/
  till : Option Nat
  /-- end of the last engagement -/
  ended : Option Nat
  deriving DecidableEq, Repr

/-- A start permission in force (R289). -/
structure Permission where
  /-- granting slot -/
  slot : Nat
  /-- TIMEBASE of the last GRANT -/
  grant : Nat
  /-- HOLD_S in force at it (R298) -/
  hold : Nat
  deriving DecidableEq, Repr

/-- The learn that waits for a Bellwether (R272). -/
structure Learn where
  /-- the FLOCK_LEARN descriptor -/
  d : Desc
  /-- the staged flock -/
  flock : Flock
  /-- TIMEBASE of the start of the wait -/
  since : Nat
  /-- TIMEBASE at which Drover submits the next LF_POLL of BW_FOLD -/
  nextPoll : Nat
  deriving DecidableEq, Repr

/-- A pairing (R292, R296). -/
structure Pairing where
  /-- BASE -/
  base : Nat
  /-- 29-bit identifiers -/
  xtd : Bool
  /-- K_pair, 16 bytes -/
  key : Bytes
  /-- LAST_ECNT -/
  lastEcnt : Nat
  /-- DCNT -/
  dcnt : Nat
  deriving DecidableEq, Repr

/-- A pairing in progress (R31, R296). -/
structure PairStage where
  /-- the IMMO_PAIR descriptor of the host, or the Drover-port step that waits for the ECU -/
  d : Option Desc
  /-- staged pairing -/
  pair : Pairing
  /-- CMAC of the blob checked -/
  checked : Bool
  /-- NONCE of the PROBE sent and the TIMEBASE at which it was sent -/
  probe : Option (Nat × Nat)
  /-- PROBE_ANS verified -/
  probed : Bool
  deriving DecidableEq, Repr

/-- A CAN FD frame the device sends (Table 12.10). -/
structure CanFrame where
  /-- identifier -/
  id : Nat
  /-- 29-bit identifier -/
  xtd : Bool
  /-- data bytes -/
  data : Bytes
  deriving DecidableEq, Repr

/-- Flock, pinfold and immobiliser (R267 to R298). -/
structure Flk where
  /-- flock in force -/
  flock : Option Flock
  /-- staged bank of the flock key store (R31, R270) -/
  staged : Option Flock
  /-- flock to become active at the next trigger, with its FLOCK_LEARN and Bellwether slot (R275) -/
  pend : Option (Flock × Desc × Nat)
  /-- learn waiting for a Bellwether -/
  learn : Option Learn
  /-- last Bellwether answer not yet used: slot and TIMEBASE of its CRC pass (R272) -/
  bell : Option (Nat × Nat)
  /-- tracker entries -/
  track : List PinEntry
  /-- TIMEBASE of the last PTIME second; its distance to now is the remainder (R280) -/
  ptimeAt : Nat
  /-- PTIME of the last periodic pinfold record (R284) -/
  pinRecAt : Nat
  /-- start permission (R289) -/
  perm : Option Permission
  /-- START_REVOKE waiting for its static edge (R290) -/
  revoke : List (Desc × Bool)
  /-- TIMEBASE of the last STARTEN edge (R290) -/
  lastEdge : Nat
  /-- pairing in force -/
  pair : Option Pairing
  /-- pairing in progress -/
  stage : Option PairStage
  /-- CAN transmit queue, oldest first (R291) -/
  txq : List CanFrame
  /-- frames sent, newest first -/
  canOut : List CanFrame
  /-- times of ECU violations within 1 s (R295) -/
  viols : List Nat
  /-- end of the silence in force, and violations counted in it (R295) -/
  silent : Option (Nat × List Nat × Nat)
  /-- K_pair and the flock keys are zeroised for good (R271) -/
  zeroised : Bool
  deriving DecidableEq, Repr

/-- Drover's run state (R417, R419). -/
inductive DroverSt
  /-- not started since the last reset -/
  | off
  /-- its boot ROM loads and checks the bank -/
  | booting
  /-- the bank is loaded and its firmware has not reported ready -/
  | loaded
  | ready
  /-- no bank is bootable -/
  | noFw
  deriving DecidableEq, Repr

/-- A firmware image being staged (R418). -/
structure Stage where
  /-- bank -/
  bank : Nat
  /-- bytes staged so far -/
  count : Nat
  deriving DecidableEq, Repr

/-- Lifecycle and firmware (R407 to R421). -/
structure Lcy where
  /-- Service is in force: TIMEBASE of its end, and SVC_MAX at its entry in minutes (R409) -/
  service : Option (Nat × Nat)
  /-- CHALLENGE nonce and TIMEBASE of its issue (R412) -/
  nonce : Option (Bytes × Nat)
  /-- programmed OTP override k, 0 for unprogrammed (R415) -/
  otp : Nat
  /-- root, K_led and DAK are unusable (R305, R411) -/
  keysGone : Bool
  /-- a Retired transition whose later steps are not finished (R411) -/
  retiring : Bool
  /-- image being staged -/
  stage : Option Stage
  /-- bank that runs -/
  running : Nat
  /-- bank selected for the next boot -/
  sel : Nat
  /-- trial in progress: the bank to go back to, and the TIMEBASE of the boot (R419, R420) -/
  trial : Option (Nat × Nat)
  /-- FW_ACTIVATE waiting for the new firmware (R419) -/
  pendAct : Option Desc
  /-- Drover -/
  drover : DroverSt
  /-- TIMEBASE of Drover's last progress (R101) -/
  progress : Nat
  /-- a LIFECYCLE CHALLENGE, LEDGER_ATTEST or PKE_SIGN waiting for the Steep, with the TIMEBASE of its limit (R320) -/
  steepWait : List (Desc × Nat)
  deriving DecidableEq, Repr

/-- Sitraim monitor (R422 to R425). -/
structure Mon where
  /-- unlocked (R425) -/
  unlocked : Bool
  /-- nonce and TIMEBASE of its issue -/
  nonce : Option (Bytes × Nat)
  /-- consecutive failed attempts -/
  fails : Nat
  /-- start of the lockout in force -/
  lockout : Option Nat
  /-- TIMEBASE of the last command -/
  lastCmd : Nat
  /-- the DESC being served -/
  desc : Option Desc
  /-- lines sent, newest first -/
  out : List String
  /-- GPIO22 or GPIO23 has left FUNC 5 since the last reset (R43, R403) -/
  gone : Bool
  deriving DecidableEq, Repr

/-- What a host activity of the UHF radio waits for or does (R211, R212, R217). -/
inductive UhfPhase
  /-- waits for a reserved window to close, or for its AT -/
  | waiting
  /-- COEX_REQ is raised and the grant has not come -/
  | grant
  /-- on the air -/
  | air
  deriving DecidableEq, Repr

/-- The host activity of the UHF radio: a UHF_TX or UHF_RX (R220, R221). -/
structure UhfRun where
  /-- its descriptor -/
  d : Desc
  /-- it transmits -/
  tx : Bool
  /-- UHF_CAL: what it measures (R213) -/
  cal : Option UhfMeas
  /-- the frame of a transmission, as it is sent (R220) -/
  data : Bytes
  /-- die temperature that it meets -/
  temp : Int
  /-- phase -/
  phase : UhfPhase
  /-- TIMEBASE at which it may start but for the grant -/
  due : Nat
  /-- TIMEBASE of the rise of COEX_REQ for it, and of its fall where that comes before its end (R215, R217) -/
  req : Nat
  reqEnd : Nat
  /-- TIMEBASE of its first bit, or of the start of its reception -/
  start : Nat
  /-- TIMEBASE of its end -/
  stop : Nat
  /-- result FLAGS so far -/
  flags : Nat
  /-- dual reception, after the check of R208 -/
  dual : Bool
  /-- frames received -/
  frames : Nat
  /-- records written -/
  written : Nat
  /-- frames with CRC checked and failed -/
  crcFail : Nat
  /-- a DMA write of a record failed -/
  dmaErr : Bool
  /-- reception is paused by a withdrawn grant (R218) -/
  paused : Bool
  /-- TIMEBASE from which it receives without a pause (R218) -/
  clear : Nat
  deriving DecidableEq, Repr

/-- A host activity that waits for the radio: its descriptor, payload and the die temperature it met. -/
structure UhfWait where
  /-- descriptor -/
  d : Desc
  /-- payload read from SRC -/
  data : Bytes
  /-- it transmits -/
  tx : Bool
  /-- UHF_CAL: what it measures -/
  cal : Option UhfMeas
  /-- die temperature in degrees -/
  temp : Int
  /-- AT had passed when the unit received it (R221) -/
  late : Bool
  /-- it has had to wait for a UHF_CAL (R212) -/
  calWait : Bool
  deriving DecidableEq, Repr

/-- A move of a radio from one state to another (Tables 09.1, 10.2). -/
structure Hop where
  /-- TIMEBASE at which it leaves the state before -/
  go : Nat
  /-- TIMEBASE at which it is in the new one -/
  come : Nat
  /-- the new state: 0 Off, 1 Sleep, 2 Standby, 3 Synth, 4 RX, 5 TX, 6 Cal -/
  st : Nat
  deriving DecidableEq, Repr

/-- A background calibration under way (R214, R241). -/
structure BgCal where
  /-- TIMEBASE of its end -/
  stop : Nat
  /-- the state it began in -/
  back : Nat
  /-- image rejection it will give, dB -/
  irr : Nat
  /-- residual offset it will give, mV -/
  dc : Nat
  /-- die temperature -/
  temp : Int
  deriving DecidableEq, Repr

/-- UHF radio (R206 to R223). -/
structure Uhf where
  /-- host activity in progress -/
  run : Option UhfRun
  /-- host activities waiting, in dispatch order (R211) -/
  queue : List UhfWait
  /-- reserved windows of the poll: TIMEBASE of opening and closing (R210) -/
  windows : List (Nat × Nat)
  /-- a reserved window owns the receiver (R210) -/
  window : Bool
  /-- TIMEBASE of the end of the last activity (R209) -/
  lastEnd : Nat
  /-- frequencies whose VCO band is calibrated since the last reset of calibrations (Table 09.1) -/
  bands : List Nat
  /-- the VCO band table over 300-960 MHz is calibrated (Table 09.2 OSC) -/
  allBands : Bool
  /-- its moves, the latest first: those it has made and those it will make (Table 09.1) -/
  walk : List Hop
  /-- frequency the synthesiser is on, kHz (R208) -/
  lo : Nat
  /-- the frame sent last (R220) -/
  sent : Bytes
  /-- background calibration under way -/
  bg : Option BgCal
  /-- TIMEBASE of the last background run (R214) -/
  bgAt : Nat
  /-- die temperature at it -/
  bgTemp : Int
  /-- filter corner in force, kHz -/
  filt : Nat
  /-- residual offset in force, mV -/
  dc : Nat
  deriving DecidableEq, Repr

/-- Phases of a UWB exchange (Table 10.3). -/
inductive ExPhase
  /-- its start has not come -/
  | waiting
  /-- Poll sent, Response awaited -/
  | poll
  /-- Final sent, Report awaited -/
  | final
  /-- ended; the outcome is on its way to VRD/CRY -/
  | done
  deriving DecidableEq, Repr

/-- A UWB exchange, of a poll's answer or of a UWB_RANGE (R235). -/
structure Exch where
  /-- index of the poll's answer; none for UWB_RANGE -/
  answer : Option Nat
  /-- DS-TWR -/
  ds : Bool
  /-- Poll and Final are SP1 (Table 10.8) -/
  allSp1 : Bool
  /-- port index 0 to 3 -/
  port : Nat
  /-- chain B receives on PARTNER (R226) -/
  chainB : Bool
  /-- channel, 5 or 9 -/
  chan : Nat
  /-- attempt number -/
  xseq : Nat
  /-- STS key -/
  key : Bytes
  /-- V of the next frame (R233) -/
  v : Nat
  /-- coexistence class (R216) -/
  cls : Nat
  /-- TIMEBASE at which it may start; of a finished one, at which its outcome arrives (Table 10.3) -/
  due : Nat
  /-- TIMEBASE of the end of the token's listen window for its start (R201); none for UWB_RANGE -/
  limit : Option Nat
  /-- TIMEBASE of the rise of COEX_REQ -/
  req : Nat
  /-- phase -/
  phase : ExPhase
  /-- TIMEBASE of the first chip of the Poll -/
  start : Nat
  /-- record FLAGS of Table 10.9 so far -/
  flags : Nat
  /-- raw round time of the Response, in u (R238) -/
  ra : Nat
  /-- STSQ of the Response -/
  stsq : Nat
  /-- RSSI of the Response, as a byte -/
  rssi : Nat
  /-- PDOA, 0x8000 none -/
  pdoa : Nat
  /-- AOA, 0x8000 none -/
  aoa : Nat
  /-- epsilon in 0.01 ppm, as 32 bits -/
  cfo : Nat
  /-- status of Table 10.5: 0 ranged -/
  status : Nat
  /-- RANGE_MM -/
  range : Nat
  deriving DecidableEq, Repr

/-- The UWB_RANGE or UWB_CAL in progress (R242, R243). -/
structure UwbRun where
  /-- its descriptor -/
  d : Desc
  /-- UWB_CAL: what it measures on each port (R241) -/
  cal : Option (List UwbMeas)
  /-- UWB_CAL: TIMEBASE of its first exchange, and of its end once the grant for them has come -/
  calFrom : Nat
  calStop : Option Nat
  /-- UWB_CAL: it makes exchanges -/
  calAsks : Bool
  /-- Caddy slot it holds (R304) -/
  slot : Nat
  /-- STS key -/
  key : Bytes
  /-- V of the next frame -/
  v : Nat
  /-- ports still to do, the present one first -/
  ports : List Nat
  /-- attempts made on the present port -/
  tries : Nat
  /-- ports attempted -/
  done : Nat
  /-- 32-byte records of finished ports -/
  records : List Bytes
  /-- FLAGS of the present port's record so far -/
  flags : Nat
  /-- the latest attempt on the present port -/
  last : Option Exch
  /-- an attempt lost its grant -/
  aborted : Bool
  /-- an attempt got no grant in time -/
  denied : Bool
  /-- die temperature it met -/
  temp : Int
  deriving DecidableEq, Repr

/-- A UWB_RANGE or UWB_CAL that waits for the radio. -/
structure UwbWait where
  /-- descriptor -/
  d : Desc
  /-- die temperature it met -/
  temp : Int
  /-- UWB_CAL: what it measures -/
  cal : Option (List UwbMeas)
  deriving DecidableEq, Repr

/-- UWB radio (R224 to R245). -/
structure Uwb where
  /-- exchanges of the poll, in order of CRC pass -/
  exch : List Exch
  /-- TIMEBASE at which the last exchange ended (R201) -/
  free : Nat
  /-- pre-warm hold in force (R230) -/
  hold : Bool
  /-- UWB_RANGE or UWB_CAL in progress -/
  run : Option UwbRun
  /-- its exchange -/
  cur : Option Exch
  /-- UWB_RANGE and UWB_CAL descriptors waiting -/
  queue : List UwbWait
  /-- TIMEBASE of the end of the last activity -/
  lastEnd : Nat
  /-- its moves, the latest first (Table 10.2) -/
  walk : List Hop
  /-- channel the synthesiser is on -/
  chan : Nat
  /-- background calibration under way -/
  bg : Option BgCal
  /-- channels calibrated since the last reset of calibrations (Table 10.2) -/
  cald : List Nat
  /-- TIMEBASE of the last background run (R241) -/
  bgAt : Nat
  /-- die temperature at it -/
  bgTemp : Int
  deriving DecidableEq, Repr

/-- A zone template (Table 11.1). -/
structure Template where
  /-- FLAGS -/
  flags : Nat
  /-- FRAME -/
  frame : Nat
  /-- GROUP -/
  group : Nat
  /-- MAXDIST -/
  maxDist : Nat
  /-- PORT -/
  port : Nat
  /-- BAND_MIN -/
  bandMin : Nat
  /-- BAND_MAX -/
  bandMax : Nat
  /-- TARGET -/
  target : Nat
  /-- E[0..15] -/
  e : List Nat
  deriving DecidableEq, Repr

/-- A gate (Table 11.2). -/
structure Gate where
  /-- FLAGS -/
  flags : Nat
  /-- RANGING -/
  ranging : Nat
  /-- ROLES -/
  roles : Nat
  /-- COND -/
  cond : Nat
  /-- SCOPE -/
  scope : Nat
  /-- ACTION -/
  action : Nat
  /-- GROUPS -/
  groups : Nat
  deriving DecidableEq, Repr

/-- An action entry (Table 11.3). -/
structure ActEntry where
  /-- KIND -/
  kind : Nat
  /-- ARG -/
  arg : Nat
  /-- WIDTH -/
  width : Nat
  /-- LEVEL -/
  level : Nat
  deriving DecidableEq, Repr

/-- A rule set (R255, R261). -/
structure RuleSet where
  /-- VERSION -/
  version : Nat
  /-- gates -/
  gates : List Gate
  /-- action entries -/
  acts : List ActEntry
  deriving DecidableEq, Repr

/-- A pasture map (R250, R261). -/
structure ZoneMap where
  /-- VERSION -/
  version : Nat
  /-- templates -/
  templs : List Template
  deriving DecidableEq, Repr

/-- Verdict engine (R246 to R266). -/
structure Vrd where
  /-- active rule set -/
  rules : Option RuleSet
  /-- active map -/
  map : Option ZoneMap
  /-- staged rule set -/
  stRules : Option RuleSet
  /-- staged map -/
  stMap : Option ZoneMap
  /-- bank of the active rule set in the Pasture region -/
  ruleBank : Nat
  /-- bank of the active map -/
  mapBank : Nat
  deriving DecidableEq, Repr

/-- A Caddy slot (Table 13.1). KIND 0 is empty. -/
structure Slot where
  /-- KIND -/
  kind : Nat
  /-- USAGE -/
  usage : Nat
  /-- ORIGIN -/
  origin : Nat
  /-- GEN -/
  gen : Nat
  /-- key material -/
  key : Bytes
  deriving DecidableEq, Repr

/-- A change of a slot that waits for its last holder (R304): the new content, generation left out. -/
structure SlotChange where
  /-- its KEY_UNWRAP, KEY_DERIVE or KEY_CLEAR -/
  d : Desc
  /-- slot -/
  slot : Nat
  /-- new content -/
  new : Slot
  deriving DecidableEq, Repr

/-- Cipher engine and Caddy (R299 to R323). -/
structure Cry where
  /-- the 64 slots -/
  slots : List Slot
  /-- slots held by operations that last beyond one command, with the holder (R304) -/
  holders : List (Nat × Desc)
  /-- changes waiting, in dispatch order -/
  changes : List SlotChange
  deriving DecidableEq, Repr

/-- Random number generator; state, counters and estimator values are in the RNG_ registers (R324 to R338). -/
structure Rng where
  /-- RNG_GET requests waiting, in arrival order, with the TIMEBASE of arrival -/
  wait : List (Desc × Nat)
  /-- raw samples tested since the last Steep (TESTED) -/
  tested : Nat
  /-- longest run since the last Steep (RCT_MAX) -/
  rctMax : Nat
  /-- TIMEBASE at the end of the estimator window reported (EST_TB) -/
  estTb : Nat
  deriving DecidableEq, Repr

/-- A timer channel (R390 to R397). -/
structure Channel where
  /-- MODE: 0 OFF, 1 CAPTURE, 2 COMPARE, 3 PERIODIC -/
  mode : Nat
  /-- SRC -/
  src : Nat
  /-- ORDER -/
  order : Nat
  /-- FILT -/
  filt : Nat
  /-- ACT -/
  act : Nat
  /-- next compare value C; 64 bits on a STARTEN channel (R405) -/
  c : Nat
  /-- PERIOD -/
  period : Nat
  /-- matches left; none for unlimited -/
  left : Option Nat
  /-- OUT -/
  out : Bool
  /-- armed -/
  armed : Bool
  /-- LATE at the last arming -/
  late : Bool
  /-- CREDIT at the last pair or match -/
  credit : Bool
  /-- effective tick E of the last configuration (R392) -/
  since : Nat
  /-- CAP_RISE -/
  rise : Nat
  /-- CAP_FALL -/
  fall : Nat
  /-- CAP_WIDTH -/
  width : Nat
  /-- NEW -/
  fresh : Bool
  /-- OVERRUN -/
  overrun : Bool
  /-- CAPS -/
  caps : Nat
  /-- MISSED -/
  missed : Nat
  /-- TIMEBASE of the last CAPTURE event (R399) -/
  evtAt : Option Nat
  deriving DecidableEq, Repr

/-- A verdict-output pulse on a GPIO (R258, R403). -/
structure Pulse where
  /-- pin -/
  pin : Nat
  /-- TIMEBASE of its end -/
  stop : Nat
  /-- LEVEL -/
  level : Bool
  deriving DecidableEq, Repr

/-- Timers (R388 to R406). -/
structure Tmr where
  /-- the 32 channels -/
  ch : List Channel
  /-- pulses in progress -/
  pulses : List Pulse
  /-- overflows of TIMEBASE[31:0] applied so far (R394) -/
  wraps : Nat
  deriving DecidableEq, Repr

/-- The whole machine. -/
structure State where
  /-- commands waiting, first in first out -/
  pending : List Instr
  /-- which part this is (R1) -/
  part : Part
  /-- free values taken so far: the model's own counter (log entry 5) -/
  free : Nat
  /-- register file: BAR0 offset and word; an unlisted offset holds its reset value -/
  regs : List (Nat × Word)
  /-- high words latched by reads of low words: offset of the high word and its value (R8) -/
  latchHi : List (Nat × Word)
  /-- writes held for an island that is off, or for a running operation, oldest first (R108) -/
  heldWr : List (Nat × Word)
  /-- clocks -/
  clk : Clk
  /-- power and resets -/
  pwr : Pwr
  /-- pads -/
  pins : Pins
  /-- host interface -/
  hif : Hif
  /-- host memory, as DMA sees it -/
  hostMem : List Host.Cell
  /-- ranges of host memory that answer DMA with an error: base and length (R118) -/
  dmaBad : List (Nat × Nat)
  /-- Drover's data memory (R444) -/
  droverMem : List Host.Cell
  /-- the monitor's buffer (R423) -/
  monMem : List Host.Cell
  /-- NV store -/
  nv : Nv
  /-- ledger -/
  lgr : Lgr
  /-- fold engine -/
  fold : Fold
  /-- LF field engine -/
  lf : Lf
  /-- poll in progress -/
  poll : Option Poll
  /-- flock, pinfold and immobiliser -/
  flk : Flk
  /-- lifecycle and firmware -/
  lcy : Lcy
  /-- Sitraim monitor -/
  mon : Mon
  /-- UHF radio -/
  uhf : Uhf
  /-- UWB radio -/
  uwb : Uwb
  /-- verdict engine -/
  vrd : Vrd
  /-- cipher engine and Caddy -/
  cry : Cry
  /-- random number generator -/
  rng : Rng
  /-- timers -/
  tmr : Tmr
  deriving DecidableEq, Repr

/-- Clock state at a power-on reset (R98). -/
def Clk.reset : Clk :=
  { tb := 0, frac := 0, wall := 0, wallRem := 0, wallRun := false, wallAt := 0, slew := 0, content := .none, lastFast := .fast38,
    timeSet := none, measAt := 0, gapAt := none, viols := [], lastViolRec := none, shGap := none, shWatch := none, lost := false }

/-- Power state at a power-on reset (R98). -/
def Pwr.reset : Pwr :=
  { st := .run, entering := none, idleSince := none, due := List.replicate 16 none, islands := 0x1FFF, hangs := [],
    held := [], srcAt := none, wakeSeen := 0, workAt := List.replicate 13 (0, 0), exitArmed := none, canAsked := false, inReset := false, vaonDown := false, qual := false, edgeArmed := false,
    aonLoad := true }

/-- Pads after reset (Table 02.5). -/
def Pins.reset : Pins :=
  { drive := 0, bridge := 0, lfdSafe := false, safeAt := (0, 0), straps := 0, testMode := false, resetN := false, perst := true,
    wakeN := false, startA := false, startB := false, coexReq := false, coexPri := false,
    coexGnt := false, trsw := false, pa := false, canStb := true, gpio := 0xC00000, wake := 0xFF }

/-- A queue pair at reset (Table 05.4). -/
def Qp.reset : Qp :=
  { sqHead := 0, sqTail := 0, cqTail := 0, cqHead := 0, used := 0, phase := false, enabled := false, quiesced := true,
    err := false, blkDrv := false, unsig := 0, unsigAt := none }

/-- An MSI-X vector at reset: masked (PRESUMED, log entry 9). -/
def MsixEntry.reset : MsixEntry := { addr := 0, data := 0, masked := true }

/-- The host interface at reset. -/
def Hif.reset : Hif :=
  { link := .down, trained := false, relock := false, pmeOff := false, busMaster := false, d3hot := false,
    qps := List.replicate 32 Qp.reset, dispNo := 0, turn := 32, flight := [], held := [], droverQ := [], back := [],
    msix := List.replicate 34 MsixEntry.reset, pba := 0, msixEn := false, sent := [], backlog := [],
    overflow := none, evtSeq := 0, routes := [] }

/-- The NV store as the factory leaves it (R356), before recall. -/
def Nv.reset : Nv :=
  { mem := [], bad := [], soft := [], weak := [], worn := [], recs := [], wornRecs := [], twins := [], checked := [], buf := [],
    incAt := [], scrubEnd := 0, holdWasLow := false, holdAt := none,
    ledgerReady := false, loaded := false }

/-- The ledger sequencer before recall. -/
def Lgr.reset : Lgr :=
  { next := 0, openRecs := none, openTb := 0, marks := [], placed := (0, 0), head := 0, w := 0, signed := 0, lost := 0, preclear := false,
    ckpt := [], closed := false, buffered := [], waiting := [], hostWait := [], evt := true, fullWarn := 90, sealS := 60, keyOk := true }

/-- A tree with no fold and no parent (R169). -/
def Tree.empty : Tree :=
  { lpar := List.replicate 136 255, fpar := List.replicate 255 255, fdef := List.replicate 255 false }

/-- The fold engine with no stored tree (R169). -/
def Fold.reset : Fold :=
  { live := Tree.empty, staging := Tree.empty, pend := none, retired := List.replicate 136 false, op := none,
    queue := [], wait := [] }

/-- The LF engine at reset. -/
def Lf.reset : Lf :=
  { cals := [], nextNo := 0, queue := [], wait := [], run := none, ffRec := none, violRec := none, viols := 0,
    coils := List.replicate 4 0 }

/-- Flock, pinfold and immobiliser with nothing stored. -/
def Flk.reset : Flk :=
  { flock := none, staged := none, pend := none, learn := none, bell := none, track := [], ptimeAt := 0,
    pinRecAt := 0, perm := none, revoke := [], lastEdge := 0, pair := none, stage := none, txq := [], canOut := [], viols := [],
    silent := none, zeroised := false }

/-- Lifecycle and firmware after a power-on reset of a factory device. -/
def Lcy.reset : Lcy :=
  { service := none, nonce := none, otp := 0, keysGone := false, retiring := false, stage := none, running := 0,
    sel := 0, trial := none, pendAct := none, drover := .off, progress := 0, steepWait := [] }

/-- The monitor after reset: locked. -/
def Mon.reset : Mon :=
  { unlocked := false, nonce := none, fails := 0, lockout := none, lastCmd := 0, desc := none,
    out := [], gone := false }

/-- The UHF radio at reset. -/
def Uhf.reset : Uhf :=
  { run := none, queue := [], windows := [], window := false, lastEnd := 0, bands := [], allBands := false,
    walk := [⟨0, 0, 1⟩], lo := 0, sent := [], bg := none, bgAt := 0, bgTemp := 0, filt := 0, dc := 0 }

/-- The UWB radio at reset. -/
def Uwb.reset : Uwb :=
  { exch := [], free := 0, hold := false, run := none, cur := none, queue := [], lastEnd := 0, walk := [⟨0, 0, 1⟩], chan := 5, bg := none,
    cald := [], bgAt := 0, bgTemp := 0 }

/-- The verdict engine with nothing loaded. -/
def Vrd.reset : Vrd :=
  { rules := none, map := none, stRules := none, stMap := none, ruleBank := 0, mapBank := 0 }

/-- An empty slot at generation 0. -/
def Slot.empty : Slot := { kind := 0, usage := 0, origin := 0, gen := 0, key := [] }

/-- The Caddy after a system reset (R303). -/
def Cry.reset : Cry := { slots := List.replicate 64 Slot.empty, holders := [], changes := [] }

/-- The generator at reset. -/
def Rng.reset : Rng := { wait := [], tested := 0, rctMax := 0, estTb := 0 }

/-- A channel after a system reset: OFF with OUT 0 (R404). -/
def Channel.off : Channel :=
  { mode := 0, src := 0, order := 0, filt := 0, act := 0, c := 0, period := 0, left := none, out := false,
    armed := false, late := false, credit := false, since := 0, rise := 0, fall := 0, width := 0, fresh := false,
    overrun := false, caps := 0, missed := 0, evtAt := none }

/-- Channel 31 is always in CAPTURE with ORDER 1 (R398). -/
def Channel.refclk : Channel := { Channel.off with mode := 1, order := 1, armed := true }

/-- Timers after a system reset (R404). -/
def Tmr.reset : Tmr := { ch := List.replicate 31 Channel.off ++ [Channel.refclk], pulses := [], wraps := 0 }

/-- The machine right after a power-on reset, with factory MRAM and nothing placed. -/
def State.reset : State :=
  { pending := [], part := .blv8128, free := 0, regs := [(0x0660, 1)], latchHi := [], heldWr := [], clk := Clk.reset,
    pwr := Pwr.reset, pins := Pins.reset, hif := Hif.reset, hostMem := [], dmaBad := [], droverMem := [],
    monMem := [], nv := Nv.reset, 
    lgr := { Lgr.reset with buffered := [.device ⟨0x17, 1, 0, 0, 0⟩] }, fold := Fold.reset, lf := Lf.reset, poll := none, flk := Flk.reset, lcy := Lcy.reset,
    mon := Mon.reset, uhf := Uhf.reset, uwb := Uwb.reset, vrd := Vrd.reset, cry := Cry.reset,
    rng := Rng.reset, tmr := Tmr.reset }

end Sys2Proof.Machine
end

