-- ==== Sys2Proof/Machine/Ops.lean ====
section
/-! DEFINITION. Machine/Ops.lean: the named operations over the register file, the byte memories and time. -/
namespace Sys2Proof.Machine

/-! ## Sparse lists in canonical form -/

/-- What key `k` holds; an unlisted key holds `d k`. -/
def sget {β : Type} (d : Nat → β) (k : Nat) : List (Nat × β) → β
  | [] => d k
  | (a, v) :: l => if a = k then v else sget d k l

/-- Writes key `k`: keys stay rising, and writing the default removes the entry. -/
def sset {β : Type} [DecidableEq β] (d : Nat → β) (k : Nat) (v : β) : List (Nat × β) → List (Nat × β)
  | [] => if v = d k then [] else [(k, v)]
  | (a, w) :: l =>
    if k < a then (if v = d k then (a, w) :: l else (k, v) :: (a, w) :: l)
    else if k = a then (if v = d k then l else (k, v) :: l)
    else (a, w) :: sset d k v l

/-- Canonical form: keys above `lo`, strictly rising, no entry equal to its default. -/
def swfFrom {β : Type} [DecidableEq β] (d : Nat → β) : Option Nat → List (Nat × β) → Bool
  | _, [] => true
  | lo, (a, v) :: l => (match lo with | none => true | some x => decide (x < a)) && decide (v ≠ d a)
      && swfFrom d (some a) l

/-- Canonical form of a sparse list. -/
def swf {β : Type} [DecidableEq β] (d : Nat → β) (l : List (Nat × β)) : Bool := swfFrom d none l

/-! ## Byte memories -/

/-- Host, Drover and monitor memory that nothing has written reads 0 (DESIGN CHOICE, log entry 10). -/
def zeroByte : Nat → Byte := fun _ => 0

/-- One byte of a sparse memory. -/
def mget (d : Nat → Byte) (m : List Host.Cell) (a : Nat) : Byte := sget d a m

/-- `n` bytes from address `a`. -/
def mread (d : Nat → Byte) (m : List Host.Cell) (a n : Nat) : Bytes :=
  (List.range n).map (fun i => mget d m (a + i))

/-- Writes bytes from address `a` upward. -/
def mwrite (d : Nat → Byte) (m : List Host.Cell) (a : Nat) : Bytes → List Host.Cell
  | [] => m
  | b :: bs => mwrite d (sset d a b m) (a + 1) bs

/-- A memory is in canonical form. -/
def Memory.wf (d : Nat → Byte) (m : List Host.Cell) : Bool := swf d m

/-- The CHECK of a factory cell of counter `c`: VALUE 0 (R356). -/
def factoryCheck (c : Nat) : Nat := crc16 (List.replicate 6 0 ++ [byteOf c])

/-- Factory content of the MRAM: every tally cell holds VALUE 0 with its CHECK (R356); the rest reads 0 (DESIGN
CHOICE, log entry 10). -/
def nvDflt (a : Nat) : Byte :=
  if a < 0x10000 then
    (if a % 8 = 6 then byteOf (factoryCheck (a / 256)) else
     if a % 8 = 7 then byteOf (factoryCheck (a / 256) / 256) else 0)
  else 0

/-! ## Registers -/

/-- Reset value of a register (the Reset columns of the register maps; the parts differ as Tables 05.14, 15.13
and 11.x give). -/
def regReset (p : Part) (off : Nat) : Word :=
  if off = 0x0000 then (match p with | .blv8128 => 0xBE018128 | .blv8064 => 0xBE018064 | .blv8032n => 0xBE018032) else
  if off = 0x0004 then 0x00010000 else
  if off = 0x0008 then (match p with | .blv8128 => 0x3C064480 | .blv8064 => 0x20062440 | .blv8032n => 0x10020220) else
  if off = 0x000C then (match p with | .blv8128 => 0x020E0000 | .blv8064 => 0x02068000 | .blv8032n => 0x0202C000) else
  if 0x0100 ≤ off ∧ off < 0x0400 then (if (off - 0x0100) % 0x18 = 0x10 then 0x00080000 else 0) else
  if off = 0x0408 then 0x00003216 else
  if off = 0x040C then 0x00000001 else
  if off = 0x0604 then 0x00000014 else
  if off = 0x0608 then 0xFFFFFFFF else
  if off = 0x0610 then 0x020000FF else
  if 0x0620 ≤ off ∧ off < 0x0660 then 0x03000000 else
  if off = 0x0800 then 0x00000260 else
  if off = 0x0808 then 0x0001E848 else
  if off = 0x080C then 0x0089D014 else
  if off = 0x0810 then 0x00000029 else
  if off = 0x0814 then 0x19032840 else
  if off = 0x0818 then (match p with | .blv8032n => 0x0035E848 | _ => 0x00F5E848) else
  if 0x0C00 ≤ off ∧ off < 0x1000 then
    (if off % 8 = 0 then BitVec.ofNat 32 (0x00400000 + (off - 0x0C00) / 8 * 0x01000000) else 0) else
  if off = 0x1400 then 0x00001E10 else
  if off = 0x1408 then 0x00069DD4 else
  if off = 0x140C then 0x0006A02C else
  if off = 0x1410 ∨ off = 0x1414 then 0x00C01801 else
  if off = 0x1418 then 0x00000192 else
  if off = 0x141C then 0x0000000A else
  if off = 0x1420 then 0x00321401 else
  if off = 0x1424 then 0x000008BC else
  if 0x1600 ≤ off ∧ off < 0x1800 then
    (match p with
     | .blv8032n => 0
     | _ =>
      if off = 0x1600 then 0x1E3C0910 else
      if off = 0x1608 then 0x00000006 else
      if 0x1610 ≤ off ∧ off < 0x1650 then
        (if off % 16 = 0 then BitVec.ofNat 32 (Nat.xor ((off - 0x1610) / 16) 1 * 4) else
         if off % 16 = 4 ∨ off % 16 = 8 then 0x40004000 else 0) else
      if 0x1650 ≤ off ∧ off < 0x1660 then 0x00FFFFFF else 0) else
  if off = 0x1800 then 0x00020640 else
  if off = 0x1C00 then 0x00000710 else
  if off = 0x1C14 then 0x0000103C else
  if off = 0x1C18 then 0x0000FFFF else
  if off = 0x1C28 then 0x00000001 else
  if off = 0x2000 then 0x00000020 else
  if off = 0x2200 then 0x00000002 else
  if off = 0x2208 then 0x55555555 else
  if off = 0x2400 then 0x00001801 else
  if off = 0x2408 then (match p with | .blv8128 => 0x0038003C | .blv8064 => 0x001A0020 | .blv8032n => 0x000B0010) else
  if off = 0x2600 then 0x003C5A10 else
  if off = 0x2804 then 0x00000003 else
  if off = 0x2834 then 0x05050000 else
  if off = 0x2C04 then 0x00000F00 else
  if off = 0x3000 then 0x000012C0 else 0

/-- A register's stored word. -/
def regGet (off : Nat) (s : State) : Word := sget (regReset s.part) off s.regs

/-- Stores a register's word. -/
def regSet (off : Nat) (v : Word) (s : State) : State :=
  { s with regs := sset (regReset s.part) off v s.regs }

/-- The bits of field `f` in word `w`. -/
def Field.of (f : Field) (w : Word) : Nat := w.toNat / 2 ^ f.lo % 2 ^ f.width

/-- Word `w` with field `f` holding the low bits of `v`. -/
def Field.put (f : Field) (v : Nat) (w : Word) : Word :=
  BitVec.ofNat 32 (w.toNat % 2 ^ f.lo + (v % 2 ^ f.width) * 2 ^ f.lo
    + w.toNat / 2 ^ (f.lo + f.width) * 2 ^ (f.lo + f.width))

/-- The value of a field. -/
def fld (f : Field) (s : State) : Nat := f.of (regGet f.off s)

/-- Whether a one-bit field is 1. -/
def flag (f : Field) (s : State) : Bool := fld f s == 1

/-- Sets a field. -/
def setFld (f : Field) (v : Nat) (s : State) : State := regSet f.off (f.put v (regGet f.off s)) s

/-- Sets a one-bit field from a truth value. -/
def setFlag (f : Field) (b : Bool) (s : State) : State := setFld f (b2n b) s

/-- Adds `k` to a counter field, saturating. -/
def addFld (f : Field) (k : Nat) (s : State) : State := setFld f (sat f.width (fld f s + k)) s

/-- Counts one in a saturating counter field. -/
def bump (f : Field) (s : State) : State := addFld f 1 s

/-- A write of word `v` to an RW field: a value in range is kept, another leaves the field and sets the block's
ERR_RANGE (R9). -/
def wrRw (err f : Field) (ok : Nat → Bool) (v : Word) (s : State) : State :=
  if ok (f.of v) then setFld f (f.of v) s else setFld err 1 s

/-- A write of word `v` to a one-bit W1C field (R7). -/
def wrW1c (f : Field) (v : Word) (s : State) : State := if f.of v = 1 then setFld f 0 s else s

/-- A write of word `v` to several W1C fields. -/
def wrW1cs (fs : List Field) (v : Word) (s : State) : State := fs.foldl (fun s f => wrW1c f v s) s

/-- An event whose condition does not hold leaves the state as it is (DESIGN CHOICE, log entry 4). -/
def onlyIf (c : Bool) (k : State → State) (s : State) : State := if c then k s else s

/-- Any value is in range. -/
def anyVal : Nat → Bool := fun _ => true

/-- A range of values. -/
def inRange (lo hi : Nat) : Nat → Bool := fun x => lo ≤ x && x ≤ hi

/-- A 64-bit register pair. -/
def reg64 (off : Nat) (s : State) : Nat := (regGet off s).toNat + 2 ^ 32 * (regGet (off + 4) s).toNat

/-- Stores a 64-bit register pair, low word first. -/
def setReg64 (off n : Nat) (s : State) : State :=
  regSet (off + 4) (BitVec.ofNat 32 (n / 2 ^ 32)) (regSet off (BitVec.ofNat 32 n) s)

/-- Registers from `lo` up to but not including `hi` go back to their reset values. -/
def clearRegs (lo hi : Nat) (s : State) : State :=
  { s with regs := s.regs.filter (fun p => p.1 < lo || hi ≤ p.1) }

/-- Registers in a list of offsets go back to their reset values. -/
def clearRegList (offs : List Nat) (s : State) : State :=
  { s with regs := s.regs.filter (fun p => !offs.contains p.1) }

/-! ## Free values -/

/-- The next `k` free bytes (log entry 5). -/
def freeBytes (k : Nat) (s : State) : Bytes := (List.range k).map (fun i => Config.freeByte (s.free + i))

/-- Marks `k` free bytes as taken. -/
def tookFree (k : Nat) (s : State) : State := { s with free := s.free + k }

/-- The fuse root key (R305). -/
def fuseRoot : Bytes := (List.range 32).map Config.fuseRoot

/-- The Device Serial Number, least significant byte first (R273). -/
def dsn : Bytes := (List.range 8).map Config.dsnByte

/-! ## Time -/

/-- TIMEBASE as a number. -/
def now (s : State) : Nat := s.clk.tb.toNat

/-- TIMEBASE in eighths of a tick (CLK_STATUS.TB_FRAC). -/
def nowEighths (s : State) : Nat := 8 * now s + s.clk.frac

/-- Eighths of a tick in `n` REFCLK periods of the content in force (R65). -/
def refEighths (n : Nat) (s : State) : Nat :=
  match s.clk.content with | .fast19 => 16 * n | .slow => 9375 * n | _ => 8 * n

/-- Ticks of `n` microseconds, rounded up: a tick is 1/38.4 us (R6). -/
def usTicks (n : Nat) : Nat := ceilDiv (n * 192) 5

/-- Ticks of `n` milliseconds (R6). -/
def msTicks (n : Nat) : Nat := n * 38400

/-- Ticks of `n` seconds (R6). -/
def secTicks (n : Nat) : Nat := n * 38400000

/-- TIMEBASE counts: qualified content, no clock loss, not in Fallow (R65, R77, R82). -/
def tbRuns (s : State) : Bool :=
  !s.clk.lost && !s.pwr.qual && !s.pwr.vaonDown && s.pwr.st != .fallow &&
  (match s.clk.content with | .fast38 | .fast19 | .slow => true | _ => false)

/-- The wall clock after `n` ticks: 16/9375 of 1/65,536 s a tick, half of it while a lag is being made (R71). -/
def wallPass (n : Nat) (c : Clk) : Clk :=
  if c.wallRun then
    let half := min n (ceilDiv c.slew 8)
    let r := c.wallRem + 16 * n - 8 * half
    { c with wall := c.wall + BitVec.ofNat 64 (r / 9375), wallRem := r % 9375, slew := c.slew - 8 * half }
  else c

/-- Words that leave the write-combining buffer in `n` ticks: 8 bytes per cycle of 200 MHz (R343). -/
def drainWords (n : Nat) : Nat := n * 125 / 24

/-- Words of a buffer entry. -/
def BufEntry.words : BufEntry → Nat
  | .word _ _ => 1
  | .record _ _ w => w

/-- The buffer after `n` words have been written to the array (R343). -/
def dropWords : Nat → List BufEntry → List BufEntry
  | _, [] => []
  | 0, l => l
  | n + 1, .word a o :: l => if n + 1 ≥ 1 then dropWords n l else .word a o :: l
  | n + 1, .record i o w :: l => if w ≤ n + 1 then dropWords (n + 1 - max w 1) l else .record i o (w - (n + 1)) :: l

/-- `n` ticks of TIMEBASE pass: the wall clock moves and the buffer drains. -/
def passTicks (n : Nat) (s : State) : State :=
  { s with
    clk := { wallPass n s.clk with tb := s.clk.tb + BitVec.ofNat 64 n }
    nv := { s.nv with buf := dropWords (drainWords n) s.nv.buf } }

/-- TIMEBASE counts slow edges, or both edges' ticks of Fast 19.2 (R65, R67). -/
def coarse (s : State) : Bool := s.pwr.st == .pen || s.pwr.st == .watch

/-- Time passes until TIMEBASE is at least `t`, in the steps of the content in force (R65). A tick in the past, or
a TIMEBASE that holds, leaves the state as it is (DESIGN CHOICE, log entry 1). -/
def elapse (t : Nat) (s : State) : State :=
  if t ≤ now s ∨ tbRuns s = false then s else
    match s.clk.content with
    | .slow =>
      let e := ceilDiv (8 * (t - now s) - s.clk.frac) 9375
      let r := s.clk.frac + 9375 * e
      let s1 := passTicks (r / 8) s
      { s1 with clk := { s1.clk with frac := r % 8 } }
    | .fast19 => passTicks (if coarse s && t % 2 == 1 then t + 1 - now s else t - now s) s
    | _ => passTicks (t - now s) s

/-- One edge of the counting clock (R65): 1 tick, 2 ticks of Fast 19.2 in Pen and Watch, 1171.875 ticks of slow
content; none while TIMEBASE holds (DESIGN CHOICE, log entry 2). -/
def oneEdge (s : State) : State :=
  if tbRuns s then
    match s.clk.content with
    | .slow =>
      let r := s.clk.frac + 9375
      let s1 := passTicks (r / 8) s
      { s1 with clk := { s1.clk with frac := r % 8 } }
    | .fast19 => passTicks (if coarse s then 2 else 1) s
    | _ => passTicks 1 s
  else s

/-- CLK_STATUS.CONTENT encoding (Table 03.9). -/
def contentCode : Content → Nat
  | .none => 0 | .fast38 => 1 | .fast19 => 2 | .slow => 3 | .invalid => 4

/-- The band of a class in units of 10 Hz: its lower limit and its width (Table 03.1). -/
def bandOf : Content → Nat × Nat
  | .fast38 => (2840000, 3160001)
  | .fast19 => (1000000, 1840000)
  | .slow => (2000, 3001)
  | _ => (0, 1)

/-- CLK_MEAS as it reads (R75): a measurement ends every 1024 edges; one that passes lies in the band of the class in
force, and where in it is free (log entry 108). -/
def measured (s : State) : Nat :=
  let k := (8 * (now s - s.clk.measAt)) / refEighths 1024 s
  if tbRuns s && k > 0 then
    let b := bandOf s.clk.content
    b.1 + Config.measured (8 * s.clk.measAt + k * refEighths 1024 s) % b.2
  else fld CLK_MEAS.FREQ s

/-- Wall-clock seconds (R131). -/
def wallSecs (s : State) : Nat := s.clk.wall.toNat / 65536

/-! ## Islands and power states -/

/-- Bit of an island in PWR_ISLANDS (Table 01.1). -/
def Island.bit : Island → Nat
  | .aon => 0 | .drover => 1 | .fabric => 2 | .vrdcry => 3 | .lfs => 4 | .lfa => 5 | .uhf => 6 | .uwb => 7
  | .pcie => 8 | .nvs => 9 | .can => 10 | .slow => 11 | .rng => 12

/-- An island is powered and out of reset. -/
def islandOn (i : Island) (s : State) : Bool := s.pwr.islands.getLsbD i.bit

/-- PWR_STATUS.STATE encoding (Table 04.10). -/
def PState.code : PState → Nat
  | .run => 0 | .graze => 1 | .pen => 2 | .watch => 3 | .fallow => 4

/-- Fast content is in force. -/
def fastContent (s : State) : Bool := s.clk.content == .fast38 || s.clk.content == .fast19

/-- Sets the power state and PWR_STATUS.STATE. -/
def setPState (p : PState) (s : State) : State :=
  setFld PWR_STATUS.STATE p.code { s with pwr := { s.pwr with st := p, entering := none } }

/-! ## Host memory -/

/-- A range touches a part of host memory that answers with an error (R118). -/
def dmaFails (a n : Nat) (s : State) : Bool :=
  n > 0 && s.dmaBad.any (fun r => a < r.1 + r.2 && r.1 < a + n)

/-- A used range wraps past the top of the 64-bit address space (R118). -/
def wraps (a n : Nat) : Bool := a + n > 2 ^ 64

end Sys2Proof.Machine
end

