-- ==== Sys2Proof/Machine/NvOps.lean ====
section
/-! DEFINITION. Machine/NvOps.lean: the MRAM array, its write-combining buffer, dual-copy records and tally cells
(R339 to R357). -/
namespace Sys2Proof.Machine

/-- MRAM size in bytes (Table 00.1). -/
def mramSize : Part → Nat
  | .blv8128 => 60 * 2 ^ 20
  | .blv8064 => 32 * 2 ^ 20
  | .blv8032n => 16 * 2 ^ 20

/-- Ledger blocks N (Table 00.1). -/
def ledgerBlocks : Part → Nat
  | .blv8128 => 917504
  | .blv8064 => 425984
  | .blv8032n => 180224

/-- End of the Ledger region (Table 15.1, Table 15.13). -/
def ledgerEnd (p : Part) : Nat := 0x400000 + 64 * ledgerBlocks p

/-- A word of the array as eight bytes. -/
def nvWordBytes (a : Nat) (s : State) : Bytes := mread nvDflt s.nv.mem a 8

/-- Bytes of the array, without counting corrections. -/
def nvPeek (a n : Nat) (s : State) : Bytes := mread nvDflt s.nv.mem a n

/-- Aligned word addresses that a range touches. -/
def wordsOf (a n : Nat) : List Nat :=
  if n = 0 then [] else (List.range ((a + n - 1) / 8 - a / 8 + 1)).map (fun i => 8 * (a / 8 + i))

/-- First uncorrectable word of a range. -/
def badWord (a n : Nat) (s : State) : Option Nat := (wordsOf a n).find? (fun w => s.nv.bad.contains w)

/-- A read up to the first uncorrectable word counts the corrected words before it, and that word with its address
(R341, R362). -/
def countRead (a n : Nat) (s : State) : State :=
  let ws := (wordsOf a n).takeWhile (fun w => !s.nv.bad.contains w)
  let s := addFld NVS_ECC_CNT.CORR (ws.countP (fun w => s.nv.soft.contains w)) s
  match badWord a n s with
  | none => s
  | some w => setFld NVS_ERR_ADDR.VALID 1 (setFld NVS_ERR_ADDR.ADDR w (bump NVS_ECC_CNT.UNCORR s))

/-- Words of the buffer in use. -/
def bufWords (s : State) : Nat := (s.nv.buf.map BufEntry.words).sum

/-- Accepts an entry; what no longer fits the 64 words streams into the array, oldest first (R343). -/
def pushBuf (e : BufEntry) (s : State) : State :=
  let b := s.nv.buf ++ [e]
  let n := (b.map BufEntry.words).sum
  { s with nv := { s.nv with buf := dropWords (n - 64) b } }

/-- Everything accepted has been written to the array. -/
def drainAll (s : State) : State := { s with nv := { s.nv with buf := [] } }

/-- A write of these bytes has a word that is written once more (R344). -/
def rewrites (a n : Nat) (s : State) : Bool := (wordsOf a n).any (fun w => s.nv.weak.contains w)

/-- Writes one aligned word, once more where it does not verify. A word that does not take the write keeps its old content and counts as a failed write
(R344); the answer says whether it failed. -/
def nvWriteWord (a : Nat) (bs : Bytes) (s : State) : State × Bool :=
  if s.nv.worn.contains a then (bump NVS_REC_CNT.WFAIL s, true)
  else
    let old := leNat (nvWordBytes a s)
    let s1 := pushBuf (.word a old) s
    ({ s1 with nv := { s1.nv with
        mem := mwrite nvDflt s1.nv.mem a (fit 8 bs)
        bad := s1.nv.bad.filter (· ≠ a)
        weak := s1.nv.weak.filter (· ≠ a)
        soft := s1.nv.soft.filter (· ≠ a) } }, false)

/-- The new content of word `w` when `bs` is written at `a`: untouched bytes are kept (R343). -/
def mergeWord (w a : Nat) (bs : Bytes) (s : State) : Bytes :=
  (List.range 8).map (fun i =>
    if a ≤ w + i ∧ w + i < a + bs.length then bs.getD (w + i - a) 0 else mget nvDflt s.nv.mem (w + i))

/-- Writes words in ascending order, stopping at the first that fails (R344). -/
def nvWriteWords (a : Nat) (bs : Bytes) : List Nat → State → State × Option Nat
  | [], s => (s, none)
  | w :: ws, s =>
    let r := nvWriteWord w (mergeWord w a bs s) s
    if r.2 then (r.1, some w) else nvWriteWords a bs ws r.1

/-- Writes bytes at an NV address; answers the failed word, if any (R343, R344). -/
def nvWrite (a : Nat) (bs : Bytes) (s : State) : State × Option Nat :=
  nvWriteWords a bs (wordsOf a bs.length) s

/-! ## Dual-copy records -/

/-- SEQ `x` is newer than `y` (R353). -/
def seqNewer (x y : Nat) : Bool :=
  let d := (x + 2 ^ 32 - y) % 2 ^ 32
  1 ≤ d && d < 2 ^ 31

/-- The SEQ after `x` (Table 15.5). -/
def seqNext (x : Nat) : Nat := if x ≥ 0xFFFFFFFF then 1 else x + 1

/-- Which copy a read returns: 0 for A, 1 for B; none when neither is valid (Table 15.6). -/
def Dual.pick (d : Dual) : Option Nat :=
  match d.a, d.b with
  | none, none => none
  | some _, none => some 0
  | none, some _ => some 1
  | some a, some b => if seqNewer b.seq a.seq then some 1 else some 0

/-- The copy a read returns. -/
def Dual.newest (d : Dual) : Option Copy :=
  match d.pick with
  | none => none
  | some 0 => d.a
  | some _ => d.b

/-- Both copies valid, same SEQ, different content (Table 15.6). -/
def Dual.twin (d : Dual) : Bool :=
  match d.a, d.b with
  | some a, some b => a.seq == b.seq && a.data != b.data
  | _, _ => false

/-- Which copy the next write goes to (R353, Table 15.6). -/
def Dual.writeTo (d : Dual) : Nat :=
  match d.a, d.b with
  | none, _ => 0
  | some _, none => 1
  | some a, some b => if seqNewer b.seq a.seq then 0 else 1

/-- SEQ of the next write (R353). -/
def Dual.nextSeq (d : Dual) : Nat :=
  match d.newest with
  | none => 1
  | some c => seqNext c.seq

/-- The record after a write of `bs`. -/
def Dual.write (d : Dual) (bs : Bytes) : Dual :=
  let c : Copy := ⟨d.nextSeq, bs⟩
  if d.writeTo = 0 then { d with a := some c } else { d with b := some c }

/-- The record after repair: an invalid copy is rewritten from the valid one (Table 15.6). -/
def Dual.repair (d : Dual) : Dual :=
  match d.a, d.b with
  | some a, none => { d with b := some a }
  | none, some b => { d with a := some b }
  | _, _ => d

/-- Whether repair has something to do. -/
def Dual.needsRepair (d : Dual) : Bool := d.a.isSome != d.b.isSome

/-- A record with no valid copy. -/
def Dual.empty : Dual := ⟨none, none⟩

/-- A device record. -/
def recGet (id : Nat) (s : State) : Dual := sget (fun _ => Dual.empty) id s.nv.recs

/-- The content of a device record. -/
def recRead (id : Nat) (s : State) : Option Bytes := (recGet id s).newest.map Copy.data

/-- Words of a record copy of `n` data bytes (Table 15.5). -/
def recWords (n : Nat) : Nat := ceilDiv (16 + n) 8

/-- Writes a device record (R352, R353); answers whether the write failed (R344), in which case that copy becomes
invalid and the other stays in force. -/
def recWrite (id : Nat) (bs : Bytes) (s : State) : State × Bool :=
  let d := recGet id s
  if s.nv.wornRecs.contains id then
    let d' := if d.writeTo = 0 then { d with a := none } else { d with b := none }
    (bump NVS_REC_CNT.WFAIL { s with nv := { s.nv with
      recs := sset (fun _ => Dual.empty) id d' s.nv.recs } }, true)
  else
    let s1 := pushBuf (.record id d (recWords bs.length)) s
    ({ s1 with nv := { s1.nv with
        recs := sset (fun _ => Dual.empty) id (d.write bs) s1.nv.recs
        twins := s1.nv.twins.filter (· ≠ id) } }, false)

/-- A device record's next write fails (R344). -/
def recFails (id : Nat) (s : State) : Bool := s.nv.wornRecs.contains id

/-- A device record is being stored: a write of it is in the write-combining buffer, not yet in the array (R343). -/
def storing (id : Nat) (s : State) : Bool :=
  s.nv.buf.any (fun e => match e with | .record i _ _ => i == id | .word _ _ => false)

/-- Removes a device record. -/
def recErase (id : Nat) (s : State) : State :=
  { s with nv := { s.nv with recs := sset (fun _ => Dual.empty) id Dual.empty s.nv.recs } }

/-! Record numbers of device records. The spec fixes only the statement ring (R378); the rest are DESIGN CHOICE
(log entry 11). -/

/-- Ledger statement `k` of the ring (R378). -/
def recStatement (k : Nat) : Nat := 0x0E00 + k % 256
/-- POWER_HINT with PERSIST (R83). -/
def recHint : Nat := 0x0100
/-- Autonomous schedule (R96). -/
def recSched : Nat := 0x0101
/-- Wall clock (R133). -/
def recWall : Nat := 0x0102
/-- LF engine set-up (R163). -/
def recLfe : Nat := 0x0103
/-- Fold tree and retirement (R169). -/
def recTree : Nat := 0x0104
/-- UHF set-up (R223). -/
def recUhf : Nat := 0x0105
/-- UWB set-up (R245). -/
def recUwb : Nat := 0x0106
/-- VRD set-up (R266). -/
def recVrd : Nat := 0x0107
/-- Rule set of bank `b` (R262). -/
def recRules (b : Nat) : Nat := 0x0120 + b
/-- Pasture map of bank `b` (R262). -/
def recMap (b : Nat) : Nat := 0x0122 + b
/-- Active selection of rules and map (R263). -/
def recVrdSel : Nat := 0x0124
/-- FLK set-up (R298). -/
def recFlk : Nat := 0x010A
/-- Flock (R270). -/
def recFlock : Nat := 0x010B
/-- Pinfold record (R284). -/
def recPin : Nat := 0x010D
/-- Immobiliser pairing (R296). -/
def recPair : Nat := 0x010E
/-- CRY set-up (R323). -/
def recCry : Nat := 0x010F
/-- LGR set-up (R387). -/
def recLgr : Nat := 0x0110
/-- Watermark W (R373). -/
def recW : Nat := 0x0111
/-- Pin functions (R406). -/
def recTmr : Nat := 0x0112
/-- Service limit (R426). -/
def recLcy : Nat := 0x0113
/-- Fleet key (R413). -/
def recFleet : Nat := 0x0114
/-- Bank record of bank `b` (R418). -/
def recBank (b : Nat) : Nat := 0x0116 + b
/-- Bank selection (R419). -/
def recSel : Nat := 0x0118
/-- Monitor set-up (R426). -/
def recMon : Nat := 0x0119

/-! ## Host records -/

/-- NV address of a copy of host record `n`: 0 for A, 1 for B (R352). -/
def hostRecAddr (n c : Nat) : Nat := 0x100000 + 0x800 * n + 0x400 * c

/-- A host record copy read from the array, when valid (Table 15.5, R353). -/
def hostCopy (n c : Nat) (s : State) : Option Copy :=
  let a := hostRecAddr n c
  let h := nvPeek a 16 s
  let len := leAt 2 2 h
  if leAt 12 4 h ≠ 0xB1E50010 ∨ leAt 0 2 h ≠ n ∨ len > 1008 ∨ leAt 4 4 h = 0 then none
  else if (badWord a (16 + len) s).isSome then none
  else
    let body := nvPeek (a + 16) len s
    if leAt 8 4 h = crc32c (h.take 8 ++ h.drop 12 ++ body) then some ⟨leAt 4 4 h, body⟩ else none

/-- The two copies of a host record. -/
def hostRec (n : Nat) (s : State) : Dual := ⟨hostCopy n 0 s, hostCopy n 1 s⟩

/-- The bytes of a copy, header first (Table 15.5). -/
def copyBytes (id : Nat) (c : Copy) : Bytes :=
  let h0 := leBytes 2 id ++ leBytes 2 c.data.length ++ leBytes 4 c.seq
  let magic := leBytes 4 0xB1E50010
  h0 ++ leBytes 4 (crc32c (h0 ++ magic ++ c.data)) ++ magic ++ c.data

/-- Writes a copy of a host record. A failed word makes the copy invalid: its header word becomes 0 (R344). -/
def writeHostCopy (n c : Nat) (cp : Copy) (s : State) : State × Option Nat :=
  let r := nvWrite (hostRecAddr n c) (copyBytes n cp) s
  match r.2 with
  | none => r
  | some w => ((nvWriteWord (hostRecAddr n c) (List.replicate 8 0) r.1).1, some w)

/-! ## Tally counters -/

/-- NV address of cell `i` of counter `c` (R356). -/
def cellAddr (c i : Nat) : Nat := 0x100 * c + 8 * i

/-- VALUE of a cell, when valid (R356). -/
def cellVal (c i : Nat) (s : State) : Option Nat :=
  let b := nvPeek (cellAddr c i) 8 s
  if s.nv.bad.contains (cellAddr c i) then none
  else if leAt 6 2 b = crc16 (b.take 6 ++ [byteOf c]) then some (leAt 0 6 b) else none

/-- Valid cells of a counter: slot and VALUE. -/
def validCells (c : Nat) (s : State) : List (Nat × Nat) :=
  (List.range 32).filterMap (fun i => (cellVal c i s).map (fun v => (i, v)))

/-- Value and current slot (R357): the largest VALUE, and the highest-numbered cell that holds it. -/
def tally (c : Nat) (s : State) : Option (Nat × Nat) :=
  (validCells c s).foldl (fun b p =>
    match b with
    | none => some (p.2, p.1)
    | some (v, _) => if p.2 ≥ v then some (p.2, p.1) else b) none

/-- The value of a counter, 0 with no valid cell. -/
def tallyVal (c : Nat) (s : State) : Nat := match tally c s with | some (v, _) => v | none => 0

/-- The eight bytes of a cell (R356). -/
def cellBytes (c v : Nat) : Bytes :=
  let b := leBytes 6 v
  b ++ leBytes 2 (crc16 (b ++ [byteOf c]))

/-- The largest value of a counter (R355). -/
def tallyMax : Nat := 2 ^ 48 - 1

/-- What an increment did (R357). -/
inductive TallyOut
  | done (value slot : Nat) (clipped retried : Bool)
  | saturated
  | failed
  | lostCounter
  deriving DecidableEq, Repr

/-- Increments a counter by `n` (R357): the cell after the current slot, and the next cell once more if that write
fails. A new increment of a counter starts no sooner than 1 us after the last (R358). -/
def tallyInc (c n : Nat) (s : State) : State × TallyOut :=
  let s := addFld NVS_TALLY_CNT.INVALID (32 - (validCells c s).length) s
  match tally c s with
  | none => (s, .lostCounter)
  | some (v, slot) =>
    if v ≥ tallyMax then (bump NVS_TALLY_CNT.SAT s, .saturated)
    else
      let v' := min (v + n) tallyMax
      let clip := decide (v + n > tallyMax)
      let i1 := (slot + 1) % 32
      let r := nvWriteWord (cellAddr c i1) (cellBytes c v') s
      if r.2 = false then (bump NVS_TALLY_CNT.INC r.1, .done v' i1 clip (rewrites (cellAddr c i1) 8 s))
      else
        let i2 := (slot + 2) % 32
        let r2 := nvWriteWord (cellAddr c i2) (cellBytes c v') r.1
        if r2.2 = false then (bump NVS_TALLY_CNT.INC r2.1, .done v' i2 clip true)
        else (r2.1, .failed)

/-! ## Power failure -/

/-- Entries put back to what the array held before them, newest first. -/
def undoEntry (e : BufEntry) (s : State) : State :=
  match e with
  | .word a o => { s with nv := { s.nv with mem := mwrite nvDflt s.nv.mem a (leBytes 8 o) } }
  | .record i o _ => { s with nv := { s.nv with recs := sset (fun _ => Dual.empty) i o s.nv.recs } }

/-- Page of a word (R341); a record counts as a page of its own. -/
def BufEntry.page : BufEntry → Nat × Nat
  | .word a _ => (0, a / 256)
  | .record i _ _ => (1, i)

/-- Address of a word within its page, for the order of R343. -/
def BufEntry.key : BufEntry → Nat
  | .word a _ => a
  | .record i _ _ => i

/-- Inserts an entry behind those of its page with a lower or equal address (R343). -/
def insertPage (e : BufEntry) : List BufEntry → List BufEntry
  | [] => [e]
  | x :: l => if x.page = e.page ∧ e.key < x.key then e :: x :: l else x :: insertPage e l

/-- Puts entries of one page together, in ascending address order, pages in acceptance order (R343). -/
def drainOrder : List BufEntry → List BufEntry
  | [] => []
  | e :: l =>
    let same := l.filter (fun x => x.page = e.page)
    let rest := drainOrder l
    same.foldl (fun acc x => insertPage x acc) [e] ++ rest.filter (fun x => x.page ≠ e.page)

/-- The emergency drain (R347, R349): the first `n` words are written; the word in flight reads as `torn` says; the
rest read old. `none` stands for a drain that wrote everything. -/
def emergencyDrain (cut : Option Nat) (torn : TornWord) (s : State) : State :=
  match cut with
  | none => drainAll s
  | some n =>
    let order := drainOrder s.nv.buf
    let left := dropWords n order
    match left with
    | [] => drainAll s
    | e :: rest =>
      let s1 := rest.reverse.foldl (fun s x => undoEntry x s) s
      let s2 := match torn with
        | .new => s1
        | .old => undoEntry e s1
        | .uncorrectable =>
          match e with
          | .word a _ => { undoEntry e s1 with nv := { (undoEntry e s1).nv with bad := a :: s1.nv.bad } }
          | .record _ _ _ => undoEntry e s1
      drainAll s2

end Sys2Proof.Machine
end

