-- ==== Sys2Proof/Machine/HostOps.lean ====
section
/-! DEFINITION. Machine/HostOps.lean: queue-pair rings, MSI-X, faults, events and the backlog (R27, R28, R105 to
R116, R126 to R130). -/
namespace Sys2Proof.Machine

/-! ## Lifecycle -/

/-- Persistent state from counter 249 (R408): 0 Blank, 1 Provisioned, 2 Field, 4 Retired; Field with no valid
cell. -/
def persistentState (s : State) : Nat :=
  match tally 249 s with
  | none => 2
  | some (v, _) => if v ≥ 3 then 4 else v

/-- Lifecycle state code (Table 18.1). -/
def lcState (s : State) : Nat :=
  if persistentState s = 2 ∧ s.lcy.service.isSome = true then 3 else persistentState s

/-- Retired. -/
def isRetired (s : State) : Bool := lcState s == 4

/-! ## Monitor lines -/

/-- The monitor prints a line. -/
def say (l : String) (s : State) : State := { s with mon := { s.mon with out := l :: s.mon.out } }

/-- An answer: its lines, then the prompt (R422). -/
def answer (ls : List String) (s : State) : State := say "bv> " (ls.foldl (fun s l => say l s) s)

/-- The monitor runs (R16, R43, R422, R425): GPIO22 and GPIO23 have FUNC 5 and have kept it since the last reset, Drover
runs, the SLOW island is clocked, and the device is not Retired. KEEP_MON keeps that island clocked in Graze. -/
def monActive (s : State) : Bool :=
  fld (TMR_PINFn.FUNC 5 2) s == 5 && fld (TMR_PINFn.FUNC 5 3) s == 5 && !s.mon.gone && s.lcy.drover == .ready
    && (s.pwr.st == .run || (s.pwr.st == .graze && bit 4 (fld PWR_HINT_KEEP.KEEP s))) && !isRetired s

/-! ## Queue pairs -/

/-- Queue pair `n`. -/
def qp (n : Nat) (s : State) : Qp := s.hif.qps.getD n Qp.reset

/-- Replaces queue pair `n`. -/
def setQp (n : Nat) (q : Qp) (s : State) : State := { s with hif := { s.hif with qps := s.hif.qps.set n q } }

/-- Entries of pair `n`'s submission ring (R112). -/
def sqSize (n : Nat) (s : State) : Nat := 2 ^ fld (QPn_CFG.SQ_SIZE n) s

/-- Entries of pair `n`'s completion ring (R112). -/
def cqSize (n : Nat) (s : State) : Nat := 2 ^ fld (QPn_CFG.CQ_SIZE n) s

/-- Base of pair `n`'s submission ring. -/
def sqBase (n : Nat) (s : State) : Nat := reg64 (QPn_SQB_LO.reg n) s

/-- Base of pair `n`'s completion ring. -/
def cqBase (n : Nat) (s : State) : Nat := reg64 (QPn_CQB_LO.reg n) s

/-- Descriptors of pair `n` in flight; a host link reset has cut the pair's ties to those it discards (R98). -/
def inFlight (n : Nat) (s : State) : Nat := s.hif.flight.countP (fun f => f.d.src = .host n ∧ f.discard = false)

/-- HIF_CTL.EN in force (R111), with D3hot (R106). -/
def hifEnabled (s : State) : Bool := flag HIF_CTL.EN s && flag HIF_STATUS.READY s && !s.hif.d3hot

/-- The link is in L0 or L1 (R27). -/
def linkUp (s : State) : Bool := s.hif.link == .l0 || s.hif.link == .l1

/-! ## The PCI Express function -/

/-- What the function shows in its configuration space and never changes (Table 05.1). -/
structure PcieFunction where
  /-- Vendor ID -/
  vendor : Nat
  /-- Device ID -/
  device : Nat
  /-- class code -/
  classCode : Nat
  /-- bytes of BAR0, 64-bit and non-prefetchable -/
  bar0 : Nat
  /-- bytes of BAR2, 64-bit and non-prefetchable -/
  bar2 : Nat
  /-- BAR4 and the expansion ROM as they read -/
  absentBars : Nat
  /-- Interrupt Pin -/
  intPin : Nat
  /-- MSI-X vectors -/
  vectors : Nat
  /-- offset of the MSI-X table in BAR2 -/
  tableAt : Nat
  /-- offset of the pending bits in BAR2 -/
  pbaAt : Nat
  /-- fastest link speed: 3 is Gen3 -/
  maxSpeed : Nat
  /-- lanes -/
  maxWidth : Nat
  /-- Max Payload Size in bytes -/
  payload : Nat
  /-- largest Max Read Request Size honoured, in bytes -/
  readRequest : Nat
  /-- outstanding reads -/
  reads : Nat
  /-- Slot Clock Configuration -/
  slotClock : Nat
  /-- ASPM support: bit 0 L0s, bit 1 L1 -/
  aspm : Nat
  /-- L1 exit latency encoding, 7 the longest -/
  l1Exit : Nat
  /-- No_Soft_Reset -/
  noSoftReset : Bool
  /-- PME support bits -/
  pme : Nat
  /-- Function Level Reset -/
  flr : Bool
  /-- Advanced Error Reporting -/
  aer : Bool
  /-- Device Serial Number capability -/
  serial : Nat
  deriving DecidableEq, Repr

/-- The function of a part (R104, Table 05.1). The host's writes to the configuration space have no row of their own but
for Bus Master Enable, D3hot, the MSI-X enable and Function Level Reset (log entry 107). -/
def pcieFunction (p : Part) : PcieFunction :=
  { vendor := 0x1F6E, device := (regReset p HIF_ID.reg).toNat % 65536, classCode := 0x108000, bar0 := 16384, bar2 := 4096,
    absentBars := 0, intPin := 0, vectors := 34, tableAt := 0x0800, pbaAt := 0x0C00, maxSpeed := 3, maxWidth := 2,
    payload := 256, readRequest := 512, reads := 32, slotClock := 0, aspm := 2, l1Exit := 7, noSoftReset := true, pme := 0,
    flr := true, aer := true, serial := leNat dsn }

/-! ## MSI-X -/

/-- Raises a vector (R130): it is sent, or its pending bit is set while it is masked. The message counts as sent whatever
the link, bus mastering and D3hot do with it (DESIGN CHOICE, log entry 98). -/
def raiseVector (n : Nat) (s : State) : State :=
  if s.hif.msixEn then
    if (s.hif.msix.getD n MsixEntry.reset).masked then
      { s with hif := { s.hif with pba := s.hif.pba ||| BitVec.ofNat 34 (2 ^ n) } }
    else { s with hif := { s.hif with sent := n :: s.hif.sent } }
  else s

/-- Sets HIF_FAULT bits; vector 33 is raised when one changes from 0 to 1 (R130). -/
def setFault (f : Field) (s : State) : State :=
  if flag f s then s else raiseVector 33 (setFld f 1 s)

/-! ## Completion rings -/

/-- A 32-byte completion entry (Table 05.9) without its phase bit. -/
def entryBytes (tag status opcode idx sqHead ts : Nat) (res : Bytes) (detail cflags : Nat) : Bytes :=
  leBytes 2 tag ++ [byteOf status, byteOf opcode] ++ leBytes 2 idx ++ leBytes 2 sqHead ++ leBytes 8 ts
    ++ fit 14 res ++ [byteOf detail, byteOf cflags]

/-- Writes an entry at CQ_TAIL of pair `n` with the pair's phase (R114). -/
def writeEntry (n : Nat) (e : Bytes) (s : State) : State :=
  let q := qp n s
  let last := byteAt 31 e + 128 * b2n q.phase
  let a := cqBase n s + 32 * q.cqTail
  let t := q.cqTail + 1
  let q' := if t ≥ cqSize n s then { q with cqTail := 0, phase := !q.phase, used := q.used + 1 }
    else { q with cqTail := t, used := q.used + 1 }
  setQp n q' { s with hostMem := mwrite zeroByte s.hostMem a (e.take 31 ++ [byteOf last]) }

/-- Bytes of an event's entry on pair `n` (R128). -/
def evtBytes (n : Nat) (e : Evt) (fromBacklog : Bool) (s : State) : Bytes :=
  entryBytes 0xFFFF e.status e.code e.seq (qp n s).sqHead e.ts e.res e.det (1 + 2 * b2n fromBacklog)

/-- The pair that an event of instant `ts` goes to (R134): one at or before the completion of an EVENT_ROUTE goes to the
pair that it replaced. -/
def evtPair (ts : Nat) (s : State) : Nat :=
  match s.hif.routes.find? (fun r => ts ≤ r.2) with
  | some r => r.1
  | none => fld HIF_EVT_ROUTE.QP s

/-- Completions of pair `n` still to be written: its descriptors in flight, and those held for the link (R115, R122). -/
def owed (n : Nat) (s : State) : Nat := inFlight n s + s.hif.held.countP (fun c => c.d.src = .host n)

/-- An event for pair `n` can be written to its ring now (R27, R107, R111, R115). -/
def canDeliver (n : Nat) (s : State) : Bool :=
  linkUp s && s.hif.busMaster && hifEnabled s && (qp n s).enabled && (qp n s).used + owed n s < cqSize n s

/-- Writes one event entry and raises vector 32 (R130). -/
def deliver (e : Evt) (fromBacklog : Bool) (s : State) : State :=
  let n := evtPair e.ts s
  raiseVector 32 (writeEntry n (evtBytes n e fromBacklog s) s)

/-- The single overflow event (R129). -/
def ovfEvt (o : Nat × Nat × Nat) : Evt :=
  { code := 0x0A, status := 0, seq := o.2.1, ts := o.2.2, res := leBytes 2 o.1, det := 0 }

/-- Delivers stored events in order while their rings take them (R28). -/
def deliverList : List Evt → State → State
  | [], s => { s with hif := { s.hif with backlog := [] } }
  | e :: es, s =>
    if canDeliver (evtPair e.ts s) s then deliverList es (deliver e true s)
    else { s with hif := { s.hif with backlog := e :: es } }

/-- Delivers the whole backlog, and then its overflow event (R28, R129). -/
def deliverBacklog (s : State) : State :=
  let s1 := deliverList s.hif.backlog s
  match s1.hif.backlog, s1.hif.overflow with
  | [], some o =>
    if canDeliver (evtPair o.2.2 s1) s1 then
      let s2 := deliver (ovfEvt o) true s1
      { s2 with hif := { s2.hif with overflow := none } }
    else s1
  | _, _ => s1

/-- Entries of the backlog (HIF_STATUS.BACKLOG). -/
def backlogCount (s : State) : Nat := s.hif.backlog.length + (if s.hif.overflow.isSome then 1 else 0)

/-- Stores an event in the backlog: 255 events, then one overflow entry that counts (R27). -/
def storeEvt (e : Evt) (s : State) : State :=
  match s.hif.overflow with
  | some (k, q, ts) => { s with hif := { s.hif with overflow := some (sat 16 (k + 1), q, ts) } }
  | none =>
    if s.hif.backlog.length < 255 then { s with hif := { s.hif with backlog := s.hif.backlog ++ [e] } }
    else setFault HIF_FAULT.BACKLOG_OVF { s with hif := { s.hif with overflow := some (1, e.seq, e.ts) } }

/-- The monitor echoes an event as a completion line while MON_CTL.EVT_ECHO is 1 (R423). -/
def echoEvt (e : Evt) (s : State) : State :=
  if flag MON_CTL.EVT_ECHO s && monActive s then say (hexBytes (evtBytes (evtPair e.ts s) e false s)) s else s

/-- Posts an event (R27, R28, R126, R128): it takes the next EVT_SEQ; the backlog goes first. An event's status counts
nothing in HIF_VIOL_CNT.DESC (DESIGN CHOICE, log entry 99). -/
def postDet (code status det ts : Nat) (res : Bytes) (s : State) : State :=
  let e : Evt := { code := code, status := status, seq := s.hif.evtSeq.toNat, ts := ts, res := fit 14 res, det := det }
  let s1 := deliverBacklog (echoEvt e { s with hif := { s.hif with evtSeq := s.hif.evtSeq + 1 } })
  if backlogCount s1 = 0 ∧ canDeliver (evtPair ts s1) s1 = true then deliver e false s1 else storeEvt e s1

/-- Posts an event with DETAIL 0. -/
def postAt (code status ts : Nat) (res : Bytes) (s : State) : State := postDet code status 0 ts res s

/-- Posts an event of this instant. -/
def post (code status : Nat) (res : Bytes) (s : State) : State := postAt code status (now s) res s

end Sys2Proof.Machine
end

