-- ==== Sys2Proof/Machine/LgrOps.lean ====
section
/-! DEFINITION. Machine/LgrOps.lean: the ledger sequencer: records, blocks, chaining, sealing, space (R365 to R373). -/
namespace Sys2Proof.Machine

/-- K_led (R368). -/
def kLed : Bytes := (kdf fuseRoot [0x4C, 0x44, 0x47, 0x52] [] 128).take 16

/-- PREV of block 1 (R368). -/
def genesisTag : Bytes := (cmac kLed ([0x4C, 0x47, 0x45, 0x4E] ++ dsn)).take 8

/-- N. -/
def lgrN (s : State) : Nat := ledgerBlocks s.part

/-- RES (R372). -/
def lgrRes (s : State) : Nat := lgrN s / 100

/-- FREE (R372). -/
def lgrFree (s : State) : Nat := s.lgr.w + lgrN s + 1 - s.lgr.next

/-- NV address of block `q` (R365). -/
def blockAddr (q : Nat) (s : State) : Nat := 0x400000 + 64 * ((q - 1) % lgrN s)

/-- The 64 bytes of block `q`'s position. -/
def blockBytes (q : Nat) (s : State) : Bytes := nvPeek (blockAddr q s) 64 s

/-- TAIL: the newest block, 0 when there is none. -/
def lgrTail (s : State) : Nat := s.lgr.next - 1

/-- The newest sealed block. -/
def lgrSealed (s : State) : Nat := if s.lgr.openRecs.isSome then s.lgr.next - 2 else s.lgr.next - 1

/-- PREV for block `q`: the TAG stored in block `q - 1` (R368). -/
def prevTag (q : Nat) (s : State) : Bytes :=
  if q ≤ 1 then genesisTag else (blockBytes (q - 1) s).drop 56

/-- The chaining tag of a block's first 56 bytes (R368). -/
def chainTag (prev blk : Bytes) : Bytes := (cmac kLed (prev ++ blk.take 56)).take 8

/-- A stored block's tag verifies against the one before it. -/
def tagOk (q : Nat) (s : State) : Bool :=
  let b := blockBytes q s
  (badWord (blockAddr q s) 64 s).isNone && b.drop 56 == chainTag (prevTag q s) b

/-- Class S types of Table 16.2; the host's types are not class S. -/
def classS (typ : Nat) : Bool :=
  (typ != 0x12 && typ != 0x15 && typ != 0x16 && typ != 0x19 && typ != 0x23 && typ != 0x2C && typ != 0x42
    && typ != 0x43 && typ != 0x44 && typ != 0x4A && typ != 0x4B) && typ < 0x80

/-- EVT, FULL_WARN and SEAL_S as last written come into force at a record (R387). -/
def useCtl (s : State) : State :=
  { s with lgr := { s.lgr with
      evt := flag LGR_CTL.EVT s, fullWarn := fld LGR_CTL.FULL_WARN s, sealS := fld LGR_CTL.SEAL_S s } }

/-- Posts a LEDGER event when LGR_CTL.EVT = 1 (R386), as in force since the last record (R387). -/
def lgrEvt (kind seq count : Nat) (s : State) : State :=
  if s.lgr.evt then
    post 0x0B (if kind = 3 ∨ kind = 4 then 0x12 else 0)
      ([byteOf kind, 0] ++ leBytes 4 seq ++ leBytes 4 (lgrFree s) ++ leBytes 3 count) s
  else s

/-- Opening block `next` is allowed (R372). -/
def openAllowed (isS : Bool) (s : State) : Bool :=
  if isS then s.lgr.next ≤ s.lgr.w + lgrN s else s.lgr.next + lgrRes s ≤ s.lgr.w + lgrN s

/-- TIME_DELTA of a wall clock in a block of base `base` (R366). -/
def timeDelta (wall base : Nat) : Int := ((wall : Int) - (base * 65536 : Nat)) / 1024

/-- The 8 bytes of a record (R366). -/
def recordBytes (typ src delta data : Nat) : Bytes :=
  [byteOf typ, byteOf src] ++ leBytes 3 delta ++ leBytes 3 data

/-- Place in Table 01.1 of the island whose event a record tells of (R25; PRESUMED by type, log entry 26). GENESIS begins a
ledger and so stands before every record of its tick (R385). -/
def recordRank (typ src : Nat) : Nat :=
  if typ ≥ 0x80 then 2
  else if typ == 0x01 || (0x10 ≤ typ && typ ≤ 0x18) || typ == 0x2C then 0
  else if typ == 0x04 || typ == 0x05 || typ == 0x30 || typ == 0x38 || (0x50 ≤ typ && typ ≤ 0x52) then 1
  else if 0x42 ≤ typ && typ ≤ 0x45 then 2
  else if typ == 0x28 then 5
  else if typ == 0x27 then 7
  else if (0x20 ≤ typ && typ ≤ 0x2B) || (0x31 ≤ typ && typ ≤ 0x36) || typ == 0x40 || typ == 0x41 then 3
  else if typ == 0x39 || typ == 0x3A then 10
  else if typ == 0x53 then 11
  else if typ == 0x48 || typ == 0x49 then 12
  else if typ == 0x4D then (if src = 0 then 9 else 1)
  else 9

/-- How many of the last records of `l`, each with the TIMEBASE and the place of its island, come after a record of the
same tick and place `rank` (R25). -/
def laterRecords (tb rank : Nat) (l : List (Nat × Nat)) : Nat :=
  (l.reverse.takeWhile (fun m => m.1 == tb && decide (rank < m.2))).length

/-- Writes ledger words; a failed write is counted, and no record of it is made here (log entry 15). -/
def lgrWrite (a : Nat) (bs : Bytes) (s : State) : State := (nvWrite a bs s).1

/-- Zeroes the position of the block to be opened next, when W allows it; else the pre-clear is deferred (R369). -/
def preClear (s : State) : State :=
  if openAllowed true s then
    let s1 := lgrWrite (blockAddr s.lgr.next s) (List.replicate 64 0) s
    { s1 with lgr := { s1.lgr with
        preclear := false
        head := max s1.lgr.head (s1.lgr.next + 1 - lgrN s1) } }
  else { s with lgr := { s.lgr with preclear := true } }

/-- A deferred pre-clear is written as soon as W allows it (R369, R373). -/
def duePreClear (s : State) : State := if s.lgr.preclear then preClear s else s

/-- PAD flags of R369. -/
def padForced : Nat := 2
/-- LATE -/
def padLate : Nat := 1
/-- FALLOW -/
def padFallow : Nat := 4
/-- TIMED -/
def padTimed : Nat := 8
/-- RETIRED -/
def padRetired : Nat := 16
/-- TIME -/
def padTime : Nat := 32

/-- The PAD record of a seal at wall clock `wall` (R369). -/
def padBytes (flagBits wall base : Nat) : Bytes :=
  let d := timeDelta wall base
  recordBytes 0 0 (if d < 0 then 0 else if d > 0xFFFFFF then 0xFFFFFF else d.toNat) flagBits

/-- Seals the open block (R369): PAD records in free slots, TAG, pre-clear; a multiple of 4096 makes a checkpoint
pending (R378); block 0xFFFFFFFF closes the ledger (R370). -/
def sealBlock (flagBits : Nat) (s : State) : State :=
  match s.lgr.openRecs with
  | none => s
  | some k =>
    let q := s.lgr.next - 1
    let a := blockAddr q s
    let base := leAt 4 4 (nvPeek a 8 s)
    let s1 := lgrWrite (a + 8 + 8 * k)
      ((List.replicate (6 - k) (padBytes flagBits s.clk.wall.toNat base)).flatten) s
    let s2 := lgrWrite (a + 56) (chainTag (prevTag q s1) (blockBytes q s1)) s1
    let s3 := { s2 with lgr := { s2.lgr with
        openRecs := none
        marks := []
        ckpt := if q % 4096 = 0 then s2.lgr.ckpt ++ [q / 4096 - 1] else s2.lgr.ckpt
        closed := s2.lgr.closed || q ≥ 0xFFFFFFFF } }
    let s4 := setFlag LGR_STATUS.CKPT_PEND (!s3.lgr.ckpt.isEmpty) s3
    if q ≥ 0xFFFFFFFF then s4 else preClear s4

/-- Opens block `next` for a record at wall clock `wall` (R369), with the fill events of R386. -/
def openBlock (wall : Nat) (s : State) : State :=
  let q := s.lgr.next
  let free0 := lgrFree s
  let s1 := lgrWrite (blockAddr q s) (leBytes 4 q ++ leBytes 4 (wall / 65536)) s
  let s2 := { s1 with lgr := { s1.lgr with
      next := q + 1
      openRecs := some 0
      marks := []
      openTb := now s1
      preclear := false
      head := max (max s1.lgr.head 1) (q + 1 - lgrN s1) } }
  let lim := (100 - s.lgr.fullWarn) * lgrN s
  let s3 := if 100 * free0 ≥ lim ∧ 100 * lgrFree s2 < lim then lgrEvt 2 q 0 s2 else s2
  if free0 > lgrRes s ∧ lgrFree s3 ≤ lgrRes s then lgrEvt 3 q 0 s3 else s3

/-- Writes a record into the open block; the sixth seals it (R369). Records of one tick stand in the order of their
islands (R25); a host's record, whose place has been told, stays where it is. -/
def putRecord (r : LRec) (s : State) : State :=
  match s.lgr.openRecs with
  | none => s
  | some k =>
    let a := blockAddr (s.lgr.next - 1) s
    let base := leAt 4 4 (nvPeek a 8 s)
    let rank := recordRank r.typ r.src
    let later := laterRecords r.tb rank s.lgr.marks
    let i := k - later
    let s1 := lgrWrite (a + 8 + 8 * i)
      (recordBytes r.typ r.src (timeDelta r.wall base).toNat r.data ++ nvPeek (a + 8 + 8 * i) (8 * later) s) s
    let s2 := { s1 with lgr := { s1.lgr with
        openRecs := some (k + 1)
        marks := s.lgr.marks.take i ++ (r.tb, if r.typ ≥ 0x80 then 0 else rank) :: s.lgr.marks.drop i
        placed := (s.lgr.next - 1, i) } }
    let s3 := bump (if r.typ ≥ 0x80 then LGR_CNT0.HOST else LGR_CNT0.DEVICE) s2
    if k + 1 ≥ 6 then sealBlock 0 s3 else s3

/-- The open block cannot hold a record of this time (R367). -/
def needsNewBase (wall : Nat) (s : State) : Bool :=
  match s.lgr.openRecs with
  | none => false
  | some _ =>
    let d := timeDelta wall (leAt 4 4 (nvPeek (blockAddr (s.lgr.next - 1) s) 8 s))
    decide (d < 0) || decide (d > 0xFFFFFF)

/-- Places one record, if a block is open or may be opened; answers whether it was placed (R367, R369, R372). -/
def placeRecord (r : LRec) (isS : Bool) (s : State) : State × Bool :=
  let s0 := useCtl s
  let s1 := if needsNewBase r.wall s0 then sealBlock padTime s0 else s0
  match s1.lgr.openRecs with
  | some _ => (putRecord r s1, true)
  | none =>
    if openAllowed isS s1 && !s1.lgr.closed then (putRecord r (openBlock r.wall s1), true) else (s1, false)

/-- A device record is dropped and counted (R372, R378). -/
def dropRecord (s : State) : State :=
  let s1 := setFld LGR_STATUS.LOST 1 (bump LGR_CNT1.LOST (useCtl s))
  if s.lgr.closed then s1
  else
    let s2 := { s1 with lgr := { s1.lgr with lost := sat 24 (s1.lgr.lost + 1) } }
    lgrEvt 4 (lgrTail s2) s2.lgr.lost s2

/-- RECORDS_LOST goes first as soon as space allows it (R372). -/
def reportLost (s : State) : State :=
  if s.lgr.lost = 0 ∨ s.lgr.closed = true then s
  else
    let r := placeRecord ⟨0x03, 0, s.lgr.lost, s.clk.wall.toNat, now s⟩ true s
    if r.2 then { r.1 with lgr := { r.1.lgr with lost := 0 } } else r.1

/-- Writes a device record now (R372). -/
def writeRecord (r : LRec) (s : State) : State :=
  if s.lgr.closed then dropRecord s
  else
    let s1 := reportLost s
    let p := placeRecord r (classS r.typ) s1
    if p.2 then p.1 else dropRecord p.1

/-- A device record among the buffered appends, in the order of R25. -/
def insertBuffered (r : LRec) (l : List Buffered) : List Buffered :=
  let key (b : Buffered) : Nat × Nat :=
    match b with
    | .device x => (x.tb, recordRank x.typ x.src)
    | .host _ _ _ => (r.tb, 0)
  let i := l.length - laterRecords r.tb (recordRank r.typ r.src) (l.map key)
  l.take i ++ .device r :: l.drop i

/-- Takes the place of the most recently buffered host append (R351): the list with the record at the end, and that
append's descriptor. -/
def displace (r : LRec) (l : List Buffered) : Option (List Buffered × Desc) :=
  match l.reverse.find? (fun b => match b with | .host _ _ _ => true | _ => false) with
  | some (.host d w b) => some (insertBuffered r (l.erase (.host d w b)), d)
  | _ => none

/-- Appends a device record of wall clock `wall` (R25, R351, R372): during recall it is buffered. A host append that
gives up its place is completed by the caller of `bufferedOut` (R351). -/
def appendAt (typ src data wall : Nat) (s : State) : State :=
  let r : LRec := ⟨typ, src, data, wall, now s⟩
  if s.nv.ledgerReady then writeRecord r s
  else if s.lgr.buffered.length < 64 then
    { s with lgr := { s.lgr with buffered := insertBuffered r s.lgr.buffered } }
  else
    match displace r s.lgr.buffered with
    | some (l, d) => { s with lgr := { s.lgr with buffered := l, hostWait := s.lgr.hostWait ++ [(d, 0)] } }
    | none => { s with lgr := { s.lgr with waiting := s.lgr.waiting ++ [r] } }

/-- Appends a device record of this instant. -/
def append (typ src data : Nat) (s : State) : State := appendAt typ src data s.clk.wall.toNat s

/-- Writes NV bytes and appends NV_WRITE_FAIL on a failed word (R344). -/
def nvStore (a : Nat) (bs : Bytes) (s : State) : State × Option Nat :=
  let r := nvWrite a bs s
  match r.2 with
  | none => r
  | some w => (append 0x4A 0 (w / 8) r.1, some w)

/-- Writes a device record and appends NV_WRITE_FAIL when it fails (R344). -/
def recStore (id : Nat) (bs : Bytes) (s : State) : State × Bool :=
  let r := recWrite id bs s
  if r.2 then (append 0x4A 0 id r.1, true) else r

/-- A device-owned increment (R359): TALLY_LOST on a counter with no valid cell, NV_WRITE_FAIL on a failed write. -/
def tallyStep (c n : Nat) (s : State) : State × TallyOut :=
  let r := tallyInc c n s
  match r.2 with
  | .lostCounter => (append 0x4C c 0 r.1, r.2)
  | .failed => (append 0x4A 0 (cellAddr c 0 / 8) r.1, r.2)
  | _ => r

end Sys2Proof.Machine
end

