-- ==== Sys2Proof/Machine/Operands.lean ====
section
/-! DEFINITION. Machine/Operands.lean: descriptor fields, opcodes and their TARGET kinds (R117 to R120), node
identifiers and the fold tree (R164 to R166), lifecycle states (R407, R408). -/
namespace Sys2Proof.Machine

/-! ## Descriptor fields -/

/-- It comes from a host queue pair; the monitor's DESC uses the Drover port (R423). -/
def isHost (d : Desc) : Bool := match d.src with | .host _ => true | _ => false

/-- Two descriptors are the same one: their source and their number agree. -/
def sameDesc (a b : Desc) : Bool := a.src == b.src && a.no == b.no

/-- Parameter byte `i` (R117). -/
def p8 (d : Desc) (i : Nat) : Nat := byteAt i d.par
/-- Two parameter bytes from `i`. -/
def p16 (d : Desc) (i : Nat) : Nat := leAt i 2 d.par
/-- Four parameter bytes from `i`. -/
def p32 (d : Desc) (i : Nat) : Nat := leAt i 4 d.par
/-- Eight parameter bytes from `i`. -/
def p64 (d : Desc) (i : Nat) : Nat := leAt i 8 d.par
/-- The descriptor with parameter byte `i` set to `v`. -/
def setPar (i v : Nat) (d : Desc) : Desc := { d with par := (slice 0 24 d.par).set i (byteOf v) }
/-- The descriptor as a command of opcode `op` reads it. -/
def asOp (op : Nat) (d : Desc) : Desc := { d with opcode := op }
/-- The descriptor as a command of opcode `op` and MODE byte `m` reads it. -/
def asMode (op m : Nat) (d : Desc) : Desc := setPar 0 m (asOp op d)
/-- Parameter bytes `lo` to 23 are 0. -/
def pZeroFrom (d : Desc) (lo : Nat) : Bool := allZero (d.par.drop lo)
/-- FLAGS.FENCE. -/
def hasFence (d : Desc) : Bool := bit 0 d.flags
/-- FLAGS.NOIRQ. -/
def noIrq (d : Desc) : Bool := bit 1 d.flags
/-- FLAGS.AT. -/
def hasAt (d : Desc) : Bool := bit 2 d.flags
/-- TIMEOUT in ticks; 0 selects `dflt` ms (Table 05.6). -/
def timeoutTicks (d : Desc) (dflt : Nat) : Nat := if d.timeout = 0 then msTicks dflt else d.timeout * 3840

/-- A descriptor's bytes (Table 05.6) read as a descriptor. -/
def descOf (src : Source) (idx no : Nat) (b : Bytes) : Desc :=
  { src := src, idx := idx, no := no, opcode := byteAt 0 b, flags := byteAt 1 b, tag := leAt 2 2 b, target := leAt 4 4 b,
    len := leAt 8 4 b, timeout := leAt 12 2 b, rsv := leAt 14 2 b, srcAddr := leAt 16 8 b, dstAddr := leAt 24 8 b,
    par := slice 32 24 b, atTb := leAt 56 8 b }

/-- The memory a descriptor's SRC and DST address (R444): bytes read, or none on a DMA error, while bus mastering is off
(R107, R118), or outside the monitor's 4 KiB buffer (R423). -/
def dmaRead (d : Desc) (a n : Nat) (s : State) : Option Bytes :=
  match d.src with
  | .host _ => if n = 0 then some [] else
      if s.hif.busMaster && !dmaFails a n s then some (mread zeroByte s.hostMem a n) else none
  | .drover => some (mread zeroByte s.droverMem a n)
  | .monitor => if n = 0 then some [] else if a + n ≤ 4096 then some (mread zeroByte s.monMem a n) else none

/-- Whether a write of `n` bytes for a descriptor would fail (R107, R118). -/
def dmaBlocked (d : Desc) (a n : Nat) (s : State) : Bool :=
  match d.src with
  | .host _ => n > 0 && (!s.hif.busMaster || dmaFails a n s)
  | .drover => false
  | .monitor => n > 0 && a + n > 4096

/-- Writes bytes for a descriptor (R444). -/
def dmaWrite (d : Desc) (a : Nat) (bs : Bytes) (s : State) : State :=
  match d.src with
  | .host _ => { s with hostMem := mwrite zeroByte s.hostMem a bs }
  | .drover => { s with droverMem := mwrite zeroByte s.droverMem a bs }
  | .monitor => { s with monMem := mwrite zeroByte s.monMem a bs }

/-! ## Nodes -/

/-- LF channels of the part. -/
def lfChannels : Part → Nat
  | .blv8128 => 128 | .blv8064 => 64 | .blv8032n => 32

/-- Coils of the part. -/
def coilCount : Part → Nat
  | .blv8128 => 4 | .blv8064 => 4 | .blv8032n => 2

/-- UWB ports of the part. -/
def uwbPorts : Part → Nat
  | .blv8128 => 4 | .blv8064 => 2 | .blv8032n => 0

/-- Leaf index of a leaf's node identifier (R164). -/
def leafIndex (node : Nat) : Option Nat :=
  if node < 0x80 then some node
  else if 0x80 ≤ node ∧ node < 0x84 then some (node - 0x80 + 128)
  else if 0x90 ≤ node ∧ node < 0x94 then some (node - 0x90 + 132)
  else none

/-- Node identifier of a leaf index (R164). -/
def leafNode (i : Nat) : Nat := if i < 128 then i else if i < 132 then 0x80 + (i - 128) else 0x90 + (i - 132)

/-- Fold number of a fold's node identifier (R164). -/
def foldIndex (node : Nat) : Option Nat := if 0x100 ≤ node ∧ node ≤ 0x1FE then some (node - 0x100) else none

/-- A leaf index is present on the part (R1, R2). -/
def leafPresent (i : Nat) (s : State) : Bool :=
  if i < 128 then i < lfChannels s.part
  else if i < 132 then i - 128 < coilCount s.part
  else i < 136 && i - 132 < uwbPorts s.part

/-- Parent fold of a leaf index, 255 for none. -/
def Tree.leafParent (t : Tree) (i : Nat) : Nat := t.lpar.getD i 255

/-- Parent fold of a fold, 255 for none. -/
def Tree.foldParent (t : Tree) (f : Nat) : Nat := t.fpar.getD f 255

/-- A fold is defined. -/
def Tree.defined (t : Tree) (f : Nat) : Bool := t.fdef.getD f false

/-- Folds above a fold number or `255`, nearest first, at most `n` of them. -/
def Tree.up (t : Tree) : Nat → Nat → List Nat
  | 0, _ => []
  | n + 1, f => if f ≥ 255 ∨ t.defined f = false then [] else f :: t.up n (t.foldParent f)

/-- Folds that contain a leaf, nearest first. -/
def Tree.leafFolds (t : Tree) (i : Nat) : List Nat := t.up 8 (t.leafParent i)

/-- Folds that contain a fold, nearest first, without itself. -/
def Tree.foldFolds (t : Tree) (f : Nat) : List Nat := t.up 8 (t.foldParent f)

/-- Fold `f` is `g` or lies below it. -/
def Tree.below (t : Tree) (f g : Nat) : Bool := (t.up 8 f).contains g

/-- Leaf indices of the subtree of a node, ascending (R166). -/
def Tree.leaves (t : Tree) (node : Nat) : List Nat :=
  match leafIndex node, foldIndex node with
  | some i, _ => [i]
  | none, some f => (List.range 136).filter (fun i => (t.leafFolds i).contains f)
  | none, none => []

/-- Folds of the subtree of a node, ascending (R166). -/
def Tree.folds (t : Tree) (node : Nat) : List Nat :=
  match foldIndex node with
  | some f => (List.range 255).filter (fun g => t.defined g && t.below g f)
  | none => []

/-- m of R166. -/
def Tree.nodeCount (t : Tree) (node : Nat) : Nat := (t.leaves node).length + (t.folds node).length

/-- Level of a leaf or fold, 1 for a top node (R165). -/
def Tree.leafLevel (t : Tree) (i : Nat) : Nat := (t.leafFolds i).length + 1
/-- Level of a fold. -/
def Tree.foldLevel (t : Tree) (f : Nat) : Nat := (t.foldFolds f).length + 1

/-- d of R166. -/
def Tree.depth (t : Tree) (node : Nat) : Nat :=
  match foldIndex node with
  | none => 1
  | some f =>
    let top := t.foldLevel f
    (((t.leaves node).map t.leafLevel) ++ ((t.folds node).map t.foldLevel)).foldl max top - top + 1

/-- A leaf is retired (R179). -/
def leafRetired (i : Nat) (s : State) : Bool := s.fold.retired.getD i false

/-- A node exists: a present leaf, or a defined fold (R119 check 4). -/
def nodeExists (node : Nat) (s : State) : Bool :=
  match leafIndex node, foldIndex node with
  | some i, _ => leafPresent i s
  | none, some f => s.fold.live.defined f
  | none, none => false

/-- A fold is in own pinfold (R281). -/
def ownPin (f : Nat) (s : State) : Bool := s.flk.track.any (fun e => e.fold == f && e.till.isSome)

/-- One of a list of folds is in own pinfold. -/
def anyPin (fs : List Nat) (s : State) : Bool := fs.any (fun f => ownPin f s)

/-- A leaf is in pinfold, its own folds' or an ancestor's (R166). -/
def leafPinned (t : Tree) (i : Nat) (s : State) : Bool := anyPin (t.leafFolds i) s

/-- A node, or a fold above it, is in pinfold (R142). -/
def nodePinned (t : Tree) (node : Nat) (s : State) : Bool :=
  match leafIndex node, foldIndex node with
  | some i, _ => leafPinned t i s
  | none, some f => anyPin (t.up 8 f) s
  | none, none => false

/-! ## Opcodes -/

/-- The opcode is one of Table 05.8. -/
def opDefined (op : Nat) : Bool :=
  [0x01, 0x02, 0x03, 0x08, 0x10, 0x11, 0x12, 0x13, 0x18, 0x20, 0x21, 0x22, 0x28, 0x29, 0x30, 0x31, 0x32, 0x38,
   0x39, 0x3A, 0x3B, 0x40, 0x41, 0x42, 0x43, 0x44, 0x45, 0x48, 0x49, 0x50, 0x51, 0x52, 0x53, 0x58, 0x59, 0x5A,
   0x5B, 0x5C, 0x60, 0x61, 0x68, 0x69, 0x6A].contains op

/-- Firmware-class opcodes of Table 05.8. -/
def opFirmware (op : Nat) : Bool := [0x12, 0x22, 0x29, 0x38, 0x3A, 0x44, 0x5B, 0x68, 0x69, 0x6A].contains op

/-- The opcode's unit is present on the part (R2). -/
def opPresent (op : Nat) (s : State) : Bool := !(s.part == .blv8032n && (op == 0x28 || op == 0x29))

/-- Which island works on the opcode (Table 01.2, R100). -/
def opIsland (op : Nat) : Island :=
  if opFirmware op then .drover
  else if op = 0x10 ∨ op = 0x11 ∨ op = 0x13 then .lfs
  else if op = 0x20 ∨ op = 0x21 then .uhf
  else if op = 0x28 then .uwb
  else if 0x30 ≤ op ∧ op < 0x48 then .vrdcry
  else if op = 0x48 ∨ op = 0x49 then .rng
  else if 0x50 ≤ op ∧ op < 0x60 then .nvs
  else if op = 0x60 ∨ op = 0x61 then .aon
  else .fabric

/-- Where a descriptor came from as HOST_VIOL counts pairs (Table 16.2). -/
def pairCode : Source → Nat
  | .host n => n
  | _ => 0x3F

/-- The firmware-class operation that Drover is doing: the oldest of its queue (R31, R124). -/
def droverWork (s : State) : Option Desc := s.hif.droverQ.head?

/-- Drover has checkpoint work (R378) or completes an interrupted lifecycle transition (R411), which takes a final
checkpoint (R31). -/
def ckptWork (s : State) : Bool := !s.lgr.ckpt.isEmpty || s.lcy.retiring

/-- Drover is at work on opcode `op` (R31). -/
def workingOn (op : Nat) (s : State) : Bool :=
  match droverWork s with
  | some d => d.opcode == op
  | none => false

end Sys2Proof.Machine
end

