-- ==== Sys2Proof/Machine/Cpl.lean ====
section
/-! DEFINITION. Machine/Cpl.lean: the dispatcher's checks (R119, R120), completions (R126, R127, R130) and the way a
descriptor reaches its unit (R121). -/
namespace Sys2Proof.Machine

/-! ## Status codes (Table 05.10) -/

/-- OK -/
def stOk : Nat := 0x00
/-- BAD_OPCODE -/
def stBadOpcode : Nat := 0x01
/-- BAD_LEN -/
def stBadLen : Nat := 0x02
/-- BAD_ADDR -/
def stBadAddr : Nat := 0x03
/-- BAD_HANDLE -/
def stBadHandle : Nat := 0x04
/-- BAD_FOLD -/
def stBadFold : Nat := 0x05
/-- FORBIDDEN_LIFECYCLE -/
def stForbidden : Nat := 0x06
/-- BUSY_RETRY -/
def stBusy : Nat := 0x10
/-- RECALL_PENDING -/
def stRecall : Nat := 0x11
/-- LEDGER_FULL -/
def stLedgerFull : Nat := 0x12
/-- PINFOLD_ACTIVE -/
def stPinfold : Nat := 0x13
/-- NOT_READY_ENTROPY -/
def stNotReady : Nat := 0x14
/-- TALLY_SAT -/
def stTallySat : Nat := 0x15
/-- TAG_FAIL -/
def stTagFail : Nat := 0x20
/-- MAC_FAIL -/
def stMacFail : Nat := 0x21
/-- UNWRAP_FAIL -/
def stUnwrapFail : Nat := 0x22
/-- ROLLBACK -/
def stRollback : Nat := 0x23
/-- PAD_FAIL -/
def stPadFail : Nat := 0x24
/-- TX_LATE -/
def stTxLate : Nat := 0x30
/-- COEX_DENIED -/
def stCoexDenied : Nat := 0x31
/-- COEX_ABORT -/
def stCoexAbort : Nat := 0x32
/-- NO_RESPONSE -/
def stNoResponse : Nat := 0x33
/-- COLLISION -/
def stCollision : Nat := 0x34
/-- RELAY_SUSPECT -/
def stRelay : Nat := 0x35
/-- HEALTH_FAIL -/
def stHealth : Nat := 0x40
/-- CLOCK_LOST -/
def stClockLost : Nat := 0x41
/-- NV_ECC_UNCORR -/
def stEcc : Nat := 0x42
/-- ISLAND_RESET -/
def stIslandReset : Nat := 0x43
/-- TWIN_CONFLICT -/
def stTwin : Nat := 0x44

/-! ## Checks before dispatch (R119) -/

/-- FLAGS.AT is accepted (R123, R158, R220, R221, R243). -/
def atAccepted (op : Nat) : Bool := op == 0x10 || op == 0x20 || op == 0x21 || op == 0x28

/-- Permitted transitions of Table 18.2, and ADVANCE to the present state (R410, R414). -/
def advanceAllowed (st dest : Nat) : Bool :=
  (st == 0 && dest == 1) || (st == 1 && dest == 2) || (st == 2 && dest == 3) || (st == 3 && dest == 2) ||
  (st != 4 && dest == 4) || st == dest

/-- Check 2 of R119: Tables 06.7, 11.8, 12.4, 13.8, 15.9, 16.7, 18.4, 18.10, and R132, R173, R219, R335 and the
UWB rule of chapter 10. -/
def lifecycleOk (d : Desc) (st : Nat) : Bool :=
  let op := d.opcode
  if op = 0x03 then st != 4
  else if op = 0x10 ∨ op = 0x12 then st != 4
  else if op = 0x11 then !(st == 4 && p8 d 0 == 1 && bit 0 (p8 d 1))
  else if op = 0x18 then !(st == 4 && p8 d 0 != 0 && p8 d 0 != 2)
  else if op = 0x20 ∨ op = 0x22 ∨ op = 0x28 ∨ op = 0x29 then st != 4
  else if op = 0x30 ∨ op = 0x31 then st != 4 && !(st == 2 && p16 d 2 == 0xFFFF)
  else if op = 0x38 then
    (match p8 d 0 with
     | 0 => st == 2 || st == 3
     | 1 => st == 0 || st == 1 || st == 3
     | 2 => st == 0
     | _ => st != 4)
  else if op = 0x39 then !(p8 d 0 == 2 && st != 3)
  else if op = 0x3A then st == 0 || st == 1 || st == 3
  else if op = 0x40 ∨ op = 0x42 ∨ op = 0x44 then st != 4
  else if op = 0x41 then if p8 d 2 == 0xFE then st == 0 else st != 4
  else if op = 0x48 then !(bit 1 (p8 d 0) && st != 0)
  else if op = 0x51 ∨ op = 0x52 then st != 4
  else if op = 0x58 ∨ op = 0x5A ∨ op = 0x5B ∨ op = 0x5C then st != 4
  else if op = 0x59 then !(st == 4 && p8 d 4 == 0 && bit 0 (p8 d 5))
  else if op = 0x68 ∨ op = 0x69 then st != 4
  else if op = 0x6A then
    (match p8 d 0 with
     | 0 => st != 4
     | 1 => advanceAllowed st (p8 d 1)
     | 2 => st != 4
     | 3 => st == 0
     | _ => true)
  else true

/-- The handle's form (R301, R302): slot in bits 5:0, generation in bits 15:8; 0x80 is the DAK, for PKE_SIGN. -/
def handleForm (d : Desc) : Bool :=
  d.target < 0x10000 && !bit 6 d.target && (!bit 7 d.target || (d.opcode == 0x44 && d.target == 0x80))

/-- NV TARGET kinds that an opcode takes from a source (Table 15.8): the raw kind is read-only, and the kinds marked
"Drover port" are written, from that port only. -/
def nvTarget (d : Desc) : Bool :=
  d.target < 0x40 || d.target == 0x100 || (d.target == 0x200 && d.opcode == 0x50) ||
  (!isHost d && d.opcode == 0x51 &&
    (d.target == 0x210 || d.target == 0x211 || d.target == 0x300 || (0x500 ≤ d.target && d.target ≤ 0x13FF)))

/-- Check 4 of R119: the status when TARGET is not of its kind (Table 05.8). -/
def targetBad (d : Desc) (s : State) : Option Nat :=
  let op := d.opcode
  let t := d.target
  let h (ok : Bool) : Option Nat := if ok then none else some stBadHandle
  if op = 0x08 then h (t < 32)
  else if op = 0x10 ∨ op = 0x11 ∨ op = 0x12 ∨ op = 0x13 ∨ op = 0x18 then
    (if nodeExists t s then none else some stBadFold)
  else if op = 0x20 ∨ op = 0x21 ∨ op = 0x22 then h (t < 2)
  else if op = 0x28 ∨ op = 0x29 then
    (if nodeExists t s && t ≥ 0x90 then none else some stBadFold)
  else if op = 0x39 then h (t < 64)
  else if 0x40 ≤ op ∧ op ≤ 0x44 then h (handleForm d)
  else if op = 0x50 ∨ op = 0x51 then h (nvTarget d)
  else if op = 0x52 ∨ op = 0x53 then h (t < 256)
  else if op = 0x60 ∨ op = 0x61 then h (t < 32)
  else if op = 0x68 ∨ op = 0x69 then h (t < 2)
  else h (t == 0)

/-- A length that is a multiple of `m` from `lo` to `hi`, or 0 when `z`. -/
def lenIn (m lo hi : Nat) (z : Bool) (n : Nat) : Bool := (z && n == 0) || (lo ≤ n && n ≤ hi && n % m == 0)

/-- Length in bytes of a key of KIND `k` (Table 13.1). -/
def kindLen (k : Nat) : Nat := if k = 1 then 16 else if k = 2 then 24 else 32

/-- DIR of a CRYPT (Table 13.5). -/
def cDir (d : Desc) : Nat := p8 d 1 % 2
/-- T. -/
def cTag (d : Desc) : Nat := p8 d 2
/-- AAD_LEN. -/
def cAad (d : Desc) : Nat := p16 d 4
/-- P of R309. -/
def cPad (d : Desc) : Nat := 16 - d.len % 16

/-- Bytes that CRYPT reads at SRC (Table 13.4). -/
def cryptSrc (d : Desc) : Nat :=
  let m := p8 d 0
  if m = 3 ∨ m = 4 then cAad d + d.len + (if cDir d = 1 then cTag d else 0)
  else if m = 5 ∧ cDir d = 1 then d.len + cTag d
  else d.len

/-- Bytes that CRYPT writes at DST (Table 13.4); a decryption into the staged flock bank writes none (Table 01.7). -/
def cryptDst (d : Desc) : Nat :=
  let m := p8 d 0
  if bit 7 (p8 d 1) then 0
  else if m = 1 ∧ cDir d = 0 then d.len + cPad d
  else if (m = 3 ∨ m = 4) ∧ cDir d = 0 then d.len + cTag d
  else if m = 5 then (if cDir d = 0 then cTag d else 0)
  else if m = 6 then (if cDir d = 0 then d.len + 8 else d.len - 8)
  else d.len

/-- Lengths of CRYPT that the LEN = 0 column of Table 05.8 refuses; its other lengths belong to the unit (R309, R312). -/
def cryptZeroOk (d : Desc) : Bool := d.len != 0 || !(p8 d 0 == 0 || p8 d 0 == 6 || (p8 d 0 == 1 && cDir d == 1))

/-- Lengths of NV_READ and NV_WRITE by TARGET kind (Table 15.8). -/
def nvLenOk (d : Desc) : Bool :=
  if d.target < 0x40 then d.len ≤ 1008
  else if d.target = 0x100 then d.len ≤ 65536
  else if d.target = 0x200 then d.len ≤ 1048576
  else if d.target = 0x210 ∨ d.target = 0x211 then lenIn 16 16 65536 false d.len
  else if d.target = 0x300 then d.len == 4
  else true

/-- Lengths of PKE_SIGN by MODE (R320). -/
def signLenOk (d : Desc) : Bool :=
  if p8 d 0 = 0 then lenIn 1 1 1048576 false d.len
  else if p8 d 0 = 1 then d.len == 32
  else if p8 d 0 = 2 ∧ isHost d = false then d.len == 128
  else d.len > 0

/-- Check 5 of R119: LEN obeys Table 05.8 and the opcode's limits. The lengths of CRYPT belong to its unit (R312), and a
length that a wrong MODE or KIND leaves without a limit passes here, since its unit refuses that byte. -/
def lenOk (d : Desc) : Bool :=
  let op := d.opcode
  let n := d.len
  if op = 0x10 then lenIn 48 48 1152 true n
  else if op = 0x11 then (if p8 d 0 = 1 then lenIn 4 4 512 true n else lenIn 8 8 1056 true n)
  else if op = 0x12 ∨ op = 0x13 then lenIn 8 8 1024 true n
  else if op = 0x18 then (if p8 d 0 = 2 then lenIn 16 16 6128 false n else n == 0)
  else if op = 0x20 then lenIn 1 1 255 false n
  else if op = 0x21 then lenIn 272 272 17408 true n
  else if op = 0x22 then n == 0 || n == 16
  else if op = 0x28 then lenIn 32 32 128 true n
  else if op = 0x29 then lenIn 16 16 64 true n
  else if op = 0x30 then lenIn 8 32 4640 false n
  else if op = 0x31 then lenIn 32 32 8224 false n
  else if op = 0x32 then lenIn 32 32 2048 false n
  else if op = 0x38 then lenIn 16 48 2160 false n
  else if op = 0x39 then (if p8 d 0 = 0 then n % 16 == 0 && n ≤ 16 * (64 - d.target) else n == 0)
  else if op = 0x3A then n == 56
  else if op = 0x40 then cryptZeroOk d
  else if op = 0x41 then
    (if 1 ≤ p8 d 1 ∧ p8 d 1 ≤ 4 then n == kindLen (p8 d 1) + (if p8 d 0 = 0xFE then 0 else 8) else n > 0)
  else if op = 0x42 then n ≤ 256
  else if op = 0x44 then signLenOk d
  else if op = 0x45 then
    (if p8 d 0 = 0 then lenIn 1 128 1048704 false n else if p8 d 0 = 1 then n == 160 else n > 0)
  else if op = 0x48 then n ≤ 4096
  else if op = 0x49 then n == 0 || n == 64
  else if op = 0x50 ∨ op = 0x51 then nvLenOk d
  else if op = 0x58 then lenIn 8 8 384 false n
  else if op = 0x59 then (if p8 d 4 = 1 then lenIn 192 192 49152 true n else lenIn 64 64 1048576 true n)
  else if op = 0x5B then n == 192
  else if op = 0x61 then n == 32
  else if op = 0x68 then lenIn 16 16 65536 false n
  else if op = 0x6A then
    (match p8 d 0 with
     | 0 => n == 16
     | 1 => n == 64
     | 2 => n == 64 || n == 128
     | 3 => n == 4
     | _ => n > 0)
  else n == 0

/-- Bytes that the opcode reads at SRC (its table, R118); 0 where it reads none. -/
def srcSpan (d : Desc) : Nat :=
  let op := d.opcode
  if op = 0x11 then (if p8 d 0 = 1 then d.len else 0)
  else if op = 0x40 then cryptSrc d
  else if op = 0x6A then (if p8 d 0 = 0 then 0 else d.len)
  else if [0x20, 0x30, 0x31, 0x32, 0x38, 0x3A, 0x41, 0x42, 0x44, 0x45, 0x51, 0x58, 0x68].contains op then d.len
  else 0

/-- Bytes that the opcode may write at DST (its table, R118); 0 where it writes none. -/
def dstSpan (d : Desc) : Nat :=
  let op := d.opcode
  if op = 0x11 then (if p8 d 0 = 1 then 0 else d.len)
  else if op = 0x32 then d.len / 2
  else if op = 0x40 then cryptDst d
  else if op = 0x41 then (if p8 d 0 = 0xFE then d.len + 8 else 0)
  else if op = 0x44 then 64
  else if op = 0x6A then (if p8 d 0 = 0 then d.len else 0)
  else if [0x10, 0x12, 0x13, 0x18, 0x21, 0x22, 0x28, 0x29, 0x39, 0x48, 0x49, 0x50, 0x59, 0x5B, 0x61].contains op then d.len
  else 0

/-- Parameter bytes that an opcode's table reserves, whatever its other parameters (R117). -/
def parReserved (d : Desc) : List Nat :=
  let op := d.opcode
  let from' (k : Nat) : List Nat := (List.range (24 - k)).map (k + ·)
  if [0x01, 0x08, 0x43, 0x49, 0x53, 0x5A, 0x61].contains op then from' 0
  else if op = 0x02 then from' 7
  else if op = 0x03 then from' 9
  else if op = 0x10 then from' 3
  else if op = 0x11 then from' 2
  else if op = 0x12 ∨ op = 0x13 then from' 4
  else if op = 0x18 then from' 8
  else if op = 0x20 then from' 8
  else if op = 0x21 then from' 12
  else if op = 0x22 then [1, 2, 3] ++ from' 8
  else if op = 0x28 then from' 16
  else if op = 0x29 then [5] ++ from' 18
  else if op = 0x30 ∨ op = 0x31 then [1] ++ from' 4
  else if op = 0x32 then from' 1
  else if op = 0x38 then [1] ++ from' 6
  else if op = 0x39 then from' 7
  else if op = 0x3A then (if bit 7 (p8 d 0) && !isHost d then from' 4 else [1] ++ from' 4)
  else if op = 0x3B then from' 1
  else if op = 0x40 then [6, 7]
  else if op = 0x41 then from' 7
  else if op = 0x42 then [0] ++ from' 10
  else if op = 0x44 ∨ op = 0x45 ∨ op = 0x48 then from' 1
  else if op = 0x50 ∨ op = 0x51 then from' 4
  else if op = 0x52 then from' 2
  else if op = 0x58 then from' 1
  else if op = 0x59 then from' 6
  else if op = 0x5C then from' 4
  else if op = 0x60 then [5, 6, 7] ++ from' 20
  else if op = 0x68 then from' 5
  else if op = 0x69 then (if p8 d 0 = 1 then from' 2 else from' 1)
  else if op = 0x6A then from' 2
  else []

/-- First reserved parameter byte that is not 0, as an offset of Table 05.6 (R119 check 3). -/
def parFault (d : Desc) : Option Nat := ((parReserved d).find? (fun i => p8 d i ≠ 0)).map (32 + ·)

/-- A firmware-class opcode in a form that only the Drover port takes (Table 01.7). -/
def droverForm (d : Desc) : Bool :=
  (d.opcode == 0x3A && bit 7 (p8 d 0) && 1 ≤ p8 d 1 && p8 d 1 ≤ 3) ||
  (d.opcode == 0x44 && p8 d 0 == 2 && d.target == 0x80)

/-- A firmware-class opcode on the Drover port, outside the forms of Table 01.7 (R31). -/
def droverRefused (d : Desc) : Bool := !isHost d && opFirmware d.opcode && !droverForm d

/-- The checks of R119 in order: status and DETAIL of the first that fails. -/
def check119 (d : Desc) (s : State) : Option (Nat × Nat) :=
  if ¬ (opDefined d.opcode = true ∧ opPresent d.opcode s = true) ∨ droverRefused d = true then some (stBadOpcode, 0)
  else if lifecycleOk d (lcState s) = false then some (stForbidden, 0)
  else if d.flags ≥ 8 ∨ (hasAt d = true ∧ atAccepted d.opcode = false) then some (stBadLen, 1)
  else if d.rsv ≠ 0 then some (stBadLen, 14)
  else match parFault d with
    | some det => some (stBadLen, det)
    | none =>
      if hasAt d = false ∧ d.atTb ≠ 0 then some (stBadLen, 56)
      else match targetBad d s with
        | some st => some (st, 4)
        | none =>
          if lenOk d = false then some (stBadLen, 8)
          else if wraps d.srcAddr (srcSpan d) = true then some (stBadAddr, 16)
          else if wraps d.dstAddr (dstSpan d) = true then some (stBadAddr, 24)
          else none

/-! ## Completions -/

/-- HOST_VIOL is appended for this status and opcode (R127). -/
def isHostViol (st op : Nat) : Bool :=
  st == 0x06 || (0x20 ≤ st && st ≤ 0x24 && (opFirmware op || op == 0x30 || op == 0x31 || op == 0x41))

/-- A pair that is disabled and has nothing in flight is quiesced (R110). -/
def settlePair (n : Nat) (s : State) : State :=
  let q := qp n s
  if q.enabled = false ∧ inFlight n s = 0 then setQp n { q with quiesced := true } s else s

/-- Counts a written completion toward pair `n`'s vector and raises it when R130 says so. -/
def signal (n : Nat) (d : Desc) (st : Nat) (s : State) : State :=
  if noIrq d then s
  else
    let q := qp n s
    let k := q.unsig + 1
    if k ≥ fld (QPn_CFG.COAL_CNT n) s + 1 ∨ st ≠ 0 ∨ hasFence d = true then
      raiseVector n (setQp n { q with unsig := 0, unsigAt := none } s)
    else setQp n { q with unsig := k, unsigAt := if q.unsigAt.isSome then q.unsigAt else some (now s) } s

/-- Writes a completion of pair `n` to its ring and signals it (R114, R126). -/
def writeCpl (n : Nat) (c : HeldCpl) (s : State) : State :=
  signal n c.d c.status
    (writeEntry n (entryBytes c.d.tag c.status c.d.opcode c.d.idx (qp n s).sqHead c.ts c.res c.detail 0) s)

/-- Whether a flight entry is the descriptor's. -/
def Flight.is (f : Flight) (d : Desc) : Bool := sameDesc f.d d

/-- Takes a descriptor out of flight and out of Drover's queue. -/
def leaveFlight (d : Desc) (s : State) : State :=
  { s with hif := { s.hif with
      flight := s.hif.flight.filter (fun f => !f.is d)
      droverQ := s.hif.droverQ.filter (fun x => !sameDesc x d) } }

/-- Opcodes whose completion follows the verified write of what they store (R345, R379). -/
def waitsForNv (op : Nat) : Bool :=
  [0x02, 0x03, 0x11, 0x12, 0x18, 0x22, 0x29, 0x30, 0x31, 0x38, 0x3A, 0x51, 0x52, 0x58, 0x5A, 0x5B, 0x5C, 0x68, 0x69,
   0x6A].contains op

/-- The monitor prints the completion of the descriptor it serves (R423). -/
def answerDesc (c : HeldCpl) (s : State) : State :=
  match s.mon.desc with
  | some d =>
    if sameDesc d c.d then
      let text := hexBytes (entryBytes c.d.tag c.status c.d.opcode c.d.idx 0 c.ts c.res c.detail 0)
      answer [(if c.status = 0 then "OK " else "ERR " ++ hexNat 2 c.status ++ " ") ++ text]
        { s with mon := { s.mon with desc := none } }
    else s
  | none => s

/-- Completes a descriptor (R126, R127): violation counts and records, then the entry in its ring, the return to
Drover or the monitor, or its discard (R98, R107, R110), or its hold until the link can take it (R77). -/
def complete (d : Desc) (st : Nat) (res : Bytes) (det : Nat) (s : State) : State :=
  let c : HeldCpl := { d := d, status := st, res := fit 14 res, detail := det, ts := now s }
  let gone := s.hif.flight.any (fun f => f.is d && f.discard)
  let s0 := if waitsForNv d.opcode then drainAll s else s
  let s1 := if 1 ≤ st ∧ st ≤ 6 then bump HIF_VIOL_CNT.DESC s0 else s0
  let s2 := if isHostViol st d.opcode then append 0x45 st (d.opcode + 256 * pairCode d.src) s1 else s1
  match d.src with
  | .host n =>
    let s3 :=
      if gone ∨ (qp n s2).enabled = false ∨ s2.hif.busMaster = false then leaveFlight d s2
      else if linkUp s2 then writeCpl n c (leaveFlight d s2)
      else leaveFlight d { s2 with hif := { s2.hif with held := s2.hif.held ++ [c] } }
    settlePair n s3
  | _ =>
    if gone then leaveFlight d s2
    else answerDesc c (leaveFlight d { s2 with hif := { s2.hif with back := c :: s2.hif.back } })

/-- Completes with a status and no result. -/
def fail (d : Desc) (st det : Nat) (s : State) : State := complete d st [] det s

/-- Completions held for the link are written, in order (R77). -/
def releaseHeld (s : State) : State :=
  if s.hif.link == .l0 && s.hif.busMaster then
    s.hif.held.foldl (fun s c =>
      match c.d.src with
      | .host n => if (qp n s).enabled then writeCpl n c s else s
      | _ => s) { s with hif := { s.hif with held := [] } }
  else s

/-- A host append that lost its place in the recall buffer completes with BUSY_RETRY (R351). -/
def flushDisplaced (s : State) : State :=
  (s.lgr.hostWait.filter (fun p => p.2 = 0)).foldl (fun s p => fail p.1 stBusy 0 s)
    { s with lgr := { s.lgr with hostWait := s.lgr.hostWait.filter (fun p => p.2 ≠ 0) } }

/-! ## Arrival at the unit -/

/-- Drover's input queue is full (R124). -/
def droverFull (s : State) : Bool := s.hif.droverQ.length ≥ 64

/-- Notes the depth of Drover's queue (HIF_DRV_Q). -/
def noteDepth (s : State) : State :=
  if s.hif.droverQ.length > fld HIF_DRV_Q.HWM s then setFld HIF_DRV_Q.HWM s.hif.droverQ.length s else s

/-- Puts a checked descriptor in flight, and a firmware-class one of a host pair in Drover's queue (R16, R124); any
other waits in the Fabric for its unit's acknowledge (R121). -/
def enterFlight (d : Desc) (s : State) : State :=
  let fw := opFirmware d.opcode && isHost d
  let s1 := { s with hif := { s.hif with flight := s.hif.flight ++ [⟨d, fw, false, now s⟩] } }
  if fw then
    noteDepth { s1 with hif := { s1.hif with droverQ := s1.hif.droverQ ++ [d] } }
  else s1

/-- The unit acknowledges a descriptor (R100, R121). -/
def accept (d : Desc) (s : State) : State :=
  { s with hif := { s.hif with flight := s.hif.flight.map (fun f => if f.is d then { f with accepted := true } else f) } }

/-- No descriptor of the same source that waits for the same unit stands before it: they reach it in ring order (R121). -/
def reachesUnit (d : Desc) (s : State) : Bool :=
  (s.hif.flight.takeWhile (fun f => !f.is d)).all (fun f =>
    f.accepted || f.d.src != d.src || opIsland f.d.opcode != opIsland d.opcode)

/-- Marks a pair's head as blocked for Drover's queue (R124). -/
def blockDrover (n : Nat) (s : State) : State :=
  if (qp n s).blkDrv then s
  else
    setFld HIF_BLOCKED.QP (Nat.lor (fld HIF_BLOCKED.QP s) (2 ^ n))
      (bump HIF_DRV_Q.STALLS (setQp n { qp n s with blkDrv := true } s))

/-- Clears that mark. -/
def unblockDrover (n : Nat) (s : State) : State :=
  if (qp n s).blkDrv then
    setFld HIF_BLOCKED.QP (Nat.land (fld HIF_BLOCKED.QP s) (2 ^ 32 - 1 - 2 ^ n))
      (setQp n { qp n s with blkDrv := false } s)
  else s

/-- A descriptor is already in flight, handed over by DESCRIPTOR_DISPATCH. -/
def isFlying (d : Desc) (s : State) : Bool := s.hif.flight.any (fun f => f.is d)

/-- A pending checkpoint that Drover can make goes before the next descriptor of its queue (R378). -/
def ckptFirst (s : State) : Bool := !s.lgr.ckpt.isEmpty && fld RNG_STATUS.STATE s == 2

/-- A firmware-class descriptor that Drover serves. Its queue is served in order: behind another descriptor, before
Drover runs, or before a checkpoint that can be made, it stays where it is (R31, R124, R378). Without firmware the
boot ROM serves FW_STAGE and FW_ACTIVATE only (R417). -/
def whenServed (d : Desc) (run : Desc → State → State) (s : State) : State :=
  if opFirmware d.opcode && isHost d then
    if (droverWork s).any (fun w => !sameDesc w d) then s
    else match s.lcy.drover with
      | .ready => if ckptFirst s then s else run d s
      | .noFw => if d.opcode == 0x68 || d.opcode == 0x69 then run d s else complete d stIslandReset [] 0 s
      | .off | .booting | .loaded => s
  else run d s

/-- The Drover port has had its turn (R15). -/
def droverTurn (s : State) : State := { s with hif := { s.hif with turn := 32 } }

/-- Runs a descriptor's own work. A host descriptor does its work once DESCRIPTOR_DISPATCH has handed it over, and reaches
its unit in ring order (R121). One of the Drover port takes the port's turn and goes through the checks of R119 in the
same step (DESIGN CHOICE, log entry 3); one that claims the place of another descriptor in flight is not there. -/
def withDesc (d : Desc) (run : Desc → State → State) (s : State) : State :=
  if s.hif.flight.any (fun f => f.d == d) then
    (if reachesUnit d s then whenServed d (fun d s => run d (accept d s)) s else s)
  else if isHost d || isFlying d s then s
  else
    match check119 d s with
    | some (st, det) => complete d st [] det (droverTurn s)
    | none => run d (accept d (enterFlight d (droverTurn s)))

/-- Nonzero reserved parameter byte from `lo` to `hi - 1`: its DETAIL (R119 check 3, R310). -/
def parNonzero (lo hi : Nat) (d : Desc) : Option Nat :=
  ((List.range (hi - lo)).map (fun i => lo + i)).find? (fun i => p8 d i ≠ 0) |>.map (32 + ·)

/-- Runs `k` when parameter bytes `lo` to 23 are 0, else completes with BAD_LEN. -/
def reserved (lo : Nat) (d : Desc) (k : State → State) (s : State) : State :=
  match parNonzero lo 24 d with
  | some det => fail d stBadLen det s
  | none => k s

/-- Reads SRC and goes on, or completes with BAD_ADDR and HIF_FAULT.DATA_DMA (R107, R118). -/
def readSrc (d : Desc) (n : Nat) (k : Bytes → State → State) (s : State) : State :=
  match dmaRead d d.srcAddr n s with
  | some bs => k bs s
  | none => fail d stBadAddr 16 (if isHost d && s.hif.busMaster then setFault HIF_FAULT.DATA_DMA s else s)

/-- Writes DST and goes on, or completes with BAD_ADDR and HIF_FAULT.DATA_DMA, writing nothing (R107, R118). -/
def writeDst (d : Desc) (bs : Bytes) (k : State → State) (s : State) : State :=
  if dmaBlocked d d.dstAddr bs.length s then
    fail d stBadAddr 24 (if isHost d && s.hif.busMaster then setFault HIF_FAULT.DATA_DMA s else s)
  else k (dmaWrite d d.dstAddr bs s)

end Sys2Proof.Machine
end

