-- ==== Sys2Proof/Machine/Sha.lean ====
section
/-! DEFINITION. Machine/Sha.lean: SHA-256 and ECDSA over P-256 (R319 to R321, R377). PRESUMED: the definitions are
those of FIPS 180-4 and FIPS 186 (log entry 13). -/
namespace Sys2Proof.Machine

/-- Largest `r` with `r ^ k ≤ n`, by bisection on `w` bits. -/
def rootBits (k n : Nat) : Nat → Nat → Nat
  | 0, r => r
  | w + 1, r => if (r + 2 ^ w) ^ k ≤ n then rootBits k n w (r + 2 ^ w) else rootBits k n w r

/-- Whether `p` has no divisor from 2 to `d`. -/
def noDiv (p : Nat) : Nat → Bool
  | 0 => true
  | 1 => true
  | d + 1 => p % (d + 1) != 0 && noDiv p d

/-- The first primes below `n`, for `n` up to 361: a number below that without a divisor from 2 to 18 is prime. -/
def primesBelow (n : Nat) : List Nat := (List.range n).filter (fun p => p ≥ 2 && noDiv p (min 18 (p - 1)))

/-- First 32 fraction bits of the cube roots of the first 64 primes. -/
def shaKFormula : List Nat := (primesBelow 312).map (fun p => rootBits 3 (p * 2 ^ 96) 36 0 % 2 ^ 32)

/-- First 32 fraction bits of the square roots of the first 8 primes. -/
def shaH0Formula : List Nat := (primesBelow 20).map (fun p => rootBits 2 (p * 2 ^ 64) 36 0 % 2 ^ 32)

/-- The round constants of SHA-256 (FIPS 180-4). -/
def shaK : List Nat :=
  [0x428A2F98, 0x71374491, 0xB5C0FBCF, 0xE9B5DBA5, 0x3956C25B, 0x59F111F1, 0x923F82A4, 0xAB1C5ED5,
   0xD807AA98, 0x12835B01, 0x243185BE, 0x550C7DC3, 0x72BE5D74, 0x80DEB1FE, 0x9BDC06A7, 0xC19BF174,
   0xE49B69C1, 0xEFBE4786, 0x0FC19DC6, 0x240CA1CC, 0x2DE92C6F, 0x4A7484AA, 0x5CB0A9DC, 0x76F988DA,
   0x983E5152, 0xA831C66D, 0xB00327C8, 0xBF597FC7, 0xC6E00BF3, 0xD5A79147, 0x06CA6351, 0x14292967,
   0x27B70A85, 0x2E1B2138, 0x4D2C6DFC, 0x53380D13, 0x650A7354, 0x766A0ABB, 0x81C2C92E, 0x92722C85,
   0xA2BFE8A1, 0xA81A664B, 0xC24B8B70, 0xC76C51A3, 0xD192E819, 0xD6990624, 0xF40E3585, 0x106AA070,
   0x19A4C116, 0x1E376C08, 0x2748774C, 0x34B0BCB5, 0x391C0CB3, 0x4ED8AA4A, 0x5B9CCA4F, 0x682E6FF3,
   0x748F82EE, 0x78A5636F, 0x84C87814, 0x8CC70208, 0x90BEFFFA, 0xA4506CEB, 0xBEF9A3F7, 0xC67178F2]

/-- The initial hash value of SHA-256 (FIPS 180-4). -/
def shaH0 : List Nat :=
  [0x6A09E667, 0xBB67AE85, 0x3C6EF372, 0xA54FF53A, 0x510E527F, 0x9B05688C, 0x1F83D9AB, 0x5BE0CD19]

/-- The table of round constants holds the values of their formula. -/
theorem shaK_formula : shaK = shaKFormula := by decide +kernel

/-- The table of initial values holds the values of their formula. -/
theorem shaH0_formula : shaH0 = shaH0Formula := by decide +kernel

/-- Rotation of a 32-bit number right by `n`. -/
def rotr32 (n x : Nat) : Nat := x / 2 ^ n + x * 2 ^ (32 - n) % 2 ^ 32

/-- XOR of three numbers. -/
def xor3 (a b c : Nat) : Nat := Nat.xor a (Nat.xor b c)

/-- Message schedule words still to make; `ws` is newest first. -/
def shaSched : Nat → List Nat → List Nat
  | 0, ws => ws
  | n + 1, ws =>
    let w2 := ws.getD 1 0
    let w7 := ws.getD 6 0
    let w15 := ws.getD 14 0
    let w16 := ws.getD 15 0
    let s0 := xor3 (rotr32 7 w15) (rotr32 18 w15) (w15 / 8)
    let s1 := xor3 (rotr32 17 w2) (rotr32 19 w2) (w2 / 1024)
    shaSched n ((s1 + w7 + s0 + w16) % 2 ^ 32 :: ws)

/-- One round on the eight working words. -/
def shaRound (v : List Nat) (kw : Nat) : List Nat :=
  let a := v.getD 0 0
  let b := v.getD 1 0
  let c := v.getD 2 0
  let d := v.getD 3 0
  let e := v.getD 4 0
  let f := v.getD 5 0
  let g := v.getD 6 0
  let h := v.getD 7 0
  let t1 := h + xor3 (rotr32 6 e) (rotr32 11 e) (rotr32 25 e)
    + Nat.xor (Nat.land e f) (Nat.land (2 ^ 32 - 1 - e) g) + kw
  let t2 := xor3 (rotr32 2 a) (rotr32 13 a) (rotr32 22 a) + xor3 (Nat.land a b) (Nat.land a c) (Nat.land b c)
  [(t1 + t2) % 2 ^ 32, a, b, c, (d + t1) % 2 ^ 32, e, f, g]

/-- One 64-byte block. -/
def shaBlock (h : List Nat) (blk : Bytes) : List Nat :=
  let w := (shaSched 48 ((chunks 4 blk).map beNat).reverse).reverse
  let v := (List.zipWith (· + ·) shaK w).foldl shaRound h
  List.zipWith (fun a b => (a + b) % 2 ^ 32) h v

/-- SHA-256. -/
def sha256 (msg : Bytes) : Bytes :=
  let padN := (119 - msg.length % 64) % 64
  let m := msg ++ [0x80] ++ List.replicate padN 0 ++ beBytes 8 (8 * msg.length)
  (((chunks 64 m).foldl shaBlock shaH0).map (beBytes 4)).flatten

/-- The P-256 field prime. -/
def p256P : Nat := 2 ^ 256 - 2 ^ 224 + 2 ^ 192 + 2 ^ 96 - 1
/-- The P-256 group order. -/
def p256N : Nat := 0xFFFFFFFF00000000FFFFFFFFFFFFFFFFBCE6FAADA7179E84F3B9CAC2FC632551
/-- The P-256 coefficient b. -/
def p256B : Nat := 0x5AC635D8AA3A93E7B3EBBD55769886BC651D06B0CC53B0F63BCE3C3E27D2604B
/-- The P-256 base point. -/
def p256G : Nat × Nat :=
  (0x6B17D1F2E12C4247F8BCE6E563A440F277037D812DEB33A0F4A13945D898C296,
   0x4FE342E2FE1A7F9B8EE7EB4A7C0F9E162BCE33576B315ECECBB6406837BF51F5)

/-- Power modulo `m` over the low `w` bits of the exponent. -/
def powMod (m : Nat) : Nat → Nat → Nat → Nat → Nat
  | 0, _, _, acc => acc
  | w + 1, b, e, acc => powMod m w (b * b % m) (e / 2) (if e % 2 = 1 then acc * b % m else acc)

/-- Inverse modulo a prime of 256 bits. -/
def invMod (m a : Nat) : Nat := powMod m 256 (a % m) (m - 2) 1

/-- Sum of two points; `none` is the point at infinity. -/
def ecAdd : Option (Nat × Nat) → Option (Nat × Nat) → Option (Nat × Nat)
  | none, q => q
  | p, none => p
  | some (x1, y1), some (x2, y2) =>
    if x1 = x2 ∧ (y1 + y2) % p256P = 0 then none else
      let l := if x1 = x2 then (3 * x1 * x1 + (p256P - 3)) * invMod p256P (2 * y1) % p256P
        else (y2 + p256P - y1) * invMod p256P (x2 + p256P - x1) % p256P
      let x3 := (l * l + 2 * p256P - x1 - x2) % p256P
      some (x3, (l * (x1 + p256P - x3) + p256P - y1) % p256P)

/-- Multiple of a point over the low `w` bits of `k`. -/
def ecMulN : Nat → Nat → Option (Nat × Nat) → Option (Nat × Nat) → Option (Nat × Nat)
  | 0, _, _, acc => acc
  | w + 1, k, p, acc => ecMulN w (k / 2) (ecAdd p p) (if k % 2 = 1 then ecAdd acc p else acc)

/-- Multiple of a point. -/
def ecMul (k : Nat) (p : Option (Nat × Nat)) : Option (Nat × Nat) := ecMulN 256 k p none

/-- Whether (x, y) is a point of the curve. -/
def onCurve (x y : Nat) : Bool :=
  x < p256P && y < p256P && (y * y) % p256P == (x * x * x + (p256P - 3) * x + p256B) % p256P

/-- The public key of a scalar as 64 bytes x ‖ y. -/
def ecPub (d : Nat) : Bytes :=
  match ecMul d (some p256G) with
  | some (x, y) => beBytes 32 x ++ beBytes 32 y
  | none => List.replicate 64 0

/-- ECDSA signature r ‖ s of a digest with nonce `k`; `none` when r or s would be 0. -/
def ecdsaSign (d k : Nat) (digest : Bytes) : Option Bytes :=
  match ecMul k (some p256G) with
  | none => none
  | some (x, _) =>
    let r := x % p256N
    let s := invMod p256N k * ((beNat digest + r * d) % p256N) % p256N
    if r = 0 ∨ s = 0 then none else some (beBytes 32 r ++ beBytes 32 s)

/-- Whether a 64-byte public key is a point of the curve. -/
def pubOk (pub : Bytes) : Bool := onCurve (beNat (pub.take 32)) (beNat (pub.drop 32))

/-- ECDSA verification of r ‖ s over a digest under a public key x ‖ y. -/
def ecdsaVerify (pub digest sig : Bytes) : Bool :=
  let r := beNat (sig.take 32)
  let s := beNat (sig.drop 32)
  if ¬ (1 ≤ r ∧ r < p256N ∧ 1 ≤ s ∧ s < p256N ∧ pubOk pub = true) then false else
    let w := invMod p256N s
    let q := ecAdd (ecMul (beNat digest * w % p256N) (some p256G))
      (ecMul (r * w % p256N) (some (beNat (pub.take 32), beNat (pub.drop 32))))
    match q with
    | none => false
    | some (x, _) => x % p256N = r

end Sys2Proof.Machine
end

