-- ==== Sys2Proof/Machine/Caddy.lean ====
section
/-! DEFINITION. Machine/Caddy.lean: the Caddy's slots, handles and holders (R300 to R304), the wrap keys (R305), the
DAK (R319) and internal draws from the DRBG (R334). -/
namespace Sys2Proof.Machine

/-! ## Slots and handles -/

/-- Slot `n`. -/
def slotOf (n : Nat) (s : State) : Slot := s.cry.slots.getD n Slot.empty

/-- Replaces slot `n`. -/
def setSlot (n : Nat) (x : Slot) (s : State) : State :=
  { s with cry := { s.cry with slots := s.cry.slots.set n x } }

/-- Changes of slot `n` that wait for its holders (R304). -/
def slotChanges (n : Nat) (s : State) : Nat := s.cry.changes.countP (fun c => c.slot = n)

/-- Slot `n` has a holder (R304). -/
def slotHeld (n : Nat) (s : State) : Bool := s.cry.holders.any (fun h => h.1 = n)

/-- The handle of slot `n` at generation `g` (Table 13.2). -/
def mkHandle (n g : Nat) : Nat := n + 256 * (g % 256)

/-- KIND is an AES key. -/
def isAes (k : Nat) : Bool := 1 ≤ k && k ≤ 3

/-- The slot a handle names, with its key, when the handle is valid (R302): reserved bit and DEV 0, generation present,
no change of the slot under way (R304), KIND as asked and USAGE bit `u` set. -/
def keyFor (h u : Nat) (kindOk : Nat → Bool) (s : State) : Option (Nat × Slot) :=
  let n := h % 64
  let x := slotOf n s
  if h < 0x10000 ∧ bit 6 h = false ∧ bit 7 h = false ∧ h / 256 = x.gen ∧ slotChanges n s = 0 ∧ kindOk x.kind = true ∧
     bit u x.usage = true then some (n, x) else none

/-- The slot that a KEY_ opcode's TARGET names: its generation counts the changes that wait (R302, R304). -/
def keyTarget (h : Nat) (s : State) : Option Nat :=
  let n := h % 64
  if h < 0x10000 ∧ bit 6 h = false ∧ bit 7 h = false ∧ h / 256 = ((slotOf n s).gen + slotChanges n s) % 256 then some n
  else none

/-- Takes hold of a slot for an operation that lasts beyond its command (R304). -/
def holdSlot (n : Nat) (d : Desc) (s : State) : State :=
  { s with cry := { s.cry with holders := (n, d) :: s.cry.holders } }

/-- Result bytes of KEY_UNWRAP and KEY_DERIVE (Table 13.3); a cleared slot gives its handle alone (R308). -/
def slotResult (n : Nat) (x : Slot) : Bytes :=
  leBytes 2 (mkHandle n x.gen) ++
    (if x.kind = 0 then [] else [byteOf x.kind, 0] ++ leBytes 2 x.usage ++ [byteOf x.origin])

/-- The slot takes its new content and the next generation, and the completion is written (R303, R304). -/
def applyChange (c : SlotChange) (s : State) : State :=
  let x := { c.new with gen := ((slotOf c.slot s).gen + 1) % 256 }
  complete c.d stOk (slotResult c.slot x) 0 (setSlot c.slot x s)

/-- Applies the changes whose slots have no holder, in order (R304). -/
def applyChanges : List SlotChange → State → State
  | [], s => s
  | c :: cs, s =>
    if slotHeld c.slot s || slotChanges c.slot s > 0 then
      applyChanges cs { s with cry := { s.cry with changes := s.cry.changes ++ [c] } }
    else applyChanges cs (applyChange c s)

/-- Runs the waiting changes that may run now. -/
def runChanges (s : State) : State :=
  applyChanges s.cry.changes { s with cry := { s.cry with changes := [] } }

/-- Changes a slot: at once, or after its last holder (R304). -/
def changeSlot (d : Desc) (n : Nat) (x : Slot) (s : State) : State :=
  runChanges { s with cry := { s.cry with changes := s.cry.changes ++ [⟨d, n, x⟩] } }

/-- The operation of descriptor `d` ends and lets go of its slots (R304). -/
def releaseSlots (d : Desc) (s : State) : State :=
  runChanges { s with cry := { s.cry with
    holders := s.cry.holders.filter (fun h => !sameDesc h.2 d) } }

/-- Zeroises every slot; a slot that held a key takes the next generation (R303). -/
def wipeCaddy (s : State) : State :=
  { s with cry := { s.cry with
    holders := []
    slots := s.cry.slots.map (fun x => { Slot.empty with gen := if x.kind = 0 then x.gen else (x.gen + 1) % 256 }) } }

/-! ## Wrap keys and the DAK -/

/-- K_wrap of a base key (R305). -/
def wrapKey (base : Bytes) (sel kind usage : Nat) : Bytes :=
  kdf base [0x43, 0x41, 0x44, 0x59] [byteOf sel, byteOf kind, byteOf (usage / 256), byteOf usage] 256

/-- The fuse root can be used: not in Retired (R305, R411). -/
def rootOk (s : State) : Bool := !s.lcy.keysGone && !isRetired s

/-- USAGE fits KIND (Table 13.1): nonzero, no reserved bit, SIGN exactly with KIND 4, SESSION only with KIND 1. -/
def usageFits (kind usage : Nat) : Bool :=
  usage != 0 && usage < 128 && (if kind = 4 then usage == 0x20 else !bit 5 usage) && (!bit 6 usage || kind == 1)

/-- The DAK's private scalar (R319). -/
def dakScalar : Nat := beNat (kdf fuseRoot [0x44, 0x41, 0x4B, 0x50] [] 384) % (p256N - 1) + 1

/-- The DAK's public key, 64 bytes X ‖ Y (R319). -/
def dakPub : Bytes := ecPub dakScalar

/-! ## Draws from the DRBG -/

/-- STATE of the generator (Table 14.1). -/
def rngState (s : State) : Nat := fld RNG_STATUS.STATE s

/-- Why an internal draw fails (R334): in Steep as NOT_READY_ENTROPY, in Resteep or Latched as HEALTH_FAIL; an island
that is off has no reserve before its first Steep. -/
def drawFails (s : State) : Option Nat :=
  if rngState s = 2 then none
  else if rngState s = 3 ∨ rngState s = 4 then some stHealth
  else some stNotReady

/-- Counts a generate request; the 2^16th makes a reseed due (R334). -/
def countGenerate (s : State) : State :=
  let n := min (fld RNG_REQ_CNT.SINCE_RESEED s + 1) 69632
  let s1 := setFld RNG_REQ_CNT.SINCE_RESEED n s
  if n ≥ 65536 then setFld RNG_STATUS.RESEED_DUE 1 s1 else s1

/-- An internal draw of `k` bytes: a generate request of its own (R334). -/
def drawBytes (k : Nat) (s : State) : Bytes × State := (freeBytes k s, countGenerate (tookFree k s))

/-- A nonce k from 1 to n − 1: rejection leaves any value of that range (R320). -/
def drawNonce (s : State) : Nat × State :=
  let r := drawBytes 32 s
  (beNat r.1 % (p256N - 1) + 1, r.2)

/-- ECDSA with a fresh nonce; a nonce that would give r or s of 0 is replaced by the next (FIPS 186-5). -/
def signWith (d : Nat) (digest : Bytes) (s : State) : Bytes × State :=
  let k1 := drawNonce s
  match ecdsaSign d k1.1 digest with
  | some sig => (sig, k1.2)
  | none =>
    let k2 := drawNonce k1.2
    ((ecdsaSign d k2.1 digest).getD [], k2.2)

/-- Counts a signature verification and its failure (Table 13.10). -/
def countVerify (ok : Bool) (s : State) : State :=
  let s1 := bump CRY_PKE_CNT.VERIFY s
  if ok then s1 else bump CRY_CNT1.MAC_FAIL s1

/-- Counts a failed CMAC verification. -/
def countMac (s : State) : State := bump CRY_CNT1.MAC_FAIL s

end Sys2Proof.Machine
end

