-- ==== Sys2Proof/Machine/Trig.lean ====
section
/-! DEFINITION. Machine/Trig.lean: the sine and its inverse in exact integer arithmetic, for the angle of arrival
(R239) and the duty rule of LF_CAL (R162). -/
namespace Sys2Proof.Machine

/-- Scale of the fixed-point values below. -/
def trigOne : Int := 10 ^ 12

/-- Taylor terms of the sine of `x` (in 1/10^12 rad), from term `t` of index `i` on, `n` of them. -/
def sinTerms (x : Int) : Nat → Nat → Int → Int
  | 0, _, _ => 0
  | n + 1, i, t => t + sinTerms x n (i + 1) (-(t * x / trigOne * x) / (trigOne * ((2 * i + 2) * (2 * i + 3) : Nat)))

/-- sin(π·n/d) in 1/10^12, for angles from 0 to π/2. -/
def sinPi (n d : Nat) : Int :=
  let x : Int := (3141592653590 * n : Nat) / (d : Int)
  sinTerms x 12 0 x

/-- Largest `a` up to `2^k - 1` more than `a0` with `ok`, which holds up to it and not beyond. -/
def searchUp (ok : Nat → Bool) : Nat → Nat → Nat
  | 0, a => a
  | k + 1, a => searchUp ok k (if ok (a + 2 ^ k) then a + 2 ^ k else a)

/-- asin(p/q) in 0.01 degree, rounded to the nearest, for 0 ≤ p ≤ q. -/
def asinCenti (p q : Nat) : Nat :=
  searchUp (fun a => a ≤ 9000 && sinPi (2 * a - 1) 36000 * q ≤ p * trigOne) 14 0

end Sys2Proof.Machine
end

