-- ==== Sys2Proof/Machine/Coex.lean ====
section
/-! DEFINITION. Machine/Coex.lean: the moves of the radios (R209, R229), the coexistence lines and the radios' states as
they follow from the activities under way (R215, R216). -/
namespace Sys2Proof.Machine

/-! ## Moves of a radio -/

/-- State of a radio at TIMEBASE `n`. -/
def walkAt (n : Nat) (w : List Hop) : Nat := ((w.find? (fun h => h.come ≤ n)).map (·.st)).getD 0

/-- Where a radio stands once a move under way at `n` has ended: its state, and the TIMEBASE at which it came there. -/
def standing (n : Nat) (w : List Hop) : Nat × Nat :=
  match w.find? (fun h => h.go ≤ n) with
  | some h => (h.come, h.st)
  | none => (n, 0)

/-- The moves up to `n`: one under way goes on to its end, those still to come are given up. -/
def begun (n : Nat) (w : List Hop) : List Hop := (w.filter (fun h => h.go ≤ n)).take 2

/-- Length of a path in us. -/
def pathUs (p : List (Nat × Nat)) : Nat := (p.map (·.1)).sum

/-- The moves of a path from TIMEBASE `a` on, `us` of it gone: the time that each takes, in us, and its state. -/
def walkOn (a : Nat) : Nat → List (Nat × Nat) → List Hop → List Hop
  | _, [], w => w
  | us, (k, st) :: p, w => walkOn a (us + k) p (⟨a + usTicks us, a + usTicks (us + k), st⟩ :: w)

/-- State of the UHF radio (Table 09.1). -/
def uhfState (s : State) : Nat := walkAt (now s) s.uhf.walk

/-- Replaces the UHF radio's moves. -/
def setUhfWalk (w : List Hop) (s : State) : State := { s with uhf := { s.uhf with walk := w } }

/-- Replaces the UWB radio's moves. -/
def setUwbWalk (w : List Hop) (s : State) : State := { s with uwb := { s.uwb with walk := w } }

/-- A radio that has been without power is in Sleep, one that has lost it is Off (Tables 09.1, 10.2). -/
def repower (on : Bool) (n : Nat) (w : List Hop) : List Hop :=
  if !on then [⟨n, n, 0⟩] else if walkAt n w = 0 then [⟨n, n, 1⟩] else w

/-! ## The grant -/

/-- PRI of class `k` (R216). -/
def coexPriOf (k : Nat) (s : State) : Bool := bit (2 * k) (regGet UHF_COEX_POL.reg s).toNat
/-- NEED of class `k`. -/
def coexNeed (k : Nat) (s : State) : Bool := bit (2 * k + 1) (regGet UHF_COEX_POL.reg s).toNat

/-- UHF_COEX_CTL.EN. -/
def coexEn (s : State) : Bool := flag UHF_COEX_CTL.EN s

/-- LEAD in ticks. -/
def coexLead (s : State) : Nat := usTicks (2 * fld UHF_COEX_CTL.LEAD s)

/-- TIMEOUT in ticks. -/
def coexTimeout (s : State) : Nat := 3840 * fld UHF_COEX_CTL.TIMEOUT s

/-- An activity of class `k` may go on the air as far as the grant goes (R215, R216). -/
def coexOk (k : Nat) (s : State) : Bool := !coexEn s || !coexNeed k s || s.pins.coexGnt

/-- A reserved window is requesting: from LEAD before the radio leaves Standby for it until it closes (R210, R217). -/
def windowAsks (s : State) : Bool :=
  s.uhf.windows.any (fun w => w.1 ≤ now s + usTicks 150 + coexLead s && now s ≤ w.2)

/-- Coexistence class of the UHF host activity (Table 09.3). -/
def runClass (r : UhfRun) : Nat := if r.cal.isSome then 5 else if r.tx then 3 else 4

/-- A UWB_CAL requests or holds the grant for its exchanges with the reference responder (Table 09.3 CAL). -/
def calRadiates (s : State) : Bool :=
  match s.uwb.run with
  | some r => r.cal.isSome && r.calAsks && decide (r.calFrom ≤ now s)
  | none => false

/-- The activities that request or hold the grant, each with its PRI: from the rise of COEX_REQ for it (R215 to R217). -/
def coexActs (s : State) : List Bool :=
  (match s.uhf.run with
   | some r => if r.req ≤ now s && now s ≤ r.reqEnd then [coexPriOf (runClass r) s] else []
   | none => [])
  ++ (if windowAsks s then
        [coexPriOf 0 s || ((s.poll.map (·.gateImmo)).getD false && coexPriOf 1 s)] else [])
  ++ ((s.uwb.exch.filter (fun e => e.phase != .done)).map (fun e => coexPriOf e.cls s))
  ++ (match s.uwb.cur with
      | some e => if e.phase != .done && e.req ≤ now s then [coexPriOf e.cls s] else []
      | none => [])
  ++ (if calRadiates s then [coexPriOf 5 s] else [])

/-- The UHF radio transmits: from the ramp-up of its amplifier, 4 us before the first bit, to the end of the frame
(R209, R220). -/
def uhfSends (s : State) : Bool :=
  s.uhf.bg.isNone && !s.uhf.window &&
    (match s.uhf.run with
     | some r => r.tx && r.phase == .air && !r.paused && r.start ≤ now s + usTicks 4
     | none => false)

/-- An exchange is on the air. -/
def exchOnAir (e : Exch) : Bool := e.phase == .poll || e.phase == .final

/-- The exchange on the air, of the poll or of a UWB_RANGE. -/
def airExch (s : State) : Option Exch :=
  match s.uwb.exch.find? exchOnAir with
  | some x => some x
  | none => match s.uwb.cur with
    | some x => if exchOnAir x then some x else none
    | none => none

/-- The device's own frame of an exchange is on the air: the Poll, then the Final; the switch to receive follows within
4 us of its end (Table 10.3). -/
def exchSends (x : Exch) (n : Nat) : Bool :=
  let us := if x.allSp1 then 176 else 144
  (x.start ≤ n && n < x.start + usTicks us) ||
    (x.ds && x.phase == .final && x.start + usTicks 700 ≤ n && n < x.start + usTicks (700 + us))

/-- State of the UWB radio (Tables 10.2 and 10.3). -/
def uwbState (s : State) : Nat :=
  match airExch s with
  | some x => if x.start ≤ now s then (if exchSends x (now s) then 5 else 4) else walkAt (now s) s.uwb.walk
  | none => walkAt (now s) s.uwb.walk

/-- The coexistence lines and the UHF switch and amplifier follow the activities (R209, R215); CAN_STB is low while the
CAN port works (R291). -/
def refreshRadio (s : State) : State :=
  let acts := coexActs s
  let tx := uhfSends s
  { s with pins := { s.pins with
    coexReq := coexEn s && !acts.isEmpty
    coexPri := coexEn s && acts.any id
    trsw := tx
    pa := tx
    canStb := s.pwr.inReset || s.pwr.vaonDown || !(islandOn .can s && flag FLK_CAN_CFG.EN s) } }

/-- The synthesiser is locked: in Synth, RX and TX; in Cal where it was locked before. -/
def locked (n : Nat) (w : List Hop) : Bool :=
  match w.dropWhile (fun h => decide (n < h.come)) with
  | h :: l => (3 ≤ h.st && h.st ≤ 5) || (h.st == 6 && (l.head?.map (·.st)) == some 3)
  | [] => false

/-- Bits 8:0 of UHF_STATUS as they read (Table 09.8). -/
def uhfStatusLow (s : State) : Nat :=
  let st := uhfState s
  st + 8 * b2n (locked (now s) s.uhf.walk) + 16 * b2n (st == 6) + 32 * b2n s.uhf.window + 64 * b2n s.pins.coexReq
    + 128 * b2n s.pins.coexPri + 256 * b2n s.pins.coexGnt

/-- Bits 6:0 of UWB_STATUS as they read (Table 10.12). -/
def uwbStatusLow (s : State) : Nat :=
  let st := uwbState s
  st + 8 * b2n (3 ≤ st && st ≤ 5) + 16 * b2n (st == 6) + 32 * b2n s.uwb.hold
    + 64 * b2n (st == 2 && bit 1 (fld PWR_HINT_KEEP.KEEP s))

/-- A background calibration whose end has come puts its results in force (R213, R214, R241). -/
def settleCals (s : State) : State :=
  let s1 := match s.uhf.bg with
    | some b =>
      if b.stop ≤ now s then
        setFld UHF_CAL_STAT.IRR b.irr { s with uhf := { s.uhf with bg := none, dc := b.dc, bgAt := b.stop, bgTemp := b.temp } }
      else s
    | none => s
  match s1.uwb.bg with
  | some b =>
    if b.stop ≤ now s1 then
      setFld UWB_CAL_STAT.IRR b.irr { s1 with uwb := { s1.uwb with bg := none, bgAt := b.stop, bgTemp := b.temp } }
    else s1
  | none => s1

/-- A UHF or UWB activity runs (R223). -/
def radioBusy (s : State) : Bool :=
  s.uhf.run.isSome || s.uhf.window || !s.uwb.exch.isEmpty || s.uwb.run.isSome

/-- An exchange, a calibration or a pre-warm hold runs (R245). -/
def uwbBusy (s : State) : Bool := s.uwb.exch.any exchOnAir || s.uwb.run.isSome || s.uwb.hold || s.uwb.bg.isSome

/-- The bits of a register that a held write carries: the RW fields. The other bits of LFE_CTL and UWB_CTL go on. -/
def heldMask (off : Nat) : Word := if off = 0x0800 then 0x00000770 else if off = 0x1600 then 0xFFFF7F30 else 0xFFFFFFFF

/-- Word `w` as a held write to `off` leaves the register. -/
def heldWord (off : Nat) (w : Word) (s : State) : Word := (w &&& heldMask off) ||| (regGet off s &&& ~~~ heldMask off)

/-- The word a register was last written: a held one reads back as written (R163). -/
def regNow (off : Nat) (s : State) : Word :=
  match s.heldWr.reverse.find? (fun p => p.1 = off) with
  | some p => heldWord off p.2 s
  | none => regGet off s

/-- A field of that word. -/
def fldNow (f : Field) (s : State) : Nat := f.of (regNow f.off s)

/-- Writes a register, or holds the write. -/
def holdWrite (busy : Bool) (off : Nat) (w : Word) (s : State) : State :=
  if busy then { s with heldWr := s.heldWr ++ [(off, w)] } else regSet off w s

/-- Held writes of offsets `lo` up to but not including `hi` take effect (R23, R108, R163, R223, R245). They were
checked when they came. -/
def applyHeld (lo hi : Nat) (s : State) : State :=
  let mine := s.heldWr.filter (fun p => lo ≤ p.1 && p.1 < hi)
  mine.foldl (fun s p => regSet p.1 (heldWord p.1 p.2 s) s)
    { s with heldWr := s.heldWr.filter (fun p => !(lo ≤ p.1 && p.1 < hi)) }

end Sys2Proof.Machine
end

