-- ==== Sys2Proof/Machine/UhfOps.lean ====
section
/-! DEFINITION. Machine/UhfOps.lean: the UHF radio: its moves, its host activities from their start to their completion,
reserved windows, calibrations and the grant's effect on them (R206 to R223). -/
namespace Sys2Proof.Machine

/-- Frequency of profile `n` in kHz. -/
def chFreq (n : Nat) (s : State) : Nat := if n = 0 then fld UHF_CH0_FREQ.F_KHZ s else fld UHF_CH1_FREQ.F_KHZ s

/-- Data rate of profile `n` in 100 bit/s. -/
def chRate (n : Nat) (s : State) : Nat := if n = 0 then fld UHF_CH0_MOD.RATE s else fld UHF_CH1_MOD.RATE s

/-- The span of dual reception is within the limits (R208). -/
def spanOk (s : State) : Bool :=
  let a := chFreq 0 s
  let b := chFreq 1 s
  let x := if a ≥ b then a - b else b - a
  200 ≤ x && x ≤ 2000

/-- LO of dual reception in kHz; with a span outside the limits, of reception on channel 0 alone (R208). -/
def dualLo (s : State) : Nat := (if spanOk s then min (chFreq 0 s) (chFreq 1 s) else chFreq 0 s) - 500

/-! ## Moves -/

/-- A VCO calibration is due before the synthesiser locks on `lo` (Table 09.1). Bands are taken per frequency until OSC
has calibrated the whole table (DESIGN CHOICE, log entry 17). -/
def vcoDue (lo : Nat) (temp : Int) (s : State) : Bool :=
  let last := signed 8 (fld UHF_CAL_STAT.CAL_TEMP s)
  !(s.uhf.allBands || s.uhf.bands.contains lo) || decide (temp - last > 10) || decide (last - temp > 10)

/-- The way to Synth from state `st` (Table 09.1): `same` when the synthesiser is on the LO already, `cal` with a VCO
calibration, which comes on the way from Standby. -/
def synthPath (st : Nat) (same cal : Bool) : List (Nat × Nat) :=
  let lock : List (Nat × Nat) := if same then [] else [(30, 3)]
  match st with
  | 0 | 1 => [(50, 2), (60 + 40 * b2n cal, 3)]
  | 3 => lock
  | 4 => (2, 3) :: lock
  | 5 => (4, 3) :: lock
  | _ => [(60 + 40 * b2n cal, 3)]

/-- The way to TX or RX (Table 09.1). -/
def airPath (tx : Bool) (st : Nat) (same cal : Bool) : List (Nat × Nat) :=
  if st == 4 && tx then [(40, 5)]
  else if st == 5 && !tx then [(40, 4)]
  else if st == 4 && same then []
  else synthPath st same cal ++ [if tx then (10, 5) else (8, 4)]

/-- Where the radio stands for a new activity: its state, and from when; a move under way goes on to its end. -/
def uhfFrom (s : State) : Nat × Nat :=
  let p := standing (now s) s.uhf.walk
  (p.2, max p.1 (now s))

/-- VCO calibration lies on the way to `lo` from state `st`. -/
def calOnWay (st lo : Nat) (temp : Int) (s : State) : Bool := st ≤ 2 && vcoDue lo temp s

/-- The synthesiser takes LO `lo`; a VCO calibration on the way is noted (Table 09.1). -/
def tuned (lo : Nat) (temp : Int) (cal : Bool) (s : State) : State :=
  let s1 := { s with uhf := { s.uhf with lo := lo } }
  if cal then
    setFld UHF_CAL_STAT.CAL_TEMP (encSigned 8 temp) { s1 with uhf := { s1.uhf with bands := lo :: s1.uhf.bands } }
  else s1

/-- A radio that has nothing more to do leaves RX or TX for Synth (Table 09.1). -/
def uhfRest (s : State) : State :=
  let p := uhfFrom s
  if p.1 = 4 then setUhfWalk (walkOn p.2 0 [(2, 3)] (begun (now s) s.uhf.walk)) s
  else if p.1 = 5 then setUhfWalk (walkOn p.2 0 [(4, 3)] (begun (now s) s.uhf.walk)) s
  else s

/-! ## Reserved windows -/

/-- The interval a reserved window owns: from 200 us before it opens until it closes (R210). -/
def owned (w : Nat × Nat) : Nat × Nat := (w.1 - usTicks 200, w.2)

/-- The first reserved window whose owned interval meets [a, b]. -/
def meetsWindow (a b : Nat) (s : State) : Option (Nat × Nat) :=
  s.uhf.windows.find? (fun w => (owned w).1 ≤ b && a ≤ (owned w).2)

/-- The first time from `a` on at which `n` ticks of activity meet no reserved window, `us` after one that it would meet
(R211), trying `k` windows. -/
def clearOf (n us : Nat) (s : State) : Nat → Nat → Nat
  | 0, a => a
  | k + 1, a =>
    match meetsWindow a (a + n) s with
    | some w => clearOf n us s k (w.2 + usTicks us)
    | none => a

/-! ## UHF_TX -/

/-- PREAMBLE bytes (Table 09.4). -/
def txPreamble (d : Desc) : Nat := if p8 d 1 = 0 then 4 else p8 d 1

/-- Bits on the air (R220). -/
def txBits (d : Desc) : Nat := 8 * (txPreamble d + p8 d 2 + b2n (bit 1 (p8 d 3)) + d.len + 2 * b2n (bit 0 (p8 d 3)))

/-- Air time in ticks. -/
def txAir (d : Desc) (s : State) : Nat := ceilDiv (txBits d * 384000) (max (chRate d.target s) 1)

/-- The frame as it is sent, byte by byte (R220). -/
def txFrame (d : Desc) (data : Bytes) : Bytes :=
  let body := (if bit 1 (p8 d 3) then [byteOf d.len] else []) ++ data
  List.replicate (txPreamble d) 0xAA ++ beBytes (p8 d 2) (p32 d 4) ++ body
    ++ (if bit 0 (p8 d 3) then beBytes 2 (crc16 body) else [])

/-- Power used, dBm (R220). -/
def txPower (d : Desc) (s : State) : Int := min (signed 8 (p8 d 0)) (signed 8 (fld UHF_TXLIM.TX_MAX s))

/-- UHF_TX result bytes (Table 09.4). -/
def txResult (r : UhfRun) (s : State) : Bytes :=
  leBytes 8 r.start ++ leBytes 4 (txBits r.d * 10000 / max (chRate r.d.target s) 1)
    ++ [byteOf (encSigned 8 (txPower r.d s)), byteOf (r.flags + 8 * b2n (decide (signed 8 (p8 r.d 0) > txPower r.d s)))]

/-! ## UHF_RX -/

/-- WINDOW_US in ticks. -/
def rxWindow (d : Desc) : Nat := usTicks (p32 d 0)

/-- UHF_RX result bytes (Table 09.5). -/
def rxResult (r : UhfRun) (s : State) : Bytes :=
  leBytes 2 r.frames ++ leBytes 2 r.written ++ leBytes 2 r.crcFail ++ [byteOf r.flags, 0] ++ leBytes 4 (now s)

/-! ## UHF_CAL -/

/-- Ticks of a UHF_CAL before its listening for the reference, of that listening, and after it (R213, R222, Table 09.2):
IMAGE and FILTER and the VCO part of OSC; the reference; DCOFS. -/
def calTicks (d : Desc) : Nat × Nat × Nat :=
  let m := p8 d 0
  let k (i us : Nat) : Nat := if bit i m then us else 0
  let listen := if bit 2 m && p32 d 4 != 0 then 10000 else 0
  (usTicks (k 0 300 + k 1 200 + k 2 1500), usTicks listen, usTicks (k 3 100))

/-- Registers of the stored UHF_ set-up (R223). -/
def uhfSetup : List Nat := [0x1400, 0x1408, 0x140C, 0x1410, 0x1414, 0x1418, 0x141C, 0x1420, 0x1424, 0x1428]

/-- Bytes of a stored set-up: the words of its registers. -/
def setupBytes (offs : List Nat) (s : State) : Bytes := (offs.map (fun o => leBytes 4 (regNow o s).toNat)).flatten

/-- A commit of a unit's set-up as one dual-copy record (R80, R96, R163, R223, R245 and their like): VALID, or
COMMIT_ERR when the store fails. -/
def commitSetup (id : Nat) (valid err : Field) (bs : Bytes) (s : State) : State :=
  let r := recStore id bs s
  if r.2 then setFld err 1 r.1 else setFld valid 1 r.1

/-- Commits the UHF_ set-up with the applied calibration results (R223). -/
def commitUhf (s : State) : State :=
  commitSetup recUhf UHF_CTL.VALID UHF_CTL.COMMIT_ERR
    (setupBytes uhfSetup s ++ leBytes 2 s.uhf.filt ++ [byteOf s.uhf.dc]) s

/-- The report of a UHF_CAL but for FLAGS bits 1 and 2 (Table 09.6). -/
def uhfReport (m : UhfMeas) (d : Desc) (extra : Nat) : Bytes :=
  let mode := p8 d 0
  let listens := bit 2 mode && p32 d 4 != 0
  let offs := listens && m.refFound
  let far := offs && (decide (m.ppm > 2500) || decide (m.ppm < -2500))
  [byteOf (mode % 16), byteOf (if bit 0 mode then m.irr else 0)]
    ++ leBytes 2 (if bit 1 mode then m.filt else 0) ++ leBytes 2 (if offs then encSigned 16 m.ppm else 0)
    ++ [byteOf (if bit 2 mode then m.band else 0), byteOf (if bit 3 mode then m.dc else 0),
        byteOf (b2n (listens && !m.refFound) + extra + 8 * b2n far)] ++ List.replicate 7 0

/-- The results of a UHF_CAL become the radio's settings (R213, R222). -/
def applyUhfCal (m : UhfMeas) (d : Desc) (s : State) : State :=
  let mode := p8 d 0
  let offs := bit 2 mode && p32 d 4 != 0 && m.refFound
  let far := decide (m.ppm > 2500) || decide (m.ppm < -2500)
  let a := if bit 0 mode then setFld UHF_CAL_STAT.IRR m.irr s else s
  let b := if offs && !far then setFld UHF_CAL_STAT.PPM (encSigned 16 m.ppm) a else a
  let c := if bit 2 mode then setFld UHF_CAL_STAT.CAL_TEMP (encSigned 8 m.temp) b else b
  { c with uhf := { c.uhf with
    filt := if bit 1 mode then m.filt else c.uhf.filt
    dc := if bit 3 mode then m.dc else c.uhf.dc
    allBands := c.uhf.allBands || bit 2 mode } }

/-- A UHF_CAL has run: its results apply only with APPLY, and are stored with PERSIST (R222). -/
def finishUhfCal (m : UhfMeas) (d : Desc) (s : State) : State :=
  let apply := bit 4 (p8 d 0)
  let s1 := if apply then applyUhfCal m d s else s
  let persist := apply && bit 5 (p8 d 0)
  let s2 := if persist then commitUhf s1 else s1
  let pf := persist && recFails recUhf s
  let rep := uhfReport m d (2 * b2n apply + 4 * b2n pf)
  writeDst d (rep.take d.len) (fun s => complete d stOk (rep.take 14) 0 s) s2

/-! ## Starting and ending -/

/-- Ends the host activity and frees the radio at TIMEBASE `e` (R209). A radio in RX or TX stays there for the activity
that waits behind it. -/
def endRun (e : Nat) (s : State) : State :=
  let w := s.uhf.walk.filter (fun h => decide (h.go < now s))
  { s with uhf := { s.uhf with run := none, lastEnd := e, walk := if s.uhf.queue.isEmpty then s.uhf.walk else w } }

/-- TX_LATE (R211, R212). -/
def txLate (d : Desc) (s : State) : State := fail d stTxLate 0 s

/-- An activity is skipped for want of a grant (R217). -/
def countDenied (s : State) : State := setFld UHF_STATUS.DENIED 1 (bump UHF_COEX_CNT.DENIED s)

/-- An activity loses its grant (R218). -/
def countAbort (s : State) : State := setFld UHF_STATUS.ABORT 1 (bump UHF_COEX_CNT.ABORT s)

/-- Aborts a background calibration in favour of an activity (R212, R214); the result flag says so. -/
def abortBg (s : State) : State × Nat :=
  match s.uhf.bg with
  | some b =>
    (setFld UHF_STATUS.BG_ABORT 1 (setUhfWalk (⟨now s, now s, b.back⟩ :: begun (now s) s.uhf.walk)
      { s with uhf := { s.uhf with bg := none } }), 4)
  | none => (s, 0)

/-- LO of a host activity (R208). -/
def runLo (r : UhfRun) (s : State) : Nat :=
  if r.tx then chFreq r.d.target s else if r.dual then dualLo s else chFreq r.d.target s - 500

/-- The activity starts at a time that its descriptor gives. -/
def atRun (r : UhfRun) : Bool := hasAt r.d && !bit 4 r.flags

/-- What a transmission's start and end are as far as they can be told now, and the radio's moves for it (R211, R212,
R217): with FLAGS.AT the radio is in Synth 10 us before; an immediate one starts 10 us after the lock, behind the reserved
windows that it would meet. Until the grant is there the radio waits in Synth. -/
def planTx (r : UhfRun) (s : State) : State :=
  let p := uhfFrom s
  let lo := runLo r s
  let same := s.uhf.lo == lo
  let cal := calOnWay p.1 lo r.temp s
  let w := begun (now s) s.uhf.walk
  let go := r.phase == .air
  let s1 := tuned lo r.temp cal s
  if hasAt r.d then
    let rest := walkOn p.2 0 (if p.1 = 4 then [(2, 3)] else if p.1 = 5 then [(4, 3)] else []) w
    let path := synthPath (if p.1 ≥ 4 then 3 else p.1) same cal
    let lock := r.start - usTicks 10
    let w1 := walkOn (lock - usTicks (pathUs path)) 0 path rest
    let w2 := if go then walkOn (r.start + txAir r.d s) 0 [(4, 3)] (walkOn lock 0 [(10, 5)] w1) else w1
    setUhfWalk w2 { s1 with uhf := { s1.uhf with run := some { r with stop := r.start + txAir r.d s } } }
  else
    let path := airPath true p.1 same cal
    let first := p.2 + usTicks (pathUs path)
    let start := clearOf (txAir r.d s) 40 s 8 first
    let stop := start + txAir r.d s
    let lockP := synthPath p.1 same cal
    let w1 := if go && start == first then walkOn p.2 0 path w
      else if go then walkOn (start - usTicks 10) 0 [(10, 5)] (walkOn p.2 0 lockP w)
      else walkOn p.2 0 lockP w
    let waits := start == first && !lockP.isEmpty
    let fl := if waits then Nat.lor r.flags (1 + 2 * b2n cal) else r.flags
    setUhfWalk (if go then walkOn stop 0 [(4, 3)] w1 else w1)
      { s1 with uhf := { s1.uhf with run := some { r with start := start, stop := stop, flags := fl } } }

/-- The same for a reception (R208, R211, R217, R221): it starts at AT or as soon as the radio is in RX, and behind a
reserved window that owns the receiver then. -/
def planRx (r : UhfRun) (s : State) : State :=
  let p := uhfFrom s
  let lo := runLo r s
  let same := s.uhf.lo == lo
  let cal := calOnWay p.1 lo r.temp s
  let path := airPath false p.1 same cal
  let w := begun (now s) s.uhf.walk
  let first := p.2 + usTicks (pathUs path)
  let want := if atRun r then max r.d.atTb first else first
  let start := match meetsWindow want want s with | some x => x.2 | none => want
  let stop := start + rxWindow r.d
  let fl := if start = want then r.flags else Nat.lor r.flags 32
  let go := r.phase == .air
  let w1 := if start = first && go then walkOn p.2 0 path w
    else if atRun r && start = want then
      let rest := walkOn p.2 0 (if p.1 = 4 then [(2, 3)] else if p.1 = 5 then [(4, 3)] else []) w
      let lockP := synthPath (if p.1 ≥ 4 then 3 else p.1) same cal
      let w2 := walkOn (start - usTicks (8 + pathUs lockP)) 0 lockP rest
      if go then walkOn (start - usTicks 8) 0 [(8, 4)] w2 else w2
    else if start = want then walkOn p.2 0 (synthPath p.1 same cal) w
    else ⟨start, start, 4⟩ :: w
  setUhfWalk (if go then walkOn stop 0 [(2, 3)] w1 else w1)
    (let s1 := tuned lo r.temp cal s
     { s1 with uhf := { s1.uhf with run := some { r with start := start, stop := stop, flags := fl, clear := start } } })

/-- The same for a UHF_CAL (R213): from Standby or Synth, clear of the reserved windows that are known. Its listening for
the reference waits for the grant (DEDUCED, log entry 111). -/
def planCal (r : UhfRun) (s : State) : State :=
  let p := uhfFrom s
  let k := calTicks r.d
  let path : List (Nat × Nat) := match p.1 with
    | 0 | 1 => [(50, 2)]
    | 4 => [(2, 3)]
    | 5 => [(4, 3)]
    | _ => []
  let first := p.2 + usTicks (pathUs path)
  let start := clearOf (k.1 + k.2.1 + k.2.2) 2 s 8 first
  let back := if p.1 ≤ 2 then 2 else 3
  let stop := start + k.1 + k.2.1 + k.2.2
  let listens := k.2.1 != 0
  let ok := !listens || coexOk 5 s
  let w1 := ⟨start, start, 6⟩ :: walkOn p.2 0 path (begun (now s) s.uhf.walk)
  let r1 := { r with
    phase := if ok then UhfPhase.air else .grant
    due := start + k.1
    req := if listens then start + k.1 else 2 ^ 64
    reqEnd := if ok then start + k.1 + k.2.1 else 2 ^ 64
    start := start
    stop := stop
    frames := back }
  setUhfWalk (if ok then ⟨start, stop, back⟩ :: w1 else w1) { s with uhf := { s.uhf with run := some r1 } }

/-- A host activity's course from now on. -/
def planRun (r : UhfRun) (s : State) : State :=
  if r.cal.isSome then planCal r s else if r.tx then planTx r s else planRx r s

/-- The host activity has not begun: nothing of it has been sent or received. -/
def runAhead (r : UhfRun) (s : State) : Bool := r.phase == .grant || now s < r.start

/-- The course of a host activity that has not begun is told again: the radio has been used otherwise. -/
def replan (s : State) : State :=
  match s.uhf.run with
  | some r => if runAhead r s then planRun r s else s
  | none => s

/-- A host activity before its start is told. -/
def freshUhf (w : UhfWait) (flags req : Nat) (s : State) : UhfRun :=
  { d := w.d, tx := w.tx, cal := w.cal, data := if w.tx then txFrame w.d w.data else [], temp := w.temp,
    phase := if w.cal.isSome || coexOk (if w.tx then 3 else 4) s then .air else .grant, due := 0, req := req,
    reqEnd := 2 ^ 64, start := w.d.atTb, stop := 0, flags := flags, dual := bit 2 (p8 w.d 7) && spanOk s, frames := 0,
    written := 0, crcFail := 0, dmaErr := false, paused := false, clear := 0 }

/-- A transmission at the radio (R211, R212, R217). -/
def startTx (w : UhfWait) (s : State) : State :=
  let d := w.d
  let lo := chFreq d.target s
  let b := if hasAt d && (match s.uhf.bg with | some x => decide (x.stop + usTicks 200 ≤ d.atTb) | none => false) then (s, 0)
    else abortBg s
  let p := uhfFrom b.1
  let cal := calOnWay p.1 lo w.temp b.1
  let lock := p.2 + usTicks (pathUs (synthPath p.1 (b.1.uhf.lo == lo) cal))
  if hasAt d ∧ (lock + usTicks 10 > d.atTb ∨ (meetsWindow d.atTb (d.atTb + txAir d s) s).isSome = true) then txLate d s
  else
    let lead := usTicks (70 + 40 * b2n cal) + coexLead s
    let req := if hasAt d then max (now s) (d.atTb - lead) else now s
    planTx { freshUhf w (b.2 + 2 * b2n w.calWait) req s with due := if hasAt d then d.atTb - usTicks 10 else lock } b.1

/-- A reception at the radio (R208, R211, R217, R221). -/
def startRx (w : UhfWait) (s : State) : State :=
  let d := w.d
  let span := bit 2 (p8 d 7) && !spanOk s
  let b := if hasAt d && !w.late && (match s.uhf.bg with | some x => decide (x.stop + usTicks 200 ≤ d.atTb) | none => false)
    then (s, 0) else abortBg s
  let s1 := if span then setFld UHF_STATUS.SPAN_ERR 1 b.1 else b.1
  let req := if hasAt d && !w.late then max (now s) (d.atTb - usTicks 68 - coexLead s) else now s
  planRx (freshUhf w (8 * b2n span + 16 * b2n w.late) req s) s1

/-- Held writes of the UHF_ set-up take effect at the next activity (R223). -/
def takeUhfSetup (s : State) : State := if radioBusy s then s else applyHeld 0x1408 0x1428 s

/-- Starts waiting host activities until one holds the radio (R211); held set-up writes take effect first (R223). -/
def startNext : List UhfWait → State → State
  | [], s => { s with uhf := { s.uhf with queue := [] } }
  | w :: ws, s =>
    if s.uhf.run.isSome then { s with uhf := { s.uhf with queue := w :: ws } }
    else
      let s0 := takeUhfSetup s
      startNext ws (if w.cal.isSome then planCal (freshUhf w 0 (now s0) s0) (abortBg s0).1
        else if w.tx then startTx w s0 else startRx w s0)

/-- Starts what waits; with nothing left to do the radio leaves RX or TX. -/
def runUhfQueue (s : State) : State :=
  let s1 := startNext s.uhf.queue { s with uhf := { s.uhf with queue := [] } }
  if s1.uhf.run.isNone && !s1.uhf.window then uhfRest s1 else s1

/-- A UHF_CAL is running or waits before it: a transmission waits for it (R212). -/
def calAhead (s : State) : Bool :=
  (match s.uhf.run with | some r => r.cal.isSome | none => false) || s.uhf.queue.any (fun w => w.cal.isSome)

/-- A host activity reaches the radio, behind those before it (R211). One with FLAGS.AT that comes too late for a UHF_CAL
in progress is told so at once (R212). -/
def enterUhf (w : UhfWait) (s : State) : State :=
  let late : Bool := match s.uhf.run with
    | some r => w.tx && hasAt w.d && r.cal.isSome && decide (w.d.atTb < r.stop + usTicks 10)
    | none => false
  if late then txLate w.d s
  else runUhfQueue { s with uhf := { s.uhf with
    queue := s.uhf.queue ++ [{ w with late := hasAt w.d && decide (w.d.atTb < now s), calWait := w.tx && calAhead s }] } }

/-- The end of a UHF_CAL whose time has come (R213, R222). -/
def settleUhfCal (s : State) : State :=
  match s.uhf.run with
  | some r =>
    match r.cal with
    | some m =>
      if r.phase == .air && r.stop ≤ now s then runUhfQueue (finishUhfCal m r.d (endRun r.stop s)) else s
    | none => s
  | none => s

/-- A transmission ends and its descriptor completes (R220). -/
def txEnd (s : State) : State :=
  match s.uhf.run with
  | some r =>
    onlyIf (r.tx && r.phase == .air && r.stop ≤ now s) (fun s =>
      let s1 := complete r.d stOk (txResult r s) 0 s
      runUhfQueue (endRun r.stop { s1 with uhf := { s1.uhf with sent := r.data } })) s
  | none => s

/-- A reception ends and its descriptor completes (R221). -/
def finishRx (r : UhfRun) (s : State) : State :=
  let miss := sat 8 (r.frames - r.written)
  let st := if r.dmaErr then stBadAddr else if r.frames > 0 then stOk else stNoResponse
  runUhfQueue (endRun (now s) (complete r.d st (rxResult r s) miss s))

/-- The activity is a UHF_RX. -/
def isRx (r : UhfRun) : Bool := !r.tx && r.cal.isNone

/-- MAXFRAMES has been reached. -/
def rxFull (r : UhfRun) : Bool := p8 r.d 4 != 0 && r.frames ≥ p8 r.d 4

/-- The end of a reception whose window has elapsed or whose MAXFRAMES has been reached (R221). -/
def rxEnd (s : State) : State :=
  match s.uhf.run with
  | some r =>
    onlyIf (isRx r && r.phase == .air && r.start ≤ now s && (r.stop ≤ now s || rxFull r))
      (finishRx { r with flags := r.flags + 4 * b2n (rxFull r) }) s
  | none => s

/-- The 272-byte record of a frame, and whether its CRC was checked and failed (R221, Table 09.5). -/
def rxRecord (d : Desc) (f : UhfFrame) : Bytes × Bool :=
  let lb := bit 1 (p8 d 7)
  let full := if lb then byteAt 0 f.bytes else p8 d 5
  let len := min full (p8 d 5)
  let body := f.bytes.take (b2n lb + full)
  let crc := bit 0 (p8 d 7)
  let good := beNat (slice (b2n lb + full) 2 f.bytes) == crc16 body
  (leBytes 8 f.tb ++ [byteOf f.ch, byteOf (encSigned 8 f.rssi)] ++ leBytes 2 (encSigned 16 f.fofs)
    ++ [byteOf len, byteOf (b2n (crc && good) + 2 * b2n crc + 4 * b2n (full > p8 d 5)), 0, 0]
    ++ fit 256 (slice (b2n lb) len f.bytes), crc && !good)

/-- The frame is received: its sync lies inside the reception and after any pause, on a profile of it, and its sync and
RSSI are good enough (R218, R221). -/
def rxAccepts (r : UhfRun) (f : UhfFrame) (s : State) : Bool :=
  isRx r && r.phase == .air && !r.paused && !rxFull r && r.clear ≤ f.tb && f.tb ≤ r.stop && f.tb ≤ now s
    && (f.ch == r.d.target || (r.dual && f.ch ≤ 1)) && f.syncErr ≤ fld UHF_RXCFG.SYNC_ERR s
    && decide (f.rssi ≥ signed 8 (fld UHF_RXCFG.RSSI_MIN s))

/-- A frame at the reception in progress (R221). -/
def rxFrame (f : UhfFrame) (s : State) : State :=
  match s.uhf.run with
  | some r =>
    onlyIf (rxAccepts r f s) (fun s =>
      let x := rxRecord r.d f
      let a := r.d.dstAddr + 272 * r.written
      let room := 272 * r.written + 272 ≤ r.d.len
      let bad := room && dmaBlocked r.d a 272 s
      let r1 := { r with
        frames := sat 16 (r.frames + 1)
        crcFail := r.crcFail + b2n x.2
        dmaErr := r.dmaErr || bad
        written := r.written + b2n (room && !bad) }
      let s1 := if room && !bad then dmaWrite r.d a x.1 s else if bad && s.hif.busMaster then setFault HIF_FAULT.DATA_DMA s
        else s
      { s1 with uhf := { s1.uhf with run := some r1 } }) s
  | none => s

/-! ## Windows and idleness -/

/-- What becomes of the host activity when a reserved window's lead begins (R211): a UHF_RX in progress ends with
PREEMPTED, a UHF_CAL that waits for its grant begins again after the window, and one that has not begun waits on. -/
def yieldRun (s : State) : State :=
  match s.uhf.run with
  | some r =>
    if isRx r && r.phase == .air && r.start ≤ now s then finishRx { r with flags := r.flags + 1 } s
    else if r.cal.isSome && r.phase == .grant then
      { s with uhf := { s.uhf with
        run := none
        queue := ⟨r.d, [], false, r.cal, r.temp, false, false⟩ :: s.uhf.queue } }
    else s
  | none => s

/-- The radio leaves Sleep for the next reserved window and goes to RX on both channels (R210, R211). -/
def prepareWindow (temp : Int) (s : State) : State :=
  match s.uhf.windows.find? (fun w => (owned w).1 ≤ now s && now s ≤ w.2) with
  | none => s
  | some _ =>
    let s1 := (abortBg (takeUhfSetup s)).1
    let s2 := yieldRun { s1 with uhf := { s1.uhf with window := true } }
    let s3 := if spanOk s2 then s2 else setFld UHF_STATUS.SPAN_ERR 1 s2
    let p := uhfFrom s3
    let lo := dualLo s3
    let cal := calOnWay p.1 lo temp s3
    replan (setUhfWalk (walkOn p.2 0 (airPath false p.1 (s3.uhf.lo == lo) cal) (begun (now s3) s3.uhf.walk))
      (tuned lo temp cal s3))

/-- Windows reserved for a poll (R210); an AT transmission that one of them meets is late, and a reception that one of
them meets at its start is deferred (R211, R212, R221). -/
def reserveWindows (ws : List (Nat × Nat)) (s : State) : State :=
  let s1 := { s with uhf := { s.uhf with windows := s.uhf.windows ++ ws } }
  match s1.uhf.run with
  | some r =>
    if r.tx && hasAt r.d && decide (r.start > now s1) && (meetsWindow r.start (r.start + txAir r.d s1) s1).isSome then
      runUhfQueue (endRun (now s1) (txLate r.d s1))
    else if runAhead r s1 && r.cal.isNone then planRun r s1
    else s1
  | none => s1

/-- The reserved windows are gone: closed, or their poll has ended. -/
def dropWindows (keep : Nat × Nat → Bool) (s : State) : State :=
  let s1 := { s with uhf := { s.uhf with windows := s.uhf.windows.filter keep, window := false, lastEnd := now s } }
  match s1.uhf.run with
  | some r => if runAhead r s1 then planRun r s1 else s1
  | none => runUhfQueue s1

/-- No activity of the radio is due within `n` ticks: a host activity that runs or waits, or the lead of a reserved
window (R209, R214). -/
def uhfFree (n : Nat) (s : State) : Bool :=
  !s.uhf.window && (meetsWindow (now s) (now s + n) s).isNone &&
    (match s.uhf.run with
     | some r => atRun r && r.cal.isNone && decide (now s + n < r.start)
     | none => s.uhf.queue.isEmpty)

/-- The radio returns to Sleep (R209); an activity with FLAGS.AT still to come is planned again. -/
def uhfSleep (s : State) : State :=
  let p := uhfFrom s
  let path : List (Nat × Nat) := match p.1 with
    | 4 => [(2, 3), (1, 2), (1, 1)]
    | 5 => [(4, 3), (1, 2), (1, 1)]
    | 3 => [(1, 2), (1, 1)]
    | 2 => [(1, 1)]
    | _ => []
  replan (setUhfWalk (walkOn p.2 0 path (begun (now s) s.uhf.walk)) s)

/-- Conditions for a background calibration of the radio (R214): in Standby or Synth, nothing due within 1 ms, no
reserved window pending. -/
def uhfIdle (s : State) : Bool :=
  (uhfState s == 2 || uhfState s == 3) && uhfFree (msTicks 1) s && s.uhf.windows.isEmpty && s.uhf.bg.isNone

/-- A background run is due: every BG_PERIOD, or on a move of more than 10 degrees (R214). -/
def bgDue (at0 period : Nat) (t0 temp : Int) (s : State) : Bool :=
  at0 + secTicks (10 * period) ≤ now s || decide (temp - t0 > 10) || decide (t0 - temp > 10)

/-- A background calibration starts: IMAGE for both profiles and DCOFS, 700 us, whose results hold from its end (R213,
R214). -/
def startUhfBg (irr dc : Nat) (temp : Int) (s : State) : State :=
  let stop := now s + usTicks 700
  let back := uhfState s
  replan (setUhfWalk (⟨now s, stop, back⟩ :: ⟨now s, now s, 6⟩ :: begun (now s) s.uhf.walk)
    { s with uhf := { s.uhf with bg := some ⟨stop, back, irr, dc, temp⟩ } })

/-! ## The grant -/

/-- The UHF host activity when the grant rises (R217, R218): it starts, or its reception resumes. -/
def uhfGranted (s : State) : State :=
  match s.uhf.run with
  | some r =>
    match r.cal with
    | some _ =>
      if r.phase == .grant then
        let k := calTicks r.d
        let stop := max r.due (now s) + k.2.1 + k.2.2
        setUhfWalk (⟨now s, stop, r.frames⟩ :: s.uhf.walk) { s with uhf := { s.uhf with
          run := some { r with phase := .air, stop := stop, reqEnd := max r.due (now s) + k.2.1 } } }
      else s
    | none =>
      if r.phase == .grant then planRun { r with phase := .air } s
      else if r.paused then
        setUhfWalk (walkOn (now s) 0 [(8, 4)] (begun (now s) s.uhf.walk)) { s with uhf := { s.uhf with
          run := some { r with paused := false, clear := now s } } }
      else s
  | none => s

/-- The UHF host activity when its wait for the grant has lasted too long (R217). -/
def uhfDenied (s : State) : State :=
  match s.uhf.run with
  | some r =>
    let limit := if r.tx && hasAt r.d then r.start - usTicks 10 else r.req + coexTimeout s
    onlyIf (r.phase == .grant && limit ≤ now s) (fun s =>
      runUhfQueue (endRun (now s) (fail r.d stCoexDenied 0 (countDenied s)))) s
  | none => s

/-- The UHF host activity when the grant falls (R218): one that has not begun waits again; a transmission stops, and a
reception stops until the grant is back. -/
def uhfWithdrawn (s : State) : State :=
  match s.uhf.run with
  | some r =>
    if !coexNeed (runClass r) s || !coexEn s || r.phase != .air then s
    else if r.cal.isSome then
      (if now s < r.due && decide (r.req < 2 ^ 64) then
        setUhfWalk (begun (now s) s.uhf.walk) { s with uhf := { s.uhf with run := some { r with phase := .grant, reqEnd := 2 ^ 64 } } }
       else s)
    else if now s < r.start then planRun { r with phase := .grant } s
    else if r.tx then
      let s1 := complete r.d stCoexAbort (txResult r s) 0 (countAbort s)
      runUhfQueue (endRun (now s) (setUhfWalk (walkOn (now s) 0 [(1, 3)] (begun (now s) s1.uhf.walk)) s1))
    else
      setUhfWalk (walkOn (now s) 0 [(1, 3)] (begun (now s) s.uhf.walk)) { s with uhf := { s.uhf with
        run := some { r with paused := true, flags := Nat.lor r.flags 2 } } }
  | none => s

end Sys2Proof.Machine
end

