-- ==== Sys2Proof/Machine/UwbOps.lean ====
section
/-! DEFINITION. Machine/UwbOps.lean: the UWB radio: ports, moves, pre-warm, exchanges, UWB_RANGE, calibration (R224 to
R245), and the grant for both radios (R215 to R218). -/
namespace Sys2Proof.Machine

/-! ## Ports -/

/-- The port is retired (R179). -/
def portRetired (p : Nat) (s : State) : Bool := leafRetired (132 + p) s

/-- A port is usable: enabled, not retired, not in pinfold (R226). -/
def portUsable (p : Nat) (s : State) : Bool :=
  p < uwbPorts s.part && flag (UWB_PORTn_CFG.EN p) s && !portRetired p s && !leafPinned s.fold.live (132 + p) s

/-- PARTNER of a port. -/
def partnerOf (p : Nat) (s : State) : Nat := fld (UWB_PORTn_CFG.PARTNER p) s

/-- Chain B can receive on the port's PARTNER (R226). -/
def partnerOk (p : Nat) (s : State) : Bool := partnerOf p s != p && portUsable (partnerOf p s) s

/-- The port a poll of `node` ranges from (R227). -/
def pollPort (t : Tree) (node : Nat) (s : State) : Option Nat :=
  let ps := ((t.leaves node).filter (· ≥ 132)).map (· - 132)
  if ps.isEmpty then
    (if fld UWB_CTL.DEF_PORT s < 4 && portUsable (fld UWB_CTL.DEF_PORT s) s then some (fld UWB_CTL.DEF_PORT s) else none)
  else ps.find? (fun p => portUsable p s)

/-- Ports of a UWB opcode's TARGET: a leaf itself, or the enabled, unretired ports of a fold (R242, R243). -/
def rangePorts (node : Nat) (s : State) : List Nat :=
  match leafIndex node with
  | some i => [i - 132]
  | none => (((s.fold.live.leaves node).filter (· ≥ 132)).map (· - 132)).filter
      (fun p => flag (UWB_PORTn_CFG.EN p) s && !portRetired p s)

/-- Channel of UWB_CTL. -/
def uwbChan (s : State) : Nat := if flag UWB_CTL.CHANNEL s then 9 else 5

/-- A CHANNEL parameter (Table 10.8). -/
def chanPar (c : Nat) (s : State) : Nat := if c = 0 then uwbChan s else c

/-- TXD of a port and channel. -/
def txd (p c : Nat) (s : State) : Nat := fld (if c = 9 then UWB_PORTn_DLY9.TXD p else UWB_PORTn_DLY5.TXD p) s
/-- RXD of a port and channel. -/
def rxd (p c : Nat) (s : State) : Nat := fld (if c = 9 then UWB_PORTn_DLY9.RXD p else UWB_PORTn_DLY5.RXD p) s
/-- PHS of a port and channel. -/
def phsOf (p c : Nat) (s : State) : Int :=
  signed 16 (fld (if c = 9 then UWB_PORTn_PHS.PH9 p else UWB_PORTn_PHS.PH5 p) s)

/-! ## Radio states -/

/-- A VCO calibration is due for a channel (Table 10.2). -/
def uwbVcoDue (c : Nat) (temp : Int) (s : State) : Bool :=
  let last := signed 8 (fld UWB_CAL_STAT.CAL_TEMP s)
  !s.uwb.cald.contains c || decide (temp - last > 10) || decide (last - temp > 10)

/-- The way to Synth from state `st` (Table 10.2): `same` when the synthesiser is on the channel already, `cal` with a VCO
calibration. -/
def uwbPath (st : Nat) (same cal : Bool) : List (Nat × Nat) :=
  match st with
  | 0 | 1 => [(120, 2), (45 + 30 * b2n cal, 3)]
  | 3 | 4 | 5 => if same then [] else [(45 + 30 * b2n cal, 3)]
  | _ => [(45 + 30 * b2n cal, 3)]

/-- Where the radio stands for a new activity: its state, and from when. -/
def uwbFrom (s : State) : Nat × Nat :=
  let p := standing (now s) s.uwb.walk
  (p.2, max p.1 (now s))

/-- The radio's way to Synth on channel `c` from where it stands. -/
def uwbWay (c : Nat) (temp : Int) (s : State) : List (Nat × Nat) :=
  uwbPath (uwbFrom s).1 (s.uwb.chan == c) (uwbVcoDue c temp s)

/-- TIMEBASE at which the radio is in Synth on channel `c` (Table 10.2). -/
def uwbReady (c : Nat) (temp : Int) (s : State) : Nat := (uwbFrom s).2 + usTicks (pathUs (uwbWay c temp s))

/-- A VCO calibration lies on that way. -/
def uwbCalWay (c : Nat) (temp : Int) (s : State) : Bool := uwbVcoDue c temp s && !(uwbWay c temp s).isEmpty

/-- The radio goes to Synth on channel `c`, to be there at `by_` at the latest that its way allows. -/
def uwbTune (c by_ : Nat) (temp : Int) (s : State) : State :=
  let way := uwbWay c temp s
  let go := max (uwbFrom s).2 (by_ - usTicks (pathUs way))
  let s1 := setUwbWalk (walkOn go 0 way (begun (now s) s.uwb.walk)) { s with uwb := { s.uwb with chan := c } }
  if uwbCalWay c temp s then
    setFld UWB_CAL_STAT.CAL_TEMP (encSigned 8 temp) { s1 with uwb := { s1.uwb with cald := c :: s1.uwb.cald } }
  else s1

/-- Aborts a background calibration; the record flag says so (R231). -/
def uwbAbortBg (s : State) : State × Nat :=
  match s.uwb.bg with
  | some b =>
    (setFld UWB_STATUS.BG_ABORT 1 (setUwbWalk (⟨now s, now s, b.back⟩ :: begun (now s) s.uwb.walk)
      { s with uwb := { s.uwb with bg := none } }), 64)
  | none => (s, 0)

/-- KEEP_UWB is in force (R87); without effect on the part without UWB (Table 04.13). -/
def keepUwb (s : State) : Bool := bit 1 (fld PWR_HINT_KEEP.KEEP s) && s.part != .blv8032n

/-- The radio goes to its rest state: Standby with KEEP_UWB, else Sleep (R87, R230). -/
def uwbToRest (s : State) : State :=
  let p := uwbFrom s
  let down : List (Nat × Nat) := if p.1 ≥ 3 then [(1, 2)] else []
  let path : List (Nat × Nat) :=
    if keepUwb s then (if p.1 = 1 then [(120, 2)] else down) else if p.1 ≥ 2 then down ++ [(1, 1)] else []
  setUwbWalk (walkOn p.2 0 path (begun (now s) s.uwb.walk)) s

/-- KEEP_UWB has changed: a radio at rest goes to Standby with it, and to Sleep without it (R87, R230). -/
def keepStandby (s : State) : State :=
  if islandOn .uwb s && (uwbFrom s).1 ≤ 2 && s.uwb.run.isNone && s.uwb.bg.isNone && s.uwb.exch.isEmpty && !s.uwb.hold then uwbToRest s
  else s

/-- The end of an exchange: the radio leaves RX or TX for Synth (Table 10.2). -/
def uwbOffAir (x : Exch) (s : State) : State :=
  if x.start ≤ now s then
    setUwbWalk (walkOn (now s) 0 [(1, 3)] (⟨now s, now s, uwbState s⟩ :: begun (now s) s.uwb.walk)) s
  else s

/-! ## Exchanges: keys, frames and results -/

/-- V of the next frame: the low-order 32 bits count (R233). -/
def nextV (v : Nat) : Nat := v / 2 ^ 32 * 2 ^ 32 + (v + 1) % 2 ^ 32

/-- K(i) of a ranging session under key `k` with a label and a context (R200, R233). -/
def sessionKey (k label ctx : Bytes) (i : Nat) : Bytes :=
  cmac k ([byteOf i] ++ label ++ [0] ++ ctx ++ beBytes 2 256)

/-- Label of an Obane session (R200). -/
def obaneLabel : Bytes := [0x4F, 0x42, 0x53, 0x54]
/-- Label of a host session (R233). -/
def hostLabel : Bytes := [0x4F, 0x42, 0x53, 0x48]

/-- MIC of an SP1 frame (Table 10.4). -/
def frameMic (key : Bytes) (v : Nat) (psdu : Bytes) : Bytes := (cmac key ([3] ++ beBytes 16 v ++ slice 0 14 psdu)).take 4

/-- Da: the device's reply, 350.0 us in u (R235). -/
def uwbDa : Int := 22364160

/-- Ra from the raw round time: antenna-referred (R225, R238). -/
def roundRa (e : Exch) (s : State) : Int := (e.ra : Int) - (txd e.port e.chan s : Int) - (rxd e.port e.chan s : Int)

/-- RANGE_MM of a time of flight of `n / d` u, rounded to the nearest, and the NEG flag (R238). -/
def rangeMm (n d : Int) : Nat × Nat :=
  if n < 0 then (0, 8) else (sat 32 ((2 * n * 299792458 + d * 63897600) / (2 * d * 63897600)).toNat, 0)

/-- DS-TWR (R238). -/
def dsRange (ra db rb : Int) : Nat × Nat := rangeMm (ra * rb - uwbDa * db) (ra + rb + uwbDa + db)

/-- SS-TWR, with epsilon in 0.01 ppm (R238). -/
def ssRange (ra db eps : Int) : Nat × Nat := rangeMm (ra * 100000000 - db * (100000000 - eps)) 200000000

/-- A phase difference wrapped into one turn (R239). -/
def wrapPhase (x : Int) : Int := (x + 18000) % 36000 - 18000

/-- Not measured (R239). -/
def noAngle : Nat := 0x8000

/-- AOA of a phase difference, as a 16-bit code; 0x8000 with SPACING 0 (R239). -/
def aoaOf (pdoa : Int) (c spacing : Nat) : Nat :=
  if spacing = 0 then noAngle
  else
    let lam := if c = 9 then 37534 else 46196
    let q := 3600000 * spacing
    let a := asinCenti (min (lam * pdoa.natAbs) q) q
    encSigned 16 (if pdoa < 0 then -(a : Int) else (a : Int))

/-- The exchange ends with a status at TIMEBASE `e`; its outcome arrives at `a` (R240). -/
def endExch (st : Nat) (a : Nat) (x : Exch) : Exch := { x with phase := .done, status := st, due := a, pdoa := if st = 0 then x.pdoa else noAngle, aoa := if st = 0 then x.aoa else noAngle }

/-- The flock slot of the exchange's token; 0xFF for a host session (Table 16.2). -/
def exchSlot (x : Exch) (s : State) : Nat :=
  match x.answer, s.poll with
  | some i, some p => (p.answers[i]?.map (·.slot)).getD 0xFF
  | _, _ => 0xFF

/-- An STS failure: counted and recorded (R234). -/
def stsFailed (x : Exch) (stsq : Nat) (s : State) : State :=
  append 0x27 (exchSlot x s) (x.port + 256 * stsq)
    (setFld UWB_STATUS.STS_FAIL 1 (bump UWB_CNT1.STS_FAIL s))

/-- UWB_LASTn of a ranged exchange (Table 10.12). -/
def noteLast (x : Exch) (s : State) : State :=
  setFld (UWB_LASTn.STSQ x.port) x.stsq (setFld (UWB_LASTn.RANGE_CM x.port) (min (x.range / 10) 0xFFFFFE) s)

/-- Length of an exchange in ticks (Table 10.3). -/
def exchTicks (x : Exch) : Nat := usTicks (if x.ds then 1450 else 750)

/-- A frame's STS passes (R234). -/
def stsOk (stsq : Nat) (peak : Bool) (s : State) : Bool := peak && fld UWB_CTL.STSQ_MIN s ≤ stsq

/-- What a frame did to its exchange: the exchange, and whether the STS failed. -/
structure ExStep where
  /-- the exchange after it -/
  x : Exch
  /-- R234 failed -/
  bad : Bool

/-- The exchange ranges: range, angle and flags (R238, R239). -/
def ranged (r : Nat × Nat) (x : Exch) : Exch :=
  let fl := Nat.lor x.flags r.2 + b2n (x.pdoa != noAngle && !bit 0 x.flags) + 2 * b2n (x.aoa != noAngle && !bit 1 x.flags)
  endExch 0 (x.start + exchTicks x) { x with range := r.1, flags := fl }

/-- What the radio measures at the Response. -/
def noteReply (f : UwbReply) (x : Exch) (s : State) : Exch :=
  let ang : Option Int := if x.chainB then f.phase.map (fun p => wrapPhase (p - phsOf x.port x.chan s)) else none
  { x with
    ra := f.raw
    v := nextV x.v
    stsq := min f.stsq 100
    rssi := encSigned 8 f.rssi
    cfo := encSigned 32 f.cfo
    pdoa := match ang with | some p => encSigned 16 p | none => noAngle
    aoa := match ang with | some p => aoaOf p x.chan (fld (UWB_PORTn_CFG.SPACING x.port) s) | none => noAngle }

/-- A Response frame (R234, R235, R236). -/
def onReply (f : UwbReply) (x0 : Exch) (s : State) : ExStep :=
  let x := noteReply f x0 s
  if !stsOk f.stsq f.peakOk s then ⟨endExch stNoResponse (now s) { x with flags := Nat.lor x.flags 4 }, true⟩
  else if x.ds then ⟨{ x with phase := .final, v := nextV x.v }, false⟩
  else if !f.fcsOk || byteAt 0 f.psdu != 0x51 then ⟨endExch stNoResponse (now s) x, false⟩
  else if slice 14 4 f.psdu != frameMic x.key x0.v f.psdu then
    ⟨endExch stNoResponse (now s) { x with flags := Nat.lor x.flags 4 }, true⟩
  else ⟨ranged (ssRange (roundRa x s) (leAt 2 4 f.psdu) f.cfo) x, false⟩

/-- A Report frame (R234, R236). -/
def onReport (f : UwbReport) (x0 : Exch) (s : State) : ExStep :=
  let x := { x0 with v := nextV x0.v }
  if !stsOk f.stsq f.peakOk s then ⟨endExch stNoResponse (now s) { x with flags := Nat.lor x.flags 4 }, true⟩
  else if !f.fcsOk || byteAt 0 f.psdu != 0x52 then ⟨endExch stNoResponse (now s) x, false⟩
  else if slice 14 4 f.psdu != frameMic x.key x0.v f.psdu then
    ⟨endExch stNoResponse (now s) { x with flags := Nat.lor x.flags 4 }, true⟩
  else
    let y := if f.chainB then x else { x with pdoa := noAngle, aoa := noAngle }
    ⟨ranged (dsRange (roundRa y s) (leAt 2 4 f.psdu) (leAt 6 4 f.psdu)) y, false⟩

/-! ## UWB_RANGE and UWB_CAL at the radio -/

/-- TRIES. -/
def rangeTries (d : Desc) : Nat := max 1 (p8 d 3)

/-- Context of a host session: NONCE, PEER and 0xFF (R233). -/
def hostCtx (o : Nat) (d : Desc) : Bytes := (slice o 8 d.par).reverse ++ (slice (o + 8) 2 d.par).reverse ++ [0xFF]

/-- A port's record (Table 10.9). -/
def portRecord (p : Nat) (tries : Nat) (flagBits : Nat) (x : Exch) : Bytes :=
  leBytes 2 (0x90 + p) ++ [byteOf x.status, byteOf (Nat.lor flagBits x.flags)]
    ++ leBytes 4 (if x.status = 0 then x.range else 0xFFFFFFFF) ++ leBytes 2 x.pdoa ++ leBytes 2 x.aoa
    ++ [byteOf x.stsq, byteOf x.rssi, byteOf tries, 0] ++ leBytes 8 x.start ++ leBytes 4 x.cfo ++ leBytes 4 0

/-- The record with the shortest range. -/
def bestRecord (l : List Bytes) : Option Bytes :=
  (l.filter (fun r => byteAt 2 r = 0)).foldl (fun b r =>
    match b with
    | none => some r
    | some q => if leAt 4 4 r < leAt 4 4 q then some r else some q) none

/-- Result bytes of UWB_RANGE (Table 10.10); with no ranged port the angle fields say not measured. -/
def rangeResult (l : List Bytes) : Bytes :=
  [byteOf l.length, byteOf (l.countP (fun r => byteAt 2 r = 0))] ++
  (match bestRecord l with
   | some r => slice 0 2 r ++ slice 4 4 r ++ slice 8 4 r ++ slice 12 1 r ++ slice 3 1 r
   | none => leBytes 2 0xFFFF ++ leBytes 4 0xFFFFFFFF ++ leBytes 2 noAngle ++ leBytes 2 noAngle ++ [0, 0])

/-- The radio's run is over. -/
def endUwbRun (s : State) : State := { s with uwb := { s.uwb with run := none, cur := none, lastEnd := now s } }

/-- UWB_RANGE completes (R244). -/
def finishRange (r : UwbRun) (s : State) : State :=
  let st := if r.records.any (fun b => byteAt 2 b = 0) || r.records.isEmpty then stOk
    else if r.aborted then stCoexAbort else if r.denied then stCoexDenied else stNoResponse
  releaseSlots r.d (writeDst r.d (r.records.flatten.take r.d.len) (complete r.d st (rangeResult r.records) 0) (endUwbRun s))

/-- UWB_RANGE is too late (R231, R232). -/
def rangeLate (r : UwbRun) (s : State) : State :=
  let s1 := setFld UWB_STATUS.LATE 1 (bump UWB_CNT1.LATE s)
  releaseSlots r.d (fail r.d stTxLate 0 (endUwbRun s1))

/-- The first attempt of the descriptor: FLAGS.AT applies to it alone (R243). -/
def firstTry (r : UwbRun) : Bool := r.tries == 0 && r.done == 0

/-- The exchange of the next attempt (R231, R233, R243). -/
def newAttempt (r : UwbRun) (p start flags req : Nat) (s : State) : Exch :=
  { answer := none, ds := bit 0 (p8 r.d 0), allSp1 := bit 2 (p8 r.d 0), port := p,
    chainB := bit 1 (p8 r.d 0) && partnerOk p s, chan := chanPar (p8 r.d 1) s, xseq := r.tries, key := r.key, v := r.v,
    cls := 2, due := start, limit := none, req := req, phase := .waiting, start := start, flags := flags, ra := 0,
    stsq := 0, rssi := 0, pdoa := noAngle, aoa := noAngle, cfo := 0, status := stNoResponse, range := 0xFFFFFFFF }

/-- A host attempt with its grant there: its Poll goes on the air at `start` (R231). -/
def pollOnAir (x : Exch) (s : State) : State :=
  { s with uwb := { s.uwb with
    cur := some { x with phase := .poll, v := nextV ((s.uwb.run.map (·.v)).getD x.v) } } }

/-- Held writes of the UWB_ set-up take effect when none of the activities runs that hold them (R245). -/
def takeUwbSetup (busy : Bool) (s : State) : State := if busy then s else applyHeld 0x1600 0x1650 s

/-- Prepares the next attempt of the UWB_RANGE on port `p`, no sooner than `t` (R231, R232): with FLAGS.AT the radio is in
Synth 2 us before. -/
def prepareAttempt (r : UwbRun) (p t : Nat) (s : State) : State :=
  let s0 := takeUwbSetup (uwbBusy { s with uwb := { s.uwb with run := none } }) s
  let c := chanPar (p8 r.d 1) s0
  let at1 := hasAt r.d && firstTry r
  let b := if at1 && (match s0.uwb.bg with | some x => decide (x.stop + usTicks 200 ≤ r.d.atTb) | none => false) then (s0, 0)
    else uwbAbortBg s0
  let ready := uwbReady c r.temp b.1
  let cal := uwbCalWay c r.temp b.1
  if at1 ∧ ready + usTicks 2 > r.d.atTb then rangeLate r b.1
  else
    let waited := firstTry r && ready > max (now s) t
    let fl := b.2 + (if at1 || !waited then 0 else 16 + 32 * b2n cal)
    let start := if at1 then r.d.atTb else max ready t + usTicks 2
    let lead := usTicks (45 + 30 * b2n cal) + coexLead s0
    let x := newAttempt r p start fl (if at1 then max (now s) (start - usTicks 2 - lead) else max (now s) t) s0
    let s1 := uwbTune c (if at1 then start - usTicks 2 else 0) r.temp b.1
    let s2 := { s1 with uwb := { s1.uwb with run := some { r with tries := r.tries + 1 } } }
    if coexOk 2 s2 then pollOnAir x s2 else { s2 with uwb := { s2.uwb with cur := some x } }

/-- Ports that have been retired before their next attempt never transmit again (R228): a port attempted already ends with
what it has, another is no port of the descriptor any more (DEDUCED, log entry 113). -/
def passRetired (r : UwbRun) (s : State) : UwbRun :=
  let gone := r.ports.takeWhile (fun p => portRetired p s)
  if gone.isEmpty then r
  else
    { r with
      ports := r.ports.drop gone.length
      tries := 0
      done := r.done + b2n r.last.isSome
      flags := 0
      last := none
      records := r.records ++ (match r.last with | some x => [portRecord x.port r.tries r.flags x] | none => []) }

/-- Goes on with the UWB_RANGE in progress, no sooner than `t`; a pre-warm hold makes it wait (R232). A leaf TARGET retired
before its first Poll gives BAD_FOLD (R243). -/
def nextAttempt (t : Nat) (s : State) : State :=
  match s.uwb.run with
  | none => s
  | some r0 =>
    if s.uwb.hold then { s with uwb := { s.uwb with cur := none } }
    else
      let r := passRetired r0 s
      match r.ports with
      | [] =>
        if (leafIndex r.d.target).isSome && r.records.isEmpty then releaseSlots r.d (fail r.d stBadFold 4 (endUwbRun s))
        else finishRange r s
      | p :: _ => prepareAttempt r p t s

/-! ## UWB_CAL -/

/-- UWB_CAL makes exchanges with a reference responder: ANTDLY and PDOA (R241). -/
def calRefs (d : Desc) : Bool := p8 d 0 / 8 % 4 != 0

/-- COUNT of UWB_CAL. -/
def calCount (d : Desc) : Nat := if p8 d 4 = 0 then 64 else p8 d 4

/-- Ticks of one port's VCO, IMAGE and DCOFS, and of its exchanges (Table 10.6). -/
def uwbCalTicks (d : Desc) : Nat × Nat :=
  let k (i n : Nat) : Nat := if bit i (p8 d 0) then n else 0
  (usTicks (k 0 60 + k 1 250 + k 2 80), msTicks (k 3 (2 * calCount d) + k 4 (2 * calCount d)))

/-- Ticks of a UWB_CAL of `n` ports from its first exchange to its end. -/
def calRest (d : Desc) (n : Nat) : Nat := n * ((uwbCalTicks d).1 + (uwbCalTicks d).2) - (uwbCalTicks d).1

/-- A UWB_CAL begins: from Standby or Synth, at once (Table 10.2). Its exchanges, from the first on, need the grant (R217;
DEDUCED, log entry 112). -/
def startCal (w : UwbWait) (m : List UwbMeas) (slot : Nat) (key : Bytes) (v : Nat) (s : State) : State :=
  let d := w.d
  let ports := rangePorts d.target s
  let b := (uwbAbortBg s).1
  let p := uwbFrom b
  let go := p.2 + (if p.1 ≤ 1 then usTicks 120 else 0)
  let from_ := go + (uwbCalTicks d).1
  let stop := if ports.isEmpty then now s else from_ + calRest d ports.length
  let asks := calRefs d && !ports.isEmpty
  let ok := !asks || coexOk 5 b
  let w1 := ⟨go, go, 6⟩ :: walkOn p.2 0 (if p.1 ≤ 1 then [(120, 2)] else []) (begun (now s) b.uwb.walk)
  let r : UwbRun := { d := d, cal := some m, calFrom := from_, calStop := if ok then some stop else none, calAsks := asks,
                      slot := slot, key := key, v := v, ports := ports, tries := 0, done := 0, records := [], flags := 0,
                      last := none, aborted := false, denied := false, temp := w.temp }
  setUwbWalk (if ports.isEmpty then b.uwb.walk else if ok then ⟨go, stop, max 2 (min p.1 3)⟩ :: w1 else w1)
    { b with uwb := { b.uwb with run := some r } }

/-- Starts waiting descriptors until one lasts (R232). -/
def startRanges : List UwbWait → State → State
  | [], s => { s with uwb := { s.uwb with queue := [] } }
  | w :: ws, s =>
    if s.uwb.run.isSome || s.uwb.hold then { s with uwb := { s.uwb with queue := w :: ws } }
    else
      let d := w.d
      let cal := w.cal.isSome
      match keyFor (p16 d (if cal then 6 else 4)) 6 (· == 1) s with
      | none =>
        match w.cal with
        | some m =>
          if calRefs d then startRanges ws (fail d stBadHandle 38 s)
          else startRanges ws (startCal w m 0 [] 0 (takeUwbSetup (uwbBusy s) (takeUhfSetup s)))
        | none => startRanges ws (fail d stBadHandle 36 s)
      | some (n, x) =>
        let k := sessionKey x.key hostLabel (hostCtx (if cal then 8 else 6) d)
        let s1 := takeUhfSetup s
        match w.cal with
        | some m =>
          let s2 := takeUwbSetup (uwbBusy s1) s1
          startRanges ws (startCal w m n (k 1) (beNat (k 2)) (if calRefs d then holdSlot n d s2 else s2))
        | none =>
          let r : UwbRun := { d := d, cal := none, calFrom := 0, calStop := none, calAsks := false, slot := n, key := k 1,
                              v := beNat (k 2), ports := rangePorts d.target s, tries := 0, done := 0, records := [],
                              flags := 0, last := none, aborted := false, denied := false, temp := w.temp }
          startRanges ws (nextAttempt (now s) (holdSlot n d { s1 with uwb := { s1.uwb with run := some r } }))

/-- Starts what waits, or goes on with what a hold has stopped. -/
def runUwbQueue (s : State) : State :=
  let s1 := if (match s.uwb.run with | some r => r.cal.isNone | none => false) && s.uwb.cur.isNone then nextAttempt (now s) s
    else s
  startRanges s1.uwb.queue { s1 with uwb := { s1.uwb with queue := [] } }

/-- A UWB_RANGE or UWB_CAL reaches the radio, behind those before it (R232). -/
def enterUwb (w : UwbWait) (s : State) : State := runUwbQueue { s with uwb := { s.uwb with queue := s.uwb.queue ++ [w] } }

/-! ## Holds -/

/-- A UWB_RANGE attempt is on the air. -/
def hostOnAir (s : State) : Bool :=
  match s.uwb.cur with
  | some x => exchOnAir x && x.start ≤ now s
  | none => false

/-- A UWB_CAL runs: it is never aborted in favour of a transmission (R231). -/
def calRuns (s : State) : Bool := match s.uwb.run with | some r => r.cal.isSome | none => false

/-- The radio goes to Synth on UWB_CTL.CHANNEL and stays there (R230). Held writes take effect first (R223, R245). -/
def startHold (temp : Int) (s : State) : State :=
  let s0 := takeUwbSetup (uwbBusy { s with uwb := { s.uwb with run := none } }) (takeUhfSetup s)
  let s1 := uwbTune (uwbChan s0) 0 temp (uwbAbortBg s0).1
  { s1 with uwb := { s1.uwb with hold := true, cur := none } }

/-- An exchange of the poll is pending or running (R230). -/
def pollExchOpen (s : State) : Bool := s.uwb.exch.any (fun e => e.phase != .done)

/-- The hold ends when the last window of the poll has closed and no exchange is left (R230). -/
def endHold (s : State) : State :=
  if s.uwb.hold && s.uhf.windows.isEmpty && !pollExchOpen s then
    runUwbQueue (uwbToRest { s with uwb := { s.uwb with hold := false, lastEnd := now s } })
  else s

/-- An attempt that a hold stops before its Poll is not counted; FLAGS.AT applies again. -/
def dropAttempt (s : State) : State :=
  match s.uwb.run, s.uwb.cur with
  | some r, some _ => { s with uwb := { s.uwb with cur := none, run := some { r with tries := r.tries - 1 } } }
  | _, _ => s

/-- UWB_PREWARM (R21): once in each poll, from the start of its response window. A host exchange on the air and a UWB_CAL
end first (R231, R232). -/
def prewarm (temp : Int) (s : State) : State :=
  match s.poll with
  | some p =>
    onlyIf ((p.gateRange || (p.gateFf && (s.lf.run.map (·.ff)).getD false)) && !p.warmed && p.window.isSome && s.part != .blv8032n) (fun s =>
      let s1 := { s with poll := some { p with warmed := true } }
      if hostOnAir s1 || calRuns s1 then s1 else startHold temp (dropAttempt s1)) s
  | none => s

/-- A pre-warm request that waited takes effect (R232). -/
def lateWarm (temp : Int) (s : State) : State :=
  match s.poll with
  | some p => if p.warmed && !s.uwb.hold && (!s.uhf.windows.isEmpty || pollExchOpen s) then startHold temp s else s
  | none => s

/-! ## The end of a host attempt -/

/-- A host attempt has ended: another attempt, the next port, or the completion (R243, R244). -/
def attemptEnded (x : Exch) (s : State) : State :=
  match s.uwb.run with
  | none => s
  | some r =>
    let fl := Nat.lor r.flags (Nat.land x.flags 0x74)
    let r1 := { r with
      v := x.v
      flags := fl
      last := some x
      aborted := r.aborted || x.status == stCoexAbort
      denied := r.denied || x.status == stCoexDenied }
    let sc := if x.status = stCoexDenied then s else bump UWB_CNT0.EXCH s
    let s0 := uwbOffAir x (if x.status = 0 then noteLast x sc else sc)
    let fin := x.status = 0 ∨ r.tries ≥ rangeTries r.d
    let r2 := if fin then
        { r1 with
          ports := r.ports.drop 1
          tries := 0
          done := r.done + 1
          flags := 0
          last := none
          records := r.records ++ [portRecord x.port r.tries fl x] }
      else r1
    let s1 := lateWarm r.temp { s0 with uwb := { s0.uwb with run := some r2, cur := none, lastEnd := now s0 } }
    runUwbQueue (if r2.ports.isEmpty then finishRange r2 s1 else nextAttempt (x.due + usTicks 200) s1)

/-- Ports have been retired: an attempt that has not begun on one of them is given up (R228). -/
def stopRetired (s : State) : State :=
  match s.uwb.run, s.uwb.cur with
  | some _, some x =>
    if portRetired x.port s && now s < x.start then runUwbQueue (nextAttempt (now s) (dropAttempt s)) else s
  | _, _ => s

/-! ## Poll exchanges -/

/-- Replaces the poll's exchange of answer `i`. -/
def setExch (x : Exch) (s : State) : State :=
  { s with uwb := { s.uwb with exch := s.uwb.exch.map (fun e => if e.answer = x.answer then x else e) } }

/-- The exchange of a poll that has not ended and comes first. -/
def frontExch (s : State) : Option Exch := s.uwb.exch.find? (fun e => e.phase != .done)

/-- A poll's exchange has ended; its outcome is on its way (R240, R201). -/
def exchEnded (x : Exch) (s : State) : State :=
  let s1 := uwbOffAir x (if x.status = 0 then noteLast x s else s)
  endHold (setExch x { s1 with uwb := { s1.uwb with free := x.due, lastEnd := x.due } })

/-- The radio is in Synth on the exchange's channel, or on its way there. -/
def tunedFor (x : Exch) (s : State) : Bool := (uwbFrom s).1 == 3 && s.uwb.chan == x.chan

/-- The front exchange's radio settles first (R231): where no hold keeps it in Synth it goes there now. Without a
measurement its die temperature counts as unmoved. -/
def tuneExch (x : Exch) (s : State) : State :=
  if tunedFor x s then s else uwbTune x.chan 0 (signed 8 (fld UWB_CAL_STAT.CAL_TEMP s)) (uwbAbortBg s).1

/-- UWB_EXCHANGE_START (R201, R217, R231): the front exchange of the poll sends its Poll, or is given up when its
token no longer listens. -/
def startExch (s : State) : State :=
  match frontExch s with
  | some x =>
    onlyIf (x.phase == .waiting && max x.due s.uwb.free ≤ now s && coexOk x.cls s && !hostOnAir s && !calRuns s) (fun s =>
      let quiet := s.uhf.run.isNone && !s.uhf.window && s.uwb.run.isNone
      let s0 := takeUwbSetup (uwbBusy s) (if quiet then applyHeld 0x1408 0x1428 s else s)
      let s1 := tuneExch x s0
      let at0 := max (max x.due s.uwb.free) ((standing (now s1) s1.uwb.walk).1 + usTicks 2)
      if (match x.limit with | some l => decide (at0 > l) | none => false) then exchEnded (endExch stNoResponse (now s) x) s1
      else if at0 ≤ now s then
        setExch { x with phase := .poll, start := at0, v := nextV x.v } (bump UWB_CNT0.EXCH (uwbAbortBg s1).1)
      else setExch { x with due := at0 } s1) s
  | none => s

/-- A frame's outcome at an exchange, of a poll or of a UWB_RANGE. -/
def applyStep (st : ExStep) (stsq : Nat) (s : State) : State :=
  let s1 := if st.bad then stsFailed st.x stsq s else s
  let s2 := if st.x.phase == .done && st.x.status != 0 && !st.bad then bump UWB_CNT0.NORESP s1 else s1
  match st.x.answer with
  | some _ => if st.x.phase == .done then exchEnded st.x s2 else setExch st.x s2
  | none =>
    if st.x.phase == .done then attemptEnded st.x s2 else { s2 with uwb := { s2.uwb with cur := some st.x } }

/-- The reply's frame can end now: nominal start `us` after the Poll, with its tolerance and its length (R235). -/
def replyTime (us : Nat) (x : Exch) (s : State) : Bool :=
  x.start + usTicks us ≤ now s && now s ≤ x.start + usTicks (us + 210)

/-- A Response frame at the exchange on the air (R235). -/
def replyFrame (f : UwbReply) (s : State) : State :=
  match airExch s with
  | some x => onlyIf (x.phase == .poll && replyTime 350 x s) (fun s => applyStep (onReply f x s) f.stsq s) s
  | none => s

/-- A Report frame at the exchange on the air (R236). -/
def reportFrame (f : UwbReport) (s : State) : State :=
  match airExch s with
  | some x => onlyIf (x.phase == .final && replyTime 1050 x s) (fun s => applyStep (onReport f x s) f.stsq s) s
  | none => s

/-- No reply's preamble 10 us after its nominal start (R235). -/
def replyTimeout (s : State) : State :=
  match airExch s with
  | some x =>
    onlyIf (x.start + usTicks (if x.phase == .poll then 360 else 1060) ≤ now s) (fun s =>
      applyStep ⟨endExch stNoResponse (now s) { x with stsq := 0 }, false⟩ 0 s) s
  | none => s

/-! ## Idleness -/

/-- No activity of the radio is due within `n` ticks (R230, R241). -/
def uwbFree (n : Nat) (s : State) : Bool :=
  !s.uwb.hold && !pollExchOpen s && s.uhf.windows.isEmpty &&
    (match s.uwb.run, s.uwb.cur with
     | none, _ => s.uwb.queue.isEmpty
     | some r, some x => hasAt r.d && r.tries == 1 && r.done == 0 && decide (now s + n < x.start)
     | some _, none => false)

/-- The moves for a UWB_RANGE with FLAGS.AT that is still to come are told again. -/
def uwbReplan (s : State) : State :=
  match s.uwb.run, s.uwb.cur with
  | some r, some x => if now s < x.start then uwbTune x.chan (x.start - usTicks 2) r.temp s else s
  | _, _ => s

/-- A background calibration starts: IMAGE and DCOFS, 330 us, whose results hold from its end (R241). -/
def startUwbBg (irr : Nat) (temp : Int) (s : State) : State :=
  let stop := now s + usTicks 330
  let back := uwbState s
  uwbReplan (setUwbWalk (⟨now s, stop, back⟩ :: ⟨now s, now s, 6⟩ :: begun (now s) s.uwb.walk)
    { s with uwb := { s.uwb with bg := some ⟨stop, back, irr, 0, temp⟩ } })

/-! ## The results of UWB_CAL -/

/-- Registers of the stored UWB_ set-up (R245). -/
def uwbSetup : List Nat := [0x1600, 0x1608] ++ (List.range 16).map (fun i => 0x1610 + 4 * i)

/-- Commits the UWB_ set-up with the background calibration's result (R245). -/
def commitUwb (s : State) : State :=
  commitSetup recUwb UWB_CTL.VALID UWB_CTL.COMMIT_ERR (setupBytes uwbSetup s ++ [byteOf (fld UWB_CAL_STAT.IRR s)]) s

/-- TXD = RXD that ANTDLY finds (Table 10.6). -/
def antDly (d : Desc) (m : UwbMeas) : Nat :=
  (min 65535 ((2 * (m.tof * 299792458 - (p16 d 2 : Int) * 63897600) + 299792458) / 599584916)).toNat

/-- FLAGS bits 2 and 3 of a port's report: NO_REF and NO_PARTNER. -/
def calLack (d : Desc) (p : Nat) (m : UwbMeas) (s : State) : Nat :=
  4 * b2n (calRefs d && 2 * m.ranged < calCount d) + 8 * b2n (bit 4 (p8 d 0) && !partnerOk p s)

/-- Kinds completed on a port (DONE). -/
def calDone (d : Desc) (lack : Nat) : Nat :=
  p8 d 0 % 8 + 8 * b2n (bit 3 (p8 d 0) && !bit 2 lack) + 16 * b2n (bit 4 (p8 d 0) && lack == 0)

/-- A port's report (Table 10.7). -/
def calReport (d : Desc) (p : Nat) (m : UwbMeas) (flagBits : Nat) (s : State) : Bytes :=
  let lack := calLack d p m s
  let done := calDone d lack
  let dly := if bit 3 done then antDly d m else 0
  leBytes 2 (0x90 + p) ++ [byteOf done, byteOf (flagBits + lack)] ++ leBytes 2 dly ++ leBytes 2 dly
    ++ leBytes 2 (if bit 4 done then encSigned 16 (wrapPhase m.phase) else 0)
    ++ [byteOf (if bit 1 done then m.irr else 0), byteOf (if calRefs d then m.stsq else 0)]
    ++ leBytes 2 (if calRefs d then m.sd else 0) ++ [0, 0]

/-- Applies a port's results (R242). -/
def calApply (d : Desc) (p : Nat) (m : UwbMeas) (s : State) : State :=
  let done := calDone d (calLack d p m s)
  let c := chanPar (p8 d 1) s
  let s1 := if bit 1 done then setFld UWB_CAL_STAT.IRR m.irr s else s
  let s2 := if bit 3 done then
      setFld (if c = 9 then UWB_PORTn_DLY9.RXD p else UWB_PORTn_DLY5.RXD p) (antDly d m)
        (setFld (if c = 9 then UWB_PORTn_DLY9.TXD p else UWB_PORTn_DLY5.TXD p) (antDly d m) s1)
    else s1
  if bit 4 done then
    setFld (if c = 9 then UWB_PORTn_PHS.PH9 p else UWB_PORTn_PHS.PH5 p) (encSigned 16 (wrapPhase m.phase)) s2
  else s2

/-- A measurement that the caller left out: nothing ranged. -/
def noMeas : UwbMeas := ⟨0, 0, 0, 0, 0, 0⟩

/-- A UWB_CAL has run: its results apply together after the last port, with APPLY alone, and are stored with PERSIST
(R242). -/
def finishUwbCal (r : UwbRun) (m : List UwbMeas) (s : State) : State :=
  let d := r.d
  let ps := r.ports.zipIdx.map (fun x => (x.1, m.getD x.2 noMeas))
  let apply := bit 5 (p8 d 0)
  let s1 := if apply then ps.foldl (fun s x => calApply d x.1 x.2 s) s else s
  let s2 := if apply && bit 0 (p8 d 0) && !ps.isEmpty then
      setFld UWB_CAL_STAT.CAL_TEMP (encSigned 8 r.temp) { s1 with uwb := { s1.uwb with cald := [5, 9] } }
    else s1
  let persist := apply && bit 6 (p8 d 0)
  let s3 := if persist then commitUwb s2 else s2
  let fl := b2n apply + 2 * b2n (persist && recFails recUwb s)
  let reps := ps.map (fun x => calReport d x.1 x.2 fl s)
  releaseSlots d (writeDst d (reps.flatten.take d.len) (complete d stOk ((reps.headD []).take 14) 0) s3)

/-- The radio goes on after a UWB_CAL: a pre-warm that waited, the poll's exchanges, the descriptors behind it (R231). -/
def afterCal (r : UwbRun) (s : State) : State :=
  runUwbQueue (lateWarm r.temp { s with uwb := { s.uwb with free := max s.uwb.free (now s) } })

/-- The end of a UWB_CAL whose time has come (R241, R242). -/
def settleUwbCal (s : State) : State :=
  match s.uwb.run with
  | some r =>
    match r.cal, r.calStop with
    | some m, some e => if e ≤ now s then afterCal r (finishUwbCal r m (endUwbRun s)) else s
    | _, _ => s
  | none => s

/-- A UWB_CAL completes with `st` and changes nothing (R217, R218, R242). -/
def cutCal (r : UwbRun) (st : Nat) (s : State) : State :=
  let back := if uwbState s = 6 then 3 else uwbState s
  afterCal r (releaseSlots r.d (fail r.d st 0 (endUwbRun
    (setUwbWalk (⟨now s, now s, back⟩ :: begun (now s) s.uwb.walk) s))))

/-- A UWB_CAL at the rise of the grant: its exchanges begin, or will (R217). -/
def calGranted (s : State) : State :=
  match s.uwb.run with
  | some r =>
    if r.cal.isSome && r.calStop.isNone then
      let stop := max r.calFrom (now s) + calRest r.d r.ports.length
      setUwbWalk (⟨now s, stop, 3⟩ :: s.uwb.walk) { s with uwb := { s.uwb with run := some { r with calStop := some stop } } }
    else s
  | none => s

/-- A UWB_CAL that got no grant in time (R217). -/
def denyCal (s : State) : State :=
  match s.uwb.run with
  | some r =>
    if r.cal.isSome && r.calStop.isNone && r.calFrom + coexTimeout s ≤ now s then cutCal r stCoexDenied (countDenied s) else s
  | none => s

/-- A UWB_CAL at the fall of the grant: among its exchanges it is aborted, before them it waits (R218). -/
def calWithdrawn (s : State) : State :=
  match s.uwb.run with
  | some r =>
    if r.cal.isSome && r.calAsks && coexNeed 5 s then
      if r.calFrom ≤ now s then cutCal r stCoexAbort (countAbort s)
      else
        let go := max (now s) (r.calFrom - (uwbCalTicks r.d).1)
        setUwbWalk (⟨go, go, 6⟩ :: begun (now s) s.uwb.walk)
          { s with uwb := { s.uwb with run := some { r with calStop := none } } }
    else s
  | none => s

/-! ## The grant -/

/-- Exchanges that wait for the grant may start no sooner than now (R217). -/
def uwbGranted (s : State) : State :=
  let es := s.uwb.exch.map (fun (e : Exch) =>
    if e.phase == .waiting && coexNeed e.cls s then { e with due := max e.due (now s) } else e)
  let s1 := { s with uwb := { s.uwb with exch := es } }
  match s1.uwb.cur with
  | some x =>
    if x.phase == .waiting then
      let start := if x.due ≥ now s1 + usTicks 2 then x.due else now s1 + usTicks 2
      pollOnAir { x with due := start, start := start } s1
    else s1
  | none => s1

/-- The poll's window at the grant (R217, R218): it receives from the grant onward, or resumes. -/
def windowGranted (s : State) : State :=
  match s.poll with
  | some p =>
    if p.window.isSome && !p.denied then
      { s with poll := some { p with paused := false, rxFrom := if p.rxFrom > now s then now s else p.rxFrom } }
    else s
  | none => s

/-- Exchanges whose wait for the grant has lasted too long (R217). -/
def deniedExch (s : State) (e : Exch) : Bool :=
  e.phase == .waiting && !coexOk e.cls s &&
    min (e.req + coexTimeout s) ((e.limit.map (· + 1)).getD (e.req + coexTimeout s)) ≤ now s

/-- Skips the poll's exchanges that got no grant in time. -/
def denyExchs : Nat → State → State
  | 0, s => s
  | n + 1, s =>
    match s.uwb.exch.find? (deniedExch s) with
    | some x => denyExchs n (exchEnded (endExch stCoexDenied (now s) x) (countDenied s))
    | none => s

/-- The host attempt that got no grant in time (R217). -/
def denyAttempt (s : State) : State :=
  match s.uwb.cur, s.uwb.run with
  | some x, some r =>
    let limit := if hasAt r.d && r.tries == 1 && r.done == 0 then x.due - usTicks 10 else x.req + coexTimeout s
    if x.phase == .waiting && limit ≤ now s then attemptEnded (endExch stCoexDenied (now s) x) (countDenied s) else s
  | _, _ => s

/-- The poll's window that got no grant in time receives nothing (R217). -/
def denyWindow (s : State) : State :=
  match s.poll with
  | some p =>
    match p.window with
    | some w =>
      if p.rxFrom > now s && !p.denied && !coexOk 0 s && w - usTicks 150 - coexLead s + coexTimeout s ≤ now s then
        countDenied { s with poll := some { p with denied := true } }
      else s
    | none => s
  | none => s

/-- The UWB exchange on the air when the grant falls (R218). -/
def uwbWithdrawn (s : State) : State :=
  match airExch s with
  | some x =>
    if !coexNeed x.cls s || x.start > now s then s
    else
      let s1 := setFld UHF_STATUS.ABORT 1 (bump UHF_COEX_CNT.ABORT s)
      match x.answer with
      | some _ => exchEnded (endExch stCoexDenied (now s) x) s1
      | none => attemptEnded (endExch stCoexAbort (now s) x) s1
  | none => s

/-- A host attempt scheduled and not yet on the air waits for the grant again. -/
def holdAttempt (s : State) : State :=
  match s.uwb.cur with
  | some x =>
    if x.phase == .poll && x.start > now s && coexNeed x.cls s then
      { s with uwb := { s.uwb with cur := some { x with phase := .waiting, due := x.start } } }
    else s
  | none => s

/-- The poll's reception stops, and the frame in progress is dropped (R218). -/
def windowWithdrawn (s : State) : State :=
  match s.poll with
  | some p =>
    if p.window.isSome && coexNeed 0 s then { s with poll := some { p with paused := true, synced := [] } } else s
  | none => s

/-- The grant has fallen (R218): every activity that needs it and has it loses it. -/
def grantFalls (s : State) : State := windowWithdrawn (holdAttempt (uwbWithdrawn (calWithdrawn (uhfWithdrawn s))))

end Sys2Proof.Machine
end

