-- ==== Sys2Proof/Machine/FoldOps.lean ====
section
/-! DEFINITION. Machine/FoldOps.lean: the fold engine: its queue, waits and walk, and what its operations do at B (R168,
R171 to R180); the LF set-up's held writes and commit (R163). -/
namespace Sys2Proof.Machine

/-! ## Trees -/

/-- Leaves of two nodes' subtrees meet. -/
def Tree.meet (t : Tree) (a b : Nat) : Bool :=
  let l := t.leaves b
  (t.leaves a).any (fun i => l.contains i)

/-- Subtrees of two nodes overlap: they share a node (R175). -/
def Tree.overlap (t : Tree) (a b : Nat) : Bool :=
  a == b || t.meet a b ||
    (match foldIndex a, foldIndex b with
     | some f, some g => t.below f g || t.below g f
     | _, _ => false)

/-- T_fold of a subtree (R171); ADOPT walks d = 1 and m = 1 (R180). -/
def walkCycles (t : Tree) (d : Desc) : Nat :=
  if p8 d 0 = 5 then 24 else 16 + 6 * t.depth d.target + 2 * ceilDiv (t.nodeCount d.target) 8

/-- B of an operation whose walk starts now: the first tick at least 208 ns after the walk (R171). -/
def tickB (t : Tree) (d : Desc) (s : State) : Nat := now s + ceilDiv (walkCycles t d * 960 + 79872) 10000

/-- A validated copy becomes the live tree (R168). -/
def makeLive (s : State) : State :=
  match s.fold.pend with
  | none => s
  | some t =>
    let g := (fld FLD_GEN.GEN s + 1) % 65536
    append 0x42 0 g (setFld FLD_GEN.GEN g (setFld FLD_STATUS.PEND 0
      { s with fold := { s.fold with live := t, pend := none } }))

/-! ## Results -/

/-- Result bytes of FOLD_OP (Table 07.5). -/
def foldResult (t : Tree) (d : Desc) (done skipped b : Nat) (s : State) : Bytes :=
  let m := if p8 d 0 = 5 then 1 else t.nodeCount d.target
  [byteOf (p8 d 0), byteOf (if p8 d 0 = 5 then 1 else t.depth d.target)] ++ leBytes 2 m ++ leBytes 2 done
    ++ leBytes 2 skipped ++ leBytes 2 (fld FLD_GEN.GEN s) ++ leBytes 4 b

/-- A fold operation completes (R174). -/
def foldDone (d : Desc) (st : Nat) (res : Bytes) (det : Nat) (s : State) : State :=
  complete d st res det (bump FLD_CNT.OPS s)

/-! ## ADOPT's checks -/

/-- OLD of ADOPT. -/
def adoptOld (d : Desc) : Nat := p16 d 2

/-- Kind of a leaf index: 0 LF, 1 coil, 2 UWB (Table 07.7). -/
def leafKind (i : Nat) : Nat := if i < 128 then 0 else if i < 132 then 1 else 2

/-- The checks of R180 on the tree in use: status and DETAIL of the first that fails. -/
def adoptBad (t : Tree) (d : Desc) (s : State) : Option (Nat × Nat) :=
  match leafIndex (adoptOld d) with
  | none => some (stBadFold, 34)
  | some o =>
    if !leafPresent o s || !leafRetired o s || t.leafParent o == 255 ||
        (match leafIndex d.target with | some i => leafKind i != leafKind o | none => false) then some (stBadFold, 34)
    else
      match leafIndex d.target with
      | none => some (stBadFold, 4)
      | some i =>
        if leafRetired i s || i == o then some (stBadFold, 4)
        else
          let mine := (t.leafFolds i).filter (fun f => ownPin f s)
          if mine.any (fun f => !(t.leafFolds o).contains f) then some (stPinfold, 0) else none

/-! ## The queue -/

/-- An operation that others may wait for has not completed yet (R175). -/
def opActive (k : OpKey) (s : State) : Bool :=
  match k with
  | .lf no =>
    s.lf.queue.any (fun r => r.no == no) || s.lf.wait.any (fun w => w.1.no == no)
      || (s.lf.run.map (fun r => r.req.no == no)).getD false
  | .desc src no =>
    let me (d : Desc) : Bool := d.src == src && d.no == no
    (s.fold.op.map (fun o => me o.d)).getD false || s.fold.queue.any me || s.fold.wait.any (fun w => me w.d)
      || (s.uwb.run.map (fun r => me r.d)).getD false || s.uwb.queue.any (fun q => me q.d)

/-- Operations under way that touch a node of the subtree of `node` (R175). -/
def touching (t : Tree) (node : Nat) (s : State) : List OpKey :=
  let ofReq (r : LfReq) : List OpKey := if t.meet r.node node then [.lf r.no] else []
  let ofUwb (d : Desc) : List OpKey :=
    if (t.leaves d.target).any (fun i => 132 ≤ i && (t.leaves node).contains i) then [.desc d.src d.no] else []
  let ofDesc (d : Desc) : List OpKey := if t.overlap d.target node then [.desc d.src d.no] else []
  (s.lf.queue.map ofReq).flatten ++ (s.lf.wait.map (fun w => ofReq w.1)).flatten
    ++ (match s.lf.run with | some r => ofReq r.req | none => [])
    ++ (match s.uwb.run with | some r => ofUwb r.d | none => []) ++ (s.uwb.queue.map (fun q => ofUwb q.d)).flatten
    ++ (match s.fold.op with | some o => ofDesc o.d | none => []) ++ (s.fold.queue.map ofDesc).flatten
    ++ (s.fold.wait.map (fun w => ofDesc w.d)).flatten

/-- Starts the next fold operations until one walks (R171): the tree it uses is the live one (R168); a fold that an
apply has removed gives BAD_FOLD. -/
def startFolds : List Desc → State → State
  | [], s => { s with fold := { s.fold with queue := [] } }
  | d :: ds, s =>
    if s.fold.op.isSome then { s with fold := { s.fold with queue := d :: ds } }
    else
      let s1 := makeLive s
      let t := s1.fold.live
      if !nodeExists d.target s1 then startFolds ds (foldDone d stBadFold [] 4 s1)
      else
        match (if p8 d 0 = 5 then adoptBad t d s1 else none) with
        | some (st, det) => startFolds ds (foldDone d st [] det s1)
        | none => startFolds ds { s1 with fold := { s1.fold with op := some ⟨d, tickB t d s1, t⟩ } }

/-- Waits whose operations have all completed go on to their walk (R175). -/
def releaseWaits (s : State) : State :=
  let ws := s.fold.wait.map (fun w => { w with on := w.on.filter (fun k => opActive k s) })
  { s with fold := { s.fold with
    wait := ws.filter (fun w => !w.on.isEmpty)
    queue := s.fold.queue ++ (ws.filter (fun w => w.on.isEmpty)).map (·.d) } }

/-- The fold engine goes on as far as it can. -/
def settleFolds (s : State) : State :=
  if s.fold.wait.isEmpty && (s.fold.queue.isEmpty || s.fold.op.isSome) then s
  else
    let s1 := releaseWaits s
    startFolds s1.fold.queue { s1 with fold := { s1.fold with queue := [] } }

/-- A RESET that has not reached its B holds back an LF operation on its subtree that came after it (R178). -/
def heldByReset (r : LfReq) (s : State) : Bool :=
  let t := s.fold.live
  let isReset (d : Desc) : Bool := p8 d 0 == 3 && t.meet r.node d.target
  s.fold.wait.any (fun w => isReset w.d && !w.on.contains (.lf r.no)) || s.fold.queue.any isReset
    || (s.fold.op.map (fun o => isReset o.d)).getD false


/-! ## LF set-up words -/

/-- An LF operation runs (R163). -/
def lfRuns (s : State) : Bool := s.lf.run.isSome

/-- Writes a field of an LFE_ register (R163). -/
def lfeSet (f : Field) (v : Nat) (s : State) : State := holdWrite (lfRuns s) f.off (f.put v (regNow f.off s)) s

/-- Registers of the stored LFE_ set-up (R163). -/
def lfeSetup : List Nat :=
  [0x0800, 0x0808, 0x080C, 0x0810, 0x0814, 0x0818] ++ (List.range 128).map (fun n => 0x0C00 + 8 * n)

/-- Commits the LFE_ set-up, as it was last written (R163). -/
def commitLfe (s : State) : State :=
  commitSetup recLfe LFE_CTL.VALID LFE_CTL.COMMIT_ERR
    (setupBytes lfeSetup s) s

/-- The stored word of a register of the LFE_ set-up, or its reset value (R163, R178). -/
def storedLfe (off : Nat) (s : State) : Word :=
  match recRead recLfe s, lfeSetup.findIdx? (· = off) with
  | some b, some i => BitVec.ofNat 32 (leAt (4 * i) 4 b)
  | _, _ => regReset s.part off

/-- TRIM of a channel in Hz. -/
def trimOf (c : Nat) (s : State) : Int := signed 12 (fldNow (LFE_CHn_CFG.TRIM c) s)

/-- Clamped to -2000 to +2000 Hz. -/
def clampTrim (x : Int) : Int := max (-2000) (min 2000 x)

/-! ## BROADCAST -/

/-- VALUE. -/
def foldValue (d : Desc) : Int := signed 32 (p32 d 4)

/-- The FIELD applies to a leaf (Table 07.6). -/
def fieldApplies (field i : Nat) : Bool := i < 128 || field == 1

/-- Writes one leaf's field (R176). -/
def broadcastLeaf (field : Nat) (v : Int) (i : Nat) (s : State) : State :=
  if i < 128 then
    match field with
    | 1 => lfeSet (LFE_CHn_CFG.EN i) v.toNat s
    | 2 => lfeSet (LFE_CHn_CFG.NET i) v.toNat s
    | 3 => lfeSet (LFE_CHn_CFG.DUTY i) v.toNat s
    | 4 => lfeSet (LFE_CHn_CFG.TRIM i) (encSigned 12 v) s
    | _ => lfeSet (LFE_CHn_CFG.TRIM i) (encSigned 12 (clampTrim (trimOf i s + v))) s
  else if i < 132 then
    lfeSet LFE_COIL_CTL.EN
      (fldNow LFE_COIL_CTL.EN s - 2 ^ (i - 128) * b2n (bit (i - 128) (fldNow LFE_COIL_CTL.EN s)) + 2 ^ (i - 128) * v.toNat) s
  else
    let f := UWB_PORTn_CFG.EN (i - 132)
    holdWrite (uwbBusy s) f.off (f.put v.toNat (regNow f.off s)) s

/-- BROADCAST at B. -/
def broadcastAt (o : FoldOp) (s : State) : State :=
  let d := o.d
  let ls := o.tree.leaves d.target
  let mine := ls.filter (fun i => !leafRetired i s && fieldApplies (p8 d 2) i)
  let s1 := mine.foldl (fun s i => broadcastLeaf (p8 d 2) (foldValue d) i s) s
  let s2 := if p8 d 1 = 1 then commitLfe s1 else s1
  let bad := p8 d 1 = 1 ∧ recFails recLfe s = true
  foldDone d (if bad then stEcc else stOk) (foldResult o.tree d mine.length (ls.length - mine.length) o.b s2) 0 s2

/-! ## SNAPSHOT -/

/-- A leaf is in the frame map of the LF operation that runs (R177). -/
def leafBusy (i : Nat) (s : State) : Bool :=
  match s.lf.run with
  | some r => i < 128 && r.map.any (fun m => m.ch == i)
  | none => false

/-- EN of a leaf. -/
def leafEn (i : Nat) (s : State) : Bool :=
  if i < 128 then fldNow (LFE_CHn_CFG.EN i) s == 1
  else if i < 132 then bit (i - 128) (fldNow LFE_COIL_CTL.EN s)
  else fldNow (UWB_PORTn_CFG.EN (i - 132)) s == 1

/-- A leaf's record (Table 07.7): a value held under R163 shows as it was written (DESIGN CHOICE, log entry 104). -/
def leafRecord (t : Tree) (i level : Nat) (s : State) : Bytes :=
  let lf := i < 128
  let fl := b2n (leafEn i s) + 2 * b2n (lf && fldNow (LFE_CHn_CFG.NET i) s == 1) + 4 * b2n (leafRetired i s)
    + 8 * b2n (leafPinned t i s) + 16 * b2n (!leafPresent i s) + 32 * b2n (lf && flag (LFE_CHn_STAT.FF i) s)
    + 64 * b2n (leafBusy i s)
  let res := if lf then fld (LFE_CHn_STAT.RESULT i) s else if i < 132 then s.lf.coils.getD (i - 128) 0 else 0
  leBytes 2 (leafNode i) ++ [byteOf (leafKind i), byteOf level, byteOf fl, byteOf res]
    ++ (if lf then leBytes 2 (fld (LFE_CHn_STAT.FRES i) s) ++ [byteOf (fld (LFE_CHn_STAT.Q i) s),
          byteOf (fldNow (LFE_CHn_CFG.DUTY i) s)] ++ leBytes 2 (encSigned 16 (trimOf i s))
          ++ [byteOf (fldNow (LFE_CHn_CFG.POS i) s)]
        else List.replicate 7 0)
    ++ [byteOf (t.leafParent i), 0, 0]

/-- Direct members of a fold: leaves, then folds, ascending (R177). -/
def Tree.leafMembers (t : Tree) (f : Nat) : List Nat := (List.range 136).filter (fun i => t.leafParent i = f)
/-- Direct member folds, ascending. -/
def Tree.foldMembers (t : Tree) (f : Nat) : List Nat :=
  (List.range 255).filter (fun g => t.defined g && t.foldParent g == f)

/-- A fold's record (Table 07.7). -/
def foldRecord (t : Tree) (f level : Nat) (s : State) : Bytes :=
  leBytes 2 (0x100 + f) ++ [0x80, byteOf level,
      byteOf (8 * b2n (ownPin f s) + 16 * b2n (anyPin (t.foldFolds f) s)),
      byteOf ((t.leafMembers f).length + (t.foldMembers f).length)]
    ++ leBytes 2 (t.leaves (0x100 + f)).length ++ leBytes 2 (fld FLD_GEN.GEN s)
    ++ [0, 0, 0, byteOf (t.foldParent f), 0, 0]

/-- Records of a fold's subtree in preorder, at most `n` levels deep (R177). -/
def Tree.preorder (t : Tree) (s : State) : Nat → Nat → Nat → List Bytes
  | 0, _, _ => []
  | n + 1, f, level =>
    foldRecord t f level s :: (t.leafMembers f).map (fun i => leafRecord t i (level + 1) s)
      ++ ((t.foldMembers f).map (fun g => t.preorder s n g (level + 1))).flatten

/-- Records of a node's subtree (R177). -/
def snapshot (t : Tree) (node : Nat) (s : State) : List Bytes :=
  match leafIndex node, foldIndex node with
  | some i, _ => [leafRecord t i 0 s]
  | none, some f => t.preorder s 9 f 0
  | none, none => []

/-- SNAPSHOT at B. -/
def snapshotAt (o : FoldOp) (s : State) : State :=
  let d := o.d
  let recs := snapshot o.tree d.target s
  let w := min recs.length (d.len / 16)
  let s1 := bump FLD_CNT.OPS s
  writeDst d (recs.take w).flatten
    (complete d stOk (foldResult o.tree d w 0 o.b s) (sat 8 (recs.length - w))) s1

/-! ## RESET -/

/-- Clears one leaf's run-time state, and with CFG reloads its set-up (R178). The fault latch of a coil is its SHORT;
LFE_STATUS.COIL_FAULT clears with the last of them (DEDUCED, log entry 114). The LFE_ record holds no set-up of a UWB port,
so that CFG = 1 leaves it (DEDUCED, log entry 105). -/
def resetLeaf (cfg : Bool) (i : Nat) (s : State) : State :=
  if i < 128 then
    let s1 := setFld (LFE_CHn_STAT.FRES i) 0 (setFld (LFE_CHn_STAT.Q i) 0 (setFld (LFE_CHn_STAT.RESULT i) 0
      (setFld (LFE_CHn_STAT.FF i) 0 s)))
    if cfg then holdWrite (lfRuns s1) (LFE_CHn_CFG.reg i) (storedLfe (LFE_CHn_CFG.reg i) s1) s1 else s1
  else if i < 132 then
    let c := i - 128
    let l := s.lf.coils.set c 0
    let s0 := { s with lf := { s.lf with coils := l } }
    let s1 := if s.lf.coils.getD c 0 == 3 && !l.contains 3 then setFld LFE_STATUS.COIL_FAULT 0 s0 else s0
    if cfg then broadcastLeaf 1 (b2n (bit c (LFE_COIL_CTL.EN.of (storedLfe LFE_COIL_CTL.reg s1)))) i s1 else s1
  else regSet (UWB_LASTn.reg (i - 132)) (regReset s.part (UWB_LASTn.reg (i - 132))) s

/-- RESET at B. -/
def resetAt (o : FoldOp) (s : State) : State :=
  let d := o.d
  let ls := o.tree.leaves d.target
  let mine := ls.filter (fun i => !leafRetired i s)
  let s1 := mine.foldl (fun s i => resetLeaf (p8 d 1 = 1) i s) s
  foldDone d stOk (foldResult o.tree d mine.length (ls.length - mine.length) o.b s1) 0 s1

/-! ## The stored tree -/

/-- Content of the tree record (R169). -/
def treeBytes (t : Tree) (ret : List Bool) : Bytes :=
  t.lpar.map byteOf ++ t.fpar.map byteOf
    ++ leBytes 32 (packBits 255 (fun i => t.fdef.getD i false)) ++ leBytes 17 (packBits 136 (fun i => ret.getD i false))

/-- The tree of a record. -/
def parseTree (b : Bytes) : Tree :=
  { lpar := (List.range 136).map (fun i => byteAt i b)
    fpar := (List.range 255).map (fun i => byteAt (136 + i) b)
    fdef := (List.range 255).map (fun i => bit i (leAt 391 32 b)) }

/-- The retirement state of a record. -/
def parseRetired (b : Bytes) : List Bool := (List.range 136).map (fun i => bit i (leAt 423 17 b))

/-- Stores the live tree and the retirement state (R169). -/
def commitTree (s : State) : State × Bool :=
  let r := recStore recTree (treeBytes s.fold.live s.fold.retired) s
  if r.2 then (setFld FLD_CTL.COMMIT_ERR 1 r.1, true) else (setFld FLD_CTL.VALID 1 r.1, false)

/-- FLD_GEN increments. -/
def nextGen (s : State) : State := setFld FLD_GEN.GEN ((fld FLD_GEN.GEN s + 1) % 65536) s

/-! ## RETIRE and ADOPT -/

/-- RETIRE at B (R179). -/
def retireAt (o : FoldOp) (s : State) : State :=
  let d := o.d
  let restore := p8 d 1 = 1
  let ls := o.tree.leaves d.target
  let mine := ls.filter (fun i => leafRetired i s == restore)
  let ret := mine.foldl (fun l i => l.set i (!restore)) s.fold.retired
  let s1 := nextGen { s with fold := { s.fold with retired := ret } }
  let c := commitTree s1
  let s2 := append 0x43 (b2n restore) (d.target + 65536 * mine.length) c.1
  stopRetired (foldDone d (if c.2 then stEcc else stOk) (foldResult o.tree d mine.length (ls.length - mine.length) o.b s2) 0 s2)

/-- A tree with TARGET in OLD's place (R180). -/
def Tree.adopt (t : Tree) (i o : Nat) : Tree := { t with lpar := (t.lpar.set i (t.leafParent o)).set o 255 }

/-- ADOPT copies POS and, when asked, the tuning (R180, R228). -/
def adoptTune (copy : Bool) (i o : Nat) (s : State) : State :=
  if i < 128 then
    let s1 := lfeSet (LFE_CHn_CFG.POS i) (fldNow (LFE_CHn_CFG.POS o) s) s
    if copy then
      lfeSet (LFE_CHn_CFG.DUTY i) (fldNow (LFE_CHn_CFG.DUTY o) s1)
        (lfeSet (LFE_CHn_CFG.TRIM i) (fldNow (LFE_CHn_CFG.TRIM o) s1) s1)
    else s1
  else if i ≥ 132 ∧ copy = true then
    [4, 8, 12].foldl (fun s k =>
      holdWrite (uwbBusy s) (0x1610 + 16 * (i - 132) + k) (regNow (0x1610 + 16 * (o - 132) + k) s) s) s
  else s

/-- ADOPT at B (R180): the live tree and the staging copy change; a validated copy that is pending does not (DESIGN CHOICE,
log entry 103). -/
def adoptAt (o : FoldOp) (s : State) : State :=
  let d := o.d
  match leafIndex d.target, leafIndex (adoptOld d) with
  | some i, some old =>
    let s1 := { s with fold := { s.fold with
      live := s.fold.live.adopt i old
      staging := { s.fold.staging with
        lpar := (s.fold.staging.lpar.set i (s.fold.live.leafParent old)).set old 255 } } }
    let s2 := nextGen (adoptTune (bit 0 (p8 d 1)) i old s1)
    let c := commitTree s2
    let s3 := commitLfe c.1
    let bad := c.2 || recFails recLfe s
    let s4 := append 0x44 0 (d.target % 256 + 256 * (adoptOld d % 256)) s3
    foldDone d (if bad then stEcc else stOk) (foldResult o.tree d 1 0 o.b s4) 0 s4
  | _, _ => s

/-- The fold operation takes effect at B (R171, R172). -/
def foldAt (s : State) : State :=
  match s.fold.op with
  | none => s
  | some o =>
    onlyIf (o.b ≤ now s) (fun s =>
      let s1 := { s with fold := { s.fold with op := none } }
      match p8 o.d 0 with
      | 0 => foldDone o.d stOk (foldResult o.tree o.d 0 0 o.b s1) 0 s1
      | 1 => broadcastAt o s1
      | 2 => snapshotAt o s1
      | 3 => resetAt o s1
      | 4 => retireAt o s1
      | _ => adoptAt o s1) s

/-- The engine cancels an operation before its B (R172): it completes with `st`, and nothing has changed. -/
def cancelFold (st : Nat) (s : State) : State :=
  match s.fold.op with
  | some o => foldDone o.d st [] 0 { s with fold := { s.fold with op := none } }
  | none => s

/-- A member's island is reset before B (R172): leaves for which `member` holds lie in it. -/
def resetMembers (member : Nat → Bool) (s : State) : State :=
  match s.fold.op with
  | some o => if (o.tree.leaves o.d.target).any member then cancelFold stIslandReset s else s
  | none => s

end Sys2Proof.Machine
end

