-- ==== Sys2Proof/Machine/Shell.lean ====
section
/-! DEFINITION. Machine/Shell.lean: what every command shares: time up to its tick, the commit of a power-state entry,
idleness, and the selection of the power state (R79, R84, R85, R89). -/
namespace Sys2Proof.Machine

/-- Applies the shadows of CLK_GAP_CTL and CLK_WATCH_CTL (R80). -/
def applyShadows (s : State) : State :=
  let s1 := match s.clk.shGap with | some w => regSet CLK_GAP_CTL.reg w s | none => s
  let s2 := match s.clk.shWatch with | some w => regSet CLK_WATCH_CTL.reg w s1 | none => s1
  setFld CLK_STATUS.SHADOW_PEND 0 { s2 with clk := { s2.clk with shGap := none, shWatch := none } }

/-- KEEP bit `i` of the hint in force (Table 04.3). -/
def keepBit (i : Nat) (s : State) : Bool := bit i (fld PWR_HINT_KEEP.KEEP s)

/-- Every island of the part (Table 01.1, Table 04.13). -/
def allIslands (s : State) : BitVec 13 := if s.part = .blv8032n then 0x1F7F else 0x1FFF

/-- An exchange with the engine ECU is under way in Watch: the frame that a CAN_RX edge announced, or an answer not yet
sent (Table 01.1, R14, R92). -/
def canWanted (s : State) : Bool := s.pwr.canAsked || !s.flk.txq.isEmpty

/-- Islands that are powered in Watch (Table 01.1): AON; CAN with KEEP_CAN (R87) and on demand, with VRD/CRY for the answer;
Fabric, VRD/CRY, LFS, LFA and UHF for an autonomous poll, and UWB once it has been asked for (R14, R21); NVS while a word
waits for the array; SLOW for a pin action; RNG while a request waits. -/
def watchIslands (s : State) : BitVec 13 :=
  let w (c : Bool) (m : BitVec 13) : BitVec 13 := if c then m else 0
  let warm := (match s.poll with | some p => p.warmed | none => false) || !s.uwb.exch.isEmpty
  allIslands s &&& (0x001 ||| w (keepBit 3 s || canWanted s) 0x400 ||| w (!s.flk.txq.isEmpty) 0x008
    ||| w s.lf.run.isSome 0x07C ||| w (s.lf.run.isSome && warm) 0x080 ||| w (!s.nv.buf.isEmpty) 0x200
    ||| w (!s.tmr.pulses.isEmpty) 0x800 ||| w (!s.rng.wait.isEmpty) 0x1000)

/-- In Watch islands are powered and unpowered as work comes and ends (R14, Table 01.1), and the radios with theirs (Tables
09.1 and 10.2): Off without power, Sleep when it returns. -/
def settleIslands (s : State) : State :=
  if s.pwr.st == .watch && !s.clk.lost && !s.pwr.inReset && !s.pwr.vaonDown then
    let s1 := { s with pwr := { s.pwr with islands := watchIslands s } }
    setUwbWalk (repower (islandOn .uwb s1) (now s1) s1.uwb.walk) (setUhfWalk (repower (islandOn .uhf s1) (now s1) s1.uhf.walk) s1)
  else s

/-- The radios' islands lose power (Tables 09.1 and 10.2): Off. -/
def radiosOff (s : State) : State :=
  setUwbWalk (repower false (now s) s.uwb.walk) (setUhfWalk (repower false (now s) s.uhf.walk) s)

/-- A radio whose island has been powered again is in Sleep. -/
def radiosOn (s : State) : State :=
  setUwbWalk (repower true (now s) s.uwb.walk) (setUhfWalk (repower true (now s) s.uhf.walk) s)

/-- A power-state entry commits (R79, R89, Table 04.4): from then on the new state is in force. -/
def commitState (p : PState) (s : State) : State :=
  match p with
  | .run => setPState .run s
  | .graze => setPState .graze s
  | .pen => applyShadows (setPState .pen s)
  | .watch =>
    radiosOff (let s1 := applyShadows (setPState .watch s)
      { s1 with pwr := { s1.pwr with islands := watchIslands s } })
  | .fallow =>
    let s1 := applyShadows (setPState .fallow s)
    radiosOff { s1 with
      pwr := { s1.pwr with islands := 0x001, edgeArmed := false }
      pins := { s1.pins with startA := false, startB := false } }

/-- An entry whose commit time has come commits (R89). -/
def commitEntry (s : State) : State :=
  match s.pwr.entering with
  | some (p, t) => if t ≤ now s then commitState p s else s
  | none => s

/-! ## Quarters -/

/-- Frequency of LF channel `c` in Hz (R135). -/
def lfFreq (c : Nat) (s : State) : Nat :=
  let f : Int := (fld LFE_CARRIER.F_HZ s : Int) + signed 12 (fld (LFE_CHn_CFG.TRIM c) s)
  (max 20000 (min 150000 f)).toNat

/-- Frequency at which an operation drives channel `c`: a pass of LF_CAL with its own TRIM (R162). -/
def runFreq (r : LfReq) (c : Nat) (s : State) : Nat :=
  match r.trial.find? (fun e => e.ch = c) with
  | some e => (max 20000 (min 150000 ((fld LFE_CARRIER.F_HZ s : Int) + e.trim))).toNat
  | none => lfFreq c s

/-- DUTY at which an operation drives channel `c`. -/
def runDuty (r : LfReq) (c : Nat) (s : State) : Nat :=
  match r.trial.find? (fun e => e.ch = c) with
  | some e => e.duty
  | none => fld (LFE_CHn_CFG.DUTY c) s

/-- Channels of diagnostic round `r`: 8a + r (R151). -/
def roundChans (r : Nat) (l : List Nat) : List Nat := l.filter (fun c => c % 8 == r)

/-- Length of a round's burst in ticks: BURST periods of its slowest channel, at most 1.0 ms (R151). -/
def burstTicks (r : LfReq) (l : List Nat) (s : State) : Nat :=
  (l.map (fun c => min (msTicks 1) (ceilDiv (fld LFE_DIAG_CTL.BURST s * 38400000) (runFreq r c s)))).foldl max 0

/-- Time from sequence start to D, the end of the drive (Table 06.2). -/
def driveTicks (f : Nat) : Nat := msTicks (14 + 2 * f)

/-- Bit per quarter that holds a channel of a list (R48). -/
def quartersOf (l : List Nat) : BitVec 4 := BitVec.ofNat 4 (packBits 4 (fun q => l.any (fun c => c / 32 == q)))

/-- The drive phase of the LF operation's present sequence or round: its quarters, its start and its end (R48, R143,
R151). -/
def drivePhase (s : State) : Option (BitVec 4 × Nat × Nat) :=
  match s.lf.run with
  | some r =>
    match r.req.kind with
    | .poll => if r.map.isEmpty then none else some (BitVec.ofNat 4 r.quarters, r.seq, r.seq + driveTicks r.f)
    | .diagRing =>
      match r.todo with
      | [] => none
      | k :: _ =>
        let l := roundChans k r.chans
        some (quartersOf l, r.seq, r.seq + usTicks 2 + burstTicks r.req l s)
    | _ => none
  | none => none

/-- The pad safe state is asserted (R52, Table 03.6): a low RESET_N, a reset, no VAON, no clock, or no power in the LFS
island. -/
def padsSafe (s : State) : Bool :=
  s.pins.resetN || s.pwr.inReset || s.pwr.vaonDown || s.clk.lost || !islandOn .lfs s

/-- The quarters in drive phase and their bridges (R48, R50, R51, R52): a quarter drives from step 1 of its
listen-to-drive sequence, its bridge is on from 1.0 us after it, and both end with the final chip boundary. -/
def refreshDrive (s : State) : State :=
  if padsSafe s then
    { s with pins := { s.pins with
      drive := 0, bridge := 0, lfdSafe := true
      safeAt := if s.pins.lfdSafe then s.pins.safeAt else (now s, s.pins.drive) } }
  else
    let q := match drivePhase s with
      | some (q, a, e) =>
        (if a ≤ now s && now s < e then q else 0, if 5 * a + 192 ≤ 5 * now s && now s < e then q else 0)
      | none => (0, 0)
    { s with pins := { s.pins with drive := q.1, bridge := q.2, lfdSafe := false } }

/-! ## What happens by itself -/

/-- The ticks at which something under way takes effect: a power-state entry commits (R89), a calibration ends (R213,
R214, R241), a fold operation comes to its B (R171). -/
def dueTicks (s : State) : List Nat :=
  (match s.pwr.entering with | some (_, t) => [t] | none => [])
  ++ (match s.uhf.bg with | some b => [b.stop] | none => [])
  ++ (match s.uwb.bg with | some b => [b.stop] | none => [])
  ++ (match s.uhf.run with | some r => if r.cal.isSome && r.phase == .air then [r.stop] else [] | none => [])
  ++ (match s.uwb.run with | some r => r.calStop.toList | none => [])
  ++ (match s.fold.op with | some o => [o.b] | none => [])

/-- What is due by now takes effect. -/
def runDue (s : State) : State :=
  let s1 := settleUwbCal (settleUhfCal (settleCals (commitEntry s)))
  if (match s1.fold.op with | some o => decide (o.b ≤ now s1) | none => false) then settleFolds (foldAt s1) else s1

/-- The earliest of the ticks, if it comes no later than `t`. -/
def nextDue (t : Nat) (s : State) : Option Nat :=
  (dueTicks s).foldl (fun m e => if e ≤ t && (match m with | some x => decide (e < x) | none => true) then some e else m) none

/-- Time passes up to tick `t`, and on the way what falls due takes effect, at most `n` times. -/
def runTo : Nat → Nat → State → State
  | 0, t, s => elapse t s
  | n + 1, t, s =>
    match nextDue t s with
    | some e => runTo n t (runDue (elapse e s))
    | none => elapse t s

/-- More than the things that can fall due before the next command. -/
def dueCount (s : State) : Nat :=
  8 + s.uhf.queue.length + s.uwb.queue.length + s.fold.queue.length + s.fold.wait.length

/-- VID and EPOCH of the header are those in force when the sequence starts (R184). -/
def latchHeader (s : State) : State :=
  match s.lf.run, s.poll with
  | some r, some p =>
    if p.header.isNone && r.seq ≤ now s then
      { s with poll := some { p with header := some (fld FLK_VID.VID s, fld FLK_FLOCK.EPOCH s) } }
    else s
  | _, _ => s

/-- A command takes place at tick `t`: time passes up to it, and what falls due before it or with it takes effect. -/
def begin (t : Nat) (s : State) : State := latchHeader (runTo (dueCount s) t s)

/-! ## Idleness -/

/-- A submission ring has been consumed up to its last doorbell (R85). -/
def ringConsumed (q : Qp) : Bool := !q.enabled || q.sqHead == q.sqTail

/-- The PCIe link is down (R86): PERST_N asserted, not trained since reset, or in L2 or L3. -/
def linkDown (s : State) : Bool :=
  s.pins.perst || !s.hif.trained || s.hif.link == .down || s.hif.link == .l2l3

/-- The idle rule of R85 but for the write-combining buffer. -/
def idleButBuffer (s : State) : Bool :=
  flag HIF_STATUS.READY s && s.hif.flight.isEmpty && s.hif.qps.all ringConsumed && s.lf.queue.isEmpty && s.lf.run.isNone && s.lf.wait.isEmpty
    && s.uhf.bg.isNone && s.uwb.bg.isNone && s.hif.droverQ.isEmpty && s.lgr.buffered.isEmpty && (backlogCount s == 0 || linkDown s)

/-- Idle in the sense of R85. -/
def isIdle (s : State) : Bool := idleButBuffer s && s.nv.buf.isEmpty

/-- Keeps the start of idleness (R85): a buffer that is still draining puts it at the end of the drain. -/
def noteIdle (s : State) : State :=
  let i := if !idleButBuffer s then none
    else if s.nv.buf.isEmpty then (if s.pwr.idleSince.isSome then s.pwr.idleSince else some (now s))
    else some (now s + ceilDiv (24 * bufWords s) 125)
  { s with pwr := { s.pwr with idleSince := i } }

/-- Descriptors in flight at a unit of island `i`. -/
def flightsOf (i : Island) (s : State) : Nat := s.hif.flight.countP (fun f => opIsland f.d.opcode == i)

/-- Queued and running operations, and words offered and not acknowledged, that an island holds (R102): 0 while it is down,
and for AON, which nothing watches. Drover's work is what its watchdog watches (R101). -/
def workOf (i : Island) (s : State) : Nat :=
  if islandOn i s then
    match i with
    | .aon => 0
    | .drover => s.hif.droverQ.length + s.hif.flight.countP (fun f => !isHost f.d && !f.discard)
        + b2n (s.lcy.drover == .booting) + b2n s.mon.desc.isSome
    | .fabric => s.fold.queue.length + s.fold.wait.length + b2n s.fold.op.isSome + flightsOf .fabric s
    | .vrdcry => flightsOf .vrdcry s + s.cry.changes.length
        + (match s.poll with | some p => p.answers.countP (fun a => a.trig.isSome) | none => 0)
    | .lfs => s.lf.queue.length + b2n s.lf.run.isSome + flightsOf .lfs s
    | .lfa => b2n s.lf.run.isSome
    | .uhf => s.uhf.queue.length + b2n s.uhf.run.isSome + b2n s.uhf.window + b2n s.uhf.bg.isSome + flightsOf .uhf s
    | .uwb => s.uwb.queue.length + s.uwb.exch.length + b2n s.uwb.run.isSome + b2n s.uwb.bg.isSome + flightsOf .uwb s
    | .pcie => s.hif.held.length
    | .nvs => s.nv.buf.length + b2n (!s.nv.loaded) + s.lgr.buffered.length + s.lgr.waiting.length + flightsOf .nvs s
    | .can => s.flk.txq.length
    | .slow => s.tmr.pulses.length + b2n s.mon.desc.isSome
    | .rng => s.rng.wait.length + b2n (fld RNG_STATUS.STATE s == 1) + flightsOf .rng s
  else 0

/-- The islands in the order of Table 01.1. -/
def islandOrder : List Island := [.aon, .drover, .fabric, .vrdcry, .lfs, .lfa, .uhf, .uwb, .pcie, .nvs, .can, .slow, .rng]

/-- Notes the islands whose work has changed, which is progress (R102). -/
def noteWork (s : State) : State :=
  { s with pwr := { s.pwr with workAt := islandOrder.map (fun i =>
      let w := s.pwr.workAt.getD i.bit (0, 0)
      if workOf i s = w.1 then w else (workOf i s, now s)) } }

/-- An island holds work and has shown no progress for `n` ticks (R101, R102). -/
def quietFor (i : Island) (n : Nat) (s : State) : Bool :=
  decide (0 < workOf i s) && decide ((s.pwr.workAt.getD i.bit (0, 0)).2 + n ≤ now s)

/-- What every command ends with. -/
def finish (s : State) : State :=
  noteWork (noteIdle (refreshDrive (refreshRadio (settleIslands (settleFolds (flushDisplaced s))))))

/-- Nothing but the supplies, RESET_N and REFCLK can act on the device: a reset holds it, or its clock is lost (R77,
R98). -/
def stopped (s : State) : Bool := s.clk.lost || s.pwr.vaonDown || s.pwr.inReset

/-- A command of the supplies, RESET_N, REFCLK or the PCIe pins at tick `t` with effect `k`. -/
def outerCommand (t : Nat) (k : State → State) (s : State) : Host.Outcome State Fault Refusal :=
  .next (finish (k (begin t s)))

/-- A command at tick `t` with effect `k`, on a device that is not stopped. -/
def command (t : Nat) (k : State → State) (s : State) : Host.Outcome State Fault Refusal :=
  outerCommand t (fun s => onlyIf (!stopped s) k s) s

/-- The device is in Run and not on its way out of it: descriptors are worked on (R81, R89). -/
def inRun (s : State) : Bool := s.pwr.st == .run && s.pwr.entering.isNone

/-- A descriptor command at tick `t` (R121): its checks, and its unit's work, in Run. -/
def descCommand (t : Nat) (d : Desc) (run : Desc → State → State) (s : State) : Host.Outcome State Fault Refusal :=
  command t (fun s => onlyIf (inRun s) (withDesc d run) s) s

/-! ## Selecting the power state -/

/-- Depth of a state, for choosing the shallower of two. -/
def PState.min (a b : PState) : PState := if a.code ≤ b.code then a else b

/-- Qualification exponent k in force (CLK_STRAP.K). -/
def qualK (s : State) : Nat := fld CLK_STRAP.K s

/-- Exit latency in ns (Table 04.1, R84). -/
def exitNs (p : PState) (s : State) : Nat :=
  match p with
  | .run => 0
  | .graze => 1500
  | .pen => 80000
  | .watch => 1100000
  | .fallow => 5200000 +
      (match s.clk.lastFast with
       | .fast19 => ceilDiv (2 ^ qualK s * 10000) 192
       | _ => ceilDiv (2 ^ qualK s * 10000) 384)

/-- Exit latency in us, rounded up (R88). -/
def exitUs (p : PState) (s : State) : Nat := ceilDiv (exitNs p s) 1000

/-- A state's exit latency is at most TOL_US; 0xFFFFFFFF is no limit (R84, Table 04.3). -/
def tolOk (p : PState) (s : State) : Bool :=
  fld PWR_HINT_TOL.TOL_US s == 0xFFFFFFFF || exitNs p s ≤ fld PWR_HINT_TOL.TOL_US s * 1000

/-- Row 1 of Table 04.2. -/
def tolState (s : State) : PState :=
  if tolOk .fallow s then .fallow else if tolOk .watch s then .watch else if tolOk .pen s then .pen
  else if tolOk .graze s && fld PWR_HINT_TOL.TOL_US s ≥ 2 then .graze else .run

/-- Some schedule entry is enabled (Table 04.2 row 10). -/
def schedOn (s : State) : Bool :=
  flag PWR_SCHED_CTL.EN s && (List.range 16).any (fun e => flag (PWR_SCHEDn.ENTRY_EN e) s)

/-- Link row of Table 04.2: L0 or training bounds to Graze, L1 to Pen. -/
def linkRow6 (s : State) : Bool := s.hif.link == .l0 || (s.hif.link == .training && s.hif.trained)

/-- The rows of Table 04.2 with the state each allows, in table order; row 2 only when `withIdle`. -/
def limitRows (withIdle : Bool) (s : State) : List (Nat × PState) :=
  [(1, tolState s)]
  ++ (if withIdle && !isIdle s then [(2, PState.run)] else [])
  ++ (if flag PWR_STATUS.HOLD_RUN s then [(3, PState.run)] else [])
  ++ (if keepUwb s then [(4, PState.graze)] else [])
  ++ (if keepBit 4 s then [(5, PState.graze)] else [])
  ++ (if linkRow6 s then [(6, PState.graze)] else [])
  ++ (if s.hif.link == .l1 then [(7, PState.pen)] else [])
  ++ (if keepBit 0 s then [(8, PState.pen)] else [])
  ++ (if s.flk.perm.isSome then [(9, PState.pen)] else [])
  ++ (if schedOn s then [(10, PState.watch)] else [])
  ++ (if keepBit 2 s then [(11, PState.watch)] else [])
  ++ (if keepBit 3 s then [(12, PState.watch)] else [])

/-- Deepest state that no row excludes (R84). -/
def selState (withIdle : Bool) (s : State) : PState :=
  (limitRows withIdle s).foldl (fun p r => PState.min p r.2) .fallow

/-- Code of the first row, in table order, that bounds the result; 0 for Fallow (R84). -/
def selLimit (withIdle : Bool) (s : State) : Nat :=
  let p := selState withIdle s
  if p = .fallow then 0 else
    match (limitRows withIdle s).find? (fun r => r.2 == p) with
    | some r => r.1
    | none => 0

/-- The rows of Table 04.2 that the hint itself sets: its tolerance and its keep bits. -/
def hintRow (k : Nat) : Bool := [1, 4, 5, 8, 11, 12].contains k

/-- Deepest state that the hint permits, whatever the other conditions. -/
def hintState (s : State) : PState :=
  ((limitRows false s).filter (fun r => hintRow r.1)).foldl (fun p r => PState.min p r.2) .fallow

/-- PWR_STATUS.LINK_WAIT: the hint would permit Watch or Fallow but the link is not down (R86). -/
def linkWait (s : State) : Bool := !linkDown s && decide (PState.watch.code ≤ (hintState s).code)

/-! ## Exits to Run -/

/-- Notes the cause of an exit in WAKE_SRC: of the triggers of one tick the lowest code; a condition that causes an exit
has no code (R92). -/
def setSrc (k : Nat) (s : State) : State :=
  if k = 0 then s
  else if s.pwr.srcAt == some (now s) then setFld PWR_STATUS.WAKE_SRC (min k (fld PWR_STATUS.WAKE_SRC s)) s
  else setFld PWR_STATUS.WAKE_SRC k { s with pwr := { s.pwr with srcAt := some (now s) } }

/-- A wake trigger before the commit aborts an entry; an aborted entry into Fallow is recorded (R89). -/
def abortEntry (s : State) : State :=
  match s.pwr.entering with
  | some (p, _) =>
    let s1 := { s with pwr := { s.pwr with entering := none } }
    if p = .fallow then append 0x16 0 1 s1 else s1
  | none => s

/-- Every island is powered again (Table 04.5). -/
def powerAll (s : State) : State := radiosOn { s with pwr := { s.pwr with islands := allIslands s } }

/-- An exit to Run for cause `k` (R89, R90): from Watch only on fast content, else it is armed (R73, R78). A trigger of the
tick at which another one has caused the exit is noted beside it (R92). -/
def exitRun (k : Nat) (s : State) : State :=
  let s1 := if s.pwr.entering.isSome then setSrc k (abortEntry s) else s
  match s1.pwr.st with
  | .run => if s1.pwr.srcAt == some (now s1) then setSrc k s1 else s1
  | .fallow => s1
  | .graze | .pen => setSrc k (setPState .run s1)
  | .watch =>
    if fastContent s1 then setSrc k (setPState .run (powerAll s1))
    else
      let k1 := match s1.pwr.exitArmed with | some x => if x = 0 ∨ k = 0 then max x k else min x k | none => k
      { s1 with pwr := { s1.pwr with exitArmed := some k1 } }

/-- A condition of Table 04.2 now bounds the state above the one in force or being entered: an exit (R85). -/
def reselect (s : State) : State :=
  let bound := (match s.pwr.entering with | some (p, _) => p | none => s.pwr.st).code
  if s.pwr.st != .fallow && decide ((selState false s).code < bound) then exitRun 0 s else s

end Sys2Proof.Machine
end

