-- ==== Sys2Proof/Machine/Cry.lean ====
section
/-! DEFINITION. Machine/Cry.lean: the cipher engine and the signer: CRYPT, KEY_UNWRAP, KEY_DERIVE, KEY_CLEAR, PKE_SIGN,
PKE_VERIFY (R299 to R323). -/
namespace Sys2Proof.Machine

/-! ## CRYPT -/

/-- IV_LEN. -/
def cIvLen (d : Desc) : Nat := p8 d 3
/-- The IV field's first IV_LEN bytes. -/
def cIv (d : Desc) : Bytes := slice 8 (cIvLen d) d.par
/-- TAG_LEN is in range for the mode. -/
def tagLenOk (m t : Nat) : Bool :=
  if m = 3 then t == 4 || t == 8 || (12 ≤ t && t ≤ 16)
  else if m = 4 then 4 ≤ t && t ≤ 16 && t % 2 == 0
  else if m = 5 then 4 ≤ t && t ≤ 16
  else t == 0

/-- IV_LEN is in range for the mode. -/
def ivLenOk (m n : Nat) : Bool :=
  if m = 1 ∨ m = 2 then n == 16 else if m = 3 then n == 12 else if m = 4 then 7 ≤ n && n ≤ 13 else n == 0

/-- First parameter byte at fault (R310, Table 13.5). `stageOk` says that OPTS.STAGE is accepted (R31). -/
def cryptParBad (d : Desc) (stageOk : Bool) : Option Nat :=
  let m := p8 d 0
  if m > 6 then some 0
  else if p8 d 1 % 128 > 1 ∨ (bit 7 (p8 d 1) = true ∧ (stageOk = false ∨ m ≠ 3 ∨ cDir d = 0)) then some 1
  else if tagLenOk m (cTag d) = false then some 2
  else if ivLenOk m (cIvLen d) = false then some 3
  else if (m = 3 ∨ m = 4) ∧ cAad d > 65279 then some 4
  else if m ≠ 3 ∧ m ≠ 4 ∧ cAad d ≠ 0 then some (if p8 d 4 ≠ 0 then 4 else 5)
  else if p8 d 6 ≠ 0 then some 6
  else if p8 d 7 ≠ 0 then some 7
  else ((List.range 16).map (fun i => 8 + i)).find? (fun i => i ≥ 8 + cIvLen d && p8 d i != 0)

/-- LEN is in the range of Table 13.4, and both totals fit 32 bits (R309). -/
def cryptLenOk (d : Desc) : Bool :=
  let m := p8 d 0
  let n := d.len
  (if m = 0 then 16 ≤ n && n ≤ 1048576 && n % 16 == 0
   else if m = 1 then (if cDir d = 0 then n ≤ 4294967279 else 16 ≤ n && n ≤ 4294967280 && n % 16 == 0)
   else if m = 4 then n ≤ 2 ^ (8 * (15 - cIvLen d)) - 1
   else if m = 6 then (if cDir d = 0 then 16 ≤ n && n ≤ 65536 && n % 8 == 0 else 24 ≤ n && n ≤ 65544 && n % 8 == 0)
   else true) && cryptSrc d < 2 ^ 32 && cryptDst d < 2 ^ 32

/-- USAGE bit that a CRYPT needs (Table 13.1): MAC for CMAC, else ENC or DEC by DIR. -/
def cryptUsage (d : Desc) : Nat := if p8 d 0 = 5 then 2 else cDir d

/-- What the engine computes: output bytes, status, OUT_LEN, UNVERIFIED. -/
structure CryptOut where
  /-- bytes for DST -/
  out : Bytes
  /-- status -/
  st : Nat
  /-- OUT_LEN -/
  len : Nat
  /-- FLAGS.UNVERIFIED -/
  unverified : Bool
  deriving DecidableEq, Repr

/-- A result that cannot fail. -/
def cOk (out : Bytes) : CryptOut := ⟨out, stOk, out.length, false⟩

/-- The work of a CRYPT on the bytes read at SRC (R309, R311, R313). -/
def cryptCore (key : Bytes) (d : Desc) (src : Bytes) : CryptOut :=
  let m := p8 d 0
  let iv := cIv d
  let aad := src.take (cAad d)
  let body := slice (cAad d) d.len src
  let tag := src.drop (cAad d + d.len)
  if m = 0 then cOk (if cDir d = 0 then ecbEnc key src else ecbDec key src)
  else if m = 1 then
    if cDir d = 0 then cOk (cbcEncL key iv (chunks 16 (pkcs7 src)))
    else
      let pt := cbcDecL key iv (chunks 16 src)
      match unpkcs7 pt with
      | some x => ⟨pt, stOk, x.length, false⟩
      | none => ⟨pt, stPadFail, d.len, true⟩
  else if m = 2 then cOk (ctrWith key (fun i => inc32 iv i) src)
  else if m = 3 then
    if cDir d = 0 then
      let ct := gcmCrypt key iv body
      cOk (ct ++ (gcmTag key iv aad ct).take (cTag d))
    else
      let good := (gcmTag key iv aad body).take (cTag d) == tag
      ⟨gcmCrypt key iv body, if good then stOk else stTagFail, d.len, !good⟩
  else if m = 4 then
    if cDir d = 0 then cOk (ccmCrypt key iv body ++ ccmTag key iv aad body (cTag d))
    else
      let pt := ccmCrypt key iv body
      let good := ccmTag key iv aad pt (cTag d) == tag
      ⟨pt, if good then stOk else stTagFail, d.len, !good⟩
  else if m = 5 then
    let t := (cmac key (src.take d.len)).take (cTag d)
    if cDir d = 0 then cOk t
    else ⟨[], if t == src.drop d.len then stOk else stMacFail, 0, false⟩
  else if cDir d = 0 then cOk (kwWrap key src)
  else
    match kwUnwrap key src with
    | some pt => cOk pt
    | none => ⟨[], stUnwrapFail, 0, false⟩

/-- CRYPT result bytes (Table 13.5). -/
def cryptResult (d : Desc) (outLen : Nat) (unver inPlace : Bool) (blocks : Nat) : Bytes :=
  leBytes 4 outLen ++ [byteOf (p8 d 0), byteOf (b2n unver + 2 * b2n inPlace), 0, 0] ++ leBytes 4 (sat 32 blocks)

/-- Data blocks that a CRYPT works on: LEN bytes, with the padding of CBC encryption. -/
def cryptBlocks (d : Desc) : Nat :=
  if p8 d 0 = 1 ∧ cDir d = 0 then (d.len + cPad d) / 16 else ceilDiv d.len 16

/-- Two ranges overlap. -/
def overlaps (a n b m : Nat) : Bool := n > 0 && m > 0 && a < b + m && b < a + n

/-- DST is SRC + AAD_LEN (R312). -/
def cryptInPlace (d : Desc) : Bool := cryptDst d > 0 && d.dstAddr == d.srcAddr + cAad d

/-- Counts a failure (Table 13.10). -/
def countCrypt (st : Nat) (s : State) : State :=
  if st = stTagFail then bump CRY_CNT0.TAG_FAIL s
  else if st = stUnwrapFail then bump CRY_CNT0.UNWRAP_FAIL s
  else if st = stPadFail then bump CRY_CNT1.PAD_FAIL s
  else if st = stMacFail then bump CRY_CNT1.MAC_FAIL s
  else s

/-- Bytes of a range before the first that DMA refuses, at most `n` (R118). -/
def goodPrefix (d : Desc) (a n : Nat) (s : State) : Nat :=
  match d.src with
  | .host _ =>
    if s.hif.busMaster then
      s.dmaBad.foldl (fun k r => if r.1 < a + k ∧ a < r.1 + r.2 then r.1 - a else k) n
    else 0
  | _ => n

/-- A DMA error stops a CRYPT (R313): some number of output bytes, a free value up to the first byte that could not
be read or written, has been written. KW and CMAC write nothing before their input is complete. -/
def cryptDmaError (key : Bytes) (d : Desc) (det : Nat) (s : State) : State :=
  let srcOk := goodPrefix d d.srcAddr (cryptSrc d) s
  let dstOk := goodPrefix d d.dstAddr (cryptDst d) s
  let room := if p8 d 0 ≥ 5 ∧ srcOk < cryptSrc d then 0 else min dstOk (min (srcOk - cAad d) (cryptDst d))
  let k := leNat (freeBytes 4 s) % (room + 1)
  let all := mread zeroByte (match d.src with | .host _ => s.hostMem | .drover => s.droverMem | .monitor => s.monMem)
    d.srcAddr (cryptSrc d)
  let out := (cryptCore key d all).out.take k
  let s1 := dmaWrite d d.dstAddr out (tookFree 4 s)
  let s2 := if s1.hif.busMaster then setFault HIF_FAULT.DATA_DMA s1 else s1
  complete d stBadAddr (cryptResult d k (cDir d = 1 && k > 0) (cryptInPlace d) (ceilDiv k 16)) det s2

/-- A decrypted flock blob entry: its slot and token (Table 12.2). -/
def flockEntry (b : Bytes) : Nat × Token :=
  (byteAt 0 b, { role := byteAt 1 b, id := leAt 4 4 b, key := slice 8 16 b, last := leAt 2 2 b, seen := 0, co := false })

/-- Puts decrypted flock blob entries into the staged bank of the flock key store (R31, R270); TAG_FAIL clears it
(R274). -/
def stageFlock (pt : Bytes) (st : Nat) (s : State) : State :=
  if st ≠ stOk then { s with flk := { s.flk with staged := none } }
  else
    let slots := (chunks 32 pt).foldl (fun l b => let e := flockEntry b; l.set e.1 (some e.2)) (List.replicate 64 none)
    { s with flk := { s.flk with staged := some { vid := 0, tag := 0, slots := slots } } }

/-- CRYPT at the message engine (R309 to R315). -/
def cryptUnit (d : Desc) (s : State) : State :=
  let stageOk := d.src == .drover && workingOn 0x38 s
  match cryptParBad d stageOk with
  | some i => fail d stBadLen (32 + i) s
  | none =>
    if cryptLenOk d = false then fail d stBadLen 8 s
    else match keyFor d.target (cryptUsage d) isAes s with
    | none => fail d stBadHandle 4 s
    | some (_, x) =>
      let stage := bit 7 (p8 d 1)
      if !stage && !cryptInPlace d && overlaps d.srcAddr (cryptSrc d) d.dstAddr (cryptDst d) then
        fail d stBadAddr 24 s
      else match dmaRead d d.srcAddr (cryptSrc d) s with
      | none => cryptDmaError x.key d 16 s
      | some src =>
        let o := cryptCore x.key d src
        if stage then
          complete d o.st (cryptResult d o.len o.unverified false (cryptBlocks d)) 0
            (countCrypt o.st (stageFlock o.out o.st s))
        else if dmaBlocked d d.dstAddr o.out.length s then cryptDmaError x.key d 24 s
        else
          complete d o.st (cryptResult d o.len o.unverified (cryptInPlace d) (cryptBlocks d)) 0
            (countCrypt o.st (dmaWrite d d.dstAddr o.out s))

/-- CRYPT_ECB (R309, MODE 0). -/
def execCryptEcb (t : Nat) (d : Desc) (s : State) : Host.Outcome State Fault Refusal :=
  descCommand t (asMode 0x40 0 d) cryptUnit s
/-- CRYPT_CBC (R309, MODE 1). -/
def execCryptCbc (t : Nat) (d : Desc) (s : State) : Host.Outcome State Fault Refusal :=
  descCommand t (asMode 0x40 1 d) cryptUnit s
/-- CRYPT_CTR (R309, MODE 2). -/
def execCryptCtr (t : Nat) (d : Desc) (s : State) : Host.Outcome State Fault Refusal :=
  descCommand t (asMode 0x40 2 d) cryptUnit s
/-- CRYPT_GCM (R309, MODE 3). -/
def execCryptGcm (t : Nat) (d : Desc) (s : State) : Host.Outcome State Fault Refusal :=
  descCommand t (asMode 0x40 3 d) cryptUnit s
/-- CRYPT_CCM (R309, MODE 4). -/
def execCryptCcm (t : Nat) (d : Desc) (s : State) : Host.Outcome State Fault Refusal :=
  descCommand t (asMode 0x40 4 d) cryptUnit s
/-- CRYPT_CMAC (R309, MODE 5). -/
def execCryptCmac (t : Nat) (d : Desc) (s : State) : Host.Outcome State Fault Refusal :=
  descCommand t (asMode 0x40 5 d) cryptUnit s
/-- CRYPT_KW (R309, MODE 6). -/
def execCryptKw (t : Nat) (d : Desc) (s : State) : Host.Outcome State Fault Refusal :=
  descCommand t (asMode 0x40 6 d) cryptUnit s
/-- CRYPT_STAGE (R31): MODE 3, DIR 1 and OPTS.STAGE. -/
def execCryptStage (t : Nat) (d : Desc) (s : State) : Host.Outcome State Fault Refusal :=
  descCommand t (setPar 1 0x81 (asMode 0x40 3 d)) cryptUnit s

/-! ## Keys -/

/-- First parameter byte at fault of KEY_UNWRAP (Table 13.3). `pairOk` says that KEK_SEL 0x81 is accepted (R31). -/
def unwrapParBad (d : Desc) (pairOk : Bool) : Option Nat :=
  let sel := p8 d 0
  if !(sel ≤ 15 || sel == 0x80 || sel == 0xFE || (sel == 0x81 && pairOk)) then some 0
  else if !(1 ≤ p8 d 1 && p8 d 1 ≤ 4) then some 1
  else if sel ≠ 0x80 ∧ p16 d 2 ≠ 0 then some 2
  else if usageFits (p8 d 1) (p16 d 4) = false then some 4
  else if (if sel = 0xFE then p8 d 6 > 15 else p8 d 6 ≠ 0) then some 6
  else (parNonzero 7 24 d).map (· - 32)

/-- A plain or unwrapped key fits its KIND: a P-256 scalar lies in 1 to n − 1 (R306). -/
def keyValueOk (kind : Nat) (k : Bytes) : Bool := kind != 4 || (1 ≤ beNat k && beNat k < p256N)

/-- The key-encryption key for KEK_SEL (R305): a fuse index under the root, a Caddy handle with UNWRAP, or, for the
pairing stage, the KEY of the IMMO_PAIR that Drover serves, used as it is (DEDUCED, log entry 16). -/
def kekFor (d : Desc) (s : State) : Except (Nat × Nat) Bytes :=
  let sel := p8 d 0
  let kind := p8 d 1
  let usage := p16 d 4
  if sel = 0x80 then
    match keyFor (p16 d 2) 3 isAes s with
    | some (_, x) => .ok (wrapKey x.key 0x80 kind usage)
    | none => .error (stBadHandle, 34)
  else if sel = 0x81 then
    match droverWork s with
    | some w =>
      (match keyFor (p16 w 2) 3 isAes s with
       | some (_, x) => .ok x.key
       | none => .error (stBadHandle, 34))
    | none => .error (stBadHandle, 34)
  else if rootOk s then .ok (wrapKey fuseRoot (if sel = 0xFE then p8 d 6 else sel) kind usage)
  else .error (stUnwrapFail, 0)

/-- KEY_UNWRAP and its forms (R306). -/
def unwrapUnit (d : Desc) (s : State) : State :=
  let sel := p8 d 0
  let kind := p8 d 1
  let usage := p16 d 4
  match unwrapParBad d (d.src == .drover && workingOn 0x3A s) with
  | some i => fail d stBadLen (32 + i) s
  | none =>
    if d.len ≠ kindLen kind + (if sel = 0xFE then 0 else 8) then fail d stBadLen 8 s
    else match keyTarget d.target s with
    | none => fail d stBadHandle 4 s
    | some n =>
      match kekFor d s with
      | .error (st, det) => fail d st det (countCrypt st s)
      | .ok kek =>
        readSrc d d.len (fun src s =>
          if sel = 0xFE then
            if keyValueOk kind src = false then fail d stUnwrapFail 0 (countCrypt stUnwrapFail s)
            else writeDst d (kwWrap kek src)
              (changeSlot d n { kind := kind, usage := usage, origin := 3, gen := 0, key := src }) s
          else match kwUnwrap kek src with
          | none => fail d stUnwrapFail 0 (countCrypt stUnwrapFail s)
          | some k =>
            if keyValueOk kind k = false then fail d stUnwrapFail 0 (countCrypt stUnwrapFail s)
            else if sel = 0x81 then
              let st := match s.flk.stage with
                | some g => { g with pair := { g.pair with key := k } }
                | none => { d := none, pair := { base := 0, xtd := false, key := k, lastEcnt := 0, dcnt := 0 },
                            checked := false, probe := none, probed := false }
              complete d stOk [] 0 { s with flk := { s.flk with stage := some st } }
            else changeSlot d n { kind := kind, usage := usage, origin := 1, gen := 0, key := k } s) s

/-- KEY_UNWRAP (R306). -/
def execKeyUnwrap (t : Nat) (d : Desc) (s : State) : Host.Outcome State Fault Refusal :=
  descCommand t (asOp 0x41 d) unwrapUnit s
/-- KEY_IMPORT (R306): KEK_SEL 0xFE. -/
def execKeyImport (t : Nat) (d : Desc) (s : State) : Host.Outcome State Fault Refusal :=
  descCommand t (asMode 0x41 0xFE d) unwrapUnit s
/-- KEY_UNWRAP_PAIRING (R31): KEK_SEL 0x81. -/
def execKeyUnwrapPairing (t : Nat) (d : Desc) (s : State) : Host.Outcome State Fault Refusal :=
  descCommand t (asMode 0x41 0x81 d) unwrapUnit s

/-- First parameter byte at fault of KEY_DERIVE (Table 13.3, R307). -/
def deriveParBad (d : Desc) : Option Nat :=
  if p8 d 0 ≠ 0 then some 0
  else if !(1 ≤ p8 d 1 && p8 d 1 ≤ 3) then some 1
  else if usageFits (p8 d 1) (p16 d 4) = false then some 4
  else if slice 6 4 d.par = [0x43, 0x41, 0x44, 0x59] ∨ slice 6 2 d.par = [0x4F, 0x42] then some 6
  else (parNonzero 10 24 d).map (· - 32)

/-- KEY_DERIVE (R307). -/
def deriveUnit (d : Desc) (s : State) : State :=
  let kind := p8 d 1
  let usage := p16 d 4
  match deriveParBad d with
  | some i => fail d stBadLen (32 + i) s
  | none =>
    match keyTarget d.target s, keyFor (p16 d 2) 4 isAes s with
    | none, _ => fail d stBadHandle 4 s
    | some _, none => fail d stBadHandle 34 s
    | some n, some (_, x) =>
      readSrc d d.len (fun ctx s =>
        let k := kdf x.key (slice 6 4 d.par) ([byteOf kind, byteOf (usage / 256), byteOf usage] ++ ctx) (64 * (kind + 1))
        changeSlot d n { kind := kind, usage := usage, origin := 2, gen := 0, key := k.take (kindLen kind) } s) s

/-- KEY_DERIVE (R307). -/
def execKeyDerive (t : Nat) (d : Desc) (s : State) : Host.Outcome State Fault Refusal :=
  descCommand t (asOp 0x42 d) deriveUnit s

/-- KEY_CLEAR (R308). -/
def clearUnit (d : Desc) (s : State) : State :=
  reserved 0 d (fun s =>
    match keyTarget d.target s with
    | none => fail d stBadHandle 4 s
    | some n => changeSlot d n Slot.empty s) s

/-- KEY_CLEAR (R308). -/
def execKeyClear (t : Nat) (d : Desc) (s : State) : Host.Outcome State Fault Refusal :=
  descCommand t (asOp 0x43 d) clearUnit s

/-! ## Signer -/

/-- The prefix of host messages signed with the DAK (R320). -/
def dakHostPrefix : Bytes := [0x42, 0x4C, 0x56, 0x48, 0x4F, 0x53, 0x54, 0x31]
/-- The prefix of ledger statements (R377). -/
def dakLedgerPrefix : Bytes := [0x42, 0x4C, 0x56, 0x4C, 0x44, 0x47, 0x52, 0x31]

/-- The signing key of TARGET: the DAK, or a Caddy slot with SIGN (R302, R320). -/
def signKey (d : Desc) (s : State) : Option (Option Nat × Nat) :=
  if d.target = 0x80 then (if rootOk s then some (none, dakScalar) else none)
  else (keyFor d.target 5 (· == 4) s).map (fun p => (some p.1, beNat p.2.key))

/-- Makes the signature and writes it (R320). -/
def signNow (k : Nat) (d : Desc) (e : Bytes) (s : State) : State :=
  let r := signWith k e s
  writeDst d r.1 (fun s =>
    complete d stOk ([byteOf (p8 d 0), byteOf (b2n (d.target == 0x80))] ++ leBytes 2 d.target) 0
      (bump CRY_PKE_CNT.SIGN s)) r.2

/-- PKE_SIGN once its parameters and key are right: while the generator is in Steep it waits, holding its slot
(R304, R320). -/
def signUnit (d : Desc) (s : State) : State :=
  let m := p8 d 0
  if m > 2 ∨ (m = 2 ∧ !(d.src == .drover && (workingOn 0x5B s || ckptWork s))) then fail d stBadLen 32 s
  else match parNonzero 1 24 d with
  | some det => fail d stBadLen det s
  | none =>
    if m = 1 ∧ d.target = 0x80 then fail d stBadLen 32 s
    else if (m = 0 ∧ !(1 ≤ d.len && d.len ≤ 1048576)) ∨ (m = 1 ∧ d.len ≠ 32) ∨ (m = 2 ∧ d.len ≠ 128) then
      fail d stBadLen 8 s
    else match signKey d s with
    | none => fail d stBadHandle 4 s
    | some (slot, k) =>
      match drawFails s with
      | some st =>
        if st = stHealth then fail d st 0 s
        else
          let s1 := match slot with | some n => holdSlot n d s | none => s
          { s1 with lcy := { s1.lcy with steepWait := s1.lcy.steepWait ++ [(d, now s + timeoutTicks d 100)] } }
      | none =>
        readSrc d d.len (fun msg s =>
          let e := if m = 1 then msg else if m = 2 then sha256 (dakLedgerPrefix ++ msg)
            else if d.target = 0x80 then sha256 (dakHostPrefix ++ msg) else sha256 msg
          releaseSlots d (signNow k d e s)) s

/-- PKE_SIGN_MESSAGE (R320, MODE 0). -/
def execPkeSignMessage (t : Nat) (d : Desc) (s : State) : Host.Outcome State Fault Refusal :=
  descCommand t (asMode 0x44 0 d) signUnit s
/-- PKE_SIGN_DIGEST (R320, MODE 1). -/
def execPkeSignDigest (t : Nat) (d : Desc) (s : State) : Host.Outcome State Fault Refusal :=
  descCommand t (asMode 0x44 1 d) signUnit s
/-- PKE_SIGN_LEDGER (R320, MODE 2). -/
def execPkeSignLedger (t : Nat) (d : Desc) (s : State) : Host.Outcome State Fault Refusal :=
  descCommand t (asMode 0x44 2 d) signUnit s

/-- PKE_VERIFY (R321). -/
def verifyUnit (d : Desc) (s : State) : State :=
  let m := p8 d 0
  if m > 1 then fail d stBadLen 32 s
  else match parNonzero 1 24 d with
  | some det => fail d stBadLen det s
  | none =>
    if d.len < 128 ∨ d.len > 128 + 1048576 ∨ (m = 1 ∧ d.len ≠ 160) then fail d stBadLen 8 s
    else readSrc d d.len (fun b s =>
      let pub := b.take 64
      let sig := slice 64 64 b
      let s1 := bump CRY_PKE_CNT.VERIFY s
      if pubOk pub = false then fail d stBadLen 0xFF s
      else if ecdsaVerify pub (if m = 1 then b.drop 128 else sha256 (b.drop 128)) sig then complete d stOk [1] 0 s1
      else complete d stMacFail [0] 0 (bump CRY_CNT1.MAC_FAIL s1)) s

/-- PKE_VERIFY (R321). -/
def execPkeVerify (t : Nat) (d : Desc) (s : State) : Host.Outcome State Fault Refusal :=
  descCommand t (asOp 0x45 d) verifyUnit s

/-! ## Waits -/

/-- A descriptor in flight for the message engine. -/
def isEngineOp (f : Flight) : Bool := 0x40 ≤ f.d.opcode && f.d.opcode ≤ 0x43

/-- Entries of a list before the first that `p` accepts. -/
def countBefore (p q : Flight → Bool) (l : List Flight) : Nat := (l.takeWhile (fun f => !p f)).countP q

/-- TIMEBASE of the dispatch of a descriptor in flight. -/
def flightSince (d : Desc) (s : State) : Option Nat := (s.hif.flight.find? (fun f => f.is d)).map Flight.since

/-- CRYPT_QUEUE_TIMEOUT (R315): a descriptor behind 4 requests in work and 16 in the queue has waited its TIMEOUT. -/
def cryptTimeout (d : Desc) (s : State) : State :=
  match flightSince d s with
  | some t0 =>
    onlyIf (0x40 ≤ d.opcode && d.opcode ≤ 0x43 && countBefore (fun f => f.is d) isEngineOp s.hif.flight ≥ 20
        && t0 + timeoutTicks d 100 ≤ now s) (fail d stBusy 0) s
  | none => s

/-- CRYPT_QUEUE_TIMEOUT (R315). -/
def execCryptQueueTimeout (t : Nat) (d : Desc) (s : State) : Host.Outcome State Fault Refusal :=
  command t (cryptTimeout d) s

/-- PKE_WAIT_TIMEOUT (R318): the unit runs one operation at a time, and this PKE_VERIFY has waited its TIMEOUT. -/
def pkeTimeout (d : Desc) (s : State) : State :=
  match flightSince d s with
  | some t0 =>
    onlyIf (d.opcode == 0x45 && t0 + timeoutTicks d 100 ≤ now s
        && countBefore (fun f => f.is d) (fun f => f.d.opcode == 0x44 || f.d.opcode == 0x45) s.hif.flight ≥ 1)
      (fail d stBusy 0) s
  | none => s

/-- PKE_WAIT_TIMEOUT (R318). -/
def execPkeWaitTimeout (t : Nat) (d : Desc) (s : State) : Host.Outcome State Fault Refusal :=
  command t (pkeTimeout d) s

/-- STEEP_WAIT_TIMEOUT (R320): those whose TIMEOUT has ended complete with NOT_READY_ENTROPY. -/
def steepTimeout (s : State) : State :=
  let out := s.lcy.steepWait.filter (fun w => w.2 ≤ now s)
  out.foldl (fun s w => releaseSlots w.1 (fail w.1 stNotReady 0 s))
    { s with lcy := { s.lcy with steepWait := s.lcy.steepWait.filter (fun w => !decide (w.2 ≤ now s)) } }

/-- STEEP_WAIT_TIMEOUT (R320). -/
def execSteepWaitTimeout (t : Nat) (s : State) : Host.Outcome State Fault Refusal :=
  command t steepTimeout s

end Sys2Proof.Machine
end

