-- ==== Sys2Proof/Machine/Uhf.lean ====
section
/-! DEFINITION. Machine/Uhf.lean: the commands of the UHF radio: its opcodes, its events and its background calibration
(R209 to R223). -/
namespace Sys2Proof.Machine

/-- First parameter byte at fault of UHF_TX (Table 09.4). -/
def txParBad (d : Desc) : Option Nat :=
  if decide (signed 8 (p8 d 0) < -20) || decide (signed 8 (p8 d 0) > 10) then some 0
  else if p8 d 1 > 32 then some 1
  else if p8 d 2 < 1 ∨ p8 d 2 > 4 then some 2
  else if p8 d 3 > 3 then some 3
  else (parNonzero 8 24 d).map (· - 32)

/-- UHF_TX (R220): SRC is read completely before the radio leaves Standby. -/
def txUnit (temp : Int) (d : Desc) (s : State) : State :=
  match txParBad d with
  | some i => fail d stBadLen (32 + i) s
  | none => readSrc d d.len (fun data s => enterUhf ⟨d, data, true, none, temp, false, false⟩ s) s

/-- UHF_TX (R220). -/
def execUhfTx (t : Nat) (d : Desc) (temp : Int) (s : State) : Host.Outcome State Fault Refusal :=
  descCommand t (asOp 0x20 d) (txUnit temp) s

/-- First parameter byte at fault of UHF_RX (Table 09.5). -/
def rxParBad (d : Desc) : Option Nat :=
  if p32 d 0 < 1000 ∨ p32 d 0 > 60000000 then some 0
  else if p8 d 5 = 0 then some 5
  else if p8 d 6 < 1 ∨ p8 d 6 > 4 then some 6
  else if p8 d 7 > 7 then some 7
  else (parNonzero 12 24 d).map (· - 32)

/-- UHF_RX (R221). -/
def rxUnit (temp : Int) (d : Desc) (s : State) : State :=
  match rxParBad d with
  | some i => fail d stBadLen (32 + i) s
  | none =>
    if bit 2 (p8 d 7) ∧ d.target ≠ 0 then fail d stBadHandle 4 s
    else enterUhf ⟨d, [], false, none, temp, false, false⟩ s

/-- UHF_RX (R221). -/
def execUhfRx (t : Nat) (d : Desc) (temp : Int) (s : State) : Host.Outcome State Fault Refusal :=
  descCommand t (asOp 0x21 d) (rxUnit temp) s

/-- First parameter byte at fault of UHF_CAL (Table 09.6). -/
def uhfCalParBad (d : Desc) : Option Nat :=
  if p8 d 0 > 63 ∨ p8 d 0 % 16 = 0 then some 0
  else match parNonzero 1 4 d with
  | some det => some (det - 32)
  | none => if p32 d 4 ≠ 0 ∧ (p32 d 4 < 300000 ∨ p32 d 4 > 960000) then some 4 else (parNonzero 8 24 d).map (· - 32)

/-- UHF_CAL (R213, R222), with what it will measure: it runs on the radio behind the activities before it. -/
def uhfCalUnit (m : UhfMeas) (d : Desc) (s : State) : State :=
  match uhfCalParBad d with
  | some i => fail d stBadLen (32 + i) s
  | none => enterUhf ⟨d, [], false, some m, m.temp, false, false⟩ s

/-- UHF_CAL (R222). -/
def execUhfCal (t : Nat) (d : Desc) (m : UhfMeas) (s : State) : Host.Outcome State Fault Refusal :=
  descCommand t (asOp 0x22 d) (uhfCalUnit m) s

/-- UHF_TX_END (R220). -/
def execUhfTxEnd (t : Nat) (s : State) : Host.Outcome State Fault Refusal := command t txEnd s

/-- UHF_RX_END (R221): the window has elapsed or MAXFRAMES has been reached. -/
def execUhfRxEnd (t : Nat) (s : State) : Host.Outcome State Fault Refusal := command t rxEnd s

/-- UHF_RX_FRAME_DETECTED (R221). -/
def execUhfRxFrameDetected (t : Nat) (f : UhfFrame) (s : State) : Host.Outcome State Fault Refusal :=
  command t (rxFrame f) s

/-- UHF_WINDOW_PREPARE (R210). -/
def execUhfWindowPrepare (t : Nat) (temp : Int) (s : State) : Host.Outcome State Fault Refusal :=
  command t (fun s => onlyIf (!s.uhf.window) (prepareWindow temp) s) s

/-- UHF_RADIO_IDLE_SLEEP (R209): 100 us after the last activity, with none due within 200 us. -/
def execUhfRadioIdleSleep (t : Nat) (s : State) : Host.Outcome State Fault Refusal :=
  command t (fun s =>
    onlyIf (uhfFree (usTicks 200) s && s.uhf.bg.isNone && s.uhf.lastEnd + usTicks 100 ≤ now s) uhfSleep s) s

/-- UHF_BG_CAL (R214). -/
def execUhfBgCal (t irr dc : Nat) (temp : Int) (s : State) : Host.Outcome State Fault Refusal :=
  command t (fun s =>
    onlyIf (flag UHF_CTL.BG_CAL s && uhfIdle s && bgDue s.uhf.bgAt (fld UHF_CTL.BG_PERIOD s) s.uhf.bgTemp temp s)
      (startUhfBg irr dc temp) s) s

end Sys2Proof.Machine
end

