-- ==== Sys2Proof/Machine/Uwb.lean ====
section
/-! DEFINITION. Machine/Uwb.lean: the commands of the UWB radio and of the coexistence grant (R215 to R218, R224 to
R245). -/
namespace Sys2Proof.Machine

/-- First parameter byte at fault of UWB_RANGE (Table 10.8). -/
def rangeParBad (d : Desc) : Option Nat :=
  if p8 d 0 > 7 then some 32
  else if p8 d 1 ≠ 0 ∧ p8 d 1 ≠ 5 ∧ p8 d 1 ≠ 9 then some 33
  else if p8 d 2 ≠ 0 ∧ (p8 d 2 < 9 ∨ p8 d 2 > 12) then some 34
  else if p8 d 3 > 4 then some 35
  else parNonzero 16 24 d

/-- UWB_RANGE reaches the radio (R232, R243). -/
def rangeUnit (temp : Int) (d : Desc) (s : State) : State :=
  match rangeParBad d with
  | some det => fail d stBadLen det s
  | none =>
    if (match leafIndex d.target with | some i => leafRetired i s | none => false) then fail d stBadFold 4 s
    else if (keyFor (p16 d 4) 6 (· == 1) s).isNone then fail d stBadHandle 36 s
    else enterUwb ⟨d, temp, none⟩ s

/-- UWB_RANGE (R243). -/
def execUwbRange (t : Nat) (d : Desc) (temp : Int) (s : State) : Host.Outcome State Fault Refusal :=
  descCommand t (asOp 0x28 d) (rangeUnit temp) s

/-- First parameter byte at fault of UWB_CAL (R242, Table 10.7). -/
def uwbCalParBad (d : Desc) : Option Nat :=
  if p8 d 0 % 32 = 0 ∨ p8 d 0 ≥ 128 then some 32
  else if p8 d 1 ≠ 0 ∧ p8 d 1 ≠ 5 ∧ p8 d 1 ≠ 9 then some 33
  else if calRefs d = true ∧ (p16 d 2 < 100 ∨ p16 d 2 > 10000) then some 34
  else if p8 d 4 ≠ 0 ∧ p8 d 4 < 8 then some 36
  else if p8 d 5 ≠ 0 then some 37
  else parNonzero 18 24 d

/-- UWB_CAL reaches the radio (R232, R242), with what it will measure. -/
def uwbCalUnit (m : List UwbMeas) (temp : Int) (d : Desc) (s : State) : State :=
  match uwbCalParBad d with
  | some det => fail d stBadLen det s
  | none =>
    if calRefs d && (keyFor (p16 d 6) 6 (· == 1) s).isNone then fail d stBadHandle 38 s
    else enterUwb ⟨d, temp, some m⟩ s

/-- UWB_CAL (R242). -/
def execUwbCal (t : Nat) (d : Desc) (m : List UwbMeas) (temp : Int) (s : State) : Host.Outcome State Fault Refusal :=
  descCommand t (asOp 0x29 d) (uwbCalUnit m temp) s

/-- UWB_PREWARM (R21, R230). -/
def execUwbPrewarm (t : Nat) (temp : Int) (s : State) : Host.Outcome State Fault Refusal := command t (prewarm temp) s

/-- UWB_EXCHANGE_START (R201). -/
def execUwbExchangeStart (t : Nat) (s : State) : Host.Outcome State Fault Refusal := command t startExch s

/-- UWB_RESPONSE_FRAME (R235). -/
def execUwbResponseFrame (t : Nat) (f : UwbReply) (s : State) : Host.Outcome State Fault Refusal := command t (replyFrame f) s

/-- UWB_REPORT_FRAME (R236). -/
def execUwbReportFrame (t : Nat) (f : UwbReport) (s : State) : Host.Outcome State Fault Refusal := command t (reportFrame f) s

/-- UWB_REPLY_TIMEOUT (R235). -/
def execUwbReplyTimeout (t : Nat) (s : State) : Host.Outcome State Fault Refusal := command t replyTimeout s

/-- UWB_RADIO_IDLE_SLEEP (R230): 100 us after the last activity, with none due within 200 us. -/
def execUwbRadioIdleSleep (t : Nat) (s : State) : Host.Outcome State Fault Refusal :=
  command t (fun s =>
    onlyIf (uwbFree (usTicks 200) s && s.uwb.bg.isNone && s.uwb.lastEnd + usTicks 100 ≤ now s)
      (fun s => uwbReplan (uwbToRest s)) s) s

/-- UWB_BG_CAL (R241): IMAGE and DCOFS on the idle radio, in Standby or Synth, with nothing due within 1 ms. -/
def execUwbBgCal (t irr : Nat) (temp : Int) (s : State) : Host.Outcome State Fault Refusal :=
  command t (fun s =>
    onlyIf (flag UWB_CTL.BG_CAL s && s.part != .blv8032n && (uwbState s == 2 || uwbState s == 3) && uwbFree (msTicks 1) s
        && s.uwb.bg.isNone && bgDue s.uwb.bgAt (fld UWB_CTL.BG_PERIOD s) s.uwb.bgTemp temp s)
      (startUwbBg irr temp) s) s

/-! ## The grant -/

/-- COEX_GRANT (R217). -/
def execCoexGrant (t : Nat) (s : State) : Host.Outcome State Fault Refusal :=
  command t (fun s =>
    onlyIf (coexEn s) (fun s => windowGranted (uwbGranted (calGranted (uhfGranted s))))
      { s with pins := { s.pins with coexGnt := true } }) s

/-- COEX_TIMEOUT (R217). -/
def execCoexTimeout (t : Nat) (s : State) : Host.Outcome State Fault Refusal :=
  command t (fun s =>
    onlyIf (coexEn s && !s.pins.coexGnt) (fun s =>
      denyWindow (denyAttempt (denyExchs s.uwb.exch.length (denyCal (uhfDenied s))))) s) s

/-- COEX_GRANT_WITHDRAWN (R218). -/
def execCoexGrantWithdrawn (t : Nat) (s : State) : Host.Outcome State Fault Refusal :=
  command t (fun s =>
    onlyIf (coexEn s) grantFalls
      { s with pins := { s.pins with coexGnt := false } }) s

end Sys2Proof.Machine
end

