-- ==== Sys2Proof/Machine/Fold.lean ====
section
/-! DEFINITION. Machine/Fold.lean: FOLD_OP on its way to the engine (R173, R175), its tick and its waits, and the writes of
FLD_CTL (R167 to R169, R181). -/
namespace Sys2Proof.Machine

/-! ## FOLD_OP parameters -/

/-- Range of BROADCAST's VALUE (R176, Table 06.15). -/
def valueOk (field : Nat) (v : Int) : Bool :=
  match field with
  | 1 => 0 ≤ v && v ≤ 1
  | 2 => 0 ≤ v && v ≤ 1
  | 3 => 4 ≤ v && v ≤ 64
  | 4 => -2000 ≤ v && v ≤ 2000
  | _ => true

/-- DETAIL of the first parameter at fault (Table 07.4). -/
def foldParBad (d : Desc) : Option Nat :=
  let op := p8 d 0
  if op ≥ 6 then some 32
  else if (if op = 0 ∨ op = 2 then p8 d 1 ≠ 0 else p8 d 1 > 1) then some 33
  else if op = 1 ∧ (p8 d 2 = 0 ∨ p8 d 2 > 5) then some 34
  else match (if op = 5 then none else parNonzero (if op = 1 then 3 else 2) 4 d) with
    | some det => some det
    | none =>
      if op = 1 ∧ valueOk (p8 d 2) (foldValue d) = false then some 36
      else parNonzero (if op = 1 then 8 else 4) 24 d

/-- FOLD_OP reaches the engine (R171, R173, R175, R178). -/
def foldUnit (d : Desc) (s : State) : State :=
  match foldParBad d with
  | some det => fail d stBadLen det s
  | none =>
    if p8 d 0 = 0 ∨ p8 d 0 = 3 then
      let on := (touching s.fold.live d.target s).filter (fun k => opActive k s)
      if s.fold.wait.length ≥ 8 ∧ !on.isEmpty then fail d stBusy 0 s
      else { s with fold := { s.fold with wait := s.fold.wait ++ [⟨d, on, now s + timeoutTicks d 1000⟩] } }
    else { s with fold := { s.fold with queue := s.fold.queue ++ [d] } }

/-- FOLD_OP BARRIER (R175). -/
def execFoldBarrier (t : Nat) (d : Desc) (s : State) : Host.Outcome State Fault Refusal :=
  descCommand t (asMode 0x18 0 d) foldUnit s
/-- FOLD_OP BROADCAST (R176). -/
def execFoldBroadcast (t : Nat) (d : Desc) (s : State) : Host.Outcome State Fault Refusal :=
  descCommand t (asMode 0x18 1 d) foldUnit s
/-- FOLD_OP SNAPSHOT (R177). -/
def execFoldSnapshot (t : Nat) (d : Desc) (s : State) : Host.Outcome State Fault Refusal :=
  descCommand t (asMode 0x18 2 d) foldUnit s
/-- FOLD_OP RESET (R178). -/
def execFoldReset (t : Nat) (d : Desc) (s : State) : Host.Outcome State Fault Refusal :=
  descCommand t (asMode 0x18 3 d) foldUnit s
/-- FOLD_OP RETIRE (R179). -/
def execFoldRetire (t : Nat) (d : Desc) (s : State) : Host.Outcome State Fault Refusal :=
  descCommand t (asMode 0x18 4 d) foldUnit s
/-- FOLD_OP ADOPT (R180). -/
def execFoldAdopt (t : Nat) (d : Desc) (s : State) : Host.Outcome State Fault Refusal :=
  descCommand t (asMode 0x18 5 d) foldUnit s

/-! ## B and its waits -/

/-- FOLD_BROADCAST_TICK (R171). -/
def execFoldBroadcastTick (t : Nat) (s : State) : Host.Outcome State Fault Refusal := command t foldAt s

/-- BARRIER_TIMEOUT (R175): the first wait whose TIMEOUT has ended. -/
def barrierTimeout (s : State) : State :=
  match s.fold.wait.find? (fun w => w.limit ≤ now s) with
  | none => s
  | some w => fail w.d stBusy 0 (bump FLD_CNT.WAIT_TO
      { s with fold := { s.fold with wait := s.fold.wait.filter (fun x => !sameDesc x.d w.d) } })

/-- BARRIER_TIMEOUT (R175). -/
def execBarrierTimeout (t : Nat) (s : State) : Host.Outcome State Fault Refusal := command t barrierTimeout s

/-! ## APPLY, COMMIT and DISCARD -/

/-- Ancestors of a fold, without the limit of eight levels. -/
def Tree.ancestors (t : Tree) (f : Nat) : List Nat := t.up 256 (t.foldParent f)

/-- Node identifiers of leaves and folds for which `leaf` or `fold` holds, ascending. -/
def Tree.faults (t : Tree) (leaf fold : Nat → Bool) : Option Nat :=
  match (List.range 136).find? leaf with
  | some i => some (leafNode i)
  | none => ((List.range 255).find? (fun f => t.defined f && fold f)).map (0x100 + ·)

/-- Folds and leaves with a parent. -/
def Tree.count (t : Tree) : Nat :=
  (List.range 255).countP (fun f => t.defined f) + (List.range 136).countP (fun i => t.leafParent i ≠ 255)

/-- Deepest level in use: a free leaf does not count as use (FLD_SIZE.DEPTH). -/
def Tree.deepest (t : Tree) : Nat :=
  (((List.range 255).filter (fun f => t.defined f)).map t.foldLevel ++
    ((List.range 136).filter (fun i => t.leafParent i ≠ 255)).map t.leafLevel).foldl max 0

/-- A node leaves a pinfold subtree, or a pinfold fold changes its place (Table 07.1 code 6). -/
def pinBroken (old new : Tree) (s : State) : Option Nat :=
  let pins := (List.range 255).filter (fun f => ownPin f s && old.defined f)
  let leaf (i : Nat) : Bool := pins.any (fun p => (old.leafFolds i).contains p && !(new.leafFolds i).contains p)
  match (List.range 136).find? leaf with
  | some i => some (leafNode i)
  | none =>
    ((List.range 255).find? (fun f => old.defined f &&
      ((pins.contains f && (!new.defined f || new.foldParent f != old.foldParent f)) ||
        pins.any (fun p => (old.foldFolds f).contains p && !(new.defined f && (new.foldFolds f).contains p))))).map (0x100 + ·)

/-- First failing check of Table 07.1 and the first node at fault; code 4 names no node (DESIGN CHOICE, log entry 34). -/
def treeBad (t : Tree) (s : State) : Option (Nat × Nat) :=
  let orphan (p : Nat) : Bool := p != 255 && !t.defined p
  match t.faults (fun i => orphan (t.leafParent i)) (fun f => orphan (t.foldParent f)) with
  | some n => some (1, n)
  | none =>
  match t.faults (fun _ => false) (fun f => (t.ancestors f).contains f) with
  | some n => some (2, n)
  | none =>
  match t.faults (fun i => (t.up 256 (t.leafParent i)).length ≥ 8) (fun f => (t.ancestors f).length ≥ 8) with
  | some n => some (3, n)
  | none =>
  if t.count > 383 then some (4, 0) else
  match t.faults (fun i => t.leafParent i != 255 && !leafPresent i s) (fun _ => false) with
  | some n => some (5, n)
  | none => (pinBroken s.fold.live t s).map (fun n => (6, n))

/-- A write of FLD_CTL.APPLY (R167). -/
def applyTree (s : State) : State :=
  if s.fold.pend.isSome then s
  else
    match treeBad s.fold.staging s with
    | some (code, node) =>
      setFld FLD_STATUS.APPLY_ERR code (setFld FLD_STATUS.ERR_NODE node (bump FLD_CNT.APPLY_FAIL s))
    | none =>
      setFld FLD_STATUS.APPLY_ERR 0 (setFld FLD_STATUS.ERR_NODE 0 (setFld FLD_STATUS.PEND 1
        { s with fold := { s.fold with pend := some s.fold.staging } }))

/-- FOLD_TREE_LIVE (R168). -/
def execFoldTreeLive (t : Nat) (s : State) : Host.Outcome State Fault Refusal :=
  command t (fun s => onlyIf s.fold.op.isNone makeLive s) s

/-- A write of FLD_CTL.DISCARD (R181). -/
def discardTree (s : State) : State := { s with fold := { s.fold with staging := s.fold.live } }

end Sys2Proof.Machine
end

