-- ==== Sys2Proof/Machine/Pin.lean ====
section
/-! DEFINITION. Machine/Pin.lean: pinfold: failures, engagement, expiry, the tracker, the stored record and shortening
(R279 to R286). -/
namespace Sys2Proof.Machine

/-- PTIME (R280). -/
def ptime (s : State) : Nat := fld FLK_PTIME.PTIME s

/-- Failures of an entry's window: at most 60 s old (R281). -/
def PinEntry.window (p : Nat) (e : PinEntry) : List Nat := e.fails.filter (fun f => p - f ≤ 60)

/-- The entry remembers an engagement that ended less than 86,400 s ago (R283). -/
def PinEntry.memory (p : Nat) (e : PinEntry) : Bool := match e.ended with | some x => p - x < 86400 | none => false

/-- The fold keeps its entry (R283). -/
def PinEntry.kept (p : Nat) (e : PinEntry) : Bool :=
  e.fails.any (fun f => p - f < 60) || e.till.isSome || e.memory p

/-- Newest failure of an entry. -/
def PinEntry.newest (e : PinEntry) : Nat := e.fails.foldl max 0

/-- Class in which an entry is taken away (R283): 1, 2, 3; 0 for one in own pinfold. -/
def PinEntry.cls (p : Nat) (e : PinEntry) : Nat :=
  if e.till.isSome then 0
  else if !e.fails.any (fun f => p - f < 60) then 2
  else if e.memory p then 3 else 1

/-- The time by which entries of one class are ordered (R283). -/
def PinEntry.age (p : Nat) (e : PinEntry) : Nat := if e.cls p = 2 then e.ended.getD 0 else e.newest

/-- The entry to take away: the lowest class, the oldest in it (R283). -/
def victim (p : Nat) (l : List PinEntry) : Option PinEntry :=
  (l.filter (fun e => e.cls p ≠ 0)).foldl (fun b e =>
    match b with
    | none => some e
    | some x => if e.cls p < x.cls p ∨ (e.cls p = x.cls p ∧ e.age p < x.age p) then some e else b) none

/-- A fresh entry of a fold. -/
def PinEntry.fresh (f : Nat) : PinEntry := { fold := f, fails := [], level := none, till := none, ended := none }

/-- The tracker with the entries that no longer need their place gone (R283). -/
def pruned (s : State) : List PinEntry := s.flk.track.filter (fun e => e.kept (ptime s))

/-- Sets the tracker. -/
def setTrack (l : List PinEntry) (s : State) : State := { s with flk := { s.flk with track := l } }

/-- Replaces a fold's entry. -/
def putEntry (e : PinEntry) (s : State) : State :=
  setTrack (s.flk.track.map (fun x => if x.fold = e.fold then e else x)) s

/-- The entry of a fold. -/
def entryOf (f : Nat) (s : State) : Option PinEntry := s.flk.track.find? (fun e => e.fold = f)

/-- Descendant folds of a fold that no other fold holds in pinfold (Table 12.8). -/
def pinDescendants (f : Nat) (s : State) : Nat :=
  let t := s.fold.live
  (List.range 255).countP (fun g => g ≠ f && t.defined g && t.below g f
    && !((t.up 8 g).filter (· ≠ f)).any (fun h => ownPin h s))

/-- A PINFOLD event (R286, Table 12.8). -/
def pinEvent (f kind level fails secs folds : Nat) (s : State) : State :=
  if flag FLK_CTL.PIN_EVT s then
    post 0x05 0 ([byteOf f, byteOf kind, byteOf level, byteOf fails] ++ leBytes 4 secs ++ leBytes 4 (ptime s)
      ++ [byteOf (sat 8 folds), 0]) s
  else s

/-! ## The stored record -/

/-- A stored option: 0xFFFFFFFF for none. -/
def optWord (o : Option Nat) : Bytes := leBytes 4 (o.getD 0xFFFFFFFF)

/-- Reads it back. -/
def wordOpt (n : Nat) : Option Nat := if n = 0xFFFFFFFF then none else some n

/-- 36 bytes of an entry. -/
def pinEntryBytes (e : PinEntry) : Bytes :=
  [byteOf e.fold, byteOf (e.level.getD 0xFF), byteOf (min e.fails.length 5), 0]
    ++ ((List.range 5).map (fun i => leBytes 4 (e.fails.getD i 0))).flatten ++ optWord e.till ++ optWord e.ended ++ leBytes 4 0

/-- An entry of the record. -/
def parsePinEntry (b : Bytes) : PinEntry :=
  { fold := byteAt 0 b
    level := if byteAt 1 b = 0xFF then none else some (byteAt 1 b)
    fails := (List.range (byteAt 2 b)).map (fun i => leAt (4 + 4 * i) 4 b)
    till := wordOpt (leAt 24 4 b)
    ended := wordOpt (leAt 28 4 b) }

/-- Writes the pinfold record: counter 253 first, whose new value it carries (R284). -/
def storePin (s : State) : State :=
  let l := pruned s
  let r := tallyStep 253 1 (setTrack l s)
  let v := match r.2 with | .done v _ _ _ => v | _ => tallyVal 253 r.1
  let s1 := { r.1 with flk := { r.1.flk with pinRecAt := ptime s } }
  (recStore recPin (leBytes 4 (ptime s) ++ leBytes 6 v ++ [byteOf l.length, 0] ++ (l.map pinEntryBytes).flatten) s1).1

/-! ## Failures, engagement and expiry -/

/-- A fold enters own pinfold (R281, R282). -/
def engage (e : PinEntry) (s : State) : State :=
  let p := ptime s
  let again : Bool := match e.ended with | some x => decide (p - x ≤ 86400) | none => false
  let level := if again then min 4 (e.level.getD 0 + 1) else 0
  let secs := 180 * 2 ^ level
  let folds := pinDescendants e.fold s
  let s1 := putEntry { e with fails := [], level := some level, till := some (p + secs) } s
  let s2 := append 0x32 e.fold (level + 256 * secs) (bump FLK_PIN_CNT.ENGAGED s1)
  pinEvent e.fold 1 level 5 secs folds s2

/-- A failure is added to an entry; the fifth within 60 s engages (R281). -/
def addFailure (e : PinEntry) (s : State) : State :=
  let l := e.window (ptime s) ++ [ptime s]
  if l.length ≥ 5 then engage { e with fails := l } s else putEntry { e with fails := l } s

/-- Counts a failure toward one fold (R279, R283); answers whether it was counted. -/
def countToward (f : Nat) (s : State) : State × Bool :=
  if ownPin f s then (s, false)
  else
    let s1 := setTrack (pruned s) s
    match entryOf f s1 with
    | some e => (addFailure e s1, true)
    | none =>
      if s1.flk.track.length < 32 then
        (addFailure (PinEntry.fresh f) (setTrack (s1.flk.track ++ [PinEntry.fresh f]) s1), true)
      else
        match victim (ptime s1) s1.flk.track with
        | some v =>
          let l := s1.flk.track.filter (fun x => x.fold ≠ v.fold) ++ [PinEntry.fresh f]
          (addFailure (PinEntry.fresh f) (setTrack l s1), true)
        | none => (pinEvent f 5 0 0 0 0 (append 0x36 f 0 (setFld FLK_STATUS.TRACK_FULL 1 s1)), false)

/-- The attribution fold of a poll's TARGET or a coil's leaf; 255 for none (R279). -/
def attribution (t : Tree) (node : Nat) : Nat :=
  match leafIndex node, foldIndex node with
  | some i, _ => t.leafParent i
  | none, some f => f
  | none, none => 255

/-- A failure counts toward the attribution fold and up to PIN_UP of its ancestors, and the record is written once
(R279, R284; DEDUCED, log entry 18). -/
def countFailure (f : Nat) (s : State) : State :=
  if f ≥ 255 ∨ s.fold.live.defined f = false then s
  else
    let fs := f :: (s.fold.live.foldFolds f).take (fld FLK_CTL.PIN_UP s)
    let r := fs.foldl (fun (a : State × Bool) g => let x := countToward g a.1; (x.1, a.2 || x.2)) (s, false)
    if r.2 then storePin r.1 else r.1

/-- The own pinfold of an entry ends (R282). -/
def expire (e : PinEntry) (s : State) : State :=
  let s1 := putEntry { e with till := none, ended := if e.level.isSome then some (ptime s) else none } s
  pinEvent e.fold 2 (e.level.getD 0) (e.window (ptime s)).length 0 0 (append 0x33 e.fold 0 s1)

/-- PINFOLD_EXPIRY (R282): every engagement whose end PTIME has reached. -/
def expireDue (s : State) : State :=
  let due := s.flk.track.filter (fun e => match e.till with | some x => x ≤ ptime s | none => false)
  if due.isEmpty then s else storePin (due.foldl (fun s e => expire e s) s)

/-- PINFOLD_EXPIRY (R282). -/
def execPinfoldExpiry (t : Nat) (s : State) : Host.Outcome State Fault Refusal := command t expireDue s

/-- PTIME_ADVANCE (R280): a second is credited for every 38,400,000 ticks, the remainder carried forward. -/
def execPtimeAdvance (t : Nat) (s : State) : Host.Outcome State Fault Refusal :=
  command t (fun s =>
    onlyIf (s.flk.ptimeAt + secTicks 1 ≤ now s) (fun s =>
      setFld FLK_PTIME.PTIME ((ptime s + 1) % 2 ^ 32)
        { s with flk := { s.flk with ptimeAt := s.flk.ptimeAt + secTicks 1 } }) s) s

/-- PINFOLD_RECORD_PERIODIC (R284). -/
def execPinfoldRecordPeriodic (t : Nat) (s : State) : Host.Outcome State Fault Refusal :=
  command t (fun s => onlyIf (!(pruned s).isEmpty && s.flk.pinRecAt + 10 ≤ ptime s) storePin s) s

/-! ## Loading -/

/-- Reads the pinfold record at a configuration load (R284): PTIME and the entries, and a failure more for each
window when a record write was lost. `ptimeToo` at a power-on reset, where PTIME resumes from the record (R280). -/
def loadPin (ptimeToo : Bool) (s : State) : State :=
  match recRead recPin s with
  | none => s
  | some b =>
    let es := (List.range (byteAt 10 b)).map (fun i => parsePinEntry (slice (12 + 36 * i) 36 b))
    let s1 := setTrack es (if ptimeToo then setFld FLK_PTIME.PTIME (leAt 0 4 b) s else s)
    if tallyVal 253 s1 > leAt 4 6 b then
      let hit := es.filter (fun e => !(e.window (ptime s1)).isEmpty && e.till.isNone)
      let s2 := hit.foldl (fun s e =>
        let n := (e.window (ptime s)).length + 1
        addFailure e (pinEvent e.fold 4 (e.level.getD 0) n 0 0 s)) s1
      let s3 := append 0x35 0 hit.length (setFld FLK_STATUS.PIN_LOST 1 s2)
      if hit.isEmpty then s3 else storePin s3
    else s1

/-! ## Reports and shortening -/

/-- Result bytes of FLOCK_STATUS PIN (Table 12.6). -/
def pinResult (f : Nat) (s : State) : Bytes :=
  let t := s.fold.live
  let up := t.foldFolds f
  let p := ptime s
  match (pruned s).find? (fun e => e.fold = f) with
  | some e =>
    [byteOf (b2n e.till.isSome + 2 * b2n (anyPin up s)), byteOf (e.level.getD 0xFF), byteOf (e.window p).length,
     byteOf ((up.find? (fun g => ownPin g s)).getD 0xFF)]
      ++ leBytes 4 ((e.till.getD p) - p) ++ leBytes 4 (match e.ended with | some x => p - x | none => 0xFFFFFFFF) ++ [0, 0]
  | none =>
    [byteOf (2 * b2n (anyPin up s)), 0xFF, 0, byteOf ((up.find? (fun g => ownPin g s)).getD 0xFF)]
      ++ leBytes 4 0 ++ leBytes 4 0xFFFFFFFF ++ [0, 0]

/-- FLOCK_STATUS SHORTEN (R285). -/
def shorten (f newS : Nat) (clear : Bool) (s : State) : State :=
  match (pruned s).find? (fun e => e.fold = f) with
  | none => s
  | some e =>
    let p := ptime s
    let left := (e.till.getD p) - p
    let cuts := e.till.isSome && newS < left
    let clears := clear && (!e.fails.isEmpty || e.level.isSome || e.ended.isSome)
    if !cuts && !clears then s
    else
      let e1 := if cuts then { e with till := some (p + newS) } else e
      let e2 := if clear then { e1 with fails := [], level := none, ended := none } else e1
      let remain := (e2.till.getD p) - p
      let s1 := putEntry e2 (setTrack (pruned s) s)
      let s2 := append 0x34 f (remain % 65536 + 65536 * b2n clear) s1
      let s3 := pinEvent f 3 (e.level.getD 0) (e2.window p).length remain 0 s2
      let s4 := if e2.till.isSome && newS = 0 && cuts then expire { e2 with till := some p } s3 else s3
      storePin s4

end Sys2Proof.Machine
end

