-- ==== Sys2Proof/Machine/Tmr.lean ====
section
/-! DEFINITION. Machine/Tmr.lean: timer channels, captures and GPIO functions (R388 to R406). -/
namespace Sys2Proof.Machine

/-- Channel `n`. -/
def chan (n : Nat) (s : State) : Channel := s.tmr.ch.getD n Channel.off

/-- Replaces channel `n`. -/
def setChan (n : Nat) (c : Channel) (s : State) : State := { s with tmr := { s.tmr with ch := s.tmr.ch.set n c } }

/-- TMR_STATUS.RES (Table 17.1). -/
def tmrRes (s : State) : Nat :=
  if tbRuns s = false then 3
  else match s.clk.content with
    | .fast38 => 0
    | .fast19 => if coarse s then 1 else 0
    | .slow => 2
    | _ => 3

/-- FLK_START_CTL.EN: channels 29 and 30 serve STARTEN (R390, R405). -/
def startEn (s : State) : Bool := flag FLK_START_CTL.EN s

/-- TMR_RESV (R390). -/
def tmrResv (s : State) : Nat := 0x80000000 + (if startEn s then 0x60000000 else 0)

/-- A word with a bit per channel. -/
def chanBits (p : Channel → Bool) (s : State) : Nat :=
  packBits 32 (fun n => p (chan n s))

/-! ## Pins -/

/-- FUNC of GPIO `g` (R403). -/
def pinFunc (g : Nat) (s : State) : Nat := fld (TMR_PINFn.FUNC (g / 4) (g % 4)) s

/-- CH of GPIO `g`. -/
def pinCh (g : Nat) (s : State) : Nat := fld (TMR_PINFn.CH (g / 4) (g % 4)) s

/-- Level of GPIO `g` as its function drives it; an input keeps the level it was last seen at (R403). -/
def pinLevel (g : Nat) (s : State) : Bool :=
  match pinFunc g s with
  | 1 => false
  | 2 => true
  | 3 => (chan (pinCh g s) s).out
  | 4 =>
    (match s.tmr.pulses.find? (fun p => p.pin = g) with
     | some p => p.level
     | none => pinCh g s % 2 == 1)
  | _ => s.pins.gpio.getLsbD g

/-- Brings the pads in line with their functions (R395, R403). -/
def drivePins (s : State) : State :=
  let w := packBits 24 (fun g => pinLevel g s)
  { s with pins := { s.pins with gpio := BitVec.ofNat 24 w } }

/-- A byte of TMR_PINFn is in range for GPIO `g` (R403). -/
def pinfOk (g v : Nat) : Bool :=
  let f := v % 8
  let c := v / 8
  if f = 3 then true
  else if f = 4 then c ≤ 1
  else if f = 5 then (g == 22 || g == 23) && c == 0
  else f ≤ 2 && c == 0

/-- Gives GPIO `g` the function byte `v` (R403): leaving FUNC 4 ends a pulse, leaving FUNC 5 makes the monitor
unreachable. -/
def setPinf (g v : Nat) (s : State) : State :=
  if pinfOk g v = false then setFld TMR_STATUS.ERR_RANGE 1 s
  else
    let was := pinFunc g s
    let s1 := setFld (TMR_PINFn.CH (g / 4) (g % 4)) (v / 8) (setFld (TMR_PINFn.FUNC (g / 4) (g % 4)) (v % 8) s)
    let s2 := if v % 8 = 4 then s1
      else { s1 with tmr := { s1.tmr with pulses := s1.tmr.pulses.filter (fun p => p.pin ≠ g) } }
    if was = 5 ∧ v % 8 ≠ 5 then { s2 with mon := { s2.mon with gone := true } } else s2

/-- A write to TMR_PINFn (R403). -/
def writePinf (n : Nat) (w : Word) (s : State) : State :=
  drivePins ((List.range 4).foldl (fun s j => setPinf (4 * n + j) (bits (8 * j + 7) (8 * j) w.toNat) s) s)

/-- Starts or restarts a verdict pulse of `width` in 0.1 ms (R258). -/
def startPulse (g width : Nat) (level : Bool) (s : State) : State :=
  drivePins { s with tmr := { s.tmr with
    pulses := s.tmr.pulses.filter (fun p => p.pin ≠ g) ++ [⟨g, now s + width * 3840, level⟩] } }

/-- GPIO_PULSE_END (R403): the pin returns to IDLE. -/
def execGpioPulseEnd (t pin : Nat) (s : State) : Host.Outcome State Fault Refusal :=
  command t (fun s => onlyIf (s.tmr.pulses.any (fun p => p.pin == pin && p.stop ≤ now s))
    (fun s => drivePins { s with tmr := { s.tmr with pulses := s.tmr.pulses.filter (fun p => p.pin ≠ pin) } }) s) s

/-! ## TIMER_CFG -/

/-- EVT_MATCH of an ACT byte. -/
def actEvtMatch (a : Nat) : Bool := bit 4 a
/-- EVT_OVF of an ACT byte. -/
def actEvtOvf (a : Nat) : Bool := bit 5 a

/-- ACT fits the mode (Table 17.5). -/
def actOk (mode a : Nat) : Bool :=
  !(bit 7 a && bit 6 a) && (if mode = 0 then a % 64 == 0 else if mode = 1 then a % 4 == 0 else true)

/-- First parameter byte at fault (R400). -/
def cfgParBad (d : Desc) : Option Nat :=
  let m := p8 d 0
  let a := p8 d 4
  if m > 3 then some 0
  else if p8 d 1 > (if m = 1 then 31 else 0) then some 1
  else if p8 d 2 > (if m = 1 then 1 else 0) then some 2
  else if p8 d 3 > (if m = 1 then 15 else 0) then some 3
  else if actOk m a = false then some 4
  else if p8 d 5 ≠ 0 then some 5
  else if p8 d 6 ≠ 0 then some 6
  else if p8 d 7 ≠ 0 then some 7
  else if m < 2 ∧ p32 d 8 ≠ 0 then some 8
  else if (if m = 3 then p32 d 12 < (if actEvtMatch a then 3840 else 2) || p32 d 12 ≥ 2 ^ 31 else p32 d 12 != 0) then
    some 12
  else if m ≠ 3 ∧ p32 d 16 ≠ 0 then some 16
  else (parNonzero 20 24 d).map (· - 32)

/-- A channel that host software may not configure (R390, R398, R400). -/
def cfgReserved (n : Nat) (s : State) : Bool := n == 31 || ((n == 29 || n == 30) && startEn s)

/-- The arming at tick `e` with compare value `c` is late (R391). -/
def lateArm (e c : Nat) : Bool :=
  let x := (e + 2 ^ 32 - c % 2 ^ 32) % 2 ^ 32
  1 ≤ x && x ≤ 2 ^ 31 - 1

/-- Compare value `c` fires at tick `t` (R391). -/
def fires (t c : Nat) : Bool := (t + 2 ^ 32 - c % 2 ^ 32) % 2 ^ 32 < 2 ^ 31

/-- The tick of the next match of compare value `c`, low 32 bits (R401): `c` itself or the first evaluated tick after
it. -/
def nextMatch (c : Nat) (s : State) : Nat :=
  if fires (now s) c then now s % 2 ^ 32
  else if tbRuns s then now (elapse (now s + (c + 2 ^ 32 - now s % 2 ^ 32) % 2 ^ 32) s) % 2 ^ 32
  else c

/-- The channel as a TIMER_CFG at tick `e` leaves it (R392, R400). -/
def configured (d : Desc) (e : Nat) (c : Channel) : Channel :=
  let m := p8 d 0
  { c with
    mode := m
    src := p8 d 1
    order := p8 d 2
    filt := p8 d 3
    act := p8 d 4
    c := p32 d 8
    period := p32 d 12
    left := if m = 3 ∧ p32 d 16 ≠ 0 then some (p32 d 16) else none
    out := if bit 7 (p8 d 4) then c.out else bit 6 (p8 d 4)
    armed := m != 0
    late := m ≥ 2 && lateArm e (p32 d 8)
    since := e }

/-- TIMER_CFG (R392, R400, R401): the tick of the command is E. -/
def cfgUnit (d : Desc) (s : State) : State :=
  if cfgReserved d.target s then fail d stBadHandle 4 s
  else match cfgParBad d with
  | some i => fail d stBadLen (32 + i) s
  | none =>
    let old := chan d.target s
    let c := configured d (now s) old
    let s1 := drivePins (setChan d.target c s)
    let s2 := if c.late then setFld TMR_STATUS.LATE_SEEN 1 s1 else s1
    complete d stOk (leBytes 4 (now s) ++ [byteOf (b2n c.late + 2 * b2n c.out), byteOf old.mode, 0, 0]
      ++ leBytes 4 (if c.mode ≥ 2 then nextMatch c.c s2 else 0)) 0 s2

/-- TIMER_CFG (R400). -/
def execTimerCfg (t : Nat) (d : Desc) (s : State) : Host.Outcome State Fault Refusal :=
  descCommand t (asOp 0x60 d) cfgUnit s

/-! ## TIMER_READ -/

/-- FLAGS of a TIMER_READ record (Table 17.6). -/
def chanFlags (c : Channel) : Nat :=
  b2n c.fresh + 2 * b2n c.overrun + 4 * b2n c.out + 8 * b2n c.armed + 16 * b2n c.late + 32 * b2n c.credit

/-- The 32-byte record (Table 17.6). -/
def chanRecord (c : Channel) : Bytes :=
  leBytes 8 c.rise ++ leBytes 8 c.fall ++ leBytes 4 c.width ++ leBytes 2 c.caps ++ [byteOf (chanFlags c), byteOf c.mode]
    ++ leBytes 4 (if c.mode ≥ 2 then c.c else 0) ++ leBytes 2 c.missed ++ [0, 0]

/-- TIMER_READ (R397, R402): a record that cannot be written leaves the live channel as it was. -/
def readUnit (d : Desc) (s : State) : State :=
  reserved 0 d (fun s =>
    let c := chan d.target s
    writeDst d (chanRecord c) (fun s =>
      complete d stOk (leBytes 8 (now s) ++ [byteOf (chanFlags c), byteOf c.mode]) 0
        (setChan d.target { c with fresh := false, overrun := false, caps := 0, missed := 0 } s)) s) s

/-- TIMER_READ (R402). -/
def execTimerRead (t : Nat) (d : Desc) (s : State) : Host.Outcome State Fault Refusal :=
  descCommand t (asOp 0x61 d) readUnit s

/-! ## Matches, overflows and captures -/

/-- An action code on OUT (R395): 0 none, 1 set, 2 clear, 3 toggle. -/
def actOut (a : Nat) (b : Bool) : Bool := if a = 1 then true else if a = 2 then false else if a = 3 then !b else b

/-- The channel after a match at tick `t` (R393), with the number of periods skipped. -/
def matched (t : Nat) (credit : Bool) (c : Channel) : Channel × Nat :=
  let out := actOut (c.act % 4) c.out
  if c.mode = 3 then
    let k := (t + 2 ^ 32 - c.c % 2 ^ 32) % 2 ^ 32 / c.period + 1
    let left := c.left.map (· - 1)
    let stop := left == some 0
    ({ c with out := out, credit := credit, c := (c.c + k * c.period) % 2 ^ 32, missed := sat 16 (c.missed + (k - 1))
              late := false, left := left, mode := if stop then 0 else 3, armed := !stop }, k - 1)
  else ({ c with out := out, credit := credit, armed := false }, 0)

/-- A COMPARE event (Table 17.4). -/
def compareEvt (n kind c : Nat) (late credit out : Bool) (missed : Nat) (s : State) : State :=
  post 0x03 0 ([byteOf n, byteOf kind, byteOf (b2n late + 2 * b2n credit + 4 * b2n out), 0] ++ leBytes 4 c
    ++ leBytes 2 missed) s

/-- The overflow of channel `n` (R394, R395, R399). -/
def overflowAt (credit : Bool) (n : Nat) (s : State) : State :=
  let c := chan n s
  if c.mode = 0 ∨ n ≥ 31 ∨ ((n = 29 ∨ n = 30) ∧ startEn s = true) then s
  else
    let c1 := { c with out := actOut (c.act / 4 % 4) c.out }
    let s1 := setChan n c1 s
    if actEvtOvf c.act then compareEvt n 2 0 false credit c1.out 0 s1 else s1

/-- TIMEBASE[31:0] has passed through 0 since the last overflow (R394). -/
def overflowDue (s : State) : Bool := decide (s.tmr.wraps < now s / 2 ^ 32)

/-- The overflow of every channel (R394). -/
def runOverflow (credit : Bool) (s : State) : State :=
  drivePins ((List.range 32).foldl (fun s n => overflowAt credit n s) { s with tmr := { s.tmr with wraps := now s / 2 ^ 32 } })

/-- A match of channel `n` (R391, R393, R395, R399). -/
def matchAt (n : Nat) (credit : Bool) (s : State) : State :=
  let c := chan n s
  let r := matched (now s) credit c
  let s1 := drivePins (setChan n r.1 s)
  let s2 := if r.2 > 0 then setFld TMR_STATUS.MISS_SEEN 1 (addFld TMR_CNT.MISSED r.2 s1) else s1
  if actEvtMatch c.act then compareEvt n 1 c.c c.late credit r.1.out r.2 s2 else s2

/-- TIMER_COMPARE_MATCH (R391). An overflow of the same tick goes first (R395). -/
def execTimerCompareMatch (t n : Nat) (credit : Bool) (s : State) : Host.Outcome State Fault Refusal :=
  command t (fun s =>
    let c := chan n s
    onlyIf (n < 32 && c.mode ≥ 2 && c.armed && fires (now s) c.c && !((n == 29 || n == 30) && startEn s) && tbRuns s)
      (fun s => matchAt n credit (onlyIf (overflowDue s) (runOverflow credit) s)) s) s

/-- TIMER_OVERFLOW (R394): TIMEBASE[31:0] has passed through 0 since the last overflow. -/
def execTimerOverflow (t : Nat) (credit : Bool) (s : State) : Host.Outcome State Fault Refusal :=
  command t (fun s => onlyIf (overflowDue s) (runOverflow credit) s) s

/-- The channel after a completed pair (R396). -/
def captured (first second : Nat) (credit : Bool) (c : Channel) : Channel :=
  { c with
    rise := if c.order = 0 then first else second
    fall := if c.order = 0 then second else first
    width := sat 32 (second - first)
    overrun := c.overrun || c.fresh
    fresh := true
    caps := sat 16 (c.caps + 1)
    credit := credit }

/-- A completed pair of channel `n` (R396, R399). -/
def captureAt (n first second : Nat) (credit : Bool) (s : State) : State :=
  let c := chan n s
  let c1 := captured first second credit c
  let s1 := if c.fresh then setFld TMR_STATUS.OVR_SEEN 1 (bump TMR_CNT.OVERRUN s) else s
  let quiet := match c.evtAt with | some x => second < x + 3840 | none => false
  if actEvtMatch c.act && !quiet then
    postAt 0x02 0 second ([byteOf n, byteOf (b2n c1.overrun + 2 * b2n credit + 4 * c.order)] ++ leBytes 4 c1.width
      ++ leBytes 8 first) (setChan n { c1 with evtAt := some second } s1)
  else setChan n c1 s1

/-- Ticks between evaluated ticks (Table 17.1). -/
def evalStep (s : State) : Nat := match tmrRes s with | 1 => 2 | 2 => 1171 | _ => 1

/-- The level of a WAKE pin (TMR_PIN_IN). -/
def seeWake (pin : Nat) (level : Bool) (s : State) : State :=
  { s with pins := { s.pins with
    wake := BitVec.ofNat 8 (packBits 8 (fun i => if i = pin then level else s.pins.wake.getLsbD i)) } }

/-- The level that a capture source is at after a pair: a WAKE pin, or a pad with an input function, is seen there
(R403). -/
def seePin (src : Nat) (level : Bool) (s : State) : State :=
  if src < 24 ∧ (pinFunc src s = 0 ∨ pinFunc src s = 5) then
    let w := packBits 24 (fun g => if g = src then level else s.pins.gpio.getLsbD g)
    { s with pins := { s.pins with gpio := BitVec.ofNat 24 w } }
  else if 24 ≤ src ∧ src < 32 then seeWake (src - 24) level s
  else s

/-- The evaluated tick at which an edge of tick `x` is sampled, in the past of the present one (R389, Table 17.1): even
under Fast 19.2 without PLL_SYS, and under slow content the tick reached at a slow edge (R65, R67). -/
def sampledAt (x : Nat) (s : State) : Nat :=
  match tmrRes s with
  | 1 => x + x % 2
  | 2 =>
    let all := 8 * now s + s.clk.frac
    (all - (all - 8 * x) / 9375 * 9375) / 8
  | _ => x

/-- TIMER_CAPTURE_PAIR (R396): an accepted first edge at or after E, and a second edge that has held for FILT further
evaluated ticks; each is stamped with the evaluated tick at which it was sampled (R389). -/
def execTimerCapturePair (t n edge1 edge2 : Nat) (credit : Bool) (s : State) : Host.Outcome State Fault Refusal :=
  command t (fun s =>
    let c := chan n s
    let first := sampledAt edge1 s
    let second := sampledAt edge2 s
    onlyIf (n < 31 && c.mode == 1 && c.since ≤ first && first + (c.filt + 1) * evalStep s ≤ second
        && second + c.filt * evalStep s ≤ now s && tbRuns s)
      (fun s => captureAt n first second credit (seePin c.src (c.order == 1) s)) s) s

end Sys2Proof.Machine
end

