-- ==== Sys2Proof/Machine/Immo.lean ====
section
/-! DEFINITION. Machine/Immo.lean: the start permission and STARTEN (R287 to R290), the CAN FD immobiliser and its
pairing (R291 to R297). -/
namespace Sys2Proof.Machine

/-! ## Driver of record -/

/-- Sets the driver of record and the co-driver; a change is recorded (R287). -/
def setDriver (dor co : Nat) (present : Bool) (s : State) : State :=
  let changed := dor ≠ fld FLK_DRIVER.DOR s ∨ co ≠ fld FLK_DRIVER.CO s
  let s1 := setFld FLK_DRIVER.DOR dor (setFld FLK_DRIVER.CO co (setFlag FLK_DRIVER.CO_PRESENT present s))
  if changed then append 0x29 dor (co + 256 * b2n present) s1 else s1

/-- The driver of record is cleared (R276, R287). -/
def clearDriver (s : State) : State :=
  setDriver 0xFF (fld FLK_DRIVER.CO s) (flag FLK_DRIVER.CO_PRESENT s) s

/-! ## Start permission -/

/-- The permission ends with a reason (Table 12.9); `code` is the REASON of START_REVOKE. -/
def endPermission (reason code : Nat) (s : State) : State :=
  match s.flk.perm with
  | none => s
  | some _ =>
    clearDriver (append 0x2B reason code (setFld FLK_STATUS.START_ACTIVE 0 (setFld FLK_STATUS.END_REASON reason
      { s with flk := { s.flk with perm := none } })))

/-- A STARTEN GRANT of gate `g` for flock slot `slot` (R289). -/
def grantStart (slot g : Nat) (s : State) : State :=
  if startEn s = false then s
  else
    let p : Permission := { slot := slot, grant := now s, hold := fld FLK_START_CTL.HOLD_S s }
    let s1 := setFld FLK_STATUS.START_ACTIVE 1 { s with flk := { s.flk with perm := some p } }
    if s.flk.perm.isSome then s1 else append 0x2A slot g s1

/-- START_HOLD_EXPIRY (R289). -/
def execStartHoldExpiry (t : Nat) (s : State) : Host.Outcome State Fault Refusal :=
  command t (fun s =>
    match s.flk.perm with
    | some p => onlyIf (p.hold != 0 && p.grant + secTicks p.hold ≤ now s) (endPermission 3 0) s
    | none => s) s

/-- Bytes 0 to 9 of START_REVOKE's result (R290). -/
def revokeResult (was : Bool) (s : State) : Bytes := [byteOf (b2n was), 0] ++ leBytes 8 s.flk.lastEdge

/-- START_REVOKE (R290). It completes after the static edge; with the lines static already, at once. -/
def revokeUnit (d : Desc) (s : State) : State :=
  reserved 1 d (fun s =>
    let was := s.flk.perm.isSome
    let s1 := endPermission 2 (p8 d 0) s
    if s1.pins.startA || s1.pins.startB then { s1 with flk := { s1.flk with revoke := s1.flk.revoke ++ [(d, was)] } }
    else complete d stOk ([byteOf (b2n was), 0] ++ leBytes 8 s1.flk.lastEdge) 0 s1) s

/-- START_REVOKE (R290). -/
def execStartRevoke (t : Nat) (d : Desc) (s : State) : Host.Outcome State Fault Refusal :=
  descCommand t (asOp 0x3B d) revokeUnit s

/-- Levels of the STARTEN lines, on the pads and in channels 29 and 30 (R288, R405). -/
def setStarten (a b : Bool) (s : State) : State :=
  let s1 := { s with
    pins := { s.pins with startA := a, startB := b }
    flk := { s.flk with lastEdge := if a = s.pins.startA ∧ b = s.pins.startB then s.flk.lastEdge else now s } }
  setChan 30 { chan 30 s1 with out := b } (setChan 29 { chan 29 s1 with out := a } s1)

/-- STARTEN_TICK (R288, R405): at a multiple of 19,200 ticks the lines start, toggle or go static, once. -/
def startenTick (s : State) : State :=
  onlyIf (now s % 19200 == 0 && (s.flk.lastEdge != now s || now s == 0)) (fun s =>
    match s.flk.perm with
    | some _ =>
      if s.pins.startA || s.pins.startB then setStarten (!s.pins.startA) (!s.pins.startB) s else setStarten true false s
    | none =>
      let s1 := setStarten false false s
      s1.flk.revoke.foldl (fun s p => complete p.1 stOk ([byteOf (b2n p.2), 0] ++ leBytes 8 s.flk.lastEdge) 0 s)
        { s1 with flk := { s1.flk with revoke := [] } }) s

/-- STARTEN_TICK (R405). -/
def execStartenTick (t : Nat) (s : State) : Host.Outcome State Fault Refusal := command t startenTick s

/-! ## CAN FD -/

/-- The CAN port works: its island is up and EN = 1 (R291). -/
def canOn (s : State) : Bool := islandOn .can s && flag FLK_CAN_CFG.EN s

/-- The controller is bus-off (R291). -/
def busOff (s : State) : Bool := fld FLK_CAN_STAT.STATE s == 2

/-- Queues a frame (R291). While the controller is not bus-off the bus takes it at once (DESIGN CHOICE, log entry
19). -/
def queueCan (f : CanFrame) (s : State) : State :=
  if s.flk.txq.length ≥ 8 then bump FLK_ECU_CNT1.DROP s
  else if busOff s || !canOn s then { s with flk := { s.flk with txq := s.flk.txq ++ [f] } }
  else { s with flk := { s.flk with canOut := f :: s.flk.canOut } }

/-- Frames of the queue go out. -/
def drainCan (s : State) : State :=
  if busOff s || !canOn s then s
  else { s with flk := { s.flk with canOut := s.flk.txq.reverse ++ s.flk.canOut, txq := [] } }

/-- CAN_BUS_OFF_RECOVERY (R291): error counters 0, error active, and the queue goes out. -/
def execCanBusOffRecovery (t : Nat) (s : State) : Host.Outcome State Fault Refusal :=
  command t (fun s => onlyIf (busOff s) (fun s =>
    drainCan (setFld FLK_CAN_STAT.STATE 0 (setFld FLK_CAN_STAT.TEC 0 (setFld FLK_CAN_STAT.REC 0 s)))) s) s

/-- VID as the MAC messages hold it, least significant byte first (R292). -/
def vidBytes (s : State) : Bytes := leBytes 3 (fld FLK_VID.VID s)

/-- The leading 8 bytes of AES-CMAC (R292). -/
def pairMac (key msg : Bytes) : Bytes := (cmac key msg).take 8

/-- The immobiliser is silent (R295). -/
def ecuSilent (s : State) : Bool := match s.flk.silent with | some (e, _, _) => decide (now s < e) | none => false

/-- Identifier as events and NAK carry it. -/
def idWord (id : Nat) (xtd : Bool) : Nat := id + 2 ^ 31 * b2n xtd

/-- Violations of the last second. -/
def recentViols (s : State) : List Nat := s.flk.viols.filter (fun v => now s < v + secTicks 1)

/-- An ECU event (Table 12.13). -/
def ecuEvent (kind reason st ecnt id : Nat) (s : State) : State :=
  if flag FLK_CTL.ECU_EVT s || kind ≥ 3 then
    post 0x0C 0 ([byteOf kind, byteOf reason, byteOf st, 0] ++ leBytes 4 ecnt ++ leBytes 4 id
      ++ leBytes 2 (recentViols s).length) s
  else s

/-- Stored form of a pairing (R292). -/
def pairBytes (p : Pairing) : Bytes :=
  leBytes 4 (p.base + 2 ^ 29 * b2n p.xtd) ++ p.key ++ leBytes 4 p.lastEcnt ++ leBytes 4 p.dcnt

/-- Reads it back. -/
def parsePair (b : Bytes) : Pairing :=
  { base := leAt 0 4 b % 2 ^ 29, xtd := bit 29 (leAt 0 4 b), key := slice 4 16 b, lastEcnt := leAt 20 4 b,
    dcnt := leAt 24 4 b }

/-- FLK_ECU_BASE and PAIRED follow the pairing. -/
def syncPair (s : State) : State :=
  match s.flk.pair with
  | some p => setFld FLK_ECU_BASE.BASE p.base (setFlag FLK_ECU_BASE.XTD p.xtd (setFld FLK_ECU_BASE.PAIRED 1
      (setFld FLK_STATUS.PAIRED 1 s)))
  | none => regSet FLK_ECU_BASE.reg 0 (setFld FLK_STATUS.PAIRED 0 s)

/-- Stores the pairing's counters (R293, R294). -/
def setPair (p : Pairing) (s : State) : State :=
  (recStore recPair (pairBytes p) { s with flk := { s.flk with pair := some p } }).1

/-- STATE of a RESPONSE (R292). -/
def respState (s : State) : Nat :=
  b2n s.flk.perm.isSome + 2 * b2n (flag FLK_DRIVER.CO_PRESENT s) + 4 * b2n (s.flk.track.any (fun e => e.till.isSome))
    + 8 * b2n (match s.flk.flock with | some f => f.slots.all (fun x => x.isNone) | none => true)

/-- A SELECT frame of a gate's CAN action (R294). -/
def queueSelect (sel : Nat) (s : State) : State :=
  match s.flk.pair with
  | none => bump FLK_ECU_CNT1.DROP s
  | some p =>
    if ecuSilent s then bump FLK_ECU_CNT1.DROP s
    else
      let q := { p with dcnt := (p.dcnt + 1) % 2 ^ 32 }
      let h := [0x20, byteOf sel, 0, 0] ++ leBytes 4 q.dcnt
      let s1 := setPair q (if s.flk.txq.length < 8 then bump FLK_ECU_CNT0.SELECT s else s)
      queueCan { id := p.base + 2, xtd := p.xtd, data := h ++ pairMac p.key (h ++ vidBytes s1) } s1

/-! ## Frames from the ECU -/

/-- The frame lies in the paired ID block (R292). -/
def inBlock (f : EcuFrame) (p : Pairing) : Bool := f.xtd == p.xtd && p.base ≤ f.id && f.id ≤ p.base + 7

/-- ECNT is ahead of LAST_ECNT (R293). -/
def ecntAhead (ecnt last : Nat) : Bool :=
  let x := (ecnt + 2 ^ 32 - last % 2 ^ 32) % 2 ^ 32
  1 ≤ x && x < 2 ^ 31

/-- A probe of the pairing in progress waits for an answer on the frame's identifier (R296). -/
def probeFrame (f : EcuFrame) (s : State) : Bool :=
  match s.flk.stage with
  | some g => g.probe.isSome && f.id == g.pair.base && f.xtd == g.pair.xtd && f.fd && f.data.length == 16
      && byteAt 0 f.data == 0x14
  | none => false

/-- REASON of a frame in the ID block that breaks the protocol (Table 12.11). -/
def violReason (f : EcuFrame) (p : Pairing) (s : State) : Option Nat :=
  if f.id ≠ p.base then some 3
  else if f.fd = false ∨ f.data.length ≠ 16 then some 1
  else if byteAt 0 f.data = 0x14 ∧ probeFrame f s = true then none
  else if byteAt 0 f.data ≠ 0x11 then some 2
  else if ecntAhead (leAt 4 4 f.data) p.lastEcnt = false then some 4
  else if allZero (slice 1 3 f.data) = false then some 5
  else none

/-- A silence starts (R295). -/
def startSilence (s : State) : State :=
  let n := (recentViols s).length
  let s1 := setFld FLK_STATUS.ECU_SILENT 1 (bump FLK_ECU_CNT1.SILENCES
    { s with flk := { s.flk with silent := some (now s + secTicks 1, [], 0) } })
  ecuEvent 3 0 0 0 0 (append 0x3A 1 n s1)

/-- ECU_SILENCE_END (R295): 16 violations in the silence's last second start a new one. -/
def silenceEnd (s : State) : State :=
  match s.flk.silent with
  | none => s
  | some (e, _, k) =>
    onlyIf (e ≤ now s) (fun s =>
      let s1 := setFld FLK_STATUS.ECU_SILENT 0 { s with flk := { s.flk with silent := none } }
      let s2 := ecuEvent 4 0 0 0 0 (append 0x3A 2 k s1)
      if k ≥ 16 then startSilence s2 else s2) s

/-- ECU_CHALLENGE (R293): a valid CHALLENGE is answered, unless the immobiliser is silent. -/
def ecuChallenge (f : EcuFrame) (s : State) : State :=
  match s.flk.pair with
  | none => s
  | some p =>
    onlyIf (canOn s && inBlock f p && (violReason f p s).isNone && byteAt 0 f.data == 0x11 && !ecuSilent s) (fun s =>
      let ecnt := leAt 4 4 f.data
      let st := respState s
      let h := [0x12, byteOf st, byteOf (fld FLK_DRIVER.DOR s), 0] ++ leBytes 4 ecnt
      let mac := pairMac p.key (h ++ slice 8 8 f.data ++ vidBytes s)
      let s1 := queueCan { id := p.base + 1, xtd := p.xtd, data := h ++ mac } s
      let s2 := setPair { p with lastEcnt := ecnt } (bump FLK_ECU_CNT0.ANSWERED s1)
      ecuEvent 1 0 st ecnt (idWord f.id f.xtd) s2) s

/-- The frame that a CAN_RX edge announced in Watch has ended (R92). -/
def frameEnds (s : State) : State := { s with pwr := { s.pwr with canAsked := false } }

/-- ECU_CHALLENGE (R293). -/
def execEcuChallenge (t : Nat) (f : EcuFrame) (s : State) : Host.Outcome State Fault Refusal :=
  command t (fun s => frameEnds (ecuChallenge f (silenceEnd s))) s

/-- ECU_VIOLATION (R295), on a device whose silence has not run out. -/
def ecuViolation (f : EcuFrame) (s : State) : State :=
  match s.flk.pair with
  | none => s
  | some p =>
    match violReason f p s with
    | none => s
    | some r =>
      onlyIf (canOn s && inBlock f p) (fun s =>
        let s1 := bump FLK_ECU_CNT1.VIOL { s with flk := { s.flk with viols := recentViols s ++ [now s] } }
        match s1.flk.silent with
        | some (e, l, k) => { s1 with flk := { s1.flk with silent := some (e, l, k + 1) } }
        | none =>
          let w := idWord f.id f.xtd
          let s2 := append 0x39 r (f.id % 2 ^ 24) (queueCan
            { id := p.base + 3, xtd := p.xtd, data := [0x1F, byteOf r, 0, 0] ++ leBytes 4 w } s1)
          let s3 := ecuEvent 2 r 0 (if r = 4 ∨ r = 5 then leAt 4 4 f.data else 0) w s2
          if s3.flk.viols.length ≥ 16 then startSilence s3 else s3) s

/-- ECU_VIOLATION (R295). -/
def execEcuViolation (t : Nat) (f : EcuFrame) (s : State) : Host.Outcome State Fault Refusal :=
  command t (fun s => frameEnds (ecuViolation f (silenceEnd s))) s

/-- ECU_SILENCE_END (R295). -/
def execEcuSilenceEnd (t : Nat) (s : State) : Host.Outcome State Fault Refusal := command t silenceEnd s

/-! ## Pairing -/

/-- IDW of a blob. -/
def blobIdw (b : Bytes) : Nat := leAt 4 4 b

/-- The blob's form (R296 check 1). -/
def pairBlobOk (b : Bytes) : Bool :=
  let w := blobIdw b
  leAt 0 4 b == 0xB1E50004 && w / 2 ^ 30 == 0 && leAt 12 4 b == 0
    && (if bit 29 w then w % 2 ^ 29 ≤ 0x1FFFFFF8 else w % 2 ^ 29 ≤ 0x7F8)

/-- The pairing of a blob with its K_pair. -/
def pairOfBlob (b k : Bytes) : Pairing :=
  { base := blobIdw b % 2 ^ 29, xtd := bit 29 (blobIdw b), key := k, lastEcnt := leAt 8 4 b, dcnt := 0 }

/-- The blob's CMAC verifies (R296 check 4). -/
def pairCmacOk (b k : Bytes) : Bool := cmac k (b.take 40) == slice 40 16 b

/-- Result bytes of IMMO_PAIR (Table 12.12). -/
def pairResult (probed : Bool) (p : Pairing) : Bytes :=
  [byteOf (b2n probed), 0, 0, 0] ++ leBytes 4 (p.base + 2 ^ 29 * b2n p.xtd) ++ leBytes 4 p.lastEcnt

/-- The staged pairing replaces the one in force, if it can be stored (R296 check 6). -/
def installPair (d : Desc) (probed : Bool) (p : Pairing) (s : State) : State :=
  let s0 := { s with flk := { s.flk with stage := none } }
  let r := recStore recPair (pairBytes p) s0
  if r.2 then fail d stEcc 0 r.1
  else
    let s1 := syncPair { r.1 with flk := { r.1.flk with pair := some p } }
    complete d stOk (pairResult probed p) 0 (append 0x38 0 (p.base % 2 ^ 23 + 2 ^ 23 * b2n p.xtd) s1)

/-- Sends PROBE on the new BASE + 1 with a fresh nonce (R296 check 5). -/
def sendProbe (g : PairStage) (s : State) : State :=
  let n := drawBytes 8 s
  let s1 := queueCan { id := g.pair.base + 1, xtd := g.pair.xtd, data := [0x13, 0, 0, 0, 0, 0, 0, 0] ++ n.1 } n.2
  { s1 with flk := { s1.flk with stage := some { g with probe := some (leNat n.1, now s1) } } }

/-- NOPROBE may be set (R296). -/
def noProbeOk (s : State) : Bool := lcState s ≤ 1

/-- IMMO_PAIR (R296). -/
def pairUnit (d : Desc) (s : State) : State :=
  let o := p8 d 0
  if o > 1 ∨ (o = 1 ∧ noProbeOk s = false) then fail d stBadLen 32 s
  else if p8 d 1 ≠ 0 then fail d stBadLen 33 s
  else reserved 4 d (fun s => readSrc d 56 (fun b s =>
    if pairBlobOk b = false then fail d stBadLen 0xFF s
    else match keyFor (p16 d 2) 3 isAes s with
    | none => fail d stBadHandle 34 s
    | some (_, x) =>
      match kwUnwrap x.key (slice 16 24 b) with
      | none => fail d stUnwrapFail 0 (bump CRY_CNT0.UNWRAP_FAIL s)
      | some k =>
        if pairCmacOk b k = false then fail d stMacFail 0 (countMac s)
        else
          let g : PairStage := { d := some d, pair := pairOfBlob b k, checked := true, probe := none, probed := false }
          if o = 1 then installPair d false g.pair s
          else match drawFails s with
            | some st => fail d st 0 s
            | none => sendProbe g s) s) s

/-- IMMO_PAIR (R296). -/
def execImmoPair (t : Nat) (d : Desc) (s : State) : Host.Outcome State Fault Refusal :=
  descCommand t (asOp 0x3A d) pairUnit s

/-- A Drover-port STEP runs only while Drover serves an IMMO_PAIR (Table 01.7). -/
def stepForm (d : Desc) (k : State → State) (s : State) : State :=
  if d.src == .drover && workingOn 0x3A s then reserved 4 d k s else fail d stBadLen 32 s

/-- STEP 1: the blob's CMAC under the staged K_pair (R31, R296). -/
def stepCmac (d : Desc) (s : State) : State :=
  stepForm d (readSrc d 56 (fun b s =>
    match s.flk.stage with
    | none => fail d stMacFail 0 s
    | some g =>
      if pairBlobOk b = false then fail d stBadLen 0xFF s
      else if pairCmacOk b g.pair.key = false then fail d stMacFail 0 (countMac { s with flk := { s.flk with stage := none } })
      else
        let p := pairOfBlob b g.pair.key
        complete d stOk [] 0 { s with flk := { s.flk with stage := some { g with pair := p, checked := true } } })) s

/-- STEP 2: PROBE and PROBE_ANS (R31, R296). -/
def stepProbe (d : Desc) (s : State) : State :=
  stepForm d (fun s =>
    match s.flk.stage with
    | some g =>
      if g.checked = false then fail d stMacFail 0 s
      else (match drawFails s with
        | some st => fail d st 0 s
        | none => sendProbe { g with d := some d } s)
    | none => fail d stMacFail 0 s) s

/-- STEP 3: installs the staged pairing; it is checked, and probed unless the IMMO_PAIR has NOPROBE (R31, R296). -/
def stepInstall (d : Desc) (s : State) : State :=
  stepForm d (fun s =>
    let noProbe := (droverWork s).any (fun w => p8 w 0 == 1)
    match s.flk.stage with
    | some g =>
      if g.checked = false then fail d stMacFail 0 s
      else if g.probed = false ∧ noProbe = false then fail d stNoResponse 0 s
      else installPair d g.probed g.pair s
    | none => fail d stMacFail 0 s) s

/-- The descriptor as STEP `k` reads it (Table 01.7). -/
def asStep (k : Nat) (d : Desc) : Desc := setPar 1 k (setPar 0 0x80 (asOp 0x3A d))

/-- IMMO_PAIR_STEP_CMAC (R31). -/
def execImmoPairStepCmac (t : Nat) (d : Desc) (s : State) : Host.Outcome State Fault Refusal :=
  descCommand t (asStep 1 d) stepCmac s
/-- IMMO_PAIR_STEP_PROBE (R31). -/
def execImmoPairStepProbe (t : Nat) (d : Desc) (s : State) : Host.Outcome State Fault Refusal :=
  descCommand t (asStep 2 d) stepProbe s
/-- IMMO_PAIR_STEP_INSTALL (R31). -/
def execImmoPairStepInstall (t : Nat) (d : Desc) (s : State) : Host.Outcome State Fault Refusal :=
  descCommand t (asStep 3 d) stepInstall s

/-- A probe ends: the host's pairing goes on, or the Drover-port step completes (R296). -/
def probeEnds (g : PairStage) (st : Nat) (s : State) : State :=
  match g.d with
  | none => { s with flk := { s.flk with stage := none } }
  | some d =>
    let step := bit 7 (p8 d 0)
    if st ≠ stOk then fail d st 0 { s with flk := { s.flk with stage := none } }
    else if step then
      complete d stOk [] 0 { s with flk := { s.flk with
        stage := some { g with d := none, probe := none, probed := true } } }
    else installPair d true g.pair s

/-- PROBE_ANS_FRAME (R296). -/
def probeAns (f : EcuFrame) (s : State) : State :=
  match s.flk.stage with
  | none => s
  | some g =>
    match g.probe with
    | none => s
    | some (n, at0) =>
      onlyIf (canOn s && probeFrame f s && now s ≤ at0 + msTicks 200) (fun s =>
        let good := slice 8 8 f.data == pairMac g.pair.key ([0x14] ++ leBytes 8 n ++ vidBytes s)
        probeEnds g (if good then stOk else stMacFail) s) s

/-- PROBE_ANS_FRAME (R296). -/
def execProbeAnsFrame (t : Nat) (f : EcuFrame) (s : State) : Host.Outcome State Fault Refusal :=
  command t (fun s => frameEnds (probeAns f s)) s

/-- PROBE_ANS_TIMEOUT (R296): no PROBE_ANS within 200 ms. -/
def execProbeAnsTimeout (t : Nat) (s : State) : Host.Outcome State Fault Refusal :=
  command t (fun s =>
    match s.flk.stage with
    | none => s
    | some g =>
      match g.probe with
      | none => s
      | some (_, at0) => onlyIf (at0 + msTicks 200 ≤ now s) (probeEnds g stNoResponse) s) s

end Sys2Proof.Machine
end

