-- ==== Sys2Proof/Machine/Ring.lean ====
section
/-! DEFINITION. Machine/Ring.lean: the samples of a sense pin and the fit of a ring-down (R54, R147 to R149). Envelopes are
in 1/1000 LSB, logarithms in 1/2^24 of an octave; what is reported is rounded to the nearest (DESIGN CHOICE, log
entry 109). -/
namespace Sys2Proof.Machine

/-! ## Samples -/

/-- The sample is marked saturated (R54): never inside the input range, always beyond both limits of the clamp, and
between them as the clamp says. -/
def saturated (x : AdcSample) : Bool :=
  (x.uv < 150000 || 3150000 < x.uv) && (x.clamp || x.uv < 100000 || 3200000 < x.uv)

/-- ADC code: 4096 steps from 0.15 V to 3.15 V; a saturated sample reads full scale (R54, R147). -/
def sampleCode (x : AdcSample) : Nat := min ((x.uv - 150000) * 4096 / 3000000) 4095

/-- The sample about LFBIAS, 1.65 V, in LSB. -/
def sampleLevel (x : AdcSample) : Int := (sampleCode x : Int) - 2048

/-! ## The fit of one period -/

/-- sin(2π·n/d) in 1/10^6. -/
def sinTurn (n d : Nat) : Int :=
  let k := 4 * (n % d)
  let q := k / d
  let r := k % d
  (match q with
   | 0 => sinPi r (2 * d)
   | 1 => sinPi (d - r) (2 * d)
   | 2 => -sinPi r (2 * d)
   | _ => -sinPi (d - r) (2 * d)) / 1000000

/-- Sums of a least-squares fit by a cosine and a sine: of their products with each other and with the samples. -/
structure QuadSums where
  /-- cosine by cosine -/
  cc : Int
  /-- cosine by sine -/
  cs : Int
  /-- sine by sine -/
  ss : Int
  /-- cosine by sample -/
  cy : Int
  /-- sine by sample -/
  sy : Int

/-- Adds the sample at `n` of `d` parts of the period; a saturated one is left out (R148). -/
def QuadSums.add (q : QuadSums) (n d : Nat) (x : AdcSample) : QuadSums :=
  if saturated x then q
  else
    let s := sinTurn n d
    let c := sinTurn (4 * n + d) (4 * d)
    { cc := q.cc + c * c, cs := q.cs + c * s, ss := q.ss + s * s, cy := q.cy + c * sampleLevel x, sy := q.sy + s * sampleLevel x }

/-- The sums of a period whose samples lie `k` conversions of 312.5 ns apart (R147). -/
def quadSums (k : Nat) (p : RingPeriod) : QuadSums :=
  p.samples.zipIdx.foldl (fun q x => q.add (3125 * k * x.2) (max p.len 1) x.1) ⟨0, 0, 0, 0, 0⟩

/-- Peak of the fit in 1/1000 LSB; 0 where the samples do not determine it. -/
def QuadSums.peak (q : QuadSums) : Nat :=
  let det := (q.cc * q.ss - q.cs * q.cs).natAbs
  let a := (q.cy * q.ss - q.sy * q.cs).natAbs
  let b := (q.sy * q.cc - q.cy * q.cs).natAbs
  if det = 0 then 0 else searchUp (fun e => e * e * (det * det) ≤ (a * a + b * b) * 10 ^ 18) 23 0

/-- The envelope of a period; none when more than half of its samples are saturated (R148). -/
def envelope (k : Nat) (p : RingPeriod) : Option Nat :=
  if 2 * p.samples.countP saturated > p.samples.length then none else some (quadSums k p).peak

/-! ## The decay -/

/-- `n` more bits of the binary logarithm of `x` / 2^32, for 2^32 ≤ x < 2^33, after the value `acc`. -/
def log2Bits : Nat → Nat → Nat → Nat
  | 0, _, acc => acc
  | n + 1, x, acc =>
    let y := x * x / 2 ^ 32
    if y ≥ 2 ^ 33 then log2Bits n (y / 2) (2 * acc + 1) else log2Bits n y (2 * acc)

/-- log2 of `e` in 1/2^24, for 1 ≤ e < 2^32. -/
def log2Fix (e : Nat) : Nat :=
  let k := searchUp (fun i => 2 ^ i ≤ e) 5 0
  log2Bits 24 (e * 2 ^ (32 - k)) k

/-- What the fit of a ring-down finds (R148). -/
structure RingFit where
  /-- periods of the window -/
  total : Nat
  /-- periods skipped for saturation -/
  skipped : Nat
  /-- A0 in 1/1000 LSB -/
  a0 : Nat
  /-- periods whose envelope is at least 2 × OPEN_THR -/
  above : Nat
  /-- their lengths together, in 0.1 ns -/
  len : Nat
  /-- slope of the logarithm of their envelopes: numerator, in 1/2^24 octave -/
  num : Nat
  /-- and its denominator -/
  den : Nat

/-- The fit of a ring-down with samples `k` conversions apart, with OPEN_THR `thr` (R148). -/
def ringFit (k thr : Nat) (m : RingMeas) : RingFit :=
  let es := m.periods.map (envelope k)
  let fits := (m.periods.zip es).zipIdx.filterMap (fun x =>
    match x.1.2 with
    | some e => if 2000 * thr ≤ e && e != 0 then some (x.2, x.1.1.len, log2Fix e) else none
    | none => none)
  let n := fits.length
  let sx := (fits.map (fun f => f.1)).sum
  let sy := (fits.map (fun f => f.2.2)).sum
  let sxy := (fits.map (fun f => f.1 * f.2.2)).sum
  let sxx := (fits.map (fun f => f.1 * f.1)).sum
  { total := es.length
    skipped := es.countP (·.isNone)
    a0 := (es.findSome? id).getD 0
    above := n
    len := (fits.map (fun f => f.2.1)).sum
    num := ((n * sxy : Nat) - (sx * sy : Nat) : Int).natAbs
    den := n * sxx - sx * sx }

/-- π / ln 2 in 1/10^9: Q is that over the slope in octaves per period. -/
def piOverLn2 : Nat := 4532360142

/-- Q is at least `q` (R149). -/
def RingFit.qAtLeast (f : RingFit) (q : Nat) : Bool :=
  f.den != 0 && decide (q * f.num * 10 ^ 9 ≤ piOverLn2 * f.den * 2 ^ 24)

/-- Q to the nearest, at most 255; 0 where not measured. -/
def RingFit.qByte (f : RingFit) : Nat :=
  if f.den = 0 then 0
  else if f.num = 0 then 255
  else min 255 ((2 * piOverLn2 * f.den * 2 ^ 24 + f.num * 10 ^ 9) / (2 * f.num * 10 ^ 9))

/-- FRES in 10 Hz units, to the nearest; 0 where not measured. -/
def RingFit.fres (f : RingFit) : Nat :=
  if f.len = 0 then 0 else min 16383 ((2 * f.above * 10 ^ 9 + f.len) / (2 * f.len))

/-- FRES is more than `hz` off the frequency `c` (R149). -/
def RingFit.offBy (f : RingFit) (c hz : Nat) : Bool :=
  let d : Int := (f.above * 10 ^ 10 : Nat) - (c * f.len : Nat)
  decide (hz * f.len < d.natAbs)

/-- Class of a ring-down of a channel driven at `c` Hz (Table 06.4), with OPEN_THR, QMIN_SHORT and DETUNE_THR in Hz. -/
def RingFit.cls (f : RingFit) (net : Bool) (c thr qmin detune : Nat) : Nat :=
  if net = false then 6
  else if 2 * f.skipped > f.total then 5
  else if f.a0 < 1000 * thr then 2
  else if f.above < 3 ∨ f.qAtLeast qmin = false then 3
  else if f.offBy c detune then 4
  else 1

end Sys2Proof.Machine
end

