-- ==== Sys2Proof/Machine/LfQueue.lean ====
section
/-! DEFINITION. Machine/LfQueue.lean: the LF queue, the LF opcodes' parameters and what operations share (R22, R144,
R152 to R154, R157 to R162). -/
namespace Sys2Proof.Machine

/-! ## The queue -/

/-- Host and Drover entries of the queue (LFE_QUEUE.DEPTH). -/
def lfDepth (s : State) : Nat := s.lf.queue.countP (fun r => r.desc.isSome)

/-- Puts an operation at the end of the queue. -/
def pushLf (r : LfReq) (s : State) : State := { s with lf := { s.lf with queue := s.lf.queue ++ [r] } }

/-- The number of a new operation is taken. -/
def takeNo (s : State) : State := { s with lf := { s.lf with nextNo := s.lf.nextNo + 1 } }

/-- A host or Drover operation enters the queue, or waits at most its TIMEOUT for one of the 16 entries (R144). -/
def enqueueHost (d : Desc) (r : LfReq) (s : State) : State :=
  takeNo (if lfDepth s < 16 && s.lf.wait.isEmpty then pushLf r s
    else { s with lf := { s.lf with wait := s.lf.wait ++ [(r, now s + timeoutTicks d 500)] } })

/-- Entries that have become free go to the operations that wait, oldest first (R144). -/
def admitWaiting : List (LfReq × Nat) → State → State
  | [], s => { s with lf := { s.lf with wait := [] } }
  | w :: ws, s => if lfDepth s < 16 then admitWaiting ws (pushLf w.1 s) else { s with lf := { s.lf with wait := w :: ws } }

/-- The queue entry of a host or Drover descriptor. -/
def hostReq (kind : LfKind) (d : Desc) (slots opts reslot : Nat) (s : State) : LfReq :=
  { no := s.lf.nextNo, askers := [], kind := kind, node := d.target, slots := slots, opts := opts,
    reslot := reslot, desc := some d, trial := [] }

/-- A requester joins the queued autonomous poll of `node` (R22). -/
def joinAuto (a : Asker) (due node : Nat) (s : State) : State :=
  let merge (r : LfReq) : LfReq :=
    if r.desc.isNone && r.node == node then { r with askers := r.askers ++ [(a, due)] } else r
  { s with lf := { s.lf with queue := s.lf.queue.map merge } }

/-- An autonomous or WAKE poll of fold `f` queues, or merges into a queued one of the same fold (R22, R196). -/
def enqueueAuto (a : Asker) (f slots due : Nat) (s : State) : State :=
  let node := 0x100 + f
  if s.lf.queue.any (fun r => r.desc.isNone && r.node == node) then joinAuto a due node s
  else
    takeNo (pushLf { no := s.lf.nextNo, askers := [(a, due)], kind := .poll, node := node, slots := slots, opts := 0,
                     reslot := 2, desc := none, trial := [] } s)

/-- LF_QUEUE_TIMEOUT (R144): the first operation whose wait for an entry has lasted its TIMEOUT. -/
def lfQueueTimeout (s : State) : State :=
  match s.lf.wait.find? (fun w => w.2 ≤ now s) with
  | some w =>
    let s1 := { s with lf := { s.lf with wait := s.lf.wait.filter (fun x => x.1.no != w.1.no) } }
    (match w.1.desc with
     | some d => fail d stBusy 0 s1
     | none => s1)
  | none => s

/-! ## Opcodes -/

/-- First parameter byte at fault of LF_POLL (Table 06.8). -/
def pollParBad (d : Desc) : Option Nat :=
  if p8 d 0 < 1 ∨ p8 d 0 > 4 then some 32
  else if p8 d 1 > 7 then some 33
  else if p8 d 2 > 2 then some 34
  else parNonzero 3 24 d

/-- TARGET names a retired leaf. -/
def targetRetired (d : Desc) (s : State) : Bool :=
  match leafIndex d.target with
  | some i => leafRetired i s
  | none => false

/-- LF_POLL (R158). -/
def lfPollUnit (d : Desc) (s : State) : State :=
  match pollParBad d with
  | some det => fail d stBadLen det s
  | none =>
    if targetRetired d s then fail d stBadFold 4 s
    else enqueueHost d (hostReq .poll d (p8 d 0) (p8 d 1) (p8 d 2) s) s

/-- LF_POLL (R158). -/
def execLfPoll (t : Nat) (d : Desc) (s : State) : Host.Outcome State Fault Refusal :=
  descCommand t (asOp 0x10 d) lfPollUnit s

/-- First parameter byte at fault of LF_DIAG (Table 06.11); PERSIST belongs to APPLY. -/
def diagParBad (d : Desc) : Option Nat :=
  if p8 d 0 > 1 then some 32
  else if p8 d 1 > (if p8 d 0 = 1 then 1 else 0) then some 33
  else parNonzero 2 24 d

/-- LF_DIAG (R160). -/
def lfDiagUnit (d : Desc) (s : State) : State :=
  match diagParBad d with
  | some det => fail d stBadLen det s
  | none => enqueueHost d (hostReq (if p8 d 0 = 1 then .diagApply else .diagRing) d 0 (p8 d 1) 0 s) s

/-- LF_DIAG RING (R160). -/
def execLfDiagRing (t : Nat) (d : Desc) (s : State) : Host.Outcome State Fault Refusal :=
  descCommand t (asMode 0x11 0 d) lfDiagUnit s

/-- LF_DIAG APPLY (R160). -/
def execLfDiagApply (t : Nat) (d : Desc) (s : State) : Host.Outcome State Fault Refusal :=
  descCommand t (asMode 0x11 1 d) lfDiagUnit s

/-- First parameter byte at fault of LF_LISTEN (Table 06.12). -/
def listenParBad (d : Desc) : Option Nat :=
  if p16 d 0 < 1 ∨ p16 d 0 > 1000 then some 32
  else if p8 d 2 > 1 then some 34
  else if p8 d 3 > 1 then some 35
  else parNonzero 4 24 d

/-- LF_LISTEN (R161). -/
def lfListenUnit (d : Desc) (s : State) : State :=
  match listenParBad d with
  | some det => fail d stBadLen det s
  | none => enqueueHost d (hostReq .listen d 0 (p8 d 3) 0 s) s

/-- LF_LISTEN (R161). -/
def execLfListen (t : Nat) (d : Desc) (s : State) : Host.Outcome State Fault Refusal :=
  descCommand t (asOp 0x13 d) lfListenUnit s

/-! ## Ring-down -/

/-- A leaf of which no period was seen: no ring. -/
def noRing (node : Nat) : RingMeas := ⟨node, [], 0, false⟩

/-- The measurement of a node. -/
def ringOf (m : List RingMeas) (node : Nat) : RingMeas := (m.find? (fun r => r.node = node)).getD (noRing node)

/-- Channel `c` is sensed with network `net`. -/
def netOf (c : Nat) (s : State) : Bool := flag (LFE_CHn_CFG.NET c) s

/-- How many channels share the ADC of channel `c` among the sensed channels `l`: an ADC cycles over them (R147). -/
def adcShare (l : List Nat) (c : Nat) (s : State) : Nat := max 1 (l.countP (fun x => x / 8 == c / 8 && netOf x s))

/-- The record of a channel's ring-down (Table 06.11), driven at `f` Hz and sensed every `k` conversions: FRES and Q are 0
where no period was strong enough, and all is 0 without a network (R148, R149). -/
def ringRec (c f k : Nat) (m : RingMeas) (s : State) : RingRec :=
  let net := netOf c s
  let thr := fld LFE_THR.OPEN_THR s
  let x := ringFit k thr m
  { node := c, result := x.cls net f thr (fld LFE_DIAG_CTL.QMIN_SHORT s) (100 * fld LFE_DIAG_CTL.DETUNE_THR s)
    fres := if net then x.fres else 0, q := if net then x.qByte else 0, sat := if net then min x.skipped 255 else 0
    a0 := if net then min ((x.a0 + 500) / 1000) 65535 else 0 }

/-- Writes a ring-down to LFE_CHn_STAT (R149). -/
def noteRing (r : RingRec) (s : State) : State :=
  setFld (LFE_CHn_STAT.FRES r.node) r.fres (setFld (LFE_CHn_STAT.Q r.node) r.q
    (setFld (LFE_CHn_STAT.RESULT r.node) r.result s))

/-- Result of a coil's current check: 1 OK, 2 OPEN, 3 SHORT (R156). -/
def coilCheck (pct : Nat) (limit : Bool) : Nat := if limit then 3 else if pct < 10 then 2 else 1

/-- Notes a coil's check; a SHORT sets COIL_FAULT (R156). -/
def noteCoil (c k : Nat) (s : State) : State :=
  let s1 := { s with lf := { s.lf with coils := s.lf.coils.set c k } }
  if k = 3 then setFld LFE_STATUS.COIL_FAULT 1 s1 else s1

/-- 8 bytes of a RING record. -/
def ringBytes (r : RingRec) : Bytes :=
  [byteOf r.node, byteOf r.result] ++ leBytes 2 r.fres ++ [byteOf r.q, byteOf r.sat] ++ leBytes 2 r.a0

/-! ## LF_DIAG APPLY -/

/-- Entries of a source buffer. -/
def tuneEntries (b : Bytes) : List TuneEntry :=
  (chunks 4 b).map (fun e => ⟨byteAt 0 e, byteAt 1 e, signed 16 (leAt 2 2 e)⟩)

/-- What is wrong with an entry: its status (R160). -/
def tuneBad (t : Tree) (node : Nat) (e : TuneEntry) : Option Nat :=
  if e.ch ≥ 128 ∨ (t.leaves node).contains e.ch = false then some stBadFold
  else if e.duty < 4 ∨ e.duty > 64 ∨ e.trim < -2000 ∨ e.trim > 2000 then some stBadLen
  else none

/-- Applies entries to the channels' set-up (R160). -/
def applyTune (es : List TuneEntry) (s : State) : State :=
  es.foldl (fun s e =>
    if leafPresent e.ch s then
      lfeSet (LFE_CHn_CFG.TRIM e.ch) (encSigned 12 e.trim) (lfeSet (LFE_CHn_CFG.DUTY e.ch) e.duty s)
    else s) s

/-- Checks all entries, then applies them together, and commits them with PERSIST (R160). A failed commit gives
NV_ECC_UNCORR. -/
def applyEntries (t : Tree) (d : Desc) (es : List TuneEntry) (s : State) : State :=
    match (List.range es.length).findSome? (fun i => (es[i]?.bind (tuneBad t d.target)).map (fun st => (st, i))) with
    | some (st, i) => fail d st i s
    | none =>
      let s1 := applyTune es s
      let persist := bit 0 (p8 d 1)
      let s2 := if persist then commitLfe s1 else s1
      complete d (if persist && recFails recLfe s1 then stEcc else stOk) [byteOf es.length] 0 s2

/-- LF_DIAG APPLY: its entries from SRC, or from the LF_CAL that sent it (R160, R162). -/
def runApply (t : Tree) (r : LfReq) (d : Desc) (s : State) : State :=
  if isHost d || r.trial.isEmpty then readSrc d d.len (fun b s => applyEntries t d (tuneEntries b) s) s
  else applyEntries t d r.trial s

/-! ## Foreign fields -/

/-- A channel of which the caller sensed nothing. -/
def noSense (c : Nat) : SenseMeas := ⟨c, 0, 0, 0, false⟩

/-- The measurement of a channel. -/
def senseOf (m : List SenseMeas) (c : Nat) : SenseMeas := (m.find? (fun x => x.ch = c)).getD (noSense c)

/-- PEAK as Table 06.5 reports it: 0x0FFF when saturated. -/
def effPeak (m : SenseMeas) : Nat := if m.sat then 0xFFF else min m.peak 0xFFF

/-- Over threshold (R152). -/
def overThr (s : State) (m : SenseMeas) : Bool := m.sat || m.peak > fld LFE_SENSE.FF_THR s

/-- The measurement with the highest peak; the lowest channel of equals. -/
def strongest (l : List SenseMeas) : Option SenseMeas :=
  l.foldl (fun b m =>
    match b with
    | none => some m
    | some x => if effPeak m > effPeak x then some m else some x) none

/-- Foreign fields seen on channels `hot`, by a poll (source 0) or LF_LISTEN (1) (R153). With none,
fields no longer persist (DEDUCED, log entry 20). -/
def foreignSeen (hot : List SenseMeas) (source : Nat) (band : Bool) (s : State) : State :=
  match strongest hot with
  | none => { s with lf := { s.lf with ffRec := none } }
  | some m =>
    let n := min hot.length 255
    let s1 := hot.foldl (fun s x => setFld (LFE_CHn_STAT.FF x.ch) 1 s) (setFld LFE_STATUS.FF_SEEN 1 s)
    let s2 := if flag LFE_CTL.FF_EVT s1 then
        post 0x0E 0 (leBytes 2 m.ch ++ leBytes 2 (effPeak m) ++ leBytes 2 m.freq
          ++ [byteOf n, byteOf source, byteOf (b2n (hot.any (·.sat)) + 2 * b2n band)]) s1
      else s1
    let again : Bool := match s2.lf.ffRec with
      | some t => decide (now s2 < t + secTicks 10)
      | none => false
    if again then s2
    else
      append 0x28 source (m.ch + 256 * n + 65536 * min (effPeak m / 16) 255)
        { s2 with lf := { s2.lf with ffRec := some (now s2) } }

/-- Channels measured below threshold lose their FF flag (R153). -/
def clearFf (ms : List SenseMeas) (s : State) : State :=
  (ms.filter (fun m => !overThr s m)).foldl (fun s m => setFld (LFE_CHn_STAT.FF m.ch) 0 s) s

/-- Saturated samples are flagged. -/
def noteSat (sat : Bool) (s : State) : State := if sat then setFld LFE_STATUS.SAT_SEEN 1 s else s

/-! ## Ending -/

/-- The LF operation ends: its counters (Table 06.15). -/
def endLf (ff sat : Bool) (s : State) : State :=
  let s1 := bump LFE_CNT.OPS s
  let s2 := if ff then bump LFE_CNT.FF s1 else s1
  let s3 := if sat then bump LFE_CNT.SAT s2 else s2
  { s3 with lf := { s3.lf with run := none } }

/-! ## LF_CAL -/

/-- LF channels that an LF_DIAG RING of `node` tests, enabled or not (DESIGN CHOICE, log entry 102): a leaf TARGET may be
retired; a fold skips retired leaves (R160). -/
def diagChans (t : Tree) (node : Nat) (s : State) : List Nat :=
  match leafIndex node with
  | some i => if i < 128 && leafPresent i s then [i] else []
  | none => (t.leaves node).filter (fun i => i < 128 && leafPresent i s && !leafRetired i s)

/-- First parameter byte at fault of LF_CAL (Table 06.13). -/
def lfCalParBad (d : Desc) : Option Nat :=
  if p8 d 0 = 0 ∨ p8 d 0 > 15 then some 32
  else if p8 d 1 > 4 then some 33
  else if bit 1 (p8 d 0) = true ∧ (p16 d 2 < 100 ∨ p16 d 2 > 2000) then some 34
  else parNonzero 4 24 d

/-- The LEVEL step of one channel: round(128/π·asin(s)) for s = sin(π·DUTY/128)·TARGET/A0, at most 1 (R162). Rounding
up to `d` means that the arc is at least `d` minus a half. -/
def levelDuty (duty target a0 : Nat) : Nat :=
  let ok (x : Nat) : Bool := x ≤ 64 && decide (sinPi (2 * x - 1) 256 * a0 ≤ sinPi duty 128 * target)
  max 4 (searchUp ok 7 0)

/-- The class is OK or DETUNED. -/
def CalChan.good (c : CalChan) : Bool := c.result == 1 || c.result == 4

/-- What a pass found on the channels (R162). -/
def calRead (rings : List RingRec) (l : List CalChan) : List CalChan :=
  l.map (fun c =>
    match rings.find? (fun r => r.node = c.ch) with
    | some r => { c with result := r.result, fres := r.fres, a0 := r.a0 }
    | none => { c with result := 0, fres := 0, a0 := 0 })

/-- TUNE (R162). -/
def calTune (s : State) (l : List CalChan) : List CalChan :=
  l.map (fun c => if c.good then { c with trim := clampTrim ((10 * c.fres : Int) - fldNow LFE_CARRIER.F_HZ s) } else c)

/-- Every measured A0 lies within 5 % of the target (R162). -/
def calLevelled (target : Nat) (l : List CalChan) : Bool :=
  l.all (fun c => !c.good || (95 * target ≤ 100 * c.a0 && 100 * c.a0 ≤ 105 * target))

/-- LEVEL of all channels after a pass (R162). -/
def calLevel (target : Nat) (l : List CalChan) : List CalChan :=
  l.map (fun c => if c.good then { c with duty := levelDuty c.duty target c.a0 } else c)

/-- What follows a pass that found `l`: the settings of the next one and what it is for (R162). -/
def calNext (d : Desc) (step : CalStep) (l : List CalChan) (s : State) : List CalChan × Option CalStep :=
  let last := CalStep.verify
  let iter := if p8 d 1 = 0 then 2 else p8 d 1
  match step with
  | .tune => (calTune s l, some (if bit 1 (p8 d 0) then .level (iter - 1) else last))
  | .level left =>
    if calLevelled (p16 d 2) l then (l, some last)
    else (calLevel (p16 d 2) l, some (if left = 0 then last else .level (left - 1)))
  | .verify => (l, if bit 2 (p8 d 0) then some .apply else none)
  | .apply => (l, none)

/-- The settings that a pass drives its channels with. -/
def calTrial (l : List CalChan) : List TuneEntry := l.map (fun c => ⟨c.ch, c.duty, c.trim⟩)

/-- The LF_DIAG descriptor of a step (R16, R162): RING, or APPLY with PERSIST as asked. Its number is one that no
descriptor of Drover's own has. -/
def calDesc (d : Desc) (tag : Nat) (step : CalStep) (n : Nat) (s : State) : Desc :=
  let apply := step == .apply
  { src := .drover, idx := 0, no := 2 ^ 32 + s.hif.dispNo, opcode := 0x11, flags := 0, tag := tag, target := d.target
    len := if apply then 4 * n else 0, timeout := 0, rsv := 0, srcAddr := 0, dstAddr := 0
    par := [if apply then 1 else 0, byteOf (b2n (apply && bit 3 (p8 d 0)))] ++ List.replicate 22 0, atTb := 0 }

/-- Drover sends the LF_DIAG of a step on its port, and it enters the LF queue like any other (R16, R22, R144). -/
def calPass (d : Desc) (tag : Nat) (step : CalStep) (l : List CalChan) (s : State) : State :=
  let p := calDesc d tag step l.length s
  let s1 := accept p (enterFlight p { s with hif := { s.hif with dispNo := s.hif.dispNo + 1 } })
  enqueueHost p { hostReq (if step == .apply then .diagApply else .diagRing) p 0 (p8 p 1) 0 s1 with trial := calTrial l }
    { s1 with lf := { s1.lf with cals := s1.lf.cals ++ [⟨d, step, l, p, []⟩] } }

/-- A channel's report (Table 06.13). -/
def calBytes (c : CalChan) : Bytes :=
  [byteOf c.ch, byteOf c.result] ++ leBytes 2 (encSigned 16 c.trim) ++ [byteOf c.duty, 0] ++ leBytes 2 c.fres

/-- LF_CAL completes with its report (Table 06.13). -/
def finishCal (c : LfCal) (st : Nat) (s : State) : State :=
  writeDst c.d ((c.chans.map calBytes).flatten.take c.d.len) (complete c.d st [] 0) s

/-- An LF_CAL whose pass has completed with `st` goes on, or completes; a pass that does not run to its end ends it with
the same status (DESIGN CHOICE, log entry 110). -/
def stepCal (c : LfCal) (st : Nat) (s : State) : State :=
  if c.step == .apply then finishCal c st s
  else if st ≠ stOk then fail c.d st 0 s
  else
    let n := calNext c.d c.step (calRead c.rings c.chans) s
    match n.2 with
    | some step => calPass c.d c.pass.tag step n.1 s
    | none => finishCal { c with chans := n.1 } stOk s

/-- LF_CAL operations whose LF_DIAG has completed go on (R162). -/
def settleLfCals (s : State) : State :=
  match s.lf.cals.find? (fun c => !isFlying c.pass s) with
  | some c =>
    stepCal c (((s.hif.back.find? (fun b => sameDesc b.d c.pass)).map (·.status)).getD stIslandReset)
      { s with lf := { s.lf with cals := s.lf.cals.filter (fun x => !sameDesc x.d c.d) } }
  | none => s

/-- The records of a pass of LF_CAL reach it. -/
def notePass (d : Desc) (rings : List RingRec) (s : State) : State :=
  { s with lf := { s.lf with cals := s.lf.cals.map (fun (c : LfCal) => if sameDesc c.pass d then { c with rings := rings } else c) } }

/-- LF_CAL (R162) begins with its first pass, whose TAG is Drover's. -/
def lfCalUnit (tag : Nat) (d : Desc) (s : State) : State :=
  if s.lf.cals.any (fun c => sameDesc c.d d) then s
  else match lfCalParBad d with
  | some det => fail d stBadLen det s
  | none =>
    let chans := (diagChans s.fold.live d.target s).map (fun c =>
      (⟨c, trimOf c s, fldNow (LFE_CHn_CFG.DUTY c) s, 0, 0, 0⟩ : CalChan))
    let iter := if p8 d 1 = 0 then 2 else p8 d 1
    calPass d tag (if bit 0 (p8 d 0) then .tune else if bit 1 (p8 d 0) then .level (iter - 1) else .verify) chans s

/-- LF_CAL (R162). -/
def execLfCal (t : Nat) (d : Desc) (tag : Nat) (s : State) : Host.Outcome State Fault Refusal :=
  descCommand t (asOp 0x12 d) (lfCalUnit tag) s

/-- LF_QUEUE_TIMEOUT (R144). -/
def execLfQueueTimeout (t : Nat) (s : State) : Host.Outcome State Fault Refusal :=
  command t (fun s => settleLfCals (lfQueueTimeout s)) s

end Sys2Proof.Machine
end

