-- ==== Sys2Proof/Machine/Vrd.lean ====
section
/-! DEFINITION. Machine/Vrd.lean: the verdict engine's banks, loads and evaluation (R250 to R264). Passes over real
answers are in Verdict.lean. -/
namespace Sys2Proof.Machine

/-! ## Entries -/

/-- VALID -/
def Template.valid (t : Template) : Bool := bit 0 t.flags
/-- COIL -/
def Template.coil (t : Template) : Bool := bit 1 t.flags
/-- SEAT -/
def Template.seat (t : Template) : Bool := bit 2 t.flags
/-- VALID -/
def Gate.valid (g : Gate) : Bool := bit 0 g.flags
/-- FINAL -/
def Gate.final (g : Gate) : Bool := bit 1 g.flags
/-- HOSTWAKE -/
def Gate.hostWake (g : Gate) : Bool := bit 2 g.flags
/-- FF policy -/
def Gate.ff (g : Gate) : Nat := g.cond % 4
/-- START -/
def Gate.start (g : Gate) : Nat := g.cond / 16 % 4

/-- A template's 32 bytes (Table 11.1). -/
def parseTemplate (b : Bytes) : Template :=
  { flags := byteAt 0 b, frame := byteAt 1 b, group := byteAt 2 b, maxDist := byteAt 3 b, port := leAt 4 2 b,
    bandMin := leAt 6 2 b, bandMax := leAt 8 2 b, target := leAt 10 2 b, e := (slice 16 16 b).map (·.toNat) }

/-- A gate's 16 bytes (Table 11.2). -/
def parseGate (b : Bytes) : Gate :=
  { flags := byteAt 0 b, ranging := byteAt 1 b, roles := byteAt 2 b, cond := byteAt 3 b, scope := leAt 4 2 b,
    action := byteAt 6 b, groups := leAt 8 4 b }

/-- An action entry's 8 bytes (Table 11.3). -/
def parseAct (b : Bytes) : ActEntry :=
  { kind := byteAt 0 b, arg := byteAt 1 b, width := leAt 2 2 b, level := byteAt 4 b }

/-- A rules blob (Table 11.5). -/
def parseRules (b : Bytes) : RuleSet :=
  let n := leAt 8 2 b
  { version := leAt 4 4 b
    gates := (List.range n).map (fun i => parseGate (slice (16 + 16 * i) 16 b))
    acts := (List.range (byteAt 10 b)).map (fun i => parseAct (slice (16 + 16 * n + 8 * i) 8 b)) }

/-- A map blob (Table 11.5). -/
def parseMap (b : Bytes) : ZoneMap :=
  { version := leAt 4 4 b
    templs := (List.range (leAt 8 2 b)).map (fun i => parseTemplate (slice (16 + 32 * i) 32 b)) }

/-- Code frames of the part (Table 11.12). -/
def partFrames : Part → Nat
  | .blv8128 => 8 | .blv8064 => 4 | .blv8032n => 2

/-- A node identifier of the part: a leaf that is present, or a fold number (R164). -/
def nodeOnPart (node : Nat) (s : State) : Bool :=
  match leafIndex node, foldIndex node with
  | some i, _ => leafPresent i s
  | none, some _ => true
  | none, none => false

/-- A UWB port node of the part. -/
def portOnPart (node : Nat) (s : State) : Bool := 0x90 ≤ node && node < 0x90 + uwbPorts s.part

/-- A template within the ranges of Tables 11.1 and 11.12 (R262 check 6). -/
def templateOk (b : Bytes) (s : State) : Bool :=
  let t := parseTemplate b
  t.flags < 8 && t.frame < (if t.coil then coilCount s.part else partFrames s.part) && t.group < 32
    && (t.port == 0xFFFF || portOnPart t.port s) && t.bandMin ≤ t.bandMax
    && (t.target == 0xFFFF || nodeOnPart t.target s) && allZero (slice 12 4 b)

/-- A gate within the ranges of Tables 11.2 and 11.12 (R262 check 6). -/
def gateOk (nact : Nat) (b : Bytes) (s : State) : Bool :=
  let g := parseGate b
  g.flags < 8 && g.ranging ≤ (if s.part = .blv8032n then 0 else 2) && g.roles < 32 && g.cond < 64
    && g.ff ≤ (if s.part = .blv8032n then 1 else 2) && g.start ≤ 2 && (g.scope == 0xFFFF || nodeOnPart g.scope s)
    && g.action < nact && byteAt 7 b == 0 && allZero (slice 12 4 b)
    && !((g.ranging != 0 || g.ff == 2) && g.groups == 0)

/-- An action entry within the ranges of Table 11.3 (R262 check 6). -/
def actEntryOk (b : Bytes) : Bool :=
  let a := parseAct b
  allZero (slice 5 3 b) &&
  (match a.kind with
   | 0 => a.arg == 0 && a.width == 0 && a.level == 0
   | 1 => a.arg ≤ 23 && a.width ≥ 1 && a.level ≤ 1
   | 2 => (a.arg == 1 || a.arg == 2) && a.width == 0 && a.level == 0
   | 3 => a.arg ≤ 15 && a.width == 0 && a.level == 0
   | _ => false)

/-- First entry at fault of a rules blob, gates before actions (R262). -/
def rulesBad (b : Bytes) (s : State) : Option Nat :=
  let n := leAt 8 2 b
  let k := byteAt 10 b
  (List.range (n + k)).find? (fun i =>
    if i < n then !gateOk k (slice (16 + 16 * i) 16 b) s else !actEntryOk (slice (16 + 16 * n + 8 * (i - n)) 8 b))

/-- First template at fault of a map blob. -/
def mapBad (b : Bytes) (s : State) : Option Nat :=
  (List.range (leAt 8 2 b)).find? (fun i => !templateOk (slice (16 + 32 * i) 32 b) s)

/-! ## Classification and gates -/

/-- Weight of code `k` (Table 11.1). -/
def Template.weight (t : Template) (k : Nat) : Nat :=
  match t.e.getD k 0 / 64 with
  | 0 => 0 | 1 => 1 | 2 => 2 | _ => 4

/-- d of R251. -/
def Template.dist (t : Template) (mag : List Nat) : Nat :=
  ((List.range 16).map (fun k =>
    let m := mag.getD k 0 % 64
    let e := t.e.getD k 0 % 64
    t.weight k * (if m ≥ e then m - e else e - m))).sum

/-- A classification: the chosen template with its index, SCORE and AMBIG. -/
structure Zone where
  /-- index and template -/
  tm : Option (Nat × Template)
  /-- SCORE -/
  score : Nat
  /-- AMBIG -/
  ambig : Bool
  /-- candidate templates N -/
  n : Nat
  deriving DecidableEq, Repr

/-- ZONE of a classification. -/
def Zone.num (z : Zone) : Nat := match z.tm with | some (i, _) => i | none => 0xFFFF

/-- Templates of the map with their indices. -/
def templsOf (m : Option ZoneMap) : List (Nat × Template) :=
  match m with
  | some x => (List.range x.templs.length).filterMap (fun i => x.templs[i]?.map (fun t => (i, t)))
  | none => []

/-- Classification of an answer (R251, R252). `coil` names the coil of a coil answer. -/
def classify (m : Option ZoneMap) (margin : Nat) (coil : Option Nat) (frame target : Nat) (mag : List Nat) : Zone :=
  match coil with
  | some c =>
    let cs := (templsOf m).filter (fun p => p.2.valid && p.2.coil && p.2.frame == c)
    (match cs.head? with
     | some p => ⟨some p, 255, false, cs.length⟩
     | none => ⟨none, 0, false, 0⟩)
  | none =>
    let cs := (templsOf m).filter (fun p => p.2.valid && !p.2.coil && p.2.frame == frame
      && (p.2.target == target || p.2.target == 0xFFFF))
    let acc := cs.filter (fun p => p.2.dist mag ≤ p.2.maxDist)
    let best := acc.foldl (fun b p =>
      match b with
      | none => some p
      | some q => if p.2.dist mag < q.2.dist mag then some p else some q) none
    match best with
    | none => ⟨none, 0, false, cs.length⟩
    | some b =>
      let amb := acc.any (fun p => p.2.group != b.2.group && p.2.dist mag < b.2.dist mag + margin)
      if amb then ⟨none, 0, true, cs.length⟩ else ⟨some b, 255 - b.2.dist mag, false, cs.length⟩

/-- A gate needs ranging (R246). -/
def Gate.needs (g : Gate) (ff : Bool) : Bool := g.ranging != 0 || (g.ff == 2 && ff)
/-- A gate needs DS-TWR (R246). -/
def Gate.needsDs (g : Gate) (ff : Bool) : Bool := g.ranging == 2 || (g.ff == 2 && ff)

/-- What a pass knows of its answer (R256). -/
structure PassIn where
  /-- coil of a coil answer -/
  coil : Option Nat
  /-- code frame -/
  frame : Nat
  /-- role, 0 to 4 -/
  role : Nat
  /-- the poll's foreign-field flag -/
  ff : Bool
  /-- a start permission is active -/
  started : Bool
  /-- TARGET of the poll -/
  target : Nat
  /-- node of the ranging port, 0xFFFF none -/
  port : Nat
  /-- magnitudes -/
  mag : List Nat
  /-- leaf indices of the poll that SCOPE is tested against (R249) -/
  leaves : List Nat
  deriving DecidableEq, Repr

/-- SCOPE covers a leaf of the poll (R256 condition 4). -/
def scopeOk (scope : Nat) (leaves : List Nat) (s : State) : Bool :=
  scope == 0xFFFF || (nodeExists scope s && (s.fold.live.leaves scope).any (fun i => leaves.contains i))

/-- Conditions 1 to 7 of R256: a candidate gate (R246). -/
def gateCand (i : PassIn) (z : Zone) (g : Gate) (s : State) : Bool :=
  g.valid && bit i.role g.roles
    && (match i.coil with | none => bit 2 g.cond | some _ => bit 3 g.cond && !g.needs i.ff)
    && scopeOk g.scope i.leaves s
    && (g.groups == 0 || (match z.tm with | some (_, t) => bit t.group g.groups | none => false))
    && !(g.ff == 1 && i.ff)
    && (g.start == 0 || (g.start == 1 && !i.started) || (g.start == 2 && i.started))

/-- Candidate gates with their indices, in index order. -/
def candidates (r : Option RuleSet) (i : PassIn) (z : Zone) (s : State) : List (Nat × Gate) :=
  match r with
  | some x => (List.range x.gates.length).filterMap (fun k =>
      match x.gates[k]? with
      | some g => if gateCand i z g s then some (k, g) else none
      | none => none)
  | none => []

/-- Gates of a list up to and including the first with FINAL (R257). -/
def untilFinal : List (Nat × Gate) → List (Nat × Gate)
  | [] => []
  | p :: l => if p.2.final then [p] else p :: untilFinal l

/-- An exchange outcome as a verdict pass sees it (Table 10.5). -/
inductive Ranging
  /-- none was asked for -/
  | none
  /-- ranged: RANGE_MM, and whether by DS-TWR -/
  | ranged (mm : Nat) (ds : Bool)
  /-- ended without a range, with the answer record's status -/
  | failed (st : Nat)
  deriving DecidableEq, Repr

/-- The range lies in the chosen template's band (R253). -/
def consistent (z : Zone) (port mm : Nat) : Bool :=
  match z.tm with
  | some (_, t) => (t.port == 0xFFFF || t.port == port) && t.bandMin * 10 ≤ mm && mm ≤ t.bandMax * 10
  | none => false

/-- A verdict: status, acting gates, gates that dropped out, RELAY_SUSPECT and the NORANGE count (R253, R254, R257,
R259). -/
structure Verdict where
  /-- status -/
  st : Nat
  /-- acting gates -/
  acting : List (Nat × Gate)
  /-- gates dropped under R254 -/
  dropped : List (Nat × Gate)
  /-- counted in NORANGE -/
  norange : Bool
  deriving DecidableEq, Repr

/-- The decision of a verdict pass (R253, R254, R256, R257). -/
def decideVerdict (i : PassIn) (z : Zone) (cand : List (Nat × Gate)) (r : Ranging) : Verdict :=
  let need := cand.filter (fun p => p.2.needs i.ff)
  let plain := cand.filter (fun p => !p.2.needs i.ff)
  match r with
  | .ranged mm ds =>
    if z.tm.isSome && !consistent z i.port mm then ⟨stRelay, [], [], false⟩
    else ⟨stOk, untilFinal (cand.filter (fun p => !p.2.needs i.ff
      || (consistent z i.port mm && (ds || !p.2.needsDs i.ff)))), [], false⟩
  | .failed st => ⟨st, untilFinal plain, need, true⟩
  | .none =>
    if need.isEmpty then ⟨stOk, untilFinal plain, [], false⟩ else ⟨stNoResponse, untilFinal plain, need, true⟩

/-- A ranging request can be made: the chosen template names no other port, and the poll has one (R254). -/
def rangeable (i : PassIn) (z : Zone) : Bool :=
  i.port != 0xFFFF && (match z.tm with | some (_, t) => t.port == 0xFFFF || t.port == i.port | none => false)

/-! ## Merged actions (R257) -/

/-- Action entry of a gate. -/
def actOf (r : Option RuleSet) (g : Gate) : ActEntry :=
  match r with
  | some x => x.acts.getD g.action ⟨0, 0, 0, 0⟩
  | none => ⟨0, 0, 0, 0⟩

/-- Some acting gate has STARTEN LOCK. -/
def hasLock (r : Option RuleSet) (gs : List (Nat × Gate)) : Bool :=
  gs.any (fun p => (actOf r p.2).kind == 2 && (actOf r p.2).arg == 2)

/-- The lowest acting gate with STARTEN GRANT. -/
def grantGate (r : Option RuleSet) (gs : List (Nat × Gate)) : Option Nat :=
  (gs.find? (fun p => (actOf r p.2).kind == 2 && (actOf r p.2).arg == 1)).map (·.1)

/-- Pins pulsed, in gate order, each with its longest WIDTH and the LEVEL of the lowest gate. -/
def pulsesOf (r : Option RuleSet) (gs : List (Nat × Gate)) : List (Nat × Nat × Bool) :=
  let ps := gs.filterMap (fun p => let a := actOf r p.2; if a.kind = 1 then some a else none)
  let pins := ps.foldl (fun l a => if l.contains a.arg then l else l ++ [a.arg]) []
  pins.map (fun g =>
    let mine := ps.filter (fun a => a.arg = g)
    (g, (mine.map ActEntry.width).foldl max 0, (mine.head?.map (fun a => a.level == 1)).getD false))

/-- CAN selectors, each once, in gate order. -/
def selectorsOf (r : Option RuleSet) (gs : List (Nat × Gate)) : List Nat :=
  (gs.filterMap (fun p => let a := actOf r p.2; if a.kind = 3 then some a.arg else none)).foldl
    (fun l a => if l.contains a then l else l ++ [a]) []

/-- Bit per action entry that is issued (Table 11.7 ACT). -/
def actBits (r : Option RuleSet) (gs : List (Nat × Gate)) : Nat :=
  packBits 64 (fun a => gs.any (fun p => p.2.action == a && (actOf r p.2).kind != 0
    && !((actOf r p.2).kind == 2 && (actOf r p.2).arg == 1 && hasLock r gs)))

/-! ## Banks -/

/-- Brings the VRD_ bank registers in line with the banks (Table 11.11). -/
def syncVrd (s : State) : State :=
  let ver (r : Option Nat) : Word := BitVec.ofNat 32 (r.getD 0)
  let size (r : Option RuleSet) (m : Option ZoneMap) : Word := BitVec.ofNat 32
    ((r.map (fun x => x.gates.length + 512 * x.acts.length)).getD 0 + 65536 * (m.map (fun x => x.templs.length)).getD 0)
  let s1 := regSet VRD_RULES_VER.reg (ver (s.vrd.rules.map (·.version))) s
  let s2 := regSet VRD_MAP_VER.reg (ver (s.vrd.map.map (·.version))) s1
  let s3 := regSet VRD_STG_RULES_VER.reg (ver (s.vrd.stRules.map (·.version))) s2
  let s4 := regSet VRD_STG_MAP_VER.reg (ver (s.vrd.stMap.map (·.version))) s3
  let s5 := regSet VRD_SIZE.reg (size s.vrd.rules s.vrd.map) s4
  let s6 := regSet VRD_STG_SIZE.reg (size s.vrd.stRules s.vrd.stMap) s5
  setFlag VRD_STATUS.RULES_VALID s.vrd.rules.isSome (setFlag VRD_STATUS.MAP_VALID s.vrd.map.isSome
    (setFlag VRD_STATUS.STG_RULES s.vrd.stRules.isSome (setFlag VRD_STATUS.STG_MAP s.vrd.stMap.isSome s6)))

/-- The stored active selection: banks and validity (R263). -/
def selBytes (s : State) : Bytes :=
  [byteOf s.vrd.ruleBank, byteOf s.vrd.mapBank, byteOf (b2n s.vrd.rules.isSome + 2 * b2n s.vrd.map.isSome)]

/-- Stores the selection; a failed store sets COMMIT_ERR (R263). -/
def storeSel (s : State) : State :=
  let r := recStore recVrdSel (selBytes s) s
  if r.2 then setFld VRD_CTL.COMMIT_ERR 1 r.1 else r.1

/-- The staged rule set becomes active (R263): the old active bank is invalid. -/
def activateRules (s : State) : State :=
  match s.vrd.stRules with
  | none => s
  | some r =>
    let s1 := recErase (recRules s.vrd.ruleBank) s
    append 0x40 0 (r.version % 2 ^ 24)
      { s1 with vrd := { s1.vrd with rules := some r, stRules := none, ruleBank := 1 - s1.vrd.ruleBank } }

/-- The staged map becomes active (R263). -/
def activateMap (s : State) : State :=
  match s.vrd.stMap with
  | none => s
  | some m =>
    let s1 := recErase (recMap s.vrd.mapBank) s
    append 0x41 0 (m.version % 2 ^ 24)
      { s1 with vrd := { s1.vrd with map := some m, stMap := none, mapBank := 1 - s1.vrd.mapBank } }

/-- Activates what is asked (R263): a kind whose staged bank is invalid is ignored with SWAP_ERR, and of two together
neither then takes effect. Passes are whole commands, so no pass runs and no trigger waits, and it takes effect at
once. -/
def activate (rules map : Bool) (s : State) : State :=
  if !rules && !map then s
  else if (rules && s.vrd.stRules.isNone) || (map && s.vrd.stMap.isNone) then setFld VRD_STATUS.SWAP_ERR 1 s
  else
    let s1 := if rules then activateRules s else s
    let s2 := if map then activateMap s1 else s1
    storeSel (syncVrd s2)

/-! ## Loads -/

/-- MAGIC of a blob. -/
def blobMagic (rules : Bool) : Nat := if rules then 0xB1E50001 else 0xB1E50002

/-- Check 2 of R262. -/
def blobForm (rules : Bool) (b : Bytes) : Bool :=
  let n := leAt 8 2 b
  let k := if rules then byteAt 10 b else 0
  leAt 0 4 b == blobMagic rules && n ≤ 256 && k ≤ 64 && b.length == (if rules then 32 + 16 * n + 8 * k else 32 + 32 * n)
    && leAt 4 4 b != 0 && allZero (if rules then slice 11 5 b else slice 10 6 b)

/-- Result bytes of a load (Table 11.6). -/
def loadResult (ver count : Nat) (act : Bool) (err : Nat) : Bytes :=
  leBytes 4 ver ++ leBytes 2 count ++ [byteOf (b2n act), 0] ++ leBytes 2 err

/-- The staged bank of a kind is invalid from now on (R262). -/
def dropStaged (rules : Bool) (s : State) : State :=
  if rules then syncVrd (recErase (recRules (1 - s.vrd.ruleBank)) { s with vrd := { s.vrd with stRules := none } })
  else syncVrd (recErase (recMap (1 - s.vrd.mapBank)) { s with vrd := { s.vrd with stMap := none } })

/-- VERSION of the active set of a kind, 0 when there is none. -/
def activeVersion (rules : Bool) (s : State) : Nat :=
  if rules then (s.vrd.rules.map (·.version)).getD 0 else (s.vrd.map.map (·.version)).getD 0

/-- Checks 4 to 6 of R262, then the store and the activation. -/
def loadChecked (rules : Bool) (d : Desc) (key : Option Bytes) (b : Bytes) (s : State) : State :=
  let ver := leAt 4 4 b
  let n := leAt 8 2 b
  let badTag := match key with
    | some k => cmac k (b.take (b.length - 16)) != b.drop (b.length - 16)
    | none => false
  let done (st det err : Nat) (act : Bool) (s : State) : State := complete d st (loadResult ver n act err) det s
  if badTag then done stMacFail 0 0xFFFF false (bump CRY_CNT1.MAC_FAIL s)
  else if lcState s ≠ 0 ∧ ver ≤ activeVersion rules s then done stRollback 0 0xFFFF false s
  else match (if rules then rulesBad b s else mapBad b s) with
  | some e => done stBadLen 0xFF e false s
  | none =>
    let id := if rules then recRules (1 - s.vrd.ruleBank) else recMap (1 - s.vrd.mapBank)
    let r := recStore id (b.take (b.length - 16)) s
    if r.2 then done stEcc 0 0xFFFF false r.1
    else
      let s1 := syncVrd (if rules then { r.1 with vrd := { r.1.vrd with stRules := some (parseRules b) } }
        else { r.1 with vrd := { r.1.vrd with stMap := some (parseMap b) } })
      let act := bit 0 (p8 d 0)
      done stOk 0 0xFFFF act (if act then activate rules (!rules) s1 else s1)

/-- VRD_RULES_LOAD and VRD_MAP_LOAD (R262). -/
def loadUnit (rules : Bool) (d : Desc) (s : State) : State :=
  let s0 := dropStaged rules s
  if p8 d 0 > 1 then fail d stBadLen 32 s0
  else if p8 d 1 ≠ 0 then fail d stBadLen 33 s0
  else
    reserved 4 d (readSrc d d.len (fun b s =>
      if blobForm rules b = false then complete d stBadLen (loadResult 0 0 false 0xFFFF) 8 s
      else if p16 d 2 = 0xFFFF then loadChecked rules d none b s
      else match keyFor (p16 d 2) 2 isAes s with
        | some (_, x) => loadChecked rules d (some x.key) b s
        | none => complete d stBadHandle (loadResult (leAt 4 4 b) (leAt 8 2 b) false 0xFFFF) 34 s)) s0

/-- VRD_RULES_LOAD (R262). -/
def execVrdRulesLoad (t : Nat) (d : Desc) (s : State) : Host.Outcome State Fault Refusal :=
  descCommand t (asOp 0x30 d) (loadUnit true) s
/-- VRD_MAP_LOAD (R262). -/
def execVrdMapLoad (t : Nat) (d : Desc) (s : State) : Host.Outcome State Fault Refusal :=
  descCommand t (asOp 0x31 d) (loadUnit false) s

/-! ## VRD_EVAL -/

/-- An input within the limits of R264 and Table 11.12. -/
def evalInputOk (x : Bytes) (s : State) : Bool :=
  let src := byteAt 0 x
  (src == 0 || (0x80 ≤ src && src < 0x80 + coilCount s.part)) && byteAt 1 x < partFrames s.part && byteAt 2 x ≤ 4
    && byteAt 3 x < 4 && (slice 12 16 x).all (fun b => b.toNat < 64) && allZero (slice 28 4 x)
    && nodeOnPart (leAt 4 2 x) s && (leAt 6 2 x == 0xFFFF || portOnPart (leAt 6 2 x) s)
    && (s.part != .blv8032n || leAt 8 4 x == 0xFFFFFFFF)

/-- One input of VRD_EVAL as a pass reads it (Table 11.7). -/
def evalIn (x : Bytes) (s : State) : PassIn :=
  { coil := if byteAt 0 x = 0 then none else some (byteAt 0 x - 0x80), frame := byteAt 1 x, role := byteAt 2 x,
    ff := bit 0 (byteAt 3 x), started := bit 1 (byteAt 3 x), target := leAt 4 2 x, port := leAt 6 2 x,
    mag := (slice 12 16 x).map (·.toNat), leaves := s.fold.live.leaves (leAt 4 2 x) }

/-- One output of VRD_EVAL (Table 11.7), and whether the answer would act. -/
def evalOne (r : Option RuleSet) (m : Option ZoneMap) (x : Bytes) (s : State) : Bytes × Bool :=
  let i := evalIn x s
  let z := classify m (fld VRD_CTL.MARGIN s) i.coil i.frame i.target i.mag
  let cand := candidates r i z s
  let need := cand.any (fun p => p.2.needs i.ff)
  let mm := leAt 8 4 x
  let rg := if need && mm != 0xFFFFFFFF && rangeable i z then Ranging.ranged mm true else Ranging.none
  let v := decideVerdict i z cand rg
  (leBytes 2 z.num ++ [byteOf z.score, byteOf v.st,
      byteOf (b2n z.ambig + 2 * b2n need + 4 * b2n (v.st == stRelay)),
      byteOf (match v.acting.head? with | some (g, _) => g | none => 0xFF), byteOf v.acting.length, 0]
    ++ leBytes 8 (actBits r v.acting), !v.acting.isEmpty)

/-- VRD_EVAL (R264). -/
def evalUnit (d : Desc) (s : State) : State :=
  if p8 d 0 > 3 then fail d stBadLen 32 s
  else
    reserved 1 d (fun s =>
      let r := if bit 0 (p8 d 0) then s.vrd.stRules else s.vrd.rules
      let m := if bit 1 (p8 d 0) then s.vrd.stMap else s.vrd.map
      if r.isNone ∨ m.isNone then fail d stBadHandle 32 s
      else readSrc d d.len (fun b s =>
        let xs := chunks 32 b
        match (List.range xs.length).find? (fun i => !evalInputOk (xs.getD i []) s) with
        | some i => fail d stBadLen (min i 255) s
        | none =>
          let os := xs.map (fun x => evalOne r m x s)
          writeDst d (os.map (·.1)).flatten (fun s =>
            complete d stOk (leBytes 2 xs.length ++ leBytes 2 (os.countP (·.2))) 0 s) s) s) s

/-- VRD_EVAL (R264). -/
def execVrdEval (t : Nat) (d : Desc) (s : State) : Host.Outcome State Fault Refusal :=
  descCommand t (asOp 0x32 d) evalUnit s

end Sys2Proof.Machine
end

