-- ==== Sys2Proof/Machine/Lf.lean ====
section
/-! DEFINITION. Machine/Lf.lean: the operation sequencer of the LF engine: starts, drive sequences, sensing, response
windows, and the end of a poll (R140 to R153, R159, R183 to R185, R195 to R199, R287). -/
namespace Sys2Proof.Machine

/-! ## Frame map -/

/-- Inserts a channel into a list ordered by (POS, channel). -/
def insertPos (pos : Nat → Nat) (c : Nat) : List Nat → List Nat
  | [] => [c]
  | x :: l => if pos c < pos x ∨ (pos c = pos x ∧ c < x) then c :: x :: l else x :: insertPos pos c l

/-- Listed channels of a subtree, in rank order (R140). -/
def listed (t : Tree) (node : Nat) (s : State) : List Nat :=
  ((t.leaves node).filter (fun c => c < 128 && leafPresent c s && flag (LFE_CHn_CFG.EN c) s && !leafRetired c s)).foldl
    (fun l c => insertPos (fun x => fld (LFE_CHn_CFG.POS x) s) c l) []

/-- The frame map (R140). -/
def frameMap (t : Tree) (node : Nat) (s : State) : List MapLeaf :=
  (listed t node s).zipIdx.map (fun x => ⟨x.1, x.2 / 16, x.2 % 16, leafPinned t x.1 s⟩)

/-- Enabled, unretired coils of a subtree (R155, R249). -/
def pollCoils (t : Tree) (node : Nat) (s : State) : List Nat :=
  ((t.leaves node).filter (fun i => 128 ≤ i && i < 132 && leafPresent i s && bit (i - 128) (fld LFE_COIL_CTL.EN s)
    && !leafRetired i s)).map (· - 128)

/-- Leaf indices of the poll that SCOPE is tested against (R249), as its start has fixed them (R141). -/
def pollLeaves (r : LfRun) : List Nat := (r.map.filter (fun m => !m.silent)).map (·.ch) ++ r.coils.map (· + 128)

/-- The active gate set (R249). -/
def activeGates (leaves : List Nat) (s : State) : List Gate :=
  match s.vrd.rules with
  | some x => x.gates.filter (fun g => g.valid && (g.scope == 0xFFFF && !leaves.isEmpty || scopeOk g.scope leaves s))
  | none => []

/-! ## The end of a poll -/

/-- A time slot, 7.5 ms (Table 06.2). -/
def slotTicks : Nat := 288000

/-- Token processing, 1.2 ms (Table 06.2). -/
def procTicks : Nat := 46080

/-- Status of a poll whose sequence ran (R159). -/
def pollStatus (p : Poll) : Nat :=
  if p.answers.any (·.verified) then stOk
  else if p.vidSeen then stMacFail
  else if !p.collided.isEmpty then stCollision
  else stNoResponse

/-- An answer record (Table 06.9). -/
def answerBytes (ff conc : Bool) (a : Answer) : Bytes :=
  leBytes 8 a.tb ++ [byteOf a.slot, byteOf a.source, byteOf a.status, byteOf a.reslot] ++ leBytes 2 a.zone
    ++ leBytes 2 a.counter ++ fit 16 (a.mag.map byteOf) ++ leBytes 4 a.range
    ++ [byteOf a.rssi, byteOf (b2n ff + 2 * b2n a.co + 4 * b2n (conc && (a.verified || a.authFail)))]
    ++ List.replicate 10 0

/-- Result bytes of LF_POLL (Table 06.10). -/
def pollResult (r : LfRun) (p : Poll) (written : Nat) : Bytes :=
  [byteOf (min p.answers.length 255), byteOf written, byteOf r.f, byteOf p.s]
    ++ leBytes 2 (r.map.countP (fun m => !m.silent)) ++ leBytes 2 (r.map.countP (·.silent))
    ++ [byteOf p.rseq, byteOf (b2n r.ff + 2 * b2n r.ringBad + 4 * b2n (r.req.askers.length > 1) + 8 * b2n p.coilRan
          + 16 * b2n r.late)] ++ leBytes 4 r.start

/-- Seat answers of a poll: verdict OK, DRIVER or CREW, a SEAT template (R287). -/
def seatAnswers (p : Poll) : List Answer :=
  p.answers.filter (fun a => a.judged && a.status == 0 && a.seat && a.role < 2)

/-- The slot with the highest SCORE; the lower slot of equals (R287). -/
def bestSeat (l : List Answer) : Option Answer :=
  l.foldl (fun b a =>
    match b with
    | none => some a
    | some x => if a.score > x.score ∨ (a.score = x.score ∧ a.slot < x.slot) then some a else b) none

/-- The driver of record and the co-driver at the end of a poll (R287), and CO_PRESENT of the flock's slots (R278). -/
def pollDriver (p : Poll) (s : State) : State :=
  let seats := seatAnswers p
  let mark (i : Nat) (x : Option Token) : Option Token :=
    x.map (fun k => { k with co := p.answers.any (fun a => a.co && a.slot == i) })
  let s1 := match s.flk.flock with
    | some f =>
      let slots := f.slots.zipIdx.map (fun x => mark x.2 x.1)
      { s with flk := { s.flk with flock := some { f with slots := slots } } }
    | none => s
  match seats with
  | [] => setFld FLK_DRIVER.CO_PRESENT 0 s1
  | _ =>
    let dor := match bestSeat (seats.filter (fun a => a.role = 0)) with
      | some a => a.slot
      | none => fld FLK_DRIVER.DOR s1
    let co := if seats.length ≤ 1 then 0xFF else
      match bestSeat (seats.filter (fun a => a.slot ≠ dor)) with
      | some a => a.slot
      | none => 0xFF
    setDriver dor co (p.answers.any (·.co)) s1

/-- Reports a poll to the descriptor that asked for it: the records to DST, then the completion (R158, R199). -/
def reportPoll (r : LfRun) (p : Poll) (st : Nat) (s : State) : State :=
  match r.req.desc with
  | none => s
  | some d =>
    let recs := p.answers.map (answerBytes r.ff p.concurrent)
    let w := min recs.length (d.len / 48)
    writeDst d (recs.take w).flatten (complete d st (pollResult r p w) (sat 8 (recs.length - w))) s

/-- The poll is gone from the radios. -/
def dropPoll (s : State) : State :=
  endHold (dropWindows (fun _ => false) { s with poll := none, uwb := { s.uwb with exch := [] } })

/-- The poll's work is done: no window, coil, exchange or verdict is left (R145 step 10, R197). -/
def pollDone (p : Poll) (s : State) : Bool :=
  p.shut && p.coils.all (·.done) && s.uwb.exch.isEmpty && p.answers.all (fun a => a.trig.isNone && !a.ranging)

/-- A poll whose work is done completes (R145, R159, R199, R287). -/
def settlePoll (s : State) : State :=
  match s.lf.run, s.poll with
  | some r, some p =>
    if r.req.kind == .poll && pollDone p s then
      let s1 := endLf r.ff r.satur (dropPoll s)
      reportPoll r p (pollStatus p) (pollDriver p s1)
    else s
  | _, _ => s

/-- The LF operation that runs ends with a status of its own (R24, R77): no verdict is left to give. -/
def abortLf (st : Nat) (s : State) : State :=
  match s.lf.run with
  | none => s
  | some r =>
    let s1 := endLf r.ff r.satur (match s.poll with | some _ => dropPoll s | none => s)
    settleLfCals (match r.req.desc, s.poll with
      | some _, some p => reportPoll r p st s1
      | some d, none => fail d st 0 s1
      | none, _ => s1)

/-! ## Starting -/

/-- A poll that completes at its start and drives nothing (R142, R185). START has no time 0 to report (free value). -/
def endAtStart (r : LfReq) (late : Bool) (st : Nat) (map : List MapLeaf) (f : Nat) (s : State) : State :=
  let silent := map.countP (·.silent)
  match r.desc with
  | none => endLf false false s
  | some d =>
    let res := [0, 0, byteOf f, byteOf r.slots] ++ leBytes 2 (map.length - silent) ++ leBytes 2 silent ++ [0, byteOf (16 * b2n late)]
    complete d st (res ++ freeBytes 4 s) 0 (endLf false false (tookFree 4 s))

/-- Challenge of a drive sequence: 64 bits drawn, with bits 6:0 replaced (R185). -/
def seqChallenge (raw : Bytes) (rseq sl f : Nat) : Nat := beNat raw / 128 * 128 + rseq * 32 + (sl - 1) * 8 + (f - 1)

/-- Start and end of the response window of a sequence that starts at `t0` (Table 06.2). -/
def windowOf (t0 f sl : Nat) : Nat × Nat :=
  let o := t0 + driveTicks f + procTicks
  (o, o + sl * slotTicks)

/-- A coil of a poll before its exchange. -/
def freshCoil (c : Nat) : CoilRun :=
  { coil := c, tries := 0, challenge := 0, head := (0, 0), from_ := none, active := false, since := 0, cut := false, done := false }

/-- The poll's own state at its start. -/
def freshPoll (r : LfReq) (t : Tree) (coils leaves : List Nat) (lfList : Bool) (ch : Nat) (s : State) : Poll :=
  let gs := activeGates leaves s
  { challenge := ch, rseq := 0, s := r.slots, answers := [], collided := [], synced := [], window := none, ended := [],
    shut := !lfList, heard := false, coils := coils.map freshCoil, coilRan := false, vidSeen := false,
    concurrent := false, pinStop := false, header := some (fld FLK_VID.VID s, fld FLK_FLOCK.EPOCH s), paused := false,
    port := pollPort t r.node s, chainB := (match pollPort t r.node s with | some q => partnerOk q s | none => false), gateRange := gs.any (fun g => g.ranging != 0), gateFf := gs.any (fun g => g.ff == 2),
    gateImmo := gs.any (fun g => let k := (actOf s.vrd.rules g).kind; k == 2 || k == 3), warmed := false,
    denied := false, rxFrom := 2 ^ 64 }

/-- An operation's run at its start. -/
def freshRun (r : LfReq) (phase : LfPhase) (map : List MapLeaf) (chans coils : List Nat) (late : Bool) (s : State) : LfRun :=
  { req := r, start := now s, seq := now s, phase := phase, map := map, f := ceilDiv map.length 16,
    quarters := (quartersOf ((map.filter (fun m => !m.silent)).map (·.ch))).toNat, todo := [], rounds := 0, rings := [],
    tree := s.fold.live, chans := chans, coils := coils, late := late, sensed := false, ff := false, ringBad := false, satur := false }

/-- A poll starts (R140 to R145, R185, R210, R249). One without listed channels and with OPTS.NO_COIL completes with OK
(DESIGN CHOICE, log entry 100). -/
def startPoll (r : LfReq) (late : Bool) (s : State) : State :=
  let t := s.fold.live
  let map := frameMap t r.node s
  let f := ceilDiv map.length 16
  let here := pollCoils t r.node s
  let coils := if bit 2 r.opts then [] else here.filter (fun c => !leafPinned t (128 + c) s)
  if nodePinned t r.node s then endAtStart r late stPinfold map f s
  else if map.isEmpty && (here.isEmpty || (bit 2 r.opts && here.all (fun c => !leafPinned t (128 + c) s))) then
    endAtStart r late stOk map f s
  else if map.all (·.silent) && coils.isEmpty then endAtStart r late stPinfold map f s
  else if map.isEmpty then
    let run := freshRun r .respond map [] here late s
    { s with lf := { s.lf with run := some run }, poll := some (freshPoll r t coils (coils.map (· + 128)) false 0 s) }
  else match drawFails s with
  | some st => endAtStart r late st map f s
  | none =>
    let dr := drawBytes 8 s
    let ch := seqChallenge dr.1 0 r.slots f
    let run := freshRun r .drive map [] here late s
    let p := freshPoll r t coils (pollLeaves run) true ch s
    let s1 := { dr.2 with lf := { s.lf with run := some run }, poll := some p }
    reserveWindows [windowOf run.seq f r.slots] s1

/-- Channels that LF_LISTEN senses (R161). -/
def listenChans (t : Tree) (node : Nat) (s : State) : List Nat :=
  match leafIndex node with
  | some i => if i < 128 && leafPresent i s && flag (LFE_CHn_CFG.NET i) s then [i] else []
  | none => (t.leaves node).filter (fun i => i < 128 && leafPresent i s && flag (LFE_CHn_CFG.EN i) s
      && flag (LFE_CHn_CFG.NET i) s && !leafRetired i s)

/-- Coils that an LF_DIAG RING tests (R156, R160). -/
def diagCoils (t : Tree) (node : Nat) (s : State) : List Nat :=
  match leafIndex node with
  | some i => if 128 ≤ i && i < 132 && leafPresent i s then [i - 128] else []
  | none => ((t.leaves node).filter (fun i => 128 ≤ i && i < 132 && leafPresent i s && !leafRetired i s)).map (· - 128)

/-- Result bytes of LF_DIAG RING (R160). -/
def diagResult (rings : List RingRec) (rounds : Nat) : Bytes :=
  let n (k : Nat) : Nat := rings.countP (fun r => r.result = k)
  leBytes 2 rings.length ++ leBytes 2 (n 1) ++ [byteOf (n 2), byteOf (n 3), byteOf (n 4), byteOf (n 5), byteOf (n 6)]
    ++ leBytes 2 (match rings.find? (fun r => r.result ≠ 1) with | some r => r.node | none => 0xFFFF) ++ [byteOf rounds]

/-- Inserts a record in ascending node order. -/
def insertRing (r : RingRec) : List RingRec → List RingRec
  | [] => [r]
  | x :: l => if r.node < x.node then r :: x :: l else x :: insertRing r l

/-- LF_DIAG RING completes (R160). -/
def finishDiag (r : LfRun) (s : State) : State :=
  let rings := r.rings.foldl (fun l x => insertRing x l) []
  let s1 := endLf false r.satur s
  match r.req.desc with
  | none => s1
  | some d =>
    let w := min rings.length (d.len / 8)
    settleLfCals <| notePass d rings <| writeDst d ((rings.take w).map ringBytes).flatten (complete d stOk (diagResult rings r.rounds) 0) s1

/-- LF_DIAG RING starts: the rounds with a channel of the target (R151). A target of coils alone has no round, and one
that tests nothing completes at once. -/
def startDiag (r : LfReq) (s : State) : State :=
  let chs := diagChans s.fold.live r.node s
  let todo := (List.range 8).filter (fun k => !(roundChans k chs).isEmpty)
  let coils := diagCoils s.fold.live r.node s
  let run := { freshRun r (if todo.isEmpty then .sense else .drive) [] chs coils false s with todo := todo }
  if todo.isEmpty && coils.isEmpty then finishDiag run s else { s with lf := { s.lf with run := some run } }

/-- TARGET of a queued operation still exists (R142, R170). -/
def reqExists (r : LfReq) (s : State) : Bool := nodeExists r.node s

/-- A scheduled poll would start more than one period after its own due time (R95). -/
def tooLate (s : State) (a : Asker × Nat) : Bool :=
  match a.1 with
  | .sched e => decide (a.2 + fld (PWR_SCHEDn.PERIOD e) s * 384000 < now s)
  | .wake _ => false

/-- The operation without the scheduled polls that are too late (R95). -/
def dropLate (s : State) (r : LfReq) : LfReq := { r with askers := r.askers.filter (fun a => !tooLate s a) }

/-- Polls of schedule entries among an operation's requesters. -/
def schedCount (r : LfReq) : Nat :=
  r.askers.countP (fun a => match a.1 with | .sched _ => true | .wake _ => false)

/-- The engine can start an operation: its islands are up, or a poll of the schedule or a WAKE pin powers them in Watch
(R92, Table 01.1). -/
def lfReady (r : LfReq) (s : State) : Bool :=
  fastContent s && tbRuns s && s.pwr.entering.isNone &&
    ((s.pwr.st == .run && islandOn .lfs s && islandOn .lfa s) || (s.pwr.st == .watch && r.desc.isNone))

/-- The operation at the head of the queue starts (R142, R144): held writes take effect first (R163). -/
def startOp (r : LfReq) (s : State) : State :=
  let late := match r.desc with
    | some d => hasAt d && decide (d.atTb < now s)
    | none => false
  let s1 := applyHeld 0x0C00 0x1000 (applyHeld 0x0800 0x0828 s)
  if reqExists r s1 = false then
    (match r.desc with
     | some d => settleLfCals (fail d stBadFold 4 (endLf false false s1))
     | none => addFld PWR_CNT.SCHED_MISS (schedCount r) (endLf false false s1))
  else match r.kind with
  | .poll => startPoll r late s1
  | .diagRing => startDiag r s1
  | .diagApply =>
    (match r.desc with
     | some d => settleLfCals (runApply s1.fold.live r d (endLf false false s1))
     | none => s1)
  | .listen => { s1 with lf := { s1.lf with run := some (freshRun r .listen [] (listenChans s1.fold.live r.node s1) [] late s1) } }

/-- POLL_START (R144, R145): the head of the queue, at the later of AT and its turn; a RESET before it in order holds it
back (R178). -/
def pollStart (s : State) : State :=
  match s.lf.queue with
  | [] => s
  | r :: rest =>
    let waits := match r.desc with
      | some d => hasAt d && decide (now s < d.atTb)
      | none => false
    onlyIf (!lfRuns s && lfReady r s && !heldByReset r s && !waits) (fun s =>
      let s1 := admitWaiting s.lf.wait { s with lf := { s.lf with queue := rest } }
      let s2 := addFld PWR_CNT.SCHED_MISS (r.askers.countP (tooLate s1)) s1
      let r1 := dropLate s1 r
      if r1.desc.isNone && r1.askers.isEmpty then s2 else startOp r1 s2) s

/-- POLL_START (R145). -/
def execPollStart (t : Nat) (s : State) : Host.Outcome State Fault Refusal := command t pollStart s

/-! ## Drive and sense -/

/-- Ring analysis is selected (R150, Table 06.8). -/
def ringOn (r : LfRun) (s : State) : Bool := bit 0 r.req.opts || flag LFE_CTL.RING_AUTO s

/-- Ring-down of the driven leaves of the last frame (R149, R150). -/
def pollRings (r : LfRun) (m : List RingMeas) (s : State) : List RingRec :=
  let l := (r.map.filter (fun x => x.frame + 1 == r.f && !x.silent)).map (·.ch)
  if ringOn r s then l.map (fun c => ringRec c (lfFreq c s) (adcShare l c s) (ringOf m c) s) else []

/-- DRIVE_SEQUENCE_END (R51): drive-to-listen, and the ring-down window where it is selected. -/
def driveEnd (m : List RingMeas) (s : State) : State :=
  match s.lf.run with
  | some r =>
    onlyIf (r.req.kind == .poll && r.phase == .drive && r.seq + driveTicks r.f ≤ now s) (fun s =>
      let rings := pollRings r m s
      let hot := rings.any (fun x => x.sat > 0)
      let r1 := { r with phase := .sense, ringBad := r.ringBad || rings.any (fun x => x.result ≠ 1),
                         satur := r.satur || hot }
      noteSat hot (rings.foldl (fun s x => noteRing x s) { s with lf := { s.lf with run := some r1 } })) s
  | none => s

/-- DRIVE_SEQUENCE_END (R51). -/
def execDriveSequenceEnd (t : Nat) (r : List RingMeas) (s : State) : Host.Outcome State Fault Refusal :=
  command t (driveEnd r) s

/-- The poll senses foreign fields (R152). -/
def ffOn (r : LfRun) (s : State) : Bool := flag LFE_CTL.FF_AUTO s && !bit 1 r.req.opts

/-- Channels of a poll's foreign-field window: listed, with NET = 1, silent ones too (R152). -/
def ffChans (r : LfRun) (s : State) : List Nat :=
  (r.map.map (·.ch)).filter (fun c => flag (LFE_CHn_CFG.NET c) s)

/-- FOREIGN_FIELD_WINDOW_END (R152, R153). -/
def ffEnd (m : List SenseMeas) (s : State) : State :=
  match s.lf.run with
  | some r =>
    let close := r.seq + driveTicks r.f + 384 * (fld LFE_SENSE.FF_DELAY s + fld LFE_SENSE.FF_WIN s)
    onlyIf (r.req.kind == .poll && r.phase == .sense && !r.sensed && ffOn r s && close ≤ now s) (fun s =>
      let ms := (ffChans r s).map (senseOf m)
      let hot := ms.filter (overThr s)
      let wet := ms.any (·.sat)
      let r1 := { r with sensed := true, ff := r.ff || !hot.isEmpty, satur := r.satur || wet }
      foreignSeen hot 0 (flag LFE_SENSE.FF_BAND s) (noteSat wet (clearFf ms { s with lf := { s.lf with run := some r1 } }))) s
  | none => s

/-- FOREIGN_FIELD_WINDOW_END (R153). -/
def execForeignFieldWindowEnd (t : Nat) (m : List SenseMeas) (s : State) : Host.Outcome State Fault Refusal :=
  command t (ffEnd m) s

/-! ## Response windows -/

/-- VID and EPOCH of a coil's downlink: those in force when its attempt starts (R202). -/
def coilHead (s : State) : Nat × Nat := (fld FLK_VID.VID s, fld FLK_FLOCK.EPOCH s)

/-- A coil attempt that a drive sequence cut is made again, with a new challenge (R155), as long as the coil has an attempt
left: it runs at most two in a poll (R203). -/
def resumeCoils (w : Nat) : List CoilRun → State → List CoilRun × State
  | [], s => ([], s)
  | c :: cs, s =>
    if c.cut && c.tries ≥ 2 then
      let r := resumeCoils w cs s
      ({ c with cut := false, active := false, done := true } :: r.1, r.2)
    else if c.cut then
      match drawFails s with
      | some _ =>
        let r := resumeCoils w cs s
        ({ c with cut := false, active := false, done := true } :: r.1, r.2)
      | none =>
        let dr := drawBytes 8 s
        let r := resumeCoils w cs dr.2
        ({ c with cut := false, active := true, tries := c.tries + 1, challenge := beNat dr.1, head := coilHead s, since := w } :: r.1,
         r.2)
    else
      let r := resumeCoils w cs s
      (c :: r.1, r.2)

/-- RESPONSE_WINDOW_OPEN (R145 step 8, R208, R217). -/
def windowOpen (s : State) : State :=
  match s.lf.run, s.poll with
  | some r, some p =>
    let w := (windowOf r.seq r.f p.s).1
    onlyIf (r.req.kind == .poll && r.phase == .sense && w ≤ now s) (fun s =>
      let c := resumeCoils w p.coils s
      let p1 := { p with window := some w, collided := [], synced := [], ended := [], paused := false, denied := false,
                         rxFrom := if coexOk 0 s then w else 2 ^ 64, coils := c.1 }
      let s1 := { c.2 with lf := { c.2.lf with run := some { r with phase := .respond } }, poll := some p1
                           uhf := { c.2.uhf with window := true } }
      if spanOk s1 then s1 else setFld UHF_STATUS.SPAN_ERR 1 s1) s
  | _, _ => s

/-- RESPONSE_WINDOW_OPEN (R145). -/
def execResponseWindowOpen (t : Nat) (s : State) : Host.Outcome State Fault Refusal := command t windowOpen s

/-- A coil attempt under way is cut by the drive sequence (R155). -/
def cutCoil (c : CoilRun) : CoilRun := if c.active then { c with active := false, cut := true } else c

/-- A re-slot drive sequence starts 10 us after the window's close (R196, R210). -/
def reslot (r : LfRun) (p : Poll) (close : Nat) (s : State) : State :=
  let dr := drawBytes 8 s
  let t0 := close + 384
  let p1 := { p with challenge := seqChallenge dr.1 (p.rseq + 1) p.s r.f, rseq := p.rseq + 1, window := none,
                     collided := [], synced := [], ended := [], header := none, coils := p.coils.map cutCoil }
  let run := { r with phase := .drive, seq := t0, sensed := false }
  reserveWindows [windowOf t0 r.f p.s] { dr.2 with lf := { dr.2.lf with run := some run }, poll := some p1 }

/-- RESPONSE_WINDOW_CLOSE (R196): a re-slot sequence, or the end of the poll once its coils, exchanges and verdicts are
done. -/
def windowClose (s : State) : State :=
  match s.lf.run, s.poll with
  | some r, some p =>
    match p.window with
    | none => s
    | some w =>
      let close := w + p.s * slotTicks
      onlyIf (close ≤ now s) (fun s =>
        let s1 := dropWindows (fun x => x.1 ≠ w) s
        if !p.collided.isEmpty && p.rseq < r.req.reslot && !p.pinStop && (drawFails s1).isNone then reslot r p close s1
        else settlePoll (endHold { s1 with poll := some { p with window := none, shut := true } })) s
  | _, _ => s

/-- RESPONSE_WINDOW_CLOSE (R196). -/
def execResponseWindowClose (t : Nat) (s : State) : Host.Outcome State Fault Refusal := command t windowClose s

/-! ## Diagnostics and listening -/

/-- LF_DIAG_ROUND_END (R149, R151, R156): the round's leaves are classified; with the last round, the coils too. -/
def diagRound (m : List RingMeas) (s : State) : State :=
  match s.lf.run with
  | some r =>
    let k := r.todo.headD 8
    let mine := roundChans k r.chans
    let stop := if r.todo.isEmpty then r.seq else
      r.seq + usTicks 2 + burstTicks r.req mine s + usTicks 3 + 384 * fld LFE_DIAG_CTL.RING s
    onlyIf (r.req.kind == .diagRing && stop ≤ now s) (fun s =>
      let recs := mine.map (fun c => ringRec c (runFreq r.req c s) 1 (ringOf m c) s)
      let rest := r.todo.drop 1
      let coils := if rest.isEmpty then r.coils else []
      let crecs := coils.map (fun c =>
        let x := ringOf m (0x80 + c)
        (⟨0x80 + c, coilCheck x.coilPct x.coilLimit, 0, 0, 0, 0⟩ : RingRec))
      let hot := recs.any (fun x => x.sat > 0)
      let r1 := { r with todo := rest, rounds := r.rounds + b2n (!r.todo.isEmpty), rings := r.rings ++ recs ++ crecs,
                         satur := r.satur || hot, seq := stop, phase := LfPhase.drive }
      let s1 := noteSat hot (recs.foldl (fun s x => noteRing x s) s)
      let s2 := crecs.foldl (fun s x => noteCoil (x.node - 0x80) x.result s) s1
      if rest.isEmpty then finishDiag r1 s2
      else { s2 with lf := { s2.lf with run := some r1 } }) s
  | none => s

/-- LF_DIAG_ROUND_END (R151). -/
def execLfDiagRoundEnd (t : Nat) (r : List RingMeas) (s : State) : Host.Outcome State Fault Refusal :=
  command t (diagRound r) s

/-- 8 bytes of a LISTEN record (Table 06.12). -/
def listenBytes (s : State) (m : SenseMeas) : Bytes :=
  [byteOf m.ch, byteOf (b2n (overThr s m) + 2 * b2n m.sat)] ++ leBytes 2 m.peak ++ leBytes 2 m.rms ++ leBytes 2 m.freq

/-- LF_LISTEN_WINDOW_END (R153, R161). With OPTS.EVT = 0 it does not count in LFE_CNT.FF (DESIGN CHOICE, log entry 101). -/
def listenEnd (m : List SenseMeas) (s : State) : State :=
  match s.lf.run with
  | some r =>
    match r.req.desc with
    | some d =>
      onlyIf (r.req.kind == .listen && r.start + msTicks (p16 d 0) ≤ now s) (fun s =>
        let ms := r.chans.map (senseOf m)
        let hot := ms.filter (overThr s)
        let wet := ms.any (·.sat)
        let evt := bit 0 r.req.opts
        let s1 := noteSat wet (clearFf ms s)
        let s2 := if evt then foreignSeen hot 1 (p8 d 2 == 1) s1 else s1
        let s3 := endLf (evt && !hot.isEmpty) wet s2
        let tail := match strongest ms with
          | some x => leBytes 2 x.ch ++ leBytes 2 x.peak ++ leBytes 2 x.freq
          | none => leBytes 2 0xFFFF ++ leBytes 4 0
        let w := min ms.length (d.len / 8)
        writeDst d ((ms.take w).map (listenBytes s)).flatten
          (complete d stOk (leBytes 2 ms.length ++ leBytes 2 hot.length ++ tail) 0) s3) s
    | none => s
  | none => s

/-- LF_LISTEN_WINDOW_END (R161). -/
def execLfListenWindowEnd (t : Nat) (m : List SenseMeas) (s : State) : Host.Outcome State Fault Refusal :=
  command t (listenEnd m) s

end Sys2Proof.Machine
end

