-- ==== Sys2Proof/Machine/Learn.lean ====
section
/-! DEFINITION. Machine/Learn.lean: learning a flock, its Bellwether, and FLOCK_STATUS (R267 to R278, R285). -/
namespace Sys2Proof.Machine

/-! ## The flock and its records -/

/-- Token of a slot. -/
def tokenOf (i : Nat) (s : State) : Option Token :=
  match s.flk.flock with
  | some f => (f.slots[i]?).join
  | none => none

/-- Stored form of a slot. -/
def tokenBytes (x : Option Token) : Bytes :=
  match x with
  | some k => [1, byteOf k.role] ++ leBytes 2 k.last ++ leBytes 4 k.id ++ fit 16 k.key ++ leBytes 4 k.seen
  | none => List.replicate 28 0

/-- Stored form of a flock with its tag (R270, R275). -/
def flockBytes (f : Flock) : Bytes := leBytes 4 f.vid ++ leBytes 6 f.tag ++ (f.slots.map tokenBytes).flatten

/-- A slot read back. -/
def parseToken (b : Bytes) : Option Token :=
  if byteAt 0 b = 1 then
    some { role := byteAt 1 b, id := leAt 4 4 b, key := slice 8 16 b, last := leAt 2 2 b, seen := leAt 24 4 b, co := false }
  else none

/-- A flock read back. -/
def parseFlock (b : Bytes) : Flock :=
  { vid := leAt 0 4 b, tag := leAt 4 6 b, slots := (List.range 64).map (fun i => parseToken (slice (10 + 28 * i) 28 b)) }

/-- Which of the two flock records holds the flock tagged `tag`. -/
def flockBank (tag : Nat) (s : State) : Option Nat :=
  (List.range 2).find? (fun b => match recRead (recFlock + b) s with | some x => leAt 4 6 x == tag | none => false)

/-- Stores the flock in force with its present LAST and SEEN values (R194). -/
def storeFlock (s : State) : State :=
  match s.flk.flock with
  | some f => (recStore (recFlock + (flockBank f.tag s).getD 0) (flockBytes f) s).1
  | none => s

/-- FLK_FLOCK, FLK_VID and FLOCK_VALID follow the flock in force and counter 252 (R269, R298). -/
def syncFlock (s : State) : State :=
  let e := tallyVal 252 s % 256
  let slots := (s.flk.flock.map (·.slots)).getD []
  setFld FLK_FLOCK.EPOCH e (setFld FLK_FLOCK.NEXT ((e + 1) % 256)
    (setFld FLK_FLOCK.TOKENS (slots.countP (·.isSome))
    (setFld FLK_FLOCK.BELLS (slots.countP (fun x => match x with | some k => k.role == 4 | none => false))
    (setFld FLK_VID.VID ((s.flk.flock.map (·.vid)).getD 0) (setFlag FLK_STATUS.FLOCK_VALID s.flk.flock.isSome s)))))

/-- The flock in force at a configuration load (R275). -/
def loadFlock (s : State) : State :=
  let t := tallyVal 252 s
  match flockBank t s with
  | some b =>
    let f := (recRead (recFlock + b) s).map parseFlock
    syncFlock (recErase (recFlock + (1 - b)) { s with flk := { s.flk with flock := f } })
  | none =>
    let s1 := syncFlock { s with flk := { s.flk with flock := none } }
    if t > 0 || (recRead recFlock s).isSome || (recRead (recFlock + 1) s).isSome then append 0x31 0 0 s1 else s1

/-! ## FLOCK_LEARN -/

/-- Blob without its signature. -/
def learnBlob (d : Desc) (b : Bytes) : Bytes := if p8 d 0 = 1 then b.take (b.length - 64) else b

/-- Check 1 of R274 on the blob. -/
def learnForm (d : Desc) (b : Bytes) : Bool :=
  let x := learnBlob d b
  let n := byteAt 7 x
  let vid := leAt 4 3 x
  leAt 0 4 x == 0xB1E50003 && n ≤ 64 && x.length == 48 + 32 * n && (p8 d 0 != 1 || b.length ≥ 112)
    && 1 ≤ vid && vid ≤ 0xFFFFFE && allZero (slice 9 3 x) && allZero (slice 24 8 x)

/-- BW_FOLD fits AUTH (R274 check 1). -/
def bwFoldOk (d : Desc) : Bool :=
  let f := p16 d 4
  if p8 d 0 = 0 then f == 0xFFFF || (0x100 ≤ f && f ≤ 0x1FE) else f == 0 || f == 0xFFFF

/-- The fleet public key, when one is installed (R413). -/
def fleetKey (s : State) : Option Bytes := (recRead recFleet s).map (fit 64)

/-- What a SIGNED learn's signature covers (R273). -/
def learnMsg (b : Bytes) (s : State) : Bytes := b.take (b.length - 64) ++ dsn ++ leBytes 6 (tallyVal 252 s + 1)

/-- The signature verifies (R274 check 4). -/
def learnSigOk (b : Bytes) (s : State) : Bool :=
  match fleetKey s with
  | some k => ecdsaVerify k (sha256 (learnMsg b s)) (b.drop (b.length - 64))
  | none => false

/-- Index of the first entry at fault (R274 check 6). -/
def entryBad (es : List Bytes) : Option Nat :=
  (List.range es.length).find? (fun i =>
    let e := es.getD i []
    let x := flockEntry e
    x.1 ≥ 64 || x.2.role > 4 || !allZero (slice 24 8 e)
      || (es.take i).any (fun y => (flockEntry y).1 == x.1 || (flockEntry y).2.id == x.2.id))

/-- The flock of decrypted entries. -/
def flockOf (vid : Nat) (es : List Bytes) : Flock :=
  { vid := vid, tag := 0
    slots := es.foldl (fun l b => let e := flockEntry b; l.set e.1 (some e.2)) (List.replicate 64 none) }

/-- Result bytes of FLOCK_LEARN (Table 12.3). -/
def learnResult (d : Desc) (n bw err : Nat) (s : State) : Bytes :=
  [byteOf (fld FLK_FLOCK.EPOCH s), byteOf n, byteOf bw, byteOf (p8 d 0)] ++ leBytes 3 (fld FLK_VID.VID s)
    ++ [byteOf err] ++ leBytes 6 (tallyVal 252 s)

/-- A learn ends without effect: the staged bank is left cleared (R274). -/
def learnFails (d : Desc) (st det err : Nat) (s : State) : State :=
  let s1 := setFld FLK_STATUS.LEARN_BUSY 0 (setFld FLK_STATUS.BW_WAIT 0
    { s with flk := { s.flk with staged := none, learn := none } })
  complete d st (learnResult d 0 0xFF err s1) det s1

/-- The new flock becomes active (R275 steps 4 and 5, R276); an answer kept from the old one authorises nothing any more
(R272). -/
def activateFlock (f : Flock) (d : Desc) (bw : Nat) (s : State) : State :=
  let n := f.slots.countP (·.isSome)
  let old := 1 - (flockBank f.tag s).getD 0
  let s1 := recErase (recFlock + old) { s with flk := { s.flk with flock := some f, pend := none, staged := none, bell := none } }
  let s2 := endPermission 4 0 (clearDriver (syncFlock s1))
  let s3 := append 0x30 (p8 d 0) (f.tag % 256 + 256 * n + 65536 * bw) s2
  let s4 := setFld FLK_STATUS.LEARN_BUSY 0 (setFld FLK_STATUS.BW_WAIT 0 s3)
  if isFlying d s4 then complete d stOk (learnResult d n bw 0xFF s4) 0 s4 else s4

/-- A trigger waits for the verdict engine (R248). -/
def triggerWaits (s : State) : Bool :=
  match s.poll with
  | some p => p.answers.any (fun a => a.trig.isSome)
  | none => false

/-- A learn that passed every check commits (R274 check 8, R275). -/
def commitLearn (d : Desc) (f : Flock) (bw : Nat) (s : State) : State :=
  let s0 := { s with flk := { s.flk with learn := none } }
  let v := tallyVal 252 s0
  if v ≥ tallyMax then learnFails d stTallySat 0 0xFF s0
  else
    let g := { f with tag := v + 1 }
    let other := match s0.flk.flock with
      | some x => 1 - (flockBank x.tag s0).getD 1
      | none => 0
    let r := recStore (recFlock + other) (flockBytes g) s0
    if r.2 then learnFails d stEcc 0 0xFF r.1
    else
      let c := tallyStep 252 1 r.1
      match c.2 with
      | .done _ _ _ _ =>
        if triggerWaits c.1 then { c.1 with flk := { c.1.flk with pend := some (g, d, bw) } }
        else activateFlock g d bw c.1
      | .saturated => learnFails d stTallySat 0 0xFF c.1
      | _ => learnFails d stEcc 0 0xFF c.1

/-- A Bellwether answer that a learn may still use: at most 60 s old (R272). -/
def freshBell (s : State) : Option Nat :=
  match s.flk.bell with
  | some (slot, t) => if now s ≤ t + secTicks 60 then some slot else none
  | none => none

/-- Checks 7 and 8 of a learn that has passed the rest (R274). -/
def authorise (d : Desc) (f : Flock) (s : State) : State :=
  if p8 d 0 ≠ 0 then commitLearn d f 0xFF s
  else match freshBell s with
    | some slot => commitLearn d f slot { s with flk := { s.flk with bell := none } }
    | none =>
      setFld FLK_STATUS.BW_WAIT 1 { s with flk := { s.flk with
        learn := some { d := d, flock := f, since := now s, nextPoll := now s } } }

/-- FLOCK_LEARN (R270 to R275). -/
def learnUnit (d : Desc) (s0 : State) : State :=
  let s := setFld FLK_STATUS.LEARN_BUSY 1 s0
  if p8 d 0 > 2 then learnFails d stBadLen 32 0xFF s
  else if p8 d 1 ≠ 0 then learnFails d stBadLen 33 0xFF s
  else match parNonzero 6 24 d with
  | some det => learnFails d stBadLen det 0xFF s
  | none =>
    match dmaRead d d.srcAddr d.len s with
    | none => learnFails d stBadAddr 16 0xFF (if s.hif.busMaster then setFault HIF_FAULT.DATA_DMA s else s)
    | some b =>
      if learnForm d b = false then learnFails d stBadLen 0xFF 0xFF s
      else if bwFoldOk d = false then learnFails d stBadLen 36 0xFF s
      else match keyFor (p16 d 2) 1 (fun k => k == 1 || k == 3) s with
      | none => learnFails d stBadHandle 34 0xFF s
      | some (_, x) =>
        let blob := learnBlob d b
        let n := byteAt 7 blob
        if byteAt 8 blob ≠ fld FLK_FLOCK.NEXT s then learnFails d stRollback 0 0xFF s
        else if p8 d 0 = 1 ∧ learnSigOk b s = false then learnFails d stMacFail 0 0xFF (countVerify false s)
        else
          let s := if p8 d 0 = 1 then countVerify true s else s
          let iv := slice 12 12 blob
          let ct := slice 32 (32 * n) blob
          if gcmTag x.key iv (blob.take 32) ct ≠ blob.drop (32 + 32 * n) then
            learnFails d stTagFail 0 0xFF (bump CRY_CNT0.TAG_FAIL s)
          else
            let es := chunks 32 (gcmCrypt x.key iv ct)
            match entryBad es with
            | some i => learnFails d stBadLen 0xFF i s
            | none =>
              let f := flockOf (leAt 4 3 blob) es
              authorise d f { s with flk := { s.flk with staged := some f } }

/-- FLOCK_LEARN (R270). -/
def execFlockLearn (t : Nat) (d : Desc) (s : State) : Host.Outcome State Fault Refusal :=
  descCommand t (asOp 0x38 d) learnUnit s

/-- A Bellwether's answer has passed checks 1 to 4 (R272): it authorises the learn that waits, or is kept. -/
def bellAnswer (slot : Nat) (s : State) : State :=
  match s.flk.learn with
  | some l =>
    if now s ≤ l.since + secTicks 60 then commitLearn l.d l.flock slot s
    else { s with flk := { s.flk with bell := some (slot, now s) } }
  | none => { s with flk := { s.flk with bell := some (slot, now s) } }

/-- BW_FOLD's LF_POLL on the Drover port (R272). -/
def bellDesc (l : Learn) (s : State) : Desc :=
  { src := .drover, idx := 0xBE00 + (l.nextPoll - l.since) / secTicks 2, no := s.hif.dispNo, opcode := 0x10, flags := 0, tag := 0,
    target := p16 l.d 4, len := 0, timeout := 0, rsv := 0, srcAddr := 0, dstAddr := 0,
    par := [4, 0, 2] ++ List.replicate 21 0, atTb := 0 }

/-- BELLWETHER_POLL (R272): at the start of the wait and then every 2.0 s. -/
def bellPoll (s : State) : State :=
  match s.flk.learn with
  | none => s
  | some l =>
    onlyIf (p16 l.d 4 != 0xFFFF && l.nextPoll ≤ now s && now s ≤ l.since + secTicks 60) (fun s =>
      withDesc (bellDesc l s) lfPollUnit
        { s with
          flk := { s.flk with learn := some { l with nextPoll := l.nextPoll + secTicks 2 } }
          hif := { s.hif with dispNo := s.hif.dispNo + 1 } }) s

/-- BELLWETHER_POLL (R272). -/
def execBellwetherPoll (t : Nat) (s : State) : Host.Outcome State Fault Refusal := command t bellPoll s

/-- BELLWETHER_TIMEOUT (R272). -/
def execBellwetherTimeout (t : Nat) (s : State) : Host.Outcome State Fault Refusal :=
  command t (fun s =>
    match s.flk.learn with
    | none => s
    | some l => onlyIf (l.since + secTicks 60 ≤ now s) (learnFails l.d stNoResponse 0 0xFF) s) s

/-! ## FLOCK_STATUS -/

/-- The 14 slot result bytes (Table 12.6). -/
def flockSlotResult (i : Nat) (s : State) : Bytes :=
  let head (x : Option Token) : Nat :=
    b2n x.isSome + 2 * b2n (x.isSome && fld FLK_DRIVER.DOR s == i) + 4 * b2n (match x with | some k => k.co | none => false)
  match tokenOf i s with
  | some k =>
    [byteOf (head (some k)), byteOf k.role, byteOf (fld FLK_FLOCK.EPOCH s), 0] ++ leBytes 4 k.id ++ leBytes 2 k.last
      ++ leBytes 4 k.seen
  | none => [0, 0xFF, byteOf (fld FLK_FLOCK.EPOCH s), 0] ++ List.replicate 10 0

/-- FLOCK_STATUS SLOT (R278). -/
def statusSlot (d : Desc) (s : State) : State :=
  if p8 d 1 ≠ 0 then fail d stBadLen 33 s
  else reserved 2 d (fun s =>
    let recs := (List.range (d.len / 16)).map (fun i => flockSlotResult (d.target + i) s ++ [0, 0])
    writeDst d recs.flatten (complete d stOk (flockSlotResult d.target s) 0) s) s

/-- MODE 1 and 2: TARGET is 0 and FOLD is defined (R278). -/
def pinForm (d : Desc) (k : State → State) (s : State) : State :=
  if d.target ≠ 0 then fail d stBadHandle 4 s
  else if s.fold.live.defined (p8 d 1) = false then fail d stBadFold 33 s
  else k s

/-- FLOCK_STATUS PIN (R278). -/
def statusPin (d : Desc) (s : State) : State :=
  match parNonzero 2 24 d with
  | some det => fail d stBadLen det s
  | none => pinForm d (fun s => complete d stOk (pinResult (p8 d 1) s) 0 s) s

/-- FLOCK_STATUS SHORTEN (R285). -/
def statusShorten (d : Desc) (s : State) : State :=
  if p32 d 2 > 2880 then fail d stBadLen 34 s
  else if p8 d 6 > 1 then fail d stBadLen 38 s
  else match parNonzero 7 24 d with
  | some det => fail d stBadLen det s
  | none => pinForm d (fun s =>
      let s1 := shorten (p8 d 1) (p32 d 2) (bit 0 (p8 d 6)) s
      complete d stOk (pinResult (p8 d 1) s1) 0 s1) s

/-- FLOCK_STATUS MODE 0 (R278). -/
def execFlockStatusSlot (t : Nat) (d : Desc) (s : State) : Host.Outcome State Fault Refusal :=
  descCommand t (asMode 0x39 0 d) statusSlot s
/-- FLOCK_STATUS MODE 1 (R278). -/
def execFlockStatusPin (t : Nat) (d : Desc) (s : State) : Host.Outcome State Fault Refusal :=
  descCommand t (asMode 0x39 1 d) statusPin s
/-- FLOCK_STATUS MODE 2 (R285). -/
def execFlockStatusShorten (t : Nat) (d : Desc) (s : State) : Host.Outcome State Fault Refusal :=
  descCommand t (asMode 0x39 2 d) statusShorten s

end Sys2Proof.Machine
end

