-- ==== Sys2Proof/Machine/Obane.lean ====
section
/-! DEFINITION. Machine/Obane.lean: answers over UHF and through coils, and their checks (R189 to R199, R202, R203). -/
namespace Sys2Proof.Machine

/-! ## The answer frame (Table 08.3) -/

/-- VID -/
def obVid (b : Bytes) : Nat := beNat (slice 0 3 b)
/-- FSLOT -/
def obFslot (b : Bytes) : Nat := byteAt 3 b / 4
/-- RSEQ -/
def obRseq (b : Bytes) : Nat := byteAt 3 b % 4
/-- RSLOT -/
def obRslot (b : Bytes) : Nat := byteAt 4 b / 32
/-- FRAME -/
def obFrame (b : Bytes) : Nat := byteAt 4 b / 4 % 8
/-- EPOCH -/
def obEpoch (b : Bytes) : Nat := byteAt 5 b
/-- COUNTER -/
def obCounter (b : Bytes) : Nat := beNat (slice 6 2 b)
/-- MAG of code `k`: 6 bits each, code 0 first -/
def obMag (b : Bytes) : List Nat := (List.range 16).map (fun k => beNat (slice 8 12 b) / 2 ^ (90 - 6 * k) % 64)
/-- MAC -/
def obMac (b : Bytes) : Bytes := slice 20 8 b
/-- The frame's CRC is good (R189). -/
def obCrcOk (b : Bytes) : Bool := b.length == 30 && crc16 (b.take 28) == beNat (slice 28 2 b)

/-! ## What both links share -/

/-- Puts the poll back. -/
def setPoll (p : Poll) (s : State) : State := { s with poll := some p }

/-- Folds in own pinfold. -/
def pinnedFolds (s : State) : List Nat := (s.flk.track.filter (fun e => e.till.isSome)).map (·.fold)

/-- A fold contains the poll's TARGET or a listed leaf (R197). -/
def ofPoll (r : LfRun) (f : Nat) : Bool :=
  (match leafIndex r.req.node, foldIndex r.req.node with
   | some i, _ => (r.tree.leafFolds i).contains f
   | none, some g => (r.tree.up 8 g).contains f
   | none, none => false) || r.map.any (fun m => (r.tree.leafFolds m.ch).contains f)

/-- The poll stops when a fold of it has entered pinfold since the state `s0` (R197). -/
def noteStop (s0 s : State) : State :=
  match s.lf.run, s.poll with
  | some r, some p =>
    if (pinnedFolds s).any (fun f => !(pinnedFolds s0).contains f && ofPoll r f) then setPoll { p with pinStop := true } s
    else s
  | _, _ => s

/-- CONCURRENT_BAD once the poll holds a valid answer and one that failed check 3 (R198). -/
def noteConcurrent (s : State) : State :=
  match s.poll with
  | some p =>
    match p.answers.find? (·.verified), p.answers.find? (·.authFail) with
    | some v, some b => if p.concurrent then s else append 0x24 v.slot b.fslot (setPoll { p with concurrent := true } s)
    | _, _ => s
  | none => s

/-- Adds an answer to the poll. -/
def addAnswer (a : Answer) (s : State) : State :=
  match s.poll with
  | some p => noteConcurrent (setPoll { p with answers := p.answers ++ [a] } s)
  | none => s

/-- Why check 3 fails (Table 08.4, Table 16.2): 1 empty slot, 2 epoch, 3 MAC. -/
def keyReason (k : Option Token) (epochOk : Bool) (msg mac : Bytes) : Option Nat :=
  match k with
  | none => some 1
  | some x => if !epochOk then some 2 else if (cmac x.key msg).take 8 != mac then some 3 else none

/-- A failure of check 3: counted, recorded, and counted toward pinfold (R192, R279). -/
def authFailed (fslot reason node : Nat) (coil : Bool) (s : State) : State :=
  let f := attribution s.fold.live node
  let s1 := append 0x21 fslot (f + 256 * b2n coil + 512 * reason) (bump FLK_AUTH_CNT.AUTH_FAIL s)
  noteStop s (countFailure f s1)

/-- COUNTER is ahead of LAST (R194). -/
def counterAhead (c last : Nat) : Bool :=
  let d := (c + 65536 - last) % 65536
  1 ≤ d && d ≤ 32767

/-- An answer that passed check 4 sets LAST and the slot's time, and a Bellwether's may authorise a learn (R194, R272,
R278). -/
def acceptCounter (slot c : Nat) (s : State) : State :=
  match s.flk.flock with
  | some f =>
    let slots := f.slots.zipIdx.map (fun x =>
      if x.2 = slot then x.1.map (fun k => { k with last := c, seen := wallSecs s }) else x.1)
    let s1 := storeFlock { s with flk := { s.flk with flock := some { f with slots := slots } } }
    if ((tokenOf slot s).map (·.role)) = some 4 then bellAnswer slot s1 else s1
  | none => s

/-- A flock learned since the last trigger becomes active at this one (R275). -/
def takeFlock (s : State) : State :=
  match s.flk.pend with
  | some (f, d, bw) => activateFlock f d bw s
  | none => s

/-- Checks 3 to 5 of Table 08.4 for an answer whose frame gave `a`, and the answer's place in the poll (R192, R194,
R197). -/
def checkAnswer (a : Answer) (epoch : Nat) (msg mac : Bytes) (node : Nat) (coil : Bool) (s0 : State) : State :=
  let s := takeFlock s0
  match s.poll with
  | none => s
  | some p =>
    if p.pinStop then addAnswer { a with status := stPinfold } s
    else
      let k := tokenOf a.fslot s
      let b := { a with slot := if k.isSome then a.fslot else 0xFF }
      match keyReason k (epoch == fld FLK_FLOCK.EPOCH s) msg mac with
      | some why =>
        addAnswer { b with status := stMacFail, authFail := true } (authFailed a.fslot why node coil s)
      | none =>
        let x := k.getD { role := 0, id := 0, key := [], last := 0, seen := 0, co := false }
        if counterAhead a.counter x.last = false then
          addAnswer { b with status := stRollback }
            (append 0x22 a.fslot a.counter (bump FLK_AUTH_CNT.REPLAY s))
        else
          let v := { b with verified := true, role := x.role, tag := (s.flk.flock.map Flock.tag).getD 0, status := stOk }
          if p.answers.any (fun y => y.verified && y.slot == a.fslot) then
            addAnswer { v with judged := true } (acceptCounter a.fslot a.counter s)
          else
            acceptCounter a.fslot a.counter (addAnswer { v with trig := some (now s) } s)

/-! ## UHF answers -/

/-- An answer before its checks. -/
def rawAnswer (fslot source reslot counter frame : Nat) (mag : List Nat) (rssi challenge b4 : Nat) (s : State) : Answer :=
  { tb := now s, fslot := fslot, slot := fslot, source := source, status := stOk, reslot := reslot, zone := 0xFFFF,
    counter := counter, frame := frame, mag := mag, range := 0xFFFFFFFF, rssi := rssi, verified := false,
    authFail := false, judged := false, challenge := challenge, b4 := b4, trig := none, ranging := false, out := none,
    score := 0, seat := false, role := 0, tag := 0, co := false }

/-- The window receives (R217, R218). -/
def receiving (p : Poll) (s : State) : Bool := !p.paused && !p.denied && p.rxFrom ≤ now s

/-- The window's time slot at this instant, and the ticks since its start. -/
def slotNow (p : Poll) (s : State) : Option (Nat × Nat) :=
  match p.window with
  | some w => if w ≤ now s ∧ now s < w + p.s * slotTicks then some ((now s - w) / slotTicks, (now s - w) % slotTicks) else none
  | none => none

/-- The receiver is on channel `ch` (R208): channel 1 only within the span. -/
def onChannel (ch : Nat) (s : State) : Bool := ch == 0 || (ch == 1 && spanOk s)

/-- SYNC_DETECTED (R190, R195): outside its window it counts as a position violation, and the second of a slot-channel makes
it collided. -/
def syncSeen (ch : Nat) (s : State) : State :=
  match s.poll with
  | none => s
  | some p =>
    match slotNow p s with
    | none => s
    | some (slot, off) =>
      onlyIf (receiving p s && onChannel ch s) (fun s =>
        let sc := (slot, ch)
        let inside := 30720 ≤ off && off ≤ 44544
        let s1 := if inside then s else bump UHF_OBN_CNT1.OBN_POS s
        if p.synced.contains sc then
          if p.collided.contains sc then s1
          else bump UHF_OBN_CNT0.OBN_COLL (setPoll { p with collided := p.collided ++ [sc] } s1)
        else if inside then setPoll { p with synced := p.synced ++ [sc] } s1
        else s1) s

/-- SYNC_DETECTED (R190). -/
def execSyncDetected (t ch : Nat) (s : State) : Host.Outcome State Fault Refusal := command t (syncSeen ch) s

/-- A frame that failed its CRC (R192, R195): it counts as its slot-channel stands when it ends (DEDUCED, log entry 115). -/
def badCrc (p : Poll) (sc : Nat × Nat) (spread : Nat) (s : State) : State :=
  if p.collided.contains sc then s
  else if spread > 6 then bump UHF_OBN_CNT0.OBN_COLL (setPoll { p with collided := p.collided ++ [sc] } s)
  else bump UHF_OBN_CNT0.OBN_CRC s

/-- A frame passed its CRC: in Watch the device is in Run for the rest of the poll (R92). -/
def heardFrame (p : Poll) (s : State) : State :=
  let s1 := setPoll { p with heard := true } s
  if s.pwr.st == .watch then
    radiosOn (setPState .run { s1 with pwr := { s1.pwr with islands := allIslands s1 } })
  else s1

/-- A frame dropped at check 2 (R192): at most one TOKEN_VIOL per 10 s, with the number of them. -/
def positionViol (s : State) : State :=
  let s1 := bump UHF_OBN_CNT1.OBN_POS s
  let n := s.lf.viols + 1
  let due : Bool := match s.lf.violRec with | some t => decide (t + secTicks 10 ≤ now s) | none => true
  if due then append 0x23 0 (sat 24 n) { s1 with lf := { s1.lf with violRec := some (now s), viols := 0 } }
  else { s1 with lf := { s1.lf with viols := n } }

/-- Check 2 of Table 08.4. -/
def positionOk (r : LfRun) (p : Poll) (sc : Nat × Nat) (b : Bytes) : Bool :=
  obRslot b / 2 % p.s == sc.1 && obRslot b % 2 == sc.2 && obRseq b == p.rseq && decide (obFrame b < r.f)

/-- A frame with a good CRC goes through the checks of Table 08.4 (R192). -/
def goodFrame (r : LfRun) (p : Poll) (sc : Nat × Nat) (f : ObaneFrame) (s : State) : State :=
  let b := f.bytes
  let s1 := heardFrame p s
  if obVid b ≠ fld FLK_VID.VID s1 then bump UHF_OBN_CNT1.OBN_VID s1
  else
    let s2 := setPoll { p with heard := true, vidSeen := true } s1
    if positionOk r p sc b = false then positionViol s2
    else
      let a := rawAnswer (obFslot b) (obRslot b) p.rseq (obCounter b) (obFrame b) (obMag b) (encSigned 8 f.rssi)
        p.challenge (byteAt 4 b) s2
      checkAnswer a (obEpoch b) ([1] ++ beBytes 8 p.challenge ++ b.take 20)
        (obMac b) r.req.node false s2

/-- OBANE_ANSWER_FRAME (R189, R192, R195): the end of a frame whose SYNC was accepted. -/
def answerFrame (f : ObaneFrame) (s : State) : State :=
  match s.lf.run, s.poll with
  | some r, some p =>
    match slotNow p s with
    | none => s
    | some (slot, off) =>
      let sc := (slot, f.ch)
      onlyIf (receiving p s && p.synced.contains sc && !p.ended.contains sc && 270720 ≤ off && off ≤ 284544) (fun s =>
        let p1 := { p with ended := p.ended ++ [sc] }
        let s1 := setPoll p1 s
        if obCrcOk f.bytes then goodFrame r p1 sc f s1 else badCrc p1 sc f.spread s1) s
  | _, _ => s

/-- OBANE_ANSWER_FRAME (R189). -/
def execObaneAnswerFrame (t : Nat) (f : ObaneFrame) (s : State) : Host.Outcome State Fault Refusal :=
  command t (answerFrame f) s

/-! ## Coils -/

/-- Ticks of `n` carrier periods of a coil, rounded up (R203). -/
def coilTicks (n : Nat) (s : State) : Nat := ceilDiv (n * 38400000) (fld LFE_COIL_CTL.F_HZ s)

/-- The downlink frame of an attempt (Table 08.6), with VID and EPOCH as they were when it started (R202). -/
def coilDown (c : CoilRun) : Bytes :=
  let h := [0x5A] ++ beBytes 3 c.head.1 ++ [byteOf c.head.2] ++ beBytes 8 c.challenge
  h ++ beBytes 2 (crc16 h)

/-- Carrier periods of a downlink: 24 for a 0 and 40 for a 1 (Table 06.6). -/
def downPeriods (b : Bytes) : Nat := (b.map (fun x => 8 * 24 + 16 * (List.range 8).countP (fun i => x.getLsbD i))).sum

/-- TIMEBASE at the end of step 3 of an attempt (Table 08.7). -/
def coilStep3 (c : CoilRun) (s : State) : Nat := c.since + coilTicks (downPeriods (coilDown c) + 64) s

/-- Replaces a coil of the poll. -/
def setCoil (c : CoilRun) (s : State) : State :=
  match s.poll with
  | some p => setPoll { p with coils := p.coils.map (fun x => if x.coil = c.coil then c else x) } s
  | none => s

/-- Starts an attempt of a coil whose downlink begins at `at0`, with a fresh challenge; a draw that fails ends it. -/
def tryCoil (c : CoilRun) (at0 : Nat) (s : State) : State :=
  match drawFails s with
  | some _ => setCoil { c with active := false, done := true } s
  | none =>
    let dr := drawBytes 8 s
    setCoil { c with tries := c.tries + 1, challenge := beNat dr.1, head := coilHead s, active := true, since := at0 } dr.2

/-- The coil of a poll whose exchange may begin or goes on. -/
def coilOf (n : Nat) (s : State) : Option (LfRun × Poll × CoilRun) :=
  match s.lf.run, s.poll with
  | some r, some p =>
    match p.coils.find? (fun c => c.coil = n) with
    | some c => if r.phase == .respond && r.req.kind == .poll then some (r, p, c) else none
    | none => none
  | _, _ => none

/-- COIL_EXCHANGE_START (R155, R156, R203): the current check, then the first attempt after 5.0 ms of carrier. -/
def coilStart (n pct : Nat) (limit : Bool) (s : State) : State :=
  match coilOf n s with
  | some (_, p, c) =>
    onlyIf (!c.active && !c.done && c.tries == 0) (fun s =>
      let k := coilCheck pct limit
      let s1 := noteCoil n k s
      if k ≠ 1 then settlePoll (setCoil { c with done := true } s1)
      else settlePoll (tryCoil { c with from_ := some (now s) } (now s + coilTicks 625 s) (setPoll { p with coilRan := true } s1))) s
  | none => s

/-- COIL_EXCHANGE_START (R155). -/
def execCoilExchangeStart (t n pct : Nat) (limit : Bool) (s : State) : Host.Outcome State Fault Refusal :=
  command t (coilStart n pct limit) s

/-- An attempt without a good answer: one more, 1.0 ms later, with a new challenge (R203). -/
def coilRetry (c : CoilRun) (s : State) : State :=
  let s1 := bump FLK_COIL_CNT.COIL_CRC s
  settlePoll (if c.tries < 2 then tryCoil c (now s + coilTicks 125 s) s1
    else setCoil { c with active := false, done := true } s1)

/-- COIL_UPLINK_FRAME (R202, R203): the end of an uplink of 15 bytes. -/
def coilFrame (n : Nat) (b : Bytes) (s : State) : State :=
  match coilOf n s with
  | some (_, p, c) =>
    let e := coilStep3 c s
    onlyIf (c.active && e + coilTicks 3965 s ≤ now s && now s ≤ e + coilTicks 4365 s) (fun s =>
      if b.length ≠ 15 ∨ byteAt 0 b ≠ 0x7E ∨ crc16 (slice 1 12 b) ≠ beNat (slice 13 2 b) then coilRetry c s
      else
        let fb := freeBytes 1 s
        let s1 := setCoil { c with active := false, done := true } (tookFree 1 s)
        let s2 := match s1.poll with | some q => heardFrame { q with vidSeen := true } s1 | none => s1
        let a := rawAnswer (byteAt 1 b / 4) (0x80 + n) p.rseq (beNat (slice 3 2 b)) 0 (List.replicate 16 0) (byteAt 0 fb)
          c.challenge 0 s2
        let msg := [2] ++ beBytes 8 c.challenge ++ beBytes 3 c.head.1 ++ [byteOf n] ++ slice 1 4 b
        settlePoll (checkAnswer a (byteAt 2 b) msg (slice 5 8 b) (0x80 + n) true s2)) s
  | none => s

/-- COIL_UPLINK_FRAME (R203). -/
def execCoilUplinkFrame (t n : Nat) (b : Bytes) (s : State) : Host.Outcome State Fault Refusal :=
  command t (coilFrame n b) s

/-- COIL_ATTEMPT_TIMEOUT (R203): no START by 4.2 ms after step 3. -/
def coilTimeout (n : Nat) (s : State) : State :=
  match coilOf n s with
  | some (_, _, c) => onlyIf (c.active && coilStep3 c s + coilTicks 525 s ≤ now s) (coilRetry c) s
  | none => s

/-- COIL_ATTEMPT_TIMEOUT (R203). -/
def execCoilAttemptTimeout (t n : Nat) (s : State) : Host.Outcome State Fault Refusal := command t (coilTimeout n) s

end Sys2Proof.Machine
end

