-- ==== Sys2Proof/Machine/Verdict.lean ====
section
/-! DEFINITION. Machine/Verdict.lean: passes of the verdict engine over a poll's answers, their actions, and the
ranging requests (R200, R201, R246 to R248, R253 to R260, R265). -/
namespace Sys2Proof.Machine

/-! ## Triggers -/

/-- An answer's trigger comes before another's: earlier, or a range arrival in the same cycle (R248). -/
def trigBefore (a b : Answer) : Bool :=
  match a.trig, b.trig with
  | some x, some y => decide (x < y) || (x == y && a.out.isSome && b.out.isNone)
  | some _, none => true
  | none, _ => false

/-- The trigger to take: the first in order of arrival (R248). -/
def nextTrigger (l : List Answer) : Option Nat :=
  (List.range l.length).foldl (fun best i =>
    match l[i]? with
    | none => best
    | some a =>
      if a.trig.isNone then best
      else match best with
        | none => some i
        | some j => (match l[j]? with | some b => if trigBefore a b then some i else best | none => some i)) none

/-- Replaces answer `i` of the poll. -/
def setAnswer (i : Nat) (a : Answer) (s : State) : State :=
  match s.poll with
  | some p => setPoll { p with answers := p.answers.set i a } s
  | none => s

/-! ## A pass -/

/-- Coil of an answer's SOURCE. -/
def Answer.coilNo (a : Answer) : Option Nat := if a.source ≥ 0x80 then some (a.source - 0x80) else none

/-- Node of the poll's ranging port, 0xFFFF for none. -/
def portNode (p : Poll) : Nat := match p.port with | some x => 0x90 + x | none => 0xFFFF

/-- What a pass knows of its answer. -/
def passIn (r : LfRun) (p : Poll) (a : Answer) (s : State) : PassIn :=
  { coil := a.coilNo, frame := a.frame, role := a.role, ff := r.ff, started := s.flk.perm.isSome, target := r.req.node,
    port := portNode p, mag := a.mag, leaves := pollLeaves r }

/-- Cycles of a pass (R265): D is a free number of dummy rounds up to MAC_DUMMY. -/
def passCycles (d n : Nat) (many : Bool) (s : State) : Nat :=
  let g := max 1 ((s.vrd.rules.map (fun x => x.gates.countP (·.valid))).getD 0)
  26 + max (11 + d) (4 + ceilDiv (max 1 n) 16) + ceilDiv g 16 + 2 * b2n many

/-- The number of dummy rounds drawn (R265). -/
def dummyRounds (s : State) : Nat := byteAt 0 (freeBytes 1 s) % (fld VRD_CTL.MAC_DUMMY s + 1)

/-- The answer is stale: its flock has been replaced since its CRC pass, while it was being ranged (R247); a verdict pass
whose trigger is the CRC pass itself has taken the flock of that trigger. -/
def staleAnswer (a : Answer) (s : State) : Bool := a.out.isSome && (s.flk.flock.map Flock.tag) != some a.tag

/-- An exchange of a poll that waits for its start (R201, R231). -/
def pollExch (i : Nat) (ds : Bool) (port : Nat) (chainB : Bool) (chan : Nat) (key : Bytes) (v cls tb : Nat) : Exch :=
  { answer := some i, ds := ds, allSp1 := false, port := port, chainB := chainB, chan := chan, xseq := 0, key := key,
    v := v, cls := cls, due := tb + usTicks 350, limit := some (tb + usTicks 2600), req := tb, phase := .waiting,
    start := 0, flags := 0, ra := 0, stsq := 0, rssi := 0, pdoa := noAngle, aoa := noAngle, cfo := 0,
    status := stNoResponse, range := 0xFFFFFFFF }

/-- Notes in VRD_LAST.WAIT_MAX how long a trigger waited, in cycles of 400 MHz (R248). -/
def noteWait (trig : Nat) (s : State) : State :=
  setFld VRD_LAST.WAIT_MAX (max (fld VRD_LAST.WAIT_MAX s) (min ((now s - trig) * 125 / 12) 255)) s

/-- Requests ranging for answer `i` (R200, R201, R231, R246). -/
def requestRange (i : Nat) (p : Poll) (a : Answer) (cand : List (Nat × Gate)) (ff : Bool) (s : State) : State :=
  let ds := cand.any (fun g => g.2.needsDs ff)
  let immo := cand.any (fun g => let k := (actOf s.vrd.rules g.2).kind; k == 2 || k == 3)
  let tok := ((tokenOf a.slot s).map Token.key).getD []
  let ctx := beBytes 8 a.challenge ++ beBytes 2 a.counter ++ [byteOf a.b4]
  let port := p.port.getD 0
  let x := pollExch i ds port (flag (UWB_PORTn_CFG.PDOA_EN port) s && p.chainB) (uwbChan s) (sessionKey tok obaneLabel ctx 1)
    (beNat (sessionKey tok obaneLabel ctx 2)) (if immo then 1 else 2) a.tb
  setAnswer i { a with trig := none, ranging := true } { s with uwb := { s.uwb with exch := s.uwb.exch ++ [x] } }

/-! ## Actions -/

/-- One GPIO pulse: skipped and counted on a pin that is not a verdict output (R258). -/
def pulsePin (s : State) (x : Nat × Nat × Bool) : State :=
  if pinFunc x.1 s = 4 then startPulse x.1 x.2.1 x.2.2 s else bump VRD_CNT2.ACT_SKIP s

/-- The actions of the acting gates, merged (R257, R258). -/
def issueActions (r : Option RuleSet) (slot : Nat) (gs : List (Nat × Gate)) (s : State) : State :=
  let s1 := (pulsesOf r gs).foldl pulsePin s
  let s2 := if hasLock r gs then endPermission 1 0 s1
    else match grantGate r gs with
      | some g => grantStart slot g s1
      | none => s1
  (selectorsOf r gs).foldl (fun s k => queueSelect k s) s2

/-- Some acting gate has an action of kind `k`. -/
def hasKind (k : Nat) (r : Option RuleSet) (gs : List (Nat × Gate)) : Bool := gs.any (fun p => (actOf r p.2).kind == k)

/-- WAKE_N is asserted while the link is down (R94). -/
def assertWake (s : State) : State := if linkDown s then { s with pins := { s.pins with wakeN := true } } else s

/-- DATA of a VERDICT record (Table 16.2). -/
def verdictData (r : Option RuleSet) (gs : List (Nat × Gate)) (zone : Nat) (coil rng co : Bool) : Nat :=
  zone % 256 + 256 * ((gs.head?.map (·.1)).getD 0xFF) + 65536 * b2n coil + 131072 * b2n rng + 262144 * b2n co
    + 524288 * b2n (hasKind 2 r gs) + 1048576 * b2n (hasKind 1 r gs) + 2097152 * b2n (hasKind 3 r gs)
    + 4194304 * b2n (zone == 0xFFFF)

/-- An answer of the poll other than `i` has been classified into a seat as DRIVER or CREW (R259). -/
def otherSeat (p : Poll) (i : Nat) : Bool :=
  p.answers.zipIdx.any (fun x => x.2 != i && x.1.judged && x.1.seat && x.1.role < 2)

/-- Sets CO_PRESENT in the seat answers of the poll (R259). -/
def markCo (p : Poll) : Poll :=
  { p with answers := p.answers.map (fun a => if a.judged && a.seat && a.role < 2 then { a with co := true } else a) }

/-- Notes a verdict pass in VRD_LAST: its cycles, its status, and how long its trigger waited (R248, R265). -/
def noteLastPass (cycles trig st : Nat) (s : State) : State :=
  setFld VRD_LAST.CYCLES (min cycles 255) (setFld VRD_LAST.MAX_CYCLES (max (fld VRD_LAST.MAX_CYCLES s) (min cycles 255))
    (noteWait trig (setFld VRD_LAST.STATUS st s)))

/-- Counts a verdict (Table 11.11). -/
def countVerdict (v : Verdict) (stale ambig : Bool) (s : State) : State :=
  let s1 := bump VRD_CNT0.VERDICTS s
  let s2 := if v.acting.isEmpty then s1 else bump VRD_CNT0.ACTED s1
  let s3 := if v.st = stRelay then bump VRD_CNT1.RELAY s2 else s2
  let s4 := if v.st = stOk ∧ v.acting.isEmpty = true then bump VRD_CNT1.NOMATCH s3 else s3
  let s5 := if v.norange then bump VRD_CNT2.NORANGE s4 else s4
  let s6 := if stale then bump VRD_CNT2.STALE s5 else s5
  if ambig then bump VRD_CNT2.AMBIG s6 else s6

/-- Ledger records of a verdict (R253, R254, R259). -/
def recordVerdict (r : Option RuleSet) (v : Verdict) (a : Answer) (s : State) : State :=
  let s1 := if v.acting.isEmpty then s
    else append 0x20 a.slot (verdictData r v.acting a.zone a.coilNo.isSome (a.range != 0xFFFFFFFF) a.co) s
  let s2 := if v.st = stRelay then append 0x25 a.slot (a.zone % 256 + 256 * sat 16 (a.range / 10)) s1 else s1
  if v.dropped.any (fun g => let k := (actOf r g.2).kind; k == 2 || k == 3) then
    append 0x26 a.slot (a.zone % 256 + 256 * v.st) s2
  else s2

/-- The VERDICT event (R260, Table 11.4). -/
def verdictEvent (v : Verdict) (a : Answer) (ambig stale ff : Bool) (target cycles trig : Nat) (s : State) : State :=
  let post := fld VRD_CTL.EVT s = 2 ∨ (fld VRD_CTL.EVT s = 1 ∧ (v.acting.isEmpty = false ∨ v.st = stRelay))
  let fl := b2n (!v.acting.isEmpty) + 2 * b2n ambig + 4 * b2n ff + 8 * b2n a.co + 16 * b2n a.coilNo.isSome
    + 32 * b2n stale + 64 * b2n (v.acting.any (fun g => g.2.hostWake)) + 128 * b2n (a.range != 0xFFFFFFFF)
  if post then
    postDet 0x04 v.st (min cycles 255) trig
      ([byteOf a.slot, byteOf a.role] ++ leBytes 2 a.zone ++ [byteOf a.score, byteOf fl,
        byteOf ((v.acting.head?.map (·.1)).getD 0xFF), byteOf (min v.acting.length 255)] ++ leBytes 4 a.range
        ++ leBytes 2 target) s
  else s

/-- The decision of a verdict pass with the checks of R247 before it (R259). -/
def passVerdict (i : PassIn) (z : Zone) (cand : List (Nat × Gate)) (p : Poll) (a : Answer) (s : State) : Verdict :=
  if p.pinStop then ⟨stPinfold, [], [], false⟩
  else if staleAnswer a s then ⟨stMacFail, [], [], false⟩
  else decideVerdict i z cand
    (match a.out with | some (0, mm, ds) => .ranged mm ds | some (st, _, _) => .failed st | none => .none)

/-- The verdict pass of answer `k` (R246, R247, R257 to R260). -/
def verdictOf (k : Nat) (r : LfRun) (p : Poll) (a : Answer) (s : State) : State :=
  let rules := s.vrd.rules
  let i := passIn r p a s
  let z := classify s.vrd.map (fld VRD_CTL.MARGIN s) i.coil i.frame i.target i.mag
  let v := passVerdict i z (candidates rules i z s) p a s
  let stale := !p.pinStop && staleAnswer a s
  let trig := a.trig.getD (now s)
  let cycles := passCycles (dummyRounds s) z.n (v.acting.length ≥ 2) s
  let seat := match z.tm with | some (_, t) => t.seat | none => false
  let a1 := { a with status := v.st, zone := z.num, score := z.score, seat := seat, judged := true, trig := none
                     co := seat && a.role < 2 && otherSeat p k }
  let p1 := { p with answers := p.answers.set k a1 }
  let s1 := setPoll (if a1.co then markCo p1 else p1) (tookFree 1 s)
  let s2 := noteLastPass cycles trig v.st (countVerdict v stale z.ambig s1)
  let s3 := issueActions rules a.slot v.acting s2
  let s4 := verdictEvent v a1 z.ambig stale r.ff r.req.node cycles trig (recordVerdict rules v a1 s3)
  if v.acting.any (fun g => g.2.hostWake) then assertWake s4 else s4

/-- A flock that waits for a trigger takes effect at a range arrival (R275); a CRC pass has taken it at its checks. -/
def takeAtRange (q : Poll) (s : State) : State :=
  match (nextTrigger q.answers).bind (fun k => q.answers[k]?) with
  | some a => onlyIf a.out.isSome takeFlock s
  | none => s

/-- VERDICT_PASS (R246 to R248): the engine takes the first trigger; a preliminary pass requests ranging, a verdict
pass ends in the verdict. -/
def verdictPass (s0 : State) : State :=
  match s0.poll with
  | none => s0
  | some q =>
    onlyIf ((nextTrigger q.answers).isSome) (fun s0 =>
      let s := takeAtRange q s0
      match s.lf.run, s.poll with
      | some r, some p =>
        (match nextTrigger p.answers with
         | none => s
         | some k =>
           match p.answers[k]? with
           | none => s
           | some a =>
             let i := passIn r p a s
             let z := classify s.vrd.map (fld VRD_CTL.MARGIN s) i.coil i.frame i.target i.mag
             let cand := candidates s.vrd.rules i z s
             if a.out.isNone && !p.pinStop && cand.any (fun g => g.2.needs i.ff) && rangeable i z then
               requestRange k p a cand i.ff (noteWait (a.trig.getD (now s)) s)
             else settlePoll (verdictOf k r p a s))
      | _, _ => s) s0

/-- VERDICT_PASS (R246). -/
def execVerdictPass (t : Nat) (s : State) : Host.Outcome State Fault Refusal := command t verdictPass s

/-- RANGE_RESULT_ARRIVAL (R19, R240, R246): the outcome of the first ended exchange reaches the verdict engine. -/
def rangeArrives (s : State) : State :=
  match s.poll, s.uwb.exch.find? (fun e => e.phase == .done && e.due ≤ now s) with
  | some p, some x =>
    let k := x.answer.getD 0
    let s1 := { s with uwb := { s.uwb with exch := s.uwb.exch.filter (fun e => e.answer != x.answer) } }
    (match p.answers[k]? with
     | some a =>
       let st := if x.status = stCoexAbort then stCoexDenied else x.status
       endHold (setAnswer k { a with ranging := false, trig := some (now s), out := some (st, x.range, x.ds)
                                     range := if st = 0 then x.range else 0xFFFFFFFF } s1)
     | none => s1)
  | _, _ => s

/-- RANGE_RESULT_ARRIVAL (R246). -/
def execRangeResultArrival (t : Nat) (s : State) : Host.Outcome State Fault Refusal := command t rangeArrives s

end Sys2Proof.Machine
end

