-- ==== Sys2Proof/Machine/Clock.lean ====
section
/-! DEFINITION. Machine/Clock.lean: the wall clock and TIME_SET (R131 to R133), REFCLK marks and violations (R68 to
R74). -/
namespace Sys2Proof.Machine

/-! ## The wall clock -/

/-- Units of 1/9375 of 1/65,536 s in a second. -/
def wallUnit : Int := 614400000

/-- `x` over `d`, toward zero. -/
def quotZero (x : Int) (d : Nat) : Int := if x < 0 then -((-x).toNat / d : Nat) else (x.toNat / d : Nat)

/-- ERR_US of an error in units of 1/9375 of 1/65,536 s: toward zero, saturating at plus or minus 2^31 - 1 (Table
05.12). -/
def errUs (e : Int) : Nat :=
  let q := quotZero (e * 1000000) 614400000
  encSigned 32 (max (-2147483647) (min 2147483647 q))

/-- Largest error that SNAP_WIN allows, in the same units (R71). -/
def snapUnits (s : State) : Int := (fld CLK_GAP_CTL.SNAP_WIN s : Int) * 614400

/-- Stores the wall clock (R133). -/
def storeWall (s : State) : State := (recStore recWall (leBytes 8 s.clk.wall.toNat) s).1

/-- Sets the wall clock. -/
def setWall (w : BitVec 64) (rem slew : Nat) (s : State) : State :=
  { s with clk := { s.clk with wall := w, wallRem := rem, slew := slew } }

/-- The value lies further behind the wall clock than SNAP_WIN (R132). -/
def farBehind (v : BitVec 64) (s : State) : Bool :=
  decide (v < s.clk.wall) && decide ((s.clk.wall.toNat - v.toNat) * 9375 > (snapUnits s).toNat)

/-- A TIME_SET value is refused (R132): stepping back is allowed in Blank, Provisioned and Service. -/
def wallRefused (v : BitVec 64) (s : State) : Bool := farBehind v s && (lcState s == 2 || lcState s == 4)

/-- Applies a TIME_SET value (R132) with its record; the answer says whether it slews. -/
def applyWall (mode : Nat) (v : BitVec 64) (s : State) : State × Bool :=
  let d : Int := (v.toNat : Int) - s.clk.wall.toNat
  let slews := decide (d < 0) && !farBehind v s
  let s1 := if slews then setWall s.clk.wall s.clk.wallRem ((-d).toNat * 9375 + s.clk.wallRem) s else setWall v 0 0 s
  let q := quotZero d 65536
  let step := encSigned 24 (max (-0x7FFFFF) (min 0x7FFFFF q))
  (storeWall (append 0x14 mode step (setFld CLK_STATUS.WALL_STALE 0 s1)), slews)

/-- Result bytes of TIME_SET (R132). -/
def timeResult (outcome : Nat) (err : Bytes) (wall : Nat) : Bytes := [byteOf outcome, 0] ++ fit 4 err ++ leBytes 8 wall

/-- Drops a pending TIME_SET. -/
def dropPending (s : State) : State := setFld CLK_STATUS.EPOCH_PEND 0 { s with clk := { s.clk with timeSet := none } }

/-- TIME_SET (R131, R132). Where nothing is applied ERR_US is a free value. -/
def timeUnit (d : Desc) (s : State) : State :=
  reserved 9 d (fun s =>
    let v := BitVec.ofNat 64 (p64 d 0)
    let w := s.clk.wall.toNat
    match p8 d 8 with
    | 0 =>
      if wallRefused v s then fail d stForbidden 0 s
      else
        let e := errUs (((v.toNat : Int) - w) * 9375)
        let r := applyWall 0 v (dropPending s)
        complete d stOk (timeResult (b2n r.2) (leBytes 4 e) w) 0 r.1
    | 1 =>
      complete d stOk (timeResult 2 (freeBytes 4 s) w) 0 (setFld CLK_STATUS.EPOCH_PEND 1
        (tookFree 4 { s with clk := { s.clk with timeSet := some v } }))
    | 2 =>
      complete d stOk (timeResult (if s.clk.timeSet.isSome then 3 else 4) (freeBytes 4 s) w) 0
        (dropPending (tookFree 4 s))
    | _ => fail d stBadLen 40 s) s

/-- The descriptor as TIME_SET with MODE `m` reads it (Table 05.13). -/
def asTimeSet (m : Nat) (d : Desc) : Desc := setPar 8 m (asOp 0x03 d)

/-- TIME_SET_NOW (R132, MODE 0). -/
def execTimeSetNow (t : Nat) (d : Desc) (s : State) : Host.Outcome State Fault Refusal :=
  descCommand t (asTimeSet 0 d) timeUnit s
/-- TIME_SET_AT_EPOCH (R132, MODE 1). -/
def execTimeSetAtEpoch (t : Nat) (d : Desc) (s : State) : Host.Outcome State Fault Refusal :=
  descCommand t (asTimeSet 1 d) timeUnit s
/-- TIME_SET_CANCEL (R132, MODE 2). -/
def execTimeSetCancel (t : Nat) (d : Desc) (s : State) : Host.Outcome State Fault Refusal :=
  descCommand t (asTimeSet 2 d) timeUnit s

/-- 600 s of TIMEBASE have passed since the last periodic store of the wall clock, which runs (R133). -/
def storeDue (s : State) : Bool := s.clk.wallRun && tbRuns s && decide (s.clk.wallAt + secTicks 600 ≤ now s)

/-- WALL_CLOCK_STORE (R133): once per 600 s of TIMEBASE, while the wall clock runs. -/
def execWallClockStore (t : Nat) (s : State) : Host.Outcome State Fault Refusal :=
  command t (fun s => onlyIf (storeDue s) (fun s => storeWall { s with clk := { s.clk with wallAt := now s } }) s) s

/-! ## Gaps -/

/-- What a gap means (Table 03.3). -/
inductive GapClass
  | second | epoch | attention | viol1 | viol2 | viol46 | other
  deriving DecidableEq, Repr

/-- n = round(I/P) - 1: the missing cycles of a gap (R68). -/
def gapCycles (g : Gap) : Nat := (2 * g.interval + g.period) / (2 * g.period) - 1

/-- |I/P - (n + 1)| > 0.25 (R68). -/
def gapMalformed (g : Gap) : Bool :=
  let m := (gapCycles g + 1) * g.period
  decide (4 * (max g.interval m - min g.interval m) > g.period)

/-- The gap ends fewer than 32 rising edges after the end of the previous one (R70): the edges that arrive between the
two are the periods that pass less the missing cycles. -/
def tooClose (g : Gap) (s : State) : Bool :=
  match s.clk.gapAt with
  | some e => nowEighths s < e + refEighths (32 + gapCycles g) s
  | none => false

/-- Class of a gap of 1 to 16 cycles (R68, R70). -/
def gapClass (g : Gap) (s : State) : Option GapClass :=
  if gapCycles g = 0 ∨ gapCycles g > 16 then none
  else if gapMalformed g || tooClose g s then some .other
  else match gapCycles g with
    | 1 => some .viol1 | 2 => some .viol2 | 3 => some .second | 4 => some .viol46 | 5 => some .epoch
    | 6 => some .viol46 | 7 => some .attention | _ => some .other

/-- Gaps are decoded: content is qualified, and the device is not in Fallow (R70). -/
def decodes (s : State) : Bool := tbRuns s

/-- Every gap is captured by channel 31 (R69, R398). -/
def noteGap (g : Gap) (s : State) : State :=
  captureAt 31 g.fall (now s) true { s with clk := { s.clk with gapAt := some (nowEighths s) } }

/-- A valid mark: its counter, LAST_MARK and CLK_LAST_MARK (R70, Table 03.13). -/
def noteMark (k : Nat) (cnt : Field) (s : State) : State :=
  setReg64 CLK_LAST_MARK_LO.reg (now s) (setFld CLK_STATUS.LAST_MARK k (bump cnt s))

/-- Error e of R71 in units of 1/9375 of 1/65,536 s: positive when the device is behind the nearest whole second. -/
def markError (s : State) : Int :=
  let x : Int := (s.clk.wall.toNat % 65536 : Nat) * 9375 + s.clk.wallRem
  if 2 * x ≥ wallUnit then wallUnit - x else -x

/-- The result of a mark on the wall clock: FAR, APPLIED, SLEW, STEP as event flags, and ERR_US. -/
structure MarkOut where
  /-- event FLAGS (Table 05.12) -/
  flags : Nat
  /-- ERR_US as 32 bits -/
  err : Nat
  /-- the discipline found the error too far, which posts the event in every case (R71) -/
  force : Bool

/-- The discipline of R71, when SEC_DISC = 1 and the wall clock runs. A correction at half rate still under way goes on
through a mark that finds no error, or one too far (DESIGN CHOICE, log entry 95). -/
def discipline (s : State) : State × MarkOut :=
  if flag CLK_GAP_CTL.SEC_DISC s && s.clk.wallRun then
    let e := markError s
    let near : Bool := decide (e ≤ snapUnits s) && decide (-e ≤ snapUnits s)
    if !near then (s, ⟨1, errUs e, true⟩)
    else
      let s0 := setFld CLK_STATUS.WALL_STALE 0 s
      if e > 0 then
        let w := BitVec.ofNat 64 ((s.clk.wall.toNat / 65536 + 1) * 65536)
        (storeWall (setWall w 0 0 s0), ⟨8, errUs e, false⟩)
      else if e < 0 then (storeWall (setWall s.clk.wall s.clk.wallRem (-e).toNat s0), ⟨4, errUs e, false⟩)
      else (s0, ⟨0, 0, false⟩)
  else (s, ⟨0, 0, false⟩)

/-- Posts CLK_MARK (R129). -/
def markEvent (kind : Nat) (o : MarkOut) (s : State) : State :=
  post 0x06 0 ([byteOf kind, byteOf o.flags] ++ leBytes 4 o.err ++ leBytes 8 s.clk.wall.toNat) s

/-- SECOND_MARK (R71). -/
def secondMark (g : Gap) (s : State) : State :=
  onlyIf (decodes s && gapClass g s == some .second) (fun s =>
    let r := discipline (noteMark 1 CLK_MARK_CNT.SECOND (noteGap g s))
    if flag CLK_GAP_CTL.SEC_EVT s || r.2.force then markEvent 1 r.2 r.1 else r.1) s

/-- SECOND_MARK (R71). -/
def execSecondMark (t : Nat) (g : Gap) (s : State) : Host.Outcome State Fault Refusal := command t (secondMark g) s

/-- A pending TIME_SET at an EPOCH mark, or the discipline (R72, R132). -/
def epochAct (s : State) : State × MarkOut :=
  match s.clk.timeSet with
  | none => discipline s
  | some v =>
    if wallRefused v s then
      let r := discipline (dropPending s)
      (r.1, ⟨Nat.lor r.2.flags 1, r.2.err, r.2.force⟩)
    else
      let e := errUs (((v.toNat : Int) - s.clk.wall.toNat) * 9375)
      let fwd := decide (s.clk.wall < v)
      let r := applyWall 1 v (dropPending s)
      (r.1, ⟨2 + 4 * b2n r.2 + 8 * b2n fwd, e, false⟩)

/-- EPOCH_MARK (R72): the event needs EPOCH_EVT, but for a mark whose discipline finds the error too far (R71). -/
def epochMark (g : Gap) (s : State) : State :=
  onlyIf (decodes s && gapClass g s == some .epoch) (fun s =>
    let r := epochAct (noteMark 2 CLK_MARK_CNT.EPOCH (noteGap g s))
    let s1 := append 0x13 0 (b2n (bit 1 r.2.flags) + 2 * b2n (bit 0 r.2.flags)) r.1
    if flag CLK_GAP_CTL.EPOCH_EVT s || r.2.force then markEvent 2 r.2 s1 else s1) s

/-- EPOCH_MARK (R72). -/
def execEpochMark (t : Nat) (g : Gap) (s : State) : Host.Outcome State Fault Refusal := command t (epochMark g) s

/-- ATTENTION_MARK (R73, R89): outside Run it exits to Run, or aborts an entry, and holds Run until the next POWER_HINT; in
Watch without fast content the exit is armed. -/
def attentionMark (g : Gap) (s : State) : State :=
  onlyIf (decodes s && gapClass g s == some .attention) (fun s =>
    let s1 := noteMark 3 CLK_MARK_CNT.ATTENTION (noteGap g s)
    if flag CLK_GAP_CTL.ATTN_EN s then
      let s2 := markEvent 3 ⟨0, 0, false⟩ s1
      if s.pwr.st == .run && s.pwr.entering.isNone then s2 else exitRun 0x09 (setFld PWR_STATUS.HOLD_RUN 1 s2)
    else s1) s

/-- ATTENTION_MARK (R73). -/
def execAttentionMark (t : Nat) (g : Gap) (s : State) : Host.Outcome State Fault Refusal := command t (attentionMark g) s

/-- Counter and CLASS of a violation (Table 03.3, Table 05.12). -/
def violField : GapClass → Option (Field × Nat)
  | .viol1 => some (CLK_VIOL_CNT.GAP1, 1)
  | .viol2 => some (CLK_VIOL_CNT.GAP2, 2)
  | .viol46 => some (CLK_VIOL_CNT.GAP4_6, 3)
  | .other => some (CLK_VIOL_CNT.OTHER, 4)
  | _ => none

/-- CLOCK_VIOL when 16 violations or more fall within one second, at most one record per second (R74). -/
def noteViol (s : State) : State :=
  let l := s.clk.viols.filter (fun v => now s < v + secTicks 1) ++ [now s]
  let s1 := { s with clk := { s.clk with viols := l } }
  let due : Bool := match s.clk.lastViolRec with | some x => decide (x + secTicks 1 ≤ now s) | none => true
  if l.length ≥ 16 && due then
    append 0x12 0 (sat 24 l.length) { s1 with clk := { s1.clk with lastViolRec := some (now s) } }
  else s1

/-- GAP_VIOLATION (R70, R74). -/
def gapViol (g : Gap) (s : State) : State :=
  match gapClass g s with
  | some c =>
    (match violField c with
     | some (f, k) =>
       onlyIf (decodes s) (fun s =>
         let s1 := noteViol (bump f (noteGap g s))
         if flag CLK_GAP_CTL.VIOL_EVT s then
           post 0x07 0 ([byteOf k, byteOf (if gapMalformed g then 0 else gapCycles g)] ++ leBytes 4 (chan 31 s1).width) s1
         else s1) s
     | none => s)
  | none => s

/-- GAP_VIOLATION (R70). -/
def execGapViolation (t : Nat) (g : Gap) (s : State) : Host.Outcome State Fault Refusal := command t (gapViol g) s

end Sys2Proof.Machine
end

