-- ==== Sys2Proof/Machine/Wake.lean ====
section
/-! DEFINITION. Machine/Wake.lean: exits to Run, WAKE pins, the autonomous schedule and held work (R78, R89 to R96,
R103). -/
namespace Sys2Proof.Machine

/-! ## Exits -/

/-- PWR_STATUS.WAKE_SRC code of a wake source (Table 04.10). -/
def wakeCode : WakeSrc → Nat
  | .pin n => n % 8 + 1
  | .attention => 0x09
  | .refclk => 0x0A
  | .perst => 0x0B
  | .pcie => 0x0C
  | .sched => 0x0D
  | .can => 0x0E

/-- A PCIe TLP or an L1 exit wakes the device from Graze and Pen (Table 04.6). -/
def tlpWake (s : State) : State :=
  if s.pwr.st == .graze || s.pwr.st == .pen || s.pwr.entering.isSome then exitRun 0x0C s else s

/-- PCIE_TLP_WAKE (R92): the link is in L0 or L1. -/
def execPcieTlpWake (t : Nat) (s : State) : Host.Outcome State Fault Refusal :=
  command t (fun s => onlyIf (linkUp s) tlpWake s) s

/-- WAKE_EXIT (R90): an exit to Run or the abort of an entry, by one of the sources of Table 04.6 for the state: an
armed ATTENTION, PERST_N deasserted in Watch, CAN_RX in Graze and Pen. A pin, the scheduler and a TLP have commands of
their own that exit; REFCLK wakes only from Fallow. -/
def wakeExit (w : WakeSrc) (s : State) : State :=
  let shallow := s.pwr.st == .graze || s.pwr.st == .pen || s.pwr.entering.isSome
  match w with
  | .attention => onlyIf (flag PWR_STATUS.HOLD_RUN s) (exitRun 0x09) s
  | .perst => onlyIf (!s.pins.perst && (s.pwr.st == .watch || s.pwr.entering.isSome)) (exitRun 0x0B) s
  | .can => onlyIf shallow (exitRun 0x0E) s
  | .pcie => onlyIf (linkUp s) tlpWake s
  | .pin n => onlyIf (shallow && bit n (fld PWR_WAKE_CTL.EN s) && n < 8) (exitRun (n % 8 + 1)) s
  | .sched => onlyIf (shallow && schedOn s) (exitRun 0x0D) s
  | .refclk => s

/-- WAKE_EXIT (R90). -/
def execWakeExit (t : Nat) (w : WakeSrc) (s : State) : Host.Outcome State Fault Refusal := command t (wakeExit w) s

/-! ## WAKE pins -/

/-- Fold bound to a pin (Table 04.10). -/
def boundFold (pin : Nat) (s : State) : Nat :=
  if pin < 4 then bits (8 * pin + 7) (8 * pin) (regGet PWR_WAKE_BIND0.reg s).toNat
  else bits (8 * (pin - 4) + 7) (8 * (pin - 4)) (regGet PWR_WAKE_BIND1.reg s).toNat

/-- An autonomous or WAKE poll of the fold is queued already (R22). -/
def autoQueued (f : Nat) (s : State) : Bool := s.lf.queue.any (fun r => r.desc.isNone && r.node == 0x100 + f)

/-- The poll that a held one merges into (R78): the node of the first poll that was held, while it is queued. -/
def heldInto (first : Option Nat) (s : State) : Option Nat :=
  first.bind (fun n => if s.lf.queue.any (fun r => r.desc.isNone && r.node == n) then some n else none)

/-- An autonomous poll of fold `f` queues, or merges into a queued one of the fold or into the first held one (R22, R78). -/
def askPoll (a : Asker) (f slots due : Nat) (first : Option Nat) (s : State) : State :=
  match heldInto first s with
  | some n => joinAuto a due n s
  | none => enqueueAuto a f slots due s

/-- What a WAKE pin event does (R93, R94, R103): WAKE_N, the bound poll, the event and the record. `st` is the power
state at its instant `tb`; a poll that was held comes with the node of the first held poll, if any. -/
def wakeAct (pin tb st : Nat) (held : Option (Option Nat)) (s : State) : State :=
  let f := boundFold pin s
  let asks := bit pin (fld PWR_WAKE_CTL.POLL s)
  let exists? := s.fold.live.defined f
  let wakes := flag PWR_WAKE_CTL.HOSTWAKE s && linkDown s
  let polls := asks && exists?
  let merges := (heldInto held.join s).isSome || autoQueued f s
  let flags := b2n polls + 2 * b2n (polls && merges) + 4 * b2n (polls && held.isSome) + 8 * b2n wakes
  let s1 := if wakes then assertWake s else s
  let s2 := if polls then askPoll (.wake pin) f 4 (now s1) held.join s1 else s1
  append 0x2C pin f (postAt 0x01 (if asks && !exists? then stBadFold else stOk) tb
    ([byteOf pin, byteOf flags] ++ leBytes 2 (0x100 + f) ++ [byteOf st]) s2)

/-- Work that needs fast content in Watch is held; the first held item may ask the host for it (R78). A WAKE pin's event
keeps its instant; its poll, like every other, merges into the first one that is held. -/
def hold (w : HeldWork) (s : State) : State :=
  let s1 := if s.pwr.held.isEmpty && flag CLK_WATCH_CTL.FAST_REQ_WAKEN s then assertWake s else s
  { s1 with pwr := { s1.pwr with held := s1.pwr.held ++ [w] } }

/-- Work that wakes the device or runs under per-poll powering in Watch (R92): held without fast content (R78). -/
def wakeWork (k : Nat) (w : HeldWork) (act : State → State) (s : State) : State :=
  let s1 := if s.pwr.st == .graze || s.pwr.st == .pen || s.pwr.entering.isSome then exitRun k s else s
  if s1.pwr.st == .watch && !fastContent s1 then hold w s1 else act s1

/-- The active level of a WAKE pin (PWR_WAKE_CTL.POL), which it holds at its event. -/
def seeActive (pin : Nat) (s : State) : State := seeWake pin (bit pin (fld PWR_WAKE_CTL.POL s)) s

/-- A pin can produce an event (R93): it has been active for `active` us of the delay-line reference, at least DEBOUNCE ms,
and after an event of its own it has been inactive before that for `inactive` us, at least DEBOUNCE ms too. -/
def wakeArmed (pin active inactive : Nat) (s : State) : Bool :=
  let wait := fld PWR_WAKE_CTL.DEBOUNCE s * 1000
  pin < 8 && bit pin (fld PWR_WAKE_CTL.EN s) && decide (wait ≤ active)
    && (!s.pwr.wakeSeen.getLsbD pin || decide (wait ≤ inactive))

/-- A pin has produced an event. -/
def noteWakeSeen (pin : Nat) (s : State) : State :=
  { s with pwr := { s.pwr with wakeSeen := s.pwr.wakeSeen ||| BitVec.ofNat 8 (2 ^ pin) } }

/-- WAKE_PIN_EVENT (R93): an enabled pin has held its active level for DEBOUNCE ms. Fallow is left by FALLOW_EXIT. -/
def execWakePinEvent (t : Nat) (e : PinEvent) (s : State) : Host.Outcome State Fault Refusal :=
  command t (fun s =>
    onlyIf (wakeArmed e.pin e.active e.inactive s && s.pwr.st != .fallow) (fun s =>
      wakeWork (e.pin + 1) (.wake e.pin (now s)) (wakeAct e.pin (now s) s.pwr.st.code none)
        (noteWakeSeen e.pin (seeActive e.pin s))) s) s

/-! ## Autonomous schedule -/

/-- Period of an entry in ticks (Table 04.10). -/
def schedPeriod (e : Nat) (s : State) : Nat := fld (PWR_SCHEDn.PERIOD e) s * 384000

/-- The poll of a schedule entry that fell due at `due` (R22, R95); an undefined fold drops it (R170). -/
def schedPoll (e due : Nat) (first : Option Nat) (s : State) : State :=
  let f := fld (PWR_SCHEDn.FOLD e) s
  if s.fold.live.defined f then askPoll (.sched e) f (fld (PWR_SCHEDn.SLOTS e) s + 1) due first s
  else addFld PWR_CNT.SCHED_MISS 1 s

/-- Sets the next due time of an entry. -/
def setDue (e : Nat) (d : Option Nat) (s : State) : State := { s with pwr := { s.pwr with due := s.pwr.due.set e d } }

/-- SCHEDULED_POLL_DUE (R95). -/
def schedDue (e : Nat) (s : State) : State :=
  match s.pwr.due.getD e none with
  | some d =>
    onlyIf (decide (d ≤ now s) && s.pwr.st != .fallow) (fun s =>
      wakeWork 0x0D (.sched e d) (schedPoll e d none) (setDue e (some (d + schedPeriod e s)) s)) s
  | none => s

/-- SCHEDULED_POLL_DUE (R95). -/
def execScheduledPollDue (t e : Nat) (s : State) : Host.Outcome State Fault Refusal := command t (schedDue e) s

/-- The fold whose poll held work asks for, where it exists. -/
def heldFold (w : HeldWork) (s : State) : Option Nat :=
  let f := match w with | .sched e _ => fld (PWR_SCHEDn.FOLD e) s | .wake p _ => boundFold p s
  let asks := match w with | .sched _ _ => true | .wake p _ => bit p (fld PWR_WAKE_CTL.POLL s)
  if asks && s.fold.live.defined f then some (0x100 + f) else none

/-- Held work goes on in order; its polls merge into the first of them (R78). -/
def runWork : List HeldWork → Option Nat → State → State
  | [], _, s => s
  | w :: ws, first, s =>
    let s1 := match w with
      | .sched e d => schedPoll e d first s
      | .wake p tb => wakeAct p tb 3 (some first) s
    runWork ws (if first.isSome then first else heldFold w s) s1

/-- Held work starts once fast content is in force (R78). -/
def runHeld (s : State) : State := runWork s.pwr.held none { s with pwr := { s.pwr with held := [] } }

/-- Starts the schedule: every enabled entry falls due first one period from now (R95). -/
def startSched (s : State) : State :=
  (List.range 16).foldl (fun s e =>
    if flag (PWR_SCHEDn.ENTRY_EN e) s then setDue e (some (now s + schedPeriod e s)) s else s) s

/-- Stops the schedule (R95). -/
def stopSched (s : State) : State := { s with pwr := { s.pwr with due := List.replicate 16 none } }

/-- A write to PWR_SCHEDn (R95, Table 04.10). -/
def writeSched (e : Nat) (v : Word) (s : State) : State :=
  let on := (PWR_SCHEDn.ENTRY_EN e).of v == 1
  if on && decide ((PWR_SCHEDn.PERIOD e).of v < 10) then setFld PWR_STATUS.ERR_RANGE 1 s
  else
    let was := flag (PWR_SCHEDn.ENTRY_EN e) s
    let s1 := regSet (PWR_SCHEDn.reg e) (v &&& 0x07FFFFFF) s
    if !on then setDue e none s1
    else if !was && flag PWR_SCHED_CTL.EN s1 then reselect (setDue e (some (now s1 + schedPeriod e s1)) s1)
    else s1

/-- Bytes of the stored schedule (R96). -/
def schedBytes (s : State) : Bytes :=
  leBytes 4 (fld PWR_SCHED_CTL.EN s) ++ ((List.range 16).map (fun e => leBytes 4 (regGet (PWR_SCHEDn.reg e) s).toNat)).flatten

/-- Stores the schedule (R96). -/
def commitSched (s : State) : State :=
  let r := recStore recSched (schedBytes s) s
  if r.2 then setFld PWR_SCHED_CTL.COMMIT_ERR 1 r.1 else setFld PWR_SCHED_CTL.VALID 1 r.1

/-- A write to PWR_SCHED_CTL (R95, R96). -/
def writeSchedCtl (v : Word) (s : State) : State :=
  let on := PWR_SCHED_CTL.EN.of v == 1
  let was := flag PWR_SCHED_CTL.EN s
  let s1 := wrW1c PWR_SCHED_CTL.COMMIT_ERR v (setFlag PWR_SCHED_CTL.EN on s)
  let s2 := if on && !was then reselect (startSched s1) else if on then s1 else stopSched s1
  if PWR_SCHED_CTL.COMMIT.of v == 1 then commitSched s2 else s2

/-- Loads the stored schedule (R96). -/
def loadSched (s : State) : State :=
  match recRead recSched s with
  | none => setFld PWR_SCHED_CTL.VALID 0 s
  | some b =>
    setFld PWR_SCHED_CTL.VALID 1 (setFld PWR_SCHED_CTL.EN (leAt 0 4 b % 2)
      ((List.range 16).foldl (fun s e => regSet (PWR_SCHEDn.reg e) (BitVec.ofNat 32 (leAt (4 + 4 * e) 4 b)) s) s))

/-! ## Entries -/

/-- TARGET (R84) lies deeper than the present state, the device has been idle for IDLE_US, and no entry is under way
(R85). -/
def mayEnter (s : State) : Bool :=
  (match s.pwr.idleSince with | some x => decide (x + usTicks (fld PWR_CTL.IDLE_US s) ≤ now s) | none => false)
    && s.pwr.entering.isNone && s.pwr.exitArmed.isNone && s.pwr.held.isEmpty
    && decide (s.pwr.st.code < (selState true s).code)

/-- Entry time of Table 04.4 in ticks. -/
def entryTicks : PState → Nat
  | .run => 0
  | .graze => 4
  | .pen => 384
  | .watch => 1536
  | .fallow => 4608

/-- The commit of an entry that starts now (R89): the switch to the direct edges of Fast 19.2 comes at a rising edge, which
falls on an even tick (R65). -/
def commitTick (p : PState) (s : State) : Nat :=
  let c := now s + entryTicks p
  if s.clk.content == .fast19 && (p == .pen || p == .watch) then c + c % 2 else c

/-- An entry starts; it commits at its last step (R89). -/
def enter (p : PState) (s : State) : State :=
  { s with pwr := { s.pwr with entering := some (p, commitTick p s) } }

/-- POWER_STATE_ENTRY (R85, R89): into Graze, Pen or Watch. -/
def execPowerStateEntry (t : Nat) (s : State) : Host.Outcome State Fault Refusal :=
  command t (fun s => onlyIf (mayEnter s && selState true s != .fallow) (fun s => enter (selState true s) s) s) s

end Sys2Proof.Machine
end

