-- ==== Sys2Proof/Machine/Queue.lean ====
section
/-! DEFINITION. Machine/Queue.lean: queue pairs, doorbells, dispatch, MSI-X and the set-up opcodes of the host interface
(R87, R88, R106 to R116, R121 to R124, R130, R134). -/
namespace Sys2Proof.Machine

/-! ## Set-up opcodes -/

/-- NOP/FENCE (R122). -/
def nopUnit (d : Desc) (s : State) : State := reserved 0 d (complete d stOk [] 0) s

/-- NOP_FENCE (R122). -/
def execNopFence (t : Nat) (d : Desc) (s : State) : Host.Outcome State Fault Refusal :=
  descCommand t (asOp 0x01 d) nopUnit s

/-- First parameter byte at fault of POWER_HINT (Table 04.3). -/
def hintParBad (d : Desc) : Option Nat :=
  if p8 d 4 > 31 then some 36 else if p8 d 5 ≠ 0 then some 37 else if p8 d 6 > 1 then some 38 else parNonzero 7 24 d

/-- Bytes of the stored hint (R83). -/
def hintBytes (s : State) : Bytes := leBytes 4 (fld PWR_HINT_TOL.TOL_US s) ++ leBytes 2 (fld PWR_HINT_KEEP.KEEP s)

/-- Loads the stored hint; with none, no limit and no duty (R83). -/
def loadHint (s : State) : State :=
  match recRead recHint s with
  | some b => setFld PWR_HINT_KEEP.PERSISTED 1 (setFld PWR_HINT_KEEP.KEEP (leAt 4 2 b) (setFld PWR_HINT_TOL.TOL_US (leAt 0 4 b) s))
  | none => setFld PWR_HINT_KEEP.PERSISTED 0 (setFld PWR_HINT_KEEP.KEEP 0 (setFld PWR_HINT_TOL.TOL_US 0xFFFFFFFF s))

/-- POWER_HINT (R83, R87, R88): its completion releases the hold of R73. -/
def hintUnit (d : Desc) (s : State) : State :=
  match hintParBad d with
  | some det => fail d stBadLen det s
  | none =>
    let s1 := keepStandby
      (setFld PWR_STATUS.HOLD_RUN 0 (setFld PWR_HINT_KEEP.KEEP (p8 d 4) (setFld PWR_HINT_TOL.TOL_US (p32 d 0) s)))
    let r := if bit 0 (p8 d 6) then recStore recHint (hintBytes s1) s1 else (s1, false)
    let s2 := if bit 0 (p8 d 6) && !r.2 then setFld PWR_HINT_KEEP.PERSISTED 1 r.1 else r.1
    let p := selState false s2
    complete d (if r.2 then stEcc else stOk)
      ([byteOf p.code, byteOf (selLimit false s2), 0, 0] ++ leBytes 4 (exitUs p s2)) 0 s2

/-- POWER_HINT (R87). -/
def execPowerHint (t : Nat) (d : Desc) (s : State) : Host.Outcome State Fault Refusal :=
  descCommand t (asOp 0x02 d) hintUnit s

/-- EVENT_ROUTE (R134): the completion returns the previous pair, and later events go to the new one. -/
def routeUnit (d : Desc) (s : State) : State :=
  reserved 0 d (fun s =>
    let old := fld HIF_EVT_ROUTE.QP s
    complete d stOk [byteOf old] 0 (setFld HIF_EVT_ROUTE.QP d.target
      { s with hif := { s.hif with routes := s.hif.routes ++ [(old, now s)] } })) s

/-- EVENT_ROUTE (R134). -/
def execEventRoute (t : Nat) (d : Desc) (s : State) : Host.Outcome State Fault Refusal :=
  descCommand t (asOp 0x08 d) routeUnit s

/-! ## Dispatch -/

/-- The pair's head may be fetched (R106, R107, R111, R113, R116). -/
def mayFetch (n : Nat) (s : State) : Bool :=
  let q := qp n s
  hifEnabled s && s.hif.busMaster && linkUp s && q.enabled && !q.err && q.sqHead != q.sqTail

/-- Address of the pair's head descriptor. -/
def headAddr (n : Nat) (s : State) : Nat := sqBase n s + 64 * (qp n s).sqHead

/-- The pair's head descriptor (R113, R117), with the number it is dispatched under. -/
def headDesc (n : Nat) (s : State) : Desc :=
  descOf (.host n) (qp n s).sqHead s.hif.dispNo (mread zeroByte s.hostMem (headAddr n s) 64)

/-- Descriptors of a pair whose completions are not written yet: in flight, or held for the link (R122). -/
def unwritten (n : Nat) (s : State) : List Desc :=
  ((s.hif.flight.filter (fun f => !f.discard)).map (·.d) ++ s.hif.held.map (·.d)).filter (fun d => d.src == .host n)

/-- A fence holds the head back (R122). -/
def fenceBlocks (n : Nat) (d : Desc) (s : State) : Bool :=
  let u := unwritten n s
  (hasFence d && !u.isEmpty) || u.any hasFence

/-- Completion ring space holds the head back (R115). -/
def creditBlocks (n : Nat) (s : State) : Bool := (qp n s).used + owed n s ≥ cqSize n s

/-- Drover's full queue holds the head back (R124); a descriptor that fails the checks of R119 never waits for it. -/
def droverBlocks (d : Desc) (s : State) : Bool := opFirmware d.opcode && droverFull s && (check119 d s).isNone

/-- The dispatcher has to skip the pair for this turn (R121). -/
def skips (n : Nat) (s : State) : Bool :=
  !dmaFails (headAddr n s) 64 s &&
  (let d := headDesc n s
   fenceBlocks n d s || creditBlocks n s || droverBlocks d s)

/-- Pairs in the order in which the dispatcher comes to them, the one after the last served first (R15). -/
def turnOrder (s : State) : List Nat :=
  let k := if s.hif.turn ≥ 31 then 0 else s.hif.turn + 1
  (List.range 32).map (fun i => (k + i) % 32)

/-- Pairs that the dispatcher comes to before pair `n` and that have a head to take (R15, R121). -/
def before (n : Nat) (s : State) : List Nat := ((turnOrder s).takeWhile (· ≠ n)).filter (fun m => mayFetch m s)

/-- It is the turn of pair `n`: it has a head, and every pair before it is skipped (R15, R121). -/
def hasTurn (n : Nat) (s : State) : Bool := mayFetch n s && (before n s).all (fun m => skips m s)

/-- SQ_HEAD moves past the head, which takes the pair's turn (R15, R121). -/
def takeHead (n : Nat) (s : State) : State :=
  let s1 := unblockDrover n { s with hif := { s.hif with dispNo := s.hif.dispNo + 1, turn := n } }
  let q := qp n s1
  setQp n { q with sqHead := if q.sqHead + 1 ≥ sqSize n s1 then 0 else q.sqHead + 1 } s1

/-- Marks a pair whose head waits for Drover's queue (R124). -/
def markBlocked (s : State) (n : Nat) : State :=
  if mayFetch n s && !dmaFails (headAddr n s) 64 s && !fenceBlocks n (headDesc n s) s && !creditBlocks n s
      && droverBlocks (headDesc n s) s then blockDrover n s else s

/-- Offset of the MODE byte of an opcode whose MODE (or OP) has no command of its own value, when it is out of range
(Tables 05.13, 06.11, 07.4, 12.7, 13.9, 13.11, 16.6, 18.8, 18.10). -/
def modeBad (d : Desc) : Option Nat :=
  let chk (i hi : Nat) : Option Nat := if p8 d i > hi then some (32 + i) else none
  if d.opcode = 0x03 then chk 8 2
  else if d.opcode = 0x11 then chk 0 1
  else if d.opcode = 0x18 then chk 0 5
  else if d.opcode = 0x39 then chk 0 2
  else if d.opcode = 0x40 then chk 0 6
  else if d.opcode = 0x44 then chk 0 1
  else if d.opcode = 0x59 then chk 4 1
  else if d.opcode = 0x69 then chk 0 2
  else if d.opcode = 0x6A then chk 0 3
  else none

/-- Stops a pair whose ring fetch failed (R116). -/
def fetchError (n : Nat) (s : State) : State :=
  setFault HIF_FAULT.SQ_FETCH (setFld HIF_QP_ERR.QP (Nat.lor (fld HIF_QP_ERR.QP s) (2 ^ n)) (setQp n { qp n s with err := true } s))

/-- The head of pair `n` is taken, checked and handed over (R119, R121, R124), unless a fence, completion ring space or
Drover's queue holds it back. An invalid MODE completes here, since no unit has a command for it (DESIGN CHOICE, log
entry 3). -/
def dispatch (n : Nat) (s : State) : State :=
  if dmaFails (headAddr n s) 64 s then fetchError n { s with hif := { s.hif with turn := n } }
  else if skips n s then markBlocked s n
  else
    let d := headDesc n s
    match check119 d s with
    | some (st, det) => complete d st [] det (takeHead n s)
    | none =>
      let s1 := enterFlight d (takeHead n s)
      match modeBad d with
      | some det => fail d stBadLen det s1
      | none => s1

/-- A turn of the dispatcher (R15, R121, R124): the pairs before `n` are skipped, and those that wait for Drover's queue
are marked. -/
def dispatchTurn (n : Nat) (s : State) : State := dispatch n ((before n s).foldl markBlocked s)

/-- DESCRIPTOR_DISPATCH (R15, R121). -/
def execDescriptorDispatch (t n : Nat) (s : State) : Host.Outcome State Fault Refusal :=
  command t (fun s => onlyIf (n < 32 && inRun s && hasTurn n s) (dispatchTurn n) s) s

/-- SQ_FETCH_ERROR (R116). -/
def execSqFetchError (t n : Nat) (s : State) : Host.Outcome State Fault Refusal :=
  command t (fun s => onlyIf (n < 32 && mayFetch n s) (fetchError n) s) s

/-! ## Doorbells -/

/-- A doorbell violation (R113, R114). -/
def doorbellViol (f : Field) (s : State) : State := setFault f (bump HIF_VIOL_CNT.DB s)

/-- A write to a submission tail doorbell (R113). -/
def sqTail (n v : Nat) (s : State) : State :=
  if (qp n s).enabled = false then doorbellViol HIF_FAULT.DB_DISABLED s
  else if v ≥ sqSize n s then doorbellViol HIF_FAULT.DB_RANGE s
  else setQp n { qp n s with sqTail := v } s

/-- SQ_TAIL_DOORBELL (R113): the write is a TLP, which wakes the device (Table 04.6). -/
def execSqTailDoorbell (t n : Nat) (v : Word) (s : State) : Host.Outcome State Fault Refusal :=
  command t (fun s => onlyIf (n < 32) (fun s => sqTail n (v.toNat % 4096) (tlpWake s)) s) s

/-- A write to a completion head doorbell (R114). -/
def cqHead (n v : Nat) (s : State) : State :=
  let q := qp n s
  if q.enabled = false then doorbellViol HIF_FAULT.DB_DISABLED s
  else
    let size := cqSize n s
    let k := (v + size - q.cqHead) % size
    if v ≥ size ∨ k > q.used then doorbellViol HIF_FAULT.DB_RANGE s
    else
      setQp n { q with cqHead := v, used := q.used - k } s

/-- CQ_HEAD_DOORBELL (R114). -/
def execCqHeadDoorbell (t n : Nat) (v : Word) (s : State) : Host.Outcome State Fault Refusal :=
  command t (fun s => onlyIf (n < 32) (fun s => cqHead n (v.toNat % 4096) (tlpWake s)) s) s

/-! ## Pairs -/

/-- A ring size of Table 05.4. -/
def ringSizeOk (x : Nat) : Bool := x == 0 || (4 ≤ x && x ≤ 12)

/-- A discarded register write (R109). -/
def cfgViol (s : State) : State := setFault HIF_FAULT.CFG_WHILE_EN (bump HIF_VIOL_CNT.CFG s)

/-- Enables a pair (R110). -/
def enablePair (n : Nat) (s : State) : State :=
  setFld HIF_QP_ERR.QP (Nat.land (fld HIF_QP_ERR.QP s) (2 ^ 32 - 1 - 2 ^ n))
    (setQp n { Qp.reset with phase := true, enabled := true, quiesced := false } s)

/-- Disables a pair (R110): its descriptors run to their end and their completions are discarded. -/
def disablePair (n : Nat) (s : State) : State :=
  let s1 := unblockDrover n s
  let s2 := setQp n { qp n s1 with enabled := false, quiesced := false, unsig := 0, unsigAt := none }
    { s1 with hif := { s1.hif with held := s1.hif.held.filter (fun c => c.d.src != .host n) } }
  settlePair n s2

/-- A write to QPn_CFG (R9, R109, R110). -/
def writeQpCfg (n : Nat) (v : Word) (s : State) : State :=
  let sq := (QPn_CFG.SQ_SIZE n).of v
  let cq := (QPn_CFG.CQ_SIZE n).of v
  let us := (QPn_CFG.COAL_US n).of v
  let oldSq := fld (QPn_CFG.SQ_SIZE n) s
  let oldCq := fld (QPn_CFG.CQ_SIZE n) s
  let sq' := if ringSizeOk sq then sq else oldSq
  let cq' := if ringSizeOk cq then cq else oldCq
  let us' := if us = 0 then fld (QPn_CFG.COAL_US n) s else us
  let s0 := if ringSizeOk sq && ringSizeOk cq && us != 0 then s else setFld HIF_STATUS.ERR_RANGE 1 s
  let store (s : State) : State := regSet (QPn_CFG.reg n)
    (BitVec.ofNat 32 (sq' + 16 * cq' + 256 * (QPn_CFG.COAL_CNT n).of v + 65536 * us')) s
  if (qp n s).enabled then
    if sq' = oldSq ∧ cq' = oldCq then store s0
    else if sq' = 0 ∨ cq' = 0 then disablePair n (store s0)
    else cfgViol s0
  else if sq' ≠ 0 ∧ cq' ≠ 0 then
    (if (qp n s).quiesced then enablePair n (store s0) else cfgViol s0)
  else store s0

/-- A write to a ring base register (R109, Table 05.4). -/
def writeRingBase (n off : Nat) (v : Word) (s : State) : State :=
  if (qp n s).enabled then cfgViol s
  else regSet off (if off % 8 = 0 then v &&& 0xFFFFF000 else v) s

/-- QP_QUIESCED (R110). -/
def execQpQuiesced (t n : Nat) (s : State) : Host.Outcome State Fault Refusal :=
  command t (fun s => onlyIf (n < 32) (settlePair n) s) s

/-- BUS_MASTER_ENABLE_CHANGE (R107): held completions go out when it is set in L0 (R77). Like every TLP the configuration
write ends Graze and Pen (R92). -/
def execBusMasterEnableChange (t : Nat) (on : Bool) (s : State) : Host.Outcome State Fault Refusal :=
  command t (fun s => releaseHeld (tlpWake { s with hif := { s.hif with busMaster := on } })) s

/-- D3HOT_TRANSITION (R106). -/
def execD3hotTransition (t : Nat) (enter : Bool) (s : State) : Host.Outcome State Fault Refusal :=
  command t (fun s => tlpWake { s with hif := { s.hif with d3hot := enter } }) s

/-! ## MSI-X and the backlog -/

/-- MSIX_COALESCE_TIMEOUT (R130): the oldest unsignalled completion has waited COAL_US. -/
def coalesceTimeout (n : Nat) (s : State) : State :=
  let q := qp n s
  match q.unsigAt with
  | some x =>
    onlyIf (decide (x + usTicks (fld (QPn_CFG.COAL_US n) s) ≤ now s))
      (fun s => raiseVector n (setQp n { q with unsig := 0, unsigAt := none } s)) s
  | none => s

/-- MSIX_COALESCE_TIMEOUT (R130). -/
def execMsixCoalesceTimeout (t n : Nat) (s : State) : Host.Outcome State Fault Refusal :=
  command t (fun s => onlyIf (n < 32) (coalesceTimeout n) s) s

/-- Sends the message of vector `n` when it is pending and neither masked nor disabled (R130). -/
def sendPending (s : State) (n : Nat) : State :=
  if s.hif.msixEn && !(s.hif.msix.getD n MsixEntry.reset).masked && s.hif.pba.getLsbD n then
    { s with hif := { s.hif with
        pba := s.hif.pba &&& ~~~ BitVec.ofNat 34 (2 ^ n)
        sent := n :: s.hif.sent } }
  else s

/-- Sets the mask bit of a vector; unmasking sends a pending message (R130). -/
def maskVector (n : Nat) (m : Bool) (s : State) : State :=
  sendPending { s with hif := { s.hif with
    msix := s.hif.msix.set n { s.hif.msix.getD n MsixEntry.reset with masked := m } } } n

/-- MSIX_VECTOR_UNMASK (R130): enabling MSI-X in its capability (`en`), or unmasking vector `n`. -/
def execMsixVectorUnmask (t n : Nat) (en : Bool) (s : State) : Host.Outcome State Fault Refusal :=
  command t (fun s =>
    if en then (List.range 34).foldl sendPending (tlpWake { s with hif := { s.hif with msixEn := true } })
    else if n < 34 then maskVector n false (tlpWake s) else s) s

/-- BACKLOG_DELIVERY (R28). -/
def execBacklogDelivery (t : Nat) (s : State) : Host.Outcome State Fault Refusal := command t deliverBacklog s

/-! ## Link -/

/-- HIF_LINK.LSTATE encoding (Table 05.4). -/
def linkCode : LinkState → Nat
  | .down => 0 | .training => 1 | .l0 => 2 | .l1 => 3 | .l2l3 => 4

/-- The link's state changes (R77, R86, R94): L0 releases WAKE_N and the held completions; an exit from L1 wakes the
device (Table 04.6). -/
def linkChange (l : LinkState) (speed width : Nat) (s : State) : State :=
  let was := s.hif.link
  let re := l == .training && s.hif.trained && fld HIF_LINK.SPEED s != speed
  let s1 := setFld HIF_LINK.SPEED speed (setFld HIF_LINK.WIDTH width (setFld HIF_LINK.LSTATE (linkCode l)
    { s with hif := { s.hif with link := l, trained := s.hif.trained || l == .l0, relock := re } }))
  let s2 := if was == .l1 && (l == .l0 || l == .training) then tlpWake s1 else s1
  let s3 := if l == .l0 then releaseHeld { s2 with pins := { s2.pins with wakeN := false } } else s2
  reselect s3

/-- LINK_STATE_CHANGE (R86): with PERST_N asserted the link stays down. -/
def execLinkStateChange (t : Nat) (l : LinkState) (speed width : Nat) (s : State) : Host.Outcome State Fault Refusal :=
  command t (fun s => onlyIf (!s.pins.perst || l == .down) (linkChange l speed width) s) s

/-- PME_TURN_OFF (R86): the message is a TLP, which leaves Graze and Pen (Table 04.6). -/
def execPmeTurnOff (t : Nat) (s : State) : Host.Outcome State Fault Refusal :=
  command t (fun s => onlyIf (linkUp s) (fun s => tlpWake { s with hif := { s.hif with pmeOff := true } }) s) s

/-- PME_TO_ACK (R86): once the device is idle after PME_Turn_Off. -/
def execPmeToAck (t : Nat) (s : State) : Host.Outcome State Fault Refusal :=
  command t (fun s => onlyIf (s.hif.pmeOff && isIdle s) (fun s => { s with hif := { s.hif with pmeOff := false } }) s) s

end Sys2Proof.Machine
end

