-- ==== Sys2Proof/Machine/Nv.lean ====
section
/-! DEFINITION. Machine/Nv.lean: NV_READ, NV_WRITE and its Drover-port forms, tally counters, the scrubber and VHOLD
(R31, R342, R346, R354, R360 to R363). -/
namespace Sys2Proof.Machine

/-! ## Records as found -/

/-- A twin conflict is noted once until the record's next write (R354). -/
def noteTwin (id : Nat) (s : State) : State :=
  if s.nv.twins.contains id then s
  else
    let s1 := setFld NVS_STATUS.TWIN 1 (bump NVS_REC_CNT.TWIN { s with nv := { s.nv with twins := id :: s.nv.twins } })
    append 0x4B 0 id s1

/-- Counts a repaired copy (R354). -/
def noteRepair (s : State) : State := setFld NVS_STATUS.REPAIRED 1 (bump NVS_REC_CNT.REPAIRS s)

/-- Counts the reads of both copies of a host record (R341). -/
def countHostRec (n : Nat) (s : State) : State :=
  let words (c : Nat) : Nat := 16 + min 1008 (leAt 2 2 (nvPeek (hostRecAddr n c) 4 s))
  countRead (hostRecAddr n 1) (words 1) (countRead (hostRecAddr n 0) (words 0) s)

/-- Host record `n` is repaired at its first access after a load (R354, Table 15.6). -/
def repairHost (n : Nat) (s : State) : State :=
  if s.nv.checked.contains n then s
  else
    let s1 := { s with nv := { s.nv with checked := n :: s.nv.checked } }
    match hostCopy n 0 s1, hostCopy n 1 s1 with
    | some a, none => noteRepair (writeHostCopy n 1 a s1).1
    | none, some b => noteRepair (writeHostCopy n 0 b s1).1
    | _, _ => s1

/-- A device record is repaired at configuration load (R354). -/
def repairRec (id : Nat) (s : State) : State :=
  let d := recGet id s
  let s1 := if d.twin then noteTwin id s else s
  if d.needsRepair then
    noteRepair { s1 with nv := { s1.nv with recs := sset (fun _ => Dual.empty) id d.repair s1.nv.recs } }
  else s1

/-! ## NV_READ and NV_WRITE -/

/-- Result bytes of NV_READ and NV_WRITE (Table 15.10). -/
def nvResult (out seq copy flags stored : Nat) : Bytes :=
  leBytes 4 out ++ leBytes 4 seq ++ [byteOf copy, byteOf flags] ++ leBytes 2 stored

/-- OFFSET. -/
def nvOffset (d : Desc) : Nat := p32 d 0

/-- A soft word lies in the copy that a read returns (Table 15.10 ECC_CORR). -/
def copyCorrected (n c : Nat) (len : Nat) (s : State) : Bool :=
  (wordsOf (hostRecAddr n c) (16 + len)).any (fun w => s.nv.soft.contains w)

/-- NV_READ of a host record (R354, R362). -/
def readHostRec (d : Desc) (s : State) : State :=
  let n := d.target
  let rec0 := hostRec n s
  let full := (rec0.newest.map Copy.data).getD []
  let copy := rec0.pick.getD 0xFF
  let corr : Bool := match rec0.pick with | some c => copyCorrected n c full.length s | none => false
  let flags := b2n rec0.newest.isNone + 2 * b2n (rec0.a.isSome != rec0.b.isSome) + 4 * b2n rec0.twin + 8 * b2n corr
  let out := full.take d.len
  let s1 := repairHost n (countHostRec n s)
  let s2 := if rec0.twin then noteTwin n s1 else s1
  if dmaBlocked d d.dstAddr out.length s2 then
    complete d stBadAddr (nvResult 0 0 0xFF 0 0) 24 (if isHost d && s2.hif.busMaster then setFault HIF_FAULT.DATA_DMA s2 else s2)
  else
    complete d (if rec0.twin then stTwin else stOk)
      (nvResult out.length ((rec0.newest.map Copy.seq).getD 0) copy flags full.length) 0 (dmaWrite d d.dstAddr out s2)

/-- NV_READ by NV address: it stops before an uncorrectable word (R362). -/
def readRaw (d : Desc) (a : Nat) (s : State) : State :=
  let s1 := countRead a d.len s
  let n := match badWord a d.len s with | some w => w - a | none => d.len
  let out := nvPeek a n s
  let corr := (wordsOf a n).any (fun w => s.nv.soft.contains w)
  if dmaBlocked d d.dstAddr out.length s1 then
    complete d stBadAddr (nvResult 0 0 0xFF 0 0) 24 (if isHost d && s1.hif.busMaster then setFault HIF_FAULT.DATA_DMA s1 else s1)
  else
    complete d (if (badWord a d.len s).isSome then stEcc else stOk) (nvResult n 0 0xFF (8 * b2n corr) 0) 0 (dmaWrite d d.dstAddr out s1)

/-- NV_READ (R360, R362). The Ledger region is not ready before step 3 of recall (R350). -/
def nvReadUnit (d : Desc) (s : State) : State :=
  let t := d.target
  let o := nvOffset d
  if t < 0x40 then
    if d.len > 1008 then fail d stBadLen 8 s
    else if o ≠ 0 then fail d stBadLen 32 s
    else reserved 4 d (readHostRec d) s
  else if t = 0x100 then
    if d.len > 65536 then fail d stBadLen 8 s
    else reserved 4 d (fun s =>
      if o + d.len > 262144 then fail d stBadAddr 32 s else readRaw d (0x120000 + o) s) s
  else if t = 0x200 then
    if d.len > 1048576 then fail d stBadLen 8 s
    else reserved 4 d (fun s =>
      if o < 0x200000 ∨ o + d.len > ledgerEnd s.part then fail d stBadAddr 32 s
      else if o + d.len > 0x400000 ∧ d.len > 0 ∧ s.nv.ledgerReady = false then fail d stRecall 0 s
      else readRaw d o s) s
  else fail d stBadHandle 4 s

/-- NV_READ (R362). -/
def execNvRead (t : Nat) (d : Desc) (s : State) : Host.Outcome State Fault Refusal :=
  descCommand t (asOp 0x50 d) nvReadUnit s

/-- NV_WRITE of a host record (R353, R362). -/
def writeHostRec (d : Desc) (s : State) : State :=
  readSrc d d.len (fun b s =>
    let n := d.target
    let s1 := repairHost n s
    let r := hostRec n s1
    let w := writeHostCopy n r.writeTo ⟨r.nextSeq, b⟩ s1
    let s2 := { w.1 with nv := { w.1.nv with twins := w.1.nv.twins.filter (· ≠ n) } }
    match w.2 with
    | none =>
      let again := rewrites (hostRecAddr n r.writeTo) (16 + b.length) s1
      complete d stOk (nvResult b.length r.nextSeq r.writeTo (b2n again) 0) 0 s2
    | some a => complete d stEcc (nvResult 0 r.nextSeq r.writeTo 1 0) 0 (append 0x4A 0 (a / 8) s2)) s

/-- Writes bytes at an NV address for a descriptor (R344, R362). -/
def writeRaw (d : Desc) (a st det : Nat) (b : Bytes) (s : State) : State :=
  let r := nvStore a b s
  match r.2 with
  | none => complete d st (nvResult b.length 0 0xFF (b2n (rewrites a b.length s)) 0) det r.1
  | some w => complete d stEcc (nvResult (w - a) 0 0xFF 1 0) 0 r.1

/-- NV_WRITE of the scratch kind: on a DMA error only the bytes read before it are written (R362). -/
def writeScratch (d : Desc) (s : State) : State :=
  let a := 0x120000 + nvOffset d
  match dmaRead d d.srcAddr d.len s with
  | some b => writeRaw d a stOk 0 b s
  | none =>
    let k := match d.src with | .monitor => 0 | _ => goodPrefix d d.srcAddr d.len s
    let s1 := if isHost d && s.hif.busMaster then setFault HIF_FAULT.DATA_DMA s else s
    writeRaw d a stBadAddr 16 (mread zeroByte s.hostMem d.srcAddr k) s1

/-- NV_WRITE with LEN 0: it completes once everything accepted before it is in MRAM (R345, Table 05.8). -/
def nvBarrier (d : Desc) (s : State) : State := complete d stOk (nvResult 0 0 0xFF 0 0) 0 (drainAll s)

/-- NV_WRITE to the kinds that a host may address (R360, R362). -/
def nvWriteUnit (d : Desc) (s : State) : State :=
  let t := d.target
  let o := nvOffset d
  if t < 0x40 then
    if d.len > 1008 then fail d stBadLen 8 s
    else if o ≠ 0 then fail d stBadLen 32 s
    else reserved 4 d (if d.len = 0 then nvBarrier d else writeHostRec d) s
  else if t = 0x100 then
    if d.len > 65536 then fail d stBadLen 8 s
    else reserved 4 d (fun s =>
      if o + d.len > 262144 then fail d stBadAddr 32 s
      else if d.len = 0 then nvBarrier d s else writeScratch d s) s
  else fail d stBadHandle 4 s

/-- NV_WRITE (R362). -/
def execNvWrite (t : Nat) (d : Desc) (s : State) : Host.Outcome State Fault Refusal :=
  descCommand t (asOp 0x51 d) nvWriteUnit s

/-! ## Drover-port forms (R31) -/

/-- NV_WRITE into a firmware bank, within FW_STAGE of that bank (R31, R360). -/
def fwChunkUnit (d : Desc) (s : State) : State :=
  let b := d.target - 0x210
  let mine : Bool := match droverWork s with | some w => w.opcode == 0x68 && w.target == b | none => false
  if !(d.target == 0x210 || d.target == 0x211) || d.src != .drover || !mine then fail d stBadHandle 4 s
  else if d.len ≠ 0 ∧ lenIn 16 16 65536 false d.len = false then fail d stBadLen 8 s
  else reserved 4 d (fun s =>
    if nvOffset d + d.len > 0x100000 then fail d stBadAddr 32 s
    else if d.len = 0 then nvBarrier d s
    else readSrc d d.len (writeRaw d (0x200000 + 0x100000 * b + nvOffset d) stOk 0) s) s

/-- NV_WRITE_FW_CHUNK (R31). -/
def execNvWriteFwChunk (t : Nat) (d : Desc) (s : State) : Host.Outcome State Fault Refusal :=
  descCommand t (asOp 0x51 d) fwChunkUnit s

/-- Drover's present work owns device record `id` (Table 01.7). -/
def ownsRecord (id : Nat) (s : State) : Bool :=
  (workingOn 0x68 s && (id == recBank 0 || id == recBank 1 || id == recSel)) ||
  (workingOn 0x69 s && (id == recBank 0 || id == recBank 1 || id == recSel)) ||
  (workingOn 0x38 s && (id == recFlock || id == recFlock + 1)) ||
  (workingOn 0x3A s && id == recPair) ||
  ((match droverWork s with | some w => w.opcode == 0x6A && p8 w 0 == 2 | none => false) && id == recFleet) ||
  ((workingOn 0x5B s || ckptWork s) && 0x0E00 ≤ id && id < 0x0F00)

/-- NV_WRITE of a device record by the work that owns it (R31, R340); capacity 4064 bytes (DESIGN CHOICE, log entry
11). -/
def devRecUnit (d : Desc) (s : State) : State :=
  let id := d.target - 0x400
  if !(0x500 ≤ d.target && d.target ≤ 0x13FF) || d.src != .drover || !ownsRecord id s then fail d stBadHandle 4 s
  else if d.len > 4064 then fail d stBadLen 8 s
  else if nvOffset d ≠ 0 then fail d stBadLen 32 s
  else reserved 4 d (fun s =>
    if d.len = 0 then nvBarrier d s
    else readSrc d d.len (fun b s =>
      let old := recGet id s
      let r := recStore id b s
      complete d (if r.2 then stEcc else stOk)
        (nvResult (if r.2 then 0 else b.length) old.nextSeq old.writeTo (b2n r.2) 0) 0 r.1) s) s

/-- NV_WRITE_DEVICE_RECORD (R31). -/
def execNvWriteDeviceRecord (t : Nat) (d : Desc) (s : State) : Host.Outcome State Fault Refusal :=
  descCommand t (asOp 0x51 d) devRecUnit s

/-- Programs the OTP override (R415). -/
def programOtp (k : Nat) (s : State) : State := { s with lcy := { s.lcy with otp := k } }

/-- NV_WRITE of the OTP override field, within LIFECYCLE OTP_K (R31, R415). -/
def otpUnit (d : Desc) (s : State) : State :=
  let mine : Bool := match droverWork s with | some w => w.opcode == 0x6A && p8 w 0 == 3 | none => false
  if d.target ≠ 0x300 ∨ d.src ≠ .drover ∨ mine = false then fail d stBadHandle 4 s
  else if d.len ≠ 0 ∧ d.len ≠ 4 then fail d stBadLen 8 s
  else if nvOffset d ≠ 0 then fail d stBadLen 32 s
  else reserved 4 d (fun s =>
    if d.len = 0 then nvBarrier d s
    else readSrc d 4 (fun b s =>
      let k := byteAt 0 b
      if s.lcy.otp ≠ 0 ∨ k < 14 ∨ k > 21 ∨ allZero (b.drop 1) = false then fail d stBadLen 32 s
      else complete d stOk (nvResult 4 0 0xFF 0 0) 0 (programOtp k s)) s) s

/-- NV_WRITE_OTP (R31). -/
def execNvWriteOtp (t : Nat) (d : Desc) (s : State) : Host.Outcome State Fault Refusal :=
  descCommand t (asOp 0x51 d) otpUnit s

/-! ## Tally counters -/

/-- Result bytes of TALLY_INC (R363). -/
def incResult (v slot flags : Nat) : Bytes := leBytes 6 v ++ [byteOf slot, byteOf flags]

/-- The counters of 240 to 255 that a Drover-port TALLY_INC may raise, and in which work (R359, Table 01.7). -/
def incAllowed (d : Desc) (s : State) : Bool :=
  d.target < 240 || (d.src == .drover &&
    (match droverWork s with
     | some w => (d.target == 248 && w.opcode == 0x69 && p8 w 0 == 1) || (d.target == 249 && w.opcode == 0x6A && p8 w 0 == 1)
         || (d.target == 252 && w.opcode == 0x38)
     | none => false))

/-- When an increment of counter `c` can start: 1 us after the last one's start (R358). -/
def incStart (c : Nat) (s : State) : Nat :=
  match s.nv.incAt.find? (fun p => p.1 = c) with
  | some p => max (now s) (p.2 + usTicks 1)
  | none => now s

/-- TALLY_INC (R357 to R359, R363): it starts no sooner than 1 us after the counter's last increment. -/
def tallyIncUnit (d : Desc) (s : State) : State :=
  if incAllowed d s = false then fail d stBadHandle 4 s
  else reserved 2 d (fun s =>
    let c := d.target
    let s0 := elapse (incStart c s) s
    let s1 := { s0 with nv := { s0.nv with incAt := (c, now s0) :: s0.nv.incAt.filter (fun p => p.1 ≠ c) } }
    let r := tallyStep c (if p16 d 0 = 0 then 1 else p16 d 0) s1
    match r.2 with
    | .done v slot clip retried => complete d stOk (incResult v slot (b2n clip + 2 * b2n retried)) 0 r.1
    | .saturated => complete d stTallySat (incResult tallyMax 0xFF 0) 0 r.1
    | .failed => complete d stEcc (incResult (tallyVal c s1) 0xFF 2) 0 r.1
    | .lostCounter => complete d stEcc (incResult 0 0xFF 0) 0 r.1) s

/-- TALLY_INC (R363). -/
def execTallyInc (t : Nat) (d : Desc) (s : State) : Host.Outcome State Fault Refusal :=
  descCommand t (asOp 0x52 d) tallyIncUnit s

/-- TALLY_READ (R357, R363). -/
def tallyReadUnit (d : Desc) (s : State) : State :=
  reserved 0 d (fun s =>
    let c := d.target
    let n := (validCells c s).length
    let s1 := addFld NVS_TALLY_CNT.INVALID (32 - n) s
    match tally c s1 with
    | some (v, slot) => complete d stOk (leBytes 6 v ++ [byteOf slot, byteOf n, byteOf (b2n (v == tallyMax))]) 0 s1
    | none => complete d stEcc (leBytes 6 0 ++ [0xFF, 0, 0]) 0 (append 0x4C c 0 s1)) s

/-- TALLY_READ (R363). -/
def execTallyRead (t : Nat) (d : Desc) (s : State) : Host.Outcome State Fault Refusal :=
  descCommand t (asOp 0x53 d) tallyReadUnit s

/-! ## Scrubber and VHOLD -/

/-- Words that the scrubber reads: Pasture and both firmware banks (R342). -/
def scrubbed (a : Nat) : Bool := a < 0x400000

/-- Rewrites a corrected word through the buffer (R342). -/
def scrubWord (s : State) (a : Nat) : State := (nvWriteWord a (nvWordBytes a s) s).1

/-- SCRUB_PASS (R342): corrected words are counted and rewritten, uncorrectable ones counted. The command stands for the
end of a pass, whose interruptions leave nothing behind (log entry 50). -/
def scrubPass (s : State) : State :=
  let hit := s.nv.soft.filter scrubbed
  let s1 := addFld NVS_ECC_CNT.CORR hit.length s
  let bad := s.nv.bad.filter scrubbed
  let s2 := bad.foldl (fun s a => setFld NVS_ERR_ADDR.VALID 1 (setFld NVS_ERR_ADDR.ADDR a (bump NVS_ECC_CNT.UNCORR s))) s1
  let s3 := hit.foldl scrubWord s2
  { s3 with nv := { s3.nv with scrubEnd := now s3 } }

/-- SCRUB_PASS (R342): in Run with the NVS idle, SCRUB_H hours after the last pass. -/
def execScrubPass (t : Nat) (s : State) : Host.Outcome State Fault Refusal :=
  command t (fun s => onlyIf (flag NVS_CTL.SCRUB_EN s && s.pwr.st == .run && s.nv.buf.isEmpty
      && decide (s.nv.scrubEnd + secTicks (3600 * fld NVS_CTL.SCRUB_H s) ≤ now s)) scrubPass s) s

/-- A measurement of VHOLD and VAON, in 10 mV (R346): HOLD_LOW lies below V_AON - 0.3 V. At a reset release every low
one is recorded, later only a new low. -/
def measureHold (atRelease : Bool) (vhold vaon : Nat) (s : State) : State :=
  let low := decide (vhold + 30 < vaon)
  let was := s.nv.holdWasLow
  let s1 := setFld NVS_HOLD.HOLD_CV (min vhold 511) (setFlag NVS_STATUS.HOLD_LOW low
    { s with nv := { s.nv with holdWasLow := low, holdAt := some (now s) } })
  if low && (atRelease || !was) then append 0x19 0 (min vhold 511) s1 else s1

/-- A second has passed since the last measurement of VHOLD (R346). -/
def holdDue (s : State) : Bool :=
  match s.nv.holdAt with
  | some h => decide (h + secTicks 1 ≤ now s)
  | none => true

/-- VHOLD_MEASURE (R346): once per second while the NVS island is powered. -/
def execVholdMeasure (t vhold vaon : Nat) (s : State) : Host.Outcome State Fault Refusal :=
  command t (fun s => onlyIf (islandOn .nvs s && holdDue s) (measureHold false vhold vaon) s) s

end Sys2Proof.Machine
end

