-- ==== Sys2Proof/Machine/Ledger.lean ====
section
/-! DEFINITION. Machine/Ledger.lean: the ledger opcodes, checkpoints and attestations, and LGR_CTL (R369, R377 to
R387). -/
namespace Sys2Proof.Machine

/-! ## Host appends -/

/-- First entry out of range (R379): TYPE, SLOT or a reserved byte. -/
def badEntry (b : Bytes) : Option Nat :=
  (chunks 8 b).findIdx? (fun e =>
    byteAt 0 e < 0x80 || byteAt 0 e == 0xFF || (64 ≤ byteAt 1 e && byteAt 1 e < 0xFD) || !allZero (e.drop 5))

/-- The slot that an entry is written with (R379). -/
def entrySlot (e : Bytes) (s : State) : Nat :=
  if byteAt 1 e = 0xFE then fld FLK_DRIVER.DOR s else if byteAt 1 e = 0xFD then fld FLK_DRIVER.CO s else byteAt 1 e

/-- An entry as it waits for the sequencer: its slot is resolved, and byte 5 marks a substitution that found none. -/
def resolveEntry (s : State) (e : Bytes) : Bytes :=
  let x := entrySlot e s
  let none? := (byteAt 1 e == 0xFE || byteAt 1 e == 0xFD) && x == 0xFF
  [byteOf (byteAt 0 e), byteOf x] ++ slice 2 3 e ++ [byteOf (b2n none?), 0, 0]

/-- Places the entries of one append in order; none when one of them cannot be placed (R372). -/
def placeAll (wall : Nat) : List Bytes → List (Nat × Nat) → State → Option (State × List (Nat × Nat))
  | [], ps, s => some (s, ps)
  | e :: es, ps, s =>
    let r := placeRecord ⟨byteAt 0 e, byteAt 1 e, leAt 2 3 e, wall, now s⟩ false s
    if r.2 then placeAll wall es (ps ++ [r.1.lgr.placed]) r.1 else none

/-- A refused append (R372). -/
def refuseAppend (d : Desc) (s : State) : State :=
  fail d stLedgerFull 0 (setFld LGR_STATUS.FULL 1 (bump LGR_CNT1.REFUSED s))

/-- LEDGER_APPEND at the sequencer (R372, R379): all entries or none, at wall clock `wall`. -/
def writeHost (d : Desc) (wall : Nat) (b : Bytes) (s : State) : State :=
  let s0 := reportLost s
  let es := chunks 8 b
  match placeAll wall es [] s0 with
  | none => refuseAppend d s0
  | some (s1, ps) =>
    let f := ps.headD (0, 0)
    let l := ps.getLastD (0, 0)
    let asks := bit 0 (p8 d 0)
    let s2 := if asks && s1.lgr.openRecs.isSome then sealBlock padForced s1 else s1
    let none? := es.any (fun e => byteAt 5 e == 1)
    let sealed := decide (l.1 ≤ lgrSealed s2)
    complete d stOk (leBytes 4 f.1 ++ [byteOf f.2, byteOf es.length] ++ leBytes 4 l.1 ++ [byteOf l.2,
      byteOf (b2n sealed + 2 * b2n none?)]) 0 s2

/-- LEDGER_APPEND once its entries are read and checked: during recall it takes a place of the buffer or waits for one
(R351). -/
def appendHost (d : Desc) (b : Bytes) (s : State) : State :=
  let b' := ((chunks 8 b).map (resolveEntry s)).flatten
  if s.nv.ledgerReady then writeHost d s.clk.wall.toNat b' s
  else if s.lgr.buffered.length < 64 then
    { s with lgr := { s.lgr with buffered := s.lgr.buffered ++ [.host d s.clk.wall.toNat b'] } }
  else { s with lgr := { s.lgr with hostWait := s.lgr.hostWait ++ [(d, now s + timeoutTicks d 100)] } }

/-- LEDGER_APPEND (R379). -/
def ledgerAppend (d : Desc) (s : State) : State :=
  if p8 d 0 > 1 then fail d stBadLen 32 s
  else reserved 1 d (fun s =>
    readSrc d d.len (fun b s =>
      match badEntry b with
      | some i => fail d stBadLen i s
      | none => appendHost d b s) s) s

/-- LEDGER_APPEND (R379). -/
def execLedgerAppend (t : Nat) (d : Desc) (s : State) : Host.Outcome State Fault Refusal :=
  descCommand t (asOp 0x58 d) ledgerAppend s

/-- LEDGER_APPEND_WAIT_TIMEOUT (R351): host appends without a place whose TIMEOUT has ended. -/
def appendTimeout (s : State) : State :=
  let late (p : Desc × Nat) : Bool := decide (p.2 ≤ now s)
  (s.lgr.hostWait.filter late).foldl (fun s p => fail p.1 stBusy 0 s)
    { s with lgr := { s.lgr with hostWait := s.lgr.hostWait.filter (fun p => !late p) } }

/-- LEDGER_APPEND_WAIT_TIMEOUT (R351). -/
def execLedgerAppendWaitTimeout (t : Nat) (s : State) : Host.Outcome State Fault Refusal := command t appendTimeout s

/-! ## Reading -/

/-- An operation that needs recall's step 3 (R384). -/
def afterRecall (d : Desc) (k : State → State) (s : State) : State :=
  if s.nv.ledgerReady then k s else fail d stRecall 0 s

/-- SEQ of the block at block `q`'s position; none where its header word is uncorrectable (R341). -/
def seqAt (q : Nat) (s : State) : Option Nat :=
  if s.nv.bad.contains (blockAddr q s) then none else some (leAt 0 4 (blockBytes q s))

/-- Blocks that a LEDGER_READ of `n` blocks from `q` copies, and whether it stops at an overwritten one (R380). -/
def readRange (openToo : Bool) (s : State) : Nat → Nat → List Nat × Bool
  | 0, _ => ([], false)
  | n + 1, q =>
    if q > lgrTail s then ([], false)
    else if s.lgr.openRecs.isSome ∧ q = lgrTail s then (if openToo then [q] else [], false)
    else if seqAt q s ≠ some q then ([], true)
    else
      let r := readRange openToo s n (q + 1)
      (q :: r.1, r.2)

/-- A block's tag can be checked: the open block has none, and HEAD's predecessor is gone unless HEAD is 1 (R380). -/
def tagChecked (q : Nat) (s : State) : Bool :=
  (q != s.lgr.head || s.lgr.head == 1) && decide (q ≤ lgrSealed s)

/-- The first block of a list whose tag fails (R380, R382). -/
def firstBad (qs : List Nat) (s : State) : Option Nat := qs.find? (fun q => tagChecked q s && !tagOk q s)

/-- Result bytes of LEDGER_READ (Table 16.6). -/
def readResult (x : Nat) (full stopped : Bool) (s : State) : Bytes :=
  leBytes 4 s.lgr.head ++ leBytes 4 (lgrTail s) ++ leBytes 4 x
    ++ [byteOf (b2n s.lgr.openRecs.isSome + 2 * b2n stopped + 4 * b2n (decide (lgrFree s ≤ lgrRes s))),
        byteOf (if full then s.lgr.openRecs.getD 0 else 0)]

/-- Counts the reads of blocks (R341). -/
def countBlocks (qs : List Nat) (s : State) : State := qs.foldl (fun s q => countRead (blockAddr q s) 64 s) s

/-- LEDGER_READ of blocks (R380). -/
def readBlocks (d : Desc) (s : State) : State :=
  let from_ := p32 d 0
  let verify := bit 0 (p8 d 5)
  if d.len = 0 then complete d stOk (readResult 0 false false s) 0 s
  else if from_ < s.lgr.head ∨ from_ > lgrTail s ∨ from_ = 0 then fail d stBadAddr 32 s
  else
    let r := readRange (bit 1 (p8 d 5)) s (d.len / 64) from_
    let bs := (r.1.map (fun q => blockBytes q s)).flatten
    let bad := if verify then firstBad r.1 s else none
    let x := if verify then bad.getD 0 else bs.length
    writeDst d bs (fun s => complete d (if bad.isSome then stMacFail else stOk) (readResult x true r.2 s) 0 s)
      (countBlocks r.1 s)

/-- Statement `i` of the ring; a position that holds none reads free bytes (log entry 5). -/
def ringStatement (i : Nat) (s : State) : Bytes := fit 192 ((recRead (recStatement i) s).getD (freeBytes 192 s))

/-- LEDGER_READ of statements (R380). -/
def readStatements (d : Desc) (s : State) : State :=
  if d.len = 0 then complete d stOk (readResult 0 false false s) 0 s
  else if p32 d 0 > 255 then fail d stBadAddr 32 s
  else
    let bs := ((List.range (d.len / 192)).map (fun i => ringStatement (p32 d 0 + i) s)).flatten
    writeDst d bs (fun s => complete d stOk (readResult bs.length true false s) 0 s) (tookFree 192 s)

/-- LEDGER_READ (R380, R384). -/
def ledgerRead (k : Desc → State → State) (d : Desc) (s : State) : State :=
  if p8 d 5 > 3 then fail d stBadLen 37 s
  else reserved 6 d (fun s => afterRecall d (k d) s) s

/-- LEDGER_READ_BLOCKS (R380, MODE 0). -/
def execLedgerReadBlocks (t : Nat) (d : Desc) (s : State) : Host.Outcome State Fault Refusal :=
  descCommand t (setPar 4 0 (asOp 0x59 d)) (ledgerRead readBlocks) s
/-- LEDGER_READ_STATEMENTS (R380, MODE 1). -/
def execLedgerReadStatements (t : Nat) (d : Desc) (s : State) : Host.Outcome State Fault Refusal :=
  descCommand t (setPar 4 1 (asOp 0x59 d)) (ledgerRead readStatements) s

/-! ## Sealing and release -/

/-- LEDGER_SEAL (R381). -/
def ledgerSeal (d : Desc) (s : State) : State :=
  reserved 0 d (fun s => afterRecall d (fun s =>
    let nothing := s.lgr.openRecs.isNone
    let s1 := sealBlock padForced s
    let q := lgrSealed s1
    complete d stOk (leBytes 4 q ++ (blockBytes q s1).drop 56 ++ [byteOf (b2n nothing)]) 0 s1) s) s

/-- LEDGER_SEAL (R381). -/
def execLedgerSeal (t : Nat) (d : Desc) (s : State) : Host.Outcome State Fault Refusal :=
  descCommand t (asOp 0x5A d) ledgerSeal s

/-- LEDGER_SEAL_TIMER (R369): SEAL_S seconds since the open block's first record. -/
def execLedgerSealTimer (t : Nat) (s : State) : Host.Outcome State Fault Refusal :=
  command t (fun s => onlyIf (s.nv.ledgerReady && s.lgr.openRecs.isSome
    && decide (s.lgr.openTb + secTicks s.lgr.sealS ≤ now s)) (sealBlock padTimed) s) s

/-- Result bytes of LEDGER_RELEASE (R383). -/
def releaseResult (same : Bool) (s : State) : Bytes := leBytes 4 s.lgr.w ++ [byteOf (b2n same), 0] ++ leBytes 4 (lgrFree s)

/-- Raises W (R373, R383): RELEASE first, then the store, then the deferred pre-clear. A failed store leaves W. -/
def raiseW (d : Desc) (u : Nat) (s : State) : State :=
  let s1 := append 0x06 0 (u % 2 ^ 24) s
  let r := recStore recW (leBytes 4 u) s1
  if r.2 then complete d stEcc (releaseResult false r.1) 0 r.1
  else
    let s2 := duePreClear { r.1 with lgr := { r.1.lgr with w := u } }
    complete d stOk (releaseResult false s2) 0 s2

/-- LEDGER_RELEASE (R383). -/
def ledgerRelease (d : Desc) (s : State) : State :=
  reserved 4 d (fun s => afterRecall d (fun s =>
    let u := p32 d 0
    if u > s.lgr.signed ∨ u > lgrSealed s then fail d stBadLen 32 s
    else if u ≤ s.lgr.w then complete d stOk (releaseResult true s) 0 s
    else raiseW d u s) s) s

/-- LEDGER_RELEASE (R383). -/
def execLedgerRelease (t : Nat) (d : Desc) (s : State) : Host.Outcome State Fault Refusal :=
  descCommand t (asOp 0x5C d) ledgerRelease s

/-! ## Statements -/

/-- Blocks of a range. -/
def blocksOf (a b : Nat) : List Nat := (List.range (b + 1 - a)).map (a + ·)

/-- A SEALED_LATE record lies in a block. -/
def hasLate (q : Nat) (s : State) : Bool := (List.range 6).any (fun i => byteAt (8 + 8 * i) (blockBytes q s) == 0x02)

/-- Bytes 0 to 127 of a statement (Table 16.4). -/
def statementHead (kind extra a b : Nat) (chainOk : Bool) (nonce : Bytes) (s : State) : Bytes :=
  let qs := blocksOf a b
  leBytes 4 0xB1E50020
    ++ [byteOf kind, byteOf (lcState s), byteOf (b2n chainOk + 2 * b2n (qs.any (fun q => hasLate q s)) + extra), 0]
    ++ dsn ++ leBytes 4 a ++ leBytes 4 b ++ (blockBytes b s).drop 56
    ++ sha256 ((qs.map (fun q => blockBytes q s)).flatten) ++ leBytes 8 s.clk.wall.toNat ++ leBytes 8 (now s)
    ++ fit 16 nonce ++ leBytes 4 (tallyVal 248 s) ++ List.replicate 28 0

/-- A signed statement (R377). -/
def signStatement (h : Bytes) (s : State) : Bytes × State :=
  let r := signWith dakScalar (sha256 (dakLedgerPrefix ++ h)) (bump CRY_PKE_CNT.SIGN s)
  (h ++ r.1, r.2)

/-- A chain break is recorded (R376, R378, R382). -/
def chainBreak (q : Nat) (s : State) : State :=
  lgrEvt 6 q 0 (append 0x07 0 (q % 2 ^ 24) (bump LGR_CNT2.BREAK (setFld LGR_STATUS.BREAK 1 s)))

/-- SIGNED grows to the highest TO_SEQ (R378). -/
def noteSigned (q : Nat) (s : State) : State := { s with lgr := { s.lgr with signed := max s.lgr.signed q } }

/-- LEDGER_ATTEST waits for the Steep with its TO fixed (R320, R382). -/
def attestWait (d : Desc) (b : Nat) (s : State) : State :=
  let d' := { d with par := slice 0 4 d.par ++ leBytes 4 b ++ slice 8 16 d.par }
  { s with lcy := { s.lcy with steepWait := s.lcy.steepWait ++ [(d', now s + timeoutTicks d 100)] } }

/-- The signed attestation (R382). -/
def attestNow (d : Desc) (a b : Nat) (s : State) : State :=
  let r := signStatement (statementHead 2 0 a b true (slice 8 16 d.par) s) s
  writeDst d r.1 (fun s =>
    complete d stOk (leBytes 4 a ++ leBytes 4 b) 0 (append 0x05 0 (b % 2 ^ 24) (noteSigned b s))) r.2

/-- LEDGER_ATTEST (R382): the checks in order, and the wait for the Steep. -/
def ledgerAttest (d : Desc) (s : State) : State :=
  afterRecall d (fun s =>
    let s1 := if p32 d 4 = 0 then sealBlock padForced s else s
    let a := p32 d 0
    let b := if p32 d 4 = 0 then lgrTail s1 else p32 d 4
    if a < s1.lgr.head ∨ a > b ∨ b > lgrSealed s1 ∨ a = 0 ∨ b - a ≥ 65536 then fail d stBadLen 32 s1
    else match firstBad (blocksOf a b) s1 with
      | some q => complete d stMacFail (List.replicate 8 0 ++ leBytes 4 q) 0 (chainBreak q s1)
      | none =>
        match drawFails s1 with
        | some st => if st = stHealth then fail d st 0 s1 else attestWait d b s1
        | none => attestNow d a b s1) s

/-- LEDGER_ATTEST (R382). -/
def execLedgerAttest (t : Nat) (d : Desc) (s : State) : Host.Outcome State Fault Refusal :=
  descCommand t (asOp 0x5B d) ledgerAttest s

/-- Makes and stores a checkpoint over blocks `a` to `b` in ring position `k` (R378); `extra` is the flag of a final
one. The answer says whether its statement was stored. -/
def makeCheckpoint (k extra a b : Nat) (s : State) : State × Bool :=
  let bad := firstBad (blocksOf a b) s
  let r := signStatement (statementHead 1 extra a b bad.isNone [] s) s
  let w := recStore (recStatement k) r.1 r.2
  if w.2 then (w.1, false)
  else
    let s1 := setFld LGR_CKPT.IDX (k % 256) (setFld LGR_CKPT.COUNT ((fld LGR_CKPT.COUNT w.1 + 1) % 2 ^ 24) (noteSigned b w.1))
    let s2 := if bad.isSome then bump LGR_CNT2.CKPT_FAIL s1 else s1
    let s3 := append 0x04 0 (k % 256 + 256 * b2n bad.isSome) s2
    let s4 := match bad with | some q => chainBreak q s3 | none => s3
    (lgrEvt 1 b 0 s4, true)

/-- Drover is in the middle of a firmware-class operation (R378). -/
def droverBusy (s : State) : Bool :=
  !s.lcy.steepWait.isEmpty || s.flk.learn.isSome || s.flk.pend.isSome || s.flk.stage.isSome || s.lcy.pendAct.isSome

/-- The first pending checkpoint is made (R378). -/
def takeCheckpoint (s : State) : State :=
  match s.lgr.ckpt with
  | [] => s
  | k :: ks =>
    let r := makeCheckpoint k 0 (max (4096 * k + 1) s.lgr.head) (4096 * k + 4096) s
    if r.2 then
      let l := ks ++ r.1.lgr.ckpt.drop (ks.length + 1)
      setFlag LGR_STATUS.CKPT_PEND (!l.isEmpty) { r.1 with lgr := { r.1.lgr with ckpt := l } }
    else r.1

/-- LEDGER_CHECKPOINT (R378): Drover runs, is between operations, and the generator is ready. -/
def execLedgerCheckpoint (t : Nat) (s : State) : Host.Outcome State Fault Refusal :=
  command t (fun s => onlyIf (s.nv.ledgerReady && s.lcy.drover == .ready && !droverBusy s && ckptFirst s) takeCheckpoint s) s

/-! ## LGR_CTL -/

/-- A write to LGR_CTL (R9, R387). -/
def writeLgrCtl (v : Word) (s : State) : State :=
  let s1 := wrW1c LGR_CTL.COMMIT_ERR v (wrRw LGR_STATUS.ERR_RANGE LGR_CTL.SEAL_S (inRange 1 3600) v
    (wrRw LGR_STATUS.ERR_RANGE LGR_CTL.FULL_WARN (inRange 50 99) v (wrRw LGR_STATUS.ERR_RANGE LGR_CTL.EVT anyVal v s)))
  if LGR_CTL.COMMIT.of v = 1 then
    commitSetup recLgr LGR_CTL.VALID LGR_CTL.COMMIT_ERR
      ([byteOf (fld LGR_CTL.EVT s1), byteOf (fld LGR_CTL.FULL_WARN s1)] ++ leBytes 2 (fld LGR_CTL.SEAL_S s1)) s1
  else s1

/-- Loads the stored set-up (R387). -/
def loadLgr (s : State) : State :=
  match recRead recLgr s with
  | some b => setFld LGR_CTL.VALID 1 (setFld LGR_CTL.EVT (byteAt 0 b) (setFld LGR_CTL.FULL_WARN (byteAt 1 b)
      (setFld LGR_CTL.SEAL_S (leAt 2 2 b) s)))
  | none => setFld LGR_CTL.VALID 0 (setFld LGR_CTL.EVT 1 (setFld LGR_CTL.FULL_WARN 90 (setFld LGR_CTL.SEAL_S 60 s)))

end Sys2Proof.Machine
end

