-- ==== Sys2Proof/Machine/Rng.lean ====
section
/-! DEFINITION. Machine/Rng.lean: the random number generator (R324 to R338), but for the pass of a Steep, which also
serves operations of other units. -/
namespace Sys2Proof.Machine

/-- Notes what the noise source has delivered (R326, R336). -/
def noteObs (o : RngObs) (s : State) : State :=
  setFld RNG_EST2.APT_MAX (min o.aptMax 1024) { s with rng := { s.rng with tested := o.tested, rctMax := o.rctMax } }

/-- The generator's work, seed and pool are gone, and a Steep starts unless it is latched (R329, R330). -/
def startSteep (s : State) : State :=
  if rngState s = 4 then s
  else
    setFld RNG_STATUS.STATE 1 (setFld RNG_STATUS.POOL_FULL 0 (setFld RNG_STATUS.RESEED_DUE 0
      (setFld RNG_REQ_CNT.SINCE_RESEED 0 s)))

/-- RNG_GET result bytes (Table 14.4). -/
def getResult (d : Desc) (outLen : Nat) (reseeded : Bool) (since : Nat) (s : State) : Bytes :=
  leBytes 4 outLen ++ [byteOf (rngState s),
    byteOf (b2n reseeded + 2 * b2n (bit 0 (p8 d 0)) + 4 * b2n (bit 1 (p8 d 0)) + 8 * b2n (flag RNG_STATUS.TEST_ACTIVE s)),
    0, 0] ++ leBytes 4 (fld RNG_RESEED_CNT.RESEEDS s) ++ leBytes 2 (sat 16 ((now s - since) / 3840))

/-- A request ends without output (R331, R335). -/
def getFail (st : Nat) (w : Desc × Nat) (s : State) : State := complete w.1 st (getResult w.1 0 false w.2 s) 0 s

/-- The DRBG reseeds from the pool (R334). -/
def reseed (s : State) : State :=
  setFld RNG_STATUS.POOL_FULL 0 (setFld RNG_STATUS.RESEED_DUE 0 (setFld RNG_REQ_CNT.SINCE_RESEED 0
    (bump RNG_RESEED_CNT.RESEEDS s)))

/-- A request has to wait for the pool: prediction resistance with an empty pool, or a seed that is spent (R334,
R335). -/
def needsPool (d : Desc) (s : State) : Bool :=
  (bit 0 (p8 d 0) || fld RNG_REQ_CNT.SINCE_RESEED s ≥ 69632) && !flag RNG_STATUS.POOL_FULL s

/-- Raw samples of the test source: the pattern repeated, bit 0 first, from the sample that comes next (R337). The
phase is a free value. -/
def patternBytes (phase n : Nat) (s : State) : Bytes :=
  let pat := fld RNG_TEST_PAT.PAT s
  (List.range n).map (fun i => byteOf
    ((List.range 8).foldl (fun b j => b + 2 ^ j * b2n (bit ((phase + 8 * i + j) % 32) pat)) 0))

/-- Output of a request: DRBG output or raw samples, whose values are free; the test pattern in its place (R335,
R337). -/
def getOutput (d : Desc) (s : State) : Bytes × State :=
  if bit 1 (p8 d 0) ∧ flag RNG_STATUS.TEST_ACTIVE s then
    (patternBytes (leNat (freeBytes 1 s)) d.len s, tookFree 1 s)
  else (freeBytes d.len s, tookFree d.len s)

/-- Generates a request's output and writes it (R335). -/
def serveGet (w : Desc × Nat) (s : State) : State :=
  let d := w.1
  let pr := bit 0 (p8 d 0) || fld RNG_REQ_CNT.SINCE_RESEED s ≥ 69632
  let s1 := if pr then reseed s else s
  let r := getOutput d (countGenerate s1)
  writeDst d r.1 (fun s => complete d stOk (getResult d d.len pr w.2 s) 0 s) r.2

/-- Serves waiting requests in arrival order; those that need the pool wait on (R334, R335). -/
def serveList : List (Desc × Nat) → State → State
  | [], s => s
  | w :: ws, s =>
    if needsPool w.1 s then serveList ws { s with rng := { s.rng with wait := s.rng.wait ++ [w] } }
    else serveList ws (serveGet w s)

/-- Serves what can be served now. -/
def serveWaiting (s : State) : State := serveList s.rng.wait { s with rng := { s.rng with wait := [] } }

/-- RNG_GET (R335). -/
def getUnit (d : Desc) (s : State) : State :=
  if p8 d 0 > 3 then fail d stBadLen 32 s
  else
    reserved 1 d (fun s =>
      if d.len = 0 then complete d stOk (getResult d 0 false (now s) s) 0 s
      else if rngState s = 4 then getFail stHealth (d, now s) s
      else if rngState s = 2 ∧ needsPool d s = false then serveGet (d, now s) s
      else { s with rng := { s.rng with wait := s.rng.wait ++ [(d, now s)] } }) s

/-- RNG_GET (R335). -/
def execRngGet (t : Nat) (d : Desc) (s : State) : Host.Outcome State Fault Refusal :=
  descCommand t (asOp 0x48 d) getUnit s

/-- The 64-byte report of RNG_STAT (Table 14.5). -/
def rngReport (s : State) : Bytes :=
  [byteOf (rngState s), byteOf (fld RNG_STATUS.FAILS s)] ++ leBytes 2 (fld RNG_EST0.BIAS s)
    ++ leBytes 2 (fld RNG_EST0.C1 s) ++ leBytes 2 (fld RNG_EST1.C2 s) ++ leBytes 2 (fld RNG_EST1.C3 s)
    ++ leBytes 2 (fld RNG_EST2.C4 s) ++ [byteOf (sat 8 s.rng.rctMax), byteOf (fld RNG_STATUS.LAST_FAIL s)]
    ++ leBytes 2 (fld RNG_EST2.APT_MAX s)
    ++ [byteOf (fld RNG_CNT0.RCT_FAIL s), byteOf (fld RNG_CNT0.APT_FAIL s), byteOf (fld RNG_CNT0.KAT_FAIL s),
        byteOf (fld RNG_CNT0.STEEPS s)]
    ++ leBytes 4 (fld RNG_RESEED_CNT.RESEEDS s) ++ leBytes 4 (fld RNG_REQ_CNT.SINCE_RESEED s)
    ++ leBytes 8 s.rng.tested ++ leBytes 8 s.rng.estTb ++ List.replicate 20 0

/-- RNG_STAT (R336), with the source's counts at this instant. -/
def statUnit (o : RngObs) (d : Desc) (s : State) : State :=
  reserved 0 d (fun s =>
    let s1 := noteObs o s
    let r := rngReport s1
    writeDst d (r.take d.len) (fun s => complete d stOk (r.take 14) 0 s) s1) s

/-- RNG_STAT (R336). -/
def execRngStat (t : Nat) (d : Desc) (o : RngObs) (s : State) : Host.Outcome State Fault Refusal :=
  descCommand t (asOp 0x49 d) (statUnit o) s

/-- Every waiting request completes with HEALTH_FAIL, those that wait for the Steep too (R320, R331). -/
def failWaiters (s : State) : State :=
  let s1 := s.rng.wait.foldl (fun s w => getFail stHealth w s) { s with rng := { s.rng with wait := [] } }
  s1.lcy.steepWait.foldl (fun s w => releaseSlots w.1 (fail w.1 stHealth 0 s))
    { s1 with lcy := { s1.lcy with steepWait := [] } }

/-- The RNG event (Table 14.3). -/
def rngEvent (kind test value : Nat) (s : State) : State :=
  post 0x0D stHealth ([byteOf kind, byteOf test, byteOf (fld RNG_STATUS.FAILS s), byteOf (rngState s)]
    ++ leBytes 2 (if test = 3 then 0 else value)) s

/-- A health failure (R331, R332). -/
def healthFail (test value : Nat) (o : RngObs) (s : State) : State :=
  let s0 := noteObs o s
  let cnt := if test = 1 then RNG_CNT0.RCT_FAIL else if test = 2 then RNG_CNT0.APT_FAIL else RNG_CNT0.KAT_FAIL
  let fails := fld RNG_STATUS.FAILS s0 + 1
  let s1 := setFld RNG_STATUS.FAILS (min fails 3) (setFld RNG_STATUS.LAST_FAIL test (bump cnt s0))
  let s2 := setFld RNG_STATUS.STATE (if fails ≥ 3 then 4 else 3)
    (setFld RNG_STATUS.POOL_FULL 0 (setFld RNG_STATUS.RESEED_DUE 0 s1))
  let s3 := failWaiters s2
  let s4 := rngEvent 1 test value (append 0x48 test (min fails 3) s3)
  if fails ≥ 3 then rngEvent 2 test value (append 0x49 0 0 (setFld CRY_STATUS.MASK_DEGRADED 1 s4)) else s4

/-- A value at which a test fails (R326): a run of 41 samples, a count of 800 in a window of 1024; a known-answer test has
none. -/
def testFails (test value : Nat) : Bool :=
  (test == 1 && value == 41) || (test == 2 && value == 800) || test == 3

/-- RNG_HEALTH_FAIL (R326, R331): the source runs in Steep, Ready and Resteep. -/
def execRngHealthFail (t test value : Nat) (o : RngObs) (s : State) : Host.Outcome State Fault Refusal :=
  command t (fun s => onlyIf (1 ≤ rngState s && rngState s ≤ 3 && testFails test value) (healthFail test value o) s) s

/-- RNG_FAILS_CLEAR (R332): 2^22 samples have passed after a passed Steep. -/
def execRngFailsClear (t : Nat) (o : RngObs) (s : State) : Host.Outcome State Fault Refusal :=
  command t (fun s => onlyIf (rngState s == 2 && o.tested ≥ 2 ^ 22)
    (fun s => setFld RNG_STATUS.FAILS 0 (noteObs o s)) s) s

/-- RNG_POOL_REFILL (R325): the pool is full again, and requests that wait for it are served (R335). -/
def execRngPoolRefill (t : Nat) (s : State) : Host.Outcome State Fault Refusal :=
  command t (fun s => onlyIf (rngState s == 2 && !flag RNG_STATUS.POOL_FULL s)
    (fun s => serveWaiting (setFld RNG_STATUS.POOL_FULL 1 s)) s) s

/-- RNG_RESEED (R334): due, and the pool is full. -/
def execRngReseed (t : Nat) (s : State) : Host.Outcome State Fault Refusal :=
  command t (fun s => onlyIf (rngState s == 2 && flag RNG_STATUS.POOL_FULL s && flag RNG_STATUS.RESEED_DUE s)
    (fun s => serveWaiting (reseed s)) s) s

/-- RNG_ESTIMATOR_WINDOW (R327). -/
def execRngEstimatorWindow (t : Nat) (bias c1 c2 c3 c4 : Int) (o : RngObs) (s : State) :
    Host.Outcome State Fault Refusal :=
  command t (fun s => onlyIf (flag RNG_CTL.EST_EN s && 1 ≤ rngState s && rngState s ≤ 3) (fun s =>
    let s1 := noteObs o { s with rng := { s.rng with estTb := now s } }
    setFld RNG_EST0.BIAS (encSigned 16 bias) (setFld RNG_EST0.C1 (encSigned 16 c1)
      (setFld RNG_EST1.C2 (encSigned 16 c2) (setFld RNG_EST1.C3 (encSigned 16 c3)
        (setFld RNG_EST2.C4 (encSigned 16 c4) s1))))) s) s

/-- RNG_WAIT_TIMEOUT (R335): requests whose TIMEOUT has ended in Steep or Resteep. -/
def rngTimeout (s : State) : State :=
  let late (w : Desc × Nat) : Bool := w.2 + timeoutTicks w.1 10 ≤ now s
  let st := if rngState s = 3 then stHealth else stNotReady
  (s.rng.wait.filter late).foldl (fun s w => getFail st w s)
    { s with rng := { s.rng with wait := s.rng.wait.filter (fun w => !late w) } }

/-- RNG_WAIT_TIMEOUT (R335). -/
def execRngWaitTimeout (t : Nat) (s : State) : Host.Outcome State Fault Refusal :=
  command t (fun s => onlyIf (rngState s != 2) rngTimeout s) s

end Sys2Proof.Machine
end

