-- ==== Sys2Proof/Machine/Lifecycle.lean ====
section
/-! DEFINITION. Machine/Lifecycle.lean: firmware banks (R416 to R420), the lifecycle (R407 to R415), and the Steep's end
(R330, R337), which serves what waited for it. -/
namespace Sys2Proof.Machine

/-! ## Firmware banks -/

/-- NV address of bank `b` (Table 15.1). -/
def bankAddr (b : Nat) : Nat := 0x200000 + 0x100000 * b

/-- The vendor's firmware key (R416). -/
def fwKey : Bytes := (List.range 32).map Config.fwKeyByte

/-- The firmware verification key of Yiltex (R416). -/
def yiltexKey : Bytes := (List.range 64).map Config.yiltexKeyByte

/-- A bank record: valid, VERSION, IMG_LEN (log entry 11). -/
def bankBytes (valid : Bool) (ver len : Nat) : Bytes := [byteOf (b2n valid), 0, 0, 0] ++ leBytes 4 ver ++ leBytes 4 len

/-- The bank record marks it valid (R417). -/
def bankValid (b : Nat) (s : State) : Bool := match recRead (recBank b) s with | some r => byteAt 0 r == 1 | none => false

/-- VERSION of a valid bank, 0 for another (Table 18.14). -/
def bankVersion (b : Nat) (s : State) : Nat := if bankValid b s then leAt 4 4 ((recRead (recBank b) s).getD []) else 0

/-- MINVER (R417). -/
def minVer (s : State) : Nat := tallyVal 248 s

/-- A bank is bootable (R417). -/
def bootable (b : Nat) (s : State) : Bool := bankValid b s && decide (minVer s ≤ bankVersion b s)

/-- Drover runs the bank. -/
def runsBank (b : Nat) (s : State) : Bool := s.lcy.drover != .noFw && s.lcy.running == b

/-- IMG_LEN of a header. -/
def imgLen (h : Bytes) : Nat := leAt 8 4 h

/-- MAGIC, IMG_LEN and the reserved bytes of a header (Table 18.7). -/
def headerForm (h : Bytes) : Bool :=
  leAt 0 4 h == 0xB1E50030 && decide (16 ≤ imgLen h) && decide (imgLen h ≤ 1048320) && imgLen h % 16 == 0
    && allZero (slice 24 8 h) && allZero (slice 128 112 h)

/-- The vendor's signature over a header (R416). -/
def headerSig (h : Bytes) : Bool :=
  ecdsaVerify yiltexKey (sha256 ([0x42, 0x4C, 0x56, 0x46, 0x57, 0x49, 0x4D, 0x31] ++ h.take 64)) (slice 64 64 h)

/-- Checks 2 to 4 of FW_STAGE (R418). -/
def headerBad (h : Bytes) (s : State) : Option (Nat × Nat) :=
  if headerForm h = false then some (stBadLen, 0xFF)
  else if headerSig h = false then some (stMacFail, 0)
  else if leAt 4 4 h < minVer s then some (stRollback, 0)
  else none

/-- The plaintext payload of a bank that holds header `h` (R416). -/
def bankPlain (b : Nat) (h : Bytes) (s : State) : Bytes :=
  gcmCrypt fwKey (slice 12 12 h) (nvPeek (bankAddr b + 256) (imgLen h) s)

/-- Checks 6 and 7 of FW_STAGE (R418). -/
def imageBad (b : Nat) (h : Bytes) (s : State) : Option (Nat × Nat) :=
  if gcmTag fwKey (slice 12 12 h) (h.take 128) (nvPeek (bankAddr b + 256) (imgLen h) s) ≠ slice 240 16 h then
    some (stTagFail, 0)
  else if sha256 (bankPlain b h s) ≠ slice 32 32 h then some (stMacFail, 0)
  else none

/-- Marks a bank invalid (R417, R418). -/
def invalidateBank (b : Nat) (s : State) : State :=
  if bankValid b s then (recStore (recBank b) (bankBytes false 0 0) s).1 else s

/-- Image bytes staged so far in a bank. -/
def stagedCount (b : Nat) (s : State) : Nat :=
  match s.lcy.stage with
  | some g => if g.bank = b then g.count else 0
  | none => 0

/-- Sets the staging in progress. -/
def setStage (g : Option Stage) (s : State) : State := { s with lcy := { s.lcy with stage := g } }

/-- A failed check leaves the bank invalid, and staging restarts at OFFSET 0 (R418). -/
def stageFails (d : Desc) (st det : Nat) (s : State) : State :=
  fail d st det (setStage none (invalidateBank d.target s))

/-- Result bytes of FW_STAGE (Table 18.8). -/
def stageResult (n : Nat) (h : Bytes) (valid : Bool) : Bytes := leBytes 4 n ++ leBytes 4 (leAt 4 4 h) ++ [byteOf (b2n valid)]

/-- A chunk that has passed checks 1 to 5 is written; the final one is checked and makes the bank valid (R418). -/
def stageChunk (d : Desc) (h data : Bytes) (s : State) : State :=
  let b := d.target
  let n := p32 d 0 + d.len
  let r := nvStore (bankAddr b + p32 d 0) data s
  match r.2 with
  | some _ => stageFails d stEcc 0 r.1
  | none =>
    if bit 0 (p8 d 4) = false then complete d stOk (stageResult n h false) 0 (setStage (some ⟨b, n⟩) r.1)
    else match imageBad b h r.1 with
      | some (st, det) => stageFails d st det (if st = stTagFail then bump CRY_CNT0.TAG_FAIL r.1 else r.1)
      | none =>
        let w := recStore (recBank b) (bankBytes true (leAt 4 4 h) (imgLen h)) r.1
        if w.2 then stageFails d stEcc 0 w.1
        else
          complete d stOk (stageResult n h (bootable b w.1)) 0
            (append 0x51 b (leAt 4 4 h % 2 ^ 24) (setStage none w.1))

/-- FW_STAGE's checks 1 to 5 on a chunk (R418). -/
def stageChecks (d : Desc) (data : Bytes) (s : State) : State :=
  let b := d.target
  let off := p32 d 0
  if off ≠ 0 ∧ off ≠ stagedCount b s then stageFails d stBadLen 32 s
  else
    let s1 := if off = 0 then setStage none (invalidateBank b s) else s
    let h := if off = 0 then data.take 256 else nvPeek (bankAddr b) 256 s1
    let s0 := if off = 0 && headerForm h then countVerify (headerSig h) s1 else s1
    match (if off = 0 then headerBad h s0 else none) with
    | some (st, det) => stageFails d st det s0
    | none =>
      let total := 256 + imgLen h
      if (bit 0 (p8 d 4) = true ∧ off + d.len ≠ total) ∨ off + d.len > total then stageFails d stBadLen 36 s0
      else stageChunk d h data s0

/-- FW_STAGE (R418). -/
def fwStage (d : Desc) (s : State) : State :=
  if p8 d 4 > 1 then fail d stBadLen 36 s
  else reserved 5 d (fun s =>
    if runsBank d.target s || s.lcy.trial.isSome then fail d stBadHandle 4 s
    else if p32 d 0 = 0 ∧ d.len < 256 then fail d stBadLen 8 s
    else readSrc d d.len (stageChecks d) s) s

/-- FW_STAGE (R418). -/
def execFwStage (t : Nat) (d : Desc) (s : State) : Host.Outcome State Fault Refusal :=
  descCommand t (asOp 0x68 d) fwStage s

/-! ## Booting Drover -/

/-- The monitor's line is dropped and its prompt printed again (R422). -/
def dropLine (s : State) : State :=
  { s with mon := { s.mon with desc := none, out := if s.mon.desc.isSome then "bv> " :: s.mon.out else s.mon.out } }

/-- A Drover reset: the completions of its port are discarded, and the monitor drops its line (R18, R422). -/
def cutDrover (s : State) : State :=
  dropLine { s with hif := { s.hif with
    flight := s.hif.flight.map (fun (f : Flight) => if isHost f.d then f else { f with discard := true }) } }

/-- Drover's boot ROM starts on bank `b` (R417). -/
def bootBank (b : Nat) (s : State) : State :=
  let s1 := cutDrover s
  { s1 with lcy := { s1.lcy with running := b, drover := .booting, progress := now s1 } }

/-- The selected bank, else the other, else none is booted (R417). -/
def chooseBoot (s : State) : State :=
  let b := s.lcy.sel
  if bootable b s then bootBank b s
  else if bootable (1 - b) s then bootBank (1 - b) s
  else
    let s1 := cutDrover s
    { s1 with lcy := { s1.lcy with drover := .noFw } }

/-- Result bytes of FW_ACTIVATE (R419). -/
def activateResult (s : State) : Bytes :=
  [byteOf s.lcy.running, 0, 0, 0] ++ leBytes 4 (bankVersion s.lcy.running s) ++ leBytes 6 (minVer s)

/-- Sets the trial and the FW_ACTIVATE that waits. -/
def setTrial (x : Option (Nat × Nat)) (p : Option Desc) (s : State) : State :=
  { s with lcy := { s.lcy with trial := x, pendAct := p } }

/-- TRIAL (Table 18.9). -/
def fwTrial (d : Desc) (s : State) : State :=
  reserved 1 d (fun s =>
    if bootable d.target s && !runsBank d.target s && s.lcy.trial.isNone then
      bootBank d.target (setTrial (some (s.lcy.running, now s)) (some d) s)
    else fail d stBadHandle 4 s) s

/-- The bank is the one on trial (Table 18.9). -/
def onTrial (b : Nat) (s : State) : Bool := s.lcy.trial.isSome && s.lcy.running == b

/-- Stores the bank selection (R419). -/
def storeBankSel (b : Nat) (s : State) : State × Bool :=
  let r := recStore recSel [byteOf b] s
  if r.2 then (r.1, true) else ({ r.1 with lcy := { r.1.lcy with sel := b } }, false)

/-- CONFIRM (R419, R420): the selection, then MINVER. A failed write leaves the trial in force. -/
def fwConfirm (d : Desc) (s : State) : State :=
  if p8 d 1 > 1 then fail d stBadLen 33 s
  else reserved 2 d (fun s =>
    if onTrial d.target s = false then fail d stBadHandle 4 s
    else
      let r := storeBankSel d.target s
      if r.2 then fail d stEcc 0 r.1
      else
        let v := bankVersion d.target r.1
        let raise := p8 d 1 == 0 && decide (minVer r.1 < v)
        let c := if raise then tallyStep 248 (v - minVer r.1) r.1 else (r.1, .done v 0 false false)
        match c.2 with
        | .done _ _ _ _ =>
          let s1 := append 0x52 d.target (v % 2 ^ 24) (setTrial none none c.1)
          complete d stOk (activateResult s1) 0 s1
        | _ => fail d stEcc 0 c.1) s

/-- REVERT (Table 18.9). -/
def fwRevert (d : Desc) (s : State) : State :=
  reserved 1 d (fun s =>
    match s.lcy.trial with
    | some (prev, _) =>
      if onTrial d.target s then bootBank prev (setTrial none (some d) s) else fail d stBadHandle 4 s
    | none => fail d stBadHandle 4 s) s

/-- FW_ACTIVATE_TRIAL (R419, MODE 0). -/
def execFwActivateTrial (t : Nat) (d : Desc) (s : State) : Host.Outcome State Fault Refusal :=
  descCommand t (asMode 0x69 0 d) fwTrial s
/-- FW_ACTIVATE_CONFIRM (R419, MODE 1). -/
def execFwActivateConfirm (t : Nat) (d : Desc) (s : State) : Host.Outcome State Fault Refusal :=
  descCommand t (asMode 0x69 1 d) fwConfirm s
/-- FW_ACTIVATE_REVERT (R419, MODE 2). -/
def execFwActivateRevert (t : Nat) (d : Desc) (s : State) : Host.Outcome State Fault Refusal :=
  descCommand t (asMode 0x69 2 d) fwRevert s

/-- The FW_ACTIVATE that waits completes with ISLAND_RESET (R420). -/
def dropAct (s : State) : State :=
  match s.lcy.pendAct with
  | some d => fail d stIslandReset 0 { s with lcy := { s.lcy with pendAct := none } }
  | none => s

/-- The device ends a trial by itself (R420). -/
def autoRevert (s : State) : State :=
  match s.lcy.trial with
  | none => s
  | some (prev, _) =>
    let s1 := dropAct (bump LCY_CNT.REVERTS s)
    bootBank prev (append 0x52 prev (bankVersion prev s1 % 2 ^ 24) (setTrial none none s1))

/-- Statements of the ring: KIND, FLAGS, TO_SEQ. -/
def ringStatements (s : State) : List (Nat × Nat × Nat) :=
  (List.range 256).filterMap (fun i => (recRead (recStatement i) s).map (fun b => (byteAt 4 b, byteAt 6 b, leAt 20 4 b)))

/-- Highest TO_SEQ of the checkpoints stored in the ring (R378). -/
def lastCkptTo (s : State) : Nat := ((ringStatements s).filter (fun x => x.1 == 1)).foldl (fun m x => max m x.2.2) 0

/-- A final statement is stored (R378). -/
def finalStored (s : State) : Bool := (ringStatements s).any (fun x => x.1 == 1 && bit 2 x.2.1)

/-- The checkpoints that are pending, worked out from the ledger (R378). -/
def workOutCkpts (s : State) : State :=
  let a := lastCkptTo s / 4096
  let n := lgrSealed s / 4096 - a
  let l := if isRetired s then [] else (List.range n).map (a + ·)
  setFlag LGR_STATUS.CKPT_PEND (!l.isEmpty || s.lcy.retiring) { s with lgr := { s.lgr with ckpt := l } }

/-- DROVER_BOOT (R417, R419): the boot ROM decrypts the bank and checks DIGEST; a mismatch makes the bank invalid. -/
def droverBoot (s : State) : State :=
  let b := s.lcy.running
  let h := nvPeek (bankAddr b) 256 s
  if bankValid b s && decide (sha256 (bankPlain b h s) = slice 32 32 h) then
    let waits := s.lcy.pendAct.isSome
    workOutCkpts { s with lcy := { s.lcy with
      drover := if waits then .loaded else .ready
      trial := s.lcy.trial.map (fun x => (x.1, now s))
      progress := now s } }
  else
    let s1 := append 0x4D Island.drover.bit 0 (invalidateBank b s)
    if s1.lcy.trial.isSome then autoRevert s1 else chooseBoot (dropAct s1)

/-- DROVER_BOOT (R417). -/
def execDroverBoot (t : Nat) (s : State) : Host.Outcome State Fault Refusal :=
  command t (fun s => onlyIf (s.lcy.drover == .booting) droverBoot s) s

/-- FW_READY (R419): the activation's descriptor completes, and it is recorded. -/
def fwReady (s : State) : State :=
  let s1 := { s with lcy := { s.lcy with drover := .ready, progress := now s, pendAct := none } }
  match s.lcy.pendAct with
  | some d =>
    let b := s.lcy.running
    complete d stOk (activateResult s1) 0 (append 0x52 b (bankVersion b s1 % 2 ^ 24) s1)
  | none => s1

/-- FW_READY (R419). -/
def execFwReady (t : Nat) (s : State) : Host.Outcome State Fault Refusal :=
  command t (fun s => onlyIf (s.lcy.drover == .loaded) fwReady s) s

/-- FW_TRIAL_TIMEOUT (R420): no report within 100 ms of the boot. -/
def execFwTrialTimeout (t : Nat) (s : State) : Host.Outcome State Fault Refusal :=
  command t (fun s =>
    match s.lcy.trial with
    | some (_, x) => onlyIf (s.lcy.drover != .ready && decide (x + msTicks 100 ≤ now s)) autoRevert s
    | none => s) s

/-! ## The generator and its waiters -/

/-- The RNG island is reset (R100, R329, R337): its requests complete with ISLAND_RESET, and unless it is latched off it
keeps nothing but its set-up and starts a Steep. -/
def resetRng (s : State) : State :=
  let s1 := s.rng.wait.foldl (fun s w => getFail stIslandReset w s) { s with rng := { s.rng with wait := [] } }
  if rngState s1 = 4 then s1
  else
    startSteep (setFld RNG_STATUS.FAILS 0 (clearRegList [RNG_EST0.reg, RNG_EST1.reg, RNG_EST2.reg]
      { s1 with rng := { s1.rng with tested := 0, rctMax := 0, estTb := 0 } }))

/-- LIFECYCLE result bytes (Table 18.5). -/
def svcLeft (s : State) : Nat := match s.lcy.service with | some (e, _) => (e - now s) / 38400000 | none => 0

/-- LIFECYCLE result bytes (Table 18.5). -/
def lcyResult (prev : Nat) (s : State) : Bytes :=
  [byteOf (lcState s), byteOf prev] ++ leBytes 6 (tallyVal 249 s) ++ leBytes 4 (svcLeft s)

/-- TO is 0 in every operation but ADVANCE (Table 18.5). -/
def lcyForm (d : Desc) (k : State → State) (s : State) : State := if p8 d 1 ≠ 0 then fail d stBadLen 33 s else reserved 2 d k s

/-- CHALLENGE with the generator ready (R412, R414). -/
def challengeNow (d : Desc) (s : State) : State :=
  let r := drawBytes 16 s
  writeDst d r.1 (fun s =>
    let s1 := { s with lcy := { s.lcy with nonce := some (r.1, now s) } }
    complete d stOk (lcyResult (lcState s) s1) 0 s1) r.2

/-- CHALLENGE (R320, R414). -/
def challenge (d : Desc) (s : State) : State :=
  lcyForm d (fun s =>
    match drawFails s with
    | none => challengeNow d s
    | some st =>
      if st = stHealth then fail d st 0 s
      else { s with lcy := { s.lcy with steepWait := s.lcy.steepWait ++ [(d, now s + timeoutTicks d 100)] } }) s

/-- LIFECYCLE_CHALLENGE (R414, OP 0). -/
def execLifecycleChallenge (t : Nat) (d : Desc) (s : State) : Host.Outcome State Fault Refusal :=
  descCommand t (asMode 0x6A 0 d) challenge s

/-! ## Transitions -/

/-- What a signed request signs (R412). -/
def signedMsg (nonce : Bytes) (op to_ : Nat) (extra : Bytes) (s : State) : Bytes :=
  [0x42, 0x4C, 0x56, 0x4C, 0x43, 0x59, 0x30, 0x31] ++ dsn ++ nonce ++ [byteOf op, byteOf to_] ++ leBytes 6 (tallyVal 249 s)
    ++ extra

/-- The CHALLENGE nonce that is valid now (R412). -/
def validNonce (s : State) : Option Bytes :=
  match s.lcy.nonce with
  | some (n, x) => if now s < x + secTicks 300 then some n else none
  | none => none

/-- A signed request goes on when its signature verifies; it uses up the nonce in any case (R412). -/
def signedRequest (d : Desc) (op to_ : Nat) (extra sig : Bytes) (k : State → State) (s : State) : State :=
  let s1 := { s with lcy := { s.lcy with nonce := none } }
  match validNonce s, fleetKey s with
  | some n, some key =>
    let ok := ecdsaVerify key (sha256 (signedMsg n op to_ extra s)) sig
    if ok then k (countVerify ok s1) else fail d stMacFail 0 (bump LCY_CNT.AUTH_FAIL (countVerify ok s1))
  | _, _ => fail d stMacFail 0 (bump LCY_CNT.AUTH_FAIL s1)

/-- A monitor unlock ends (R425). -/
def endUnlock (s : State) : State := { s with mon := { s.mon with unlocked := false } }

/-- The LIFECYCLE record of a change from `prev` to `st` (Table 16.2). -/
def lcyRecord (st prev : Nat) (s : State) : State := endUnlock (append 0x50 st prev s)

/-- SVC_MAX of an entry into Service, in ticks. -/
def svcTicks (m : Nat) : Nat := secTicks (60 * m)

/-- Service is entered (R409). -/
def enterService (s : State) : State :=
  let m := fld LCY_CTL.SVC_MAX s
  lcyRecord 3 2 (bump LCY_CNT.SVC { s with lcy := { s.lcy with service := some (now s + svcTicks m, m) } })

/-- The SVC_MAX time starts again (R414). -/
def restartService (s : State) : State :=
  match s.lcy.service with
  | some (_, m) => { s with lcy := { s.lcy with service := some (now s + svcTicks m, m) } }
  | none => s

/-- Service ends, and the device runs as Field (R409). -/
def endService (s : State) : State :=
  if s.lcy.service.isSome then lcyRecord 2 3 { s with lcy := { s.lcy with service := none } } else s

/-- The test source is cleared and the RNG island reset, at a transition out of Blank (R337). -/
def clearTestSrc (s : State) : State := setFld RNG_CTL.TEST_SRC 0 (setFld RNG_STATUS.TEST_ACTIVE 0 s)

/-- Every block header and the statement ring are cleared; the ledger restarts at block 1 (R385). -/
def clearLedger (s : State) : State :=
  let s0 := drainAll s
  let head (a : Nat) : Bool := decide (0x400000 ≤ a) && decide (a < ledgerEnd s.part) && decide (a % 64 < 8)
  { (recStore recW (leBytes 4 0) s0).1 with
    nv := { (recStore recW (leBytes 4 0) s0).1.nv with
      mem := s0.nv.mem.filter (fun c => !head c.1)
      bad := s0.nv.bad.filter (fun a => !head a)
      soft := s0.nv.soft.filter (fun a => !head a)
      recs := (recStore recW (leBytes 4 0) s0).1.nv.recs.filter (fun r => r.1 < 0x0E00 || 0x0F00 ≤ r.1) }
    lgr := { s0.lgr with next := 1, openRecs := none, marks := [], head := 0, w := 0, signed := 0, preclear := false, ckpt := [] } }

/-- Counter 249 is raised by `n`, the commit point of a transition (R411). -/
def raiseState (d : Desc) (n prev : Nat) (k : State → State) (s : State) : State :=
  let r := tallyStep 249 n s
  match r.2 with
  | .done _ _ _ _ => k r.1
  | _ => complete d stEcc (lcyResult prev r.1) 0 r.1

/-- A change that is done completes (Table 18.5). -/
def lcyDone (d : Desc) (prev : Nat) (s : State) : State := complete d stOk (lcyResult prev s) 0 s

/-- Blank to Provisioned (Table 18.3). The cleared ledger begins with GENESIS whatever becomes of the increment (R385). -/
def provision (d : Desc) (s : State) : State :=
  let r := tallyStep 249 1 (clearLedger (clearTestSrc s))
  match r.2 with
  | .done _ _ _ _ => lcyDone d 0 (lcyRecord 1 0 (append 0x01 1 0 (resetRng r.1)))
  | _ =>
    let s1 := append 0x01 0 0 r.1
    complete d stEcc (lcyResult 0 s1) 0 s1

/-- First block of the final checkpoint: after the last checkpoint, or the tail alone, never below HEAD (R378). -/
def finalFrom (s : State) : Nat := max (min (lastCkptTo s + 1) (lgrTail s)) s.lgr.head

/-- The final checkpoint: its statement goes into the ring, and no record follows it (R378). -/
def finalCheckpoint (s : State) : State × Bool :=
  let a := finalFrom s
  let b := lgrTail s
  let k := lastCkptTo s / 4096
  let bad := firstBad (blocksOf a b) s
  let r := signStatement (statementHead 1 4 a b bad.isNone [] s) s
  let w := recStore (recStatement k) r.1 r.2
  if w.2 then (w.1, false)
  else
    let s1 := setFld LGR_CKPT.IDX (k % 256) (setFld LGR_CKPT.COUNT ((fld LGR_CKPT.COUNT w.1 + 1) % 2 ^ 24) (noteSigned b w.1))
    let s2 := if bad.isSome then bump LGR_CNT2.CKPT_FAIL s1 else s1
    (lgrEvt 1 b 0 s2, true)

/-- The keys go, in the order of Table 18.3 (R271, R303, R305, R319). -/
def withdrawKeys (s : State) : State :=
  let s1 := wipeCaddy s
  let s2 := recErase recPair (recErase recFlock (recErase (recFlock + 1)
    { s1 with flk := { s1.flk with flock := none, staged := none, pend := none, pair := none, stage := none, zeroised := true } }))
  let s3 := syncPair (syncFlock s2)
  setFlag LGR_STATUS.CKPT_PEND false
    { s3 with
      lcy := { s3.lcy with keysGone := true, retiring := false }
      lgr := { s3.lgr with ckpt := [], keyOk := false } }

/-- The steps of a Retired transition that need the generator: the final checkpoint, and then the keys (R378, R411). -/
def finishRetire (s : State) : State :=
  if s.lcy.retiring && s.nv.ledgerReady then
    if finalStored s then withdrawKeys s
    else if rngState s = 2 then
      let r := finalCheckpoint s
      if r.2 then withdrawKeys r.1 else r.1
    else s
  else s

/-- The ledger takes no record after the seal of the Retired transition (R378). -/
def closeLedger (s : State) : State :=
  setFlag LGR_STATUS.CKPT_PEND true
    { s with lgr := { s.lgr with closed := true, ckpt := [] }, lcy := { s.lcy with retiring := true, service := none } }

/-- Into Retired, after the commit (Table 18.3): the permission's end, the LIFECYCLE record, the seal, and the rest as
soon as the generator allows it. -/
def retireSteps (prev : Nat) (s : State) : State :=
  finishRetire (closeLedger (sealBlock padRetired (lcyRecord 4 prev (endPermission 8 0 s))))

/-- Into Retired (R410, R411); out of Blank the test source goes too (R337). -/
def retire (d : Desc) (prev : Nat) (s : State) : State :=
  let v := tallyVal 249 s
  let s0 := if prev = 0 then clearTestSrc s else s
  raiseState d (3 - v) prev (fun s => lcyDone d prev (retireSteps prev (if prev = 0 then resetRng s else s))) s0

/-- LIFECYCLE ADVANCE (R410, R414). -/
def advance (d : Desc) (s : State) : State :=
  let to_ := p8 d 1
  if to_ = 0 ∨ to_ > 4 then fail d stBadLen 33 s
  else reserved 2 d (fun s =>
    readSrc d 64 (fun sig s =>
      let st := lcState s
      let signed (k : State → State) : State := signedRequest d 1 to_ [] sig k s
      if st = to_ then (if st = 3 then signed (fun s => lcyDone d 3 (restartService s)) else lcyDone d st s)
      else if st = 0 ∧ to_ = 1 then
        (if (fleetKey s).isNone then fail d stForbidden 0xFF s else provision d s)
      else if st = 1 ∧ to_ = 2 then
        (if bootable 0 s || bootable 1 s then raiseState d 1 1 (fun s => lcyDone d 1 (lcyRecord 2 1 s)) s
         else fail d stForbidden 0xFF s)
      else if st = 2 ∧ to_ = 3 then signed (fun s => lcyDone d 2 (enterService s))
      else if st = 3 ∧ to_ = 2 then lcyDone d 3 (endService s)
      else if st ≤ 1 ∧ to_ = 4 then retire d st s
      else if st ≤ 3 ∧ to_ = 4 then signed (retire d st)
      else fail d stForbidden 0 s) s) s

/-- LIFECYCLE_ADVANCE (R410, OP 1). -/
def execLifecycleAdvance (t : Nat) (d : Desc) (s : State) : Host.Outcome State Fault Refusal :=
  descCommand t (asMode 0x6A 1 d) advance s

/-- The new fleet key is checked and stored (R413). -/
def storeFleet (d : Desc) (key : Bytes) (s : State) : State :=
  if pubOk key = false then fail d stBadLen 0xFF s
  else
    let r := recStore recFleet key s
    complete d (if r.2 then stEcc else stOk) (lcyResult (lcState r.1) r.1) 0 r.1

/-- LIFECYCLE FLEET_KEY (R413). -/
def fleetUnit (d : Desc) (s : State) : State :=
  lcyForm d (fun s =>
    let early := decide (lcState s ≤ 1)
    if d.len ≠ (if early then 64 else 128) then fail d stBadLen 8 s
    else readSrc d d.len (fun b s =>
      if early then storeFleet d b s
      else signedRequest d 2 0 (b.take 64) (slice 64 64 b) (storeFleet d (b.take 64)) s) s) s

/-- LIFECYCLE_FLEET_KEY (R413, OP 2). -/
def execLifecycleFleetKey (t : Nat) (d : Desc) (s : State) : Host.Outcome State Fault Refusal :=
  descCommand t (asMode 0x6A 2 d) fleetUnit s

/-- LIFECYCLE OTP_K (R415). -/
def otpKUnit (d : Desc) (s : State) : State :=
  lcyForm d (fun s =>
    readSrc d 4 (fun b s =>
      let k := byteAt 0 b
      if s.lcy.otp ≠ 0 ∨ k < 14 ∨ k > 21 ∨ allZero (b.drop 1) = false then fail d stBadLen 32 s
      else
        let s1 := programOtp k s
        complete d stOk (lcyResult (lcState s1) s1) 0 s1) s) s

/-- LIFECYCLE_OTP_K (R415, OP 3). -/
def execLifecycleOtpK (t : Nat) (d : Desc) (s : State) : Host.Outcome State Fault Refusal :=
  descCommand t (asMode 0x6A 3 d) otpKUnit s

/-- SERVICE_TIMEOUT (R409). -/
def execServiceTimeout (t : Nat) (s : State) : Host.Outcome State Fault Refusal :=
  command t (fun s =>
    match s.lcy.service with
    | some (e, _) => onlyIf (decide (e ≤ now s)) endService s
    | none => s) s

/-- LIFECYCLE_NONCE_EXPIRY (R412). -/
def execLifecycleNonceExpiry (t : Nat) (s : State) : Host.Outcome State Fault Refusal :=
  command t (fun s =>
    match s.lcy.nonce with
    | some (_, x) => onlyIf (decide (x + secTicks 300 ≤ now s)) (fun s => { s with lcy := { s.lcy with nonce := none } }) s
    | none => s) s

/-! ## The Steep's end -/

/-- What waited for the Steep goes on (R320, R378, R382, R414). -/
def resumeSteep (s : State) : State :=
  let l := s.lcy.steepWait
  finishRetire (l.foldl (fun s w =>
    if w.1.opcode = 0x44 then signUnit w.1 s
    else if w.1.opcode = 0x5B then ledgerAttest w.1 s
    else challenge w.1 s) { s with lcy := { s.lcy with steepWait := [] } })

/-- RNG_STEEP_PASS (R330): Ready, with a fresh seed and pool. -/
def steepPass (o : RngObs) (s : State) : State :=
  let s1 := setFld RNG_STATUS.STATE 2 (setFld RNG_STATUS.POOL_FULL 1 (setFld RNG_STATUS.RESEED_DUE 0
    (setFld RNG_REQ_CNT.SINCE_RESEED 0 (bump RNG_CNT0.STEEPS (noteObs o s)))))
  resumeSteep (serveWaiting s1)

/-- RNG_STEEP_PASS (R330). -/
def execRngSteepPass (t : Nat) (o : RngObs) (s : State) : Host.Outcome State Fault Refusal :=
  command t (fun s => onlyIf (rngState s == 1 || rngState s == 3) (steepPass o) s) s

/-- A write to RNG_CTL (R337): outside Blank a write of 1 to TEST_SRC is ignored and flagged. -/
def writeRngCtl (v : Word) (s : State) : State :=
  let s1 := setFld RNG_CTL.EST_EN (RNG_CTL.EST_EN.of v) s
  let on := RNG_CTL.TEST_SRC.of v == 1
  if on && lcState s != 0 then setFld RNG_STATUS.ERR_RANGE 1 s1
  else if on then startSteep (setFld RNG_CTL.TEST_SRC 1 (setFld RNG_STATUS.TEST_ACTIVE 1 s1))
  else clearTestSrc s1

/-! ## LCY_CTL -/

/-- Bytes of the stored LCY_ set-up (R426). -/
def lcyBytes (s : State) : Bytes := leBytes 2 (fld LCY_CTL.SVC_MAX s)

/-- A write to LCY_CTL (R9, R426). -/
def writeLcyCtl (v : Word) (s : State) : State :=
  let s1 := wrW1c LCY_CTL.COMMIT_ERR v (wrRw LCY_STATUS.ERR_RANGE LCY_CTL.SVC_MAX (inRange 1 1440) v s)
  if LCY_CTL.COMMIT.of v = 1 then commitSetup recLcy LCY_CTL.VALID LCY_CTL.COMMIT_ERR (lcyBytes s1) s1 else s1

end Sys2Proof.Machine
end

