-- ==== Sys2Proof/Machine/Load.lean ====
section
/-! DEFINITION. Machine/Load.lean: NV recall with the ledger's tail repair, and the configuration load (R26, R82, R350,
R354, R374 to R378, R411, R417, R420). -/
namespace Sys2Proof.Machine

/-! ## Locating the tail -/

/-- The binary search of R374 over positions `lo` to `hi`. -/
def searchTail (base : Nat) (s : State) : Nat → Nat → Nat → Nat
  | 0, lo, _ => lo
  | k + 1, lo, hi =>
    if lo < hi then
      let mid := (lo + hi + 1) / 2
      if seqAt (mid + 1) s = some (base + mid) then searchTail base s k mid hi else searchTail base s k lo (mid - 1)
    else lo

/-- TAIL as recall finds it; none when no block exists (R374). -/
def findTail (s : State) : Option Nat :=
  match seqAt 1 s with
  | some (b + 1) => some (b + 1 + searchTail (b + 1) s 24 0 (lgrN s - 1))
  | _ =>
    match seqAt (lgrN s) s with
    | some (q + 1) => some (q + 1)
    | _ => none

/-- The block's TAG is absent: it reads 0 or is uncorrectable (R376). -/
def tagAbsent (q : Nat) (s : State) : Bool :=
  s.nv.bad.contains (blockAddr q s + 56) || allZero ((blockBytes q s).drop 56)

/-- A record slot can be kept: its word is correctable and its TYPE is not 0 (R376). -/
def slotKept (q i : Nat) (s : State) : Bool :=
  !s.nv.bad.contains (blockAddr q s + 8 + 8 * i) && byteAt (8 + 8 * i) (blockBytes q s) != 0

/-- Records kept of an open tail: those before the first slot that cannot be kept (R376). -/
def keptRecords (q : Nat) (s : State) : Nat := ((List.range 6).takeWhile (fun i => slotKept q i s)).length

/-- The position block `q` would take has been cleared. -/
def positionClear (q : Nat) (s : State) : Bool :=
  (badWord (blockAddr q s) 64 s).isNone && allZero (blockBytes q s)

/-- A block sealed at the Retired transition: its last slot is a PAD with RETIRED, or the LIFECYCLE record that filled it
(R378). -/
def sealedRetired (q : Nat) (s : State) : Bool :=
  let r := slice 48 8 (blockBytes q s)
  !tagAbsent q s && ((byteAt 0 r == 0 && bit 4 (leAt 5 3 r)) || (byteAt 0 r == 0x50 && byteAt 1 r == 4))

/-- The last time a block holds, in 1/65,536 s: BASE and the TIME_DELTA of its readable slots (R133). -/
def blockTime (q : Nat) (s : State) : Nat :=
  let b := blockBytes q s
  if s.nv.bad.contains (blockAddr q s) then 0
  else
    ((List.range 6).filter (fun i => !s.nv.bad.contains (blockAddr q s + 8 + 8 * i))).foldl
      (fun m i => max m (leAt 4 4 b * 65536 + leAt (10 + 8 * i) 3 b * 1024)) (leAt 4 4 b * 65536)

/-- The time of the newest ledger record found at recall (R133). -/
def newestTime (tail : Nat) (s : State) : Nat :=
  max (if tail ≥ 1 then blockTime tail s else 0) (if tail ≥ 2 && seqAt (tail - 1) s == some (tail - 1) then blockTime (tail - 1) s else 0)

/-! ## Recall -/

/-- Sets the ledger's pointers from a found tail (R374). -/
def setPointers (tail : Nat) (s : State) : State :=
  let opened := decide (tail ≥ 1) && tagAbsent tail s
  { s with lgr := { s.lgr with
      next := tail + 1
      openRecs := if opened then some (keptRecords tail s) else none
      openTb := now s
      head := if tail = 0 then 0 else max 1 (tail + 1 - lgrN s)
      preclear := false
      closed := decide (tail ≥ 0xFFFFFFFF) && !opened } }

/-- W and SIGNED are read back (R373, R378). -/
def loadMarks (s : State) : State :=
  let w := ((recRead recW s).map (leAt 0 4)).getD 0
  { s with lgr := { s.lgr with w := w, signed := (ringStatements s).foldl (fun m x => max m x.2.2) w } }

/-- The wall clock restarts after a power-on reset, and the records that wait take its value (R133). -/
def restoreWall (tail : Nat) (s : State) : State :=
  if s.clk.wallRun then s
  else
    let v := max (((recRead recWall s).map (leAt 0 8)).getD 0) (newestTime tail s)
    let wait (r : LRec) : LRec := { r with wall := v }
    setFld CLK_STATUS.WALL_STALE 1 { s with
      clk := { s.clk with wall := BitVec.ofNat 64 v, wallRem := 0, wallRun := true, slew := 0 }
      lgr := { s.lgr with
        buffered := s.lgr.buffered.map (fun b => match b with
          | .device r => .device (wait r)
          | .host d _ x => .host d v x)
        waiting := s.lgr.waiting.map wait } }

/-- The newest sealed blocks, up to 8, whose tags recall checks (R374). -/
def newestSealed (s : State) : List Nat :=
  let b := lgrSealed s
  (blocksOf (max s.lgr.head (b - 7)) b).filter (fun q => decide (1 ≤ q))

/-- SEALED_LATE of a repaired block (Table 16.2). -/
def sealedLate (kept : Nat) (discarded : Bool) (q : Nat) (s : State) : State :=
  let s1 := append 0x02 0 (kept + 8 * b2n discarded + 256 * (q % 65536)) (setFld LGR_STATUS.LATE 1 (bump LGR_CNT2.LATE s))
  lgrEvt 5 q kept s1

/-- The repairs of Table 16.3, with the ledger ready for the device's own records (R375, R376). -/
def repairTail (s0 : State) : State :=
  let broken := firstBad (newestSealed s0) s0
  let note (s : State) : State := match broken with | some q => chainBreak q s | none => s
  let q := lgrTail s0
  match s0.lgr.openRecs with
  | some k => sealedLate k false q (note (sealBlock padLate s0))
  | none =>
    if s0.lgr.closed then note s0
    else if s0.nv.bad.contains (blockAddr (q + 1) s0) && openAllowed true s0 then
      sealedLate 0 true (q + 1) (note (sealBlock padLate (openBlock s0.clk.wall.toNat s0)))
    else note (if positionClear (q + 1) s0 then s0 else preClear s0)

/-- Appends that waited for step 3, in the order of R25 (R351). -/
def writeBuffered (s : State) : State :=
  let s1 := s.lgr.buffered.foldl (fun s b => match b with
    | .device r => writeRecord r s
    | .host d w x => writeHost d w x s) { s with lgr := { s.lgr with buffered := [] } }
  let s2 := s1.lgr.waiting.foldl (fun s r => writeRecord r s) { s1 with lgr := { s1.lgr with waiting := [] } }
  s2.lgr.hostWait.foldl (fun s p => ledgerAppend p.1 s) { s2 with lgr := { s2.lgr with hostWait := [] } }

/-- Steps 1 to 3 of Table 15.4. In Retired with its final statement stored the blocks are only located (R378). -/
def recallLedger (s : State) : State :=
  let s1 := loadMarks s
  let tail := (findTail s1).getD 0
  let s2 := restoreWall tail (setPointers tail s1)
  let ready (s : State) : State := { s with nv := { s.nv with ledgerReady := true } }
  let shut (s : State) : State := { s with lgr := { s.lgr with closed := true } }
  if isRetired s2 && finalStored s2 then
    writeBuffered (ready (shut { s2 with lgr := { s2.lgr with keyOk := false } }))
  else if isRetired s2 && decide (tail ≥ 1) && sealedRetired tail s2 then writeBuffered (ready (shut s2))
  else if tail = 0 then writeBuffered (append 0x01 (lcState s2) 0 (ready s2))
  else writeBuffered (repairTail (ready s2))

/-- Device records are repaired (R354), the end of recall (Table 15.4, step 4). -/
def recallRecords (s : State) : State :=
  let s1 := (s.nv.recs.map (·.1)).foldl (fun s id => repairRec id s) s
  { s1 with nv := { s1.nv with loaded := true, checked := [] } }

/-- The whole of Table 15.4. -/
def recallAll (s : State) : State := recallRecords (recallLedger s)

/-- NV_RECALL (R350): the NVS island has started without retained state. -/
def execNvRecall (t : Nat) (s : State) : Host.Outcome State Fault Refusal :=
  command t (fun s => onlyIf (fastContent s && islandOn .nvs s && !s.nv.ledgerReady) recallAll s) s

/-! ## Configuration load -/

/-- Words of a stored set-up go into its registers. -/
def loadWords (b : Bytes) : List Nat → State → State
  | [], s => s
  | o :: os, s => loadWords (b.drop 4) os (regSet o (BitVec.ofNat 32 (leAt 0 4 b)) s)

/-- A stored set-up replaces the reset values; without one, VALID is 0 (R354). -/
def loadSetup (id : Nat) (offs : List Nat) (valid err : Field) (s : State) : State :=
  match recRead id s with
  | some b => setFld valid 1 (setFld err 0 (loadWords b offs s))
  | none => setFld valid 0 s

/-- Registers of the stored VRD_ set-up (R266). -/
def vrdSetup : List Nat := [VRD_CTL.reg]
/-- Registers of the stored FLK_ set-up (R298). -/
def flkSetup : List Nat := [FLK_CTL.reg, FLK_START_CTL.reg, FLK_CAN_CFG.reg]
/-- Registers of the stored CRY_ set-up (R323). -/
def crySetup : List Nat := [CRY_CTL.reg]
/-- Registers of the stored TMR_ set-up (R406). -/
def tmrSetup : List Nat := (List.range 6).map TMR_PINFn.reg

/-- The fold tree and the retirement state come from their record (R169). -/
def loadTree (s : State) : State :=
  match recRead recTree s with
  | some b => setFld FLD_CTL.VALID 1 { s with fold := { s.fold with
      live := parseTree b, staging := parseTree b, retired := parseRetired b } }
  | none => setFld FLD_CTL.VALID 0 { s with fold := { s.fold with
      live := Tree.empty, staging := Tree.empty, retired := List.replicate 136 false } }

/-- The UHF_ set-up with its calibration results (R223). -/
def loadUhf (s : State) : State :=
  let s1 := loadSetup recUhf uhfSetup UHF_CTL.VALID UHF_CTL.COMMIT_ERR s
  match recRead recUhf s with
  | some b => { s1 with uhf := { s1.uhf with filt := leAt 40 2 b, dc := byteAt 42 b } }
  | none => s1

/-- The UWB_ set-up with its calibration results (R245). -/
def loadUwb (s : State) : State :=
  let s1 := loadSetup recUwb uwbSetup UWB_CTL.VALID UWB_CTL.COMMIT_ERR s
  match recRead recUwb s with
  | some b => setFld UWB_CAL_STAT.IRR (byteAt 72 b) s1
  | none => s1

/-- The active rule set and map reload (R263). -/
def loadBanks (s : State) : State :=
  match recRead recVrdSel s with
  | none => syncVrd { s with vrd := Vrd.reset }
  | some b =>
    let rb := byteAt 0 b % 2
    let mb := byteAt 1 b % 2
    let on (i : Nat) : Bool := bit i (byteAt 2 b)
    syncVrd { s with vrd := { Vrd.reset with
      ruleBank := rb
      mapBank := mb
      rules := if on 0 then (recRead (recRules rb) s).map parseRules else none
      map := if on 1 then (recRead (recMap mb) s).map parseMap else none } }

/-- The stored pairing comes into force (R292). -/
def loadPair (s : State) : State := syncPair { s with flk := { s.flk with pair := (recRead recPair s).map parsePair } }

/-- What the VRD/CRY island reloads after any reset of it (R100). -/
def loadVrdCry (ptimeToo : Bool) (s : State) : State := loadPair (loadPin ptimeToo (loadFlock (loadBanks s)))

/-- The stored pin functions, except those of GPIO22 and GPIO23 (R404, R406). -/
def loadPinf (s : State) : State :=
  match recRead recTmr s with
  | none => setFld TMR_CTL.VALID 0 s
  | some b => setFld TMR_CTL.VALID 1 (drivePins ((List.range 22).foldl (fun s g => setPinf g (byteAt g b) s) s))

/-- The stored Service limit (R426). -/
def loadLcy (s : State) : State :=
  match recRead recLcy s with
  | none => setFld LCY_CTL.VALID 0 s
  | some b => setFld LCY_CTL.VALID 1 (setFld LCY_CTL.SVC_MAX (leAt 0 2 b) s)

/-- The stored MON_CTL (R426). -/
def loadMon (s : State) : State :=
  match recRead recMon s with
  | some b => loadWords b [MON_CTL.reg] s
  | none => s

/-- The stored records of AON registers, after a reset that cleared that island (R82). -/
def loadAon (s : State) : State := if s.pwr.aonLoad then loadLcy (loadPinf (loadSched (loadHint s))) else s

/-- Every set-up outside AON. -/
def loadUnits (s : State) : State :=
  loadMon (
    (loadLgr (loadSetup recCry crySetup CRY_CTL.VALID CRY_CTL.COMMIT_ERR
      (loadVrdCry s.pwr.aonLoad (loadSetup recFlk flkSetup FLK_CTL.VALID FLK_CTL.COMMIT_ERR
        (loadSetup recVrd vrdSetup VRD_CTL.VALID VRD_CTL.COMMIT_ERR (loadUwb (loadUhf (loadTree
          (loadSetup recLfe lfeSetup LFE_CTL.VALID LFE_CTL.COMMIT_ERR s))))))))))

/-! ## Unfinished transitions -/

/-- The newest LIFECYCLE record of the `n` blocks that end with `q`: its new state, Service as the Field below it. -/
def newestLcy (s : State) : Nat → Nat → Option Nat
  | 0, _ => none
  | n + 1, q =>
    let b := blockBytes q s
    match (List.range 6).reverse.find? (fun i => slotKept q i s && byteAt (8 + 8 * i) b == 0x50) with
    | some i => some (if byteAt (9 + 8 * i) b = 3 then 2 else byteAt (9 + 8 * i) b)
    | none => newestLcy s n (q - 1)

/-- The state before the present one, when its LIFECYCLE record is missing (R411). -/
def missingLcy (s : State) : Option Nat :=
  match newestLcy s (s.lgr.next - max 1 s.lgr.head) (lgrTail s) with
  | some x => if x = lcState s then none else some x
  | none => if s.lgr.head ≤ 1 ∧ lcState s ≠ 0 then some 0 else none

/-- The steps after the commit that a cut left undone (R411). -/
def finishTransition (s : State) : State :=
  let s1 := match missingLcy s with
    | some prev => if s.lgr.closed then s else append 0x50 (lcState s) prev s
    | none => s
  if isRetired s = false then s1
  else if finalStored s1 then withdrawKeys s1
  else finishRetire (closeLedger (if s1.lgr.closed then s1 else sealBlock padRetired s1))

/-- A trial does not survive a reset that reloads the configuration (R420). -/
def endTrial (s : State) : State :=
  match s.lcy.trial with
  | none => s
  | some (prev, _) => append 0x52 prev (bankVersion prev s % 2 ^ 24) (setTrial none none (bump LCY_CNT.REVERTS (dropAct s)))

/-- Drover boots from the stored selection (R417, R419). -/
def bootDrover (s : State) : State :=
  chooseBoot { s with lcy := { s.lcy with sel := ((recRead recSel s).map (byteAt 0)).getD 0 % 2 } }

/-- The conditions of R26. -/
def autonomous (s : State) : Bool :=
  (lcState s == 2 || lcState s == 3) && s.vrd.rules.isSome && s.vrd.map.isSome && s.flk.flock.isSome
    && flag PWR_SCHED_CTL.VALID s

/-- Autonomous operation starts when R26 allows it and the schedule runs (R95). -/
def startAutonomous (s : State) : State :=
  if s.pwr.aonLoad && autonomous s && flag PWR_SCHED_CTL.EN s then startSched s else s

/-- Configuration load, up to HIF_STATUS.READY = 1 (R82, R98, R111). -/
def loadConfig (s : State) : State :=
  let s1 := endTrial (finishTransition (loadUnits (loadAon s)))
  let s2 := keepStandby (startAutonomous (setFlag HIF_STATUS.READY true s1))
  workOutCkpts (bootDrover { s2 with pwr := { s2.pwr with aonLoad := false } })

/-- CONFIGURATION_LOAD (R82, R98): recall has ended and the configuration has not been loaded since. -/
def execConfigurationLoad (t : Nat) (s : State) : Host.Outcome State Fault Refusal :=
  command t (fun s => onlyIf (s.nv.loaded && fastContent s && !flag HIF_STATUS.READY s) loadConfig s) s

end Sys2Proof.Machine
end

