-- ==== Sys2Proof/Machine/Reset.lean ====
section
/-! DEFINITION. Machine/Reset.lean: the reset kinds of Table 04.7, the brown-out, and the safe state of the pads (R13, R18,
R24, R44, R52, R98 to R103, R346, R347). -/
namespace Sys2Proof.Machine

/-! ## What resets keep -/

/-- Counters that only their clear register or a power-on reset clears (R223, R245, R266, R298, R323, R337, R364, R387,
R406, R426). -/
def counterRegs : List Nat :=
  [0x142C, 0x1430, 0x1434, 0x1664, 0x1668, 0x1824, 0x1828, 0x182C, 0x1C1C, 0x1C20, 0x1C24, 0x1C34, 0x1C38, 0x2010,
   0x2014, 0x2018, 0x2218, 0x221C, 0x2410, 0x2418, 0x241C, 0x2620, 0x2624, 0x2628, 0x283C, 0x2C20, 0x300C]

/-- Registers of the AON island (R80, R102, R298, R406, R426). -/
def aonReg (o : Nat) : Bool := (0x0400 ≤ o && o < 0x0800) || (0x2800 ≤ o && o < 0x3000) || o == FLK_PTIME.reg

/-- Registers of the PCIE island. -/
def hifReg (o : Nat) : Bool := o < 0x0400

/-- Every register but those that `keep` names takes its reset value. -/
def keepRegs (keep : Nat → Bool) (s : State) : State := { s with regs := s.regs.filter (fun r => keep r.1), latchHi := [] }

/-- The RNG latch outlives every reset but a power-on and a system reset (R329, R338). -/
def keepLatch (latched : Bool) (s : State) : State := if latched then setFld RNG_STATUS.STATE 4 s else s

/-! ## Pads -/

/-- The pad safe state (R52): bridges off, LFD pins high-impedance. -/
def safePads (s : State) : State :=
  { s with pins := { s.pins with
    drive := 0, bridge := 0, lfdSafe := true
    safeAt := if s.pins.lfdSafe then s.pins.safeAt else (now s, s.pins.drive) } }

/-- The radios' transmitters go off (Table 04.8, Table 03.6). -/
def transmittersOff (s : State) : State := { s with pins := { s.pins with pa := false, trsw := false } }

/-! ## Completions by a reset -/

/-- Every descriptor in flight that `p` picks completes with ISLAND_RESET (R13, R100). -/
def endFlights (p : Desc → Bool) (s : State) : State :=
  (s.hif.flight.filter (fun f => p f.d)).foldl (fun s f => releaseSlots f.d (fail f.d stIslandReset 0 s)) s

/-- Descriptors that island `i` works on. -/
def worksOn (i : Island) (d : Desc) : Bool := opIsland d.opcode == i

/-- A poll is running. -/
def polling (s : State) : Bool := s.lf.run.isSome && s.poll.isSome

/-- An LFS, LFA, UHF or UWB reset ends the poll with ISLAND_RESET (R24). -/
def endPoll (s : State) : State := if polling s then abortLf stIslandReset s else s

/-- The poll is in stages 4 to 7: a frame is being received, or an answer awaits its verdict (R24). -/
def inStages (s : State) : Bool :=
  match s.poll with
  | some p => p.synced.any (fun x => !p.ended.contains x) || p.answers.any (fun a => a.trig.isSome || a.ranging)
      || p.coils.any (·.active)
  | none => false

/-! ## The islands -/

/-- LFS (R52, R100, R172): the LF queue and what waits for it end, and so does a fold operation on LF leaves; the quarters
start in listen phase. -/
def resetLfs (s : State) : State :=
  let s1 := abortLf stIslandReset (resetMembers (· < 132) (safePads s))
  settleLfCals (endFlights (worksOn .lfs) { s1 with lf := { s1.lf with queue := [], wait := [] } })

/-- LFA (R100, R172): the LF operation that runs ends, and a fold operation on LF leaves. -/
def resetLfa (s : State) : State := abortLf stIslandReset (resetMembers (· < 132) s)

/-- UHF (R24, R100): the radio returns to Sleep with its calibration results. -/
def resetUhf (s : State) : State :=
  let s1 := endPoll s
  transmittersOff (endFlights (worksOn .uhf) { s1 with uhf := { s1.uhf with
    run := none, queue := [], windows := [], window := false, bg := none, walk := [⟨now s1, now s1, 1⟩],
    lastEnd := now s1 } })

/-- UWB (R24, R100, R172, R229). -/
def resetUwb (s : State) : State :=
  let s1 := endPoll (resetMembers (132 ≤ ·) s)
  endFlights (worksOn .uwb) { s1 with uwb := { s1.uwb with
    exch := [], run := none, cur := none, queue := [], hold := false, bg := none,
    walk := [⟨now s1, now s1, 1⟩], lastEnd := now s1 } }

/-- VRD/CRY (R24, R100, R303): a poll in stages 4 to 7 ends, the Caddy is cleared, and the flock keys, rules, map,
pairing and pinfold state reload. A flock that waited for a trigger is in force at once, since none waits any more
(R275). -/
def resetVrdCry (s : State) : State :=
  let s1 := if inStages s then abortLf stIslandReset s else s
  let waits := s1.flk.pend
  let s2 := endFlights (fun d => worksOn .vrdcry d || droverForm d)
    (wipeCaddy { s1 with
      flk := { s1.flk with staged := none, pend := none, bell := none, revoke := [] }
      cry := { s1.cry with changes := [] }
      lcy := { s1.lcy with steepWait := s1.lcy.steepWait.filter (fun w => opFirmware w.1.opcode) } })
  let s3 := loadVrdCry false s2
  match waits, s3.flk.flock with
  | some (f, d, bw), some _ => activateFlock f d bw s3
  | _, _ => s3

/-- CAN (R100): the transmit queue is empty and the controller starts error active. -/
def resetCan (s : State) : State := regSet FLK_CAN_STAT.reg 0 { s with flk := { s.flk with txq := [] } }

/-- The message engine takes a CRYPT: 4 contexts work and 16 more wait in its queue (R315). -/
def engineTakes : Nat := 20

/-- Descriptors that the dispatcher has taken and no unit has accepted (R100): those that wait for an entry of the LF queue
(R144), for a place in the recall buffer (R351) or behind a full message-engine queue (R315). One whose unit's command has
not come yet and whose unit's input is free has been accepted in the crossing of R12. -/
def unaccepted (s : State) : List Desc :=
  let cry := (s.hif.flight.filter (fun f => !f.accepted && f.d.opcode == 0x40)).map (·.d)
  s.lf.wait.filterMap (fun w => w.1.desc) ++ s.lgr.hostWait.map (·.1) ++ cry.drop engineTakes

/-- Fabric (R100, R172): descriptors that no unit has accepted end, and the fold operations with them. -/
def resetFabric (s : State) : State :=
  let held := unaccepted s
  settleLfCals <| endFlights (fun d => worksOn .fabric d || held.any (fun x => sameDesc x d))
    { s with
      lf := { s.lf with wait := [] }
      lgr := { s.lgr with hostWait := [] }
      fold := { s.fold with op := none, queue := [], wait := [] } }

/-- Entries of the recall buffer that the device wrote. -/
def deviceOnly (l : List Buffered) : List Buffered := l.filter (fun b => match b with | .device _ => true | .host _ _ _ => false)

/-- Recall starts again (R350): the registers that an NVS start restores, and the queues of the island. -/
def startRecall (s : State) : State :=
  clearRegList [NVS_CTL.reg, NVS_STATUS.reg, NVS_HOLD.reg, NVS_ERR_ADDR.reg] { s with
    nv := { s.nv with ledgerReady := false, loaded := false, twins := [], checked := [], incAt := [] }
    lgr := { s.lgr with buffered := deviceOnly s.lgr.buffered, hostWait := [] } }

/-- NVS (R100): the buffer is drained and recall runs. -/
def resetNvs (s : State) : State := endFlights (worksOn .nvs) (startRecall (drainAll s))

/-- SLOW (R100): a grant counts as withdrawn, pulses end, and the monitor drops its line and its unlock. -/
def resetSlow (s : State) : State :=
  let s1 := if coexEn s && s.pins.coexGnt then grantFalls s else s
  endUnlock (dropLine (drivePins { s1 with
    tmr := { s1.tmr with pulses := [] }
    pins := { s1.pins with coexReq := false, coexPri := false } }))

/-- The part of Drover's work that the watchdog cuts off (R18, R125): everything in its queue, whatever it waits for. -/
def endDrover (s : State) : State :=
  let s1 := s.hif.droverQ.foldl (fun s d => fail d stIslandReset 0 s)
    { s with
      flk := { s.flk with learn := none, stage := none, staged := none }
      lf := { s.lf with cals := [] }
      lcy := { s.lcy with pendAct := none, steepWait := s.lcy.steepWait.filter (fun w => !opFirmware w.1.opcode) } }
  (List.range 32).foldl (fun s n => unblockDrover n s)
    (setFld FLK_STATUS.BW_WAIT 0 (setFlag FLK_STATUS.LEARN_BUSY s1.flk.pend.isSome s1))

/-- A Drover reset (R18, R420): it boots again, from the bank before a trial. -/
def resetDrover (s : State) : State :=
  let s1 := endDrover s
  if s1.lcy.trial.isSome then autoRevert s1
  else match s1.lcy.drover with
    | .off => cutDrover s1
    | .noFw => chooseBoot s1
    | _ => bootBank s1.lcy.running s1

/-! ## Host link reset -/

/-- PERST_N or Function Level Reset (R98): the PCIE island, the HIF_ registers and the pairs; descriptors in flight run to
their end, and their completions are discarded. A Function Level Reset keeps the link. -/
def resetLink (flr : Bool) (s : State) : State :=
  let link := regGet HIF_LINK.reg s
  let s1 := setFlag HIF_STATUS.READY (flag HIF_STATUS.READY s) (clearRegs 0 0x0400 s)
  let s2 := if flr then regSet HIF_LINK.reg link s1 else s1
  { s2 with hif := { Hif.reset with
      link := if flr then s.hif.link else .down
      trained := flr && s.hif.trained
      dispNo := s.hif.dispNo
      turn := s.hif.turn
      flight := s.hif.flight.map (fun (f : Flight) => if isHost f.d then { f with discard := true } else f)
      droverQ := s.hif.droverQ
      back := s.hif.back
      sent := s.hif.sent
      backlog := s.hif.backlog
      overflow := s.hif.overflow
      evtSeq := s.hif.evtSeq } }

/-- The record of a reset (Table 16.2). -/
def resetRecord (s : State) : State := append 0x17 (fld ⟨PWR_RST_CAUSE.reg, 0, 8⟩ s) 0 s

/-- A host link reset with its cause and record (R98). -/
def hostLinkReset (flr : Bool) (s : State) : State :=
  resetRecord (setFld PWR_RST_CAUSE.LINK 1 (resetLink flr s))

/-- PERST_N_ASSERT (R98): PERST_N, or a Function Level Reset while `flr`. In Fallow and under a reset the PCIE island is
down and has nothing to reset; in Fallow the reset is still a host link reset, with its cause and record (R98). -/
def execPerstNAssert (t : Nat) (flr : Bool) (s : State) : Host.Outcome State Fault Refusal :=
  outerCommand t (fun s =>
    let s1 := if flr then s else { s with pins := { s.pins with perst := true } }
    if s.pwr.inReset || s.pwr.vaonDown then s1
    else if s.pwr.st == .fallow then (if flr then s1 else resetRecord (setFld PWR_RST_CAUSE.LINK 1 s1))
    else if flr && !linkUp s then s1
    else hostLinkReset flr (onlyIf flr tlpWake s1)) s

/-- PERST_N_DEASSERT (R92, R94): WAKE_N is released, and Watch is left. Fallow is left by FALLOW_EXIT. -/
def execPerstNDeassert (t : Nat) (s : State) : Host.Outcome State Fault Refusal :=
  outerCommand t (fun s =>
    onlyIf s.pins.perst (fun s =>
      let s1 := { s with pins := { s.pins with perst := false, wakeN := false } }
      onlyIf (!stopped s1) (wakeExit .perst) s1) s) s

/-! ## Single-island resets -/

/-- The effect of a reset of island `i` (R100). -/
def islandEffect (i : Island) (s : State) : State :=
  match i with
  | .aon => s
  | .drover => resetDrover s
  | .fabric => resetFabric s
  | .vrdcry => resetVrdCry s
  | .lfs => resetLfs s
  | .lfa => resetLfa s
  | .uhf => resetUhf s
  | .uwb => resetUwb s
  | .pcie => resetLink false s
  | .nvs => resetNvs s
  | .can => resetCan s
  | .slow => resetSlow s
  | .rng => resetRng s

/-- Descriptors that completed with ISLAND_RESET because of a reset of island `i` that led from `s` to `s1` (Table 04.12):
those in flight before and not after, but for what a Drover reset discards (R18). A SLOW reset ends activities with
COEX_ABORT, and a PCIE reset lets them run to their end. -/
def endedBy (i : Island) (s s1 : State) : Nat :=
  match i with
  | .slow | .pcie => 0
  | _ => s.hif.flight.countP (fun f => !f.discard && (isHost f.d || i != .drover) && !isFlying f.d s1)

/-- A single-island reset with its ISLAND_RESET record and its ISLAND event (R100, R103). -/
def islandReset (i : Island) (cause : Nat) (s : State) : State :=
  let s1 := islandEffect i s
  let n := endedBy i s s1
  append 0x18 i.bit cause (postAt 0x09 stIslandReset (now s)
    ([byteOf i.bit, byteOf cause] ++ leBytes 2 (sat 16 n) ++ [byteOf (b2n (polling s && !polling s1))]) s1)

/-- The islands of PWR_ISLAND_RST, by bit (Table 04.10). -/
def rstIslands : List (Nat × Island) :=
  [(0, .drover), (1, .vrdcry), (2, .lfs), (3, .lfa), (4, .uhf), (5, .uwb), (6, .can), (7, .rng)]

/-- A write to PWR_ISLAND_RST (R100): a bit of an island that is down is ignored. -/
def writeIslandRst (v : Word) (s : State) : State :=
  let hit := rstIslands.filter (fun x => bit x.1 v.toNat && islandOn x.2 s)
  hit.foldl (fun s x => islandReset x.2 2 (setFld PWR_RST_CAUSE.HOSTISL 1 s)) s

/-- Drover holds work and has reported no progress for 50 ms (R101): progress is a change in what it holds, its boot and
its report that it is ready. -/
def droverQuiet (s : State) : Bool := quietFor .drover (msTicks 50) s && decide (s.lcy.progress + msTicks 50 ≤ now s)

/-- DROVER_WATCHDOG_EXPIRY (R101, R18): no progress for 50 ms while Drover holds work. -/
def execDroverWatchdogExpiry (t : Nat) (s : State) : Host.Outcome State Fault Refusal :=
  command t (fun s =>
    onlyIf (islandOn .drover s && tbRuns s && droverQuiet s) (fun s =>
      islandReset .drover 1 (setFld PWR_RST_CAUSE.WDT 1 (bump PWR_CNT.WDT s))) s) s

/-- RESET_N_LOW (R52): the pad safe state, whatever the pulse's length. -/
def execResetNLow (t : Nat) (s : State) : Host.Outcome State Fault Refusal :=
  outerCommand t (fun s => safePads { s with pins := { s.pins with resetN := true } }) s

/-- RESET_N_PULSE_REJECTED (R52): a pulse that is not accepted is an LFS reset of cause 4. -/
def execResetNPulseRejected (t : Nat) (s : State) : Host.Outcome State Fault Refusal :=
  outerCommand t (fun s =>
    onlyIf s.pins.resetN (fun s =>
      let s1 := { s with pins := { s.pins with resetN := false } }
      onlyIf (!stopped s1) (fun s => islandReset .lfs 4 s) s1) s) s

/-! ## System and power-on reset -/

/-- Registers that a system reset keeps (Table 04.7, Table 04.9). -/
def systemKeeps (o : Nat) : Bool :=
  counterRegs.contains o || o == CLK_STRAP.reg || o == PWR_RST_CAUSE.reg || o == PWR_CNT.reg

/-- MRAM and fuses are the only content that every reset keeps (Table 04.7). -/
def keptNv (s : State) : Nv :=
  { Nv.reset with
    mem := s.nv.mem, bad := s.nv.bad, soft := s.nv.soft, weak := s.nv.weak, worn := s.nv.worn, recs := s.nv.recs, wornRecs := s.nv.wornRecs }

/-- Fuse content: the OTP field and the withdrawn keys (R305, R411, R415); a trial ends at the next load (R420). -/
def keptLcy (s : State) : Lcy := { Lcy.reset with otp := s.lcy.otp, keysGone := s.lcy.keysGone, trial := s.lcy.trial }

/-- Everything outside AON at its reset values, with nothing in flight. The record that the RNG latch needs, the link
and the HIF_ block are the caller's. -/
def clearUnits (s : State) : State :=
  { s with
    heldWr := []
    nv := keptNv s
    lgr := { Lgr.reset with keyOk := s.lgr.keyOk, lost := s.lgr.lost, buffered := s.lgr.buffered }
    fold := Fold.reset
    lf := Lf.reset
    poll := none
    flk := { Flk.reset with
      zeroised := s.flk.zeroised, lastEdge := s.flk.lastEdge, ptimeAt := s.flk.ptimeAt, canOut := s.flk.canOut }
    mon := { Mon.reset with out := s.mon.out }
    uhf := Uhf.reset
    uwb := Uwb.reset
    vrd := Vrd.reset
    rng := Rng.reset }

/-- The levels of the GPIO pins once their functions are reset (Table 02.5): an input keeps its level, and the pull-down
of GPIO0-21 or the pull-up of GPIO22 and GPIO23 takes over a pin that was driven. -/
def releasedPins (s : State) : BitVec 24 :=
  BitVec.ofNat 24 (packBits 24 (fun g =>
    if pinFunc g s = 0 ∨ g = 23 ∧ pinFunc g s = 5 then s.pins.gpio.getLsbD g else decide (22 ≤ g)))

/-- The pads of a device in reset. -/
def resetPins (s : State) : Pins :=
  { Pins.reset with
    lfdSafe := true, safeAt := (safePads s).pins.safeAt, straps := s.pins.straps, testMode := s.pins.testMode, resetN := s.pins.resetN, perst := s.pins.perst,
    coexGnt := s.pins.coexGnt, gpio := releasedPins s, wake := s.pins.wake }

/-- A system reset is asserted (Table 04.7): TIMEBASE, the wall clock and its state, the straps, PWR_CNT, PWR_RST_CAUSE
and MRAM are kept; its record waits for recall, before that of a Service that ends (R409). -/
def systemReset (s : State) : State :=
  let stale := fld CLK_STATUS.WALL_STALE s
  let rec_ (typ src data : Nat) : Buffered := .device ⟨typ, src, data, s.clk.wall.toNat, now s⟩
  let recs := (if s.pwr.inReset then s.lgr.buffered else []) ++ [rec_ 0x17 (fld ⟨PWR_RST_CAUSE.reg, 0, 8⟩ s) 0]
    ++ (if s.lcy.service.isSome then [rec_ 0x50 2 3] else [])
  let edge := if s.pins.startA || s.pins.startB then now s else s.flk.lastEdge
  let s1 := setFld CLK_STATUS.WALL_STALE stale (clearUnits (keepRegs systemKeeps s))
  { s1 with
    clk := { Clk.reset with
      tb := s.clk.tb, frac := s.clk.frac, wall := s.clk.wall, wallRem := s.clk.wallRem, wallRun := s.clk.wallRun,
      wallAt := s.clk.wallAt, measAt := s.clk.measAt, slew := s.clk.slew
      content := if fastContent s then s.clk.content else .none, lastFast := s.clk.lastFast }
    pwr := { Pwr.reset with islands := 0x001, inReset := true, vaonDown := s.pwr.vaonDown, qual := s.pwr.qual }
    pins := resetPins s
    hif := { Hif.reset with back := s.hif.back, sent := s.hif.sent }
    lgr := { s1.lgr with lost := 0, buffered := recs }
    lcy := keptLcy s
    cry := Cry.reset
    flk := { s1.flk with lastEdge := edge, ptimeAt := now s }
    tmr := { Tmr.reset with wraps := s.tmr.wraps } }

/-- A system reset for `cause`: the accepted writes are in the array first (R98). -/
def systemResetFor (cause : Field) (s : State) : State := systemReset (drainAll (setFld cause 1 s))

/-- SYSTEM_RESET (R98): the low level of RESET_N is accepted. -/
def execSystemReset (t : Nat) (s : State) : Host.Outcome State Fault Refusal :=
  outerCommand t (fun s => onlyIf (s.pins.resetN && !s.pwr.vaonDown) (systemResetFor PWR_RST_CAUSE.PIN) s) s

/-- POWER_ON_RESET (R98): VAON is below its threshold; only MRAM and the fuses keep their content. -/
def powerOnReset (s : State) : State :=
  let s1 := drainAll s
  let s2 := clearUnits s1
  { s2 with
    regs := [(PWR_RST_CAUSE.reg, 1)]
    latchHi := []
    clk := Clk.reset
    pwr := { Pwr.reset with islands := 0x000, inReset := true, vaonDown := true }
    pins := { Pins.reset with lfdSafe := true, resetN := s.pins.resetN, perst := s.pins.perst, coexGnt := s.pins.coexGnt }
    hif := { Hif.reset with back := s.hif.back, sent := s.hif.sent }
    lgr := { s2.lgr with lost := 0, buffered := [.device ⟨0x17, 1, 0, 0, 0⟩] }
    lcy := { keptLcy s with trial := none }
    cry := Cry.reset
    flk := { s2.flk with lastEdge := 0, ptimeAt := 0 }
    tmr := Tmr.reset }

/-- POWER_ON_RESET (R98). -/
def execPowerOnReset (t : Nat) (s : State) : Host.Outcome State Fault Refusal := outerCommand t powerOnReset s

/-- k in force (Table 02.6): from the straps, or from the OTP field, whose unprogrammed value gives 21. -/
def kOf (cfg otp : Nat) : Nat := if cfg < 8 then 14 + cfg else if otp = 0 then 21 else otp

/-- POR_RELEASE (R44, R45, R46): the straps are latched and the CFG pins become BRIDGE_EN, low. TEST_N low in Blank
enters the factory's test mode. -/
def porRelease (straps : Nat) (testN : Bool) (s : State) : State :=
  let c := straps % 16
  let s1 := setFld CLK_STRAP.CFG c (setFld CLK_STRAP.SRC (c / 8) (setFld CLK_STRAP.K (kOf c s.lcy.otp) s))
  { s1 with
    pwr := { s1.pwr with vaonDown := false, islands := 0x001 }
    pins := { s1.pins with straps := BitVec.ofNat 4 c, bridge := 0, testMode := !testN && lcState s1 == 0 } }

/-- POR_RELEASE (R44). -/
def execPorRelease (t : Nat) (straps : Nat) (testN : Bool) (s : State) : Host.Outcome State Fault Refusal :=
  outerCommand t (fun s => onlyIf s.pwr.vaonDown (porRelease straps testN) s) s

/-- In Retired TMR_PINF5 resets to 0: GPIO22 and GPIO23 are inputs (R43, R406). -/
def retiredPins (s : State) : State := onlyIf (isRetired s) (regSet (TMR_PINFn.reg 5) 0) s

/-- The system reset is released (R98, R346): the islands run, VHOLD is measured, and the generator starts a Steep. -/
def releaseReset (vhold vaon : Nat) (s : State) : State :=
  startSteep (measureHold true vhold vaon (powerAll (retiredPins { s with
    pwr := { s.pwr with inReset := false }
    pins := { s.pins with lfdSafe := false, resetN := false } })))

/-- The release needs fast content and a supply. -/
def mayRelease (s : State) : Bool := s.pwr.inReset && !s.pwr.vaonDown && fastContent s && !s.pwr.qual

/-- SYSTEM_RESET_RELEASE (R98, R346): RESET_N is high again, or the wait after a power-on reset is over. -/
def execSystemResetRelease (t vhold vaon : Nat) (s : State) : Host.Outcome State Fault Refusal :=
  outerCommand t (fun s => onlyIf (mayRelease s) (releaseReset vhold vaon) s) s

/-- A brown-out (R99, R347): safe state, STARTEN low, transmitters off, the emergency drain of which `written` words
reach the array, and the system reset. -/
def brownOut (written : Nat) (torn : TornWord) (s : State) : State :=
  let cut := decide (written < bufWords s)
  let s1 := emergencyDrain (if cut then some written else none) torn (transmittersOff (safePads s))
  let s2 := systemReset (setFld PWR_RST_CAUSE.BOD 1 (bump PWR_CNT.BOD s1))
  setFld (if cut then NVS_STATUS.DRAIN_CUT else NVS_STATUS.DRAIN_DONE) 1 s2

/-- BROWN_OUT (R99). -/
def execBrownOut (t written : Nat) (torn : TornWord) (s : State) : Host.Outcome State Fault Refusal :=
  outerCommand t (fun s => onlyIf (!s.pwr.vaonDown) (brownOut written torn) s) s

/-- BROWN_OUT_RELEASE (R99): the supply has been above its threshold for 1.0 ms; while RESET_N is low the reset holds. -/
def execBrownOutRelease (t vhold vaon : Nat) (s : State) : Host.Outcome State Fault Refusal :=
  outerCommand t (fun s => onlyIf (mayRelease s && !s.pins.resetN) (releaseReset vhold vaon) s) s

/-! ## Hangs -/

/-- Island by its number in Table 01.1. -/
def islandOf (n : Nat) : Option Island :=
  [Island.aon, .drover, .fabric, .vrdcry, .lfs, .lfa, .uhf, .uwb, .pcie, .nvs, .can, .slow, .rng][n]?

/-- An island has hung (R102): it is reset alone, or at its third hang within 1 s the device is. -/
def islandHang (i : Island) (s : State) : State :=
  let recent := s.pwr.hangs.filter (fun h => now s < h.2 + secTicks 1)
  let s1 := setFld PWR_RST_CAUSE.HANG 1 { s with pwr := { s.pwr with hangs := recent ++ [(i.bit, now s)] } }
  if recent.countP (fun h => h.1 = i.bit) ≥ 2 then systemReset (drainAll s1) else islandReset i 3 s1

/-- ISLAND_HANG (R102): the progress monitor watches every island but AON and Drover, while TIMEBASE counts; one that holds
work and has shown no progress for 10 ms has hung. -/
def execIslandHang (t isl : Nat) (s : State) : Host.Outcome State Fault Refusal :=
  command t (fun s =>
    match islandOf isl with
    | some i => onlyIf (2 ≤ isl && islandOn i s && tbRuns s && quietFor i (msTicks 10) s) (islandHang i) s
    | none => s) s

end Sys2Proof.Machine
end

