-- ==== Sys2Proof/Machine/Power.lean ====
section
/-! DEFINITION. Machine/Power.lean: REFCLK content, its loss and its return; Fallow (R56 to R61, R65, R75 to R79, R89, R90,
R92). -/
namespace Sys2Proof.Machine

/-! ## Content -/

/-- The content class of a measured frequency in units of 10 Hz (Table 03.1). -/
def classOf (freq : Nat) : Content :=
  if 2840000 ≤ freq ∧ freq ≤ 6000000 then .fast38
  else if 1000000 ≤ freq ∧ freq < 2840000 then .fast19
  else if 2000 ≤ freq ∧ freq ≤ 5000 then .slow
  else .invalid

/-- The measured frequency in units of 10 Hz (CLK_MEAS). -/
def noteFreq (freq : Nat) (s : State) : State :=
  setFld CLK_MEAS.FREQ (sat 23 freq) { s with clk := { s.clk with measAt := now s } }

/-- The repeated measurement (R75): the last one made up to now, as long as the checks pass, is kept. -/
def settleMeas (s : State) : State := setFld CLK_MEAS.FREQ (measured s) { s with clk := { s.clk with measAt := now s } }

/-- A content class that may be in force here (Table 03.1, CLK_WATCH_CTL.SLOW_EN). -/
def permitted (c : Content) (s : State) : Bool :=
  match c with
  | .fast38 | .fast19 => true
  | .slow => s.pwr.st == .watch && flag CLK_WATCH_CTL.SLOW_EN s
  | _ => false

/-- The class is fast. -/
def isFast (c : Content) : Bool := c == .fast38 || c == .fast19

/-- Under Fast 19.2 every edge falls on an even tick: an odd TIMEBASE takes one more (R65). -/
def alignEven (c : Content) (s : State) : State := if c == .fast19 && now s % 2 == 1 then passTicks 1 s else s

/-- Fast content is in force from here on, with nothing credited (R60). -/
def takeFast (c : Content) (s : State) : State :=
  alignEven c { s with clk := { s.clk with content := c, lastFast := c }, pwr := { s.pwr with qual := false } }

/-- The credit of a qualification within Watch (R60). -/
def creditWatch (c : Content) (s : State) : State :=
  match c with
  | .slow =>
    let r := s.clk.frac + 63 * 9375
    let s1 := passTicks (r / 8) s
    { s1 with clk := { s1.clk with frac := r % 8 } }
  | .fast38 => passTicks (2 ^ qualK s - 1) s
  | .fast19 => passTicks (2 * (2 ^ qualK s - 1)) s
  | _ => s

/-- Content that is permitted nowhere, or not here, is in force as Invalid: the device remains stopped (R57, R79). -/
def takeInvalid (s : State) : State := { s with clk := { s.clk with content := .invalid }, pwr := { s.pwr with qual := false } }

/-- A qualification completes in Watch: its credit, the armed exit and the held work (R60, R73, R78). -/
def qualifiedWatch (c : Content) (s : State) : State :=
  if c == .slow then creditWatch .slow { s with clk := { s.clk with content := .slow }, pwr := { s.pwr with qual := false } }
  else
    let s1 := takeFast c (creditWatch c s)
    let s2 := match s1.pwr.exitArmed with
      | some k => exitRun k { s1 with pwr := { s1.pwr with exitArmed := none } }
      | none => s1
    runHeld s2

/-- REFCLK_QUALIFIED (R57, R60): the content is classified at the end of a count. Clock loss and Fallow have commands of
their own. -/
def refclkQualified (freq : Nat) (s : State) : State :=
  let c := classOf freq
  if !tbRuns s && !s.clk.lost && !s.pwr.vaonDown && s.pwr.st != .fallow then
    let s1 := noteFreq freq s
    if !permitted c s then takeInvalid s1
    else if s.pwr.st == .watch && !s.pwr.inReset then qualifiedWatch c s1
    else takeFast c s1
  else s

/-- REFCLK_QUALIFIED (R60). -/
def execRefclkQualified (t freq : Nat) (s : State) : Host.Outcome State Fault Refusal :=
  outerCommand t (refclkQualified freq) s

/-- QUALIFICATION_COUNT_START (R56, R61). -/
def execQualificationCountStart (t : Nat) (s : State) : Host.Outcome State Fault Refusal :=
  outerCommand t (fun s => onlyIf (!isFast s.clk.content && s.clk.content != .slow && !s.pwr.vaonDown && s.pwr.st != .fallow)
    (fun s => { s with clk := { s.clk with content := .none }, pwr := { s.pwr with qual := true } }) s) s

/-! ## Stop and loss -/

/-- STARTEN goes static low, and a START_REVOKE that waited for the edge completes (R67, R290). -/
def staticStart (s : State) : State :=
  let s1 := setStarten false false s
  s1.flk.revoke.foldl (fun s p => complete p.1 stOk (revokeResult p.2 s) 0 s) { s1 with flk := { s1.flk with revoke := [] } }

/-- A failed check of Table 03.5 is noted. -/
def noteCheck (why : ClkCheck) (s : State) : State :=
  match why with
  | .missingEdge => settleMeas s
  | .frequency f => setFld CLK_STATUS.FREQ_ERR 1 (bump CLK_LOSS_CNT.FREQ_ERR (noteFreq f s))
  | .pllLock => setFld CLK_STATUS.UNLOCK 1 (bump CLK_LOSS_CNT.UNLOCK (settleMeas s))

/-- The class in force once a check has failed (R59): a frequency of no permitted band is Invalid content; after anything
else there is none until a qualification. -/
def contentAfter (why : ClkCheck) (s : State) : Content :=
  match why with
  | .frequency f => if permitted (classOf f) s then .none else .invalid
  | _ => .none

/-- An island runs on a PLL in Watch (R63, R76): one other than AON and the self-timed RNG is powered, on fast content. -/
def pllInWatch (s : State) : Bool := fastContent s && s.pwr.islands &&& 0xFFE != 0

/-- Whether a check of Table 03.5 is made at all: the lock detectors only where a PLL runs. -/
def checkMade (why : ClkCheck) (s : State) : Bool :=
  match why with
  | .pllLock => s.pwr.st == .run || s.pwr.st == .graze || (s.pwr.st == .watch && pllInWatch s)
  | _ => true

/-- REFCLK has stopped in Watch (R67, R78): TIMEBASE holds. -/
def refclkStop (why : ClkCheck) (s : State) : State :=
  let s1 := setReg64 CLK_LOSS_TB_LO.reg (now s) (bump CLK_LOSS_CNT.STOPS (noteCheck why s))
  endPermission 5 0 (staticStart { s1 with
    clk := { s1.clk with content := contentAfter why s, gapAt := none }, pwr := { s1.pwr with qual := false } })

/-- The edges of a count stop, or a period breaks its rule: no count runs until the next rising edge (R61). -/
def breakCount (s : State) : State := { s with pwr := { s.pwr with qual := false } }

/-- REFCLK_STOP (R78). During a qualification count it ends the count and nothing else: the device is stopped already. -/
def execRefclkStop (t : Nat) (why : ClkCheck) (s : State) : Host.Outcome State Fault Refusal :=
  outerCommand t (fun s =>
    if s.pwr.qual then breakCount s
    else onlyIf (!stopped s && s.pwr.st == .watch && tbRuns s && checkMade why s && !pllInWatch s) (refclkStop why) s) s

/-- Clock loss (Table 03.6): the safe state, STARTEN low, the transmitters off, the drain and the CLOCK_LOST record; then
every island but AON is stopped, and the link is down. In Pen no island runs, and steps 3 and 4 have nothing to do. -/
def clockLoss (why : ClkCheck) (s : State) : State :=
  let s1 := setFld CLK_STATUS.LOST 1 (bump CLK_LOSS_CNT.LOSS (noteCheck why s))
  let s2 := setReg64 CLK_LOSS_TB_LO.reg (now s1) s1
  let s3 := transmittersOff (endPermission 6 0 (setStarten false false (safePads s2)))
  let s4 := if s.pwr.st == .pen then s3 else drainAll (append 0x10 (contentCode s.clk.content) 0 (abortEntry s3))
  setFld HIF_LINK.LSTATE 0 { s4 with
    nv := { s4.nv with ledgerReady := false, loaded := false }
    clk := { s4.clk with content := contentAfter why s, lost := true, gapAt := none }
    hif := { s4.hif with link := .down }
    fold := { s4.fold with op := none, queue := [], wait := [] } }

/-- CLOCK_LOSS (R76); during a qualification count it ends the count. -/
def execClockLoss (t : Nat) (why : ClkCheck) (s : State) : Host.Outcome State Fault Refusal :=
  outerCommand t (fun s =>
    if s.pwr.qual then breakCount s
    else onlyIf (!stopped s && fastContent s && checkMade why s && (s.pwr.st != .watch || pllInWatch s) && s.pwr.st != .fallow)
      (clockLoss why) s) s

/-! ## Return from clock loss -/

/-- Registers that a clock-loss recovery keeps (R77). -/
def recoveryKeeps (o : Nat) : Bool := aonReg o || hifReg o || counterRegs.contains o

/-- Every island but AON starts from its reset values with MRAM kept; the Caddy's generations go on (R77, R303). -/
def restartUnits (keep : Nat → Bool) (s : State) : State :=
  let latched := rngState s == 4
  let s1 := keepLatch latched (wipeCaddy (clearUnits (keepRegs keep s)))
  powerAll (setPState .run { s1 with
    cry := { s1.cry with changes := [] }
    lcy := keptLcy s
    tmr := { s1.tmr with pulses := [] }
    pwr := { s1.pwr with entering := none, exitArmed := none }
    pins := { s1.pins with
      startA := false, startB := false, coexReq := false, coexPri := false,
      pa := false, trsw := false, canStb := true } })

/-- Descriptors in flight at the loss complete with CLOCK_LOST, held for the link (R77). -/
def endLost (s : State) : State :=
  let s1 := s.hif.flight.foldl (fun s f => fail f.d stClockLost 0 s)
    { s with lcy := { s.lcy with steepWait := [], pendAct := none }, lgr := { s.lgr with hostWait := [], buffered := deviceOnly s.lgr.buffered } }
  (List.range 32).foldl (fun s n => unblockDrover n s) s1

/-- The device recovers on content of class `c` (R77); recall and the configuration load follow by their commands. -/
def clockRecovery (c : Content) (s : State) : State :=
  let held := reg64 CLK_LOSS_TB_LO.reg s
  let s1 := takeFast c { s with clk := { s.clk with lost := false } }
  let s2 := append 0x11 (contentCode c) 0 (endLost s1)
  let s3 := endService (resetRecord (setFld PWR_RST_CAUSE.CLKREC 1 s2))
  let s4 := setFlag HIF_STATUS.READY false (restartUnits recoveryKeeps s3)
  startSteep (drivePins (runHeld (post 0x08 stClockLost (leBytes 8 held) s4)))

/-- CLOCK_LOSS_RECOVERY (R77): only fast content ends a clock loss. -/
def execClockLossRecovery (t freq : Nat) (s : State) : Host.Outcome State Fault Refusal :=
  outerCommand t (fun s => onlyIf (s.clk.lost && isFast (classOf freq)) (fun s => clockRecovery (classOf freq) (noteFreq freq s)) s) s

/-! ## Fallow -/

/-- FALLOW_ENTRY (R89, R409, Table 04.4): Service ends; FALLOW_ENTER, the seal, the pinfold and wall-clock records and the
drain; then the islands power down at the commit. -/
def execFallowEntry (t : Nat) (s : State) : Host.Outcome State Fault Refusal :=
  command t (fun s => onlyIf (mayEnter s && selState true s == .fallow) (fun s =>
    enter .fallow (drainAll (storeWall (storePin (sealBlock padFallow (append 0x15 0 0 (endService s))))))) s) s

/-- FALLOW_EDGE_DETECTOR_ARM (R56). -/
def execFallowEdgeDetectorArm (t : Nat) (s : State) : Host.Outcome State Fault Refusal :=
  command t (fun s => onlyIf (s.pwr.st == .fallow) (fun s => { s with pwr := { s.pwr with edgeArmed := true } }) s) s

/-- The triggers that leave Fallow (Table 04.6). -/
def leavesFallow (w : WakeSrc) (s : State) : Bool :=
  match w with
  | .pin n => decide (n < 8) && bit n (fld PWR_WAKE_CTL.EN s)
  | .refclk => s.pwr.edgeArmed
  | .perst => !s.pins.perst
  | _ => false

/-- Registers that Fallow retains (R82). -/
def fallowKeeps (o : Nat) : Bool := aonReg o || counterRegs.contains o

/-- The exit from Fallow (R82, Table 04.5): the islands restart, recall and the configuration load run, Drover boots, and
FALLOW_EXIT is recorded; then a WAKE pin's event and poll. -/
def fallowExit (w : WakeSrc) (c : Content) (s : State) : State :=
  let s1 := restartUnits fallowKeeps (takeFast c (setFld PWR_RST_CAUSE.FALLOW 1 (setSrc (wakeCode w) s)))
  let s2 := loadConfig (recallAll (startSteep { s1 with
    pwr := { s1.pwr with edgeArmed := false }
    hif := { Hif.reset with
      dispNo := s.hif.dispNo, back := s.hif.back, sent := s.hif.sent, backlog := s.hif.backlog, overflow := s.hif.overflow, evtSeq := s.hif.evtSeq } }))
  let s3 := append 0x16 0 0 (if s2.lcy.drover == .booting then droverBoot s2 else s2)
  match w with
  | .pin n => wakeAct n (now s3) 4 none (noteWakeSeen n (seeActive n s3))
  | _ => s3

/-- FALLOW_EXIT (R56, R90): the trigger, and the frequency that the qualification found. -/
def execFallowExit (t : Nat) (w : WakeSrc) (freq : Nat) (s : State) : Host.Outcome State Fault Refusal :=
  command t (fun s => onlyIf (s.pwr.st == .fallow && leavesFallow w s && isFast (classOf freq))
    (fun s => fallowExit w (classOf freq) (noteFreq freq s)) s) s

/-- CAN_WAKE (R92): a dominant edge on CAN_RX leaves Graze and Pen; in Watch it powers the CAN island alone, until the frame
that it announced has ended and what answers it is sent (DESIGN CHOICE, log entry 96). -/
def execCanWake (t : Nat) (s : State) : Host.Outcome State Fault Refusal :=
  command t (fun s =>
    match s.pwr.st with
    | .graze | .pen => exitRun 0x0E s
    | .watch => { s with pwr := { s.pwr with canAsked := true, islands := s.pwr.islands ||| 0x400 } }
    | .run => if s.pwr.entering.isSome then exitRun 0x0E s else s
    | .fallow => s) s

end Sys2Proof.Machine
end

