-- ==== Sys2Proof/Machine/BarWrite.lean ====
section
/-! DEFINITION. Machine/BarWrite.lean: writes to BAR0 and BAR2 (R7 to R9, R108): the fields of every register with their
ranges, the writes that act, and the writes that a running operation holds. -/
namespace Sys2Proof.Machine

/-! ## Fields and ranges -/

/-- A signed range of a field of `w` bits. -/
def signedRange (w : Nat) (lo hi : Int) : Nat → Bool := fun x => decide (lo ≤ signed w x) && decide (signed w x ≤ hi)

/-- RW fields of a block's registers with their ranges, from offset 0 (R9). -/
abbrev Rows : Type := List (Field × (Nat → Bool))

/-- RW fields of the CLK_ and PWR_ registers that have no write of their own (Tables 03.8 and 04.10). A FOLD of 255 is taken
as it is written: Table 04.10 gives it no range (DESIGN CHOICE, log entry 94). -/
def clkPwrRows (off : Nat) : Rows :=
  if off = CLK_GAP_CTL.reg then
    [(CLK_GAP_CTL.SEC_EVT, anyVal), (CLK_GAP_CTL.EPOCH_EVT, anyVal), (CLK_GAP_CTL.SEC_DISC, anyVal),
     (CLK_GAP_CTL.VIOL_EVT, anyVal), (CLK_GAP_CTL.ATTN_EN, anyVal), (CLK_GAP_CTL.SNAP_WIN, inRange 1 250)]
  else if off = CLK_WATCH_CTL.reg then [(CLK_WATCH_CTL.SLOW_EN, anyVal), (CLK_WATCH_CTL.FAST_REQ_WAKEN, anyVal)]
  else if off = PWR_CTL.reg then [(PWR_CTL.IDLE_US, inRange 0 1000)]
  else if off = PWR_WAKE_CTL.reg then
    [(PWR_WAKE_CTL.EN, anyVal), (PWR_WAKE_CTL.POL, anyVal), (PWR_WAKE_CTL.POLL, anyVal),
     (PWR_WAKE_CTL.DEBOUNCE, anyVal), (PWR_WAKE_CTL.HOSTWAKE, anyVal)]
  else if off = PWR_WAKE_BIND0.reg then (List.range 4).map (fun j => (PWR_WAKE_BIND0.FOLD j, anyVal))
  else if off = PWR_WAKE_BIND1.reg then (List.range 4).map (fun j => (PWR_WAKE_BIND1.FOLD j, anyVal))
  else []

/-- TRIM of a channel: -2000 to +2000 Hz. -/
def trimOk : Nat → Bool := signedRange 12 (-2000) 2000

/-- RW fields of the LFE_ registers (Table 06.15); an absent channel has none (Table 06.17). -/
def lfeRows (p : Part) (off : Nat) : Rows :=
  if off = LFE_CTL.reg then
    [(LFE_CTL.RING_AUTO, anyVal), (LFE_CTL.FF_AUTO, anyVal), (LFE_CTL.FF_EVT, anyVal), (LFE_CTL.RAMP, inRange 0 4)]
  else if off = LFE_CARRIER.reg then [(LFE_CARRIER.F_HZ, inRange 20000 150000)]
  else if off = LFE_SENSE.reg then
    [(LFE_SENSE.FF_DELAY, inRange 5 100), (LFE_SENSE.FF_WIN, inRange 10 100), (LFE_SENSE.FF_BAND, anyVal),
     (LFE_SENSE.FF_THR, inRange 1 2047)]
  else if off = LFE_THR.reg then [(LFE_THR.OPEN_THR, inRange 1 2047)]
  else if off = LFE_DIAG_CTL.reg then
    [(LFE_DIAG_CTL.BURST, inRange 16 255), (LFE_DIAG_CTL.RING, inRange 10 100),
     (LFE_DIAG_CTL.QMIN_SHORT, inRange 1 15), (LFE_DIAG_CTL.DETUNE_THR, inRange 1 100)]
  else if off = LFE_COIL_CTL.reg then
    [(LFE_COIL_CTL.F_HZ, inRange 100000 150000), (LFE_COIL_CTL.DRIVE, anyVal),
     (⟨LFE_COIL_CTL.reg, 20, coilCount p⟩, anyVal)]
  else if 0x0C00 ≤ off ∧ off < 0x1000 ∧ off % 8 = 0 ∧ (off - 0x0C00) / 8 < lfChannels p then
    let n := (off - 0x0C00) / 8
    [(LFE_CHn_CFG.EN n, anyVal), (LFE_CHn_CFG.NET n, anyVal), (LFE_CHn_CFG.TRIM n, trimOk),
     (LFE_CHn_CFG.DUTY n, inRange 4 64), (LFE_CHn_CFG.POS n, anyVal)]
  else []

/-- RW fields of UHF_CH0_MOD or UHF_CH1_MOD, at `off`. -/
def modRows (off : Nat) : Rows :=
  [({ UHF_CH0_MOD.MOD with off := off }, inRange 0 2), ({ UHF_CH0_MOD.BT with off := off }, inRange 0 1),
   ({ UHF_CH0_MOD.RATE with off := off }, inRange 96 1000), ({ UHF_CH0_MOD.DEV with off := off }, inRange 10 1000)]

/-- RW fields of the UHF_ registers (Table 09.8). -/
def uhfRows (off : Nat) : Rows :=
  if off = UHF_CTL.reg then [(UHF_CTL.BG_CAL, anyVal), (UHF_CTL.BG_PERIOD, inRange 1 255)]
  else if off = UHF_CH0_FREQ.reg then [(UHF_CH0_FREQ.F_KHZ, inRange 300000 960000)]
  else if off = UHF_CH1_FREQ.reg then [(UHF_CH1_FREQ.F_KHZ, inRange 300000 960000)]
  else if off = UHF_CH0_MOD.reg then modRows off
  else if off = UHF_CH1_MOD.reg then modRows off
  else if off = UHF_RXCFG.reg then [(UHF_RXCFG.RSSI_MIN, signedRange 8 (-120) (-40)), (UHF_RXCFG.SYNC_ERR, anyVal)]
  else if off = UHF_TXLIM.reg then [(UHF_TXLIM.TX_MAX, signedRange 8 (-20) 10)]
  else if off = UHF_COEX_CTL.reg then
    [(UHF_COEX_CTL.EN, anyVal), (UHF_COEX_CTL.TIMEOUT, inRange 1 255), (UHF_COEX_CTL.LEAD, anyVal)]
  else if off = UHF_COEX_POL.reg then [(⟨UHF_COEX_POL.reg, 0, 12⟩, anyVal)]
  else []

/-- A port number in range on the part. -/
def portOk (p : Part) (x : Nat) : Bool := decide (x < uwbPorts p)

/-- RW fields of the UWB_ registers (Table 10.12); none where the unit or the port is absent (R3, Table 10.13). -/
def uwbRows (p : Part) (off : Nat) : Rows :=
  if p = .blv8032n then []
  else if off = UWB_CTL.reg then
    [(UWB_CTL.BG_CAL, anyVal), (UWB_CTL.CHANNEL, anyVal), (UWB_CTL.PCODE, inRange 9 12),
     (UWB_CTL.DEF_PORT, fun x => (x == 7 && p == .blv8128) || portOk p x), (UWB_CTL.STSQ_MIN, inRange 0 100),
     (UWB_CTL.BG_PERIOD, inRange 1 255)]
  else if off = UWB_TXCFG.reg then [(UWB_TXCFG.TX_ATT, anyVal)]
  else if 0x1610 ≤ off ∧ off < 0x1610 + 16 * uwbPorts p then
    let n := (off - 0x1610) / 16
    if off % 16 = 0 then
      [(UWB_PORTn_CFG.EN n, anyVal), (UWB_PORTn_CFG.PARTNER n, portOk p), (UWB_PORTn_CFG.PDOA_EN n, anyVal),
       (UWB_PORTn_CFG.SPACING n, anyVal)]
    else if off % 16 = 12 then
      [(UWB_PORTn_PHS.PH5 n, signedRange 16 (-18000) 18000), (UWB_PORTn_PHS.PH9 n, signedRange 16 (-18000) 18000)]
    else [(⟨off, 0, 32⟩, anyVal)]
  else []

/-- RW fields of the registers of the other blocks. -/
def miscRows (off : Nat) : Rows :=
  if off = HIF_CTL.reg then [(HIF_CTL.EN, anyVal)]
  else if off = FLD_CTL.reg then [(FLD_CTL.VIEW, anyVal)]
  else if off = VRD_CTL.reg then
    [(VRD_CTL.EVT, inRange 0 2), (VRD_CTL.MARGIN, anyVal), (VRD_CTL.MAC_DUMMY, anyVal)]
  else if off = FLK_CTL.reg then [(FLK_CTL.PIN_EVT, anyVal), (FLK_CTL.ECU_EVT, anyVal), (FLK_CTL.PIN_UP, anyVal)]
  else if off = FLK_START_CTL.reg then [(FLK_START_CTL.HOLD_S, inRange 0 3600), (FLK_START_CTL.EN, anyVal)]
  else if off = FLK_CAN_CFG.reg then [(FLK_CAN_CFG.EN, anyVal), (FLK_CAN_CFG.DRATE, inRange 0 2)]
  else if off = CRY_CTL.reg then [(CRY_CTL.DUMMY_MAX, anyVal)]
  else if off = RNG_TEST_PAT.reg then [(RNG_TEST_PAT.PAT, anyVal)]
  else if off = NVS_CTL.reg then [(NVS_CTL.SCRUB_EN, anyVal), (NVS_CTL.SCRUB_H, inRange 1 255)]
  else if off = MON_CTL.reg then
    [(MON_CTL.BAUD, inRange 0 6), (MON_CTL.IDLE_S, inRange 10 3600), (MON_CTL.EVT_ECHO, anyVal)]
  else []

/-- RW fields of a register. -/
def rwRows (p : Part) (off : Nat) : Rows :=
  if off < 0x0400 then miscRows off
  else if off < 0x0800 then clkPwrRows off
  else if off < 0x1000 then lfeRows p off
  else if off < 0x1400 then miscRows off
  else if off < 0x1600 then uhfRows off
  else if off < 0x1800 then uwbRows p off
  else miscRows off

/-- ERR_RANGE of the block of a register (R9). -/
def errRange (off : Nat) : Field :=
  if off < 0x0400 then HIF_STATUS.ERR_RANGE
  else if off < 0x0600 then CLK_STATUS.ERR_RANGE
  else if off < 0x0800 then PWR_STATUS.ERR_RANGE
  else if off < 0x1000 then LFE_STATUS.ERR_RANGE
  else if off < 0x1400 then FLD_STATUS.ERR_RANGE
  else if off < 0x1600 then UHF_STATUS.ERR_RANGE
  else if off < 0x1800 then UWB_STATUS.ERR_RANGE
  else if off < 0x1C00 then VRD_STATUS.ERR_RANGE
  else if off < 0x2000 then FLK_STATUS.ERR_RANGE
  else if off < 0x2200 then CRY_STATUS.ERR_RANGE
  else if off < 0x2400 then RNG_STATUS.ERR_RANGE
  else if off < 0x2600 then NVS_STATUS.ERR_RANGE
  else if off < 0x2800 then LGR_STATUS.ERR_RANGE
  else if off < 0x2C00 then TMR_STATUS.ERR_RANGE
  else if off < 0x3000 then LCY_STATUS.ERR_RANGE
  else MON_STATUS.ERR_RANGE

/-- W1C fields of the registers below 0x1600 (R7). -/
def w1cLow (off : Nat) : List Field :=
  if off = HIF_FAULT.reg then
    [HIF_FAULT.SQ_FETCH, HIF_FAULT.DB_RANGE, HIF_FAULT.DB_DISABLED, HIF_FAULT.CFG_WHILE_EN, HIF_FAULT.BACKLOG_OVF,
     HIF_FAULT.DATA_DMA]
  else if off = CLK_STATUS.reg then [CLK_STATUS.LOST, CLK_STATUS.FREQ_ERR, CLK_STATUS.UNLOCK]
  else if off = PWR_RST_CAUSE.reg then
    [PWR_RST_CAUSE.POR, PWR_RST_CAUSE.PIN, PWR_RST_CAUSE.BOD, PWR_RST_CAUSE.CLKREC, PWR_RST_CAUSE.FALLOW,
     PWR_RST_CAUSE.WDT, PWR_RST_CAUSE.HOSTISL, PWR_RST_CAUSE.LINK, PWR_RST_CAUSE.HANG]
  else if off = LFE_CTL.reg then [LFE_CTL.COMMIT_ERR]
  else if off = LFE_STATUS.reg then [LFE_STATUS.FF_SEEN, LFE_STATUS.SAT_SEEN, LFE_STATUS.COIL_FAULT]
  else if off = FLD_CTL.reg then [FLD_CTL.COMMIT_ERR]
  else if off = UHF_CTL.reg then [UHF_CTL.COMMIT_ERR]
  else if off = UHF_STATUS.reg then [UHF_STATUS.DENIED, UHF_STATUS.ABORT, UHF_STATUS.BG_ABORT, UHF_STATUS.SPAN_ERR]
  else []

/-- W1C fields of the registers from 0x1600. -/
def w1cHigh (off : Nat) : List Field :=
  if off = UWB_CTL.reg then [UWB_CTL.COMMIT_ERR]
  else if off = UWB_STATUS.reg then [UWB_STATUS.BG_ABORT, UWB_STATUS.STS_FAIL, UWB_STATUS.LATE]
  else if off = VRD_CTL.reg then [VRD_CTL.COMMIT_ERR]
  else if off = VRD_STATUS.reg then [VRD_STATUS.SWAP_ERR]
  else if off = FLK_CTL.reg then [FLK_CTL.COMMIT_ERR]
  else if off = FLK_STATUS.reg then [FLK_STATUS.PIN_LOST, FLK_STATUS.TRACK_FULL]
  else if off = CRY_CTL.reg then [CRY_CTL.COMMIT_ERR]
  else if off = NVS_STATUS.reg then [NVS_STATUS.TWIN, NVS_STATUS.REPAIRED, NVS_STATUS.DRAIN_DONE, NVS_STATUS.DRAIN_CUT]
  else if off = LGR_STATUS.reg then [LGR_STATUS.FULL, LGR_STATUS.LOST, LGR_STATUS.BREAK, LGR_STATUS.LATE]
  else if off = TMR_CTL.reg then [TMR_CTL.COMMIT_ERR]
  else if off = TMR_STATUS.reg then [TMR_STATUS.LATE_SEEN, TMR_STATUS.OVR_SEEN, TMR_STATUS.MISS_SEEN]
  else []

/-- W1C fields of a register; every block's ERR_RANGE is one (R7, R9). -/
def w1cRows (off : Nat) : List Field :=
  (if (errRange off).off = off then [errRange off] else []) ++ w1cLow off ++ w1cHigh off

/-! ## Counter clears -/

/-- A whole register. -/
def wholeReg (off : Nat) : Field := ⟨off, 0, 32⟩

/-- The clear bits of a CNT_CLR register with what each clears. -/
def clrRows (off : Nat) : List (Field × List Field) :=
  if off = CLK_CNT_CLR.reg then
    [(CLK_CNT_CLR.MARK, [wholeReg CLK_MARK_CNT.reg]), (CLK_CNT_CLR.VIOL, [wholeReg CLK_VIOL_CNT.reg]),
     (CLK_CNT_CLR.LOSS, [wholeReg CLK_LOSS_CNT.reg])]
  else if off = HIF_CNT_CLR.reg then
    [(HIF_CNT_CLR.VIOL, [wholeReg HIF_VIOL_CNT.reg]), (HIF_CNT_CLR.DRV, [HIF_DRV_Q.HWM, HIF_DRV_Q.STALLS])]
  else if off = LFE_CNT_CLR.reg then [(LFE_CNT_CLR.CNT, [wholeReg LFE_CNT.reg])]
  else if off = FLD_CNT_CLR.reg then [(FLD_CNT_CLR.CNT, [wholeReg FLD_CNT.reg])]
  else if off = UHF_CNT_CLR.reg then
    [(UHF_CNT_CLR.OBN, [wholeReg UHF_OBN_CNT0.reg, wholeReg UHF_OBN_CNT1.reg]),
     (UHF_CNT_CLR.COEX, [wholeReg UHF_COEX_CNT.reg])]
  else if off = UWB_CNT_CLR.reg then [(UWB_CNT_CLR.CNT, [wholeReg UWB_CNT0.reg, wholeReg UWB_CNT1.reg])]
  else if off = VRD_CNT_CLR.reg then
    [(VRD_CNT_CLR.CNT, [wholeReg VRD_CNT0.reg, wholeReg VRD_CNT1.reg, wholeReg VRD_CNT2.reg]),
     (VRD_CNT_CLR.LAST, [VRD_LAST.MAX_CYCLES, VRD_LAST.WAIT_MAX])]
  else if off = FLK_CNT_CLR.reg then
    [(FLK_CNT_CLR.AUTH, [wholeReg FLK_AUTH_CNT.reg]), (FLK_CNT_CLR.COIL, [wholeReg FLK_COIL_CNT.reg]),
     (FLK_CNT_CLR.ECU, [wholeReg FLK_ECU_CNT0.reg, wholeReg FLK_ECU_CNT1.reg]),
     (FLK_CNT_CLR.PIN, [FLK_PIN_CNT.ENGAGED])]
  else if off = CRY_CNT_CLR.reg then
    [(CRY_CNT_CLR.CNT, [wholeReg CRY_CNT0.reg, wholeReg CRY_CNT1.reg, wholeReg CRY_PKE_CNT.reg])]
  else if off = RNG_CNT_CLR.reg then [(RNG_CNT_CLR.CNT, [wholeReg RNG_CNT0.reg, wholeReg RNG_RESEED_CNT.reg])]
  else if off = NVS_CNT_CLR.reg then
    [(NVS_CNT_CLR.ECC, [wholeReg NVS_ECC_CNT.reg, wholeReg NVS_ERR_ADDR.reg]),
     (NVS_CNT_CLR.REC, [wholeReg NVS_REC_CNT.reg]), (NVS_CNT_CLR.TALLY, [wholeReg NVS_TALLY_CNT.reg])]
  else if off = LGR_CNT_CLR.reg then
    [(LGR_CNT_CLR.CNT, [wholeReg LGR_CNT0.reg, wholeReg LGR_CNT1.reg, wholeReg LGR_CNT2.reg])]
  else if off = TMR_CNT_CLR.reg then [(TMR_CNT_CLR.CNT, [wholeReg TMR_CNT.reg])]
  else if off = LCY_CNT_CLR.reg then [(LCY_CNT_CLR.CNT, [wholeReg LCY_CNT.reg])]
  else if off = MON_CNT_CLR.reg then [(MON_CNT_CLR.CNT, [wholeReg MON_CNT.reg])]
  else []

/-- Clears fields. -/
def clearFields (fs : List Field) (s : State) : State := fs.foldl (fun s f => setFld f 0 s) s

/-- A write to a CNT_CLR register. -/
def writeClr (off : Nat) (v : Word) (s : State) : State :=
  (clrRows off).foldl (fun s r => if r.1.of v = 1 then clearFields r.2 s else s) s

/-! ## Plain writes -/

/-- Some field of a write is out of range. -/
def rowsBad (rows : Rows) (v : Word) : Bool := rows.any (fun r => !r.2 (r.1.of v))

/-- The register's word after a write: fields in range take the value, the others keep theirs (R9). -/
def rowsWord (rows : Rows) (v w : Word) : Word :=
  rows.foldl (fun w r => if r.2 (r.1.of v) then r.1.put (r.1.of v) w else w) w

/-- A running operation holds writes to the register (R163, R223, R245). -/
def held (off : Nat) (s : State) : Bool :=
  if 0x0800 ≤ off ∧ off < 0x1000 then lfRuns s
  else if UHF_CH0_FREQ.reg ≤ off ∧ off ≤ UHF_COEX_POL.reg then radioBusy s
  else if 0x1600 ≤ off ∧ off < 0x1800 then uwbBusy s
  else false

/-- A write to the RW fields of a register (R7, R9). -/
def writeRows (off : Nat) (v : Word) (s : State) : State :=
  let rows := rwRows s.part off
  if rows.isEmpty then s
  else
    let s1 := if rowsBad rows v then setFld (errRange off) 1 s else s
    holdWrite (held off s1) off (rowsWord rows v (regNow off s1)) s1

/-- A write to LFE_SENSE: a sum of FF_DELAY and FF_WIN above 120 keeps both fields (R163). -/
def writeSense (v : Word) (s : State) : State :=
  let old := regNow LFE_SENSE.reg s
  let new := rowsWord (lfeRows s.part LFE_SENSE.reg) v old
  if LFE_SENSE.FF_DELAY.of new + LFE_SENSE.FF_WIN.of new > 120 then
    setFld LFE_STATUS.ERR_RANGE 1 (writeRows LFE_SENSE.reg
      (LFE_SENSE.FF_DELAY.put (LFE_SENSE.FF_DELAY.of old) (LFE_SENSE.FF_WIN.put (LFE_SENSE.FF_WIN.of old) v)) s)
  else writeRows LFE_SENSE.reg v s

/-- A write to a shadowed clock register (R80). -/
def writeShadow (off : Nat) (v : Word) (s : State) : State :=
  let rows := clkPwrRows off
  let s1 := setFld CLK_STATUS.SHADOW_PEND 1 (if rowsBad rows v then setFld CLK_STATUS.ERR_RANGE 1 s else s)
  if off = CLK_GAP_CTL.reg then
    { s1 with clk := { s1.clk with shGap := some (rowsWord rows v (s.clk.shGap.getD (regGet off s))) } }
  else { s1 with clk := { s1.clk with shWatch := some (rowsWord rows v (s.clk.shWatch.getD (regGet off s))) } }

/-! ## Writes that act -/

/-- Byte `j` of a word. -/
def wordByte (j : Nat) (v : Word) : Nat := v.toNat / 2 ^ (8 * j) % 256

/-- A write to FLD_LPARn, FLD_FPARn or FLD_FDEFn goes to the staging copy (R167, R181). -/
def writeStaging (off : Nat) (v : Word) (s : State) : State :=
  let put (t : Tree) : State := { s with fold := { s.fold with staging := t } }
  let t := s.fold.staging
  if off < 0x1100 then
    let i := off - 0x1040
    put { t with lpar := (List.range 4).foldl (fun l j => if leafPresent (i + j) s then l.set (i + j) (wordByte j v) else l) t.lpar }
  else if off < 0x1200 then
    let i := off - 0x1100
    put { t with fpar := (List.range 4).foldl (fun l j => l.set (i + j) (wordByte j v)) t.fpar }
  else
    let i := 8 * (off - 0x1200)
    put { t with fdef := (List.range 32).foldl (fun l j => l.set (i + j) (v.getLsbD j)) t.fdef }

/-- A write to FLD_CTL: VIEW, and APPLY, COMMIT and DISCARD in that order (R167, R169, R181). -/
def writeFldCtl (v : Word) (s : State) : State :=
  let s1 := if FLD_CTL.APPLY.of v = 1 then applyTree s else s
  let s2 := if FLD_CTL.COMMIT.of v = 1 then (commitTree s1).1 else s1
  if FLD_CTL.DISCARD.of v = 1 then discardTree s2 else s2

/-- A write to VRD_CTL: activation and commit (R263, R266). -/
def writeVrdCtl (v : Word) (s : State) : State :=
  let s1 := activate (VRD_CTL.ACT_RULES.of v == 1) (VRD_CTL.ACT_MAP.of v == 1) s
  if VRD_CTL.COMMIT.of v = 1 then commitSetup recVrd VRD_CTL.VALID VRD_CTL.COMMIT_ERR (setupBytes vrdSetup s1) s1 else s1

/-- A write to MON_CTL stores it (R426). -/
def storeMon (s : State) : State := (recStore recMon (setupBytes [MON_CTL.reg] s) s).1

/-- What a write does beyond its RW and W1C fields. -/
def writeActs (off : Nat) (v : Word) (s : State) : State :=
  if off = LFE_CTL.reg then (if LFE_CTL.COMMIT.of v = 1 then commitLfe s else s)
  else if off = FLD_CTL.reg then writeFldCtl v s
  else if off = UHF_CTL.reg then (if UHF_CTL.COMMIT.of v = 1 then commitUhf s else s)
  else if off = UWB_CTL.reg then (if UWB_CTL.COMMIT.of v = 1 then commitUwb s else s)
  else if off = VRD_CTL.reg then writeVrdCtl v s
  else if off = FLK_CTL.reg then
    (if FLK_CTL.COMMIT.of v = 1 then commitSetup recFlk FLK_CTL.VALID FLK_CTL.COMMIT_ERR (setupBytes flkSetup s) s else s)
  else if off = FLK_START_CTL.reg then (if FLK_START_CTL.EN.of v = 0 then endPermission 7 0 s else s)
  else if off = CRY_CTL.reg then
    (if CRY_CTL.COMMIT.of v = 1 then commitSetup recCry CRY_CTL.VALID CRY_CTL.COMMIT_ERR (setupBytes crySetup s) s else s)
  else if off = TMR_CTL.reg then
    (if TMR_CTL.COMMIT.of v = 1 then commitSetup recTmr TMR_CTL.VALID TMR_CTL.COMMIT_ERR (setupBytes tmrSetup s) s else s)
  else if off = MON_CTL.reg then storeMon s
  else s

/-- A write to a register without a write of its own: W1C bits, RW fields, counters, and what it triggers. -/
def writePlain (off : Nat) (v : Word) (s : State) : State :=
  writeActs off v (writeClr off v (writeRows off v (wrW1cs (w1cRows off) v s)))

/-- A write to the MSI-X table (Table 05.5): message address, data and the mask bit (R130). -/
def writeMsix (o : Nat) (v : Word) (s : State) : State :=
  let n := (o - 0x0800) / 16
  let e := s.hif.msix.getD n MsixEntry.reset
  let put (x : MsixEntry) : State := { s with hif := { s.hif with msix := s.hif.msix.set n x } }
  if o % 16 = 0 then put { e with addr := BitVec.ofNat 64 (e.addr.toNat / 2 ^ 32 * 2 ^ 32 + v.toNat) }
  else if o % 16 = 4 then put { e with addr := BitVec.ofNat 64 (e.addr.toNat % 2 ^ 32 + 2 ^ 32 * v.toNat) }
  else if o % 16 = 8 then put { e with data := v }
  else maskVector n (v.getLsbD 0) s

/-- A write to BAR2 (Table 05.5). -/
def writeBar2 (o : Nat) (v : Word) (s : State) : State :=
  if o < 0x0200 then
    (if o % 16 = 0 then sqTail (o / 16) (v.toNat % 4096) s
     else if o % 16 = 8 then cqHead (o / 16) (v.toNat % 4096) s
     else s)
  else if 0x0800 ≤ o ∧ o < 0x0A20 then writeMsix o v s
  else s

/-- An aligned 32-bit write to BAR0 at `off`, or to BAR2 at `off - 0x10000` (R7, R108). -/
def barStore (off : Nat) (v : Word) (s : State) : State :=
  if 0x10000 ≤ off then writeBar2 (off - 0x10000) v s
  else if 0x0100 ≤ off ∧ off < 0x0400 then
    let r := (off - 0x0100) % 0x18
    if r = 0x10 then writeQpCfg ((off - 0x0100) / 0x18) v s
    else if r = 0x14 then (if (qp ((off - 0x0100) / 0x18) s).enabled then cfgViol s else s)
    else writeRingBase ((off - 0x0100) / 0x18) off v s
  else if off = CLK_GAP_CTL.reg ∨ off = CLK_WATCH_CTL.reg then writeShadow off v s
  else if off = PWR_SCHED_CTL.reg then writeSchedCtl v s
  else if 0x0620 ≤ off ∧ off < 0x0660 then writeSched ((off - 0x0620) / 4) v s
  else if off = PWR_ISLAND_RST.reg then writeIslandRst v s
  else if off = LFE_SENSE.reg then writeSense v s
  else if (0x1040 ≤ off ∧ off < 0x10C8) ∨ (0x1100 ≤ off ∧ off < 0x1220) then writeStaging off v s
  else if 0x1600 ≤ off ∧ off < 0x1800 ∧ s.part = .blv8032n then s
  else if off = RNG_CTL.reg then writeRngCtl v s
  else if off = LGR_CTL.reg then writeLgrCtl v s
  else if 0x2820 ≤ off ∧ off < 0x2838 then writePinf ((off - 0x2820) / 4) v s
  else if off = LCY_CTL.reg then writeLcyCtl v s
  else writePlain off v s

/-- A 32-bit write (R8): a misaligned one is discarded, and one to a latched high word lets go of the latch (log entry
106). -/
def barWrite (off : Nat) (v : Word) (s : State) : State :=
  if off % 4 ≠ 0 then s else barStore off v { s with latchHi := s.latchHi.filter (fun p => p.1 ≠ off) }

/-! ## The commands -/

/-- A 32-bit register write of the host at tick `t`: the PCIE island takes it while it is powered. The write is a TLP, so
it wakes the device from Graze and Pen, or aborts an entry (Table 04.6). -/
def regWrite (t off : Nat) (v : Word) (s : State) : Host.Outcome State Fault Refusal :=
  command t (fun s => onlyIf (islandOn .pcie s) (fun s => barWrite off v (tlpWake s)) s) s

/-- REGISTER_WRITE (R7, R8, R9, R108): only a 32-bit access is taken, and one of another width is discarded. -/
def execRegisterWrite (t : Nat) (a : BarAccess) (v : Word) (s : State) : Host.Outcome State Fault Refusal :=
  command t (fun s => onlyIf (islandOn .pcie s)
    (fun s => onlyIf (a.size == 4) (barWrite a.off v) (tlpWake s)) s) s

/-- HIF_CTL_EN_WRITE (R111). -/
def execHifCtlEnWrite (t : Nat) (v : Word) (s : State) : Host.Outcome State Fault Refusal := regWrite t HIF_CTL.reg v s

/-- QP_ENABLE (R110): a write to QPn_CFG. -/
def execQpEnable (t n : Nat) (v : Word) (s : State) : Host.Outcome State Fault Refusal :=
  command t (fun s => onlyIf (n < 32 && islandOn .pcie s) (fun s => writeQpCfg n v (tlpWake s)) s) s

/-- QP_DISABLE (R110): a write to QPn_CFG that sets a size to 0. -/
def execQpDisable (t n : Nat) (v : Word) (s : State) : Host.Outcome State Fault Refusal :=
  command t (fun s => onlyIf (n < 32 && islandOn .pcie s) (fun s =>
    writeQpCfg n (if (QPn_CFG.SQ_SIZE n).of v = 0 ∨ (QPn_CFG.CQ_SIZE n).of v = 0 then v else (QPn_CFG.SQ_SIZE n).put 0 v)
      (tlpWake s)) s) s

/-- CLK_SHADOW_WRITE (R80): a write to CLK_GAP_CTL or CLK_WATCH_CTL. -/
def execClkShadowWrite (t off : Nat) (v : Word) (s : State) : Host.Outcome State Fault Refusal :=
  if off = CLK_GAP_CTL.reg ∨ off = CLK_WATCH_CTL.reg then regWrite t off v s else command t id s

/-- PWR_SCHED_ENABLE (R95): a write to PWR_SCHED_CTL or to PWR_SCHED0 to 15. -/
def execPwrSchedEnable (t off : Nat) (v : Word) (s : State) : Host.Outcome State Fault Refusal :=
  if off = PWR_SCHED_CTL.reg ∨ (0x0620 ≤ off ∧ off < 0x0660) then regWrite t off v s else command t id s

/-- PWR_SCHED_COMMIT (R96): a write to PWR_SCHED_CTL with COMMIT set. -/
def execPwrSchedCommit (t : Nat) (v : Word) (s : State) : Host.Outcome State Fault Refusal :=
  regWrite t PWR_SCHED_CTL.reg (PWR_SCHED_CTL.COMMIT.put 1 v) s

/-- PWR_ISLAND_RST (R100). -/
def execPwrIslandRst (t : Nat) (v : Word) (s : State) : Host.Outcome State Fault Refusal := regWrite t PWR_ISLAND_RST.reg v s

/-- LFE_COMMIT (R163): a write to LFE_CTL with COMMIT set. -/
def execLfeCommit (t : Nat) (v : Word) (s : State) : Host.Outcome State Fault Refusal :=
  regWrite t LFE_CTL.reg (LFE_CTL.COMMIT.put 1 v) s

/-- FLD_APPLY (R167): a write to FLD_CTL with APPLY set. -/
def execFldApply (t : Nat) (v : Word) (s : State) : Host.Outcome State Fault Refusal :=
  regWrite t FLD_CTL.reg (FLD_CTL.APPLY.put 1 v) s

/-- FLD_COMMIT (R169): a write to FLD_CTL with COMMIT set. -/
def execFldCommit (t : Nat) (v : Word) (s : State) : Host.Outcome State Fault Refusal :=
  regWrite t FLD_CTL.reg (FLD_CTL.COMMIT.put 1 v) s

/-- FLD_DISCARD (R181): a write to FLD_CTL with DISCARD set. -/
def execFldDiscard (t : Nat) (v : Word) (s : State) : Host.Outcome State Fault Refusal :=
  regWrite t FLD_CTL.reg (FLD_CTL.DISCARD.put 1 v) s

/-- UHF_COMMIT (R223): a write to UHF_CTL with COMMIT set. -/
def execUhfCommit (t : Nat) (v : Word) (s : State) : Host.Outcome State Fault Refusal :=
  regWrite t UHF_CTL.reg (UHF_CTL.COMMIT.put 1 v) s

/-- UWB_COMMIT (R245): a write to UWB_CTL with COMMIT set. -/
def execUwbCommit (t : Nat) (v : Word) (s : State) : Host.Outcome State Fault Refusal :=
  regWrite t UWB_CTL.reg (UWB_CTL.COMMIT.put 1 v) s

/-- VRD_ACT_RULES (R263): a write to VRD_CTL with ACT_RULES set. -/
def execVrdActRules (t : Nat) (v : Word) (s : State) : Host.Outcome State Fault Refusal :=
  regWrite t VRD_CTL.reg (VRD_CTL.ACT_RULES.put 1 v) s

/-- VRD_ACT_MAP (R263): a write to VRD_CTL with ACT_MAP set. -/
def execVrdActMap (t : Nat) (v : Word) (s : State) : Host.Outcome State Fault Refusal :=
  regWrite t VRD_CTL.reg (VRD_CTL.ACT_MAP.put 1 v) s

/-- VRD_COMMIT (R266): a write to VRD_CTL with COMMIT set. -/
def execVrdCommit (t : Nat) (v : Word) (s : State) : Host.Outcome State Fault Refusal :=
  regWrite t VRD_CTL.reg (VRD_CTL.COMMIT.put 1 v) s

/-- FLK_COMMIT (R298): a write to FLK_CTL with COMMIT set. -/
def execFlkCommit (t : Nat) (v : Word) (s : State) : Host.Outcome State Fault Refusal :=
  regWrite t FLK_CTL.reg (FLK_CTL.COMMIT.put 1 v) s

/-- FLK_START_DISABLE (R289): a write to FLK_START_CTL with EN clear. -/
def execFlkStartDisable (t : Nat) (v : Word) (s : State) : Host.Outcome State Fault Refusal :=
  regWrite t FLK_START_CTL.reg (FLK_START_CTL.EN.put 0 v) s

/-- CRY_COMMIT (R323): a write to CRY_CTL with COMMIT set. -/
def execCryCommit (t : Nat) (v : Word) (s : State) : Host.Outcome State Fault Refusal :=
  regWrite t CRY_CTL.reg (CRY_CTL.COMMIT.put 1 v) s

/-- RNG_TEST_SRC_WRITE (R337): a write to RNG_CTL. -/
def execRngTestSrcWrite (t : Nat) (v : Word) (s : State) : Host.Outcome State Fault Refusal := regWrite t RNG_CTL.reg v s

/-- LGR_COMMIT (R387): a write to LGR_CTL with COMMIT set. -/
def execLgrCommit (t : Nat) (v : Word) (s : State) : Host.Outcome State Fault Refusal :=
  regWrite t LGR_CTL.reg (LGR_CTL.COMMIT.put 1 v) s

/-- TMR_COMMIT (R406): a write to TMR_CTL with COMMIT set. -/
def execTmrCommit (t : Nat) (v : Word) (s : State) : Host.Outcome State Fault Refusal :=
  regWrite t TMR_CTL.reg (TMR_CTL.COMMIT.put 1 v) s

/-- TMR_PINF_WRITE (R403): a write to TMR_PINFn, n = 0 to 5. -/
def execTmrPinfWrite (t n : Nat) (v : Word) (s : State) : Host.Outcome State Fault Refusal :=
  command t (fun s => onlyIf (n < 6 && islandOn .pcie s) (fun s => writePinf n v (tlpWake s)) s) s

/-- LCY_COMMIT (R426): a write to LCY_CTL with COMMIT set. -/
def execLcyCommit (t : Nat) (v : Word) (s : State) : Host.Outcome State Fault Refusal :=
  regWrite t LCY_CTL.reg (LCY_CTL.COMMIT.put 1 v) s

/-- MON_CTL_WRITE (R426): a write to MON_CTL. -/
def execMonCtlWrite (t : Nat) (v : Word) (s : State) : Host.Outcome State Fault Refusal := regWrite t MON_CTL.reg v s

/-- CLK_CNT_CLR (R80). -/
def execClkCntClr (t : Nat) (v : Word) (s : State) : Host.Outcome State Fault Refusal := regWrite t CLK_CNT_CLR.reg v s

/-- HIF_CNT_CLR (R108). -/
def execHifCntClr (t : Nat) (v : Word) (s : State) : Host.Outcome State Fault Refusal := regWrite t HIF_CNT_CLR.reg v s

/-- LFE_CNT_CLR (R163). -/
def execLfeCntClr (t : Nat) (v : Word) (s : State) : Host.Outcome State Fault Refusal := regWrite t LFE_CNT_CLR.reg v s

/-- FLD_CNT_CLR (R181). -/
def execFldCntClr (t : Nat) (v : Word) (s : State) : Host.Outcome State Fault Refusal := regWrite t FLD_CNT_CLR.reg v s

/-- UHF_CNT_CLR (R223). -/
def execUhfCntClr (t : Nat) (v : Word) (s : State) : Host.Outcome State Fault Refusal := regWrite t UHF_CNT_CLR.reg v s

/-- UWB_CNT_CLR (R245). -/
def execUwbCntClr (t : Nat) (v : Word) (s : State) : Host.Outcome State Fault Refusal := regWrite t UWB_CNT_CLR.reg v s

/-- VRD_CNT_CLR (R266). -/
def execVrdCntClr (t : Nat) (v : Word) (s : State) : Host.Outcome State Fault Refusal := regWrite t VRD_CNT_CLR.reg v s

/-- FLK_CNT_CLR (R298). -/
def execFlkCntClr (t : Nat) (v : Word) (s : State) : Host.Outcome State Fault Refusal := regWrite t FLK_CNT_CLR.reg v s

/-- CRY_CNT_CLR (R323). -/
def execCryCntClr (t : Nat) (v : Word) (s : State) : Host.Outcome State Fault Refusal := regWrite t CRY_CNT_CLR.reg v s

/-- RNG_CNT_CLR (R338). -/
def execRngCntClr (t : Nat) (v : Word) (s : State) : Host.Outcome State Fault Refusal := regWrite t RNG_CNT_CLR.reg v s

/-- NVS_CNT_CLR (R364). -/
def execNvsCntClr (t : Nat) (v : Word) (s : State) : Host.Outcome State Fault Refusal := regWrite t NVS_CNT_CLR.reg v s

/-- LGR_CNT_CLR (R387). -/
def execLgrCntClr (t : Nat) (v : Word) (s : State) : Host.Outcome State Fault Refusal := regWrite t LGR_CNT_CLR.reg v s

/-- TMR_CNT_CLR (R406). -/
def execTmrCntClr (t : Nat) (v : Word) (s : State) : Host.Outcome State Fault Refusal := regWrite t TMR_CNT_CLR.reg v s

/-- LCY_CNT_CLR (R426). -/
def execLcyCntClr (t : Nat) (v : Word) (s : State) : Host.Outcome State Fault Refusal := regWrite t LCY_CNT_CLR.reg v s

/-- MON_CNT_CLR (R426). -/
def execMonCntClr (t : Nat) (v : Word) (s : State) : Host.Outcome State Fault Refusal := regWrite t MON_CNT_CLR.reg v s

end Sys2Proof.Machine
end

