-- ==== Sys2Proof/Machine/BarRead.lean ====
section
/-! DEFINITION. Machine/BarRead.lean: what a read of BAR0 or BAR2 returns (R3, R7, R8, R108): the register file, with what
the State mirrors in its own types put in place. -/
namespace Sys2Proof.Machine

/-- A word with fields put in place. -/
def putAll (fs : List (Field × Nat)) (w : Word) : Word := fs.foldl (fun w f => f.1.put f.2 w) w

/-- A word with bit `i` as `p i` says, for the low `n` bits. -/
def bitWord (n : Nat) (p : Nat → Bool) : Word := BitVec.ofNat 32 (packBits n p)

/-! ## Clock and power -/

/-- PLL_LOCK (R63): PLL_SYS and PLL_LF run in Run and Graze, and in Watch while an island of their domains is powered for a
poll or an action; PLL_PCIE in Run and Graze, but for the recovery in which the link's rate changes; PLL_UWB with the UWB
island. -/
def pllLock (s : State) : Nat :=
  if stopped s || !fastContent s then 0
  else match s.pwr.st with
    | .run | .graze => 3 + 4 * b2n (islandOn .uwb s) + 8 * b2n (!s.hif.relock)
    | .watch => b2n (s.pwr.islands &&& 0xE0E != 0) + 2 * b2n (s.pwr.islands &&& 0x070 != 0) + 4 * b2n (islandOn .uwb s)
    | _ => 0

/-- CLK_STATUS as it reads (Table 03.9). -/
def clkStatus (s : State) : Word :=
  putAll [(CLK_STATUS.CONTENT, if s.pwr.qual then 0 else contentCode s.clk.content), (CLK_STATUS.QUAL_BUSY, b2n s.pwr.qual),
    (CLK_STATUS.PLL_LOCK, pllLock s), (CLK_STATUS.TB_FRAC, s.clk.frac),
    (CLK_STATUS.STOPPED, b2n (s.pwr.st == .watch && (s.pwr.qual || s.clk.content == .none || s.clk.content == .invalid)))]
    (regGet CLK_STATUS.reg s)

/-- PWR_STATUS as it reads (Table 04.10). -/
def pwrStatus (s : State) : Word :=
  putAll [(PWR_STATUS.TARGET, (selState true s).code), (PWR_STATUS.LIMIT, selLimit true s),
    (PWR_STATUS.LINK_WAIT, b2n (linkWait s)), (PWR_STATUS.POLL_ACTIVE, b2n (s.pwr.st == .watch && islandOn .lfs s))]
    (regGet PWR_STATUS.reg s)

/-- Reads of the CLK_ and PWR_ blocks. -/
def readClkPwr (off : Nat) (s : State) : Word :=
  if off = CLK_STATUS.reg then clkStatus s
  else if off = CLK_GAP_CTL.reg then s.clk.shGap.getD (regGet off s)
  else if off = CLK_WATCH_CTL.reg then s.clk.shWatch.getD (regGet off s)
  else if off = CLK_MEAS.reg then BitVec.ofNat 32 (measured s)
  else if off = PWR_STATUS.reg then pwrStatus s
  else if off = PWR_ISLANDS.reg then BitVec.ofNat 32 s.pwr.islands.toNat
  else regGet off s

/-! ## Host interface -/

/-- A host descriptor is in flight. -/
def hostFlying (s : State) : Bool := s.hif.flight.any (fun f => isHost f.d)

/-- QPn_STATUS as it reads (Table 05.4). -/
def qpStatus (n : Nat) (s : State) : Word :=
  let q := qp n s
  let waits := q.enabled && mayFetch n s
  putAll [(QPn_STATUS.SQ_HEAD n, q.sqHead), (QPn_STATUS.ENABLED n, b2n q.enabled), (QPn_STATUS.QUIESCED n, b2n q.quiesced),
    (QPn_STATUS.ERR n, b2n q.err), (QPn_STATUS.BLK_DRV n, b2n q.blkDrv), (QPn_STATUS.CQ_TAIL n, q.cqTail),
    (QPn_STATUS.PHASE n, b2n q.phase), (QPn_STATUS.BLK_FENCE n, b2n (waits && fenceBlocks n (headDesc n s) s)),
    (QPn_STATUS.BLK_CREDIT n, b2n (waits && creditBlocks n s))] 0

/-- Reads of the HIF_ block. IDLE keeps its reset value 0 (Table 05.4) until READY, and from then on shows whether
the interface is idle (DESIGN CHOICE, log entry 97). -/
def readHif (off : Nat) (s : State) : Word :=
  if 0x0100 ≤ off ∧ (off - 0x0100) % 0x18 = 0x14 then qpStatus ((off - 0x0100) / 0x18) s
  else if off = HIF_STATUS.reg then
    putAll [(HIF_STATUS.IDLE, b2n (flag HIF_STATUS.READY s && !flag HIF_CTL.EN s && !hostFlying s)), (HIF_STATUS.BACKLOG, backlogCount s)] (regGet off s)
  else if off = HIF_DRV_Q.reg then
    putAll [(HIF_DRV_Q.DEPTH, s.hif.droverQ.length), (HIF_DRV_Q.FULL, b2n (droverFull s))] (regGet off s)
  else regGet off s

/-! ## LF and folds -/

/-- LFE_STATUS.OP (Table 06.15). -/
def lfOp (s : State) : Nat :=
  match s.lf.run with
  | none => 0
  | some r =>
    match r.req.kind with
    | .poll => if r.map.isEmpty && (s.poll.map (fun p => !p.coils.isEmpty)).getD false then 4 else 1
    | .diagRing | .diagApply => 2
    | .listen => 3

/-- A schedule entry's poll is queued. -/
def schedQueued (e : Nat) (s : State) : Bool := s.lf.queue.any (fun r => r.askers.any (fun a => a.1 == .sched e))

/-- A WAKE pin's poll is queued. -/
def wakeQueued (p : Nat) (s : State) : Bool := s.lf.queue.any (fun r => r.askers.any (fun a => a.1 == .wake p))

/-- Reads of the LFE_ block; a channel absent on the part reads as Table 06.17 says. -/
def readLfe (off : Nat) (s : State) : Word :=
  if off = LFE_STATUS.reg then
    putAll [(LFE_STATUS.BUSY, b2n (lfRuns s)), (LFE_STATUS.OP, lfOp s), (LFE_STATUS.DRIVE, s.pins.drive.toNat),
      (LFE_STATUS.BRIDGE, s.pins.bridge.toNat),
      (LFE_STATUS.PEND, b2n (s.heldWr.any (fun p => 0x0800 ≤ p.1 && p.1 < 0x1000)))] (regGet off s)
  else if off = LFE_QUEUE.reg then
    putAll [(LFE_QUEUE.DEPTH, lfDepth s), (LFE_QUEUE.SCHED, packBits 16 (fun e => schedQueued e s)),
      (LFE_QUEUE.WAKE, packBits 8 (fun p => wakeQueued p s))] 0
  else if 0x0C00 ≤ off then
    let n := (off - 0x0C00) / 8
    if off % 8 = 0 then (if n < lfChannels s.part then regNow off s else 0)
    else if n < lfChannels s.part then
      putAll [(LFE_CHn_STAT.RETIRED n, b2n (leafRetired n s)), (LFE_CHn_STAT.PINFOLD n, b2n (leafPinned s.fold.live n s))]
        (regGet off s)
    else (LFE_CHn_STAT.ABSENT n).put 1 0
  else regNow off s

/-- The tree that reads of the parent and definition registers return (R181). -/
def viewTree (s : State) : Tree := if flag FLD_CTL.VIEW s then s.fold.live else s.fold.staging

/-- Reads of the FLD_ block. -/
def readFld (off : Nat) (s : State) : Word :=
  let t := viewTree s
  let word (f : Nat → Nat) : Word := BitVec.ofNat 32 (leNat ((List.range 4).map (fun j => byteOf (f j))))
  if off = FLD_STATUS.reg then
    putAll [(FLD_STATUS.DIRTY, b2n (decide (s.fold.staging ≠ s.fold.live)))] (regGet off s)
  else if off = FLD_SIZE.reg then
    let l := s.fold.live
    putAll [(FLD_SIZE.FOLDS, (List.range 255).countP (fun f => l.defined f)), (FLD_SIZE.NODES, l.count),
      (FLD_SIZE.DEPTH, l.deepest)] 0
  else if 0x1040 ≤ off ∧ off < 0x10C8 then
    word (fun j => if leafPresent (off - 0x1040 + j) s then t.leafParent (off - 0x1040 + j) else 255)
  else if 0x1100 ≤ off ∧ off < 0x1200 then word (fun j => t.foldParent (off - 0x1100 + j))
  else if 0x1200 ≤ off ∧ off < 0x1220 then bitWord 32 (fun j => t.defined (8 * (off - 0x1200) + j))
  else if 0x1220 ≤ off ∧ off < 0x1240 then bitWord 32 (fun j => ownPin (8 * (off - 0x1220) + j) s)
  else if 0x1240 ≤ off ∧ off < 0x1254 then bitWord 32 (fun j => leafRetired (8 * (off - 0x1240) + j) s)
  else regGet off s

/-! ## Radios -/

/-- Reads of the UHF_ and UWB_ blocks; the UWB_ block of the part without the unit reads 0 (R3, Table 10.14). -/
def readRadio (off : Nat) (s : State) : Word :=
  if 0x1600 ≤ off ∧ s.part = .blv8032n then 0
  else if 0x1610 + 16 * uwbPorts s.part ≤ off ∧ off < 0x1650 then 0
  else if off = UHF_STATUS.reg then Field.put ⟨UHF_STATUS.reg, 0, 9⟩ (uhfStatusLow s) (regGet off s)
  else if off = UWB_STATUS.reg then Field.put ⟨UWB_STATUS.reg, 0, 7⟩ (uwbStatusLow s) (regGet off s)
  else regNow off s

/-! ## Cipher, NV store, ledger -/

/-- CRY_SLOTn as it reads (Table 13.17). -/
def slotWord (n : Nat) (s : State) : Word :=
  let x := slotOf n s
  putAll [(CRY_SLOTn.KIND n, x.kind), (CRY_SLOTn.USAGE n, x.usage), (CRY_SLOTn.BUSY n, b2n (slotHeld n s)),
    (CRY_SLOTn.GEN n, x.gen), (CRY_SLOTn.ORIGIN n, x.origin)] 0

/-- CRY_STATUS as it reads (Table 13.10): the message engine holds the requests in flight, 4 in progress and 16 waiting
(R315). -/
def cryStatus (s : State) : Word :=
  let n := s.hif.flight.countP isEngineOp
  putAll [(CRY_STATUS.BUSY, b2n (decide (0 < n))), (CRY_STATUS.ACTIVE, min 4 n), (CRY_STATUS.QUEUED, min 16 (n - 4)),
    (CRY_STATUS.PKE_BUSY, b2n (s.hif.flight.any (fun f => f.d.opcode == 0x44 || f.d.opcode == 0x45))),
    (CRY_STATUS.ROOT_OK, b2n (rootOk s))] (regGet CRY_STATUS.reg s)

/-- Reads of the CRY_ block: no key material (R300). The DAK's public key is gone in Retired (R305). -/
def readCry (off : Nat) (s : State) : Word :=
  if off = CRY_STATUS.reg then cryStatus s
  else if off = CRY_SLOTS_LO.reg then bitWord 32 (fun j => (slotOf j s).kind != 0)
  else if off = CRY_SLOTS_HI.reg then bitWord 32 (fun j => (slotOf (32 + j) s).kind != 0)
  else if 0x2040 ≤ off ∧ off < 0x2140 then slotWord ((off - 0x2040) / 4) s
  else if 0x2180 ≤ off ∧ off < 0x21C0 then
    (if rootOk s then BitVec.ofNat 32 (leAt (off - 0x2180) 4 dakPub) else 0)
  else regGet off s

/-- Reads of the NVS_ block. -/
def readNvs (off : Nat) (s : State) : Word :=
  if off = NVS_STATUS.reg then
    putAll [(NVS_STATUS.PASTURE_LOADED, b2n s.nv.loaded), (NVS_STATUS.LEDGER_READY, b2n s.nv.ledgerReady),
      (NVS_STATUS.DRAINING, b2n (!s.nv.buf.isEmpty)), (NVS_STATUS.BUF_FILL, min 512 (8 * bufWords s))] (regGet off s)
  else regGet off s

/-- A ledger position register: 0 until recall has found it. -/
def lgrWord (n : Nat) (s : State) : Word := if s.nv.ledgerReady then BitVec.ofNat 32 n else 0

/-- Reads of the LGR_ block. -/
def readLgr (off : Nat) (s : State) : Word :=
  if off = LGR_STATUS.reg then
    putAll [(LGR_STATUS.READY, b2n s.nv.ledgerReady), (LGR_STATUS.OPEN, b2n s.lgr.openRecs.isSome),
      (LGR_STATUS.OPEN_RECS, s.lgr.openRecs.getD 0),
      (LGR_STATUS.MARGIN, b2n (s.nv.ledgerReady && decide (lgrFree s ≤ lgrRes s)))] (regGet off s)
  else if off = LGR_TAIL_SEQ.reg then lgrWord (lgrTail s) s
  else if off = LGR_HEAD_SEQ.reg then lgrWord s.lgr.head s
  else if off = LGR_WMARK.reg then lgrWord s.lgr.w s
  else if off = LGR_SIGNED.reg then lgrWord s.lgr.signed s
  else if off = LGR_FREE.reg then lgrWord (lgrFree s) s
  else regGet off s

/-! ## Timers, lifecycle, monitor -/

/-- Reads of the TMR_ block. -/
def readTmr (off : Nat) (s : State) : Word :=
  if off = TMR_STATUS.reg then putAll [(TMR_STATUS.RES, tmrRes s)] (regGet off s)
  else if off = TMR_TB_LO.reg then BitVec.ofNat 32 (now s)
  else if off = TMR_TB_HI.reg then BitVec.ofNat 32 (now s / 2 ^ 32)
  else if off = TMR_RESV.reg then BitVec.ofNat 32 (tmrResv s)
  else if off = TMR_ARMED.reg then BitVec.ofNat 32 (chanBits (·.armed) s)
  else if off = TMR_NEW.reg then BitVec.ofNat 32 (chanBits (·.fresh) s)
  else if off = TMR_OUT.reg then BitVec.ofNat 32 (chanBits (·.out) s)
  else if off = TMR_PIN_IN.reg then BitVec.ofNat 32 (s.pins.gpio.toNat + 2 ^ 24 * s.pins.wake.toNat)
  else regGet off s

/-- First 4 bytes of SHA-256 of the fleet key; 0 with none (Table 18.14). -/
def fleetPrint (s : State) : Nat := match fleetKey s with | some k => leAt 0 4 (sha256 k) | none => 0

/-- LCY_STATUS as it reads (Table 18.14). -/
def lcyStatus (s : State) : Word :=
  putAll [(LCY_STATUS.STATE, lcState s), (LCY_STATUS.FLEET_KEY, b2n (fleetKey s).isSome),
    (LCY_STATUS.NONCE_VALID, b2n (validNonce s).isSome), (LCY_STATUS.NO_FW, b2n (s.lcy.drover == .noFw)),
    (LCY_STATUS.TRIAL, b2n s.lcy.trial.isSome), (LCY_STATUS.CNT_LOST, b2n (tally 249 s).isNone),
    (LCY_STATUS.RUNNING, s.lcy.running), (LCY_STATUS.BOOT0, b2n (bootable 0 s)), (LCY_STATUS.BOOT1, b2n (bootable 1 s)),
    (LCY_STATUS.STAGING, b2n s.lcy.stage.isSome), (LCY_STATUS.STG_BANK, (s.lcy.stage.map (·.bank)).getD 0)]
    (regGet LCY_STATUS.reg s)

/-- Seconds of lockout left (MON_LOCK_LEFT). -/
def lockLeft (s : State) : Nat :=
  match s.mon.lockout with
  | some x => ceilDiv (x + secTicks 300 - now s) 38400000
  | none => 0

/-- Open access to the monitor: Blank and Service (R425). -/
def monOpen (s : State) : Bool := lcState s == 0 || lcState s == 3

/-- Reads of the LCY_ and MON_ blocks. -/
def readLcyMon (off : Nat) (s : State) : Word :=
  if off = LCY_STATUS.reg then lcyStatus s
  else if off = LCY_FW_VER0.reg then BitVec.ofNat 32 (bankVersion 0 s)
  else if off = LCY_FW_VER1.reg then BitVec.ofNat 32 (bankVersion 1 s)
  else if off = LCY_MINVER.reg then BitVec.ofNat 32 (minVer s)
  else if off = LCY_FLEET.reg then BitVec.ofNat 32 (fleetPrint s)
  else if off = LCY_OTP.reg then BitVec.ofNat 32 s.lcy.otp
  else if off = LCY_SVC_LEFT.reg then BitVec.ofNat 32 (svcLeft s)
  else if off = MON_STATUS.reg then
    putAll [(MON_STATUS.ACTIVE, b2n (monActive s)), (MON_STATUS.OPEN, b2n (monOpen s)),
      (MON_STATUS.UNLOCKED, b2n s.mon.unlocked), (MON_STATUS.FAILS, s.mon.fails),
      (MON_STATUS.LOCKOUT, b2n s.mon.lockout.isSome)] (regGet off s)
  else if off = MON_LOCK_LEFT.reg then BitVec.ofNat 32 (lockLeft s)
  else regGet off s

/-! ## Reads -/

/-- Verdict engine (Table 11.11): a load is running while one is in flight, and a pass from its trigger on. -/
def readVrd (off : Nat) (s : State) : Word :=
  if off = VRD_STATUS.reg then
    putAll [(VRD_STATUS.LOADING, b2n (s.hif.flight.any (fun f => f.d.opcode == 0x30 || f.d.opcode == 0x31))),
      (VRD_STATUS.BUSY, b2n ((s.poll.map (fun p => p.answers.any (fun a => a.trig.isSome))).getD false))] (regGet off s)
  else regGet off s

/-- Reads of the blocks between 0x1800 and 0x4000. -/
def readUpper (off : Nat) (s : State) : Word :=
  if off < 0x1C00 then readVrd off s
  else if off < 0x2000 then
    (if off = FLK_PIN_CNT.reg then
      putAll [(FLK_PIN_CNT.OWN, s.flk.track.countP (fun e => e.till.isSome)), (FLK_PIN_CNT.TRACKED, s.flk.track.length)]
        (regGet off s)
     else regGet off s)
  else if off < 0x2200 then readCry off s
  else if off < 0x2400 then regGet off s
  else if off < 0x2600 then readNvs off s
  else if off < 0x2800 then readLgr off s
  else if off < 0x2C00 then readTmr off s
  else readLcyMon off s

/-- Reads of BAR2 (Table 05.5): a doorbell returns its last accepted value. -/
def readBar2 (o : Nat) (s : State) : Word :=
  if o < 0x0200 then
    (if o % 16 = 0 then BitVec.ofNat 32 (qp (o / 16) s).sqTail
     else if o % 16 = 8 then BitVec.ofNat 32 (qp (o / 16) s).cqHead else 0)
  else if 0x0800 ≤ o ∧ o < 0x0A20 then
    let e := s.hif.msix.getD ((o - 0x0800) / 16) MsixEntry.reset
    (if o % 16 = 0 then BitVec.ofNat 32 e.addr.toNat else if o % 16 = 4 then BitVec.ofNat 32 (e.addr.toNat / 2 ^ 32)
     else if o % 16 = 8 then e.data else BitVec.ofNat 32 (b2n e.masked))
  else if o = 0x0C00 then BitVec.ofNat 32 s.hif.pba.toNat
  else if o = 0x0C04 then BitVec.ofNat 32 (s.hif.pba.toNat / 2 ^ 32)
  else 0

/-- The BUSY bits of the commits, each with the record that its COMMIT stores. -/
def commitBusy : List (Field × Nat) :=
  [(PWR_SCHED_CTL.BUSY, recSched), (LFE_CTL.BUSY, recLfe), (FLD_CTL.BUSY, recTree), (UHF_CTL.BUSY, recUhf),
   (UWB_CTL.BUSY, recUwb), (VRD_CTL.BUSY, recVrd), (FLK_CTL.BUSY, recFlk), (CRY_CTL.BUSY, recCry), (LGR_CTL.BUSY, recLgr),
   (TMR_CTL.BUSY, recTmr), (LCY_CTL.BUSY, recLcy), (VRD_STATUS.SWAP_PEND, recVrdSel)]

/-- A register that holds a commit's BUSY bit, which reads 1 while the record is being stored (R96, R163, R169; DEDUCED,
log entry 78). -/
def withBusy (off : Nat) (s : State) (w : Word) : Word :=
  match commitBusy.find? (fun r => r.1.off = off) with
  | some r => r.1.put (b2n (storing r.2 s)) w
  | none => w

/-- The word at an aligned offset, BUSY bits aside. -/
def readPlain (off : Nat) (s : State) : Word :=
  if off < 0x0400 then readHif off s
  else if off < 0x0800 then readClkPwr off s
  else if off < 0x1000 then readLfe off s
  else if off < 0x1400 then readFld off s
  else if off < 0x1800 then readRadio off s
  else if off < 0x4000 then readUpper off s
  else if 0x10000 ≤ off then readBar2 (off - 0x10000) s
  else 0

/-- The word at an aligned offset, the latch of R8 aside; the lines that it shows are those of the tick of the read. -/
def readLive (off : Nat) (s : State) : Word := withBusy off s (readPlain off (refreshDrive (refreshRadio s)))

/-- Low words of the 64-bit registers (R8): those that move by themselves, the MSI-X pending bits and addresses, and the
ring bases. -/
def latchLows : List Nat :=
  [CLK_LAST_MARK_LO.reg, CLK_LOSS_TB_LO.reg, CRY_SLOTS_LO.reg, TMR_TB_LO.reg, 0x10C00]
    ++ (List.range 32).map (fun n => QPn_SQB_LO.reg n) ++ (List.range 32).map (fun n => QPn_CQB_LO.reg n)
    ++ (List.range 34).map (fun n => 0x10800 + 16 * n)

/-- What a read of `size` bytes returns (R8): only a 32-bit aligned one reads a register, and a high word reads as it was
latched by the last read of its low word. -/
def barRead (off size : Nat) (s : State) : Word :=
  if size ≠ 4 ∨ off % 4 ≠ 0 then 0xFFFFFFFF
  else match s.latchHi.find? (fun p => p.1 = off) with
    | some p => p.2
    | none => readLive off s

/-- What a 32-bit read returns (R8). -/
def barWord (off : Nat) (s : State) : Word := barRead off 4 s

/-- A read of a low word latches its high word (R8); the read of that high word lets go of it (DESIGN CHOICE, log
entry 106). -/
def barLatch (off : Nat) (s : State) : State :=
  if latchLows.contains off then
    { s with latchHi := (off + 4, readLive (off + 4) s) :: s.latchHi.filter (fun p => p.1 ≠ off + 4) }
  else { s with latchHi := s.latchHi.filter (fun p => p.1 ≠ off) }

/-- Reads `n` words from `off` upward. -/
def barReads : Nat → Nat → State → List Word × State
  | 0, _, s => ([], s)
  | n + 1, off, s =>
    let r := barReads n (off + 4) (barLatch off s)
    (barWord off s :: r.1, r.2)

end Sys2Proof.Machine
end

