-- ==== Sys2Proof/Machine/Monitor.lean ====
section
/-! DEFINITION. Machine/Monitor.lean: the Sitraim monitor's commands (R422 to R425). A command stands for one line at the
moment Drover serves it. -/
namespace Sys2Proof.Machine

/-! ## Lines -/

/-- A malformed argument (R423). -/
def badArg (s : State) : State := answer ["ERR 02"] s

/-- Refused by the access level (R423). -/
def noAccess (s : State) : State := answer ["ERR 06"] s

/-- A step of the monitor's own failed with status `st` (R423): it counts as the descriptor that it is (R16, R127). -/
def monFails (st : Nat) (s : State) : State :=
  answer ["ERR " ++ hexNat 2 st] (if 1 ≤ st ∧ st ≤ 6 then bump HIF_VIOL_CNT.DESC s else s)

/-- Answer lines of byte records. -/
def okLines (l : List Bytes) : List String := if l.isEmpty then ["OK"] else l.map (fun b => "OK " ++ hexBytes b)

/-- Drover can serve a line (R422): it is between firmware-class operations, and no line is being served. -/
def monServes (s : State) : Bool := monActive s && !droverBusy s && s.mon.desc.isNone

/-- The access level lets a command other than INFO, TB, UNLOCK and LOCK through (R425). -/
def monAllowed (s : State) : Bool := monOpen s || s.mon.unlocked

/-- A line is served (R422, R425): it counts, and it puts the idle time off. -/
def serveLine (k : State → State) (s : State) : State :=
  onlyIf (monServes s) (fun s => k (bump MON_CNT.COMMANDS { s with mon := { s.mon with lastCmd := now s } })) s

/-- A line of a command that needs open access or an unlock. -/
def lockedLine (k : State → State) (s : State) : State :=
  serveLine (fun s => if monAllowed s then k s else noAccess s) s

/-! ## Commands -/

/-- INFO: part, revision, DSN, lifecycle state, running bank, bootable banks, versions and MINVER. -/
def infoText (s : State) : String :=
  let id := (regReset s.part HIF_ID.reg).toNat
  "OK " ++ hexNat 4 id ++ " " ++ hexNat 2 (id / 65536) ++ " " ++ hexNat 16 (leNat dsn) ++ " " ++ hexNat 1 (lcState s)
    ++ " " ++ hexNat 1 s.lcy.running ++ " " ++ hexNat 1 (b2n (bootable 0 s) + 2 * b2n (bootable 1 s))
    ++ " " ++ hexNat 8 (bankVersion 0 s) ++ " " ++ hexNat 8 (bankVersion 1 s) ++ " " ++ hexNat 12 (minVer s)

/-- MON_INFO (R423). -/
def execMonInfo (t : Nat) (s : State) : Host.Outcome State Fault Refusal :=
  command t (serveLine (fun s => answer [infoText s] s)) s

/-- MON_RD (R423): 1 to 64 words of BAR0, which ends at 0x4000. -/
def monRd (addr count : Nat) (s : State) : State :=
  if count = 0 ∨ count > 64 ∨ addr ≥ 0x4000 ∨ addr + 4 * count > 0x4000 then badArg s
  else
    let r := barReads count addr s
    answer ["OK" ++ String.join (r.1.map (fun w => " " ++ hexNat 8 w.toNat))] r.2

/-- MON_RD (R423). -/
def execMonRd (t addr count : Nat) (s : State) : Host.Outcome State Fault Refusal :=
  command t (lockedLine (monRd addr count)) s

/-- MON_WR (R16, R423): as a host write, but LCY_ and MON_ words are refused. -/
def monWr (addr : Nat) (value : Word) (s : State) : State :=
  if addr ≥ 0x4000 then badArg s
  else if 0x2C00 ≤ addr then noAccess s
  else answer ["OK"] (barWrite addr value s)

/-- MON_WR (R423). -/
def execMonWr (t addr : Nat) (value : Word) (s : State) : Host.Outcome State Fault Refusal :=
  command t (lockedLine (monWr addr value)) s

/-- MON_BUF (R423): writes up to 64 bytes, or with none given reads up to 64. -/
def monBuf (off : Nat) (bs : Bytes) (s : State) : State :=
  if off ≥ 4096 ∨ bs.length > 64 ∨ off + bs.length > 4096 then badArg s
  else if bs.isEmpty then answer ["OK " ++ hexBytes (mread zeroByte s.monMem off (min 64 (4096 - off)))] s
  else answer ["OK"] { s with monMem := mwrite zeroByte s.monMem off bs }

/-- MON_BUF (R423). -/
def execMonBuf (t off : Nat) (bs : Bytes) (s : State) : Host.Outcome State Fault Refusal :=
  command t (lockedLine (monBuf off bs)) s

/-- MON_DESC (R15, R119, R423): the descriptor goes to the Drover port, and its completion is the answer. -/
def monDesc (bs : Bytes) (s : State) : State :=
  if bs.length ≠ 64 then badArg s
  else
    let d := descOf .monitor 0 s.hif.dispNo bs
    let s1 := exitRun 0 (droverTurn { s with
      mon := { s.mon with desc := some d }
      hif := { s.hif with dispNo := s.hif.dispNo + 1 } })
    match check119 d s1 with
    | some (st, det) => complete d st [] det s1
    | none =>
      match modeBad d with
      | some det => fail d stBadLen det s1
      | none => enterFlight d s1

/-- MON_DESC (R423). -/
def execMonDesc (t : Nat) (bs : Bytes) (s : State) : Host.Outcome State Fault Refusal :=
  command t (lockedLine (monDesc bs)) s

/-- Top folds (R165). -/
def topFolds (t : Tree) : List Nat := (List.range 255).filter (fun f => t.defined f && t.foldParent f = 255)

/-- MON_FOLDS (R177, R423): a snapshot of the node, or one of every top fold, a record a line. -/
def monFolds (node : Option Nat) (s : State) : State :=
  let t := s.fold.live
  match node with
  | some n =>
    if nodeExists n s then answer (okLines (snapshot t n s)) (bump FLD_CNT.OPS s) else monFails stBadFold s
  | none =>
    let fs := topFolds t
    answer (okLines (fs.map (fun f => snapshot t (0x100 + f) s)).flatten) (addFld FLD_CNT.OPS fs.length s)

/-- MON_FOLDS (R423). -/
def execMonFolds (t : Nat) (node : Option Nat) (s : State) : Host.Outcome State Fault Refusal :=
  command t (lockedLine (monFolds node)) s

/-- MON_LEDGER (R380, R384, R423): 1 to 16 sealed blocks from `q`, a block a line. -/
def monLedger (q count : Nat) (s : State) : State :=
  if count = 0 ∨ count > 16 then badArg s
  else if s.nv.ledgerReady = false then monFails stRecall s
  else if q < s.lgr.head ∨ q > lgrTail s ∨ q = 0 then monFails stBadAddr s
  else
    let qs := (readRange false s count q).1
    answer (okLines (qs.map (fun q => blockBytes q s))) (countBlocks qs s)

/-- MON_LEDGER (R423). -/
def execMonLedger (t q count : Nat) (s : State) : Host.Outcome State Fault Refusal :=
  command t (lockedLine (monLedger q count)) s

/-- MON_RNG (R336, R423). -/
def monRng (o : RngObs) (s : State) : State :=
  let s1 := noteObs o s
  answer ["OK " ++ hexBytes (rngReport s1)] s1

/-- MON_RNG (R423). -/
def execMonRng (t : Nat) (o : RngObs) (s : State) : Host.Outcome State Fault Refusal := command t (lockedLine (monRng o)) s

/-- MON_TB (R423): TIMEBASE, the wall clock and PTIME. -/
def execMonTb (t : Nat) (s : State) : Host.Outcome State Fault Refusal :=
  command t (serveLine (fun s =>
    answer ["OK " ++ hexNat 16 (now s) ++ " " ++ hexNat 16 s.clk.wall.toNat ++ " " ++ hexNat 8 (ptime s)] s)) s

/-- MON_EVT (R423). -/
def execMonEvt (t : Nat) (on : Bool) (s : State) : Host.Outcome State Fault Refusal :=
  command t (lockedLine (fun s => answer ["OK"] (setFlag MON_CTL.EVT_ECHO on s))) s

/-- MON_BAUD (R423, R426): the rate changes after the answer, and MON_CTL is stored. -/
def monBaud (code : Nat) (s : State) : State :=
  if code > 6 then badArg s else storeMon (setFld MON_CTL.BAUD code (answer ["OK"] s))

/-- MON_BAUD (R423). -/
def execMonBaud (t code : Nat) (s : State) : Host.Outcome State Fault Refusal := command t (lockedLine (monBaud code)) s

/-! ## Unlock -/

/-- MON_UNLOCK_NONCE (R425): a fresh nonce, unless the lockout is in force or the generator cannot serve. -/
def monNonce (s : State) : State :=
  if s.mon.lockout.isSome then noAccess s
  else match drawFails s with
    | some st => monFails st s
    | none =>
      let r := drawBytes 16 s
      answer ["OK " ++ hexBytes r.1] { r.2 with mon := { r.2.mon with nonce := some (r.1, now s) } }

/-- MON_UNLOCK_NONCE (R425). -/
def execMonUnlockNonce (t : Nat) (s : State) : Host.Outcome State Fault Refusal := command t (serveLine monNonce) s

/-- What an unlock's signature covers (R425). -/
def unlockMsg (nonce : Bytes) : Bytes := [0x42, 0x4C, 0x56, 0x4D, 0x4F, 0x4E, 0x30, 0x31] ++ dsn ++ nonce

/-- An attempt with a signature passes (R425): its nonce is at most 60 s old, and the fleet key verifies it. -/
def unlockOk (sig : Bytes) (s : State) : Bool :=
  match s.mon.nonce, fleetKey s with
  | some (n, x), some k => decide (now s < x + secTicks 60) && ecdsaVerify k (sha256 (unlockMsg n)) sig
  | _, _ => false

/-- A failed attempt (R425): the third in a row starts the lockout. -/
def unlockFails (s : State) : State :=
  let n := s.mon.fails + 1
  let s1 := bump MON_CNT.UNLOCK_FAIL { s with mon := { s.mon with
    fails := min n 3
    lockout := if n ≥ 3 then some (now s) else none } }
  answer ["ERR " ++ hexNat 2 stMacFail] s1

/-- A passed attempt (R425). -/
def unlockPasses (s : State) : State :=
  answer ["OK"] (bump MON_CNT.UNLOCKS { s with mon := { s.mon with unlocked := true, fails := 0 } })

/-- MON_UNLOCK (R425): every attempt uses its nonce up and appends a MON_UNLOCK record. -/
def monUnlock (sig : Bytes) (s : State) : State :=
  if sig.length ≠ 64 then badArg s
  else if s.mon.lockout.isSome then noAccess s
  else
    let ok := unlockOk sig s
    let s0 := if s.mon.nonce.isSome && (fleetKey s).isSome then countVerify ok s else s
    let s1 := append 0x53 (b2n ok) 0 { s0 with mon := { s0.mon with nonce := none } }
    if ok then unlockPasses s1 else unlockFails s1

/-- MON_UNLOCK (R425). -/
def execMonUnlock (t : Nat) (sig : Bytes) (s : State) : Host.Outcome State Fault Refusal :=
  command t (serveLine (monUnlock sig)) s

/-- MON_LOCK (R425). -/
def execMonLock (t : Nat) (s : State) : Host.Outcome State Fault Refusal :=
  command t (serveLine (fun s => answer ["OK"] (endUnlock s))) s

/-- MON_IDLE_TIMEOUT (R425): an unlock has seen no command for IDLE_S. -/
def execMonIdleTimeout (t : Nat) (s : State) : Host.Outcome State Fault Refusal :=
  command t (fun s => onlyIf (s.mon.unlocked && decide (s.mon.lastCmd + secTicks (fld MON_CTL.IDLE_S s) ≤ now s)) endUnlock s) s

/-- The lockout ends (R425): the attempts count afresh. -/
def endLockout (s : State) : State := { s with mon := { s.mon with lockout := none, fails := 0 } }

/-- MON_LOCKOUT_END (R425): 300 s of TIMEBASE after its start. -/
def execMonLockoutEnd (t : Nat) (s : State) : Host.Outcome State Fault Refusal :=
  command t (fun s =>
    match s.mon.lockout with
    | some x => onlyIf (decide (x + secTicks 300 ≤ now s)) endLockout s
    | none => s) s

/-- MON_UNKNOWN_COMMAND (R423). -/
def execMonUnknownCommand (t : Nat) (s : State) : Host.Outcome State Fault Refusal :=
  command t (serveLine (fun s => answer ["ERR 01"] s)) s

end Sys2Proof.Machine
end

