-- ==== Sys2Proof/Machine/Dispatch.lean ====
section
/-! DEFINITION. Machine/Dispatch.lean: one arm per command. -/
namespace Sys2Proof.Machine

def exec (i : Instr) (s : State) : Host.Outcome State Fault Refusal :=
  match i with
  | .nopFence t d => Sys2Proof.Machine.execNopFence t d s
  | .powerHint t d => Sys2Proof.Machine.execPowerHint t d s
  | .timeSetNow t d => Sys2Proof.Machine.execTimeSetNow t d s
  | .timeSetAtEpoch t d => Sys2Proof.Machine.execTimeSetAtEpoch t d s
  | .timeSetCancel t d => Sys2Proof.Machine.execTimeSetCancel t d s
  | .eventRoute t d => Sys2Proof.Machine.execEventRoute t d s
  | .lfPoll t d => Sys2Proof.Machine.execLfPoll t d s
  | .lfDiagRing t d => Sys2Proof.Machine.execLfDiagRing t d s
  | .lfDiagApply t d => Sys2Proof.Machine.execLfDiagApply t d s
  | .lfCal t d tag => Sys2Proof.Machine.execLfCal t d tag s
  | .lfListen t d => Sys2Proof.Machine.execLfListen t d s
  | .foldBarrier t d => Sys2Proof.Machine.execFoldBarrier t d s
  | .foldBroadcast t d => Sys2Proof.Machine.execFoldBroadcast t d s
  | .foldSnapshot t d => Sys2Proof.Machine.execFoldSnapshot t d s
  | .foldReset t d => Sys2Proof.Machine.execFoldReset t d s
  | .foldRetire t d => Sys2Proof.Machine.execFoldRetire t d s
  | .foldAdopt t d => Sys2Proof.Machine.execFoldAdopt t d s
  | .foldBroadcastTick t => Sys2Proof.Machine.execFoldBroadcastTick t s
  | .uhfTx t d temp => Sys2Proof.Machine.execUhfTx t d temp s
  | .uhfTxEnd t => Sys2Proof.Machine.execUhfTxEnd t s
  | .uhfRx t d temp => Sys2Proof.Machine.execUhfRx t d temp s
  | .uhfRxEnd t => Sys2Proof.Machine.execUhfRxEnd t s
  | .uhfCal t d m => Sys2Proof.Machine.execUhfCal t d m s
  | .uwbRange t d temp => Sys2Proof.Machine.execUwbRange t d temp s
  | .uwbCal t d m temp => Sys2Proof.Machine.execUwbCal t d m temp s
  | .vrdRulesLoad t d => Sys2Proof.Machine.execVrdRulesLoad t d s
  | .vrdMapLoad t d => Sys2Proof.Machine.execVrdMapLoad t d s
  | .vrdEval t d => Sys2Proof.Machine.execVrdEval t d s
  | .flockLearn t d => Sys2Proof.Machine.execFlockLearn t d s
  | .flockStatusSlot t d => Sys2Proof.Machine.execFlockStatusSlot t d s
  | .flockStatusPin t d => Sys2Proof.Machine.execFlockStatusPin t d s
  | .flockStatusShorten t d => Sys2Proof.Machine.execFlockStatusShorten t d s
  | .immoPair t d => Sys2Proof.Machine.execImmoPair t d s
  | .immoPairStepCmac t d => Sys2Proof.Machine.execImmoPairStepCmac t d s
  | .immoPairStepProbe t d => Sys2Proof.Machine.execImmoPairStepProbe t d s
  | .immoPairStepInstall t d => Sys2Proof.Machine.execImmoPairStepInstall t d s
  | .startRevoke t d => Sys2Proof.Machine.execStartRevoke t d s
  | .cryptEcb t d => Sys2Proof.Machine.execCryptEcb t d s
  | .cryptCbc t d => Sys2Proof.Machine.execCryptCbc t d s
  | .cryptCtr t d => Sys2Proof.Machine.execCryptCtr t d s
  | .cryptGcm t d => Sys2Proof.Machine.execCryptGcm t d s
  | .cryptCcm t d => Sys2Proof.Machine.execCryptCcm t d s
  | .cryptCmac t d => Sys2Proof.Machine.execCryptCmac t d s
  | .cryptKw t d => Sys2Proof.Machine.execCryptKw t d s
  | .cryptStage t d => Sys2Proof.Machine.execCryptStage t d s
  | .keyUnwrap t d => Sys2Proof.Machine.execKeyUnwrap t d s
  | .keyImport t d => Sys2Proof.Machine.execKeyImport t d s
  | .keyUnwrapPairing t d => Sys2Proof.Machine.execKeyUnwrapPairing t d s
  | .keyDerive t d => Sys2Proof.Machine.execKeyDerive t d s
  | .keyClear t d => Sys2Proof.Machine.execKeyClear t d s
  | .pkeSignMessage t d => Sys2Proof.Machine.execPkeSignMessage t d s
  | .pkeSignDigest t d => Sys2Proof.Machine.execPkeSignDigest t d s
  | .pkeSignLedger t d => Sys2Proof.Machine.execPkeSignLedger t d s
  | .pkeVerify t d => Sys2Proof.Machine.execPkeVerify t d s
  | .rngGet t d => Sys2Proof.Machine.execRngGet t d s
  | .rngStat t d o => Sys2Proof.Machine.execRngStat t d o s
  | .nvRead t d => Sys2Proof.Machine.execNvRead t d s
  | .nvWrite t d => Sys2Proof.Machine.execNvWrite t d s
  | .nvWriteFwChunk t d => Sys2Proof.Machine.execNvWriteFwChunk t d s
  | .nvWriteOtp t d => Sys2Proof.Machine.execNvWriteOtp t d s
  | .nvWriteDeviceRecord t d => Sys2Proof.Machine.execNvWriteDeviceRecord t d s
  | .tallyInc t d => Sys2Proof.Machine.execTallyInc t d s
  | .tallyRead t d => Sys2Proof.Machine.execTallyRead t d s
  | .ledgerAppend t d => Sys2Proof.Machine.execLedgerAppend t d s
  | .ledgerReadBlocks t d => Sys2Proof.Machine.execLedgerReadBlocks t d s
  | .ledgerReadStatements t d => Sys2Proof.Machine.execLedgerReadStatements t d s
  | .ledgerSeal t d => Sys2Proof.Machine.execLedgerSeal t d s
  | .ledgerAttest t d => Sys2Proof.Machine.execLedgerAttest t d s
  | .ledgerRelease t d => Sys2Proof.Machine.execLedgerRelease t d s
  | .timerCfg t d => Sys2Proof.Machine.execTimerCfg t d s
  | .timerRead t d => Sys2Proof.Machine.execTimerRead t d s
  | .fwStage t d => Sys2Proof.Machine.execFwStage t d s
  | .fwActivateTrial t d => Sys2Proof.Machine.execFwActivateTrial t d s
  | .fwActivateConfirm t d => Sys2Proof.Machine.execFwActivateConfirm t d s
  | .fwActivateRevert t d => Sys2Proof.Machine.execFwActivateRevert t d s
  | .lifecycleChallenge t d => Sys2Proof.Machine.execLifecycleChallenge t d s
  | .lifecycleAdvance t d => Sys2Proof.Machine.execLifecycleAdvance t d s
  | .lifecycleFleetKey t d => Sys2Proof.Machine.execLifecycleFleetKey t d s
  | .lifecycleOtpK t d => Sys2Proof.Machine.execLifecycleOtpK t d s
  | .descriptorDispatch t n => Sys2Proof.Machine.execDescriptorDispatch t n s
  | .sqFetchError t n => Sys2Proof.Machine.execSqFetchError t n s
  | .sqTailDoorbell t n v => Sys2Proof.Machine.execSqTailDoorbell t n v s
  | .cqHeadDoorbell t n v => Sys2Proof.Machine.execCqHeadDoorbell t n v s
  | .qpEnable t n v => Sys2Proof.Machine.execQpEnable t n v s
  | .qpDisable t n v => Sys2Proof.Machine.execQpDisable t n v s
  | .qpQuiesced t n => Sys2Proof.Machine.execQpQuiesced t n s
  | .hifCtlEnWrite t v => Sys2Proof.Machine.execHifCtlEnWrite t v s
  | .busMasterEnableChange t on => Sys2Proof.Machine.execBusMasterEnableChange t on s
  | .d3hotTransition t enter => Sys2Proof.Machine.execD3hotTransition t enter s
  | .msixCoalesceTimeout t n => Sys2Proof.Machine.execMsixCoalesceTimeout t n s
  | .backlogDelivery t => Sys2Proof.Machine.execBacklogDelivery t s
  | .powerOnReset t => Sys2Proof.Machine.execPowerOnReset t s
  | .porRelease t straps testN => Sys2Proof.Machine.execPorRelease t straps testN s
  | .resetNLow t => Sys2Proof.Machine.execResetNLow t s
  | .systemReset t => Sys2Proof.Machine.execSystemReset t s
  | .resetNPulseRejected t => Sys2Proof.Machine.execResetNPulseRejected t s
  | .systemResetRelease t vhold vaon => Sys2Proof.Machine.execSystemResetRelease t vhold vaon s
  | .brownOut t written torn => Sys2Proof.Machine.execBrownOut t written torn s
  | .brownOutRelease t vhold vaon => Sys2Proof.Machine.execBrownOutRelease t vhold vaon s
  | .refclkQualified t freq => Sys2Proof.Machine.execRefclkQualified t freq s
  | .secondMark t g => Sys2Proof.Machine.execSecondMark t g s
  | .epochMark t g => Sys2Proof.Machine.execEpochMark t g s
  | .attentionMark t g => Sys2Proof.Machine.execAttentionMark t g s
  | .gapViolation t g => Sys2Proof.Machine.execGapViolation t g s
  | .clockLoss t why => Sys2Proof.Machine.execClockLoss t why s
  | .refclkStop t why => Sys2Proof.Machine.execRefclkStop t why s
  | .clockLossRecovery t freq => Sys2Proof.Machine.execClockLossRecovery t freq s
  | .wakePinEvent t e => Sys2Proof.Machine.execWakePinEvent t e s
  | .scheduledPollDue t e => Sys2Proof.Machine.execScheduledPollDue t e s
  | .pwrSchedEnable t off v => Sys2Proof.Machine.execPwrSchedEnable t off v s
  | .pwrSchedCommit t v => Sys2Proof.Machine.execPwrSchedCommit t v s
  | .powerStateEntry t => Sys2Proof.Machine.execPowerStateEntry t s
  | .fallowEntry t => Sys2Proof.Machine.execFallowEntry t s
  | .wakeExit t w => Sys2Proof.Machine.execWakeExit t w s
  | .fallowExit t w freq => Sys2Proof.Machine.execFallowExit t w freq s
  | .perstNAssert t flr => Sys2Proof.Machine.execPerstNAssert t flr s
  | .perstNDeassert t => Sys2Proof.Machine.execPerstNDeassert t s
  | .linkStateChange t l speed width => Sys2Proof.Machine.execLinkStateChange t l speed width s
  | .pmeTurnOff t => Sys2Proof.Machine.execPmeTurnOff t s
  | .pmeToAck t => Sys2Proof.Machine.execPmeToAck t s
  | .pcieTlpWake t => Sys2Proof.Machine.execPcieTlpWake t s
  | .droverWatchdogExpiry t => Sys2Proof.Machine.execDroverWatchdogExpiry t s
  | .islandHang t isl => Sys2Proof.Machine.execIslandHang t isl s
  | .pwrIslandRst t v => Sys2Proof.Machine.execPwrIslandRst t v s
  | .droverBoot t => Sys2Proof.Machine.execDroverBoot t s
  | .fwReady t => Sys2Proof.Machine.execFwReady t s
  | .fwTrialTimeout t => Sys2Proof.Machine.execFwTrialTimeout t s
  | .nvRecall t => Sys2Proof.Machine.execNvRecall t s
  | .configurationLoad t => Sys2Proof.Machine.execConfigurationLoad t s
  | .scrubPass t => Sys2Proof.Machine.execScrubPass t s
  | .vholdMeasure t vhold vaon => Sys2Proof.Machine.execVholdMeasure t vhold vaon s
  | .pollStart t => Sys2Proof.Machine.execPollStart t s
  | .driveSequenceEnd t r => Sys2Proof.Machine.execDriveSequenceEnd t r s
  | .foreignFieldWindowEnd t m => Sys2Proof.Machine.execForeignFieldWindowEnd t m s
  | .responseWindowOpen t => Sys2Proof.Machine.execResponseWindowOpen t s
  | .responseWindowClose t => Sys2Proof.Machine.execResponseWindowClose t s
  | .lfDiagRoundEnd t r => Sys2Proof.Machine.execLfDiagRoundEnd t r s
  | .lfListenWindowEnd t m => Sys2Proof.Machine.execLfListenWindowEnd t m s
  | .lfQueueTimeout t => Sys2Proof.Machine.execLfQueueTimeout t s
  | .uhfWindowPrepare t temp => Sys2Proof.Machine.execUhfWindowPrepare t temp s
  | .obaneAnswerFrame t f => Sys2Proof.Machine.execObaneAnswerFrame t f s
  | .verdictPass t => Sys2Proof.Machine.execVerdictPass t s
  | .uwbPrewarm t temp => Sys2Proof.Machine.execUwbPrewarm t temp s
  | .uwbExchangeStart t => Sys2Proof.Machine.execUwbExchangeStart t s
  | .uwbResponseFrame t f => Sys2Proof.Machine.execUwbResponseFrame t f s
  | .uwbReportFrame t f => Sys2Proof.Machine.execUwbReportFrame t f s
  | .uwbReplyTimeout t => Sys2Proof.Machine.execUwbReplyTimeout t s
  | .rangeResultArrival t => Sys2Proof.Machine.execRangeResultArrival t s
  | .uhfRadioIdleSleep t => Sys2Proof.Machine.execUhfRadioIdleSleep t s
  | .uwbRadioIdleSleep t => Sys2Proof.Machine.execUwbRadioIdleSleep t s
  | .uhfBgCal t irr dc temp => Sys2Proof.Machine.execUhfBgCal t irr dc temp s
  | .uwbBgCal t irr temp => Sys2Proof.Machine.execUwbBgCal t irr temp s
  | .coexGrant t => Sys2Proof.Machine.execCoexGrant t s
  | .coexTimeout t => Sys2Proof.Machine.execCoexTimeout t s
  | .coexGrantWithdrawn t => Sys2Proof.Machine.execCoexGrantWithdrawn t s
  | .coilExchangeStart t coil pct limit => Sys2Proof.Machine.execCoilExchangeStart t coil pct limit s
  | .coilUplinkFrame t coil bs => Sys2Proof.Machine.execCoilUplinkFrame t coil bs s
  | .coilAttemptTimeout t coil => Sys2Proof.Machine.execCoilAttemptTimeout t coil s
  | .ecuChallenge t f => Sys2Proof.Machine.execEcuChallenge t f s
  | .ecuViolation t f => Sys2Proof.Machine.execEcuViolation t f s
  | .ecuSilenceEnd t => Sys2Proof.Machine.execEcuSilenceEnd t s
  | .canWake t => Sys2Proof.Machine.execCanWake t s
  | .canBusOffRecovery t => Sys2Proof.Machine.execCanBusOffRecovery t s
  | .startHoldExpiry t => Sys2Proof.Machine.execStartHoldExpiry t s
  | .startenTick t => Sys2Proof.Machine.execStartenTick t s
  | .flkStartDisable t v => Sys2Proof.Machine.execFlkStartDisable t v s
  | .ptimeAdvance t => Sys2Proof.Machine.execPtimeAdvance t s
  | .pinfoldExpiry t => Sys2Proof.Machine.execPinfoldExpiry t s
  | .pinfoldRecordPeriodic t => Sys2Proof.Machine.execPinfoldRecordPeriodic t s
  | .wallClockStore t => Sys2Proof.Machine.execWallClockStore t s
  | .bellwetherPoll t => Sys2Proof.Machine.execBellwetherPoll t s
  | .bellwetherTimeout t => Sys2Proof.Machine.execBellwetherTimeout t s
  | .timerCompareMatch t n credit => Sys2Proof.Machine.execTimerCompareMatch t n credit s
  | .timerOverflow t credit => Sys2Proof.Machine.execTimerOverflow t credit s
  | .timerCapturePair t n first second credit => Sys2Proof.Machine.execTimerCapturePair t n first second credit s
  | .gpioPulseEnd t pin => Sys2Proof.Machine.execGpioPulseEnd t pin s
  | .rngSteepPass t o => Sys2Proof.Machine.execRngSteepPass t o s
  | .rngHealthFail t test value o => Sys2Proof.Machine.execRngHealthFail t test value o s
  | .rngFailsClear t o => Sys2Proof.Machine.execRngFailsClear t o s
  | .rngPoolRefill t => Sys2Proof.Machine.execRngPoolRefill t s
  | .rngReseed t => Sys2Proof.Machine.execRngReseed t s
  | .rngEstimatorWindow t bias c1 c2 c3 c4 o => Sys2Proof.Machine.execRngEstimatorWindow t bias c1 c2 c3 c4 o s
  | .rngWaitTimeout t => Sys2Proof.Machine.execRngWaitTimeout t s
  | .cryptQueueTimeout t d => Sys2Proof.Machine.execCryptQueueTimeout t d s
  | .pkeWaitTimeout t d => Sys2Proof.Machine.execPkeWaitTimeout t d s
  | .steepWaitTimeout t => Sys2Proof.Machine.execSteepWaitTimeout t s
  | .barrierTimeout t => Sys2Proof.Machine.execBarrierTimeout t s
  | .ledgerAppendWaitTimeout t => Sys2Proof.Machine.execLedgerAppendWaitTimeout t s
  | .ledgerSealTimer t => Sys2Proof.Machine.execLedgerSealTimer t s
  | .ledgerCheckpoint t => Sys2Proof.Machine.execLedgerCheckpoint t s
  | .foldTreeLive t => Sys2Proof.Machine.execFoldTreeLive t s
  | .fldApply t v => Sys2Proof.Machine.execFldApply t v s
  | .fldCommit t v => Sys2Proof.Machine.execFldCommit t v s
  | .fldDiscard t v => Sys2Proof.Machine.execFldDiscard t v s
  | .lfeCommit t v => Sys2Proof.Machine.execLfeCommit t v s
  | .uhfCommit t v => Sys2Proof.Machine.execUhfCommit t v s
  | .uwbCommit t v => Sys2Proof.Machine.execUwbCommit t v s
  | .vrdActRules t v => Sys2Proof.Machine.execVrdActRules t v s
  | .vrdActMap t v => Sys2Proof.Machine.execVrdActMap t v s
  | .vrdCommit t v => Sys2Proof.Machine.execVrdCommit t v s
  | .flkCommit t v => Sys2Proof.Machine.execFlkCommit t v s
  | .cryCommit t v => Sys2Proof.Machine.execCryCommit t v s
  | .lgrCommit t v => Sys2Proof.Machine.execLgrCommit t v s
  | .tmrCommit t v => Sys2Proof.Machine.execTmrCommit t v s
  | .lcyCommit t v => Sys2Proof.Machine.execLcyCommit t v s
  | .monCtlWrite t v => Sys2Proof.Machine.execMonCtlWrite t v s
  | .tmrPinfWrite t n v => Sys2Proof.Machine.execTmrPinfWrite t n v s
  | .rngTestSrcWrite t v => Sys2Proof.Machine.execRngTestSrcWrite t v s
  | .clkShadowWrite t off v => Sys2Proof.Machine.execClkShadowWrite t off v s
  | .clkCntClr t v => Sys2Proof.Machine.execClkCntClr t v s
  | .hifCntClr t v => Sys2Proof.Machine.execHifCntClr t v s
  | .lfeCntClr t v => Sys2Proof.Machine.execLfeCntClr t v s
  | .fldCntClr t v => Sys2Proof.Machine.execFldCntClr t v s
  | .uhfCntClr t v => Sys2Proof.Machine.execUhfCntClr t v s
  | .uwbCntClr t v => Sys2Proof.Machine.execUwbCntClr t v s
  | .vrdCntClr t v => Sys2Proof.Machine.execVrdCntClr t v s
  | .flkCntClr t v => Sys2Proof.Machine.execFlkCntClr t v s
  | .cryCntClr t v => Sys2Proof.Machine.execCryCntClr t v s
  | .rngCntClr t v => Sys2Proof.Machine.execRngCntClr t v s
  | .nvsCntClr t v => Sys2Proof.Machine.execNvsCntClr t v s
  | .lgrCntClr t v => Sys2Proof.Machine.execLgrCntClr t v s
  | .tmrCntClr t v => Sys2Proof.Machine.execTmrCntClr t v s
  | .lcyCntClr t v => Sys2Proof.Machine.execLcyCntClr t v s
  | .monCntClr t v => Sys2Proof.Machine.execMonCntClr t v s
  | .registerWrite t a v => Sys2Proof.Machine.execRegisterWrite t a v s
  | .serviceTimeout t => Sys2Proof.Machine.execServiceTimeout t s
  | .lifecycleNonceExpiry t => Sys2Proof.Machine.execLifecycleNonceExpiry t s
  | .monInfo t => Sys2Proof.Machine.execMonInfo t s
  | .monRd t addr count => Sys2Proof.Machine.execMonRd t addr count s
  | .monWr t addr value => Sys2Proof.Machine.execMonWr t addr value s
  | .monBuf t off bs => Sys2Proof.Machine.execMonBuf t off bs s
  | .monDesc t bs => Sys2Proof.Machine.execMonDesc t bs s
  | .monFolds t node => Sys2Proof.Machine.execMonFolds t node s
  | .monLedger t q count => Sys2Proof.Machine.execMonLedger t q count s
  | .monRng t o => Sys2Proof.Machine.execMonRng t o s
  | .monTb t => Sys2Proof.Machine.execMonTb t s
  | .monEvt t on => Sys2Proof.Machine.execMonEvt t on s
  | .monBaud t code => Sys2Proof.Machine.execMonBaud t code s
  | .monUnlockNonce t => Sys2Proof.Machine.execMonUnlockNonce t s
  | .monUnlock t sig => Sys2Proof.Machine.execMonUnlock t sig s
  | .monLock t => Sys2Proof.Machine.execMonLock t s
  | .monIdleTimeout t => Sys2Proof.Machine.execMonIdleTimeout t s
  | .monLockoutEnd t => Sys2Proof.Machine.execMonLockoutEnd t s
  | .syncDetected t ch => Sys2Proof.Machine.execSyncDetected t ch s
  | .uhfRxFrameDetected t f => Sys2Proof.Machine.execUhfRxFrameDetected t f s
  | .probeAnsFrame t f => Sys2Proof.Machine.execProbeAnsFrame t f s
  | .probeAnsTimeout t => Sys2Proof.Machine.execProbeAnsTimeout t s
  | .msixVectorUnmask t n en => Sys2Proof.Machine.execMsixVectorUnmask t n en s
  | .fallowEdgeDetectorArm t => Sys2Proof.Machine.execFallowEdgeDetectorArm t s
  | .qualificationCountStart t => Sys2Proof.Machine.execQualificationCountStart t s
  | .monUnknownCommand t => Sys2Proof.Machine.execMonUnknownCommand t s

end Sys2Proof.Machine
end

