-- ==== Sys2Proof/Machine/Lines.lean ====
section
/-! DEFINITION. Machine/Lines.lean: what the pins of the analog and radio banks carry at the present tick: the LFD
commands and their carrier (R49 to R52, R135 to R139, R151, R183, R184), the coil drivers (R154, R155), and the others of
Table 02.5 (R41, R54). They are functions of the state, which holds what they follow. -/
namespace Sys2Proof.Machine

/-! ## Keying of a drive sequence

Time within a sequence is counted in LFS cycles of 102.4 MHz from step 1, and every edge of the keying but the first
lies on a multiple of 62.5 us, 6,400 cycles. -/

/-- LFS cycles in 62.5 us. -/
def unitCycles : Nat := 6400

/-- LFS cycles from `since` to the present tick. -/
def cyclesFrom (since : Nat) (s : State) : Nat := 8 * (now s - since) / 3

/-- Chip `j` of Walsh code `k` has the sign -1 (R139): (-1)^popcount(k AND j). -/
def chipNeg (k j : Nat) : Bool := (List.range 4).countP (fun i => bit i k && bit i j) % 2 == 1

/-- The 96 bits of the header, air bit 0 as the most significant (Table 08.2). -/
def headerWord (p : Poll) : Nat :=
  let h := p.header.getD (0, 0)
  h.1 % 2 ^ 24 * 2 ^ 72 + h.2 % 256 * 2 ^ 64 + p.challenge % 2 ^ 64

/-- Air bit `i` of the header. -/
def headerBit (p : Poll) (i : Nat) : Bool := bit (95 - i) (headerWord p)

/-- Keying of a driven leaf in unit `u` of a sequence: no carrier, or a carrier with its sign, true for -1. The preamble is
on to 1.500 ms, off to 1.750 ms and on to 2.000 ms (R183); a header bit 0 is on then off, a 1 off then on (R184); in its
code frame the leaf sends its chips in ascending order (R139), and in the others nothing (R49). -/
def unitKey (p : Poll) (m : MapLeaf) (u : Nat) : Option Bool :=
  if u < 24 then some false
  else if u < 28 then none
  else if u < 32 then some false
  else if u < 224 then (if headerBit p ((u - 32) / 2) == (u % 2 == 1) then some false else none)
  else if (u - 224) / 32 = m.frame then some (chipNeg m.code ((u - 224) % 32 / 2)) else none

/-! ## Carrier -/

/-- Frequency word of a synthesiser: units of 102.4 MHz / 2^32, to the nearest (R135). -/
def ftw (f : Nat) : Nat := (f * 2 ^ 32 + 51200000) / 102400000

/-- The cycle at which the phase accumulator was last zeroed: the start of the preamble, or of the code frame (R138). -/
def zeroCycle (n : Nat) : Nat := if n < 1433600 then 0 else 1433600 + (n - 1433600) / 204800 * 204800

/-- The phase accumulator at cycle `n`, without the wraps taken off; a -1 chip stands 2^31 ahead of a +1 chip (R138). -/
def phaseAt (w n : Nat) (neg : Bool) : Nat := w * (n - zeroCycle n) + 2 ^ 31 * b2n neg

/-- Carrier periods that begin after cycle `a` and by cycle `b`. -/
def periodsIn (w a b : Nat) (neg : Bool) : Nat :=
  let k (n : Nat) : Nat := phaseAt w n neg / 2 ^ 32
  if zeroCycle a = zeroCycle b then k b - k a else k (zeroCycle b - 1) - k a + 1 + k b

/-- The command is high at phase `ph` of a period that lies `i` periods from the nearest edge of the keying (R136, R137):
for DUTY/128 of the period, and over the RAMP periods at an edge for a duty that grows with the distance from it in equal
steps (DESIGN CHOICE, log entry 116). -/
def commandHigh (duty ramp i ph : Nat) : Bool :=
  decide (ph % 2 ^ 32 * (ramp + 1) < duty * 2 ^ 25 * min (ramp + 1) i)

/-- Cycle of the first carrier edge of a sequence: 2.0 us after step 1, on the grid of LFS cycles (Table 02.8, R135). -/
def firstCycle : Nat := 205

/-- Cycle of the edge of the keying at or before unit `u`: where the stretch of equal keying that `u` lies in begins. -/
def edgeBefore (key : Nat → Option Bool) (u : Nat) : Nat :=
  let i := ((List.range 6).find? (fun i => u ≤ i || key (u - 1 - i) != key u)).getD 6
  if u ≤ i then firstCycle else (u - i) * unitCycles

/-- Cycle of the edge after unit `u`. -/
def edgeAfter (key : Nat → Option Bool) (u : Nat) : Nat :=
  let i := ((List.range 6).find? (fun i => key (u + 1 + i) != key u)).getD 6
  (u + 1 + i) * unitCycles

/-- The command of a leaf that a poll drives, at cycle `n` of the sequence: high, or low. -/
def pollCommand (p : Poll) (m : MapLeaf) (w duty ramp n : Nat) : Bool :=
  let u := n / unitCycles
  match unitKey p m u with
  | none => false
  | some neg =>
    if n < firstCycle then false
    else
      let back := periodsIn w (edgeBefore (unitKey p m) u) n neg + 1
      let ahead := periodsIn w n (edgeAfter (unitKey p m) u - 1) neg + 1
      commandHigh duty ramp (min back ahead) (phaseAt w n neg)

/-- Cycles of a channel's diagnostic burst: BURST of its periods, at most 1.0 ms (R151). -/
def burstCycles (f : Nat) (s : State) : Nat := min 102400 (ceilDiv (fld LFE_DIAG_CTL.BURST s * 102400000) f)

/-- The command of a channel that a diagnostic round tests, at cycle `n` of the round: its burst is unmodulated (R151). -/
def burstCommand (w duty ramp len n : Nat) : Bool :=
  if n < firstCycle ∨ firstCycle + len ≤ n then false
  else
    let ph := w * (n - firstCycle)
    let back := ph / 2 ^ 32 + 1
    let ahead := w * (len - 1) / 2 ^ 32 - ph / 2 ^ 32 + 1
    commandHigh duty ramp (min back ahead) ph

/-! ## LFD pins -/

/-- State of an LFD pin (R49). -/
inductive LfdPad
  /-- push-pull low -/
  | low
  /-- push-pull high: the bridge's high side is on -/
  | high
  /-- high-impedance with the pull-down on -/
  | pulled
  /-- high-impedance with the pull-down off, for sensing -/
  | sensed
  deriving DecidableEq, Repr

/-- A channel that is there, enabled and not retired. -/
def chanLive (c : Nat) (s : State) : Bool := leafPresent c s && flag (LFE_CHn_CFG.EN c) s && !leafRetired c s

/-- The channel is driven by the sequence or round that runs: a listed leaf that is not silent, or a tested channel. -/
def chanDriven (c : Nat) (s : State) : Bool :=
  match s.lf.run with
  | some r =>
    match r.req.kind with
    | .poll => r.map.any (fun m => m.ch = c && !m.silent)
    | .diagRing => (match r.todo with | k :: _ => (roundChans k r.chans).contains c | [] => false)
    | _ => false
  | none => false

/-- The command of channel `c` now, while its quarter drives (R49, R136 to R139, R151). -/
def chanCommand (c : Nat) (s : State) : Bool :=
  match s.lf.run with
  | some r =>
    let n := cyclesFrom r.seq s
    let w := ftw (runFreq r.req c s)
    let duty := runDuty r.req c s
    let ramp := fld LFE_CTL.RAMP s
    match r.req.kind, s.poll with
    | .poll, some p =>
      (match r.map.find? (fun m => m.ch = c && !m.silent) with
       | some m => pollCommand p m w duty ramp n
       | none => false)
    | .diagRing, _ => chanDriven c s && burstCommand w duty ramp (burstCycles (runFreq r.req c s) s) n
    | _, _ => false
  | none => false

/-- An LF_LISTEN senses the channel now: its pull-down is off for the window (R161). -/
def chanListened (c : Nat) (s : State) : Bool :=
  match s.lf.run with
  | some r => r.req.kind == .listen && r.phase == .listen && r.chans.contains c
  | none => false

/-- In the pad safe state the pins go high-impedance, with their pull-downs on, at least 1.0 us and at most 2.0 us after
the bridges (R52); the instant between is the device's (log entry 117). -/
def safeReleased (s : State) : Bool :=
  let d := now s - s.pins.safeAt.1
  !tbRuns s || (decide (192 ≤ 5 * d) && (Config.padsReleased s.pins.safeAt.1 || decide (384 ≤ 5 * d)))

/-- A quarter's phase at the present tick. -/
inductive QuarterPhase
  /-- drive phase -/
  | drive
  /-- between the final chip boundary and the end of the drive-to-listen sequence (Table 02.9) -/
  | leaving
  /-- listen phase -/
  | listen
  deriving DecidableEq, Repr

/-- Phase of quarter `q` (R48, R50, R51). -/
def quarterPhase (q : Nat) (s : State) : QuarterPhase :=
  match drivePhase s with
  | some (m, a, e) =>
    if !m.getLsbD q || now s < a then .listen
    else if now s < e then .drive
    else if 5 * now s < 5 * e + 192 then .leaving else .listen
  | none => .listen

/-- State of pin LFDc (R49 to R52). -/
def lfdPad (c : Nat) (s : State) : LfdPad :=
  if padsSafe s then
    (if s.pins.safeAt.2.getLsbD (c / 32) && chanLive c s && !safeReleased s then .low else .pulled)
  else
    match quarterPhase (c / 32) s with
    | .drive =>
      if chanDriven c s then (if chanCommand c s then .high else .low) else if chanLive c s then .low else .pulled
    | .leaving => if chanDriven c s || chanLive c s then .low else .pulled
    | .listen => if chanLive c s || chanListened c s then .sensed else .pulled

/-- The sense samples of a quarter are valid: from 3.0 us after its final chip boundary (Table 02.9), until it drives. -/
def samplesValid (q : Nat) (s : State) : Bool :=
  !padsSafe s && quarterPhase q s == .listen &&
    (match drivePhase s with
     | some (m, _, e) => !m.getLsbD q || decide (now s < e) || decide (5 * e + 576 ≤ 5 * now s)
     | none => true)

/-- The board's half-bridge of channel `c` has its high side on (Table 02.7). -/
def bridgeHigh (c : Nat) (s : State) : Bool := s.pins.bridge.getLsbD (c / 32) && lfdPad c s == .high

/-- LFBIAS in mV; none while it is high-impedance (R54). -/
def lfBias (s : State) : Option Nat := if islandOn .lfa s then some 1650 else none

/-! ## Coils -/

/-- Bits of a byte, most significant first. -/
def bitsOf (b : Byte) : List Bool := ((List.range 8).map (fun i => b.getLsbD (7 - i)))

/-- Carrier periods from the start of a downlink to the start of each of its pauses (Table 06.6). -/
def pauseStarts (b : Bytes) : List Nat :=
  ((b.flatMap bitsOf).foldl (fun (a : Nat × List Nat) x => (a.1 + (if x then 40 else 24), a.2 ++ [a.1])) (0, [])).2

/-- Period `i` of a downlink lies in a pause: 8 carrier periods at the start of each bit. -/
def inPause (b : Bytes) (i : Nat) : Bool := (pauseStarts b).any (fun p => decide (p ≤ i ∧ i < p + 8))

/-- Whole carrier periods of the coils from `since` to the present tick. -/
def coilPeriods (since : Nat) (s : State) : Nat := (now s - since) * fld LFE_COIL_CTL.F_HZ s / 38400000

/-- Peak current in mA of the carrier that coil `k` carries now; none while both its ends are low (R154, R155): the carrier
runs from the power-up to the end of the coil's last attempt, drive sequences between included, and pauses for 8 periods at
each downlink bit. -/
def coilCarrier (k : Nat) (s : State) : Option Nat :=
  match s.poll.bind (fun p => p.coils.find? (fun c => c.coil = k)) with
  | none => none
  | some c =>
    let keyed := c.active && decide (c.since ≤ now s) && inPause (coilDown c) (coilPeriods c.since s)
    if c.from_.isNone || c.done || !islandOn .lfa s || keyed then none else some (50 * (fld LFE_COIL_CTL.DRIVE s + 1))

/-- The demodulator of coil `k` listens: from 2 periods after the last downlink pause (Table 06.6), while no drive sequence
runs (R155). -/
def coilListens (k : Nat) (s : State) : Bool :=
  match s.poll.bind (fun p => p.coils.find? (fun c => c.coil = k)) with
  | none => false
  | some c => c.active && decide (c.since ≤ now s) && decide ((pauseStarts (coilDown c)).foldl max 0 + 10 ≤ coilPeriods c.since s)

/-! ## The other pins of Table 02.5 -/

/-- The LNA of UHF_RXP and UHF_RXN is on: in RX. -/
def lnaOn (s : State) : Bool := uhfState s == 4

/-- UWB_ANTp is switched to the radio: the port of the exchange on the air, or its PARTNER on chain B; else it is
terminated to VSS (R226, Table 02.5). -/
def antennaOn (p : Nat) (s : State) : Bool :=
  match airExch s with
  | some x => decide (x.start ≤ now s) && (x.port == p || (x.chainB && partnerOf x.port s == p))
  | none => false

/-- What the PCIe pairs do (Table 02.5). -/
inductive PciePads
  | electricalIdle | receiverDetect | link
  deriving DecidableEq, Repr

/-- State of the PCIe pairs: electrical idle in reset, under PERST_N and in L2 or L3, receiver detect until training. -/
def pciePads (s : State) : PciePads :=
  if s.pwr.vaonDown || s.pwr.inReset || s.pins.perst || s.hif.link == .l2l3 || !islandOn .pcie s then .electricalIdle
  else if s.hif.link == .down then .receiverDetect else .link

/-- Pad BRIDGE_ENq: an input until the straps are latched, then an output (R44, R46). -/
def bridgePad (q : Nat) (s : State) : Option Bool := if s.pwr.vaonDown then none else some (s.pins.bridge.getLsbD q)

/-! ## UART and CAN timing (R422, R439, R440) -/

/-- Divisor of the 48 MHz SLOW clock at a BAUD code (Table 19.11). -/
def uartDivisor (code : Nat) : Nat := [417, 208, 104, 52, 48, 24, 16].getD code 417

/-- Samples per bit of the receiver: 16 up to 921,600 baud, above it the divisor itself (R439). -/
def uartSamples (code : Nat) : Nat := if code ≤ 3 then 16 else uartDivisor code

/-- Level of MON_TX in SLOW cycle `n` of a character: a start bit, eight data bits, the lowest first, and the stop bit, at
which the line rests (R422, R439). -/
def monTxLevel (code : Nat) (c : Byte) (n : Nat) : Bool :=
  match n / uartDivisor code with
  | 0 => false
  | i + 1 => if i < 8 then c.getLsbD i else true

/-- Bit timing in CAN cycles of 12.5 ns: quanta of a bit, sample point, synchronisation jump width (R440). -/
structure CanBit where
  /-- quanta of a bit -/
  quanta : Nat
  /-- quantum of the sample point -/
  sample : Nat
  /-- synchronisation jump width -/
  jump : Nat
  deriving DecidableEq, Repr

/-- The nominal phase, 500 kbit/s. -/
def canNominal : CanBit := ⟨160, 128, 32⟩

/-- The data phase that FLK_CAN_CFG.DRATE selects: 2 Mbit/s, 1 Mbit/s, or no bit rate switch (R291, R440). -/
def canData (s : State) : CanBit :=
  match fld FLK_CAN_CFG.DRATE s with
  | 0 => ⟨40, 30, 8⟩
  | 1 => ⟨80, 60, 16⟩
  | _ => canNominal

/-- The secondary sample point in the data phase: the measured loop delay plus 75 % of the bit (R440). -/
def canSecondary (delay : Nat) (s : State) : Nat := delay + 3 * (canData s).quanta / 4

end Sys2Proof.Machine
end

