-- ==== Sys2Proof/Safety.lean ====
section
/-! DEFINITION. Safety.lean: the terms that statements about the machine are made in: a device on which nothing ends by
itself while a command runs, what a command leaves as it was, what its completion shows, and the invariants of a safe
run. -/
namespace Sys2Proof.Machine

/-! ## When a command meets nothing but itself -/

/-- A radio calibrates (R213, R214, R241). -/
def calibrating (s : State) : Bool :=
  s.uhf.bg.isSome || s.uwb.bg.isSome
    || (match s.uhf.run with | some r => r.cal.isSome | none => false)
    || (match s.uwb.run with | some r => r.calStop.isSome | none => false)

/-- The header of a poll's sequence is not yet fixed (R184). -/
def headerOpen (s : State) : Bool :=
  match s.lf.run, s.poll with
  | some _, some p => p.header.isNone
  | _, _ => false

/-- Nothing under way takes an effect of its own beside a command's: no power-state entry, no calibration of a radio, no
poll whose header is not yet fixed, no fold operation, no append that has lost its place. -/
def calm (s : State) : Bool :=
  s.pwr.entering.isNone && !calibrating s && !headerOpen s && s.fold.op.isNone && s.fold.wait.isEmpty
    && s.fold.queue.isEmpty && s.lgr.hostWait.all (fun p => decide (p.2 ≠ 0))

/-- A calm device that no reset holds and whose clock is not lost (R77, R98). -/
def live (s : State) : Bool := calm s && !stopped s

/-- A live device in Run (R81). -/
def running (s : State) : Bool := live s && s.pwr.st == .run

/-- `s` without the fold operation on its way to its B, which takes its own effect there (R171). -/
def noFold (s : State) : State := { s with fold := { s.fold with op := none } }

/-- The byte memories, the register file and the store of device records are in canonical form. -/
def memorySafe (s : State) : Prop :=
  Memory.wf zeroByte s.hostMem = true ∧ Memory.wf zeroByte s.droverMem = true ∧ Memory.wf zeroByte s.monMem = true ∧
  Memory.wf nvDflt s.nv.mem = true ∧ swf (regReset s.part) s.regs = true ∧
  swf (fun _ => Dual.empty) s.nv.recs = true

/-- The copies of a record have a SEQ of 32 bits (Table 15.5). -/
def seqsOk (d : Dual) : Bool := d.a.all (fun c => c.seq < 2 ^ 32) && d.b.all (fun c => c.seq < 2 ^ 32)

/-- The fixed numbers of things: 32 queue pairs, 34 vectors, 16 schedule entries, 32 timer channels, 64 Caddy slots, 4
coils, 136 leaves; and every copy of a device record has a SEQ of 32 bits (Tables 00.1, 15.5). -/
def shaped (s : State) : Prop :=
  s.hif.qps.length = 32 ∧ s.hif.msix.length = 34 ∧ s.pwr.due.length = 16 ∧ s.tmr.ch.length = 32 ∧
  s.cry.slots.length = 64 ∧ s.lf.coils.length = 4 ∧ s.fold.retired.length = 136 ∧
  s.nv.recs.all (fun r => seqsOk r.2) = true

/-! ## What a command leaves as it was -/

/-- `s` without what the end of every command brings up to date: the coexistence, amplifier, CAN standby, drive and bridge
lines, which follow the radios, the CAN port and the LF operation, the start of idleness, and the islands' progress; in
Watch also the islands that have power, and with them the radios' (R14). -/
def blankLines (s : State) : State :=
  let w := s.pwr.st == .watch
  { s with
    pins := { s.pins with
      coexReq := false, coexPri := false, trsw := false, pa := false, canStb := false
      drive := 0, bridge := 0, lfdSafe := false, safeAt := (0, 0) }
    pwr := { s.pwr with idleSince := none, workAt := [], islands := if w then 0 else s.pwr.islands }
    uhf := { s.uhf with walk := if w then [] else s.uhf.walk }
    uwb := { s.uwb with walk := if w then [] else s.uwb.walk } }

/-- `s'` is `s` but for those. -/
def settles (s s' : State) : Prop := blankLines s' = blankLines s

/-- Every byte of the host's, Drover's and the monitor's memory and of the MRAM reads as before, and so does every device
record. -/
def keepsMemory (s s' : State) : Prop :=
  (∀ a, mget zeroByte s'.hostMem a = mget zeroByte s.hostMem a) ∧
  (∀ a, mget zeroByte s'.droverMem a = mget zeroByte s.droverMem a) ∧
  (∀ a, mget zeroByte s'.monMem a = mget zeroByte s.monMem a) ∧
  (∀ a, mget nvDflt s'.nv.mem a = mget nvDflt s.nv.mem a) ∧ s'.nv.recs = s.nv.recs

/-- The MRAM and the device records hold what they held. -/
def keepsArray (s s' : State) : Prop :=
  (∀ a, mget nvDflt s'.nv.mem a = mget nvDflt s.nv.mem a) ∧ s'.nv.recs = s.nv.recs

/-- Every register but those of a list reads as before. -/
def keepsRegs (offs : List Nat) (s s' : State) : Prop := ∀ off, off ∉ offs → regGet off s' = regGet off s

/-! ## Descriptors of a row -/

/-- A well-formed descriptor with the opcode of a row. -/
def isRow (op : Nat) (d : Desc) : Bool := d.wf && d.opcode == op

/-- And with the MODE of the row in parameter byte 0. -/
def isMode (op m : Nat) (d : Desc) : Bool := isRow op d && p8 d 0 == m

/-! ## What a completion shows -/

/-- The completion of a descriptor has a way to its sender: for a host queue pair, the pair is enabled, bus mastering is
on and the link is in L0 or L1 (R77, R98, R107, R110). -/
def heard (d : Desc) (s : State) : Bool :=
  !s.hif.flight.any (fun f => f.is d && f.discard) &&
  (match d.src with
   | .host n => linkUp s && s.hif.busMaster && (qp n s).enabled
   | _ => true)

/-- A descriptor whose unit works on it now: it has been dispatched and is its turn at the unit, and a firmware-class one of
a host pair is at the front of Drover's queue, with Drover running and no checkpoint before it; or the Drover port or the
monitor brings it now, and it passes the checks of R119 (R31, R121, R124, R378). -/
def atUnit (d : Desc) (s : State) : Bool :=
  heard d s &&
  ((s.hif.flight.any (fun f => f.d == d) && reachesUnit d s &&
      (!(opFirmware d.opcode && isHost d) ||
        (droverWork s == some d && s.lcy.drover == .ready && !ckptFirst s))) ||
    (!isHost d && !isFlying d s && (check119 d s).isNone))

/-- The state from which the unit works: the descriptor is in flight and acknowledged; one that the Drover port or the
monitor brings has taken the port's turn (R15, R121). -/
def atWork (d : Desc) (s : State) : State :=
  accept d (if s.hif.flight.any (fun f => f.d == d) then s else enterFlight d (droverTurn s))

/-- Where a host pair's next completion entry goes (R114). -/
def nextEntry (n : Nat) (s : State) : Nat := cqBase n s + 32 * (qp n s).cqTail

/-- In `s'`, the descriptor has completed with a status, result bytes and DETAIL: its sender has the entry, which for a
host pair stands in its ring at the tail it had in `s`, and it is in flight no more (R114, R126). -/
def completed (d : Desc) (st : Nat) (res : Bytes) (det : Nat) (s s' : State) : Prop :=
  (∀ f ∈ s'.hif.flight, f.is d = false) ∧
  (match d.src with
   | .host n =>
     mread zeroByte s'.hostMem (nextEntry n s) 32 =
       (entryBytes d.tag st d.opcode d.idx (qp n s).sqHead (now s) res det 0).take 31
         ++ [byteOf (128 * b2n (qp n s).phase)]
   | _ => s'.hif.back.head? = some { d := d, status := st, res := fit 14 res, detail := det, ts := now s })

/-- `s` without what a completion changes: the host interface, host memory, the monitor's lines, and the
write-combining buffer that its stores drained from. -/
def blankHost (s : State) : State :=
  { s with hif := Hif.reset, hostMem := [], mon := Mon.reset, nv := { s.nv with buf := [] } }

/-- A completion changes these and the lines of `settles`, nothing else; and of them, for a host pair, only the 32 bytes
of the entry in host memory, for Drover and the monitor no host memory at all. -/
def completesOnly (d : Desc) (s s' : State) : Prop :=
  blankLines (blankHost s') = blankLines (blankHost s) ∧
  (match d.src with
   | .host n => s'.mon = s.mon ∧
     ∀ a, a < nextEntry n s ∨ nextEntry n s + 32 ≤ a → mget zeroByte s'.hostMem a = mget zeroByte s.hostMem a
   | _ => s'.hostMem = s.hostMem)

/-- The descriptor is turned away: it completes with a status and DETAIL and no result, the completion is counted in
HIF_VIOL_CNT, and nothing else changes (R119, R127). -/
def turnedAway (d : Desc) (st det : Nat) (s s' : State) : Prop :=
  completed d st [] det s s' ∧ fld HIF_VIOL_CNT.DESC s' = sat 16 (fld HIF_VIOL_CNT.DESC s + 1) ∧
  completesOnly d s { s' with regs := s.regs } ∧ keepsRegs [HIF_VIOL_CNT.reg] s s'

/-- The registers that appending a ledger record can change: the ledger's own, the MRAM's failed writes, and HIF_FAULT,
whose BACKLOG_OVF a LEDGER event can set (R372, R386). -/
def recordRegs : List Nat := [LGR_STATUS.reg, LGR_CNT0.reg, LGR_CNT1.reg, NVS_REC_CNT.reg, HIF_FAULT.reg]

/-- `s` without what appending ledger records and posting events change beside registers: the ledger, the array, and what
a completion changes. -/
def blankRecords (s : State) : State :=
  let s1 := blankLines (blankHost s)
  { s1 with lgr := Lgr.reset, regs := [], nv := { s1.nv with mem := [], bad := [], soft := [], weak := [] } }

/-- Between `s` and `s'`, ledger records were appended and events posted, registers of a list changed, and so did the
tally cells of the counters in `cells`; nothing else did, and no byte of the array below the Ledger region (Table 15.1). -/
def recordsOnly (cells offs : List Nat) (s s' : State) : Prop :=
  blankRecords s' = blankRecords s ∧ keepsRegs (recordRegs ++ offs) s s' ∧
  ∀ a, a < 0x400000 → a / 256 ∉ cells → mget nvDflt s'.nv.mem a = mget nvDflt s.nv.mem a

/-- A live device in Run, safe and well shaped, and a descriptor that its unit works on at tick `t`. -/
def serves (t : Nat) (d : Desc) (s : State) : Prop :=
  running s = true ∧ memorySafe s ∧ shaped s ∧ atUnit d (elapse t s) = true

/-- The descriptor completes, and with `s` as the state of its effects nothing else changes. -/
def answers (d : Desc) (st : Nat) (res : Bytes) (det : Nat) (s s' : State) : Prop :=
  completed d st res det s s' ∧ completesOnly d s s'

/-! ## Register commands -/

/-- The state in which a write of the host to `off` takes effect at tick `t`: the TLP has woken the device from Graze or
Pen (Table 04.6), and a high word latched at `off` is let go (R7). -/
def written (t off : Nat) (s : State) : State :=
  let s1 := tlpWake (elapse t s)
  { s1 with latchHi := s1.latchHi.filter (fun p => p.1 ≠ off) }

/-- A write of `v` to a CNT_CLR register, from `s0`: each of its bits that is set clears the counters listed beside it,
whole registers or single fields; every other field of every register, and everything else, stays. -/
def clears (rows : List (Field × List Field)) (v : Word) (s0 s' : State) : Prop :=
  settles { s0 with regs := s'.regs } s' ∧
  (∀ c ∈ rows, c.1.of v = 1 → ∀ f ∈ c.2, fld f s' = 0) ∧
  (∀ f : Field, (∀ c ∈ rows, c.1.of v = 1 → ∀ g ∈ c.2, g.off = f.off → g.lo + g.width ≤ f.lo ∨ f.lo + f.width ≤ g.lo) →
    fld f s' = fld f s0)

/-- A COMMIT, from `s0`: the record `id` holds the registers `offs` of the set-up as they were last written, VALID reads
1, and the MRAM's bytes, every other record, every other register but the block's ERR_RANGE, and everything else stay
(R163, R223, R245, R266, R298, R323, R406). -/
def storesSetup (id : Nat) (valid : Field) (offs : List Nat) (s0 s' : State) : Prop :=
  settles { s0 with regs := s'.regs, heldWr := s'.heldWr, nv := s'.nv } s' ∧ fld valid s' = 1 ∧
  (∃ b, recRead id s' = some b ∧
    ∀ i off, offs[i]? = some off →
      (off ≠ valid.off → leAt (4 * i) 4 b = (regNow off s').toNat) ∧
      (∀ r ∈ rwRows s0.part off, r.1.of (BitVec.ofNat 32 (leAt (4 * i) 4 b)) = fldNow r.1 s')) ∧
  (∀ a, mget nvDflt s'.nv.mem a = mget nvDflt s0.nv.mem a) ∧
  (∀ i, i ≠ id → recGet i s' = recGet i s0) ∧
  keepsRegs [valid.off, (errRange valid.off).off] s0 s'

/-! ## Invariants of a safe run -/

/-- The UHF radio transmits: a UHF_TX is on the air, or ramps up for it (R220). -/
def transmits (s : State) : Bool :=
  s.uhf.bg.isNone && !s.uhf.window &&
  (match s.uhf.run with
   | some r => r.tx && r.phase == .air && !r.paused && decide (r.start ≤ now s + usTicks 4)
   | none => false)

/-- What the pads of the radios and of the CAN port may show: the coexistence lines rise only with UHF_COEX_CTL.EN, and
COEX_PRI only with COEX_REQ (R215); the amplifier is on and the switch on transmit only while the radio transmits (R220);
CAN_STB is low only while the CAN port works (R291). -/
def linesSafe (s : State) : Prop :=
  (s.pins.coexReq = true → coexEn s = true) ∧
  (s.pins.coexPri = true → s.pins.coexReq = true) ∧
  (s.pins.pa = s.pins.trsw) ∧
  (s.pins.pa = true → transmits s = true) ∧
  (s.pins.canStb = false → islandOn .can s = true ∧ flag FLK_CAN_CFG.EN s = true ∧ s.pwr.inReset = false
    ∧ s.pwr.vaonDown = false)

end Sys2Proof.Machine
end

