-- ==== Sys2Proof/Certificates/Slice0/Obligations.lean ====
section
/-! DEFINITION. Certificates/Slice0/Obligations.lean: the statements for the provers. A statement about a command names
the state it starts from and says which next state its command gives; `elapse t s` is the state at the command's own
tick. -/
open Sys2Proof Sys2Proof.Machine

/-! ## The queue, reset and the machine as a whole -/

/-- One step takes the command at the front of the queue and runs it on the state with the queue's rest. -/
def Obligations.StepRunsFrontCommand : Prop :=
  ∀ (c : Instr) (rest : List Instr) (s : State), s.pending = c :: rest → step s = exec c { s with pending := rest }

/-- With no command waiting, one edge of the counting clock passes (R65; the model's choice, log entry 2): TIMEBASE holds,
or counts 1 tick of Fast 38.4, or 1 or 2 of Fast 19.2, or 1171.875 of slow content, and nothing but the clocks and the
write-combining buffer changes. -/
def Obligations.IdleStepCountsOneEdge : Prop :=
  ∀ s : State, s.pending = [] →
    ∃ s', step s = .next s' ∧
      s' = { s with clk := s'.clk, nv := { s.nv with buf := s'.nv.buf } } ∧
      (tbRuns s = false → s' = s) ∧
      (tbRuns s = true → s.clk.content = .fast38 → s'.clk.tb = s.clk.tb + 1) ∧
      (tbRuns s = true → s.clk.content = .fast19 → s.pwr.st = .run ∨ s.pwr.st = .graze → s'.clk.tb = s.clk.tb + 1) ∧
      (tbRuns s = true → s.clk.content = .fast19 → s.pwr.st = .pen ∨ s.pwr.st = .watch → s'.clk.tb = s.clk.tb + 2) ∧
      (tbRuns s = true → s.clk.content = .slow →
        8 * s'.clk.tb.toNat + s'.clk.frac = (8 * s.clk.tb.toNat + s.clk.frac + 9375) % (8 * 2 ^ 64))

/-- What the register maps give registers at reset, on the BLV-8128. -/
def Obligations.ResetRegisters : Prop :=
  State.reset.part = .blv8128 ∧ State.reset.pending = [] ∧ State.reset.pwr.st = .run ∧
  regGet 0x0000 State.reset = 0xBE018128 ∧
  fld PWR_HINT_TOL.TOL_US State.reset = 0xFFFFFFFF ∧ fld PWR_HINT_KEEP.KEEP State.reset = 0 ∧
  fld PWR_CTL.IDLE_US State.reset = 20 ∧
  fld LFE_CARRIER.F_HZ State.reset = 125000 ∧
  fld UHF_CH0_FREQ.F_KHZ State.reset = 433620 ∧ fld UHF_CH1_FREQ.F_KHZ State.reset = 434220 ∧
  fld RNG_STATUS.STATE State.reset = 0 ∧
  fld LGR_CTL.SEAL_S State.reset = 60 ∧ fld LGR_CTL.FULL_WARN State.reset = 90 ∧
  fld LCY_CTL.SVC_MAX State.reset = 240 ∧ fld MON_CTL.IDLE_S State.reset = 300 ∧
  (∀ n < 128, fld (LFE_CHn_CFG.DUTY n) State.reset = 64 ∧ fld (LFE_CHn_CFG.EN n) State.reset = 0) ∧
  (∀ n < 32, (qp n State.reset).enabled = false ∧ (qp n State.reset).quiesced = true)

/-- The machine right after reset is safe: its memories, its records and its register file are in canonical form, its
lists have their lengths, and its pads show nothing they may not. -/
def Obligations.ResetIsSafe : Prop := memorySafe State.reset ∧ shaped State.reset ∧ linesSafe State.reset

/-- Every step keeps the pads safe: the coexistence lines rise only with UHF_COEX_CTL.EN (R215), the amplifier is on and
the antenna switch on transmit only while the UHF radio transmits (R220), and the CAN transceiver leaves standby only
while the CAN port works (R291). -/
def Obligations.StepKeepsLinesSafe : Prop :=
  ∀ s s' : State, linesSafe s → step s = .next s' → linesSafe s'

/-- Every step keeps the memories and the register file in canonical form. -/
def Obligations.StepKeepsMemorySafe : Prop :=
  ∀ s s' : State, memorySafe s → step s = .next s' → memorySafe s'

/-- Every step keeps the number of everything that the spec fixes, and the SEQ of every record copy within 32 bits. -/
def Obligations.StepKeepsShape : Prop :=
  ∀ s s' : State, memorySafe s → shaped s → step s = .next s' → shaped s'

/-! ## Register commands -/

/-- CLK_CNT_CLR, HIF_CNT_CLR, LFE_CNT_CLR, FLD_CNT_CLR, UHF_CNT_CLR, UWB_CNT_CLR (on a part with a UWB unit), VRD_CNT_CLR,
FLK_CNT_CLR, CRY_CNT_CLR, RNG_CNT_CLR, NVS_CNT_CLR, LGR_CNT_CLR, TMR_CNT_CLR, LCY_CNT_CLR and MON_CNT_CLR each complete,
with the PCIE island powered: each bit that is set clears its counters; every other field of every register, and
everything else, stays. -/
def Obligations.CounterClearsZeroSelectedCounters : Prop :=
  ∀ (s : State) (t : Nat) (v : Word), live s = true → islandOn .pcie s = true → memorySafe s → shaped s →
    (∃ s', exec (.clkCntClr t v) s = .next s' ∧
      clears [(CLK_CNT_CLR.MARK, [wholeReg CLK_MARK_CNT.reg]),
        (CLK_CNT_CLR.VIOL, [wholeReg CLK_VIOL_CNT.reg]),
        (CLK_CNT_CLR.LOSS, [wholeReg CLK_LOSS_CNT.reg])]
        v (written t CLK_CNT_CLR.reg s) s') ∧
    (∃ s', exec (.hifCntClr t v) s = .next s' ∧
      clears [(HIF_CNT_CLR.VIOL, [wholeReg HIF_VIOL_CNT.reg]),
        (HIF_CNT_CLR.DRV, [HIF_DRV_Q.HWM, HIF_DRV_Q.STALLS])]
        v (written t HIF_CNT_CLR.reg s) s') ∧
    (∃ s', exec (.lfeCntClr t v) s = .next s' ∧
      clears [(LFE_CNT_CLR.CNT, [wholeReg LFE_CNT.reg])] v (written t LFE_CNT_CLR.reg s) s') ∧
    (∃ s', exec (.fldCntClr t v) s = .next s' ∧
      clears [(FLD_CNT_CLR.CNT, [wholeReg FLD_CNT.reg])] v (written t FLD_CNT_CLR.reg s) s') ∧
    (∃ s', exec (.uhfCntClr t v) s = .next s' ∧
      clears [(UHF_CNT_CLR.OBN, [wholeReg UHF_OBN_CNT0.reg, wholeReg UHF_OBN_CNT1.reg]),
        (UHF_CNT_CLR.COEX, [wholeReg UHF_COEX_CNT.reg])]
        v (written t UHF_CNT_CLR.reg s) s') ∧
    (s.part ≠ .blv8032n → ∃ s', exec (.uwbCntClr t v) s = .next s' ∧
      clears [(UWB_CNT_CLR.CNT, [wholeReg UWB_CNT0.reg, wholeReg UWB_CNT1.reg])] v (written t UWB_CNT_CLR.reg s) s') ∧
    (∃ s', exec (.vrdCntClr t v) s = .next s' ∧
      clears [(VRD_CNT_CLR.CNT, [wholeReg VRD_CNT0.reg, wholeReg VRD_CNT1.reg, wholeReg VRD_CNT2.reg]),
        (VRD_CNT_CLR.LAST, [VRD_LAST.MAX_CYCLES, VRD_LAST.WAIT_MAX])]
        v (written t VRD_CNT_CLR.reg s) s') ∧
    (∃ s', exec (.flkCntClr t v) s = .next s' ∧
      clears [(FLK_CNT_CLR.AUTH, [wholeReg FLK_AUTH_CNT.reg]),
        (FLK_CNT_CLR.COIL, [wholeReg FLK_COIL_CNT.reg]),
        (FLK_CNT_CLR.ECU, [wholeReg FLK_ECU_CNT0.reg, wholeReg FLK_ECU_CNT1.reg]),
        (FLK_CNT_CLR.PIN, [FLK_PIN_CNT.ENGAGED])]
        v (written t FLK_CNT_CLR.reg s) s') ∧
    (∃ s', exec (.cryCntClr t v) s = .next s' ∧
      clears [(CRY_CNT_CLR.CNT, [wholeReg CRY_CNT0.reg, wholeReg CRY_CNT1.reg, wholeReg CRY_PKE_CNT.reg])]
        v (written t CRY_CNT_CLR.reg s) s') ∧
    (∃ s', exec (.rngCntClr t v) s = .next s' ∧
      clears [(RNG_CNT_CLR.CNT, [wholeReg RNG_CNT0.reg, wholeReg RNG_RESEED_CNT.reg])] v (written t RNG_CNT_CLR.reg s) s') ∧
    (∃ s', exec (.nvsCntClr t v) s = .next s' ∧
      clears [(NVS_CNT_CLR.ECC, [wholeReg NVS_ECC_CNT.reg, wholeReg NVS_ERR_ADDR.reg]),
        (NVS_CNT_CLR.REC, [wholeReg NVS_REC_CNT.reg]),
        (NVS_CNT_CLR.TALLY, [wholeReg NVS_TALLY_CNT.reg])]
        v (written t NVS_CNT_CLR.reg s) s') ∧
    (∃ s', exec (.lgrCntClr t v) s = .next s' ∧
      clears [(LGR_CNT_CLR.CNT, [wholeReg LGR_CNT0.reg, wholeReg LGR_CNT1.reg, wholeReg LGR_CNT2.reg])]
        v (written t LGR_CNT_CLR.reg s) s') ∧
    (∃ s', exec (.tmrCntClr t v) s = .next s' ∧
      clears [(TMR_CNT_CLR.CNT, [wholeReg TMR_CNT.reg])] v (written t TMR_CNT_CLR.reg s) s') ∧
    (∃ s', exec (.lcyCntClr t v) s = .next s' ∧
      clears [(LCY_CNT_CLR.CNT, [wholeReg LCY_CNT.reg])] v (written t LCY_CNT_CLR.reg s) s') ∧
    (∃ s', exec (.monCntClr t v) s = .next s' ∧
      clears [(MON_CNT_CLR.CNT, [wholeReg MON_CNT.reg])] v (written t MON_CNT_CLR.reg s) s')

/-- Commits, while their records take writes: LFE_COMMIT, UHF_COMMIT, UWB_COMMIT, VRD_COMMIT, FLK_COMMIT, CRY_COMMIT and
TMR_COMMIT store every register of the set-up as it was last written; LGR_COMMIT, LCY_COMMIT and MON_CTL_WRITE take each
field in range and store the block's fields; FLD_COMMIT stores the live tree and the retirement state. VALID then reads 1;
the MRAM's bytes and every other record stay. -/
def Obligations.CommitsStoreSetups : Prop :=
  (∀ (s : State) (t : Nat) (v : Word), live s = true → islandOn .pcie s = true → memorySafe s → shaped s →
      (recFails recLfe s = false →
        ∃ s', exec (.lfeCommit t v) s = .next s' ∧ storesSetup recLfe LFE_CTL.VALID lfeSetup (written t LFE_CTL.reg s) s') ∧
      (recFails recUhf s = false →
        ∃ s', exec (.uhfCommit t v) s = .next s' ∧ storesSetup recUhf UHF_CTL.VALID uhfSetup (written t UHF_CTL.reg s) s') ∧
      (s.part ≠ .blv8032n → recFails recUwb s = false →
        ∃ s', exec (.uwbCommit t v) s = .next s' ∧ storesSetup recUwb UWB_CTL.VALID uwbSetup (written t UWB_CTL.reg s) s') ∧
      (VRD_CTL.ACT_RULES.of v = 0 → VRD_CTL.ACT_MAP.of v = 0 → recFails recVrd s = false →
        ∃ s', exec (.vrdCommit t v) s = .next s' ∧ storesSetup recVrd VRD_CTL.VALID vrdSetup (written t VRD_CTL.reg s) s') ∧
      (recFails recFlk s = false →
        ∃ s', exec (.flkCommit t v) s = .next s' ∧ storesSetup recFlk FLK_CTL.VALID flkSetup (written t FLK_CTL.reg s) s') ∧
      (recFails recCry s = false →
        ∃ s', exec (.cryCommit t v) s = .next s' ∧ storesSetup recCry CRY_CTL.VALID crySetup (written t CRY_CTL.reg s) s') ∧
      (recFails recTmr s = false →
        ∃ s', exec (.tmrCommit t v) s = .next s' ∧ storesSetup recTmr TMR_CTL.VALID tmrSetup (written t TMR_CTL.reg s) s')) ∧
  (∀ (s : State) (t : Nat) (v : Word), live s = true → islandOn .pcie s = true → memorySafe s → shaped s →
      (recFails recLgr s = false →
        ∃ s', exec (.lgrCommit t v) s = .next s' ∧
          settles { written t LGR_CTL.reg s with regs := s'.regs, nv := s'.nv } s' ∧ fld LGR_CTL.VALID s' = 1 ∧
          fld LGR_CTL.EVT s' = LGR_CTL.EVT.of v ∧
          fld LGR_CTL.FULL_WARN s' = (if 50 ≤ LGR_CTL.FULL_WARN.of v ∧ LGR_CTL.FULL_WARN.of v ≤ 99 then LGR_CTL.FULL_WARN.of v
            else fld LGR_CTL.FULL_WARN s) ∧
          fld LGR_CTL.SEAL_S s' = (if 1 ≤ LGR_CTL.SEAL_S.of v ∧ LGR_CTL.SEAL_S.of v ≤ 3600 then LGR_CTL.SEAL_S.of v
            else fld LGR_CTL.SEAL_S s) ∧
          recRead recLgr s' = some ([byteOf (fld LGR_CTL.EVT s'), byteOf (fld LGR_CTL.FULL_WARN s')]
            ++ leBytes 2 (fld LGR_CTL.SEAL_S s')) ∧
          keepsRegs [LGR_CTL.reg, LGR_STATUS.reg] (written t LGR_CTL.reg s) s') ∧
      (recFails recLcy s = false →
        ∃ s', exec (.lcyCommit t v) s = .next s' ∧
          settles { written t LCY_CTL.reg s with regs := s'.regs, nv := s'.nv } s' ∧ fld LCY_CTL.VALID s' = 1 ∧
          fld LCY_CTL.SVC_MAX s' = (if 1 ≤ LCY_CTL.SVC_MAX.of v ∧ LCY_CTL.SVC_MAX.of v ≤ 1440 then LCY_CTL.SVC_MAX.of v
            else fld LCY_CTL.SVC_MAX s) ∧
          recRead recLcy s' = some (leBytes 2 (fld LCY_CTL.SVC_MAX s')) ∧ keepsRegs [LCY_CTL.reg, LCY_STATUS.reg] (written t LCY_CTL.reg s) s') ∧
      (recFails recMon s = false → s.heldWr = [] →
        ∃ s', exec (.monCtlWrite t v) s = .next s' ∧
          settles { written t MON_CTL.reg s with regs := s'.regs, nv := s'.nv } s' ∧
          fld MON_CTL.BAUD s' = (if MON_CTL.BAUD.of v ≤ 6 then MON_CTL.BAUD.of v else fld MON_CTL.BAUD s) ∧
          fld MON_CTL.IDLE_S s' = (if 10 ≤ MON_CTL.IDLE_S.of v ∧ MON_CTL.IDLE_S.of v ≤ 3600 then MON_CTL.IDLE_S.of v
            else fld MON_CTL.IDLE_S s) ∧
          fld MON_CTL.EVT_ECHO s' = MON_CTL.EVT_ECHO.of v ∧
          recRead recMon s' = some (leBytes 4 (regGet MON_CTL.reg s').toNat) ∧ keepsRegs [MON_CTL.reg, MON_STATUS.reg] (written t MON_CTL.reg s) s')) ∧
  (∀ (s : State) (t : Nat) (v : Word), live s = true → islandOn .pcie s = true → memorySafe s → shaped s →
      FLD_CTL.APPLY.of v = 0 → FLD_CTL.DISCARD.of v = 0 → recFails recTree s = false →
      ∃ s', exec (.fldCommit t v) s = .next s' ∧ fld FLD_CTL.VALID s' = 1 ∧
        recRead recTree s' = some (treeBytes s.fold.live s.fold.retired) ∧
        settles { written t FLD_CTL.reg s with regs := s'.regs, nv := s'.nv } s' ∧ keepsRegs [FLD_CTL.reg, FLD_STATUS.reg] (written t FLD_CTL.reg s) s' ∧
        (∀ id, id ≠ recTree → recGet id s' = recGet id s) ∧ (∀ a, mget nvDflt s'.nv.mem a = mget nvDflt s.nv.mem a))

/-- REGISTER_WRITE to a register whose fields have no behaviour of their own: each RW field in range takes the value
written, each out of range keeps its value and sets the block's ERR_RANGE, each W1C bit written with 1 clears, and
nothing outside the block's two registers changes; an access that is not 32 bits wide is discarded. CLK_SHADOW_WRITE puts the word into the shadow of CLK_GAP_CTL or
CLK_WATCH_CTL, and the register in force stays. TMR_PINF_WRITE gives each of four pins its byte when FUNC and CH are in
range, and the pads then show what their functions drive. -/
def Obligations.RegisterWritesTakeEffect : Prop :=
  (∀ (s : State) (t off : Nat) (v : Word), live s = true → islandOn .pcie s = true → memorySafe s → shaped s → s.heldWr = [] →
      off ∈ [PWR_CTL.reg, PWR_WAKE_CTL.reg, PWR_WAKE_BIND0.reg, PWR_WAKE_BIND1.reg, LFE_CARRIER.reg, LFE_THR.reg,
        LFE_DIAG_CTL.reg, LFE_COIL_CTL.reg, UHF_CH0_FREQ.reg, UHF_CH1_FREQ.reg, UHF_CH0_MOD.reg, UHF_CH1_MOD.reg,
        UHF_RXCFG.reg, UHF_TXLIM.reg, UHF_COEX_CTL.reg, UHF_COEX_POL.reg, UWB_TXCFG.reg, FLK_CAN_CFG.reg, NVS_CTL.reg] →
      held off s = false → (off = UWB_TXCFG.reg → s.part ≠ .blv8032n) →
      (∀ size, size ≠ 4 → ∃ s', exec (.registerWrite t ⟨off, size⟩ v) s = .next s' ∧ settles (tlpWake (elapse t s)) s') ∧
      ∃ s', exec (.registerWrite t ⟨off, 4⟩ v) s = .next s' ∧
        settles { written t off s with regs := s'.regs } s' ∧
        (∀ r ∈ rwRows s.part off, fld r.1 s' = if r.2 (r.1.of v) then r.1.of v else fld r.1 (written t off s)) ∧
        ((∃ r ∈ rwRows s.part off, r.2 (r.1.of v) = false) → fld (errRange off) s' = 1) ∧
        ((∀ r ∈ rwRows s.part off, r.2 (r.1.of v) = true) → fld (errRange off) s' = fld (errRange off) s) ∧
        keepsRegs [off, (errRange off).off] (written t off s) s') ∧
  (∀ (s : State) (t : Nat) (v : Word), live s = true → islandOn .pcie s = true → memorySafe s → shaped s →
      (∃ s' w, exec (.clkShadowWrite t CLK_GAP_CTL.reg v) s = .next s' ∧ s'.clk = { (elapse t s).clk with shGap := some w } ∧
        (∀ r ∈ clkPwrRows CLK_GAP_CTL.reg, r.1.of w = if r.2 (r.1.of v) then r.1.of v
          else r.1.of (s.clk.shGap.getD (regGet CLK_GAP_CTL.reg s))) ∧
        fld CLK_STATUS.SHADOW_PEND s' = 1 ∧ keepsRegs [CLK_STATUS.reg] (written t CLK_GAP_CTL.reg s) s' ∧
        settles { written t CLK_GAP_CTL.reg s with regs := s'.regs, clk := s'.clk } s') ∧
      (∃ s' w, exec (.clkShadowWrite t CLK_WATCH_CTL.reg v) s = .next s' ∧ s'.clk = { (elapse t s).clk with shWatch := some w } ∧
        (∀ r ∈ clkPwrRows CLK_WATCH_CTL.reg, r.1.of w = r.1.of v) ∧
        fld CLK_STATUS.SHADOW_PEND s' = 1 ∧ keepsRegs [CLK_STATUS.reg] (written t CLK_WATCH_CTL.reg s) s' ∧
        settles { written t CLK_WATCH_CTL.reg s with regs := s'.regs, clk := s'.clk } s')) ∧
  (∀ (s : State) (t n : Nat) (v : Word), live s = true → islandOn .pcie s = true → memorySafe s → shaped s → n < 6 →
      ∃ s', exec (.tmrPinfWrite t n v) s = .next s' ∧
        (∀ j < 4, let b := bits (8 * j + 7) (8 * j) v.toNat
          (pinfOk (4 * n + j) b = true → pinFunc (4 * n + j) s' = b % 8 ∧ pinCh (4 * n + j) s' = b / 8) ∧
          (pinfOk (4 * n + j) b = false → pinFunc (4 * n + j) s' = pinFunc (4 * n + j) s ∧
            pinCh (4 * n + j) s' = pinCh (4 * n + j) s ∧ fld TMR_STATUS.ERR_RANGE s' = 1)) ∧
        (∀ g < 24, s'.pins.gpio.getLsbD g = pinLevel g s') ∧
        keepsRegs [TMR_PINFn.reg n, TMR_STATUS.reg] (tlpWake (elapse t s)) s' ∧ keepsMemory s s' ∧
        s'.hif = s.hif ∧ s'.lgr = s.lgr ∧ s'.tmr.ch = s.tmr.ch ∧ s'.flk = s.flk ∧ s'.uhf = s.uhf ∧ s'.uwb = s.uwb ∧ s'.lf = s.lf)

/-- FLD_APPLY of a staging copy that passes every check of Table 07.1 makes it pending, and on an idle engine the next
FOLD_TREE_LIVE makes it live with a new generation; FLD_DISCARD puts the live tree back into the staging copy. -/
def Obligations.FoldTreeAppliesAndDiscards : Prop :=
  ∀ (s : State) (t : Nat) (v : Word), live s = true → islandOn .pcie s = true → memorySafe s → shaped s →
    FLD_CTL.COMMIT.of v = 0 →
    (FLD_CTL.DISCARD.of v = 0 → s.fold.pend = none → treeBad s.fold.staging s = none →
      ∃ s', exec (.fldApply t v) s = .next s' ∧ s'.fold = { s.fold with pend := some s.fold.staging } ∧
        fld FLD_STATUS.PEND s' = 1 ∧ fld FLD_STATUS.APPLY_ERR s' = 0 ∧
        settles { written t FLD_CTL.reg s with regs := s'.regs, fold := s'.fold } s' ∧ keepsRegs [FLD_CTL.reg, FLD_STATUS.reg] (written t FLD_CTL.reg s) s') ∧
    (FLD_CTL.DISCARD.of v = 0 → s.fold.pend = none → ∀ code node, treeBad s.fold.staging s = some (code, node) →
      ∃ s', exec (.fldApply t v) s = .next s' ∧ s'.fold = s.fold ∧ fld FLD_STATUS.APPLY_ERR s' = code % 2 ^ FLD_STATUS.APPLY_ERR.width ∧
        settles { written t FLD_CTL.reg s with regs := s'.regs } s' ∧ keepsRegs [FLD_CTL.reg, FLD_STATUS.reg, FLD_CNT.reg] (written t FLD_CTL.reg s) s') ∧
    (FLD_CTL.APPLY.of v = 0 →
      ∃ s', exec (.fldDiscard t v) s = .next s' ∧ s'.fold = { s.fold with staging := s.fold.live } ∧
        settles { written t FLD_CTL.reg s with regs := s'.regs, fold := s'.fold } s' ∧ keepsRegs [FLD_CTL.reg, FLD_STATUS.reg] (written t FLD_CTL.reg s) s') ∧
    (s.nv.ledgerReady = true → s.fold.op = none → ∀ tree, s.fold.pend = some tree →
      ∃ s', exec (.foldTreeLive t) s = .next s' ∧ s'.fold = { s.fold with live := tree, pend := none } ∧
        fld FLD_STATUS.PEND s' = 0 ∧ fld FLD_GEN.GEN s' = (fld FLD_GEN.GEN s + 1) % 65536)

/-! ## Register commands that act -/

/-- VRD_RULES_LOAD and VRD_MAP_LOAD: a blob that passes the checks of R262 is the staged bank and its record, and with
ACTIVATE the active one; one whose tag is wrong leaves the staged bank invalid with MAC_FAIL. VRD_EVAL evaluates its inputs
against the banks it names and changes nothing but DST. VRD_ACT_RULES and VRD_ACT_MAP make the staged set the active one;
where nothing is staged, SWAP_ERR reads 1 and the verdict engine keeps what it had. -/
def Obligations.RuleAndMapSetsLoadAndSwap : Prop :=
  (∀ (s : State) (t : Nat) (v : Word), live s = true → islandOn .pcie s = true → memorySafe s → shaped s →
      s.nv.ledgerReady = true → VRD_CTL.COMMIT.of v = 0 →
      (VRD_CTL.ACT_MAP.of v = 0 →
        (∀ r, s.vrd.stRules = some r →
          ∃ s', exec (.vrdActRules t v) s = .next s' ∧
            s'.vrd = { s.vrd with rules := some r, stRules := none, ruleBank := 1 - s.vrd.ruleBank } ∧
            s'.lf = s.lf ∧ s'.flk = s.flk ∧ s'.fold = s.fold ∧ s'.uhf = s.uhf ∧ s'.uwb = s.uwb ∧ s'.cry = s.cry) ∧
        (s.vrd.stRules = none → ∃ s', exec (.vrdActRules t v) s = .next s' ∧ s'.vrd = s.vrd ∧
          fld VRD_STATUS.SWAP_ERR s' = 1 ∧ settles { written t VRD_CTL.reg s with regs := s'.regs } s' ∧
          keepsRegs [VRD_CTL.reg, VRD_STATUS.reg] (written t VRD_CTL.reg s) s')) ∧
      (VRD_CTL.ACT_RULES.of v = 0 →
        (∀ m, s.vrd.stMap = some m →
          ∃ s', exec (.vrdActMap t v) s = .next s' ∧
            s'.vrd = { s.vrd with map := some m, stMap := none, mapBank := 1 - s.vrd.mapBank } ∧
            s'.lf = s.lf ∧ s'.flk = s.flk ∧ s'.fold = s.fold ∧ s'.uhf = s.uhf ∧ s'.uwb = s.uwb ∧ s'.cry = s.cry) ∧
        (s.vrd.stMap = none → ∃ s', exec (.vrdActMap t v) s = .next s' ∧ s'.vrd = s.vrd ∧
          fld VRD_STATUS.SWAP_ERR s' = 1 ∧ settles { written t VRD_CTL.reg s with regs := s'.regs } s' ∧
          keepsRegs [VRD_CTL.reg, VRD_STATUS.reg] (written t VRD_CTL.reg s) s'))) ∧
  (∀ (s : State) (t : Nat) (d : Desc) (b : Bytes), serves t d s → dmaRead d d.srcAddr d.len s = some b →
      s.nv.wornRecs = [] → s.nv.ledgerReady = true → let s0 := elapse t s; let ver := leAt 4 4 b
      let loads (rules : Bool) (s' : State) : Prop :=
        let tagged := p16 d 2 = 0xFFFF ∨ ∃ n x, keyFor (p16 d 2) 2 isAes s = some (n, x) ∧
          cmac x.key (b.take (b.length - 16)) = b.drop (b.length - 16)
        (tagged → lcState s = 0 ∨ activeVersion rules s < ver → (if rules then rulesBad b s else mapBad b s) = none →
          (p8 d 0 = 0 → ∃ s1, answers d stOk (loadResult ver (leAt 8 2 b) false 0xFFFF) 0 s1 s' ∧
            s1 = { s0 with
              vrd := (if rules then { s.vrd with stRules := some (parseRules b) } else { s.vrd with stMap := some (parseMap b) })
              regs := s1.regs, nv := s1.nv } ∧
            recRead (if rules then recRules (1 - s.vrd.ruleBank) else recMap (1 - s.vrd.mapBank)) s'
              = some (b.take (b.length - 16))) ∧
          (p8 d 0 = 1 → ∃ s1, answers d stOk (loadResult ver (leAt 8 2 b) true 0xFFFF) 0 s1 s' ∧
            s'.vrd = (if rules
              then { s.vrd with rules := some (parseRules b), stRules := none, ruleBank := 1 - s.vrd.ruleBank }
              else { s.vrd with map := some (parseMap b), stMap := none, mapBank := 1 - s.vrd.mapBank }) ∧
            s'.lf = s.lf ∧ s'.poll = s.poll ∧ s'.flk = s.flk ∧ s'.cry = s.cry)) ∧
        (∀ n x, p16 d 2 ≠ 0xFFFF → keyFor (p16 d 2) 2 isAes s = some (n, x) →
          cmac x.key (b.take (b.length - 16)) ≠ b.drop (b.length - 16) →
          ∃ s1, completed d stMacFail (loadResult ver (leAt 8 2 b) false 0xFFFF) 0 s1 s' ∧
            s'.vrd = (if rules then { s.vrd with stRules := none } else { s.vrd with stMap := none }) ∧
            fld CRY_CNT1.MAC_FAIL s' = sat 16 (fld CRY_CNT1.MAC_FAIL s + 1))
      (isRow 0x30 d = true → p8 d 0 ≤ 1 → p8 d 1 = 0 → parNonzero 4 24 d = none → blobForm true b = true →
        ∃ s', exec (.vrdRulesLoad t d) s = .next s' ∧ loads true s') ∧
      (isRow 0x31 d = true → p8 d 0 ≤ 1 → p8 d 1 = 0 → parNonzero 4 24 d = none → blobForm false b = true →
        ∃ s', exec (.vrdMapLoad t d) s = .next s' ∧ loads false s') ∧
      (∀ (r : RuleSet) (m : ZoneMap), isRow 0x32 d = true → p8 d 0 ≤ 3 → parNonzero 1 24 d = none →
        (if bit 0 (p8 d 0) then s.vrd.stRules else s.vrd.rules) = some r →
        (if bit 1 (p8 d 0) then s.vrd.stMap else s.vrd.map) = some m →
        (∀ x ∈ chunks 32 b, evalInputOk x s = true) →
        let os := (chunks 32 b).map (fun x => evalOne (some r) (some m) x s)
        dmaBlocked d d.dstAddr (os.map (·.1)).flatten.length s = false →
        ∃ s', exec (.vrdEval t d) s = .next s' ∧
          answers d stOk (leBytes 2 os.length ++ leBytes 2 (os.countP (·.2))) 0
            (dmaWrite d d.dstAddr (os.map (·.1)).flatten s0) s'))

/-- FLK_START_DISABLE ends a start permission with reason 7 and releases the STARTEN channels; START_HOLD_EXPIRY ends one
with reason 3 when HOLD_S has passed since its grant, and not before. START_REVOKE ends one and answers whether there was
one and the TIMEBASE of the last edge of the lines, at once while they are static and else with the static edge;
STARTEN_TICK, every 0.5 ms, starts or toggles the lines while there is a permission, and makes them static without one; at
another tick, or a second time at one, it does nothing. -/
def Obligations.StartLinesFollowThePermission : Prop :=
  (∀ (s : State) (t : Nat) (v : Word), live s = true → memorySafe s → shaped s → s.nv.ledgerReady = true →
      (islandOn .pcie s = true → FLK_START_CTL.HOLD_S.of v ≤ 3600 →
        ∃ s', exec (.flkStartDisable t v) s = .next s' ∧ s'.flk.perm = none ∧ fld FLK_START_CTL.EN s' = 0 ∧
          fld FLK_START_CTL.HOLD_S s' = FLK_START_CTL.HOLD_S.of v ∧
          (s.flk.perm.isSome = true → fld FLK_STATUS.START_ACTIVE s' = 0 ∧ fld FLK_STATUS.END_REASON s' = 7 ∧
            fld FLK_DRIVER.DOR s' = 0xFF) ∧
          (s.flk.perm = none → s'.flk = s.flk ∧ keepsRegs [FLK_START_CTL.reg, FLK_STATUS.reg] (written t FLK_START_CTL.reg s) s')) ∧
      (∀ p, s.flk.perm = some p → p.hold ≠ 0 → p.grant + secTicks p.hold ≤ now (elapse t s) →
        ∃ s', exec (.startHoldExpiry t) s = .next s' ∧ s'.flk = { s.flk with perm := none } ∧
          fld FLK_STATUS.START_ACTIVE s' = 0 ∧ fld FLK_STATUS.END_REASON s' = 3 ∧ fld FLK_DRIVER.DOR s' = 0xFF) ∧
      (∀ p, s.flk.perm = some p → p.hold = 0 ∨ now (elapse t s) < p.grant + secTicks p.hold →
        ∃ s', exec (.startHoldExpiry t) s = .next s' ∧ settles (elapse t s) s')) ∧
  (∀ (s : State) (t : Nat), live s = true → memorySafe s → shaped s → let s0 := elapse t s
      let lines (a b : Bool) (s' : State) : Prop :=
        (chan 29 s').out = a ∧ (chan 30 s').out = b ∧
        (∀ k < 32, { chan k s' with out := (chan k s).out } = chan k s) ∧ (∀ k < 29, chan k s' = chan k s) ∧
        settles { s0 with
          pins := { s.pins with startA := a, startB := b }
          tmr := { s.tmr with ch := s'.tmr.ch }
          flk := { s.flk with
            lastEdge := if a = s.pins.startA ∧ b = s.pins.startB then s.flk.lastEdge else now s0 } } s'
      (∀ d : Desc, serves t d s → isRow 0x3B d = true → parNonzero 1 24 d = none → s.nv.ledgerReady = true →
        (s.pins.startA = false → s.pins.startB = false →
          ∃ s1 s', exec (.startRevoke t d) s = .next s' ∧
            answers d stOk ([byteOf (b2n s.flk.perm.isSome), 0] ++ leBytes 8 s.flk.lastEdge) 0 s1 s' ∧
            (s.flk.perm = none → s1 = s0) ∧
            recordsOnly [] [FLK_STATUS.reg, FLK_DRIVER.reg] { s0 with flk := { s.flk with perm := none } } s1 ∧
            (s.flk.perm.isSome = true → fld FLK_STATUS.START_ACTIVE s' = 0 ∧ fld FLK_STATUS.END_REASON s' = 2 ∧
              fld FLK_DRIVER.DOR s' = 0xFF)) ∧
        (s.pins.startA = true ∨ s.pins.startB = true →
          ∃ s', exec (.startRevoke t d) s = .next s' ∧
            recordsOnly [] [FLK_STATUS.reg, FLK_DRIVER.reg]
              { s0 with flk := { s.flk with perm := none, revoke := s.flk.revoke ++ [(d, s.flk.perm.isSome)] } } s')) ∧
      (now s0 % 19200 = 0 → s.flk.lastEdge ≠ now s0 ∨ now s0 = 0 →
        (s.flk.perm.isSome = true → s.pins.startA = false → s.pins.startB = false →
          ∃ s', exec (.startenTick t) s = .next s' ∧ lines true false s') ∧
        (s.flk.perm.isSome = true → s.pins.startA = true ∨ s.pins.startB = true →
          ∃ s', exec (.startenTick t) s = .next s' ∧ lines (!s.pins.startA) (!s.pins.startB) s') ∧
        (s.flk.perm = none → s.flk.revoke = [] → ∃ s', exec (.startenTick t) s = .next s' ∧ lines false false s') ∧
        (∀ d was, s.flk.perm = none → s.flk.revoke = [(d, was)] → s.pins.startA = true → heard d s0 = true →
          ∃ s1 s', exec (.startenTick t) s = .next s' ∧
            answers d stOk ([byteOf (b2n was), 0] ++ leBytes 8 (now s0)) 0 s1 s' ∧
            s1.pins.startA = false ∧ s1.pins.startB = false ∧
            s1 = { s0 with
              pins := s1.pins, tmr := s1.tmr, flk := { s.flk with revoke := [], lastEdge := now s0 } })) ∧
      (now s0 % 19200 ≠ 0 ∨ s.flk.lastEdge = now s0 ∧ now s0 ≠ 0 →
        ∃ s', exec (.startenTick t) s = .next s' ∧ settles s0 s'))

/-- The generator: in Blank TEST_SRC switches to the test pattern with a new Steep, and elsewhere ERR_RANGE reads 1; a
passed Steep makes it Ready with seed and pool, a refill fills the pool, a due reseed takes it; a health failure counts its
test and goes to Resteep, the third in a row latches the generator off and degrades the masking; 2^22 good samples clear the
failures; a window of the estimators shows its values; a request that waits for the pool is served when it is full. -/
def Obligations.GeneratorFollowsItsSource : Prop :=
  (∀ (s : State) (t : Nat) (v : Word), live s = true → islandOn .pcie s = true → memorySafe s → shaped s →
      ∃ s', exec (.rngTestSrcWrite t v) s = .next s' ∧
        settles { written t RNG_CTL.reg s with regs := s'.regs } s' ∧ fld RNG_CTL.EST_EN s' = RNG_CTL.EST_EN.of v ∧
        (RNG_CTL.TEST_SRC.of v = 1 → lcState s = 0 → fld RNG_CTL.TEST_SRC s' = 1 ∧ fld RNG_STATUS.TEST_ACTIVE s' = 1 ∧
          (rngState s ≠ 4 → rngState s' = 1 ∧ fld RNG_STATUS.POOL_FULL s' = 0 ∧ fld RNG_REQ_CNT.SINCE_RESEED s' = 0)) ∧
        (RNG_CTL.TEST_SRC.of v = 1 → lcState s ≠ 0 → fld RNG_CTL.TEST_SRC s' = fld RNG_CTL.TEST_SRC s ∧
          fld RNG_STATUS.ERR_RANGE s' = 1 ∧ rngState s' = rngState s) ∧
        (RNG_CTL.TEST_SRC.of v = 0 → fld RNG_CTL.TEST_SRC s' = 0 ∧ fld RNG_STATUS.TEST_ACTIVE s' = 0 ∧
          rngState s' = rngState s) ∧
        keepsRegs [RNG_CTL.reg, RNG_STATUS.reg, RNG_REQ_CNT.reg] (written t RNG_CTL.reg s) s') ∧
  (∀ (s : State) (t : Nat), live s = true → memorySafe s → shaped s → let s0 := elapse t s
      let quiet := s.rng.wait = [] ∧ s.lcy.steepWait = [] ∧ s.lcy.retiring = false
      (∀ o : RngObs, quiet → rngState s = 1 ∨ rngState s = 3 →
        ∃ s', exec (.rngSteepPass t o) s = .next s' ∧
          settles { s0 with regs := s'.regs, rng := { s.rng with tested := o.tested, rctMax := o.rctMax } } s' ∧
          rngState s' = 2 ∧ fld RNG_STATUS.POOL_FULL s' = 1 ∧ fld RNG_REQ_CNT.SINCE_RESEED s' = 0 ∧
          fld RNG_CNT0.STEEPS s' = sat RNG_CNT0.STEEPS.width (fld RNG_CNT0.STEEPS s + 1) ∧
          keepsRegs [RNG_STATUS.reg, RNG_REQ_CNT.reg, RNG_CNT0.reg, RNG_EST2.reg] s s') ∧
      (∀ (o : RngObs) (test value : Nat), quiet → 1 ≤ rngState s → rngState s ≤ 3 → testFails test value = true →
        s.nv.ledgerReady = true →
        let fails := fld RNG_STATUS.FAILS s + 1
        let cnt := if test = 1 then RNG_CNT0.RCT_FAIL else if test = 2 then RNG_CNT0.APT_FAIL else RNG_CNT0.KAT_FAIL
        ∃ s', exec (.rngHealthFail t test value o) s = .next s' ∧
          recordsOnly [] ([RNG_STATUS.reg, RNG_CNT0.reg, RNG_EST2.reg] ++ if fails ≥ 3 then [CRY_STATUS.reg] else [])
            { s0 with rng := { s.rng with tested := o.tested, rctMax := o.rctMax } } s' ∧
          rngState s' = (if fails ≥ 3 then 4 else 3) ∧ fld RNG_STATUS.FAILS s' = min fails 3 ∧
          fld RNG_STATUS.LAST_FAIL s' = test ∧ fld RNG_STATUS.POOL_FULL s' = 0 ∧
          fld cnt s' = sat cnt.width (fld cnt s + 1) ∧ (fails ≥ 3 → fld CRY_STATUS.MASK_DEGRADED s' = 1)) ∧
      (∀ o : RngObs, rngState s = 2 →
        (2 ^ 22 ≤ o.tested → ∃ s', exec (.rngFailsClear t o) s = .next s' ∧ fld RNG_STATUS.FAILS s' = 0 ∧ rngState s' = 2 ∧
          settles { s0 with regs := s'.regs, rng := { s.rng with tested := o.tested, rctMax := o.rctMax } } s' ∧
          keepsRegs [RNG_STATUS.reg, RNG_EST2.reg] s s') ∧
        (o.tested < 2 ^ 22 → ∃ s', exec (.rngFailsClear t o) s = .next s' ∧ settles s0 s')) ∧
      (rngState s = 2 → fld RNG_STATUS.POOL_FULL s = 0 →
        (s.rng.wait = [] → ∃ s', exec (.rngPoolRefill t) s = .next s' ∧ fld RNG_STATUS.POOL_FULL s' = 1 ∧
          settles { s0 with regs := s'.regs } s' ∧ keepsRegs [RNG_STATUS.reg] s s') ∧
        (∀ d since, s.rng.wait = [(d, since)] → bit 0 (p8 d 0) = true → bit 1 (p8 d 0) = false → heard d s0 = true →
          dmaBlocked d d.dstAddr d.len s = false →
          ∃ s1 s', exec (.rngPoolRefill t) s = .next s' ∧
            answers d stOk (getResult d d.len true since s1) 0 (dmaWrite d d.dstAddr (freeBytes d.len s0) s1) s' ∧
            s1 = { s0 with regs := s1.regs, free := s.free + d.len, rng := { s.rng with wait := [] } })) ∧
      (rngState s = 2 → fld RNG_STATUS.POOL_FULL s = 1 → fld RNG_STATUS.RESEED_DUE s = 1 → s.rng.wait = [] →
        ∃ s', exec (.rngReseed t) s = .next s' ∧ fld RNG_STATUS.POOL_FULL s' = 0 ∧ fld RNG_STATUS.RESEED_DUE s' = 0 ∧
          fld RNG_REQ_CNT.SINCE_RESEED s' = 0 ∧
          fld RNG_RESEED_CNT.RESEEDS s' = sat RNG_RESEED_CNT.RESEEDS.width (fld RNG_RESEED_CNT.RESEEDS s + 1) ∧
          settles { s0 with regs := s'.regs } s' ∧ keepsRegs [RNG_STATUS.reg, RNG_REQ_CNT.reg, RNG_RESEED_CNT.reg] s s') ∧
      (∀ (bias c1 c2 c3 c4 : Int) (o : RngObs), flag RNG_CTL.EST_EN s = true → 1 ≤ rngState s → rngState s ≤ 3 →
        ∃ s', exec (.rngEstimatorWindow t bias c1 c2 c3 c4 o) s = .next s' ∧
          fld RNG_EST0.BIAS s' = encSigned 16 bias % 2 ^ 16 ∧ fld RNG_EST0.C1 s' = encSigned 16 c1 % 2 ^ 16 ∧
          fld RNG_EST1.C2 s' = encSigned 16 c2 % 2 ^ 16 ∧ fld RNG_EST1.C3 s' = encSigned 16 c3 % 2 ^ 16 ∧
          fld RNG_EST2.C4 s' = encSigned 16 c4 % 2 ^ 16 ∧
          settles { s0 with
            regs := s'.regs, rng := { s.rng with tested := o.tested, rctMax := o.rctMax, estTb := now s0 } } s' ∧
          keepsRegs [RNG_EST0.reg, RNG_EST1.reg, RNG_EST2.reg] s s'))

/-- The schedule: an entry written with ENTRY_EN while it runs falls due one PERIOD later, one written without it falls due
no more, one with a PERIOD below 100 ms is not taken; starting it gives every enabled entry its first due time, and COMMIT
stores it. SCHEDULED_POLL_DUE: a due entry asks for its fold with its slots and falls due again one period later.
WAKE_PIN_EVENT: the event of an enabled pin that has been active for DEBOUNCE, and since its last event inactive as long,
stands in the backlog while the link cannot take it, asserts WAKE_N with HOSTWAKE and the link down, and with POLL queues
its bound fold. A fold that does not exist is BAD_FOLD in the event, and a missed poll of the schedule. In Watch without fast content
both are held. -/
def Obligations.ScheduleAndPinsAskForPolls : Prop :=
  (∀ (s : State) (t e : Nat) (v : Word), running s = true → islandOn .pcie s = true → memorySafe s → shaped s → e < 16 →
      ((PWR_SCHEDn.ENTRY_EN e).of v = 1 → 10 ≤ (PWR_SCHEDn.PERIOD e).of v → flag (PWR_SCHEDn.ENTRY_EN e) s = false →
        flag PWR_SCHED_CTL.EN s = true →
        ∃ s', exec (.pwrSchedEnable t (PWR_SCHEDn.reg e) v) s = .next s' ∧
          s'.pwr.due = s.pwr.due.set e (some (now (elapse t s) + (PWR_SCHEDn.PERIOD e).of v * 384000)) ∧
          regGet (PWR_SCHEDn.reg e) s' = v &&& 0x07FFFFFF ∧ keepsRegs [PWR_SCHEDn.reg e] s s' ∧
          settles { elapse t s with regs := s'.regs, pwr := { s.pwr with due := s'.pwr.due } } s') ∧
      ((PWR_SCHEDn.ENTRY_EN e).of v = 0 →
        ∃ s', exec (.pwrSchedEnable t (PWR_SCHEDn.reg e) v) s = .next s' ∧ s'.pwr.due = s.pwr.due.set e none ∧
          regGet (PWR_SCHEDn.reg e) s' = v &&& 0x07FFFFFF ∧ keepsRegs [PWR_SCHEDn.reg e] s s' ∧
          settles { elapse t s with regs := s'.regs, pwr := { s.pwr with due := s'.pwr.due } } s') ∧
      ((PWR_SCHEDn.ENTRY_EN e).of v = 1 → (PWR_SCHEDn.PERIOD e).of v < 10 →
        ∃ s', exec (.pwrSchedEnable t (PWR_SCHEDn.reg e) v) s = .next s' ∧ fld PWR_STATUS.ERR_RANGE s' = 1 ∧
          keepsRegs [PWR_STATUS.reg] s s' ∧ settles { elapse t s with regs := s'.regs } s') ∧
      (PWR_SCHED_CTL.EN.of v = 1 → flag PWR_SCHED_CTL.EN s = false → PWR_SCHED_CTL.COMMIT.of v = 0 →
        ∃ s', exec (.pwrSchedEnable t PWR_SCHED_CTL.reg v) s = .next s' ∧ fld PWR_SCHED_CTL.EN s' = 1 ∧
          (∀ i < 16, s'.pwr.due.getD i none = if flag (PWR_SCHEDn.ENTRY_EN i) s
            then some (now (elapse t s) + fld (PWR_SCHEDn.PERIOD i) s * 384000) else s.pwr.due.getD i none) ∧
          keepsRegs [PWR_SCHED_CTL.reg] s s') ∧
      (PWR_SCHED_CTL.EN.of v = 0 → PWR_SCHED_CTL.COMMIT.of v = 0 →
        ∃ s', exec (.pwrSchedEnable t PWR_SCHED_CTL.reg v) s = .next s' ∧ fld PWR_SCHED_CTL.EN s' = 0 ∧
          s'.pwr.due = List.replicate 16 none ∧ keepsRegs [PWR_SCHED_CTL.reg] s s') ∧
      (recFails recSched s = false →
        ∃ s', exec (.pwrSchedCommit t v) s = .next s' ∧ fld PWR_SCHED_CTL.VALID s' = 1 ∧
          fld PWR_SCHED_CTL.EN s' = PWR_SCHED_CTL.EN.of v ∧
          recRead recSched s' = some (leBytes 4 (PWR_SCHED_CTL.EN.of v)
            ++ ((List.range 16).map (fun i => leBytes 4 (regGet (PWR_SCHEDn.reg i) s).toNat)).flatten) ∧
          keepsRegs [PWR_SCHED_CTL.reg] s s')) ∧
  (∀ (s : State) (t : Nat), live s = true → memorySafe s → shaped s → s.nv.ledgerReady = true → let s0 := elapse t s
      let queues (a : Asker) (f slots due : Nat) : Lf := { s.lf with
        nextNo := s.lf.nextNo + 1
        queue := s.lf.queue ++ [{ no := s.lf.nextNo, askers := [(a, due)], kind := .poll, node := 0x100 + f, slots := slots
                                  opts := 0, reslot := 2, desc := none, trial := [] }] }
      (∀ pin active inactive, wakeArmed pin active inactive s = true → let f := boundFold pin s
        let asks := bit pin (fld PWR_WAKE_CTL.POLL s); let wakes := flag PWR_WAKE_CTL.HOSTWAKE s && linkDown s
        let noted := { s.pwr with wakeSeen := s.pwr.wakeSeen ||| BitVec.ofNat 8 (2 ^ pin) }
        let seen (s' : State) : Prop := ∀ i < 8,
          s'.pins.wake.getLsbD i = if i = pin then bit pin (fld PWR_WAKE_CTL.POL s) else s.pins.wake.getLsbD i
        (s.pwr.st = .run →
          ∃ s', exec (.wakePinEvent t ⟨pin, active, inactive⟩) s = .next s' ∧ seen s' ∧
            recordsOnly [] []
              { s0 with
                pins := { s.pins with wake := s'.pins.wake, wakeN := s.pins.wakeN || wakes }, pwr := noted, lf := s'.lf } s' ∧
            (asks = true → s.fold.live.defined f = true → autoQueued f s = false →
              s'.lf = queues (.wake pin) f 4 (now s0)) ∧
            (asks = false ∨ s.fold.live.defined f = false → s'.lf = s.lf) ∧
            (canDeliver (evtPair (now s0) s) s = false → s.hif.overflow = none → s.hif.backlog.length < 255 →
              ∃ more, s'.hif.backlog = s.hif.backlog ++
                [{ code := 0x01, status := if asks && !s.fold.live.defined f then stBadFold else stOk
                   seq := s.hif.evtSeq.toNat, ts := now s0, det := 0
                   res := fit 14 ([byteOf pin,
                     byteOf (b2n (asks && s.fold.live.defined f)
                       + 2 * b2n (asks && s.fold.live.defined f && autoQueued f s) + 8 * b2n wakes)]
                     ++ leBytes 2 (0x100 + f) ++ [0]) }] ++ more)) ∧
        (s.pwr.st = .watch → fastContent s = false →
          ∃ s', exec (.wakePinEvent t ⟨pin, active, inactive⟩) s = .next s' ∧ seen s' ∧
            settles { s0 with
              pwr := { noted with held := s.pwr.held ++ [.wake pin (now s0)] }
              pins := { s.pins with
                wake := s'.pins.wake
                wakeN := s.pins.wakeN || (s.pwr.held.isEmpty && flag CLK_WATCH_CTL.FAST_REQ_WAKEN s && linkDown s) } } s')) ∧
      (∀ e < 16, ∀ d, s.pwr.due.getD e none = some d → d ≤ now s0 → let f := fld (PWR_SCHEDn.FOLD e) s
        let next := s.pwr.due.set e (some (d + fld (PWR_SCHEDn.PERIOD e) s * 384000))
        (s.pwr.st = .run → s.fold.live.defined f = true → autoQueued f s = false →
          ∃ s', exec (.scheduledPollDue t e) s = .next s' ∧
            settles { s0 with
              pwr := { s.pwr with due := next }
              lf := queues (.sched e) f (fld (PWR_SCHEDn.SLOTS e) s + 1) d } s') ∧
        (s.pwr.st = .run → s.fold.live.defined f = false →
          ∃ s', exec (.scheduledPollDue t e) s = .next s' ∧
            settles { s0 with pwr := { s.pwr with due := next }, regs := s'.regs } s' ∧
            fld PWR_CNT.SCHED_MISS s' = sat PWR_CNT.SCHED_MISS.width (fld PWR_CNT.SCHED_MISS s + 1) ∧
            keepsRegs [PWR_CNT.reg] s s') ∧
        (s.pwr.st = .watch → fastContent s = false →
          ∃ s', exec (.scheduledPollDue t e) s = .next s' ∧ s'.pwr.held = s.pwr.held ++ [.sched e d] ∧ s'.pwr.due = next ∧
            s'.lf = s.lf)))

/-! ## Host interface -/

/-- NOP_FENCE with its parameters 0 completes with OK and does nothing else; a parameter byte that is not 0 gives BAD_LEN
with the byte's offset. POWER_HINT puts TOL_US and KEEP in force, releases the hold of an ATTENTION mark, and answers the
state that the hint selects with its row and exit latency; with PERSIST it stores both as a record. EVENT_ROUTE makes TARGET
the pair of the events after its completion and answers the pair before it. -/
def Obligations.HintsFencesAndRoutesComplete : Prop :=
  (∀ (s : State) (t : Nat) (d : Desc), serves t d s → isRow 0x01 d = true →
      (parNonzero 0 24 d = none → ∃ s', exec (.nopFence t d) s = .next s' ∧ answers d stOk [] 0 (elapse t s) s') ∧
      (∀ det, parNonzero 0 24 d = some det →
        ∃ s', exec (.nopFence t d) s = .next s' ∧ completed d stBadLen [] det (elapse t s) s' ∧
          keepsRegs [HIF_VIOL_CNT.reg] s s' ∧ s'.lf = s.lf ∧ s'.lgr = s.lgr ∧ s'.flk = s.flk)) ∧
  (∀ (s : State) (t : Nat) (d : Desc), serves t d s → isRow 0x02 d = true → hintParBad d = none →
      (p8 d 6 = 1 → recFails recHint s = false) →
      ∃ s1 s', exec (.powerHint t d) s = .next s' ∧
        answers d stOk ([byteOf (selState false s1).code, byteOf (selLimit false s1), 0, 0]
          ++ leBytes 4 (exitUs (selState false s1) s1)) 0 s1 s' ∧
        s1 = { elapse t s with regs := s1.regs, nv := s1.nv, uwb := { s.uwb with walk := s1.uwb.walk } } ∧
        fld PWR_HINT_TOL.TOL_US s1 = p32 d 0 ∧ fld PWR_HINT_KEEP.KEEP s1 = p8 d 4 ∧ fld PWR_STATUS.HOLD_RUN s1 = 0 ∧
        keepsRegs [PWR_HINT_TOL.reg, PWR_HINT_KEEP.reg, PWR_STATUS.reg] s s1 ∧
        (p8 d 6 = 0 → s1.nv = (elapse t s).nv) ∧
        (p8 d 6 = 1 → fld PWR_HINT_KEEP.PERSISTED s1 = 1 ∧
          recRead recHint s1 = some (leBytes 4 (p32 d 0) ++ leBytes 2 (p8 d 4)))) ∧
  (∀ (s : State) (t : Nat) (d : Desc), serves t d s → isRow 0x08 d = true → d.target < 32 → parNonzero 0 24 d = none →
      (∀ r ∈ s.hif.routes, r.2 ≤ now (elapse t s)) →
      ∃ s1 s', exec (.eventRoute t d) s = .next s' ∧ answers d stOk [byteOf (fld HIF_EVT_ROUTE.QP s)] 0 s1 s' ∧
        (∀ ts, now (elapse t s) < ts → evtPair ts s' = d.target) ∧
        (∀ ts ≤ now (elapse t s), evtPair ts s' = evtPair ts s) ∧
        s1 = { elapse t s with regs := s1.regs } ∧ keepsRegs [HIF_EVT_ROUTE.reg] s s1)

/-- TIME_SET_NOW (MODE 0) sets the wall clock and cancels a pending value; a value behind the wall clock by no more than
SNAP_WIN makes it run at half rate for that lag instead; one further behind is FORBIDDEN in Field and Retired.
TIME_SET_AT_EPOCH (MODE 1) makes the value pending, TIME_SET_CANCEL (MODE 2) cancels it; in both ERR_US is not stated and
any four bytes may stand there. -/
def Obligations.TimeSetSetsHoldsOrCancels : Prop :=
  ∀ (s : State) (t : Nat) (d : Desc), serves t d s → isRow 0x03 d = true → parNonzero 9 24 d = none →
    s.nv.ledgerReady = true →
    (p8 d 8 = 0 → let v := BitVec.ofNat 64 (p64 d 0); let s0 := elapse t s
      (wallRefused v s0 = false →
        ∃ s1 s', exec (.timeSetNow t d) s = .next s' ∧
          answers d stOk (timeResult (b2n (decide (v < s0.clk.wall) && !farBehind v s0))
            (leBytes 4 (errUs (((v.toNat : Int) - s0.clk.wall.toNat) * 9375))) s0.clk.wall.toNat) 0 s1 s' ∧
          s1.clk = (if v < s0.clk.wall ∧ farBehind v s0 = false
            then { s0.clk with timeSet := none, slew := (s0.clk.wall.toNat - v.toNat) * 9375 + s0.clk.wallRem }
            else { s0.clk with timeSet := none, wall := v, wallRem := 0, slew := 0 }) ∧
          fld CLK_STATUS.WALL_STALE s1 = 0 ∧ fld CLK_STATUS.EPOCH_PEND s1 = 0 ∧
          s1.lf = s.lf ∧ s1.flk = s.flk ∧ s1.fold = s.fold ∧ s1.tmr = s.tmr) ∧
      (wallRefused v s0 = true →
        ∃ s1 s', exec (.timeSetNow t d) s = .next s' ∧ completed d stForbidden [] 0 s1 s' ∧ s'.clk = s0.clk)) ∧
    (p8 d 8 = 1 → ∃ e s1 s', e.length = 4 ∧ exec (.timeSetAtEpoch t d) s = .next s' ∧
      answers d stOk (timeResult 2 e (elapse t s).clk.wall.toNat) 0 s1 s' ∧
      s1 = { elapse t s with
        regs := s1.regs, free := s1.free, clk := { (elapse t s).clk with timeSet := some (BitVec.ofNat 64 (p64 d 0)) } } ∧
      fld CLK_STATUS.EPOCH_PEND s1 = 1 ∧ keepsRegs [CLK_STATUS.reg] s s1) ∧
    (p8 d 8 = 2 → ∃ e s1 s', e.length = 4 ∧ exec (.timeSetCancel t d) s = .next s' ∧
      answers d stOk (timeResult (if s.clk.timeSet.isSome then 3 else 4) e (elapse t s).clk.wall.toNat) 0 s1 s' ∧
      s1 = { elapse t s with regs := s1.regs, free := s1.free, clk := { (elapse t s).clk with timeSet := none } } ∧
      fld CLK_STATUS.EPOCH_PEND s1 = 0 ∧ keepsRegs [CLK_STATUS.reg] s s1)

/-- DESCRIPTOR_DISPATCH of the pair whose turn it is: the head of a ring that no fence, no want of ring space and no full
queue of Drover's holds back, and that passes the checks of R119, is in flight, a firmware-class one also in Drover's
queue, and SQ_HEAD has moved past it; one that fails a check completes with its status and DETAIL; one that is held back
stays; a pair whose turn it is not keeps its head; a fetch that host memory answers with an error stops the pair, as
SQ_FETCH_ERROR does, with its bits in HIF_QP_ERR and HIF_FAULT. -/
def Obligations.DispatchTakesTheHead : Prop :=
  (∀ (s : State) (t n : Nat), running s = true → memorySafe s → shaped s → n < 32 →
      let s0 := elapse t s; let d := headDesc n s; let q := qp n s
      let next := if q.sqHead + 1 ≥ sqSize n s then 0 else q.sqHead + 1
      (hasTurn n s = true → dmaFails (headAddr n s) 64 s = false → skips n s = false → q.blkDrv = false →
        (check119 d s = none → modeBad d = none →
          ∃ s', exec (.descriptorDispatch t n) s = .next s' ∧
            s'.hif.flight = s.hif.flight ++ [⟨d, opFirmware d.opcode, false, now s0⟩] ∧
            s'.hif.droverQ = s.hif.droverQ ++ (if opFirmware d.opcode then [d] else []) ∧
            qp n s' = { q with sqHead := next } ∧ s'.hif.turn = n ∧ s'.hif.dispNo = s.hif.dispNo + 1 ∧
            (∀ m, m ≠ n → qp m s' = { qp m s with blkDrv := (qp m s').blkDrv }) ∧ keepsMemory s s' ∧
            keepsRegs [HIF_DRV_Q.reg, HIF_BLOCKED.reg] s s') ∧
        (∀ st det, check119 d s = some (st, det) → heard d s = true →
          ∃ s1 s', exec (.descriptorDispatch t n) s = .next s' ∧ completed d st [] det s1 s' ∧
            (qp n s').sqHead = next ∧ s'.hif.turn = n)) ∧
      (hasTurn n s = true → dmaFails (headAddr n s) 64 s = false → skips n s = true →
        ∃ s', exec (.descriptorDispatch t n) s = .next s' ∧
          settles { s0 with regs := s'.regs, hif := { s.hif with qps := s'.hif.qps } } s' ∧
          qp n s' = { q with blkDrv := q.blkDrv || (!fenceBlocks n d s && !creditBlocks n s) } ∧
          (∀ m, m ≠ n → qp m s' = { qp m s with blkDrv := (qp m s').blkDrv }) ∧
          keepsRegs [HIF_DRV_Q.reg, HIF_BLOCKED.reg] s s') ∧
      (hasTurn n s = true → dmaFails (headAddr n s) 64 s = true →
        ∃ s', exec (.descriptorDispatch t n) s = .next s' ∧ (qp n s').err = true ∧ fld HIF_FAULT.SQ_FETCH s' = 1 ∧
          (fld HIF_QP_ERR.QP s').testBit n = true ∧ s'.hif.turn = n ∧ keepsMemory s s') ∧
      (hasTurn n s = false → ∃ s', exec (.descriptorDispatch t n) s = .next s' ∧ settles s0 s')) ∧
  (∀ (s : State) (t n : Nat), live s = true → memorySafe s → shaped s → n < 32 → mayFetch n s = true →
      ∃ s', exec (.sqFetchError t n) s = .next s' ∧ qp n s' = { qp n s with err := true } ∧
        (∀ m, m ≠ n → qp m s' = qp m s) ∧ (fld HIF_QP_ERR.QP s').testBit n = true ∧ fld HIF_FAULT.SQ_FETCH s' = 1 ∧
        keepsRegs [HIF_QP_ERR.reg, HIF_FAULT.reg] s s' ∧ keepsMemory s s' ∧ s'.hif.flight = s.hif.flight)

/-- SQ_TAIL_DOORBELL and CQ_HEAD_DOORBELL wake the device from Graze and Pen and move the tail, or release the completions
up to the head; a doorbell of a disabled pair, or one out of range, moves nothing, counts, and sets its HIF_FAULT bit. QP_ENABLE of a quiesced pair with two
ring sizes in range enables it with its rings empty and PHASE 1; QP_DISABLE disables it, and it is quiesced once nothing of
it is in flight, as QP_QUIESCED then also finds. HIF_CTL_EN_WRITE, BUS_MASTER_ENABLE_CHANGE and D3HOT_TRANSITION set their
states; a bus master enable in L0 sends the completions that waited for the link. -/
def Obligations.PairsFollowTheirRegisters : Prop :=
  (∀ (s : State) (t n : Nat) (v : Word), live s = true → memorySafe s → shaped s → n < 32 →
      let s0 := tlpWake (elapse t s); let x := v.toNat % 4096; let k := (x + cqSize n s - (qp n s).cqHead) % cqSize n s
      ((qp n s).enabled = true → x < sqSize n s →
        ∃ s', exec (.sqTailDoorbell t n v) s = .next s' ∧ qp n s' = { qp n s with sqTail := x } ∧
          (∀ m, m ≠ n → qp m s' = qp m s) ∧ settles { s0 with hif := s'.hif } s') ∧
      ((qp n s).enabled = true → sqSize n s ≤ x →
        ∃ s', exec (.sqTailDoorbell t n v) s = .next s' ∧ s'.hif.qps = s.hif.qps ∧ fld HIF_FAULT.DB_RANGE s' = 1 ∧
          fld HIF_VIOL_CNT.DB s' = sat 8 (fld HIF_VIOL_CNT.DB s + 1) ∧ keepsRegs [HIF_FAULT.reg, HIF_VIOL_CNT.reg] s0 s') ∧
      ((qp n s).enabled = true → x < cqSize n s → k ≤ (qp n s).used →
        ∃ s', exec (.cqHeadDoorbell t n v) s = .next s' ∧
          qp n s' = { qp n s with cqHead := x, used := (qp n s).used - k } ∧
          (∀ m, m ≠ n → qp m s' = qp m s) ∧ settles { s0 with hif := s'.hif } s') ∧
      ((qp n s).enabled = true → cqSize n s ≤ x ∨ (qp n s).used < k →
        ∃ s', exec (.cqHeadDoorbell t n v) s = .next s' ∧ s'.hif.qps = s.hif.qps ∧ fld HIF_FAULT.DB_RANGE s' = 1 ∧
          fld HIF_VIOL_CNT.DB s' = sat 8 (fld HIF_VIOL_CNT.DB s + 1) ∧ keepsRegs [HIF_FAULT.reg, HIF_VIOL_CNT.reg] s0 s') ∧
      ((qp n s).enabled = false →
        (∃ s', exec (.sqTailDoorbell t n v) s = .next s' ∧ s'.hif.qps = s.hif.qps ∧ fld HIF_FAULT.DB_DISABLED s' = 1 ∧
          fld HIF_VIOL_CNT.DB s' = sat 8 (fld HIF_VIOL_CNT.DB s + 1) ∧ keepsRegs [HIF_FAULT.reg, HIF_VIOL_CNT.reg] s0 s') ∧
        (∃ s', exec (.cqHeadDoorbell t n v) s = .next s' ∧ s'.hif.qps = s.hif.qps ∧ fld HIF_FAULT.DB_DISABLED s' = 1 ∧
          fld HIF_VIOL_CNT.DB s' = sat 8 (fld HIF_VIOL_CNT.DB s + 1) ∧ keepsRegs [HIF_FAULT.reg, HIF_VIOL_CNT.reg] s0 s'))) ∧
  (∀ (s : State) (t n : Nat) (v : Word), live s = true → islandOn .pcie s = true → memorySafe s → shaped s → n < 32 →
      (4 ≤ (QPn_CFG.SQ_SIZE n).of v → (QPn_CFG.SQ_SIZE n).of v ≤ 12 → 4 ≤ (QPn_CFG.CQ_SIZE n).of v →
        (QPn_CFG.CQ_SIZE n).of v ≤ 12 → (QPn_CFG.COAL_US n).of v ≠ 0 → (qp n s).enabled = false → (qp n s).quiesced = true →
        ∃ s', exec (.qpEnable t n v) s = .next s' ∧
          qp n s' = { Qp.reset with phase := true, enabled := true, quiesced := false } ∧
          (∀ m, m ≠ n → qp m s' = qp m s) ∧ fld (QPn_CFG.SQ_SIZE n) s' = (QPn_CFG.SQ_SIZE n).of v ∧
          fld (QPn_CFG.CQ_SIZE n) s' = (QPn_CFG.CQ_SIZE n).of v ∧ fld (QPn_CFG.COAL_CNT n) s' = (QPn_CFG.COAL_CNT n).of v ∧
          fld (QPn_CFG.COAL_US n) s' = (QPn_CFG.COAL_US n).of v ∧ (fld HIF_QP_ERR.QP s').testBit n = false ∧
          keepsRegs [QPn_CFG.reg n, HIF_QP_ERR.reg] (tlpWake (elapse t s)) s' ∧ keepsMemory s s') ∧
      ((QPn_CFG.SQ_SIZE n).of v = 0 → ringSizeOk ((QPn_CFG.CQ_SIZE n).of v) = true → (qp n s).enabled = true →
        (qp n s).blkDrv = false → fld (QPn_CFG.SQ_SIZE n) s ≠ 0 →
        ∃ s', exec (.qpDisable t n v) s = .next s' ∧ (qp n s').enabled = false ∧
          ((qp n s').quiesced = true ↔ inFlight n s = 0) ∧ (∀ m, m ≠ n → qp m s' = qp m s) ∧
          s'.hif.flight = s.hif.flight ∧ s'.hif.held = s.hif.held.filter (fun c => c.d.src != .host n) ∧ keepsMemory s s') ∧
      ((qp n s).enabled = false →
        ∃ s', exec (.qpQuiesced t n) s = .next s' ∧ settles { elapse t s with hif := s'.hif } s' ∧
          qp n s' = { qp n s with quiesced := (qp n s).quiesced || decide (inFlight n s = 0) } ∧
          (∀ m, m ≠ n → qp m s' = qp m s))) ∧
  (∀ (s : State) (t : Nat) (v : Word) (on : Bool), live s = true → memorySafe s → shaped s →
      (islandOn .pcie s = true → s.heldWr = [] →
        ∃ s', exec (.hifCtlEnWrite t v) s = .next s' ∧ fld HIF_CTL.EN s' = HIF_CTL.EN.of v ∧
          keepsRegs [HIF_CTL.reg] (written t HIF_CTL.reg s) s' ∧
          settles { written t HIF_CTL.reg s with regs := s'.regs } s') ∧
      (on = false ∨ s.hif.link ≠ .l0 ∨ s.hif.held = [] →
        ∃ s', exec (.busMasterEnableChange t on) s = .next s' ∧
          settles { tlpWake (elapse t s) with hif := { s.hif with busMaster := on } } s') ∧
      (s.hif.link = .l0 → ∃ s', exec (.busMasterEnableChange t true) s = .next s' ∧ s'.hif.busMaster = true ∧ s'.hif.held = []) ∧
      (∃ s', exec (.d3hotTransition t on) s = .next s' ∧
        settles { tlpWake (elapse t s) with hif := { s.hif with d3hot := on } } s'))

/-- MSI-X: MSIX_COALESCE_TIMEOUT signals a pair whose oldest unsignalled completion has waited COAL_US; a raised vector is
sent, or pending while masked; MSIX_VECTOR_UNMASK sends what was pending. BACKLOG_DELIVERY: stored events go out in order
until none is left or the ring takes no more; a single stored event that the ring takes stands at its tail with CFLAGS
saying that it is an event from the backlog. -/
def Obligations.VectorsAndEventsGoOut : Prop :=
  (∀ (s : State) (t n : Nat), live s = true → memorySafe s → shaped s →
      (n < 32 → ∀ x, (qp n s).unsigAt = some x → x + usTicks (fld (QPn_CFG.COAL_US n) s) ≤ now (elapse t s) →
        ∃ s', exec (.msixCoalesceTimeout t n) s = .next s' ∧ qp n s' = { qp n s with unsig := 0, unsigAt := none } ∧
          (s.hif.msixEn = true → (s.hif.msix.getD n MsixEntry.reset).masked = false → s'.hif.sent = n :: s.hif.sent) ∧
          (s.hif.msixEn = true → (s.hif.msix.getD n MsixEntry.reset).masked = true →
            s'.hif.pba = s.hif.pba ||| BitVec.ofNat 34 (2 ^ n) ∧ s'.hif.sent = s.hif.sent) ∧
          settles { elapse t s with hif := s'.hif } s') ∧
      (n < 34 → s.hif.msixEn = true →
        ∃ s', exec (.msixVectorUnmask t n false) s = .next s' ∧
          (s'.hif.msix.getD n MsixEntry.reset).masked = false ∧ s'.hif.pba.getLsbD n = false ∧
          s'.hif.sent = (if s.hif.pba.getLsbD n then [n] else []) ++ s.hif.sent ∧
          settles { tlpWake (elapse t s) with hif := s'.hif } s') ∧
      (∃ s', exec (.msixVectorUnmask t n true) s = .next s' ∧ s'.hif.msixEn = true ∧
        (∀ k < 34, (s.hif.msix.getD k MsixEntry.reset).masked = false → s'.hif.pba.getLsbD k = false) ∧
        (∀ k < 34, (s.hif.msix.getD k MsixEntry.reset).masked = true → s'.hif.pba.getLsbD k = s.hif.pba.getLsbD k) ∧
        (∀ k < 34, (s.hif.msix.getD k MsixEntry.reset).masked = false → s.hif.pba.getLsbD k = true → k ∈ s'.hif.sent) ∧
        settles { tlpWake (elapse t s) with hif := s'.hif } s')) ∧
  (∀ (s : State) (t : Nat), live s = true → memorySafe s → shaped s →
      (∃ s', exec (.backlogDelivery t) s = .next s' ∧ (∃ k, s'.hif.backlog = s.hif.backlog.drop k) ∧
        (s'.hif.backlog = [] ∨
          ∃ e, s'.hif.backlog.head? = some e ∧ canDeliver (evtPair e.ts s') s' = false) ∧
        settles { elapse t s with hif := s'.hif, hostMem := s'.hostMem } s') ∧
      (∀ e, s.hif.backlog = [e] → s.hif.overflow = none → canDeliver (evtPair e.ts s) s = true →
        ∃ s', exec (.backlogDelivery t) s = .next s' ∧ s'.hif.backlog = [] ∧
          mread zeroByte s'.hostMem (nextEntry (evtPair e.ts s) s) 32 =
            (entryBytes 0xFFFF e.status e.code e.seq (qp (evtPair e.ts s) s).sqHead e.ts e.res e.det 3).take 31
              ++ [byteOf (3 + 128 * b2n (qp (evtPair e.ts s) s).phase)]))

/-! ## LF engine -/

/-- LF_POLL, LF_DIAG_RING, LF_DIAG_APPLY and LF_LISTEN in range queue behind the operations before them; while 16 entries
of the host and Drover are in the queue they wait for one, at most their TIMEOUT. An LF_POLL of a retired leaf is turned
away with BAD_FOLD. -/
def Obligations.LfOperationsQueue : Prop :=
  ∀ (s : State) (t : Nat) (d : Desc), serves t d s →
    let s0 := atWork d (elapse t s); let no := s.lf.nextNo + 1
    let queues (r : LfReq) (s' : State) : Prop :=
      (lfDepth s < 16 → s.lf.wait = [] →
        settles { s0 with lf := { s.lf with nextNo := no, queue := s.lf.queue ++ [r] } } s') ∧
      (16 ≤ lfDepth s ∨ s.lf.wait ≠ [] →
        settles { s0 with lf := { s.lf with nextNo := no, wait := s.lf.wait ++ [(r, now s0 + timeoutTicks d 500)] } } s')
    (isRow 0x10 d = true → pollParBad d = none → targetRetired d s = false →
      ∃ s', exec (.lfPoll t d) s = .next s' ∧ queues (hostReq .poll d (p8 d 0) (p8 d 1) (p8 d 2) s0) s') ∧
    (isRow 0x10 d = true → pollParBad d = none → targetRetired d s = true →
      ∃ s', exec (.lfPoll t d) s = .next s' ∧ turnedAway d stBadFold 4 s0 s') ∧
    (isMode 0x11 0 d = true → diagParBad d = none →
      ∃ s', exec (.lfDiagRing t d) s = .next s' ∧ queues (hostReq .diagRing d 0 0 0 s0) s') ∧
    (isMode 0x11 1 d = true → diagParBad d = none →
      ∃ s', exec (.lfDiagApply t d) s = .next s' ∧ queues (hostReq .diagApply d 0 (p8 d 1) 0 s0) s') ∧
    (isRow 0x13 d = true → listenParBad d = none →
      ∃ s', exec (.lfListen t d) s = .next s' ∧ queues (hostReq .listen d 0 (p8 d 3) 0 s0) s')

/-- POLL_START: the head of the queue starts at its turn; a poll with a leaf to drive draws its challenge, whose bits 6:0
say RSEQ, S and F, takes the VID and EPOCH of its header, drives the quarters of the leaves that are not in pinfold, and
reserves its window; while TARGET does not exist any more it completes with BAD_FOLD. DRIVE_SEQUENCE_END lets every quarter
and bridge go, FOREIGN_FIELD_WINDOW_END clears or sets the flags of the channels it measured, and RESPONSE_WINDOW_OPEN opens
the window. RESPONSE_WINDOW_CLOSE after a collision starts a new drive sequence with RSEQ one higher and a new challenge
10 us later; else the poll is shut, and with nothing left to do it completes, with NO_RESPONSE when nothing answered. -/
def Obligations.PollsRunThroughTheirPhases : Prop :=
  (∀ (s : State) (t : Nat) (r : LfReq) (rest : List LfReq), running s = true → memorySafe s → shaped s →
      s.lf.queue = r :: rest → s.lf.wait = [] → s.lf.run = none → s.heldWr = [] → s.pins.resetN = false →
      let s0 := elapse t s
      let map := frameMap s.fold.live r.node s
      let f := ceilDiv map.length 16
      lfReady r s0 = true → heldByReset r s = false → r.askers.all (fun a => !tooLate s0 a) = true →
      (r.desc = none → r.askers ≠ []) →
      (∀ d, r.desc = some d → hasAt d = true → d.atTb ≤ now s0) →
      (reqExists r s = true → r.kind = .poll → nodePinned s.fold.live r.node s = false →
        map.any (fun m => !m.silent) = true → drawFails s = none → s.uhf.run = none →
        ∃ (run : LfRun) (p : Poll) (s' : State), exec (.pollStart t) s = .next s' ∧
          run.req = r ∧ run.start = now s0 ∧ run.seq = now s0 ∧ run.phase = .drive ∧ run.map = map ∧ run.f = f ∧
          p.challenge = seqChallenge (freeBytes 8 s0) 0 r.slots f ∧ p.s = r.slots ∧ p.answers = [] ∧
          p.header = some (fld FLK_VID.VID s, fld FLK_FLOCK.EPOCH s) ∧
          s'.pins.drive = quartersOf ((map.filter (fun m => !m.silent)).map (·.ch)) ∧ s'.pins.bridge = 0 ∧
          settles { s0 with
            lf := { s.lf with queue := rest, run := some run }
            poll := some p
            free := s.free + 8
            regs := s'.regs
            uhf := { s.uhf with windows := s.uhf.windows ++ [windowOf (now s0) f r.slots] } } s' ∧
          keepsRegs [RNG_REQ_CNT.reg, RNG_STATUS.reg] s s') ∧
      (reqExists r s = true → r.kind = .listen →
        ∃ (run : LfRun) (s' : State), exec (.pollStart t) s = .next s' ∧ run.req = r ∧ run.start = now s0 ∧
          run.phase = .listen ∧ run.chans = listenChans s.fold.live r.node s ∧
          settles { s0 with lf := { s.lf with queue := rest, run := some run } } s') ∧
      (reqExists r s = false → s.lf.cals = [] → ∀ d, r.desc = some d → heard d s0 = true →
        ∃ s', exec (.pollStart t) s = .next s' ∧ completed d stBadFold [] 4 s0 s' ∧ s'.lf.queue = rest ∧
          s'.lf.run = none ∧ s'.pins.drive = 0 ∧ s'.pins.bridge = 0 ∧ keepsRegs [LFE_CNT.reg, HIF_VIOL_CNT.reg] s s')) ∧
  (∀ (s : State) (t : Nat) (r : LfRun), live s = true → memorySafe s → s.lf.run = some r → r.req.kind = .poll →
      let s0 := elapse t s
      (∀ m : List RingMeas, r.phase = .drive → r.seq + driveTicks r.f ≤ now s0 → let rings := pollRings r m s
        ∃ (r1 : LfRun) (s' : State), exec (.driveSequenceEnd t m) s = .next s' ∧
          r1.phase = .sense ∧ r1.req = r.req ∧ r1.seq = r.seq ∧ r1.map = r.map ∧ r1.ff = r.ff ∧
          r1.ringBad = (r.ringBad || rings.any (fun x => x.result ≠ 1)) ∧
          s'.pins.drive = 0 ∧ s'.pins.bridge = 0 ∧
          settles { s0 with lf := { s.lf with run := some r1 }, regs := s'.regs } s' ∧
          (∀ x ∈ rings, fld (LFE_CHn_STAT.RESULT x.node) s' = x.result ∧ fld (LFE_CHn_STAT.FRES x.node) s' = x.fres ∧
            fld (LFE_CHn_STAT.Q x.node) s' = x.q) ∧
          keepsRegs (LFE_STATUS.reg :: rings.map (fun x => LFE_CHn_STAT.reg x.node)) s s') ∧
      (∀ m : List SenseMeas, r.phase = .sense → r.sensed = false → ffOn r s = true →
        r.seq + driveTicks r.f + 384 * (fld LFE_SENSE.FF_DELAY s + fld LFE_SENSE.FF_WIN s) ≤ now s0 →
        let ms := (ffChans r s).map (senseOf m)
        (ms.all (fun x => !overThr s x) = true →
          ∃ s', exec (.foreignFieldWindowEnd t m) s = .next s' ∧
            settles { s0 with
              lf := { s.lf with run := some { r with sensed := true }, ffRec := none }, regs := s'.regs } s' ∧
            (∀ x ∈ ms, fld (LFE_CHn_STAT.FF x.ch) s' = 0) ∧ keepsRegs (ms.map (fun x => LFE_CHn_STAT.reg x.ch)) s s') ∧
        (ms.any (overThr s) = true → flag LFE_CTL.FF_EVT s = false →
          (s.lf.ffRec.any (fun x => decide (now s0 < x + secTicks 10))) = true →
          ∃ (r1 : LfRun) (s' : State), exec (.foreignFieldWindowEnd t m) s = .next s' ∧
            r1.ff = true ∧ r1.sensed = true ∧ r1.req = r.req ∧ r1.seq = r.seq ∧
            settles { s0 with lf := { s.lf with run := some r1 }, regs := s'.regs } s' ∧
            (∀ x ∈ ms, fld (LFE_CHn_STAT.FF x.ch) s' = b2n (overThr s x)) ∧ fld LFE_STATUS.FF_SEEN s' = 1 ∧
            keepsRegs (LFE_STATUS.reg :: ms.map (fun x => LFE_CHn_STAT.reg x.ch)) s s')) ∧
      (∀ p : Poll, s.poll = some p → r.phase = .sense → p.coils.all (fun c => !c.cut) = true → spanOk s = true →
        (windowOf r.seq r.f p.s).1 ≤ now s0 →
        ∃ (p1 : Poll) (s' : State), exec (.responseWindowOpen t) s = .next s' ∧
          p1.window = some (windowOf r.seq r.f p.s).1 ∧ p1.collided = [] ∧ p1.synced = [] ∧ p1.ended = [] ∧
          p1.answers = p.answers ∧ p1.challenge = p.challenge ∧ p1.coils = p.coils ∧
          settles { s0 with
            lf := { s.lf with run := some { r with phase := .respond } }, poll := some p1
            uhf := { s.uhf with window := true } } s')) ∧
  (∀ (s : State) (t : Nat) (r : LfRun) (p : Poll) (w : Nat), live s = true → memorySafe s → shaped s →
      s.lf.run = some r → s.poll = some p → r.req.kind = .poll → p.window = some w → s.uhf.queue = [] → s.uhf.run = none →
      s.uwb.hold = false → let s0 := elapse t s; let close := w + p.s * 288000
      close ≤ now s0 →
      (p.collided ≠ [] → p.rseq < r.req.reslot → p.pinStop = false → drawFails s = none →
        ∃ (p1 : Poll) (s' : State), exec (.responseWindowClose t) s = .next s' ∧
          p1.rseq = p.rseq + 1 ∧ p1.challenge = seqChallenge (freeBytes 8 s0) (p.rseq + 1) p.s r.f ∧ p1.window = none ∧
          p1.collided = [] ∧ p1.answers = p.answers ∧
          settles { s0 with
            lf := { s.lf with run := some { r with phase := .drive, seq := close + 384, sensed := false } }
            poll := some p1
            free := s.free + 8
            regs := s'.regs
            uhf := s'.uhf } s' ∧
          p1.header = none ∧ (now s0 < close + 384 → s'.pins.drive = 0 ∧ s'.pins.bridge = 0) ∧
          windowOf (close + 384) r.f p.s ∈ s'.uhf.windows ∧ keepsRegs [RNG_REQ_CNT.reg, RNG_STATUS.reg] s s') ∧
      (p.collided = [] ∨ r.req.reslot ≤ p.rseq → p.coils.all (·.done) = false →
        ∃ s', exec (.responseWindowClose t) s = .next s' ∧
          settles { s0 with poll := some { p with window := none, shut := true }, uhf := s'.uhf } s' ∧
          s'.uhf.window = false) ∧
      (p.collided = [] → p.coils.all (·.done) = true → s.uwb.exch = [] → p.answers = [] → p.vidSeen = false →
        s.pwr.st = .run → ∀ d, r.req.desc = some d → heard d s0 = true →
        ∃ s1 s', exec (.responseWindowClose t) s = .next s' ∧
          answers d stNoResponse (pollResult r { p with window := none, shut := true } 0) 0 s1 s' ∧
          s1 = { s0 with
            lf := { s.lf with run := none }, poll := none, regs := s1.regs, flk := s1.flk, uhf := s1.uhf,
            uwb := s1.uwb } ∧
          s1.uhf.windows = [] ∧ fld FLK_DRIVER.CO_PRESENT s1 = 0 ∧
          fld LFE_CNT.OPS s1 = sat 16 (fld LFE_CNT.OPS s + 1) ∧ keepsRegs [LFE_CNT.reg, FLK_DRIVER.reg] s s1))

/-- LF_CAL sends an LF_DIAG RING over its channels to the LF queue as its first pass. When the TUNE pass ends, every channel
that rang as OK or DETUNED is to be driven at the carrier it resonates at, within the range of TRIM, and the others as
before; when the VERIFY pass of one without APPLY ends, LF_CAL completes with OK and its report. LF_DIAG_ROUND_END classifies
the leaves of its round; with another round to come its quarters drive, with the last one the descriptor completes with the
counts and its records stand at DST, in node order. LF_LISTEN_WINDOW_END without events answers what it sensed. -/
def Obligations.DiagnosticsReportAndTune : Prop :=
  (∀ (s : State) (t : Nat), memorySafe s → shaped s → s.heldWr = [] →
      let s0 := elapse t s
      (∀ (d : Desc) (tag : Nat), serves t d s → isRow 0x12 d = true → lfCalParBad d = none → s.lf.cals = [] → lfDepth s < 16 →
        s.lf.wait = [] →
        ∃ (p : Desc) (c : LfCal) (q : LfReq) (s' : State), exec (.lfCal t d tag) s = .next s' ∧
          p.src = .drover ∧ p.opcode = 0x11 ∧ p.tag = tag ∧ p.target = d.target ∧ p8 p 0 = 0 ∧
          s'.lf.cals = [c] ∧ c.d = d ∧ c.pass = p ∧
          c.step = (if bit 0 (p8 d 0) then .tune else if bit 1 (p8 d 0) then .level ((if p8 d 1 = 0 then 2 else p8 d 1) - 1)
            else .verify) ∧
          c.chans.map (·.ch) = diagChans s.fold.live d.target s ∧
          (∀ x ∈ c.chans, x.trim = signed 12 (fld (LFE_CHn_CFG.TRIM x.ch) s) ∧ x.duty = fld (LFE_CHn_CFG.DUTY x.ch) s) ∧
          s'.lf.queue = s.lf.queue ++ [q] ∧ q.kind = .diagRing ∧ q.node = d.target ∧ q.desc = some p ∧
          q.trial = c.chans.map (fun x => ⟨x.ch, x.duty, x.trim⟩) ∧
          s'.hif.flight.any (fun f => f.d == p) = true ∧ s'.hif.flight.any (fun f => f.is d) = true ∧
          keepsRegs [] s s' ∧ keepsMemory s s') ∧
      (∀ (r : LfRun) (c : LfCal) (m : List RingMeas) (k : Nat), running s = true → s.lf.run = some r →
        r.req.kind = .diagRing → r.todo = [k] → r.coils = [] → r.rings = [] → r.req.desc = some c.pass → c.pass.len = 0 →
        c.pass.src = .drover → c.d.src ≠ .drover → s.lf.cals = [c] → heard c.pass s0 = true → s.mon.desc = none →
        let mine := roundChans k r.chans
        let rings := (mine.map (fun x => ringRec x (runFreq r.req x s) 1 (ringOf m x) s)).foldl (fun l x => insertRing x l) []
        let found := calRead rings c.chans
        r.seq + usTicks 2 + burstTicks r.req mine s + usTicks 3 + 384 * fld LFE_DIAG_CTL.RING s ≤ now s0 →
        (c.step = .tune →
          ∃ (c1 : LfCal) (s' : State), exec (.lfDiagRoundEnd t m) s = .next s' ∧ s'.lf.cals = [c1] ∧ c1.d = c.d ∧
            c1.step = (if bit 1 (p8 c.d 0) then .level ((if p8 c.d 1 = 0 then 2 else p8 c.d 1) - 1) else .verify) ∧
            c1.chans = found.map (fun x => if x.result = 1 ∨ x.result = 4
              then { x with trim := clampTrim ((10 * x.fres : Int) - fld LFE_CARRIER.F_HZ s) } else x)) ∧
        (c.step = .verify → bit 2 (p8 c.d 0) = false → heard c.d s0 = true →
          dmaBlocked c.d c.d.dstAddr ((found.map calBytes).flatten.take c.d.len).length s = false →
          ∃ s1 s', exec (.lfDiagRoundEnd t m) s = .next s' ∧
            answers c.d stOk [] 0 (dmaWrite c.d c.d.dstAddr ((found.map calBytes).flatten.take c.d.len) s1) s' ∧
            s1 = { s0 with lf := { s.lf with run := none, cals := [] }, regs := s1.regs }))) ∧
  (∀ (s : State) (t : Nat) (r : LfRun), running s = true → memorySafe s → shaped s → s.lf.run = some r → s.lf.cals = [] →
      let s0 := elapse t s
      (∀ (m : List RingMeas) (k : Nat) (rest : List Nat), r.req.kind = .diagRing → r.todo = k :: rest →
        let mine := roundChans k r.chans
        let recs := mine.map (fun c => ringRec c (runFreq r.req c s) 1 (ringOf m c) s)
        let stop := r.seq + usTicks 2 + burstTicks r.req mine s + usTicks 3 + 384 * fld LFE_DIAG_CTL.RING s
        stop ≤ now s0 →
        (∀ k1 l, rest = k1 :: l → padsSafe s = false →
          ∃ (r1 : LfRun) (s' : State), exec (.lfDiagRoundEnd t m) s = .next s' ∧
            r1.todo = rest ∧ r1.rounds = r.rounds + 1 ∧ r1.rings = r.rings ++ recs ∧ r1.seq = stop ∧ r1.phase = .drive ∧
            (let ends := stop + usTicks 2 + burstTicks r.req (roundChans k1 r.chans) s
             s'.pins.drive = if now s0 < ends then quartersOf (roundChans k1 r.chans) else 0) ∧
            settles { s0 with lf := { s.lf with run := some r1 }, regs := s'.regs } s' ∧
            (∀ x ∈ recs, fld (LFE_CHn_STAT.RESULT x.node) s' = x.result) ∧
            keepsRegs (LFE_STATUS.reg :: recs.map (fun x => LFE_CHn_STAT.reg x.node)) s s') ∧
        (rest = [] → r.coils = [] → ∀ d, r.req.desc = some d → heard d s0 = true →
          let rings := (r.rings ++ recs).foldl (fun l x => insertRing x l) []
          let out := ((rings.take (d.len / 8)).map ringBytes).flatten
          dmaBlocked d d.dstAddr out.length s = false →
          ∃ s1 s', exec (.lfDiagRoundEnd t m) s = .next s' ∧
            answers d stOk (diagResult rings (r.rounds + 1)) 0 (dmaWrite d d.dstAddr out s1) s' ∧
            s1 = { s0 with lf := { s.lf with run := none }, regs := s1.regs } ∧
            (∀ x ∈ recs, fld (LFE_CHn_STAT.RESULT x.node) s1 = x.result) ∧
            keepsRegs (LFE_STATUS.reg :: LFE_CNT.reg :: recs.map (fun x => LFE_CHn_STAT.reg x.node)) s s1)) ∧
      (∀ (m : List SenseMeas) (d : Desc), r.req.kind = .listen → r.req.desc = some d → bit 0 r.req.opts = false →
        r.start + msTicks (p16 d 0) ≤ now s0 → heard d s0 = true →
        let ms := r.chans.map (senseOf m)
        let out := ((ms.take (d.len / 8)).map (listenBytes s)).flatten
        dmaBlocked d d.dstAddr out.length s = false →
        ∃ tail s1 s', exec (.lfListenWindowEnd t m) s = .next s' ∧
          answers d stOk (leBytes 2 ms.length ++ leBytes 2 (ms.countP (overThr s)) ++ tail) 0
            (dmaWrite d d.dstAddr out s1) s' ∧
          (∀ x, strongest ms = some x → tail = leBytes 2 x.ch ++ leBytes 2 x.peak ++ leBytes 2 x.freq) ∧
          (ms = [] → tail = leBytes 2 0xFFFF ++ leBytes 4 0) ∧
          s1 = { s0 with lf := { s.lf with run := none }, regs := s1.regs } ∧
          (∀ x ∈ ms, overThr s x = false → fld (LFE_CHn_STAT.FF x.ch) s1 = 0) ∧
          keepsRegs (LFE_STATUS.reg :: LFE_CNT.reg :: ms.map (fun x => LFE_CHn_STAT.reg x.ch)) s s1))

/-- What a leaf that a poll drives sends in its sequence, counted in LFS cycles of 102.4 MHz from step 1 (R135 to R139, R183, R184).
The carrier begins 2.0 us after step 1 (Table 02.8). The preamble is on to 1.500 ms, off to 1.750 ms and on to 2.000 ms; each of
the 96 header bits takes 125 us, a 0 on then off and a 1 off then on; a code frame takes 2.0 ms, in which a leaf of that frame
sends its chips of 125 us in ascending order, chip j of code k half a period ahead where k AND j has an odd number of ones, and
another leaf nothing. Each carrier period is high for DUTY/128, and RAMP only shortens that (how it does is log entry 116). A
channel of a driving quarter that the sequence does not drive stays low, and its pin leaves low 1.0 us after the final chip
boundary (R49, R51). -/
def Obligations.CommandsAreKeyed : Prop :=
  (∀ (p : Poll) (m : MapLeaf) (vid epoch w duty ramp n : Nat), p.header = some (vid, epoch) →
    let carrier (x : Nat) : Bool := decide (x % 2 ^ 32 < duty * 2 ^ 25)
    let sent : Bool := pollCommand p m w duty 0 n
    let bits : Nat := vid % 2 ^ 24 * 2 ^ 72 + epoch % 2 ^ 8 * 2 ^ 64 + p.challenge % 2 ^ 64
    (n < 205 → pollCommand p m w duty ramp n = false) ∧
    (205 ≤ n → n < 153600 → sent = carrier (w * n)) ∧
    (153600 ≤ n → n < 179200 → pollCommand p m w duty ramp n = false) ∧
    (179200 ≤ n → n < 204800 → sent = carrier (w * n)) ∧
    (∀ i < 96, 204800 + 12800 * i ≤ n → n < 204800 + 12800 * (i + 1) →
      sent = ((bits.testBit (95 - i) == decide (211200 + 12800 * i ≤ n)) && carrier (w * n))) ∧
    (∀ f, ∀ j < 16, 1433600 + 204800 * f + 12800 * j ≤ n → n < 1433600 + 204800 * f + 12800 * (j + 1) →
      (f ≠ m.frame → pollCommand p m w duty ramp n = false) ∧
      (f = m.frame → sent = carrier (w * (n - (1433600 + 204800 * f)) +
        if ((List.range 4).filter (fun b => m.code.testBit b && j.testBit b)).length % 2 = 1 then 2 ^ 31 else 0))) ∧
    (pollCommand p m w duty ramp n = true → sent = true)) ∧
  (∀ (s : State) (c : Nat), padsSafe s = false →
    (∀ m a e, drivePhase s = some (m, a, e) → m.getLsbD (c / 32) = true → a ≤ now s →
      (now s < e → chanDriven c s = false → lfdPad c s = if chanLive c s then .low else .pulled) ∧
      (e ≤ now s → 5 * now s < 5 * e + 192 → chanLive c s = true → lfdPad c s = .low) ∧
      (5 * e + 192 ≤ 5 * now s → chanLive c s = true → lfdPad c s = .sensed)) ∧
    (drivePhase s = none → chanLive c s = false → chanListened c s = false → lfdPad c s = .pulled) ∧
    (drivePhase s = none → chanLive c s = true → lfdPad c s = .sensed))
/-! ## Fold engine -/

/-- FOLD_BARRIER, FOLD_BROADCAST, FOLD_SNAPSHOT, FOLD_RESET, FOLD_RETIRE and FOLD_ADOPT: an operation in range walks from
its start, on the live tree, and takes effect at B; BARRIER and RESET first wait, at most their TIMEOUT, for the operations
under way on their subtree; behind another operation it queues. FOLD_BROADCAST_TICK at B: BARRIER completes; BROADCAST has
written its field in every leaf of the subtree that is not retired and in no other; SNAPSHOT has put the records of the
subtree at DST, in preorder; RESET has cleared the results of those leaves. RETIRE retires the leaves, or returns them with
RESTORE; ADOPT gives the adopted leaf the place and POS of the retired one; FLD_GEN counts, and the tree record holds the
new tree. -/
def Obligations.FoldOperationsTakeEffectAtB : Prop :=
  (∀ (s : State) (t : Nat) (d : Desc), serves t d (noFold s) → foldParBad d = none →
      let s0 := atWork d (elapse t s)
      let on := (touching s.fold.live d.target s).filter (fun k => opActive k s)
      let idle := s.fold.op = none ∧ s.fold.pend = none ∧ nodeExists d.target s = true
      let busy := ∃ o, s.fold.op = some o ∧ now s0 < o.b
      let walks (s' : State) : Prop :=
        settles { s0 with fold := { s.fold with op := some ⟨d, tickB s.fold.live d s0, s.fold.live⟩ } } s'
      let queued (s' : State) : Prop := settles { s0 with fold := { s.fold with queue := [d] } } s'
      let waits (s' : State) : Prop :=
        settles { s0 with fold := { s.fold with wait := [⟨d, on, now s0 + timeoutTicks d 1000⟩] } } s'
      (isMode 0x18 0 d = true →
        (idle → on = [] → ∃ s', exec (.foldBarrier t d) s = .next s' ∧ walks s') ∧
        (busy → on = [] → ∃ s', exec (.foldBarrier t d) s = .next s' ∧ queued s') ∧
        (on ≠ [] → s.fold.op = none ∨ busy → ∃ s', exec (.foldBarrier t d) s = .next s' ∧ waits s')) ∧
      (isMode 0x18 1 d = true →
        (idle → ∃ s', exec (.foldBroadcast t d) s = .next s' ∧ walks s') ∧
        (busy → ∃ s', exec (.foldBroadcast t d) s = .next s' ∧ queued s')) ∧
      (isMode 0x18 2 d = true →
        (idle → ∃ s', exec (.foldSnapshot t d) s = .next s' ∧ walks s') ∧
        (busy → ∃ s', exec (.foldSnapshot t d) s = .next s' ∧ queued s')) ∧
      (isMode 0x18 3 d = true →
        (idle → on = [] → ∃ s', exec (.foldReset t d) s = .next s' ∧ walks s') ∧
        (busy → on = [] → ∃ s', exec (.foldReset t d) s = .next s' ∧ queued s') ∧
        (on ≠ [] → s.fold.op = none ∨ busy → ∃ s', exec (.foldReset t d) s = .next s' ∧ waits s')) ∧
      (isMode 0x18 4 d = true →
        (idle → ∃ s', exec (.foldRetire t d) s = .next s' ∧ walks s') ∧
        (busy → ∃ s', exec (.foldRetire t d) s = .next s' ∧ queued s')) ∧
      (isMode 0x18 5 d = true → adoptBad s.fold.live d s = none →
        (idle → ∃ s', exec (.foldAdopt t d) s = .next s' ∧ walks s') ∧
        (busy → ∃ s', exec (.foldAdopt t d) s = .next s' ∧ queued s'))) ∧
  (∀ (s : State) (t : Nat) (o : FoldOp), live (noFold s) = true → memorySafe s → shaped s → s.fold.op = some o →
      let s0 := elapse t s; let ls := o.tree.leaves o.d.target
      o.b = now s0 → heard o.d s0 = true →
      (p8 o.d 0 = 0 →
        ∃ s1 s', exec (.foldBroadcastTick t) s = .next s' ∧
          answers o.d stOk (foldResult o.tree o.d 0 0 o.b s) 0 s1 s' ∧
          s1 = { s0 with fold := { s.fold with op := none }, regs := s1.regs } ∧
          fld FLD_CNT.OPS s1 = sat 16 (fld FLD_CNT.OPS s + 1) ∧ keepsRegs [FLD_CNT.reg] s s1) ∧
      (p8 o.d 0 = 1 → p8 o.d 1 = 0 → s.lf.run = none → s.heldWr = [] → uwbBusy s = false →
        let mine := ls.filter (fun i => !leafRetired i s && fieldApplies (p8 o.d 2) i)
        ∃ s1 s', exec (.foldBroadcastTick t) s = .next s' ∧
          answers o.d stOk (foldResult o.tree o.d mine.length (ls.length - mine.length) o.b s) 0 s1 s' ∧
          s1 = { s0 with fold := { s.fold with op := none }, regs := s1.regs } ∧
          (p8 o.d 2 = 1 → valueOk 1 (foldValue o.d) = true →
            ∀ i ∈ mine, (i < 128 → fld (LFE_CHn_CFG.EN i) s1 = (foldValue o.d).toNat) ∧
              (128 ≤ i → i < 132 → (fld LFE_COIL_CTL.EN s1).testBit (i - 128) = decide (foldValue o.d = 1)) ∧
              (132 ≤ i → fld (UWB_PORTn_CFG.EN (i - 132)) s1 = (foldValue o.d).toNat)) ∧
          (p8 o.d 2 = 2 → valueOk 2 (foldValue o.d) = true →
            ∀ i ∈ mine, fld (LFE_CHn_CFG.NET i) s1 = (foldValue o.d).toNat) ∧
          (p8 o.d 2 = 3 → valueOk 3 (foldValue o.d) = true →
            ∀ i ∈ mine, fld (LFE_CHn_CFG.DUTY i) s1 = (foldValue o.d).toNat) ∧
          (p8 o.d 2 = 4 → valueOk 4 (foldValue o.d) = true →
            ∀ i ∈ mine, fld (LFE_CHn_CFG.TRIM i) s1 = encSigned 12 (foldValue o.d)) ∧
          (p8 o.d 2 = 5 → ∀ i ∈ mine,
            fld (LFE_CHn_CFG.TRIM i) s1 = encSigned 12 (clampTrim (trimOf i s + foldValue o.d))) ∧
          keepsRegs (FLD_CNT.reg :: (mine.filter (· < 128)).map LFE_CHn_CFG.reg
            ++ (if p8 o.d 2 = 1 then LFE_COIL_CTL.reg :: (List.range 4).map UWB_PORTn_CFG.reg else [])) s s1) ∧
      (p8 o.d 0 = 2 → let recs := snapshot o.tree o.d.target s0; let w := min recs.length (o.d.len / 16)
        dmaBlocked o.d o.d.dstAddr (recs.take w).flatten.length s = false →
        ∃ s1 s', exec (.foldBroadcastTick t) s = .next s' ∧
          answers o.d stOk (foldResult o.tree o.d w 0 o.b s) (sat 8 (recs.length - w))
            (dmaWrite o.d o.d.dstAddr (recs.take w).flatten s1) s' ∧
          s1 = { s0 with fold := { s.fold with op := none }, regs := s1.regs } ∧ keepsRegs [FLD_CNT.reg] s s1) ∧
      (p8 o.d 0 = 3 → p8 o.d 1 = 0 →
        let mine := ls.filter (fun i => !leafRetired i s)
        ∃ s1 s', exec (.foldBroadcastTick t) s = .next s' ∧
          answers o.d stOk (foldResult o.tree o.d mine.length (ls.length - mine.length) o.b s) 0 s1 s' ∧
          s1 = { s0 with
            fold := { s.fold with op := none }, regs := s1.regs, lf := { s.lf with coils := s1.lf.coils } } ∧
          (∀ i ∈ mine, i < 128 → fld (LFE_CHn_STAT.FRES i) s1 = 0 ∧ fld (LFE_CHn_STAT.Q i) s1 = 0 ∧
            fld (LFE_CHn_STAT.RESULT i) s1 = 0 ∧ fld (LFE_CHn_STAT.FF i) s1 = 0) ∧
          (∀ i ∈ mine, 128 ≤ i → i < 132 → s1.lf.coils.getD (i - 128) 0 = 0) ∧
          (∀ i < 128, i ∉ mine → regGet (LFE_CHn_STAT.reg i) s1 = regGet (LFE_CHn_STAT.reg i) s))) ∧
  (∀ (s : State) (t : Nat), live (noFold s) = true → memorySafe s → shaped s → s.nv.ledgerReady = true → s.uwb.cur = none →
      let s0 := elapse t s
      (∀ o, s.fold.op = some o → o.b = now s0 → heard o.d s0 = true → s.nv.wornRecs = [] →
        (p8 o.d 0 = 4 →
          let ls := o.tree.leaves o.d.target; let mine := ls.filter (fun i => leafRetired i s == decide (p8 o.d 1 = 1))
          ∃ s1 s', exec (.foldBroadcastTick t) s = .next s' ∧
            answers o.d stOk (foldResult o.tree o.d mine.length (ls.length - mine.length) o.b s1) 0 s1 s' ∧
            s'.fold.op = none ∧ s'.fold.live = s.fold.live ∧ s'.fold.staging = s.fold.staging ∧
            (∀ i < 136, leafRetired i s' = if i ∈ ls then decide (p8 o.d 1 ≠ 1) else leafRetired i s) ∧
            fld FLD_GEN.GEN s' = (fld FLD_GEN.GEN s + 1) % 65536 ∧
            recRead recTree s' = some (treeBytes s'.fold.live s'.fold.retired) ∧
            s'.lf = s.lf ∧ s'.uhf = s.uhf ∧ s'.flk = s.flk ∧ s'.tmr = s.tmr ∧ s'.cry = s.cry) ∧
        (p8 o.d 0 = 5 → s.lf.run = none → s.heldWr = [] →
          ∀ i old, leafIndex o.d.target = some i → leafIndex (adoptOld o.d) = some old → i ≠ old → i < 128 →
          ∃ s1 s', exec (.foldBroadcastTick t) s = .next s' ∧
            answers o.d stOk (foldResult o.tree o.d 1 0 o.b s1) 0 s1 s' ∧
            s'.fold.op = none ∧ s'.fold.live = s.fold.live.adopt i old ∧ s'.fold.retired = s.fold.retired ∧
            fld (LFE_CHn_CFG.POS i) s' = fld (LFE_CHn_CFG.POS old) s ∧
            (bit 0 (p8 o.d 1) = true → fld (LFE_CHn_CFG.DUTY i) s' = fld (LFE_CHn_CFG.DUTY old) s ∧
              fld (LFE_CHn_CFG.TRIM i) s' = fld (LFE_CHn_CFG.TRIM old) s) ∧
            fld FLD_GEN.GEN s' = (fld FLD_GEN.GEN s + 1) % 65536 ∧
            recRead recTree s' = some (treeBytes s'.fold.live s'.fold.retired) ∧
            s'.lf = s.lf ∧ s'.uhf = s.uhf ∧ s'.flk = s.flk ∧ s'.tmr = s.tmr ∧ s'.cry = s.cry)))

/-! ## UHF radio and coexistence -/

/-- UHF_TX without a window in its way starts 10 us after the radio is in Synth, or at AT, and is on the air for its
length; an AT that it cannot meet gives TX_LATE; UHF_TX_END completes it with its start and frees the radio. UHF_RX starts
as soon as the radio is in RX and lasts its window; UHF_RX_FRAME_DETECTED: each frame that its sync and RSSI let through is
counted and, while DST has room, stands there as a record; UHF_RX_END completes it with OK, or with NO_RESPONSE when no
frame came. -/
def Obligations.UhfSendsAndReceives : Prop :=
  (∀ (s : State) (t : Nat), live s = true → memorySafe s → shaped s → s.uhf.queue = [] → let s0 := elapse t s
      (∀ (d : Desc) (temp : Int) (data : Bytes), serves t d s → isRow 0x20 d = true → txParBad d = none →
        dmaRead d d.srcAddr d.len s = some data → s.uhf.run = none → s.uhf.windows = [] → s.heldWr = [] →
        coexOk 3 s = true →
        let lo := chFreq d.target s; let p := uhfFrom s0; let cal := calOnWay p.1 lo temp s; let same := s.uhf.lo == lo
        let lock := p.2 + usTicks (pathUs (synthPath p.1 same cal))
        (hasAt d = false ∨ lock + usTicks 10 ≤ d.atTb →
          ∃ (r : UhfRun) (s' : State), exec (.uhfTx t d temp) s = .next s' ∧ r.d = d ∧ r.tx = true ∧
            r.data = txFrame d data ∧ r.phase = .air ∧
            r.start = (if hasAt d then d.atTb else p.2 + usTicks (pathUs (airPath true p.1 same cal))) ∧
            r.stop = r.start + txAir d s ∧ s'.uhf.run = some r ∧ s'.uhf.lo = lo ∧
            settles { atWork d s0 with uhf := s'.uhf, regs := s'.regs } s' ∧ keepsRegs [UHF_CAL_STAT.reg] s s') ∧
        (hasAt d = true → d.atTb < lock + usTicks 10 →
          ∃ s1 s', exec (.uhfTx t d temp) s = .next s' ∧ answers d stTxLate [] 0 s1 s' ∧
            s1 = { s0 with uhf := { s.uhf with walk := s1.uhf.walk } })) ∧
      (∀ r : UhfRun, s.uhf.run = some r → r.tx = true → r.phase = .air → r.stop ≤ now s0 → heard r.d s0 = true →
        ∃ s1 s', exec (.uhfTxEnd t) s = .next s' ∧ answers r.d stOk (txResult r s) 0 s1 s' ∧
          s1 = { s0 with uhf := { s.uhf with run := none, lastEnd := r.stop, sent := r.data, walk := s1.uhf.walk } })) ∧
  (∀ (s : State) (t : Nat), live s = true → memorySafe s → shaped s → s.uhf.queue = [] → let s0 := elapse t s
      (∀ (d : Desc) (temp : Int), serves t d s → isRow 0x21 d = true → rxParBad d = none →
        (bit 2 (p8 d 7) = true → d.target = 0) → s.uhf.run = none → s.uhf.windows = [] → s.heldWr = [] →
        coexOk 4 s = true → hasAt d = false →
        let dual := bit 2 (p8 d 7) && spanOk s
        let lo := if dual then min (chFreq 0 s) (chFreq 1 s) - 500 else chFreq d.target s - 500
        let p := uhfFrom s0
        ∃ (r : UhfRun) (s' : State), exec (.uhfRx t d temp) s = .next s' ∧ r.d = d ∧ r.tx = false ∧ r.cal = none ∧
          r.phase = .air ∧ r.start = p.2 + usTicks (pathUs (airPath false p.1 (s.uhf.lo == lo) (calOnWay p.1 lo temp s))) ∧
          r.stop = r.start + rxWindow d ∧ r.frames = 0 ∧ r.dual = dual ∧ s'.uhf.run = some r ∧ s'.uhf.lo = lo ∧
          settles { atWork d s0 with uhf := s'.uhf, regs := s'.regs } s' ∧
          keepsRegs [UHF_CAL_STAT.reg, UHF_STATUS.reg] s s') ∧
      (∀ (r : UhfRun) (f : UhfFrame), s.uhf.run = some r →
        let a := r.d.dstAddr + 272 * r.written
        let r1 := { r with frames := sat 16 (r.frames + 1), crcFail := r.crcFail + b2n (rxRecord r.d f).2 }
        (rxAccepts r f s0 = true → 272 * r.written + 272 ≤ r.d.len → dmaBlocked r.d a 272 s = false →
          ∃ s', exec (.uhfRxFrameDetected t f) s = .next s' ∧
            settles (dmaWrite r.d a (rxRecord r.d f).1
              { s0 with uhf := { s.uhf with run := some { r1 with written := r.written + 1 } } }) s') ∧
        (rxAccepts r f s0 = true → r.d.len < 272 * r.written + 272 →
          ∃ s', exec (.uhfRxFrameDetected t f) s = .next s' ∧
            settles { s0 with uhf := { s.uhf with run := some r1 } } s') ∧
        (rxAccepts r f s0 = false → ∃ s', exec (.uhfRxFrameDetected t f) s = .next s' ∧ settles s0 s')) ∧
      (∀ r : UhfRun, s.uhf.run = some r → r.tx = false → r.phase = .air → r.start ≤ now s0 →
        r.stop ≤ now s0 ∨ rxFull r = true → r.dmaErr = false → heard r.d s0 = true →
        ∃ s1 s', exec (.uhfRxEnd t) s = .next s' ∧
          answers r.d (if r.frames > 0 then stOk else stNoResponse)
            (rxResult { r with flags := r.flags + 4 * b2n (rxFull r) } s0) (sat 8 (r.frames - r.written)) s1 s' ∧
          s1 = { s0 with uhf := { s.uhf with run := none, lastEnd := now s0, walk := s1.uhf.walk } }))

/-- UHF_CAL takes a free radio for the length of its runs and then reports what it measured, which is in force with APPLY
alone; UHF_WINDOW_PREPARE brings the radio to the window's reception and ends a UHF_RX in progress with PREEMPTED;
UHF_RADIO_IDLE_SLEEP sends an idle radio to Sleep; UHF_BG_CAL runs for 700 us. COEX_GRANT starts the host activity that
waited for it; COEX_TIMEOUT skips one that waited TIMEOUT with COEX_DENIED; at COEX_GRANT_WITHDRAWN a transmission ends with
COEX_ABORT, a reception pauses, and an activity that has not begun waits again. With UHF_COEX_CTL.EN = 0 only the pin
changes. -/
def Obligations.RadioIsCalibratedAndGranted : Prop :=
  (∀ (s : State) (t : Nat), memorySafe s → shaped s → s.uhf.queue = [] → s.heldWr = [] →
      let s0 := elapse t s; let p := uhfFrom s0
      (∀ (d : Desc) (m : UhfMeas), serves t d s → isRow 0x22 d = true → uhfCalParBad d = none →
        s.uhf.run = none → s.uhf.windows = [] → (calTicks d).2.1 = 0 ∨ coexOk 5 s = true →
        let k := calTicks d
        ∃ (r : UhfRun) (s' : State), exec (.uhfCal t d m) s = .next s' ∧ r.d = d ∧ r.cal = some m ∧ r.phase = .air ∧
          r.start = p.2 + usTicks (if p.1 ≤ 1 then 50 else if p.1 = 4 then 2 else if p.1 = 5 then 4 else 0) ∧
          r.stop = r.start + k.1 + k.2.1 + k.2.2 ∧
          settles { atWork d s0 with uhf := { s.uhf with run := some r, walk := s'.uhf.walk } } s') ∧
      (∀ (r : UhfRun) (m : UhfMeas), live { s with uhf := { s.uhf with run := none } } = true → s.uhf.run = some r →
        r.cal = some m → r.phase = .air → r.stop = now s0 → r.stop ≤ t → heard r.d s0 = true → bit 5 (p8 r.d 0) = false →
        dmaBlocked r.d r.d.dstAddr (min 16 r.d.len) s = false →
        let mode := p8 r.d 0
        ∃ (rep : Bytes) (s1 s' : State), exec (.uhfRadioIdleSleep t) s = .next s' ∧
          answers r.d stOk (rep.take 14) 0 (dmaWrite r.d r.d.dstAddr (rep.take r.d.len) s1) s' ∧
          rep.take 4 = [byteOf (mode % 16), byteOf (if bit 0 mode then m.irr else 0)]
            ++ leBytes 2 (if bit 1 mode then m.filt else 0) ∧ rep.length = 16 ∧
          s1 = { s0 with regs := s1.regs, uhf := s1.uhf } ∧ keepsRegs [UHF_CAL_STAT.reg] s s1 ∧
          s1.uhf.run = none ∧ s1.uhf.windows = s.uhf.windows ∧
          (bit 4 mode = false → s1.regs = s.regs ∧ s1.uhf.filt = s.uhf.filt ∧ s1.uhf.dc = s.uhf.dc ∧
            s1.uhf.bands = s.uhf.bands ∧ s1.uhf.allBands = s.uhf.allBands) ∧
          (bit 4 mode = true →
            (bit 0 mode = true → fld UHF_CAL_STAT.IRR s1 = m.irr % 256) ∧
            (bit 1 mode = true → s1.uhf.filt = m.filt) ∧ (bit 3 mode = true → s1.uhf.dc = m.dc) ∧
            (bit 2 mode = true → fld UHF_CAL_STAT.CAL_TEMP s1 = encSigned 8 m.temp % 256 ∧ s1.uhf.allBands = true))) ∧
      (∀ (temp : Int) (w : Nat × Nat), live s = true → s.uhf.window = false → s.uhf.windows = [w] →
        w.1 - 7680 ≤ now s0 → now s0 ≤ w.2 →
        (s.uhf.run = none → ∃ s', exec (.uhfWindowPrepare t temp) s = .next s' ∧ s'.uhf.window = true ∧
          s'.uhf.lo = dualLo s ∧ s'.uhf.windows = s.uhf.windows ∧ s'.uhf.run = none ∧
          settles { s0 with uhf := s'.uhf, regs := s'.regs } s' ∧ keepsRegs [UHF_CAL_STAT.reg, UHF_STATUS.reg] s s') ∧
        (∀ r, s.uhf.run = some r → r.tx = false → r.phase = .air → r.start ≤ now s0 → r.dmaErr = false →
          heard r.d s0 = true →
          ∃ s1 s', exec (.uhfWindowPrepare t temp) s = .next s' ∧
            answers r.d (if r.frames > 0 then stOk else stNoResponse) (rxResult { r with flags := r.flags + 1 } s0)
              (sat 8 (r.frames - r.written)) s1 s' ∧
            s1.uhf.run = none ∧ s1.uhf.window = true ∧ s1.lf = s.lf ∧ s1.poll = s.poll)) ∧
      (live s = true → s.uhf.run = none → s.uhf.window = false → s.uhf.lastEnd + 3840 ≤ now s0 →
        (meetsWindow (now s0) (now s0 + 7680) s0).isNone = true →
        ∃ s', exec (.uhfRadioIdleSleep t) s = .next s' ∧
          settles { s0 with uhf := { s.uhf with walk := s'.uhf.walk } } s' ∧
          (2 ≤ p.1 → p.1 ≤ 5 → s'.uhf.walk.head?.map (fun h => (h.come, h.st)) =
            some (p.2 + usTicks (if p.1 = 2 then 1 else if p.1 = 3 then 2 else if p.1 = 4 then 4 else 6), 1))) ∧
      (∀ (irr dc : Nat) (temp : Int), live s = true → s.uhf.run = none → flag UHF_CTL.BG_CAL s = true → uhfIdle s0 = true →
        s.uhf.bgAt + secTicks (10 * fld UHF_CTL.BG_PERIOD s) ≤ now s0 →
        ∃ s', exec (.uhfBgCal t irr dc temp) s = .next s' ∧ uhfState s' = 6 ∧
          settles { s0 with uhf := { s.uhf with
            bg := some ⟨now s0 + 26880, uhfState s0, irr, dc, temp⟩, walk := s'.uhf.walk } } s')) ∧
  (∀ (s : State) (t : Nat), live s = true → memorySafe s → shaped s → s.poll = none → s.uwb.exch = [] →
      s.uwb.cur = none → s.uwb.run = none → s.uhf.queue = [] → let s0 := elapse t s
      (coexEn s = false →
        (∃ s', exec (.coexGrant t) s = .next s' ∧ settles { s0 with pins := { s.pins with coexGnt := true } } s') ∧
        (∃ s', exec (.coexGrantWithdrawn t) s = .next s' ∧ settles { s0 with pins := { s.pins with coexGnt := false } } s') ∧
        (∃ s', exec (.coexTimeout t) s = .next s' ∧ settles s0 s')) ∧
      (∀ r, coexEn s = true → s.uhf.run = some r →
        let p := uhfFrom s0; let lo := runLo r s
        let first := p.2 + usTicks (pathUs (airPath r.tx p.1 (s.uhf.lo == lo) (calOnWay p.1 lo r.temp s)))
        (r.phase = .grant → s.uhf.windows = [] →
          ∃ (r1 : UhfRun) (s' : State), exec (.coexGrant t) s = .next s' ∧ r1.phase = .air ∧ r1.d = r.d ∧
          (r.tx = true → hasAt r.d = false → r1.start = first ∧ r1.stop = r1.start + txAir r.d s) ∧
          (r.tx = true → hasAt r.d = true → r1.start = r.start) ∧
          (r.tx = false → r1.start = (if atRun r then max r.d.atTb first else first) ∧ r1.stop = r1.start + rxWindow r.d) ∧
          s'.uhf.run = some r1 ∧ s'.uhf.queue = [] ∧ s'.uhf.windows = [] ∧ keepsRegs [UHF_CAL_STAT.reg] s s' ∧
          settles { s0 with pins := { s.pins with coexGnt := true }, uhf := s'.uhf, regs := s'.regs } s') ∧
        (r.phase = .grant → s.pins.coexGnt = false → heard r.d s0 = true →
          (if r.tx && hasAt r.d then r.start - usTicks 10 else r.req + coexTimeout s) ≤ now s0 →
          ∃ s1 s', exec (.coexTimeout t) s = .next s' ∧ answers r.d stCoexDenied [] 0 s1 s' ∧
            s1 = { s0 with
              uhf := { s.uhf with run := none, lastEnd := now s0, walk := s1.uhf.walk }, regs := s1.regs } ∧
            fld UHF_STATUS.DENIED s1 = 1 ∧ fld UHF_COEX_CNT.DENIED s1 = sat 16 (fld UHF_COEX_CNT.DENIED s + 1) ∧
            keepsRegs [UHF_STATUS.reg, UHF_COEX_CNT.reg] s s1) ∧
        (r.tx = true → r.phase = .air → r.start ≤ now s0 → coexNeed 3 s = true → heard r.d s0 = true →
          ∃ s1 s', exec (.coexGrantWithdrawn t) s = .next s' ∧ answers r.d stCoexAbort (txResult r s) 0 s1 s' ∧
            s1 = { s0 with
              uhf := { s.uhf with run := none, lastEnd := now s0, walk := s1.uhf.walk }, regs := s1.regs
              pins := { s.pins with coexGnt := false } } ∧
            fld UHF_STATUS.ABORT s1 = 1 ∧ fld UHF_COEX_CNT.ABORT s1 = sat 16 (fld UHF_COEX_CNT.ABORT s + 1) ∧
            keepsRegs [UHF_STATUS.reg, UHF_COEX_CNT.reg] s s1) ∧
        (r.tx = false → r.phase = .air → r.start ≤ now s0 → coexNeed 4 s = true →
          ∃ (r1 : UhfRun) (s' : State), exec (.coexGrantWithdrawn t) s = .next s' ∧ r1.paused = true ∧ r1.phase = .air ∧
            r1.d = r.d ∧ r1.stop = r.stop ∧
            settles { s0 with
              pins := { s.pins with coexGnt := false }, uhf := { s.uhf with run := some r1, walk := s'.uhf.walk } } s') ∧
        (r.phase = .air → now s0 < r.start → coexNeed (if r.tx then 3 else 4) s = true →
          ∃ (r1 : UhfRun) (s' : State), exec (.coexGrantWithdrawn t) s = .next s' ∧ s'.uhf.run = some r1 ∧
            r1.phase = .grant ∧ r1.d = r.d ∧ r1.paused = r.paused ∧ r1.frames = r.frames ∧ s'.pins.coexGnt = false)))

/-! ## UWB radio -/

/-- UWB_RANGE with a valid session key, on a free radio, takes hold of its slot, derives its STS key and V, and puts its
Poll on the air from the first of its ports 2 us after the radio is in Synth; UWB_EXCHANGE_START does so for the exchange
of a poll that comes first. A Response whose STS passes brings the Final of a double-sided exchange; a Report with a good
FCS, code and MIC ends it with the range of DS-TWR, and a single-sided Response with that of SS-TWR; no reply ends it with
NO_RESPONSE. The outcome reaches the answer at its time. -/
def Obligations.RangingRuns : Prop :=
  (∀ (s : State) (t : Nat), live s = true → memorySafe s → shaped s → s.heldWr = [] → let s0 := elapse t s
      (∀ (d : Desc) (temp : Int) (n p : Nat) (x : Slot) (ps : List Nat), serves t d s → isRow 0x28 d = true →
        rangeParBad d = none → targetRetired d s = false → keyFor (p16 d 4) 6 (· == 1) s = some (n, x) →
        s.uwb.queue = [] → s.uwb.run = none → s.uwb.hold = false → rangePorts d.target s = p :: ps →
        portRetired p s = false → hasAt d = false → coexOk 2 s = true →
        ∃ (r : UwbRun) (e : Exch) (s' : State), exec (.uwbRange t d temp) s = .next s' ∧
          r.d = d ∧ r.cal = none ∧ r.key = sessionKey x.key hostLabel (hostCtx 6 d) 1 ∧ r.tries = 1 ∧ r.ports = p :: ps ∧
          r.records = [] ∧ e.answer = none ∧ e.phase = .poll ∧ e.port = p ∧ e.key = r.key ∧ e.ds = bit 0 (p8 d 0) ∧
          e.v = nextV (beNat (sessionKey x.key hostLabel (hostCtx 6 d) 2)) ∧
          e.start = uwbReady (chanPar (p8 d 1) s) temp s0 + usTicks 2 ∧
          s'.uwb.run = some r ∧ s'.uwb.cur = some e ∧ s'.uwb.chan = chanPar (p8 d 1) s ∧
          s'.cry.holders = (n, d) :: s.cry.holders ∧
          settles { atWork d s0 with uwb := s'.uwb, regs := s'.regs, cry := { s.cry with holders := s'.cry.holders } } s' ∧
          keepsRegs [UWB_CAL_STAT.reg] s s') ∧
      (∀ x : Exch, frontExch s = some x → x.phase = .waiting → hostOnAir s0 = false → calRuns s = false →
        coexOk x.cls s = true → tunedFor x s0 = true →
        let at0 := max (max x.due s.uwb.free) ((standing (now s0) s.uwb.walk).1 + usTicks 2)
        at0 ≤ now s0 → (∀ l, x.limit = some l → at0 ≤ l) →
        ∃ s', exec (.uwbExchangeStart t) s = .next s' ∧
          s'.uwb = { s.uwb with
            exch := s.uwb.exch.map (fun e => if e.answer = x.answer then { x with phase := .poll, start := at0, v := nextV x.v } else e) } ∧
          settles { s0 with uwb := s'.uwb, regs := s'.regs } s' ∧
          fld UWB_CNT0.EXCH s' = sat 16 (fld UWB_CNT0.EXCH s + 1) ∧ keepsRegs [UWB_CNT0.reg] s s')) ∧
  (∀ (s : State) (t : Nat) (x : Exch), live s = true → memorySafe s → shaped s → airExch s = some x → x.answer ≠ none →
      s.uwb.hold = false ∨ s.uhf.windows ≠ [] → let s0 := elapse t s
      let ends (y : Exch) (s' : State) : Prop :=
        s'.uwb = { s.uwb with
          exch := s.uwb.exch.map (fun e => if e.answer = x.answer then y else e), free := y.due, lastEnd := y.due,
          walk := s'.uwb.walk } ∧
        settles { s0 with uwb := s'.uwb, regs := s'.regs } s'
      (∀ f : UwbReply, x.phase = .poll → replyTime 350 x s0 = true → stsOk f.stsq f.peakOk s = true →
        (x.ds = true → ∃ (y : Exch) (s' : State), exec (.uwbResponseFrame t f) s = .next s' ∧
          y.phase = .final ∧ y.ra = f.raw ∧ y.v = nextV (nextV x.v) ∧ y.answer = x.answer ∧ y.start = x.start ∧
          settles { s0 with
            uwb := { s.uwb with exch := s.uwb.exch.map (fun e => if e.answer = x.answer then y else e) } } s') ∧
        (x.ds = false → f.fcsOk = true → byteAt 0 f.psdu = 0x51 → slice 14 4 f.psdu = frameMic x.key x.v f.psdu →
          ∃ (y : Exch) (s' : State), exec (.uwbResponseFrame t f) s = .next s' ∧ y.phase = .done ∧ y.status = 0 ∧
            y.range = (ssRange ((f.raw : Int) - txd x.port x.chan s - rxd x.port x.chan s) (leAt 2 4 f.psdu) f.cfo).1 ∧
            y.due = x.start + usTicks 750 ∧ ends y s' ∧ keepsRegs [UWB_LASTn.reg x.port] s s')) ∧
      (∀ f : UwbReport, x.phase = .final → x.ds = true → replyTime 1050 x s0 = true → stsOk f.stsq f.peakOk s = true →
        f.fcsOk = true → byteAt 0 f.psdu = 0x52 → slice 14 4 f.psdu = frameMic x.key x.v f.psdu →
        ∃ (y : Exch) (s' : State), exec (.uwbReportFrame t f) s = .next s' ∧ y.phase = .done ∧ y.status = 0 ∧
          y.range = (dsRange (roundRa x s) (leAt 2 4 f.psdu) (leAt 6 4 f.psdu)).1 ∧ y.due = x.start + usTicks 1450 ∧
          ends y s' ∧ keepsRegs [UWB_LASTn.reg x.port] s s') ∧
      (x.start + usTicks (if x.phase = .poll then 360 else 1060) ≤ now s0 →
        ∃ (y : Exch) (s' : State), exec (.uwbReplyTimeout t) s = .next s' ∧ y.phase = .done ∧ y.status = stNoResponse ∧
          y.due = now s0 ∧ ends y s' ∧ fld UWB_CNT0.NORESP s' = sat 16 (fld UWB_CNT0.NORESP s + 1) ∧
          keepsRegs [UWB_CNT0.reg] s s'))

/-- UWB_CAL takes a free radio for the length of its runs and then completes with its report; with APPLY the antenna delays
that it found are those of every port it calibrated with a reference, and without APPLY nothing changes.
RANGE_RESULT_ARRIVAL: the outcome of the first ended exchange becomes a trigger of its answer, and the exchange is gone.
UWB_PREWARM holds the radio in Synth once in a poll; UWB_RADIO_IDLE_SLEEP sends an idle radio to its rest state; UWB_BG_CAL
runs for 330 us. -/
def Obligations.UwbCalibratesAndDelivers : Prop :=
  (∀ (s : State) (t : Nat), memorySafe s → shaped s → s.heldWr = [] → s.uwb.queue = [] → s.uwb.hold = false →
      let s0 := elapse t s
      (∀ (d : Desc) (m : List UwbMeas) (temp : Int), serves t d s → isRow 0x29 d = true → uwbCalParBad d = none →
        s.uwb.run = none → rangePorts d.target s ≠ [] →
        (calRefs d = true → (keyFor (p16 d 6) 6 (· == 1) s).isSome = true ∧ coexOk 5 s = true) →
        let p := uwbFrom s0
        ∃ (r : UwbRun) (s' : State), exec (.uwbCal t d m temp) s = .next s' ∧ s'.uwb.run = some r ∧ r.d = d ∧
          r.cal = some m ∧ r.ports = rangePorts d.target s ∧
          r.calFrom = p.2 + (if p.1 ≤ 1 then usTicks 120 else 0) + (uwbCalTicks d).1 ∧
          r.calStop = some (r.calFrom + (r.ports.length * ((uwbCalTicks d).1 + (uwbCalTicks d).2) - (uwbCalTicks d).1)) ∧
          s'.uwb.cur = s.uwb.cur ∧ s'.uwb.exch = s.uwb.exch ∧
          (calRefs d = false → s'.cry = s.cry) ∧
          settles { atWork d s0 with uwb := s'.uwb, cry := { s.cry with holders := s'.cry.holders } } s') ∧
      (∀ (r : UwbRun) (m : List UwbMeas), live { s with uwb := { s.uwb with run := none } } = true → s.uwb.run = some r →
        r.cal = some m → r.calStop = some (now s0) → now s0 ≤ t → s.poll = none → heard r.d s0 = true → bit 6 (p8 r.d 0) = false →
        dmaBlocked r.d r.d.dstAddr (min (16 * r.ports.length) r.d.len) s = false →
        let d := r.d; let c := chanPar (p8 d 1) s
        ∃ (out res : Bytes) (s1 s' : State), exec (.uwbRadioIdleSleep t) s = .next s' ∧
          answers d stOk res 0 (dmaWrite d d.dstAddr out s1) s' ∧ out.length = min (16 * r.ports.length) d.len ∧
          s1 = { s0 with
            regs := s1.regs, cry := { s.cry with holders := s1.cry.holders }
            uwb := { s.uwb with run := none, cur := none, lastEnd := now s0, cald := s1.uwb.cald,
                                free := max s.uwb.free (now s0) } } ∧
          (bit 5 (p8 d 0) = false → s1.regs = s.regs ∧ s1.uwb.cald = s.uwb.cald) ∧
          (∀ k p, r.ports[k]? = some p → r.ports.Nodup → p < 4 → bit 5 (p8 d 0) = true → bit 3 (p8 d 0) = true →
            bit 4 (p8 d 0) = false → calCount d ≤ 2 * (m.getD k noMeas).ranged →
            txd p c s1 = antDly d (m.getD k noMeas) ∧ rxd p c s1 = antDly d (m.getD k noMeas) ∧ phsOf p c s1 = phsOf p c s))) ∧
  (∀ (s : State) (t : Nat), live s = true → memorySafe s → shaped s → let s0 := elapse t s
      (∀ (p : Poll) (x : Exch) (k : Nat) (a : Answer), s.poll = some p →
        s.uwb.exch.find? (fun e => e.phase == .done && decide (e.due ≤ now s0)) = some x → x.answer = some k →
        p.answers[k]? = some a → s.uwb.hold = false ∨ s.uhf.windows ≠ [] → x.status ≠ stCoexAbort →
        ∃ (b : Answer) (s' : State), exec (.rangeResultArrival t) s = .next s' ∧
          b.trig = some (now s0) ∧ b.ranging = false ∧ b.out = some (x.status, x.range, x.ds) ∧
          b.range = (if x.status = 0 then x.range else 0xFFFFFFFF) ∧ b.slot = a.slot ∧ b.counter = a.counter ∧
          settles { s0 with
            poll := some { p with answers := p.answers.set k b }
            uwb := { s.uwb with exch := s.uwb.exch.filter (fun e => e.answer != x.answer) } } s') ∧
      (∀ (temp : Int) (p : Poll), s.poll = some p → p.gateRange = true → p.warmed = false → p.window ≠ none →
        s.part ≠ .blv8032n → hostOnAir s0 = false → calRuns s = false → s.uwb.cur = none → s.heldWr = [] →
        ∃ s', exec (.uwbPrewarm t temp) s = .next s' ∧ s'.uwb.hold = true ∧ s'.uwb.chan = uwbChan s ∧
          s'.uwb.exch = s.uwb.exch ∧ settles { s0 with
            poll := some { p with warmed := true }, uwb := s'.uwb, regs := s'.regs } s' ∧
          keepsRegs [UWB_CAL_STAT.reg] s s') ∧
      (s.uwb.hold = false → s.uwb.run = none → s.uwb.queue = [] → s.uhf.windows = [] → pollExchOpen s = false →
        s.uwb.lastEnd + 3840 ≤ now s0 →
        let p := uwbFrom s0
        ∃ s', exec (.uwbRadioIdleSleep t) s = .next s' ∧
          settles { s0 with uwb := { s.uwb with walk := s'.uwb.walk } } s' ∧
          (keepUwb s = false → 2 ≤ p.1 → s'.uwb.walk.head?.map (fun h => (h.come, h.st)) =
            some (p.2 + usTicks (if 3 ≤ p.1 then 2 else 1), 1)) ∧
          (keepUwb s = true → 3 ≤ p.1 → s'.uwb.walk.head?.map (fun h => (h.come, h.st)) = some (p.2 + usTicks 1, 2))) ∧
      (∀ (irr : Nat) (temp : Int), flag UWB_CTL.BG_CAL s = true → s.part ≠ .blv8032n → uwbState s0 = 2 ∨ uwbState s0 = 3 →
        s.uwb.hold = false → s.uwb.run = none → s.uwb.queue = [] → pollExchOpen s = false → s.uhf.windows = [] →
        s.uwb.bgAt + secTicks (10 * fld UWB_CTL.BG_PERIOD s) ≤ now s0 →
        ∃ s', exec (.uwbBgCal t irr temp) s = .next s' ∧
          settles { s0 with uwb := { s.uwb with
            bg := some ⟨now s0 + usTicks 330, uwbState s0, irr, 0, temp⟩, walk := s'.uwb.walk } } s'))
/-! ## Answers and verdicts -/

/-- SYNC_DETECTED and OBANE_ANSWER_FRAME: a SYNC in its window is taken up, a second one of its slot-channel marks the
collision, and one outside the window counts as a position violation whether or not it is the second; a frame with a bad CRC, or of another vehicle, only counts; one that passes every check joins the poll's answers as
a verified answer and a trigger, and sets the slot's LAST; one with a wrong MAC joins them as MAC_FAIL, a replayed one as
ROLLBACK. -/
def Obligations.AnswersAreChecked : Prop :=
  ∀ (s : State) (t : Nat) (r : LfRun) (p : Poll) (slot off : Nat), live s = true → memorySafe s → shaped s →
    s.pwr.st ≠ .watch → s.nv.ledgerReady = true → s.flk.pend = none → s.lf.run = some r → s.poll = some p →
    let s0 := elapse t s
    receiving p s0 = true → slotNow p s0 = some (slot, off) →
    (∀ ch, onChannel ch s = true →
      ((slot, ch) ∉ p.synced → 30720 ≤ off → off ≤ 44544 →
        ∃ s', exec (.syncDetected t ch) s = .next s' ∧
          settles { s0 with poll := some { p with synced := p.synced ++ [(slot, ch)] } } s') ∧
      ((slot, ch) ∉ p.synced → off < 30720 ∨ 44544 < off →
        ∃ s', exec (.syncDetected t ch) s = .next s' ∧ settles { s0 with regs := s'.regs } s' ∧
          fld UHF_OBN_CNT1.OBN_POS s' = sat 16 (fld UHF_OBN_CNT1.OBN_POS s + 1) ∧ keepsRegs [UHF_OBN_CNT1.reg] s s') ∧
      ((slot, ch) ∈ p.synced → (slot, ch) ∉ p.collided →
        ∃ s', exec (.syncDetected t ch) s = .next s' ∧
          settles { s0 with poll := some { p with collided := p.collided ++ [(slot, ch)] }, regs := s'.regs } s' ∧
          fld UHF_OBN_CNT0.OBN_COLL s' = sat 16 (fld UHF_OBN_CNT0.OBN_COLL s + 1) ∧
          fld UHF_OBN_CNT1.OBN_POS s' =
            sat 16 (fld UHF_OBN_CNT1.OBN_POS s + b2n (decide (off < 30720) || decide (44544 < off))) ∧
          keepsRegs [UHF_OBN_CNT0.reg, UHF_OBN_CNT1.reg] s s')) ∧
    (∀ f : ObaneFrame, (slot, f.ch) ∈ p.synced → (slot, f.ch) ∉ p.ended → 270720 ≤ off → off ≤ 284544 →
      let b := f.bytes; let p0 := { p with ended := p.ended ++ [(slot, f.ch)] }
      (obCrcOk b = false → f.spread ≤ 6 → (slot, f.ch) ∉ p.collided →
        ∃ s', exec (.obaneAnswerFrame t f) s = .next s' ∧ settles { s0 with poll := some p0, regs := s'.regs } s' ∧
          fld UHF_OBN_CNT0.OBN_CRC s' = sat 16 (fld UHF_OBN_CNT0.OBN_CRC s + 1) ∧ keepsRegs [UHF_OBN_CNT0.reg] s s') ∧
      (obCrcOk b = true → obVid b ≠ fld FLK_VID.VID s →
        ∃ s', exec (.obaneAnswerFrame t f) s = .next s' ∧
          settles { s0 with poll := some { p0 with heard := true }, regs := s'.regs } s' ∧
          fld UHF_OBN_CNT1.OBN_VID s' = sat 16 (fld UHF_OBN_CNT1.OBN_VID s + 1) ∧ keepsRegs [UHF_OBN_CNT1.reg] s s') ∧
      (∀ x : Token, obCrcOk b = true → obVid b = fld FLK_VID.VID s → positionOk r p0 (slot, f.ch) b = true →
        p.pinStop = false → tokenOf (obFslot b) s = some x → obEpoch b = fld FLK_FLOCK.EPOCH s →
        (obMac b = (cmac x.key ([1] ++ beBytes 8 p.challenge ++ b.take 20)).take 8 → x.role ≠ 4 →
          (counterAhead (obCounter b) x.last = true →
            p.answers.any (fun y => y.verified && y.slot == obFslot b) = false →
            ∃ (a : Answer) (p1 : Poll) (s' : State), exec (.obaneAnswerFrame t f) s = .next s' ∧
              s'.poll = some p1 ∧ p1.answers = p.answers ++ [a] ∧ a.verified = true ∧ a.status = stOk ∧
              a.slot = obFslot b ∧ a.counter = obCounter b ∧ a.mag = obMag b ∧ a.tb = now s0 ∧ a.trig = some (now s0) ∧
              (tokenOf (obFslot b) s').map (·.last) = some (obCounter b) ∧ s'.lf = s.lf ∧ s'.uhf = s.uhf ∧ s'.uwb = s.uwb ∧
              s'.vrd = s.vrd ∧ s'.tmr = s.tmr) ∧
          (counterAhead (obCounter b) x.last = false →
            ∃ (a : Answer) (p1 : Poll) (s' : State), exec (.obaneAnswerFrame t f) s = .next s' ∧
              s'.poll = some p1 ∧ p1.answers = p.answers ++ [a] ∧ a.verified = false ∧ a.status = stRollback ∧
              a.trig = none ∧ s'.flk = s.flk ∧ s'.lf = s.lf ∧
              fld FLK_AUTH_CNT.REPLAY s' = sat 16 (fld FLK_AUTH_CNT.REPLAY s + 1))) ∧
        (obMac b ≠ (cmac x.key ([1] ++ beBytes 8 p.challenge ++ b.take 20)).take 8 →
          ∃ (a : Answer) (p1 : Poll) (s' : State), exec (.obaneAnswerFrame t f) s = .next s' ∧
            s'.poll = some p1 ∧ p1.answers = p.answers ++ [a] ∧ a.verified = false ∧ a.authFail = true ∧
            a.status = stMacFail ∧ a.trig = none ∧ s'.flk.flock = s.flk.flock ∧ s'.lf = s.lf ∧
            fld FLK_AUTH_CNT.AUTH_FAIL s' = sat 16 (fld FLK_AUTH_CNT.AUTH_FAIL s + 1))))

/-- VERDICT_PASS takes the first trigger: with a candidate gate that needs ranging, and a port that can range, it requests
the exchange 350 us after the answer and notes in VRD_LAST how long the trigger waited; else it gives the verdict its status, zone and score, and counts it. A verdict with a
GRANT and no LOCK starts the permission, one with a LOCK ends it. -/
def Obligations.VerdictsAreGiven : Prop :=
  ∀ (s : State) (t : Nat) (r : LfRun) (p : Poll) (k : Nat) (a : Answer), live s = true → memorySafe s → shaped s →
    s.nv.ledgerReady = true → s.flk.pend = none → s.lf.run = some r → s.poll = some p →
    nextTrigger p.answers = some k → p.answers[k]? = some a → p.shut = false →
    let s0 := elapse t s; let i := passIn r p a s
    let z := classify s.vrd.map (fld VRD_CTL.MARGIN s) i.coil i.frame i.target i.mag
    let cand := candidates s.vrd.rules i z s; let v := passVerdict i z cand p a s
    let asks := a.out.isNone && !p.pinStop && cand.any (fun g => g.2.needs i.ff) && rangeable i z
    (asks = true →
      ∃ (x : Exch) (s' : State), exec (.verdictPass t) s = .next s' ∧ x.answer = some k ∧ x.phase = .waiting ∧
        x.due = a.tb + usTicks 350 ∧ x.limit = some (a.tb + usTicks 2600) ∧ x.ds = cand.any (fun g => g.2.needsDs i.ff) ∧
        x.key = sessionKey (((tokenOf a.slot s).map Token.key).getD []) obaneLabel
          (beBytes 8 a.challenge ++ beBytes 2 a.counter ++ [byteOf a.b4]) 1 ∧
        settles { s0 with
          poll := some { p with answers := p.answers.set k { a with trig := none, ranging := true } }
          regs := s'.regs, uwb := { s.uwb with exch := s.uwb.exch ++ [x] } } s' ∧
        fld VRD_LAST.WAIT_MAX s' =
          max (fld VRD_LAST.WAIT_MAX s) (min ((now s0 - a.trig.getD (now s0)) * 125 / 12) 255) ∧
        keepsRegs [VRD_LAST.reg] s s') ∧
    (asks = false → v.acting = [] → v.dropped = [] → v.st ≠ stRelay → fld VRD_CTL.EVT s ≠ 2 →
      ∃ (b : Answer) (p1 : Poll) (s' : State), exec (.verdictPass t) s = .next s' ∧ p1.answers[k]? = some b ∧
        p1.answers.length = p.answers.length ∧ b.status = v.st ∧ b.zone = z.num ∧ b.score = z.score ∧ b.judged = true ∧
        b.trig = none ∧ settles { s0 with poll := some p1, free := s.free + 1, regs := s'.regs } s' ∧
        fld VRD_CNT0.VERDICTS s' = sat 16 (fld VRD_CNT0.VERDICTS s + 1) ∧ fld VRD_LAST.STATUS s' = v.st % 256 ∧
        keepsRegs [VRD_LAST.reg, VRD_CNT0.reg, VRD_CNT1.reg, VRD_CNT2.reg] s s') ∧
    (asks = false → v.acting ≠ [] → fld VRD_CTL.EVT s = 0 →
      ∃ s', exec (.verdictPass t) s = .next s' ∧ fld VRD_CNT0.ACTED s' = sat 16 (fld VRD_CNT0.ACTED s + 1) ∧
        (hasLock s.vrd.rules v.acting = true → s'.flk.perm = none) ∧
        (∀ g, hasLock s.vrd.rules v.acting = false → grantGate s.vrd.rules v.acting = some g → startEn s = true →
          s'.flk.perm = some { slot := a.slot, grant := now s0, hold := fld FLK_START_CTL.HOLD_S s }) ∧
        (hasLock s.vrd.rules v.acting = false → grantGate s.vrd.rules v.acting = none → s'.flk.perm = s.flk.perm) ∧
        s'.lf = s.lf ∧ s'.uhf = s.uhf ∧ s'.vrd = s.vrd)

/-- The exchange of a coil: its driver's current is checked first, and a coil that is OPEN or SHORT is left out; else the
downlink with a fresh challenge follows 625 periods later; an attempt without a START in time, or with a bad frame, is made
once more after 125 periods, and then the coil is done; a good uplink is an answer of the coil. -/
def Obligations.CoilsExchange : Prop :=
  ∀ (s : State) (t n : Nat) (r : LfRun) (p : Poll) (c : CoilRun), live s = true → memorySafe s → shaped s → n < 4 →
    coilOf n s = some (r, p, c) → p.shut = false → drawFails s = none → let s0 := elapse t s
    let again (s' : State) : Prop :=
      ∃ p1 : Poll, s'.poll = some p1 ∧ p1.coils = p.coils.map (fun x => if x.coil = n then
        { c with
          tries := c.tries + 1, challenge := beNat (freeBytes 8 s0), head := coilHead s, active := true
          since := now s0 + coilTicks 125 s } else x) ∧
      p1.answers = p.answers ∧ settles { s0 with poll := some p1, free := s.free + 8, regs := s'.regs } s' ∧
      fld FLK_COIL_CNT.COIL_CRC s' = sat 16 (fld FLK_COIL_CNT.COIL_CRC s + 1) ∧
      keepsRegs [FLK_COIL_CNT.reg, RNG_REQ_CNT.reg, RNG_STATUS.reg] s s'
    (∀ (pct : Nat) (limit : Bool), c.active = false → c.done = false → c.tries = 0 →
      (coilCheck pct limit = 1 →
        ∃ (p1 : Poll) (s' : State), exec (.coilExchangeStart t n pct limit) s = .next s' ∧ p1.coilRan = true ∧
          p1.coils = p.coils.map (fun x => if x.coil = n then
            { c with
              tries := 1, challenge := beNat (freeBytes 8 s0), head := coilHead s, active := true, from_ := some (now s0)
              since := now s0 + coilTicks 625 s } else x) ∧
          settles { s0 with
            poll := some p1, free := s.free + 8, regs := s'.regs, lf := { s.lf with coils := s.lf.coils.set n 1 } } s' ∧
          keepsRegs [RNG_REQ_CNT.reg, RNG_STATUS.reg] s s') ∧
      (coilCheck pct limit ≠ 1 →
        ∃ s', exec (.coilExchangeStart t n pct limit) s = .next s' ∧
          settles { s0 with
            poll := some { p with coils := p.coils.map (fun x => if x.coil = n then { c with done := true } else x) }
            regs := s'.regs, lf := { s.lf with coils := s.lf.coils.set n (coilCheck pct limit) } } s' ∧
          (coilCheck pct limit = 3 → fld LFE_STATUS.COIL_FAULT s' = 1) ∧ keepsRegs [LFE_STATUS.reg] s s')) ∧
    (c.active = true → coilStep3 c s + coilTicks 525 s ≤ now s0 →
      (c.tries < 2 → ∃ s', exec (.coilAttemptTimeout t n) s = .next s' ∧ again s') ∧
      (2 ≤ c.tries → ∃ s', exec (.coilAttemptTimeout t n) s = .next s' ∧
        settles { s0 with
          poll := some { p with coils := p.coils.map (fun x =>
            if x.coil = n then { c with active := false, done := true } else x) }
          regs := s'.regs } s' ∧ keepsRegs [FLK_COIL_CNT.reg] s s')) ∧
    (∀ b : Bytes, c.active = true → coilStep3 c s + coilTicks 3965 s ≤ now s0 →
      now s0 ≤ coilStep3 c s + coilTicks 4365 s →
      (b.length ≠ 15 ∨ byteAt 0 b ≠ 0x7E ∨ crc16 (slice 1 12 b) ≠ beNat (slice 13 2 b) → c.tries < 2 →
        ∃ s', exec (.coilUplinkFrame t n b) s = .next s' ∧ again s') ∧
      (∀ x : Token, b.length = 15 → byteAt 0 b = 0x7E → crc16 (slice 1 12 b) = beNat (slice 13 2 b) →
        s.pwr.st ≠ .watch → s.nv.ledgerReady = true → s.flk.pend = none → p.pinStop = false →
        tokenOf (byteAt 1 b / 4) s = some x → byteAt 2 b = fld FLK_FLOCK.EPOCH s → x.role ≠ 4 →
        slice 5 8 b = (cmac x.key ([2] ++ beBytes 8 c.challenge ++ beBytes 3 c.head.1 ++ [byteOf n]
          ++ slice 1 4 b)).take 8 → counterAhead (beNat (slice 3 2 b)) x.last = true →
        p.answers.any (fun y => y.verified && y.slot == byteAt 1 b / 4) = false →
        ∃ (a : Answer) (p1 : Poll) (s' : State), exec (.coilUplinkFrame t n b) s = .next s' ∧ s'.poll = some p1 ∧
          p1.answers = p.answers ++ [a] ∧ a.verified = true ∧ a.source = 0x80 + n ∧ a.slot = byteAt 1 b / 4 ∧
          a.counter = beNat (slice 3 2 b) ∧ a.trig = some (now s0) ∧
          (tokenOf (byteAt 1 b / 4) s').map (·.last) = some (beNat (slice 3 2 b)) ∧ s'.lf = s.lf ∧ s'.uhf = s.uhf))
/-! ## Verdict set-up and cryptography -/

/-- CRYPT_ECB, CRYPT_CBC, CRYPT_CTR, CRYPT_GCM, CRYPT_CCM, CRYPT_CMAC and CRYPT_KW with a key of the right kind and use:
what the mode computes stands at DST, the completion gives its status and length, and a failed tag counts; CRYPT_STAGE of
the Drover port puts the flock blob's entries into the staged bank instead. -/
def Obligations.CryptComputesItsMode : Prop :=
  ∀ (s : State) (t : Nat) (d : Desc) (n : Nat) (x : Slot) (src : Bytes), serves t d s → cryptLenOk d = true →
    keyFor d.target (cryptUsage d) isAes s = some (n, x) → wraps d.srcAddr (cryptSrc d) = false →
    dmaRead d d.srcAddr (cryptSrc d) s = some src → let s0 := elapse t s; let o := cryptCore x.key d src
    let computes (s' : State) : Prop :=
      ∃ s1, answers d o.st (cryptResult d o.len o.unverified (cryptInPlace d) (cryptBlocks d)) 0
          (dmaWrite d d.dstAddr o.out s1) s' ∧
        s1 = { s0 with regs := s1.regs } ∧ keepsRegs [CRY_CNT0.reg, CRY_CNT1.reg] s s1 ∧
        (o.st = stTagFail → fld CRY_CNT0.TAG_FAIL s1 = sat 16 (fld CRY_CNT0.TAG_FAIL s + 1)) ∧
        (o.st = stOk → s1 = s0)
    (cryptParBad d false = none → wraps d.dstAddr (cryptDst d) = false →
      cryptInPlace d = true ∨ overlaps d.srcAddr (cryptSrc d) d.dstAddr (cryptDst d) = false →
      dmaBlocked d d.dstAddr o.out.length s = false →
      (isMode 0x40 0 d = true → ∃ s', exec (.cryptEcb t d) s = .next s' ∧ computes s') ∧
      (isMode 0x40 1 d = true → ∃ s', exec (.cryptCbc t d) s = .next s' ∧ computes s') ∧
      (isMode 0x40 2 d = true → ∃ s', exec (.cryptCtr t d) s = .next s' ∧ computes s') ∧
      (isMode 0x40 3 d = true → ∃ s', exec (.cryptGcm t d) s = .next s' ∧ computes s') ∧
      (isMode 0x40 4 d = true → ∃ s', exec (.cryptCcm t d) s = .next s' ∧ computes s') ∧
      (isMode 0x40 5 d = true → ∃ s', exec (.cryptCmac t d) s = .next s' ∧ computes s') ∧
      (isMode 0x40 6 d = true → ∃ s', exec (.cryptKw t d) s = .next s' ∧ computes s')) ∧
    (isMode 0x40 3 d = true → p8 d 1 = 0x81 → d.src = .drover → workingOn 0x38 s = true → cryptParBad d true = none →
      ∃ s1 s', exec (.cryptStage t d) s = .next s' ∧
        answers d o.st (cryptResult d o.len o.unverified false (cryptBlocks d)) 0 s1 s' ∧
        s1 = { s0 with regs := s1.regs, flk := { s.flk with staged := s1.flk.staged } } ∧
        (o.st ≠ stOk → s1.flk.staged = none) ∧
        (o.st = stOk → ∃ f, s1.flk.staged = some f ∧
          f.slots = (chunks 32 o.out).foldl (fun l e => l.set (flockEntry e).1 (some (flockEntry e).2))
            (List.replicate 64 none)))

/-- KEY_UNWRAP, KEY_IMPORT, KEY_DERIVE, KEY_CLEAR and KEY_UNWRAP_PAIRING: an unwrapped, imported, derived or cleared slot has its new content and the next generation, and
the completion gives its new handle; a slot with a holder changes after it; the pairing's key goes to its stage; a blob that does not unwrap changes nothing. -/
def Obligations.KeysChangeTheirSlot : Prop :=
  ∀ (s : State) (t : Nat) (d : Desc) (n : Nat), serves t d s → keyTarget d.target s = some n → s.cry.changes = [] →
    s.nv.ledgerReady = true →
    let s0 := elapse t s
    let gives (x : Slot) (s1 s' : State) : Prop :=
      (slotHeld n s = false →
        answers d stOk (slotResult n { x with gen := ((slotOf n s).gen + 1) % 256 }) 0
          (setSlot n { x with gen := ((slotOf n s).gen + 1) % 256 } s1) s') ∧
      (slotHeld n s = true → settles { atWork d s1 with cry := { s.cry with changes := [⟨d, n, x⟩] } } s')
    (∀ kek src, isRow 0x41 d = true → unwrapParBad d false = none → p8 d 0 ≠ 0xFE → d.len = kindLen (p8 d 1) + 8 →
      kekFor d s = .ok kek → dmaRead d d.srcAddr d.len s = some src →
      (∀ k, kwUnwrap kek src = some k → keyValueOk (p8 d 1) k = true →
        ∃ s', exec (.keyUnwrap t d) s = .next s' ∧
          gives { kind := p8 d 1, usage := p16 d 4, origin := 1, gen := 0, key := k } s0 s') ∧
      (kwUnwrap kek src = none →
        ∃ s1 s', exec (.keyUnwrap t d) s = .next s' ∧ completed d stUnwrapFail [] 0 s1 s' ∧ s'.cry = s.cry ∧
          fld CRY_CNT0.UNWRAP_FAIL s' = sat 16 (fld CRY_CNT0.UNWRAP_FAIL s + 1))) ∧
    (∀ kek src, isMode 0x41 0xFE d = true → unwrapParBad d false = none → d.len = kindLen (p8 d 1) →
      kekFor d s = .ok kek → dmaRead d d.srcAddr d.len s = some src → keyValueOk (p8 d 1) src = true →
      dmaBlocked d d.dstAddr (kwWrap kek src).length s = false →
      ∃ s', exec (.keyImport t d) s = .next s' ∧
        gives { kind := p8 d 1, usage := p16 d 4, origin := 3, gen := 0, key := src }
          (dmaWrite d d.dstAddr (kwWrap kek src) s0) s') ∧
    (∀ kek src k g, isMode 0x41 0x81 d = true → d.src = .drover → workingOn 0x3A s = true →
      unwrapParBad d true = none → d.len = kindLen (p8 d 1) + 8 → kekFor d s = .ok kek →
      dmaRead d d.srcAddr d.len s = some src → kwUnwrap kek src = some k → keyValueOk (p8 d 1) k = true →
      s.flk.stage = some g →
      ∃ s', exec (.keyUnwrapPairing t d) s = .next s' ∧ answers d stOk [] 0
        { s0 with flk := { s.flk with stage := some { g with pair := { g.pair with key := k } } } } s') ∧
    (∀ m x ctx, isRow 0x42 d = true → deriveParBad d = none → keyFor (p16 d 2) 4 isAes s = some (m, x) →
      dmaRead d d.srcAddr d.len s = some ctx →
      let k := (kdf x.key (slice 6 4 d.par) ([byteOf (p8 d 1), byteOf (p16 d 4 / 256), byteOf (p16 d 4)] ++ ctx)
        (64 * (p8 d 1 + 1))).take (kindLen (p8 d 1))
      ∃ s', exec (.keyDerive t d) s = .next s' ∧
        gives { kind := p8 d 1, usage := p16 d 4, origin := 2, gen := 0, key := k } s0 s') ∧
    (isRow 0x43 d = true → parNonzero 0 24 d = none →
      ∃ s', exec (.keyClear t d) s = .next s' ∧ gives Slot.empty s0 s') ∧
    (∀ det, isRow 0x43 d = true → parNonzero 0 24 d = some det →
      ∃ s', exec (.keyClear t d) s = .next s' ∧ turnedAway d stBadLen det s0 s')

/-- PKE_SIGN_MESSAGE, PKE_SIGN_DIGEST and PKE_SIGN_LEDGER put the ECDSA signature of what their mode covers at DST, or wait
while the generator is in Steep; PKE_VERIFY answers OK for a signature that verifies, and MAC_FAIL for one that does not. -/
def Obligations.SignaturesAreMadeAndVerified : Prop :=
  ∀ (s : State) (t : Nat) (d : Desc) (b : Bytes), serves t d s → dmaRead d d.srcAddr d.len s = some b →
    s.cry.holders = [] → s.cry.changes = [] → let s0 := elapse t s
    let signs (m : Nat) (e : Bytes) (s' : State) : Prop := ∀ slot k, signKey d s = some (slot, k) →
      let sig := (signWith k e s0).1
      (drawFails s = none → dmaBlocked d d.dstAddr sig.length s = false →
        ∃ s1, answers d stOk ([byteOf m, byteOf (b2n (d.target == 0x80))] ++ leBytes 2 d.target) 0
            (dmaWrite d d.dstAddr sig s1) s' ∧
          s1 = { s0 with regs := s1.regs, free := s1.free } ∧
          fld CRY_PKE_CNT.SIGN s1 = sat 16 (fld CRY_PKE_CNT.SIGN s + 1) ∧
          keepsRegs [CRY_PKE_CNT.reg, RNG_REQ_CNT.reg, RNG_STATUS.reg] s s1) ∧
      (drawFails s = some stNotReady →
        settles { atWork d s0 with
          cry := { s.cry with holders := (slot.map (fun n => (n, d))).toList }
          lcy := { s.lcy with steepWait := s.lcy.steepWait ++ [(d, now s0 + timeoutTicks d 100)] } } s')
    (parNonzero 1 24 d = none → (signKey d s).isSome = true →
      (isMode 0x44 0 d = true → 1 ≤ d.len → d.len ≤ 1048576 → ∃ s', exec (.pkeSignMessage t d) s = .next s' ∧
        signs 0 (sha256 (if d.target = 0x80 then dakHostPrefix ++ b else b)) s') ∧
      (isMode 0x44 1 d = true → d.len = 32 → d.target ≠ 0x80 →
        ∃ s', exec (.pkeSignDigest t d) s = .next s' ∧ signs 1 b s') ∧
      (isMode 0x44 2 d = true → d.len = 128 → d.src = .drover → (workingOn 0x5B s || ckptWork s) = true →
        ∃ s', exec (.pkeSignLedger t d) s = .next s' ∧ signs 2 (sha256 (dakLedgerPrefix ++ b)) s')) ∧
    (isRow 0x45 d = true → p8 d 0 ≤ 1 → parNonzero 1 24 d = none → 128 ≤ d.len → d.len ≤ 128 + 1048576 →
      (p8 d 0 = 1 → d.len = 160) → pubOk (b.take 64) = true →
      let ok := ecdsaVerify (b.take 64) (if p8 d 0 = 1 then b.drop 128 else sha256 (b.drop 128)) (slice 64 64 b)
      ∃ s1 s', exec (.pkeVerify t d) s = .next s' ∧
        answers d (if ok then stOk else stMacFail) [if ok then 1 else 0] 0 s1 s' ∧ s1 = { s0 with regs := s1.regs } ∧
        fld CRY_PKE_CNT.VERIFY s1 = sat 16 (fld CRY_PKE_CNT.VERIFY s + 1) ∧
        fld CRY_CNT1.MAC_FAIL s1 = sat 16 (fld CRY_CNT1.MAC_FAIL s + b2n (!ok)) ∧
        keepsRegs [CRY_PKE_CNT.reg, CRY_CNT1.reg] s s1)

/-! ## Flock and pinfold -/

/-- FLOCK_LEARN of a blob that passes every check: in BLANK and SIGNED, and in BELLWETHER with a Bellwether answer at most
60 s old, the new flock is in force with the next epoch, counter 252 has counted, and the start permission and every
earlier flock are gone; without such an answer the learn waits for one, BELLWETHER_POLL polls BW_FOLD every 2 s, and
BELLWETHER_TIMEOUT ends it after 60 s. FLOCK_STATUS: SLOT answers TARGET's slot and puts LEN / 16 slots at DST, PIN answers
the pinfold of FOLD, and SHORTEN cuts the pinfold of a fold that is in it to NEW_S seconds. -/
def Obligations.FlocksAreLearnedAndReported : Prop :=
  (∀ (s : State) (t : Nat), live s = true → memorySafe s → shaped s → let s0 := elapse t s
      (∀ (d : Desc) (b : Bytes) (n : Nat) (x : Slot), serves t d s → isRow 0x38 d = true → p8 d 0 ≤ 2 → p8 d 1 = 0 →
        parNonzero 6 24 d = none → dmaRead d d.srcAddr d.len s = some b → learnForm d b = true → bwFoldOk d = true →
        keyFor (p16 d 2) 1 (fun k => k == 1 || k == 3) s = some (n, x) →
        let blob := learnBlob d b; let tokens := byteAt 7 blob
        let ct := slice 32 (32 * tokens) blob; let iv := slice 12 12 blob; let es := chunks 32 (gcmCrypt x.key iv ct)
        let f := flockOf (leAt 4 3 blob) es
        byteAt 8 blob = fld FLK_FLOCK.NEXT s → (p8 d 0 = 1 → learnSigOk b s = true) →
        gcmTag x.key iv (blob.take 32) ct = blob.drop (32 + 32 * tokens) → entryBad es = none →
        (p8 d 0 = 0 → freshBell s0 = none →
          ∃ s', exec (.flockLearn t d) s = .next s' ∧ fld FLK_STATUS.BW_WAIT s' = 1 ∧ fld FLK_STATUS.LEARN_BUSY s' = 1 ∧
            settles { atWork d s0 with
              regs := s'.regs
              flk := { s.flk with
                staged := some f, learn := some { d := d, flock := f, since := now s0, nextPoll := now s0 } } } s' ∧
            keepsRegs [FLK_STATUS.reg] s s') ∧
        (∀ bw, (p8 d 0 = 0 → freshBell s0 = some bw) → (p8 d 0 ≠ 0 → bw = 0xFF) → s.nv.ledgerReady = true →
          s.nv.wornRecs = [] → s.nv.worn = [] → (tally 252 s).isSome = true → tallyVal 252 s < tallyMax →
          triggerWaits s = false →
          let g := { f with tag := tallyVal 252 s + 1 }
          ∃ s1 s', exec (.flockLearn t d) s = .next s' ∧
            answers d stOk (learnResult d (f.slots.countP (·.isSome)) bw 0xFF s1) 0 s1 s' ∧
            recordsOnly [252] [FLK_STATUS.reg, FLK_FLOCK.reg, FLK_VID.reg, FLK_DRIVER.reg, CRY_PKE_CNT.reg, NVS_TALLY_CNT.reg]
              { s0 with
                flk := { s.flk with
                  flock := some g, staged := none, pend := none, learn := none, perm := none, bell := none }
                nv := { s0.nv with recs := s1.nv.recs, twins := s1.nv.twins } } s1 ∧
            tallyVal 252 s' = tallyVal 252 s + 1 ∧ fld FLK_FLOCK.EPOCH s' = (tallyVal 252 s + 1) % 256 ∧
            fld FLK_VID.VID s' = leAt 4 3 blob ∧ fld FLK_STATUS.LEARN_BUSY s' = 0 ∧ fld FLK_STATUS.FLOCK_VALID s' = 1 ∧
            (flockBank g.tag s').isSome = true)) ∧
      (∀ l : Learn, s.flk.learn = some l →
        (s.pwr.st = .run → p16 l.d 4 ≠ 0xFFFF → l.nextPoll ≤ now s0 → now s0 ≤ l.since + secTicks 60 →
          let b := bellDesc l s
          isFlying b s = false → check119 b s = none → targetRetired b s = false → lfDepth s < 16 → s.lf.wait = [] →
          let s1 := { s0 with
            flk := { s.flk with learn := some { l with nextPoll := l.nextPoll + secTicks 2 } }
            hif := { s.hif with dispNo := s.hif.dispNo + 1 } }
          ∃ s', exec (.bellwetherPoll t) s = .next s' ∧
            settles { atWork b s1 with
              lf := { s.lf with nextNo := s.lf.nextNo + 1, queue := s.lf.queue ++ [hostReq .poll b 4 0 2 s0] } } s') ∧
        (l.since + secTicks 60 ≤ now s0 → heard l.d s0 = true →
          ∃ s1 s', exec (.bellwetherTimeout t) s = .next s' ∧
            answers l.d stNoResponse (learnResult l.d 0 0xFF 0xFF s) 0 s1 s' ∧
            s1 = { s0 with regs := s1.regs, flk := { s.flk with staged := none, learn := none } } ∧
            fld FLK_STATUS.LEARN_BUSY s1 = 0 ∧ fld FLK_STATUS.BW_WAIT s1 = 0 ∧ keepsRegs [FLK_STATUS.reg] s s1))) ∧
  (∀ (s : State) (t : Nat) (d : Desc), serves t d s → let s0 := elapse t s
      (isMode 0x39 0 d = true → parNonzero 1 24 d = none →
        let out := ((List.range (d.len / 16)).map (fun i => flockSlotResult (d.target + i) s ++ [0, 0])).flatten
        dmaBlocked d d.dstAddr out.length s = false →
        ∃ s', exec (.flockStatusSlot t d) s = .next s' ∧
          answers d stOk (flockSlotResult d.target s) 0 (dmaWrite d d.dstAddr out s0) s') ∧
      (d.target = 0 → s.fold.live.defined (p8 d 1) = true →
        (isMode 0x39 1 d = true → parNonzero 2 24 d = none →
          ∃ s', exec (.flockStatusPin t d) s = .next s' ∧ answers d stOk (pinResult (p8 d 1) s) 0 s0 s') ∧
        (isMode 0x39 2 d = true → p32 d 2 ≤ 2880 → p8 d 6 ≤ 1 → parNonzero 7 24 d = none →
          ((pruned s).find? (fun e => e.fold = p8 d 1) = none →
            ∃ s', exec (.flockStatusShorten t d) s = .next s' ∧ answers d stOk (pinResult (p8 d 1) s) 0 s0 s') ∧
          (∀ (e : PinEntry) (x : Nat), s.nv.ledgerReady = true → (pruned s).find? (fun e => e.fold = p8 d 1) = some e →
            e.till = some x → 0 < p32 d 2 → ptime s + p32 d 2 < x → p8 d 6 = 0 →
            ∃ s1 s', exec (.flockStatusShorten t d) s = .next s' ∧ answers d stOk (pinResult (p8 d 1) s1) 0 s1 s' ∧
              recordsOnly [253] [NVS_TALLY_CNT.reg]
                { s0 with
                  flk := { s.flk with track := s1.flk.track, pinRecAt := ptime s }
                  nv := { s0.nv with recs := s1.nv.recs, twins := s1.nv.twins } } s1 ∧
              s1.flk.track = (pruned s).map (fun y => if y.fold = e.fold then { e with till := some (ptime s + p32 d 2) } else y)))))

/-- Pinfold: PTIME_ADVANCE credits a second every 38,400,000 ticks; PINFOLD_EXPIRY ends every engagement whose end PTIME
has reached and remembers that it ended; both it and PINFOLD_RECORD_PERIODIC, every 10 s of PTIME, count counter 253 and
store the tracker with its new value. -/
def Obligations.PinfoldExpiresAndIsStored : Prop :=
  ∀ (s : State) (t : Nat), live s = true → memorySafe s → shaped s → let s0 := elapse t s
    let stores (l : List PinEntry) (s' : State) : Prop :=
      recordsOnly [253] [NVS_TALLY_CNT.reg]
        { s0 with
          flk := { s.flk with track := l, pinRecAt := ptime s }
          nv := { s0.nv with recs := s'.nv.recs, twins := s'.nv.twins } } s' ∧
      (∀ id, id ≠ recPin → recGet id s' = recGet id s) ∧
      (s.nv.wornRecs = [] → s.nv.worn = [] → (tally 253 s).isSome = true → tallyVal 253 s < tallyMax →
        tallyVal 253 s' = tallyVal 253 s + 1 ∧
        recRead recPin s' = some (leBytes 4 (ptime s) ++ leBytes 6 (tallyVal 253 s + 1) ++ [byteOf l.length, 0]
          ++ (l.map pinEntryBytes).flatten))
    let due (e : PinEntry) : Bool := match e.till with | some x => decide (x ≤ ptime s) | none => false
    let ended (e : PinEntry) : PinEntry :=
      if due e then { e with till := none, ended := e.level.map (fun _ => ptime s) } else e
    (s.flk.ptimeAt + secTicks 1 ≤ now s0 →
      ∃ s', exec (.ptimeAdvance t) s = .next s' ∧ fld FLK_PTIME.PTIME s' = (fld FLK_PTIME.PTIME s + 1) % 2 ^ 32 ∧
        settles { s0 with regs := s'.regs, flk := { s.flk with ptimeAt := s.flk.ptimeAt + secTicks 1 } } s' ∧
        keepsRegs [FLK_PTIME.reg] s s') ∧
    (now s0 < s.flk.ptimeAt + secTicks 1 → ∃ s', exec (.ptimeAdvance t) s = .next s' ∧ settles s0 s') ∧
    (s.nv.ledgerReady = true → s.flk.track.any due = true → (s.flk.track.map (·.fold)).Nodup →
      ∃ s', exec (.pinfoldExpiry t) s = .next s' ∧
        stores ((s.flk.track.map ended).filter (fun e => e.kept (ptime s))) s') ∧
    (s.flk.track.any due = false → ∃ s', exec (.pinfoldExpiry t) s = .next s' ∧ settles s0 s') ∧
    (s.nv.ledgerReady = true → pruned s ≠ [] → s.flk.pinRecAt + 10 ≤ ptime s →
      ∃ s', exec (.pinfoldRecordPeriodic t) s = .next s' ∧ stores (pruned s) s')

/-! ## Start permission and immobiliser -/

/-- The pairing. IMMO_PAIR of a blob that passes its checks sends PROBE with a fresh nonce on the new BASE + 1 and waits, or with
NOPROBE, in Blank and Provisioned, puts the pairing in force at once; a good PROBE_ANS within 200 ms puts it in force, a
wrong one is MAC_FAIL, none (PROBE_ANS_TIMEOUT) is NO_RESPONSE, and both leave the pairing as it was. Drover's steps
IMMO_PAIR_STEP_CMAC, IMMO_PAIR_STEP_PROBE and IMMO_PAIR_STEP_INSTALL do each part alone. -/
def Obligations.ImmobiliserIsPaired : Prop :=
  ∀ (s : State) (t : Nat), live s = true → memorySafe s → shaped s → s.nv.ledgerReady = true → let s0 := elapse t s
    let installs (s0 : State) (d : Desc) (probed : Bool) (p : Pairing) (s' : State) : Prop :=
      ∃ s1, answers d stOk (pairResult probed p) 0 s1 s' ∧
        recordsOnly [] [FLK_ECU_BASE.reg, FLK_STATUS.reg]
          { s0 with
            flk := { s.flk with stage := none, pair := some p }
            nv := { s0.nv with recs := s1.nv.recs, twins := s1.nv.twins } } s1 ∧
        recRead recPair s' = some (pairBytes p) ∧ (∀ id, id ≠ recPair → recGet id s' = recGet id s) ∧
        fld FLK_ECU_BASE.BASE s' = p.base % 2 ^ 29 ∧ fld FLK_ECU_BASE.PAIRED s' = 1
    let sends : Prop := drawFails s = none ∧ canOn s = true ∧ busOff s = false ∧ s.flk.txq.length < 8
    let probes (d : Desc) (g : PairStage) (s' : State) : Prop :=
      settles { atWork d s0 with
        free := s.free + 8, regs := s'.regs
        flk := { s.flk with
          stage := some { g with probe := some (leNat (freeBytes 8 s0), now s0) }
          canOut := { id := g.pair.base + 1, xtd := g.pair.xtd, data := [0x13, 0, 0, 0, 0, 0, 0, 0] ++ freeBytes 8 s0 }
            :: s.flk.canOut } } s' ∧
      keepsRegs [RNG_REQ_CNT.reg, RNG_STATUS.reg] s s'
    let drops (s0 : State) (d : Desc) (st : Nat) (s' : State) : Prop :=
      ∃ s1, answers d st [] 0 s1 s' ∧
        recordsOnly [] [CRY_CNT1.reg] { s0 with flk := { s.flk with stage := none } } s1
    (∀ d b n x k, serves t d s → isRow 0x3A d = true → p8 d 0 ≤ 1 → p8 d 1 = 0 → parNonzero 4 24 d = none →
      dmaRead d d.srcAddr 56 s = some b → pairBlobOk b = true → keyFor (p16 d 2) 3 isAes s = some (n, x) →
      kwUnwrap x.key (slice 16 24 b) = some k → cmac k (b.take 40) = slice 40 16 b →
      let p := pairOfBlob b k
      (p8 d 0 = 1 → lcState s ≤ 1 → recFails recPair s = false →
        ∃ s', exec (.immoPair t d) s = .next s' ∧ installs s0 d false p s') ∧
      (p8 d 0 = 0 → sends → ∃ s', exec (.immoPair t d) s = .next s' ∧
        probes d { d := some d, pair := p, checked := true, probe := none, probed := false } s')) ∧
    (∀ d g, serves t d s → isMode 0x3A 0x80 d = true → d.src = .drover → workingOn 0x3A s = true →
      parNonzero 4 24 d = none → s.flk.stage = some g →
      (∀ b, p8 d 1 = 1 → dmaRead d d.srcAddr 56 s = some b → pairBlobOk b = true →
        (cmac g.pair.key (b.take 40) = slice 40 16 b →
          ∃ s', exec (.immoPairStepCmac t d) s = .next s' ∧ answers d stOk [] 0
            { s0 with
              flk := { s.flk with stage := some { g with pair := pairOfBlob b g.pair.key, checked := true } } } s') ∧
        (cmac g.pair.key (b.take 40) ≠ slice 40 16 b →
          ∃ s', exec (.immoPairStepCmac t d) s = .next s' ∧ drops s0 d stMacFail s')) ∧
      (p8 d 1 = 2 → g.checked = true → sends →
        ∃ s', exec (.immoPairStepProbe t d) s = .next s' ∧ probes d { g with d := some d } s') ∧
      (p8 d 1 = 3 → g.checked = true → g.probed = true → recFails recPair s = false →
        ∃ s', exec (.immoPairStepInstall t d) s = .next s' ∧ installs s0 d true g.pair s') ∧
      (p8 d 1 = 3 → g.checked = true → g.probed = false → (droverWork s).any (fun w => p8 w 0 == 1) = false →
        ∃ s', exec (.immoPairStepInstall t d) s = .next s' ∧ answers d stNoResponse [] 0 s0 s')) ∧
    (∀ d g n at0, s.flk.stage = some g → g.probe = some (n, at0) → g.d = some d → heard d s0 = true →
      (∀ f, canOn s = true → probeFrame f s = true → now s0 ≤ at0 + msTicks 200 →
        let good := slice 8 8 f.data == pairMac g.pair.key ([0x14] ++ leBytes 8 n ++ vidBytes s)
        (good = true → bit 7 (p8 d 0) = true →
          ∃ s', exec (.probeAnsFrame t f) s = .next s' ∧ answers d stOk [] 0
            { frameEnds s0 with flk := { s.flk with stage := some { g with d := none, probe := none, probed := true } } } s') ∧
        (good = true → bit 7 (p8 d 0) = false → recFails recPair s = false →
          ∃ s', exec (.probeAnsFrame t f) s = .next s' ∧ installs (frameEnds s0) d true g.pair s') ∧
        (good = false → ∃ s', exec (.probeAnsFrame t f) s = .next s' ∧ drops (frameEnds s0) d stMacFail s')) ∧
      (at0 + msTicks 200 ≤ now s0 → ∃ s', exec (.probeAnsTimeout t) s = .next s' ∧ drops s0 d stNoResponse s'))

/-- The immobiliser's frames: a valid CHALLENGE is answered with STATE, the driver of record and their MAC, and its ECNT is
the last; a frame of the block that breaks the protocol counts, is answered with NAK and recorded, and the sixteenth in a
second starts a silence; while silent it only counts; ECU_SILENCE_END ends the silence; recovery from bus-off clears the
error counters and sends what waited. -/
def Obligations.EcuIsAnswered : Prop :=
  ∀ (s : State) (t : Nat) (p : Pairing), live s = true → memorySafe s → shaped s → s.nv.ledgerReady = true →
    let s0 := elapse t s; let s2 := frameEnds s0
    (∀ f, s.flk.pair = some p → canOn s = true → busOff s = false → s.flk.txq.length < 8 → inBlock f p = true →
      let ecnt := leAt 4 4 f.data; let w := idWord f.id f.xtd
      let h := [0x12, byteOf (respState s), byteOf (fld FLK_DRIVER.DOR s), 0] ++ leBytes 4 ecnt
      (violReason f p s = none → byteAt 0 f.data = 0x11 → s.flk.silent = none → recFails recPair s = false →
        ∃ s', exec (.ecuChallenge t f) s = .next s' ∧
          recordsOnly [] [FLK_ECU_CNT0.reg]
            { s2 with
              flk := { s.flk with
                pair := some { p with lastEcnt := ecnt }
                canOut := { id := p.base + 1, xtd := p.xtd, data := h ++ pairMac p.key (h ++ slice 8 8 f.data ++ vidBytes s) }
                  :: s.flk.canOut }
              nv := { s0.nv with recs := s'.nv.recs, twins := s'.nv.twins } } s' ∧
          fld FLK_ECU_CNT0.ANSWERED s' = sat 16 (fld FLK_ECU_CNT0.ANSWERED s + 1) ∧
          recRead recPair s' = some (pairBytes { p with lastEcnt := ecnt })) ∧
      (∀ r, violReason f p s = some r →
        (ecuSilent s0 = s.flk.silent.isSome → ∃ s', exec (.ecuChallenge t f) s = .next s' ∧ settles s2 s') ∧
        (s.flk.silent = none →
          ∃ s', exec (.ecuViolation t f) s = .next s' ∧
            recordsOnly [] [FLK_ECU_CNT1.reg, FLK_STATUS.reg]
              { s2 with
                flk := { s.flk with
                  viols := recentViols s0 ++ [now s0]
                  silent := if (recentViols s0).length < 15 then none else some (now s0 + secTicks 1, [], 0)
                  canOut := { id := p.base + 3, xtd := p.xtd, data := [0x1F, byteOf r, 0, 0] ++ leBytes 4 w }
                    :: s.flk.canOut } } s' ∧
            fld FLK_ECU_CNT1.VIOL s' = sat 16 (fld FLK_ECU_CNT1.VIOL s + 1) ∧
            ((recentViols s0).length < 15 → regGet FLK_STATUS.reg s' = regGet FLK_STATUS.reg s) ∧
            (15 ≤ (recentViols s0).length → fld FLK_STATUS.ECU_SILENT s' = 1 ∧
              fld FLK_ECU_CNT1.SILENCES s' = sat FLK_ECU_CNT1.SILENCES.width (fld FLK_ECU_CNT1.SILENCES s + 1))) ∧
        (∀ e l k, s.flk.silent = some (e, l, k) → now s0 < e →
          ∃ s', exec (.ecuViolation t f) s = .next s' ∧
            settles { s2 with
              regs := s'.regs, flk := { s.flk with viols := recentViols s0 ++ [now s0], silent := some (e, l, k + 1) } } s' ∧
            fld FLK_ECU_CNT1.VIOL s' = sat 16 (fld FLK_ECU_CNT1.VIOL s + 1) ∧ keepsRegs [FLK_ECU_CNT1.reg] s s'))) ∧
    (∀ e l k, s.flk.silent = some (e, l, k) → e ≤ now s0 → k < 16 →
      ∃ s', exec (.ecuSilenceEnd t) s = .next s' ∧
        recordsOnly [] [FLK_STATUS.reg] { s0 with flk := { s.flk with silent := none } } s' ∧
        fld FLK_STATUS.ECU_SILENT s' = 0) ∧
    (∀ e l k, s.flk.silent = some (e, l, k) → now s0 < e →
      ∃ s', exec (.ecuSilenceEnd t) s = .next s' ∧ settles s0 s') ∧
    (busOff s = true → islandOn .can s = true → flag FLK_CAN_CFG.EN s = true →
      ∃ s', exec (.canBusOffRecovery t) s = .next s' ∧ fld FLK_CAN_STAT.STATE s' = 0 ∧ fld FLK_CAN_STAT.TEC s' = 0 ∧
        fld FLK_CAN_STAT.REC s' = 0 ∧ keepsRegs [FLK_CAN_STAT.reg] s s' ∧
        settles { s0 with
          regs := s'.regs, flk := { s.flk with canOut := s.flk.txq.reverse ++ s.flk.canOut, txq := [] } } s')

/-! ## Random numbers -/

/-- RNG_GET answers at once what it may: no bytes for LEN 0, HEALTH_FAIL when latched, and in Ready LEN bytes of the
generator, or of the test pattern for a raw request while it is active; prediction resistance reseeds first, from a full
pool; every other request waits. RNG_STAT answers the report with the source's counts. -/
def Obligations.RandomBytesAreDrawn : Prop :=
  ∀ (s : State) (t : Nat) (d : Desc), serves t d s → let s0 := elapse t s
    (isRow 0x48 d = true → p8 d 0 ≤ 3 → parNonzero 1 24 d = none →
      (d.len = 0 → ∃ s', exec (.rngGet t d) s = .next s' ∧ answers d stOk (getResult d 0 false (now s0) s0) 0 s0 s') ∧
      (d.len ≠ 0 → rngState s = 4 →
        ∃ s', exec (.rngGet t d) s = .next s' ∧ answers d stHealth (getResult d 0 false (now s0) s0) 0 s0 s') ∧
      (d.len ≠ 0 → rngState s = 2 → needsPool d s = false →
        let pr := bit 0 (p8 d 0) || decide (fld RNG_REQ_CNT.SINCE_RESEED s ≥ 69632)
        let raw := bit 1 (p8 d 0) && flag RNG_STATUS.TEST_ACTIVE s
        ∀ out, (raw = false → out = freeBytes d.len s0) →
        (raw = true → out = patternBytes (leNat (freeBytes 1 s0)) d.len s) → dmaBlocked d d.dstAddr d.len s = false →
        ∃ s1 s', exec (.rngGet t d) s = .next s' ∧
          answers d stOk (getResult d d.len pr (now s0) s1) 0 (dmaWrite d d.dstAddr out s1) s' ∧
          s1 = { s0 with regs := s1.regs, free := s.free + (if raw then 1 else d.len) } ∧
          (pr = true → fld RNG_RESEED_CNT.RESEEDS s1 = sat RNG_RESEED_CNT.RESEEDS.width (fld RNG_RESEED_CNT.RESEEDS s + 1) ∧
            fld RNG_STATUS.POOL_FULL s1 = 0 ∧ fld RNG_REQ_CNT.SINCE_RESEED s1 = 1) ∧
          (pr = false → fld RNG_REQ_CNT.SINCE_RESEED s1 = min (fld RNG_REQ_CNT.SINCE_RESEED s + 1) 69632) ∧
          keepsRegs [RNG_REQ_CNT.reg, RNG_STATUS.reg, RNG_RESEED_CNT.reg] s s1) ∧
      (d.len ≠ 0 → rngState s ≠ 4 → rngState s ≠ 2 ∨ needsPool d s = true →
        ∃ s', exec (.rngGet t d) s = .next s' ∧
          settles { atWork d s0 with rng := { s.rng with wait := s.rng.wait ++ [(d, now s0)] } } s')) ∧
    (∀ o : RngObs, isRow 0x49 d = true → parNonzero 0 24 d = none → d.len ≤ 64 →
      ∃ s1, s1 = { s0 with regs := s1.regs, rng := { s.rng with tested := o.tested, rctMax := o.rctMax } } ∧
        fld RNG_EST2.APT_MAX s1 = min o.aptMax 1024 ∧ keepsRegs [RNG_EST2.reg] s s1 ∧
        (dmaBlocked d d.dstAddr d.len s = false →
          ∃ s', exec (.rngStat t d o) s = .next s' ∧
            answers d stOk ((rngReport s1).take 14) 0 (dmaWrite d d.dstAddr ((rngReport s1).take d.len) s1) s'))

/-! ## MRAM -/

/-- NV_READ copies a host record, its newest valid copy, or a range of the array, to DST; before an uncorrectable word it
stops with NV_ECC_UNCORR. TALLY_READ answers a counter with its slot; a counter with no valid cell is lost. NV_WRITE stores
SRC: in a host record as its new newest copy with the next SEQ, or in the scratch region; and from Drover's work
NV_WRITE_FW_CHUNK stores it in a firmware bank, NV_WRITE_OTP in the OTP field, and NV_WRITE_DEVICE_RECORD in a device record
that the work owns; with LEN 0 it completes once everything before it is in MRAM.
Every other byte of the array stays. -/
def Obligations.NvIsReadAndWritten : Prop :=
  (∀ (s : State) (t : Nat) (d : Desc), serves t d s → let s0 := elapse t s
      (isRow 0x50 d = true → parNonzero 4 24 d = none →
        (∀ (k : Nat) (c : Copy), d.target < 0x40 → d.len ≤ 1008 → p32 d 0 = 0 → (hostCopy d.target 0 s).isSome = true →
          (hostCopy d.target 1 s).isSome = true → (hostRec d.target s).twin = false →
          (hostRec d.target s).pick = some k → (hostRec d.target s).newest = some c →
          dmaBlocked d d.dstAddr (c.data.take d.len).length s = false →
          ∃ s1 s', exec (.nvRead t d) s = .next s' ∧
            answers d stOk (nvResult (c.data.take d.len).length c.seq k (8 * b2n (copyCorrected d.target k c.data.length s))
              c.data.length) 0 (dmaWrite d d.dstAddr (c.data.take d.len) s1) s' ∧
            s1 = { s0 with regs := s1.regs, nv := { s0.nv with checked := s1.nv.checked } } ∧
            keepsRegs [NVS_ECC_CNT.reg, NVS_ERR_ADDR.reg] s s1) ∧
        (∀ a, d.target = 0x100 ∧ d.len ≤ 65536 ∧ a = 0x120000 + p32 d 0 ∧ p32 d 0 + d.len ≤ 262144 ∨
            d.target = 0x200 ∧ d.len ≤ 1048576 ∧ a = p32 d 0 ∧ 0x200000 ≤ a ∧ a + d.len ≤ ledgerEnd s.part ∧
              (s.nv.ledgerReady = true ∨ a + d.len ≤ 0x400000) →
          let n := match badWord a d.len s with | some w => w - a | none => d.len
          dmaBlocked d d.dstAddr n s = false →
          ∃ s1 s', exec (.nvRead t d) s = .next s' ∧
            answers d (if (badWord a d.len s).isSome then stEcc else stOk)
              (nvResult n 0 0xFF (8 * b2n ((wordsOf a n).any (fun w => s.nv.soft.contains w))) 0) 0
              (dmaWrite d d.dstAddr (nvPeek a n s) s1) s' ∧
            s1 = { s0 with regs := s1.regs } ∧ keepsRegs [NVS_ECC_CNT.reg, NVS_ERR_ADDR.reg] s s1)) ∧
      (isRow 0x53 d = true → parNonzero 0 24 d = none → let n := (validCells d.target s).length
        (∀ v slot, tally d.target s = some (v, slot) →
          ∃ s1 s', exec (.tallyRead t d) s = .next s' ∧
            answers d stOk (leBytes 6 v ++ [byteOf slot, byteOf n, byteOf (b2n (v == tallyMax))]) 0 s1 s' ∧
            s1 = { s0 with regs := s1.regs } ∧ keepsRegs [NVS_TALLY_CNT.reg] s s1 ∧
            fld NVS_TALLY_CNT.INVALID s1 = sat NVS_TALLY_CNT.INVALID.width (fld NVS_TALLY_CNT.INVALID s + (32 - n))) ∧
        (tally d.target s = none → s.nv.ledgerReady = true →
          ∃ s1 s', exec (.tallyRead t d) s = .next s' ∧ answers d stEcc (leBytes 6 0 ++ [0xFF, 0, 0]) 0 s1 s' ∧
            recordsOnly [] [NVS_TALLY_CNT.reg] s0 s1))) ∧
  (∀ (s : State) (t : Nat) (d : Desc) (b : Bytes), serves t d s → isRow 0x51 d = true → parNonzero 4 24 d = none →
      s.nv.worn = [] → dmaRead d d.srcAddr d.len s = some b → let s0 := elapse t s
      let puts (a : Nat) (s' : State) : Prop :=
        ∃ s1, answers d stOk (nvResult b.length 0 0xFF (b2n (rewrites a b.length s)) 0) 0 s1 s' ∧
          s1 = { s0 with
            nv := { s0.nv with
              mem := s1.nv.mem, bad := s1.nv.bad, soft := s1.nv.soft, weak := s1.nv.weak, buf := s1.nv.buf } } ∧
          nvPeek a d.len s' = b ∧ badWord a d.len s' = none ∧
          (∀ x, x < a ∨ a + d.len ≤ x → mget nvDflt s'.nv.mem x = mget nvDflt s.nv.mem x)
      (d.len = 0 → d.target < 0x40 ∧ p32 d 0 = 0 ∨ d.target = 0x100 ∧ p32 d 0 ≤ 262144 →
        ∃ s', exec (.nvWrite t d) s = .next s' ∧ answers d stOk (nvResult 0 0 0xFF 0 0) 0 s0 s') ∧
      (0 < d.len → d.len ≤ 1008 → d.target < 0x40 → p32 d 0 = 0 →
        ∃ k q again s1 s', exec (.nvWrite t d) s = .next s' ∧
          answers d stOk (nvResult d.len q k (b2n again) 0) 0 s1 s' ∧ (s.nv.weak = [] → again = false) ∧
          (hostRec d.target s').newest = some ⟨q, b⟩ ∧ (hostRec d.target s').pick = some k ∧
          q = (hostRec d.target s).nextSeq ∧ s1 = { s0 with regs := s1.regs, nv := s1.nv } ∧ s1.nv.recs = s.nv.recs ∧
          (∀ x, x < hostRecAddr d.target 0 ∨ hostRecAddr d.target 0 + 0x800 ≤ x →
            mget nvDflt s'.nv.mem x = mget nvDflt s.nv.mem x) ∧ keepsRegs [NVS_REC_CNT.reg, NVS_STATUS.reg] s s1) ∧
      (0 < d.len → d.len ≤ 65536 → d.target = 0x100 → p32 d 0 + d.len ≤ 262144 →
        ∃ s', exec (.nvWrite t d) s = .next s' ∧ puts (0x120000 + p32 d 0) s') ∧
      (d.src = .drover →
        (∀ w, d.target = 0x210 ∨ d.target = 0x211 → droverWork s = some w → w.opcode = 0x68 →
          w.target = d.target - 0x210 → lenIn 16 16 65536 false d.len = true → p32 d 0 + d.len ≤ 0x100000 →
          ∃ s', exec (.nvWriteFwChunk t d) s = .next s' ∧
            puts (0x200000 + 0x100000 * (d.target - 0x210) + p32 d 0) s') ∧
        (∀ w, d.target = 0x300 → droverWork s = some w → w.opcode = 0x6A → p8 w 0 = 3 → d.len = 4 → p32 d 0 = 0 →
          s.lcy.otp = 0 → 14 ≤ byteAt 0 b → byteAt 0 b ≤ 21 → allZero (b.drop 1) = true →
          ∃ s', exec (.nvWriteOtp t d) s = .next s' ∧
            answers d stOk (nvResult 4 0 0xFF 0 0) 0 { s0 with lcy := { s.lcy with otp := byteAt 0 b } } s') ∧
        (∀ id, id = d.target - 0x400 → 0x500 ≤ d.target → d.target ≤ 0x13FF → ownsRecord id s = true → 0 < d.len → d.len ≤ 4064 → p32 d 0 = 0 →
          recFails id s = false →
          ∃ s1 s', exec (.nvWriteDeviceRecord t d) s = .next s' ∧
            answers d stOk (nvResult d.len (recGet id s).nextSeq (recGet id s).writeTo 0 0) 0 s1 s' ∧
            s1 = { s0 with nv := { s0.nv with recs := s1.nv.recs, twins := s1.nv.twins, buf := s1.nv.buf } } ∧
            recRead id s' = some b ∧ ∀ i, i ≠ id → recGet i s' = recGet i s)))

/-- TALLY_INC adds N, or 1 for N 0, up to 2^48 − 1, in the cell after the current one; every other counter stays; one at
2^48 − 1 answers TALLY_SAT and stays. SCRUB_PASS, in Run, with the NVS idle and SCRUB_H hours after the last, counts the
corrected words below the Ledger region and rewrites them, so that the array reads as before; VHOLD_MEASURE, once a second,
shows the
hold-up voltage, and that it is low when it lies 0.3 V or more below VAON. -/
def Obligations.TalliesAndArrayAreKept : Prop :=
  (∀ (s : State) (t : Nat) (d : Desc) (v slot : Nat), serves t d s → isRow 0x52 d = true → d.target < 256 →
      incAllowed d s = true → parNonzero 2 24 d = none → incStart d.target (elapse t s) = now (elapse t s) →
      tally d.target s = some (v, slot) → let s0 := elapse t s; let n := if p16 d 0 = 0 then 1 else p16 d 0
      (v < tallyMax → s.nv.worn = [] →
        ∃ s1 s', exec (.tallyInc t d) s = .next s' ∧
          answers d stOk (incResult (min (v + n) tallyMax) ((slot + 1) % 32)
            (b2n (decide (v + n > tallyMax)) + 2 * b2n (rewrites (cellAddr d.target ((slot + 1) % 32)) 8 s))) 0 s1 s' ∧
          tally d.target s' = some (min (v + n) tallyMax, (slot + 1) % 32) ∧
          (∀ c < 256, c ≠ d.target → tally c s' = tally c s) ∧
          (∀ a, a / 256 ≠ d.target → mget nvDflt s'.nv.mem a = mget nvDflt s.nv.mem a) ∧
          s1 = { s0 with regs := s1.regs, nv := s1.nv } ∧ s1.nv.recs = s.nv.recs ∧
          fld NVS_TALLY_CNT.INC s1 = sat NVS_TALLY_CNT.INC.width (fld NVS_TALLY_CNT.INC s + 1) ∧
          keepsRegs [NVS_TALLY_CNT.reg] s s1) ∧
      (v = tallyMax →
        ∃ s1 s', exec (.tallyInc t d) s = .next s' ∧ answers d stTallySat (incResult tallyMax 0xFF 0) 0 s1 s' ∧
          tally d.target s' = some (v, slot) ∧ s'.nv.mem = s.nv.mem ∧
          s1 = { s0 with regs := s1.regs, nv := { s0.nv with incAt := s1.nv.incAt } } ∧ keepsRegs [NVS_TALLY_CNT.reg] s s1)) ∧
  (∀ (s : State) (t : Nat), live s = true → memorySafe s → shaped s → let s0 := elapse t s
      (flag NVS_CTL.SCRUB_EN s = true → s.pwr.st = .run → s0.nv.buf = [] → s.nv.worn = [] →
        s.nv.scrubEnd + secTicks (3600 * fld NVS_CTL.SCRUB_H s) ≤ now s0 →
        ∃ s', exec (.scrubPass t) s = .next s' ∧ settles { s0 with regs := s'.regs, nv := s'.nv } s' ∧
          (∀ a, mget nvDflt s'.nv.mem a = mget nvDflt s.nv.mem a) ∧ s'.nv.recs = s.nv.recs ∧
          s'.nv.soft = s.nv.soft.filter (fun a => !scrubbed a) ∧ s'.nv.scrubEnd = now s0 ∧
          fld NVS_ECC_CNT.CORR s' = sat NVS_ECC_CNT.CORR.width (fld NVS_ECC_CNT.CORR s + (s.nv.soft.filter scrubbed).length) ∧
          keepsRegs [NVS_ECC_CNT.reg, NVS_ERR_ADDR.reg] s s') ∧
      (∀ vhold vaon : Nat, islandOn .nvs s = true → holdDue s0 = true → s.nv.ledgerReady = true →
        ∃ s', exec (.vholdMeasure t vhold vaon) s = .next s' ∧
          recordsOnly [] [NVS_HOLD.reg, NVS_STATUS.reg]
            { s0 with nv := { s0.nv with holdWasLow := decide (vhold + 30 < vaon), holdAt := some (now s0) } } s' ∧
          fld NVS_HOLD.HOLD_CV s' = min vhold 511 ∧ fld NVS_STATUS.HOLD_LOW s' = b2n (decide (vhold + 30 < vaon)) ∧
          (vaon ≤ vhold + 30 ∨ s.nv.holdWasLow = true →
            s'.lgr = s.lgr ∧ s'.hif = s.hif ∧ s'.nv.mem = s.nv.mem ∧ keepsRegs [NVS_HOLD.reg, NVS_STATUS.reg] s s')))

/-! ## Ledger -/

/-- LEDGER_APPEND of well-formed entries: with room in the open block they stand in its next slots, with their slot
substituted and their time from its base; without an open block, and with space, the next block is opened; without space
the append is LEDGER_FULL and nothing is written; during recall it takes a place of the buffer, or waits for one. -/
def Obligations.HostRecordsAreAppended : Prop :=
  ∀ (s : State) (t : Nat) (d : Desc) (b : Bytes), serves t d s → isRow 0x58 d = true → p8 d 0 = 0 →
    parNonzero 1 24 d = none → dmaRead d d.srcAddr d.len s = some b → badEntry b = none → 8 ≤ d.len → d.len % 8 = 0 →
    s.lgr.lost = 0 → (∀ m ∈ s.lgr.marks, m.1 ≠ now (elapse t s)) → let s0 := elapse t s; let wall := s0.clk.wall.toNat
    let es := chunks 8 b; let n := es.length
    let unresolved := es.any (fun e => (byteAt 1 e == 0xFE || byteAt 1 e == 0xFD) && entrySlot e s == 0xFF)
    let stands (a base k : Nat) (s' : State) : Prop := ∀ i e, es[i]? = some e →
      nvPeek (a + 8 + 8 * (k + i)) 8 s'
        = recordBytes (byteAt 0 e) (entrySlot e s) (timeDelta wall base).toNat (leAt 2 3 e)
    (∀ k, s.nv.ledgerReady = true → s.nv.worn = [] → s.lgr.openRecs = some k → k + n < 6 → 2 ≤ s.lgr.next →
      needsNewBase wall s = false → let q := s.lgr.next - 1; let a := blockAddr q s
      ∃ s1 s', exec (.ledgerAppend t d) s = .next s' ∧
        answers d stOk (leBytes 4 q ++ [byteOf k, byteOf n] ++ leBytes 4 q
          ++ [byteOf (k + n - 1), byteOf (2 * b2n unresolved)]) 0 s1 s' ∧
        s1 = { s0 with
          regs := s1.regs, nv := s1.nv
          lgr := { s.lgr with
            openRecs := some (k + n), marks := s1.lgr.marks, placed := s1.lgr.placed, evt := flag LGR_CTL.EVT s
            fullWarn := fld LGR_CTL.FULL_WARN s, sealS := fld LGR_CTL.SEAL_S s } } ∧
        s1.nv.recs = s.nv.recs ∧ stands a (leAt 4 4 (nvPeek a 8 s)) k s' ∧
        (∀ x, x < a + 8 + 8 * k ∨ a + 8 + 8 * (k + n) ≤ x → mget nvDflt s'.nv.mem x = mget nvDflt s.nv.mem x) ∧
        fld LGR_CNT0.HOST s1 = sat LGR_CNT0.HOST.width (fld LGR_CNT0.HOST s + n) ∧ keepsRegs [LGR_CNT0.reg] s s1) ∧
    (s.nv.ledgerReady = true → s.nv.worn = [] → s.lgr.openRecs = none → s.lgr.closed = false → 1 ≤ s.lgr.next →
      openAllowed false s = true → d.len = 8 → let q := s.lgr.next; let a := blockAddr q s
      ∃ s1 s', exec (.ledgerAppend t d) s = .next s' ∧
        answers d stOk (leBytes 4 q ++ [0, 1] ++ leBytes 4 q ++ [0, byteOf (2 * b2n unresolved)]) 0 s1 s' ∧
        recordsOnly [] [] s0 s1 ∧ s1.lgr.next = q + 1 ∧ s1.lgr.openRecs = some 1 ∧ s1.lgr.openTb = now s0 ∧
        nvPeek a 8 s' = leBytes 4 q ++ leBytes 4 (wall / 65536) ∧ stands a (wall / 65536 % 2 ^ 32) 0 s') ∧
    (s.nv.ledgerReady = true → s.lgr.openRecs = none → openAllowed false s = false →
      ∃ s1 s', exec (.ledgerAppend t d) s = .next s' ∧ answers d stLedgerFull [] 0 s1 s' ∧
        s1 = { s0 with regs := s1.regs } ∧ fld LGR_STATUS.FULL s1 = 1 ∧
        fld LGR_CNT1.REFUSED s1 = sat LGR_CNT1.REFUSED.width (fld LGR_CNT1.REFUSED s + 1) ∧
        keepsRegs [LGR_STATUS.reg, LGR_CNT1.reg] s s1) ∧
    (s.nv.ledgerReady = false → let b1 := (es.map (resolveEntry s)).flatten
      (s.lgr.buffered.length < 64 → ∃ s', exec (.ledgerAppend t d) s = .next s' ∧
        settles { atWork d s0 with lgr := { s.lgr with buffered := s.lgr.buffered ++ [.host d wall b1] } } s') ∧
      (64 ≤ s.lgr.buffered.length → ∃ s', exec (.ledgerAppend t d) s = .next s' ∧
        settles { atWork d s0 with lgr := { s.lgr with hostWait := s.lgr.hostWait ++ [(d, now s0 + timeoutTicks d 100)] } } s'))

/-- LEDGER_SEAL seals the open block, and LEDGER_SEAL_TIMER does SEAL_S seconds after its first record: PAD records fill its
free slots, its TAG chains it to the block before it, and the last of 4096 blocks makes a checkpoint pending. LEDGER_RELEASE
raises W to a signed and sealed block, stored, and changes nothing for one that W has passed. -/
def Obligations.BlocksAreSealedAndReleased : Prop :=
  ∀ (s : State) (t : Nat), live s = true → memorySafe s → shaped s → s.nv.ledgerReady = true → let s0 := elapse t s
    let q := s.lgr.next - 1
    let isSealed (fl k : Nat) (s1 : State) : Prop :=
      let x := blockBytes q s1
      s1 = { s0 with regs := s1.regs, nv := s1.nv, lgr := s1.lgr } ∧ s1.nv.recs = s.nv.recs ∧
      s1.lgr.openRecs = none ∧ s1.lgr.next = s.lgr.next ∧ s1.lgr.w = s.lgr.w ∧ s1.lgr.signed = s.lgr.signed ∧
      s1.lgr.ckpt = s.lgr.ckpt ++ (if q % 4096 = 0 then [q / 4096 - 1] else []) ∧
      x.take (8 + 8 * k) = (blockBytes q s).take (8 + 8 * k) ∧
      (∀ i, k ≤ i → i < 6 → slice (8 + 8 * i) 8 x = padBytes fl s0.clk.wall.toNat (leAt 4 4 (blockBytes q s))) ∧
      x.drop 56 = chainTag (prevTag q s1) x ∧ keepsRegs [LGR_STATUS.reg] s s1
    (∀ d, serves t d s → isRow 0x5A d = true → parNonzero 0 24 d = none →
      (∀ k, s.lgr.openRecs = some k → k < 6 → 1 ≤ q → q < 0xFFFFFFFF → s.nv.worn = [] →
        ∃ s1 s', exec (.ledgerSeal t d) s = .next s' ∧ isSealed padForced k s1 ∧
          answers d stOk (leBytes 4 q ++ (blockBytes q s1).drop 56 ++ [0]) 0 s1 s') ∧
      (s.lgr.openRecs = none →
        ∃ s', exec (.ledgerSeal t d) s = .next s' ∧ answers d stOk (leBytes 4 q ++ (blockBytes q s).drop 56 ++ [1]) 0 s0 s')) ∧
    (∀ k, s.lgr.openRecs = some k → k < 6 → 1 ≤ q → q < 0xFFFFFFFF → s.nv.worn = [] →
      (s.lgr.openTb + secTicks s.lgr.sealS ≤ now s0 →
        ∃ s1 s', exec (.ledgerSealTimer t) s = .next s' ∧ isSealed padTimed k s1 ∧ settles s1 s') ∧
      (now s0 < s.lgr.openTb + secTicks s.lgr.sealS →
        ∃ s', exec (.ledgerSealTimer t) s = .next s' ∧ settles s0 s')) ∧
    (∀ d, serves t d s → isRow 0x5C d = true → parNonzero 4 24 d = none → let u := p32 d 0
      (u ≤ s.lgr.signed → u ≤ lgrSealed s → s.lgr.w < u → recFails recW s = false →
        ∃ s1 s', exec (.ledgerRelease t d) s = .next s' ∧ answers d stOk (releaseResult false s1) 0 s1 s' ∧
          recordsOnly [] [] { s0 with nv := { s0.nv with recs := s1.nv.recs, twins := s1.nv.twins } } s1 ∧
          s1.lgr.w = u ∧ s1.lgr.signed = s.lgr.signed ∧ recRead recW s' = some (leBytes 4 u) ∧
          (∀ id, id ≠ recW → recGet id s' = recGet id s)) ∧
      (u ≤ s.lgr.signed → u ≤ lgrSealed s → u ≤ s.lgr.w →
        ∃ s', exec (.ledgerRelease t d) s = .next s' ∧ answers d stOk (releaseResult true s) 0 s0 s') ∧
      (s.lgr.signed < u ∨ lgrSealed s < u →
        ∃ s', exec (.ledgerRelease t d) s = .next s' ∧ turnedAway d stBadLen 32 s0 s'))

/-- LEDGER_READ copies blocks to DST up to the first that is not there, with VERIFY answering the first whose TAG fails, or
statements of the ring. LEDGER_ATTEST signs a statement over blocks whose tags verify and puts it at DST, or waits while the
generator is in Steep; a broken chain is MAC_FAIL and recorded. LEDGER_CHECKPOINT stores a signed statement over 4096
blocks. -/
def Obligations.LedgerIsReadAndAttested : Prop :=
  ∀ (s : State) (t : Nat), live s = true → memorySafe s → shaped s → s.nv.ledgerReady = true → let s0 := elapse t s
    (∀ d, serves t d s → isRow 0x59 d = true → p8 d 5 ≤ 3 → parNonzero 6 24 d = none →
      (p8 d 4 = 0 → d.len = 0 →
        ∃ s', exec (.ledgerReadBlocks t d) s = .next s' ∧ answers d stOk (readResult 0 false false s) 0 s0 s') ∧
      (p8 d 4 = 0 → d.len ≠ 0 → 1 ≤ p32 d 0 → s.lgr.head ≤ p32 d 0 → p32 d 0 ≤ lgrTail s →
        let r := readRange (bit 1 (p8 d 5)) s (d.len / 64) (p32 d 0); let verify := bit 0 (p8 d 5)
        let bs := (r.1.map (fun q => blockBytes q s)).flatten
        let bad := if verify then firstBad r.1 s else none
        dmaBlocked d d.dstAddr bs.length s = false →
        ∃ s1 s', exec (.ledgerReadBlocks t d) s = .next s' ∧
          answers d (if bad.isSome then stMacFail else stOk)
            (readResult (if verify then bad.getD 0 else bs.length) true r.2 s) 0 (dmaWrite d d.dstAddr bs s1) s' ∧
          s1 = { s0 with regs := s1.regs } ∧ keepsRegs [NVS_ECC_CNT.reg, NVS_ERR_ADDR.reg] s s1) ∧
      (p8 d 4 = 1 → d.len ≠ 0 → p32 d 0 ≤ 255 → (∀ k < 256, (recRead (recStatement k) s).isSome = true) →
        let bs := ((List.range (d.len / 192)).map (fun i =>
          fit 192 ((recRead (recStatement (p32 d 0 + i)) s).getD []))).flatten
        dmaBlocked d d.dstAddr bs.length s = false →
        ∃ s', exec (.ledgerReadStatements t d) s = .next s' ∧
          answers d stOk (readResult bs.length true false s) 0
            (dmaWrite d d.dstAddr bs { s0 with free := s.free + 192 }) s')) ∧
    (∀ d, serves t d s → isRow 0x5B d = true → let a := p32 d 0; let b := p32 d 4
      1 ≤ a → s.lgr.head ≤ a → a ≤ b → b ≤ lgrSealed s → b - a < 65536 →
      (firstBad (blocksOf a b) s = none → drawFails s = none → dmaBlocked d d.dstAddr 192 s = false →
        let h := statementHead 2 0 a b true (slice 8 16 d.par) s0
        let sig := (signWith dakScalar (sha256 (dakLedgerPrefix ++ h)) s0).1
        (h ++ sig).length = 192 →
        ∃ s1 s', exec (.ledgerAttest t d) s = .next s' ∧ answers d stOk (leBytes 4 a ++ leBytes 4 b) 0 s1 s' ∧
          recordsOnly [] [CRY_PKE_CNT.reg, RNG_REQ_CNT.reg, RNG_STATUS.reg]
            (dmaWrite d d.dstAddr (h ++ sig) { s0 with free := s1.free }) s1 ∧
          s1.lgr.signed = max s.lgr.signed b ∧
          (flag LGR_CTL.EVT s = false → s1.hostMem = (dmaWrite d d.dstAddr (h ++ sig) s0).hostMem)) ∧
      (firstBad (blocksOf a b) s = none → drawFails s = some stNotReady →
        ∃ d1 s', exec (.ledgerAttest t d) s = .next s' ∧ d1.src = d.src ∧ d1.idx = d.idx ∧ d1.no = d.no ∧ p32 d1 4 = b ∧
          settles { atWork d s0 with
            lcy := { s.lcy with steepWait := s.lcy.steepWait ++ [(d1, now s0 + timeoutTicks d 100)] } } s') ∧
      (∀ q, firstBad (blocksOf a b) s = some q →
        ∃ s1 s', exec (.ledgerAttest t d) s = .next s' ∧
          answers d stMacFail (List.replicate 8 0 ++ leBytes 4 q) 0 s1 s' ∧ recordsOnly [] [LGR_CNT2.reg, HIF_VIOL_CNT.reg] s0 s1 ∧
          fld LGR_STATUS.BREAK s1 = 1 ∧ fld LGR_CNT2.BREAK s1 = sat LGR_CNT2.BREAK.width (fld LGR_CNT2.BREAK s + 1) ∧
          s1.lgr.signed = s.lgr.signed)) ∧
    (∀ k j, s.lgr.ckpt = [k] → s.lcy.drover = .ready → droverBusy s = false → rngState s = 2 →
      recFails (recStatement k) s = false → s.lgr.openRecs = some j → j < 5 → s.lgr.lost = 0 → s.lgr.closed = false →
      needsNewBase s0.clk.wall.toNat s = false → let a := max (4096 * k + 1) s.lgr.head; let b := 4096 * k + 4096
      firstBad (blocksOf a b) s = none →
      ∃ sig s', exec (.ledgerCheckpoint t) s = .next s' ∧
        recRead (recStatement k) s' = some (statementHead 1 0 a b true [] s0 ++ sig) ∧
        sig = (signWith dakScalar (sha256 (dakLedgerPrefix ++ statementHead 1 0 a b true [] s0)) s0).1 ∧
        s'.lgr.signed = max s.lgr.signed b ∧ s'.lgr.ckpt = [] ∧ fld LGR_STATUS.CKPT_PEND s' = 0 ∧
        fld LGR_CKPT.IDX s' = k % 256 ∧ fld LGR_CKPT.COUNT s' = (fld LGR_CKPT.COUNT s + 1) % 2 ^ 24 ∧
        recordsOnly [] [CRY_PKE_CNT.reg, RNG_REQ_CNT.reg, RNG_STATUS.reg, LGR_CKPT.reg]
          { s0 with free := s'.free, nv := { s0.nv with recs := s'.nv.recs, twins := s'.nv.twins } } s')

/-! ## Timers -/

/-- TIMER_CFG gives a channel its mode from the tick of the command on, and answers that tick, LATE, OUT and the earlier
mode; a reserved channel is BAD_HANDLE, and a byte out of range BAD_LEN with its offset. TIMER_READ puts the channel's
record at DST and clears NEW, OVERRUN, CAPS and MISSED. A match acts on OUT and disarms a COMPARE channel, or moves a
PERIODIC one to its next tick and counts the ticks it skipped; an overflow of TIMEBASE[31:0] acts on every channel in use; a
completed pair of a CAPTURE channel is held, and the one it replaces counts when nobody has read it; a pulse's end gives its
pin back to IDLE. The pads show what their functions drive. -/
def Obligations.TimersConfigureMatchAndCapture : Prop :=
  (∀ (s : State) (t : Nat) (d : Desc), serves t d s → d.target < 32 → let s0 := elapse t s; let old := chan d.target s
      (isRow 0x60 d = true → cfgReserved d.target s = false → cfgParBad d = none →
        ∃ (c : Channel) (s1 s' : State), exec (.timerCfg t d) s = .next s' ∧
          c.mode = p8 d 0 ∧ c.src = p8 d 1 ∧ c.order = p8 d 2 ∧ c.filt = p8 d 3 ∧ c.act = p8 d 4 ∧ c.c = p32 d 8 ∧
          c.period = p32 d 12 ∧ c.left = (if p8 d 0 = 3 ∧ p32 d 16 ≠ 0 then some (p32 d 16) else none) ∧
          c.out = (if bit 7 (p8 d 4) then old.out else bit 6 (p8 d 4)) ∧ c.armed = decide (p8 d 0 ≠ 0) ∧
          c.late = decide (2 ≤ p8 d 0 ∧ lateArm (now s0) (p32 d 8) = true) ∧ c.since = now s0 ∧
          c.rise = old.rise ∧ c.fall = old.fall ∧ c.width = old.width ∧ c.caps = old.caps ∧ c.fresh = old.fresh ∧
          answers d stOk (leBytes 4 (now s0) ++ [byteOf (b2n c.late + 2 * b2n c.out), byteOf old.mode, 0, 0]
            ++ leBytes 4 (if c.mode ≥ 2 then nextMatch c.c s0 else 0)) 0 s1 s' ∧
          s1 = { s0 with
            regs := s1.regs, tmr := { s.tmr with ch := s.tmr.ch.set d.target c }
            pins := { s.pins with gpio := s1.pins.gpio } } ∧
          (∀ g < 24, s1.pins.gpio.getLsbD g = pinLevel g { s1 with pins := s.pins }) ∧
          (c.late = true → fld TMR_STATUS.LATE_SEEN s1 = 1) ∧ (c.late = false → s1.regs = s.regs) ∧
          keepsRegs [TMR_STATUS.reg] s s1) ∧
      (isRow 0x60 d = true → cfgReserved d.target s = true →
        ∃ s', exec (.timerCfg t d) s = .next s' ∧ turnedAway d stBadHandle 4 s0 s') ∧
      (∀ i, isRow 0x60 d = true → cfgReserved d.target s = false → cfgParBad d = some i →
        ∃ s', exec (.timerCfg t d) s = .next s' ∧ turnedAway d stBadLen (32 + i) s0 s') ∧
      (isRow 0x61 d = true → parNonzero 0 24 d = none → dmaBlocked d d.dstAddr 32 s = false →
        ∃ s', exec (.timerRead t d) s = .next s' ∧
          answers d stOk (leBytes 8 (now s0) ++ [byteOf (chanFlags old), byteOf old.mode]) 0
            (dmaWrite d d.dstAddr (chanRecord old)
              (setChan d.target { old with fresh := false, overrun := false, caps := 0, missed := 0 } s0)) s')) ∧
  (∀ (s : State) (t n : Nat) (credit : Bool), live s = true → memorySafe s → shaped s → s.nv.ledgerReady = true →
      let s0 := elapse t s; let c := chan n s
      let becomes (c1 : Channel) (offs : List Nat) (s' : State) : Prop :=
        recordsOnly [] offs
          { s0 with
            tmr := { s.tmr with ch := s.tmr.ch.set n c1 }, pins := { s.pins with gpio := s'.pins.gpio, wake := s'.pins.wake } } s'
      let pads (s' : State) : Prop := s'.pins.wake = s.pins.wake ∧
        ∀ g < 24, s'.pins.gpio.getLsbD g = pinLevel g { s' with pins := s.pins }
      (n < 32 → c.armed = true → fires (now s0) c.c = true → ((n = 29 ∨ n = 30) → startEn s = false) → tbRuns s = true →
        overflowDue s0 = false →
        (c.mode = 2 → ∃ s', exec (.timerCompareMatch t n credit) s = .next s' ∧ pads s' ∧
          becomes { c with out := actOut (c.act % 4) c.out, credit := credit, armed := false } [] s') ∧
        (c.mode = 3 → let k := (now s0 + 2 ^ 32 - c.c % 2 ^ 32) % 2 ^ 32 / c.period + 1
          let left := c.left.map (· - 1); let stop := left == some 0
          ∃ (c1 : Channel) (s' : State), exec (.timerCompareMatch t n credit) s = .next s' ∧ pads s' ∧
            c1 = { c with
              out := actOut (c.act % 4) c.out, credit := credit, c := (c.c + k * c.period) % 2 ^ 32
              missed := sat 16 (c.missed + (k - 1)), late := false, left := left
              mode := if stop then 0 else 3, armed := !stop } ∧
            becomes c1 [TMR_STATUS.reg, TMR_CNT.reg] s' ∧
            (1 < k → fld TMR_STATUS.MISS_SEEN s' = 1 ∧
              fld TMR_CNT.MISSED s' = sat TMR_CNT.MISSED.width (fld TMR_CNT.MISSED s + (k - 1))))) ∧
      (n < 29 → c.armed = true → c.mode = 2 → fires (now s0) c.c = true → tbRuns s = true → overflowDue s0 = true →
        ∃ s', exec (.timerCompareMatch t n credit) s = .next s' ∧ s'.tmr.wraps = now s0 / 2 ^ 32 ∧
          (chan n s').armed = false ∧ (chan n s').out = actOut (c.act % 4) (actOut (c.act / 4 % 4) c.out)) ∧
      (s.tmr.wraps < now s0 / 2 ^ 32 →
        ∃ s', exec (.timerOverflow t credit) s = .next s' ∧ pads s' ∧ s'.tmr.wraps = now s0 / 2 ^ 32 ∧
          (∀ k < 31, (k = 29 ∨ k = 30 → startEn s = false) → (chan k s).mode ≠ 0 →
            chan k s' = { chan k s with out := actOut ((chan k s).act / 4 % 4) (chan k s).out }) ∧
          (∀ k < 31, (chan k s).mode = 0 → chan k s' = chan k s) ∧ chan 31 s' = chan 31 s ∧
          recordsOnly [] [] { s0 with tmr := s'.tmr, pins := { s.pins with gpio := s'.pins.gpio } } s') ∧
      (∀ edge1 edge2, let first := sampledAt edge1 s0; let second := sampledAt edge2 s0
        n < 31 → c.mode = 1 → c.since ≤ first → first + (c.filt + 1) * evalStep s ≤ second →
        second + c.filt * evalStep s ≤ now s0 → tbRuns s = true →
        ∃ (c1 : Channel) (s' : State), exec (.timerCapturePair t n edge1 edge2 credit) s = .next s' ∧
          c1 = { c with
            rise := if c.order = 0 then first else second, fall := if c.order = 0 then second else first
            width := sat 32 (second - first), overrun := c.overrun || c.fresh, fresh := true, caps := sat 16 (c.caps + 1)
            credit := credit, evtAt := c1.evtAt } ∧
          becomes c1 [TMR_STATUS.reg, TMR_CNT.reg] s' ∧
          (c.fresh = true → fld TMR_STATUS.OVR_SEEN s' = 1 ∧
            fld TMR_CNT.OVERRUN s' = sat TMR_CNT.OVERRUN.width (fld TMR_CNT.OVERRUN s + 1)) ∧
          (c.fresh = false → keepsRegs recordRegs s s')) ∧
      (s.tmr.pulses.any (fun p => p.pin == n && p.stop ≤ now s0) = true →
        ∃ s', exec (.gpioPulseEnd t n) s = .next s' ∧
          settles { s0 with
            tmr := { s.tmr with pulses := s.tmr.pulses.filter (fun p => p.pin ≠ n) }
            pins := { s.pins with gpio := s'.pins.gpio } } s' ∧ pads s' ∧
          (n < 24 → pinFunc n s = 4 → s'.pins.gpio.getLsbD n = decide (pinCh n s % 2 = 1))))

/-! ## Clock -/

/-- SECOND_MARK, EPOCH_MARK, ATTENTION_MARK and GAP_VIOLATION: a SECOND mark counts, and with SEC_DISC and an error within SNAP_WIN steps a lagging wall clock forward
to the whole second or makes a leading one run at half rate for the lead; an EPOCH mark puts a pending TIME_SET in force; an
ATTENTION mark with ATTN_EN exits to Run from outside Run, or arms the exit, and holds Run; a violation counts in its class. Each gap is a pair of channel 31. -/
def Obligations.MarksKeepTheWallClock : Prop :=
  ∀ (s : State) (t : Nat) (g : Gap), live s = true → memorySafe s → shaped s → s.nv.ledgerReady = true → tbRuns s = true →
    let s0 := elapse t s
    let noted (k : Nat) (cnt : Field) (s' : State) : Prop :=
      fld cnt s' = sat cnt.width (fld cnt s + 1) ∧ fld CLK_STATUS.LAST_MARK s' = k ∧
      reg64 CLK_LAST_MARK_LO.reg s' = now s0 ∧ s'.clk.gapAt = some (nowEighths s0) ∧ s'.clk.tb = s0.clk.tb ∧
      (∀ id, id ≠ recWall → recGet id s' = recGet id s) ∧
      (chan 31 s').width = sat 32 (now s0 - g.fall) ∧ (chan 31 s').fresh = true ∧
      recordsOnly []
        [CLK_STATUS.reg, cnt.off, CLK_LAST_MARK_LO.reg, CLK_LAST_MARK_HI.reg, TMR_STATUS.reg, TMR_CNT.reg, PWR_STATUS.reg]
        { s0 with
          clk := s'.clk, tmr := { s.tmr with ch := s.tmr.ch.set 31 (chan 31 s') }, pwr := s'.pwr
          uhf := { s.uhf with walk := s'.uhf.walk }, uwb := { s.uwb with walk := s'.uwb.walk }
          nv := { s0.nv with recs := s'.nv.recs, twins := s'.nv.twins } } s'
    let disciplined (s' : State) : Prop :=
      let e := markError s0
      (flag CLK_GAP_CTL.SEC_DISC s = false ∨ s.clk.wallRun = false ∨ snapUnits s < e ∨ snapUnits s < -e →
        s'.clk = { s0.clk with gapAt := some (nowEighths s0) }) ∧
      (flag CLK_GAP_CTL.SEC_DISC s = true → s.clk.wallRun = true → -(snapUnits s) ≤ e → e ≤ snapUnits s →
        fld CLK_STATUS.WALL_STALE s' = 0 ∧
        (0 < e → s'.clk = { s0.clk with
          gapAt := some (nowEighths s0), wall := BitVec.ofNat 64 ((s0.clk.wall.toNat / 65536 + 1) * 65536), wallRem := 0
          slew := 0 }) ∧
        (e < 0 → s'.clk = { s0.clk with gapAt := some (nowEighths s0), slew := (-e).toNat }) ∧
        (e = 0 → s'.clk = { s0.clk with gapAt := some (nowEighths s0) }))
    (gapClass g s0 = some .second →
      ∃ s', exec (.secondMark t g) s = .next s' ∧ noted 1 CLK_MARK_CNT.SECOND s' ∧ disciplined s' ∧ s'.pwr.st = s.pwr.st) ∧
    (gapClass g s0 = some .epoch →
      (s.clk.timeSet = none →
        ∃ s', exec (.epochMark t g) s = .next s' ∧ noted 2 CLK_MARK_CNT.EPOCH s' ∧ disciplined s') ∧
      (∀ v, s.clk.timeSet = some v → s0.clk.wall ≤ v →
        ∃ s', exec (.epochMark t g) s = .next s' ∧ noted 2 CLK_MARK_CNT.EPOCH s' ∧
          s'.clk = { s0.clk with gapAt := some (nowEighths s0), timeSet := none, wall := v, wallRem := 0, slew := 0 } ∧
          fld CLK_STATUS.EPOCH_PEND s' = 0 ∧ fld CLK_STATUS.WALL_STALE s' = 0 ∧
          (recFails recWall s = false → recRead recWall s' = some (leBytes 8 v.toNat)))) ∧
    (gapClass g s0 = some .attention →
      ∃ s', exec (.attentionMark t g) s = .next s' ∧ noted 3 CLK_MARK_CNT.ATTENTION s' ∧
        (flag CLK_GAP_CTL.ATTN_EN s = false ∨ s.pwr.st = .run →
          s'.pwr.st = s.pwr.st ∧ s'.pwr.exitArmed = s.pwr.exitArmed ∧ regGet PWR_STATUS.reg s' = regGet PWR_STATUS.reg s) ∧
        (flag CLK_GAP_CTL.ATTN_EN s = true → s.pwr.st ≠ .run → fld PWR_STATUS.HOLD_RUN s' = 1 ∧
          (s.pwr.st ≠ .watch ∨ fastContent s = true → s.pwr.srcAt ≠ some (now s0) →
            s'.pwr.st = .run ∧ fld PWR_STATUS.WAKE_SRC s' = 0x09) ∧
          (s.pwr.st = .watch → fastContent s = false → s.pwr.exitArmed = none →
            s'.pwr.st = .watch ∧ s'.pwr.exitArmed = some 0x09))) ∧
    (∀ c cnt k, gapClass g s0 = some c → violField c = some (cnt, k) →
      ∃ s', exec (.gapViolation t g) s = .next s' ∧ fld cnt s' = sat cnt.width (fld cnt s + 1) ∧
        s'.clk = { s0.clk with
          gapAt := some (nowEighths s0), viols := s.clk.viols.filter (fun v => now s0 < v + secTicks 1) ++ [now s0]
          lastViolRec := s'.clk.lastViolRec } ∧
        recordsOnly [] [cnt.off, TMR_STATUS.reg, TMR_CNT.reg]
          { s0 with clk := s'.clk, tmr := { s.tmr with ch := s.tmr.ch.set 31 (chan 31 s') } } s')

/-- Loss and return of REFCLK. CLOCK_LOSS, a failed check outside Watch, stops the device in the safe state, with its
permission ended, its transmitters off, its buffer drained and its link down, and TIMEBASE holds; REFCLK_STOP in Watch only
holds TIMEBASE; either ends a qualification count that runs. CLOCK_LOSS_RECOVERY with fast content restarts every island but
AON, and every descriptor in flight completes. Outside both, REFCLK_QUALIFIED puts the content it finds in force, as Invalid
where it may not be. WALL_CLOCK_STORE stores the wall clock every 600 s. -/
def Obligations.ClockIsLostAndRegained : Prop :=
  ∀ (s : State) (t : Nat), calm s = true → memorySafe s → shaped s → let s0 := elapse t s
    let meas (why : ClkCheck) (s' : State) : Prop :=
      fld CLK_MEAS.FREQ s' = match why with | .frequency f => sat 23 f | _ => measured s0
    (∀ why, live s = true → s.nv.ledgerReady = true → fastContent s = true → s.pwr.st = .run ∨ s.pwr.st = .graze →
      s.pwr.qual = false →
      ∃ s', exec (.clockLoss t why) s = .next s' ∧
        s'.clk = { s0.clk with content := contentAfter why s, lost := true, gapAt := none, measAt := now s0 } ∧
        fld CLK_STATUS.LOST s' = 1 ∧ fld CLK_LOSS_CNT.LOSS s' = sat 8 (fld CLK_LOSS_CNT.LOSS s + 1) ∧
        reg64 CLK_LOSS_TB_LO.reg s' = now s0 ∧ s'.flk.perm = none ∧ s'.hif.link = .down ∧ s'.nv.buf = [] ∧
        s'.nv.ledgerReady = false ∧ s'.fold.op = none ∧ s'.pins.drive = 0 ∧ s'.pins.bridge = 0 ∧ s'.pins.lfdSafe = true ∧
        s'.pins.startA = false ∧ s'.pins.startB = false ∧ s'.pins.pa = false ∧ s'.pins.trsw = false ∧ meas why s' ∧
        (∀ f, why = .frequency f → fld CLK_STATUS.FREQ_ERR s' = 1) ∧ (why = .pllLock → fld CLK_STATUS.UNLOCK s' = 1)) ∧
    (∀ why, live s = true → s.nv.ledgerReady = true → s.pwr.st = .watch → tbRuns s = true → pllInWatch s = false →
      s.flk.revoke = [] → s.pwr.qual = false → checkMade why s = true →
      ∃ s', exec (.refclkStop t why) s = .next s' ∧
        s'.clk = { s0.clk with content := contentAfter why s, gapAt := none, measAt := now s0 } ∧
        fld CLK_LOSS_CNT.STOPS s' = sat 8 (fld CLK_LOSS_CNT.STOPS s + 1) ∧ reg64 CLK_LOSS_TB_LO.reg s' = now s0 ∧
        s'.flk.perm = none ∧ s'.pins.startA = false ∧ s'.pins.startB = false ∧ s'.pwr.st = .watch ∧ meas why s') ∧
    (∀ why, s.pwr.qual = true → let s1 := { s0 with pwr := { s.pwr with qual := false } }
      (∃ s', exec (.clockLoss t why) s = .next s' ∧ settles s1 s') ∧
      ∃ s', exec (.refclkStop t why) s = .next s' ∧ settles s1 s') ∧
    (∀ freq, s.clk.lost = true → isFast (classOf freq) = true → s.nv.ledgerReady = false → s.pwr.held = [] →
      s.pwr.vaonDown = false → s.pwr.inReset = false →
      ∃ s', exec (.clockLossRecovery t freq) s = .next s' ∧ s'.clk.lost = false ∧ s'.clk.content = classOf freq ∧
        (classOf freq = .fast38 → s'.clk.tb = s.clk.tb) ∧ fld CLK_MEAS.FREQ s' = sat 23 freq ∧ s'.pwr.st = .run ∧
        s'.pwr.islands = allIslands s ∧ s'.hif.flight = [] ∧ fld HIF_STATUS.READY s' = 0 ∧
        fld PWR_RST_CAUSE.CLKREC s' = 1 ∧ s'.lf = Lf.reset ∧ s'.poll = none ∧ s'.vrd = Vrd.reset ∧ s'.fold = Fold.reset ∧
        rngState s' = (if rngState s = 4 then 4 else 1) ∧
        (∀ a, mget nvDflt s'.nv.mem a = mget nvDflt s.nv.mem a) ∧ s'.nv.recs = s.nv.recs) ∧
    (s.clk.content = .none ∨ s.clk.content = .invalid → s.clk.lost = false → s.pwr.vaonDown = false → s.pwr.st ≠ .fallow →
      (∀ freq, let invalid (s' : State) : Prop :=
          settles { s0 with
            regs := s'.regs, clk := { s0.clk with content := .invalid, measAt := now s0 }
            pwr := { s.pwr with qual := false } } s'
        (s.pwr.st ≠ .watch ∨ s.pwr.inReset = true →
          ∃ s', exec (.refclkQualified t freq) s = .next s' ∧ fld CLK_MEAS.FREQ s' = sat 23 freq ∧
            keepsRegs [CLK_MEAS.reg] s s' ∧
            (classOf freq = .fast38 → settles { s0 with
              regs := s'.regs, clk := { s0.clk with content := .fast38, lastFast := .fast38, measAt := now s0 }
              pwr := { s.pwr with qual := false } } s') ∧
            (classOf freq = .fast19 → s'.clk.content = .fast19 ∧ s'.clk.lastFast = .fast19 ∧ now s' % 2 = 0 ∧
              now s' = now s + now s % 2) ∧
            (s.pwr.st ≠ .watch → isFast (classOf freq) = false → invalid s')) ∧
        (s.pwr.st = .watch → s.pwr.inReset = false → s.pwr.exitArmed = none → s.pwr.held = [] →
          (classOf freq = .fast38 → ∃ s', exec (.refclkQualified t freq) s = .next s' ∧ s'.clk.content = .fast38 ∧
            s'.clk.tb = s.clk.tb + BitVec.ofNat 64 (2 ^ qualK s - 1) ∧ s'.pwr.st = .watch) ∧
          (classOf freq = .slow → flag CLK_WATCH_CTL.SLOW_EN s = true →
            ∃ s', exec (.refclkQualified t freq) s = .next s' ∧ s'.clk.content = .slow ∧
              8 * s'.clk.tb.toNat + s'.clk.frac = (8 * s.clk.tb.toNat + s.clk.frac + 63 * 9375) % (8 * 2 ^ 64)) ∧
          (classOf freq = .slow → flag CLK_WATCH_CTL.SLOW_EN s = false →
            ∃ s', exec (.refclkQualified t freq) s = .next s' ∧ invalid s'))) ∧
      ∃ s', exec (.qualificationCountStart t) s = .next s' ∧
        settles { s0 with clk := { s0.clk with content := .none }, pwr := { s.pwr with qual := true } } s') ∧
    (live s = true → storeDue s0 = true → recFails recWall s = false →
      ∃ s', exec (.wallClockStore t) s = .next s' ∧
        settles { s0 with nv := s'.nv, clk := { s0.clk with wallAt := now s0 } } s' ∧
        recRead recWall s' = some (leBytes 8 s0.clk.wall.toNat) ∧ (∀ id, id ≠ recWall → recGet id s' = recGet id s) ∧
        ∀ a, mget nvDflt s'.nv.mem a = mget nvDflt s.nv.mem a)

/-! ## Power states -/

/-- POWER_STATE_ENTRY, FALLOW_ENTRY and FALLOW_EDGE_DETECTOR_ARM: a device idle for IDLE_US enters the deepest state that Table 04.2 allows, if it lies deeper: the entry commits after
the time of Table 04.4, at a rising edge where it goes to the direct edges of Fast 19.2. Into Fallow it first ends Service, seals the open ledger block, stores the wall clock and drains the
buffer. At the commit the state is in force with the islands it keeps, and the shadows of CLK_GAP_CTL and CLK_WATCH_CTL are
too, but in Graze. Fallow's edge detector arms in Fallow. -/
def Obligations.PowerStatesAreEntered : Prop :=
  ∀ (s : State) (t : Nat), memorySafe s → shaped s → let s0 := elapse t s; let p := selState true s0
    (live s = true → mayEnter s0 = true → p ≠ .fallow →
      ∃ s', exec (.powerStateEntry t) s = .next s' ∧
        settles { s0 with pwr := { s.pwr with entering := some (p, commitTick p s0) } } s') ∧
    (live s = true → mayEnter s0 = false →
      (∃ s', exec (.powerStateEntry t) s = .next s' ∧ settles s0 s') ∧
      ∃ s', exec (.fallowEntry t) s = .next s' ∧ settles s0 s') ∧
    (live s = true → mayEnter s0 = true → p = .fallow → s.nv.ledgerReady = true → s.nv.worn = [] → s.nv.wornRecs = [] →
      (tally 253 s).isSome = true → tallyVal 253 s < tallyMax →
      ∃ s', exec (.fallowEntry t) s = .next s' ∧ s'.pwr.st = s.pwr.st ∧
        s'.pwr.entering = some (.fallow, now s0 + entryTicks .fallow) ∧ s'.lcy.service = none ∧
        s'.lgr.openRecs = none ∧ s'.nv.buf = [] ∧ recRead recWall s' = some (leBytes 8 s0.clk.wall.toNat) ∧
        tallyVal 253 s' = tallyVal 253 s + 1) ∧
    (∀ (q : PState) (c : Nat), s.pwr.entering = some (q, c) → q ≠ .run →
      live { s with pwr := { s.pwr with entering := none } } = true → c ≤ t → t < 2 ^ 63 → tbRuns s = true →
      s.lcy.nonce = none →
      ∃ s', exec (.lifecycleNonceExpiry t) s = .next s' ∧
        s'.pwr = { s.pwr with
          st := q, entering := none, idleSince := s'.pwr.idleSince, workAt := s'.pwr.workAt, islands := s'.pwr.islands
          edgeArmed := if q = .fallow then false else s.pwr.edgeArmed } ∧
        s'.pwr.islands = (if q = .fallow then 0x001 else if q = .watch then watchIslands s' else s.pwr.islands) ∧
        fld PWR_STATUS.STATE s' = q.code ∧
        regGet CLK_GAP_CTL.reg s' =
          (if q = .graze then regGet CLK_GAP_CTL.reg s else s.clk.shGap.getD (regGet CLK_GAP_CTL.reg s)) ∧
        regGet CLK_WATCH_CTL.reg s' =
          (if q = .graze then regGet CLK_WATCH_CTL.reg s else s.clk.shWatch.getD (regGet CLK_WATCH_CTL.reg s)) ∧
        (q ≠ .graze → s'.clk.shGap = none ∧ s'.clk.shWatch = none ∧ fld CLK_STATUS.SHADOW_PEND s' = 0) ∧
        (q = .fallow ∨ q = .watch ∧ s.lf.run = none → uhfState s' = 0) ∧
        (q = .fallow → s'.pins.bridge = 0 ∧ s'.pins.drive = 0 ∧ s'.pins.startA = false ∧ s'.pins.startB = false) ∧
        keepsRegs [PWR_STATUS.reg, CLK_GAP_CTL.reg, CLK_WATCH_CTL.reg, CLK_STATUS.reg] s s' ∧ keepsMemory s s') ∧
    (live s = true → s.pwr.st = .fallow →
      ∃ s', exec (.fallowEdgeDetectorArm t) s = .next s' ∧ settles { s0 with pwr := { s.pwr with edgeArmed := true } } s')

/-- WAKE_EXIT, CAN_WAKE, PCIE_TLP_WAKE and PERST_N_DEASSERT: each source of Table 04.6 ends Graze, Pen and, on fast content, Watch, and WAKE_SRC names it; without
fast content an exit from Watch is armed. A source before the commit aborts an entry. A CAN edge in Watch powers the CAN
island until its frame has ended; one that means nothing in the state changes nothing. PERST_N going high releases WAKE_N. -/
def Obligations.WakeSourcesExitToRun : Prop :=
  ∀ (s : State) (t : Nat), memorySafe s → shaped s → s.pwr.srcAt ≠ some (now (elapse t s)) →
    let s0 := elapse t s; let src := some (now s0)
    let shallowRun (k : Nat) (s' : State) : Prop :=
      fld PWR_STATUS.WAKE_SRC s' = k ∧ fld PWR_STATUS.STATE s' = 0 ∧ keepsRegs [PWR_STATUS.reg] s s' ∧
      settles { s0 with regs := s'.regs, pwr := { s.pwr with st := .run, entering := none, srcAt := src } } s'
    let watchRun (k : Nat) (pins : Pins) (s' : State) : Prop :=
      if fastContent s = true then
        fld PWR_STATUS.WAKE_SRC s' = k ∧ fld PWR_STATUS.STATE s' = 0 ∧ keepsRegs [PWR_STATUS.reg] s s' ∧
        settles { s0 with
          regs := s'.regs, pwr := { s.pwr with st := .run, islands := allIslands s, srcAt := src }, pins := pins
          uhf := { s.uhf with walk := repower true (now s0) s.uhf.walk }
          uwb := { s.uwb with walk := repower true (now s0) s.uwb.walk } } s'
      else s.pwr.exitArmed = none → settles { s0 with pwr := { s.pwr with exitArmed := some k }, pins := pins } s'
    (live s = true →
      (s.pwr.st = .graze ∨ s.pwr.st = .pen →
        (∃ s', exec (.wakeExit t .can) s = .next s' ∧ shallowRun 0x0E s') ∧
        (∃ s', exec (.canWake t) s = .next s' ∧ shallowRun 0x0E s') ∧
        (flag PWR_STATUS.HOLD_RUN s = true → ∃ s', exec (.wakeExit t .attention) s = .next s' ∧ shallowRun 0x09 s') ∧
        (schedOn s = true → ∃ s', exec (.wakeExit t .sched) s = .next s' ∧ shallowRun 0x0D s') ∧
        (linkUp s = true → (∃ s', exec (.wakeExit t .pcie) s = .next s' ∧ shallowRun 0x0C s') ∧
          ∃ s', exec (.pcieTlpWake t) s = .next s' ∧ shallowRun 0x0C s') ∧
        ∀ n < 8, bit n (fld PWR_WAKE_CTL.EN s) = true →
          ∃ s', exec (.wakeExit t (.pin n)) s = .next s' ∧ shallowRun (n + 1) s') ∧
      (s.pwr.st = .watch →
        (flag PWR_STATUS.HOLD_RUN s = true → ∃ s', exec (.wakeExit t .attention) s = .next s' ∧ watchRun 0x09 s.pins s') ∧
        (s.pins.perst = false → ∃ s', exec (.wakeExit t .perst) s = .next s' ∧ watchRun 0x0B s.pins s') ∧
        (s.pins.perst = true → ∃ s', exec (.perstNDeassert t) s = .next s' ∧
          watchRun 0x0B { s.pins with perst := false, wakeN := false } s') ∧
        ∃ s', exec (.canWake t) s = .next s' ∧
          settles { s0 with pwr := { s.pwr with canAsked := true } } s' ∧ islandOn .can s' = true) ∧
      (s.pins.perst = true → s.pwr.st ≠ .watch → ∃ s', exec (.perstNDeassert t) s = .next s' ∧
        settles { s0 with pins := { s.pins with perst := false, wakeN := false } } s') ∧
      (s.pins.perst = false → ∃ s', exec (.perstNDeassert t) s = .next s' ∧ settles s0 s') ∧
      (s.pwr.st = .run ∨ s.pwr.st = .fallow → ∀ w, ∃ s', exec (.wakeExit t w) s = .next s' ∧ settles s0 s')) ∧
    (∀ (q : PState) (c : Nat), s.pwr.entering = some (q, c) → s.pwr.st = .run → t < c → t < 2 ^ 63 → now s0 < c →
      s.nv.ledgerReady = true →
      live { s with pwr := { s.pwr with entering := none } } = true →
      let aborts (k : Nat) (s' : State) : Prop :=
        fld PWR_STATUS.WAKE_SRC s' = k ∧
        recordsOnly [] [PWR_STATUS.reg] { s0 with pwr := { s.pwr with entering := none, srcAt := src } } s' ∧
        (q ≠ .fallow → keepsRegs [PWR_STATUS.reg] s s' ∧ keepsMemory s s')
      (∃ s', exec (.canWake t) s = .next s' ∧ aborts 0x0E s') ∧
      (linkUp s = true → ∃ s', exec (.pcieTlpWake t) s = .next s' ∧ aborts 0x0C s') ∧
      ∀ n < 8, bit n (fld PWR_WAKE_CTL.EN s) = true →
        ∃ s', exec (.wakeExit t (.pin n)) s = .next s' ∧ aborts (n + 1) s')

/-- LINK_STATE_CHANGE, PME_TURN_OFF, PME_TO_ACK and PERST_N_ASSERT: HIF_LINK shows its state, L0 releases WAKE_N, and leaving L1 for L0 wakes the device; PERST_N holds it
down. The device owes PME_TO_Ack after PME_Turn_Off and gives it once idle. PERST_N or a Function Level Reset is a host link reset: it is recorded with its cause, and resets the
host interface's registers and pairs; what is in flight loses its sender, READY, the backlog and Drover's queue stay, and
a Function Level Reset keeps the link. -/
def Obligations.LinkStatesAndResets : Prop :=
  ∀ (s : State) (t : Nat), live s = true → memorySafe s → shaped s → s.pwr.srcAt ≠ some (now (elapse t s)) →
    let s0 := elapse t s
    (∀ l speed width, s.pins.perst = false → s.hif.held = [] → s.pwr.st = .run ∨ (s.pwr.st = .pen ∧ s.hif.link = .l1 ∧ l = .l0) →
      speed < 2 ^ HIF_LINK.SPEED.width → width < 2 ^ HIF_LINK.WIDTH.width →
      ∃ s', exec (.linkStateChange t l speed width) s = .next s' ∧
        fld HIF_LINK.LSTATE s' = linkCode l ∧ fld HIF_LINK.SPEED s' = speed ∧ fld HIF_LINK.WIDTH s' = width ∧
        (s.pwr.st = .run → keepsRegs [HIF_LINK.reg] s s') ∧
        (s.pwr.st = .pen → fld PWR_STATUS.WAKE_SRC s' = 0x0C ∧ keepsRegs [HIF_LINK.reg, PWR_STATUS.reg] s s') ∧
        settles { s0 with
          regs := s'.regs
          hif := { s.hif with
            link := l, trained := s.hif.trained || l == .l0
            relock := l == .training && s.hif.trained && fld HIF_LINK.SPEED s != speed }
          pwr := if s.pwr.st = .run then s.pwr else { s.pwr with st := .run, srcAt := some (now s0) }
          pins := { s.pins with wakeN := if l = .l0 then false else s.pins.wakeN } } s') ∧
    (∀ l speed width, s.pins.perst = true → l ≠ .down →
      ∃ s', exec (.linkStateChange t l speed width) s = .next s' ∧ settles s0 s') ∧
    (linkUp s = true →
      ∃ s', exec (.pmeTurnOff t) s = .next s' ∧ s'.hif.pmeOff = true ∧
        (s.pwr.st = .run → settles { s0 with hif := { s.hif with pmeOff := true } } s') ∧
        (s.pwr.st = .graze ∨ s.pwr.st = .pen → s'.pwr.st = .run ∧ fld PWR_STATUS.WAKE_SRC s' = 0x0C ∧
          keepsRegs [PWR_STATUS.reg] s s')) ∧
    (s.hif.pmeOff = true → isIdle s0 = true →
      ∃ s', exec (.pmeToAck t) s = .next s' ∧ settles { s0 with hif := { s.hif with pmeOff := false } } s') ∧
    (s.hif.pmeOff = true → isIdle s0 = false → ∃ s', exec (.pmeToAck t) s = .next s' ∧ settles s0 s') ∧
    (s.pwr.st = .fallow → s.nv.ledgerReady = true →
      ∃ s', exec (.perstNAssert t false) s = .next s' ∧ fld PWR_RST_CAUSE.LINK s' = 1 ∧
        recordsOnly [] [PWR_RST_CAUSE.reg] { s0 with pins := { s.pins with perst := true } } s') ∧
    (∀ flr, s.pwr.st ≠ .fallow → s.nv.ledgerReady = true → (flr = true → linkUp s = true) →
      ∃ s', exec (.perstNAssert t flr) s = .next s' ∧
        recordsOnly [] (PWR_RST_CAUSE.reg :: PWR_STATUS.reg :: List.range 0x400)
          { (if flr = true then tlpWake s0 else s0) with pins := { s.pins with perst := s.pins.perst || !flr } } s' ∧
        fld PWR_RST_CAUSE.LINK s' = 1 ∧
        (∀ off < 0x400, off ≠ HIF_STATUS.reg → off ≠ HIF_LINK.reg → off ≠ HIF_FAULT.reg →
          regGet off s' = regReset s.part off) ∧
        flag HIF_STATUS.READY s' = flag HIF_STATUS.READY s ∧
        s'.hif.link = (if flr = true then s.hif.link else .down) ∧ s'.hif.qps = Hif.reset.qps ∧ s'.hif.busMaster = false ∧
        s'.hif.msixEn = false ∧ s'.hif.held = [] ∧ s'.hif.droverQ = s.hif.droverQ ∧
        (flr = true → regGet HIF_LINK.reg s' = regGet HIF_LINK.reg s) ∧
        (flr = false → regGet HIF_LINK.reg s' = regReset s.part HIF_LINK.reg ∧ s'.hif.trained = false) ∧
        s'.hif.flight = s.hif.flight.map (fun (f : Flight) => if isHost f.d then { f with discard := true } else f) ∧
        ∃ more, s'.hif.backlog = s.hif.backlog ++ more)

/-! ## Resets -/

/-- RESET_N_LOW, SYSTEM_RESET, POWER_ON_RESET, POR_RELEASE, SYSTEM_RESET_RELEASE, BROWN_OUT and BROWN_OUT_RELEASE: the low level takes the pads to the safe state at once; once accepted it resets the
device, which keeps TIMEBASE, the wall clock, the straps and the MRAM with every accepted write, holds every island but AON,
and has the cause in PWR_RST_CAUSE and in a record that waits for recall. A brown-out does the same with its own cause, and
counts; with its buffer drained in full it says DRAIN_DONE. Only a power-on clears TIMEBASE and all registers. The straps
give k when power comes, and a release on fast content powers every island, measures VHOLD and starts a Steep. -/
def Obligations.ResetsKeepTimeAndMram : Prop :=
  ∀ (s : State) (t : Nat), calm s = true → memorySafe s → shaped s → let s0 := elapse t s
    let fresh (s' : State) : Prop :=
      s'.hif.qps = Hif.reset.qps ∧ s'.hif.flight = [] ∧ s'.hif.held = [] ∧ s'.hif.droverQ = [] ∧ s'.hif.backlog = [] ∧
      s'.hif.link = .down ∧ s'.fold = Fold.reset ∧ s'.lf = Lf.reset ∧ s'.poll = none ∧ s'.uhf = Uhf.reset ∧
      s'.uwb = Uwb.reset ∧ s'.vrd = Vrd.reset ∧ s'.cry = Cry.reset ∧ s'.rng = Rng.reset ∧ s'.flk.perm = none ∧
      s'.flk.flock = none ∧ s'.flk.pair = none ∧ s'.lcy.service = none ∧ s'.lcy.drover = .off ∧ s'.lcy.otp = s.lcy.otp ∧
      s'.nv.ledgerReady = false ∧ s'.nv.loaded = false ∧ s'.nv.buf = [] ∧ keepsArray s s' ∧
      s'.pins.drive = 0 ∧ s'.pins.bridge = 0 ∧ s'.pins.lfdSafe = true ∧ s'.pins.startA = false ∧ s'.pins.startB = false ∧
      s'.pins.pa = false ∧ s'.pins.canStb = true
    let systemReset (s' : State) : Prop :=
      fresh s' ∧ s'.pins.straps = s.pins.straps ∧
      s'.pwr = { Pwr.reset with
        islands := 0x001, inReset := true, vaonDown := false, qual := s.pwr.qual, idleSince := s'.pwr.idleSince
        workAt := s'.pwr.workAt } ∧
      s'.clk = { Clk.reset with
        tb := s0.clk.tb, frac := s0.clk.frac, wall := s0.clk.wall, wallRem := s0.clk.wallRem, wallRun := s.clk.wallRun
        wallAt := s0.clk.wallAt, measAt := s0.clk.measAt, slew := s0.clk.slew
        content := if fastContent s = true then s.clk.content else .none, lastFast := s.clk.lastFast } ∧
      fld CLK_STATUS.WALL_STALE s' = fld CLK_STATUS.WALL_STALE s ∧
      (∀ off, off ∉ [PWR_RST_CAUSE.reg, PWR_CNT.reg, CLK_STATUS.reg, NVS_STATUS.reg] →
        regGet off s' = if systemKeeps off then regGet off s else regReset s.part off) ∧
      Buffered.device ⟨0x17, fld ⟨PWR_RST_CAUSE.reg, 0, 8⟩ s', 0, s0.clk.wall.toNat, now s0⟩ ∈ s'.lgr.buffered
    (∃ s', exec (.resetNLow t) s = .next s' ∧
      settles { s0 with pins := { s.pins with resetN := true } } s' ∧ s'.pins.drive = 0 ∧ s'.pins.bridge = 0 ∧
      s'.pins.lfdSafe = true) ∧
    (s.pins.resetN = true → s.pwr.vaonDown = false →
      ∃ s', exec (.systemReset t) s = .next s' ∧ systemReset s' ∧ fld PWR_RST_CAUSE.PIN s' = 1 ∧
        regGet PWR_CNT.reg s' = regGet PWR_CNT.reg s) ∧
    (s.pins.resetN = false → ∃ s', exec (.systemReset t) s = .next s' ∧ settles s0 s') ∧
    (∀ written torn, s.pwr.vaonDown = false → bufWords s0 ≤ written →
      ∃ s', exec (.brownOut t written torn) s = .next s' ∧ systemReset s' ∧ fld PWR_RST_CAUSE.BOD s' = 1 ∧
        fld PWR_CNT.BOD s' = sat PWR_CNT.BOD.width (fld PWR_CNT.BOD s + 1) ∧
        fld NVS_STATUS.DRAIN_DONE s' = 1 ∧ fld NVS_STATUS.DRAIN_CUT s' = 0) ∧
    (∀ torn, s.pwr.vaonDown = false → 0 < bufWords s0 →
      ∃ s', exec (.brownOut t 0 torn) s = .next s' ∧ s'.pwr.inReset = true ∧ s'.nv.buf = [] ∧
        fld NVS_STATUS.DRAIN_DONE s' = 0 ∧ fld NVS_STATUS.DRAIN_CUT s' = 1) ∧
    (∃ s', exec (.powerOnReset t) s = .next s' ∧ fresh s' ∧ s'.clk = Clk.reset ∧
      s'.pwr = { Pwr.reset with
        islands := 0x000, inReset := true, vaonDown := true, idleSince := s'.pwr.idleSince, workAt := s'.pwr.workAt } ∧
      fld PWR_RST_CAUSE.POR s' = 1 ∧ (∀ off, off ≠ PWR_RST_CAUSE.reg → regGet off s' = regReset s.part off)) ∧
    (∀ straps testN, s.pwr.vaonDown = true → straps < 16 → s.lcy.otp = 0 ∨ (14 ≤ s.lcy.otp ∧ s.lcy.otp ≤ 21) →
      ∃ s', exec (.porRelease t straps testN) s = .next s' ∧ fld CLK_STRAP.CFG s' = straps ∧
        fld CLK_STRAP.SRC s' = straps / 8 ∧
        fld CLK_STRAP.K s' = (if straps < 8 then 14 + straps else if s.lcy.otp = 0 then 21 else s.lcy.otp) ∧
        keepsRegs [CLK_STRAP.reg] s s' ∧
        settles { s0 with
          regs := s'.regs, pwr := { s.pwr with vaonDown := false, islands := 0x001 }
          pins := { s.pins with
            straps := BitVec.ofNat 4 straps, bridge := 0, testMode := !testN && lcState s0 == 0 } } s') ∧
    (∀ vhold vaon, s.pwr.inReset = true → s.pwr.vaonDown = false → fastContent s = true → s.pwr.qual = false →
      s.nv.ledgerReady = false → s.lgr.buffered.length < 64 →
      let released (s' : State) : Prop :=
        recordsOnly [] [NVS_HOLD.reg, NVS_STATUS.reg, RNG_STATUS.reg, RNG_REQ_CNT.reg, TMR_PINFn.reg 5]
          { s0 with
            pwr := { s.pwr with inReset := false, islands := allIslands s }
            pins := { s.pins with resetN := false }
            nv := { s0.nv with holdWasLow := decide (vhold + 30 < vaon), holdAt := some (now s0) }
            uhf := { s.uhf with walk := repower true (now s0) s.uhf.walk }
            uwb := { s.uwb with walk := repower true (now s0) s.uwb.walk } } s' ∧
        regGet (TMR_PINFn.reg 5) s' = (if isRetired s = true then 0 else regGet (TMR_PINFn.reg 5) s) ∧
        fld NVS_HOLD.HOLD_CV s' = min vhold 511 ∧ flag NVS_STATUS.HOLD_LOW s' = decide (vhold + 30 < vaon) ∧
        rngState s' = (if rngState s = 4 then 4 else 1) ∧
        (vaon ≤ vhold + 30 → s'.lgr = s.lgr) ∧
        (vhold + 30 < vaon →
          s'.lgr.buffered = s.lgr.buffered ++ [.device ⟨0x19, 0, min vhold 511, s0.clk.wall.toNat, now s0⟩])
      (∃ s', exec (.systemResetRelease t vhold vaon) s = .next s' ∧ released s') ∧
      (s.pins.resetN = false → ∃ s', exec (.brownOutRelease t vhold vaon) s = .next s' ∧ released s') ∧
      (s.pins.resetN = true → ∃ s', exec (.brownOutRelease t vhold vaon) s = .next s' ∧ settles s0 s'))

/-- PWR_ISLAND_RST, ISLAND_HANG, RESET_N_PULSE_REJECTED and DROVER_WATCHDOG_EXPIRY: a write to PWR_ISLAND_RST, a hang, a RESET_N pulse too short and the Drover watchdog reset their
island, with its cause in the ISLAND event and in PWR_RST_CAUSE; a powered-down island is ignored, and a third hang within
1 s resets the device. The CAN island loses its queue and error state, LFS its queue and drive phases; Drover boots
again. -/
def Obligations.IslandsAreResetAlone : Prop :=
  ∀ (s : State) (t : Nat), live s = true → memorySafe s → shaped s → s.nv.ledgerReady = true → let s0 := elapse t s
    let told (i : Island) (cause : Nat) (s' : State) : Prop :=
      canDeliver (evtPair (now s0) s) s = false → s.hif.overflow = none → s.hif.backlog.length < 255 →
        ∃ more, s'.hif.backlog = s.hif.backlog ++
          [{ code := 0x09, status := stIslandReset, seq := s.hif.evtSeq.toNat, ts := now s0, det := 0
             res := fit 14 [byteOf i.bit, byteOf cause] }] ++ more
    let canReset (cause : Nat) (bitSet : Field) (pwr : Pwr) (s' : State) : Prop :=
      recordsOnly [] [FLK_CAN_STAT.reg, PWR_RST_CAUSE.reg] { s0 with flk := { s.flk with txq := [] }, pwr := pwr } s' ∧
      regGet FLK_CAN_STAT.reg s' = 0 ∧ fld bitSet s' = 1 ∧ told .can cause s'
    (∀ v, (∀ x ∈ rstIslands, bit x.1 (v : Word).toNat = false ∨ islandOn x.2 s = false) → islandOn .pcie s = true →
      s.pwr.st = .run →
      ∃ s', exec (.pwrIslandRst t v) s = .next s' ∧ settles (written t PWR_ISLAND_RST.reg s) s') ∧
    (islandOn .can s = true → islandOn .pcie s = true → s.pwr.st = .run →
      ∃ s', exec (.pwrIslandRst t 0x40) s = .next s' ∧ canReset 2 PWR_RST_CAUSE.HOSTISL s.pwr s') ∧
    (islandOn .can s = true → tbRuns s = true → quietFor .can (msTicks 10) s0 = true →
      let recent := s.pwr.hangs.filter (fun h => now s0 < h.2 + secTicks 1)
      let pwr := { s.pwr with hangs := recent ++ [(Island.can.bit, now s0)] }
      (recent.countP (fun h => h.1 = Island.can.bit) < 2 →
        ∃ s', exec (.islandHang t Island.can.bit) s = .next s' ∧ canReset 3 PWR_RST_CAUSE.HANG pwr s') ∧
      (2 ≤ recent.countP (fun h => h.1 = Island.can.bit) →
        ∃ s', exec (.islandHang t Island.can.bit) s = .next s' ∧ s'.pwr.inReset = true ∧ s'.pwr.islands = 0x001 ∧
          s'.clk.tb = s0.clk.tb ∧ fld PWR_RST_CAUSE.HANG s' = 1 ∧ keepsArray s s')) ∧
    (s.pins.resetN = true → s.lf.run = none → s.lf.cals = [] → s.hif.flight = [] →
      ∃ s', exec (.resetNPulseRejected t) s = .next s' ∧
        recordsOnly [] []
          { s0 with
            pins := { s.pins with resetN := false }
            lf := { s.lf with queue := [], wait := [] } } s' ∧ told .lfs 4 s') ∧
    (tbRuns s = false ∨ droverQuiet s0 = false →
      ∃ s', exec (.droverWatchdogExpiry t) s = .next s' ∧ settles s0 s') ∧
    (islandOn .drover s = true → tbRuns s = true → droverQuiet s0 = true →
      ∃ s', exec (.droverWatchdogExpiry t) s = .next s' ∧
        fld PWR_RST_CAUSE.WDT s' = 1 ∧ fld PWR_CNT.WDT s' = sat PWR_CNT.WDT.width (fld PWR_CNT.WDT s + 1)) ∧
    (islandOn .drover s = true → tbRuns s = true → s.lcy.drover = .booting → droverQuiet s0 = true →
      s.hif.droverQ = [] → s.hif.flight = [] → s.lcy.trial = none → s.mon.desc = none →
      (∀ n < 32, (qp n s).blkDrv = false) →
      ∃ s', exec (.droverWatchdogExpiry t) s = .next s' ∧
        recordsOnly [] [FLK_STATUS.reg, PWR_RST_CAUSE.reg, PWR_CNT.reg]
          { s0 with
            flk := { s.flk with learn := none, stage := none, staged := none }
            lf := { s.lf with cals := [] }
            lcy := { s.lcy with
              pendAct := none, steepWait := s.lcy.steepWait.filter (fun w => !opFirmware w.1.opcode)
              progress := now s0 } } s' ∧
        fld PWR_RST_CAUSE.WDT s' = 1 ∧ fld PWR_CNT.WDT s' = sat PWR_CNT.WDT.width (fld PWR_CNT.WDT s + 1) ∧
        fld FLK_STATUS.BW_WAIT s' = 0 ∧ told .drover 1 s')

/-! ## Restart -/

/-- NV_RECALL, CONFIGURATION_LOAD, DROVER_BOOT and FALLOW_EXIT: recall makes the ledger ready and the records readable, and begins an empty ledger with GENESIS in
block 1; the configuration load puts each stored set-up into its registers, or leaves VALID 0, loads the fold tree, sets
READY and boots Drover from a bootable bank; a boot whose image verifies has Drover ready, or loaded for the activation that
waits. An exit from Fallow does all of it, keeping the AON registers and TIMEBASE. -/
def Obligations.StartsRecallLoadAndBoot : Prop :=
  ∀ (s : State) (t : Nat), live s = true → memorySafe s → shaped s → let s0 := elapse t s
    (fastContent s = true → islandOn .nvs s = true → s.nv.ledgerReady = false →
      ∃ s', exec (.nvRecall t) s = .next s' ∧ s'.nv.loaded = true ∧ s'.nv.ledgerReady = true ∧
        s'.lgr.w = ((recRead recW s).map (leAt 0 4)).getD 0 ∧ (∀ id, recRead id s' = recRead id s) ∧
        (s.nv.bad = [] → allZero (slice 0 4 (blockBytes 1 s)) = true → allZero (slice 0 4 (blockBytes (lgrN s) s)) = true →
          isRetired s = false → s.nv.worn = [] → s.lgr.buffered = [] → s.lgr.waiting = [] → s.lgr.hostWait = [] →
          s.lgr.lost = 0 → s.clk.wallRun = true → recRead recW s = none →
          lgrTail s' = 1 ∧ s'.lgr.openRecs = some 1 ∧ s'.lgr.head = 1 ∧
          nvPeek (blockAddr 1 s) 16 s' = leBytes 4 1 ++ leBytes 4 (s0.clk.wall.toNat / 65536)
            ++ recordBytes 0x01 (lcState s) (s0.clk.wall.toNat % 65536 / 1024) 0)) ∧
    (s.nv.loaded = true → s.nv.ledgerReady = true → fastContent s = true → flag HIF_STATUS.READY s = false →
      ∃ s', exec (.configurationLoad t) s = .next s' ∧ flag HIF_STATUS.READY s' = true ∧ s'.pwr.aonLoad = false ∧
        (∀ b, recRead recTree s = some b → s'.fold.live = parseTree b ∧ s'.fold.staging = parseTree b ∧
          s'.fold.retired = parseRetired b ∧ fld FLD_CTL.VALID s' = 1) ∧
        (recRead recTree s = none → s'.fold.live = Tree.empty ∧ fld FLD_CTL.VALID s' = 0) ∧
        (∀ c ∈ [(recLfe, LFE_CTL.VALID), (recUhf, UHF_CTL.VALID), (recUwb, UWB_CTL.VALID), (recVrd, VRD_CTL.VALID),
            (recFlk, FLK_CTL.VALID), (recCry, CRY_CTL.VALID)], (recRead c.1 s).isSome = flag c.2 s') ∧
        (∀ b, recRead recUhf s = some b → ∀ i < uhfSetup.length, uhfSetup.getD i 0 ≠ UHF_CTL.reg →
          regGet (uhfSetup.getD i 0) s' = BitVec.ofNat 32 (leAt (4 * i) 4 b)) ∧
        (s.pwr.aonLoad = true → fld PWR_HINT_TOL.TOL_US s' =
          ((recRead recHint s).map (leAt 0 4)).getD 0xFFFFFFFF) ∧
        (s.lcy.trial = none → bootable (((recRead recSel s).map (byteAt 0)).getD 0 % 2) s = true →
          s'.lcy.drover = .booting ∧ s'.lcy.running = ((recRead recSel s).map (byteAt 0)).getD 0 % 2) ∧
        (bootable 0 s = false → bootable 1 s = false → s'.lcy.drover = .noFw)) ∧
    (s.lcy.drover = .booting → let b := s.lcy.running
      bankValid b s = true → sha256 (bankPlain b (nvPeek (bankAddr b) 256 s) s) = slice 32 32 (nvPeek (bankAddr b) 256 s) →
      ∃ s', exec (.droverBoot t) s = .next s' ∧ s'.lcy.drover = (if s.lcy.pendAct.isSome then .loaded else .ready) ∧
        s'.lcy.progress = now s0 ∧ s'.lcy.trial = s.lcy.trial.map (fun x => (x.1, now s0)) ∧
        settles { s0 with lcy := s'.lcy, lgr := { s.lgr with ckpt := s'.lgr.ckpt }, regs := s'.regs } s' ∧
        keepsRegs [LGR_STATUS.reg] s s') ∧
    (∀ w freq, s.pwr.st = .fallow → leavesFallow w s = true → isFast (classOf freq) = true →
      s.lgr.buffered = [] → s.pwr.aonLoad = false → s.pwr.srcAt ≠ some (now s0) →
      ∃ s', exec (.fallowExit t w freq) s = .next s' ∧ s'.pwr.st = .run ∧ s'.pwr.entering = none ∧
        s'.pwr.islands = allIslands s ∧ s'.pwr.edgeArmed = false ∧ s'.clk.content = classOf freq ∧
        (classOf freq = .fast38 → s'.clk.tb = s.clk.tb) ∧ fld CLK_MEAS.FREQ s' = sat 23 freq ∧
        fld PWR_RST_CAUSE.FALLOW s' = 1 ∧ fld PWR_STATUS.WAKE_SRC s' = wakeCode w ∧
        s'.nv.ledgerReady = true ∧ s'.nv.loaded = true ∧ flag HIF_STATUS.READY s' = true ∧ s'.hif.qps = Hif.reset.qps ∧
        (∀ e < 16, regGet (PWR_SCHEDn.reg e) s' = regGet (PWR_SCHEDn.reg e) s) ∧
        fld PWR_HINT_TOL.TOL_US s' = fld PWR_HINT_TOL.TOL_US s ∧ fld PWR_HINT_KEEP.KEEP s' = fld PWR_HINT_KEEP.KEEP s ∧
        regGet LCY_CTL.reg s' = regGet LCY_CTL.reg s ∧
        ∀ b, recRead recTree s = some b → s'.fold.live = parseTree b)

/-! ## Firmware and lifecycle -/

/-- FW_STAGE: a chunk that passes the checks of R418 stands in its bank as sent; the first makes the bank invalid and needs a
good header; the last, whose image's tag and digest hold, makes the bank valid with the header's VERSION and is recorded,
and one that fails leaves the bank invalid. A wrong OFFSET or length restarts staging; the running bank, or any bank during
a trial, is BAD_HANDLE. -/
def Obligations.FirmwareIsStaged : Prop :=
  ∀ (s : State) (t : Nat) (d : Desc) (b : Bytes), serves t d s → isRow 0x68 d = true → p8 d 4 ≤ 1 → parNonzero 5 24 d = none →
    s.nv.worn = [] → s.nv.wornRecs = [] → s.nv.ledgerReady = true → d.target < 2 → d.len % 16 = 0 → p32 d 0 % 16 = 0 →
    p32 d 0 + d.len ≤ 0x100000 → dmaRead d d.srcAddr d.len s = some b → let s0 := elapse t s
    let off := p32 d 0; let a := bankAddr d.target + off; let last := bit 0 (p8 d 4)
    let h := if off = 0 then b.take 256 else nvPeek (bankAddr d.target) 256 s
    let ended (s1 : State) : State :=
      { s0 with lcy := { s.lcy with stage := none }, nv := { s0.nv with recs := s1.nv.recs, twins := s1.nv.twins } }
    let bankLost (s1 : State) : Prop :=
      bankValid d.target s1 = false ∧ ∀ id, id ≠ recBank d.target → recGet id s1 = recGet id s
    let outside (s1 : State) : Prop := ∀ x < 0x400000, x < a ∨ a + d.len ≤ x → mget nvDflt s1.nv.mem x = mget nvDflt s.nv.mem x
    (runsBank d.target s = true ∨ s.lcy.trial.isSome = true →
      ∃ s', exec (.fwStage t d) s = .next s' ∧ turnedAway d stBadHandle 4 s0 s') ∧
    (runsBank d.target s = false → s.lcy.trial = none →
      (off = 0 → d.len < 256 → ∃ s', exec (.fwStage t d) s = .next s' ∧ turnedAway d stBadLen 8 s0 s') ∧
      (off ≠ 0 → off ≠ stagedCount d.target s →
        ∃ s1 s', exec (.fwStage t d) s = .next s' ∧ turnedAway d stBadLen 32 s1 s' ∧
          bankLost s1 ∧ recordsOnly [] [] (ended s1) s1) ∧
      (off = 0 → 256 ≤ d.len → ∀ st det, headerBad h s = some (st, det) →
        ∃ s1 s', exec (.fwStage t d) s = .next s' ∧
          (if st = stBadLen then turnedAway d st det s1 s' else answers d st [] det s1 s') ∧ bankLost s1 ∧
          recordsOnly [] [CRY_PKE_CNT.reg, CRY_CNT1.reg] (ended s1) s1) ∧
      (off = 0 ∧ 256 ≤ d.len ∧ headerBad h s = none ∨ off ≠ 0 ∧ off = stagedCount d.target s →
        (last = false → off + d.len ≤ 256 + imgLen h →
          ∃ s1 s', exec (.fwStage t d) s = .next s' ∧ answers d stOk (stageResult (off + d.len) h false) 0 s1 s' ∧
            s1 = { s0 with
              regs := s1.regs, nv := s1.nv, lcy := { s.lcy with stage := some ⟨d.target, off + d.len⟩ } } ∧
            nvPeek a d.len s1 = b ∧ outside s1 ∧ (off = 0 → bankValid d.target s1 = false) ∧
            (∀ id, id ≠ recBank d.target ∨ off ≠ 0 → recGet id s1 = recGet id s) ∧ keepsRegs [CRY_PKE_CNT.reg] s s1) ∧
        (256 + imgLen h < off + d.len ∨ last = true ∧ off + d.len ≠ 256 + imgLen h →
          ∃ s1 s', exec (.fwStage t d) s = .next s' ∧ turnedAway d stBadLen 36 s1 s' ∧ bankLost s1 ∧
            recordsOnly [] [CRY_PKE_CNT.reg] (ended s1) s1) ∧
        (last = true → off + d.len = 256 + imgLen h →
          let s2 := { s with nv := { s.nv with mem := mwrite nvDflt s.nv.mem a b } };
            (imageBad d.target h s2 = none →
              ∃ s1 s', exec (.fwStage t d) s = .next s' ∧
                answers d stOk (stageResult (off + d.len) h (decide (minVer s ≤ leAt 4 4 h))) 0 s1 s' ∧
                bankValid d.target s' = true ∧ bankVersion d.target s' = leAt 4 4 h ∧ nvPeek a d.len s' = b ∧
                outside s1 ∧ keepsRegs (CRY_PKE_CNT.reg :: recordRegs) s s1 ∧
                blankRecords s1 = blankRecords (ended s1)) ∧
            (∀ st det, imageBad d.target h s2 = some (st, det) →
              ∃ s1 s', exec (.fwStage t d) s = .next s' ∧ answers d st [] det s1 s' ∧ bankLost s1 ∧ outside s1 ∧
                blankRecords s1 = blankRecords (ended s1) ∧ keepsRegs (CRY_PKE_CNT.reg :: CRY_CNT0.reg :: recordRegs) s s1 ∧
                fld CRY_CNT0.TAG_FAIL s1 = sat CRY_CNT0.TAG_FAIL.width
                  (fld CRY_CNT0.TAG_FAIL s + b2n (decide (st = stTagFail)))))))

/-- FW_ACTIVATE_TRIAL boots a bootable bank that does not run, and waits for it; FW_ACTIVATE_CONFIRM stores the selection,
raises MINVER to the bank's VERSION unless KEEP_MIN and ends the trial; FW_ACTIVATE_REVERT boots the previous bank. With
FW_READY, the firmware's report, the activation completes after its record. FW_TRIAL_TIMEOUT: firmware on trial that does
not report within 100 ms goes back. -/
def Obligations.FirmwareIsActivated : Prop :=
  ∀ (s : State) (t : Nat), live s = true → memorySafe s → shaped s → s.nv.ledgerReady = true → let s0 := elapse t s
    let boots (d : Desc) (bank : Nat) (trial : Option (Nat × Nat)) (s' : State) : Prop :=
      let s1 := atWork d s0
      settles { s1 with
        lcy := { s1.lcy with
          running := bank, drover := .booting, progress := now s0, trial := trial, pendAct := some d }
        hif := { s1.hif with
          flight := s1.hif.flight.map (fun (f : Flight) => if isHost f.d then f else { f with discard := true }) }
        mon := s'.mon } s' ∧ (s.mon.desc = none → s'.mon = s.mon)
    (∀ d, serves t d s → isMode 0x69 0 d = true → parNonzero 1 24 d = none →
      (bootable d.target s = true → runsBank d.target s = false → s.lcy.trial = none →
        ∃ s', exec (.fwActivateTrial t d) s = .next s' ∧ boots d d.target (some (s.lcy.running, now s0)) s') ∧
      (bootable d.target s = false ∨ runsBank d.target s = true ∨ s.lcy.trial.isSome = true →
        ∃ s', exec (.fwActivateTrial t d) s = .next s' ∧ turnedAway d stBadHandle 4 s0 s')) ∧
    (∀ d, serves t d s → isMode 0x69 1 d = true → p8 d 1 ≤ 1 → parNonzero 2 24 d = none →
      (onTrial d.target s = true → s.nv.worn = [] → s.nv.wornRecs = [] → (tally 248 s).isSome = true → tallyVal 248 s < tallyMax →
        ∃ s1 s', exec (.fwActivateConfirm t d) s = .next s' ∧ answers d stOk (activateResult s1) 0 s1 s' ∧
          recordsOnly [248] [NVS_TALLY_CNT.reg]
            { s0 with
              lcy := { s.lcy with sel := d.target, trial := none, pendAct := none }
              nv := { s0.nv with recs := s1.nv.recs, twins := s1.nv.twins, incAt := s1.nv.incAt } } s1 ∧
          recRead recSel s1 = some [byteOf d.target] ∧
          minVer s1 = (if p8 d 1 = 0 then max (minVer s) (bankVersion d.target s) else minVer s)) ∧
      (onTrial d.target s = false →
        ∃ s', exec (.fwActivateConfirm t d) s = .next s' ∧ turnedAway d stBadHandle 4 s0 s')) ∧
    (∀ d, serves t d s → isMode 0x69 2 d = true → parNonzero 1 24 d = none →
      (∀ prev x, s.lcy.trial = some (prev, x) → onTrial d.target s = true →
        ∃ s', exec (.fwActivateRevert t d) s = .next s' ∧ boots d prev none s') ∧
      (onTrial d.target s = false →
        ∃ s', exec (.fwActivateRevert t d) s = .next s' ∧ turnedAway d stBadHandle 4 s0 s')) ∧
    (s.lcy.drover = .loaded →
      (∀ d, s.lcy.pendAct = some d → heard d s0 = true →
        ∃ s1 s', exec (.fwReady t) s = .next s' ∧ answers d stOk (activateResult s1) 0 s1 s' ∧
          recordsOnly [] [] { s0 with lcy := { s.lcy with drover := .ready, progress := now s0, pendAct := none } } s1) ∧
      (s.lcy.pendAct = none → ∃ s', exec (.fwReady t) s = .next s' ∧
        settles { s0 with lcy := { s.lcy with drover := .ready, progress := now s0 } } s')) ∧
    (∀ prev x, s.lcy.trial = some (prev, x) →
      (s.lcy.drover ≠ .ready → x + msTicks 100 ≤ now s0 → (∀ d, s.lcy.pendAct = some d → isHost d = true) →
        ∃ s', exec (.fwTrialTimeout t) s = .next s' ∧
          recordsOnly [] [LCY_CNT.reg]
            { s0 with lcy := { s.lcy with
                running := prev, drover := .booting, progress := now s0, trial := none, pendAct := none } } s' ∧
          fld LCY_CNT.REVERTS s' = sat LCY_CNT.REVERTS.width (fld LCY_CNT.REVERTS s + 1) ∧
          ∀ d, s.lcy.pendAct = some d → ∀ f ∈ s'.hif.flight, f.is d = false) ∧
      (s.lcy.drover = .ready ∨ now s0 < x + msTicks 100 →
        ∃ s', exec (.fwTrialTimeout t) s = .next s' ∧ settles s0 s'))

/-- LIFECYCLE_CHALLENGE draws a nonce into DST that a signed request uses up, and that LIFECYCLE_NONCE_EXPIRY ends after
300 s; LIFECYCLE_FLEET_KEY stores a key that lies on the curve; LIFECYCLE_OTP_K programs k once. LIFECYCLE_ADVANCE to the
present state changes nothing; Provisioned to Field counts in counter 249 when a bank is bootable; a signed request enters
Service for SVC_MAX minutes, a second one starts that time again, and a failed one only counts; Service ends by ADVANCE, or
with SERVICE_TIMEOUT at its time. Out of Blank, which
needs a fleet key, the ledger begins anew with GENESIS. Into Retired the permission ends, the ledger closes and, with its
last statement stored, the keys are gone. Every change is recorded and ends an unlock. -/
def Obligations.LifecycleAdvances : Prop :=
  ∀ (s : State) (t : Nat), live s = true → memorySafe s → shaped s → s.nv.ledgerReady = true → s.nv.worn = [] →
    s.nv.wornRecs = [] → let s0 := elapse t s
    let result (prev : Nat) (s1 : State) : Bytes :=
      [byteOf (lcState s1), byteOf prev] ++ leBytes 6 (tallyVal 249 s1) ++ leBytes 4 (svcLeft s1)
    (∀ d, serves t d s → isMode 0x6A 0 d = true → p8 d 1 = 0 → parNonzero 2 24 d = none →
      (rngState s = 2 → dmaBlocked d d.dstAddr 16 s = false →
        ∃ s1 s', exec (.lifecycleChallenge t d) s = .next s' ∧
          answers d stOk (result (lcState s) s1) 0 (dmaWrite d d.dstAddr (freeBytes 16 s0) s1) s' ∧
          s1 = { s0 with
            regs := s1.regs, free := s.free + 16, lcy := { s.lcy with nonce := some (freeBytes 16 s0, now s0) } } ∧
          keepsRegs [RNG_REQ_CNT.reg, RNG_STATUS.reg] s s1) ∧
      (rngState s < 2 → ∃ s', exec (.lifecycleChallenge t d) s = .next s' ∧
        settles { atWork d s0 with
          lcy := { s.lcy with steepWait := s.lcy.steepWait ++ [(d, now s0 + timeoutTicks d 100)] } } s') ∧
      (rngState s = 3 ∨ rngState s = 4 →
        ∃ s', exec (.lifecycleChallenge t d) s = .next s' ∧ answers d stHealth [] 0 s0 s')) ∧
    (∀ d sig, serves t d s → isMode 0x6A 1 d = true → parNonzero 2 24 d = none → dmaRead d d.srcAddr 64 s = some sig →
      let dest := p8 d 1; let v := tallyVal 249 s
      let pass : Prop := ∃ n key, validNonce s0 = some n ∧ fleetKey s = some key ∧
        ecdsaVerify key (sha256 (signedMsg n 1 dest [] s0)) sig = true
      (1 ≤ dest → dest ≤ 4 → lcState s = dest → dest ≠ 3 →
        ∃ s', exec (.lifecycleAdvance t d) s = .next s' ∧ answers d stOk (result dest s0) 0 s0 s') ∧
      (lcState s = 1 → dest = 2 → s.lcy.service = none →
        (bootable 0 s = true ∨ bootable 1 s = true → (tally 249 s).isSome = true →
          ∃ s1 s', exec (.lifecycleAdvance t d) s = .next s' ∧ answers d stOk (result 1 s1) 0 s1 s' ∧
            lcState s1 = 2 ∧ tallyVal 249 s1 = v + 1 ∧
            recordsOnly [249] [NVS_TALLY_CNT.reg] { s0 with nv := { s0.nv with incAt := s1.nv.incAt } } s1) ∧
        (bootable 0 s = false → bootable 1 s = false →
          ∃ s1 s', exec (.lifecycleAdvance t d) s = .next s' ∧ answers d stForbidden [] 0xFF s1 s' ∧
            recordsOnly [] [HIF_VIOL_CNT.reg] s0 s1)) ∧
      (lcState s = 2 → dest = 3 → pass →
        ∃ s1 s', exec (.lifecycleAdvance t d) s = .next s' ∧ answers d stOk (result 2 s1) 0 s1 s' ∧ lcState s1 = 3 ∧
          recordsOnly [] [LCY_CNT.reg, CRY_PKE_CNT.reg]
            { s0 with lcy := { s.lcy with
                nonce := none
                service := some (now s0 + secTicks (60 * fld LCY_CTL.SVC_MAX s), fld LCY_CTL.SVC_MAX s) } } s1 ∧
          fld LCY_CNT.SVC s1 = sat LCY_CNT.SVC.width (fld LCY_CNT.SVC s + 1)) ∧
      (lcState s = 3 → dest = 3 → pass → ∀ e m, s.lcy.service = some (e, m) →
        ∃ s1 s', exec (.lifecycleAdvance t d) s = .next s' ∧ answers d stOk (result 3 s1) 0 s1 s' ∧
          s1 = { s0 with
            regs := s1.regs, lcy := { s.lcy with nonce := none, service := some (now s0 + secTicks (60 * m), m) } } ∧
          keepsRegs [CRY_PKE_CNT.reg] s s1) ∧
      (lcState s = 2 ∨ lcState s = 3 → dest = 3 ∨ dest = 4 → ¬ pass →
        ∃ s1 s', exec (.lifecycleAdvance t d) s = .next s' ∧ answers d stMacFail [] 0 s1 s' ∧
          recordsOnly [] [LCY_CNT.reg, CRY_PKE_CNT.reg, CRY_CNT1.reg] { s0 with lcy := { s.lcy with nonce := none } } s1 ∧
          fld LCY_CNT.AUTH_FAIL s1 = sat LCY_CNT.AUTH_FAIL.width (fld LCY_CNT.AUTH_FAIL s + 1)) ∧
      (lcState s = 3 → dest = 2 →
        ∃ s1 s', exec (.lifecycleAdvance t d) s = .next s' ∧ answers d stOk (result 3 s1) 0 s1 s' ∧ lcState s1 = 2 ∧
          recordsOnly [] [] { s0 with lcy := { s.lcy with service := none } } s1) ∧
      (lcState s = 0 → dest = 1 → (fleetKey s).isSome = true → (tally 249 s).isSome = true → s.lgr.closed = false →
        s.lgr.lost = 0 → s0.clk.wall.toNat < 2 ^ 48 →
        ∃ s', exec (.lifecycleAdvance t d) s = .next s' ∧ lcState s' = 1 ∧ tallyVal 249 s' = 1 ∧ lgrTail s' = 1 ∧
          s'.lgr.w = 0 ∧ s'.lgr.signed = 0 ∧ (∀ q, 2 ≤ q → q ≤ lgrN s → nvPeek (blockAddr q s) 8 s' = List.replicate 8 0) ∧
          nvPeek (blockAddr 1 s) 4 s' = leBytes 4 1 ∧ nvPeek (blockAddr 1 s + 8) 2 s' = [0x01, 1] ∧
          nvPeek (blockAddr 1 s + 16) 2 s' = [0x50, 1] ∧ fld RNG_CTL.TEST_SRC s' = 0 ∧
          (∀ k < 256, recRead (recStatement k) s' = none) ∧ ∀ f ∈ s'.hif.flight, f.is d = false) ∧
      (lcState s = 1 → dest = 4 → (tally 249 s).isSome = true → finalStored s = true →
        ∃ s', exec (.lifecycleAdvance t d) s = .next s' ∧ lcState s' = 4 ∧ tallyVal 249 s' = 3 ∧ s'.flk.perm = none ∧
          s'.lgr.closed = true ∧ s'.lgr.openRecs = none ∧ s'.lcy.keysGone = true ∧ s'.lcy.retiring = false ∧
          s'.flk.flock = none ∧ s'.flk.pair = none ∧ s'.flk.zeroised = true ∧ s'.cry.holders = [] ∧
          (∀ x ∈ s'.cry.slots, x.kind = 0) ∧ ∀ f ∈ s'.hif.flight, f.is d = false)) ∧
    (∀ d key, serves t d s → isMode 0x6A 2 d = true → p8 d 1 = 0 → parNonzero 2 24 d = none → lcState s ≤ 1 → d.len = 64 →
      dmaRead d d.srcAddr 64 s = some key →
      (pubOk key = true → ∃ s1 s', exec (.lifecycleFleetKey t d) s = .next s' ∧
        answers d stOk (result (lcState s) s1) 0 s1 s' ∧ recRead recFleet s' = some key ∧
        (∀ id, id ≠ recFleet → recGet id s' = recGet id s) ∧ s1.nv.mem = s.nv.mem ∧
        s1 = { s0 with nv := s1.nv }) ∧
      (pubOk key = false → ∃ s', exec (.lifecycleFleetKey t d) s = .next s' ∧ turnedAway d stBadLen 0xFF s0 s')) ∧
    (∀ d b, serves t d s → isMode 0x6A 3 d = true → p8 d 1 = 0 → parNonzero 2 24 d = none → dmaRead d d.srcAddr 4 s = some b →
      (s.lcy.otp = 0 → 14 ≤ byteAt 0 b → byteAt 0 b ≤ 21 → allZero (b.drop 1) = true →
        ∃ s', exec (.lifecycleOtpK t d) s = .next s' ∧
          answers d stOk (result (lcState s) s0) 0 { s0 with lcy := { s.lcy with otp := byteAt 0 b } } s') ∧
      (s.lcy.otp ≠ 0 → ∃ s', exec (.lifecycleOtpK t d) s = .next s' ∧ turnedAway d stBadLen 32 s0 s')) ∧
    (∀ e m, s.lcy.service = some (e, m) →
      (e ≤ now s0 → ∃ s', exec (.serviceTimeout t) s = .next s' ∧
        recordsOnly [] [] { s0 with lcy := { s.lcy with service := none } } s') ∧
      (now s0 < e → ∃ s', exec (.serviceTimeout t) s = .next s' ∧ settles s0 s')) ∧
    (∀ n x, s.lcy.nonce = some (n, x) →
      (x + secTicks 300 ≤ now s0 → ∃ s', exec (.lifecycleNonceExpiry t) s = .next s' ∧
        settles { s0 with lcy := { s.lcy with nonce := none } } s') ∧
      (now s0 < x + secTicks 300 → ∃ s', exec (.lifecycleNonceExpiry t) s = .next s' ∧ settles s0 s'))

/-! ## Monitor -/

/-- A line of the monitor (R422, R423, R425) that Drover serves counts and gets its answer and the prompt. MON_INFO, MON_TB
and MON_LOCK need no access; any other needs Blank, Service or an unlock, and is refused without. MON_RD reads and MON_WR
writes a register as the host does, but no LCY_ or MON_ one; MON_BUF is the monitor's buffer; MON_DESC hands a descriptor to
the Drover port, which takes the port's turn; MON_FOLDS, MON_LEDGER and MON_RNG show what the descriptors of the same content
show; MON_EVT and MON_BAUD set the echo and the rate. A word that is none of these, MON_UNKNOWN_COMMAND, is ERR 01, and a
malformed argument ERR 02. -/
def Obligations.MonitorAnswersLines : Prop :=
  ∀ (s : State) (t : Nat), live s = true → memorySafe s → shaped s → monServes s = true → let s0 := elapse t s
    let s1 := bump MON_CNT.COMMANDS { s0 with mon := { s.mon with lastCmd := now s0 } }
    let spoken (ls : List String) (x : State) : State :=
      { x with mon := { x.mon with out := "bv> " :: (ls.reverse ++ x.mon.out) } }
    let shows (ls : List String) (x s' : State) : Prop := settles (spoken ls x) s'
    fld MON_CNT.COMMANDS s1 = sat 16 (fld MON_CNT.COMMANDS s + 1) ∧ keepsRegs [MON_CNT.reg] s s1 ∧
    (∃ s', exec (.monInfo t) s = .next s' ∧ shows [infoText s] s1 s') ∧
    (∃ s', exec (.monTb t) s = .next s' ∧
      shows ["OK " ++ hexNat 16 (now s0) ++ " " ++ hexNat 16 s0.clk.wall.toNat ++ " " ++ hexNat 8 (ptime s)] s1 s') ∧
    (∃ s', exec (.monLock t) s = .next s' ∧ shows ["OK"] { s1 with mon := { s1.mon with unlocked := false } } s') ∧
    (∃ s', exec (.monUnknownCommand t) s = .next s' ∧ shows ["ERR 01"] s1 s') ∧
    (∀ addr count value off bs node q on code o, ∀ c ∈ [Instr.monRd t addr count, .monWr t addr value, .monBuf t off bs,
        .monDesc t bs, .monFolds t node, .monLedger t q count, .monRng t o, .monEvt t on, .monBaud t code],
      monAllowed s = false → ∃ s', exec c s = .next s' ∧ shows ["ERR 06"] s1 s') ∧
    (monAllowed s = true →
      (∀ addr count, ∃ s', exec (.monRd t addr count) s = .next s' ∧
        (0 < count → count ≤ 64 → addr + 4 * count ≤ 0x4000 →
          shows ["OK" ++ String.join ((barReads count addr s1).1.map (fun w => " " ++ hexNat 8 w.toNat))]
            (barReads count addr s1).2 s') ∧
        (count = 0 ∨ 64 < count ∨ 0x4000 < addr + 4 * count → shows ["ERR 02"] s1 s')) ∧
      (∀ addr value, ∃ s', exec (.monWr t addr value) s = .next s' ∧
        (addr < 0x2C00 → settles (settleFolds (flushDisplaced (spoken ["OK"] (barWrite addr value s1)))) s') ∧
        (0x2C00 ≤ addr → addr < 0x4000 → shows ["ERR 06"] s1 s') ∧
        (0x4000 ≤ addr → shows ["ERR 02"] s1 s')) ∧
      (∀ off bs, ∃ s', exec (.monBuf t off bs) s = .next s' ∧
        (bs ≠ [] → bs.length ≤ 64 → off + bs.length ≤ 4096 →
          shows ["OK"] { s1 with monMem := s'.monMem } s' ∧ mread zeroByte s'.monMem off bs.length = bs ∧
          ∀ a, a < off ∨ off + bs.length ≤ a → mget zeroByte s'.monMem a = mget zeroByte s.monMem a) ∧
        (bs = [] → off < 4096 → shows ["OK " ++ hexBytes (mread zeroByte s.monMem off (min 64 (4096 - off)))] s1 s') ∧
        (4096 ≤ off ∨ 64 < bs.length ∨ 4096 < off + bs.length → shows ["ERR 02"] s1 s')) ∧
      (∀ bs, bs.length ≠ 64 → ∃ s', exec (.monDesc t bs) s = .next s' ∧ shows ["ERR 02"] s1 s') ∧
      (∀ bs, bs.length = 64 → s.pwr.st = .run → s.pwr.srcAt ≠ some (now s0) → let d := descOf .monitor 0 s.hif.dispNo bs
        check119 d s0 = none → modeBad d = none →
        ∃ s', exec (.monDesc t bs) s = .next s' ∧
          settles { s1 with
            mon := { s1.mon with desc := some d }
            hif := { s.hif with
              dispNo := s.hif.dispNo + 1, turn := 32, flight := s.hif.flight ++ [⟨d, false, false, now s0⟩] } } s') ∧
      (∀ n, ∃ s', exec (.monFolds t (some n)) s = .next s' ∧
        (nodeExists n s = true → shows (okLines (snapshot s.fold.live n s0)) (bump FLD_CNT.OPS s1) s') ∧
        (nodeExists n s = false → shows ["ERR 05"] (bump HIF_VIOL_CNT.DESC s1) s')) ∧
      (∃ s', exec (.monFolds t none) s = .next s' ∧
        shows (okLines ((topFolds s.fold.live).map (fun f => snapshot s.fold.live (0x100 + f) s0)).flatten)
          (addFld FLD_CNT.OPS (topFolds s.fold.live).length s1) s') ∧
      (∀ q count, ∃ s', exec (.monLedger t q count) s = .next s' ∧
        (0 < count → count ≤ 16 → s.nv.ledgerReady = true → 0 < q → s.lgr.head ≤ q → q ≤ lgrTail s →
          let qs := (readRange false s count q).1
          shows (okLines (qs.map (fun q => blockBytes q s))) (countBlocks qs s1) s') ∧
        (count = 0 ∨ 16 < count → shows ["ERR 02"] s1 s')) ∧
      (∀ o, ∃ s', exec (.monRng t o) s = .next s' ∧
        shows ["OK " ++ hexBytes (rngReport (noteObs o s0))] (noteObs o s1) s') ∧
      (∀ on, ∃ s', exec (.monEvt t on) s = .next s' ∧ shows ["OK"] (setFlag MON_CTL.EVT_ECHO on s1) s') ∧
      (∀ code, code ≤ 6 → recFails recMon s = false →
        ∃ s', exec (.monBaud t code) s = .next s' ∧ fld MON_CTL.BAUD s' = code ∧
          recRead recMon s' = some (leBytes 4 (regNow MON_CTL.reg s').toNat) ∧
          s'.mon = { s1.mon with out := "bv> " :: "OK" :: s.mon.out } ∧ keepsRegs [MON_CTL.reg, MON_CNT.reg] s s' ∧
          settles { s0 with mon := s'.mon, regs := s'.regs, nv := s'.nv } s') ∧
      (∀ code, 6 < code → ∃ s', exec (.monBaud t code) s = .next s' ∧ shows ["ERR 02"] s1 s'))

/-- MON_UNLOCK_NONCE draws a nonce while the generator is ready and no lockout is in force; a MON_UNLOCK whose nonce is at most
60 s old and whose signature the fleet key verifies unlocks and clears the failures; another counts, and the third in a row starts
the lockout; each is recorded and uses its nonce up. With MON_IDLE_TIMEOUT an unlock ends after IDLE_S
without a command, and with MON_LOCKOUT_END a lockout 300 s after its start. -/
def Obligations.MonitorUnlocks : Prop :=
  ∀ (s : State) (t : Nat), live s = true → memorySafe s → shaped s → let s0 := elapse t s
    (monServes s = true →
      (s.mon.lockout = none → rngState s = 2 →
        ∃ s', exec (.monUnlockNonce t) s = .next s' ∧
          s'.mon = { s.mon with
            lastCmd := now s0, nonce := some (freeBytes 16 s0, now s0)
            out := "bv> " :: ("OK " ++ hexBytes (freeBytes 16 s0)) :: s.mon.out } ∧
          settles { s0 with mon := s'.mon, regs := s'.regs, free := s.free + 16 } s' ∧
          keepsRegs [MON_CNT.reg, RNG_REQ_CNT.reg, RNG_STATUS.reg] s s') ∧
      (s.mon.lockout.isSome = true →
        (∃ s', exec (.monUnlockNonce t) s = .next s' ∧ s'.mon.nonce = s.mon.nonce ∧ s'.free = s.free ∧
          s'.mon.out = "bv> " :: "ERR 06" :: s.mon.out) ∧
        ∀ sig, sig.length = 64 → ∃ s', exec (.monUnlock t sig) s = .next s' ∧ s'.mon.unlocked = s.mon.unlocked ∧
          s'.mon.fails = s.mon.fails ∧ s'.mon.out = "bv> " :: "ERR 06" :: s.mon.out) ∧
      (∀ sig, sig.length ≠ 64 → ∃ s', exec (.monUnlock t sig) s = .next s' ∧
        s'.mon = { s.mon with lastCmd := now s0, out := "bv> " :: "ERR 02" :: s.mon.out }) ∧
      (∀ sig, sig.length = 64 → s.mon.lockout = none → s.nv.ledgerReady = true →
        let ok : Prop := ∃ n x key, s.mon.nonce = some (n, x) ∧ now s0 < x + secTicks 60 ∧ fleetKey s = some key ∧
          ecdsaVerify key (sha256 (unlockMsg n)) sig = true
        ∃ s', exec (.monUnlock t sig) s = .next s' ∧ s'.mon.nonce = none ∧ s'.mon.lastCmd = now s0 ∧
          recordsOnly [] [MON_CNT.reg, CRY_PKE_CNT.reg, CRY_CNT1.reg] s0 s' ∧
          (ok → s'.mon.unlocked = true ∧ s'.mon.fails = 0 ∧ s'.mon.lockout = none ∧ s'.mon.out.take 2 = ["bv> ", "OK"] ∧
            fld MON_CNT.UNLOCKS s' = sat MON_CNT.UNLOCKS.width (fld MON_CNT.UNLOCKS s + 1)) ∧
          (¬ ok → s'.mon.unlocked = s.mon.unlocked ∧ s'.mon.fails = min (s.mon.fails + 1) 3 ∧
            s'.mon.lockout = (if s.mon.fails < 2 then none else some (now s0)) ∧
            s'.mon.out.take 2 = ["bv> ", "ERR 21"] ∧
            fld MON_CNT.UNLOCK_FAIL s' = sat MON_CNT.UNLOCK_FAIL.width (fld MON_CNT.UNLOCK_FAIL s + 1)))) ∧
    (monServes s = false → ∃ s', exec (.monUnknownCommand t) s = .next s' ∧ settles s0 s') ∧
    (s.mon.unlocked = true →
      (s.mon.lastCmd + secTicks (fld MON_CTL.IDLE_S s) ≤ now s0 →
        ∃ s', exec (.monIdleTimeout t) s = .next s' ∧ settles { s0 with mon := { s.mon with unlocked := false } } s') ∧
      (now s0 < s.mon.lastCmd + secTicks (fld MON_CTL.IDLE_S s) →
        ∃ s', exec (.monIdleTimeout t) s = .next s' ∧ settles s0 s')) ∧
    (∀ x, s.mon.lockout = some x →
      (x + secTicks 300 ≤ now s0 →
        ∃ s', exec (.monLockoutEnd t) s = .next s' ∧
          settles { s0 with mon := { s.mon with lockout := none, fails := 0 } } s') ∧
      (now s0 < x + secTicks 300 → ∃ s', exec (.monLockoutEnd t) s = .next s' ∧ settles s0 s'))

/-! ## Waits -/

/-- A descriptor waits at most its TIMEOUT. LF_QUEUE_TIMEOUT, BARRIER_TIMEOUT, CRYPT_QUEUE_TIMEOUT, PKE_WAIT_TIMEOUT and
LEDGER_APPEND_WAIT_TIMEOUT: one that waits for an entry of the LF queue (R144), the operations of a BARRIER (R175), the
message engine behind 20 (R315), the signature unit (R318) or a place in the recall buffer (R351) then completes with
BUSY_RETRY. STEEP_WAIT_TIMEOUT and RNG_WAIT_TIMEOUT: one that waits for the generator, with NOT_READY_ENTROPY, an RNG_GET in
a Resteep with HEALTH (R320, R335). -/
def Obligations.WaitsEndAtTheirTimeout : Prop :=
  ∀ (s : State) (t : Nat), memorySafe s → shaped s → let s0 := elapse t s
    (live s = true →
      (∀ (r : LfReq) (e : Nat) (ws : List (LfReq × Nat)) (d : Desc), s.lf.wait = (r, e) :: ws → r.desc = some d →
        e ≤ now s0 → heard d s0 = true →
        ∃ s1 s', exec (.lfQueueTimeout t) s = .next s' ∧ answers d stBusy [] 0 s1 s' ∧
          s1 = { s0 with lf := { s.lf with wait := ws.filter (fun w => w.1.no != r.no) } }) ∧
      (∀ d x, flightSince d s = some x → heard d s0 = true →
        (0x40 ≤ d.opcode → d.opcode ≤ 0x43 → 20 ≤ countBefore (fun f => f.is d) isEngineOp s.hif.flight →
          (x + timeoutTicks d 100 ≤ now s0 →
            ∃ s', exec (.cryptQueueTimeout t d) s = .next s' ∧ answers d stBusy [] 0 s0 s') ∧
          (now s0 < x + timeoutTicks d 100 → ∃ s', exec (.cryptQueueTimeout t d) s = .next s' ∧ settles s0 s')) ∧
        (d.opcode = 0x45 → 1 ≤ countBefore (fun f => f.is d) (fun f => f.d.opcode == 0x44 || f.d.opcode == 0x45) s.hif.flight →
          (x + timeoutTicks d 100 ≤ now s0 →
            ∃ s', exec (.pkeWaitTimeout t d) s = .next s' ∧ answers d stBusy [] 0 s0 s') ∧
          (now s0 < x + timeoutTicks d 100 → ∃ s', exec (.pkeWaitTimeout t d) s = .next s' ∧ settles s0 s'))) ∧
      (∀ d e ws, s.lcy.steepWait = (d, e) :: ws → e ≤ now s0 → (∀ w ∈ ws, now s0 < w.2) → heard d s0 = true →
        s.cry.holders = [] → s.cry.changes = [] →
        ∃ s', exec (.steepWaitTimeout t) s = .next s' ∧
          answers d stNotReady [] 0 { s0 with lcy := { s.lcy with steepWait := ws } } s') ∧
      (∀ d e ws, s.lgr.hostWait = (d, e) :: ws → e ≤ now s0 → (∀ w ∈ ws, now s0 < w.2) → heard d s0 = true →
        ∃ s', exec (.ledgerAppendWaitTimeout t) s = .next s' ∧
          answers d stBusy [] 0 { s0 with lgr := { s.lgr with hostWait := ws } } s') ∧
      (∀ d since ws, s.rng.wait = (d, since) :: ws → since + timeoutTicks d 10 ≤ now s0 → rngState s ≠ 2 →
        (∀ w ∈ ws, now s0 < w.2 + timeoutTicks w.1 10) → heard d s0 = true →
        ∃ s1 s', exec (.rngWaitTimeout t) s = .next s' ∧ s1 = { s0 with rng := { s.rng with wait := ws } } ∧
          answers d (if rngState s = 3 then stHealth else stNotReady) (getResult d 0 false since s1) 0 s1 s') ∧
      (rngState s = 2 → ∃ s', exec (.rngWaitTimeout t) s = .next s' ∧ settles s0 s')) ∧
    (∀ w : FoldWait, live { s with fold := { s.fold with wait := [] } } = true → s.fold.wait = [w] → heard w.d s0 = true →
      w.limit ≤ now s0 →
      ∃ s1 s', exec (.barrierTimeout t) s = .next s' ∧ answers w.d stBusy [] 0 s1 s' ∧
        s1 = { s0 with fold := { s.fold with wait := [] }, regs := s1.regs } ∧
        fld FLD_CNT.WAIT_TO s1 = sat 8 (fld FLD_CNT.WAIT_TO s + 1) ∧ keepsRegs [FLD_CNT.reg] s s1)
end

