-- ==== Sys2Proof/Laws/Sparse.lean ====
section
/-! SUPPORT. Laws/Sparse.lean: sparse lists and byte memories: a read after a write, the other places, and the canonical
form. -/
namespace Sys2Proof.Machine

variable {β : Type} [DecidableEq β] (d : Nat → β)

/-- The canonical form read from a bound: every key is above it. -/
theorem swfFrom_lt {lo : Nat} {l : List (Nat × β)} (h : swfFrom d (some lo) l = true) {k : Nat} (hk : k ≤ lo) :
    sget d k l = d k := by
  induction l generalizing lo with
  | nil => rfl
  | cons p l ih =>
    obtain ⟨a, v⟩ := p
    simp only [swfFrom, Bool.and_eq_true, decide_eq_true_eq] at h
    have hne : a ≠ k := by omega
    simp only [sget, if_neg hne]
    exact ih h.2 (by omega)

/-- A looser lower bound is still one. -/
theorem swfFrom_mono {lo lo' : Nat} (hle : lo' ≤ lo) {l : List (Nat × β)} (h : swfFrom d (some lo) l = true) :
    swfFrom d (some lo') l = true := by
  cases l with
  | nil => rfl
  | cons p l =>
    obtain ⟨a, v⟩ := p
    simp only [swfFrom, Bool.and_eq_true, decide_eq_true_eq] at h ⊢
    exact ⟨⟨by omega, h.1.2⟩, h.2⟩

/-- No bound is asked where none is given. -/
theorem swfFrom_none {lo : Nat} {l : List (Nat × β)} (h : swfFrom d (some lo) l = true) : swfFrom d none l = true := by
  cases l with
  | nil => rfl
  | cons p l =>
    obtain ⟨a, v⟩ := p
    simp only [swfFrom, Bool.and_eq_true, decide_eq_true_eq] at h ⊢
    exact ⟨⟨trivial, h.1.2⟩, h.2⟩

/-- A key reads as it was last written. -/
theorem sget_sset_same (k : Nat) (v : β) {lo : Option Nat} {l : List (Nat × β)} (h : swfFrom d lo l = true) :
    sget d k (sset d k v l) = v := by
  induction l generalizing lo with
  | nil =>
    by_cases hv : v = d k <;> simp [sset, sget, hv]
  | cons p l ih =>
    obtain ⟨a, w⟩ := p
    have h2 : swfFrom d (some a) l = true := by
      simp only [swfFrom, Bool.and_eq_true] at h; exact h.2
    by_cases h1 : k < a
    · have hne : a ≠ k := by omega
      by_cases hv : v = d k
      · simp only [sset, if_pos h1, if_pos hv, sget, if_neg hne]
        rw [swfFrom_lt d h2 (by omega), hv]
      · simp [sset, h1, hv, sget]
    · by_cases he : k = a
      · subst he
        by_cases hv : v = d k
        · simp only [sset, if_neg h1, if_true, if_pos hv]
          rw [swfFrom_lt d h2 (le_refl k), hv]
        · simp [sset, hv, sget]
      · have hne : a ≠ k := fun e => he e.symm
        simp only [sset, if_neg h1, if_neg he, sget, if_neg hne]
        exact ih h2

/-- Every other key reads as before. -/
theorem sget_sset_ne (k k' : Nat) (v : β) (hk : k' ≠ k) (l : List (Nat × β)) :
    sget d k' (sset d k v l) = sget d k' l := by
  induction l with
  | nil =>
    have hne : k ≠ k' := fun e => hk e.symm
    by_cases hv : v = d k <;> simp [sset, sget, hv, hne]
  | cons p l ih =>
    obtain ⟨a, w⟩ := p
    have hne : k ≠ k' := fun e => hk e.symm
    by_cases h1 : k < a
    · by_cases hv : v = d k <;> simp [sset, h1, hv, sget, hne]
    · by_cases he : k = a
      · subst he
        by_cases hv : v = d k <;> simp [sset, hv, sget, hne]
      · simp only [sset, if_neg h1, if_neg he, sget, ih]

/-- A write keeps the canonical form above a bound. -/
theorem swfFrom_sset (k : Nat) (v : β) {lo : Option Nat} (hlo : ∀ x, lo = some x → x < k) {l : List (Nat × β)}
    (h : swfFrom d lo l = true) : swfFrom d lo (sset d k v l) = true := by
  induction l generalizing lo with
  | nil =>
    by_cases hv : v = d k
    · simp [sset, hv, swfFrom]
    · cases lo with
      | none => simp [sset, hv, swfFrom]
      | some x => simp [sset, hv, swfFrom, hlo x rfl]
  | cons p l ih =>
    obtain ⟨a, w⟩ := p
    by_cases h1 : k < a
    · by_cases hv : v = d k
      · simpa only [sset, if_pos h1, if_pos hv] using h
      · simp only [sset, if_pos h1, if_neg hv]
        simp only [swfFrom, Bool.and_eq_true, decide_eq_true_eq] at h ⊢
        cases lo with
        | none => exact ⟨⟨rfl, hv⟩, ⟨h1, h.1.2⟩, h.2⟩
        | some x => exact ⟨⟨decide_eq_true (hlo x rfl), hv⟩, ⟨h1, h.1.2⟩, h.2⟩
    · by_cases he : k = a
      · subst he
        by_cases hv : v = d k
        · simp only [sset, if_neg h1, if_true, if_pos hv]
          simp only [swfFrom, Bool.and_eq_true, decide_eq_true_eq] at h
          cases lo with
          | none => exact swfFrom_none d h.2
          | some x => exact swfFrom_mono d (Nat.le_of_lt (hlo x rfl)) h.2
        · simp only [sset, if_neg h1, if_true, if_neg hv]
          simp only [swfFrom, Bool.and_eq_true, decide_eq_true_eq] at h ⊢
          exact ⟨⟨h.1.1, hv⟩, h.2⟩
      · simp only [sset, if_neg h1, if_neg he]
        simp only [swfFrom, Bool.and_eq_true, decide_eq_true_eq] at h ⊢
        exact ⟨h.1, ih (fun x hx => by cases hx; omega) h.2⟩

/-- A write keeps the canonical form. -/
theorem swf_sset (k : Nat) (v : β) {l : List (Nat × β)} (h : swf d l = true) : swf d (sset d k v l) = true :=
  swfFrom_sset d k v (fun _ hx => by cases hx) h

/-- Dropping entries keeps the canonical form above a bound. -/
theorem swfFrom_filter (q : Nat × β → Bool) {lo : Option Nat} {l : List (Nat × β)} (h : swfFrom d lo l = true) :
    swfFrom d lo (l.filter q) = true := by
  induction l generalizing lo with
  | nil => exact h
  | cons p l ih =>
    obtain ⟨a, v⟩ := p
    have h' := h
    simp only [swfFrom, Bool.and_eq_true, decide_eq_true_eq] at h
    by_cases hq : q (a, v) = true
    · rw [List.filter_cons_of_pos hq]
      simp only [swfFrom, Bool.and_eq_true, decide_eq_true_eq]
      exact ⟨h.1, ih h.2⟩
    · rw [List.filter_cons_of_neg hq]
      cases lo with
      | none => exact swfFrom_none d (ih h.2)
      | some x =>
        exact swfFrom_mono d (Nat.le_of_lt (by simpa using h.1.1)) (ih h.2)

/-! ## Byte memories -/

/-- A write keeps a memory in canonical form. -/
theorem wf_mwrite (z : Nat → Byte) (bs : Bytes) (a : Nat) {m : List Host.Cell} (h : Memory.wf z m = true) :
    Memory.wf z (mwrite z m a bs) = true := by
  induction bs generalizing a m with
  | nil => exact h
  | cons b bs ih => exact ih (a + 1) (swf_sset z a b h)

/-- A byte below the written range reads as before. -/
theorem mget_mwrite_lt (z : Nat → Byte) (bs : Bytes) (a x : Nat) (m : List Host.Cell) (hx : x < a) :
    mget z (mwrite z m a bs) x = mget z m x := by
  induction bs generalizing a m with
  | nil => rfl
  | cons b bs ih =>
    simp only [mwrite]
    rw [ih (a + 1) _ (by omega)]
    exact sget_sset_ne z a x b (by omega) m

/-- A byte outside the written range reads as before. -/
theorem mget_mwrite_out (z : Nat → Byte) (bs : Bytes) (a x : Nat) (m : List Host.Cell)
    (hx : x < a ∨ a + bs.length ≤ x) : mget z (mwrite z m a bs) x = mget z m x := by
  induction bs generalizing a m with
  | nil => rfl
  | cons b bs ih =>
    simp only [List.length_cons] at hx
    simp only [mwrite]
    rw [ih (a + 1) _ (by omega)]
    exact sget_sset_ne z a x b (by omega) m

/-- A written byte reads back. -/
theorem mget_mwrite_in (z : Nat → Byte) (bs : Bytes) (a i : Nat) {m : List Host.Cell} (h : Memory.wf z m = true)
    (hi : i < bs.length) : mget z (mwrite z m a bs) (a + i) = bs[i] := by
  induction bs generalizing a i m with
  | nil => simp at hi
  | cons b bs ih =>
    simp only [mwrite]
    cases i with
    | zero =>
      rw [mget_mwrite_lt z bs (a + 1) (a + 0) _ (by omega)]
      exact sget_sset_same z a b h
    | succ i =>
      have := ih (a + 1) i (swf_sset z a b h) (by simpa using hi)
      rw [show a + (i + 1) = a + 1 + i from by omega, this]
      rfl

/-- What was written to a range is what a read of the range gives. -/
theorem mread_mwrite (z : Nat → Byte) (bs : Bytes) (a : Nat) {m : List Host.Cell} (h : Memory.wf z m = true) :
    mread z (mwrite z m a bs) a bs.length = bs := by
  apply List.ext_getElem
  · simp [mread]
  · intro i h1 h2
    simp only [mread, List.getElem_map, List.getElem_range]
    exact mget_mwrite_in z bs a i h h2

/-- A range apart from the written one reads as before. -/
theorem mread_mwrite_out (z : Nat → Byte) (bs : Bytes) (a x n : Nat) (m : List Host.Cell)
    (hx : x + n ≤ a ∨ a + bs.length ≤ x) : mread z (mwrite z m a bs) x n = mread z m x n := by
  apply List.map_congr_left
  intro i hi
  rw [List.mem_range] at hi
  exact mget_mwrite_out z bs a (x + i) m (by omega)

end Sys2Proof.Machine
end

