-- ==== Sys2Proof/Laws/State.lean ====
section
/-! SUPPORT. Laws/State.lean: which fields of State the named updates leave alone, one lemma per field and update, and
what a register reads after one was written. -/
namespace Sys2Proof.Machine

/-! ## regSet -/

@[simp] theorem regSet_pending (off : Nat) (v : Word) (s : State) : (regSet off v s).pending = s.pending := rfl
@[simp] theorem regSet_part (off : Nat) (v : Word) (s : State) : (regSet off v s).part = s.part := rfl
@[simp] theorem regSet_free (off : Nat) (v : Word) (s : State) : (regSet off v s).free = s.free := rfl
@[simp] theorem regSet_latchHi (off : Nat) (v : Word) (s : State) : (regSet off v s).latchHi = s.latchHi := rfl
@[simp] theorem regSet_heldWr (off : Nat) (v : Word) (s : State) : (regSet off v s).heldWr = s.heldWr := rfl
@[simp] theorem regSet_clk (off : Nat) (v : Word) (s : State) : (regSet off v s).clk = s.clk := rfl
@[simp] theorem regSet_pwr (off : Nat) (v : Word) (s : State) : (regSet off v s).pwr = s.pwr := rfl
@[simp] theorem regSet_pins (off : Nat) (v : Word) (s : State) : (regSet off v s).pins = s.pins := rfl
@[simp] theorem regSet_hif (off : Nat) (v : Word) (s : State) : (regSet off v s).hif = s.hif := rfl
@[simp] theorem regSet_hostMem (off : Nat) (v : Word) (s : State) : (regSet off v s).hostMem = s.hostMem := rfl
@[simp] theorem regSet_dmaBad (off : Nat) (v : Word) (s : State) : (regSet off v s).dmaBad = s.dmaBad := rfl
@[simp] theorem regSet_droverMem (off : Nat) (v : Word) (s : State) : (regSet off v s).droverMem = s.droverMem := rfl
@[simp] theorem regSet_monMem (off : Nat) (v : Word) (s : State) : (regSet off v s).monMem = s.monMem := rfl
@[simp] theorem regSet_nv (off : Nat) (v : Word) (s : State) : (regSet off v s).nv = s.nv := rfl
@[simp] theorem regSet_lgr (off : Nat) (v : Word) (s : State) : (regSet off v s).lgr = s.lgr := rfl
@[simp] theorem regSet_fold (off : Nat) (v : Word) (s : State) : (regSet off v s).fold = s.fold := rfl
@[simp] theorem regSet_lf (off : Nat) (v : Word) (s : State) : (regSet off v s).lf = s.lf := rfl
@[simp] theorem regSet_poll (off : Nat) (v : Word) (s : State) : (regSet off v s).poll = s.poll := rfl
@[simp] theorem regSet_flk (off : Nat) (v : Word) (s : State) : (regSet off v s).flk = s.flk := rfl
@[simp] theorem regSet_lcy (off : Nat) (v : Word) (s : State) : (regSet off v s).lcy = s.lcy := rfl
@[simp] theorem regSet_mon (off : Nat) (v : Word) (s : State) : (regSet off v s).mon = s.mon := rfl
@[simp] theorem regSet_uhf (off : Nat) (v : Word) (s : State) : (regSet off v s).uhf = s.uhf := rfl
@[simp] theorem regSet_uwb (off : Nat) (v : Word) (s : State) : (regSet off v s).uwb = s.uwb := rfl
@[simp] theorem regSet_vrd (off : Nat) (v : Word) (s : State) : (regSet off v s).vrd = s.vrd := rfl
@[simp] theorem regSet_cry (off : Nat) (v : Word) (s : State) : (regSet off v s).cry = s.cry := rfl
@[simp] theorem regSet_rng (off : Nat) (v : Word) (s : State) : (regSet off v s).rng = s.rng := rfl
@[simp] theorem regSet_tmr (off : Nat) (v : Word) (s : State) : (regSet off v s).tmr = s.tmr := rfl

/-! ## setFld -/

@[simp] theorem setFld_pending (f : Field) (v : Nat) (s : State) : (setFld f v s).pending = s.pending := rfl
@[simp] theorem setFld_part (f : Field) (v : Nat) (s : State) : (setFld f v s).part = s.part := rfl
@[simp] theorem setFld_free (f : Field) (v : Nat) (s : State) : (setFld f v s).free = s.free := rfl
@[simp] theorem setFld_latchHi (f : Field) (v : Nat) (s : State) : (setFld f v s).latchHi = s.latchHi := rfl
@[simp] theorem setFld_heldWr (f : Field) (v : Nat) (s : State) : (setFld f v s).heldWr = s.heldWr := rfl
@[simp] theorem setFld_clk (f : Field) (v : Nat) (s : State) : (setFld f v s).clk = s.clk := rfl
@[simp] theorem setFld_pwr (f : Field) (v : Nat) (s : State) : (setFld f v s).pwr = s.pwr := rfl
@[simp] theorem setFld_pins (f : Field) (v : Nat) (s : State) : (setFld f v s).pins = s.pins := rfl
@[simp] theorem setFld_hif (f : Field) (v : Nat) (s : State) : (setFld f v s).hif = s.hif := rfl
@[simp] theorem setFld_hostMem (f : Field) (v : Nat) (s : State) : (setFld f v s).hostMem = s.hostMem := rfl
@[simp] theorem setFld_dmaBad (f : Field) (v : Nat) (s : State) : (setFld f v s).dmaBad = s.dmaBad := rfl
@[simp] theorem setFld_droverMem (f : Field) (v : Nat) (s : State) : (setFld f v s).droverMem = s.droverMem := rfl
@[simp] theorem setFld_monMem (f : Field) (v : Nat) (s : State) : (setFld f v s).monMem = s.monMem := rfl
@[simp] theorem setFld_nv (f : Field) (v : Nat) (s : State) : (setFld f v s).nv = s.nv := rfl
@[simp] theorem setFld_lgr (f : Field) (v : Nat) (s : State) : (setFld f v s).lgr = s.lgr := rfl
@[simp] theorem setFld_fold (f : Field) (v : Nat) (s : State) : (setFld f v s).fold = s.fold := rfl
@[simp] theorem setFld_lf (f : Field) (v : Nat) (s : State) : (setFld f v s).lf = s.lf := rfl
@[simp] theorem setFld_poll (f : Field) (v : Nat) (s : State) : (setFld f v s).poll = s.poll := rfl
@[simp] theorem setFld_flk (f : Field) (v : Nat) (s : State) : (setFld f v s).flk = s.flk := rfl
@[simp] theorem setFld_lcy (f : Field) (v : Nat) (s : State) : (setFld f v s).lcy = s.lcy := rfl
@[simp] theorem setFld_mon (f : Field) (v : Nat) (s : State) : (setFld f v s).mon = s.mon := rfl
@[simp] theorem setFld_uhf (f : Field) (v : Nat) (s : State) : (setFld f v s).uhf = s.uhf := rfl
@[simp] theorem setFld_uwb (f : Field) (v : Nat) (s : State) : (setFld f v s).uwb = s.uwb := rfl
@[simp] theorem setFld_vrd (f : Field) (v : Nat) (s : State) : (setFld f v s).vrd = s.vrd := rfl
@[simp] theorem setFld_cry (f : Field) (v : Nat) (s : State) : (setFld f v s).cry = s.cry := rfl
@[simp] theorem setFld_rng (f : Field) (v : Nat) (s : State) : (setFld f v s).rng = s.rng := rfl
@[simp] theorem setFld_tmr (f : Field) (v : Nat) (s : State) : (setFld f v s).tmr = s.tmr := rfl

/-! ## setFlag -/

@[simp] theorem setFlag_pending (f : Field) (b : Bool) (s : State) : (setFlag f b s).pending = s.pending := rfl
@[simp] theorem setFlag_part (f : Field) (b : Bool) (s : State) : (setFlag f b s).part = s.part := rfl
@[simp] theorem setFlag_free (f : Field) (b : Bool) (s : State) : (setFlag f b s).free = s.free := rfl
@[simp] theorem setFlag_latchHi (f : Field) (b : Bool) (s : State) : (setFlag f b s).latchHi = s.latchHi := rfl
@[simp] theorem setFlag_heldWr (f : Field) (b : Bool) (s : State) : (setFlag f b s).heldWr = s.heldWr := rfl
@[simp] theorem setFlag_clk (f : Field) (b : Bool) (s : State) : (setFlag f b s).clk = s.clk := rfl
@[simp] theorem setFlag_pwr (f : Field) (b : Bool) (s : State) : (setFlag f b s).pwr = s.pwr := rfl
@[simp] theorem setFlag_pins (f : Field) (b : Bool) (s : State) : (setFlag f b s).pins = s.pins := rfl
@[simp] theorem setFlag_hif (f : Field) (b : Bool) (s : State) : (setFlag f b s).hif = s.hif := rfl
@[simp] theorem setFlag_hostMem (f : Field) (b : Bool) (s : State) : (setFlag f b s).hostMem = s.hostMem := rfl
@[simp] theorem setFlag_dmaBad (f : Field) (b : Bool) (s : State) : (setFlag f b s).dmaBad = s.dmaBad := rfl
@[simp] theorem setFlag_droverMem (f : Field) (b : Bool) (s : State) : (setFlag f b s).droverMem = s.droverMem := rfl
@[simp] theorem setFlag_monMem (f : Field) (b : Bool) (s : State) : (setFlag f b s).monMem = s.monMem := rfl
@[simp] theorem setFlag_nv (f : Field) (b : Bool) (s : State) : (setFlag f b s).nv = s.nv := rfl
@[simp] theorem setFlag_lgr (f : Field) (b : Bool) (s : State) : (setFlag f b s).lgr = s.lgr := rfl
@[simp] theorem setFlag_fold (f : Field) (b : Bool) (s : State) : (setFlag f b s).fold = s.fold := rfl
@[simp] theorem setFlag_lf (f : Field) (b : Bool) (s : State) : (setFlag f b s).lf = s.lf := rfl
@[simp] theorem setFlag_poll (f : Field) (b : Bool) (s : State) : (setFlag f b s).poll = s.poll := rfl
@[simp] theorem setFlag_flk (f : Field) (b : Bool) (s : State) : (setFlag f b s).flk = s.flk := rfl
@[simp] theorem setFlag_lcy (f : Field) (b : Bool) (s : State) : (setFlag f b s).lcy = s.lcy := rfl
@[simp] theorem setFlag_mon (f : Field) (b : Bool) (s : State) : (setFlag f b s).mon = s.mon := rfl
@[simp] theorem setFlag_uhf (f : Field) (b : Bool) (s : State) : (setFlag f b s).uhf = s.uhf := rfl
@[simp] theorem setFlag_uwb (f : Field) (b : Bool) (s : State) : (setFlag f b s).uwb = s.uwb := rfl
@[simp] theorem setFlag_vrd (f : Field) (b : Bool) (s : State) : (setFlag f b s).vrd = s.vrd := rfl
@[simp] theorem setFlag_cry (f : Field) (b : Bool) (s : State) : (setFlag f b s).cry = s.cry := rfl
@[simp] theorem setFlag_rng (f : Field) (b : Bool) (s : State) : (setFlag f b s).rng = s.rng := rfl
@[simp] theorem setFlag_tmr (f : Field) (b : Bool) (s : State) : (setFlag f b s).tmr = s.tmr := rfl

/-! ## addFld -/

@[simp] theorem addFld_pending (f : Field) (k : Nat) (s : State) : (addFld f k s).pending = s.pending := rfl
@[simp] theorem addFld_part (f : Field) (k : Nat) (s : State) : (addFld f k s).part = s.part := rfl
@[simp] theorem addFld_free (f : Field) (k : Nat) (s : State) : (addFld f k s).free = s.free := rfl
@[simp] theorem addFld_latchHi (f : Field) (k : Nat) (s : State) : (addFld f k s).latchHi = s.latchHi := rfl
@[simp] theorem addFld_heldWr (f : Field) (k : Nat) (s : State) : (addFld f k s).heldWr = s.heldWr := rfl
@[simp] theorem addFld_clk (f : Field) (k : Nat) (s : State) : (addFld f k s).clk = s.clk := rfl
@[simp] theorem addFld_pwr (f : Field) (k : Nat) (s : State) : (addFld f k s).pwr = s.pwr := rfl
@[simp] theorem addFld_pins (f : Field) (k : Nat) (s : State) : (addFld f k s).pins = s.pins := rfl
@[simp] theorem addFld_hif (f : Field) (k : Nat) (s : State) : (addFld f k s).hif = s.hif := rfl
@[simp] theorem addFld_hostMem (f : Field) (k : Nat) (s : State) : (addFld f k s).hostMem = s.hostMem := rfl
@[simp] theorem addFld_dmaBad (f : Field) (k : Nat) (s : State) : (addFld f k s).dmaBad = s.dmaBad := rfl
@[simp] theorem addFld_droverMem (f : Field) (k : Nat) (s : State) : (addFld f k s).droverMem = s.droverMem := rfl
@[simp] theorem addFld_monMem (f : Field) (k : Nat) (s : State) : (addFld f k s).monMem = s.monMem := rfl
@[simp] theorem addFld_nv (f : Field) (k : Nat) (s : State) : (addFld f k s).nv = s.nv := rfl
@[simp] theorem addFld_lgr (f : Field) (k : Nat) (s : State) : (addFld f k s).lgr = s.lgr := rfl
@[simp] theorem addFld_fold (f : Field) (k : Nat) (s : State) : (addFld f k s).fold = s.fold := rfl
@[simp] theorem addFld_lf (f : Field) (k : Nat) (s : State) : (addFld f k s).lf = s.lf := rfl
@[simp] theorem addFld_poll (f : Field) (k : Nat) (s : State) : (addFld f k s).poll = s.poll := rfl
@[simp] theorem addFld_flk (f : Field) (k : Nat) (s : State) : (addFld f k s).flk = s.flk := rfl
@[simp] theorem addFld_lcy (f : Field) (k : Nat) (s : State) : (addFld f k s).lcy = s.lcy := rfl
@[simp] theorem addFld_mon (f : Field) (k : Nat) (s : State) : (addFld f k s).mon = s.mon := rfl
@[simp] theorem addFld_uhf (f : Field) (k : Nat) (s : State) : (addFld f k s).uhf = s.uhf := rfl
@[simp] theorem addFld_uwb (f : Field) (k : Nat) (s : State) : (addFld f k s).uwb = s.uwb := rfl
@[simp] theorem addFld_vrd (f : Field) (k : Nat) (s : State) : (addFld f k s).vrd = s.vrd := rfl
@[simp] theorem addFld_cry (f : Field) (k : Nat) (s : State) : (addFld f k s).cry = s.cry := rfl
@[simp] theorem addFld_rng (f : Field) (k : Nat) (s : State) : (addFld f k s).rng = s.rng := rfl
@[simp] theorem addFld_tmr (f : Field) (k : Nat) (s : State) : (addFld f k s).tmr = s.tmr := rfl

/-! ## bump -/

@[simp] theorem bump_pending (f : Field) (s : State) : (bump f s).pending = s.pending := rfl
@[simp] theorem bump_part (f : Field) (s : State) : (bump f s).part = s.part := rfl
@[simp] theorem bump_free (f : Field) (s : State) : (bump f s).free = s.free := rfl
@[simp] theorem bump_latchHi (f : Field) (s : State) : (bump f s).latchHi = s.latchHi := rfl
@[simp] theorem bump_heldWr (f : Field) (s : State) : (bump f s).heldWr = s.heldWr := rfl
@[simp] theorem bump_clk (f : Field) (s : State) : (bump f s).clk = s.clk := rfl
@[simp] theorem bump_pwr (f : Field) (s : State) : (bump f s).pwr = s.pwr := rfl
@[simp] theorem bump_pins (f : Field) (s : State) : (bump f s).pins = s.pins := rfl
@[simp] theorem bump_hif (f : Field) (s : State) : (bump f s).hif = s.hif := rfl
@[simp] theorem bump_hostMem (f : Field) (s : State) : (bump f s).hostMem = s.hostMem := rfl
@[simp] theorem bump_dmaBad (f : Field) (s : State) : (bump f s).dmaBad = s.dmaBad := rfl
@[simp] theorem bump_droverMem (f : Field) (s : State) : (bump f s).droverMem = s.droverMem := rfl
@[simp] theorem bump_monMem (f : Field) (s : State) : (bump f s).monMem = s.monMem := rfl
@[simp] theorem bump_nv (f : Field) (s : State) : (bump f s).nv = s.nv := rfl
@[simp] theorem bump_lgr (f : Field) (s : State) : (bump f s).lgr = s.lgr := rfl
@[simp] theorem bump_fold (f : Field) (s : State) : (bump f s).fold = s.fold := rfl
@[simp] theorem bump_lf (f : Field) (s : State) : (bump f s).lf = s.lf := rfl
@[simp] theorem bump_poll (f : Field) (s : State) : (bump f s).poll = s.poll := rfl
@[simp] theorem bump_flk (f : Field) (s : State) : (bump f s).flk = s.flk := rfl
@[simp] theorem bump_lcy (f : Field) (s : State) : (bump f s).lcy = s.lcy := rfl
@[simp] theorem bump_mon (f : Field) (s : State) : (bump f s).mon = s.mon := rfl
@[simp] theorem bump_uhf (f : Field) (s : State) : (bump f s).uhf = s.uhf := rfl
@[simp] theorem bump_uwb (f : Field) (s : State) : (bump f s).uwb = s.uwb := rfl
@[simp] theorem bump_vrd (f : Field) (s : State) : (bump f s).vrd = s.vrd := rfl
@[simp] theorem bump_cry (f : Field) (s : State) : (bump f s).cry = s.cry := rfl
@[simp] theorem bump_rng (f : Field) (s : State) : (bump f s).rng = s.rng := rfl
@[simp] theorem bump_tmr (f : Field) (s : State) : (bump f s).tmr = s.tmr := rfl

/-! ## setReg64 -/

@[simp] theorem setReg64_pending (off n : Nat) (s : State) : (setReg64 off n s).pending = s.pending := rfl
@[simp] theorem setReg64_part (off n : Nat) (s : State) : (setReg64 off n s).part = s.part := rfl
@[simp] theorem setReg64_free (off n : Nat) (s : State) : (setReg64 off n s).free = s.free := rfl
@[simp] theorem setReg64_latchHi (off n : Nat) (s : State) : (setReg64 off n s).latchHi = s.latchHi := rfl
@[simp] theorem setReg64_heldWr (off n : Nat) (s : State) : (setReg64 off n s).heldWr = s.heldWr := rfl
@[simp] theorem setReg64_clk (off n : Nat) (s : State) : (setReg64 off n s).clk = s.clk := rfl
@[simp] theorem setReg64_pwr (off n : Nat) (s : State) : (setReg64 off n s).pwr = s.pwr := rfl
@[simp] theorem setReg64_pins (off n : Nat) (s : State) : (setReg64 off n s).pins = s.pins := rfl
@[simp] theorem setReg64_hif (off n : Nat) (s : State) : (setReg64 off n s).hif = s.hif := rfl
@[simp] theorem setReg64_hostMem (off n : Nat) (s : State) : (setReg64 off n s).hostMem = s.hostMem := rfl
@[simp] theorem setReg64_dmaBad (off n : Nat) (s : State) : (setReg64 off n s).dmaBad = s.dmaBad := rfl
@[simp] theorem setReg64_droverMem (off n : Nat) (s : State) : (setReg64 off n s).droverMem = s.droverMem := rfl
@[simp] theorem setReg64_monMem (off n : Nat) (s : State) : (setReg64 off n s).monMem = s.monMem := rfl
@[simp] theorem setReg64_nv (off n : Nat) (s : State) : (setReg64 off n s).nv = s.nv := rfl
@[simp] theorem setReg64_lgr (off n : Nat) (s : State) : (setReg64 off n s).lgr = s.lgr := rfl
@[simp] theorem setReg64_fold (off n : Nat) (s : State) : (setReg64 off n s).fold = s.fold := rfl
@[simp] theorem setReg64_lf (off n : Nat) (s : State) : (setReg64 off n s).lf = s.lf := rfl
@[simp] theorem setReg64_poll (off n : Nat) (s : State) : (setReg64 off n s).poll = s.poll := rfl
@[simp] theorem setReg64_flk (off n : Nat) (s : State) : (setReg64 off n s).flk = s.flk := rfl
@[simp] theorem setReg64_lcy (off n : Nat) (s : State) : (setReg64 off n s).lcy = s.lcy := rfl
@[simp] theorem setReg64_mon (off n : Nat) (s : State) : (setReg64 off n s).mon = s.mon := rfl
@[simp] theorem setReg64_uhf (off n : Nat) (s : State) : (setReg64 off n s).uhf = s.uhf := rfl
@[simp] theorem setReg64_uwb (off n : Nat) (s : State) : (setReg64 off n s).uwb = s.uwb := rfl
@[simp] theorem setReg64_vrd (off n : Nat) (s : State) : (setReg64 off n s).vrd = s.vrd := rfl
@[simp] theorem setReg64_cry (off n : Nat) (s : State) : (setReg64 off n s).cry = s.cry := rfl
@[simp] theorem setReg64_rng (off n : Nat) (s : State) : (setReg64 off n s).rng = s.rng := rfl
@[simp] theorem setReg64_tmr (off n : Nat) (s : State) : (setReg64 off n s).tmr = s.tmr := rfl

/-! ## clearRegs -/

@[simp] theorem clearRegs_pending (lo hi : Nat) (s : State) : (clearRegs lo hi s).pending = s.pending := rfl
@[simp] theorem clearRegs_part (lo hi : Nat) (s : State) : (clearRegs lo hi s).part = s.part := rfl
@[simp] theorem clearRegs_free (lo hi : Nat) (s : State) : (clearRegs lo hi s).free = s.free := rfl
@[simp] theorem clearRegs_latchHi (lo hi : Nat) (s : State) : (clearRegs lo hi s).latchHi = s.latchHi := rfl
@[simp] theorem clearRegs_heldWr (lo hi : Nat) (s : State) : (clearRegs lo hi s).heldWr = s.heldWr := rfl
@[simp] theorem clearRegs_clk (lo hi : Nat) (s : State) : (clearRegs lo hi s).clk = s.clk := rfl
@[simp] theorem clearRegs_pwr (lo hi : Nat) (s : State) : (clearRegs lo hi s).pwr = s.pwr := rfl
@[simp] theorem clearRegs_pins (lo hi : Nat) (s : State) : (clearRegs lo hi s).pins = s.pins := rfl
@[simp] theorem clearRegs_hif (lo hi : Nat) (s : State) : (clearRegs lo hi s).hif = s.hif := rfl
@[simp] theorem clearRegs_hostMem (lo hi : Nat) (s : State) : (clearRegs lo hi s).hostMem = s.hostMem := rfl
@[simp] theorem clearRegs_dmaBad (lo hi : Nat) (s : State) : (clearRegs lo hi s).dmaBad = s.dmaBad := rfl
@[simp] theorem clearRegs_droverMem (lo hi : Nat) (s : State) : (clearRegs lo hi s).droverMem = s.droverMem := rfl
@[simp] theorem clearRegs_monMem (lo hi : Nat) (s : State) : (clearRegs lo hi s).monMem = s.monMem := rfl
@[simp] theorem clearRegs_nv (lo hi : Nat) (s : State) : (clearRegs lo hi s).nv = s.nv := rfl
@[simp] theorem clearRegs_lgr (lo hi : Nat) (s : State) : (clearRegs lo hi s).lgr = s.lgr := rfl
@[simp] theorem clearRegs_fold (lo hi : Nat) (s : State) : (clearRegs lo hi s).fold = s.fold := rfl
@[simp] theorem clearRegs_lf (lo hi : Nat) (s : State) : (clearRegs lo hi s).lf = s.lf := rfl
@[simp] theorem clearRegs_poll (lo hi : Nat) (s : State) : (clearRegs lo hi s).poll = s.poll := rfl
@[simp] theorem clearRegs_flk (lo hi : Nat) (s : State) : (clearRegs lo hi s).flk = s.flk := rfl
@[simp] theorem clearRegs_lcy (lo hi : Nat) (s : State) : (clearRegs lo hi s).lcy = s.lcy := rfl
@[simp] theorem clearRegs_mon (lo hi : Nat) (s : State) : (clearRegs lo hi s).mon = s.mon := rfl
@[simp] theorem clearRegs_uhf (lo hi : Nat) (s : State) : (clearRegs lo hi s).uhf = s.uhf := rfl
@[simp] theorem clearRegs_uwb (lo hi : Nat) (s : State) : (clearRegs lo hi s).uwb = s.uwb := rfl
@[simp] theorem clearRegs_vrd (lo hi : Nat) (s : State) : (clearRegs lo hi s).vrd = s.vrd := rfl
@[simp] theorem clearRegs_cry (lo hi : Nat) (s : State) : (clearRegs lo hi s).cry = s.cry := rfl
@[simp] theorem clearRegs_rng (lo hi : Nat) (s : State) : (clearRegs lo hi s).rng = s.rng := rfl
@[simp] theorem clearRegs_tmr (lo hi : Nat) (s : State) : (clearRegs lo hi s).tmr = s.tmr := rfl

/-! ## clearRegList -/

@[simp] theorem clearRegList_pending (l : List Nat) (s : State) : (clearRegList l s).pending = s.pending := rfl
@[simp] theorem clearRegList_part (l : List Nat) (s : State) : (clearRegList l s).part = s.part := rfl
@[simp] theorem clearRegList_free (l : List Nat) (s : State) : (clearRegList l s).free = s.free := rfl
@[simp] theorem clearRegList_latchHi (l : List Nat) (s : State) : (clearRegList l s).latchHi = s.latchHi := rfl
@[simp] theorem clearRegList_heldWr (l : List Nat) (s : State) : (clearRegList l s).heldWr = s.heldWr := rfl
@[simp] theorem clearRegList_clk (l : List Nat) (s : State) : (clearRegList l s).clk = s.clk := rfl
@[simp] theorem clearRegList_pwr (l : List Nat) (s : State) : (clearRegList l s).pwr = s.pwr := rfl
@[simp] theorem clearRegList_pins (l : List Nat) (s : State) : (clearRegList l s).pins = s.pins := rfl
@[simp] theorem clearRegList_hif (l : List Nat) (s : State) : (clearRegList l s).hif = s.hif := rfl
@[simp] theorem clearRegList_hostMem (l : List Nat) (s : State) : (clearRegList l s).hostMem = s.hostMem := rfl
@[simp] theorem clearRegList_dmaBad (l : List Nat) (s : State) : (clearRegList l s).dmaBad = s.dmaBad := rfl
@[simp] theorem clearRegList_droverMem (l : List Nat) (s : State) : (clearRegList l s).droverMem = s.droverMem := rfl
@[simp] theorem clearRegList_monMem (l : List Nat) (s : State) : (clearRegList l s).monMem = s.monMem := rfl
@[simp] theorem clearRegList_nv (l : List Nat) (s : State) : (clearRegList l s).nv = s.nv := rfl
@[simp] theorem clearRegList_lgr (l : List Nat) (s : State) : (clearRegList l s).lgr = s.lgr := rfl
@[simp] theorem clearRegList_fold (l : List Nat) (s : State) : (clearRegList l s).fold = s.fold := rfl
@[simp] theorem clearRegList_lf (l : List Nat) (s : State) : (clearRegList l s).lf = s.lf := rfl
@[simp] theorem clearRegList_poll (l : List Nat) (s : State) : (clearRegList l s).poll = s.poll := rfl
@[simp] theorem clearRegList_flk (l : List Nat) (s : State) : (clearRegList l s).flk = s.flk := rfl
@[simp] theorem clearRegList_lcy (l : List Nat) (s : State) : (clearRegList l s).lcy = s.lcy := rfl
@[simp] theorem clearRegList_mon (l : List Nat) (s : State) : (clearRegList l s).mon = s.mon := rfl
@[simp] theorem clearRegList_uhf (l : List Nat) (s : State) : (clearRegList l s).uhf = s.uhf := rfl
@[simp] theorem clearRegList_uwb (l : List Nat) (s : State) : (clearRegList l s).uwb = s.uwb := rfl
@[simp] theorem clearRegList_vrd (l : List Nat) (s : State) : (clearRegList l s).vrd = s.vrd := rfl
@[simp] theorem clearRegList_cry (l : List Nat) (s : State) : (clearRegList l s).cry = s.cry := rfl
@[simp] theorem clearRegList_rng (l : List Nat) (s : State) : (clearRegList l s).rng = s.rng := rfl
@[simp] theorem clearRegList_tmr (l : List Nat) (s : State) : (clearRegList l s).tmr = s.tmr := rfl

/-! ## tookFree -/

@[simp] theorem tookFree_pending (k : Nat) (s : State) : (tookFree k s).pending = s.pending := rfl
@[simp] theorem tookFree_part (k : Nat) (s : State) : (tookFree k s).part = s.part := rfl
@[simp] theorem tookFree_latchHi (k : Nat) (s : State) : (tookFree k s).latchHi = s.latchHi := rfl
@[simp] theorem tookFree_heldWr (k : Nat) (s : State) : (tookFree k s).heldWr = s.heldWr := rfl
@[simp] theorem tookFree_clk (k : Nat) (s : State) : (tookFree k s).clk = s.clk := rfl
@[simp] theorem tookFree_pwr (k : Nat) (s : State) : (tookFree k s).pwr = s.pwr := rfl
@[simp] theorem tookFree_pins (k : Nat) (s : State) : (tookFree k s).pins = s.pins := rfl
@[simp] theorem tookFree_hif (k : Nat) (s : State) : (tookFree k s).hif = s.hif := rfl
@[simp] theorem tookFree_hostMem (k : Nat) (s : State) : (tookFree k s).hostMem = s.hostMem := rfl
@[simp] theorem tookFree_dmaBad (k : Nat) (s : State) : (tookFree k s).dmaBad = s.dmaBad := rfl
@[simp] theorem tookFree_droverMem (k : Nat) (s : State) : (tookFree k s).droverMem = s.droverMem := rfl
@[simp] theorem tookFree_monMem (k : Nat) (s : State) : (tookFree k s).monMem = s.monMem := rfl
@[simp] theorem tookFree_nv (k : Nat) (s : State) : (tookFree k s).nv = s.nv := rfl
@[simp] theorem tookFree_lgr (k : Nat) (s : State) : (tookFree k s).lgr = s.lgr := rfl
@[simp] theorem tookFree_fold (k : Nat) (s : State) : (tookFree k s).fold = s.fold := rfl
@[simp] theorem tookFree_lf (k : Nat) (s : State) : (tookFree k s).lf = s.lf := rfl
@[simp] theorem tookFree_poll (k : Nat) (s : State) : (tookFree k s).poll = s.poll := rfl
@[simp] theorem tookFree_flk (k : Nat) (s : State) : (tookFree k s).flk = s.flk := rfl
@[simp] theorem tookFree_lcy (k : Nat) (s : State) : (tookFree k s).lcy = s.lcy := rfl
@[simp] theorem tookFree_mon (k : Nat) (s : State) : (tookFree k s).mon = s.mon := rfl
@[simp] theorem tookFree_uhf (k : Nat) (s : State) : (tookFree k s).uhf = s.uhf := rfl
@[simp] theorem tookFree_uwb (k : Nat) (s : State) : (tookFree k s).uwb = s.uwb := rfl
@[simp] theorem tookFree_vrd (k : Nat) (s : State) : (tookFree k s).vrd = s.vrd := rfl
@[simp] theorem tookFree_cry (k : Nat) (s : State) : (tookFree k s).cry = s.cry := rfl
@[simp] theorem tookFree_rng (k : Nat) (s : State) : (tookFree k s).rng = s.rng := rfl
@[simp] theorem tookFree_tmr (k : Nat) (s : State) : (tookFree k s).tmr = s.tmr := rfl
@[simp] theorem tookFree_regs (k : Nat) (s : State) : (tookFree k s).regs = s.regs := rfl

/-! ## setQp -/

@[simp] theorem setQp_pending (n : Nat) (q : Qp) (s : State) : (setQp n q s).pending = s.pending := rfl
@[simp] theorem setQp_part (n : Nat) (q : Qp) (s : State) : (setQp n q s).part = s.part := rfl
@[simp] theorem setQp_free (n : Nat) (q : Qp) (s : State) : (setQp n q s).free = s.free := rfl
@[simp] theorem setQp_latchHi (n : Nat) (q : Qp) (s : State) : (setQp n q s).latchHi = s.latchHi := rfl
@[simp] theorem setQp_heldWr (n : Nat) (q : Qp) (s : State) : (setQp n q s).heldWr = s.heldWr := rfl
@[simp] theorem setQp_clk (n : Nat) (q : Qp) (s : State) : (setQp n q s).clk = s.clk := rfl
@[simp] theorem setQp_pwr (n : Nat) (q : Qp) (s : State) : (setQp n q s).pwr = s.pwr := rfl
@[simp] theorem setQp_pins (n : Nat) (q : Qp) (s : State) : (setQp n q s).pins = s.pins := rfl
@[simp] theorem setQp_hostMem (n : Nat) (q : Qp) (s : State) : (setQp n q s).hostMem = s.hostMem := rfl
@[simp] theorem setQp_dmaBad (n : Nat) (q : Qp) (s : State) : (setQp n q s).dmaBad = s.dmaBad := rfl
@[simp] theorem setQp_droverMem (n : Nat) (q : Qp) (s : State) : (setQp n q s).droverMem = s.droverMem := rfl
@[simp] theorem setQp_monMem (n : Nat) (q : Qp) (s : State) : (setQp n q s).monMem = s.monMem := rfl
@[simp] theorem setQp_nv (n : Nat) (q : Qp) (s : State) : (setQp n q s).nv = s.nv := rfl
@[simp] theorem setQp_lgr (n : Nat) (q : Qp) (s : State) : (setQp n q s).lgr = s.lgr := rfl
@[simp] theorem setQp_fold (n : Nat) (q : Qp) (s : State) : (setQp n q s).fold = s.fold := rfl
@[simp] theorem setQp_lf (n : Nat) (q : Qp) (s : State) : (setQp n q s).lf = s.lf := rfl
@[simp] theorem setQp_poll (n : Nat) (q : Qp) (s : State) : (setQp n q s).poll = s.poll := rfl
@[simp] theorem setQp_flk (n : Nat) (q : Qp) (s : State) : (setQp n q s).flk = s.flk := rfl
@[simp] theorem setQp_lcy (n : Nat) (q : Qp) (s : State) : (setQp n q s).lcy = s.lcy := rfl
@[simp] theorem setQp_mon (n : Nat) (q : Qp) (s : State) : (setQp n q s).mon = s.mon := rfl
@[simp] theorem setQp_uhf (n : Nat) (q : Qp) (s : State) : (setQp n q s).uhf = s.uhf := rfl
@[simp] theorem setQp_uwb (n : Nat) (q : Qp) (s : State) : (setQp n q s).uwb = s.uwb := rfl
@[simp] theorem setQp_vrd (n : Nat) (q : Qp) (s : State) : (setQp n q s).vrd = s.vrd := rfl
@[simp] theorem setQp_cry (n : Nat) (q : Qp) (s : State) : (setQp n q s).cry = s.cry := rfl
@[simp] theorem setQp_rng (n : Nat) (q : Qp) (s : State) : (setQp n q s).rng = s.rng := rfl
@[simp] theorem setQp_tmr (n : Nat) (q : Qp) (s : State) : (setQp n q s).tmr = s.tmr := rfl
@[simp] theorem setQp_regs (n : Nat) (q : Qp) (s : State) : (setQp n q s).regs = s.regs := rfl

/-! ## say -/

@[simp] theorem say_pending (l : String) (s : State) : (say l s).pending = s.pending := rfl
@[simp] theorem say_part (l : String) (s : State) : (say l s).part = s.part := rfl
@[simp] theorem say_free (l : String) (s : State) : (say l s).free = s.free := rfl
@[simp] theorem say_latchHi (l : String) (s : State) : (say l s).latchHi = s.latchHi := rfl
@[simp] theorem say_heldWr (l : String) (s : State) : (say l s).heldWr = s.heldWr := rfl
@[simp] theorem say_clk (l : String) (s : State) : (say l s).clk = s.clk := rfl
@[simp] theorem say_pwr (l : String) (s : State) : (say l s).pwr = s.pwr := rfl
@[simp] theorem say_pins (l : String) (s : State) : (say l s).pins = s.pins := rfl
@[simp] theorem say_hif (l : String) (s : State) : (say l s).hif = s.hif := rfl
@[simp] theorem say_hostMem (l : String) (s : State) : (say l s).hostMem = s.hostMem := rfl
@[simp] theorem say_dmaBad (l : String) (s : State) : (say l s).dmaBad = s.dmaBad := rfl
@[simp] theorem say_droverMem (l : String) (s : State) : (say l s).droverMem = s.droverMem := rfl
@[simp] theorem say_monMem (l : String) (s : State) : (say l s).monMem = s.monMem := rfl
@[simp] theorem say_nv (l : String) (s : State) : (say l s).nv = s.nv := rfl
@[simp] theorem say_lgr (l : String) (s : State) : (say l s).lgr = s.lgr := rfl
@[simp] theorem say_fold (l : String) (s : State) : (say l s).fold = s.fold := rfl
@[simp] theorem say_lf (l : String) (s : State) : (say l s).lf = s.lf := rfl
@[simp] theorem say_poll (l : String) (s : State) : (say l s).poll = s.poll := rfl
@[simp] theorem say_flk (l : String) (s : State) : (say l s).flk = s.flk := rfl
@[simp] theorem say_lcy (l : String) (s : State) : (say l s).lcy = s.lcy := rfl
@[simp] theorem say_uhf (l : String) (s : State) : (say l s).uhf = s.uhf := rfl
@[simp] theorem say_uwb (l : String) (s : State) : (say l s).uwb = s.uwb := rfl
@[simp] theorem say_vrd (l : String) (s : State) : (say l s).vrd = s.vrd := rfl
@[simp] theorem say_cry (l : String) (s : State) : (say l s).cry = s.cry := rfl
@[simp] theorem say_rng (l : String) (s : State) : (say l s).rng = s.rng := rfl
@[simp] theorem say_tmr (l : String) (s : State) : (say l s).tmr = s.tmr := rfl
@[simp] theorem say_regs (l : String) (s : State) : (say l s).regs = s.regs := rfl

/-! ## passTicks -/

@[simp] theorem passTicks_pending (n : Nat) (s : State) : (passTicks n s).pending = s.pending := rfl
@[simp] theorem passTicks_part (n : Nat) (s : State) : (passTicks n s).part = s.part := rfl
@[simp] theorem passTicks_free (n : Nat) (s : State) : (passTicks n s).free = s.free := rfl
@[simp] theorem passTicks_latchHi (n : Nat) (s : State) : (passTicks n s).latchHi = s.latchHi := rfl
@[simp] theorem passTicks_heldWr (n : Nat) (s : State) : (passTicks n s).heldWr = s.heldWr := rfl
@[simp] theorem passTicks_pwr (n : Nat) (s : State) : (passTicks n s).pwr = s.pwr := rfl
@[simp] theorem passTicks_pins (n : Nat) (s : State) : (passTicks n s).pins = s.pins := rfl
@[simp] theorem passTicks_hif (n : Nat) (s : State) : (passTicks n s).hif = s.hif := rfl
@[simp] theorem passTicks_hostMem (n : Nat) (s : State) : (passTicks n s).hostMem = s.hostMem := rfl
@[simp] theorem passTicks_dmaBad (n : Nat) (s : State) : (passTicks n s).dmaBad = s.dmaBad := rfl
@[simp] theorem passTicks_droverMem (n : Nat) (s : State) : (passTicks n s).droverMem = s.droverMem := rfl
@[simp] theorem passTicks_monMem (n : Nat) (s : State) : (passTicks n s).monMem = s.monMem := rfl
@[simp] theorem passTicks_lgr (n : Nat) (s : State) : (passTicks n s).lgr = s.lgr := rfl
@[simp] theorem passTicks_fold (n : Nat) (s : State) : (passTicks n s).fold = s.fold := rfl
@[simp] theorem passTicks_lf (n : Nat) (s : State) : (passTicks n s).lf = s.lf := rfl
@[simp] theorem passTicks_poll (n : Nat) (s : State) : (passTicks n s).poll = s.poll := rfl
@[simp] theorem passTicks_flk (n : Nat) (s : State) : (passTicks n s).flk = s.flk := rfl
@[simp] theorem passTicks_lcy (n : Nat) (s : State) : (passTicks n s).lcy = s.lcy := rfl
@[simp] theorem passTicks_mon (n : Nat) (s : State) : (passTicks n s).mon = s.mon := rfl
@[simp] theorem passTicks_uhf (n : Nat) (s : State) : (passTicks n s).uhf = s.uhf := rfl
@[simp] theorem passTicks_uwb (n : Nat) (s : State) : (passTicks n s).uwb = s.uwb := rfl
@[simp] theorem passTicks_vrd (n : Nat) (s : State) : (passTicks n s).vrd = s.vrd := rfl
@[simp] theorem passTicks_cry (n : Nat) (s : State) : (passTicks n s).cry = s.cry := rfl
@[simp] theorem passTicks_rng (n : Nat) (s : State) : (passTicks n s).rng = s.rng := rfl
@[simp] theorem passTicks_tmr (n : Nat) (s : State) : (passTicks n s).tmr = s.tmr := rfl
@[simp] theorem passTicks_regs (n : Nat) (s : State) : (passTicks n s).regs = s.regs := rfl

/-! ## Fields of a word -/

/-- A field lies within its word. -/
def Field.fits (f : Field) : Bool := f.lo + f.width ≤ 32

/-- Putting a value into a field gives a number below 2^32. -/
theorem Field.put_lt (f : Field) (hf : f.fits = true) (v : Nat) (w : Word) :
    w.toNat % 2 ^ f.lo + v % 2 ^ f.width * 2 ^ f.lo + w.toNat / 2 ^ (f.lo + f.width) * 2 ^ (f.lo + f.width) < 2 ^ 32 := by
  have hw : w.toNat < 2 ^ 32 := w.isLt
  have hf' : f.lo + f.width ≤ 32 := by simpa [Field.fits] using hf
  have h1 : w.toNat % 2 ^ f.lo < 2 ^ f.lo := Nat.mod_lt _ (by positivity)
  have h2 : v % 2 ^ f.width < 2 ^ f.width := Nat.mod_lt _ (by positivity)
  have hA : v % 2 ^ f.width * 2 ^ f.lo + 2 ^ f.lo ≤ 2 ^ (f.lo + f.width) := by
    have : (v % 2 ^ f.width + 1) * 2 ^ f.lo ≤ 2 ^ f.width * 2 ^ f.lo := Nat.mul_le_mul_right _ h2
    rw [Nat.add_mul, Nat.one_mul] at this
    rw [Nat.pow_add, Nat.mul_comm (2 ^ f.lo)]
    exact this
  have h32 : 2 ^ 32 = 2 ^ (32 - (f.lo + f.width)) * 2 ^ (f.lo + f.width) := by
    rw [← Nat.pow_add]; congr 1; omega
  have hB : w.toNat / 2 ^ (f.lo + f.width) + 1 ≤ 2 ^ (32 - (f.lo + f.width)) := by
    apply Nat.succ_le_of_lt
    apply Nat.div_lt_of_lt_mul
    rw [Nat.mul_comm, ← h32]; exact hw
  have hC : w.toNat / 2 ^ (f.lo + f.width) * 2 ^ (f.lo + f.width) + 2 ^ (f.lo + f.width) ≤ 2 ^ 32 := by
    have := Nat.mul_le_mul_right (2 ^ (f.lo + f.width)) hB
    rw [Nat.add_mul, Nat.one_mul, ← h32] at this
    exact this
  omega

/-- A field reads as it was put. -/
theorem Field.of_put (f : Field) (hf : f.fits = true) (v : Nat) (w : Word) : f.of (f.put v w) = v % 2 ^ f.width := by
  have hlt := f.put_lt hf v w
  simp only [Field.of, Field.put, BitVec.toNat_ofNat]
  rw [Nat.mod_eq_of_lt hlt]
  have h1 : w.toNat % 2 ^ f.lo < 2 ^ f.lo := Nat.mod_lt _ (by positivity)
  have h2 : v % 2 ^ f.width < 2 ^ f.width := Nat.mod_lt _ (by positivity)
  have e : w.toNat % 2 ^ f.lo + v % 2 ^ f.width * 2 ^ f.lo + w.toNat / 2 ^ (f.lo + f.width) * 2 ^ (f.lo + f.width)
      = w.toNat % 2 ^ f.lo + 2 ^ f.lo * (v % 2 ^ f.width + 2 ^ f.width * (w.toNat / 2 ^ (f.lo + f.width))) := by
    rw [Nat.pow_add]; ring
  rw [e, Nat.add_mul_div_left _ _ (by positivity), Nat.div_eq_of_lt h1, Nat.zero_add, Nat.add_mul_mod_self_left,
    Nat.mod_eq_of_lt h2]

/-- Bit `i` of a word with a field put: the value's bit inside the field, the word's outside. -/
theorem Field.put_testBit (f : Field) (hf : f.fits = true) (v : Nat) (w : Word) (i : Nat) :
    (f.put v w).toNat.testBit i =
      (if i < f.lo then w.toNat.testBit i else if i < f.lo + f.width then v.testBit (i - f.lo) else w.toNat.testBit i) := by
  have hlt := f.put_lt hf v w
  simp only [Field.put, BitVec.toNat_ofNat]
  rw [Nat.mod_eq_of_lt hlt]
  have h1 : w.toNat % 2 ^ f.lo < 2 ^ f.lo := Nat.mod_lt _ (by positivity)
  have h2 : v % 2 ^ f.width < 2 ^ f.width := Nat.mod_lt _ (by positivity)
  have e : w.toNat % 2 ^ f.lo + v % 2 ^ f.width * 2 ^ f.lo + w.toNat / 2 ^ (f.lo + f.width) * 2 ^ (f.lo + f.width)
      = 2 ^ f.lo * (2 ^ f.width * (w.toNat / 2 ^ (f.lo + f.width)) + v % 2 ^ f.width) + w.toNat % 2 ^ f.lo := by
    rw [Nat.pow_add]; ring
  rw [e, Nat.testBit_two_pow_mul_add _ h1]
  by_cases c1 : i < f.lo
  · simp [c1, Nat.testBit_mod_two_pow]
  · rw [if_neg c1, if_neg c1, Nat.testBit_two_pow_mul_add _ h2]
    by_cases c2 : i < f.lo + f.width
    · have : i - f.lo < f.width := by omega
      simp [c2, this, Nat.testBit_mod_two_pow]
    · have : ¬ (i - f.lo < f.width) := by omega
      simp only [if_neg this, if_neg c2, Nat.testBit_div_two_pow]
      congr 1; omega

/-- Two fields share no bit. -/
def Field.apart (f g : Field) : Bool := f.off != g.off || f.lo + f.width ≤ g.lo || g.lo + g.width ≤ f.lo

/-- The bits of a field are those of its word. -/
theorem Field.of_testBit (g : Field) (w : Word) (i : Nat) :
    (g.of w).testBit i = (decide (i < g.width) && w.toNat.testBit (i + g.lo)) := by
  simp [Field.of, Nat.testBit_mod_two_pow, Nat.testBit_div_two_pow, Nat.add_comm]

/-- A field apart in the same word keeps its value. -/
theorem Field.of_put_apart (f g : Field) (hf : f.fits = true) (h : f.lo + f.width ≤ g.lo ∨ g.lo + g.width ≤ f.lo)
    (v : Nat) (w : Word) : g.of (f.put v w) = g.of w := by
  apply Nat.eq_of_testBit_eq
  intro i
  rw [Field.of_testBit, Field.of_testBit, Field.put_testBit f hf]
  by_cases hi : i < g.width
  · rcases h with h | h
    · rw [if_neg (by omega), if_neg (by omega)]
    · rw [if_pos (by omega)]
  · simp [hi]

/-! ## Registers -/

/-- The register file is in canonical form. -/
def Regs.wf (s : State) : Bool := swf (regReset s.part) s.regs

/-- A register reads as it was written. -/
theorem regGet_regSet_same (off : Nat) (v : Word) (s : State) (h : Regs.wf s = true) :
    regGet off (regSet off v s) = v := by
  exact sget_sset_same (regReset s.part) off v h

/-- Every other register reads as before. -/
theorem regGet_regSet_ne (off off' : Nat) (v : Word) (s : State) (h : off' ≠ off) :
    regGet off' (regSet off v s) = regGet off' s :=
  sget_sset_ne (regReset s.part) off off' v h s.regs

/-- A write keeps the register file in canonical form. -/
theorem regs_wf_regSet (off : Nat) (v : Word) (s : State) (h : Regs.wf s = true) : Regs.wf (regSet off v s) = true :=
  swf_sset (regReset s.part) off v h

/-- A field's write keeps it. -/
theorem regs_wf_setFld (f : Field) (v : Nat) (s : State) (h : Regs.wf s = true) : Regs.wf (setFld f v s) = true :=
  regs_wf_regSet _ _ s h

/-- A field reads as it was set. -/
theorem fld_setFld_same (f : Field) (hf : f.fits = true) (v : Nat) (s : State) (h : Regs.wf s = true) :
    fld f (setFld f v s) = v % 2 ^ f.width := by
  simp only [fld, setFld, regGet_regSet_same f.off _ s h]
  exact f.of_put hf v _

/-- A field apart from the one set keeps its value. -/
theorem fld_setFld_apart (f g : Field) (hf : f.fits = true) (hg : f.apart g = true) (v : Nat) (s : State)
    (h : Regs.wf s = true) : fld g (setFld f v s) = fld g s := by
  by_cases he : g.off = f.off
  · have hb : f.lo + f.width ≤ g.lo ∨ g.lo + g.width ≤ f.lo := by
      simpa [Field.apart, he] using hg
    simp only [fld, setFld, he, regGet_regSet_same f.off _ s h]
    exact Field.of_put_apart f g hf hb v _
  · simp only [fld, setFld, regGet_regSet_ne f.off g.off _ s he]

end Sys2Proof.Machine
end

