-- ==== Sys2Proof/Laws/Shell.lean ====
section
/-! SUPPORT. Laws/Shell.lean: what the parts that every command shares can do: the passing of time, the beginning and
the end of a command. -/
namespace Sys2Proof.Machine

/-! ## Time -/

/-- Time changes the clocks and the write-combining buffer, nothing else. -/
theorem elapse_eq (t : Nat) (s : State) :
    elapse t s = { s with clk := (elapse t s).clk, nv := { s.nv with buf := (elapse t s).nv.buf } } := by
  unfold elapse
  split
  · rfl
  · split <;> rfl

/-- One edge changes the same. -/
theorem oneEdge_eq (s : State) :
    oneEdge s = { s with clk := (oneEdge s).clk, nv := { s.nv with buf := (oneEdge s).nv.buf } } := by
  unfold oneEdge
  split
  · split <;> rfl
  · rfl

@[simp] theorem elapse_pending (t : Nat) (s : State) : (elapse t s).pending = s.pending := by rw [elapse_eq]
@[simp] theorem elapse_part (t : Nat) (s : State) : (elapse t s).part = s.part := by rw [elapse_eq]
@[simp] theorem elapse_free (t : Nat) (s : State) : (elapse t s).free = s.free := by rw [elapse_eq]
@[simp] theorem elapse_regs (t : Nat) (s : State) : (elapse t s).regs = s.regs := by rw [elapse_eq]
@[simp] theorem elapse_latchHi (t : Nat) (s : State) : (elapse t s).latchHi = s.latchHi := by rw [elapse_eq]
@[simp] theorem elapse_heldWr (t : Nat) (s : State) : (elapse t s).heldWr = s.heldWr := by rw [elapse_eq]
@[simp] theorem elapse_pwr (t : Nat) (s : State) : (elapse t s).pwr = s.pwr := by rw [elapse_eq]
@[simp] theorem elapse_pins (t : Nat) (s : State) : (elapse t s).pins = s.pins := by rw [elapse_eq]
@[simp] theorem elapse_hif (t : Nat) (s : State) : (elapse t s).hif = s.hif := by rw [elapse_eq]
@[simp] theorem elapse_hostMem (t : Nat) (s : State) : (elapse t s).hostMem = s.hostMem := by rw [elapse_eq]
@[simp] theorem elapse_dmaBad (t : Nat) (s : State) : (elapse t s).dmaBad = s.dmaBad := by rw [elapse_eq]
@[simp] theorem elapse_droverMem (t : Nat) (s : State) : (elapse t s).droverMem = s.droverMem := by rw [elapse_eq]
@[simp] theorem elapse_monMem (t : Nat) (s : State) : (elapse t s).monMem = s.monMem := by rw [elapse_eq]
@[simp] theorem elapse_lgr (t : Nat) (s : State) : (elapse t s).lgr = s.lgr := by rw [elapse_eq]
@[simp] theorem elapse_fold (t : Nat) (s : State) : (elapse t s).fold = s.fold := by rw [elapse_eq]
@[simp] theorem elapse_lf (t : Nat) (s : State) : (elapse t s).lf = s.lf := by rw [elapse_eq]
@[simp] theorem elapse_poll (t : Nat) (s : State) : (elapse t s).poll = s.poll := by rw [elapse_eq]
@[simp] theorem elapse_flk (t : Nat) (s : State) : (elapse t s).flk = s.flk := by rw [elapse_eq]
@[simp] theorem elapse_lcy (t : Nat) (s : State) : (elapse t s).lcy = s.lcy := by rw [elapse_eq]
@[simp] theorem elapse_mon (t : Nat) (s : State) : (elapse t s).mon = s.mon := by rw [elapse_eq]
@[simp] theorem elapse_uhf (t : Nat) (s : State) : (elapse t s).uhf = s.uhf := by rw [elapse_eq]
@[simp] theorem elapse_uwb (t : Nat) (s : State) : (elapse t s).uwb = s.uwb := by rw [elapse_eq]
@[simp] theorem elapse_vrd (t : Nat) (s : State) : (elapse t s).vrd = s.vrd := by rw [elapse_eq]
@[simp] theorem elapse_cry (t : Nat) (s : State) : (elapse t s).cry = s.cry := by rw [elapse_eq]
@[simp] theorem elapse_rng (t : Nat) (s : State) : (elapse t s).rng = s.rng := by rw [elapse_eq]
@[simp] theorem elapse_tmr (t : Nat) (s : State) : (elapse t s).tmr = s.tmr := by rw [elapse_eq]
@[simp] theorem elapse_nv_mem (t : Nat) (s : State) : (elapse t s).nv.mem = s.nv.mem := by rw [elapse_eq]
@[simp] theorem elapse_nv_bad (t : Nat) (s : State) : (elapse t s).nv.bad = s.nv.bad := by rw [elapse_eq]
@[simp] theorem elapse_nv_soft (t : Nat) (s : State) : (elapse t s).nv.soft = s.nv.soft := by rw [elapse_eq]
@[simp] theorem elapse_nv_weak (t : Nat) (s : State) : (elapse t s).nv.weak = s.nv.weak := by rw [elapse_eq]
@[simp] theorem elapse_nv_worn (t : Nat) (s : State) : (elapse t s).nv.worn = s.nv.worn := by rw [elapse_eq]
@[simp] theorem elapse_nv_recs (t : Nat) (s : State) : (elapse t s).nv.recs = s.nv.recs := by rw [elapse_eq]
@[simp] theorem elapse_nv_wornRecs (t : Nat) (s : State) : (elapse t s).nv.wornRecs = s.nv.wornRecs := by rw [elapse_eq]
@[simp] theorem elapse_nv_twins (t : Nat) (s : State) : (elapse t s).nv.twins = s.nv.twins := by rw [elapse_eq]
@[simp] theorem elapse_nv_checked (t : Nat) (s : State) : (elapse t s).nv.checked = s.nv.checked := by rw [elapse_eq]
@[simp] theorem elapse_nv_incAt (t : Nat) (s : State) : (elapse t s).nv.incAt = s.nv.incAt := by rw [elapse_eq]
@[simp] theorem elapse_nv_scrubEnd (t : Nat) (s : State) : (elapse t s).nv.scrubEnd = s.nv.scrubEnd := by rw [elapse_eq]
@[simp] theorem elapse_nv_holdWasLow (t : Nat) (s : State) : (elapse t s).nv.holdWasLow = s.nv.holdWasLow := by rw [elapse_eq]
@[simp] theorem elapse_nv_holdAt (t : Nat) (s : State) : (elapse t s).nv.holdAt = s.nv.holdAt := by rw [elapse_eq]
@[simp] theorem elapse_nv_ledgerReady (t : Nat) (s : State) : (elapse t s).nv.ledgerReady = s.nv.ledgerReady := by rw [elapse_eq]
@[simp] theorem elapse_nv_loaded (t : Nat) (s : State) : (elapse t s).nv.loaded = s.nv.loaded := by rw [elapse_eq]
@[simp] theorem elapse_regGet (off : Nat) (t : Nat) (s : State) : regGet off (elapse t s) = regGet off s := by simp [regGet]
@[simp] theorem elapse_fld (f : Field) (t : Nat) (s : State) : fld f (elapse t s) = fld f s := by simp [fld]
@[simp] theorem elapse_flag (f : Field) (t : Nat) (s : State) : flag f (elapse t s) = flag f s := by simp [flag]

@[simp] theorem oneEdge_pending (s : State) : (oneEdge s).pending = s.pending := by rw [oneEdge_eq]
@[simp] theorem oneEdge_part (s : State) : (oneEdge s).part = s.part := by rw [oneEdge_eq]
@[simp] theorem oneEdge_free (s : State) : (oneEdge s).free = s.free := by rw [oneEdge_eq]
@[simp] theorem oneEdge_regs (s : State) : (oneEdge s).regs = s.regs := by rw [oneEdge_eq]
@[simp] theorem oneEdge_latchHi (s : State) : (oneEdge s).latchHi = s.latchHi := by rw [oneEdge_eq]
@[simp] theorem oneEdge_heldWr (s : State) : (oneEdge s).heldWr = s.heldWr := by rw [oneEdge_eq]
@[simp] theorem oneEdge_pwr (s : State) : (oneEdge s).pwr = s.pwr := by rw [oneEdge_eq]
@[simp] theorem oneEdge_pins (s : State) : (oneEdge s).pins = s.pins := by rw [oneEdge_eq]
@[simp] theorem oneEdge_hif (s : State) : (oneEdge s).hif = s.hif := by rw [oneEdge_eq]
@[simp] theorem oneEdge_hostMem (s : State) : (oneEdge s).hostMem = s.hostMem := by rw [oneEdge_eq]
@[simp] theorem oneEdge_dmaBad (s : State) : (oneEdge s).dmaBad = s.dmaBad := by rw [oneEdge_eq]
@[simp] theorem oneEdge_droverMem (s : State) : (oneEdge s).droverMem = s.droverMem := by rw [oneEdge_eq]
@[simp] theorem oneEdge_monMem (s : State) : (oneEdge s).monMem = s.monMem := by rw [oneEdge_eq]
@[simp] theorem oneEdge_lgr (s : State) : (oneEdge s).lgr = s.lgr := by rw [oneEdge_eq]
@[simp] theorem oneEdge_fold (s : State) : (oneEdge s).fold = s.fold := by rw [oneEdge_eq]
@[simp] theorem oneEdge_lf (s : State) : (oneEdge s).lf = s.lf := by rw [oneEdge_eq]
@[simp] theorem oneEdge_poll (s : State) : (oneEdge s).poll = s.poll := by rw [oneEdge_eq]
@[simp] theorem oneEdge_flk (s : State) : (oneEdge s).flk = s.flk := by rw [oneEdge_eq]
@[simp] theorem oneEdge_lcy (s : State) : (oneEdge s).lcy = s.lcy := by rw [oneEdge_eq]
@[simp] theorem oneEdge_mon (s : State) : (oneEdge s).mon = s.mon := by rw [oneEdge_eq]
@[simp] theorem oneEdge_uhf (s : State) : (oneEdge s).uhf = s.uhf := by rw [oneEdge_eq]
@[simp] theorem oneEdge_uwb (s : State) : (oneEdge s).uwb = s.uwb := by rw [oneEdge_eq]
@[simp] theorem oneEdge_vrd (s : State) : (oneEdge s).vrd = s.vrd := by rw [oneEdge_eq]
@[simp] theorem oneEdge_cry (s : State) : (oneEdge s).cry = s.cry := by rw [oneEdge_eq]
@[simp] theorem oneEdge_rng (s : State) : (oneEdge s).rng = s.rng := by rw [oneEdge_eq]
@[simp] theorem oneEdge_tmr (s : State) : (oneEdge s).tmr = s.tmr := by rw [oneEdge_eq]
@[simp] theorem oneEdge_nv_mem (s : State) : (oneEdge s).nv.mem = s.nv.mem := by rw [oneEdge_eq]
@[simp] theorem oneEdge_nv_bad (s : State) : (oneEdge s).nv.bad = s.nv.bad := by rw [oneEdge_eq]
@[simp] theorem oneEdge_nv_soft (s : State) : (oneEdge s).nv.soft = s.nv.soft := by rw [oneEdge_eq]
@[simp] theorem oneEdge_nv_weak (s : State) : (oneEdge s).nv.weak = s.nv.weak := by rw [oneEdge_eq]
@[simp] theorem oneEdge_nv_worn (s : State) : (oneEdge s).nv.worn = s.nv.worn := by rw [oneEdge_eq]
@[simp] theorem oneEdge_nv_recs (s : State) : (oneEdge s).nv.recs = s.nv.recs := by rw [oneEdge_eq]
@[simp] theorem oneEdge_nv_wornRecs (s : State) : (oneEdge s).nv.wornRecs = s.nv.wornRecs := by rw [oneEdge_eq]
@[simp] theorem oneEdge_nv_twins (s : State) : (oneEdge s).nv.twins = s.nv.twins := by rw [oneEdge_eq]
@[simp] theorem oneEdge_nv_checked (s : State) : (oneEdge s).nv.checked = s.nv.checked := by rw [oneEdge_eq]
@[simp] theorem oneEdge_nv_incAt (s : State) : (oneEdge s).nv.incAt = s.nv.incAt := by rw [oneEdge_eq]
@[simp] theorem oneEdge_nv_scrubEnd (s : State) : (oneEdge s).nv.scrubEnd = s.nv.scrubEnd := by rw [oneEdge_eq]
@[simp] theorem oneEdge_nv_holdWasLow (s : State) : (oneEdge s).nv.holdWasLow = s.nv.holdWasLow := by rw [oneEdge_eq]
@[simp] theorem oneEdge_nv_holdAt (s : State) : (oneEdge s).nv.holdAt = s.nv.holdAt := by rw [oneEdge_eq]
@[simp] theorem oneEdge_nv_ledgerReady (s : State) : (oneEdge s).nv.ledgerReady = s.nv.ledgerReady := by rw [oneEdge_eq]
@[simp] theorem oneEdge_nv_loaded (s : State) : (oneEdge s).nv.loaded = s.nv.loaded := by rw [oneEdge_eq]
@[simp] theorem oneEdge_regGet (off : Nat) (s : State) : regGet off (oneEdge s) = regGet off s := by simp [regGet]
@[simp] theorem oneEdge_fld (f : Field) (s : State) : fld f (oneEdge s) = fld f s := by simp [fld]
@[simp] theorem oneEdge_flag (f : Field) (s : State) : flag f (oneEdge s) = flag f s := by simp [flag]

/-- The tick of a command that lies in the past leaves the time as it is. -/
theorem elapse_past (t : Nat) (s : State) (h : t ≤ now s) : elapse t s = s := by simp [elapse, h]

/-! ## The beginning of a command -/

/-- What calm says. -/
theorem calm_iff (s : State) : calm s = true ↔
    s.pwr.entering = none ∧ calibrating s = false ∧ headerOpen s = false ∧ s.fold.op = none ∧ s.fold.wait = []
      ∧ s.fold.queue = [] ∧ s.lgr.hostWait.all (fun p => decide (p.2 ≠ 0)) = true := by
  simp only [calm, Bool.and_eq_true, Option.isNone_iff_eq_none, List.isEmpty_iff, Bool.not_eq_true']
  tauto

/-- On a calm device nothing falls due. -/
theorem dueTicks_calm (s : State) (h : calm s = true) : dueTicks s = [] := by
  obtain ⟨he, hc, -, ho, -, -, -⟩ := (calm_iff s).mp h
  simp only [calibrating, Bool.or_eq_false_iff, Option.isSome_eq_false_iff, Option.isNone_iff_eq_none] at hc
  obtain ⟨⟨⟨h1, h2⟩, h3⟩, h4⟩ := hc
  unfold dueTicks
  rw [he, h1, h2, ho]
  cases hu : s.uhf.run <;> cases hw : s.uwb.run <;> simp_all

/-- A fixed header stays. -/
theorem latchHeader_fixed (s : State) (h : headerOpen s = false) : latchHeader s = s := by
  unfold headerOpen at h
  unfold latchHeader
  split
  · rename_i r p h1 h2
    have e : p.header.isNone = false := by simpa [h1, h2] using h
    rw [e]
    rfl
  · rfl

/-- On a calm device a command begins with the passing of time alone. -/
theorem begin_calm (t : Nat) (s : State) (h : calm s = true) : begin t s = elapse t s := by
  obtain ⟨-, -, hh, -, -, -, -⟩ := (calm_iff s).mp h
  have hn : dueCount s = (7 + s.uhf.queue.length + s.uwb.queue.length + s.fold.queue.length + s.fold.wait.length) + 1 := by
    unfold dueCount; omega
  unfold begin
  rw [hn, runTo, nextDue, dueTicks_calm s h]
  exact latchHeader_fixed _ (by simpa [headerOpen] using hh)

/-- Time keeps a device calm. -/
theorem calm_elapse (t : Nat) (s : State) (h : calm s = true) : calm (elapse t s) = true := by
  simpa [calm, calibrating, headerOpen] using h

/-! ## The end of a command -/

/-- No append has lost its place. -/
theorem flushDisplaced_calm (s : State) (h : s.lgr.hostWait.all (fun p => decide (p.2 ≠ 0)) = true) :
    flushDisplaced s = s := by
  have h1 : s.lgr.hostWait.filter (fun p => decide (p.2 = 0)) = [] := by
    rw [List.filter_eq_nil_iff]
    intro p hp
    have := List.all_eq_true.mp h p hp
    simpa using this
  have h2 : s.lgr.hostWait.filter (fun p => decide (p.2 ≠ 0)) = s.lgr.hostWait := by
    rw [List.filter_eq_self]
    intro p hp
    exact List.all_eq_true.mp h p hp
  unfold flushDisplaced
  rw [h1, h2]
  rfl

/-- No fold operation waits. -/
theorem settleFolds_calm (s : State) (hw : s.fold.wait = []) (hq : s.fold.queue = []) : settleFolds s = s := by
  simp [settleFolds, hw, hq]

/-- What every command ends with leaves all but the lines, idleness and progress; in Watch also power follows. -/
theorem settleIslands_settles (s : State) : settles s (settleIslands s) := by
  unfold settles settleIslands
  split
  · rename_i h
    simp only [Bool.and_eq_true, beq_iff_eq] at h
    simp [blankLines, setUwbWalk, setUhfWalk, h.1.1.1]
  · rfl

/-- The end of a command on a device where nothing waits: the lines and the start of idleness follow. -/
theorem finish_settles (s : State) (hh : s.lgr.hostWait.all (fun p => decide (p.2 ≠ 0)) = true)
    (hw : s.fold.wait = []) (hq : s.fold.queue = []) : settles s (finish s) := by
  unfold finish
  rw [flushDisplaced_calm s hh, settleFolds_calm s hw hq]
  refine Eq.trans ?_ (settleIslands_settles s)
  generalize settleIslands s = x
  unfold refreshDrive
  split <;> rfl

/-- The coexistence, amplifier and CAN standby lines after `refreshRadio`. -/
theorem refreshRadio_lines (x : State) : linesSafe (refreshRadio x) := by
  refine ⟨?_, ?_, rfl, ?_, ?_⟩
  · intro h
    simp only [refreshRadio, Bool.and_eq_true] at h
    exact h.1
  · intro h
    simp only [refreshRadio, Bool.and_eq_true] at h ⊢
    refine ⟨h.1, ?_⟩
    cases hc : coexActs x with
    | nil => simp [hc] at h
    | cons a l => rfl
  · intro h
    have h5 : uhfSends x = true := by simpa [refreshRadio] using h
    exact h5
  · intro h
    simp only [refreshRadio, Bool.or_eq_false_iff, Bool.not_eq_false', Bool.and_eq_true] at h
    exact ⟨h.2.1, h.2.2, h.1.1, h.1.2⟩

/-- `finish` leaves the lines safe, whatever came before it. -/
theorem finish_lines (s : State) : linesSafe (finish s) := by
  unfold finish
  have key := refreshRadio_lines (settleIslands (settleFolds (flushDisplaced s)))
  generalize refreshRadio (settleIslands (settleFolds (flushDisplaced s))) = x at key
  unfold refreshDrive
  split <;> exact key

end Sys2Proof.Machine
end

