-- ==== Sys2Proof/Laws/Cpl.lean ====
section
/-! SUPPORT. Laws/Cpl.lean: what a completion can do, and what a command on a live device or on a dispatched descriptor
comes down to. -/
namespace Sys2Proof.Machine

/-! ## Commands -/

/-- A command on a live device is its effect after the passing of time. -/
theorem command_live (t : Nat) (k : State → State) (s : State) (h : live s = true) :
    command t k s = .next (finish (k (elapse t s))) := by
  simp only [live, Bool.and_eq_true, Bool.not_eq_true'] at h
  have hs : stopped (elapse t s) = false := by
    have := h.2
    simp only [stopped] at this ⊢
    have e : (elapse t s).clk.lost = s.clk.lost := by
      unfold elapse
      split
      · rfl
      · split <;> simp only [passTicks, wallPass] <;> split <;> rfl
    simpa [e] using this
  simp [command, outerCommand, begin_calm t s h.1, onlyIf, hs]

/-- An outer command on a calm device is its effect after the passing of time. -/
theorem outerCommand_calm (t : Nat) (k : State → State) (s : State) (h : calm s = true) :
    outerCommand t k s = .next (finish (k (elapse t s))) := by
  simp [outerCommand, begin_calm t s h]

/-- A live device whose command leaves nothing waiting ends as its effect does. -/
theorem command_settles (t : Nat) (k : State → State) (s : State) (h : live s = true)
    (hc : calm (k (elapse t s)) = true) : ∃ s', command t k s = .next s' ∧ settles (k (elapse t s)) s' := by
  obtain ⟨-, -, -, -, hw, hq, hh⟩ := (calm_iff _).mp hc
  exact ⟨_, command_live t k s h, finish_settles _ hh hw hq⟩

/-- A running device is live and in Run. -/
theorem running_iff (s : State) : running s = true ↔ live s = true ∧ s.pwr.st = .run := by
  simp [running]

/-- A descriptor at its unit is acknowledged and runs. -/
theorem withDesc_atUnit (d : Desc) (run : Desc → State → State) (s : State) (h : atUnit d s = true) :
    withDesc d run s = run d (atWork d s) := by
  simp only [atUnit, Bool.and_eq_true, Bool.or_eq_true] at h
  unfold withDesc atWork
  by_cases hf : s.hif.flight.any (fun f => f.d == d) = true
  · have hw : reachesUnit d s = true ∧ ((!(opFirmware d.opcode && isHost d)) = true ∨
        (droverWork s == some d) = true ∧ (s.lcy.drover == .ready) = true ∧ (!ckptFirst s) = true) := by
      rcases h.2 with ⟨⟨-, hr⟩, hw⟩ | ⟨⟨-, hn⟩, -⟩
      · exact ⟨hr, by rcases hw with hw | ⟨⟨h1, h2⟩, h3⟩ <;> simp_all⟩
      · exfalso
        obtain ⟨f, hm, he⟩ := List.any_eq_true.mp hf
        have : isFlying d s = true := List.any_eq_true.mpr ⟨f, hm, by
          rw [eq_of_beq he.symm.symm |>.symm]; simp [Flight.is, sameDesc]⟩
        simp [this] at hn
    obtain ⟨hr, hw⟩ := hw
    rw [if_pos hf, if_pos hr, if_pos hf]
    unfold whenServed
    by_cases hop : (opFirmware d.opcode && isHost d) = true
    · rw [if_pos hop]
      rw [hop] at hw
      simp only [Bool.not_true, Bool.false_eq_true, false_or, beq_iff_eq, Bool.not_eq_true'] at hw
      obtain ⟨h1, h2, h3⟩ := hw
      simp [h1, h2, h3, sameDesc]
    · rw [if_neg hop]
  · rcases h.2 with ⟨⟨hf', -⟩, -⟩ | ⟨⟨hn, hfl⟩, hc⟩
    · exact absurd hf' hf
    · rw [if_neg hf, if_neg (by simpa using ⟨by simpa using hn, by simpa using hfl⟩), if_neg hf]
      simp only [Option.isNone_iff_eq_none] at hc
      rw [hc]

/-- A descriptor command in Run is its unit's work. -/
theorem descCommand_atUnit (t : Nat) (d : Desc) (run : Desc → State → State) (s : State) (h : running s = true)
    (hd : atUnit d (elapse t s) = true) :
    descCommand t d run s = .next (finish (run d (atWork d (elapse t s)))) := by
  obtain ⟨hl, hr⟩ := (running_iff s).mp h
  have hc : calm s = true := by
    simp only [live, Bool.and_eq_true] at hl; exact hl.1
  have he : s.pwr.entering = none := ((calm_iff s).mp hc).1
  have hi : inRun (elapse t s) = true := by simp [inRun, hr, he]
  unfold descCommand
  rw [command_live t _ s hl]
  simp [onlyIf, hi, withDesc_atUnit d run _ hd]

/-! ## Completions -/

/-- Pairs are replaced one at a time. -/
theorem qp_setQp_hif (n : Nat) (q : Qp) (s : State) : (setQp n q s).hostMem = s.hostMem := rfl

/-- `s'` is `s` but for the host interface, host memory, the monitor and the write-combining buffer. -/
def hostOnly (s s' : State) : Prop := blankHost s' = blankHost s

/-- Such changes add up. -/
theorem hostOnly_trans {a b c : State} (h1 : hostOnly a b) (h2 : hostOnly b c) : hostOnly a c := h2.trans h1

/-- Raising a vector changes the MSI-X state only. -/
theorem raiseVector_eq (n : Nat) (s : State) :
    raiseVector n s = { s with hif := { s.hif with pba := (raiseVector n s).hif.pba, sent := (raiseVector n s).hif.sent } } := by
  unfold raiseVector
  split
  · split <;> rfl
  · rfl

/-- Raising a vector touches the host interface only. -/
theorem raiseVector_hostOnly (n : Nat) (s : State) : hostOnly s (raiseVector n s) := by
  unfold raiseVector
  split
  · split <;> rfl
  · rfl

/-- And leaves the pairs and the descriptors in flight alone. -/
@[simp] theorem raiseVector_flight (n : Nat) (s : State) : (raiseVector n s).hif.flight = s.hif.flight := by
  rw [raiseVector_eq]

/-- And host memory. -/
@[simp] theorem raiseVector_hostMem (n : Nat) (s : State) : (raiseVector n s).hostMem = s.hostMem := by
  rw [raiseVector_eq]

/-- Signalling a completion touches the host interface only. -/
theorem signal_hostOnly (n : Nat) (d : Desc) (st : Nat) (s : State) : hostOnly s (signal n d st s) := by
  unfold signal
  split
  · rfl
  · simp only
    split
    · exact hostOnly_trans (b := setQp n _ s) rfl (raiseVector_hostOnly _ _)
    · rfl

/-- And leaves host memory and the descriptors in flight alone. -/
@[simp] theorem signal_hostMem (n : Nat) (d : Desc) (st : Nat) (s : State) : (signal n d st s).hostMem = s.hostMem := by
  unfold signal
  split
  · rfl
  · simp only
    split <;> simp

/-- Likewise. -/
@[simp] theorem signal_flight (n : Nat) (d : Desc) (st : Nat) (s : State) :
    (signal n d st s).hif.flight = s.hif.flight := by
  unfold signal
  split
  · rfl
  · simp only
    split <;> simp [setQp]

/-- Signalling leaves the monitor alone. -/
@[simp] theorem signal_mon (n : Nat) (d : Desc) (st : Nat) (s : State) : (signal n d st s).mon = s.mon := by
  unfold signal
  split
  · rfl
  · simp only
    split
    · rw [raiseVector_eq]; rfl
    · rfl

/-- Settling a pair touches the host interface only. -/
theorem settlePair_hostOnly (n : Nat) (s : State) : hostOnly s (settlePair n s) := by
  unfold settlePair
  simp only
  split <;> rfl

/-- And leaves host memory alone. -/
@[simp] theorem settlePair_hostMem (n : Nat) (s : State) : (settlePair n s).hostMem = s.hostMem := by
  unfold settlePair
  simp only
  split <;> rfl

/-- Likewise. -/
@[simp] theorem settlePair_flight (n : Nat) (s : State) : (settlePair n s).hif.flight = s.hif.flight := by
  unfold settlePair
  simp only
  split <;> rfl

/-- Likewise. -/
@[simp] theorem settlePair_mon (n : Nat) (s : State) : (settlePair n s).mon = s.mon := by
  unfold settlePair
  simp only
  split <;> rfl

/-- The monitor's answer to its descriptor touches the monitor only. -/
theorem answerDesc_hostOnly (c : HeldCpl) (s : State) : hostOnly s (answerDesc c s) := by
  unfold answerDesc
  split
  · split <;> rfl
  · rfl

/-- And leaves the host interface alone. -/
@[simp] theorem answerDesc_hif (c : HeldCpl) (s : State) : (answerDesc c s).hif = s.hif := by
  unfold answerDesc
  split
  · split <;> rfl
  · rfl

/-- Likewise. -/
@[simp] theorem answerDesc_hostMem (c : HeldCpl) (s : State) : (answerDesc c s).hostMem = s.hostMem := by
  unfold answerDesc
  split
  · split <;> rfl
  · rfl

/-- A completion entry has 32 bytes. -/
theorem entryBytes_length (tag status opcode idx sqHead ts : Nat) (res : Bytes) (detail cflags : Nat) :
    (entryBytes tag status opcode idx sqHead ts res detail cflags).length = 32 := by
  have hl : ∀ k n, (leBytes k n).length = k := by
    intro k
    induction k with
    | zero => intro n; rfl
    | succ k ih => intro n; simp [leBytes, ih]
  have hf : (fit 14 res).length = 14 := by
    simp [fit, slice]
  simp [entryBytes, hl, hf]

/-- Its last byte is CFLAGS. -/
theorem entryBytes_last (tag status opcode idx sqHead ts : Nat) (res : Bytes) (detail : Nat) :
    byteAt 31 (entryBytes tag status opcode idx sqHead ts res detail 0) = 0 := by
  have hl : ∀ k n, (leBytes k n).length = k := by
    intro k
    induction k with
    | zero => intro n; rfl
    | succ k ih => intro n; simp [leBytes, ih]
  have hf : (fit 14 res).length = 14 := by
    simp [fit, slice]
  simp only [byteAt, entryBytes]
  rw [List.getD_append_right _ _ _ _ (by simp [hl, hf])]
  simp [hl, hf, byteOf]

/-- Statuses after which a completion counts nothing and appends nothing (R127). -/
def quietStatus (st op : Nat) : Bool := !(decide (1 ≤ st) && decide (st ≤ 6)) && !isHostViol st op

/-- The stores of an operation drain before its completion: the buffer may empty. -/
def drained (d : Desc) (s : State) : State := if waitsForNv d.opcode then drainAll s else s

/-- A quiet completion to a host pair that hears it. -/
theorem complete_host (d : Desc) (n st : Nat) (res : Bytes) (det : Nat) (s : State) (hsrc : d.src = .host n)
    (hq : quietStatus st d.opcode = true) (hh : heard d s = true) :
    complete d st res det s = settlePair n (writeCpl n ⟨d, st, fit 14 res, det, now s⟩ (leaveFlight d (drained d s))) := by
  simp only [quietStatus, Bool.and_eq_true, Bool.not_eq_true', Bool.and_eq_false_iff, decide_eq_false_iff_not] at hq
  simp only [heard, hsrc, Bool.and_eq_true, Bool.not_eq_true'] at hh
  obtain ⟨hg, ⟨hl, hb⟩, he⟩ := hh
  have h1 : ¬ (1 ≤ st ∧ st ≤ 6) := by rcases hq.1 with h | h <;> omega
  have e1 : linkUp (drained d s) = true := by
    unfold drained; split <;> simpa [linkUp, drainAll] using hl
  have e2 : (drained d s).hif = s.hif := by unfold drained; split <;> rfl
  have e3 : (qp n (drained d s)).enabled = true := by rw [qp, e2]; exact he
  unfold complete
  simp only [hsrc, hg]
  rw [if_neg h1, hq.2]
  simp only [Bool.false_eq_true, if_false, false_or]
  rw [show (if waitsForNv d.opcode = true then drainAll s else s) = drained d s from rfl, e3, e2, hb, e1]
  simp

/-- A quiet completion to Drover or the monitor. -/
theorem complete_port (d : Desc) (st : Nat) (res : Bytes) (det : Nat) (s : State) (hsrc : ∀ n, d.src ≠ .host n)
    (hq : quietStatus st d.opcode = true) (hh : heard d s = true) :
    complete d st res det s = answerDesc ⟨d, st, fit 14 res, det, now s⟩
      (leaveFlight d { drained d s with hif := { (drained d s).hif with back := ⟨d, st, fit 14 res, det, now s⟩ :: s.hif.back } }) := by
  simp only [quietStatus, Bool.and_eq_true, Bool.not_eq_true', Bool.and_eq_false_iff, decide_eq_false_iff_not] at hq
  simp only [heard, Bool.and_eq_true, Bool.not_eq_true'] at hh
  obtain ⟨hg, -⟩ := hh
  have h1 : ¬ (1 ≤ st ∧ st ≤ 6) := by rcases hq.1 with h | h <;> omega
  have e2 : (drained d s).hif = s.hif := by unfold drained; split <;> rfl
  unfold complete
  cases hd : d.src with
  | host n => exact absurd hd (hsrc n)
  | drover =>
    simp only [hg]
    rw [if_neg h1, hq.2]
    simp only [Bool.false_eq_true, if_false]
    rw [show (if waitsForNv d.opcode = true then drainAll s else s) = drained d s from rfl, e2]
  | monitor =>
    simp only [hg]
    rw [if_neg h1, hq.2]
    simp only [Bool.false_eq_true, if_false]
    rw [show (if waitsForNv d.opcode = true then drainAll s else s) = drained d s from rfl, e2]

/-- A descriptor that leaves flight is there no more. -/
theorem leaveFlight_out (d : Desc) (s : State) : ∀ f ∈ (leaveFlight d s).hif.flight, f.is d = false := by
  intro f hf
  simp only [leaveFlight, List.mem_filter, Bool.not_eq_true'] at hf
  exact hf.2

/-- A drained buffer touches nothing else. -/
theorem drained_hostOnly (d : Desc) (s : State) : hostOnly s (drained d s) := by
  unfold drained; split <;> rfl

/-- What a quiet completion that is heard changes. -/
theorem complete_hostOnly (d : Desc) (st : Nat) (res : Bytes) (det : Nat) (s : State)
    (hq : quietStatus st d.opcode = true) (hh : heard d s = true) : hostOnly s (complete d st res det s) := by
  refine hostOnly_trans (drained_hostOnly d s) ?_
  by_cases hsrc : ∃ n, d.src = .host n
  · obtain ⟨n, hn⟩ := hsrc
    rw [complete_host d n st res det s hn hq hh]
    have h1 : hostOnly (drained d s) (leaveFlight d (drained d s)) := rfl
    have h2 : ∀ e x, hostOnly x (writeEntry n e x) := fun _ _ => rfl
    exact hostOnly_trans h1 (hostOnly_trans (h2 _ _) (hostOnly_trans (signal_hostOnly n _ _ _) (settlePair_hostOnly n _)))
  · rw [complete_port d st res det s (fun n hn => hsrc ⟨n, hn⟩) hq hh]
    have h1 : ∀ x : State, ∀ b, hostOnly x (leaveFlight d { x with hif := { x.hif with back := b } }) := fun _ _ => rfl
    exact hostOnly_trans (h1 _ _) (answerDesc_hostOnly _ _)

/-- The entry a host pair gets. -/
theorem complete_host_mem (d : Desc) (n st : Nat) (res : Bytes) (det : Nat) (s : State) (hsrc : d.src = .host n)
    (hq : quietStatus st d.opcode = true) (hh : heard d s = true) :
    (complete d st res det s).hostMem = mwrite zeroByte s.hostMem (nextEntry n s)
        ((entryBytes d.tag st d.opcode d.idx (qp n s).sqHead (now s) res det 0).take 31
          ++ [byteOf (128 * b2n (qp n s).phase)]) := by
  have hd1 : (drained d s).hif = s.hif := by unfold drained; split <;> rfl
  have hd2 : (drained d s).regs = s.regs := by unfold drained; split <;> rfl
  have hd3 : (drained d s).part = s.part := by unfold drained; split <;> rfl
  have hd4 : (drained d s).hostMem = s.hostMem := by unfold drained; split <;> rfl
  have hqp : qp n (leaveFlight d (drained d s)) = qp n s := by simp [qp, leaveFlight, hd1]
  have hbase : cqBase n (leaveFlight d (drained d s)) = cqBase n s := by
    simp [cqBase, reg64, regGet, leaveFlight, hd2, hd3]
  have hfit : fit 14 (fit 14 res) = fit 14 res := by simp [fit, slice]
  have hent : entryBytes d.tag st d.opcode d.idx (qp n s).sqHead (now s) (fit 14 res) det 0
      = entryBytes d.tag st d.opcode d.idx (qp n s).sqHead (now s) res det 0 := by
    simp only [entryBytes, hfit]
  rw [complete_host d n st res det s hsrc hq hh, settlePair_hostMem, writeCpl, signal_hostMem]
  simp only [writeEntry, setQp, hqp, hbase, nextEntry, hent, entryBytes_last, Nat.zero_add]
  simp [leaveFlight, hd4]

/-- A quiet completion that its sender hears, and the end of its command: the descriptor has completed and nothing else
has changed. -/
theorem answers_complete (d : Desc) (st : Nat) (res : Bytes) (det : Nat) (s : State)
    (hq : quietStatus st d.opcode = true) (hh : heard d s = true) (hm : Memory.wf zeroByte s.hostMem = true)
    (hl : s.lgr.hostWait.all (fun p => decide (p.2 ≠ 0)) = true) (hw : s.fold.wait = []) (hf : s.fold.queue = []) :
    answers d st res det s (finish (complete d st res det s)) := by
  have e := complete_hostOnly d st res det s hq hh
  have el : (complete d st res det s).lgr = s.lgr := by
    have h := congrArg State.lgr (show blankHost _ = blankHost _ from e)
    exact h
  have ef : (complete d st res det s).fold = s.fold := by
    have h := congrArg State.fold (show blankHost _ = blankHost _ from e)
    exact h
  have hfin := finish_settles (complete d st res det s) (by rw [el]; exact hl) (by rw [ef]; exact hw) (by rw [ef]; exact hf)
  have hlen : ((entryBytes d.tag st d.opcode d.idx 0 (now s) res det 0).take 31).length = 31 := by
    simp [entryBytes_length]
  have hport : ∀ n, d.src = .host n → (complete d st res det s).mon = s.mon := by
    intro n hn
    rw [complete_host d n st res det s hn hq hh, settlePair_mon, writeCpl, signal_mon]
    simp only [writeEntry, setQp, leaveFlight]
    unfold drained; split <;> rfl
  have hmem : (∀ n, d.src ≠ .host n) → (complete d st res det s).hostMem = s.hostMem := by
    intro hn
    rw [complete_port d st res det s hn hq hh, answerDesc_hostMem]
    simp only [leaveFlight]
    unfold drained; split <;> rfl
  have hback : (∀ n, d.src ≠ .host n) → (complete d st res det s).hif.back.head? = some ⟨d, st, fit 14 res, det, now s⟩ := by
    intro hn
    rw [complete_port d st res det s hn hq hh, answerDesc_hif]
    rfl
  have hflight : ∀ f ∈ (complete d st res det s).hif.flight, f.is d = false := by
    by_cases hsrc : ∃ n, d.src = .host n
    · obtain ⟨n, hn⟩ := hsrc
      rw [complete_host d n st res det s hn hq hh, settlePair_flight, writeCpl, signal_flight]
      exact leaveFlight_out d _
    · rw [complete_port d st res det s (fun n hn => hsrc ⟨n, hn⟩) hq hh, answerDesc_hif]
      exact leaveFlight_out d _
  have hhm := fun n hn => complete_host_mem d n st res det s hn hq hh
  clear hq hh hl el hw ef hf
  generalize complete d st res det s = y at *
  generalize finish y = x at *
  have hx : x.hif = y.hif ∧ x.hostMem = y.hostMem ∧ x.mon = y.mon := by
    have h : blankLines x = blankLines y := hfin
    have h1 := congrArg State.hif h
    have h2 := congrArg State.hostMem h
    have h3 := congrArg State.mon h
    exact ⟨h1, h2, h3⟩
  obtain ⟨x1, x2, x3⟩ := hx
  refine ⟨⟨?_, ?_⟩, ?_, ?_⟩
  · rw [x1]; exact hflight
  · cases hd : d.src with
    | host n =>
      simp only
      rw [x2, hhm n hd]
      have := mread_mwrite zeroByte ((entryBytes d.tag st d.opcode d.idx (qp n s).sqHead (now s) res det 0).take 31
          ++ [byteOf (128 * b2n (qp n s).phase)]) (nextEntry n s) hm
      rwa [show ((entryBytes d.tag st d.opcode d.idx (qp n s).sqHead (now s) res det 0).take 31
          ++ [byteOf (128 * b2n (qp n s).phase)]).length = 32 from by simp [entryBytes_length]] at this
    | drover => simp only; rw [x1]; exact hback (by simp [hd])
    | monitor => simp only; rw [x1]; exact hback (by simp [hd])
  · have h1 : blankLines (blankHost x) = blankLines (blankHost y) := congrArg blankHost hfin
    have h2 : blankLines (blankHost y) = blankLines (blankHost s) := congrArg blankLines e
    exact h1.trans h2
  · cases hd : d.src with
    | host n =>
      simp only
      refine ⟨by rw [x3]; exact hport n hd, ?_⟩
      intro a ha
      rw [x2, hhm n hd]
      exact mget_mwrite_out zeroByte _ _ _ _ (by simpa [entryBytes_length] using ha)
    | drover => simp only; rw [x2]; exact hmem (by simp [hd])
    | monitor => simp only; rw [x2]; exact hmem (by simp [hd])

/-- A running device, a descriptor at its unit, and a unit whose work comes down to an effect and a quiet
completion: the command answers it. -/
theorem descCommand_answers (t : Nat) (d : Desc) (run : Desc → State → State) (s s1 : State) (st : Nat) (res : Bytes)
    (det : Nat) (hr : running s = true) (hd : atUnit d (elapse t s) = true)
    (hrun : run d (atWork d (elapse t s)) = complete d st res det s1) (hq : quietStatus st d.opcode = true)
    (hh : heard d s1 = true) (hm : Memory.wf zeroByte s1.hostMem = true)
    (hl : s1.lgr.hostWait.all (fun p => decide (p.2 ≠ 0)) = true) (hw : s1.fold.wait = []) (hf : s1.fold.queue = []) :
    ∃ s', descCommand t d run s = .next s' ∧ answers d st res det s1 s' :=
  ⟨_, by rw [descCommand_atUnit t d run s hr hd, hrun], answers_complete d st res det s1 hq hh hm hl hw hf⟩

end Sys2Proof.Machine
end

