-- ==== Sys2Proof/Laws/Frames.lean ====
section
/-! SUPPORT. Laws/Frames.lean: what `settles` and `completesOnly` say of each field of State. -/
namespace Sys2Proof.Machine

theorem settles_pending {s s' : State} (h : settles s s') : s'.pending = s.pending := by
  have e := congrArg State.pending (show blankLines s' = blankLines s from h); exact e
theorem settles_part {s s' : State} (h : settles s s') : s'.part = s.part := by
  have e := congrArg State.part (show blankLines s' = blankLines s from h); exact e
theorem settles_free {s s' : State} (h : settles s s') : s'.free = s.free := by
  have e := congrArg State.free (show blankLines s' = blankLines s from h); exact e
theorem settles_regs {s s' : State} (h : settles s s') : s'.regs = s.regs := by
  have e := congrArg State.regs (show blankLines s' = blankLines s from h); exact e
theorem settles_latchHi {s s' : State} (h : settles s s') : s'.latchHi = s.latchHi := by
  have e := congrArg State.latchHi (show blankLines s' = blankLines s from h); exact e
theorem settles_heldWr {s s' : State} (h : settles s s') : s'.heldWr = s.heldWr := by
  have e := congrArg State.heldWr (show blankLines s' = blankLines s from h); exact e
theorem settles_clk {s s' : State} (h : settles s s') : s'.clk = s.clk := by
  have e := congrArg State.clk (show blankLines s' = blankLines s from h); exact e
theorem settles_hif {s s' : State} (h : settles s s') : s'.hif = s.hif := by
  have e := congrArg State.hif (show blankLines s' = blankLines s from h); exact e
theorem settles_hostMem {s s' : State} (h : settles s s') : s'.hostMem = s.hostMem := by
  have e := congrArg State.hostMem (show blankLines s' = blankLines s from h); exact e
theorem settles_dmaBad {s s' : State} (h : settles s s') : s'.dmaBad = s.dmaBad := by
  have e := congrArg State.dmaBad (show blankLines s' = blankLines s from h); exact e
theorem settles_droverMem {s s' : State} (h : settles s s') : s'.droverMem = s.droverMem := by
  have e := congrArg State.droverMem (show blankLines s' = blankLines s from h); exact e
theorem settles_monMem {s s' : State} (h : settles s s') : s'.monMem = s.monMem := by
  have e := congrArg State.monMem (show blankLines s' = blankLines s from h); exact e
theorem settles_nv {s s' : State} (h : settles s s') : s'.nv = s.nv := by
  have e := congrArg State.nv (show blankLines s' = blankLines s from h); exact e
theorem settles_lgr {s s' : State} (h : settles s s') : s'.lgr = s.lgr := by
  have e := congrArg State.lgr (show blankLines s' = blankLines s from h); exact e
theorem settles_fold {s s' : State} (h : settles s s') : s'.fold = s.fold := by
  have e := congrArg State.fold (show blankLines s' = blankLines s from h); exact e
theorem settles_lf {s s' : State} (h : settles s s') : s'.lf = s.lf := by
  have e := congrArg State.lf (show blankLines s' = blankLines s from h); exact e
theorem settles_poll {s s' : State} (h : settles s s') : s'.poll = s.poll := by
  have e := congrArg State.poll (show blankLines s' = blankLines s from h); exact e
theorem settles_flk {s s' : State} (h : settles s s') : s'.flk = s.flk := by
  have e := congrArg State.flk (show blankLines s' = blankLines s from h); exact e
theorem settles_lcy {s s' : State} (h : settles s s') : s'.lcy = s.lcy := by
  have e := congrArg State.lcy (show blankLines s' = blankLines s from h); exact e
theorem settles_mon {s s' : State} (h : settles s s') : s'.mon = s.mon := by
  have e := congrArg State.mon (show blankLines s' = blankLines s from h); exact e
theorem settles_vrd {s s' : State} (h : settles s s') : s'.vrd = s.vrd := by
  have e := congrArg State.vrd (show blankLines s' = blankLines s from h); exact e
theorem settles_cry {s s' : State} (h : settles s s') : s'.cry = s.cry := by
  have e := congrArg State.cry (show blankLines s' = blankLines s from h); exact e
theorem settles_rng {s s' : State} (h : settles s s') : s'.rng = s.rng := by
  have e := congrArg State.rng (show blankLines s' = blankLines s from h); exact e
theorem settles_tmr {s s' : State} (h : settles s s') : s'.tmr = s.tmr := by
  have e := congrArg State.tmr (show blankLines s' = blankLines s from h); exact e
theorem settles_pwr_st {s s' : State} (h : settles s s') : s'.pwr.st = s.pwr.st := by
  have e := congrArg (fun x => x.pwr.st) (show blankLines s' = blankLines s from h); exact e
theorem settles_pwr_entering {s s' : State} (h : settles s s') : s'.pwr.entering = s.pwr.entering := by
  have e := congrArg (fun x => x.pwr.entering) (show blankLines s' = blankLines s from h); exact e
theorem settles_pwr_due {s s' : State} (h : settles s s') : s'.pwr.due = s.pwr.due := by
  have e := congrArg (fun x => x.pwr.due) (show blankLines s' = blankLines s from h); exact e
theorem settles_pwr_hangs {s s' : State} (h : settles s s') : s'.pwr.hangs = s.pwr.hangs := by
  have e := congrArg (fun x => x.pwr.hangs) (show blankLines s' = blankLines s from h); exact e
theorem settles_pwr_held {s s' : State} (h : settles s s') : s'.pwr.held = s.pwr.held := by
  have e := congrArg (fun x => x.pwr.held) (show blankLines s' = blankLines s from h); exact e
theorem settles_pwr_srcAt {s s' : State} (h : settles s s') : s'.pwr.srcAt = s.pwr.srcAt := by
  have e := congrArg (fun x => x.pwr.srcAt) (show blankLines s' = blankLines s from h); exact e
theorem settles_pwr_wakeSeen {s s' : State} (h : settles s s') : s'.pwr.wakeSeen = s.pwr.wakeSeen := by
  have e := congrArg (fun x => x.pwr.wakeSeen) (show blankLines s' = blankLines s from h); exact e
theorem settles_pwr_exitArmed {s s' : State} (h : settles s s') : s'.pwr.exitArmed = s.pwr.exitArmed := by
  have e := congrArg (fun x => x.pwr.exitArmed) (show blankLines s' = blankLines s from h); exact e
theorem settles_pwr_canAsked {s s' : State} (h : settles s s') : s'.pwr.canAsked = s.pwr.canAsked := by
  have e := congrArg (fun x => x.pwr.canAsked) (show blankLines s' = blankLines s from h); exact e
theorem settles_pwr_inReset {s s' : State} (h : settles s s') : s'.pwr.inReset = s.pwr.inReset := by
  have e := congrArg (fun x => x.pwr.inReset) (show blankLines s' = blankLines s from h); exact e
theorem settles_pwr_vaonDown {s s' : State} (h : settles s s') : s'.pwr.vaonDown = s.pwr.vaonDown := by
  have e := congrArg (fun x => x.pwr.vaonDown) (show blankLines s' = blankLines s from h); exact e
theorem settles_pwr_qual {s s' : State} (h : settles s s') : s'.pwr.qual = s.pwr.qual := by
  have e := congrArg (fun x => x.pwr.qual) (show blankLines s' = blankLines s from h); exact e
theorem settles_pwr_edgeArmed {s s' : State} (h : settles s s') : s'.pwr.edgeArmed = s.pwr.edgeArmed := by
  have e := congrArg (fun x => x.pwr.edgeArmed) (show blankLines s' = blankLines s from h); exact e
theorem settles_pwr_aonLoad {s s' : State} (h : settles s s') : s'.pwr.aonLoad = s.pwr.aonLoad := by
  have e := congrArg (fun x => x.pwr.aonLoad) (show blankLines s' = blankLines s from h); exact e
theorem settles_pins_straps {s s' : State} (h : settles s s') : s'.pins.straps = s.pins.straps := by
  have e := congrArg (fun x => x.pins.straps) (show blankLines s' = blankLines s from h); exact e
theorem settles_pins_testMode {s s' : State} (h : settles s s') : s'.pins.testMode = s.pins.testMode := by
  have e := congrArg (fun x => x.pins.testMode) (show blankLines s' = blankLines s from h); exact e
theorem settles_pins_resetN {s s' : State} (h : settles s s') : s'.pins.resetN = s.pins.resetN := by
  have e := congrArg (fun x => x.pins.resetN) (show blankLines s' = blankLines s from h); exact e
theorem settles_pins_perst {s s' : State} (h : settles s s') : s'.pins.perst = s.pins.perst := by
  have e := congrArg (fun x => x.pins.perst) (show blankLines s' = blankLines s from h); exact e
theorem settles_pins_wakeN {s s' : State} (h : settles s s') : s'.pins.wakeN = s.pins.wakeN := by
  have e := congrArg (fun x => x.pins.wakeN) (show blankLines s' = blankLines s from h); exact e
theorem settles_pins_startA {s s' : State} (h : settles s s') : s'.pins.startA = s.pins.startA := by
  have e := congrArg (fun x => x.pins.startA) (show blankLines s' = blankLines s from h); exact e
theorem settles_pins_startB {s s' : State} (h : settles s s') : s'.pins.startB = s.pins.startB := by
  have e := congrArg (fun x => x.pins.startB) (show blankLines s' = blankLines s from h); exact e
theorem settles_pins_coexGnt {s s' : State} (h : settles s s') : s'.pins.coexGnt = s.pins.coexGnt := by
  have e := congrArg (fun x => x.pins.coexGnt) (show blankLines s' = blankLines s from h); exact e
theorem settles_pins_gpio {s s' : State} (h : settles s s') : s'.pins.gpio = s.pins.gpio := by
  have e := congrArg (fun x => x.pins.gpio) (show blankLines s' = blankLines s from h); exact e
theorem settles_pins_wake {s s' : State} (h : settles s s') : s'.pins.wake = s.pins.wake := by
  have e := congrArg (fun x => x.pins.wake) (show blankLines s' = blankLines s from h); exact e
theorem settles_uhf_run {s s' : State} (h : settles s s') : s'.uhf.run = s.uhf.run := by
  have e := congrArg (fun x => x.uhf.run) (show blankLines s' = blankLines s from h); exact e
theorem settles_uhf_queue {s s' : State} (h : settles s s') : s'.uhf.queue = s.uhf.queue := by
  have e := congrArg (fun x => x.uhf.queue) (show blankLines s' = blankLines s from h); exact e
theorem settles_uhf_windows {s s' : State} (h : settles s s') : s'.uhf.windows = s.uhf.windows := by
  have e := congrArg (fun x => x.uhf.windows) (show blankLines s' = blankLines s from h); exact e
theorem settles_uhf_window {s s' : State} (h : settles s s') : s'.uhf.window = s.uhf.window := by
  have e := congrArg (fun x => x.uhf.window) (show blankLines s' = blankLines s from h); exact e
theorem settles_uhf_lastEnd {s s' : State} (h : settles s s') : s'.uhf.lastEnd = s.uhf.lastEnd := by
  have e := congrArg (fun x => x.uhf.lastEnd) (show blankLines s' = blankLines s from h); exact e
theorem settles_uhf_bands {s s' : State} (h : settles s s') : s'.uhf.bands = s.uhf.bands := by
  have e := congrArg (fun x => x.uhf.bands) (show blankLines s' = blankLines s from h); exact e
theorem settles_uhf_allBands {s s' : State} (h : settles s s') : s'.uhf.allBands = s.uhf.allBands := by
  have e := congrArg (fun x => x.uhf.allBands) (show blankLines s' = blankLines s from h); exact e
theorem settles_uhf_lo {s s' : State} (h : settles s s') : s'.uhf.lo = s.uhf.lo := by
  have e := congrArg (fun x => x.uhf.lo) (show blankLines s' = blankLines s from h); exact e
theorem settles_uhf_sent {s s' : State} (h : settles s s') : s'.uhf.sent = s.uhf.sent := by
  have e := congrArg (fun x => x.uhf.sent) (show blankLines s' = blankLines s from h); exact e
theorem settles_uhf_bg {s s' : State} (h : settles s s') : s'.uhf.bg = s.uhf.bg := by
  have e := congrArg (fun x => x.uhf.bg) (show blankLines s' = blankLines s from h); exact e
theorem settles_uhf_bgAt {s s' : State} (h : settles s s') : s'.uhf.bgAt = s.uhf.bgAt := by
  have e := congrArg (fun x => x.uhf.bgAt) (show blankLines s' = blankLines s from h); exact e
theorem settles_uhf_bgTemp {s s' : State} (h : settles s s') : s'.uhf.bgTemp = s.uhf.bgTemp := by
  have e := congrArg (fun x => x.uhf.bgTemp) (show blankLines s' = blankLines s from h); exact e
theorem settles_uhf_filt {s s' : State} (h : settles s s') : s'.uhf.filt = s.uhf.filt := by
  have e := congrArg (fun x => x.uhf.filt) (show blankLines s' = blankLines s from h); exact e
theorem settles_uhf_dc {s s' : State} (h : settles s s') : s'.uhf.dc = s.uhf.dc := by
  have e := congrArg (fun x => x.uhf.dc) (show blankLines s' = blankLines s from h); exact e
theorem settles_uwb_exch {s s' : State} (h : settles s s') : s'.uwb.exch = s.uwb.exch := by
  have e := congrArg (fun x => x.uwb.exch) (show blankLines s' = blankLines s from h); exact e
theorem settles_uwb_free {s s' : State} (h : settles s s') : s'.uwb.free = s.uwb.free := by
  have e := congrArg (fun x => x.uwb.free) (show blankLines s' = blankLines s from h); exact e
theorem settles_uwb_hold {s s' : State} (h : settles s s') : s'.uwb.hold = s.uwb.hold := by
  have e := congrArg (fun x => x.uwb.hold) (show blankLines s' = blankLines s from h); exact e
theorem settles_uwb_run {s s' : State} (h : settles s s') : s'.uwb.run = s.uwb.run := by
  have e := congrArg (fun x => x.uwb.run) (show blankLines s' = blankLines s from h); exact e
theorem settles_uwb_cur {s s' : State} (h : settles s s') : s'.uwb.cur = s.uwb.cur := by
  have e := congrArg (fun x => x.uwb.cur) (show blankLines s' = blankLines s from h); exact e
theorem settles_uwb_queue {s s' : State} (h : settles s s') : s'.uwb.queue = s.uwb.queue := by
  have e := congrArg (fun x => x.uwb.queue) (show blankLines s' = blankLines s from h); exact e
theorem settles_uwb_lastEnd {s s' : State} (h : settles s s') : s'.uwb.lastEnd = s.uwb.lastEnd := by
  have e := congrArg (fun x => x.uwb.lastEnd) (show blankLines s' = blankLines s from h); exact e
theorem settles_uwb_chan {s s' : State} (h : settles s s') : s'.uwb.chan = s.uwb.chan := by
  have e := congrArg (fun x => x.uwb.chan) (show blankLines s' = blankLines s from h); exact e
theorem settles_uwb_bg {s s' : State} (h : settles s s') : s'.uwb.bg = s.uwb.bg := by
  have e := congrArg (fun x => x.uwb.bg) (show blankLines s' = blankLines s from h); exact e
theorem settles_uwb_cald {s s' : State} (h : settles s s') : s'.uwb.cald = s.uwb.cald := by
  have e := congrArg (fun x => x.uwb.cald) (show blankLines s' = blankLines s from h); exact e
theorem settles_uwb_bgAt {s s' : State} (h : settles s s') : s'.uwb.bgAt = s.uwb.bgAt := by
  have e := congrArg (fun x => x.uwb.bgAt) (show blankLines s' = blankLines s from h); exact e
theorem settles_uwb_bgTemp {s s' : State} (h : settles s s') : s'.uwb.bgTemp = s.uwb.bgTemp := by
  have e := congrArg (fun x => x.uwb.bgTemp) (show blankLines s' = blankLines s from h); exact e
theorem completesOnly_pending {d : Desc} {s s' : State} (h : completesOnly d s s') : s'.pending = s.pending := by
  have e := congrArg State.pending h.1; exact e
theorem completesOnly_part {d : Desc} {s s' : State} (h : completesOnly d s s') : s'.part = s.part := by
  have e := congrArg State.part h.1; exact e
theorem completesOnly_free {d : Desc} {s s' : State} (h : completesOnly d s s') : s'.free = s.free := by
  have e := congrArg State.free h.1; exact e
theorem completesOnly_regs {d : Desc} {s s' : State} (h : completesOnly d s s') : s'.regs = s.regs := by
  have e := congrArg State.regs h.1; exact e
theorem completesOnly_latchHi {d : Desc} {s s' : State} (h : completesOnly d s s') : s'.latchHi = s.latchHi := by
  have e := congrArg State.latchHi h.1; exact e
theorem completesOnly_heldWr {d : Desc} {s s' : State} (h : completesOnly d s s') : s'.heldWr = s.heldWr := by
  have e := congrArg State.heldWr h.1; exact e
theorem completesOnly_clk {d : Desc} {s s' : State} (h : completesOnly d s s') : s'.clk = s.clk := by
  have e := congrArg State.clk h.1; exact e
theorem completesOnly_dmaBad {d : Desc} {s s' : State} (h : completesOnly d s s') : s'.dmaBad = s.dmaBad := by
  have e := congrArg State.dmaBad h.1; exact e
theorem completesOnly_droverMem {d : Desc} {s s' : State} (h : completesOnly d s s') : s'.droverMem = s.droverMem := by
  have e := congrArg State.droverMem h.1; exact e
theorem completesOnly_monMem {d : Desc} {s s' : State} (h : completesOnly d s s') : s'.monMem = s.monMem := by
  have e := congrArg State.monMem h.1; exact e
theorem completesOnly_lgr {d : Desc} {s s' : State} (h : completesOnly d s s') : s'.lgr = s.lgr := by
  have e := congrArg State.lgr h.1; exact e
theorem completesOnly_fold {d : Desc} {s s' : State} (h : completesOnly d s s') : s'.fold = s.fold := by
  have e := congrArg State.fold h.1; exact e
theorem completesOnly_lf {d : Desc} {s s' : State} (h : completesOnly d s s') : s'.lf = s.lf := by
  have e := congrArg State.lf h.1; exact e
theorem completesOnly_poll {d : Desc} {s s' : State} (h : completesOnly d s s') : s'.poll = s.poll := by
  have e := congrArg State.poll h.1; exact e
theorem completesOnly_flk {d : Desc} {s s' : State} (h : completesOnly d s s') : s'.flk = s.flk := by
  have e := congrArg State.flk h.1; exact e
theorem completesOnly_lcy {d : Desc} {s s' : State} (h : completesOnly d s s') : s'.lcy = s.lcy := by
  have e := congrArg State.lcy h.1; exact e
theorem completesOnly_vrd {d : Desc} {s s' : State} (h : completesOnly d s s') : s'.vrd = s.vrd := by
  have e := congrArg State.vrd h.1; exact e
theorem completesOnly_cry {d : Desc} {s s' : State} (h : completesOnly d s s') : s'.cry = s.cry := by
  have e := congrArg State.cry h.1; exact e
theorem completesOnly_rng {d : Desc} {s s' : State} (h : completesOnly d s s') : s'.rng = s.rng := by
  have e := congrArg State.rng h.1; exact e
theorem completesOnly_tmr {d : Desc} {s s' : State} (h : completesOnly d s s') : s'.tmr = s.tmr := by
  have e := congrArg State.tmr h.1; exact e
theorem completesOnly_nv_mem {d : Desc} {s s' : State} (h : completesOnly d s s') : s'.nv.mem = s.nv.mem := by
  have e := congrArg (fun x => x.nv.mem) h.1; exact e
theorem completesOnly_nv_bad {d : Desc} {s s' : State} (h : completesOnly d s s') : s'.nv.bad = s.nv.bad := by
  have e := congrArg (fun x => x.nv.bad) h.1; exact e
theorem completesOnly_nv_soft {d : Desc} {s s' : State} (h : completesOnly d s s') : s'.nv.soft = s.nv.soft := by
  have e := congrArg (fun x => x.nv.soft) h.1; exact e
theorem completesOnly_nv_weak {d : Desc} {s s' : State} (h : completesOnly d s s') : s'.nv.weak = s.nv.weak := by
  have e := congrArg (fun x => x.nv.weak) h.1; exact e
theorem completesOnly_nv_worn {d : Desc} {s s' : State} (h : completesOnly d s s') : s'.nv.worn = s.nv.worn := by
  have e := congrArg (fun x => x.nv.worn) h.1; exact e
theorem completesOnly_nv_recs {d : Desc} {s s' : State} (h : completesOnly d s s') : s'.nv.recs = s.nv.recs := by
  have e := congrArg (fun x => x.nv.recs) h.1; exact e
theorem completesOnly_nv_wornRecs {d : Desc} {s s' : State} (h : completesOnly d s s') : s'.nv.wornRecs = s.nv.wornRecs := by
  have e := congrArg (fun x => x.nv.wornRecs) h.1; exact e

/-- What settles reads every register alike. -/
theorem settles_regGet {s s' : State} (h : settles s s') (off : Nat) : regGet off s' = regGet off s := by
  simp [regGet, settles_regs h, settles_part h]

/-- Outside Watch the same islands have power. -/
theorem settles_pwr_islands {s s' : State} (h : settles s s') (hw : s.pwr.st ≠ .watch) :
    s'.pwr.islands = s.pwr.islands := by
  have e := congrArg (fun x => x.pwr.islands) (show blankLines s' = blankLines s from h)
  have h1 := settles_pwr_st h
  have b1 : (s.pwr.st == PState.watch) = false := by simpa using hw
  simpa [blankLines, h1, b1] using e

/-- And every field. -/
theorem settles_fld {s s' : State} (h : settles s s') (f : Field) : fld f s' = fld f s := by
  simp [fld, settles_regGet h]

/-- A completion reads every register alike. -/
theorem completesOnly_regGet {d : Desc} {s s' : State} (h : completesOnly d s s') (off : Nat) :
    regGet off s' = regGet off s := by
  simp [regGet, completesOnly_regs h, completesOnly_part h]

end Sys2Proof.Machine
end

