-- ==== Sys2Proof/Laws/Reg.lean ====
section
/-! SUPPORT. Laws/Reg.lean: what a register write comes down to on a live device, and what clearing fields does. -/
namespace Sys2Proof.Machine

/-- A register write on a live device with the PCIE island powered is the write itself, from the state in which the TLP
has woken the device. -/
theorem regWrite_live (t off : Nat) (v : Word) (s : State) (h : live s = true) (hp : islandOn .pcie s = true)
    (ha : off % 4 = 0) : regWrite t off v s = .next (finish (barStore off v (written t off s))) := by
  unfold regWrite
  rw [command_live t _ s h]
  simp [onlyIf, islandOn] at *
  simp [hp, barWrite, ha, written]

/-- Only registers change. -/
def regsOnly (s s' : State) : Prop := { s' with regs := s.regs } = s

/-- Such changes add up. -/
theorem regsOnly_trans {a b c : State} (h1 : regsOnly a b) (h2 : regsOnly b c) : regsOnly a c := by
  unfold regsOnly at *
  rw [← h1]
  have := congrArg (fun x => ({ x with regs := a.regs } : State)) h2
  simpa using this

/-- A register write is such a change. -/
theorem regsOnly_regSet (off : Nat) (v : Word) (s : State) : regsOnly s (regSet off v s) := rfl

/-- So is a field's. -/
theorem regsOnly_setFld (f : Field) (v : Nat) (s : State) : regsOnly s (setFld f v s) := rfl

/-- The part does not change with it. -/
theorem regsOnly_part {a b : State} (h : regsOnly a b) : b.part = a.part := by
  have e := congrArg State.part h
  exact e

/-- A field that reads 0 still does after another is cleared. -/
theorem fld_setFld_zero (f g : Field) (hf : f.fits = true) (s : State) (hw : Regs.wf s = true) (h : fld g s = 0) :
    fld g (setFld f 0 s) = 0 := by
  by_cases he : g.off = f.off
  · apply Nat.eq_of_testBit_eq
    intro i
    have h0 : (fld g s).testBit i = false := by rw [h]; simp
    simp only [fld, setFld, he, regGet_regSet_same f.off _ s hw, Nat.zero_testBit] at h0 ⊢
    rw [Field.of_testBit] at h0 ⊢
    rw [Field.put_testBit f hf]
    split
    · exact h0
    · split
      · simp
      · exact h0
  · simp only [fld, setFld, regGet_regSet_ne f.off g.off _ s he] at h ⊢
    exact h

/-- Clearing fields: registers only, in canonical form. -/
theorem clearFields_regsOnly (fs : List Field) (s : State) : regsOnly s (clearFields fs s) := by
  induction fs generalizing s with
  | nil => rfl
  | cons f fs ih => exact regsOnly_trans (regsOnly_setFld f 0 s) (ih _)

/-- The register file stays in canonical form. -/
theorem clearFields_wf (fs : List Field) (s : State) (hw : Regs.wf s = true) : Regs.wf (clearFields fs s) = true := by
  induction fs generalizing s with
  | nil => exact hw
  | cons f fs ih => exact ih _ (regs_wf_setFld f 0 s hw)

/-- A field that reads 0 still does. -/
theorem clearFields_keeps_zero (fs : List Field) (g : Field) (s : State) (hw : Regs.wf s = true)
    (hf : ∀ f ∈ fs, f.fits = true) (h : fld g s = 0) : fld g (clearFields fs s) = 0 := by
  induction fs generalizing s with
  | nil => exact h
  | cons f fs ih =>
    exact ih _ (regs_wf_setFld f 0 s hw) (fun x hx => hf x (List.mem_cons_of_mem _ hx))
      (fld_setFld_zero f g (hf f List.mem_cons_self) s hw h)

/-- The cleared fields read 0. -/
theorem clearFields_zero (fs : List Field) (g : Field) (s : State) (hw : Regs.wf s = true)
    (hf : ∀ f ∈ fs, f.fits = true) (hg : g ∈ fs) : fld g (clearFields fs s) = 0 := by
  induction fs generalizing s with
  | nil => cases hg
  | cons f fs ih =>
    have hfit := hf f List.mem_cons_self
    have hrest := fun x hx => hf x (List.mem_cons_of_mem f hx)
    cases List.mem_cons.mp hg with
    | inl e =>
      subst e
      refine clearFields_keeps_zero fs g _ (regs_wf_setFld g 0 s hw) hrest ?_
      rw [fld_setFld_same g hfit 0 s hw]; simp
    | inr e => exact ih _ (regs_wf_setFld f 0 s hw) hrest e

/-- A field apart from the cleared ones keeps its value. -/
theorem clearFields_apart (fs : List Field) (g : Field) (s : State) (hw : Regs.wf s = true)
    (hf : ∀ f ∈ fs, f.fits = true) (hg : ∀ f ∈ fs, f.apart g = true) : fld g (clearFields fs s) = fld g s := by
  induction fs generalizing s with
  | nil => rfl
  | cons f fs ih =>
    have := ih _ (regs_wf_setFld f 0 s hw) (fun x hx => hf x (List.mem_cons_of_mem _ hx))
      (fun x hx => hg x (List.mem_cons_of_mem _ hx))
    exact this.trans (fld_setFld_apart f g (hf f List.mem_cons_self) (hg f List.mem_cons_self) 0 s hw)

end Sys2Proof.Machine
end

