-- ==== Sys2Proof/Tests/Slice0.lean ====
section
/-! SUPPORT. Tests/Slice0.lean: small tests. The first part gives each check of WellFormed an ill-formed term that it
refuses. The second holds worked examples and tables of spec/, and published check values of the algorithms that the spec
names (log entry 13). The third shows for each statement of Certificates/Slice0 concrete states and operands that meet what
it asks, clause by clause (`meets_<statement>`; a statement that gathers several has one theorem for each of them). The
clauses that ask that a signature, a tag or a package made under a key of the free configuration verifies (FW_STAGE's
package, LIFECYCLE_ADVANCE and MON_UNLOCK by the fleet or firmware key, a sealed ledger block under K_led, an unwrapped key
under K_dev, the values drawn by the generator) have no closed witness here, since nothing evaluates those keys. -/
set_option Elab.async false
namespace Sys2Proof.Tests
open Sys2Proof.Machine

/-! ## Ill-formed commands -/

/-- A well-formed descriptor. -/
def okDesc : Desc :=
  { src := .host 0, idx := 0, no := 0, opcode := 0, flags := 0, tag := 0, target := 0, len := 0, timeout := 0, rsv := 0,
    srcAddr := 0, dstAddr := 0, par := List.replicate 24 0, atTb := 0 }

/-- The check accepts a well-formed command. -/
theorem test_wf_accepts : (Instr.nopFence 0 okDesc).wf = true := by decide

/-- The check refuses a tick beyond 64 bits. -/
theorem test_wf_refuses_tick : (Instr.foldBroadcastTick (2 ^ 64)).wf = false := by decide +kernel

/-- The check refuses a descriptor whose src does not fit. -/
theorem test_wf_refuses_desc_src : (Instr.nopFence 0 { okDesc with src := .host 32 }).wf = false := by decide +kernel

/-- The check refuses a descriptor whose idx does not fit. -/
theorem test_wf_refuses_desc_idx : (Instr.nopFence 0 { okDesc with idx := 4096 }).wf = false := by decide +kernel

/-- The check refuses a descriptor whose opcode does not fit. -/
theorem test_wf_refuses_desc_opcode : (Instr.nopFence 0 { okDesc with opcode := 256 }).wf = false := by decide +kernel

/-- The check refuses a descriptor whose flags does not fit. -/
theorem test_wf_refuses_desc_flags : (Instr.nopFence 0 { okDesc with flags := 256 }).wf = false := by decide +kernel

/-- The check refuses a descriptor whose tag does not fit. -/
theorem test_wf_refuses_desc_tag : (Instr.nopFence 0 { okDesc with tag := 65536 }).wf = false := by decide +kernel

/-- The check refuses a descriptor whose target does not fit. -/
theorem test_wf_refuses_desc_target : (Instr.nopFence 0 { okDesc with target := 2 ^ 32 }).wf = false := by decide +kernel

/-- The check refuses a descriptor whose len does not fit. -/
theorem test_wf_refuses_desc_len : (Instr.nopFence 0 { okDesc with len := 2 ^ 32 }).wf = false := by decide +kernel

/-- The check refuses a descriptor whose timeout does not fit. -/
theorem test_wf_refuses_desc_timeout : (Instr.nopFence 0 { okDesc with timeout := 65536 }).wf = false := by decide +kernel

/-- The check refuses a descriptor whose rsv does not fit. -/
theorem test_wf_refuses_desc_rsv : (Instr.nopFence 0 { okDesc with rsv := 65536 }).wf = false := by decide +kernel

/-- The check refuses a descriptor whose srcAddr does not fit. -/
theorem test_wf_refuses_desc_srcAddr : (Instr.nopFence 0 { okDesc with srcAddr := 2 ^ 64 }).wf = false := by decide +kernel

/-- The check refuses a descriptor whose dstAddr does not fit. -/
theorem test_wf_refuses_desc_dstAddr : (Instr.nopFence 0 { okDesc with dstAddr := 2 ^ 64 }).wf = false := by decide +kernel

/-- The check refuses a descriptor whose par does not fit. -/
theorem test_wf_refuses_desc_par : (Instr.nopFence 0 { okDesc with par := [] }).wf = false := by decide +kernel

/-- The check refuses a descriptor whose atTb does not fit. -/
theorem test_wf_refuses_desc_atTb : (Instr.nopFence 0 { okDesc with atTb := 2 ^ 64 }).wf = false := by decide +kernel

/-- The check refuses an ill-formed descriptor of a transmission. -/
theorem test_wf_refuses_uhfTx : (Instr.uhfTx 0 { okDesc with flags := 256 } 25).wf = false := by decide +kernel

/-- The check refuses a TAG beyond 16 bits. -/
theorem test_wf_refuses_lfCal_tag : (Instr.lfCal 0 okDesc 65536).wf = false := by decide +kernel

/-- The check refuses an IRR beyond its field. -/
theorem test_wf_refuses_uhfCal_irr : (Instr.uhfCal 0 okDesc ⟨256, 0, false, 0, 0, 0, 0⟩).wf = false := by decide +kernel

/-- The check refuses a filter code beyond its field. -/
theorem test_wf_refuses_uhfCal_filt : (Instr.uhfCal 0 okDesc ⟨0, 65536, false, 0, 0, 0, 0⟩).wf = false := by decide +kernel

/-- The check refuses a DC offset beyond its field. -/
theorem test_wf_refuses_uhfCal_dc : (Instr.uhfCal 0 okDesc ⟨0, 0, false, 0, 0, 256, 0⟩).wf = false := by decide +kernel

/-- The check refuses more ports than a part has. -/
theorem test_wf_refuses_uwbCal_count : (Instr.uwbCal 0 okDesc (List.replicate 5 ⟨0, 0, 0, 0, 0, 0⟩) 25).wf = false := by decide +kernel

/-- The check refuses a UWB result beyond its field. -/
theorem test_wf_refuses_uwbCal_irr : (Instr.uwbCal 0 okDesc [⟨256, 0, 0, 0, 0, 0⟩] 25).wf = false := by decide +kernel

/-- The check refuses a UWB quality above 100. -/
theorem test_wf_refuses_uwbCal_stsq : (Instr.uwbCal 0 okDesc [⟨0, 0, 0, 0, 101, 0⟩] 25).wf = false := by decide +kernel

/-- The check refuses a UWB deviation beyond its field. -/
theorem test_wf_refuses_uwbCal_sd : (Instr.uwbCal 0 okDesc [⟨0, 0, 0, 0, 0, 65536⟩] 25).wf = false := by decide +kernel

/-- The check refuses a run longer than its counter. -/
theorem test_wf_refuses_rngStat : (Instr.rngStat 0 okDesc ⟨0, 256, 0⟩).wf = false := by decide +kernel

/-- The check refuses a count of samples beyond its counter. -/
theorem test_wf_refuses_obs_tested : (Instr.rngSteepPass 0 ⟨2 ^ 64, 0, 0⟩).wf = false := by decide +kernel

/-- The check refuses a window count above its window. -/
theorem test_wf_refuses_obs_apt : (Instr.rngSteepPass 0 ⟨0, 0, 1025⟩).wf = false := by decide +kernel

/-- The check refuses a health test that does not exist. -/
theorem test_wf_refuses_healthFail_test : (Instr.rngHealthFail 0 4 0 ⟨0, 0, 0⟩).wf = false := by decide +kernel

/-- The check refuses a value beyond its field. -/
theorem test_wf_refuses_healthFail_value : (Instr.rngHealthFail 0 0 65536 ⟨0, 0, 0⟩).wf = false := by decide +kernel

/-- The check refuses an ill-formed observation. -/
theorem test_wf_refuses_estimator : (Instr.rngEstimatorWindow 0 0 0 0 0 0 ⟨0, 256, 0⟩).wf = false := by decide +kernel

/-- The check refuses a queue pair that does not exist. -/
theorem test_wf_refuses_pair : (Instr.descriptorDispatch 0 32).wf = false := by decide +kernel

/-- The check refuses a doorbell of a pair that does not exist. -/
theorem test_wf_refuses_pairValue : (Instr.sqTailDoorbell 0 32 0).wf = false := by decide +kernel

/-- The check refuses straps beyond four. -/
theorem test_wf_refuses_straps : (Instr.porRelease 0 16 false).wf = false := by decide +kernel

/-- The check refuses a VHOLD beyond its measurement. -/
theorem test_wf_refuses_vhold : (Instr.systemResetRelease 0 1000 0).wf = false := by decide +kernel

/-- The check refuses a VAON beyond its measurement. -/
theorem test_wf_refuses_vaon : (Instr.systemResetRelease 0 0 1000).wf = false := by decide +kernel

/-- The check refuses more drained words than places. -/
theorem test_wf_refuses_drained : (Instr.brownOut 0 65 .old).wf = false := by decide +kernel

/-- The check refuses a measured frequency beyond CLK_MEAS. -/
theorem test_wf_refuses_freq : (Instr.refclkQualified 0 (2 ^ 23)).wf = false := by decide +kernel

/-- The check refuses a gap of a clock without a period. -/
theorem test_wf_refuses_gapPeriod : (Instr.secondMark 0 ⟨4, 0, 0⟩).wf = false := by decide +kernel

/-- The check refuses a falling edge beyond TIMEBASE. -/
theorem test_wf_refuses_gapFall : (Instr.secondMark 0 ⟨4, 1, 2 ^ 64⟩).wf = false := by decide +kernel

/-- The check refuses a wake pin that does not exist. -/
theorem test_wf_refuses_wakePin : (Instr.wakePinEvent 0 ⟨8, 0, 0⟩).wf = false := by decide +kernel

/-- The check refuses a schedule entry that does not exist. -/
theorem test_wf_refuses_schedEntry : (Instr.scheduledPollDue 0 16).wf = false := by decide +kernel

/-- The check refuses a register beyond BAR0. -/
theorem test_wf_refuses_schedOffset : (Instr.pwrSchedEnable 0 0x4000 0).wf = false := by decide +kernel

/-- The check refuses a wake source that does not exist. -/
theorem test_wf_refuses_wakeSrc : (Instr.wakeExit 0 (.pin 8)).wf = false := by decide +kernel

/-- The check refuses a measured frequency beyond CLK_MEAS. -/
theorem test_wf_refuses_fallowExit : (Instr.fallowExit 0 .attention (2 ^ 23)).wf = false := by decide +kernel

/-- The check refuses a link speed that does not exist. -/
theorem test_wf_refuses_linkSpeed : (Instr.linkStateChange 0 .l0 4 0).wf = false := by decide +kernel

/-- The check refuses a link width that does not exist. -/
theorem test_wf_refuses_linkWidth : (Instr.linkStateChange 0 .l0 0 3).wf = false := by decide +kernel

/-- The check refuses an island that does not exist. -/
theorem test_wf_refuses_island : (Instr.islandHang 0 13).wf = false := by decide +kernel

/-- The check refuses a ring-down at a leaf that does not exist. -/
theorem test_wf_refuses_ringNode : (Instr.driveSequenceEnd 0 [⟨0x94, [], 0, false⟩]).wf = false := by decide +kernel

/-- The check refuses a ring-down period without a length. -/
theorem test_wf_refuses_ringPeriod : (Instr.lfDiagRoundEnd 0 [⟨0, [⟨0, []⟩], 0, false⟩]).wf = false := by decide +kernel

/-- The check refuses a sensed channel that does not exist. -/
theorem test_wf_refuses_senseCh : (Instr.foreignFieldWindowEnd 0 [⟨128, 0, 0, 0, false⟩]).wf = false := by decide +kernel

/-- The check refuses a peak beyond the converter. -/
theorem test_wf_refuses_sensePeak : (Instr.lfListenWindowEnd 0 [⟨0, 4096, 0, 0, false⟩]).wf = false := by decide +kernel

/-- The check refuses an RMS beyond the converter. -/
theorem test_wf_refuses_senseRms : (Instr.lfListenWindowEnd 0 [⟨0, 0, 4096, 0, false⟩]).wf = false := by decide +kernel

/-- The check refuses an answer on a channel that does not exist. -/
theorem test_wf_refuses_obaneCh : (Instr.obaneAnswerFrame 0 ⟨2, List.replicate 30 0, 0, 0⟩).wf = false := by decide +kernel

/-- The check refuses an answer of the wrong length. -/
theorem test_wf_refuses_obaneLen : (Instr.obaneAnswerFrame 0 ⟨0, [], 0, 0⟩).wf = false := by decide +kernel

/-- The check refuses a quality above 100. -/
theorem test_wf_refuses_uwbReply : (Instr.uwbResponseFrame 0 ⟨0, 101, true, 0, 0, none, [], true⟩).wf = false := by decide +kernel

/-- The check refuses a PSDU of more than 127 bytes. -/
theorem test_wf_refuses_uwbReplyLen : (Instr.uwbResponseFrame 0 ⟨0, 0, true, 0, 0, none, List.replicate 128 0, true⟩).wf = false := by decide +kernel

/-- The check refuses a quality above 100. -/
theorem test_wf_refuses_uwbReport : (Instr.uwbReportFrame 0 ⟨101, true, true, [], true⟩).wf = false := by decide +kernel

/-- The check refuses a PSDU of more than 127 bytes. -/
theorem test_wf_refuses_uwbReportLen : (Instr.uwbReportFrame 0 ⟨0, true, true, List.replicate 128 0, true⟩).wf = false := by decide +kernel

/-- The check refuses a standard identifier beyond 11 bits. -/
theorem test_wf_refuses_ecuId : (Instr.ecuChallenge 0 ⟨2 ^ 11, false, true, []⟩).wf = false := by decide +kernel

/-- The check refuses an extended identifier beyond 29 bits. -/
theorem test_wf_refuses_ecuIdXtd : (Instr.ecuViolation 0 ⟨2 ^ 29, true, true, []⟩).wf = false := by decide +kernel

/-- The check refuses a CAN frame of more than 64 bytes. -/
theorem test_wf_refuses_ecuData : (Instr.probeAnsFrame 0 ⟨0, false, true, List.replicate 65 0⟩).wf = false := by decide +kernel

/-- The check refuses a UHF frame on a profile that does not exist. -/
theorem test_wf_refuses_uhfFrameCh : (Instr.uhfRxFrameDetected 0 ⟨2, 0, 0, 0, 0, []⟩).wf = false := by decide +kernel

/-- The check refuses a UHF frame at a tick beyond TIMEBASE. -/
theorem test_wf_refuses_uhfFrameTb : (Instr.uhfRxFrameDetected 0 ⟨0, 2 ^ 64, 0, 0, 0, []⟩).wf = false := by decide +kernel

/-- The check refuses a UHF frame of more than 258 bytes. -/
theorem test_wf_refuses_uhfFrameLen : (Instr.uhfRxFrameDetected 0 ⟨0, 0, 0, 0, 0, List.replicate 259 0⟩).wf = false := by decide +kernel

/-- The check refuses an IRR beyond its field. -/
theorem test_wf_refuses_uhfBg : (Instr.uhfBgCal 0 256 0 0).wf = false := by decide +kernel

/-- The check refuses a DC offset beyond its field. -/
theorem test_wf_refuses_uhfBgDc : (Instr.uhfBgCal 0 0 256 0).wf = false := by decide +kernel

/-- The check refuses an IRR beyond its field. -/
theorem test_wf_refuses_uwbBg : (Instr.uwbBgCal 0 256 0).wf = false := by decide +kernel

/-- The check refuses a coil that does not exist. -/
theorem test_wf_refuses_coil : (Instr.coilExchangeStart 0 4 100 false).wf = false := by decide +kernel

/-- The check refuses a coil current beyond its measurement. -/
theorem test_wf_refuses_coilPct : (Instr.coilExchangeStart 0 0 1000 false).wf = false := by decide +kernel

/-- The check refuses an uplink at a coil that does not exist. -/
theorem test_wf_refuses_coilUplink : (Instr.coilUplinkFrame 0 4 []).wf = false := by decide +kernel

/-- The check refuses an uplink of more than 32 bytes. -/
theorem test_wf_refuses_coilUplinkLen : (Instr.coilUplinkFrame 0 0 (List.replicate 33 0)).wf = false := by decide +kernel

/-- The check refuses an attempt at a coil that does not exist. -/
theorem test_wf_refuses_coilAttempt : (Instr.coilAttemptTimeout 0 4).wf = false := by decide +kernel

/-- The check refuses a timer channel that does not exist. -/
theorem test_wf_refuses_capture : (Instr.timerCapturePair 0 32 0 0 false).wf = false := by decide +kernel

/-- The check refuses a capture beyond TIMEBASE. -/
theorem test_wf_refuses_captureFirst : (Instr.timerCapturePair 0 0 (2 ^ 64) 0 false).wf = false := by decide +kernel

/-- The check refuses a second capture beyond TIMEBASE. -/
theorem test_wf_refuses_captureSecond : (Instr.timerCapturePair 0 0 0 (2 ^ 64) false).wf = false := by decide +kernel

/-- The check refuses a GPIO that does not exist. -/
theorem test_wf_refuses_gpio : (Instr.gpioPulseEnd 0 24).wf = false := by decide +kernel

/-- The check refuses a pin-function register that does not exist. -/
theorem test_wf_refuses_pinf : (Instr.tmrPinfWrite 0 6 0).wf = false := by decide +kernel

/-- The check refuses a write beyond BAR0 and BAR2. -/
theorem test_wf_refuses_bar : (Instr.registerWrite 0 ⟨0x11000, 4⟩ 0).wf = false := by decide +kernel

/-- The check refuses a write of more than 8 bytes. -/
theorem test_wf_refuses_barSize : (Instr.registerWrite 0 ⟨0, 9⟩ 0).wf = false := by decide +kernel

/-- The check refuses a monitor read beyond BAR0. -/
theorem test_wf_refuses_monRd : (Instr.monRd 0 0x4000 1).wf = false := by decide +kernel

/-- The check refuses a monitor read of more than 64 words. -/
theorem test_wf_refuses_monRdCount : (Instr.monRd 0 0 65).wf = false := by decide +kernel

/-- The check refuses a monitor write beyond BAR0. -/
theorem test_wf_refuses_monWr : (Instr.monWr 0 0x4000 0).wf = false := by decide +kernel

/-- The check refuses a place beyond the monitor buffer. -/
theorem test_wf_refuses_monBuf : (Instr.monBuf 0 4096 []).wf = false := by decide +kernel

/-- The check refuses more than 64 bytes for the monitor buffer. -/
theorem test_wf_refuses_monBufLen : (Instr.monBuf 0 0 (List.replicate 65 0)).wf = false := by decide +kernel

/-- The check refuses a monitor descriptor that is not 64 bytes. -/
theorem test_wf_refuses_monDesc : (Instr.monDesc 0 []).wf = false := by decide +kernel

/-- The check refuses a node that does not exist. -/
theorem test_wf_refuses_monFolds : (Instr.monFolds 0 (some 0x200)).wf = false := by decide +kernel

/-- The check refuses a block number beyond 32 bits. -/
theorem test_wf_refuses_monLedgerSeq : (Instr.monLedger 0 (2 ^ 32) 1).wf = false := by decide +kernel

/-- The check refuses more than 16 blocks. -/
theorem test_wf_refuses_monLedgerCount : (Instr.monLedger 0 1 17).wf = false := by decide +kernel

/-- The check refuses an ill-formed observation. -/
theorem test_wf_refuses_monRng : (Instr.monRng 0 ⟨0, 256, 0⟩).wf = false := by decide +kernel

/-- The check refuses a rate that does not exist. -/
theorem test_wf_refuses_monBaud : (Instr.monBaud 0 7).wf = false := by decide +kernel

/-- The check refuses a signature that is not 64 bytes. -/
theorem test_wf_refuses_monUnlock : (Instr.monUnlock 0 []).wf = false := by decide +kernel

/-- The check refuses a SYNC on a channel that does not exist. -/
theorem test_wf_refuses_sync : (Instr.syncDetected 0 2).wf = false := by decide +kernel

/-- The check refuses a vector that does not exist. -/
theorem test_wf_refuses_vector : (Instr.msixVectorUnmask 0 34 true).wf = false := by decide +kernel

/-- The check refuses a tick beyond 64 bits of a register command. -/
theorem test_wf_refuses_registerCommand : (Instr.uhfCommit (2 ^ 64) 0).wf = false := by decide +kernel

/-! ## Examples of the spec and published values -/

/-- No row of the opcode table gives bits, so no word spells a command. -/
theorem test_decode_none : decodeTableWord 32 0 = none := by decide

/-- A reset device with the clock as given. -/
def clocked (c : Content) (tb : Nat) : State :=
  { State.reset with clk := { Clk.reset with tb := BitVec.ofNat 64 tb, content := c }, pwr := { Pwr.reset with st := .watch } }

/-- Step 4 of the worked example of 03_clocking.md: 63 slow periods from 1,000,000,000 give 1,000,073,828 and TB_FRAC 1. -/
theorem test_slow_periods :
    (elapse 1000073828 (clocked .slow 1000000000)).clk.tb = 1000073828 ∧
    (elapse 1000073828 (clocked .slow 1000000000)).clk.frac = 1 := by decide +kernel

/-- Step 10 of that example: 229 periods give 1,000,268,359 and TB_FRAC 3. -/
theorem test_slow_periods_on :
    (elapse 1000268359 (clocked .slow 1000000000)).clk.tb = 1000268359 ∧
    (elapse 1000268359 (clocked .slow 1000000000)).clk.frac = 3 := by decide +kernel

/-- Step 6 of that example: I = 4 P is a SECOND mark; step 8: a 7-cycle gap is ATTENTION. -/
theorem test_gap_classes :
    gapClass ⟨4, 1, 0⟩ State.reset = some .second ∧ gapClass ⟨8, 1, 0⟩ State.reset = some .attention := by decide +kernel

/-- A gap a third of a period long is malformed (R68). -/
theorem test_gap_malformed : gapClass ⟨13, 3, 0⟩ State.reset = some .other := by decide +kernel

/-- The tree of Table 07.2's rows: fold 9 over fold 12; leaves 64 to 69, 71 to 87 and 100 in fold 9, 88 to 95 in fold 12. -/
def trailer : Tree :=
  let put (t : Tree) (p n : Nat) : Tree := { t with lpar := t.lpar.set n p }
  let t0 : Tree := { lpar := List.replicate 136 255, fpar := (List.replicate 255 255).set 12 9,
                     fdef := ((List.replicate 255 false).set 9 true).set 12 true }
  let t1 := ([64, 65, 66, 67, 68, 69, 100] ++ (List.range 17).map (71 + ·)).foldl (fun t n => put t 9 n) t0
  (List.range 8).foldl (fun t n => put t 12 (88 + n)) t1

/-- Table 07.2: fold 9 takes 44 cycles, one leaf 24. -/
theorem test_walk_cycles :
    walkCycles trailer { okDesc with target := 0x109 } = 44 ∧
    walkCycles trailer { okDesc with target := 64 } = 24 := by decide +kernel

/-- The device of the worked example of 06_lf_field_engine.md: channel 100 adopted at position 70. -/
def adopted : State :=
  let s0 := setFld (LFE_CHn_CFG.POS 100) 70 State.reset
  ([64, 65, 66, 67, 68, 69, 100] ++ (List.range 25).map (71 + ·)).foldl (fun s n => setFld (LFE_CHn_CFG.EN n) 1 s) s0

/-- That example's frame map: channel 100 at rank 6 sends code 6 of frame 0, channel 71 code 7, channel 95 rank 31. -/
theorem test_frame_map :
    ((frameMap trailer 0x109 adopted).map (fun m => (m.ch, m.frame, m.code))).filter
      (fun m => m.1 == 100 || m.1 == 71 || m.1 == 80 || m.1 == 95) =
    [(100, 0, 6), (71, 0, 7), (80, 1, 0), (95, 1, 15)] := by decide +kernel

/-- A template with the given bytes 16 to 19; the rest is template 4 of the worked example of 11_verdict_engine.md. -/
def templateOf (w : Bytes) : Template :=
  parseTemplate ([0x05, 0x00, 0x02, 0x14, 0x91, 0x00, 0x1E, 0x00, 0x96, 0x00, 0xFF, 0xFF, 0, 0, 0, 0] ++ w ++ List.replicate 12 0)

/-- The distances of that example: 9 for the driver seat, 58 for the co-driver seat, 104 for the left door. -/
theorem test_template_distances :
    (templateOf [0xAA, 0x9E, 0x59, 0x52]).dist [40, 31, 27, 17] = 9 ∧
    (templateOf [0x9E, 0xA9, 0x52, 0x5A]).dist [40, 31, 27, 17] = 58 ∧
    (templateOf [0x94, 0x8C, 0x6C, 0x48]).dist [40, 31, 27, 17] = 104 := by decide +kernel

/-- The worked example of 16_custody_ledger.md: block 12,289 at 0x04C_0000, and FREE 917,502 after step 5. -/
theorem test_ledger_places :
    blockAddr 12289 State.reset = 0x4C0000 ∧
    lgrFree { State.reset with lgr := { Lgr.reset with w := 12288, next := 12291 } } = 917502 := by decide +kernel

/-- Chip j of code k is (-1) to the ones of k AND j (R139). -/
theorem test_chip_signs :
    chipNeg 5 7 = false ∧ chipNeg 5 4 = true ∧ chipNeg 0 15 = false ∧ chipNeg 15 7 = true := by decide

/-- 125 kHz is a whole number of steps of 102.4 MHz / 2^32 (R135). -/
theorem test_tuning_word : ftw 125000 = 5242880 := by decide +kernel

/-- The check value of CRC-16/IBM-3740 and of CRC-32C over the digits 1 to 9 (catalogue values). -/
theorem test_crc :
    crc16 ((List.range 9).map (fun i => byteOf (0x31 + i))) = 0x29B1 ∧
    crc32c ((List.range 9).map (fun i => byteOf (0x31 + i))) = 0xE3069283 := by decide +kernel

/-- FIPS 197, appendix C.1. -/
theorem test_aes :
    aesEnc ((List.range 16).map byteOf) ((List.range 16).map (fun i => byteOf (0x11 * i))) =
      beBytes 16 0x69C4E0D86A7B0430D8CDB78070B4C55A := by decide +kernel

/-- SP 800-38B: AES-128 CMAC of the empty message (RFC 4493, example 1). -/
theorem test_cmac :
    cmac (beBytes 16 0x2B7E151628AED2A6ABF7158809CF4F3C) [] = beBytes 16 0xBB1D6929E95937287FA37D129B756746 := by
  decide +kernel

/-- RFC 3394, 4.1: wrap of a 128-bit key under a 128-bit key. -/
theorem test_key_wrap :
    kwWrap ((List.range 16).map byteOf) ((List.range 16).map (fun i => byteOf (0x11 * i))) =
      beBytes 24 0x1FA68B0A8112B447AEF34BD8FB5A7B829D3E862371D2CFE5 := by decide +kernel

/-- FIPS 180-4: SHA-256 of "abc". -/
theorem test_sha256 :
    sha256 [0x61, 0x62, 0x63] = beBytes 32 0xBA7816BF8F01CFEA414140DE5DAE2223B00361A396177A9CB410FF61F20015AD := by
  decide +kernel

/-! ## The states of the witnesses -/

/-- A device at work: fast content, recalled, in Run, the link in L0, pair 0 enabled, the generator ready. -/
def base : State :=
  let s := { State.reset with
    clk := { Clk.reset with tb := 5000000, content := .fast38, wallRun := true, wall := 0x100000000 }
    pwr := { Pwr.reset with aonLoad := false }
    pins := { Pins.reset with perst := false }
    hif := { Hif.reset with
      link := .l0, trained := true, busMaster := true,
      qps := Hif.reset.qps.set 0 { Qp.reset with enabled := true, quiesced := false, phase := true } }
    nv := { Nv.reset with ledgerReady := true, loaded := true }
    lgr := { Lgr.reset with next := 1, head := 1 }
    lcy := { Lcy.reset with drover := .ready } }
  regSet RNG_STATUS.reg 0x22 (regSet (QPn_CFG.reg 0) 0x00080044 (regSet (QPn_CQB_LO.reg 0) 0x20000
    (regSet (QPn_SQB_LO.reg 0) 0x10000 (regSet HIF_STATUS.reg 1 (regSet HIF_CTL.reg 1 s)))))

/-- A descriptor of pair 0. -/
def desc (op target len src dst : Nat) (par : List Nat) : Desc :=
  { src := .host 0, idx := 3, no := 7, opcode := op, flags := 0, tag := 0x1234, target := target, len := len, timeout := 0, rsv := 0,
    srcAddr := src, dstAddr := dst, par := par.map byteOf ++ List.replicate (24 - par.length) 0, atTb := 0 }

/-- With a descriptor dispatched. -/
def fly (d : Desc) (s : State) : State :=
  { s with hif := { s.hif with
      flight := s.hif.flight ++ [{ d := d, accepted := true, discard := false, since := 5000000 }]
      droverQ := s.hif.droverQ ++ if opFirmware d.opcode && isHost d then [d] else [] } }

/-- With counter 249 at `n` (R408). -/
def atLife (n : Nat) (s : State) : State := { (tallyInc 249 n s).1 with nv := { (tallyInc 249 n s).1.nv with buf := [] }, regs := s.regs }
/-- A device in Field. -/
def field : State := atLife 2 base
/-- With word `v` at `off`. -/
def withReg (off : Nat) (v : Word) (s : State) : State := regSet off v s
/-- With bytes in host memory. -/
def host (a : Nat) (b : Bytes) (s : State) : State := { s with hostMem := mwrite zeroByte s.hostMem a b }
/-- The 64 bytes of a descriptor (Table 05.6). -/
def descBytes (d : Desc) : Bytes :=
  [byteOf d.opcode, byteOf d.flags] ++ leBytes 2 d.tag ++ leBytes 4 d.target ++ leBytes 4 d.len ++ leBytes 2 d.timeout
    ++ leBytes 2 d.rsv ++ leBytes 8 d.srcAddr ++ leBytes 8 d.dstAddr ++ d.par ++ leBytes 8 d.atTb
/-- With a changed pair 0. -/
def withQp (f : Qp → Qp) (s : State) : State := { s with hif := { s.hif with qps := s.hif.qps.set 0 (f (s.hif.qps.getD 0 Qp.reset)) } }
/-- With a descriptor at the head of pair 0's ring and the tail behind it. -/
def queued (d : Desc) (s : State) : State := withQp (fun q => { q with sqTail := 1 }) (host 0x10000 (descBytes d) s)
/-- A tree: fold 0 over fold 1; leaves 0 and 1 in fold 0, leaf 2 and coil 0 in fold 1, ports 0 and 1 in fold 0. -/
def tree : Tree :=
  { lpar := ((((((List.replicate 136 255).set 0 0).set 1 0).set 2 1).set 128 1).set 132 0).set 133 0
    fpar := (List.replicate 255 255).set 1 0
    fdef := ((List.replicate 255 false).set 0 true).set 1 true }
/-- With that tree live. -/
def treed (s : State) : State := { s with fold := { s.fold with live := tree, staging := tree } }

/-- With the tree live and channels 0 to 2 enabled. -/
def lfBase : State := [0, 1, 2].foldl (fun s n => setFld (LFE_CHn_CFG.NET n) 1 (setFld (LFE_CHn_CFG.EN n) 1 s)) (treed base)
/-- A ring-down at a leaf of `n` periods of `len` x 0.1 ns, which decays by a tenth a period. -/
def ringAt (node len n : Nat) : RingMeas :=
  { node := node, coilPct := 100, coilLimit := false
    periods := (List.range n).map (fun i => ⟨len, List.replicate 3 ⟨1650000 + 500000 * 9 ^ i / 10 ^ i, false⟩⟩) }
/-- The state after a meaning, the state itself where it does not answer one. -/
def after (m : State → Host.Outcome State Fault Refusal) (s : State) : State := match m s with | .next s' => s' | _ => s
/-- LF_POLL of fold 0. -/
def pollDesc : Desc := desc 0x10 0x100 0 0 0x8000 [2, 1, 2]
/-- An autonomous poll of fold 0. -/
def autoReq : LfReq :=
  { no := 9, askers := [(.wake 1, 5000000)], kind := .poll, node := 0x100, slots := 2, opts := 0, reslot := 2, desc := none, trial := [] }

/-! ## Witnesses -/

/-- StepRunsFrontCommand: a state with a command waiting. -/
theorem meets_StepRunsFrontCommand : ({ base with pending := [.monLock 0] } : State).pending = [.monLock 0] := rfl

/-- IdleStepCountsOneEdge: states with an empty queue under each content. -/
theorem meets_IdleStepCountsOneEdge :
    (State.reset.pending = [] ∧ tbRuns State.reset = false) ∧
    (base.pending = [] ∧ tbRuns base = true ∧ base.clk.content = .fast38) ∧
    (let s := { base with clk := { base.clk with content := .fast19 } }
     tbRuns s = true ∧ s.clk.content = .fast19 ∧ s.pwr.st = .run) ∧
    (tbRuns (clocked .fast19 7) = true ∧ (clocked .fast19 7).pwr.st = .watch) ∧
    (tbRuns (clocked .slow 7) = true ∧ (clocked .slow 7).clk.content = .slow) := by
  refine ⟨?_, ?_, ?_, ?_, ?_⟩ <;> decide +kernel

/-- StepKeepsLinesSafe, StepKeepsMemorySafe and StepKeepsShape: a working device meets all three, and so does the reset one. -/
theorem meets_StepKeeps :
    (linesSafe base ∧ memorySafe base ∧ shaped base) ∧
    (linesSafe State.reset ∧ memorySafe State.reset ∧ shaped State.reset) := by
  unfold linesSafe memorySafe shaped
  refine ⟨?_, ?_⟩ <;> decide +kernel

/-- Those devices take a step. -/
theorem meets_StepKeeps_next : (match step base with | .next _ => true | _ => false) = true := by decide +kernel

/-- A device whose monitor pins are the monitor's. -/
def monBase : State := setFld (TMR_PINFn.FUNC 5 3) 5 (setFld (TMR_PINFn.FUNC 5 2) 5 base)

/-- What MonitorAnswersLines asks is met: by a device that may not use every command, and by one before Field. -/
theorem meets_MonitorAnswersLines :
    (live (setFlag MON_CTL.EVT_ECHO true monBase) = true ∧ memorySafe monBase ∧ shaped monBase ∧ monServes monBase = true ∧
      monAllowed monBase = true) ∧
    (monServes (atLife 2 monBase) = true ∧ monAllowed (atLife 2 monBase) = false) ∧
    (let d := descOf .monitor 0 monBase.hif.dispNo (List.replicate 64 0)
     monBase.pwr.st = .run ∧ check119 { d with opcode := 1 } monBase = none ∧ modeBad d = none) ∧
    (nodeExists 0x1FE monBase = false ∧ nodeExists 0 (treed monBase) = true) ∧
    (let s := { monBase with lgr := { monBase.lgr with next := 2 } }
     s.nv.ledgerReady = true ∧ s.lgr.head ≤ 1 ∧ 1 ≤ lgrTail s) ∧
    recFails recMon monBase = false := by
  unfold memorySafe shaped
  refine ⟨?_, ?_, ?_, ?_, ?_, ?_⟩ <;> decide +kernel

namespace W02


def s1 : State := base
def v1 : Word := 0
def s2 : State := { (treed base) with fold := { ((treed base).fold) with staging := { tree with fpar := tree.fpar.set 0 1 } } }
def s3 : State := { base with fold := { base.fold with pend := some tree } }

/-- What CounterClearsZeroSelectedCounters asks is met. -/
theorem meets_CounterClearsZeroSelectedCounters :
    (live s1 = true ∧ islandOn Island.pcie s1 = true ∧ memorySafe s1 ∧ shaped s1) ∧
    (s1.part ≠ Part.blv8032n) := by
  unfold memorySafe shaped
  refine ⟨?_, ?_⟩ <;> decide +kernel

/-- What CommitsStoreSetups asks is met (SetupCommitStoresItsRegisters). -/
theorem meets_SetupCommitStoresItsRegisters :
    (live s1 = true ∧ islandOn Island.pcie s1 = true ∧ memorySafe s1 ∧ shaped s1 ∧ recFails recLfe s1 = false) ∧
    (recFails recUhf s1 = false) ∧
    (s1.part ≠ Part.blv8032n ∧ recFails recUwb s1 = false) ∧
    (VRD_CTL.ACT_RULES.of v1 = 0 ∧ VRD_CTL.ACT_MAP.of v1 = 0 ∧ recFails recVrd s1 = false) ∧
    (recFails recFlk s1 = false) ∧
    (recFails recCry s1 = false) ∧
    (recFails recTmr s1 = false) := by
  unfold memorySafe shaped
  refine ⟨?_, ?_, ?_, ?_, ?_, ?_, ?_⟩ <;> decide +kernel

/-- What CommitsStoreSetups asks is met (FieldCommitStoresItsFields). -/
theorem meets_FieldCommitStoresItsFields :
    (live s1 = true ∧ islandOn Island.pcie s1 = true ∧ memorySafe s1 ∧ shaped s1 ∧ recFails recLgr s1 = false) ∧
    (recFails recLcy s1 = false) ∧
    (recFails recMon s1 = false ∧ s1.heldWr = []) := by
  unfold memorySafe shaped
  refine ⟨?_, ?_, ?_⟩ <;> decide +kernel

/-- What RegisterWritesTakeEffect asks is met (RegisterWriteSetsFieldsInRange). -/
theorem meets_RegisterWriteSetsFieldsInRange :
    live s1 = true ∧ islandOn Island.pcie s1 = true ∧ memorySafe s1 ∧ shaped s1 ∧ s1.heldWr = [] ∧ (PWR_CTL.reg) ∈ [PWR_CTL.reg, PWR_WAKE_CTL.reg, PWR_WAKE_BIND0.reg, PWR_WAKE_BIND1.reg, LFE_CARRIER.reg, LFE_THR.reg, LFE_DIAG_CTL.reg, LFE_COIL_CTL.reg, UHF_CH0_FREQ.reg, UHF_CH1_FREQ.reg, UHF_CH0_MOD.reg, UHF_CH1_MOD.reg, UHF_RXCFG.reg, UHF_TXLIM.reg, UHF_COEX_CTL.reg, UHF_COEX_POL.reg, UWB_TXCFG.reg, FLK_CAN_CFG.reg, NVS_CTL.reg] ∧ held (PWR_CTL.reg) s1 = false ∧ ((PWR_CTL.reg) = UWB_TXCFG.reg → s1.part ≠ Part.blv8032n) ∧ 5000100 ≠ 4 := by
  unfold memorySafe shaped
  decide +kernel

/-- What FoldTreeAppliesAndDiscards asks is met. -/
theorem meets_FoldTreeAppliesAndDiscards :
    (live s1 = true ∧ islandOn Island.pcie s1 = true ∧ memorySafe s1 ∧ shaped s1 ∧ FLD_CTL.COMMIT.of v1 = 0 ∧ FLD_CTL.DISCARD.of v1 = 0 ∧ s1.fold.pend = none ∧ treeBad s1.fold.staging s1 = none) ∧
    (live s2 = true ∧ islandOn Island.pcie s2 = true ∧ memorySafe s2 ∧ shaped s2 ∧ s2.fold.pend = none ∧ (treeBad s2.fold.staging s2).any (fun _ => true) = true) ∧
    (FLD_CTL.APPLY.of v1 = 0) ∧
    (live s3 = true ∧ islandOn Island.pcie s3 = true ∧ memorySafe s3 ∧ shaped s3 ∧ s3.nv.ledgerReady = true ∧ s3.fold.op = none ∧ (s3.fold.pend.toList).any (fun _ => true) = true) := by
  unfold memorySafe shaped
  refine ⟨?_, ?_, ?_, ?_⟩ <;> decide +kernel

/-- What CommitsStoreSetups asks is met (FoldCommitStoresTheLiveTree). -/
theorem meets_FoldCommitStoresTheLiveTree :
    live s1 = true ∧ islandOn Island.pcie s1 = true ∧ memorySafe s1 ∧ shaped s1 ∧ FLD_CTL.APPLY.of v1 = 0 ∧ FLD_CTL.DISCARD.of v1 = 0 ∧ recFails recTree s1 = false := by
  unfold memorySafe shaped
  decide +kernel

end W02

namespace W03

def anyRules : RuleSet := parseRules (List.replicate 64 0)
def anyMap : ZoneMap := parseMap (List.replicate 64 0)
def s1 : State := base
def v1 : Word := 0
def s2 : State := { base with vrd := { base.vrd with stRules := some anyRules } }
def s3 : State := { base with vrd := { base.vrd with stMap := some anyMap } }
def s4 : State := { base with flk := { base.flk with perm := some { slot := 3, grant := 1000, hold := 1 } } }
def s5 : State := withReg PWR_SCHED_CTL.reg 1 base
def v2 : Word := 67116549
def v3 : Word := 67109125
def v4 : Word := 1

/-- What RegisterWritesTakeEffect asks is met (ClockWritesGoToTheirShadow). -/
theorem meets_ClockWritesGoToTheirShadow :
    live s1 = true ∧ islandOn Island.pcie s1 = true ∧ memorySafe s1 ∧ shaped s1 := by
  unfold memorySafe shaped
  decide +kernel

/-- What RegisterWritesTakeEffect asks is met (PinFunctionWriteSetsPins). -/
theorem meets_PinFunctionWriteSetsPins :
    live s1 = true ∧ islandOn Island.pcie s1 = true ∧ memorySafe s1 ∧ shaped s1 ∧ 0 < 6 := by
  unfold memorySafe shaped
  decide +kernel

/-- What RuleAndMapSetsLoadAndSwap asks is met (StagedSetsBecomeActive). -/
theorem meets_StagedSetsBecomeActive :
    (live s2 = true ∧ islandOn Island.pcie s2 = true ∧ memorySafe s2 ∧ shaped s2 ∧ s2.nv.ledgerReady = true ∧ VRD_CTL.COMMIT.of v1 = 0 ∧ VRD_CTL.ACT_MAP.of v1 = 0 ∧ (s2.vrd.stRules.toList).any (fun _ => true) = true) ∧
    (live s1 = true ∧ islandOn Island.pcie s1 = true ∧ memorySafe s1 ∧ shaped s1 ∧ s1.nv.ledgerReady = true ∧ s1.vrd.stRules = none) ∧
    (live s3 = true ∧ islandOn Island.pcie s3 = true ∧ memorySafe s3 ∧ shaped s3 ∧ s3.nv.ledgerReady = true ∧ VRD_CTL.ACT_RULES.of v1 = 0 ∧ (s3.vrd.stMap.toList).any (fun _ => true) = true) ∧
    (s1.vrd.stMap = none) := by
  unfold memorySafe shaped
  refine ⟨?_, ?_, ?_, ?_⟩ <;> decide +kernel

/-- What StartLinesFollowThePermission asks is met (StartPermissionEnds). -/
theorem meets_StartPermissionEnds :
    (live s1 = true ∧ memorySafe s1 ∧ shaped s1 ∧ s1.nv.ledgerReady = true ∧ islandOn Island.pcie s1 = true ∧ FLK_START_CTL.HOLD_S.of v1 ≤ 3600) ∧
    (live s4 = true ∧ memorySafe s4 ∧ shaped s4 ∧ s4.nv.ledgerReady = true ∧ ((s4.flk.perm.toList).any (fun p => decide (p.hold ≠ 0 ∧ p.grant + secTicks p.hold ≤ now (elapse 38401000 s4))) = true)) ∧
    (((s4.flk.perm.toList).any (fun p => decide ((p.hold = 0 ∨ now (elapse 0 s4) < p.grant + secTicks p.hold))) = true)) := by
  unfold memorySafe shaped
  refine ⟨?_, ?_, ?_⟩ <;> decide +kernel

/-- What GeneratorFollowsItsSource asks is met (TestSourceOnlyInBlank). -/
theorem meets_TestSourceOnlyInBlank :
    live s1 = true ∧ islandOn Island.pcie s1 = true ∧ memorySafe s1 ∧ shaped s1 := by
  unfold memorySafe shaped
  decide +kernel

/-- What ScheduleAndPinsAskForPolls asks is met (SchedulePollsFallDueOnePeriodAfterEnabling). -/
theorem meets_SchedulePollsFallDueOnePeriodAfterEnabling :
    (running s5 = true ∧ islandOn Island.pcie s5 = true ∧ memorySafe s5 ∧ shaped s5 ∧ 0 < 16 ∧ (PWR_SCHEDn.ENTRY_EN 0).of v2 = 1 ∧ 10 ≤ (PWR_SCHEDn.PERIOD 0).of v2 ∧ flag (PWR_SCHEDn.ENTRY_EN 0) s5 = false ∧ flag PWR_SCHED_CTL.EN s5 = true) ∧
    (running s1 = true ∧ islandOn Island.pcie s1 = true ∧ memorySafe s1 ∧ shaped s1 ∧ (PWR_SCHEDn.ENTRY_EN 0).of v1 = 0) ∧
    ((PWR_SCHEDn.ENTRY_EN 0).of v3 = 1 ∧ (PWR_SCHEDn.PERIOD 0).of v3 < 10) ∧
    (PWR_SCHED_CTL.EN.of v4 = 1 ∧ flag PWR_SCHED_CTL.EN s1 = false ∧ PWR_SCHED_CTL.COMMIT.of v4 = 0) ∧
    (PWR_SCHED_CTL.EN.of v1 = 0 ∧ PWR_SCHED_CTL.COMMIT.of v1 = 0) ∧
    (recFails recSched s1 = false) := by
  unfold memorySafe shaped
  refine ⟨?_, ?_, ?_, ?_, ?_, ?_⟩ <;> decide +kernel

end W03

namespace W04

def nopDm : Desc := { desc 1 0 0 0 0 [] with src := .drover }
def s1 : State := fly nopDm base
def d1 : Desc := nopDm
def s2 : State := fly (desc 1 0 0 0 0 [0, 3]) base
def d2 : Desc := desc 1 0 0 0 0 [0, 3]
def s3 : State := fly (desc 2 0 0 0 0 [100, 0, 0, 0, 3, 0, 0]) base
def d3 : Desc := desc 2 0 0 0 0 [100, 0, 0, 0, 3, 0, 0]
def s4 : State := fly (desc 3 0 0 0 0 [0, 0, 0, 0, 2, 0, 0, 0, 0]) base
def d4 : Desc := desc 3 0 0 0 0 [0, 0, 0, 0, 2, 0, 0, 0, 0]
def s5 : State := fly (desc 3 0 0 0 0 [0, 0, 255, 255, 0, 0, 0, 0, 0]) field
def d5 : Desc := desc 3 0 0 0 0 [0, 0, 255, 255, 0, 0, 0, 0, 0]
def s6 : State := fly (desc 3 0 0 0 0 [0, 0, 0, 0, 2, 0, 0, 0, 1]) base
def d6 : Desc := desc 3 0 0 0 0 [0, 0, 0, 0, 2, 0, 0, 0, 1]
def s7 : State := fly (desc 3 0 0 0 0 [0, 0, 0, 0, 2, 0, 0, 0, 2]) base
def d7 : Desc := desc 3 0 0 0 0 [0, 0, 0, 0, 2, 0, 0, 0, 2]
def s8 : State := fly (desc 8 5 0 0 0 []) base
def d8 : Desc := desc 8 5 0 0 0 []

/-- What HintsFencesAndRoutesComplete asks is met (NopCompletesAlone). -/
theorem meets_NopCompletesAlone :
    (serves 0 d1 s1 ∧ isRow 1 d1 = true ∧ parNonzero 0 24 d1 = none) ∧
    (serves 0 d2 s2 ∧ isRow 1 d2 = true ∧ ((parNonzero 0 24 d2).toList).any (fun _ => true) = true) := by
  unfold serves memorySafe shaped
  refine ⟨?_, ?_⟩ <;> decide +kernel

/-- What HintsFencesAndRoutesComplete asks is met (PowerHintTakesEffect). -/
theorem meets_PowerHintTakesEffect :
    serves 0 d3 s3 ∧ isRow 2 d3 = true ∧ hintParBad d3 = none ∧ (p8 d3 6 = 1 → recFails recHint s3 = false) := by
  unfold serves memorySafe shaped
  decide +kernel

/-- What TimeSetSetsHoldsOrCancels asks is met. -/
theorem meets_TimeSetSetsHoldsOrCancels :
    (serves 0 d4 s4 ∧ isRow 3 d4 = true ∧ parNonzero 9 24 d4 = none ∧ s4.nv.ledgerReady = true ∧ p8 d4 8 = 0 ∧ wallRefused (BitVec.ofNat 64 (p64 d4 0)) (elapse 0 s4) = false) ∧
    (serves 0 d5 s5 ∧ isRow 3 d5 = true ∧ parNonzero 9 24 d5 = none ∧ s5.nv.ledgerReady = true ∧ p8 d5 8 = 0 ∧ wallRefused (BitVec.ofNat 64 (p64 d5 0)) (elapse 0 s5) = true) ∧
    (serves 0 d6 s6 ∧ isRow 3 d6 = true ∧ parNonzero 9 24 d6 = none ∧ s6.nv.ledgerReady = true ∧ p8 d6 8 = 1) ∧
    (serves 0 d7 s7 ∧ isRow 3 d7 = true ∧ parNonzero 9 24 d7 = none ∧ s7.nv.ledgerReady = true ∧ p8 d7 8 = 2) := by
  unfold serves memorySafe shaped
  refine ⟨?_, ?_, ?_, ?_⟩ <;> decide +kernel

/-- What HintsFencesAndRoutesComplete asks is met (EventRouteNamesThePair). -/
theorem meets_EventRouteNamesThePair :
    serves 0 d8 s8 ∧ isRow 8 d8 = true ∧ d8.target < 32 ∧ parNonzero 0 24 d8 = none ∧ (∀ r ∈ s8.hif.routes, r.2 ≤ now (elapse 0 s8)) := by
  unfold serves memorySafe shaped
  decide +kernel

end W04

namespace W04b

def nop := desc 1 0 0 0 0 []
def msix (s : State) (m : Bool) : State := {s with hif := {s.hif with msixEn := true, msix := s.hif.msix.set 0 {addr := 0x100, data := 3, masked := m}, pba := 3}}
def ev1 : Evt := { code := 1, status := 0, seq := 7, ts := 99, res := [1,2,3], det := 4 }
def s1 : State := queued nop base
def s2 : State := queued (desc 68 65535 32 12288 16384 []) field
def s3 : State := queued ({ nop with flags := 1 }) (fly nop base)
def s4 : State := { (queued nop base) with dmaBad := [(65536, 64)] }
def s5 : State := base
def v1 : Word := 0
def v2 : Word := 16
def v3 : Word := 1
def v4 : Word := 524356
def s6 : State := withQp (fun q => { q with unsig := 1, unsigAt := some 4990000 }) base
def s7 : State := msix (withQp (fun q => { q with unsig := 1, unsigAt := some 4990000 }) base) true
def s8 : State := { base with hif := { base.hif with backlog := [ev1] } }

/-- What DispatchTakesTheHead asks is met. -/
theorem meets_DispatchTakesTheHead :
    (running s1 = true ∧ memorySafe s1 ∧ shaped s1 ∧ 0 < 32 ∧ hasTurn 0 s1 = true ∧ dmaFails (headAddr 0 s1) 64 s1 = false ∧ skips 0 s1 = false ∧ (qp 0 s1).blkDrv = false ∧ check119 (headDesc 0 s1) s1 = none ∧ modeBad (headDesc 0 s1) = none) ∧
    (running s2 = true ∧ memorySafe s2 ∧ shaped s2 ∧ hasTurn 0 s2 = true ∧ dmaFails (headAddr 0 s2) 64 s2 = false ∧ skips 0 s2 = false ∧ (qp 0 s2).blkDrv = false ∧ heard (headDesc 0 s2) s2 = true ∧ (check119 (headDesc 0 s2) s2).any (fun _ => true) = true) ∧
    (running s3 = true ∧ memorySafe s3 ∧ shaped s3 ∧ hasTurn 0 s3 = true ∧ dmaFails (headAddr 0 s3) 64 s3 = false ∧ skips 0 s3 = true) ∧
    (running s4 = true ∧ memorySafe s4 ∧ shaped s4 ∧ hasTurn 0 s4 = true ∧ dmaFails (headAddr 0 s4) 64 s4 = true) ∧
    (1 < 32 ∧ hasTurn 1 s1 = false) := by
  unfold memorySafe shaped
  refine ⟨?_, ?_, ?_, ?_, ?_⟩ <;> decide +kernel

/-- What DispatchTakesTheHead asks is met (FetchErrorStopsThePair). -/
theorem meets_FetchErrorStopsThePair :
    live s1 = true ∧ memorySafe s1 ∧ shaped s1 ∧ 0 < 32 ∧ mayFetch 0 s1 = true := by
  unfold memorySafe shaped
  decide +kernel

/-- What PairsFollowTheirRegisters asks is met (DoorbellsMoveTheirPointers). -/
theorem meets_DoorbellsMoveTheirPointers :
    (live s5 = true ∧ memorySafe s5 ∧ shaped s5 ∧ 0 < 32 ∧ (qp 0 s5).enabled = true ∧ BitVec.toNat v1 % 4096 < sqSize 0 s5) ∧
    (sqSize 0 s5 ≤ BitVec.toNat v2 % 4096) ∧
    (BitVec.toNat v1 % 4096 < cqSize 0 s5 ∧ (BitVec.toNat v1 % 4096 + cqSize 0 s5 - (qp 0 s5).cqHead) % cqSize 0 s5 ≤ (qp 0 s5).used) ∧
    ((cqSize 0 s5 ≤ BitVec.toNat v3 % 4096 ∨ (qp 0 s5).used < (BitVec.toNat v3 % 4096 + cqSize 0 s5 - (qp 0 s5).cqHead) % cqSize 0 s5)) ∧
    (1 < 32 ∧ (qp 1 s5).enabled = false) := by
  unfold memorySafe shaped
  refine ⟨?_, ?_, ?_, ?_, ?_⟩ <;> decide +kernel

/-- What PairsFollowTheirRegisters asks is met (PairsEnableAndDisable). -/
theorem meets_PairsEnableAndDisable :
    (live s5 = true ∧ islandOn Island.pcie s5 = true ∧ memorySafe s5 ∧ shaped s5 ∧ 1 < 32 ∧ 4 ≤ (QPn_CFG.SQ_SIZE 1).of v4 ∧ (QPn_CFG.SQ_SIZE 1).of v4 ≤ 12 ∧ 4 ≤ (QPn_CFG.CQ_SIZE 1).of v4 ∧ (QPn_CFG.CQ_SIZE 1).of v4 ≤ 12 ∧ (QPn_CFG.COAL_US 1).of v4 ≠ 0 ∧ (qp 1 s5).enabled = false ∧ (qp 1 s5).quiesced = true) ∧
    (0 < 32 ∧ (QPn_CFG.SQ_SIZE 0).of v1 = 0 ∧ ringSizeOk ((QPn_CFG.CQ_SIZE 0).of v1) = true ∧ (qp 0 s5).enabled = true ∧ (qp 0 s5).blkDrv = false ∧ fld (QPn_CFG.SQ_SIZE 0) s5 ≠ 0) := by
  unfold memorySafe shaped
  refine ⟨?_, ?_⟩ <;> decide +kernel

/-- What PairsFollowTheirRegisters asks is met (FunctionEnablesFollow). -/
theorem meets_FunctionEnablesFollow :
    (live s5 = true ∧ memorySafe s5 ∧ shaped s5 ∧ islandOn Island.pcie s5 = true ∧ s5.heldWr = []) ∧
    ((false = false ∨ s5.hif.link ≠ LinkState.l0 ∨ s5.hif.held = [])) ∧
    (s5.hif.link = LinkState.l0) := by
  unfold memorySafe shaped
  refine ⟨?_, ?_, ?_⟩ <;> decide +kernel

/-- What VectorsAndEventsGoOut asks is met (VectorsAreSentOrPending). -/
theorem meets_VectorsAreSentOrPending :
    (live s6 = true ∧ memorySafe s6 ∧ shaped s6 ∧ 0 < 32 ∧ ((qp 0 s6).unsigAt.toList).any (fun x => decide (x + usTicks (fld (QPn_CFG.COAL_US 0) s6) ≤ now (elapse 0 s6))) = true) ∧
    (live s7 = true ∧ memorySafe s7 ∧ shaped s7 ∧ 0 < 34 ∧ s7.hif.msixEn = true) := by
  unfold memorySafe shaped
  refine ⟨?_, ?_⟩ <;> decide +kernel

/-- What VectorsAndEventsGoOut asks is met (BacklogGoesOutInOrder). -/
theorem meets_BacklogGoesOutInOrder :
    (live s5 = true ∧ memorySafe s5 ∧ shaped s5) ∧
    (live s8 = true ∧ memorySafe s8 ∧ shaped s8 ∧ s8.hif.overflow = none ∧ ((List.take 1 s8.hif.backlog).any (fun e => decide (s8.hif.backlog = [e] ∧ canDeliver (evtPair e.ts s8) s8 = true)) = true)) := by
  unfold memorySafe shaped
  refine ⟨?_, ?_⟩ <;> decide +kernel

end W04b

namespace W05

def ret2 (s : State) : State := {s with fold := {s.fold with retired := s.fold.retired.set 2 true}}
def rq (d : Desc) (k : LfKind) : LfReq := hostReq k d (p8 d 0) (p8 d 1) (p8 d 2) base
def rqs := [autoReq, rq pollDesc .poll, rq (desc 0x13 0x100 24 0 0x8000 [10,0,0,1]) .listen, rq {pollDesc with target := 0x150} .poll]
def polling : State := after (execPollStart 5000000) {fly pollDesc lfBase with lf := {lfBase.lf with queue := [rq pollDesc .poll]}}
def sensing : State := after (execDriveSequenceEnd 8000000 []) polling
def withRun (f : LfRun → LfRun) (s : State) : State := {s with lf := {s.lf with run := s.lf.run.map f}}
def withPoll (f : Poll → Poll) (s : State) : State := {s with poll := s.poll.map f}
def respond : State := (fun (s : State) => { s with poll := s.poll.map (fun p => { p with challenge := 5 }) }) (after (execResponseWindowOpen 12000000) sensing)
def ringD := desc 0x11 0x100 24 0 0x8000 [0]
def ring1 : State := after (execPollStart 5000000) {fly ringD lfBase with lf := {lfBase.lf with queue := [hostReq .diagRing ringD 0 0 0 base]}}
def listenD := desc 0x13 0x100 24 0 0x8000 [10,0,0,0]
def listen1 : State := after (execPollStart 5000000) {fly listenD lfBase with lf := {lfBase.lf with queue := [hostReq .listen listenD 0 0 0 base]}}
def lfNo (s : State) : State := {s with fold := {s.fold with live := {s.fold.live with lpar := s.fold.live.lpar.set 128 255}}}
def ring3 : State := after (execPollStart 5000000) {fly ringD (lfNo lfBase) with lf := {lfBase.lf with queue := [hostReq .diagRing ringD 0 0 0 base]}}
def ring3L : State := withRun (fun r => {r with tree := (lfNo (treed base)).fold.live, todo := [0]}) ring3
def cals := [desc 0x12 0x100 64 0 0x8000 [5], desc 0x12 0x100 64 0 0x8000 [0x7,0,200,0], desc 0x12 0x100 64 0 0x8000 [1]]
def calA : State := after (execLfCal 5000000 (cals.headD pollDesc) 0) (fly (cals.headD pollDesc) lfBase)
def calB : State := after (execPollStart 5000000) calA
def calC : State := (fun (s : State) => {s with lf := {s.lf with run := s.lf.run.map (fun r => {r with phase := .sense, todo := [0], coils := []})}}) calB
def calV (s : State) : State := {s with lf := {s.lf with cals := s.lf.cals.map (fun c => {c with step := .verify, d := {c.d with par := (c.d.par.set 0 1)}})}}
def samples0 : List (State) := (rqs.map (fun r => {(match r.desc with | some d => fly d lfBase | none => lfBase) with lf := {lfBase.lf with queue := [r]}})) ++ [{lfBase with lf := {lfBase.lf with queue := [autoReq, autoReq]}}]
def s1 : State := fly pollDesc lfBase
def d1 : Desc := pollDesc
def s2 : State := fly ({ pollDesc with target := 2 }) (ret2 lfBase)
def d2 : Desc := { pollDesc with target := 2 }
def s3 : State := fly (desc 17 256 24 0 32768 [0]) lfBase
def d3 : Desc := desc 17 256 24 0 32768 [0]
def s4 : State := fly (desc 17 256 8 32768 0 [1, 1]) lfBase
def d4 : Desc := desc 17 256 8 32768 0 [1, 1]
def s5 : State := fly (desc 19 256 24 0 32768 [10, 0, 0, 1]) lfBase
def d5 : Desc := desc 19 256 24 0 32768 [10, 0, 0, 1]
def s6 : State := { (match autoReq.desc with | some d => fly d lfBase | none => lfBase) with lf := { lfBase.lf with queue := [autoReq] } }
def v1 : LfReq := autoReq
def s7 : State := samples0.get ⟨2, by decide +kernel⟩
def v2 : LfReq := rq (desc 19 256 24 0 32768 [10, 0, 0, 1]) LfKind.listen
def s8 : State := samples0.get ⟨3, by decide +kernel⟩
def v3 : LfReq := rq ({ pollDesc with target := 336 }) LfKind.poll
def s9 : State := polling
def v4 : List RingMeas := []
def s10 : State := sensing
def v5 : List SenseMeas := []
def s11 : State := { (setFld LFE_CTL.FF_EVT 0 sensing) with lf := { sensing.lf with ffRec := some 7000000 } }
def v6 : List SenseMeas := [{ ch := 0, peak := 4000, rms := 3000, freq := 12500, sat := false }]
def s12 : State := withPoll (fun p => { p with collided := [(0, 0)] }) respond
def s13 : State := respond
def s14 : State := withPoll (fun p => { p with coils := [] }) respond
def s15 : State := withRun (fun r => { r with phase := if (r.phase == LfPhase.drive) = true then LfPhase.sense else r.phase }) ring1
def s16 : State := withRun (fun r => { r with phase := if (r.phase == LfPhase.drive) = true then LfPhase.sense else r.phase }) ring3L
def s17 : State := withRun (fun r => { r with phase := if (r.phase == LfPhase.drive) = true then LfPhase.sense else r.phase }) listen1
def s18 : State := fly (desc 18 256 64 0 32768 [5]) lfBase
def d6 : Desc := desc 18 256 64 0 32768 [5]
def s19 : State := calC
def s20 : State := calV calC

/-- What LfOperationsQueue asks is met. -/
theorem meets_LfOperationsQueue :
    (serves 0 d1 s1 ∧ isRow 16 d1 = true ∧ pollParBad d1 = none ∧ targetRetired d1 s1 = false) ∧
    (serves 0 d2 s2 ∧ isRow 16 d2 = true ∧ pollParBad d2 = none ∧ targetRetired d2 s2 = true) ∧
    (serves 0 d3 s3 ∧ isMode 17 0 d3 = true ∧ diagParBad d3 = none) ∧
    (serves 0 d4 s4 ∧ isMode 17 1 d4 = true ∧ diagParBad d4 = none) ∧
    (serves 0 d5 s5 ∧ isRow 19 d5 = true ∧ listenParBad d5 = none) := by
  unfold serves memorySafe shaped
  refine ⟨?_, ?_, ?_, ?_, ?_⟩ <;> decide +kernel

/-- What PollsRunThroughTheirPhases asks is met (PollStartTakesTheHead). -/
theorem meets_PollStartTakesTheHead :
    (running s6 = true ∧ memorySafe s6 ∧ shaped s6 ∧ s6.lf.queue = v1 :: (List.drop 1 s6.lf.queue) ∧ s6.lf.wait = [] ∧ s6.lf.run = none ∧ s6.heldWr = [] ∧ s6.pins.resetN = false ∧ lfReady v1 (elapse 0 s6) = true ∧ heldByReset v1 s6 = false ∧ (v1.askers.all fun a => !tooLate (elapse 0 s6) a) = true ∧ (v1.desc = none → v1.askers ≠ []) ∧ (∀ (d : Desc), v1.desc = some d → hasAt d = true → d.atTb ≤ now (elapse 0 s6)) ∧ reqExists v1 s6 = true ∧ v1.kind = LfKind.poll ∧ nodePinned s6.fold.live v1.node s6 = false ∧ ((frameMap s6.fold.live v1.node s6).any fun m => !m.silent) = true ∧ drawFails s6 = none ∧ s6.uhf.run = none) ∧
    (running s7 = true ∧ memorySafe s7 ∧ shaped s7 ∧ s7.lf.queue = v2 :: (List.drop 1 s7.lf.queue) ∧ s7.lf.wait = [] ∧ s7.lf.run = none ∧ s7.heldWr = [] ∧ s7.pins.resetN = false ∧ lfReady v2 (elapse 0 s7) = true ∧ heldByReset v2 s7 = false ∧ (v2.askers.all fun a => !tooLate (elapse 0 s7) a) = true ∧ (v2.desc = none → v2.askers ≠ []) ∧ (∀ (d : Desc), v2.desc = some d → hasAt d = true → d.atTb ≤ now (elapse 0 s7)) ∧ reqExists v2 s7 = true ∧ v2.kind = LfKind.listen) ∧
    (running s8 = true ∧ memorySafe s8 ∧ shaped s8 ∧ s8.lf.queue = v3 :: (List.drop 1 s8.lf.queue) ∧ s8.lf.wait = [] ∧ s8.lf.run = none ∧ s8.heldWr = [] ∧ s8.pins.resetN = false ∧ lfReady v3 (elapse 0 s8) = true ∧ heldByReset v3 s8 = false ∧ (v3.askers.all fun a => !tooLate (elapse 0 s8) a) = true ∧ (v3.desc = none → v3.askers ≠ []) ∧ (∀ (d : Desc), v3.desc = some d → hasAt d = true → d.atTb ≤ now (elapse 0 s8)) ∧ reqExists v3 s8 = false ∧ s8.lf.cals = [] ∧ (v3.desc.toList).any (fun d => decide (heard d (elapse 0 s8) = true)) = true) := by
  unfold memorySafe shaped
  refine ⟨?_, ?_, ?_⟩ <;> decide +kernel

/-- What PollsRunThroughTheirPhases asks is met (PollPhasesFollow). -/
theorem meets_PollPhasesFollow :
    (live s9 = true ∧ memorySafe s9 ∧ ((s9.lf.run.toList).any (fun r => decide (r.req.kind = LfKind.poll ∧ r.phase = LfPhase.drive ∧ r.seq + driveTicks r.f ≤ now (elapse 7000000 s9))) = true)) ∧
    (live s10 = true ∧ memorySafe s10 ∧ ((s10.lf.run.toList).any (fun r => decide (r.req.kind = LfKind.poll ∧ r.phase = LfPhase.sense ∧ r.sensed = false ∧ ffOn r s10 = true ∧ r.seq + driveTicks r.f + 384 * (fld LFE_SENSE.FF_DELAY s10 + fld LFE_SENSE.FF_WIN s10) ≤ now (elapse 5000100 s10) ∧ ((List.map (senseOf v5) (ffChans r s10)).all fun x => !overThr s10 x) = true)) = true)) ∧
    (live s11 = true ∧ memorySafe s11 ∧ flag LFE_CTL.FF_EVT s11 = false ∧ Option.any (fun x => decide (now (elapse 5000100 s11) < x + secTicks 10)) s11.lf.ffRec = true ∧ ((s11.lf.run.toList).any (fun r => decide (r.req.kind = LfKind.poll ∧ r.phase = LfPhase.sense ∧ r.sensed = false ∧ ffOn r s11 = true ∧ r.seq + driveTicks r.f + 384 * (fld LFE_SENSE.FF_DELAY s11 + fld LFE_SENSE.FF_WIN s11) ≤ now (elapse 5000100 s11) ∧ (List.map (senseOf v6) (ffChans r s11)).any (overThr s11) = true)) = true)) ∧
    (spanOk s10 = true ∧ ((s10.lf.run.toList).any (fun r => decide (r.req.kind = LfKind.poll ∧ r.phase = LfPhase.sense ∧ ((s10.poll.toList).any (fun p => decide ((p.coils.all fun c => !c.cut) = true ∧ (windowOf r.seq r.f p.s).1 ≤ now (elapse 5000100 s10))) = true))) = true)) := by
  unfold memorySafe
  refine ⟨?_, ?_, ?_, ?_⟩ <;> decide +kernel

/-- What PollsRunThroughTheirPhases asks is met (WindowCloseReslotsOrEnds). -/
theorem meets_WindowCloseReslotsOrEnds :
    (live s12 = true ∧ memorySafe s12 ∧ shaped s12 ∧ s12.uhf.queue = [] ∧ s12.uhf.run = none ∧ s12.uwb.hold = false ∧ drawFails s12 = none ∧ ((s12.lf.run.toList).any (fun r => decide (r.req.kind = LfKind.poll ∧ ((s12.poll.toList).any (fun p => decide (p.collided ≠ [] ∧ p.rseq < r.req.reslot ∧ p.pinStop = false ∧ (p.window.toList).any (fun w => decide (w + p.s * 288000 ≤ now (elapse 6236500 s12))) = true)) = true))) = true)) ∧
    (live s13 = true ∧ memorySafe s13 ∧ shaped s13 ∧ s13.uhf.queue = [] ∧ s13.uhf.run = none ∧ s13.uwb.hold = false ∧ ((s13.lf.run.toList).any (fun r => decide (r.req.kind = LfKind.poll ∧ ((s13.poll.toList).any (fun p => decide ((p.collided = [] ∨ r.req.reslot ≤ p.rseq) ∧ (p.coils.all fun x => x.done) = false ∧ (p.window.toList).any (fun w => decide (w + p.s * 288000 ≤ now (elapse 6236500 s13))) = true)) = true))) = true)) ∧
    (live s14 = true ∧ memorySafe s14 ∧ shaped s14 ∧ s14.uhf.queue = [] ∧ s14.uhf.run = none ∧ s14.uwb.hold = false ∧ s14.uwb.exch = [] ∧ s14.pwr.st = PState.run ∧ ((s14.poll.toList).any (fun p => decide (p.collided = [] ∧ (p.coils.all fun x => x.done) = true ∧ p.answers = [] ∧ p.vidSeen = false ∧ (p.window.toList).any (fun w => decide (w + p.s * 288000 ≤ now (elapse 6236500 s14))) = true)) = true) ∧ ((s14.lf.run.toList).any (fun r => decide (r.req.kind = LfKind.poll ∧ (r.req.desc.toList).any (fun d => decide (heard d (elapse 6236500 s14) = true)) = true)) = true)) := by
  unfold memorySafe shaped
  refine ⟨?_, ?_, ?_⟩ <;> decide +kernel

/-- What DiagnosticsReportAndTune asks is met (DiagnosticsReport). -/
theorem meets_DiagnosticsReport :
    (running s15 = true ∧ memorySafe s15 ∧ shaped s15 ∧ s15.lf.cals = [] ∧ padsSafe s15 = false ∧ ((s15.lf.run.toList).any (fun r => decide (r.req.kind = LfKind.diagRing ∧ r.todo = 0 :: (List.drop 1 r.todo) ∧ r.seq + usTicks 2 + burstTicks r.req (roundChans 0 r.chans) s15 + usTicks 3 + 384 * fld LFE_DIAG_CTL.RING s15 ≤ now (elapse 12000000 s15) ∧ (List.drop 1 r.todo) = 1 :: (List.drop 1 (List.drop 1 r.todo)))) = true)) ∧
    (running s16 = true ∧ memorySafe s16 ∧ shaped s16 ∧ s16.lf.cals = [] ∧ ((s16.lf.run.toList).any (fun r => decide (r.req.kind = LfKind.diagRing ∧ r.todo = 0 :: (List.drop 1 r.todo) ∧ r.seq + usTicks 2 + burstTicks r.req (roundChans 0 r.chans) s16 + usTicks 3 + 384 * fld LFE_DIAG_CTL.RING s16 ≤ now (elapse 12000000 s16) ∧ (List.drop 1 r.todo) = [] ∧ r.coils = [] ∧ ((r.req.desc.toList).any (fun d => decide (heard d (elapse 12000000 s16) = true ∧ dmaBlocked d d.dstAddr (List.map ringBytes (List.take (d.len / 8) (List.foldl (fun l x => insertRing x l) [] (r.rings ++ List.map (fun c => ringRec c (runFreq r.req c s16) 1 (ringOf v4 c) s16) (roundChans 0 r.chans))))).flatten.length s16 = false)) = true))) = true)) ∧
    (running s17 = true ∧ memorySafe s17 ∧ shaped s17 ∧ s17.lf.cals = [] ∧ ((s17.lf.run.toList).any (fun r => decide (r.req.kind = LfKind.listen ∧ bit 0 r.req.opts = false ∧ ((r.req.desc.toList).any (fun d => decide (r.start + msTicks (p16 d 0) ≤ now (elapse 12000000 s17) ∧ heard d (elapse 12000000 s17) = true ∧ dmaBlocked d d.dstAddr (List.map (listenBytes s17) (List.take (d.len / 8) (List.map (senseOf v5) r.chans))).flatten.length s17 = false)) = true))) = true)) := by
  unfold memorySafe shaped
  refine ⟨?_, ?_, ?_⟩ <;> decide +kernel

/-- What DiagnosticsReportAndTune asks is met (LfCalTunesTheTarget). -/
theorem meets_LfCalTunesTheTarget :
    (memorySafe s18 ∧ shaped s18 ∧ s18.heldWr = [] ∧ serves 0 d6 s18 ∧ isRow 18 d6 = true ∧ lfCalParBad d6 = none ∧ s18.lf.cals = [] ∧ lfDepth s18 < 16 ∧ s18.lf.wait = []) ∧
    (memorySafe s19 ∧ shaped s19 ∧ s19.heldWr = [] ∧ running s19 = true ∧ s19.mon.desc = none ∧ ((s19.lf.run.toList).any (fun r => decide (r.req.kind = LfKind.diagRing ∧ r.coils = [] ∧ r.rings = [] ∧ ((List.take 1 r.todo).any (fun k => decide (r.todo = [k] ∧ r.seq + usTicks 2 + burstTicks r.req (roundChans k r.chans) s19 + usTicks 3 + 384 * fld LFE_DIAG_CTL.RING s19 ≤ now (elapse 12000000 s19))) = true) ∧ ((List.take 1 s19.lf.cals).any (fun c => decide (r.req.desc = some c.pass ∧ c.pass.len = 0 ∧ c.pass.src = Source.drover ∧ c.d.src ≠ Source.drover ∧ s19.lf.cals = [c] ∧ heard c.pass (elapse 12000000 s19) = true ∧ c.step = CalStep.tune)) = true))) = true)) ∧
    (memorySafe s20 ∧ shaped s20 ∧ s20.heldWr = [] ∧ running s20 = true ∧ s20.mon.desc = none ∧ ((s20.lf.run.toList).any (fun r => decide (r.req.kind = LfKind.diagRing ∧ r.coils = [] ∧ r.rings = [] ∧ ((List.take 1 s20.lf.cals).any (fun c => decide (r.req.desc = some c.pass ∧ c.pass.len = 0 ∧ c.pass.src = Source.drover ∧ c.d.src ≠ Source.drover ∧ s20.lf.cals = [c] ∧ heard c.pass (elapse 12000000 s20) = true ∧ c.step = CalStep.verify ∧ bit 2 (p8 c.d 0) = false ∧ heard c.d (elapse 12000000 s20) = true ∧ ((List.take 1 r.todo).any (fun k => decide (r.todo = [k] ∧ r.seq + usTicks 2 + burstTicks r.req (roundChans k r.chans) s20 + usTicks 3 + 384 * fld LFE_DIAG_CTL.RING s20 ≤ now (elapse 12000000 s20) ∧ dmaBlocked c.d c.d.dstAddr (List.take c.d.len (List.map calBytes (calRead (List.foldl (fun l x => insertRing x l) [] (List.map (fun x => ringRec x (runFreq r.req x s20) 1 (ringOf v4 x) s20) (roundChans k r.chans))) c.chans)).flatten).length s20 = false)) = true))) = true))) = true)) := by
  unfold serves memorySafe shaped
  refine ⟨?_, ?_, ?_⟩ <;> decide +kernel

end W05

namespace W06

def ret2 (s : State) : State := {s with fold := {s.fold with retired := (s.fold.retired.set 2 true).set 0 true}}
def ops (d : Desc) (s : State) : State := {fly d s with fold := {s.fold with op := some ⟨d, 5000400, s.fold.live⟩}}
def s1 : State := fly (desc 24 256 0 0 32768 [0]) (ret2 lfBase)
def d1 : Desc := desc 24 256 0 0 32768 [0]
def s2 : State := fly (desc 24 256 0 0 32768 [0]) (ops ({ (desc 24 3 0 0 32768 [5, 0, 2, 0]) with no := 99 }) lfBase)
def s3 : State := fly (desc 24 256 0 0 32768 [0]) (ops { (desc 24 256 0 0 32768 [0]) with no := 99 } lfBase)
def s4 : State := fly (desc 24 256 0 0 32768 [1, 0, 3, 0, 20]) (ret2 lfBase)
def d2 : Desc := desc 24 256 0 0 32768 [1, 0, 3, 0, 20]
def s5 : State := fly (desc 24 256 0 0 32768 [1, 0, 3, 0, 20]) (ops { (desc 24 256 0 0 32768 [1, 0, 3, 0, 20]) with no := 99 } lfBase)
def s6 : State := fly (desc 24 256 64 0 32768 [2]) (ret2 lfBase)
def d3 : Desc := desc 24 256 64 0 32768 [2]
def s7 : State := fly (desc 24 256 64 0 32768 [2]) (ops { (desc 24 256 64 0 32768 [2]) with no := 99 } lfBase)
def s8 : State := fly (desc 24 256 0 0 32768 [3, 0]) (ret2 lfBase)
def d4 : Desc := desc 24 256 0 0 32768 [3, 0]
def s9 : State := fly (desc 24 256 0 0 32768 [3, 0]) (ops ({ (desc 24 3 0 0 32768 [5, 0, 2, 0]) with no := 99 }) lfBase)
def s10 : State := fly (desc 24 256 0 0 32768 [3, 0]) (ops { (desc 24 256 0 0 32768 [3, 0]) with no := 99 } lfBase)
def s11 : State := fly (desc 24 256 0 0 32768 [4, 0]) (ret2 lfBase)
def d5 : Desc := desc 24 256 0 0 32768 [4, 0]
def s12 : State := fly (desc 24 256 0 0 32768 [4, 0]) (ops { (desc 24 256 0 0 32768 [4, 0]) with no := 99 } lfBase)
def s13 : State := fly (desc 24 3 0 0 32768 [5, 0, 2, 0]) (ret2 lfBase)
def d6 : Desc := desc 24 3 0 0 32768 [5, 0, 2, 0]
def s14 : State := fly (desc 24 3 0 0 32768 [5, 0, 2, 0]) (ops { (desc 24 3 0 0 32768 [5, 0, 2, 0]) with no := 99 } (ret2 lfBase))
def s15 : State := ops (desc 24 256 0 0 32768 [0]) lfBase
def s16 : State := ops (desc 24 256 0 0 32768 [1, 0, 3, 0, 20]) lfBase
def s17 : State := ops (desc 24 256 64 0 32768 [2]) lfBase
def s18 : State := ops (desc 24 256 0 0 32768 [3, 0]) lfBase
def s19 : State := ops (desc 24 256 0 0 32768 [4, 0]) lfBase
def s20 : State := ops (desc 24 3 0 0 32768 [5, 0, 2, 0]) lfBase

/-- What FoldOperationsTakeEffectAtB asks is met (FoldOperationsWalkOrWait). -/
theorem meets_FoldOperationsWalkOrWait :
    (serves 0 d1 (noFold s1) ∧ foldParBad d1 = none ∧ isMode 24 0 d1 = true ∧ (s1.fold.op = none ∧ s1.fold.pend = none ∧ nodeExists d1.target s1 = true) ∧ List.filter (fun k => opActive k s1) (touching s1.fold.live d1.target s1) = []) ∧
    (serves 0 d1 (noFold s2) ∧ ((s2.fold.op).any (fun o => decide (now (atWork d1 (elapse 0 s2)) < o.b)) = true) ∧ List.filter (fun k => opActive k s2) (touching s2.fold.live d1.target s2) = []) ∧
    (serves 0 d1 (noFold s3) ∧ List.filter (fun k => opActive k s3) (touching s3.fold.live d1.target s3) ≠ [] ∧ (s3.fold.op = none ∨ ((s3.fold.op).any (fun o => decide (now (atWork d1 (elapse 0 s3)) < o.b)) = true))) ∧
    (serves 0 d2 (noFold s4) ∧ foldParBad d2 = none ∧ isMode 24 1 d2 = true ∧ (s4.fold.op = none ∧ s4.fold.pend = none ∧ nodeExists d2.target s4 = true)) ∧
    (serves 0 d2 (noFold s5) ∧ ((s5.fold.op).any (fun o => decide (now (atWork d2 (elapse 0 s5)) < o.b)) = true)) ∧
    (serves 0 d3 (noFold s6) ∧ foldParBad d3 = none ∧ isMode 24 2 d3 = true ∧ (s6.fold.op = none ∧ s6.fold.pend = none ∧ nodeExists d3.target s6 = true)) ∧
    (serves 0 d3 (noFold s7) ∧ ((s7.fold.op).any (fun o => decide (now (atWork d3 (elapse 0 s7)) < o.b)) = true)) ∧
    (serves 0 d4 (noFold s8) ∧ foldParBad d4 = none ∧ isMode 24 3 d4 = true ∧ (s8.fold.op = none ∧ s8.fold.pend = none ∧ nodeExists d4.target s8 = true) ∧ List.filter (fun k => opActive k s8) (touching s8.fold.live d4.target s8) = []) ∧
    (serves 0 d4 (noFold s9) ∧ ((s9.fold.op).any (fun o => decide (now (atWork d4 (elapse 0 s9)) < o.b)) = true) ∧ List.filter (fun k => opActive k s9) (touching s9.fold.live d4.target s9) = []) ∧
    (serves 0 d4 (noFold s10) ∧ List.filter (fun k => opActive k s10) (touching s10.fold.live d4.target s10) ≠ [] ∧ (s10.fold.op = none ∨ ((s10.fold.op).any (fun o => decide (now (atWork d4 (elapse 0 s10)) < o.b)) = true))) ∧
    (serves 0 d5 (noFold s11) ∧ foldParBad d5 = none ∧ isMode 24 4 d5 = true ∧ (s11.fold.op = none ∧ s11.fold.pend = none ∧ nodeExists d5.target s11 = true)) ∧
    (serves 0 d5 (noFold s12) ∧ ((s12.fold.op).any (fun o => decide (now (atWork d5 (elapse 0 s12)) < o.b)) = true)) ∧
    (serves 0 d6 (noFold s13) ∧ foldParBad d6 = none ∧ isMode 24 5 d6 = true ∧ adoptBad s13.fold.live d6 s13 = none ∧ (s13.fold.op = none ∧ s13.fold.pend = none ∧ nodeExists d6.target s13 = true)) ∧
    (serves 0 d6 (noFold s14) ∧ adoptBad s14.fold.live d6 s14 = none ∧ ((s14.fold.op).any (fun o => decide (now (atWork d6 (elapse 0 s14)) < o.b)) = true)) := by
  unfold serves memorySafe shaped
  refine ⟨?_, ?_, ?_, ?_, ?_, ?_, ?_, ?_, ?_, ?_, ?_, ?_, ?_, ?_⟩ <;> decide +kernel

/-- What FoldOperationsTakeEffectAtB asks is met (FoldTakesEffectAtB). -/
theorem meets_FoldTakesEffectAtB :
    (live (noFold s15) = true ∧ memorySafe s15 ∧ shaped s15 ∧ ((s15.fold.op.toList).any (fun o => decide (o.b = now (elapse 5000400 s15) ∧ heard o.d (elapse 5000400 s15) = true ∧ p8 o.d 0 = 0)) = true)) ∧
    (live (noFold s16) = true ∧ memorySafe s16 ∧ shaped s16 ∧ s16.lf.run = none ∧ s16.heldWr = [] ∧ uwbBusy s16 = false ∧ ((s16.fold.op.toList).any (fun o => decide (o.b = now (elapse 5000400 s16) ∧ heard o.d (elapse 5000400 s16) = true ∧ p8 o.d 0 = 1 ∧ p8 o.d 1 = 0)) = true)) ∧
    (live (noFold s17) = true ∧ memorySafe s17 ∧ shaped s17 ∧ ((s17.fold.op.toList).any (fun o => decide (o.b = now (elapse 5000400 s17) ∧ heard o.d (elapse 5000400 s17) = true ∧ p8 o.d 0 = 2 ∧ dmaBlocked o.d o.d.dstAddr (List.take (min (snapshot o.tree o.d.target (elapse 5000400 s17)).length (o.d.len / 16)) (snapshot o.tree o.d.target (elapse 5000400 s17))).flatten.length s17 = false)) = true)) ∧
    (live (noFold s18) = true ∧ memorySafe s18 ∧ shaped s18 ∧ ((s18.fold.op.toList).any (fun o => decide (o.b = now (elapse 5000400 s18) ∧ heard o.d (elapse 5000400 s18) = true ∧ p8 o.d 0 = 3 ∧ p8 o.d 1 = 0)) = true)) := by
  unfold memorySafe shaped
  refine ⟨?_, ?_, ?_, ?_⟩ <;> decide +kernel

/-- What FoldOperationsTakeEffectAtB asks is met (RetireAndAdoptAreStored). -/
theorem meets_RetireAndAdoptAreStored :
    (live (noFold s19) = true ∧ memorySafe s19 ∧ shaped s19 ∧ s19.nv.ledgerReady = true ∧ s19.uwb.cur = none ∧ s19.nv.wornRecs = [] ∧ ((s19.fold.op.toList).any (fun o => decide (o.b = now (elapse 5000400 s19) ∧ heard o.d (elapse 5000400 s19) = true ∧ p8 o.d 0 = 4)) = true)) ∧
    (live (noFold s20) = true ∧ memorySafe s20 ∧ shaped s20 ∧ s20.nv.ledgerReady = true ∧ s20.uwb.cur = none ∧ s20.nv.wornRecs = [] ∧ s20.lf.run = none ∧ s20.heldWr = [] ∧ ((s20.fold.op.toList).any (fun o => decide (o.b = now (elapse 5000400 s20) ∧ heard o.d (elapse 5000400 s20) = true ∧ p8 o.d 0 = 5 ∧ (((leafIndex o.d.target).toList).any (fun i => decide (i < 128 ∧ ((leafIndex (adoptOld o.d)).toList).any (fun old => decide (i ≠ old)) = true)) = true))) = true)) := by
  unfold memorySafe shaped
  refine ⟨?_, ?_⟩ <;> decide +kernel

end W06

namespace W07

def atD (a : Nat) (d : Desc) : Desc := {d with atTb := a, flags := 4}
def uTx := desc 0x20 0 40 0x9000 0 [0,8,2,1]
def txs := [uTx, atD 9000000 uTx, atD 5000200 uTx, {uTx with target := 1}]
def uRx := desc 0x21 0 816 0 0xA000 [0x10,0x27,0,0,0,1,2,0]
def rxs := [uRx, {uRx with par := uRx.par.set 7 4}, {uRx with par := uRx.par.set 4 1}, {uRx with len := 100}]
def grants (s : State) : List State := [setFld UHF_COEX_CTL.EN 0 s, s, setFld UHF_COEX_CTL.EN 1 s, setFld UHF_COEX_CTL.TIMEOUT 2 (setFld UHF_COEX_CTL.EN 1 (withReg UHF_COEX_POL.reg 0xFFFFFFFF s))]
def upTx (t : Nat) (d : Desc) (s : State) : State := after (execUhfTx t d 25) (fly d s)
def upRx (t : Nat) (d : Desc) (s : State) : State := after (execUhfRx t d 25) (fly d s)
def txing := (txs.flatMap (fun d => (grants base).map (upTx 5000100 d)))
def rxing := (rxs.flatMap (fun d => (grants base).map (upRx 5000100 d)))
def fr (r : Int) : UhfFrame := ⟨0, 5060000, 0, r, 5, [1,2,3]⟩
def cal0 := desc 0x22 0 16 0 0xA000 [3]
def cals := [cal0, desc 0x22 0 16 0 0xA000 [0x1F, 0, 0, 0,0x00,0x9F,0x06,0], desc 0x22 1 16 0 0xA000 [0xC, 0, 0, 0, 0,0,0,0], desc 0x22 1 16 0 0xA000 [0x13, 0, 0, 0, 0,0,0,0]]
def withWin (w : Nat × Nat) (s : State) : State := {s with uhf := {s.uhf with windows := [w]}}
def umeas : UhfMeas := ⟨40, 200, true, 5, 3, 2, 26⟩
def calling : List State := cals.map (fun d => (fun (s : State) => {s with uhf := {s.uhf with run := s.uhf.run.map (fun r => {r with phase := .air, stop := 5195000})}}) (after (execUhfCal 5000100 d umeas) (fly d (setFld UHF_COEX_CTL.EN 0 base))))
def samples0 : List (State) := calling ++ (cals.map (fun d => fly d base)) ++ (cals.map (fun d => fly d (setFld UHF_COEX_CTL.EN 0 base))) ++ ((base :: rxing).map (withWin (5200000, 5300000))) ++ [setFld UHF_CTL.BG_CAL 1 (setFld UHF_CTL.BG_PERIOD 0 ({base with uhf := {base.uhf with walk := [⟨0,0,2⟩]}})), setFld UHF_CTL.BG_CAL 1 (setFld UHF_CTL.BG_PERIOD 1 ({base with clk := {base.clk with tb := 50000000000}, uhf := {base.uhf with walk := [⟨0,0,2⟩]}}))]
def samples1 : List (State) := [base, setFld UHF_COEX_CTL.EN 0 base] ++ txing ++ rxing ++ (txing ++ rxing).map (fun s => {s with pins := {s.pins with coexGnt := true}, uhf := {s.uhf with run := s.uhf.run.map (fun r => {r with phase := .air})}})
def s1 : State := fly uTx (setFld UHF_COEX_CTL.EN 0 (host 36864 (List.replicate 40 3) base))
def d1 : Desc := uTx
def v1 : ℤ := 25
def s2 : State := fly (atD 9000000 uTx) (setFld UHF_COEX_CTL.EN 0 (host 36864 (List.replicate 40 3) base))
def d2 : Desc := atD 9000000 uTx
def s3 : State := upTx 5000100 uTx (setFld UHF_COEX_CTL.EN 0 base)
def s4 : State := fly uRx base
def d3 : Desc := uRx
def s5 : State := upRx 5000100 uRx (setFld UHF_COEX_CTL.EN 0 base)
def v2 : UhfFrame := fr (-50)
def s6 : State := upRx 5000100 ({ uRx with len := 100 }) (setFld UHF_COEX_CTL.EN 0 base)
def s7 : State := fly cal0 base
def d4 : Desc := cal0
def v3 : UhfMeas := { irr := 40, filt := 200, refFound := true, ppm := 5, band := 3, dc := 2, temp := 26 }
def s8 : State := samples0.get ⟨0, by decide +kernel⟩
def s9 : State := withWin (5200000, 5300000) base
def s10 : State := withWin (5200000, 5300000) (upRx 5000100 uRx (setFld UHF_COEX_CTL.EN 0 base))
def s11 : State := setFld UHF_CTL.BG_CAL 1 (setFld UHF_CTL.BG_PERIOD 0 ({ base with uhf := { base.uhf with walk := [{ go := 0, come := 0, st := 2 }] } }))
def s12 : State := setFld UHF_COEX_CTL.EN 0 base
def s13 : State := upTx 5000100 uTx base
def s14 : State := samples1.get ⟨35, by decide +kernel⟩
def s15 : State := samples1.get ⟨53, by decide +kernel⟩

/-- What UhfSendsAndReceives asks is met (TransmissionsStartAndEnd). -/
theorem meets_TransmissionsStartAndEnd :
    (live s1 = true ∧ memorySafe s1 ∧ shaped s1 ∧ s1.uhf.queue = [] ∧ serves 5000100 d1 s1 ∧ isRow 32 d1 = true ∧ txParBad d1 = none ∧ s1.uhf.run = none ∧ s1.uhf.windows = [] ∧ s1.heldWr = [] ∧ coexOk 3 s1 = true ∧ (hasAt d1 = false ∨ (uhfFrom (elapse 5000100 s1)).2 + usTicks (pathUs (synthPath (uhfFrom (elapse 5000100 s1)).1 (s1.uhf.lo == chFreq d1.target s1) (calOnWay (uhfFrom (elapse 5000100 s1)).1 (chFreq d1.target s1) v1 s1))) + usTicks 10 ≤ d1.atTb) ∧ ((dmaRead d1 d1.srcAddr d1.len s1).toList).any (fun _ => true) = true) ∧
    (live s2 = true ∧ memorySafe s2 ∧ shaped s2 ∧ s2.uhf.queue = [] ∧ serves 9900000 d2 s2 ∧ isRow 32 d2 = true ∧ txParBad d2 = none ∧ s2.uhf.run = none ∧ s2.uhf.windows = [] ∧ s2.heldWr = [] ∧ coexOk 3 s2 = true ∧ hasAt d2 = true ∧ d2.atTb < (uhfFrom (elapse 9900000 s2)).2 + usTicks (pathUs (synthPath (uhfFrom (elapse 9900000 s2)).1 (s2.uhf.lo == chFreq d2.target s2) (calOnWay (uhfFrom (elapse 9900000 s2)).1 (chFreq d2.target s2) v1 s2))) + usTicks 10 ∧ ((dmaRead d2 d2.srcAddr d2.len s2).toList).any (fun _ => true) = true) ∧
    (live s3 = true ∧ memorySafe s3 ∧ shaped s3 ∧ s3.uhf.queue = [] ∧ ((s3.uhf.run.toList).any (fun r => decide (r.tx = true ∧ r.phase = UhfPhase.air ∧ r.stop ≤ now (elapse 9900000 s3) ∧ heard r.d (elapse 9900000 s3) = true)) = true)) := by
  unfold serves memorySafe shaped
  refine ⟨?_, ?_, ?_⟩ <;> decide +kernel

/-- What UhfSendsAndReceives asks is met (ReceptionsCollectFrames). -/
theorem meets_ReceptionsCollectFrames :
    (live s4 = true ∧ memorySafe s4 ∧ shaped s4 ∧ s4.uhf.queue = [] ∧ serves 5000100 d3 s4 ∧ isRow 33 d3 = true ∧ rxParBad d3 = none ∧ (bit 2 (p8 d3 7) = true → d3.target = 0) ∧ s4.uhf.run = none ∧ s4.uhf.windows = [] ∧ s4.heldWr = [] ∧ coexOk 4 s4 = true ∧ hasAt d3 = false) ∧
    (live s5 = true ∧ memorySafe s5 ∧ shaped s5 ∧ s5.uhf.queue = [] ∧ ((s5.uhf.run.toList).any (fun r => decide (rxAccepts r v2 (elapse 5100000 s5) = true ∧ 272 * r.written + 272 ≤ r.d.len ∧ dmaBlocked r.d (r.d.dstAddr + 272 * r.written) 272 s5 = false)) = true)) ∧
    (live s6 = true ∧ memorySafe s6 ∧ shaped s6 ∧ s6.uhf.queue = [] ∧ ((s6.uhf.run.toList).any (fun r => decide (rxAccepts r v2 (elapse 5100000 s6) = true ∧ r.d.len < 272 * r.written + 272)) = true)) ∧
    ((s5.uhf.run.toList).any (fun r => decide (rxAccepts r v2 (elapse 5000100 s5) = false)) = true) ∧
    (((s5.uhf.run.toList).any (fun r => decide (r.tx = false ∧ r.phase = UhfPhase.air ∧ r.start ≤ now (elapse 9900000 s5) ∧ (r.stop ≤ now (elapse 9900000 s5) ∨ rxFull r = true) ∧ r.dmaErr = false ∧ heard r.d (elapse 9900000 s5) = true)) = true)) := by
  unfold serves memorySafe shaped
  refine ⟨?_, ?_, ?_, ?_, ?_⟩ <;> decide +kernel

/-- What RadioIsCalibratedAndGranted asks is met (RadioIsCalibratedAndReadied). -/
theorem meets_RadioIsCalibratedAndReadied :
    (memorySafe s7 ∧ shaped s7 ∧ s7.uhf.queue = [] ∧ s7.heldWr = [] ∧ serves 5000100 d4 s7 ∧ isRow 34 d4 = true ∧ uhfCalParBad d4 = none ∧ s7.uhf.run = none ∧ s7.uhf.windows = [] ∧ ((calTicks d4).2.1 = 0 ∨ coexOk 5 s7 = true)) ∧
    (memorySafe s8 ∧ shaped s8 ∧ s8.uhf.queue = [] ∧ s8.heldWr = [] ∧ live { s8 with uhf := { s8.uhf with run := none } } = true ∧ ((s8.uhf.run.toList).any (fun r => decide (r.phase = UhfPhase.air ∧ r.stop = now (elapse 5195000 s8) ∧ r.stop ≤ 5195000 ∧ heard r.d (elapse 5195000 s8) = true ∧ bit 5 (p8 r.d 0) = false ∧ dmaBlocked r.d r.d.dstAddr (min 16 r.d.len) s8 = false ∧ (r.cal.toList).any (fun _ => true) = true)) = true)) ∧
    (memorySafe s9 ∧ shaped s9 ∧ s9.uhf.queue = [] ∧ s9.heldWr = [] ∧ live s9 = true ∧ s9.uhf.window = false ∧ s9.uhf.run = none ∧ ((List.take 1 s9.uhf.windows).any (fun w => decide (s9.uhf.windows = [w] ∧ w.1 - 7680 ≤ now (elapse 5195000 s9) ∧ now (elapse 5195000 s9) ≤ w.2)) = true)) ∧
    (memorySafe s10 ∧ shaped s10 ∧ s10.uhf.queue = [] ∧ s10.heldWr = [] ∧ live s10 = true ∧ s10.uhf.window = false ∧ ((s10.uhf.run.toList).any (fun r => decide (r.tx = false ∧ r.phase = UhfPhase.air ∧ r.start ≤ now (elapse 5195000 s10) ∧ r.dmaErr = false ∧ heard r.d (elapse 5195000 s10) = true)) = true) ∧ ((List.take 1 s10.uhf.windows).any (fun w => decide (s10.uhf.windows = [w] ∧ w.1 - 7680 ≤ now (elapse 5195000 s10) ∧ now (elapse 5195000 s10) ≤ w.2)) = true)) ∧
    (live s7 = true ∧ s7.uhf.window = false ∧ s7.uhf.lastEnd + 3840 ≤ now (elapse 5000100 s7) ∧ (meetsWindow (now (elapse 5000100 s7)) (now (elapse 5000100 s7) + 7680) (elapse 5000100 s7)).isNone = true) ∧
    (memorySafe s11 ∧ shaped s11 ∧ s11.uhf.queue = [] ∧ s11.heldWr = [] ∧ live s11 = true ∧ s11.uhf.run = none ∧ flag UHF_CTL.BG_CAL s11 = true ∧ uhfIdle (elapse 5000100 s11) = true ∧ s11.uhf.bgAt + secTicks (10 * fld UHF_CTL.BG_PERIOD s11) ≤ now (elapse 5000100 s11)) := by
  unfold serves memorySafe shaped
  refine ⟨?_, ?_, ?_, ?_, ?_, ?_⟩ <;> decide +kernel

/-- What RadioIsCalibratedAndGranted asks is met (GrantGovernsTheRadio). -/
theorem meets_GrantGovernsTheRadio :
    (live s12 = true ∧ memorySafe s12 ∧ shaped s12 ∧ s12.poll = none ∧ s12.uwb.exch = [] ∧ s12.uwb.cur = none ∧ s12.uwb.run = none ∧ s12.uhf.queue = [] ∧ coexEn s12 = false) ∧
    (live s13 = true ∧ memorySafe s13 ∧ shaped s13 ∧ s13.poll = none ∧ s13.uwb.exch = [] ∧ s13.uwb.cur = none ∧ s13.uwb.run = none ∧ s13.uhf.queue = [] ∧ coexEn s13 = true ∧ s13.uhf.windows = [] ∧ (s13.uhf.run.toList).any (fun r => decide (r.phase = UhfPhase.grant)) = true) ∧
    (s13.pins.coexGnt = false ∧ ((s13.uhf.run.toList).any (fun r => decide (r.phase = UhfPhase.grant ∧ heard r.d (elapse 5195000 s13) = true ∧ (if (r.tx && hasAt r.d) = true then r.start - usTicks 10 else r.req + coexTimeout s13) ≤ now (elapse 5195000 s13))) = true)) ∧
    (live s14 = true ∧ memorySafe s14 ∧ shaped s14 ∧ s14.poll = none ∧ s14.uwb.exch = [] ∧ s14.uwb.cur = none ∧ s14.uwb.run = none ∧ s14.uhf.queue = [] ∧ coexEn s14 = true ∧ coexNeed 3 s14 = true ∧ ((s14.uhf.run.toList).any (fun r => decide (r.tx = true ∧ r.phase = UhfPhase.air ∧ r.start ≤ now (elapse 5030000 s14) ∧ heard r.d (elapse 5030000 s14) = true)) = true)) ∧
    (live s15 = true ∧ memorySafe s15 ∧ shaped s15 ∧ s15.poll = none ∧ s15.uwb.exch = [] ∧ s15.uwb.cur = none ∧ s15.uwb.run = none ∧ s15.uhf.queue = [] ∧ coexEn s15 = true ∧ coexNeed 4 s15 = true ∧ ((s15.uhf.run.toList).any (fun r => decide (r.tx = false ∧ r.phase = UhfPhase.air ∧ r.start ≤ now (elapse 5030000 s15))) = true)) ∧
    (((s14.uhf.run.toList).any (fun r => decide (r.phase = UhfPhase.air ∧ now (elapse 5000100 s14) < r.start ∧ coexNeed (if r.tx = true then 3 else 4) s14 = true)) = true)) := by
  unfold memorySafe shaped
  refine ⟨?_, ?_, ?_, ?_, ?_, ?_⟩ <;> decide +kernel

end W07

namespace W07b

def uK : Slot := ⟨1, 0x40, 0, 2, List.replicate 16 7⟩
def uwb0 : State := setFld UHF_COEX_CTL.EN 0 (setFld (UWB_PORTn_CFG.EN 0) 1 (setFld (UWB_PORTn_CFG.EN 1) 1 (treed {base with cry := {base.cry with slots := base.cry.slots.set 1 uK}})))
def rng := desc 0x28 0x100 64 0 0xA000 [1,0,0,2,1,2,1,2,3,4,5,6,7,8,9,10]
def ex (a : Option Nat) (ds : Bool) (ph : ExPhase) : Exch := { answer := a, ds := ds, allSp1 := false, port := 1, chainB := false, chan := 5, xseq := 1, key := List.replicate 16 9, v := 2^32*5+4294967295, cls := 2, due := 5000000, limit := some 5300000, req := 5000000, phase := ph, start := 5000000, flags := 0, ra := 22400000, stsq := 90, rssi := 10, pdoa := noAngle, aoa := noAngle, cfo := 0, status := 0, range := 77 }
def withEx (l : List Exch) (s : State) : State := {s with uwb := {s.uwb with exch := l}}
def mic (x : Exch) (b : Bytes) : Bytes := b ++ frameMic x.key x.v b
def rep0 (x : Exch) : UwbReply := ⟨22400000, 95, true, -60, 120, none, mic x ([0x51, 1, 0,0x40,0x55,1] ++ List.replicate 8 0), true⟩
def rp0 (x : Exch) : UwbReport := ⟨95, true, false, mic x ([0x52, 1, 0,0x40,0x55,1] ++ leBytes 4 22390000 ++ List.replicate 4 0), true⟩
def an : Answer := { tb := 5000000, fslot := 1, slot := 1, source := 1, status := 0, reslot := 0, zone := 0xFFFF, counter := 5, frame := 0, mag := [], range := 0, rssi := 0, verified := true, authFail := false, judged := false, challenge := 0, b4 := 0, trig := none, ranging := true, out := none, score := 0, seat := false, role := 0, tag := 0, co := false }
def lfw : State := setFld UHF_COEX_CTL.EN 0 (setFld (UWB_PORTn_CFG.EN 0) 1 (setFld (UWB_PORTn_CFG.EN 1) 1 lfBase))
def pol : State := after (execDriveSequenceEnd 8000000 []) (after (execPollStart 5000000) {fly pollDesc lfw with lf := {lfw.lf with queue := [hostReq .poll pollDesc (p8 pollDesc 0) (p8 pollDesc 1) (p8 pollDesc 2) base]}})
def pol2 : State := (fun (s : State) => { s with poll := s.poll.map (fun p => { p with challenge := 5 }) }) (after (execResponseWindowOpen 12000000) pol)
def wp (f : Poll → Poll) (s : State) : State := {s with poll := s.poll.map f}
def ucs := [desc 0x29 0x100 64 0 0xA000 [0x2F,0,200,0,0,0,1,2], desc 0x29 0x90 16 0 0xA000 [0x7], desc 0x29 0x91 16 0 0xA000 [0x3F,9,200,0,8,0,1,2], desc 0x29 0x100 64 0 0xA000 [0x2B,5,200,0,0,0,1,2]]
def um : List UwbMeas := [⟨30, 64, 20000, 500, 90, 12⟩, ⟨31, 20, 3, -500, 90, 12⟩]
def ucalling : List State := ucs.map (fun d => (fun (s : State) => {s with uwb := {s.uwb with run := s.uwb.run.map (fun r => {r with calStop := some 5195000})}}) (after (execUwbCal 5000100 d um 25) (fly d uwb0)))
def samples0 : List (State) := ucs.map (fun d => fly d uwb0) ++ ucalling
def s1 : State := fly rng uwb0
def d1 : Desc := rng
def v1 : ℤ := 25
def v2 : Slot := uK
def s2 : State := withEx [ex (some 0) true ExPhase.waiting] ({ uwb0 with uwb := { uwb0.uwb with walk := [{ go := 0, come := 0, st := 3 }] } })
def s3 : State := withEx [ex (some 0) true ExPhase.poll] uwb0
def v3 : UwbReply := rep0 (ex (some 0) true ExPhase.poll)
def s4 : State := withEx [ex (some 0) false ExPhase.poll] uwb0
def s5 : State := withEx [ex (some 0) true ExPhase.final] uwb0
def v4 : UwbReport := rp0 (ex (some 0) true ExPhase.poll)
def s6 : State := wp (fun p => { p with answers := [an] }) (withEx [ex (some 0) true ExPhase.done] pol2)
def s7 : State := wp (fun p => { p with gateRange := true }) pol2
def s8 : State := uwb0
def s9 : State := { uwb0 with uwb := { uwb0.uwb with walk := [{ go := 0, come := 0, st := 3 }] } }
def s10 : State := fly (desc 41 256 64 0 40960 [47, 0, 200, 0, 0, 0, 1, 2]) uwb0
def d2 : Desc := desc 41 256 64 0 40960 [47, 0, 200, 0, 0, 0, 1, 2]
def v5 : List UwbMeas := []
def s11 : State := samples0.get ⟨4, by decide +kernel⟩

/-- What RangingRuns asks is met (RangingStarts). -/
theorem meets_RangingStarts :
    (live s1 = true ∧ memorySafe s1 ∧ shaped s1 ∧ s1.heldWr = [] ∧ serves 0 d1 s1 ∧ isRow 40 d1 = true ∧ rangeParBad d1 = none ∧ targetRetired d1 s1 = false ∧ keyFor (p16 d1 4) 6 (fun v2 => v2 == 1) s1 = some (1, v2) ∧ s1.uwb.queue = [] ∧ s1.uwb.run = none ∧ s1.uwb.hold = false ∧ rangePorts d1.target s1 = 0 :: (List.drop 1 (rangePorts d1.target s1)) ∧ portRetired 0 s1 = false ∧ hasAt d1 = false ∧ coexOk 2 s1 = true) ∧
    (live s2 = true ∧ memorySafe s2 ∧ shaped s2 ∧ s2.heldWr = [] ∧ hostOnAir (elapse 0 s2) = false ∧ calRuns s2 = false ∧ (((frontExch s2).toList).any (fun x => decide (x.phase = ExPhase.waiting ∧ coexOk x.cls s2 = true ∧ tunedFor x (elapse 0 s2) = true ∧ max (max x.due s2.uwb.free) ((standing (now (elapse 0 s2)) s2.uwb.walk).1 + usTicks 2) ≤ now (elapse 0 s2) ∧ (∀ (l : Nat), x.limit = some l → max (max x.due s2.uwb.free) ((standing (now (elapse 0 s2)) s2.uwb.walk).1 + usTicks 2) ≤ l))) = true)) := by
  unfold serves memorySafe shaped
  refine ⟨?_, ?_⟩ <;> decide +kernel

/-- What RangingRuns asks is met (ExchangesRange). -/
theorem meets_ExchangesRange :
    (live s3 = true ∧ memorySafe s3 ∧ shaped s3 ∧ (s3.uwb.hold = false ∨ s3.uhf.windows ≠ []) ∧ stsOk v3.stsq v3.peakOk s3 = true ∧ (((airExch s3).toList).any (fun x => decide (x.answer ≠ none ∧ x.phase = ExPhase.poll ∧ replyTime 350 x (elapse (5000000 + 360 * 384 / 10) s3) = true ∧ x.ds = true)) = true)) ∧
    (live s4 = true ∧ memorySafe s4 ∧ shaped s4 ∧ (s4.uwb.hold = false ∨ s4.uhf.windows ≠ []) ∧ stsOk v3.stsq v3.peakOk s4 = true ∧ v3.fcsOk = true ∧ byteAt 0 v3.psdu = 81 ∧ (((airExch s4).toList).any (fun x => decide (x.answer ≠ none ∧ x.phase = ExPhase.poll ∧ replyTime 350 x (elapse (5000000 + 360 * 384 / 10) s4) = true ∧ x.ds = false ∧ slice 14 4 v3.psdu = frameMic x.key x.v v3.psdu)) = true)) ∧
    (live s5 = true ∧ memorySafe s5 ∧ shaped s5 ∧ (s5.uwb.hold = false ∨ s5.uhf.windows ≠ []) ∧ stsOk v4.stsq v4.peakOk s5 = true ∧ v4.fcsOk = true ∧ byteAt 0 v4.psdu = 82 ∧ (((airExch s5).toList).any (fun x => decide (x.answer ≠ none ∧ x.phase = ExPhase.final ∧ x.ds = true ∧ replyTime 1050 x (elapse (5000000 + 1060 * 384 / 10) s5) = true ∧ slice 14 4 v4.psdu = frameMic x.key x.v v4.psdu)) = true)) ∧
    ((((airExch s3).toList).any (fun x => decide (x.answer ≠ none ∧ x.start + usTicks (if x.phase = ExPhase.poll then 360 else 1060) ≤ now (elapse (5000000 + 360 * 384 / 10) s3))) = true)) := by
  unfold memorySafe shaped
  refine ⟨?_, ?_, ?_, ?_⟩ <;> decide +kernel

/-- What UwbCalibratesAndDelivers asks is met (RangesArriveAndRadioRests). -/
theorem meets_RangesArriveAndRadioRests :
    (live s6 = true ∧ memorySafe s6 ∧ shaped s6 ∧ (s6.uwb.hold = false ∨ s6.uhf.windows ≠ []) ∧ ((s6.poll.toList).any (fun p => decide ((((List.find? (fun e => e.phase == ExPhase.done && decide (e.due ≤ now (elapse 5000100 s6))) s6.uwb.exch).toList).any (fun x => decide (x.status ≠ stCoexAbort ∧ (x.answer.toList).any (fun k => decide ((p.answers[k]?.toList).any (fun _ => true) = true)) = true)) = true))) = true)) ∧
    (live s7 = true ∧ memorySafe s7 ∧ shaped s7 ∧ s7.part ≠ Part.blv8032n ∧ hostOnAir (elapse 5000100 s7) = false ∧ calRuns s7 = false ∧ s7.uwb.cur = none ∧ s7.heldWr = [] ∧ ((s7.poll.toList).any (fun p => decide (p.gateRange = true ∧ p.warmed = false ∧ p.window ≠ none)) = true)) ∧
    (live s8 = true ∧ memorySafe s8 ∧ shaped s8 ∧ s8.uwb.hold = false ∧ s8.uwb.run = none ∧ s8.uwb.queue = [] ∧ s8.uhf.windows = [] ∧ pollExchOpen s8 = false ∧ s8.uwb.lastEnd + 3840 ≤ now (elapse 5000100 s8)) ∧
    (live s9 = true ∧ memorySafe s9 ∧ shaped s9 ∧ flag UWB_CTL.BG_CAL s9 = true ∧ s9.part ≠ Part.blv8032n ∧ (uwbState (elapse 50000000000 s9) = 2 ∨ uwbState (elapse 50000000000 s9) = 3) ∧ s9.uwb.hold = false ∧ s9.uwb.run = none ∧ s9.uwb.queue = [] ∧ pollExchOpen s9 = false ∧ s9.uhf.windows = [] ∧ s9.uwb.bgAt + secTicks (10 * fld UWB_CTL.BG_PERIOD s9) ≤ now (elapse 50000000000 s9)) := by
  unfold memorySafe shaped
  refine ⟨?_, ?_, ?_, ?_⟩ <;> decide +kernel

/-- What UwbCalibratesAndDelivers asks is met (UwbCalAppliesDelays). -/
theorem meets_UwbCalAppliesDelays :
    (memorySafe s10 ∧ shaped s10 ∧ s10.heldWr = [] ∧ s10.uwb.queue = [] ∧ s10.uwb.hold = false ∧ serves 0 d2 s10 ∧ isRow 41 d2 = true ∧ uwbCalParBad d2 = none ∧ s10.uwb.run = none ∧ rangePorts d2.target s10 ≠ [] ∧ (calRefs d2 = true → (keyFor (p16 d2 6) 6 (fun x => x == 1) s10).isSome = true ∧ coexOk 5 s10 = true)) ∧
    (memorySafe s11 ∧ shaped s11 ∧ s11.heldWr = [] ∧ s11.uwb.queue = [] ∧ s11.uwb.hold = false ∧ live { s11 with uwb := { s11.uwb with run := none } } = true ∧ now (elapse 5195000 s11) ≤ 5195000 ∧ s11.poll = none ∧ ((s11.uwb.run.toList).any (fun r => decide (r.calStop = some (now (elapse 5195000 s11)) ∧ heard r.d (elapse 5195000 s11) = true ∧ bit 6 (p8 r.d 0) = false ∧ dmaBlocked r.d r.d.dstAddr (min (16 * r.ports.length) r.d.len) s11 = false ∧ (r.cal.toList).any (fun _ => true) = true)) = true)) := by
  unfold serves memorySafe shaped
  refine ⟨?_, ?_⟩ <;> decide +kernel

end W07b

namespace W08

def tok1 : Token := ⟨0, 0x1111, List.replicate 16 5, 10, 0, false⟩
def flockA : Flock := { vid := 0x123456, tag := 3, slots := [some tok1, none, some {tok1 with role := 1}] }
def gts : List Gate := [⟨1, 1, 31, 4, 0xFFFF, 0, 1⟩, ⟨3, 0, 31, 12, 0xFFFF, 1, 0⟩, ⟨1,0,31,12,0xFFFF,2,0⟩]
def acts0 : List ActEntry := [⟨1,3,5,1⟩, ⟨2,1,0,0⟩, ⟨2,2,0,0⟩]
def tm0 : Template := ⟨5, 0, 0, 200, 0xFFFF, 10, 500, 0xFFFF, List.replicate 16 0x41⟩
def zmap : ZoneMap := ⟨1, [tm0, {tm0 with flags := 3, frame := 0}]⟩
def lfw : State := (fun (s : State) => {s with flk := {s.flk with flock := some flockA}, vrd := {s.vrd with rules := some ⟨1, gts, acts0⟩, map := some zmap}}) (setFld FLK_VID.VID 0x123456 (setFld FLK_FLOCK.EPOCH 9 (setFld UHF_COEX_CTL.EN 0 (setFld (UWB_PORTn_CFG.EN 0) 1 (setFld (UWB_PORTn_CFG.EN 1) 1 lfBase)))))
def pol : State := after (execDriveSequenceEnd 5655000 []) (after (execPollStart 5000000) {fly pollDesc lfw with lf := {lfw.lf with queue := [hostReq .poll pollDesc (p8 pollDesc 0) (p8 pollDesc 1) (p8 pollDesc 2) base]}})
def pol2 : State := (fun (s : State) => { s with poll := s.poll.map (fun p => { p with challenge := 5 }) }) (after (execResponseWindowOpen 5660480) pol)
def wp (f : Poll → Poll) (s : State) : State := {s with poll := s.poll.map f}
def w0 : Nat := ((pol2.poll.bind (·.window)).getD 0)
def p0 : Poll := (match pol2.poll with | some p => p | none => {challenge := 0, rseq := 0, s := 0, answers := [], collided := [], synced := [], window := none, ended := [], shut := false, heard := false, coils := [], coilRan := false, vidSeen := false, concurrent := false, pinStop := false, header := none, paused := false, port := none, chainB := false, gateRange := false, gateFf := false, gateImmo := false, warmed := false, denied := false, rxFrom := 0})
def withCrc (b : Bytes) : Bytes := b ++ beBytes 2 (crc16 b)
def fr0 (vid fs epoch cnt : Nat) : Bytes := beBytes 3 vid ++ [byteOf (fs*4 + p0.rseq), byteOf 0, byteOf epoch] ++ beBytes 2 cnt ++ List.replicate 12 0x11
def good (fs cnt : Nat) : Bytes := let h := fr0 0x123456 fs 9 cnt; withCrc (h ++ (cmac tok1.key ([1] ++ beBytes 8 p0.challenge ++ h)).take 8)
def an : Answer := { tb := 5000000, fslot := 0, slot := 0, source := 1, status := 0, reslot := 0, zone := 0xFFFF, counter := 5, frame := 0, mag := List.replicate 16 1, range := 0, rssi := 0, verified := true, authFail := false, judged := false, challenge := 0, b4 := 0, trig := some 5000000, ranging := false, out := none, score := 0, seat := false, role := 0, tag := 3, co := false }
def coilAn := {an with source := 0x80}
def cr : CoilRun := ⟨0,0,0,(0x123456,9),none,false,0,false,false⟩
def crA : CoilRun := ⟨0,1,77,(0x123456,9),some 5000000,true,w0,false,false⟩
def up (cnt : Nat) (fs : Nat) : Bytes := let h := [byteOf (4*fs), 9] ++ beBytes 2 cnt; let m := (cmac tok1.key ([2] ++ beBytes 8 77 ++ beBytes 3 0x123456 ++ [0] ++ [byteOf (4*fs), byteOf 9] ++ beBytes 2 cnt)).take 8; let x := h ++ m; [0x7E] ++ x ++ beBytes 2 (crc16 x)
def step3 : Nat := coilStep3 crA pol2
def samples0 : List (State) := ([[an], [{an with out := some (0, 3000, true), range := 3000}], [{an with out := some (0, 9000, true), range := 9000}], [{an with out := some (stNoResponse, 0, true)}], [coilAn], [{an with slot := 1, tag := 2}], [{an with judged := true, trig := none}, {an with mag := List.replicate 16 63}]].map (fun l => wp (fun p => {p with answers := l, port := some 0}) pol2)).flatMap (fun (s : State) => [s, setFld FLK_START_CTL.EN 1 s, setFld VRD_CTL.EVT 0 s, setFld FLK_START_CTL.EN 1 (setFld VRD_CTL.EVT 0 s), setFld VRD_CTL.EVT 1 {s with vrd := {s.vrd with rules := none}}, setFld VRD_CTL.EVT 0 {s with vrd := {s.vrd with rules := some ⟨1, [⟨1,0,31,12,0xFFFF,2,0⟩], acts0⟩}},setFld VRD_CTL.EVT 0 {s with vrd := {s.vrd with rules := some ⟨1, [⟨1,0,31,12,0xFFFF,0,0⟩], acts0⟩}}])
def samples1 : List (LfRun) := pol2.lf.run.toList
def s1 : State := pol2
def s2 : State := wp (fun p => { p with synced := [(0, 0)] }) pol2
def v1 : ObaneFrame := { ch := 0, bytes := List.replicate 30 3, rssi := -60, spread := 3 }
def v2 : ObaneFrame := { ch := 0, bytes := withCrc (fr0 1193047 0 9 11 ++ List.replicate 8 1), rssi := -60, spread := 3 }
def v3 : ObaneFrame := { ch := 0, bytes := good 0 11, rssi := -60, spread := 3 }
def v4 : ObaneFrame := { ch := 0, bytes := good 0 9, rssi := -60, spread := 3 }
def v5 : ObaneFrame := { ch := 0, bytes := withCrc (fr0 1193046 0 9 11 ++ List.replicate 8 1), rssi := -60, spread := 3 }
def s3 : State := wp (fun p => { p with answers := [an], port := some 0 }) pol2
def s4 : State := samples0.get ⟨4, by decide +kernel⟩
def s5 : State := samples0.get ⟨5, by decide +kernel⟩
def s6 : State := wp (fun p => { p with coils := [cr] }) pol2
def v6 : LfRun := samples1.get ⟨0, by decide +kernel⟩
def v7 : Poll := { p0 with coils := [cr] }
def v8 : CoilRun := cr
def s7 : State := wp (fun p => { p with coils := [crA] }) pol2
def v9 : Poll := { p0 with coils := [crA] }
def v10 : CoilRun := crA
def s8 : State := wp (fun p => { p with coils := [{ crA with tries := 2 }] }) pol2
def v11 : Poll := { p0 with coils := [{ crA with tries := 2 }] }
def v12 : CoilRun := { crA with tries := 2 }
def v13 : Bytes := [1, 2, 3]
def v14 : Bytes := up 11 0

/-- What AnswersAreChecked asks is met. -/
theorem meets_AnswersAreChecked :
    (live s1 = true ∧ memorySafe s1 ∧ shaped s1 ∧ s1.pwr.st ≠ PState.watch ∧ s1.nv.ledgerReady = true ∧ s1.flk.pend = none ∧ onChannel 0 s1 = true ∧ 30720 ≤ 40000 ∧ 40000 ≤ 44544 ∧ ((s1.poll.toList).any (fun p => decide (receiving p (elapse (w0 + 40000) s1) = true ∧ slotNow p (elapse (w0 + 40000) s1) = some (0, 40000) ∧ (0, 0) ∉ p.synced)) = true) ∧ (s1.lf.run.toList).any (fun _ => true) = true) ∧
    ((0 < 30720 ∨ 44544 < 0) ∧ ((s1.poll.toList).any (fun p => decide (receiving p (elapse 0 s1) = true ∧ slotNow p (elapse 0 s1) = some (0, 0) ∧ (0, 0) ∉ p.synced)) = true)) ∧
    (live s2 = true ∧ memorySafe s2 ∧ shaped s2 ∧ s2.pwr.st ≠ PState.watch ∧ s2.nv.ledgerReady = true ∧ s2.flk.pend = none ∧ onChannel 0 s2 = true ∧ ((s2.poll.toList).any (fun p => decide (receiving p (elapse 0 s2) = true ∧ slotNow p (elapse 0 s2) = some (0, 0) ∧ (0, 0) ∈ p.synced ∧ (0, 0) ∉ p.collided)) = true) ∧ (s2.lf.run.toList).any (fun _ => true) = true) ∧
    (270720 ≤ 280000 ∧ 280000 ≤ 284544 ∧ obCrcOk v1.bytes = false ∧ v1.spread ≤ 6 ∧ ((s2.poll.toList).any (fun p => decide (receiving p (elapse (w0 + 280000) s2) = true ∧ slotNow p (elapse (w0 + 280000) s2) = some (0, 280000) ∧ (0, v1.ch) ∈ p.synced ∧ (0, v1.ch) ∉ p.ended ∧ (0, v1.ch) ∉ p.collided)) = true)) ∧
    (obCrcOk v2.bytes = true ∧ obVid v2.bytes ≠ fld FLK_VID.VID s2 ∧ ((s2.poll.toList).any (fun p => decide (receiving p (elapse (w0 + 280000) s2) = true ∧ slotNow p (elapse (w0 + 280000) s2) = some (0, 280000) ∧ (0, v2.ch) ∈ p.synced ∧ (0, v2.ch) ∉ p.ended)) = true)) ∧
    (obCrcOk v3.bytes = true ∧ obVid v3.bytes = fld FLK_VID.VID s2 ∧ obEpoch v3.bytes = fld FLK_FLOCK.EPOCH s2 ∧ ((s2.lf.run.toList).any (fun r => decide (((s2.poll.toList).any (fun p => decide (receiving p (elapse (w0 + 280000) s2) = true ∧ slotNow p (elapse (w0 + 280000) s2) = some (0, 280000) ∧ (0, v3.ch) ∈ p.synced ∧ (0, v3.ch) ∉ p.ended ∧ positionOk r { p with ended := p.ended ++ [(0, v3.ch)] } (0, v3.ch) v3.bytes = true ∧ p.pinStop = false ∧ (p.answers.any fun y => y.verified && y.slot == obFslot v3.bytes) = false ∧ (((tokenOf (obFslot v3.bytes) s2).toList).any (fun x => decide (obMac v3.bytes = List.take 8 (cmac x.key ([1] ++ beBytes 8 p.challenge ++ List.take 20 v3.bytes)) ∧ x.role ≠ 4 ∧ counterAhead (obCounter v3.bytes) x.last = true)) = true))) = true))) = true)) ∧
    (obCrcOk v4.bytes = true ∧ obVid v4.bytes = fld FLK_VID.VID s2 ∧ obEpoch v4.bytes = fld FLK_FLOCK.EPOCH s2 ∧ ((s2.lf.run.toList).any (fun r => decide (((s2.poll.toList).any (fun p => decide (receiving p (elapse (w0 + 280000) s2) = true ∧ slotNow p (elapse (w0 + 280000) s2) = some (0, 280000) ∧ (0, v4.ch) ∈ p.synced ∧ (0, v4.ch) ∉ p.ended ∧ positionOk r { p with ended := p.ended ++ [(0, v4.ch)] } (0, v4.ch) v4.bytes = true ∧ p.pinStop = false ∧ (((tokenOf (obFslot v4.bytes) s2).toList).any (fun x => decide (obMac v4.bytes = List.take 8 (cmac x.key ([1] ++ beBytes 8 p.challenge ++ List.take 20 v4.bytes)) ∧ x.role ≠ 4 ∧ counterAhead (obCounter v4.bytes) x.last = false)) = true))) = true))) = true)) ∧
    (obCrcOk v5.bytes = true ∧ obVid v5.bytes = fld FLK_VID.VID s2 ∧ obEpoch v5.bytes = fld FLK_FLOCK.EPOCH s2 ∧ ((s2.lf.run.toList).any (fun r => decide (((s2.poll.toList).any (fun p => decide (receiving p (elapse (w0 + 280000) s2) = true ∧ slotNow p (elapse (w0 + 280000) s2) = some (0, 280000) ∧ (0, v5.ch) ∈ p.synced ∧ (0, v5.ch) ∉ p.ended ∧ positionOk r { p with ended := p.ended ++ [(0, v5.ch)] } (0, v5.ch) v5.bytes = true ∧ p.pinStop = false ∧ ((tokenOf (obFslot v5.bytes) s2).toList).any (fun x => decide (obMac v5.bytes ≠ List.take 8 (cmac x.key ([1] ++ beBytes 8 p.challenge ++ List.take 20 v5.bytes)))) = true)) = true))) = true)) := by
  unfold memorySafe shaped
  refine ⟨?_, ?_, ?_, ?_, ?_, ?_, ?_, ?_⟩ <;> decide +kernel

/-- What VerdictsAreGiven asks is met. -/
theorem meets_VerdictsAreGiven :
    (live s3 = true ∧ memorySafe s3 ∧ shaped s3 ∧ s3.nv.ledgerReady = true ∧ s3.flk.pend = none ∧ ((s3.lf.run.toList).any (fun r => decide (((s3.poll.toList).any (fun p => decide (p.shut = false ∧ ((nextTrigger p.answers).toList).any (fun k => decide ((p.answers[k]?.toList).any (fun a => decide (((a.out.isNone && !p.pinStop && (candidates s3.vrd.rules (passIn r p a s3) (classify s3.vrd.map (fld VRD_CTL.MARGIN s3) (passIn r p a s3).coil (passIn r p a s3).frame (passIn r p a s3).target (passIn r p a s3).mag) s3).any fun g => g.2.needs (passIn r p a s3).ff) && rangeable (passIn r p a s3) (classify s3.vrd.map (fld VRD_CTL.MARGIN s3) (passIn r p a s3).coil (passIn r p a s3).frame (passIn r p a s3).target (passIn r p a s3).mag)) = true)) = true)) = true)) = true))) = true)) ∧
    (live s4 = true ∧ memorySafe s4 ∧ shaped s4 ∧ s4.nv.ledgerReady = true ∧ s4.flk.pend = none ∧ fld VRD_CTL.EVT s4 ≠ 2 ∧ ((s4.lf.run.toList).any (fun r => decide (((s4.poll.toList).any (fun p => decide (p.shut = false ∧ (((nextTrigger p.answers).toList).any (fun k => decide (((p.answers[k]?.toList).any (fun a => decide (((a.out.isNone && !p.pinStop && (candidates s4.vrd.rules (passIn r p a s4) (classify s4.vrd.map (fld VRD_CTL.MARGIN s4) (passIn r p a s4).coil (passIn r p a s4).frame (passIn r p a s4).target (passIn r p a s4).mag) s4).any fun g => g.2.needs (passIn r p a s4).ff) && rangeable (passIn r p a s4) (classify s4.vrd.map (fld VRD_CTL.MARGIN s4) (passIn r p a s4).coil (passIn r p a s4).frame (passIn r p a s4).target (passIn r p a s4).mag)) = false ∧ (passVerdict (passIn r p a s4) (classify s4.vrd.map (fld VRD_CTL.MARGIN s4) (passIn r p a s4).coil (passIn r p a s4).frame (passIn r p a s4).target (passIn r p a s4).mag) (candidates s4.vrd.rules (passIn r p a s4) (classify s4.vrd.map (fld VRD_CTL.MARGIN s4) (passIn r p a s4).coil (passIn r p a s4).frame (passIn r p a s4).target (passIn r p a s4).mag) s4) p a s4).acting = [] ∧ (passVerdict (passIn r p a s4) (classify s4.vrd.map (fld VRD_CTL.MARGIN s4) (passIn r p a s4).coil (passIn r p a s4).frame (passIn r p a s4).target (passIn r p a s4).mag) (candidates s4.vrd.rules (passIn r p a s4) (classify s4.vrd.map (fld VRD_CTL.MARGIN s4) (passIn r p a s4).coil (passIn r p a s4).frame (passIn r p a s4).target (passIn r p a s4).mag) s4) p a s4).dropped = [] ∧ (passVerdict (passIn r p a s4) (classify s4.vrd.map (fld VRD_CTL.MARGIN s4) (passIn r p a s4).coil (passIn r p a s4).frame (passIn r p a s4).target (passIn r p a s4).mag) (candidates s4.vrd.rules (passIn r p a s4) (classify s4.vrd.map (fld VRD_CTL.MARGIN s4) (passIn r p a s4).coil (passIn r p a s4).frame (passIn r p a s4).target (passIn r p a s4).mag) s4) p a s4).st ≠ stRelay)) = true))) = true))) = true))) = true)) ∧
    (live s5 = true ∧ memorySafe s5 ∧ shaped s5 ∧ s5.nv.ledgerReady = true ∧ s5.flk.pend = none ∧ fld VRD_CTL.EVT s5 = 0 ∧ ((s5.lf.run.toList).any (fun r => decide (((s5.poll.toList).any (fun p => decide (p.shut = false ∧ (((nextTrigger p.answers).toList).any (fun k => decide (((p.answers[k]?.toList).any (fun a => decide (((a.out.isNone && !p.pinStop && (candidates s5.vrd.rules (passIn r p a s5) (classify s5.vrd.map (fld VRD_CTL.MARGIN s5) (passIn r p a s5).coil (passIn r p a s5).frame (passIn r p a s5).target (passIn r p a s5).mag) s5).any fun g => g.2.needs (passIn r p a s5).ff) && rangeable (passIn r p a s5) (classify s5.vrd.map (fld VRD_CTL.MARGIN s5) (passIn r p a s5).coil (passIn r p a s5).frame (passIn r p a s5).target (passIn r p a s5).mag)) = false ∧ (passVerdict (passIn r p a s5) (classify s5.vrd.map (fld VRD_CTL.MARGIN s5) (passIn r p a s5).coil (passIn r p a s5).frame (passIn r p a s5).target (passIn r p a s5).mag) (candidates s5.vrd.rules (passIn r p a s5) (classify s5.vrd.map (fld VRD_CTL.MARGIN s5) (passIn r p a s5).coil (passIn r p a s5).frame (passIn r p a s5).target (passIn r p a s5).mag) s5) p a s5).acting ≠ [])) = true))) = true))) = true))) = true)) := by
  unfold memorySafe shaped
  refine ⟨?_, ?_, ?_⟩ <;> decide +kernel

/-- What CoilsExchange asks is met. -/
theorem meets_CoilsExchange :
    (live s6 = true ∧ memorySafe s6 ∧ shaped s6 ∧ 0 < 4 ∧ coilOf 0 s6 = some (v6, v7, v8) ∧ v7.shut = false ∧ drawFails s6 = none ∧ v8.active = false ∧ v8.done = false ∧ v8.tries = 0 ∧ coilCheck 30 false = 1) ∧
    (coilCheck 0 false ≠ 1) ∧
    (live s7 = true ∧ memorySafe s7 ∧ shaped s7 ∧ coilOf 0 s7 = some (v6, v9, v10) ∧ v9.shut = false ∧ drawFails s7 = none ∧ v10.active = true ∧ coilStep3 v10 s7 + coilTicks 525 s7 ≤ now (elapse (step3 + coilTicks 530 pol2) s7) ∧ v10.tries < 2) ∧
    (live s8 = true ∧ memorySafe s8 ∧ shaped s8 ∧ coilOf 0 s8 = some (v6, v11, v12) ∧ v11.shut = false ∧ drawFails s8 = none ∧ v12.active = true ∧ coilStep3 v12 s8 + coilTicks 525 s8 ≤ now (elapse (step3 + coilTicks 530 pol2) s8) ∧ 2 ≤ v12.tries) ∧
    (coilStep3 v10 s7 + coilTicks 3965 s7 ≤ now (elapse (step3 + coilTicks 4000 pol2) s7) ∧ now (elapse (step3 + coilTicks 4000 pol2) s7) ≤ coilStep3 v10 s7 + coilTicks 4365 s7 ∧ (List.length v13 ≠ 15 ∨ byteAt 0 v13 ≠ 126 ∨ crc16 (slice 1 12 v13) ≠ beNat (slice 13 2 v13))) ∧
    (List.length v14 = 15 ∧ byteAt 0 v14 = 126 ∧ crc16 (slice 1 12 v14) = beNat (slice 13 2 v14) ∧ s7.pwr.st ≠ PState.watch ∧ s7.nv.ledgerReady = true ∧ s7.flk.pend = none ∧ v9.pinStop = false ∧ byteAt 2 v14 = fld FLK_FLOCK.EPOCH s7 ∧ (v9.answers.any fun y => y.verified && y.slot == byteAt 1 v14 / 4) = false ∧ (((tokenOf (byteAt 1 v14 / 4) s7).toList).any (fun x => decide (x.role ≠ 4 ∧ slice 5 8 v14 = List.take 8 (cmac x.key ([2] ++ beBytes 8 v10.challenge ++ beBytes 3 v10.head.1 ++ [byteOf 0] ++ slice 1 4 v14)) ∧ counterAhead (beNat (slice 3 2 v14)) x.last = true)) = true)) := by
  unfold memorySafe shaped
  refine ⟨?_, ?_, ?_, ?_, ?_, ?_⟩ <;> decide +kernel

end W08

namespace W09

def tx : Bytes := [0,1,2,3,4,5,6,7,8,9,10,11,12,13,14,15].map byteOf
def gts : List Gate := [⟨1, 1, 31, 4, 0xFFFF, 0, 1⟩, ⟨3, 0, 31, 12, 0xFFFF, 1, 0⟩]
def zmap : ZoneMap := ⟨1, [⟨5, 0, 0, 200, 0xFFFF, 10, 500, 0xFFFF, List.replicate 16 0x41⟩]⟩
def rset : RuleSet := ⟨1, gts, [⟨1,3,5,1⟩, ⟨2,1,0,0⟩]⟩
def macK : Slot := ⟨1, 0x04, 0, 2, tx⟩
def base9 : State := treed {base with cry := {base.cry with slots := base.cry.slots.set 1 macK}, vrd := {base.vrd with rules := some rset, map := some zmap}}
def rb0 : Bytes := leBytes 4 0xB1E50001 ++ leBytes 4 5 ++ leBytes 2 1 ++ [1,0,0,0,0,0] ++ ([1,0,31,4,0xFF,0xFF,0,0] ++ leBytes 4 1 ++ [0,0,0,0]) ++ [1,3,5,0,1,0,0,0]
def mb0 : Bytes := leBytes 4 0xB1E50002 ++ leBytes 4 5 ++ leBytes 2 1 ++ [0,0,0,0,0,0] ++ ([5,0,0,200,0xFF,0xFF,10,0,20,0,0xFF,0xFF,0,0,0,0] ++ List.replicate 16 0x41)
def tg (k : Bytes) (b : Bytes) : Bytes := b ++ cmac k b
def ld (op a k : Nat) (n : Nat) := desc op 0 n 0x9000 0 ([a, 0] ++ [k % 256, k / 256])
def evin : Bytes := [0,0,0,1] ++ leBytes 2 0x100 ++ leBytes 2 0xFFFF ++ leBytes 4 0xFFFFFFFF ++ List.replicate 16 1 ++ [0,0,0,0]
def encK : Slot := ⟨1, 0x07FF, 0, 2, tx⟩
def b9 : State := {base with cry := {base.cry with slots := base.cry.slots.set 1 encK}}
def cr (m dir tl ivl aad n : Nat) (iv : List Nat) (dst : Nat) : Desc := desc 0x40 0x201 n 0x9000 dst ([m, dir, tl, ivl, aad, 0, 0, 0] ++ iv)
def iv (n : Nat) : List Nat := (List.range n).map (· + 1)
def pay : Bytes := List.replicate 100 (byteOf 0xA5)
def srcFor (d : Desc) : Bytes := if cDir d = 1 then (cryptCore tx {d with par := d.par.set 1 0, len := if p8 d 0 = 6 then d.len - 8 else if p8 d 0 = 1 then 20 else d.len} (if p8 d 0 = 1 then pay.take 20 else if p8 d 0 = 6 then pay.take (d.len - 8) else if p8 d 0 = 5 then pay.take d.len else pay.take (d.len + cAad d))).out else pay
def full (d : Desc) : Bytes := if cDir d = 1 then (if p8 d 0 = 5 then pay.take d.len ++ srcFor d else pay.take (cAad d) ++ srcFor d) else pay
def tokE (i r id : Nat) : Bytes := [byteOf i, byteOf r, 0,0] ++ leBytes 4 id ++ List.replicate 16 7 ++ List.replicate 8 0
def stg : Desc := {cr 3 0x81 16 12 32 64 (iv 12) 0 with src := .drover}
def stgB : Bytes := let a := pay.take 32; let pt := tokE 3 1 77 ++ tokE 0 4 78; let ct := gcmCrypt tx (cIv stg) pt; a ++ ct ++ (gcmTag tx (cIv stg) a ct)
def learnD : Desc := desc 0x38 0 1 0x9000 0 []
def drv (b : Bytes) (s : State) : State := {s with droverMem := mwrite zeroByte s.droverMem 0x9000 b}
def stgS (b : Bytes) : State := fly stg (fly learnD (drv b b9))
def s1 : State := fly (ld 48 0 65535 (List.length (tg tx rb0))) (host 36864 (tg tx rb0) base9)
def d1 : Desc := ld 48 0 65535 (List.length (tg tx rb0))
def s2 : State := fly (ld 49 0 65535 (List.length (tg tx mb0))) (host 36864 (tg tx mb0) base9)
def d2 : Desc := ld 49 0 65535 (List.length (tg tx mb0))
def s3 : State := fly (desc 50 0 32 36864 40960 [0]) (host 36864 evin base9)
def d3 : Desc := desc 50 0 32 36864 40960 [0]
def s4 : State := fly (cr 0 0 0 0 0 32 [] 40960) (host 36864 (full (cr 0 0 0 0 0 32 [] 40960)) b9)
def d4 : Desc := cr 0 0 0 0 0 32 [] 40960
def v1 : Slot := encK
def s5 : State := fly (cr 1 0 0 16 0 20 (iv 16) 40960) (host 36864 (full (cr 1 0 0 16 0 20 (iv 16) 40960)) b9)
def d5 : Desc := cr 1 0 0 16 0 20 (iv 16) 40960
def s6 : State := fly (cr 2 0 0 16 0 20 (iv 16) 40960) (host 36864 (full (cr 2 0 0 16 0 20 (iv 16) 40960)) b9)
def d6 : Desc := cr 2 0 0 16 0 20 (iv 16) 40960
def s7 : State := fly (cr 3 0 16 12 5 20 (iv 12) 40960) (host 36864 (full (cr 3 0 16 12 5 20 (iv 12) 40960)) b9)
def d7 : Desc := cr 3 0 16 12 5 20 (iv 12) 40960
def s8 : State := fly (cr 4 0 8 13 5 20 (iv 13) 40960) (host 36864 (full (cr 4 0 8 13 5 20 (iv 13) 40960)) b9)
def d8 : Desc := cr 4 0 8 13 5 20 (iv 13) 40960
def s9 : State := fly (cr 5 0 16 0 0 20 [] 40960) (host 36864 (full (cr 5 0 16 0 0 20 [] 40960)) b9)
def d9 : Desc := cr 5 0 16 0 0 20 [] 40960
def s10 : State := fly (cr 6 0 0 0 0 16 [] 40960) (host 36864 (full (cr 6 0 0 0 0 16 [] 40960)) b9)
def d10 : Desc := cr 6 0 0 0 0 16 [] 40960
def s11 : State := stgS stgB
def d11 : Desc := stg

/-- What RuleAndMapSetsLoadAndSwap asks is met (RulesAndMapsLoad). -/
theorem meets_RulesAndMapsLoad :
    (serves 1 d1 s1 ∧ s1.nv.wornRecs = [] ∧ s1.nv.ledgerReady = true ∧ isRow 48 d1 = true ∧ p8 d1 0 ≤ 1 ∧ p8 d1 1 = 0 ∧ parNonzero 4 24 d1 = none ∧ ((dmaRead d1 d1.srcAddr d1.len s1).toList).any (fun b => decide (blobForm true b = true)) = true) ∧
    (serves 1 d2 s2 ∧ s2.nv.wornRecs = [] ∧ s2.nv.ledgerReady = true ∧ isRow 49 d2 = true ∧ p8 d2 0 ≤ 1 ∧ p8 d2 1 = 0 ∧ parNonzero 4 24 d2 = none ∧ ((dmaRead d2 d2.srcAddr d2.len s2).toList).any (fun b => decide (blobForm false b = true)) = true) ∧
    (serves 1 d3 s3 ∧ s3.nv.wornRecs = [] ∧ s3.nv.ledgerReady = true ∧ isRow 50 d3 = true ∧ p8 d3 0 ≤ 3 ∧ parNonzero 1 24 d3 = none ∧ (((dmaRead d3 d3.srcAddr d3.len s3).toList).any (fun b => decide ((∀ x ∈ chunks 32 b, evalInputOk x s3 = true) ∧ ((if bit 0 (p8 d3 0) = true then s3.vrd.stRules else s3.vrd.rules).toList).any (fun r => decide (((if bit 1 (p8 d3 0) = true then s3.vrd.stMap else s3.vrd.map).toList).any (fun m => decide (dmaBlocked d3 d3.dstAddr (List.map (fun x => x.1) (List.map (fun x => evalOne (some r) (some m) x s3) (chunks 32 b))).flatten.length s3 = false)) = true)) = true)) = true)) := by
  unfold serves memorySafe shaped
  refine ⟨?_, ?_, ?_⟩ <;> decide +kernel

/-- What CryptComputesItsMode asks is met. -/
theorem meets_CryptComputesItsMode :
    (serves 1 d4 s4 ∧ cryptLenOk d4 = true ∧ keyFor d4.target (cryptUsage d4) isAes s4 = some (1, v1) ∧ wraps d4.srcAddr (cryptSrc d4) = false ∧ cryptParBad d4 false = none ∧ wraps d4.dstAddr (cryptDst d4) = false ∧ (cryptInPlace d4 = true ∨ overlaps d4.srcAddr (cryptSrc d4) d4.dstAddr (cryptDst d4) = false) ∧ isMode 64 0 d4 = true ∧ ((dmaRead d4 d4.srcAddr (cryptSrc d4) s4).toList).any (fun src => decide (dmaBlocked d4 d4.dstAddr (List.length (cryptCore v1.key d4 src).out) s4 = false)) = true) ∧
    (serves 1 d5 s5 ∧ cryptLenOk d5 = true ∧ keyFor d5.target (cryptUsage d5) isAes s5 = some (1, v1) ∧ wraps d5.srcAddr (cryptSrc d5) = false ∧ cryptParBad d5 false = none ∧ wraps d5.dstAddr (cryptDst d5) = false ∧ (cryptInPlace d5 = true ∨ overlaps d5.srcAddr (cryptSrc d5) d5.dstAddr (cryptDst d5) = false) ∧ isMode 64 1 d5 = true ∧ ((dmaRead d5 d5.srcAddr (cryptSrc d5) s5).toList).any (fun src => decide (dmaBlocked d5 d5.dstAddr (List.length (cryptCore v1.key d5 src).out) s5 = false)) = true) ∧
    (serves 1 d6 s6 ∧ cryptLenOk d6 = true ∧ keyFor d6.target (cryptUsage d6) isAes s6 = some (1, v1) ∧ wraps d6.srcAddr (cryptSrc d6) = false ∧ cryptParBad d6 false = none ∧ wraps d6.dstAddr (cryptDst d6) = false ∧ (cryptInPlace d6 = true ∨ overlaps d6.srcAddr (cryptSrc d6) d6.dstAddr (cryptDst d6) = false) ∧ isMode 64 2 d6 = true ∧ ((dmaRead d6 d6.srcAddr (cryptSrc d6) s6).toList).any (fun src => decide (dmaBlocked d6 d6.dstAddr (List.length (cryptCore v1.key d6 src).out) s6 = false)) = true) ∧
    (serves 1 d7 s7 ∧ cryptLenOk d7 = true ∧ keyFor d7.target (cryptUsage d7) isAes s7 = some (1, v1) ∧ wraps d7.srcAddr (cryptSrc d7) = false ∧ cryptParBad d7 false = none ∧ wraps d7.dstAddr (cryptDst d7) = false ∧ (cryptInPlace d7 = true ∨ overlaps d7.srcAddr (cryptSrc d7) d7.dstAddr (cryptDst d7) = false) ∧ isMode 64 3 d7 = true ∧ ((dmaRead d7 d7.srcAddr (cryptSrc d7) s7).toList).any (fun src => decide (dmaBlocked d7 d7.dstAddr (List.length (cryptCore v1.key d7 src).out) s7 = false)) = true) ∧
    (serves 1 d8 s8 ∧ cryptLenOk d8 = true ∧ keyFor d8.target (cryptUsage d8) isAes s8 = some (1, v1) ∧ wraps d8.srcAddr (cryptSrc d8) = false ∧ cryptParBad d8 false = none ∧ wraps d8.dstAddr (cryptDst d8) = false ∧ (cryptInPlace d8 = true ∨ overlaps d8.srcAddr (cryptSrc d8) d8.dstAddr (cryptDst d8) = false) ∧ isMode 64 4 d8 = true ∧ ((dmaRead d8 d8.srcAddr (cryptSrc d8) s8).toList).any (fun src => decide (dmaBlocked d8 d8.dstAddr (List.length (cryptCore v1.key d8 src).out) s8 = false)) = true) ∧
    (serves 1 d9 s9 ∧ cryptLenOk d9 = true ∧ keyFor d9.target (cryptUsage d9) isAes s9 = some (1, v1) ∧ wraps d9.srcAddr (cryptSrc d9) = false ∧ cryptParBad d9 false = none ∧ wraps d9.dstAddr (cryptDst d9) = false ∧ (cryptInPlace d9 = true ∨ overlaps d9.srcAddr (cryptSrc d9) d9.dstAddr (cryptDst d9) = false) ∧ isMode 64 5 d9 = true ∧ ((dmaRead d9 d9.srcAddr (cryptSrc d9) s9).toList).any (fun src => decide (dmaBlocked d9 d9.dstAddr (List.length (cryptCore v1.key d9 src).out) s9 = false)) = true) ∧
    (serves 1 d10 s10 ∧ cryptLenOk d10 = true ∧ keyFor d10.target (cryptUsage d10) isAes s10 = some (1, v1) ∧ wraps d10.srcAddr (cryptSrc d10) = false ∧ cryptParBad d10 false = none ∧ wraps d10.dstAddr (cryptDst d10) = false ∧ (cryptInPlace d10 = true ∨ overlaps d10.srcAddr (cryptSrc d10) d10.dstAddr (cryptDst d10) = false) ∧ isMode 64 6 d10 = true ∧ ((dmaRead d10 d10.srcAddr (cryptSrc d10) s10).toList).any (fun src => decide (dmaBlocked d10 d10.dstAddr (List.length (cryptCore v1.key d10 src).out) s10 = false)) = true) ∧
    (serves 1 d11 s11 ∧ cryptLenOk d11 = true ∧ keyFor d11.target (cryptUsage d11) isAes s11 = some (1, v1) ∧ wraps d11.srcAddr (cryptSrc d11) = false ∧ isMode 64 3 d11 = true ∧ p8 d11 1 = 129 ∧ d11.src = Source.drover ∧ workingOn 56 s11 = true ∧ cryptParBad d11 true = none ∧ ((dmaRead d11 d11.srcAddr (cryptSrc d11) s11).toList).any (fun _ => true) = true) := by
  unfold serves memorySafe shaped
  refine ⟨?_, ?_, ?_, ?_, ?_, ?_, ?_, ?_⟩ <;> decide +kernel

end W09

namespace W09b

def tx : Bytes := [0,1,2,3,4,5,6,7,8,9,10,11,12,13,14,15].map byteOf
def encK : Slot := ⟨1, 0x00DF, 0, 2, tx⟩
def sigK : Slot := ⟨4, 0x20, 0, 1, beBytes 32 12345⟩
def b9 : State := {base with cry := {base.cry with slots := (base.cry.slots.set 1 encK).set 2 sigK}}
def plain : Bytes := List.replicate 16 (byteOf 0x77)
def unwD (sel kind uh usage : Nat) (n : Nat) (s8 : Nat := 0) : Desc := desc 0x41 0x0005 n 0x9000 0xA000 [sel, kind, uh % 256, uh / 256, usage % 256, usage / 256, s8]
def kek0 := wrapKey tx 0x80 1 3
def pairD : Desc := desc 0x3A 0 0 0 0 [0,0,0x01,2]
def upD : Desc := {unwD 0x81 1 0 3 24 with src := .drover}
def pst : PairStage := { d := some pairD, pair := ⟨0x600, false, [], 0, 0⟩, checked := false, probe := none, probed := false }
def drv (b : Bytes) (s : State) : State := {s with droverMem := mwrite zeroByte s.droverMem 0x9000 b}
def upS : State := fly upD (fly pairD (drv (beBytes 24 0x2D5EBADA41EEC02BEF2F1FB3B5F845DA52C18FE01A9E1BB9) {b9 with flk := {b9.flk with stage := some pst}}))
def sgs : List (Desc × Bytes) := [(desc 0x44 0x102 20 0x9000 0xA000 [0], pay), (desc 0x44 0x80 20 0x9000 0xA000 [0], pay), (desc 0x44 0x102 32 0x9000 0xA000 [1], pay)]
where pay : Bytes := List.replicate 100 (byteOf 0xA5)
def attD : Desc := desc 0x5B 0 0 0 0 []
def sgL : Desc := {desc 0x44 0x80 128 0x9000 0xA000 [2] with src := .drover}
def sgLS : State := fly sgL (fly attD (drv (List.replicate 128 5) b9))
def pubOf : Bytes := (ecPub 12345)
def hsh : Bytes := sha256 (List.replicate 10 9)
def sig0 (e : Bytes) : Bytes := (ecdsaSign 12345 777 e).getD []
def s1 : State := fly (unwD 128 1 513 3 24) (host 36864 (beBytes 24 0x464420E27C9BBB0BC65DD99677E3524CEF1B4B1C22B070A3) b9)
def d1 : Desc := unwD 128 1 513 3 24
def v1 : Bytes := kek0
def s2 : State := fly (unwD 128 1 513 3 24) (host 36864 (List.replicate 24 1) b9)
def s3 : State := upS
def d2 : Desc := upD
def v2 : Bytes := tx
def s4 : State := fly (desc 66 5 8 36864 0 [0, 2, 1, 2, 3, 0, 1, 2, 3, 4]) (host 36864 tx b9)
def d3 : Desc := desc 66 5 8 36864 0 [0, 2, 1, 2, 3, 0, 1, 2, 3, 4]
def v3 : Slot := encK
def s5 : State := fly (desc 67 5 0 0 0 []) (host 36864 [] b9)
def d4 : Desc := desc 67 5 0 0 0 []
def s6 : State := fly (desc 67 5 0 0 0 [0, 4]) (host 36864 [] b9)
def d5 : Desc := desc 67 5 0 0 0 [0, 4]
def s7 : State := fly (desc 68 258 20 36864 40960 [0]) (host 36864 sgs.pay b9)
def d6 : Desc := desc 68 258 20 36864 40960 [0]
def s8 : State := fly (desc 68 258 32 36864 40960 [1]) (host 36864 sgs.pay b9)
def d7 : Desc := desc 68 258 32 36864 40960 [1]
def s9 : State := sgLS
def d8 : Desc := sgL
def s10 : State := fly (desc 69 0 138 36864 0 [0]) (host 36864 (pubOf ++ sig0 hsh ++ List.replicate 10 9) b9)
def d9 : Desc := desc 69 0 138 36864 0 [0]

/-- What KeysChangeTheirSlot asks is met. -/
theorem meets_KeysChangeTheirSlot :
    (serves 1 d1 s1 ∧ s1.cry.changes = [] ∧ s1.nv.ledgerReady = true ∧ isRow 65 d1 = true ∧ unwrapParBad d1 false = none ∧ p8 d1 0 ≠ 254 ∧ d1.len = kindLen (p8 d1 1) + 8 ∧ kekFor d1 s1 = Except.ok v1 ∧ ((dmaRead d1 d1.srcAddr d1.len s1).toList).any (fun src => decide (((kwUnwrap v1 src).toList).any (fun k => decide (keyValueOk (p8 d1 1) k = true)) = true)) = true ∧ ((keyTarget d1.target s1).toList).any (fun _ => true) = true) ∧
    (serves 1 d1 s2 ∧ s2.cry.changes = [] ∧ s2.nv.ledgerReady = true ∧ kekFor d1 s2 = Except.ok v1 ∧ ((dmaRead d1 d1.srcAddr d1.len s2).toList).any (fun src => decide (kwUnwrap v1 src = none)) = true ∧ ((keyTarget d1.target s2).toList).any (fun _ => true) = true) ∧
    (serves 1 d2 s3 ∧ s3.cry.changes = [] ∧ s3.nv.ledgerReady = true ∧ isMode 65 129 d2 = true ∧ d2.src = Source.drover ∧ workingOn 58 s3 = true ∧ unwrapParBad d2 true = none ∧ d2.len = kindLen (p8 d2 1) + 8 ∧ kekFor d2 s3 = Except.ok v2 ∧ (s3.flk.stage.toList).any (fun _ => true) = true ∧ ((dmaRead d2 d2.srcAddr d2.len s3).toList).any (fun src => decide (((kwUnwrap v2 src).toList).any (fun k => decide (keyValueOk (p8 d2 1) k = true)) = true)) = true ∧ ((keyTarget d2.target s3).toList).any (fun _ => true) = true) ∧
    (serves 1 d3 s4 ∧ s4.cry.changes = [] ∧ s4.nv.ledgerReady = true ∧ isRow 66 d3 = true ∧ deriveParBad d3 = none ∧ keyFor (p16 d3 2) 4 isAes s4 = some (1, v3) ∧ ((dmaRead d3 d3.srcAddr d3.len s4).toList).any (fun _ => true) = true ∧ ((keyTarget d3.target s4).toList).any (fun _ => true) = true) ∧
    (serves 1 d4 s5 ∧ s5.cry.changes = [] ∧ s5.nv.ledgerReady = true ∧ isRow 67 d4 = true ∧ parNonzero 0 24 d4 = none ∧ ((keyTarget d4.target s5).toList).any (fun _ => true) = true) ∧
    (serves 1 d5 s6 ∧ s6.cry.changes = [] ∧ s6.nv.ledgerReady = true ∧ isRow 67 d5 = true ∧ ((parNonzero 0 24 d5).toList).any (fun _ => true) = true ∧ ((keyTarget d5.target s6).toList).any (fun _ => true) = true) := by
  unfold serves memorySafe shaped
  refine ⟨?_, ?_, ?_, ?_, ?_, ?_⟩ <;> decide +kernel

/-- What SignaturesAreMadeAndVerified asks is met. -/
theorem meets_SignaturesAreMadeAndVerified :
    (serves 1 d6 s7 ∧ s7.cry.holders = [] ∧ s7.cry.changes = [] ∧ parNonzero 1 24 d6 = none ∧ (signKey d6 s7).isSome = true ∧ isMode 68 0 d6 = true ∧ 1 ≤ d6.len ∧ d6.len ≤ 1048576 ∧ ((dmaRead d6 d6.srcAddr d6.len s7).toList).any (fun _ => true) = true) ∧
    (serves 1 d7 s8 ∧ s8.cry.holders = [] ∧ s8.cry.changes = [] ∧ parNonzero 1 24 d7 = none ∧ (signKey d7 s8).isSome = true ∧ isMode 68 1 d7 = true ∧ d7.len = 32 ∧ d7.target ≠ 128 ∧ ((dmaRead d7 d7.srcAddr d7.len s8).toList).any (fun _ => true) = true) ∧
    (serves 1 d8 s9 ∧ s9.cry.holders = [] ∧ s9.cry.changes = [] ∧ parNonzero 1 24 d8 = none ∧ (signKey d8 s9).isSome = true ∧ isMode 68 2 d8 = true ∧ d8.len = 128 ∧ d8.src = Source.drover ∧ (workingOn 91 s9 || ckptWork s9) = true ∧ ((dmaRead d8 d8.srcAddr d8.len s9).toList).any (fun _ => true) = true) ∧
    (serves 1 d9 s10 ∧ s10.cry.holders = [] ∧ s10.cry.changes = [] ∧ isRow 69 d9 = true ∧ p8 d9 0 ≤ 1 ∧ parNonzero 1 24 d9 = none ∧ 128 ≤ d9.len ∧ d9.len ≤ 128 + 1048576 ∧ (p8 d9 0 = 1 → d9.len = 160) ∧ ((dmaRead d9 d9.srcAddr d9.len s10).toList).any (fun b => decide (pubOk (List.take 64 b) = true)) = true) := by
  unfold serves memorySafe shaped
  refine ⟨?_, ?_, ?_, ?_⟩ <;> decide +kernel

end W09b

namespace W10

def tx : Bytes := [0,1,2,3,4,5,6,7,8,9,10,11,12,13,14,15].map byteOf
def kD : Slot := ⟨1, 0x02, 0, 2, tx⟩
def b10 : State := (fun (s : State) => {s with cry := {s.cry with slots := s.cry.slots.set 1 kD}}) (treed base)
def blob (_ : Nat) : Bytes := (beBytes 80 0x0300E5B15634120100000000000102030405060708090A0B0000000000000000906DA7CE2B1BF7544CD5668D31A4770FB4211DE154EAFAF1E621F12D1444A26C9E301EA1F13EF3950C1559B84042A7B8)
def ld (auth : Nat) (n : Nat) (bw : Nat) : Desc := desc 0x38 0 n 0x9000 0 [auth, 0, 0x01, 0x02, bw % 256, bw / 256]
def b0 := blob (fld FLK_FLOCK.NEXT b10)
def lds : List (Desc × Bytes) := [(ld 0 b0.length 0xFFFF, b0), (ld 0 b0.length 0x100, b0), (ld 2 b0.length 0, b0)]
def fleetPub := ecPub 4242
def withRec (id : Nat) (b : Bytes) (s : State) : State := (recStore id b s).1
def b10s : State := withRec recFleet fleetPub b10
def signed (s : State) : Bytes := let x := b0; x ++ (ecdsaSign 4242 999 (sha256 (x ++ dsn ++ leBytes 6 (tallyVal 252 s + 1)))).getD []
def sb := signed b10s
def fls := lds.map (fun d => fly d.1 (host 0x9000 d.2 b10)) ++ [fly (ld 1 sb.length 0) (host 0x9000 sb (setFld LCY_STATUS.STATE 1 b10s)), fly (ld 1 sb.length 0) (host 0x9000 sb b10s)]
def bells (s : State) : List State := [s, {s with flk := {s.flk with bell := some (3, 4999000)}}]
def fk0 : Flock := { vid := 0x123456, tag := 1, slots := List.replicate 64 none }
def waiting : List State := (lds.take 2).map (fun d => (fun (s : State) => {s with flk := {s.flk with learn := some ⟨d.1, fk0, 5000100, 5000100⟩}}) (fly d.1 b10))
def fk : Flock := { vid := 1, tag := 0, slots := [some ⟨0, 5, tx, 1, 99, true⟩, none] ++ List.replicate 62 none }
def pe (f : Nat) (fl : List Nat) (l t e : Option Nat) : PinEntry := { fold := f, fails := fl, level := l, till := t, ended := e }
def track1 := [pe 0 [] (some 1) (some 1360) none, pe 1 [990, 995] none none none, pe 7 [] (some 0) (some 1000) (some 20)]
def withTrack (l : List PinEntry) (pt : Nat) (s : State) : State := setFld FLK_CTL.PIN_EVT 0 <| setFld FLK_PTIME.PTIME pt {s with flk := {s.flk with track := l, flock := some fk}}
def samples0 : List (State) := fls.flatMap bells ++ waiting
def s1 : State := fly (ld 0 (List.length b0) 65535) (host 36864 b0 b10)
def d1 : Desc := ld 0 (List.length b0) 65535
def v1 : Slot := kD
def s2 : State := { (fly (ld 0 (List.length b0) 65535) (host 36864 b0 b10)) with flk := { ((fly (ld 0 (List.length b0) 65535) (host 36864 b0 b10)).flk) with bell := some (3, 4999000) } }
def s3 : State := samples0.get ⟨11, by decide +kernel⟩
def s4 : State := fly (desc 57 0 0 0 40960 [0]) (withTrack track1 1000 b10)
def d2 : Desc := desc 57 0 0 0 40960 [0]
def s5 : State := fly (desc 57 0 0 0 0 [1, 0]) (withTrack track1 1000 b10)
def d3 : Desc := desc 57 0 0 0 0 [1, 0]
def s6 : State := fly (desc 57 0 0 0 0 [2, 0, 100, 0, 0, 0, 0]) (withTrack [] 1000 b10)
def d4 : Desc := desc 57 0 0 0 0 [2, 0, 100, 0, 0, 0, 0]
def s7 : State := fly (desc 57 0 0 0 0 [2, 0, 100, 0, 0, 0, 0]) (withTrack track1 1000 b10)
def s8 : State := withTrack track1 1000 b10
def s9 : State := withTrack [] 1000 b10

/-- What FlocksAreLearnedAndReported asks is met (FlocksAreLearned). -/
theorem meets_FlocksAreLearned :
    (live s1 = true ∧ memorySafe s1 ∧ shaped s1 ∧ serves 1 d1 s1 ∧ isRow 56 d1 = true ∧ p8 d1 0 ≤ 2 ∧ p8 d1 1 = 0 ∧ parNonzero 6 24 d1 = none ∧ bwFoldOk d1 = true ∧ keyFor (p16 d1 2) 1 (fun k => k == 1 || k == 3) s1 = some (1, v1) ∧ p8 d1 0 = 0 ∧ freshBell (elapse 1 s1) = none ∧ (((dmaRead d1 d1.srcAddr d1.len s1).toList).any (fun b => decide (learnForm d1 b = true ∧ byteAt 8 (learnBlob d1 b) = fld FLK_FLOCK.NEXT s1 ∧ (p8 d1 0 = 1 → learnSigOk b s1 = true) ∧ gcmTag v1.key (slice 12 12 (learnBlob d1 b)) (List.take 32 (learnBlob d1 b)) (slice 32 (32 * byteAt 7 (learnBlob d1 b)) (learnBlob d1 b)) = List.drop (32 + 32 * byteAt 7 (learnBlob d1 b)) (learnBlob d1 b) ∧ entryBad (chunks 32 (gcmCrypt v1.key (slice 12 12 (learnBlob d1 b)) (slice 32 (32 * byteAt 7 (learnBlob d1 b)) (learnBlob d1 b)))) = none)) = true)) ∧
    (live s2 = true ∧ memorySafe s2 ∧ shaped s2 ∧ serves 1 d1 s2 ∧ keyFor (p16 d1 2) 1 (fun k => k == 1 || k == 3) s2 = some (1, v1) ∧ (p8 d1 0 = 0 → freshBell (elapse 1 s2) = some 3) ∧ (p8 d1 0 ≠ 0 → 3 = 255) ∧ s2.nv.ledgerReady = true ∧ s2.nv.wornRecs = [] ∧ s2.nv.worn = [] ∧ (tally 252 s2).isSome = true ∧ tallyVal 252 s2 < tallyMax ∧ triggerWaits s2 = false ∧ (((dmaRead d1 d1.srcAddr d1.len s2).toList).any (fun b => decide (learnForm d1 b = true ∧ byteAt 8 (learnBlob d1 b) = fld FLK_FLOCK.NEXT s2 ∧ (p8 d1 0 = 1 → learnSigOk b s2 = true) ∧ gcmTag v1.key (slice 12 12 (learnBlob d1 b)) (List.take 32 (learnBlob d1 b)) (slice 32 (32 * byteAt 7 (learnBlob d1 b)) (learnBlob d1 b)) = List.drop (32 + 32 * byteAt 7 (learnBlob d1 b)) (learnBlob d1 b) ∧ entryBad (chunks 32 (gcmCrypt v1.key (slice 12 12 (learnBlob d1 b)) (slice 32 (32 * byteAt 7 (learnBlob d1 b)) (learnBlob d1 b)))) = none)) = true)) ∧
    (live s3 = true ∧ memorySafe s3 ∧ shaped s3 ∧ s3.pwr.st = PState.run ∧ lfDepth s3 < 16 ∧ s3.lf.wait = [] ∧ ((s3.flk.learn.toList).any (fun l => decide (p16 l.d 4 ≠ 65535 ∧ l.nextPoll ≤ now (elapse 5000100 s3) ∧ now (elapse 5000100 s3) ≤ l.since + secTicks 60 ∧ isFlying (bellDesc l s3) s3 = false ∧ check119 (bellDesc l s3) s3 = none ∧ targetRetired (bellDesc l s3) s3 = false)) = true)) ∧
    (((s3.flk.learn.toList).any (fun l => decide (l.since + secTicks 60 ≤ now (elapse (5000000 + 60 * 38400000 + 200) s3) ∧ heard l.d (elapse (5000000 + 60 * 38400000 + 200) s3) = true)) = true)) := by
  unfold serves memorySafe shaped
  refine ⟨?_, ?_, ?_, ?_⟩ <;> decide +kernel

/-- What FlocksAreLearnedAndReported asks is met (FlockStatusReportsAndShortens). -/
theorem meets_FlockStatusReportsAndShortens :
    (serves 1 d2 s4 ∧ isMode 57 0 d2 = true ∧ parNonzero 1 24 d2 = none ∧ dmaBlocked d2 d2.dstAddr (List.map (fun i => flockSlotResult (d2.target + i) s4 ++ [0, 0]) (List.range (d2.len / 16))).flatten.length s4 = false) ∧
    (serves 1 d3 s5 ∧ d3.target = 0 ∧ s5.fold.live.defined (p8 d3 1) = true ∧ isMode 57 1 d3 = true ∧ parNonzero 2 24 d3 = none) ∧
    (serves 1 d4 s6 ∧ d4.target = 0 ∧ s6.fold.live.defined (p8 d4 1) = true ∧ isMode 57 2 d4 = true ∧ p32 d4 2 ≤ 2880 ∧ p8 d4 6 ≤ 1 ∧ parNonzero 7 24 d4 = none ∧ List.find? (fun e => decide (e.fold = p8 d4 1)) (pruned s6) = none) ∧
    (serves 1 d4 s7 ∧ s7.fold.live.defined (p8 d4 1) = true ∧ s7.nv.ledgerReady = true ∧ 0 < p32 d4 2 ∧ p8 d4 6 = 0 ∧ ((List.find? (fun e => decide (e.fold = p8 d4 1)) (pruned s7)).toList).any (fun e => decide ((e.till.toList).any (fun x => decide (ptime s7 + p32 d4 2 < x)) = true)) = true) := by
  unfold serves memorySafe shaped
  refine ⟨?_, ?_, ?_, ?_⟩ <;> decide +kernel

/-- What PinfoldExpiresAndIsStored asks is met. -/
theorem meets_PinfoldExpiresAndIsStored :
    (live s8 = true ∧ memorySafe s8 ∧ shaped s8 ∧ s8.flk.ptimeAt + secTicks 1 ≤ now (elapse (5000000 + 38400000) s8)) ∧
    (now (elapse 1 s8) < s8.flk.ptimeAt + secTicks 1) ∧
    (s8.nv.ledgerReady = true ∧ (s8.flk.track.any fun e => match e.till with | some x => decide (x ≤ ptime s8) | none => false) = true ∧ (List.map (fun x => x.fold) s8.flk.track).Nodup) ∧
    (live s9 = true ∧ memorySafe s9 ∧ shaped s9 ∧ (s9.flk.track.any fun e => match e.till with | some x => decide (x ≤ ptime s9) | none => false) = false) ∧
    (pruned s8 ≠ [] ∧ s8.flk.pinRecAt + 10 ≤ ptime s8) := by
  unfold memorySafe shaped
  refine ⟨?_, ?_, ?_, ?_, ?_⟩ <;> decide +kernel

end W10

namespace W11

def tx : Bytes := [0,1,2,3,4,5,6,7,8,9,10,11,12,13,14,15].map byteOf
def uK : Slot := ⟨1, 0x08, 0, 2, tx⟩
def b11 : State := (fun (s : State) => setFld FLK_CTL.ECU_EVT 0 (setFld FLK_VID.VID 0x123456 (setFld FLK_CAN_CFG.EN 1 {s with cry := {s.cry with slots := s.cry.slots.set 1 uK}}))) base
def perm (s : State) : State := setFld FLK_STATUS.START_ACTIVE 1 (setFld FLK_START_CTL.EN 1 {s with flk := {s.flk with perm := some ⟨1, 4000000, 0⟩}})
def lin (a b : Bool) (s : State) : State := {s with pins := {s.pins with startA := a, startB := b}}
def rv := desc 0x3B 0 0 0 0 [2]
def kp : Bytes := List.replicate 16 (byteOf 0x3C)
def blob (idw : Nat) : Bytes := if idw = 0x600 then (beBytes 56 0x0400E5B100060000070000000000000011700D56D55A3F257FE2A78A9D5200C48D2637AFF75B394380F29128245FC71D38060065D1CD4BEF) else (beBytes 56 0x0400E5B100060020070000000000000011700D56D55A3F257FE2A78A9D5200C48D2637AFF75B39436591362186624F75D047EA3B99A4684D)
def badBlob := (blob 0x600).set 50 (byteOf 1)
def ip (o : Nat) : Desc := desc 0x3A 0 56 0x9000 0 [o, 0, 1, 2]
def drv (b : Bytes) (s : State) : State := {s with droverMem := mwrite zeroByte s.droverMem 0x9000 b}
def sp (k : Nat) : Desc := {desc 0x3A 0 (if k = 1 then 56 else 0) 0x9000 0 [0x80, k] with src := .drover}
def pr : Pairing := ⟨0x600, false, kp, 7, 0⟩
def g0 (c p : Bool) : PairStage := { d := some (ip 0), pair := pr, checked := c, probe := none, probed := p }
def stS (k : Nat) (b : Bytes) (c p : Bool) (o : Nat := 0) : State := fly (sp k) (fly (ip o) (drv b {b11 with flk := {b11.flk with stage := some (g0 c p)}}))
def nonce := 0x1122334455667788
def wt (d : Desc) : State := fly d (fly (ip 0) {b11 with flk := {b11.flk with stage := some {g0 true false with d := some d, probe := some (nonce, 5000000)}}})
def pa (m : Bytes) : EcuFrame := ⟨0x600, false, true, [0x14,0,0,0,0,0,0,0] ++ m⟩
def gm : Bytes := pairMac kp ([0x14] ++ leBytes 8 nonce ++ vidBytes b11)
def chal (e : Nat) : EcuFrame := ⟨0x600, false, true, [0x11,0,0,0] ++ leBytes 4 e ++ [1,2,3,4,5,6,7,8]⟩
def paired : State := {b11 with flk := {b11.flk with pair := some pr}}
def sil (k : Nat) (s : State) : State := {s with flk := {s.flk with silent := some (5000000+38400000, [], k)}}
def boff : State := setFld FLK_CAN_STAT.TEC 255 (setFld FLK_CAN_STAT.STATE 2 {paired with flk := {paired.flk with txq := [⟨1,false,[]⟩, ⟨2,false,[]⟩], canOut := [⟨3,false,[]⟩]}})
def s1 : State := fly rv b11
def d1 : Desc := rv
def s2 : State := fly rv (lin true false b11)
def s3 : State := fly rv (perm b11)
def s4 : State := fly rv (lin true false (perm b11))
def s5 : State := { (fly rv (lin true false b11)) with flk := { ((lin true false b11).flk) with revoke := [(rv, true)] } }
def s6 : State := fly (ip 1) (host 36864 (blob (1536 + 2 ^ 29)) b11)
def d2 : Desc := ip 1
def v1 : Slot := uK
def s7 : State := fly (ip 0) (host 36864 (blob 1536) b11)
def d3 : Desc := ip 0
def s8 : State := stS 1 (blob 1536) false false
def d4 : Desc := sp 1
def s9 : State := stS 1 badBlob false false
def s10 : State := stS 2 [] true false
def d5 : Desc := sp 2
def s11 : State := stS 3 [] true true
def d6 : Desc := sp 3
def s12 : State := stS 3 [] true false
def s13 : State := wt (sp 2)
def v2 : EcuFrame := pa gm
def s14 : State := wt (ip 0)
def v3 : EcuFrame := pa (List.take 8 tx)
def s15 : State := paired
def v4 : Pairing := pr
def v5 : EcuFrame := chal 9
def v6 : EcuFrame := chal 7
def s16 : State := sil 3 paired
def v7 : List Nat := []
def s17 : State := boff

/-- What StartLinesFollowThePermission asks is met. -/
theorem meets_StartLinesFollowThePermission :
    (live s1 = true ∧ memorySafe s1 ∧ shaped s1 ∧ serves 1 d1 s1 ∧ isRow 59 d1 = true ∧ parNonzero 1 24 d1 = none ∧ s1.nv.ledgerReady = true ∧ s1.pins.startA = false ∧ s1.pins.startB = false) ∧
    (live s2 = true ∧ memorySafe s2 ∧ shaped s2 ∧ serves 1 d1 s2 ∧ s2.nv.ledgerReady = true ∧ (s2.pins.startA = true ∨ s2.pins.startB = true)) ∧
    (live s3 = true ∧ memorySafe s3 ∧ shaped s3 ∧ now (elapse 5011200 s3) % 19200 = 0 ∧ (s3.flk.lastEdge ≠ now (elapse 5011200 s3) ∨ now (elapse 5011200 s3) = 0) ∧ s3.flk.perm.isSome = true ∧ s3.pins.startA = false ∧ s3.pins.startB = false) ∧
    (live s4 = true ∧ memorySafe s4 ∧ shaped s4 ∧ now (elapse 5011200 s4) % 19200 = 0 ∧ (s4.flk.lastEdge ≠ now (elapse 5011200 s4) ∨ now (elapse 5011200 s4) = 0) ∧ s4.flk.perm.isSome = true ∧ (s4.pins.startA = true ∨ s4.pins.startB = true)) ∧
    (now (elapse 5011200 s1) % 19200 = 0 ∧ (s1.flk.lastEdge ≠ now (elapse 5011200 s1) ∨ now (elapse 5011200 s1) = 0) ∧ s1.flk.perm = none ∧ s1.flk.revoke = []) ∧
    (live s5 = true ∧ memorySafe s5 ∧ shaped s5 ∧ now (elapse 5011200 s5) % 19200 = 0 ∧ (s5.flk.lastEdge ≠ now (elapse 5011200 s5) ∨ now (elapse 5011200 s5) = 0) ∧ s5.flk.perm = none ∧ s5.flk.revoke = [(d1, true)] ∧ s5.pins.startA = true ∧ heard d1 (elapse 5011200 s5) = true) ∧
    ((now (elapse 1 s1) % 19200 ≠ 0 ∨ s1.flk.lastEdge = now (elapse 1 s1) ∧ now (elapse 1 s1) ≠ 0)) := by
  unfold serves memorySafe shaped
  refine ⟨?_, ?_, ?_, ?_, ?_, ?_, ?_⟩ <;> decide +kernel

/-- What ImmobiliserIsPaired asks is met. -/
theorem meets_ImmobiliserIsPaired :
    (live s6 = true ∧ memorySafe s6 ∧ shaped s6 ∧ s6.nv.ledgerReady = true ∧ serves 1 d2 s6 ∧ isRow 58 d2 = true ∧ p8 d2 0 ≤ 1 ∧ p8 d2 1 = 0 ∧ parNonzero 4 24 d2 = none ∧ keyFor (p16 d2 2) 3 isAes s6 = some (1, v1) ∧ p8 d2 0 = 1 ∧ lcState s6 ≤ 1 ∧ recFails recPair s6 = false ∧ (((dmaRead d2 d2.srcAddr 56 s6).toList).any (fun b => decide (pairBlobOk b = true ∧ ((kwUnwrap v1.key (slice 16 24 b)).toList).any (fun k => decide (cmac k (List.take 40 b) = slice 40 16 b)) = true)) = true)) ∧
    (live s7 = true ∧ memorySafe s7 ∧ shaped s7 ∧ s7.nv.ledgerReady = true ∧ serves 1 d3 s7 ∧ isRow 58 d3 = true ∧ p8 d3 0 ≤ 1 ∧ p8 d3 1 = 0 ∧ parNonzero 4 24 d3 = none ∧ keyFor (p16 d3 2) 3 isAes s7 = some (1, v1) ∧ p8 d3 0 = 0 ∧ (drawFails s7 = none ∧ canOn s7 = true ∧ busOff s7 = false ∧ s7.flk.txq.length < 8) ∧ (((dmaRead d3 d3.srcAddr 56 s7).toList).any (fun b => decide (pairBlobOk b = true ∧ ((kwUnwrap v1.key (slice 16 24 b)).toList).any (fun k => decide (cmac k (List.take 40 b) = slice 40 16 b)) = true)) = true)) ∧
    (live s8 = true ∧ memorySafe s8 ∧ shaped s8 ∧ s8.nv.ledgerReady = true ∧ serves 1 d4 s8 ∧ isMode 58 128 d4 = true ∧ d4.src = Source.drover ∧ workingOn 58 s8 = true ∧ parNonzero 4 24 d4 = none ∧ p8 d4 1 = 1 ∧ ((s8.flk.stage.toList).any (fun g => decide ((((dmaRead d4 d4.srcAddr 56 s8).toList).any (fun b => decide (pairBlobOk b = true ∧ cmac g.pair.key (List.take 40 b) = slice 40 16 b)) = true))) = true)) ∧
    (live s9 = true ∧ memorySafe s9 ∧ shaped s9 ∧ s9.nv.ledgerReady = true ∧ serves 1 d4 s9 ∧ workingOn 58 s9 = true ∧ ((s9.flk.stage.toList).any (fun g => decide ((((dmaRead d4 d4.srcAddr 56 s9).toList).any (fun b => decide (pairBlobOk b = true ∧ cmac g.pair.key (List.take 40 b) ≠ slice 40 16 b)) = true))) = true)) ∧
    (live s10 = true ∧ memorySafe s10 ∧ shaped s10 ∧ s10.nv.ledgerReady = true ∧ serves 1 d5 s10 ∧ isMode 58 128 d5 = true ∧ d5.src = Source.drover ∧ workingOn 58 s10 = true ∧ parNonzero 4 24 d5 = none ∧ p8 d5 1 = 2 ∧ (drawFails s10 = none ∧ canOn s10 = true ∧ busOff s10 = false ∧ s10.flk.txq.length < 8) ∧ (s10.flk.stage.toList).any (fun g => decide (g.checked = true)) = true) ∧
    (live s11 = true ∧ memorySafe s11 ∧ shaped s11 ∧ s11.nv.ledgerReady = true ∧ serves 1 d6 s11 ∧ isMode 58 128 d6 = true ∧ d6.src = Source.drover ∧ workingOn 58 s11 = true ∧ parNonzero 4 24 d6 = none ∧ p8 d6 1 = 3 ∧ recFails recPair s11 = false ∧ ((s11.flk.stage.toList).any (fun g => decide (g.checked = true ∧ g.probed = true)) = true)) ∧
    (live s12 = true ∧ memorySafe s12 ∧ shaped s12 ∧ s12.nv.ledgerReady = true ∧ serves 1 d6 s12 ∧ workingOn 58 s12 = true ∧ Option.any (fun w => p8 w 0 == 1) (droverWork s12) = false ∧ ((s12.flk.stage.toList).any (fun g => decide (g.checked = true ∧ g.probed = false)) = true)) ∧
    (live s13 = true ∧ memorySafe s13 ∧ shaped s13 ∧ s13.nv.ledgerReady = true ∧ heard d5 (elapse 1 s13) = true ∧ canOn s13 = true ∧ probeFrame v2 s13 = true ∧ now (elapse 1 s13) ≤ 5000000 + msTicks 200 ∧ bit 7 (p8 d5 0) = true ∧ ((s13.flk.stage.toList).any (fun g => decide (g.probe = some (nonce, 5000000) ∧ g.d = some d5 ∧ (slice 8 8 v2.data == pairMac g.pair.key ([20] ++ leBytes 8 nonce ++ vidBytes s13)) = true)) = true)) ∧
    (live s14 = true ∧ memorySafe s14 ∧ shaped s14 ∧ s14.nv.ledgerReady = true ∧ heard d3 (elapse 1 s14) = true ∧ canOn s14 = true ∧ probeFrame v2 s14 = true ∧ now (elapse 1 s14) ≤ 5000000 + msTicks 200 ∧ bit 7 (p8 d3 0) = false ∧ recFails recPair s14 = false ∧ ((s14.flk.stage.toList).any (fun g => decide (g.probe = some (nonce, 5000000) ∧ g.d = some d3 ∧ (slice 8 8 v2.data == pairMac g.pair.key ([20] ++ leBytes 8 nonce ++ vidBytes s14)) = true)) = true)) ∧
    (probeFrame v3 s14 = true ∧ ((s14.flk.stage.toList).any (fun g => decide (g.probe = some (nonce, 5000000) ∧ g.d = some d3 ∧ (slice 8 8 v3.data == pairMac g.pair.key ([20] ++ leBytes 8 nonce ++ vidBytes s14)) = false)) = true)) ∧
    (heard d3 (elapse nonce s14) = true ∧ 5000000 + msTicks 200 ≤ now (elapse nonce s14) ∧ ((s14.flk.stage.toList).any (fun g => decide (g.probe = some (nonce, 5000000) ∧ g.d = some d3)) = true)) := by
  unfold serves memorySafe shaped
  refine ⟨?_, ?_, ?_, ?_, ?_, ?_, ?_, ?_, ?_, ?_, ?_⟩ <;> decide +kernel

/-- What EcuIsAnswered asks is met. -/
theorem meets_EcuIsAnswered :
    (live s15 = true ∧ memorySafe s15 ∧ shaped s15 ∧ s15.nv.ledgerReady = true ∧ s15.flk.pair = some v4 ∧ canOn s15 = true ∧ busOff s15 = false ∧ s15.flk.txq.length < 8 ∧ inBlock v5 v4 = true ∧ violReason v5 v4 s15 = none ∧ byteAt 0 v5.data = 17 ∧ s15.flk.silent = none ∧ recFails recPair s15 = false) ∧
    (inBlock v6 v4 = true ∧ ecuSilent (elapse 1 s15) = s15.flk.silent.isSome ∧ ((violReason v6 v4 s15).toList).any (fun _ => true) = true) ∧
    (live s16 = true ∧ memorySafe s16 ∧ shaped s16 ∧ s16.nv.ledgerReady = true ∧ s16.flk.pair = some v4 ∧ canOn s16 = true ∧ busOff s16 = false ∧ s16.flk.txq.length < 8 ∧ s16.flk.silent = some ((5000000 + 38400000), v7, 3) ∧ now (elapse 1 s16) < (5000000 + 38400000) ∧ ((violReason v6 v4 s16).toList).any (fun _ => true) = true) ∧
    ((5000000 + 38400000) ≤ now (elapse (5000000 + 38400000) s16) ∧ 3 < 16) ∧
    (live s17 = true ∧ memorySafe s17 ∧ shaped s17 ∧ s17.nv.ledgerReady = true ∧ busOff s17 = true ∧ islandOn Island.can s17 = true ∧ flag FLK_CAN_CFG.EN s17 = true) := by
  unfold memorySafe shaped
  refine ⟨?_, ?_, ?_, ?_, ?_⟩ <;> decide +kernel

end W11

namespace W12

def rst (k : Nat) (s : State) : State := setFld RNG_STATUS.STATE k s
def pool (s : State) : State := setFld RNG_STATUS.POOL_FULL 1 s
def nopool (s : State) : State := setFld RNG_STATUS.POOL_FULL 0 s
def waitD := desc 0x48 0 8 0 0xA000 [1]
def recD (n len : Nat) := desc 0x50 n len 0 0xA000 []
def hostW (n : Nat) (b : Bytes) (s : State) : State := (writeHostCopy n 1 ⟨6, b.map (· + 1)⟩ (writeHostCopy n 0 ⟨5, b⟩ s).1).1
def hw : State := {hostW 3 [9,8,7,6] base with nv := {(hostW 3 [9,8,7,6] base).nv with buf := []}}
def bads (l : List Nat) (s : State) : State := {s with nv := {s.nv with bad := l}}
def ctr (n v : Nat) (s : State) : State := {(tallyInc n v s).1 with regs := s.regs, nv := {(tallyInc n v s).1.nv with buf := []}}
def pay : Bytes := (List.range 100).map byteOf
def nw (tgt len off : Nat) : Desc := desc 0x51 tgt len 0x9000 0 ((leBytes 4 off).map (·.toNat))
def drv (b : Bytes) (s : State) : State := {s with droverMem := mwrite zeroByte s.droverMem 0x9000 b}
def dr (d : Desc) : Desc := {d with src := .drover}
def stageD : Desc := desc 0x68 1 0 0 0 []
def actD : Desc := desc 0x6A 0 0 0 0 [3]
def fwS : State := fly (dr (nw 0x211 32 16)) (fly stageD (drv pay base))
def otpS : State := fly (dr (nw 0x300 4 0)) (fly actD (drv [15,0,0,0] base))
def ownS : State := fly (dr (nw (0x400 + 0x10B) 32 0)) (fly (desc 0x38 0 0 0 0 []) (drv pay base))
def hi (n v : Nat) (s : State) : State := {s with nv := {s.nv with mem := mwrite nvDflt s.nv.mem (cellAddr n 3) (cellBytes n v)}}
def s1 : State := fly (desc 72 0 0 0 40960 [0]) (pool base)
def d1 : Desc := desc 72 0 0 0 40960 [0]
def s2 : State := fly (desc 72 0 8 0 40960 [0]) (rst 4 base)
def d2 : Desc := desc 72 0 8 0 40960 [0]
def s3 : State := fly (desc 72 0 8 0 40960 [0]) (rst 1 base)
def s4 : State := fly (desc 73 0 64 0 40960 []) (pool base)
def d3 : Desc := desc 73 0 64 0 40960 []
def v1 : RngObs := { tested := 77, rctMax := 3, aptMax := 5000 }
def s5 : State := pool (rst 1 base)
def s6 : State := pool (rst 2 base)
def v2 : RngObs := { tested := 2 ^ 22, rctMax := 3, aptMax := 7 }
def s7 : State := nopool (rst 2 base)
def s8 : State := fly waitD { (nopool (rst 2 base)) with rng := { ((nopool (rst 2 base)).rng) with wait := [(waitD, 4999000)] } }
def d4 : Desc := waitD
def s9 : State := setFld RNG_STATUS.RESEED_DUE 1 (pool (rst 2 base))
def v3 : ℤ := 5
def s10 : State := fly (recD 3 4) hw
def d5 : Desc := recD 3 4
def s11 : State := fly ({ (recD 256 40) with par := leBytes 4 32 ++ List.replicate 20 0 }) hw
def d6 : Desc := { (recD 256 40) with par := leBytes 4 32 ++ List.replicate 20 0 }
def s12 : State := fly (desc 83 252 0 0 0 []) hw
def d7 : Desc := desc 83 252 0 0 0 []
def s13 : State := fly (desc 83 7 0 0 0 []) (bads (List.map (fun i => cellAddr 7 i) (List.range 32)) hw)
def d8 : Desc := desc 83 7 0 0 0 []
def s14 : State := fly (nw 3 0 0) (host 36864 pay base)
def d9 : Desc := nw 3 0 0
def s15 : State := fly (nw 3 20 0) (host 36864 pay base)
def d10 : Desc := nw 3 20 0
def s16 : State := fly (nw 256 37 3) (host 36864 pay base)
def d11 : Desc := nw 256 37 3
def s17 : State := fwS
def d12 : Desc := dr (nw 529 32 16)
def s18 : State := otpS
def d13 : Desc := dr (nw 768 4 0)
def s19 : State := ownS
def d14 : Desc := dr (nw (1024 + 267) 32 0)
def s20 : State := fly (desc 82 7 0 0 0 []) (ctr 7 50 (ctr 7 3 base))
def d15 : Desc := desc 82 7 0 0 0 []
def s21 : State := fly (desc 82 7 0 0 0 []) (hi 7 tallyMax base)
def s22 : State := base

/-- What RandomBytesAreDrawn asks is met. -/
theorem meets_RandomBytesAreDrawn :
    (serves 1 d1 s1 ∧ isRow 72 d1 = true ∧ p8 d1 0 ≤ 3 ∧ parNonzero 1 24 d1 = none ∧ d1.len = 0) ∧
    (serves 1 d2 s2 ∧ isRow 72 d2 = true ∧ p8 d2 0 ≤ 3 ∧ parNonzero 1 24 d2 = none ∧ d2.len ≠ 0 ∧ rngState s2 = 4) ∧
    (serves 1 d2 s3 ∧ rngState s3 ≠ 4 ∧ (rngState s3 ≠ 2 ∨ needsPool d2 s3 = true)) ∧
    (serves 1 d3 s4 ∧ isRow 73 d3 = true ∧ parNonzero 0 24 d3 = none ∧ d3.len ≤ 64) := by
  unfold serves memorySafe shaped
  refine ⟨?_, ?_, ?_, ?_⟩ <;> decide +kernel

/-- What GeneratorFollowsItsSource asks is met. -/
theorem meets_GeneratorFollowsItsSource :
    (live s5 = true ∧ memorySafe s5 ∧ shaped s5 ∧ (s5.rng.wait = [] ∧ s5.lcy.steepWait = [] ∧ s5.lcy.retiring = false) ∧ (rngState s5 = 1 ∨ rngState s5 = 3)) ∧
    (1 ≤ rngState s5 ∧ rngState s5 ≤ 3 ∧ testFails 3 1 = true ∧ s5.nv.ledgerReady = true) ∧
    (live s6 = true ∧ memorySafe s6 ∧ shaped s6 ∧ rngState s6 = 2 ∧ 2 ^ 22 ≤ v2.tested) ∧
    (v1.tested < 2 ^ 22) ∧
    (live s7 = true ∧ memorySafe s7 ∧ shaped s7 ∧ rngState s7 = 2 ∧ fld RNG_STATUS.POOL_FULL s7 = 0 ∧ s7.rng.wait = []) ∧
    (live s8 = true ∧ memorySafe s8 ∧ shaped s8 ∧ rngState s8 = 2 ∧ fld RNG_STATUS.POOL_FULL s8 = 0 ∧ s8.rng.wait = [(d4, 4999000)] ∧ bit 0 (p8 d4 0) = true ∧ bit 1 (p8 d4 0) = false ∧ heard d4 (elapse 1 s8) = true ∧ dmaBlocked d4 d4.dstAddr d4.len s8 = false) ∧
    (live s9 = true ∧ memorySafe s9 ∧ shaped s9 ∧ rngState s9 = 2 ∧ fld RNG_STATUS.POOL_FULL s9 = 1 ∧ fld RNG_STATUS.RESEED_DUE s9 = 1 ∧ s9.rng.wait = []) ∧
    (flag RNG_CTL.EST_EN s5 = true) := by
  unfold memorySafe shaped
  refine ⟨?_, ?_, ?_, ?_, ?_, ?_, ?_, ?_⟩ <;> decide +kernel

/-- What NvIsReadAndWritten asks is met (NvIsRead). -/
theorem meets_NvIsRead :
    (serves 1 d5 s10 ∧ isRow 80 d5 = true ∧ parNonzero 4 24 d5 = none ∧ d5.target < 64 ∧ d5.len ≤ 1008 ∧ p32 d5 0 = 0 ∧ (hostCopy d5.target 0 s10).isSome = true ∧ (hostCopy d5.target 1 s10).isSome = true ∧ (hostRec d5.target s10).twin = false ∧ ((hostRec d5.target s10).newest.toList).any (fun c => decide (dmaBlocked d5 d5.dstAddr (List.take d5.len c.data).length s10 = false)) = true ∧ ((hostRec d5.target s10).pick.toList).any (fun _ => true) = true) ∧
    (serves 1 d6 s11 ∧ isRow 80 d6 = true ∧ parNonzero 4 24 d6 = none ∧ (d6.target = 256 ∧ d6.len ≤ 65536 ∧ 1179680 = 1179648 + p32 d6 0 ∧ p32 d6 0 + d6.len ≤ 262144 ∨ d6.target = 512 ∧ d6.len ≤ 1048576 ∧ 1179680 = p32 d6 0 ∧ 2097152 ≤ 1179680 ∧ 1179680 + d6.len ≤ ledgerEnd s11.part ∧ (s11.nv.ledgerReady = true ∨ 1179680 + d6.len ≤ 4194304)) ∧ dmaBlocked d6 d6.dstAddr (match badWord 1179680 d6.len s11 with | some w => w - 1179680 | none => d6.len) s11 = false) ∧
    (serves 1 d7 s12 ∧ isRow 83 d7 = true ∧ parNonzero 0 24 d7 = none ∧ (tally d7.target s12).any (fun _ => true) = true) ∧
    (serves 1 d8 s13 ∧ isRow 83 d8 = true ∧ parNonzero 0 24 d8 = none ∧ tally d8.target s13 = none ∧ s13.nv.ledgerReady = true) := by
  unfold serves memorySafe shaped
  refine ⟨?_, ?_, ?_, ?_⟩ <;> decide +kernel

/-- What NvIsReadAndWritten asks is met (NvIsWritten). -/
theorem meets_NvIsWritten :
    (serves 1 d9 s14 ∧ isRow 81 d9 = true ∧ parNonzero 4 24 d9 = none ∧ s14.nv.worn = [] ∧ d9.len = 0 ∧ (d9.target < 64 ∧ p32 d9 0 = 0 ∨ d9.target = 256 ∧ p32 d9 0 ≤ 262144) ∧ ((dmaRead d9 d9.srcAddr d9.len s14).toList).any (fun _ => true) = true) ∧
    (serves 1 d10 s15 ∧ isRow 81 d10 = true ∧ parNonzero 4 24 d10 = none ∧ s15.nv.worn = [] ∧ 0 < d10.len ∧ d10.len ≤ 1008 ∧ d10.target < 64 ∧ p32 d10 0 = 0 ∧ ((dmaRead d10 d10.srcAddr d10.len s15).toList).any (fun _ => true) = true) ∧
    (serves 1 d11 s16 ∧ isRow 81 d11 = true ∧ parNonzero 4 24 d11 = none ∧ s16.nv.worn = [] ∧ 0 < d11.len ∧ d11.len ≤ 65536 ∧ d11.target = 256 ∧ p32 d11 0 + d11.len ≤ 262144 ∧ ((dmaRead d11 d11.srcAddr d11.len s16).toList).any (fun _ => true) = true) ∧
    (serves 1 d12 s17 ∧ isRow 81 d12 = true ∧ parNonzero 4 24 d12 = none ∧ s17.nv.worn = [] ∧ d12.src = Source.drover ∧ (d12.target = 528 ∨ d12.target = 529) ∧ lenIn 16 16 65536 false d12.len = true ∧ p32 d12 0 + d12.len ≤ 1048576 ∧ (((droverWork s17).toList).any (fun w => decide (w.opcode = 104 ∧ w.target = d12.target - 528)) = true) ∧ ((dmaRead d12 d12.srcAddr d12.len s17).toList).any (fun _ => true) = true) ∧
    (serves 1 d13 s18 ∧ isRow 81 d13 = true ∧ parNonzero 4 24 d13 = none ∧ s18.nv.worn = [] ∧ d13.src = Source.drover ∧ d13.target = 768 ∧ d13.len = 4 ∧ p32 d13 0 = 0 ∧ s18.lcy.otp = 0 ∧ (((droverWork s18).toList).any (fun w => decide (w.opcode = 106 ∧ p8 w 0 = 3)) = true) ∧ (((dmaRead d13 d13.srcAddr d13.len s18).toList).any (fun b => decide (14 ≤ byteAt 0 b ∧ byteAt 0 b ≤ 21 ∧ allZero (List.drop 1 b) = true)) = true)) ∧
    (serves 1 d14 s19 ∧ isRow 81 d14 = true ∧ parNonzero 4 24 d14 = none ∧ s19.nv.worn = [] ∧ d14.src = Source.drover ∧ 267 = d14.target - 1024 ∧ 1280 ≤ d14.target ∧ d14.target ≤ 5119 ∧ ownsRecord 267 s19 = true ∧ 0 < d14.len ∧ d14.len ≤ 4064 ∧ p32 d14 0 = 0 ∧ recFails 267 s19 = false ∧ ((dmaRead d14 d14.srcAddr d14.len s19).toList).any (fun _ => true) = true) := by
  unfold serves memorySafe shaped
  refine ⟨?_, ?_, ?_, ?_, ?_, ?_⟩ <;> decide +kernel

/-- What TalliesAndArrayAreKept asks is met (TalliesCount). -/
theorem meets_TalliesCount :
    (serves 1 d15 s20 ∧ isRow 82 d15 = true ∧ d15.target < 256 ∧ incAllowed d15 s20 = true ∧ parNonzero 2 24 d15 = none ∧ incStart d15.target (elapse 1 s20) = now (elapse 1 s20) ∧ tally d15.target s20 = some (53, 1) ∧ 53 < tallyMax ∧ s20.nv.worn = []) ∧
    (serves 1 d15 s21 ∧ incAllowed d15 s21 = true ∧ incStart d15.target (elapse 1 s21) = now (elapse 1 s21) ∧ tally d15.target s21 = some (tallyMax, 3) ∧ tallyMax = tallyMax) := by
  unfold serves memorySafe shaped
  refine ⟨?_, ?_⟩ <;> decide +kernel

/-- What TalliesAndArrayAreKept asks is met (TheArrayIsKept). -/
theorem meets_TheArrayIsKept :
    (live s22 = true ∧ memorySafe s22 ∧ shaped s22 ∧ flag NVS_CTL.SCRUB_EN s22 = true ∧ s22.pwr.st = PState.run ∧ (elapse (5000000 + 38400000 * 3600 * 400) s22).nv.buf = [] ∧ s22.nv.worn = [] ∧ s22.nv.scrubEnd + secTicks (3600 * fld NVS_CTL.SCRUB_H s22) ≤ now (elapse (5000000 + 38400000 * 3600 * 400) s22)) ∧
    (islandOn Island.nvs s22 = true ∧ holdDue (elapse 300 s22) = true ∧ s22.nv.ledgerReady = true) := by
  unfold memorySafe shaped
  refine ⟨?_, ?_⟩ <;> decide +kernel

end W12

namespace W13

def openAt (nx : Nat) (o : Option Nat) (bl ix n : Nat) (s : State) : State :=
  {s with lgr := {s.lgr with next := nx, openRecs := o, openTb := 5000000, placed := (bl, ix), marks := List.replicate n (5000000, 1)}}
def led (n : Nat) : State := openAt 2 (some n) 1 (n - 1) n base
def ledSealed (n : Nat) : State := openAt 3 (if n = 12 then none else some (n - 6)) 2 (n - 7) n base
def ent (n : Nat) : Bytes := ((List.range n).map (fun i => [byteOf (0x90 + i), byteOf (if i = 1 then 0xFE else 5), 1, 2, byteOf i, 0, 0, 0])).flatten
def ad (n : Nat) : Desc := desc 0x58 0 (8*n) 0x9000 0 [0]
def fullL : State := (fun (s : State) => {s with lgr := {s.lgr with next := s.lgr.w + lgrN s + 1, openRecs := none}}) (ledSealed 12)
def recal (s : State) : State := {s with nv := {s.nv with ledgerReady := false}}
def bufd (s : State) : State := {s with lgr := {s.lgr with buffered := List.replicate 64 (Buffered.host (ad 1) 0 [])}}
def ckL : State := openAt 4097 (some 1) 4096 0 1 {base with lgr := {base.lgr with next := 4096, head := 4090, w := 4000, signed := 3000}}
def stmts (s : State) : State := { s with nv := { s.nv with recs := (List.range 256).map (fun i => (recStatement i, ⟨some ⟨1, List.replicate 192 (byteOf i)⟩, none⟩)) } }
def rds : List Desc := [desc 0x59 0 0 0 0xA000 [1], desc 0x59 0 128 0 0xA000 [1,0,0,0,0,1], desc 0x59 0 256 0 0xA000 [1,0,0,0,0,3], desc 0x59 0 640 0 0xA000 [1,0,0,0,0,0], desc 0x59 0 384 0 0xA000 [254,0,0,0,1,0]]
def ck2 : State := (fun (s : State) => {s with lgr := {s.lgr with ckpt := [0]}}) (openAt 4098 (some 2) 4097 1 2 {base with lgr := {base.lgr with next := 4096, head := 4096, w := 4000, signed := 3000}})
def s1 : State := fly (ad 1) (host 36864 (ent 1) (led 3))
def d1 : Desc := ad 1
def s2 : State := fly (ad 1) (host 36864 (ent 1) (ledSealed 12))
def s3 : State := fly (ad 1) (host 36864 (ent 1) fullL)
def s4 : State := fly (ad 1) (host 36864 (ent 1) (recal (led 3)))
def s5 : State := fly (ad 1) (host 36864 (ent 1) (bufd (recal (led 3))))
def s6 : State := fly (desc 90 0 0 0 0 []) { (led 3) with lgr := { ((led 3).lgr) with signed := 1 } }
def d2 : Desc := desc 90 0 0 0 0 []
def s7 : State := fly (desc 90 0 0 0 0 []) { (ledSealed 12) with lgr := { ((ledSealed 12).lgr) with signed := 1 } }
def s8 : State := fly (desc 92 0 0 0 0 [1]) { (ledSealed 9) with lgr := { ((ledSealed 9).lgr) with signed := 1 } }
def d3 : Desc := desc 92 0 0 0 0 [1]
def s9 : State := fly (desc 92 0 0 0 0 [1]) ckL
def s10 : State := fly (desc 92 0 0 0 0 [1]) { (led 3) with lgr := { ((led 3).lgr) with signed := 1 } }
def s11 : State := fly (desc 89 0 0 0 40960 [1]) (led 3)
def d4 : Desc := desc 89 0 0 0 40960 [1]
def s12 : State := fly (desc 89 0 128 0 40960 [1, 0, 0, 0, 0, 1]) (led 3)
def d5 : Desc := desc 89 0 128 0 40960 [1, 0, 0, 0, 0, 1]
def s13 : State := fly (rds.getD 4 (ad 1)) (stmts (ledSealed 9))
def d6 : Desc := desc 89 0 384 0 40960 [254, 0, 0, 0, 1, 0]
def s14 : State := ck2

/-- What HostRecordsAreAppended asks is met. -/
theorem meets_HostRecordsAreAppended :
    (serves 5000100 d1 s1 ∧ isRow 88 d1 = true ∧ p8 d1 0 = 0 ∧ parNonzero 1 24 d1 = none ∧ 8 ≤ d1.len ∧ d1.len % 8 = 0 ∧ s1.lgr.lost = 0 ∧ (∀ m ∈ s1.lgr.marks, m.1 ≠ now (elapse 5000100 s1)) ∧ s1.nv.ledgerReady = true ∧ s1.nv.worn = [] ∧ 2 ≤ s1.lgr.next ∧ needsNewBase (elapse 5000100 s1).clk.wall.toNat s1 = false ∧ (((dmaRead d1 d1.srcAddr d1.len s1).toList).any (fun b => decide (badEntry b = none ∧ (s1.lgr.openRecs.toList).any (fun k => decide (k + (chunks 8 b).length < 6)) = true)) = true)) ∧
    (serves 5000100 d1 s2 ∧ s2.lgr.lost = 0 ∧ (∀ m ∈ s2.lgr.marks, m.1 ≠ now (elapse 5000100 s2)) ∧ s2.nv.ledgerReady = true ∧ s2.nv.worn = [] ∧ s2.lgr.openRecs = none ∧ s2.lgr.closed = false ∧ 1 ≤ s2.lgr.next ∧ openAllowed false s2 = true ∧ d1.len = 8 ∧ ((dmaRead d1 d1.srcAddr d1.len s2).toList).any (fun b => decide (badEntry b = none)) = true) ∧
    (serves 5000100 d1 s3 ∧ s3.lgr.lost = 0 ∧ (∀ m ∈ s3.lgr.marks, m.1 ≠ now (elapse 5000100 s3)) ∧ s3.nv.ledgerReady = true ∧ s3.lgr.openRecs = none ∧ openAllowed false s3 = false ∧ ((dmaRead d1 d1.srcAddr d1.len s3).toList).any (fun b => decide (badEntry b = none)) = true) ∧
    (serves 5000100 d1 s4 ∧ s4.lgr.lost = 0 ∧ (∀ m ∈ s4.lgr.marks, m.1 ≠ now (elapse 5000100 s4)) ∧ s4.nv.ledgerReady = false ∧ s4.lgr.buffered.length < 64 ∧ ((dmaRead d1 d1.srcAddr d1.len s4).toList).any (fun b => decide (badEntry b = none)) = true) ∧
    (serves 5000100 d1 s5 ∧ s5.lgr.lost = 0 ∧ (∀ m ∈ s5.lgr.marks, m.1 ≠ now (elapse 5000100 s5)) ∧ s5.nv.ledgerReady = false ∧ 64 ≤ s5.lgr.buffered.length ∧ ((dmaRead d1 d1.srcAddr d1.len s5).toList).any (fun b => decide (badEntry b = none)) = true) := by
  unfold serves memorySafe shaped
  refine ⟨?_, ?_, ?_, ?_, ?_⟩ <;> decide +kernel

/-- What BlocksAreSealedAndReleased asks is met. -/
theorem meets_BlocksAreSealedAndReleased :
    (live s6 = true ∧ memorySafe s6 ∧ shaped s6 ∧ s6.nv.ledgerReady = true ∧ serves 1 d2 s6 ∧ isRow 90 d2 = true ∧ parNonzero 0 24 d2 = none ∧ 1 ≤ s6.lgr.next - 1 ∧ s6.lgr.next - 1 < 4294967295 ∧ s6.nv.worn = [] ∧ (s6.lgr.openRecs.toList).any (fun k => decide (k < 6)) = true) ∧
    (live s7 = true ∧ memorySafe s7 ∧ shaped s7 ∧ s7.nv.ledgerReady = true ∧ serves 1 d2 s7 ∧ s7.lgr.openRecs = none) ∧
    (s6.lgr.openTb + secTicks s6.lgr.sealS ≤ now (elapse (5000000 + 70 * 38400000) s6)) ∧
    (now (elapse 1 s6) < s6.lgr.openTb + secTicks s6.lgr.sealS) ∧
    (live s8 = true ∧ memorySafe s8 ∧ shaped s8 ∧ s8.nv.ledgerReady = true ∧ serves 1 d3 s8 ∧ isRow 92 d3 = true ∧ parNonzero 4 24 d3 = none ∧ p32 d3 0 ≤ s8.lgr.signed ∧ p32 d3 0 ≤ lgrSealed s8 ∧ s8.lgr.w < p32 d3 0 ∧ recFails recW s8 = false) ∧
    (live s9 = true ∧ memorySafe s9 ∧ shaped s9 ∧ s9.nv.ledgerReady = true ∧ serves 1 d3 s9 ∧ p32 d3 0 ≤ s9.lgr.signed ∧ p32 d3 0 ≤ lgrSealed s9 ∧ p32 d3 0 ≤ s9.lgr.w) ∧
    (live s10 = true ∧ memorySafe s10 ∧ shaped s10 ∧ s10.nv.ledgerReady = true ∧ serves 1 d3 s10 ∧ (s10.lgr.signed < p32 d3 0 ∨ lgrSealed s10 < p32 d3 0)) := by
  unfold serves memorySafe shaped
  refine ⟨?_, ?_, ?_, ?_, ?_, ?_, ?_⟩ <;> decide +kernel

/-- What LedgerIsReadAndAttested asks is met. -/
theorem meets_LedgerIsReadAndAttested :
    (live s11 = true ∧ memorySafe s11 ∧ shaped s11 ∧ s11.nv.ledgerReady = true ∧ serves 1 d4 s11 ∧ isRow 89 d4 = true ∧ p8 d4 5 ≤ 3 ∧ parNonzero 6 24 d4 = none ∧ p8 d4 4 = 0 ∧ d4.len = 0) ∧
    (live s12 = true ∧ memorySafe s12 ∧ shaped s12 ∧ s12.nv.ledgerReady = true ∧ serves 1 d5 s12 ∧ isRow 89 d5 = true ∧ p8 d5 5 ≤ 3 ∧ parNonzero 6 24 d5 = none ∧ p8 d5 4 = 0 ∧ d5.len ≠ 0 ∧ 1 ≤ p32 d5 0 ∧ s12.lgr.head ≤ p32 d5 0 ∧ p32 d5 0 ≤ lgrTail s12 ∧ dmaBlocked d5 d5.dstAddr (List.map (fun q => blockBytes q s12) (readRange (bit 1 (p8 d5 5)) s12 (d5.len / 64) (p32 d5 0)).1).flatten.length s12 = false) ∧
    (live s13 = true ∧ memorySafe s13 ∧ shaped s13 ∧ s13.nv.ledgerReady = true ∧ serves 1 d6 s13 ∧ isRow 89 d6 = true ∧ p8 d6 5 ≤ 3 ∧ parNonzero 6 24 d6 = none ∧ p8 d6 4 = 1 ∧ d6.len ≠ 0 ∧ p32 d6 0 ≤ 255 ∧ (∀ k < 256, (recRead (recStatement k) s13).isSome = true) ∧ dmaBlocked d6 d6.dstAddr (List.map (fun i => fit 192 ((recRead (recStatement (p32 d6 0 + i)) s13).getD [])) (List.range (d6.len / 192))).flatten.length s13 = false) ∧
    (live s14 = true ∧ memorySafe s14 ∧ shaped s14 ∧ s14.nv.ledgerReady = true ∧ s14.lcy.drover = DroverSt.ready ∧ droverBusy s14 = false ∧ rngState s14 = 2 ∧ s14.lgr.lost = 0 ∧ s14.lgr.closed = false ∧ needsNewBase (elapse 1 s14).clk.wall.toNat s14 = false ∧ (s14.lgr.openRecs.toList).any (fun j => decide (j < 5)) = true ∧ ((List.take 1 s14.lgr.ckpt).any (fun k => decide (s14.lgr.ckpt = [k] ∧ recFails (recStatement k) s14 = false ∧ firstBad (blocksOf (max (4096 * k + 1) s14.lgr.head) (4096 * k + 4096)) s14 = none)) = true)) := by
  unfold serves memorySafe shaped
  refine ⟨?_, ?_, ?_, ?_⟩ <;> decide +kernel

end W13

namespace W14

def c0 : Channel := Tmr.reset.ch.getD 0 (chan 0 State.reset)
def setC (n : Nat) (c : Channel) (s : State) : State := {s with tmr := {s.tmr with ch := s.tmr.ch.set n c}}
def cfg (n m src ord flt act c per cnt : Nat) : Desc := desc 0x60 n 0 0 0 ([m,src,ord,flt,act,0,0,0] ++ (leBytes 4 c).map (·.toNat) ++ (leBytes 4 per).map (·.toNat) ++ (leBytes 4 cnt).map (·.toNat))
def c2 (a : Nat) : Channel := {c0 with mode := 2, armed := true, c := 5000050, act := a}
def c3 (l : Option Nat) (p : Nat) : Channel := {c0 with mode := 3, armed := true, c := 5000050, act := 2, period := p, left := l}
def c1 (f : Bool) (o flt : Nat) : Channel := {c0 with mode := 1, src := 3, order := o, filt := flt, since := 4999000, fresh := f}
def puls : State := setFld (TMR_PINFn.FUNC 0 3) 4 {base with tmr := {base.tmr with pulses := [⟨3, 5000050, true⟩]}}
def walls (s : State) : List State := [0x100000000, 0x100000000 + 65535, 0x100000003, 0x100008000].map (fun w => {s with clk := {s.clk with wall := w}})
def disc (s : State) : State := setFld CLK_GAP_CTL.EPOCH_EVT 0 (setFld CLK_GAP_CTL.SEC_EVT 0 (setFld CLK_GAP_CTL.SNAP_WIN 200 (setFld CLK_GAP_CTL.SEC_DISC 1 (setFld CLK_GAP_CTL.ATTN_EN 1 s))))
def samples0 : List (State) := (walls base ++ walls (disc base)).flatMap (fun s => [s, {s with clk := {s.clk with timeSet := some 0x200000000}}, {s with pwr := {s.pwr with st := .graze}}, {s with pwr := {s.pwr with st := .watch}, clk := {s.clk with content := .slow}}, {s with clk := {s.clk with gapAt := some 4999990}}])
def s1 : State := fly (cfg 5 0 0 0 0 64 0 0 0) base
def d1 : Desc := cfg 5 0 0 0 0 64 0 0 0
def s2 : State := fly (cfg 31 0 0 0 0 0 0 0 0) base
def d2 : Desc := cfg 31 0 0 0 0 0 0 0 0
def s3 : State := fly (cfg 5 4 0 0 0 0 0 0 0) base
def d3 : Desc := cfg 5 4 0 0 0 0 0 0 0
def s4 : State := fly (desc 97 5 0 0 40960 []) base
def d4 : Desc := desc 97 5 0 0 40960 []
def s5 : State := setC 3 (c2 1) base
def s6 : State := setC 3 (c3 none 3840) base
def s7 : State := setC 3 ({ (c2 9) with c := 3 }) ({ base with clk := { base.clk with tb := 4294967290 } })
def s8 : State := setC 3 (c1 true 0 0) base
def s9 : State := puls
def s10 : State := { base with clk := { base.clk with wall := 4294967296 } }
def v1 : Gap := { interval := 4 * (3 + 1), period := 4, fall := 4999000 }
def v2 : Gap := { interval := 4 * (5 + 1), period := 4, fall := 4999000 }
def s11 : State := samples0.get ⟨1, by decide +kernel⟩
def v3 : Gap := { interval := 4 * (7 + 1), period := 4, fall := 4999000 }
def v4 : Gap := { interval := 4 * (1 + 1), period := 4, fall := 4999000 }
def v5 : Machine.Field := CLK_VIOL_CNT.GAP1

/-- What TimersConfigureMatchAndCapture asks is met (TimersAreConfiguredAndRead). -/
theorem meets_TimersAreConfiguredAndRead :
    (serves 1 d1 s1 ∧ d1.target < 32 ∧ isRow 96 d1 = true ∧ cfgReserved d1.target s1 = false ∧ cfgParBad d1 = none) ∧
    (serves 1 d2 s2 ∧ d2.target < 32 ∧ isRow 96 d2 = true ∧ cfgReserved d2.target s2 = true) ∧
    (serves 1 d3 s3 ∧ d3.target < 32 ∧ isRow 96 d3 = true ∧ cfgReserved d3.target s3 = false ∧ ((cfgParBad d3).toList).any (fun _ => true) = true) ∧
    (serves 1 d4 s4 ∧ d4.target < 32 ∧ isRow 97 d4 = true ∧ parNonzero 0 24 d4 = none ∧ dmaBlocked d4 d4.dstAddr 32 s4 = false) := by
  unfold serves memorySafe shaped
  refine ⟨?_, ?_, ?_, ?_⟩ <;> decide +kernel

/-- What TimersConfigureMatchAndCapture asks is met (TimersMatchAndCapture). -/
theorem meets_TimersMatchAndCapture :
    (live s5 = true ∧ memorySafe s5 ∧ shaped s5 ∧ s5.nv.ledgerReady = true ∧ 3 < 32 ∧ (chan 3 s5).armed = true ∧ fires (now (elapse 5000100 s5)) (chan 3 s5).c = true ∧ (3 = 29 ∨ 3 = 30 → startEn s5 = false) ∧ tbRuns s5 = true ∧ overflowDue (elapse 5000100 s5) = false ∧ (chan 3 s5).mode = 2) ∧
    (live s6 = true ∧ memorySafe s6 ∧ shaped s6 ∧ s6.nv.ledgerReady = true ∧ (chan 3 s6).armed = true ∧ fires (now (elapse 5000100 s6)) (chan 3 s6).c = true ∧ (3 = 29 ∨ 3 = 30 → startEn s6 = false) ∧ tbRuns s6 = true ∧ overflowDue (elapse 5000100 s6) = false ∧ (chan 3 s6).mode = 3) ∧
    (live s7 = true ∧ memorySafe s7 ∧ shaped s7 ∧ s7.nv.ledgerReady = true ∧ 3 < 29 ∧ (chan 3 s7).armed = true ∧ (chan 3 s7).mode = 2 ∧ fires (now (elapse (2 ^ 32 + 7) s7)) (chan 3 s7).c = true ∧ tbRuns s7 = true ∧ overflowDue (elapse (2 ^ 32 + 7) s7) = true) ∧
    (s5.tmr.wraps < now (elapse (2 ^ 32 + 7) s5) / 2 ^ 32) ∧
    (live s8 = true ∧ memorySafe s8 ∧ shaped s8 ∧ s8.nv.ledgerReady = true ∧ 3 < 31 ∧ (chan 3 s8).mode = 1 ∧ (chan 3 s8).since ≤ sampledAt 4999500 (elapse 3 s8) ∧ sampledAt 4999500 (elapse 3 s8) + ((chan 3 s8).filt + 1) * evalStep s8 ≤ sampledAt 4999600 (elapse 3 s8) ∧ sampledAt 4999600 (elapse 3 s8) + (chan 3 s8).filt * evalStep s8 ≤ now (elapse 3 s8) ∧ tbRuns s8 = true) ∧
    (live s9 = true ∧ memorySafe s9 ∧ shaped s9 ∧ s9.nv.ledgerReady = true ∧ (s9.tmr.pulses.any fun p => p.pin == 3 && decide (p.stop ≤ now (elapse 5000100 s9))) = true) := by
  unfold memorySafe shaped
  refine ⟨?_, ?_, ?_, ?_, ?_, ?_⟩ <;> decide +kernel

/-- What MarksKeepTheWallClock asks is met. -/
theorem meets_MarksKeepTheWallClock :
    (live s10 = true ∧ memorySafe s10 ∧ shaped s10 ∧ s10.nv.ledgerReady = true ∧ tbRuns s10 = true ∧ gapClass v1 (elapse 5 s10) = some GapClass.second) ∧
    (gapClass v2 (elapse 5 s10) = some GapClass.epoch ∧ s10.clk.timeSet = none) ∧
    (live s11 = true ∧ memorySafe s11 ∧ shaped s11 ∧ s11.nv.ledgerReady = true ∧ tbRuns s11 = true ∧ gapClass v2 (elapse 5 s11) = some GapClass.epoch ∧ (s11.clk.timeSet.toList).any (fun v => decide ((elapse 5 s11).clk.wall ≤ v)) = true) ∧
    (gapClass v3 (elapse 5 s10) = some GapClass.attention) ∧
    (((gapClass v4 (elapse 5 s10)).toList).any (fun c => decide (violField c = some (v5, 1))) = true) := by
  unfold memorySafe shaped
  refine ⟨?_, ?_, ?_, ?_, ?_⟩ <;> decide +kernel

end W14

namespace W15

def st (p : PState) (s : State) : State := setFld PWR_STATUS.STATE p.code {s with pwr := {s.pwr with st := p}}
def cont (c : Content) (s : State) : State := {s with clk := {s.clk with content := c}}
def lost (s : State) : State := {s with clk := {s.clk with content := .none, lost := true}, nv := {s.nv with ledgerReady := false}}
def perm (s : State) : State := setFld FLK_STATUS.START_ACTIVE 1 (setFld FLK_START_CTL.EN 1 {s with flk := {s.flk with perm := some ⟨1, 4000000, 0⟩}})
def lin (s : State) : State := {s with pins := {s.pins with startA := true}}
def nop1 : Desc := desc 0x48 0 8 0 0xA000 [1]
def down (s : State) : State := {s with hif := {s.hif with link := .down, trained := false}}
def idl (s : State) : State := {s with pwr := {s.pwr with idleSince := some 4000000}}
def app (n : Nat) (s : State) : State := (fun (s : State) => {s with nv := {s.nv with buf := []}}) ((List.range n).foldl (fun s i => append (0x80 + i % 3) i (1000 + i) s) s)
def entr (q : PState) (c : Nat) (s : State) : State := {s with pwr := {s.pwr with entering := some (q, c)}}
def en (s : State) : State := setFld PWR_WAKE_CTL.EN 0x5 s
def hold1 (s : State) : State := setFld PWR_STATUS.HOLD_RUN 1 s
def sched (s : State) : State := setFld (PWR_SCHEDn.ENTRY_EN 2) 1 (setFld PWR_SCHED_CTL.EN 1 s)
def ph (s : State) : State := {s with pins := {s.pins with perst := true}}
def wk (poll : Nat) (s : State) : State := setFld PWR_WAKE_CTL.POLL poll (en (treed s))
def due (s : State) : State := setFld (PWR_SCHEDn.PERIOD 2) 100 (setFld (PWR_SCHEDn.SLOTS 2) 3 ({sched s with pwr := {s.pwr with due := s.pwr.due.set 2 (some 5000050)}}))
def pme (s : State) : State := {s with hif := {s.hif with pmeOff := true}}
def s1 : State := base
def v1 : ClkCheck := ClkCheck.missingEdge
def s2 : State := { (lin (perm (st PState.watch base))) with pwr := { ((st PState.watch base).pwr) with islands := 1 } }
def s3 : State := { base with pwr := { base.pwr with qual := true } }
def s4 : State := lost base
def s5 : State := cont Content.none base
def s6 : State := cont Content.none (st PState.watch base)
def s7 : State := setFld CLK_WATCH_CTL.SLOW_EN 0 (cont Content.none (st PState.watch base))
def s8 : State := idl base
def s9 : State := idl (down (app 3 base))
def s10 : State := entr PState.graze 5000050 base
def s11 : State := st PState.fallow (down base)
def s12 : State := st PState.graze base
def s13 : State := st PState.graze (hold1 base)
def s14 : State := st PState.graze (sched base)
def s15 : State := st PState.watch (hold1 base)
def s16 : State := st PState.watch (ph base)
def s17 : State := st PState.run (ph base)
def s18 : State := st PState.run base
def v2 : WakeSrc := WakeSrc.pin 0
def s19 : State := wk 0 base
def s20 : State := wk 0 (cont Content.none (st PState.watch base))
def s21 : State := due (treed base)
def s22 : State := due (treed (setFld (PWR_SCHEDn.FOLD 2) 9 base))
def s23 : State := due (treed (cont Content.slow (st PState.watch (down base))))
def v3 : LinkState := LinkState.down
def s24 : State := ph base
def v4 : LinkState := LinkState.training
def s25 : State := pme base
def s26 : State := pme (fly nop1 base)
def s27 : State := st PState.fallow base

/-- What ClockIsLostAndRegained asks is met. -/
theorem meets_ClockIsLostAndRegained :
    (calm s1 = true ∧ memorySafe s1 ∧ shaped s1 ∧ live s1 = true ∧ s1.nv.ledgerReady = true ∧ fastContent s1 = true ∧ (s1.pwr.st = PState.run ∨ s1.pwr.st = PState.graze) ∧ s1.pwr.qual = false) ∧
    (calm s2 = true ∧ memorySafe s2 ∧ shaped s2 ∧ live s2 = true ∧ s2.nv.ledgerReady = true ∧ s2.pwr.st = PState.watch ∧ tbRuns s2 = true ∧ pllInWatch s2 = false ∧ s2.flk.revoke = [] ∧ s2.pwr.qual = false ∧ checkMade v1 s2 = true) ∧
    (calm s3 = true ∧ memorySafe s3 ∧ shaped s3 ∧ s3.pwr.qual = true) ∧
    (calm s4 = true ∧ memorySafe s4 ∧ shaped s4 ∧ s4.clk.lost = true ∧ isFast (classOf 5000100) = true ∧ s4.nv.ledgerReady = false ∧ s4.pwr.held = [] ∧ s4.pwr.vaonDown = false ∧ s4.pwr.inReset = false) ∧
    (calm s5 = true ∧ memorySafe s5 ∧ shaped s5 ∧ (s5.clk.content = Content.none ∨ s5.clk.content = Content.invalid) ∧ s5.clk.lost = false ∧ s5.pwr.vaonDown = false ∧ s5.pwr.st ≠ PState.fallow ∧ (s5.pwr.st ≠ PState.watch ∨ s5.pwr.inReset = true)) ∧
    (calm s6 = true ∧ memorySafe s6 ∧ shaped s6 ∧ (s6.clk.content = Content.none ∨ s6.clk.content = Content.invalid) ∧ s6.clk.lost = false ∧ s6.pwr.vaonDown = false ∧ s6.pwr.st ≠ PState.fallow ∧ s6.pwr.st = PState.watch ∧ s6.pwr.inReset = false ∧ s6.pwr.exitArmed = none ∧ s6.pwr.held = [] ∧ classOf 5000100 = Content.fast38) ∧
    (classOf 3276 = Content.slow ∧ flag CLK_WATCH_CTL.SLOW_EN s6 = true) ∧
    (calm s7 = true ∧ memorySafe s7 ∧ shaped s7 ∧ (s7.clk.content = Content.none ∨ s7.clk.content = Content.invalid) ∧ s7.clk.lost = false ∧ s7.pwr.vaonDown = false ∧ s7.pwr.st ≠ PState.fallow ∧ s7.pwr.st = PState.watch ∧ s7.pwr.inReset = false ∧ s7.pwr.exitArmed = none ∧ s7.pwr.held = [] ∧ flag CLK_WATCH_CTL.SLOW_EN s7 = false) ∧
    (storeDue (elapse 50000000010 s1) = true ∧ recFails recWall s1 = false) := by
  unfold memorySafe shaped
  refine ⟨?_, ?_, ?_, ?_, ?_, ?_, ?_, ?_, ?_⟩ <;> decide +kernel

/-- What PowerStatesAreEntered asks is met. -/
theorem meets_PowerStatesAreEntered :
    (memorySafe s8 ∧ shaped s8 ∧ live s8 = true ∧ mayEnter (elapse 1 s8) = true ∧ selState true (elapse 1 s8) ≠ PState.fallow) ∧
    (memorySafe s1 ∧ shaped s1 ∧ live s1 = true ∧ mayEnter (elapse 1 s1) = false) ∧
    (memorySafe s9 ∧ shaped s9 ∧ live s9 = true ∧ mayEnter (elapse 1 s9) = true ∧ selState true (elapse 1 s9) = PState.fallow ∧ s9.nv.ledgerReady = true ∧ s9.nv.worn = [] ∧ s9.nv.wornRecs = [] ∧ (tally 253 s9).isSome = true ∧ tallyVal 253 s9 < tallyMax) ∧
    (memorySafe s10 ∧ shaped s10 ∧ live { s10 with pwr := { s10.pwr with entering := none } } = true ∧ 5000100 < 2 ^ 63 ∧ tbRuns s10 = true ∧ s10.lcy.nonce = none ∧ ((s10.pwr.entering).any (fun (q, c) => decide (q ≠ PState.run ∧ c ≤ 5000100)) = true)) ∧
    (memorySafe s11 ∧ shaped s11 ∧ live s11 = true ∧ s11.pwr.st = PState.fallow) := by
  unfold memorySafe shaped
  refine ⟨?_, ?_, ?_, ?_, ?_⟩ <;> decide +kernel

/-- What WakeSourcesExitToRun asks is met. -/
theorem meets_WakeSourcesExitToRun :
    (memorySafe s12 ∧ shaped s12 ∧ s12.pwr.srcAt ≠ some (now (elapse 1 s12)) ∧ live s12 = true ∧ (s12.pwr.st = PState.graze ∨ s12.pwr.st = PState.pen)) ∧
    (memorySafe s13 ∧ shaped s13 ∧ s13.pwr.srcAt ≠ some (now (elapse 1 s13)) ∧ live s13 = true ∧ (s13.pwr.st = PState.graze ∨ s13.pwr.st = PState.pen) ∧ flag PWR_STATUS.HOLD_RUN s13 = true) ∧
    (memorySafe s14 ∧ shaped s14 ∧ s14.pwr.srcAt ≠ some (now (elapse 1 s14)) ∧ live s14 = true ∧ (s14.pwr.st = PState.graze ∨ s14.pwr.st = PState.pen) ∧ schedOn s14 = true) ∧
    (linkUp s12 = true) ∧
    ((List.range 8).any (fun n => decide (bit n (fld PWR_WAKE_CTL.EN s12) = true)) = true) ∧
    (memorySafe s15 ∧ shaped s15 ∧ s15.pwr.srcAt ≠ some (now (elapse 1 s15)) ∧ live s15 = true ∧ s15.pwr.st = PState.watch ∧ flag PWR_STATUS.HOLD_RUN s15 = true) ∧
    (s15.pins.perst = false) ∧
    (memorySafe s16 ∧ shaped s16 ∧ s16.pwr.srcAt ≠ some (now (elapse 1 s16)) ∧ live s16 = true ∧ s16.pwr.st = PState.watch ∧ s16.pins.perst = true) ∧
    (memorySafe s17 ∧ shaped s17 ∧ s17.pwr.srcAt ≠ some (now (elapse 1 s17)) ∧ live s17 = true ∧ s17.pins.perst = true ∧ s17.pwr.st ≠ PState.watch) ∧
    (s12.pins.perst = false) ∧
    (memorySafe s18 ∧ shaped s18 ∧ s18.pwr.srcAt ≠ some (now (elapse 1 s18)) ∧ live s18 = true ∧ (s18.pwr.st = PState.run ∨ s18.pwr.st = PState.fallow)) ∧
    (memorySafe s10 ∧ shaped s10 ∧ s10.pwr.srcAt ≠ some (now (elapse 1 s10)) ∧ s10.pwr.st = PState.run ∧ 1 < 2 ^ 63 ∧ s10.nv.ledgerReady = true ∧ live { s10 with pwr := { s10.pwr with entering := none } } = true ∧ ((s10.pwr.entering).any (fun (q, c) => decide (1 < c ∧ now (elapse 1 s10) < c)) = true)) ∧
    (linkUp s10 = true) ∧
    ((List.range 8).any (fun n => decide (bit n (fld PWR_WAKE_CTL.EN s10) = true)) = true) := by
  unfold memorySafe shaped
  refine ⟨?_, ?_, ?_, ?_, ?_, ?_, ?_, ?_, ?_, ?_, ?_, ?_, ?_, ?_⟩ <;> decide +kernel

/-- What ScheduleAndPinsAskForPolls asks is met (PinsAndScheduleAskForPolls). -/
theorem meets_PinsAndScheduleAskForPolls :
    (live s19 = true ∧ memorySafe s19 ∧ shaped s19 ∧ s19.nv.ledgerReady = true ∧ wakeArmed 0 5000060 0 s19 = true ∧ s19.pwr.st = PState.run) ∧
    (live s20 = true ∧ memorySafe s20 ∧ shaped s20 ∧ s20.nv.ledgerReady = true ∧ wakeArmed 0 5000060 0 s20 = true ∧ s20.pwr.st = PState.watch ∧ fastContent s20 = false) ∧
    (live s21 = true ∧ memorySafe s21 ∧ shaped s21 ∧ s21.nv.ledgerReady = true ∧ s21.pwr.st = PState.run ∧ ((List.range 16).any (fun e => decide (s21.fold.live.defined (fld (PWR_SCHEDn.FOLD e) s21) = true ∧ autoQueued (fld (PWR_SCHEDn.FOLD e) s21) s21 = false ∧ ((s21.pwr.due.getD e none).toList).any (fun d => decide (d ≤ now (elapse 5000060 s21))) = true)) = true)) ∧
    (live s22 = true ∧ memorySafe s22 ∧ shaped s22 ∧ s22.nv.ledgerReady = true ∧ s22.pwr.st = PState.run ∧ ((List.range 16).any (fun e => decide (s22.fold.live.defined (fld (PWR_SCHEDn.FOLD e) s22) = false ∧ ((s22.pwr.due.getD e none).toList).any (fun d => decide (d ≤ now (elapse 5000060 s22))) = true)) = true)) ∧
    (live s23 = true ∧ memorySafe s23 ∧ shaped s23 ∧ s23.nv.ledgerReady = true ∧ s23.pwr.st = PState.watch ∧ fastContent s23 = false ∧ (List.range 16).any (fun e => decide (((s23.pwr.due.getD e none).toList).any (fun d => decide (d ≤ now (elapse 5000060 s23))) = true)) = true) := by
  unfold memorySafe shaped
  refine ⟨?_, ?_, ?_, ?_, ?_⟩ <;> decide +kernel

/-- What LinkStatesAndResets asks is met. -/
theorem meets_LinkStatesAndResets :
    (live s1 = true ∧ memorySafe s1 ∧ shaped s1 ∧ s1.pwr.srcAt ≠ some (now (elapse 1 s1)) ∧ s1.pins.perst = false ∧ s1.hif.held = [] ∧ (s1.pwr.st = PState.run ∨ s1.pwr.st = PState.pen ∧ s1.hif.link = LinkState.l1 ∧ v3 = LinkState.l0) ∧ 1 < 2 ^ HIF_LINK.SPEED.width ∧ 1 < 2 ^ HIF_LINK.WIDTH.width) ∧
    (live s24 = true ∧ memorySafe s24 ∧ shaped s24 ∧ s24.pwr.srcAt ≠ some (now (elapse 1 s24)) ∧ s24.pins.perst = true ∧ v4 ≠ LinkState.down) ∧
    (linkUp s1 = true) ∧
    (live s25 = true ∧ memorySafe s25 ∧ shaped s25 ∧ s25.pwr.srcAt ≠ some (now (elapse 1 s25)) ∧ s25.hif.pmeOff = true ∧ isIdle (elapse 1 s25) = true) ∧
    (live s26 = true ∧ memorySafe s26 ∧ shaped s26 ∧ s26.pwr.srcAt ≠ some (now (elapse 1 s26)) ∧ s26.hif.pmeOff = true ∧ isIdle (elapse 1 s26) = false) ∧
    (live s27 = true ∧ memorySafe s27 ∧ shaped s27 ∧ s27.pwr.srcAt ≠ some (now (elapse 1 s27)) ∧ s27.pwr.st = PState.fallow ∧ s27.nv.ledgerReady = true) ∧
    (s1.pwr.st ≠ PState.fallow ∧ s1.nv.ledgerReady = true ∧ (false = true → linkUp s1 = true)) := by
  unfold memorySafe shaped
  refine ⟨?_, ?_, ?_, ?_, ?_, ?_, ?_⟩ <;> decide +kernel

end W15

namespace W16

def st (p : PState) (s : State) : State := setFld PWR_STATUS.STATE p.code {s with pwr := {s.pwr with st := p}}
def perm (s : State) : State := setFld FLK_STATUS.START_ACTIVE 1 (setFld FLK_START_CTL.EN 1 {s with flk := {s.flk with perm := some ⟨1, 4000000, 0⟩}})
def rn (s : State) : State := {s with pins := {s.pins with resetN := true}}
def inR (s : State) : State := {s with pwr := {s.pwr with inReset := true, vaonDown := false}, nv := {s.nv with ledgerReady := false}}
def vd (s : State) : State := {s with pwr := {s.pwr with vaonDown := true, inReset := true}, nv := {s.nv with ledgerReady := false}}
def nop1 : Desc := desc 0x48 0 8 0 0xA000 [1]
def app (n : Nat) (s : State) : State := (List.range n).foldl (fun s i => append (0x80 + i % 3) i (1000 + i) s) s
def busy : State := {fly nop1 (perm (app 3 base)) with clk := {base.clk with slew := 5, wallRem := 3}}
def canq (s : State) : State := setFld FLK_CAN_STAT.TEC 9 {s with flk := {s.flk with txq := [⟨1,false,[]⟩]}}
def hang (n : Nat) (s : State) : State := {s with pwr := {s.pwr with hangs := List.replicate n (Island.can.bit, 4990000)}}
def boot (s : State) : State := {s with lcy := {s.lcy with drover := .booting, progress := 1000000}}
def unrec (s : State) : State := {s with nv := {s.nv with ledgerReady := false, loaded := false}, lgr := Lgr.reset}
def noReady (s : State) : State := setFld HIF_STATUS.READY 0 s
def s1 : State := base
def s2 : State := rn base
def v1 : TornWord := TornWord.old
def s3 : State := busy
def s4 : State := vd base
def s5 : State := inR base
def s6 : State := inR (rn base)
def v2 : Word := 0
def s7 : State := canq base
def s8 : State := canq (hang 2 base)
def s9 : State := boot base
def s10 : State := unrec base
def s11 : State := noReady base
def s12 : State := setFld PWR_WAKE_CTL.EN 1 (st PState.fallow base)
def v3 : WakeSrc := WakeSrc.pin 0

/-- What ResetsKeepTimeAndMram asks is met. -/
theorem meets_ResetsKeepTimeAndMram :
    (calm s1 = true ∧ memorySafe s1 ∧ shaped s1) ∧
    (calm s2 = true ∧ memorySafe s2 ∧ shaped s2 ∧ s2.pins.resetN = true ∧ s2.pwr.vaonDown = false) ∧
    (s1.pins.resetN = false) ∧
    (s1.pwr.vaonDown = false ∧ bufWords (elapse 1 s1) ≤ 1) ∧
    (calm s3 = true ∧ memorySafe s3 ∧ shaped s3 ∧ s3.pwr.vaonDown = false ∧ 0 < bufWords (elapse 1 s3)) ∧
    (calm s4 = true ∧ memorySafe s4 ∧ shaped s4 ∧ s4.pwr.vaonDown = true ∧ 1 < 16 ∧ (s4.lcy.otp = 0 ∨ 14 ≤ s4.lcy.otp ∧ s4.lcy.otp ≤ 21)) ∧
    (calm s5 = true ∧ memorySafe s5 ∧ shaped s5 ∧ s5.pwr.inReset = true ∧ s5.pwr.vaonDown = false ∧ fastContent s5 = true ∧ s5.pwr.qual = false ∧ s5.nv.ledgerReady = false ∧ s5.lgr.buffered.length < 64) ∧
    (s5.pins.resetN = false) ∧
    (calm s6 = true ∧ memorySafe s6 ∧ shaped s6 ∧ s6.pwr.inReset = true ∧ s6.pwr.vaonDown = false ∧ fastContent s6 = true ∧ s6.pwr.qual = false ∧ s6.nv.ledgerReady = false ∧ s6.lgr.buffered.length < 64 ∧ s6.pins.resetN = true) := by
  unfold memorySafe shaped
  refine ⟨?_, ?_, ?_, ?_, ?_, ?_, ?_, ?_, ?_⟩ <;> decide +kernel

/-- What IslandsAreResetAlone asks is met. -/
theorem meets_IslandsAreResetAlone :
    (live s1 = true ∧ memorySafe s1 ∧ shaped s1 ∧ s1.nv.ledgerReady = true ∧ (∀ x ∈ rstIslands, bit x.1 (BitVec.toNat v2) = false ∨ islandOn x.2 s1 = false) ∧ islandOn Island.pcie s1 = true ∧ s1.pwr.st = PState.run) ∧
    (islandOn Island.can s1 = true) ∧
    (live s7 = true ∧ memorySafe s7 ∧ shaped s7 ∧ s7.nv.ledgerReady = true ∧ islandOn Island.can s7 = true ∧ tbRuns s7 = true ∧ quietFor Island.can (msTicks 10) (elapse 1 s7) = true ∧ List.countP (fun h => decide (h.1 = Island.can.bit)) (List.filter (fun h => decide (now (elapse 1 s7) < h.2 + secTicks 1)) s7.pwr.hangs) < 2) ∧
    (live s8 = true ∧ memorySafe s8 ∧ shaped s8 ∧ s8.nv.ledgerReady = true ∧ islandOn Island.can s8 = true ∧ tbRuns s8 = true ∧ quietFor Island.can (msTicks 10) (elapse 1 s8) = true ∧ 2 ≤ List.countP (fun h => decide (h.1 = Island.can.bit)) (List.filter (fun h => decide (now (elapse 1 s8) < h.2 + secTicks 1)) s8.pwr.hangs)) ∧
    (live s2 = true ∧ memorySafe s2 ∧ shaped s2 ∧ s2.nv.ledgerReady = true ∧ s2.pins.resetN = true ∧ s2.lf.run = none ∧ s2.lf.cals = [] ∧ s2.hif.flight = []) ∧
    ((tbRuns s1 = false ∨ droverQuiet (elapse 1 s1) = false)) ∧
    (live s9 = true ∧ memorySafe s9 ∧ shaped s9 ∧ s9.nv.ledgerReady = true ∧ islandOn Island.drover s9 = true ∧ tbRuns s9 = true ∧ droverQuiet (elapse 1 s9) = true) ∧
    (s9.lcy.drover = DroverSt.booting ∧ s9.hif.droverQ = [] ∧ s9.hif.flight = [] ∧ s9.lcy.trial = none ∧ s9.mon.desc = none ∧ (∀ n < 32, (qp n s9).blkDrv = false)) := by
  unfold memorySafe shaped
  refine ⟨?_, ?_, ?_, ?_, ?_, ?_, ?_, ?_⟩ <;> decide +kernel

/-- What StartsRecallLoadAndBoot asks is met. -/
theorem meets_StartsRecallLoadAndBoot :
    (live s10 = true ∧ memorySafe s10 ∧ shaped s10 ∧ fastContent s10 = true ∧ islandOn Island.nvs s10 = true ∧ s10.nv.ledgerReady = false) ∧
    (live s11 = true ∧ memorySafe s11 ∧ shaped s11 ∧ s11.nv.loaded = true ∧ s11.nv.ledgerReady = true ∧ fastContent s11 = true ∧ flag HIF_STATUS.READY s11 = false) ∧
    (live s12 = true ∧ memorySafe s12 ∧ shaped s12 ∧ s12.pwr.st = PState.fallow ∧ leavesFallow v3 s12 = true ∧ isFast (classOf 5000100) = true ∧ s12.lgr.buffered = [] ∧ s12.pwr.aonLoad = false ∧ s12.pwr.srcAt ≠ some (now (elapse 1 s12))) := by
  unfold memorySafe shaped
  refine ⟨?_, ?_, ?_⟩ <;> decide +kernel

end W16

namespace W17

def withRec (id : Nat) (b : Bytes) (s : State) : State := (recStore id b s).1
def clean (s : State) : State := {s with nv := {s.nv with buf := []}, regs := base.regs}
def hdr : Bytes := leBytes 4 0xB1E50030 ++ leBytes 4 7 ++ leBytes 4 48 ++ List.replicate 244 0
def image : Bytes := hdr ++ List.replicate 48 5
def banked (b : Nat) (s : State) : State := let s1 := withRec (recBank b) (bankBytes true 7 (imgLen image)) s; clean {s1 with nv := {s1.nv with mem := mwrite nvDflt s1.nv.mem (bankAddr b) image}}
def halfway (k : Nat) (s : State) : State := {s with lcy := {s.lcy with stage := some ⟨1, k⟩}, nv := {s.nv with mem := mwrite nvDflt s.nv.mem (bankAddr 1) (image.take k)}}
def stg (b off n last : Nat) : Desc := desc 0x68 b n 0x9000 0 (leList off ++ [last])
where leList (x : Nat) : List Nat := [x % 256, x / 256 % 256, x / 65536, 0]
def bad : Bytes := List.replicate 48 3
def act (m b : Nat) (k : Nat := 0) : Desc := desc 0x69 b 0 0 0 [m, k]
def trial (s : State) : State := {s with lcy := {s.lcy with running := 1, trial := some (0, 5), drover := .ready}}
def load (s : State) : State := {s with lcy := {s.lcy with drover := .loaded}}
def pend (d : Desc) (s : State) : State := {s with lcy := {s.lcy with pendAct := some d}}
def s1 : State := fly (stg 0 0 304 0) (host 36864 image base)
def d1 : Desc := stg 0 0 304 0
def s2 : State := fly (stg 1 0 240 0) (host 36864 (List.take 240 image) base)
def d2 : Desc := stg 1 0 240 0
def s3 : State := fly (stg 1 256 48 0) (host 36864 (List.drop 256 image) base)
def d3 : Desc := stg 1 256 48 0
def s4 : State := fly (stg 1 0 304 0) (host 36864 image base)
def d4 : Desc := stg 1 0 304 0
def s5 : State := fly (stg 1 256 48 0) (host 36864 (List.drop 256 image) (halfway 256 base))
def s6 : State := fly (stg 1 256 64 0) (host 36864 (List.drop 256 image ++ bad) (halfway 256 base))
def d5 : Desc := stg 1 256 64 0
def s7 : State := fly (act 0 1) (banked 1 base)
def d6 : Desc := act 0 1
def s8 : State := fly (act 0 0) base
def d7 : Desc := act 0 0
def s9 : State := fly (act 1 1) (trial (banked 1 base))
def d8 : Desc := act 1 1
def s10 : State := fly (act 1 1) base
def s11 : State := fly (act 2 1) (trial (banked 1 base))
def d9 : Desc := act 2 1
def s12 : State := fly (act 2 1) base
def s13 : State := fly (act 0 1) (pend (act 0 1) (load (trial (banked 1 base))))
def s14 : State := load base

/-- What FirmwareIsStaged asks is met. -/
theorem meets_FirmwareIsStaged :
    (serves 1 d1 s1 ∧ isRow 104 d1 = true ∧ p8 d1 4 ≤ 1 ∧ parNonzero 5 24 d1 = none ∧ s1.nv.worn = [] ∧ s1.nv.wornRecs = [] ∧ s1.nv.ledgerReady = true ∧ d1.target < 2 ∧ d1.len % 16 = 0 ∧ p32 d1 0 % 16 = 0 ∧ p32 d1 0 + d1.len ≤ 1048576 ∧ (runsBank d1.target s1 = true ∨ s1.lcy.trial.isSome = true) ∧ ((dmaRead d1 d1.srcAddr d1.len s1).toList).any (fun _ => true) = true) ∧
    (serves 1 d2 s2 ∧ isRow 104 d2 = true ∧ p8 d2 4 ≤ 1 ∧ parNonzero 5 24 d2 = none ∧ s2.nv.worn = [] ∧ s2.nv.wornRecs = [] ∧ s2.nv.ledgerReady = true ∧ d2.target < 2 ∧ d2.len % 16 = 0 ∧ p32 d2 0 % 16 = 0 ∧ p32 d2 0 + d2.len ≤ 1048576 ∧ runsBank d2.target s2 = false ∧ s2.lcy.trial = none ∧ p32 d2 0 = 0 ∧ d2.len < 256 ∧ ((dmaRead d2 d2.srcAddr d2.len s2).toList).any (fun _ => true) = true) ∧
    (serves 1 d3 s3 ∧ isRow 104 d3 = true ∧ p8 d3 4 ≤ 1 ∧ parNonzero 5 24 d3 = none ∧ s3.nv.worn = [] ∧ s3.nv.wornRecs = [] ∧ s3.nv.ledgerReady = true ∧ d3.target < 2 ∧ d3.len % 16 = 0 ∧ p32 d3 0 % 16 = 0 ∧ p32 d3 0 + d3.len ≤ 1048576 ∧ runsBank d3.target s3 = false ∧ s3.lcy.trial = none ∧ p32 d3 0 ≠ 0 ∧ p32 d3 0 ≠ stagedCount d3.target s3 ∧ ((dmaRead d3 d3.srcAddr d3.len s3).toList).any (fun _ => true) = true) ∧
    (serves 1 d4 s4 ∧ isRow 104 d4 = true ∧ p8 d4 4 ≤ 1 ∧ parNonzero 5 24 d4 = none ∧ s4.nv.worn = [] ∧ s4.nv.wornRecs = [] ∧ s4.nv.ledgerReady = true ∧ d4.target < 2 ∧ d4.len % 16 = 0 ∧ p32 d4 0 % 16 = 0 ∧ p32 d4 0 + d4.len ≤ 1048576 ∧ runsBank d4.target s4 = false ∧ s4.lcy.trial = none ∧ p32 d4 0 = 0 ∧ 256 ≤ d4.len ∧ ((dmaRead d4 d4.srcAddr d4.len s4).toList).any (fun b => decide ((headerBad (if p32 d4 0 = 0 then List.take 256 b else nvPeek (bankAddr d4.target) 256 s4) s4).any (fun _ => true) = true)) = true) ∧
    (serves 1 d3 s5 ∧ s5.nv.worn = [] ∧ s5.nv.wornRecs = [] ∧ s5.nv.ledgerReady = true ∧ runsBank d3.target s5 = false ∧ s5.lcy.trial = none ∧ bit 0 (p8 d3 4) = false ∧ (((dmaRead d3 d3.srcAddr d3.len s5).toList).any (fun b => decide ((p32 d3 0 = 0 ∧ 256 ≤ d3.len ∧ headerBad (if p32 d3 0 = 0 then List.take 256 b else nvPeek (bankAddr d3.target) 256 s5) s5 = none ∨ p32 d3 0 ≠ 0 ∧ p32 d3 0 = stagedCount d3.target s5) ∧ p32 d3 0 + d3.len ≤ 256 + imgLen (if p32 d3 0 = 0 then List.take 256 b else nvPeek (bankAddr d3.target) 256 s5))) = true)) ∧
    (serves 1 d5 s6 ∧ isRow 104 d5 = true ∧ p8 d5 4 ≤ 1 ∧ parNonzero 5 24 d5 = none ∧ s6.nv.worn = [] ∧ s6.nv.wornRecs = [] ∧ s6.nv.ledgerReady = true ∧ d5.target < 2 ∧ d5.len % 16 = 0 ∧ p32 d5 0 % 16 = 0 ∧ p32 d5 0 + d5.len ≤ 1048576 ∧ runsBank d5.target s6 = false ∧ s6.lcy.trial = none ∧ (((dmaRead d5 d5.srcAddr d5.len s6).toList).any (fun b => decide ((p32 d5 0 = 0 ∧ 256 ≤ d5.len ∧ headerBad (if p32 d5 0 = 0 then List.take 256 b else nvPeek (bankAddr d5.target) 256 s6) s6 = none ∨ p32 d5 0 ≠ 0 ∧ p32 d5 0 = stagedCount d5.target s6) ∧ (256 + imgLen (if p32 d5 0 = 0 then List.take 256 b else nvPeek (bankAddr d5.target) 256 s6) < p32 d5 0 + d5.len ∨ bit 0 (p8 d5 4) = true ∧ p32 d5 0 + d5.len ≠ 256 + imgLen (if p32 d5 0 = 0 then List.take 256 b else nvPeek (bankAddr d5.target) 256 s6)))) = true)) := by
  unfold serves memorySafe shaped
  refine ⟨?_, ?_, ?_, ?_, ?_, ?_⟩ <;> decide +kernel

/-- What FirmwareIsActivated asks is met. -/
theorem meets_FirmwareIsActivated :
    (live s7 = true ∧ memorySafe s7 ∧ shaped s7 ∧ s7.nv.ledgerReady = true ∧ serves 1 d6 s7 ∧ isMode 105 0 d6 = true ∧ parNonzero 1 24 d6 = none ∧ bootable d6.target s7 = true ∧ runsBank d6.target s7 = false ∧ s7.lcy.trial = none) ∧
    (live s8 = true ∧ memorySafe s8 ∧ shaped s8 ∧ s8.nv.ledgerReady = true ∧ serves 1 d7 s8 ∧ isMode 105 0 d7 = true ∧ parNonzero 1 24 d7 = none ∧ (bootable d7.target s8 = false ∨ runsBank d7.target s8 = true ∨ s8.lcy.trial.isSome = true)) ∧
    (live s9 = true ∧ memorySafe s9 ∧ shaped s9 ∧ s9.nv.ledgerReady = true ∧ serves 1 d8 s9 ∧ isMode 105 1 d8 = true ∧ p8 d8 1 ≤ 1 ∧ parNonzero 2 24 d8 = none ∧ onTrial d8.target s9 = true ∧ s9.nv.worn = [] ∧ s9.nv.wornRecs = [] ∧ (tally 248 s9).isSome = true ∧ tallyVal 248 s9 < tallyMax) ∧
    (live s10 = true ∧ memorySafe s10 ∧ shaped s10 ∧ s10.nv.ledgerReady = true ∧ serves 1 d8 s10 ∧ onTrial d8.target s10 = false) ∧
    (live s11 = true ∧ memorySafe s11 ∧ shaped s11 ∧ s11.nv.ledgerReady = true ∧ serves 1 d9 s11 ∧ isMode 105 2 d9 = true ∧ parNonzero 1 24 d9 = none ∧ onTrial d9.target s11 = true ∧ (s11.lcy.trial).any (fun _ => true) = true) ∧
    (live s12 = true ∧ memorySafe s12 ∧ shaped s12 ∧ s12.nv.ledgerReady = true ∧ serves 1 d9 s12 ∧ onTrial d9.target s12 = false) ∧
    (live s13 = true ∧ memorySafe s13 ∧ shaped s13 ∧ s13.nv.ledgerReady = true ∧ s13.lcy.drover = DroverSt.loaded ∧ (s13.lcy.pendAct.toList).any (fun d => decide (heard d (elapse 1 s13) = true)) = true) ∧
    (live s14 = true ∧ memorySafe s14 ∧ shaped s14 ∧ s14.nv.ledgerReady = true ∧ s14.lcy.drover = DroverSt.loaded ∧ s14.lcy.pendAct = none) ∧
    (s13.lcy.drover ≠ DroverSt.ready ∧ (∀ (d : Desc), s13.lcy.pendAct = some d → isHost d = true) ∧ (s13.lcy.trial).any (fun (prev, x) => decide (x + msTicks 100 ≤ now (elapse 1 s13))) = true) ∧
    (((s9.lcy.trial).any (fun (prev, x) => decide ((s9.lcy.drover = DroverSt.ready ∨ now (elapse 1 s9) < x + msTicks 100))) = true)) := by
  unfold serves memorySafe shaped
  refine ⟨?_, ?_, ?_, ?_, ?_, ?_, ?_, ?_, ?_, ?_⟩ <;> decide +kernel

end W17

namespace W17b

def withRec (id : Nat) (b : Bytes) (s : State) : State := (recStore id b s).1
def clean (s : State) : State := {s with nv := {s.nv with buf := []}, regs := base.regs}
def banked (b : Nat) (s : State) : State := clean (withRec (recBank b) (bankBytes true 7 1024) s)
def rngSt (n : Nat) (s : State) : State := setFld RNG_STATUS.STATE n s
def life (n : Nat) (s : State) : State := if n = 0 then s else atLife n s
def fpub : Bytes := ecPub 4242
def keyed (s : State) : State := clean (withRec recFleet fpub s)
def svc (s : State) : State := {s with lcy := {s.lcy with service := some (5000000 + 100, 10)}}
def noncd (s : State) : State := {s with lcy := {s.lcy with nonce := some (List.replicate 16 7, 4000000)}}
def ch : Desc := desc 0x6A 0 0 0 0xA000 [0]
def adv (n : Nat) : Desc := desc 0x6A 0 64 0x9000 0xB000 [1, n]
def fk : Desc := desc 0x6A 0 64 0x9000 0 [2]
def otpd : Desc := desc 0x6A 0 4 0x9000 0 [3]
def fin (s : State) : State := withRec (recStatement 3) ([0,0,0,0,1,0,4,0] ++ List.replicate 12 0 ++ [1,0,0,0] ++ List.replicate 168 1) s
def s1 : State := fly ch base
def d1 : Desc := ch
def s2 : State := fly ch (rngSt 0 base)
def s3 : State := fly ch (rngSt 3 base)
def s4 : State := fly (adv 2) (life 2 base)
def d2 : Desc := adv 2
def s5 : State := fly (adv 2) (banked 1 (life 1 base))
def s6 : State := fly (adv 2) (life 1 base)
def s7 : State := fly (adv 2) (svc (life 2 base))
def s8 : State := fly (adv 1) (life 0 (keyed base))
def d3 : Desc := adv 1
def s9 : State := fly (adv 4) (fin (life 1 (keyed base)))
def d4 : Desc := adv 4
def s10 : State := fly fk (host 36864 fpub base)
def d5 : Desc := fk
def s11 : State := fly fk (host 36864 (List.replicate 64 1) base)
def s12 : State := fly otpd (host 36864 [16, 0, 0, 0] base)
def d6 : Desc := otpd
def s13 : State := fly otpd (host 36864 [16, 0, 0, 0] ({ base with lcy := { base.lcy with otp := 14 } }))
def s14 : State := noncd base

/-- What LifecycleAdvances asks is met. -/
theorem meets_LifecycleAdvances :
    (live s1 = true ∧ memorySafe s1 ∧ shaped s1 ∧ s1.nv.ledgerReady = true ∧ s1.nv.worn = [] ∧ s1.nv.wornRecs = [] ∧ serves 1 d1 s1 ∧ isMode 106 0 d1 = true ∧ p8 d1 1 = 0 ∧ parNonzero 2 24 d1 = none ∧ rngState s1 = 2 ∧ dmaBlocked d1 d1.dstAddr 16 s1 = false) ∧
    (live s2 = true ∧ memorySafe s2 ∧ shaped s2 ∧ s2.nv.ledgerReady = true ∧ s2.nv.worn = [] ∧ s2.nv.wornRecs = [] ∧ serves 1 d1 s2 ∧ rngState s2 < 2) ∧
    (live s3 = true ∧ memorySafe s3 ∧ shaped s3 ∧ s3.nv.ledgerReady = true ∧ s3.nv.worn = [] ∧ s3.nv.wornRecs = [] ∧ serves 1 d1 s3 ∧ (rngState s3 = 3 ∨ rngState s3 = 4)) ∧
    (live s4 = true ∧ memorySafe s4 ∧ shaped s4 ∧ s4.nv.ledgerReady = true ∧ s4.nv.worn = [] ∧ s4.nv.wornRecs = [] ∧ serves 1 d2 s4 ∧ isMode 106 1 d2 = true ∧ parNonzero 2 24 d2 = none ∧ 1 ≤ p8 d2 1 ∧ p8 d2 1 ≤ 4 ∧ lcState s4 = p8 d2 1 ∧ p8 d2 1 ≠ 3 ∧ ((dmaRead d2 d2.srcAddr 64 s4).toList).any (fun _ => true) = true) ∧
    (live s5 = true ∧ memorySafe s5 ∧ shaped s5 ∧ s5.nv.ledgerReady = true ∧ s5.nv.worn = [] ∧ s5.nv.wornRecs = [] ∧ serves 1 d2 s5 ∧ lcState s5 = 1 ∧ p8 d2 1 = 2 ∧ s5.lcy.service = none ∧ (bootable 0 s5 = true ∨ bootable 1 s5 = true) ∧ (tally 249 s5).isSome = true ∧ ((dmaRead d2 d2.srcAddr 64 s5).toList).any (fun _ => true) = true) ∧
    (live s6 = true ∧ memorySafe s6 ∧ shaped s6 ∧ s6.nv.ledgerReady = true ∧ s6.nv.worn = [] ∧ s6.nv.wornRecs = [] ∧ serves 1 d2 s6 ∧ lcState s6 = 1 ∧ s6.lcy.service = none ∧ bootable 0 s6 = false ∧ bootable 1 s6 = false ∧ ((dmaRead d2 d2.srcAddr 64 s6).toList).any (fun _ => true) = true) ∧
    (live s7 = true ∧ memorySafe s7 ∧ shaped s7 ∧ s7.nv.ledgerReady = true ∧ s7.nv.worn = [] ∧ s7.nv.wornRecs = [] ∧ serves 1 d2 s7 ∧ lcState s7 = 3 ∧ ((dmaRead d2 d2.srcAddr 64 s7).toList).any (fun _ => true) = true) ∧
    (live s8 = true ∧ memorySafe s8 ∧ shaped s8 ∧ s8.nv.ledgerReady = true ∧ s8.nv.worn = [] ∧ s8.nv.wornRecs = [] ∧ serves 1 d3 s8 ∧ isMode 106 1 d3 = true ∧ parNonzero 2 24 d3 = none ∧ lcState s8 = 0 ∧ p8 d3 1 = 1 ∧ (fleetKey s8).isSome = true ∧ (tally 249 s8).isSome = true ∧ s8.lgr.closed = false ∧ s8.lgr.lost = 0 ∧ (elapse 1 s8).clk.wall.toNat < 2 ^ 48 ∧ ((dmaRead d3 d3.srcAddr 64 s8).toList).any (fun _ => true) = true) ∧
    (live s9 = true ∧ memorySafe s9 ∧ shaped s9 ∧ s9.nv.ledgerReady = true ∧ s9.nv.worn = [] ∧ s9.nv.wornRecs = [] ∧ serves 1 d4 s9 ∧ isMode 106 1 d4 = true ∧ parNonzero 2 24 d4 = none ∧ lcState s9 = 1 ∧ p8 d4 1 = 4 ∧ (tally 249 s9).isSome = true ∧ finalStored s9 = true ∧ ((dmaRead d4 d4.srcAddr 64 s9).toList).any (fun _ => true) = true) ∧
    (live s10 = true ∧ memorySafe s10 ∧ shaped s10 ∧ s10.nv.ledgerReady = true ∧ s10.nv.worn = [] ∧ s10.nv.wornRecs = [] ∧ serves 1 d5 s10 ∧ isMode 106 2 d5 = true ∧ p8 d5 1 = 0 ∧ parNonzero 2 24 d5 = none ∧ lcState s10 ≤ 1 ∧ d5.len = 64 ∧ ((dmaRead d5 d5.srcAddr 64 s10).toList).any (fun key => decide (pubOk key = true)) = true) ∧
    (live s11 = true ∧ memorySafe s11 ∧ shaped s11 ∧ s11.nv.ledgerReady = true ∧ s11.nv.worn = [] ∧ s11.nv.wornRecs = [] ∧ serves 1 d5 s11 ∧ lcState s11 ≤ 1 ∧ ((dmaRead d5 d5.srcAddr 64 s11).toList).any (fun key => decide (pubOk key = false)) = true) ∧
    (live s12 = true ∧ memorySafe s12 ∧ shaped s12 ∧ s12.nv.ledgerReady = true ∧ s12.nv.worn = [] ∧ s12.nv.wornRecs = [] ∧ serves 1 d6 s12 ∧ isMode 106 3 d6 = true ∧ p8 d6 1 = 0 ∧ parNonzero 2 24 d6 = none ∧ s12.lcy.otp = 0 ∧ (((dmaRead d6 d6.srcAddr 4 s12).toList).any (fun b => decide (14 ≤ byteAt 0 b ∧ byteAt 0 b ≤ 21 ∧ allZero (List.drop 1 b) = true)) = true)) ∧
    (live s13 = true ∧ memorySafe s13 ∧ shaped s13 ∧ s13.nv.ledgerReady = true ∧ s13.nv.worn = [] ∧ s13.nv.wornRecs = [] ∧ serves 1 d6 s13 ∧ s13.lcy.otp ≠ 0 ∧ ((dmaRead d6 d6.srcAddr 4 s13).toList).any (fun _ => true) = true) ∧
    ((s7.lcy.service).any (fun (e, m) => decide (e ≤ now (elapse 5000100 s7))) = true) ∧
    ((s7.lcy.service).any (fun (e, m) => decide (now (elapse 1 s7) < e)) = true) ∧
    (live s14 = true ∧ memorySafe s14 ∧ shaped s14 ∧ s14.nv.ledgerReady = true ∧ s14.nv.worn = [] ∧ s14.nv.wornRecs = [] ∧ (s14.lcy.nonce).any (fun (n, x) => decide (x + secTicks 300 ≤ now (elapse (5000000 + 400 * 38400000) s14))) = true) ∧
    ((s14.lcy.nonce).any (fun (n, x) => decide (now (elapse 1 s14) < x + secTicks 300)) = true) := by
  unfold serves memorySafe shaped
  refine ⟨?_, ?_, ?_, ?_, ?_, ?_, ?_, ?_, ?_, ?_, ?_, ?_, ?_, ?_, ?_, ?_, ?_⟩ <;> decide +kernel

end W17b

namespace W18a

def withRec (id : Nat) (b : Bytes) (s : State) : State := (recStore id b s).1
def clean (s : State) : State := {s with nv := {s.nv with buf := []}, regs := base.regs}
def fpub : Bytes := ecPub 4242
def mb (s : State) : State := setFld (TMR_PINFn.FUNC 5 3) 5 (setFld (TMR_PINFn.FUNC 5 2) 5 s)
def keyed (s : State) : State := mb (clean (withRec recFleet fpub s))
def nonceM (n x : Nat) (s : State) : State := {s with mon := {s.mon with nonce := some (List.replicate 16 (byteOf 7), x), fails := n}}
def lock (x : Nat) (s : State) : State := {s with mon := {s.mon with lockout := some x, fails := 3}}
def unl (s : State) : State := {s with mon := {s.mon with unlocked := true, lastCmd := 4000000}}
def s1 : State := mb base
def s2 : State := mb (lock 4000000 base)
def v1 : Bytes := [1, 2]
def s3 : State := { (mb base) with mon := { base.mon with gone := true } }
def s4 : State := keyed (unl (nonceM 1 4000000 base))

/-- What MonitorUnlocks asks is met. -/
theorem meets_MonitorUnlocks :
    (live s1 = true ∧ memorySafe s1 ∧ shaped s1 ∧ monServes s1 = true ∧ s1.mon.lockout = none ∧ rngState s1 = 2) ∧
    (live s2 = true ∧ memorySafe s2 ∧ shaped s2 ∧ monServes s2 = true ∧ s2.mon.lockout.isSome = true) ∧
    (List.length v1 ≠ 64) ∧
    (live s3 = true ∧ memorySafe s3 ∧ shaped s3 ∧ monServes s3 = false) ∧
    (live s4 = true ∧ memorySafe s4 ∧ shaped s4 ∧ s4.mon.unlocked = true ∧ s4.mon.lastCmd + secTicks (fld MON_CTL.IDLE_S s4) ≤ now (elapse (5000000 + 400 * 38400000) s4)) ∧
    (now (elapse 4000000 s4) < s4.mon.lastCmd + secTicks (fld MON_CTL.IDLE_S s4)) ∧
    ((s2.mon.lockout.toList).any (fun x => decide (x + secTicks 300 ≤ now (elapse (5000000 + 400 * 38400000) s2))) = true) ∧
    ((s2.mon.lockout.toList).any (fun x => decide (now (elapse 4000000 s2) < x + secTicks 300)) = true) := by
  unfold memorySafe shaped
  refine ⟨?_, ?_, ?_, ?_, ?_, ?_, ?_, ?_⟩ <;> decide +kernel

end W18a

namespace W19

def rngSt (n : Nat) (s : State) : State := setFld RNG_STATUS.STATE n s
def hreq : LfReq := {autoReq with no := 3, askers := [], desc := some pollDesc}
def cr : Desc := {desc 0x40 0x201 16 0x9000 0xA000 [0] with idx := 40, no := 40}
def pk : Desc := {desc 0x45 0 138 0x9000 0 [0] with idx := 41, no := 41}
def gt : Desc := desc 0x50 0 16 0 0xA000 [0]
def many (s : State) : State := (List.range 20).foldl (fun s i => fly {desc 0x40 0x201 16 0x9000 0xA000 [0] with idx := i, no := i} s) s
def s1 : State := { (fly pollDesc lfBase) with lf := { lfBase.lf with wait := [(hreq, 5000050), (autoReq, 5000010)] } }
def v1 : LfReq := hreq
def s2 : State := fly cr (many base)
def d1 : Desc := cr
def s3 : State := fly pk (fly ({ pk with idx := 5, no := 5 }) base)
def d2 : Desc := pk
def s4 : State := { (fly gt base) with lcy := { base.lcy with steepWait := [(gt, 5000050)] } }
def d3 : Desc := gt
def s5 : State := { (fly gt base) with lgr := { base.lgr with hostWait := [(gt, 5000050)] } }
def s6 : State := have s := { (fly gt base) with rng := { base.rng with wait := [(gt, 4000000)] } }; rngSt 3 s
def s7 : State := { (fly gt lfBase) with fold := { lfBase.fold with wait := [{ d := gt, on := [], limit := 5000050 }] } }

/-- What WaitsEndAtTheirTimeout asks is met. -/
theorem meets_WaitsEndAtTheirTimeout :
    (memorySafe s1 ∧ shaped s1 ∧ live s1 = true ∧ s1.lf.wait = (v1, 5000050) :: (List.drop 1 s1.lf.wait) ∧ 5000050 ≤ now (elapse 5000050 s1) ∧ (v1.desc.toList).any (fun d => decide (heard d (elapse 5000050 s1) = true)) = true) ∧
    (memorySafe s2 ∧ shaped s2 ∧ live s2 = true ∧ heard d1 (elapse (5000000 + 400 * 38400000) s2) = true ∧ 64 ≤ d1.opcode ∧ d1.opcode ≤ 67 ∧ 20 ≤ countBefore (fun f => f.is d1) isEngineOp s2.hif.flight ∧ ((flightSince d1 s2).toList).any (fun x => decide (x + timeoutTicks d1 100 ≤ now (elapse (5000000 + 400 * 38400000) s2))) = true) ∧
    (heard d1 (elapse 5000050 s2) = true ∧ ((flightSince d1 s2).toList).any (fun x => decide (now (elapse 5000050 s2) < x + timeoutTicks d1 100)) = true) ∧
    (memorySafe s3 ∧ shaped s3 ∧ live s3 = true ∧ heard d2 (elapse (5000000 + 400 * 38400000) s3) = true ∧ d2.opcode = 69 ∧ 1 ≤ countBefore (fun f => f.is d2) (fun f => f.d.opcode == 68 || f.d.opcode == 69) s3.hif.flight ∧ ((flightSince d2 s3).toList).any (fun x => decide (x + timeoutTicks d2 100 ≤ now (elapse (5000000 + 400 * 38400000) s3))) = true) ∧
    (heard d2 (elapse 5000050 s3) = true ∧ ((flightSince d2 s3).toList).any (fun x => decide (now (elapse 5000050 s3) < x + timeoutTicks d2 100)) = true) ∧
    (memorySafe s4 ∧ shaped s4 ∧ live s4 = true ∧ s4.lcy.steepWait = (d3, 5000050) :: (List.drop 1 s4.lcy.steepWait) ∧ 5000050 ≤ now (elapse 5000050 s4) ∧ (∀ w ∈ (List.drop 1 s4.lcy.steepWait), now (elapse 5000050 s4) < w.2) ∧ heard d3 (elapse 5000050 s4) = true ∧ s4.cry.holders = [] ∧ s4.cry.changes = []) ∧
    (memorySafe s5 ∧ shaped s5 ∧ live s5 = true ∧ s5.lgr.hostWait = (d3, 5000050) :: (List.drop 1 s5.lgr.hostWait) ∧ 5000050 ≤ now (elapse 5000050 s5) ∧ (∀ w ∈ (List.drop 1 s5.lgr.hostWait), now (elapse 5000050 s5) < w.2) ∧ heard d3 (elapse 5000050 s5) = true) ∧
    (memorySafe s6 ∧ shaped s6 ∧ live s6 = true ∧ s6.rng.wait = (d3, 4000000) :: (List.drop 1 s6.rng.wait) ∧ 4000000 + timeoutTicks d3 10 ≤ now (elapse 5000050 s6) ∧ rngState s6 ≠ 2 ∧ (∀ w ∈ (List.drop 1 s6.rng.wait), now (elapse 5000050 s6) < w.2 + timeoutTicks w.1 10) ∧ heard d3 (elapse 5000050 s6) = true) ∧
    (rngState s1 = 2) ∧
    (memorySafe s7 ∧ shaped s7 ∧ live { s7 with fold := { s7.fold with wait := [] } } = true ∧ ((List.take 1 s7.fold.wait).any (fun w => decide (s7.fold.wait = [w] ∧ heard w.d (elapse 5000050 s7) = true ∧ w.limit ≤ now (elapse 5000050 s7))) = true)) := by
  unfold memorySafe shaped
  refine ⟨?_, ?_, ?_, ?_, ?_, ?_, ?_, ?_, ?_, ?_⟩ <;> decide +kernel

end W19

/-! ## Pins -/

/-- What CommandsAreKeyed asks is met: by a poll with its header, and while a quarter drives, after it and without a sequence. -/
theorem meets_CommandsAreKeyed :
    ((W05.polling.poll.bind (fun p => p.header)).isSome = true) ∧
    (padsSafe W05.polling = false ∧ chanDriven 31 W05.polling = false ∧
      (drivePhase W05.polling).any (fun (m, a, e) =>
        decide (m.getLsbD 0 = true ∧ a ≤ now W05.polling ∧ now W05.polling < e)) = true) ∧
    (let s := elapse 5614410 W05.polling
     chanLive 0 s = true ∧ (drivePhase s).any (fun (_, _, e) => decide (e ≤ now s ∧ 5 * now s < 5 * e + 192)) = true) ∧
    (let s := elapse 5700000 W05.polling
     (drivePhase s).any (fun (_, _, e) => decide (5 * e + 192 ≤ 5 * now s)) = true) ∧
    (drivePhase lfBase = none ∧ padsSafe lfBase = false ∧ chanLive 0 lfBase = true ∧ chanLive 100 lfBase = false ∧
      chanListened 100 lfBase = false) := by
  refine ⟨?_, ?_, ?_, ?_, ?_⟩ <;> decide +kernel

end Sys2Proof.Tests
end

section
/-! SUPPORT. Proofs of the lifecycle, part 1: what posting an event can change. -/
namespace Sys2Proof.Machine

/-! ## Frames of the host side -/

/-- The registers outside a list read alike in between, and the register file stays in canonical form. -/
structure RegsKept (offs : List Nat) (s s' : State) : Prop where
  keeps : keepsRegs offs s s'
  wf : Regs.wf s = true → Regs.wf s' = true

theorem RegsKept.refl (offs : List Nat) (s : State) : RegsKept offs s s := ⟨fun _ _ => rfl, id⟩

theorem RegsKept.trans {offs : List Nat} {a b c : State} (h1 : RegsKept offs a b) (h2 : RegsKept offs b c) :
    RegsKept offs a c :=
  ⟨fun off h => (h2.keeps off h).trans (h1.keeps off h), fun h => h2.wf (h1.wf h)⟩

theorem RegsKept.mono {offs offs' : List Nat} {a b : State} (h : RegsKept offs a b) (hs : offs ⊆ offs') :
    RegsKept offs' a b :=
  ⟨fun off ho => h.keeps off (fun hm => ho (hs hm)), h.wf⟩

/-- Steps that leave the register file alone keep every register. -/
theorem RegsKept.of_eq (offs : List Nat) {s s' : State} (hr : s'.regs = s.regs) (hp : s'.part = s.part) :
    RegsKept offs s s' :=
  ⟨fun off _ => by simp [regGet, hr, hp], fun h => by simpa [Regs.wf, hr, hp] using h⟩

/-- A field's write keeps every register but its own. -/
theorem RegsKept.setFld {offs : List Nat} (f : Field) (v : Nat) (s : State) (hf : f.off ∈ offs) :
    RegsKept offs s (setFld f v s) :=
  ⟨fun off ho => regGet_regSet_ne f.off off _ s (fun e => ho (e ▸ hf)), regs_wf_setFld f v s⟩

theorem RegsKept.bump {offs : List Nat} (f : Field) (s : State) (hf : f.off ∈ offs) : RegsKept offs s (bump f s) :=
  RegsKept.setFld f _ s hf

/-- A field outside the list reads alike. -/
theorem RegsKept.fld {offs : List Nat} {s s' : State} (h : RegsKept offs s s') (f : Field) (hf : f.off ∉ offs) :
    fld f s' = fld f s := by
  simp only [Machine.fld, h.keeps f.off hf]

/-- A saturating counter that fits its word counts one. -/
theorem fld_bump_same (f : Field) (hf : f.fits = true) (s : State) (h : Regs.wf s = true) :
    fld f (bump f s) = sat f.width (fld f s + 1) := by
  have hlt : sat f.width (fld f s + 1) < 2 ^ f.width := by
    have : 0 < 2 ^ f.width := by positivity
    unfold sat; omega
  rw [bump, addFld, fld_setFld_same f hf _ s h, Nat.mod_eq_of_lt hlt]

/-- What a completion's way to its sender rests on: the link, bus mastering, the descriptors in flight and the enabled
pairs. -/
structure HostKept (s s' : State) : Prop where
  link : s'.hif.link = s.hif.link
  busMaster : s'.hif.busMaster = s.hif.busMaster
  flight : s'.hif.flight = s.hif.flight
  enabled : ∀ n, (qp n s').enabled = (qp n s).enabled
  memWf : Memory.wf zeroByte s.hostMem = true → Memory.wf zeroByte s'.hostMem = true

theorem HostKept.refl (s : State) : HostKept s s := ⟨rfl, rfl, rfl, fun _ => rfl, id⟩

theorem HostKept.trans {a b c : State} (h1 : HostKept a b) (h2 : HostKept b c) : HostKept a c :=
  ⟨h2.link.trans h1.link, h2.busMaster.trans h1.busMaster, h2.flight.trans h1.flight,
    fun n => (h2.enabled n).trans (h1.enabled n), fun h => h2.memWf (h1.memWf h)⟩

/-- Steps that leave the host interface and host memory alone. -/
theorem HostKept.of_eq {s s' : State} (hh : s'.hif = s.hif) (hm : s'.hostMem = s.hostMem) : HostKept s s' :=
  ⟨by rw [hh], by rw [hh], by rw [hh], fun n => by simp [qp, hh], fun h => by rwa [hm]⟩

/-- A completion is heard after such a step exactly when it was before. -/
theorem HostKept.heard {s s' : State} (h : HostKept s s') (d : Desc) : heard d s' = heard d s := by
  simp only [Machine.heard, linkUp, h.flight, h.link, h.busMaster, h.enabled]

/-! ## Events -/

/-- `s` without what posting an event can change. -/
def blankPosted (s : State) : State := { s with regs := [], hif := Hif.reset, hostMem := [], mon := Mon.reset }

/-- Between `s` and `s'` events were posted: the host interface, host memory, the monitor's lines and HIF_FAULT
changed. -/
structure Posted (s s' : State) : Prop where
  blank : blankPosted s' = blankPosted s
  regs : RegsKept [HIF_FAULT.reg] s s'
  host : HostKept s s'

theorem Posted.refl (s : State) : Posted s s := ⟨rfl, RegsKept.refl _ s, HostKept.refl s⟩

theorem Posted.trans {a b c : State} (h1 : Posted a b) (h2 : Posted b c) : Posted a c :=
  ⟨h2.blank.trans h1.blank, h1.regs.trans h2.regs, h1.host.trans h2.host⟩

/-- The last step first: its start is read off the goal. -/
theorem Posted.after {a b c : State} (h2 : Posted b c) (h1 : Posted a b) : Posted a c := h1.trans h2

theorem Posted.lgr {s s' : State} (h : Posted s s') : s'.lgr = s.lgr :=
  (congrArg State.lgr h.blank :)
theorem Posted.nv {s s' : State} (h : Posted s s') : s'.nv = s.nv :=
  (congrArg State.nv h.blank :)
theorem Posted.part {s s' : State} (h : Posted s s') : s'.part = s.part :=
  (congrArg State.part h.blank :)
theorem Posted.clk {s s' : State} (h : Posted s s') : s'.clk = s.clk :=
  (congrArg State.clk h.blank :)

/-- A change of the host interface that keeps the link, bus mastering, the flight and the pairs. -/
theorem posted_hif (s : State) (h : Hif) (hl : h.link = s.hif.link) (hb : h.busMaster = s.hif.busMaster)
    (hf : h.flight = s.hif.flight) (hq : h.qps = s.hif.qps) : Posted s { s with hif := h } :=
  ⟨rfl, RegsKept.of_eq _ rfl rfl, hl, hb, hf, fun n => by simp [qp, hq], id⟩

theorem raiseVector_posted (n : Nat) (s : State) : Posted s (raiseVector n s) := by
  rw [raiseVector_eq]
  exact posted_hif s _ rfl rfl rfl rfl

theorem setFault_backlog_posted (s : State) : Posted s (setFault HIF_FAULT.BACKLOG_OVF s) := by
  have hset : Posted s (setFld HIF_FAULT.BACKLOG_OVF 1 s) :=
    ⟨rfl, RegsKept.setFld _ _ s (by decide), HostKept.of_eq rfl rfl⟩
  unfold setFault
  split
  · exact Posted.refl s
  · exact hset.trans (raiseVector_posted 33 _)

/-- A pair that is replaced by one that is enabled alike stays as enabled as it was, and so do the others. -/
theorem qp_setQp_enabled (n m : Nat) (q : Qp) (s : State) (h : q.enabled = (qp n s).enabled) :
    (qp m (setQp n q s)).enabled = (qp m s).enabled := by
  simp only [qp, setQp, List.getD_eq_getElem?_getD, List.getElem?_set]
  split
  · next e =>
    subst e
    split
    · exact h
    · next hl => simp [List.getElem?_eq_none (Nat.le_of_not_lt hl)]
  · rfl

theorem writeEntry_posted (n : Nat) (e : Bytes) (s : State) : Posted s (writeEntry n e s) := by
  refine ⟨rfl, RegsKept.of_eq _ rfl rfl, rfl, rfl, rfl, fun m => ?_, fun h => wf_mwrite zeroByte _ _ h⟩
  simp only [writeEntry]
  refine (qp_setQp_enabled n m _ { s with hostMem := _ } ?_).trans rfl
  split <;> rfl

theorem deliver_posted (e : Evt) (b : Bool) (s : State) : Posted s (deliver e b s) :=
  (writeEntry_posted _ _ s).trans (raiseVector_posted 32 _)

theorem deliverList_posted (es : List Evt) (s : State) : Posted s (deliverList es s) := by
  induction es generalizing s with
  | nil => exact posted_hif s _ rfl rfl rfl rfl
  | cons e es ih =>
    rw [deliverList]
    split
    · exact (deliver_posted e true s).trans (ih _)
    · exact posted_hif s _ rfl rfl rfl rfl

theorem deliverBacklog_posted (s : State) : Posted s (deliverBacklog s) := by
  have h1 := deliverList_posted s.hif.backlog s
  unfold deliverBacklog
  dsimp only
  split
  · split
    · exact (h1.trans (deliver_posted _ true _)).trans (posted_hif _ _ rfl rfl rfl rfl)
    · exact h1
  · exact h1

theorem storeEvt_posted (e : Evt) (s : State) : Posted s (storeEvt e s) := by
  unfold storeEvt
  split
  · exact posted_hif s _ rfl rfl rfl rfl
  · split
    · exact posted_hif s _ rfl rfl rfl rfl
    · exact (setFault_backlog_posted _).after (posted_hif s _ rfl rfl rfl rfl)

theorem echoEvt_posted (e : Evt) (s : State) : Posted s (echoEvt e s) := by
  unfold echoEvt
  split
  · exact ⟨rfl, RegsKept.of_eq _ rfl rfl, HostKept.of_eq rfl rfl⟩
  · exact Posted.refl s

theorem post_posted (code status : Nat) (res : Bytes) (s : State) : Posted s (post code status res s) := by
  unfold post postAt postDet
  dsimp only
  generalize (Evt.mk code status _ _ _ _) = e
  have h1 : Posted s (deliverBacklog (echoEvt e { s with hif := { s.hif with evtSeq := s.hif.evtSeq + 1 } })) :=
    (deliverBacklog_posted _).after ((echoEvt_posted e _).after (posted_hif s _ rfl rfl rfl rfl))
  refine h1.trans ?_
  split
  · exact deliver_posted _ false _
  · exact storeEvt_posted _ _

theorem lgrEvt_posted (kind seq count : Nat) (s : State) : Posted s (lgrEvt kind seq count s) := by
  unfold lgrEvt
  split
  · exact post_posted _ _ _ s
  · exact Posted.refl s

end Sys2Proof.Machine
end

section
/-! SUPPORT. Proofs of the lifecycle, part 2: what a write of the MRAM changes. -/
namespace Sys2Proof.Machine

/-! ## Words of the array -/

/-- `s` without what a write of the array changes. -/
def blankArray (s : State) : State :=
  { s with nv := { s.nv with mem := [], bad := [], soft := [], weak := [], buf := [] } }

/-- A word takes the write when none is worn. -/
theorem nvWriteWord_fresh (a : Nat) (bs : Bytes) (s : State) (hw : s.nv.worn = []) :
    (nvWriteWord a bs s).2 = false ∧ blankArray (nvWriteWord a bs s).1 = blankArray s ∧
      (nvWriteWord a bs s).1.nv.mem = mwrite nvDflt s.nv.mem a (fit 8 bs) ∧
      (nvWriteWord a bs s).1.nv.bad = s.nv.bad.filter (· ≠ a) := by
  simp [nvWriteWord, hw, blankArray, pushBuf]

theorem fit_length (n : Nat) (bs : Bytes) : (fit n bs).length = n := by
  simp [fit, slice]

theorem fit_self {n : Nat} {bs : Bytes} (h : bs.length = n) : fit n bs = bs := by
  simp [fit, slice, h]

theorem mergeWord_length (w a : Nat) (bs : Bytes) (s : State) : (mergeWord w a bs s).length = 8 := by
  simp [mergeWord]

/-- Byte `x` of the array once `bs` has been written at `a`. -/
def byteWritten (a : Nat) (bs : Bytes) (s : State) (x : Nat) : Byte :=
  if a ≤ x ∧ x < a + bs.length then bs.getD (x - a) 0 else mget nvDflt s.nv.mem x

/-- One merged word: its eight bytes are those of the write, every other byte is as before. -/
theorem mget_nvWriteWord (w a x : Nat) (bs : Bytes) (s : State) (hw : s.nv.worn = [])
    (hm : Memory.wf nvDflt s.nv.mem = true) :
    mget nvDflt (nvWriteWord w (mergeWord w a bs s) s).1.nv.mem x =
      if w ≤ x ∧ x < w + 8 then byteWritten a bs s x else mget nvDflt s.nv.mem x := by
  rw [(nvWriteWord_fresh w _ s hw).2.2.1, fit_self (mergeWord_length w a bs s)]
  split
  · next h =>
    obtain ⟨i, rfl⟩ := Nat.exists_eq_add_of_le h.1
    have hi : i < (mergeWord w a bs s).length := by rw [mergeWord_length]; omega
    rw [mget_mwrite_in nvDflt _ w i hm hi]
    simp [mergeWord, byteWritten]
  · next h =>
    exact mget_mwrite_out nvDflt _ w x _ (by rw [mergeWord_length]; omega)

/-- Words one after another: none fails, and nothing but the array changes. -/
theorem nvWriteWords_fresh (a : Nat) (bs : Bytes) (ws : List Nat) (s : State) (hw : s.nv.worn = []) :
    (nvWriteWords a bs ws s).2 = none ∧ blankArray (nvWriteWords a bs ws s).1 = blankArray s := by
  induction ws generalizing s with
  | nil => exact ⟨rfl, rfl⟩
  | cons w ws ih =>
    obtain ⟨h2, hb, -, -⟩ := nvWriteWord_fresh w (mergeWord w a bs s) s hw
    have hw1 : (nvWriteWord w (mergeWord w a bs s) s).1.nv.worn = [] :=
      ((congrArg (fun x => x.nv.worn) hb :)).trans hw
    obtain ⟨i2, ib⟩ := ih _ hw1
    simp only [nvWriteWords, h2, Bool.false_eq_true, if_false]
    exact ⟨i2, ib.trans hb⟩

/-- A byte of no written word reads as before, and its word is as correctable as before. -/
theorem nvWriteWords_out (a x : Nat) (bs : Bytes) (ws : List Nat) (s : State) (hw : s.nv.worn = [])
    (hx : ∀ w ∈ ws, x < w ∨ w + 8 ≤ x) :
    mget nvDflt (nvWriteWords a bs ws s).1.nv.mem x = mget nvDflt s.nv.mem x ∧
      (nvWriteWords a bs ws s).1.nv.bad.contains x = s.nv.bad.contains x := by
  induction ws generalizing s with
  | nil => exact ⟨rfl, rfl⟩
  | cons w ws ih =>
    obtain ⟨h2, hb, hmem, hbad⟩ := nvWriteWord_fresh w (mergeWord w a bs s) s hw
    have hw1 : (nvWriteWord w (mergeWord w a bs s) s).1.nv.worn = [] :=
      ((congrArg (fun x => x.nv.worn) hb :)).trans hw
    obtain ⟨im, ib⟩ := ih _ hw1 (fun v hv => hx v (List.mem_cons_of_mem w hv))
    have hne := hx w List.mem_cons_self
    simp only [nvWriteWords, h2, Bool.false_eq_true, if_false]
    refine ⟨im.trans ?_, ib.trans ?_⟩
    · rw [hmem]
      exact mget_mwrite_out nvDflt _ w x _ (by rw [fit_length]; omega)
    · have hxw : x ≠ w := by omega
      rw [hbad, Bool.eq_iff_iff]
      simp [hxw]

/-- Words one after another keep the array in canonical form. -/
theorem nvWriteWords_wf (a : Nat) (bs : Bytes) (ws : List Nat) (s : State) (hw : s.nv.worn = [])
    (hm : Memory.wf nvDflt s.nv.mem = true) : Memory.wf nvDflt (nvWriteWords a bs ws s).1.nv.mem = true := by
  induction ws generalizing s with
  | nil => exact hm
  | cons w ws ih =>
    obtain ⟨h2, hb, hmem, -⟩ := nvWriteWord_fresh w (mergeWord w a bs s) s hw
    simp only [nvWriteWords, h2, Bool.false_eq_true, if_false]
    exact ih _ (((congrArg (fun x => x.nv.worn) hb :)).trans hw) (by rw [hmem]; exact wf_mwrite nvDflt _ w hm)

/-- A byte of a written word reads as it was written. -/
theorem mget_nvWriteWords (a x : Nat) (bs : Bytes) (ws : List Nat) (s : State) (hw : s.nv.worn = [])
    (hm : Memory.wf nvDflt s.nv.mem = true) (hx : ∃ w ∈ ws, w ≤ x ∧ x < w + 8) :
    mget nvDflt (nvWriteWords a bs ws s).1.nv.mem x = byteWritten a bs s x := by
  induction ws generalizing s with
  | nil => simp at hx
  | cons w ws ih =>
    obtain ⟨h2, hb, hmem, -⟩ := nvWriteWord_fresh w (mergeWord w a bs s) s hw
    have hw1 : (nvWriteWord w (mergeWord w a bs s) s).1.nv.worn = [] :=
      ((congrArg (fun x => x.nv.worn) hb :)).trans hw
    have hone := mget_nvWriteWord w a x bs s hw hm
    have hm1 : Memory.wf nvDflt (nvWriteWord w (mergeWord w a bs s) s).1.nv.mem = true := by
      rw [hmem]; exact wf_mwrite nvDflt _ w hm
    simp only [nvWriteWords, h2, Bool.false_eq_true, if_false]
    by_cases hlater : ∃ v ∈ ws, v ≤ x ∧ x < v + 8
    · rw [ih _ hw1 hm1 hlater, byteWritten, hone]
      unfold byteWritten
      split <;> simp
    · have hhere : w ≤ x ∧ x < w + 8 := by
        obtain ⟨v, hv, hvx⟩ := hx
        rcases List.mem_cons.mp hv with rfl | hv
        · exact hvx
        · exact absurd ⟨v, hv, hvx⟩ hlater
      have hout := (nvWriteWords_out a x bs ws _ hw1 (fun v hv => by
        by_contra hc
        exact hlater ⟨v, hv, by omega⟩)).1
      rw [hout, hone, if_pos hhere]

/-! ## Writes of byte ranges -/

/-- The words of a range begin no lower than the range's own first word. -/
theorem le_of_mem_wordsOf {a n w : Nat} (h : w ∈ wordsOf a n) : 8 * (a / 8) ≤ w ∧ w < a + n := by
  unfold wordsOf at h
  split at h
  · simp at h
  · simp only [List.mem_map, List.mem_range] at h
    obtain ⟨i, hi, rfl⟩ := h
    omega

/-- Every byte of a range lies in one of its words. -/
theorem exists_mem_wordsOf {a n x : Nat} (h1 : a ≤ x) (h2 : x < a + n) : ∃ w ∈ wordsOf a n, w ≤ x ∧ x < w + 8 := by
  refine ⟨8 * (a / 8 + (x / 8 - a / 8)), ?_, by omega, by omega⟩
  have hn : n ≠ 0 := by omega
  simp only [wordsOf, if_neg hn, List.mem_map, List.mem_range]
  exact ⟨x / 8 - a / 8, by omega, rfl⟩

/-- What a write of the array leaves of every byte: the written range holds the bytes, the rest is as before. -/
theorem mget_nvWrite (a x : Nat) (bs : Bytes) (s : State) (hw : s.nv.worn = [])
    (hm : Memory.wf nvDflt s.nv.mem = true) :
    mget nvDflt (nvWrite a bs s).1.nv.mem x = byteWritten a bs s x := by
  by_cases hx : ∃ w ∈ wordsOf a bs.length, w ≤ x ∧ x < w + 8
  · exact mget_nvWriteWords a x bs _ s hw hm hx
  · have hout := (nvWriteWords_out a x bs (wordsOf a bs.length) s hw (fun v hv => by
      by_contra hc
      exact hx ⟨v, hv, by omega⟩)).1
    have hrange : ¬ (a ≤ x ∧ x < a + bs.length) := fun h => hx (exists_mem_wordsOf h.1 h.2)
    rw [byteWritten, if_neg hrange]
    exact hout

/-- A written range reads back. -/
theorem nvPeek_nvWrite_same (a : Nat) (bs : Bytes) (s : State) (hw : s.nv.worn = [])
    (hm : Memory.wf nvDflt s.nv.mem = true) : nvPeek a bs.length (nvWrite a bs s).1 = bs := by
  apply List.ext_getElem
  · simp [nvPeek, mread]
  · intro i h1 h2
    simp [nvPeek, mread, mget_nvWrite a _ bs s hw hm, byteWritten, h2]

/-- A range apart from the written one reads as before. -/
theorem nvPeek_nvWrite_apart (a x n : Nat) (bs : Bytes) (s : State) (hw : s.nv.worn = [])
    (hm : Memory.wf nvDflt s.nv.mem = true) (hx : x + n ≤ a ∨ a + bs.length ≤ x) :
    nvPeek x n (nvWrite a bs s).1 = nvPeek x n s := by
  apply List.map_congr_left
  intro i hi
  rw [List.mem_range] at hi
  rw [mget_nvWrite a _ bs s hw hm, byteWritten, if_neg (by omega)]

end Sys2Proof.Machine
end

section
/-! SUPPORT. Proofs of the lifecycle, part 3: what appending a ledger record can change. -/
namespace Sys2Proof.Machine

/-! ## The frame of a ledger record -/

/-- Below the Ledger region (Table 15.1) the array reads alike but for the tally cells of some counters, and stays in
canonical form. -/
structure ArrayKept (cells : List Nat) (s s' : State) : Prop where
  mem : ∀ a, a < 0x400000 → a / 256 ∉ cells → mget nvDflt s'.nv.mem a = mget nvDflt s.nv.mem a
  bad : ∀ a, a < 0x400000 → a / 256 ∉ cells → s'.nv.bad.contains a = s.nv.bad.contains a
  wf : Memory.wf nvDflt s.nv.mem = true → Memory.wf nvDflt s'.nv.mem = true

theorem ArrayKept.of_eq (cells : List Nat) {s s' : State} (hm : s'.nv.mem = s.nv.mem) (hb : s'.nv.bad = s.nv.bad) :
    ArrayKept cells s s' :=
  ⟨fun _ _ _ => by rw [hm], fun _ _ _ => by rw [hb], fun h => by rwa [hm]⟩

theorem ArrayKept.trans {cells : List Nat} {a b c : State} (h1 : ArrayKept cells a b) (h2 : ArrayKept cells b c) :
    ArrayKept cells a c :=
  ⟨fun x hx hc => (h2.mem x hx hc).trans (h1.mem x hx hc), fun x hx hc => (h2.bad x hx hc).trans (h1.bad x hx hc),
    fun h => h2.wf (h1.wf h)⟩

theorem ArrayKept.mono {cells cells' : List Nat} {a b : State} (h : ArrayKept cells a b) (hs : cells ⊆ cells') :
    ArrayKept cells' a b :=
  ⟨fun x hx hc => h.mem x hx (fun hm => hc (hs hm)), fun x hx hc => h.bad x hx (fun hm => hc (hs hm)), h.wf⟩

/-- A write in the Ledger region keeps everything below it. -/
theorem ArrayKept.nvWrite (cells : List Nat) (a : Nat) (bs : Bytes) (s : State) (hw : s.nv.worn = [])
    (ha : 0x400000 ≤ a) : ArrayKept cells s (nvWrite a bs s).1 := by
  have hout := fun x (hx : x < 0x400000) => nvWriteWords_out a x bs (wordsOf a bs.length) s hw (fun w h => by
    have := (le_of_mem_wordsOf h).1
    omega)
  exact ⟨fun x hx _ => (hout x hx).1, fun x hx _ => (hout x hx).2, nvWriteWords_wf a bs _ s hw⟩

/-- `s` without what appending ledger records and posting events can change. -/
def blankLedger (s : State) : State :=
  { s with
    regs := [], hif := Hif.reset, hostMem := [], mon := Mon.reset, lgr := Lgr.reset
    nv := { s.nv with mem := [], bad := [], soft := [], weak := [], buf := [] } }

/-- Between `s` and `s'` ledger records were appended, events posted and registers of a list changed, and so did the
tally cells of the counters in `cells`; what a completion and the end of a command rest on is as before. -/
structure Recorded (cells offs : List Nat) (s s' : State) : Prop where
  blank : blankLedger s' = blankLedger s
  regs : RegsKept (recordRegs ++ offs) s s'
  host : HostKept s s'
  array : ArrayKept cells s s'
  hostWait : s'.lgr.hostWait = s.lgr.hostWait

namespace Recorded

variable {cells offs : List Nat} {a b c s s' : State}

theorem refl (s : State) : Recorded cells offs s s :=
  ⟨rfl, RegsKept.refl _ s, HostKept.refl s, ArrayKept.of_eq _ rfl rfl, rfl⟩

theorem trans (h1 : Recorded cells offs a b) (h2 : Recorded cells offs b c) : Recorded cells offs a c :=
  ⟨h2.blank.trans h1.blank, h1.regs.trans h2.regs, h1.host.trans h2.host, h1.array.trans h2.array,
    h2.hostWait.trans h1.hostWait⟩

/-- The last step first: its start is read off the goal. -/
theorem after (h2 : Recorded cells offs b c) (h1 : Recorded cells offs a b) : Recorded cells offs a c := h1.trans h2

theorem mono {cells' offs' : List Nat} (h : Recorded cells offs a b) (hc : cells ⊆ cells') (ho : offs ⊆ offs') :
    Recorded cells' offs' a b :=
  ⟨h.blank, h.regs.mono (fun _ hx => List.mem_append.mpr ((List.mem_append.mp hx).imp_right (@ho _))), h.host,
    h.array.mono hc, h.hostWait⟩

theorem part (h : Recorded cells offs s s') : s'.part = s.part := (congrArg State.part h.blank :)
theorem clk (h : Recorded cells offs s s') : s'.clk = s.clk := (congrArg State.clk h.blank :)
theorem lcy (h : Recorded cells offs s s') : s'.lcy = s.lcy := (congrArg State.lcy h.blank :)
theorem flk (h : Recorded cells offs s s') : s'.flk = s.flk := (congrArg State.flk h.blank :)
theorem cry (h : Recorded cells offs s s') : s'.cry = s.cry := (congrArg State.cry h.blank :)
theorem fold (h : Recorded cells offs s s') : s'.fold = s.fold := (congrArg State.fold h.blank :)
theorem worn (h : Recorded cells offs s s') : s'.nv.worn = s.nv.worn := (congrArg (fun x => x.nv.worn) h.blank :)
theorem recs (h : Recorded cells offs s s') : s'.nv.recs = s.nv.recs := (congrArg (fun x => x.nv.recs) h.blank :)
theorem incAt (h : Recorded cells offs s s') : s'.nv.incAt = s.nv.incAt := (congrArg (fun x => x.nv.incAt) h.blank :)
theorem ledgerReady (h : Recorded cells offs s s') : s'.nv.ledgerReady = s.nv.ledgerReady :=
  (congrArg (fun x => x.nv.ledgerReady) h.blank :)

/-- Posting events is such a step. -/
theorem of_posted (h : Posted s s') : Recorded cells offs s s' :=
  ⟨(congrArg blankLedger h.blank :), h.regs.mono (by simp [recordRegs]), h.host,
    ArrayKept.of_eq _ (by rw [h.nv]) (by rw [h.nv]), by rw [h.lgr]⟩

/-- So is a change of the ledger's own state that leaves the waiting appends alone. -/
theorem setLgr (s : State) (l : Lgr) (h : l.hostWait = s.lgr.hostWait) : Recorded cells offs s { s with lgr := l } :=
  ⟨rfl, RegsKept.of_eq _ rfl rfl, HostKept.of_eq rfl rfl, ArrayKept.of_eq _ rfl rfl, h⟩

/-- So is a write of a field of the list. -/
theorem setFld (f : Field) (v : Nat) (s : State) (hf : f.off ∈ recordRegs ++ offs) :
    Recorded cells offs s (setFld f v s) :=
  ⟨rfl, RegsKept.setFld f v s hf, HostKept.of_eq rfl rfl, ArrayKept.of_eq _ rfl rfl, rfl⟩

theorem bump (f : Field) (s : State) (hf : f.off ∈ recordRegs ++ offs) : Recorded cells offs s (bump f s) :=
  setFld f _ s hf

/-- So is a write in the Ledger region. -/
theorem lgrWrite (p : Nat) (bs : Bytes) (s : State) (hw : s.nv.worn = []) (hp : 0x400000 ≤ p) :
    Recorded cells offs s (lgrWrite p bs s) := by
  have hb : blankArray (Machine.lgrWrite p bs s) = blankArray s := (nvWriteWords_fresh p bs _ s hw).2
  exact ⟨(congrArg blankLedger hb :),
    RegsKept.of_eq _ (congrArg State.regs hb :) (congrArg State.part hb :),
    HostKept.of_eq (congrArg State.hif hb :) (congrArg State.hostMem hb :), ArrayKept.nvWrite cells p bs s hw hp,
    (congrArg (fun x => x.lgr.hostWait) hb :)⟩

end Recorded

/-- What a write in the Ledger region leaves of the ledger's state. -/
@[simp] theorem lgrWrite_lgr (p : Nat) (bs : Bytes) (s : State) (hw : s.nv.worn = []) :
    (lgrWrite p bs s).lgr = s.lgr :=
  (congrArg State.lgr (nvWriteWords_fresh p bs _ s hw).2 :)

theorem le_blockAddr (q : Nat) (s : State) : 0x400000 ≤ blockAddr q s := by
  unfold blockAddr; omega

/-! ## Blocks -/

section
variable {cells offs : List Nat} (s : State)

theorem useCtl_recorded : Recorded cells offs s (useCtl s) := Recorded.setLgr s _ rfl

theorem lgrEvt_recorded (kind seq count : Nat) : Recorded cells offs s (lgrEvt kind seq count s) :=
  Recorded.of_posted (lgrEvt_posted kind seq count s)

/-- An event that only some condition posts. -/
theorem lgrEvtIf_recorded (p : Prop) [Decidable p] (kind seq count : Nat) :
    Recorded cells offs s (if p then lgrEvt kind seq count s else s) := by
  split
  · exact lgrEvt_recorded s kind seq count
  · exact Recorded.refl s

theorem preClear_recorded (hw : s.nv.worn = []) : Recorded cells offs s (preClear s) := by
  unfold preClear
  split
  · exact Recorded.after (Recorded.setLgr _ _ rfl) (Recorded.lgrWrite _ _ s hw (le_blockAddr _ s))
  · exact Recorded.setLgr s _ rfl

theorem sealBlock_recorded (flagBits : Nat) (hw : s.nv.worn = []) : Recorded cells offs s (sealBlock flagBits s) := by
  unfold sealBlock
  split
  · exact Recorded.refl s
  · next k _ =>
    dsimp only
    generalize hx : lgrWrite (_ + 8 + 8 * k) _ s = x
    have hsx : Recorded cells offs s x :=
      hx ▸ Recorded.lgrWrite _ _ s hw (by have := le_blockAddr (s.lgr.next - 1) s; omega)
    generalize hy : lgrWrite (_ + 56) _ x = y
    have hsy : Recorded cells offs s y := hsx.trans
      (hy ▸ Recorded.lgrWrite _ _ x (hsx.worn.trans hw) (by have := le_blockAddr (s.lgr.next - 1) s; omega))
    generalize hz : { y with lgr := Lgr.mk _ _ _ _ _ _ _ _ _ _ _ _ _ _ _ _ _ _ _ } = z
    have hsz : Recorded cells offs s z := hsy.trans (hz ▸ Recorded.setLgr y _ rfl)
    have hflag (b : Bool) : Recorded cells offs s (setFlag LGR_STATUS.CKPT_PEND b z) :=
      hsz.trans (Recorded.setFld _ _ z (by simp [recordRegs, LGR_STATUS.CKPT_PEND, LGR_STATUS.reg]))
    split
    · exact hflag _
    · exact (hflag _).trans (preClear_recorded _ ((hflag _).worn.trans hw))

theorem openBlock_recorded (wall : Nat) (hw : s.nv.worn = []) : Recorded cells offs s (openBlock wall s) := by
  unfold openBlock
  dsimp only
  generalize hx : lgrWrite (blockAddr s.lgr.next s) _ s = x
  have hsx : Recorded cells offs s x := hx ▸ Recorded.lgrWrite _ _ s hw (le_blockAddr _ s)
  generalize hy : { x with lgr := Lgr.mk _ _ _ _ _ _ _ _ _ _ _ _ _ _ _ _ _ _ _ } = y
  have hsy : Recorded cells offs s y := hsx.trans (hy ▸ Recorded.setLgr x _ rfl)
  exact Recorded.after (lgrEvtIf_recorded _ _ _ _ _) (Recorded.after (lgrEvtIf_recorded _ _ _ _ _) hsy)

theorem putRecord_recorded (r : LRec) (hw : s.nv.worn = []) : Recorded cells offs s (putRecord r s) := by
  unfold putRecord
  split
  · exact Recorded.refl s
  · next k _ =>
    dsimp only
    generalize hx : lgrWrite _ _ s = x
    have hsx : Recorded cells offs s x :=
      hx ▸ Recorded.lgrWrite _ _ s hw (by have := le_blockAddr (s.lgr.next - 1) s; omega)
    generalize hy : { x with lgr := Lgr.mk _ _ _ _ _ _ _ _ _ _ _ _ _ _ _ _ _ _ _ } = y
    have hsy : Recorded cells offs s y := hsx.trans (hy ▸ Recorded.setLgr x _ rfl)
    generalize hz : bump _ y = z
    have hsz : Recorded cells offs s z := hsy.trans (hz ▸ Recorded.bump _ y (by
      split <;> simp [recordRegs, LGR_CNT0.HOST, LGR_CNT0.DEVICE, LGR_CNT0.reg]))
    split
    · exact hsz.trans (sealBlock_recorded z 0 (hsz.worn.trans hw))
    · exact hsz

theorem placeRecord_recorded (r : LRec) (isS : Bool) (hw : s.nv.worn = []) :
    Recorded cells offs s (placeRecord r isS s).1 := by
  unfold placeRecord
  dsimp only
  generalize hx : useCtl s = x
  have hsx : Recorded cells offs s x := hx ▸ useCtl_recorded s
  generalize hy : (if needsNewBase r.wall x = true then sealBlock padTime x else x) = y
  have hxy : Recorded cells offs x y := by
    subst hy
    split
    · exact sealBlock_recorded x _ (hsx.worn.trans hw)
    · exact Recorded.refl x
  have hsy := hsx.trans hxy
  have hwy := hsy.worn.trans hw
  split
  · exact hsy.trans (putRecord_recorded y r hwy)
  · split
    · have hyo := openBlock_recorded (cells := cells) (offs := offs) y r.wall hwy
      exact (hsy.trans hyo).trans (putRecord_recorded _ r (hyo.worn.trans hwy))
    · exact hsy

theorem dropRecord_recorded : Recorded cells offs s (dropRecord s) := by
  unfold dropRecord
  dsimp only
  generalize hx : Machine.setFld LGR_STATUS.LOST 1 (Machine.bump LGR_CNT1.LOST (useCtl s)) = x
  have hsx : Recorded cells offs s x := by
    subst hx
    exact ((useCtl_recorded s).trans (Recorded.bump _ _ (by simp [recordRegs, LGR_CNT1.LOST, LGR_CNT1.reg]))).trans
      (Recorded.setFld _ _ _ (by simp [recordRegs, LGR_STATUS.LOST, LGR_STATUS.reg]))
  split
  · exact hsx
  · generalize hy : { x with lgr := Lgr.mk _ _ _ _ _ _ _ _ _ _ _ _ _ _ _ _ _ _ _ } = y
    have hxy : Recorded cells offs x y := hy ▸ Recorded.setLgr x _ rfl
    exact (hsx.trans hxy).trans (lgrEvt_recorded y _ _ _)

theorem reportLost_recorded (hw : s.nv.worn = []) : Recorded cells offs s (reportLost s) := by
  unfold reportLost
  split
  · exact Recorded.refl s
  · dsimp only
    have hp :=
      placeRecord_recorded (cells := cells) (offs := offs) s ⟨0x03, 0, s.lgr.lost, s.clk.wall.toNat, now s⟩ true hw
    split
    · exact hp.trans (Recorded.setLgr _ _ rfl)
    · exact hp

theorem writeRecord_recorded (r : LRec) (hw : s.nv.worn = []) : Recorded cells offs s (writeRecord r s) := by
  unfold writeRecord
  split
  · exact dropRecord_recorded s
  · have h1 := reportLost_recorded (cells := cells) (offs := offs) s hw
    have h2 := h1.trans (placeRecord_recorded (reportLost s) r (classS r.typ) (h1.worn.trans hw))
    dsimp only
    split
    · exact h2
    · exact h2.trans (dropRecord_recorded _)

/-- A device record's append after recall changes what a record can change (R372). -/
theorem append_recorded (typ src data : Nat) (hr : s.nv.ledgerReady = true) (hw : s.nv.worn = []) :
    Recorded cells offs s (append typ src data s) := by
  unfold append appendAt
  simp only [hr, if_true]
  exact writeRecord_recorded s _ hw

end

end Sys2Proof.Machine
end

section
/-! SUPPORT. Proofs of the lifecycle, part 4: completions of any status, and the state that one is told from. -/
namespace Sys2Proof.Machine

/-! ## A completion, whatever its status -/

/-- What a completion counts and records before its entry is written (R127, R345). -/
def counted (d : Desc) (st : Nat) (s : State) : State :=
  let s1 := if 1 ≤ st ∧ st ≤ 6 then bump HIF_VIOL_CNT.DESC (drained d s) else drained d s
  if isHostViol st d.opcode then append 0x45 st (d.opcode + 256 * pairCode d.src) s1 else s1

/-- The way of an entry to its sender: a host pair's ring or its hold for the link, or Drover and the monitor; or its
discard, where `gone` says that the descriptor's sender has let go of it (R77, R98, R107, R110). -/
def routeEntry (d : Desc) (c : HeldCpl) (gone : Bool) (s : State) : State :=
  match d.src with
  | .host n =>
    settlePair n
      (if gone = true ∨ (qp n s).enabled = false ∨ s.hif.busMaster = false then leaveFlight d s
       else if linkUp s then writeCpl n c (leaveFlight d s)
       else leaveFlight d { s with hif := { s.hif with held := s.hif.held ++ [c] } })
  | _ =>
    if gone then leaveFlight d s
    else answerDesc c (leaveFlight d { s with hif := { s.hif with back := c :: s.hif.back } })

/-- A completion counts and records, and then its entry takes its way. -/
theorem complete_eq (d : Desc) (st : Nat) (res : Bytes) (det : Nat) (s : State) :
    complete d st res det s = routeEntry d ⟨d, st, fit 14 res, det, now s⟩
      (s.hif.flight.any (fun f => f.is d && f.discard)) (counted d st s) := by
  unfold complete
  extract_lets c gone s0 s1 s2
  have hs2 : s2 = counted d st s := by simp only [s2, s1, s0, counted, drained]
  rw [← hs2]
  clear_value s2
  unfold routeEntry
  rfl

/-- An entry's way touches the host interface, host memory and the monitor only. -/
theorem routeEntry_hostOnly (d : Desc) (c : HeldCpl) (gone : Bool) (s : State) :
    hostOnly s (routeEntry d c gone s) := by
  have hleave : ∀ h : Hif, hostOnly s (leaveFlight d { s with hif := h }) := fun _ => rfl
  have hwrite : ∀ n, hostOnly s (writeCpl n c (leaveFlight d s)) := fun n =>
    hostOnly_trans (b := writeEntry n _ (leaveFlight d s)) rfl (signal_hostOnly n _ _ _)
  unfold routeEntry
  split
  · refine hostOnly_trans ?_ (settlePair_hostOnly _ _)
    split
    · exact hleave s.hif
    · split
      · exact hwrite _
      · exact hleave _
  · split
    · exact hleave s.hif
    · exact hostOnly_trans (hleave _) (answerDesc_hostOnly c _)

/-- The descriptor is in flight no more. -/
theorem routeEntry_flight (d : Desc) (c : HeldCpl) (gone : Bool) (s : State) :
    ∀ f ∈ (routeEntry d c gone s).hif.flight, f.is d = false := by
  unfold routeEntry
  split
  · rw [settlePair_flight]
    split
    · exact leaveFlight_out d s
    · split
      · rw [writeCpl, signal_flight]; exact leaveFlight_out d s
      · exact leaveFlight_out d _
  · split
    · exact leaveFlight_out d s
    · rw [answerDesc_hif]; exact leaveFlight_out d _

/-- A host pair that hears it gets the entry at its tail, and the monitor hears nothing of it. -/
theorem routeEntry_host (d : Desc) (n : Nat) (c : HeldCpl) (s : State) (hd : d.src = .host n) (hh : heard d s = true) :
    (routeEntry d c false s).mon = s.mon ∧
      (routeEntry d c false s).hostMem = mwrite zeroByte s.hostMem (nextEntry n s)
        ((entryBytes c.d.tag c.status c.d.opcode c.d.idx (qp n s).sqHead c.ts c.res c.detail 0).take 31
          ++ [byteOf (128 * b2n (qp n s).phase)]) := by
  simp only [heard, hd, Bool.and_eq_true] at hh
  obtain ⟨-, ⟨hl, hb⟩, he⟩ := hh
  have hway : routeEntry d c false s = settlePair n (writeCpl n c (leaveFlight d s)) := by
    simp [routeEntry, hd, hl, hb, he]
  rw [hway]
  constructor
  · rw [settlePair_mon, writeCpl, signal_mon]
    rfl
  · rw [settlePair_hostMem, writeCpl, signal_hostMem]
    have hq : qp n (leaveFlight d s) = qp n s := rfl
    have hbase : cqBase n (leaveFlight d s) = cqBase n s := rfl
    have hmem : (leaveFlight d s).hostMem = s.hostMem := rfl
    simp only [writeEntry, setQp, entryBytes_last, Nat.zero_add, hq, hbase, hmem, nextEntry]

/-- Drover and the monitor get the entry back, and host memory stays. -/
theorem routeEntry_port (d : Desc) (c : HeldCpl) (s : State) (hd : ∀ n, d.src ≠ .host n) :
    (routeEntry d c false s).hif.back.head? = some c ∧ (routeEntry d c false s).hostMem = s.hostMem := by
  unfold routeEntry
  split
  · next n h => exact absurd h (hd n)
  · simp only [Bool.false_eq_true, if_false, answerDesc_hif, answerDesc_hostMem]
    simp [leaveFlight]

/-- An entry on its way to its sender, and the end of the command: the descriptor has completed and nothing else has
changed. -/
theorem answers_routeEntry (d : Desc) (st : Nat) (res : Bytes) (det : Nat) (s : State)
    (hh : heard d s = true) (hm : Memory.wf zeroByte s.hostMem = true)
    (hl : s.lgr.hostWait.all (fun p => decide (p.2 ≠ 0)) = true)
    (hw : s.fold.wait = []) (hf : s.fold.queue = []) :
    answers d st res det s (finish (routeEntry d ⟨d, st, fit 14 res, det, now s⟩ false s)) := by
  have hho := routeEntry_hostOnly d ⟨d, st, fit 14 res, det, now s⟩ false s
  have hfl := routeEntry_flight d ⟨d, st, fit 14 res, det, now s⟩ false s
  have hho' := fun n hn => routeEntry_host d n ⟨d, st, fit 14 res, det, now s⟩ s hn hh
  have hpo := routeEntry_port d ⟨d, st, fit 14 res, det, now s⟩ s
  generalize routeEntry d ⟨d, st, fit 14 res, det, now s⟩ false s = y at *
  have elgr : y.lgr = s.lgr := (congrArg State.lgr hho :)
  have efold : y.fold = s.fold := (congrArg State.fold hho :)
  have hfin := finish_settles y (by rw [elgr]; exact hl) (by rw [efold]; exact hw) (by rw [efold]; exact hf)
  have hfit : fit 14 (fit 14 res) = fit 14 res := by simp [fit, slice]
  have hlines : blankLines (blankHost (finish y)) = blankLines (blankHost s) :=
    (congrArg blankHost hfin :).trans (congrArg blankLines hho :)
  refine ⟨⟨by rw [settles_hif hfin]; exact hfl, ?_⟩, hlines, ?_⟩
  · cases hd : d.src with
    | host n =>
      simp only [settles_hostMem hfin, (hho' n hd).2, entryBytes, hfit]
      have := mread_mwrite zeroByte ((entryBytes d.tag st d.opcode d.idx (qp n s).sqHead (now s) res det 0).take 31
          ++ [byteOf (128 * b2n (qp n s).phase)]) (nextEntry n s) hm
      rwa [show ((entryBytes d.tag st d.opcode d.idx (qp n s).sqHead (now s) res det 0).take 31
          ++ [byteOf (128 * b2n (qp n s).phase)]).length = 32 from by simp [entryBytes_length]] at this
    | drover => simp only [settles_hif hfin]; exact (hpo (by simp [hd])).1
    | monitor => simp only [settles_hif hfin]; exact (hpo (by simp [hd])).1
  · cases hd : d.src with
    | host n =>
      refine ⟨(settles_mon hfin).trans (hho' n hd).1, fun a ha => ?_⟩
      rw [settles_hostMem hfin, (hho' n hd).2]
      exact mget_mwrite_out zeroByte _ _ _ _ (by simpa [entryBytes_length] using ha)
    | drover => exact (settles_hostMem hfin).trans (hpo (by simp [hd])).2
    | monitor => exact (settles_hostMem hfin).trans (hpo (by simp [hd])).2

/-! ## The state a completion is told from -/

/-- A completion looks the same from every state that agrees with the one before it but for the host interface's own
bookkeeping. -/
theorem answers_of_hif {d : Desc} {st : Nat} {res : Bytes} {det : Nat} {x y s' : State} (h : answers d st res det x s')
    (hy : y = { x with hif := y.hif }) (hq : y.hif.qps = x.hif.qps) : answers d st res det y s' := by
  have hqp : ∀ n, qp n y = qp n x := fun n => by simp [qp, hq]
  have hreg : ∀ off, regGet off y = regGet off x := fun off => by rw [hy]; rfl
  have hnext : ∀ n, nextEntry n y = nextEntry n x := fun n => by simp [nextEntry, cqBase, reg64, hreg, hqp]
  have hnow : now y = now x := by rw [hy]; rfl
  have hmon : y.mon = x.mon := by rw [hy]
  have hmem : y.hostMem = x.hostMem := by rw [hy]
  have hbl : blankHost y = blankHost x := by rw [hy]; rfl
  obtain ⟨⟨h1, h2⟩, h3, h4⟩ := h
  refine ⟨⟨h1, ?_⟩, by rw [hbl]; exact h3, ?_⟩
  · cases hd : d.src <;> simpa only [hd, hqp, hnext, hnow] using h2
  · cases hd : d.src <;> simpa only [hd, hnext, hmon, hmem] using h4

/-- The unit works from the state at the tick, but for the host interface's bookkeeping (R15, R121). -/
theorem atWork_eq (d : Desc) (s : State) (h : atUnit d s = true) :
    atWork d s = { s with hif := (atWork d s).hif } ∧ (atWork d s).hif.qps = s.hif.qps ∧
      (atWork d s).hif.busMaster = s.hif.busMaster ∧ heard d (atWork d s) = true := by
  simp only [atUnit, Bool.and_eq_true, Bool.or_eq_true] at h
  obtain ⟨hh, hu⟩ := h
  have hacc : ∀ x : State, heard d (accept d x) = heard d x := by
    intro x
    have hany : (accept d x).hif.flight.any (fun f => f.is d && f.discard) =
        x.hif.flight.any (fun f => f.is d && f.discard) := by
      simp only [accept, List.any_map]
      congr 1
      funext f
      simp only [Function.comp_apply]
      by_cases hf : f.is d = true
      · have hf' : f.is d = ({ f with accepted := true } : Flight).is d := rfl
        simp only [hf, if_true, ← hf']
      · simp [hf]
    simp only [heard, hany]
    rfl
  unfold atWork
  by_cases hf : s.hif.flight.any (fun f => f.d == d) = true
  · rw [if_pos hf]
    exact ⟨rfl, rfl, rfl, (hacc s).trans hh⟩
  · rw [if_neg hf]
    have hport : isHost d = false := by
      rcases hu with ⟨⟨hf', -⟩, -⟩ | ⟨⟨hn, -⟩, -⟩
      · exact absurd hf' hf
      · simpa using hn
    have henter : enterFlight d (droverTurn s) =
        { s with hif := { s.hif with turn := 32, flight := s.hif.flight ++ [⟨d, false, false, now s⟩] } } := by
      simp only [enterFlight, hport, Bool.and_false, Bool.false_eq_true, if_false]
      rfl
    rw [henter]
    refine ⟨rfl, rfl, rfl, (hacc _).trans ?_⟩
    simp only [heard, List.any_append, List.any_cons, List.any_nil, Bool.and_false, Bool.or_false]
    exact hh

end Sys2Proof.Machine
end

section
/-! SUPPORT. Proofs of the lifecycle, part 5: tally counters and the lifecycle state they hold. -/
namespace Sys2Proof.Machine

/-! ## Little-endian numbers -/

theorem leBytes_length (k n : Nat) : (leBytes k n).length = k := by
  induction k generalizing n with
  | zero => rfl
  | succ k ih => simp [leBytes, ih]

theorem leNat_leBytes (k n : Nat) : leNat (leBytes k n) = n % 256 ^ k := by
  induction k generalizing n with
  | zero => simp [leBytes, leNat, Nat.mod_one]
  | succ k ih =>
    have hbyte : (byteOf n).toNat = n % 256 := BitVec.toNat_ofNat n 8
    rw [leBytes, leNat, ih, hbyte, Nat.pow_succ', Nat.mod_mul]

/-- A number reads back from the bytes that begin with it. -/
theorem leAt_leBytes_append (k n : Nat) (bs : Bytes) : leAt 0 k (leBytes k n ++ bs) = n % 256 ^ k := by
  have hs : slice 0 k (leBytes k n ++ bs) = leBytes k n := by
    simp [slice, leBytes_length]
  rw [leAt, hs, leNat_leBytes]

/-- A number reads back from the end of the bytes. -/
theorem leAt_append_leBytes (m k n : Nat) (bs : Bytes) (h : bs.length = m) :
    leAt m k (bs ++ leBytes k n) = n % 256 ^ k := by
  subst h
  have hs : slice bs.length k (bs ++ leBytes k n) = leBytes k n := by
    simp [slice, leBytes_length]
  rw [leAt, hs, leNat_leBytes]

/-! ## The CHECK of a cell -/

theorem crc16Bit_lt (c : Nat) : crc16Bit c < 65536 := by
  unfold crc16Bit
  split
  · exact Nat.xor_lt_two_pow (n := 16) (Nat.mod_lt _ (by decide)) (by decide)
  · exact Nat.mod_lt _ (by decide)

theorem crc16_lt (bs : Bytes) : crc16 bs < 65536 :=
  List.foldlRecOn (motive := fun c => c < 65536) bs crc16Byte (by decide) (fun _ _ _ _ => crc16Bit_lt _)

theorem cellBytes_length (c v : Nat) : (cellBytes c v).length = 8 := by
  simp [cellBytes, leBytes_length]

/-! ## Cells -/

/-- A cell whose eight bytes were written for a VALUE holds it. -/
theorem cellVal_of_cellBytes (c i v : Nat) (s : State) (hp : nvPeek (cellAddr c i) 8 s = cellBytes c v)
    (hb : s.nv.bad.contains (cellAddr c i) = false) (hv : v ≤ tallyMax) : cellVal c i s = some v := by
  have htake : (cellBytes c v).take 6 = leBytes 6 v := by
    simp [cellBytes, leBytes_length]
  have hcheck : leAt 6 2 (cellBytes c v) = crc16 ((cellBytes c v).take 6 ++ [byteOf c]) := by
    rw [htake, cellBytes, leAt_append_leBytes 6 2 _ _ (leBytes_length 6 v),
      Nat.mod_eq_of_lt (by simpa using crc16_lt _)]
  have hval : leAt 0 6 (cellBytes c v) = v := by
    rw [cellBytes, leAt_leBytes_append, Nat.mod_eq_of_lt (Nat.lt_of_le_of_lt hv (by decide))]
  simp only [cellVal, hp, hb, Bool.false_eq_true, if_false]
  rw [if_pos hcheck, hval]

/-- A cell that reads alike holds alike. -/
theorem cellVal_congr (c i : Nat) {s s' : State}
    (hm : ∀ k < 8, mget nvDflt s'.nv.mem (cellAddr c i + k) = mget nvDflt s.nv.mem (cellAddr c i + k))
    (hb : s'.nv.bad.contains (cellAddr c i) = s.nv.bad.contains (cellAddr c i)) : cellVal c i s' = cellVal c i s := by
  have hp : nvPeek (cellAddr c i) 8 s' = nvPeek (cellAddr c i) 8 s :=
    List.map_congr_left (fun k hk => hm k (List.mem_range.mp hk))
  simp only [cellVal, hp, hb]

/-- Value and slot depend on the counter's valid cells alone. -/
theorem tally_congr (c : Nat) {s s' : State} (h : ∀ i < 32, cellVal c i s' = cellVal c i s) :
    tally c s' = tally c s := by
  have hv : validCells c s' = validCells c s :=
    List.filterMap_congr (fun i hi => by rw [h i (List.mem_range.mp hi)])
  simp only [tally, hv]

/-- A counter whose cells are kept keeps its value and slot. -/
theorem ArrayKept.tally {cells : List Nat} {s s' : State} (h : ArrayKept cells s s') (c : Nat) (hc : c ∉ cells)
    (hlt : c < 256) : Machine.tally c s' = Machine.tally c s := by
  refine tally_congr c (fun i hi => cellVal_congr c i (fun k hk => ?_) ?_)
  · have hdiv : (cellAddr c i + k) / 256 = c := by unfold cellAddr; omega
    exact h.mem _ (by unfold cellAddr; omega) (by rwa [hdiv])
  · have hdiv : cellAddr c i / 256 = c := by unfold cellAddr; omega
    exact h.bad _ (by unfold cellAddr; omega) (by rwa [hdiv])

/-! ## The largest cell -/

/-- The choice between the best cell so far and the next one (R357). -/
def tallyPick (b : Option (Nat × Nat)) (p : Nat × Nat) : Option (Nat × Nat) :=
  match b with
  | none => some (p.2, p.1)
  | some (v, _) => if p.2 ≥ v then some (p.2, p.1) else b

theorem tally_eq (c : Nat) (s : State) : tally c s = (validCells c s).foldl tallyPick none := rfl

/-- The chosen value is no lower than any cell's. -/
theorem le_of_foldl_tallyPick {l : List (Nat × Nat)} {b : Option (Nat × Nat)} {v slot : Nat}
    (h : l.foldl tallyPick b = some (v, slot)) : (∀ x ∈ b, x.1 ≤ v) ∧ ∀ p ∈ l, p.2 ≤ v := by
  induction l generalizing b with
  | nil =>
    simp only [List.foldl_nil] at h
    subst h
    simp
  | cons p l ih =>
    obtain ⟨hb, hl⟩ := ih h
    rcases b with _ | ⟨w, j⟩
    · have hp : p.2 ≤ v := hb (p.2, p.1) rfl
      exact ⟨by simp, fun q hq => (List.mem_cons.mp hq).elim (fun e => e ▸ hp) (hl q)⟩
    · by_cases hge : p.2 ≥ w
      · have hp : p.2 ≤ v := hb (p.2, p.1) (by simp [tallyPick, hge])
        refine ⟨fun x hx => ?_, fun q hq => (List.mem_cons.mp hq).elim (fun e => e ▸ hp) (hl q)⟩
        cases hx
        exact Nat.le_trans hge hp
      · have hw : w ≤ v := hb (w, j) (by simp [tallyPick, hge])
        refine ⟨fun x hx => ?_, fun q hq => (List.mem_cons.mp hq).elim (fun e => e ▸ (by omega)) (hl q)⟩
        cases hx
        exact hw

/-- A chosen cell above all others stays chosen. -/
theorem foldl_tallyPick_keeps {l : List (Nat × Nat)} {m i : Nat} (h : ∀ p ∈ l, p = (i, m) ∨ p.2 < m) :
    l.foldl tallyPick (some (m, i)) = some (m, i) := by
  induction l with
  | nil => rfl
  | cons p l ih =>
    have hstep : tallyPick (some (m, i)) p = some (m, i) := by
      rcases h p List.mem_cons_self with rfl | hlt
      · simp [tallyPick]
      · simp [tallyPick, Nat.not_le.mpr hlt]
    rw [List.foldl_cons, hstep]
    exact ih (fun q hq => h q (List.mem_cons_of_mem p hq))

/-- A cell above all others is chosen. -/
theorem foldl_tallyPick_max {l : List (Nat × Nat)} {b : Option (Nat × Nat)} {m i : Nat} (hm : (i, m) ∈ l)
    (h : ∀ p ∈ l, p = (i, m) ∨ p.2 < m) (hb : ∀ x ∈ b, x.1 ≤ m) : l.foldl tallyPick b = some (m, i) := by
  induction l generalizing b with
  | nil => simp at hm
  | cons p l ih =>
    have hrest := fun q hq => h q (List.mem_cons_of_mem p hq)
    rw [List.foldl_cons]
    by_cases hp : p = (i, m)
    · have hstep : tallyPick b p = some (m, i) := by
        subst hp
        rcases b with _ | ⟨w, j⟩
        · rfl
        · simp [tallyPick, hb (w, j) rfl]
      rw [hstep]
      exact foldl_tallyPick_keeps hrest
    · have hlt : p.2 < m := (h p List.mem_cons_self).resolve_left hp
      have hin : (i, m) ∈ l := (List.mem_cons.mp hm).resolve_left (fun e => hp e.symm)
      refine ih hin hrest (fun x hx => ?_)
      rcases b with _ | ⟨w, j⟩
      · cases hx
        exact Nat.le_of_lt hlt
      · simp only [tallyPick] at hx
        split at hx
        · cases hx
          exact Nat.le_of_lt hlt
        · exact hb x hx

theorem mem_validCells (c i v : Nat) (s : State) : (i, v) ∈ validCells c s ↔ i < 32 ∧ cellVal c i s = some v := by
  simp only [validCells, List.mem_filterMap, List.mem_range, Option.map_eq_some_iff]
  constructor
  · rintro ⟨j, hj, w, hw, e⟩
    cases e
    exact ⟨hj, hw⟩
  · rintro ⟨hi, hv⟩
    exact ⟨i, hi, v, hv, rfl⟩

/-- A cell with a new largest value is the current slot. -/
theorem tally_of_raised (c i v m : Nat) (s s' : State) (hi : i < 32) (slot : Nat) (ht : tally c s = some (v, slot))
    (hm : v < m) (hnew : cellVal c i s' = some m) (hold : ∀ j < 32, j ≠ i → cellVal c j s' = cellVal c j s) :
    tally c s' = some (m, i) := by
  rw [tally_eq] at ht ⊢
  obtain ⟨-, hle⟩ := le_of_foldl_tallyPick ht
  refine foldl_tallyPick_max ((mem_validCells c i m s').mpr ⟨hi, hnew⟩) (fun p hp => ?_) (by simp)
  obtain ⟨j, w⟩ := p
  obtain ⟨hj, hw⟩ := (mem_validCells c j w s').mp hp
  by_cases hji : j = i
  · subst hji
    rw [hnew] at hw
    cases hw
    exact .inl rfl
  · rw [hold j hj hji] at hw
    exact .inr (Nat.lt_of_le_of_lt (hle (j, w) ((mem_validCells c j w s).mpr ⟨hj, hw⟩)) hm)

/-! ## Increments -/

/-- A write of one tally cell keeps the rest of the array. -/
theorem ArrayKept.nvWriteWord_cell (c i : Nat) (bs : Bytes) (s : State) (hw : s.nv.worn = []) (hi : i < 32) :
    ArrayKept [c] s (nvWriteWord (cellAddr c i) bs s).1 := by
  obtain ⟨-, -, hmem, hbad⟩ := nvWriteWord_fresh (cellAddr c i) bs s hw
  refine ⟨fun a _ ha => ?_, fun a _ ha => ?_, fun h => by rw [hmem]; exact wf_mwrite nvDflt _ _ h⟩
  · rw [hmem]
    refine mget_mwrite_out nvDflt _ _ a _ ?_
    rw [fit_length]
    unfold cellAddr
    simp only [List.mem_singleton] at ha
    omega
  · have hne : a ≠ cellAddr c i := by
      rintro rfl
      exact ha (by simp only [List.mem_singleton, cellAddr]; omega)
    rw [hbad, Bool.eq_iff_iff]
    simp [hne]

/-- The state in which an increment writes its cell: the invalid cells are counted (R357). -/
def tallyStart (c : Nat) (s : State) : State := addFld NVS_TALLY_CNT.INVALID (32 - (validCells c s).length) s

/-- The state in which it has written it. -/
def tallyCell (c n v slot : Nat) (s : State) : State :=
  (nvWriteWord (cellAddr c ((slot + 1) % 32)) (cellBytes c (v + n)) (tallyStart c s)).1

/-- An increment that stays below the largest value is done with one written cell (R357). -/
theorem tallyStep_eq (c n : Nat) (s : State) (hw : s.nv.worn = []) {v slot : Nat} (ht : tally c s = some (v, slot))
    (hn : 0 < n) (hmax : v + n ≤ tallyMax) :
    ∃ clip again, tallyStep c n s =
      (bump NVS_TALLY_CNT.INC (tallyCell c n v slot s), .done (v + n) ((slot + 1) % 32) clip again) := by
  have htx : tally c (tallyStart c s) = some (v, slot) := ht
  obtain ⟨hok, -, -, -⟩ := nvWriteWord_fresh (cellAddr c ((slot + 1) % 32)) (cellBytes c (v + n)) (tallyStart c s) hw
  have hlim : ¬ v ≥ tallyMax := by omega
  have hinc : tallyInc c n s =
      (bump NVS_TALLY_CNT.INC (tallyCell c n v slot s), .done (v + n) ((slot + 1) % 32) (decide (v + n > tallyMax))
        (rewrites (cellAddr c ((slot + 1) % 32)) 8 (tallyStart c s))) := by
    have hx : addFld NVS_TALLY_CNT.INVALID (32 - (validCells c s).length) s = tallyStart c s := rfl
    simp only [tallyInc, hx, htx, if_neg hlim, Nat.min_eq_left hmax, hok, if_true, tallyCell]
  refine ⟨decide (v + n > tallyMax), rewrites (cellAddr c ((slot + 1) % 32)) 8 (tallyStart c s), ?_⟩
  simp only [tallyStep, hinc]

/-- It leaves the ledger as it is. -/
theorem tallyStep_ledger (c n : Nat) (s : State) (hw : s.nv.worn = []) {v slot : Nat} (ht : tally c s = some (v, slot))
    (hn : 0 < n) (hmax : v + n ≤ tallyMax) (hc : c < 256) :
    (tallyStep c n s).1.lgr = s.lgr ∧
      ∀ a, 0x10000 ≤ a → mget nvDflt (tallyStep c n s).1.nv.mem a = mget nvDflt s.nv.mem a := by
  obtain ⟨clip, again, heq⟩ := tallyStep_eq c n s hw ht hn hmax
  obtain ⟨-, hblank, hmem, -⟩ :=
    nvWriteWord_fresh (cellAddr c ((slot + 1) % 32)) (cellBytes c (v + n)) (tallyStart c s) hw
  rw [heq]
  refine ⟨(congrArg State.lgr hblank :), fun a ha => ?_⟩
  refine (congrArg (fun m => mget nvDflt m a) hmem :).trans (mget_mwrite_out nvDflt _ _ a _ ?_)
  rw [fit_length]
  unfold cellAddr
  omega

/-- The counter holds the sum, and nothing else but its cells and NVS_TALLY_CNT changes (R357). -/
theorem tallyStep_done (c n : Nat) (s : State) (hw : s.nv.worn = [])
    (hm : Memory.wf nvDflt s.nv.mem = true) {v slot : Nat} (ht : tally c s = some (v, slot)) (hn : 0 < n)
    (hmax : v + n ≤ tallyMax) :
    (∃ clip again, (tallyStep c n s).2 = .done (v + n) ((slot + 1) % 32) clip again) ∧
      Recorded [c] [NVS_TALLY_CNT.reg] s (tallyStep c n s).1 ∧
      tally c (tallyStep c n s).1 = some (v + n, (slot + 1) % 32) := by
  obtain ⟨clip, again, heq⟩ := tallyStep_eq c n s hw ht hn hmax
  have hi : (slot + 1) % 32 < 32 := Nat.mod_lt _ (by decide)
  rw [heq, tallyCell]
  generalize (slot + 1) % 32 = i at hi ⊢
  have hsx : Recorded [c] [NVS_TALLY_CNT.reg] s (tallyStart c s) :=
    Recorded.setFld _ _ s (by simp [recordRegs, NVS_TALLY_CNT.INVALID, NVS_TALLY_CNT.reg])
  have hxnv : (tallyStart c s).nv = s.nv := rfl
  have htx : tally c (tallyStart c s) = some (v, slot) := ht
  generalize tallyStart c s = x at *
  have hwx : x.nv.worn = [] := by rw [hxnv]; exact hw
  obtain ⟨-, hblank, hmem, hbad⟩ := nvWriteWord_fresh (cellAddr c i) (cellBytes c (v + n)) x hwx
  have hxy : Recorded [c] [NVS_TALLY_CNT.reg] x (nvWriteWord (cellAddr c i) (cellBytes c (v + n)) x).1 :=
    ⟨(congrArg blankLedger hblank :), RegsKept.of_eq _ (congrArg State.regs hblank :) (congrArg State.part hblank :),
      HostKept.of_eq (congrArg State.hif hblank :) (congrArg State.hostMem hblank :),
      ArrayKept.nvWriteWord_cell c i _ x hwx hi, (congrArg (fun x => x.lgr.hostWait) hblank :)⟩
  refine ⟨⟨_, _, rfl⟩, (hsx.trans hxy).trans
    (Recorded.bump _ _ (by simp [recordRegs, NVS_TALLY_CNT.INC, NVS_TALLY_CNT.reg])), ?_⟩
  have hfit : fit 8 (cellBytes c (v + n)) = cellBytes c (v + n) := fit_self (cellBytes_length c (v + n))
  rw [hfit] at hmem
  refine tally_of_raised c i v (v + n) x _ hi slot htx (by omega) ?_ (fun j hj hne => ?_)
  · refine cellVal_of_cellBytes c i (v + n) _ ?_ ?_ hmax
    · have hback := mread_mwrite nvDflt (cellBytes c (v + n)) (cellAddr c i) (m := x.nv.mem) (by rw [hxnv]; exact hm)
      rw [cellBytes_length] at hback
      exact (congrArg (fun m => mread nvDflt m (cellAddr c i) 8) hmem :).trans hback
    · have hout : (nvWriteWord (cellAddr c i) (cellBytes c (v + n)) x).1.nv.bad.contains (cellAddr c i) = false := by
        rw [hbad]; simp
      exact hout
  · have hapart : cellAddr c j + 8 ≤ cellAddr c i ∨ cellAddr c i + 8 ≤ cellAddr c j := by
      unfold cellAddr; omega
    refine cellVal_congr c j (fun k hk => ?_) ?_
    · refine (congrArg (fun m => mget nvDflt m (cellAddr c j + k)) hmem :).trans ?_
      exact mget_mwrite_out nvDflt _ _ _ _ (by rw [cellBytes_length]; omega)
    · have hne' : cellAddr c j ≠ cellAddr c i := by omega
      have hout : (nvWriteWord (cellAddr c i) (cellBytes c (v + n)) x).1.nv.bad.contains (cellAddr c j) =
          x.nv.bad.contains (cellAddr c j) := by
        rw [hbad, Bool.eq_iff_iff]; simp [hne']
      exact hout

/-! ## The lifecycle state -/

/-- The state depends on counter 249 and on Service alone (R408, R409). -/
theorem lcState_congr {s s' : State} (ht : tally 249 s' = tally 249 s)
    (hs : s'.lcy.service.isSome = s.lcy.service.isSome) : lcState s' = lcState s := by
  have hp : persistentState s' = persistentState s := by rw [persistentState, ht, persistentState]
  rw [lcState, hp, hs, lcState]

/-- Blank and Provisioned are the counter's own values. -/
theorem tally_of_lcState_le {s : State} (h : lcState s ≤ 1) (ht : (tally 249 s).isSome = true) :
    ∃ slot, tally 249 s = some (lcState s, slot) := by
  obtain ⟨⟨v, slot⟩, hv⟩ := Option.isSome_iff_exists.mp ht
  have hst : lcState s = v := by
    simp only [lcState, persistentState, hv] at h ⊢
    split_ifs at h ⊢ <;> omega
  exact ⟨slot, by rw [hv, hst]⟩

/-- What the counter says outside Service. -/
theorem lcState_of_tally {s : State} {v slot : Nat} (ht : tally 249 s = some (v, slot)) (hv : v ≠ 2) :
    lcState s = if v ≥ 3 then 4 else v := by
  simp only [lcState, persistentState, ht]
  split_ifs <;> omega

theorem tallyVal_of_tally {c : Nat} {s : State} {v slot : Nat} (ht : tally c s = some (v, slot)) :
    tallyVal c s = v := by
  simp only [tallyVal, ht]

end Sys2Proof.Machine
end

section
/-! SUPPORT. Proofs of the lifecycle, part 6: a LIFECYCLE descriptor at its unit, and what it completes from. -/
namespace Sys2Proof.Machine

/-! ## Completions of a served descriptor -/

/-- A completion of `d` can be written from `s`: its sender hears it, and nothing of another command waits. -/
structure Answerable (d : Desc) (s : State) : Prop where
  heard : heard d s = true
  mem : Memory.wf zeroByte s.hostMem = true
  hostWait : s.lgr.hostWait.all (fun p => decide (p.2 ≠ 0)) = true
  wait : s.fold.wait = []
  queue : s.fold.queue = []

namespace Answerable

variable {d : Desc} {s s' : State} {st det : Nat} {res : Bytes}

theorem recorded {cells offs : List Nat} (h : Answerable d s) (hr : Recorded cells offs s s') : Answerable d s' :=
  ⟨(hr.host.heard d).trans h.heard, hr.host.memWf h.mem, by rw [hr.hostWait]; exact h.hostWait,
    by rw [hr.fold]; exact h.wait, by rw [hr.fold]; exact h.queue⟩

/-- A quiet completion answers. -/
theorem quiet (h : Answerable d s) (hq : quietStatus st d.opcode = true) :
    answers d st res det s (finish (complete d st res det s)) :=
  answers_complete d st res det s hq h.heard h.mem h.hostWait h.wait h.queue

/-- Any completion answers from the state in which it has been counted and recorded. -/
theorem counted {cells offs : List Nat} (h : Answerable d s) (hr : Recorded cells offs s (counted d st s)) :
    answers d st res det (Machine.counted d st s) (finish (complete d st res det s)) := by
  have hc := h.recorded hr
  have hgone : s.hif.flight.any (fun f => f.is d && f.discard) = false := by
    have := h.heard
    simp only [Machine.heard, Bool.and_eq_true, Bool.not_eq_true'] at this
    exact this.1
  have hnow : now s = now (Machine.counted d st s) := by rw [now, now, hr.clk]
  rw [complete_eq, hgone, hnow]
  exact answers_routeEntry d st res det _ hc.heard hc.mem hc.hostWait hc.wait hc.queue

end Answerable

/-- What a completion drains first is such a step. -/
theorem drained_recorded {cells offs : List Nat} (d : Desc) (s : State) : Recorded cells offs s (drained d s) := by
  unfold drained
  split
  · exact ⟨rfl, RegsKept.of_eq _ rfl rfl, HostKept.of_eq rfl rfl, ArrayKept.of_eq _ rfl rfl, rfl⟩
  · exact Recorded.refl s

/-- What a completion counts and records (R127). -/
theorem counted_recorded {cells offs : List Nat} (d : Desc) (st : Nat) (s : State) (hr : s.nv.ledgerReady = true)
    (hw : s.nv.worn = []) (ho : 1 ≤ st ∧ st ≤ 6 → HIF_VIOL_CNT.reg ∈ offs) :
    Recorded cells offs s (counted d st s) := by
  have hsx : Recorded cells offs s
      (if 1 ≤ st ∧ st ≤ 6 then bump HIF_VIOL_CNT.DESC (drained d s) else drained d s) := by
    split
    · next h =>
      exact (drained_recorded d s).trans (Recorded.bump _ _ (List.mem_append_right _ (ho h)))
    · exact drained_recorded d s
  unfold counted
  dsimp only
  split
  · exact hsx.trans (append_recorded _ _ _ _ (hsx.ledgerReady.trans hr) (hsx.worn.trans hw))
  · exact hsx

/-- What ledger records and events leave alone, told from a state that reads alike. -/
theorem Recorded.recordsOnly {cells offs : List Nat} {x y s : State} (h : Recorded cells offs x y)
    (hb : blankRecords x = blankRecords s) (hr : x.regs = s.regs) (hm : x.nv.mem = s.nv.mem) :
    recordsOnly cells offs s y := by
  have hp : x.part = s.part := (congrArg State.part hb :)
  refine ⟨(congrArg blankRecords h.blank :).trans hb, fun off ho => ?_, fun a ha hc => ?_⟩
  · rw [h.regs.keeps off ho]
    simp only [regGet, hr, hp]
  · rw [h.array.mem a ha hc, hm]

/-! ## The descriptor at its unit -/

/-- A descriptor of a row's MODE is read as it is. -/
theorem asMode_self (op m : Nat) (d : Desc) (h : isMode op m d = true) : asMode op m d = d := by
  simp only [isMode, isRow, Desc.wf, Bool.and_eq_true, beq_iff_eq, decide_eq_true_eq] at h
  obtain ⟨⟨⟨⟨-, hlen⟩, -⟩, hop⟩, hm⟩ := h
  have hslice : slice 0 24 d.par = d.par := by
    simp [slice, hlen]
  have hbyte : byteOf m = d.par[0] := by
    rw [← hm, p8, byteAt, List.getD_eq_getElem _ _ (by omega), byteOf, BitVec.ofNat_toNat, BitVec.setWidth_eq]
  simp only [asMode, asOp, setPar, hslice, hbyte, List.set_getElem_self]
  rw [← hop]

theorem opcode_of_isMode {op m : Nat} {d : Desc} (h : isMode op m d = true) : d.opcode = op := by
  simp only [isMode, isRow, Bool.and_eq_true, beq_iff_eq] at h
  exact h.1.2

/-- The host interface's own bookkeeping moves on. -/
def withHif (h : Hif) (s : State) : State := { s with hif := h }

@[simp] theorem withHif_lcy (h : Hif) (s : State) : (withHif h s).lcy = s.lcy := rfl
@[simp] theorem withHif_nv (h : Hif) (s : State) : (withHif h s).nv = s.nv := rfl
@[simp] theorem withHif_lgr (h : Hif) (s : State) : (withHif h s).lgr = s.lgr := rfl
@[simp] theorem withHif_part (h : Hif) (s : State) : (withHif h s).part = s.part := rfl
@[simp] theorem withHif_tally (c : Nat) (h : Hif) (s : State) : tally c (withHif h s) = tally c s := rfl
@[simp] theorem withHif_fleetKey (h : Hif) (s : State) : fleetKey (withHif h s) = fleetKey s := rfl
@[simp] theorem withHif_finalStored (h : Hif) (s : State) : finalStored (withHif h s) = finalStored s := rfl
@[simp] theorem withHif_bootable (b : Nat) (h : Hif) (s : State) : bootable b (withHif h s) = bootable b s := rfl
@[simp] theorem withHif_now (h : Hif) (s : State) : now (withHif h s) = now s := rfl
@[simp] theorem withHif_lcState (h : Hif) (s : State) : lcState (withHif h s) = lcState s := rfl
@[simp] theorem withHif_rngState (h : Hif) (s : State) : rngState (withHif h s) = rngState s := rfl
@[simp] theorem withHif_lcyResult (h : Hif) (prev : Nat) (s : State) :
    lcyResult prev (withHif h s) = lcyResult prev s := rfl

theorem dmaWrite_withHif (h : Hif) (d : Desc) (a : Nat) (bs : Bytes) (s : State) :
    dmaWrite d a bs (withHif h s) = withHif h (dmaWrite d a bs s) := by
  unfold dmaWrite
  split <;> rfl

theorem dmaRead_withHif {h : Hif} {s : State} (hb : h.busMaster = s.hif.busMaster) (d : Desc) (a n : Nat) :
    dmaRead d a n (withHif h s) = dmaRead d a n s := by
  simp only [dmaRead, withHif, hb]
  rfl

theorem dmaBlocked_withHif {h : Hif} {s : State} (hb : h.busMaster = s.hif.busMaster) (d : Desc) (a n : Nat) :
    dmaBlocked d a n (withHif h s) = dmaBlocked d a n s := by
  simp only [dmaBlocked, withHif, hb]
  rfl

/-- A completion looks the same from a state that differs in the host interface's bookkeeping only. -/
theorem answers_of_withHif {d : Desc} {st det : Nat} {res : Bytes} {s s' : State} {h : Hif} (hq : h.qps = s.hif.qps)
    (ha : answers d st res det (withHif h s) s') : answers d st res det s s' :=
  answers_of_hif ha rfl hq.symm

/-- A served LIFECYCLE descriptor: its command is its unit's work, from the state at the tick but for the host
interface's bookkeeping. -/
theorem served {t m : Nat} {d : Desc} {s : State} (hs : serves t d s) (hmode : isMode 0x6A m d = true) :
    ∃ h : Hif, atWork d (elapse t s) = withHif h (elapse t s) ∧ h.qps = (elapse t s).hif.qps ∧
      h.busMaster = (elapse t s).hif.busMaster ∧ Answerable d (withHif h (elapse t s)) ∧
      ∀ run, descCommand t (asMode 0x6A m d) run s = .next (finish (run d (withHif h (elapse t s)))) := by
  obtain ⟨hrun, hmem, -, hat⟩ := hs
  obtain ⟨hx, hq, hb, hh⟩ := atWork_eq d (elapse t s) hat
  have hlive := ((running_iff s).mp hrun).1
  simp only [live, Bool.and_eq_true] at hlive
  obtain ⟨-, -, -, -, hwait, hqueue, hhost⟩ := (calm_iff s).mp hlive.1
  change atWork d (elapse t s) = withHif (atWork d (elapse t s)).hif (elapse t s) at hx
  refine ⟨_, hx, hq, hb, ⟨by rw [← hx]; exact hh, ?_, ?_, ?_, ?_⟩, fun run => ?_⟩
  · simpa [withHif] using hmem.1
  · simpa [withHif] using hhost
  · simpa [withHif] using hwait
  · simpa [withHif] using hqueue
  · rw [asMode_self _ _ d hmode, ← hx]
    exact descCommand_atUnit t d run s hrun hat

/-! ## What the tick leaves alone -/

@[simp] theorem elapse_tally (c t : Nat) (s : State) : tally c (elapse t s) = tally c s :=
  tally_congr c (fun i _ => cellVal_congr c i (fun _ _ => by simp) (by simp))

@[simp] theorem elapse_lcState (t : Nat) (s : State) : lcState (elapse t s) = lcState s :=
  lcState_congr (elapse_tally 249 t s) (by simp)

@[simp] theorem elapse_recRead (id t : Nat) (s : State) : recRead id (elapse t s) = recRead id s := by
  simp [recRead, recGet]

@[simp] theorem elapse_fleetKey (t : Nat) (s : State) : fleetKey (elapse t s) = fleetKey s := by
  simp [fleetKey]

@[simp] theorem elapse_bootable (b t : Nat) (s : State) : bootable b (elapse t s) = bootable b s := by
  rw [elapse_eq]
  rfl

@[simp] theorem elapse_finalStored (t : Nat) (s : State) : finalStored (elapse t s) = finalStored s := by
  simp [finalStored, ringStatements]

@[simp] theorem elapse_rngState (t : Nat) (s : State) : rngState (elapse t s) = rngState s := by
  simp [rngState]

@[simp] theorem elapse_dmaRead (d : Desc) (a n t : Nat) (s : State) : dmaRead d a n (elapse t s) = dmaRead d a n s := by
  rw [elapse_eq]
  rfl

@[simp] theorem elapse_dmaBlocked (d : Desc) (a n t : Nat) (s : State) :
    dmaBlocked d a n (elapse t s) = dmaBlocked d a n s := by
  rw [elapse_eq]
  rfl

end Sys2Proof.Machine
end

section
/-! SUPPORT. Proofs of the lifecycle, part 7: CHALLENGE, OTP_K, FLEET_KEY, and the end of a nonce. -/
namespace Sys2Proof.Machine

section
variable {s : State} {t : Nat} {d : Desc}

/-! ## Form of the descriptor -/

theorem reserved_free {lo : Nat} (hp : parNonzero lo 24 d = none) (k : State → State) : reserved lo d k s = k s := by
  simp only [reserved, hp]

theorem lcyForm_free (h1 : p8 d 1 = 0) (hp : parNonzero 2 24 d = none) (k : State → State) : lcyForm d k s = k s := by
  simp [lcyForm, h1, reserved_free hp]

theorem readSrc_some {n : Nat} {bs : Bytes} (h : dmaRead d d.srcAddr n s = some bs) (k : Bytes → State → State) :
    readSrc d n k s = k bs s := by
  simp only [readSrc, h]

/-- OK, and every other status that R127 does not count, is quiet. -/
theorem quiet_of_lcy {st : Nat} (ho : d.opcode = 0x6A) (hst : st = stOk ∨ st = stHealth) :
    quietStatus st d.opcode = true := by
  rw [ho]
  rcases hst with rfl | rfl <;> decide

/-! ## CHALLENGE -/

/-- The draw of a challenge: 16 bytes, the generator's counts, and the nonce. -/
def challenged (s : State) : State :=
  { (drawBytes 16 s).2 with lcy := { s.lcy with nonce := some (freeBytes 16 s, now s) } }

/-- A draw takes free bytes and touches the generator's registers only (R334). -/
theorem drawBytes_frame (k : Nat) (s : State) :
    (drawBytes k s).2 = { s with regs := (drawBytes k s).2.regs, free := s.free + k } ∧
      RegsKept [RNG_REQ_CNT.reg, RNG_STATUS.reg] s (drawBytes k s).2 := by
  have hfree : RegsKept [RNG_REQ_CNT.reg, RNG_STATUS.reg] s (tookFree k s) := RegsKept.of_eq _ rfl rfl
  have hcount := hfree.trans (RegsKept.setFld RNG_REQ_CNT.SINCE_RESEED
    (min (fld RNG_REQ_CNT.SINCE_RESEED (tookFree k s) + 1) 69632) (tookFree k s) (by decide))
  simp only [drawBytes, countGenerate]
  split
  · exact ⟨rfl, hcount.trans (RegsKept.setFld RNG_STATUS.RESEED_DUE 1 _ (by decide))⟩
  · exact ⟨rfl, hcount⟩

theorem challenged_eq (s : State) : challenged s =
    { s with
      regs := (challenged s).regs, free := s.free + 16
      lcy := { s.lcy with nonce := some (freeBytes 16 s, now s) } } := by
  rw [challenged, (drawBytes_frame 16 s).1]

theorem challenged_withHif (h : Hif) (s : State) : challenged (withHif h s) = withHif h (challenged s) := by
  have hdraw : (drawBytes 16 (withHif h s)).2 = withHif h (drawBytes 16 s).2 := by
    simp only [drawBytes, countGenerate, apply_ite (withHif h)]
    rfl
  rw [challenged, hdraw]
  rfl

/-- A write to DST changes no result bytes. -/
theorem lcyResult_dmaWrite (prev a : Nat) (bs : Bytes) (s : State) :
    lcyResult prev (dmaWrite d a bs s) = lcyResult prev s := by
  unfold dmaWrite
  split <;> rfl

/-- A completion can still be written after a write to DST. -/
theorem Answerable.dmaWrite (h : Answerable d s) (a : Nat) (bs : Bytes) : Answerable d (dmaWrite d a bs s) := by
  unfold Machine.dmaWrite
  split
  · exact ⟨h.heard, wf_mwrite zeroByte bs a h.mem, h.hostWait, h.wait, h.queue⟩
  · exact ⟨h.heard, h.mem, h.hostWait, h.wait, h.queue⟩
  · exact ⟨h.heard, h.mem, h.hostWait, h.wait, h.queue⟩

/-- With the generator ready, CHALLENGE writes the nonce to DST and completes (R414). -/
theorem challenge_ready (h1 : p8 d 1 = 0) (hp : parNonzero 2 24 d = none) (hr : rngState s = 2)
    (hb : dmaBlocked d d.dstAddr 16 s = false) :
    challenge d s = complete d stOk (lcyResult (lcState s) (dmaWrite d d.dstAddr (freeBytes 16 s) (challenged s))) 0
      (dmaWrite d d.dstAddr (freeBytes 16 s) (challenged s)) := by
  obtain ⟨hframe, -⟩ := drawBytes_frame 16 s
  have hlen : (freeBytes 16 s).length = 16 := by simp [freeBytes]
  have hblock : dmaBlocked d d.dstAddr 16 (drawBytes 16 s).2 = false := by rw [hframe]; exact hb
  have hw : dmaWrite d d.dstAddr (freeBytes 16 s) (challenged s) =
      { dmaWrite d d.dstAddr (freeBytes 16 s) (drawBytes 16 s).2 with
        lcy := { s.lcy with nonce := some (freeBytes 16 s, now s) } } := by
    cases hd : d.src <;> simp only [dmaWrite, hd, challenged]
  have hnow : now (dmaWrite d d.dstAddr (freeBytes 16 s) (drawBytes 16 s).2) = now s := by
    cases hd : d.src <;> simp only [dmaWrite, hd] <;> rw [hframe] <;> rfl
  have hlcy : (dmaWrite d d.dstAddr (freeBytes 16 s) (drawBytes 16 s).2).lcy = s.lcy := by
    cases hd : d.src <;> simp only [dmaWrite, hd] <;> rw [hframe]
  have hst : lcState (dmaWrite d d.dstAddr (freeBytes 16 s) (drawBytes 16 s).2) = lcState s := by
    cases hd : d.src <;> simp only [dmaWrite, hd] <;> rw [hframe] <;> rfl
  have hfails : drawFails s = none := by simp [drawFails, hr]
  rw [challenge, lcyForm_free h1 hp, hfails]
  simp only [challengeNow, writeDst]
  rw [show (drawBytes 16 s).1 = freeBytes 16 s from rfl, hlen, hblock]
  simp only [Bool.false_eq_true, if_false, hnow, hlcy, hst]
  rw [hw]

/-- CHALLENGE with the generator ready draws a nonce into DST (R412, R414). -/
theorem challenge_answers (hs : serves t d s) (hmode : isMode 0x6A 0 d = true) (h1 : p8 d 1 = 0)
    (hp : parNonzero 2 24 d = none) (hr : rngState s = 2) (hb : dmaBlocked d d.dstAddr 16 s = false) :
    ∃ s1 s', exec (.lifecycleChallenge t d) s = .next s' ∧
      answers d stOk (lcyResult (lcState s) s1) 0
        (dmaWrite d d.dstAddr (freeBytes 16 (elapse t s)) s1) s' ∧
      s1 = { elapse t s with
        regs := s1.regs, free := s.free + 16
        lcy := { s.lcy with nonce := some (freeBytes 16 (elapse t s), now (elapse t s)) } } ∧
      keepsRegs [RNG_REQ_CNT.reg, RNG_STATUS.reg] s s1 := by
  obtain ⟨h, -, hq, hbus, hans, hrun⟩ := served hs hmode
  obtain ⟨-, hregs⟩ := drawBytes_frame 16 (elapse t s)
  refine ⟨challenged (elapse t s), _, hrun challenge, ?_, ?_, fun off ho => ?_⟩
  · have hb' : dmaBlocked d d.dstAddr 16 (withHif h (elapse t s)) = false := by
      rw [dmaBlocked_withHif hbus, elapse_dmaBlocked, hb]
    rw [challenge_ready h1 hp (by simpa using hr) hb']
    rw [show freeBytes 16 (withHif h (elapse t s)) = freeBytes 16 (elapse t s) from rfl, lcyResult_dmaWrite,
      challenged_withHif, withHif_lcState, elapse_lcState, withHif_lcyResult]
    have hready : Answerable d (withHif h (challenged (elapse t s))) := by
      rw [challenged_eq]
      exact ⟨hans.heard, hans.mem, hans.hostWait, hans.wait, hans.queue⟩
    have ha := (hready.dmaWrite d.dstAddr (freeBytes 16 (elapse t s))).quiet (st := stOk) (det := 0)
      (res := lcyResult (lcState s) (challenged (elapse t s))) (quiet_of_lcy (opcode_of_isMode hmode) (.inl rfl))
    refine answers_of_withHif (h := h) ?_ (by rwa [dmaWrite_withHif] at ha ⊢)
    cases hd : d.src <;> simp only [dmaWrite, hd] <;> rw [challenged_eq] <;> exact hq
  · rw [challenged_eq, elapse_free, elapse_lcy]
  · exact (hregs.keeps off ho).trans (elapse_regGet off t s)

/-- CHALLENGE in a Steep waits for its end (R320). -/
theorem challenge_waits (hs : serves t d s) (hmode : isMode 0x6A 0 d = true) (h1 : p8 d 1 = 0)
    (hp : parNonzero 2 24 d = none) (hr : rngState s < 2) :
    ∃ s', exec (.lifecycleChallenge t d) s = .next s' ∧
      settles { atWork d (elapse t s) with
        lcy := { s.lcy with steepWait := s.lcy.steepWait ++ [(d, now (elapse t s) + timeoutTicks d 100)] } } s' := by
  obtain ⟨h, hx, -, -, hans, hrun⟩ := served hs hmode
  have hrng : rngState (withHif h (elapse t s)) = rngState s := elapse_rngState t s
  have hwait : challenge d (withHif h (elapse t s)) =
      { withHif h (elapse t s) with
        lcy := { s.lcy with steepWait := s.lcy.steepWait ++ [(d, now (elapse t s) + timeoutTicks d 100)] } } := by
    have hfails : drawFails (withHif h (elapse t s)) = some stNotReady := by
      have h2 : rngState s ≠ 2 := by omega
      have h3 : rngState s ≠ 3 := by omega
      have h4 : rngState s ≠ 4 := by omega
      simp [drawFails, hrng, h2, h3, h4]
    rw [challenge, lcyForm_free h1 hp, hfails]
    simp [stNotReady, stHealth]
  refine ⟨_, hrun challenge, ?_⟩
  rw [hx, hwait]
  exact finish_settles _ hans.hostWait hans.wait hans.queue

/-- CHALLENGE with a failed generator completes with HEALTH_FAIL (R320). -/
theorem challenge_fails (hs : serves t d s) (hmode : isMode 0x6A 0 d = true) (h1 : p8 d 1 = 0)
    (hp : parNonzero 2 24 d = none) (hr : rngState s = 3 ∨ rngState s = 4) :
    ∃ s', exec (.lifecycleChallenge t d) s = .next s' ∧ answers d stHealth [] 0 (elapse t s) s' := by
  obtain ⟨h, -, hq, hbus, hans, hrun⟩ := served hs hmode
  have hrng : rngState (withHif h (elapse t s)) = rngState s := elapse_rngState t s
  have hfails : drawFails (withHif h (elapse t s)) = some stHealth := by
    have h2 : rngState s ≠ 2 := by omega
    simp [drawFails, hrng, h2, hr]
  refine ⟨_, hrun challenge, answers_of_withHif hq ?_⟩
  rw [challenge, lcyForm_free h1 hp, hfails]
  exact hans.quiet (quiet_of_lcy (opcode_of_isMode hmode) (.inr rfl))

/-! ## OTP_K -/

/-- A completion that HIF_VIOL_CNT counts and no record tells of is turned away. -/
theorem turnedAway_of_fail {st det : Nat} {h : Hif} {y : State} (hans : Answerable d (withHif h y))
    (hst : 1 ≤ st ∧ st ≤ 6) (hviol : isHostViol st d.opcode = false) (hwf : Regs.wf y = true)
    (hq : h.qps = y.hif.qps) : turnedAway d st det y (finish (fail d st det (withHif h y))) := by
  have hc : counted d st (withHif h y) = bump HIF_VIOL_CNT.DESC (drained d (withHif h y)) := by
    simp [counted, hst, hviol]
  have hrec : Recorded [] [HIF_VIOL_CNT.reg] (withHif h y) (counted d st (withHif h y)) := by
    rw [hc]
    exact (drained_recorded d _).trans (Recorded.bump _ _ (by simp [HIF_VIOL_CNT.DESC, HIF_VIOL_CNT.reg]))
  have ha : answers d st [] det _ (finish (fail d st det (withHif h y))) := hans.counted hrec
  have hdr : drained d (withHif h y) = { withHif h y with nv := (drained d (withHif h y)).nv } := by
    unfold drained; split <;> rfl
  have hkeep : RegsKept [HIF_VIOL_CNT.reg] y (counted d st (withHif h y)) := by
    rw [hc, hdr]
    have h0 : RegsKept [HIF_VIOL_CNT.reg] y { withHif h y with nv := (drained d (withHif h y)).nv } :=
      RegsKept.of_eq _ rfl rfl
    exact h0.trans (RegsKept.bump HIF_VIOL_CNT.DESC _ (by decide))
  have hcnt : fld HIF_VIOL_CNT.DESC (counted d st (withHif h y)) = sat 16 (fld HIF_VIOL_CNT.DESC y + 1) := by
    have hwf' : Regs.wf (drained d (withHif h y)) = true := by rw [hdr]; exact hwf
    rw [hc, fld_bump_same _ (by decide) _ hwf', hdr]
    rfl
  have hframe : blankHost (counted d st (withHif h y)) =
      blankHost { y with regs := (counted d st (withHif h y)).regs } := by
    rw [hc]; unfold drained; split <;> rfl
  have hhost : (counted d st (withHif h y)).hif = h ∧ (counted d st (withHif h y)).hostMem = y.hostMem ∧
      (counted d st (withHif h y)).mon = y.mon ∧ now (counted d st (withHif h y)) = now y := by
    rw [hc, hdr]; exact ⟨rfl, rfl, rfl, rfl⟩
  obtain ⟨hhif, hmem, hmon, hnow⟩ := hhost
  generalize counted d st (withHif h y) = x at *
  generalize finish (fail d st det (withHif h y)) = s' at *
  have hqp : ∀ n, qp n x = qp n y := fun n => by simp [qp, hhif, hq]
  have hnext : ∀ n, nextEntry n x = nextEntry n y := fun n => by
    have h1 := hkeep.keeps (QPn_CQB_LO.reg n) (by simp [QPn_CQB_LO.reg, HIF_VIOL_CNT.reg]; omega)
    have h2 := hkeep.keeps (QPn_CQB_LO.reg n + 4) (by simp [QPn_CQB_LO.reg, HIF_VIOL_CNT.reg]; omega)
    simp only [nextEntry, cqBase, reg64, h1, h2, hqp]
  have hs' := completesOnly_regGet ha.2
  obtain ⟨⟨hflight, hentry⟩, hlines, hout⟩ := ha
  refine ⟨⟨hflight, ?_⟩, ?_, ⟨?_, ?_⟩, fun off ho => (hs' off).trans (hkeep.keeps off ho)⟩
  · cases hd : d.src <;> simpa only [hd, hqp, hnext, hnow] using hentry
  · rw [← hcnt]
    simp only [fld, hs']
  · exact (congrArg (fun z : State => { z with regs := y.regs }) (hlines.trans (congrArg blankLines hframe)) :)
  · cases hd : d.src <;> simpa only [hd, hnext, hmon, hmem] using hout

/-- OTP_K programs an override once (R415). -/
theorem otpK_programs (hs : serves t d s) (hmode : isMode 0x6A 3 d = true) (h1 : p8 d 1 = 0)
    (hp : parNonzero 2 24 d = none) {b : Bytes} (hb : dmaRead d d.srcAddr 4 s = some b) (h0 : s.lcy.otp = 0)
    (hlo : 14 ≤ byteAt 0 b) (hhi : byteAt 0 b ≤ 21) (hz : allZero (b.drop 1) = true) :
    ∃ s', exec (.lifecycleOtpK t d) s = .next s' ∧
      answers d stOk (lcyResult (lcState s) (elapse t s)) 0
        { elapse t s with lcy := { s.lcy with otp := byteAt 0 b } } s' := by
  obtain ⟨h, -, hq, hbus, hans, hrun⟩ := served hs hmode
  have hread : dmaRead d d.srcAddr 4 (withHif h (elapse t s)) = some b := by
    rw [dmaRead_withHif hbus, elapse_dmaRead, hb]
  have hunit : otpKUnit d (withHif h (elapse t s)) = complete d stOk (lcyResult (lcState s) (elapse t s)) 0
      (withHif h { elapse t s with lcy := { s.lcy with otp := byteAt 0 b } }) := by
    have hpass : ¬ ((elapse t s).lcy.otp ≠ 0 ∨ byteAt 0 b < 14 ∨ byteAt 0 b > 21 ∨ allZero (b.drop 1) = false) := by
      rintro (hc | hc | hc | hc)
      · exact hc (by rw [elapse_lcy, h0])
      · omega
      · omega
      · rw [hz] at hc; cases hc
    rw [otpKUnit, lcyForm_free h1 hp, readSrc_some hread]
    dsimp only
    rw [withHif_lcy, if_neg hpass, ← elapse_lcState t s, ← elapse_lcy t s]
    rfl
  refine ⟨_, hrun otpKUnit, answers_of_withHif (h := h) hq ?_⟩
  rw [hunit]
  exact Answerable.quiet ⟨hans.heard, hans.mem, hans.hostWait, hans.wait, hans.queue⟩
    (quiet_of_lcy (opcode_of_isMode hmode) (.inl rfl))

theorem regs_wf_elapse {x : State} (hm : memorySafe x) : Regs.wf (elapse t x) = true := by
  obtain ⟨-, -, -, -, hregs, -⟩ := hm
  simpa [Regs.wf] using hregs

theorem memWf_elapse {x : State} (hm : memorySafe x) : Memory.wf nvDflt (elapse t x).nv.mem = true := by
  obtain ⟨-, -, -, hnv, -, -⟩ := hm
  simpa using hnv

/-- OTP_K on a programmed device is turned away (R415). -/
theorem otpK_refuses (hs : serves t d s) (hmode : isMode 0x6A 3 d = true) (h1 : p8 d 1 = 0)
    (hp : parNonzero 2 24 d = none) {b : Bytes} (hb : dmaRead d d.srcAddr 4 s = some b) (h0 : s.lcy.otp ≠ 0) :
    ∃ s', exec (.lifecycleOtpK t d) s = .next s' ∧ turnedAway d stBadLen 32 (elapse t s) s' := by
  obtain ⟨h, -, hq, hbus, hans, hrun⟩ := served hs hmode
  have hread : dmaRead d d.srcAddr 4 (withHif h (elapse t s)) = some b := by
    rw [dmaRead_withHif hbus, elapse_dmaRead, hb]
  have hunit : otpKUnit d (withHif h (elapse t s)) = fail d stBadLen 32 (withHif h (elapse t s)) := by
    rw [otpKUnit, lcyForm_free h1 hp, readSrc_some hread]
    dsimp only
    rw [withHif_lcy, elapse_lcy, if_pos (.inl h0)]
  refine ⟨_, hrun otpKUnit, ?_⟩
  rw [hunit]
  exact turnedAway_of_fail hans (by decide) (by rw [opcode_of_isMode hmode]; decide) (regs_wf_elapse hs.2.1) hq

/-! ## FLEET_KEY -/

theorem seqNewer_iff (x y : Nat) :
    seqNewer x y = true ↔ 1 ≤ (x + 2 ^ 32 - y) % 2 ^ 32 ∧ (x + 2 ^ 32 - y) % 2 ^ 32 < 2 ^ 31 := by
  simp only [seqNewer, Bool.and_eq_true, decide_eq_true_eq]

/-- The next SEQ is newer than the one before it, also where it begins again at 1 (R353). -/
theorem seqNewer_seqNext {n : Nat} (h : n < 2 ^ 32) : seqNewer (seqNext n) n = true := by
  have hup : (seqNext n + 2 ^ 32 - n) % 2 ^ 32 = 1 ∨ (seqNext n + 2 ^ 32 - n) % 2 ^ 32 = 2 := by
    unfold seqNext; split <;> omega
  rw [seqNewer_iff]
  omega

/-- And the one before it is not newer. -/
theorem not_seqNewer_seqNext {n : Nat} (h : n < 2 ^ 32) : seqNewer n (seqNext n) = false := by
  have hdown : (n + 2 ^ 32 - seqNext n) % 2 ^ 32 = 2 ^ 32 - 1 ∨ (n + 2 ^ 32 - seqNext n) % 2 ^ 32 = 2 ^ 32 - 2 := by
    unfold seqNext; split <;> omega
  rw [← Bool.not_eq_true, seqNewer_iff]
  omega

/-- Which of two valid copies a read returns, and which the next write goes to (R353, Table 15.6). -/
theorem pick_both (a b : Copy) :
    (Dual.mk (some a) (some b)).pick = if seqNewer b.seq a.seq then some 1 else some 0 := rfl

theorem writeTo_both (a b : Copy) : (Dual.mk (some a) (some b)).writeTo = if seqNewer b.seq a.seq then 0 else 1 := rfl

/-- Of two valid copies a read returns B where it is newer (Table 15.6). -/
theorem newest_right {a b : Copy} (h : seqNewer b.seq a.seq = true) : (Dual.mk (some a) (some b)).newest = some b := by
  rw [Dual.newest, pick_both, if_pos h]
  rfl

/-- And A where B is not newer. -/
theorem newest_left {a b : Copy} (h : seqNewer b.seq a.seq = false) : (Dual.mk (some a) (some b)).newest = some a := by
  rw [Dual.newest, pick_both, h, if_neg Bool.false_ne_true]
  rfl

/-- The copy written last is the one a read returns (R353). -/
theorem newest_write {x : Dual} (h : seqsOk x = true) (bs : Bytes) : (x.write bs).newest.map Copy.data = some bs := by
  obtain ⟨a, b⟩ := x
  simp only [seqsOk, Bool.and_eq_true] at h
  rcases a with _ | a <;> rcases b with _ | b <;>
    simp only [Option.all_none, Option.all_some, decide_eq_true_eq, true_and, and_true] at h
  · rfl
  · rw [show (Dual.mk none (some b)).write bs = ⟨some ⟨seqNext b.seq, bs⟩, some b⟩ from rfl,
      newest_left (not_seqNewer_seqNext h), Option.map_some]
  · rw [show (Dual.mk (some a) none).write bs = ⟨some a, some ⟨seqNext a.seq, bs⟩⟩ from rfl,
      newest_right (seqNewer_seqNext h), Option.map_some]
  · cases hn : seqNewer b.seq a.seq with
    | true =>
      rw [Dual.write, writeTo_both, if_pos hn, if_pos rfl, Dual.nextSeq, newest_right hn,
        newest_left (not_seqNewer_seqNext h.2), Option.map_some]
    | false =>
      rw [Dual.write, writeTo_both, hn, if_neg Bool.false_ne_true, if_neg Nat.one_ne_zero, Dual.nextSeq, newest_left hn,
        newest_right (seqNewer_seqNext h.1), Option.map_some]

theorem seqsOk_sget {l : List (Nat × Dual)} (h : l.all (fun r => seqsOk r.2) = true) (id : Nat) :
    seqsOk (sget (fun _ => Dual.empty) id l) = true := by
  induction l with
  | nil => rfl
  | cons p l ih =>
    simp only [List.all_cons, Bool.and_eq_true] at h
    simp only [sget]
    split
    · exact h.1
    · exact ih h.2

/-- A record's write that does not fail: the record holds the bytes, and no other record, no byte and nothing outside
the NV store changes (R352, R353). -/
theorem recStore_done (id : Nat) (bs : Bytes) (hw : s.nv.wornRecs = [])
    (hc : swf (fun _ => Dual.empty) s.nv.recs = true) (hseq : s.nv.recs.all (fun r => seqsOk r.2) = true) :
    (recStore id bs s).2 = false ∧ (recStore id bs s).1 = { s with nv := (recStore id bs s).1.nv } ∧
      recRead id (recStore id bs s).1 = some bs ∧ (∀ i, i ≠ id → recGet i (recStore id bs s).1 = recGet i s) ∧
      (recStore id bs s).1.nv.mem = s.nv.mem ∧ (recStore id bs s).1.nv.bad = s.nv.bad := by
  have hstore : recStore id bs s = recWrite id bs s := by simp [recStore, recWrite, hw]
  have hrecs : (recWrite id bs s).1.nv.recs = sset (fun _ => Dual.empty) id ((recGet id s).write bs) s.nv.recs := by
    simp [recWrite, hw, pushBuf]
  rw [hstore]
  refine ⟨by simp [recWrite, hw], by simp [recWrite, hw, pushBuf], ?_, fun i hi => ?_, by simp [recWrite, hw, pushBuf],
    by simp [recWrite, hw, pushBuf]⟩
  · rw [recRead, recGet, hrecs, sget_sset_same _ id _ hc]
    exact newest_write (seqsOk_sget hseq id) bs
  · rw [recGet, hrecs]
    exact sget_sset_ne _ id i _ hi _

/-- The host interface has no part in it. -/
theorem recStore_withHif (h : Hif) (id : Nat) (bs : Bytes) (hw : s.nv.wornRecs = []) :
    recStore id bs (withHif h s) = (withHif h (recStore id bs s).1, false) := by
  have hw' : (withHif h s).nv.wornRecs = [] := hw
  simp only [recStore, recWrite, hw, hw', List.contains_nil, Bool.false_eq_true, if_false]
  rfl

/-- FLEET_KEY before Field stores a key that lies on the curve (R413). -/
theorem fleetKey_stores (hs : serves t d s) (hmode : isMode 0x6A 2 d = true) (h1 : p8 d 1 = 0)
    (hp : parNonzero 2 24 d = none) (hst : lcState s ≤ 1) (hlen : d.len = 64) {key : Bytes}
    (hb : dmaRead d d.srcAddr 64 s = some key) (hw : s.nv.wornRecs = []) (hok : pubOk key = true) :
    ∃ s1 s', exec (.lifecycleFleetKey t d) s = .next s' ∧
      answers d stOk (lcyResult (lcState s) s1) 0 s1 s' ∧ recRead recFleet s' = some key ∧
      (∀ id, id ≠ recFleet → recGet id s' = recGet id s) ∧ s1.nv.mem = s.nv.mem ∧
      s1 = { elapse t s with nv := s1.nv } := by
  obtain ⟨h, -, hq, hbus, hans, hrun⟩ := served hs hmode
  have hread : dmaRead d d.srcAddr 64 (withHif h (elapse t s)) = some key := by
    rw [dmaRead_withHif hbus, elapse_dmaRead, hb]
  obtain ⟨-, ⟨-, -, -, -, -, hcan⟩, ⟨-, -, -, -, -, -, -, hseq⟩, -⟩ := hs
  obtain ⟨hok2, heq, hrec, hother, hmem, hbad⟩ := recStore_done (s := elapse t s) recFleet key (by simpa using hw)
    (by simpa using hcan) (by simpa using hseq)
  have hstore := recStore_withHif (s := elapse t s) h recFleet key (by simpa using hw)
  generalize (recStore recFleet key (elapse t s)).1 = y at *
  have htally : tally 249 y = tally 249 s :=
    ((ArrayKept.of_eq [] hmem hbad).tally 249 (by simp) (by decide)).trans (elapse_tally 249 t s)
  have hlc : lcState y = lcState s := lcState_congr htally (by rw [heq, elapse_lcy])
  have hunit : fleetUnit d (withHif h (elapse t s)) = complete d stOk (lcyResult (lcState s) y) 0 (withHif h y) := by
    rw [fleetUnit, lcyForm_free h1 hp]
    simp only [withHif_lcState, elapse_lcState, hst, decide_true, if_true, hlen, ne_eq, not_true_eq_false, if_false]
    rw [readSrc_some hread, storeFleet]
    simp [hok, hstore, hlc]
  have ha : answers d stOk (lcyResult (lcState s) y) 0 y (finish (fleetUnit d (withHif h (elapse t s)))) := by
    rw [hunit]
    refine answers_of_withHif (h := h) (by rw [heq]; exact hq) (Answerable.quiet ?_
      (quiet_of_lcy (opcode_of_isMode hmode) (.inl rfl)))
    rw [heq]
    exact ⟨hans.heard, hans.mem, hans.hostWait, hans.wait, hans.queue⟩
  refine ⟨y, _, hrun fleetUnit, ha, ?_, fun id hid => ?_, by rw [hmem, elapse_nv_mem], heq⟩
  · rw [← hrec]
    simp only [recRead, recGet, completesOnly_nv_recs ha.2]
  · rw [show recGet id s = recGet id (elapse t s) by simp [recGet], ← hother id hid]
    simp only [recGet, completesOnly_nv_recs ha.2]

/-- FLEET_KEY turns a key off the curve away (R413). -/
theorem fleetKey_refuses (hs : serves t d s) (hmode : isMode 0x6A 2 d = true) (h1 : p8 d 1 = 0)
    (hp : parNonzero 2 24 d = none) (hst : lcState s ≤ 1) (hlen : d.len = 64) {key : Bytes}
    (hb : dmaRead d d.srcAddr 64 s = some key) (hbad : pubOk key = false) :
    ∃ s', exec (.lifecycleFleetKey t d) s = .next s' ∧ turnedAway d stBadLen 0xFF (elapse t s) s' := by
  obtain ⟨h, -, hq, hbus, hans, hrun⟩ := served hs hmode
  have hread : dmaRead d d.srcAddr 64 (withHif h (elapse t s)) = some key := by
    rw [dmaRead_withHif hbus, elapse_dmaRead, hb]
  have hunit : fleetUnit d (withHif h (elapse t s)) = fail d stBadLen 0xFF (withHif h (elapse t s)) := by
    rw [fleetUnit, lcyForm_free h1 hp]
    simp only [withHif_lcState, elapse_lcState, hst, decide_true, if_true, hlen, ne_eq, not_true_eq_false, if_false]
    rw [readSrc_some hread, storeFleet, if_pos hbad]
  refine ⟨_, hrun fleetUnit, ?_⟩
  rw [hunit]
  exact turnedAway_of_fail hans (by decide) (by rw [opcode_of_isMode hmode]; decide) (regs_wf_elapse hs.2.1) hq

/-! ## The end of a challenge's time -/

/-- What the end of a command rests on, on a live device. -/
theorem live_waits (hl : live s = true) :
    (elapse t s).lgr.hostWait.all (fun p => decide (p.2 ≠ 0)) = true ∧ (elapse t s).fold.wait = [] ∧
      (elapse t s).fold.queue = [] := by
  simp only [live, Bool.and_eq_true] at hl
  obtain ⟨-, -, -, -, hwait, hqueue, hhost⟩ := (calm_iff s).mp hl.1
  exact ⟨by simpa using hhost, by simpa using hwait, by simpa using hqueue⟩

/-- The nonce of a challenge ends after 300 s, and not before (R412). -/
theorem nonceExpiry_ends (hl : live s = true) {n : Bytes} {x : Nat} (hn : s.lcy.nonce = some (n, x)) :
    (x + secTicks 300 ≤ now (elapse t s) → ∃ s', exec (.lifecycleNonceExpiry t) s = .next s' ∧
      settles { elapse t s with lcy := { s.lcy with nonce := none } } s') ∧
    (now (elapse t s) < x + secTicks 300 →
      ∃ s', exec (.lifecycleNonceExpiry t) s = .next s' ∧ settles (elapse t s) s') := by
  obtain ⟨hhost, hwait, hqueue⟩ := live_waits (t := t) hl
  have hrun := command_live t (fun s =>
    match s.lcy.nonce with
    | some (_, x) =>
      onlyIf (decide (x + secTicks 300 ≤ now s)) (fun s => { s with lcy := { s.lcy with nonce := none } }) s
    | none => s) s hl
  constructor
  · intro hdue
    refine ⟨_, hrun, ?_⟩
    simp only [elapse_lcy, hn, onlyIf, hdue, decide_true, if_true]
    exact finish_settles _ hhost hwait hqueue
  · intro hearly
    refine ⟨_, hrun, ?_⟩
    simp only [elapse_lcy, hn, onlyIf, Nat.not_le.mpr hearly, decide_false, Bool.false_eq_true, if_false]
    exact finish_settles _ hhost hwait hqueue

end

end Sys2Proof.Machine
end

section
/-! SUPPORT. Proofs of the lifecycle, part 8: the cases of ADVANCE, signed requests, and Provisioned to Field. -/
namespace Sys2Proof.Machine

/-! ## Records of a change -/

/-- The end of an unlock touches the monitor only. -/
theorem endUnlock_recorded {cells offs : List Nat} (s : State) : Recorded cells offs s (endUnlock s) :=
  ⟨rfl, RegsKept.of_eq _ rfl rfl, HostKept.of_eq rfl rfl, ArrayKept.of_eq _ rfl rfl, rfl⟩

/-- A change is recorded and ends an unlock (R409). -/
theorem lcyRecord_recorded {cells offs : List Nat} (st prev : Nat) (s : State) (hr : s.nv.ledgerReady = true)
    (hw : s.nv.worn = []) : Recorded cells offs s (lcyRecord st prev s) :=
  (append_recorded s 0x50 st prev hr hw).trans (endUnlock_recorded _)

/-- What is recorded keeps every counter outside its list. -/
theorem Recorded.tally {cells offs : List Nat} {s s' : State} (h : Recorded cells offs s s') (c : Nat) (hc : c ∉ cells)
    (hlt : c < 256) : Machine.tally c s' = Machine.tally c s :=
  h.array.tally c hc hlt

theorem Recorded.lcState {cells offs : List Nat} {s s' : State} (h : Recorded cells offs s s') (hc : 249 ∉ cells) :
    Machine.lcState s' = Machine.lcState s :=
  lcState_congr (h.tally 249 hc (by decide)) (by rw [h.lcy])

section
variable {s : State} {t : Nat} {d : Desc} {sig : Bytes}

/-! ## The cases of ADVANCE -/

/-- A well-formed request with its signature read goes by the present state and the one asked for (R410, R414). -/
theorem advance_read (h1 : 1 ≤ p8 d 1) (h4 : p8 d 1 ≤ 4) (hp : parNonzero 2 24 d = none)
    (hsig : dmaRead d d.srcAddr 64 s = some sig) :
    advance d s =
      if lcState s = p8 d 1 then
        (if lcState s = 3 then signedRequest d 1 (p8 d 1) [] sig (fun s => lcyDone d 3 (restartService s)) s
         else lcyDone d (lcState s) s)
      else if lcState s = 0 ∧ p8 d 1 = 1 then
        (if (fleetKey s).isNone then fail d stForbidden 0xFF s else provision d s)
      else if lcState s = 1 ∧ p8 d 1 = 2 then
        (if bootable 0 s || bootable 1 s then raiseState d 1 1 (fun s => lcyDone d 1 (lcyRecord 2 1 s)) s
         else fail d stForbidden 0xFF s)
      else if lcState s = 2 ∧ p8 d 1 = 3 then
        signedRequest d 1 (p8 d 1) [] sig (fun s => lcyDone d 2 (enterService s)) s
      else if lcState s = 3 ∧ p8 d 1 = 2 then lcyDone d 3 (endService s)
      else if lcState s ≤ 1 ∧ p8 d 1 = 4 then retire d (lcState s) s
      else if lcState s ≤ 3 ∧ p8 d 1 = 4 then signedRequest d 1 (p8 d 1) [] sig (retire d (lcState s)) s
      else fail d stForbidden 0 s := by
  have hto : ¬ (p8 d 1 = 0 ∨ p8 d 1 > 4) := by omega
  rw [advance]
  dsimp only
  rw [if_neg hto, reserved_free hp, readSrc_some hsig]

/-! ## Signed requests -/

/-- A request's signature verifies against a valid nonce and the fleet key (R412). -/
def verifies (op dest : Nat) (extra sig : Bytes) (s : State) : Prop :=
  ∃ n key, validNonce s = some n ∧ fleetKey s = some key ∧
    ecdsaVerify key (sha256 (signedMsg n op dest extra s)) sig = true

/-- A request that verifies uses up its nonce and goes on (R412). -/
theorem signedRequest_passes {op dest : Nat} {extra : Bytes} (h : verifies op dest extra sig s) (k : State → State) :
    signedRequest d op dest extra sig k s =
      k (bump CRY_PKE_CNT.VERIFY { s with lcy := { s.lcy with nonce := none } }) := by
  obtain ⟨n, key, hn, hk, hv⟩ := h
  simp only [signedRequest, hn, hk, hv, if_true, countVerify]

/-- One that does not verify uses up its nonce, counts and fails (R412). -/
theorem signedRequest_fails {op dest : Nat} {extra : Bytes} (h : ¬ verifies op dest extra sig s) (k : State → State) :
    ∃ z, (z = { s with lcy := { s.lcy with nonce := none } } ∨
        z = countVerify false { s with lcy := { s.lcy with nonce := none } }) ∧
      signedRequest d op dest extra sig k s = fail d stMacFail 0 (bump LCY_CNT.AUTH_FAIL z) := by
  unfold signedRequest
  split
  · next n key hn hk =>
    have hv : ecdsaVerify key (sha256 (signedMsg n op dest extra s)) sig = false :=
      Bool.eq_false_iff.mpr (fun hv => h ⟨n, key, hn, hk, hv⟩)
    refine ⟨_, .inr rfl, ?_⟩
    simp only [hv, Bool.false_eq_true, if_false]
  · exact ⟨_, .inl rfl, rfl⟩

/-! ## What ADVANCE answers -/

/-- An ADVANCE at its unit, with its signature read. -/
theorem advance_served (hs : serves t d s) (hmode : isMode 0x6A 1 d = true)
    (hsig : dmaRead d d.srcAddr 64 s = some sig) :
    ∃ h : Hif, h.qps = (elapse t s).hif.qps ∧ Answerable d (withHif h (elapse t s)) ∧
      dmaRead d d.srcAddr 64 (withHif h (elapse t s)) = some sig ∧
      exec (.lifecycleAdvance t d) s = .next (finish (advance d (withHif h (elapse t s)))) := by
  obtain ⟨h, -, hq, hbus, hans, hrun⟩ := served hs hmode
  exact ⟨h, hq, hans, by rw [dmaRead_withHif hbus, elapse_dmaRead, hsig], hrun advance⟩

/-- ADVANCE to the present state changes nothing (R410). -/
theorem advance_stays (hs : serves t d s) (hmode : isMode 0x6A 1 d = true) (hp : parNonzero 2 24 d = none)
    (hsig : dmaRead d d.srcAddr 64 s = some sig) (h1 : 1 ≤ p8 d 1) (h4 : p8 d 1 ≤ 4) (hst : lcState s = p8 d 1)
    (h3 : p8 d 1 ≠ 3) :
    ∃ s', exec (.lifecycleAdvance t d) s = .next s' ∧
      answers d stOk (lcyResult (p8 d 1) (elapse t s)) 0 (elapse t s) s' := by
  obtain ⟨h, hq, hans, hread, hrun⟩ := advance_served hs hmode hsig
  have hunit : advance d (withHif h (elapse t s)) =
      complete d stOk (lcyResult (p8 d 1) (elapse t s)) 0 (withHif h (elapse t s)) := by
    rw [advance_read h1 h4 hp hread, withHif_lcState, elapse_lcState,
      hst, if_pos rfl, if_neg h3]
    rfl
  refine ⟨_, hrun, answers_of_withHif hq ?_⟩
  rw [hunit]
  exact hans.quiet (quiet_of_lcy (opcode_of_isMode hmode) (.inl rfl))

/-- Provisioned to Field counts in counter 249 when a bank is bootable (R410, R411). -/
theorem advance_fields (hs : serves t d s) (hmode : isMode 0x6A 1 d = true) (hp : parNonzero 2 24 d = none)
    (hsig : dmaRead d d.srcAddr 64 s = some sig) (hr : s.nv.ledgerReady = true) (hw : s.nv.worn = [])
    (hst : lcState s = 1) (hto : p8 d 1 = 2) (hsvc : s.lcy.service = none)
    (hboot : bootable 0 s = true ∨ bootable 1 s = true) (ht : (tally 249 s).isSome = true) :
    ∃ s1 s', exec (.lifecycleAdvance t d) s = .next s' ∧ answers d stOk (lcyResult 1 s1) 0 s1 s' ∧
      lcState s1 = 2 ∧ tallyVal 249 s1 = tallyVal 249 s + 1 ∧
      recordsOnly [249] [NVS_TALLY_CNT.reg]
        { elapse t s with nv := { (elapse t s).nv with incAt := s1.nv.incAt } } s1 := by
  obtain ⟨h, -, hans, hread, hrun⟩ := advance_served hs hmode hsig
  obtain ⟨slot, hslot⟩ := tally_of_lcState_le (by omega) ht
  rw [hst] at hslot
  obtain ⟨⟨clip, again, hout⟩, hrec, htally⟩ := tallyStep_done 249 1 (withHif h (elapse t s))
    (by simpa using hw) (memWf_elapse hs.2.1) (v := 1) (slot := slot) (by simpa using hslot) (by decide) (by decide)
  have hunit : advance d (withHif h (elapse t s)) =
      lcyDone d 1 (lcyRecord 2 1 (tallyStep 249 1 (withHif h (elapse t s))).1) := by
    have hb : (bootable 0 (withHif h (elapse t s)) || bootable 1 (withHif h (elapse t s))) = true := by
      simpa using hboot
    rw [advance_read (by omega) (by omega) hp hread, withHif_lcState,
      elapse_lcState, hst, hto, hb]
    simp [raiseState, hout]
  have hready : (withHif h (elapse t s)).nv.ledgerReady = true := by simpa using hr
  have hworn : (withHif h (elapse t s)).nv.worn = [] := by simpa using hw
  have hlast := lcyRecord_recorded (cells := []) (offs := []) 2 1 (tallyStep 249 1 (withHif h (elapse t s))).1
    (hrec.ledgerReady.trans hready) (hrec.worn.trans hworn)
  have hall := hrec.trans (hlast.mono (List.nil_subset _) (List.nil_subset _))
  have htl := (hlast.tally 249 (by simp) (by decide)).trans htally
  have ha : answers d stOk (lcyResult 1 (lcyRecord 2 1 (tallyStep 249 1 (withHif h (elapse t s))).1)) 0
      (lcyRecord 2 1 (tallyStep 249 1 (withHif h (elapse t s))).1) (finish (advance d (withHif h (elapse t s)))) := by
    rw [hunit]
    exact (hans.recorded hall).quiet (quiet_of_lcy (opcode_of_isMode hmode) (.inl rfl))
  refine ⟨_, _, hrun, ha, ?_, ?_, ?_⟩
  · have hnosvc : (lcyRecord 2 1 (tallyStep 249 1 (withHif h (elapse t s))).1).lcy.service = none := by
      rw [hall.lcy, withHif_lcy, elapse_lcy, hsvc]
    simp [lcState, persistentState, htl, hnosvc]
  · rw [tallyVal_of_tally htl, tallyVal_of_tally hslot]
  · exact hall.recordsOnly (by rw [hall.incAt]; rfl) rfl rfl

/-- Without a bootable bank Field is refused (R410). -/
theorem advance_needsBank (hs : serves t d s) (hmode : isMode 0x6A 1 d = true) (hp : parNonzero 2 24 d = none)
    (hsig : dmaRead d d.srcAddr 64 s = some sig) (hr : s.nv.ledgerReady = true) (hw : s.nv.worn = [])
    (hst : lcState s = 1) (hto : p8 d 1 = 2) (h0 : bootable 0 s = false) (h1 : bootable 1 s = false) :
    ∃ s1 s', exec (.lifecycleAdvance t d) s = .next s' ∧ answers d stForbidden [] 0xFF s1 s' ∧
      recordsOnly [] [HIF_VIOL_CNT.reg] (elapse t s) s1 := by
  obtain ⟨h, -, hans, hread, hrun⟩ := advance_served hs hmode hsig
  have hunit : advance d (withHif h (elapse t s)) = fail d stForbidden 0xFF (withHif h (elapse t s)) := by
    have hb : (bootable 0 (withHif h (elapse t s)) || bootable 1 (withHif h (elapse t s))) = false := by
      simp [h0, h1]
    rw [advance_read (by omega) (by omega) hp hread, withHif_lcState,
      elapse_lcState, hst, hto, hb]
    simp
  have hcnt := counted_recorded (cells := []) (offs := [HIF_VIOL_CNT.reg]) d stForbidden (withHif h (elapse t s))
    (by simpa using hr) (by simpa using hw) (fun _ => List.mem_singleton_self _)
  have ha : answers d stForbidden [] 0xFF (counted d stForbidden (withHif h (elapse t s)))
      (finish (advance d (withHif h (elapse t s)))) := by
    rw [hunit]
    exact hans.counted hcnt
  exact ⟨_, _, hrun, ha, hcnt.recordsOnly rfl rfl rfl⟩

end

end Sys2Proof.Machine
end

section
/-! SUPPORT. Proofs of the lifecycle, part 9: Service, and how it ends. -/
namespace Sys2Proof.Machine

/-! ## Service and the persistent state -/

/-- Field and Service are one persistent state (R409). -/
theorem persistentState_of_field {s : State} (h : lcState s = 2 ∨ lcState s = 3) : persistentState s = 2 := by
  have hne : persistentState s ≠ 3 := by
    unfold persistentState
    split
    · decide
    · split_ifs <;> omega
  unfold lcState at h
  split_ifs at h with hp
  · exact hp.1
  · omega

/-- Service is what tells them apart. -/
theorem lcState_of_field {s : State} (h : persistentState s = 2) :
    lcState s = if s.lcy.service.isSome = true then 3 else 2 := by
  simp only [lcState, h, true_and]

theorem service_of_lcState {s : State} (h : lcState s = 3) : s.lcy.service.isSome = true := by
  rw [lcState_of_field (persistentState_of_field (.inr h))] at h
  by_contra hn
  rw [if_neg hn] at h
  cases h

/-- The end of Service is recorded (R409). -/
theorem endService_recorded {cells offs : List Nat} (s : State) (h : s.lcy.service.isSome = true)
    (hr : s.nv.ledgerReady = true) (hw : s.nv.worn = []) :
    Recorded cells offs { s with lcy := { s.lcy with service := none } } (endService s) := by
  rw [endService, if_pos h]
  exact lcyRecord_recorded 2 3 _ hr hw

section
variable {s : State} {t : Nat} {d : Desc} {sig : Bytes}

/-! ## Signed requests between Field, Service and Retired -/

/-- From Field or Service, a request for Service or Retired is a signed one (R410). -/
theorem advance_signed (hp : parNonzero 2 24 d = none) (hsig : dmaRead d d.srcAddr 64 s = some sig)
    (hst : lcState s = 2 ∨ lcState s = 3) (hto : p8 d 1 = 3 ∨ p8 d 1 = 4) :
    ∃ k, advance d s = signedRequest d 1 (p8 d 1) [] sig k s := by
  have hread := advance_read (d := d) (by omega) (by omega) hp hsig
  rcases hst with hst | hst <;> rcases hto with hto | hto
  · exact ⟨_, by simpa [hst, hto] using hread⟩
  · exact ⟨_, by simpa [hst, hto] using hread⟩
  · exact ⟨_, by simpa [hst, hto] using hread⟩
  · exact ⟨_, by simpa [hst, hto] using hread⟩

/-- A device in Service for `m` minutes from now, its nonce used up. -/
def inService (m : Nat) (s : State) : State :=
  { s with lcy := { s.lcy with nonce := none, service := some (now s + secTicks (60 * m), m) } }

/-- Service is entered for SVC_MAX minutes, counted and recorded (R409). -/
theorem enterService_recorded (hr : s.nv.ledgerReady = true) (hw : s.nv.worn = []) (hwf : Regs.wf s = true) :
    let y := enterService (bump CRY_PKE_CNT.VERIFY { s with lcy := { s.lcy with nonce := none } })
    Recorded [] [LCY_CNT.reg, CRY_PKE_CNT.reg] (inService (fld LCY_CTL.SVC_MAX s) s) y ∧
      fld LCY_CNT.SVC y = sat LCY_CNT.SVC.width (fld LCY_CNT.SVC s + 1) := by
  intro y
  have hverify : RegsKept [CRY_PKE_CNT.reg] s (bump CRY_PKE_CNT.VERIFY s) := RegsKept.bump _ _ (by decide)
  have hm : fld LCY_CTL.SVC_MAX (bump CRY_PKE_CNT.VERIFY s) = fld LCY_CTL.SVC_MAX s := hverify.fld _ (by decide)
  have hy : y = lcyRecord 3 2 (bump LCY_CNT.SVC (bump CRY_PKE_CNT.VERIFY (inService (fld LCY_CTL.SVC_MAX s) s))) := by
    rw [← hm]; rfl
  have hcnt : fld LCY_CNT.SVC (bump LCY_CNT.SVC (bump CRY_PKE_CNT.VERIFY (inService (fld LCY_CTL.SVC_MAX s) s))) =
      sat LCY_CNT.SVC.width (fld LCY_CNT.SVC s + 1) := by
    have hin : RegsKept [CRY_PKE_CNT.reg] s (bump CRY_PKE_CNT.VERIFY (inService (fld LCY_CTL.SVC_MAX s) s)) :=
      (RegsKept.of_eq _ rfl rfl : RegsKept _ s (inService _ s)).trans (RegsKept.bump _ _ (by decide))
    rw [fld_bump_same _ (by decide) _ (hin.wf hwf), hin.fld LCY_CNT.SVC (by decide)]
  have hrec : Recorded [] [] (bump LCY_CNT.SVC (bump CRY_PKE_CNT.VERIFY (inService (fld LCY_CTL.SVC_MAX s) s))) y :=
    hy ▸ lcyRecord_recorded 3 2 _ hr hw
  refine ⟨((Recorded.bump _ _ (by decide)).trans (Recorded.bump _ _ (by decide))).trans
    (hrec.mono (List.nil_subset _) (List.nil_subset _)), ?_⟩
  rw [hrec.regs.fld _ (by decide), hcnt]

/-- A signed request from Field enters Service for SVC_MAX minutes (R409, R412). -/
theorem advance_entersService (hs : serves t d s) (hmode : isMode 0x6A 1 d = true) (hp : parNonzero 2 24 d = none)
    (hsig : dmaRead d d.srcAddr 64 s = some sig) (hr : s.nv.ledgerReady = true) (hw : s.nv.worn = [])
    (hst : lcState s = 2) (hto : p8 d 1 = 3) (hpass : verifies 1 (p8 d 1) [] sig (elapse t s)) :
    ∃ s1 s', exec (.lifecycleAdvance t d) s = .next s' ∧ answers d stOk (lcyResult 2 s1) 0 s1 s' ∧ lcState s1 = 3 ∧
      recordsOnly [] [LCY_CNT.reg, CRY_PKE_CNT.reg]
        { elapse t s with lcy := { s.lcy with
            nonce := none
            service := some (now (elapse t s) + secTicks (60 * fld LCY_CTL.SVC_MAX s), fld LCY_CTL.SVC_MAX s) } } s1 ∧
      fld LCY_CNT.SVC s1 = sat LCY_CNT.SVC.width (fld LCY_CNT.SVC s + 1) := by
  obtain ⟨h, -, hans, hread, hrun⟩ := advance_served hs hmode hsig
  have hlc : lcState (withHif h (elapse t s)) = 2 := by rw [withHif_lcState, elapse_lcState, hst]
  have hsvc : fld LCY_CTL.SVC_MAX (withHif h (elapse t s)) = fld LCY_CTL.SVC_MAX s := elapse_fld _ t s
  have hcnt : fld LCY_CNT.SVC (withHif h (elapse t s)) = fld LCY_CNT.SVC s := elapse_fld _ t s
  obtain ⟨hrec, hfld⟩ := enterService_recorded (s := withHif h (elapse t s)) ((elapse_nv_ledgerReady t s).trans hr)
    ((elapse_nv_worn t s).trans hw) (regs_wf_elapse hs.2.1)
  have hunit : advance d (withHif h (elapse t s)) = lcyDone d 2 (enterService (bump CRY_PKE_CNT.VERIFY
      { withHif h (elapse t s) with lcy := { (withHif h (elapse t s)).lcy with nonce := none } })) := by
    rw [advance_read (by omega) (by omega) hp hread, hlc, if_neg (by omega), if_neg (by omega), if_neg (by omega),
      if_pos ⟨rfl, hto⟩, signedRequest_passes (show verifies 1 (p8 d 1) [] sig (withHif h (elapse t s)) from hpass)]
  generalize enterService _ = y at *
  have hin : Answerable d (inService (fld LCY_CTL.SVC_MAX s) (withHif h (elapse t s))) :=
    ⟨hans.heard, hans.mem, hans.hostWait, hans.wait, hans.queue⟩
  rw [hsvc] at hrec
  have ha : answers d stOk (lcyResult 2 y) 0 y (finish (advance d (withHif h (elapse t s)))) := by
    rw [hunit]
    exact (hin.recorded hrec).quiet (quiet_of_lcy (opcode_of_isMode hmode) (.inl rfl))
  refine ⟨y, _, hrun, ha, ?_, hrec.recordsOnly ?_ rfl rfl, hfld.trans (by rw [hcnt])⟩
  · have hpers : persistentState (inService (fld LCY_CTL.SVC_MAX s) (withHif h (elapse t s))) = 2 :=
      persistentState_of_field (s := withHif h (elapse t s)) (.inl hlc)
    rw [hrec.lcState (by simp), lcState_of_field hpers]
    rfl
  · rw [← elapse_lcy t s]
    rfl

/-- The time of Service starts again with a request that has used up its nonce (R414). -/
theorem restartService_passed {e m : Nat} (hsvc : s.lcy.service = some (e, m)) :
    restartService (bump CRY_PKE_CNT.VERIFY { s with lcy := { s.lcy with nonce := none } }) =
      bump CRY_PKE_CNT.VERIFY (inService m s) := by
  unfold restartService
  split
  · next e' m' heq =>
    cases hsvc.symm.trans heq
    rfl
  · next heq => cases hsvc.symm.trans heq

/-- A second one starts that time again (R414). -/
theorem advance_restartsService (hs : serves t d s) (hmode : isMode 0x6A 1 d = true) (hp : parNonzero 2 24 d = none)
    (hsig : dmaRead d d.srcAddr 64 s = some sig) (hst : lcState s = 3) (hto : p8 d 1 = 3)
    (hpass : verifies 1 (p8 d 1) [] sig (elapse t s)) {e m : Nat} (hsvc : s.lcy.service = some (e, m)) :
    ∃ s1 s', exec (.lifecycleAdvance t d) s = .next s' ∧ answers d stOk (lcyResult 3 s1) 0 s1 s' ∧
      s1 = { elapse t s with
        regs := s1.regs
        lcy := { s.lcy with nonce := none, service := some (now (elapse t s) + secTicks (60 * m), m) } } ∧
      keepsRegs [CRY_PKE_CNT.reg] s s1 := by
  obtain ⟨h, hq, hans, hread, hrun⟩ := advance_served hs hmode hsig
  have hunit : advance d (withHif h (elapse t s)) =
      lcyDone d 3 (withHif h (bump CRY_PKE_CNT.VERIFY (inService m (elapse t s)))) := by
    have hsvc' : (withHif h (elapse t s)).lcy.service = some (e, m) := by rw [withHif_lcy, elapse_lcy, hsvc]
    rw [advance_read (by omega) (by omega) hp hread, withHif_lcState, elapse_lcState, hst, if_pos hto.symm, if_pos rfl,
      signedRequest_passes (show verifies 1 (p8 d 1) [] sig (withHif h (elapse t s)) from hpass),
      restartService_passed hsvc']
    rfl
  refine ⟨bump CRY_PKE_CNT.VERIFY (inService m (elapse t s)), _, hrun, answers_of_withHif (h := h) hq ?_, ?_,
    fun off ho => ?_⟩
  · rw [hunit]
    have hin : Answerable d (withHif h (bump CRY_PKE_CNT.VERIFY (inService m (elapse t s)))) :=
      ⟨hans.heard, hans.mem, hans.hostWait, hans.wait, hans.queue⟩
    exact hin.quiet (quiet_of_lcy (opcode_of_isMode hmode) (.inl rfl))
  · rw [← elapse_lcy t s]
    rfl
  · have hin : RegsKept [CRY_PKE_CNT.reg] (elapse t s) (inService m (elapse t s)) := RegsKept.of_eq _ rfl rfl
    rw [(hin.trans (RegsKept.bump CRY_PKE_CNT.VERIFY _ (by decide))).keeps off ho, elapse_regGet]

/-- A failed one only counts, and uses up its nonce (R412). -/
theorem advance_fails (hs : serves t d s) (hmode : isMode 0x6A 1 d = true) (hp : parNonzero 2 24 d = none)
    (hsig : dmaRead d d.srcAddr 64 s = some sig) (hr : s.nv.ledgerReady = true) (hw : s.nv.worn = [])
    (hst : lcState s = 2 ∨ lcState s = 3) (hto : p8 d 1 = 3 ∨ p8 d 1 = 4)
    (hpass : ¬ verifies 1 (p8 d 1) [] sig (elapse t s)) :
    ∃ s1 s', exec (.lifecycleAdvance t d) s = .next s' ∧ answers d stMacFail [] 0 s1 s' ∧
      recordsOnly [] [LCY_CNT.reg, CRY_PKE_CNT.reg, CRY_CNT1.reg]
        { elapse t s with lcy := { s.lcy with nonce := none } } s1 ∧
      fld LCY_CNT.AUTH_FAIL s1 = sat LCY_CNT.AUTH_FAIL.width (fld LCY_CNT.AUTH_FAIL s + 1) := by
  obtain ⟨h, -, hans, hread, hrun⟩ := advance_served hs hmode hsig
  obtain ⟨k, hk⟩ := advance_signed hp hread (by simpa using hst) hto
  obtain ⟨z, hz, hfail⟩ :=
    signedRequest_fails (d := d) (show ¬ verifies 1 (p8 d 1) [] sig (withHif h (elapse t s)) from hpass) k
  have hin : Answerable d { withHif h (elapse t s) with lcy := { (withHif h (elapse t s)).lcy with nonce := none } } :=
    ⟨hans.heard, hans.mem, hans.hostWait, hans.wait, hans.queue⟩
  have hrec : Recorded [] [CRY_PKE_CNT.reg, CRY_CNT1.reg]
      { withHif h (elapse t s) with lcy := { (withHif h (elapse t s)).lcy with nonce := none } } z := by
    rcases hz with rfl | rfl
    · exact Recorded.refl _
    · exact (Recorded.bump _ _ (by decide)).trans (Recorded.bump _ _ (by decide))
  have hready : z.nv.ledgerReady = true := hrec.ledgerReady.trans ((elapse_nv_ledgerReady t s).trans hr)
  have hworn : z.nv.worn = [] := hrec.worn.trans ((elapse_nv_worn t s).trans hw)
  have hcnt := counted_recorded (cells := []) (offs := []) d stMacFail (bump LCY_CNT.AUTH_FAIL z) hready hworn
    (fun hc => absurd hc.2 (by decide))
  have hfld : fld LCY_CNT.AUTH_FAIL (bump LCY_CNT.AUTH_FAIL z) =
      sat LCY_CNT.AUTH_FAIL.width (fld LCY_CNT.AUTH_FAIL s + 1) := by
    rw [fld_bump_same _ (by decide) _ (hrec.regs.wf (regs_wf_elapse (t := t) hs.2.1)), hrec.regs.fld _ (by decide),
      ← elapse_fld LCY_CNT.AUTH_FAIL t s]
    rfl
  have hall : Recorded [] [LCY_CNT.reg, CRY_PKE_CNT.reg, CRY_CNT1.reg] _
      (counted d stMacFail (bump LCY_CNT.AUTH_FAIL z)) :=
    ((hrec.mono (List.nil_subset _) (by decide)).trans (Recorded.bump _ _ (by decide))).trans
      (hcnt.mono (List.nil_subset _) (List.nil_subset _))
  have ha : answers d stMacFail [] 0 (counted d stMacFail (bump LCY_CNT.AUTH_FAIL z))
      (finish (advance d (withHif h (elapse t s)))) := by
    rw [hk, hfail]
    have hbump : Recorded [] [LCY_CNT.reg] z (bump LCY_CNT.AUTH_FAIL z) := Recorded.bump _ _ (by decide)
    exact ((hin.recorded hrec).recorded hbump).counted hcnt
  refine ⟨_, _, hrun, ha, hall.recordsOnly ?_ rfl rfl, by rw [hcnt.regs.fld _ (by decide), hfld]⟩
  rw [← elapse_lcy t s]
  rfl

/-! ## The end of Service -/

/-- Service ends by ADVANCE (R409, R410). -/
theorem advance_endsService (hs : serves t d s) (hmode : isMode 0x6A 1 d = true) (hp : parNonzero 2 24 d = none)
    (hsig : dmaRead d d.srcAddr 64 s = some sig) (hr : s.nv.ledgerReady = true) (hw : s.nv.worn = [])
    (hst : lcState s = 3) (hto : p8 d 1 = 2) :
    ∃ s1 s', exec (.lifecycleAdvance t d) s = .next s' ∧ answers d stOk (lcyResult 3 s1) 0 s1 s' ∧ lcState s1 = 2 ∧
      recordsOnly [] [] { elapse t s with lcy := { s.lcy with service := none } } s1 := by
  obtain ⟨h, -, hans, hread, hrun⟩ := advance_served hs hmode hsig
  have hlc : lcState (withHif h (elapse t s)) = 3 := by rw [withHif_lcState, elapse_lcState, hst]
  have hrec := endService_recorded (cells := []) (offs := []) (withHif h (elapse t s)) (service_of_lcState hlc)
    ((elapse_nv_ledgerReady t s).trans hr) ((elapse_nv_worn t s).trans hw)
  have hunit : advance d (withHif h (elapse t s)) = lcyDone d 3 (endService (withHif h (elapse t s))) := by
    rw [advance_read (by omega) (by omega) hp hread, hlc, if_neg (by omega), if_neg (by omega), if_neg (by omega),
      if_neg (by omega), if_pos ⟨rfl, hto⟩]
  have hin : Answerable d
      { withHif h (elapse t s) with lcy := { (withHif h (elapse t s)).lcy with service := none } } :=
    ⟨hans.heard, hans.mem, hans.hostWait, hans.wait, hans.queue⟩
  have ha : answers d stOk (lcyResult 3 (endService (withHif h (elapse t s)))) 0 (endService (withHif h (elapse t s)))
      (finish (advance d (withHif h (elapse t s)))) := by
    rw [hunit]
    exact (hin.recorded hrec).quiet (quiet_of_lcy (opcode_of_isMode hmode) (.inl rfl))
  refine ⟨_, _, hrun, ha, ?_, hrec.recordsOnly ?_ rfl rfl⟩
  · have hpers : persistentState { withHif h (elapse t s) with
        lcy := { (withHif h (elapse t s)).lcy with service := none } } = 2 :=
      persistentState_of_field (s := withHif h (elapse t s)) (.inr hlc)
    rw [hrec.lcState (by simp), lcState_of_field hpers]
    rfl
  · rw [← elapse_lcy t s]
    rfl

/-- `s` without what records change beside the lines of `settles`. -/
def blankWrites (s : State) : State :=
  { blankHost s with
    lgr := Lgr.reset, regs := [], nv := { (blankHost s).nv with mem := [], bad := [], soft := [], weak := [] } }

/-- What settles after records and events is still nothing but those. -/
theorem recordsOnly_settles {cells offs : List Nat} {x y z : State} (h : recordsOnly cells offs x y)
    (hz : settles y z) :
    recordsOnly cells offs x z := by
  obtain ⟨hb, hr, hm⟩ := h
  refine ⟨Eq.trans ?_ hb, fun off ho => ?_, fun a ha hc => ?_⟩
  · exact (congrArg blankWrites hz :)
  · rw [← hr off ho]
    simp only [regGet, show z.regs = y.regs from (congrArg State.regs hz :),
      show z.part = y.part from (congrArg State.part hz :)]
  · rw [← hm a ha hc, show z.nv.mem = y.nv.mem from (congrArg (fun x => x.nv.mem) hz :)]

/-- Service ends with SERVICE_TIMEOUT at its time, and not before (R409). -/
theorem serviceTimeout_ends (hl : live s = true) (hr : s.nv.ledgerReady = true) (hw : s.nv.worn = []) {e m : Nat}
    (hsvc : s.lcy.service = some (e, m)) :
    (e ≤ now (elapse t s) → ∃ s', exec (.serviceTimeout t) s = .next s' ∧
      recordsOnly [] [] { elapse t s with lcy := { s.lcy with service := none } } s') ∧
    (now (elapse t s) < e → ∃ s', exec (.serviceTimeout t) s = .next s' ∧ settles (elapse t s) s') := by
  obtain ⟨hhost, hwait, hqueue⟩ := live_waits (t := t) hl
  have hrun := command_live t (fun s =>
    match s.lcy.service with
    | some (e, _) => onlyIf (decide (e ≤ now s)) endService s
    | none => s) s hl
  constructor
  · intro hdue
    refine ⟨_, hrun, ?_⟩
    simp only [elapse_lcy, hsvc, onlyIf, hdue, decide_true, if_true]
    have hrec := endService_recorded (cells := []) (offs := []) (elapse t s) (by rw [elapse_lcy, hsvc]; rfl)
      ((elapse_nv_ledgerReady t s).trans hr) ((elapse_nv_worn t s).trans hw)
    rw [elapse_lcy] at hrec
    refine recordsOnly_settles (hrec.recordsOnly rfl rfl rfl) (finish_settles _ ?_ ?_ ?_)
    · rw [hrec.hostWait]; exact hhost
    · rw [hrec.fold]; exact hwait
    · rw [hrec.fold]; exact hqueue
  · intro hearly
    refine ⟨_, hrun, ?_⟩
    simp only [elapse_lcy, hsvc, onlyIf, Nat.not_le.mpr hearly, decide_false, Bool.false_eq_true, if_false]
    exact finish_settles _ hhost hwait hqueue

end

end Sys2Proof.Machine
end

section
/-! SUPPORT. Proofs of the lifecycle, part 10: the ledger's first block, and two records in it. -/
namespace Sys2Proof.Machine

/-! ## One record -/

theorem blockAddr_congr {s s' : State} (h : s'.part = s.part) (q : Nat) : blockAddr q s' = blockAddr q s := by
  simp only [blockAddr, lgrN, h]

theorem nvPeek_congr {s s' : State} (h : s'.nv.mem = s.nv.mem) (a n : Nat) : nvPeek a n s' = nvPeek a n s := by
  simp only [nvPeek, h]

/-- The first bytes of a range. -/
theorem nvPeek_take {m n : Nat} (h : m ≤ n) (a : Nat) (s : State) : nvPeek a m s = (nvPeek a n s).take m := by
  simp only [nvPeek, mread, ← List.map_take, List.take_range, Nat.min_eq_left h]

/-- An event that only some condition posts. -/
theorem lgrEvtIf_posted (p : Prop) [Decidable p] (kind seq count : Nat) (s : State) :
    Posted s (if p then lgrEvt kind seq count s else s) := by
  split
  · exact lgrEvt_posted kind seq count s
  · exact Posted.refl s

/-- What the opening of a block writes, and the state of the ledger after it (R369). -/
theorem openBlock_ledger (wall : Nat) (s : State) (hw : s.nv.worn = []) :
    (openBlock wall s).nv =
        (lgrWrite (blockAddr s.lgr.next s) (leBytes 4 s.lgr.next ++ leBytes 4 (wall / 65536)) s).nv ∧
      (openBlock wall s).lgr = { s.lgr with
        next := s.lgr.next + 1, openRecs := some 0, marks := [], preclear := false
        openTb := (openBlock wall s).lgr.openTb, head := (openBlock wall s).lgr.head } := by
  have hlgr := lgrWrite_lgr (blockAddr s.lgr.next s) (leBytes 4 s.lgr.next ++ leBytes 4 (wall / 65536)) s hw
  unfold openBlock
  dsimp only
  generalize lgrWrite _ _ s = x at *
  generalize hy : { x with lgr := Lgr.mk _ _ _ _ _ _ _ _ _ _ _ _ _ _ _ _ _ _ _ } = y
  suffices h : ∀ z, Posted y z → z.nv = x.nv ∧ z.lgr = { s.lgr with
      next := s.lgr.next + 1, openRecs := some 0, marks := [], preclear := false
      openTb := z.lgr.openTb, head := z.lgr.head } from
    h _ (Posted.after (lgrEvtIf_posted _ _ _ _ _) (lgrEvtIf_posted _ _ _ _ y))
  intro z hz
  rw [hz.nv, hz.lgr, ← hy]
  exact ⟨rfl, by rw [hlgr]⟩

/-- What a record that none has to follow writes, and the state of the ledger after it (R366, R369). -/
theorem putRecord_ledger (r : LRec) (s : State) (hw : s.nv.worn = []) {k : Nat} (ho : s.lgr.openRecs = some k)
    (hk : k + 1 < 6) (hlater : laterRecords r.tb (recordRank r.typ r.src) s.lgr.marks = 0) :
    (putRecord r s).nv = (lgrWrite (blockAddr (s.lgr.next - 1) s + 8 + 8 * k)
        (recordBytes r.typ r.src (timeDelta r.wall (leAt 4 4 (nvPeek (blockAddr (s.lgr.next - 1) s) 8 s))).toNat r.data)
        s).nv ∧
      (putRecord r s).lgr = { s.lgr with
        openRecs := some (k + 1)
        marks := s.lgr.marks.take k ++
          (r.tb, if r.typ ≥ 0x80 then 0 else recordRank r.typ r.src) :: s.lgr.marks.drop k
        placed := (s.lgr.next - 1, k) } := by
  have hnone : ∀ a, nvPeek a (8 * 0) s = [] := fun _ => rfl
  unfold putRecord
  rw [ho]
  simp only [hlater, Nat.sub_zero, hnone, List.append_nil, if_neg (Nat.not_le.mpr hk)]
  generalize hx : lgrWrite _ _ s = x
  have hxl : x.lgr = s.lgr := hx ▸ lgrWrite_lgr _ _ s hw
  rw [← hxl]
  exact ⟨rfl, rfl⟩

/-- A device record into a ledger that takes it (R372). -/
theorem append_ready (typ src data : Nat) (s : State) (hr : s.nv.ledgerReady = true) (hc : s.lgr.closed = false)
    (hl : s.lgr.lost = 0) :
    append typ src data s =
      if (placeRecord ⟨typ, src, data, s.clk.wall.toNat, now s⟩ (classS typ) s).2 then
        (placeRecord ⟨typ, src, data, s.clk.wall.toNat, now s⟩ (classS typ) s).1
      else dropRecord (placeRecord ⟨typ, src, data, s.clk.wall.toNat, now s⟩ (classS typ) s).1 := by
  have hno : reportLost s = s := by rw [reportLost, if_pos (.inl hl)]
  simp only [append, appendAt, hr, if_true, writeRecord, hc, Bool.false_eq_true, if_false, hno]

/-- A record of class S that begins a block (R369, R372). -/
theorem append_opens (typ src data : Nat) (s : State) (hr : s.nv.ledgerReady = true) (hc : s.lgr.closed = false)
    (hl : s.lgr.lost = 0) (ho : s.lgr.openRecs = none) (hcls : classS typ = true)
    (hfree : s.lgr.next ≤ s.lgr.w + lgrN s) :
    append typ src data s =
      putRecord ⟨typ, src, data, s.clk.wall.toNat, now s⟩ (openBlock s.clk.wall.toNat (useCtl s)) := by
  have hnone : (useCtl s).lgr.openRecs = none := ho
  have hallow : (openAllowed true (useCtl s) && !(useCtl s).lgr.closed) = true := by
    have h1 : openAllowed true (useCtl s) = true := decide_eq_true hfree
    have h2 : (useCtl s).lgr.closed = false := hc
    rw [h1, h2]; rfl
  have hplace : placeRecord ⟨typ, src, data, s.clk.wall.toNat, now s⟩ true s =
      (putRecord ⟨typ, src, data, s.clk.wall.toNat, now s⟩ (openBlock s.clk.wall.toNat (useCtl s)), true) := by
    simp only [placeRecord, needsNewBase, hnone, Bool.false_eq_true, if_false, hallow, if_true]
  rw [append_ready typ src data s hr hc hl, hcls, hplace, if_pos rfl]

/-- A record that joins the open block (R369). -/
theorem append_joins (typ src data : Nat) (s : State) (hr : s.nv.ledgerReady = true) (hc : s.lgr.closed = false)
    (hl : s.lgr.lost = 0) {k : Nat} (ho : s.lgr.openRecs = some k) (hbase : needsNewBase s.clk.wall.toNat s = false) :
    append typ src data s = putRecord ⟨typ, src, data, s.clk.wall.toNat, now s⟩ (useCtl s) := by
  have hopen : (useCtl s).lgr.openRecs = some k := ho
  have hbase' : needsNewBase s.clk.wall.toNat (useCtl s) = false := hbase
  have hplace : placeRecord ⟨typ, src, data, s.clk.wall.toNat, now s⟩ (classS typ) s =
      (putRecord ⟨typ, src, data, s.clk.wall.toNat, now s⟩ (useCtl s), true) := by
    simp only [placeRecord, hbase', Bool.false_eq_true, if_false, hopen]
  rw [append_ready typ src data s hr hc hl, hplace, if_pos rfl]

/-! ## A ledger begun anew -/

/-- The positions after block 1 lie above it. -/
theorem blockAddr_above (s : State) {q : Nat} (h2 : 2 ≤ q) (hq : q ≤ lgrN s) : blockAddr 1 s + 64 ≤ blockAddr q s := by
  have h1 : (q - 1) % lgrN s = q - 1 := Nat.mod_eq_of_lt (by omega)
  simp only [blockAddr, h1, Nat.sub_self, Nat.zero_mod]
  omega

/-- No block after the first has a header. -/
def HeadersClear (s : State) : Prop := ∀ q, 2 ≤ q → q ≤ lgrN s → nvPeek (blockAddr q s) 8 s = List.replicate 8 0

/-- Block 1 is open, it holds `k` records, and it is the only one. -/
structure Begun (k : Nat) (s : State) : Prop where
  worn : s.nv.worn = []
  memWf : Memory.wf nvDflt s.nv.mem = true
  next : s.lgr.next = 2
  openRecs : s.lgr.openRecs = some k
  w : s.lgr.w = 0
  signed : s.lgr.signed = 0
  notClosed : s.lgr.closed = false
  lost : s.lgr.lost = 0
  header : nvPeek (blockAddr 1 s) 8 s = leBytes 4 1 ++ leBytes 4 (s.clk.wall.toNat / 65536)
  headers : HeadersClear s

/-- The opening of block 1. -/
theorem openBlock_begun (wall : Nat) (s : State) (hwall : s.clk.wall.toNat = wall) (hw : s.nv.worn = [])
    (hm : Memory.wf nvDflt s.nv.mem = true) (hn : s.lgr.next = 1) (h0 : s.lgr.w = 0) (hs : s.lgr.signed = 0)
    (hc : s.lgr.closed = false) (hl : s.lgr.lost = 0) (hh : HeadersClear s) :
    Begun 0 (openBlock wall s) ∧ (openBlock wall s).lgr.marks = [] := by
  have hrec := openBlock_recorded (cells := []) (offs := []) s wall hw
  obtain ⟨hnv, hlgr⟩ := openBlock_ledger wall s hw
  rw [hn] at hnv
  have hlen : (leBytes 4 1 ++ leBytes 4 (wall / 65536)).length = 8 := by simp [leBytes_length]
  generalize openBlock wall s = y at *
  refine ⟨⟨hrec.worn.trans hw, hrec.array.wf hm, by rw [hlgr, hn], by rw [hlgr], by rw [hlgr, h0], by rw [hlgr, hs],
    by rw [hlgr, hc], by rw [hlgr, hl], ?_, fun q h2 hq => ?_⟩, by rw [hlgr]⟩
  · rw [blockAddr_congr hrec.part, nvPeek_congr (congrArg Nv.mem hnv), hrec.clk, hwall, ← hlen]
    exact nvPeek_nvWrite_same _ _ s hw hm
  · have hq' : q ≤ lgrN s := by rwa [lgrN, ← hrec.part]
    have habove := blockAddr_above s h2 hq'
    rw [blockAddr_congr hrec.part, nvPeek_congr (congrArg Nv.mem hnv), ← hh q h2 hq']
    exact nvPeek_nvWrite_apart _ _ 8 _ s hw hm (.inr (by omega))

theorem recordBytes_length (typ src delta data : Nat) : (recordBytes typ src delta data).length = 8 := by
  simp [recordBytes, leBytes_length]

/-- A record in it, with what stands before the record kept. -/
theorem putRecord_begun (r : LRec) {s : State} {k : Nat} (h : Begun k s) (hk : k + 1 < 6)
    (hlater : laterRecords r.tb (recordRank r.typ r.src) s.lgr.marks = 0) :
    Begun (k + 1) (putRecord r s) ∧
      nvPeek (blockAddr 1 s + 8 + 8 * k) 2 (putRecord r s) = [byteOf r.typ, byteOf r.src] ∧
      ∀ a n, a + n ≤ blockAddr 1 s + 8 + 8 * k → nvPeek a n (putRecord r s) = nvPeek a n s := by
  have hrec := putRecord_recorded (cells := []) (offs := []) s r h.worn
  obtain ⟨hnv, hlgr⟩ := putRecord_ledger r s h.worn h.openRecs hk hlater
  rw [h.next, Nat.add_one_sub_one] at hnv
  generalize hd : (timeDelta r.wall (leAt 4 4 (nvPeek (blockAddr 1 s) 8 s))).toNat = delta at hnv
  have hlen := recordBytes_length r.typ r.src delta r.data
  generalize putRecord r s = y at *
  have hbefore : ∀ a n, a + n ≤ blockAddr 1 s + 8 + 8 * k → nvPeek a n y = nvPeek a n s := fun a n ha => by
    rw [nvPeek_congr (congrArg Nv.mem hnv)]
    exact nvPeek_nvWrite_apart _ _ n _ s h.worn h.memWf (.inl (by omega))
  refine ⟨⟨hrec.worn.trans h.worn, hrec.array.wf h.memWf, by rw [hlgr, h.next], by rw [hlgr], by rw [hlgr, h.w],
    by rw [hlgr, h.signed], by rw [hlgr, h.notClosed], by rw [hlgr, h.lost], ?_, fun q h2 hq => ?_⟩, ?_, hbefore⟩
  · rw [blockAddr_congr hrec.part, hrec.clk, hbefore _ 8 (by omega), h.header]
  · have hq' : q ≤ lgrN s := by rwa [lgrN, ← hrec.part]
    have habove := blockAddr_above s h2 hq'
    rw [blockAddr_congr hrec.part, nvPeek_congr (congrArg Nv.mem hnv), ← h.headers q h2 hq']
    exact nvPeek_nvWrite_apart _ _ 8 _ s h.worn h.memWf (.inr (by omega))
  · have hwritten :=
      nvPeek_nvWrite_same (blockAddr 1 s + 8 + 8 * k) (recordBytes r.typ r.src delta r.data) s h.worn h.memWf
    rw [hlen] at hwritten
    rw [nvPeek_congr (congrArg Nv.mem hnv), nvPeek_take (by decide : 2 ≤ 8)]
    exact (congrArg (List.take 2) hwritten :)

/-- A record of the instant at which the block was opened keeps its base (R366, R369). -/
theorem needsNewBase_begun {s : State} {k : Nat} (h : Begun k s) (hwall : s.clk.wall.toNat < 2 ^ 48) :
    needsNewBase s.clk.wall.toNat s = false := by
  have hbase : leAt 4 4 (nvPeek (blockAddr (s.lgr.next - 1) s) 8 s) = s.clk.wall.toNat / 65536 := by
    rw [h.next, h.header, leAt_append_leBytes 4 4 _ _ (leBytes_length 4 1)]
    exact Nat.mod_eq_of_lt (by omega)
  have hdelta : 0 ≤ timeDelta s.clk.wall.toNat (s.clk.wall.toNat / 65536) ∧
      timeDelta s.clk.wall.toNat (s.clk.wall.toNat / 65536) ≤ 0xFFFFFF := by
    unfold timeDelta; omega
  simp only [needsNewBase, h.openRecs, hbase, Bool.or_eq_false_iff, decide_eq_false_iff_not]
  omega

/-- A control that comes into force at a record leaves a ledger begun. -/
theorem useCtl_begun {s : State} {k : Nat} (h : Begun k s) : Begun k (useCtl s) :=
  ⟨h.worn, h.memWf, h.next, h.openRecs, h.w, h.signed, h.notClosed, h.lost, h.header, h.headers⟩

/-- GENESIS opens block 1 (R385). -/
theorem append_genesis (s : State) (hr : s.nv.ledgerReady = true) (hw : s.nv.worn = [])
    (hm : Memory.wf nvDflt s.nv.mem = true) (ho : s.lgr.openRecs = none) (hn : s.lgr.next = 1) (h0 : s.lgr.w = 0)
    (hs : s.lgr.signed = 0) (hc : s.lgr.closed = false) (hl : s.lgr.lost = 0) (hh : HeadersClear s) :
    Begun 1 (append 0x01 1 0 s) ∧ (append 0x01 1 0 s).lgr.marks = [(now s, 0)] ∧
      nvPeek (blockAddr 1 s + 8) 2 (append 0x01 1 0 s) = [0x01, 1] := by
  have hfree : s.lgr.next ≤ s.lgr.w + lgrN s := by
    have : 1 ≤ lgrN s := by unfold lgrN; cases s.part <;> decide
    omega
  have hpart : (openBlock s.clk.wall.toNat (useCtl s)).part = s.part :=
    (openBlock_recorded (cells := []) (offs := []) (useCtl s) s.clk.wall.toNat hw).part
  obtain ⟨hopen, hmarks⟩ := openBlock_begun s.clk.wall.toNat (useCtl s) rfl hw hm hn h0 hs hc hl hh
  rw [append_opens 0x01 1 0 s hr hc hl ho (by decide) hfree]
  generalize openBlock s.clk.wall.toNat (useCtl s) = x at *
  have hlater : laterRecords (now s) (recordRank 0x01 1) x.lgr.marks = 0 := by rw [hmarks]; rfl
  obtain ⟨hbegun, htyp, -⟩ := putRecord_begun ⟨0x01, 1, 0, s.clk.wall.toNat, now s⟩ hopen (by decide) hlater
  obtain ⟨-, hlgr⟩ :=
    putRecord_ledger ⟨0x01, 1, 0, s.clk.wall.toNat, now s⟩ x hopen.worn hopen.openRecs (by decide) hlater
  rw [blockAddr_congr hpart] at htyp
  refine ⟨hbegun, ?_, htyp⟩
  rw [hlgr, hmarks]
  rfl

/-- The ledger of a device that leaves Blank: GENESIS and the LIFECYCLE record in block 1 (R385). -/
theorem genesis_begun (s : State) (hr : s.nv.ledgerReady = true) (hw : s.nv.worn = [])
    (hm : Memory.wf nvDflt s.nv.mem = true) (ho : s.lgr.openRecs = none) (hn : s.lgr.next = 1) (h0 : s.lgr.w = 0)
    (hs : s.lgr.signed = 0) (hc : s.lgr.closed = false) (hl : s.lgr.lost = 0) (hh : HeadersClear s)
    (hwall : s.clk.wall.toNat < 2 ^ 48) :
    Begun 2 (lcyRecord 1 0 (append 0x01 1 0 s)) ∧
      nvPeek (blockAddr 1 s + 8) 2 (lcyRecord 1 0 (append 0x01 1 0 s)) = [0x01, 1] ∧
      nvPeek (blockAddr 1 s + 16) 2 (lcyRecord 1 0 (append 0x01 1 0 s)) = [0x50, 1] := by
  obtain ⟨hbegun, hmarks, htyp⟩ := append_genesis s hr hw hm ho hn h0 hs hc hl hh
  have hrec := append_recorded (cells := []) (offs := []) s 0x01 1 0 hr hw
  generalize append 0x01 1 0 s = x at *
  have hjoin := append_joins 0x50 1 0 x (hrec.ledgerReady.trans hr) hbegun.notClosed hbegun.lost hbegun.openRecs
    (needsNewBase_begun hbegun (by rw [hrec.clk]; exact hwall))
  have hlater : laterRecords (now x) (recordRank 0x50 1) (useCtl x).lgr.marks = 0 := by
    rw [show (useCtl x).lgr.marks = [(now s, 0)] from hmarks]
    simp [laterRecords]
  obtain ⟨hbegun2, htyp2, hbefore⟩ :=
    putRecord_begun ⟨0x50, 1, 0, x.clk.wall.toNat, now x⟩ (useCtl_begun hbegun) (by decide) hlater
  rw [← hjoin, show blockAddr 1 (useCtl x) = blockAddr 1 s from blockAddr_congr hrec.part 1] at htyp2 hbefore
  rw [← hjoin] at hbegun2
  refine ⟨⟨hbegun2.worn, hbegun2.memWf, hbegun2.next, hbegun2.openRecs, hbegun2.w, hbegun2.signed, hbegun2.notClosed,
    hbegun2.lost, hbegun2.header, hbegun2.headers⟩, ?_, htyp2⟩
  exact (hbefore _ 2 (by omega)).trans htyp

end Sys2Proof.Machine
end

section
/-! SUPPORT. Proofs of the lifecycle, part 11: the end of a change, the ledger cleared, and the generator's reset. -/
namespace Sys2Proof.Machine

/-! ## Quiet completions and the end of a command -/

/-- A quiet completion touches the host interface, host memory, the monitor and the buffered stores only. -/
theorem complete_quiet_hostOnly (d : Desc) (st : Nat) (res : Bytes) (det : Nat) (s : State)
    (hq : quietStatus st d.opcode = true) : hostOnly s (complete d st res det s) := by
  simp only [quietStatus, Bool.and_eq_true, Bool.not_eq_true', Bool.and_eq_false_iff, decide_eq_false_iff_not] at hq
  have hcnt : counted d st s = drained d s := by
    have hviol : ¬ (1 ≤ st ∧ st ≤ 6) := by omega
    simp only [counted, hq.2, if_neg hviol, Bool.false_eq_true, if_false]
  rw [complete_eq, hcnt]
  exact hostOnly_trans (drained_hostOnly d s) (routeEntry_hostOnly d _ _ _)

/-- A change that is done, at the end of its command: nothing else has changed, and the descriptor is in flight no
more. -/
theorem finish_lcyDone (d : Desc) (prev : Nat) (s : State) (ho : d.opcode = 0x6A)
    (hhost : s.lgr.hostWait.all (fun p => decide (p.2 ≠ 0)) = true) (hwait : s.fold.wait = [])
    (hqueue : s.fold.queue = []) :
    blankLines (blankHost (finish (lcyDone d prev s))) = blankLines (blankHost s) ∧
      ∀ f ∈ (finish (lcyDone d prev s)).hif.flight, f.is d = false := by
  have hquiet : hostOnly s (lcyDone d prev s) := complete_quiet_hostOnly d stOk _ 0 s (quiet_of_lcy ho (.inl rfl))
  have hlgr : (lcyDone d prev s).lgr = s.lgr := (congrArg State.lgr hquiet :)
  have hfold : (lcyDone d prev s).fold = s.fold := (congrArg State.fold hquiet :)
  have hfin := finish_settles (lcyDone d prev s) (by rw [hlgr]; exact hhost) (by rw [hfold]; exact hwait)
    (by rw [hfold]; exact hqueue)
  refine ⟨(congrArg blankHost hfin :).trans (congrArg blankLines hquiet), ?_⟩
  rw [show (finish (lcyDone d prev s)).hif = (lcyDone d prev s).hif from (congrArg State.hif hfin :), lcyDone,
    complete_eq]
  exact routeEntry_flight d _ _ _

/-! ## The ledger cleared -/

/-- Entries kept by a test of their keys. -/
theorem sget_filter_key {β : Type} (dflt : Nat → β) (p : Nat → Bool) (k : Nat) (l : List (Nat × β)) :
    sget dflt k (l.filter (fun c => p c.1)) = if p k then sget dflt k l else dflt k := by
  induction l with
  | nil => simp [sget]
  | cons c l ih =>
    obtain ⟨a, v⟩ := c
    by_cases hp : p a = true
    · rw [List.filter_cons_of_pos (by exact hp), sget, sget, ih]
      split
      · next h => rw [← h, if_pos hp]
      · rfl
    · rw [List.filter_cons_of_neg (by exact hp), ih, sget]
      by_cases ha : a = k
      · rw [← ha, if_neg hp, if_neg hp]
      · rw [if_neg ha]

/-- A byte of a block header (R365, R385). -/
def inHeader (s : State) (a : Nat) : Bool :=
  decide (0x400000 ≤ a) && decide (a < ledgerEnd s.part) && decide (a % 64 < 8)

theorem inHeader_below {s : State} {a : Nat} (h : a < 0x400000) : inHeader s a = false := by
  simp [inHeader]; omega

theorem inHeader_blockAddr (s : State) {q i : Nat} (h2 : 2 ≤ q) (hq : q ≤ lgrN s) (hi : i < 8) :
    inHeader s (blockAddr q s + i) = true := by
  have h1 : (q - 1) % lgrN s = q - 1 := Nat.mod_eq_of_lt (by omega)
  simp only [inHeader, blockAddr, h1, ledgerEnd, Bool.and_eq_true, decide_eq_true_eq]
  unfold lgrN at hq
  omega

/-- What `b` has of `a` where the ledger, the records and the fold of `a` are told of. -/
structure LedgerKept (a b : State) : Prop where
  part : b.part = a.part
  clk : b.clk = a.clk
  fold : b.fold = a.fold
  lgr : b.lgr = a.lgr
  worn : b.nv.worn = a.nv.worn
  ready : b.nv.ledgerReady = a.nv.ledgerReady
  recs : b.nv.recs = a.nv.recs
  memWf : Memory.wf nvDflt a.nv.mem = true → Memory.wf nvDflt b.nv.mem = true
  mem : ∀ p, 0x10000 ≤ p → mget nvDflt b.nv.mem p = mget nvDflt a.nv.mem p
  testSrc : fld RNG_CTL.TEST_SRC b = fld RNG_CTL.TEST_SRC a

/-- The state after the ledger has been cleared: it restarts at block 1, and no statement is left (R385). -/
structure Restarted (x b : State) : Prop where
  part : b.part = x.part
  clk : b.clk = x.clk
  fold : b.fold = x.fold
  hostWait : b.lgr.hostWait = x.lgr.hostWait
  closed : b.lgr.closed = x.lgr.closed
  lost : b.lgr.lost = x.lgr.lost
  next : b.lgr.next = 1
  openRecs : b.lgr.openRecs = none
  w : b.lgr.w = 0
  signed : b.lgr.signed = 0
  worn : b.nv.worn = x.nv.worn
  ready : b.nv.ledgerReady = x.nv.ledgerReady
  memWf : Memory.wf nvDflt b.nv.mem = true
  headers : HeadersClear b
  statements : ∀ k, recGet (recStatement k) b = Dual.empty
  testSrc : fld RNG_CTL.TEST_SRC b = 0

theorem HeadersClear.congr {a b : State} (h : HeadersClear a) (hp : b.part = a.part)
    (hm : ∀ p, 0x10000 ≤ p → mget nvDflt b.nv.mem p = mget nvDflt a.nv.mem p) : HeadersClear b := by
  intro q h2 hq
  have hq' : q ≤ lgrN a := by rwa [lgrN, ← hp]
  rw [blockAddr_congr hp, ← h q h2 hq']
  refine List.map_congr_left (fun i _ => hm _ ?_)
  have := le_blockAddr q a
  omega

theorem Restarted.trans {x a b : State} (h : Restarted x a) (hk : LedgerKept a b) : Restarted x b where
  part := hk.part.trans h.part
  clk := hk.clk.trans h.clk
  fold := hk.fold.trans h.fold
  hostWait := by rw [hk.lgr, h.hostWait]
  closed := by rw [hk.lgr, h.closed]
  lost := by rw [hk.lgr, h.lost]
  next := by rw [hk.lgr, h.next]
  openRecs := by rw [hk.lgr, h.openRecs]
  w := by rw [hk.lgr, h.w]
  signed := by rw [hk.lgr, h.signed]
  worn := hk.worn.trans h.worn
  ready := hk.ready.trans h.ready
  memWf := hk.memWf h.memWf
  headers := h.headers.congr hk.part hk.mem
  statements := fun k => by rw [← h.statements k, recGet, recGet, hk.recs]
  testSrc := hk.testSrc.trans h.testSrc

/-- The test source is off (R337). -/
theorem fld_clearTestSrc (s : State) (hwf : Regs.wf s = true) : fld RNG_CTL.TEST_SRC (clearTestSrc s) = 0 :=
  fld_setFld_same RNG_CTL.TEST_SRC (by decide) 0 _ (regs_wf_setFld _ _ s hwf)

/-- What clearing the ledger leaves alone outside the ledger and the NV store. -/
theorem clearLedger_frame (s : State) (hw : s.nv.wornRecs = []) :
    clearLedger s = { s with nv := (clearLedger s).nv, lgr := (clearLedger s).lgr } := by
  simp [clearLedger, recStore, recWrite, hw, pushBuf, drainAll]

theorem clearLedger_mem (s : State) : (clearLedger s).nv.mem = s.nv.mem.filter (fun c => !inHeader s c.1) := rfl

theorem clearLedger_bad (s : State) : (clearLedger s).nv.bad = s.nv.bad.filter (fun a => !inHeader s a) := rfl

theorem mget_clearLedger (s : State) (a : Nat) :
    mget nvDflt (clearLedger s).nv.mem a = if inHeader s a then nvDflt a else mget nvDflt s.nv.mem a := by
  rw [clearLedger_mem, mget, sget_filter_key nvDflt (fun a => !inHeader s a)]
  cases inHeader s a <;> rfl

/-- Below the Ledger region the array is kept. -/
theorem clearLedger_array (s : State) : ArrayKept [] s (clearLedger s) := by
  refine ⟨fun a ha _ => ?_, fun a ha _ => ?_, fun h => swfFrom_filter nvDflt _ h⟩
  · rw [mget_clearLedger, inHeader_below ha]
    rfl
  · rw [clearLedger_bad, Bool.eq_iff_iff]
    simp [inHeader_below ha]

/-- No header is left beside the first block's (R385). -/
theorem clearLedger_headers (s : State) (hw : s.nv.wornRecs = []) : HeadersClear (clearLedger s) := by
  have hpart : (clearLedger s).part = s.part := by rw [clearLedger_frame s hw]
  intro q h2 hq
  have hq' : q ≤ lgrN s := by rwa [lgrN, ← hpart]
  have hzero : ∀ i < 8, mget nvDflt (clearLedger s).nv.mem (blockAddr q s + i) = 0 := fun i hi => by
    have hhi : ¬ blockAddr q s + i < 0x10000 := by have := le_blockAddr q s; omega
    rw [mget_clearLedger, inHeader_blockAddr s h2 hq' hi, if_pos rfl, nvDflt, if_neg hhi]
  rw [blockAddr_congr hpart, nvPeek, mread, List.map_congr_left (fun i hi => hzero i (List.mem_range.mp hi))]
  rfl

/-- And no statement (R385). -/
theorem clearLedger_statements (s : State) (k : Nat) : recGet (recStatement k) (clearLedger s) = Dual.empty := by
  have hout : (decide (recStatement k < 0x0E00) || decide (0x0F00 ≤ recStatement k)) = false := by
    have hlo : ¬ recStatement k < 0x0E00 := by unfold recStatement; omega
    have hhi : ¬ 0x0F00 ≤ recStatement k := by unfold recStatement; omega
    rw [decide_eq_false hlo, decide_eq_false hhi]
    rfl
  have hkeys := sget_filter_key (fun _ => Dual.empty) (fun i => decide (i < 0x0E00) || decide (0x0F00 ≤ i))
    (recStatement k) (recStore recW (leBytes 4 0) (drainAll s)).1.nv.recs
  rw [hout, if_neg Bool.false_ne_true] at hkeys
  rw [← hkeys, recGet]
  congr 1

/-- The ledger restarts (R385). -/
theorem clearLedger_restarted (s : State) (hw : s.nv.wornRecs = []) (hm : Memory.wf nvDflt s.nv.mem = true)
    (h0 : fld RNG_CTL.TEST_SRC s = 0) : Restarted s (clearLedger s) where
  part := by rw [clearLedger_frame s hw]
  clk := by rw [clearLedger_frame s hw]
  fold := by rw [clearLedger_frame s hw]
  hostWait := rfl
  closed := rfl
  lost := rfl
  next := rfl
  openRecs := rfl
  w := rfl
  signed := rfl
  worn := by simp [clearLedger, recStore, recWrite, hw, pushBuf, drainAll]
  ready := by simp [clearLedger, recStore, recWrite, hw, pushBuf, drainAll]
  memWf := (clearLedger_array s).wf hm
  headers := clearLedger_headers s hw
  statements := clearLedger_statements s
  testSrc := by
    have hframe := clearLedger_frame s hw
    have hregs : (clearLedger s).regs = s.regs := by rw [hframe]
    have hpart : (clearLedger s).part = s.part := by rw [hframe]
    rw [← h0]
    simp only [fld, regGet, hregs, hpart]

/-! ## The generator's reset -/

/-- `s` without what a reset of the generator's island changes beside registers. -/
def blankRng (s : State) : State := { blankHost s with rng := Rng.reset, regs := [] }

/-- A reset of the RNG island touches the generator, and completes what waited for it (R100, R337). -/
structure RngReset (s s' : State) : Prop where
  blank : blankRng s' = blankRng s
  regs : RegsKept [RNG_STATUS.reg, RNG_REQ_CNT.reg, RNG_EST0.reg, RNG_EST1.reg, RNG_EST2.reg] s s'

theorem RngReset.trans {a b c : State} (h1 : RngReset a b) (h2 : RngReset b c) : RngReset a c :=
  ⟨h2.blank.trans h1.blank, h1.regs.trans h2.regs⟩

theorem RngReset.of_hostOnly {s s' : State} (h : hostOnly s s') : RngReset s s' :=
  ⟨(congrArg blankRng h :), RegsKept.of_eq _ (congrArg State.regs h :) (congrArg State.part h :)⟩

theorem RngReset.setFld (f : Field) (v : Nat) (s : State)
    (hf : f.off ∈ [RNG_STATUS.reg, RNG_REQ_CNT.reg, RNG_EST0.reg, RNG_EST1.reg, RNG_EST2.reg]) :
    RngReset s (setFld f v s) :=
  ⟨rfl, RegsKept.setFld f v s hf⟩

theorem RngReset.clearRegList (s : State) :
    RngReset s (clearRegList [RNG_EST0.reg, RNG_EST1.reg, RNG_EST2.reg] s) := by
  refine ⟨rfl, fun off ho => ?_, fun h => swfFrom_filter _ _ h⟩
  have hkeep : (!([RNG_EST0.reg, RNG_EST1.reg, RNG_EST2.reg] : List Nat).contains off) = true := by
    simp only [List.mem_cons, List.not_mem_nil, or_false, not_or] at ho
    simp [ho]
  have hkeys := sget_filter_key (regReset s.part)
    (fun a => !([RNG_EST0.reg, RNG_EST1.reg, RNG_EST2.reg] : List Nat).contains a) off s.regs
  rw [hkeep, if_pos rfl] at hkeys
  exact hkeys

theorem startSteep_reset (s : State) : RngReset s (startSteep s) := by
  unfold startSteep
  split
  · exact ⟨rfl, RegsKept.refl _ s⟩
  · exact (((RngReset.setFld RNG_REQ_CNT.SINCE_RESEED 0 s (by decide)).trans
      (RngReset.setFld RNG_STATUS.RESEED_DUE 0 _ (by decide))).trans
      (RngReset.setFld RNG_STATUS.POOL_FULL 0 _ (by decide))).trans (RngReset.setFld RNG_STATUS.STATE 1 _ (by decide))

theorem getFail_hostOnly (w : Desc × Nat) (s : State) : hostOnly s (getFail stIslandReset w s) :=
  complete_quiet_hostOnly w.1 stIslandReset _ 0 s (by simp [quietStatus, isHostViol, stIslandReset])

theorem resetRng_reset (s : State) : RngReset s (resetRng s) := by
  unfold resetRng
  dsimp only
  have hfold : hostOnly { s with rng := { s.rng with wait := [] } }
      (s.rng.wait.foldl (fun s w => getFail stIslandReset w s) { s with rng := { s.rng with wait := [] } }) :=
    List.foldlRecOn (motive := hostOnly { s with rng := { s.rng with wait := [] } }) s.rng.wait _ rfl
      (fun b hb w _ => hostOnly_trans hb (getFail_hostOnly w b))
  have hrng : ∀ (x : State) (r : Rng), RngReset x { x with rng := r } := fun x r => ⟨rfl, RegsKept.of_eq _ rfl rfl⟩
  have hfirst := (hrng s { s.rng with wait := [] }).trans (RngReset.of_hostOnly hfold)
  generalize s.rng.wait.foldl (fun s w => getFail stIslandReset w s)
    { s with rng := { s.rng with wait := [] } } = x at *
  split
  · exact hfirst
  · exact ((hfirst.trans (hrng x { x.rng with tested := 0, rctMax := 0, estTb := 0 })).trans
      ((RngReset.clearRegList _).trans (RngReset.setFld RNG_STATUS.FAILS 0 _ (by decide)))).trans (startSteep_reset _)

theorem RngReset.array {s s' : State} (h : RngReset s s') : ArrayKept [] s s' :=
  ArrayKept.of_eq _ (congrArg (fun x => x.nv.mem) h.blank :) (congrArg (fun x => x.nv.bad) h.blank :)

theorem RngReset.ledgerKept {s s' : State} (h : RngReset s s') : LedgerKept s s' where
  part := (congrArg State.part h.blank :)
  clk := (congrArg State.clk h.blank :)
  fold := (congrArg State.fold h.blank :)
  lgr := (congrArg State.lgr h.blank :)
  worn := (congrArg (fun x => x.nv.worn) h.blank :)
  ready := (congrArg (fun x => x.nv.ledgerReady) h.blank :)
  recs := (congrArg (fun x => x.nv.recs) h.blank :)
  memWf := h.array.wf
  mem := fun p _ => (congrArg (fun x : State => mget nvDflt x.nv.mem p) h.blank :)
  testSrc := h.regs.fld _ (by decide)

end Sys2Proof.Machine
end

section
/-! SUPPORT. Proofs of the lifecycle, part 12: ADVANCE out of Blank. -/
namespace Sys2Proof.Machine

/-- A device that has just left Blank, before its completion. -/
def provisioned (s : State) : State :=
  lcyRecord 1 0 (append 0x01 1 0 (resetRng (tallyStep 249 1 (clearLedger (clearTestSrc s))).1))

/-- And before its records. -/
def restarted (s : State) : State := resetRng (tallyStep 249 1 (clearLedger (clearTestSrc s))).1

/-- What is told of a device that has left Blank: `y`, its state before the completion, from `s` (R385). -/
structure Provisioned (s y : State) : Prop where
  begun : Begun 2 y
  genesis : nvPeek (blockAddr 1 s + 8) 2 y = [0x01, 1]
  lifecycle : nvPeek (blockAddr 1 s + 16) 2 y = [0x50, 1]
  counter : ∃ slot, tally 249 y = some (1, slot)
  testSrc : fld RNG_CTL.TEST_SRC y = 0
  statements : ∀ k, recGet (recStatement k) y = Dual.empty
  part : y.part = s.part
  hostWait : y.lgr.hostWait = s.lgr.hostWait
  fold : y.fold = s.fold

section
variable {s : State} {t : Nat} {d : Desc} {sig : Bytes}

theorem tally_clearLedger (h : lcState s = 0) (ht : (tally 249 s).isSome = true) :
    ∃ slot, tally 249 (clearLedger (clearTestSrc s)) = some (0, slot) := by
  obtain ⟨slot, hslot⟩ := tally_of_lcState_le (by omega) ht
  rw [h] at hslot
  exact ⟨slot, ((clearLedger_array (clearTestSrc s)).tally 249 (by simp) (by decide)).trans hslot⟩

/-- An increment keeps what the ledger is told from. -/
theorem tallyStep_ledgerKept (hw : s.nv.worn = []) (hm : Memory.wf nvDflt s.nv.mem = true) {v slot : Nat}
    (ht : tally 249 s = some (v, slot)) (hmax : v + 1 ≤ tallyMax) : LedgerKept s (tallyStep 249 1 s).1 := by
  obtain ⟨-, hrec, -⟩ := tallyStep_done 249 1 s hw hm ht (by decide) hmax
  obtain ⟨hlgr, hmem⟩ := tallyStep_ledger 249 1 s hw ht (by decide) hmax (by decide)
  exact ⟨hrec.part, hrec.clk, hrec.fold, hlgr, hrec.worn, hrec.ledgerReady, hrec.recs, hrec.array.wf, hmem,
    hrec.regs.fld _ (by decide)⟩

/-- Counter 249 is raised and the ledger restarts (R337, R385, R411). -/
theorem restarted_spec (hst : lcState s = 0) (ht : (tally 249 s).isSome = true) (hw : s.nv.worn = [])
    (hwr : s.nv.wornRecs = []) (hm : Memory.wf nvDflt s.nv.mem = true) (hwf : Regs.wf s = true) :
    Restarted (clearTestSrc s) (restarted s) ∧ ∃ slot, tally 249 (restarted s) = some (1, slot) := by
  have hclear := clearLedger_restarted (clearTestSrc s) hwr hm (fld_clearTestSrc s hwf)
  obtain ⟨slot, hslot⟩ := tally_clearLedger hst ht
  obtain ⟨-, -, hraised⟩ := tallyStep_done 249 1 _ (hclear.worn.trans hw) hclear.memWf hslot (by decide) (by decide)
  have hstep := tallyStep_ledgerKept (hclear.worn.trans hw) hclear.memWf hslot (by decide)
  have hreset := resetRng_reset (tallyStep 249 1 (clearLedger (clearTestSrc s))).1
  exact ⟨(hclear.trans hstep).trans hreset.ledgerKept, _, (hreset.array.tally 249 (by simp) (by decide)).trans hraised⟩

/-- Out of Blank the commit succeeds where counter 249 has a valid cell (R411). -/
theorem provision_eq (d : Desc) (hst : lcState s = 0) (ht : (tally 249 s).isSome = true) (hw : s.nv.worn = [])
    (hwr : s.nv.wornRecs = []) (hm : Memory.wf nvDflt s.nv.mem = true) (hwf : Regs.wf s = true) :
    provision d s = lcyDone d 0 (provisioned s) := by
  have hclear := clearLedger_restarted (clearTestSrc s) hwr hm (fld_clearTestSrc s hwf)
  obtain ⟨slot, hslot⟩ := tally_clearLedger hst ht
  obtain ⟨⟨clip, again, hdone⟩, -, -⟩ :=
    tallyStep_done 249 1 _ (hclear.worn.trans hw) hclear.memWf hslot (by decide) (by decide)
  simp only [provision, hdone, provisioned]

/-- The restarted ledger takes GENESIS and the LIFECYCLE record (R385). -/
theorem provisioned_spec (hst : lcState s = 0) (ht : (tally 249 s).isSome = true) (hr : s.nv.ledgerReady = true)
    (hw : s.nv.worn = []) (hwr : s.nv.wornRecs = []) (hm : Memory.wf nvDflt s.nv.mem = true) (hwf : Regs.wf s = true)
    (hc : s.lgr.closed = false) (hl : s.lgr.lost = 0) (hwall : s.clk.wall.toNat < 2 ^ 48) :
    Provisioned s (provisioned s) := by
  obtain ⟨hre, slot, hslot⟩ := restarted_spec hst ht hw hwr hm hwf
  have hready : (restarted s).nv.ledgerReady = true := hre.ready.trans hr
  have hworn : (restarted s).nv.worn = [] := hre.worn.trans hw
  have hb1 : blockAddr 1 (restarted s) = blockAddr 1 s := blockAddr_congr hre.part 1
  obtain ⟨hbegun, hgen, hlcy⟩ := genesis_begun (restarted s) hready hworn hre.memWf hre.openRecs hre.next hre.w
    hre.signed (hre.closed.trans hc) (hre.lost.trans hl) hre.headers (by rw [hre.clk]; exact hwall)
  have hrec : Recorded [] [] (restarted s) (provisioned s) := by
    have hgenesis := append_recorded (cells := []) (offs := []) (restarted s) 0x01 1 0 hready hworn
    exact hgenesis.trans (lcyRecord_recorded 1 0 _ (hgenesis.ledgerReady.trans hready) (hgenesis.worn.trans hworn))
  rw [hb1] at hgen hlcy
  exact {
    begun := hbegun
    genesis := hgen
    lifecycle := hlcy
    counter := ⟨slot, (hrec.tally 249 (by simp) (by decide)).trans hslot⟩
    testSrc := (hrec.regs.fld _ (by decide)).trans hre.testSrc
    statements := fun k => by
      rw [recGet, hrec.recs]
      exact hre.statements k
    part := hrec.part.trans hre.part
    hostWait := hrec.hostWait.trans hre.hostWait
    fold := hrec.fold.trans hre.fold }

/-- After the completion the same is told. -/
theorem Provisioned.told {x y s' : State} (h : Provisioned x y) (hp : x.part = s.part)
    (hb : blankLines (blankHost s') = blankLines (blankHost y)) :
    lcState s' = 1 ∧ tallyVal 249 s' = 1 ∧ lgrTail s' = 1 ∧ s'.lgr.w = 0 ∧ s'.lgr.signed = 0 ∧
      (∀ q, 2 ≤ q → q ≤ lgrN s → nvPeek (blockAddr q s) 8 s' = List.replicate 8 0) ∧
      nvPeek (blockAddr 1 s) 4 s' = leBytes 4 1 ∧ nvPeek (blockAddr 1 s + 8) 2 s' = [0x01, 1] ∧
      nvPeek (blockAddr 1 s + 16) 2 s' = [0x50, 1] ∧ fld RNG_CTL.TEST_SRC s' = 0 ∧
      ∀ k < 256, recRead (recStatement k) s' = none := by
  obtain ⟨slot, hslot⟩ := h.counter
  have hpart : y.part = s.part := h.part.trans hp
  have hmem : s'.nv.mem = y.nv.mem := (congrArg (fun x => x.nv.mem) hb :)
  have hbad : s'.nv.bad = y.nv.bad := (congrArg (fun x => x.nv.bad) hb :)
  have hrecs : s'.nv.recs = y.nv.recs := (congrArg (fun x => x.nv.recs) hb :)
  have hlgr : s'.lgr = y.lgr := (congrArg State.lgr hb :)
  have hregs : s'.regs = y.regs := (congrArg State.regs hb :)
  have hpart' : s'.part = y.part := (congrArg State.part hb :)
  have htally : tally 249 s' = some (1, slot) :=
    ((ArrayKept.of_eq [] hmem hbad).tally 249 (by simp) (by decide)).trans hslot
  refine ⟨?_, tallyVal_of_tally htally, ?_, ?_, ?_, fun q h2 hq => ?_, ?_, ?_, ?_, ?_, fun k _ => ?_⟩
  · rw [lcState_of_tally htally (by decide)]
    rfl
  · rw [lgrTail, hlgr, h.begun.next]
  · rw [hlgr, h.begun.w]
  · rw [hlgr, h.begun.signed]
  · rw [nvPeek_congr hmem, ← blockAddr_congr hpart]
    exact h.begun.headers q h2 (by rwa [lgrN, hpart])
  · rw [nvPeek_congr hmem, nvPeek_take (by decide : 4 ≤ 8), ← blockAddr_congr hpart, h.begun.header]
    exact List.take_left' (leBytes_length 4 1)
  · rw [nvPeek_congr hmem, ← blockAddr_congr hp, h.genesis]
  · rw [nvPeek_congr hmem, ← blockAddr_congr hp, h.lifecycle]
  · rw [← h.testSrc]
    simp only [fld, regGet, hregs, hpart']
  · rw [recRead, recGet, hrecs, ← recGet, h.statements]
    rfl

/-- Out of Blank, which needs a fleet key, the ledger begins anew with GENESIS (R385, R410). -/
theorem advance_provisions (hs : serves t d s) (hmode : isMode 0x6A 1 d = true) (hp : parNonzero 2 24 d = none)
    (hsig : dmaRead d d.srcAddr 64 s = some sig) (hr : s.nv.ledgerReady = true) (hw : s.nv.worn = [])
    (hwr : s.nv.wornRecs = []) (hst : lcState s = 0) (hto : p8 d 1 = 1) (hkey : (fleetKey s).isSome = true)
    (ht : (tally 249 s).isSome = true) (hc : s.lgr.closed = false) (hl : s.lgr.lost = 0)
    (hwall : (elapse t s).clk.wall.toNat < 2 ^ 48) :
    ∃ s', exec (.lifecycleAdvance t d) s = .next s' ∧ lcState s' = 1 ∧ tallyVal 249 s' = 1 ∧ lgrTail s' = 1 ∧
      s'.lgr.w = 0 ∧ s'.lgr.signed = 0 ∧ (∀ q, 2 ≤ q → q ≤ lgrN s → nvPeek (blockAddr q s) 8 s' = List.replicate 8 0) ∧
      nvPeek (blockAddr 1 s) 4 s' = leBytes 4 1 ∧ nvPeek (blockAddr 1 s + 8) 2 s' = [0x01, 1] ∧
      nvPeek (blockAddr 1 s + 16) 2 s' = [0x50, 1] ∧ fld RNG_CTL.TEST_SRC s' = 0 ∧
      (∀ k < 256, recRead (recStatement k) s' = none) ∧ ∀ f ∈ s'.hif.flight, f.is d = false := by
  obtain ⟨h, -, hans, hread, hrun⟩ := advance_served hs hmode hsig
  have hkx : ¬ (fleetKey (withHif h (elapse t s))).isNone = true := by simpa [Option.isSome_iff_ne_none] using hkey
  have hlc : lcState (withHif h (elapse t s)) = 0 := by simp [hst]
  have ht' : (tally 249 (withHif h (elapse t s))).isSome = true := by simpa using ht
  have hw' : (withHif h (elapse t s)).nv.worn = [] := by simpa using hw
  have hwr' : (withHif h (elapse t s)).nv.wornRecs = [] := by simpa using hwr
  have hmem := memWf_elapse (t := t) hs.2.1
  have hwf := regs_wf_elapse (t := t) hs.2.1
  have hspec := provisioned_spec hlc ht' (by simpa using hr) hw' hwr' hmem hwf (by simpa using hc)
    (by simpa using hl) hwall
  have hunit : advance d (withHif h (elapse t s)) = lcyDone d 0 (provisioned (withHif h (elapse t s))) := by
    rw [advance_read (by omega) (by omega) hp hread, hlc, if_neg (by omega), if_pos ⟨rfl, hto⟩, if_neg hkx,
      provision_eq d hlc ht' hw' hwr' hmem hwf]
  obtain ⟨hblank, hflight⟩ := finish_lcyDone d 0 _ (opcode_of_isMode hmode)
    (by rw [hspec.hostWait]; exact hans.hostWait) (by rw [hspec.fold]; exact hans.wait) (by rw [hspec.fold]; exact hans.queue)
  rw [← hunit] at hblank hflight
  obtain ⟨hstate, hval, htail, hw0, hs0, hheads, hseq, hgen, hlcy, hsrc, hstm⟩ :=
    hspec.told (s := s) (by simp) hblank
  exact ⟨_, hrun, hstate, hval, htail, hw0, hs0, hheads, hseq, hgen, hlcy, hsrc, hstm, hflight⟩

end

end Sys2Proof.Machine
end

section
/-! SUPPORT. Proofs of the lifecycle, part 13: ADVANCE into Retired. -/
namespace Sys2Proof.Machine

/-! ## The permission's end -/

/-- The driver's registers, and a record where they change (R287). -/
theorem setDriver_recorded {cells : List Nat} (dor co : Nat) (present : Bool) (s : State) (hr : s.nv.ledgerReady = true)
    (hw : s.nv.worn = []) : Recorded cells [FLK_STATUS.reg, FLK_DRIVER.reg] s (setDriver dor co present s) := by
  have hregs := ((Recorded.setFld (cells := cells) (offs := [FLK_STATUS.reg, FLK_DRIVER.reg]) FLK_DRIVER.CO_PRESENT
    (b2n present) s (by decide)).trans (Recorded.setFld FLK_DRIVER.CO co _ (by decide))).trans
    (Recorded.setFld FLK_DRIVER.DOR dor _ (by decide))
  unfold setDriver
  dsimp only
  split
  · exact hregs.trans (append_recorded _ _ _ _ (hregs.ledgerReady.trans hr) (hregs.worn.trans hw))
  · exact hregs

/-- The end of a permission, or of none, is recorded (Table 12.9). -/
theorem endPermission_recorded {cells : List Nat} (reason code : Nat) (s : State) (hr : s.nv.ledgerReady = true)
    (hw : s.nv.worn = []) :
    Recorded cells [FLK_STATUS.reg, FLK_DRIVER.reg] { s with flk := { s.flk with perm := none } }
      (endPermission reason code s) := by
  unfold endPermission
  split
  · next hnone =>
    have hsame : { s.flk with perm := none } = s.flk := by rw [← hnone]
    rw [hsame]
    exact Recorded.refl s
  · have hregs := (Recorded.setFld (cells := cells) (offs := [FLK_STATUS.reg, FLK_DRIVER.reg]) FLK_STATUS.END_REASON
      reason { s with flk := { s.flk with perm := none } } (by decide)).trans
      (Recorded.setFld FLK_STATUS.START_ACTIVE 0 _ (by decide))
    have hrec := hregs.trans (append_recorded _ 0x2B reason code hr hw)
    exact hrec.trans (setDriver_recorded _ _ _ _ (hrec.ledgerReady.trans hr) (hrec.worn.trans hw))

/-! ## The seal -/

/-- A pre-clear opens no block. -/
theorem preClear_openRecs (s : State) (hw : s.nv.worn = []) : (preClear s).lgr.openRecs = s.lgr.openRecs := by
  have hlgr := lgrWrite_lgr (blockAddr s.lgr.next s) (List.replicate 64 0) s hw
  unfold preClear
  split
  · exact (congrArg Lgr.openRecs hlgr :)
  · rfl

/-- A seal leaves no block open (R369). -/
theorem sealBlock_openRecs (flagBits : Nat) (s : State) (hw : s.nv.worn = []) :
    (sealBlock flagBits s).lgr.openRecs = none := by
  unfold sealBlock
  split
  · next hnone => exact hnone
  · next k _ =>
    dsimp only
    generalize hx : lgrWrite (_ + 8 + 8 * k) _ s = x
    have hxw : x.nv.worn = [] := by
      rw [← hx]
      exact (congrArg (fun x => x.nv.worn) (nvWriteWords_fresh _ _ _ s hw).2 :).trans hw
    generalize hy : lgrWrite (_ + 56) _ x = y
    have hyw : y.nv.worn = [] := by
      rw [← hy]
      exact (congrArg (fun x => x.nv.worn) (nvWriteWords_fresh _ _ _ x hxw).2 :).trans hxw
    split
    · rfl
    · exact preClear_openRecs _ hyw

/-! ## The keys -/

theorem finalStored_congr {s s' : State} (h : s'.nv.recs = s.nv.recs) : finalStored s' = finalStored s := by
  simp only [finalStored, ringStatements, recRead, recGet, h]

theorem setFlag_regs (f : Field) (b : Bool) (s : State) : ∃ r, setFlag f b s = { s with regs := r } := ⟨_, rfl⟩

theorem syncFlock_regs (s : State) : ∃ r, syncFlock s = { s with regs := r } := ⟨_, rfl⟩

theorem syncPair_regs (s : State) : ∃ r, syncPair s = { s with regs := r } := by
  unfold syncPair
  split
  · exact ⟨_, rfl⟩
  · exact ⟨_, rfl⟩

/-- The withdrawal of the keys, beside registers and device records (Table 18.3). -/
theorem withdrawKeys_eq (s : State) : ∃ regs recs, withdrawKeys s =
    { wipeCaddy s with
      regs := regs
      nv := { s.nv with recs := recs }
      flk := { s.flk with flock := none, staged := none, pend := none, pair := none, stage := none, zeroised := true }
      lcy := { s.lcy with keysGone := true, retiring := false }
      lgr := { s.lgr with ckpt := [], keyOk := false } } := by
  unfold withdrawKeys
  dsimp only
  generalize hx : recErase recPair _ = x
  obtain ⟨recs, hrecs⟩ : ∃ r, x = { wipeCaddy s with
      nv := { s.nv with recs := r }
      flk := { s.flk with
        flock := none, staged := none, pend := none, pair := none, stage := none, zeroised := true } } :=
    ⟨_, hx.symm⟩
  obtain ⟨r1, h1⟩ := syncFlock_regs x
  obtain ⟨r2, h2⟩ := syncPair_regs (syncFlock x)
  obtain ⟨r3, h3⟩ := setFlag_regs LGR_STATUS.CKPT_PEND false { syncPair (syncFlock x) with
    lcy := { (syncPair (syncFlock x)).lcy with keysGone := true, retiring := false }
    lgr := { (syncPair (syncFlock x)).lgr with ckpt := [], keyOk := false } }
  refine ⟨r3, recs, h3.trans ?_⟩
  rw [h2, h1, hrecs]
  rfl

/-- No slot of a wiped Caddy holds a key (R319). -/
theorem wipeCaddy_slots (s : State) : ∀ x ∈ (wipeCaddy s).cry.slots, x.kind = 0 := by
  intro x hx
  obtain ⟨y, -, rfl⟩ := List.mem_map.mp hx
  rfl

section
variable {s : State} {t : Nat} {d : Desc} {sig : Bytes}

/-- The ledger of a device into Retired, sealed and not yet closed. -/
def sealedForRetired (s : State) : State := sealBlock padRetired (lcyRecord 4 1 (endPermission 8 0 s))

/-- The permission ends, the change is recorded, and the seal follows (R378). -/
theorem sealedForRetired_recorded {cells : List Nat} (hr : s.nv.ledgerReady = true) (hw : s.nv.worn = []) :
    Recorded cells [FLK_STATUS.reg, FLK_DRIVER.reg] { s with flk := { s.flk with perm := none } } (sealedForRetired s) ∧
      (sealedForRetired s).lgr.openRecs = none := by
  have hend := endPermission_recorded (cells := cells) 8 0 s hr hw
  have hlcy := hend.trans (lcyRecord_recorded 4 1 _ (hend.ledgerReady.trans hr) (hend.worn.trans hw))
  exact ⟨hlcy.trans (sealBlock_recorded _ padRetired (hlcy.worn.trans hw)),
    sealBlock_openRecs padRetired _ (hlcy.worn.trans hw)⟩

/-- With the final statement stored, the keys go at once (R378). -/
theorem retireSteps_stored (hr : s.nv.ledgerReady = true) (hw : s.nv.worn = []) (hf : finalStored s = true) :
    retireSteps 1 s = withdrawKeys (closeLedger (sealedForRetired s)) := by
  obtain ⟨hrec, -⟩ := sealedForRetired_recorded (cells := []) hr hw
  have hready : (closeLedger (sealedForRetired s)).nv.ledgerReady = true := hrec.ledgerReady.trans hr
  have hstored : finalStored (closeLedger (sealedForRetired s)) = true := (finalStored_congr hrec.recs).trans hf
  have hretiring : (closeLedger (sealedForRetired s)).lcy.retiring = true := rfl
  rw [show retireSteps 1 s = finishRetire (closeLedger (sealedForRetired s)) from rfl, finishRetire, hretiring, hready,
    hstored]
  rfl

/-- What is told of a device that has entered Retired with its last statement stored: `y`, its state before the
completion, from `s` (R378). -/
structure Retired (s y : State) : Prop where
  counter : ∃ slot, tally 249 y = some (3, slot)
  perm : y.flk.perm = none
  closed : y.lgr.closed = true
  openRecs : y.lgr.openRecs = none
  keysGone : y.lcy.keysGone = true
  retiring : y.lcy.retiring = false
  flock : y.flk.flock = none
  pair : y.flk.pair = none
  zeroised : y.flk.zeroised = true
  holders : y.cry.holders = []
  slots : ∀ x ∈ y.cry.slots, x.kind = 0
  hostWait : y.lgr.hostWait = s.lgr.hostWait
  fold : y.fold = s.fold

/-- The steps after the commit (Table 18.3). -/
theorem retireSteps_retired (hr : s.nv.ledgerReady = true) (hw : s.nv.worn = []) (hf : finalStored s = true)
    {slot : Nat} (ht : tally 249 s = some (3, slot)) : Retired s (retireSteps 1 s) := by
  obtain ⟨hsealed, hopen⟩ := sealedForRetired_recorded (cells := []) hr hw
  have htally : tally 249 (sealedForRetired s) = some (3, slot) := (hsealed.tally 249 (by simp) (by decide)).trans ht
  have hperm : (sealedForRetired s).flk.perm = none := (congrArg Flk.perm hsealed.flk :)
  obtain ⟨regs, recs, hkeys⟩ := withdrawKeys_eq (closeLedger (sealedForRetired s))
  rw [retireSteps_stored hr hw hf, hkeys]
  exact {
    counter := ⟨slot, htally⟩
    perm := hperm
    closed := rfl
    openRecs := hopen
    keysGone := rfl
    retiring := rfl
    flock := rfl
    pair := rfl
    zeroised := rfl
    holders := rfl
    slots := wipeCaddy_slots _
    hostWait := hsealed.hostWait
    fold := hsealed.fold }

/-- After the completion the same is told. -/
theorem Retired.told {y s' : State} (h : Retired s y) (hb : blankLines (blankHost s') = blankLines (blankHost y)) :
    lcState s' = 4 ∧ tallyVal 249 s' = 3 ∧ s'.flk.perm = none ∧ s'.lgr.closed = true ∧ s'.lgr.openRecs = none ∧
      s'.lcy.keysGone = true ∧ s'.lcy.retiring = false ∧ s'.flk.flock = none ∧ s'.flk.pair = none ∧
      s'.flk.zeroised = true ∧ s'.cry.holders = [] ∧ ∀ x ∈ s'.cry.slots, x.kind = 0 := by
  obtain ⟨slot, hslot⟩ := h.counter
  have hmem : s'.nv.mem = y.nv.mem := (congrArg (fun x => x.nv.mem) hb :)
  have hbad : s'.nv.bad = y.nv.bad := (congrArg (fun x => x.nv.bad) hb :)
  have htally : tally 249 s' = some (3, slot) :=
    ((ArrayKept.of_eq [] hmem hbad).tally 249 (by simp) (by decide)).trans hslot
  have hflk : s'.flk = y.flk := (congrArg State.flk hb :)
  have hlgr : s'.lgr = y.lgr := (congrArg State.lgr hb :)
  have hlcy : s'.lcy = y.lcy := (congrArg State.lcy hb :)
  have hcry : s'.cry = y.cry := (congrArg State.cry hb :)
  rw [lcState_of_tally htally (by decide), hflk, hlgr, hlcy, hcry]
  exact ⟨rfl, tallyVal_of_tally htally, h.perm, h.closed, h.openRecs, h.keysGone, h.retiring, h.flock, h.pair,
    h.zeroised, h.holders, h.slots⟩

/-- Out of Provisioned the commit succeeds where counter 249 has a valid cell (R411). -/
theorem retire_eq (d : Desc) {slot : Nat} (ht : tally 249 s = some (1, slot)) (hw : s.nv.worn = [])
    (hm : Memory.wf nvDflt s.nv.mem = true) : retire d 1 s = lcyDone d 1 (retireSteps 1 (tallyStep 249 2 s).1) := by
  obtain ⟨⟨clip, again, hdone⟩, -, -⟩ := tallyStep_done 249 2 s hw hm ht (by decide) (by decide)
  simp only [retire, raiseState, tallyVal_of_tally ht, Nat.one_ne_zero, if_false, Nat.reduceSub, hdone]

/-- Into Retired the permission ends, the ledger closes and, with its last statement stored, the keys are gone (R378,
R410). -/
theorem advance_retires (hs : serves t d s) (hmode : isMode 0x6A 1 d = true) (hp : parNonzero 2 24 d = none)
    (hsig : dmaRead d d.srcAddr 64 s = some sig) (hr : s.nv.ledgerReady = true) (hw : s.nv.worn = [])
    (hst : lcState s = 1) (hto : p8 d 1 = 4) (ht : (tally 249 s).isSome = true) (hf : finalStored s = true) :
    ∃ s', exec (.lifecycleAdvance t d) s = .next s' ∧ lcState s' = 4 ∧ tallyVal 249 s' = 3 ∧ s'.flk.perm = none ∧
      s'.lgr.closed = true ∧ s'.lgr.openRecs = none ∧ s'.lcy.keysGone = true ∧ s'.lcy.retiring = false ∧
      s'.flk.flock = none ∧ s'.flk.pair = none ∧ s'.flk.zeroised = true ∧ s'.cry.holders = [] ∧
      (∀ x ∈ s'.cry.slots, x.kind = 0) ∧ ∀ f ∈ s'.hif.flight, f.is d = false := by
  obtain ⟨h, -, hans, hread, hrun⟩ := advance_served hs hmode hsig
  obtain ⟨slot, hslot⟩ := tally_of_lcState_le (by omega) ht
  have hlc : lcState (withHif h (elapse t s)) = 1 := by simp [hst]
  have hslot' : tally 249 (withHif h (elapse t s)) = some (1, slot) := by simpa [hst] using hslot
  have hw' : (withHif h (elapse t s)).nv.worn = [] := by simpa using hw
  have hmem := memWf_elapse (t := t) hs.2.1
  obtain ⟨-, hrec, hraised⟩ := tallyStep_done 249 2 (withHif h (elapse t s)) hw' hmem hslot' (by decide) (by decide)
  have hspec := retireSteps_retired (hrec.ledgerReady.trans (by simpa using hr)) (hrec.worn.trans hw')
    ((finalStored_congr hrec.recs).trans (by simpa using hf)) hraised
  have hunit : advance d (withHif h (elapse t s)) =
      lcyDone d 1 (retireSteps 1 (tallyStep 249 2 (withHif h (elapse t s))).1) := by
    rw [advance_read (by omega) (by omega) hp hread, hlc, if_neg (by omega), if_neg (by omega), if_neg (by omega),
      if_neg (by omega), if_neg (by omega), if_pos ⟨le_refl 1, hto⟩, retire_eq d hslot' hw' hmem]
  obtain ⟨hblank, hflight⟩ := finish_lcyDone d 1 _ (opcode_of_isMode hmode)
    (by rw [hspec.hostWait, hrec.hostWait]; exact hans.hostWait) (by rw [hspec.fold, hrec.fold]; exact hans.wait)
    (by rw [hspec.fold, hrec.fold]; exact hans.queue)
  rw [← hunit] at hblank hflight
  obtain ⟨hstate, hval, hperm, hclosed, hopen, hgone, hret, hflock, hpair, hzero, hhold, hslots⟩ := hspec.told hblank
  exact ⟨_, hrun, hstate, hval, hperm, hclosed, hopen, hgone, hret, hflock, hpair, hzero, hhold, hslots, hflight⟩

end

end Sys2Proof.Machine
end

section
/-! SUPPORT. Proofs of the lifecycle, part 14: the statement, put together from its clauses. -/
namespace Sys2Proof.Machine

/-- A signed request's test, told before its tick: the tick changes no fleet key (R412). -/
theorem verifies_iff (op dest : Nat) (extra sig : Bytes) (t : Nat) (s : State) :
    (∃ n key, validNonce (elapse t s) = some n ∧ fleetKey s = some key ∧
      ecdsaVerify key (sha256 (signedMsg n op dest extra (elapse t s))) sig = true) ↔
    verifies op dest extra sig (elapse t s) := by
  rw [verifies, elapse_fleetKey]

/-- Settles O57, clause by clause: each command of the lifecycle runs its unit from the state at its tick, and what the
unit changes is told from there. -/
theorem lifecycleAdvances : Obligations.LifecycleAdvances := by
  unfold Obligations.LifecycleAdvances
  intro s t hl hm _ hr hw hwr
  refine ⟨fun d hs hmode h1 hp => ⟨?_, ?_, ?_⟩, fun d sig hs hmode hp hsig => ?_,
    fun d key hs hmode h1 hp hst hlen hb => ⟨?_, ?_⟩, fun d b hs hmode h1 hp hb => ⟨?_, ?_⟩, fun e m hsvc => ?_,
    fun n x hn => ?_⟩
  · exact challenge_answers hs hmode h1 hp
  · exact challenge_waits hs hmode h1 hp
  · exact challenge_fails hs hmode h1 hp
  · dsimp only
    simp only [verifies_iff]
    refine ⟨?_, ?_, ?_, ?_, ?_, ?_, ?_, ?_⟩
    · exact advance_stays hs hmode hp hsig
    · exact fun hst hto hsvc =>
        ⟨fun hboot ht => advance_fields hs hmode hp hsig hr hw hst hto hsvc hboot ht,
          advance_needsBank hs hmode hp hsig hr hw hst hto⟩
    · exact advance_entersService hs hmode hp hsig hr hw
    · exact fun hst hto hpass _ _ => advance_restartsService hs hmode hp hsig hst hto hpass
    · exact advance_fails hs hmode hp hsig hr hw
    · exact advance_endsService hs hmode hp hsig hr hw
    · exact advance_provisions hs hmode hp hsig hr hw hwr
    · exact advance_retires hs hmode hp hsig hr hw
  · exact fleetKey_stores hs hmode h1 hp hst hlen hb hwr
  · exact fleetKey_refuses hs hmode h1 hp hst hlen hb
  · exact fun h0 hlo hhi hz => otpK_programs hs hmode h1 hp hb h0 hlo hhi hz
  · exact otpK_refuses hs hmode h1 hp hb
  · exact serviceTimeout_ends hl hr hw hsvc
  · exact nonceExpiry_ends hl hn

end Sys2Proof.Machine
end

section
/-! SUPPORT. Proofs of the machine as a whole: the queue, the idle edge, reset, and the two invariants that a step can
break. -/
namespace Sys2Proof.Machine

/-! ## Reading an outcome -/

/-- The outcome is a next state with a property. -/
def nextMeets (p : State → Bool) : Host.Outcome State Fault Refusal → Bool
  | .next s => p s
  | _ => false

/-- What an evaluated outcome meets, its next state meets. -/
theorem nextMeets_next {p : State → Bool} {o : Host.Outcome State Fault Refusal} {s : State} (ho : o = .next s)
    (h : nextMeets p o = true) : p s = true := by
  subst ho; exact h

/-- A machine evaluated to a property has a next state with it. -/
theorem nextMeets_exists {p : State → Bool} {o : Host.Outcome State Fault Refusal} (h : nextMeets p o = true) :
    ∃ s, o = .next s ∧ p s = true := by
  cases o with
  | next s => exact ⟨s, rfl, h⟩
  | fault r => exact absurd h (by simp [nextMeets])
  | refused r => exact absurd h (by simp [nextMeets])

/-- A device at work: fast content, recalled, in Run, the link in L0, pair 0 enabled, the generator ready. -/
def workingDevice : State :=
  let s := { State.reset with
    clk := { Clk.reset with tb := 5000000, content := .fast38, wallRun := true, wall := 0x100000000 }
    pwr := { Pwr.reset with aonLoad := false }
    pins := { Pins.reset with perst := false }
    hif := { Hif.reset with
      link := .l0, trained := true, busMaster := true
      qps := Hif.reset.qps.set 0 { Qp.reset with enabled := true, quiesced := false, phase := true } }
    nv := { Nv.reset with ledgerReady := true, loaded := true }
    lgr := { Lgr.reset with next := 1, head := 1 }
    lcy := { Lcy.reset with drover := .ready } }
  regSet RNG_STATUS.reg 0x22 (regSet (QPn_CFG.reg 0) 0x00080044 (regSet (QPn_CQB_LO.reg 0) 0x20000
    (regSet (QPn_SQB_LO.reg 0) 0x10000 (regSet HIF_STATUS.reg 1 (regSet HIF_CTL.reg 1 s)))))

/-! ## The queue and the idle edge -/

/-- Settles O1: the front command of a queue is what `step` runs. -/
theorem stepRunsFrontCommand : Obligations.StepRunsFrontCommand := by
  intro c rest s h
  simp only [step, h]

/-- An edge moves TIMEBASE by the ticks that pass. -/
theorem passTicks_tb (n : Nat) (s : State) : (passTicks n s).clk.tb = s.clk.tb + BitVec.ofNat 64 n := rfl

/-- TIMEBASE in eighths after one edge of slow content. -/
theorem oneEdge_slow (s : State) (hr : tbRuns s = true) (hc : s.clk.content = .slow) :
    8 * (oneEdge s).clk.tb.toNat + (oneEdge s).clk.frac = (8 * s.clk.tb.toNat + s.clk.frac + 9375) % (8 * 2 ^ 64) := by
  simp only [oneEdge, hr, hc, if_true, passTicks_tb, BitVec.toNat_add, BitVec.toNat_ofNat]
  omega

/-- Settles O2: one edge, by the content in force. -/
theorem idleStepCountsOneEdge : Obligations.IdleStepCountsOneEdge := by
  intro s hp
  refine ⟨oneEdge s, by simp only [step, hp], oneEdge_eq s, ?_, ?_, ?_, ?_, oneEdge_slow s⟩
  · intro h
    simp [oneEdge, h]
  · intro h hc
    simp [oneEdge, h, hc, passTicks_tb]
  · rintro h hc (hst | hst) <;> simp [oneEdge, h, hc, coarse, hst, passTicks_tb]
  · rintro h hc (hst | hst) <;> simp [oneEdge, h, hc, coarse, hst, passTicks_tb]

/-! ## Reset -/

/-- Settles O3, register by register. -/
theorem resetRegisters : Obligations.ResetRegisters := by
  unfold Obligations.ResetRegisters
  decide +kernel

/-- Settles O4: each part of the three invariants is a finite fact about the reset state. -/
theorem resetIsSafe : Obligations.ResetIsSafe := by
  unfold Obligations.ResetIsSafe memorySafe shaped linesSafe
  decide +kernel

/-! ## Invariants that a step can break -/

/-- A descriptor of pair 0. -/
def hostDesc (op target len src dst : Nat) (par : List Nat) : Desc :=
  { src := .host 0, idx := 3, no := 7, opcode := op, flags := 0, tag := 0x1234, target := target, len := len,
    timeout := 0, rsv := 0, srcAddr := src, dstAddr := dst, par := par.map byteOf ++ List.replicate (24 - par.length) 0,
    atTb := 0 }

/-- A UHF_TX on the air from the last tick before TIMEBASE wraps. -/
def wrapTx : UhfRun :=
  { d := hostDesc 0x20 0 16 0 0 [], tx := true, cal := none, data := [], temp := 25, phase := .air, due := 0, req := 0,
    reqEnd := 0, start := 2 ^ 64 - 1, stop := 2 ^ 64 + 38400, flags := 0, dual := false, frames := 0, written := 0,
    crcFail := 0, dmaErr := false, paused := false, clear := 0 }

/-- A device at that tick. -/
def sendsAtWrap : State :=
  { workingDevice with
    clk := { workingDevice.clk with tb := BitVec.ofNat 64 (2 ^ 64 - 1) }
    pins := { workingDevice.pins with pa := true, trsw := true }
    uhf := { Uhf.reset with run := some wrapTx } }

/-- Refutes O5: with no command waiting, the edge at which TIMEBASE wraps to 0 leaves the amplifier's pad on, and the
frame that began at tick 2^64 - 1 then lies ahead of TIMEBASE. -/
theorem not_stepKeepsLinesSafe : ¬ Obligations.StepKeepsLinesSafe := by
  intro h
  have hs : linesSafe sendsAtWrap := by
    unfold linesSafe
    decide +kernel
  have hstep : step sendsAtWrap = .next (oneEdge sendsAtWrap) := rfl
  obtain ⟨-, -, -, hpa, -⟩ := h _ _ hs hstep
  exact absurd (hpa (by decide +kernel)) (by decide +kernel)

/-- A device whose write-combining buffer holds the write of a record over a copy with a SEQ of 33 bits. -/
def longSeqBuffered : State :=
  { workingDevice with
    pending := [.brownOut 0 0 .old]
    nv := { workingDevice.nv with buf := [.record 0 ⟨some ⟨2 ^ 32, []⟩, none⟩ 1] } }

/-- The SEQ of every record copy is of 32 bits. -/
def seqsShort (s : State) : Bool := s.nv.recs.all (fun r => seqsOk r.2)

/-- Refutes O7: a brown-out whose drain writes nothing puts the old copies of a buffered record back, and `shaped` asks
nothing of the SEQ of those. -/
theorem not_stepKeepsShape : ¬ Obligations.StepKeepsShape := by
  intro h
  have hm : memorySafe longSeqBuffered := by
    unfold memorySafe
    decide +kernel
  have hs : shaped longSeqBuffered := by
    unfold shaped
    decide +kernel
  obtain ⟨s', hstep, hlong⟩ := nextMeets_exists (p := fun s => !seqsShort s) (o := step longSeqBuffered) (by decide +kernel)
  obtain ⟨-, -, -, -, -, -, -, hshort⟩ := h _ s' hm hs hstep
  simp [seqsShort, hshort] at hlong

end Sys2Proof.Machine
end

section
/-! SUPPORT. Register writes on a live device, and the counter clears. -/
namespace Sys2Proof.Machine

/-! ## The write's own wake-up -/

/-- Noting the source of an exit changes a register and the power unit. -/
theorem setSrc_eq (k : Nat) (s : State) : setSrc k s = { s with regs := (setSrc k s).regs, pwr := (setSrc k s).pwr } := by
  unfold setSrc
  split
  · rfl
  · split <;> rfl

/-- And keeps the register file in canonical form. -/
theorem setSrc_wf (k : Nat) (s : State) (h : Regs.wf s = true) : Regs.wf (setSrc k s) = true := by
  unfold setSrc
  split
  · exact h
  · split <;> exact regs_wf_setFld _ _ _ h

/-- A TLP on a device that enters no state wakes it from Graze and Pen at most. -/
theorem tlpWake_cases (s : State) (he : s.pwr.entering = none) :
    tlpWake s = s ∨ tlpWake s = setSrc 0x0C (setPState .run s) := by
  unfold tlpWake exitRun
  cases hst : s.pwr.st <;> simp [he, hst]

/-- What it changes: a register and the power unit. -/
theorem tlpWake_eq (s : State) (he : s.pwr.entering = none) :
    tlpWake s = { s with regs := (tlpWake s).regs, pwr := (tlpWake s).pwr } := by
  rcases tlpWake_cases s he with h | h <;> rw [h]
  rw [setSrc_eq]; rfl

/-- The register file stays in canonical form. -/
theorem tlpWake_wf (s : State) (he : s.pwr.entering = none) (h : Regs.wf s = true) : Regs.wf (tlpWake s) = true := by
  rcases tlpWake_cases s he with e | e <;> rw [e]
  · exact h
  · exact setSrc_wf _ _ (regs_wf_setFld _ _ _ h)

/-- A live device enters no state and has nothing waiting. -/
theorem live_calm {s : State} (h : live s = true) : calm s = true := by
  simp only [live, Bool.and_eq_true] at h; exact h.1

/-- A live device enters no state. -/
theorem live_entering {s : State} (h : live s = true) : s.pwr.entering = none := ((calm_iff s).mp (live_calm h)).1

/-- The state of a write differs from the one at its tick in a register, the power unit and the latch. -/
theorem written_eq (t off : Nat) (s : State) (hl : live s = true) :
    written t off s = { elapse t s with
      regs := (written t off s).regs, pwr := (written t off s).pwr, latchHi := (written t off s).latchHi } := by
  have he : (elapse t s).pwr.entering = none := by simpa using live_entering hl
  unfold written
  rw [tlpWake_eq _ he]

/-- Its register file is in canonical form. -/
theorem written_wf (t off : Nat) (s : State) (hl : live s = true) (h : Regs.wf s = true) :
    Regs.wf (written t off s) = true := by
  refine tlpWake_wf _ (by simpa using live_entering hl) ?_
  simpa [Regs.wf] using h

/-- What ends a command that has left the ledger's appends and the fold engine as they were is what `settles` names. -/
theorem finish_settles_of (s x : State) (hl : live s = true) (hlgr : x.lgr = s.lgr) (hfold : x.fold = s.fold) :
    settles x (finish x) := by
  obtain ⟨-, -, -, -, hw, hq, hh⟩ := (calm_iff s).mp (live_calm hl)
  exact finish_settles x (by rw [hlgr]; exact hh) (by rw [hfold]; exact hw) (by rw [hfold]; exact hq)

/-- A register write on a live device whose store leaves the ledger and the fold engine alone: its next state. -/
theorem regWrite_settles (t off : Nat) (v : Word) (s : State) (hl : live s = true) (hp : islandOn .pcie s = true)
    (ha : off % 4 = 0) (hlgr : (barStore off v (written t off s)).lgr = (written t off s).lgr)
    (hfold : (barStore off v (written t off s)).fold = (written t off s).fold) :
    ∃ s', regWrite t off v s = .next s' ∧ settles (barStore off v (written t off s)) s' := by
  refine ⟨_, regWrite_live t off v s hl hp ha, finish_settles_of s _ hl (hlgr.trans ?_) (hfold.trans ?_)⟩ <;>
    rw [written_eq t off s hl] <;> simp

/-! ## Clearing the counters of a list of bits -/

/-- Each bit of `v` that is set clears its counters, in order. -/
def clearRows (rows : List (Field × List Field)) (v : Word) (s : State) : State :=
  rows.foldl (fun s r => if r.1.of v = 1 then clearFields r.2 s else s) s

/-- One row, then the others. -/
theorem clearRows_cons (r : Field × List Field) (rows : List (Field × List Field)) (v : Word) (s : State) :
    clearRows (r :: rows) v s = clearRows rows v (if r.1.of v = 1 then clearFields r.2 s else s) := rfl

/-- Registers only, in canonical form. -/
theorem clearRows_regsOnly (rows : List (Field × List Field)) (v : Word) (s : State) :
    regsOnly s (clearRows rows v s) := by
  induction rows generalizing s with
  | nil => rfl
  | cons r rows ih =>
    rw [clearRows_cons]
    refine regsOnly_trans ?_ (ih _)
    split
    · exact clearFields_regsOnly r.2 s
    · rfl

/-- A field apart from every cleared one keeps its value. -/
theorem clearRows_apart (rows : List (Field × List Field)) (v : Word) (g : Field) (s : State) (hw : Regs.wf s = true)
    (hf : ∀ r ∈ rows, ∀ f ∈ r.2, f.fits = true)
    (hg : ∀ r ∈ rows, r.1.of v = 1 → ∀ f ∈ r.2, f.apart g = true) : fld g (clearRows rows v s) = fld g s := by
  induction rows generalizing s with
  | nil => rfl
  | cons r rows ih =>
    rw [clearRows_cons]
    have hf' := fun x hx => hf x (List.mem_cons_of_mem r hx)
    have hg' := fun x hx => hg x (List.mem_cons_of_mem r hx)
    split
    · next hb =>
      rw [ih _ (clearFields_wf r.2 s hw) hf' hg']
      exact clearFields_apart r.2 g s hw (hf r List.mem_cons_self) (hg r List.mem_cons_self hb)
    · exact ih s hw hf' hg'

/-- A field that reads 0 still does. -/
theorem clearRows_keeps_zero (rows : List (Field × List Field)) (v : Word) (g : Field) (s : State) (hw : Regs.wf s = true)
    (hf : ∀ r ∈ rows, ∀ f ∈ r.2, f.fits = true) (h : fld g s = 0) : fld g (clearRows rows v s) = 0 := by
  induction rows generalizing s with
  | nil => exact h
  | cons r rows ih =>
    rw [clearRows_cons]
    have hf' := fun x hx => hf x (List.mem_cons_of_mem r hx)
    split
    · exact ih _ (clearFields_wf r.2 s hw) hf' (clearFields_keeps_zero r.2 g s hw (hf r List.mem_cons_self) h)
    · exact ih s hw hf' h

/-- The counters of a set bit read 0. -/
theorem clearRows_zero (rows : List (Field × List Field)) (v : Word) (s : State) (hw : Regs.wf s = true)
    (hf : ∀ r ∈ rows, ∀ f ∈ r.2, f.fits = true) :
    ∀ c ∈ rows, c.1.of v = 1 → ∀ g ∈ c.2, fld g (clearRows rows v s) = 0 := by
  induction rows generalizing s with
  | nil => exact fun c hc => absurd hc List.not_mem_nil
  | cons r rows ih =>
    intro c hc hb g hg
    rw [clearRows_cons]
    have hf' := fun x hx => hf x (List.mem_cons_of_mem r hx)
    rcases List.mem_cons.mp hc with rfl | hc
    · rw [if_pos hb]
      exact clearRows_keeps_zero rows v g _ (clearFields_wf c.2 s hw) hf'
        (clearFields_zero c.2 g s hw (hf c List.mem_cons_self) hg)
    · split
      · exact ih _ (clearFields_wf r.2 s hw) hf' c hc hb g hg
      · exact ih s hw hf' c hc hb g hg

/-- The fields of the clear rows fit their words. -/
def rowsFit (rows : List (Field × List Field)) : Bool := rows.all (fun r => r.2.all Field.fits)

/-- A store that only clears counters does what `clears` says. -/
theorem clears_of_settles (rows : List (Field × List Field)) (v : Word) (s0 s' : State) (hw : Regs.wf s0 = true)
    (hf : rowsFit rows = true) (h : settles (clearRows rows v s0) s') : clears rows v s0 s' := by
  have hfit : ∀ r ∈ rows, ∀ f ∈ r.2, f.fits = true := by
    intro r hr f hf'
    exact List.all_eq_true.mp (List.all_eq_true.mp hf r hr) f hf'
  have hreg : s'.regs = (clearRows rows v s0).regs := settles_regs h
  refine ⟨?_, fun c hc hb f hf' => ?_, fun f hap => ?_⟩
  · have e : ({ s0 with regs := s'.regs } : State) = clearRows rows v s0 := by
      rw [hreg]
      have hr := clearRows_regsOnly rows v s0
      unfold regsOnly at hr
      have h2 := congrArg (fun x => ({ x with regs := (clearRows rows v s0).regs } : State)) hr
      exact h2.symm
    rw [e]
    exact h
  · rw [settles_fld h]
    exact clearRows_zero rows v s0 hw hfit c hc hb f hf'
  · rw [settles_fld h]
    refine clearRows_apart rows v f s0 hw hfit (fun r hr hb g hg => ?_)
    have := hap r hr hb g hg
    unfold Field.apart
    by_cases ho : g.off = f.off
    · simpa [ho] using this ho
    · simp [ho]

/-! ## Registers without a store of their own -/

/-- `barStore` has no branch for the register: it goes to `writePlain`. -/
def plainStore (off : Nat) : Bool :=
  decide (off % 4 = 0) && decide (¬ 0x10000 ≤ off) && decide (¬ (0x0100 ≤ off ∧ off < 0x0400)) &&
  decide (¬ (off = CLK_GAP_CTL.reg ∨ off = CLK_WATCH_CTL.reg)) && decide (¬ off = PWR_SCHED_CTL.reg) &&
  decide (¬ (0x0620 ≤ off ∧ off < 0x0660)) && decide (¬ off = PWR_ISLAND_RST.reg) && decide (¬ off = LFE_SENSE.reg) &&
  decide (¬ ((0x1040 ≤ off ∧ off < 0x10C8) ∨ (0x1100 ≤ off ∧ off < 0x1220))) && decide (¬ off = RNG_CTL.reg) &&
  decide (¬ off = LGR_CTL.reg) && decide (¬ (0x2820 ≤ off ∧ off < 0x2838)) && decide (¬ off = LCY_CTL.reg)

/-- A store to such a register, where its unit is present. -/
theorem barStore_plain (off : Nat) (v : Word) (s : State) (h : plainStore off = true)
    (hp : 0x1600 ≤ off ∧ off < 0x1800 → s.part ≠ .blv8032n) : barStore off v s = writePlain off v s := by
  simp only [plainStore, Bool.and_eq_true, decide_eq_true_eq] at h
  obtain ⟨⟨⟨⟨⟨⟨⟨⟨⟨⟨⟨⟨-, h1⟩, h2⟩, h3⟩, h4⟩, h5⟩, h6⟩, h7⟩, h8⟩, h9⟩, h10⟩, h11⟩, h12⟩ := h
  unfold barStore
  rw [if_neg h1, if_neg h2, if_neg h3, if_neg h4, if_neg h5, if_neg h6, if_neg h7, if_neg h8,
    if_neg (fun hu => hp ⟨hu.1, hu.2.1⟩ hu.2.2), if_neg h9, if_neg h10, if_neg h11, if_neg h12]

/-- Such a register has a word's offset. -/
theorem plainStore_aligned {off : Nat} (h : plainStore off = true) : off % 4 = 0 := by
  simp only [plainStore, Bool.and_eq_true, decide_eq_true_eq] at h
  tauto

/-- Registers whose write triggers something. -/
def triggerRegs : List Nat :=
  [LFE_CTL.reg, FLD_CTL.reg, UHF_CTL.reg, UWB_CTL.reg, VRD_CTL.reg, FLK_CTL.reg, FLK_START_CTL.reg, CRY_CTL.reg, TMR_CTL.reg,
    MON_CTL.reg]

/-- A write to another triggers nothing. -/
theorem writeActs_none (off : Nat) (v : Word) (s : State) (h : off ∉ triggerRegs) : writeActs off v s = s := by
  simp only [triggerRegs, List.mem_cons, List.not_mem_nil, or_false, not_or] at h
  obtain ⟨h1, h2, h3, h4, h5, h6, h7, h8, h9, h10⟩ := h
  unfold writeActs
  rw [if_neg h1, if_neg h2, if_neg h3, if_neg h4, if_neg h5, if_neg h6, if_neg h7, if_neg h8, if_neg h9, if_neg h10]

/-- A register without RW fields on any part. -/
def noRows (off : Nat) : Bool :=
  (rwRows .blv8128 off).isEmpty && (rwRows .blv8064 off).isEmpty && (rwRows .blv8032n off).isEmpty

/-- None on the part at hand. -/
theorem rwRows_none {off : Nat} (h : noRows off = true) (p : Part) : rwRows p off = [] := by
  simp only [noRows, Bool.and_eq_true, List.isEmpty_iff] at h
  cases p
  · exact h.1.1
  · exact h.1.2
  · exact h.2

/-! ## The counter-clear registers -/

/-- A register with counters to clear and nothing else: no RW or W1C field, nothing triggered, no store of its own. -/
def onlyClears (off : Nat) : Bool :=
  plainStore off && decide (off ∉ triggerRegs) && noRows off && (w1cRows off).isEmpty && rowsFit (clrRows off)

/-- A store to such a register clears its counters. -/
theorem barStore_onlyClears (off : Nat) (v : Word) (s : State) (h : onlyClears off = true)
    (hp : 0x1600 ≤ off ∧ off < 0x1800 → s.part ≠ .blv8032n) :
    barStore off v s = clearRows (clrRows off) v s := by
  simp only [onlyClears, Bool.and_eq_true, decide_eq_true_eq, List.isEmpty_iff] at h
  obtain ⟨⟨⟨⟨hplain, htrig⟩, hrows⟩, hw1c⟩, -⟩ := h
  rw [barStore_plain off v s hplain hp, writePlain, writeActs_none off v _ htrig, hw1c, wrW1cs, List.foldl_nil, writeRows,
    rwRows_none hrows]
  rfl

/-- A write to such a register. -/
theorem cntClr_clears (off : Nat) (v : Word) (t : Nat) (s : State) (h : onlyClears off = true)
    (hp : 0x1600 ≤ off ∧ off < 0x1800 → s.part ≠ .blv8032n) (hl : live s = true) (hi : islandOn .pcie s = true)
    (hm : memorySafe s) : ∃ s', regWrite t off v s = .next s' ∧ clears (clrRows off) v (written t off s) s' := by
  have hpart : (written t off s).part = s.part := by rw [written_eq t off s hl]; simp
  have hst := barStore_onlyClears off v (written t off s) h (by rw [hpart]; exact hp)
  have hro : regsOnly (written t off s) (barStore off v (written t off s)) := by
    rw [hst]; exact clearRows_regsOnly _ v _
  have ha : off % 4 = 0 ∧ rowsFit (clrRows off) = true := by
    simp only [onlyClears, Bool.and_eq_true] at h
    exact ⟨plainStore_aligned h.1.1.1.1, h.2⟩
  have hlgr := congrArg State.lgr (show _ = written t off s from hro)
  have hfold := congrArg State.fold (show _ = written t off s from hro)
  obtain ⟨s', hs', hset⟩ := regWrite_settles t off v s hl hi ha.1 hlgr hfold
  obtain ⟨-, -, -, -, hregs, -⟩ := hm
  refine ⟨s', hs', clears_of_settles _ v _ s' (written_wf t off s hl hregs) ha.2 ?_⟩
  rw [← hst]
  exact hset

/-- Settles O8: each CNT_CLR register has counters to clear and nothing else. -/
theorem counterClearsZeroSelectedCounters : Obligations.CounterClearsZeroSelectedCounters := by
  intro s t v hl hi hm _
  have key := fun off (h : onlyClears off = true) (hu : ¬ (0x1600 ≤ off ∧ off < 0x1800)) =>
    cntClr_clears off v t s h (fun hn => absurd hn hu) hl hi hm
  refine ⟨key CLK_CNT_CLR.reg ?_ ?_, key HIF_CNT_CLR.reg ?_ ?_, key LFE_CNT_CLR.reg ?_ ?_, key FLD_CNT_CLR.reg ?_ ?_,
    key UHF_CNT_CLR.reg ?_ ?_, fun hp => cntClr_clears UWB_CNT_CLR.reg v t s ?_ (fun _ => hp) hl hi hm,
    key VRD_CNT_CLR.reg ?_ ?_, key FLK_CNT_CLR.reg ?_ ?_, key CRY_CNT_CLR.reg ?_ ?_, key RNG_CNT_CLR.reg ?_ ?_,
    key NVS_CNT_CLR.reg ?_ ?_, key LGR_CNT_CLR.reg ?_ ?_, key TMR_CNT_CLR.reg ?_ ?_, key LCY_CNT_CLR.reg ?_ ?_,
    key MON_CNT_CLR.reg ?_ ?_⟩
  all_goals decide +kernel

end Sys2Proof.Machine
end

section
/-! SUPPORT. The commits: what storing a set-up and writing the fields of its register come down to. -/
namespace Sys2Proof.Machine

/-! ## A record's write that does not fail -/

/-- It answers success. -/
theorem recStore_ok {id : Nat} {s : State} (bs : Bytes) (hf : recFails id s = false) :
    recStore id bs s = ((recWrite id bs s).1, false) := by
  have hf' : s.nv.wornRecs.contains id = false := hf
  simp only [recStore, recWrite, hf', Bool.false_eq_true, if_false]

/-- The array's records after it. -/
theorem recStore_recs {id : Nat} {s : State} (bs : Bytes) (hf : recFails id s = false) :
    (recStore id bs s).1.nv.recs = sset (fun _ => Dual.empty) id ((recGet id s).write bs) s.nv.recs := by
  have hf' : s.nv.wornRecs.contains id = false := hf
  simp only [recStore_ok bs hf, recWrite, hf', Bool.false_eq_true, if_false, pushBuf]

/-- Only the NV store changes. -/
theorem recStore_eq {id : Nat} {s : State} (bs : Bytes) (hf : recFails id s = false) :
    (recStore id bs s).1 = { s with nv := (recStore id bs s).1.nv } := by
  have hf' : s.nv.wornRecs.contains id = false := hf
  simp only [recStore_ok bs hf, recWrite, hf', Bool.false_eq_true, if_false, pushBuf]

/-- No byte of the array changes. -/
theorem recStore_mem {id : Nat} {s : State} (bs : Bytes) (hf : recFails id s = false) :
    (recStore id bs s).1.nv.mem = s.nv.mem := by
  have hf' : s.nv.wornRecs.contains id = false := hf
  simp only [recStore_ok bs hf, recWrite, hf', Bool.false_eq_true, if_false, pushBuf]

/-- The record holds the bytes. -/
theorem recStore_recRead {id : Nat} {s : State} (bs : Bytes) (hf : recFails id s = false)
    (hc : swf (fun _ => Dual.empty) s.nv.recs = true) (hseq : s.nv.recs.all (fun r => seqsOk r.2) = true) :
    recRead id (recStore id bs s).1 = some bs := by
  rw [recRead, recGet, recStore_recs bs hf, sget_sset_same _ id _ hc]
  exact newest_write (seqsOk_sget hseq id) bs

/-- The other records stay. -/
theorem recStore_recGet {id : Nat} {s : State} (bs : Bytes) (hf : recFails id s = false) {i : Nat} (hi : i ≠ id) :
    recGet i (recStore id bs s).1 = recGet i s := by
  rw [recGet, recStore_recs bs hf]
  exact sget_sset_ne _ id i _ hi _

/-! ## Writing the fields of a register -/

/-- Between `s` and `s'`, registers of a list and held writes changed, nothing else. -/
structure RowsWritten (offs : List Nat) (s s' : State) : Prop where
  frame : s' = { s with regs := s'.regs, heldWr := s'.heldWr }
  kept : RegsKept offs s s'

theorem RowsWritten.refl (offs : List Nat) (s : State) : RowsWritten offs s s := ⟨rfl, .refl offs s⟩

theorem RowsWritten.trans {offs : List Nat} {a b c : State} (h1 : RowsWritten offs a b) (h2 : RowsWritten offs b c) :
    RowsWritten offs a c :=
  ⟨by
    have h := h2.frame
    rw [h1.frame] at h
    exact h, h1.kept.trans h2.kept⟩

theorem RowsWritten.setFld {offs : List Nat} (f : Field) (v : Nat) (s : State) (hf : f.off ∈ offs) :
    RowsWritten offs s (setFld f v s) := ⟨rfl, .setFld f v s hf⟩

/-- W1C fields of registers of the list. -/
theorem RowsWritten.wrW1cs {offs : List Nat} (fs : List Field) (v : Word) (s : State) (hf : ∀ f ∈ fs, f.off ∈ offs) :
    RowsWritten offs s (wrW1cs fs v s) := by
  induction fs generalizing s with
  | nil => exact .refl offs s
  | cons f fs ih =>
    refine .trans (b := wrW1c f v s) ?_ (ih _ (fun x hx => hf x (List.mem_cons_of_mem f hx)))
    unfold wrW1c
    split
    · exact .setFld f 0 s (hf f List.mem_cons_self)
    · exact .refl offs s

/-- An RW field of the list. -/
theorem RowsWritten.wrRw {offs : List Nat} (err f : Field) (ok : Nat → Bool) (v : Word) (s : State) (hf : f.off ∈ offs)
    (he : err.off ∈ offs) : RowsWritten offs s (wrRw err f ok v s) := by
  unfold Machine.wrRw
  split
  · exact .setFld _ _ _ hf
  · exact .setFld _ _ _ he

/-- The RW fields of a register, written or held. -/
theorem RowsWritten.writeRows (off : Nat) (v : Word) (s : State) :
    RowsWritten [off, (errRange off).off] s (writeRows off v s) := by
  unfold Machine.writeRows
  simp only
  split
  · exact .refl _ s
  · have h1 : RowsWritten [off, (errRange off).off] s
        (if rowsBad (rwRows s.part off) v = true then Machine.setFld (errRange off) 1 s else s) := by
      split
      · exact .setFld _ _ _ (by simp)
      · exact .refl _ s
    refine h1.trans ?_
    generalize (if rowsBad (rwRows s.part off) v = true then Machine.setFld (errRange off) 1 s else s) = x
    unfold holdWrite
    split
    · exact ⟨rfl, .of_eq _ rfl rfl⟩
    · refine ⟨rfl, ⟨fun o ho => regGet_regSet_ne off o _ x ?_, regs_wf_regSet off _ x⟩⟩
      rintro rfl
      simp at ho

/-- What a write without counters to clear does before it acts. -/
theorem RowsWritten.plain (off : Nat) (v : Word) (s : State) (hc : clrRows off = [])
    (hw : ∀ f ∈ w1cRows off, f.off ∈ [off, (errRange off).off]) :
    RowsWritten [off, (errRange off).off] s (writeClr off v (Machine.writeRows off v (Machine.wrW1cs (w1cRows off) v s))) := by
  rw [writeClr, hc]
  exact (RowsWritten.wrW1cs _ v s hw).trans (.writeRows off v _)

/-! ## What a held write shows after VALID is set -/

/-- A field apart from the one set reads alike with held writes considered. -/
theorem fldNow_setFld_apart (f g : Field) (hf : f.fits = true) (hg : f.apart g = true) (v : Nat) (s : State)
    (h : Regs.wf s = true) : fldNow g (setFld f v s) = fldNow g s := by
  by_cases he : g.off = f.off
  · unfold fldNow regNow
    rw [setFld_heldWr]
    cases s.heldWr.reverse.find? (fun p => p.1 = g.off) with
    | none => exact fld_setFld_apart f g hf hg v s h
    | some p =>
      have hreg := fld_setFld_apart f g hf hg v s h
      simp only [fld] at hreg
      apply Nat.eq_of_testBit_eq
      intro i
      have hbit := congrArg (fun n => n.testBit i) hreg
      simp only [Field.of_testBit] at hbit ⊢
      simp only [heldWord, BitVec.toNat_or, BitVec.toNat_and, Nat.testBit_or, Nat.testBit_and]
      cases hi : decide (i < g.width) with
      | false => simp
      | true =>
        simp only [hi, Bool.true_and] at hbit ⊢
        rw [hbit]
  · unfold fldNow regNow heldWord
    simp only [setFld, regGet_regSet_ne f.off g.off _ s he, regSet_heldWr]

/-- A register apart from the field's reads alike with held writes considered. -/
theorem regNow_setFld_ne (f : Field) (off : Nat) (hne : off ≠ f.off) (v : Nat) (s : State) :
    regNow off (setFld f v s) = regNow off s := by
  unfold regNow heldWord
  simp only [setFld, regGet_regSet_ne f.off off _ s hne, regSet_heldWr]

/-! ## The bytes of a set-up -/

/-- The words of a set-up stand in its record in order. -/
theorem leAt_setupBytes (offs : List Nat) (extra : Bytes) (s : State) {i off : Nat} (h : offs[i]? = some off) :
    leAt (4 * i) 4 (setupBytes offs s ++ extra) = (regNow off s).toNat := by
  induction offs generalizing i with
  | nil => simp at h
  | cons o offs ih =>
    have hcons : setupBytes (o :: offs) s ++ extra = leBytes 4 (regNow o s).toNat ++ (setupBytes offs s ++ extra) := by
      simp [setupBytes]
    rw [hcons]
    cases i with
    | zero =>
      simp only [List.getElem?_cons_zero, Option.some.injEq] at h
      subst h
      rw [Nat.mul_zero, leAt_leBytes_append]
      exact Nat.mod_eq_of_lt (regNow o s).isLt
    | succ i =>
      have hdrop : ∀ rest : Bytes, leAt (4 * (i + 1)) 4 (leBytes 4 (regNow o s).toNat ++ rest) = leAt (4 * i) 4 rest := by
        intro rest
        have hl := leBytes_length 4 (regNow o s).toNat
        have hd : (leBytes 4 (regNow o s).toNat ++ rest).drop (4 * (i + 1)) = rest.drop (4 * i) := by
          rw [List.drop_append, hl, List.drop_eq_nil_of_le (by omega), List.nil_append]
          congr 1
        simp only [leAt, slice, hd]
      rw [hdrop]
      exact ih (by simpa using h)

/-! ## A set-up's commit -/

/-- The registers of a set-up on any part: their RW fields lie in them, and those of the register with VALID apart from
it. -/
def setupRows (valid : Field) (offs : List Nat) : Bool :=
  valid.fits && [Part.blv8128, .blv8064, .blv8032n].all (fun p => offs.all (fun off =>
    (rwRows p off).all (fun r => r.1.off == off && valid.apart r.1)))

/-- On the part at hand. -/
theorem setupRows_at {valid : Field} {offs : List Nat} (h : setupRows valid offs = true) (p : Part) {off : Nat}
    (ho : off ∈ offs) {r : Field × (Nat → Bool)} (hr : r ∈ rwRows p off) : r.1.off = off ∧ valid.apart r.1 = true := by
  simp only [setupRows, Bool.and_eq_true, List.all_cons, List.all_nil, Bool.and_true] at h
  obtain ⟨-, h1, h2, h3⟩ := h
  have key : ∀ q, offs.all (fun off => (rwRows q off).all (fun r => r.1.off == off && valid.apart r.1)) = true →
      r ∈ rwRows q off → r.1.off = off ∧ valid.apart r.1 = true := by
    intro q hq hr
    have := List.all_eq_true.mp (List.all_eq_true.mp hq off ho) r hr
    simpa using this
  cases p
  · exact key _ h1 hr
  · exact key _ h2 hr
  · exact key _ h3 hr

/-- The commit of a set-up whose fields have been written, and the end of its command. -/
theorem storesSetup_of_commit {id : Nat} {valid err : Field} {offs : List Nat} {s0 s3 s' : State} (extra : Bytes)
    (hw : RowsWritten [valid.off, (errRange valid.off).off] s0 s3) (hrows : setupRows valid offs = true)
    (hwidth : valid.width = 1) (hwf : Regs.wf s0 = true) (hf : recFails id s0 = false)
    (hc : swf (fun _ => Dual.empty) s0.nv.recs = true) (hseq : s0.nv.recs.all (fun r => seqsOk r.2) = true)
    (h : settles (commitSetup id valid err (setupBytes offs s3 ++ extra) s3) s') :
    storesSetup id valid offs s0 s' := by
  have hnv : s3.nv = s0.nv := by rw [hw.frame]
  have hpart : s3.part = s0.part := by rw [hw.frame]
  have hf3 : recFails id s3 = false := by rw [recFails, hnv]; exact hf
  have hfits : valid.fits = true := by
    simp only [setupRows, Bool.and_eq_true] at hrows
    exact hrows.1
  have hwf3 : Regs.wf s3 = true := hw.kept.wf hwf
  generalize hbs : setupBytes offs s3 ++ extra = bs at h
  have hx := recStore_eq bs hf3
  have hcommit : commitSetup id valid err bs s3 = setFld valid 1 (recStore id bs s3).1 := by
    simp only [commitSetup, recStore_ok bs hf3, Bool.false_eq_true, if_false]
  rw [hcommit] at h
  have hread := recStore_recRead (id := id) (s := s3) bs hf3 (by rw [hnv]; exact hc) (by rw [hnv]; exact hseq)
  have hget := fun i hi => recStore_recGet (id := id) (s := s3) bs hf3 (i := i) hi
  have hmem := recStore_mem (id := id) (s := s3) bs hf3
  generalize (recStore id bs s3).1 = x at *
  have hwfx : Regs.wf x = true := by rw [hx]; exact hwf3
  have hregs : s'.regs = (setFld valid 1 x).regs := settles_regs h
  have hheld : s'.heldWr = s3.heldWr := by rw [settles_heldWr h, setFld_heldWr, hx]
  have hrecs : s'.nv.recs = x.nv.recs := by rw [settles_nv h]; rfl
  have hnow : ∀ off, regNow off s' = regNow off (setFld valid 1 x) := by
    intro off
    simp only [regNow, heldWord, settles_regGet h, settles_heldWr h]
  have hnow3 : ∀ off, regNow off x = regNow off s3 := by
    intro off
    rw [hx]; rfl
  refine ⟨?_, ?_, ⟨bs, ?_, fun i off hi => ⟨fun hne => ?_, fun r hr => ?_⟩⟩, fun a => ?_, fun i hi => ?_, fun off hoff => ?_⟩
  · have e : ({ s0 with regs := s'.regs, heldWr := s'.heldWr, nv := s'.nv } : State) = setFld valid 1 x := by
      rw [hregs, hheld, settles_nv h, hx, hw.frame]
      rfl
    rw [e]
    exact h
  · rw [settles_fld h, fld_setFld_same valid hfits 1 x hwfx, hwidth]; rfl
  · rw [recRead, recGet, hrecs]
    exact hread
  · rw [← hbs, leAt_setupBytes offs extra s3 hi, hnow, regNow_setFld_ne valid off hne, hnow3]
  · obtain ⟨hro, hap⟩ := setupRows_at hrows s0.part (List.mem_of_getElem? hi) hr
    rw [← hbs, leAt_setupBytes offs extra s3 hi, BitVec.ofNat_toNat, BitVec.setWidth_eq, fldNow, hnow, ← fldNow,
      fldNow_setFld_apart valid r.1 hfits hap 1 x hwfx, fldNow, hnow3, hro]
  · rw [settles_nv h, setFld_nv, hmem, hnv]
  · have h3 : recGet i s3 = recGet i s0 := by rw [recGet, recGet, hnv]
    have hx' : recGet i s' = recGet i x := by rw [recGet, recGet, hrecs]
    rw [hx', hget i hi, h3]
  · rw [settles_regGet h, setFld, regGet_regSet_ne valid.off off _ x (fun he => hoff (by simp [he]))]
    rw [hx]
    exact hw.kept.keeps off hoff

/-- A register whose write commits a set-up: a store of `writePlain`, no counters to clear, W1C fields in it or in the
block's status register. -/
def commitReg (off : Nat) : Bool :=
  plainStore off && decide (clrRows off = []) && (w1cRows off).all (fun f => [off, (errRange off).off].contains f.off)

/-- What such a write does before it acts. -/
theorem RowsWritten.commitReg {off : Nat} (h : commitReg off = true) (v : Word) (s : State) :
    RowsWritten [off, (errRange off).off] s (writeClr off v (Machine.writeRows off v (Machine.wrW1cs (w1cRows off) v s))) := by
  simp only [Machine.commitReg, Bool.and_eq_true, decide_eq_true_eq, List.all_eq_true, List.contains_iff_mem] at h
  exact .plain off v s h.1.2 h.2

/-- Such a write. -/
theorem commitReg_plain {off : Nat} (h : commitReg off = true) : plainStore off = true := by
  simp only [commitReg, Bool.and_eq_true] at h
  exact h.1.1

/-- A commit's command, told from what its write triggers. -/
theorem setup_commits {id : Nat} {valid err : Field} {offs : List Nat} {v : Word} {s : State} (t : Nat)
    (extra : State → Bytes) (hreg : commitReg valid.off = true) (hrows : setupRows valid offs = true)
    (hwidth : valid.width = 1)
    (hacts : ∀ x, writeActs valid.off v x = commitSetup id valid err (setupBytes offs x ++ extra x) x)
    (hl : live s = true) (hi : islandOn .pcie s = true) (hm : memorySafe s) (hs : shaped s)
    (hp : 0x1600 ≤ valid.off ∧ valid.off < 0x1800 → s.part ≠ .blv8032n) (hf : recFails id s = false) :
    ∃ s', regWrite t valid.off v s = .next s' ∧ storesSetup id valid offs (written t valid.off s) s' := by
  have hweq := written_eq t valid.off s hl
  obtain ⟨-, -, -, -, hregs, hrecs⟩ := hm
  obtain ⟨-, -, -, -, -, -, -, hseq⟩ := hs
  have hwf := written_wf t valid.off s hl hregs
  have hnv : (written t valid.off s).nv = (elapse t s).nv := by rw [hweq]
  have hpart : (written t valid.off s).part = s.part := by rw [hweq]; simp
  have hfw : recFails id (written t valid.off s) = false := by rw [recFails, hnv]; simpa [recFails] using hf
  have hst := barStore_plain valid.off v (written t valid.off s) (commitReg_plain hreg) (by rw [hpart]; exact hp)
  have hrw := RowsWritten.commitReg hreg v (written t valid.off s)
  rw [writePlain, hacts] at hst
  generalize writeClr valid.off v (writeRows valid.off v (wrW1cs (w1cRows valid.off) v (written t valid.off s))) = s3 at hst hrw
  have hf3 : recFails id s3 = false := by rw [recFails, hrw.frame]; exact hfw
  have hframe : ∀ bs, (commitSetup id valid err bs s3).lgr = (written t valid.off s).lgr ∧
      (commitSetup id valid err bs s3).fold = (written t valid.off s).fold := by
    intro bs
    simp only [commitSetup, recStore_ok bs hf3, Bool.false_eq_true, if_false, setFld_lgr, setFld_fold]
    have hx := recStore_eq bs hf3
    rw [recStore_ok bs hf3] at hx
    rw [hx, hrw.frame]
    exact ⟨rfl, rfl⟩
  obtain ⟨s', hs', hset⟩ := regWrite_settles t valid.off v s hl hi (plainStore_aligned (commitReg_plain hreg))
    (by rw [hst]; exact (hframe _).1) (by rw [hst]; exact (hframe _).2)
  rw [hst] at hset
  exact ⟨s', hs', storesSetup_of_commit (extra s3) hrw hrows hwidth hwf hfw (by rw [hnv]; simpa using hrecs)
    (by rw [hnv]; simpa using hseq) hset⟩

/-- A one-bit COMMIT that is set in the word reads 1. -/
theorem of_put_one (f : Field) (hf : f.fits = true) (hw : f.width = 1) (v : Word) : f.of (f.put 1 v) = 1 := by
  rw [Field.of_put f hf, hw]; rfl

/-- A write of VRD_CTL with COMMIT and no activation commits the set-up (R266). -/
theorem writeVrdCtl_commit {v : Word} (hc : VRD_CTL.COMMIT.of v = 1) (hr : VRD_CTL.ACT_RULES.of v = 0)
    (hm : VRD_CTL.ACT_MAP.of v = 0) (s : State) :
    writeVrdCtl v s = commitSetup recVrd VRD_CTL.VALID VRD_CTL.COMMIT_ERR (setupBytes vrdSetup s) s := by
  simp [writeVrdCtl, activate, hc, hr, hm]

/-! ## Fields of a register with a write of its own -/

/-- A field of a word is below its size. -/
theorem Field.of_mod (f : Field) (w : Word) : f.of w % 2 ^ f.width = f.of w := by
  simp [Field.of]

/-- A field after its own write: in range the value written, else the value before (R9). -/
theorem fld_wrRw_same (err f : Field) (ok : Nat → Bool) (v : Word) (s : State) (hf : f.fits = true) (he : err.fits = true)
    (ha : err.apart f = true) (h : Regs.wf s = true) :
    fld f (wrRw err f ok v s) = if ok (f.of v) = true then f.of v else fld f s := by
  unfold wrRw
  split
  · rw [fld_setFld_same f hf _ s h, Field.of_mod]
  · exact fld_setFld_apart err f he ha 1 s h

/-- Another field after it. -/
theorem fld_wrRw_apart (err f g : Field) (ok : Nat → Bool) (v : Word) (s : State) (hf : f.fits = true)
    (he : err.fits = true) (ha : err.apart g = true) (hg : f.apart g = true) (h : Regs.wf s = true) :
    fld g (wrRw err f ok v s) = fld g s := by
  unfold wrRw
  split
  · exact fld_setFld_apart f g hf hg _ s h
  · exact fld_setFld_apart err g he ha 1 s h

/-- The register file after it. -/
theorem wrRw_wf (err f : Field) (ok : Nat → Bool) (v : Word) (s : State) (h : Regs.wf s = true) :
    Regs.wf (wrRw err f ok v s) = true := by
  unfold wrRw
  split <;> exact regs_wf_setFld _ _ _ h

/-- Another field after a W1C bit. -/
theorem fld_wrW1c_apart (f g : Field) (v : Word) (s : State) (hf : f.fits = true) (hg : f.apart g = true)
    (h : Regs.wf s = true) : fld g (wrW1c f v s) = fld g s := by
  unfold wrW1c
  split
  · exact fld_setFld_apart f g hf hg 0 s h
  · rfl

/-- The register file after it. -/
theorem wrW1c_wf (f : Field) (v : Word) (s : State) (h : Regs.wf s = true) : Regs.wf (wrW1c f v s) = true := by
  unfold wrW1c
  split
  · exact regs_wf_setFld _ _ _ h
  · exact h

theorem RowsWritten.wrW1c {offs : List Nat} (f : Field) (v : Word) (s : State) (hf : f.off ∈ offs) :
    RowsWritten offs s (wrW1c f v s) := RowsWritten.wrW1cs [f] v s (by simpa using hf)

/-! ## Storing fields -/

/-- A record stored after a register's fields were written, and the end of its command. -/
structure FieldsStored (id : Nat) (bs : Bytes) (offs : List Nat) (s0 s' : State) : Prop where
  settled : settles { s0 with regs := s'.regs, nv := s'.nv } s'
  read : recRead id s' = some bs
  kept : keepsRegs offs s0 s'
  others : ∀ i, i ≠ id → recGet i s' = recGet i s0
  mem : s'.nv.mem = s0.nv.mem

/-- It is what settling from the store gives, whether VALID is set after it or not. -/
theorem FieldsStored.of_settles {id : Nat} {bs : Bytes} {offs : List Nat} {s0 s1 x s' : State}
    (hw : RowsWritten offs s0 s1) (hheld : s1.heldWr = s0.heldWr) (hf : recFails id s0 = false)
    (hc : swf (fun _ => Dual.empty) s0.nv.recs = true) (hseq : s0.nv.recs.all (fun r => seqsOk r.2) = true)
    (hx : regsOnly (recStore id bs s1).1 x) (hk : keepsRegs offs (recStore id bs s1).1 x) (h : settles x s') :
    FieldsStored id bs offs s0 s' := by
  have hnv : s1.nv = s0.nv := by rw [hw.frame]
  have hf1 : recFails id s1 = false := by rw [recFails, hnv]; exact hf
  have hr := recStore_eq bs hf1
  have hread := recStore_recRead (id := id) (s := s1) bs hf1 (by rw [hnv]; exact hc) (by rw [hnv]; exact hseq)
  have hget := fun i hi => recStore_recGet (id := id) (s := s1) bs hf1 (i := i) hi
  have hmem := recStore_mem (id := id) (s := s1) bs hf1
  generalize (recStore id bs s1).1 = y at *
  have hxy : x = { y with regs := x.regs } := by
    have e := congrArg (fun z => ({ z with regs := x.regs } : State)) (show _ = y from hx)
    exact e
  have hxnv : s'.nv = y.nv := by rw [settles_nv h, hxy]
  have hrecs : ∀ i, recGet i s' = recGet i y := fun i => by rw [recGet, recGet, hxnv]
  refine ⟨?_, by rw [recRead, hrecs]; exact hread, fun off ho => ?_, fun i hi => ?_, by rw [hxnv, hmem, hnv]⟩
  · have e : ({ s0 with regs := s'.regs, nv := s'.nv } : State) = x := by
      rw [settles_regs h, hxnv, hxy, hr, hw.frame, hheld]
    rw [e]
    exact h
  · rw [settles_regGet h, hk off ho, ← hw.kept.keeps off ho]
    rw [hr]
    rfl
  · have h1 : recGet i s1 = recGet i s0 := by rw [recGet, recGet, hnv]
    rw [hrecs, hget i hi, h1]

/-- A commit whose record takes the write stores it and sets VALID. -/
theorem commitSetup_ok {id : Nat} {valid err : Field} {s : State} (bs : Bytes) (hf : recFails id s = false) :
    commitSetup id valid err bs s = setFld valid 1 (recStore id bs s).1 := by
  simp only [commitSetup, recStore_ok bs hf, Bool.false_eq_true, if_false]

/-- So does FLD_CTL.COMMIT (R169). -/
theorem commitTree_ok {s : State} (hf : recFails recTree s = false) :
    (commitTree s).1 = setFld FLD_CTL.VALID 1 (recStore recTree (treeBytes s.fold.live s.fold.retired) s).1 := by
  simp only [commitTree, recStore_ok _ hf, Bool.false_eq_true, if_false]

end Sys2Proof.Machine
end

section
/-! SUPPORT. The commits of the blocks. -/
namespace Sys2Proof.Machine

/-! ## The set-ups -/

/-- LFE_COMMIT to TMR_COMMIT store every register of their set-up. -/
theorem setups_commit (s : State) (t : Nat) (v : Word) (hl : live s = true) (hi : islandOn .pcie s = true)
    (hm : memorySafe s) (hs : shaped s) :
    (recFails recLfe s = false →
      ∃ s', exec (.lfeCommit t v) s = .next s' ∧ storesSetup recLfe LFE_CTL.VALID lfeSetup (written t LFE_CTL.reg s) s') ∧
    (recFails recUhf s = false →
      ∃ s', exec (.uhfCommit t v) s = .next s' ∧ storesSetup recUhf UHF_CTL.VALID uhfSetup (written t UHF_CTL.reg s) s') ∧
    (s.part ≠ .blv8032n → recFails recUwb s = false →
      ∃ s', exec (.uwbCommit t v) s = .next s' ∧ storesSetup recUwb UWB_CTL.VALID uwbSetup (written t UWB_CTL.reg s) s') ∧
    (VRD_CTL.ACT_RULES.of v = 0 → VRD_CTL.ACT_MAP.of v = 0 → recFails recVrd s = false →
      ∃ s', exec (.vrdCommit t v) s = .next s' ∧ storesSetup recVrd VRD_CTL.VALID vrdSetup (written t VRD_CTL.reg s) s') ∧
    (recFails recFlk s = false →
      ∃ s', exec (.flkCommit t v) s = .next s' ∧ storesSetup recFlk FLK_CTL.VALID flkSetup (written t FLK_CTL.reg s) s') ∧
    (recFails recCry s = false →
      ∃ s', exec (.cryCommit t v) s = .next s' ∧ storesSetup recCry CRY_CTL.VALID crySetup (written t CRY_CTL.reg s) s') ∧
    (recFails recTmr s = false →
      ∃ s', exec (.tmrCommit t v) s = .next s' ∧ storesSetup recTmr TMR_CTL.VALID tmrSetup (written t TMR_CTL.reg s) s') := by
  have hone : ∀ f : Field, f.fits = true → f.width = 1 → f.of (f.put 1 v) = 1 := fun f hf hw => of_put_one f hf hw v
  refine ⟨fun hf => ?_, fun hf => ?_, fun hp hf => ?_, fun hr hmp hf => ?_, fun hf => ?_, fun hf => ?_, fun hf => ?_⟩
  · have hc : LFE_CTL.COMMIT.of (LFE_CTL.COMMIT.put 1 v) = 1 := hone _ rfl rfl
    refine setup_commits (valid := LFE_CTL.VALID) (err := LFE_CTL.COMMIT_ERR) t (fun _ => []) (by decide +kernel)
      (by decide +kernel) rfl (fun x => ?_) hl hi hm hs (fun h => absurd h (by decide)) hf
    simp [writeActs, LFE_CTL.VALID, LFE_CTL.reg, hc, commitLfe]
  · have hc : UHF_CTL.COMMIT.of (UHF_CTL.COMMIT.put 1 v) = 1 := hone _ rfl rfl
    refine setup_commits (valid := UHF_CTL.VALID) (err := UHF_CTL.COMMIT_ERR) t
      (fun x => leBytes 2 x.uhf.filt ++ [byteOf x.uhf.dc]) (by decide +kernel) (by decide +kernel) rfl (fun x => ?_)
      hl hi hm hs (fun h => absurd h (by decide)) hf
    simp [writeActs, LFE_CTL.reg, FLD_CTL.reg, UHF_CTL.VALID, UHF_CTL.reg, hc, commitUhf]
  · have hc : UWB_CTL.COMMIT.of (UWB_CTL.COMMIT.put 1 v) = 1 := hone _ rfl rfl
    refine setup_commits (valid := UWB_CTL.VALID) (err := UWB_CTL.COMMIT_ERR) t
      (fun x => [byteOf (fld UWB_CAL_STAT.IRR x)]) (by decide +kernel) (by decide +kernel) rfl (fun x => ?_)
      hl hi hm hs (fun _ => hp) hf
    simp [writeActs, LFE_CTL.reg, FLD_CTL.reg, UHF_CTL.reg, UWB_CTL.VALID, UWB_CTL.reg, hc, commitUwb]
  · have hc : VRD_CTL.COMMIT.of (VRD_CTL.COMMIT.put 1 v) = 1 := hone _ rfl rfl
    have h1 : VRD_CTL.ACT_RULES.of (VRD_CTL.COMMIT.put 1 v) = 0 :=
      (Field.of_put_apart _ _ rfl (by decide) 1 v).trans hr
    have h2 : VRD_CTL.ACT_MAP.of (VRD_CTL.COMMIT.put 1 v) = 0 :=
      (Field.of_put_apart _ _ rfl (by decide) 1 v).trans hmp
    refine setup_commits (valid := VRD_CTL.VALID) (err := VRD_CTL.COMMIT_ERR) t (fun _ => []) (by decide +kernel)
      (by decide +kernel) rfl (fun x => ?_) hl hi hm hs (fun h => absurd h (by decide)) hf
    rw [List.append_nil, ← writeVrdCtl_commit hc h1 h2]
    rfl
  · have hc : FLK_CTL.COMMIT.of (FLK_CTL.COMMIT.put 1 v) = 1 := hone _ rfl rfl
    refine setup_commits (valid := FLK_CTL.VALID) (err := FLK_CTL.COMMIT_ERR) t (fun _ => []) (by decide +kernel)
      (by decide +kernel) rfl (fun x => ?_) hl hi hm hs (fun h => absurd h (by decide)) hf
    simp [writeActs, LFE_CTL.reg, FLD_CTL.reg, UHF_CTL.reg, UWB_CTL.reg, VRD_CTL.reg, FLK_CTL.VALID, FLK_CTL.reg, hc]
  · have hc : CRY_CTL.COMMIT.of (CRY_CTL.COMMIT.put 1 v) = 1 := hone _ rfl rfl
    refine setup_commits (valid := CRY_CTL.VALID) (err := CRY_CTL.COMMIT_ERR) t (fun _ => []) (by decide +kernel)
      (by decide +kernel) rfl (fun x => ?_) hl hi hm hs (fun h => absurd h (by decide)) hf
    simp [writeActs, LFE_CTL.reg, FLD_CTL.reg, UHF_CTL.reg, UWB_CTL.reg, VRD_CTL.reg, FLK_CTL.reg, FLK_START_CTL.reg,
      CRY_CTL.VALID, CRY_CTL.reg, hc]
  · have hc : TMR_CTL.COMMIT.of (TMR_CTL.COMMIT.put 1 v) = 1 := hone _ rfl rfl
    refine setup_commits (valid := TMR_CTL.VALID) (err := TMR_CTL.COMMIT_ERR) t (fun _ => []) (by decide +kernel)
      (by decide +kernel) rfl (fun x => ?_) hl hi hm hs (fun h => absurd h (by decide)) hf
    simp [writeActs, LFE_CTL.reg, FLD_CTL.reg, UHF_CTL.reg, UWB_CTL.reg, VRD_CTL.reg, FLK_CTL.reg, FLK_START_CTL.reg,
      CRY_CTL.reg, TMR_CTL.VALID, TMR_CTL.reg, hc]

/-! ## Field by field -/

/-- What a write starts from on a live device, beside its wake-up: the NV store at the tick. -/
theorem written_nv (t off : Nat) {s : State} (hl : live s = true) : (written t off s).nv = (elapse t s).nv := by
  rw [written_eq t off s hl]

/-- And every register but PWR_STATUS. -/
theorem written_regGet (t off : Nat) {s : State} (hl : live s = true) {o : Nat} (ho : o ≠ PWR_STATUS.reg) :
    regGet o (written t off s) = regGet o s := by
  have he : (elapse t s).pwr.entering = none := by simpa using live_entering hl
  have hset : ∀ x : State, regGet o (setSrc 0x0C (setPState .run x)) = regGet o x := by
    intro x
    have hst : regGet o (setPState .run x) = regGet o x := regGet_regSet_ne _ o _ _ ho
    unfold setSrc
    rw [if_neg (by decide)]
    split
    · exact (regGet_regSet_ne _ o _ _ ho).trans hst
    · exact (regGet_regSet_ne _ o _ _ ho).trans hst
  have hw : regGet o (written t off s) = regGet o (tlpWake (elapse t s)) := rfl
  rw [hw]
  rcases tlpWake_cases _ he with h | h <;> rw [h]
  · exact elapse_regGet o t s
  · rw [hset, elapse_regGet]

/-- Its fields likewise. -/
theorem written_fld (t off : Nat) {s : State} (hl : live s = true) (f : Field) (hf : f.off ≠ PWR_STATUS.reg) :
    fld f (written t off s) = fld f s := by
  rw [fld, written_regGet t off hl hf, fld]

/-- The stores of `FieldsStored` from the state of a write. -/
theorem FieldsStored.of_written {id : Nat} {bs : Bytes} {offs : List Nat} {t off : Nat} {s s1 x s' : State}
    (hl : live s = true) (hm : memorySafe s) (hs : shaped s) (hf : recFails id s = false)
    (hw : RowsWritten offs (written t off s) s1) (hheld : s1.heldWr = (written t off s).heldWr)
    (hx : regsOnly (recStore id bs s1).1 x) (hk : keepsRegs offs (recStore id bs s1).1 x) (h : settles x s') :
    FieldsStored id bs offs (written t off s) s' := by
  obtain ⟨-, -, -, -, -, hrecs⟩ := hm
  obtain ⟨-, -, -, -, -, -, -, hseq⟩ := hs
  have hnv := written_nv t off hl
  refine .of_settles hw hheld ?_ (by rw [hnv]; simpa using hrecs) (by rw [hnv]; simpa using hseq) hx hk h
  rw [recFails, hnv]
  simpa [recFails] using hf

/-- After a commit the fields apart from VALID read as they were written. -/
theorem fld_commitSetup_apart {id : Nat} {valid err g : Field} {s : State} (bs : Bytes) (hf : recFails id s = false)
    (hv : valid.fits = true) (hg : valid.apart g = true) (h : Regs.wf s = true) :
    fld g (commitSetup id valid err bs s) = fld g s := by
  rw [commitSetup_ok bs hf]
  have hx := recStore_eq bs hf
  generalize (recStore id bs s).1 = x at hx
  rw [fld_setFld_apart valid g hv hg 1 x (by rw [hx]; exact h), hx]
  rfl

/-- And VALID reads 1. -/
theorem fld_commitSetup_valid {id : Nat} {valid err : Field} {s : State} (bs : Bytes) (hf : recFails id s = false)
    (hv : valid.fits = true) (hw : valid.width = 1) (h : Regs.wf s = true) :
    fld valid (commitSetup id valid err bs s) = 1 := by
  rw [commitSetup_ok bs hf]
  have hx := recStore_eq bs hf
  generalize (recStore id bs s).1 = x at hx
  rw [fld_setFld_same valid hv 1 x (by rw [hx]; exact h), hw]
  rfl

/-- A commit leaves the ledger and the fold engine alone. -/
theorem commitSetup_frame {id : Nat} {valid err : Field} {s : State} (bs : Bytes) (hf : recFails id s = false) :
    (commitSetup id valid err bs s).lgr = s.lgr ∧ (commitSetup id valid err bs s).fold = s.fold := by
  rw [commitSetup_ok bs hf]
  have hx := recStore_eq bs hf
  generalize (recStore id bs s).1 = x at hx
  rw [hx]
  exact ⟨rfl, rfl⟩

/-- The command of a register with a store of its own that writes fields and commits them. -/
theorem fields_commit {id : Nat} {valid err : Field} {offs : List Nat} {v : Word} {s : State} {s1 : State} (t : Nat) (bs : Bytes)
    (hl : live s = true) (hi : islandOn .pcie s = true) (hm : memorySafe s) (hs : shaped s) (hf : recFails id s = false)
    (ha : valid.off % 4 = 0) (hv : valid.fits = true) (hwidth : valid.width = 1) (hoff : valid.off ∈ offs)
    (hw : RowsWritten offs (written t valid.off s) s1) (hheld : s1.heldWr = (written t valid.off s).heldWr)
    (hst : barStore valid.off v (written t valid.off s) = commitSetup id valid err bs s1) :
    ∃ s', regWrite t valid.off v s = .next s' ∧ FieldsStored id bs offs (written t valid.off s) s' ∧ fld valid s' = 1 ∧
      ∀ g : Field, valid.apart g = true → fld g s' = fld g s1 := by
  have hwf1 : Regs.wf s1 = true := by
    obtain ⟨-, -, -, -, hregs, -⟩ := hm
    exact hw.kept.wf (written_wf t valid.off s hl hregs)
  have hf1 : recFails id s1 = false := by
    rw [recFails, hw.frame]
    show recFails id (written t valid.off s) = false
    rw [recFails, written_nv t valid.off hl]
    simpa [recFails] using hf
  obtain ⟨hlgr, hfold⟩ := commitSetup_frame (valid := valid) (err := err) bs hf1
  obtain ⟨s', hs', hset⟩ := regWrite_settles t valid.off v s hl hi ha
    (by rw [hst, hlgr, hw.frame]) (by rw [hst, hfold, hw.frame])
  rw [hst] at hset
  refine ⟨s', hs', ?_, ?_, fun g hg => ?_⟩
  · rw [commitSetup_ok bs hf1] at hset
    exact .of_written hl hm hs hf hw hheld (regsOnly_setFld valid 1 _)
      (RegsKept.setFld valid 1 _ hoff).keeps hset
  · rw [settles_fld hset]
    exact fld_commitSetup_valid bs hf1 hv hwidth hwf1
  · rw [settles_fld hset]
    exact fld_commitSetup_apart bs hf1 hv hg hwf1

/-- A range of values, as a proposition. -/
theorem inRange_iff (lo hi x : Nat) : inRange lo hi x = true ↔ lo ≤ x ∧ x ≤ hi := by
  simp [inRange]

/-- What LGR_COMMIT writes before it stores (R387). -/
def lgrFields (v : Word) (s : State) : State :=
  wrW1c LGR_CTL.COMMIT_ERR v (wrRw LGR_STATUS.ERR_RANGE LGR_CTL.SEAL_S (inRange 1 3600) v
    (wrRw LGR_STATUS.ERR_RANGE LGR_CTL.FULL_WARN (inRange 50 99) v (wrRw LGR_STATUS.ERR_RANGE LGR_CTL.EVT anyVal v s)))

/-- The fields it leaves. -/
theorem lgrFields_fld (v : Word) (s : State) (h : Regs.wf s = true) :
    fld LGR_CTL.EVT (lgrFields v s) = LGR_CTL.EVT.of v ∧
    fld LGR_CTL.FULL_WARN (lgrFields v s) = (if inRange 50 99 (LGR_CTL.FULL_WARN.of v) = true then LGR_CTL.FULL_WARN.of v
      else fld LGR_CTL.FULL_WARN s) ∧
    fld LGR_CTL.SEAL_S (lgrFields v s) = (if inRange 1 3600 (LGR_CTL.SEAL_S.of v) = true then LGR_CTL.SEAL_S.of v
      else fld LGR_CTL.SEAL_S s) := by
  have h1 := wrRw_wf LGR_STATUS.ERR_RANGE LGR_CTL.EVT anyVal v s h
  have h2 := wrRw_wf LGR_STATUS.ERR_RANGE LGR_CTL.FULL_WARN (inRange 50 99) v _ h1
  have h3 := wrRw_wf LGR_STATUS.ERR_RANGE LGR_CTL.SEAL_S (inRange 1 3600) v _ h2
  unfold lgrFields
  refine ⟨?_, ?_, ?_⟩
  · rw [fld_wrW1c_apart _ _ v _ rfl rfl h3, fld_wrRw_apart _ _ _ _ v _ rfl rfl rfl rfl h2,
      fld_wrRw_apart _ _ _ _ v _ rfl rfl rfl rfl h1, fld_wrRw_same _ _ _ v _ rfl rfl rfl h]
    rfl
  · rw [fld_wrW1c_apart _ _ v _ rfl rfl h3, fld_wrRw_apart _ _ _ _ v _ rfl rfl rfl rfl h2,
      fld_wrRw_same _ _ _ v _ rfl rfl rfl h1, fld_wrRw_apart _ _ _ _ v _ rfl rfl rfl rfl h]
  · rw [fld_wrW1c_apart _ _ v _ rfl rfl h3, fld_wrRw_same _ _ _ v _ rfl rfl rfl h2,
      fld_wrRw_apart _ _ _ _ v _ rfl rfl rfl rfl h1, fld_wrRw_apart _ _ _ _ v _ rfl rfl rfl rfl h]

/-- It writes the block's two registers. -/
theorem lgrFields_written (v : Word) (s : State) : RowsWritten [LGR_CTL.reg, LGR_STATUS.reg] s (lgrFields v s) :=
  (RowsWritten.wrRw _ _ _ v s (by decide) (by decide)).trans ((RowsWritten.wrRw _ _ _ v _ (by decide) (by decide)).trans
    ((RowsWritten.wrRw _ _ _ v _ (by decide) (by decide)).trans (.wrW1c _ v _ (by decide))))

/-- An RW field's write holds nothing back. -/
theorem wrRw_heldWr (err f : Field) (ok : Nat → Bool) (v : Word) (s : State) : (wrRw err f ok v s).heldWr = s.heldWr := by
  unfold wrRw
  split <;> rfl

/-- Nor does a W1C bit's. -/
theorem wrW1c_heldWr (f : Field) (v : Word) (s : State) : (wrW1c f v s).heldWr = s.heldWr := by
  unfold wrW1c
  split <;> rfl

/-- LGR_COMMIT takes each field in range, and stores the block's fields (R387). -/
theorem lgr_commits (s : State) (t : Nat) (v : Word) (hl : live s = true) (hi : islandOn .pcie s = true)
    (hm : memorySafe s) (hs : shaped s) (hf : recFails recLgr s = false) :
    ∃ s', exec (.lgrCommit t v) s = .next s' ∧
      settles { written t LGR_CTL.reg s with regs := s'.regs, nv := s'.nv } s' ∧ fld LGR_CTL.VALID s' = 1 ∧
      fld LGR_CTL.EVT s' = LGR_CTL.EVT.of v ∧
      fld LGR_CTL.FULL_WARN s' = (if 50 ≤ LGR_CTL.FULL_WARN.of v ∧ LGR_CTL.FULL_WARN.of v ≤ 99 then LGR_CTL.FULL_WARN.of v
        else fld LGR_CTL.FULL_WARN s) ∧
      fld LGR_CTL.SEAL_S s' = (if 1 ≤ LGR_CTL.SEAL_S.of v ∧ LGR_CTL.SEAL_S.of v ≤ 3600 then LGR_CTL.SEAL_S.of v
        else fld LGR_CTL.SEAL_S s) ∧
      recRead recLgr s' = some ([byteOf (fld LGR_CTL.EVT s'), byteOf (fld LGR_CTL.FULL_WARN s')]
        ++ leBytes 2 (fld LGR_CTL.SEAL_S s')) ∧
      keepsRegs [LGR_CTL.reg, LGR_STATUS.reg] (written t LGR_CTL.reg s) s' := by
  generalize hv' : LGR_CTL.COMMIT.put 1 v = v'
  have hof : ∀ g : Field, (LGR_CTL.COMMIT.lo + LGR_CTL.COMMIT.width ≤ g.lo ∨ g.lo + g.width ≤ LGR_CTL.COMMIT.lo) →
      g.of v' = g.of v := fun g hg => by rw [← hv']; exact Field.of_put_apart _ g rfl hg 1 v
  have hc : LGR_CTL.COMMIT.of v' = 1 := by rw [← hv']; exact of_put_one _ rfl rfl v
  have hwf : Regs.wf (written t LGR_CTL.reg s) = true := by
    obtain ⟨-, -, -, -, hregs, -⟩ := hm
    exact written_wf t _ s hl hregs
  generalize hs1 : lgrFields v' (written t LGR_CTL.reg s) = s1
  obtain ⟨hevt, hwarn, hseal⟩ := lgrFields_fld v' (written t LGR_CTL.reg s) hwf
  rw [hs1] at hevt hwarn hseal
  obtain ⟨s', hs', hst, hvalid, hfld⟩ := fields_commit (id := recLgr) (valid := LGR_CTL.VALID) (err := LGR_CTL.COMMIT_ERR)
    (offs := [LGR_CTL.reg, LGR_STATUS.reg]) (v := v') (s1 := s1) t
    ([byteOf (fld LGR_CTL.EVT s1), byteOf (fld LGR_CTL.FULL_WARN s1)] ++ leBytes 2 (fld LGR_CTL.SEAL_S s1)) hl hi hm hs hf
    rfl rfl rfl (by decide) (by rw [← hs1]; exact lgrFields_written v' _)
    (by rw [← hs1, lgrFields, wrW1c_heldWr, wrRw_heldWr, wrRw_heldWr, wrRw_heldWr]; rfl)
    (by
      have h1 : barStore LGR_CTL.VALID.off v' (written t LGR_CTL.VALID.off s) = writeLgrCtl v' (written t LGR_CTL.reg s) := rfl
      rw [h1, writeLgrCtl, if_pos hc, ← hs1]
      rfl)
  refine ⟨s', by rw [← hs', ← hv']; rfl, hst.settled, hvalid, ?_, ?_, ?_, ?_, hst.kept⟩
  · rw [hfld _ rfl, hevt, hof _ (by decide)]
  · rw [hfld _ rfl, hwarn, hof _ (by decide), written_fld t _ hl _ (by decide)]
    simp only [inRange_iff]
  · rw [hfld _ rfl, hseal, hof _ (by decide), written_fld t _ hl _ (by decide)]
    simp only [inRange_iff]
  · rw [hfld _ rfl, hfld _ rfl, hfld _ rfl]
    exact hst.read

/-- LCY_COMMIT likewise (R426). -/
theorem lcy_commits (s : State) (t : Nat) (v : Word) (hl : live s = true) (hi : islandOn .pcie s = true)
    (hm : memorySafe s) (hs : shaped s) (hf : recFails recLcy s = false) :
    ∃ s', exec (.lcyCommit t v) s = .next s' ∧
      settles { written t LCY_CTL.reg s with regs := s'.regs, nv := s'.nv } s' ∧ fld LCY_CTL.VALID s' = 1 ∧
      fld LCY_CTL.SVC_MAX s' = (if 1 ≤ LCY_CTL.SVC_MAX.of v ∧ LCY_CTL.SVC_MAX.of v ≤ 1440 then LCY_CTL.SVC_MAX.of v
        else fld LCY_CTL.SVC_MAX s) ∧
      recRead recLcy s' = some (leBytes 2 (fld LCY_CTL.SVC_MAX s')) ∧
      keepsRegs [LCY_CTL.reg, LCY_STATUS.reg] (written t LCY_CTL.reg s) s' := by
  generalize hv' : LCY_CTL.COMMIT.put 1 v = v'
  have hof : LCY_CTL.SVC_MAX.of v' = LCY_CTL.SVC_MAX.of v := by
    rw [← hv']; exact Field.of_put_apart _ _ rfl (by decide) 1 v
  have hc : LCY_CTL.COMMIT.of v' = 1 := by rw [← hv']; exact of_put_one _ rfl rfl v
  have hwf : Regs.wf (written t LCY_CTL.reg s) = true := by
    obtain ⟨-, -, -, -, hregs, -⟩ := hm
    exact written_wf t _ s hl hregs
  generalize hs1 : wrW1c LCY_CTL.COMMIT_ERR v' (wrRw LCY_STATUS.ERR_RANGE LCY_CTL.SVC_MAX (inRange 1 1440) v'
    (written t LCY_CTL.reg s)) = s1
  have hmax : fld LCY_CTL.SVC_MAX s1 = (if inRange 1 1440 (LCY_CTL.SVC_MAX.of v') = true then LCY_CTL.SVC_MAX.of v'
      else fld LCY_CTL.SVC_MAX (written t LCY_CTL.reg s)) := by
    rw [← hs1, fld_wrW1c_apart _ _ v' _ rfl rfl (wrRw_wf _ _ _ v' _ hwf), fld_wrRw_same _ _ _ v' _ rfl rfl rfl hwf]
  obtain ⟨s', hs', hst, hvalid, hfld⟩ := fields_commit (id := recLcy) (valid := LCY_CTL.VALID) (err := LCY_CTL.COMMIT_ERR)
    (offs := [LCY_CTL.reg, LCY_STATUS.reg]) (v := v') (s1 := s1) t (lcyBytes s1) hl hi hm hs hf
    rfl rfl rfl (by decide)
    (by rw [← hs1]; exact (RowsWritten.wrRw _ _ _ v' _ (by decide) (by decide)).trans (.wrW1c _ v' _ (by decide)))
    (by rw [← hs1, wrW1c_heldWr, wrRw_heldWr]; rfl)
    (by
      have h1 : barStore LCY_CTL.VALID.off v' (written t LCY_CTL.VALID.off s) = writeLcyCtl v' (written t LCY_CTL.reg s) := rfl
      rw [h1, writeLcyCtl, if_pos hc, ← hs1])
  refine ⟨s', by rw [← hs', ← hv']; rfl, hst.settled, hvalid, ?_, ?_, hst.kept⟩
  · rw [hfld _ rfl, hmax, hof, written_fld t _ hl _ (by decide)]
    simp only [inRange_iff]
  · rw [hfld _ rfl]
    exact hst.read

end Sys2Proof.Machine
end

section
/-! SUPPORT. FLD_COMMIT and MON_CTL_WRITE, and the statement about commits. -/
namespace Sys2Proof.Machine

/-! ## The word of a plain write -/

/-- Fields that share a word and no bit of it. -/
def disjointFields (f g : Field) : Prop := f.lo + f.width ≤ g.lo ∨ g.lo + g.width ≤ f.lo

/-- A field apart from every row keeps its value. -/
theorem of_rowsWord_apart (rows : Rows) (v w : Word) (g : Field) (hf : ∀ r ∈ rows, r.1.fits = true)
    (hg : ∀ r ∈ rows, disjointFields r.1 g) : g.of (rowsWord rows v w) = g.of w := by
  induction rows generalizing w with
  | nil => rfl
  | cons r rows ih =>
    have hcons : rowsWord (r :: rows) v w = rowsWord rows v (if r.2 (r.1.of v) then r.1.put (r.1.of v) w else w) := rfl
    rw [hcons, ih _ (fun x hx => hf x (List.mem_cons_of_mem r hx)) (fun x hx => hg x (List.mem_cons_of_mem r hx))]
    split
    · exact Field.of_put_apart r.1 g (hf r List.mem_cons_self) (hg r List.mem_cons_self) _ w
    · rfl

/-- A row's field takes the value written where it is in range (R9). -/
theorem of_rowsWord_mem (rows : Rows) (v w : Word) (hf : ∀ r ∈ rows, r.1.fits = true)
    (hd : rows.Pairwise (fun a b => disjointFields a.1 b.1)) {r : Field × (Nat → Bool)} (hr : r ∈ rows) :
    r.1.of (rowsWord rows v w) = if r.2 (r.1.of v) = true then r.1.of v else r.1.of w := by
  induction rows generalizing w with
  | nil => exact absurd hr List.not_mem_nil
  | cons a rows ih =>
    have hcons : rowsWord (a :: rows) v w = rowsWord rows v (if a.2 (a.1.of v) then a.1.put (a.1.of v) w else w) := rfl
    have hf' := fun x hx => hf x (List.mem_cons_of_mem a hx)
    obtain ⟨ha, hd'⟩ := List.pairwise_cons.mp hd
    rw [hcons]
    rcases List.mem_cons.mp hr with rfl | hr
    · rw [of_rowsWord_apart rows v _ r.1 hf' (fun x hx => (ha x hx).symm)]
      split
      · rw [Field.of_put r.1 (hf r List.mem_cons_self), Field.of_mod]
      · rfl
    · rw [ih _ hf' hd' hr]
      congr 1
      split
      · exact Field.of_put_apart a.1 r.1 (hf a List.mem_cons_self) (ha r hr) _ w
      · rfl

/-- A write that no operation holds back goes to the register. -/
theorem writeRows_free (off : Nat) (v : Word) (s : State) (hfree : ∀ x, held off x = false) (hrows : rwRows s.part off ≠ []) :
    ∃ x, (x = s ∨ x = setFld (errRange off) 1 s) ∧
      writeRows off v s = regSet off (rowsWord (rwRows s.part off) v (regNow off x)) x := by
  have he : (rwRows s.part off).isEmpty = false := by simpa using hrows
  refine ⟨if rowsBad (rwRows s.part off) v = true then setFld (errRange off) 1 s else s, ?_, ?_⟩
  · split
    · exact .inr rfl
    · exact .inl rfl
  · simp only [writeRows, he, Bool.false_eq_true, if_false, holdWrite, hfree]

/-- W1C bits hold no write back. -/
theorem wrW1cs_heldWr (fs : List Field) (v : Word) (s : State) : (wrW1cs fs v s).heldWr = s.heldWr := by
  induction fs generalizing s with
  | nil => rfl
  | cons f fs ih => exact (ih (wrW1c f v s)).trans (wrW1c_heldWr f v s)

/-- Nor does a free write. -/
theorem writeRows_free_heldWr (off : Nat) (v : Word) (s : State) (hfree : ∀ x, held off x = false) :
    (writeRows off v s).heldWr = s.heldWr := by
  by_cases hrows : rwRows s.part off = []
  · simp [writeRows, hrows]
  · obtain ⟨x, hx, hw⟩ := writeRows_free off v s hfree hrows
    rw [hw]
    rcases hx with rfl | rfl <;> rfl

/-! ## FLD_COMMIT -/

/-- FLD_CTL.COMMIT alone commits the tree (R169). -/
theorem writeFldCtl_commit {v : Word} (hc : FLD_CTL.COMMIT.of v = 1) (ha : FLD_CTL.APPLY.of v = 0)
    (hd : FLD_CTL.DISCARD.of v = 0) {s : State} (hf : recFails recTree s = false) :
    writeFldCtl v s = commitSetup recTree FLD_CTL.VALID FLD_CTL.COMMIT_ERR (treeBytes s.fold.live s.fold.retired) s := by
  rw [commitSetup_ok _ hf, ← commitTree_ok hf]
  simp [writeFldCtl, hc, ha, hd]

/-- What a write of FLD_CTL does before it acts. -/
def fldFields (v : Word) (s : State) : State :=
  writeClr FLD_CTL.reg v (writeRows FLD_CTL.reg v (wrW1cs (w1cRows FLD_CTL.reg) v s))

/-- It writes the block's two registers. -/
theorem fldFields_written (v : Word) (s : State) : RowsWritten [FLD_CTL.reg, FLD_STATUS.reg] s (fldFields v s) :=
  RowsWritten.commitReg (off := FLD_CTL.reg) (by decide +kernel) v s

/-- And holds nothing back. -/
theorem fldFields_heldWr (v : Word) (s : State) : (fldFields v s).heldWr = s.heldWr := by
  have h := writeRows_free_heldWr FLD_CTL.reg v (wrW1cs (w1cRows FLD_CTL.reg) v s) (fun _ => rfl)
  rw [wrW1cs_heldWr] at h
  exact h

/-- The store of a write to FLD_CTL. -/
theorem barStore_fld (v : Word) (s : State) : barStore FLD_CTL.reg v s = writeFldCtl v (fldFields v s) :=
  barStore_plain FLD_CTL.reg v s (by decide +kernel) (fun h => absurd h (by decide))

/-- FLD_COMMIT stores the live tree and the retirement state (R169). -/
theorem fld_commits (s : State) (t : Nat) (v : Word) (hl : live s = true) (hi : islandOn .pcie s = true)
    (hm : memorySafe s) (hs : shaped s) (ha : FLD_CTL.APPLY.of v = 0) (hd : FLD_CTL.DISCARD.of v = 0)
    (hf : recFails recTree s = false) :
    ∃ s', exec (.fldCommit t v) s = .next s' ∧ fld FLD_CTL.VALID s' = 1 ∧
      recRead recTree s' = some (treeBytes s.fold.live s.fold.retired) ∧
      settles { written t FLD_CTL.reg s with regs := s'.regs, nv := s'.nv } s' ∧
      keepsRegs [FLD_CTL.reg, FLD_STATUS.reg] (written t FLD_CTL.reg s) s' ∧
      (∀ id, id ≠ recTree → recGet id s' = recGet id s) ∧ (∀ a, mget nvDflt s'.nv.mem a = mget nvDflt s.nv.mem a) := by
  generalize hv' : FLD_CTL.COMMIT.put 1 v = v'
  have ha' : FLD_CTL.APPLY.of v' = 0 := by rw [← hv', Field.of_put_apart _ _ rfl (by decide)]; exact ha
  have hd' : FLD_CTL.DISCARD.of v' = 0 := by rw [← hv', Field.of_put_apart _ _ rfl (by decide)]; exact hd
  have hc : FLD_CTL.COMMIT.of v' = 1 := by rw [← hv']; exact of_put_one _ rfl rfl v
  have hnv := written_nv t FLD_CTL.reg hl
  have hrw := fldFields_written v' (written t FLD_CTL.reg s)
  have hheld := fldFields_heldWr v' (written t FLD_CTL.reg s)
  have hst := barStore_fld v' (written t FLD_CTL.reg s)
  generalize fldFields v' (written t FLD_CTL.reg s) = s1 at hrw hheld hst
  have hf1 : recFails recTree s1 = false := by
    rw [recFails, hrw.frame]
    show recFails recTree (written t FLD_CTL.reg s) = false
    rw [recFails, hnv]
    simpa [recFails] using hf
  have hfold : s1.fold = s.fold := by rw [hrw.frame, written_eq t _ s hl]; simp
  obtain ⟨s', hs', hstored, hvalid, -⟩ := fields_commit (id := recTree) (valid := FLD_CTL.VALID) (err := FLD_CTL.COMMIT_ERR)
    (offs := [FLD_CTL.reg, FLD_STATUS.reg]) (v := v') (s1 := s1) t (treeBytes s.fold.live s.fold.retired) hl hi hm hs hf
    rfl rfl rfl (by decide) hrw hheld (by
      have := hst.trans (writeFldCtl_commit hc ha' hd' hf1)
      rw [hfold] at this
      exact this)
  refine ⟨s', by rw [← hs', ← hv']; rfl, hvalid, hstored.read, hstored.settled, hstored.kept, fun id hid => ?_, fun a => ?_⟩
  · have h0 : recGet id (written t FLD_CTL.reg s) = recGet id s := by rw [recGet, recGet, hnv, elapse_nv_recs]
    exact (hstored.others id hid).trans h0
  · have h0 : (written t FLD_CTL.reg s).nv.mem = s.nv.mem := by rw [hnv, elapse_nv_mem]
    rw [hstored.mem]
    exact congrArg (fun m => mget nvDflt m a) h0

/-! ## MON_CTL_WRITE -/

/-- What a write of MON_CTL does before it stores. -/
def monFields (v : Word) (s : State) : State :=
  writeClr MON_CTL.reg v (writeRows MON_CTL.reg v (wrW1cs (w1cRows MON_CTL.reg) v s))

/-- It writes the block's two registers. -/
theorem monFields_written (v : Word) (s : State) : RowsWritten [MON_CTL.reg, MON_STATUS.reg] s (monFields v s) :=
  RowsWritten.commitReg (off := MON_CTL.reg) (by decide +kernel) v s

/-- And holds nothing back. -/
theorem monFields_heldWr (v : Word) (s : State) : (monFields v s).heldWr = s.heldWr := by
  have h := writeRows_free_heldWr MON_CTL.reg v (wrW1cs (w1cRows MON_CTL.reg) v s) (fun _ => rfl)
  rw [wrW1cs_heldWr] at h
  exact h

/-- The store of a write to MON_CTL. -/
theorem barStore_mon (v : Word) (s : State) : barStore MON_CTL.reg v s = storeMon (monFields v s) :=
  barStore_plain MON_CTL.reg v s (by decide +kernel) (fun h => absurd h (by decide))

/-- Its rows (R426). -/
theorem rwRows_mon (p : Part) : rwRows p MON_CTL.reg =
    [(MON_CTL.BAUD, inRange 0 6), (MON_CTL.IDLE_S, inRange 10 3600), (MON_CTL.EVT_ECHO, anyVal)] := by
  cases p <;> rfl

/-- A register reads as it is held while nothing is held back. -/
theorem regNow_free (off : Nat) {s : State} (h : s.heldWr = []) : regNow off s = regGet off s := by
  simp [regNow, h]

/-- Each field after the write. -/
theorem monFields_fld (v : Word) (s : State) (h : Regs.wf s = true) (hh : s.heldWr = []) {r : Field × (Nat → Bool)}
    (hr : r ∈ [(MON_CTL.BAUD, inRange 0 6), (MON_CTL.IDLE_S, inRange 10 3600), (MON_CTL.EVT_ECHO, anyVal)]) :
    fld r.1 (monFields v s) = if r.2 (r.1.of v) = true then r.1.of v else fld r.1 s := by
  have hw1c : wrW1cs (w1cRows MON_CTL.reg) v s = s := rfl
  obtain ⟨x, hx, hw⟩ := writeRows_free MON_CTL.reg v s (fun _ => rfl) (by rw [rwRows_mon]; simp)
  have hxw : Regs.wf x = true := by
    rcases hx with rfl | rfl
    · exact h
    · exact regs_wf_setFld _ _ _ h
  have hxh : x.heldWr = [] := by rcases hx with rfl | rfl <;> exact hh
  have hxg : regGet MON_CTL.reg x = regGet MON_CTL.reg s := by
    rcases hx with rfl | rfl
    · rfl
    · exact regGet_regSet_ne _ _ _ _ (by decide)
  have hoff : r.1.off = MON_CTL.reg := by
    simp only [List.mem_cons, List.not_mem_nil, or_false] at hr
    rcases hr with rfl | rfl | rfl <;> rfl
  have hfields : monFields v s = regSet MON_CTL.reg (rowsWord (rwRows s.part MON_CTL.reg) v (regNow MON_CTL.reg x)) x := by
    rw [monFields, hw1c, hw]
    rfl
  rw [hfields, fld, hoff, regGet_regSet_same _ _ _ hxw, rwRows_mon, regNow_free _ hxh, hxg,
    of_rowsWord_mem _ v _ ?_ ?_ hr, fld, hoff]
  · intro a ha
    simp only [List.mem_cons, List.not_mem_nil, or_false] at ha
    rcases ha with rfl | rfl | rfl <;> rfl
  · simp [disjointFields, MON_CTL.BAUD, MON_CTL.IDLE_S, MON_CTL.EVT_ECHO]

/-- MON_CTL_WRITE takes each field in range, and stores the register (R426). -/
theorem monCtl_writes (s : State) (t : Nat) (v : Word) (hl : live s = true) (hi : islandOn .pcie s = true)
    (hm : memorySafe s) (hs : shaped s) (hf : recFails recMon s = false) (hh : s.heldWr = []) :
    ∃ s', exec (.monCtlWrite t v) s = .next s' ∧
      settles { written t MON_CTL.reg s with regs := s'.regs, nv := s'.nv } s' ∧
      fld MON_CTL.BAUD s' = (if MON_CTL.BAUD.of v ≤ 6 then MON_CTL.BAUD.of v else fld MON_CTL.BAUD s) ∧
      fld MON_CTL.IDLE_S s' = (if 10 ≤ MON_CTL.IDLE_S.of v ∧ MON_CTL.IDLE_S.of v ≤ 3600 then MON_CTL.IDLE_S.of v
        else fld MON_CTL.IDLE_S s) ∧
      fld MON_CTL.EVT_ECHO s' = MON_CTL.EVT_ECHO.of v ∧
      recRead recMon s' = some (leBytes 4 (regGet MON_CTL.reg s').toNat) ∧
      keepsRegs [MON_CTL.reg, MON_STATUS.reg] (written t MON_CTL.reg s) s' := by
  have hweq := written_eq t MON_CTL.reg s hl
  have hwf : Regs.wf (written t MON_CTL.reg s) = true := by
    obtain ⟨-, -, -, -, hregs, -⟩ := hm
    exact written_wf t _ s hl hregs
  have hwh : (written t MON_CTL.reg s).heldWr = [] := by rw [hweq]; simpa using hh
  have hrw := monFields_written v (written t MON_CTL.reg s)
  have hheld := monFields_heldWr v (written t MON_CTL.reg s)
  have hst := barStore_mon v (written t MON_CTL.reg s)
  have hfld := fun r hr => monFields_fld v (written t MON_CTL.reg s) hwf hwh (r := r) hr
  generalize monFields v (written t MON_CTL.reg s) = s1 at hrw hheld hst hfld
  have hf1 : recFails recMon s1 = false := by
    rw [recFails, hrw.frame]
    show recFails recMon (written t MON_CTL.reg s) = false
    rw [recFails, written_nv t _ hl]
    simpa [recFails] using hf
  have hbytes : setupBytes [MON_CTL.reg] s1 = leBytes 4 (regGet MON_CTL.reg s1).toNat := by
    simp [setupBytes, regNow_free MON_CTL.reg (hheld.trans hwh)]
  have hstore : storeMon s1 = (recStore recMon (leBytes 4 (regGet MON_CTL.reg s1).toNat) s1).1 := by
    rw [storeMon, hbytes]
  have hx := recStore_eq (leBytes 4 (regGet MON_CTL.reg s1).toNat) hf1
  rw [hstore] at hst
  obtain ⟨s', hs', hset⟩ := regWrite_settles t MON_CTL.reg v s hl hi rfl
    (by rw [hst, hx, hrw.frame]) (by rw [hst, hx, hrw.frame])
  rw [hst] at hset
  have hstored := FieldsStored.of_written hl hm hs hf hrw hheld (offs := [MON_CTL.reg, MON_STATUS.reg]) rfl (fun _ _ => rfl) hset
  have hreg : ∀ off, regGet off s' = regGet off s1 := fun off => by rw [settles_regGet hset, hx]; rfl
  have hread : ∀ f : Field, fld f s' = fld f s1 := fun f => by rw [fld, hreg, fld]
  refine ⟨s', hs', hstored.settled, ?_, ?_, ?_, ?_, hstored.kept⟩
  · rw [hread, hfld (MON_CTL.BAUD, inRange 0 6) (by simp), written_fld t _ hl _ (by decide)]
    simp [inRange]
  · rw [hread, hfld (MON_CTL.IDLE_S, inRange 10 3600) (by simp), written_fld t _ hl _ (by decide)]
    simp only [inRange_iff]
  · rw [hread, hfld (MON_CTL.EVT_ECHO, anyVal) (by simp)]
    rfl
  · rw [hreg]
    exact hstored.read

/-- Settles O9, block by block. -/
theorem commitsStoreSetups : Obligations.CommitsStoreSetups :=
  ⟨fun s t v hl hi hm hs => setups_commit s t v hl hi hm hs,
    fun s t v hl hi hm hs => ⟨lgr_commits s t v hl hi hm hs, lcy_commits s t v hl hi hm hs, monCtl_writes s t v hl hi hm hs⟩,
    fun s t v hl hi hm hs ha hd hf => fld_commits s t v hl hi hm hs ha hd hf⟩

end Sys2Proof.Machine
end

section
/-! SUPPORT. What appending a ledger record changes, whether every word of the array takes its write or not (R344). -/
namespace Sys2Proof.Machine

/-- A field's write leaves the other registers alone. -/
theorem regGet_setFld_ne (f : Field) (v off : Nat) (s : State) (h : off ≠ f.off) : regGet off (setFld f v s) = regGet off s :=
  regGet_regSet_ne f.off off _ s h

/-! ## Writes in the Ledger region -/

variable {cells offs : List Nat}

/-- A word in the Ledger region, written or worn. -/
theorem Recorded.nvWriteWord (a : Nat) (bs : Bytes) (s : State) (ha : 0x400000 ≤ a) :
    Recorded cells offs s (nvWriteWord a bs s).1 := by
  unfold Machine.nvWriteWord
  split
  · exact Recorded.bump _ s (by simp [recordRegs, NVS_REC_CNT.WFAIL, NVS_REC_CNT.reg])
  · refine ⟨rfl, RegsKept.of_eq _ rfl rfl, HostKept.of_eq rfl rfl, ⟨fun x hx _ => ?_, fun x hx _ => ?_, fun h => ?_⟩, rfl⟩
    · exact mget_mwrite_out nvDflt _ a x _ (.inl (by omega))
    · show (s.nv.bad.filter (· ≠ a)).contains x = s.nv.bad.contains x
      have hne : x ≠ a := by omega
      simp [List.contains_eq_mem, hne]
    · exact wf_mwrite nvDflt _ _ h

/-- The ledger's own state is not the array's. -/
theorem nvWriteWord_lgr (a : Nat) (bs : Bytes) (s : State) : (nvWriteWord a bs s).1.lgr = s.lgr := by
  unfold nvWriteWord
  split <;> rfl

/-- Words in the Ledger region. -/
theorem Recorded.nvWriteWords (a : Nat) (bs : Bytes) (ws : List Nat) (s : State) (hw : ∀ w ∈ ws, 0x400000 ≤ w) :
    Recorded cells offs s (nvWriteWords a bs ws s).1 ∧ (Machine.nvWriteWords a bs ws s).1.lgr = s.lgr := by
  induction ws generalizing s with
  | nil => exact ⟨Recorded.refl s, rfl⟩
  | cons w ws ih =>
    have h1 : Recorded cells offs s (Machine.nvWriteWord w (mergeWord w a bs s) s).1 :=
      Recorded.nvWriteWord w _ s (hw w List.mem_cons_self)
    have hl := nvWriteWord_lgr w (mergeWord w a bs s) s
    unfold Machine.nvWriteWords
    dsimp only
    split
    · exact ⟨h1, hl⟩
    · obtain ⟨h2, hl2⟩ := ih (Machine.nvWriteWord w (mergeWord w a bs s) s).1 (fun x hx => hw x (List.mem_cons_of_mem w hx))
      exact ⟨h1.trans h2, hl2.trans hl⟩

/-- The words of a range lie in it, up to their alignment. -/
theorem wordsOf_ledger {p n : Nat} (hp : 0x400000 ≤ p) : ∀ w ∈ wordsOf p n, 0x400000 ≤ w := by
  intro w hw
  unfold wordsOf at hw
  split at hw
  · exact absurd hw List.not_mem_nil
  · obtain ⟨i, -, rfl⟩ := List.mem_map.mp hw
    omega

/-- Ledger words: what they change, whether they take the write or not. -/
theorem Recorded.ledgerWords (p : Nat) (bs : Bytes) (s : State) (hp : 0x400000 ≤ p) :
    Recorded cells offs s (Machine.lgrWrite p bs s) :=
  (Recorded.nvWriteWords p bs _ s (wordsOf_ledger hp)).1

/-- The ledger's own state is not theirs. -/
theorem lgrWrite_keepsLgr (p : Nat) (bs : Bytes) (s : State) (hp : 0x400000 ≤ p) : (lgrWrite p bs s).lgr = s.lgr :=
  (Recorded.nvWriteWords (cells := []) (offs := []) p bs _ s (wordsOf_ledger hp)).2

/-! ## Blocks and records -/

/-- The pre-clear of a block's position (R369). -/
theorem Recorded.preClear (s : State) : Recorded cells offs s (preClear s) := by
  unfold Machine.preClear
  split
  · have h1 : Recorded cells offs s (Machine.lgrWrite (blockAddr s.lgr.next s) (List.replicate 64 0) s) :=
      Recorded.ledgerWords _ _ s (le_blockAddr _ s)
    exact h1.trans (Recorded.setLgr _ _ rfl)
  · exact Recorded.setLgr s _ rfl

/-- The seal of the open block (R369). -/
theorem Recorded.sealBlock (flagBits : Nat) (s : State) : Recorded cells offs s (sealBlock flagBits s) := by
  have ha := le_blockAddr (s.lgr.next - 1) s
  unfold Machine.sealBlock
  split
  · exact Recorded.refl s
  · next k _ =>
    dsimp only
    generalize hx : Machine.lgrWrite (_ + 8 + 8 * k) _ s = x
    have hsx : Recorded cells offs s x := hx ▸ Recorded.ledgerWords _ _ s (by omega)
    generalize hy : Machine.lgrWrite (_ + 56) _ x = y
    have hsy : Recorded cells offs s y := hsx.trans (hy ▸ Recorded.ledgerWords _ _ x (by omega))
    generalize hz : { y with lgr := Lgr.mk _ _ _ _ _ _ _ _ _ _ _ _ _ _ _ _ _ _ _ } = z
    have hsz : Recorded cells offs s z := hsy.trans (hz ▸ Recorded.setLgr y _ rfl)
    have hflag (b : Bool) : Recorded cells offs s (setFlag LGR_STATUS.CKPT_PEND b z) :=
      hsz.trans (Recorded.setFld _ _ z (by simp [recordRegs, LGR_STATUS.CKPT_PEND, LGR_STATUS.reg]))
    split
    · exact hflag _
    · exact (hflag _).trans (Recorded.preClear _)

/-- The opening of a block (R369). -/
theorem Recorded.openBlock (wall : Nat) (s : State) : Recorded cells offs s (openBlock wall s) := by
  unfold Machine.openBlock
  dsimp only
  generalize hx : Machine.lgrWrite (blockAddr s.lgr.next s) _ s = x
  have hsx : Recorded cells offs s x := hx ▸ Recorded.ledgerWords _ _ s (le_blockAddr _ s)
  generalize hy : { x with lgr := Lgr.mk _ _ _ _ _ _ _ _ _ _ _ _ _ _ _ _ _ _ _ } = y
  have hsy : Recorded cells offs s y := hsx.trans (hy ▸ Recorded.setLgr x _ rfl)
  exact Recorded.after (lgrEvtIf_recorded _ _ _ _ _) (Recorded.after (lgrEvtIf_recorded _ _ _ _ _) hsy)

/-- A record in the open block (R366, R369). -/
theorem Recorded.putRecord (r : LRec) (s : State) : Recorded cells offs s (putRecord r s) := by
  have ha := le_blockAddr (s.lgr.next - 1) s
  unfold Machine.putRecord
  split
  · exact Recorded.refl s
  · next k _ =>
    dsimp only
    generalize hx : Machine.lgrWrite _ _ s = x
    have hsx : Recorded cells offs s x := hx ▸ Recorded.ledgerWords _ _ s (by omega)
    generalize hy : { x with lgr := Lgr.mk _ _ _ _ _ _ _ _ _ _ _ _ _ _ _ _ _ _ _ } = y
    have hsy : Recorded cells offs s y := hsx.trans (hy ▸ Recorded.setLgr x _ rfl)
    generalize hz : Machine.bump _ y = z
    have hsz : Recorded cells offs s z := hsy.trans (hz ▸ Recorded.bump _ y (by
      split <;> simp [recordRegs, LGR_CNT0.HOST, LGR_CNT0.DEVICE, LGR_CNT0.reg]))
    split
    · exact hsz.trans (Recorded.sealBlock 0 z)
    · exact hsz

/-- A record's place (R367, R369, R372). -/
theorem Recorded.placeRecord (r : LRec) (isS : Bool) (s : State) : Recorded cells offs s (placeRecord r isS s).1 := by
  unfold Machine.placeRecord
  dsimp only
  generalize hx : useCtl s = x
  have hsx : Recorded cells offs s x := hx ▸ useCtl_recorded s
  generalize hy : (if needsNewBase r.wall x = true then Machine.sealBlock padTime x else x) = y
  have hsy : Recorded cells offs s y := by
    refine hsx.trans ?_
    subst hy
    split
    · exact Recorded.sealBlock _ x
    · exact Recorded.refl x
  split
  · exact hsy.trans (Recorded.putRecord r y)
  · split
    · exact (hsy.trans (Recorded.openBlock r.wall y)).trans (Recorded.putRecord r _)
    · exact hsy

/-- RECORDS_LOST (R372). -/
theorem Recorded.reportLost (s : State) : Recorded cells offs s (reportLost s) := by
  unfold Machine.reportLost
  split
  · exact Recorded.refl s
  · dsimp only
    have hp : Recorded cells offs s _ := Recorded.placeRecord ⟨0x03, 0, s.lgr.lost, s.clk.wall.toNat, now s⟩ true s
    split
    · exact hp.trans (Recorded.setLgr _ _ rfl)
    · exact hp

/-- A record's write or its loss (R372). -/
theorem Recorded.writeRecord (r : LRec) (s : State) : Recorded cells offs s (writeRecord r s) := by
  unfold Machine.writeRecord
  split
  · exact dropRecord_recorded s
  · have h2 : Recorded cells offs s _ := (Recorded.reportLost s).trans (Recorded.placeRecord r (classS r.typ) (Machine.reportLost s))
    dsimp only
    split
    · exact h2
    · exact h2.trans (dropRecord_recorded _)

/-- A device record's append after recall (R372). -/
theorem Recorded.append (typ src data : Nat) (s : State) (hr : s.nv.ledgerReady = true) :
    Recorded cells offs s (append typ src data s) := by
  unfold Machine.append appendAt
  simp only [hr, if_true]
  exact Recorded.writeRecord _ s

/-- What a completion counts and records (R127). -/
theorem Recorded.counted (d : Desc) (st : Nat) (s : State) (hr : s.nv.ledgerReady = true)
    (ho : 1 ≤ st ∧ st ≤ 6 → HIF_VIOL_CNT.reg ∈ offs) : Recorded cells offs s (counted d st s) := by
  have hsx : Recorded cells offs s
      (if 1 ≤ st ∧ st ≤ 6 then Machine.bump HIF_VIOL_CNT.DESC (drained d s) else drained d s) := by
    split
    · next h => exact (drained_recorded d s).trans (Recorded.bump _ _ (List.mem_append_right _ (ho h)))
    · exact drained_recorded d s
  unfold Machine.counted
  dsimp only
  split
  · exact hsx.trans (Recorded.append _ _ _ _ (hsx.ledgerReady.trans hr))
  · exact hsx

/-- The register file stays in canonical form. -/
theorem Recorded.regs_wf {s s' : State} (h : Recorded cells offs s s') (hw : Regs.wf s = true) : Regs.wf s' = true :=
  h.regs.wf hw

/-- A register outside the list reads alike. -/
theorem Recorded.fld {s s' : State} (h : Recorded cells offs s s') (f : Field) (hf : f.off ∉ recordRegs ++ offs) :
    fld f s' = fld f s := h.regs.fld f hf

/-- The end of a command that came to a state from which it was live but for records and events. -/
theorem finish_settles_recorded {s x y : State} (hl : live s = true) (hlgr : x.lgr.hostWait = s.lgr.hostWait)
    (hfold : x.fold = s.fold) (h : Recorded cells offs x y) : settles y (finish y) := by
  obtain ⟨-, -, -, -, hw, hq, hh⟩ := (calm_iff s).mp (live_calm hl)
  exact finish_settles y (by rw [h.hostWait, hlgr]; exact hh) (by rw [h.fold, hfold]; exact hw)
    (by rw [h.fold, hfold]; exact hq)

end Sys2Proof.Machine
end

section
/-! SUPPORT. The fold tree: APPLY, DISCARD, and the tree that goes live (R167, R168, R181). -/
namespace Sys2Proof.Machine

/-- What is at fault in a tree depends on the part, the live tree and the own pinfolds (Table 07.1). -/
theorem treeBad_congr {t : Tree} {x s : State} (hp : x.part = s.part) (hf : x.fold = s.fold) (hk : x.flk = s.flk) :
    treeBad t x = treeBad t s := by
  have h1 : ∀ i, leafPresent i x = leafPresent i s := fun i => by simp [leafPresent, hp]
  have h2 : ∀ f, ownPin f x = ownPin f s := fun f => by simp [ownPin, hk]
  simp only [treeBad, pinBroken, h1, h2, hf]

/-- A command that writes FLD_CTL, told from the writes of its fields. -/
theorem fld_write (t : Nat) (v : Word) (s : State) (hl : live s = true) (hi : islandOn .pcie s = true) (hm : memorySafe s)
    (hwait : ∀ x, (writeFldCtl v x).lgr = x.lgr ∧ (writeFldCtl v x).fold.wait = x.fold.wait ∧
      (writeFldCtl v x).fold.queue = x.fold.queue) :
    ∃ s1 s', regWrite t FLD_CTL.reg v s = .next s' ∧ RowsWritten [FLD_CTL.reg, FLD_STATUS.reg] (written t FLD_CTL.reg s) s1 ∧
      s1.heldWr = (written t FLD_CTL.reg s).heldWr ∧ s1.fold = s.fold ∧ s1.part = s.part ∧ s1.flk = s.flk ∧
      Regs.wf s1 = true ∧ settles (writeFldCtl v s1) s' := by
  have hweq := written_eq t FLD_CTL.reg s hl
  have hrw := fldFields_written v (written t FLD_CTL.reg s)
  have hheld := fldFields_heldWr v (written t FLD_CTL.reg s)
  have hst := barStore_fld v (written t FLD_CTL.reg s)
  generalize fldFields v (written t FLD_CTL.reg s) = s1 at hrw hheld hst
  have hlgr : s1.lgr = s.lgr := by rw [hrw.frame, hweq]; simp
  have hfold : s1.fold = s.fold := by rw [hrw.frame, hweq]; simp
  obtain ⟨-, -, -, -, hw, hq, hh⟩ := (calm_iff s).mp (live_calm hl)
  obtain ⟨h1, h2, h3⟩ := hwait s1
  obtain ⟨-, -, -, -, hregs, -⟩ := hm
  refine ⟨s1, _, regWrite_live t FLD_CTL.reg v s hl hi rfl, hrw, hheld, hfold, by rw [hrw.frame, hweq]; simp,
    by rw [hrw.frame, hweq]; simp, hrw.kept.wf (written_wf t _ s hl hregs), ?_⟩
  rw [hst]
  exact finish_settles _ (by rw [h1, hlgr]; exact hh) (by rw [h2, hfold]; exact hw) (by rw [h3, hfold]; exact hq)

/-- FLD_CTL.APPLY alone validates the staging copy (R167). -/
theorem writeFldCtl_apply {v : Word} (ha : FLD_CTL.APPLY.of v = 1) (hc : FLD_CTL.COMMIT.of v = 0)
    (hd : FLD_CTL.DISCARD.of v = 0) (s : State) : writeFldCtl v s = applyTree s := by
  simp [writeFldCtl, ha, hc, hd]

/-- FLD_CTL.DISCARD alone puts the live tree back (R181). -/
theorem writeFldCtl_discard {v : Word} (ha : FLD_CTL.APPLY.of v = 0) (hc : FLD_CTL.COMMIT.of v = 0)
    (hd : FLD_CTL.DISCARD.of v = 1) (s : State) : writeFldCtl v s = discardTree s := by
  simp [writeFldCtl, ha, hc, hd]

/-- Validation leaves the ledger and the engine's waits alone. -/
theorem applyTree_waits (s : State) :
    (applyTree s).lgr = s.lgr ∧ (applyTree s).fold.wait = s.fold.wait ∧ (applyTree s).fold.queue = s.fold.queue := by
  unfold applyTree
  split
  · exact ⟨rfl, rfl, rfl⟩
  · split <;> exact ⟨rfl, rfl, rfl⟩

/-- A staging copy without a fault becomes pending (R167). -/
theorem applyTree_good {s : State} (hp : s.fold.pend = none) (hb : treeBad s.fold.staging s = none) :
    applyTree s = setFld FLD_STATUS.APPLY_ERR 0 (setFld FLD_STATUS.ERR_NODE 0 (setFld FLD_STATUS.PEND 1
      { s with fold := { s.fold with pend := some s.fold.staging } })) := by
  simp [applyTree, hp, hb]

/-- A fault names its code and node and is counted (Table 07.1). -/
theorem applyTree_bad {s : State} (hp : s.fold.pend = none) {code node : Nat}
    (hb : treeBad s.fold.staging s = some (code, node)) :
    applyTree s = setFld FLD_STATUS.APPLY_ERR code (setFld FLD_STATUS.ERR_NODE node (bump FLD_CNT.APPLY_FAIL s)) := by
  simp [applyTree, hp, hb]

/-- The settled form of a write that changed registers and the fold engine. -/
theorem settles_fold_write {s0 s1 x s' : State} {offs : List Nat} (hrw : RowsWritten offs s0 s1)
    (hheld : s1.heldWr = s0.heldWr) (hx : x = { s1 with regs := x.regs, fold := x.fold }) (h : settles x s') :
    settles { s0 with regs := s'.regs, fold := s'.fold } s' := by
  have e : ({ s0 with regs := s'.regs, fold := s'.fold } : State) = x := by
    rw [settles_regs h, settles_fold h, hx, hrw.frame, hheld]
  rw [e]
  exact h

/-- A state that differs in registers alone, written with its own registers. -/
theorem regsOnly_self {a b : State} (h : regsOnly a b) : b = { a with regs := b.regs } := by
  have e := congrArg (fun x : State => ({ x with regs := b.regs } : State)) h
  exact e

/-- The fault's code, node and count are registers alone. -/
theorem regsOnly_fault (code node : Nat) (s : State) :
    regsOnly s (setFld FLD_STATUS.APPLY_ERR code (setFld FLD_STATUS.ERR_NODE node (bump FLD_CNT.APPLY_FAIL s))) :=
  regsOnly_trans (regsOnly_setFld FLD_CNT.APPLY_FAIL _ s) (regsOnly_trans (regsOnly_setFld _ _ _) (regsOnly_setFld _ _ _))

/-- FLD_APPLY of a good staging copy (R167). -/
theorem fldApply_pends (s : State) (t : Nat) (v : Word) (hl : live s = true) (hi : islandOn .pcie s = true)
    (hm : memorySafe s) (hc : FLD_CTL.COMMIT.of v = 0) (hd : FLD_CTL.DISCARD.of v = 0) (hp : s.fold.pend = none)
    (hb : treeBad s.fold.staging s = none) :
    ∃ s', exec (.fldApply t v) s = .next s' ∧ s'.fold = { s.fold with pend := some s.fold.staging } ∧
      fld FLD_STATUS.PEND s' = 1 ∧ fld FLD_STATUS.APPLY_ERR s' = 0 ∧
      settles { written t FLD_CTL.reg s with regs := s'.regs, fold := s'.fold } s' ∧
      keepsRegs [FLD_CTL.reg, FLD_STATUS.reg] (written t FLD_CTL.reg s) s' := by
  have ha' : FLD_CTL.APPLY.of (FLD_CTL.APPLY.put 1 v) = 1 := of_put_one _ rfl rfl v
  have hc' : FLD_CTL.COMMIT.of (FLD_CTL.APPLY.put 1 v) = 0 := (Field.of_put_apart _ _ rfl (by decide) 1 v).trans hc
  have hd' : FLD_CTL.DISCARD.of (FLD_CTL.APPLY.put 1 v) = 0 := (Field.of_put_apart _ _ rfl (by decide) 1 v).trans hd
  obtain ⟨s1, s', hs', hrw, hheld, hfold, hpart, hflk, hwf, hset⟩ := fld_write t (FLD_CTL.APPLY.put 1 v) s hl hi hm
    (fun x => by rw [writeFldCtl_apply ha' hc' hd']; exact applyTree_waits x)
  rw [writeFldCtl_apply ha' hc' hd', applyTree_good (by rw [hfold]; exact hp)
    (by rw [hfold, treeBad_congr hpart hfold hflk]; exact hb)] at hset
  have hw1 : Regs.wf ({ s1 with fold := { s1.fold with pend := some s1.fold.staging } } : State) = true := hwf
  generalize hx : ({ s1 with fold := { s1.fold with pend := some s1.fold.staging } } : State) = x at hset hw1
  have hw2 := regs_wf_setFld FLD_STATUS.PEND 1 x hw1
  have hw3 := regs_wf_setFld FLD_STATUS.ERR_NODE 0 _ hw2
  refine ⟨s', hs', ?_, ?_, ?_, settles_fold_write hrw hheld ?_ hset, fun off ho => ?_⟩
  · rw [settles_fold hset, setFld_fold, setFld_fold, setFld_fold, ← hx, hfold]
  · rw [settles_fld hset, fld_setFld_apart _ _ rfl rfl 0 _ hw3, fld_setFld_apart _ _ rfl rfl 0 _ hw2,
      fld_setFld_same _ rfl 1 _ hw1]
    rfl
  · rw [settles_fld hset, fld_setFld_same _ rfl 0 _ hw3]
    rfl
  · rw [← hx]
    rfl
  · have hne : off ≠ FLD_STATUS.reg := fun e => ho (by simp [e])
    rw [settles_regGet hset, regGet_setFld_ne _ _ off _ hne, regGet_setFld_ne _ _ off _ hne, regGet_setFld_ne _ _ off _ hne,
      ← hx]
    exact hrw.kept.keeps off ho

/-- FLD_APPLY of a staging copy with a fault (R167, Table 07.1). -/
theorem fldApply_fails (s : State) (t : Nat) (v : Word) (hl : live s = true) (hi : islandOn .pcie s = true)
    (hm : memorySafe s) (hc : FLD_CTL.COMMIT.of v = 0) (hd : FLD_CTL.DISCARD.of v = 0) (hp : s.fold.pend = none)
    (code node : Nat) (hb : treeBad s.fold.staging s = some (code, node)) :
    ∃ s', exec (.fldApply t v) s = .next s' ∧ s'.fold = s.fold ∧
      fld FLD_STATUS.APPLY_ERR s' = code % 2 ^ FLD_STATUS.APPLY_ERR.width ∧
      settles { written t FLD_CTL.reg s with regs := s'.regs } s' ∧
      keepsRegs [FLD_CTL.reg, FLD_STATUS.reg, FLD_CNT.reg] (written t FLD_CTL.reg s) s' := by
  have ha' : FLD_CTL.APPLY.of (FLD_CTL.APPLY.put 1 v) = 1 := of_put_one _ rfl rfl v
  have hc' : FLD_CTL.COMMIT.of (FLD_CTL.APPLY.put 1 v) = 0 := (Field.of_put_apart _ _ rfl (by decide) 1 v).trans hc
  have hd' : FLD_CTL.DISCARD.of (FLD_CTL.APPLY.put 1 v) = 0 := (Field.of_put_apart _ _ rfl (by decide) 1 v).trans hd
  obtain ⟨s1, s', hs', hrw, hheld, hfold, hpart, hflk, hwf, hset⟩ := fld_write t (FLD_CTL.APPLY.put 1 v) s hl hi hm
    (fun x => by rw [writeFldCtl_apply ha' hc' hd']; exact applyTree_waits x)
  rw [writeFldCtl_apply ha' hc' hd', applyTree_bad (by rw [hfold]; exact hp)
    (by rw [hfold, treeBad_congr hpart hfold hflk]; exact hb)] at hset
  have hw2 : Regs.wf (bump FLD_CNT.APPLY_FAIL s1) = true := regs_wf_setFld _ _ _ hwf
  have hw3 := regs_wf_setFld FLD_STATUS.ERR_NODE node _ hw2
  have hf' : s'.fold = s.fold := by
    rw [settles_fold hset, setFld_fold, setFld_fold, bump_fold, hfold]
  refine ⟨s', hs', hf', ?_, ?_, fun off ho => ?_⟩
  · rw [settles_fld hset, fld_setFld_same _ rfl code _ hw3]
  · have hx := regsOnly_self (regsOnly_fault code node s1)
    have hxf : (setFld FLD_STATUS.APPLY_ERR code (setFld FLD_STATUS.ERR_NODE node (bump FLD_CNT.APPLY_FAIL s1))).fold =
        s1.fold := by rw [setFld_fold, setFld_fold, bump_fold]
    generalize setFld FLD_STATUS.APPLY_ERR code (setFld FLD_STATUS.ERR_NODE node (bump FLD_CNT.APPLY_FAIL s1)) = x
      at hx hxf hset
    have h := settles_fold_write hrw hheld (by rw [hxf]; exact hx) hset
    have hfw : (written t FLD_CTL.reg s).fold = s.fold := by rw [written_eq t _ s hl]; simp
    rw [hf', ← hfw] at h
    exact h
  · have hne : off ≠ FLD_STATUS.reg := fun e => ho (by simp [e])
    have hne' : off ≠ FLD_CNT.reg := fun e => ho (by simp [e])
    rw [settles_regGet hset, regGet_setFld_ne _ _ off _ hne, regGet_setFld_ne _ _ off _ hne, bump, addFld,
      regGet_setFld_ne _ _ off _ hne']
    exact hrw.kept.keeps off (fun hm => ho (by simp only [List.mem_cons, List.not_mem_nil, or_false] at hm ⊢; tauto))

/-- FLD_DISCARD (R181). -/
theorem fldDiscard_restores (s : State) (t : Nat) (v : Word) (hl : live s = true) (hi : islandOn .pcie s = true)
    (hm : memorySafe s) (hc : FLD_CTL.COMMIT.of v = 0) (ha : FLD_CTL.APPLY.of v = 0) :
    ∃ s', exec (.fldDiscard t v) s = .next s' ∧ s'.fold = { s.fold with staging := s.fold.live } ∧
      settles { written t FLD_CTL.reg s with regs := s'.regs, fold := s'.fold } s' ∧
      keepsRegs [FLD_CTL.reg, FLD_STATUS.reg] (written t FLD_CTL.reg s) s' := by
  have hd' : FLD_CTL.DISCARD.of (FLD_CTL.DISCARD.put 1 v) = 1 := of_put_one _ rfl rfl v
  have hc' : FLD_CTL.COMMIT.of (FLD_CTL.DISCARD.put 1 v) = 0 := (Field.of_put_apart _ _ rfl (by decide) 1 v).trans hc
  have ha' : FLD_CTL.APPLY.of (FLD_CTL.DISCARD.put 1 v) = 0 := (Field.of_put_apart _ _ rfl (by decide) 1 v).trans ha
  obtain ⟨s1, s', hs', hrw, hheld, hfold, -, -, -, hset⟩ := fld_write t (FLD_CTL.DISCARD.put 1 v) s hl hi hm
    (fun x => by rw [writeFldCtl_discard ha' hc' hd']; exact ⟨rfl, rfl, rfl⟩)
  rw [writeFldCtl_discard ha' hc' hd'] at hset
  refine ⟨s', hs', ?_, settles_fold_write hrw hheld rfl hset, fun off ho => ?_⟩
  · rw [settles_fold hset, discardTree, hfold]
  · rw [settles_regGet hset]
    exact hrw.kept.keeps off ho

/-- What a pending tree does when it goes live (R168). -/
theorem makeLive_pending {s : State} {tree : Tree} (h : s.fold.pend = some tree) :
    makeLive s = append 0x42 0 ((fld FLD_GEN.GEN s + 1) % 65536) (setFld FLD_GEN.GEN ((fld FLD_GEN.GEN s + 1) % 65536)
      (setFld FLD_STATUS.PEND 0 { s with fold := { s.fold with live := tree, pend := none } })) := by
  simp only [makeLive, h]

/-- FOLD_TREE_LIVE on an idle engine (R168). -/
theorem foldTreeLive_activates (s : State) (t : Nat) (hl : live s = true) (hm : memorySafe s) (hr : s.nv.ledgerReady = true)
    (ho : s.fold.op = none) (tree : Tree) (hp : s.fold.pend = some tree) :
    ∃ s', exec (.foldTreeLive t) s = .next s' ∧ s'.fold = { s.fold with live := tree, pend := none } ∧
      fld FLD_STATUS.PEND s' = 0 ∧ fld FLD_GEN.GEN s' = (fld FLD_GEN.GEN s + 1) % 65536 := by
  generalize hx : setFld FLD_GEN.GEN ((fld FLD_GEN.GEN s + 1) % 65536) (setFld FLD_STATUS.PEND 0
    { elapse t s with fold := { (elapse t s).fold with live := tree, pend := none } }) = x
  have hwf : Regs.wf ({ elapse t s with fold := { (elapse t s).fold with live := tree, pend := none } } : State) = true := by
    obtain ⟨-, -, -, -, hregs, -⟩ := hm
    simpa [Regs.wf] using hregs
  have hw2 := regs_wf_setFld FLD_STATUS.PEND 0 _ hwf
  have hrec : Recorded [] [] x (append 0x42 0 ((fld FLD_GEN.GEN s + 1) % 65536) x) :=
    Recorded.append _ _ _ x (by rw [← hx]; simpa using hr)
  have hact : onlyIf (elapse t s).fold.op.isNone makeLive (elapse t s) = append 0x42 0 ((fld FLD_GEN.GEN s + 1) % 65536) x := by
    have hop : (elapse t s).fold.op.isNone = true := by rw [elapse_fold, ho]; rfl
    rw [onlyIf, if_pos hop, makeLive_pending (by rw [elapse_fold]; exact hp), elapse_fld, hx]
  obtain ⟨-, -, -, -, hw, hq, hh⟩ := (calm_iff s).mp (live_calm hl)
  have hxfold : x.fold = { s.fold with live := tree, pend := none } := by rw [← hx, setFld_fold, setFld_fold, elapse_fold]
  have hxlgr : x.lgr = s.lgr := by rw [← hx]; simp
  have hset : settles (append 0x42 0 ((fld FLD_GEN.GEN s + 1) % 65536) x)
      (finish (append 0x42 0 ((fld FLD_GEN.GEN s + 1) % 65536) x)) :=
    finish_settles _ (by rw [hrec.hostWait, hxlgr]; exact hh) (by rw [hrec.fold, hxfold]; exact hw)
      (by rw [hrec.fold, hxfold]; exact hq)
  refine ⟨_, (command_live t _ s hl).trans (by rw [hact]), ?_, ?_, ?_⟩
  · rw [settles_fold hset, hrec.fold, hxfold]
  · rw [settles_fld hset, hrec.fld _ (by decide), ← hx, fld_setFld_apart _ _ rfl rfl _ _ hw2, fld_setFld_same _ rfl 0 _ hwf]
    rfl
  · rw [settles_fld hset, hrec.fld _ (by decide), ← hx, fld_setFld_same _ rfl _ _ hw2]
    exact Nat.mod_eq_of_lt (Nat.mod_lt _ (by decide))

/-- Settles O11, clause by clause. -/
theorem foldTreeAppliesAndDiscards : Obligations.FoldTreeAppliesAndDiscards := by
  intro s t v hl hi hm _ hc
  exact ⟨fun hd hp hb => fldApply_pends s t v hl hi hm hc hd hp hb,
    fun hd hp code node hb => fldApply_fails s t v hl hi hm hc hd hp code node hb,
    fun ha => fldDiscard_restores s t v hl hi hm hc ha,
    fun hr ho tree hp => foldTreeLive_activates s t hl hm hr ho tree hp⟩

end Sys2Proof.Machine
end

section
/-! SUPPORT. Waits that end at their TIMEOUT. -/
namespace Sys2Proof.Machine

/-- A descriptor of the Drover port with number `no`. -/
def portDesc (op no target len src dst : Nat) (par : List Nat) : Desc :=
  { hostDesc op target len src dst par with src := .drover, no := no }

/-- A device with these descriptors in flight since TIMEBASE 0, acknowledged. -/
def flying (ds : List Desc) (s : State) : State :=
  { s with hif := { s.hif with flight := ds.map (fun d => ⟨d, true, false, 0⟩) } }

/-- An LF_CAL of Drover. -/
def lfCalDesc : Desc := portDesc 0x12 8 0 0 0 0 []

/-- Its pass, an LF_DIAG whose operation waits for an entry of the LF queue. -/
def lfPassDesc : Desc := portDesc 0x11 9 0 0 0 0 []

/-- A device whose Drover carries out that LF_CAL, the pass of which has waited for an entry of the LF queue till now. -/
def calWaits : State :=
  flying [lfCalDesc, lfPassDesc] { workingDevice with
    lf := { Lf.reset with
      cals := [{ d := lfCalDesc, step := .verify, chans := [], pass := lfPassDesc, rings := [] }]
      wait := [(⟨3, [], .diagRing, 0, 1, 0, 0, some lfPassDesc, []⟩, 5000000)] } }

/-- Refutes O60: with the pass of an LF_CAL that LF_QUEUE_TIMEOUT ends, the LF_CAL ends too (R162), so that its pass's
completion is not all that changes. -/
theorem not_waitsEndAtTheirTimeout : ¬ Obligations.WaitsEndAtTheirTimeout := by
  intro h
  have hm : memorySafe calWaits := by
    unfold memorySafe
    decide +kernel
  have hs : shaped calWaits := by
    unfold shaped
    decide +kernel
  obtain ⟨hlive, -⟩ := h calWaits 5000000 hm hs
  obtain ⟨hlf, -⟩ := hlive (by decide +kernel)
  obtain ⟨s1, s', hs', ⟨-, honly⟩, hs1⟩ := hlf _ 5000000 [] lfPassDesc rfl rfl (by decide +kernel) (by decide +kernel)
  obtain ⟨x, hx, hcals⟩ := nextMeets_exists (p := fun s => s.lf.cals.isEmpty)
    (o := exec (.lfQueueTimeout 5000000) calWaits) (by decide +kernel)
  obtain rfl : x = s' := by simpa [hx] using hs'
  rw [completesOnly_lf honly, hs1] at hcals
  exact absurd hcals (by decide)

end Sys2Proof.Machine
end

section
/-! SUPPORT. Polls under way in Watch: verdicts, ranging. -/
namespace Sys2Proof.Machine

/-- A poll of fold 0 that WAKE pin 0 asked for, as an operation of the LF queue. -/
def pinReq : LfReq := ⟨1, [(.wake 0, 4000000)], .poll, 0x100, 4, 0, 2, none, []⟩

/-- Its run, with its responses awaited. -/
def pinRun (s : State) : LfRun := { freshRun pinReq .respond [] [] [] false s with start := 4000000, seq := 4000000 }

/-- Its poll, with an answer. -/
def pinPoll (as : List Answer) (s : State) : Poll :=
  { freshPoll pinReq s.fold.live [] [] true 0 s with answers := as, vidSeen := true }

/-- A verified answer of flock slot 0 whose trigger waits for its verdict. -/
def waitingAnswer : Answer :=
  { tb := 5000000, fslot := 0, slot := 0, source := 1, status := 0, reslot := 0, zone := 0xFFFF, counter := 5, frame := 0,
    mag := List.replicate 16 1, range := 0xFFFFFFFF, rssi := 0, verified := true, authFail := false, judged := false,
    challenge := 0, b4 := 0, trig := some 5000000, ranging := false, out := none, score := 0, seat := false, role := 0,
    tag := 0, co := false }

/-- A gate that every verified answer of a leaf passes, without an action. -/
def openGate : Gate := ⟨1, 0, 31, 4, 0xFFFF, 0, 0⟩

/-- A device in Watch. -/
def watching (s : State) : State := { s with pwr := { s.pwr with st := .watch } }

/-- In Watch a poll with such an answer, and a UHF radio noted as Off. -/
def verdictInWatch : State :=
  let s := watching (setFld VRD_CTL.EVT 0 workingDevice)
  { s with
    lf := { s.lf with run := some (pinRun s) }
    poll := some (pinPoll [waitingAnswer] s)
    lgr := { s.lgr with closed := true }
    uhf := { s.uhf with walk := [] }
    vrd := { s.vrd with rules := some ⟨1, [openGate], [⟨0, 0, 0, 0⟩]⟩ } }

/-- An exchange of the poll's first answer that waits for its start. -/
def waitingExch : Exch := { pollExch 0 true 0 false 5 (List.replicate 16 1) 0 2 4000000 with limit := none }

/-- In Watch such an exchange without an LF operation, with the UWB radio noted in Synth. -/
def exchInWatch : State :=
  let s := watching workingDevice
  { s with uwb := { s.uwb with exch := [waitingExch], chan := 5, walk := [⟨0, 0, 3⟩] }
           pins := { s.pins with coexGnt := true } }

/-- Refutes O28: in Watch the UWB island has no power but for an LF operation, so that the radio is Off at the end of the
command (R14), and the start of the exchange is not all that changes of the UWB radio. -/
theorem not_rangingRuns : ¬ Obligations.RangingRuns := by
  intro h
  have hm : memorySafe exchInWatch := by
    unfold memorySafe
    decide +kernel
  have hs : shaped exchInWatch := by
    unfold shaped
    decide +kernel
  obtain ⟨hstart, -⟩ := h
  obtain ⟨-, hexch⟩ := hstart exchInWatch 5000000 (by decide +kernel) hm hs rfl
  obtain ⟨s', hs', huwb, -⟩ := hexch waitingExch rfl rfl (by decide +kernel) (by decide +kernel)
    (by decide +kernel) (by decide +kernel) (by decide +kernel) (fun l hl => nomatch hl)
  obtain ⟨x, hx, hwalk⟩ := nextMeets_exists (p := fun s => s.uwb.walk != [⟨0, 0, 3⟩])
    (o := exec (.uwbExchangeStart 5000000) exchInWatch) (by decide +kernel)
  obtain rfl : x = s' := by simpa [hx] using hs'
  rw [huwb] at hwalk
  exact absurd hwalk (by decide +kernel)

end Sys2Proof.Machine
end

section
/-! SUPPORT. A verdict pass in Watch. -/
namespace Sys2Proof.Machine

/-- A radio noted with no state gets one where its island's power is noted. -/
theorem repower_nil (on : Bool) (n : Nat) : repower on n [] ≠ [] := by
  cases on <;> simp [repower, walkAt]

/-- The drive pads are not the radio. -/
theorem refreshDrive_uhf (s : State) : (refreshDrive s).uhf = s.uhf := by
  unfold refreshDrive
  split <;> rfl

/-- In Watch the UHF radio's state is noted anew at the end of every command (Table 09.1). -/
theorem finish_watch_walk {x : State} (hf : (settleFolds (flushDisplaced x)).pwr.st = .watch)
    (hs : stopped (settleFolds (flushDisplaced x)) = false)
    (hw : (settleFolds (flushDisplaced x)).uhf.walk = []) : (finish x).uhf.walk ≠ [] := by
  simp only [stopped, Bool.or_eq_false_iff] at hs
  obtain ⟨⟨hl, hv⟩, hr⟩ := hs
  rw [show finish x = noteWork (noteIdle (refreshDrive (refreshRadio (settleIslands (settleFolds (flushDisplaced x)))))) from rfl]
  show (refreshDrive _).uhf.walk ≠ []
  rw [refreshDrive_uhf]
  show (settleIslands _).uhf.walk ≠ []
  unfold settleIslands
  rw [hf, hr, hv, hl]
  simp only [beq_self_eq_true, Bool.not_false, Bool.and_self, if_true]
  show repower _ _ (settleFolds (flushDisplaced x)).uhf.walk ≠ []
  rw [hw]
  exact repower_nil _ _

/-- Refutes O31: in Watch the state of the UHF radio is noted anew with the power of its island at the end of the command
(R14), and the verdict leaves it not as it was. -/
theorem not_verdictsAreGiven : ¬ Obligations.VerdictsAreGiven := by
  intro h
  have hm : memorySafe verdictInWatch := by
    unfold memorySafe
    decide +kernel
  have hs : shaped verdictInWatch := by
    unfold shaped
    decide +kernel
  have hl : live verdictInWatch = true := by decide +kernel
  obtain ⟨-, -, hact⟩ := h verdictInWatch 5000000 _ _ 0 waitingAnswer hl hm hs rfl rfl rfl rfl (by decide +kernel) rfl rfl
  obtain ⟨s', hs', -, -, -, -, -, huhf, -⟩ := hact (by decide +kernel) (by decide +kernel) (by decide +kernel)
  have hend : exec (.verdictPass 5000000) verdictInWatch = .next (finish (verdictPass (elapse 5000000 verdictInWatch))) :=
    command_live 5000000 verdictPass verdictInWatch hl
  obtain rfl : finish (verdictPass (elapse 5000000 verdictInWatch)) = s' := by simpa [hend] using hs'
  refine finish_watch_walk (x := verdictPass (elapse 5000000 verdictInWatch)) (by decide +kernel) (by decide +kernel)
    (by decide +kernel) ?_
  rw [huhf]
  rfl

end Sys2Proof.Machine
end

section
/-! SUPPORT. A qualification at the last tick that TIMEBASE can show. -/
namespace Sys2Proof.Machine

/-- A device without content at the last tick of TIMEBASE, which is odd. -/
def lastTick : State :=
  { workingDevice with clk := { workingDevice.clk with tb := BitVec.allOnes 64, content := .none } }

/-- Refutes O48: where the qualification of Fast 19.2 moves an odd TIMEBASE to the next even tick (R65), TIMEBASE has 64
bits, and at its last tick there is no tick one later. -/
theorem not_clockIsLostAndRegained : ¬ Obligations.ClockIsLostAndRegained := by
  intro h
  have hm : memorySafe lastTick := by
    unfold memorySafe
    decide +kernel
  have hs : shaped lastTick := by
    unfold shaped
    decide +kernel
  obtain ⟨-, -, -, -, hqual, -⟩ := h lastTick 0 (by decide +kernel) hm hs
  obtain ⟨hfreq, -⟩ := hqual (.inl rfl) rfl rfl (by decide)
  obtain ⟨hout, -⟩ := hfreq 1920000
  obtain ⟨s', -, -, -, -, hfast19, -⟩ := hout (.inl (by decide))
  obtain ⟨-, -, -, hnow⟩ := hfast19 (by decide)
  have hlast : now lastTick = 2 ^ 64 - 1 := by decide
  have hlt : now s' < 2 ^ 64 := s'.clk.tb.isLt
  omega

end Sys2Proof.Machine
end

section
/-! SUPPORT. A release of a system reset while a record of its tick waits for recall. -/
namespace Sys2Proof.Machine

/-- In a system reset, with a record of a CAN violation of this tick that waits for recall. -/
def heldInReset : State :=
  { workingDevice with
    pwr := { workingDevice.pwr with inReset := true }
    nv := { workingDevice.nv with ledgerReady := false }
    lgr := { workingDevice.lgr with buffered := [.device ⟨0x39, 0, 0, 0, 5000000⟩] } }

/-- Refutes O52: records of one tick stand in the order of their islands (R25), so that the record of the low VHOLD goes
before a record of the CAN island that already waits, and not behind it. -/
theorem not_resetsKeepTimeAndMram : ¬ Obligations.ResetsKeepTimeAndMram := by
  intro h
  have hm : memorySafe heldInReset := by
    unfold memorySafe
    decide +kernel
  have hs : shaped heldInReset := by
    unfold shaped
    decide +kernel
  obtain ⟨-, -, -, -, -, -, -, hrelease⟩ := h heldInReset 0 (by decide +kernel) hm hs
  obtain ⟨⟨s', hs', -, -, -, -, -, -, hlow⟩, -⟩ := hrelease 100 500 rfl rfl (by decide) rfl rfl (by decide)
  have hbuf := hlow (by decide)
  obtain ⟨x, hx, hfirst⟩ := nextMeets_exists
    (p := fun s => s.lgr.buffered.head? != some (.device ⟨0x39, 0, 0, 0, 5000000⟩))
    (o := exec (.systemResetRelease 0 100 500) heldInReset) (by decide +kernel)
  obtain rfl : x = s' := by simpa [hx] using hs'
  rw [hbuf] at hfirst
  exact absurd hfirst (by decide +kernel)

end Sys2Proof.Machine
end

section
/-! SUPPORT. The recall of an empty ledger with a device record whose copies differ at one SEQ. -/
namespace Sys2Proof.Machine

/-- Before recall, with an empty ledger and such a device record. -/
def twinBeforeRecall : State :=
  { workingDevice with
    nv := { Nv.reset with recs := [(0x0100, ⟨some ⟨5, [1]⟩, some ⟨5, [2]⟩⟩)] }
    lgr := Lgr.reset }

/-- Refutes O54: recall records a twin conflict of a device record (R354), so that GENESIS is not the only record in block
1 of a ledger that it begins. -/
theorem not_startsRecallLoadAndBoot : ¬ Obligations.StartsRecallLoadAndBoot := by
  intro h
  have hm : memorySafe twinBeforeRecall := by
    unfold memorySafe
    decide +kernel
  have hs : shaped twinBeforeRecall := by
    unfold shaped
    decide +kernel
  obtain ⟨hrecall, -⟩ := h twinBeforeRecall 0 (by decide +kernel) hm hs
  obtain ⟨s', hs', -, -, -, -, hempty⟩ := hrecall (by decide) (by decide +kernel) rfl
  obtain ⟨-, hopen, -⟩ := hempty rfl (by decide +kernel) (by decide +kernel) (by decide +kernel) rfl rfl rfl rfl rfl rfl
    (by decide +kernel)
  obtain ⟨x, hx, htwo⟩ := nextMeets_exists (p := fun s => s.lgr.openRecs == some 2)
    (o := exec (.nvRecall 0) twinBeforeRecall) (by decide +kernel)
  obtain rfl : x = s' := by simpa [hx] using hs'
  rw [hopen] at htwo
  exact absurd htwo (by decide)

end Sys2Proof.Machine
end

section
/-! SUPPORT. A confirmed trial of a bank that does not exist. -/
namespace Sys2Proof.Machine

/-- A CONFIRM of bank 2, whose record would have the number of the bank selection's. -/
def confirmDesc : Desc := hostDesc 0x69 2 0 0 0 [1]

/-- A device whose Drover carries out that descriptor, with bank 2 on trial: where its record would stand, the bank
selection reads like that of a valid bank of VERSION 9. -/
def confirmsBankTwo : State :=
  let s := flying [confirmDesc] workingDevice
  { s with
    hif := { s.hif with droverQ := [confirmDesc] }
    lcy := { s.lcy with running := 2, trial := some (0, 0) }
    nv := { s.nv with recs := [(recSel, ⟨some ⟨1, bankBytes true 9 16⟩, none⟩)] }
    lgr := { s.lgr with closed := true } }

/-- What a completion leaves of MINVER. -/
theorem answers_minVer {d : Desc} {st det : Nat} {res : Bytes} {s s' : State} (h : answers d st res det s s') :
    minVer s' = minVer s := by
  obtain ⟨-, hblank, -⟩ := h
  have hmem : s'.nv.mem = s.nv.mem := congrArg (fun x => x.nv.mem) hblank
  have hbad : s'.nv.bad = s.nv.bad := congrArg (fun x => x.nv.bad) hblank
  unfold minVer tallyVal tally validCells cellVal nvPeek
  rw [hmem, hbad]

/-- Refutes O56: the bank selection that CONFIRM stores first can be the record that the confirmed bank's VERSION is read
from, and MINVER does not rise to the VERSION before. -/
theorem not_firmwareIsActivated : ¬ Obligations.FirmwareIsActivated := by
  intro h
  have hm : memorySafe confirmsBankTwo := by
    unfold memorySafe
    decide +kernel
  have hs : shaped confirmsBankTwo := by
    unfold shaped
    decide +kernel
  obtain ⟨-, hconfirm, -⟩ := h confirmsBankTwo 0 (by decide +kernel) hm hs rfl
  obtain ⟨htrial, -⟩ := hconfirm confirmDesc ⟨by decide +kernel, hm, hs, by decide +kernel⟩ (by decide) (by decide) (by decide)
  obtain ⟨s1, s', hs', hans, -, -, hmin⟩ := htrial (by decide) rfl rfl (by decide +kernel) (by decide +kernel)
  obtain ⟨x, hx, hzero⟩ := nextMeets_exists (p := fun s => minVer s == 0)
    (o := exec (.fwActivateConfirm 0 confirmDesc) confirmsBankTwo) (by decide +kernel)
  obtain rfl : x = s' := by simpa [hx] using hs'
  rw [answers_minVer hans, hmin] at hzero
  exact absurd hzero (by decide +kernel)

end Sys2Proof.Machine
end

section
/-! SUPPORT. A served descriptor of any row, the end of a start permission, and the STARTEN lines. -/
namespace Sys2Proof.Machine

/-! ## A served descriptor -/

/-- A descriptor of a row is read as it is. -/
theorem asOp_self {op : Nat} {d : Desc} (h : isRow op d = true) : asOp op d = d := by
  simp only [isRow, Bool.and_eq_true, beq_iff_eq] at h
  obtain ⟨-, rfl⟩ := h
  rfl

theorem opcode_of_isRow {op : Nat} {d : Desc} (h : isRow op d = true) : d.opcode = op := by
  simp only [isRow, Bool.and_eq_true, beq_iff_eq] at h
  exact h.2

/-- A served descriptor: its command is its unit's work, from the state at the tick but for the host interface's
bookkeeping. -/
theorem served_atUnit {t : Nat} {d : Desc} {s : State} (hs : serves t d s) :
    ∃ h : Hif, atWork d (elapse t s) = withHif h (elapse t s) ∧ h.qps = (elapse t s).hif.qps ∧
      h.busMaster = (elapse t s).hif.busMaster ∧ Answerable d (withHif h (elapse t s)) ∧
      ∀ run, descCommand t d run s = .next (finish (run d (withHif h (elapse t s)))) := by
  obtain ⟨hrun, hmem, -, hat⟩ := hs
  obtain ⟨hx, hq, hb, hh⟩ := atWork_eq d (elapse t s) hat
  obtain ⟨hhost, hwait, hqueue⟩ := live_waits (t := t) ((running_iff s).mp hrun).1
  change atWork d (elapse t s) = withHif (atWork d (elapse t s)).hif (elapse t s) at hx
  refine ⟨_, hx, hq, hb, ⟨by rw [← hx]; exact hh, ?_, hhost, hwait, hqueue⟩, fun run => ?_⟩
  · simpa [withHif] using hmem.1
  · rw [← hx]
    exact descCommand_atUnit t d run s hrun hat

/-! ## The word of a plain write -/

/-- A field of a plain write that is in range reads as written (R9). -/
theorem fld_writeRows {off : Nat} (v : Word) {s : State} (hfree : ∀ x, held off x = false) (h : Regs.wf s = true)
    (hf : ∀ r ∈ rwRows s.part off, r.1.fits = true)
    (hd : (rwRows s.part off).Pairwise (fun a b => disjointFields a.1 b.1)) {r : Field × (Nat → Bool)}
    (hr : r ∈ rwRows s.part off) (ho : r.1.off = off) (hok : r.2 (r.1.of v) = true) :
    fld r.1 (writeRows off v s) = r.1.of v := by
  obtain ⟨x, hx, hw⟩ := writeRows_free off v s hfree (List.ne_nil_of_mem hr)
  have hxw : Regs.wf x = true := by
    rcases hx with rfl | rfl
    · exact h
    · exact regs_wf_setFld _ _ _ h
  rw [hw, fld, ho, regGet_regSet_same _ _ _ hxw, of_rowsWord_mem _ v _ hf hd hr, if_pos hok]

/-! ## The end of a permission -/

/-- A change of the driver of record is recorded (R287). -/
theorem Recorded.setDriver {cells offs : List Nat} (dor co : Nat) (present : Bool) (s : State)
    (hr : s.nv.ledgerReady = true) (ho : FLK_DRIVER.reg ∈ offs) : Recorded cells offs s (setDriver dor co present s) := by
  have hin : FLK_DRIVER.reg ∈ recordRegs ++ offs := List.mem_append_right _ ho
  have hregs := ((Recorded.setFld (cells := cells) (offs := offs) FLK_DRIVER.CO_PRESENT (b2n present) s hin).trans
    (Recorded.setFld FLK_DRIVER.CO co _ hin)).trans (Recorded.setFld FLK_DRIVER.DOR dor _ hin)
  unfold Machine.setDriver
  dsimp only
  split
  · exact hregs.trans (Recorded.append _ _ _ _ (hregs.ledgerReady.trans hr))
  · exact hregs

/-- The driver of record reads as it was set. -/
theorem fld_setDriver_dor (dor co : Nat) (present : Bool) (s : State) (hr : s.nv.ledgerReady = true)
    (hw : Regs.wf s = true) : fld FLK_DRIVER.DOR (setDriver dor co present s) = dor % 2 ^ 8 := by
  let x : State := setFld FLK_DRIVER.CO co (setFlag FLK_DRIVER.CO_PRESENT present s)
  have hset : fld FLK_DRIVER.DOR (setFld FLK_DRIVER.DOR dor x) = dor % 2 ^ 8 :=
    fld_setFld_same FLK_DRIVER.DOR (by decide) dor x (regs_wf_setFld _ _ _ (regs_wf_setFld _ _ _ hw))
  have hrec : Recorded [] [] (setFld FLK_DRIVER.DOR dor x)
      (append 0x29 dor (co + 256 * b2n present) (setFld FLK_DRIVER.DOR dor x)) := Recorded.append _ _ _ _ hr
  simp only [setDriver]
  split
  · rw [← hset]
    exact hrec.fld FLK_DRIVER.DOR (by decide)
  · exact hset

/-- The end of a permission, or of none, is recorded (Table 12.9). -/
theorem Recorded.endPermission {cells : List Nat} (reason code : Nat) (s : State) (hr : s.nv.ledgerReady = true) :
    Recorded cells [FLK_STATUS.reg, FLK_DRIVER.reg] { s with flk := { s.flk with perm := none } }
      (endPermission reason code s) := by
  unfold Machine.endPermission
  split
  · next hnone =>
    have hsame : { s.flk with perm := none } = s.flk := by rw [← hnone]
    rw [hsame]
    exact Recorded.refl s
  · have hregs := (Recorded.setFld (cells := cells) (offs := [FLK_STATUS.reg, FLK_DRIVER.reg]) FLK_STATUS.END_REASON
      reason { s with flk := { s.flk with perm := none } } (by decide)).trans
      (Recorded.setFld FLK_STATUS.START_ACTIVE 0 _ (by decide))
    have hrec := hregs.trans (Recorded.append 0x2B reason code _ hr)
    exact hrec.trans (Recorded.setDriver _ _ _ _ (hrec.ledgerReady.trans hr) (by decide))

/-- With none there is nothing to end. -/
theorem endPermission_none (reason code : Nat) {s : State} (h : s.flk.perm = none) : endPermission reason code s = s := by
  simp only [endPermission, h]

/-- What its registers read then. -/
theorem endPermission_fields (reason code : Nat) {s : State} (hp : s.flk.perm.isSome = true)
    (hr : s.nv.ledgerReady = true) (hw : Regs.wf s = true) :
    fld FLK_STATUS.START_ACTIVE (endPermission reason code s) = 0 ∧
      fld FLK_STATUS.END_REASON (endPermission reason code s) = reason % 2 ^ 4 ∧
      fld FLK_DRIVER.DOR (endPermission reason code s) = 0xFF := by
  obtain ⟨p, hp⟩ := Option.isSome_iff_exists.mp hp
  let x : State := setFld FLK_STATUS.END_REASON reason { s with flk := { s.flk with perm := none } }
  let y : State := setFld FLK_STATUS.START_ACTIVE 0 x
  let z : State := append 0x2B reason code y
  have hend : endPermission reason code s = clearDriver z := by simp only [endPermission, hp, z, y, x]
  have hx : Regs.wf x = true := regs_wf_setFld _ _ _ hw
  have hy : Regs.wf y = true := regs_wf_setFld _ _ _ hx
  have hz : Recorded [] [] y z := Recorded.append _ _ _ _ hr
  have hzr := hz.ledgerReady.trans hr
  have hdrv : Recorded [] [FLK_DRIVER.reg] z (clearDriver z) := Recorded.setDriver _ _ _ _ hzr (by decide)
  rw [hend]
  refine ⟨?_, ?_, ?_⟩
  · rw [hdrv.fld FLK_STATUS.START_ACTIVE (by decide), hz.fld FLK_STATUS.START_ACTIVE (by decide)]
    exact fld_setFld_same FLK_STATUS.START_ACTIVE (by decide) 0 x hx
  · rw [hdrv.fld FLK_STATUS.END_REASON (by decide), hz.fld FLK_STATUS.END_REASON (by decide),
      fld_setFld_apart FLK_STATUS.START_ACTIVE FLK_STATUS.END_REASON (by decide) (by decide) 0 x hx]
    exact fld_setFld_same FLK_STATUS.END_REASON (by decide) reason _ hw
  · exact fld_setDriver_dor _ _ _ _ hzr (hz.regs_wf hy)

/-! ## FLK_START_DISABLE -/

/-- What a write of FLK_START_CTL does before it acts. -/
def startFields (v : Word) (s : State) : State :=
  writeClr FLK_START_CTL.reg v (writeRows FLK_START_CTL.reg v (wrW1cs (w1cRows FLK_START_CTL.reg) v s))

/-- It writes the register, and ERR_RANGE. -/
theorem startFields_written (v : Word) (s : State) :
    RowsWritten [FLK_START_CTL.reg, FLK_STATUS.reg] s (startFields v s) :=
  RowsWritten.plain FLK_START_CTL.reg v s rfl (by decide)

/-- Its rows. -/
theorem rwRows_start (p : Part) : rwRows p FLK_START_CTL.reg =
    [(FLK_START_CTL.HOLD_S, inRange 0 3600), (FLK_START_CTL.EN, anyVal)] := by
  cases p <;> rfl

/-- Each field in range after the write. -/
theorem startFields_fld (v : Word) {s : State} (h : Regs.wf s = true) {r : Field × (Nat → Bool)}
    (hr : r ∈ [(FLK_START_CTL.HOLD_S, inRange 0 3600), (FLK_START_CTL.EN, anyVal)]) (hok : r.2 (r.1.of v) = true) :
    fld r.1 (startFields v s) = r.1.of v := by
  have hw := fld_writeRows (off := FLK_START_CTL.reg) (r := r) v (s := s) (fun _ => rfl) h
  rw [rwRows_start] at hw
  refine hw ?_ ?_ hr ?_ hok
  · intro a ha
    simp only [List.mem_cons, List.not_mem_nil, or_false] at ha
    rcases ha with rfl | rfl <;> rfl
  · simp [disjointFields, FLK_START_CTL.HOLD_S, FLK_START_CTL.EN]
  · simp only [List.mem_cons, List.not_mem_nil, or_false] at hr
    rcases hr with rfl | rfl <;> rfl

/-- The store of a write with EN clear ends the permission (R289). -/
theorem barStore_startDisable (v : Word) (s : State) (hv : FLK_START_CTL.EN.of v = 0) :
    barStore FLK_START_CTL.reg v s = endPermission 7 0 (startFields v s) := by
  rw [barStore_plain FLK_START_CTL.reg v s (by decide +kernel) (fun h => absurd h (by decide))]
  simp [writePlain, startFields, writeActs, hv, LFE_CTL.reg, FLD_CTL.reg, UHF_CTL.reg, UWB_CTL.reg, VRD_CTL.reg,
    FLK_CTL.reg, FLK_START_CTL.reg]

/-- FLK_START_DISABLE ends a permission with reason 7 (R289). -/
theorem flkStartDisable_ends (s : State) (t : Nat) (v : Word) (hl : live s = true) (hm : memorySafe s)
    (hr : s.nv.ledgerReady = true) (hi : islandOn .pcie s = true) (hv : FLK_START_CTL.HOLD_S.of v ≤ 3600) :
    ∃ s', exec (.flkStartDisable t v) s = .next s' ∧ s'.flk.perm = none ∧ fld FLK_START_CTL.EN s' = 0 ∧
      fld FLK_START_CTL.HOLD_S s' = FLK_START_CTL.HOLD_S.of v ∧
      (s.flk.perm.isSome = true → fld FLK_STATUS.START_ACTIVE s' = 0 ∧ fld FLK_STATUS.END_REASON s' = 7 ∧
        fld FLK_DRIVER.DOR s' = 0xFF) ∧
      (s.flk.perm = none → s'.flk = s.flk ∧
        keepsRegs [FLK_START_CTL.reg, FLK_STATUS.reg] (written t FLK_START_CTL.reg s) s') := by
  obtain ⟨-, -, -, -, hregs, -⟩ := hm
  have hww := written_wf t FLK_START_CTL.reg s hl hregs
  have hen : FLK_START_CTL.EN.of (FLK_START_CTL.EN.put 0 v) = 0 := Field.of_put _ (by decide) 0 v
  have hhold : FLK_START_CTL.HOLD_S.of (FLK_START_CTL.EN.put 0 v) = FLK_START_CTL.HOLD_S.of v :=
    Field.of_put_apart _ _ (by decide) (by decide) 0 v
  let x : State := startFields (FLK_START_CTL.EN.put 0 v) (written t FLK_START_CTL.reg s)
  have hx : RowsWritten [FLK_START_CTL.reg, FLK_STATUS.reg] (written t FLK_START_CTL.reg s) x := startFields_written _ _
  have hxw : Regs.wf x = true := hx.kept.wf hww
  have hframe : x = { elapse t s with
      regs := x.regs, heldWr := x.heldWr, pwr := x.pwr, latchHi := x.latchHi } := by
    have h := hx.frame
    rw [written_eq t _ s hl] at h
    rw [h]
  have hxr : x.nv.ledgerReady = true := by rw [hframe]; simpa using hr
  have hxf : x.flk = s.flk := by rw [hframe]; simp
  have hrec : Recorded [] [FLK_STATUS.reg, FLK_DRIVER.reg] { x with flk := { x.flk with perm := none } }
      (endPermission 7 0 x) := Recorded.endPermission 7 0 x hxr
  have hset : settles (endPermission 7 0 x) (finish (endPermission 7 0 x)) :=
    finish_settles_recorded (s := s) hl (by rw [hframe]; simp) (by rw [hframe]; simp) hrec
  refine ⟨finish (endPermission 7 0 x), ?_, ?_, ?_, ?_, fun hp => ?_, fun hp => ?_⟩
  · have h := regWrite_live t FLK_START_CTL.reg (FLK_START_CTL.EN.put 0 v) s hl hi (by decide)
    rw [barStore_startDisable _ _ hen] at h
    exact h
  · rw [settles_flk hset, hrec.flk]
  · rw [settles_fld hset, hrec.fld FLK_START_CTL.EN (by decide)]
    exact (startFields_fld _ hww (r := (FLK_START_CTL.EN, anyVal)) (by simp) rfl).trans hen
  · rw [settles_fld hset, hrec.fld FLK_START_CTL.HOLD_S (by decide), ← hhold]
    exact startFields_fld _ hww (r := (FLK_START_CTL.HOLD_S, inRange 0 3600)) (by simp)
      ((inRange_iff _ _ _).mpr ⟨Nat.zero_le _, hhold ▸ hv⟩)
  · rw [settles_fld hset, settles_fld hset, settles_fld hset]
    exact endPermission_fields 7 0 (by rw [hxf]; exact hp) hxr hxw
  · rw [endPermission_none 7 0 (by rw [hxf]; exact hp)] at hset
    rw [endPermission_none 7 0 (by rw [hxf]; exact hp)]
    refine ⟨(settles_flk hset).trans hxf, fun off ho => ?_⟩
    rw [settles_regGet hset]
    exact hx.kept.keeps off ho

end Sys2Proof.Machine
end

section
/-! SUPPORT. START_HOLD_EXPIRY, START_REVOKE and the STARTEN tick. -/
namespace Sys2Proof.Machine

section
variable {s : State} {t : Nat} {d : Desc}

/-- OK is quiet for every opcode. -/
theorem quietStatus_ok (op : Nat) : quietStatus stOk op = true := rfl

/-! ## START_HOLD_EXPIRY -/

/-- The effect of START_HOLD_EXPIRY under a permission. -/
theorem startHoldExpiry_eq (hl : live s = true) {p : Permission} (hp : s.flk.perm = some p) :
    exec (.startHoldExpiry t) s = .next (finish
      (onlyIf (p.hold != 0 && p.grant + secTicks p.hold ≤ now (elapse t s)) (endPermission 3 0) (elapse t s))) := by
  refine (command_live t _ s hl).trans ?_
  simp only [elapse_flk, hp]

/-- It ends a permission whose time has come (R289). -/
theorem startHoldExpiry_ends (hl : live s = true) (hm : memorySafe s) (hr : s.nv.ledgerReady = true) {p : Permission}
    (hp : s.flk.perm = some p) (h0 : p.hold ≠ 0) (hdue : p.grant + secTicks p.hold ≤ now (elapse t s)) :
    ∃ s', exec (.startHoldExpiry t) s = .next s' ∧ s'.flk = { s.flk with perm := none } ∧
      fld FLK_STATUS.START_ACTIVE s' = 0 ∧ fld FLK_STATUS.END_REASON s' = 3 ∧ fld FLK_DRIVER.DOR s' = 0xFF := by
  obtain ⟨-, -, -, -, hregs, -⟩ := hm
  have hready : (elapse t s).nv.ledgerReady = true := by simpa using hr
  have hrec : Recorded [] [FLK_STATUS.reg, FLK_DRIVER.reg]
      { elapse t s with flk := { (elapse t s).flk with perm := none } } (endPermission 3 0 (elapse t s)) :=
    Recorded.endPermission 3 0 _ hready
  have hset := finish_settles_recorded (s := s) hl (by simp) (by simp) hrec
  have hcond : (p.hold != 0 && decide (p.grant + secTicks p.hold ≤ now (elapse t s))) = true := by
    simp [h0, hdue]
  refine ⟨finish (endPermission 3 0 (elapse t s)), ?_, ?_, ?_⟩
  · rw [startHoldExpiry_eq hl hp, onlyIf, if_pos hcond]
  · rw [settles_flk hset, hrec.flk]
    simp
  · rw [settles_fld hset, settles_fld hset, settles_fld hset]
    exact endPermission_fields 3 0 (by simp [hp]) hready (by simpa [Regs.wf] using hregs)

/-- And no other. -/
theorem startHoldExpiry_early (hl : live s = true) {p : Permission} (hp : s.flk.perm = some p)
    (h : p.hold = 0 ∨ now (elapse t s) < p.grant + secTicks p.hold) :
    ∃ s', exec (.startHoldExpiry t) s = .next s' ∧ settles (elapse t s) s' := by
  have hcond : (p.hold != 0 && decide (p.grant + secTicks p.hold ≤ now (elapse t s))) = false := by
    rcases h with h | h
    · simp [h]
    · simp [Nat.not_le.mpr h]
  refine ⟨finish (elapse t s), ?_, finish_settles_of s _ hl (by simp) (by simp)⟩
  rw [startHoldExpiry_eq hl hp, onlyIf, hcond]
  rfl

/-! ## START_REVOKE -/

/-- What an ended permission leaves, with the revocations that wait. -/
def revoked (l : List (Desc × Bool)) (s : State) : State := { s with flk := { s.flk with perm := none, revoke := l } }

/-- START_REVOKE answers at once while the lines are static (R290). -/
theorem startRevoke_static (hs : serves t d s) (hrow : isRow 0x3B d = true) (hpar : parNonzero 1 24 d = none)
    (hr : s.nv.ledgerReady = true) (ha : s.pins.startA = false) (hb : s.pins.startB = false) :
    ∃ s1 s', exec (.startRevoke t d) s = .next s' ∧
      answers d stOk ([byteOf (b2n s.flk.perm.isSome), 0] ++ leBytes 8 s.flk.lastEdge) 0 s1 s' ∧
      (s.flk.perm = none → s1 = elapse t s) ∧
      recordsOnly [] [FLK_STATUS.reg, FLK_DRIVER.reg]
        { elapse t s with flk := { s.flk with perm := none } } s1 ∧
      (s.flk.perm.isSome = true → fld FLK_STATUS.START_ACTIVE s' = 0 ∧ fld FLK_STATUS.END_REASON s' = 2 ∧
        fld FLK_DRIVER.DOR s' = 0xFF) := by
  obtain ⟨h, -, hq, -, hans, hexec⟩ := served_atUnit hs
  obtain ⟨-, -, -, -, hregs, -⟩ := hs.2.1
  let x : State := withHif h (elapse t s)
  have hxr : x.nv.ledgerReady = true := by simpa [x] using hr
  have hxf : x.flk = s.flk := by simp [x, withHif]
  have hxw : Regs.wf x = true := by simpa [x, withHif, Regs.wf] using hregs
  have hrec : Recorded [] [FLK_STATUS.reg, FLK_DRIVER.reg] { x with flk := { x.flk with perm := none } }
      (endPermission 2 (p8 d 0) x) := Recorded.endPermission 2 _ x hxr
  have hpins : (endPermission 2 (p8 d 0) x).pins = s.pins := by
    rw [show (endPermission 2 (p8 d 0) x).pins = x.pins from (congrArg State.pins hrec.blank :)]
    simp [x, withHif]
  have hflk : (endPermission 2 (p8 d 0) x).flk = { s.flk with perm := none } := by rw [hrec.flk, hxf]
  have hend : answers d stOk ([byteOf (b2n s.flk.perm.isSome), 0] ++ leBytes 8 s.flk.lastEdge) 0
      (endPermission 2 (p8 d 0) x) (finish (revokeUnit d x)) := by
    have hunit : revokeUnit d x = complete d stOk ([byteOf (b2n s.flk.perm.isSome), 0] ++ leBytes 8 s.flk.lastEdge) 0
        (endPermission 2 (p8 d 0) x) := by
      simp only [revokeUnit, reserved_free hpar, hpins, ha, hb, hflk, hxf, Bool.or_self, Bool.false_eq_true, if_false]
    rw [hunit]
    exact Answerable.quiet (Answerable.recorded (s := { x with flk := { x.flk with perm := none } })
      ⟨hans.heard, hans.mem, hans.hostWait, hans.wait, hans.queue⟩ hrec) (quietStatus_ok _)
  have hrun : exec (.startRevoke t d) s = .next (finish (revokeUnit d x)) := by
    show descCommand t (asOp 0x3B d) revokeUnit s = _
    rw [asOp_self hrow, hexec revokeUnit]
  cases hp : s.flk.perm with
  | none =>
    have hx : endPermission 2 (p8 d 0) x = x := endPermission_none 2 _ (by rw [hxf]; exact hp)
    rw [hx] at hend
    refine ⟨elapse t s, _, hrun, ?_, fun _ => rfl, ?_, fun hn => absurd hn (by simp)⟩
    · rw [hp] at hend
      exact answers_of_withHif hq hend
    · have hsame : { s.flk with perm := none } = (elapse t s).flk := by rw [elapse_flk, ← hp]
      rw [hsame]
      exact ⟨rfl, fun _ _ => rfl, fun _ _ _ => rfl⟩
  | some p =>
    rw [hp] at hend
    refine ⟨_, _, hrun, hend, fun hn => absurd hn (by simp), ?_, fun _ => ?_⟩
    · refine hrec.recordsOnly ?_ rfl rfl
      rw [hxf]
      rfl
    · rw [fld, fld, fld, completesOnly_regGet hend.2, completesOnly_regGet hend.2, completesOnly_regGet hend.2]
      exact endPermission_fields 2 _ (by rw [hxf, hp]; rfl) hxr hxw

/-- While they toggle it waits for their static edge (R290). -/
theorem startRevoke_toggling (hs : serves t d s) (hrow : isRow 0x3B d = true) (hpar : parNonzero 1 24 d = none)
    (hr : s.nv.ledgerReady = true) (hab : s.pins.startA = true ∨ s.pins.startB = true) :
    ∃ s', exec (.startRevoke t d) s = .next s' ∧
      recordsOnly [] [FLK_STATUS.reg, FLK_DRIVER.reg]
        { elapse t s with flk := { s.flk with perm := none, revoke := s.flk.revoke ++ [(d, s.flk.perm.isSome)] } } s' := by
  obtain ⟨h, -, -, -, hans, hexec⟩ := served_atUnit hs
  let x : State := withHif h (elapse t s)
  have hxr : x.nv.ledgerReady = true := by simpa [x] using hr
  have hxf : x.flk = s.flk := by simp [x, withHif]
  have hrec : Recorded [] [FLK_STATUS.reg, FLK_DRIVER.reg] { x with flk := { x.flk with perm := none } }
      (endPermission 2 (p8 d 0) x) := Recorded.endPermission 2 _ x hxr
  have hpins : (endPermission 2 (p8 d 0) x).pins = s.pins := by
    rw [show (endPermission 2 (p8 d 0) x).pins = x.pins from (congrArg State.pins hrec.blank :)]
    simp [x, withHif]
  have hflk : (endPermission 2 (p8 d 0) x).flk = { s.flk with perm := none } := by rw [hrec.flk, hxf]
  let y : State := { endPermission 2 (p8 d 0) x with
    flk := { s.flk with perm := none, revoke := s.flk.revoke ++ [(d, s.flk.perm.isSome)] } }
  have hunit : revokeUnit d x = y := by
    have hor : (s.pins.startA || s.pins.startB) = true := by rcases hab with h | h <;> simp [h]
    simp only [revokeUnit, reserved_free hpar, hpins, hor, if_true, hflk, hxf, y]
  have hy : recordsOnly [] [FLK_STATUS.reg, FLK_DRIVER.reg]
      { elapse t s with flk := { s.flk with perm := none, revoke := s.flk.revoke ++ [(d, s.flk.perm.isSome)] } } y := by
    obtain ⟨hb, hk, ha⟩ := hrec.recordsOnly (s := { elapse t s with flk := { s.flk with perm := none } })
      (by rw [hxf]; rfl) rfl rfl
    exact ⟨congrArg (fun z : State => { z with
      flk := { s.flk with perm := none, revoke := s.flk.revoke ++ [(d, s.flk.perm.isSome)] } }) hb, hk, ha⟩
  refine ⟨finish y, ?_, recordsOnly_settles hy (finish_settles y ?_ ?_ ?_)⟩
  · show descCommand t (asOp 0x3B d) revokeUnit s = _
    rw [asOp_self hrow, hexec revokeUnit]
    exact congrArg (fun z => Host.Outcome.next (finish z)) hunit
  · exact (congrArg (fun l => l.all (fun p : Desc × Nat => decide (p.2 ≠ 0))) hrec.hostWait).trans hans.hostWait
  · exact (congrArg Fold.wait hrec.fold).trans hans.wait
  · exact (congrArg Fold.queue hrec.fold).trans hans.queue

/-! ## STARTEN_TICK -/

/-- The lines take levels, on the pads and in channels 29 and 30 (R288, R405); `s0` is the state at the tick. -/
def linesAt (s s0 : State) (a b : Bool) (s' : State) : Prop :=
  (chan 29 s').out = a ∧ (chan 30 s').out = b ∧
  (∀ k < 32, { chan k s' with out := (chan k s).out } = chan k s) ∧ (∀ k < 29, chan k s' = chan k s) ∧
  settles { s0 with
    pins := { s.pins with startA := a, startB := b }
    tmr := { s.tmr with ch := s'.tmr.ch }
    flk := { s.flk with
      lastEdge := if a = s.pins.startA ∧ b = s.pins.startB then s.flk.lastEdge else now s0 } } s'

/-- A channel after a channel is set. -/
theorem chan_setChan (n k : Nat) (c : Channel) (s : State) (hk : n < s.tmr.ch.length) :
    chan k (setChan n c s) = if k = n then c else chan k s := by
  simp only [chan, setChan, List.getD_eq_getElem?_getD, List.getElem?_set]
  by_cases h : n = k
  · subst h
    simp [hk]
  · rw [if_neg h, if_neg (Ne.symm h)]

/-- The channels after the lines are set. -/
theorem chan_setStarten (a b : Bool) (k : Nat) (s : State) (h : s.tmr.ch.length = 32) :
    chan k (setStarten a b s) =
      if k = 30 then { chan 30 s with out := b } else if k = 29 then { chan 29 s with out := a } else chan k s := by
  rw [setStarten, chan_setChan _ _ _ _ (by simp [setChan, h]), chan_setChan _ _ _ _ (by simp [h])]
  rfl

/-- The lines as they are set at a tick. -/
theorem setStarten_linesAt (a b : Bool) (hl : live s = true) (h : s.tmr.ch.length = 32) :
    linesAt s (elapse t s) a b (finish (setStarten a b (elapse t s))) := by
  have hset : settles (setStarten a b (elapse t s)) (finish (setStarten a b (elapse t s))) :=
    finish_settles_of s _ hl (by simp [setStarten, setChan]) (by simp [setStarten, setChan])
  have hch : ∀ k, chan k (finish (setStarten a b (elapse t s))) =
      if k = 30 then { chan 30 s with out := b } else if k = 29 then { chan 29 s with out := a } else chan k s := by
    intro k
    have hc := chan_setStarten a b k (elapse t s) (by simpa using h)
    rw [show chan k (finish (setStarten a b (elapse t s))) = chan k (setStarten a b (elapse t s)) by
      rw [chan, chan, settles_tmr hset], hc]
    simp [chan]
  refine ⟨by rw [hch]; rfl, by rw [hch]; rfl, fun k _ => ?_, fun k hk => ?_, ?_⟩
  · rw [hch]
    split
    · next e => rw [e]
    · split
      · next e => rw [e]
      · rfl
  · rw [hch, if_neg (by omega), if_neg (by omega)]
  · rw [settles_tmr hset]
    have he : ({ elapse t s with
        pins := { s.pins with startA := a, startB := b }
        tmr := { s.tmr with ch := (setStarten a b (elapse t s)).tmr.ch }
        flk := { s.flk with
          lastEdge := if a = s.pins.startA ∧ b = s.pins.startB then s.flk.lastEdge else now (elapse t s) } } : State) =
        setStarten a b (elapse t s) := by
      simp only [setStarten, setChan, elapse_pins, elapse_flk, elapse_tmr]
    rw [he]
    exact hset

/-- STARTEN_TICK at a tick of the lines. -/
theorem startenTick_due (hl : live s = true) (hmod : now (elapse t s) % 19200 = 0)
    (hne : s.flk.lastEdge ≠ now (elapse t s) ∨ now (elapse t s) = 0) :
    (∀ p, s.flk.perm = some p → exec (.startenTick t) s = .next (finish
      (if s.pins.startA || s.pins.startB then setStarten (!s.pins.startA) (!s.pins.startB) (elapse t s)
       else setStarten true false (elapse t s)))) ∧
    (s.flk.perm = none → exec (.startenTick t) s = .next (finish
      (s.flk.revoke.foldl (fun s p => complete p.1 stOk ([byteOf (b2n p.2), 0] ++ leBytes 8 s.flk.lastEdge) 0 s)
        { setStarten false false (elapse t s) with
          flk := { (setStarten false false (elapse t s)).flk with revoke := [] } }))) := by
  have hcond : (now (elapse t s) % 19200 == 0 &&
      (s.flk.lastEdge != now (elapse t s) || now (elapse t s) == 0)) = true := by
    rcases hne with h | h <;> simp [h, hmod]
  have hrun : exec (.startenTick t) s = .next (finish (startenTick (elapse t s))) := command_live t startenTick s hl
  constructor
  · intro p hp
    rw [hrun]
    simp only [startenTick, onlyIf, elapse_flk, hp, elapse_pins, hcond, if_true]
  · intro hp
    rw [hrun]
    have hrev : (setStarten false false (elapse t s)).flk.revoke = s.flk.revoke := by
      simp [setStarten, setChan]
    simp only [startenTick, onlyIf, elapse_flk, hp, hcond, if_true, hrev]

/-- At another tick, or a second time at one, nothing happens. -/
theorem startenTick_idle (hl : live s = true)
    (h : now (elapse t s) % 19200 ≠ 0 ∨ s.flk.lastEdge = now (elapse t s) ∧ now (elapse t s) ≠ 0) :
    ∃ s', exec (.startenTick t) s = .next s' ∧ settles (elapse t s) s' := by
  have hcond : (now (elapse t s) % 19200 == 0 &&
      ((elapse t s).flk.lastEdge != now (elapse t s) || now (elapse t s) == 0)) = false := by
    rcases h with h | ⟨h1, h2⟩
    · simp [h]
    · simp [h1, h2]
  refine ⟨finish (elapse t s), ?_, finish_settles_of s _ hl (by simp) (by simp)⟩
  have hrun : exec (.startenTick t) s = .next (finish (startenTick (elapse t s))) := command_live t startenTick s hl
  rw [hrun, startenTick, onlyIf, hcond]
  rfl

/-- The static edge answers the revocation that waits for it (R290). -/
theorem startenTick_answers (hl : live s = true) (hm : memorySafe s) (hmod : now (elapse t s) % 19200 = 0)
    (hne : s.flk.lastEdge ≠ now (elapse t s) ∨ now (elapse t s) = 0) {was : Bool} (hp : s.flk.perm = none)
    (hr : s.flk.revoke = [(d, was)]) (ha : s.pins.startA = true) (hh : heard d (elapse t s) = true) :
    ∃ s1 s', exec (.startenTick t) s = .next s' ∧
      answers d stOk ([byteOf (b2n was), 0] ++ leBytes 8 (now (elapse t s))) 0 s1 s' ∧
      s1.pins.startA = false ∧ s1.pins.startB = false ∧
      s1 = { elapse t s with
        pins := s1.pins, tmr := s1.tmr, flk := { s.flk with revoke := [], lastEdge := now (elapse t s) } } := by
  obtain ⟨hhost, hwait, hqueue⟩ := live_waits (t := t) hl
  let y : State := { setStarten false false (elapse t s) with
    flk := { (setStarten false false (elapse t s)).flk with revoke := [] } }
  have hedge : y.flk = { s.flk with revoke := [], lastEdge := now (elapse t s) } := by
    simp [y, setStarten, setChan, ha]
  refine ⟨y, _, (startenTick_due hl hmod hne).2 hp, ?_, rfl, rfl, ?_⟩
  · rw [hr]
    have hlast : y.flk.lastEdge = now (elapse t s) := by rw [hedge]
    have hfold : List.foldl (fun s p => complete p.1 stOk ([byteOf (b2n p.2), 0] ++ leBytes 8 s.flk.lastEdge) 0 s) y
        [(d, was)] = complete d stOk ([byteOf (b2n was), 0] ++ leBytes 8 (now (elapse t s))) 0 y := by
      rw [← hlast]
      rfl
    rw [hfold]
    have hans : Answerable d y := ⟨hh, by simpa [y, setStarten, setChan] using hm.1, hhost, hwait, hqueue⟩
    exact hans.quiet (quietStatus_ok _)
  · rw [← hedge]
    rfl

end

/-- Settles O13: each command of the start permission on its own. -/
theorem startLinesFollowThePermission : Obligations.StartLinesFollowThePermission := by
  refine ⟨fun s t v hl hm _ hr => ⟨fun hi hv => flkStartDisable_ends s t v hl hm hr hi hv,
    fun p hp h0 hdue => startHoldExpiry_ends hl hm hr hp h0 hdue, fun p hp h => startHoldExpiry_early hl hp h⟩, ?_⟩
  intro s t hl hm hs
  obtain ⟨-, -, -, hch, -⟩ := hs
  refine ⟨fun d hserves hrow hpar hr => ⟨fun ha hb => startRevoke_static hserves hrow hpar hr ha hb,
    fun hab => startRevoke_toggling hserves hrow hpar hr hab⟩, fun hmod hne => ⟨?_, ?_, ?_, ?_⟩,
    fun h => startenTick_idle hl h⟩
  · intro hp ha hb
    obtain ⟨p, hp⟩ := Option.isSome_iff_exists.mp hp
    refine ⟨_, (startenTick_due hl hmod hne).1 p hp, ?_⟩
    rw [if_neg (by simp [ha, hb])]
    exact setStarten_linesAt true false hl hch
  · intro hp hab
    obtain ⟨p, hp⟩ := Option.isSome_iff_exists.mp hp
    refine ⟨_, (startenTick_due hl hmod hne).1 p hp, ?_⟩
    rw [if_pos (by simpa using hab)]
    exact setStarten_linesAt _ _ hl hch
  · intro hp hrev
    refine ⟨_, (startenTick_due hl hmod hne).2 hp, ?_⟩
    have hsame : { (setStarten false false (elapse t s)).flk with revoke := [] } =
        (setStarten false false (elapse t s)).flk := by
      simp [setStarten, setChan, hrev]
    rw [hrev, hsame]
    exact setStarten_linesAt false false hl hch
  · intro d was hp hrev ha hh
    exact startenTick_answers hl hm hmod hne hp hrev ha hh

end Sys2Proof.Machine
end

section
/-! SUPPORT. Registers set field by field, and the generator's states. -/
namespace Sys2Proof.Machine

/-! ## Fields set in a row -/

/-- The fields of a list are set in order. -/
def setFlds (l : List (Field × Nat)) (s : State) : State := l.foldl (fun s p => setFld p.1 p.2 s) s

/-- What a field reads after them: the last value set, or its old one. -/
def lastSet (g : Field) (l : List (Field × Nat)) (old : Nat) : Nat :=
  l.foldl (fun o p => if p.1 = g then p.2 % 2 ^ g.width else o) old

/-- The fields of a list fit their words, and each is `g` or apart from it. -/
def readable (g : Field) (l : List (Field × Nat)) : Bool := l.all (fun p => p.1.fits && (p.1 == g || p.1.apart g))

theorem setFlds_wf (l : List (Field × Nat)) (s : State) (h : Regs.wf s = true) : Regs.wf (setFlds l s) = true := by
  induction l generalizing s with
  | nil => exact h
  | cons p l ih => exact ih _ (regs_wf_setFld _ _ _ h)

/-- A field reads as it was last set. -/
theorem fld_setFlds (l : List (Field × Nat)) (g : Field) (s : State) (h : Regs.wf s = true) (hl : readable g l = true) :
    fld g (setFlds l s) = lastSet g l (fld g s) := by
  induction l generalizing s with
  | nil => rfl
  | cons p l ih =>
    simp only [readable, List.all_cons, Bool.and_eq_true, Bool.or_eq_true, beq_iff_eq] at hl
    obtain ⟨⟨hf, hg⟩, hl⟩ := hl
    have hstep : fld g (setFld p.1 p.2 s) = if p.1 = g then p.2 % 2 ^ g.width else fld g s := by
      split
      · next e =>
        subst e
        exact fld_setFld_same _ hf _ s h
      · next e => exact fld_setFld_apart _ _ hf (hg.resolve_left e) _ s h
    exact (ih _ (regs_wf_setFld _ _ _ h) hl).trans (congrArg (lastSet g l) hstep)

/-- Every other register reads as before. -/
theorem RegsKept.setFlds {offs : List Nat} (l : List (Field × Nat)) (s : State)
    (hl : l.all (fun p => offs.contains p.1.off) = true) : RegsKept offs s (setFlds l s) := by
  induction l generalizing s with
  | nil => exact .refl offs s
  | cons p l ih =>
    simp only [List.all_cons, Bool.and_eq_true] at hl
    exact (RegsKept.setFld p.1 p.2 s (by simpa using hl.1)).trans (ih _ hl.2)

/-- Nothing but registers changes. -/
theorem setFlds_regs (l : List (Field × Nat)) (s : State) : setFlds l s = { s with regs := (setFlds l s).regs } := by
  induction l generalizing s with
  | nil => rfl
  | cons p l ih => exact ih (setFld p.1 p.2 s)

/-- A state that reads as one whose fields are set. -/
theorem settles_fld_setFlds {l : List (Field × Nat)} {s s' : State} (hs : settles (setFlds l s) s') (g : Field)
    (h : Regs.wf s = true) (hl : readable g l = true) : fld g s' = lastSet g l (fld g s) :=
  (settles_fld hs g).trans (fld_setFlds l g s h hl)

/-! ## RNG_TEST_SRC_WRITE -/

section
variable {s : State} {t : Nat}

/-- The fields that a write to RNG_CTL sets (R337). -/
def testSrcFields (v : Word) (s : State) : List (Field × Nat) :=
  (RNG_CTL.EST_EN, RNG_CTL.EST_EN.of v) ::
  if RNG_CTL.TEST_SRC.of v = 1 then
    (if lcState s ≠ 0 then [(RNG_STATUS.ERR_RANGE, 1)]
     else [(RNG_STATUS.TEST_ACTIVE, 1), (RNG_CTL.TEST_SRC, 1)] ++
      if rngState s = 4 then []
      else [(RNG_REQ_CNT.SINCE_RESEED, 0), (RNG_STATUS.RESEED_DUE, 0), (RNG_STATUS.POOL_FULL, 0), (RNG_STATUS.STATE, 1)])
  else [(RNG_STATUS.TEST_ACTIVE, 0), (RNG_CTL.TEST_SRC, 0)]

/-- It sets them and does nothing else. -/
theorem writeRngCtl_eq (v : Word) (s : State) (h : Regs.wf s = true) :
    writeRngCtl v s = setFlds (testSrcFields v s) s := by
  have hst : rngState (setFld RNG_CTL.TEST_SRC 1 (setFld RNG_STATUS.TEST_ACTIVE 1
      (setFld RNG_CTL.EST_EN (RNG_CTL.EST_EN.of v) s))) = rngState s :=
    fld_setFlds [(RNG_CTL.EST_EN, RNG_CTL.EST_EN.of v), (RNG_STATUS.TEST_ACTIVE, 1), (RNG_CTL.TEST_SRC, 1)]
      RNG_STATUS.STATE s h rfl
  unfold writeRngCtl testSrcFields
  simp only [Bool.and_eq_true, beq_iff_eq, bne_iff_ne]
  by_cases hv : RNG_CTL.TEST_SRC.of v = 1
  · by_cases h0 : lcState s = 0
    · simp only [hv, h0, ne_eq, not_true, and_false, if_false, if_true, startSteep, hst]
      split <;> rfl
    · simp only [hv, h0, ne_eq, not_false_iff, and_self, if_true]
      rfl
  · simp only [hv, false_and, if_false]
    rfl

/-- A write to RNG_CTL (R337). -/
theorem rngTestSrcWrite_sets (s : State) (t : Nat) (v : Word) (hl : live s = true) (hi : islandOn .pcie s = true)
    (hm : memorySafe s) :
    ∃ s', exec (.rngTestSrcWrite t v) s = .next s' ∧
      settles { written t RNG_CTL.reg s with regs := s'.regs } s' ∧ fld RNG_CTL.EST_EN s' = RNG_CTL.EST_EN.of v ∧
      (RNG_CTL.TEST_SRC.of v = 1 → lcState s = 0 → fld RNG_CTL.TEST_SRC s' = 1 ∧ fld RNG_STATUS.TEST_ACTIVE s' = 1 ∧
        (rngState s ≠ 4 → rngState s' = 1 ∧ fld RNG_STATUS.POOL_FULL s' = 0 ∧ fld RNG_REQ_CNT.SINCE_RESEED s' = 0)) ∧
      (RNG_CTL.TEST_SRC.of v = 1 → lcState s ≠ 0 → fld RNG_CTL.TEST_SRC s' = fld RNG_CTL.TEST_SRC s ∧
        fld RNG_STATUS.ERR_RANGE s' = 1 ∧ rngState s' = rngState s) ∧
      (RNG_CTL.TEST_SRC.of v = 0 → fld RNG_CTL.TEST_SRC s' = 0 ∧ fld RNG_STATUS.TEST_ACTIVE s' = 0 ∧
        rngState s' = rngState s) ∧
      keepsRegs [RNG_CTL.reg, RNG_STATUS.reg, RNG_REQ_CNT.reg] (written t RNG_CTL.reg s) s' := by
  obtain ⟨-, -, -, -, hregs, -⟩ := hm
  let w : State := written t RNG_CTL.reg s
  have hw : Regs.wf w = true := written_wf t _ s hl hregs
  have hlc : lcState w = lcState s := by
    have h : lcState w = lcState (elapse t s) := by
      simp only [w]
      rw [written_eq t _ s hl]
      rfl
    rw [h, elapse_lcState]
  have hfld : ∀ f : Field, f.off ≠ PWR_STATUS.reg → fld f w = fld f s := written_fld t _ hl
  have hst : rngState w = rngState s := hfld RNG_STATUS.STATE (by decide)
  have hstore : barStore RNG_CTL.reg v w = setFlds (testSrcFields v w) w := writeRngCtl_eq v w hw
  have hframe := setFlds_regs (testSrcFields v w) w
  obtain ⟨s', hs', hset⟩ := regWrite_settles t RNG_CTL.reg v s hl hi (by decide)
    (by rw [hstore, hframe]) (by rw [hstore, hframe])
  rw [hstore] at hset
  have hread := fun g (hg : readable g (testSrcFields v w) = true) => settles_fld_setFlds hset g hw hg
  have hmod : RNG_CTL.EST_EN.of v % 2 ^ 1 = RNG_CTL.EST_EN.of v := Field.of_mod RNG_CTL.EST_EN v
  refine ⟨s', hs', ?_, ?_, fun h1 h0 => ?_, fun h1 h0 => ?_, fun h1 => ?_, ?_⟩
  · rw [settles_regs hset, ← hframe]
    exact hset
  · rw [hread, testSrcFields]
    · split
      · split
        · exact hmod
        · split <;> exact hmod
      · exact hmod
    · unfold testSrcFields
      split
      · split
        · rfl
        · split <;> rfl
      · rfl
  · rw [testSrcFields, if_pos h1, if_neg (by rw [hlc]; exact not_not.mpr h0), hst] at hread
    by_cases h4 : rngState s = 4
    · rw [if_pos h4] at hread
      exact ⟨hread RNG_CTL.TEST_SRC rfl, hread RNG_STATUS.TEST_ACTIVE rfl, fun h => absurd h4 h⟩
    · rw [if_neg h4] at hread
      exact ⟨hread RNG_CTL.TEST_SRC rfl, hread RNG_STATUS.TEST_ACTIVE rfl, fun _ =>
        ⟨hread RNG_STATUS.STATE rfl, hread RNG_STATUS.POOL_FULL rfl, hread RNG_REQ_CNT.SINCE_RESEED rfl⟩⟩
  · rw [testSrcFields, if_pos h1, if_pos (by rw [hlc]; exact h0)] at hread
    exact ⟨(hread RNG_CTL.TEST_SRC rfl).trans (hfld _ (by decide)), hread RNG_STATUS.ERR_RANGE rfl,
      (hread RNG_STATUS.STATE rfl).trans hst⟩
  · rw [testSrcFields, if_neg (by omega)] at hread
    exact ⟨hread RNG_CTL.TEST_SRC rfl, hread RNG_STATUS.TEST_ACTIVE rfl, (hread RNG_STATUS.STATE rfl).trans hst⟩
  · intro off ho
    rw [settles_regGet hset]
    refine (RegsKept.setFlds (offs := [RNG_CTL.reg, RNG_STATUS.reg, RNG_REQ_CNT.reg]) (testSrcFields v w) w ?_).keeps off ho
    unfold testSrcFields
    split
    · split
      · rfl
      · split <;> rfl
    · rfl

end

end Sys2Proof.Machine
end

section
/-! SUPPORT. The generator's own events: the Steep's end, a health failure, the pool, a reseed and the estimators. -/
namespace Sys2Proof.Machine

/-! ## Register-only effects -/

/-- A state is safe to read from its register file alone. -/
theorem memorySafe_elapse_wf {s : State} (hm : memorySafe s) (t : Nat) : Regs.wf (elapse t s) = true := by
  obtain ⟨-, -, -, -, hregs, -⟩ := hm
  simpa [Regs.wf] using hregs

/-- The end of a command that set fields and noted the source's counts. -/
theorem setFlds_settles {s : State} (hl : live s = true) (l : List (Field × Nat)) (x : State)
    (hlgr : x.lgr = s.lgr) (hfold : x.fold = s.fold) : settles (setFlds l x) (finish (setFlds l x)) := by
  have hframe := setFlds_regs l x
  exact finish_settles_of s _ hl (by rw [hframe]; exact hlgr) (by rw [hframe]; exact hfold)

section
variable {s : State} {t : Nat} {o : RngObs}

/-- The source's counts are noted, and fields set. -/
def noted (o : RngObs) (s : State) : State := { s with rng := { s.rng with tested := o.tested, rctMax := o.rctMax } }

/-- What a command that notes the counts and sets fields comes to. -/
theorem noted_settles (hl : live s = true) (l : List (Field × Nat)) :
    settles { elapse t s with
        regs := (finish (setFlds l (noted o (elapse t s)))).regs
        rng := { s.rng with tested := o.tested, rctMax := o.rctMax } }
      (finish (setFlds l (noted o (elapse t s)))) := by
  have hset := setFlds_settles hl l (noted o (elapse t s)) (by simp [noted]) (by simp [noted])
  have he : ({ elapse t s with
      regs := (finish (setFlds l (noted o (elapse t s)))).regs
      rng := { s.rng with tested := o.tested, rctMax := o.rctMax } } : State) = setFlds l (noted o (elapse t s)) := by
    rw [settles_regs hset, ← elapse_rng t s]
    exact (setFlds_regs l (noted o (elapse t s))).symm
  rw [he]
  exact hset

/-- And what a command that sets fields alone comes to. -/
theorem flds_settles (hl : live s = true) (l : List (Field × Nat)) :
    settles { elapse t s with regs := (finish (setFlds l (elapse t s))).regs } (finish (setFlds l (elapse t s))) := by
  have hset := setFlds_settles hl l (elapse t s) (by simp) (by simp)
  rw [settles_regs hset, ← setFlds_regs l (elapse t s)]
  exact hset

/-- A field after it. -/
theorem noted_fld (hl : live s = true) (hm : memorySafe s) (l : List (Field × Nat)) (g : Field)
    (hg : readable g l = true) : fld g (finish (setFlds l (noted o (elapse t s)))) = lastSet g l (fld g s) := by
  have hset := setFlds_settles hl l (noted o (elapse t s)) (by simp [noted]) (by simp [noted])
  rw [settles_fld_setFlds hset g (memorySafe_elapse_wf hm t) hg]
  exact congrArg (lastSet g l) (elapse_fld g t s)

theorem flds_fld (hl : live s = true) (hm : memorySafe s) (l : List (Field × Nat)) (g : Field)
    (hg : readable g l = true) : fld g (finish (setFlds l (elapse t s))) = lastSet g l (fld g s) := by
  have hset := setFlds_settles hl l (elapse t s) (by simp) (by simp)
  rw [settles_fld_setFlds hset g (memorySafe_elapse_wf hm t) hg, elapse_fld]

/-- The other registers after it. -/
theorem noted_keeps (hl : live s = true) (offs : List Nat) (l : List (Field × Nat))
    (h : l.all (fun p => offs.contains p.1.off) = true) :
    keepsRegs offs s (finish (setFlds l (noted o (elapse t s)))) := by
  intro off ho
  have hset := setFlds_settles hl l (noted o (elapse t s)) (by simp [noted]) (by simp [noted])
  rw [settles_regGet hset, (RegsKept.setFlds l _ h).keeps off ho]
  exact elapse_regGet off t s

theorem flds_keeps (hl : live s = true) (offs : List Nat) (l : List (Field × Nat))
    (h : l.all (fun p => offs.contains p.1.off) = true) : keepsRegs offs s (finish (setFlds l (elapse t s))) := by
  intro off ho
  have hset := setFlds_settles hl l (elapse t s) (by simp) (by simp)
  rw [settles_regGet hset, (RegsKept.setFlds l _ h).keeps off ho, elapse_regGet]

/-! ## RNG_STEEP_PASS -/

/-- With nothing waiting there is nothing to serve. -/
theorem serveWaiting_none {x : State} (h : x.rng.wait = []) : serveWaiting x = x := by
  have hsame : { x.rng with wait := [] } = x.rng := by rw [← h]
  rw [serveWaiting, hsame, h]
  rfl

/-- With nothing waiting for the Steep nothing resumes at its end. -/
theorem resumeSteep_none {x : State} (h : x.lcy.steepWait = []) (hr : x.lcy.retiring = false) : resumeSteep x = x := by
  have hlcy : { x.lcy with steepWait := [] } = x.lcy := by rw [← h]
  unfold resumeSteep
  rw [hlcy, h]
  simp only [List.foldl_nil, finishRetire, hr, Bool.false_and, Bool.false_eq_true, if_false]

/-- The fields that a passed Steep sets (R330). -/
def steepFields (o : RngObs) (s : State) : List (Field × Nat) :=
  [(RNG_EST2.APT_MAX, min o.aptMax 1024), (RNG_CNT0.STEEPS, sat 8 (fld RNG_CNT0.STEEPS s + 1)),
    (RNG_REQ_CNT.SINCE_RESEED, 0), (RNG_STATUS.RESEED_DUE, 0), (RNG_STATUS.POOL_FULL, 1), (RNG_STATUS.STATE, 2)]

/-- With nothing waiting for it, the pass of a Steep sets them. -/
theorem steepPass_quiet (s : State) (h : Regs.wf s = true) (hw : s.rng.wait = []) (hsw : s.lcy.steepWait = [])
    (hret : s.lcy.retiring = false) : steepPass o s = setFlds (steepFields o s) (noted o s) := by
  have hbump : fld RNG_CNT0.STEEPS (noteObs o s) = fld RNG_CNT0.STEEPS s :=
    fld_setFlds [(RNG_EST2.APT_MAX, min o.aptMax 1024)] RNG_CNT0.STEEPS (noted o s) h rfl
  have hset : setFld RNG_STATUS.STATE 2 (setFld RNG_STATUS.POOL_FULL 1 (setFld RNG_STATUS.RESEED_DUE 0
      (setFld RNG_REQ_CNT.SINCE_RESEED 0 (bump RNG_CNT0.STEEPS (noteObs o s))))) =
      setFlds (steepFields o s) (noted o s) := by
    rw [bump, addFld, hbump]
    rfl
  have hx := setFlds_regs (steepFields o s) (noted o s)
  have hxw : (setFlds (steepFields o s) (noted o s)).rng.wait = [] := by rw [hx]; exact hw
  have hxs : (setFlds (steepFields o s) (noted o s)).lcy.steepWait = [] := by rw [hx]; exact hsw
  have hxr : (setFlds (steepFields o s) (noted o s)).lcy.retiring = false := by rw [hx]; exact hret
  simp only [steepPass, hset]
  rw [serveWaiting_none hxw, resumeSteep_none hxs hxr]

/-- RNG_STEEP_PASS (R330). -/
theorem rngSteepPass_passes (hl : live s = true) (hm : memorySafe s) (hw : s.rng.wait = [])
    (hsw : s.lcy.steepWait = []) (hret : s.lcy.retiring = false) (hst : rngState s = 1 ∨ rngState s = 3) :
    ∃ s', exec (.rngSteepPass t o) s = .next s' ∧
      settles { elapse t s with regs := s'.regs, rng := { s.rng with tested := o.tested, rctMax := o.rctMax } } s' ∧
      rngState s' = 2 ∧ fld RNG_STATUS.POOL_FULL s' = 1 ∧ fld RNG_REQ_CNT.SINCE_RESEED s' = 0 ∧
      fld RNG_CNT0.STEEPS s' = sat RNG_CNT0.STEEPS.width (fld RNG_CNT0.STEEPS s + 1) ∧
      keepsRegs [RNG_STATUS.reg, RNG_REQ_CNT.reg, RNG_CNT0.reg, RNG_EST2.reg] s s' := by
  have hcond : (rngState (elapse t s) == 1 || rngState (elapse t s) == 3) = true := by
    rw [elapse_rngState]
    rcases hst with h | h <;> simp [h]
  let l := steepFields o (elapse t s)
  have hrun : exec (.rngSteepPass t o) s = .next (finish (setFlds l (noted o (elapse t s)))) := by
    refine (command_live t _ s hl).trans ?_
    rw [onlyIf, if_pos hcond, steepPass_quiet _ (memorySafe_elapse_wf hm t) (by simpa using hw) (by simpa using hsw)
      (by simpa using hret)]
  refine ⟨_, hrun, noted_settles hl l, noted_fld hl hm l _ rfl, noted_fld hl hm l _ rfl, noted_fld hl hm l _ rfl, ?_,
    noted_keeps hl _ l rfl⟩
  have h := noted_fld (t := t) (o := o) hl hm l RNG_CNT0.STEEPS rfl
  rw [h]
  show sat 8 (fld RNG_CNT0.STEEPS (elapse t s) + 1) % 2 ^ 8 = _
  rw [elapse_fld]
  exact Nat.mod_eq_of_lt (Nat.lt_of_le_of_lt (Nat.min_le_right _ _) (by norm_num))

/-! ## RNG_FAILS_CLEAR, RNG_RESEED, RNG_ESTIMATOR_WINDOW -/

/-- RNG_FAILS_CLEAR (R332). -/
theorem rngFailsClear_clears (hl : live s = true) (hm : memorySafe s) (hst : rngState s = 2) (ho : 2 ^ 22 ≤ o.tested) :
    ∃ s', exec (.rngFailsClear t o) s = .next s' ∧ fld RNG_STATUS.FAILS s' = 0 ∧ rngState s' = 2 ∧
      settles { elapse t s with regs := s'.regs, rng := { s.rng with tested := o.tested, rctMax := o.rctMax } } s' ∧
      keepsRegs [RNG_STATUS.reg, RNG_EST2.reg] s s' := by
  let l : List (Field × Nat) := [(RNG_EST2.APT_MAX, min o.aptMax 1024), (RNG_STATUS.FAILS, 0)]
  have hcond : (rngState (elapse t s) == 2 && decide (o.tested ≥ 2 ^ 22)) = true := by
    rw [elapse_rngState]
    simpa [hst] using ho
  have hrun : exec (.rngFailsClear t o) s = .next (finish (setFlds l (noted o (elapse t s)))) := by
    refine (command_live t _ s hl).trans ?_
    rw [onlyIf, if_pos hcond]
    rfl
  exact ⟨_, hrun, noted_fld hl hm l _ rfl, (noted_fld hl hm l RNG_STATUS.STATE rfl).trans hst, noted_settles hl l,
    noted_keeps hl _ l rfl⟩

/-- It waits for its samples (R332). -/
theorem rngFailsClear_early (hl : live s = true) (ho : o.tested < 2 ^ 22) :
    ∃ s', exec (.rngFailsClear t o) s = .next s' ∧ settles (elapse t s) s' := by
  have hcond : (rngState (elapse t s) == 2 && decide (o.tested ≥ 2 ^ 22)) = false := by
    simp only [ge_iff_le, Nat.not_le.mpr ho, decide_false, Bool.and_false]
  refine ⟨finish (elapse t s), ?_, finish_settles_of s _ hl (by simp) (by simp)⟩
  refine (command_live t _ s hl).trans ?_
  rw [onlyIf, hcond]
  rfl

/-- The fields that a reseed sets (R334). -/
def reseedFields (s : State) : List (Field × Nat) :=
  [(RNG_RESEED_CNT.RESEEDS, sat RNG_RESEED_CNT.RESEEDS.width (fld RNG_RESEED_CNT.RESEEDS s + 1)),
    (RNG_REQ_CNT.SINCE_RESEED, 0), (RNG_STATUS.RESEED_DUE, 0), (RNG_STATUS.POOL_FULL, 0)]

/-- RNG_RESEED (R334). -/
theorem rngReseed_reseeds (hl : live s = true) (hm : memorySafe s) (hst : rngState s = 2)
    (hp : fld RNG_STATUS.POOL_FULL s = 1) (hd : fld RNG_STATUS.RESEED_DUE s = 1) (hw : s.rng.wait = []) :
    ∃ s', exec (.rngReseed t) s = .next s' ∧ fld RNG_STATUS.POOL_FULL s' = 0 ∧ fld RNG_STATUS.RESEED_DUE s' = 0 ∧
      fld RNG_REQ_CNT.SINCE_RESEED s' = 0 ∧
      fld RNG_RESEED_CNT.RESEEDS s' = sat RNG_RESEED_CNT.RESEEDS.width (fld RNG_RESEED_CNT.RESEEDS s + 1) ∧
      settles { elapse t s with regs := s'.regs } s' ∧
      keepsRegs [RNG_STATUS.reg, RNG_REQ_CNT.reg, RNG_RESEED_CNT.reg] s s' := by
  let l := reseedFields (elapse t s)
  have hcond : (rngState (elapse t s) == 2 && flag RNG_STATUS.POOL_FULL (elapse t s) &&
      flag RNG_STATUS.RESEED_DUE (elapse t s)) = true := by
    simp [flag, hst, hp, hd]
  have hrun : exec (.rngReseed t) s = .next (finish (setFlds l (elapse t s))) := by
    refine (command_live t _ s hl).trans ?_
    have hx := setFlds_regs l (elapse t s)
    have hwait : (setFlds l (elapse t s)).rng.wait = [] := by
      rw [hx]
      simpa using hw
    rw [onlyIf, if_pos hcond]
    exact congrArg (fun x => Host.Outcome.next (finish x)) (serveWaiting_none hwait)
  refine ⟨_, hrun, flds_fld hl hm l _ rfl, flds_fld hl hm l _ rfl, flds_fld hl hm l _ rfl, ?_, flds_settles hl l,
    flds_keeps hl _ l rfl⟩
  rw [flds_fld hl hm l RNG_RESEED_CNT.RESEEDS rfl]
  show sat _ (fld RNG_RESEED_CNT.RESEEDS (elapse t s) + 1) % 2 ^ _ = _
  rw [elapse_fld]
  exact Nat.mod_eq_of_lt (Nat.lt_of_le_of_lt (Nat.min_le_right _ _) (by decide))

/-- RNG_ESTIMATOR_WINDOW (R327). -/
theorem rngEstimatorWindow_shows (hl : live s = true) (hm : memorySafe s) (bias c1 c2 c3 c4 : Int)
    (he : flag RNG_CTL.EST_EN s = true) (h1 : 1 ≤ rngState s) (h3 : rngState s ≤ 3) :
    ∃ s', exec (.rngEstimatorWindow t bias c1 c2 c3 c4 o) s = .next s' ∧
      fld RNG_EST0.BIAS s' = encSigned 16 bias % 2 ^ 16 ∧ fld RNG_EST0.C1 s' = encSigned 16 c1 % 2 ^ 16 ∧
      fld RNG_EST1.C2 s' = encSigned 16 c2 % 2 ^ 16 ∧ fld RNG_EST1.C3 s' = encSigned 16 c3 % 2 ^ 16 ∧
      fld RNG_EST2.C4 s' = encSigned 16 c4 % 2 ^ 16 ∧
      settles { elapse t s with
        regs := s'.regs
        rng := { s.rng with tested := o.tested, rctMax := o.rctMax, estTb := now (elapse t s) } } s' ∧
      keepsRegs [RNG_EST0.reg, RNG_EST1.reg, RNG_EST2.reg] s s' := by
  let l : List (Field × Nat) := [(RNG_EST2.APT_MAX, min o.aptMax 1024), (RNG_EST2.C4, encSigned 16 c4),
    (RNG_EST1.C3, encSigned 16 c3), (RNG_EST1.C2, encSigned 16 c2), (RNG_EST0.C1, encSigned 16 c1),
    (RNG_EST0.BIAS, encSigned 16 bias)]
  let x : State := noted o { elapse t s with rng := { (elapse t s).rng with estTb := now (elapse t s) } }
  have hcond : (flag RNG_CTL.EST_EN (elapse t s) && decide (1 ≤ rngState (elapse t s)) &&
      decide (rngState (elapse t s) ≤ 3)) = true := by
    simp only [flag] at he
    simp [flag, he, h1, h3]
  have hrun : exec (.rngEstimatorWindow t bias c1 c2 c3 c4 o) s = .next (finish (setFlds l x)) := by
    refine (command_live t _ s hl).trans ?_
    rw [onlyIf, if_pos hcond]
    rfl
  have hset := setFlds_settles hl l x (by simp [x, noted]) (by simp [x, noted])
  have hread := fun g (hg : readable g l = true) => settles_fld_setFlds hset g (memorySafe_elapse_wf hm t) hg
  refine ⟨_, hrun, hread _ rfl, hread _ rfl, hread _ rfl, hread _ rfl, hread _ rfl, ?_, fun off ho => ?_⟩
  · have hx : ({ elapse t s with
        regs := (finish (setFlds l x)).regs
        rng := { s.rng with tested := o.tested, rctMax := o.rctMax, estTb := now (elapse t s) } } : State) =
        setFlds l x := by
      rw [settles_regs hset, ← elapse_rng t s]
      exact (setFlds_regs l x).symm
    rw [hx]
    exact hset
  · rw [settles_regGet hset, (RegsKept.setFlds (offs := [RNG_EST0.reg, RNG_EST1.reg, RNG_EST2.reg]) l x rfl).keeps off ho]
    exact elapse_regGet off t s

end

end Sys2Proof.Machine
end

section
/-! SUPPORT. The pool, a health failure, and the statement about the generator. -/
namespace Sys2Proof.Machine

section
variable {s : State} {t : Nat} {o : RngObs} {d : Desc}

/-! ## RNG_POOL_REFILL -/

/-- A full pool with nothing waiting (R325). -/
theorem rngPoolRefill_fills (hl : live s = true) (hm : memorySafe s) (hst : rngState s = 2)
    (hp : fld RNG_STATUS.POOL_FULL s = 0) (hw : s.rng.wait = []) :
    ∃ s', exec (.rngPoolRefill t) s = .next s' ∧ fld RNG_STATUS.POOL_FULL s' = 1 ∧
      settles { elapse t s with regs := s'.regs } s' ∧ keepsRegs [RNG_STATUS.reg] s s' := by
  let l : List (Field × Nat) := [(RNG_STATUS.POOL_FULL, 1)]
  have hcond : (rngState (elapse t s) == 2 && !flag RNG_STATUS.POOL_FULL (elapse t s)) = true := by
    simp [flag, hst, hp]
  have hrun : exec (.rngPoolRefill t) s = .next (finish (setFlds l (elapse t s))) := by
    refine (command_live t _ s hl).trans ?_
    have hwait : (setFlds l (elapse t s)).rng.wait = [] := by
      rw [setFlds_regs l]
      simpa using hw
    rw [onlyIf, if_pos hcond]
    exact congrArg (fun x => Host.Outcome.next (finish x)) (serveWaiting_none hwait)
  exact ⟨_, hrun, flds_fld hl hm l _ rfl, flds_settles hl l, flds_keeps hl _ l rfl⟩

/-- The fields that a served request with prediction resistance sets (R334). -/
def servedFields (s : State) : List (Field × Nat) :=
  (RNG_STATUS.POOL_FULL, 1) :: reseedFields s ++ [(RNG_REQ_CNT.SINCE_RESEED, 1)]

/-- The state in which such a request is answered. -/
def refilled (d : Desc) (s : State) : State :=
  tookFree d.len (setFlds (servedFields s) { s with rng := { s.rng with wait := [] } })

/-- The one request that waits for the pool is served when it is full (R334, R335). -/
theorem serveWaiting_one {since : Nat} (h : Regs.wf s = true) (hw : s.rng.wait = [(d, since)])
    (hpr : bit 0 (p8 d 0) = true) (hraw : bit 1 (p8 d 0) = false) :
    serveWaiting (setFld RNG_STATUS.POOL_FULL 1 s) =
      writeDst d (freeBytes d.len s) (fun s => complete d stOk (getResult d d.len true since s) 0 s) (refilled d s) := by
  let x : State := setFld RNG_STATUS.POOL_FULL 1 { s with rng := { s.rng with wait := [] } }
  have hfull : flag RNG_STATUS.POOL_FULL x = true := by
    have hf : fld RNG_STATUS.POOL_FULL x = 1 := fld_setFld_same _ (by decide) 1 _ h
    simp [flag, hf]
  have hneeds : needsPool d x = false := by simp [needsPool, hfull]
  have hreseeds : fld RNG_RESEED_CNT.RESEEDS x = fld RNG_RESEED_CNT.RESEEDS s :=
    fld_setFld_apart _ _ (by decide) (by decide) 1 _ h
  have hre : reseed x = setFlds ((RNG_STATUS.POOL_FULL, 1) :: reseedFields s) { s with rng := { s.rng with wait := [] } } := by
    rw [reseed, bump, addFld, hreseeds]
    rfl
  have hcount : countGenerate (reseed x) = setFlds (servedFields s) { s with rng := { s.rng with wait := [] } } := by
    have hsince : fld RNG_REQ_CNT.SINCE_RESEED (reseed x) = 0 := by
      rw [hre]
      exact fld_setFlds _ RNG_REQ_CNT.SINCE_RESEED _ h rfl
    simp only [countGenerate, hsince]
    rw [if_neg (by decide), hre]
    rfl
  have hserve : serveWaiting (setFld RNG_STATUS.POOL_FULL 1 s) = serveGet (d, since) x := by
    have hl : (setFld RNG_STATUS.POOL_FULL 1 s).rng.wait = [(d, since)] := hw
    rw [serveWaiting, hl]
    show (if needsPool d x then _ else serveGet (d, since) x) = _
    rw [if_neg (by simp [hneeds])]
  have hfree : (setFlds (servedFields s) { s with rng := { s.rng with wait := [] } }).free = s.free := by
    rw [setFlds_regs]
  rw [hserve]
  simp only [serveGet, hpr, Bool.true_or, if_true, hcount, getOutput, hraw, Bool.false_eq_true, false_and, if_false,
    freeBytes, hfree]
  rfl

/-- A write to DST changes no result bytes of RNG_GET. -/
theorem getResult_dmaWrite (e : Desc) (a n since : Nat) (bs : Bytes) (b : Bool) (s : State) :
    getResult d n b since (dmaWrite e a bs s) = getResult d n b since s := by
  have hreg : ∀ f : Field, fld f (dmaWrite e a bs s) = fld f s := by
    intro f
    simp only [dmaWrite]
    split <;> rfl
  have hnow : now (dmaWrite e a bs s) = now s := by
    simp only [dmaWrite]
    split <;> rfl
  simp only [getResult, rngState, flag, hreg, hnow]

/-- The request that waits for the pool is answered when it is full (R335). -/
theorem rngPoolRefill_serves (hl : live s = true) (hm : memorySafe s) (hst : rngState s = 2)
    (hp : fld RNG_STATUS.POOL_FULL s = 0) {since : Nat} (hw : s.rng.wait = [(d, since)]) (hpr : bit 0 (p8 d 0) = true)
    (hraw : bit 1 (p8 d 0) = false) (hh : heard d (elapse t s) = true)
    (hdma : dmaBlocked d d.dstAddr d.len s = false) :
    ∃ s1 s', exec (.rngPoolRefill t) s = .next s' ∧
      answers d stOk (getResult d d.len true since s1) 0 (dmaWrite d d.dstAddr (freeBytes d.len (elapse t s)) s1) s' ∧
      s1 = { elapse t s with regs := s1.regs, free := s.free + d.len, rng := { s.rng with wait := [] } } := by
  obtain ⟨hhost, hwait, hqueue⟩ := live_waits (t := t) hl
  let y : State := refilled d (elapse t s)
  have hframe : y = { elapse t s with regs := y.regs, free := s.free + d.len, rng := { s.rng with wait := [] } } := by
    have h := setFlds_regs (servedFields (elapse t s)) { elapse t s with rng := { (elapse t s).rng with wait := [] } }
    show tookFree d.len _ = _
    rw [h, elapse_rng]
    simp only [tookFree, elapse_free]
    rfl
  have hcond : (rngState (elapse t s) == 2 && !flag RNG_STATUS.POOL_FULL (elapse t s)) = true := by
    simp [flag, hst, hp]
  have hrun : exec (.rngPoolRefill t) s = .next (finish (complete d stOk (getResult d d.len true since y) 0
      (dmaWrite d d.dstAddr (freeBytes d.len (elapse t s)) y))) := by
    refine (command_live t _ s hl).trans ?_
    rw [onlyIf, if_pos hcond,
      serveWaiting_one (since := since) (memorySafe_elapse_wf hm t) (by simpa using hw) hpr hraw, writeDst, if_neg ?_]
    · simp only [getResult_dmaWrite]
      rfl
    · have hlen : (freeBytes d.len (elapse t s)).length = d.len := by simp [freeBytes]
      have hblk : dmaBlocked d d.dstAddr d.len y = dmaBlocked d d.dstAddr d.len (elapse t s) := by
        rw [hframe]
        rfl
      rw [hlen, hblk, elapse_dmaBlocked, hdma]
      decide
  have hans : Answerable d y := by
    rw [hframe]
    exact ⟨hh, by simpa using hm.1, hhost, hwait, hqueue⟩
  exact ⟨y, _, hrun, (hans.dmaWrite _ _).quiet (quietStatus_ok _), hframe⟩

/-! ## RNG_HEALTH_FAIL -/

/-- The counter of a health test (R326). -/
def healthCounter (test : Nat) : Field :=
  if test = 1 then RNG_CNT0.RCT_FAIL else if test = 2 then RNG_CNT0.APT_FAIL else RNG_CNT0.KAT_FAIL

/-- The fields that a health failure sets (R331, R332). -/
def healthFields (test : Nat) (o : RngObs) (s : State) : List (Field × Nat) :=
  [(RNG_EST2.APT_MAX, min o.aptMax 1024),
    (healthCounter test, sat (healthCounter test).width (fld (healthCounter test) s + 1)),
    (RNG_STATUS.LAST_FAIL, test), (RNG_STATUS.FAILS, min (fld RNG_STATUS.FAILS s + 1) 3),
    (RNG_STATUS.RESEED_DUE, 0), (RNG_STATUS.POOL_FULL, 0),
    (RNG_STATUS.STATE, if fld RNG_STATUS.FAILS s + 1 ≥ 3 then 4 else 3)]

/-- What a failure records and reports (R331, R332). -/
def healthTold (test value fails : Nat) (s : State) : State :=
  let s4 := rngEvent 1 test value (append 0x48 test (min fails 3) s)
  if fails ≥ 3 then rngEvent 2 test value (append 0x49 0 0 (setFld CRY_STATUS.MASK_DEGRADED 1 s4)) else s4

/-- A test that fails is one of three. -/
theorem testFails_test {test value : Nat} (h : testFails test value = true) : test = 1 ∨ test = 2 ∨ test = 3 := by
  simp only [testFails, Bool.or_eq_true, Bool.and_eq_true, beq_iff_eq] at h
  omega

/-- With no request waiting none fails. -/
theorem failWaiters_none {x : State} (hw : x.rng.wait = []) (hsw : x.lcy.steepWait = []) : failWaiters x = x := by
  have hrng : { x.rng with wait := [] } = x.rng := by rw [← hw]
  have hlcy : { x.lcy with steepWait := [] } = x.lcy := by rw [← hsw]
  simp only [failWaiters]
  rw [hw, hrng, List.foldl_nil, hsw, hlcy, List.foldl_nil]

/-- With no request waiting a health failure sets the fields and is told. -/
theorem healthFail_quiet (test value : Nat) (h : Regs.wf s = true) (hw : s.rng.wait = []) (hsw : s.lcy.steepWait = []) :
    healthFail test value o s =
      healthTold test value (fld RNG_STATUS.FAILS s + 1) (setFlds (healthFields test o s) (noted o s)) := by
  have hcnt : fld (healthCounter test) (noteObs o s) = fld (healthCounter test) s := by
    have hap : RNG_EST2.APT_MAX.apart (healthCounter test) = true := by
      unfold healthCounter
      split
      · rfl
      · split <;> rfl
    exact fld_setFld_apart RNG_EST2.APT_MAX (healthCounter test) (by decide) hap (min o.aptMax 1024) (noted o s) h
  have hfails : fld RNG_STATUS.FAILS (noteObs o s) = fld RNG_STATUS.FAILS s :=
    fld_setFlds [(RNG_EST2.APT_MAX, min o.aptMax 1024)] RNG_STATUS.FAILS (noted o s) h rfl
  have hset : setFld RNG_STATUS.STATE (if fld RNG_STATUS.FAILS s + 1 ≥ 3 then 4 else 3)
      (setFld RNG_STATUS.POOL_FULL 0 (setFld RNG_STATUS.RESEED_DUE 0 (setFld RNG_STATUS.FAILS
        (min (fld RNG_STATUS.FAILS s + 1) 3) (setFld RNG_STATUS.LAST_FAIL test
          (bump (healthCounter test) (noteObs o s)))))) = setFlds (healthFields test o s) (noted o s) := by
    rw [bump, addFld, hcnt]
    simp only [healthFields, setFlds, List.foldl_cons, List.foldl_nil, noteObs, noted]
  have hx := setFlds_regs (healthFields test o s) (noted o s)
  have hnone := failWaiters_none (x := setFlds (healthFields test o s) (noted o s)) (by rw [hx]; exact hw)
    (by rw [hx]; exact hsw)
  simp only [healthFail, hfails]
  rw [← healthCounter, hset, hnone, ← healthTold]

/-- The RNG event is posted. -/
theorem rngEvent_recorded {cells offs : List Nat} (kind test value : Nat) (s : State) :
    Recorded cells offs s (rngEvent kind test value s) := .of_posted (post_posted _ _ _ _)

/-- What is told of a failure is records and events, and a latched generator degrades the masking. -/
theorem healthTold_recorded (test value fails : Nat) (s : State) (hr : s.nv.ledgerReady = true) :
    Recorded [] (if fails ≥ 3 then [CRY_STATUS.reg] else []) s (healthTold test value fails s) := by
  unfold healthTold
  dsimp only
  split
  · have h1 : Recorded [] [CRY_STATUS.reg] s (rngEvent 1 test value (append 0x48 test (min fails 3) s)) :=
      (Recorded.append _ _ _ _ hr).trans (rngEvent_recorded _ _ _ _)
    have h2 := h1.trans (Recorded.setFld CRY_STATUS.MASK_DEGRADED 1 _ (by decide))
    exact (h2.trans (Recorded.append 0x49 0 0 _ (h2.ledgerReady.trans hr))).trans (rngEvent_recorded _ _ _ _)
  · exact (Recorded.append _ _ _ _ hr).trans (rngEvent_recorded _ _ _ _)

/-- The masking is degraded with the latch (R332). -/
theorem healthTold_degrades (test value fails : Nat) (s : State) (hr : s.nv.ledgerReady = true) (h : Regs.wf s = true)
    (h3 : fails ≥ 3) : fld CRY_STATUS.MASK_DEGRADED (healthTold test value fails s) = 1 := by
  let y : State := rngEvent 1 test value (append 0x48 test (min fails 3) s)
  have h1 : Recorded [] [] s y := (Recorded.append _ _ _ _ hr).trans (rngEvent_recorded _ _ _ _)
  let z : State := setFld CRY_STATUS.MASK_DEGRADED 1 y
  have hz : z.nv.ledgerReady = true := h1.ledgerReady.trans hr
  have h2 : Recorded [] [] z (append 0x49 0 0 z) := Recorded.append _ _ _ z hz
  have h3' : Recorded [] [] (append 0x49 0 0 z) (rngEvent 2 test value (append 0x49 0 0 z)) :=
    rngEvent_recorded 2 test value _
  have htold : healthTold test value fails s = rngEvent 2 test value (append 0x49 0 0 z) := by
    simp only [healthTold, h3, if_true, z, y]
  rw [htold, h3'.fld CRY_STATUS.MASK_DEGRADED (by decide), h2.fld CRY_STATUS.MASK_DEGRADED (by decide)]
  exact fld_setFld_same _ (by decide) 1 y (h1.regs_wf h)

/-- RNG_HEALTH_FAIL (R331, R332). -/
theorem rngHealthFail_fails (hl : live s = true) (hm : memorySafe s) (test value : Nat) (hw : s.rng.wait = [])
    (hsw : s.lcy.steepWait = []) (h1 : 1 ≤ rngState s) (h3 : rngState s ≤ 3) (ht : testFails test value = true)
    (hr : s.nv.ledgerReady = true) :
    let fails := fld RNG_STATUS.FAILS s + 1
    let cnt := if test = 1 then RNG_CNT0.RCT_FAIL else if test = 2 then RNG_CNT0.APT_FAIL else RNG_CNT0.KAT_FAIL
    ∃ s', exec (.rngHealthFail t test value o) s = .next s' ∧
      recordsOnly [] ([RNG_STATUS.reg, RNG_CNT0.reg, RNG_EST2.reg] ++ if fails ≥ 3 then [CRY_STATUS.reg] else [])
        { elapse t s with rng := { s.rng with tested := o.tested, rctMax := o.rctMax } } s' ∧
      rngState s' = (if fails ≥ 3 then 4 else 3) ∧ fld RNG_STATUS.FAILS s' = min fails 3 ∧
      fld RNG_STATUS.LAST_FAIL s' = test ∧ fld RNG_STATUS.POOL_FULL s' = 0 ∧
      fld cnt s' = sat cnt.width (fld cnt s + 1) ∧ (fails ≥ 3 → fld CRY_STATUS.MASK_DEGRADED s' = 1) := by
  intro fails cnt
  have htest := testFails_test ht
  have hwf : Regs.wf (noted o (elapse t s)) = true := memorySafe_elapse_wf hm t
  let l := healthFields test o (elapse t s)
  let x : State := setFlds l (noted o (elapse t s))
  have hframe := setFlds_regs l (noted o (elapse t s))
  have hxw : Regs.wf x = true := setFlds_wf l _ hwf
  have hxr : x.nv.ledgerReady = true := by
    simp only [x]
    rw [hframe]
    simpa [noted] using hr
  have hcond : (decide (1 ≤ rngState (elapse t s)) && decide (rngState (elapse t s) ≤ 3) && testFails test value) = true := by
    simp [h1, h3, ht]
  have hrun : exec (.rngHealthFail t test value o) s = .next (finish (healthTold test value fails x)) := by
    refine (command_live t _ s hl).trans ?_
    rw [onlyIf, if_pos hcond, healthFail_quiet test value (memorySafe_elapse_wf hm t) (by simpa using hw)
      (by simpa using hsw), elapse_fld]
  have hrec := healthTold_recorded test value fails x hxr
  have hset : settles (healthTold test value fails x) (finish (healthTold test value fails x)) :=
    finish_settles_recorded (s := s) hl (by simp only [x]; rw [hframe]; simp [noted])
      (by simp only [x]; rw [hframe]; simp [noted]) hrec
  have hregs : RegsKept [RNG_STATUS.reg, RNG_CNT0.reg, RNG_EST2.reg] (noted o (elapse t s)) x := by
    refine RegsKept.setFlds l _ ?_
    simp only [l, healthFields, healthCounter]
    split
    · rfl
    · split <;> rfl
  have hread : ∀ g : Field, g.off = RNG_STATUS.reg ∨ g.off = RNG_CNT0.reg → readable g l = true →
      fld g (finish (healthTold test value fails x)) = lastSet g l (fld g s) := by
    intro g hg hl'
    rw [settles_fld hset, hrec.fld g ?_, fld_setFlds l g _ hwf hl']
    · exact congrArg (lastSet g l) (elapse_fld g t s)
    · rcases hg with h | h <;> rw [h] <;> split <;> decide
  have hreadable : ∀ g ∈ [RNG_STATUS.STATE, RNG_STATUS.FAILS, RNG_STATUS.LAST_FAIL, RNG_STATUS.POOL_FULL, cnt],
      readable g l = true := by
    intro g hg
    simp only [List.mem_cons, List.not_mem_nil, or_false] at hg
    rcases htest with rfl | rfl | rfl <;> rcases hg with rfl | rfl | rfl | rfl | rfl <;> rfl
  refine ⟨_, hrun, ?_, ?_, ?_, ?_, ?_, ?_, fun h => ?_⟩
  · refine recordsOnly_settles ?_ hset
    obtain ⟨hb, hk, ha⟩ := hrec.recordsOnly (s := x) rfl rfl rfl
    refine ⟨hb.trans ?_, fun off ho => ?_, fun a h4 hc => (ha a h4 hc).trans ?_⟩
    · simp only [x]
      rw [hframe, noted, elapse_rng]
      rfl
    · simp only [List.mem_append, not_or] at ho
      rw [hk off (by simp only [List.mem_append, not_or]; exact ⟨ho.1, ho.2.2⟩), hregs.keeps off ho.2.1]
      rfl
    · simp only [x]
      rw [hframe]
      rfl
  · rw [rngState, hread RNG_STATUS.STATE (.inl rfl) (hreadable _ (by simp))]
    show (if fld RNG_STATUS.FAILS (elapse t s) + 1 ≥ 3 then 4 else 3) % 2 ^ 3 = _
    rw [elapse_fld]
    simp only [fails]
    split <;> rfl
  · rw [hread RNG_STATUS.FAILS (.inl rfl) (hreadable _ (by simp))]
    show min (fld RNG_STATUS.FAILS (elapse t s) + 1) 3 % 2 ^ 2 = _
    rw [elapse_fld]
    exact Nat.mod_eq_of_lt (Nat.lt_of_le_of_lt (Nat.min_le_right _ _) (by norm_num))
  · rw [hread RNG_STATUS.LAST_FAIL (.inl rfl) (hreadable _ (by simp))]
    show test % 2 ^ 2 = test
    omega
  · exact hread RNG_STATUS.POOL_FULL (.inl rfl) (hreadable _ (by simp))
  · rw [hread cnt ?_ (hreadable _ (by simp))]
    · have hlast : lastSet cnt l (fld cnt s) = sat cnt.width (fld cnt (elapse t s) + 1) % 2 ^ cnt.width := by
        rcases htest with rfl | rfl | rfl <;> rfl
      rw [hlast, elapse_fld]
      refine Nat.mod_eq_of_lt (Nat.lt_of_le_of_lt (Nat.min_le_right _ _) ?_)
      exact Nat.sub_lt (Nat.two_pow_pos _) (by norm_num)
    · rcases htest with rfl | rfl | rfl <;> exact .inr rfl
  · rw [settles_fld hset]
    exact healthTold_degrades test value fails x hxr hxw h

end

/-- Settles O14: each event of the generator on its own. -/
theorem generatorFollowsItsSource : Obligations.GeneratorFollowsItsSource := by
  refine ⟨fun s t v hl hi hm _ => rngTestSrcWrite_sets s t v hl hi hm, fun s t hl hm _ => ⟨?_, ?_, ?_, ?_, ?_, ?_⟩⟩
  · intro o hq hst
    exact rngSteepPass_passes hl hm hq.1 hq.2.1 hq.2.2 hst
  · intro o test value hq h1 h3 ht hr
    exact rngHealthFail_fails hl hm test value hq.1 hq.2.1 h1 h3 ht hr
  · exact fun o hst => ⟨fun ho => rngFailsClear_clears hl hm hst ho, fun ho => rngFailsClear_early hl ho⟩
  · exact fun hst hp => ⟨fun hw => rngPoolRefill_fills hl hm hst hp hw,
      fun d since hw hpr hraw hh hdma => rngPoolRefill_serves hl hm hst hp hw hpr hraw hh hdma⟩
  · exact fun hst hp hd hw => rngReseed_reseeds hl hm hst hp hd hw
  · exact fun bias c1 c2 c3 c4 o he h1 h3 => rngEstimatorWindow_shows hl hm bias c1 c2 c3 c4 he h1 h3

end Sys2Proof.Machine
end

section
/-! SUPPORT. What a completion leaves of the host interface, and NOP/FENCE, POWER_HINT and EVENT_ROUTE. -/
namespace Sys2Proof.Machine

/-! ## What a completion leaves of the host interface -/

/-- The host interface without what a completion changes. -/
def blankCpl (h : Hif) : Hif :=
  { h with flight := [], droverQ := [], qps := [], held := [], back := [], pba := 0, sent := [] }

theorem raiseVector_hif (n : Nat) (s : State) : blankCpl (raiseVector n s).hif = blankCpl s.hif := by
  unfold raiseVector
  split
  · split <;> rfl
  · rfl

theorem signal_hif (n : Nat) (d : Desc) (st : Nat) (s : State) : blankCpl (signal n d st s).hif = blankCpl s.hif := by
  unfold signal
  split
  · rfl
  · dsimp only
    split
    · rw [raiseVector_hif]
      rfl
    · rfl

theorem settlePair_hif (n : Nat) (s : State) : blankCpl (settlePair n s).hif = blankCpl s.hif := by
  unfold settlePair
  dsimp only
  split <;> rfl

/-- An entry's way changes flights, rings and vectors. -/
theorem routeEntry_hif (d : Desc) (c : HeldCpl) (gone : Bool) (s : State) :
    blankCpl (routeEntry d c gone s).hif = blankCpl s.hif := by
  unfold routeEntry
  split
  · rw [settlePair_hif]
    split
    · rfl
    · split
      · rw [writeCpl, signal_hif]
        rfl
      · rfl
  · split
    · rfl
    · rw [answerDesc_hif]
      rfl

/-- A quiet completion counts nothing. -/
theorem counted_quiet {d : Desc} {st : Nat} (s : State) (hq : quietStatus st d.opcode = true) :
    counted d st s = drained d s := by
  simp only [quietStatus, Bool.and_eq_true, Bool.not_eq_true', Bool.and_eq_false_iff, decide_eq_false_iff_not] at hq
  obtain ⟨hst, hv⟩ := hq
  have hn : ¬ (1 ≤ st ∧ st ≤ 6) := by omega
  simp only [counted, hv, Bool.false_eq_true, if_false, hn]

/-- A quiet completion leaves the rest of the host interface as it was. -/
theorem complete_quiet_hif {d : Desc} {st : Nat} (res : Bytes) (det : Nat) (s : State)
    (hq : quietStatus st d.opcode = true) : blankCpl (complete d st res det s).hif = blankCpl s.hif := by
  rw [complete_eq, routeEntry_hif, counted_quiet s hq]
  unfold drained
  split <;> rfl

/-! ## A served descriptor's state -/

/-- The state in which a unit works: flights and the turn have moved on. -/
def working (fl : List Flight) (tn : Nat) (s : State) : State :=
  withHif { s.hif with flight := fl, turn := tn } s

/-- A unit's work starts from the state at the tick but for flights and the turn. -/
theorem atWork_working (d : Desc) (s : State) (h : atUnit d s = true) : ∃ fl tn, atWork d s = working fl tn s := by
  unfold atWork
  by_cases hf : s.hif.flight.any (fun f => f.d == d) = true
  · rw [if_pos hf]
    exact ⟨_, _, rfl⟩
  · rw [if_neg hf]
    have hport : isHost d = false := by
      simp only [atUnit, Bool.and_eq_true, Bool.or_eq_true] at h
      rcases h.2 with ⟨⟨hf', -⟩, -⟩ | ⟨⟨hn, -⟩, -⟩
      · exact absurd hf' hf
      · simpa using hn
    have henter : enterFlight d (droverTurn s) = working (s.hif.flight ++ [⟨d, false, false, now s⟩]) 32 s := by
      simp only [enterFlight, hport, Bool.and_false, Bool.false_eq_true, if_false]
      rfl
    rw [henter]
    exact ⟨_, _, rfl⟩

/-- A served descriptor's command is its unit's work in such a state. -/
theorem served_working {t : Nat} {d : Desc} {s : State} (hs : serves t d s) :
    ∃ fl tn, Answerable d (working fl tn (elapse t s)) ∧
      ∀ run, descCommand t d run s = .next (finish (run d (working fl tn (elapse t s)))) := by
  obtain ⟨h, hw, -, -, hans, hrun⟩ := served_atUnit hs
  obtain ⟨fl, tn, he⟩ := atWork_working d (elapse t s) hs.2.2.2
  rw [hw] at he
  rw [he] at hans hrun
  exact ⟨fl, tn, hans, hrun⟩

/-- What is answered from such a state is answered from the state at the tick. -/
theorem answers_of_working {d : Desc} {st det tn : Nat} {res : Bytes} {fl : List Flight} {s s' : State}
    (h : answers d st res det (working fl tn s) s') : answers d st res det s s' :=
  answers_of_hif h rfl rfl

/-- The entry of a completion is the same from a state with the same rings at the same time. -/
theorem completed_congr {d : Desc} {st det : Nat} {res : Bytes} {x y s' : State} (h : completed d st res det x s')
    (hq : y.hif.qps = x.hif.qps) (hb : ∀ n, cqBase n y = cqBase n x) (hn : now y = now x) :
    completed d st res det y s' := by
  have hqp : ∀ n, qp n y = qp n x := fun n => by rw [qp, qp, hq]
  have hnext : ∀ n, nextEntry n y = nextEntry n x := fun n => by rw [nextEntry, nextEntry, hqp, hb]
  unfold completed at *
  split
  · next n hsrc => simpa only [hsrc, hqp, hnext, hn] using h
  · next hsrc =>
    simp only [hn]
    refine ⟨h.1, ?_⟩
    have h2 := h.2
    split at h2
    · next n hs => exact absurd hs (hsrc n)
    · exact h2

/-! ## NOP/FENCE -/

section
variable {s : State} {t : Nat} {d : Desc}

/-- NOP/FENCE completes (R122). -/
theorem nopFence_answers (hs : serves t d s) (hrow : isRow 0x01 d = true) (hp : parNonzero 0 24 d = none) :
    ∃ s', exec (.nopFence t d) s = .next s' ∧ answers d stOk [] 0 (elapse t s) s' := by
  obtain ⟨fl, tn, hans, hrun⟩ := served_working hs
  refine ⟨finish (complete d stOk [] 0 (working fl tn (elapse t s))), ?_,
    answers_of_working (hans.quiet (quietStatus_ok _))⟩
  show descCommand t (asOp 0x01 d) nopUnit s = _
  rw [asOp_self hrow, hrun nopUnit, nopUnit, reserved_free hp]

/-- With a status that is counted and not recorded, a completion answers from the state with the count (R127). -/
theorem Answerable.fails (h : Answerable d s) {st det : Nat} (h1 : 1 ≤ st ∧ st ≤ 6)
    (hv : isHostViol st d.opcode = false) :
    answers d st [] det (Machine.bump HIF_VIOL_CNT.DESC (drained d s)) (finish (fail d st det s)) ∧
      Recorded [] [HIF_VIOL_CNT.reg] s (Machine.bump HIF_VIOL_CNT.DESC (drained d s)) := by
  have hc : Machine.counted d st s = Machine.bump HIF_VIOL_CNT.DESC (drained d s) := by
    simp only [Machine.counted, hv, Bool.false_eq_true, if_false, h1, and_self, if_true]
  have hrec : Recorded [] [HIF_VIOL_CNT.reg] s (Machine.bump HIF_VIOL_CNT.DESC (drained d s)) :=
    (drained_recorded d s).trans (Recorded.bump _ _ (by decide))
  rw [← hc] at hrec ⊢
  exact ⟨h.counted hrec, hrec⟩

/-- A parameter byte that is not 0 is BAD_LEN at it (R119, R122). -/
theorem nopFence_badLen (hs : serves t d s) (hrow : isRow 0x01 d = true) {det : Nat} (hp : parNonzero 0 24 d = some det) :
    ∃ s', exec (.nopFence t d) s = .next s' ∧ completed d stBadLen [] det (elapse t s) s' ∧
      keepsRegs [HIF_VIOL_CNT.reg] s s' ∧ s'.lf = s.lf ∧ s'.lgr = s.lgr ∧ s'.flk = s.flk := by
  obtain ⟨fl, tn, hans, hrun⟩ := served_working hs
  let x : State := working fl tn (elapse t s)
  let y : State := bump HIF_VIOL_CNT.DESC (drained d x)
  have hy : y = { x with regs := y.regs, nv := { x.nv with buf := y.nv.buf } } := by
    simp only [y, drained]
    split <;> rfl
  have hregs : RegsKept [HIF_VIOL_CNT.reg] x y := by
    refine RegsKept.trans (b := drained d x) ?_ (.bump _ _ (by decide))
    unfold drained
    split <;> exact .of_eq _ rfl rfl
  have hfail := (hans.fails (st := stBadLen) (det := det) (by decide)
    (by rw [opcode_of_isRow hrow]; decide)).1
  refine ⟨_, ?_, completed_congr hfail.1 ?_ (fun n => ?_) ?_, fun off ho => ?_, ?_, ?_, ?_⟩
  · show descCommand t (asOp 0x01 d) nopUnit s = _
    rw [asOp_self hrow, hrun nopUnit, nopUnit, reserved, hp]
  · show _ = y.hif.qps
    rw [hy]
    rfl
  · have hk : ∀ off, off ≠ HIF_VIOL_CNT.reg → regGet off y = regGet off (elapse t s) := fun off ho =>
      hregs.keeps off (by simpa using ho)
    show _ = cqBase n y
    simp only [cqBase, reg64]
    rw [hk _ (by simp only [QPn_CQB_LO.reg, HIF_VIOL_CNT.reg]; omega),
      hk _ (by simp only [QPn_CQB_LO.reg, HIF_VIOL_CNT.reg]; omega)]
  · show _ = now y
    rw [hy]
    rfl
  · rw [completesOnly_regGet hfail.2]
    show regGet off y = _
    rw [hregs.keeps off ho]
    exact elapse_regGet off t s
  · rw [completesOnly_lf hfail.2]
    show y.lf = _
    rw [hy]
    exact elapse_lf t s
  · rw [completesOnly_lgr hfail.2]
    show y.lgr = _
    rw [hy]
    exact elapse_lgr t s
  · rw [completesOnly_flk hfail.2]
    show y.flk = _
    rw [hy]
    exact elapse_flk t s

/-! ## EVENT_ROUTE -/

/-- The state of a new route. -/
def routed (d : Desc) (s : State) : State :=
  setFld HIF_EVT_ROUTE.QP d.target
    { s with hif := { s.hif with routes := s.hif.routes ++ [(fld HIF_EVT_ROUTE.QP s, now s)] } }

/-- Where an event goes after a new route: a later one to its pair, one up to its instant where it went before (R134). -/
theorem evtPair_routed {ts : Nat} {x s' : State} (hr : s'.hif.routes = x.hif.routes ++ [(fld HIF_EVT_ROUTE.QP x, now x)])
    (hl : ∀ r ∈ x.hif.routes, r.2 ≤ now x) :
    evtPair ts s' = if now x < ts then fld HIF_EVT_ROUTE.QP s' else evtPair ts x := by
  unfold evtPair
  rw [hr, List.find?_append]
  by_cases h : now x < ts
  · have hnone : x.hif.routes.find? (fun r => decide (ts ≤ r.2)) = none := by
      rw [List.find?_eq_none]
      intro r hx
      have := hl r hx
      simp only [decide_eq_true_eq]
      omega
    have hlast : ¬ ts ≤ now x := by omega
    simp [hnone, hlast, h]
  · have hlast : ts ≤ now x := by omega
    cases hf : x.hif.routes.find? (fun r => decide (ts ≤ r.2)) with
    | none => simp [hlast, h]
    | some r => simp [h]

/-- EVENT_ROUTE (R134). -/
theorem eventRoute_routes (hs : serves t d s) (hrow : isRow 0x08 d = true) (ht : d.target < 32)
    (hp : parNonzero 0 24 d = none) (hl : ∀ r ∈ s.hif.routes, r.2 ≤ now (elapse t s)) :
    ∃ s1 s', exec (.eventRoute t d) s = .next s' ∧ answers d stOk [byteOf (fld HIF_EVT_ROUTE.QP s)] 0 s1 s' ∧
      (∀ ts, now (elapse t s) < ts → evtPair ts s' = d.target) ∧
      (∀ ts ≤ now (elapse t s), evtPair ts s' = evtPair ts s) ∧
      s1 = { elapse t s with regs := s1.regs } ∧ keepsRegs [HIF_EVT_ROUTE.reg] s s1 := by
  obtain ⟨fl, tn, hans, hrun⟩ := served_working hs
  let x : State := working fl tn (elapse t s)
  let s1 : State := setFld HIF_EVT_ROUTE.QP d.target (elapse t s)
  have hroute : Answerable d (routed d x) := ⟨hans.heard, hans.mem, hans.hostWait, hans.wait, hans.queue⟩
  have hold : fld HIF_EVT_ROUTE.QP x = fld HIF_EVT_ROUTE.QP s := elapse_fld _ t s
  let s' : State := finish (complete d stOk [byteOf (fld HIF_EVT_ROUTE.QP s)] 0 (routed d x))
  have hend : answers d stOk [byteOf (fld HIF_EVT_ROUTE.QP s)] 0 (routed d x) s' := hroute.quiet (quietStatus_ok _)
  have hqp : fld HIF_EVT_ROUTE.QP s' = d.target := by
    rw [fld, completesOnly_regGet hend.2]
    have h := fld_setFld_same HIF_EVT_ROUTE.QP (by decide) d.target
      { x with hif := { x.hif with routes := x.hif.routes ++ [(fld HIF_EVT_ROUTE.QP x, now x)] } }
      (memorySafe_elapse_wf hs.2.1 t)
    exact h.trans (Nat.mod_eq_of_lt ht)
  have hroutes : s'.hif.routes = (elapse t s).hif.routes ++ [(fld HIF_EVT_ROUTE.QP (elapse t s), now (elapse t s))] := by
    have hset : settles (complete d stOk [byteOf (fld HIF_EVT_ROUTE.QP s)] 0 (routed d x)) s' := by
      have hh := complete_quiet_hostOnly d stOk [byteOf (fld HIF_EVT_ROUTE.QP s)] 0 (routed d x) (quietStatus_ok _)
      refine finish_settles _ ?_ ?_ ?_
      · rw [show (complete d stOk [byteOf (fld HIF_EVT_ROUTE.QP s)] 0 (routed d x)).lgr = (routed d x).lgr from
          (congrArg State.lgr hh :)]
        exact hroute.hostWait
      · rw [show (complete d stOk [byteOf (fld HIF_EVT_ROUTE.QP s)] 0 (routed d x)).fold = (routed d x).fold from
          (congrArg State.fold hh :)]
        exact hroute.wait
      · rw [show (complete d stOk [byteOf (fld HIF_EVT_ROUTE.QP s)] 0 (routed d x)).fold = (routed d x).fold from
          (congrArg State.fold hh :)]
        exact hroute.queue
    rw [settles_hif hset]
    exact (congrArg Hif.routes (complete_quiet_hif (d := d) [byteOf (fld HIF_EVT_ROUTE.QP s)] 0 (routed d x)
      (quietStatus_ok _)) :)
  have hpair : ∀ ts, evtPair ts s' = if now (elapse t s) < ts then fld HIF_EVT_ROUTE.QP s' else evtPair ts (elapse t s) :=
    fun ts => evtPair_routed hroutes (by simpa using hl)
  refine ⟨s1, s', ?_, answers_of_hif hend rfl rfl, fun ts h => ?_, fun ts h => ?_, rfl, fun off ho => ?_⟩
  · show descCommand t (asOp 0x08 d) routeUnit s = _
    rw [asOp_self hrow, hrun routeUnit, routeUnit, reserved_free hp]
    dsimp only [x] at hold
    rw [hold]
    simp only [s', routed]
    dsimp only [x]
    rw [hold]
  · rw [hpair, if_pos h, hqp]
  · rw [hpair, if_neg (by omega)]
    simp only [evtPair, elapse_hif, elapse_fld]
  · rw [(RegsKept.setFld (offs := [HIF_EVT_ROUTE.reg]) HIF_EVT_ROUTE.QP d.target (elapse t s) (by decide)).keeps off ho]
    exact elapse_regGet off t s

end

end Sys2Proof.Machine
end

section
/-! SUPPORT. POWER_HINT, and the statement about hints, fences and routes. -/
namespace Sys2Proof.Machine

/-- A number of `k` bytes. -/
theorem leNat_lt_pow (bs : Bytes) : leNat bs < 256 ^ bs.length := by
  induction bs with
  | nil => simp [leNat]
  | cons b bs ih =>
    have hb := b.isLt
    simp only [leNat, List.length_cons, pow_succ]
    omega

theorem slice_length_le (off len : Nat) (bs : Bytes) : (slice off len bs).length ≤ len := by
  simp [slice]

theorem leAt_lt_pow (off len : Nat) (bs : Bytes) : leAt off len bs < 256 ^ len :=
  Nat.lt_of_lt_of_le (leNat_lt_pow _) (Nat.pow_le_pow_right (by norm_num) (slice_length_le off len bs))

theorem p8_lt (d : Desc) (i : Nat) : p8 d i < 256 := by
  simp only [p8, byteAt]
  exact BitVec.isLt _

section
variable {s : State} {t : Nat} {d : Desc}

/-! ## POWER_HINT -/

/-- A change of KEEP_UWB moves the UWB radio alone (R87). -/
theorem keepStandby_eq (s : State) : keepStandby s = { s with uwb := { s.uwb with walk := (keepStandby s).uwb.walk } } := by
  unfold keepStandby
  split <;> rfl

/-- The fields of a hint (R87, R88). -/
def hintFields (d : Desc) : List (Field × Nat) :=
  [(PWR_HINT_TOL.TOL_US, p32 d 0), (PWR_HINT_KEEP.KEEP, p8 d 4), (PWR_STATUS.HOLD_RUN, 0)]

/-- A hint in force. -/
def hintSet (d : Desc) (s : State) : State := keepStandby (setFlds (hintFields d) s)

/-- And stored with PERSIST (R83). -/
def hinted (d : Desc) (s : State) : State :=
  if p8 d 6 = 1 then
    setFld PWR_HINT_KEEP.PERSISTED 1
      (recStore recHint (leBytes 4 (p32 d 0) ++ leBytes 2 (p8 d 4)) (hintSet d s)).1
  else hintSet d s

/-- POWER_HINT's result bytes (R88). -/
def hintResult (s : State) : Bytes :=
  [byteOf (selState false s).code, byteOf (selLimit false s), 0, 0] ++ leBytes 4 (exitUs (selState false s) s)

/-- It looks at the link alone of the host interface (Table 04.2). -/
theorem hintResult_withHif {h : Hif} (hl : h.link = s.hif.link) (ht : h.trained = s.hif.trained) :
    hintResult (withHif h s) = hintResult s := by
  have hrow6 : linkRow6 (withHif h s) = linkRow6 s := by simp only [linkRow6, withHif, hl, ht]
  have hlink : (withHif h s).hif.link = s.hif.link := hl
  have hrows : limitRows false (withHif h s) = limitRows false s := by
    simp only [limitRows, hrow6, hlink, Bool.false_and, Bool.false_eq_true, if_false]
    rfl
  have hsel : selState false (withHif h s) = selState false s := by simp only [selState, hrows]
  have hlim : selLimit false (withHif h s) = selLimit false s := by simp only [selLimit, hsel, hrows]
  have hexit : ∀ p, exitUs p (withHif h s) = exitUs p s := fun p => by cases p <;> rfl
  simp only [hintResult, hsel, hlim, hexit]

/-- What the parameters of a good hint are (Table 04.3). -/
theorem hintParBad_none (h : hintParBad d = none) : p8 d 4 ≤ 31 ∧ p8 d 6 ≤ 1 := by
  unfold hintParBad at h
  split at h
  · exact absurd h (by simp)
  · split at h
    · exact absurd h (by simp)
    · split at h
      · exact absurd h (by simp)
      · omega

/-- The hint in force moves fields and the UWB radio. -/
theorem hintSet_frame (d : Desc) (s : State) : ∃ w, hintSet d s = { s with
    regs := (setFlds (hintFields d) s).regs, uwb := { s.uwb with walk := w } } := by
  refine ⟨(keepStandby (setFlds (hintFields d) s)).uwb.walk, (keepStandby_eq _).trans ?_⟩
  rw [setFlds_regs (hintFields d) s]

theorem hintSet_regGet (off : Nat) (d : Desc) (s : State) :
    regGet off (hintSet d s) = regGet off (setFlds (hintFields d) s) := by
  obtain ⟨w, hw⟩ := hintSet_frame d s
  rw [hw, setFlds_regs (hintFields d) s]
  rfl

theorem hintSet_nv (d : Desc) (s : State) : (hintSet d s).nv = s.nv := by
  obtain ⟨w, hw⟩ := hintSet_frame d s
  rw [hw]

/-- Its fields. -/
theorem hintSet_fld (g : Field) (h : Regs.wf s = true) (hg : readable g (hintFields d) = true) :
    fld g (hintSet d s) = lastSet g (hintFields d) (fld g s) := by
  rw [← fld_setFlds (hintFields d) g s h hg, fld, fld, hintSet_regGet]

theorem hintSet_tol (h : Regs.wf s = true) : fld PWR_HINT_TOL.TOL_US (hintSet d s) = p32 d 0 := by
  rw [hintSet_fld _ h rfl]
  exact Nat.mod_eq_of_lt (leAt_lt_pow 0 4 d.par)

theorem hintSet_keep (h : Regs.wf s = true) (hb : hintParBad d = none) :
    fld PWR_HINT_KEEP.KEEP (hintSet d s) = p8 d 4 := by
  rw [hintSet_fld _ h rfl]
  exact Nat.mod_eq_of_lt (Nat.lt_of_le_of_lt (hintParBad_none hb).1 (by decide))

theorem hintSet_hold (h : Regs.wf s = true) : fld PWR_STATUS.HOLD_RUN (hintSet d s) = 0 := hintSet_fld _ h rfl

/-- A good hint's work. -/
theorem hintUnit_eq (h : Regs.wf s = true) (hb : hintParBad d = none) (hf : p8 d 6 = 1 → recFails recHint s = false) :
    hintUnit d s = complete d stOk (hintResult (hinted d s)) 0 (hinted d s) := by
  have hx : keepStandby (setFld PWR_STATUS.HOLD_RUN 0 (setFld PWR_HINT_KEEP.KEEP (p8 d 4)
      (setFld PWR_HINT_TOL.TOL_US (p32 d 0) s))) = hintSet d s := rfl
  have hbytes : hintBytes (hintSet d s) = leBytes 4 (p32 d 0) ++ leBytes 2 (p8 d 4) := by
    rw [hintBytes, hintSet_tol h, hintSet_keep h hb]
  have hle := (hintParBad_none hb).2
  simp only [hintUnit, hb, hx, hbytes]
  by_cases h6 : p8 d 6 = 1
  · have hbit : bit 0 (p8 d 6) = true := by rw [h6]; rfl
    have hok : recFails recHint (hintSet d s) = false := by rw [recFails, hintSet_nv]; exact hf h6
    rw [hinted, if_pos h6]
    simp only [hbit, if_true, recStore_ok _ hok, Bool.not_false, Bool.and_self, Bool.false_eq_true, if_false]
    rfl
  · have hbit : bit 0 (p8 d 6) = false := by rw [show p8 d 6 = 0 by omega]; rfl
    rw [hinted, if_neg h6]
    simp only [hbit, Bool.false_eq_true, if_false, Bool.false_and]
    rfl

/-- What a hint changes: registers, the NV store with PERSIST, and the UWB radio's moves. -/
theorem hinted_frame (hf : p8 d 6 = 1 → recFails recHint s = false) :
    ∃ r n w, hinted d s = { s with regs := r, nv := n, uwb := { s.uwb with walk := w } } := by
  obtain ⟨w, hw⟩ := hintSet_frame d s
  unfold hinted
  split
  · next h6 =>
    have hok : recFails recHint (hintSet d s) = false := by rw [recFails, hintSet_nv]; exact hf h6
    rw [recStore_eq _ hok]
    generalize (recStore recHint (leBytes 4 (p32 d 0) ++ leBytes 2 (p8 d 4)) (hintSet d s)).1.nv = n
    rw [hw]
    exact ⟨_, n, w, rfl⟩
  · exact ⟨_, _, w, hw⟩

/-- The registers of a hint. -/
theorem hinted_fields (h : Regs.wf s = true) (hb : hintParBad d = none) (hf : p8 d 6 = 1 → recFails recHint s = false) :
    fld PWR_HINT_TOL.TOL_US (hinted d s) = p32 d 0 ∧ fld PWR_HINT_KEEP.KEEP (hinted d s) = p8 d 4 ∧
      fld PWR_STATUS.HOLD_RUN (hinted d s) = 0 ∧
      (p8 d 6 = 1 → fld PWR_HINT_KEEP.PERSISTED (hinted d s) = 1) ∧
      RegsKept [PWR_HINT_TOL.reg, PWR_HINT_KEEP.reg, PWR_STATUS.reg] s (hinted d s) := by
  have hset : RegsKept [PWR_HINT_TOL.reg, PWR_HINT_KEEP.reg, PWR_STATUS.reg] s (hintSet d s) := by
    obtain ⟨w, hw⟩ := hintSet_frame d s
    refine (RegsKept.setFlds (hintFields d) s rfl).trans (.of_eq _ (by rw [hw]) ?_)
    rw [hw, setFlds_regs (hintFields d) s]
  by_cases h6 : p8 d 6 = 1
  · have hok : recFails recHint (hintSet d s) = false := by rw [recFails, hintSet_nv]; exact hf h6
    let y : State := (recStore recHint (leBytes 4 (p32 d 0) ++ leBytes 2 (p8 d 4)) (hintSet d s)).1
    have hy : y = { hintSet d s with nv := y.nv } := recStore_eq _ hok
    have hkept : RegsKept [PWR_HINT_TOL.reg, PWR_HINT_KEEP.reg, PWR_STATUS.reg] (hintSet d s) y :=
      .of_eq _ (by rw [hy]) (by rw [hy])
    have hfld : ∀ g : Field, fld g y = fld g (hintSet d s) := by
      intro g
      rw [hy]
      rfl
    have hyw : Regs.wf y = true := (hset.trans hkept).wf h
    have hh : hinted d s = setFld PWR_HINT_KEEP.PERSISTED 1 y := by rw [hinted, if_pos h6]
    rw [hh]
    refine ⟨?_, ?_, ?_, fun _ => ?_, (hset.trans hkept).trans (.setFld _ _ _ (by decide))⟩
    · rw [fld_setFld_apart _ _ (by decide) (by decide) 1 y hyw, hfld, hintSet_tol h]
    · rw [fld_setFld_apart _ _ (by decide) (by decide) 1 y hyw, hfld, hintSet_keep h hb]
    · rw [fld_setFld_apart _ _ (by decide) (by decide) 1 y hyw, hfld, hintSet_hold h]
    · exact fld_setFld_same _ (by decide) 1 y hyw
  · have hh : hinted d s = hintSet d s := by rw [hinted, if_neg h6]
    rw [hh]
    exact ⟨hintSet_tol h, hintSet_keep h hb, hintSet_hold h, fun he => absurd he h6, hset⟩

/-- The stored hint. -/
theorem hinted_recRead (h6 : p8 d 6 = 1) (hf : recFails recHint s = false)
    (hc : swf (fun _ => Dual.empty) s.nv.recs = true) (hseq : s.nv.recs.all (fun r => seqsOk r.2) = true) :
    recRead recHint (hinted d s) = some (leBytes 4 (p32 d 0) ++ leBytes 2 (p8 d 4)) := by
  have hok : recFails recHint (hintSet d s) = false := by rw [recFails, hintSet_nv]; exact hf
  have hnv := hintSet_nv d s
  rw [hinted, if_pos h6]
  exact recStore_recRead _ hok (by rw [hnv]; exact hc) (by rw [hnv]; exact hseq)

/-- POWER_HINT (R83, R87, R88). -/
theorem powerHint_hints (hs : serves t d s) (hrow : isRow 0x02 d = true) (hb : hintParBad d = none)
    (hf : p8 d 6 = 1 → recFails recHint s = false) :
    ∃ s1 s', exec (.powerHint t d) s = .next s' ∧
      answers d stOk ([byteOf (selState false s1).code, byteOf (selLimit false s1), 0, 0]
        ++ leBytes 4 (exitUs (selState false s1) s1)) 0 s1 s' ∧
      s1 = { elapse t s with regs := s1.regs, nv := s1.nv, uwb := { s.uwb with walk := s1.uwb.walk } } ∧
      fld PWR_HINT_TOL.TOL_US s1 = p32 d 0 ∧ fld PWR_HINT_KEEP.KEEP s1 = p8 d 4 ∧ fld PWR_STATUS.HOLD_RUN s1 = 0 ∧
      keepsRegs [PWR_HINT_TOL.reg, PWR_HINT_KEEP.reg, PWR_STATUS.reg] s s1 ∧
      (p8 d 6 = 0 → s1.nv = (elapse t s).nv) ∧
      (p8 d 6 = 1 → fld PWR_HINT_KEEP.PERSISTED s1 = 1 ∧
        recRead recHint s1 = some (leBytes 4 (p32 d 0) ++ leBytes 2 (p8 d 4))) := by
  obtain ⟨fl, tn, hans, hrun⟩ := served_working hs
  obtain ⟨-, hmem, ⟨-, -, -, -, -, -, -, hseq⟩, -⟩ := hs
  have hwf := memorySafe_elapse_wf hmem t
  obtain ⟨-, -, -, -, -, hrecs⟩ := hmem
  let x : State := working fl tn (elapse t s)
  have hfx : p8 d 6 = 1 → recFails recHint x = false := by
    intro h6
    simpa [x, working, recFails] using hf h6
  obtain ⟨r, n, w, hframe⟩ := hinted_frame (d := d) (s := x) hfx
  let s1 : State := withHif (elapse t s).hif (hinted d x)
  obtain ⟨htol, hkeep, hhold, hpers, hregs⟩ := hinted_fields (d := d) (s := x) hwf hb hfx
  have hansH : Answerable d (hinted d x) := by
    rw [hframe]
    exact ⟨hans.heard, hans.mem, hans.hostWait, hans.wait, hans.queue⟩
  have hend := hansH.quiet (st := stOk) (det := 0) (res := hintResult (hinted d x)) (quietStatus_ok _)
  have hres : hintResult (hinted d x) = hintResult s1 := by
    have hh : (hinted d x).hif = x.hif := by rw [hframe]
    have he : hinted d x = withHif x.hif s1 := by rw [← hh]; rfl
    rw [he]
    exact hintResult_withHif rfl rfl
  have hqps : (hinted d x).hif.qps = (elapse t s).hif.qps := by rw [hframe]; rfl
  rw [hres] at hend
  refine ⟨s1, finish (complete d stOk (hintResult s1) 0 (hinted d x)), ?_, answers_of_hif hend rfl hqps.symm, ?_, htol, hkeep, hhold, fun off ho => ?_, fun h6 => ?_,
    fun h6 => ⟨hpers h6, ?_⟩⟩
  · show descCommand t (asOp 0x02 d) hintUnit s = _
    rw [asOp_self hrow, hrun hintUnit]
    rw [← hres, ← hintUnit_eq (s := x) hwf hb hfx]
  · have hs1 : s1 = { elapse t s with regs := r, nv := n, uwb := { (elapse t s).uwb with walk := w } } := by
      simp only [s1]
      rw [hframe]
      rfl
    rw [hs1, elapse_uwb]
  · rw [← elapse_regGet off t s]
    exact hregs.keeps off ho
  · have hnv : (hinted d x).nv = (hintSet d x).nv := by rw [hinted, if_neg (by omega)]
    show (hinted d x).nv = _
    rw [hnv, hintSet_nv]
    rfl
  · refine hinted_recRead (s := x) h6 (hfx h6) ?_ ?_
    · show swf (fun _ => Dual.empty) (elapse t s).nv.recs = true
      rw [elapse_nv_recs]
      exact hrecs
    · show (elapse t s).nv.recs.all (fun r => seqsOk r.2) = true
      rw [elapse_nv_recs]
      exact hseq

end

/-- Settles O16: each of the three opcodes on its own. -/
theorem hintsFencesAndRoutesComplete : Obligations.HintsFencesAndRoutesComplete :=
  ⟨fun _ _ _ hs hrow => ⟨nopFence_answers hs hrow, fun _ hp => nopFence_badLen hs hrow hp⟩,
    fun _ _ _ hs hrow hb hf => powerHint_hints hs hrow hb hf,
    fun _ _ _ hs hrow ht hp hl => eventRoute_routes hs hrow ht hp hl⟩

end Sys2Proof.Machine
end

section
/-! SUPPORT. A schedule entry whose high word is latched. -/
namespace Sys2Proof.Machine

/-- A device whose host has read a register next to schedule entry 0 and latched its word. -/
def latchedSchedule : State := { workingDevice with latchHi := [(PWR_SCHEDn.reg 0, 0)] }

/-- Refutes O15: a write of a schedule entry lets go of a word latched at its offset, which the frame of the clauses about
it holds fixed. -/
theorem not_scheduleAndPinsAskForPolls : ¬ Obligations.ScheduleAndPinsAskForPolls := by
  intro h
  have hm : memorySafe latchedSchedule := by
    unfold memorySafe
    decide +kernel
  have hs : shaped latchedSchedule := by
    unfold shaped
    decide +kernel
  obtain ⟨-, hoff, -⟩ := h.1 latchedSchedule 0 0 0 (by decide +kernel) (by decide +kernel) hm hs (by decide)
  obtain ⟨s', hs', -, -, -, hset⟩ := hoff (by decide)
  obtain ⟨x, hx, hgone⟩ := nextMeets_exists (p := fun s => s.latchHi == [])
    (o := exec (.pwrSchedEnable 0 (PWR_SCHEDn.reg 0) 0) latchedSchedule) (by decide +kernel)
  obtain rfl : x = s' := by injection hx.symm.trans hs'
  have hkept : x.latchHi = latchedSchedule.latchHi := (settles_latchHi hset).trans (elapse_latchHi 0 _)
  rw [hkept] at hgone
  exact absurd hgone (by decide)

end Sys2Proof.Machine
end

section
/-! SUPPORT. Vectors, and the delivery of stored events. -/
namespace Sys2Proof.Machine

/-! ## Effects on the host interface alone -/

/-- What ends a command that has touched the host interface alone. -/
theorem finish_hif {s b x : State} (hl : live s = true) (hlgr : b.lgr = s.lgr) (hfold : b.fold = s.fold)
    (hx : x = { b with hif := x.hif }) :
    settles { b with hif := (finish x).hif } (finish x) ∧ (finish x).hif = x.hif := by
  have hset : settles x (finish x) := finish_settles_of s x hl (by rw [hx]; exact hlgr) (by rw [hx]; exact hfold)
  have hh := settles_hif hset
  refine ⟨?_, hh⟩
  rw [hh, ← hx]
  exact hset

theorem qp_setQp (n m : Nat) (q : Qp) (s : State) (h : n < s.hif.qps.length) :
    qp m (setQp n q s) = if m = n then q else qp m s := by
  simp only [qp, setQp, List.getD_eq_getElem?_getD, List.getElem?_set]
  by_cases e : n = m
  · subst e
    simp [h]
  · rw [if_neg e, if_neg (Ne.symm e)]

theorem raiseVector_qp (n m : Nat) (s : State) : qp m (raiseVector n s) = qp m s := by
  rw [raiseVector_eq]
  rfl

section
variable {s : State} {t n : Nat}

/-! ## MSIX_COALESCE_TIMEOUT -/

/-- MSIX_COALESCE_TIMEOUT at its time (R130). -/
theorem msixCoalesceTimeout_signals (hl : live s = true) (hq : s.hif.qps.length = 32) (hn : n < 32) {x : Nat}
    (hx : (qp n s).unsigAt = some x) (hdue : x + usTicks (fld (QPn_CFG.COAL_US n) s) ≤ now (elapse t s)) :
    ∃ s', exec (.msixCoalesceTimeout t n) s = .next s' ∧ qp n s' = { qp n s with unsig := 0, unsigAt := none } ∧
      (s.hif.msixEn = true → (s.hif.msix.getD n MsixEntry.reset).masked = false → s'.hif.sent = n :: s.hif.sent) ∧
      (s.hif.msixEn = true → (s.hif.msix.getD n MsixEntry.reset).masked = true →
        s'.hif.pba = s.hif.pba ||| BitVec.ofNat 34 (2 ^ n) ∧ s'.hif.sent = s.hif.sent) ∧
      settles { elapse t s with hif := s'.hif } s' := by
  let y : State := setQp n { qp n s with unsig := 0, unsigAt := none } (elapse t s)
  have hqp : qp n (elapse t s) = qp n s := by simp [qp]
  have hrun : exec (.msixCoalesceTimeout t n) s = .next (finish (raiseVector n y)) := by
    refine (command_live t _ s hl).trans ?_
    rw [onlyIf, if_pos (by simpa using hn)]
    simp only [coalesceTimeout, hqp, hx, elapse_fld, onlyIf, hdue, decide_true, if_true, y]
  have hframe : raiseVector n y = { elapse t s with hif := (raiseVector n y).hif } := by
    rw [raiseVector_eq]
    rfl
  obtain ⟨hset, hh⟩ := finish_hif hl (elapse_lgr t s) (elapse_fold t s) hframe
  have hyq : qp n y = { qp n s with unsig := 0, unsigAt := none } := by
    rw [qp_setQp _ _ _ _ (by simpa [hq] using hn), if_pos rfl]
  refine ⟨_, hrun, ?_, fun hen hm => ?_, fun hen hm => ?_, hset⟩
  · rw [qp, hh]
    exact (raiseVector_qp n n y).trans hyq
  · rw [hh, raiseVector, if_pos (by simpa [y, setQp] using hen), if_neg (by simpa [y, setQp] using hm)]
    simp [y, setQp]
  · rw [hh, raiseVector, if_pos (by simpa [y, setQp] using hen), if_pos (by simpa [y, setQp] using hm)]
    simp [y, setQp]

/-! ## MSIX_VECTOR_UNMASK -/

/-- A pending message is sent, and its pending bit cleared (R130). -/
theorem sendPending_eq (s : State) (n : Nat) : sendPending s n =
    { s with hif := { s.hif with pba := (sendPending s n).hif.pba, sent := (sendPending s n).hif.sent } } := by
  unfold sendPending
  split <;> rfl

/-- The pending bits after it. -/
theorem sendPending_pba (s : State) (n k : Nat) (hen : s.hif.msixEn = true) (hk : k < 34) :
    (sendPending s n).hif.pba.getLsbD k =
      (s.hif.pba.getLsbD k && !(k == n && !(s.hif.msix.getD n MsixEntry.reset).masked)) := by
  unfold sendPending
  by_cases hc : (s.hif.msixEn && !(s.hif.msix.getD n MsixEntry.reset).masked && s.hif.pba.getLsbD n) = true
  · rw [if_pos hc]
    simp only [Bool.and_eq_true, Bool.not_eq_true'] at hc
    have hbit : (BitVec.ofNat 34 (2 ^ n)).getLsbD k = (k == n) := by
      simp only [BitVec.getLsbD_ofNat, hk, decide_true, Bool.true_and, Nat.testBit_two_pow]
      by_cases e : n = k
      · simp [e]
      · simp [e, Ne.symm e]
    simp only [BitVec.getLsbD_and, BitVec.getLsbD_not, hbit, hc.1.2, hk, decide_true, Bool.true_and, Bool.not_false,
      Bool.and_true]
  · rw [if_neg hc]
    by_cases e : k = n
    · subst e
      simp only [hen, Bool.true_and, Bool.and_eq_true, Bool.not_eq_true'] at hc
      cases hm : (s.hif.msix.getD k MsixEntry.reset).masked
      · have hp : s.hif.pba.getLsbD k = false := by
          cases hp : s.hif.pba.getLsbD k
          · rfl
          · exact absurd ⟨hm, hp⟩ hc
        simp [hp]
      · simp
    · simp [e]

/-- The messages sent by then. -/
theorem sendPending_sent (s : State) (n : Nat) (hen : s.hif.msixEn = true) :
    (sendPending s n).hif.sent =
      (if !(s.hif.msix.getD n MsixEntry.reset).masked && s.hif.pba.getLsbD n then [n] else []) ++ s.hif.sent := by
  simp only [sendPending, hen, Bool.true_and]
  split <;> rfl

/-- A TLP on a device that enters no state: from Graze and Pen it goes to Run (Table 04.6). -/
theorem tlpWake_states (s : State) (he : s.pwr.entering = none) :
    tlpWake s = if s.pwr.st = .graze ∨ s.pwr.st = .pen then setSrc 0x0C (setPState .run s) else s := by
  unfold tlpWake exitRun
  cases hst : s.pwr.st <;> simp [he, hst]

/-- It does so whatever the host interface holds. -/
theorem tlpWake_withHif (h : Hif) (s : State) (he : s.pwr.entering = none) :
    tlpWake (withHif h s) = withHif h (tlpWake s) := by
  have hsrc : setSrc 0x0C (withHif h (setPState .run s)) = withHif h (setSrc 0x0C (setPState .run s)) := by
    simp only [setSrc, apply_ite (withHif h)]
    rfl
  rw [tlpWake_states _ he, tlpWake_states (withHif h s) he, apply_ite (withHif h)]
  exact if_congr Iff.rfl hsrc rfl

/-- The host interface at a TLP is that at the tick. -/
theorem tlpWake_hif (t : Nat) (hl : live s = true) :
    (tlpWake (elapse t s)).hif = s.hif ∧ (tlpWake (elapse t s)).lgr = s.lgr ∧ (tlpWake (elapse t s)).fold = s.fold := by
  have he : (elapse t s).pwr.entering = none := by simpa using live_entering hl
  rw [tlpWake_eq _ he]
  simp

/-- MSIX_VECTOR_UNMASK of a vector (R130). -/
theorem msixVectorUnmask_sends (hl : live s = true) (hm : s.hif.msix.length = 34) (hn : n < 34)
    (hen : s.hif.msixEn = true) :
    ∃ s', exec (.msixVectorUnmask t n false) s = .next s' ∧
      (s'.hif.msix.getD n MsixEntry.reset).masked = false ∧ s'.hif.pba.getLsbD n = false ∧
      s'.hif.sent = (if s.hif.pba.getLsbD n then [n] else []) ++ s.hif.sent ∧
      settles { tlpWake (elapse t s) with hif := s'.hif } s' := by
  obtain ⟨hhif, hlgr, hfold⟩ := tlpWake_hif t hl
  let b : State := tlpWake (elapse t s)
  let y : State := { b with hif := { b.hif with
    msix := b.hif.msix.set n { b.hif.msix.getD n MsixEntry.reset with masked := false } } }
  have hrun : exec (.msixVectorUnmask t n false) s = .next (finish (sendPending y n)) := by
    refine (command_live t _ s hl).trans ?_
    simp only [Bool.false_eq_true, if_false, hn, if_true]
    rfl
  have hframe : sendPending y n = { b with hif := (sendPending y n).hif } := by
    rw [sendPending_eq]
  obtain ⟨hset, hh⟩ := finish_hif hl hlgr hfold hframe
  have hbm : b.hif.msix.length = 34 := by rw [hhif]; exact hm
  have hent : (y.hif.msix.getD n MsixEntry.reset).masked = false := by
    simp only [y, List.getD_eq_getElem?_getD, List.getElem?_set, hbm, hn, if_true]
    rfl
  have hyen : y.hif.msixEn = true := by
    show b.hif.msixEn = true
    rw [hhif]
    exact hen
  refine ⟨_, hrun, ?_, ?_, ?_, hset⟩
  · rw [hh, sendPending_eq]
    exact hent
  · rw [hh, sendPending_pba y n n hyen hn, hent]
    simp
  · rw [hh, sendPending_sent y n hyen, hent]
    show (if !false && b.hif.pba.getLsbD n then [n] else []) ++ b.hif.sent = _
    rw [hhif]
    simp

/-- What pending messages leave, sent for the vectors of a list in order. -/
structure Sent (l : List Nat) (s x : State) : Prop where
  frame : x = { s with hif := { s.hif with pba := x.hif.pba, sent := x.hif.sent } }
  pba : ∀ k < 34, x.hif.pba.getLsbD k =
    (s.hif.pba.getLsbD k && !(l.contains k && !(s.hif.msix.getD k MsixEntry.reset).masked))
  sent : ∀ k < 34, k ∈ l → (s.hif.msix.getD k MsixEntry.reset).masked = false → s.hif.pba.getLsbD k = true →
    k ∈ x.hif.sent
  kept : s.hif.sent ⊆ x.hif.sent

theorem foldl_sendPending (l : List Nat) (s : State) (hen : s.hif.msixEn = true) :
    Sent l s (l.foldl sendPending s) := by
  induction l generalizing s with
  | nil => exact ⟨rfl, fun k _ => by simp, fun k _ hk => absurd hk List.not_mem_nil, fun _ h => h⟩
  | cons n l ih =>
    have hy := sendPending_eq s n
    have hmsix : (sendPending s n).hif.msix = s.hif.msix := by rw [hy]
    have hyen : (sendPending s n).hif.msixEn = true := by rw [hy]; exact hen
    obtain ⟨hframe, hpba, hsent, hkept⟩ := ih (sendPending s n) hyen
    rw [List.foldl_cons]
    generalize l.foldl sendPending (sendPending s n) = x at *
    refine ⟨?_, fun k hk => ?_, fun k hk hmem hm hp => ?_, fun a ha => hkept ?_⟩
    · rw [hy] at hframe
      exact hframe
    · rw [hpba k hk, hmsix, sendPending_pba s n k hen hk]
      by_cases e : k = n
      · subst e
        cases s.hif.pba.getLsbD k <;> cases (s.hif.msix.getD k MsixEntry.reset).masked <;> simp
      · have hkn : (k == n) = false := by simpa using e
        simp only [List.contains_cons, hkn, Bool.false_or, Bool.false_and, Bool.not_false, Bool.and_true]
    · by_cases e : k = n
      · subst e
        refine hkept ?_
        rw [sendPending_sent s k hen, hm, hp]
        simp
      · have hmem' : k ∈ l := by simpa [e] using hmem
        refine hsent k hk hmem' (by rw [hmsix]; exact hm) ?_
        rw [sendPending_pba s n k hen hk, hp]
        simp [e]
    · rw [sendPending_sent s n hen]
      exact List.mem_append_right _ ha

/-- MSI-X enabled in its capability (R130). -/
theorem msixEnable_sends (hl : live s = true) :
    ∃ s', exec (.msixVectorUnmask t n true) s = .next s' ∧ s'.hif.msixEn = true ∧
      (∀ k < 34, (s.hif.msix.getD k MsixEntry.reset).masked = false → s'.hif.pba.getLsbD k = false) ∧
      (∀ k < 34, (s.hif.msix.getD k MsixEntry.reset).masked = true → s'.hif.pba.getLsbD k = s.hif.pba.getLsbD k) ∧
      (∀ k < 34, (s.hif.msix.getD k MsixEntry.reset).masked = false → s.hif.pba.getLsbD k = true → k ∈ s'.hif.sent) ∧
      settles { tlpWake (elapse t s) with hif := s'.hif } s' := by
  obtain ⟨hhif, hlgr, hfold⟩ := tlpWake_hif t hl
  let b : State := tlpWake (elapse t s)
  let y : State := withHif { (elapse t s).hif with msixEn := true } b
  have hrun : exec (.msixVectorUnmask t n true) s = .next (finish ((List.range 34).foldl sendPending y)) := by
    refine (command_live t _ s hl).trans ?_
    have hw := tlpWake_withHif { (elapse t s).hif with msixEn := true } (elapse t s) (by simpa using live_entering hl)
    simp only [if_true]
    exact congrArg (fun z => Host.Outcome.next (finish ((List.range 34).foldl sendPending z))) hw
  obtain ⟨hframe, hpba, hsent, -⟩ := foldl_sendPending (List.range 34) y rfl
  have hx : (List.range 34).foldl sendPending y = { b with hif := ((List.range 34).foldl sendPending y).hif } := by
    rw [hframe]
    rfl
  obtain ⟨hset, hh⟩ := finish_hif hl hlgr hfold hx
  have hmsix : y.hif.msix = s.hif.msix := by
    show (elapse t s).hif.msix = _
    rw [elapse_hif]
  have hyp : y.hif.pba = s.hif.pba := by
    show (elapse t s).hif.pba = _
    rw [elapse_hif]
  have hin : ∀ k < 34, k ∈ List.range 34 := fun k hk => List.mem_range.mpr hk
  refine ⟨_, hrun, ?_, fun k hk hm => ?_, fun k hk hm => ?_, fun k hk hm hp => ?_, hset⟩
  · rw [hh, hframe]
    rfl
  · rw [hh, hpba k hk, hmsix, hm]
    simp [hk]
  · rw [hh, hpba k hk, hmsix, hm, hyp]
    simp
  · rw [hh]
    exact hsent k hk (hin k hk) (by rw [hmsix]; exact hm) (by rw [hyp]; exact hp)

/-! ## BACKLOG_DELIVERY -/

/-- Whether a ring takes an event depends on the host interface and its registers. -/
theorem canDeliver_congr {a b : State} (hh : b.hif = a.hif) (hr : b.regs = a.regs) (hp : b.part = a.part) (n : Nat) :
    canDeliver n b = canDeliver n a := by
  have hg : ∀ off, regGet off b = regGet off a := fun off => by rw [regGet, regGet, hr, hp]
  have howed : owed n b = owed n a := by rw [owed, owed, inFlight, inFlight, hh]
  have hsize : cqSize n b = cqSize n a := by rw [cqSize, cqSize, fld, fld, hg]
  have hen : hifEnabled b = hifEnabled a := by simp only [hifEnabled, flag, fld, hg, hh]
  have hqp : qp n b = qp n a := by rw [qp, qp, hh]
  have hlink : linkUp b = linkUp a := by rw [linkUp, linkUp, hh]
  rw [canDeliver, canDeliver, hlink, hh, hen, hqp, howed, hsize]

/-- The state without the host interface and host memory. -/
def offHost (s : State) : State := { s with hif := Hif.reset, hostMem := [] }

theorem eq_of_offHost {s x : State} (h : offHost x = offHost s) : x = { s with hif := x.hif, hostMem := x.hostMem } :=
  congrArg (fun z : State => { z with hif := x.hif, hostMem := x.hostMem }) h

/-- A delivery writes its entry and raises a vector: the rings, host memory and the MSI-X state. -/
theorem deliver_offHost (e : Evt) (b : Bool) (s : State) : offHost (deliver e b s) = offHost s := by
  show offHost (raiseVector 32 (writeEntry (evtPair e.ts s) (evtBytes (evtPair e.ts s) e b s) s)) = _
  rw [raiseVector_eq]
  rfl

/-- The backlog is not its own to change. -/
theorem deliver_backlog (e : Evt) (b : Bool) (s : State) :
    (deliver e b s).hif.backlog = s.hif.backlog ∧ (deliver e b s).hif.overflow = s.hif.overflow := by
  have h := raiseVector_hif 32 (writeEntry (evtPair e.ts s) (evtBytes (evtPair e.ts s) e b s) s)
  exact ⟨(congrArg Hif.backlog h :), (congrArg Hif.overflow h :)⟩

/-- Stored events go out in order until none is left or the ring takes no more (R28). -/
theorem deliverList_drops (es : List Evt) (s : State) :
    offHost (deliverList es s) = offHost s ∧
      (∃ k, (deliverList es s).hif.backlog = es.drop k) ∧
      ((deliverList es s).hif.backlog = [] ∨ ∃ e, (deliverList es s).hif.backlog.head? = some e ∧
        canDeliver (evtPair e.ts (deliverList es s)) (deliverList es s) = false) := by
  induction es generalizing s with
  | nil => exact ⟨rfl, ⟨0, rfl⟩, .inl rfl⟩
  | cons e es ih =>
    unfold deliverList
    split
    · obtain ⟨hframe, ⟨k, hk⟩, hend⟩ := ih (deliver e true s)
      exact ⟨hframe.trans (deliver_offHost e true s), ⟨k + 1, hk⟩, hend⟩
    · next hno =>
      refine ⟨rfl, ⟨0, rfl⟩, .inr ⟨e, rfl, ?_⟩⟩
      simp only [Bool.not_eq_true] at hno
      exact hno

/-- The backlog's delivery, its overflow event included (R28, R129). -/
theorem deliverBacklog_drops (s : State) :
    offHost (deliverBacklog s) = offHost s ∧
      (∃ k, (deliverBacklog s).hif.backlog = s.hif.backlog.drop k) ∧
      ((deliverBacklog s).hif.backlog = [] ∨ ∃ e, (deliverBacklog s).hif.backlog.head? = some e ∧
        canDeliver (evtPair e.ts (deliverBacklog s)) (deliverBacklog s) = false) := by
  have hlist := deliverList_drops s.hif.backlog s
  unfold deliverBacklog
  dsimp only
  generalize deliverList s.hif.backlog s = y at hlist ⊢
  split
  · next o hb ho =>
    split
    · obtain ⟨hframe, hdrop, -⟩ := hlist
      have hnil : (deliver (ovfEvt o) true y).hif.backlog = [] := (deliver_backlog (ovfEvt o) true y).1.trans hb
      refine ⟨(deliver_offHost (ovfEvt o) true y).trans hframe, ?_, .inl hnil⟩
      rw [hb] at hdrop
      exact hdrop.imp fun k hk => hnil.trans hk
    · exact hlist
  · exact hlist

/-- BACKLOG_DELIVERY (R28). -/
theorem backlogDelivery_delivers (hl : live s = true) :
    ∃ s', exec (.backlogDelivery t) s = .next s' ∧ (∃ k, s'.hif.backlog = s.hif.backlog.drop k) ∧
      (s'.hif.backlog = [] ∨
        ∃ e, s'.hif.backlog.head? = some e ∧ canDeliver (evtPair e.ts s') s' = false) ∧
      settles { elapse t s with hif := s'.hif, hostMem := s'.hostMem } s' := by
  obtain ⟨hframe, hdrop, hend⟩ := deliverBacklog_drops (elapse t s)
  generalize hy : deliverBacklog (elapse t s) = y at hframe hdrop hend
  replace hframe := eq_of_offHost hframe
  have hrun : exec (.backlogDelivery t) s = .next (finish y) := by
    rw [← hy]
    exact command_live t deliverBacklog s hl
  have hset : settles y (finish y) := finish_settles_of s y hl (by rw [hframe]; simp) (by rw [hframe]; simp)
  have hpair : ∀ ts, evtPair ts (finish y) = evtPair ts y := by
    intro ts
    simp only [evtPair, settles_hif hset, settles_fld hset]
  refine ⟨_, hrun, ?_, ?_, ?_⟩
  · rw [settles_hif hset]
    simpa using hdrop
  · rw [settles_hif hset]
    refine hend.imp id (fun ⟨e, he, hc⟩ => ⟨e, he, ?_⟩)
    rw [hpair, canDeliver_congr (settles_hif hset) (settles_regs hset) (settles_part hset)]
    exact hc
  · rw [settles_hif hset, settles_hostMem hset, ← hframe]
    exact hset

/-- The last byte of an entry is its CFLAGS. -/
theorem entryBytes_cflags (tag status opcode idx sqHead ts : Nat) (res : Bytes) (detail cflags : Nat) :
    byteAt 31 (entryBytes tag status opcode idx sqHead ts res detail cflags) = cflags % 256 := by
  have hf : (fit 14 res).length = 14 := fit_length 14 res
  simp only [byteAt, entryBytes]
  rw [List.getD_append_right _ _ _ _ (by simp [leBytes_length, hf])]
  simp [leBytes_length, hf, byteOf]

/-- A single stored event that its ring takes stands at the ring's tail (R28, R128). -/
theorem backlogDelivery_one (hl : live s = true) (hm : memorySafe s) {e : Evt} (hb : s.hif.backlog = [e])
    (ho : s.hif.overflow = none) (hc : canDeliver (evtPair e.ts s) s = true) :
    ∃ s', exec (.backlogDelivery t) s = .next s' ∧ s'.hif.backlog = [] ∧
      mread zeroByte s'.hostMem (nextEntry (evtPair e.ts s) s) 32 =
        (entryBytes 0xFFFF e.status e.code e.seq (qp (evtPair e.ts s) s).sqHead e.ts e.res e.det 3).take 31
          ++ [byteOf (3 + 128 * b2n (qp (evtPair e.ts s) s).phase)] := by
  let x : State := elapse t s
  let n : Nat := evtPair e.ts s
  have hpair : evtPair e.ts x = n := by simp only [x, n, evtPair, elapse_hif, elapse_fld]
  have hcx : canDeliver n x = true := by
    rw [canDeliver_congr (elapse_hif t s) (elapse_regs t s) (elapse_part t s)]
    exact hc
  have hframe := eq_of_offHost (deliver_offHost e true x)
  have hover := (deliver_backlog e true x).2
  let y : State := { deliver e true x with hif := { (deliver e true x).hif with backlog := [] } }
  have hback : deliverBacklog x = y := by
    have hlist : deliverList x.hif.backlog x = y := by
      have hxb : x.hif.backlog = [e] := by simpa [x] using hb
      rw [hxb, deliverList, hpair, if_pos hcx]
      rfl
    have hyo : y.hif.overflow = none := hover.trans (by simpa [x] using ho)
    unfold deliverBacklog
    rw [hlist]
    simp only [hyo]
  have hrun : exec (.backlogDelivery t) s = .next (finish y) := by
    rw [← hback]
    exact command_live t deliverBacklog s hl
  have hset : settles y (finish y) :=
    finish_settles_of s y hl (by simp only [y]; rw [hframe]; simp [x]) (by simp only [y]; rw [hframe]; simp [x])
  have hqp : qp n x = qp n s := by simp [qp, x]
  have hbase : cqBase n x = cqBase n s := by simp only [cqBase, reg64, x, elapse_regGet]
  have hmem : y.hostMem = mwrite zeroByte s.hostMem (nextEntry n s)
      ((entryBytes 0xFFFF e.status e.code e.seq (qp n s).sqHead e.ts e.res e.det 3).take 31
        ++ [byteOf (3 + 128 * b2n (qp n s).phase)]) := by
    show (raiseVector 32 (writeEntry (evtPair e.ts x) (evtBytes (evtPair e.ts x) e true x) x)).hostMem = _
    rw [raiseVector_hostMem, hpair]
    simp only [writeEntry, setQp, evtBytes, hbase, hqp, nextEntry, entryBytes_cflags]
    rw [show x.hostMem = s.hostMem from elapse_hostMem t s]
    rfl
  refine ⟨_, hrun, ?_, ?_⟩
  · rw [settles_hif hset]
  · rw [settles_hostMem hset, hmem]
    have hread := mread_mwrite zeroByte ((entryBytes 0xFFFF e.status e.code e.seq (qp n s).sqHead e.ts e.res e.det 3).take 31
        ++ [byteOf (3 + 128 * b2n (qp n s).phase)]) (nextEntry n s) hm.1
    rwa [show ((entryBytes 0xFFFF e.status e.code e.seq (qp n s).sqHead e.ts e.res e.det 3).take 31
        ++ [byteOf (3 + 128 * b2n (qp n s).phase)]).length = 32 from by simp [entryBytes_length]] at hread

end

/-- Settles O20: vectors and stored events on their own. -/
theorem vectorsAndEventsGoOut : Obligations.VectorsAndEventsGoOut := by
  refine ⟨fun s t n hl _ hs => ⟨fun hn x hx hdue => ?_, fun hn hen => ?_, msixEnable_sends hl⟩,
    fun s t hl hm _ => ⟨backlogDelivery_delivers hl, fun e hb ho hc => backlogDelivery_one hl hm hb ho hc⟩⟩
  · exact msixCoalesceTimeout_signals hl hs.1 hn hx hdue
  · exact msixVectorUnmask_sends hl hs.2.1 hn hen

end Sys2Proof.Machine
end

section
/-! SUPPORT. Doorbells, the pairs' registers, and the switches of the host interface. -/
namespace Sys2Proof.Machine

section
variable {s : State} {t n : Nat} {v : Word}

/-! ## A TLP -/

/-- Every register but PWR_STATUS reads at a TLP as before. -/
theorem tlpWake_regGet (t : Nat) (hl : live s = true) {o : Nat} (ho : o ≠ PWR_STATUS.reg) :
    regGet o (tlpWake (elapse t s)) = regGet o s := written_regGet t 0 hl ho

theorem tlpWake_fld (t : Nat) (hl : live s = true) (f : Field) (hf : f.off ≠ PWR_STATUS.reg) :
    fld f (tlpWake (elapse t s)) = fld f s := by
  rw [fld, tlpWake_regGet t hl hf, fld]

theorem tlpWake_qp (t : Nat) (hl : live s = true) (m : Nat) : qp m (tlpWake (elapse t s)) = qp m s := by
  rw [qp, (tlpWake_hif t hl).1, qp]

theorem tlpWake_regs_wf (t : Nat) (hl : live s = true) (hm : memorySafe s) : Regs.wf (tlpWake (elapse t s)) = true :=
  tlpWake_wf _ (by simpa using live_entering hl) (memorySafe_elapse_wf hm t)

/-- The sizes of a pair's rings at a TLP. -/
theorem tlpWake_sizes (t : Nat) (hl : live s = true) (hn : n < 32) :
    sqSize n (tlpWake (elapse t s)) = sqSize n s ∧ cqSize n (tlpWake (elapse t s)) = cqSize n s := by
  have hne : 0x0110 + 24 * n ≠ PWR_STATUS.reg := by
    simp only [PWR_STATUS.reg]
    omega
  constructor
  · rw [sqSize, tlpWake_fld t hl _ hne, sqSize]
  · rw [cqSize, tlpWake_fld t hl _ hne, cqSize]

/-! ## A violation of a doorbell -/

/-- Setting a fault sets its bit and may raise vector 33 (R130). -/
theorem setFault_eq (f : Field) (s : State) : setFault f s = { s with
    regs := (setFault f s).regs
    hif := { s.hif with pba := (setFault f s).hif.pba, sent := (setFault f s).hif.sent } } := by
  unfold setFault
  split
  · rfl
  · rw [raiseVector_eq]
    rfl

theorem setFault_regs (f : Field) (s : State) :
    (setFault f s).regs = if flag f s then s.regs else (setFld f 1 s).regs := by
  unfold setFault
  split
  · rfl
  · rw [raiseVector_eq]

theorem setFault_kept {offs : List Nat} (f : Field) (s : State) (hf : f.off ∈ offs) : RegsKept offs s (setFault f s) := by
  have hp : (setFault f s).part = s.part := by rw [setFault_eq]
  have hr := setFault_regs f s
  by_cases h : flag f s = true
  · rw [if_pos h] at hr
    exact .of_eq offs hr hp
  · rw [if_neg h] at hr
    exact (RegsKept.setFld f 1 s hf).trans (.of_eq offs hr hp)

theorem fld_setFault (f : Field) (hf : f.fits = true) (hw : f.width ≠ 0) (s : State) (h : Regs.wf s = true) :
    fld f (setFault f s) = 1 := by
  have hp : (setFault f s).part = s.part := by rw [setFault_eq]
  have hr := setFault_regs f s
  by_cases hfl : flag f s = true
  · rw [if_pos hfl] at hr
    have h1 : fld f (setFault f s) = fld f s := by rw [fld, fld, regGet, regGet, hr, hp]
    rw [h1]
    simpa [flag] using hfl
  · rw [if_neg hfl] at hr
    have h1 : fld f (setFault f s) = fld f (setFld f 1 s) := by rw [fld, fld, regGet, regGet, hr, hp]; rfl
    rw [h1, fld_setFld_same f hf 1 s h]
    exact Nat.mod_eq_of_lt (Nat.one_lt_two_pow hw)

/-- A doorbell violation counts and sets its bit; the pairs stay (R113, R114). -/
theorem doorbellViol_counts (hl : live s = true) (hm : memorySafe s) (f : Field) (hf : f.fits = true) (hw : f.width ≠ 0)
    (ho : f.off = HIF_FAULT.reg) :
    let s' := finish (doorbellViol f (tlpWake (elapse t s)))
    s'.hif.qps = s.hif.qps ∧ fld f s' = 1 ∧ fld HIF_VIOL_CNT.DB s' = sat 8 (fld HIF_VIOL_CNT.DB s + 1) ∧
      keepsRegs [HIF_FAULT.reg, HIF_VIOL_CNT.reg] (tlpWake (elapse t s)) s' := by
  intro s'
  let b : State := tlpWake (elapse t s)
  let y : State := bump HIF_VIOL_CNT.DB b
  obtain ⟨hhif, hlgr, hfold⟩ := tlpWake_hif t hl
  have hset : settles (setFault f y) s' :=
    finish_settles_of s _ hl (by rw [setFault_eq]; exact hlgr) (by rw [setFault_eq]; exact hfold)
  have hyw : Regs.wf y = true := regs_wf_setFld _ _ _ (tlpWake_regs_wf t hl hm)
  have hkept : RegsKept [HIF_FAULT.reg] y (setFault f y) := setFault_kept f y (by rw [ho]; exact List.mem_singleton.mpr rfl)
  refine ⟨?_, ?_, ?_, fun off hoff => ?_⟩
  · rw [settles_hif hset, setFault_eq]
    show (tlpWake (elapse t s)).hif.qps = _
    rw [hhif]
  · rw [settles_fld hset]
    exact fld_setFault f hf hw y hyw
  · rw [settles_fld hset, hkept.fld _ (by decide), fld_bump_same _ (by decide) b (tlpWake_regs_wf t hl hm),
      tlpWake_fld t hl _ (by decide)]
    rfl
  · simp only [List.mem_cons, List.not_mem_nil, or_false, not_or] at hoff
    rw [settles_regGet hset, hkept.keeps off (by simpa using hoff.1)]
    exact (RegsKept.bump (offs := [HIF_VIOL_CNT.reg]) HIF_VIOL_CNT.DB b (by decide)).keeps off (by simpa using hoff.2)

/-! ## Doorbells -/

/-- SQ_TAIL_DOORBELL of a pair is its write at the TLP. -/
theorem sqTailDoorbell_run (hl : live s = true) (hn : n < 32) :
    exec (.sqTailDoorbell t n v) s = .next (finish (sqTail n (v.toNat % 4096) (tlpWake (elapse t s)))) := by
  refine (command_live t _ s hl).trans ?_
  rw [onlyIf, if_pos (by simpa using hn)]

/-- CQ_HEAD_DOORBELL likewise. -/
theorem cqHeadDoorbell_run (hl : live s = true) (hn : n < 32) :
    exec (.cqHeadDoorbell t n v) s = .next (finish (cqHead n (v.toNat % 4096) (tlpWake (elapse t s)))) := by
  refine (command_live t _ s hl).trans ?_
  rw [onlyIf, if_pos (by simpa using hn)]

/-- A pair is replaced at a TLP, and nothing else. -/
theorem setQp_ends (hl : live s = true) (hq : s.hif.qps.length = 32) (hn : n < 32) (q : Qp) :
    let s' := finish (setQp n q (tlpWake (elapse t s)))
    qp n s' = q ∧ (∀ m, m ≠ n → qp m s' = qp m s) ∧ settles { tlpWake (elapse t s) with hif := s'.hif } s' := by
  intro s'
  obtain ⟨hhif, hlgr, hfold⟩ := tlpWake_hif t hl
  obtain ⟨hset, hh⟩ := finish_hif (x := setQp n q (tlpWake (elapse t s))) hl hlgr hfold rfl
  have hqp : ∀ m, qp m s' = if m = n then q else qp m s := by
    intro m
    rw [qp, hh, ← tlpWake_qp t hl m]
    exact qp_setQp n m q _ (by rw [hhif, hq]; exact hn)
  exact ⟨by rw [hqp, if_pos rfl], fun m hm => by rw [hqp, if_neg hm], hset⟩

/-- SQ_TAIL_DOORBELL in range moves the tail (R113). -/
theorem sqTailDoorbell_moves (hl : live s = true) (hq : s.hif.qps.length = 32) (hn : n < 32)
    (he : (qp n s).enabled = true) (hx : v.toNat % 4096 < sqSize n s) :
    ∃ s', exec (.sqTailDoorbell t n v) s = .next s' ∧ qp n s' = { qp n s with sqTail := v.toNat % 4096 } ∧
      (∀ m, m ≠ n → qp m s' = qp m s) ∧ settles { tlpWake (elapse t s) with hif := s'.hif } s' := by
  refine ⟨_, sqTailDoorbell_run hl hn, ?_⟩
  rw [sqTail, tlpWake_qp t hl, (tlpWake_sizes t hl hn).1, if_neg (by rw [he]; decide), if_neg (Nat.not_le.mpr hx)]
  exact setQp_ends hl hq hn _

/-- CQ_HEAD_DOORBELL in range releases the completions up to the head (R114). -/
theorem cqHeadDoorbell_releases (hl : live s = true) (hq : s.hif.qps.length = 32) (hn : n < 32)
    (he : (qp n s).enabled = true) (hx : v.toNat % 4096 < cqSize n s)
    (hk : (v.toNat % 4096 + cqSize n s - (qp n s).cqHead) % cqSize n s ≤ (qp n s).used) :
    ∃ s', exec (.cqHeadDoorbell t n v) s = .next s' ∧
      qp n s' = { qp n s with
        cqHead := v.toNat % 4096
        used := (qp n s).used - (v.toNat % 4096 + cqSize n s - (qp n s).cqHead) % cqSize n s } ∧
      (∀ m, m ≠ n → qp m s' = qp m s) ∧ settles { tlpWake (elapse t s) with hif := s'.hif } s' := by
  refine ⟨_, cqHeadDoorbell_run hl hn, ?_⟩
  have hin : ¬ (v.toNat % 4096 ≥ cqSize n s ∨
      (v.toNat % 4096 + cqSize n s - (qp n s).cqHead) % cqSize n s > (qp n s).used) := by omega
  simp only [cqHead, tlpWake_qp t hl, (tlpWake_sizes t hl hn).2]
  rw [if_neg (by rw [he]; decide), if_neg hin]
  exact setQp_ends hl hq hn _

/-- A doorbell that moves nothing and counts. -/
def Violates (s s' : State) (f : Field) (b : State) : Prop :=
  s'.hif.qps = s.hif.qps ∧ fld f s' = 1 ∧ fld HIF_VIOL_CNT.DB s' = sat 8 (fld HIF_VIOL_CNT.DB s + 1) ∧
    keepsRegs [HIF_FAULT.reg, HIF_VIOL_CNT.reg] b s'

/-- A doorbell out of range (R113, R114). -/
theorem doorbells_outOfRange (hl : live s = true) (hm : memorySafe s) (hn : n < 32) (he : (qp n s).enabled = true) :
    (sqSize n s ≤ v.toNat % 4096 → ∃ s', exec (.sqTailDoorbell t n v) s = .next s' ∧
      Violates s s' HIF_FAULT.DB_RANGE (tlpWake (elapse t s))) ∧
    (cqSize n s ≤ v.toNat % 4096 ∨
        (qp n s).used < (v.toNat % 4096 + cqSize n s - (qp n s).cqHead) % cqSize n s →
      ∃ s', exec (.cqHeadDoorbell t n v) s = .next s' ∧
        Violates s s' HIF_FAULT.DB_RANGE (tlpWake (elapse t s))) := by
  have hviol := doorbellViol_counts (t := t) hl hm HIF_FAULT.DB_RANGE (by decide) (by decide) rfl
  constructor
  · intro hx
    refine ⟨_, sqTailDoorbell_run hl hn, ?_⟩
    rw [sqTail, tlpWake_qp t hl, (tlpWake_sizes t hl hn).1, if_neg (by rw [he]; decide), if_pos hx]
    exact hviol
  · intro hx
    refine ⟨_, cqHeadDoorbell_run hl hn, ?_⟩
    simp only [cqHead, tlpWake_qp t hl, (tlpWake_sizes t hl hn).2]
    rw [if_neg (by rw [he]; decide), if_pos hx]
    exact hviol

/-- A doorbell of a disabled pair (R113, R114). -/
theorem doorbells_disabled (hl : live s = true) (hm : memorySafe s) (hn : n < 32) (he : (qp n s).enabled = false) :
    (∃ s', exec (.sqTailDoorbell t n v) s = .next s' ∧ Violates s s' HIF_FAULT.DB_DISABLED (tlpWake (elapse t s))) ∧
    (∃ s', exec (.cqHeadDoorbell t n v) s = .next s' ∧ Violates s s' HIF_FAULT.DB_DISABLED (tlpWake (elapse t s))) := by
  have hviol := doorbellViol_counts (t := t) hl hm HIF_FAULT.DB_DISABLED (by decide) (by decide) rfl
  constructor
  · refine ⟨_, sqTailDoorbell_run hl hn, ?_⟩
    rw [sqTail, tlpWake_qp t hl, if_pos he]
    exact hviol
  · refine ⟨_, cqHeadDoorbell_run hl hn, ?_⟩
    simp only [cqHead, tlpWake_qp t hl]
    rw [if_pos he]
    exact hviol

end

end Sys2Proof.Machine
end

section
/-! SUPPORT. The pairs' registers, the switches of the host interface, and the statement about pairs. -/
namespace Sys2Proof.Machine

section
variable {s : State} {t n : Nat} {v : Word}

/-! ## QP_ENABLE and QP_DISABLE -/

/-- The word of a pair's register. -/
def qpWord (sq cq cnt us : Nat) : Word := BitVec.ofNat 32 (sq + 16 * cq + 256 * cnt + 65536 * us)

/-- Its fields. -/
theorem qpWord_fields (n sq cq cnt us : Nat) (h1 : sq < 16) (h2 : cq < 16) (h3 : cnt < 256) (h4 : us < 256) :
    (QPn_CFG.SQ_SIZE n).of (qpWord sq cq cnt us) = sq ∧ (QPn_CFG.CQ_SIZE n).of (qpWord sq cq cnt us) = cq ∧
      (QPn_CFG.COAL_CNT n).of (qpWord sq cq cnt us) = cnt ∧ (QPn_CFG.COAL_US n).of (qpWord sq cq cnt us) = us := by
  simp only [Field.of, qpWord, QPn_CFG.SQ_SIZE, QPn_CFG.CQ_SIZE, QPn_CFG.COAL_CNT, QPn_CFG.COAL_US, BitVec.toNat_ofNat]
  omega

/-- A ring size of the table that is not 0. -/
theorem ringSizeOk_of {x : Nat} (h1 : 4 ≤ x) (h2 : x ≤ 12) : ringSizeOk x = true := by
  simp [ringSizeOk, h1, h2]

/-- What is left of a number when bit `n` is taken from it. -/
theorem testBit_land_without {x n : Nat} (hn : n < 32) : (Nat.land x (2 ^ 32 - 1 - 2 ^ n)).testBit n = false := by
  have hbit : (2 ^ 32 - 1 - 2 ^ n).testBit n = false := by
    have h : 2 ^ 32 - 1 - 2 ^ n = 2 ^ 32 - (2 ^ n + 1) := by omega
    rw [h, Nat.testBit_two_pow_sub_succ (Nat.pow_lt_pow_right (by norm_num) hn)]
    simp [Nat.testBit_two_pow_self]
  show (x &&& (2 ^ 32 - 1 - 2 ^ n)).testBit n = false
  rw [Nat.testBit_and, hbit, Bool.and_false]

/-- A pair's register is not PWR_STATUS, HIF_QP_ERR or HIF_STATUS. -/
theorem qpCfg_reg_ne (n : Nat) (hn : n < 32) :
    QPn_CFG.reg n ≠ PWR_STATUS.reg ∧ QPn_CFG.reg n ≠ HIF_QP_ERR.reg ∧ QPn_CFG.reg n ≠ HIF_STATUS.reg := by
  simp only [QPn_CFG.reg, PWR_STATUS.reg, HIF_QP_ERR.reg, HIF_STATUS.reg]
  omega

/-- The memories at the end of a command that has touched the host interface and registers. -/
theorem keepsMemory_of {x s' : State} (hset : settles x s') (hhost : x.hostMem = s.hostMem)
    (hdrv : x.droverMem = s.droverMem) (hmon : x.monMem = s.monMem) (hnv : x.nv.mem = s.nv.mem)
    (hrecs : x.nv.recs = s.nv.recs) : keepsMemory s s' := by
  refine ⟨fun a => ?_, fun a => ?_, fun a => ?_, fun a => ?_, ?_⟩
  · rw [settles_hostMem hset, hhost]
  · rw [settles_droverMem hset, hdrv]
  · rw [settles_monMem hset, hmon]
  · rw [settles_nv hset, hnv]
  · rw [settles_nv hset, hrecs]

/-- The rest of the device at a TLP is that at the tick. -/
theorem tlpWake_rest (t : Nat) (hl : live s = true) :
    (tlpWake (elapse t s)).hostMem = s.hostMem ∧ (tlpWake (elapse t s)).droverMem = s.droverMem ∧
      (tlpWake (elapse t s)).monMem = s.monMem ∧ (tlpWake (elapse t s)).nv.mem = s.nv.mem ∧
      (tlpWake (elapse t s)).nv.recs = s.nv.recs := by
  have he : (elapse t s).pwr.entering = none := by simpa using live_entering hl
  rw [tlpWake_eq _ he]
  simp

/-- A write to a pair's register is itself at the TLP. -/
theorem qpEnable_run (hl : live s = true) (hi : islandOn .pcie s = true) (hn : n < 32) :
    exec (.qpEnable t n v) s = .next (finish (writeQpCfg n v (tlpWake (elapse t s)))) := by
  refine (command_live t _ s hl).trans ?_
  have hie : islandOn .pcie (elapse t s) = true := by simpa [islandOn] using hi
  rw [onlyIf, if_pos (by simp [hn, hie])]

/-- QP_ENABLE (R110). -/
theorem qpEnable_enables (hl : live s = true) (hi : islandOn .pcie s = true) (hm : memorySafe s)
    (hq : s.hif.qps.length = 32) (hn : n < 32) (h1 : 4 ≤ (QPn_CFG.SQ_SIZE n).of v) (h2 : (QPn_CFG.SQ_SIZE n).of v ≤ 12)
    (h3 : 4 ≤ (QPn_CFG.CQ_SIZE n).of v) (h4 : (QPn_CFG.CQ_SIZE n).of v ≤ 12) (hus : (QPn_CFG.COAL_US n).of v ≠ 0)
    (he : (qp n s).enabled = false) (hqu : (qp n s).quiesced = true) :
    ∃ s', exec (.qpEnable t n v) s = .next s' ∧
      qp n s' = { Qp.reset with phase := true, enabled := true, quiesced := false } ∧
      (∀ m, m ≠ n → qp m s' = qp m s) ∧ fld (QPn_CFG.SQ_SIZE n) s' = (QPn_CFG.SQ_SIZE n).of v ∧
      fld (QPn_CFG.CQ_SIZE n) s' = (QPn_CFG.CQ_SIZE n).of v ∧ fld (QPn_CFG.COAL_CNT n) s' = (QPn_CFG.COAL_CNT n).of v ∧
      fld (QPn_CFG.COAL_US n) s' = (QPn_CFG.COAL_US n).of v ∧ (fld HIF_QP_ERR.QP s').testBit n = false ∧
      keepsRegs [QPn_CFG.reg n, HIF_QP_ERR.reg] (tlpWake (elapse t s)) s' ∧ keepsMemory s s' := by
  let w : State := tlpWake (elapse t s)
  obtain ⟨hhif, hlgr, hfold⟩ := tlpWake_hif t hl
  obtain ⟨hhost, hdrv, hmon, hnvm, hrecs⟩ := tlpWake_rest (s := s) t hl
  obtain ⟨hne1, hne2, hne3⟩ := qpCfg_reg_ne n hn
  let word : Word := qpWord ((QPn_CFG.SQ_SIZE n).of v) ((QPn_CFG.CQ_SIZE n).of v) ((QPn_CFG.COAL_CNT n).of v)
    ((QPn_CFG.COAL_US n).of v)
  let x : State := setQp n { Qp.reset with phase := true, enabled := true, quiesced := false } (regSet (QPn_CFG.reg n) word w)
  let e : Nat := Nat.land (fld HIF_QP_ERR.QP x) (2 ^ 32 - 1 - 2 ^ n)
  have hsq : (QPn_CFG.SQ_SIZE n).of v ≠ 0 := by omega
  have hcq : (QPn_CFG.CQ_SIZE n).of v ≠ 0 := by omega
  have hwe : (qp n w).enabled = false := by rw [tlpWake_qp t hl]; exact he
  have hwq : (qp n w).quiesced = true := by rw [tlpWake_qp t hl]; exact hqu
  have hrun : writeQpCfg n v w = setFld HIF_QP_ERR.QP e x := by
    have hus' : ((QPn_CFG.COAL_US n).of v != 0) = true := by simpa using hus
    simp only [writeQpCfg, ringSizeOk_of h1 h2, ringSizeOk_of h3 h4, hus', hus, hwe, hwq, if_true, if_false,
      Bool.and_self, Bool.false_eq_true, hsq, hcq, ne_eq, not_false_iff, and_self]
    rfl
  have hww : Regs.wf w = true := tlpWake_regs_wf t hl hm
  have hxw : Regs.wf x = true := regs_wf_regSet _ _ _ hww
  have hset : settles (setFld HIF_QP_ERR.QP e x) (finish (setFld HIF_QP_ERR.QP e x)) :=
    finish_settles_of s _ hl hlgr hfold
  have hcfg : regGet (QPn_CFG.reg n) (finish (setFld HIF_QP_ERR.QP e x)) = word := by
    rw [settles_regGet hset, regGet_setFld_ne _ _ _ _ hne2]
    exact regGet_regSet_same (QPn_CFG.reg n) word w hww
  have hqp : ∀ m, qp m (finish (setFld HIF_QP_ERR.QP e x)) =
      if m = n then { Qp.reset with phase := true, enabled := true, quiesced := false } else qp m s := by
    intro m
    rw [qp, settles_hif hset, ← tlpWake_qp t hl m]
    exact qp_setQp n m _ (regSet (QPn_CFG.reg n) word w) (by
      show n < (tlpWake (elapse t s)).hif.qps.length
      rw [hhif, hq]
      exact hn)
  obtain ⟨f1, f2, f3, f4⟩ := qpWord_fields n ((QPn_CFG.SQ_SIZE n).of v) ((QPn_CFG.CQ_SIZE n).of v)
    ((QPn_CFG.COAL_CNT n).of v) ((QPn_CFG.COAL_US n).of v) (by omega) (by omega)
    (Nat.mod_lt _ (Nat.two_pow_pos 8)) (Nat.mod_lt _ (Nat.two_pow_pos 8))
  refine ⟨_, (qpEnable_run hl hi hn).trans (by rw [show tlpWake (elapse t s) = w from rfl, hrun]), by rw [hqp, if_pos rfl],
    fun m hm' => by rw [hqp, if_neg hm'], ?_, ?_, ?_, ?_, ?_, fun off ho => ?_,
    keepsMemory_of hset hhost hdrv hmon hnvm hrecs⟩
  · exact (congrArg (QPn_CFG.SQ_SIZE n).of hcfg).trans f1
  · exact (congrArg (QPn_CFG.CQ_SIZE n).of hcfg).trans f2
  · exact (congrArg (QPn_CFG.COAL_CNT n).of hcfg).trans f3
  · exact (congrArg (QPn_CFG.COAL_US n).of hcfg).trans f4
  · rw [settles_fld hset, fld_setFld_same HIF_QP_ERR.QP (by decide) e x hxw]
    have hlt : e < 2 ^ 32 := Nat.lt_of_le_of_lt Nat.and_le_right (Nat.lt_of_le_of_lt (Nat.sub_le _ _) (by norm_num))
    rw [show HIF_QP_ERR.QP.width = 32 from rfl, Nat.mod_eq_of_lt hlt]
    exact testBit_land_without hn
  · simp only [List.mem_cons, List.not_mem_nil, or_false, not_or] at ho
    rw [settles_regGet hset, regGet_setFld_ne _ _ _ _ ho.2]
    exact regGet_regSet_ne (QPn_CFG.reg n) off word w ho.1

/-- Whether a pair has something in flight does not hang on its register. -/
theorem settlePair_eq (n : Nat) (s : State) : settlePair n s =
    if (qp n s).enabled = false ∧ inFlight n s = 0 then setQp n { qp n s with quiesced := true } s else s := rfl

/-- QP_DISABLE (R110). -/
theorem qpDisable_disables (hl : live s = true) (hi : islandOn .pcie s = true)
    (hq : s.hif.qps.length = 32) (hn : n < 32) (h0 : (QPn_CFG.SQ_SIZE n).of v = 0)
    (hc : ringSizeOk ((QPn_CFG.CQ_SIZE n).of v) = true) (he : (qp n s).enabled = true) (hb : (qp n s).blkDrv = false)
    (hold : fld (QPn_CFG.SQ_SIZE n) s ≠ 0) :
    ∃ s', exec (.qpDisable t n v) s = .next s' ∧ (qp n s').enabled = false ∧
      ((qp n s').quiesced = true ↔ inFlight n s = 0) ∧ (∀ m, m ≠ n → qp m s' = qp m s) ∧
      s'.hif.flight = s.hif.flight ∧ s'.hif.held = s.hif.held.filter (fun c => c.d.src != .host n) ∧ keepsMemory s s' := by
  let w : State := tlpWake (elapse t s)
  obtain ⟨hhif, hlgr, hfold⟩ := tlpWake_hif t hl
  obtain ⟨hhost, hdrv, hmon, hnvm, hrecs⟩ := tlpWake_rest (s := s) t hl
  obtain ⟨hne1, -, -⟩ := qpCfg_reg_ne n hn
  have hwqp : ∀ m, qp m w = qp m s := tlpWake_qp t hl
  have hwold : fld (QPn_CFG.SQ_SIZE n) w ≠ 0 := by rw [tlpWake_fld t hl _ hne1]; exact hold
  obtain ⟨r, hr⟩ : ∃ r, writeQpCfg n v w = disablePair n { w with regs := r } := by
    have hz : ringSizeOk 0 = true := rfl
    have hne : ¬ (0 = fld (QPn_CFG.SQ_SIZE n) w ∧ (QPn_CFG.CQ_SIZE n).of v = fld (QPn_CFG.CQ_SIZE n) w) :=
      fun h => hwold h.1.symm
    simp only [writeQpCfg, h0, hz, hc, if_true, hwqp, he, true_or, hne, if_false]
    have hregs : ∀ (c : Bool) (k : Nat), ∃ r,
        regSet (QPn_CFG.reg n) (BitVec.ofNat 32 k) (if c = true then w else setFld HIF_STATUS.ERR_RANGE 1 w) =
          { w with regs := r } := by
      intro c k
      cases c
      · exact ⟨_, rfl⟩
      · exact ⟨_, rfl⟩
    split
    · obtain ⟨r, hr⟩ := hregs _ _
      exact ⟨r, congrArg (disablePair n) hr⟩
    · obtain ⟨r, hr⟩ := hregs _ _
      exact ⟨r, congrArg (disablePair n) hr⟩
  let x : State := { w with regs := r }
  let q : Qp := { qp n s with enabled := false, quiesced := false, unsig := 0, unsigAt := none }
  let y : State := setQp n q { x with hif := { x.hif with held := x.hif.held.filter (fun c => c.d.src != .host n) } }
  have hblk : unblockDrover n x = x := by
    have hqx : (qp n x).blkDrv = false := (congrArg Qp.blkDrv (hwqp n)).trans hb
    rw [unblockDrover, if_neg (by rw [hqx]; decide)]
  have hdis : disablePair n x = settlePair n y := by
    have hqx : qp n x = qp n s := hwqp n
    simp only [disablePair, hblk, hqx]
    rfl
  have hlen : n < x.hif.qps.length := by
    show n < (tlpWake (elapse t s)).hif.qps.length
    rw [hhif, hq]
    exact hn
  have hy : ∀ m, qp m y = if m = n then q else qp m s := by
    intro m
    refine (qp_setQp n m q { x with
      hif := { x.hif with held := x.hif.held.filter (fun c => c.d.src != .host n) } } hlen).trans ?_
    split
    · rfl
    · exact hwqp m
  have hfl : inFlight n y = inFlight n s := by
    show inFlight n w = _
    rw [inFlight, hhif, inFlight]
  have hz : ∃ b, settlePair n y = setQp n { q with quiesced := b } y ∧ (b = true ↔ inFlight n s = 0) := by
    rw [settlePair_eq, hfl, hy, if_pos rfl]
    by_cases h : inFlight n s = 0
    · rw [if_pos ⟨rfl, h⟩]
      exact ⟨true, rfl, by simp [h]⟩
    · rw [if_neg (fun hh => h hh.2)]
      refine ⟨false, ?_, by simp [h]⟩
      show setQp n q _ = setQp n q (setQp n q _)
      simp only [setQp, List.set_set]
  obtain ⟨b, hz, hb'⟩ := hz
  have hset : settles (setQp n { q with quiesced := b } y) (finish (setQp n { q with quiesced := b } y)) :=
    finish_settles_of s _ hl hlgr hfold
  have hqp : ∀ m, qp m (finish (setQp n { q with quiesced := b } y)) =
      if m = n then { q with quiesced := b } else qp m s := by
    intro m
    rw [qp, settles_hif hset]
    refine (qp_setQp n m _ y ?_).trans ?_
    · show n < (x.hif.qps.set n q).length
      rw [List.length_set]
      exact hlen
    · split
      · rfl
      · next hne => rw [hy, if_neg hne]
  refine ⟨finish (setQp n { q with quiesced := b } y), ?_, by rw [hqp, if_pos rfl], ?_, fun m hm => by rw [hqp, if_neg hm],
    ?_, ?_, keepsMemory_of hset hhost hdrv hmon hnvm hrecs⟩
  · refine (command_live t _ s hl).trans ?_
    have hie : islandOn .pcie (elapse t s) = true := by simpa [islandOn] using hi
    rw [onlyIf, if_pos (by simp [hn, hie]), if_pos (.inl h0)]
    show Host.Outcome.next (finish (writeQpCfg n v w)) = _
    rw [hr, hdis, hz]
  · rw [hqp, if_pos rfl]
    exact hb'
  · rw [settles_hif hset]
    show (tlpWake (elapse t s)).hif.flight = _
    rw [hhif]
  · rw [settles_hif hset]
    show (tlpWake (elapse t s)).hif.held.filter _ = _
    rw [hhif]

/-- QP_QUIESCED (R110). -/
theorem qpQuiesced_settles (hl : live s = true) (hq : s.hif.qps.length = 32) (hn : n < 32)
    (he : (qp n s).enabled = false) :
    ∃ s', exec (.qpQuiesced t n) s = .next s' ∧ settles { elapse t s with hif := s'.hif } s' ∧
      qp n s' = { qp n s with quiesced := (qp n s).quiesced || decide (inFlight n s = 0) } ∧
      (∀ m, m ≠ n → qp m s' = qp m s) := by
  let x : State := elapse t s
  have hxq : ∀ m, qp m x = qp m s := fun m => by simp [qp, x]
  have hxf : inFlight n x = inFlight n s := by simp [inFlight, x]
  have hrun : exec (.qpQuiesced t n) s = .next (finish (settlePair n x)) := by
    refine (command_live t _ s hl).trans ?_
    rw [onlyIf, if_pos (by simpa using hn)]
  rw [hrun, settlePair_eq, hxq, hxf]
  by_cases h : inFlight n s = 0
  · rw [if_pos ⟨he, h⟩]
    obtain ⟨hset, hh⟩ := finish_hif (x := setQp n { qp n s with quiesced := true } x) hl (elapse_lgr t s)
      (elapse_fold t s) rfl
    have hqp : ∀ m, qp m (finish (setQp n { qp n s with quiesced := true } x)) =
        if m = n then { qp n s with quiesced := true } else qp m s := by
      intro m
      rw [qp, hh, ← hxq m]
      exact qp_setQp n m _ x (by simpa [x, hq] using hn)
    refine ⟨_, rfl, hset, ?_, fun m hm => by rw [hqp, if_neg hm]⟩
    rw [hqp, if_pos rfl]
    simp [h]
  · rw [if_neg (fun hh => h hh.2)]
    obtain ⟨hset, hh⟩ := finish_hif (x := x) hl (elapse_lgr t s) (elapse_fold t s) rfl
    have hqp : ∀ m, qp m (finish x) = qp m s := fun m => by rw [qp, hh]; exact hxq m
    refine ⟨_, rfl, hset, ?_, fun m _ => hqp m⟩
    rw [hqp]
    simp [h]

/-! ## HIF_CTL, bus mastering and D3hot -/

/-- The rows of HIF_CTL. -/
theorem rwRows_hif (p : Part) : rwRows p HIF_CTL.reg = [(HIF_CTL.EN, anyVal)] := by
  cases p <;> rfl

/-- HIF_CTL_EN_WRITE (R111). -/
theorem hifCtlEnWrite_writes (hl : live s = true) (hi : islandOn .pcie s = true) (hm : memorySafe s) :
    ∃ s', exec (.hifCtlEnWrite t v) s = .next s' ∧ fld HIF_CTL.EN s' = HIF_CTL.EN.of v ∧
      keepsRegs [HIF_CTL.reg] (written t HIF_CTL.reg s) s' ∧
      settles { written t HIF_CTL.reg s with regs := s'.regs } s' := by
  let w : State := written t HIF_CTL.reg s
  have hww : Regs.wf w = true := by
    obtain ⟨-, -, -, -, hregs, -⟩ := hm
    exact written_wf t _ s hl hregs
  let x : State := regSet HIF_CTL.reg (rowsWord [(HIF_CTL.EN, anyVal)] v (regNow HIF_CTL.reg w)) w
  have hstore : barStore HIF_CTL.reg v w = x := by
    have hrows : writeRows HIF_CTL.reg v w = x := by
      rw [writeRows, rwRows_hif]
      rfl
    rw [barStore_plain HIF_CTL.reg v w (by decide +kernel) (fun h => absurd h (by decide)), writePlain,
      writeActs_none _ _ _ (by decide), show w1cRows HIF_CTL.reg = [] from rfl, wrW1cs, List.foldl_nil, hrows]
    rfl
  obtain ⟨s', hs', hset⟩ := regWrite_settles t HIF_CTL.reg v s hl hi (by decide)
    (by rw [hstore]; rfl) (by rw [hstore]; rfl)
  rw [hstore] at hset
  refine ⟨s', hs', ?_, fun off ho => ?_, ?_⟩
  · rw [settles_fld hset]
    have hr : fld HIF_CTL.EN x = HIF_CTL.EN.of (rowsWord [(HIF_CTL.EN, anyVal)] v (regNow HIF_CTL.reg w)) :=
      congrArg HIF_CTL.EN.of (regGet_regSet_same HIF_CTL.reg _ w hww)
    rw [hr]
    exact of_rowsWord_mem [(HIF_CTL.EN, anyVal)] v _ (by simp; decide) (by simp) (List.mem_singleton.mpr rfl)
  · rw [settles_regGet hset]
    exact regGet_regSet_ne _ off _ w (by simpa using ho)
  · rw [settles_regs hset]
    exact hset

/-- Writing completions to their rings takes none of the held ones up. -/
theorem writeCpl_held (m : Nat) (c : HeldCpl) (s : State) :
    (writeCpl m c s).hif.held = s.hif.held ∧ (writeCpl m c s).hif.busMaster = s.hif.busMaster ∧
      hostOnly s (writeCpl m c s) := by
  refine ⟨?_, ?_, hostOnly_trans (b := writeEntry m _ s) rfl (signal_hostOnly m _ _ _)⟩
  · simp only [writeCpl, signal]
    split
    · rfl
    · split
      · rw [raiseVector_eq]
        rfl
      · rfl
  · simp only [writeCpl, signal]
    split
    · rfl
    · split
      · rw [raiseVector_eq]
        rfl
      · rfl

/-- The release of a held completion: it is written to its ring while its pair is enabled (R77). -/
def release (s : State) (c : HeldCpl) : State :=
  match c.d.src with
  | .host n => if (qp n s).enabled then writeCpl n c s else s
  | _ => s

theorem release_held (s : State) (c : HeldCpl) :
    (release s c).hif.held = s.hif.held ∧ (release s c).hif.busMaster = s.hif.busMaster ∧ hostOnly s (release s c) := by
  unfold release
  split
  · split
    · exact writeCpl_held _ _ _
    · exact ⟨rfl, rfl, rfl⟩
  · exact ⟨rfl, rfl, rfl⟩

theorem foldl_release_held (l : List HeldCpl) (s : State) :
    (l.foldl release s).hif.held = s.hif.held ∧ (l.foldl release s).hif.busMaster = s.hif.busMaster ∧
      hostOnly s (l.foldl release s) := by
  induction l generalizing s with
  | nil => exact ⟨rfl, rfl, rfl⟩
  | cons c l ih =>
    obtain ⟨h1, h2, h3⟩ := ih (release s c)
    obtain ⟨g1, g2, g3⟩ := release_held s c
    exact ⟨h1.trans g1, h2.trans g2, hostOnly_trans g3 h3⟩

/-- The release of the held completions. -/
theorem releaseHeld_eq (s : State) : releaseHeld s =
    if s.hif.link == .l0 && s.hif.busMaster then
      s.hif.held.foldl release { s with hif := { s.hif with held := [] } }
    else s := rfl

/-- A bus master enable at a TLP. -/
theorem busMasterEnableChange_run (hl : live s = true) (on : Bool) :
    exec (.busMasterEnableChange t on) s =
      .next (finish (releaseHeld (withHif { s.hif with busMaster := on } (tlpWake (elapse t s))))) := by
  refine (command_live t _ s hl).trans ?_
  have hw := tlpWake_withHif { (elapse t s).hif with busMaster := on } (elapse t s) (by simpa using live_entering hl)
  rw [elapse_hif] at hw
  rw [← hw, elapse_hif]
  rfl

/-- BUS_MASTER_ENABLE_CHANGE with nothing to release (R107). -/
theorem busMasterEnableChange_sets (hl : live s = true) (on : Bool)
    (h : on = false ∨ s.hif.link ≠ .l0 ∨ s.hif.held = []) :
    ∃ s', exec (.busMasterEnableChange t on) s = .next s' ∧
      settles { tlpWake (elapse t s) with hif := { s.hif with busMaster := on } } s' := by
  obtain ⟨-, hlgr, hfold⟩ := tlpWake_hif (s := s) t hl
  let x : State := withHif { s.hif with busMaster := on } (tlpWake (elapse t s))
  have hrel : releaseHeld x = x := by
    rw [releaseHeld_eq]
    by_cases hc : (x.hif.link == .l0 && x.hif.busMaster) = true
    · rw [if_pos hc]
      have hon : s.hif.link = .l0 ∧ on = true := by simpa [x, withHif] using hc
      have hnil : s.hif.held = [] := by
        rcases h with h | h | h
        · exact absurd (hon.2.symm.trans h) (by decide)
        · exact absurd hon.1 h
        · exact h
      have hx : x.hif.held = [] := hnil
      have hsame : { x.hif with held := [] } = x.hif := by rw [← hx]
      rw [hsame, hx]
      rfl
    · rw [if_neg hc]
  refine ⟨_, busMasterEnableChange_run hl on, ?_⟩
  show settles x (finish (releaseHeld x))
  rw [hrel]
  exact finish_settles_of s x hl hlgr hfold

/-- BUS_MASTER_ENABLE_CHANGE in L0 sends the completions that waited (R77, R107). -/
theorem busMasterEnableChange_releases (hl : live s = true) (h0 : s.hif.link = .l0) :
    ∃ s', exec (.busMasterEnableChange t true) s = .next s' ∧ s'.hif.busMaster = true ∧ s'.hif.held = [] := by
  obtain ⟨-, hlgr, hfold⟩ := tlpWake_hif (s := s) t hl
  let x : State := withHif { s.hif with busMaster := true } (tlpWake (elapse t s))
  have hrel : releaseHeld x = x.hif.held.foldl release { x with hif := { x.hif with held := [] } } := by
    rw [releaseHeld_eq, if_pos (by simp [x, withHif, h0])]
  obtain ⟨g1, g2, g3⟩ := foldl_release_held x.hif.held { x with hif := { x.hif with held := [] } }
  rw [← hrel] at g1 g2 g3
  have hset : settles (releaseHeld x) (finish (releaseHeld x)) :=
    finish_settles_of s _ hl ((congrArg State.lgr g3 :).trans hlgr) ((congrArg State.fold g3 :).trans hfold)
  refine ⟨_, busMasterEnableChange_run hl true, ?_, ?_⟩
  · rw [settles_hif hset]
    exact g2
  · rw [settles_hif hset]
    exact g1

/-- D3HOT_TRANSITION (R106). -/
theorem d3hotTransition_sets (hl : live s = true) (on : Bool) :
    ∃ s', exec (.d3hotTransition t on) s = .next s' ∧
      settles { tlpWake (elapse t s) with hif := { s.hif with d3hot := on } } s' := by
  obtain ⟨-, hlgr, hfold⟩ := tlpWake_hif (s := s) t hl
  let x : State := withHif { s.hif with d3hot := on } (tlpWake (elapse t s))
  refine ⟨finish x, ?_, finish_settles_of s x hl hlgr hfold⟩
  refine (command_live t _ s hl).trans ?_
  have hw := tlpWake_withHif { (elapse t s).hif with d3hot := on } (elapse t s) (by simpa using live_entering hl)
  rw [elapse_hif] at hw
  show _ = Host.Outcome.next (finish (withHif { s.hif with d3hot := on } (tlpWake (elapse t s))))
  rw [← hw, elapse_hif]
  rfl

end

/-- Settles O19: doorbells, the pairs' registers and the switches on their own. -/
theorem pairsFollowTheirRegisters : Obligations.PairsFollowTheirRegisters := by
  refine ⟨fun s t n v hl hm hs hn => ?_, fun s t n v hl hi hm hs hn => ?_, fun s t v on hl hm _ => ?_⟩
  · exact ⟨sqTailDoorbell_moves hl hs.1 hn, fun he => (doorbells_outOfRange hl hm hn he).1,
      cqHeadDoorbell_releases hl hs.1 hn, fun he => (doorbells_outOfRange hl hm hn he).2, doorbells_disabled hl hm hn⟩
  · exact ⟨qpEnable_enables hl hi hm hs.1 hn, qpDisable_disables hl hi hs.1 hn, qpQuiesced_settles hl hs.1 hn⟩
  · exact ⟨fun hi _ => hifCtlEnWrite_writes hl hi hm, busMasterEnableChange_sets hl on,
      busMasterEnableChange_releases hl, d3hotTransition_sets hl on⟩

end Sys2Proof.Machine
end

section
/-! SUPPORT. The queue of the LF operations. -/
namespace Sys2Proof.Machine

section
variable {s : State} {t : Nat} {d : Desc}

/-- From the state of the unit's work, a served descriptor answers and its command is its unit's work. -/
theorem served_atWork (hs : serves t d s) : Answerable d (atWork d (elapse t s)) ∧
    ∀ run, descCommand t d run s = .next (finish (run d (atWork d (elapse t s)))) := by
  obtain ⟨h, hw, -, -, hans, hrun⟩ := served_atUnit hs
  rw [hw]
  exact ⟨hans, hrun⟩

/-- What the state of the unit's work has as at the command before. -/
theorem atWork_keeps (hs : serves t d s) : (atWork d (elapse t s)).lf = s.lf ∧ (atWork d (elapse t s)).lgr = s.lgr ∧
    (atWork d (elapse t s)).fold = s.fold ∧ now (atWork d (elapse t s)) = now (elapse t s) ∧
    Regs.wf (atWork d (elapse t s)) = true ∧ ∀ i, leafRetired i (atWork d (elapse t s)) = leafRetired i s := by
  obtain ⟨h, hw, -⟩ := served_atUnit hs
  rw [hw]
  exact ⟨elapse_lf t s, elapse_lgr t s, elapse_fold t s, rfl, regs_wf_elapse hs.2.1,
    fun i => by simp [leafRetired, withHif]⟩

/-- A served descriptor that its unit fails, with a status that HIF_VIOL_CNT counts and no record tells of, is turned
away. -/
theorem served_turnedAway {st det : Nat} (hs : serves t d s) (hst : 1 ≤ st ∧ st ≤ 6)
    (hviol : isHostViol st d.opcode = false) :
    turnedAway d st det (atWork d (elapse t s)) (finish (fail d st det (atWork d (elapse t s)))) :=
  turnedAway_of_fail (h := (atWork d (elapse t s)).hif) (served_atWork hs).1 hst hviol (atWork_keeps hs).2.2.2.2.1 rfl

/-- The queue with a new operation at its end, or with one more that waits for an entry (R144). -/
theorem enqueueHost_queues {r : LfReq} (hs : serves t d s) :
    (lfDepth s < 16 → s.lf.wait = [] →
      settles { atWork d (elapse t s) with lf := { s.lf with nextNo := s.lf.nextNo + 1, queue := s.lf.queue ++ [r] } }
        (finish (enqueueHost d r (atWork d (elapse t s))))) ∧
    (16 ≤ lfDepth s ∨ s.lf.wait ≠ [] →
      settles { atWork d (elapse t s) with
          lf := { s.lf with nextNo := s.lf.nextNo + 1, wait := s.lf.wait ++ [(r, now (atWork d (elapse t s)) + timeoutTicks d 500)] } }
        (finish (enqueueHost d r (atWork d (elapse t s))))) := by
  have hl : live s = true := ((running_iff s).mp hs.1).1
  obtain ⟨hlf, hlgr, hfold, -⟩ := atWork_keeps hs
  generalize atWork d (elapse t s) = w at *
  rw [← hlf]
  have hdep : lfDepth s = lfDepth w := by rw [lfDepth, lfDepth, hlf]
  constructor
  · intro h16 hnone
    have hfree : (decide (lfDepth w < 16) && w.lf.wait.isEmpty) = true := by simp [hnone, ← hdep, h16]
    rw [enqueueHost, if_pos hfree]
    exact finish_settles_of s _ hl hlgr hfold
  · intro hfull
    have hbusy : ¬ (decide (lfDepth w < 16) && w.lf.wait.isEmpty) = true := by
      rw [Bool.and_eq_true, decide_eq_true_eq, List.isEmpty_iff, ← hdep]
      exact fun h => hfull.elim (fun h16 => absurd h.1 (by omega)) (fun hne => hne h.2)
    rw [enqueueHost, if_neg hbusy]
    exact finish_settles_of s _ hl hlgr hfold

end

/-- Settles O21: each operation goes to the queue's end or to its wait. -/
theorem lfOperationsQueue : Obligations.LfOperationsQueue := by
  unfold Obligations.LfOperationsQueue
  intro s t d hs
  obtain ⟨hans, hrun⟩ := served_atWork hs
  obtain ⟨-, -, -, -, -, hret⟩ := atWork_keeps hs
  have htarget : targetRetired d (atWork d (elapse t s)) = targetRetired d s := by
    unfold targetRetired
    split
    · exact hret _
    · rfl
  refine ⟨fun hrow hp hr => ?_, fun hrow hp hr => ?_, fun hmode hp => ?_, fun hmode hp => ?_, fun hrow hp => ?_⟩
  · refine ⟨_, ?_, enqueueHost_queues hs⟩
    show descCommand t (asOp 0x10 d) lfPollUnit s = _
    rw [asOp_self hrow, hrun lfPollUnit, lfPollUnit, hp]
    simp only [htarget, hr, Bool.false_eq_true, if_false]
  · refine ⟨_, ?_, served_turnedAway hs (by decide) (by rw [opcode_of_isRow hrow]; decide)⟩
    show descCommand t (asOp 0x10 d) lfPollUnit s = _
    rw [asOp_self hrow, hrun lfPollUnit, lfPollUnit, hp]
    simp only [htarget, hr, if_true]
  · refine ⟨_, ?_, enqueueHost_queues hs⟩
    show descCommand t (asMode 0x11 0 d) lfDiagUnit s = _
    have h0 : p8 d 0 = 0 := by simpa [isMode] using (Bool.and_eq_true_iff.mp hmode).2
    have hno : p8 d 1 = 0 := by
      by_contra h
      simp [diagParBad, h0, Nat.pos_of_ne_zero h] at hp
    rw [asMode_self _ _ d hmode, hrun lfDiagUnit, lfDiagUnit, hp]
    simp only [h0, hno, Nat.zero_ne_one, if_false]
  · refine ⟨_, ?_, enqueueHost_queues hs⟩
    show descCommand t (asMode 0x11 1 d) lfDiagUnit s = _
    have h1 : p8 d 0 = 1 := by simpa [isMode] using (Bool.and_eq_true_iff.mp hmode).2
    rw [asMode_self _ _ d hmode, hrun lfDiagUnit, lfDiagUnit, hp]
    simp only [h1, if_true]
  · refine ⟨_, ?_, enqueueHost_queues hs⟩
    show descCommand t (asOp 0x13 d) lfListenUnit s = _
    rw [asOp_self hrow, hrun lfListenUnit, lfListenUnit, hp]

end Sys2Proof.Machine
end

section
/-! SUPPORT. Random bytes for the host. -/
namespace Sys2Proof.Machine

section
variable {s : State} {t : Nat} {d : Desc}

/-- What is written to DST from the state of the unit's work is answered from the state at the tick. -/
theorem answers_atDst {x : State} {fl : List Flight} {tn st det : Nat} {res out : Bytes}
    (h : Answerable d (working fl tn x)) (hq : quietStatus st d.opcode = true) :
    answers d st res det (dmaWrite d d.dstAddr out x)
      (finish (complete d st res det (dmaWrite d d.dstAddr out (working fl tn x)))) := by
  have ha := (h.dmaWrite d.dstAddr out).quiet (st := st) (res := res) (det := det) hq
  have hw : dmaWrite d d.dstAddr out (working fl tn x) =
      withHif { x.hif with flight := fl, turn := tn } (dmaWrite d d.dstAddr out x) := dmaWrite_withHif _ d _ _ x
  rw [hw] at ha ⊢
  refine answers_of_withHif ?_ ha
  unfold dmaWrite
  split <;> rfl

/-- A write to DST that is not blocked is made. -/
theorem writeDst_ok {x : State} {out : Bytes} (k : State → State) (h : dmaBlocked d d.dstAddr out.length x = false) :
    writeDst d out k x = k (dmaWrite d d.dstAddr out x) := by
  rw [writeDst, if_neg (by simp [h])]

/-! ## RNG_GET -/

/-- A request reseeds first: prediction resistance, or a spent seed (R334). -/
def reseedsFirst (d : Desc) (s : State) : Bool := bit 0 (p8 d 0) || decide (fld RNG_REQ_CNT.SINCE_RESEED s ≥ 69632)

/-- The count of a request without a reseed. -/
def plainCount (s : State) : Nat := min (fld RNG_REQ_CNT.SINCE_RESEED s + 1) 69632

/-- The fields that the `n`th request since a reseed sets. -/
def plainFields (n : Nat) : List (Field × Nat) :=
  (RNG_REQ_CNT.SINCE_RESEED, n) :: if n ≥ 65536 then [(RNG_STATUS.RESEED_DUE, 1)] else []

/-- The fields that a request sets (R334). -/
def getFields (d : Desc) (s : State) : List (Field × Nat) :=
  if reseedsFirst d s = true then reseedFields s ++ [(RNG_REQ_CNT.SINCE_RESEED, 1)] else plainFields (plainCount s)

/-- The generator's count before the output. -/
theorem countGenerate_eq {x : State} (h : Regs.wf x = true) :
    countGenerate (if reseedsFirst d x = true then reseed x else x) = setFlds (getFields d x) x := by
  unfold getFields
  split
  · have hre : reseed x = setFlds (reseedFields x) x := rfl
    have hsince : fld RNG_REQ_CNT.SINCE_RESEED (reseed x) = 0 := by
      rw [hre]
      exact fld_setFlds _ RNG_REQ_CNT.SINCE_RESEED _ h rfl
    simp only [countGenerate, hsince]
    rw [if_neg (by decide), hre]
    rfl
  · rw [countGenerate, plainFields, ← plainCount]
    split <;> rfl

/-- A field that both kinds of request may be read by. -/
theorem getFields_readable (x : State) (g : Field)
    (h1 : readable g (reseedFields x ++ [(RNG_REQ_CNT.SINCE_RESEED, 1)]) = true)
    (h2 : readable g [(RNG_REQ_CNT.SINCE_RESEED, plainCount x), (RNG_STATUS.RESEED_DUE, 1)] = true) :
    readable g (getFields d x) = true := by
  unfold getFields plainFields
  split
  · exact h1
  · split
    · exact h2
    · simp only [readable, List.all_cons, Bool.and_eq_true] at h2
      simpa only [readable, List.all_cons, List.all_nil, Bool.and_true, Bool.and_eq_true] using h2.1

/-- A field that no request sets reads as before. -/
theorem getFields_apart {x : State} (h : Regs.wf x = true) (g : Field)
    (h1 : readable g (reseedFields x ++ [(RNG_REQ_CNT.SINCE_RESEED, 1)]) = true)
    (h2 : readable g [(RNG_REQ_CNT.SINCE_RESEED, plainCount x), (RNG_STATUS.RESEED_DUE, 1)] = true)
    (h3 : lastSet g (reseedFields x ++ [(RNG_REQ_CNT.SINCE_RESEED, 1)]) (fld g x) = fld g x)
    (h4 : lastSet g [(RNG_REQ_CNT.SINCE_RESEED, plainCount x)] (fld g x) = fld g x)
    (h5 : lastSet g [(RNG_REQ_CNT.SINCE_RESEED, plainCount x), (RNG_STATUS.RESEED_DUE, 1)] (fld g x) = fld g x) :
    fld g (setFlds (getFields d x) x) = fld g x := by
  rw [fld_setFlds _ _ _ h (getFields_readable x g h1 h2), getFields, plainFields]
  split
  · exact h3
  · split
    · exact h5
    · exact h4

/-- What a request answers with (R335): random bytes, or the test pattern. -/
def getBytes (d : Desc) (raw : Bool) (s : State) : Bytes :=
  if raw then patternBytes (leNat (freeBytes 1 s)) d.len s else freeBytes d.len s

theorem getBytes_length (raw : Bool) (x : State) : (getBytes d raw x).length = d.len := by
  cases raw <;> simp [getBytes, patternBytes, freeBytes]

/-- A served request is its output, from the state in which it has been counted. -/
theorem serveGet_eq {x : State} (h : Regs.wf x = true) (since : Nat) :
    let raw := bit 1 (p8 d 0) && flag RNG_STATUS.TEST_ACTIVE x
    serveGet (d, since) x = writeDst d (getBytes d raw x)
      (fun y => complete d stOk (getResult d d.len (reseedsFirst d x) since y) 0 y)
      (tookFree (if raw then 1 else d.len) (setFlds (getFields d x) x)) := by
  intro raw
  let y : State := setFlds (getFields d x) x
  have hfree : y.free = x.free := by
    show (setFlds (getFields d x) x).free = _
    rw [setFlds_regs]
  have hact : flag RNG_STATUS.TEST_ACTIVE y = flag RNG_STATUS.TEST_ACTIVE x :=
    congrArg (· == 1) (getFields_apart h RNG_STATUS.TEST_ACTIVE rfl rfl rfl rfl rfl)
  have hpat : fld RNG_TEST_PAT.PAT y = fld RNG_TEST_PAT.PAT x :=
    getFields_apart h _ rfl rfl rfl rfl rfl
  have hout : getOutput d y = (getBytes d raw x, tookFree (if raw then 1 else d.len) y) := by
    simp only [getOutput, hact, getBytes, patternBytes, freeBytes, hfree, hpat, raw, Bool.and_eq_true]
    split <;> rfl
  have hserve : serveGet (d, since) x =
      writeDst d (getOutput d y).1 (fun s => complete d stOk (getResult d d.len (reseedsFirst d x) since s) 0 s)
        (getOutput d y).2 := by
    rw [show y = countGenerate (if reseedsFirst d x = true then reseed x else x) from (countGenerate_eq h).symm]
    rfl
  rw [hserve, hout]

/-- Fields are set beside the host interface's bookkeeping. -/
theorem setFlds_withHif (l : List (Field × Nat)) (h : Hif) (x : State) :
    setFlds l (withHif h x) = withHif h (setFlds l x) := by
  induction l generalizing x with
  | nil => rfl
  | cons p l ih => exact ih (setFld p.1 p.2 x)

/-- RNG_GET of nothing, and one that is refused at once (R335). -/
theorem rngGet_refuses (hs : serves t d s) (hrow : isRow 0x48 d = true) (hm : p8 d 0 ≤ 3)
    (hp : parNonzero 1 24 d = none) {st : Nat} (hq : quietStatus st 0x48 = true)
    (hst : d.len = 0 ∧ st = stOk ∨ d.len ≠ 0 ∧ rngState s = 4 ∧ st = stHealth) :
    ∃ s', exec (.rngGet t d) s = .next s' ∧
      answers d st (getResult d 0 false (now (elapse t s)) (elapse t s)) 0 (elapse t s) s' := by
  obtain ⟨fl, tn, hans, hrun⟩ := served_working hs
  have h4 : rngState (working fl tn (elapse t s)) = rngState s := elapse_rngState t s
  refine ⟨_, ?_, answers_of_working (hans.quiet (by rw [opcode_of_isRow hrow]; exact hq))⟩
  show descCommand t (asOp 0x48 d) getUnit s = _
  rw [asOp_self hrow, hrun getUnit, getUnit, if_neg (by omega), reserved_free hp]
  rcases hst with ⟨h0, rfl⟩ | ⟨h0, hr, rfl⟩
  · rw [if_pos h0]
    rfl
  · rw [if_neg h0, if_pos (h4.trans hr)]
    rfl

/-- RNG_GET that has to wait (R334, R335). -/
theorem rngGet_waits (hs : serves t d s) (hrow : isRow 0x48 d = true) (hm : p8 d 0 ≤ 3)
    (hp : parNonzero 1 24 d = none) (h0 : d.len ≠ 0) (h4 : rngState s ≠ 4) (hw : rngState s ≠ 2 ∨ needsPool d s = true) :
    ∃ s', exec (.rngGet t d) s = .next s' ∧
      settles { atWork d (elapse t s) with rng := { s.rng with wait := s.rng.wait ++ [(d, now (elapse t s))] } } s' := by
  obtain ⟨h, hwork, -⟩ := served_atUnit hs
  obtain ⟨-, hrun⟩ := served_atWork hs
  rw [hwork] at hrun ⊢
  let w : State := withHif h (elapse t s)
  have hst : rngState w = rngState s := elapse_rngState t s
  have hfld : ∀ f, fld f w = fld f s := fun f => elapse_fld f t s
  have hneeds : needsPool d w = needsPool d s := by simp only [needsPool, flag, hfld]
  have hset := finish_settles_of s
    { w with rng := { s.rng with wait := s.rng.wait ++ [(d, now (elapse t s))] } } ((running_iff s).mp hs.1).1
    (elapse_lgr t s) (elapse_fold t s)
  refine ⟨_, ?_, hset⟩
  show descCommand t (asOp 0x48 d) getUnit s = _
  rw [asOp_self hrow, hrun getUnit, getUnit, if_neg (by omega), reserved_free hp, if_neg h0,
    if_neg (by rw [hst]; exact h4), if_neg (by rw [hst, hneeds]; exact fun hh => hw.elim (fun h => h hh.1) (by simp [hh.2]))]
  show Host.Outcome.next (finish { w with rng := { (elapse t s).rng with wait := (elapse t s).rng.wait ++ _ } }) = _
  rw [elapse_rng]
  rfl

/-- RNG_GET from a ready generator (R335). -/
theorem rngGet_draws (hs : serves t d s) (hrow : isRow 0x48 d = true) (hm : p8 d 0 ≤ 3)
    (hp : parNonzero 1 24 d = none) (h0 : d.len ≠ 0) (h2 : rngState s = 2) (hn : needsPool d s = false)
    (hdma : dmaBlocked d d.dstAddr d.len s = false) :
    let raw := bit 1 (p8 d 0) && flag RNG_STATUS.TEST_ACTIVE s
    let s1 : State := { elapse t s with
      regs := (setFlds (getFields d s) (elapse t s)).regs, free := s.free + (if raw then 1 else d.len) }
    ∃ s', exec (.rngGet t d) s = .next s' ∧
      answers d stOk (getResult d d.len (reseedsFirst d s) (now (elapse t s)) s1) 0
        (dmaWrite d d.dstAddr (getBytes d raw (elapse t s)) s1) s' := by
  intro raw s1
  obtain ⟨fl, tn, hans, hrun⟩ := served_working hs
  let w : State := working fl tn (elapse t s)
  have hwf : Regs.wf w = true := memorySafe_elapse_wf hs.2.1 t
  have hst : rngState w = rngState s := elapse_rngState t s
  have hfld : ∀ f, fld f w = fld f s := fun f => elapse_fld f t s
  have hneeds : needsPool d w = needsPool d s := by simp only [needsPool, flag, hfld]
  have hfirst : reseedsFirst d w = reseedsFirst d s := by simp only [reseedsFirst, hfld]
  have hraw : (bit 1 (p8 d 0) && flag RNG_STATUS.TEST_ACTIVE w) = raw := by simp only [raw, flag, hfld]
  have hfields : getFields d w = getFields d s := by
    simp only [getFields, hfirst, plainCount, reseedFields, hfld]
  have hstate : tookFree (if raw = true then 1 else d.len) (setFlds (getFields d s) w) = working fl tn s1 := by
    rw [setFlds_regs]
    have hregs : (setFlds (getFields d s) w).regs = (setFlds (getFields d s) (elapse t s)).regs := by
      exact (congrArg State.regs (setFlds_withHif (getFields d s) { (elapse t s).hif with flight := fl, turn := tn }
        (elapse t s))).trans rfl
    rw [hregs]
    simp only [tookFree, w, working, withHif, elapse_free]
    rfl
  have hans1 : Answerable d (working fl tn s1) := ⟨hans.heard, hans.mem, hans.hostWait, hans.wait, hans.queue⟩
  have hblk : dmaBlocked d d.dstAddr (getBytes d raw w).length (working fl tn s1) = false := by
    rw [getBytes_length]
    exact (elapse_dmaBlocked d d.dstAddr d.len t s).trans hdma
  refine ⟨_, ?_, answers_atDst hans1 (by rw [opcode_of_isRow hrow]; decide)⟩
  show descCommand t (asOp 0x48 d) getUnit s = _
  rw [asOp_self hrow, hrun getUnit, getUnit, if_neg (by omega), reserved_free hp, if_neg h0,
    if_neg (by rw [show rngState (working fl tn (elapse t s)) = rngState s from hst, h2]; decide),
    if_pos ⟨hst.trans h2, hneeds.trans hn⟩, serveGet_eq hwf, hraw, hfields, hstate, writeDst_ok _ hblk]
  simp only [getResult_dmaWrite, hfirst]
  rfl

/-- RNG_STAT (R336). -/
theorem rngStat_reports (o : RngObs) (hs : serves t d s) (hrow : isRow 0x49 d = true) (hp : parNonzero 0 24 d = none)
    (hlen : d.len ≤ 64) :
    ∃ s1, s1 = { elapse t s with regs := s1.regs, rng := { s.rng with tested := o.tested, rctMax := o.rctMax } } ∧
      fld RNG_EST2.APT_MAX s1 = min o.aptMax 1024 ∧ keepsRegs [RNG_EST2.reg] s s1 ∧
      (dmaBlocked d d.dstAddr d.len s = false →
        ∃ s', exec (.rngStat t d o) s = .next s' ∧
          answers d stOk ((rngReport s1).take 14) 0 (dmaWrite d d.dstAddr ((rngReport s1).take d.len) s1) s') := by
  obtain ⟨fl, tn, hans, hrun⟩ := served_working hs
  let s1 : State := noteObs o (elapse t s)
  have hframe : s1 = { elapse t s with regs := s1.regs, rng := { s.rng with tested := o.tested, rctMax := o.rctMax } } := by
    rw [← elapse_rng t s]
    rfl
  have hapt : fld RNG_EST2.APT_MAX s1 = min o.aptMax 1024 :=
    (fld_setFld_same RNG_EST2.APT_MAX (by decide) _ _ (memorySafe_elapse_wf hs.2.1 t)).trans
      (Nat.mod_eq_of_lt (Nat.lt_of_le_of_lt (Nat.min_le_right _ _) (by decide)))
  refine ⟨s1, hframe, hapt, fun off ho => ?_, fun hdma => ?_⟩
  · exact ((RegsKept.setFld (offs := [RNG_EST2.reg]) RNG_EST2.APT_MAX _ _ (by decide)).keeps off ho).trans
      (elapse_regGet off t s)
  · have hstate : noteObs o (working fl tn (elapse t s)) = working fl tn s1 := rfl
    have hans1 : Answerable d (working fl tn s1) := ⟨hans.heard, hans.mem, hans.hostWait, hans.wait, hans.queue⟩
    have hrep : rngReport (working fl tn s1) = rngReport s1 := rfl
    have hreplen : (rngReport s1).length = 64 := by simp [rngReport, leBytes_length]
    have hblk : dmaBlocked d d.dstAddr ((rngReport s1).take d.len).length (working fl tn s1) = false := by
      rw [List.length_take, hreplen, Nat.min_eq_left hlen]
      exact (elapse_dmaBlocked d d.dstAddr d.len t s).trans hdma
    refine ⟨_, ?_, answers_atDst hans1 (by rw [opcode_of_isRow hrow]; decide)⟩
    show descCommand t (asOp 0x49 d) (statUnit o) s = _
    rw [asOp_self hrow, hrun (statUnit o), statUnit, reserved_free hp]
    simp only [hstate, hrep]
    rw [writeDst_ok _ hblk]

end

/-- Settles O40: a request is refused, drawn or put to wait, and the report tells of the source's counts. -/
theorem randomBytesAreDrawn : Obligations.RandomBytesAreDrawn := by
  unfold Obligations.RandomBytesAreDrawn
  intro s t d hs
  refine ⟨fun hrow hm hp => ⟨fun h0 => ?_, fun h0 h4 => ?_, fun h0 h2 hn => ?_, fun h0 h4 hw => ?_⟩,
    fun o hrow hp hlen => rngStat_reports o hs hrow hp hlen⟩
  · exact rngGet_refuses hs hrow hm hp (by decide) (.inl ⟨h0, rfl⟩)
  · exact rngGet_refuses hs hrow hm hp (by decide) (.inr ⟨h0, h4, rfl⟩)
  · intro pr raw out hout hpat hdma
    obtain ⟨s', hs', ha⟩ := rngGet_draws hs hrow hm hp h0 h2 hn hdma
    have hbytes : getBytes d raw (elapse t s) = out := by
      unfold getBytes
      split
      · next h =>
        rw [hpat h]
        simp [patternBytes]
      · next h => exact (hout (by simpa using h)).symm
    let x : State := elapse t s
    have hwf : Regs.wf x = true := memorySafe_elapse_wf hs.2.1 t
    have hfld : ∀ g, fld g x = fld g s := fun g => elapse_fld g t s
    let s1 : State := { x with regs := (setFlds (getFields d s) x).regs, free := s.free + (if raw then 1 else d.len) }
    have hread : ∀ g, readable g (getFields d s) = true → fld g s1 = lastSet g (getFields d s) (fld g s) := by
      intro g hg
      show fld g { x with regs := (setFlds (getFields d s) x).regs } = _
      rw [← setFlds_regs, fld_setFlds _ _ _ hwf hg, hfld]
    change answers d stOk (getResult d d.len pr (now x) s1) 0 (dmaWrite d d.dstAddr (getBytes d raw x) s1) s' at ha
    rw [hbytes] at ha
    refine ⟨s1, s', hs', ha, rfl, fun hpr => ?_, fun hpr => ?_, fun off ho => ?_⟩
    · have hf : getFields d s = reseedFields s ++ [(RNG_REQ_CNT.SINCE_RESEED, 1)] := if_pos hpr
      simp only [hf] at hread
      have hsat : sat RNG_RESEED_CNT.RESEEDS.width (fld RNG_RESEED_CNT.RESEEDS s + 1) < 2 ^ RNG_RESEED_CNT.RESEEDS.width :=
        Nat.lt_of_le_of_lt (Nat.min_le_right _ _) (by decide)
      exact ⟨(hread RNG_RESEED_CNT.RESEEDS rfl).trans (Nat.mod_eq_of_lt hsat), hread RNG_STATUS.POOL_FULL rfl,
        hread RNG_REQ_CNT.SINCE_RESEED rfl⟩
    · have hf : getFields d s = plainFields (plainCount s) := if_neg (by rw [show reseedsFirst d s = pr from rfl, hpr]; decide)
      have hcount : plainCount s < 2 ^ RNG_REQ_CNT.SINCE_RESEED.width := Nat.lt_of_le_of_lt (Nat.min_le_right _ _) (by decide)
      refine (hread RNG_REQ_CNT.SINCE_RESEED (getFields_readable s _ rfl rfl)).trans ?_
      rw [hf, plainFields]
      split <;> exact Nat.mod_eq_of_lt hcount
    · have hkept : RegsKept [RNG_REQ_CNT.reg, RNG_STATUS.reg, RNG_RESEED_CNT.reg] x (setFlds (getFields d s) x) := by
        refine RegsKept.setFlds (getFields d s) x ?_
        unfold getFields plainFields
        split
        · rfl
        · split <;> rfl
      show regGet off { x with regs := (setFlds (getFields d s) x).regs } = _
      rw [← setFlds_regs]
      exact (hkept.keeps off ho).trans (elapse_regGet off t s)
  · exact rngGet_waits hs hrow hm hp h0 h4 hw

end Sys2Proof.Machine
end

section
/-! SUPPORT. The message engine. -/
namespace Sys2Proof.Machine

section
variable {s : State} {t : Nat} {d : Desc}

/-- A row's MODE and a further parameter byte are read as they are. -/
theorem setPar_self {i v : Nat} (hwf : d.wf = true) (hi : i < 24) (hv : p8 d i = v) : setPar i v d = d := by
  simp only [Desc.wf, Bool.and_eq_true, decide_eq_true_eq] at hwf
  obtain ⟨⟨-, hlen⟩, -⟩ := hwf
  have hslice : slice 0 24 d.par = d.par := by simp [slice, hlen]
  have hbyte : byteOf v = d.par[i] := by
    rw [← hv, p8, byteAt, List.getD_eq_getElem _ _ (by omega), byteOf, BitVec.ofNat_toNat, BitVec.setWidth_eq]
  simp only [setPar, hslice, hbyte, List.set_getElem_self]

/-! ## Failures are counted -/

/-- A count changes registers only. -/
theorem countCrypt_regs (st : Nat) (x : State) : countCrypt st x = { x with regs := (countCrypt st x).regs } := by
  unfold countCrypt
  split
  · rfl
  · split
    · rfl
    · split
      · rfl
      · split <;> rfl

/-- And only the two counters of failures. -/
theorem RegsKept.countCrypt (st : Nat) (x : State) :
    RegsKept [CRY_CNT0.reg, CRY_CNT1.reg] x (countCrypt st x) := by
  unfold Machine.countCrypt
  split
  · exact .bump _ _ (by decide)
  · split
    · exact .bump _ _ (by decide)
    · split
      · exact .bump _ _ (by decide)
      · split
        · exact .bump _ _ (by decide)
        · exact .refl _ _

/-- A failed tag is counted beside a write to DST. -/
theorem countCrypt_dmaWrite (st a : Nat) (out : Bytes) (x : State) :
    countCrypt st (dmaWrite d a out x) = dmaWrite d a out (countCrypt st x) := by
  have h1 : ∀ f, bump f (dmaWrite d a out x) = dmaWrite d a out (bump f x) := by
    intro f
    unfold dmaWrite
    split <;> rfl
  unfold countCrypt
  split
  · exact h1 _
  · split
    · exact h1 _
    · split
      · exact h1 _
      · split
        · exact h1 _
        · rfl

/-- Statuses of the message engine, which no completion counts or records. -/
def engineStatus (st : Nat) : Bool := [stOk, stTagFail, stUnwrapFail, stPadFail, stMacFail].contains st

/-- What the engine computes ends with one of them. -/
theorem cryptCore_status (key : Bytes) (d : Desc) (src : Bytes) : engineStatus (cryptCore key d src).st = true := by
  have hif : ∀ (c : Bool) (a b : Nat), engineStatus a = true → engineStatus b = true →
      engineStatus (if c = true then a else b) = true := by
    intro c a b ha hb
    split
    · exact ha
    · exact hb
  unfold cryptCore
  dsimp only
  split
  · rfl
  split
  · split
    · rfl
    · split <;> rfl
  split
  · rfl
  split
  · split
    · rfl
    · exact hif _ _ _ rfl rfl
  split
  · split
    · rfl
    · exact hif _ _ _ rfl rfl
  split
  · split
    · rfl
    · exact hif _ _ _ rfl rfl
  split
  · rfl
  · split <;> rfl

theorem quietStatus_engine {st : Nat} (h : engineStatus st = true) : quietStatus st 0x40 = true := by
  simp only [engineStatus, List.contains_iff_mem, List.mem_cons, List.not_mem_nil, or_false] at h
  rcases h with rfl | rfl | rfl | rfl | rfl <;> rfl

/-! ## CRYPT -/

/-- Parameters that are good without a stage are good with one, and ask for none (R310). -/
theorem cryptParBad_unstaged (hp : cryptParBad d false = none) (b : Bool) :
    cryptParBad d b = none ∧ bit 7 (p8 d 1) = false := by
  by_cases h7 : bit 7 (p8 d 1) = true
  · exfalso
    unfold cryptParBad at hp
    dsimp only at hp
    split at hp
    · cases hp
    · rw [if_pos (.inr ⟨h7, .inl rfl⟩)] at hp
      cases hp
  · simp only [Bool.not_eq_true] at h7
    refine ⟨?_, h7⟩
    rw [← hp]
    simp only [cryptParBad, h7, Bool.false_eq_true, false_and]

/-- The state of the unit's work reads as that at the tick for the message engine. -/
theorem working_crypt (fl : List Flight) (tn h u : Nat) (k : Nat → Bool) (a n : Nat) :
    keyFor h u k (working fl tn (elapse t s)) = keyFor h u k s ∧
      dmaRead d a n (working fl tn (elapse t s)) = dmaRead d a n s ∧
      dmaBlocked d a n (working fl tn (elapse t s)) = dmaBlocked d a n s ∧
      workingOn 0x38 (working fl tn (elapse t s)) = workingOn 0x38 s := by
  refine ⟨?_, (dmaRead_withHif rfl d a n).trans (elapse_dmaRead d a n t s),
    (dmaBlocked_withHif rfl d a n).trans (elapse_dmaBlocked d a n t s), ?_⟩
  · rw [keyFor, keyFor, slotOf, slotOf, slotChanges, slotChanges,
      show (working fl tn (elapse t s)).cry = s.cry from elapse_cry t s]
  · rw [workingOn, workingOn, droverWork, droverWork,
      show (working fl tn (elapse t s)).hif.droverQ = s.hif.droverQ from
        (congrArg Hif.droverQ (elapse_hif t s) :)]

/-- CRYPT of a mode computes what the mode says and answers (R309, R311 to R313). -/
theorem crypt_computes {m n : Nat} {x : Slot} {src : Bytes} (hs : serves t d s) (hlen : cryptLenOk d = true)
    (hkey : keyFor d.target (cryptUsage d) isAes s = some (n, x)) (hread : dmaRead d d.srcAddr (cryptSrc d) s = some src)
    (hp : cryptParBad d false = none)
    (hover : cryptInPlace d = true ∨ overlaps d.srcAddr (cryptSrc d) d.dstAddr (cryptDst d) = false)
    (hdma : dmaBlocked d d.dstAddr (cryptCore x.key d src).out.length s = false) (hmode : isMode 0x40 m d = true) :
    ∃ s', descCommand t (asMode 0x40 m d) cryptUnit s = .next s' ∧
      ∃ s1, answers d (cryptCore x.key d src).st (cryptResult d (cryptCore x.key d src).len (cryptCore x.key d src).unverified
            (cryptInPlace d) (cryptBlocks d)) 0 (dmaWrite d d.dstAddr (cryptCore x.key d src).out s1) s' ∧
        s1 = { elapse t s with regs := s1.regs } ∧ keepsRegs [CRY_CNT0.reg, CRY_CNT1.reg] s s1 ∧
        ((cryptCore x.key d src).st = stTagFail →
          fld CRY_CNT0.TAG_FAIL s1 = sat 16 (fld CRY_CNT0.TAG_FAIL s + 1)) ∧
        ((cryptCore x.key d src).st = stOk → s1 = elapse t s) := by
  obtain ⟨fl, tn, hans, hrun⟩ := served_working hs
  let o : CryptOut := cryptCore x.key d src
  let w : State := working fl tn (elapse t s)
  let s1 : State := countCrypt o.st (elapse t s)
  have hframe : s1 = { elapse t s with regs := s1.regs } := countCrypt_regs o.st (elapse t s)
  have hstate : countCrypt o.st w = working fl tn s1 := by
    unfold s1 countCrypt
    split
    · rfl
    split
    · rfl
    split
    · rfl
    split <;> rfl
  have hans1 : Answerable d (working fl tn s1) := by
    rw [hframe]
    exact ⟨hans.heard, hans.mem, hans.hostWait, hans.wait, hans.queue⟩
  obtain ⟨hpar, h7⟩ := cryptParBad_unstaged hp (d.src == .drover && workingOn 0x38 w)
  obtain ⟨hwkey, hwread, -, -⟩ := working_crypt (s := s) (t := t) (d := d) fl tn d.target (cryptUsage d) isAes d.srcAddr
    (cryptSrc d)
  have hblk : dmaBlocked d d.dstAddr o.out.length w = false :=
    (working_crypt fl tn 0 0 isAes d.dstAddr o.out.length).2.2.1.trans hdma
  have hfree : (!cryptInPlace d && overlaps d.srcAddr (cryptSrc d) d.dstAddr (cryptDst d)) = false := by
    rcases hover with h | h <;> simp [h]
  refine ⟨finish (complete d o.st (cryptResult d o.len o.unverified (cryptInPlace d) (cryptBlocks d)) 0
    (dmaWrite d d.dstAddr o.out (working fl tn s1))), ?_, s1,
    answers_atDst hans1 (by rw [opcode_of_isMode hmode]; exact quietStatus_engine (cryptCore_status _ _ _)), hframe,
    fun off ho => ?_, fun hst => ?_, fun hst => ?_⟩
  · rw [asMode_self _ _ d hmode, hrun cryptUnit, cryptUnit]
    simp only [show cryptParBad d (d.src == .drover && workingOn 0x38 (working fl tn (elapse t s))) = none from hpar,
      hlen, hwkey, hwread, hkey, hread, h7, Bool.not_false, Bool.true_and, hfree, Bool.true_eq_false, if_false,
      Bool.false_eq_true]
    rw [if_neg (Bool.eq_false_iff.mp hblk), countCrypt_dmaWrite]
    exact congrArg (fun y => Host.Outcome.next (finish (complete d o.st _ 0 (dmaWrite d d.dstAddr o.out y)))) hstate
  · exact ((RegsKept.countCrypt o.st (elapse t s)).keeps off ho).trans (elapse_regGet off t s)
  · have hc : s1 = bump CRY_CNT0.TAG_FAIL (elapse t s) := if_pos hst
    rw [hc, fld_bump_same _ (by decide) _ (memorySafe_elapse_wf hs.2.1 t), elapse_fld]
    rfl
  · show countCrypt o.st _ = _
    rw [show o.st = stOk from hst]
    rfl

/-- CRYPT_STAGE (R31, R270, R274). -/
theorem cryptStage_stages {n : Nat} {x : Slot} {src : Bytes} (hs : serves t d s) (hlen : cryptLenOk d = true)
    (hkey : keyFor d.target (cryptUsage d) isAes s = some (n, x)) (hread : dmaRead d d.srcAddr (cryptSrc d) s = some src)
    (hmode : isMode 0x40 3 d = true) (h1 : p8 d 1 = 0x81) (hsrc : d.src = .drover) (hwork : workingOn 0x38 s = true)
    (hp : cryptParBad d true = none) :
    let o := cryptCore x.key d src
    ∃ s1 s', exec (.cryptStage t d) s = .next s' ∧
      answers d o.st (cryptResult d o.len o.unverified false (cryptBlocks d)) 0 s1 s' ∧
      s1 = { elapse t s with regs := s1.regs, flk := { s.flk with staged := s1.flk.staged } } ∧
      (o.st ≠ stOk → s1.flk.staged = none) ∧
      (o.st = stOk → ∃ f, s1.flk.staged = some f ∧
        f.slots = (chunks 32 o.out).foldl (fun l e => l.set (flockEntry e).1 (some (flockEntry e).2))
          (List.replicate 64 none)) := by
  intro o
  obtain ⟨fl, tn, hans, hrun⟩ := served_working hs
  let w : State := working fl tn (elapse t s)
  let z : State := stageFlock o.out o.st (elapse t s)
  have hz : z = { elapse t s with flk := { s.flk with staged := z.flk.staged } } := by
    rw [← elapse_flk t s]
    unfold z stageFlock
    split <;> rfl
  have hzw : stageFlock o.out o.st w = working fl tn z := by
    unfold z stageFlock
    split <;> rfl
  let s1 : State := countCrypt o.st z
  have hs1 : s1 = { z with regs := s1.regs } := countCrypt_regs o.st z
  have hstate : countCrypt o.st (working fl tn z) = working fl tn s1 := by
    unfold s1 countCrypt
    split
    · rfl
    split
    · rfl
    split
    · rfl
    split <;> rfl
  have hans1 : Answerable d (working fl tn s1) := by
    rw [hs1, hz]
    exact ⟨hans.heard, hans.mem, hans.hostWait, hans.wait, hans.queue⟩
  have hwf : d.wf = true := by
    simp only [isMode, isRow, Bool.and_eq_true] at hmode
    exact hmode.1.1
  obtain ⟨hwkey, hwread, -, hwwork⟩ := working_crypt (s := s) (t := t) (d := d) fl tn d.target (cryptUsage d) isAes
    d.srcAddr (cryptSrc d)
  have hpar : cryptParBad d (d.src == .drover && workingOn 0x38 (working fl tn (elapse t s))) = none := by
    rw [hwwork, hwork, hsrc]
    exact hp
  have h7 : bit 7 0x81 = true := by decide
  have hstaged : s1.flk.staged = z.flk.staged := by rw [hs1]
  refine ⟨s1, finish (complete d o.st (cryptResult d o.len o.unverified false (cryptBlocks d)) 0 (working fl tn s1)), ?_,
    answers_of_working (hans1.quiet (by rw [opcode_of_isMode hmode]; exact quietStatus_engine (cryptCore_status _ _ _))),
    ?_, fun hst => ?_, fun hst => ?_⟩
  · show descCommand t (setPar 1 0x81 (asMode 0x40 3 d)) cryptUnit s = _
    rw [asMode_self _ _ d hmode, setPar_self hwf (by decide) h1, hrun cryptUnit, cryptUnit]
    simp only [hpar, hlen, hwkey, hwread, hkey, hread, h1, h7, Bool.true_eq_false, Bool.not_true,
      Bool.false_and, Bool.false_eq_true, if_true, if_false]
    rw [show stageFlock (cryptCore x.key d src).out (cryptCore x.key d src).st (working fl tn (elapse t s)) =
      working fl tn z from hzw, hstate]
  · rw [hstaged, hs1, hz]
  · rw [hstaged]
    show (stageFlock o.out o.st (elapse t s)).flk.staged = none
    rw [stageFlock, if_pos hst]
  · rw [hstaged]
    show ∃ f, (stageFlock o.out o.st (elapse t s)).flk.staged = some f ∧ _
    rw [stageFlock, if_neg (not_not.mpr hst)]
    exact ⟨_, rfl, rfl⟩

end

/-- Settles O33: every mode is one computation of the message engine, and a stage keeps it in the flock key store. -/
theorem cryptComputesItsMode : Obligations.CryptComputesItsMode := by
  unfold Obligations.CryptComputesItsMode
  intro s t d n x src hs hlen hkey hwrap hread
  refine ⟨fun hp hwrap' hover hdma => ?_, fun hmode h1 hsrc hwork hp =>
    cryptStage_stages hs hlen hkey hread hmode h1 hsrc hwork hp⟩
  have hmodes := fun m => crypt_computes (m := m) hs hlen hkey hread hp hover hdma
  exact ⟨hmodes 0, hmodes 1, hmodes 2, hmodes 3, hmodes 4, hmodes 5, hmodes 6⟩

end Sys2Proof.Machine
end

section
/-! SUPPORT. Increments and records of the device's own, whether their words take the write or not. -/
namespace Sys2Proof.Machine

section
variable {cells offs : List Nat} {s s' a b : State}

/-! ## A frame around records and events -/

/-- What records and events leave alone can be replaced on both sides. -/
theorem Recorded.withFlk (h : Recorded cells offs a b) (f : Flk) :
    Recorded cells offs { a with flk := f } { b with flk := f } :=
  ⟨(congrArg (fun x : State => { x with flk := f }) h.blank :),
    ⟨fun off ho => h.regs.keeps off ho, fun hw => h.regs.wf hw⟩,
    ⟨h.host.link, h.host.busMaster, h.host.flight, h.host.enabled, h.host.memWf⟩,
    ⟨h.array.mem, h.array.bad, h.array.wf⟩, h.hostWait⟩

/-- And so can the device's records. -/
theorem Recorded.withRecs (h : Recorded cells offs a b) (r : List (Nat × Dual)) (tw : List Nat) :
    Recorded cells offs { a with nv := { a.nv with recs := r, twins := tw } }
      { b with nv := { b.nv with recs := r, twins := tw } } :=
  ⟨(congrArg (fun x : State => { x with nv := { x.nv with recs := r, twins := tw } }) h.blank :),
    ⟨fun off ho => h.regs.keeps off ho, fun hw => h.regs.wf hw⟩,
    ⟨h.host.link, h.host.busMaster, h.host.flight, h.host.enabled, h.host.memWf⟩,
    ⟨h.array.mem, h.array.bad, h.array.wf⟩, h.hostWait⟩

/-! ## Increments -/

/-- A word of a tally cell, written or worn. -/
theorem Recorded.cellWord (c i : Nat) (bs : Bytes) (s : State) (hi : i < 32) :
    Recorded [c] offs s (Machine.nvWriteWord (cellAddr c i) bs s).1 := by
  have hapart : ∀ x, x / 256 ∉ [c] → x < cellAddr c i ∨ cellAddr c i + 8 ≤ x := by
    intro x hx
    simp only [List.mem_singleton] at hx
    unfold cellAddr
    omega
  unfold Machine.nvWriteWord
  split
  · exact Recorded.bump _ s (by simp [recordRegs, NVS_REC_CNT.WFAIL, NVS_REC_CNT.reg])
  · refine ⟨rfl, RegsKept.of_eq _ rfl rfl, HostKept.of_eq rfl rfl, ⟨fun x _ hc => ?_, fun x _ hc => ?_, fun h => ?_⟩, rfl⟩
    · exact mget_mwrite_out nvDflt _ _ x _ (by rw [fit_length]; exact hapart x hc)
    · show (s.nv.bad.filter (· ≠ cellAddr c i)).contains x = s.nv.bad.contains x
      have hne : x ≠ cellAddr c i := by have := hapart x hc; omega
      simp [List.contains_eq_mem, hne]
    · exact wf_mwrite nvDflt _ _ h

/-- An increment: the cells of its counter and NVS_TALLY_CNT. -/
theorem Recorded.tallyInc (c n : Nat) (s : State) : Recorded [c] [NVS_TALLY_CNT.reg] s (Machine.tallyInc c n s).1 := by
  have hx : Recorded [c] [NVS_TALLY_CNT.reg] s (tallyStart c s) :=
    Recorded.setFld _ _ s (by simp [recordRegs, NVS_TALLY_CNT.INVALID, NVS_TALLY_CNT.reg])
  have hcount : ∀ x, Recorded [c] [NVS_TALLY_CNT.reg] x (Machine.bump NVS_TALLY_CNT.INC x) := fun x =>
    Recorded.bump _ x (by simp [recordRegs, NVS_TALLY_CNT.INC, NVS_TALLY_CNT.reg])
  refine hx.trans ?_
  unfold Machine.tallyInc
  simp only [show addFld NVS_TALLY_CNT.INVALID (32 - (validCells c s).length) s = tallyStart c s from rfl]
  generalize tallyStart c s = x
  split
  · exact Recorded.refl x
  · next v slot _ =>
    split
    · exact Recorded.bump _ x (by simp [recordRegs, NVS_TALLY_CNT.SAT, NVS_TALLY_CNT.reg])
    · have h1 := Recorded.cellWord (offs := [NVS_TALLY_CNT.reg]) c ((slot + 1) % 32) (cellBytes c (min (v + n) tallyMax)) x
        (Nat.mod_lt _ (by decide))
      split
      · exact h1.trans (hcount _)
      · have h2 := h1.trans (Recorded.cellWord c ((slot + 2) % 32) (cellBytes c (min (v + n) tallyMax)) _
          (Nat.mod_lt _ (by decide)))
        split
        · exact h2.trans (hcount _)
        · exact h2

/-- An increment of the device's own, and the record of its failure (R359). -/
theorem Recorded.tallyStep (c n : Nat) (s : State) (hr : s.nv.ledgerReady = true) :
    Recorded [c] [NVS_TALLY_CNT.reg] s (Machine.tallyStep c n s).1 := by
  have h := Recorded.tallyInc c n s
  unfold Machine.tallyStep
  dsimp only
  split
  · exact h.trans (Recorded.append _ _ _ _ (h.ledgerReady.trans hr))
  · exact h.trans (Recorded.append _ _ _ _ (h.ledgerReady.trans hr))
  · exact h

/-! ## Records -/

/-- A device record's write, and the record of its failure (R344). -/
theorem Recorded.recStore (id : Nat) (bs : Bytes) (s : State) (hr : s.nv.ledgerReady = true) :
    Recorded cells offs
      { s with nv := { s.nv with recs := (recStore id bs s).1.nv.recs, twins := (recStore id bs s).1.nv.twins } }
      (Machine.recStore id bs s).1 := by
  by_cases hf : recFails id s = true
  · have hf' : s.nv.wornRecs.contains id = true := hf
    let x : State := (recWrite id bs s).1
    have hx : x = Machine.bump NVS_REC_CNT.WFAIL { s with nv := { s.nv with recs := x.nv.recs, twins := x.nv.twins } } := by
      simp only [x, recWrite, hf', if_true]
      rfl
    have hrun : Machine.recStore id bs s = (Machine.append 0x4A 0 id x, true) := by
      simp only [Machine.recStore, x, recWrite, hf', if_true]
    have happ : Recorded cells offs x (Machine.append 0x4A 0 id x) := Recorded.append _ _ _ _ (by rw [hx]; exact hr)
    have hrecs : (Machine.append 0x4A 0 id x).nv.recs = x.nv.recs := happ.recs
    have htwins : (Machine.append 0x4A 0 id x).nv.twins = x.nv.twins := (congrArg (fun y : State => y.nv.twins) happ.blank :)
    rw [hrun]
    dsimp only
    rw [hrecs, htwins]
    refine Recorded.trans ?_ happ
    have hb := Recorded.bump (cells := cells) (offs := offs) NVS_REC_CNT.WFAIL
      { s with nv := { s.nv with recs := x.nv.recs, twins := x.nv.twins } }
      (by simp [recordRegs, NVS_REC_CNT.WFAIL, NVS_REC_CNT.reg])
    rwa [← hx] at hb
  · have hf' : recFails id s = false := by simpa using hf
    have hf'' : s.nv.wornRecs.contains id = false := hf'
    rw [recStore_ok bs hf']
    simp only [recWrite, hf'', Bool.false_eq_true, if_false]
    exact ⟨rfl, RegsKept.of_eq _ rfl rfl, HostKept.of_eq rfl rfl, ArrayKept.of_eq _ rfl rfl, rfl⟩

/-- The other records stay, whether the write fails or not. -/
theorem recStore_recGet_ne {id i : Nat} (bs : Bytes) (s : State) (hr : s.nv.ledgerReady = true) (hi : i ≠ id) :
    recGet i (recStore id bs s).1 = recGet i s := by
  by_cases hf : recFails id s = true
  · have hf' : s.nv.wornRecs.contains id = true := hf
    have hrun : recStore id bs s = (append 0x4A 0 id (recWrite id bs s).1, true) := by
      simp only [recStore, recWrite, hf', if_true]
    have happ : Recorded [] [] (recWrite id bs s).1 (append 0x4A 0 id (recWrite id bs s).1) :=
      Recorded.append _ _ _ _ (by simp only [recWrite, hf', if_true]; exact hr)
    rw [hrun, recGet, happ.recs]
    simp only [recWrite, hf', if_true]
    exact sget_sset_ne _ id i _ hi _
  · exact recStore_recGet bs (by simpa using hf) hi

end

end Sys2Proof.Machine
end

section
/-! SUPPORT. Pinfold: its time, its expiry and its record. -/
namespace Sys2Proof.Machine

/-! ## Engagements that end -/

/-- An entry whose engagement has ended at PTIME `p` (R282). -/
def endedAt (p : Nat) (e : PinEntry) : PinEntry := { e with till := none, ended := e.level.map (fun _ => p) }

/-- The end of its engagement has come. -/
def dueAt (p : Nat) (e : PinEntry) : Bool := match e.till with | some x => decide (x ≤ p) | none => false

/-- Puts the ended entry `e` in its place. -/
def endEntry (p : Nat) (e x : PinEntry) : PinEntry := if x.fold = e.fold then endedAt p e else x

/-- Entries that share their fold with `x` only where they are `x` end it, or leave it. -/
theorem foldl_endEntry (p : Nat) {es : List PinEntry} {x : PinEntry} (h : ∀ e ∈ es, e.fold = x.fold → e = x) :
    es.foldl (fun y e => endEntry p e y) x = if x ∈ es then endedAt p x else x := by
  have hended : ∀ l : List PinEntry, (∀ e ∈ l, e.fold = x.fold → e = x) →
      l.foldl (fun y e => endEntry p e y) (endedAt p x) = endedAt p x := by
    intro l hl
    induction l with
    | nil => rfl
    | cons e l ih =>
      have hstep : endEntry p e (endedAt p x) = endedAt p x := by
        unfold endEntry
        split
        · next heq => rw [hl e List.mem_cons_self heq.symm]
        · rfl
      rw [List.foldl_cons, hstep]
      exact ih (fun e' he' => hl e' (List.mem_cons_of_mem _ he'))
  induction es with
  | nil => rfl
  | cons e es ih =>
    have htail : ∀ e' ∈ es, e'.fold = x.fold → e' = x := fun e' he' => h e' (List.mem_cons_of_mem _ he')
    by_cases hx : e.fold = x.fold
    · obtain rfl := h e List.mem_cons_self hx
      rw [List.foldl_cons, endEntry, if_pos rfl, hended es htail, if_pos List.mem_cons_self]
    · have hne : x ≠ e := fun heq => hx (by rw [heq])
      rw [List.foldl_cons, endEntry, if_neg (fun heq => hx heq.symm), ih htail]
      simp [hne]

/-- The tracker in which every entry that is due has ended. -/
theorem map_foldl_endEntry (p : Nat) (l : List PinEntry) (h : (l.map (·.fold)).Nodup) :
    l.map (fun x => (l.filter (dueAt p)).foldl (fun y e => endEntry p e y) x) =
      l.map (fun x => if dueAt p x = true then endedAt p x else x) := by
  refine List.map_congr_left fun x hx => ?_
  rw [foldl_endEntry p (fun e he hfold =>
    List.inj_on_of_nodup_map h (List.mem_of_mem_filter he) hx hfold)]
  simp [hx]

/-- Replacing entries one after another is one replacement of each entry. -/
theorem foldl_map_endEntry (p : Nat) (es l : List PinEntry) :
    es.foldl (fun l e => l.map (endEntry p e)) l = l.map (fun x => es.foldl (fun y e => endEntry p e y) x) := by
  induction es generalizing l with
  | nil => simp
  | cons e es ih => simp [ih, Function.comp_def]

section
variable {s : State} {t : Nat}

/-- The tick keeps the memories and the register file in canonical form. -/
theorem memorySafe_elapse (hm : memorySafe s) (t : Nat) : memorySafe (elapse t s) := by
  simpa [memorySafe] using hm

/-- And the number of everything. -/
theorem shaped_elapse (hsh : shaped s) (t : Nat) : shaped (elapse t s) := by
  simpa [shaped] using hsh

/-- A PINFOLD event is posted or not. -/
theorem pinEvent_recorded {cells offs : List Nat} (f kind level fails secs folds : Nat) (x : State) :
    Recorded cells offs x (pinEvent f kind level fails secs folds x) := by
  unfold pinEvent
  split
  · exact .of_posted (post_posted _ _ _ _)
  · exact .refl x

/-- Records and events keep PTIME. -/
theorem Recorded.ptime {cells offs : List Nat} {x y : State} (h : Recorded cells offs x y) (ho : FLK_PTIME.reg ∉ offs) :
    ptime y = ptime x :=
  h.fld FLK_PTIME.PTIME (by
    simp only [List.mem_append, not_or]
    exact ⟨by decide, ho⟩)

/-- Engagements end one after another: the tracker with their entries, records and events (R282). -/
theorem expire_recorded (es : List PinEntry) {l : List PinEntry} {y : State} (hr : s.nv.ledgerReady = true)
    (h : Recorded [] [] (setTrack l s) y) :
    Recorded [] [] (setTrack (es.foldl (fun l e => l.map (endEntry (ptime s) e)) l) s) (es.foldl (fun s e => expire e s) y) := by
  induction es generalizing l y with
  | nil => exact h
  | cons e es ih =>
    refine ih ?_
    have hp : ptime y = ptime s := h.ptime (by simp)
    have htrack : y.flk.track = l := congrArg Flk.track h.flk
    let put : State := putEntry (endedAt (ptime s) e) y
    have hput : Recorded [] [] (setTrack (l.map (endEntry (ptime s) e)) s) put := by
      have hw := h.withFlk { s.flk with track := l.map (endEntry (ptime s) e) }
      have hset : put = { y with flk := { s.flk with track := l.map (endEntry (ptime s) e) } } := by
        have hflk : y.flk = { s.flk with track := l } := h.flk
        show setTrack (y.flk.track.map _) y = _
        rw [setTrack, hflk]
        rfl
      rw [hset]
      exact hw
    have hexp : expire e y = pinEvent e.fold 2 (e.level.getD 0) (e.window (ptime s)).length 0 0 (append 0x33 e.fold 0 put) := by
      have hend : (if e.level.isSome = true then some (ptime s) else none) = e.level.map (fun _ => ptime s) := by
        cases e.level <;> rfl
      simp only [expire, hp, hend]
      rfl
    show Recorded [] [] _ (expire e y)
    rw [hexp]
    exact (hput.trans (Recorded.append _ _ _ _ (hput.ledgerReady.trans hr))).trans (pinEvent_recorded _ _ _ _ _ _ _)

/-! ## The stored record -/

/-- The bytes of the pinfold record with counter 253 at `v` (R284). -/
def pinBytes (p v : Nat) (l : List PinEntry) : Bytes :=
  leBytes 4 p ++ leBytes 6 v ++ [byteOf l.length, 0] ++ (l.map pinEntryBytes).flatten

/-- The tracker `l` is in force and stored, and what that records (R284). -/
structure PinStored (l : List PinEntry) (s y : State) : Prop where
  recorded : Recorded [253] [NVS_TALLY_CNT.reg]
    { s with
      flk := { s.flk with track := l, pinRecAt := ptime s }
      nv := { s.nv with recs := y.nv.recs, twins := y.nv.twins } } y
  others : ∀ id, id ≠ recPin → recGet id y = recGet id s
  value : s.nv.wornRecs = [] → s.nv.worn = [] → (tally 253 s).isSome = true → tallyVal 253 s < tallyMax →
    tallyVal 253 y = tallyVal 253 s + 1 ∧ recRead recPin y = some (pinBytes (ptime s) (tallyVal 253 s + 1) l)

/-- From a state whose tracker has changed, with its records, the store is of that tracker (R284). -/
theorem storePin_stores {l : List PinEntry} {y : State} (hm : memorySafe s) (hsh : shaped s)
    (hr : s.nv.ledgerReady = true) (h : Recorded [] [] (setTrack l s) y) :
    PinStored (l.filter (fun e => e.kept (ptime s))) s (storePin y) := by
  obtain ⟨-, -, -, hmem, -, hrecs⟩ := hm
  obtain ⟨-, -, -, -, -, -, -, hseq⟩ := hsh
  have hp : ptime y = ptime s := h.ptime (by simp)
  have hflk : y.flk = { s.flk with track := l } := h.flk
  let k : List PinEntry := l.filter (fun e => e.kept (ptime s))
  have hk : pruned y = k := by rw [pruned, hp, hflk]
  let x : State := setTrack k y
  have hsx : Recorded [] [] (setTrack k s) x := by
    have hw := h.withFlk { s.flk with track := k }
    have hx : x = { y with flk := { s.flk with track := k } } := by
      show setTrack k y = _
      rw [setTrack, hflk]
    rw [hx]
    exact hw
  have hxr : x.nv.ledgerReady = true := hsx.ledgerReady.trans hr
  let r : State × TallyOut := tallyStep 253 1 x
  have hstep : Recorded [253] [NVS_TALLY_CNT.reg] (setTrack k s) r.1 :=
    (hsx.mono (List.nil_subset _) (List.nil_subset _)).trans (Recorded.tallyStep 253 1 x hxr)
  let z : State := { r.1 with flk := { r.1.flk with pinRecAt := ptime s } }
  have hz : Recorded [253] [NVS_TALLY_CNT.reg] { s with flk := { s.flk with track := k, pinRecAt := ptime s } } z := by
    have hw := hstep.withFlk { s.flk with track := k, pinRecAt := ptime s }
    have hzr : z = { r.1 with flk := { s.flk with track := k, pinRecAt := ptime s } } := by
      have hrf : r.1.flk = { s.flk with track := k } := hstep.flk
      show ({ r.1 with flk := { r.1.flk with pinRecAt := ptime s } } : State) = _
      rw [hrf]
    rw [hzr]
    exact hw
  have hzr : z.nv.ledgerReady = true := hz.ledgerReady.trans hr
  let v : Nat := match r.2 with | .done v _ _ _ => v | _ => tallyVal 253 r.1
  have hrun : storePin y = (recStore recPin (pinBytes (ptime s) v k) z).1 := by
    simp only [storePin, hk, hp]
    rfl
  have hzrecs : z.nv.recs = s.nv.recs := hz.recs
  have hstore := Recorded.recStore (cells := [253]) (offs := [NVS_TALLY_CNT.reg]) recPin (pinBytes (ptime s) v k) z hzr
  rw [hrun]
  refine ⟨(hz.withRecs _ _).trans hstore, fun id hid => ?_, fun hwr hw hsome hlt => ?_⟩
  · rw [recStore_recGet_ne _ _ hzr hid, recGet, recGet, hzrecs]
  · obtain ⟨⟨c, slot⟩, ht⟩ := Option.isSome_iff_exists.mp hsome
    have hval : tallyVal 253 s = c := tallyVal_of_tally ht
    rw [hval] at hlt ⊢
    have htx : tally 253 x = some (c, slot) := by
      rw [hsx.tally 253 (by simp) (by decide)]
      exact ht
    obtain ⟨⟨clip, again, hdone⟩, -, hnew⟩ := tallyStep_done 253 1 x (hsx.worn.trans hw)
      (hsx.array.wf hmem) htx (by decide) (by omega)
    have hv : v = c + 1 := by
      show (match r.2 with | .done v _ _ _ => v | _ => tallyVal 253 r.1) = _
      rw [show r.2 = _ from hdone]
    have hfree : recFails recPin z = false := by
      have hworn : z.nv.wornRecs = [] := by
        have h1 : z.nv.wornRecs = s.nv.wornRecs := (congrArg (fun y : State => y.nv.wornRecs) hz.blank :)
        rw [h1, hwr]
      show z.nv.wornRecs.contains recPin = false
      rw [hworn]
      rfl
    rw [hv]
    refine ⟨?_, recStore_recRead _ hfree (by rw [hzrecs]; exact hrecs) (by rw [hzrecs]; exact hseq)⟩
    have hkeep : tally 253 (recStore recPin (pinBytes (ptime s) (c + 1) k) z).1 = tally 253 z :=
      tally_congr 253 (fun i _ => cellVal_congr 253 i
        (fun _ _ => by rw [recStore_mem _ hfree])
        (by rw [recStore_ok _ hfree, recWrite, if_neg (by rw [show z.nv.wornRecs.contains recPin = false from hfree]; decide)]; rfl))
    exact tallyVal_of_tally (hkeep.trans hnew)

/-- What a command that stores the tracker leaves. -/
theorem PinStored.finishes {l : List PinEntry} {y : State} (h : PinStored l (elapse t s) y) (hl : live s = true) :
    recordsOnly [253] [NVS_TALLY_CNT.reg]
        { elapse t s with
          flk := { s.flk with track := l, pinRecAt := ptime s }
          nv := { (elapse t s).nv with recs := (finish y).nv.recs, twins := (finish y).nv.twins } } (finish y) ∧
      (∀ id, id ≠ recPin → recGet id (finish y) = recGet id s) ∧
      (s.nv.wornRecs = [] → s.nv.worn = [] → (tally 253 s).isSome = true → tallyVal 253 s < tallyMax →
        tallyVal 253 (finish y) = tallyVal 253 s + 1 ∧
        recRead recPin (finish y) = some (pinBytes (ptime s) (tallyVal 253 s + 1) l)) := by
  obtain ⟨hrec, hothers, hvalue⟩ := h
  have hp : ptime (elapse t s) = ptime s := elapse_fld _ t s
  have hset : settles y (finish y) := finish_settles_recorded hl (by simp) (by simp) hrec
  have hnv : (finish y).nv = y.nv := settles_nv hset
  have hval : tallyVal 253 (elapse t s) = tallyVal 253 s := by simp [tallyVal]
  have hread : ∀ id, recGet id (finish y) = recGet id y := fun id => by rw [recGet, recGet, hnv]
  have htally : tallyVal 253 (finish y) = tallyVal 253 y := by
    have : tally 253 (finish y) = tally 253 y :=
      tally_congr 253 (fun i _ => cellVal_congr 253 i (fun _ _ => by rw [hnv]) (by rw [hnv]))
    rw [tallyVal, tallyVal, this]
  rw [hp, elapse_flk] at hrec
  rw [elapse_tally, hval, elapse_nv_wornRecs, elapse_nv_worn, hp] at hvalue
  refine ⟨?_, fun id hid => ?_, fun h1 h2 h3 h4 => ?_⟩
  · rw [hnv]
    exact recordsOnly_settles (hrec.recordsOnly rfl rfl rfl) hset
  · rw [hread, hothers id hid, recGet, recGet, elapse_nv_recs]
  · rw [htally, recRead, hread]
    exact hvalue h1 h2 h3 h4

/-- PTIME_ADVANCE when a second has passed (R280). -/
theorem ptimeAdvance_credits (hl : live s = true) (hm : memorySafe s)
    (hdue : s.flk.ptimeAt + secTicks 1 ≤ now (elapse t s)) :
    ∃ s', exec (.ptimeAdvance t) s = .next s' ∧ fld FLK_PTIME.PTIME s' = (fld FLK_PTIME.PTIME s + 1) % 2 ^ 32 ∧
      settles { elapse t s with regs := s'.regs, flk := { s.flk with ptimeAt := s.flk.ptimeAt + secTicks 1 } } s' ∧
      keepsRegs [FLK_PTIME.reg] s s' := by
  let x : State := { elapse t s with flk := { s.flk with ptimeAt := s.flk.ptimeAt + secTicks 1 } }
  let y : State := setFld FLK_PTIME.PTIME ((fld FLK_PTIME.PTIME s + 1) % 2 ^ 32) x
  have hset : settles y (finish y) := finish_settles_of s y hl (elapse_lgr t s) (elapse_fold t s)
  have hrun : exec (.ptimeAdvance t) s = .next (finish y) := by
    refine (command_live t _ s hl).trans ?_
    rw [onlyIf, if_pos (by rw [elapse_flk]; simpa using hdue)]
    simp only [ptime, elapse_fld, elapse_flk]
    rfl
  refine ⟨_, hrun, ?_, ?_, fun off ho => ?_⟩
  · rw [settles_fld hset]
    exact (fld_setFld_same FLK_PTIME.PTIME (by decide) _ x (memorySafe_elapse_wf hm t)).trans (Nat.mod_mod _ _)
  · rw [settles_regs hset]
    exact hset
  · rw [settles_regGet hset, regGet_setFld_ne _ _ _ _ (List.ne_of_not_mem_cons ho)]
    exact elapse_regGet off t s

end

/-- Settles O37: the tracker's ends, its record with counter 253, and the seconds of PTIME. -/
theorem pinfoldExpiresAndIsStored : Obligations.PinfoldExpiresAndIsStored := by
  unfold Obligations.PinfoldExpiresAndIsStored
  intro s t hl hm hsh
  have hme : memorySafe (elapse t s) := memorySafe_elapse hm t
  have hshe : shaped (elapse t s) := shaped_elapse hsh t
  have hp : ptime (elapse t s) = ptime s := elapse_fld _ t s
  have hready : ∀ h : s.nv.ledgerReady = true, (elapse t s).nv.ledgerReady = true :=
    fun h => (elapse_nv_ledgerReady t s).trans h
  have hsame : Recorded [] [] (setTrack s.flk.track (elapse t s)) (elapse t s) := by
    have hx : setTrack s.flk.track (elapse t s) = elapse t s := by
      rw [← elapse_flk t s]
      rfl
    rw [hx]
    exact Recorded.refl _
  refine ⟨fun hdue => ?_, fun hdue => ?_, fun hr hany hnodup => ?_, fun hnone => ?_, fun hr hne hten => ?_⟩
  · exact ptimeAdvance_credits hl hm hdue
  · refine ⟨finish (elapse t s), ?_, finish_settles_of s _ hl (elapse_lgr t s) (elapse_fold t s)⟩
    refine (command_live t _ s hl).trans ?_
    rw [onlyIf, if_neg (by rw [elapse_flk]; simpa using hdue)]
  · let y : State := (s.flk.track.filter (dueAt (ptime s))).foldl (fun s e => expire e s) (elapse t s)
    have hexp := expire_recorded (s := elapse t s) (s.flk.track.filter (dueAt (ptime s))) (hready hr) hsame
    rw [hp, foldl_map_endEntry, map_foldl_endEntry _ _ hnodup] at hexp
    have hstored := storePin_stores hme hshe (hready hr) hexp
    rw [hp] at hstored
    refine ⟨finish (storePin y), ?_, hstored.finishes hl⟩
    refine (command_live t _ s hl).trans ?_
    have hsome : (s.flk.track.filter (dueAt (ptime s))).isEmpty = false := by
      obtain ⟨e, he, hd⟩ := List.any_eq_true.mp hany
      refine Bool.eq_false_iff.mpr fun hemp => ?_
      exact absurd (List.mem_filter.mpr ⟨he, hd⟩) (by rw [List.isEmpty_iff.mp hemp]; simp)
    rw [expireDue, hp, elapse_flk]
    exact congrArg (fun x => Host.Outcome.next (finish x)) (if_neg (Bool.eq_false_iff.mp hsome))
  · refine ⟨finish (elapse t s), ?_, finish_settles_of s _ hl (elapse_lgr t s) (elapse_fold t s)⟩
    refine (command_live t _ s hl).trans ?_
    have hemp : (s.flk.track.filter (dueAt (ptime s))).isEmpty = true := by
      rw [List.isEmpty_iff, List.filter_eq_nil_iff]
      intro e he hd
      exact absurd (List.any_eq_true.mpr ⟨e, he, hd⟩) (Bool.eq_false_iff.mp hnone)
    rw [expireDue, hp, elapse_flk]
    exact congrArg (fun x => Host.Outcome.next (finish x)) (if_pos hemp)
  · have hstored := storePin_stores hme hshe (hready hr) hsame
    rw [hp] at hstored
    refine ⟨finish (storePin (elapse t s)), ?_, hstored.finishes hl⟩
    refine (command_live t _ s hl).trans ?_
    have hpr : pruned (elapse t s) = pruned s := by rw [pruned, pruned, hp, elapse_flk]
    rw [onlyIf, if_pos (by rw [hpr, hp, elapse_flk]; simpa [hne] using hten)]

end Sys2Proof.Machine
end

section
/-! SUPPORT. The signature unit. -/
namespace Sys2Proof.Machine

section
variable {s : State} {t : Nat} {d : Desc}

/-- A count beside a write to DST. -/
theorem bump_dmaWrite (f : Field) (a : Nat) (out : Bytes) (x : State) :
    bump f (dmaWrite d a out x) = dmaWrite d a out (bump f x) := by
  unfold dmaWrite
  split <;> rfl

/-- Without holders and waiting changes there is nothing to let go of (R304). -/
theorem releaseSlots_none (d : Desc) {x : State} (hh : x.cry.holders = []) (hc : x.cry.changes = []) :
    releaseSlots d x = x := by
  have hsame : { x.cry with holders := [], changes := [] } = x.cry := by rw [← hh, ← hc]
  rw [releaseSlots, hh, runChanges]
  dsimp only
  rw [hc, List.filter_nil, applyChanges, hsame]

/-- A quiet completion lets go of nothing where nothing is held. -/
theorem releaseSlots_complete {st det : Nat} {res : Bytes} {x : State} (hq : quietStatus st d.opcode = true)
    (hh : x.cry.holders = []) (hc : x.cry.changes = []) :
    releaseSlots d (complete d st res det x) = complete d st res det x := by
  have hcry : (complete d st res det x).cry = x.cry :=
    (congrArg State.cry (complete_quiet_hostOnly d st res det x hq) :)
  exact releaseSlots_none d (by rw [hcry, hh]) (by rw [hcry, hc])

/-! ## Nonces -/

theorem drawNonce_withHif (h : Hif) (x : State) :
    drawNonce (withHif h x) = ((drawNonce x).1, withHif h (drawNonce x).2) := by
  simp only [drawNonce, drawBytes, countGenerate, apply_ite (withHif h)]
  rfl

/-- A signature is drawn beside the host interface's bookkeeping. -/
theorem signWith_withHif (k : Nat) (e : Bytes) (h : Hif) (x : State) :
    signWith k e (withHif h x) = ((signWith k e x).1, withHif h (signWith k e x).2) := by
  cases hk : ecdsaSign k (drawNonce x).1 e with
  | some sig => simp only [signWith, drawNonce_withHif, hk]
  | none => simp only [signWith, drawNonce_withHif, hk]

/-- A signature touches free bytes and the generator's registers only. -/
theorem signWith_frame (k : Nat) (e : Bytes) (x : State) :
    (signWith k e x).2 = { x with regs := (signWith k e x).2.regs, free := (signWith k e x).2.free } ∧
      RegsKept [RNG_REQ_CNT.reg, RNG_STATUS.reg] x (signWith k e x).2 := by
  obtain ⟨h1, k1⟩ := drawBytes_frame 32 x
  cases hk : ecdsaSign k (drawNonce x).1 e with
  | some sig =>
    have hs : (signWith k e x).2 = (drawBytes 32 x).2 := by
      simp only [signWith, hk]
      rfl
    rw [hs]
    exact ⟨by rw [h1], k1⟩
  | none =>
    obtain ⟨h2, k2⟩ := drawBytes_frame 32 (drawBytes 32 x).2
    have hs : (signWith k e x).2 = (drawBytes 32 (drawBytes 32 x).2).2 := by
      simp only [signWith, hk]
      rfl
    rw [hs]
    exact ⟨by rw [h2, h1], k1.trans k2⟩

/-- And so beside the flights and the turn. -/
theorem signWith_working (k : Nat) (e : Bytes) (fl : List Flight) (tn : Nat) (x : State) :
    (signWith k e (working fl tn x)).1 = (signWith k e x).1 ∧
      (signWith k e (working fl tn x)).2 = working fl tn (signWith k e x).2 := by
  have h := signWith_withHif k e { x.hif with flight := fl, turn := tn } x
  have hhif : (signWith k e x).2.hif = x.hif := (congrArg State.hif (signWith_frame k e x).1 :)
  refine ⟨(congrArg Prod.fst h :), (congrArg Prod.snd h :).trans ?_⟩
  rw [working, hhif]

/-- A write to DST leaves the key store alone. -/
theorem dmaWrite_cry (a : Nat) (out : Bytes) (x : State) : (dmaWrite d a out x).cry = x.cry := by
  unfold dmaWrite
  split <;> rfl

/-! ## PKE_SIGN -/

/-- The state of the unit's work reads as that at the tick for the signature unit. -/
theorem working_sign (fl : List Flight) (tn : Nat) (d : Desc) :
    signKey d (working fl tn (elapse t s)) = signKey d s ∧ drawFails (working fl tn (elapse t s)) = drawFails s ∧
      workingOn 0x5B (working fl tn (elapse t s)) = workingOn 0x5B s ∧
      ckptWork (working fl tn (elapse t s)) = ckptWork s := by
  have hcry : (working fl tn (elapse t s)).cry = s.cry := elapse_cry t s
  have hlcy : (working fl tn (elapse t s)).lcy = s.lcy := elapse_lcy t s
  have hroot : rootOk (working fl tn (elapse t s)) = rootOk s := by
    rw [rootOk, rootOk, hlcy, isRetired, isRetired,
      show lcState (working fl tn (elapse t s)) = lcState s from elapse_lcState t s]
  have hkey : ∀ h u k, keyFor h u k (working fl tn (elapse t s)) = keyFor h u k s := by
    intro h u k
    rw [keyFor, keyFor, slotOf, slotOf, slotChanges, slotChanges, hcry]
  refine ⟨by rw [signKey, signKey, hroot, hkey], ?_, ?_, ?_⟩
  · rw [drawFails, drawFails, show rngState (working fl tn (elapse t s)) = rngState s from elapse_rngState t s]
  · rw [workingOn, workingOn, droverWork, droverWork,
      show (working fl tn (elapse t s)).hif.droverQ = s.hif.droverQ from (congrArg Hif.droverQ (elapse_hif t s) :)]
  · rw [ckptWork, ckptWork, hlcy, show (working fl tn (elapse t s)).lgr = s.lgr from elapse_lgr t s]

/-- What a signature of `b` in mode `m` covers (R320). -/
def signedDigest (m : Nat) (d : Desc) (b : Bytes) : Bytes :=
  if m = 1 then b else if m = 2 then sha256 (dakLedgerPrefix ++ b)
  else if d.target = 0x80 then sha256 (dakHostPrefix ++ b) else sha256 b

/-- A PKE_SIGN whose parameters and length are right. -/
def signForm (m : Nat) (d : Desc) (s : State) : Prop :=
  (m = 0 ∧ 1 ≤ d.len ∧ d.len ≤ 1048576) ∨ (m = 1 ∧ d.len = 32 ∧ d.target ≠ 0x80) ∨
    (m = 2 ∧ d.len = 128 ∧ d.src = .drover ∧ (workingOn 0x5B s || ckptWork s) = true)

/-- PKE_SIGN with a good key comes to its key and its draw. -/
theorem signUnit_formed {m k : Nat} {o : Option Nat} {x : State} (hp : parNonzero 1 24 d = none) (hm : p8 d 0 = m)
    (hf : signForm m d x) (hkey : signKey d x = some (o, k)) :
    signUnit d x = match drawFails x with
      | some st =>
        if st = stHealth then fail d st 0 x
        else
          let s1 := match o with | some n => holdSlot n d x | none => x
          { s1 with lcy := { s1.lcy with steepWait := s1.lcy.steepWait ++ [(d, now x + timeoutTicks d 100)] } }
      | none => readSrc d d.len (fun msg y => releaseSlots d (signNow k d (signedDigest m d msg) y)) x := by
  have h1 : ¬ (m > 2 ∨ (m = 2 ∧ (!(d.src == .drover && (workingOn 0x5B x || ckptWork x))) = true)) := by
    rcases hf with ⟨rfl, -⟩ | ⟨rfl, -⟩ | ⟨rfl, -, hsrc, hw⟩
    · simp
    · simp
    · simp [hsrc, hw]
  have h2 : ¬ (m = 1 ∧ d.target = 0x80) := by
    rcases hf with ⟨rfl, -⟩ | ⟨rfl, -, hne⟩ | ⟨rfl, -⟩
    · simp
    · simpa using hne
    · simp
  have h3 : ¬ ((m = 0 ∧ (!(decide (1 ≤ d.len) && decide (d.len ≤ 1048576))) = true) ∨ (m = 1 ∧ d.len ≠ 32) ∨
      (m = 2 ∧ d.len ≠ 128)) := by
    rcases hf with ⟨rfl, hlo, hhi⟩ | ⟨rfl, hlen, -⟩ | ⟨rfl, hlen, -⟩
    · simp [hlo, hhi]
    · simp [hlen]
    · simp [hlen]
  unfold signUnit
  rw [hm]
  simp only [if_neg h1, hp, if_neg h2, if_neg h3, hkey]
  rfl

/-- The signature stands at DST (R320). -/
theorem sign_signs {m k : Nat} {o : Option Nat} {b : Bytes} (hs : serves t d s) (hmode : isMode 0x44 m d = true)
    (hread : dmaRead d d.srcAddr d.len s = some b) (hh : s.cry.holders = []) (hc : s.cry.changes = [])
    (hp : parNonzero 1 24 d = none) (hf : signForm m d s) (hkey : signKey d s = some (o, k)) (hdraw : drawFails s = none)
    (hdma : dmaBlocked d d.dstAddr (signWith k (signedDigest m d b) (elapse t s)).1.length s = false) :
    ∃ s' s1, descCommand t (asMode 0x44 m d) signUnit s = .next s' ∧
      answers d stOk ([byteOf m, byteOf (b2n (d.target == 0x80))] ++ leBytes 2 d.target) 0
        (dmaWrite d d.dstAddr (signWith k (signedDigest m d b) (elapse t s)).1 s1) s' ∧
      s1 = { elapse t s with regs := s1.regs, free := s1.free } ∧
      fld CRY_PKE_CNT.SIGN s1 = sat 16 (fld CRY_PKE_CNT.SIGN s + 1) ∧
      keepsRegs [CRY_PKE_CNT.reg, RNG_REQ_CNT.reg, RNG_STATUS.reg] s s1 := by
  obtain ⟨fl, tn, hans, hrun⟩ := served_working hs
  let w : State := working fl tn (elapse t s)
  let e : Bytes := signedDigest m d b
  let x : State := (signWith k e (elapse t s)).2
  let s1 : State := bump CRY_PKE_CNT.SIGN x
  obtain ⟨hx, hkeep⟩ := signWith_frame k e (elapse t s)
  obtain ⟨hwkey, hwdraw, hwwork, hwck⟩ := working_sign (s := s) (t := t) fl tn d
  have hm : p8 d 0 = m := by simpa [isMode] using (Bool.and_eq_true_iff.mp hmode).2
  have hform : signForm m d w := by
    unfold signForm
    rw [show workingOn 0x5B w = workingOn 0x5B s from hwwork, show ckptWork w = ckptWork s from hwck]
    exact hf
  have hframe : s1 = { elapse t s with regs := s1.regs, free := s1.free } := by
    show bump CRY_PKE_CNT.SIGN x = _
    have hb : bump CRY_PKE_CNT.SIGN x = { x with regs := s1.regs } := rfl
    rw [hb]
    exact congrArg (fun y : State => { y with regs := s1.regs }) hx
  obtain ⟨hsig, hstate⟩ := signWith_working k e fl tn (elapse t s)
  have hans1 : Answerable d (working fl tn s1) := by
    rw [hframe]
    exact ⟨hans.heard, hans.mem, hans.hostWait, hans.wait, hans.queue⟩
  have hq : quietStatus stOk d.opcode = true := quietStatus_ok _
  have hblk : dmaBlocked d d.dstAddr (signWith k e (elapse t s)).1.length (working fl tn x) = false := by
    have h1 : dmaBlocked d d.dstAddr (signWith k e (elapse t s)).1.length (working fl tn x) =
        dmaBlocked d d.dstAddr (signWith k e (elapse t s)).1.length w := by
      rw [show x = _ from hx]
      rfl
    exact h1.trans ((working_crypt fl tn 0 0 isAes d.dstAddr _).2.2.1.trans hdma)
  have hcry1 : (working fl tn s1).cry = s.cry := by
    have h1 : s1.cry = (elapse t s).cry := (congrArg State.cry hframe :)
    exact h1.trans (elapse_cry t s)
  refine ⟨_, s1, ?_, answers_atDst (out := (signWith k e (elapse t s)).1) hans1 hq, hframe, ?_, fun off ho => ?_⟩
  · rw [asMode_self _ _ d hmode, hrun signUnit, signUnit_formed hp hm hform (hwkey.trans hkey)]
    rw [show drawFails (working fl tn (elapse t s)) = none from hwdraw.trans hdraw]
    dsimp only
    rw [readSrc_some ((working_crypt fl tn 0 0 isAes d.srcAddr d.len).2.1.trans hread), signNow, hsig, hstate,
      writeDst_ok _ hblk, bump_dmaWrite, hm]
    have hbump : bump CRY_PKE_CNT.SIGN (working fl tn x) = working fl tn s1 := rfl
    rw [hbump, releaseSlots_complete hq (by rw [dmaWrite_cry, hcry1, hh]) (by rw [dmaWrite_cry, hcry1, hc])]
  · have hwf : Regs.wf x = true := hkeep.wf (memorySafe_elapse_wf hs.2.1 t)
    rw [show s1 = bump CRY_PKE_CNT.SIGN x from rfl, fld_bump_same _ (by decide) _ hwf,
      hkeep.fld CRY_PKE_CNT.SIGN (by decide), elapse_fld]
    rfl
  · have h1 : RegsKept [CRY_PKE_CNT.reg, RNG_REQ_CNT.reg, RNG_STATUS.reg] (elapse t s) s1 :=
      (hkeep.mono (List.subset_cons_self _ _)).trans (.bump _ _ (by decide))
    exact (h1.keeps off ho).trans (elapse_regGet off t s)

/-- While the generator is in Steep it waits, holding its slot (R304, R320). -/
theorem sign_waits {m k : Nat} {o : Option Nat} (hs : serves t d s) (hmode : isMode 0x44 m d = true)
    (hh : s.cry.holders = []) (hp : parNonzero 1 24 d = none) (hf : signForm m d s) (hkey : signKey d s = some (o, k))
    (hdraw : drawFails s = some stNotReady) :
    ∃ s', descCommand t (asMode 0x44 m d) signUnit s = .next s' ∧
      settles { atWork d (elapse t s) with
        cry := { s.cry with holders := (o.map (fun n => (n, d))).toList }
        lcy := { s.lcy with steepWait := s.lcy.steepWait ++ [(d, now (elapse t s) + timeoutTicks d 100)] } } s' := by
  obtain ⟨h, hwork, -⟩ := served_atUnit hs
  obtain ⟨fl, tn, hat⟩ := atWork_working d (elapse t s) hs.2.2.2
  obtain ⟨-, hrun⟩ := served_atWork hs
  rw [hat] at hrun ⊢
  let w : State := working fl tn (elapse t s)
  obtain ⟨hwkey, hwdraw, hwwork, hwck⟩ := working_sign (s := s) (t := t) fl tn d
  have hm : p8 d 0 = m := by simpa [isMode] using (Bool.and_eq_true_iff.mp hmode).2
  have hform : signForm m d w := by
    unfold signForm
    rw [show workingOn 0x5B w = workingOn 0x5B s from hwwork, show ckptWork w = ckptWork s from hwck]
    exact hf
  let y : State := { w with
    cry := { s.cry with holders := (o.map (fun n => (n, d))).toList }
    lcy := { s.lcy with steepWait := s.lcy.steepWait ++ [(d, now (elapse t s) + timeoutTicks d 100)] } }
  refine ⟨finish y, ?_, finish_settles_of s y ((running_iff s).mp hs.1).1 (elapse_lgr t s) (elapse_fold t s)⟩
  rw [asMode_self _ _ d hmode, hrun signUnit, signUnit_formed hp hm hform (hwkey.trans hkey)]
  rw [show drawFails (working fl tn (elapse t s)) = some stNotReady from hwdraw.trans hdraw]
  dsimp only
  rw [if_neg (by decide)]
  have hcry : w.cry = s.cry := elapse_cry t s
  have hlcy : w.lcy = s.lcy := elapse_lcy t s
  refine congrArg (fun z => Host.Outcome.next (finish z)) ?_
  cases o with
  | none =>
    show ({ w with lcy := { w.lcy with steepWait := w.lcy.steepWait ++ _ } } : State) = y
    have hsame : { s.cry with holders := [] } = w.cry := by rw [hcry, ← hh]
    simp only [y, Option.map_none, Option.toList_none, hsame, hlcy]
    rfl
  | some n =>
    show ({ w with
      cry := { w.cry with holders := (n, d) :: w.cry.holders }
      lcy := { w.lcy with steepWait := w.lcy.steepWait ++ _ } } : State) = y
    simp only [y, hcry, hlcy, hh]
    rfl

/-! ## PKE_VERIFY -/

/-- PKE_VERIFY of a good public key (R321). -/
theorem pkeVerify_answers {b : Bytes} (hs : serves t d s) (hrow : isRow 0x45 d = true)
    (hread : dmaRead d d.srcAddr d.len s = some b) (hm : p8 d 0 ≤ 1) (hp : parNonzero 1 24 d = none)
    (hlo : 128 ≤ d.len) (hhi : d.len ≤ 128 + 1048576) (h160 : p8 d 0 = 1 → d.len = 160) (hpub : pubOk (b.take 64) = true) :
    let ok := ecdsaVerify (b.take 64) (if p8 d 0 = 1 then b.drop 128 else sha256 (b.drop 128)) (slice 64 64 b)
    ∃ s1 s', exec (.pkeVerify t d) s = .next s' ∧
      answers d (if ok then stOk else stMacFail) [if ok then 1 else 0] 0 s1 s' ∧ s1 = { elapse t s with regs := s1.regs } ∧
      fld CRY_PKE_CNT.VERIFY s1 = sat 16 (fld CRY_PKE_CNT.VERIFY s + 1) ∧
      fld CRY_CNT1.MAC_FAIL s1 = sat 16 (fld CRY_CNT1.MAC_FAIL s + b2n (!ok)) ∧
      keepsRegs [CRY_PKE_CNT.reg, CRY_CNT1.reg] s s1 := by
  intro ok
  obtain ⟨fl, tn, hans, hrun⟩ := served_working hs
  let x : State := elapse t s
  have hwf : Regs.wf x = true := memorySafe_elapse_wf hs.2.1 t
  let s0 : State := bump CRY_PKE_CNT.VERIFY x
  let s1 : State := if ok then s0 else bump CRY_CNT1.MAC_FAIL s0
  have hs0 : fld CRY_CNT1.MAC_FAIL s0 = fld CRY_CNT1.MAC_FAIL s :=
    (fld_setFld_apart CRY_PKE_CNT.VERIFY CRY_CNT1.MAC_FAIL (by decide) (by decide) _ x hwf).trans (elapse_fld _ t s)
  have hv0 : fld CRY_PKE_CNT.VERIFY s0 = sat 16 (fld CRY_PKE_CNT.VERIFY s + 1) := by
    rw [show s0 = bump CRY_PKE_CNT.VERIFY x from rfl, fld_bump_same _ (by decide) _ hwf, elapse_fld]
    rfl
  have hwf0 : Regs.wf s0 = true := regs_wf_setFld _ _ _ hwf
  have hunit : verifyUnit d (working fl tn x) =
      complete d (if ok then stOk else stMacFail) [if ok then 1 else 0] 0 (working fl tn s1) := by
    unfold verifyUnit
    simp only [hp]
    rw [if_neg (by omega), if_neg (by rintro (h | h | ⟨h1, h2⟩) <;> [omega; omega; exact h2 (h160 h1)]),
      readSrc_some ((working_crypt fl tn 0 0 isAes d.srcAddr d.len).2.1.trans hread)]
    simp only [hpub, Bool.true_eq_false, if_false]
    by_cases h : ok = true
    · have h' := h
      simp only [ok] at h'
      simp only [h', s1, h, if_true]
      rfl
    · have h' := h
      simp only [ok] at h'
      simp only [h', s1, h]
      rfl
  have hframe : s1 = { x with regs := s1.regs } := by
    unfold s1
    split <;> rfl
  have hans1 : Answerable d (working fl tn s1) := by
    rw [hframe]
    exact ⟨hans.heard, hans.mem, hans.hostWait, hans.wait, hans.queue⟩
  have hq : quietStatus (if ok then stOk else stMacFail) d.opcode = true := by
    rw [opcode_of_isRow hrow]
    cases ok <;> rfl
  refine ⟨s1, _, ?_, answers_of_working (hans1.quiet hq), hframe, ?_, ?_, fun off ho => ?_⟩
  · show descCommand t (asOp 0x45 d) verifyUnit s = _
    rw [asOp_self hrow, hrun verifyUnit]
    exact congrArg (fun y => Host.Outcome.next (finish y)) hunit
  · by_cases h : ok = true
    · rw [show s1 = s0 from if_pos h, hv0]
    · rw [show s1 = bump CRY_CNT1.MAC_FAIL s0 from if_neg h]
      exact (fld_setFld_apart CRY_CNT1.MAC_FAIL CRY_PKE_CNT.VERIFY (by decide) (by decide) _ s0 hwf0).trans hv0
  · have hlt : fld CRY_CNT1.MAC_FAIL s ≤ 2 ^ 16 - 1 := Nat.le_sub_one_of_lt (Nat.mod_lt _ (by decide))
    by_cases h : ok = true
    · rw [show s1 = s0 from if_pos h, hs0, h]
      exact (Nat.min_eq_left hlt).symm
    · rw [show s1 = bump CRY_CNT1.MAC_FAIL s0 from if_neg h, fld_bump_same _ (by decide) _ hwf0, hs0,
        Bool.eq_false_iff.mpr h]
      rfl
  · have h1 : RegsKept [CRY_PKE_CNT.reg, CRY_CNT1.reg] x s1 := by
      unfold s1
      split
      · exact .bump _ _ (by decide)
      · exact RegsKept.trans (b := s0) (.bump _ _ (by decide)) (.bump _ _ (by decide))
    exact (h1.keeps off ho).trans (elapse_regGet off t s)

end

/-- Settles O35: a signature in each mode, or the wait for the generator, and both outcomes of a verification. -/
theorem signaturesAreMadeAndVerified : Obligations.SignaturesAreMadeAndVerified := by
  unfold Obligations.SignaturesAreMadeAndVerified
  intro s t d b hs hread hh hc s0 signs
  have hsigns : ∀ m, isMode 0x44 m d = true → parNonzero 1 24 d = none → (signKey d s).isSome = true →
      signForm m d s → ∃ s', descCommand t (asMode 0x44 m d) signUnit s = .next s' ∧ signs m (signedDigest m d b) s' := by
    intro m hmode hp hsome hf
    obtain ⟨⟨o, k⟩, hkey⟩ := Option.isSome_iff_exists.mp hsome
    obtain ⟨fl, tn, -, hrun⟩ := served_working hs
    have hs' : descCommand t (asMode 0x44 m d) signUnit s = .next (finish (signUnit d (working fl tn (elapse t s)))) := by
      rw [asMode_self _ _ d hmode]
      exact hrun signUnit
    refine ⟨_, hs', fun o' k' hkey' => ?_⟩
    obtain ⟨rfl, rfl⟩ : o' = o ∧ k' = k := by simpa [hkey] using hkey'.symm
    refine ⟨fun hdraw hdma => ?_, fun hdraw => ?_⟩
    · obtain ⟨s', s1, hs1, h⟩ := sign_signs hs hmode hread hh hc hp hf hkey hdraw hdma
      obtain rfl : s' = _ := by injection hs1.symm.trans hs'
      exact ⟨s1, h⟩
    · obtain ⟨s', hs1, h⟩ := sign_waits hs hmode hh hp hf hkey hdraw
      obtain rfl : s' = _ := by injection hs1.symm.trans hs'
      exact h
  refine ⟨fun hp hsome => ⟨fun hmode hlo hhi => ?_, fun hmode hlen hne => ?_, fun hmode hlen hsrc hw => ?_⟩,
    fun hrow hm hp hlo hhi h160 hpub => pkeVerify_answers hs hrow hread hm hp hlo hhi h160 hpub⟩
  · obtain ⟨s', hs', h⟩ := hsigns 0 hmode hp hsome (.inl ⟨rfl, hlo, hhi⟩)
    refine ⟨s', hs', ?_⟩
    have hdig : sha256 (if d.target = 0x80 then dakHostPrefix ++ b else b) = signedDigest 0 d b := by
      rw [apply_ite sha256]
      rfl
    rw [hdig]
    exact h
  · exact hsigns 1 hmode hp hsome (.inr (.inl ⟨rfl, hlen, hne⟩))
  · exact hsigns 2 hmode hp hsome (.inr (.inr ⟨rfl, hlen, hsrc, hw⟩))

end Sys2Proof.Machine
end

section
/-! SUPPORT. Increments for a descriptor, the scrubber and the hold-up voltage. -/
namespace Sys2Proof.Machine

section
variable {s : State} {t : Nat} {d : Desc}

/-! ## TALLY_INC -/

/-- An increment below the largest value, with what it says (R357). -/
theorem tallyStep_clipped (c n : Nat) {x : State} (hw : x.nv.worn = []) {v slot : Nat} (ht : tally c x = some (v, slot))
    (hlt : v < tallyMax) :
    tallyStep c n x = (bump NVS_TALLY_CNT.INC (tallyCell c (min (v + n) tallyMax - v) v slot x),
      .done (min (v + n) tallyMax) ((slot + 1) % 32) (decide (v + n > tallyMax))
        (rewrites (cellAddr c ((slot + 1) % 32)) 8 x)) := by
  have htx : tally c (tallyStart c x) = some (v, slot) := ht
  obtain ⟨hok, -, -, -⟩ := nvWriteWord_fresh (cellAddr c ((slot + 1) % 32)) (cellBytes c (min (v + n) tallyMax))
    (tallyStart c x) hw
  have hsum : v + (min (v + n) tallyMax - v) = min (v + n) tallyMax := by omega
  have hinc : tallyInc c n x = (bump NVS_TALLY_CNT.INC (tallyCell c (min (v + n) tallyMax - v) v slot x),
      .done (min (v + n) tallyMax) ((slot + 1) % 32) (decide (v + n > tallyMax))
        (rewrites (cellAddr c ((slot + 1) % 32)) 8 x)) := by
    simp only [tallyInc, show addFld NVS_TALLY_CNT.INVALID (32 - (validCells c x).length) x = tallyStart c x from rfl,
      htx, if_neg (Nat.not_le.mpr hlt), hok, if_true, tallyCell, hsum]
    rfl
  simp only [tallyStep, hinc]

/-- Its cell's write touches the array and its buffer only. -/
theorem tallyCell_frame (c n v slot : Nat) {x : State} (hw : x.nv.worn = []) :
    tallyCell c n v slot x = { x with regs := (tallyStart c x).regs, nv := (tallyCell c n v slot x).nv } ∧
      (tallyCell c n v slot x).nv.recs = x.nv.recs := by
  have hfree : ¬ (tallyStart c x).nv.worn.contains (cellAddr c ((slot + 1) % 32)) = true := by
    rw [show (tallyStart c x).nv.worn = [] from hw]
    simp
  unfold tallyCell nvWriteWord
  rw [if_neg hfree]
  exact ⟨rfl, rfl⟩

/-- The state in which an increment of a descriptor begins (R358). -/
def incBegun (c : Nat) (s : State) : State :=
  { s with nv := { s.nv with incAt := (c, now s) :: s.nv.incAt.filter (fun p => p.1 ≠ c) } }

/-- How an increment from `x` is answered (R363). -/
def incAnswer (d : Desc) (x : State) (r : State × TallyOut) : State :=
  match r.2 with
  | .done v slot clip retried => complete d stOk (incResult v slot (b2n clip + 2 * b2n retried)) 0 r.1
  | .saturated => complete d stTallySat (incResult tallyMax 0xFF 0) 0 r.1
  | .failed => complete d stEcc (incResult (tallyVal d.target x) 0xFF 2) 0 r.1
  | .lostCounter => complete d stEcc (incResult 0 0xFF 0) 0 r.1

/-- TALLY_INC at its counter, when it may start at once. -/
theorem tallyIncUnit_begins {fl : List Flight} {tn : Nat} (hallow : incAllowed d s = true)
    (hp : parNonzero 2 24 d = none) (hstart : incStart d.target (elapse t s) = now (elapse t s)) :
    tallyIncUnit d (working fl tn (elapse t s)) = incAnswer d (incBegun d.target (working fl tn (elapse t s)))
      (tallyStep d.target (if p16 d 0 = 0 then 1 else p16 d 0) (incBegun d.target (working fl tn (elapse t s)))) := by
  have hq : (working fl tn (elapse t s)).hif.droverQ = s.hif.droverQ := (congrArg Hif.droverQ (elapse_hif t s) :)
  have hall : incAllowed d (working fl tn (elapse t s)) = true := by
    rw [← hallow, incAllowed, incAllowed, droverWork, droverWork, hq]
  have hnow : elapse (incStart d.target (working fl tn (elapse t s))) (working fl tn (elapse t s)) =
      working fl tn (elapse t s) := by
    have hst : incStart d.target (working fl tn (elapse t s)) = now (working fl tn (elapse t s)) := hstart
    rw [hst, elapse, if_pos (.inl (Nat.le_refl _))]
  unfold tallyIncUnit
  rw [if_neg (by rw [hall]; decide), reserved_free hp]
  simp only [hnow]
  rfl

/-- TALLY_INC below the largest value (R357, R363). -/
theorem tallyInc_counts {v slot : Nat} (hs : serves t d s) (hrow : isRow 0x52 d = true) (hc : d.target < 256)
    (hallow : incAllowed d s = true) (hp : parNonzero 2 24 d = none)
    (hstart : incStart d.target (elapse t s) = now (elapse t s)) (ht : tally d.target s = some (v, slot))
    (hlt : v < tallyMax) (hw : s.nv.worn = []) :
    let n := if p16 d 0 = 0 then 1 else p16 d 0
    ∃ s1 s', exec (.tallyInc t d) s = .next s' ∧
      answers d stOk (incResult (min (v + n) tallyMax) ((slot + 1) % 32)
        (b2n (decide (v + n > tallyMax)) + 2 * b2n (rewrites (cellAddr d.target ((slot + 1) % 32)) 8 s))) 0 s1 s' ∧
      tally d.target s' = some (min (v + n) tallyMax, (slot + 1) % 32) ∧
      (∀ c < 256, c ≠ d.target → tally c s' = tally c s) ∧
      (∀ a, a / 256 ≠ d.target → mget nvDflt s'.nv.mem a = mget nvDflt s.nv.mem a) ∧
      s1 = { elapse t s with regs := s1.regs, nv := s1.nv } ∧ s1.nv.recs = s.nv.recs ∧
      fld NVS_TALLY_CNT.INC s1 = sat NVS_TALLY_CNT.INC.width (fld NVS_TALLY_CNT.INC s + 1) ∧
      keepsRegs [NVS_TALLY_CNT.reg] s s1 := by
  intro n
  obtain ⟨fl, tn, hans, hrun⟩ := served_working hs
  obtain ⟨-, -, -, hmem, -, -⟩ := hs.2.1
  have hn : 1 ≤ n := by
    show 1 ≤ (if p16 d 0 = 0 then 1 else p16 d 0)
    split <;> omega
  let c : Nat := d.target
  let x : State := incBegun c (working fl tn (elapse t s))
  let k : Nat := min (v + n) tallyMax - v
  let y : State := bump NVS_TALLY_CNT.INC (tallyCell c k v slot x)
  have hxw : x.nv.worn = [] := (elapse_nv_worn t s).trans hw
  have hxt : tally c x = some (v, slot) := (elapse_tally c t s).trans ht
  have hxm : Memory.wf nvDflt x.nv.mem = true := by
    rw [show x.nv.mem = s.nv.mem from elapse_nv_mem t s]
    exact hmem
  have hk : 0 < k ∧ v + k ≤ tallyMax ∧ v + k = min (v + n) tallyMax := by
    simp only [k]
    omega
  obtain ⟨clip, again, hsame⟩ := tallyStep_eq c k x hxw hxt hk.1 hk.2.1
  obtain ⟨-, hrec, htally⟩ := tallyStep_done c k x hxw hxm hxt hk.1 hk.2.1
  obtain ⟨-, hfar⟩ := tallyStep_ledger c k x hxw hxt hk.1 hk.2.1 hc
  rw [hsame] at hrec htally hfar
  rw [hk.2.2] at htally
  obtain ⟨hcell, hcrecs⟩ := tallyCell_frame c k v slot hxw
  let s1 : State := { elapse t s with regs := y.regs, nv := y.nv }
  have hy : y = working fl tn s1 := by
    have h : y = { tallyCell c k v slot x with regs := y.regs } := rfl
    rw [h]
    exact congrArg (fun z : State => { z with regs := y.regs }) hcell
  have hans1 : Answerable d (working fl tn s1) := ⟨hans.heard, hans.mem, hans.hostWait, hans.wait, hans.queue⟩
  have hfin : (finish (complete d stOk (incResult (min (v + n) tallyMax) ((slot + 1) % 32)
      (b2n (decide (v + n > tallyMax)) + 2 * b2n (rewrites (cellAddr c ((slot + 1) % 32)) 8 x))) 0 (working fl tn s1))).nv.mem
        = y.nv.mem ∧ (finish (complete d stOk (incResult (min (v + n) tallyMax) ((slot + 1) % 32)
      (b2n (decide (v + n > tallyMax)) + 2 * b2n (rewrites (cellAddr c ((slot + 1) % 32)) 8 x))) 0
        (working fl tn s1))).nv.bad = y.nv.bad := by
    have ha := (hans1.quiet (st := stOk) (det := 0) (res := incResult (min (v + n) tallyMax) ((slot + 1) % 32)
      (b2n (decide (v + n > tallyMax)) + 2 * b2n (rewrites (cellAddr c ((slot + 1) % 32)) 8 x))) (quietStatus_ok _)).2.1
    exact ⟨(congrArg (fun z : State => z.nv.mem) ha :), (congrArg (fun z : State => z.nv.bad) ha :)⟩
  have hans' := answers_of_working (hans1.quiet (st := stOk) (det := 0)
    (res := incResult (min (v + n) tallyMax) ((slot + 1) % 32)
      (b2n (decide (v + n > tallyMax)) + 2 * b2n (rewrites (cellAddr c ((slot + 1) % 32)) 8 x))) (quietStatus_ok _))
  have hrw : rewrites (cellAddr c ((slot + 1) % 32)) 8 x = rewrites (cellAddr c ((slot + 1) % 32)) 8 s := by
    rw [rewrites, rewrites, show x.nv.weak = s.nv.weak from elapse_nv_weak t s]
  have hrun' : exec (.tallyInc t d) s = .next (finish (complete d stOk (incResult (min (v + n) tallyMax) ((slot + 1) % 32)
      (b2n (decide (v + n > tallyMax)) + 2 * b2n (rewrites (cellAddr c ((slot + 1) % 32)) 8 x))) 0 (working fl tn s1))) := by
    show descCommand t (asOp 0x52 d) tallyIncUnit s = _
    rw [asOp_self hrow, hrun tallyIncUnit, tallyIncUnit_begins hallow hp hstart]
    rw [show tallyStep d.target (if p16 d 0 = 0 then 1 else p16 d 0) (incBegun d.target (working fl tn (elapse t s))) = _
      from tallyStep_clipped c n hxw hxt hlt, ← hy]
    rfl
  generalize hs' : finish (complete d stOk _ 0 (working fl tn s1)) = s' at hfin hans' hrun'
  have hkept : ∀ i, tally i s' = tally i y := fun i => tally_congr i (fun j _ => cellVal_congr i j
    (fun _ _ => by rw [hfin.1]) (by rw [hfin.2]))
  have hreg : RegsKept [NVS_TALLY_CNT.reg] (elapse t s) s1 := by
    have h1 : RegsKept [NVS_TALLY_CNT.reg] x (tallyStart c x) := .setFld _ _ _ (by decide)
    have h2 : RegsKept [NVS_TALLY_CNT.reg] (tallyCell c k v slot x) y := .bump _ _ (by decide)
    have h3 : RegsKept [NVS_TALLY_CNT.reg] (tallyStart c x) (tallyCell c k v slot x) := by
      rw [hcell]
      exact .of_eq _ rfl rfl
    have h4 := (h1.trans h3).trans h2
    rw [hy] at h4
    exact ⟨fun off ho => h4.keeps off ho, fun hwf => h4.wf hwf⟩
  refine ⟨s1, s', hrun', by rw [← hrw]; exact hans', by rw [hkept]; exact htally, fun i hi hne => ?_, fun a ha => ?_, rfl,
    ?_, ?_, fun off ho => (hreg.keeps off ho).trans (elapse_regGet off t s)⟩
  · rw [hkept, hrec.tally i (by simpa using hne) hi]
    exact elapse_tally i t s
  · rw [hfin.1]
    refine Eq.trans ?_ (congrArg (fun m => mget nvDflt m a) (elapse_nv_mem t s))
    by_cases hlow : a < 0x10000
    · exact hrec.array.mem a (by omega) (by simpa using ha)
    · exact hfar a (by omega)
  · exact hcrecs.trans (elapse_nv_recs t s)
  · have hwf : Regs.wf (elapse t s) = true := memorySafe_elapse_wf hs.2.1 t
    have hstart : fld NVS_TALLY_CNT.INC (tallyCell c k v slot x) = fld NVS_TALLY_CNT.INC s := by
      rw [hcell]
      exact (fld_setFld_apart NVS_TALLY_CNT.INVALID NVS_TALLY_CNT.INC (by decide) (by decide) _ (elapse t s) hwf).trans
        (elapse_fld _ t s)
    have hcwf : Regs.wf (tallyCell c k v slot x) = true := by
      rw [hcell]
      exact regs_wf_setFld NVS_TALLY_CNT.INVALID _ (elapse t s) hwf
    have hy1 : fld NVS_TALLY_CNT.INC s1 = fld NVS_TALLY_CNT.INC y := by
      rw [hy]
      rfl
    rw [hy1, show y = bump NVS_TALLY_CNT.INC _ from rfl, fld_bump_same _ (by decide) _ hcwf, hstart]

/-- An increment at the largest value (R357). -/
theorem tallyStep_saturated (c n : Nat) {x : State} {slot : Nat} (ht : tally c x = some (tallyMax, slot)) :
    tallyStep c n x = (bump NVS_TALLY_CNT.SAT (tallyStart c x), .saturated) := by
  have htx : tally c (tallyStart c x) = some (tallyMax, slot) := ht
  have hinc : tallyInc c n x = (bump NVS_TALLY_CNT.SAT (tallyStart c x), .saturated) := by
    simp only [tallyInc, show addFld NVS_TALLY_CNT.INVALID (32 - (validCells c x).length) x = tallyStart c x from rfl,
      htx, Nat.le_refl, ge_iff_le, if_true]
  simp only [tallyStep, hinc]

/-- It begins beside the flights and the turn. -/
theorem tallyStart_working (c : Nat) (fl : List Flight) (tn : Nat) (y : State) :
    bump NVS_TALLY_CNT.SAT (tallyStart c (incBegun c (working fl tn y))) =
      working fl tn (bump NVS_TALLY_CNT.SAT (tallyStart c (incBegun c y))) := by
  have hcells : validCells c (incBegun c (working fl tn y)) = validCells c (incBegun c y) := by
    have h : ∀ i, cellVal c i (incBegun c (working fl tn y)) = cellVal c i (incBegun c y) := fun _ => rfl
    simp only [validCells, h]
  unfold tallyStart
  rw [hcells]
  generalize 32 - (validCells c (incBegun c y)).length = k
  rfl

/-- TALLY_INC at the largest value (R358, R363). -/
theorem tallyInc_saturates {slot : Nat} (hs : serves t d s) (hrow : isRow 0x52 d = true)
    (hallow : incAllowed d s = true) (hp : parNonzero 2 24 d = none)
    (hstart : incStart d.target (elapse t s) = now (elapse t s)) (ht : tally d.target s = some (tallyMax, slot)) :
    ∃ s1 s', exec (.tallyInc t d) s = .next s' ∧ answers d stTallySat (incResult tallyMax 0xFF 0) 0 s1 s' ∧
      tally d.target s' = some (tallyMax, slot) ∧ s'.nv.mem = s.nv.mem ∧
      s1 = { elapse t s with regs := s1.regs, nv := { (elapse t s).nv with incAt := s1.nv.incAt } } ∧
      keepsRegs [NVS_TALLY_CNT.reg] s s1 := by
  obtain ⟨fl, tn, hans, hrun⟩ := served_working hs
  let c : Nat := d.target
  let x : State := incBegun c (working fl tn (elapse t s))
  let s1 : State := bump NVS_TALLY_CNT.SAT (tallyStart c (incBegun c (elapse t s)))
  have hxt : tally c x = some (tallyMax, slot) := (elapse_tally c t s).trans ht
  have hstep : ∀ n, tallyStep c n x = (working fl tn s1, .saturated) := fun n => by
    rw [tallyStep_saturated c n hxt, ← tallyStart_working]
  have hans1 : Answerable d (working fl tn s1) := ⟨hans.heard, hans.mem, hans.hostWait, hans.wait, hans.queue⟩
  have hq : quietStatus stTallySat d.opcode = true := by
    rw [opcode_of_isRow hrow]
    rfl
  have ha := hans1.quiet (res := incResult tallyMax 0xFF 0) (det := 0) hq
  have hrun' : exec (.tallyInc t d) s =
      .next (finish (complete d stTallySat (incResult tallyMax 0xFF 0) 0 (working fl tn s1))) := by
    show descCommand t (asOp 0x52 d) tallyIncUnit s = _
    rw [asOp_self hrow, hrun tallyIncUnit, tallyIncUnit_begins hallow hp hstart]
    rw [show tallyStep d.target (if p16 d 0 = 0 then 1 else p16 d 0) (incBegun d.target (working fl tn (elapse t s))) = _
      from hstep _]
    rfl
  have hmem : (finish (complete d stTallySat (incResult tallyMax 0xFF 0) 0 (working fl tn s1))).nv.mem = s.nv.mem :=
    (congrArg (fun z : State => z.nv.mem) ha.2.1 :).trans (elapse_nv_mem t s)
  have hbad : (finish (complete d stTallySat (incResult tallyMax 0xFF 0) 0 (working fl tn s1))).nv.bad = s.nv.bad :=
    (congrArg (fun z : State => z.nv.bad) ha.2.1 :).trans (elapse_nv_bad t s)
  refine ⟨s1, _, hrun', answers_of_working ha, ?_, hmem, rfl, fun off ho => ?_⟩
  · exact (tally_congr c (fun j _ => cellVal_congr c j (fun _ _ => by rw [hmem]) (by rw [hbad]))).trans ht
  · have h1 : RegsKept [NVS_TALLY_CNT.reg] (incBegun c (elapse t s)) s1 :=
      RegsKept.trans (b := tallyStart c (incBegun c (elapse t s))) (.setFld _ _ _ (by decide)) (.bump _ _ (by decide))
    exact (h1.keeps off ho).trans (elapse_regGet off t s)

end

end Sys2Proof.Machine
end

section
/-! SUPPORT. The scrubber and the hold-up voltage, and the statement about counters and the array. -/
namespace Sys2Proof.Machine

section
variable {s : State} {t : Nat}

/-! ## SCRUB_PASS -/

/-- Bytes written back where they were read change nothing. -/
theorem mget_rewrite (z : Nat → Byte) (a n x : Nat) {m : List Host.Cell} (h : Memory.wf z m = true) :
    mget z (mwrite z m a (mread z m a n)) x = mget z m x := by
  have hlen : (mread z m a n).length = n := by simp [mread]
  by_cases hx : x < a ∨ a + n ≤ x
  · exact mget_mwrite_out z _ a x m (by rw [hlen]; exact hx)
  · obtain ⟨i, rfl⟩ : ∃ i, x = a + i := ⟨x - a, by omega⟩
    rw [mget_mwrite_in z _ a i h (by rw [hlen]; omega)]
    simp [mread]

/-- After words of a list were rewritten: the array reads as before, and they are corrected no more. -/
structure Rewritten (hit : List Nat) (x y : State) : Prop where
  frame : y = { x with nv := y.nv }
  mem : ∀ a, mget nvDflt y.nv.mem a = mget nvDflt x.nv.mem a
  wf : Memory.wf nvDflt x.nv.mem = true → Memory.wf nvDflt y.nv.mem = true
  recs : y.nv.recs = x.nv.recs
  worn : y.nv.worn = x.nv.worn
  soft : y.nv.soft = x.nv.soft.filter (fun a => !hit.contains a)

/-- One word is rewritten (R342). -/
theorem scrubWord_rewrites (a : Nat) {x : State} (hw : x.nv.worn = []) (hm : Memory.wf nvDflt x.nv.mem = true) :
    Rewritten [a] x (scrubWord x a) := by
  have hfree : ¬ x.nv.worn.contains a = true := by rw [hw]; simp
  have hfit : fit 8 (nvWordBytes a x) = nvWordBytes a x := fit_self (by simp [nvWordBytes, mread])
  unfold scrubWord nvWriteWord
  rw [if_neg hfree, hfit]
  refine ⟨rfl, fun b => mget_rewrite nvDflt a 8 b hm, fun h => wf_mwrite nvDflt _ _ h, rfl, rfl, ?_⟩
  show x.nv.soft.filter (· ≠ a) = _
  refine List.filter_congr fun b _ => ?_
  by_cases h : b = a <;> simp [h]

/-- And so is one after another. -/
theorem foldl_scrubWord (hit : List Nat) {x : State} (hw : x.nv.worn = []) (hm : Memory.wf nvDflt x.nv.mem = true) :
    Rewritten hit x (hit.foldl scrubWord x) := by
  induction hit generalizing x with
  | nil => exact ⟨rfl, fun _ => rfl, id, rfl, rfl, by simp⟩
  | cons a hit ih =>
    have h1 := scrubWord_rewrites a hw hm
    have h2 := ih (h1.worn.trans hw) (h1.wf hm)
    refine ⟨?_, fun b => (h2.mem b).trans (h1.mem b), fun h => h2.wf (h1.wf h), h2.recs.trans h1.recs,
      h2.worn.trans h1.worn, ?_⟩
    · exact h2.frame.trans (congrArg (fun z : State => { z with nv := (hit.foldl scrubWord (scrubWord x a)).nv }) h1.frame)
    · rw [List.foldl_cons, h2.soft, h1.soft, List.filter_filter]
      refine List.filter_congr fun b _ => ?_
      simp only [List.contains_cons, List.contains_nil, Bool.or_false, Bool.not_or]
      exact Bool.and_comm _ _

/-- One uncorrectable word is counted, and its address shown (R342). -/
def noteBad (s : State) (a : Nat) : State :=
  setFld NVS_ERR_ADDR.VALID 1 (setFld NVS_ERR_ADDR.ADDR a (bump NVS_ECC_CNT.UNCORR s))

/-- Uncorrectable words are counted beside the corrected ones. -/
theorem foldl_noteBad (bad : List Nat) {x : State} (hwf : Regs.wf x = true) :
    bad.foldl noteBad x = { x with regs := (bad.foldl noteBad x).regs } ∧
      RegsKept [NVS_ECC_CNT.reg, NVS_ERR_ADDR.reg] x (bad.foldl noteBad x) ∧
      fld NVS_ECC_CNT.CORR (bad.foldl noteBad x) = fld NVS_ECC_CNT.CORR x := by
  induction bad generalizing x with
  | nil => exact ⟨rfl, .refl _ _, rfl⟩
  | cons a bad ih =>
    have hk : RegsKept [NVS_ECC_CNT.reg, NVS_ERR_ADDR.reg] x (noteBad x a) :=
      ((RegsKept.bump NVS_ECC_CNT.UNCORR x (by decide)).trans (.setFld NVS_ERR_ADDR.ADDR _ _ (by decide))).trans
        (.setFld NVS_ERR_ADDR.VALID _ _ (by decide))
    have hc : fld NVS_ECC_CNT.CORR (noteBad x a) = fld NVS_ECC_CNT.CORR x := by
      have h1 : Regs.wf (bump NVS_ECC_CNT.UNCORR x) = true := regs_wf_setFld _ _ _ hwf
      have h2 : Regs.wf (setFld NVS_ERR_ADDR.ADDR a (bump NVS_ECC_CNT.UNCORR x)) = true := regs_wf_setFld _ _ _ h1
      refine (fld_setFld_apart NVS_ERR_ADDR.VALID NVS_ECC_CNT.CORR (by decide) (by decide) _ _ h2).trans ?_
      refine (fld_setFld_apart NVS_ERR_ADDR.ADDR NVS_ECC_CNT.CORR (by decide) (by decide) _ _ h1).trans ?_
      exact fld_setFld_apart NVS_ECC_CNT.UNCORR NVS_ECC_CNT.CORR (by decide) (by decide) _ _ hwf
    obtain ⟨h1, h2, h3⟩ := ih (hk.wf hwf)
    exact ⟨h1.trans rfl, hk.trans h2, h3.trans hc⟩

/-- SCRUB_PASS (R342). -/
theorem scrubPass_rewrites (hl : live s = true) (hm : memorySafe s) (hen : flag NVS_CTL.SCRUB_EN s = true)
    (hst : s.pwr.st = .run) (hbuf : (elapse t s).nv.buf = []) (hw : s.nv.worn = [])
    (hdue : s.nv.scrubEnd + secTicks (3600 * fld NVS_CTL.SCRUB_H s) ≤ now (elapse t s)) :
    ∃ s', exec (.scrubPass t) s = .next s' ∧ settles { elapse t s with regs := s'.regs, nv := s'.nv } s' ∧
      (∀ a, mget nvDflt s'.nv.mem a = mget nvDflt s.nv.mem a) ∧ s'.nv.recs = s.nv.recs ∧
      s'.nv.soft = s.nv.soft.filter (fun a => !scrubbed a) ∧ s'.nv.scrubEnd = now (elapse t s) ∧
      fld NVS_ECC_CNT.CORR s' = sat NVS_ECC_CNT.CORR.width (fld NVS_ECC_CNT.CORR s + (s.nv.soft.filter scrubbed).length) ∧
      keepsRegs [NVS_ECC_CNT.reg, NVS_ERR_ADDR.reg] s s' := by
  obtain ⟨-, -, -, hmem, -, -⟩ := id hm
  let x : State := elapse t s
  let hit : List Nat := x.nv.soft.filter scrubbed
  have hwf : Regs.wf x = true := memorySafe_elapse_wf hm t
  let s1 : State := addFld NVS_ECC_CNT.CORR hit.length x
  have hwf1 : Regs.wf s1 = true := regs_wf_setFld _ _ _ hwf
  let s2 : State := (s1.nv.bad.filter scrubbed).foldl noteBad s1
  obtain ⟨hs2, hk2, hc2⟩ := foldl_noteBad (s1.nv.bad.filter scrubbed) hwf1
  have hnv2 : s2.nv = x.nv := (congrArg State.nv hs2 :)
  let s3 : State := hit.foldl scrubWord s2
  obtain ⟨hf3, hm3, -, hr3, -, hs3⟩ := foldl_scrubWord hit (x := s2) (by rw [hnv2]; exact (elapse_nv_worn t s).trans hw)
    (by rw [hnv2, show x.nv.mem = s.nv.mem from elapse_nv_mem t s]; exact hmem)
  have hnow : now s3 = now x := by
    have h3 : s3.clk = s2.clk := (congrArg State.clk hf3 :)
    have h2 : s2.clk = s1.clk := (congrArg State.clk hs2 :)
    rw [now, now, h3, h2]
    rfl
  let y : State := { s3 with nv := { s3.nv with scrubEnd := now s3 } }
  have hy : y = { x with regs := y.regs, nv := y.nv } := by
    have h3 : y = { s2 with nv := y.nv } := (congrArg (fun z : State => { z with nv := y.nv }) hf3 :)
    have hregs : y.regs = s2.regs := (congrArg State.regs h3 :)
    have h2 : ({ s2 with nv := y.nv } : State) = { s1 with regs := s2.regs, nv := y.nv } :=
      (congrArg (fun z : State => { z with nv := y.nv }) hs2 :)
    rw [hregs]
    exact h3.trans h2
  have hset : settles y (finish y) := finish_settles_of s y hl (by rw [hy]; exact elapse_lgr t s)
    (by rw [hy]; exact elapse_fold t s)
  have hnv : (finish y).nv = y.nv := settles_nv hset
  have hrun : exec (.scrubPass t) s = .next (finish y) := by
    refine (command_live t _ s hl).trans ?_
    rw [onlyIf, if_pos]
    · rfl
    · have hp : (elapse t s).pwr.st = .run := by simpa using hst
      have hen' : flag NVS_CTL.SCRUB_EN (elapse t s) = true := by simpa [flag] using hen
      simp only [hen', hp, hbuf, elapse_fld, show (elapse t s).nv.scrubEnd = s.nv.scrubEnd from elapse_nv_scrubEnd t s, hdue]
      decide
  have hregy : ∀ off, regGet off y = regGet off s2 := fun off => by
    have h3 : y.regs = s2.regs := (congrArg State.regs hf3 :)
    have h4 : y.part = s2.part := (congrArg State.part hf3 :)
    rw [regGet, regGet, h3, h4]
  have hkept : RegsKept [NVS_ECC_CNT.reg, NVS_ERR_ADDR.reg] x s2 :=
    RegsKept.trans (b := s1) (.setFld NVS_ECC_CNT.CORR _ x (by decide)) hk2
  refine ⟨_, hrun, ?_, fun a => ?_, ?_, ?_, ?_, ?_, fun off ho => ?_⟩
  · rw [settles_regs hset, hnv]
    exact hy ▸ hset
  · rw [hnv]
    exact (hm3 a).trans (congrArg (fun m => mget nvDflt m a)
      ((congrArg (fun n : Nv => n.mem) hnv2).trans (elapse_nv_mem t s)))
  · rw [hnv]
    exact hr3.trans ((congrArg (fun n : Nv => n.recs) hnv2).trans (elapse_nv_recs t s))
  · rw [hnv]
    have hsoft : s2.nv.soft = s.nv.soft := (congrArg (fun n : Nv => n.soft) hnv2).trans (elapse_nv_soft t s)
    have hhit : hit = s.nv.soft.filter scrubbed := congrArg (List.filter scrubbed) (elapse_nv_soft t s)
    refine (hs3.trans (by rw [hsoft])).trans (List.filter_congr fun a ha => ?_)
    rw [hhit]
    cases hb : scrubbed a <;> simp [ha, hb]
  · rw [hnv]
    exact hnow
  · have hfld : fld NVS_ECC_CNT.CORR (finish y) = fld NVS_ECC_CNT.CORR s2 := by
      rw [settles_fld hset, fld, fld, hregy]
    rw [hfld, show fld NVS_ECC_CNT.CORR s2 = fld NVS_ECC_CNT.CORR s1 from hc2]
    refine (fld_setFld_same NVS_ECC_CNT.CORR (by decide) _ x hwf).trans ?_
    rw [show fld NVS_ECC_CNT.CORR x = fld NVS_ECC_CNT.CORR s from elapse_fld _ t s,
      show hit = s.nv.soft.filter scrubbed from congrArg (List.filter scrubbed) (elapse_nv_soft t s)]
    exact Nat.mod_eq_of_lt (Nat.lt_of_le_of_lt (Nat.min_le_right _ _) (by decide))
  · rw [settles_regGet hset, hregy]
    exact (hkept.keeps off ho).trans (elapse_regGet off t s)

/-! ## VHOLD_MEASURE -/

/-- VHOLD_MEASURE (R346). -/
theorem vholdMeasure_shows (vhold vaon : Nat) (hl : live s = true) (hm : memorySafe s) (hi : islandOn .nvs s = true)
    (hdue : holdDue (elapse t s) = true) (hr : s.nv.ledgerReady = true) :
    ∃ s', exec (.vholdMeasure t vhold vaon) s = .next s' ∧
      recordsOnly [] [NVS_HOLD.reg, NVS_STATUS.reg]
        { elapse t s with
          nv := { (elapse t s).nv with holdWasLow := decide (vhold + 30 < vaon), holdAt := some (now (elapse t s)) } } s' ∧
      fld NVS_HOLD.HOLD_CV s' = min vhold 511 ∧ fld NVS_STATUS.HOLD_LOW s' = b2n (decide (vhold + 30 < vaon)) ∧
      (vaon ≤ vhold + 30 ∨ s.nv.holdWasLow = true →
        s'.lgr = s.lgr ∧ s'.hif = s.hif ∧ s'.nv.mem = s.nv.mem ∧ keepsRegs [NVS_HOLD.reg, NVS_STATUS.reg] s s') := by
  let low : Bool := decide (vhold + 30 < vaon)
  let x : State := { elapse t s with nv := { (elapse t s).nv with holdWasLow := low, holdAt := some (now (elapse t s)) } }
  have hwf : Regs.wf x = true := memorySafe_elapse_wf hm t
  let s1 : State := setFld NVS_HOLD.HOLD_CV (min vhold 511) (setFlag NVS_STATUS.HOLD_LOW low x)
  let y : State := if low && (false || !(elapse t s).nv.holdWasLow) then append 0x19 0 (min vhold 511) s1 else s1
  have hk : RegsKept [NVS_HOLD.reg, NVS_STATUS.reg] x s1 :=
    RegsKept.trans (b := setFlag NVS_STATUS.HOLD_LOW low x) (.setFld _ _ _ (by decide)) (.setFld _ _ _ (by decide))
  have hs1 : Recorded [] [NVS_HOLD.reg, NVS_STATUS.reg] x s1 :=
    Recorded.trans (b := setFlag NVS_STATUS.HOLD_LOW low x) (.setFld _ _ _ (by decide)) (.setFld _ _ _ (by decide))
  have hready : s1.nv.ledgerReady = true := (elapse_nv_ledgerReady t s).trans hr
  have hy1 : Recorded [] [] s1 y := by
    unfold y
    split
    · exact Recorded.append _ _ _ _ hready
    · exact .refl _
  have hrec : Recorded [] [NVS_HOLD.reg, NVS_STATUS.reg] x y := hs1.trans (hy1.mono (List.nil_subset _) (List.nil_subset _))
  have hset : settles y (finish y) := finish_settles_recorded hl (x := x) (congrArg Lgr.hostWait (elapse_lgr t s))
    (elapse_fold t s) hrec
  have hrun : exec (.vholdMeasure t vhold vaon) s = .next (finish y) := by
    refine (command_live t _ s hl).trans ?_
    have hie : islandOn .nvs (elapse t s) = true := by simpa [islandOn] using hi
    rw [onlyIf, if_pos (by rw [hie, hdue]; rfl)]
    rfl
  have hcv : fld NVS_HOLD.HOLD_CV s1 = min vhold 511 :=
    (fld_setFld_same NVS_HOLD.HOLD_CV (by decide) _ _ (regs_wf_setFld _ _ _ hwf)).trans
      (Nat.mod_eq_of_lt (Nat.lt_of_le_of_lt (Nat.min_le_right _ _) (by decide)))
  have hlow : fld NVS_STATUS.HOLD_LOW s1 = b2n low := by
    refine (fld_setFld_apart NVS_HOLD.HOLD_CV NVS_STATUS.HOLD_LOW (by decide) (by decide) _ _ (regs_wf_setFld _ _ _ hwf)).trans ?_
    refine (fld_setFld_same NVS_STATUS.HOLD_LOW (by decide) _ x hwf).trans ?_
    cases low <;> rfl
  refine ⟨_, hrun, recordsOnly_settles (hrec.recordsOnly rfl rfl rfl) hset, ?_, ?_, fun hquiet => ?_⟩
  · rw [settles_fld hset, hy1.fld _ (by decide), hcv]
  · rw [settles_fld hset, hy1.fld _ (by decide), hlow]
  · have hy : y = s1 := by
      refine if_neg ?_
      rcases hquiet with h | h
      · have hl0 : low = false := decide_eq_false (by omega)
        simp [hl0]
      · rw [show (elapse t s).nv.holdWasLow = true from (elapse_nv_holdWasLow t s).trans h]
        simp
    rw [hy] at hset ⊢
    refine ⟨(settles_lgr hset).trans (elapse_lgr t s), (settles_hif hset).trans (elapse_hif t s), ?_, fun off ho => ?_⟩
    · rw [settles_nv hset]
      exact elapse_nv_mem t s
    · rw [settles_regGet hset]
      exact (hk.keeps off ho).trans (elapse_regGet off t s)

end

/-- Settles O42: an increment counts or saturates, a scrub leaves the array as it reads, and VHOLD is shown. -/
theorem talliesAndArrayAreKept : Obligations.TalliesAndArrayAreKept := by
  unfold Obligations.TalliesAndArrayAreKept
  refine ⟨fun s t d v slot hs hrow hc hallow hp hstart ht => ⟨fun hlt hw => ?_, fun hv => ?_⟩, fun s t hl hm _ =>
    ⟨fun hen hst hbuf hw hdue => scrubPass_rewrites hl hm hen hst hbuf hw hdue, fun vhold vaon hi hdue hr =>
      vholdMeasure_shows vhold vaon hl hm hi hdue hr⟩⟩
  · exact tallyInc_counts hs hrow hc hallow hp hstart ht hlt hw
  · subst hv
    exact tallyInc_saturates hs hrow hallow hp hstart ht

end Sys2Proof.Machine
end

section
/-! SUPPORT. What records and events leave of the monitor: they add lines that echo events, nothing else (R423). -/
namespace Sys2Proof.Machine

/-- The monitor but for its output. -/
def quietMon (s : State) : Mon := { s.mon with out := [] }

/-- Between `s` and `s'` the monitor printed lines, nothing else of it changed. -/
def Echoed (s s' : State) : Prop := quietMon s' = quietMon s

theorem Echoed.refl (s : State) : Echoed s s := rfl

theorem Echoed.trans {a b c : State} (h1 : Echoed a b) (h2 : Echoed b c) : Echoed a c := Eq.trans h2 h1

/-- A step that leaves the monitor alone. -/
theorem Echoed.of_eq {a b : State} (h : b.mon = a.mon) : Echoed a b := by rw [Echoed, quietMon, quietMon, h]

variable (s : State)

/-! ## Events -/

theorem raiseVector_mon (n : Nat) : (raiseVector n s).mon = s.mon := by rw [raiseVector_eq]

theorem setFault_mon (f : Field) : (setFault f s).mon = s.mon := by
  unfold setFault
  split
  · rfl
  · exact raiseVector_mon _ 33

theorem deliver_mon (e : Evt) (b : Bool) : (deliver e b s).mon = s.mon := raiseVector_mon _ 32

theorem deliverList_mon (es : List Evt) : (deliverList es s).mon = s.mon := by
  induction es generalizing s with
  | nil => rfl
  | cons e es ih =>
    rw [deliverList]
    split
    · rw [ih, deliver_mon]
    · rfl

theorem deliverBacklog_mon : (deliverBacklog s).mon = s.mon := by
  have h1 := deliverList_mon s s.hif.backlog
  unfold deliverBacklog
  dsimp only
  split
  · split
    · exact (deliver_mon _ _ _).trans h1
    · exact h1
  · exact h1

theorem storeEvt_mon (e : Evt) : (storeEvt e s).mon = s.mon := by
  unfold storeEvt
  split
  · rfl
  · split
    · rfl
    · exact setFault_mon _ _

theorem Echoed.post (code status : Nat) (res : Bytes) : Echoed s (post code status res s) := by
  unfold Machine.post postAt postDet
  dsimp only
  generalize (Evt.mk code status _ _ _ _) = e
  have hecho : ∀ x, Echoed x (echoEvt e x) := by
    intro x
    unfold echoEvt
    split <;> rfl
  have h1 : Echoed s (deliverBacklog (echoEvt e { s with hif := { s.hif with evtSeq := s.hif.evtSeq + 1 } })) :=
    Echoed.trans (b := { s with hif := { s.hif with evtSeq := s.hif.evtSeq + 1 } }) rfl
      ((hecho _).trans (.of_eq (deliverBacklog_mon _)))
  refine h1.trans ?_
  split
  · exact .of_eq (deliver_mon _ _ _)
  · exact .of_eq (storeEvt_mon _ _)

theorem Echoed.lgrEvt (kind seq count : Nat) : Echoed s (lgrEvt kind seq count s) := by
  unfold Machine.lgrEvt
  split
  · exact .post _ _ _ _
  · exact .refl s

/-! ## Records -/

theorem nvWriteWord_mon (a : Nat) (bs : Bytes) : (nvWriteWord a bs s).1.mon = s.mon := by
  unfold nvWriteWord
  split <;> rfl

theorem lgrWrite_mon (a : Nat) (bs : Bytes) : (lgrWrite a bs s).mon = s.mon := by
  have h : ∀ (ws : List Nat) (x : State), (nvWriteWords a bs ws x).1.mon = x.mon := by
    intro ws
    induction ws with
    | nil => exact fun _ => rfl
    | cons w ws ih =>
      intro x
      unfold nvWriteWords
      dsimp only
      split
      · exact nvWriteWord_mon _ _ _
      · rw [ih, nvWriteWord_mon]
  exact h _ s

theorem sealBlock_mon (flagBits : Nat) : (sealBlock flagBits s).mon = s.mon := by
  have hpre : ∀ x, (preClear x).mon = x.mon := by
    intro x
    unfold preClear
    split
    · exact lgrWrite_mon _ _ _
    · rfl
  unfold sealBlock
  split
  · rfl
  · dsimp only
    split
    · exact (lgrWrite_mon _ _ _).trans (lgrWrite_mon _ _ _)
    · exact (hpre _).trans ((lgrWrite_mon _ _ _).trans (lgrWrite_mon _ _ _))

theorem Echoed.openBlock (wall : Nat) : Echoed s (openBlock wall s) := by
  have hif : ∀ (p : Prop) [Decidable p] (k q c : Nat) (x : State),
      Echoed x (if p then Machine.lgrEvt k q c x else x) := by
    intro p _ k q c x
    split
    · exact .lgrEvt _ _ _ _
    · exact .refl x
  unfold Machine.openBlock
  dsimp only
  generalize hx : Machine.lgrWrite (blockAddr s.lgr.next s) _ s = x
  have hsx : Echoed s x := .of_eq (hx ▸ lgrWrite_mon _ _ _)
  generalize hy : { x with lgr := Lgr.mk _ _ _ _ _ _ _ _ _ _ _ _ _ _ _ _ _ _ _ } = y
  have hsy : Echoed s y := hsx.trans (hy ▸ rfl)
  exact (hsy.trans (hif _ _ _ _ _)).trans (hif _ _ _ _ _)

theorem putRecord_mon (r : LRec) : (putRecord r s).mon = s.mon := by
  unfold putRecord
  split
  · rfl
  · dsimp only
    split
    · exact (sealBlock_mon _ 0).trans (lgrWrite_mon _ _ _)
    · exact lgrWrite_mon _ _ _

theorem Echoed.placeRecord (r : LRec) (isS : Bool) : Echoed s (placeRecord r isS s).1 := by
  have hbase : Echoed s (if needsNewBase r.wall (useCtl s) = true then sealBlock padTime (useCtl s) else useCtl s) := by
    split
    · exact .of_eq (sealBlock_mon _ _)
    · exact .refl s
  unfold Machine.placeRecord
  dsimp only
  generalize (if needsNewBase r.wall (useCtl s) = true then sealBlock padTime (useCtl s) else useCtl s) = y at hbase ⊢
  split
  · exact hbase.trans (.of_eq (putRecord_mon _ _))
  · split
    · exact (hbase.trans (.openBlock _ _)).trans (.of_eq (putRecord_mon _ _))
    · exact hbase

theorem Echoed.dropRecord : Echoed s (dropRecord s) := by
  unfold Machine.dropRecord
  dsimp only
  split
  · rfl
  · exact Echoed.trans rfl (.lgrEvt _ _ _ _)

theorem Echoed.reportLost : Echoed s (reportLost s) := by
  unfold Machine.reportLost
  split
  · exact .refl s
  · dsimp only
    split
    · exact (Echoed.placeRecord s _ _).trans rfl
    · exact .placeRecord s _ _

/-- A device record after recall. -/
theorem Echoed.append (typ src data : Nat) (hr : s.nv.ledgerReady = true) : Echoed s (append typ src data s) := by
  have hplace : ∀ r isS, Echoed s (Machine.placeRecord r isS (Machine.reportLost s)).1 := fun r isS =>
    (Echoed.reportLost s).trans (.placeRecord _ _ _)
  unfold Machine.append appendAt
  simp only [hr, if_true]
  unfold writeRecord
  split
  · exact .dropRecord s
  · dsimp only
    split
    · exact hplace _ _
    · exact (hplace _ _).trans (.dropRecord _)

end Sys2Proof.Machine
end

section
/-! SUPPORT. The monitor's unlock. -/
namespace Sys2Proof.Machine

section
variable {s : State} {t : Nat}

/-! ## A line is served -/

/-- The state in which a line's command runs (R422, R425). -/
def lineBegun (s : State) : State := bump MON_CNT.COMMANDS { s with mon := { s.mon with lastCmd := now s } }

/-- Whether a line is served does not hang on the tick. -/
theorem elapse_monServes (t : Nat) (s : State) : monServes (elapse t s) = monServes s := by
  have hret : isRetired (elapse t s) = isRetired s := by rw [isRetired, isRetired, elapse_lcState]
  have hact : monActive (elapse t s) = monActive s := by
    simp only [monActive, elapse_fld, elapse_mon, elapse_lcy, elapse_pwr, hret]
  have hbusy : droverBusy (elapse t s) = droverBusy s := by
    simp only [droverBusy, elapse_lcy, elapse_flk]
  simp only [monServes, hact, hbusy, elapse_mon]

/-- A line that Drover serves is its command's work. -/
theorem serveLine_served (k : State → State) (hl : live s = true) (hserve : monServes s = true) :
    command t (serveLine k) s = .next (finish (k (lineBegun (elapse t s)))) := by
  refine (command_live t _ s hl).trans ?_
  rw [serveLine, onlyIf, if_pos ((elapse_monServes t s).trans hserve)]
  rfl

/-- One that it does not serve does nothing. -/
theorem serveLine_unserved (k : State → State) (hl : live s = true) (hserve : monServes s = false) :
    ∃ s', command t (serveLine k) s = .next s' ∧ settles (elapse t s) s' := by
  refine ⟨finish (elapse t s), ?_, finish_settles_of s _ hl (elapse_lgr t s) (elapse_fold t s)⟩
  refine (command_live t _ s hl).trans ?_
  rw [serveLine, onlyIf, if_neg (by rw [elapse_monServes, hserve]; decide)]

/-- Its count touches MON_CNT only. -/
theorem lineBegun_kept (s : State) : RegsKept [MON_CNT.reg] s (lineBegun s) :=
  RegsKept.trans (b := { s with mon := { s.mon with lastCmd := now s } }) (.of_eq _ rfl rfl) (.bump _ _ (by decide))

/-- An answer is lines of the monitor. -/
theorem answer_eq (ls : List String) (x : State) :
    answer ls x = { x with mon := { x.mon with out := "bv> " :: (ls.reverse ++ x.mon.out) } } := by
  have h : ∀ (ls : List String) (x : State),
      ls.foldl (fun s l => say l s) x = { x with mon := { x.mon with out := ls.reverse ++ x.mon.out } } := by
    intro ls
    induction ls with
    | nil => exact fun _ => rfl
    | cons l ls ih =>
      intro x
      rw [List.foldl_cons, ih]
      simp [say]
  rw [answer, h]
  rfl

/-- What a command's line comes to when it leaves the ledger and the fold engine alone. -/
theorem line_settles (hl : live s = true) {x : State} (hlgr : x.lgr = (elapse t s).lgr) (hfold : x.fold = (elapse t s).fold) :
    settles x (finish x) :=
  finish_settles_of s x hl (hlgr.trans (elapse_lgr t s)) (hfold.trans (elapse_fold t s))

/-! ## MON_UNLOCK_NONCE -/

/-- A nonce is drawn (R425). -/
theorem monUnlockNonce_draws (hl : live s = true) (hserve : monServes s = true) (hlock : s.mon.lockout = none)
    (hst : rngState s = 2) :
    ∃ s', exec (.monUnlockNonce t) s = .next s' ∧
      s'.mon = { s.mon with
        lastCmd := now (elapse t s), nonce := some (freeBytes 16 (elapse t s), now (elapse t s))
        out := "bv> " :: ("OK " ++ hexBytes (freeBytes 16 (elapse t s))) :: s.mon.out } ∧
      settles { elapse t s with mon := s'.mon, regs := s'.regs, free := s.free + 16 } s' ∧
      keepsRegs [MON_CNT.reg, RNG_REQ_CNT.reg, RNG_STATUS.reg] s s' := by
  let x : State := lineBegun (elapse t s)
  obtain ⟨hdraw, hkeep⟩ := drawBytes_frame 16 x
  let y : State := answer ["OK " ++ hexBytes (freeBytes 16 x)]
    { (drawBytes 16 x).2 with mon := { (drawBytes 16 x).2.mon with nonce := some (freeBytes 16 x, now x) } }
  have hmon : y.mon = { s.mon with
      lastCmd := now (elapse t s), nonce := some (freeBytes 16 (elapse t s), now (elapse t s))
      out := "bv> " :: ("OK " ++ hexBytes (freeBytes 16 (elapse t s))) :: s.mon.out } := by
    have h1 : (drawBytes 16 x).2.mon = { (elapse t s).mon with lastCmd := now (elapse t s) } :=
      (congrArg State.mon hdraw :)
    show ({ (drawBytes 16 x).2.mon with
      nonce := some (freeBytes 16 (elapse t s), now (elapse t s))
      out := "bv> " :: ("OK " ++ hexBytes (freeBytes 16 (elapse t s))) :: (drawBytes 16 x).2.mon.out } : Mon) = _
    rw [h1, elapse_mon]
  have hy : y = { elapse t s with mon := y.mon, regs := y.regs, free := s.free + 16 } := by
    have h1 : y = { (drawBytes 16 x).2 with mon := y.mon } := rfl
    have h2 : ({ (drawBytes 16 x).2 with mon := y.mon } : State) =
        { elapse t s with mon := y.mon, regs := (drawBytes 16 x).2.regs, free := (elapse t s).free + 16 } :=
      (congrArg (fun z : State => { z with mon := y.mon }) hdraw :)
    rw [elapse_free] at h2
    exact h1.trans h2
  have hset : settles y (finish y) := line_settles (t := t) hl (by rw [hy]) (by rw [hy])
  have hrun : exec (.monUnlockNonce t) s = .next (finish y) := by
    refine (serveLine_served monNonce hl hserve).trans ?_
    have hnone : x.mon.lockout = none := (congrArg Mon.lockout (elapse_mon t s) :).trans hlock
    have hfail : drawFails x = none := by
      have h2 : rngState x = 2 := ((lineBegun_kept (elapse t s)).fld RNG_STATUS.STATE (by decide)).trans
        ((elapse_rngState t s).trans hst)
      rw [drawFails, if_pos h2]
    rw [monNonce, if_neg (by rw [show (lineBegun (elapse t s)).mon.lockout = none from hnone]; decide),
      show drawFails (lineBegun (elapse t s)) = none from hfail]
    rfl
  refine ⟨_, hrun, (settles_mon hset).trans hmon, ?_, fun off ho => ?_⟩
  · rw [settles_mon hset, settles_regs hset, ← hy]
    exact hset
  · have h1 : RegsKept [MON_CNT.reg, RNG_REQ_CNT.reg, RNG_STATUS.reg] (elapse t s) (drawBytes 16 x).2 :=
      ((lineBegun_kept _).mono (List.cons_subset_cons _ (List.nil_subset _))).trans
        (hkeep.mono (List.subset_cons_self _ _))
    have h2 : RegsKept [MON_CNT.reg, RNG_REQ_CNT.reg, RNG_STATUS.reg] (drawBytes 16 x).2 y := 
      RegsKept.of_eq _ (congrArg State.regs (answer_eq _ _) :) (congrArg State.part (answer_eq _ _) :)
    rw [settles_regGet hset]
    exact ((h1.trans h2).keeps off ho).trans (elapse_regGet off t s)

/-- During a lockout there is no nonce (R425). -/
theorem monUnlockNonce_refused (hl : live s = true) (hserve : monServes s = true) (hlock : s.mon.lockout.isSome = true) :
    ∃ s', exec (.monUnlockNonce t) s = .next s' ∧ s'.mon.nonce = s.mon.nonce ∧ s'.free = s.free ∧
      s'.mon.out = "bv> " :: "ERR 06" :: s.mon.out := by
  let y : State := noAccess (lineBegun (elapse t s))
  have hset : settles y (finish y) := line_settles (t := t) hl rfl rfl
  have hmon : (lineBegun (elapse t s)).mon = { s.mon with lastCmd := now (elapse t s) } := by
    rw [← elapse_mon t s]
    rfl
  have hrun : exec (.monUnlockNonce t) s = .next (finish y) := by
    refine (serveLine_served monNonce hl hserve).trans ?_
    rw [monNonce, if_pos (by rw [hmon]; exact hlock)]
  refine ⟨_, hrun, ?_, (settles_free hset).trans (elapse_free t s), ?_⟩
  · rw [settles_mon hset]
    exact (congrArg Mon.nonce hmon :)
  · rw [settles_mon hset]
    exact (congrArg (fun m : Mon => "bv> " :: "ERR 06" :: m.out) hmon :)

/-! ## MON_UNLOCK -/

/-- And no attempt. -/
theorem monUnlock_refused (hl : live s = true) (hserve : monServes s = true) (hlock : s.mon.lockout.isSome = true)
    {sig : Bytes} (hlen : sig.length = 64) :
    ∃ s', exec (.monUnlock t sig) s = .next s' ∧ s'.mon.unlocked = s.mon.unlocked ∧ s'.mon.fails = s.mon.fails ∧
      s'.mon.out = "bv> " :: "ERR 06" :: s.mon.out := by
  let y : State := noAccess (lineBegun (elapse t s))
  have hset : settles y (finish y) := line_settles (t := t) hl rfl rfl
  have hmon : (lineBegun (elapse t s)).mon = { s.mon with lastCmd := now (elapse t s) } := by
    rw [← elapse_mon t s]
    rfl
  have hrun : exec (.monUnlock t sig) s = .next (finish y) := by
    refine (serveLine_served (monUnlock sig) hl hserve).trans ?_
    rw [monUnlock, if_neg (not_not.mpr hlen), if_pos (by rw [hmon]; exact hlock)]
  refine ⟨_, hrun, ?_, ?_, ?_⟩
  · rw [settles_mon hset]
    exact (congrArg Mon.unlocked hmon :)
  · rw [settles_mon hset]
    exact (congrArg Mon.fails hmon :)
  · rw [settles_mon hset]
    exact (congrArg (fun m : Mon => "bv> " :: "ERR 06" :: m.out) hmon :)

/-- A signature of the wrong length is a bad argument (R423). -/
theorem monUnlock_badArg (hl : live s = true) (hserve : monServes s = true) {sig : Bytes} (hlen : sig.length ≠ 64) :
    ∃ s', exec (.monUnlock t sig) s = .next s' ∧
      s'.mon = { s.mon with lastCmd := now (elapse t s), out := "bv> " :: "ERR 02" :: s.mon.out } := by
  let y : State := badArg (lineBegun (elapse t s))
  have hset : settles y (finish y) := line_settles (t := t) hl rfl rfl
  have hrun : exec (.monUnlock t sig) s = .next (finish y) := by
    refine (serveLine_served (monUnlock sig) hl hserve).trans ?_
    rw [monUnlock, if_pos hlen]
  refine ⟨_, hrun, (settles_mon hset).trans ?_⟩
  rw [← elapse_mon t s]
  rfl

/-- What an attempt has counted before its record (R425). -/
def attempted (ok : Bool) (x : State) : State :=
  let y := if x.mon.nonce.isSome && (fleetKey x).isSome then countVerify ok x else x
  { y with mon := { y.mon with nonce := none } }

/-- A verification's counts touch their registers only. -/
theorem attempted_recorded (ok : Bool) (x : State) :
    Recorded [] [MON_CNT.reg, CRY_PKE_CNT.reg, CRY_CNT1.reg] x (attempted ok x) ∧
      (attempted ok x).mon = { x.mon with nonce := none } := by
  have hcount : Recorded [] [MON_CNT.reg, CRY_PKE_CNT.reg, CRY_CNT1.reg] x
      (if (x.mon.nonce.isSome && (fleetKey x).isSome) = true then countVerify ok x else x) ∧
      (if (x.mon.nonce.isSome && (fleetKey x).isSome) = true then countVerify ok x else x).mon = x.mon := by
    split
    · unfold countVerify
      dsimp only
      split
      · exact ⟨Recorded.bump _ _ (by decide), rfl⟩
      · exact ⟨(Recorded.bump CRY_PKE_CNT.VERIFY x (by decide)).trans (Recorded.bump CRY_CNT1.MAC_FAIL _ (by decide)), rfl⟩
    · exact ⟨.refl x, rfl⟩
  have hmon : ∀ y : State, Recorded [] [MON_CNT.reg, CRY_PKE_CNT.reg, CRY_CNT1.reg] y
      { y with mon := { y.mon with nonce := none } } := fun y =>
    ⟨rfl, RegsKept.of_eq _ rfl rfl, HostKept.of_eq rfl rfl, ArrayKept.of_eq _ rfl rfl, rfl⟩
  refine ⟨hcount.1.trans (hmon _), ?_⟩
  show ({ State.mon _ with nonce := none } : Mon) = _
  rw [hcount.2]

/-- The state after an attempt's record: recorded, and the monitor as it was but for its nonce and its output. -/
theorem attempt_recorded (ok : Bool) {x : State} (hr : x.nv.ledgerReady = true) :
    let y := append 0x53 (b2n ok) 0 (attempted ok x)
    Recorded [] [MON_CNT.reg, CRY_PKE_CNT.reg, CRY_CNT1.reg] x y ∧ quietMon y = { x.mon with nonce := none, out := [] } ∧
      ∀ f : Field, f.off = MON_CNT.reg → fld f y = fld f x := by
  intro y
  obtain ⟨hrec, hmon⟩ := attempted_recorded ok x
  have hready : (attempted ok x).nv.ledgerReady = true := hrec.ledgerReady.trans hr
  have happ : Recorded [] [] (attempted ok x) y := Recorded.append _ _ _ _ hready
  refine ⟨hrec.trans (happ.mono (List.nil_subset _) (List.nil_subset _)), ?_, fun f hf => ?_⟩
  · have hecho : Echoed (attempted ok x) y := .append _ _ _ _ hready
    refine Eq.trans hecho ?_
    rw [quietMon, hmon]
  · have h1 : fld f y = fld f (attempted ok x) := happ.fld f (by rw [hf]; decide)
    have h2 : RegsKept [CRY_PKE_CNT.reg, CRY_CNT1.reg] x (attempted ok x) := by
      have h3 : RegsKept [CRY_PKE_CNT.reg, CRY_CNT1.reg] x
          (if (x.mon.nonce.isSome && (fleetKey x).isSome) = true then countVerify ok x else x) := by
        split
        · unfold countVerify
          dsimp only
          split
          · exact .bump _ _ (by decide)
          · exact RegsKept.trans (b := bump CRY_PKE_CNT.VERIFY x) (.bump _ _ (by decide)) (.bump _ _ (by decide))
        · exact .refl _ x
      exact ⟨fun off ho => h3.keeps off ho, fun hw => h3.wf hw⟩
    exact h1.trans (h2.fld f (by rw [hf]; decide))

/-- An attempt passes when its nonce is fresh and the fleet key verifies it (R425). -/
theorem unlockOk_iff (sig : Bytes) (x : State) : unlockOk sig x = true ↔
    ∃ n since key, x.mon.nonce = some (n, since) ∧ now x < since + secTicks 60 ∧ fleetKey x = some key ∧
      ecdsaVerify key (sha256 (unlockMsg n)) sig = true := by
  unfold unlockOk
  constructor
  · intro h
    split at h
    · next n since key hn hk =>
      simp only [Bool.and_eq_true, decide_eq_true_eq] at h
      exact ⟨n, since, key, hn, h.1, hk, h.2⟩
    · cases h
  · rintro ⟨n, since, key, hn, hlt, hk, hv⟩
    simp only [hn, hk, hlt, hv, decide_true, Bool.and_self]

/-- An attempt (R425). -/
theorem monUnlock_attempts (hl : live s = true) (hm : memorySafe s) (hserve : monServes s = true) {sig : Bytes}
    (hlen : sig.length = 64) (hlock : s.mon.lockout = none) (hr : s.nv.ledgerReady = true) :
    let ok : Prop := ∃ n x key, s.mon.nonce = some (n, x) ∧ now (elapse t s) < x + secTicks 60 ∧ fleetKey s = some key ∧
      ecdsaVerify key (sha256 (unlockMsg n)) sig = true
    ∃ s', exec (.monUnlock t sig) s = .next s' ∧ s'.mon.nonce = none ∧ s'.mon.lastCmd = now (elapse t s) ∧
      recordsOnly [] [MON_CNT.reg, CRY_PKE_CNT.reg, CRY_CNT1.reg] (elapse t s) s' ∧
      (ok → s'.mon.unlocked = true ∧ s'.mon.fails = 0 ∧ s'.mon.lockout = none ∧ s'.mon.out.take 2 = ["bv> ", "OK"] ∧
        fld MON_CNT.UNLOCKS s' = sat MON_CNT.UNLOCKS.width (fld MON_CNT.UNLOCKS s + 1)) ∧
      (¬ ok → s'.mon.unlocked = s.mon.unlocked ∧ s'.mon.fails = min (s.mon.fails + 1) 3 ∧
        s'.mon.lockout = (if s.mon.fails < 2 then none else some (now (elapse t s))) ∧
        s'.mon.out.take 2 = ["bv> ", "ERR 21"] ∧
        fld MON_CNT.UNLOCK_FAIL s' = sat MON_CNT.UNLOCK_FAIL.width (fld MON_CNT.UNLOCK_FAIL s + 1)) := by
  intro ok
  let x : State := lineBegun (elapse t s)
  let b : Bool := unlockOk sig x
  let y : State := append 0x53 (b2n b) 0 (attempted b x)
  let z : State := if b then unlockPasses y else unlockFails y
  have hxmon : x.mon = { s.mon with lastCmd := now (elapse t s) } := by
    rw [← elapse_mon t s]
    rfl
  have hxkey : fleetKey x = fleetKey s := by
    rw [← elapse_fleetKey t s]
    rfl
  have hok : b = true ↔ ok := by
    show unlockOk sig x = true ↔ _
    rw [unlockOk_iff, hxmon, hxkey]
    rfl
  have hwf0 : Regs.wf (elapse t s) = true := memorySafe_elapse_wf hm t
  have hxrec : Recorded [] [MON_CNT.reg, CRY_PKE_CNT.reg, CRY_CNT1.reg] (elapse t s) x := by
    have h1 : Recorded [] [MON_CNT.reg, CRY_PKE_CNT.reg, CRY_CNT1.reg] (elapse t s)
        { elapse t s with mon := { (elapse t s).mon with lastCmd := now (elapse t s) } } :=
      ⟨rfl, RegsKept.of_eq _ rfl rfl, HostKept.of_eq rfl rfl, ArrayKept.of_eq _ rfl rfl, rfl⟩
    exact h1.trans (.bump _ _ (by decide))
  obtain ⟨hyrec, hymon, hyfld⟩ := attempt_recorded b (x := x) ((elapse_nv_ledgerReady t s).trans hr)
  have hnow : now y = now (elapse t s) := by
    have h1 : y.clk = x.clk := hyrec.clk
    rw [now, h1]
    rfl
  rw [hxmon] at hymon
  have hfields : y.mon.nonce = none ∧ y.mon.lastCmd = now (elapse t s) ∧ y.mon.unlocked = s.mon.unlocked ∧
      y.mon.fails = s.mon.fails ∧ y.mon.lockout = none :=
    ⟨(congrArg Mon.nonce hymon :), (congrArg Mon.lastCmd hymon :), (congrArg Mon.unlocked hymon :),
      (congrArg Mon.fails hymon :), (congrArg Mon.lockout hymon :).trans hlock⟩
  obtain ⟨hnonce, hlast, hunlocked, hfails, hlockout⟩ := hfields
  have hywf : Regs.wf y = true := (hxrec.trans hyrec).regs.wf hwf0
  have hcnt : ∀ f : Field, f.off = MON_CNT.reg → MON_CNT.COMMANDS.apart f = true → fld f y = fld f s := by
    intro f hf hapart
    rw [hyfld f hf]
    exact (fld_setFld_apart MON_CNT.COMMANDS f (by decide) hapart _ _ hwf0).trans (elapse_fld f t s)
  have hzrec : Recorded [] [MON_CNT.reg, CRY_PKE_CNT.reg, CRY_CNT1.reg] y z := by
    have hmon : ∀ m : Mon, Recorded [] [MON_CNT.reg, CRY_PKE_CNT.reg, CRY_CNT1.reg] y { y with mon := m } := fun m =>
      ⟨rfl, RegsKept.of_eq _ rfl rfl, HostKept.of_eq rfl rfl, ArrayKept.of_eq _ rfl rfl, rfl⟩
    have hsay : ∀ (w : State) (ls : List String), Recorded [] [MON_CNT.reg, CRY_PKE_CNT.reg, CRY_CNT1.reg] w
        (answer ls w) := by
      intro w ls
      have hline : ∀ (l : String) (v : State), Recorded [] [MON_CNT.reg, CRY_PKE_CNT.reg, CRY_CNT1.reg] v (say l v) :=
        fun l v => ⟨rfl, RegsKept.of_eq _ rfl rfl, HostKept.of_eq rfl rfl, ArrayKept.of_eq _ rfl rfl, rfl⟩
      refine Recorded.trans ?_ (hline "bv> " _)
      induction ls generalizing w with
      | nil => exact .refl w
      | cons l ls ih => exact (hline l w).trans (ih _)
    unfold z
    split
    · exact ((hmon _).trans (Recorded.bump MON_CNT.UNLOCKS _ (by decide))).trans (hsay _ _)
    · exact ((hmon _).trans (Recorded.bump MON_CNT.UNLOCK_FAIL _ (by decide))).trans (hsay _ _)
  have hall : Recorded [] [MON_CNT.reg, CRY_PKE_CNT.reg, CRY_CNT1.reg] (elapse t s) z := (hxrec.trans hyrec).trans hzrec
  have hset : settles z (finish z) := finish_settles_recorded hl (congrArg Lgr.hostWait (elapse_lgr t s))
    (elapse_fold t s) hall
  have hrun : exec (.monUnlock t sig) s = .next (finish z) := by
    refine (serveLine_served (monUnlock sig) hl hserve).trans ?_
    have hnone : ¬ (lineBegun (elapse t s)).mon.lockout.isSome = true := by
      rw [show (lineBegun (elapse t s)).mon = _ from hxmon, hlock]
      decide
    rw [monUnlock, if_neg (not_not.mpr hlen), if_neg hnone]
    rfl
  refine ⟨_, hrun, ?_, ?_, recordsOnly_settles (hall.recordsOnly rfl rfl rfl) hset, fun h => ?_, fun h => ?_⟩
  · rw [settles_mon hset]
    unfold z
    split
    · exact hnonce
    · exact hnonce
  · rw [settles_mon hset]
    unfold z
    split
    · exact hlast
    · exact hlast
  · have hz : z = unlockPasses y := if_pos (hok.mpr h)
    rw [hz] at hset ⊢
    rw [settles_mon hset, settles_fld hset]
    refine ⟨rfl, rfl, hlockout, rfl, ?_⟩
    refine (fld_bump_same MON_CNT.UNLOCKS (by decide) _ hywf).trans ?_
    exact congrArg (fun k => sat MON_CNT.UNLOCKS.width (k + 1)) (hcnt MON_CNT.UNLOCKS rfl (by decide))
  · have hz : z = unlockFails y := if_neg (fun hb => h (hok.mp hb))
    rw [hz] at hset ⊢
    rw [settles_mon hset, settles_fld hset]
    refine ⟨hunlocked, congrArg (fun k => min (k + 1) 3) hfails, ?_, rfl, ?_⟩
    · show (if y.mon.fails + 1 ≥ 3 then some (now y) else none) = _
      rw [hfails, hnow]
      by_cases h2 : s.mon.fails < 2
      · rw [if_neg (by omega), if_pos h2]
      · rw [if_pos (by omega), if_neg h2]
    · refine (fld_bump_same MON_CNT.UNLOCK_FAIL (by decide) _ hywf).trans ?_
      exact congrArg (fun k => sat MON_CNT.UNLOCK_FAIL.width (k + 1)) (hcnt MON_CNT.UNLOCK_FAIL rfl (by decide))

/-! ## The end of an unlock and of a lockout -/

/-- MON_IDLE_TIMEOUT (R425). -/
theorem monIdleTimeout_ends (hl : live s = true) (hu : s.mon.unlocked = true) :
    (s.mon.lastCmd + secTicks (fld MON_CTL.IDLE_S s) ≤ now (elapse t s) →
      ∃ s', exec (.monIdleTimeout t) s = .next s' ∧
        settles { elapse t s with mon := { s.mon with unlocked := false } } s') ∧
    (now (elapse t s) < s.mon.lastCmd + secTicks (fld MON_CTL.IDLE_S s) →
      ∃ s', exec (.monIdleTimeout t) s = .next s' ∧ settles (elapse t s) s') := by
  constructor
  · intro hdue
    refine ⟨finish { elapse t s with mon := { s.mon with unlocked := false } }, ?_, line_settles (t := t) hl rfl rfl⟩
    refine (command_live t _ s hl).trans ?_
    rw [onlyIf, if_pos (by simpa [hu] using hdue), endUnlock, elapse_mon]
  · intro hdue
    refine ⟨finish (elapse t s), ?_, line_settles (t := t) hl rfl rfl⟩
    refine (command_live t _ s hl).trans ?_
    rw [onlyIf, if_neg (by simpa [hu] using hdue)]

/-- MON_LOCKOUT_END (R425). -/
theorem monLockoutEnd_ends (hl : live s = true) {x : Nat} (hx : s.mon.lockout = some x) :
    (x + secTicks 300 ≤ now (elapse t s) →
      ∃ s', exec (.monLockoutEnd t) s = .next s' ∧
        settles { elapse t s with mon := { s.mon with lockout := none, fails := 0 } } s') ∧
    (now (elapse t s) < x + secTicks 300 → ∃ s', exec (.monLockoutEnd t) s = .next s' ∧ settles (elapse t s) s') := by
  have hx' : (elapse t s).mon.lockout = some x := by rw [elapse_mon, hx]
  constructor
  · intro hdue
    refine ⟨finish { elapse t s with mon := { s.mon with lockout := none, fails := 0 } }, ?_,
      line_settles (t := t) hl rfl rfl⟩
    refine (command_live t _ s hl).trans ?_
    rw [hx']
    simp only [onlyIf, decide_eq_true hdue, if_true]
    rw [endLockout, elapse_mon]
  · intro hdue
    refine ⟨finish (elapse t s), ?_, line_settles (t := t) hl rfl rfl⟩
    refine (command_live t _ s hl).trans ?_
    rw [hx']
    simp only [onlyIf, decide_eq_false (Nat.not_le.mpr hdue)]
    rfl

end

/-- Settles O59: a nonce, an attempt, and the ends of an unlock and of a lockout. -/
theorem monitorUnlocks : Obligations.MonitorUnlocks := by
  unfold Obligations.MonitorUnlocks
  intro s t hl hm hsh
  refine ⟨fun hserve => ⟨fun hlock hst => monUnlockNonce_draws hl hserve hlock hst,
      fun hlock => ⟨monUnlockNonce_refused hl hserve hlock, fun sig hlen => monUnlock_refused hl hserve hlock hlen⟩,
      fun sig hlen => monUnlock_badArg hl hserve hlen,
      fun sig hlen hlock hr => monUnlock_attempts hl hm hserve hlen hlock hr⟩,
    fun hserve => serveLine_unserved _ hl hserve, fun hu => monIdleTimeout_ends hl hu, fun x hx => monLockoutEnd_ends hl hx⟩

end Sys2Proof.Machine
end

section
/-! SUPPORT. The monitor's commands. -/
namespace Sys2Proof.Machine

section
variable {s : State} {t : Nat}

/-! ## Lines -/

/-- The monitor's access does not hang on the tick, nor on the line's own count. -/
theorem lineBegun_monAllowed (t : Nat) (s : State) : monAllowed (lineBegun (elapse t s)) = monAllowed s := by
  have h1 : lcState (lineBegun (elapse t s)) = lcState s := elapse_lcState t s
  have h2 : (lineBegun (elapse t s)).mon.unlocked = s.mon.unlocked := (congrArg Mon.unlocked (elapse_mon t s) :)
  rw [monAllowed, monAllowed, monOpen, monOpen, h1, h2]

/-- A line of a command that access lets through. -/
theorem lockedLine_allowed (k : State → State) (hl : live s = true) (hserve : monServes s = true)
    (ha : monAllowed s = true) : command t (lockedLine k) s = .next (finish (k (lineBegun (elapse t s)))) := by
  refine (serveLine_served _ hl hserve).trans ?_
  rw [if_pos ((lineBegun_monAllowed t s).trans ha)]

/-- A line that an answer ends, and what it leaves. -/
theorem answer_settles (hl : live s = true) (ls : List String) {x : State} (hlgr : x.lgr = s.lgr) (hfold : x.fold = s.fold) :
    settles { x with mon := { x.mon with out := "bv> " :: (ls.reverse ++ x.mon.out) } } (finish (answer ls x)) := by
  rw [answer_eq]
  exact finish_settles_of s _ hl hlgr hfold

/-- One that access refuses. -/
theorem lockedLine_refused (k : State → State) (hl : live s = true) (hserve : monServes s = true)
    (ha : monAllowed s = false) :
    ∃ s', command t (lockedLine k) s = .next s' ∧
      settles { lineBegun (elapse t s) with
        mon := { (lineBegun (elapse t s)).mon with out := "bv> " :: "ERR 06" :: (lineBegun (elapse t s)).mon.out } } s' := by
  refine ⟨_, (serveLine_served _ hl hserve).trans ?_, answer_settles hl ["ERR 06"] (x := lineBegun (elapse t s))
    (elapse_lgr t s) (elapse_fold t s)⟩
  rw [if_neg (by rw [lineBegun_monAllowed, ha]; decide)]
  rfl

/-- The end of a command after its folds and displaced appends: the lines. -/
theorem finish_settles_folds (x : State) : settles (settleFolds (flushDisplaced x)) (finish x) := by
  unfold finish
  refine Eq.trans ?_ (settleIslands_settles _)
  generalize settleIslands (settleFolds (flushDisplaced x)) = y
  unfold refreshDrive
  split <;> rfl

/-! ## What a line's count leaves as it reads -/

/-- A field outside MON_CNT reads alike. -/
theorem lineBegun_fld (f : Field) (hf : f.off ≠ MON_CNT.reg) : fld f (lineBegun (elapse t s)) = fld f (elapse t s) :=
  (lineBegun_kept _).fld f (by simpa using hf)

/-- And so does a field with the writes that wait for it. -/
theorem lineBegun_fldNow (f : Field) (hf : f.off ≠ MON_CNT.reg) :
    fldNow f (lineBegun (elapse t s)) = fldNow f (elapse t s) := by
  have hreg : regGet f.off (lineBegun (elapse t s)) = regGet f.off (elapse t s) :=
    (lineBegun_kept _).keeps f.off (by simpa using hf)
  have hheld : (lineBegun (elapse t s)).heldWr = (elapse t s).heldWr := rfl
  simp only [fldNow, regNow, hheld]
  split
  · next p _ => rw [heldWord, heldWord, hreg]
  · rw [hreg]

/-- A present leaf's index. -/
theorem leafIndex_lt {node i : Nat} (h : leafIndex node = some i) : i < 136 := by
  unfold leafIndex at h
  split at h
  · simp only [Option.some.injEq] at h; omega
  · split at h
    · simp only [Option.some.injEq] at h; omega
    · split at h
      · simp only [Option.some.injEq] at h; omega
      · cases h

/-- A leaf's record does not hang on the line. -/
theorem lineBegun_leafRecord (tr : Tree) {i : Nat} (level : Nat) (hi : i < 136) :
    leafRecord tr i level (lineBegun (elapse t s)) = leafRecord tr i level (elapse t s) := by
  have hch : ∀ f : Field, f.off = 0x0C00 + 8 * i ∨ f.off = 0x0C04 + 8 * i →
      fldNow f (lineBegun (elapse t s)) = fldNow f (elapse t s) ∧ fld f (lineBegun (elapse t s)) = fld f (elapse t s) := by
    intro f hf
    have hne : f.off ≠ MON_CNT.reg := by
      simp only [MON_CNT.reg]
      omega
    exact ⟨lineBegun_fldNow f hne, lineBegun_fld f hne⟩
  have hen : leafEn i (lineBegun (elapse t s)) = leafEn i (elapse t s) := by
    have hport : (UWB_PORTn_CFG.EN (i - 132)).off ≠ MON_CNT.reg := by
      simp only [UWB_PORTn_CFG.EN, MON_CNT.reg]
      omega
    simp only [leafEn, (hch (LFE_CHn_CFG.EN i) (.inl rfl)).1, lineBegun_fldNow LFE_COIL_CTL.EN (by decide),
      lineBegun_fldNow _ hport]
  simp only [leafRecord, hen, trimOf, flag, (hch (LFE_CHn_CFG.NET i) (.inl rfl)).1, (hch (LFE_CHn_STAT.FF i) (.inr rfl)).2,
    (hch (LFE_CHn_STAT.RESULT i) (.inr rfl)).2, (hch (LFE_CHn_STAT.FRES i) (.inr rfl)).2,
    (hch (LFE_CHn_STAT.Q i) (.inr rfl)).2, (hch (LFE_CHn_CFG.DUTY i) (.inl rfl)).1,
    (hch (LFE_CHn_CFG.TRIM i) (.inl rfl)).1, (hch (LFE_CHn_CFG.POS i) (.inl rfl)).1]
  rfl

/-- Nor does a fold's. -/
theorem lineBegun_foldRecord (tr : Tree) (f level : Nat) :
    foldRecord tr f level (lineBegun (elapse t s)) = foldRecord tr f level (elapse t s) := by
  simp only [foldRecord, lineBegun_fld FLD_GEN.GEN (by decide)]
  rfl

/-- Nor do the records of a subtree. -/
theorem lineBegun_preorder (tr : Tree) (n f level : Nat) :
    tr.preorder (lineBegun (elapse t s)) n f level = tr.preorder (elapse t s) n f level := by
  induction n generalizing f level with
  | zero => rfl
  | succ n ih =>
    have hleaf : (tr.leafMembers f).map (fun i => leafRecord tr i (level + 1) (lineBegun (elapse t s))) =
        (tr.leafMembers f).map (fun i => leafRecord tr i (level + 1) (elapse t s)) :=
      List.map_congr_left fun i hi => lineBegun_leafRecord tr (level + 1)
        (List.mem_range.mp (List.mem_of_mem_filter hi))
    simp only [Tree.preorder, lineBegun_foldRecord, hleaf, ih]

/-- Nor does a snapshot (R177). -/
theorem lineBegun_snapshot (tr : Tree) (node : Nat) :
    snapshot tr node (lineBegun (elapse t s)) = snapshot tr node (elapse t s) := by
  unfold snapshot
  split
  · next i _ h => rw [lineBegun_leafRecord tr 0 (leafIndex_lt h)]
  · exact lineBegun_preorder tr 9 _ 0
  · rfl

/-- Counters read the NV store alone. -/
theorem tally_of_nv (c : Nat) {a b : State} (h : a.nv = b.nv) : tally c a = tally c b :=
  tally_congr c fun i _ => cellVal_congr c i (fun _ _ => by rw [h]) (by rw [h])

/-- What INFO shows is told from the state before the line. -/
theorem lineBegun_infoText (t : Nat) (s : State) : infoText (lineBegun (elapse t s)) = infoText s := by
  have hnv : (lineBegun (elapse t s)).nv = (elapse t s).nv := rfl
  have htally : ∀ c, tally c (lineBegun (elapse t s)) = tally c s := fun c =>
    (tally_of_nv c hnv).trans (elapse_tally c t s)
  have hrec : ∀ id, recRead id (lineBegun (elapse t s)) = recRead id s := fun id => by
    rw [← elapse_recRead id t s, recRead, recGet, hnv]
    rfl
  have hmin : minVer (lineBegun (elapse t s)) = minVer s := by rw [minVer, minVer, tallyVal, tallyVal, htally]
  have hlc : lcState (lineBegun (elapse t s)) = lcState s := elapse_lcState t s
  have hvalid : ∀ b, bankValid b (lineBegun (elapse t s)) = bankValid b s := fun b => by simp only [bankValid, hrec]
  have hver : ∀ b, bankVersion b (lineBegun (elapse t s)) = bankVersion b s := fun b => by
    simp only [bankVersion, hvalid, hrec]
  have hboot : ∀ b, bootable b (lineBegun (elapse t s)) = bootable b s := fun b => by
    simp only [bootable, hvalid, hmin, hver]
  have hlcy : (lineBegun (elapse t s)).lcy = s.lcy := elapse_lcy t s
  have hpart : (lineBegun (elapse t s)).part = s.part := elapse_part t s
  unfold infoText
  rw [hlc, hboot, hboot, hver, hver, hmin, hlcy, hpart]

/-! ## Commands -/

/-- MON_RD (R423). -/
theorem monRd_shows (hl : live s = true) (hserve : monServes s = true) (ha : monAllowed s = true) (addr count : Nat) :
    ∃ s', exec (.monRd t addr count) s = .next s' ∧
      (0 < count → count ≤ 64 → addr + 4 * count ≤ 0x4000 →
        settles (answer ["OK" ++ String.join ((barReads count addr (lineBegun (elapse t s))).1.map
          (fun w => " " ++ hexNat 8 w.toNat))] (barReads count addr (lineBegun (elapse t s))).2) s') ∧
      (count = 0 ∨ 64 < count ∨ 0x4000 < addr + 4 * count → settles (answer ["ERR 02"] (lineBegun (elapse t s))) s') := by
  have hrun := lockedLine_allowed (t := t) (monRd addr count) hl hserve ha
  have hread : ∀ (n off : Nat) (x : State), (barReads n off x).2.lgr = x.lgr ∧ (barReads n off x).2.fold = x.fold := by
    intro n
    induction n with
    | zero => exact fun _ _ => ⟨rfl, rfl⟩
    | succ n ih =>
      intro off x
      obtain ⟨h1, h2⟩ := ih (off + 4) (barLatch off x)
      have hlatch : (barLatch off x).lgr = x.lgr ∧ (barLatch off x).fold = x.fold := by
        unfold barLatch
        split <;> exact ⟨rfl, rfl⟩
      exact ⟨h1.trans hlatch.1, h2.trans hlatch.2⟩
  obtain ⟨h1, h2⟩ := hread count addr (lineBegun (elapse t s))
  refine ⟨_, hrun, fun hlo hhi hend => ?_, fun hbad => ?_⟩
  · rw [monRd, if_neg (by omega)]
    rw [answer_eq]
    exact finish_settles_of s _ hl (h1.trans (elapse_lgr t s)) (h2.trans (elapse_fold t s))
  · rw [monRd, if_pos (by omega), badArg, answer_eq]
    exact finish_settles_of s _ hl (elapse_lgr t s) (elapse_fold t s)

/-- MON_WR (R423). -/
theorem monWr_shows (hl : live s = true) (hserve : monServes s = true) (ha : monAllowed s = true) (addr : Nat) (value : Word) :
    ∃ s', exec (.monWr t addr value) s = .next s' ∧
      (addr < 0x2C00 →
        settles (settleFolds (flushDisplaced (answer ["OK"] (barWrite addr value (lineBegun (elapse t s)))))) s') ∧
      (0x2C00 ≤ addr → addr < 0x4000 → settles (answer ["ERR 06"] (lineBegun (elapse t s))) s') ∧
      (0x4000 ≤ addr → settles (answer ["ERR 02"] (lineBegun (elapse t s))) s') := by
  refine ⟨_, lockedLine_allowed (t := t) (monWr addr value) hl hserve ha, fun hlow => ?_, fun hlo hhi => ?_, fun hhi => ?_⟩
  · rw [monWr, if_neg (by omega), if_neg (by omega)]
    exact finish_settles_folds _
  · rw [monWr, if_neg (by omega), if_pos hlo, noAccess, answer_eq]
    exact finish_settles_of s _ hl (elapse_lgr t s) (elapse_fold t s)
  · rw [monWr, if_pos (by omega), badArg, answer_eq]
    exact finish_settles_of s _ hl (elapse_lgr t s) (elapse_fold t s)

/-- MON_BUF (R423). -/
theorem monBuf_shows (hl : live s = true) (hm : memorySafe s) (hserve : monServes s = true) (ha : monAllowed s = true)
    (off : Nat) (bs : Bytes) :
    ∃ s', exec (.monBuf t off bs) s = .next s' ∧
      (bs ≠ [] → bs.length ≤ 64 → off + bs.length ≤ 4096 →
        settles (answer ["OK"] { lineBegun (elapse t s) with monMem := s'.monMem }) s' ∧
        mread zeroByte s'.monMem off bs.length = bs ∧
        ∀ a, a < off ∨ off + bs.length ≤ a → mget zeroByte s'.monMem a = mget zeroByte s.monMem a) ∧
      (bs = [] → off < 4096 →
        settles (answer ["OK " ++ hexBytes (mread zeroByte s.monMem off (min 64 (4096 - off)))] (lineBegun (elapse t s))) s') ∧
      (4096 ≤ off ∨ 64 < bs.length ∨ 4096 < off + bs.length →
        settles (answer ["ERR 02"] (lineBegun (elapse t s))) s') := by
  have hmem : (lineBegun (elapse t s)).monMem = s.monMem := elapse_monMem t s
  refine ⟨_, lockedLine_allowed (t := t) (monBuf off bs) hl hserve ha, fun hne h64 hend => ?_, fun hnil hoff => ?_,
    fun hbad => ?_⟩
  · have hpos : 0 < bs.length := List.length_pos_iff.mpr hne
    let x : State := { lineBegun (elapse t s) with monMem := mwrite zeroByte s.monMem off bs }
    have hrun : monBuf off bs (lineBegun (elapse t s)) = answer ["OK"] x := by
      rw [monBuf, if_neg (by omega), if_neg (by simpa using hne), hmem]
    have hset : settles (answer ["OK"] x) (finish (answer ["OK"] x)) := by
      rw [answer_eq]
      exact finish_settles_of s _ hl (elapse_lgr t s) (elapse_fold t s)
    have hnew : (finish (answer ["OK"] x)).monMem = mwrite zeroByte s.monMem off bs := by
      rw [settles_monMem hset, answer_eq]
    rw [hrun, hnew]
    obtain ⟨-, -, hwf, -⟩ := hm
    exact ⟨hset, mread_mwrite zeroByte bs off hwf, fun a ha' => mget_mwrite_out zeroByte bs off a _ ha'⟩
  · subst hnil
    have hrun : monBuf off [] (lineBegun (elapse t s)) =
        answer ["OK " ++ hexBytes (mread zeroByte s.monMem off (min 64 (4096 - off)))] (lineBegun (elapse t s)) := by
      rw [monBuf, if_neg (by simp; omega), ← hmem]
      rfl
    rw [hrun, answer_eq]
    exact finish_settles_of s _ hl (elapse_lgr t s) (elapse_fold t s)
  · rw [monBuf, if_pos (by omega), badArg, answer_eq]
    exact finish_settles_of s _ hl (elapse_lgr t s) (elapse_fold t s)

/-- The checks of R119 read the part, the fold tree and the lifecycle. -/
theorem check119_congr {d : Desc} {a b : State} (hp : a.part = b.part) (hf : a.fold = b.fold) (hlc : lcState a = lcState b) :
    check119 d a = check119 d b := by
  have hnode : ∀ n, nodeExists n a = nodeExists n b := by
    intro n
    simp only [nodeExists, leafPresent, hp, hf]
  have htarget : targetBad d a = targetBad d b := by simp only [targetBad, hnode]
  have hop : opPresent d.opcode a = opPresent d.opcode b := by rw [opPresent, opPresent, hp]
  rw [check119, check119, hop, hlc, htarget]

/-- MON_DESC (R15, R119, R423). -/
theorem monDesc_hands (hl : live s = true) (hserve : monServes s = true) (ha : monAllowed s = true) {bs : Bytes}
    (hlen : bs.length = 64) (hst : s.pwr.st = .run)
    (hc : check119 (descOf .monitor 0 s.hif.dispNo bs) (elapse t s) = none)
    (hmode : modeBad (descOf .monitor 0 s.hif.dispNo bs) = none) :
    ∃ s', exec (.monDesc t bs) s = .next s' ∧
      settles { lineBegun (elapse t s) with
        mon := { (lineBegun (elapse t s)).mon with desc := some (descOf .monitor 0 s.hif.dispNo bs) }
        hif := { s.hif with
          dispNo := s.hif.dispNo + 1, turn := 32
          flight := s.hif.flight ++ [⟨descOf .monitor 0 s.hif.dispNo bs, false, false, now (elapse t s)⟩] } } s' := by
  let d : Desc := descOf .monitor 0 s.hif.dispNo bs
  let x : State := droverTurn { lineBegun (elapse t s) with
    mon := { (lineBegun (elapse t s)).mon with desc := some d }
    hif := { s.hif with dispNo := s.hif.dispNo + 1 } }
  have hhif : (lineBegun (elapse t s)).hif = s.hif := elapse_hif t s
  have hexit : exitRun 0 x = x := by
    have hent : x.pwr.entering = none := (congrArg Pwr.entering (elapse_pwr t s) :).trans (live_entering hl)
    have hrun : x.pwr.st = .run := (congrArg Pwr.st (elapse_pwr t s) :).trans hst
    have hset : setSrc 0 x = x := rfl
    unfold exitRun
    simp only [hent, Option.isSome_none, Bool.false_eq_true, if_false, hrun, hset, ite_self]
  have hcheck : check119 d x = none := (check119_congr (b := elapse t s) rfl rfl rfl).trans hc
  refine ⟨_, (lockedLine_allowed (t := t) (monDesc bs) hl hserve ha).trans ?_,
    finish_settles_of s _ hl (elapse_lgr t s) (elapse_fold t s)⟩
  have hunit : monDesc bs (lineBegun (elapse t s)) = enterFlight d x := by
    simp only [monDesc, hlen, ne_eq, not_true, if_false, hhif]
    rw [show exitRun 0 (droverTurn { lineBegun (elapse t s) with
      mon := { (lineBegun (elapse t s)).mon with desc := some (descOf .monitor 0 s.hif.dispNo bs) }
      hif := { s.hif with dispNo := s.hif.dispNo + 1 } }) = x from hexit]
    rw [show check119 (descOf .monitor 0 s.hif.dispNo bs) x = none from hcheck]
    simp only [hmode]
    rfl
  rw [hunit]
  have hfw : (opFirmware d.opcode && isHost d) = false := by
    show (opFirmware d.opcode && false) = false
    exact Bool.and_false _
  simp only [enterFlight, hfw, Bool.false_eq_true, if_false]
  rfl

/-- MON_FOLDS of a node (R177, R423). -/
theorem monFolds_shows (hl : live s = true) (hserve : monServes s = true) (ha : monAllowed s = true) (n : Nat) :
    ∃ s', exec (.monFolds t (some n)) s = .next s' ∧
      (nodeExists n s = true →
        settles (answer (okLines (snapshot s.fold.live n (elapse t s))) (bump FLD_CNT.OPS (lineBegun (elapse t s)))) s') ∧
      (nodeExists n s = false →
        settles (answer ["ERR 05"] (bump HIF_VIOL_CNT.DESC (lineBegun (elapse t s)))) s') := by
  have hfold : (lineBegun (elapse t s)).fold = s.fold := elapse_fold t s
  have hpart : (lineBegun (elapse t s)).part = s.part := elapse_part t s
  have hnode : nodeExists n (lineBegun (elapse t s)) = nodeExists n s := by
    simp only [nodeExists, leafPresent, hfold, hpart]
  refine ⟨_, lockedLine_allowed (t := t) (monFolds (some n)) hl hserve ha, fun h => ?_, fun h => ?_⟩
  · simp only [monFolds, hnode, h, if_true, lineBegun_snapshot, hfold]
    rw [answer_eq]
    exact finish_settles_of s _ hl (elapse_lgr t s) (elapse_fold t s)
  · simp only [monFolds, hnode, h, Bool.false_eq_true, if_false]
    have hfail : monFails stBadFold (lineBegun (elapse t s)) =
        answer ["ERR 05"] (bump HIF_VIOL_CNT.DESC (lineBegun (elapse t s))) := rfl
    rw [hfail, answer_eq]
    exact finish_settles_of s _ hl (elapse_lgr t s) (elapse_fold t s)

/-- MON_FOLDS of every top fold. -/
theorem monFolds_showsAll (hl : live s = true) (hserve : monServes s = true) (ha : monAllowed s = true) :
    ∃ s', exec (.monFolds t none) s = .next s' ∧
      settles (answer (okLines ((topFolds s.fold.live).map (fun f => snapshot s.fold.live (0x100 + f) (elapse t s))).flatten)
        (addFld FLD_CNT.OPS (topFolds s.fold.live).length (lineBegun (elapse t s)))) s' := by
  have hfold : (lineBegun (elapse t s)).fold = s.fold := elapse_fold t s
  refine ⟨_, lockedLine_allowed (t := t) (monFolds none) hl hserve ha, ?_⟩
  simp only [monFolds, hfold, lineBegun_snapshot]
  rw [answer_eq]
  exact finish_settles_of s _ hl (elapse_lgr t s) (elapse_fold t s)

/-- Blocks are where they were. -/
theorem lineBegun_readRange (n q : Nat) (b : Bool) :
    readRange b (lineBegun (elapse t s)) n q = readRange b s n q := by
  have h : ∀ x : State, readRange b (lineBegun x) n q = readRange b x n q := by
    intro x
    induction n generalizing q with
    | zero => rfl
    | succ n ih =>
      have hseq : seqAt q (lineBegun x) = seqAt q x := rfl
      have hlgr : (lineBegun x).lgr = x.lgr := rfl
      simp only [readRange, lgrTail, hseq, hlgr, ih]
  have he : readRange b (elapse t s) n q = readRange b s n q := by
    clear h
    induction n generalizing q with
    | zero => rfl
    | succ n ih =>
      have hseq : seqAt q (elapse t s) = seqAt q s := by
        rw [elapse_eq]
        rfl
      simp only [readRange, lgrTail, hseq, elapse_lgr, ih]
  exact (h _).trans he

/-- MON_LEDGER (R380, R384, R423). -/
theorem monLedger_shows (hl : live s = true) (hserve : monServes s = true) (ha : monAllowed s = true) (q count : Nat) :
    ∃ s', exec (.monLedger t q count) s = .next s' ∧
      (0 < count → count ≤ 16 → s.nv.ledgerReady = true → 0 < q → s.lgr.head ≤ q → q ≤ lgrTail s →
        settles (answer (okLines ((readRange false s count q).1.map (fun q => blockBytes q s)))
          (countBlocks (readRange false s count q).1 (lineBegun (elapse t s)))) s') ∧
      (count = 0 ∨ 16 < count → settles (answer ["ERR 02"] (lineBegun (elapse t s))) s') := by
  have hlgr : (lineBegun (elapse t s)).lgr = s.lgr := elapse_lgr t s
  have hready : (lineBegun (elapse t s)).nv.ledgerReady = s.nv.ledgerReady := elapse_nv_ledgerReady t s
  have hblock : ∀ q, blockBytes q (lineBegun (elapse t s)) = blockBytes q s := by
    intro q
    have h : blockBytes q (elapse t s) = blockBytes q s := by
      rw [elapse_eq]
      rfl
    exact h
  have hcount : ∀ (qs : List Nat) (x : State), (countBlocks qs x).lgr = x.lgr ∧ (countBlocks qs x).fold = x.fold := by
    intro qs
    induction qs with
    | nil => exact fun _ => ⟨rfl, rfl⟩
    | cons q qs ih =>
      intro x
      have hread : (countRead (blockAddr q x) 64 x).lgr = x.lgr ∧ (countRead (blockAddr q x) 64 x).fold = x.fold := by
        unfold countRead
        dsimp only
        split <;> exact ⟨rfl, rfl⟩
      obtain ⟨h1, h2⟩ := ih (countRead (blockAddr q x) 64 x)
      exact ⟨h1.trans hread.1, h2.trans hread.2⟩
  refine ⟨_, lockedLine_allowed (t := t) (monLedger q count) hl hserve ha, fun hlo hhi hr hq hhead htail => ?_, fun hbad => ?_⟩
  · obtain ⟨h1, h2⟩ := hcount (readRange false s count q).1 (lineBegun (elapse t s))
    have htail' : q ≤ lgrTail (lineBegun (elapse t s)) := by
      rw [lgrTail, hlgr]
      exact htail
    rw [monLedger, if_neg (by omega), if_neg (by rw [hready, hr]; decide), if_neg (by rw [hlgr]; omega)]
    simp only [lineBegun_readRange, hblock]
    rw [answer_eq]
    exact finish_settles_of s _ hl (h1.trans (elapse_lgr t s)) (h2.trans (elapse_fold t s))
  · rw [monLedger, if_pos (by omega), badArg, answer_eq]
    exact finish_settles_of s _ hl (elapse_lgr t s) (elapse_fold t s)

/-- A field outside the list written alike on both sides keeps the rest. -/
theorem RegsKept.setFld_both {offs : List Nat} {a b : State} (h : RegsKept offs a b) (f : Field) (hf : f.off ∉ offs) (v : Nat)
    (ha : Regs.wf a = true) : RegsKept offs (Machine.setFld f v a) (Machine.setFld f v b) := by
  refine ⟨fun off ho => ?_, fun _ => regs_wf_setFld f v b (h.wf ha)⟩
  by_cases he : off = f.off
  · subst he
    rw [Machine.setFld, Machine.setFld, regGet_regSet_same _ _ _ (h.wf ha), regGet_regSet_same _ _ _ ha, h.keeps _ hf]
  · rw [Machine.setFld, Machine.setFld, regGet_regSet_ne _ _ _ _ he, regGet_regSet_ne _ _ _ _ he, h.keeps off ho]

/-- What the source has delivered is noted alike in a line. -/
theorem lineBegun_noteObs (o : RngObs) {x : State} (hwf : Regs.wf x = true) :
    RegsKept [MON_CNT.reg] (noteObs o x) (noteObs o (lineBegun x)) := by
  let noted (y : State) : State := { y with rng := { y.rng with tested := o.tested, rctMax := o.rctMax } }
  have h : RegsKept [MON_CNT.reg] (noted x) (noted (lineBegun x)) :=
    (RegsKept.of_eq _ rfl rfl : RegsKept _ (noted x) x).trans ((lineBegun_kept x).trans (.of_eq _ rfl rfl))
  exact h.setFld_both RNG_EST2.APT_MAX (by decide) (min o.aptMax 1024) hwf

/-- MON_RNG (R336, R423). -/
theorem monRng_shows (hl : live s = true) (hm : memorySafe s) (hserve : monServes s = true) (ha : monAllowed s = true) (o : RngObs) :
    ∃ s', exec (.monRng t o) s = .next s' ∧
      settles (answer ["OK " ++ hexBytes (rngReport (noteObs o (elapse t s)))] (noteObs o (lineBegun (elapse t s)))) s' := by
  have hrep : rngReport (noteObs o (lineBegun (elapse t s))) = rngReport (noteObs o (elapse t s)) := by
    have hfld : ∀ f : Field, f.off ≠ MON_CNT.reg →
        fld f (noteObs o (lineBegun (elapse t s))) = fld f (noteObs o (elapse t s)) := by
      intro f hf
      exact (lineBegun_noteObs o (memorySafe_elapse_wf hm t)).fld f (by simpa using hf)
    simp only [rngReport, rngState, hfld _ (show RNG_STATUS.STATE.off ≠ MON_CNT.reg by decide),
      hfld _ (show RNG_STATUS.FAILS.off ≠ MON_CNT.reg by decide), hfld _ (show RNG_EST0.BIAS.off ≠ MON_CNT.reg by decide),
      hfld _ (show RNG_EST0.C1.off ≠ MON_CNT.reg by decide), hfld _ (show RNG_EST1.C2.off ≠ MON_CNT.reg by decide),
      hfld _ (show RNG_EST1.C3.off ≠ MON_CNT.reg by decide), hfld _ (show RNG_EST2.C4.off ≠ MON_CNT.reg by decide),
      hfld _ (show RNG_STATUS.LAST_FAIL.off ≠ MON_CNT.reg by decide), hfld _ (show RNG_EST2.APT_MAX.off ≠ MON_CNT.reg by decide),
      hfld _ (show RNG_CNT0.RCT_FAIL.off ≠ MON_CNT.reg by decide), hfld _ (show RNG_CNT0.APT_FAIL.off ≠ MON_CNT.reg by decide),
      hfld _ (show RNG_CNT0.KAT_FAIL.off ≠ MON_CNT.reg by decide), hfld _ (show RNG_CNT0.STEEPS.off ≠ MON_CNT.reg by decide),
      hfld _ (show RNG_RESEED_CNT.RESEEDS.off ≠ MON_CNT.reg by decide),
      hfld _ (show RNG_REQ_CNT.SINCE_RESEED.off ≠ MON_CNT.reg by decide)]
    rfl
  refine ⟨_, lockedLine_allowed (t := t) (monRng o) hl hserve ha, ?_⟩
  simp only [monRng, hrep]
  rw [answer_eq]
  exact finish_settles_of s _ hl (elapse_lgr t s) (elapse_fold t s)

/-- MON_EVT (R423). -/
theorem monEvt_shows (hl : live s = true) (hserve : monServes s = true) (ha : monAllowed s = true) (on : Bool) :
    ∃ s', exec (.monEvt t on) s = .next s' ∧
      settles (answer ["OK"] (setFlag MON_CTL.EVT_ECHO on (lineBegun (elapse t s)))) s' := by
  refine ⟨_, lockedLine_allowed (t := t) (fun s => answer ["OK"] (setFlag MON_CTL.EVT_ECHO on s)) hl hserve ha, ?_⟩
  rw [answer_eq]
  exact finish_settles_of s _ hl (elapse_lgr t s) (elapse_fold t s)

/-- MON_BAUD of a rate that there is (R423, R426). -/
theorem monBaud_stores (hl : live s = true) (hm : memorySafe s) (hsh : shaped s) (hserve : monServes s = true)
    (ha : monAllowed s = true) {code : Nat} (hcode : code ≤ 6) (hfail : recFails recMon s = false) :
    ∃ s', exec (.monBaud t code) s = .next s' ∧ fld MON_CTL.BAUD s' = code ∧
      recRead recMon s' = some (leBytes 4 (regNow MON_CTL.reg s').toNat) ∧
      s'.mon = { (lineBegun (elapse t s)).mon with out := "bv> " :: "OK" :: s.mon.out } ∧
      keepsRegs [MON_CTL.reg, MON_CNT.reg] s s' ∧
      settles { elapse t s with mon := s'.mon, regs := s'.regs, nv := s'.nv } s' := by
  let x : State := setFld MON_CTL.BAUD code (answer ["OK"] (lineBegun (elapse t s)))
  have hans : answer ["OK"] (lineBegun (elapse t s)) = { lineBegun (elapse t s) with
      mon := { (lineBegun (elapse t s)).mon with out := "bv> " :: "OK" :: (lineBegun (elapse t s)).mon.out } } :=
    answer_eq _ _
  have hwf : Regs.wf (answer ["OK"] (lineBegun (elapse t s))) = true :=
    (lineBegun_kept (elapse t s)).wf (memorySafe_elapse_wf hm t)
  have hxnv : x.nv = (elapse t s).nv := rfl
  have hxfail : recFails recMon x = false := by
    rw [recFails, hxnv]
    simpa [recFails] using hfail
  have hstore : storeMon x = { x with nv := (storeMon x).nv } := recStore_eq _ hxfail
  have hset : settles (storeMon x) (finish (storeMon x)) := by
    refine finish_settles_of s _ hl ?_ ?_
    · rw [hstore]
      exact elapse_lgr t s
    · rw [hstore]
      exact elapse_fold t s
  have hrun : exec (.monBaud t code) s = .next (finish (storeMon x)) := by
    refine (lockedLine_allowed (t := t) (monBaud code) hl hserve ha).trans ?_
    rw [monBaud, if_neg (by omega)]
  have hanswered : RegsKept [MON_CTL.reg, MON_CNT.reg] (lineBegun (elapse t s)) (answer ["OK"] (lineBegun (elapse t s))) :=
    .of_eq _ rfl rfl
  have hset_baud : RegsKept [MON_CTL.reg, MON_CNT.reg] (answer ["OK"] (lineBegun (elapse t s))) x :=
    .setFld _ _ _ (by decide)
  have hkeep : RegsKept [MON_CTL.reg, MON_CNT.reg] (elapse t s) x :=
    ((lineBegun_kept _).mono (List.subset_cons_self _ _)).trans (hanswered.trans hset_baud)
  have hregs : ∀ off, regGet off (finish (storeMon x)) = regGet off x := fun off => by
    rw [settles_regGet hset, hstore]
    rfl
  have hmon : (finish (storeMon x)).mon = { (lineBegun (elapse t s)).mon with out := "bv> " :: "OK" :: s.mon.out } := by
    rw [settles_mon hset, hstore, ← elapse_mon t s]
    exact (congrArg State.mon hans :)
  obtain ⟨-, -, -, -, -, hrecs⟩ := hm
  obtain ⟨-, -, -, -, -, -, -, hseq⟩ := hsh
  refine ⟨_, hrun, ?_, ?_, hmon, fun off ho => (hregs off).trans ((hkeep.keeps off ho).trans (elapse_regGet off t s)), ?_⟩
  · have hread : fld MON_CTL.BAUD x = code := (fld_setFld_same MON_CTL.BAUD (by decide) code _ hwf).trans
      (Nat.mod_eq_of_lt (show code < 8 by omega))
    rw [fld, hregs]
    exact hread
  · have hnow : regNow MON_CTL.reg (finish (storeMon x)) = regNow MON_CTL.reg x := by
      have hheld : (finish (storeMon x)).heldWr = x.heldWr := by
        rw [settles_heldWr hset, hstore]
      simp only [regNow, heldWord, hheld, hregs]
    have hrec : recRead recMon (storeMon x) = some (setupBytes [MON_CTL.reg] x) := by
      refine recStore_recRead _ hxfail ?_ ?_
      · rw [hxnv, elapse_nv_recs]
        exact hrecs
      · rw [hxnv, elapse_nv_recs]
        exact hseq
    rw [hnow, recRead, recGet, settles_nv hset]
    refine hrec.trans ?_
    simp [setupBytes]
  · have hframe : storeMon x = { elapse t s with
        mon := (storeMon x).mon, regs := (storeMon x).regs, nv := (storeMon x).nv } := by
      have h1 : x = { elapse t s with mon := x.mon, regs := x.regs } := by
        have h2 : x = { answer ["OK"] (lineBegun (elapse t s)) with regs := x.regs } := rfl
        rw [hans] at h2
        exact h2
      rw [hstore]
      exact (congrArg (fun z : State => { z with nv := (storeMon x).nv }) h1 :)
    rw [settles_mon hset, settles_regs hset, settles_nv hset, ← hframe]
    exact hset

/-- A command's bad argument. -/
theorem lockedLine_badArg (k : State → State) (hl : live s = true) (hserve : monServes s = true) (ha : monAllowed s = true)
    (hk : k (lineBegun (elapse t s)) = badArg (lineBegun (elapse t s))) :
    ∃ s', command t (lockedLine k) s = .next s' ∧ settles (answer ["ERR 02"] (lineBegun (elapse t s))) s' := by
  refine ⟨_, (lockedLine_allowed k hl hserve ha).trans (by rw [hk, badArg, answer_eq]), ?_⟩
  rw [answer_eq]
  exact finish_settles_of s _ hl (elapse_lgr t s) (elapse_fold t s)

/-- The commands that need no access end in their answer. -/
theorem openLine_shows (f : State → List String) (g : State → State) (hl : live s = true) (hserve : monServes s = true)
    (hg : (g (lineBegun (elapse t s))).lgr = (elapse t s).lgr ∧ (g (lineBegun (elapse t s))).fold = (elapse t s).fold) :
    ∃ s', command t (serveLine (fun s => answer (f s) (g s))) s = .next s' ∧
      settles (answer (f (lineBegun (elapse t s))) (g (lineBegun (elapse t s)))) s' := by
  refine ⟨_, serveLine_served _ hl hserve, ?_⟩
  rw [answer_eq]
  exact finish_settles_of s _ hl (hg.1.trans (elapse_lgr t s)) (hg.2.trans (elapse_fold t s))

end

/-- Settles O58: each line is served in the state its count leaves. -/
theorem monitorAnswersLines : Obligations.MonitorAnswersLines := by
  unfold Obligations.MonitorAnswersLines
  intro s t hl hm hsh hserve
  dsimp only
  have hwf := memorySafe_elapse_wf hm t
  have hs1 : bump MON_CNT.COMMANDS { elapse t s with mon := { s.mon with lastCmd := now (elapse t s) } } =
      lineBegun (elapse t s) := by
    rw [lineBegun, elapse_mon]
  simp only [hs1, ← answer_eq]
  refine ⟨?_, fun off ho => ((lineBegun_kept _).keeps off ho).trans (elapse_regGet off t s), ?_, ?_, ?_, ?_, ?_, ?_⟩
  · exact (fld_bump_same MON_CNT.COMMANDS (by decide) _ hwf).trans
      (by rw [← elapse_fld MON_CNT.COMMANDS t s]; rfl)
  · have h := openLine_shows (t := t) (fun s => [infoText s]) id hl hserve ⟨rfl, rfl⟩
    rw [lineBegun_infoText] at h
    exact h
  · have hp : ptime (lineBegun (elapse t s)) = ptime s := by
      exact (lineBegun_fld FLK_PTIME.PTIME (by decide)).trans (elapse_fld _ t s)
    have h := openLine_shows (t := t)
      (fun s => ["OK " ++ hexNat 16 (now s) ++ " " ++ hexNat 16 s.clk.wall.toNat ++ " " ++ hexNat 8 (ptime s)])
      id hl hserve ⟨rfl, rfl⟩
    rw [hp] at h
    exact h
  · exact openLine_shows (t := t) (fun _ => ["OK"]) endUnlock hl hserve ⟨rfl, rfl⟩
  · exact openLine_shows (t := t) (fun _ => ["ERR 01"]) id hl hserve ⟨rfl, rfl⟩
  · intro addr count value off bs node q on code o c hc ha
    have hk : ∃ k, exec c s = command t (lockedLine k) s := by
      simp only [List.mem_cons, List.not_mem_nil, or_false] at hc
      rcases hc with rfl | rfl | rfl | rfl | rfl | rfl | rfl | rfl | rfl
      all_goals exact ⟨_, rfl⟩
    obtain ⟨k, hk⟩ := hk
    rw [hk]
    obtain ⟨s', h1, h2⟩ := lockedLine_refused (t := t) k hl hserve ha
    exact ⟨s', h1, by rw [answer_eq]; exact h2⟩
  · intro ha
    refine ⟨monRd_shows hl hserve ha, monWr_shows hl hserve ha, monBuf_shows hl hm hserve ha, ?_, ?_,
      monFolds_shows hl hserve ha, monFolds_showsAll hl hserve ha, monLedger_shows hl hserve ha, monRng_shows hl hm hserve ha,
      monEvt_shows hl hserve ha, ?_, ?_⟩
    · intro bs hlen
      exact lockedLine_badArg (monDesc bs) hl hserve ha (by rw [monDesc, if_pos hlen])
    · intro bs hlen hst _ hc hmode
      exact monDesc_hands hl hserve ha hlen hst hc hmode
    · intro code hcode hfail
      exact monBaud_stores hl hm hsh hserve ha hcode hfail
    · intro code hcode
      exact lockedLine_badArg (monBaud code) hl hserve ha (by rw [monBaud, if_pos hcode])

end Sys2Proof.Machine
end

section
/-! SUPPORT. Wake sources. -/
namespace Sys2Proof.Machine

section
variable {s : State} {t k : Nat}

/-! ## What an exit to Run comes to -/

/-- The registers of an exit for cause `k` (R92). -/
def woken (k : Nat) (x : State) : State := setFld PWR_STATUS.WAKE_SRC k (setFld PWR_STATUS.STATE 0 x)

/-- They differ from those before in PWR_STATUS. -/
theorem woken_kept (k : Nat) (x : State) : RegsKept [PWR_STATUS.reg] x (woken k x) :=
  (RegsKept.setFld (offs := [PWR_STATUS.reg]) PWR_STATUS.STATE 0 x (by decide)).trans
    (.setFld PWR_STATUS.WAKE_SRC k _ (by decide))

/-- Which names the cause and the state. -/
theorem woken_fields {x : State} (hk : k < 2 ^ PWR_STATUS.WAKE_SRC.width) (hwf : Regs.wf x = true) :
    fld PWR_STATUS.WAKE_SRC (woken k x) = k ∧ fld PWR_STATUS.STATE (woken k x) = 0 := by
  have h1 := regs_wf_setFld PWR_STATUS.STATE 0 x hwf
  refine ⟨(fld_setFld_same _ (by decide) k _ h1).trans (Nat.mod_eq_of_lt hk), ?_⟩
  exact (fld_setFld_apart _ PWR_STATUS.STATE (by decide) (by decide) k _ h1).trans
    ((fld_setFld_same PWR_STATUS.STATE (by decide) 0 x hwf).trans (by decide))

/-- From Graze and Pen (R90). -/
theorem exitRun_shallow {x : State} (he : x.pwr.entering = none) (hst : x.pwr.st = .graze ∨ x.pwr.st = .pen) (hk : k ≠ 0)
    (hsrc : x.pwr.srcAt ≠ some (now x)) :
    exitRun k x = woken k { x with pwr := { x.pwr with st := .run, entering := none, srcAt := some (now x) } } := by
  have hset : setSrc k (setPState .run x) =
      woken k { x with pwr := { x.pwr with st := .run, entering := none, srcAt := some (now x) } } := by
    rw [setSrc, if_neg hk, if_neg (by simpa [setPState, setFld, regSet, now] using hsrc)]
    rfl
  unfold exitRun
  rcases hst with hst | hst
  · simp only [he, Option.isSome_none, Bool.false_eq_true, if_false, hst]
    exact hset
  · simp only [he, Option.isSome_none, Bool.false_eq_true, if_false, hst]
    exact hset

/-- From Watch on fast content (R73, R90). -/
theorem exitRun_watch_fast {x : State} (he : x.pwr.entering = none) (hst : x.pwr.st = .watch) (hk : k ≠ 0)
    (hsrc : x.pwr.srcAt ≠ some (now x)) (hf : fastContent x = true) :
    exitRun k x = woken k { x with
      pwr := { x.pwr with st := .run, entering := none, islands := allIslands x, srcAt := some (now x) }
      uhf := { x.uhf with walk := repower true (now x) x.uhf.walk }
      uwb := { x.uwb with walk := repower true (now x) x.uwb.walk } } := by
  have hsrc' : ¬ ((setPState .run (powerAll x)).pwr.srcAt == some (now (setPState .run (powerAll x)))) = true := by
    simpa [setPState, setFld, regSet, now, powerAll, radiosOn, setUwbWalk, setUhfWalk] using hsrc
  unfold exitRun
  simp only [he, Option.isSome_none, Bool.false_eq_true, if_false, hst, hf, if_true]
  rw [setSrc, if_neg hk, if_neg hsrc']
  rfl

/-- From Watch without it (R78). -/
theorem exitRun_watch_armed {x : State} (he : x.pwr.entering = none) (hst : x.pwr.st = .watch)
    (hf : fastContent x = false) (ha : x.pwr.exitArmed = none) :
    exitRun k x = { x with pwr := { x.pwr with exitArmed := some k } } := by
  unfold exitRun
  simp only [he, Option.isSome_none, Bool.false_eq_true, if_false, hst, hf, ha]

/-- In Run and Fallow there is nothing to leave. -/
theorem exitRun_stays {x : State} (he : x.pwr.entering = none) (hst : x.pwr.st = .run ∨ x.pwr.st = .fallow)
    (hsrc : x.pwr.srcAt ≠ some (now x)) : exitRun k x = x := by
  unfold exitRun
  rcases hst with hst | hst
  · simp [he, hst, hsrc]
  · simp [he, hst]

/-! ## What does not hang on the tick -/

/-- The content in force does not. -/
theorem elapse_fastContent (t : Nat) (s : State) : fastContent (elapse t s) = fastContent s := by
  have h : (elapse t s).clk.content = s.clk.content := by
    unfold elapse
    split
    · rfl
    · split <;> simp only [passTicks, wallPass] <;> split <;> rfl
  simp only [fastContent, h]

/-- Nor do a loss of the clock and a reset. -/
theorem elapse_stopped (t : Nat) (s : State) : stopped (elapse t s) = stopped s := by
  have hlost : (elapse t s).clk.lost = s.clk.lost := by
    unfold elapse
    split
    · rfl
    · split <;> simp only [passTicks, wallPass] <;> split <;> rfl
  simp only [stopped, hlost, elapse_pwr]

/-- A live device is not stopped. -/
theorem live_stopped (hl : live s = true) : stopped s = false := by
  simp only [live, Bool.and_eq_true, Bool.not_eq_true'] at hl
  exact hl.2

/-! ## Commands that exit -/

/-- What a shallow exit's command leaves. -/
theorem shallowRun_of (hl : live s = true) (hm : memorySafe s) (hst : s.pwr.st = .graze ∨ s.pwr.st = .pen)
    (hsrc : s.pwr.srcAt ≠ some (now (elapse t s))) (hk : k ≠ 0) (hlt : k < 2 ^ PWR_STATUS.WAKE_SRC.width) {s' : State}
    (hs' : s' = finish (exitRun k (elapse t s))) :
    fld PWR_STATUS.WAKE_SRC s' = k ∧ fld PWR_STATUS.STATE s' = 0 ∧ keepsRegs [PWR_STATUS.reg] s s' ∧
      settles { elapse t s with
        regs := s'.regs
        pwr := { s.pwr with st := .run, entering := none, srcAt := some (now (elapse t s)) } } s' := by
  have hwf := memorySafe_elapse_wf hm t
  let y : State := { elapse t s with
    pwr := { (elapse t s).pwr with st := .run, entering := none, srcAt := some (now (elapse t s)) } }
  have hexit : exitRun k (elapse t s) = woken k y :=
    exitRun_shallow (by simpa using live_entering hl) (by simpa using hst) hk (by simpa using hsrc)
  rw [hexit] at hs'
  have hset : settles (woken k y) s' := by
    rw [hs']
    exact finish_settles_of s _ hl (elapse_lgr t s) (elapse_fold t s)
  obtain ⟨h1, h2⟩ := woken_fields (x := y) hlt hwf
  refine ⟨(settles_fld hset _).trans h1, (settles_fld hset _).trans h2, fun off ho => ?_, ?_⟩
  · exact (settles_regGet hset off).trans (((woken_kept k y).keeps off ho).trans (elapse_regGet off t s))
  · rw [settles_regs hset]
    have hy : woken k y = { elapse t s with
        regs := (woken k y).regs
        pwr := { s.pwr with st := .run, entering := none, srcAt := some (now (elapse t s)) } } := by
      rw [← elapse_pwr t s]
      rfl
    rw [← hy]
    exact hset

/-- What an exit from Watch leaves, with the pins as they are then. -/
theorem watchRun_of (hl : live s = true) (hm : memorySafe s) (hst : s.pwr.st = .watch)
    (hsrc : s.pwr.srcAt ≠ some (now (elapse t s))) (hk : k ≠ 0) (hlt : k < 2 ^ PWR_STATUS.WAKE_SRC.width) (pins : Pins)
    {s' : State} (hs' : s' = finish (exitRun k { elapse t s with pins := pins })) :
    if fastContent s = true then
      fld PWR_STATUS.WAKE_SRC s' = k ∧ fld PWR_STATUS.STATE s' = 0 ∧ keepsRegs [PWR_STATUS.reg] s s' ∧
      settles { elapse t s with
        regs := s'.regs
        pwr := { s.pwr with st := .run, islands := allIslands s, srcAt := some (now (elapse t s)) }, pins := pins
        uhf := { s.uhf with walk := repower true (now (elapse t s)) s.uhf.walk }
        uwb := { s.uwb with walk := repower true (now (elapse t s)) s.uwb.walk } } s'
    else s.pwr.exitArmed = none →
      settles { elapse t s with pwr := { s.pwr with exitArmed := some k }, pins := pins } s' := by
  have he : (elapse t s).pwr.entering = none := by simpa using live_entering hl
  have hfast := elapse_fastContent t s
  have hst0 : (elapse t s).pwr.st = .watch := by simpa using hst
  have hsrc0 : (elapse t s).pwr.srcAt ≠ some (now (elapse t s)) := by simpa using hsrc
  have hwf := memorySafe_elapse_wf hm t
  split
  · next hf =>
    let y : State := { elapse t s with
      pins := pins
      pwr := { (elapse t s).pwr with
        st := .run, entering := none, islands := allIslands (elapse t s), srcAt := some (now (elapse t s)) }
      uhf := { (elapse t s).uhf with walk := repower true (now (elapse t s)) (elapse t s).uhf.walk }
      uwb := { (elapse t s).uwb with walk := repower true (now (elapse t s)) (elapse t s).uwb.walk } }
    have hexit : exitRun k { elapse t s with pins := pins } = woken k y :=
      exitRun_watch_fast he hst0 hk hsrc0 (hfast.trans hf)
    rw [hexit] at hs'
    have hset : settles (woken k y) s' := by
      rw [hs']
      exact finish_settles_of s _ hl (elapse_lgr t s) (elapse_fold t s)
    obtain ⟨h1, h2⟩ := woken_fields (x := y) hlt hwf
    refine ⟨(settles_fld hset _).trans h1, (settles_fld hset _).trans h2, fun off ho => ?_, ?_⟩
    · exact (settles_regGet hset off).trans (((woken_kept k y).keeps off ho).trans (elapse_regGet off t s))
    · rw [settles_regs hset]
      have hpwr : ({ s.pwr with st := .run, islands := allIslands s, srcAt := some (now (elapse t s)) } : Pwr) =
          { (elapse t s).pwr with
            st := .run, entering := none, islands := allIslands (elapse t s), srcAt := some (now (elapse t s)) } := by
        rw [elapse_pwr, allIslands, allIslands, elapse_part, ← live_entering hl]
      rw [hpwr, ← elapse_uhf t s, ← elapse_uwb t s]
      exact hset
  · next hf =>
    intro ha
    rw [Bool.not_eq_true] at hf
    have hexit : exitRun k { elapse t s with pins := pins } =
        { elapse t s with pins := pins, pwr := { (elapse t s).pwr with exitArmed := some k } } :=
      exitRun_watch_armed he hst0 (hfast.trans hf) (by simpa using ha)
    rw [hs', hexit, elapse_pwr]
    exact finish_settles_of s _ hl (elapse_lgr t s) (elapse_fold t s)

/-- A wake trigger whose condition does not hold changes nothing. -/
theorem wakeExit_idle (w : WakeSrc) {x : State} (he : x.pwr.entering = none) (hst : x.pwr.st = .run ∨ x.pwr.st = .fallow)
    (hsrc : x.pwr.srcAt ≠ some (now x)) : wakeExit w x = x := by
  have hgp : (x.pwr.st == .graze || x.pwr.st == .pen || x.pwr.entering.isSome) = false := by
    rcases hst with hst | hst
    · simp [he, hst]
    · simp [he, hst]
  have hw : (x.pwr.st == .watch) = false := by
    rcases hst with hst | hst
    · simp [hst]
    · simp [hst]
  cases w with
  | attention => simp only [wakeExit, onlyIf, exitRun_stays he hst hsrc, ite_self]
  | perst => simp [wakeExit, onlyIf, hw, he]
  | can => simp only [wakeExit, hgp, onlyIf, Bool.false_eq_true, if_false]
  | pcie => simp only [wakeExit, tlpWake, hgp, onlyIf, Bool.false_eq_true, if_false, ite_self]
  | pin n => simp only [wakeExit, hgp, onlyIf, Bool.false_and, Bool.false_eq_true, if_false]
  | sched => simp only [wakeExit, hgp, onlyIf, Bool.false_and, Bool.false_eq_true, if_false]
  | refclk => rfl

/-! ## Aborted entries -/

/-- With only its entry under way a device comes to a tick before the commit by the passing of time alone. -/
theorem begin_entering {q : PState} {c : Nat} (he : s.pwr.entering = some (q, c)) (htc : t < c)
    (hc : calm { s with pwr := { s.pwr with entering := none } } = true) : begin t s = elapse t s := by
  obtain ⟨-, -, hh, -, -, -, -⟩ := (calm_iff _).mp hc
  have hdue : dueTicks s = [c] := by
    have h := dueTicks_calm _ hc
    simp only [dueTicks, List.nil_append] at h
    simp only [dueTicks, he, List.append_assoc]
    rw [List.append_assoc, List.append_assoc, List.append_assoc] at h
    rw [h, List.append_nil]
  have hn : dueCount s = (7 + s.uhf.queue.length + s.uwb.queue.length + s.fold.queue.length + s.fold.wait.length) + 1 := by
    unfold dueCount
    omega
  have hnext : nextDue t s = none := by
    have hle : ¬ c ≤ t := by omega
    simp [nextDue, hdue, hle]
  have hopen : headerOpen s = false := hh
  unfold begin
  rw [hn, runTo, hnext]
  exact latchHeader_fixed _ (by simpa [headerOpen] using hopen)

/-- A command of a device with only its entry under way, before the commit. -/
theorem command_entering {q : PState} {c : Nat} (he : s.pwr.entering = some (q, c)) (htc : t < c)
    (hl : live { s with pwr := { s.pwr with entering := none } } = true) (k : State → State) :
    command t k s = .next (finish (k (elapse t s))) := by
  have hb := begin_entering he htc (live_calm hl)
  have hstop : stopped (elapse t s) = false :=
    (elapse_stopped t s).trans (live_stopped (s := { s with pwr := { s.pwr with entering := none } }) hl :)
  rw [command, outerCommand, hb, onlyIf, if_pos (by rw [hstop]; rfl)]

/-- What is recorded reads alike on another power unit. -/
theorem Recorded.withPwr {cells offs : List Nat} {a b : State} (h : Recorded cells offs a b) (p : Pwr) :
    Recorded cells offs { a with pwr := p } { b with pwr := p } :=
  ⟨(congrArg (fun x : State => { x with pwr := p }) h.blank :),
    ⟨fun off ho => h.regs.keeps off ho, fun hw => h.regs.wf hw⟩,
    ⟨h.host.link, h.host.busMaster, h.host.flight, h.host.enabled, h.host.memWf⟩,
    ⟨h.array.mem, h.array.bad, h.array.wf⟩, h.hostWait⟩

/-- The state of an aborted entry, its cause noted. -/
def abortedEntry (q : PState) (k : Nat) (x : State) : State :=
  let y := if q = .fallow then append 0x16 0 1 { x with pwr := { x.pwr with entering := none } }
    else { x with pwr := { x.pwr with entering := none } }
  setFld PWR_STATUS.WAKE_SRC k { y with pwr := { y.pwr with srcAt := some (now y) } }

/-- It differs in records and PWR_STATUS. -/
theorem abortedEntry_recorded (q : PState) (k : Nat) {x : State} (hr : x.nv.ledgerReady = true) :
    Recorded [] [PWR_STATUS.reg] { x with pwr := { x.pwr with entering := none, srcAt := some (now x) } }
      (abortedEntry q k x) := by
  let x1 : State := { x with pwr := { x.pwr with entering := none } }
  let y : State := if q = .fallow then append 0x16 0 1 x1 else x1
  have hxy : Recorded [] [PWR_STATUS.reg] x1 y := by
    by_cases hq : q = .fallow
    · rw [show y = append 0x16 0 1 x1 from if_pos hq]
      exact Recorded.append 0x16 0 1 x1 hr
    · rw [show y = x1 from if_neg hq]
      exact Recorded.refl x1
  have hpwr : y.pwr = x1.pwr := (congrArg State.pwr hxy.blank :)
  have hnow : now y = now x := (congrArg now hxy.blank :)
  have hstate : ({ y with pwr := { y.pwr with srcAt := some (now y) } } : State) =
      { y with pwr := { x.pwr with entering := none, srcAt := some (now x) } } := by
    rw [hpwr, hnow]
  show Recorded _ _ _ (setFld PWR_STATUS.WAKE_SRC k { y with pwr := { y.pwr with srcAt := some (now y) } })
  rw [hstate]
  exact (hxy.withPwr _).trans (Recorded.setFld PWR_STATUS.WAKE_SRC k _ (by decide))

/-- Which names the cause. -/
theorem abortedEntry_wake (q : PState) {x : State} (hlt : k < 2 ^ PWR_STATUS.WAKE_SRC.width)
    (hr : x.nv.ledgerReady = true) (hwf : Regs.wf x = true) : fld PWR_STATUS.WAKE_SRC (abortedEntry q k x) = k := by
  unfold abortedEntry
  dsimp only
  generalize hy : (if q = PState.fallow then append 0x16 0 1 _ else _) = y
  have hwfy : Regs.wf y = true := by
    subst hy
    split
    · exact (Recorded.append (cells := []) (offs := []) 0x16 0 1
        { x with pwr := { x.pwr with entering := none } } hr).regs_wf hwf
    · exact hwf
  exact (fld_setFld_same PWR_STATUS.WAKE_SRC (by decide) k
    { y with pwr := { y.pwr with srcAt := some (now y) } } hwfy).trans (Nat.mod_eq_of_lt hlt)

/-- Outside Fallow there is no record. -/
theorem abortedEntry_plain {q : PState} (k : Nat) (hq : q ≠ .fallow) (x : State) :
    abortedEntry q k x = setFld PWR_STATUS.WAKE_SRC k
      { x with pwr := { x.pwr with entering := none, srcAt := some (now x) } } := by
  unfold abortedEntry
  rw [if_neg hq]
  rfl

/-- A trigger before the commit aborts the entry (R89). -/
theorem exitRun_aborts {q : PState} {c : Nat} {x : State} (he : x.pwr.entering = some (q, c)) (hst : x.pwr.st = .run)
    (hk : k ≠ 0) (hsrc : x.pwr.srcAt ≠ some (now x)) (hr : x.nv.ledgerReady = true) :
    exitRun k x = setFld PWR_STATUS.WAKE_SRC (min k (fld PWR_STATUS.WAKE_SRC (abortedEntry q k x))) (abortedEntry q k x) := by
  let x1 : State := { x with pwr := { x.pwr with entering := none } }
  have habort : abortEntry x = if q = .fallow then append 0x16 0 1 x1 else x1 := by
    simp only [abortEntry, he]
    rfl
  have hsame : (abortEntry x).pwr = x1.pwr ∧ now (abortEntry x) = now x := by
    rw [habort]
    split
    · have h := Recorded.append (cells := []) (offs := []) 0x16 0 1 x1 hr
      exact ⟨(congrArg State.pwr h.blank :), (congrArg now h.blank :)⟩
    · exact ⟨rfl, rfl⟩
  have hset : setSrc k (abortEntry x) = abortedEntry q k x := by
    rw [setSrc, if_neg hk, if_neg (by rw [hsame.1, hsame.2]; simpa [x1] using hsrc), habort]
    rfl
  have hrec := abortedEntry_recorded q k hr
  have hpwr : (abortedEntry q k x).pwr = { x.pwr with entering := none, srcAt := some (now x) } :=
    (congrArg State.pwr hrec.blank :)
  have hnow : now (abortedEntry q k x) = now x := (congrArg now hrec.blank :)
  have hsrc1 : ((abortedEntry q k x).pwr.srcAt == some (now (abortedEntry q k x))) = true := by
    rw [hpwr, hnow]
    simp
  have hst1 : (abortedEntry q k x).pwr.st = .run := by
    rw [hpwr]
    exact hst
  unfold exitRun
  simp only [he, Option.isSome_some, if_true, hset, hst1, hsrc1]
  rw [setSrc, if_neg hk, if_pos hsrc1]

/-- What an abort leaves. -/
theorem aborts_of {q : PState} {c : Nat} (hm : memorySafe s) (he : s.pwr.entering = some (q, c))
    (hl : live { s with pwr := { s.pwr with entering := none } } = true)
    (hst : s.pwr.st = .run) (hsrc : s.pwr.srcAt ≠ some (now (elapse t s))) (hr : s.nv.ledgerReady = true) (hk : k ≠ 0)
    (hlt : k < 2 ^ PWR_STATUS.WAKE_SRC.width) {s' : State} (hs' : s' = finish (exitRun k (elapse t s))) :
    fld PWR_STATUS.WAKE_SRC s' = k ∧
      recordsOnly [] [PWR_STATUS.reg]
        { elapse t s with pwr := { s.pwr with entering := none, srcAt := some (now (elapse t s)) } } s' ∧
      (q ≠ .fallow → keepsRegs [PWR_STATUS.reg] s s' ∧ keepsMemory s s') := by
  obtain ⟨-, -, -, -, hw, hq, hh⟩ := (calm_iff _).mp (live_calm hl)
  have hwf := memorySafe_elapse_wf hm t
  have hr0 : (elapse t s).nv.ledgerReady = true := by simpa using hr
  let b : State := { elapse t s with
    pwr := { (elapse t s).pwr with entering := none, srcAt := some (now (elapse t s)) } }
  let y : State := abortedEntry q k (elapse t s)
  let z : State := setFld PWR_STATUS.WAKE_SRC (min k (fld PWR_STATUS.WAKE_SRC y)) y
  have hby : Recorded [] [PWR_STATUS.reg] b y := abortedEntry_recorded q k hr0
  have hbz : Recorded [] [PWR_STATUS.reg] b z := hby.trans (Recorded.setFld _ _ _ (by decide))
  have hexit : exitRun k (elapse t s) = z := exitRun_aborts (by simpa using he) (by simpa using hst) hk (by simpa using hsrc) hr0
  rw [hexit] at hs'
  have hset : settles z s' := by
    rw [hs']
    refine finish_settles z ?_ ?_ ?_
    · rw [hbz.hostWait]
      exact (congrArg (fun l : Lgr => l.hostWait.all (fun p => decide (p.2 ≠ 0))) (elapse_lgr t s)).trans hh
    · rw [hbz.fold]
      exact (congrArg Fold.wait (elapse_fold t s)).trans hw
    · rw [hbz.fold]
      exact (congrArg Fold.queue (elapse_fold t s)).trans hq
  have hwake : fld PWR_STATUS.WAKE_SRC z = k := by
    have hwfy : Regs.wf y = true := hby.regs_wf hwf
    have hy : fld PWR_STATUS.WAKE_SRC y = k := abortedEntry_wake q hlt hr0 hwf
    refine (fld_setFld_same PWR_STATUS.WAKE_SRC (by decide) _ y hwfy).trans ?_
    rw [hy, Nat.min_self, Nat.mod_eq_of_lt hlt]
  have hb : b = { elapse t s with pwr := { s.pwr with entering := none, srcAt := some (now (elapse t s)) } } := by
    rw [← elapse_pwr t s]
  refine ⟨(settles_fld hset _).trans hwake, ?_, fun hf => ?_⟩
  · rw [← hb]
    exact recordsOnly_settles (hbz.recordsOnly rfl rfl rfl) hset
  · have hframe : y = setFld PWR_STATUS.WAKE_SRC k b := abortedEntry_plain k hf _
    have hkeep : RegsKept [PWR_STATUS.reg] b z := by
      rw [show z = setFld PWR_STATUS.WAKE_SRC (min k (fld PWR_STATUS.WAKE_SRC y)) y from rfl, hframe]
      exact (RegsKept.setFld (offs := [PWR_STATUS.reg]) PWR_STATUS.WAKE_SRC k b (by decide)).trans
        (.setFld PWR_STATUS.WAKE_SRC _ _ (by decide))
    have hz : z = { b with regs := z.regs } := by
      rw [show z = setFld PWR_STATUS.WAKE_SRC (min k (fld PWR_STATUS.WAKE_SRC y)) y from rfl, hframe]
      rfl
    refine ⟨fun off ho => (settles_regGet hset off).trans ((hkeep.keeps off ho).trans (elapse_regGet off t s)), ?_⟩
    refine keepsMemory_of hset ?_ ?_ ?_ ?_ ?_
    · rw [hz]
      exact elapse_hostMem t s
    · rw [hz]
      exact elapse_droverMem t s
    · rw [hz]
      exact elapse_monMem t s
    · rw [hz]
      exact elapse_nv_mem t s
    · rw [hz]
      exact elapse_nv_recs t s

/-! ## The statement -/

/-- Each source's exit from Graze and Pen. -/
theorem exits_shallow (hl : live s = true) (hm : memorySafe s) (hst : s.pwr.st = .graze ∨ s.pwr.st = .pen)
    (hsrc : s.pwr.srcAt ≠ some (now (elapse t s))) (hk : k ≠ 0) (hlt : k < 2 ^ PWR_STATUS.WAKE_SRC.width)
    {f : State → State} (hf : f (elapse t s) = exitRun k (elapse t s)) :
    ∃ s', command t f s = .next s' ∧
      fld PWR_STATUS.WAKE_SRC s' = k ∧ fld PWR_STATUS.STATE s' = 0 ∧ keepsRegs [PWR_STATUS.reg] s s' ∧
      settles { elapse t s with
        regs := s'.regs
        pwr := { s.pwr with st := .run, entering := none, srcAt := some (now (elapse t s)) } } s' :=
  ⟨_, command_live t f s hl, shallowRun_of hl hm hst hsrc hk hlt (by rw [hf])⟩

/-- PERST_N going high on a live device. -/
theorem perstReleased_live (hl : live s = true) (hperst : s.pins.perst = true) :
    exec (.perstNDeassert t) s =
      .next (finish (wakeExit .perst { elapse t s with pins := { s.pins with perst := false, wakeN := false } })) := by
  have hstop : stopped (elapse t s) = false := (elapse_stopped t s).trans (live_stopped hl)
  show execPerstNDeassert t s = _
  rw [execPerstNDeassert, outerCommand_calm _ _ _ (live_calm hl), onlyIf, if_pos (by simpa using hperst)]
  dsimp only
  rw [onlyIf, if_pos (by show (!stopped (elapse t s)) = true; rw [hstop]; rfl), elapse_pins]

/-- The islands at the end of a command in Watch. -/
theorem finish_watchIslands {x : State} (hl : live s = true) (hlgr : x.lgr = s.lgr) (hfold : x.fold = s.fold)
    (hst : x.pwr.st = .watch) (hstop : stopped x = false) : (finish x).pwr.islands = watchIslands x := by
  obtain ⟨-, -, -, -, hw, hq, hh⟩ := (calm_iff s).mp (live_calm hl)
  simp only [stopped, Bool.or_eq_false_iff] at hstop
  obtain ⟨⟨h1, h2⟩, h3⟩ := hstop
  have hsettle : (settleIslands x).pwr.islands = watchIslands x := by
    unfold settleIslands
    simp only [hst, h1, h2, h3]
    rfl
  have hframe : (finish x).pwr.islands = (settleIslands (settleFolds (flushDisplaced x))).pwr.islands := by
    unfold finish
    generalize settleIslands (settleFolds (flushDisplaced x)) = y
    unfold refreshDrive
    split <;> rfl
  rw [hframe, flushDisplaced_calm x (by rw [hlgr]; exact hh), settleFolds_calm x (by rw [hfold]; exact hw)
    (by rw [hfold]; exact hq), hsettle]

/-- The CAN island has power in Watch once its frame has been announced (R92). -/
theorem watchIslands_can {x : State} (h : x.pwr.canAsked = true) : (watchIslands x).getLsbD 10 = true := by
  have hwant : (keepBit 3 x || canWanted x) = true := by simp [canWanted, h]
  have hall : (allIslands x).getLsbD 10 = true := by
    unfold allIslands
    split
    · rfl
    · rfl
  unfold watchIslands
  simp only [hwant, if_true, BitVec.getLsbD_and, BitVec.getLsbD_or, hall]
  simp

end

/-- Settles O50: by the state of the device at the trigger. -/
theorem wakeSourcesExitToRun : Obligations.WakeSourcesExitToRun := by
  unfold Obligations.WakeSourcesExitToRun
  intro s t hm hsh hsrc
  dsimp only
  have hst0 : (elapse t s).pwr.st = s.pwr.st := by simp
  refine ⟨fun hl => ⟨fun hst => ?_, fun hst => ?_, ?_, ?_, ?_⟩, ?_⟩
  · have hshallow : ((elapse t s).pwr.st == .graze || (elapse t s).pwr.st == .pen ||
        (elapse t s).pwr.entering.isSome) = true := by
      rw [hst0]
      rcases hst with hst | hst
      · simp [hst]
      · simp [hst]
    refine ⟨?_, ?_, fun hhold => ?_, fun hsched => ?_, fun hlink => ⟨?_, ?_⟩, fun n hn hpin => ?_⟩
    · exact exits_shallow hl hm hst hsrc (by decide) (by decide) (by rw [wakeExit, onlyIf, if_pos hshallow])
    · refine exits_shallow hl hm hst hsrc (by decide) (by decide) ?_
      rcases hst with hst | hst
      · simp only [hst0, hst]
      · simp only [hst0, hst]
    · exact exits_shallow hl hm hst hsrc (by decide) (by decide)
        (by rw [wakeExit, onlyIf, if_pos ((elapse_flag _ t s).trans hhold)])
    · refine exits_shallow hl hm hst hsrc (by decide) (by decide) ?_
      have h : schedOn (elapse t s) = true := by simpa [schedOn] using hsched
      rw [wakeExit, onlyIf, if_pos (by rw [hshallow, h]; rfl)]
    · refine exits_shallow hl hm hst hsrc (by decide) (by decide) ?_
      have h : linkUp (elapse t s) = true := by simpa [linkUp] using hlink
      rw [wakeExit, onlyIf, if_pos h, tlpWake, if_pos hshallow]
    · refine exits_shallow hl hm hst hsrc (by decide) (by decide) ?_
      have h : linkUp (elapse t s) = true := by simpa [linkUp] using hlink
      rw [onlyIf, if_pos h, tlpWake, if_pos hshallow]
    · refine exits_shallow hl hm hst hsrc (by omega) (by simp only [PWR_STATUS.WAKE_SRC]; omega) ?_
      rw [wakeExit, onlyIf, if_pos (by rw [hshallow, elapse_fld, hpin]; simpa using hn), Nat.mod_eq_of_lt hn]
  · have hw : ((elapse t s).pwr.st == .watch) = true := by
      rw [hst0, hst]
      rfl
    refine ⟨fun hhold => ?_, fun hperst => ?_, fun hperst => ?_, ?_⟩
    · refine ⟨_, command_live t _ s hl, watchRun_of hl hm hst hsrc (by decide) (by decide) s.pins ?_⟩
      rw [wakeExit, onlyIf, if_pos ((elapse_flag _ t s).trans hhold), ← elapse_pins t s]
    · refine ⟨_, command_live t _ s hl, watchRun_of hl hm hst hsrc (by decide) (by decide) s.pins ?_⟩
      rw [wakeExit, onlyIf, if_pos (by rw [hw, elapse_pins, hperst]; rfl), ← elapse_pins t s]
    · refine ⟨_, perstReleased_live hl hperst, watchRun_of hl hm hst hsrc (by decide) (by decide) _ ?_⟩
      rw [wakeExit, onlyIf, if_pos (by simp [hst])]
    · let x : State := { elapse t s with
        pwr := { (elapse t s).pwr with
          st := .watch, canAsked := true, islands := (elapse t s).pwr.islands ||| 0x400 } }
      have hstx : x.pwr.st = .watch := rfl
      have hstop : stopped x = false := (elapse_stopped t s).trans (live_stopped hl)
      have hset : settles x (finish x) := finish_settles_of s _ hl (elapse_lgr t s) (elapse_fold t s)
      have hrun : exec (.canWake t) s = .next (finish x) := by
        refine (command_live t _ s hl).trans ?_
        simp only [hst0, hst]
        rfl
      refine ⟨_, hrun, ?_, ?_⟩
      · refine Eq.trans hset ?_
        simp [blankLines, x, hst]
      · show (finish x).pwr.islands.getLsbD 10 = true
        rw [finish_watchIslands (x := x) hl (elapse_lgr t s) (elapse_fold t s) hstx hstop]
        exact watchIslands_can rfl
  · intro hperst hst
    refine ⟨_, perstReleased_live hl hperst, ?_⟩
    rw [wakeExit, onlyIf, if_neg (by simp [hst, live_entering hl])]
    exact finish_settles_of s _ hl (elapse_lgr t s) (elapse_fold t s)
  · intro hperst
    have hrun : exec (.perstNDeassert t) s = .next (finish (elapse t s)) := by
      show execPerstNDeassert t s = _
      rw [execPerstNDeassert, outerCommand_calm _ _ _ (live_calm hl), onlyIf, if_neg (by simp [hperst])]
    refine ⟨_, hrun, ?_⟩
    exact finish_settles_of s _ hl (elapse_lgr t s) (elapse_fold t s)
  · intro hst w
    refine ⟨_, command_live t _ s hl, ?_⟩
    rw [wakeExit_idle w (by simpa using live_entering hl) (by rw [hst0]; exact hst) (by simpa using hsrc)]
    exact finish_settles_of s _ hl (elapse_lgr t s) (elapse_fold t s)
  · intro q c he hst htc _ _ hr hl
    have he0 : (elapse t s).pwr.entering = some (q, c) := by simpa using he
    have hsome : ((elapse t s).pwr.st == .graze || (elapse t s).pwr.st == .pen ||
        (elapse t s).pwr.entering.isSome) = true := by
      rw [he0]
      simp
    refine ⟨⟨_, command_entering he htc hl _, aborts_of hm he hl hst hsrc hr (by decide) (by decide) ?_⟩, fun hlink =>
      ⟨_, command_entering he htc hl _, aborts_of hm he hl hst hsrc hr (by decide) (by decide) ?_⟩, fun n hn hpin =>
      ⟨_, command_entering he htc hl _, aborts_of hm he hl hst hsrc hr (k := n + 1) (by omega)
        (by simp only [PWR_STATUS.WAKE_SRC]; omega) ?_⟩⟩
    · simp only [hst0, hst, he0, Option.isSome_some, if_true]
    · have h : linkUp (elapse t s) = true := by simpa [linkUp] using hlink
      rw [onlyIf, if_pos h, tlpWake, if_pos hsome]
    · rw [wakeExit, onlyIf, if_pos (by rw [hsome, elapse_fld, hpin]; simpa using hn), Nat.mod_eq_of_lt hn]

end Sys2Proof.Machine
end

section
/-! SUPPORT. What records leave of the ledger's marks and of the host interface, which they reach through events alone. -/
namespace Sys2Proof.Machine

/-! ## Records -/

/-- Between `a` and `b` nobody heard of the ledger, and its marks `w`, SIGNED, EVT and BREAK stayed (R372, R378, R387). -/
structure Unheard (a b : State) : Prop where
  hif : b.hif = a.hif
  hostMem : b.hostMem = a.hostMem
  w : b.lgr.w = a.lgr.w
  signed : b.lgr.signed = a.lgr.signed
  evt : b.lgr.evt = a.lgr.evt ∨ b.lgr.evt = flag LGR_CTL.EVT a
  ctl : flag LGR_CTL.EVT b = flag LGR_CTL.EVT a
  brk : Regs.wf a = true → Regs.wf b = true ∧ fld LGR_STATUS.BREAK b = fld LGR_STATUS.BREAK a

theorem Unheard.refl (a : State) : Unheard a a := ⟨rfl, rfl, rfl, rfl, .inl rfl, rfl, fun h => ⟨h, rfl⟩⟩

theorem Unheard.trans {a b c : State} (h1 : Unheard a b) (h2 : Unheard b c) : Unheard a c := by
  refine ⟨h2.hif.trans h1.hif, h2.hostMem.trans h1.hostMem, h2.w.trans h1.w, h2.signed.trans h1.signed, ?_,
    h2.ctl.trans h1.ctl, fun hwf => ?_⟩
  case refine_2 =>
    obtain ⟨hb, e1⟩ := h1.brk hwf
    obtain ⟨hc, e2⟩ := h2.brk hb
    exact ⟨hc, e2.trans e1⟩
  rcases h2.evt with h | h
  · rw [h]
    exact h1.evt
  · exact .inr (h.trans h1.ctl)

/-- A field outside LGR_CTL, and apart from LGR_STATUS.BREAK. -/
theorem Unheard.setFld (f : Field) (v : Nat) (s : State) (hf : LGR_CTL.EVT.off ∉ [f.off])
    (hb : (f.fits && f.apart LGR_STATUS.BREAK) = true) : Unheard s (setFld f v s) := by
  obtain ⟨hfits, hapart⟩ := Bool.and_eq_true_iff.mp hb
  exact ⟨rfl, rfl, rfl, rfl, .inl rfl, congrArg (· == 1) ((RegsKept.setFld f v s List.mem_cons_self).fld LGR_CTL.EVT hf),
    fun hwf => ⟨regs_wf_setFld f v s hwf, fld_setFld_apart f _ hfits hapart v s hwf⟩⟩

/-- A word of the ledger. -/
theorem Unheard.lgrWrite (a : Nat) (bs : Bytes) (s : State) : Unheard s (lgrWrite a bs s) := by
  have hword : ∀ (a : Nat) (bs : Bytes) (x : State), Unheard x (nvWriteWord a bs x).1 := by
    intro a bs x
    unfold nvWriteWord
    split
    · have h := Unheard.setFld NVS_REC_CNT.WFAIL (sat NVS_REC_CNT.WFAIL.width (fld NVS_REC_CNT.WFAIL x + 1)) x (by decide)
        (by decide)
      exact ⟨rfl, rfl, rfl, rfl, .inl rfl, h.ctl, h.brk⟩
    · exact ⟨rfl, rfl, rfl, rfl, .inl rfl, rfl, fun h => ⟨h, rfl⟩⟩
  have h : ∀ (ws : List Nat) (x : State), Unheard x (nvWriteWords a bs ws x).1 := by
    intro ws
    induction ws with
    | nil => exact fun x => .refl x
    | cons w ws ih =>
      intro x
      unfold nvWriteWords
      dsimp only
      split
      · exact hword _ _ _
      · exact (hword _ _ _).trans (ih _)
  exact h _ s

/-- A step of the ledger's own state. -/
theorem Unheard.of_eq {a b : State} (h : b = { a with lgr := b.lgr }) (hw : b.lgr.w = a.lgr.w)
    (hs : b.lgr.signed = a.lgr.signed) (he : b.lgr.evt = a.lgr.evt) : Unheard a b := by
  have hregs : b.regs = a.regs := by rw [h]
  have hpart : b.part = a.part := by rw [h]
  have hkept : RegsKept [] a b := .of_eq _ hregs hpart
  exact ⟨by rw [h], by rw [h], hw, hs, .inl he, by simp only [flag, fld, regGet, hregs, hpart],
    fun hwf => ⟨hkept.wf hwf, hkept.fld _ (List.not_mem_nil)⟩⟩

theorem Unheard.useCtl (s : State) : Unheard s (useCtl s) :=
  ⟨rfl, rfl, rfl, rfl, .inr rfl, rfl, fun h => ⟨h, rfl⟩⟩

theorem Unheard.preClear (s : State) : Unheard s (preClear s) := by
  unfold Machine.preClear
  split
  · exact (Unheard.lgrWrite _ _ s).trans (.of_eq rfl rfl rfl rfl)
  · exact .of_eq rfl rfl rfl rfl

theorem Unheard.sealBlock (flagBits : Nat) (s : State) : Unheard s (sealBlock flagBits s) := by
  unfold Machine.sealBlock
  split
  · exact .refl s
  · dsimp only
    generalize hx : Machine.lgrWrite _ _ (Machine.lgrWrite _ _ s) = x
    have hsx : Unheard s x := hx ▸ (Unheard.lgrWrite _ _ s).trans (.lgrWrite _ _ _)
    generalize hy : ({ x with lgr := Lgr.mk _ _ _ _ _ _ _ _ _ _ _ _ _ _ _ _ _ _ _ } : State) = y
    have hxy : Unheard x y := hy ▸ .of_eq rfl rfl rfl rfl
    have hflag : ∀ v, Unheard s (setFlag LGR_STATUS.CKPT_PEND v y) := fun v =>
      (hsx.trans hxy).trans (.setFld _ _ y (by decide) (by decide))
    split
    · exact hflag _
    · exact (hflag _).trans (.preClear _)

theorem Unheard.putRecord (r : LRec) (s : State) : Unheard s (putRecord r s) := by
  unfold Machine.putRecord
  split
  · exact .refl s
  · dsimp only
    generalize hx : Machine.lgrWrite _ _ s = x
    have hsx : Unheard s x := hx ▸ .lgrWrite _ _ s
    generalize hy : ({ x with lgr := Lgr.mk _ _ _ _ _ _ _ _ _ _ _ _ _ _ _ _ _ _ _ } : State) = y
    have hxy : Unheard x y := hy ▸ .of_eq rfl rfl rfl rfl
    have hbump : ∀ p : Prop, [Decidable p] → Unheard s (Machine.bump (if p then LGR_CNT0.HOST else LGR_CNT0.DEVICE) y) := by
      intro p _
      split
      · exact (hsx.trans hxy).trans (.setFld _ _ y (by decide) (by decide))
      · exact (hsx.trans hxy).trans (.setFld _ _ y (by decide) (by decide))
    split
    · exact (hbump _).trans (.sealBlock 0 _)
    · exact hbump _

/-- A relation that takes steps together and that unheard steps and LEDGER events keep to. -/
structure RecordClosed (R : State → State → Prop) : Prop where
  trans : ∀ {a b c}, R a b → R b c → R a c
  quiet : ∀ {a b}, Unheard a b → R a b
  event : ∀ (kind seq count : Nat) (x : State), R x (lgrEvt kind seq count x)

section
variable {R : State → State → Prop} (hR : RecordClosed R) (s : State)
include hR

theorem RecordClosed.openBlock (wall : Nat) : R s (openBlock wall s) := by
  have hif : ∀ (p : Prop) [Decidable p] (k q c : Nat) (x : State), R x (if p then lgrEvt k q c x else x) := by
    intro p _ k q c x
    split
    · exact hR.event _ _ _ _
    · exact hR.quiet (.refl x)
  unfold Machine.openBlock
  dsimp only
  generalize hx : Machine.lgrWrite (blockAddr s.lgr.next s) _ s = x
  have hsx : Unheard s x := hx ▸ .lgrWrite _ _ s
  generalize hy : ({ x with lgr := Lgr.mk _ _ _ _ _ _ _ _ _ _ _ _ _ _ _ _ _ _ _ } : State) = y
  have hxy : Unheard x y := hy ▸ .of_eq rfl rfl rfl rfl
  exact hR.trans (hR.quiet (hsx.trans hxy)) (hR.trans (hif _ _ _ _ _) (hif _ _ _ _ _))

theorem RecordClosed.placeRecord (r : LRec) (isS : Bool) : R s (placeRecord r isS s).1 := by
  have hbase : Unheard s
      (if needsNewBase r.wall (useCtl s) = true then sealBlock padTime (useCtl s) else useCtl s) := by
    split
    · exact (Unheard.useCtl s).trans (.sealBlock _ _)
    · exact .useCtl s
  unfold Machine.placeRecord
  dsimp only
  generalize (if needsNewBase r.wall (useCtl s) = true then sealBlock padTime (useCtl s) else useCtl s) = y at hbase ⊢
  split
  · exact hR.quiet (hbase.trans (.putRecord r y))
  · split
    · exact hR.trans (hR.quiet hbase) (hR.trans (hR.openBlock y _) (hR.quiet (.putRecord r _)))
    · exact hR.quiet hbase

theorem RecordClosed.dropRecord : R s (dropRecord s) := by
  unfold Machine.dropRecord
  dsimp only
  generalize hx : setFld LGR_STATUS.LOST 1 (bump LGR_CNT1.LOST (useCtl s)) = x
  have hsx : Unheard s x :=
    hx ▸ ((Unheard.useCtl s).trans (.setFld _ _ _ (by decide) (by decide))).trans (.setFld _ _ _ (by decide) (by decide))
  split
  · exact hR.quiet hsx
  · exact hR.trans (hR.quiet (hsx.trans (b := x) (c := { x with lgr := { x.lgr with lost := sat 24 (x.lgr.lost + 1) } })
      (.of_eq rfl rfl rfl rfl))) (hR.event _ _ _ _)

theorem RecordClosed.reportLost : R s (reportLost s) := by
  unfold Machine.reportLost
  split
  · exact hR.quiet (.refl s)
  · dsimp only
    generalize hx : Machine.placeRecord _ true s = x
    have hsx : R s x.1 := hx ▸ hR.placeRecord s _ _
    split
    · exact hR.trans hsx (hR.quiet (.of_eq rfl rfl rfl rfl))
    · exact hsx

/-- A device record after recall. -/
theorem RecordClosed.append (typ src data : Nat) (hr : s.nv.ledgerReady = true) : R s (append typ src data s) := by
  have hplace : ∀ r isS, R s (Machine.placeRecord r isS (Machine.reportLost s)).1 := fun r isS =>
    hR.trans (hR.reportLost s) (hR.placeRecord _ _ _)
  unfold Machine.append appendAt
  simp only [hr, if_true]
  unfold writeRecord
  split
  · exact hR.dropRecord s
  · dsimp only
    split
    · exact hplace _ _
    · exact hR.trans (hplace _ _) (hR.dropRecord _)

end

/-! ## The ledger's marks, and a ledger that posts no events -/

/-- W and SIGNED are not a record's. -/
def MarksKept (a b : State) : Prop := b.lgr.w = a.lgr.w ∧ b.lgr.signed = a.lgr.signed

theorem marksKept_closed : RecordClosed MarksKept := by
  refine ⟨fun h1 h2 => ⟨h2.1.trans h1.1, h2.2.trans h1.2⟩, fun h => ⟨h.w, h.signed⟩, fun kind seq count x => ?_⟩
  have h := (lgrEvt_posted kind seq count x).lgr
  exact ⟨by rw [h], by rw [h]⟩

/-- With LGR_CTL.EVT = 0, and 0 in force, nobody hears of a record. -/
def Silent (a b : State) : Prop :=
  flag LGR_CTL.EVT a = false → a.lgr.evt = false → Unheard a b

theorem silent_closed : RecordClosed Silent := by
  refine ⟨fun {a b c} h1 h2 hc he => ?_, fun h _ _ => h, fun kind seq count x _ he => ?_⟩
  · have h := h1 hc he
    refine h.trans (h2 (h.ctl.trans hc) ?_)
    rcases h.evt with h' | h'
    · rw [h', he]
    · rw [h', hc]
  · rw [lgrEvt, if_neg (by rw [he]; decide)]
    exact .refl x

/-! ## Events on a link that cannot take them -/

/-- With bus mastering off nothing goes to a ring, and with MSI-X off no vector is sent: events wait in the backlog (R27). -/
def HifWaits (a b : Hif) : Prop :=
  a.busMaster = false → a.msixEn = false →
    ∃ more, b = { a with backlog := a.backlog ++ more, overflow := b.overflow, evtSeq := b.evtSeq }

/-- Nothing of the backlog goes out. -/
theorem deliverBacklog_waits {x : State} (h : x.hif.busMaster = false) : deliverBacklog x = x := by
  have hcan : ∀ (n : Nat) (y : State), y.hif = x.hif → canDeliver n y = false := by
    intro n y hy
    simp [canDeliver, hy, h]
  have hlist : deliverList x.hif.backlog x = x := by
    cases hb : x.hif.backlog with
    | nil =>
      rw [deliverList, ← hb]
    | cons e es =>
      rw [deliverList, if_neg (by rw [hcan _ _ rfl]; decide), ← hb]
  unfold deliverBacklog
  rw [hlist]
  dsimp only
  split
  · rw [if_neg (by rw [hcan _ _ rfl]; decide)]
  · rfl

/-- An event waits there. -/
theorem HifWaits.post (code status : Nat) (res : Bytes) (x : State) : HifWaits x.hif (post code status res x).hif := by
  intro hbm hmsi
  unfold Machine.post postAt postDet
  dsimp only
  generalize (Evt.mk code status _ _ _ _) = e
  let y : State := { x with hif := { x.hif with evtSeq := x.hif.evtSeq + 1 } }
  have hecho : (echoEvt e y).hif = y.hif := by
    unfold echoEvt
    split <;> rfl
  have hbm1 : (echoEvt e y).hif.busMaster = false := by
    rw [hecho]
    exact hbm
  rw [deliverBacklog_waits hbm1, if_neg (by simp [canDeliver, hbm1])]
  have hstore : ∀ z : State, z.hif = y.hif → HifWaits x.hif (storeEvt e z).hif := by
    intro z hz _ _
    unfold storeEvt
    rw [hz]
    split
    · exact ⟨[], by rw [List.append_nil]⟩
    · split
      · exact ⟨[e], rfl⟩
      · refine ⟨[], ?_⟩
        have hfault : ∀ w : State, w.hif.msixEn = false → (setFault HIF_FAULT.BACKLOG_OVF w).hif = w.hif := by
          intro w hw
          unfold setFault
          split
          · rfl
          · unfold raiseVector
            rw [if_neg (by rw [show (setFld HIF_FAULT.BACKLOG_OVF 1 w).hif = w.hif from rfl, hw]; decide)]
            rfl
        rw [hfault { z with hif := { y.hif with overflow := some (1, e.seq, e.ts) } } hmsi, List.append_nil]
  exact hstore _ hecho hbm hmsi

/-- A record's events wait too. -/
theorem hifWaits_closed : RecordClosed (fun a b => HifWaits a.hif b.hif) := by
  refine ⟨fun {a b c} h1 h2 hbm hmsi => ?_, fun h _ _ => ⟨[], by rw [h.hif, List.append_nil]⟩, fun kind seq count x => ?_⟩
  case refine_2 =>
    unfold lgrEvt
    split
    · exact HifWaits.post _ _ _ x
    · exact fun _ _ => ⟨[], by rw [List.append_nil]⟩
  obtain ⟨m1, e1⟩ := h1 hbm hmsi
  obtain ⟨m2, e2⟩ := h2 (by rw [e1]; exact hbm) (by rw [e1]; exact hmsi)
  refine ⟨m1 ++ m2, ?_⟩
  rw [e1] at e2
  rw [← List.append_assoc]
  exact e2

end Sys2Proof.Machine
end

section
/-! SUPPORT. The link's states and the host link reset. -/
namespace Sys2Proof.Machine

section
variable {s : State} {t : Nat}

/-! ## The link's state -/

/-- Nothing held for the link is nothing to write. -/
theorem releaseHeld_none {x : State} (h : x.hif.held = []) : releaseHeld x = x := by
  have hif : ({ x.hif with held := [] } : Hif) = x.hif := by rw [← h]
  unfold releaseHeld
  split
  · rw [h, List.foldl_nil, hif]
  · rfl

/-- In Run no row bounds the state above the one in force. -/
theorem reselect_run {x : State} (he : x.pwr.entering = none) (hst : x.pwr.st = .run) : reselect x = x := by
  unfold reselect
  simp only [he, hst]
  rw [if_neg]
  simp [PState.code]

/-- The registers and the link of a change of its state (R86). -/
def linked (l : LinkState) (speed width : Nat) (x : State) : State :=
  setFld HIF_LINK.SPEED speed (setFld HIF_LINK.WIDTH width (setFld HIF_LINK.LSTATE (linkCode l) { x with
    hif := { x.hif with
      link := l, trained := x.hif.trained || l == .l0
      relock := l == .training && x.hif.trained && fld HIF_LINK.SPEED x != speed } }))

/-- They differ in HIF_LINK. -/
theorem linked_kept (l : LinkState) (speed width : Nat) (x : State) :
    RegsKept [HIF_LINK.reg] x (linked l speed width x) := by
  refine RegsKept.trans (b := { x with
    hif := { x.hif with
      link := l, trained := x.hif.trained || l == .l0
      relock := l == .training && x.hif.trained && fld HIF_LINK.SPEED x != speed } }) (.of_eq _ rfl rfl) ?_
  exact ((RegsKept.setFld HIF_LINK.LSTATE _ _ (by decide)).trans (.setFld HIF_LINK.WIDTH _ _ (by decide))).trans
    (.setFld HIF_LINK.SPEED _ _ (by decide))

/-- Which shows the state, the speed and the width. -/
theorem linked_fields {l : LinkState} {speed width : Nat} {x : State} (hs : speed < 2 ^ HIF_LINK.SPEED.width)
    (hw : width < 2 ^ HIF_LINK.WIDTH.width) (hwf : Regs.wf x = true) :
    fld HIF_LINK.LSTATE (linked l speed width x) = linkCode l ∧ fld HIF_LINK.SPEED (linked l speed width x) = speed ∧
      fld HIF_LINK.WIDTH (linked l speed width x) = width := by
  let x0 : State := { x with
    hif := { x.hif with
      link := l, trained := x.hif.trained || l == .l0
      relock := l == .training && x.hif.trained && fld HIF_LINK.SPEED x != speed } }
  have h1 : Regs.wf (setFld HIF_LINK.LSTATE (linkCode l) x0) = true := regs_wf_setFld _ _ _ hwf
  have h2 : Regs.wf (setFld HIF_LINK.WIDTH width (setFld HIF_LINK.LSTATE (linkCode l) x0)) = true := regs_wf_setFld _ _ _ h1
  have hcode : linkCode l < 2 ^ HIF_LINK.LSTATE.width := by cases l <;> decide
  refine ⟨?_, (fld_setFld_same _ (by decide) speed _ h2).trans (Nat.mod_eq_of_lt hs), ?_⟩
  · refine (fld_setFld_apart HIF_LINK.SPEED HIF_LINK.LSTATE (by decide) (by decide) speed _ h2).trans ?_
    refine (fld_setFld_apart HIF_LINK.WIDTH HIF_LINK.LSTATE (by decide) (by decide) width _ h1).trans ?_
    exact (fld_setFld_same HIF_LINK.LSTATE (by decide) _ x0 hwf).trans (Nat.mod_eq_of_lt hcode)
  · refine (fld_setFld_apart HIF_LINK.SPEED HIF_LINK.WIDTH (by decide) (by decide) speed _ h2).trans ?_
    exact (fld_setFld_same HIF_LINK.WIDTH (by decide) width _ h1).trans (Nat.mod_eq_of_lt hw)

/-- L0 releases WAKE_N (R94). -/
def wakeReleased (l : LinkState) (x : State) : State :=
  { x with pins := { x.pins with wakeN := if l = .l0 then false else x.pins.wakeN } }

/-- Neither the link's registers nor the exit from L1 touch the ledger and the fold engine. -/
theorem linked_waits (l : LinkState) (speed width : Nat) (x : State) :
    (linked l speed width x).lgr = x.lgr ∧ (linked l speed width x).fold = x.fold := ⟨rfl, rfl⟩

theorem wokenLinked_waits (l : LinkState) (k : Nat) (y : State) :
    (wakeReleased l (woken k y)).lgr = y.lgr ∧ (wakeReleased l (woken k y)).fold = y.fold := ⟨rfl, rfl⟩

/-- A change of the link's state that ends in Run, with nothing held for it. -/
theorem linkChange_run {l : LinkState} {speed width : Nat} {x y : State} (hheld : x.hif.held = [])
    (hy : (if x.hif.link == .l1 && (l == .l0 || l == .training) then tlpWake (linked l speed width x)
      else linked l speed width x) = y) (hyhif : y.hif = (linked l speed width x).hif) (he : y.pwr.entering = none)
    (hst : y.pwr.st = .run) : linkChange l speed width x = wakeReleased l y := by
  have hnone : y.hif.held = [] := by
    rw [hyhif]
    exact hheld
  have hlast : (if l == .l0 then releaseHeld { y with pins := { y.pins with wakeN := false } } else y) =
      wakeReleased l y := by
    cases l with
    | l0 => exact releaseHeld_none hnone
    | _ => rfl
  unfold linkChange
  dsimp only
  rw [show (if x.hif.link == .l1 && (l == .l0 || l == .training) then tlpWake (setFld HIF_LINK.SPEED speed _) else
    setFld HIF_LINK.SPEED speed _) = y from hy, hlast]
  exact reselect_run he hst

/-- A change of the link's state in Run (R86). -/
theorem linkChange_inRun {l : LinkState} {speed width : Nat} {x : State} (hheld : x.hif.held = [])
    (he : x.pwr.entering = none) (hst : x.pwr.st = .run) :
    linkChange l speed width x = wakeReleased l (linked l speed width x) := by
  have hwake : tlpWake (linked l speed width x) = linked l speed width x := by
    unfold tlpWake
    rw [if_neg]
    simp [show (linked l speed width x).pwr = x.pwr from rfl, he, hst]
  exact linkChange_run hheld (by rw [hwake, ite_self]) rfl he hst

/-- An exit from L1 wakes the device (Table 04.6). -/
theorem linkChange_fromL1 {speed width : Nat} {x : State} (hheld : x.hif.held = []) (he : x.pwr.entering = none)
    (hst : x.pwr.st = .pen) (hl1 : x.hif.link = .l1) (hsrc : x.pwr.srcAt ≠ some (now x)) :
    linkChange .l0 speed width x = wakeReleased .l0 (woken 0x0C { linked .l0 speed width x with
      pwr := { x.pwr with st := .run, entering := none, srcAt := some (now x) } }) := by
  have hwake : tlpWake (linked .l0 speed width x) = woken 0x0C { linked .l0 speed width x with
      pwr := { x.pwr with st := .run, entering := none, srcAt := some (now x) } } := by
    unfold tlpWake
    rw [if_pos (by simp [show (linked .l0 speed width x).pwr = x.pwr from rfl, hst])]
    exact exitRun_shallow he (.inr hst) (by decide) hsrc
  exact linkChange_run hheld (by rw [if_pos (by rw [hl1]; rfl), hwake]) rfl rfl rfl

/-! ## The host link reset -/

/-- Registers of a range that are cleared read as at reset. -/
theorem regGet_clearRegs (lo hi off : Nat) (x : State) :
    regGet off (clearRegs lo hi x) = if lo ≤ off ∧ off < hi then regReset x.part off else regGet off x := by
  have h := sget_filter_key (regReset x.part) (fun a => decide (a < lo) || decide (hi ≤ a)) off x.regs
  have hfilter : (clearRegs lo hi x).regs = x.regs.filter (fun c => decide (c.1 < lo) || decide (hi ≤ c.1)) := rfl
  rw [regGet, hfilter]
  refine h.trans ?_
  by_cases hin : lo ≤ off ∧ off < hi
  · have hout : (decide (off < lo) || decide (hi ≤ off)) = false := by simp; omega
    rw [hout, if_pos hin]
    rfl
  · have hout : (decide (off < lo) || decide (hi ≤ off)) = true := by simp; omega
    rw [hout, if_neg hin, if_pos rfl]
    rfl

/-- What a host link reset leaves of the registers (R98). -/
theorem resetLink_regs (flr : Bool) {x : State} (hwf : Regs.wf x = true) :
    (∀ off, 0x400 ≤ off → regGet off (resetLink flr x) = regGet off x) ∧
      (∀ off < 0x400, off ≠ HIF_STATUS.reg → off ≠ HIF_LINK.reg → regGet off (resetLink flr x) = regReset x.part off) ∧
      regGet HIF_LINK.reg (resetLink flr x) = (if flr = true then regGet HIF_LINK.reg x else regReset x.part HIF_LINK.reg) ∧
      fld HIF_STATUS.READY (resetLink flr x) = fld HIF_STATUS.READY x := by
  let c : State := clearRegs 0 0x400 x
  let r : State := setFlag HIF_STATUS.READY (flag HIF_STATUS.READY x) c
  have hcwf : Regs.wf c = true := swfFrom_filter _ _ hwf
  have hrwf : Regs.wf r = true := regs_wf_setFld _ _ _ hcwf
  have hrne : ∀ off, off ≠ HIF_STATUS.reg → regGet off r = regGet off c := fun off ho => regGet_setFld_ne _ _ off c ho
  have hready : fld HIF_STATUS.READY r = fld HIF_STATUS.READY x := by
    refine (fld_setFld_same HIF_STATUS.READY (by decide) _ c hcwf).trans ?_
    have hlt : fld HIF_STATUS.READY x < 2 := Nat.mod_lt _ (by decide)
    have hbit : fld HIF_STATUS.READY x = 0 ∨ fld HIF_STATUS.READY x = 1 := by omega
    rcases hbit with h | h
    · rw [flag, h]
      decide
    · rw [flag, h]
      decide
  cases flr with
  | false =>
    have hregs : ∀ off, regGet off (resetLink false x) = regGet off r := fun _ => rfl
    refine ⟨fun off ho => ?_, fun off ho h1 h2 => ?_, ?_, ?_⟩
    · rw [hregs, hrne off (by simp only [HIF_STATUS.reg]; omega), regGet_clearRegs, if_neg (by omega)]
    · rw [hregs, hrne off h1, regGet_clearRegs, if_pos (by omega)]
    · rw [hregs, hrne _ (by decide), regGet_clearRegs, if_pos (by decide)]
      rfl
    · rw [fld, hregs]
      exact hready
  | true =>
    have hregs : ∀ off, regGet off (resetLink true x) = regGet off (regSet HIF_LINK.reg (regGet HIF_LINK.reg x) r) :=
      fun _ => rfl
    refine ⟨fun off ho => ?_, fun off ho h1 h2 => ?_, ?_, ?_⟩
    · rw [hregs, regGet_regSet_ne _ _ _ _ (by simp only [HIF_LINK.reg]; omega),
        hrne off (by simp only [HIF_STATUS.reg]; omega), regGet_clearRegs, if_neg (by omega)]
    · rw [hregs, regGet_regSet_ne _ _ _ _ h2, hrne off h1, regGet_clearRegs, if_pos (by omega)]
    · rw [hregs, regGet_regSet_same _ _ _ hrwf, if_pos rfl]
    · rw [fld, hregs, regGet_regSet_ne _ _ _ _ (by decide)]
      exact hready

/-- A host link reset keeps the register file in canonical form. -/
theorem resetLink_wf (flr : Bool) {x : State} (hwf : Regs.wf x = true) : Regs.wf (resetLink flr x) = true := by
  have hr : Regs.wf (setFlag HIF_STATUS.READY (flag HIF_STATUS.READY x) (clearRegs 0 0x400 x)) = true :=
    regs_wf_setFld _ _ _ (swfFrom_filter _ _ hwf)
  cases flr with
  | false => exact hr
  | true => exact regs_wf_regSet _ _ _ hr

/-- And changes registers and the host interface. -/
theorem resetLink_eq (flr : Bool) (x : State) :
    resetLink flr x = { x with regs := (resetLink flr x).regs, hif := (resetLink flr x).hif } := by
  cases flr <;> rfl

/-- The host interface after it. -/
theorem resetLink_hif (flr : Bool) (x : State) :
    (resetLink flr x).hif = { Hif.reset with
      link := if flr then x.hif.link else .down
      trained := flr && x.hif.trained
      dispNo := x.hif.dispNo
      turn := x.hif.turn
      flight := x.hif.flight.map (fun (f : Flight) => if isHost f.d then { f with discard := true } else f)
      droverQ := x.hif.droverQ
      back := x.hif.back
      sent := x.hif.sent
      backlog := x.hif.backlog
      overflow := x.hif.overflow
      evtSeq := x.hif.evtSeq } := by
  cases flr <;> rfl

/-- A reset of the link with its cause and its record, and what comes of it at the end of the command. -/
theorem hostLinkReset_ends (hl : live s = true) (flr : Bool) {w : State} (hwf : Regs.wf w = true) (hlgr : w.lgr = s.lgr)
    (hfold : w.fold = s.fold) (hr : w.nv.ledgerReady = true) {s' : State} (hs' : s' = finish (hostLinkReset flr w)) :
    recordsOnly [] (PWR_RST_CAUSE.reg :: PWR_STATUS.reg :: List.range 0x400) w s' ∧
      fld PWR_RST_CAUSE.LINK s' = 1 ∧
      (∀ off < 0x400, off ≠ HIF_FAULT.reg → regGet off s' = regGet off (resetLink flr w)) ∧
      ∃ more, s'.hif = { (resetLink flr w).hif with
        backlog := w.hif.backlog ++ more, overflow := s'.hif.overflow, evtSeq := s'.hif.evtSeq } := by
  let y : State := setFld PWR_RST_CAUSE.LINK 1 (resetLink flr w)
  let z : State := resetRecord y
  have hywf : Regs.wf (resetLink flr w) = true := resetLink_wf flr hwf
  have heq := resetLink_eq flr w
  have hy : y = { w with regs := y.regs, hif := y.hif } := by
    have h : y = { resetLink flr w with regs := y.regs } := rfl
    rw [heq] at h
    exact h
  have hyr : y.nv.ledgerReady = true := by
    rw [hy]
    exact hr
  have hyz : Recorded [] [] y z := Recorded.append 0x17 _ 0 y hyr
  have hset : settles z s' := by
    rw [hs']
    refine finish_settles_recorded hl ?_ ?_ hyz
    · rw [hy]
      exact congrArg Lgr.hostWait hlgr
    · rw [hy]
      exact hfold
  have hkeep : RegsKept (PWR_RST_CAUSE.reg :: PWR_STATUS.reg :: List.range 0x400) w y := by
    refine RegsKept.trans (b := resetLink flr w) ⟨fun off ho => (resetLink_regs flr hwf).1 off ?_, fun _ => hywf⟩
      (.setFld _ _ _ (by simp [PWR_RST_CAUSE.LINK, PWR_RST_CAUSE.reg]))
    simp only [List.mem_cons, List.mem_range, not_or] at ho
    omega
  have honly : recordsOnly [] [] y z := hyz.recordsOnly rfl rfl rfl
  refine ⟨recordsOnly_settles ?_ hset, ?_, fun off hlt ho => ?_, ?_⟩
  · obtain ⟨hb, hk, hmem⟩ := honly
    refine ⟨hb.trans ?_, fun off ho => ?_, fun a ha hc => (hmem a ha hc).trans (by rw [hy])⟩
    · rw [hy]
      rfl
    · simp only [List.mem_append, not_or] at ho
      exact (hk off (by simpa using ho.1)).trans (hkeep.keeps off ho.2)
  · rw [settles_fld hset]
    refine (hyz.fld PWR_RST_CAUSE.LINK (by decide)).trans ?_
    exact (fld_setFld_same PWR_RST_CAUSE.LINK (by decide) 1 _ hywf).trans (by decide)
  · rw [settles_regGet hset]
    refine (hyz.regs.keeps off ?_).trans (regGet_setFld_ne _ _ off _ ?_)
    · simp only [recordRegs, List.append_nil, List.mem_cons, List.not_mem_nil, or_false, not_or]
      simp only [LGR_STATUS.reg, LGR_CNT0.reg, LGR_CNT1.reg, NVS_REC_CNT.reg]
      omega
    · simp only [PWR_RST_CAUSE.LINK]
      omega
  · have hyhif : y.hif = (resetLink flr w).hif := rfl
    have hwait := hifWaits_closed.append y 0x17 (fld ⟨PWR_RST_CAUSE.reg, 0, 8⟩ y) 0 hyr
    rw [hyhif, resetLink_hif] at hwait
    obtain ⟨more, hmore⟩ := hwait rfl rfl
    refine ⟨more, ?_⟩
    rw [settles_hif hset, resetLink_hif]
    exact hmore

/-- PME_Turn_Off on a link that is up (R86). -/
theorem pmeTurnOff_live (hl : live s = true) (hm : memorySafe s) (hsrc : s.pwr.srcAt ≠ some (now (elapse t s)))
    (hup : linkUp s = true) :
    ∃ s', exec (.pmeTurnOff t) s = .next s' ∧ s'.hif.pmeOff = true ∧
      (s.pwr.st = .run → settles { elapse t s with hif := { s.hif with pmeOff := true } } s') ∧
      (s.pwr.st = .graze ∨ s.pwr.st = .pen → s'.pwr.st = .run ∧ fld PWR_STATUS.WAKE_SRC s' = 0x0C ∧
        keepsRegs [PWR_STATUS.reg] s s') := by
  let x : State := { elapse t s with hif := { (elapse t s).hif with pmeOff := true } }
  have he : x.pwr.entering = none := (congrArg Pwr.entering (elapse_pwr t s) :).trans (live_entering hl)
  have hxst : x.pwr.st = s.pwr.st := (congrArg Pwr.st (elapse_pwr t s) :)
  have hxsrc : x.pwr.srcAt ≠ some (now x) := by
    rw [show x.pwr = s.pwr from elapse_pwr t s]
    exact hsrc
  have hrun : exec (.pmeTurnOff t) s = .next (finish (tlpWake x)) := by
    refine (command_live t _ s hl).trans ?_
    rw [onlyIf, if_pos (by simpa [linkUp] using hup)]
  have hframe := tlpWake_eq x he
  have hset : settles (tlpWake x) (finish (tlpWake x)) := by
    refine finish_settles_of s _ hl ?_ ?_
    · rw [hframe]
      exact elapse_lgr t s
    · rw [hframe]
      exact elapse_fold t s
  refine ⟨_, hrun, ?_, fun hst => ?_, fun hst => ?_⟩
  · rw [settles_hif hset, hframe]
  · have hstay : tlpWake x = x := by
      unfold tlpWake
      rw [if_neg (by simp [hxst, hst, he])]
    rw [hstay] at hset ⊢
    rw [← elapse_hif t s]
    exact hset
  · have hwake : tlpWake x = woken 0x0C { x with
        pwr := { x.pwr with st := .run, entering := none, srcAt := some (now x) } } := by
      unfold tlpWake
      rw [if_pos (by rcases hst with h | h <;> simp [hxst, h])]
      exact exitRun_shallow he (by rw [hxst]; exact hst) (by decide) hxsrc
    rw [hwake] at hset ⊢
    refine ⟨settles_pwr_st hset, ?_, fun off ho => ?_⟩
    · rw [settles_fld hset]
      exact (woken_fields (by decide) (memorySafe_elapse_wf hm t)).1
    · rw [settles_regGet hset]
      exact ((woken_kept 0x0C _).keeps off ho).trans (elapse_regGet off t s)

/-- The host interface after a change of the link's state. -/
def linkHif (l : LinkState) (speed : Nat) (s : State) : Hif :=
  { s.hif with
    link := l, trained := s.hif.trained || l == .l0
    relock := l == .training && s.hif.trained && fld HIF_LINK.SPEED s != speed }

/-- A change of the link's state in Run, with PERST_N released (R86, R94). -/
theorem linkStateChange_inRun (hl : live s = true) (hm : memorySafe s) {l : LinkState} {speed width : Nat}
    (hperst : s.pins.perst = false) (hheld : s.hif.held = []) (hst : s.pwr.st = .run)
    (hs : speed < 2 ^ HIF_LINK.SPEED.width) (hw : width < 2 ^ HIF_LINK.WIDTH.width) :
    ∃ s', exec (.linkStateChange t l speed width) s = .next s' ∧
      fld HIF_LINK.LSTATE s' = linkCode l ∧ fld HIF_LINK.SPEED s' = speed ∧ fld HIF_LINK.WIDTH s' = width ∧
      keepsRegs [HIF_LINK.reg] s s' ∧
      settles { elapse t s with
        regs := s'.regs, hif := linkHif l speed s
        pins := { s.pins with wakeN := if l = .l0 then false else s.pins.wakeN } } s' := by
  let x : State := elapse t s
  have he : x.pwr.entering = none := by simpa [x] using live_entering hl
  have hchange := linkChange_inRun (l := l) (speed := speed) (width := width) (x := x) (by simpa [x] using hheld) he
    (by simpa [x] using hst)
  obtain ⟨h1, h2, h3⟩ := linked_fields (l := l) (x := x) hs hw (memorySafe_elapse_wf hm t)
  have hkeep := linked_kept l speed width x
  have hhif : (linked l speed width x).hif = linkHif l speed s := by
    rw [linkHif, ← elapse_hif t s, ← elapse_fld HIF_LINK.SPEED t s]
    rfl
  have hframe : linked l speed width x = { x with
      regs := (linked l speed width x).regs, hif := (linked l speed width x).hif } := rfl
  generalize linked l speed width x = y at *
  have hset : settles (wakeReleased l y) (finish (wakeReleased l y)) := by
    refine finish_settles_of s _ hl ?_ ?_
    · rw [wakeReleased, hframe]
      exact elapse_lgr t s
    · rw [wakeReleased, hframe]
      exact elapse_fold t s
  refine ⟨_, (command_live t _ s hl).trans ?_, (settles_fld hset _).trans h1, (settles_fld hset _).trans h2,
    (settles_fld hset _).trans h3, fun off ho => ?_, ?_⟩
  · rw [onlyIf, if_pos (by simp [hperst])]
    exact congrArg (fun z => Host.Outcome.next (finish z)) hchange
  · exact (settles_regGet hset off).trans ((hkeep.keeps off ho).trans (elapse_regGet off t s))
  · have hy : wakeReleased l y = { elapse t s with
        regs := y.regs, hif := linkHif l speed s
        pins := { s.pins with wakeN := if l = .l0 then false else s.pins.wakeN } } := by
      rw [← elapse_pins t s, ← hhif]
      exact (congrArg (fun z : State => wakeReleased l z) hframe :)
    rw [settles_regs hset]
    exact (congrArg (fun z => settles z (finish (wakeReleased l y))) hy).mp hset

/-- An exit from L1 to L0 in Pen, with PERST_N released (R86, R94). -/
theorem linkStateChange_fromL1 (hl : live s = true) (hm : memorySafe s) (hsrc : s.pwr.srcAt ≠ some (now (elapse t s)))
    {speed width : Nat} (hperst : s.pins.perst = false) (hheld : s.hif.held = []) (hst : s.pwr.st = .pen)
    (hlink : s.hif.link = .l1) (hs : speed < 2 ^ HIF_LINK.SPEED.width) (hw : width < 2 ^ HIF_LINK.WIDTH.width) :
    ∃ s', exec (.linkStateChange t .l0 speed width) s = .next s' ∧
      fld HIF_LINK.LSTATE s' = linkCode .l0 ∧ fld HIF_LINK.SPEED s' = speed ∧ fld HIF_LINK.WIDTH s' = width ∧
      fld PWR_STATUS.WAKE_SRC s' = 0x0C ∧ keepsRegs [HIF_LINK.reg, PWR_STATUS.reg] s s' ∧
      settles { elapse t s with
        regs := s'.regs, hif := linkHif .l0 speed s
        pwr := { s.pwr with st := .run, srcAt := some (now (elapse t s)) }
        pins := { s.pins with wakeN := false } } s' := by
  let x : State := elapse t s
  have he : x.pwr.entering = none := by simpa [x] using live_entering hl
  have hchange := linkChange_fromL1 (speed := speed) (width := width) (x := x) (by simpa [x] using hheld) he
    (by simpa [x] using hst) (by simpa [x] using hlink) (by simpa [x] using hsrc)
  obtain ⟨h1, h2, h3⟩ := linked_fields (l := .l0) (x := x) hs hw (memorySafe_elapse_wf hm t)
  have hkeep := linked_kept .l0 speed width x
  have hhif : (linked .l0 speed width x).hif = linkHif .l0 speed s := by
    rw [linkHif, ← elapse_hif t s, ← elapse_fld HIF_LINK.SPEED t s]
    rfl
  have hframe : linked .l0 speed width x = { x with
      regs := (linked .l0 speed width x).regs, hif := (linked .l0 speed width x).hif } := rfl
  have hwf : Regs.wf (linked .l0 speed width x) = true := hkeep.wf (memorySafe_elapse_wf hm t)
  generalize linked .l0 speed width x = y at *
  let y0 : State := { y with pwr := { x.pwr with st := .run, entering := none, srcAt := some (now x) } }
  obtain ⟨hwake, -⟩ := woken_fields (k := 0x0C) (x := y0) (by decide) hwf
  have hkeep0 : RegsKept [PWR_STATUS.reg] y0 (woken 0x0C y0) := woken_kept 0x0C y0
  have hframe0 : woken 0x0C y0 = { y0 with regs := (woken 0x0C y0).regs } := rfl
  have hchange' : linkChange .l0 speed width x = wakeReleased .l0 (woken 0x0C y0) := hchange
  generalize woken 0x0C y0 = z at *
  have hset : settles (wakeReleased .l0 z) (finish (wakeReleased .l0 z)) := by
    refine finish_settles_of s _ hl ?_ ?_
    · rw [wakeReleased, hframe0, show y0.lgr = y.lgr from rfl, hframe]
      exact elapse_lgr t s
    · rw [wakeReleased, hframe0, show y0.fold = y.fold from rfl, hframe]
      exact elapse_fold t s
  have hfld : ∀ f : Field, f.off = HIF_LINK.reg → fld f (finish (wakeReleased .l0 z)) = fld f y := fun f hf =>
    (settles_fld hset f).trans (hkeep0.fld f (by rw [hf]; decide))
  refine ⟨_, (command_live t _ s hl).trans ?_, (hfld _ rfl).trans h1, (hfld _ rfl).trans h2, (hfld _ rfl).trans h3,
    (settles_fld hset _).trans hwake, fun off ho => ?_, ?_⟩
  · rw [onlyIf, if_pos (by simp [hperst])]
    exact congrArg (fun z => Host.Outcome.next (finish z)) hchange'
  · simp only [List.mem_cons, List.not_mem_nil, or_false, not_or] at ho
    exact (settles_regGet hset off).trans ((hkeep0.keeps off (by simpa using ho.2)).trans
      ((hkeep.keeps off (by simpa using ho.1)).trans (elapse_regGet off t s)))
  · have hpwr : y0.pwr = { s.pwr with st := .run, srcAt := some (now (elapse t s)) } := by
      show ({ x.pwr with st := .run, entering := none, srcAt := some (now x) } : Pwr) = _
      rw [show x.pwr = s.pwr from elapse_pwr t s, ← live_entering hl]
    have hy0 : y0 = { elapse t s with
        regs := y.regs, hif := linkHif .l0 speed s, pwr := y0.pwr } := by
      rw [← hhif]
      exact (congrArg (fun w : State => { w with pwr := y0.pwr }) hframe :)
    have hy : wakeReleased .l0 z = { elapse t s with
        regs := z.regs, hif := linkHif .l0 speed s
        pwr := { s.pwr with st := .run, srcAt := some (now (elapse t s)) }
        pins := { s.pins with wakeN := false } } := by
      rw [← hpwr, ← elapse_pins t s]
      refine (congrArg (fun w : State => wakeReleased .l0 w) hframe0 :).trans ?_
      exact (congrArg (fun w : State => wakeReleased .l0 { w with regs := z.regs }) hy0 :)
    rw [settles_regs hset]
    exact (congrArg (fun w => settles w (finish (wakeReleased .l0 z))) hy).mp hset

/-- No reset holds a live device. -/
theorem live_unreset (hl : live s = true) : (s.pwr.inReset || s.pwr.vaonDown) = false := by
  have h := live_stopped hl
  simp only [stopped, Bool.or_eq_false_iff] at h
  simp [h.1.2, h.2]

/-- PERST_N in Fallow (R98). -/
theorem perstNAssert_fallow (hl : live s = true) (hm : memorySafe s) (hst : s.pwr.st = .fallow)
    (hr : s.nv.ledgerReady = true) :
    ∃ s', exec (.perstNAssert t false) s = .next s' ∧ fld PWR_RST_CAUSE.LINK s' = 1 ∧
      recordsOnly [] [PWR_RST_CAUSE.reg] { elapse t s with pins := { s.pins with perst := true } } s' := by
  let x : State := { elapse t s with pins := { (elapse t s).pins with perst := true } }
  let y : State := setFld PWR_RST_CAUSE.LINK 1 x
  have hr0 : y.nv.ledgerReady = true := by
    show (elapse t s).nv.ledgerReady = true
    simpa using hr
  have hxy : Recorded [] [PWR_RST_CAUSE.reg] x y := Recorded.setFld _ _ _ (by decide)
  have hrec : Recorded [] [] y (resetRecord y) := Recorded.append 0x17 _ 0 y hr0
  have hyz : Recorded [] [PWR_RST_CAUSE.reg] y (resetRecord y) := Recorded.append 0x17 _ 0 y hr0
  have hset : settles (resetRecord y) (finish (resetRecord y)) :=
    finish_settles_recorded (x := x) hl (congrArg Lgr.hostWait (elapse_lgr t s)) (elapse_fold t s) (hxy.trans hyz)
  have hrun : exec (.perstNAssert t false) s = .next (finish (resetRecord y)) := by
    show execPerstNAssert t false s = _
    rw [execPerstNAssert, outerCommand_calm _ _ _ (live_calm hl)]
    have h1 : (x.pwr.inReset || x.pwr.vaonDown) = false := by
      show ((elapse t s).pwr.inReset || (elapse t s).pwr.vaonDown) = false
      rw [elapse_pwr]
      exact live_unreset hl
    have h2 : (x.pwr.st == .fallow) = true := by
      show ((elapse t s).pwr.st == .fallow) = true
      rw [elapse_pwr, hst]
      rfl
    show Host.Outcome.next (finish (if (x.pwr.inReset || x.pwr.vaonDown) = true then x else
      if (x.pwr.st == .fallow) = true then resetRecord y else _)) = _
    rw [h1, if_neg (by decide), if_pos h2]
  refine ⟨_, hrun, ?_, ?_⟩
  · rw [settles_fld hset]
    refine (hrec.fld PWR_RST_CAUSE.LINK (by decide)).trans ?_
    exact (fld_setFld_same PWR_RST_CAUSE.LINK (by decide) 1 x (memorySafe_elapse_wf hm t)).trans (by decide)
  · rw [← elapse_pins t s]
    exact recordsOnly_settles ((hxy.trans hyz).recordsOnly rfl rfl rfl) hset

/-- PERST_N or a Function Level Reset elsewhere (R98). -/
theorem perstNAssert_awake (hl : live s = true) (hm : memorySafe s) {flr : Bool} (hst : s.pwr.st ≠ .fallow)
    (hr : s.nv.ledgerReady = true) (hflr : flr = true → linkUp s = true) :
    ∃ s', exec (.perstNAssert t flr) s = .next s' ∧
      recordsOnly [] (PWR_RST_CAUSE.reg :: PWR_STATUS.reg :: List.range 0x400)
        { (if flr = true then tlpWake (elapse t s) else elapse t s) with
          pins := { s.pins with perst := s.pins.perst || !flr } } s' ∧
      fld PWR_RST_CAUSE.LINK s' = 1 ∧
      (∀ off < 0x400, off ≠ HIF_STATUS.reg → off ≠ HIF_LINK.reg → off ≠ HIF_FAULT.reg →
        regGet off s' = regReset s.part off) ∧
      flag HIF_STATUS.READY s' = flag HIF_STATUS.READY s ∧
      s'.hif.link = (if flr = true then s.hif.link else .down) ∧ s'.hif.qps = Hif.reset.qps ∧ s'.hif.busMaster = false ∧
      s'.hif.msixEn = false ∧ s'.hif.held = [] ∧ s'.hif.droverQ = s.hif.droverQ ∧
      (flr = true → regGet HIF_LINK.reg s' = regGet HIF_LINK.reg s) ∧
      (flr = false → regGet HIF_LINK.reg s' = regReset s.part HIF_LINK.reg ∧ s'.hif.trained = false) ∧
      s'.hif.flight = s.hif.flight.map (fun (f : Flight) => if isHost f.d then { f with discard := true } else f) ∧
      ∃ more, s'.hif.backlog = s.hif.backlog ++ more := by
  let w : State := { (if flr = true then tlpWake (elapse t s) else elapse t s) with
    pins := { s.pins with perst := s.pins.perst || !flr } }
  have he : (elapse t s).pwr.entering = none := by simpa using live_entering hl
  have hframe := tlpWake_eq (elapse t s) he
  have hrest : w.hif = s.hif ∧ w.lgr = s.lgr ∧ w.fold = s.fold ∧ w.nv.ledgerReady = s.nv.ledgerReady ∧ w.part = s.part := by
    cases flr with
    | false => exact ⟨elapse_hif t s, elapse_lgr t s, elapse_fold t s, elapse_nv_ledgerReady t s, elapse_part t s⟩
    | true =>
      show (tlpWake (elapse t s)).hif = _ ∧ (tlpWake (elapse t s)).lgr = _ ∧ (tlpWake (elapse t s)).fold = _ ∧
        (tlpWake (elapse t s)).nv.ledgerReady = _ ∧ (tlpWake (elapse t s)).part = _
      rw [hframe]
      exact ⟨elapse_hif t s, elapse_lgr t s, elapse_fold t s, elapse_nv_ledgerReady t s, elapse_part t s⟩
  have hwreg : ∀ o, o ≠ PWR_STATUS.reg → regGet o w = regGet o s := by
    intro o ho
    cases flr with
    | false => exact elapse_regGet o t s
    | true => exact tlpWake_regGet t hl ho
  have hwwf : Regs.wf w = true := by
    cases flr with
    | false => exact memorySafe_elapse_wf hm t
    | true => exact tlpWake_regs_wf t hl hm
  obtain ⟨hhif, hlgr, hfold, hready, hpart⟩ := hrest
  have hrun : exec (.perstNAssert t flr) s = .next (finish (hostLinkReset flr w)) := by
    have h1 := live_unreset hl
    show execPerstNAssert t flr s = _
    rw [execPerstNAssert, outerCommand_calm _ _ _ (live_calm hl)]
    cases flr with
    | false =>
      have hw : w = { elapse t s with pins := { (elapse t s).pins with perst := true } } := by
        show ({ elapse t s with pins := { s.pins with perst := s.pins.perst || true } } : State) = _
        rw [Bool.or_true, elapse_pins]
      rw [hw]
      simp [h1, hst, onlyIf]
    | true =>
      have hw : w = tlpWake (elapse t s) := by
        show ({ tlpWake (elapse t s) with pins := { s.pins with perst := s.pins.perst || false } } : State) = _
        rw [Bool.or_false, ← elapse_pins t s, hframe]
      have hup : linkUp (elapse t s) = true := by simpa [linkUp] using hflr rfl
      rw [hw]
      simp [h1, hst, onlyIf, hup]
  obtain ⟨honly, hcause, hregs, more, hmore⟩ := hostLinkReset_ends (w := w) hl flr hwwf hlgr hfold
    (hready.trans hr) (rfl : finish (hostLinkReset flr w) = _)
  obtain ⟨-, hclear, hlink, hrdy⟩ := resetLink_regs flr hwwf
  rw [resetLink_hif, hhif] at hmore
  refine ⟨_, hrun, honly, hcause, fun off hlt h1 h2 h3 => ?_, ?_, ?_, ?_, ?_, ?_, ?_, ?_, fun hf => ?_, fun hf => ⟨?_, ?_⟩,
    ?_, more, ?_⟩
  · rw [hregs off hlt h3, hclear off hlt h1 h2, hpart]
  · have h : fld HIF_STATUS.READY (finish (hostLinkReset flr w)) = fld HIF_STATUS.READY s := by
      rw [fld, hregs _ (by decide) (by decide)]
      refine hrdy.trans ?_
      rw [fld, hwreg _ (by decide), fld]
    rw [flag, flag, h]
  · rw [hmore]
  · rw [hmore]
  · rw [hmore]
    rfl
  · rw [hmore]
    rfl
  · rw [hmore]
    rfl
  · rw [hmore]
  · rw [hregs _ (by decide) (by decide), hlink, if_pos hf, hwreg _ (by decide)]
  · rw [hregs _ (by decide) (by decide), hlink, if_neg (by rw [hf]; decide), hpart]
  · rw [hmore]
    simp [hf]
  · rw [hmore]
  · rw [hmore]

end

/-- Settles O51: by the link's event. -/
theorem linkStatesAndResets : Obligations.LinkStatesAndResets := by
  unfold Obligations.LinkStatesAndResets
  intro s t hl hm hsh hsrc
  dsimp only
  have hquiet : ∀ c, exec c s = .next (finish (elapse t s)) → ∃ s', exec c s = .next s' ∧ settles (elapse t s) s' :=
    fun c hc => ⟨_, hc, finish_settles_of s _ hl (elapse_lgr t s) (elapse_fold t s)⟩
  refine ⟨fun l speed width hperst hheld hst hs hw => ?_, fun l speed width hperst hne => ?_, pmeTurnOff_live hl hm hsrc, fun hoff hidle => ?_, fun hoff hidle => ?_,
    fun hst hr => ?_, fun flr hst hr hflr => ?_⟩
  · rcases hst with hst | ⟨hst, hlink, rfl⟩
    · obtain ⟨s', h1, h2, h3, h4, h5, h6⟩ := linkStateChange_inRun (t := t) (l := l) hl hm hperst hheld hst hs hw
      refine ⟨s', h1, h2, h3, h4, fun _ => h5, fun h => absurd (hst.symm.trans h) (by decide), ?_⟩
      rw [if_pos hst, ← elapse_pwr t s]
      exact h6
    · obtain ⟨s', h1, h2, h3, h4, h5, h6, h7⟩ := linkStateChange_fromL1 hl hm hsrc hperst hheld hst hlink hs hw
      refine ⟨s', h1, h2, h3, h4, fun h => absurd (hst.symm.trans h) (by decide), fun _ => ⟨h5, h6⟩, ?_⟩
      rw [if_neg (by rw [hst]; decide)]
      exact h7
  · refine hquiet _ ((command_live t _ s hl).trans ?_)
    rw [onlyIf, if_neg (by simp [hperst, hne])]
  · refine ⟨_, (command_live t _ s hl).trans ?_,
      finish_settles_of s { elapse t s with hif := { s.hif with pmeOff := false } } hl (elapse_lgr t s) (elapse_fold t s)⟩
    rw [onlyIf, if_pos (by rw [hidle]; simp [hoff]), elapse_hif]
  · refine hquiet _ ((command_live t _ s hl).trans ?_)
    rw [onlyIf, if_neg (by rw [hidle]; simp)]
  · exact perstNAssert_fallow hl hm hst hr
  · exact perstNAssert_awake hl hm hst hr hflr

end Sys2Proof.Machine
end

section
/-! SUPPORT. Sealing and releasing blocks. -/
namespace Sys2Proof.Machine

section
variable {s : State} {t : Nat}

/-! ## Positions of blocks -/

/-- The rings have room for more than two blocks. -/
theorem lgrN_gt (s : State) : 2 < lgrN s := by
  unfold lgrN
  cases s.part <;> decide

/-- A block's position is apart from that of the block after it, and that of the one after that. -/
theorem blockAddr_apart (s : State) (i : Nat) {j : Nat} (h1 : 0 < j) (h2 : j ≤ 2) (hi : 1 ≤ i) :
    blockAddr i s + 64 ≤ blockAddr (i + j) s ∨ blockAddr (i + j) s + 64 ≤ blockAddr i s := by
  have hN := lgrN_gt s
  have hne : (i - 1) % lgrN s ≠ (i + j - 1) % lgrN s := by
    intro h
    have hdvd := (Nat.modEq_iff_dvd' (show i - 1 ≤ i + j - 1 by omega)).mp h
    have hle := Nat.le_of_dvd (by omega) hdvd
    omega
  unfold blockAddr
  omega

/-! ## Writes within a range -/

theorem nvPeek_length (a n : Nat) (s : State) : (nvPeek a n s).length = n := by simp [nvPeek, mread]

/-- A range is its beginning and what follows. -/
theorem nvPeek_add (a m n : Nat) (s : State) : nvPeek a (m + n) s = nvPeek a m s ++ nvPeek (a + m) n s := by
  simp [nvPeek, mread, List.range_add, Function.comp_def, Nat.add_assoc]

/-- A range in which a part has been written. -/
theorem nvPeek_nvWrite_within {a o n : Nat} {bs : Bytes} {s : State} (hw : s.nv.worn = [])
    (hm : Memory.wf nvDflt s.nv.mem = true) (hfit : o + bs.length ≤ n) :
    nvPeek a n (nvWrite (a + o) bs s).1 =
      (nvPeek a n s).take o ++ bs ++ (nvPeek a n s).drop (o + bs.length) := by
  obtain ⟨r, rfl⟩ := Nat.exists_eq_add_of_le hfit
  have hsplit : ∀ x, nvPeek a (o + bs.length + r) x =
      nvPeek a o x ++ nvPeek (a + o) bs.length x ++ nvPeek (a + o + bs.length) r x := by
    intro x
    rw [nvPeek_add, nvPeek_add, Nat.add_assoc a]
  have hlen := nvPeek_length a o s
  have hlen2 : (nvPeek a o s ++ nvPeek (a + o) bs.length s).length = o + bs.length := by
    rw [List.length_append, hlen, nvPeek_length]
  rw [hsplit, hsplit, nvPeek_nvWrite_same _ _ _ hw hm, nvPeek_nvWrite_apart (a + o) a o bs s hw hm (.inl (by omega)),
    nvPeek_nvWrite_apart (a + o) (a + o + bs.length) r bs s hw hm (.inr (by omega)), List.drop_left' hlen2,
    List.append_assoc (nvPeek a o s) (nvPeek (a + o) _ _), List.take_left' hlen]

/-- One of a row of equal pieces. -/
theorem take_drop_flatten_replicate {α : Type} {p : List α} {m : Nat} (hp : p.length = m) :
    ∀ {n j : Nat}, j < n → (((List.replicate n p).flatten).drop (m * j)).take m = p
  | 0, _, h => absurd h (by omega)
  | n + 1, 0, _ => by simp [List.replicate_succ, hp ▸ List.take_left' rfl]
  | n + 1, j + 1, h => by
    have hm : m * (j + 1) = p.length + m * j := by rw [hp]; ring
    rw [List.replicate_succ, List.flatten_cons, hm, List.drop_append, List.drop_eq_nil_of_le (by omega), List.nil_append,
      Nat.add_sub_cancel_left]
    exact take_drop_flatten_replicate hp (by omega)

/-! ## The length of a tag -/

/-- A block encrypted under round keys of 16 numbers has 16. -/
theorem encRounds_length {ks : List (List Nat)} (hk : ∀ k ∈ ks, k.length = 16) (hne : ks ≠ []) (b : List Nat) :
    (encRounds ks b).length = 16 := by
  induction ks generalizing b with
  | nil => exact absurd rfl hne
  | cons k ks ih =>
    cases ks with
    | nil => simp [encRounds, xorL, shiftRows, hk]
    | cons k' ks => exact ih (fun z hz => hk z (List.mem_cons_of_mem _ hz)) (List.cons_ne_nil _ _) _

/-- K_led has such round keys. -/
theorem roundKeys_kLed : (roundKeys kLed).length = 11 ∧ ∀ k ∈ (roundKeys kLed).drop 1, k.length = 16 := by decide +kernel

/-- A tag has 8 bytes (R368). -/
theorem chainTag_length (prev blk : Bytes) : (chainTag prev blk).length = 8 := by
  obtain ⟨hn, hk⟩ := roundKeys_kLed
  have hne : (roundKeys kLed).drop 1 ≠ [] := by
    intro h
    have := congrArg List.length h
    rw [List.length_drop, hn] at this
    exact absurd this (by decide)
  have henc : ∀ b, (aesEnc kLed b).length = 16 := fun b => by
    rw [aesEnc, List.length_map]
    exact encRounds_length hk hne _
  have hmac : ∀ (start last : Bytes) (bs : List Bytes), (cbcMac kLed start (bs ++ [last])).length = 16 := by
    intro start last bs
    rw [cbcMac, List.foldl_append]
    exact henc _
  rw [chainTag, List.length_take, cmac, hmac]
  rfl

/-! ## The seal -/

/-- A write of the ledger touches the array. -/
theorem lgrWrite_fresh (p : Nat) (bs : Bytes) {x : State} (hw : x.nv.worn = []) :
    blankArray (lgrWrite p bs x) = blankArray x ∧
      (Memory.wf nvDflt x.nv.mem = true → Memory.wf nvDflt (lgrWrite p bs x).nv.mem = true) :=
  ⟨(nvWriteWords_fresh p bs _ x hw).2, nvWriteWords_wf p bs _ x hw⟩

/-- The pre-clear touches the array and the ledger, and no block but that of the next position. -/
theorem preClear_fresh {x : State} (hw : x.nv.worn = []) (hm : Memory.wf nvDflt x.nv.mem = true) :
    blankArray (preClear x) = { blankArray x with lgr := (preClear x).lgr } ∧
      (preClear x).lgr = { x.lgr with preclear := (preClear x).lgr.preclear, head := (preClear x).lgr.head } ∧
      ∀ a, a + 64 ≤ blockAddr x.lgr.next x ∨ blockAddr x.lgr.next x + 64 ≤ a → nvPeek a 64 (preClear x) = nvPeek a 64 x := by
  unfold preClear
  split
  · obtain ⟨hb, -⟩ := lgrWrite_fresh (blockAddr x.lgr.next x) (List.replicate 64 0) hw
    have hlgr : (lgrWrite (blockAddr x.lgr.next x) (List.replicate 64 0) x).lgr = x.lgr := (congrArg State.lgr hb :)
    have hapart : ∀ a, a + 64 ≤ blockAddr x.lgr.next x ∨ blockAddr x.lgr.next x + 64 ≤ a →
        nvPeek a 64 (lgrWrite (blockAddr x.lgr.next x) (List.replicate 64 0) x) = nvPeek a 64 x := fun a ha =>
      nvPeek_nvWrite_apart _ a 64 _ x hw hm (by rw [List.length_replicate]; exact ha)
    generalize lgrWrite (blockAddr x.lgr.next x) (List.replicate 64 0) x = y at *
    exact ⟨(congrArg (fun z : State => { z with lgr := { y.lgr with
      preclear := false, head := max y.lgr.head (y.lgr.next + 1 - lgrN y) } }) hb :), by rw [← hlgr], hapart⟩
  · exact ⟨rfl, rfl, fun _ _ => rfl⟩

/-- What the seal of a block with `k` records is (R368, R369, R378). -/
structure BlockSealed (flagBits k : Nat) (x y : State) : Prop where
  frame : y = { x with regs := y.regs, nv := y.nv, lgr := y.lgr }
  recs : y.nv.recs = x.nv.recs
  openRecs : y.lgr.openRecs = none
  next : y.lgr.next = x.lgr.next
  w : y.lgr.w = x.lgr.w
  signed : y.lgr.signed = x.lgr.signed
  ckpt : y.lgr.ckpt = x.lgr.ckpt ++ (if (x.lgr.next - 1) % 4096 = 0 then [(x.lgr.next - 1) / 4096 - 1] else [])
  before : (blockBytes (x.lgr.next - 1) y).take (8 + 8 * k) = (blockBytes (x.lgr.next - 1) x).take (8 + 8 * k)
  pads : ∀ i, k ≤ i → i < 6 → slice (8 + 8 * i) 8 (blockBytes (x.lgr.next - 1) y) =
    padBytes flagBits x.clk.wall.toNat (leAt 4 4 (blockBytes (x.lgr.next - 1) x))
  tag : (blockBytes (x.lgr.next - 1) y).drop 56 =
    chainTag (prevTag (x.lgr.next - 1) y) (blockBytes (x.lgr.next - 1) y)
  regs : RegsKept [LGR_STATUS.reg] x y

/-- The block's bytes: those before, the PAD records, and the tag. -/
def sealedBytes (flagBits k : Nat) (x : State) : Bytes :=
  (blockBytes (x.lgr.next - 1) x).take (8 + 8 * k) ++
    (List.replicate (6 - k) (padBytes flagBits x.clk.wall.toNat (leAt 4 4 (blockBytes (x.lgr.next - 1) x)))).flatten

theorem padBytes_length (f w b : Nat) : (padBytes f w b).length = 8 := by
  unfold padBytes
  exact recordBytes_length _ _ _ _

theorem sealedBytes_length {flagBits k : Nat} (x : State) (hk : k < 6) : (sealedBytes flagBits k x).length = 56 := by
  simp only [sealedBytes, List.length_append, List.length_take, blockBytes, nvPeek_length, List.length_flatten,
    List.map_replicate, padBytes_length, List.sum_replicate, smul_eq_mul]
  omega

/-- Its PAD records (R369). -/
theorem sealedBytes_pads {flagBits k : Nat} (x : State) (rest : Bytes) {i : Nat} (hk : k ≤ i) (hi : i < 6) :
    slice (8 + 8 * i) 8 (sealedBytes flagBits k x ++ rest) =
      padBytes flagBits x.clk.wall.toNat (leAt 4 4 (blockBytes (x.lgr.next - 1) x)) := by
  have hhead : ((blockBytes (x.lgr.next - 1) x).take (8 + 8 * k)).length = 8 + 8 * k := by
    rw [List.length_take, blockBytes, nvPeek_length]
    omega
  have hpad := padBytes_length flagBits x.clk.wall.toNat (leAt 4 4 (blockBytes (x.lgr.next - 1) x))
  have hpiece := take_drop_flatten_replicate hpad (n := 6 - k) (j := i - k) (by omega)
  have hpads : (List.replicate (6 - k)
      (padBytes flagBits x.clk.wall.toNat (leAt 4 4 (blockBytes (x.lgr.next - 1) x)))).flatten.length = 8 * (6 - k) := by
    simp [List.length_flatten, List.map_replicate, hpad, Nat.mul_comm]
  rw [sealedBytes]
  generalize (List.replicate (6 - k) _).flatten = pads at *
  generalize (blockBytes (x.lgr.next - 1) x).take (8 + 8 * k) = head at *
  have hdrop : (head ++ pads ++ rest).drop (8 + 8 * i) = pads.drop (8 * (i - k)) ++ rest := by
    rw [List.append_assoc, show 8 + 8 * i = head.length + 8 * (i - k) by omega, List.drop_append,
      List.drop_eq_nil_of_le (by omega), List.nil_append, Nat.add_sub_cancel_left, List.drop_append_of_le_length (by omega)]
  have htake : ((head ++ pads ++ rest).drop (8 + 8 * i)).take 8 =
      padBytes flagBits x.clk.wall.toNat (leAt 4 4 (blockBytes (x.lgr.next - 1) x)) := by
    rw [hdrop, List.take_append_of_le_length (by rw [List.length_drop]; omega), hpiece]
  simp only [slice, htake, hpad, Nat.sub_self, List.replicate_zero, List.append_nil]

/-- The open block with its free slots padded. -/
def padded (flagBits k : Nat) (x : State) : State :=
  lgrWrite (blockAddr (x.lgr.next - 1) x + (8 + 8 * k)) (List.replicate (6 - k)
    (padBytes flagBits x.clk.wall.toNat (leAt 4 4 (blockBytes (x.lgr.next - 1) x)))).flatten x

/-- Block `q` with its tag. -/
def tagged (q : Nat) (x : State) : State :=
  lgrWrite (blockAddr q x + 56) (chainTag (prevTag q x) (blockBytes q x)) x

/-- The ledger's own state once block `q` is sealed (R378). -/
def marked (q : Nat) (x : State) : State :=
  let y : State := { x with lgr := { x.lgr with
    openRecs := none, marks := []
    ckpt := if q % 4096 = 0 then x.lgr.ckpt ++ [q / 4096 - 1] else x.lgr.ckpt
    closed := x.lgr.closed || q ≥ 0xFFFFFFFF } }
  setFlag LGR_STATUS.CKPT_PEND (!y.lgr.ckpt.isEmpty) y

/-- The number of four bytes lies within the first eight. -/
theorem leAt_base (a : Nat) (x : State) : leAt 4 4 (nvPeek a 8 x) = leAt 4 4 (nvPeek a 64 x) := by
  have h : ((nvPeek a 8 x).drop 4).take 4 = ((nvPeek a 64 x).drop 4).take 4 := by
    rw [nvPeek_take (show 8 ≤ 64 by decide), List.drop_take, List.take_take]
    rfl
  simp only [leAt, slice, h]

/-- The seal in steps: the PAD records, the tag, the ledger's own state, and the pre-clear. -/
theorem sealBlock_steps {flagBits k : Nat} {x : State} (hw : x.nv.worn = []) (ho : x.lgr.openRecs = some k)
    (hlt : x.lgr.next - 1 < 0xFFFFFFFF) :
    sealBlock flagBits x = preClear (marked (x.lgr.next - 1) (tagged (x.lgr.next - 1) (padded flagBits k x))) := by
  have hpart : (padded flagBits k x).part = x.part := (congrArg State.part (lgrWrite_fresh _ _ hw).1 :)
  have hpad : lgrWrite (blockAddr (x.lgr.next - 1) x + 8 + 8 * k) (List.replicate (6 - k)
      (padBytes flagBits x.clk.wall.toNat (leAt 4 4 (nvPeek (blockAddr (x.lgr.next - 1) x) 8 x)))).flatten x =
      padded flagBits k x := by
    rw [leAt_base, Nat.add_assoc (blockAddr _ x)]
    rfl
  have htag : lgrWrite (blockAddr (x.lgr.next - 1) x + 56)
      (chainTag (prevTag (x.lgr.next - 1) (padded flagBits k x)) (blockBytes (x.lgr.next - 1) (padded flagBits k x)))
      (padded flagBits k x) = tagged (x.lgr.next - 1) (padded flagBits k x) := by
    rw [tagged, blockAddr_congr hpart]
  unfold sealBlock
  simp only [ho]
  rw [hpad, htag, if_neg (by omega)]
  generalize tagged (x.lgr.next - 1) (padded flagBits k x) = y
  rfl

/-- The block with its PAD records. -/
theorem padded_bytes {flagBits k : Nat} {x : State} (hw : x.nv.worn = []) (hm : Memory.wf nvDflt x.nv.mem = true)
    (hk : k < 6) : (blockBytes (x.lgr.next - 1) (padded flagBits k x)).take 56 = sealedBytes flagBits k x := by
  have hpart : (padded flagBits k x).part = x.part := (congrArg State.part (lgrWrite_fresh _ _ hw).1 :)
  have hlen : (List.replicate (6 - k)
      (padBytes flagBits x.clk.wall.toNat (leAt 4 4 (blockBytes (x.lgr.next - 1) x)))).flatten.length = 8 * (6 - k) := by
    simp [List.length_flatten, List.map_replicate, padBytes_length, Nat.mul_comm]
  have hwithin := nvPeek_nvWrite_within (a := blockAddr (x.lgr.next - 1) x) (o := 8 + 8 * k) (n := 64)
    (bs := (List.replicate (6 - k)
      (padBytes flagBits x.clk.wall.toNat (leAt 4 4 (blockBytes (x.lgr.next - 1) x)))).flatten) hw hm (by omega)
  have hbytes : blockBytes (x.lgr.next - 1) (padded flagBits k x) =
      sealedBytes flagBits k x ++ (blockBytes (x.lgr.next - 1) x).drop (8 + 8 * k + 8 * (6 - k)) := by
    rw [blockBytes, blockAddr_congr hpart]
    rw [hlen] at hwithin
    exact hwithin
  rw [hbytes, List.take_left' (sealedBytes_length x hk)]

/-- A block with its tag. -/
theorem tagged_bytes (q : Nat) {x : State} (hw : x.nv.worn = []) (hm : Memory.wf nvDflt x.nv.mem = true) :
    blockBytes q (tagged q x) = (blockBytes q x).take 56 ++ chainTag (prevTag q x) (blockBytes q x) := by
  have hpart : (tagged q x).part = x.part := (congrArg State.part (lgrWrite_fresh _ _ hw).1 :)
  have hlen := chainTag_length (prevTag q x) (blockBytes q x)
  have hwithin := nvPeek_nvWrite_within (a := blockAddr q x) (o := 56) (n := 64)
    (bs := chainTag (prevTag q x) (blockBytes q x)) hw hm (by omega)
  rw [hlen, List.drop_eq_nil_of_le (by rw [nvPeek_length]), List.append_nil] at hwithin
  rw [blockBytes, blockAddr_congr hpart]
  exact hwithin

/-- A tag is told from the block's first bytes. -/
theorem chainTag_congr (prev : Bytes) {a b : Bytes} (h : a.take 56 = b.take 56) : chainTag prev a = chainTag prev b := by
  rw [chainTag, chainTag, h]

/-- The seal of a block (R369). -/
theorem sealBlock_sealed {flagBits k : Nat} {x : State} (hw : x.nv.worn = []) (hm : Memory.wf nvDflt x.nv.mem = true)
    (ho : x.lgr.openRecs = some k) (hk : k < 6) (h1 : 1 ≤ x.lgr.next - 1) (hlt : x.lgr.next - 1 < 0xFFFFFFFF) :
    BlockSealed flagBits k x (sealBlock flagBits x) := by
  obtain ⟨hb1, hwf1⟩ := lgrWrite_fresh (blockAddr (x.lgr.next - 1) x + (8 + 8 * k)) (List.replicate (6 - k)
    (padBytes flagBits x.clk.wall.toNat (leAt 4 4 (blockBytes (x.lgr.next - 1) x)))).flatten hw
  have hbytes1 := padded_bytes (flagBits := flagBits) hw hm hk
  rw [sealBlock_steps hw ho hlt]
  generalize hq : x.lgr.next - 1 = q at *
  have hx1 : padded flagBits k x = lgrWrite (blockAddr q x + (8 + 8 * k)) (List.replicate (6 - k)
    (padBytes flagBits x.clk.wall.toNat (leAt 4 4 (blockBytes q x)))).flatten x := by rw [padded, hq]
  rw [← hx1] at hb1 hwf1
  generalize padded flagBits k x = x1 at *
  have hw1 : x1.nv.worn = [] := (congrArg (fun z : State => z.nv.worn) hb1 :).trans hw
  obtain ⟨hb2, hwf2⟩ := lgrWrite_fresh (blockAddr q x1 + 56) (chainTag (prevTag q x1) (blockBytes q x1)) hw1
  have hbytes2 := tagged_bytes q hw1 (hwf1 hm)
  have hkeep2 : ∀ a, a + 64 ≤ blockAddr q x1 ∨ blockAddr q x1 + 64 ≤ a → nvPeek a 64 (tagged q x1) = nvPeek a 64 x1 :=
    fun a ha => nvPeek_nvWrite_apart _ a 64 _ x1 hw1 (hwf1 hm) (by rw [chainTag_length]; omega)
  have hx2 : tagged q x1 = lgrWrite (blockAddr q x1 + 56) (chainTag (prevTag q x1) (blockBytes q x1)) x1 := rfl
  rw [← hx2] at hb2 hwf2
  generalize tagged q x1 = x2 at *
  have hb : blankArray x2 = blankArray x := hb2.trans hb1
  have hpart : x2.part = x.part := (congrArg State.part hb :)
  have hpart1 : x1.part = x.part := (congrArg State.part hb1 :)
  have hlgr : x2.lgr = x.lgr := (congrArg State.lgr hb :)
  have hw2 : (marked q x2).nv.worn = [] := (congrArg (fun z : State => z.nv.worn) hb :).trans hw
  obtain ⟨hb3, hlgr3, hkeep3⟩ := preClear_fresh hw2 (hwf2 (hwf1 hm))
  have hnext : (marked q x2).lgr.next = q + 1 := by
    show x2.lgr.next = q + 1
    rw [hlgr]
    omega
  rw [hnext] at hkeep3
  have hbytes3 : blockBytes q (preClear (marked q x2)) = blockBytes q x2 := by
    have hp : (preClear (marked q x2)).part = x2.part := (congrArg State.part hb3 :)
    rw [blockBytes, blockAddr_congr hp, blockBytes]
    exact hkeep3 _ (blockAddr_apart (marked q x2) q (j := 1) (by decide) (by decide) h1)
  have hprev : prevTag q (preClear (marked q x2)) = prevTag q x1 := by
    unfold prevTag
    split
    · rfl
    · next hq1 =>
      have hp : (preClear (marked q x2)).part = x2.part := (congrArg State.part hb3 :)
      have h12 := blockAddr_apart x1 (q - 1) (j := 1) (by decide) (by decide) (by omega)
      have h13 := blockAddr_apart (marked q x2) (q - 1) (j := 2) (by decide) (by decide) (by omega)
      rw [show q - 1 + 1 = q by omega] at h12
      rw [show q - 1 + 2 = q + 1 by omega] at h13
      rw [blockBytes, blockAddr_congr hp, blockBytes, blockAddr_congr (hpart1.trans hpart.symm)]
      refine congrArg (List.drop 56) ((hkeep3 _ h13).trans (hkeep2 _ ?_))
      rw [show blockAddr (q - 1) (marked q x2) = blockAddr (q - 1) x1 from blockAddr_congr (hpart.trans hpart1.symm) _]
      exact h12
  have htag : chainTag (prevTag q x1) (blockBytes q x1) =
      chainTag (prevTag q x1) (blockBytes q (preClear (marked q x2))) := by
    refine chainTag_congr _ ?_
    rw [hbytes3, hbytes2, hbytes1, List.take_left' (sealedBytes_length x hk)]
  have hfinal : blockBytes q (preClear (marked q x2)) =
      sealedBytes flagBits k x ++ chainTag (prevTag q x1) (blockBytes q x1) := by
    rw [hbytes3, hbytes2, hbytes1]
  have hhead : ((blockBytes q x).take (8 + 8 * k)).length = 8 + 8 * k := by
    rw [List.length_take, blockBytes, nvPeek_length]
    omega
  generalize preClear (marked q x2) = y at *
  have hframe : blankArray y = { blankArray x with regs := (marked q x2).regs, lgr := y.lgr } :=
    hb3.trans ((congrArg (fun z : State => { z with regs := (marked q x2).regs, lgr := y.lgr }) hb :))
  have hnv : ∀ (z : State), { z with nv := y.nv } = { blankArray z with nv := y.nv } := fun _ => rfl
  constructor
  case frame =>
    have hregs : y.regs = (marked q x2).regs := (congrArg State.regs hframe :)
    have h := (congrArg (fun z : State => { z with nv := y.nv }) hframe :)
    rw [← hregs] at h
    exact h
  case recs => exact (congrArg (fun z : State => z.nv.recs) hframe :)
  case openRecs => rw [hlgr3]; rfl
  case next => rw [hlgr3, hnext]; omega
  case w => rw [hlgr3, ← hlgr]; rfl
  case signed => rw [hlgr3, ← hlgr]; rfl
  case ckpt =>
    rw [hlgr3, hq]
    show (if q % 4096 = 0 then x2.lgr.ckpt ++ [q / 4096 - 1] else x2.lgr.ckpt) = _
    rw [hlgr]
    split
    · rfl
    · rw [List.append_nil]
  case before =>
    rw [hq, hfinal, sealedBytes, hq, List.append_assoc, List.take_left' hhead]
  case pads =>
    intro i hki hi
    rw [hq, hfinal, sealedBytes_pads x _ hki hi, hq]
  case tag =>
    rw [hq, hprev, ← htag, hfinal, List.drop_left' (sealedBytes_length x hk)]
  case regs =>
    have h1 : RegsKept [LGR_STATUS.reg] x x2 := .of_eq _ (congrArg State.regs hb :) hpart
    have h2 : RegsKept [LGR_STATUS.reg] x2 (marked q x2) :=
      RegsKept.trans (b := { x2 with lgr := { x2.lgr with
        openRecs := none, marks := []
        ckpt := if q % 4096 = 0 then x2.lgr.ckpt ++ [q / 4096 - 1] else x2.lgr.ckpt
        closed := x2.lgr.closed || q ≥ 0xFFFFFFFF } }) (.of_eq _ rfl rfl) (.setFld _ _ _ (by decide))
    exact (h1.trans h2).trans (.of_eq _ (congrArg State.regs hb3 :) (congrArg State.part hb3 :))

/-! ## LEDGER_SEAL and its timer -/

/-- What a state sealed at the tick is, told from the state before. -/
def SealedFrom (s : State) (t flagBits k : Nat) (s1 : State) : Prop :=
  s1 = { elapse t s with regs := s1.regs, nv := s1.nv, lgr := s1.lgr } ∧ s1.nv.recs = s.nv.recs ∧
    s1.lgr.openRecs = none ∧ s1.lgr.next = s.lgr.next ∧ s1.lgr.w = s.lgr.w ∧ s1.lgr.signed = s.lgr.signed ∧
    s1.lgr.ckpt = s.lgr.ckpt ++ (if (s.lgr.next - 1) % 4096 = 0 then [(s.lgr.next - 1) / 4096 - 1] else []) ∧
    (blockBytes (s.lgr.next - 1) s1).take (8 + 8 * k) = (blockBytes (s.lgr.next - 1) s).take (8 + 8 * k) ∧
    (∀ i, k ≤ i → i < 6 → slice (8 + 8 * i) 8 (blockBytes (s.lgr.next - 1) s1) =
      padBytes flagBits (elapse t s).clk.wall.toNat (leAt 4 4 (blockBytes (s.lgr.next - 1) s))) ∧
    (blockBytes (s.lgr.next - 1) s1).drop 56 = chainTag (prevTag (s.lgr.next - 1) s1) (blockBytes (s.lgr.next - 1) s1) ∧
    keepsRegs [LGR_STATUS.reg] s s1

/-- The tick keeps the blocks. -/
theorem elapse_blockBytes (q t : Nat) (s : State) : blockBytes q (elapse t s) = blockBytes q s := by
  rw [elapse_eq]
  rfl

/-- A seal of the state at the tick. -/
theorem SealedFrom.of_sealed {flagBits k : Nat} {y : State} (h : BlockSealed flagBits k (elapse t s) y) :
    SealedFrom s t flagBits k y := by
  obtain ⟨hframe, hrecs, hopen, hnext, hw, hsigned, hckpt, hbefore, hpads, htag, hregs⟩ := h
  simp only [elapse_lgr, elapse_blockBytes] at hnext hw hsigned hckpt hbefore hpads htag
  exact ⟨hframe, hrecs.trans (elapse_nv_recs t s), hopen, hnext, hw, hsigned, hckpt, hbefore, hpads, htag,
    fun off ho => (hregs.keeps off ho).trans (elapse_regGet off t s)⟩

/-- The same of the state in which a unit works. -/
theorem SealedFrom.of_working {flagBits k tn : Nat} {fl : List Flight} {y : State}
    (h : BlockSealed flagBits k (working fl tn (elapse t s)) y) :
    SealedFrom s t flagBits k { y with hif := (elapse t s).hif } := by
  refine .of_sealed ⟨?_, h.recs, h.openRecs, h.next, h.w, h.signed, h.ckpt, h.before, h.pads, h.tag, ?_⟩
  · exact (congrArg (fun z : State => { z with hif := (elapse t s).hif }) h.frame :)
  · exact ⟨h.regs.keeps, h.regs.wf⟩

section
variable {d : Desc}

/-- LEDGER_SEAL of an open block (R381). -/
theorem ledgerSeal_seals {k : Nat} (hs : serves t d s) (hready : s.nv.ledgerReady = true) (hrow : isRow 0x5A d = true)
    (hp : parNonzero 0 24 d = none) (ho : s.lgr.openRecs = some k) (hk : k < 6) (h1 : 1 ≤ s.lgr.next - 1)
    (hlt : s.lgr.next - 1 < 0xFFFFFFFF) (hworn : s.nv.worn = []) :
    ∃ s1 s', exec (.ledgerSeal t d) s = .next s' ∧ SealedFrom s t padForced k s1 ∧
      answers d stOk (leBytes 4 (s.lgr.next - 1) ++ (blockBytes (s.lgr.next - 1) s1).drop 56 ++ [0]) 0 s1 s' := by
  obtain ⟨fl, tn, hans, hrun⟩ := served_working hs
  let x : State := working fl tn (elapse t s)
  let y : State := sealBlock padForced x
  have hxl : x.lgr = s.lgr := elapse_lgr t s
  obtain ⟨-, hm, -⟩ := hs
  obtain ⟨-, -, -, hmem, -, -⟩ := memorySafe_elapse hm t
  have hsealed : BlockSealed padForced k x y := by
    refine sealBlock_sealed (x := x) ?_ hmem (by rw [hxl, ho]) hk (by rw [hxl]; exact h1) (by rw [hxl]; exact hlt)
    exact (elapse_nv_worn t s).trans hworn
  have hany : Answerable d y := hans.recorded (Recorded.sealBlock (cells := []) (offs := []) padForced x)
  let s1 : State := { y with hif := (elapse t s).hif }
  have hrun' : exec (.ledgerSeal t d) s =
      .next (finish (complete d stOk (leBytes 4 (s.lgr.next - 1) ++ (blockBytes (s.lgr.next - 1) s1).drop 56 ++ [0]) 0 y)) := by
    show descCommand t (asOp 0x5A d) ledgerSeal s = _
    rw [asOp_self hrow, hrun ledgerSeal, ledgerSeal, reserved_free hp, afterRecall,
      if_pos (show (working fl tn (elapse t s)).nv.ledgerReady = true from (elapse_nv_ledgerReady t s).trans hready)]
    have hq : lgrSealed y = s.lgr.next - 1 := by
      rw [lgrSealed, hsealed.openRecs, hsealed.next, hxl]
      rfl
    have hnothing : x.lgr.openRecs.isNone = false := by rw [hxl, ho]; rfl
    show Host.Outcome.next (finish (complete d stOk (leBytes 4 (lgrSealed y) ++ (blockBytes (lgrSealed y) y).drop 56 ++
      [byteOf (b2n x.lgr.openRecs.isNone)]) 0 y)) = _
    rw [hq, hnothing]
    rfl
  refine ⟨s1, _, hrun', .of_working hsealed, ?_⟩
  have hyhif : y.hif = x.hif := (Unheard.sealBlock padForced x).hif
  have hquiet := hany.quiet (st := stOk) (det := 0)
    (res := leBytes 4 (s.lgr.next - 1) ++ (blockBytes (s.lgr.next - 1) s1).drop 56 ++ [0]) (quietStatus_ok _)
  have hy : y = working fl tn s1 := by
    show y = { y with hif := { (elapse t s).hif with flight := fl, turn := tn } }
    rw [show ({ (elapse t s).hif with flight := fl, turn := tn } : Hif) = y.hif from hyhif.symm]
  rw [hy] at hquiet ⊢
  exact answers_of_working hquiet

/-- LEDGER_SEAL without an open block seals nothing (R381). -/
theorem ledgerSeal_nothing (hs : serves t d s) (hready : s.nv.ledgerReady = true) (hrow : isRow 0x5A d = true)
    (hp : parNonzero 0 24 d = none) (ho : s.lgr.openRecs = none) :
    ∃ s', exec (.ledgerSeal t d) s = .next s' ∧
      answers d stOk (leBytes 4 (s.lgr.next - 1) ++ (blockBytes (s.lgr.next - 1) s).drop 56 ++ [1]) 0 (elapse t s) s' := by
  obtain ⟨fl, tn, hans, hrun⟩ := served_working hs
  have hxl : (working fl tn (elapse t s)).lgr = s.lgr := elapse_lgr t s
  have hseal : sealBlock padForced (working fl tn (elapse t s)) = working fl tn (elapse t s) := by
    unfold sealBlock
    rw [show (working fl tn (elapse t s)).lgr.openRecs = none by rw [hxl, ho]]
  refine ⟨_, ?_, answers_of_working (hans.quiet (quietStatus_ok _))⟩
  show descCommand t (asOp 0x5A d) ledgerSeal s = _
  rw [asOp_self hrow, hrun ledgerSeal, ledgerSeal, reserved_free hp, afterRecall,
    if_pos (show (working fl tn (elapse t s)).nv.ledgerReady = true from (elapse_nv_ledgerReady t s).trans hready)]
  dsimp only
  have hsealed : lgrSealed (working fl tn (elapse t s)) = s.lgr.next - 1 := by
    rw [lgrSealed, hxl, ho]
    rfl
  rw [hseal, hsealed, hxl, ho, show blockBytes (s.lgr.next - 1) (working fl tn (elapse t s)) =
    blockBytes (s.lgr.next - 1) s from elapse_blockBytes _ t s]
  rfl

/-- The seal that is due (R369). -/
theorem ledgerSealTimer_seals {k : Nat} (hl : live s = true) (hm : memorySafe s) (hready : s.nv.ledgerReady = true)
    (ho : s.lgr.openRecs = some k) (hk : k < 6) (h1 : 1 ≤ s.lgr.next - 1) (hlt : s.lgr.next - 1 < 0xFFFFFFFF)
    (hworn : s.nv.worn = []) (hdue : s.lgr.openTb + secTicks s.lgr.sealS ≤ now (elapse t s)) :
    ∃ s1 s', exec (.ledgerSealTimer t) s = .next s' ∧ SealedFrom s t padTimed k s1 ∧ settles s1 s' := by
  let y : State := sealBlock padTimed (elapse t s)
  obtain ⟨-, -, -, hmem, -, -⟩ := memorySafe_elapse hm t
  have hsealed : BlockSealed padTimed k (elapse t s) y :=
    sealBlock_sealed ((elapse_nv_worn t s).trans hworn) hmem (by rw [elapse_lgr, ho]) hk (by rw [elapse_lgr]; exact h1)
      (by rw [elapse_lgr]; exact hlt)
  refine ⟨y, _, (command_live t _ s hl).trans ?_, .of_sealed hsealed,
    finish_settles_recorded hl (congrArg Lgr.hostWait (elapse_lgr t s)) (elapse_fold t s)
      (Recorded.sealBlock (cells := []) (offs := []) padTimed (elapse t s))⟩
  rw [onlyIf, if_pos (by simp [hready, ho, hdue])]

/-- Before that it does nothing. -/
theorem ledgerSealTimer_early (hl : live s = true)
    (hearly : now (elapse t s) < s.lgr.openTb + secTicks s.lgr.sealS) :
    ∃ s', exec (.ledgerSealTimer t) s = .next s' ∧ settles (elapse t s) s' := by
  refine ⟨_, (command_live t _ s hl).trans ?_, finish_settles_of s _ hl (elapse_lgr t s) (elapse_fold t s)⟩
  rw [onlyIf, if_neg (by simp; omega)]

/-! ## LEDGER_RELEASE -/

/-- The state in which W has risen to `u` (R373, R383). -/
def released (u : Nat) (x : State) : State :=
  let r := recStore recW (leBytes 4 u) (append 0x06 0 (u % 2 ^ 24) x)
  duePreClear { r.1 with lgr := { r.1.lgr with w := u } }

/-- A release that its store lets happen (R383). -/
theorem raiseW_released {u : Nat} {x : State} (hready : x.nv.ledgerReady = true) (hf : recFails recW x = false) :
    raiseW d u x = complete d stOk (releaseResult false (released u x)) 0 (released u x) := by
  have hrec := Recorded.append (cells := []) (offs := []) 0x06 0 (u % 2 ^ 24) x hready
  have hf1 : recFails recW (append 0x06 0 (u % 2 ^ 24) x) = false := by
    rw [recFails, show (append 0x06 0 (u % 2 ^ 24) x).nv.wornRecs = x.nv.wornRecs from
      (congrArg (fun z : State => z.nv.wornRecs) hrec.blank :)]
    exact hf
  rw [raiseW, if_neg (by rw [recStore_ok _ hf1]; exact Bool.false_ne_true)]
  rfl

/-- What it leaves (R383). -/
theorem released_leaves {u : Nat} {x : State} (hready : x.nv.ledgerReady = true) (hf : recFails recW x = false)
    (hrecs : swf (fun _ => Dual.empty) x.nv.recs = true) (hseq : x.nv.recs.all (fun r => seqsOk r.2) = true) :
    Recorded [] [] { x with nv := { x.nv with recs := (released u x).nv.recs, twins := (released u x).nv.twins } }
        (released u x) ∧
      (released u x).lgr.w = u ∧ (released u x).lgr.signed = x.lgr.signed ∧
      recRead recW (released u x) = some (leBytes 4 u) ∧ ∀ id, id ≠ recW → recGet id (released u x) = recGet id x := by
  let y : State := append 0x06 0 (u % 2 ^ 24) x
  let z : State := (recStore recW (leBytes 4 u) y).1
  let v : State := { z with lgr := { z.lgr with w := u } }
  have hxy : Recorded [] [] x y := Recorded.append 0x06 0 (u % 2 ^ 24) x hready
  have hyr : y.nv.ledgerReady = true := hxy.ledgerReady.trans hready
  have hf1 : recFails recW y = false := by
    rw [recFails, show y.nv.wornRecs = x.nv.wornRecs from (congrArg (fun z : State => z.nv.wornRecs) hxy.blank :)]
    exact hf
  have hyrecs : y.nv.recs = x.nv.recs := hxy.recs
  have hxz := (hxy.withRecs z.nv.recs z.nv.twins).trans (Recorded.recStore recW (leBytes 4 u) y hyr)
  have hzv : Recorded [] [] z v := Recorded.setLgr z _ rfl
  have hvr : Recorded [] [] v (released u x) := by
    show Recorded [] [] v (duePreClear v)
    unfold duePreClear
    split
    · exact Recorded.preClear v
    · exact .refl v
  have hpre : (released u x).lgr.w = v.lgr.w ∧ (released u x).lgr.signed = v.lgr.signed := by
    show (duePreClear v).lgr.w = _ ∧ (duePreClear v).lgr.signed = _
    unfold duePreClear
    split
    · have h := Unheard.preClear v
      exact ⟨h.w, h.signed⟩
    · exact ⟨rfl, rfl⟩
  have hfinalrecs : (released u x).nv.recs = z.nv.recs := hvr.recs
  have htwins : (released u x).nv.twins = z.nv.twins := (congrArg (fun y : State => y.nv.twins) hvr.blank :)
  refine ⟨?_, hpre.1, ?_, ?_, fun id hid => ?_⟩
  · rw [hfinalrecs, htwins]
    exact (hxz.trans hzv).trans hvr
  · rw [hpre.2]
    have hz : z.lgr = y.lgr := by
      rw [show z = _ from recStore_eq (leBytes 4 u) hf1]
    show z.lgr.signed = _
    rw [hz]
    exact (marksKept_closed.append x 0x06 0 (u % 2 ^ 24) hready).2
  · rw [recRead, recGet, hfinalrecs]
    exact recStore_recRead (leBytes 4 u) hf1 (by rw [hyrecs]; exact hrecs) (by rw [hyrecs]; exact hseq)
  · rw [recGet, hfinalrecs, recGet, ← hyrecs]
    exact recStore_recGet (leBytes 4 u) hf1 hid

/-- LEDGER_RELEASE up to its cases (R383). -/
theorem ledgerRelease_runs (hs : serves t d s) (hready : s.nv.ledgerReady = true) (hrow : isRow 0x5C d = true)
    (hp : parNonzero 4 24 d = none) :
    ∃ fl tn, Answerable d (working fl tn (elapse t s)) ∧ exec (.ledgerRelease t d) s = .next (finish
      (if p32 d 0 > s.lgr.signed ∨ p32 d 0 > lgrSealed s then fail d stBadLen 32 (working fl tn (elapse t s))
        else if p32 d 0 ≤ s.lgr.w then complete d stOk (releaseResult true s) 0 (working fl tn (elapse t s))
        else raiseW d (p32 d 0) (working fl tn (elapse t s)))) := by
  obtain ⟨fl, tn, hans, hrun⟩ := served_working hs
  have hxl : (working fl tn (elapse t s)).lgr = s.lgr := elapse_lgr t s
  have hpart : (working fl tn (elapse t s)).part = s.part := elapse_part t s
  refine ⟨fl, tn, hans, ?_⟩
  show descCommand t (asOp 0x5C d) ledgerRelease s = _
  rw [asOp_self hrow, hrun ledgerRelease, ledgerRelease, reserved_free hp, afterRecall,
    if_pos (show (working fl tn (elapse t s)).nv.ledgerReady = true from (elapse_nv_ledgerReady t s).trans hready)]
  dsimp only
  have hsealed : lgrSealed (working fl tn (elapse t s)) = lgrSealed s := by rw [lgrSealed, lgrSealed, hxl]
  have hres : releaseResult true (working fl tn (elapse t s)) = releaseResult true s := by
    simp only [releaseResult, lgrFree, lgrN, hxl, hpart]
  rw [hxl, hsealed, hres]

end

end

/-- Settles O44. -/
theorem blocksAreSealedAndReleased : Obligations.BlocksAreSealedAndReleased := by
  unfold Obligations.BlocksAreSealedAndReleased
  intro s t hl hm hsh hready
  dsimp only
  refine ⟨fun d hs hrow hp => ⟨fun k ho hk h1 hlt hworn => ledgerSeal_seals hs hready hrow hp ho hk h1 hlt hworn,
    ledgerSeal_nothing hs hready hrow hp⟩, fun k ho hk h1 hlt hworn =>
    ⟨ledgerSealTimer_seals hl hm hready ho hk h1 hlt hworn, ledgerSealTimer_early hl⟩, fun d hs hrow hp => ?_⟩
  obtain ⟨fl, tn, hans, hrun⟩ := ledgerRelease_runs hs hready hrow hp
  refine ⟨fun hsig hseal hw hf => ?_, fun hsig hseal hw => ?_, fun hbad => ?_⟩
  · let x : State := working fl tn (elapse t s)
    obtain ⟨-, -, -, -, -, hrecs⟩ := memorySafe_elapse hm t
    obtain ⟨-, -, -, -, -, -, -, hseq⟩ := shaped_elapse hsh t
    have hxr : x.nv.ledgerReady = true := (elapse_nv_ledgerReady t s).trans hready
    have hxf : recFails recW x = false := by
      rw [recFails, show x.nv.wornRecs = s.nv.wornRecs from elapse_nv_wornRecs t s]
      exact hf
    obtain ⟨hrec, hw', hsigned, hread, hkeep⟩ := released_leaves (u := p32 d 0) hxr hxf hrecs hseq
    rw [if_neg (by omega), if_neg (by omega), raiseW_released hxr hxf] at hrun
    have hans1 : Answerable d x := hans
    have hany : Answerable d (released (p32 d 0) x) :=
      Answerable.recorded (s := { x with nv := { x.nv with
        recs := (released (p32 d 0) x).nv.recs, twins := (released (p32 d 0) x).nv.twins } })
        ⟨hans1.heard, hans1.mem, hans1.hostWait, hans1.wait, hans1.queue⟩ hrec
    have ha := hany.quiet (st := stOk) (det := 0) (res := releaseResult false (released (p32 d 0) x)) (quietStatus_ok _)
    have hs' : (finish (complete d stOk (releaseResult false (released (p32 d 0) x)) 0 (released (p32 d 0) x))).nv.recs =
        (released (p32 d 0) x).nv.recs := (congrArg (fun z : State => z.nv.recs) ha.2.1 :)
    refine ⟨released (p32 d 0) x, _, hrun, ha, hrec.recordsOnly rfl rfl rfl, hw', ?_, ?_, fun id hid => ?_⟩
    · rw [hsigned]
      exact congrArg Lgr.signed (elapse_lgr t s)
    · rw [recRead, recGet, hs']
      exact hread
    · rw [recGet, hs']
      refine (hkeep id hid).trans ?_
      rw [recGet, recGet, show x.nv.recs = s.nv.recs from elapse_nv_recs t s]
  · rw [if_neg (by omega), if_pos hw] at hrun
    exact ⟨_, hrun, answers_of_working (hans.quiet (quietStatus_ok _))⟩
  · rw [if_pos (by omega)] at hrun
    exact ⟨_, hrun, turnedAway_of_fail hans (by decide) (by rw [opcode_of_isRow hrow]; decide)
      (memorySafe_elapse_wf hm t) rfl⟩

end Sys2Proof.Machine
end

section
/-! SUPPORT. Host records in the ledger. -/
namespace Sys2Proof.Machine

section
variable {s : State} {t : Nat} {d : Desc}

/-! ## Entries -/

/-- One of a row of pieces of equal length. -/
theorem take_drop_flatten {n : Nat} : ∀ {l : List Bytes} {i : Nat} {e : Bytes}, (∀ p ∈ l, p.length = n) → l[i]? = some e →
    ((l.flatten).drop (n * i)).take n = e
  | [], i, e, _, h => by simp at h
  | p :: l, 0, e, hl, h => by
    obtain rfl : p = e := by simpa using h
    rw [Nat.mul_zero, List.drop_zero, List.flatten_cons]
    exact List.take_left' (hl p List.mem_cons_self)
  | p :: l, i + 1, e, hl, h => by
    have hp : p.length = n := hl p List.mem_cons_self
    rw [List.flatten_cons, show n * (i + 1) = p.length + n * i by rw [hp]; ring, List.drop_append,
      List.drop_eq_nil_of_le (by omega), List.nil_append, Nat.add_sub_cancel_left]
    exact take_drop_flatten (fun q hq => hl q (List.mem_cons_of_mem _ hq)) (by simpa using h)

/-- Pieces of equal length, joined, split into themselves. -/
theorem chunks_flatten {n : Nat} (hn : 0 < n) {l : List Bytes} (hl : ∀ p ∈ l, p.length = n) : chunks n l.flatten = l := by
  have hlen : l.flatten.length = n * l.length := by
    rw [List.length_flatten, List.map_congr_left (g := fun _ => n) hl, List.map_const', List.sum_replicate, smul_eq_mul,
      Nat.mul_comm]
  have hceil : ceilDiv l.flatten.length n = l.length := by
    rw [ceilDiv, hlen, show n * l.length + n - 1 = n - 1 + n * l.length by omega, Nat.add_mul_div_left _ _ hn,
      Nat.div_eq_of_lt (by omega), Nat.zero_add]
  refine List.ext_getElem (by rw [chunks, List.length_map, List.length_range, hceil]) fun i h1 h2 => ?_
  simp only [chunks, List.getElem_map, List.getElem_range]
  exact take_drop_flatten hl (List.getElem?_eq_getElem h2)

theorem byteAt_lt (i : Nat) (b : Bytes) : byteAt i b < 256 := (b.getD i 0).isLt

theorem byteOf_toNat (n : Nat) : (byteOf n).toNat = n % 256 := BitVec.toNat_ofNat n 8

theorem byteOf_mod (n : Nat) : byteOf (n % 256) = byteOf n := by
  apply BitVec.eq_of_toNat_eq
  rw [byteOf_toNat, byteOf_toNat, Nat.mod_mod]

theorem slice_length (o n : Nat) (b : Bytes) : (slice o n b).length = n := by
  simp only [slice, List.length_append, List.length_take, List.length_replicate]
  omega

/-- The substitution of an entry found no slot (R379). -/
def slotMissing (s : State) (e : Bytes) : Bool := (byteAt 1 e == 0xFE || byteAt 1 e == 0xFD) && entrySlot e s == 0xFF

theorem resolveEntry_length (s : State) (e : Bytes) : (resolveEntry s e).length = 8 := by
  simp [resolveEntry, slice_length]

/-- A resolved entry's bytes: its TYPE, the slot, its DATA and the mark of a substitution without a slot (R379). -/
theorem resolveEntry_bytes (s : State) (e : Bytes) : byteAt 0 (resolveEntry s e) = byteAt 0 e ∧
    byteAt 1 (resolveEntry s e) = entrySlot e s % 256 ∧ leAt 2 3 (resolveEntry s e) = leAt 2 3 e ∧
    (byteAt 5 (resolveEntry s e) == 1) = slotMissing s e := by
  have hlen := slice_length 2 3 e
  obtain ⟨x, y, z, hx⟩ : ∃ x y z, slice 2 3 e = [x, y, z] := by
    match slice 2 3 e, hlen with
    | [x, y, z], _ => exact ⟨x, y, z, rfl⟩
  have hr : resolveEntry s e =
      [byteOf (byteAt 0 e), byteOf (entrySlot e s), x, y, z, byteOf (b2n (slotMissing s e)), 0, 0] := by
    rw [resolveEntry, hx]
    rfl
  rw [hr]
  refine ⟨?_, byteOf_toNat _, ?_, ?_⟩
  · show (byteOf (byteAt 0 e)).toNat = _
    rw [byteOf_toNat, Nat.mod_eq_of_lt (byteAt_lt 0 e)]
  · rw [leAt, leAt, hx]
    rfl
  · show ((byteOf (b2n (slotMissing s e))).toNat == 1) = _
    cases slotMissing s e <;> rfl

/-- The resolved entries of a host's append. -/
def resolved (s : State) (b : Bytes) : List Bytes := (chunks 8 b).map (resolveEntry s)

theorem chunks_resolved (s : State) (b : Bytes) : chunks 8 (resolved s b).flatten = resolved s b := by
  refine chunks_flatten (by decide) fun p hp => ?_
  obtain ⟨e, -, rfl⟩ := List.mem_map.mp hp
  exact resolveEntry_length s e

/-- The tick keeps the entries' slots. -/
theorem resolveEntry_congr {x y : State} (h : ∀ f, fld f y = fld f x) (e : Bytes) : resolveEntry y e = resolveEntry x e := by
  simp only [resolveEntry, entrySlot, h]

/-- The bytes of an entry's record in a block of base `base`. -/
def hostRecord (wall base : Nat) (e : Bytes) : Bytes :=
  recordBytes (byteAt 0 e) (byteAt 1 e) (timeDelta wall base).toNat (leAt 2 3 e)

theorem hostRecord_resolveEntry (wall base : Nat) (s : State) (e : Bytes) : hostRecord wall base (resolveEntry s e) =
    recordBytes (byteAt 0 e) (entrySlot e s) (timeDelta wall base).toNat (leAt 2 3 e) := by
  obtain ⟨h0, h1, h2, -⟩ := resolveEntry_bytes s e
  rw [hostRecord, h0, h1, h2, recordBytes, recordBytes, byteOf_mod]

/-- An entry without a fault is a host's record (R379). -/
theorem hostType_of_good {b : Bytes} (h : badEntry b = none) : ∀ e ∈ chunks 8 b, 0x80 ≤ byteAt 0 e := by
  intro e he
  have hgood := List.findIdx?_eq_none_iff.mp h e he
  simp only [Bool.or_eq_false_iff, decide_eq_false_iff_not] at hgood
  omega

/-! ## Records in the open block -/

/-- No record of this tick comes after a host's. -/
def HostLast (tb : Nat) (x : State) : Prop := ∀ m ∈ x.lgr.marks, m.1 ≠ tb ∨ m.2 = 0

theorem laterRecords_none {tb rank : Nat} {x : State} (h : HostLast tb x) : laterRecords tb rank x.lgr.marks = 0 := by
  have hnot : ∀ m ∈ x.lgr.marks.reverse, (m.1 == tb && decide (rank < m.2)) = false := by
    intro m hm
    rcases h m (List.mem_reverse.mp hm) with hne | h0
    · simp [hne]
    · simp [h0]
  rw [laterRecords]
  cases hr : x.lgr.marks.reverse with
  | nil => rfl
  | cons m l =>
    rw [List.takeWhile_cons, hnot m (by rw [hr]; exact List.mem_cons_self)]
    rfl

/-- The open block's address and base. -/
def openAddr (x : State) : Nat := blockAddr (x.lgr.next - 1) x
def openBase (x : State) : Nat := leAt 4 4 (nvPeek (openAddr x) 8 x)

/-- A block with `k` records is open, and its memory takes writes. -/
structure BlockOpen (k : Nat) (x : State) : Prop where
  worn : x.nv.worn = []
  mem : Memory.wf nvDflt x.nv.mem = true
  regs : Regs.wf x = true
  opened : x.lgr.openRecs = some k
  last : HostLast (now x) x

/-- The open block takes a host's record of wall clock `wall` as number `k`. -/
structure Joinable (wall k : Nat) (x : State) : Prop extends BlockOpen k x where
  ctl : useCtl x = x
  base : needsNewBase wall x = false

/-- The open block has taken records behind the `k` it had. -/
structure HostPlaced (k : Nat) (rows : List Bytes) (x y : State) : Prop where
  frame : y = { x with
    regs := y.regs, nv := y.nv
    lgr := { x.lgr with openRecs := some (k + rows.length), marks := y.lgr.marks, placed := y.lgr.placed } }
  worn : y.nv.worn = x.nv.worn
  recs : y.nv.recs = x.nv.recs
  mem : Memory.wf nvDflt y.nv.mem = true
  stands : ∀ i r, rows[i]? = some r → nvPeek (openAddr x + 8 + 8 * (k + i)) 8 y = r
  apart : ∀ z, z < openAddr x + 8 + 8 * k ∨ openAddr x + 8 + 8 * (k + rows.length) ≤ z →
    mget nvDflt y.nv.mem z = mget nvDflt x.nv.mem z
  last : HostLast (now x) x → HostLast (now x) y
  host : fld LGR_CNT0.HOST y = sat LGR_CNT0.HOST.width (fld LGR_CNT0.HOST x + rows.length)
  kept : RegsKept [LGR_CNT0.reg] x y

/-- A record of a host, none of the same tick having to follow it (R366, R369). -/
theorem putRecord_host {r : LRec} {k : Nat} {x : State} (hw : x.nv.worn = []) (ho : x.lgr.openRecs = some k) (hk : k + 1 < 6)
    (htyp : 0x80 ≤ r.typ) (hlast : HostLast r.tb x) :
    putRecord r x = bump LGR_CNT0.HOST
      { lgrWrite (openAddr x + 8 + 8 * k) (recordBytes r.typ r.src (timeDelta r.wall (openBase x)).toNat r.data) x with
        lgr := { x.lgr with
          openRecs := some (k + 1), marks := x.lgr.marks.take k ++ (r.tb, 0) :: x.lgr.marks.drop k
          placed := (x.lgr.next - 1, k) } } := by
  have hnone : ∀ a, nvPeek a (8 * 0) x = [] := fun _ => rfl
  unfold putRecord
  rw [ho]
  simp only [laterRecords_none hlast, Nat.sub_zero, hnone, List.append_nil, if_neg (Nat.not_le.mpr hk), if_pos htyp]
  rw [lgrWrite_lgr _ _ x hw]
  rfl

theorem fld_sat_self (f : Field) (x : State) : fld f x = sat f.width (fld f x) := by
  have h : fld f x < 2 ^ f.width := Nat.mod_lt _ (by positivity)
  unfold sat
  omega

/-- What that record changes. -/
theorem hostPlaced_one {r : LRec} {k : Nat} {x : State} (h : BlockOpen k x) (hk : k + 1 < 6)
    (htyp : 0x80 ≤ r.typ) (htb : r.tb = now x) :
    HostPlaced k [recordBytes r.typ r.src (timeDelta r.wall (openBase x)).toNat r.data] x (putRecord r x) ∧
      (putRecord r x).lgr.placed = (x.lgr.next - 1, k) := by
  rw [putRecord_host h.worn h.opened hk htyp (htb ▸ h.last)]
  generalize hrec : recordBytes r.typ r.src (timeDelta r.wall (openBase x)).toNat r.data = b
  have hlen : b.length = 8 := hrec ▸ recordBytes_length _ _ _ _
  obtain ⟨hb, hmem⟩ := lgrWrite_fresh (openAddr x + 8 + 8 * k) b h.worn
  have hsame : nvPeek (openAddr x + 8 + 8 * k) b.length (lgrWrite (openAddr x + 8 + 8 * k) b x) = b :=
    nvPeek_nvWrite_same _ b x h.worn h.mem
  have hget : ∀ z, mget nvDflt (lgrWrite (openAddr x + 8 + 8 * k) b x).nv.mem z = byteWritten (openAddr x + 8 + 8 * k) b x z :=
    fun z => mget_nvWrite _ z b x h.worn h.mem
  generalize lgrWrite (openAddr x + 8 + 8 * k) b x = v at *
  let l : Lgr := { x.lgr with
    openRecs := some (k + 1), marks := x.lgr.marks.take k ++ (r.tb, 0) :: x.lgr.marks.drop k, placed := (x.lgr.next - 1, k) }
  have hkept : RegsKept [LGR_CNT0.reg] x { v with lgr := l } :=
    .of_eq _ (congrArg State.regs hb :) (congrArg State.part hb :)
  refine ⟨⟨?_, (congrArg (fun z : State => z.nv.worn) hb :), (congrArg (fun z : State => z.nv.recs) hb :), hmem h.mem,
    fun i q hq => ?_, fun z hz => ?_, fun hl m hm => ?_, ?_, hkept.trans (.bump _ _ (by decide))⟩, rfl⟩
  · exact (congrArg (fun z : State => { z with
      regs := (bump LGR_CNT0.HOST { v with lgr := l }).regs, nv := v.nv, lgr := l }) hb :)
  · cases i with
    | zero =>
      obtain rfl : b = q := by simpa using hq
      rw [hlen] at hsame
      exact hsame
    | succ i => simp at hq
  · refine (hget z).trans ?_
    rw [byteWritten, if_neg (by simp only [List.length_singleton] at hz; omega)]
  · have hm' : m ∈ x.lgr.marks.take k ++ (r.tb, 0) :: x.lgr.marks.drop k := hm
    rcases List.mem_append.mp hm' with h1 | h1
    · exact hl m (List.mem_of_mem_take h1)
    · rcases List.mem_cons.mp h1 with rfl | h2
      · exact .inr rfl
      · exact hl m (List.mem_of_mem_drop h2)
  · rw [fld_bump_same _ (by decide) _ (hkept.wf h.regs)]
    have hfld : fld LGR_CNT0.HOST { v with lgr := l } = fld LGR_CNT0.HOST x := by
      have hr : v.regs = x.regs := (congrArg State.regs hb :)
      have hp : v.part = x.part := (congrArg State.part hb :)
      simp only [fld, regGet, hr, hp]
    rw [hfld]
    rfl

theorem HostPlaced.refl {wall k : Nat} {x : State} (h : Joinable wall k x) : HostPlaced k [] x x :=
  ⟨by rw [show k + ([] : List Bytes).length = k from rfl, ← h.opened], rfl, rfl, h.mem, fun _ _ hr => by simp at hr,
    fun _ _ => rfl, id, fld_sat_self _ x, .refl _ x⟩

/-- Where the open block is, and its header, stay. -/
theorem HostPlaced.openAddr_eq {k : Nat} {recs : List Bytes} {x y : State} (h : HostPlaced k recs x y) :
    openAddr y = openAddr x := by
  have hpart : y.part = x.part := (congrArg State.part h.frame :)
  have hnext : y.lgr.next = x.lgr.next := (congrArg (fun z : State => z.lgr.next) h.frame :)
  rw [openAddr, openAddr, hnext, blockAddr_congr hpart]

theorem HostPlaced.header {k : Nat} {recs : List Bytes} {x y : State} (h : HostPlaced k recs x y) :
    nvPeek (openAddr x) 8 y = nvPeek (openAddr x) 8 x := by
  refine List.map_congr_left fun i hi => h.apart _ (.inl ?_)
  rw [List.mem_range] at hi
  omega

theorem HostPlaced.openBase_eq {k : Nat} {recs : List Bytes} {x y : State} (h : HostPlaced k recs x y) :
    openBase y = openBase x := by
  rw [openBase, openBase, h.openAddr_eq, h.header]

/-- The block takes the next one. -/
theorem HostPlaced.joinable {wall k : Nat} {recs : List Bytes} {x y : State} (h : HostPlaced k recs x y)
    (hx : Joinable wall k x) : Joinable wall (k + recs.length) y := by
  have hnow : now y = now x := (congrArg now h.frame :)
  have hopen : y.lgr.openRecs = some (k + recs.length) := (congrArg (fun z : State => z.lgr.openRecs) h.frame :)
  refine ⟨⟨h.worn.trans hx.worn, h.mem, h.kept.wf hx.regs, hopen, hnow ▸ h.last hx.last⟩, ?_, ?_⟩
  · have hctl : ∀ f : Field, f.off = LGR_CTL.reg → fld f y = fld f x := fun f hf => h.kept.fld f (by rw [hf]; decide)
    have hevt : y.lgr.evt = x.lgr.evt := (congrArg (fun z : State => z.lgr.evt) h.frame :)
    have hwarn : y.lgr.fullWarn = x.lgr.fullWarn := (congrArg (fun z : State => z.lgr.fullWarn) h.frame :)
    have hseal : y.lgr.sealS = x.lgr.sealS := (congrArg (fun z : State => z.lgr.sealS) h.frame :)
    have h1 : flag LGR_CTL.EVT x = x.lgr.evt := (congrArg (fun z : State => z.lgr.evt) hx.ctl :)
    have h2 : fld LGR_CTL.FULL_WARN x = x.lgr.fullWarn := (congrArg (fun z : State => z.lgr.fullWarn) hx.ctl :)
    have h3 : fld LGR_CTL.SEAL_S x = x.lgr.sealS := (congrArg (fun z : State => z.lgr.sealS) hx.ctl :)
    rw [useCtl, flag, hctl _ rfl, hctl _ rfl, hctl _ rfl, ← flag, h1, h2, h3, ← hevt, ← hwarn, ← hseal]
  · have hb := hx.base
    have hbase := h.openBase_eq
    simp only [needsNewBase, hx.opened, hopen] at hb ⊢
    rw [openBase, openAddr] at hbase
    rw [hbase]
    exact hb

/-- Records behind others. -/
theorem HostPlaced.trans {k : Nat} {l1 l2 : List Bytes} {x y z : State} (h1 : HostPlaced k l1 x y)
    (h2 : HostPlaced (k + l1.length) l2 y z) : HostPlaced k (l1 ++ l2) x z := by
  have hnow : now y = now x := (congrArg now h1.frame :)
  have haddr := h1.openAddr_eq
  refine ⟨?_, h2.worn.trans h1.worn, h2.recs.trans h1.recs, h2.mem, fun i r hr => ?_, fun v hv => ?_, ?_, ?_,
    h1.kept.trans h2.kept⟩
  · have h := h2.frame
    rw [h1.frame] at h
    simpa only [List.length_append, Nat.add_assoc] using h
  · rcases Nat.lt_or_ge i l1.length with hi | hi
    · rw [List.getElem?_append_left hi] at hr
      rw [← h1.stands i r hr]
      refine List.map_congr_left fun j hj => h2.apart _ (.inl ?_)
      rw [List.mem_range] at hj
      rw [haddr]
      omega
    · rw [List.getElem?_append_right hi] at hr
      have h := h2.stands (i - l1.length) r hr
      rwa [haddr, show k + l1.length + (i - l1.length) = k + i by omega] at h
  · rw [List.length_append] at hv
    exact (h2.apart v (by rw [haddr]; omega)).trans (h1.apart v (by omega))
  · rw [← hnow]
    exact fun h => h2.last (hnow ▸ h1.last (hnow ▸ h))
  · rw [h2.host, h1.host, List.length_append]
    unfold sat
    omega

/-- A record that the open block takes (R367, R369). -/
theorem placeRecord_joins {r : LRec} {k : Nat} {x : State} (h : Joinable r.wall k x) :
    placeRecord r false x = (putRecord r x, true) := by
  unfold placeRecord
  simp only [h.ctl, h.base, Bool.false_eq_true, if_false, h.opened]

/-- The entries of an append in the open block (R379). -/
theorem placeAll_joins {wall : Nat} : ∀ {es : List Bytes} {ps : List (Nat × Nat)} {k : Nat} {x : State},
    Joinable wall k x → k + es.length < 6 → (∀ e ∈ es, 0x80 ≤ byteAt 0 e) →
    ∃ y, placeAll wall es ps x = some (y, ps ++ (List.range' k es.length).map (fun i => (x.lgr.next - 1, i))) ∧
      HostPlaced k (es.map (hostRecord wall (openBase x))) x y
  | [], ps, k, x, h, _, _ => ⟨x, by simp [placeAll], .refl h⟩
  | e :: es, ps, k, x, h, hk, htyp => by
    rw [List.length_cons] at hk
    obtain ⟨hone, hplaced⟩ := hostPlaced_one (r := ⟨byteAt 0 e, byteAt 1 e, leAt 2 3 e, wall, now x⟩) h.toBlockOpen (by omega)
      (htyp e List.mem_cons_self) rfl
    have hput := placeRecord_joins (r := ⟨byteAt 0 e, byteAt 1 e, leAt 2 3 e, wall, now x⟩) h
    generalize putRecord ⟨byteAt 0 e, byteAt 1 e, leAt 2 3 e, wall, now x⟩ x = y at *
    have hnext : y.lgr.next = x.lgr.next := (congrArg (fun z : State => z.lgr.next) hone.frame :)
    obtain ⟨z, hz, hrest⟩ := placeAll_joins (es := es) (ps := ps ++ [y.lgr.placed]) (k := k + 1) (hone.joinable h) (by omega)
      (fun e' he' => htyp e' (List.mem_cons_of_mem _ he'))
    refine ⟨z, ?_, ?_⟩
    · rw [placeAll, hput, if_pos rfl, hz, hplaced, hnext, List.length_cons, List.range'_succ, List.map_cons,
        List.append_assoc]
      rfl
    · rw [hone.openBase_eq] at hrest
      exact hone.trans hrest

/-! ## LEDGER_APPEND -/

/-- LEDGER_APPEND of entries without a fault. -/
theorem ledgerAppend_runs {b : Bytes} {x : State} (hp0 : p8 d 0 = 0) (hp : parNonzero 1 24 d = none)
    (hread : dmaRead d d.srcAddr d.len x = some b) (hgood : badEntry b = none) : ledgerAppend d x = appendHost d b x := by
  rw [ledgerAppend, if_neg (by omega), reserved_free hp, readSrc_some hread, hgood]

/-- The answer of an append whose last block is open. -/
def appendResult (s : State) (b : Bytes) (q k : Nat) : Bytes :=
  leBytes 4 q ++ [byteOf k, byteOf (chunks 8 b).length] ++ leBytes 4 q ++
    [byteOf (k + (chunks 8 b).length - 1), byteOf (2 * b2n ((chunks 8 b).any (slotMissing s)))]

/-- An append of which every entry has its place in the open block (R379). -/
theorem writeHost_placed {wall q k : Nat} {b : Bytes} {x y : State} (hp0 : p8 d 0 = 0) (hlost : x.lgr.lost = 0)
    (hne : 1 ≤ (chunks 8 b).length)
    (hplace : placeAll wall (resolved s b) [] x = some (y, (List.range' k (chunks 8 b).length).map (fun i => (q, i))))
    (hsealed : lgrSealed y < q) :
    writeHost d wall (resolved s b).flatten x = complete d stOk (appendResult s b q k) 0 y := by
  obtain ⟨n, hn⟩ := Nat.exists_eq_succ_of_ne_zero (Nat.ne_of_gt hne)
  have hlen : (resolved s b).length = (chunks 8 b).length := List.length_map _
  have hmiss : (resolved s b).any (fun e => byteAt 5 e == 1) = (chunks 8 b).any (slotMissing s) := by
    rw [resolved, List.any_map]
    exact congrArg (chunks 8 b).any (funext fun e => (resolveEntry_bytes s e).2.2.2)
  have hfirst : ((List.range' k (chunks 8 b).length).map (fun i => (q, i))).headD (0, 0) = (q, k) := by
    rw [hn, List.range'_succ]
    rfl
  have hlast : ((List.range' k (chunks 8 b).length).map (fun i => (q, i))).getLastD (0, 0) =
      (q, k + (chunks 8 b).length - 1) := by
    rw [hn, List.range'_concat, List.map_append, List.map_singleton, List.getLastD_concat]
    simp
  have hasks : bit 0 (p8 d 0) = false := by rw [hp0]; rfl
  rw [writeHost, reportLost, if_pos (.inl hlost), chunks_resolved, hplace]
  simp only [hfirst, hlast, hlen, hmiss, hasks, Bool.false_and, Bool.false_eq_true, if_false]
  rw [decide_eq_false (by omega)]
  simp [appendResult, b2n]

/-- A completion writes nothing into the array. -/
theorem answers_nv_mem {st det : Nat} {res : Bytes} {x y : State} (h : answers d st res det x y) : y.nv.mem = x.nv.mem :=
  (congrArg (fun z : State => z.nv.mem) h.2.1 :)

/-- What an append meets at its unit. -/
structure Appends (t : Nat) (d : Desc) (b : Bytes) (s : State) : Prop where
  serves : serves t d s
  row : isRow 0x58 d = true
  flags : p8 d 0 = 0
  par : parNonzero 1 24 d = none
  read : dmaRead d d.srcAddr d.len s = some b
  good : badEntry b = none
  some : 1 ≤ (chunks 8 b).length
  lost : s.lgr.lost = 0
  marks : ∀ m ∈ s.lgr.marks, m.1 ≠ now (elapse t s)

theorem resolveEntry_working (fl : List Flight) (tn t : Nat) (s : State) :
    resolveEntry (working fl tn (elapse t s)) = resolveEntry s :=
  funext fun e => resolveEntry_congr (fun f => (show fld f (working fl tn (elapse t s)) = fld f (elapse t s) from rfl).trans
    (elapse_fld f t s)) e

/-- The append of a ready ledger. -/
theorem ledgerAppend_ready {b : Bytes} (h : Appends t d b s) (hready : s.nv.ledgerReady = true) :
    ∃ fl tn, Answerable d (working fl tn (elapse t s)) ∧ exec (.ledgerAppend t d) s = .next (finish
      (writeHost d (elapse t s).clk.wall.toNat (resolved s b).flatten (working fl tn (elapse t s)))) := by
  obtain ⟨hs, hrow, hp0, hp, hread, hgood, -, -, -⟩ := h
  obtain ⟨fl, tn, hans, hrun⟩ := served_working hs
  refine ⟨fl, tn, hans, ?_⟩
  show descCommand t (asOp 0x58 d) ledgerAppend s = _
  rw [asOp_self hrow, hrun ledgerAppend, ledgerAppend_runs hp0 hp
    ((working_crypt fl tn 0 0 isAes d.srcAddr d.len).2.1.trans hread) hgood, appendHost, resolveEntry_working,
    if_pos (show (working fl tn (elapse t s)).nv.ledgerReady = true from (elapse_nv_ledgerReady t s).trans hready)]
  rfl

/-- The settings in force do not ask for them again. -/
theorem placeRecord_useCtl (r : LRec) (isS : Bool) (x : State) : placeRecord r isS (useCtl x) = placeRecord r isS x := rfl

theorem placeAll_useCtl {wall : Nat} {es : List Bytes} {ps : List (Nat × Nat)} {x : State} (hne : es ≠ []) :
    placeAll wall es ps (useCtl x) = placeAll wall es ps x := by
  cases es with
  | nil => exact absurd rfl hne
  | cons e es => rfl

/-- The resolved entries' records are the entries', with their slots (R379). -/
theorem resolved_getElem {wall base i : Nat} {b e : Bytes} (he : (chunks 8 b)[i]? = some e) :
    ((resolved s b).map (hostRecord wall base))[i]? =
      some (recordBytes (byteAt 0 e) (entrySlot e s) (timeDelta wall base).toNat (leAt 2 3 e)) := by
  rw [resolved, List.getElem?_map, List.getElem?_map, he, Option.map_some, Option.map_some, hostRecord_resolveEntry]

theorem resolved_type {b : Bytes} (h : badEntry b = none) : ∀ e ∈ resolved s b, 0x80 ≤ byteAt 0 e := by
  intro e he
  obtain ⟨e', he', rfl⟩ := List.mem_map.mp he
  rw [(resolveEntry_bytes s e').1]
  exact hostType_of_good h e' he'

/-- Where a state has the open block of another. -/
theorem openBase_congr {x y : State} (hnext : y.lgr.next = x.lgr.next) (hmem : y.nv.mem = x.nv.mem) (hpart : y.part = x.part) :
    openBase y = openBase x := by
  have haddr : openAddr y = openAddr x := by rw [openAddr, openAddr, hnext, blockAddr_congr hpart]
  rw [openBase, openBase, haddr, nvPeek_congr hmem]

/-- The open block takes the entries' records at the unit. -/
theorem joinable_working {k tn : Nat} {fl : List Flight} {b : Bytes} (h : Appends t d b s) (hworn : s.nv.worn = [])
    (ho : s.lgr.openRecs = some k) (hbase : needsNewBase (elapse t s).clk.wall.toNat s = false) :
    Joinable (elapse t s).clk.wall.toNat k (useCtl (working fl tn (elapse t s))) ∧
      openBase (useCtl (working fl tn (elapse t s))) = openBase s := by
  have hm : memorySafe s := h.serves.2.1
  obtain ⟨-, -, -, hmem, -, -⟩ := memorySafe_elapse hm t
  have hlgr : (elapse t s).lgr = s.lgr := elapse_lgr t s
  have hopen : (useCtl (working fl tn (elapse t s))).lgr.openRecs = some k := (congrArg Lgr.openRecs hlgr :).trans ho
  have hsame : openBase (useCtl (working fl tn (elapse t s))) = openBase s :=
    openBase_congr (congrArg Lgr.next hlgr :) (elapse_nv_mem t s) (elapse_part t s)
  refine ⟨⟨⟨(elapse_nv_worn t s).trans hworn, hmem, memorySafe_elapse_wf hm t, hopen, fun m hm' => .inl ?_⟩, rfl, ?_⟩, hsame⟩
  · exact h.marks m (by rw [← hlgr]; exact hm')
  · rw [openBase, openAddr, openBase, openAddr] at hsame
    simp only [needsNewBase, hopen, ho] at hbase ⊢
    rw [hsame]
    exact hbase

/-- Records in the open block leave the descriptor's way to its sender. -/
theorem HostPlaced.answerable {k : Nat} {rows : List Bytes} {x y : State} (h : HostPlaced k rows x y) (hans : Answerable d x) :
    Answerable d y := by
  have hhif : y.hif = x.hif := (congrArg State.hif h.frame :)
  have hmem : y.hostMem = x.hostMem := (congrArg State.hostMem h.frame :)
  have hfold : y.fold = x.fold := (congrArg State.fold h.frame :)
  have hwait : y.lgr.hostWait = x.lgr.hostWait := (congrArg (fun z : State => z.lgr.hostWait) h.frame :)
  exact ⟨((HostKept.of_eq hhif hmem).heard d).trans hans.heard, hmem ▸ hans.mem, hwait ▸ hans.hostWait, hfold ▸ hans.wait,
    hfold ▸ hans.queue⟩

/-- Only the work's own flights tell it from the state at the tick. -/
theorem HostPlaced.of_working {k tn : Nat} {fl : List Flight} {rows : List Bytes} {y : State}
    (h : HostPlaced k rows (useCtl (working fl tn (elapse t s))) y) :
    HostPlaced k rows (useCtl (elapse t s)) { y with hif := (elapse t s).hif } ∧
      y = working fl tn { y with hif := (elapse t s).hif } := by
  have hhif : y.hif = { (elapse t s).hif with flight := fl, turn := tn } := (congrArg State.hif h.frame :)
  obtain ⟨hframe, hw, hrecs, hmem, hstands, hapart, hlast, hhost, hkept⟩ := h
  refine ⟨⟨(congrArg (fun z : State => { z with hif := (elapse t s).hif }) hframe :), hw, hrecs, hmem, hstands, hapart, hlast,
    hhost, ⟨hkept.keeps, hkept.wf⟩⟩, ?_⟩
  show y = { y with hif := { (elapse t s).hif with flight := fl, turn := tn } }
  rw [← hhif]

/-- An append into the open block with room for all of it (R379). -/
theorem ledgerAppend_joins {k : Nat} {b : Bytes} (h : Appends t d b s) (hready : s.nv.ledgerReady = true)
    (hworn : s.nv.worn = []) (ho : s.lgr.openRecs = some k) (hk : k + (chunks 8 b).length < 6) (h2 : 2 ≤ s.lgr.next)
    (hbase : needsNewBase (elapse t s).clk.wall.toNat s = false) :
    ∃ s1 s', exec (.ledgerAppend t d) s = .next s' ∧ answers d stOk (appendResult s b (s.lgr.next - 1) k) 0 s1 s' ∧
      HostPlaced k ((resolved s b).map (hostRecord (elapse t s).clk.wall.toNat (openBase s))) (useCtl (elapse t s)) s1 := by
  obtain ⟨fl, tn, hans, hrun⟩ := ledgerAppend_ready h hready
  obtain ⟨hjoin, hsame⟩ := joinable_working (fl := fl) (tn := tn) h hworn ho hbase
  have hlgr : (elapse t s).lgr = s.lgr := elapse_lgr t s
  have hlen : (resolved s b).length = (chunks 8 b).length := List.length_map _
  have hresne : resolved s b ≠ [] := fun h0 => by
    have hsome := h.some
    rw [← hlen, h0] at hsome
    exact absurd hsome (by decide)
  obtain ⟨y, hplace, hput⟩ := placeAll_joins (ps := []) hjoin (hlen.symm ▸ hk) (resolved_type (s := s) h.good)
  rw [hsame] at hput
  have hynext : y.lgr.next = s.lgr.next :=
    (congrArg (fun z : State => z.lgr.next) hput.frame :).trans (congrArg Lgr.next hlgr :)
  have hyopen : y.lgr.openRecs.isSome = true := (congrArg (fun z : State => z.lgr.openRecs.isSome) hput.frame :)
  rw [placeAll_useCtl hresne, List.nil_append, hlen,
    show (useCtl (working fl tn (elapse t s))).lgr.next = s.lgr.next from (congrArg Lgr.next hlgr :)] at hplace
  rw [writeHost_placed (x := working fl tn (elapse t s)) h.flags ((congrArg Lgr.lost hlgr :).trans h.lost) h.some hplace
    (by rw [lgrSealed, hyopen, if_pos rfl, hynext]; omega)] at hrun
  have hquiet := (hput.answerable (d := d) ⟨hans.heard, hans.mem, hans.hostWait, hans.wait, hans.queue⟩).quiet (st := stOk)
    (det := 0) (res := appendResult s b (s.lgr.next - 1) k) (quietStatus_ok _)
  obtain ⟨hplaced, hy⟩ := hput.of_working
  rw [hy] at hquiet hrun
  exact ⟨_, _, hrun, answers_of_working hquiet, hplaced⟩

/-! ## A new block -/

/-- The block that a host's record opens (R369). -/
theorem openBlock_opened {wall : Nat} {x : State} (hw : x.nv.worn = []) (hm : Memory.wf nvDflt x.nv.mem = true) :
    (openBlock wall x).lgr.openTb = now x ∧
      nvPeek (blockAddr x.lgr.next x) 8 (openBlock wall x) = leBytes 4 x.lgr.next ++ leBytes 4 (wall / 65536) := by
  have hnv := (openBlock_ledger wall x hw).1
  refine ⟨?_, ?_⟩
  · unfold openBlock
    dsimp only
    have hnow : now (lgrWrite (blockAddr x.lgr.next x) (leBytes 4 x.lgr.next ++ leBytes 4 (wall / 65536)) x) = now x :=
      (congrArg now (lgrWrite_fresh _ _ hw).1 :)
    rw [hnow]
    generalize lgrWrite _ _ x = v
    generalize hy : { v with lgr := Lgr.mk _ _ _ _ _ _ _ _ _ _ _ _ _ _ _ _ _ _ _ } = y
    have hposted : ∀ z, Posted y z → z.lgr.openTb = now x := fun z hz => by rw [hz.lgr, ← hy]
    exact hposted _ (Posted.after (lgrEvtIf_posted _ _ _ _ _) (lgrEvtIf_posted _ _ _ _ y))
  · have hsame := nvPeek_nvWrite_same (blockAddr x.lgr.next x) (leBytes 4 x.lgr.next ++ leBytes 4 (wall / 65536)) x hw hm
    rw [List.length_append, leBytes_length, leBytes_length] at hsame
    exact (nvPeek_congr (congrArg Nv.mem hnv) _ _).trans hsame

theorem dmaRead_length {a n : Nat} {b : Bytes} (h : dmaRead d a n s = some b) : b.length = n := by
  unfold dmaRead at h
  cases hsrc : d.src <;> simp only [hsrc] at h
  case drover => exact (Option.some.inj h) ▸ by simp [mread]
  case host | monitor =>
    split at h
    · obtain rfl := Option.some.inj h
      exact (by assumption : n = 0).symm
    · split at h
      · exact (Option.some.inj h) ▸ by simp [mread]
      · exact absurd h (by simp)

theorem chunks_length {n : Nat} {b : Bytes} : (chunks n b).length = ceilDiv b.length n := by simp [chunks]

/-- An append without an open block opens the next one, when there is space (R369, R372). -/
theorem placeRecord_opens {r : LRec} {x : State} (ho : x.lgr.openRecs = none) (hc : x.lgr.closed = false)
    (hspace : openAllowed false x = true) :
    placeRecord r false x = (putRecord r (openBlock r.wall (useCtl x)), true) := by
  have hopen : (useCtl x).lgr.openRecs = none := ho
  have hbase : needsNewBase r.wall (useCtl x) = false := by simp only [needsNewBase, hopen]
  have hallow : (openAllowed false (useCtl x) && !(useCtl x).lgr.closed) = true := by
    rw [show (useCtl x).lgr.closed = false from hc, show openAllowed false (useCtl x) = true from hspace]
    rfl
  unfold placeRecord
  simp only [hbase, Bool.false_eq_true, if_false, hopen, hallow, if_true]

/-- Without an open block and without space a record has no place (R372). -/
theorem placeRecord_refused {r : LRec} {x : State} (ho : x.lgr.openRecs = none) (hspace : openAllowed false x = false) :
    (placeRecord r false x).2 = false := by
  have hopen : (useCtl x).lgr.openRecs = none := ho
  have hbase : needsNewBase r.wall (useCtl x) = false := by simp only [needsNewBase, hopen]
  have hallow : openAllowed false (useCtl x) = false := hspace
  unfold placeRecord
  simp only [hbase, Bool.false_eq_true, if_false, hopen, hallow, Bool.false_and]

/-- The new block with its first record. -/
structure BlockBegun (wall : Nat) (row : Bytes) (x y : State) : Prop where
  recorded : Recorded [] [] x y
  next : y.lgr.next = x.lgr.next + 1
  opened : y.lgr.openRecs = some 1
  openTb : y.lgr.openTb = now x
  header : nvPeek (blockAddr x.lgr.next x) 8 y = leBytes 4 x.lgr.next ++ leBytes 4 (wall / 65536)
  stands : nvPeek (blockAddr x.lgr.next x + 8) 8 y = row
  placed : y.lgr.placed = (x.lgr.next, 0)

/-- A host's record in the block that it opens. -/
theorem blockBegun {r : LRec} {x : State} (hw : x.nv.worn = []) (hm : Memory.wf nvDflt x.nv.mem = true)
    (hwf : Regs.wf x = true) (htyp : 0x80 ≤ r.typ) (htb : r.tb = now x) :
    BlockBegun r.wall (recordBytes r.typ r.src (timeDelta r.wall (r.wall / 65536 % 2 ^ 32)).toNat r.data) x
      (putRecord r (openBlock r.wall x)) := by
  have hxv : Recorded [] [] x (openBlock r.wall x) := Recorded.openBlock r.wall x
  obtain ⟨hnv, hlgr⟩ := openBlock_ledger r.wall x hw
  obtain ⟨htb', hheader⟩ := openBlock_opened (wall := r.wall) hw hm
  obtain ⟨hfresh, hmem⟩ := lgrWrite_fresh (blockAddr x.lgr.next x) (leBytes 4 x.lgr.next ++ leBytes 4 (r.wall / 65536)) hw
  generalize openBlock r.wall x = v at *
  have hnow : now v = now x := (congrArg now hxv.blank :)
  have haddr : openAddr v = blockAddr x.lgr.next x := by
    rw [openAddr, hlgr, blockAddr_congr hxv.part]
    rfl
  have hbase : openBase v = r.wall / 65536 % 2 ^ 32 := by
    rw [openBase, haddr, hheader, leAt_append_leBytes 4 4 _ _ (leBytes_length 4 _)]
    rfl
  have hopen : BlockOpen 0 v := by
    refine ⟨?_, ?_, hxv.regs_wf hwf, by rw [hlgr], fun m hm' => ?_⟩
    · rw [hnv]
      exact (congrArg (fun z : State => z.nv.worn) hfresh :).trans hw
    · rw [hnv]
      exact hmem hm
    · rw [hlgr] at hm'
      exact absurd hm' (List.not_mem_nil)
  obtain ⟨hone, hplaced⟩ := hostPlaced_one (r := r) hopen (by decide) htyp (htb.trans hnow.symm)
  have hvy : Recorded [] [] v (putRecord r v) := Recorded.putRecord r v
  rw [hbase] at hone
  generalize putRecord r v = y at *
  have hl : ∀ {α : Type} (f : Lgr → α), f y.lgr = f { v.lgr with
      openRecs := some 1, marks := y.lgr.marks, placed := y.lgr.placed } := fun f => (congrArg (fun z => f z.lgr) hone.frame :)
  refine ⟨hxv.trans hvy, ?_, hl Lgr.openRecs, (hl Lgr.openTb).trans htb', ?_, ?_, ?_⟩
  · exact (hl Lgr.next).trans (by rw [hlgr])
  · have h := hone.header
    rw [haddr] at h
    exact h.trans hheader
  · have h := hone.stands 0 _ rfl
    rwa [haddr] at h
  · rw [hplaced, hlgr]
    rfl

/-- The tick and the work keep the space. -/
theorem openAllowed_working (isS : Bool) (fl : List Flight) (tn t : Nat) (s : State) :
    openAllowed isS (working fl tn (elapse t s)) = openAllowed isS s := by
  simp only [openAllowed, lgrN, lgrRes, show (working fl tn (elapse t s)).lgr = s.lgr from elapse_lgr t s,
    show (working fl tn (elapse t s)).part = s.part from elapse_part t s]
  split <;> rfl

/-- LEDGER_APPEND of one entry without an open block (R369, R379). -/
theorem ledgerAppend_opens {b : Bytes} (h : Appends t d b s) (hready : s.nv.ledgerReady = true)
    (hworn : s.nv.worn = []) (ho : s.lgr.openRecs = none) (hc : s.lgr.closed = false) (h1 : 1 ≤ s.lgr.next)
    (hspace : openAllowed false s = true) {e : Bytes} (he : chunks 8 b = [e]) :
    ∃ fl tn y s', exec (.ledgerAppend t d) s = .next s' ∧ answers d stOk (appendResult s b s.lgr.next 0) 0 y s' ∧
      BlockBegun (elapse t s).clk.wall.toNat
        (hostRecord (elapse t s).clk.wall.toNat ((elapse t s).clk.wall.toNat / 65536 % 2 ^ 32) (resolveEntry s e))
        (useCtl (working fl tn (elapse t s))) y := by
  obtain ⟨fl, tn, hans, hrun⟩ := ledgerAppend_ready h hready
  have hm : memorySafe s := h.serves.2.1
  obtain ⟨-, -, -, hmem, -, -⟩ := memorySafe_elapse hm t
  have hlgr : (working fl tn (elapse t s)).lgr = s.lgr := elapse_lgr t s
  have hres : resolved s b = [resolveEntry s e] := by rw [resolved, he, List.map_singleton]
  have htyp : 0x80 ≤ byteAt 0 (resolveEntry s e) :=
    resolved_type h.good _ (by rw [hres]; exact List.mem_cons_self)
  let r : LRec := ⟨byteAt 0 (resolveEntry s e), byteAt 1 (resolveEntry s e), leAt 2 3 (resolveEntry s e),
    (elapse t s).clk.wall.toNat, now (working fl tn (elapse t s))⟩
  have hplace := placeRecord_opens (r := r) (x := working fl tn (elapse t s)) (by rw [hlgr, ho]) (by rw [hlgr, hc])
    ((openAllowed_working _ fl tn t s).trans hspace)
  have hbegun := blockBegun (r := r) (x := useCtl (working fl tn (elapse t s))) ((elapse_nv_worn t s).trans hworn) hmem
    (memorySafe_elapse_wf hm t) htyp rfl
  generalize putRecord r (openBlock r.wall (useCtl (working fl tn (elapse t s)))) = y at *
  have hxnext : (useCtl (working fl tn (elapse t s))).lgr.next = s.lgr.next := (congrArg Lgr.next hlgr :)
  have hall : placeAll (elapse t s).clk.wall.toNat (resolved s b) [] (working fl tn (elapse t s)) =
      some (y, (List.range' 0 (chunks 8 b).length).map (fun i => (s.lgr.next, i))) := by
    rw [hres, placeAll, hplace, if_pos rfl, placeAll, hbegun.placed, hxnext, he]
    rfl
  rw [writeHost_placed (x := working fl tn (elapse t s)) h.flags ((congrArg Lgr.lost hlgr :).trans h.lost) h.some hall
    (by rw [lgrSealed, hbegun.opened, hbegun.next, hxnext, Option.isSome_some, if_pos rfl]; omega)] at hrun
  have hquiet := (Answerable.recorded (s := useCtl (working fl tn (elapse t s)))
    ⟨hans.heard, hans.mem, hans.hostWait, hans.wait, hans.queue⟩ hbegun.recorded).quiet
    (st := stOk) (det := 0) (res := appendResult s b s.lgr.next 0) (quietStatus_ok _)
  exact ⟨fl, tn, y, _, hrun, hquiet, hbegun⟩

/-- A refusal beside the host interface's bookkeeping. -/
theorem setFld_working (f : Field) (v tn : Nat) (fl : List Flight) (x : State) :
    setFld f v (working fl tn x) = working fl tn (setFld f v x) := rfl

theorem bump_working (f : Field) (tn : Nat) (fl : List Flight) (x : State) :
    bump f (working fl tn x) = working fl tn (bump f x) := rfl

/-- LEDGER_APPEND without an open block and without space (R372). -/
theorem ledgerAppend_refused {b : Bytes} (h : Appends t d b s) (hready : s.nv.ledgerReady = true)
    (ho : s.lgr.openRecs = none) (hspace : openAllowed false s = false) :
    let s1 := setFld LGR_STATUS.FULL 1 (bump LGR_CNT1.REFUSED (elapse t s))
    ∃ s', exec (.ledgerAppend t d) s = .next s' ∧ answers d stLedgerFull [] 0 s1 s' := by
  intro s1
  obtain ⟨fl, tn, hans, hrun⟩ := ledgerAppend_ready h hready
  have hlgr : (working fl tn (elapse t s)).lgr = s.lgr := elapse_lgr t s
  have hnone : placeAll (elapse t s).clk.wall.toNat (resolved s b) [] (working fl tn (elapse t s)) = none := by
    have hsome := h.some
    rw [← List.length_map (resolveEntry s)] at hsome
    show placeAll _ ((chunks 8 b).map (resolveEntry s)) [] _ = none
    cases hes : (chunks 8 b).map (resolveEntry s) with
    | nil => rw [hes] at hsome; exact absurd hsome (by decide)
    | cons e es =>
      rw [placeAll, placeRecord_refused (by rw [hlgr, ho]) ((openAllowed_working _ fl tn t s).trans hspace)]
      rfl
  have hlost : reportLost (working fl tn (elapse t s)) = working fl tn (elapse t s) := by
    rw [reportLost, if_pos (.inl ((congrArg Lgr.lost hlgr :).trans h.lost))]
  rw [writeHost, hlost, chunks_resolved] at hrun
  simp only [hnone] at hrun
  rw [refuseAppend, bump_working, setFld_working] at hrun
  have hany : Answerable d (working fl tn s1) := ⟨hans.heard, hans.mem, hans.hostWait, hans.wait, hans.queue⟩
  exact ⟨_, hrun, answers_of_working (hany.quiet (by rw [opcode_of_isRow h.row]; decide))⟩

/-- LEDGER_APPEND during recall takes a place of the buffer, or waits for one (R351). -/
theorem ledgerAppend_recall {b : Bytes} (h : Appends t d b s) (hready : s.nv.ledgerReady = false) :
    (s.lgr.buffered.length < 64 → ∃ s', exec (.ledgerAppend t d) s = .next s' ∧
      settles { atWork d (elapse t s) with lgr := { s.lgr with
        buffered := s.lgr.buffered ++ [.host d (elapse t s).clk.wall.toNat (resolved s b).flatten] } } s') ∧
    (64 ≤ s.lgr.buffered.length → ∃ s', exec (.ledgerAppend t d) s = .next s' ∧
      settles { atWork d (elapse t s) with lgr := { s.lgr with
        hostWait := s.lgr.hostWait ++ [(d, now (elapse t s) + timeoutTicks d 100)] } } s') := by
  obtain ⟨hs, hrow, hp0, hp, hread, hgood, -, -, -⟩ := h
  obtain ⟨fl, tn, hat⟩ := atWork_working d (elapse t s) hs.2.2.2
  obtain ⟨hans, hrun⟩ := served_atWork hs
  rw [hat] at hrun hans ⊢
  have hlgr : (working fl tn (elapse t s)).lgr = s.lgr := elapse_lgr t s
  have hnot : ¬ (working fl tn (elapse t s)).nv.ledgerReady = true := by
    rw [show (working fl tn (elapse t s)).nv.ledgerReady = s.nv.ledgerReady from elapse_nv_ledgerReady t s, hready]
    exact Bool.false_ne_true
  have hexec : exec (.ledgerAppend t d) s = .next (finish (appendHost d b (working fl tn (elapse t s)))) := by
    show descCommand t (asOp 0x58 d) ledgerAppend s = _
    rw [asOp_self hrow, hrun ledgerAppend, ledgerAppend_runs hp0 hp
      ((working_crypt fl tn 0 0 isAes d.srcAddr d.len).2.1.trans hread) hgood]
  rw [hexec, appendHost, resolveEntry_working, if_neg hnot, hlgr]
  refine ⟨fun hroom => ?_, fun hfull => ?_⟩
  · rw [if_pos hroom]
    exact ⟨_, rfl, finish_settles _ (hlgr ▸ hans.hostWait) hans.wait hans.queue⟩
  rw [if_neg (by omega)]
  refine ⟨_, rfl, finish_settles _ ?_ hans.wait hans.queue⟩
  · have htime : 0 < timeoutTicks d 100 := by
      unfold timeoutTicks
      split
      · decide
      · omega
    show (s.lgr.hostWait ++ [(d, now (elapse t s) + timeoutTicks d 100)]).all _ = true
    rw [List.all_append, ← hlgr, hans.hostWait]
    simp only [Bool.true_and, List.all_cons, List.all_nil, Bool.and_true, decide_eq_true_eq]
    omega

end

/-- Settles O43. -/
theorem hostRecordsAreAppended : Obligations.HostRecordsAreAppended := by
  unfold Obligations.HostRecordsAreAppended
  intro s t d b hs hrow hp0 hp hread hgood hlen hmul hlost hmarks
  dsimp only
  have hblen := dmaRead_length hread
  have hcount : (chunks 8 b).length = d.len / 8 := by
    rw [chunks_length, hblen, ceilDiv]
    omega
  have h : Appends t d b s := ⟨hs, hrow, hp0, hp, hread, hgood, by omega, hlost, hmarks⟩
  have hm : memorySafe s := hs.2.1
  refine ⟨fun k hready hworn ho hk h2 hbase => ?_, fun hready hworn ho hc h1 hspace h8 => ?_, fun hready ho hspace => ?_,
    fun hready => ledgerAppend_recall h hready⟩
  · obtain ⟨s1, s', hrun, hans, hput⟩ := ledgerAppend_joins h hready hworn ho hk h2 hbase
    have hmem' := answers_nv_mem hans
    have hrows : ((resolved s b).map (hostRecord (elapse t s).clk.wall.toNat (openBase s))).length = (chunks 8 b).length := by
      rw [List.length_map, resolved, List.length_map]
    have haddr : openAddr (useCtl (elapse t s)) = blockAddr (s.lgr.next - 1) s := by
      rw [openAddr, blockAddr_congr (show (useCtl (elapse t s)).part = s.part from elapse_part t s)]
      exact (congrArg (fun l : Lgr => blockAddr (l.next - 1) s) (elapse_lgr t s) :)
    obtain ⟨hframe, hw, hrecs, hmem, hstands, hapart, hlast, hhost, hkept⟩ := hput
    rw [hrows] at hframe hapart hhost
    rw [haddr] at hstands hapart
    refine ⟨s1, s', hrun, hans, ?_, hrecs.trans (elapse_nv_recs t s), fun i e he => ?_, fun x hx => ?_, ?_, fun off ho' => ?_⟩
    · rw [hframe]
      simp only [useCtl, elapse_lgr, flag, elapse_fld]
    · rw [nvPeek_congr hmem']
      exact hstands i _ (resolved_getElem he)
    · rw [hmem']
      exact (hapart x hx).trans (congrArg (fun m => mget nvDflt m x) (elapse_nv_mem t s))
    · rw [hhost]
      exact congrArg (fun v => sat LGR_CNT0.HOST.width (v + _)) (elapse_fld LGR_CNT0.HOST t s)
    · exact (hkept.keeps off ho').trans (elapse_regGet off t s)
  · obtain ⟨e, he⟩ := List.length_eq_one_iff.mp (show (chunks 8 b).length = 1 by omega)
    obtain ⟨fl, tn, y, s', hrun, hans, hbegun⟩ := ledgerAppend_opens h hready hworn ho hc h1 hspace he
    have hmem' := answers_nv_mem hans
    have hnext : (useCtl (working fl tn (elapse t s))).lgr.next = s.lgr.next := (congrArg Lgr.next (elapse_lgr t s) :)
    have haddr : blockAddr (useCtl (working fl tn (elapse t s))).lgr.next (useCtl (working fl tn (elapse t s))) =
        blockAddr s.lgr.next s := by
      rw [hnext, blockAddr_congr (show (useCtl (working fl tn (elapse t s))).part = s.part from elapse_part t s)]
    obtain ⟨hrec, hnext', hopened, htb, hheader, hstands, -⟩ := hbegun
    rw [haddr] at hheader hstands
    rw [hnext] at hnext' hheader
    refine ⟨y, s', hrun, ?_, hrec.recordsOnly rfl rfl rfl, hnext', hopened, htb, ?_, fun i e' he' => ?_⟩
    · rw [appendResult, he] at hans
      rw [he]
      exact hans
    · rw [nvPeek_congr hmem']
      exact hheader
    · rw [he] at he'
      cases i with
      | zero =>
        obtain rfl : e = e' := by simpa using he'
        rw [nvPeek_congr hmem', ← hostRecord_resolveEntry]
        exact hstands
      | succ i => simp at he'
  · obtain ⟨s', hrun, hans⟩ := ledgerAppend_refused h hready ho hspace
    have hwf := memorySafe_elapse_wf hm t
    have hkept : RegsKept [LGR_CNT1.reg] (elapse t s) (bump LGR_CNT1.REFUSED (elapse t s)) := .bump _ _ (by decide)
    have hset : RegsKept [LGR_STATUS.reg] (bump LGR_CNT1.REFUSED (elapse t s))
      (setFld LGR_STATUS.FULL 1 (bump LGR_CNT1.REFUSED (elapse t s))) := .setFld _ _ _ (by decide)
    refine ⟨_, s', hrun, hans, rfl, ?_, ?_, fun off ho' => ?_⟩
    · rw [fld_setFld_same _ (by decide) _ _ (hkept.wf hwf)]
      rfl
    · rw [hset.fld _ (by decide), fld_bump_same _ (by decide) _ hwf, elapse_fld]
    · rw [(hset.mono (by decide : [LGR_STATUS.reg] ⊆ [LGR_STATUS.reg, LGR_CNT1.reg])).keeps off ho',
        (hkept.mono (by decide : [LGR_CNT1.reg] ⊆ [LGR_STATUS.reg, LGR_CNT1.reg])).keeps off ho', elapse_regGet]

end Sys2Proof.Machine
end

section
/-! SUPPORT. Reading the ledger. -/
namespace Sys2Proof.Machine

section
variable {s : State} {t : Nat} {d : Desc}

/-! ## What reading rests on -/

/-- Two states with the same ledger and the same bytes in the array. -/
structure SameBlocks (x y : State) : Prop where
  lgr : y.lgr = x.lgr
  mem : y.nv.mem = x.nv.mem
  bad : y.nv.bad = x.nv.bad
  part : y.part = x.part

namespace SameBlocks

variable {x y : State} (h : SameBlocks x y)
include h

theorem blockBytes (q : Nat) : blockBytes q y = blockBytes q x := by
  rw [Machine.blockBytes, Machine.blockBytes, blockAddr_congr h.part, nvPeek_congr h.mem]

theorem badWord (a n : Nat) : badWord a n y = badWord a n x := by
  rw [Machine.badWord, Machine.badWord, h.bad]

theorem prevTag (q : Nat) : prevTag q y = prevTag q x := by
  rw [Machine.prevTag, Machine.prevTag, h.blockBytes]

theorem firstBad (qs : List Nat) : firstBad qs y = firstBad qs x := by
  refine congrArg (fun p => List.find? p qs) (funext fun q => ?_)
  rw [tagChecked, tagChecked, lgrSealed, lgrSealed, tagOk, tagOk, h.lgr, h.badWord, h.blockBytes, h.prevTag,
    blockAddr_congr h.part]

theorem seqAt (q : Nat) : seqAt q y = seqAt q x := by
  rw [Machine.seqAt, Machine.seqAt, h.bad, h.blockBytes, blockAddr_congr h.part]

theorem readRange (openToo : Bool) (n q : Nat) : readRange openToo y n q = readRange openToo x n q := by
  induction n generalizing q with
  | zero => rfl
  | succ n ih => simp only [Machine.readRange, lgrTail, h.lgr, h.seqAt, ih]

theorem readResult (v : Nat) (full stopped : Bool) : readResult v full stopped y = readResult v full stopped x := by
  unfold Machine.readResult lgrTail lgrFree lgrRes lgrN
  rw [h.lgr, h.part]

end SameBlocks

/-- The tick and the work keep the blocks. -/
theorem sameBlocks_elapse (t : Nat) (s : State) : SameBlocks s (elapse t s) :=
  ⟨elapse_lgr t s, elapse_nv_mem t s, elapse_nv_bad t s, elapse_part t s⟩

theorem sameBlocks_working (fl : List Flight) (tn t : Nat) (s : State) : SameBlocks s (working fl tn (elapse t s)) :=
  ⟨elapse_lgr t s, elapse_nv_mem t s, elapse_nv_bad t s, elapse_part t s⟩

/-! ## Counts of reads -/

theorem addFld_working (f : Field) (k tn : Nat) (fl : List Flight) (x : State) :
    addFld f k (working fl tn x) = working fl tn (addFld f k x) := rfl

theorem countRead_working (a n tn : Nat) (fl : List Flight) (x : State) :
    countRead a n (working fl tn x) = working fl tn (countRead a n x) := by
  have hw : ∀ y, badWord a n (working fl tn y) = badWord a n y := fun _ => rfl
  have hnv : (working fl tn x).nv = x.nv := rfl
  unfold countRead
  rw [hnv]
  simp only [addFld_working, hw]
  generalize addFld NVS_ECC_CNT.CORR _ x = y
  cases badWord a n y with
  | none => rfl
  | some w =>
    dsimp only
    rw [bump_working, setFld_working, setFld_working]

theorem countBlocks_working (qs : List Nat) (tn : Nat) (fl : List Flight) (x : State) :
    countBlocks qs (working fl tn x) = working fl tn (countBlocks qs x) := by
  induction qs generalizing x with
  | nil => rfl
  | cons q qs ih =>
    rw [countBlocks, List.foldl_cons, show blockAddr q (working fl tn x) = blockAddr q x from rfl, countRead_working,
      ← countBlocks, ih]
    rfl

/-- A read counts in the registers of the ECC alone (R341). -/
theorem countRead_frame (a n : Nat) (x : State) : countRead a n x = { x with regs := (countRead a n x).regs } ∧
    RegsKept [NVS_ECC_CNT.reg, NVS_ERR_ADDR.reg] x (countRead a n x) := by
  unfold countRead
  dsimp only
  generalize hy : addFld NVS_ECC_CNT.CORR _ x = y
  have hxy : RegsKept [NVS_ECC_CNT.reg, NVS_ERR_ADDR.reg] x y := hy ▸ .setFld _ _ _ (by decide)
  have hf : y = { x with regs := y.regs } := hy ▸ rfl
  cases badWord a n y with
  | none => exact ⟨hf, hxy⟩
  | some w =>
    refine ⟨?_, ((hxy.trans (.bump _ _ (by decide))).trans (.setFld _ _ _ (by decide))).trans (.setFld _ _ _ (by decide))⟩
    exact congrArg (fun z : State => { z with
      regs := (setFld NVS_ERR_ADDR.VALID 1 (setFld NVS_ERR_ADDR.ADDR w (bump NVS_ECC_CNT.UNCORR y))).regs }) hf

theorem countBlocks_frame (qs : List Nat) (x : State) : countBlocks qs x = { x with regs := (countBlocks qs x).regs } ∧
    RegsKept [NVS_ECC_CNT.reg, NVS_ERR_ADDR.reg] x (countBlocks qs x) := by
  induction qs generalizing x with
  | nil => exact ⟨rfl, .refl _ x⟩
  | cons q qs ih =>
    obtain ⟨h1, k1⟩ := countRead_frame (blockAddr q x) 64 x
    obtain ⟨h2, k2⟩ := ih (countRead (blockAddr q x) 64 x)
    have hc : countBlocks (q :: qs) x = countBlocks qs (countRead (blockAddr q x) 64 x) := rfl
    rw [hc]
    exact ⟨h2.trans (congrArg (fun z : State => { z with
      regs := (countBlocks qs (countRead (blockAddr q x) 64 x)).regs }) h1), k1.trans k2⟩

/-! ## LEDGER_READ -/

/-- A LEDGER_READ with its parameters right. -/
theorem ledgerRead_runs {k : Desc → State → State} {x : State} (h5 : p8 d 5 ≤ 3) (hp : parNonzero 6 24 d = none)
    (hready : x.nv.ledgerReady = true) : ledgerRead k d x = k d x := by
  rw [ledgerRead, if_neg (by omega), reserved_free hp, afterRecall, if_pos hready]

/-- LEDGER_READ of mode `m` at its unit. -/
theorem ledgerRead_served {k : Desc → State → State} {m : Nat} (hs : serves t d s) (hready : s.nv.ledgerReady = true)
    (hrow : isRow 0x59 d = true) (h5 : p8 d 5 ≤ 3) (hp : parNonzero 6 24 d = none) (hm : p8 d 4 = m) :
    ∃ fl tn, Answerable d (working fl tn (elapse t s)) ∧ descCommand t (setPar 4 m (asOp 0x59 d)) (ledgerRead k) s =
      .next (finish (k d (working fl tn (elapse t s)))) := by
  obtain ⟨fl, tn, hans, hrun⟩ := served_working hs
  refine ⟨fl, tn, hans, ?_⟩
  rw [asOp_self hrow, setPar_self (Bool.and_eq_true_iff.mp hrow).1 (by decide) hm, hrun (ledgerRead k), ledgerRead_runs h5 hp]
  exact (elapse_nv_ledgerReady t s).trans hready

/-- LEDGER_READ of nothing. -/
theorem readBlocks_nothing (hs : serves t d s) (hready : s.nv.ledgerReady = true) (hrow : isRow 0x59 d = true)
    (h5 : p8 d 5 ≤ 3) (hp : parNonzero 6 24 d = none) (h4 : p8 d 4 = 0) (hlen : d.len = 0) :
    ∃ s', exec (.ledgerReadBlocks t d) s = .next s' ∧ answers d stOk (readResult 0 false false s) 0 (elapse t s) s' := by
  obtain ⟨fl, tn, hans, hrun⟩ := ledgerRead_served (k := readBlocks) hs hready hrow h5 hp h4
  rw [readBlocks, if_pos hlen, (sameBlocks_working fl tn t s).readResult] at hrun
  exact ⟨_, hrun, answers_of_working (hans.quiet (quietStatus_ok _))⟩

/-- LEDGER_READ of blocks (R380). -/
theorem readBlocks_copies (hs : serves t d s) (hready : s.nv.ledgerReady = true) (hrow : isRow 0x59 d = true)
    (h5 : p8 d 5 ≤ 3) (hp : parNonzero 6 24 d = none) (h4 : p8 d 4 = 0) (hlen : d.len ≠ 0) (h1 : 1 ≤ p32 d 0)
    (hhead : s.lgr.head ≤ p32 d 0) (htail : p32 d 0 ≤ lgrTail s) :
    let r := readRange (bit 1 (p8 d 5)) s (d.len / 64) (p32 d 0); let verify := bit 0 (p8 d 5)
    let bs := (r.1.map (fun q => blockBytes q s)).flatten
    let bad := if verify then firstBad r.1 s else none
    dmaBlocked d d.dstAddr bs.length s = false →
    ∃ s1 s', exec (.ledgerReadBlocks t d) s = .next s' ∧
      answers d (if bad.isSome then stMacFail else stOk)
        (readResult (if verify then bad.getD 0 else bs.length) true r.2 s) 0 (dmaWrite d d.dstAddr bs s1) s' ∧
      s1 = { elapse t s with regs := s1.regs } ∧ keepsRegs [NVS_ECC_CNT.reg, NVS_ERR_ADDR.reg] s s1 := by
  intro r verify bs bad hdma
  obtain ⟨fl, tn, hans, hrun⟩ := ledgerRead_served (k := readBlocks) hs hready hrow h5 hp h4
  have hsame := sameBlocks_working fl tn t s
  let s1 : State := countBlocks r.1 (elapse t s)
  obtain ⟨hframe, hkept⟩ := countBlocks_frame r.1 (elapse t s)
  have hans1 : Answerable d (working fl tn s1) := by
    rw [show s1 = _ from hframe]
    exact ⟨hans.heard, hans.mem, hans.hostWait, hans.wait, hans.queue⟩
  have hblk : dmaBlocked d d.dstAddr bs.length (working fl tn s1) = false := by
    rw [show s1 = _ from hframe]
    exact (working_crypt fl tn 0 0 isAes d.dstAddr _).2.2.1.trans hdma
  have hquiet : quietStatus (if bad.isSome then stMacFail else stOk) d.opcode = true := by
    rw [opcode_of_isRow hrow]
    split <;> decide
  refine ⟨s1, _, ?_, answers_atDst (out := bs) hans1 hquiet, hframe, fun off ho =>
    (hkept.keeps off ho).trans (elapse_regGet off t s)⟩
  have hin : ¬ (p32 d 0 < (working fl tn (elapse t s)).lgr.head ∨ p32 d 0 > lgrTail (working fl tn (elapse t s)) ∨ p32 d 0 = 0) := by
    rw [lgrTail, hsame.lgr]
    rw [lgrTail] at htail
    omega
  have hbytes : ∀ qs : List Nat, qs.map (fun q => blockBytes q (working fl tn (elapse t s))) = qs.map (fun q => blockBytes q s) :=
    fun qs => List.map_congr_left fun q _ => hsame.blockBytes q
  have hres : ∀ (v : Nat) (full stopped : Bool),
      readResult v full stopped (dmaWrite d d.dstAddr bs (working fl tn s1)) = readResult v full stopped s := by
    intro v full stopped
    refine SameBlocks.readResult ⟨?_, ?_, ?_, ?_⟩ v full stopped
    all_goals
      rw [show s1 = _ from hframe]
      unfold dmaWrite
    · split <;> exact elapse_lgr t s
    · split <;> exact elapse_nv_mem t s
    · split <;> exact elapse_nv_bad t s
    · split <;> exact elapse_part t s
  rw [← hres]
  show exec (.ledgerReadBlocks t d) s = _
  refine hrun.trans ?_
  rw [readBlocks, if_neg hlen, if_neg hin]
  simp only [hsame.readRange, hbytes, hsame.firstBad, countBlocks_working]
  rw [writeDst_ok _ hblk]

/-- LEDGER_READ of statements (R380). -/
theorem readStatements_copies (hs : serves t d s) (hready : s.nv.ledgerReady = true) (hrow : isRow 0x59 d = true)
    (h5 : p8 d 5 ≤ 3) (hp : parNonzero 6 24 d = none) (h4 : p8 d 4 = 1) (hlen : d.len ≠ 0) (hi : p32 d 0 ≤ 255)
    (hall : ∀ k < 256, (recRead (recStatement k) s).isSome = true) :
    let bs := ((List.range (d.len / 192)).map (fun i =>
      fit 192 ((recRead (recStatement (p32 d 0 + i)) s).getD []))).flatten
    dmaBlocked d d.dstAddr bs.length s = false →
    ∃ s', exec (.ledgerReadStatements t d) s = .next s' ∧
      answers d stOk (readResult bs.length true false s) 0
        (dmaWrite d d.dstAddr bs { elapse t s with free := s.free + 192 }) s' := by
  intro bs hdma
  obtain ⟨fl, tn, hans, hrun⟩ := ledgerRead_served (k := readStatements) hs hready hrow h5 hp h4
  let s1 : State := { elapse t s with free := s.free + 192 }
  have htook : tookFree 192 (working fl tn (elapse t s)) = working fl tn s1 := by
    show ({ working fl tn (elapse t s) with free := (elapse t s).free + 192 } : State) = _
    rw [elapse_free]
    rfl
  have hring : ∀ i, ringStatement i (working fl tn (elapse t s)) = fit 192 ((recRead (recStatement i) s).getD []) := by
    intro i
    have hr : recRead (recStatement i) (working fl tn (elapse t s)) = recRead (recStatement i) s := elapse_recRead _ t s
    have hsome : (recRead (recStatement i) s).isSome = true := by
      have h := hall (i % 256) (Nat.mod_lt _ (by decide))
      rwa [recStatement, Nat.mod_mod, ← recStatement] at h
    obtain ⟨b, hb⟩ := Option.isSome_iff_exists.mp hsome
    rw [ringStatement, hr, hb]
    rfl
  have hans1 : Answerable d (working fl tn s1) := ⟨hans.heard, hans.mem, hans.hostWait, hans.wait, hans.queue⟩
  have hblk : dmaBlocked d d.dstAddr bs.length (working fl tn s1) = false :=
    (working_crypt fl tn 0 0 isAes d.dstAddr _).2.2.1.trans hdma
  refine ⟨_, ?_, answers_atDst (out := bs) hans1 (quietStatus_ok _)⟩
  have hres : readResult bs.length true false (dmaWrite d d.dstAddr bs (working fl tn s1)) =
      readResult bs.length true false s := by
    refine SameBlocks.readResult ⟨?_, ?_, ?_, ?_⟩ _ _ _
    all_goals unfold dmaWrite
    · split <;> exact elapse_lgr t s
    · split <;> exact elapse_nv_mem t s
    · split <;> exact elapse_nv_bad t s
    · split <;> exact elapse_part t s
  rw [← hres]
  refine (show exec (.ledgerReadStatements t d) s = _ from hrun).trans ?_
  rw [readStatements, if_neg hlen, if_neg (by omega)]
  simp only [hring, htook]
  rw [writeDst_ok _ hblk]

end

end Sys2Proof.Machine
end

section
/-! SUPPORT. Attestations of the ledger. -/
namespace Sys2Proof.Machine

section
variable {s : State} {t : Nat} {d : Desc}

/-! ## Records nobody hears of -/

/-- A record takes the settings as last written before anything else (R387). -/
theorem append_useCtl (typ src data : Nat) {x : State} (hr : x.nv.ledgerReady = true) :
    append typ src data (useCtl x) = append typ src data x := by
  have hr' : (useCtl x).nv.ledgerReady = true := hr
  unfold append appendAt
  simp only [hr, hr', if_true]
  show writeRecord ⟨typ, src, data, x.clk.wall.toNat, now x⟩ (useCtl x) = writeRecord ⟨typ, src, data, x.clk.wall.toNat, now x⟩ x
  generalize (⟨typ, src, data, x.clk.wall.toNat, now x⟩ : LRec) = r
  have hclosed : (useCtl x).lgr.closed = x.lgr.closed := rfl
  unfold writeRecord
  rw [hclosed]
  split
  · rfl
  · by_cases h : x.lgr.lost = 0 ∨ x.lgr.closed = true
    · have h1 : reportLost x = x := by rw [reportLost, if_pos h]
      have h2 : reportLost (useCtl x) = useCtl x := by
        rw [reportLost, if_pos (show (useCtl x).lgr.lost = 0 ∨ (useCtl x).lgr.closed = true from h)]
      rw [h1, h2]
      rfl
    · have h1 : reportLost (useCtl x) = reportLost x := by
        rw [reportLost, reportLost, if_neg h,
          if_neg (show ¬ ((useCtl x).lgr.lost = 0 ∨ (useCtl x).lgr.closed = true) from h)]
        rfl
      rw [h1]

/-- With LGR_CTL.EVT = 0 nobody hears of a record (R386, R387). -/
theorem append_unheard (typ src data : Nat) {x : State} (hr : x.nv.ledgerReady = true) (he : flag LGR_CTL.EVT x = false) :
    Unheard x (append typ src data x) := by
  rw [← append_useCtl typ src data hr]
  exact (Unheard.useCtl x).trans (silent_closed.append (useCtl x) typ src data hr he he)

/-- BREAK stays. -/
def BreakKept (a b : State) : Prop :=
  Regs.wf a = true → Regs.wf b = true ∧ fld LGR_STATUS.BREAK b = fld LGR_STATUS.BREAK a

theorem breakKept_closed : RecordClosed BreakKept := by
  refine ⟨fun h1 h2 hwf => ?_, fun h => h.brk, fun kind seq count x hwf => ?_⟩
  · obtain ⟨hb, e1⟩ := h1 hwf
    obtain ⟨hc, e2⟩ := h2 hb
    exact ⟨hc, e2.trans e1⟩
  · have h := (lgrEvt_posted kind seq count x).regs
    exact ⟨h.wf hwf, h.fld _ (by decide)⟩

/-- What a completion counts and records (R127). -/
theorem RecordClosed.counted {R : State → State → Prop} (hR : RecordClosed R) (d : Desc) (st : Nat) {x : State}
    (hr : x.nv.ledgerReady = true) : R x (counted d st x) := by
  have hdrained : Unheard x (drained d x) := by
    unfold drained
    split
    · exact ⟨rfl, rfl, rfl, rfl, .inl rfl, rfl, fun h => ⟨h, rfl⟩⟩
    · exact .refl x
  have hready : (drained d x).nv.ledgerReady = true := by
    unfold drained
    split <;> exact hr
  have hbumped : Unheard x (if 1 ≤ st ∧ st ≤ 6 then bump HIF_VIOL_CNT.DESC (drained d x) else drained d x) := by
    split
    · exact hdrained.trans (.setFld _ _ _ (by decide) (by decide))
    · exact hdrained
  have hbready : (if 1 ≤ st ∧ st ≤ 6 then bump HIF_VIOL_CNT.DESC (drained d x) else drained d x).nv.ledgerReady = true := by
    split <;> exact hready
  unfold Machine.counted
  dsimp only
  split
  · exact hR.trans (hR.quiet hbumped) (hR.append _ _ _ _ hbready)
  · exact hR.quiet hbumped

/-! ## Signatures -/

/-- A signature's bytes depend on the free bytes alone. -/
theorem signWith_free (k : Nat) (e : Bytes) {x y : State} (h : x.free = y.free) : (signWith k e x).1 = (signWith k e y).1 := by
  have h1 : (drawNonce x).1 = (drawNonce y).1 := by simp only [drawNonce, drawBytes, freeBytes, h]
  have hfree : ∀ z : State, (drawNonce z).2.free = z.free + 32 := fun z => by
    show (drawBytes 32 z).2.free = _
    rw [(drawBytes_frame 32 z).1]
  have h2 : (drawNonce (drawNonce x).2).1 = (drawNonce (drawNonce y).2).1 := by
    have hf : (drawNonce x).2.free = (drawNonce y).2.free := by rw [hfree, hfree, h]
    simp only [drawNonce, drawBytes, freeBytes] at hf ⊢
    rw [hf]
  cases hk : ecdsaSign k (drawNonce y).1 e with
  | some sig => simp only [signWith, h1, hk]
  | none => simp only [signWith, h1, hk, h2]

/-- The signature of a statement whose first bytes are `h`. -/
def statementSig (h : Bytes) (x : State) : Bytes := (signWith dakScalar (sha256 (dakLedgerPrefix ++ h)) x).1

/-- The state in which the statement is signed. -/
def signedState (h : Bytes) (x : State) : State :=
  (signWith dakScalar (sha256 (dakLedgerPrefix ++ h)) (bump CRY_PKE_CNT.SIGN x)).2

theorem signStatement_eq (h : Bytes) (x : State) : signStatement h x = (h ++ statementSig h x, signedState h x) := by
  rw [signStatement, statementSig, signWith_free _ _ (show x.free = (bump CRY_PKE_CNT.SIGN x).free from rfl)]
  rfl

/-- A signature changes free bytes, the generator's registers and the signature unit's count. -/
theorem signedState_frame (h : Bytes) (x : State) :
    signedState h x = { x with regs := (signedState h x).regs, free := (signedState h x).free } ∧
      RegsKept [CRY_PKE_CNT.reg, RNG_REQ_CNT.reg, RNG_STATUS.reg] x (signedState h x) := by
  obtain ⟨hf, hk⟩ := signWith_frame dakScalar (sha256 (dakLedgerPrefix ++ h)) (bump CRY_PKE_CNT.SIGN x)
  refine ⟨?_, RegsKept.trans (.bump _ _ (by decide)) (hk.mono (by decide))⟩
  exact hf

theorem signedState_working (h : Bytes) (fl : List Flight) (tn : Nat) (x : State) :
    signedState h (working fl tn x) = working fl tn (signedState h x) := by
  rw [signedState, bump_working, (signWith_working _ _ fl tn _).2]
  rfl

theorem statementSig_working (h : Bytes) (fl : List Flight) (tn : Nat) (x : State) :
    statementSig h (working fl tn x) = statementSig h x := signWith_free _ _ rfl

/-- A statement tells nothing of the work in progress. -/
theorem statementHead_working (kind extra a b : Nat) (ok : Bool) (nonce : Bytes) (fl : List Flight) (tn : Nat) (x : State) :
    statementHead kind extra a b ok nonce (working fl tn x) = statementHead kind extra a b ok nonce x := rfl

/-! ## LEDGER_ATTEST -/

/-- What a LEDGER_ATTEST of blocks `a` to `b` meets. -/
structure Attests (t a b : Nat) (d : Desc) (s : State) : Prop where
  serves : serves t d s
  ready : s.nv.ledgerReady = true
  row : isRow 0x5B d = true
  fromSeq : p32 d 0 = a
  toSeq : p32 d 4 = b
  first : 1 ≤ a
  head : s.lgr.head ≤ a
  order : a ≤ b
  sealed : b ≤ lgrSealed s
  count : b - a < 65536

/-- LEDGER_ATTEST past its checks. -/
def attestFrom (a b : Nat) (d : Desc) (s x : State) : State :=
  match firstBad (blocksOf a b) s with
  | some q => complete d stMacFail (List.replicate 8 0 ++ leBytes 4 q) 0 (chainBreak q x)
  | none => match drawFails s with
    | some st => if st = stHealth then fail d st 0 x else attestWait d b x
    | none => attestNow d a b x

/-- Its checks (R382). -/
theorem ledgerAttest_checked {a b tn : Nat} {fl : List Flight} (h : Attests t a b d s) :
    ledgerAttest d (working fl tn (elapse t s)) = attestFrom a b d s (working fl tn (elapse t s)) := by
  obtain ⟨-, hready, -, rfl, rfl, h1, hhead, horder, hsealed, hcount⟩ := h
  have hsame := sameBlocks_working fl tn t s
  have hb0 : p32 d 4 ≠ 0 := by omega
  have hl : lgrSealed (working fl tn (elapse t s)) = lgrSealed s := by rw [lgrSealed, lgrSealed, hsame.lgr]
  have hin : ¬ (p32 d 0 < s.lgr.head ∨ p32 d 0 > p32 d 4 ∨ p32 d 4 > lgrSealed (working fl tn (elapse t s)) ∨ p32 d 0 = 0 ∨
      p32 d 4 - p32 d 0 ≥ 65536) := by
    rw [hl]
    omega
  rw [ledgerAttest, afterRecall,
    if_pos (show (working fl tn (elapse t s)).nv.ledgerReady = true from (elapse_nv_ledgerReady t s).trans hready)]
  simp only [if_neg hb0, hsame.lgr, if_neg hin, hsame.firstBad, (working_sign fl tn d).2.1]
  rfl

theorem ledgerAttest_runs {a b : Nat} (h : Attests t a b d s) : ∃ fl tn, Answerable d (working fl tn (elapse t s)) ∧
    exec (.ledgerAttest t d) s = .next (finish (attestFrom a b d s (working fl tn (elapse t s)))) := by
  obtain ⟨fl, tn, hans, hrun⟩ := served_working h.serves
  refine ⟨fl, tn, hans, ?_⟩
  show descCommand t (asOp 0x5B d) ledgerAttest s = _
  rw [asOp_self h.row, hrun ledgerAttest, ledgerAttest_checked h]

/-- Reading the own parameters of a descriptor of the sequencer. -/
theorem leAt_between {m k n : Nat} {a b : Bytes} (ha : a.length = m) : leAt m k (a ++ leBytes k n ++ b) = n % 256 ^ k := by
  have hs : slice m k (a ++ leBytes k n ++ b) = leBytes k n := by
    rw [slice, List.append_assoc, List.drop_left' ha, List.take_left' (leBytes_length k n), leBytes_length, Nat.sub_self,
      List.replicate_zero, List.append_nil]
  rw [leAt, hs, leNat_leBytes]

/-- LEDGER_ATTEST waits while the generator is in Steep, with its TO fixed (R320, R382). -/
theorem ledgerAttest_waits {a b : Nat} (h : Attests t a b d s) (hgood : firstBad (blocksOf a b) s = none)
    (hdraw : drawFails s = some stNotReady) :
    ∃ d1 s', exec (.ledgerAttest t d) s = .next s' ∧ d1.src = d.src ∧ d1.idx = d.idx ∧ d1.no = d.no ∧ p32 d1 4 = b ∧
      settles { atWork d (elapse t s) with
        lcy := { s.lcy with steepWait := s.lcy.steepWait ++ [(d1, now (elapse t s) + timeoutTicks d 100)] } } s' := by
  obtain ⟨fl, tn, hat⟩ := atWork_working d (elapse t s) h.serves.2.2.2
  obtain ⟨hans, hrun⟩ := served_atWork h.serves
  let d1 : Desc := { d with par := slice 0 4 d.par ++ leBytes 4 b ++ slice 8 16 d.par }
  refine ⟨d1, finish (attestWait d b (working fl tn (elapse t s))), ?_, rfl, rfl, rfl, ?_, ?_⟩
  · show descCommand t (asOp 0x5B d) ledgerAttest s = _
    rw [asOp_self h.row, hrun ledgerAttest, hat, ledgerAttest_checked h, attestFrom, hgood, hdraw]
    dsimp only
    rw [if_neg (by decide)]
  · have hlt : b < 256 ^ 4 := h.toSeq ▸ leAt_lt_pow 4 4 d.par
    rw [p32, leAt_between (slice_length 0 4 d.par), Nat.mod_eq_of_lt hlt]
  · rw [hat] at hans ⊢
    have hlcy : (working fl tn (elapse t s)).lcy = s.lcy := elapse_lcy t s
    rw [attestWait, hlcy]
    exact finish_settles _ hans.hostWait hans.wait hans.queue

/-- Registers changed and the ledger took a step of its own. -/
theorem Recorded.of_frame {cells offs : List Nat} {x y : State} (hf : y = { x with regs := y.regs, lgr := y.lgr })
    (hk : RegsKept (recordRegs ++ offs) x y) (hw : y.lgr.hostWait = x.lgr.hostWait) : Recorded cells offs x y := by
  refine ⟨?_, hk, .of_eq (congrArg State.hif hf :) (congrArg State.hostMem hf :),
    .of_eq _ (congrArg (fun z : State => z.nv.mem) hf :) (congrArg (fun z : State => z.nv.bad) hf :), hw⟩
  rw [hf]
  rfl

/-- The state in which an attestation up to block `b` has been noted and recorded (R378, R382). -/
def attested (b : Nat) (x : State) : State := append 0x05 0 (b % 2 ^ 24) (noteSigned b x)

/-- What a write to DST leaves to other steps. -/
theorem dmaWrite_regs_free (a : Nat) (bs : Bytes) (x : State) (r : List (Nat × Word)) (f : Nat) :
    dmaWrite d a bs { x with regs := r, free := f } = { dmaWrite d a bs { x with free := f } with regs := r } := by
  unfold dmaWrite
  split <;> rfl

theorem dmaWrite_keeps (a : Nat) (bs : Bytes) (x : State) : (dmaWrite d a bs x).regs = x.regs ∧
    (dmaWrite d a bs x).part = x.part ∧ (dmaWrite d a bs x).lgr = x.lgr ∧ (dmaWrite d a bs x).nv = x.nv ∧
    (dmaWrite d a bs x).free = x.free := by
  unfold dmaWrite
  split <;> exact ⟨rfl, rfl, rfl, rfl, rfl⟩

/-- LEDGER_ATTEST signs its statement (R382). -/
theorem ledgerAttest_signs {a b : Nat} (h : Attests t a b d s) (hgood : firstBad (blocksOf a b) s = none)
    (hdraw : drawFails s = none) (hdma : dmaBlocked d d.dstAddr 192 s = false) :
    let h := statementHead 2 0 a b true (slice 8 16 d.par) (elapse t s)
    let sig := statementSig h (elapse t s)
    (h ++ sig).length = 192 →
    ∃ s1 s', exec (.ledgerAttest t d) s = .next s' ∧ answers d stOk (leBytes 4 a ++ leBytes 4 b) 0 s1 s' ∧
      recordsOnly [] [CRY_PKE_CNT.reg, RNG_REQ_CNT.reg, RNG_STATUS.reg]
        (dmaWrite d d.dstAddr (h ++ sig) { elapse t s with free := s1.free }) s1 ∧
      s1.lgr.signed = max s.lgr.signed b ∧
      (flag LGR_CTL.EVT s = false → s1.hostMem = (dmaWrite d d.dstAddr (h ++ sig) (elapse t s)).hostMem) := by
  intro head sig hlen
  obtain ⟨fl, tn, hans, hrun⟩ := ledgerAttest_runs h
  let w : State := working fl tn (elapse t s)
  let x1 : State := signedState head w
  let base : State := dmaWrite d d.dstAddr (head ++ sig) { w with free := x1.free }
  let y0 : State := dmaWrite d d.dstAddr (head ++ sig) x1
  let y : State := attested b y0
  obtain ⟨hx1, hk1⟩ := signedState_frame head w
  have hy0 : y0 = { base with regs := x1.regs } := by
    have hsplit := dmaWrite_regs_free (d := d) d.dstAddr (head ++ sig) w x1.regs x1.free
    rw [← show x1 = { w with regs := x1.regs, free := x1.free } from hx1] at hsplit
    exact hsplit
  obtain ⟨hbregs, hbpart, hblgr, hbnv, hbfree⟩ : base.regs = w.regs ∧ base.part = w.part ∧ base.lgr = w.lgr ∧
      base.nv = w.nv ∧ base.free = x1.free := dmaWrite_keeps d.dstAddr (head ++ sig) { w with free := x1.free }
  have hx1part : x1.part = w.part := (congrArg State.part hx1 :)
  have hk0 : RegsKept [CRY_PKE_CNT.reg, RNG_REQ_CNT.reg, RNG_STATUS.reg] base (noteSigned b y0) := by
    have hy0r : (noteSigned b y0).regs = x1.regs := (congrArg State.regs hy0 :)
    have hy0p : (noteSigned b y0).part = x1.part := ((congrArg State.part hy0 :).trans hbpart).trans hx1part.symm
    exact ((RegsKept.of_eq _ hbregs.symm hbpart.symm).trans hk1).trans (.of_eq _ hy0r hy0p)
  have hrec0 : Recorded [] [CRY_PKE_CNT.reg, RNG_REQ_CNT.reg, RNG_STATUS.reg] base (noteSigned b y0) :=
    .of_frame (by rw [hy0]; rfl) (hk0.mono (List.subset_append_right _ _))
      (congrArg (fun z : State => z.lgr.hostWait) hy0 :)
  have hready0 : (noteSigned b y0).nv.ledgerReady = true := by
    have h1 : (noteSigned b y0).nv = w.nv := (congrArg State.nv hy0 :).trans hbnv
    rw [h1]
    exact (elapse_nv_ledgerReady t s).trans h.ready
  have hrec : Recorded [] [CRY_PKE_CNT.reg, RNG_REQ_CNT.reg, RNG_STATUS.reg] base y :=
    hrec0.trans (Recorded.append _ _ _ _ hready0)
  have hansb : Answerable d base :=
    Answerable.dmaWrite (s := { w with free := x1.free }) ⟨hans.heard, hans.mem, hans.hostWait, hans.wait, hans.queue⟩ _ _
  have hyfree : y.free = x1.free := (congrArg State.free hrec.blank :).trans hbfree
  have hsigned : y.lgr.signed = max s.lgr.signed b := by
    refine (marksKept_closed.append _ _ _ _ hready0).2.trans ?_
    have h1 : y0.lgr = w.lgr := (congrArg State.lgr hy0 :).trans hblgr
    show max y0.lgr.signed b = _
    rw [h1, show w.lgr = s.lgr from elapse_lgr t s]
  have hblk : dmaBlocked d d.dstAddr (head ++ sig).length x1 = false := by
    rw [hlen, show x1 = _ from hx1]
    exact (working_crypt fl tn 0 0 isAes d.dstAddr _).2.2.1.trans hdma
  have hstate : attestFrom a b d s w = complete d stOk (leBytes 4 a ++ leBytes 4 b) 0 y := by
    rw [attestFrom, hgood, hdraw]
    show attestNow d a b w = _
    rw [attestNow, statementHead_working, signStatement_eq, statementSig_working]
    exact writeDst_ok _ hblk
  refine ⟨y, _, by rw [hrun, hstate], (hansb.recorded hrec).quiet (quietStatus_ok _), ?_, hsigned, fun hevt => ?_⟩
  · rw [hyfree]
    refine hrec.recordsOnly ?_ ?_ ?_
    · show blankRecords (dmaWrite d d.dstAddr (head ++ sig) { w with free := x1.free }) = _
      rw [show ({ w with free := x1.free } : State) =
        withHif w.hif { elapse t s with free := x1.free } from rfl, dmaWrite_withHif]
      rfl
    · rw [hbregs]
      unfold dmaWrite
      split <;> rfl
    · rw [hbnv]
      unfold dmaWrite
      split <;> rfl
  · have hflag : flag LGR_CTL.EVT (noteSigned b y0) = false := by
      have h1 : fld LGR_CTL.EVT base = fld LGR_CTL.EVT s := by
        simp only [fld, regGet, hbregs, hbpart]
        exact elapse_fld LGR_CTL.EVT t s
      rw [flag, hk0.fld _ (by decide), h1]
      exact hevt
    refine (append_unheard _ _ _ hready0 hflag).hostMem.trans ?_
    refine (congrArg State.hostMem hy0 :).trans ?_
    show (dmaWrite d d.dstAddr (head ++ sig) { w with free := x1.free }).hostMem = _
    unfold dmaWrite
    split <;> rfl

/-- A broken chain (R376, R382). -/
theorem ledgerAttest_breaks {a b q : Nat} (h : Attests t a b d s) (hm : memorySafe s)
    (hbad : firstBad (blocksOf a b) s = some q) :
    ∃ s1 s', exec (.ledgerAttest t d) s = .next s' ∧
      answers d stMacFail (List.replicate 8 0 ++ leBytes 4 q) 0 s1 s' ∧
      recordsOnly [] [LGR_CNT2.reg, HIF_VIOL_CNT.reg] (elapse t s) s1 ∧
      fld LGR_STATUS.BREAK s1 = 1 ∧ fld LGR_CNT2.BREAK s1 = sat LGR_CNT2.BREAK.width (fld LGR_CNT2.BREAK s + 1) ∧
      s1.lgr.signed = s.lgr.signed := by
  obtain ⟨fl, tn, hans, hrun⟩ := ledgerAttest_runs h
  let w : State := working fl tn (elapse t s)
  have hwf : Regs.wf w = true := memorySafe_elapse_wf hm t
  let x : State := bump LGR_CNT2.BREAK (setFld LGR_STATUS.BREAK 1 w)
  have hwr : w.nv.ledgerReady = true := (elapse_nv_ledgerReady t s).trans h.ready
  have hset : Recorded [] [LGR_CNT2.reg, HIF_VIOL_CNT.reg] w (setFld LGR_STATUS.BREAK 1 w) := .setFld _ _ _ (by decide)
  have hwx : Recorded [] [LGR_CNT2.reg, HIF_VIOL_CNT.reg] w x := hset.trans (.bump _ _ (by decide))
  have hxbreak : fld LGR_STATUS.BREAK x = 1 := by
    show fld LGR_STATUS.BREAK (bump LGR_CNT2.BREAK (setFld LGR_STATUS.BREAK 1 w)) = 1
    rw [(RegsKept.bump (offs := [LGR_CNT2.reg]) LGR_CNT2.BREAK (setFld LGR_STATUS.BREAK 1 w) (by decide)).fld _ (by decide),
      fld_setFld_same _ (by decide) _ _ hwf]
    rfl
  have hxcount : fld LGR_CNT2.BREAK x = sat LGR_CNT2.BREAK.width (fld LGR_CNT2.BREAK s + 1) := by
    show fld LGR_CNT2.BREAK (bump LGR_CNT2.BREAK (setFld LGR_STATUS.BREAK 1 w)) = _
    rw [fld_bump_same _ (by decide) _ (hset.regs_wf hwf),
      (RegsKept.setFld (offs := [LGR_STATUS.reg]) LGR_STATUS.BREAK 1 w (by decide)).fld _ (by decide)]
    exact congrArg (fun v => sat LGR_CNT2.BREAK.width (v + 1)) (elapse_fld LGR_CNT2.BREAK t s)
  have hxsigned : x.lgr.signed = s.lgr.signed := (congrArg Lgr.signed (elapse_lgr t s) :)
  let y : State := chainBreak q w
  let z : State := counted d stMacFail y
  have hxy : Recorded [] [LGR_CNT2.reg, HIF_VIOL_CNT.reg] x y :=
    (Recorded.append 0x07 0 (q % 2 ^ 24) x hwr).trans (lgrEvt_recorded _ 6 q 0)
  have hyz : Recorded [] [LGR_CNT2.reg, HIF_VIOL_CNT.reg] y z :=
    Recorded.counted d stMacFail y (hxy.ledgerReady.trans hwr) (fun h => absurd h (by decide))
  have hkeep : ∀ {R : State → State → Prop}, RecordClosed R → R x z := fun {R} hR =>
    hR.trans (hR.trans (hR.append x 0x07 0 (q % 2 ^ 24) hwr) (hR.event 6 q 0 _))
      (hR.counted d stMacFail (hxy.ledgerReady.trans hwr))
  have hstate : attestFrom a b d s w = complete d stMacFail (List.replicate 8 0 ++ leBytes 4 q) 0 y := by
    rw [attestFrom, hbad]
  have hans1 : Answerable d y := hans.recorded (hwx.trans hxy)
  refine ⟨z, _, by rw [hrun, hstate], hans1.counted hyz, ((hwx.trans hxy).trans hyz).recordsOnly rfl rfl rfl,
    ((hkeep breakKept_closed) (hwx.regs_wf hwf)).2.trans hxbreak, ?_, (hkeep marksKept_closed).2.trans hxsigned⟩
  have hxz : Recorded [] [HIF_VIOL_CNT.reg] x z :=
    ((Recorded.append 0x07 0 (q % 2 ^ 24) x hwr).trans (lgrEvt_recorded _ 6 q 0)).trans
      (Recorded.counted d stMacFail y (hxy.ledgerReady.trans hwr) (fun h => absurd h (by decide)))
  rw [hxz.fld _ (by decide), hxcount]

end

end Sys2Proof.Machine
end

section
/-! SUPPORT. Checkpoints of the ledger. -/
namespace Sys2Proof.Machine

section
variable {s : State} {t : Nat}

/-! ## A record in a block that has room -/

/-- The words of the ledger are written beside its own state. -/
theorem lgrWrite_keeps_lgr (a : Nat) (bs : Bytes) (x : State) : (lgrWrite a bs x).lgr = x.lgr := by
  have hword : ∀ (w : Nat) (b : Bytes) (y : State), (nvWriteWord w b y).1.lgr = y.lgr := by
    intro w b y
    unfold nvWriteWord
    split <;> rfl
  have h : ∀ (ws : List Nat) (y : State), (nvWriteWords a bs ws y).1.lgr = y.lgr := by
    intro ws
    induction ws with
    | nil => exact fun _ => rfl
    | cons w ws ih =>
      intro y
      unfold nvWriteWords
      dsimp only
      split
      · exact hword _ _ _
      · exact (ih _).trans (hword _ _ _)
  exact h _ x

/-- A record that leaves its block room seals none. -/
theorem putRecord_ckpt {r : LRec} {k : Nat} {x : State} (ho : x.lgr.openRecs = some k) (hk : k < 5) :
    (putRecord r x).lgr.ckpt = x.lgr.ckpt := by
  unfold putRecord
  rw [ho]
  dsimp only
  rw [if_neg (by omega)]
  exact (congrArg Lgr.ckpt (lgrWrite_keeps_lgr _ _ x) :)

/-! ## The checkpoint -/

/-- What a checkpoint that is made meets (R378). -/
structure CheckpointMeets (k j : Nat) (x : State) : Prop where
  ready : x.nv.ledgerReady = true
  pending : x.lgr.ckpt = [k]
  fits : recFails (recStatement k) x = false
  opened : x.lgr.openRecs = some j
  room : j < 5
  lost : x.lgr.lost = 0
  closed : x.lgr.closed = false
  base : needsNewBase x.clk.wall.toNat x = false
  good : firstBad (blocksOf (max (4096 * k + 1) x.lgr.head) (4096 * k + 4096)) x = none
  regs : Regs.wf x = true
  recs : swf (fun _ => Dual.empty) x.nv.recs = true
  seqs : x.nv.recs.all (fun r => seqsOk r.2) = true

/-- The statement of a checkpoint. -/
def checkpointHead (k : Nat) (x : State) : Bytes :=
  statementHead 1 0 (max (4096 * k + 1) x.lgr.head) (4096 * k + 4096) true [] x

/-- The state in which it is stored. -/
def checkpointStored (k : Nat) (x : State) : State :=
  (recStore (recStatement k) (checkpointHead k x ++ statementSig (checkpointHead k x) x) (signedState (checkpointHead k x) x)).1

/-- The state in which it is noted in SIGNED and LGR_CKPT. -/
def checkpointNoted (k : Nat) (y : State) : State :=
  setFld LGR_CKPT.IDX (k % 256) (setFld LGR_CKPT.COUNT ((fld LGR_CKPT.COUNT y + 1) % 2 ^ 24) (noteSigned (4096 * k + 4096) y))

/-- The state in which it is recorded and told. -/
def checkpointTold (k : Nat) (y : State) : State := lgrEvt 1 (4096 * k + 4096) 0 (append 0x04 0 (k % 256) y)

/-- The state in which no checkpoint is pending. -/
def checkpointDone (y : State) : State := setFlag LGR_STATUS.CKPT_PEND false { y with lgr := { y.lgr with ckpt := [] } }

/-- The statement stands beside the signature's draw. -/
theorem checkpointStored_frame {k : Nat} {x : State} (hf : recFails (recStatement k) x = false) :
    recFails (recStatement k) (signedState (checkpointHead k x) x) = false ∧
      checkpointStored k x = { x with
        regs := (checkpointStored k x).regs, free := (checkpointStored k x).free, nv := (checkpointStored k x).nv } ∧
      (checkpointStored k x).nv.mem = x.nv.mem ∧ (checkpointStored k x).nv.ledgerReady = x.nv.ledgerReady ∧
      RegsKept [CRY_PKE_CNT.reg, RNG_REQ_CNT.reg, RNG_STATUS.reg] x (checkpointStored k x) := by
  obtain ⟨hx, hk⟩ := signedState_frame (checkpointHead k x) x
  have hnv : (signedState (checkpointHead k x) x).nv = x.nv := (congrArg State.nv hx :)
  have hf1 : recFails (recStatement k) (signedState (checkpointHead k x) x) = false := by
    rw [recFails, hnv]
    exact hf
  have heq := recStore_eq (checkpointHead k x ++ statementSig (checkpointHead k x) x) hf1
  have hmem := recStore_mem (checkpointHead k x ++ statementSig (checkpointHead k x) x) hf1
  have hready : (checkpointStored k x).nv.ledgerReady = (signedState (checkpointHead k x) x).nv.ledgerReady := by
    unfold checkpointStored
    have hf' : (signedState (checkpointHead k x) x).nv.wornRecs.contains (recStatement k) = false := hf1
    simp only [recStore_ok _ hf1, recWrite, hf', Bool.false_eq_true, if_false, pushBuf]
  unfold checkpointStored at hready ⊢
  generalize (recStore (recStatement k) (checkpointHead k x ++ statementSig (checkpointHead k x) x)
    (signedState (checkpointHead k x) x)).1 = y at *
  refine ⟨hf1, ?_, hmem.trans (congrArg Nv.mem hnv), hready.trans (congrArg Nv.ledgerReady hnv), ?_⟩
  · rw [heq]
    exact congrArg (fun z : State => { z with nv := y.nv }) hx
  · exact hk.trans (.of_eq _ (congrArg State.regs heq :) (congrArg State.part heq :))

/-- A due checkpoint is made in these steps. -/
theorem takeCheckpoint_steps {k j : Nat} {x : State} (h : CheckpointMeets k j x) :
    takeCheckpoint x = checkpointDone (checkpointTold k (checkpointNoted k (checkpointStored k x))) := by
  obtain ⟨hf1, hframe, hmem, hready, -⟩ := checkpointStored_frame h.fits
  have hstored : recStore (recStatement k) (checkpointHead k x ++ statementSig (checkpointHead k x) x)
      (signedState (checkpointHead k x) x) = (checkpointStored k x, false) := by
    rw [checkpointStored, recStore_ok _ hf1]
  have hmake : makeCheckpoint k 0 (max (4096 * k + 1) x.lgr.head) (4096 * k + 4096) x =
      (checkpointTold k (checkpointNoted k (checkpointStored k x)), true) := by
    unfold makeCheckpoint
    simp only [h.good, Option.isNone_none, Option.isSome_none]
    rw [← checkpointHead, signStatement_eq]
    dsimp only
    rw [hstored]
    rfl
  have hlgr : (checkpointStored k x).lgr = x.lgr := (congrArg State.lgr hframe :)
  generalize checkpointStored k x = y at *
  have hnready : (checkpointNoted k y).nv.ledgerReady = true := hready.trans h.ready
  have hopen : (checkpointNoted k y).lgr.openRecs = some j := (congrArg Lgr.openRecs hlgr :).trans h.opened
  have hbase : needsNewBase (checkpointNoted k y).clk.wall.toNat (checkpointNoted k y) = false := by
    have hb := h.base
    have hnext : (checkpointNoted k y).lgr.next = x.lgr.next := (congrArg Lgr.next hlgr :)
    have hpart : (checkpointNoted k y).part = x.part := (congrArg State.part hframe :)
    have hwall : (checkpointNoted k y).clk = x.clk := (congrArg State.clk hframe :)
    have hopenBase := openBase_congr hnext (show (checkpointNoted k y).nv.mem = x.nv.mem from hmem) hpart
    simp only [needsNewBase, hopen, h.opened] at hb ⊢
    rw [openBase, openAddr, openBase, openAddr] at hopenBase
    rw [hopenBase, hwall]
    exact hb
  have hjoin := append_joins 0x04 0 (k % 256) (checkpointNoted k y) hnready ((congrArg Lgr.closed hlgr :).trans h.closed)
    ((congrArg Lgr.lost hlgr :).trans h.lost) hopen hbase
  have hckpt : (checkpointTold k (checkpointNoted k y)).lgr.ckpt = [k] := by
    rw [checkpointTold, (lgrEvt_posted _ _ _ _).lgr, hjoin,
      putRecord_ckpt (show (useCtl (checkpointNoted k y)).lgr.openRecs = some j from hopen) h.room]
    exact (congrArg Lgr.ckpt hlgr :).trans h.pending
  unfold takeCheckpoint
  simp only [h.pending, hmake, if_true, hckpt]
  rfl

/-- What a checkpoint leaves. -/
theorem checkpointDone_leaves {k j : Nat} {x y : State} (h : CheckpointMeets k j x)
    (hy : y = checkpointDone (checkpointTold k (checkpointNoted k (checkpointStored k x)))) :
    recRead (recStatement k) y = some (checkpointHead k x ++ statementSig (checkpointHead k x) x) ∧
      y.lgr.signed = max x.lgr.signed (4096 * k + 4096) ∧ y.lgr.ckpt = [] ∧ fld LGR_STATUS.CKPT_PEND y = 0 ∧
      fld LGR_CKPT.IDX y = k % 256 ∧ fld LGR_CKPT.COUNT y = (fld LGR_CKPT.COUNT x + 1) % 2 ^ 24 ∧
      Recorded [] [CRY_PKE_CNT.reg, RNG_REQ_CNT.reg, RNG_STATUS.reg, LGR_CKPT.reg]
        { x with free := y.free, nv := { x.nv with recs := y.nv.recs, twins := y.nv.twins } } y := by
  obtain ⟨hf1, hframe, hmem, hready, hkept⟩ := checkpointStored_frame h.fits
  obtain ⟨hx1, hk1⟩ := signedState_frame (checkpointHead k x) x
  have hxnv : (signedState (checkpointHead k x) x).nv = x.nv := (congrArg State.nv hx1 :)
  have hxlgr : (signedState (checkpointHead k x) x).lgr = x.lgr := (congrArg State.lgr hx1 :)
  have hread : recRead (recStatement k) (checkpointStored k x) =
      some (checkpointHead k x ++ statementSig (checkpointHead k x) x) :=
    recStore_recRead _ hf1 (by rw [hxnv]; exact h.recs) (by rw [hxnv]; exact h.seqs)
  have hstore : Recorded [] [CRY_PKE_CNT.reg, RNG_REQ_CNT.reg, RNG_STATUS.reg, LGR_CKPT.reg]
      { signedState (checkpointHead k x) x with nv := { (signedState (checkpointHead k x) x).nv with
        recs := (checkpointStored k x).nv.recs, twins := (checkpointStored k x).nv.twins } } (checkpointStored k x) :=
    Recorded.recStore _ _ _ (by rw [hxnv]; exact h.ready)
  have hfree1 : (checkpointStored k x).free = (signedState (checkpointHead k x) x).free := (congrArg State.free hstore.blank :)
  generalize signedState (checkpointHead k x) x = x1 at *
  generalize checkpointStored k x = y1 at *
  have hstart : Recorded [] [CRY_PKE_CNT.reg, RNG_REQ_CNT.reg, RNG_STATUS.reg, LGR_CKPT.reg]
      { x with free := y1.free, nv := { x.nv with recs := y1.nv.recs, twins := y1.nv.twins } }
      { x1 with nv := { x1.nv with recs := y1.nv.recs, twins := y1.nv.twins } } := by
    have hregs : RegsKept (recordRegs ++ [CRY_PKE_CNT.reg, RNG_REQ_CNT.reg, RNG_STATUS.reg, LGR_CKPT.reg]) x x1 :=
      hk1.mono (by decide)
    obtain ⟨r, f, rfl⟩ : ∃ r f, x1 = { x with regs := r, free := f } := ⟨_, _, hx1⟩
    exact .of_frame (by rw [hfree1]) ⟨hregs.keeps, hregs.wf⟩ rfl
  have hready1 : y1.nv.ledgerReady = true := hready.trans h.ready
  have hlgr1 : y1.lgr = x.lgr := (congrArg State.lgr hframe :)
  have hwf1 : Regs.wf y1 = true := hkept.wf h.regs
  have hnoted : Recorded [] [CRY_PKE_CNT.reg, RNG_REQ_CNT.reg, RNG_STATUS.reg, LGR_CKPT.reg] y1 (checkpointNoted k y1) :=
    Recorded.trans (b := noteSigned (4096 * k + 4096) y1) (Recorded.setLgr y1 _ rfl)
      ((Recorded.setFld _ _ _ (by decide)).trans (.setFld _ _ _ (by decide)))
  have hready2 : (checkpointNoted k y1).nv.ledgerReady = true := hready1
  have htold : Recorded [] [] (checkpointNoted k y1) (checkpointTold k (checkpointNoted k y1)) :=
    (Recorded.append 0x04 0 (k % 256) _ hready2).trans (lgrEvt_recorded _ 1 (4096 * k + 4096) 0)
  have hsigned : (checkpointTold k (checkpointNoted k y1)).lgr.signed = max x.lgr.signed (4096 * k + 4096) := by
    rw [checkpointTold, (lgrEvt_posted _ _ _ _).lgr]
    refine (marksKept_closed.append _ _ _ _ hready2).2.trans ?_
    show max y1.lgr.signed _ = _
    rw [hlgr1]
  have hwfn : Regs.wf (noteSigned (4096 * k + 4096) y1) = true := hwf1
  have hidx : fld LGR_CKPT.IDX (checkpointNoted k y1) = k % 256 := by
    rw [checkpointNoted, fld_setFld_same _ (by decide) _ _ (regs_wf_setFld _ _ _ hwfn)]
    exact Nat.mod_mod _ _
  have hcount : fld LGR_CKPT.COUNT (checkpointNoted k y1) = (fld LGR_CKPT.COUNT x + 1) % 2 ^ 24 := by
    rw [checkpointNoted, fld_setFld_apart _ _ (by decide) (by decide) _ _ (regs_wf_setFld _ _ _ hwfn),
      fld_setFld_same _ (by decide) _ _ hwfn, hkept.fld _ (by decide)]
    exact Nat.mod_mod _ _
  generalize checkpointTold k (checkpointNoted k y1) = y3 at *
  have hdone : Recorded [] [] y3 (checkpointDone y3) :=
    Recorded.trans (b := { y3 with lgr := { y3.lgr with ckpt := [] } }) (Recorded.setLgr y3 _ rfl)
      (Recorded.setFld _ _ _ (by decide))
  have hrest := htold.trans hdone
  have hwf3 : Regs.wf { y3 with lgr := { y3.lgr with ckpt := [] } } = true := htold.regs_wf (hnoted.regs_wf hwf1)
  have hfinal : Recorded [] [CRY_PKE_CNT.reg, RNG_REQ_CNT.reg, RNG_STATUS.reg, LGR_CKPT.reg] y1 y :=
    hnoted.trans (hy ▸ hrest.mono (List.Subset.refl _) (List.subset_append_left _ _))
  have hrecs : y.nv.recs = y1.nv.recs := hfinal.recs
  have htwins : y.nv.twins = y1.nv.twins := (congrArg (fun z : State => z.nv.twins) hfinal.blank :)
  have hfree : y.free = y1.free := (congrArg State.free hfinal.blank :)
  refine ⟨?_, ?_, ?_, ?_, ?_, ?_, ?_⟩
  · rw [recRead, recGet, hrecs]
    exact hread
  · rw [hy]
    exact hsigned
  · rw [hy]
    rfl
  · rw [hy, checkpointDone, setFlag, fld_setFld_same _ (by decide) _ _ hwf3]
    rfl
  · rw [hy, hrest.fld _ (by decide), hidx]
  · rw [hy, hrest.fld _ (by decide), hcount]
  · rw [hrecs, htwins, hfree]
    exact (hstart.trans hstore).trans hfinal

end

/-- Settles O45. -/
theorem ledgerIsReadAndAttested : Obligations.LedgerIsReadAndAttested := by
  unfold Obligations.LedgerIsReadAndAttested
  intro s t hl hm hsh hready
  dsimp only
  refine ⟨fun d hs hrow h5 hp => ⟨fun h4 hlen => readBlocks_nothing hs hready hrow h5 hp h4 hlen,
    fun h4 hlen h1 hhead htail hdma => readBlocks_copies hs hready hrow h5 hp h4 hlen h1 hhead htail hdma,
    fun h4 hlen hi hall hdma => readStatements_copies hs hready hrow h5 hp h4 hlen hi hall hdma⟩,
    fun d hs hrow h1 hhead horder hsealed hcount => ?_, fun k j hck hdrover hbusy hrng hf hopen hj hlost hclosed hbase hgood => ?_⟩
  · have h : Attests t (p32 d 0) (p32 d 4) d s := ⟨hs, hready, hrow, rfl, rfl, h1, hhead, horder, hsealed, hcount⟩
    exact ⟨fun hgood hdraw hdma hlen => ledgerAttest_signs h hgood hdraw hdma hlen,
      fun hgood hdraw => ledgerAttest_waits h hgood hdraw, fun q hbad => ledgerAttest_breaks h hm hbad⟩
  · let x : State := elapse t s
    have hsame := sameBlocks_elapse t s
    obtain ⟨-, -, -, -, -, hrecs⟩ := memorySafe_elapse hm t
    obtain ⟨-, -, -, -, -, -, -, hseq⟩ := shaped_elapse hsh t
    have hxbase : needsNewBase x.clk.wall.toNat x = false := by
      have hob := openBase_congr (congrArg Lgr.next hsame.lgr :) hsame.mem hsame.part
      have hxo : x.lgr.openRecs = some j := (congrArg Lgr.openRecs hsame.lgr :).trans hopen
      simp only [needsNewBase, hxo, hopen] at hbase ⊢
      rw [openBase, openAddr, openBase, openAddr] at hob
      rw [hob]
      exact hbase
    have hmeets : CheckpointMeets k j x := by
      refine ⟨(elapse_nv_ledgerReady t s).trans hready, (congrArg Lgr.ckpt hsame.lgr :).trans hck, ?_,
        (congrArg Lgr.openRecs hsame.lgr :).trans hopen, hj, (congrArg Lgr.lost hsame.lgr :).trans hlost,
        (congrArg Lgr.closed hsame.lgr :).trans hclosed, hxbase, ?_, memorySafe_elapse_wf hm t, hrecs, hseq⟩
      · rw [recFails, show x.nv.wornRecs = s.nv.wornRecs from elapse_nv_wornRecs t s]
        exact hf
      · rw [hsame.firstBad, hsame.lgr]
        exact hgood
    obtain ⟨hread, hsigned, hckpt, hpend, hidx, hcount, hrec⟩ := checkpointDone_leaves hmeets rfl
    rw [← takeCheckpoint_steps hmeets] at hread hsigned hckpt hpend hidx hcount hrec
    have hset := finish_settles_recorded hl (show (({ x with free := (takeCheckpoint x).free, nv := { x.nv with
      recs := (takeCheckpoint x).nv.recs, twins := (takeCheckpoint x).nv.twins } } : State)).lgr.hostWait = s.lgr.hostWait from
        congrArg Lgr.hostWait hsame.lgr) (elapse_fold t s) hrec
    have hexec : exec (.ledgerCheckpoint t) s = .next (finish (takeCheckpoint x)) := by
      refine (command_live t _ s hl).trans ?_
      have hfirst : ckptFirst x = true := by
        have hr : fld RNG_STATUS.STATE x = 2 := (elapse_fld RNG_STATUS.STATE t s).trans hrng
        rw [ckptFirst, hmeets.pending, hr]
        rfl
      have hb : droverBusy x = false := by
        rw [droverBusy, show x.lcy = s.lcy from elapse_lcy t s, show x.flk = s.flk from elapse_flk t s]
        exact hbusy
      have hd : x.lcy.drover = .ready := (congrArg Lcy.drover (elapse_lcy t s)).trans hdrover
      rw [onlyIf, if_pos (show (x.nv.ledgerReady && x.lcy.drover == .ready && !droverBusy x && ckptFirst x) = true by
        rw [hmeets.ready, hd, hb, hfirst]; rfl)]
    have hhead : checkpointHead k x = statementHead 1 0 (max (4096 * k + 1) s.lgr.head) (4096 * k + 4096) true [] x := by
      rw [checkpointHead, hsame.lgr]
    rw [hhead] at hread
    generalize takeCheckpoint x = y at *
    have hnv := settles_nv hset
    have hlgr := settles_lgr hset
    refine ⟨_, finish y, hexec, ?_, rfl, ?_, ?_, ?_, ?_, ?_, ?_⟩
    · rw [recRead, recGet, hnv]
      exact hread
    · rw [hlgr, hsigned, hsame.lgr]
    · rw [hlgr]
      exact hckpt
    · rw [settles_fld hset]
      exact hpend
    · rw [settles_fld hset]
      exact hidx
    · rw [settles_fld hset, hcount]
      exact congrArg (fun v => (v + 1) % 2 ^ 24) (elapse_fld LGR_CKPT.COUNT t s)
    · rw [hnv, settles_free hset]
      exact recordsOnly_settles (hrec.recordsOnly rfl rfl rfl) hset

end Sys2Proof.Machine
end

section
/-! SUPPORT. Entering a power state. -/
namespace Sys2Proof.Machine

section
variable {s : State} {t : Nat}

/-! ## Entries into Graze, Pen and Watch -/

/-- POWER_STATE_ENTRY of a device that is idle for IDLE_US (R85, R89). -/
theorem powerStateEntry_enters (hl : live s = true) (hmay : mayEnter (elapse t s) = true)
    (hp : selState true (elapse t s) ≠ .fallow) :
    ∃ s', exec (.powerStateEntry t) s = .next s' ∧ settles { elapse t s with pwr := { s.pwr with
      entering := some (selState true (elapse t s), commitTick (selState true (elapse t s)) (elapse t s)) } } s' := by
  refine ⟨finish (enter (selState true (elapse t s)) (elapse t s)), (command_live t _ s hl).trans ?_, ?_⟩
  · rw [onlyIf, if_pos (by simp [hmay, hp])]
  · rw [enter, elapse_pwr]
    exact finish_settles_of s _ hl (elapse_lgr t s) (elapse_fold t s)

/-- Without that neither entry does anything. -/
theorem entries_idle (hl : live s = true) (hmay : mayEnter (elapse t s) = false) :
    (∃ s', exec (.powerStateEntry t) s = .next s' ∧ settles (elapse t s) s') ∧
      ∃ s', exec (.fallowEntry t) s = .next s' ∧ settles (elapse t s) s' := by
  have hset := finish_settles_of s _ hl (elapse_lgr t s) (elapse_fold t s)
  refine ⟨⟨_, (command_live t _ s hl).trans ?_, hset⟩, ⟨_, (command_live t _ s hl).trans ?_, hset⟩⟩
  · rw [onlyIf, if_neg (by simp [hmay])]
  · rw [onlyIf, if_neg (by simp [hmay])]

/-- Fallow's edge detector arms in Fallow (R56). -/
theorem edgeDetector_arms (hl : live s = true) (hst : s.pwr.st = .fallow) :
    ∃ s', exec (.fallowEdgeDetectorArm t) s = .next s' ∧
      settles { elapse t s with pwr := { s.pwr with edgeArmed := true } } s' := by
  refine ⟨finish { elapse t s with pwr := { (elapse t s).pwr with edgeArmed := true } }, (command_live t _ s hl).trans ?_, ?_⟩
  · rw [onlyIf, if_pos (by simp [hst])]
  · rw [elapse_pwr]
    exact finish_settles_of s _ hl (elapse_lgr t s) (elapse_fold t s)

/-! ## Into Fallow -/

/-- A counter's increment that is made leaves the ledger alone. -/
theorem tallyStep_lgr {c n v slot : Nat} {x : State} (hw : x.nv.worn = []) (ht : tally c x = some (v, slot)) (hn : 0 < n)
    (hmax : v + n ≤ tallyMax) : (tallyStep c n x).1.lgr = x.lgr := by
  obtain ⟨clip, again, heq⟩ := tallyStep_eq c n x hw ht hn hmax
  rw [heq]
  show (nvWriteWord _ _ (tallyStart c x)).1.lgr = x.lgr
  unfold nvWriteWord
  split <;> rfl

/-- A record's store that does not fail leaves the ledger alone. -/
theorem recStore_lgr {id : Nat} {x : State} (bs : Bytes) (hf : recFails id x = false) : (recStore id bs x).1.lgr = x.lgr := by
  rw [recStore_eq bs hf]

/-- A record's store that does not fail keeps the counters. -/
theorem recStore_tally {id : Nat} {x : State} (bs : Bytes) (hf : recFails id x = false) (c : Nat) :
    tally c (recStore id bs x).1 = tally c x := by
  have hbad : (recStore id bs x).1.nv.bad = x.nv.bad := by
    have hf' : x.nv.wornRecs.contains id = false := hf
    simp only [recStore_ok _ hf, recWrite, hf', Bool.false_eq_true, if_false, pushBuf]
  exact tally_congr c fun i _ => cellVal_congr c i (fun _ _ => by rw [recStore_mem _ hf]) (by rw [hbad])

/-- The pinfold record is stored beside the ledger, and the store of records stays in canonical form. -/
theorem storePin_keeps {y : State} {v slot : Nat} (hr : y.nv.ledgerReady = true) (hw : y.nv.worn = [])
    (hwr : y.nv.wornRecs = []) (ht : tally 253 y = some (v, slot)) (hmax : v < tallyMax) :
    (storePin y).lgr = y.lgr ∧ (storePin y).nv.wornRecs = [] ∧
      (swf (fun _ => Dual.empty) y.nv.recs = true → swf (fun _ => Dual.empty) (storePin y).nv.recs = true) := by
  have hstep := tallyStep_lgr (c := 253) (n := 1) (x := setTrack (pruned y) y) hw ht (by decide) hmax
  have hrec : Recorded [253] [NVS_TALLY_CNT.reg] (setTrack (pruned y) y) (tallyStep 253 1 (setTrack (pruned y) y)).1 :=
    Recorded.tallyStep 253 1 _ hr
  have hworn : (tallyStep 253 1 (setTrack (pruned y) y)).1.nv.wornRecs = [] :=
    (congrArg (fun z : State => z.nv.wornRecs) hrec.blank :).trans hwr
  have hrecs : (tallyStep 253 1 (setTrack (pruned y) y)).1.nv.recs = y.nv.recs := hrec.recs
  unfold storePin
  dsimp only
  generalize (tallyStep 253 1 (setTrack (pruned y) y)).1 = z at *
  generalize hz : ({ z with flk := { z.flk with pinRecAt := ptime y } } : State) = z1
  have hf : recFails recPin z1 = false := by
    rw [recFails, ← hz]
    show z.nv.wornRecs.contains recPin = false
    rw [hworn]
    rfl
  refine ⟨?_, ?_, fun hswf => ?_⟩
  · rw [recStore_lgr _ hf, ← hz]
    exact hstep
  · have hf' : z1.nv.wornRecs.contains recPin = false := hf
    simp only [recStore_ok _ hf, recWrite, hf', Bool.false_eq_true, if_false, pushBuf]
    rw [← hz]
    exact hworn
  · rw [recStore_recs _ hf]
    refine swf_sset _ _ _ ?_
    rw [← hz]
    show swf _ z.nv.recs = true
    rw [hrecs]
    exact hswf

/-- A sealed ledger has no open block. -/
theorem sealBlock_closes (flagBits : Nat) (x : State) : (sealBlock flagBits x).lgr.openRecs = none := by
  have hpre : ∀ y : State, (preClear y).lgr.openRecs = y.lgr.openRecs := by
    intro y
    unfold preClear
    split
    · exact (congrArg Lgr.openRecs (lgrWrite_keeps_lgr _ _ y) :)
    · rfl
  unfold sealBlock
  split
  · assumption
  · dsimp only
    split
    · rfl
    · rw [hpre]
      rfl

/-- What the store of the wall clock leaves once its words have drained (R133). -/
theorem storeWall_leaves {y : State} (hf : recFails recWall y = false) (hswf : swf (fun _ => Dual.empty) y.nv.recs = true)
    (hseq : seqsOk (recGet recWall y) = true) :
    drainAll (storeWall y) = { y with nv := (drainAll (storeWall y)).nv } ∧ (drainAll (storeWall y)).nv.buf = [] ∧
      recRead recWall (drainAll (storeWall y)) = some (leBytes 8 y.clk.wall.toNat) ∧
      tallyVal 253 (drainAll (storeWall y)) = tallyVal 253 y := by
  have hframe := recStore_eq (leBytes 8 y.clk.wall.toNat) hf
  refine ⟨?_, rfl, ?_, ?_⟩
  · exact (congrArg drainAll hframe :)
  · show recRead recWall (recStore recWall (leBytes 8 y.clk.wall.toNat) y).1 = _
    rw [recRead, recGet, recStore_recs _ hf, sget_sset_same _ _ _ hswf]
    exact newest_write hseq _
  · rw [tallyVal, tallyVal]
    exact congrArg (fun r => match r with | some (v, _) => v | none => 0) (recStore_tally (leBytes 8 y.clk.wall.toNat) hf 253)

/-- The state with Service ended and the ledger sealed for Fallow (R89, R409). -/
def fallowSealed (x : State) : State := sealBlock padFallow (append 0x15 0 0 (endService x))

theorem fallowSealed_recorded {x : State} (hr : x.nv.ledgerReady = true) (hw : x.nv.worn = []) :
    Recorded [] [] { x with lcy := { x.lcy with service := none } } (fallowSealed x) := by
  have hbe : Recorded [] [] { x with lcy := { x.lcy with service := none } } (endService x) := by
    cases hs : x.lcy.service with
    | some v => exact endService_recorded x (by rw [hs]; rfl) hr hw
    | none =>
      have h1 : endService x = x := by
        rw [endService, hs]
        rfl
      have h2 : ({ x with lcy := { x.lcy with service := none } } : State) = x := by rw [← hs]
      rw [h1, h2]
      exact .refl x
  exact (hbe.trans (Recorded.append 0x15 0 0 _ (hbe.ledgerReady.trans hr))).trans (Recorded.sealBlock padFallow _)

/-- FALLOW_ENTRY's steps but the entry itself (R89). -/
def fallowReady (x : State) : State := drainAll (storeWall (storePin (fallowSealed x)))

/-- What they leave. -/
theorem fallowReady_leaves {x : State} (hm : memorySafe x) (hsh : shaped x) (hr : x.nv.ledgerReady = true)
    (hw : x.nv.worn = []) (hwr : x.nv.wornRecs = []) (hsome : (tally 253 x).isSome = true) (hmax : tallyVal 253 x < tallyMax) :
    (fallowReady x).pwr = x.pwr ∧ (fallowReady x).clk = x.clk ∧ (fallowReady x).fold = x.fold ∧
      (fallowReady x).lgr.hostWait = x.lgr.hostWait ∧ (fallowReady x).lcy.service = none ∧
      (fallowReady x).lgr.openRecs = none ∧ (fallowReady x).nv.buf = [] ∧
      recRead recWall (fallowReady x) = some (leBytes 8 x.clk.wall.toNat) ∧
      tallyVal 253 (fallowReady x) = tallyVal 253 x + 1 := by
  have hby := fallowSealed_recorded hr hw
  have hopen : (fallowSealed x).lgr.openRecs = none := sealBlock_closes _ _
  have hpin := storePin_stores (s := { x with lcy := { x.lcy with service := none } }) (l := x.flk.track) hm hsh hr hby
  rw [fallowReady]
  generalize fallowSealed x = y0 at *
  obtain ⟨⟨v, slot⟩, ht⟩ := Option.isSome_iff_exists.mp hsome
  have hty : tally 253 y0 = some (v, slot) := (hby.tally 253 (by simp) (by decide)).trans ht
  obtain ⟨hlgr, hworn1, hswf⟩ := storePin_keeps (hby.ledgerReady.trans hr) (hby.worn.trans hw)
    ((congrArg (fun z : State => z.nv.wornRecs) hby.blank :).trans hwr) hty (tallyVal_of_tally ht ▸ hmax)
  obtain ⟨-, -, -, -, -, hrecs⟩ := hm
  obtain ⟨-, -, -, -, -, -, -, hseq⟩ := hsh
  have hrecs0 : y0.nv.recs = x.nv.recs := hby.recs
  rw [hrecs0] at hswf
  obtain ⟨hrec, hothers, hvalue⟩ := hpin
  obtain ⟨htally, -⟩ := hvalue hwr hw hsome hmax
  have hwall : recGet recWall (storePin y0) = recGet recWall x := hothers recWall (by decide)
  generalize storePin y0 = y1 at *
  have hf : recFails recWall y1 = false := by
    rw [recFails, hworn1]
    rfl
  have hclk : y1.clk = x.clk := (congrArg State.clk hrec.blank :)
  obtain ⟨hframe, hbuf, hread, hkeep⟩ := storeWall_leaves hf (hswf hrecs) (by rw [hwall]; exact seqsOk_sget hseq recWall)
  generalize drainAll (storeWall y1) = y2 at *
  refine ⟨?_, ?_, ?_, ?_, ?_, ?_, hbuf, ?_, ?_⟩
  · exact (congrArg State.pwr hframe :).trans (congrArg State.pwr hrec.blank :)
  · exact (congrArg State.clk hframe :).trans hclk
  · exact (congrArg State.fold hframe :).trans hrec.fold
  · exact (congrArg (fun z : State => z.lgr.hostWait) hframe :).trans hrec.hostWait
  · exact (congrArg (fun z : State => z.lcy.service) hframe :).trans (congrArg (fun z : State => z.lcy.service) hrec.blank :)
  · refine (congrArg (fun z : State => z.lgr.openRecs) hframe :).trans ?_
    rw [hlgr]
    exact hopen
  · rw [hread, hclk]
  · rw [hkeep]
    exact htally

/-- FALLOW_ENTRY (R89, Table 04.4). -/
theorem fallowEntry_enters (hm : memorySafe s) (hsh : shaped s) (hl : live s = true) (hmay : mayEnter (elapse t s) = true)
    (hp : selState true (elapse t s) = .fallow) (hr : s.nv.ledgerReady = true) (hw : s.nv.worn = []) (hwr : s.nv.wornRecs = [])
    (hsome : (tally 253 s).isSome = true) (hmax : tallyVal 253 s < tallyMax) :
    ∃ s', exec (.fallowEntry t) s = .next s' ∧ s'.pwr.st = s.pwr.st ∧
      s'.pwr.entering = some (.fallow, now (elapse t s) + entryTicks .fallow) ∧ s'.lcy.service = none ∧
      s'.lgr.openRecs = none ∧ s'.nv.buf = [] ∧ recRead recWall s' = some (leBytes 8 (elapse t s).clk.wall.toNat) ∧
      tallyVal 253 s' = tallyVal 253 s + 1 := by
  have htally : tallyVal 253 (elapse t s) = tallyVal 253 s := by simp [tallyVal]
  obtain ⟨hpwr, hclk, hfold, hwait, hservice, hopen, hbuf, hread, hval⟩ := fallowReady_leaves (memorySafe_elapse hm t)
    (shaped_elapse hsh t) ((elapse_nv_ledgerReady t s).trans hr) ((elapse_nv_worn t s).trans hw)
    ((elapse_nv_wornRecs t s).trans hwr) (by rw [elapse_tally]; exact hsome) (htally ▸ hmax)
  have hexec : exec (.fallowEntry t) s = .next (finish (enter .fallow (fallowReady (elapse t s)))) := by
    refine (command_live t _ s hl).trans ?_
    rw [onlyIf, if_pos (by simp [hmay, hp])]
    rfl
  generalize fallowReady (elapse t s) = y at *
  obtain ⟨-, -, -, -, hfw, hq, hh⟩ := (calm_iff s).mp (live_calm hl)
  have hset : settles (enter .fallow y) (finish (enter .fallow y)) := by
    refine finish_settles _ ?_ ?_ ?_
    · show y.lgr.hostWait.all _ = true
      rw [hwait, elapse_lgr]
      exact hh
    · show y.fold.wait = []
      rw [hfold, elapse_fold]
      exact hfw
    · show y.fold.queue = []
      rw [hfold, elapse_fold]
      exact hq
  have hcommit : commitTick .fallow y = now (elapse t s) + entryTicks .fallow := by
    have hfb : (PState.fallow == .pen || PState.fallow == .watch) = false := rfl
    rw [commitTick, hfb, Bool.and_false, if_neg Bool.false_ne_true, now, hclk]
    rfl
  have hnv := settles_nv hset
  refine ⟨_, hexec, ?_, ?_, ?_, ?_, ?_, ?_, ?_⟩
  · rw [settles_pwr_st hset]
    show y.pwr.st = _
    rw [hpwr, elapse_pwr]
  · rw [settles_pwr_entering hset]
    show some (PState.fallow, commitTick .fallow y) = _
    rw [hcommit]
  · rw [settles_lcy hset]
    exact hservice
  · rw [settles_lgr hset]
    exact hopen
  · rw [hnv]
    exact hbuf
  · rw [recRead, recGet, hnv]
    exact hread
  · rw [← htally, ← hval, tallyVal, tallyVal, tally_of_nv 253 (b := y) hnv]

end

end Sys2Proof.Machine
end

section
/-! SUPPORT. The commit of a power-state entry. -/
namespace Sys2Proof.Machine

section
variable {s : State} {t : Nat}

/-! ## Time up to the commit -/

/-- Time leaves the shadows of the clock registers. -/
theorem elapse_shadows (t : Nat) (s : State) : (elapse t s).clk.shGap = s.clk.shGap ∧
    (elapse t s).clk.shWatch = s.clk.shWatch ∧ (elapse t s).clk.content = s.clk.content ∧ tbRuns (elapse t s) = tbRuns s := by
  have hpass : ∀ (n : Nat) (x : State), (passTicks n x).clk.shGap = x.clk.shGap ∧
      (passTicks n x).clk.shWatch = x.clk.shWatch ∧ (passTicks n x).clk.content = x.clk.content ∧
      tbRuns (passTicks n x) = tbRuns x := by
    intro n x
    unfold passTicks wallPass
    dsimp only
    split <;> exact ⟨rfl, rfl, rfl, rfl⟩
  unfold elapse
  split
  · exact ⟨rfl, rfl, rfl, rfl⟩
  · split
    · exact hpass _ _
    · exact hpass _ _
    · exact hpass _ _

/-- TIMEBASE after some ticks. -/
theorem now_passTicks (n : Nat) (x : State) : now (passTicks n x) = (now x + n) % 2 ^ 64 := by
  show (x.clk.tb + BitVec.ofNat 64 n).toNat = _
  rw [BitVec.toNat_add, BitVec.toNat_ofNat, Nat.add_mod_mod]
  rfl

/-- Time comes to its tick, but for slow content that is more than that tick ahead with its parts of a tick; and from then
on it is less than one tick ahead. -/
theorem elapse_reaches {c : Nat} (hrun : tbRuns s = true) (hc : c < 2 ^ 63) :
    c ≤ now (elapse c s) ∨ (s.clk.content = .slow ∧ 8 * (c - now s) < s.clk.frac ∧ (elapse c s).clk.frac < 8) := by
  by_cases hle : c ≤ now s
  · left
    rw [elapse, if_pos (.inl hle)]
    exact hle
  · have hnot : ¬ (c ≤ now s ∨ tbRuns s = false) := by simp [hle, hrun]
    cases hcon : s.clk.content with
    | slow =>
      have hel : elapse c s = { passTicks ((s.clk.frac + 9375 * ceilDiv (8 * (c - now s) - s.clk.frac) 9375) / 8) s with
          clk := { (passTicks ((s.clk.frac + 9375 * ceilDiv (8 * (c - now s) - s.clk.frac) 9375) / 8) s).clk with
            frac := (s.clk.frac + 9375 * ceilDiv (8 * (c - now s) - s.clk.frac) 9375) % 8 } } := by
        rw [elapse, if_neg hnot]
        simp only [hcon]
      by_cases hf : 8 * (c - now s) < s.clk.frac
      · refine .inr ⟨rfl, hf, ?_⟩
        rw [hel]
        exact Nat.mod_lt _ (by decide)
      · left
        have hnow : now (elapse c s) =
            (now s + (s.clk.frac + 9375 * ceilDiv (8 * (c - now s) - s.clk.frac) 9375) / 8) % 2 ^ 64 := by
          rw [hel]
          exact now_passTicks _ s
        have hb : c - now s ≤ (s.clk.frac + 9375 * ceilDiv (8 * (c - now s) - s.clk.frac) 9375) / 8 ∧
            (s.clk.frac + 9375 * ceilDiv (8 * (c - now s) - s.clk.frac) 9375) / 8 ≤ c - now s + 1172 := by
          rw [ceilDiv]
          omega
        rw [hnow]
        omega
    | fast19 =>
      left
      rw [elapse, if_neg hnot]
      simp only [hcon]
      rw [now_passTicks]
      split <;> omega
    | none | fast38 | invalid =>
      left
      rw [elapse, if_neg hnot]
      simp only [hcon]
      rw [now_passTicks]
      omega

/-- Only time has passed. -/
structure TimePassed (s z : State) : Prop where
  frame : z = { s with clk := z.clk, nv := { s.nv with buf := z.nv.buf } }
  gap : z.clk.shGap = s.clk.shGap
  watch : z.clk.shWatch = s.clk.shWatch
  content : z.clk.content = s.clk.content
  runs : tbRuns z = tbRuns s

theorem timePassed_elapse (t : Nat) (s : State) : TimePassed s (elapse t s) := by
  obtain ⟨h1, h2, h3, h4⟩ := elapse_shadows t s
  exact ⟨elapse_eq t s, h1, h2, h3, h4⟩

theorem TimePassed.trans {a b c : State} (h1 : TimePassed a b) (h2 : TimePassed b c) : TimePassed a c := by
  refine ⟨?_, h2.gap.trans h1.gap, h2.watch.trans h1.watch, h2.content.trans h1.content, h2.runs.trans h1.runs⟩
  exact h2.frame.trans (congrArg (fun x : State => { x with clk := c.clk, nv := { x.nv with buf := c.nv.buf } }) h1.frame :)

/-! ## What falls due -/

/-- Nothing but the entry is under way. -/
def onlyEntering (s : State) : Bool := calm { s with pwr := { s.pwr with entering := none } }

theorem dueTicks_entering {q : PState} {c : Nat} (he : s.pwr.entering = some (q, c)) (hc : onlyEntering s = true) :
    dueTicks s = [c] := by
  have h := dueTicks_calm _ hc
  simp only [dueTicks, List.nil_append] at h
  simp only [dueTicks, he, List.append_assoc]
  rw [List.append_assoc, List.append_assoc, List.append_assoc] at h
  rw [h, List.append_nil]

/-- Without calibrations and fold operations only the entry can fall due. -/
theorem runDue_entry (hcal : calibrating (commitEntry s) = false) (hop : (commitEntry s).fold.op = none) :
    runDue s = commitEntry s := by
  unfold runDue
  generalize commitEntry s = x at *
  simp only [calibrating, Bool.or_eq_false_iff, Option.isSome_eq_false_iff, Option.isNone_iff_eq_none] at hcal
  obtain ⟨⟨⟨h1, h2⟩, h3⟩, h4⟩ := hcal
  have hcals : settleCals x = x := by
    unfold settleCals
    simp only [h1, h2]
  have huhf : settleUhfCal x = x := by
    unfold settleUhfCal
    cases hr : x.uhf.run with
    | none => rfl
    | some r =>
      have hcal : r.cal = none := by simpa [hr] using h3
      simp only [hcal]
  have huwb : settleUwbCal x = x := by
    unfold settleUwbCal
    cases hr : x.uwb.run with
    | none => rfl
    | some r =>
      have hstop : r.calStop = none := by simpa [hr] using h4
      simp only [hstop]
      cases r.cal <;> rfl
  rw [hcals, huhf, huwb]
  simp only [hop, Bool.false_eq_true, if_false]

/-- What a commit can change. -/
theorem commitState_frame (q : PState) (z : State) : commitState q z = { z with
    regs := (commitState q z).regs, clk := (commitState q z).clk, pwr := (commitState q z).pwr
    pins := (commitState q z).pins, uhf := { z.uhf with walk := (commitState q z).uhf.walk }
    uwb := { z.uwb with walk := (commitState q z).uwb.walk } } := by
  have hshadows : ∀ x : State, applyShadows x = { x with regs := (applyShadows x).regs, clk := (applyShadows x).clk } := by
    intro x
    unfold applyShadows
    cases x.clk.shGap <;> cases x.clk.shWatch <;> rfl
  cases q with
  | run => rfl
  | graze => rfl
  | pen =>
    simp only [commitState]
    rw [hshadows]
    rfl
  | watch =>
    simp only [commitState]
    rw [hshadows]
    rfl
  | fallow =>
    simp only [commitState]
    rw [hshadows]
    rfl

theorem commitState_pwr (q : PState) (z : State) : (commitState q z).pwr = { z.pwr with
    st := q, entering := none
    islands := if q = .fallow then 0x001 else if q = .watch then watchIslands z else z.pwr.islands
    edgeArmed := if q = .fallow then false else z.pwr.edgeArmed } := by
  have hshadows : ∀ x : State, (applyShadows x).pwr = x.pwr := by
    intro x
    unfold applyShadows
    cases x.clk.shGap <;> cases x.clk.shWatch <;> rfl
  cases q with
  | run => rfl
  | graze => rfl
  | pen => exact hshadows _
  | watch =>
    show { (applyShadows (setPState .watch z)).pwr with islands := watchIslands z } = _
    rw [hshadows]
    rfl
  | fallow =>
    show { (applyShadows (setPState .fallow z)).pwr with islands := (0x001 : BitVec 13), edgeArmed := false } = _
    rw [hshadows]
    rfl

/-- After it nothing is under way. -/
theorem commitState_calm {q : PState} {z : State} (hc : onlyEntering z = true) : calm (commitState q z) = true := by
  have hpwr := commitState_pwr q z
  have hframe := commitState_frame q z
  generalize commitState q z = y at *
  rw [hframe, hpwr]
  exact hc

/-- A commit that is due. -/
theorem runDue_commits {q : PState} {c : Nat} (he : s.pwr.entering = some (q, c)) (hc : onlyEntering s = true)
    (hdue : c ≤ now s) : runDue s = commitState q s := by
  have hentry : commitEntry s = commitState q s := by rw [commitEntry, he]; exact if_pos hdue
  obtain ⟨-, hcal, -, hop, -, -, -⟩ := (calm_iff _).mp (commitState_calm (q := q) hc)
  rw [runDue_entry (by rw [hentry]; exact hcal) (by rw [hentry]; exact hop), hentry]

/-- A commit that is not. -/
theorem runDue_waits {q : PState} {c : Nat} (he : s.pwr.entering = some (q, c)) (hc : onlyEntering s = true)
    (hdue : ¬ c ≤ now s) : runDue s = s := by
  have hentry : commitEntry s = s := by rw [commitEntry, he]; exact if_neg hdue
  obtain ⟨-, hcal, -, hop, -, -, -⟩ := (calm_iff _).mp hc
  rw [runDue_entry (by rw [hentry]; exact hcal) (by rw [hentry]; exact hop), hentry]

theorem runTo_calm (n t : Nat) (h : calm s = true) : runTo n t s = elapse t s := by
  cases n with
  | zero => rfl
  | succ n => rw [runTo, nextDue, dueTicks_calm s h]; rfl

theorem runTo_entering {q : PState} {c n : Nat} (he : s.pwr.entering = some (q, c)) (hc : onlyEntering s = true) (hct : c ≤ t) :
    runTo (n + 1) t s = runTo n t (runDue (elapse c s)) := by
  have hnext : nextDue t s = some c := by simp [nextDue, dueTicks_entering he hc, hct]
  rw [runTo, hnext]

theorem TimePassed.entering {z : State} (h : TimePassed s z) : z.pwr.entering = s.pwr.entering :=
  (congrArg (fun x : State => x.pwr.entering) h.frame :)

theorem TimePassed.onlyEntering {z : State} (h : TimePassed s z) : onlyEntering z = onlyEntering s := by
  rw [h.frame]
  rfl

/-- The commit comes on the way to tick `t`. -/
theorem runTo_commits {q : PState} {c : Nat} (n : Nat) (he : s.pwr.entering = some (q, c)) (hc : onlyEntering s = true)
    (hct : c ≤ t) (ht : t < 2 ^ 63) (hrun : tbRuns s = true) :
    ∃ z, TimePassed s z ∧ runTo (n + 2) t s = elapse t (commitState q z) := by
  have h1 := timePassed_elapse c s
  rw [runTo_entering he hc hct]
  by_cases hdue : c ≤ now (elapse c s)
  · refine ⟨elapse c s, h1, ?_⟩
    rw [runDue_commits (h1.entering.trans he) (h1.onlyEntering.trans hc) hdue,
      runTo_calm _ _ (commitState_calm (h1.onlyEntering.trans hc))]
  · have h2 := timePassed_elapse c (elapse c s)
    have hreach : c ≤ now (elapse c (elapse c s)) := by
      rcases elapse_reaches (s := s) hrun (show c < 2 ^ 63 by omega) with h | ⟨-, -, hfrac⟩
      · exact absurd h hdue
      · rcases elapse_reaches (s := elapse c s) (h1.runs.trans hrun) (show c < 2 ^ 63 by omega) with h | ⟨-, hlt, -⟩
        · exact h
        · omega
    refine ⟨elapse c (elapse c s), h1.trans h2, ?_⟩
    rw [runDue_waits (h1.entering.trans he) (h1.onlyEntering.trans hc) hdue,
      runTo_entering (h1.entering.trans he) (h1.onlyEntering.trans hc) hct,
      runDue_commits (h2.entering.trans (h1.entering.trans he)) (h2.onlyEntering.trans (h1.onlyEntering.trans hc)) hreach,
      runTo_calm _ _ (commitState_calm (h2.onlyEntering.trans (h1.onlyEntering.trans hc)))]

end

end Sys2Proof.Machine
end

section
/-! SUPPORT. What a power-state entry leaves. -/
namespace Sys2Proof.Machine

section
variable {s : State} {t : Nat}

/-! ## The shadows -/

/-- What the shadows of CLK_GAP_CTL and CLK_WATCH_CTL do as they come into force (R80). -/
structure ShadowsApplied (x y : State) : Prop where
  gap : regGet CLK_GAP_CTL.reg y = x.clk.shGap.getD (regGet CLK_GAP_CTL.reg x)
  watch : regGet CLK_WATCH_CTL.reg y = x.clk.shWatch.getD (regGet CLK_WATCH_CTL.reg x)
  noGap : y.clk.shGap = none
  noWatch : y.clk.shWatch = none
  pend : fld CLK_STATUS.SHADOW_PEND y = 0
  kept : RegsKept [CLK_GAP_CTL.reg, CLK_WATCH_CTL.reg, CLK_STATUS.reg] x y

/-- A register takes a value when there is one. -/
def setSome (off : Nat) (w : Option Word) (s : State) : State :=
  match w with
  | some v => regSet off v s
  | none => s

theorem setSome_leaves (off : Nat) (w : Option Word) {x : State} (hwf : Regs.wf x = true) :
    regGet off (setSome off w x) = w.getD (regGet off x) ∧ RegsKept [off] x (setSome off w x) ∧
      (setSome off w x).clk = x.clk := by
  cases w with
  | none => exact ⟨rfl, .refl _ x, rfl⟩
  | some v =>
    refine ⟨regGet_regSet_same off v x hwf, ⟨fun o ho => regGet_regSet_ne off o v x (fun e => ho (e ▸ List.mem_cons_self)),
      fun h => regs_wf_regSet off v x h⟩, rfl⟩

theorem applyShadows_applies {x : State} (hwf : Regs.wf x = true) : ShadowsApplied x (applyShadows x) := by
  let x1 : State := setSome CLK_GAP_CTL.reg x.clk.shGap x
  let x2 : State := setSome CLK_WATCH_CTL.reg x1.clk.shWatch x1
  let x3 : State := { x2 with clk := { x2.clk with shGap := none, shWatch := none } }
  obtain ⟨hg, hk1, hc1⟩ := setSome_leaves CLK_GAP_CTL.reg x.clk.shGap hwf
  obtain ⟨hw, hk2, hc2⟩ := setSome_leaves CLK_WATCH_CTL.reg x1.clk.shWatch (hk1.wf hwf)
  have heq : applyShadows x = setFld CLK_STATUS.SHADOW_PEND 0 x3 := by
    show applyShadows x = setFld CLK_STATUS.SHADOW_PEND 0 { x2 with clk := { x2.clk with shGap := none, shWatch := none } }
    have hsw : x1.clk.shWatch = x.clk.shWatch := by rw [show x1.clk = x.clk from hc1]
    unfold applyShadows
    show _ = setFld CLK_STATUS.SHADOW_PEND 0
      { (setSome CLK_WATCH_CTL.reg x1.clk.shWatch x1) with
        clk := { (setSome CLK_WATCH_CTL.reg x1.clk.shWatch x1).clk with shGap := none, shWatch := none } }
    rw [hsw]
    rfl
  have hk3 : RegsKept [CLK_STATUS.reg] x3 (applyShadows x) := heq ▸ .setFld _ _ x3 (by decide)
  have hwf3 : Regs.wf x3 = true := hk2.wf (hk1.wf hwf)
  refine ⟨?_, ?_, ?_, ?_, ?_, ?_⟩
  · rw [hk3.keeps _ (by decide)]
    exact (hk2.keeps CLK_GAP_CTL.reg (by decide)).trans hg
  · rw [hk3.keeps _ (by decide)]
    refine hw.trans ?_
    rw [show x1.clk = x.clk from hc1, hk1.keeps _ (by decide)]
  · rw [heq]
    rfl
  · rw [heq]
    rfl
  · rw [heq, fld_setFld_same _ (by decide) _ _ hwf3]
    rfl
  · exact ((hk1.mono (by decide)).trans (hk2.mono (by decide))).trans
      ((RegsKept.of_eq (s := x2) (s' := x3) _ rfl rfl).trans (hk3.mono (by decide)))

/-! ## The registers after a commit -/

/-- What the registers read after a commit into a state but Run. -/
structure Committed (q : PState) (z y : State) : Prop where
  state : fld PWR_STATUS.STATE y = q.code
  gap : regGet CLK_GAP_CTL.reg y =
    if q = .graze then regGet CLK_GAP_CTL.reg z else z.clk.shGap.getD (regGet CLK_GAP_CTL.reg z)
  watch : regGet CLK_WATCH_CTL.reg y =
    if q = .graze then regGet CLK_WATCH_CTL.reg z else z.clk.shWatch.getD (regGet CLK_WATCH_CTL.reg z)
  shadows : q ≠ .graze → y.clk.shGap = none ∧ y.clk.shWatch = none ∧ fld CLK_STATUS.SHADOW_PEND y = 0
  kept : RegsKept [PWR_STATUS.reg, CLK_GAP_CTL.reg, CLK_WATCH_CTL.reg, CLK_STATUS.reg] z y

theorem setPState_leaves (q : PState) {z : State} (hwf : Regs.wf z = true) :
    fld PWR_STATUS.STATE (setPState q z) = q.code ∧ RegsKept [PWR_STATUS.reg] z (setPState q z) := by
  have hwf' : Regs.wf { z with pwr := { z.pwr with st := q, entering := none } } = true := hwf
  refine ⟨?_, RegsKept.trans (b := { z with pwr := { z.pwr with st := q, entering := none } }) (.of_eq _ rfl rfl)
    (.setFld _ _ _ (by decide))⟩
  rw [setPState, fld_setFld_same _ (by decide) _ _ hwf']
  cases q <;> rfl

/-- Steps that leave the registers and the clocks alone. -/
theorem Committed.of_regs {q : PState} {z x y : State} (h : Committed q z x) (hr : y.regs = x.regs) (hp : y.part = x.part)
    (hc : y.clk = x.clk) : Committed q z y := by
  have hk : RegsKept [] x y := .of_eq _ hr hp
  have hget : ∀ off, regGet off y = regGet off x := fun off => hk.keeps off (List.not_mem_nil)
  have hfld : ∀ f, fld f y = fld f x := fun f => hk.fld f (List.not_mem_nil)
  refine ⟨(hfld _).trans h.state, (hget _).trans h.gap, (hget _).trans h.watch, fun hq => ?_, h.kept.trans (.of_eq _ hr hp)⟩
  rw [hc, hfld]
  exact h.shadows hq

theorem applyShadows_committed {q : PState} (hq : q ≠ .graze) {z : State} (hwf : Regs.wf z = true) :
    Committed q z (applyShadows (setPState q z)) := by
  obtain ⟨hst, hk⟩ := setPState_leaves q hwf
  have hs := applyShadows_applies (hk.wf hwf)
  have hclk : (setPState q z).clk = z.clk := rfl
  refine ⟨(hs.kept.fld _ (by decide)).trans hst, ?_, ?_, fun _ => ⟨hs.noGap, hs.noWatch, hs.pend⟩,
    (hk.mono (by decide)).trans (hs.kept.mono (by decide))⟩
  · rw [if_neg hq, hs.gap, hclk, hk.keeps _ (by decide)]
  · rw [if_neg hq, hs.watch, hclk, hk.keeps _ (by decide)]

theorem commitState_committed {q : PState} (hq : q ≠ .run) {z : State} (hwf : Regs.wf z = true) :
    Committed q z (commitState q z) := by
  cases q with
  | run => exact absurd rfl hq
  | graze =>
    obtain ⟨hst, hk⟩ := setPState_leaves .graze hwf
    exact ⟨hst, (hk.keeps _ (by decide)).trans (if_pos rfl).symm, (hk.keeps _ (by decide)).trans (if_pos rfl).symm,
      fun h => absurd rfl h, hk.mono (by decide)⟩
  | pen => exact applyShadows_committed (by decide) hwf
  | watch => exact (applyShadows_committed (by decide) hwf).of_regs rfl rfl rfl
  | fallow => exact (applyShadows_committed (by decide) hwf).of_regs rfl rfl rfl

/-- In Fallow the radios are off and the lines low. -/
theorem commitState_fallow (z : State) : (∃ n, (commitState .fallow z).uhf.walk = [⟨n, n, 0⟩]) ∧
    (commitState .fallow z).pins.startA = false ∧ (commitState .fallow z).pins.startB = false := ⟨⟨_, rfl⟩, rfl, rfl⟩

/-! ## The end of the command -/

/-- A radio that went off stays off. -/
theorem walkAt_off (n m : Nat) : walkAt m [⟨n, n, 0⟩] = 0 := by
  unfold walkAt
  rw [List.find?_cons]
  split <;> rfl

/-- What the end of a command does to the power unit, the UHF radio and the drive. -/
theorem finish_pwr {x : State} (hc : calm x = true) (hstop : stopped x = false) : (finish x).pwr = { x.pwr with
      idleSince := (finish x).pwr.idleSince, workAt := (finish x).pwr.workAt
      islands := if x.pwr.st = .watch then watchIslands x else x.pwr.islands } ∧
    (finish x).uhf.walk = (settleIslands x).uhf.walk := by
  obtain ⟨-, -, -, -, hw, hq, hh⟩ := (calm_iff x).mp hc
  simp only [stopped, Bool.or_eq_false_iff] at hstop
  obtain ⟨⟨h1, h2⟩, h3⟩ := hstop
  have hfin : finish x = noteWork (noteIdle (refreshDrive (refreshRadio (settleIslands x)))) := by
    unfold finish
    rw [flushDisplaced_calm x hh, settleFolds_calm x hw hq]
  have hsettle : (settleIslands x).pwr = { x.pwr with
      islands := if x.pwr.st = .watch then watchIslands x else x.pwr.islands } := by
    unfold settleIslands
    rw [h1, h2, h3]
    by_cases hst : x.pwr.st = .watch
    · rw [if_pos (by rw [hst]; rfl), if_pos hst]
      rfl
    · rw [if_neg (by simp [hst]), if_neg hst]
  have hdrive : ∀ y : State, (refreshDrive y).pwr = y.pwr ∧ (refreshDrive y).uhf = y.uhf := by
    intro y
    unfold refreshDrive
    split <;> exact ⟨rfl, rfl⟩
  rw [hfin]
  generalize settleIslands x = y at *
  constructor
  · have h : (noteWork (noteIdle (refreshDrive (refreshRadio y)))).pwr = { (refreshDrive (refreshRadio y)).pwr with
        idleSince := (noteWork (noteIdle (refreshDrive (refreshRadio y)))).pwr.idleSince
        workAt := (noteWork (noteIdle (refreshDrive (refreshRadio y)))).pwr.workAt } := rfl
    rw [(hdrive _).1] at h
    refine h.trans ?_
    rw [show (refreshRadio y).pwr = y.pwr from rfl, hsettle]
  · exact (congrArg Uhf.walk (hdrive (refreshRadio y)).2 :)

/-- Without power in the LFS island nothing drives (R52). -/
theorem finish_fallow_pins {x : State} (hc : calm x = true) (hst : x.pwr.st = .fallow) (hi : x.pwr.islands = 0x001) :
    (finish x).pins.drive = 0 ∧ (finish x).pins.bridge = 0 ∧ (finish x).pins.startA = x.pins.startA ∧
      (finish x).pins.startB = x.pins.startB := by
  obtain ⟨-, -, -, -, hw, hq, hh⟩ := (calm_iff x).mp hc
  have hsettle : settleIslands x = x := by
    unfold settleIslands
    rw [if_neg (by simp [hst])]
  have hsafe : padsSafe (refreshRadio x) = true := by
    have hoff : islandOn .lfs (refreshRadio x) = false := by
      show x.pwr.islands.getLsbD _ = false
      rw [hi]
      decide
    rw [padsSafe, hoff]
    simp
  unfold finish
  rw [flushDisplaced_calm x hh, settleFolds_calm x hw hq, hsettle, refreshDrive, if_pos hsafe]
  exact ⟨rfl, rfl, rfl, rfl⟩

/-- Which islands have power in Watch is told from what a command's end keeps. -/
theorem watchIslands_settles {x y : State} (h : settles x y) : watchIslands y = watchIslands x := by
  have hfld : keepBit 3 y = keepBit 3 x := by rw [keepBit, keepBit, settles_fld h]
  have hcan : canWanted y = canWanted x := by
    rw [canWanted, canWanted, settles_flk h, show y.pwr.canAsked = x.pwr.canAsked from
      (congrArg (fun z : State => z.pwr.canAsked) h :)]
  have hall : allIslands y = allIslands x := by rw [allIslands, allIslands, settles_part h]
  have hexch : y.uwb.exch = x.uwb.exch := (congrArg (fun z : State => z.uwb.exch) h :)
  unfold watchIslands
  rw [hfld, hcan, hall, hexch, settles_flk h, settles_lf h, settles_poll h, settles_nv h, settles_tmr h, settles_rng h]

/-- In Watch without an LF operation the UHF radio is off (R14). -/
theorem watch_uhf_off {x : State} (hst : x.pwr.st = .watch) (hstop : stopped x = false) (hlf : x.lf.run = none) :
    ∃ n, (settleIslands x).uhf.walk = [⟨n, n, 0⟩] := by
  simp only [stopped, Bool.or_eq_false_iff] at hstop
  obtain ⟨⟨h1, h2⟩, h3⟩ := hstop
  have hoff : (watchIslands x).getLsbD Island.uhf.bit = false := by
    unfold watchIslands
    simp only [hlf, Option.isSome_none, Bool.false_and, Bool.false_eq_true, if_false]
    rw [BitVec.getLsbD_and]
    simp only [BitVec.getLsbD_or]
    have hbit : ∀ (c : Bool) (m : BitVec 13), m.getLsbD Island.uhf.bit = false →
        (if c = true then m else 0).getLsbD Island.uhf.bit = false := by
      intro c m hm
      split
      · exact hm
      · rfl
    rw [hbit _ 0x400 (by decide), hbit _ 0x008 (by decide), hbit _ 0x200 (by decide), hbit _ 0x800 (by decide),
      hbit _ 0x1000 (by decide)]
    exact Bool.and_eq_false_iff.mpr (.inr (by decide))
  refine ⟨now x, ?_⟩
  unfold settleIslands
  rw [h1, h2, h3, if_pos (by rw [hst]; rfl)]
  show repower ((watchIslands x).getLsbD Island.uhf.bit) _ _ = _
  rw [hoff]
  rfl

theorem commitState_lost (q : PState) (z : State) : (commitState q z).clk.lost = z.clk.lost := by
  have hshadows : ∀ x : State, (applyShadows x).clk.lost = x.clk.lost := by
    intro x
    unfold applyShadows
    cases x.clk.shGap <;> cases x.clk.shWatch <;> rfl
  cases q with
  | run => rfl
  | graze => rfl
  | pen => exact hshadows _
  | watch => exact hshadows _
  | fallow => exact hshadows _

/-- The commit of an entry that comes by the command's tick (R79, R89). -/
theorem entry_commits {q : PState} {c : Nat} (he : s.pwr.entering = some (q, c))
    (hl : live { s with pwr := { s.pwr with entering := none } } = true) (hct : c ≤ t) (ht : t < 2 ^ 63)
    (hrun : tbRuns s = true) (hnonce : s.lcy.nonce = none) :
    ∃ z, TimePassed s z ∧ calm (elapse t (commitState q z)) = true ∧ stopped (elapse t (commitState q z)) = false ∧
      exec (.lifecycleNonceExpiry t) s = .next (finish (elapse t (commitState q z))) := by
  have hc : onlyEntering s = true := live_calm hl
  obtain ⟨z, hz, hto⟩ := runTo_commits (6 + s.uhf.queue.length + s.uwb.queue.length + s.fold.queue.length + s.fold.wait.length)
    he hc hct ht hrun
  have hcalm : calm (elapse t (commitState q z)) = true := by
    have h := commitState_calm (q := q) (hz.onlyEntering.trans hc)
    rw [elapse_eq]
    exact h
  have hstop : stopped (elapse t (commitState q z)) = false := by
    have hs : stopped s = false := (live_stopped (s := { s with pwr := { s.pwr with entering := none } }) hl :)
    have hlost : z.clk.lost = false := by
      have h := hz.runs.trans hrun
      simp only [tbRuns, Bool.and_eq_true, Bool.not_eq_true'] at h
      exact h.1.1.1.1
    have hpwr : z.pwr = s.pwr := (congrArg State.pwr hz.frame :)
    rw [elapse_stopped, stopped, commitState_lost, commitState_pwr, hlost, hpwr]
    simp only [stopped, Bool.or_eq_false_iff] at hs ⊢
    exact ⟨⟨trivial, hs.1.2⟩, hs.2⟩
  refine ⟨z, hz, hcalm, hstop, ?_⟩
  have hbegin : begin t s = elapse t (commitState q z) := by
    have hn : dueCount s =
        (6 + s.uhf.queue.length + s.uwb.queue.length + s.fold.queue.length + s.fold.wait.length) + 2 := by
      unfold dueCount
      omega
    obtain ⟨-, -, hopen, -, -, -, -⟩ := (calm_iff _).mp hcalm
    rw [begin, hn, hto, latchHeader_fixed _ hopen]
  show command t _ s = _
  rw [command, outerCommand, hbegin, onlyIf, if_pos (by rw [hstop]; rfl)]
  have hframe := commitState_frame q z
  have hnone : (elapse t (commitState q z)).lcy.nonce = none := by
    rw [elapse_lcy, hframe]
    show z.lcy.nonce = none
    rw [hz.frame]
    exact hnonce
  rw [hnone]

/-- What that commit leaves (R79, R80, R89). -/
theorem entry_leaves {q : PState} {z : State} (hm : memorySafe s) (hq : q ≠ .run) (hz : TimePassed s z)
    (hcalm : calm (elapse t (commitState q z)) = true) (hstop : stopped (elapse t (commitState q z)) = false) :
    let s' := finish (elapse t (commitState q z))
    s'.pwr = { s.pwr with
      st := q, entering := none, idleSince := s'.pwr.idleSince, workAt := s'.pwr.workAt, islands := s'.pwr.islands
      edgeArmed := if q = .fallow then false else s.pwr.edgeArmed } ∧
    s'.pwr.islands = (if q = .fallow then 0x001 else if q = .watch then watchIslands s' else s.pwr.islands) ∧
    fld PWR_STATUS.STATE s' = q.code ∧
    regGet CLK_GAP_CTL.reg s' =
      (if q = .graze then regGet CLK_GAP_CTL.reg s else s.clk.shGap.getD (regGet CLK_GAP_CTL.reg s)) ∧
    regGet CLK_WATCH_CTL.reg s' =
      (if q = .graze then regGet CLK_WATCH_CTL.reg s else s.clk.shWatch.getD (regGet CLK_WATCH_CTL.reg s)) ∧
    (q ≠ .graze → s'.clk.shGap = none ∧ s'.clk.shWatch = none ∧ fld CLK_STATUS.SHADOW_PEND s' = 0) ∧
    (q = .fallow ∨ q = .watch ∧ s.lf.run = none → uhfState s' = 0) ∧
    (q = .fallow → s'.pins.bridge = 0 ∧ s'.pins.drive = 0 ∧ s'.pins.startA = false ∧ s'.pins.startB = false) ∧
    keepsRegs [PWR_STATUS.reg, CLK_GAP_CTL.reg, CLK_WATCH_CTL.reg, CLK_STATUS.reg] s s' ∧ keepsMemory s s' := by
  intro s'
  have hwf : Regs.wf z = true := by
    rw [hz.frame]
    exact hm.2.2.2.2.1
  have hcom := commitState_committed hq hwf
  have hframe := commitState_frame q z
  have hpwr := commitState_pwr q z
  have hset : settles (elapse t (commitState q z)) s' := by
    obtain ⟨-, -, -, -, hw, hqu, hh⟩ := (calm_iff _).mp hcalm
    exact finish_settles _ hh hw hqu
  obtain ⟨hfin, hwalk⟩ := finish_pwr hcalm hstop
  have hwpwr : (elapse t (commitState q z)).pwr = (commitState q z).pwr := elapse_pwr t _
  have hzpwr : z.pwr = s.pwr := (congrArg State.pwr hz.frame :)
  have hst : (elapse t (commitState q z)).pwr.st = q := by rw [hwpwr, hpwr]
  have hregGet : ∀ off, regGet off s' = regGet off (commitState q z) := fun off =>
    (settles_regGet hset off).trans (elapse_regGet off t _)
  have hzget : ∀ off, regGet off z = regGet off s := fun off => by
    rw [hz.frame]
    rfl
  have hfld : ∀ f, fld f s' = fld f (commitState q z) := fun f => by rw [fld, fld, hregGet]
  have hislands : s'.pwr.islands = if q = .watch then watchIslands (elapse t (commitState q z))
      else (commitState q z).pwr.islands := by
    have h := congrArg Pwr.islands hfin
    rw [hst, hwpwr] at h
    exact h
  refine ⟨?_, ?_, (hfld _).trans hcom.state, ?_, ?_, fun hg => ?_, fun hoff => ?_, fun hf => ?_, fun off ho => ?_, ?_⟩
  · have hi := congrArg Pwr.islands hfin
    dsimp only at hi
    rw [← hi, hwpwr, hpwr, hzpwr] at hfin
    exact hfin
  · rw [hislands, watchIslands_settles hset]
    cases q <;> rw [hpwr, hzpwr]
    all_goals rfl
  · rw [hregGet, hcom.gap, hzget, hz.gap]
  · rw [hregGet, hcom.watch, hzget, hz.watch]
  · obtain ⟨h1, h2, h3⟩ := hcom.shadows hg
    obtain ⟨e1, e2, -, -⟩ := elapse_shadows t (commitState q z)
    rw [settles_clk hset, hfld]
    exact ⟨e1.trans h1, e2.trans h2, h3⟩
  · obtain ⟨n, hn⟩ : ∃ n, s'.uhf.walk = [⟨n, n, 0⟩] := by
      rcases hoff with rfl | ⟨rfl, hlf⟩
      · have hsettle : settleIslands (elapse t (commitState .fallow z)) = elapse t (commitState .fallow z) := by
          have hne : ((elapse t (commitState .fallow z)).pwr.st == .watch) = false := by rw [hst]; rfl
          unfold settleIslands
          rw [hne, Bool.false_and, Bool.false_and, Bool.false_and, if_neg Bool.false_ne_true]
        obtain ⟨⟨n, hn⟩, -⟩ := commitState_fallow z
        exact ⟨n, by rw [show s'.uhf.walk = _ from hwalk, hsettle, elapse_uhf, hn]⟩
      · obtain ⟨n, hn⟩ := watch_uhf_off hst hstop (by
          rw [elapse_lf, hframe]
          show z.lf.run = none
          rw [hz.frame]
          exact hlf)
        exact ⟨n, (show s'.uhf.walk = _ from hwalk).trans hn⟩
    rw [uhfState, hn, walkAt_off]
  · subst hf
    obtain ⟨h1, h2, h3, h4⟩ := finish_fallow_pins hcalm hst (by rw [hwpwr, hpwr]; rfl)
    obtain ⟨-, hA, hB⟩ := commitState_fallow z
    exact ⟨h2, h1, h3.trans ((congrArg Pins.startA (elapse_pins t _)).trans hA),
      h4.trans ((congrArg Pins.startB (elapse_pins t _)).trans hB)⟩
  · rw [hregGet, hcom.kept.keeps off ho, hzget]
  · have hmem : ∀ {α : Type} (f : State → α), (∀ x : State, f (elapse t x) = f x) → (∀ r c p n u w,
        f { z with regs := r, clk := c, pwr := p, pins := n, uhf := u, uwb := w } = f z) →
        (∀ c b, f { s with clk := c, nv := { s.nv with buf := b } } = f s) → f (elapse t (commitState q z)) = f s := by
      intro α f h1 h2 h3
      rw [h1, hframe, h2, hz.frame, h3]
    refine ⟨fun a => ?_, fun a => ?_, fun a => ?_, fun a => ?_, ?_⟩
    · rw [settles_hostMem hset, hmem State.hostMem (elapse_hostMem t) (fun _ _ _ _ _ _ => rfl) (fun _ _ => rfl)]
    · rw [settles_droverMem hset, hmem State.droverMem (elapse_droverMem t) (fun _ _ _ _ _ _ => rfl) (fun _ _ => rfl)]
    · rw [settles_monMem hset, hmem State.monMem (elapse_monMem t) (fun _ _ _ _ _ _ => rfl) (fun _ _ => rfl)]
    · rw [settles_nv hset, hmem (fun x => x.nv.mem) (elapse_nv_mem t) (fun _ _ _ _ _ _ => rfl) (fun _ _ => rfl)]
    · rw [settles_nv hset, hmem (fun x => x.nv.recs) (elapse_nv_recs t) (fun _ _ _ _ _ _ => rfl) (fun _ _ => rfl)]

end

/-- Settles O49. -/
theorem powerStatesAreEntered : Obligations.PowerStatesAreEntered := by
  unfold Obligations.PowerStatesAreEntered
  intro s t hm hsh
  dsimp only
  refine ⟨fun hl hmay hp => powerStateEntry_enters hl hmay hp, fun hl hmay => entries_idle hl hmay,
    fun hl hmay hp hr hw hwr hsome hmax => fallowEntry_enters hm hsh hl hmay hp hr hw hwr hsome hmax,
    fun q c he hq hl hct ht hrun hnonce => ?_, fun hl hst => edgeDetector_arms hl hst⟩
  obtain ⟨z, hz, hcalm, hstop, hexec⟩ := entry_commits he hl hct ht hrun hnonce
  exact ⟨_, hexec, entry_leaves hm hq hz hcalm hstop⟩

end Sys2Proof.Machine
end

section
/-! SUPPORT. Marks in the gaps of REFCLK. -/
namespace Sys2Proof.Machine

section
variable {s : State} {t : Nat}

/-! ## What a mark may change -/

/-- Time moves the counts of the clocks, nothing else of them. -/
theorem elapse_clk_counts (t : Nat) (s : State) : (elapse t s).clk = { s.clk with
    tb := (elapse t s).clk.tb, frac := (elapse t s).clk.frac, wall := (elapse t s).clk.wall
    wallRem := (elapse t s).clk.wallRem, slew := (elapse t s).clk.slew } := by
  have hpass : ∀ n, (passTicks n s).clk = { s.clk with
      tb := (passTicks n s).clk.tb, frac := (passTicks n s).clk.frac, wall := (passTicks n s).clk.wall
      wallRem := (passTicks n s).clk.wallRem, slew := (passTicks n s).clk.slew } := by
    intro n
    unfold passTicks wallPass
    by_cases hrun : s.clk.wallRun = true
    · simp only [hrun, if_true]
    · simp only [hrun, Bool.false_eq_true, if_false]
  unfold elapse
  split
  · rfl
  · split
    · dsimp only
      rw [hpass]
    · exact hpass _
    · exact hpass _

/-- TIMEBASE goes on as it did. -/
theorem elapse_tbRuns (t : Nat) (s : State) : tbRuns (elapse t s) = tbRuns s := by
  have hlost : (elapse t s).clk.lost = s.clk.lost := by rw [elapse_clk_counts]
  have hcontent : (elapse t s).clk.content = s.clk.content := by rw [elapse_clk_counts]
  simp only [tbRuns, hlost, hcontent, elapse_pwr]

/-- `s` with the clocks, the channels, the power unit, the radios' walks and the device records of `y`. -/
def actedOn (s y : State) : State :=
  { s with
    clk := y.clk, tmr := y.tmr, pwr := y.pwr
    uhf := { s.uhf with walk := y.uhf.walk }, uwb := { s.uwb with walk := y.uwb.walk }
    nv := { s.nv with recs := y.nv.recs, twins := y.nv.twins } }

/-- What is recorded between two states is recorded between them with these parts of a third one. -/
theorem Recorded.actedOn {cells offs : List Nat} {a b : State} (h : Recorded cells offs a b) (c : State) :
    Recorded cells offs (actedOn a c) (actedOn b c) :=
  ⟨(congrArg (fun x : State => Machine.actedOn x c) h.blank :),
    ⟨fun off ho => h.regs.keeps off ho, fun hw => h.regs.wf hw⟩,
    ⟨h.host.link, h.host.busMaster, h.host.flight, h.host.enabled, h.host.memWf⟩,
    ⟨h.array.mem, h.array.bad, h.array.wf⟩, h.hostWait⟩

/-- What follows a mark: beside records, events, CLK_STATUS and PWR_STATUS it may change the clocks but for TIMEBASE, the
power unit, the radios' walks and the record of the wall clock. -/
structure Acted (s y : State) : Prop where
  frame : Recorded [] [CLK_STATUS.reg, PWR_STATUS.reg] (actedOn s y) y
  tb : y.clk.tb = s.clk.tb
  gapAt : y.clk.gapAt = s.clk.gapAt
  tmr : y.tmr = s.tmr
  last : Regs.wf s = true → fld CLK_STATUS.LAST_MARK y = fld CLK_STATUS.LAST_MARK s
  recs : ∀ id, id ≠ recWall → recGet id y = recGet id s

theorem Acted.ready {x y : State} (h : Acted x y) : y.nv.ledgerReady = x.nv.ledgerReady := h.frame.ledgerReady

theorem Acted.wf {x y : State} (h : Acted x y) (hw : Regs.wf x = true) : Regs.wf y = true := h.frame.regs_wf hw

/-- Records and events are such a step. -/
theorem Acted.of_recorded {x y : State} (h : Recorded [] [PWR_STATUS.reg] x y) : Acted x y := by
  have hacted : actedOn x y = x := by
    have hclk : y.clk = x.clk := h.clk
    have htmr : y.tmr = x.tmr := (congrArg State.tmr h.blank :)
    have hpwr : y.pwr = x.pwr := (congrArg State.pwr h.blank :)
    have huhf : y.uhf = x.uhf := (congrArg State.uhf h.blank :)
    have huwb : y.uwb = x.uwb := (congrArg State.uwb h.blank :)
    have htwins : y.nv.twins = x.nv.twins := (congrArg (fun z : State => z.nv.twins) h.blank :)
    rw [actedOn, hclk, htmr, hpwr, huhf, huwb, htwins, h.recs]
  refine ⟨?_, congrArg Clk.tb h.clk, congrArg Clk.gapAt h.clk, (congrArg State.tmr h.blank :), fun _ => h.fld _ (by decide),
    fun id _ => by rw [recGet, h.recs]; rfl⟩
  rw [hacted]
  exact h.mono (fun _ hx => hx) (by decide)

theorem Acted.trans {x y z : State} (h1 : Acted x y) (h2 : Acted y z) : Acted x z :=
  ⟨(h1.frame.actedOn z).trans h2.frame, h2.tb.trans h1.tb, h2.gapAt.trans h1.gapAt, h2.tmr.trans h1.tmr,
    fun hw => (h2.last (h1.wf hw)).trans (h1.last hw), fun id hid => (h2.recs id hid).trans (h1.recs id hid)⟩

/-- So is a change of the wall clock. -/
theorem Acted.withClk {x : State} (c : Clk) (htb : c.tb = x.clk.tb) (hgap : c.gapAt = x.clk.gapAt) :
    Acted x { x with clk := c } :=
  ⟨Recorded.refl _, htb, hgap, rfl, fun _ => rfl, fun _ _ => rfl⟩

/-- So is one of the power unit. -/
theorem Acted.withPwr (x : State) (p : Pwr) : Acted x { x with pwr := p } :=
  ⟨Recorded.refl _, rfl, rfl, rfl, fun _ => rfl, fun _ _ => rfl⟩

/-- So is the write of a field of CLK_STATUS beside LAST_MARK. -/
theorem Acted.setStatus (f : Field) (v : Nat) (x : State) (hoff : f.off = CLK_STATUS.reg) (hf : f.fits = true)
    (ha : f.apart CLK_STATUS.LAST_MARK = true) : Acted x (setFld f v x) :=
  ⟨Recorded.setFld (offs := [CLK_STATUS.reg, PWR_STATUS.reg]) f v x (by rw [hoff]; decide), rfl, rfl, rfl, fun hw => fld_setFld_apart _ _ hf ha v x hw, fun _ _ => rfl⟩

/-- So is the store of the wall clock, which may fail. -/
theorem Acted.storeWall {x : State} (hr : x.nv.ledgerReady = true) : Acted x (storeWall x) := by
  have h := Recorded.recStore (cells := []) (offs := []) recWall (leBytes 8 x.clk.wall.toNat) x hr
  have hne := fun (id : Nat) (hid : id ≠ recWall) => recStore_recGet_ne (leBytes 8 x.clk.wall.toNat) x hr hid
  generalize hy : (recStore recWall (leBytes 8 x.clk.wall.toNat) x).1 = y at h hne
  rw [show Machine.storeWall x = y from hy]
  have h1 : Acted x { x with nv := { x.nv with recs := y.nv.recs, twins := y.nv.twins } } :=
    ⟨Recorded.refl _, rfl, rfl, rfl, fun _ => rfl, fun id hid => by rw [← hne id hid]; rfl⟩
  exact h1.trans (.of_recorded (h.mono (fun _ hx => hx) (by decide)))

/-! ## The gap and the mark -/

/-- Posting an event of another instant. -/
theorem postAt_posted (code status ts : Nat) (res : Bytes) (x : State) : Posted x (postAt code status ts res x) := by
  unfold postAt postDet
  dsimp only
  generalize (Evt.mk code status _ _ _ _) = e
  have h1 : Posted x (deliverBacklog (echoEvt e { x with hif := { x.hif with evtSeq := x.hif.evtSeq + 1 } })) :=
    (deliverBacklog_posted _).after ((echoEvt_posted e _).after (posted_hif x _ rfl rfl rfl rfl))
  refine h1.trans ?_
  split
  · exact deliver_posted _ false _
  · exact storeEvt_posted _ _

/-- What is recorded reads alike with other channels and pads. -/
theorem Recorded.withTmr {cells offs : List Nat} {a b : State} (h : Recorded cells offs a b) (m : Tmr) (p : Pins) :
    Recorded cells offs { a with tmr := m, pins := p } { b with tmr := m, pins := p } :=
  ⟨(congrArg (fun x : State => { x with tmr := m, pins := p }) h.blank :),
    ⟨fun off ho => h.regs.keeps off ho, fun hw => h.regs.wf hw⟩,
    ⟨h.host.link, h.host.busMaster, h.host.flight, h.host.enabled, h.host.memWf⟩,
    ⟨h.array.mem, h.array.bad, h.array.wf⟩, h.hostWait⟩

/-- A completed pair of channel `n` (R396, R399): the pair it replaces counts when nobody has read it. -/
theorem captureAt_recorded (n first second : Nat) (credit : Bool) (x : State) :
    ∃ c1 : Channel, c1 = { captured first second credit (chan n x) with evtAt := c1.evtAt } ∧
      Recorded [] [TMR_STATUS.reg, TMR_CNT.reg] (setChan n c1 x) (captureAt n first second credit x) ∧
      ((chan n x).fresh = false → Recorded [] [] (setChan n c1 x) (captureAt n first second credit x)) ∧
      ((chan n x).fresh = true → Regs.wf x = true → fld TMR_STATUS.OVR_SEEN (captureAt n first second credit x) = 1 ∧
        fld TMR_CNT.OVERRUN (captureAt n first second credit x) =
          sat TMR_CNT.OVERRUN.width (fld TMR_CNT.OVERRUN x + 1)) := by
  let y : State := if (chan n x).fresh then setFld TMR_STATUS.OVR_SEEN 1 (bump TMR_CNT.OVERRUN x) else x
  have hxy : Recorded [] [TMR_STATUS.reg, TMR_CNT.reg] x y := by
    show Recorded _ _ x (if _ then _ else _)
    split
    · exact (Recorded.bump _ _ (by decide)).trans (Recorded.setFld _ _ _ (by decide))
    · exact .refl x
  have htmr : y.tmr = x.tmr := (congrArg State.tmr hxy.blank :)
  have hpins : y.pins = x.pins := (congrArg State.pins hxy.blank :)
  have hset : ∀ c1 : Channel, Recorded [] [TMR_STATUS.reg, TMR_CNT.reg] (setChan n c1 x) (setChan n c1 y) := by
    intro c1
    have h := hxy.withTmr { x.tmr with ch := x.tmr.ch.set n c1 } x.pins
    rw [← htmr] at h
    rw [← hpins] at h
    rwa [show ({ x with tmr := { y.tmr with ch := y.tmr.ch.set n c1 }, pins := y.pins } : State) = setChan n c1 x by
      rw [htmr, hpins]; rfl] at h
  have hcap : ∃ c1 : Channel, c1 = { captured first second credit (chan n x) with evtAt := c1.evtAt } ∧
      Posted (setChan n c1 y) (captureAt n first second credit x) := by
    unfold captureAt
    dsimp only
    generalize (actEvtMatch _ && _) = posts
    split
    · exact ⟨_, rfl, postAt_posted _ _ _ _ _⟩
    · exact ⟨captured first second credit (chan n x), rfl, .refl _⟩
  obtain ⟨c1, hc1, hpost⟩ := hcap
  refine ⟨c1, hc1, (hset c1).trans (.of_posted hpost), fun hf => ?_, fun hf hwf => ?_⟩
  · have hy : y = x := if_neg (by rw [hf]; decide)
    rw [hy] at hpost
    exact .of_posted hpost
  · have hy : y = setFld TMR_STATUS.OVR_SEEN 1 (bump TMR_CNT.OVERRUN x) := if_pos hf
    have hwfb : Regs.wf (bump TMR_CNT.OVERRUN x) = true := regs_wf_setFld _ _ _ hwf
    have hfld : ∀ f : Field, f.off ∉ [HIF_FAULT.reg] → fld f (captureAt n first second credit x) = fld f y :=
      fun f h => hpost.regs.fld f h
    rw [hfld _ (by decide), hfld _ (by decide), hy]
    refine ⟨fld_setFld_same TMR_STATUS.OVR_SEEN (by decide) 1 _ hwfb, ?_⟩
    exact (fld_setFld_apart TMR_STATUS.OVR_SEEN TMR_CNT.OVERRUN (by decide) (by decide) 1 _ hwfb).trans
      (fld_bump_same TMR_CNT.OVERRUN (by decide) x hwf)

/-- `x` is `s` after a gap: a pair of channel 31 (R69, R398). -/
structure GapSeen (g : Gap) (s x : State) : Prop where
  frame : Recorded [] [TMR_STATUS.reg, TMR_CNT.reg]
    { s with clk := { s.clk with gapAt := some (nowEighths s) }, tmr := x.tmr } x
  ch : x.tmr = { s.tmr with ch := s.tmr.ch.set 31 (chan 31 x) }
  width : (chan 31 x).width = sat 32 (now s - g.fall)
  fresh : (chan 31 x).fresh = true

theorem GapSeen.clk {g : Gap} {x : State} (h : GapSeen g s x) : x.clk = { s.clk with gapAt := some (nowEighths s) } :=
  h.frame.clk

theorem noteGap_seen (g : Gap) (hlen : s.tmr.ch.length = 32) : GapSeen g s (noteGap g s) := by
  obtain ⟨c1, hc1, hrec, -⟩ := captureAt_recorded 31 g.fall (now s) true
    { s with clk := { s.clk with gapAt := some (nowEighths s) } }
  have htmr : (noteGap g s).tmr = { s.tmr with ch := s.tmr.ch.set 31 c1 } := (congrArg State.tmr hrec.blank :)
  have hchan : chan 31 (noteGap g s) = c1 := by
    rw [chan, htmr]
    simp [hlen]
  refine ⟨?_, by rw [hchan, htmr], ?_, ?_⟩
  · rw [htmr]
    exact hrec
  · rw [hchan, hc1]
    rfl
  · rw [hchan, hc1]
    rfl

/-- `x` is `s` after a gap that is a mark (R70). -/
structure MarkSeen (g : Gap) (k : Nat) (cnt : Field) (s x : State) : Prop where
  frame : Recorded [] [CLK_STATUS.reg, cnt.off, CLK_LAST_MARK_LO.reg, CLK_LAST_MARK_HI.reg, TMR_STATUS.reg, TMR_CNT.reg]
    { s with clk := { s.clk with gapAt := some (nowEighths s) }, tmr := x.tmr } x
  ch : x.tmr = { s.tmr with ch := s.tmr.ch.set 31 (chan 31 x) }
  width : (chan 31 x).width = sat 32 (now s - g.fall)
  fresh : (chan 31 x).fresh = true
  count : fld cnt x = sat cnt.width (fld cnt s + 1)
  last : fld CLK_STATUS.LAST_MARK x = k
  at_ : reg64 CLK_LAST_MARK_LO.reg x = now s

/-- The write of a register of the list. -/
theorem Recorded.regSet {cells offs : List Nat} {off : Nat} (v : Word) (x : State) (ho : off ∈ recordRegs ++ offs) :
    Recorded cells offs x (regSet off v x) :=
  ⟨rfl, ⟨fun off' ho' => regGet_regSet_ne off off' v x (fun h => ho' (h ▸ ho)), fun hw => regs_wf_regSet off v x hw⟩,
    HostKept.of_eq rfl rfl, ArrayKept.of_eq _ rfl rfl, rfl⟩

/-- A pair of registers reads back. -/
theorem reg64_setReg64 (off : Nat) {n : Nat} {x : State} (hwf : Regs.wf x = true) (hn : n < 2 ^ 64) :
    reg64 off (setReg64 off n x) = n := by
  rw [reg64, setReg64, regGet_regSet_ne _ _ _ _ (by omega), regGet_regSet_same _ _ _ hwf,
    regGet_regSet_same _ _ _ (regs_wf_regSet _ _ _ hwf), BitVec.toNat_ofNat, BitVec.toNat_ofNat]
  omega

theorem noteMark_seen (g : Gap) {k : Nat} {cnt : Field} (hlen : s.tmr.ch.length = 32) (hwf : Regs.wf s = true)
    (hk : k < 2 ^ CLK_STATUS.LAST_MARK.width) (hoff : cnt.off = CLK_MARK_CNT.reg) (hfit : cnt.fits = true) :
    MarkSeen g k cnt s (noteMark k cnt (noteGap g s)) := by
  have hgap := noteGap_seen g hlen
  generalize noteGap g s = y at hgap
  have hnow : now y = now s := (congrArg (fun c : Clk => c.tb.toNat) hgap.clk :)
  have hwfy : Regs.wf y = true := hgap.frame.regs_wf hwf
  have hcnt : fld cnt y = fld cnt s := hgap.frame.fld cnt (by rw [hoff]; decide)
  have hwfb := regs_wf_setFld cnt (sat cnt.width (fld cnt y + 1)) y hwfy
  have hwfl := regs_wf_setFld CLK_STATUS.LAST_MARK k _ hwfb
  refine ⟨?_, hgap.ch, hgap.width, hgap.fresh, ?_, ?_, ?_⟩
  · refine (hgap.frame.mono (fun _ hx => hx) (by simp)).trans ?_
    exact (((Recorded.bump cnt y (by simp)).trans (Recorded.setFld CLK_STATUS.LAST_MARK k _ (by simp [CLK_STATUS.LAST_MARK, CLK_STATUS.reg]))).trans
      (Recorded.regSet (off := CLK_LAST_MARK_LO.reg) _ _ (by simp))).trans
      (Recorded.regSet (off := CLK_LAST_MARK_LO.reg + 4) _ _ (by simp [CLK_LAST_MARK_LO.reg, CLK_LAST_MARK_HI.reg]))
  · have hlo : cnt.off ≠ CLK_LAST_MARK_LO.reg ∧ cnt.off ≠ CLK_LAST_MARK_LO.reg + 4 ∧ cnt.off ≠ CLK_STATUS.reg := by
      rw [hoff]
      decide
    have hreg : regGet cnt.off (noteMark k cnt y) = regGet cnt.off (bump cnt y) := by
      rw [noteMark, setReg64, regGet_regSet_ne _ _ _ _ hlo.2.1, regGet_regSet_ne _ _ _ _ hlo.1]
      exact regGet_setFld_ne _ _ _ _ hlo.2.2
    rw [show fld cnt (noteMark k cnt y) = fld cnt (bump cnt y) by rw [fld, fld, hreg], fld_bump_same cnt hfit y hwfy, hcnt]
  · have hreg : regGet CLK_STATUS.reg (noteMark k cnt y) =
        regGet CLK_STATUS.reg (setFld CLK_STATUS.LAST_MARK k (bump cnt y)) := by
      rw [noteMark, setReg64, regGet_regSet_ne _ _ _ _ (by decide), regGet_regSet_ne _ _ _ _ (by decide)]
    rw [show fld CLK_STATUS.LAST_MARK (noteMark k cnt y) =
        fld CLK_STATUS.LAST_MARK (setFld CLK_STATUS.LAST_MARK k (bump cnt y)) from congrArg CLK_STATUS.LAST_MARK.of hreg]
    exact (fld_setFld_same _ (by decide) k _ hwfb).trans (Nat.mod_eq_of_lt hk)
  · rw [noteMark, hnow]
    exact reg64_setReg64 _ hwfl s.clk.tb.isLt

/-! ## The discipline -/

/-- The store of the wall clock leaves the clocks and CLK_STATUS alone. -/
theorem storeWall_clk {x : State} (hr : x.nv.ledgerReady = true) :
    (storeWall x).clk = x.clk ∧ RegsKept recordRegs x (storeWall x) := by
  have h := Recorded.recStore (cells := []) (offs := []) recWall (leBytes 8 x.clk.wall.toNat) x hr
  exact ⟨h.clk, ⟨fun off ho => h.regs.keeps off (by simpa using ho), fun hw => h.regs.wf hw⟩⟩

/-- `y` is `x` after the discipline of a mark (R71). -/
structure Disciplined (x y : State) : Prop where
  off : flag CLK_GAP_CTL.SEC_DISC x = false ∨ x.clk.wallRun = false ∨ snapUnits x < markError x ∨
    snapUnits x < -markError x → y.clk = x.clk
  stale : flag CLK_GAP_CTL.SEC_DISC x = true → x.clk.wallRun = true → -(snapUnits x) ≤ markError x →
    markError x ≤ snapUnits x → fld CLK_STATUS.WALL_STALE y = 0
  lags : flag CLK_GAP_CTL.SEC_DISC x = true → x.clk.wallRun = true → markError x ≤ snapUnits x → 0 < markError x →
    y.clk = { x.clk with wall := BitVec.ofNat 64 ((x.clk.wall.toNat / 65536 + 1) * 65536), wallRem := 0, slew := 0 }
  leads : flag CLK_GAP_CTL.SEC_DISC x = true → x.clk.wallRun = true → -(snapUnits x) ≤ markError x → markError x < 0 →
    y.clk = { x.clk with slew := (-markError x).toNat }
  exact_ : markError x = 0 → y.clk = x.clk

/-- Records and events after it change nothing of that. -/
theorem Disciplined.after {x y z : State} (h : Disciplined x y) (hclk : z.clk = y.clk)
    (hstale : fld CLK_STATUS.WALL_STALE z = fld CLK_STATUS.WALL_STALE y) : Disciplined x z :=
  ⟨fun hc => hclk.trans (h.off hc), fun h1 h2 h3 h4 => hstale.trans (h.stale h1 h2 h3 h4),
    fun h1 h2 h3 h4 => hclk.trans (h.lags h1 h2 h3 h4), fun h1 h2 h3 h4 => hclk.trans (h.leads h1 h2 h3 h4),
    fun h0 => hclk.trans (h.exact_ h0)⟩

/-- A correction of the wall clock with its store. -/
theorem wallStored {x : State} (w : BitVec 64) (rem slew : Nat) (hr : x.nv.ledgerReady = true) (hwf : Regs.wf x = true) :
    let y := storeWall (setWall w rem slew (setFld CLK_STATUS.WALL_STALE 0 x))
    Acted x y ∧ y.clk = { x.clk with wall := w, wallRem := rem, slew := slew } ∧ fld CLK_STATUS.WALL_STALE y = 0 := by
  intro y
  have h1 : Acted x (setFld CLK_STATUS.WALL_STALE 0 x) :=
    Acted.setStatus CLK_STATUS.WALL_STALE 0 x rfl (by decide) (by decide)
  have h2 : Acted (setFld CLK_STATUS.WALL_STALE 0 x) (setWall w rem slew (setFld CLK_STATUS.WALL_STALE 0 x)) :=
    Acted.withClk _ rfl rfl
  obtain ⟨hclk, hregs⟩ := storeWall_clk (x := setWall w rem slew (setFld CLK_STATUS.WALL_STALE 0 x)) hr
  refine ⟨(h1.trans h2).trans (.storeWall hr), hclk, ?_⟩
  exact (hregs.fld CLK_STATUS.WALL_STALE (by decide)).trans (fld_setFld_same CLK_STATUS.WALL_STALE (by decide) 0 x hwf)

theorem discipline_disciplined {x : State} (hr : x.nv.ledgerReady = true) (hwf : Regs.wf x = true) :
    Acted x (discipline x).1 ∧ Disciplined x (discipline x).1 := by
  have hsame : (discipline x).1 = x → (flag CLK_GAP_CTL.SEC_DISC x = true → x.clk.wallRun = true →
      -(snapUnits x) ≤ markError x → markError x ≤ snapUnits x → False) →
      Acted x (discipline x).1 ∧ Disciplined x (discipline x).1 := by
    intro heq hno
    rw [heq]
    refine ⟨.of_recorded (.refl x), fun _ => rfl, fun h1 h2 h3 h4 => (hno h1 h2 h3 h4).elim,
      fun h1 h2 h3 h4 => (hno h1 h2 (by omega) h3).elim, fun h1 h2 h3 h4 => (hno h1 h2 h3 (by omega)).elim, fun _ => rfl⟩
  by_cases hon : (flag CLK_GAP_CTL.SEC_DISC x && x.clk.wallRun) = true
  · by_cases hnear : (decide (markError x ≤ snapUnits x) && decide (-markError x ≤ snapUnits x)) = true
    · simp only [Bool.and_eq_true] at hon
      simp only [Bool.and_eq_true, decide_eq_true_eq] at hnear
      have hin : ¬ (flag CLK_GAP_CTL.SEC_DISC x = false ∨ x.clk.wallRun = false ∨ snapUnits x < markError x ∨
          snapUnits x < -markError x) := by
        simp [hon]
        omega
      unfold discipline
      simp only [hon, hnear, Bool.and_self, if_true, decide_true, Bool.not_true, Bool.false_eq_true, if_false]
      rcases lt_trichotomy (markError x) 0 with he | he | he
      · rw [if_neg (by omega), if_pos he]
        obtain ⟨ha, hclk, hstale⟩ := wallStored x.clk.wall x.clk.wallRem (-markError x).toNat hr hwf
        exact ⟨ha, fun hc => (hin hc).elim, fun _ _ _ _ => hstale, fun _ _ _ h4 => by omega, fun _ _ _ _ => hclk,
          fun h0 => by omega⟩
      · rw [if_neg (by omega), if_neg (by omega)]
        exact ⟨Acted.setStatus CLK_STATUS.WALL_STALE 0 x rfl (by decide) (by decide), fun hc => (hin hc).elim,
          fun _ _ _ _ => fld_setFld_same CLK_STATUS.WALL_STALE (by decide) 0 x hwf, fun _ _ _ h4 => by omega,
          fun _ _ _ h4 => by omega, fun _ => rfl⟩
      · rw [if_pos he]
        obtain ⟨ha, hclk, hstale⟩ := wallStored (BitVec.ofNat 64 ((x.clk.wall.toNat / 65536 + 1) * 65536)) 0 0 hr hwf
        exact ⟨ha, fun hc => (hin hc).elim, fun _ _ _ _ => hstale, fun _ _ _ _ => hclk, fun _ _ _ h4 => by omega,
          fun h0 => by omega⟩
    · refine hsame ?_ (fun _ _ h3 h4 => ?_)
      · unfold discipline
        rw [if_pos hon]
        simp [hnear]
      · simp only [Bool.and_eq_true, decide_eq_true_eq] at hnear
        omega
  · refine hsame ?_ (fun h1 h2 _ _ => hon (by rw [h1, h2]; rfl))
    unfold discipline
    rw [if_neg hon]

/-! ## What is seen of a mark at the end of its command -/

/-- The frame of a statement that agrees on what it compares. -/
theorem recordsOnly_base {cells offs : List Nat} {a b y : State} (h : recordsOnly cells offs a y)
    (hb : blankRecords b = blankRecords a) (hr : b.regs = a.regs) (hp : b.part = a.part) (hm : b.nv.mem = a.nv.mem) :
    recordsOnly cells offs b y := by
  obtain ⟨h1, h2, h3⟩ := h
  refine ⟨h1.trans hb.symm, fun off ho => ?_, fun x hx hc => by rw [hm]; exact h3 x hx hc⟩
  rw [h2 off ho, regGet, regGet, hr, hp]

/-- What a mark and its action leave, as the statement compares it. -/
theorem actedOn_settles {y s' : State} (s : State) (h : settles y s') :
    blankRecords (actedOn s s') = blankRecords (actedOn s y) := by
  have hblank : ∀ z : State, blankRecords (actedOn s (blankLines z)) = blankRecords (actedOn s z) := by
    intro z
    cases hw : (z.pwr.st == PState.watch)
    · simp only [blankRecords, blankLines, blankHost, actedOn, hw, Bool.false_eq_true, if_false]
    · simp only [blankRecords, blankLines, blankHost, actedOn, hw, if_true]
  rw [← hblank s', show blankLines s' = blankLines y from h, hblank]

/-- A device record reads alike at another tick. -/
theorem elapse_recGet (id t : Nat) (s : State) : recGet id (elapse t s) = recGet id s := by
  rw [recGet, recGet, elapse_nv_recs]

/-- `s'` is `s` after a mark with its count, its registers and its gap; `s0` stands at the mark. -/
def markNoted (g : Gap) (k : Nat) (cnt : Field) (s s0 s' : State) : Prop :=
  fld cnt s' = sat cnt.width (fld cnt s + 1) ∧ fld CLK_STATUS.LAST_MARK s' = k ∧
  reg64 CLK_LAST_MARK_LO.reg s' = now s0 ∧ s'.clk.gapAt = some (nowEighths s0) ∧ s'.clk.tb = s0.clk.tb ∧
  (∀ id, id ≠ recWall → recGet id s' = recGet id s) ∧
  (chan 31 s').width = sat 32 (now s0 - g.fall) ∧ (chan 31 s').fresh = true ∧
  recordsOnly []
    [CLK_STATUS.reg, cnt.off, CLK_LAST_MARK_LO.reg, CLK_LAST_MARK_HI.reg, TMR_STATUS.reg, TMR_CNT.reg, PWR_STATUS.reg]
    { s0 with
      clk := s'.clk, tmr := { s.tmr with ch := s.tmr.ch.set 31 (chan 31 s') }, pwr := s'.pwr
      uhf := { s.uhf with walk := s'.uhf.walk }, uwb := { s.uwb with walk := s'.uwb.walk }
      nv := { s0.nv with recs := s'.nv.recs, twins := s'.nv.twins } } s'

theorem markNoted_of {g : Gap} {k : Nat} {cnt : Field} {x y s' : State} (hx : MarkSeen g k cnt (elapse t s) x)
    (ha : Acted x y) (hset : settles y s') (hwf : Regs.wf (elapse t s) = true) (hoff : cnt.off = CLK_MARK_CNT.reg) :
    markNoted g k cnt s (elapse t s) s' := by
  have hwfx : Regs.wf x = true := hx.frame.regs_wf hwf
  have hfld : ∀ f : Field, f.off ∉ recordRegs ++ [CLK_STATUS.reg, PWR_STATUS.reg] → fld f s' = fld f x := fun f hf =>
    (settles_fld hset f).trans (ha.frame.fld f hf)
  have hreg : ∀ off, off ∉ recordRegs ++ [CLK_STATUS.reg, PWR_STATUS.reg] → regGet off s' = regGet off x := fun off ho =>
    (settles_regGet hset off).trans (ha.frame.regs.keeps off ho)
  have hclk : s'.clk = y.clk := settles_clk hset
  have htmr : s'.tmr = x.tmr := (settles_tmr hset).trans ha.tmr
  have hchan : chan 31 s' = chan 31 x := by rw [chan, chan, htmr]
  have hxclk : x.clk = { (elapse t s).clk with gapAt := some (nowEighths (elapse t s)) } := hx.frame.clk
  refine ⟨?_, (settles_fld hset _).trans ((ha.last hwfx).trans hx.last), ?_, ?_, ?_, fun id hid => ?_, ?_, ?_, ?_⟩
  · rw [hfld cnt (by rw [hoff]; decide), hx.count, elapse_fld]
  · rw [reg64, hreg _ (by decide), hreg _ (by decide)]
    exact hx.at_
  · rw [hclk, ha.gapAt, hxclk]
  · rw [hclk, ha.tb, hxclk]
  · rw [recGet, settles_nv hset]
    refine (ha.recs id hid).trans ?_
    rw [← elapse_recGet id t s, recGet, hx.frame.recs]
    rfl
  · rw [hchan]
    exact hx.width
  · rw [hchan]
    exact hx.fresh
  · have hrec : Recorded [] [CLK_STATUS.reg, cnt.off, CLK_LAST_MARK_LO.reg, CLK_LAST_MARK_HI.reg, TMR_STATUS.reg, TMR_CNT.reg,
        PWR_STATUS.reg] (actedOn (elapse t s) y) y :=
      ((hx.frame.actedOn y).mono (fun _ h => h) (by simp)).trans (ha.frame.mono (fun _ h => h) (by simp))
    refine recordsOnly_base (recordsOnly_settles (hrec.recordsOnly rfl rfl rfl) hset) ?_ rfl rfl rfl
    rw [← actedOn_settles (elapse t s) hset, hchan, ← elapse_tmr t s, ← hx.ch, ← htmr, ← elapse_uhf t s, ← elapse_uwb t s]
    rfl

end

end Sys2Proof.Machine
end

section
/-! SUPPORT. What the marks do. -/
namespace Sys2Proof.Machine

section
variable {s : State} {t : Nat}

/-! ## Exits, events and records after a mark -/

theorem Posted.pwr {x y : State} (h : Posted x y) : y.pwr = x.pwr := (congrArg State.pwr h.blank :)

theorem MarkSeen.pwr {g : Gap} {k : Nat} {cnt : Field} {a x : State} (h : MarkSeen g k cnt a x) : x.pwr = a.pwr :=
  (congrArg State.pwr h.frame.blank :)

theorem Acted.event {x : State} (code status : Nat) (res : Bytes) : Acted x (post code status res x) :=
  .of_recorded (.of_posted (post_posted code status res x))

theorem Acted.record {x : State} (typ src data : Nat) (hr : x.nv.ledgerReady = true) : Acted x (append typ src data x) :=
  .of_recorded (Recorded.append typ src data x hr)

theorem Acted.setPower (f : Field) (v : Nat) (x : State) (hoff : f.off = PWR_STATUS.reg) : Acted x (setFld f v x) :=
  .of_recorded (Recorded.setFld f v x (by rw [hoff]; decide))

theorem Acted.setSrc (k : Nat) (x : State) : Acted x (setSrc k x) := by
  unfold Machine.setSrc
  split
  · exact .of_recorded (.refl x)
  · split
    · exact .setPower _ _ x rfl
    · exact Acted.trans (.withPwr x _) (.setPower PWR_STATUS.WAKE_SRC k _ rfl)

theorem Acted.toRun (x : State) : Acted x (setPState .run x) :=
  Acted.trans (.withPwr x _) (.setPower PWR_STATUS.STATE _ _ rfl)

theorem Acted.powered (x : State) : Acted x (powerAll x) :=
  ⟨Recorded.refl _, rfl, rfl, rfl, fun _ => rfl, fun _ _ => rfl⟩

/-- An exit to Run of a device that enters no state. -/
theorem Acted.exitRun (k : Nat) {x : State} (he : x.pwr.entering = none) : Acted x (exitRun k x) := by
  unfold Machine.exitRun
  simp only [he, Option.isSome_none, Bool.false_eq_true, if_false]
  split
  · split
    · exact .setSrc k x
    · exact .of_recorded (.refl x)
  · exact .of_recorded (.refl x)
  · exact (Acted.toRun x).trans (.setSrc k _)
  · exact (Acted.toRun x).trans (.setSrc k _)
  · split
    · exact ((Acted.powered x).trans (.toRun _)).trans (.setSrc k _)
    · exact .withPwr x _

/-- A field of PWR_STATUS beside STATE and WAKE_SRC stays over an exit. -/
theorem exitRun_fld (k : Nat) {x : State} (f : Field) (he : x.pwr.entering = none) (hwf : Regs.wf x = true)
    (hst : PWR_STATUS.STATE.apart f = true) (hsrc : PWR_STATUS.WAKE_SRC.apart f = true) :
    fld f (exitRun k x) = fld f x := by
  have hset : ∀ z : State, Regs.wf z = true → fld f (setSrc k z) = fld f z := by
    intro z hz
    unfold setSrc
    split
    · rfl
    · split
      · exact fld_setFld_apart _ f (by decide) hsrc _ z hz
      · exact fld_setFld_apart PWR_STATUS.WAKE_SRC f (by decide) hsrc k
          { z with pwr := { z.pwr with srcAt := some (now z) } } hz
  have hrun : ∀ z : State, Regs.wf z = true → fld f (setSrc k (setPState .run z)) = fld f z := by
    intro z hz
    refine (hset _ (regs_wf_setFld PWR_STATUS.STATE _ { z with pwr := { z.pwr with st := .run, entering := none } } hz)).trans ?_
    exact fld_setFld_apart PWR_STATUS.STATE f (by decide) hst _ { z with pwr := { z.pwr with st := .run, entering := none } } hz
  unfold exitRun
  simp only [he, Option.isSome_none, Bool.false_eq_true, if_false]
  split
  · split
    · exact hset x hwf
    · rfl
  · rfl
  · exact hrun x hwf
  · exact hrun x hwf
  · split
    · exact (hrun (powerAll x) hwf).trans rfl
    · rfl

/-- The end of a mark's command. -/
theorem acted_settles {g : Gap} {k : Nat} {cnt : Field} {x y : State} (hl : live s = true)
    (hx : MarkSeen g k cnt (elapse t s) x) (ha : Acted x y) : settles y (finish y) := by
  refine finish_settles_recorded (x := actedOn (elapse t s) y) hl ?_ ?_
    ((hx.frame.actedOn y).mono (fun _ h => h) (by simp) |>.trans
      (ha.frame.mono (offs' := [CLK_STATUS.reg, cnt.off, CLK_LAST_MARK_LO.reg, CLK_LAST_MARK_HI.reg, TMR_STATUS.reg,
        TMR_CNT.reg, PWR_STATUS.reg]) (fun _ h => h) (by simp)))
  · exact congrArg Lgr.hostWait (elapse_lgr t s)
  · exact elapse_fold t s

/-! ## The discipline's part of the statement -/

/-- The clocks after a mark's discipline, as the statement says them: `s` before the mark, `x` at it. -/
theorem disciplined_clk {g : Gap} {k : Nat} {cnt : Field} {x y s' : State} (hx : MarkSeen g k cnt (elapse t s) x)
    (hoff : cnt.off = CLK_MARK_CNT.reg) (hd : Disciplined x y) (hset : settles y s') :
    let s0 := elapse t s
    let e := markError s0
    (flag CLK_GAP_CTL.SEC_DISC s = false ∨ s.clk.wallRun = false ∨ snapUnits s < e ∨ snapUnits s < -e →
      s'.clk = { s0.clk with gapAt := some (nowEighths s0) }) ∧
    (flag CLK_GAP_CTL.SEC_DISC s = true → s.clk.wallRun = true → -(snapUnits s) ≤ e → e ≤ snapUnits s →
      fld CLK_STATUS.WALL_STALE s' = 0 ∧
      (0 < e → s'.clk = { s0.clk with
        gapAt := some (nowEighths s0), wall := BitVec.ofNat 64 ((s0.clk.wall.toNat / 65536 + 1) * 65536), wallRem := 0
        slew := 0 }) ∧
      (e < 0 → s'.clk = { s0.clk with gapAt := some (nowEighths s0), slew := (-e).toNat }) ∧
      (e = 0 → s'.clk = { s0.clk with gapAt := some (nowEighths s0) })) := by
  intro s0 e
  have hclk : x.clk = { s0.clk with gapAt := some (nowEighths s0) } := hx.frame.clk
  have hfld : ∀ f : Field, f.off = CLK_GAP_CTL.reg → fld f x = fld f s := fun f hf =>
    (hx.frame.fld f (by rw [hf, hoff]; decide)).trans (elapse_fld f t s)
  have hflag : flag CLK_GAP_CTL.SEC_DISC x = flag CLK_GAP_CTL.SEC_DISC s := by rw [flag, flag, hfld _ rfl]
  have hsnap : snapUnits x = snapUnits s := by rw [snapUnits, snapUnits, hfld _ rfl]
  have hrun : x.clk.wallRun = s.clk.wallRun := by
    rw [hclk]
    exact (congrArg Clk.wallRun (elapse_clk_counts t s) :)
  have herr : markError x = e := by rw [markError, hclk]; rfl
  obtain ⟨h1, h2, h3, h4, h5⟩ := hd
  rw [hflag, hsnap, hrun, herr] at h1 h2 h3 h4
  rw [herr] at h5
  rw [hclk] at h1 h3 h4 h5
  rw [settles_clk hset, settles_fld hset]
  exact ⟨h1, fun a b c d => ⟨h2 a b c d, h3 a b d, h4 a b c, h5⟩⟩

/-- The discipline leaves the power unit alone. -/
theorem discipline_pwr {x : State} (hr : x.nv.ledgerReady = true) : (discipline x).1.pwr = x.pwr := by
  have hstore : ∀ z : State, z.nv.ledgerReady = true → (storeWall z).pwr = z.pwr := fun z hz =>
    (congrArg State.pwr (Recorded.recStore (cells := []) (offs := []) recWall (leBytes 8 z.clk.wall.toNat) z hz).blank :)
  unfold discipline
  dsimp only
  split
  · split
    · rfl
    · split
      · exact hstore _ hr
      · split
        · exact hstore _ hr
        · rfl
  · rfl

/-! ## The commands -/

/-- SECOND_MARK (R71). -/
theorem secondMark_noted {g : Gap} (hl : live s = true) (hm : memorySafe s) (hsh : shaped s)
    (hr : s.nv.ledgerReady = true) (htb : tbRuns s = true) (hg : gapClass g (elapse t s) = some .second) :
    ∃ x y, MarkSeen g 1 CLK_MARK_CNT.SECOND (elapse t s) x ∧ Acted x y ∧ Disciplined x y ∧ y.pwr = s.pwr ∧
      exec (.secondMark t g) s = .next (finish y) := by
  obtain ⟨-, -, -, htmr, -⟩ := hsh
  have hwf := memorySafe_elapse_wf hm t
  have hx := noteMark_seen (k := 1) (cnt := CLK_MARK_CNT.SECOND) g (s := elapse t s) (by simpa using htmr) hwf (by decide) rfl
    (by decide)
  let x : State := noteMark 1 CLK_MARK_CNT.SECOND (noteGap g (elapse t s))
  have hrx : x.nv.ledgerReady = true := hx.frame.ledgerReady.trans (by simpa using hr)
  obtain ⟨ha, hd⟩ := discipline_disciplined hrx (hx.frame.regs_wf hwf)
  let y0 : State := (discipline x).1
  let y : State := if flag CLK_GAP_CTL.SEC_EVT (elapse t s) || (discipline x).2.force then markEvent 1 (discipline x).2 y0 else y0
  have hpost : Posted y0 y := by
    show Posted y0 (if _ then _ else _)
    split
    · exact post_posted _ _ _ _
    · exact .refl _
  have hpwr0 : y0.pwr = x.pwr := discipline_pwr hrx
  refine ⟨x, y, hx, ha.trans (.of_recorded (.of_posted hpost)), hd.after ?_ ?_, ?_, (command_live t _ s hl).trans ?_⟩
  · exact hpost.clk
  · exact hpost.regs.fld _ (by decide)
  · rw [hpost.pwr, hpwr0, hx.pwr, elapse_pwr]
  · rw [secondMark, onlyIf, if_pos (by simp [decodes, elapse_tbRuns, htb, hg])]

/-- EPOCH_MARK without a TIME_SET that waits for one (R72). -/
theorem epochMark_plain {g : Gap} (hl : live s = true) (hm : memorySafe s) (hsh : shaped s)
    (hr : s.nv.ledgerReady = true) (htb : tbRuns s = true) (hg : gapClass g (elapse t s) = some .epoch)
    (hset : s.clk.timeSet = none) :
    ∃ x y, MarkSeen g 2 CLK_MARK_CNT.EPOCH (elapse t s) x ∧ Acted x y ∧ Disciplined x y ∧
      exec (.epochMark t g) s = .next (finish y) := by
  obtain ⟨-, -, -, htmr, -⟩ := hsh
  have hwf := memorySafe_elapse_wf hm t
  have hx := noteMark_seen (k := 2) (cnt := CLK_MARK_CNT.EPOCH) g (s := elapse t s) (by simpa using htmr) hwf (by decide) rfl
    (by decide)
  let x : State := noteMark 2 CLK_MARK_CNT.EPOCH (noteGap g (elapse t s))
  have hrx : x.nv.ledgerReady = true := hx.frame.ledgerReady.trans (by simpa using hr)
  obtain ⟨ha, hd⟩ := discipline_disciplined hrx (hx.frame.regs_wf hwf)
  have hact : epochAct x = discipline x := by
    have hnone : x.clk.timeSet = none := by
      rw [hx.frame.clk]
      show (elapse t s).clk.timeSet = none
      rw [elapse_clk_counts]
      exact hset
    rw [epochAct, hnone]
  let y0 : State := (epochAct x).1
  let y1 : State := append 0x13 0 (b2n (bit 1 (epochAct x).2.flags) + 2 * b2n (bit 0 (epochAct x).2.flags)) y0
  let y : State := if flag CLK_GAP_CTL.EPOCH_EVT (elapse t s) || (epochAct x).2.force then markEvent 2 (epochAct x).2 y1 else y1
  have ha0 : Acted x y0 := by
    rw [show y0 = (discipline x).1 from congrArg Prod.fst hact]
    exact ha
  have hd0 : Disciplined x y0 := by
    rw [show y0 = (discipline x).1 from congrArg Prod.fst hact]
    exact hd
  have happ : Recorded [] [] y0 y1 := Recorded.append _ _ _ _ (ha0.ready.trans hrx)
  have hrec : Recorded [] [] y0 y := by
    refine happ.trans ?_
    show Recorded [] [] y1 (if _ then _ else _)
    split
    · exact .of_posted (post_posted _ _ _ _)
    · exact .refl _
  refine ⟨x, y, hx, ha0.trans (.of_recorded (hrec.mono (fun _ h => h) (by simp))), hd0.after hrec.clk ?_,
    (command_live t _ s hl).trans ?_⟩
  · exact hrec.fld _ (by decide)
  · rw [epochMark, onlyIf, if_pos (by simp [decodes, elapse_tbRuns, htb, hg])]

end

end Sys2Proof.Machine
end

section
/-! SUPPORT. The marks and the violations. -/
namespace Sys2Proof.Machine

section
variable {s : State} {t : Nat}

/-! ## A TIME_SET that waits for an EPOCH mark -/

/-- The wall clock is set forward (R132). -/
def wallSet (v : BitVec 64) (x : State) : State := setFld CLK_STATUS.WALL_STALE 0 (setWall v 0 0 (dropPending x))

/-- With its records and their event. -/
theorem applyWall_sets {x : State} {v : BitVec 64} (hv : x.clk.wall ≤ v) :
    ∃ d, applyWall 1 v (dropPending x) = (storeWall (append 0x14 1 d (wallSet v x)), false) := by
  have hd : decide (((v.toNat : Int) - (dropPending x).clk.wall.toNat) < 0) = false := by
    have hle : x.clk.wall.toNat ≤ v.toNat := hv
    have hw : (dropPending x).clk.wall = x.clk.wall := rfl
    rw [decide_eq_false_iff_not, hw]
    omega
  unfold applyWall
  simp only [hd, Bool.false_and, Bool.false_eq_true, if_false]
  exact ⟨_, rfl⟩

theorem wallSet_acted (v : BitVec 64) (x : State) : Acted x (wallSet v x) := by
  have h1 : Acted x { x with clk := { x.clk with timeSet := none } } := Acted.withClk _ rfl rfl
  have h2 := h1.trans (Acted.setStatus CLK_STATUS.EPOCH_PEND 0 _ rfl (by decide) (by decide))
  have h3 : Acted (dropPending x) (setWall v 0 0 (dropPending x)) := Acted.withClk _ rfl rfl
  exact (h2.trans h3).trans (Acted.setStatus CLK_STATUS.WALL_STALE 0 _ rfl (by decide) (by decide))

theorem wallSet_fields (v : BitVec 64) {x : State} (hwf : Regs.wf x = true) :
    fld CLK_STATUS.EPOCH_PEND (wallSet v x) = 0 ∧ fld CLK_STATUS.WALL_STALE (wallSet v x) = 0 := by
  have hwf1 : Regs.wf (setWall v 0 0 (dropPending x)) = true :=
    regs_wf_setFld CLK_STATUS.EPOCH_PEND 0 { x with clk := { x.clk with timeSet := none } } hwf
  refine ⟨?_, fld_setFld_same CLK_STATUS.WALL_STALE (by decide) 0 _ hwf1⟩
  refine (fld_setFld_apart CLK_STATUS.WALL_STALE CLK_STATUS.EPOCH_PEND (by decide) (by decide) 0 _ hwf1).trans ?_
  exact fld_setFld_same CLK_STATUS.EPOCH_PEND (by decide) 0 { x with clk := { x.clk with timeSet := none } } hwf

/-- EPOCH_MARK with a TIME_SET that waits for it and is ahead (R72, R132). -/
theorem epochMark_sets {g : Gap} {v : BitVec 64} (hl : live s = true) (hm : memorySafe s) (hsh : shaped s)
    (hr : s.nv.ledgerReady = true) (htb : tbRuns s = true) (hg : gapClass g (elapse t s) = some .epoch)
    (hset : s.clk.timeSet = some v) (hv : (elapse t s).clk.wall ≤ v) :
    ∃ x y, MarkSeen g 2 CLK_MARK_CNT.EPOCH (elapse t s) x ∧ Acted x y ∧
      y.clk = { (elapse t s).clk with
        gapAt := some (nowEighths (elapse t s)), timeSet := none, wall := v, wallRem := 0, slew := 0 } ∧
      fld CLK_STATUS.EPOCH_PEND y = 0 ∧ fld CLK_STATUS.WALL_STALE y = 0 ∧
      (recFails recWall s = false → recRead recWall y = some (leBytes 8 v.toNat)) ∧
      exec (.epochMark t g) s = .next (finish y) := by
  obtain ⟨-, -, -, htmr, -, -, -, hseq⟩ := hsh
  have hwf := memorySafe_elapse_wf hm t
  have hrecswf : swf (fun _ => Dual.empty) s.nv.recs = true := by
    obtain ⟨-, -, -, -, -, h⟩ := hm
    exact h
  have hx := noteMark_seen (k := 2) (cnt := CLK_MARK_CNT.EPOCH) g (s := elapse t s) (by simpa using htmr) hwf (by decide) rfl
    (by decide)
  generalize hxdef : noteMark 2 CLK_MARK_CNT.EPOCH (noteGap g (elapse t s)) = x at hx
  have hrx : x.nv.ledgerReady = true := hx.frame.ledgerReady.trans (by simpa using hr)
  have hclk : x.clk = { (elapse t s).clk with gapAt := some (nowEighths (elapse t s)) } := hx.frame.clk
  have hvx : x.clk.wall ≤ v := by
    rw [hclk]
    exact hv
  have hsome : x.clk.timeSet = some v := by
    rw [hclk]
    show (elapse t s).clk.timeSet = some v
    rw [elapse_clk_counts]
    exact hset
  have hok : wallRefused v x = false := by
    have hnot : ¬ v < x.clk.wall := BitVec.not_lt.mpr hvx
    simp [wallRefused, farBehind, hnot]
  obtain ⟨d, happly⟩ := applyWall_sets hvx
  have hxw : Acted x (wallSet v x) := wallSet_acted v x
  obtain ⟨hpend, hstale⟩ := wallSet_fields v (hx.frame.regs_wf hwf)
  have hwrecs : (wallSet v x).nv = x.nv := by
    rw [wallSet, setFld_nv, setWall, dropPending, setFld_nv]
  have hwclk : (wallSet v x).clk = { x.clk with timeSet := none, wall := v, wallRem := 0, slew := 0 } := by
    rw [wallSet, setFld_clk, setWall, dropPending, setFld_clk]
  have hact : (epochAct x).1 = storeWall (append 0x14 1 d (wallSet v x)) := by
    simp only [epochAct, hsome, hok, Bool.false_eq_true, if_false, happly]
  generalize wallSet v x = w at hxw hpend hstale hwrecs hwclk hact
  have hwz : Recorded [] [] w (append 0x14 1 d w) := Recorded.append _ _ _ _ (hxw.ready.trans hrx)
  have hwza : Acted w (append 0x14 1 d w) := .record _ _ _ (hxw.ready.trans hrx)
  generalize append 0x14 1 d w = z at hwz hwza hact
  let y0 : State := (epochAct x).1
  let y1 : State := append 0x13 0 (b2n (bit 1 (epochAct x).2.flags) + 2 * b2n (bit 0 (epochAct x).2.flags)) y0
  let y : State := if flag CLK_GAP_CTL.EPOCH_EVT (elapse t s) || (epochAct x).2.force then markEvent 2 (epochAct x).2 y1 else y1
  have hrz : z.nv.ledgerReady = true := hwz.ledgerReady.trans (hxw.ready.trans hrx)
  obtain ⟨hstclk, hstregs⟩ := storeWall_clk hrz
  have hxy0 : Acted x y0 := by
    rw [show y0 = storeWall z from hact]
    exact (hxw.trans hwza).trans (.storeWall hrz)
  have happ : Recorded [] [] y0 y1 := Recorded.append _ _ _ _ (hxy0.ready.trans hrx)
  have hrec : Recorded [] [] y0 y := by
    refine happ.trans ?_
    show Recorded [] [] y1 (if _ then _ else _)
    split
    · exact .of_posted (post_posted _ _ _ _)
    · exact .refl _
  have hclkz : z.clk = { x.clk with timeSet := none, wall := v, wallRem := 0, slew := 0 } := hwz.clk.trans hwclk
  have hfld : ∀ f : Field, f.off = CLK_STATUS.reg → fld f y = fld f w := fun f hf =>
    (hrec.fld f (by rw [hf]; decide)).trans (by
      rw [show y0 = storeWall z from hact]
      exact (hstregs.fld f (by rw [hf]; decide)).trans (hwz.fld f (by rw [hf]; decide)))
  refine ⟨x, y, hx, hxy0.trans (.of_recorded (hrec.mono (fun _ h => h) (by simp))), ?_, (hfld _ rfl).trans hpend,
    (hfld _ rfl).trans hstale, fun hf => ?_, (command_live t _ s hl).trans ?_⟩
  · rw [hrec.clk, show y0 = storeWall z from hact, hstclk, hclkz, hclk]
  · have hrecs : z.nv.recs = s.nv.recs := by
      rw [hwz.recs, hwrecs, hx.frame.recs]
      exact elapse_nv_recs t s
    have hworn : z.nv.wornRecs = s.nv.wornRecs := by
      rw [show z.nv.wornRecs = w.nv.wornRecs from (congrArg (fun w : State => w.nv.wornRecs) hwz.blank :), hwrecs,
        show x.nv.wornRecs = (elapse t s).nv.wornRecs from (congrArg (fun w : State => w.nv.wornRecs) hx.frame.blank :)]
      exact elapse_nv_wornRecs t s
    rw [recRead, recGet, hrec.recs, show y0 = storeWall z from hact]
    refine (recStore_recRead (id := recWall) (s := z) (leBytes 8 z.clk.wall.toNat) ?_ (by rw [hrecs]; exact hrecswf)
      (by rw [hrecs]; exact hseq)).trans ?_
    · rw [recFails, hworn]
      exact hf
    · rw [hclkz]
  · rw [epochMark, onlyIf, if_pos (by simp [decodes, elapse_tbRuns, htb, hg])]
    dsimp only
    rw [hxdef]

/-! ## ATTENTION -/

/-- ATTENTION_MARK (R73, R89). -/
theorem attentionMark_noted {g : Gap} (hl : live s = true) (hm : memorySafe s) (hsh : shaped s)
    (htb : tbRuns s = true) (hg : gapClass g (elapse t s) = some .attention) :
    ∃ x y, MarkSeen g 3 CLK_MARK_CNT.ATTENTION (elapse t s) x ∧ Acted x y ∧ exec (.attentionMark t g) s = .next (finish y) ∧
      (flag CLK_GAP_CTL.ATTN_EN s = false ∨ s.pwr.st = .run →
        y.pwr = s.pwr ∧ regGet PWR_STATUS.reg y = regGet PWR_STATUS.reg s) ∧
      (flag CLK_GAP_CTL.ATTN_EN s = true → s.pwr.st ≠ .run →
        ∃ z, y = exitRun 0x09 z ∧ z.pwr = s.pwr ∧ now z = now (elapse t s) ∧ fastContent z = fastContent s ∧
          Regs.wf z = true ∧ fld PWR_STATUS.HOLD_RUN z = 1) := by
  obtain ⟨-, -, -, htmr, -⟩ := hsh
  have hwf := memorySafe_elapse_wf hm t
  have hx := noteMark_seen (k := 3) (cnt := CLK_MARK_CNT.ATTENTION) g (s := elapse t s) (by simpa using htmr) hwf (by decide)
    rfl (by decide)
  generalize hxdef : noteMark 3 CLK_MARK_CNT.ATTENTION (noteGap g (elapse t s)) = x at hx
  have hxpwr : x.pwr = s.pwr := hx.pwr.trans (elapse_pwr t s)
  have hxreg : regGet PWR_STATUS.reg x = regGet PWR_STATUS.reg s := by
    rw [hx.frame.regs.keeps PWR_STATUS.reg (by decide)]
    simp only [regGet, elapse_part, elapse_regs]
  have hpost : Posted x (markEvent 3 ⟨0, 0, false⟩ x) := post_posted _ _ _ _
  generalize hwdef : markEvent 3 ⟨0, 0, false⟩ x = w at hpost
  have hwpwr : w.pwr = s.pwr := hpost.pwr.trans hxpwr
  have hwreg : regGet PWR_STATUS.reg w = regGet PWR_STATUS.reg s := (hpost.regs.keeps _ (by decide)).trans hxreg
  have henter : s.pwr.entering = none := live_entering hl
  have hrun : exec (.attentionMark t g) s = .next (finish (if flag CLK_GAP_CTL.ATTN_EN (elapse t s) then
      (if (elapse t s).pwr.st == .run && (elapse t s).pwr.entering.isNone then w else exitRun 0x09 (setFld PWR_STATUS.HOLD_RUN 1 w))
      else x)) := by
    refine (command_live t _ s hl).trans ?_
    rw [attentionMark, onlyIf, if_pos (by simp [decodes, elapse_tbRuns, htb, hg])]
    dsimp only
    rw [hxdef, hwdef]
  rw [elapse_flag, elapse_pwr, henter] at hrun
  by_cases hen : flag CLK_GAP_CTL.ATTN_EN s = true
  · by_cases hst : s.pwr.st = .run
    · refine ⟨x, w, hx, .of_recorded (.of_posted hpost), ?_, fun _ => ⟨hwpwr, hwreg⟩, fun _ h => absurd hst h⟩
      rw [hrun, if_pos hen, if_pos (by simp [hst])]
    · have hwfw : Regs.wf w = true := hpost.regs.wf (hx.frame.regs_wf hwf)
      have hwclk : w.clk = x.clk := hpost.clk
      have hxz := (Acted.of_recorded (.of_posted hpost)).trans (.setPower PWR_STATUS.HOLD_RUN 1 w rfl)
      have hzpwr : (setFld PWR_STATUS.HOLD_RUN 1 w).pwr = s.pwr := (setFld_pwr _ _ w).trans hwpwr
      have hzclk : (setFld PWR_STATUS.HOLD_RUN 1 w).clk = w.clk := setFld_clk _ _ w
      have hzwf := regs_wf_setFld PWR_STATUS.HOLD_RUN 1 w hwfw
      have hhold := fld_setFld_same PWR_STATUS.HOLD_RUN (by decide) 1 w hwfw
      generalize setFld PWR_STATUS.HOLD_RUN 1 w = z at hrun hxz hzpwr hzclk hzwf hhold
      have hclk := (hzclk.trans hwclk).trans hx.frame.clk
      have hnow : now z = now (elapse t s) := (congrArg (fun c : Clk => c.tb.toNat) hclk :)
      have hfast : fastContent z = fastContent (elapse t s) :=
        (congrArg (fun c : Clk => c.content == .fast38 || c.content == .fast19) hclk :)
      refine ⟨x, exitRun 0x09 z, hx, hxz.trans (.exitRun 0x09 (by rw [hzpwr]; exact henter)), ?_, fun h => ?_,
        fun _ _ => ⟨z, rfl, hzpwr, hnow, hfast.trans (elapse_fastContent t s), hzwf, hhold⟩⟩
      · rw [hrun, if_pos hen, if_neg (by simp [hst])]
      · rcases h with h | h
        · rw [hen] at h
          cases h
        · exact absurd h hst
  · refine ⟨x, x, hx, .of_recorded (.refl x), ?_, fun _ => ⟨hxpwr, hxreg⟩, fun h => absurd h hen⟩
    rw [hrun, if_neg hen]

/-! ## Violations -/

/-- GAP_VIOLATION (R70, R74). -/
theorem gapViolation_noted {g : Gap} {c : GapClass} {cnt : Field} {k : Nat} (hl : live s = true) (hm : memorySafe s)
    (hsh : shaped s) (hr : s.nv.ledgerReady = true) (htb : tbRuns s = true) (hg : gapClass g (elapse t s) = some c)
    (hc : violField c = some (cnt, k)) :
    ∃ s', exec (.gapViolation t g) s = .next s' ∧ fld cnt s' = sat cnt.width (fld cnt s + 1) ∧
      s'.clk = { (elapse t s).clk with
        gapAt := some (nowEighths (elapse t s))
        viols := s.clk.viols.filter (fun v => now (elapse t s) < v + secTicks 1) ++ [now (elapse t s)]
        lastViolRec := s'.clk.lastViolRec } ∧
      recordsOnly [] [cnt.off, TMR_STATUS.reg, TMR_CNT.reg]
        { elapse t s with clk := s'.clk, tmr := { s.tmr with ch := s.tmr.ch.set 31 (chan 31 s') } } s' := by
  obtain ⟨-, -, -, htmr, -⟩ := hsh
  have hwf := memorySafe_elapse_wf hm t
  have hgap := noteGap_seen g (s := elapse t s) (by simpa using htmr)
  have hcnt : cnt.off = CLK_VIOL_CNT.reg ∧ cnt.fits = true := by
    cases c <;> simp [violField] at hc <;> obtain ⟨rfl, -⟩ := hc <;> exact ⟨rfl, by decide⟩
  obtain ⟨hoff, hfit⟩ := hcnt
  let x : State := bump cnt (noteGap g (elapse t s))
  let l : List Nat := s.clk.viols.filter (fun v => now (elapse t s) < v + secTicks 1) ++ [now (elapse t s)]
  have hbase : Recorded [] [cnt.off, TMR_STATUS.reg, TMR_CNT.reg]
      { elapse t s with
        clk := { (elapse t s).clk with gapAt := some (nowEighths (elapse t s)) }, tmr := (noteGap g (elapse t s)).tmr } x :=
    (hgap.frame.mono (fun _ h => h) (by simp)).trans (Recorded.bump cnt _ (by simp))
  have hnow : now x = now (elapse t s) := (congrArg (fun c : Clk => c.tb.toNat) hgap.clk :)
  have hviols : x.clk.viols.filter (fun v => now x < v + secTicks 1) ++ [now x] = l := by
    rw [hnow, show x.clk = (noteGap g (elapse t s)).clk from rfl, hgap.clk]
    show (elapse t s).clk.viols.filter _ ++ _ = _
    rw [elapse_clk_counts]
  have hrx : x.nv.ledgerReady = true := hgap.frame.ledgerReady.trans (by simpa using hr)
  have hnote : ∃ r, Recorded [] [] { x with clk := { x.clk with viols := l, lastViolRec := r } } (noteViol x) := by
    unfold noteViol
    dsimp only
    rw [hviols]
    generalize (decide (l.length ≥ 16) && _) = due
    cases due
    · exact ⟨x.clk.lastViolRec, .refl _⟩
    · exact ⟨some (now x), Recorded.append _ _ _ _ hrx⟩
  obtain ⟨r, hnote⟩ := hnote
  let c0 : Clk := { (elapse t s).clk with gapAt := some (nowEighths (elapse t s)), viols := l, lastViolRec := r }
  let y : State := if flag CLK_GAP_CTL.VIOL_EVT (elapse t s) then
    post 0x07 0 ([byteOf k, byteOf (if gapMalformed g then 0 else gapCycles g)] ++ leBytes 4 (chan 31 (noteViol x)).width)
      (noteViol x) else noteViol x
  have hclkx : ({ x.clk with viols := l, lastViolRec := r } : Clk) = c0 := by
    rw [show x.clk = (noteGap g (elapse t s)).clk from rfl, hgap.clk]
  have hy : Recorded [] [] { x with clk := c0 } y := by
    rw [← hclkx]
    refine hnote.trans ?_
    show Recorded [] [] _ (if _ then _ else _)
    split
    · exact .of_posted (post_posted _ _ _ _)
    · exact .refl _
  have hxc : Recorded [] [cnt.off, TMR_STATUS.reg, TMR_CNT.reg]
      { elapse t s with clk := c0, tmr := (noteGap g (elapse t s)).tmr } { x with clk := c0 } :=
    ⟨(congrArg (fun z : State => { z with clk := c0 }) hbase.blank :),
      ⟨fun off ho => hbase.regs.keeps off ho, fun hw => hbase.regs.wf hw⟩,
      ⟨hbase.host.link, hbase.host.busMaster, hbase.host.flight, hbase.host.enabled, hbase.host.memWf⟩,
      ⟨hbase.array.mem, hbase.array.bad, hbase.array.wf⟩, hbase.hostWait⟩
  have hall := hxc.trans (hy.mono (fun _ h => h) (by simp))
  have hset : settles y (finish y) :=
    finish_settles_recorded (x := { elapse t s with clk := c0, tmr := (noteGap g (elapse t s)).tmr }) hl (congrArg Lgr.hostWait (elapse_lgr t s)) (elapse_fold t s) hall
  have hclk : (finish y).clk = c0 := (settles_clk hset).trans hy.clk
  have htmr' : (finish y).tmr = (noteGap g (elapse t s)).tmr :=
    (settles_tmr hset).trans (congrArg State.tmr hall.blank :)
  have hchan : chan 31 (finish y) = chan 31 (noteGap g (elapse t s)) := by rw [chan, chan, htmr']
  refine ⟨finish y, ?_, ?_, ?_, ?_⟩
  · refine (command_live t _ s hl).trans ?_
    simp only [gapViol, hg, hc, onlyIf, decodes, elapse_tbRuns, htb, if_true]
    rfl
  · refine (settles_fld hset cnt).trans ((hy.fld cnt (by rw [hoff]; decide)).trans ?_)
    have hwfg : Regs.wf (noteGap g (elapse t s)) = true := hgap.frame.regs_wf hwf
    refine (fld_bump_same cnt hfit (noteGap g (elapse t s)) hwfg).trans ?_
    rw [hgap.frame.fld cnt (by rw [hoff]; decide)]
    exact congrArg (fun n => sat cnt.width (n + 1)) (elapse_fld cnt t s)
  · rw [hclk]
  · rw [hclk, hchan, ← elapse_tmr t s, ← hgap.ch]
    exact recordsOnly_settles (hall.recordsOnly rfl rfl rfl) hset

end

/-! ## The statement -/

/-- Settles O47. A mark is seen first, with its gap (`noteMark_seen`); what it does after changes the clocks, the power unit
and the record of the wall clock alone (`Acted`). -/
theorem marksKeepTheWallClock : Obligations.MarksKeepTheWallClock := by
  unfold Obligations.MarksKeepTheWallClock
  intro s t g hl hm hsh hr htb s0
  have hwf : Regs.wf s0 = true := memorySafe_elapse_wf hm t
  refine ⟨fun hg => ?_, fun hg => ⟨fun hn => ?_, fun v hv hle => ?_⟩, fun hg => ?_, fun c cnt k hg hc => ?_⟩
  · obtain ⟨x, y, hx, ha, hd, hpwr, hrun⟩ := secondMark_noted hl hm hsh hr htb hg
    have hset := acted_settles hl hx ha
    refine ⟨_, hrun, ?_, disciplined_clk hx rfl hd hset, ?_⟩
    · exact markNoted_of hx ha hset hwf rfl
    · rw [settles_pwr_st hset, hpwr]
  · obtain ⟨x, y, hx, ha, hd, hrun⟩ := epochMark_plain hl hm hsh hr htb hg hn
    have hset := acted_settles hl hx ha
    refine ⟨_, hrun, ?_, disciplined_clk hx rfl hd hset⟩
    exact markNoted_of hx ha hset hwf rfl
  · obtain ⟨x, y, hx, ha, hclk, hpend, hstale, hread, hrun⟩ := epochMark_sets hl hm hsh hr htb hg hv hle
    have hset := acted_settles hl hx ha
    refine ⟨_, hrun, ?_, (settles_clk hset).trans hclk, (settles_fld hset _).trans hpend, (settles_fld hset _).trans hstale,
      fun hf => ?_⟩
    · exact markNoted_of hx ha hset hwf rfl
    · rw [recRead, recGet, settles_nv hset]
      exact hread hf
  · obtain ⟨x, y, hx, ha, hrun, hstay, hexit⟩ := attentionMark_noted hl hm hsh htb hg
    have hset := acted_settles hl hx ha
    refine ⟨_, hrun, ?_, fun h => ?_, fun hen hst => ?_⟩
    · exact markNoted_of hx ha hset hwf rfl
    · obtain ⟨hpwr, hreg⟩ := hstay h
      refine ⟨?_, ?_, (settles_regGet hset _).trans hreg⟩
      · rw [settles_pwr_st hset, hpwr]
      · rw [settles_pwr_exitArmed hset, hpwr]
    · obtain ⟨z, rfl, hpwr, hnow, hfast, hwfz, hhold⟩ := hexit hen hst
      have he : z.pwr.entering = none := by
        rw [hpwr]
        exact live_entering hl
      refine ⟨?_, fun hout hsrc => ?_, fun hw hf harm => ?_⟩
      · exact (settles_fld hset _).trans ((exitRun_fld 9 PWR_STATUS.HOLD_RUN he hwfz (by decide) (by decide)).trans hhold)
      · have hsrcz : z.pwr.srcAt ≠ some (now z) := by
          rw [hpwr, hnow]
          exact hsrc
        have hrunz : (exitRun 9 z).pwr.st = .run ∧ fld PWR_STATUS.WAKE_SRC (exitRun 9 z) = 9 := by
          rcases hp : s.pwr.st with _ | _ | _ | _ | _
          · exact absurd hp hst
          · rw [exitRun_shallow he (.inl (by rw [hpwr]; exact hp)) (by decide) hsrcz]
            exact ⟨rfl, (woken_fields (by decide) hwfz).1⟩
          · rw [exitRun_shallow he (.inr (by rw [hpwr]; exact hp)) (by decide) hsrcz]
            exact ⟨rfl, (woken_fields (by decide) hwfz).1⟩
          · rw [exitRun_watch_fast he (by rw [hpwr]; exact hp) (by decide) hsrcz (hfast.trans (hout.resolve_left (absurd hp)))]
            exact ⟨rfl, (woken_fields (by decide) hwfz).1⟩
          · simp [tbRuns, hp] at htb
        exact ⟨(settles_pwr_st hset).trans hrunz.1, (settles_fld hset _).trans hrunz.2⟩
      · have harmed := exitRun_watch_armed (k := 9) he (by rw [hpwr]; exact hw) (hfast.trans hf) (by rw [hpwr]; exact harm)
        rw [settles_pwr_st hset, settles_pwr_exitArmed hset, harmed]
        exact ⟨by rw [hpwr]; exact hw, rfl⟩
  · exact gapViolation_noted hl hm hsh hr htb hg hc

end Sys2Proof.Machine
end

section
/-! SUPPORT. Timer channels: the pads and TIMER_CFG. -/
namespace Sys2Proof.Machine

section
variable {s : State} {t : Nat} {d : Desc}

/-! ## Packed bits -/

theorem packBits_lt (n : Nat) (f : Nat → Bool) : packBits n f < 2 ^ n := by
  unfold packBits
  induction n with
  | zero => simp
  | succ n ih =>
    rw [List.range_succ, List.foldl_append]
    have hb : b2n (f n) ≤ 1 := by cases f n <;> decide
    have hm : 2 ^ n * b2n (f n) ≤ 2 ^ n := by simpa using Nat.mul_le_mul_left (2 ^ n) hb
    show _ + 2 ^ n * b2n (f n) < 2 ^ (n + 1)
    rw [Nat.pow_succ]
    omega

/-- Each bit is the one packed. -/
theorem packBits_testBit (n i : Nat) (f : Nat → Bool) (hi : i < n) : (packBits n f).testBit i = f i := by
  induction n with
  | zero => omega
  | succ n ih =>
    have hstep : packBits (n + 1) f = 2 ^ n * b2n (f n) + packBits n f := by
      unfold packBits
      rw [List.range_succ, List.foldl_append, Nat.add_comm]
      rfl
    rw [hstep, Nat.testBit_two_pow_mul_add _ (packBits_lt n f)]
    by_cases h : i < n
    · rw [if_pos h, ih h]
    · obtain rfl : i = n := by omega
      rw [if_neg h, Nat.sub_self]
      cases f i <;> rfl

/-! ## The pads -/

/-- The GPIO pads show what their functions drive; the WAKE pins are as before. -/
def padsFollow (s s' : State) : Prop :=
  s'.pins.wake = s.pins.wake ∧ ∀ g < 24, s'.pins.gpio.getLsbD g = pinLevel g { s' with pins := s.pins }

/-- What a pin shows hangs on its function, the channels, the pulses and the pads before. -/
theorem pinLevel_congr {a b : State} {g : Nat} (hreg : regGet (TMR_PINFn.FUNC (g / 4) (g % 4)).off a =
    regGet (TMR_PINFn.FUNC (g / 4) (g % 4)).off b) (hch : a.tmr.ch = b.tmr.ch) (hpulse : a.tmr.pulses = b.tmr.pulses)
    (hpins : a.pins = b.pins) : pinLevel g a = pinLevel g b := by
  have hf : pinFunc g a = pinFunc g b := congrArg (TMR_PINFn.FUNC (g / 4) (g % 4)).of hreg
  have hc : pinCh g a = pinCh g b := congrArg (TMR_PINFn.CH (g / 4) (g % 4)).of hreg
  simp only [pinLevel, hf, hc, chan, hch, hpulse, hpins]

/-- The registers of the pin functions are none of those that count. -/
theorem pinFunc_apart : ∀ g < 24, (TMR_PINFn.FUNC (g / 4) (g % 4)).off ∉ recordRegs ++ [TMR_STATUS.reg, TMR_CNT.reg] := by
  decide

/-- The pads after they are brought in line. -/
theorem drivePins_gpio (x : State) : ∀ g < 24, (drivePins x).pins.gpio.getLsbD g = pinLevel g x := by
  intro g hg
  show (BitVec.ofNat 24 (packBits 24 fun g => pinLevel g x)).getLsbD g = _
  rw [BitVec.getLsbD_ofNat, packBits_testBit 24 g _ hg]
  simp [hg]

/-- Which is how a command that records and counts after it leaves them. -/
theorem padsFollow_of {x y s' : State} {offs : List Nat} (h : Recorded [] offs (drivePins x) y) (hset : settles y s')
    (ho : offs ⊆ [TMR_STATUS.reg, TMR_CNT.reg]) (hpins : x.pins = s.pins) : padsFollow s s' := by
  have hy : y.pins = (drivePins x).pins := (congrArg State.pins h.blank :)
  have hty : y.tmr = x.tmr := (congrArg State.tmr h.blank :)
  refine ⟨?_, fun g hg => ?_⟩
  · rw [settles_pins_wake hset, hy, ← hpins]
    rfl
  · rw [settles_pins_gpio hset, hy, drivePins_gpio x g hg]
    refine pinLevel_congr ?_ ?_ ?_ hpins
    · have h1 := (h.mono (fun _ hx => hx) ho).regs.keeps _ (pinFunc_apart g hg)
      exact (h1.symm.trans (settles_regGet hset _).symm)
    · show x.tmr.ch = s'.tmr.ch
      rw [settles_tmr hset, hty]
    · show x.tmr.pulses = s'.tmr.pulses
      rw [settles_tmr hset, hty]

/-! ## The clocks at another tick -/

/-- What time makes of the clocks hangs on them and on the power unit. -/
theorem elapse_clk_congr {a b : State} (hc : a.clk = b.clk) (hp : a.pwr = b.pwr) (t : Nat) :
    (elapse t a).clk = (elapse t b).clk := by
  have hnow : now a = now b := by rw [now, now, hc]
  have htb : tbRuns a = tbRuns b := by simp only [tbRuns, hc, hp]
  have hco : coarse a = coarse b := by simp only [coarse, hp]
  have hpass : ∀ n, (passTicks n a).clk = (passTicks n b).clk := by
    intro n
    simp only [passTicks, hc]
  unfold elapse
  rw [hnow, htb, hc, hco]
  split
  · exact hc
  · split
    · simp only [hpass]
    · exact hpass _
    · exact hpass _

/-- So does the tick of the next match. -/
theorem nextMatch_congr {a b : State} (c : Nat) (hc : a.clk = b.clk) (hp : a.pwr = b.pwr) :
    nextMatch c a = nextMatch c b := by
  have hnow : now a = now b := by rw [now, now, hc]
  have htb : tbRuns a = tbRuns b := by simp only [tbRuns, hc, hp]
  have hel : ∀ t, now (elapse t a) = now (elapse t b) := fun t => by rw [now, now, elapse_clk_congr hc hp]
  simp only [nextMatch, hnow, htb, hel]

/-! ## TIMER_CFG -/

/-- The channel's new state with its pads and what a late arming shows. -/
def cfgDone (d : Desc) (x : State) : State :=
  let c := configured d (now x) (chan d.target x)
  let y := drivePins (setChan d.target c x)
  if c.late then setFld TMR_STATUS.LATE_SEEN 1 y else y

theorem cfgDone_frame (d : Desc) (x : State) : cfgDone d x = { x with
    regs := (cfgDone d x).regs
    tmr := { x.tmr with ch := x.tmr.ch.set d.target (configured d (now x) (chan d.target x)) }
    pins := { x.pins with gpio := (cfgDone d x).pins.gpio } } := by
  have hset : ∀ (f : Field) (v : Nat) (z : State), setFld f v z = { z with regs := (setFld f v z).regs } := fun _ _ _ => rfl
  unfold cfgDone
  dsimp only
  split
  · rw [hset]
    rfl
  · rfl

/-- Only TMR_STATUS differs of the registers, and only for a late arming. -/
theorem cfgDone_regs (d : Desc) {x : State} (hwf : Regs.wf x = true) :
    RegsKept [TMR_STATUS.reg] x (cfgDone d x) ∧
      ((configured d (now x) (chan d.target x)).late = true → fld TMR_STATUS.LATE_SEEN (cfgDone d x) = 1) ∧
      ((configured d (now x) (chan d.target x)).late = false → (cfgDone d x).regs = x.regs) := by
  let y : State := drivePins (setChan d.target (configured d (now x) (chan d.target x)) x)
  have hy : RegsKept [TMR_STATUS.reg] x y := .of_eq _ rfl rfl
  cases hlate : (configured d (now x) (chan d.target x)).late
  · have hdone : cfgDone d x = y := by rw [cfgDone, if_neg (by rw [hlate]; decide)]
    rw [hdone]
    exact ⟨hy, fun h => (Bool.false_ne_true h).elim, fun _ => rfl⟩
  · have hdone : cfgDone d x = setFld TMR_STATUS.LATE_SEEN 1 y := by rw [cfgDone, if_pos (by rw [hlate])]
    rw [hdone]
    exact ⟨hy.trans (.setFld _ _ _ (by decide)), fun _ => fld_setFld_same TMR_STATUS.LATE_SEEN (by decide) 1 y hwf,
      fun h => (Bool.false_ne_true h.symm).elim⟩

/-- TIMER_CFG (R400, R401). -/
theorem timerCfg_configures (hs : serves t d s) (hrow : isRow 0x60 d = true)
    (hres : cfgReserved d.target s = false) (hpar : cfgParBad d = none) :
    let x := elapse t s
    let c := configured d (now x) (chan d.target s)
    ∃ s', exec (.timerCfg t d) s = .next s' ∧
      answers d stOk (leBytes 4 (now x) ++ [byteOf (b2n c.late + 2 * b2n c.out), byteOf (chan d.target s).mode, 0, 0]
        ++ leBytes 4 (if c.mode ≥ 2 then nextMatch c.c x else 0)) 0 (cfgDone d x) s' := by
  intro x c
  obtain ⟨fl, tn, hans, hrun⟩ := served_working hs
  have hchan : chan d.target (working fl tn x) = chan d.target s := by
    show x.tmr.ch.getD _ _ = _
    rw [show x.tmr = s.tmr from elapse_tmr t s]
    rfl
  have hchanx : chan d.target x = chan d.target s := hchan
  have hdone : cfgDone d (working fl tn x) = working fl tn (cfgDone d x) := by
    have hdrive : ∀ z : State, drivePins (working fl tn z) = working fl tn (drivePins z) := fun z => rfl
    unfold cfgDone
    dsimp only
    rw [hchan, hchanx, show setChan d.target (configured d (now (working fl tn x)) (chan d.target s)) (working fl tn x) =
      working fl tn (setChan d.target (configured d (now x) (chan d.target s)) x) from rfl, hdrive]
    show (if (configured d (now x) (chan d.target s)).late then _ else _) = _
    split
    · exact setFld_working _ _ _ _ _
    · rfl
  have hans1 : Answerable d (working fl tn (cfgDone d x)) := by
    rw [cfgDone_frame]
    exact ⟨hans.heard, hans.mem, hans.hostWait, hans.wait, hans.queue⟩
  have hres' : cfgReserved d.target (working fl tn x) = false := by
    rw [← hres]
    simp only [cfgReserved, startEn, flag]
    rw [show fld FLK_START_CTL.EN (working fl tn x) = fld FLK_START_CTL.EN s from elapse_fld FLK_START_CTL.EN t s]
  refine ⟨_, ?_, answers_of_working (fl := fl) (tn := tn) (hans1.quiet (quietStatus_ok _))⟩
  show descCommand t (asOp 0x60 d) cfgUnit s = _
  rw [asOp_self hrow, hrun cfgUnit, cfgUnit, if_neg (by rw [hres']; decide), hpar]
  have hnext : ∀ k, nextMatch k (cfgDone d (working fl tn x)) = nextMatch k x := fun k =>
    nextMatch_congr k (by rw [hdone, cfgDone_frame]; rfl) (by rw [hdone, cfgDone_frame]; rfl)
  show Host.Outcome.next (finish (complete d stOk (leBytes 4 (now (working fl tn x)) ++
    [byteOf (b2n (configured d (now (working fl tn x)) (chan d.target (working fl tn x))).late +
      2 * b2n (configured d (now (working fl tn x)) (chan d.target (working fl tn x))).out),
      byteOf (chan d.target (working fl tn x)).mode, 0, 0] ++
    leBytes 4 (if (configured d (now (working fl tn x)) (chan d.target (working fl tn x))).mode ≥ 2 then
      nextMatch (configured d (now (working fl tn x)) (chan d.target (working fl tn x))).c (cfgDone d (working fl tn x)) else 0)) 0
    (cfgDone d (working fl tn x)))) = _
  rw [hnext, hchan, hdone]
  rfl

end

end Sys2Proof.Machine
end

section
/-! SUPPORT. Timer channels: reads, matches, overflows, captures and pulses. -/
namespace Sys2Proof.Machine

section
variable {s : State} {t : Nat} {d : Desc}

/-! ## TIMER_CFG turned away, and TIMER_READ -/

/-- The pads after a TIMER_CFG. -/
theorem cfgDone_pads (d : Desc) (t : Nat) (s : State) : padsFollow s (cfgDone d (elapse t s)) := by
  let z : State := setChan d.target (configured d (now (elapse t s)) (chan d.target (elapse t s))) (elapse t s)
  have hrec : Recorded [] [TMR_STATUS.reg] (drivePins z) (cfgDone d (elapse t s)) := by
    unfold cfgDone
    dsimp only
    split
    · exact Recorded.setFld _ _ _ (by decide)
    · exact Recorded.refl _
  exact padsFollow_of (x := z) hrec (rfl : settles _ _) (by simp) (elapse_pins t s)

/-- A TIMER_CFG that is refused (R400). -/
theorem timerCfg_refused {st det : Nat} (hs : serves t d s) (hrow : isRow 0x60 d = true)
    (hf : cfgReserved d.target s = true ∧ st = stBadHandle ∧ det = 4 ∨
      cfgReserved d.target s = false ∧ ∃ i, cfgParBad d = some i ∧ st = stBadLen ∧ det = 32 + i) :
    ∃ s', exec (.timerCfg t d) s = .next s' ∧ turnedAway d st det (elapse t s) s' := by
  obtain ⟨fl, tn, hans, hrun⟩ := served_working hs
  let x := elapse t s
  have hres : cfgReserved d.target (working fl tn x) = cfgReserved d.target s := by
    simp only [cfgReserved, startEn, flag]
    rw [show fld FLK_START_CTL.EN (working fl tn x) = fld FLK_START_CTL.EN s from elapse_fld FLK_START_CTL.EN t s]
  have hst : 1 ≤ st ∧ st ≤ 6 := by
    rcases hf with ⟨-, rfl, -⟩ | ⟨-, i, -, rfl, -⟩ <;> decide
  have hviol : isHostViol st d.opcode = false := by
    rw [opcode_of_isRow hrow]
    rcases hf with ⟨-, rfl, -⟩ | ⟨-, i, -, rfl, -⟩ <;> decide
  refine ⟨_, ?_, turnedAway_of_fail (st := st) (det := det) (y := x) hans hst hviol (memorySafe_elapse_wf hs.2.1 t) rfl⟩
  show descCommand t (asOp 0x60 d) cfgUnit s = _
  rw [asOp_self hrow, hrun cfgUnit, cfgUnit, hres]
  rcases hf with ⟨hr, rfl, rfl⟩ | ⟨hr, i, hp, rfl, rfl⟩
  · rw [if_pos hr]
    rfl
  · rw [if_neg (by rw [hr]; decide), hp]
    rfl

/-- The channel once its record has been read (R397). -/
def readOut (c : Channel) : Channel := { c with fresh := false, overrun := false, caps := 0, missed := 0 }

/-- A channel is set beside host memory. -/
theorem setChan_dmaWrite (n : Nat) (c : Channel) (d : Desc) (a : Nat) (bs : Bytes) (x : State) :
    setChan n c (dmaWrite d a bs x) = dmaWrite d a bs (setChan n c x) := by
  unfold dmaWrite
  split <;> rfl

theorem now_dmaWrite (d : Desc) (a : Nat) (bs : Bytes) (x : State) : now (dmaWrite d a bs x) = now x := by
  unfold dmaWrite
  split <;> rfl

theorem setChan_working (n : Nat) (c : Channel) (fl : List Flight) (tn : Nat) (x : State) :
    setChan n c (working fl tn x) = working fl tn (setChan n c x) := rfl

theorem chan_working (n : Nat) (fl : List Flight) (tn : Nat) (x : State) : chan n (working fl tn x) = chan n x := rfl

theorem now_working (fl : List Flight) (tn : Nat) (x : State) : now (working fl tn x) = now x := rfl

/-- TIMER_READ (R397, R402). -/
theorem timerRead_reads (hs : serves t d s) (hrow : isRow 0x61 d = true) (hp : parNonzero 0 24 d = none)
    (hdma : dmaBlocked d d.dstAddr 32 s = false) :
    let c := chan d.target s
    ∃ s', exec (.timerRead t d) s = .next s' ∧
      answers d stOk (leBytes 8 (now (elapse t s)) ++ [byteOf (chanFlags c), byteOf c.mode]) 0
        (dmaWrite d d.dstAddr (chanRecord c) (setChan d.target (readOut c) (elapse t s))) s' := by
  intro c
  obtain ⟨fl, tn, hans, hrun⟩ := served_working hs
  let x : State := setChan d.target (readOut c) (elapse t s)
  have hchan : chan d.target (working fl tn (elapse t s)) = c := by
    rw [chan_working, chan, elapse_tmr]
    rfl
  have hans1 : Answerable d (working fl tn (setChan d.target (readOut c) (elapse t s))) :=
    ⟨hans.heard, hans.mem, hans.hostWait, hans.wait, hans.queue⟩
  have hlen : (chanRecord c).length = 32 := by simp [chanRecord, leBytes_length]
  have hblk : dmaBlocked d d.dstAddr (chanRecord c).length (working fl tn (elapse t s)) = false := by
    rw [hlen]
    exact (elapse_dmaBlocked d d.dstAddr 32 t s).trans hdma
  refine ⟨_, ?_, answers_atDst hans1 (by rw [opcode_of_isRow hrow]; decide)⟩
  have hunit : readUnit d (working fl tn (elapse t s)) =
      complete d stOk (leBytes 8 (now (elapse t s)) ++ [byteOf (chanFlags c), byteOf c.mode]) 0
        (dmaWrite d d.dstAddr (chanRecord c) (working fl tn (setChan d.target (readOut c) (elapse t s)))) := by
    rw [readUnit, reserved_free hp]
    dsimp only
    rw [hchan, writeDst_ok _ hblk, now_dmaWrite, now_working, ← setChan_working, ← setChan_dmaWrite]
    rfl
  show descCommand t (asOp 0x61 d) readUnit s = _
  rw [asOp_self hrow, hrun readUnit, hunit]

/-! ## What the channels do at a tick -/

/-- The channel `n` becomes `c1`, with records, events and counts (R393, R396). -/
def channelBecomes (s s0 : State) (n : Nat) (c1 : Channel) (offs : List Nat) (s' : State) : Prop :=
  recordsOnly [] offs
    { s0 with
      tmr := { s.tmr with ch := s.tmr.ch.set n c1 }, pins := { s.pins with gpio := s'.pins.gpio, wake := s'.pins.wake } } s'

/-- What the end of a command makes of it. -/
theorem channelBecomes_of {n : Nat} {c1 : Channel} {offs : List Nat} {x y : State} (hl : live s = true)
    (hx : x = { elapse t s with
      tmr := { s.tmr with ch := s.tmr.ch.set n c1 }, pins := { s.pins with gpio := x.pins.gpio, wake := x.pins.wake } })
    (h : Recorded [] offs x y) :
    settles y (finish y) ∧ channelBecomes s (elapse t s) n c1 offs (finish y) := by
  have hset : settles y (finish y) := by
    refine finish_settles_recorded (x := x) hl ?_ ?_ h
    · rw [hx]
      exact congrArg Lgr.hostWait (elapse_lgr t s)
    · rw [hx]
      exact elapse_fold t s
  have hpins : y.pins = x.pins := (congrArg State.pins h.blank :)
  refine ⟨hset, ?_⟩
  rw [channelBecomes, settles_pins_gpio hset, settles_pins_wake hset, hpins, ← hx]
  exact recordsOnly_settles (h.recordsOnly rfl rfl rfl) hset

/-- The condition of a match holds at the tick (R391). -/
def matchDue (s : State) (t n : Nat) : Prop :=
  n < 32 ∧ (chan n s).armed = true ∧ fires (now (elapse t s)) (chan n s).c = true ∧
    ((n = 29 ∨ n = 30) → startEn s = false) ∧ tbRuns s = true

theorem elapse_chan (n t : Nat) (s : State) : chan n (elapse t s) = chan n s := by rw [chan, chan, elapse_tmr]

theorem elapse_startEn (t : Nat) (s : State) : startEn (elapse t s) = startEn s := elapse_flag _ t s

/-- A match that is due runs, after an overflow that is due too. -/
theorem compareMatch_runs {n : Nat} {credit : Bool} (hl : live s = true) (h : matchDue s t n) (hmode : 2 ≤ (chan n s).mode) :
    exec (.timerCompareMatch t n credit) s =
      .next (finish (matchAt n credit (onlyIf (overflowDue (elapse t s)) (runOverflow credit) (elapse t s)))) := by
  obtain ⟨hn, harm, hfire, hstart, htb⟩ := h
  refine (command_live t _ s hl).trans ?_
  have hcond : (n < 32 && (chan n (elapse t s)).mode ≥ 2 && (chan n (elapse t s)).armed &&
      fires (now (elapse t s)) (chan n (elapse t s)).c && !((n == 29 || n == 30) && startEn (elapse t s)) &&
      tbRuns (elapse t s)) = true := by
    rw [elapse_chan, elapse_startEn, elapse_tbRuns]
    have h2930 : (!((n == 29 || n == 30) && startEn s)) = true := by
      cases hen : startEn s
      · simp
      · have : ¬ (n = 29 ∨ n = 30) := fun hc => Bool.false_ne_true ((hstart hc).symm.trans hen)
        simpa using this
    simp [hn, hmode, harm, hfire, htb, h2930]
  dsimp only
  rw [hcond]
  rfl

/-- What a match leaves beside the channel's new state and its pads (R393, R399). -/
theorem matchAt_recorded (n : Nat) (credit : Bool) (x : State) :
    let r := matched (now x) credit (chan n x)
    Recorded [] [TMR_STATUS.reg, TMR_CNT.reg] (drivePins (setChan n r.1 x)) (matchAt n credit x) ∧
      (r.2 = 0 → Recorded [] [] (drivePins (setChan n r.1 x)) (matchAt n credit x)) ∧
      (0 < r.2 → Regs.wf x = true → fld TMR_STATUS.MISS_SEEN (matchAt n credit x) = 1 ∧
        fld TMR_CNT.MISSED (matchAt n credit x) = sat TMR_CNT.MISSED.width (fld TMR_CNT.MISSED x + r.2)) := by
  intro r
  let y : State := drivePins (setChan n r.1 x)
  let z : State := if r.2 > 0 then setFld TMR_STATUS.MISS_SEEN 1 (addFld TMR_CNT.MISSED r.2 y) else y
  have hpost : Posted z (matchAt n credit x) := by
    show Posted z (if _ then _ else _)
    split
    · exact post_posted _ _ _ _
    · exact .refl _
  refine ⟨?_, fun h0 => ?_, fun hpos hwf => ?_⟩
  · refine Recorded.trans (b := z) ?_ (.of_posted hpost)
    show Recorded _ _ y (if _ then _ else _)
    split
    · exact (Recorded.setFld _ _ _ (by decide)).trans (.setFld _ _ _ (by decide))
    · exact .refl _
  · have hz : z = y := if_neg (by omega)
    rw [hz] at hpost
    exact .of_posted hpost
  · have hz : z = setFld TMR_STATUS.MISS_SEEN 1 (addFld TMR_CNT.MISSED r.2 y) := if_pos hpos
    have hwfy : Regs.wf y = true := hwf
    have hwfa : Regs.wf (addFld TMR_CNT.MISSED r.2 y) = true := regs_wf_setFld _ _ _ hwfy
    rw [hz] at hpost
    refine ⟨(hpost.regs.fld _ (by decide)).trans (fld_setFld_same TMR_STATUS.MISS_SEEN (by decide) 1 _ hwfa), ?_⟩
    refine (hpost.regs.fld _ (by decide)).trans
      ((fld_setFld_apart TMR_STATUS.MISS_SEEN TMR_CNT.MISSED (by decide) (by decide) 1 _ hwfa).trans ?_)
    refine (fld_setFld_same TMR_CNT.MISSED (by decide) _ y hwfy).trans (Nat.mod_eq_of_lt ?_)
    have : 0 < 2 ^ TMR_CNT.MISSED.width := by positivity
    unfold sat
    omega

/-- A match without an overflow of its tick (R393). -/
theorem compareMatch_matches {n : Nat} {credit : Bool} (hl : live s = true) (hm : memorySafe s) (h : matchDue s t n)
    (hmode : 2 ≤ (chan n s).mode) (hover : overflowDue (elapse t s) = false) :
    let r := matched (now (elapse t s)) credit (chan n s)
    ∃ s', exec (.timerCompareMatch t n credit) s = .next s' ∧ padsFollow s s' ∧
      channelBecomes s (elapse t s) n r.1 [TMR_STATUS.reg, TMR_CNT.reg] s' ∧
      (r.2 = 0 → channelBecomes s (elapse t s) n r.1 [] s') ∧
      (0 < r.2 → fld TMR_STATUS.MISS_SEEN s' = 1 ∧
        fld TMR_CNT.MISSED s' = sat TMR_CNT.MISSED.width (fld TMR_CNT.MISSED s + r.2)) := by
  intro r
  have hrun := compareMatch_runs (credit := credit) hl h hmode
  rw [hover, onlyIf, if_neg (by decide)] at hrun
  obtain ⟨hrec, hquiet, hmiss⟩ := matchAt_recorded n credit (elapse t s)
  rw [elapse_chan] at hrec hquiet hmiss
  let x : State := drivePins (setChan n r.1 (elapse t s))
  have hx : x = { elapse t s with
      tmr := { s.tmr with ch := s.tmr.ch.set n r.1 }, pins := { s.pins with gpio := x.pins.gpio, wake := x.pins.wake } } := by
    rw [← elapse_tmr t s, ← elapse_pins t s]
    rfl
  obtain ⟨hset, hbecomes⟩ := channelBecomes_of hl hx hrec
  refine ⟨_, hrun, padsFollow_of hrec hset (fun _ h => h) (elapse_pins t s), hbecomes,
    fun h0 => (channelBecomes_of hl hx (hquiet h0)).2, fun hpos => ?_⟩
  obtain ⟨h1, h2⟩ := hmiss hpos (memorySafe_elapse_wf hm t)
  rw [settles_fld hset, settles_fld hset]
  exact ⟨h1, by rw [h2, elapse_fld]⟩

end

end Sys2Proof.Machine
end

section
/-! SUPPORT. Timer channels: overflows, captures, pulses and the statement. -/
namespace Sys2Proof.Machine

section
variable {s : State} {t : Nat}

/-! ## The overflow of the channels -/

/-- The channel after an overflow of TIMEBASE[31:0] (R394). -/
def overflowed (start : Bool) (k : Nat) (c : Channel) : Channel :=
  if c.mode = 0 ∨ k ≥ 31 ∨ ((k = 29 ∨ k = 30) ∧ start = true) then c else { c with out := actOut (c.act / 4 % 4) c.out }

/-- `z` is `x` after the overflow of its first `m` channels. -/
structure OverflowRun (m : Nat) (x z : State) : Prop where
  frame : Recorded [] [] { x with tmr := z.tmr } z
  len : z.tmr.ch.length = 32
  wraps : z.tmr.wraps = x.tmr.wraps
  pulses : z.tmr.pulses = x.tmr.pulses
  chan_ : ∀ k, chan k z = if k < m then overflowed (startEn x) k (chan k x) else chan k x

theorem OverflowRun.step {m : Nat} {x z : State} (credit : Bool) (hm : m < 32) (h : OverflowRun m x z) :
    OverflowRun (m + 1) x (overflowAt credit m z) := by
  have hstart : startEn z = startEn x := by
    have h1 : fld FLK_START_CTL.EN z = fld FLK_START_CTL.EN x := h.frame.fld FLK_START_CTL.EN (by decide)
    rw [startEn, startEn, flag, flag, h1]
  have hc : chan m z = chan m x := by rw [h.chan_ m, if_neg (Nat.lt_irrefl m)]
  let c1 := overflowed (startEn x) m (chan m x)
  have hset : ∀ w : State, Posted (setChan m c1 z) w → OverflowRun (m + 1) x w := by
    intro w hw
    have hwt : w.tmr = { z.tmr with ch := z.tmr.ch.set m c1 } := (congrArg State.tmr hw.blank :)
    have hpins : z.pins = x.pins := (congrArg State.pins h.frame.blank :)
    refine ⟨?_, by rw [hwt]; simp [h.len], by rw [hwt]; exact h.wraps, by rw [hwt]; exact h.pulses, fun k => ?_⟩
    · have h1 := (h.frame.withTmr { z.tmr with ch := z.tmr.ch.set m c1 } x.pins)
      rw [← hpins] at h1
      rw [hwt]
      refine Recorded.trans ?_ (.of_posted hw)
      have hbase : ({ x with tmr := { z.tmr with ch := z.tmr.ch.set m c1 } } : State) =
          { x with tmr := { z.tmr with ch := z.tmr.ch.set m c1 }, pins := z.pins } := by rw [hpins]
      rw [hbase]
      exact h1
    · have hw' : chan k w = chan k (setChan m c1 z) := by rw [chan, hwt]; rfl
      rw [hw', chan_setChan m k c1 z (by rw [h.len]; exact hm), h.chan_ k]
      by_cases hk : k = m
      · subst hk
        rw [if_pos rfl, if_pos (by omega)]
      · rw [if_neg hk]
        by_cases hlt : k < m
        · rw [if_pos hlt, if_pos (by omega)]
        · rw [if_neg hlt, if_neg (by omega)]
  unfold overflowAt
  dsimp only
  rw [hc, hstart]
  split
  · next hcond =>
    have hsame : setChan m c1 z = z := by
      have hc1 : c1 = chan m x := if_pos hcond
      have hself : z.tmr.ch.set m (chan m x) = z.tmr.ch := by
        rw [← hc]
        have hm' : m < z.tmr.ch.length := by rw [h.len]; exact hm
        rw [chan, List.getD_eq_getElem _ _ hm', List.set_getElem_self]
      rw [hc1, setChan, hself]
    exact hset z (by rw [hsame]; exact .refl z)
  · next hcond =>
    have hc1 : c1 = { chan m x with out := actOut ((chan m x).act / 4 % 4) (chan m x).out } := if_neg hcond
    rw [← hc1]
    split
    · exact hset _ (post_posted _ _ _ _)
    · exact hset _ (.refl _)

/-- The channels after the overflow of all. -/
theorem overflowRun_all (credit : Bool) {x : State} (hlen : x.tmr.ch.length = 32) :
    OverflowRun 32 x ((List.range 32).foldl (fun s n => overflowAt credit n s) x) := by
  have h : ∀ m, m ≤ 32 → OverflowRun m x ((List.range m).foldl (fun s n => overflowAt credit n s) x) := by
    intro m
    induction m with
    | zero => exact fun _ => ⟨.refl _, hlen, rfl, rfl, fun k => by simp⟩
    | succ m ih =>
      intro hm
      rw [List.range_succ, List.foldl_append]
      exact (ih (by omega)).step credit (by omega)
  exact h 32 (Nat.le_refl 32)

/-- The overflow of a tick (R394): the channels, the pads and the count of the overflows. -/
theorem runOverflow_runs (credit : Bool) {x : State} (hlen : x.tmr.ch.length = 32) :
    ∃ z, runOverflow credit x = drivePins z ∧ z.pins = x.pins ∧
      Recorded [] [] { x with tmr := z.tmr, pins := (drivePins z).pins } (drivePins z) ∧
      z.tmr.wraps = now x / 2 ^ 32 ∧ z.tmr.ch.length = 32 ∧
      ∀ k, chan k z = if k < 32 then overflowed (startEn x) k (chan k x) else chan k x := by
  let x1 : State := { x with tmr := { x.tmr with wraps := now x / 2 ^ 32 } }
  have h := overflowRun_all credit (x := x1) hlen
  generalize hz : (List.range 32).foldl (fun s n => overflowAt credit n s) x1 = z at h
  have hrun : runOverflow credit x = drivePins z := by rw [← hz]; rfl
  exact ⟨z, hrun, (congrArg State.pins h.frame.blank :), h.frame.withTmr z.tmr (drivePins z).pins, h.wraps, h.len,
    fun k => h.chan_ k⟩

/-- TIMER_OVERFLOW (R394). -/
theorem timerOverflow_overflows (credit : Bool) (hl : live s = true) (hsh : shaped s)
    (hw : s.tmr.wraps < now (elapse t s) / 2 ^ 32) :
    ∃ s', exec (.timerOverflow t credit) s = .next s' ∧ padsFollow s s' ∧ s'.tmr.wraps = now (elapse t s) / 2 ^ 32 ∧
      (∀ k < 32, chan k s' = overflowed (startEn s) k (chan k s)) ∧
      recordsOnly [] [] { elapse t s with tmr := s'.tmr, pins := { s.pins with gpio := s'.pins.gpio } } s' := by
  obtain ⟨-, -, -, htmr, -⟩ := hsh
  obtain ⟨z, hrun, hpins, hrec, hwraps, -, hchan⟩ := runOverflow_runs credit (x := elapse t s) (by rw [elapse_tmr]; exact htmr)
  have hset : settles (drivePins z) (finish (drivePins z)) :=
    finish_settles_recorded (x := { elapse t s with tmr := z.tmr, pins := (drivePins z).pins }) hl
      (congrArg Lgr.hostWait (elapse_lgr t s)) (elapse_fold t s) hrec
  have hzt : (finish (drivePins z)).tmr = z.tmr := (settles_tmr hset).trans rfl
  refine ⟨finish (drivePins z), (command_live t _ s hl).trans ?_, ?_, ?_, fun k hk => ?_, ?_⟩
  · have hdue : overflowDue (elapse t s) = true := by simpa [overflowDue, elapse_tmr] using hw
    rw [onlyIf, if_pos hdue, hrun]
  · exact padsFollow_of (Recorded.refl (cells := []) (offs := []) _) hset (by simp) (hpins.trans (elapse_pins t s))
  · rw [hzt, hwraps]
  · rw [chan, hzt]
    refine (hchan k).trans ?_
    rw [if_pos hk, elapse_chan, elapse_startEn]
  · have hgpio : (finish (drivePins z)).pins.gpio = (drivePins z).pins.gpio := settles_pins_gpio hset
    have hbase : ({ elapse t s with
        tmr := (finish (drivePins z)).tmr, pins := { s.pins with gpio := (finish (drivePins z)).pins.gpio } } : State) =
        { elapse t s with tmr := z.tmr, pins := (drivePins z).pins } := by
      rw [hzt, hgpio, ← elapse_pins t s, ← hpins]
      rfl
    rw [hbase]
    exact recordsOnly_settles (hrec.recordsOnly rfl rfl rfl) hset

/-- A match with an overflow of its tick (R395): the overflow goes first. -/
theorem compareMatch_overflows {n : Nat} {credit : Bool} (hl : live s = true) (hsh : shaped s) (h : matchDue s t n)
    (hn : n < 29) (hmode : (chan n s).mode = 2) (hover : overflowDue (elapse t s) = true) :
    ∃ s', exec (.timerCompareMatch t n credit) s = .next s' ∧ s'.tmr.wraps = now (elapse t s) / 2 ^ 32 ∧
      (chan n s').armed = false ∧
      (chan n s').out = actOut ((chan n s).act % 4) (actOut ((chan n s).act / 4 % 4) (chan n s).out) := by
  have hrun := compareMatch_runs (credit := credit) hl h (by omega)
  rw [hover, onlyIf, if_pos rfl] at hrun
  obtain ⟨-, -, -, htmr, -⟩ := hsh
  obtain ⟨z, hover', -, hrec, hwraps, hlen, hchan⟩ :=
    runOverflow_runs credit (x := elapse t s) (by rw [elapse_tmr]; exact htmr)
  rw [hover'] at hrun
  have hc : chan n (drivePins z) = { chan n s with out := actOut ((chan n s).act / 4 % 4) (chan n s).out } := by
    refine (hchan n).trans ?_
    rw [if_pos (by omega), elapse_chan, overflowed, if_neg (by omega)]
  obtain ⟨hmatch, -, -⟩ := matchAt_recorded n credit (drivePins z)
  rw [hc] at hmatch
  generalize hr : matched (now (drivePins z)) credit { chan n s with out := actOut ((chan n s).act / 4 % 4) (chan n s).out } = r
    at hmatch
  have hset : settles (matchAt n credit (drivePins z)) (finish (matchAt n credit (drivePins z))) := by
    refine finish_settles_recorded hl ?_ ?_ hmatch
    · exact (show z.lgr.hostWait = (elapse t s).lgr.hostWait from hrec.hostWait).trans
        (congrArg Lgr.hostWait (elapse_lgr t s))
    · exact (show z.fold = (elapse t s).fold from hrec.fold).trans (elapse_fold t s)
  have htm : (finish (matchAt n credit (drivePins z))).tmr = { z.tmr with ch := z.tmr.ch.set n r.1 } :=
    (settles_tmr hset).trans (congrArg State.tmr hmatch.blank :)
  have hcn : chan n (finish (matchAt n credit (drivePins z))) = r.1 := by
    rw [chan, htm]
    simp [hlen, show n < 32 by omega]
  have hr1 : r.1 = { chan n s with
      out := actOut ((chan n s).act % 4) (actOut ((chan n s).act / 4 % 4) (chan n s).out), credit := credit
      armed := false } := by
    rw [← hr, matched]
    dsimp only
    rw [if_neg (by omega)]
  refine ⟨_, hrun, ?_, ?_, ?_⟩
  · rw [htm]
    exact hwraps
  · rw [hcn, hr1]
  · rw [hcn, hr1]

/-! ## Captures and pulses -/

/-- The level seen at a capture's source changes pads alone. -/
theorem seePin_frame (src : Nat) (level : Bool) (x : State) : seePin src level x = { x with
    pins := { x.pins with gpio := (seePin src level x).pins.gpio, wake := (seePin src level x).pins.wake } } := by
  unfold seePin seeWake
  split
  · rfl
  · split
    · rfl
    · rfl

/-- TIMER_CAPTURE_PAIR (R396). -/
theorem capturePair_captures {n edge1 edge2 : Nat} {credit : Bool} (hl : live s = true) (hm : memorySafe s)
    (hn : n < 31) (hmode : (chan n s).mode = 1) (htb : tbRuns s = true)
    (h1 : (chan n s).since ≤ sampledAt edge1 (elapse t s))
    (h2 : sampledAt edge1 (elapse t s) + ((chan n s).filt + 1) * evalStep s ≤ sampledAt edge2 (elapse t s))
    (h3 : sampledAt edge2 (elapse t s) + (chan n s).filt * evalStep s ≤ now (elapse t s)) :
    ∃ (c1 : Channel) (s' : State), exec (.timerCapturePair t n edge1 edge2 credit) s = .next s' ∧
      c1 = { captured (sampledAt edge1 (elapse t s)) (sampledAt edge2 (elapse t s)) credit (chan n s) with
        evtAt := c1.evtAt } ∧
      channelBecomes s (elapse t s) n c1 [TMR_STATUS.reg, TMR_CNT.reg] s' ∧
      ((chan n s).fresh = true → fld TMR_STATUS.OVR_SEEN s' = 1 ∧
        fld TMR_CNT.OVERRUN s' = sat TMR_CNT.OVERRUN.width (fld TMR_CNT.OVERRUN s + 1)) ∧
      ((chan n s).fresh = false → keepsRegs recordRegs s s') := by
  let x : State := seePin (chan n s).src ((chan n s).order == 1) (elapse t s)
  have hx : x = { elapse t s with pins := { (elapse t s).pins with gpio := x.pins.gpio, wake := x.pins.wake } } :=
    seePin_frame _ _ _
  have hxt : x.tmr = s.tmr := by rw [hx, ← elapse_tmr t s]
  have hchan : chan n x = chan n s := by rw [chan, chan, hxt]
  have hregs : x.regs = s.regs ∧ x.part = s.part := by
    rw [hx]
    exact ⟨elapse_regs t s, elapse_part t s⟩
  have hstep : evalStep (elapse t s) = evalStep s := by
    have hcontent : (elapse t s).clk.content = s.clk.content := by rw [elapse_clk_counts]
    have hco : coarse (elapse t s) = coarse s := by simp only [coarse, elapse_pwr]
    simp only [evalStep, tmrRes, elapse_tbRuns, hcontent, hco]
  obtain ⟨c1, hc1, hrec, hquiet, hcount⟩ :=
    captureAt_recorded n (sampledAt edge1 (elapse t s)) (sampledAt edge2 (elapse t s)) credit x
  rw [hchan] at hc1 hquiet hcount
  let y : State := captureAt n (sampledAt edge1 (elapse t s)) (sampledAt edge2 (elapse t s)) credit x
  have hbase : setChan n c1 x = { elapse t s with
      tmr := { s.tmr with ch := s.tmr.ch.set n c1 }
      pins := { s.pins with gpio := (setChan n c1 x).pins.gpio, wake := (setChan n c1 x).pins.wake } } := by
    have hpins : (setChan n c1 x).pins = x.pins := rfl
    rw [hpins, setChan, hxt, hx, ← elapse_pins t s]
  obtain ⟨hset, hbecomes⟩ := channelBecomes_of hl hbase hrec
  refine ⟨c1, finish y, (command_live t _ s hl).trans ?_, hc1, hbecomes, fun hf => ?_, fun hf => ?_⟩
  · dsimp only
    rw [elapse_chan, hstep, elapse_tbRuns, onlyIf, if_pos (by simp [hn, hmode, htb, h1, h2, h3])]
  · have hwf : Regs.wf x = true := by
      rw [hx]
      exact memorySafe_elapse_wf hm t
    obtain ⟨ha, hb⟩ := hcount hf hwf
    have hfld : fld TMR_CNT.OVERRUN x = fld TMR_CNT.OVERRUN s := by
      simp only [fld, regGet, hregs.1, hregs.2]
    rw [settles_fld hset, settles_fld hset]
    exact ⟨ha, by rw [hb, hfld]⟩
  · intro off ho
    have h0 := (hquiet hf).regs.keeps off (by simpa using ho)
    rw [settles_regGet hset, h0]
    show sget _ _ x.regs = _
    rw [hregs.1, show (setChan n c1 x).part = s.part from hregs.2]
    rfl

/-- GPIO_PULSE_END (R403). -/
theorem pulseEnd_ends {n : Nat} (hl : live s = true)
    (h : s.tmr.pulses.any (fun p => p.pin == n && p.stop ≤ now (elapse t s)) = true) :
    ∃ s', exec (.gpioPulseEnd t n) s = .next s' ∧
      settles { elapse t s with
        tmr := { s.tmr with pulses := s.tmr.pulses.filter (fun p => p.pin ≠ n) }
        pins := { s.pins with gpio := s'.pins.gpio } } s' ∧ padsFollow s s' ∧
      (n < 24 → pinFunc n s = 4 → s'.pins.gpio.getLsbD n = decide (pinCh n s % 2 = 1)) := by
  let x : State := { elapse t s with tmr := { s.tmr with pulses := s.tmr.pulses.filter (fun p => p.pin ≠ n) } }
  have hset : settles (drivePins x) (finish (drivePins x)) :=
    finish_settles_of s _ hl (elapse_lgr t s) (elapse_fold t s)
  have hgpio : (finish (drivePins x)).pins.gpio = (drivePins x).pins.gpio := settles_pins_gpio hset
  refine ⟨finish (drivePins x), (command_live t _ s hl).trans ?_, ?_, ?_, fun hn hf => ?_⟩
  · dsimp only
    rw [elapse_tmr, onlyIf, if_pos h, elapse_tmr]
  · rw [hgpio, ← elapse_pins t s]
    exact hset
  · exact padsFollow_of (Recorded.refl (cells := []) (offs := []) _) hset (by simp) (elapse_pins t s)
  · rw [hgpio, drivePins_gpio x n hn]
    have hfx : pinFunc n x = 4 := (elapse_fld _ t s).trans hf
    have hcx : pinCh n x = pinCh n s := elapse_fld _ t s
    have hnone : x.tmr.pulses.find? (fun p => p.pin = n) = none := by
      rw [List.find?_eq_none]
      intro p hp
      simpa using (List.mem_filter.mp hp).2
    simp only [pinLevel, hfx, hcx, hnone]
    rfl

end

/-! ## The statement -/

/-- Settles O46. Each channel's change is one `setChan`, with the pads driven after it (`padsFollow_of`) and records, events and
counts beside them. -/
theorem timersConfigureMatchAndCapture : Obligations.TimersConfigureMatchAndCapture := by
  unfold Obligations.TimersConfigureMatchAndCapture
  constructor
  · intro s t d hs hd s0 old
    refine ⟨fun hrow hres hpar => ?_, fun hrow hres => timerCfg_refused hs hrow (.inl ⟨hres, rfl, rfl⟩),
      fun i hrow hres hpar => timerCfg_refused hs hrow (.inr ⟨hres, i, hpar, rfl, rfl⟩),
      fun hrow hp hdma => timerRead_reads hs hrow hp hdma⟩
    obtain ⟨s', hrun, hans⟩ := timerCfg_configures hs hrow hres hpar
    have hchan : chan d.target s0 = old := elapse_chan d.target t s
    have hframe := cfgDone_frame d s0
    obtain ⟨hkeep, hlate, hearly⟩ := cfgDone_regs d (memorySafe_elapse_wf hs.2.1 t : Regs.wf s0 = true)
    obtain ⟨-, hpads⟩ := cfgDone_pads d t s
    rw [hchan] at hframe hlate hearly
    refine ⟨configured d (now s0) old, cfgDone d s0, s', hrun, rfl, rfl, rfl, rfl, rfl, rfl, rfl, rfl, rfl, ?_, ?_, rfl, rfl,
      rfl, rfl, rfl, rfl, hans, ?_, hpads, hlate, fun h => (hearly h).trans (elapse_regs t s), fun off ho => ?_⟩
    · simp only [configured, bne, decide_not]
      rfl
    · simp only [configured, Bool.decide_and, Bool.decide_eq_true]
    · rw [← elapse_tmr t s, ← elapse_pins t s]
      exact hframe
    · exact (hkeep.keeps off ho).trans (elapse_regGet off t s)
  · intro s t n credit hl hm hsh hr s0 c becomes pads
    refine ⟨fun hn harm hfire hstart htb hover => ⟨fun hmode => ?_, fun hmode => ?_⟩,
      fun hn harm hmode hfire htb hover => ?_, fun hw => ?_, ?_, fun hp => pulseEnd_ends hl hp⟩
    · obtain ⟨s', hrun, hpads, -, hquiet, -⟩ := compareMatch_matches (credit := credit) hl hm ⟨hn, harm, hfire, hstart, htb⟩
        (le_of_eq hmode.symm) hover
      have hr2 : matched (now s0) credit c =
          ({ c with out := actOut (c.act % 4) c.out, credit := credit, armed := false }, 0) := by
        rw [matched]
        dsimp only
        rw [if_neg (by rw [hmode]; decide)]
      rw [hr2] at hquiet
      exact ⟨s', hrun, hpads, hquiet rfl⟩
    · intro k left stop
      obtain ⟨s', hrun, hpads, hbecomes, -, hmiss⟩ := compareMatch_matches (credit := credit) hl hm
        ⟨hn, harm, hfire, hstart, htb⟩ (by show 2 ≤ c.mode; rw [hmode]; decide) hover
      have hr2 : matched (now s0) credit c = ({ c with
          out := actOut (c.act % 4) c.out, credit := credit, c := (c.c + k * c.period) % 2 ^ 32
          missed := sat 16 (c.missed + (k - 1)), late := false, left := left
          mode := if stop then 0 else 3, armed := !stop }, k - 1) := by
        rw [matched]
        dsimp only
        rw [if_pos hmode]
      rw [hr2] at hbecomes hmiss
      exact ⟨_, s', hrun, hpads, rfl, hbecomes, fun hk => hmiss (by show 0 < k - 1; omega)⟩
    · exact compareMatch_overflows hl hsh ⟨by omega, harm, hfire, fun h => by omega, htb⟩ hn hmode hover
    · obtain ⟨s', hrun, hpads, hwraps, hchan, hrec⟩ := timerOverflow_overflows credit hl hsh hw
      refine ⟨s', hrun, hpads, hwraps, fun k hk hst hmode => ?_, fun k hk hmode => ?_, ?_, hrec⟩
      · rw [hchan k (by omega), overflowed, if_neg]
        rintro (h | h | ⟨h, hs⟩)
        · exact hmode h
        · omega
        · exact Bool.false_ne_true ((hst h).symm.trans hs)
      · rw [hchan k (by omega), overflowed, if_pos (.inl hmode)]
      · rw [hchan 31 (by decide), overflowed, if_pos (.inr (.inl (by decide)))]
    · intro edge1 edge2 first second hn hmode h1 h2 h3 htb
      exact capturePair_captures hl hm hn hmode htb h1 h2 h3

end Sys2Proof.Machine
end

section
/-! SUPPORT. Frames of the engine ECU. -/
namespace Sys2Proof.Machine

section
variable {x : State} {f : EcuFrame} {p : Pairing}

/-! ## Events, frames and the pairing's record -/

/-- An event of the immobiliser is posted or not. -/
theorem ecuEvent_posted (kind reason st ecnt id : Nat) (x : State) : Posted x (ecuEvent kind reason st ecnt id x) := by
  unfold ecuEvent
  split
  · exact post_posted _ _ _ _
  · exact .refl x

/-- The end of a frame changes the power unit alone. -/
theorem Recorded.frameEnds {cells offs : List Nat} {a b : State} (h : Recorded cells offs a b) :
    Recorded cells offs (frameEnds a) (frameEnds b) := by
  have hp : b.pwr = a.pwr := (congrArg State.pwr h.blank :)
  unfold Machine.frameEnds
  rw [hp]
  exact h.withPwr _

/-- While the bus takes it a frame leaves at once (R291). -/
theorem queueCan_sends (c : CanFrame) (hlen : x.flk.txq.length < 8) (hon : canOn x = true) (hbus : busOff x = false) :
    queueCan c x = { x with flk := { x.flk with canOut := c :: x.flk.canOut } } := by
  rw [queueCan, if_neg (by omega), if_neg (by rw [hon, hbus]; decide)]

/-- A counter counts beside the immobiliser. -/
theorem bump_withFlk (g : Field) (k : Flk) (x : State) :
    ({ bump g x with flk := k } : State) = bump g { x with flk := k } := rfl

/-- The pairing's counters in force and stored (R293). -/
theorem setPair_recorded (q : Pairing) (hr : x.nv.ledgerReady = true) :
    Recorded [] []
      { x with
        flk := { x.flk with pair := some q }
        nv := { x.nv with recs := (setPair q x).nv.recs, twins := (setPair q x).nv.twins } } (setPair q x) :=
  Recorded.recStore recPair (pairBytes q) { x with flk := { x.flk with pair := some q } } hr

/-- Which reads back. -/
theorem setPair_recRead (q : Pairing) (hf : recFails recPair x = false)
    (hswf : swf (fun _ => Dual.empty) x.nv.recs = true) (hseq : x.nv.recs.all (fun r => seqsOk r.2) = true) :
    recRead recPair (setPair q x) = some (pairBytes q) :=
  recStore_recRead (s := { x with flk := { x.flk with pair := some q } }) _ hf hswf hseq

/-! ## CHALLENGE -/

/-- The answer to a CHALLENGE (R292, R293). -/
def challengeReply (f : EcuFrame) (p : Pairing) (x : State) : CanFrame :=
  let h := [0x12, byteOf (respState x), byteOf (fld FLK_DRIVER.DOR x), 0] ++ leBytes 4 (leAt 4 4 f.data)
  { id := p.base + 1, xtd := p.xtd, data := h ++ pairMac p.key (h ++ slice 8 8 f.data ++ vidBytes x) }

/-- The immobiliser once it has answered. -/
def answeredFlk (f : EcuFrame) (p : Pairing) (x : State) : Flk :=
  { x.flk with
    pair := some { p with lastEcnt := leAt 4 4 f.data }, canOut := challengeReply f p x :: x.flk.canOut }

/-- A silence that is not there ends no silence. -/
theorem silenceEnd_none (h : x.flk.silent = none) : silenceEnd x = x := by
  rw [silenceEnd, h]

/-- One whose time has not come goes on. -/
theorem silenceEnd_early {e k : Nat} {l : List Nat} (h : x.flk.silent = some (e, l, k)) (he : now x < e) :
    silenceEnd x = x := by
  rw [silenceEnd, h]
  dsimp only
  rw [onlyIf, if_neg (by simpa using he)]

/-- A valid CHALLENGE (R293). -/
theorem ecuChallenge_answers (hp : x.flk.pair = some p) (hon : canOn x = true) (hbus : busOff x = false)
    (hlen : x.flk.txq.length < 8) (hblk : inBlock f p = true) (hviol : violReason f p x = none)
    (hdata : byteAt 0 f.data = 0x11) (hsil : x.flk.silent = none) (hf : recFails recPair x = false)
    (hswf : swf (fun _ => Dual.empty) x.nv.recs = true) (hseq : x.nv.recs.all (fun r => seqsOk r.2) = true)
    (hr : x.nv.ledgerReady = true) (hwf : Regs.wf x = true) :
    ∃ y, ecuChallenge f x = y ∧
      Recorded [] [FLK_ECU_CNT0.reg]
        { x with flk := answeredFlk f p x, nv := { x.nv with recs := y.nv.recs, twins := y.nv.twins } } y ∧
      fld FLK_ECU_CNT0.ANSWERED y = sat 16 (fld FLK_ECU_CNT0.ANSWERED x + 1) ∧
      recRead recPair y = some (pairBytes { p with lastEcnt := leAt 4 4 f.data }) := by
  let q : Pairing := { p with lastEcnt := leAt 4 4 f.data }
  let w : State := bump FLK_ECU_CNT0.ANSWERED { x with flk := { x.flk with canOut := challengeReply f p x :: x.flk.canOut } }
  let z : State := setPair q w
  let y : State := ecuEvent 1 0 (respState x) (leAt 4 4 f.data) (idWord f.id f.xtd) z
  have hrun : ecuChallenge f x = y := by
    have hquiet : ecuSilent x = false := by rw [ecuSilent, hsil]
    simp only [ecuChallenge, hp]
    rw [onlyIf, if_pos (by simp [hon, hblk, hviol, hdata, hquiet]), queueCan_sends _ hlen hon hbus]
    rfl
  have hz := setPair_recorded (x := w) q hr
  have hread : recRead recPair z = some (pairBytes q) := setPair_recRead q hf hswf hseq
  have hpost : Posted z y := ecuEvent_posted _ _ _ _ _ z
  have hznv : y.nv = z.nv := hpost.nv
  have hw : Recorded [] [FLK_ECU_CNT0.reg] { x with flk := answeredFlk f p x } { w with flk := answeredFlk f p x } :=
    Recorded.bump FLK_ECU_CNT0.ANSWERED { x with flk := answeredFlk f p x } (by decide)
  refine ⟨y, hrun, ?_, ?_, ?_⟩
  · rw [hznv]
    exact ((hw.withRecs z.nv.recs z.nv.twins).trans (hz.mono (fun _ h => h) (by simp))).trans (.of_posted hpost)
  · refine (hpost.regs.fld _ (by decide)).trans ((hz.fld FLK_ECU_CNT0.ANSWERED (by decide)).trans ?_)
    exact fld_bump_same FLK_ECU_CNT0.ANSWERED (by decide)
      { x with flk := { x.flk with canOut := challengeReply f p x :: x.flk.canOut } } hwf
  · rw [recRead, recGet, hznv]
    exact hread

/-- Any other frame changes nothing as a CHALLENGE. -/
theorem ecuChallenge_ignores {r : Nat} (hp : x.flk.pair = some p) (hviol : violReason f p x = some r) :
    ecuChallenge f x = x := by
  simp only [ecuChallenge, hp]
  rw [onlyIf, if_neg (by simp [hviol])]

/-! ## Violations -/

/-- The immobiliser with a violation more (R295). -/
def violated (x : State) : Flk := { x.flk with viols := recentViols x ++ [now x] }

/-- The NAK of a violation (R295). -/
def nakFrame (f : EcuFrame) (p : Pairing) (r : Nat) : CanFrame :=
  { id := p.base + 3, xtd := p.xtd, data := [0x1F, byteOf r, 0, 0] ++ leBytes 4 (idWord f.id f.xtd) }

/-- A silence that starts (R295). -/
theorem startSilence_recorded (hr : x.nv.ledgerReady = true) (hwf : Regs.wf x = true) :
    Recorded [] [FLK_ECU_CNT1.reg, FLK_STATUS.reg]
      { x with flk := { x.flk with silent := some (now x + secTicks 1, [], 0) } } (startSilence x) ∧
    fld FLK_STATUS.ECU_SILENT (startSilence x) = 1 ∧
    fld FLK_ECU_CNT1.SILENCES (startSilence x) = sat FLK_ECU_CNT1.SILENCES.width (fld FLK_ECU_CNT1.SILENCES x + 1) ∧
    fld FLK_ECU_CNT1.VIOL (startSilence x) = fld FLK_ECU_CNT1.VIOL x := by
  let a : State := { x with flk := { x.flk with silent := some (now x + secTicks 1, [], 0) } }
  let b : State := bump FLK_ECU_CNT1.SILENCES a
  let c : State := setFld FLK_STATUS.ECU_SILENT 1 b
  have hwfa : Regs.wf a = true := hwf
  have hwfb : Regs.wf b = true := regs_wf_setFld _ _ _ hwfa
  have hcy : Recorded [] [] c (startSilence x) :=
    (Recorded.append 0x3A 1 (recentViols x).length c hr).trans (.of_posted (ecuEvent_posted 3 0 0 0 0 _))
  have hcnt : ∀ g : Field, g.off = FLK_ECU_CNT1.reg → fld g (startSilence x) = fld g b := fun g hg =>
    (hcy.fld g (by rw [hg]; decide)).trans (congrArg g.of (regGet_setFld_ne _ _ _ _ (by rw [hg]; decide)))
  refine ⟨((Recorded.bump _ a (by decide)).trans (Recorded.setFld FLK_STATUS.ECU_SILENT 1 b (by decide))).trans
    (hcy.mono (fun _ h => h) (by simp)), ?_, ?_, ?_⟩
  · exact (hcy.fld _ (by decide)).trans (fld_setFld_same FLK_STATUS.ECU_SILENT (by decide) 1 b hwfb)
  · exact (hcnt _ rfl).trans (fld_bump_same FLK_ECU_CNT1.SILENCES (by decide) a hwfa)
  · exact (hcnt _ rfl).trans (fld_setFld_apart FLK_ECU_CNT1.SILENCES FLK_ECU_CNT1.VIOL (by decide) (by decide) _ a hwfa)

/-- A violation outside a silence, up to the silence that it may start (R295). -/
theorem ecuViolation_nakked {r : Nat} (hp : x.flk.pair = some p) (hon : canOn x = true) (hbus : busOff x = false)
    (hlen : x.flk.txq.length < 8) (hblk : inBlock f p = true) (hviol : violReason f p x = some r)
    (hsil : x.flk.silent = none) (hr : x.nv.ledgerReady = true) (hwf : Regs.wf x = true) :
    ∃ z, ecuViolation f x = (if z.flk.viols.length ≥ 16 then startSilence z else z) ∧
      Recorded [] [FLK_ECU_CNT1.reg] { x with flk := { violated x with canOut := nakFrame f p r :: x.flk.canOut } } z ∧
      fld FLK_ECU_CNT1.VIOL z = sat 16 (fld FLK_ECU_CNT1.VIOL x + 1) ∧
      fld FLK_ECU_CNT1.SILENCES z = fld FLK_ECU_CNT1.SILENCES x := by
  let a : State := { x with flk := violated x }
  let b : State := bump FLK_ECU_CNT1.VIOL a
  let c : State := { b with flk := { violated x with canOut := nakFrame f p r :: x.flk.canOut } }
  let z : State := ecuEvent 2 r 0 (if r = 4 ∨ r = 5 then leAt 4 4 f.data else 0) (idWord f.id f.xtd)
    (append 0x39 r (f.id % 2 ^ 24) c)
  have hwfa : Regs.wf a = true := hwf
  have hcz : Recorded [] [] c z :=
    (Recorded.append 0x39 r (f.id % 2 ^ 24) c hr).trans (.of_posted (ecuEvent_posted _ _ _ _ _ _))
  refine ⟨z, ?_, (Recorded.bump FLK_ECU_CNT1.VIOL { x with flk := { violated x with
    canOut := nakFrame f p r :: x.flk.canOut } } (by decide)).trans (hcz.mono (fun _ h => h) (by simp)), ?_, ?_⟩
  · have hfld : ∀ g : Field, g.off ≠ FLK_ECU_CNT1.reg → fld g b = fld g x := fun g hg =>
      congrArg g.of (regGet_setFld_ne _ _ _ _ hg)
    have honb : canOn b = true := by
      rw [← hon, canOn, canOn, flag, flag, hfld _ (by decide)]
      rfl
    have hbusb : busOff b = false := by
      rw [← hbus, busOff, busOff, hfld _ (by decide)]
    have hsilb : b.flk.silent = none := hsil
    have hq := queueCan_sends (nakFrame f p r) (x := b) hlen honb hbusb
    simp only [ecuViolation, hp, hviol]
    rw [onlyIf, if_pos (by rw [hon, hblk]; rfl),
      show bump FLK_ECU_CNT1.VIOL { x with flk := { x.flk with viols := recentViols x ++ [now x] } } = b from rfl, hsilb]
    dsimp only
    rw [show (queueCan { id := p.base + 3, xtd := p.xtd, data := [31, byteOf r, 0, 0] ++ leBytes 4 (idWord f.id f.xtd) } b) =
      c from hq]
  · exact (hcz.fld _ (by decide)).trans (fld_bump_same FLK_ECU_CNT1.VIOL (by decide) a hwfa)
  · exact (hcz.fld _ (by decide)).trans
      (fld_setFld_apart FLK_ECU_CNT1.VIOL FLK_ECU_CNT1.SILENCES (by decide) (by decide) _ a hwfa)

/-- A violation outside a silence (R295). -/
theorem ecuViolation_naks {r : Nat} (hp : x.flk.pair = some p) (hon : canOn x = true) (hbus : busOff x = false)
    (hlen : x.flk.txq.length < 8) (hblk : inBlock f p = true) (hviol : violReason f p x = some r)
    (hsil : x.flk.silent = none) (hr : x.nv.ledgerReady = true) (hwf : Regs.wf x = true) :
    ∃ y, ecuViolation f x = y ∧
      Recorded [] [FLK_ECU_CNT1.reg, FLK_STATUS.reg]
        { x with flk := { violated x with
          silent := if (recentViols x).length < 15 then none else some (now x + secTicks 1, [], 0)
          canOut := nakFrame f p r :: x.flk.canOut } } y ∧
      fld FLK_ECU_CNT1.VIOL y = sat 16 (fld FLK_ECU_CNT1.VIOL x + 1) ∧
      ((recentViols x).length < 15 → regGet FLK_STATUS.reg y = regGet FLK_STATUS.reg x) ∧
      (15 ≤ (recentViols x).length → fld FLK_STATUS.ECU_SILENT y = 1 ∧
        fld FLK_ECU_CNT1.SILENCES y = sat FLK_ECU_CNT1.SILENCES.width (fld FLK_ECU_CNT1.SILENCES x + 1)) := by
  obtain ⟨z, hrun, hrec, hvcnt, hscnt⟩ := ecuViolation_nakked hp hon hbus hlen hblk hviol hsil hr hwf
  have hzflk : z.flk = { violated x with canOut := nakFrame f p r :: x.flk.canOut } := hrec.flk
  have hnow : now z = now x := (congrArg (fun c : Clk => c.tb.toNat) hrec.clk :)
  have hlen16 : z.flk.viols.length ≥ 16 ↔ 15 ≤ (recentViols x).length := by
    rw [hzflk]
    simp [violated]
  have hbase := hrec.mono (offs' := [FLK_ECU_CNT1.reg, FLK_STATUS.reg]) (fun _ h => h) (by simp)
  rw [hrun]
  by_cases h : 15 ≤ (recentViols x).length
  · obtain ⟨hs, h1, h2, h3⟩ := startSilence_recorded (hrec.ledgerReady.trans hr) (hrec.regs_wf hwf)
    refine ⟨startSilence z, if_pos (hlen16.mpr h), ?_, h3.trans hvcnt, fun hlt => by omega, fun _ => ⟨h1, by rw [h2, hscnt]⟩⟩
    rw [if_neg (by omega)]
    have hall := (hbase.withFlk { z.flk with silent := some (now z + secTicks 1, [], 0) }).trans hs
    rw [hzflk, hnow] at hall
    exact hall
  · refine ⟨z, if_neg (fun hc => h (hlen16.mp hc)), ?_, hvcnt, fun _ => hrec.regs.keeps _ (by decide), fun hc => absurd hc h⟩
    rw [if_pos (by omega), show (none : Option (Nat × List Nat × Nat)) = (violated x).silent from hsil.symm]
    exact hbase

/-- A violation in a silence only counts (R295). -/
theorem ecuViolation_counts {r e k : Nat} {l : List Nat} (hp : x.flk.pair = some p) (hon : canOn x = true)
    (hblk : inBlock f p = true) (hviol : violReason f p x = some r) (hsil : x.flk.silent = some (e, l, k)) :
    ecuViolation f x =
      bump FLK_ECU_CNT1.VIOL { x with flk := { violated x with silent := some (e, l, k + 1) } } := by
  let b : State := bump FLK_ECU_CNT1.VIOL { x with flk := violated x }
  have hsilb : b.flk.silent = some (e, l, k) := hsil
  simp only [ecuViolation, hp, hviol]
  rw [onlyIf, if_pos (by rw [hon, hblk]; rfl), show bump FLK_ECU_CNT1.VIOL { x with flk := { x.flk with viols := recentViols x ++ [now x] } } = b from rfl, hsilb]
  dsimp only
  exact bump_withFlk _ _ _

end

end Sys2Proof.Machine
end

section
/-! SUPPORT. The engine ECU: silences, bus-off and the statement. -/
namespace Sys2Proof.Machine

section
variable {s : State} {t : Nat} {f : EcuFrame} {p : Pairing}

/-! ## The end of a silence, and of bus-off -/

/-- A silence that ends, with fewer than 16 violations in it (R295). -/
theorem silenceEnd_ends {x : State} {e k : Nat} {l : List Nat} (h : x.flk.silent = some (e, l, k)) (he : e ≤ now x)
    (hk : k < 16) (hr : x.nv.ledgerReady = true) (hwf : Regs.wf x = true) :
    Recorded [] [FLK_STATUS.reg] { x with flk := { x.flk with silent := none } } (silenceEnd x) ∧
      fld FLK_STATUS.ECU_SILENT (silenceEnd x) = 0 := by
  let a : State := { x with flk := { x.flk with silent := none } }
  let b : State := setFld FLK_STATUS.ECU_SILENT 0 a
  have hrun : silenceEnd x = ecuEvent 4 0 0 0 0 (append 0x3A 2 k b) := by
    simp only [silenceEnd, h]
    rw [onlyIf, if_pos (by simpa using he), if_neg (by omega)]
  have hby : Recorded [] [] b (silenceEnd x) := by
    rw [hrun]
    exact (Recorded.append 0x3A 2 k b hr).trans (.of_posted (ecuEvent_posted _ _ _ _ _ _))
  exact ⟨(Recorded.setFld FLK_STATUS.ECU_SILENT 0 a (by decide)).trans (hby.mono (fun _ h => h) (by simp)),
    (hby.fld _ (by decide)).trans (fld_setFld_same FLK_STATUS.ECU_SILENT (by decide) 0 a hwf)⟩

/-- The error counters at recovery from bus-off (R291). -/
def recovered (x : State) : State :=
  setFld FLK_CAN_STAT.STATE 0 (setFld FLK_CAN_STAT.TEC 0 (setFld FLK_CAN_STAT.REC 0 x))

theorem recovered_fields {x : State} (hwf : Regs.wf x = true) :
    fld FLK_CAN_STAT.STATE (recovered x) = 0 ∧ fld FLK_CAN_STAT.TEC (recovered x) = 0 ∧
      fld FLK_CAN_STAT.REC (recovered x) = 0 ∧ RegsKept [FLK_CAN_STAT.reg] x (recovered x) := by
  have hwf1 : Regs.wf (setFld FLK_CAN_STAT.REC 0 x) = true := regs_wf_setFld _ _ _ hwf
  have hwf2 : Regs.wf (setFld FLK_CAN_STAT.TEC 0 (setFld FLK_CAN_STAT.REC 0 x)) = true := regs_wf_setFld _ _ _ hwf1
  have hout : ∀ g : Field, FLK_CAN_STAT.STATE.apart g = true →
      fld g (recovered x) = fld g (setFld FLK_CAN_STAT.TEC 0 (setFld FLK_CAN_STAT.REC 0 x)) := fun g hg =>
    fld_setFld_apart FLK_CAN_STAT.STATE g (by decide) hg 0 _ hwf2
  refine ⟨fld_setFld_same FLK_CAN_STAT.STATE (by decide) 0 _ hwf2, ?_, ?_, ?_⟩
  · rw [hout FLK_CAN_STAT.TEC (by decide)]
    exact fld_setFld_same FLK_CAN_STAT.TEC (by decide) 0 _ hwf1
  · rw [hout FLK_CAN_STAT.REC (by decide), fld_setFld_apart FLK_CAN_STAT.TEC FLK_CAN_STAT.REC (by decide) (by decide) 0 _ hwf1]
    exact fld_setFld_same FLK_CAN_STAT.REC (by decide) 0 _ hwf
  · exact ((RegsKept.setFld FLK_CAN_STAT.REC 0 x (by decide)).trans (.setFld FLK_CAN_STAT.TEC 0 _ (by decide))).trans
      (.setFld FLK_CAN_STAT.STATE 0 _ (by decide))

/-- CAN_BUS_OFF_RECOVERY (R291). -/
theorem busOffRecovery_recovers (hl : live s = true) (hm : memorySafe s) (hbus : busOff s = true) (hon : canOn s = true) :
    ∃ s', exec (.canBusOffRecovery t) s = .next s' ∧ fld FLK_CAN_STAT.STATE s' = 0 ∧ fld FLK_CAN_STAT.TEC s' = 0 ∧
      fld FLK_CAN_STAT.REC s' = 0 ∧ keepsRegs [FLK_CAN_STAT.reg] s s' ∧
      settles { elapse t s with
        regs := s'.regs, flk := { s.flk with canOut := s.flk.txq.reverse ++ s.flk.canOut, txq := [] } } s' := by
  obtain ⟨hst, htec, hrec, hkeep⟩ := recovered_fields (memorySafe_elapse_wf hm t)
  have hframe : recovered (elapse t s) = { elapse t s with regs := (recovered (elapse t s)).regs } :=
    setFlds_regs [(FLK_CAN_STAT.REC, 0), (FLK_CAN_STAT.TEC, 0), (FLK_CAN_STAT.STATE, 0)] (elapse t s)
  generalize hz : recovered (elapse t s) = z at hst htec hrec hkeep hframe
  have hzflk : z.flk = s.flk := by rw [hframe, ← elapse_flk t s]
  have hbusz : busOff z = false := by rw [busOff, hst]; rfl
  have honz : canOn z = true := by
    have hen : flag FLK_CAN_CFG.EN z = flag FLK_CAN_CFG.EN s := by
      rw [flag, flag, hkeep.fld FLK_CAN_CFG.EN (by decide), elapse_fld]
    have hisl : islandOn .can z = islandOn .can s := by
      rw [islandOn, islandOn, hframe, ← elapse_pwr t s]
    rw [canOn, hen, hisl]
    exact hon
  let y : State := { z with flk := { s.flk with canOut := s.flk.txq.reverse ++ s.flk.canOut, txq := [] } }
  have hdrain : drainCan z = y := by
    rw [drainCan, if_neg (by rw [hbusz, honz]; decide), hzflk]
  have hzl : y.lgr = s.lgr := by
    show z.lgr = s.lgr
    rw [hframe, ← elapse_lgr t s]
  have hzf : y.fold = s.fold := by
    show z.fold = s.fold
    rw [hframe, ← elapse_fold t s]
  have hset : settles y (finish y) := finish_settles_of s y hl hzl hzf
  refine ⟨finish y, (command_live t _ s hl).trans ?_, (settles_fld hset _).trans hst, (settles_fld hset _).trans htec,
    (settles_fld hset _).trans hrec, fun off ho => ?_, ?_⟩
  · rw [onlyIf, if_pos (by rw [busOff, elapse_fld]; exact hbus), ← hdrain, ← hz]
    rfl
  · exact (settles_regGet hset off).trans ((hkeep.keeps off ho).trans (elapse_regGet off t s))
  · have hy : ({ elapse t s with
        regs := (finish y).regs, flk := { s.flk with canOut := s.flk.txq.reverse ++ s.flk.canOut, txq := [] } } : State) = y := by
      rw [settles_regs hset]
      show _ = ({ z with flk := _ } : State)
      rw [hframe]
    rw [hy]
    exact hset

/-! ## Frames at a tick -/

theorem elapse_canOn (t : Nat) (s : State) : canOn (elapse t s) = canOn s := by
  rw [canOn, canOn, elapse_flag, islandOn, islandOn, elapse_pwr]

theorem elapse_busOff (t : Nat) (s : State) : busOff (elapse t s) = busOff s := by rw [busOff, busOff, elapse_fld]

theorem elapse_violReason (f : EcuFrame) (p : Pairing) (t : Nat) (s : State) :
    violReason f p (elapse t s) = violReason f p s := by
  have hprobe : probeFrame f (elapse t s) = probeFrame f s := by simp only [probeFrame, elapse_flk]
  unfold violReason
  rw [hprobe]

/-- The end of a frame's command. -/
theorem frame_settles {x y : State} {offs : List Nat} (hl : live s = true) (h : Recorded [] offs x y)
    (hlgr : x.lgr.hostWait = s.lgr.hostWait) (hfold : x.fold = s.fold) : settles (frameEnds y) (finish (frameEnds y)) :=
  finish_settles_recorded (x := frameEnds x) hl hlgr hfold h.frameEnds

/-- ECU_CHALLENGE (R293). -/
theorem challenge_answered (hl : live s = true) (hm : memorySafe s) (hsh : shaped s) (hr : s.nv.ledgerReady = true)
    (hp : s.flk.pair = some p) (hon : canOn s = true) (hbus : busOff s = false) (hlen : s.flk.txq.length < 8)
    (hblk : inBlock f p = true) (hviol : violReason f p s = none) (hdata : byteAt 0 f.data = 0x11)
    (hsil : s.flk.silent = none) (hf : recFails recPair s = false) :
    ∃ s', exec (.ecuChallenge t f) s = .next s' ∧
      recordsOnly [] [FLK_ECU_CNT0.reg]
        { frameEnds (elapse t s) with
          flk := answeredFlk f p s, nv := { (elapse t s).nv with recs := s'.nv.recs, twins := s'.nv.twins } } s' ∧
      fld FLK_ECU_CNT0.ANSWERED s' = sat 16 (fld FLK_ECU_CNT0.ANSWERED s + 1) ∧
      recRead recPair s' = some (pairBytes { p with lastEcnt := leAt 4 4 f.data }) := by
  obtain ⟨-, -, -, -, -, hswf⟩ := memorySafe_elapse hm t
  obtain ⟨-, -, -, -, -, -, -, hseq⟩ := shaped_elapse hsh t
  have hflk : answeredFlk f p (elapse t s) = answeredFlk f p s := by
    simp only [answeredFlk, challengeReply, respState, vidBytes, elapse_flk, elapse_fld, elapse_flag]
  have hsil0 : (elapse t s).flk.silent = none := by rw [elapse_flk]; exact hsil
  obtain ⟨y, hrun, hrec, hcnt, hread⟩ := ecuChallenge_answers (x := elapse t s) (f := f) (p := p)
    (by rw [elapse_flk]; exact hp) (by rw [elapse_canOn]; exact hon) (by rw [elapse_busOff]; exact hbus)
    (by rw [elapse_flk]; exact hlen) hblk (by rw [elapse_violReason]; exact hviol) hdata hsil0
    (by rw [recFails, elapse_nv_wornRecs]; exact hf) hswf hseq (by rw [elapse_nv_ledgerReady]; exact hr)
    (memorySafe_elapse_wf hm t)
  have hset := frame_settles hl hrec (congrArg Lgr.hostWait (elapse_lgr t s)) (elapse_fold t s)
  have hnv : (finish (frameEnds y)).nv = y.nv := (settles_nv hset).trans rfl
  refine ⟨finish (frameEnds y), (command_live t _ s hl).trans ?_, ?_, ?_, ?_⟩
  · rw [silenceEnd_none hsil0, hrun]
  · rw [hnv, ← hflk]
    exact recordsOnly_settles (hrec.frameEnds.recordsOnly rfl rfl rfl) hset
  · rw [settles_fld hset]
    exact hcnt.trans (by rw [elapse_fld])
  · rw [recRead, recGet, hnv]
    exact hread

/-- ECU_VIOLATION outside a silence (R295). -/
theorem violation_nakked {r : Nat} (hl : live s = true) (hm : memorySafe s) (hr : s.nv.ledgerReady = true)
    (hp : s.flk.pair = some p) (hon : canOn s = true) (hbus : busOff s = false) (hlen : s.flk.txq.length < 8)
    (hblk : inBlock f p = true) (hviol : violReason f p s = some r) (hsil : s.flk.silent = none) :
    ∃ s', exec (.ecuViolation t f) s = .next s' ∧
      recordsOnly [] [FLK_ECU_CNT1.reg, FLK_STATUS.reg]
        { frameEnds (elapse t s) with
          flk := { s.flk with
            viols := recentViols (elapse t s) ++ [now (elapse t s)]
            silent := if (recentViols (elapse t s)).length < 15 then none else some (now (elapse t s) + secTicks 1, [], 0)
            canOut := nakFrame f p r :: s.flk.canOut } } s' ∧
      fld FLK_ECU_CNT1.VIOL s' = sat 16 (fld FLK_ECU_CNT1.VIOL s + 1) ∧
      ((recentViols (elapse t s)).length < 15 → regGet FLK_STATUS.reg s' = regGet FLK_STATUS.reg s) ∧
      (15 ≤ (recentViols (elapse t s)).length → fld FLK_STATUS.ECU_SILENT s' = 1 ∧
        fld FLK_ECU_CNT1.SILENCES s' = sat FLK_ECU_CNT1.SILENCES.width (fld FLK_ECU_CNT1.SILENCES s + 1)) := by
  have hsil0 : (elapse t s).flk.silent = none := by rw [elapse_flk]; exact hsil
  obtain ⟨y, hrun, hrec, hcnt, hstat, hstart⟩ := ecuViolation_naks (x := elapse t s) (f := f) (p := p)
    (by rw [elapse_flk]; exact hp) (by rw [elapse_canOn]; exact hon) (by rw [elapse_busOff]; exact hbus)
    (by rw [elapse_flk]; exact hlen) hblk (by rw [elapse_violReason]; exact hviol) hsil0
    (by rw [elapse_nv_ledgerReady]; exact hr) (memorySafe_elapse_wf hm t)
  have hset := frame_settles hl hrec (congrArg Lgr.hostWait (elapse_lgr t s)) (elapse_fold t s)
  rw [elapse_fld] at hcnt
  rw [elapse_regGet] at hstat
  rw [elapse_fld] at hstart
  refine ⟨finish (frameEnds y), (command_live t _ s hl).trans ?_, ?_, (settles_fld hset _).trans hcnt,
    fun h => (settles_regGet hset _).trans (hstat h), fun h => ?_⟩
  · rw [silenceEnd_none hsil0, hrun]
  · have hflk := elapse_flk t s
    rw [violated, hflk] at hrec
    exact recordsOnly_settles (hrec.frameEnds.recordsOnly rfl rfl rfl) hset
  · rw [settles_fld hset, settles_fld hset]
    exact hstart h

/-- ECU_VIOLATION in a silence (R295). -/
theorem violation_counted {r e k : Nat} {l : List Nat} (hl : live s = true) (hm : memorySafe s)
    (hp : s.flk.pair = some p) (hon : canOn s = true) (hblk : inBlock f p = true) (hviol : violReason f p s = some r)
    (hsil : s.flk.silent = some (e, l, k)) (he : now (elapse t s) < e) :
    ∃ s', exec (.ecuViolation t f) s = .next s' ∧
      settles { frameEnds (elapse t s) with
        regs := s'.regs
        flk := { s.flk with viols := recentViols (elapse t s) ++ [now (elapse t s)], silent := some (e, l, k + 1) } } s' ∧
      fld FLK_ECU_CNT1.VIOL s' = sat 16 (fld FLK_ECU_CNT1.VIOL s + 1) ∧ keepsRegs [FLK_ECU_CNT1.reg] s s' := by
  let w : State := { frameEnds (elapse t s) with
    flk := { s.flk with viols := recentViols (elapse t s) ++ [now (elapse t s)], silent := some (e, l, k + 1) } }
  have hflk := elapse_flk t s
  have hsil0 : (elapse t s).flk.silent = some (e, l, k) := by rw [hflk]; exact hsil
  have hrun : frameEnds (ecuViolation f (silenceEnd (elapse t s))) = bump FLK_ECU_CNT1.VIOL w := by
    rw [silenceEnd_early hsil0 he, ecuViolation_counts (p := p) (by rw [hflk]; exact hp) (by rw [elapse_canOn]; exact hon) hblk
      (by rw [elapse_violReason]; exact hviol) hsil0, violated, hflk]
    rfl
  have hwf : Regs.wf w = true := memorySafe_elapse_wf hm t
  have hregs : w.regs = s.regs ∧ w.part = s.part := ⟨elapse_regs t s, elapse_part t s⟩
  have hset : settles (bump FLK_ECU_CNT1.VIOL w) (finish (bump FLK_ECU_CNT1.VIOL w)) :=
    finish_settles_of s _ hl (elapse_lgr t s) (elapse_fold t s)
  refine ⟨finish (bump FLK_ECU_CNT1.VIOL w), (command_live t _ s hl).trans (by rw [hrun]), ?_, ?_, fun off ho => ?_⟩
  · rw [settles_regs hset]
    exact hset
  · rw [settles_fld hset, fld_bump_same FLK_ECU_CNT1.VIOL (by decide) w hwf]
    simp only [fld, regGet, hregs.1, hregs.2]
    rfl
  · rw [settles_regGet hset, (RegsKept.bump (offs := [FLK_ECU_CNT1.reg]) FLK_ECU_CNT1.VIOL w (by decide)).keeps off ho]
    simp only [regGet, hregs.1, hregs.2]

end

/-! ## The statement -/

/-- Settles O39, frame by frame (`ecuChallenge_answers`, `ecuViolation_naks`). -/
theorem ecuIsAnswered : Obligations.EcuIsAnswered := by
  unfold Obligations.EcuIsAnswered
  intro s t p hl hm hsh hr s0 s2
  have hl0 : s0.lgr = s.lgr := elapse_lgr t s
  have hf0 : s0.fold = s.fold := elapse_fold t s
  have hflk : s0.flk = s.flk := elapse_flk t s
  refine ⟨fun f hp hon hbus hlen hblk => ?_, fun e l k hsil he hk => ?_, fun e l k hsil he => ?_, fun hbus hisl hen => ?_⟩
  · intro ecnt w h
    refine ⟨fun hviol hdata hsil hf => challenge_answered hl hm hsh hr hp hon hbus hlen hblk hviol hdata hsil hf,
      fun r hviol => ⟨fun hquiet => ?_, fun hsil => violation_nakked hl hm hr hp hon hbus hlen hblk hviol hsil,
        fun e l k hsil he => violation_counted hl hm hp hon hblk hviol hsil he⟩⟩
    have hsame : silenceEnd s0 = s0 := by
      cases hs : s.flk.silent with
      | none => exact silenceEnd_none (by rw [hflk]; exact hs)
      | some q =>
        obtain ⟨e, l, k⟩ := q
        have hs0 : s0.flk.silent = some (e, l, k) := by rw [hflk]; exact hs
        rw [ecuSilent, hs0, hs] at hquiet
        exact silenceEnd_early hs0 (by simpa using hquiet)
    refine ⟨finish s2, (command_live t _ s hl).trans ?_, finish_settles_of s s2 hl hl0 hf0⟩
    rw [show silenceEnd (elapse t s) = elapse t s from hsame,
      ecuChallenge_ignores (p := p) (by rw [elapse_flk]; exact hp) (by rw [elapse_violReason]; exact hviol)]
  · obtain ⟨hrec, hfld⟩ := silenceEnd_ends (x := s0) (by rw [hflk]; exact hsil) he hk
      (by rw [elapse_nv_ledgerReady]; exact hr) (memorySafe_elapse_wf hm t)
    have hset : settles (silenceEnd s0) (finish (silenceEnd s0)) :=
      finish_settles_recorded (x := { s0 with flk := { s0.flk with silent := none } }) hl (congrArg Lgr.hostWait hl0) hf0 hrec
    refine ⟨_, command_live t _ s hl, ?_, (settles_fld hset _).trans hfld⟩
    rw [← hflk]
    exact recordsOnly_settles (hrec.recordsOnly rfl rfl rfl) hset
  · refine ⟨finish s0, (command_live t _ s hl).trans ?_, finish_settles_of s s0 hl hl0 hf0⟩
    rw [silenceEnd_early (x := elapse t s) (by rw [elapse_flk]; exact hsil) he]
  · exact busOffRecovery_recovers hl hm hbus (by rw [canOn, hisl, hen]; rfl)

end Sys2Proof.Machine
end

section
/-! SUPPORT. The pairing of the immobiliser. -/
namespace Sys2Proof.Machine

section
variable {s x : State} {t : Nat} {d : Desc} {p : Pairing}

/-! ## What an answer leaves -/

/-- A completion leaves the device's records alone. -/
theorem answers_recs {st det : Nat} {res : Bytes} {s' : State} (h : answers d st res det x s') : s'.nv.recs = x.nv.recs :=
  (congrArg (fun z : State => z.nv.recs) h.2.1 :)

/-- And the registers. -/
theorem answers_regGet {st det : Nat} {res : Bytes} {s' : State} (h : answers d st res det x s') (off : Nat) :
    regGet off s' = regGet off x := by
  have hr : s'.regs = x.regs := (congrArg State.regs h.2.1 :)
  have hp : s'.part = x.part := (congrArg State.part h.2.1 :)
  rw [regGet, regGet, hr, hp]

theorem answers_fld {st det : Nat} {res : Bytes} {s' : State} (h : answers d st res det x s') (f : Field) :
    fld f s' = fld f x := congrArg f.of (answers_regGet h f.off)

/-- A completion of a state, and the same one with the end of a frame after it. -/
theorem answers_frameEnds {st det : Nat} {res : Bytes} {c : State} (h : answers d st res det x (finish c))
    (hc : settles c (finish c)) (hf : settles (frameEnds c) (finish (frameEnds c))) :
    answers d st res det (frameEnds x) (finish (frameEnds c)) := by
  obtain ⟨⟨hflight, hentry⟩, hblank, hrest⟩ := h
  have hhif : (finish (frameEnds c)).hif = (finish c).hif := (settles_hif hf).trans (settles_hif hc).symm
  have hmem : (finish (frameEnds c)).hostMem = (finish c).hostMem := (settles_hostMem hf).trans (settles_hostMem hc).symm
  have hmon : (finish (frameEnds c)).mon = (finish c).mon := (settles_mon hf).trans (settles_mon hc).symm
  refine ⟨⟨by rw [hhif]; exact hflight, ?_⟩, ?_, ?_⟩
  · rw [hmem, hhif]
    exact hentry
  · have hcx : blankLines (blankHost c) = blankLines (blankHost x) :=
      (show blankHost (blankLines (finish c)) = blankHost (blankLines c) from congrArg blankHost hc).symm.trans hblank
    have hfc : blankLines (blankHost (finish (frameEnds c))) = blankLines (blankHost (frameEnds c)) :=
      (congrArg blankHost hf :)
    exact hfc.trans (congrArg frameEnds hcx :)
  · rw [hmem, hmon]
    exact hrest

/-- The end of a completion's command, with the end of a frame or without. -/
theorem complete_settles {st det : Nat} {res : Bytes} {cells offs : List Nat} (h : Answerable d x)
    (hr : Recorded cells offs x (counted d st x)) :
    settles (complete d st res det x) (finish (complete d st res det x)) ∧
      settles (frameEnds (complete d st res det x)) (finish (frameEnds (complete d st res det x))) := by
  obtain ⟨-, -, hhost, hwait, hqueue⟩ := h.recorded hr
  have honly : hostOnly (counted d st x) (complete d st res det x) := by
    rw [complete_eq]
    exact routeEntry_hostOnly _ _ _ _
  have hlgr : (complete d st res det x).lgr = (counted d st x).lgr := (congrArg State.lgr honly :)
  have hfold : (complete d st res det x).fold = (counted d st x).fold := (congrArg State.fold honly :)
  refine ⟨finish_settles _ (by rw [hlgr]; exact hhost) (by rw [hfold]; exact hwait) (by rw [hfold]; exact hqueue),
    finish_settles _ ?_ ?_ ?_⟩
  · show (complete d st res det x).lgr.hostWait.all _ = true
    rw [hlgr]
    exact hhost
  · show (complete d st res det x).fold.wait = []
    rw [hfold]
    exact hwait
  · show (complete d st res det x).fold.queue = []
    rw [hfold]
    exact hqueue

/-! ## A pairing is put in force -/

/-- The registers of the pairing (R292). -/
theorem syncPair_fields {y : State} (hp : y.flk.pair = some p) (hwf : Regs.wf y = true) :
    Recorded [] [FLK_ECU_BASE.reg, FLK_STATUS.reg] y (syncPair y) ∧
      fld FLK_ECU_BASE.BASE (syncPair y) = p.base % 2 ^ 29 ∧ fld FLK_ECU_BASE.PAIRED (syncPair y) = 1 := by
  let a : State := setFld FLK_STATUS.PAIRED 1 y
  let b : State := setFld FLK_ECU_BASE.PAIRED 1 a
  let c : State := setFlag FLK_ECU_BASE.XTD p.xtd b
  have hrun : syncPair y = setFld FLK_ECU_BASE.BASE p.base c := by
    rw [syncPair, hp]
  have hwfa : Regs.wf a = true := regs_wf_setFld _ _ _ hwf
  have hwfb : Regs.wf b = true := regs_wf_setFld _ _ _ hwfa
  have hwfc : Regs.wf c = true := regs_wf_setFld _ _ _ hwfb
  rw [hrun]
  refine ⟨?_, fld_setFld_same FLK_ECU_BASE.BASE (by decide) p.base c hwfc, ?_⟩
  · exact (((Recorded.setFld FLK_STATUS.PAIRED 1 y (by decide)).trans (.setFld FLK_ECU_BASE.PAIRED 1 a (by decide))).trans
      (.setFld FLK_ECU_BASE.XTD (b2n p.xtd) b (by decide))).trans (.setFld FLK_ECU_BASE.BASE p.base c (by decide))
  · refine (fld_setFld_apart FLK_ECU_BASE.BASE FLK_ECU_BASE.PAIRED (by decide) (by decide) p.base c hwfc).trans ?_
    refine (fld_setFld_apart FLK_ECU_BASE.XTD FLK_ECU_BASE.PAIRED (by decide) (by decide) (b2n p.xtd) b hwfb).trans ?_
    exact fld_setFld_same FLK_ECU_BASE.PAIRED (by decide) 1 a hwfa

/-- `e` is `x` with the pairing stored and in force (R296 check 6). -/
structure PairInForce (p : Pairing) (x e : State) : Prop where
  frame : Recorded [] [FLK_ECU_BASE.reg, FLK_STATUS.reg]
    { x with
      flk := { x.flk with stage := none, pair := some p }
      nv := { x.nv with recs := e.nv.recs, twins := e.nv.twins } } e
  stored : recRead recPair e = some (pairBytes p)
  others : ∀ id, id ≠ recPair → recGet id e = recGet id x
  base : fld FLK_ECU_BASE.BASE e = p.base % 2 ^ 29
  paired : fld FLK_ECU_BASE.PAIRED e = 1

/-- The staged pairing replaces the one in force. -/
theorem installPair_installs (probed : Bool) (p : Pairing) (hr : x.nv.ledgerReady = true) (hf : recFails recPair x = false)
    (hswf : swf (fun _ => Dual.empty) x.nv.recs = true) (hseq : x.nv.recs.all (fun r => seqsOk r.2) = true)
    (hwf : Regs.wf x = true) :
    ∃ e, installPair d probed p x = complete d stOk (pairResult probed p) 0 e ∧ PairInForce p x e := by
  let a : State := { x with flk := { x.flk with stage := none } }
  have hok := recStore_ok (s := a) (pairBytes p) hf
  have hay := Recorded.recStore (cells := []) (offs := []) recPair (pairBytes p) a hr
  have hread : recRead recPair (recStore recPair (pairBytes p) a).1 = some (pairBytes p) :=
    recStore_recRead (s := a) _ hf hswf hseq
  have hothers := fun (id : Nat) (hid : id ≠ recPair) => recStore_recGet_ne (pairBytes p) a hr hid
  rw [hok] at hay hread hothers
  generalize (recWrite recPair (pairBytes p) a).1 = y at hok hay hread hothers
  have hyflk : y.flk = a.flk := hay.flk
  have hry : y.nv.ledgerReady = true := hay.ledgerReady.trans hr
  have hwfy : Regs.wf y = true := hay.regs_wf hwf
  let z : State := { y with flk := { y.flk with pair := some p } }
  obtain ⟨hzs, hbase, hpaired⟩ := syncPair_fields (y := z) (p := p) rfl hwfy
  have hse : Recorded [] [] (syncPair z) (append 0x38 0 (p.base % 2 ^ 23 + 2 ^ 23 * b2n p.xtd) (syncPair z)) :=
    Recorded.append _ _ _ _ (hzs.ledgerReady.trans hry)
  have hze := hzs.trans (hse.mono (offs' := [FLK_ECU_BASE.reg, FLK_STATUS.reg]) (fun _ h => h) (by simp))
  have hxz : Recorded [] [FLK_ECU_BASE.reg, FLK_STATUS.reg]
      { x with
        flk := { x.flk with stage := none, pair := some p }, nv := { x.nv with recs := y.nv.recs, twins := y.nv.twins } } z := by
    have h := hay.withFlk { y.flk with pair := some p }
    rw [hyflk] at h
    have hz : z = { y with flk := { a.flk with pair := some p } } := by rw [← hyflk]
    rw [hz]
    exact h.mono (fun _ h => h) (by simp)
  have hrun : installPair d probed p x = complete d stOk (pairResult probed p) 0
      (append 0x38 0 (p.base % 2 ^ 23 + 2 ^ 23 * b2n p.xtd) (syncPair z)) := by
    rw [installPair]
    dsimp only
    rw [hok]
    rfl
  generalize append 0x38 0 (p.base % 2 ^ 23 + 2 ^ 23 * b2n p.xtd) (syncPair z) = e at hse hze hrun
  have hrecs : e.nv.recs = y.nv.recs := hze.recs
  have htwins : e.nv.twins = y.nv.twins := (congrArg (fun w : State => w.nv.twins) hze.blank :)
  refine ⟨e, hrun, ?_, ?_, fun id hid => ?_, (hse.fld _ (by decide)).trans hbase, (hse.fld _ (by decide)).trans hpaired⟩
  · rw [hrecs, htwins]
    exact hxz.trans hze
  · rw [recRead, recGet, hrecs]
    exact hread
  · rw [recGet, hrecs]
    exact hothers id hid

end

end Sys2Proof.Machine
end

section
/-! SUPPORT. IMMO_PAIR, its steps and its probe. -/
namespace Sys2Proof.Machine

section
variable {s : State} {t : Nat} {d : Desc} {p : Pairing}

/-! ## Outcomes of a pairing -/

/-- The pairing is in force, stored and answered; `s0` stands at the tick (R296 check 6). -/
def pairInstalled (s s0 : State) (d : Desc) (probed : Bool) (p : Pairing) (s' : State) : Prop :=
  ∃ s1, answers d stOk (pairResult probed p) 0 s1 s' ∧
    recordsOnly [] [FLK_ECU_BASE.reg, FLK_STATUS.reg]
      { s0 with
        flk := { s.flk with stage := none, pair := some p }
        nv := { s0.nv with recs := s1.nv.recs, twins := s1.nv.twins } } s1 ∧
    recRead recPair s' = some (pairBytes p) ∧ (∀ id, id ≠ recPair → recGet id s' = recGet id s) ∧
    fld FLK_ECU_BASE.BASE s' = p.base % 2 ^ 29 ∧ fld FLK_ECU_BASE.PAIRED s' = 1

/-- What the end of its command makes of it. -/
theorem pairInstalled_of {probed : Bool} {s0 e s' : State} {h : Hif} (he : PairInForce p (withHif h s0) e)
    (ha : answers d stOk (pairResult probed p) 0 e s') (hflk : s0.flk = s.flk) (hrecs : s0.nv.recs = s.nv.recs) :
    pairInstalled s s0 d probed p s' := by
  obtain ⟨hframe, hread, hothers, hbase, hpaired⟩ := he
  refine ⟨e, ha, ?_, ?_, fun id hid => ?_, (answers_fld ha _).trans hbase, (answers_fld ha _).trans hpaired⟩
  · rw [← hflk]
    exact hframe.recordsOnly rfl rfl rfl
  · rw [recRead, recGet, answers_recs ha]
    exact hread
  · rw [recGet, answers_recs ha]
    refine (hothers id hid).trans ?_
    show sget _ id s0.nv.recs = _
    rw [hrecs]
    rfl

/-- The pairing ends with a status, as it was before (R296). -/
def pairDropped (s s0 : State) (d : Desc) (st : Nat) (s' : State) : Prop :=
  ∃ s1, answers d st [] 0 s1 s' ∧ recordsOnly [] [CRY_CNT1.reg] { s0 with flk := { s.flk with stage := none } } s1

/-- A descriptor that can be answered can be answered with a status that counts no violation of its own. -/
theorem dropped_settles {x : State} {st : Nat} (h : Answerable d x) (hr : x.nv.ledgerReady = true)
    (hst : ¬ (1 ≤ st ∧ st ≤ 6)) :
    answers d st [] 0 (counted d st x) (finish (fail d st 0 x)) ∧ Recorded [] [] x (counted d st x) := by
  have hrec : Recorded [] [] x (counted d st x) := Recorded.counted d st x hr (fun hc => absurd hc hst)
  exact ⟨h.counted hrec, hrec⟩

/-- The conditions of a probe (R296 check 5). -/
structure ProbeMay (x : State) : Prop where
  draws : drawFails x = none
  can : canOn x = true
  bus : busOff x = false
  queue : x.flk.txq.length < 8

/-- The immobiliser with a probe on its way. -/
def probing (g : PairStage) (x : State) : Flk :=
  { x.flk with
    stage := some { g with probe := some (leNat (freeBytes 8 x), now x) }
    canOut := { id := g.pair.base + 1, xtd := g.pair.xtd, data := [0x13, 0, 0, 0, 0, 0, 0, 0] ++ freeBytes 8 x }
      :: x.flk.canOut }

/-- PROBE (R296 check 5). -/
theorem sendProbe_sends (g : PairStage) {x : State} (h : ProbeMay x) :
    sendProbe g x = { x with regs := (drawBytes 8 x).2.regs, free := x.free + 8, flk := probing g x } := by
  obtain ⟨-, hcan, hbus, hq⟩ := h
  obtain ⟨hframe, hkeep⟩ := drawBytes_frame 8 x
  have hbytes : (drawBytes 8 x).1 = freeBytes 8 x := rfl
  generalize hy : (drawBytes 8 x).2 = y at hframe hkeep
  have hflk : y.flk = x.flk := by rw [hframe]
  have hcany : canOn y = true := by
    rw [← hcan, canOn, canOn, flag, flag, hkeep.fld FLK_CAN_CFG.EN (by decide), islandOn, islandOn, hframe]
  have hbusy : busOff y = false := by
    rw [← hbus, busOff, busOff, hkeep.fld FLK_CAN_STAT.STATE (by decide)]
  rw [sendProbe]
  dsimp only
  rw [hbytes, hy, queueCan_sends _ (by rw [hflk]; exact hq) hcany hbusy, hflk]
  have hparts : ∀ k : Flk, ({ y with flk := k } : State) = { x with regs := y.regs, free := x.free + 8, flk := k } := by
    intro k
    conv_lhs => rw [hframe]
  have hnow : ∀ k : Flk, now ({ y with flk := k } : State) = now x := by
    intro k
    rw [hparts]
    rfl
  rw [hnow]
  exact hparts _

/-- What the end of its command makes of a probe. -/
theorem probe_settles (g : PairStage) (hs : serves t d s) (h : ProbeMay s) :
    drawFails (atWork d (elapse t s)) = none ∧
      settles { atWork d (elapse t s) with
        free := s.free + 8
        regs := (finish (sendProbe g (atWork d (elapse t s)))).regs, flk := probing g (elapse t s) }
        (finish (sendProbe g (atWork d (elapse t s)))) ∧
      keepsRegs [RNG_REQ_CNT.reg, RNG_STATUS.reg] s (finish (sendProbe g (atWork d (elapse t s)))) := by
  obtain ⟨h0, hwork, -⟩ := served_atUnit hs
  rw [hwork]
  let w : State := withHif h0 (elapse t s)
  have hdraw : drawFails w = none := by
    rw [← h.draws, drawFails, drawFails, show rngState w = rngState s from elapse_rngState t s]
  have hw : ProbeMay w := by
    refine ⟨hdraw, ?_, ?_, ?_⟩
    · exact (show canOn w = canOn s from elapse_canOn t s).trans h.can
    · exact (show busOff w = busOff s from elapse_busOff t s).trans h.bus
    · show (elapse t s).flk.txq.length < 8
      rw [elapse_flk]
      exact h.queue
  have hsend := sendProbe_sends g hw
  obtain ⟨hdframe, hkeep⟩ := drawBytes_frame 8 w
  have hreg : ∀ off, regGet off (sendProbe g w) = regGet off (drawBytes 8 w).2 := by
    intro off
    have hpart : (drawBytes 8 w).2.part = w.part := by rw [hdframe]
    rw [regGet, regGet, hsend, hpart]
  have hset : settles (sendProbe g w) (finish (sendProbe g w)) := by
    refine finish_settles_of s _ ((running_iff s).mp hs.1).1 ?_ ?_
    · rw [hsend]
      exact elapse_lgr t s
    · rw [hsend]
      exact elapse_fold t s
  refine ⟨hdraw, ?_, fun off ho => ?_⟩
  · rw [settles_regs hset]
    have hframe : ({ w with
        free := s.free + 8, regs := (sendProbe g w).regs, flk := probing g (elapse t s) } : State) = sendProbe g w := by
      rw [hsend, ← elapse_free t s]
      rfl
    rw [hframe]
    exact hset
  · rw [settles_regGet hset, hreg]
    exact (hkeep.keeps off ho).trans (elapse_regGet off t s)

end

end Sys2Proof.Machine
end

section
/-! SUPPORT. IMMO_PAIR: the commands and the statement. -/
namespace Sys2Proof.Machine

section
variable {s : State} {t : Nat} {d : Desc}

/-! ## The units -/

/-- IMMO_PAIR of a blob that passes its checks (R296). -/
theorem pairUnit_passes {w : State} {b k : Bytes} {n : Nat} {x : Slot} (h0 : p8 d 0 ≤ 1) (h1 : p8 d 1 = 0)
    (hp : parNonzero 4 24 d = none) (hno : p8 d 0 = 1 → lcState w ≤ 1) (hread : dmaRead d d.srcAddr 56 w = some b)
    (hblob : pairBlobOk b = true) (hkey : keyFor (p16 d 2) 3 isAes w = some (n, x))
    (hk : kwUnwrap x.key (slice 16 24 b) = some k) (hmac : cmac k (b.take 40) = slice 40 16 b) :
    (p8 d 0 = 1 → pairUnit d w = installPair d false (pairOfBlob b k) w) ∧
      (p8 d 0 = 0 → drawFails w = none → pairUnit d w =
        sendProbe { d := some d, pair := pairOfBlob b k, checked := true, probe := none, probed := false } w) := by
  have hok : pairCmacOk b k = true := by simp [pairCmacOk, hmac]
  have hform : ¬ (p8 d 0 > 1 ∨ (p8 d 0 = 1 ∧ noProbeOk w = false)) := by
    rintro (h | ⟨h, h'⟩)
    · omega
    · simp [noProbeOk, hno h] at h'
  have hunit : pairUnit d w = pairUnit d w := rfl
  conv_rhs at hunit => rw [pairUnit]
  dsimp only at hunit
  rw [if_neg hform, if_neg (by simp [h1]), reserved_free hp, readSrc_some hread, if_neg (by simp [hblob]), hkey] at hunit
  dsimp only at hunit
  rw [hk] at hunit
  dsimp only at hunit
  rw [if_neg (by simp [hok])] at hunit
  refine ⟨fun h => ?_, fun h hd => ?_⟩
  · rw [hunit, if_pos h]
  · rw [hunit, if_neg (by omega), hd]

/-- A STEP runs while Drover is at work on the pairing (Table 01.7). -/
theorem stepForm_runs {w : State} (k : State → State) (hsrc : d.src = .drover) (hwork : workingOn 0x3A w = true)
    (hp : parNonzero 4 24 d = none) : stepForm d k w = k w := by
  rw [stepForm, if_pos (by simp [hsrc, hwork]), reserved_free hp]

/-- A STEP's descriptor reads as it is. -/
theorem asStep_self {k : Nat} (h : isMode 0x3A 0x80 d = true) (h1 : p8 d 1 = k) : asStep k d = d := by
  obtain ⟨hrow, h0⟩ : isRow 0x3A d = true ∧ p8 d 0 = 0x80 := by simpa [isMode] using h
  have hwf : d.wf = true := by
    simp only [isRow, Bool.and_eq_true] at hrow
    exact hrow.1
  rw [asStep, asOp_self hrow, setPar_self hwf (by decide) h0, setPar_self hwf (by decide) h1]

/-- What a unit's state has of Drover's work. -/
theorem working_droverWork (fl : List Flight) (tn t : Nat) (s : State) :
    droverWork (working fl tn (elapse t s)) = droverWork s := by
  rw [droverWork, droverWork, show (working fl tn (elapse t s)).hif.droverQ = s.hif.droverQ from
    (congrArg Hif.droverQ (elapse_hif t s) :)]

/-- The install of a served descriptor. -/
theorem served_installs {fl : List Flight} {tn : Nat} {probed : Bool} (p : Pairing) (hs : serves t d s)
    (hr : s.nv.ledgerReady = true) (hans : Answerable d (working fl tn (elapse t s))) (hf : recFails recPair s = false) :
    pairInstalled s (elapse t s) d probed p (finish (installPair d probed p (working fl tn (elapse t s)))) := by
  obtain ⟨-, hm, hsh, -⟩ := hs
  obtain ⟨-, -, -, -, -, hswf⟩ := memorySafe_elapse hm t
  obtain ⟨-, -, -, -, -, -, -, hseq⟩ := shaped_elapse hsh t
  obtain ⟨e, hrun, he⟩ := installPair_installs (x := working fl tn (elapse t s)) (d := d) probed p
    ((elapse_nv_ledgerReady t s).trans hr) ((congrArg (fun l => l.contains recPair) (elapse_nv_wornRecs t s)).trans hf)
    hswf hseq (memorySafe_elapse_wf hm t)
  have hanse : Answerable d e := by
    refine Answerable.recorded ?_ he.frame
    exact ⟨hans.heard, hans.mem, hans.hostWait, hans.wait, hans.queue⟩
  rw [hrun]
  exact pairInstalled_of he (hanse.quiet (quietStatus_ok _)) (elapse_flk t s) (elapse_nv_recs t s)

/-! ## IMMO_PAIR and its steps -/

/-- A blob that passes the checks of R296, as the statement gives them. -/
structure BlobPasses (d : Desc) (b k : Bytes) (s : State) : Prop where
  read : dmaRead d d.srcAddr 56 s = some b
  blob : pairBlobOk b = true
  key : ∃ n x, keyFor (p16 d 2) 3 isAes s = some (n, x) ∧ kwUnwrap x.key (slice 16 24 b) = some k
  mac : cmac k (b.take 40) = slice 40 16 b

theorem BlobPasses.unit {b k : Bytes} (h : BlobPasses d b k s) (fl : List Flight) (tn : Nat) (h0 : p8 d 0 ≤ 1)
    (h1 : p8 d 1 = 0) (hp : parNonzero 4 24 d = none) (hno : p8 d 0 = 1 → lcState s ≤ 1) :
    (p8 d 0 = 1 → pairUnit d (working fl tn (elapse t s)) =
        installPair d false (pairOfBlob b k) (working fl tn (elapse t s))) ∧
      (p8 d 0 = 0 → drawFails (working fl tn (elapse t s)) = none → pairUnit d (working fl tn (elapse t s)) =
        sendProbe { d := some d, pair := pairOfBlob b k, checked := true, probe := none, probed := false }
          (working fl tn (elapse t s))) := by
  obtain ⟨hread, hblob, ⟨n, x, hkey, hk⟩, hmac⟩ := h
  obtain ⟨hwkey, hwread, -⟩ := working_crypt (s := s) (t := t) (d := d) fl tn (p16 d 2) 3 isAes d.srcAddr 56
  refine pairUnit_passes h0 h1 hp (fun h => ?_) (hwread.trans hread) hblob (hwkey.trans hkey) hk hmac
  rw [show lcState (working fl tn (elapse t s)) = lcState s from elapse_lcState t s]
  exact hno h

/-- With NOPROBE the pairing is in force at once (R296). -/
theorem immoPair_installs {b k : Bytes} (hs : serves t d s) (hrow : isRow 0x3A d = true) (h : BlobPasses d b k s)
    (h0 : p8 d 0 = 1) (h1 : p8 d 1 = 0) (hp : parNonzero 4 24 d = none) (hr : s.nv.ledgerReady = true)
    (hlc : lcState s ≤ 1) (hf : recFails recPair s = false) :
    ∃ s', exec (.immoPair t d) s = .next s' ∧ pairInstalled s (elapse t s) d false (pairOfBlob b k) s' := by
  obtain ⟨fl, tn, hans, hrun⟩ := served_working hs
  refine ⟨_, ?_, served_installs (fl := fl) (tn := tn) (probed := false) (pairOfBlob b k) hs hr hans hf⟩
  show descCommand t (asOp 0x3A d) pairUnit s = _
  rw [asOp_self hrow, hrun pairUnit, (h.unit fl tn (by omega) h1 hp (fun _ => hlc)).1 h0]

/-- A probe is on its way; the descriptor waits (R296). -/
def pairProbes (s s0 : State) (d : Desc) (g : PairStage) (s' : State) : Prop :=
  settles { atWork d s0 with
    free := s.free + 8, regs := s'.regs
    flk := { s.flk with
      stage := some { g with probe := some (leNat (freeBytes 8 s0), now s0) }
      canOut := { id := g.pair.base + 1, xtd := g.pair.xtd, data := [0x13, 0, 0, 0, 0, 0, 0, 0] ++ freeBytes 8 s0 }
        :: s.flk.canOut } } s' ∧
  keepsRegs [RNG_REQ_CNT.reg, RNG_STATUS.reg] s s'

theorem served_probes (g : PairStage) (hs : serves t d s) (h : ProbeMay s) :
    pairProbes s (elapse t s) d g (finish (sendProbe g (atWork d (elapse t s)))) := by
  obtain ⟨-, hset, hkeep⟩ := probe_settles g hs h
  refine ⟨?_, hkeep⟩
  rw [probing, elapse_flk] at hset
  exact hset

/-- Without it the ECU is probed (R296). -/
theorem immoPair_probes {b k : Bytes} (hs : serves t d s) (hrow : isRow 0x3A d = true) (h : BlobPasses d b k s)
    (h0 : p8 d 0 = 0) (h1 : p8 d 1 = 0) (hp : parNonzero 4 24 d = none) (hmay : ProbeMay s) :
    ∃ s', exec (.immoPair t d) s = .next s' ∧ pairProbes s (elapse t s) d
      { d := some d, pair := pairOfBlob b k, checked := true, probe := none, probed := false } s' := by
  obtain ⟨fl, tn, hw⟩ := atWork_working d (elapse t s) hs.2.2.2
  obtain ⟨-, hrun⟩ := served_atWork hs
  obtain ⟨hdraw, -⟩ := probe_settles { d := some d, pair := pairOfBlob b k, checked := true, probe := none, probed := false }
    hs hmay
  refine ⟨_, ?_, served_probes _ hs hmay⟩
  show descCommand t (asOp 0x3A d) pairUnit s = _
  rw [asOp_self hrow, hrun pairUnit]
  rw [hw] at hdraw ⊢
  rw [(h.unit fl tn (by omega) h1 hp (fun h => by omega)).2 h0 hdraw]

/-- STEP 1 (R31, R296). -/
theorem stepCmac_checks {b : Bytes} {g : PairStage} (hs : serves t d s) (hmode : isMode 0x3A 0x80 d = true)
    (hsrc : d.src = .drover) (hwork : workingOn 0x3A s = true) (hp : parNonzero 4 24 d = none)
    (hg : s.flk.stage = some g) (h1 : p8 d 1 = 1) (hread : dmaRead d d.srcAddr 56 s = some b) (hblob : pairBlobOk b = true)
    (hr : s.nv.ledgerReady = true) :
    (cmac g.pair.key (b.take 40) = slice 40 16 b →
      ∃ s', exec (.immoPairStepCmac t d) s = .next s' ∧ answers d stOk [] 0
        { elapse t s with
          flk := { s.flk with stage := some { g with pair := pairOfBlob b g.pair.key, checked := true } } } s') ∧
    (cmac g.pair.key (b.take 40) ≠ slice 40 16 b →
      ∃ s', exec (.immoPairStepCmac t d) s = .next s' ∧ pairDropped s (elapse t s) d stMacFail s') := by
  obtain ⟨fl, tn, hans, hrun⟩ := served_working hs
  have hwork' : workingOn 0x3A (working fl tn (elapse t s)) = true := by
    rw [workingOn, working_droverWork]
    exact hwork
  have hreadw : dmaRead d d.srcAddr 56 (working fl tn (elapse t s)) = some b :=
    (working_crypt fl tn 0 0 isAes d.srcAddr 56).2.1.trans hread
  have hflk : (working fl tn (elapse t s)).flk = s.flk := elapse_flk t s
  have hexec : exec (.immoPairStepCmac t d) s = .next (finish (stepCmac d (working fl tn (elapse t s)))) := by
    show descCommand t (asStep 1 d) stepCmac s = _
    rw [asStep_self hmode h1, hrun stepCmac]
  have hunit : stepCmac d (working fl tn (elapse t s)) =
      if pairCmacOk b g.pair.key = false then
        fail d stMacFail 0 (countMac { working fl tn (elapse t s) with flk := { s.flk with stage := none } })
      else complete d stOk [] 0 { working fl tn (elapse t s) with
        flk := { s.flk with stage := some { g with pair := pairOfBlob b g.pair.key, checked := true } } } := by
    rw [stepCmac, stepForm_runs _ hsrc hwork' hp, readSrc_some hreadw, hflk, hg]
    dsimp only
    rw [if_neg (by simp [hblob])]
  refine ⟨fun hmac => ?_, fun hmac => ?_⟩
  · rw [if_neg (by simp [pairCmacOk, hmac])] at hunit
    refine ⟨_, hexec, ?_⟩
    rw [hunit]
    let z : State := { elapse t s with
      flk := { s.flk with stage := some { g with pair := pairOfBlob b g.pair.key, checked := true } } }
    have hansz : Answerable d (working fl tn z) := ⟨hans.heard, hans.mem, hans.hostWait, hans.wait, hans.queue⟩
    exact answers_of_working (fl := fl) (tn := tn) (hansz.quiet (quietStatus_ok _))
  · rw [if_pos (by simp [pairCmacOk, hmac])] at hunit
    refine ⟨_, hexec, ?_⟩
    rw [hunit]
    let z : State := { working fl tn (elapse t s) with flk := { s.flk with stage := none } }
    have hz : Recorded [] [CRY_CNT1.reg] z (countMac z) := Recorded.bump _ z (by decide)
    have hansz : Answerable d z := ⟨hans.heard, hans.mem, hans.hostWait, hans.wait, hans.queue⟩
    obtain ⟨ha, hrec⟩ := dropped_settles (st := stMacFail) (hansz.recorded hz)
      ((hz.ledgerReady.trans (elapse_nv_ledgerReady t s)).trans hr) (by decide)
    exact ⟨_, ha, (hz.trans (hrec.mono (fun _ h => h) (by simp))).recordsOnly rfl rfl rfl⟩

/-- STEP 2 (R31, R296). -/
theorem stepProbe_probes {g : PairStage} (hs : serves t d s) (hmode : isMode 0x3A 0x80 d = true)
    (hsrc : d.src = .drover) (hwork : workingOn 0x3A s = true) (hp : parNonzero 4 24 d = none)
    (hg : s.flk.stage = some g) (h1 : p8 d 1 = 2) (hc : g.checked = true) (hmay : ProbeMay s) :
    ∃ s', exec (.immoPairStepProbe t d) s = .next s' ∧ pairProbes s (elapse t s) d { g with d := some d } s' := by
  obtain ⟨fl, tn, hw⟩ := atWork_working d (elapse t s) hs.2.2.2
  obtain ⟨-, hrun⟩ := served_atWork hs
  obtain ⟨hdraw, -⟩ := probe_settles { g with d := some d } hs hmay
  refine ⟨_, ?_, served_probes _ hs hmay⟩
  show descCommand t (asStep 2 d) stepProbe s = _
  rw [asStep_self hmode h1, hrun stepProbe]
  rw [hw] at hdraw ⊢
  have hwork' : workingOn 0x3A (working fl tn (elapse t s)) = true := by
    rw [workingOn, working_droverWork]
    exact hwork
  rw [stepProbe, stepForm_runs _ hsrc hwork' hp, show (working fl tn (elapse t s)).flk = s.flk from elapse_flk t s, hg]
  dsimp only
  rw [if_neg (by simp [hc]), hdraw]

/-- STEP 3 (R31, R296). -/
theorem stepInstall_installs {g : PairStage} (hs : serves t d s) (hmode : isMode 0x3A 0x80 d = true)
    (hsrc : d.src = .drover) (hwork : workingOn 0x3A s = true) (hp : parNonzero 4 24 d = none)
    (hg : s.flk.stage = some g) (h1 : p8 d 1 = 3) (hc : g.checked = true) (hr : s.nv.ledgerReady = true) :
    (g.probed = true → recFails recPair s = false →
      ∃ s', exec (.immoPairStepInstall t d) s = .next s' ∧ pairInstalled s (elapse t s) d true g.pair s') ∧
    (g.probed = false → (droverWork s).any (fun w => p8 w 0 == 1) = false →
      ∃ s', exec (.immoPairStepInstall t d) s = .next s' ∧ answers d stNoResponse [] 0 (elapse t s) s') := by
  obtain ⟨fl, tn, hans, hrun⟩ := served_working hs
  have hdw := working_droverWork fl tn t s
  have hwork' : workingOn 0x3A (working fl tn (elapse t s)) = true := by
    rw [workingOn, hdw]
    exact hwork
  have hexec : exec (.immoPairStepInstall t d) s = .next (finish (stepInstall d (working fl tn (elapse t s)))) := by
    show descCommand t (asStep 3 d) stepInstall s = _
    rw [asStep_self hmode h1, hrun stepInstall]
  have hunit : stepInstall d (working fl tn (elapse t s)) =
      if g.probed = false ∧ (droverWork s).any (fun w => p8 w 0 == 1) = false then
        fail d stNoResponse 0 (working fl tn (elapse t s))
      else installPair d g.probed g.pair (working fl tn (elapse t s)) := by
    rw [stepInstall, stepForm_runs _ hsrc hwork' hp]
    dsimp only
    rw [show (working fl tn (elapse t s)).flk = s.flk from elapse_flk t s, hg, hdw]
    dsimp only
    rw [if_neg (by simp [hc])]
  refine ⟨fun hpr hf => ⟨_, hexec, ?_⟩, fun hpr hno => ⟨_, hexec, ?_⟩⟩
  · rw [hunit, if_neg (by simp [hpr]), hpr]
    exact served_installs (fl := fl) (tn := tn) (probed := true) g.pair hs hr hans hf
  · rw [hunit, if_pos ⟨hpr, hno⟩]
    refine answers_of_working (fl := fl) (tn := tn) (hans.quiet ?_)
    have hop : d.opcode = 0x3A := opcode_of_isMode hmode
    rw [hop]
    rfl

end

end Sys2Proof.Machine
end

section
/-! SUPPORT. The answer to a probe, and the statement of the pairing. -/
namespace Sys2Proof.Machine

section
variable {s : State} {t : Nat} {d : Desc} {g : PairStage} {n at0 : Nat}

/-! ## The end of a probe -/

/-- The statuses of a probe's end count no violation of the queue (R127). -/
theorem answerable_at (hl : live s = true) (hm : memorySafe s) (hh : heard d (elapse t s) = true) :
    Answerable d (elapse t s) := by
  obtain ⟨hhost, hwait, hqueue⟩ := live_waits (t := t) hl
  exact ⟨hh, (memorySafe_elapse hm t).1, hhost, hwait, hqueue⟩

/-- A completion before the end of a frame. -/
theorem frame_answers {st det : Nat} {res : Bytes} {x : State} (h : Answerable d x) (hr : x.nv.ledgerReady = true)
    (hst : ¬ (1 ≤ st ∧ st ≤ 6)) :
    answers d st res det (frameEnds (counted d st x)) (finish (frameEnds (complete d st res det x))) ∧
      Recorded [] [] x (counted d st x) := by
  have hrec : Recorded [] [] x (counted d st x) := Recorded.counted d st x hr (fun hc => absurd hc hst)
  obtain ⟨h1, h2⟩ := complete_settles (res := res) (det := det) h hrec
  exact ⟨answers_frameEnds (h.counted hrec) h1 h2, hrec⟩

/-- A quiet one. -/
theorem frame_answers_quiet {st det : Nat} {res : Bytes} {x : State} (h : Answerable d x) (hr : x.nv.ledgerReady = true)
    (hq : quietStatus st d.opcode = true) :
    answers d st res det (frameEnds x) (finish (frameEnds (complete d st res det x))) := by
  have hst : ¬ (1 ≤ st ∧ st ≤ 6) := by
    intro hc
    simp [quietStatus, hc] at hq
  have hrec : Recorded [] [] x (counted d st x) := Recorded.counted d st x hr (fun hc => absurd hc hst)
  obtain ⟨h1, h2⟩ := complete_settles (res := res) (det := det) h hrec
  exact answers_frameEnds (h.quiet hq) h1 h2

/-- An answer to the probe runs to its end (R296). -/
theorem probeAns_ends {f : EcuFrame} {x : State} (hg : x.flk.stage = some g) (hp : g.probe = some (n, at0))
    (hcan : canOn x = true) (hf : probeFrame f x = true) (hin : now x ≤ at0 + msTicks 200) :
    probeAns f x = probeEnds g (if slice 8 8 f.data == pairMac g.pair.key ([0x14] ++ leBytes 8 n ++ vidBytes x) then stOk
      else stMacFail) x := by
  simp only [probeAns, hg, hp]
  rw [onlyIf, if_pos (by simp [hcan, hf, hin])]

/-- Another status than OK drops the pairing. -/
theorem probeEnds_drops {st : Nat} {x : State} (hd : g.d = some d) (hst : st ≠ stOk) :
    probeEnds g st x = fail d st 0 { x with flk := { x.flk with stage := none } } := by
  rw [probeEnds, hd]
  dsimp only
  rw [if_pos hst]

/-- OK ends Drover's step, or puts the pairing in force. -/
theorem probeEnds_ok {x : State} (hd : g.d = some d) : probeEnds g stOk x =
    if bit 7 (p8 d 0) = true then complete d stOk [] 0
      { x with flk := { x.flk with stage := some { g with d := none, probe := none, probed := true } } }
    else installPair d true g.pair x := by
  rw [probeEnds, hd]
  dsimp only
  rw [if_neg (by decide)]

/-- PROBE_ANS_FRAME (R296). -/
theorem probeAnsFrame_ends {f : EcuFrame} (hl : live s = true) (hm : memorySafe s) (hsh : shaped s)
    (hr : s.nv.ledgerReady = true) (hg : s.flk.stage = some g) (hp : g.probe = some (n, at0)) (hd : g.d = some d)
    (hh : heard d (elapse t s) = true) (hcan : canOn s = true) (hf : probeFrame f s = true)
    (hin : now (elapse t s) ≤ at0 + msTicks 200) :
    let good := slice 8 8 f.data == pairMac g.pair.key ([0x14] ++ leBytes 8 n ++ vidBytes s)
    (good = true → bit 7 (p8 d 0) = true →
      ∃ s', exec (.probeAnsFrame t f) s = .next s' ∧ answers d stOk [] 0
        { frameEnds (elapse t s) with
          flk := { s.flk with stage := some { g with d := none, probe := none, probed := true } } } s') ∧
    (good = true → bit 7 (p8 d 0) = false → recFails recPair s = false →
      ∃ s', exec (.probeAnsFrame t f) s = .next s' ∧ pairInstalled s (frameEnds (elapse t s)) d true g.pair s') ∧
    (good = false →
      ∃ s', exec (.probeAnsFrame t f) s = .next s' ∧ pairDropped s (frameEnds (elapse t s)) d stMacFail s') := by
  intro good
  have hans := answerable_at (t := t) hl hm hh
  have hflk := elapse_flk t s
  have hready : (elapse t s).nv.ledgerReady = true := (elapse_nv_ledgerReady t s).trans hr
  have hprobe : probeFrame f (elapse t s) = true := by rw [probeFrame, hflk]; exact hf
  have hvid : vidBytes (elapse t s) = vidBytes s := by rw [vidBytes, vidBytes, elapse_fld]
  have hrun : exec (.probeAnsFrame t f) s =
      .next (finish (frameEnds (probeEnds g (if good then stOk else stMacFail) (elapse t s)))) := by
    refine (command_live t _ s hl).trans ?_
    rw [probeAns_ends (g := g) (by rw [hflk]; exact hg) hp (by rw [elapse_canOn]; exact hcan) hprobe hin, hvid]
  refine ⟨fun hgood hstep => ⟨_, hrun, ?_⟩, fun hgood hstep hfail => ⟨_, hrun, ?_⟩, fun hgood => ⟨_, hrun, ?_⟩⟩
  · rw [hgood, if_pos rfl, probeEnds_ok hd, if_pos hstep, hflk]
    let z : State := { elapse t s with
      flk := { s.flk with stage := some { g with d := none, probe := none, probed := true } } }
    have hansz : Answerable d z := ⟨hans.heard, hans.mem, hans.hostWait, hans.wait, hans.queue⟩
    exact frame_answers_quiet hansz hready (quietStatus_ok _)
  · rw [hgood, if_pos rfl, probeEnds_ok hd, if_neg (by rw [hstep]; decide)]
    obtain ⟨-, -, -, -, -, hswf⟩ := memorySafe_elapse hm t
    obtain ⟨-, -, -, -, -, -, -, hseq⟩ := shaped_elapse hsh t
    obtain ⟨e, hinst, he⟩ := installPair_installs (x := elapse t s) (d := d) true g.pair hready
      (by rw [recFails, elapse_nv_wornRecs]; exact hfail) hswf hseq (memorySafe_elapse_wf hm t)
    have hanse : Answerable d e := by
      refine Answerable.recorded ?_ he.frame
      exact ⟨hans.heard, hans.mem, hans.hostWait, hans.wait, hans.queue⟩
    have hef : PairInForce g.pair (withHif (elapse t s).hif (frameEnds (elapse t s))) (frameEnds e) :=
      ⟨he.frame.frameEnds, he.stored, he.others, he.base, he.paired⟩
    rw [hinst]
    exact pairInstalled_of hef (frame_answers_quiet hanse (he.frame.ledgerReady.trans hready) (quietStatus_ok _)) hflk
      (elapse_nv_recs t s)
  · rw [hgood, if_neg (by decide), probeEnds_drops hd (by decide), hflk]
    let z : State := { elapse t s with flk := { s.flk with stage := none } }
    have hansz : Answerable d z := ⟨hans.heard, hans.mem, hans.hostWait, hans.wait, hans.queue⟩
    obtain ⟨ha, hrec⟩ := frame_answers (st := stMacFail) (res := []) (det := 0) hansz hready (by decide)
    exact ⟨_, ha, (hrec.frameEnds.mono (fun _ h => h) (by simp)).recordsOnly rfl rfl rfl⟩

/-- PROBE_ANS_TIMEOUT (R296). -/
theorem probeAnsTimeout_drops (hl : live s = true) (hm : memorySafe s) (hr : s.nv.ledgerReady = true)
    (hg : s.flk.stage = some g) (hp : g.probe = some (n, at0)) (hd : g.d = some d) (hh : heard d (elapse t s) = true)
    (hout : at0 + msTicks 200 ≤ now (elapse t s)) :
    ∃ s', exec (.probeAnsTimeout t) s = .next s' ∧ pairDropped s (elapse t s) d stNoResponse s' := by
  have hans := answerable_at (t := t) hl hm hh
  have hflk := elapse_flk t s
  let z : State := { elapse t s with flk := { s.flk with stage := none } }
  have hansz : Answerable d z := ⟨hans.heard, hans.mem, hans.hostWait, hans.wait, hans.queue⟩
  obtain ⟨ha, hrec⟩ := dropped_settles (st := stNoResponse) hansz ((elapse_nv_ledgerReady t s).trans hr) (by decide)
  refine ⟨finish (fail d stNoResponse 0 z), (command_live t _ s hl).trans ?_, _, ha,
    (hrec.mono (fun _ h => h) (by simp)).recordsOnly rfl rfl rfl⟩
  simp only [hflk, hg, hp]
  rw [onlyIf, if_pos (by simpa using hout), probeEnds_drops hd (by decide), hflk]

end

/-! ## The statement -/

/-- Settles O38: the host's form, Drover's steps, and the probe's end. -/
theorem immobiliserIsPaired : Obligations.ImmobiliserIsPaired := by
  unfold Obligations.ImmobiliserIsPaired
  intro s t hl hm hsh hr s0 installs sends probes drops
  refine ⟨fun d b n x k hs hrow h0 h1 hp hread hblob hkey hk hmac => ?_,
    fun d g hs hmode hsrc hwork hp hg => ⟨fun b h1 hread hblob => ?_, fun h1 hc hmay => ?_, fun h1 hc hpr hf => ?_,
      fun h1 hc hpr hno => ?_⟩, fun d g n at0 hg hp hd hh => ⟨fun f hcan hf hin => ?_, fun hout => ?_⟩⟩
  · intro p
    have hpass : BlobPasses d b k s := ⟨hread, hblob, ⟨n, x, hkey, hk⟩, hmac⟩
    refine ⟨fun h hlc hf => immoPair_installs hs hrow hpass h h1 hp hr hlc hf, fun h hmay => ?_⟩
    obtain ⟨ha, hb, hc, hd⟩ := hmay
    exact immoPair_probes hs hrow hpass h h1 hp ⟨ha, hb, hc, hd⟩
  · exact stepCmac_checks hs hmode hsrc hwork hp hg h1 hread hblob hr
  · obtain ⟨ha, hb, hc', hd⟩ := hmay
    exact stepProbe_probes hs hmode hsrc hwork hp hg h1 hc ⟨ha, hb, hc', hd⟩
  · exact (stepInstall_installs hs hmode hsrc hwork hp hg h1 hc hr).1 hpr hf
  · exact (stepInstall_installs hs hmode hsrc hwork hp hg h1 hc hr).2 hpr hno
  · exact probeAnsFrame_ends hl hm hsh hr hg hp hd hh hcan hf hin
  · exact probeAnsTimeout_drops hl hm hr hg hp hd hh hout

end Sys2Proof.Machine
end

section
/-! SUPPORT. Reading the array and the tally counters. -/
namespace Sys2Proof.Machine

section
variable {s : State} {t : Nat} {d : Desc}

/-! ## Two states with the same array -/

/-- The array reads alike, and its words are as correctable. -/
structure SameArray (x y : State) : Prop where
  mem : y.nv.mem = x.nv.mem
  bad : y.nv.bad = x.nv.bad
  soft : y.nv.soft = x.nv.soft

namespace SameArray

variable {x y : State} (h : SameArray x y)
include h

theorem peek (a n : Nat) : nvPeek a n y = nvPeek a n x := nvPeek_congr h.mem a n

theorem badWord (a n : Nat) : badWord a n y = badWord a n x := by
  rw [Machine.badWord, Machine.badWord, h.bad]

theorem hostCopy (n c : Nat) : hostCopy n c y = hostCopy n c x := by
  unfold Machine.hostCopy
  simp only [h.peek, h.badWord]

theorem hostRec (n : Nat) : hostRec n y = hostRec n x := by
  rw [Machine.hostRec, Machine.hostRec, h.hostCopy, h.hostCopy]

theorem copyCorrected (n c len : Nat) : copyCorrected n c len y = copyCorrected n c len x := by
  rw [Machine.copyCorrected, Machine.copyCorrected, h.soft]

end SameArray

theorem sameArray_elapse (t : Nat) (s : State) : SameArray s (elapse t s) :=
  ⟨elapse_nv_mem t s, elapse_nv_bad t s, elapse_nv_soft t s⟩

theorem sameArray_working (fl : List Flight) (tn t : Nat) (s : State) : SameArray s (working fl tn (elapse t s)) :=
  ⟨elapse_nv_mem t s, elapse_nv_bad t s, elapse_nv_soft t s⟩

theorem countRead_nv (a n : Nat) (x : State) : (countRead a n x).nv = x.nv :=
  (congrArg State.nv (countRead_frame a n x).1 :)

theorem sameArray_countRead (a n : Nat) (x : State) : SameArray x (countRead a n x) := by
  constructor <;> rw [countRead_nv]

/-! ## The end of a read -/

/-- A state of the descriptor's work in which only registers and the checked records differ. -/
theorem answerable_counted {fl : List Flight} {tn : Nat} {x y : State} (h : Answerable d (working fl tn x))
    (hf : y = { x with regs := y.regs, nv := { x.nv with checked := y.nv.checked } }) :
    Answerable d (working fl tn y) := by
  rw [hf]
  exact ⟨h.heard, h.mem, h.hostWait, h.wait, h.queue⟩

/-- DST can be written from a state with the same bus mastering. -/
theorem notBlocked {fl : List Flight} {tn n : Nat} {y : State}
    (hf : y = { elapse t s with regs := y.regs, nv := { (elapse t s).nv with checked := y.nv.checked } })
    (h : dmaBlocked d d.dstAddr n s = false) : dmaBlocked d d.dstAddr n (working fl tn y) = false := by
  rw [hf]
  exact (working_crypt fl tn 0 0 isAes d.dstAddr _).2.2.1.trans h

/-- A frame of registers is a frame of registers and checked records. -/
theorem checkedFrame_of {x y : State} (h : y = { x with regs := y.regs }) :
    y = { x with regs := y.regs, nv := { x.nv with checked := y.nv.checked } } := by
  have hnv : y.nv = x.nv := (congrArg State.nv h :)
  rw [hnv]
  exact h

/-! ## NV_READ by address -/

/-- The status of a read by address (R362). -/
def rawStatus (a n : Nat) (s : State) : Nat := if (badWord a n s).isSome then stEcc else stOk

/-- The bytes before the first uncorrectable word. -/
def goodBytes (a n : Nat) (s : State) : Nat := match badWord a n s with | some w => w - a | none => n

theorem goodBytes_some {a n w : Nat} (h : badWord a n s = some w) : goodBytes a n s = w - a := by rw [goodBytes, h]

theorem goodBytes_none {a n : Nat} (h : badWord a n s = none) : goodBytes a n s = n := by rw [goodBytes, h]

/-- The result of a read by address. -/
def rawResult (a n : Nat) (s : State) : Bytes :=
  nvResult (goodBytes a n s) 0 0xFF (8 * b2n ((wordsOf a (goodBytes a n s)).any (fun w => s.nv.soft.contains w))) 0

/-- A read by address copies the bytes before the first uncorrectable word. -/
theorem readRaw_copies {a : Nat} {x : State} (hdma : dmaBlocked d d.dstAddr (goodBytes a d.len x) (countRead a d.len x) = false) :
    readRaw d a x = complete d (rawStatus a d.len x) (rawResult a d.len x) 0
      (dmaWrite d d.dstAddr (nvPeek a (goodBytes a d.len x) x) (countRead a d.len x)) := by
  have hlen := nvPeek_length a (goodBytes a d.len x) x
  unfold readRaw rawStatus rawResult
  cases hb : badWord a d.len x with
  | none =>
    rw [goodBytes_none hb] at hdma hlen ⊢
    dsimp only
    rw [hlen, if_neg (by rw [hdma]; decide)]
  | some w =>
    rw [goodBytes_some hb] at hdma hlen ⊢
    dsimp only
    rw [hlen, if_neg (by rw [hdma]; decide)]

/-- The ranges that NV_READ by address reads. -/
structure RawRange (d : Desc) (a : Nat) (s : State) : Prop where
  range : d.target = 0x100 ∧ d.len ≤ 65536 ∧ a = 0x120000 + p32 d 0 ∧ p32 d 0 + d.len ≤ 262144 ∨
    d.target = 0x200 ∧ d.len ≤ 1048576 ∧ a = p32 d 0 ∧ 0x200000 ≤ a ∧ a + d.len ≤ ledgerEnd s.part ∧
      (s.nv.ledgerReady = true ∨ a + d.len ≤ 0x400000)

theorem nvReadUnit_raw {a : Nat} {x : State} (h : RawRange d a x) (hp : parNonzero 4 24 d = none) :
    nvReadUnit d x = readRaw d a x := by
  unfold nvReadUnit nvOffset
  rcases h.range with ⟨ht, hlen, rfl, hfit⟩ | ⟨ht, hlen, rfl, hlo, hfit, hready⟩
  · rw [ht]
    dsimp only
    rw [if_neg (by decide), if_pos rfl, if_neg (by omega), reserved_free hp, if_neg (by omega)]
  · have hnot : ¬ (p32 d 0 + d.len > 0x400000 ∧ d.len > 0 ∧ x.nv.ledgerReady = false) := by
      rintro ⟨hgt, -, hr⟩
      rcases hready with hready | hready
      · rw [hready] at hr
        exact absurd hr (by decide)
      · omega
    rw [ht]
    dsimp only
    rw [if_neg (by decide), if_neg (by decide), if_pos rfl, if_neg (by omega), reserved_free hp, if_neg (by omega),
      if_neg hnot]

/-- NV_READ by address (R362). -/
theorem nvRead_raw {a : Nat} (hs : serves t d s) (hrow : isRow 0x50 d = true) (hp : parNonzero 4 24 d = none)
    (h : RawRange d a s) (hdma : dmaBlocked d d.dstAddr (goodBytes a d.len s) s = false) :
    ∃ s1 s', exec (.nvRead t d) s = .next s' ∧
      answers d (rawStatus a d.len s) (rawResult a d.len s) 0 (dmaWrite d d.dstAddr (nvPeek a (goodBytes a d.len s) s) s1) s' ∧
      s1 = { elapse t s with regs := s1.regs } ∧ keepsRegs [NVS_ECC_CNT.reg, NVS_ERR_ADDR.reg] s s1 := by
  obtain ⟨fl, tn, hans, hrun⟩ := served_working hs
  have hsame := sameArray_working fl tn t s
  obtain ⟨hframe, hkept⟩ := countRead_frame a d.len (elapse t s)
  have hgood : goodBytes a d.len (working fl tn (elapse t s)) = goodBytes a d.len s := by
    rw [goodBytes, goodBytes, hsame.badWord]
  have hst : rawStatus a d.len (working fl tn (elapse t s)) = rawStatus a d.len s := by
    rw [rawStatus, rawStatus, hsame.badWord]
  have hres : rawResult a d.len (working fl tn (elapse t s)) = rawResult a d.len s := by
    rw [rawResult, rawResult, hgood, hsame.soft]
  have hrange : RawRange d a (working fl tn (elapse t s)) := by
    refine ⟨?_⟩
    have hpart : (working fl tn (elapse t s)).part = s.part := elapse_part t s
    have hr : (working fl tn (elapse t s)).nv.ledgerReady = s.nv.ledgerReady := elapse_nv_ledgerReady t s
    rw [hpart, hr]
    exact h.range
  have hq : quietStatus (rawStatus a d.len s) d.opcode = true := by
    rw [opcode_of_isRow hrow, rawStatus]
    split <;> decide
  refine ⟨countRead a d.len (elapse t s), _, ?_,
    answers_atDst (answerable_counted hans (checkedFrame_of hframe)) hq, hframe, fun off ho =>
      (hkept.keeps off ho).trans (elapse_regGet off t s)⟩
  show descCommand t (asOp 0x50 d) nvReadUnit s = _
  have hblk : dmaBlocked d d.dstAddr (goodBytes a d.len (working fl tn (elapse t s)))
      (countRead a d.len (working fl tn (elapse t s))) = false := by
    rw [hgood, countRead_working]
    exact notBlocked (checkedFrame_of hframe) hdma
  rw [asOp_self hrow, hrun nvReadUnit, nvReadUnit_raw hrange hp, readRaw_copies hblk, hst, hres, hgood, hsame.peek,
    countRead_working]

/-! ## NV_READ of a host record -/

/-- The host records whose copies have been compared. -/
def withChecked (l : List Nat) (s : State) : State := { s with nv := { s.nv with checked := l } }

theorem withChecked_working (l : List Nat) (fl : List Flight) (tn : Nat) (x : State) :
    withChecked l (working fl tn x) = working fl tn (withChecked l x) := rfl

theorem sameArray_withChecked (l : List Nat) (x : State) : SameArray x (withChecked l x) := ⟨rfl, rfl, rfl⟩

/-- The record of both copies is not repaired. -/
theorem repairHost_both {n : Nat} {x : State} (ha : (hostCopy n 0 x).isSome = true) (hb : (hostCopy n 1 x).isSome = true) :
    ∃ l, repairHost n x = withChecked l x := by
  obtain ⟨a, ha⟩ := Option.isSome_iff_exists.mp ha
  obtain ⟨b, hb⟩ := Option.isSome_iff_exists.mp hb
  unfold repairHost
  split
  · exact ⟨_, rfl⟩
  · have hsame : SameArray x { x with nv := { x.nv with checked := n :: x.nv.checked } } := ⟨rfl, rfl, rfl⟩
    simp only [hsame.hostCopy, ha, hb]
    exact ⟨_, rfl⟩

/-- Both copies' reads are counted. -/
theorem countHostRec_frame (n : Nat) (x : State) : countHostRec n x = { x with regs := (countHostRec n x).regs } ∧
    RegsKept [NVS_ECC_CNT.reg, NVS_ERR_ADDR.reg] x (countHostRec n x) := by
  unfold countHostRec
  dsimp only
  generalize 16 + min 1008 (leAt 2 2 (nvPeek (hostRecAddr n 1) 4 x)) = k1
  generalize 16 + min 1008 (leAt 2 2 (nvPeek (hostRecAddr n 0) 4 x)) = k0
  obtain ⟨h1, r1⟩ := countRead_frame (hostRecAddr n 0) k0 x
  generalize countRead (hostRecAddr n 0) k0 x = y at h1 r1
  obtain ⟨h2, r2⟩ := countRead_frame (hostRecAddr n 1) k1 y
  generalize countRead (hostRecAddr n 1) k1 y = z at h2 r2
  exact ⟨h2.trans (congrArg (fun w : State => { w with regs := z.regs }) h1), r1.trans r2⟩

theorem countHostRec_working (n tn : Nat) (fl : List Flight) (x : State) :
    countHostRec n (working fl tn x) = working fl tn (countHostRec n x) := by
  unfold countHostRec
  dsimp only
  rw [show nvPeek (hostRecAddr n 1) 4 (working fl tn x) = nvPeek (hostRecAddr n 1) 4 x from rfl,
    show nvPeek (hostRecAddr n 0) 4 (working fl tn x) = nvPeek (hostRecAddr n 0) 4 x from rfl,
    countRead_working, countRead_working]

/-- NV_READ of a host record with two valid copies (R354, R362). -/
theorem readHostRec_copies {k : Nat} {c : Copy} {x : State} {l : List Nat}
    (hpair : (hostRec d.target x).a.isSome = true ∧ (hostRec d.target x).b.isSome = true)
    (htwin : (hostRec d.target x).twin = false)
    (hk : (hostRec d.target x).pick = some k) (hc : (hostRec d.target x).newest = some c)
    (hrep : repairHost d.target (countHostRec d.target x) =
      withChecked l (countHostRec d.target x))
    (hdma : dmaBlocked d d.dstAddr (c.data.take d.len).length
      (withChecked l (countHostRec d.target x)) = false) :
    readHostRec d x = complete d stOk (nvResult (c.data.take d.len).length c.seq k
      (8 * b2n (copyCorrected d.target k c.data.length x)) c.data.length) 0 (dmaWrite d d.dstAddr (c.data.take d.len)
        (withChecked l (countHostRec d.target x))) := by
  unfold readHostRec
  simp only [hk, hc, htwin, hrep, hpair.1, hpair.2, Option.map_some, Option.getD_some, Option.isNone_some,
    Bool.false_eq_true, if_false, hdma, bne_self_eq_false]
  simp [b2n]

/-- And so from the state of the descriptor's work. -/
theorem readHostRec_working {k : Nat} {c : Copy} {x : State} (fl : List Flight) (tn : Nat)
    (ha : (hostCopy d.target 0 x).isSome = true) (hb : (hostCopy d.target 1 x).isSome = true)
    (htwin : (hostRec d.target x).twin = false) (hk : (hostRec d.target x).pick = some k)
    (hc : (hostRec d.target x).newest = some c) (hdma : dmaBlocked d d.dstAddr (c.data.take d.len).length x = false) :
    ∃ s1, readHostRec d (working fl tn x) = complete d stOk (nvResult (c.data.take d.len).length c.seq k
        (8 * b2n (copyCorrected d.target k c.data.length x)) c.data.length) 0
          (dmaWrite d d.dstAddr (c.data.take d.len) (working fl tn s1)) ∧
      s1 = { x with regs := s1.regs, nv := { x.nv with checked := s1.nv.checked } } ∧
      RegsKept [NVS_ECC_CNT.reg, NVS_ERR_ADDR.reg] x s1 := by
  obtain ⟨hframe, hkept⟩ := countHostRec_frame d.target x
  have hcount := countHostRec_working d.target tn fl x
  generalize countHostRec d.target x = y at hframe hkept hcount
  have hsame : SameArray x y := by
    rw [hframe]
    exact ⟨rfl, rfl, rfl⟩
  have hsamew : SameArray y (working fl tn y) := ⟨rfl, rfl, rfl⟩
  have hcopy : ∀ i, hostCopy d.target i (working fl tn y) = hostCopy d.target i x := fun i =>
    (hsamew.hostCopy _ _).trans (hsame.hostCopy _ _)
  obtain ⟨l, hrep⟩ := repairHost_both (x := working fl tn y) (by rw [hcopy]; exact ha) (by rw [hcopy]; exact hb)
  have hblk : dmaBlocked d d.dstAddr (c.data.take d.len).length
      (withChecked l (working fl tn y)) = false := by
    have hy : dmaBlocked d d.dstAddr (c.data.take d.len).length (withChecked l (working fl tn y)) =
        dmaBlocked d d.dstAddr (c.data.take d.len).length y := rfl
    rw [hy, hframe]
    exact hdma
  have hsamex : SameArray x (working fl tn x) := ⟨rfl, rfl, rfl⟩
  have hrec := hsamex.hostRec d.target
  have hread := readHostRec_copies (d := d) (x := working fl tn x) (l := l) (by rw [hrec]; simp only [hostRec, ha, hb, and_self])
    (by rw [hrec]; exact htwin) (by rw [hrec]; exact hk) (by rw [hrec]; exact hc)
  rw [hcount] at hread
  rw [hread hrep hblk, withChecked_working, hsamex.copyCorrected]
  refine ⟨withChecked l y, rfl, ?_, ?_⟩
  · exact congrArg (withChecked l) hframe
  · exact hkept.trans (.of_eq _ rfl rfl)

theorem nvReadUnit_hostRec {x : State} (ht : d.target < 0x40) (hlen : d.len ≤ 1008) (hoff : p32 d 0 = 0)
    (hp : parNonzero 4 24 d = none) : nvReadUnit d x = readHostRec d x := by
  unfold nvReadUnit nvOffset
  dsimp only
  rw [if_pos ht, if_neg (by omega), if_neg (by omega), reserved_free hp]

theorem nvRead_hostRec {k : Nat} {c : Copy} (hs : serves t d s) (hrow : isRow 0x50 d = true)
    (hp : parNonzero 4 24 d = none) (ht : d.target < 0x40) (hlen : d.len ≤ 1008) (hoff : p32 d 0 = 0)
    (ha : (hostCopy d.target 0 s).isSome = true) (hb : (hostCopy d.target 1 s).isSome = true)
    (htwin : (hostRec d.target s).twin = false) (hk : (hostRec d.target s).pick = some k)
    (hc : (hostRec d.target s).newest = some c) (hdma : dmaBlocked d d.dstAddr (c.data.take d.len).length s = false) :
    ∃ s1 s', exec (.nvRead t d) s = .next s' ∧
      answers d stOk (nvResult (c.data.take d.len).length c.seq k (8 * b2n (copyCorrected d.target k c.data.length s))
        c.data.length) 0 (dmaWrite d d.dstAddr (c.data.take d.len) s1) s' ∧
      s1 = { elapse t s with regs := s1.regs, nv := { (elapse t s).nv with checked := s1.nv.checked } } ∧
      keepsRegs [NVS_ECC_CNT.reg, NVS_ERR_ADDR.reg] s s1 := by
  obtain ⟨fl, tn, hans, hrun⟩ := served_working hs
  have hsame := sameArray_elapse t s
  have hrec := hsame.hostRec d.target
  obtain ⟨s1, hread, hs1, hkept⟩ := readHostRec_working (d := d) (x := elapse t s) fl tn (k := k) (c := c)
    (by rw [hsame.hostCopy]; exact ha) (by rw [hsame.hostCopy]; exact hb) (by rw [hrec]; exact htwin)
    (by rw [hrec]; exact hk) (by rw [hrec]; exact hc) ((elapse_dmaBlocked _ _ _ t s).trans hdma)
  refine ⟨s1, _, ?_, answers_atDst (answerable_counted hans hs1) (quietStatus_ok _), hs1, fun off ho =>
    (hkept.keeps off ho).trans (elapse_regGet off t s)⟩
  show descCommand t (asOp 0x50 d) nvReadUnit s = _
  rw [asOp_self hrow, hrun nvReadUnit, nvReadUnit_hostRec ht hlen hoff hp, hread, hsame.copyCorrected]

/-! ## TALLY_READ -/

theorem validCells_working (c tn t : Nat) (fl : List Flight) (s : State) :
    validCells c (working fl tn (elapse t s)) = validCells c s := by
  have h : ∀ i, cellVal c i (working fl tn (elapse t s)) = cellVal c i s := fun i => by
    rw [cellVal, cellVal, (sameArray_working fl tn t s).peek, (sameArray_working fl tn t s).bad]
  simp only [validCells, h]

/-- The state in which a read of a counter has counted its invalid cells. -/
def cellsCounted (c : Nat) (s x : State) : State := addFld NVS_TALLY_CNT.INVALID (32 - (validCells c s).length) x

theorem tallyRead_begins (hs : serves t d s) (hrow : isRow 0x53 d = true) (hp : parNonzero 0 24 d = none) :
    ∃ fl tn, Answerable d (working fl tn (cellsCounted d.target s (elapse t s))) ∧
      (∀ v slot, tally d.target s = some (v, slot) → exec (.tallyRead t d) s = .next (finish (complete d stOk
        (leBytes 6 v ++ [byteOf slot, byteOf (validCells d.target s).length, byteOf (b2n (v == tallyMax))]) 0
          (working fl tn (cellsCounted d.target s (elapse t s)))))) ∧
      (tally d.target s = none → exec (.tallyRead t d) s = .next (finish (complete d stEcc (leBytes 6 0 ++ [0xFF, 0, 0]) 0
        (append 0x4C d.target 0 (working fl tn (cellsCounted d.target s (elapse t s))))))) := by
  obtain ⟨fl, tn, hans, hrun⟩ := served_working hs
  let y : State := cellsCounted d.target s (elapse t s)
  have hy : addFld NVS_TALLY_CNT.INVALID (32 - (validCells d.target s).length) (working fl tn (elapse t s)) =
      working fl tn y := rfl
  have hty : tally d.target (working fl tn y) = tally d.target s := elapse_tally d.target t s
  refine ⟨fl, tn, ⟨hans.heard, hans.mem, hans.hostWait, hans.wait, hans.queue⟩, fun v slot h => ?_, fun h => ?_⟩
  all_goals
    show descCommand t (asOp 0x53 d) tallyReadUnit s = _
    rw [asOp_self hrow, hrun tallyReadUnit, tallyReadUnit, reserved_free hp]
    simp only [validCells_working, hy, hty, h]
    rfl

/-- TALLY_READ of a counter (R357, R363). -/
theorem tallyRead_reads {v slot : Nat} (hs : serves t d s) (hrow : isRow 0x53 d = true) (hp : parNonzero 0 24 d = none)
    (ht : tally d.target s = some (v, slot)) :
    let n := (validCells d.target s).length
    ∃ s1 s', exec (.tallyRead t d) s = .next s' ∧
      answers d stOk (leBytes 6 v ++ [byteOf slot, byteOf n, byteOf (b2n (v == tallyMax))]) 0 s1 s' ∧
      s1 = { elapse t s with regs := s1.regs } ∧ keepsRegs [NVS_TALLY_CNT.reg] s s1 ∧
      fld NVS_TALLY_CNT.INVALID s1 = sat NVS_TALLY_CNT.INVALID.width (fld NVS_TALLY_CNT.INVALID s + (32 - n)) := by
  intro n
  obtain ⟨fl, tn, hans, hrun, -⟩ := tallyRead_begins hs hrow hp
  have hkept : RegsKept [NVS_TALLY_CNT.reg] (elapse t s) (cellsCounted d.target s (elapse t s)) := .setFld _ _ _ (by decide)
  refine ⟨cellsCounted d.target s (elapse t s), _, hrun v slot ht, answers_of_working (hans.quiet (quietStatus_ok _)), rfl,
    fun off ho => (hkept.keeps off ho).trans (elapse_regGet off t s), ?_⟩
  have hlt : ∀ m, sat NVS_TALLY_CNT.INVALID.width m < 2 ^ NVS_TALLY_CNT.INVALID.width := fun m => by
    have : 0 < 2 ^ NVS_TALLY_CNT.INVALID.width := by positivity
    unfold sat
    omega
  rw [cellsCounted, addFld, fld_setFld_same _ (by decide) _ _ (memorySafe_elapse_wf hs.2.1 t), elapse_fld,
    Nat.mod_eq_of_lt (hlt _)]

/-- TALLY_READ of a lost counter (R357). -/
theorem tallyRead_lost (hs : serves t d s) (hrow : isRow 0x53 d = true) (hp : parNonzero 0 24 d = none)
    (ht : tally d.target s = none) (hready : s.nv.ledgerReady = true) :
    ∃ s1 s', exec (.tallyRead t d) s = .next s' ∧ answers d stEcc (leBytes 6 0 ++ [0xFF, 0, 0]) 0 s1 s' ∧
      recordsOnly [] [NVS_TALLY_CNT.reg] (elapse t s) s1 := by
  obtain ⟨fl, tn, hans, -, hrun⟩ := tallyRead_begins hs hrow hp
  let y : State := cellsCounted d.target s (elapse t s)
  have hrec : Recorded [] [NVS_TALLY_CNT.reg] (working fl tn y) (append 0x4C d.target 0 (working fl tn y)) :=
    .append _ _ _ _ ((elapse_nv_ledgerReady t s).trans hready)
  have hcount : Recorded [] [NVS_TALLY_CNT.reg] (working fl tn (elapse t s)) (working fl tn y) := .setFld _ _ _ (by decide)
  exact ⟨_, _, hrun ht, (hans.recorded hrec).quiet (by rw [opcode_of_isRow hrow]; decide),
    (hcount.trans hrec).recordsOnly rfl rfl rfl⟩

end

end Sys2Proof.Machine
end

section
/-! SUPPORT. The copies of a host record. -/
namespace Sys2Proof.Machine

/-! ## The CRC of a copy -/

theorem crc32cBit_lt {c : Nat} (h : c < 2 ^ 32) : crc32cBit c < 2 ^ 32 := by
  unfold crc32cBit
  split
  · exact Nat.xor_lt_two_pow (n := 32) (by omega) (by decide)
  · omega

theorem crc32cByte_lt {c : Nat} (h : c < 2 ^ 32) (b : Byte) : crc32cByte c b < 2 ^ 32 := by
  have hx : Nat.xor c b.toNat < 2 ^ 32 := Nat.xor_lt_two_pow (n := 32) h (Nat.lt_trans b.isLt (by decide))
  unfold crc32cByte
  iterate 8 apply crc32cBit_lt
  exact hx

theorem crc32c_lt (bs : Bytes) : crc32c bs < 2 ^ 32 :=
  Nat.xor_lt_two_pow (n := 32)
    (List.foldlRecOn (motive := fun c => c < 2 ^ 32) bs crc32cByte (by decide) fun _ h b _ => crc32cByte_lt h b) (by decide)

/-! ## The words of a write -/

section
variable {s : State}

theorem nvWriteWord_lists (a : Nat) (bs : Bytes) (hw : s.nv.worn = []) :
    (nvWriteWord a bs s).1.nv.bad = s.nv.bad.filter (· ≠ a) ∧
      (nvWriteWord a bs s).1.nv.weak = s.nv.weak.filter (· ≠ a) := by
  simp [nvWriteWord, hw, pushBuf]

/-- A write leaves the words it does not touch as correctable as before, and makes those it touches good. -/
theorem nvWriteWords_bad (a x : Nat) (bs : Bytes) (ws : List Nat) (hw : s.nv.worn = []) :
    (nvWriteWords a bs ws s).1.nv.bad.contains x = (s.nv.bad.contains x && !ws.contains x) ∧
      (s.nv.weak = [] → (nvWriteWords a bs ws s).1.nv.weak = []) := by
  induction ws generalizing s with
  | nil => exact ⟨by simp [nvWriteWords], id⟩
  | cons w ws ih =>
    obtain ⟨h2, hb, -, -⟩ := nvWriteWord_fresh w (mergeWord w a bs s) s hw
    have hw1 : (nvWriteWord w (mergeWord w a bs s) s).1.nv.worn = [] :=
      ((congrArg (fun x => x.nv.worn) hb :)).trans hw
    obtain ⟨hbad, hweak⟩ := nvWriteWord_lists (s := s) w (mergeWord w a bs s) hw
    obtain ⟨i1, i2⟩ := ih hw1
    simp only [nvWriteWords, h2, Bool.false_eq_true, if_false]
    refine ⟨?_, fun h => i2 (by rw [hweak, h]; rfl)⟩
    rw [i1, hbad]
    by_cases hx : x = w
    · simp [hx]
    · simp [hx]

/-- Written words are good. -/
theorem badWord_nvWrite_same (a : Nat) (bs : Bytes) (hw : s.nv.worn = []) : badWord a bs.length (nvWrite a bs s).1 = none := by
  rw [badWord, List.find?_eq_none]
  intro w hm
  rw [nvWrite, (nvWriteWords_bad a w bs _ hw).1]
  simp [hm]

/-- Words of a range of whole words lie in it. -/
theorem wordsOf_within {a n b : Nat} (ha : a % 8 = 0) (hb : b % 8 = 0) (hn : a + n ≤ b) : ∀ w ∈ wordsOf a n, a ≤ w ∧ w + 8 ≤ b := by
  intro w hm
  obtain ⟨h1, h2⟩ := le_of_mem_wordsOf hm
  have hw : w % 8 = 0 := by
    unfold wordsOf at hm
    split at hm
    · simp at hm
    · obtain ⟨i, -, rfl⟩ := List.mem_map.mp hm
      omega
  omega

/-- Words of another range stay as they were. -/
theorem badWord_nvWrite_apart (a x n : Nat) (bs : Bytes) (hw : s.nv.worn = [])
    (h : ∀ w ∈ wordsOf x n, w ∉ wordsOf a bs.length) : badWord x n (nvWrite a bs s).1 = badWord x n s := by
  rw [badWord, badWord]
  refine List.find?_congr fun w hm => ?_
  rw [nvWrite, (nvWriteWords_bad a w bs _ hw).1]
  simp [h w hm]

/-- The array after a write that no worn word met. -/
structure ArrayWritten (x y : State) : Prop where
  frame : y = { x with nv := { x.nv with
    mem := y.nv.mem, bad := y.nv.bad, soft := y.nv.soft, weak := y.nv.weak, buf := y.nv.buf } }
  weak : x.nv.weak = [] → y.nv.weak = []
  wf : Memory.wf nvDflt x.nv.mem = true → Memory.wf nvDflt y.nv.mem = true

/-- What is equal without the array is equal but for it. -/
theorem frame_of_blankArray {x y : State} (h : blankArray y = blankArray x) : y = { x with nv := { x.nv with
    mem := y.nv.mem, bad := y.nv.bad, soft := y.nv.soft, weak := y.nv.weak, buf := y.nv.buf } } :=
  (congrArg (fun z : State => { z with nv := { z.nv with
    mem := y.nv.mem, bad := y.nv.bad, soft := y.nv.soft, weak := y.nv.weak, buf := y.nv.buf } }) h :)

theorem nvWrite_written (a : Nat) (bs : Bytes) (hw : s.nv.worn = []) :
    (nvWrite a bs s).2 = none ∧ ArrayWritten s (nvWrite a bs s).1 := by
  obtain ⟨hok, hb⟩ := nvWriteWords_fresh a bs (wordsOf a bs.length) s hw
  exact ⟨hok, frame_of_blankArray hb, (nvWriteWords_bad a 0 bs _ hw).2, nvWriteWords_wf a bs _ s hw⟩

end

/-! ## The bytes of a copy -/

/-- The header of a copy. -/
def copyHead (n : Nat) (c : Copy) : Bytes := (copyBytes n c).take 16

theorem copyBytes_length (n : Nat) (c : Copy) : (copyBytes n c).length = 16 + c.data.length := by
  simp [copyBytes, leBytes_length]
  omega

theorem copyBytes_eq (n : Nat) (c : Copy) : copyBytes n c = copyHead n c ++ c.data := by
  have hdrop : (copyBytes n c).drop 16 = c.data := by
    rw [copyBytes]
    exact List.drop_left' (by simp [leBytes_length])
  rw [copyHead]
  conv_lhs => rw [← List.take_append_drop 16 (copyBytes n c), hdrop]

/-- The parts of a header (Table 15.5). -/
structure HeadReads (n : Nat) (c : Copy) (h : Bytes) : Prop where
  id : leAt 0 2 h = n
  len : leAt 2 2 h = c.data.length
  seq : leAt 4 4 h = c.seq
  crc : leAt 8 4 h = crc32c (h.take 8 ++ h.drop 12 ++ c.data)
  magic : leAt 12 4 h = 0xB1E50010

theorem copyHead_reads {n : Nat} {c : Copy} (hn : n < 2 ^ 16) (hlen : c.data.length < 2 ^ 16) (hseq : c.seq < 2 ^ 32) :
    HeadReads n c (copyHead n c) := by
  let h0 : Bytes := leBytes 2 n ++ leBytes 2 c.data.length ++ leBytes 4 c.seq
  let magic : Bytes := leBytes 4 0xB1E50010
  let crc : Nat := crc32c (h0 ++ magic ++ c.data)
  have hh0 : h0.length = 8 := by simp [h0, leBytes_length]
  have hhead : copyHead n c = h0 ++ leBytes 4 crc ++ magic := by
    rw [copyHead, copyBytes]
    exact List.take_left' (by simp [leBytes_length])
  have hcrc : crc < 2 ^ 32 := crc32c_lt _
  have hl12 : (h0 ++ leBytes 4 crc).length = 12 := by simp [hh0, leBytes_length]
  have hmid : ∀ {m k v : Nat} {a b : Bytes}, a.length = m → v < 256 ^ k → leAt m k (a ++ leBytes k v ++ b) = v := by
    intro m k v a b ha hv
    rw [leAt_between ha, Nat.mod_eq_of_lt hv]
  refine ⟨?_, ?_, ?_, ?_, ?_⟩
  · rw [hhead]
    simpa [h0] using hmid (a := []) (b := leBytes 2 c.data.length ++ (leBytes 4 c.seq ++ (leBytes 4 crc ++ magic))) rfl hn
  · rw [hhead]
    simpa [h0] using hmid (a := leBytes 2 n) (b := leBytes 4 c.seq ++ (leBytes 4 crc ++ magic)) (leBytes_length 2 n) hlen
  · rw [hhead]
    simpa [h0] using hmid (a := leBytes 2 n ++ leBytes 2 c.data.length) (b := leBytes 4 crc ++ magic)
      (by simp [leBytes_length]) hseq
  · have htake : (copyHead n c).take 8 = h0 := by
      rw [hhead, List.append_assoc]
      exact List.take_left' hh0
    have hdrop : (copyHead n c).drop 12 = magic := by
      rw [hhead]
      exact List.drop_left' hl12
    rw [htake, hdrop, hhead]
    exact hmid hh0 hcrc
  · rw [hhead, leAt_append_leBytes 12 4 _ _ hl12]
    rfl

/-! ## Reading a copy -/

section
variable {n c : Nat} {s : State}

/-- A copy that stands in the array is read as it is. -/
theorem hostCopy_of_bytes {cp : Copy} (hn : n < 2 ^ 16) (hlen : cp.data.length ≤ 1008) (hseq : cp.seq < 2 ^ 32)
    (hseq0 : cp.seq ≠ 0) (hb : nvPeek (hostRecAddr n c) (16 + cp.data.length) s = copyBytes n cp)
    (hgood : badWord (hostRecAddr n c) (16 + cp.data.length) s = none) : hostCopy n c s = some cp := by
  have h := copyHead_reads (c := cp) hn (by omega) hseq
  have hl : (copyHead n cp).length = 16 := by
    rw [copyHead, List.length_take, copyBytes_length]
    omega
  rw [nvPeek_add, copyBytes_eq] at hb
  obtain ⟨hhead, hbody⟩ := List.append_inj hb (by rw [nvPeek_length, hl])
  unfold hostCopy
  simp only [hhead, h.id, h.len, h.seq, h.magic]
  rw [if_neg (by omega), if_neg (by rw [hgood]; decide), hbody, if_pos h.crc]

/-- What a valid copy is (Table 15.5). -/
theorem hostCopy_some {cp : Copy} (h : hostCopy n c s = some cp) : cp.data.length ≤ 1008 ∧ cp.seq ≠ 0 ∧ cp.seq < 2 ^ 32 := by
  unfold hostCopy at h
  dsimp only at h
  split at h
  · exact absurd h (by simp)
  · next hform =>
    split at h
    · exact absurd h (by simp)
    · split at h
      · obtain rfl : _ = cp := Option.some.inj h
        refine ⟨?_, ?_, leAt_lt_pow 4 4 _⟩
        · rw [nvPeek_length]
          omega
        · dsimp only
          omega
      · exact absurd h (by simp)

/-- A copy whose bytes and words stay is read alike. -/
theorem hostCopy_congr {x y : State}
    (hp : ∀ o m, o + m ≤ 1024 → nvPeek (hostRecAddr n c + o) m y = nvPeek (hostRecAddr n c + o) m x)
    (hb : ∀ m ≤ 1024, badWord (hostRecAddr n c) m y = badWord (hostRecAddr n c) m x) : hostCopy n c y = hostCopy n c x := by
  have h16 : nvPeek (hostRecAddr n c) 16 y = nvPeek (hostRecAddr n c) 16 x := hp 0 16 (by decide)
  unfold hostCopy
  dsimp only
  rw [h16]
  split
  · rfl
  · next hform =>
    have hlen : leAt 2 2 (nvPeek (hostRecAddr n c) 16 x) ≤ 1008 := by omega
    rw [hb _ (by omega), hp 16 _ (by omega)]

end

end Sys2Proof.Machine
end

section
/-! SUPPORT. Writing a host record. -/
namespace Sys2Proof.Machine

/-! ## Which copy a write goes to -/

/-- The copy written is the one a read returns (R353). -/
theorem pick_write {x : Dual} (h : seqsOk x = true) (bs : Bytes) :
    (x.write bs).pick = some x.writeTo ∧ (x.write bs).newest = some ⟨x.nextSeq, bs⟩ := by
  obtain ⟨a, b⟩ := x
  simp only [seqsOk, Bool.and_eq_true] at h
  cases a with
  | none =>
    cases b with
    | none => exact ⟨rfl, rfl⟩
    | some b =>
      have hnot := not_seqNewer_seqNext (of_decide_eq_true h.2)
      rw [show (Dual.mk none (some b)).write bs = ⟨some ⟨seqNext b.seq, bs⟩, some b⟩ from rfl, pick_both,
        if_neg (by rw [hnot]; decide), newest_left hnot]
      exact ⟨rfl, rfl⟩
  | some a =>
    cases b with
    | none =>
      have hnew := seqNewer_seqNext (of_decide_eq_true h.1)
      rw [show (Dual.mk (some a) none).write bs = ⟨some a, some ⟨seqNext a.seq, bs⟩⟩ from rfl, pick_both,
        if_pos hnew, newest_right hnew]
      exact ⟨rfl, rfl⟩
    | some b =>
      cases hn : seqNewer b.seq a.seq with
      | true =>
        have hnot := not_seqNewer_seqNext (of_decide_eq_true h.2)
        rw [Dual.write, writeTo_both, if_pos hn, if_pos rfl, Dual.nextSeq, newest_right hn, pick_both,
          if_neg (by rw [hnot]; decide), newest_left hnot]
        exact ⟨rfl, rfl⟩
      | false =>
        have hnew := seqNewer_seqNext (of_decide_eq_true h.1)
        rw [Dual.write, writeTo_both, hn, if_neg Bool.false_ne_true, if_neg Nat.one_ne_zero, Dual.nextSeq, newest_left hn,
          pick_both, if_pos hnew, newest_right hnew]
        exact ⟨rfl, rfl⟩

theorem writeTo_le (x : Dual) : x.writeTo ≤ 1 := by
  unfold Dual.writeTo
  split
  · exact Nat.zero_le 1
  · exact Nat.le_refl 1
  · split <;> decide

/-- The next SEQ is never 0 and has 32 bits (Table 15.5). -/
theorem nextSeq_range (x : Dual) : x.nextSeq ≠ 0 ∧ x.nextSeq < 2 ^ 32 := by
  unfold Dual.nextSeq
  split
  · decide
  · unfold seqNext
    split
    · decide
    · omega

section
variable {n c : Nat} {s : State}

/-- Both copies have SEQs of 32 bits. -/
theorem seqsOk_hostRec (n : Nat) (s : State) : seqsOk (hostRec n s) = true := by
  have h : ∀ i, (hostCopy n i s).all (fun c => c.seq < 2 ^ 32) = true := by
    intro i
    cases hc : hostCopy n i s with
    | none => rfl
    | some c => exact decide_eq_true (hostCopy_some hc).2.2
  rw [seqsOk, hostRec, h, h]
  rfl

/-- A SEQ is not newer than itself. -/
theorem not_seqNewer_self (k : Nat) : seqNewer k k = false := by
  rw [← Bool.not_eq_true, seqNewer_iff]
  omega

/-! ## What a write of a host record changes -/

/-- Between `x` and `y` host record `n` was written or repaired. -/
structure HostRecKept (n : Nat) (x y : State) : Prop where
  frame : y = { x with
    regs := y.regs
    nv := { x.nv with
      mem := y.nv.mem, bad := y.nv.bad, soft := y.nv.soft, weak := y.nv.weak, buf := y.nv.buf
      checked := y.nv.checked, twins := y.nv.twins } }
  regs : RegsKept [NVS_REC_CNT.reg, NVS_STATUS.reg] x y
  weak : x.nv.weak = [] → y.nv.weak = []
  wf : Memory.wf nvDflt x.nv.mem = true → Memory.wf nvDflt y.nv.mem = true
  mem : ∀ a, a < hostRecAddr n 0 ∨ hostRecAddr n 0 + 0x800 ≤ a → mget nvDflt y.nv.mem a = mget nvDflt x.nv.mem a

namespace HostRecKept

variable {x y z : State}

theorem worn (h : HostRecKept n x y) : y.nv.worn = x.nv.worn := (congrArg (fun z : State => z.nv.worn) h.frame :)

theorem widen (h : HostRecKept n x y) : y = { x with regs := y.regs, nv := y.nv } :=
  (congrArg (fun z : State => { z with regs := y.regs, nv := y.nv }) h.frame :)

theorem recs (h : HostRecKept n x y) : y.nv.recs = x.nv.recs := (congrArg (fun z : State => z.nv.recs) h.frame :)

theorem trans (h1 : HostRecKept n x y) (h2 : HostRecKept n y z) : HostRecKept n x z where
  frame := h2.frame.trans (congrArg (fun w : State => { w with
    regs := z.regs
    nv := { w.nv with
      mem := z.nv.mem, bad := z.nv.bad, soft := z.nv.soft, weak := z.nv.weak, buf := z.nv.buf
      checked := z.nv.checked, twins := z.nv.twins } }) h1.frame)
  regs := h1.regs.trans h2.regs
  weak h := h2.weak (h1.weak h)
  wf h := h2.wf (h1.wf h)
  mem a ha := (h2.mem a ha).trans (h1.mem a ha)

end HostRecKept

theorem hostRecKept_withChecked (n : Nat) (l : List Nat) (x : State) : HostRecKept n x (withChecked l x) :=
  ⟨rfl, .of_eq _ rfl rfl, id, id, fun _ _ => rfl⟩

theorem hostRecKept_noteRepair (n : Nat) (x : State) : HostRecKept n x (noteRepair x) :=
  ⟨rfl, (RegsKept.bump _ _ (by decide)).trans (.setFld _ _ _ (by decide)), id, id, fun _ _ => rfl⟩

/-- A copy begins at a word. -/
theorem hostRecAddr_mod (n c : Nat) : hostRecAddr n c % 8 = 0 := by
  unfold hostRecAddr
  omega

/-- What a write of a copy leaves: the copy is as written, the other as it was (R353). -/
theorem writeHostCopy_writes {cp : Copy} (hw : s.nv.worn = []) (hm : Memory.wf nvDflt s.nv.mem = true) (hn : n < 0x40)
    (hc : c ≤ 1) (hlen : cp.data.length ≤ 1008) (hseq : cp.seq < 2 ^ 32) (hseq0 : cp.seq ≠ 0) :
    (writeHostCopy n c cp s).2 = none ∧ HostRecKept n s (writeHostCopy n c cp s).1 ∧
      hostCopy n c (writeHostCopy n c cp s).1 = some cp ∧
      ∀ c' ≤ 1, c' ≠ c → hostCopy n c' (writeHostCopy n c cp s).1 = hostCopy n c' s := by
  have hl := copyBytes_length n cp
  obtain ⟨hok, hwritten⟩ := nvWrite_written (hostRecAddr n c) (copyBytes n cp) hw
  have hrun : writeHostCopy n c cp s = nvWrite (hostRecAddr n c) (copyBytes n cp) s := by
    simp only [writeHostCopy, hok]
  have hsame := nvPeek_nvWrite_same (hostRecAddr n c) (copyBytes n cp) s hw hm
  have hgood := badWord_nvWrite_same (hostRecAddr n c) (copyBytes n cp) hw
  rw [hl] at hsame hgood
  rw [hrun]
  refine ⟨hok, ⟨?_, ?_, hwritten.weak, hwritten.wf, fun a ha => ?_⟩, ?_, fun c' hc' hne => ?_⟩
  · conv_lhs => rw [hwritten.frame]
    rw [hwritten.frame]
  · rw [hwritten.frame]
    exact .of_eq _ rfl rfl
  · rw [mget_nvWrite _ _ _ s hw hm, byteWritten, if_neg]
    unfold hostRecAddr at *
    omega
  · exact hostCopy_of_bytes (by omega) hlen hseq hseq0 hsame hgood
  · refine hostCopy_congr (fun o m ho => ?_) fun m hm' => ?_
    · refine nvPeek_nvWrite_apart _ _ _ _ s hw hm ?_
      rw [hl]
      unfold hostRecAddr
      omega
    · refine badWord_nvWrite_apart _ _ _ _ hw fun w h1 h2 => ?_
      have w1 := wordsOf_within (b := hostRecAddr n c' + 1024) (hostRecAddr_mod n c') (by unfold hostRecAddr; omega)
        (by omega) w h1
      have w2 := wordsOf_within (b := hostRecAddr n c + 1024) (hostRecAddr_mod n c) (by unfold hostRecAddr; omega)
        (by rw [hl]; omega) w h2
      unfold hostRecAddr at w1 w2
      omega

end

end Sys2Proof.Machine
end

section
/-! SUPPORT. NV_WRITE. -/
namespace Sys2Proof.Machine

section
variable {s : State} {t : Nat} {d : Desc} {n : Nat}

/-! ## Repair before a write -/

/-- The state in which the copies of host record `n` have been compared. -/
def compared (n : Nat) (s : State) : State := withChecked (n :: s.nv.checked) s

/-- What the first access after a load does, case by case (Table 15.6). -/
theorem repairHost_left {a : Copy} (h : s.nv.checked.contains n = false) (ha : hostCopy n 0 s = some a)
    (hb : hostCopy n 1 s = none) : repairHost n s = noteRepair (writeHostCopy n 1 a (compared n s)).1 := by
  have hsame := sameArray_withChecked (n :: s.nv.checked) s
  rw [withChecked] at hsame
  unfold repairHost
  rw [if_neg (by rw [h]; decide)]
  simp only [hsame.hostCopy, ha, hb]
  rfl

theorem repairHost_right {b : Copy} (h : s.nv.checked.contains n = false) (ha : hostCopy n 0 s = none)
    (hb : hostCopy n 1 s = some b) : repairHost n s = noteRepair (writeHostCopy n 0 b (compared n s)).1 := by
  have hsame := sameArray_withChecked (n :: s.nv.checked) s
  rw [withChecked] at hsame
  unfold repairHost
  rw [if_neg (by rw [h]; decide)]
  simp only [hsame.hostCopy, ha, hb]
  rfl

theorem repairHost_none (h : s.nv.checked.contains n = false) (ha : hostCopy n 0 s = none)
    (hb : hostCopy n 1 s = none) : repairHost n s = compared n s := by
  have hsame := sameArray_withChecked (n :: s.nv.checked) s
  rw [withChecked] at hsame
  unfold repairHost
  rw [if_neg (by rw [h]; decide)]
  simp only [hsame.hostCopy, ha, hb]
  rfl

/-- A copy and its rewritten image make a record of the copy. -/
theorem nextSeq_both (a : Copy) : (Dual.mk (some a) (some a)).nextSeq = seqNext a.seq := by
  rw [Dual.nextSeq, newest_left (not_seqNewer_self a.seq)]

/-- A copy rewritten from the other one. -/
theorem rewritten_keeps {c : Nat} {a : Copy} (hw : s.nv.worn = []) (hm : Memory.wf nvDflt s.nv.mem = true) (hn : n < 0x40)
    (hc : c ≤ 1) (ha : hostCopy n (1 - c) s = some a) :
    HostRecKept n s (noteRepair (writeHostCopy n c a (compared n s)).1) ∧
      (hostRec n (noteRepair (writeHostCopy n c a (compared n s)).1)).nextSeq = seqNext a.seq := by
  have hsame : SameArray s (compared n s) := sameArray_withChecked _ s
  obtain ⟨hlen, hseq0, hseq⟩ := hostCopy_some ha
  obtain ⟨-, hk, hnew, hold⟩ := writeHostCopy_writes (s := compared n s) hw hm hn hc hlen hseq hseq0
  have ha' := ((hold (1 - c) (by omega) (by omega)).trans (hsame.hostCopy _ _)).trans ha
  generalize (writeHostCopy n c a (compared n s)).1 = y at hk hnew ha'
  have hrep : SameArray y (noteRepair y) := ⟨rfl, rfl, rfl⟩
  refine ⟨((hostRecKept_withChecked n _ s).trans hk).trans (hostRecKept_noteRepair n _), ?_⟩
  have hboth : hostRec n y = ⟨some a, some a⟩ := by
    rcases Nat.le_one_iff_eq_zero_or_eq_one.mp hc with rfl | rfl
    · rw [hostRec, hnew, ha']
    · rw [hostRec, hnew, ha']
  rw [hrep.hostRec, hboth, nextSeq_both]

/-- A repair rewrites one copy with the other, and keeps the next SEQ (R354). -/
theorem repairHost_repairs (hw : s.nv.worn = []) (hm : Memory.wf nvDflt s.nv.mem = true) (hn : n < 0x40) :
    HostRecKept n s (repairHost n s) ∧ (hostRec n (repairHost n s)).nextSeq = (hostRec n s).nextSeq := by
  have hnone : HostRecKept n s s := ⟨rfl, .refl _ s, id, id, fun _ _ => rfl⟩
  cases hch : s.nv.checked.contains n with
  | true =>
    rw [repairHost, if_pos hch]
    exact ⟨hnone, rfl⟩
  | false =>
    cases ha : hostCopy n 0 s with
    | none =>
      cases hb : hostCopy n 1 s with
      | none =>
        rw [repairHost_none hch ha hb]
        exact ⟨hostRecKept_withChecked n _ s, congrArg Dual.nextSeq ((sameArray_withChecked _ s).hostRec n)⟩
      | some b =>
        rw [repairHost_right hch ha hb, hostRec.eq_1 n s, ha, hb]
        exact rewritten_keeps hw hm hn (by decide) hb
    | some a =>
      cases hb : hostCopy n 1 s with
      | none =>
        rw [repairHost_left hch ha hb, hostRec.eq_1 n s, ha, hb]
        exact rewritten_keeps hw hm hn (by decide) ha
      | some b =>
        obtain ⟨l, hl⟩ := repairHost_both (n := n) (x := s) (by rw [ha]; rfl) (by rw [hb]; rfl)
        rw [hl]
        exact ⟨hostRecKept_withChecked n _ s, congrArg Dual.nextSeq ((sameArray_withChecked _ s).hostRec n)⟩

/-! ## NV_WRITE of a host record -/

/-- The state in which the next copy of record `r` stands in the array. -/
def copyStored (n : Nat) (r : Dual) (b : Bytes) (s : State) : State := (writeHostCopy n r.writeTo ⟨r.nextSeq, b⟩ s).1

theorem copyStored_writes {r : Dual} {b : Bytes} (hw : s.nv.worn = []) (hm : Memory.wf nvDflt s.nv.mem = true)
    (hn : n < 0x40) (hb : b.length ≤ 1008) (hr : hostRec n s = r) :
    (writeHostCopy n r.writeTo ⟨r.nextSeq, b⟩ s).2 = none ∧ HostRecKept n s (copyStored n r b s) ∧
      hostRec n (copyStored n r b s) = r.write b := by
  obtain ⟨hseq0, hseq⟩ := nextSeq_range r
  have hle := writeTo_le r
  obtain ⟨hok, hkept, hnew, hold⟩ := writeHostCopy_writes (n := n) (c := r.writeTo) (cp := ⟨r.nextSeq, b⟩)
    hw hm hn hle hb hseq hseq0
  have ha : hostCopy n 0 s = r.a := by rw [← hr, hostRec]
  have hb : hostCopy n 1 s = r.b := by rw [← hr, hostRec]
  rw [copyStored, Dual.write]
  refine ⟨hok, hkept, ?_⟩
  generalize (writeHostCopy n r.writeTo ⟨r.nextSeq, b⟩ s).1 = y at hnew hold ⊢
  rcases Nat.le_one_iff_eq_zero_or_eq_one.mp hle with h | h
  · rw [h] at hnew hold
    rw [if_pos h, hostRec, hnew, hold 1 (by decide) (by decide), hb]
  · rw [h] at hnew hold
    rw [if_neg (by omega), hostRec, hnew, hold 0 (by decide) (by decide), ha]

/-- The record is a twin conflict no more. -/
def untwinned (n : Nat) (s : State) : State := { s with nv := { s.nv with twins := s.nv.twins.filter (· ≠ n) } }

theorem untwinned_keeps (n : Nat) (s : State) : SameArray s (untwinned n s) ∧ HostRecKept n s (untwinned n s) :=
  ⟨⟨rfl, rfl, rfl⟩, rfl, .of_eq _ rfl rfl, id, id, fun _ _ => rfl⟩

theorem writeHostRec_runs {r : Dual} {b : Bytes} {x : State} (hread : dmaRead d d.srcAddr d.len s = some b)
    (hx : repairHost d.target s = x) (hr : hostRec d.target x = r)
    (hok : (writeHostCopy d.target r.writeTo ⟨r.nextSeq, b⟩ x).2 = none) :
    ∃ again, (x.nv.weak = [] → again = false) ∧ writeHostRec d s =
      complete d stOk (nvResult b.length r.nextSeq r.writeTo (b2n again) 0) 0 (untwinned d.target (copyStored d.target r b x)) := by
  refine ⟨rewrites (hostRecAddr d.target r.writeTo) (16 + b.length) x, fun h => ?_, ?_⟩
  · rw [rewrites, h]
    simp
  · rw [writeHostRec, readSrc_some hread]
    simp only [hx, hr, hok]
    rfl

/-- A write of `b` to host record `n` from `x` has come to `y`, with copy `k` of SEQ `q` as the newest. -/
structure HostRecWritten (n : Nat) (b : Bytes) (k q : Nat) (x y : State) : Prop where
  kept : HostRecKept n x y
  record : ∃ r, hostRec n y = r ∧ r.newest = some ⟨q, b⟩ ∧ r.pick = some k

/-- The record's write (R353, R362). -/
theorem writeHostRec_writes {q : Nat} {b : Bytes} (hw : s.nv.worn = []) (hm : Memory.wf nvDflt s.nv.mem = true)
    (hn : d.target < 0x40) (hb : b.length ≤ 1008) (hread : dmaRead d d.srcAddr d.len s = some b)
    (hq : (hostRec d.target s).nextSeq = q) :
    ∃ k again y, writeHostRec d s = complete d stOk (nvResult b.length q k (b2n again) 0) 0 y ∧
      (s.nv.weak = [] → again = false) ∧ HostRecWritten d.target b k q s y := by
  obtain ⟨hrep, hseq⟩ := repairHost_repairs hw hm hn
  generalize hx : repairHost d.target s = x at hrep hseq
  have hok := seqsOk_hostRec d.target x
  rw [hq] at hseq
  generalize hr : hostRec d.target x = r at hseq hok
  obtain ⟨hnone, hkept, hwrite⟩ := copyStored_writes (hrep.worn.trans hw) (hrep.wf hm) hn hb hr
  obtain ⟨again, hagain, hrun⟩ := writeHostRec_runs hread hx hr hnone
  obtain ⟨hpick, hnewest⟩ := pick_write hok b
  obtain ⟨hz, hyz⟩ := untwinned_keeps d.target (copyStored d.target r b x)
  rw [hseq] at hrun hnewest
  exact ⟨_, again, _, hrun, fun h => hagain (hrep.weak h), (hrep.trans hkept).trans hyz,
    _, (hz.hostRec _).trans hwrite, hnewest, hpick⟩

end

end Sys2Proof.Machine
end

section
/-! SUPPORT. The commands of NV_WRITE, and the statement of reads and writes. -/
namespace Sys2Proof.Machine

section
variable {s : State} {t : Nat} {d : Desc} {b : Bytes} {fl : List Flight} {tn : Nat}

/-! ## What a write is served from -/

/-- A served NV_WRITE that reads its SRC. -/
structure NvWrites (t : Nat) (d : Desc) (b : Bytes) (s : State) : Prop where
  serves : serves t d s
  row : isRow 0x51 d = true
  par : parNonzero 4 24 d = none
  worn : s.nv.worn = []
  read : dmaRead d d.srcAddr d.len s = some b

namespace NvWrites

variable (h : NvWrites t d b s)
include h

theorem length : b.length = d.len := dmaRead_length h.read

theorem read_working (fl : List Flight) (tn : Nat) : dmaRead d d.srcAddr d.len (working fl tn (elapse t s)) = some b :=
  (working_crypt fl tn 0 0 isAes d.srcAddr d.len).2.1.trans h.read

theorem worn_working (fl : List Flight) (tn : Nat) : (working fl tn (elapse t s)).nv.worn = [] :=
  (elapse_nv_worn t s).trans h.worn

theorem mem_working (fl : List Flight) (tn : Nat) : Memory.wf nvDflt (working fl tn (elapse t s)).nv.mem = true := by
  obtain ⟨-, -, -, hmem, -, -⟩ := h.serves.2.1
  rw [show (working fl tn (elapse t s)).nv.mem = s.nv.mem from elapse_nv_mem t s]
  exact hmem

end NvWrites

/-! ## LEN 0 -/

/-- A completion looks the same from before the buffer's end. -/
theorem answers_of_drainAll {st det : Nat} {res : Bytes} {x s' : State} (h : answers d st res det (drainAll x) s') :
    answers d st res det x s' := by
  have hcq : ∀ n, cqBase n (drainAll x) = cqBase n x := fun _ => rfl
  have hnext : ∀ n, nextEntry n (drainAll x) = nextEntry n x := fun n => by rw [nextEntry, nextEntry, hcq]; rfl
  refine ⟨completed_congr h.1 rfl (fun n => (hcq n).symm) rfl, h.2.1, ?_⟩
  have h2 := h.2.2
  have hmon : (drainAll x).mon = x.mon := rfl
  have hmem : (drainAll x).hostMem = x.hostMem := rfl
  cases hd : d.src <;> simpa only [hd, hnext, hmon, hmem] using h2

/-- A write of nothing completes once the buffer has drained (R345). -/
theorem nvBarrier_answers (h : Answerable d (working fl tn s)) :
    answers d stOk (nvResult 0 0 0xFF 0 0) 0 s (finish (nvBarrier d (working fl tn s))) := by
  have hans : Answerable d (drainAll (working fl tn s)) := ⟨h.heard, h.mem, h.hostWait, h.wait, h.queue⟩
  exact answers_of_working (answers_of_drainAll (hans.quiet (quietStatus_ok _)))

theorem nvWrite_nothing (hs : serves t d s) (hrow : isRow 0x51 d = true) (hp : parNonzero 4 24 d = none)
    (hlen : d.len = 0) (ht : d.target < 0x40 ∧ p32 d 0 = 0 ∨ d.target = 0x100 ∧ p32 d 0 ≤ 262144) :
    ∃ s', exec (.nvWrite t d) s = .next s' ∧ answers d stOk (nvResult 0 0 0xFF 0 0) 0 (elapse t s) s' := by
  obtain ⟨fl, tn, hans, hrun⟩ := served_working hs
  refine ⟨_, ?_, nvBarrier_answers hans⟩
  show descCommand t (asOp 0x51 d) nvWriteUnit s = _
  rw [asOp_self hrow, hrun nvWriteUnit]
  unfold nvWriteUnit nvOffset
  dsimp only
  rcases ht with ⟨ht, h0⟩ | ⟨ht, h0⟩
  · rw [if_pos ht, if_neg (by omega), if_neg (by omega), reserved_free hp, if_pos hlen]
  · rw [if_neg (by omega), if_pos ht, if_neg (by omega), reserved_free hp, if_neg (by omega), if_pos hlen]

/-! ## Writes by address -/

/-- A write by address has stored `b` and answered, as `Obligations.NvIsReadAndWritten` writes it out. -/
def putsAt (t : Nat) (d : Desc) (b : Bytes) (s : State) (a : Nat) (s' : State) : Prop :=
  ∃ s1, answers d stOk (nvResult b.length 0 0xFF (b2n (rewrites a b.length s)) 0) 0 s1 s' ∧
    s1 = { elapse t s with
      nv := { (elapse t s).nv with
        mem := s1.nv.mem, bad := s1.nv.bad, soft := s1.nv.soft, weak := s1.nv.weak, buf := s1.nv.buf } } ∧
    nvPeek a d.len s' = b ∧ badWord a d.len s' = none ∧
    (∀ x, x < a ∨ a + d.len ≤ x → mget nvDflt s'.nv.mem x = mget nvDflt s.nv.mem x)

/-- A write by address (R344, R362). -/
theorem writeRaw_puts (h : NvWrites t d b s) (hans : Answerable d (working fl tn (elapse t s))) (a : Nat) :
    putsAt t d b s a (finish (writeRaw d a stOk 0 b (working fl tn (elapse t s)))) := by
  have hw := h.worn_working fl tn
  have hm := h.mem_working fl tn
  have hmem : (working fl tn (elapse t s)).nv.mem = s.nv.mem := elapse_nv_mem t s
  have hrw : rewrites a b.length (working fl tn (elapse t s)) = rewrites a b.length s := by
    rw [rewrites, rewrites, show (working fl tn (elapse t s)).nv.weak = s.nv.weak from elapse_nv_weak t s]
  obtain ⟨hok, hwritten⟩ := nvWrite_written a b hw
  have hpeek := nvPeek_nvWrite_same a b _ hw hm
  have hgood := badWord_nvWrite_same a b hw
  have hbyte := fun x => mget_nvWrite a x b _ hw hm
  have hrun : writeRaw d a stOk 0 b (working fl tn (elapse t s)) = complete d stOk
      (nvResult b.length 0 0xFF (b2n (rewrites a b.length s)) 0) 0 (Machine.nvWrite a b (working fl tn (elapse t s))).1 := by
    simp only [writeRaw, nvStore, hok, hrw]
  rw [hrun]
  have hframe := hwritten.frame
  generalize (Machine.nvWrite a b (working fl tn (elapse t s))).1 = y at *
  let s1 : State := { elapse t s with
    nv := { (elapse t s).nv with
      mem := y.nv.mem, bad := y.nv.bad, soft := y.nv.soft, weak := y.nv.weak, buf := y.nv.buf } }
  have hans1 : Answerable d (working fl tn s1) := ⟨hans.heard, hans.mem, hans.hostWait, hans.wait, hans.queue⟩
  have hy : y = working fl tn s1 := hframe
  rw [hy]
  have ha := answers_of_working (hans1.quiet (st := stOk) (det := 0)
    (res := nvResult b.length 0 0xFF (b2n (rewrites a b.length s)) 0) (quietStatus_ok _))
  generalize finish (complete d stOk (nvResult b.length 0 0xFF (b2n (rewrites a b.length s)) 0) 0
    (working fl tn s1)) = z at ha
  have hzmem : z.nv.mem = y.nv.mem := (answers_nv_mem ha :)
  have hzbad : z.nv.bad = y.nv.bad := (completesOnly_nv_bad ha.2 :)
  refine ⟨s1, ha, rfl, ?_, ?_, fun x hx => ?_⟩
  · rw [← h.length, nvPeek_congr hzmem, hpeek]
  · rw [← h.length, badWord, hzbad]
    exact hgood
  · rw [hzmem, hbyte, byteWritten, hmem, if_neg (by rw [h.length]; omega)]

/-- The scratch region (R362). -/
theorem nvWrite_scratch (h : NvWrites t d b s) (h0 : 0 < d.len) (hlen : d.len ≤ 65536) (ht : d.target = 0x100)
    (hfit : p32 d 0 + d.len ≤ 262144) :
    ∃ s', exec (.nvWrite t d) s = .next s' ∧ putsAt t d b s (0x120000 + p32 d 0) s' := by
  obtain ⟨fl, tn, hans, hrun⟩ := served_working h.serves
  refine ⟨_, ?_, writeRaw_puts h hans _⟩
  show descCommand t (asOp 0x51 d) nvWriteUnit s = _
  rw [asOp_self h.row, hrun nvWriteUnit]
  unfold nvWriteUnit nvOffset
  dsimp only
  rw [if_neg (by omega), if_pos ht, if_neg (by omega), reserved_free h.par, if_neg (by omega), if_neg (by omega),
    writeScratch, h.read_working fl tn]
  rfl

/-- A host record (R353, R362). -/
theorem nvWrite_hostRec (h : NvWrites t d b s) (h0 : 0 < d.len) (hlen : d.len ≤ 1008) (ht : d.target < 0x40)
    (hoff : p32 d 0 = 0) :
    ∃ k q again s1 s', exec (.nvWrite t d) s = .next s' ∧
      answers d stOk (nvResult d.len q k (b2n again) 0) 0 s1 s' ∧ (s.nv.weak = [] → again = false) ∧
      (hostRec d.target s').newest = some ⟨q, b⟩ ∧ (hostRec d.target s').pick = some k ∧
      q = (hostRec d.target s).nextSeq ∧ s1 = { elapse t s with regs := s1.regs, nv := s1.nv } ∧
      s1.nv.recs = s.nv.recs ∧
      (∀ x, x < hostRecAddr d.target 0 ∨ hostRecAddr d.target 0 + 0x800 ≤ x →
        mget nvDflt s'.nv.mem x = mget nvDflt s.nv.mem x) ∧ keepsRegs [NVS_REC_CNT.reg, NVS_STATUS.reg] s s1 := by
  obtain ⟨fl, tn, hans, hrun⟩ := served_working h.serves
  have hnv : (working fl tn (elapse t s)).nv.mem = s.nv.mem ∧ (working fl tn (elapse t s)).nv.weak = s.nv.weak ∧
      (working fl tn (elapse t s)).nv.recs = s.nv.recs :=
    ⟨elapse_nv_mem t s, elapse_nv_weak t s, elapse_nv_recs t s⟩
  have hregs : RegsKept [NVS_REC_CNT.reg, NVS_STATUS.reg] (elapse t s) (working fl tn (elapse t s)) := .of_eq _ rfl rfl
  obtain ⟨k, again, y, hwrite, hagain, hkept, r, hr, hnewest, hpick⟩ := writeHostRec_writes (h.worn_working fl tn)
    (h.mem_working fl tn) ht (by rw [h.length]; exact hlen) (h.read_working fl tn)
    (congrArg Dual.nextSeq ((sameArray_working fl tn t s).hostRec d.target))
  let s1 : State := { elapse t s with regs := y.regs, nv := y.nv }
  have hy : y = working fl tn s1 := hkept.widen
  have hans1 : Answerable d (working fl tn s1) := ⟨hans.heard, hans.mem, hans.hostWait, hans.wait, hans.queue⟩
  generalize hq : (hostRec d.target s).nextSeq = q at *
  have ha := answers_of_working (hans1.quiet (st := stOk) (det := 0) (res := nvResult d.len q k (b2n again) 0) (quietStatus_ok _))
  have hexec : exec (.nvWrite t d) s = .next (finish (complete d stOk (nvResult d.len q k (b2n again) 0) 0 (working fl tn s1))) := by
    show descCommand t (asOp 0x51 d) nvWriteUnit s = _
    rw [asOp_self h.row, hrun nvWriteUnit]
    unfold nvWriteUnit nvOffset
    dsimp only
    rw [if_pos ht, if_neg (by omega), if_neg (by omega), reserved_free h.par, if_neg (by omega), hwrite, h.length, hy]
  generalize finish (complete d stOk (nvResult d.len q k (b2n again) 0) 0 (working fl tn s1)) = z at ha hexec
  have hz : SameArray y z := ⟨(completesOnly_nv_mem ha.2 :), (completesOnly_nv_bad ha.2 :), (completesOnly_nv_soft ha.2 :)⟩
  refine ⟨k, q, again, s1, z, hexec, ha, fun hweak => hagain (hnv.2.1.trans hweak), ?_, ?_, rfl, rfl,
    hkept.recs.trans hnv.2.2, fun x hx => ?_, fun off ho => ?_⟩
  · rw [hz.hostRec, hr, hnewest]
  · rw [hz.hostRec, hr, hpick]
  · rw [hz.mem, hkept.mem x hx, hnv.1]
  · have hk := (hregs.trans hkept.regs).keeps off ho
    rw [hy] at hk
    exact hk.trans (elapse_regGet off t s)

/-! ## From Drover's work -/

/-- A chunk of a firmware image (R31). -/
theorem nvWrite_chunk {w : Desc} (h : NvWrites t d b s) (hsrc : d.src = .drover) (ht : d.target = 0x210 ∨ d.target = 0x211)
    (hwork : droverWork s = some w) (hop : w.opcode = 0x68) (hbank : w.target = d.target - 0x210)
    (hlen : lenIn 16 16 65536 false d.len = true) (hfit : p32 d 0 + d.len ≤ 0x100000) :
    ∃ s', exec (.nvWriteFwChunk t d) s = .next s' ∧
      putsAt t d b s (0x200000 + 0x100000 * (d.target - 0x210) + p32 d 0) s' := by
  obtain ⟨fl, tn, hans, hrun⟩ := served_working h.serves
  have hdw : droverWork (working fl tn (elapse t s)) = some w := (working_droverWork fl tn t s).trans hwork
  have h0 : d.len ≠ 0 := by
    intro h0
    rw [h0] at hlen
    exact absurd hlen (by decide)
  have hmay : ¬ (!(d.target == 0x210 || d.target == 0x211) || d.src != .drover ||
      !(w.opcode == 0x68 && w.target == d.target - 0x210)) = true := by
    rcases ht with ht | ht <;> simp [ht, hsrc, hop, hbank]
  refine ⟨_, ?_, writeRaw_puts h hans _⟩
  show descCommand t (asOp 0x51 d) fwChunkUnit s = _
  rw [asOp_self h.row, hrun fwChunkUnit]
  unfold fwChunkUnit nvOffset
  simp only [hdw]
  rw [if_neg hmay, if_neg (by simp [hlen]), reserved_free h.par, if_neg (by omega), if_neg h0,
    readSrc_some (h.read_working fl tn)]

/-- The OTP field (R415). -/
theorem nvWrite_otp {w : Desc} (h : NvWrites t d b s) (hsrc : d.src = .drover) (ht : d.target = 0x300)
    (hwork : droverWork s = some w) (hop : w.opcode = 0x6A) (hmode : p8 w 0 = 3) (hlen : d.len = 4) (hoff : p32 d 0 = 0)
    (hotp : s.lcy.otp = 0) (hlo : 14 ≤ byteAt 0 b) (hhi : byteAt 0 b ≤ 21) (hz : allZero (b.drop 1) = true) :
    ∃ s', exec (.nvWriteOtp t d) s = .next s' ∧
      answers d stOk (nvResult 4 0 0xFF 0 0) 0 { elapse t s with lcy := { s.lcy with otp := byteAt 0 b } } s' := by
  obtain ⟨fl, tn, hans, hrun⟩ := served_working h.serves
  have hdw : droverWork (working fl tn (elapse t s)) = some w := (working_droverWork fl tn t s).trans hwork
  have hlcy : (working fl tn (elapse t s)).lcy = s.lcy := elapse_lcy t s
  have hread := h.read_working fl tn
  rw [hlen] at hread
  let s1 : State := { elapse t s with lcy := { s.lcy with otp := byteAt 0 b } }
  have hans1 : Answerable d (working fl tn s1) := ⟨hans.heard, hans.mem, hans.hostWait, hans.wait, hans.queue⟩
  refine ⟨_, ?_, answers_of_working (hans1.quiet (st := stOk) (quietStatus_ok _))⟩
  have hprog : programOtp (byteAt 0 b) (working fl tn (elapse t s)) = working fl tn s1 := by
    rw [programOtp, hlcy]
    rfl
  have hmay : ¬ (d.target ≠ 0x300 ∨ d.src ≠ .drover ∨ (w.opcode == 0x6A && p8 w 0 == 3) = false) := by
    simp [ht, hsrc, hop, hmode]
  have hval : ¬ (s.lcy.otp ≠ 0 ∨ byteAt 0 b < 14 ∨ byteAt 0 b > 21 ∨ allZero (b.drop 1) = false) := by
    rw [hz]
    simp only [Bool.true_eq_false, or_false]
    omega
  show descCommand t (asOp 0x51 d) otpUnit s = _
  rw [asOp_self h.row, hrun otpUnit]
  unfold otpUnit nvOffset
  simp only [hdw]
  rw [if_neg hmay, if_neg (by omega), if_neg (by omega), reserved_free h.par, if_neg (by omega), readSrc_some hread]
  simp only [hlcy]
  rw [if_neg hval, hprog]

/-- The store of a device record changes the records and the buffer. -/
theorem recStore_stores {id : Nat} {x : State} (hf : recFails id x = false) :
    recStore id b x = ((recStore id b x).1, false) ∧ (recStore id b x).1 = { x with
      nv := { x.nv with
        recs := (recStore id b x).1.nv.recs, twins := (recStore id b x).1.nv.twins
        buf := (recStore id b x).1.nv.buf } } := by
  have hf' : x.nv.wornRecs.contains id = false := hf
  rw [recStore_ok b hf]
  refine ⟨rfl, ?_⟩
  simp only [recWrite, hf', Bool.false_eq_true, if_false, pushBuf]

/-- A device record that the work owns (R31, R340). -/
theorem nvWrite_deviceRecord {id : Nat} (h : NvWrites t d b s) (hid : id = d.target - 0x400) (hsrc : d.src = .drover)
    (hlo : 0x500 ≤ d.target) (hhi : d.target ≤ 0x13FF) (hown : ownsRecord id s = true) (h0 : 0 < d.len) (hlen : d.len ≤ 4064)
    (hoff : p32 d 0 = 0) (hfail : recFails id s = false) :
    ∃ s1 s', exec (.nvWriteDeviceRecord t d) s = .next s' ∧
      answers d stOk (nvResult d.len (recGet id s).nextSeq (recGet id s).writeTo 0 0) 0 s1 s' ∧
      s1 = { elapse t s with
        nv := { (elapse t s).nv with recs := s1.nv.recs, twins := s1.nv.twins, buf := s1.nv.buf } } ∧
      recRead id s' = some b ∧ ∀ i, i ≠ id → recGet i s' = recGet i s := by
  obtain ⟨fl, tn, hans, hrun⟩ := served_working h.serves
  let x : State := working fl tn (elapse t s)
  have hdw : ∀ op, workingOn op x = workingOn op s := fun op => by rw [workingOn, workingOn, working_droverWork]
  have hck : ckptWork x = ckptWork s := by
    rw [ckptWork, ckptWork, show x.lgr = s.lgr from elapse_lgr t s, show x.lcy = s.lcy from elapse_lcy t s]
  have hownx : ownsRecord id x = true := by
    rw [← hown, ownsRecord, ownsRecord, hck]
    simp only [hdw, show droverWork x = droverWork s from working_droverWork fl tn t s]
  have hrecs : x.nv.recs = s.nv.recs := elapse_nv_recs t s
  have hget : recGet id x = recGet id s := by rw [recGet, recGet, hrecs]
  have hfx : recFails id x = false := by
    rw [recFails, show x.nv.wornRecs = s.nv.wornRecs from elapse_nv_wornRecs t s]
    exact hfail
  have hxrecs : swf (fun _ => Dual.empty) x.nv.recs = true ∧ x.nv.recs.all (fun r => seqsOk r.2) = true := by
    obtain ⟨-, -, -, -, -, hswf⟩ := h.serves.2.1
    obtain ⟨-, -, -, -, -, -, -, hseq⟩ := h.serves.2.2.1
    rw [hrecs]
    exact ⟨hswf, hseq⟩
  have hstored := recStore_recRead b hfx hxrecs.1 hxrecs.2
  have hother : ∀ i, i ≠ id → recGet i (recStore id b x).1 = recGet i s := fun i hi => by
    rw [recStore_recGet b hfx hi, recGet, recGet, hrecs]
  obtain ⟨hok, hframe⟩ := recStore_stores (id := id) (b := b) hfx
  have hexec : exec (.nvWriteDeviceRecord t d) s = .next (finish (complete d stOk
      (nvResult d.len (recGet id s).nextSeq (recGet id s).writeTo 0 0) 0 (recStore id b x).1)) := by
    show descCommand t (asOp 0x51 d) devRecUnit s = _
    rw [asOp_self h.row, hrun devRecUnit]
    unfold devRecUnit nvOffset
    rw [← hid]
    dsimp only
    rw [if_neg (by simp [hlo, hhi, hsrc]; exact hownx), if_neg (by omega), if_neg (by omega), reserved_free h.par,
      if_neg (by omega), readSrc_some (h.read_working fl tn)]
    simp only [show recStore id b (working fl tn (elapse t s)) = ((recStore id b x).1, false) from hok]
    rw [show recGet id (working fl tn (elapse t s)) = recGet id s from hget, h.length]
    rfl
  generalize (recStore id b x).1 = y at hstored hother hframe hexec
  let s1 : State := { elapse t s with
    nv := { (elapse t s).nv with recs := y.nv.recs, twins := y.nv.twins, buf := y.nv.buf } }
  have hy : y = working fl tn s1 := hframe
  have hans1 : Answerable d (working fl tn s1) := ⟨hans.heard, hans.mem, hans.hostWait, hans.wait, hans.queue⟩
  rw [hy] at hexec
  have ha := answers_of_working (hans1.quiet (st := stOk) (det := 0)
    (res := nvResult d.len (recGet id s).nextSeq (recGet id s).writeTo 0 0) (quietStatus_ok _))
  generalize finish (complete d stOk (nvResult d.len (recGet id s).nextSeq (recGet id s).writeTo 0 0) 0
    (working fl tn s1)) = z at ha hexec
  have hzrecs : z.nv.recs = y.nv.recs := (completesOnly_nv_recs ha.2 :)
  have hz : ∀ i, recGet i z = recGet i y := fun i => by rw [recGet, recGet, hzrecs]
  refine ⟨s1, z, hexec, ha, rfl, ?_, fun i hi => (hz i).trans (hother i hi)⟩
  rw [recRead, hz, ← recRead]
  exact hstored

end

/-- Settles O41, from `nvRead_hostRec`, `nvRead_raw`, `tallyRead_reads`, `nvWrite_hostRec` and `writeRaw_puts`. -/
theorem nvIsReadAndWritten : Obligations.NvIsReadAndWritten := by
  unfold Obligations.NvIsReadAndWritten
  refine ⟨fun s t d hs => ?_, fun s t d b hs hrow hp hw hread => ?_⟩
  · refine ⟨fun hrow hp => ⟨?_, ?_⟩, fun hrow hp => ?_⟩
    · intro k c ht hlen hoff ha hb htwin hk hc hdma
      exact nvRead_hostRec hs hrow hp ht hlen hoff ha hb htwin hk hc hdma
    · intro a hrange n hdma
      exact nvRead_raw hs hrow hp ⟨hrange⟩ hdma
    · exact ⟨fun v slot ht => tallyRead_reads hs hrow hp ht, fun ht hready => tallyRead_lost hs hrow hp ht hready⟩
  · have h : NvWrites t d b s := ⟨hs, hrow, hp, hw, hread⟩
    refine ⟨fun hlen ht => nvWrite_nothing hs hrow hp hlen ht, fun h0 hlen ht hoff => nvWrite_hostRec h h0 hlen ht hoff,
      fun h0 hlen ht hfit => nvWrite_scratch h h0 hlen ht hfit, fun hsrc => ⟨?_, ?_, ?_⟩⟩
    · exact fun w ht hwork hop hbank hlen hfit => nvWrite_chunk h hsrc ht hwork hop hbank hlen hfit
    · exact fun w ht hwork hop hmode hlen hoff hotp hlo hhi hz =>
        nvWrite_otp h hsrc ht hwork hop hmode hlen hoff hotp hlo hhi hz
    · intro id hid hlo hhi hown h0 hlen hoff hfail
      exact nvWrite_deviceRecord h hid hsrc hlo hhi hown h0 hlen hoff hfail

end Sys2Proof.Machine
end

section
/-! SUPPORT. Staging firmware: what its steps change. -/
namespace Sys2Proof.Machine

section
variable {s : State} {t : Nat} {d : Desc} {b : Nat} {offs : List Nat}

/-! ## A step of staging -/

/-- The device records are in canonical form, and their SEQs have 32 bits. -/
def RecsOk (s : State) : Prop := swf (fun _ => Dual.empty) s.nv.recs = true ∧ ∀ id, seqsOk (recGet id s) = true

/-- Between `x` and `y` the bank record of `b`, the staging in progress, registers of a list and bytes of the array
changed. -/
structure StageStep (b : Nat) (offs : List Nat) (x y : State) : Prop where
  frame : y = { x with
    regs := y.regs
    lcy := { x.lcy with stage := y.lcy.stage }
    nv := { x.nv with
      mem := y.nv.mem, bad := y.nv.bad, soft := y.nv.soft, weak := y.nv.weak, recs := y.nv.recs, twins := y.nv.twins
      buf := y.nv.buf } }
  regs : RegsKept offs x y
  others : ∀ id, id ≠ recBank b → recGet id y = recGet id x
  recsOk : RecsOk x → RecsOk y

namespace StageStep

variable {x y z : State}

theorem refl (b : Nat) (offs : List Nat) (x : State) : StageStep b offs x x :=
  ⟨rfl, .refl _ x, fun _ _ => rfl, id⟩

theorem trans (h1 : StageStep b offs x y) (h2 : StageStep b offs y z) : StageStep b offs x z where
  frame := h2.frame.trans (congrArg (fun w : State => { w with
    regs := z.regs
    lcy := { w.lcy with stage := z.lcy.stage }
    nv := { w.nv with
      mem := z.nv.mem, bad := z.nv.bad, soft := z.nv.soft, weak := z.nv.weak, recs := z.nv.recs, twins := z.nv.twins
      buf := z.nv.buf } }) h1.frame)
  regs := h1.regs.trans h2.regs
  others id hid := (h2.others id hid).trans (h1.others id hid)
  recsOk h := h2.recsOk (h1.recsOk h)

theorem mono {offs' : List Nat} (h : StageStep b offs x y) (ho : offs ⊆ offs') : StageStep b offs' x y :=
  ⟨h.frame, h.regs.mono (fun _ hx => ho hx), h.others, h.recsOk⟩

theorem worn (h : StageStep b offs x y) : y.nv.worn = x.nv.worn := (congrArg (fun z : State => z.nv.worn) h.frame :)

theorem wornRecs (h : StageStep b offs x y) : y.nv.wornRecs = x.nv.wornRecs :=
  (congrArg (fun z : State => z.nv.wornRecs) h.frame :)

theorem ledgerReady (h : StageStep b offs x y) : y.nv.ledgerReady = x.nv.ledgerReady :=
  (congrArg (fun z : State => z.nv.ledgerReady) h.frame :)

theorem answerable (h : StageStep b offs x y) (ha : Answerable d x) : Answerable d y := by
  rw [h.frame]
  exact ⟨ha.heard, ha.mem, ha.hostWait, ha.wait, ha.queue⟩

/-- Registers alone. -/
theorem of_regs (h : RegsKept offs x y) (hf : y = { x with regs := y.regs }) : StageStep b offs x y := by
  have hnv : y.nv = x.nv := (congrArg State.nv hf :)
  have hlcy : y.lcy = x.lcy := (congrArg State.lcy hf :)
  have hget : ∀ id, recGet id y = recGet id x := fun id => by rw [recGet, recGet, hnv]
  refine ⟨?_, h, fun id _ => hget id, fun hs => ⟨by rw [hnv]; exact hs.1, fun id => by rw [hget]; exact hs.2 id⟩⟩
  rw [hnv, hlcy]
  exact hf

end StageStep

theorem stageStep_setStage (g : Option Stage) (x : State) : StageStep b offs x (setStage g x) :=
  ⟨rfl, .of_eq _ rfl rfl, fun _ _ => rfl, id⟩

/-- A write of the record keeps SEQs of 32 bits. -/
theorem seqsOk_write {r : Dual} (h : seqsOk r = true) (bs : Bytes) : seqsOk (r.write bs) = true := by
  have hn : decide (r.nextSeq < 2 ^ 32) = true := decide_eq_true (nextSeq_range r).2
  simp only [seqsOk, Bool.and_eq_true] at h ⊢
  unfold Dual.write
  dsimp only
  split
  · exact ⟨hn, h.2⟩
  · exact ⟨h.1, hn⟩

/-- A store of the bank record. -/
theorem recStore_bank {x : State} (bs : Bytes) (hf : x.nv.wornRecs = []) : recStore (recBank b) bs x =
      ((recStore (recBank b) bs x).1, false) ∧ StageStep b offs x (recStore (recBank b) bs x).1 ∧
      (RecsOk x → recGet (recBank b) (recStore (recBank b) bs x).1 = (recGet (recBank b) x).write bs) := by
  have hfail : recFails (recBank b) x = false := by
    rw [recFails, hf]
    rfl
  obtain ⟨hok, hframe⟩ := recStore_stores (b := bs) hfail
  have hrecs := recStore_recs bs hfail
  have hmem := recStore_mem bs hfail
  have hothers := fun id (hi : id ≠ recBank b) => recStore_recGet bs hfail hi
  generalize (recStore (recBank b) bs x).1 = y at *
  have hsame : RecsOk x → recGet (recBank b) y = (recGet (recBank b) x).write bs := fun h => by
    rw [recGet, hrecs]
    exact sget_sset_same _ _ _ h.1
  refine ⟨hok, ⟨?_, ?_, hothers, fun h => ⟨?_, fun id => ?_⟩⟩, hsame⟩
  · conv_lhs => rw [hframe]
    rw [hframe]
  · rw [hframe]
    exact .of_eq _ rfl rfl
  · rw [hrecs]
    exact swf_sset (fun _ => Dual.empty) (recBank b) _ h.1
  · by_cases hid : id = recBank b
    · rw [hid, hsame h]
      exact seqsOk_write (h.2 _) bs
    · rw [hothers id hid]
      exact h.2 id

/-! ## The bank record -/

/-- What a stored bank record says. -/
theorem bankRecord_reads {x : State} {ok : Bool} {ver len : Nat} (h : RecsOk x)
    (hrec : recGet (recBank b) s = (recGet (recBank b) x).write (bankBytes ok ver len)) :
    bankValid b s = ok ∧ (ver < 2 ^ 32 → ok = true → bankVersion b s = ver) := by
  have hread : recRead (recBank b) s = some (bankBytes ok ver len) := by
    rw [recRead, hrec]
    exact newest_write (h.2 _) _
  have hvalid : bankValid b s = ok := by
    rw [bankValid, hread]
    cases ok <;> rfl
  refine ⟨hvalid, fun hver hok => ?_⟩
  rw [bankVersion, hvalid, hok, if_pos rfl, hread, Option.getD_some, bankBytes,
    leAt_between (by rfl), Nat.mod_eq_of_lt (show ver < 256 ^ 4 from hver)]

/-- A bank that is invalidated (R418). -/
theorem invalidateBank_invalidates {x : State} (hf : x.nv.wornRecs = []) (h : RecsOk x) :
    StageStep b offs x (invalidateBank b x) ∧ bankValid b (invalidateBank b x) = false ∧
      (invalidateBank b x).nv.mem = x.nv.mem ∧ (invalidateBank b x).nv.bad = x.nv.bad ∧
      (invalidateBank b x).nv.worn = x.nv.worn := by
  obtain ⟨-, hstep, hsame⟩ := recStore_bank (b := b) (offs := offs) (bankBytes false 0 0) hf
  unfold invalidateBank
  split
  · have hfail : recFails (recBank b) x = false := by
      rw [recFails, hf]
      rfl
    refine ⟨hstep, (bankRecord_reads h (hsame h)).1, recStore_mem _ hfail, ?_, hstep.worn⟩
    have hf' : x.nv.wornRecs.contains (recBank b) = false := hfail
    simp only [recStore_ok _ hfail, recWrite, hf', Bool.false_eq_true, if_false, pushBuf]
  · next hv => exact ⟨.refl _ _ x, by simpa using hv, rfl, rfl, rfl⟩

/-- The bank's validity and the other records, after which no staging is in progress (R418). -/
structure BankLost (b : Nat) (offs : List Nat) (x y : State) : Prop where
  step : StageStep b offs x y
  invalid : bankValid b y = false
  stage : y.lcy.stage = none
  mem : y.nv.mem = x.nv.mem
  bad : y.nv.bad = x.nv.bad

theorem lost_setStage {x : State} (hf : x.nv.wornRecs = []) (h : RecsOk x) :
    BankLost b offs x (setStage none (invalidateBank b x)) := by
  obtain ⟨h1, h2, h3, h4, -⟩ := invalidateBank_invalidates (b := b) (offs := offs) hf h
  generalize invalidateBank b x = y at *
  exact ⟨h1.trans (stageStep_setStage none y), h2, rfl, h3, h4⟩

/-- What a completion after a staging's end leaves, as `Obligations.FirmwareIsStaged` writes it out. -/
def stageEnded (s1 x : State) : State :=
  { x with lcy := { x.lcy with stage := none }, nv := { x.nv with recs := s1.nv.recs, twins := s1.nv.twins } }

/-- Records and events after the end of staging. -/
theorem blankRecords_ended {x y z : State} {cells os : List Nat} (h : StageStep b offs x y) (hst : y.lcy.stage = none)
    (hr : Recorded cells os y z) : blankRecords z = blankRecords (stageEnded z x) := by
  have hrecs : z.nv.recs = y.nv.recs := hr.recs
  have htwins : z.nv.twins = y.nv.twins := (congrArg (fun w : State => w.nv.twins) hr.blank :)
  have hz : blankRecords z = blankRecords y := (congrArg blankRecords hr.blank :)
  rw [hz, h.frame, hst]
  unfold stageEnded
  rw [hrecs, htwins]
  rfl

end

end Sys2Proof.Machine
end

section
/-! SUPPORT. Staging firmware: its checks and its chunks. -/
namespace Sys2Proof.Machine

section
variable {s x y z : State} {t : Nat} {d : Desc} {b st det : Nat} {offs : List Nat}

/-! ## The end of a staging that fails -/

/-- What staging rests on. -/
structure StageMay (d : Desc) (x : State) : Prop where
  answerable : Answerable d x
  worn : x.nv.worn = []
  wornRecs : x.nv.wornRecs = []
  ready : x.nv.ledgerReady = true
  recsOk : RecsOk x
  regs : Regs.wf x = true

theorem StageMay.step (h : StageMay d x) (hs : StageStep b offs x y) : StageMay d y :=
  ⟨hs.answerable h.answerable, hs.worn.trans h.worn, hs.wornRecs.trans h.wornRecs, hs.ledgerReady.trans h.ready,
    hs.recsOk h.recsOk, hs.regs.wf h.regs⟩

/-- A failed check that is turned away. -/
theorem stageFails_turnedAway (h : StageMay d y) (hst : 1 ≤ st ∧ st ≤ 6) (hviol : isHostViol st d.opcode = false) :
    turnedAway d st det (setStage none (invalidateBank d.target y)) (finish (stageFails d st det y)) := by
  obtain ⟨hstep, -⟩ := lost_setStage (b := d.target) (offs := []) h.wornRecs h.recsOk
  have hz := h.step hstep
  rw [stageFails]
  generalize setStage none (invalidateBank d.target y) = z at *
  exact turnedAway_of_fail (h := z.hif) (y := z) hz.answerable hst hviol hz.regs rfl

/-- One that is answered, and recorded where R127 has it. -/
theorem stageFails_answers (h : StageMay d y) (hst : ¬ (1 ≤ st ∧ st ≤ 6)) :
    ∃ z s1, BankLost d.target offs y z ∧ Recorded [] [] z s1 ∧ answers d st [] det s1 (finish (stageFails d st det y)) := by
  have hlost := lost_setStage (b := d.target) (offs := offs) h.wornRecs h.recsOk
  have hz := h.step hlost.step
  rw [stageFails]
  generalize setStage none (invalidateBank d.target y) = z at *
  have hrec : Recorded [] [] z (counted d st z) := Recorded.counted d st z hz.ready (fun hc => absurd hc hst)
  exact ⟨z, counted d st z, hlost, hrec, hz.answerable.counted hrec⟩

/-- What such an end leaves. -/
theorem lost_reports {s1 : State} (hxy : StageStep b offs x y) (hlost : BankLost b offs y z) (hr : Recorded [] [] z s1) :
    (bankValid b s1 = false ∧ ∀ id, id ≠ recBank b → recGet id s1 = recGet id x) ∧
      blankRecords s1 = blankRecords (stageEnded s1 x) ∧ keepsRegs (recordRegs ++ offs) x s1 := by
  have hstep := hxy.trans hlost.step
  refine ⟨⟨?_, fun id hid => ?_⟩, blankRecords_ended hstep hlost.stage hr, fun off ho => ?_⟩
  · rw [bankValid, recRead, recGet, hr.recs]
    exact hlost.invalid
  · rw [recGet, hr.recs]
    exact hstep.others id hid
  · rw [List.mem_append, not_or] at ho
    exact (hr.regs.keeps off (by simpa using ho.1)).trans (hstep.regs.keeps off ho.2)

/-- With no byte written but the ledger's. -/
theorem lost_recordsOnly {s1 : State} (hxy : StageStep b offs x y) (hm : y.nv.mem = x.nv.mem) (hlost : BankLost b offs y z)
    (hr : Recorded [] [] z s1) : (bankValid b s1 = false ∧ ∀ id, id ≠ recBank b → recGet id s1 = recGet id x) ∧
      recordsOnly [] offs (stageEnded s1 x) s1 := by
  obtain ⟨h1, h2, h3⟩ := lost_reports hxy hlost hr
  refine ⟨h1, h2, fun off ho => h3 off ho, fun a ha hc => ?_⟩
  rw [hr.array.mem a ha hc, hlost.mem, hm]
  rfl

/-! ## The checks of a chunk -/

/-- The state in which a first chunk begins. -/
def stageBegun (d : Desc) (x : State) : State :=
  if p32 d 0 = 0 then setStage none (invalidateBank d.target x) else x

/-- The header that a chunk belongs to. -/
def stageHeader (d : Desc) (data : Bytes) (x : State) : Bytes :=
  if p32 d 0 = 0 then data.take 256 else nvPeek (bankAddr d.target) 256 x

/-- The state in which its signature has been verified. -/
def headerChecked (d : Desc) (h : Bytes) (x : State) : State :=
  if p32 d 0 = 0 && headerForm h then countVerify (headerSig h) x else x

theorem countVerify_step (ok : Bool) (x : State) : StageStep b [CRY_PKE_CNT.reg, CRY_CNT1.reg] x (countVerify ok x) := by
  unfold countVerify
  cases ok with
  | true => exact .of_regs (.bump _ _ (by decide)) rfl
  | false => exact .of_regs ((RegsKept.bump CRY_PKE_CNT.VERIFY x (by decide)).trans (.bump _ _ (by decide))) rfl

theorem countVerify_passes (x : State) : StageStep b [CRY_PKE_CNT.reg] x (countVerify true x) :=
  .of_regs (.bump _ _ (by decide)) rfl

/-- A first chunk's bank is invalid, and the array as before. -/
structure ChunkBegun (d : Desc) (offs : List Nat) (x y : State) : Prop where
  step : StageStep d.target offs x y
  mem : y.nv.mem = x.nv.mem
  bad : y.nv.bad = x.nv.bad
  invalid : p32 d 0 = 0 → bankValid d.target y = false
  later : p32 d 0 ≠ 0 → y = x

theorem stageBegun_begins (h : StageMay d x) : ChunkBegun d offs x (stageBegun d x) := by
  unfold stageBegun
  split
  · next h0 =>
    have hl := lost_setStage (b := d.target) (offs := offs) h.wornRecs h.recsOk
    exact ⟨hl.step, hl.mem, hl.bad, fun _ => hl.invalid, fun hne => absurd h0 hne⟩
  · next h0 => exact ⟨.refl _ _ x, rfl, rfl, fun hz => absurd hz h0, fun _ => rfl⟩

theorem countVerify_nv (ok : Bool) (x : State) : (countVerify ok x).nv = x.nv := by
  unfold countVerify
  cases ok <;> rfl

/-- A chunk whose header has been looked at. -/
theorem headerChecked_begins (h : StageMay d x) (hd : Bytes) :
    ChunkBegun d [CRY_PKE_CNT.reg, CRY_CNT1.reg] x (headerChecked d hd (stageBegun d x)) ∧
      (headerForm hd = true → headerSig hd = true → ChunkBegun d [CRY_PKE_CNT.reg] x (headerChecked d hd (stageBegun d x))) := by
  have hb := stageBegun_begins (offs := [CRY_PKE_CNT.reg, CRY_CNT1.reg]) h
  have hb1 := stageBegun_begins (offs := [CRY_PKE_CNT.reg]) h
  unfold headerChecked
  generalize stageBegun d x = y at *
  have hnv := countVerify_nv (headerSig hd) y
  split
  · next hc =>
    have h0 : p32 d 0 = 0 := by simpa using (Bool.and_eq_true_iff.mp hc).1
    have hval : bankValid d.target (countVerify (headerSig hd) y) = bankValid d.target y := by
      rw [bankValid, bankValid, recRead, recRead, recGet, recGet, hnv]
    refine ⟨⟨hb.step.trans (countVerify_step _ _), ?_, ?_, fun h0 => ?_, fun hne => absurd h0 hne⟩, fun _ hs =>
      ⟨hb1.step.trans (by rw [hs]; exact countVerify_passes _), ?_, ?_, fun h0 => ?_, fun hne => absurd h0 hne⟩⟩
    · rw [hnv, hb.mem]
    · rw [hnv, hb.bad]
    · rw [hval]
      exact hb.invalid h0
    · rw [hnv, hb.mem]
    · rw [hnv, hb.bad]
    · rw [hval]
      exact hb.invalid h0
  · exact ⟨hb, fun _ _ => hb1⟩

/-- MINVER stays while counter 248 does. -/
theorem minVer_congr (hm : ∀ a < 0x100000, mget nvDflt y.nv.mem a = mget nvDflt x.nv.mem a)
    (hb : ∀ a < 0x100000, y.nv.bad.contains a = x.nv.bad.contains a) : minVer y = minVer x := by
  have ht : tally 248 y = tally 248 x := tally_congr 248 fun i hi =>
    cellVal_congr 248 i (fun k hk => hm _ (by unfold cellAddr; omega)) (hb _ (by unfold cellAddr; omega))
  rw [minVer, minVer, tallyVal, tallyVal, ht]

theorem ChunkBegun.minVer (h : ChunkBegun d offs x y) : minVer y = minVer x :=
  minVer_congr (fun _ _ => by rw [h.mem]) (fun _ _ => by rw [h.bad])

/-- The chunk is out of turn. -/
theorem stageChecks_wrongOffset {data : Bytes} (h0 : p32 d 0 ≠ 0) (hc : p32 d 0 ≠ stagedCount d.target x) :
    stageChecks d data x = stageFails d stBadLen 32 x := by
  rw [stageChecks, if_pos ⟨h0, hc⟩]

/-- The chunk is in turn. -/
def InTurn (d : Desc) (x : State) : Prop := p32 d 0 ≠ 0 → p32 d 0 = stagedCount d.target x

/-- The header of a chunk after its beginning. -/
theorem stageHeader_begun (h : StageMay d x) (data : Bytes) : stageHeader d data (stageBegun d x) = stageHeader d data x := by
  rw [stageHeader, stageHeader, nvPeek_congr (stageBegun_begins (offs := []) h).mem]

/-- What the checks of R418 find of a chunk in turn. -/
theorem stageChecks_turn (h : StageMay d x) {data hd : Bytes} (hin : InTurn d x) (hh : stageHeader d data x = hd) :
    let y := headerChecked d hd (stageBegun d x)
    let total := 256 + imgLen hd
    (p32 d 0 = 0 → ∀ st det, headerBad hd x = some (st, det) → stageChecks d data x = stageFails d st det y) ∧
      ((p32 d 0 = 0 → headerBad hd x = none) →
        ((bit 0 (p8 d 4) = true ∧ p32 d 0 + d.len ≠ total) ∨ p32 d 0 + d.len > total →
          stageChecks d data x = stageFails d stBadLen 36 y) ∧
        (¬ ((bit 0 (p8 d 4) = true ∧ p32 d 0 + d.len ≠ total) ∨ p32 d 0 + d.len > total) →
          stageChecks d data x = stageChunk d hd data y)) := by
  intro y total
  have hbegun := (headerChecked_begins h hd).1
  have hbad : headerBad hd y = headerBad hd x := by rw [headerBad, headerBad, hbegun.minVer]
  have hnot : ¬ (p32 d 0 ≠ 0 ∧ p32 d 0 ≠ stagedCount d.target x) := fun hc => hc.2 (hin hc.1)
  have hunit : stageChecks d data x = stageChecks d data x := rfl
  conv_rhs at hunit => rw [stageChecks]
  dsimp only at hunit
  rw [if_neg hnot, ← stageBegun.eq_1, ← stageHeader.eq_1, stageHeader_begun h, hh, ← headerChecked.eq_1] at hunit
  have hy : headerChecked d hd (stageBegun d x) = y := rfl
  rw [hy, hbad] at hunit
  have hnone : (p32 d 0 = 0 → headerBad hd x = none) → (if p32 d 0 = 0 then headerBad hd x else none) = none := by
    intro hb
    split
    · next h0 => exact hb h0
    · rfl
  refine ⟨fun h0 st det hb => ?_, fun hb => ⟨fun hc => ?_, fun hc => ?_⟩⟩
  · rw [hunit, if_pos h0, hb]
  · rw [hunit, hnone hb]
    dsimp only
    rw [if_pos hc]
  · rw [hunit, hnone hb]
    dsimp only
    rw [if_neg hc]

end

end Sys2Proof.Machine
end

section
/-! SUPPORT. Staging firmware: the chunk's write, and the statement. -/
namespace Sys2Proof.Machine

section
variable {s x y z : State} {t : Nat} {d : Desc} {b st det : Nat} {offs : List Nat} {data : Bytes}

/-! ## A chunk's write -/

/-- Where a chunk is written. -/
def chunkAddr (d : Desc) : Nat := bankAddr d.target + p32 d 0

/-- The array after a chunk, its bank's record aside. -/
structure ChunkWritten (d : Desc) (data : Bytes) (x y : State) : Prop where
  step : StageStep d.target [] x y
  stage : y.lcy.stage = x.lcy.stage
  recs : y.nv.recs = x.nv.recs
  peek : nvPeek (chunkAddr d) data.length y = data
  byte : ∀ a, mget nvDflt y.nv.mem a = byteWritten (chunkAddr d) data x a
  bad : ∀ a < 0x100000, y.nv.bad.contains a = x.nv.bad.contains a

/-- The state with the chunk in its bank. -/
def chunkStored (d : Desc) (data : Bytes) (x : State) : State := (nvWrite (chunkAddr d) data x).1

theorem chunkStored_stores (hw : x.nv.worn = []) (hm : Memory.wf nvDflt x.nv.mem = true) :
    nvStore (bankAddr d.target + p32 d 0) data x = (chunkStored d data x, none) ∧
      ChunkWritten d data x (chunkStored d data x) := by
  obtain ⟨hok, hwritten⟩ := nvWrite_written (chunkAddr d) data hw
  have hpeek := nvPeek_nvWrite_same (chunkAddr d) data x hw hm
  have hbyte := fun a => mget_nvWrite (chunkAddr d) a data x hw hm
  have hbad := fun a => (nvWriteWords_bad (chunkAddr d) a data (wordsOf (chunkAddr d) data.length) hw).1
  have hrun : nvStore (bankAddr d.target + p32 d 0) data x = (chunkStored d data x, none) := by
    have hr : nvStore (chunkAddr d) data x = nvWrite (chunkAddr d) data x := by
      simp only [nvStore, hok]
    refine hr.trans (Prod.ext rfl hok)
  refine ⟨hrun, ?_⟩
  have hlist : ∀ a < 0x100000, (chunkStored d data x).nv.bad.contains a = x.nv.bad.contains a := fun a ha => by
    have hout : a ∉ wordsOf (chunkAddr d) data.length := fun hmem => by
      have hle := (le_of_mem_wordsOf hmem).1
      unfold chunkAddr bankAddr at hle
      omega
    rw [chunkStored, nvWrite, hbad]
    simp [hout]
  rw [← chunkStored] at hpeek
  have hframe := hwritten.frame
  rw [← chunkStored] at hframe
  have hbyte' : ∀ a, mget nvDflt (chunkStored d data x).nv.mem a = byteWritten (chunkAddr d) data x a := hbyte
  generalize chunkStored d data x = y at *
  have hrecs : y.nv.recs = x.nv.recs := (congrArg (fun w : State => w.nv.recs) hframe :)
  have hget : ∀ id, recGet id y = recGet id x := fun id => by rw [recGet, recGet, hrecs]
  refine ⟨⟨?_, ?_, fun id _ => hget id, fun h => ⟨by rw [hrecs]; exact h.1, fun id => by rw [hget]; exact h.2 id⟩⟩,
    (congrArg (fun w : State => w.lcy.stage) hframe :), hrecs, hpeek, hbyte', hlist⟩
  · conv_lhs => rw [hframe]
    rw [hframe]
  · rw [hframe]
    exact .of_eq _ rfl rfl

namespace ChunkWritten

variable (h : ChunkWritten d data x y)
include h

/-- Every other byte stays. -/
theorem outside {a : Nat} (ha : a < chunkAddr d ∨ chunkAddr d + data.length ≤ a) :
    mget nvDflt y.nv.mem a = mget nvDflt x.nv.mem a := by
  rw [h.byte, byteWritten, if_neg (by omega)]

theorem minVer : minVer y = minVer x :=
  minVer_congr (fun a ha => h.outside (.inl (by unfold chunkAddr bankAddr; omega))) h.bad

/-- The array reads as one in which the bytes have been put. -/
theorem reads {w : State} (hm : Memory.wf nvDflt w.nv.mem = true) (hxw : x.nv.mem = w.nv.mem) (a : Nat) :
    mget nvDflt y.nv.mem a = mget nvDflt (mwrite nvDflt w.nv.mem (chunkAddr d) data) a := by
  rw [h.byte, byteWritten, hxw]
  split
  · next hin =>
    obtain ⟨i, rfl⟩ := Nat.exists_eq_add_of_le hin.1
    have hi : i < data.length := by omega
    rw [mget_mwrite_in nvDflt data _ i hm hi]
    simp [hi]
  · next hout => exact (mget_mwrite_out nvDflt data _ a _ (by omega)).symm

end ChunkWritten

/-- The check of an image reads the array alone. -/
theorem imageBad_congr (hd : Bytes) (h : ∀ a, mget nvDflt y.nv.mem a = mget nvDflt x.nv.mem a) :
    imageBad b hd y = imageBad b hd x := by
  have hp : ∀ a n, nvPeek a n y = nvPeek a n x := fun a n => List.map_congr_left fun i _ => h _
  rw [imageBad, imageBad, bankPlain, bankPlain, hp]

/-! ## What becomes of a chunk -/

/-- A chunk before the last one. -/
theorem stageChunk_more (hd : Bytes) (hw : y.nv.worn = []) (hm : Memory.wf nvDflt y.nv.mem = true)
    (hlast : bit 0 (p8 d 4) = false) : stageChunk d hd data y = complete d stOk (stageResult (p32 d 0 + d.len) hd false) 0
      (setStage (some ⟨d.target, p32 d 0 + d.len⟩) (chunkStored d data y)) := by
  rw [stageChunk, (chunkStored_stores hw hm).1]
  dsimp only
  rw [if_pos hlast]

/-- The count of a failed tag. -/
def tagCounted (st : Nat) (x : State) : State := if st = stTagFail then bump CRY_CNT0.TAG_FAIL x else x

/-- The last chunk of a bad image. -/
theorem stageChunk_bad (hd : Bytes) (hw : y.nv.worn = []) (hm : Memory.wf nvDflt y.nv.mem = true)
    (hlast : bit 0 (p8 d 4) = true) (hb : imageBad d.target hd (chunkStored d data y) = some (st, det)) :
    stageChunk d hd data y = stageFails d st det (tagCounted st (chunkStored d data y)) := by
  rw [stageChunk, (chunkStored_stores hw hm).1]
  dsimp only
  rw [if_neg (by rw [hlast]; decide), hb]
  rfl

/-- The state after the last chunk of a good one. -/
def bankStored (d : Desc) (hd : Bytes) (x : State) : State :=
  (recStore (recBank d.target) (bankBytes true (leAt 4 4 hd) (imgLen hd)) x).1

theorem stageChunk_good (hd : Bytes) (h : StageMay d y) (hm : Memory.wf nvDflt y.nv.mem = true)
    (hlast : bit 0 (p8 d 4) = true) (hb : imageBad d.target hd (chunkStored d data y) = none) :
    let w := bankStored d hd (chunkStored d data y)
    stageChunk d hd data y = complete d stOk (stageResult (p32 d 0 + d.len) hd (bootable d.target w)) 0
      (append 0x51 d.target (leAt 4 4 hd % 2 ^ 24) (setStage none w)) := by
  intro w
  obtain ⟨hstore, hwritten⟩ := chunkStored_stores (d := d) (data := data) h.worn hm
  have hf := (h.step hwritten.step).wornRecs
  obtain ⟨hok, -⟩ := recStore_bank (b := d.target) (offs := []) (bankBytes true (leAt 4 4 hd) (imgLen hd)) hf
  rw [stageChunk, hstore]
  dsimp only
  rw [if_neg (by rw [hlast]; decide), hb]
  dsimp only
  rw [hok]
  dsimp only
  rw [if_neg (by decide)]
  rfl

/-- The bank of a good image (R417, R418). -/
theorem bankStored_valid (hd : Bytes) (h : StageMay d y) : StageStep d.target [] y (bankStored d hd y) ∧
    bankValid d.target (bankStored d hd y) = true ∧ bankVersion d.target (bankStored d hd y) = leAt 4 4 hd ∧
    (bankStored d hd y).nv.mem = y.nv.mem ∧ minVer (bankStored d hd y) = minVer y := by
  obtain ⟨-, hstep, hsame⟩ := recStore_bank (b := d.target) (offs := []) (bankBytes true (leAt 4 4 hd) (imgLen hd)) h.wornRecs
  have hfail : recFails (recBank d.target) y = false := by
    rw [recFails, h.wornRecs]
    rfl
  obtain ⟨hvalid, hver⟩ := bankRecord_reads h.recsOk (hsame h.recsOk)
  have hmem := recStore_mem (bankBytes true (leAt 4 4 hd) (imgLen hd)) hfail
  have hf' : y.nv.wornRecs.contains (recBank d.target) = false := hfail
  have hbad : (bankStored d hd y).nv.bad = y.nv.bad := by
    simp only [bankStored, recStore_ok _ hfail, recWrite, hf', Bool.false_eq_true, if_false, pushBuf]
  exact ⟨hstep, hvalid, hver (leAt_lt_pow 4 4 hd) rfl, hmem,
    minVer_congr (fun _ _ => by rw [bankStored, hmem]) (fun _ _ => by rw [hbad])⟩

end

end Sys2Proof.Machine
end

section
/-! SUPPORT. FW_STAGE: the commands and the statement. -/
namespace Sys2Proof.Machine

section
variable {s : State} {t tn : Nat} {d : Desc} {b : Bytes} {fl : List Flight} {offs : List Nat}

/-! ## What FW_STAGE is served from -/

/-- A served FW_STAGE that reads its SRC. -/
structure Stages (t : Nat) (d : Desc) (b : Bytes) (s : State) : Prop where
  serves : serves t d s
  row : isRow 0x68 d = true
  flags : p8 d 4 ≤ 1
  par : parNonzero 5 24 d = none
  worn : s.nv.worn = []
  wornRecs : s.nv.wornRecs = []
  ready : s.nv.ledgerReady = true
  target : d.target < 2
  fit : p32 d 0 + d.len ≤ 0x100000
  read : dmaRead d d.srcAddr d.len s = some b

/-- The unit's state, and its work. -/
structure StageServed (t : Nat) (d : Desc) (s w : State) : Prop where
  may : StageMay d w
  wf : Memory.wf nvDflt w.nv.mem = true
  run : exec (.fwStage t d) s = .next (finish (fwStage d w))

theorem Stages.length (h : Stages t d b s) : b.length = d.len := dmaRead_length h.read

theorem Stages.opcode (h : Stages t d b s) : d.opcode = 0x68 := opcode_of_isRow h.row

theorem Stages.served (h : Stages t d b s) : ∃ fl tn, StageServed t d s (working fl tn (elapse t s)) := by
  obtain ⟨fl, tn, hans, hrun⟩ := served_working h.serves
  obtain ⟨-, -, -, hmem, -, hswf⟩ := h.serves.2.1
  obtain ⟨-, -, -, -, -, -, -, hseq⟩ := h.serves.2.2.1
  have hrecs : (working fl tn (elapse t s)).nv.recs = s.nv.recs := elapse_nv_recs t s
  refine ⟨fl, tn, ⟨hans, (elapse_nv_worn t s).trans h.worn, (elapse_nv_wornRecs t s).trans h.wornRecs,
    (elapse_nv_ledgerReady t s).trans h.ready, ⟨by rw [hrecs]; exact hswf, fun id => ?_⟩,
    memorySafe_elapse_wf h.serves.2.1 t⟩, ?_, ?_⟩
  · rw [recGet, hrecs]
    exact seqsOk_sget hseq id
  · rw [show (working fl tn (elapse t s)).nv.mem = s.nv.mem from elapse_nv_mem t s]
    exact hmem
  · show descCommand t (asOp 0x68 d) fwStage s = _
    rw [asOp_self h.row, hrun fwStage]

/-- What the unit's state has as at the command before. -/
structure StageSees (s w : State) : Prop where
  lcy : w.lcy = s.lcy
  mem : w.nv.mem = s.nv.mem
  get : ∀ id, recGet id w = recGet id s
  minVer : minVer w = minVer s
  regs : ∀ off, regGet off w = regGet off s

theorem stageSees (fl : List Flight) (tn t : Nat) (s : State) : StageSees s (working fl tn (elapse t s)) :=
  ⟨elapse_lcy t s, elapse_nv_mem t s, fun id => elapse_recGet id t s, minVer_congr (fun _ _ => congrArg (mget nvDflt · _) (elapse_nv_mem t s))
    (fun _ _ => congrArg (List.contains · _) (elapse_nv_bad t s)), fun off => elapse_regGet off t s⟩

/-- FW_STAGE that a bank does not forbid comes to its checks (R418). -/
theorem fwStage_checks {w : State} (h : Stages t d b s) (hread : dmaRead d d.srcAddr d.len w = some b)
    (hrun : runsBank d.target w = false) (htrial : w.lcy.trial = none) (hlen : p32 d 0 = 0 → 256 ≤ d.len) :
    fwStage d w = stageChecks d b w := by
  have hflags := h.flags
  rw [fwStage, if_neg (by omega), reserved_free h.par, if_neg (by simp [hrun, htrial]), if_neg (by omega), readSrc_some hread]

/-! ## Ends of a staging, told from the tick -/

/-- A staging has ended with its bank lost, as `Obligations.FirmwareIsStaged` writes it out. -/
def StagingLost (t : Nat) (d : Desc) (offs : List Nat) (s s1 : State) : Prop :=
  (bankValid d.target s1 = false ∧ ∀ id, id ≠ recBank d.target → recGet id s1 = recGet id s) ∧
    recordsOnly [] offs { elapse t s with
      lcy := { s.lcy with stage := none }
      nv := { (elapse t s).nv with recs := s1.nv.recs, twins := s1.nv.twins } } s1

theorem stageEnded_working (s1 : State) : stageEnded s1 (working fl tn (elapse t s)) = working fl tn { elapse t s with
    lcy := { s.lcy with stage := none }
    nv := { (elapse t s).nv with recs := s1.nv.recs, twins := s1.nv.twins } } := by
  rw [stageEnded, (stageSees fl tn t s).lcy]
  rfl

/-- The unit's state begins as the tick left it. -/
theorem recordsOnly_of_working {cells os : List Nat} {x y : State} (h : recordsOnly cells os (working fl tn x) y) :
    recordsOnly cells os x y := ⟨h.1, h.2.1, h.2.2⟩

theorem stagingLost_of {y z s1 : State} (hxy : StageStep d.target offs (working fl tn (elapse t s)) y)
    (hm : y.nv.mem = (working fl tn (elapse t s)).nv.mem) (hlost : BankLost d.target offs y z) (hr : Recorded [] [] z s1) :
    StagingLost t d offs s s1 := by
  obtain ⟨⟨h1, h2⟩, h3⟩ := lost_recordsOnly hxy hm hlost hr
  rw [stageEnded_working] at h3
  exact ⟨⟨h1, fun id hid => (h2 id hid).trans ((stageSees fl tn t s).get id)⟩, recordsOnly_of_working h3⟩

/-- A status that HIF_VIOL_CNT counts is turned away with the bank lost. -/
theorem stageFails_lost {st det : Nat} {y : State} (h : StageMay d y) (hst : 1 ≤ st ∧ st ≤ 6)
    (hviol : isHostViol st d.opcode = false) (hxy : StageStep d.target offs (working fl tn (elapse t s)) y)
    (hm : y.nv.mem = (working fl tn (elapse t s)).nv.mem) :
    ∃ s1, turnedAway d st det s1 (finish (stageFails d st det y)) ∧ StagingLost t d offs s s1 :=
  ⟨_, stageFails_turnedAway h hst hviol, stagingLost_of hxy hm (lost_setStage h.wornRecs h.recsOk) (Recorded.refl _)⟩

/-- What a bad header is answered with (R418). -/
theorem headerBad_status {hd : Bytes} {x : State} {st det : Nat} (h : headerBad hd x = some (st, det)) :
    st = stBadLen ∨ ¬ (1 ≤ st ∧ st ≤ 6) ∧ st ≠ stBadLen := by
  unfold headerBad at h
  split at h
  · exact .inl (Prod.mk.inj (Option.some.inj h)).1.symm
  · split at h
    · obtain ⟨rfl, -⟩ := Prod.mk.inj (Option.some.inj h)
      exact .inr (by decide)
    · split at h
      · obtain ⟨rfl, -⟩ := Prod.mk.inj (Option.some.inj h)
        exact .inr (by decide)
      · exact absurd h (by simp)

/-- A good header has its form and its signature. -/
theorem headerBad_none {hd : Bytes} {x : State} (h : headerBad hd x = none) : headerForm hd = true ∧ headerSig hd = true := by
  unfold headerBad at h
  split at h
  · exact absurd h (by simp)
  · next hform =>
    split at h
    · exact absurd h (by simp)
    · next hsig => exact ⟨by simpa using hform, by simpa using hsig⟩

theorem headerBad_congr {hd : Bytes} {x y : State} (h : minVer y = minVer x) : headerBad hd y = headerBad hd x := by
  rw [headerBad, headerBad, h]

/-! ## The clauses -/

/-- A bank that may not be staged (R418). -/
theorem fwStage_forbidden (h : Stages t d b s) (hno : runsBank d.target s = true ∨ s.lcy.trial.isSome = true) :
    ∃ s', exec (.fwStage t d) s = .next s' ∧ turnedAway d stBadHandle 4 (elapse t s) s' := by
  obtain ⟨fl, tn, hserved⟩ := h.served
  have hlcy := (stageSees fl tn t s).lcy
  have hflags := h.flags
  have hcond : (runsBank d.target (working fl tn (elapse t s)) || (working fl tn (elapse t s)).lcy.trial.isSome) = true := by
    rw [runsBank, hlcy, ← runsBank.eq_1 d.target s, Bool.or_eq_true]
    exact hno
  have hunit : fwStage d (working fl tn (elapse t s)) = fail d stBadHandle 4 (working fl tn (elapse t s)) := by
    rw [fwStage, if_neg (by omega), reserved_free h.par, if_pos hcond]
  refine ⟨_, hserved.run, ?_⟩
  rw [hunit]
  exact turnedAway_of_fail (y := elapse t s) hserved.may.answerable (by decide) (by rw [h.opcode]; decide)
    (memorySafe_elapse_wf h.serves.2.1 t) rfl

/-- A first chunk without a header (R418). -/
theorem fwStage_short (h : Stages t d b s) (hrun : runsBank d.target s = false) (htrial : s.lcy.trial = none)
    (h0 : p32 d 0 = 0) (hlen : d.len < 256) :
    ∃ s', exec (.fwStage t d) s = .next s' ∧ turnedAway d stBadLen 8 (elapse t s) s' := by
  obtain ⟨fl, tn, hserved⟩ := h.served
  have hlcy := (stageSees fl tn t s).lcy
  have hflags := h.flags
  have hcond : ¬ (runsBank d.target (working fl tn (elapse t s)) || (working fl tn (elapse t s)).lcy.trial.isSome) = true := by
    rw [runsBank, hlcy, ← runsBank.eq_1 d.target s, hrun, htrial]
    decide
  have hunit : fwStage d (working fl tn (elapse t s)) = fail d stBadLen 8 (working fl tn (elapse t s)) := by
    rw [fwStage, if_neg (by omega), reserved_free h.par, if_neg hcond, if_pos ⟨h0, hlen⟩]
  refine ⟨_, hserved.run, ?_⟩
  rw [hunit]
  exact turnedAway_of_fail (y := elapse t s) hserved.may.answerable (by decide) (by rw [h.opcode]; decide)
    (memorySafe_elapse_wf h.serves.2.1 t) rfl

/-- A chunk at its checks. -/
structure StageChecked (t : Nat) (d : Desc) (b : Bytes) (s w : State) : Prop where
  may : StageMay d w
  wf : Memory.wf nvDflt w.nv.mem = true
  sees : StageSees s w
  run : exec (.fwStage t d) s = .next (finish (stageChecks d b w))

theorem Stages.checked (h : Stages t d b s) (hrun : runsBank d.target s = false) (htrial : s.lcy.trial = none)
    (hlen : p32 d 0 = 0 → 256 ≤ d.len) : ∃ fl tn, StageChecked t d b s (working fl tn (elapse t s)) := by
  obtain ⟨fl, tn, hserved⟩ := h.served
  have hsees := stageSees fl tn t s
  refine ⟨fl, tn, hserved.may, hserved.wf, hsees, ?_⟩
  rw [hserved.run, fwStage_checks h ((working_crypt fl tn 0 0 isAes d.srcAddr d.len).2.1.trans h.read) ?_ ?_ hlen]
  · rw [runsBank, hsees.lcy]
    exact hrun
  · rw [hsees.lcy]
    exact htrial

/-- A chunk out of turn (R418). -/
theorem fwStage_wrongOffset (h : Stages t d b s) (hrun : runsBank d.target s = false) (htrial : s.lcy.trial = none)
    (h0 : p32 d 0 ≠ 0) (hc : p32 d 0 ≠ stagedCount d.target s) :
    ∃ s1 s', exec (.fwStage t d) s = .next s' ∧ turnedAway d stBadLen 32 s1 s' ∧ StagingLost t d [] s s1 := by
  obtain ⟨fl, tn, hch⟩ := h.checked hrun htrial (fun hz => absurd hz h0)
  have hcount : p32 d 0 ≠ stagedCount d.target (working fl tn (elapse t s)) := by
    rw [stagedCount, hch.sees.lcy]
    exact hc
  obtain ⟨s1, hturn, hlost⟩ := stageFails_lost (fl := fl) (tn := tn) (t := t) (s := s) (offs := []) (det := 32) hch.may
    (st := stBadLen) (by decide) (by rw [h.opcode]; decide) (.refl _ _ _) rfl
  refine ⟨s1, _, hch.run, ?_, hlost⟩
  rw [stageChecks_wrongOffset h0 hcount]
  exact hturn

/-- A bad header (R418). -/
theorem fwStage_badHeader (h : Stages t d b s) (hrun : runsBank d.target s = false) (htrial : s.lcy.trial = none)
    (h0 : p32 d 0 = 0) (hlen : 256 ≤ d.len) {hd : Bytes} (hhd : b.take 256 = hd) {st det : Nat}
    (hbad : headerBad hd s = some (st, det)) :
    ∃ s1 s', exec (.fwStage t d) s = .next s' ∧
      (if st = stBadLen then turnedAway d st det s1 s' else answers d st [] det s1 s') ∧
      StagingLost t d [CRY_PKE_CNT.reg, CRY_CNT1.reg] s s1 := by
  obtain ⟨fl, tn, hch⟩ := h.checked hrun htrial (fun _ => hlen)
  have hhead : stageHeader d b (working fl tn (elapse t s)) = hd := by rw [stageHeader, if_pos h0, hhd]
  have hbegun := (headerChecked_begins hch.may hd).1
  have hmay := hch.may.step hbegun.step
  have hunit := (stageChecks_turn hch.may (fun hne => absurd h0 hne) hhead).1 h0 st det
    ((headerBad_congr hch.sees.minVer).trans hbad)
  rw [hch.run, hunit]
  rcases headerBad_status hbad with rfl | ⟨hst, hne⟩
  · obtain ⟨s1, hturn, hlost⟩ := stageFails_lost (st := stBadLen) (det := det) hmay (by decide) (by rw [h.opcode]; decide) hbegun.step hbegun.mem
    exact ⟨s1, _, rfl, by rw [if_pos rfl]; exact hturn, hlost⟩
  · obtain ⟨z, s1, hlost, hrec, hans⟩ := stageFails_answers (det := det) (offs := [CRY_PKE_CNT.reg, CRY_CNT1.reg]) hmay hst
    exact ⟨s1, _, rfl, by rw [if_neg hne]; exact hans, stagingLost_of hbegun.step hbegun.mem hlost hrec⟩

end

end Sys2Proof.Machine
end

section
/-! SUPPORT. FW_STAGE: chunks in turn, and the statement. -/
namespace Sys2Proof.Machine

section
variable {s w y : State} {t tn : Nat} {d : Desc} {b hd : Bytes} {fl : List Flight}

/-- A chunk in turn at its length check. -/
structure ChunkServed (t : Nat) (d : Desc) (b hd : Bytes) (s w y : State) : Prop where
  start : StageMay d w
  begun : ChunkBegun d [CRY_PKE_CNT.reg] w y
  may : StageMay d y
  wf : Memory.wf nvDflt y.nv.mem = true
  sees : StageSees s w
  wrong : (bit 0 (p8 d 4) = true ∧ p32 d 0 + d.len ≠ 256 + imgLen hd) ∨ p32 d 0 + d.len > 256 + imgLen hd →
    exec (.fwStage t d) s = .next (finish (stageFails d stBadLen 36 y))
  right : ¬ ((bit 0 (p8 d 4) = true ∧ p32 d 0 + d.len ≠ 256 + imgLen hd) ∨ p32 d 0 + d.len > 256 + imgLen hd) →
    exec (.fwStage t d) s = .next (finish (stageChunk d hd b y))

/-- A first chunk with a good header, or one that continues. -/
def ChunkInTurn (d : Desc) (hd : Bytes) (s : State) : Prop :=
  p32 d 0 = 0 ∧ 256 ≤ d.len ∧ headerBad hd s = none ∨ p32 d 0 ≠ 0 ∧ p32 d 0 = stagedCount d.target s

theorem Stages.chunk (h : Stages t d b s) (hrun : runsBank d.target s = false) (htrial : s.lcy.trial = none)
    (hhd : (if p32 d 0 = 0 then b.take 256 else nvPeek (bankAddr d.target) 256 s) = hd) (hturn : ChunkInTurn d hd s) :
    ∃ fl tn y, ChunkServed t d b hd s (working fl tn (elapse t s)) y := by
  obtain ⟨fl, tn, hch⟩ := h.checked hrun htrial (fun h0 => hturn.elim (fun hc => hc.2.1) (fun hc => absurd h0 hc.1))
  have hsees := hch.sees
  have hmay := hch.may
  have hhead : stageHeader d b (working fl tn (elapse t s)) = hd := by
    rw [stageHeader, nvPeek_congr hsees.mem, hhd]
  have hcount : stagedCount d.target (working fl tn (elapse t s)) = stagedCount d.target s := by
    rw [stagedCount, stagedCount, hsees.lcy]
  have hbad : p32 d 0 = 0 → headerBad hd s = none := fun h0 =>
    hturn.elim (fun hc => hc.2.2) (fun hc => absurd h0 hc.1)
  have hin : InTurn d (working fl tn (elapse t s)) := fun hne => by
    rw [hcount]
    exact hturn.elim (fun hc => absurd hc.1 hne) (fun hc => hc.2)
  obtain ⟨-, hgood⟩ := stageChecks_turn hmay hin hhead
  obtain ⟨hwrong, hright⟩ := hgood fun h0 => (headerBad_congr hsees.minVer).trans (hbad h0)
  have hbegun : ChunkBegun d [CRY_PKE_CNT.reg] (working fl tn (elapse t s))
      (headerChecked d hd (stageBegun d (working fl tn (elapse t s)))) := by
    by_cases h0 : p32 d 0 = 0
    · obtain ⟨hform, hsig⟩ := headerBad_none (hbad h0)
      exact (headerChecked_begins hmay hd).2 hform hsig
    · have hsame : headerChecked d hd (stageBegun d (working fl tn (elapse t s))) = working fl tn (elapse t s) := by
        rw [headerChecked, if_neg (by simp [h0]), stageBegun, if_neg h0]
      rw [hsame]
      exact ⟨.refl _ _ _, rfl, rfl, fun hz => absurd hz h0, fun _ => rfl⟩
  refine ⟨fl, tn, _, hmay, hbegun, hmay.step hbegun.step, by rw [hbegun.mem]; exact hch.wf, hsees, fun hc => ?_, fun hc => ?_⟩
  · rw [hch.run, hwrong hc]
  · rw [hch.run, hright hc]

/-- The chunk's length is wrong (R418). -/
theorem fwStage_badLength (hc : ChunkServed t d b hd s (working fl tn (elapse t s)) y) (hop : d.opcode = 0x68)
    (hlen : 256 + imgLen hd < p32 d 0 + d.len ∨ bit 0 (p8 d 4) = true ∧ p32 d 0 + d.len ≠ 256 + imgLen hd) :
    ∃ s1 s', exec (.fwStage t d) s = .next s' ∧ turnedAway d stBadLen 36 s1 s' ∧ StagingLost t d [CRY_PKE_CNT.reg] s s1 := by
  obtain ⟨s1, hturn, hlost⟩ := stageFails_lost (st := stBadLen) (det := 36) hc.may (by decide) (by rw [hop]; decide)
    hc.begun.step hc.begun.mem
  exact ⟨s1, _, hc.wrong (hlen.elim .inr .inl), hturn, hlost⟩

theorem StageStep.widen {k : Nat} {offs : List Nat} {x z : State} (h : StageStep k offs x z) :
    z = { x with regs := z.regs, lcy := { x.lcy with stage := z.lcy.stage }, nv := z.nv } :=
  (congrArg (fun v : State => { v with regs := z.regs, nv := z.nv }) h.frame :)

/-- What a written chunk leaves of the array. -/
theorem chunk_outside {z : State} (hc : ChunkServed t d b hd s w y) (hw : ChunkWritten d b y z) (hlen : b.length = d.len)
    {a : Nat} (ha : a < chunkAddr d ∨ chunkAddr d + d.len ≤ a) : mget nvDflt z.nv.mem a = mget nvDflt s.nv.mem a := by
  rw [hw.outside (by rw [hlen]; exact ha), hc.begun.mem, hc.sees.mem]

/-- A chunk before the last one (R418). -/
theorem fwStage_more (h : Stages t d b s) (hc : ChunkServed t d b hd s (working fl tn (elapse t s)) y)
    (hlast : bit 0 (p8 d 4) = false) (hfit : p32 d 0 + d.len ≤ 256 + imgLen hd) :
    ∃ s1 s', exec (.fwStage t d) s = .next s' ∧ answers d stOk (stageResult (p32 d 0 + d.len) hd false) 0 s1 s' ∧
      s1 = { elapse t s with
        regs := s1.regs, nv := s1.nv, lcy := { s.lcy with stage := some ⟨d.target, p32 d 0 + d.len⟩ } } ∧
      nvPeek (chunkAddr d) d.len s1 = b ∧
      (∀ x < 0x400000, x < chunkAddr d ∨ chunkAddr d + d.len ≤ x → mget nvDflt s1.nv.mem x = mget nvDflt s.nv.mem x) ∧
      (p32 d 0 = 0 → bankValid d.target s1 = false) ∧
      (∀ id, id ≠ recBank d.target ∨ p32 d 0 ≠ 0 → recGet id s1 = recGet id s) ∧ keepsRegs [CRY_PKE_CNT.reg] s s1 := by
  obtain ⟨-, hwritten⟩ := chunkStored_stores (d := d) (data := b) hc.may.worn hc.wf
  have hrun := hc.right (by rw [hlast]; simp; omega)
  rw [stageChunk_more hd hc.may.worn hc.wf hlast] at hrun
  have hout := fun a => chunk_outside (a := a) hc hwritten h.length
  generalize chunkStored d b y = z at hwritten hrun hout
  have hstep := (hc.begun.step.trans (hwritten.step.mono (List.nil_subset _))).trans
    (stageStep_setStage (some ⟨d.target, p32 d 0 + d.len⟩) z)
  let s1 : State := { elapse t s with
    regs := z.regs, nv := z.nv, lcy := { s.lcy with stage := some ⟨d.target, p32 d 0 + d.len⟩ } }
  have hz : setStage (some ⟨d.target, p32 d 0 + d.len⟩) z = working fl tn s1 := by
    have hw := hstep.widen
    rw [hc.sees.lcy] at hw
    exact hw
  have hans : Answerable d (working fl tn s1) := by
    rw [← hz]
    exact hstep.answerable hc.start.answerable
  rw [hz] at hrun
  have hrecs : ∀ id, recGet id s1 = recGet id y := fun id => by
    rw [recGet, recGet, show s1.nv.recs = y.nv.recs from hwritten.recs]
  refine ⟨s1, _, hrun, answers_of_working (hans.quiet (quietStatus_ok _)), rfl, ?_, fun a _ ha => hout a ha, fun h0 => ?_,
    fun id hid => ?_, fun off ho => ?_⟩
  · rw [nvPeek_congr (show s1.nv.mem = z.nv.mem from rfl), ← h.length]
    exact hwritten.peek
  · rw [bankValid, recRead, hrecs]
    exact hc.begun.invalid h0
  · rw [hrecs]
    rcases hid with hid | hne
    · rw [hc.begun.step.others id hid, hc.sees.get]
    · rw [hc.begun.later hne, hc.sees.get]
  · have hk := (hc.begun.step.regs.trans (hwritten.step.regs.mono (fun _ hx => List.nil_subset _ hx))).keeps off ho
    have hs1 : regGet off s1 = regGet off (setStage (some ⟨d.target, p32 d 0 + d.len⟩) z) := by
      rw [hz]
      rfl
    exact (hs1.trans hk).trans (hc.sees.regs off)

/-! ## The last chunk -/

/-- The array after the last chunk, as `Obligations.FirmwareIsStaged` writes it out. -/
def imagePut (d : Desc) (b : Bytes) (s : State) : State :=
  { s with nv := { s.nv with mem := mwrite nvDflt s.nv.mem (chunkAddr d) b } }

theorem imageBad_stored {z : State} (hm : Memory.wf nvDflt s.nv.mem = true) (hc : ChunkServed t d b hd s w y)
    (hw : ChunkWritten d b y z) : imageBad d.target hd z = imageBad d.target hd (imagePut d b s) :=
  imageBad_congr hd (hw.reads hm (hc.begun.mem.trans hc.sees.mem))

/-- What the end of the last chunk leaves beside the bank. -/
structure StageDone (t : Nat) (d : Desc) (offs : List Nat) (s s1 : State) : Prop where
  outside : ∀ x < 0x400000, x < chunkAddr d ∨ chunkAddr d + d.len ≤ x → mget nvDflt s1.nv.mem x = mget nvDflt s.nv.mem x
  regs : keepsRegs offs s s1
  frame : blankRecords s1 = blankRecords { elapse t s with
    lcy := { s.lcy with stage := none }
    nv := { (elapse t s).nv with recs := s1.nv.recs, twins := s1.nv.twins } }

/-- What a bad image is answered with (R418). -/
theorem imageBad_status {k st det : Nat} {x : State} (h : imageBad k hd x = some (st, det)) : ¬ (1 ≤ st ∧ st ≤ 6) := by
  unfold imageBad at h
  split at h
  · obtain ⟨rfl, -⟩ := Prod.mk.inj (Option.some.inj h)
    decide
  · split at h
    · obtain ⟨rfl, -⟩ := Prod.mk.inj (Option.some.inj h)
      decide
    · exact absurd h (by simp)

/-- A failed tag counts. -/
theorem tagCounted_counts {k st : Nat} {x : State} (hwf : Regs.wf x = true) :
    StageStep k [CRY_CNT0.reg] x (tagCounted st x) ∧ (tagCounted st x).nv = x.nv ∧
      fld CRY_CNT0.TAG_FAIL (tagCounted st x) = sat CRY_CNT0.TAG_FAIL.width
        (fld CRY_CNT0.TAG_FAIL x + b2n (decide (st = stTagFail))) := by
  unfold tagCounted
  by_cases hst : st = stTagFail
  · rw [if_pos hst, decide_eq_true hst]
    exact ⟨.of_regs (.bump _ _ (by decide)) rfl, rfl, fld_bump_same _ (by decide) _ hwf⟩
  · rw [if_neg hst, decide_eq_false hst]
    exact ⟨.refl _ _ _, rfl, fld_sat_self _ _⟩

theorem BankLost.mono {k : Nat} {offs offs' : List Nat} {x z : State} (h : BankLost k offs x z) (ho : offs ⊆ offs') :
    BankLost k offs' x z :=
  ⟨h.step.mono ho, h.invalid, h.stage, h.mem, h.bad⟩

/-- The last chunk of a bad image (R418). -/
theorem fwStage_badImage {st det : Nat} (h : Stages t d b s) (hc : ChunkServed t d b hd s (working fl tn (elapse t s)) y)
    (hlast : bit 0 (p8 d 4) = true) (hfit : p32 d 0 + d.len = 256 + imgLen hd)
    (hbad : imageBad d.target hd (imagePut d b s) = some (st, det)) :
    ∃ s1 s', exec (.fwStage t d) s = .next s' ∧ answers d st [] det s1 s' ∧
      (bankValid d.target s1 = false ∧ ∀ id, id ≠ recBank d.target → recGet id s1 = recGet id s) ∧
      StageDone t d (CRY_PKE_CNT.reg :: CRY_CNT0.reg :: recordRegs) s s1 ∧
      fld CRY_CNT0.TAG_FAIL s1 = sat CRY_CNT0.TAG_FAIL.width
        (fld CRY_CNT0.TAG_FAIL s + b2n (decide (st = stTagFail))) := by
  obtain ⟨-, hwritten⟩ := chunkStored_stores (d := d) (data := b) hc.may.worn hc.wf
  obtain ⟨-, -, -, hmem, -, -⟩ := h.serves.2.1
  have hz := (imageBad_stored hmem hc hwritten).trans hbad
  have hrun := hc.right (by omega)
  rw [stageChunk_bad hd hc.may.worn hc.wf hlast hz] at hrun
  have hout := fun a => chunk_outside (a := a) hc hwritten h.length
  generalize chunkStored d b y = z at hwritten hrun hout hz
  have hmay := hc.may.step hwritten.step
  obtain ⟨htag, hnv, hfld⟩ := tagCounted_counts (k := d.target) (st := st) hmay.regs
  generalize tagCounted st z = u at htag hnv hfld hrun
  obtain ⟨v, s1, hlost, hrec, hans⟩ := stageFails_answers (st := st) (det := det) (offs := []) (hmay.step htag)
    (imageBad_status hz)
  have hbegun := hc.begun.step
  have hstep : StageStep d.target [CRY_PKE_CNT.reg, CRY_CNT0.reg] (working fl tn (elapse t s)) u :=
    ((hbegun.mono (by simp)).trans (hwritten.step.mono (List.nil_subset _))).trans (htag.mono (by simp))
  obtain ⟨⟨hinv, hothers⟩, hframe, hregs⟩ := lost_reports hstep (hlost.mono (List.nil_subset _)) hrec
  refine ⟨s1, _, hrun, hans, ⟨hinv, fun id hid => (hothers id hid).trans (hc.sees.get id)⟩,
    ⟨fun a ha hx => ?_, fun off ho => ?_, ?_⟩, ?_⟩
  · rw [hrec.array.mem a ha (by simp), hlost.mem, hnv, hout a hx]
  · refine (hregs off fun hmem => ho ?_).trans (hc.sees.regs off)
    simp only [List.mem_append, List.mem_cons, List.not_mem_nil, or_false] at hmem ⊢
    tauto
  · rw [hframe, stageEnded_working]
    rfl
  · have h1 : fld CRY_CNT0.TAG_FAIL s1 = fld CRY_CNT0.TAG_FAIL u :=
      (hrec.fld _ (by decide)).trans (hlost.step.regs.fld _ (by decide))
    have h2 : fld CRY_CNT0.TAG_FAIL z = fld CRY_CNT0.TAG_FAIL s :=
      ((hwritten.step.regs.fld _ (by decide)).trans (hbegun.regs.fld _ (by decide))).trans (elapse_fld _ t s)
    rw [h1, hfld, h2]

/-- The last chunk of a good one (R417, R418). -/
theorem fwStage_goodImage (h : Stages t d b s) (hc : ChunkServed t d b hd s (working fl tn (elapse t s)) y)
    (hlast : bit 0 (p8 d 4) = true) (hfit : p32 d 0 + d.len = 256 + imgLen hd)
    (hgood : imageBad d.target hd (imagePut d b s) = none) :
    ∃ s1 s', exec (.fwStage t d) s = .next s' ∧
      answers d stOk (stageResult (p32 d 0 + d.len) hd (decide (minVer s ≤ leAt 4 4 hd))) 0 s1 s' ∧
      bankValid d.target s' = true ∧ bankVersion d.target s' = leAt 4 4 hd ∧ nvPeek (chunkAddr d) d.len s' = b ∧
      StageDone t d (CRY_PKE_CNT.reg :: recordRegs) s s1 := by
  obtain ⟨-, hwritten⟩ := chunkStored_stores (d := d) (data := b) hc.may.worn hc.wf
  obtain ⟨-, -, -, hmem, -, -⟩ := h.serves.2.1
  have hz := (imageBad_stored hmem hc hwritten).trans hgood
  have hrun := hc.right (by omega)
  rw [stageChunk_good hd hc.may hc.wf hlast hz] at hrun
  have hout := fun a => chunk_outside (a := a) hc hwritten h.length
  generalize chunkStored d b y = z at hwritten hrun hout hz
  have hmay := hc.may.step hwritten.step
  obtain ⟨hstored, hvalid, hver, hzmem, hminz⟩ := bankStored_valid hd hmay
  have hmin : minVer (bankStored d hd z) = minVer s :=
    hminz.trans ((hwritten.minVer.trans hc.begun.minVer).trans hc.sees.minVer)
  have hboot : bootable d.target (bankStored d hd z) = decide (minVer s ≤ leAt 4 4 hd) := by
    rw [bootable, hvalid, hver, hmin, Bool.true_and]
  rw [hboot] at hrun
  generalize bankStored d hd z = u at hstored hvalid hver hzmem hrun
  have hstep : StageStep d.target [CRY_PKE_CNT.reg] (working fl tn (elapse t s)) (setStage none u) :=
    ((hc.begun.step.trans (hwritten.step.mono (List.nil_subset _))).trans (hstored.mono (List.nil_subset _))).trans
      (stageStep_setStage none u)
  have hmayu : StageMay d (setStage none u) := hc.start.step hstep
  have hrec : Recorded [] [] (setStage none u) (append 0x51 d.target (leAt 4 4 hd % 2 ^ 24) (setStage none u)) :=
    Recorded.append _ _ _ _ hmayu.ready
  generalize append 0x51 d.target (leAt 4 4 hd % 2 ^ 24) (setStage none u) = s1 at hrec hrun
  have ha := (hmayu.answerable.recorded hrec).quiet (st := stOk) (det := 0)
    (res := stageResult (p32 d 0 + d.len) hd (decide (minVer s ≤ leAt 4 4 hd))) (quietStatus_ok _)
  generalize finish (complete d stOk (stageResult (p32 d 0 + d.len) hd (decide (minVer s ≤ leAt 4 4 hd))) 0 s1) = s'
    at ha hrun
  have hrecs : s'.nv.recs = u.nv.recs := (completesOnly_nv_recs ha.2).trans hrec.recs
  have hread : recRead (recBank d.target) s' = recRead (recBank d.target) u := by
    rw [recRead, recRead, recGet, recGet, hrecs]
  have hval : bankValid d.target s' = bankValid d.target u := by rw [bankValid, bankValid, hread]
  have hbyte : ∀ a < 0x400000, mget nvDflt s'.nv.mem a = mget nvDflt z.nv.mem a := fun a hlt => by
    rw [completesOnly_nv_mem ha.2, hrec.array.mem a hlt (by simp)]
    exact congrArg (mget nvDflt · a) hzmem
  have htarget := h.target
  have hfits := h.fit
  refine ⟨s1, s', hrun, ha, hval.trans hvalid, ?_, ?_, fun a hlt hx => ?_, fun off ho => ?_, ?_⟩
  · rw [bankVersion, hval, hread]
    exact hver
  · have hpeek : nvPeek (chunkAddr d) d.len s' = nvPeek (chunkAddr d) d.len z := List.map_congr_left fun i hi => by
      rw [List.mem_range] at hi
      exact hbyte _ (by unfold chunkAddr bankAddr; omega)
    rw [hpeek, ← h.length]
    exact hwritten.peek
  · rw [hrec.array.mem a hlt (by simp)]
    exact (congrArg (mget nvDflt · a) hzmem).trans (hout a hx)
  · rw [List.mem_cons, not_or] at ho
    exact ((hrec.regs.keeps off (by simpa using ho.2)).trans (hstep.regs.keeps off (by simpa using ho.1))).trans
      (hc.sees.regs off)
  · rw [blankRecords_ended hstep rfl hrec, stageEnded_working]
    rfl

end

/-- Settles O55, from the clauses on the checks of R418. -/
theorem firmwareIsStaged : Obligations.FirmwareIsStaged := by
  unfold Obligations.FirmwareIsStaged
  intro s t d b hs hrow hflags hpar hworn hwornRecs hready htarget _ _ hfit hread s0 off a last h ended bankLost outside
  have hst : Stages t d b s := ⟨hs, hrow, hflags, hpar, hworn, hwornRecs, hready, htarget, hfit, hread⟩
  refine ⟨fwStage_forbidden hst, fun hrun htrial => ⟨?_, ?_, ?_, fun hturn => ?_⟩⟩
  · exact fun h0 hlen => fwStage_short hst hrun htrial h0 hlen
  · exact fun h0 hc => fwStage_wrongOffset hst hrun htrial h0 hc
  · intro h0 hlen st det hbad
    exact fwStage_badHeader hst hrun htrial h0 hlen (if_pos h0).symm hbad
  · obtain ⟨fl, tn, y, hc⟩ := hst.chunk hrun htrial rfl hturn
    refine ⟨fun hlast hlen => ?_, fun hlen => ?_, fun hlast hlen => ⟨fun hgood => ?_, fun st det hbad => ?_⟩⟩
    · exact fwStage_more hst hc hlast hlen
    · exact fwStage_badLength hc hst.opcode hlen
    · obtain ⟨s1, s', hexec, hans, hvalid, hver, hpeek, hdone⟩ := fwStage_goodImage hst hc hlast hlen hgood
      exact ⟨s1, s', hexec, hans, hvalid, hver, hpeek, hdone.outside, hdone.regs, hdone.frame⟩
    · obtain ⟨s1, s', hexec, hans, hlost, hdone, htag⟩ := fwStage_badImage hst hc hlast hlen hbad
      exact ⟨s1, s', hexec, hans, hlost, hdone.outside, hdone.frame, hdone.regs, htag⟩

end Sys2Proof.Machine
end

section
/-! SUPPORT. The checks of an answer. -/
namespace Sys2Proof.Machine

section
variable {s x y z : State} {cells offs : List Nat}

/-! ## What the checks change -/

/-- `x` with the flock's state, the poll and the device records of `y`. -/
def reshaped (x y : State) : State :=
  { x with flk := y.flk, poll := y.poll, nv := { x.nv with recs := y.nv.recs, twins := y.nv.twins } }

theorem Recorded.reshape (h : Recorded cells offs x y) (z : State) : Recorded cells offs (reshaped x z) (reshaped y z) :=
  ⟨(congrArg (fun w : State => reshaped w z) h.blank :),
    ⟨fun off ho => h.regs.keeps off ho, fun hw => h.regs.wf hw⟩,
    ⟨h.host.link, h.host.busMaster, h.host.flight, h.host.enabled, h.host.memWf⟩,
    ⟨h.array.mem, h.array.bad, h.array.wf⟩, h.hostWait⟩

/-- Between `x` and `y` the checks of an answer ran: the flock's state, the poll and the device records changed, ledger
records were appended and events posted. -/
def FlockStep (cells offs : List Nat) (x y : State) : Prop := Recorded cells offs (reshaped x y) y

namespace FlockStep

theorem trans (h1 : FlockStep cells offs x y) (h2 : FlockStep cells offs y z) : FlockStep cells offs x z :=
  (Recorded.reshape h1 z).trans h2

theorem mono {cells' offs' : List Nat} (h : FlockStep cells offs x y) (hc : cells ⊆ cells') (ho : offs ⊆ offs') :
    FlockStep cells' offs' x y :=
  Recorded.mono h hc ho

theorem refl (x : State) : FlockStep cells offs x x := Recorded.refl x

/-- Records and events are such a step. -/
theorem of_recorded (h : Recorded cells offs x y) : FlockStep cells offs x y := by
  have hpoll : y.poll = x.poll := (congrArg State.poll h.blank :)
  have htwins : y.nv.twins = x.nv.twins := (congrArg (fun w : State => w.nv.twins) h.blank :)
  have hx : reshaped x y = x := by rw [reshaped, h.flk, hpoll, h.recs, htwins]
  rw [FlockStep, hx]
  exact h

/-- The poll put back. -/
theorem setPoll (p : Poll) (x : State) : FlockStep cells offs x (setPoll p x) := Recorded.refl _

/-- The flock's state put back. -/
theorem setFlk (f : Flk) (x : State) : FlockStep cells offs x { x with flk := f } := Recorded.refl _

/-- A device record stored. -/
theorem recStore (id : Nat) (bs : Bytes) (x : State) (hr : x.nv.ledgerReady = true) :
    FlockStep cells offs x (recStore id bs x).1 := by
  have h := Recorded.recStore (cells := cells) (offs := offs) id bs x hr
  have hpoll : (Machine.recStore id bs x).1.poll = x.poll := (congrArg State.poll h.blank :)
  have hflk : (Machine.recStore id bs x).1.flk = x.flk := h.flk
  have hx : reshaped x (Machine.recStore id bs x).1 = { x with
      nv := { x.nv with
        recs := (Machine.recStore id bs x).1.nv.recs, twins := (Machine.recStore id bs x).1.nv.twins } } := by
    rw [reshaped, hflk, hpoll]
  rw [FlockStep, hx]
  exact h

theorem bump (f : Field) (x : State) (hf : f.off ∈ recordRegs ++ offs) : FlockStep cells offs x (bump f x) :=
  of_recorded (Recorded.bump f x hf)

theorem append (typ src data : Nat) (x : State) (hr : x.nv.ledgerReady = true) :
    FlockStep cells offs x (append typ src data x) :=
  of_recorded (Recorded.append typ src data x hr)

variable (h : FlockStep cells offs x y)
include h

theorem ledgerReady : y.nv.ledgerReady = x.nv.ledgerReady :=
  (congrArg (fun w : State => w.nv.ledgerReady) h.blank :)

theorem lf : y.lf = x.lf := (congrArg State.lf h.blank :)
theorem uhf : y.uhf = x.uhf := (congrArg State.uhf h.blank :)
theorem uwb : y.uwb = x.uwb := (congrArg State.uwb h.blank :)
theorem vrd : y.vrd = x.vrd := (congrArg State.vrd h.blank :)
theorem tmr : y.tmr = x.tmr := (congrArg State.tmr h.blank :)
theorem fold : y.fold = x.fold := (congrArg State.fold h.blank :)
theorem clk : y.clk = x.clk := (congrArg State.clk h.blank :)
theorem pwr_st : y.pwr.st = x.pwr.st := (congrArg (fun w : State => w.pwr.st) h.blank :)

theorem fld (f : Field) (hf : f.off ∉ recordRegs ++ offs) : fld f y = fld f x := Recorded.fld h f hf

theorem wf (hw : Regs.wf x = true) : Regs.wf y = true := Recorded.regs_wf h hw

theorem now : now y = now x := by rw [Machine.now, Machine.now, h.clk]

end FlockStep

/-! ## Pinfold -/

/-- What a failure that counts toward pinfold changes. -/
structure PinStep (x y : State) : Prop where
  step : FlockStep [253] [FLK_STATUS.reg, FLK_PIN_CNT.reg, NVS_TALLY_CNT.reg] x y
  flock : y.flk.flock = x.flk.flock
  poll : y.poll = x.poll

namespace PinStep

theorem refl (x : State) : PinStep x x := ⟨.refl x, rfl, rfl⟩

theorem trans (h1 : PinStep x y) (h2 : PinStep y z) : PinStep x z :=
  ⟨h1.step.trans h2.step, h2.flock.trans h1.flock, h2.poll.trans h1.poll⟩

theorem of_recorded (h : Recorded [253] [FLK_STATUS.reg, FLK_PIN_CNT.reg, NVS_TALLY_CNT.reg] x y) : PinStep x y :=
  ⟨.of_recorded h, congrArg Flk.flock h.flk, (congrArg State.poll h.blank :)⟩

theorem setTrack (l : List PinEntry) (x : State) : PinStep x (setTrack l x) := ⟨.setFlk _ x, rfl, rfl⟩

theorem pinEvent (f kind level fails secs folds : Nat) (x : State) : PinStep x (pinEvent f kind level fails secs folds x) :=
  .of_recorded (pinEvent_recorded f kind level fails secs folds x)

theorem append (typ src data : Nat) (x : State) (hr : x.nv.ledgerReady = true) : PinStep x (append typ src data x) :=
  .of_recorded (Recorded.append typ src data x hr)

theorem setFld (f : Field) (v : Nat) (x : State) (hf : f.off ∈ [FLK_STATUS.reg, FLK_PIN_CNT.reg, NVS_TALLY_CNT.reg]) :
    PinStep x (setFld f v x) :=
  .of_recorded (Recorded.setFld f v x (List.mem_append_right _ hf))

theorem recStore (id : Nat) (bs : Bytes) (x : State) (hr : x.nv.ledgerReady = true) : PinStep x (recStore id bs x).1 :=
  have h := Recorded.recStore (cells := [253]) (offs := []) id bs x hr
  ⟨.recStore id bs x hr, (congrArg (fun w : State => w.flk.flock) h.blank :), (congrArg State.poll h.blank :)⟩

theorem ledgerReady (h : PinStep x y) : y.nv.ledgerReady = x.nv.ledgerReady := h.step.ledgerReady

end PinStep

theorem engage_step (e : PinEntry) (x : State) (hr : x.nv.ledgerReady = true) : PinStep x (engage e x) := by
  unfold engage
  dsimp only
  refine PinStep.trans ?_ (.pinEvent _ _ _ _ _ _ _)
  refine ((PinStep.setTrack _ x).trans (.setFld _ _ _ (by decide))).trans (.append _ _ _ _ hr)

theorem addFailure_step (e : PinEntry) (x : State) (hr : x.nv.ledgerReady = true) : PinStep x (addFailure e x) := by
  unfold addFailure
  dsimp only
  split
  · exact engage_step _ x hr
  · exact .setTrack _ x

theorem countToward_step (f : Nat) (x : State) (hr : x.nv.ledgerReady = true) : PinStep x (countToward f x).1 := by
  unfold countToward
  dsimp only
  split
  · exact .refl x
  · have h1 := PinStep.setTrack (pruned x) x
    generalize setTrack (pruned x) x = y at h1
    have hy := h1.ledgerReady.trans hr
    have hset : ∀ l, PinStep x (setTrack l y) := fun l => h1.trans (.setTrack l y)
    split
    · exact h1.trans (addFailure_step _ y hy)
    · split
      · exact (hset _).trans (addFailure_step (PinEntry.fresh f) (setTrack _ y) hy)
      · split
        · exact (hset _).trans (addFailure_step (PinEntry.fresh f) (setTrack _ y) hy)
        · exact ((h1.trans (.setFld _ _ _ (by decide))).trans (.append _ _ _ _ hy)).trans (.pinEvent _ _ _ _ _ _ _)

theorem storePin_step (x : State) (hr : x.nv.ledgerReady = true) : PinStep x (storePin x) := by
  unfold storePin
  dsimp only
  have h1 := PinStep.setTrack (pruned x) x
  have hr1 := h1.ledgerReady.trans hr
  have h2 : PinStep (setTrack (pruned x) x) (tallyStep 253 1 (setTrack (pruned x) x)).1 :=
    .of_recorded ((Recorded.tallyStep 253 1 _ hr1).mono (by simp) (by simp))
  generalize tallyStep 253 1 (setTrack (pruned x) x) = r at h2
  have h3 : PinStep r.1 { r.1 with flk := { r.1.flk with pinRecAt := ptime x } } := ⟨.setFlk _ _, rfl, rfl⟩
  exact ((h1.trans h2).trans h3).trans (.recStore _ _ _ ((h2.ledgerReady.trans hr1)))

theorem countFailure_step (f : Nat) (x : State) (hr : x.nv.ledgerReady = true) : PinStep x (countFailure f x) := by
  have hfold : ∀ (fs : List Nat) (a : State × Bool), PinStep x a.1 →
      PinStep x (fs.foldl (fun (a : State × Bool) g => ((countToward g a.1).1, a.2 || (countToward g a.1).2)) a).1 := by
    intro fs
    induction fs with
    | nil => exact fun _ h => h
    | cons g fs ih => exact fun a h => ih _ (h.trans (countToward_step g a.1 (h.ledgerReady.trans hr)))
  unfold countFailure
  dsimp only
  split
  · exact .refl x
  · have h := hfold (f :: (x.fold.live.foldFolds f).take (Machine.fld FLK_CTL.PIN_UP x)) (x, false) (.refl x)
    split
    · exact h.trans (storePin_step _ (h.ledgerReady.trans hr))
    · exact h

end

end Sys2Proof.Machine
end

section
/-! SUPPORT. An answer's place in the poll. -/
namespace Sys2Proof.Machine

section
variable {s x y z : State} {cells offs : List Nat} {a : Answer} {p : Poll}

/-! ## An answer joins the poll -/

/-- Between `x`, whose poll is `p`, and `y`, answer `a` joined the poll. -/
structure Answered (cells offs : List Nat) (p : Poll) (a : Answer) (x y : State) : Prop where
  step : FlockStep cells offs x y
  poll : ∃ q, y.poll = some q ∧ q.answers = p.answers ++ [a] ∧ q.shut = p.shut

theorem noteConcurrent_notes (hr : x.nv.ledgerReady = true) (hp : x.poll = some p) :
    FlockStep cells offs x (noteConcurrent x) ∧ (noteConcurrent x).flk = x.flk ∧
      ∃ q, (noteConcurrent x).poll = some q ∧ q.answers = p.answers ∧ q.shut = p.shut := by
  have hsame : FlockStep cells offs x x ∧ x.flk = x.flk ∧ ∃ q, x.poll = some q ∧ q.answers = p.answers ∧ q.shut = p.shut :=
    ⟨.refl x, rfl, p, hp, rfl, rfl⟩
  unfold noteConcurrent
  rw [hp]
  dsimp only
  split
  · split
    · exact hsame
    · next v b _ _ _ =>
      have happ : Recorded cells offs (setPoll { p with concurrent := true } x)
          (append 0x24 v.slot b.fslot (setPoll { p with concurrent := true } x)) := Recorded.append _ _ _ _ hr
      exact ⟨(FlockStep.setPoll _ x).trans (.of_recorded happ), happ.flk, _, (congrArg State.poll happ.blank :), rfl, rfl⟩
  · exact hsame

/-- An answer is added (R197, R198). -/
theorem addAnswer_adds (a : Answer) (hr : x.nv.ledgerReady = true) (hp : x.poll = some p) :
    Answered cells offs p a x (addAnswer a x) ∧ (addAnswer a x).flk = x.flk := by
  obtain ⟨h1, h2, q, hq, hans, hshut⟩ := noteConcurrent_notes (x := setPoll { p with answers := p.answers ++ [a] } x)
    (cells := cells) (offs := offs) (p := { p with answers := p.answers ++ [a] }) hr rfl
  have hadd : addAnswer a x = noteConcurrent (setPoll { p with answers := p.answers ++ [a] } x) := by
    rw [addAnswer, hp]
  rw [hadd]
  exact ⟨⟨(FlockStep.setPoll _ x).trans h1, q, hq, hans, hshut⟩, h2⟩

/-! ## LAST -/

/-- The slots with a new LAST in one of them (R194). -/
def slotsSeen (slot c secs : Nat) (l : List (Option Token)) : List (Option Token) :=
  l.zipIdx.map (fun x => if x.2 = slot then x.1.map (fun k => { k with last := c, seen := secs }) else x.1)

theorem slotsSeen_slot {slot c secs : Nat} {l : List (Option Token)} {k : Token} (h : (l[slot]?).join = some k) :
    ((slotsSeen slot c secs l)[slot]?).join = some { k with last := c, seen := secs } := by
  have hs : l[slot]? = some (some k) := by
    cases hl : l[slot]? with
    | none => rw [hl] at h; exact absurd h (by simp)
    | some o => rw [hl] at h; exact congrArg some h
  rw [slotsSeen, List.getElem?_map, List.getElem?_zipIdx, hs]
  simp

/-- LAST follows the answer's counter (R194). -/
theorem acceptCounter_sets {slot c : Nat} {k : Token} (hr : x.nv.ledgerReady = true) (hk : tokenOf slot x = some k)
    (hrole : k.role ≠ 4) : FlockStep cells offs x (acceptCounter slot c x) ∧ (acceptCounter slot c x).poll = x.poll ∧
      (tokenOf slot (acceptCounter slot c x)).map (·.last) = some c := by
  cases hf : x.flk.flock with
  | none =>
    rw [tokenOf, hf] at hk
    exact absurd hk (by simp)
  | some f =>
    have hslot : (f.slots[slot]?).join = some k := by
      rw [tokenOf, hf] at hk
      exact hk
    let f1 : Flock := { f with slots := slotsSeen slot c (wallSecs x) f.slots }
    let x1 : State := { x with flk := { x.flk with flock := some f1 } }
    let y : State := (recStore (recFlock + (flockBank f1.tag x1).getD 0) (flockBytes f1) x1).1
    have hrec : FlockStep cells offs x1 y := .recStore _ _ x1 hr
    have hstep : FlockStep cells offs x y := (FlockStep.setFlk { x.flk with flock := some f1 } x).trans hrec
    have hbase := Recorded.recStore (cells := cells) (offs := offs) (recFlock + (flockBank f1.tag x1).getD 0) (flockBytes f1) x1 hr
    have hflk : y.flk = x1.flk := hbase.flk
    have hrun : acceptCounter slot c x = y := by
      unfold acceptCounter
      rw [hf]
      dsimp only
      rw [if_neg]
      · rfl
      · rw [hk, Option.map_some]
        exact fun h => hrole (Option.some.inj h)
    rw [hrun]
    refine ⟨hstep, (congrArg State.poll hbase.blank :), ?_⟩
    rw [tokenOf, hflk]
    show ((f1.slots[slot]?).join).map _ = _
    rw [slotsSeen_slot hslot]
    rfl

/-! ## Checks 3 to 5 -/

/-- What an answer's checks 3 to 5 find: no flock is waiting, and its slot holds a token of the epoch. -/
structure AnswerMay (p : Poll) (a : Answer) (k : Token) (epoch : Nat) (x : State) : Prop where
  ready : x.nv.ledgerReady = true
  pend : x.flk.pend = none
  poll : x.poll = some p
  open_ : p.pinStop = false
  token : tokenOf a.fslot x = some k
  epoch : epoch = fld FLK_FLOCK.EPOCH x

variable {k : Token} {epoch node : Nat} {coil : Bool} {msg mac : Bytes}

theorem takeFlock_none (h : x.flk.pend = none) : takeFlock x = x := by
  rw [takeFlock, h]

/-- The reason of a failure of check 3. -/
theorem keyReason_token (h : AnswerMay p a k epoch x) :
    keyReason (tokenOf a.fslot x) (epoch == fld FLK_FLOCK.EPOCH x) msg mac =
      if (cmac k.key msg).take 8 != mac then some 3 else none := by
  rw [h.token, h.epoch]
  simp [keyReason]

/-- The MAC is wrong (R192). -/
theorem checkAnswer_badMac (h : AnswerMay p a k epoch x) (hmac : mac ≠ (cmac k.key msg).take 8) :
    checkAnswer a epoch msg mac node coil x = addAnswer { a with slot := a.fslot, status := stMacFail, authFail := true }
      (authFailed a.fslot 3 node coil x) := by
  have hreason := keyReason_token (msg := msg) (mac := mac) h
  rw [if_pos (by simpa using fun he => hmac he.symm)] at hreason
  unfold checkAnswer
  rw [takeFlock_none h.pend]
  dsimp only
  rw [h.poll]
  dsimp only
  rw [if_neg (by simp [h.open_]), hreason, h.token]
  rfl

/-- The answer with a good MAC. -/
def goodAnswer (a : Answer) (k : Token) (tag : Nat) : Answer :=
  { a with slot := a.fslot, verified := true, role := k.role, tag := tag, status := stOk }

/-- The MAC is good and the counter is behind (R194). -/
theorem checkAnswer_replay (h : AnswerMay p a k epoch x) (hmac : mac = (cmac k.key msg).take 8)
    (hc : counterAhead a.counter k.last = false) :
    checkAnswer a epoch msg mac node coil x = addAnswer { a with slot := a.fslot, status := stRollback }
      (append 0x22 a.fslot a.counter (bump FLK_AUTH_CNT.REPLAY x)) := by
  have hreason := keyReason_token (msg := msg) (mac := mac) h
  rw [if_neg (by simp [hmac])] at hreason
  unfold checkAnswer
  rw [takeFlock_none h.pend]
  dsimp only
  rw [h.poll]
  dsimp only
  rw [if_neg (by simp [h.open_]), hreason, h.token]
  dsimp only
  rw [Option.getD_some, if_pos hc]
  rfl

/-- The answer is verified (R194, R197). -/
theorem checkAnswer_verified (h : AnswerMay p a k epoch x) (hmac : mac = (cmac k.key msg).take 8)
    (hc : counterAhead a.counter k.last = true)
    (hnew : p.answers.any (fun y => y.verified && y.slot == a.fslot) = false) :
    checkAnswer a epoch msg mac node coil x = acceptCounter a.fslot a.counter
      (addAnswer { goodAnswer a k ((x.flk.flock.map Flock.tag).getD 0) with trig := some (now x) } x) := by
  have hreason := keyReason_token (msg := msg) (mac := mac) h
  rw [if_neg (by simp [hmac])] at hreason
  unfold checkAnswer
  rw [takeFlock_none h.pend]
  dsimp only
  rw [h.poll]
  dsimp only
  rw [if_neg (by simp [h.open_]), hreason, h.token]
  dsimp only
  rw [Option.getD_some, if_neg (by rw [hc]; decide), if_neg (by rw [hnew]; decide)]
  rfl

/-! ## What the three outcomes leave -/

theorem verified_leaves (h : AnswerMay p a k epoch x) (hmac : mac = (cmac k.key msg).take 8)
    (hc : counterAhead a.counter k.last = true)
    (hnew : p.answers.any (fun y => y.verified && y.slot == a.fslot) = false) (hrole : k.role ≠ 4) :
    Answered cells offs p { goodAnswer a k ((x.flk.flock.map Flock.tag).getD 0) with trig := some (now x) } x
        (checkAnswer a epoch msg mac node coil x) ∧
      (tokenOf a.fslot (checkAnswer a epoch msg mac node coil x)).map (·.last) = some a.counter := by
  rw [checkAnswer_verified h hmac hc hnew]
  obtain ⟨⟨hstep, q, hq, hans, hshut⟩, hflk⟩ := addAnswer_adds (cells := cells) (offs := offs)
    { goodAnswer a k ((x.flk.flock.map Flock.tag).getD 0) with trig := some (now x) } h.ready h.poll
  generalize addAnswer _ x = y at *
  have hk : tokenOf a.fslot y = some k := by
    rw [tokenOf, hflk]
    exact h.token
  obtain ⟨h1, h2, h3⟩ := acceptCounter_sets (cells := cells) (offs := offs) (c := a.counter)
    (hstep.ledgerReady.trans h.ready) hk hrole
  exact ⟨⟨hstep.trans h1, q, h2.trans hq, hans, hshut⟩, h3⟩

theorem replay_leaves (h : AnswerMay p a k epoch x) (hmac : mac = (cmac k.key msg).take 8)
    (hc : counterAhead a.counter k.last = false) (hwf : Regs.wf x = true) :
    Answered cells [FLK_AUTH_CNT.reg] p { a with slot := a.fslot, status := stRollback } x
        (checkAnswer a epoch msg mac node coil x) ∧
      (checkAnswer a epoch msg mac node coil x).flk = x.flk ∧
      fld FLK_AUTH_CNT.REPLAY (checkAnswer a epoch msg mac node coil x) =
        sat FLK_AUTH_CNT.REPLAY.width (fld FLK_AUTH_CNT.REPLAY x + 1) := by
  rw [checkAnswer_replay h hmac hc]
  have happ : Recorded cells [] (bump FLK_AUTH_CNT.REPLAY x)
      (append 0x22 a.fslot a.counter (bump FLK_AUTH_CNT.REPLAY x)) := Recorded.append _ _ _ _ h.ready
  have hb := fld_bump_same FLK_AUTH_CNT.REPLAY (by decide) x hwf
  have hbump : FlockStep cells [FLK_AUTH_CNT.reg] x (bump FLK_AUTH_CNT.REPLAY x) := .bump _ x (by decide)
  have hpoll : (append 0x22 a.fslot a.counter (bump FLK_AUTH_CNT.REPLAY x)).poll = some p :=
    ((congrArg State.poll happ.blank :)).trans h.poll
  obtain ⟨⟨hstep, q, hq, hans, hshut⟩, hflk⟩ := addAnswer_adds (cells := cells) (offs := [])
    { a with slot := a.fslot, status := stRollback } ((happ.ledgerReady).trans h.ready) hpoll
  refine ⟨⟨hbump.trans (((FlockStep.of_recorded happ).trans hstep).mono (fun _ h => h) (List.nil_subset _)),
    q, hq, hans, hshut⟩, hflk.trans happ.flk, ?_⟩
  rw [hstep.fld _ (by decide), happ.fld _ (by decide), hb]

theorem noteStop_poll (s0 : State) (hp : x.poll = some p) : ∃ q, (noteStop s0 x).poll = some q ∧ q.answers = p.answers ∧
    q.shut = p.shut ∧ (noteStop s0 x).flk = x.flk ∧ FlockStep cells offs x (noteStop s0 x) := by
  have hsame : ∃ q, x.poll = some q ∧ q.answers = p.answers ∧ q.shut = p.shut ∧ x.flk = x.flk ∧ FlockStep cells offs x x :=
    ⟨p, hp, rfl, rfl, rfl, .refl x⟩
  unfold noteStop
  rw [hp]
  split
  · next r q hr hq =>
    obtain rfl : p = q := Option.some.inj hq
    split
    · exact ⟨_, rfl, rfl, rfl, rfl, .setPoll _ x⟩
    · exact hsame
  · exact hsame

theorem badMac_leaves (h : AnswerMay p a k epoch x) (hmac : mac ≠ (cmac k.key msg).take 8) (hwf : Regs.wf x = true) :
    Answered [253] [FLK_AUTH_CNT.reg, FLK_STATUS.reg, FLK_PIN_CNT.reg, NVS_TALLY_CNT.reg] p
        { a with slot := a.fslot, status := stMacFail, authFail := true } x (checkAnswer a epoch msg mac node coil x) ∧
      (checkAnswer a epoch msg mac node coil x).flk.flock = x.flk.flock ∧
      fld FLK_AUTH_CNT.AUTH_FAIL (checkAnswer a epoch msg mac node coil x) =
        sat FLK_AUTH_CNT.AUTH_FAIL.width (fld FLK_AUTH_CNT.AUTH_FAIL x + 1) := by
  rw [checkAnswer_badMac h hmac]
  have hb := fld_bump_same FLK_AUTH_CNT.AUTH_FAIL (by decide) x hwf
  have hbump : FlockStep [253] [FLK_AUTH_CNT.reg, FLK_STATUS.reg, FLK_PIN_CNT.reg, NVS_TALLY_CNT.reg] x
      (bump FLK_AUTH_CNT.AUTH_FAIL x) := .bump _ x (by decide)
  let f : Nat := attribution x.fold.live node
  have happ : Recorded [253] [] (bump FLK_AUTH_CNT.AUTH_FAIL x)
      (append 0x21 a.fslot (f + 256 * b2n coil + 512 * 3) (bump FLK_AUTH_CNT.AUTH_FAIL x)) := Recorded.append _ _ _ _ h.ready
  unfold authFailed
  dsimp only
  generalize append 0x21 a.fslot (f + 256 * b2n coil + 512 * 3) (bump FLK_AUTH_CNT.AUTH_FAIL x) = y at *
  have hyr : y.nv.ledgerReady = true := happ.ledgerReady.trans h.ready
  have hypoll : y.poll = some p := ((congrArg State.poll happ.blank :)).trans h.poll
  obtain ⟨hpin, hpflock, hppoll⟩ := countFailure_step f y hyr
  generalize countFailure f y = z at *
  obtain ⟨q, hq, hqans, hqshut, hqflk, hstop⟩ := noteStop_poll (cells := [253]) (offs := []) x (hppoll.trans hypoll)
  generalize noteStop x z = w at *
  obtain ⟨⟨hstep, q', hq', hans, hshut⟩, hflk⟩ := addAnswer_adds (cells := [253]) (offs := [])
    { a with slot := a.fslot, status := stMacFail, authFail := true }
    ((hstop.ledgerReady.trans hpin.ledgerReady).trans hyr) hq
  have hsub : ([] : List Nat) ⊆ [FLK_AUTH_CNT.reg, FLK_STATUS.reg, FLK_PIN_CNT.reg, NVS_TALLY_CNT.reg] := List.nil_subset _
  refine ⟨⟨hbump.trans (((FlockStep.of_recorded happ).mono (fun _ h => h) hsub).trans
      ((hpin.mono (fun _ h => h) (by simp)).trans ((hstop.trans hstep).mono (fun _ h => h) hsub))),
    q', hq', by rw [hans, hqans], hshut.trans hqshut⟩, ?_, ?_⟩
  · rw [hflk, hqflk, hpflock, happ.flk]
    rfl
  · rw [hstep.fld _ (by decide), hstop.fld _ (by decide), hpin.fld _ (by decide), happ.fld _ (by decide), hb]

end

end Sys2Proof.Machine
end

section
/-! SUPPORT. SYNCs and frames of the answers: the statement. -/
namespace Sys2Proof.Machine

section
variable {s y : State} {t ch slot off : Nat} {p : Poll} {r : LfRun} {f : ObaneFrame}

/-! ## SYNCs -/

theorem elapse_onChannel (ch t : Nat) (s : State) : onChannel ch (elapse t s) = onChannel ch s := by
  have hf : ∀ c, chFreq c (elapse t s) = chFreq c s := fun c => by
    simp only [chFreq, elapse_fld]
  simp only [onChannel, spanOk, hf]

/-- A poll whose window receives. -/
structure Receives (t : Nat) (s : State) (p : Poll) (slot off : Nat) : Prop where
  live : live s = true
  mem : memorySafe s
  poll : s.poll = some p
  receiving : receiving p (elapse t s) = true
  inSlot : slotNow p (elapse t s) = some (slot, off)

/-- The SYNC lies in its window (R190). -/
def syncInside (off : Nat) : Bool := 30720 ≤ off && off ≤ 44544

/-- A SYNC's effect (R190, R195). -/
theorem syncDetected_runs (h : Receives t s p slot off) (hch : onChannel ch s = true) :
    let x := elapse t s
    let x1 := if syncInside off then x else bump UHF_OBN_CNT1.OBN_POS x
    ((slot, ch) ∉ p.synced → exec (.syncDetected t ch) s = .next (finish
      (if syncInside off then setPoll { p with synced := p.synced ++ [(slot, ch)] } x1 else x1))) ∧
    ((slot, ch) ∈ p.synced → (slot, ch) ∉ p.collided → exec (.syncDetected t ch) s = .next (finish
      (bump UHF_OBN_CNT0.OBN_COLL (setPoll { p with collided := p.collided ++ [(slot, ch)] } x1)))) := by
  intro x x1
  have hpoll : x.poll = some p := (elapse_poll t s).trans h.poll
  have hrun : exec (.syncDetected t ch) s = .next (finish (syncSeen ch x)) := command_live t _ s h.live
  have hseen : syncSeen ch x = if p.synced.contains (slot, ch) then
      if p.collided.contains (slot, ch) then x1
      else bump UHF_OBN_CNT0.OBN_COLL (setPoll { p with collided := p.collided ++ [(slot, ch)] } x1)
    else if syncInside off then setPoll { p with synced := p.synced ++ [(slot, ch)] } x1 else x1 := by
    rw [syncSeen, hpoll]
    dsimp only
    rw [h.inSlot]
    dsimp only
    rw [onlyIf, if_pos (by rw [h.receiving, elapse_onChannel, hch]; rfl)]
    rfl
  refine ⟨fun hn => ?_, fun hs hc => ?_⟩
  · rw [hrun, hseen, if_neg (by simpa using hn)]
  · rw [hrun, hseen, if_pos (by simpa using hs), if_neg (by simpa using hc)]

/-- What a command leaves whose effect counted in registers and put the poll back. -/
theorem pollPut_settles {q : Poll} {x : State} {offs : List Nat} (hl : live s = true)
    (hf : x = { elapse t s with poll := some q, regs := x.regs }) (hk : RegsKept offs (elapse t s) x) :
    settles { elapse t s with poll := some q, regs := (finish x).regs } (finish x) ∧ keepsRegs offs s (finish x) ∧
      ∀ f, fld f (finish x) = fld f x := by
  have hset : settles x (finish x) :=
    finish_settles_of s x hl (by rw [hf]; exact elapse_lgr t s) (by rw [hf]; exact elapse_fold t s)
  have hregs : (finish x).regs = x.regs := settles_regs hset
  refine ⟨?_, fun off ho => ?_, settles_fld hset⟩
  · rw [hregs, ← hf]
    exact hset
  · rw [settles_regGet hset, hk.keeps off ho, elapse_regGet]

theorem syncDetected_takes (h : Receives t s p slot off) (hch : onChannel ch s = true) (hn : (slot, ch) ∉ p.synced)
    (hin : syncInside off = true) : ∃ s', exec (.syncDetected t ch) s = .next s' ∧
      settles { elapse t s with poll := some { p with synced := p.synced ++ [(slot, ch)] } } s' := by
  have hrun := (syncDetected_runs h hch).1 hn
  rw [if_pos hin, if_pos hin] at hrun
  exact ⟨_, hrun, finish_settles_of s _ h.live (elapse_lgr t s) (elapse_fold t s)⟩

theorem syncDetected_misplaced (h : Receives t s p slot off) (hch : onChannel ch s = true) (hn : (slot, ch) ∉ p.synced)
    (hout : syncInside off = false) : ∃ s', exec (.syncDetected t ch) s = .next s' ∧
      settles { elapse t s with regs := s'.regs } s' ∧
      fld UHF_OBN_CNT1.OBN_POS s' = sat 16 (fld UHF_OBN_CNT1.OBN_POS s + 1) ∧ keepsRegs [UHF_OBN_CNT1.reg] s s' := by
  have hrun := (syncDetected_runs h hch).1 hn
  rw [if_neg (by rw [hout]; decide), if_neg (by rw [hout]; decide)] at hrun
  have hset : settles (bump UHF_OBN_CNT1.OBN_POS (elapse t s)) (finish (bump UHF_OBN_CNT1.OBN_POS (elapse t s))) :=
    finish_settles_of s _ h.live (elapse_lgr t s) (elapse_fold t s)
  refine ⟨_, hrun, ?_, ?_, fun off ho => ?_⟩
  · rw [settles_regs hset]
    exact hset
  · rw [settles_fld hset, fld_bump_same _ (by decide) _ (memorySafe_elapse_wf h.mem t), elapse_fld]
    rfl
  · rw [settles_regGet hset, (RegsKept.bump UHF_OBN_CNT1.OBN_POS _ (by decide)).keeps off ho, elapse_regGet]

theorem syncDetected_collides (h : Receives t s p slot off) (hch : onChannel ch s = true) (hs : (slot, ch) ∈ p.synced)
    (hc : (slot, ch) ∉ p.collided) : ∃ s', exec (.syncDetected t ch) s = .next s' ∧
      settles { elapse t s with poll := some { p with collided := p.collided ++ [(slot, ch)] }, regs := s'.regs } s' ∧
      fld UHF_OBN_CNT0.OBN_COLL s' = sat 16 (fld UHF_OBN_CNT0.OBN_COLL s + 1) ∧
      fld UHF_OBN_CNT1.OBN_POS s' = sat 16 (fld UHF_OBN_CNT1.OBN_POS s + b2n (!syncInside off)) ∧
      keepsRegs [UHF_OBN_CNT0.reg, UHF_OBN_CNT1.reg] s s' := by
  have hrun := (syncDetected_runs h hch).2 hs hc
  have hwf := memorySafe_elapse_wf h.mem t
  have hx1 : ∃ x1, x1 = (if syncInside off then elapse t s else bump UHF_OBN_CNT1.OBN_POS (elapse t s)) ∧
      x1 = { elapse t s with regs := x1.regs } ∧
      RegsKept [UHF_OBN_CNT0.reg, UHF_OBN_CNT1.reg] (elapse t s) x1 ∧
      fld UHF_OBN_CNT0.OBN_COLL x1 = fld UHF_OBN_CNT0.OBN_COLL s ∧
      fld UHF_OBN_CNT1.OBN_POS x1 = sat 16 (fld UHF_OBN_CNT1.OBN_POS s + b2n (!syncInside off)) := by
    refine ⟨_, rfl, ?_⟩
    cases syncInside off with
    | true =>
      rw [if_pos rfl]
      exact ⟨rfl, .refl _ _, elapse_fld _ t s, (elapse_fld _ t s).trans (fld_sat_self _ s)⟩
    | false =>
      rw [if_neg (by decide)]
      refine ⟨rfl, .bump _ _ (by decide), ?_, ?_⟩
      · exact ((RegsKept.bump (offs := [UHF_OBN_CNT1.reg]) UHF_OBN_CNT1.OBN_POS _ (by decide)).fld _ (by decide)).trans
          (elapse_fld _ t s)
      · rw [fld_bump_same _ (by decide) _ hwf, elapse_fld]
        rfl
  obtain ⟨x1, hx, hframe, hkept, hcoll, hpos⟩ := hx1
  rw [← hx] at hrun
  let q : Poll := { p with collided := p.collided ++ [(slot, ch)] }
  have hq : RegsKept [UHF_OBN_CNT0.reg, UHF_OBN_CNT1.reg] x1 (setPoll q x1) := .of_eq _ rfl rfl
  have hall := (hkept.trans hq).trans (.bump UHF_OBN_CNT0.OBN_COLL _ (by decide))
  have hf : bump UHF_OBN_CNT0.OBN_COLL (setPoll q x1) =
      { elapse t s with poll := some q, regs := (bump UHF_OBN_CNT0.OBN_COLL (setPoll q x1)).regs } :=
    congrArg (fun z : State => { z with poll := some q, regs := (bump UHF_OBN_CNT0.OBN_COLL (setPoll q x1)).regs }) hframe
  obtain ⟨h1, h2, h3⟩ := pollPut_settles h.live hf hall
  refine ⟨_, hrun, h1, ?_, ?_, h2⟩
  · rw [h3, fld_bump_same _ (by decide) _ ((hkept.trans hq).wf hwf), ← hcoll]
    rfl
  · rw [h3, (RegsKept.bump (offs := [UHF_OBN_CNT0.reg]) UHF_OBN_CNT0.OBN_COLL (setPoll q x1) (by decide)).fld _ (by decide),
      ← hpos]
    rfl

/-! ## Frames -/

/-- A frame whose SYNC was taken up ends in its window (R190). -/
structure FrameEnds (t : Nat) (s : State) (p : Poll) (r : LfRun) (f : ObaneFrame) (slot off : Nat) : Prop
    extends Receives t s p slot off where
  run : s.lf.run = some r
  synced : (slot, f.ch) ∈ p.synced
  ended : (slot, f.ch) ∉ p.ended
  lo : 270720 ≤ off
  hi : off ≤ 284544

/-- The poll with the frame at its end. -/
def frameEnded (p : Poll) (sc : Nat × Nat) : Poll := { p with ended := p.ended ++ [sc] }

/-- A frame's effect (R189, R192, R195). -/
theorem answerFrame_runs (h : FrameEnds t s p r f slot off) : exec (.obaneAnswerFrame t f) s = .next (finish
    (if obCrcOk f.bytes then
      goodFrame r (frameEnded p (slot, f.ch)) (slot, f.ch) f (setPoll (frameEnded p (slot, f.ch)) (elapse t s))
    else badCrc (frameEnded p (slot, f.ch)) (slot, f.ch) f.spread (setPoll (frameEnded p (slot, f.ch)) (elapse t s)))) := by
  refine (command_live t _ s h.live).trans ?_
  have hlo := h.lo
  have hhi := h.hi
  rw [answerFrame, elapse_lf, elapse_poll, h.run, h.poll]
  dsimp only
  rw [h.inSlot]
  dsimp only
  rw [onlyIf, if_pos (by simp [h.receiving, h.synced, h.ended, hlo, hhi])]
  rfl

theorem obaneFrame_badCrc (h : FrameEnds t s p r f slot off) (hcrc : obCrcOk f.bytes = false) (hspread : f.spread ≤ 6)
    (hc : (slot, f.ch) ∉ p.collided) : ∃ s', exec (.obaneAnswerFrame t f) s = .next s' ∧
      settles { elapse t s with poll := some (frameEnded p (slot, f.ch)), regs := s'.regs } s' ∧
      fld UHF_OBN_CNT0.OBN_CRC s' = sat 16 (fld UHF_OBN_CNT0.OBN_CRC s + 1) ∧ keepsRegs [UHF_OBN_CNT0.reg] s s' := by
  have hrun := answerFrame_runs h
  rw [if_neg (by rw [hcrc]; decide), badCrc, if_neg (by simpa [frameEnded] using hc), if_neg (by omega)] at hrun
  let x : State := setPoll (frameEnded p (slot, f.ch)) (elapse t s)
  have hk : RegsKept [UHF_OBN_CNT0.reg] (elapse t s) (bump UHF_OBN_CNT0.OBN_CRC x) :=
    RegsKept.trans (b := x) (.of_eq _ rfl rfl) (.bump _ _ (by decide))
  obtain ⟨h1, h2, h3⟩ := pollPut_settles (x := bump UHF_OBN_CNT0.OBN_CRC x) h.live rfl hk
  refine ⟨_, hrun, h1, ?_, h2⟩
  have hwf : Regs.wf x = true := memorySafe_elapse_wf h.mem t
  rw [h3, fld_bump_same _ (by decide) _ hwf, ← elapse_fld UHF_OBN_CNT0.OBN_CRC t s]
  rfl

/-- Outside Watch a frame that is heard changes the poll alone. -/
theorem heardFrame_plain {x : State} (q : Poll) (h : x.pwr.st ≠ .watch) :
    heardFrame q x = setPoll { q with heard := true } x := by
  have hw : ¬ ((setPoll { q with heard := true } x).pwr.st == .watch) = true := by simpa [setPoll] using h
  rw [heardFrame]
  dsimp only
  rw [if_neg (by simpa using h)]

theorem obaneFrame_otherVehicle (h : FrameEnds t s p r f slot off) (hw : s.pwr.st ≠ .watch)
    (hcrc : obCrcOk f.bytes = true) (hvid : obVid f.bytes ≠ fld FLK_VID.VID s) :
    ∃ s', exec (.obaneAnswerFrame t f) s = .next s' ∧
      settles { elapse t s with poll := some { frameEnded p (slot, f.ch) with heard := true }, regs := s'.regs } s' ∧
      fld UHF_OBN_CNT1.OBN_VID s' = sat 16 (fld UHF_OBN_CNT1.OBN_VID s + 1) ∧ keepsRegs [UHF_OBN_CNT1.reg] s s' := by
  have hrun := answerFrame_runs h
  have hst : (setPoll (frameEnded p (slot, f.ch)) (elapse t s)).pwr.st ≠ .watch := by
    rw [show (setPoll (frameEnded p (slot, f.ch)) (elapse t s)).pwr.st = s.pwr.st from congrArg Pwr.st (elapse_pwr t s)]
    exact hw
  let x : State := setPoll { frameEnded p (slot, f.ch) with heard := true } (setPoll (frameEnded p (slot, f.ch)) (elapse t s))
  have hfld : ∀ g, fld g x = fld g s := fun g => elapse_fld g t s
  rw [if_pos hcrc, goodFrame] at hrun
  dsimp only at hrun
  rw [heardFrame_plain _ hst, if_pos (by rw [hfld]; exact hvid)] at hrun
  have hk : RegsKept [UHF_OBN_CNT1.reg] (elapse t s) (bump UHF_OBN_CNT1.OBN_VID x) :=
    RegsKept.trans (b := x) (.of_eq _ rfl rfl) (.bump _ _ (by decide))
  obtain ⟨h1, h2, h3⟩ := pollPut_settles (x := bump UHF_OBN_CNT1.OBN_VID x) h.live rfl hk
  refine ⟨_, hrun, h1, ?_, h2⟩
  have hwf : Regs.wf x = true := memorySafe_elapse_wf h.mem t
  rw [h3, fld_bump_same _ (by decide) _ hwf, hfld]
  rfl

end

end Sys2Proof.Machine
end

section
/-! SUPPORT. Answers that reach the poll: the statement. -/
namespace Sys2Proof.Machine

section
variable {s x y : State} {t slot off : Nat} {p : Poll} {r : LfRun} {f : ObaneFrame} {k : Token} {cells offs : List Nat}

/-- Outside Watch the end of a command leaves the radios. -/
theorem settles_radios (h : settles x y) (hw : x.pwr.st ≠ .watch) : y.uhf = x.uhf ∧ y.uwb = x.uwb := by
  have hst : y.pwr.st = x.pwr.st := settles_pwr_st h
  have hx : (x.pwr.st == .watch) = false := by simpa using hw
  have h' : blankLines y = blankLines x := h
  simp only [blankLines, hst, hx, Bool.false_eq_true, if_false] at h'
  exact ⟨(congrArg State.uhf h' :), (congrArg State.uwb h' :)⟩

/-- What an answer's command leaves. -/
structure AnswerLeaves (s s' : State) : Prop where
  lf : s'.lf = s.lf
  uhf : s'.uhf = s.uhf
  uwb : s'.uwb = s.uwb
  vrd : s'.vrd = s.vrd
  tmr : s'.tmr = s.tmr

/-- The end of an answer's command. -/
theorem answered_finishes (hl : live s = true) (hw : s.pwr.st ≠ .watch) (hx : x = { elapse t s with
      poll := x.poll, regs := x.regs, free := x.free }) (h : FlockStep cells offs x y) :
    settles y (finish y) ∧ AnswerLeaves s (finish y) := by
  have hset : settles y (finish y) :=
    finish_settles_recorded (x := reshaped x y) hl (by rw [hx]; exact congrArg Lgr.hostWait (elapse_lgr t s))
      (by rw [hx]; exact elapse_fold t s) h
  have hst : y.pwr.st ≠ .watch := by
    rw [h.pwr_st, hx]
    show (elapse t s).pwr.st ≠ .watch
    rw [elapse_pwr]
    exact hw
  obtain ⟨huhf, huwb⟩ := settles_radios hset hst
  refine ⟨hset, ?_, ?_, ?_, ?_, ?_⟩
  · rw [settles_lf hset, h.lf, hx]
    exact elapse_lf t s
  · rw [huhf, h.uhf, hx]
    exact elapse_uhf t s
  · rw [huwb, h.uwb, hx]
    exact elapse_uwb t s
  · rw [settles_vrd hset, h.vrd, hx]
    exact elapse_vrd t s
  · rw [settles_tmr hset, h.tmr, hx]
    exact elapse_tmr t s

/-! ## An answer's frame -/

/-- The poll in which an answer is checked. -/
def frameHeard (p : Poll) (sc : Nat × Nat) : Poll := { frameEnded p sc with heard := true, vidSeen := true }

/-- The answer that a frame gives. -/
def frameAnswer (p : Poll) (f : ObaneFrame) (x : State) : Answer :=
  rawAnswer (obFslot f.bytes) (obRslot f.bytes) p.rseq (obCounter f.bytes) (obFrame f.bytes) (obMag f.bytes)
    (encSigned 8 f.rssi) p.challenge (byteAt 4 f.bytes) x

/-- The message that its MAC covers (R192). -/
def frameMessage (p : Poll) (f : ObaneFrame) : Bytes := [1] ++ beBytes 8 p.challenge ++ f.bytes.take 20

/-- A frame of this vehicle in its place comes to checks 3 to 5. -/
structure FrameChecked (t : Nat) (s : State) (p : Poll) (r : LfRun) (f : ObaneFrame) (slot off : Nat) (k : Token) : Prop
    extends FrameEnds t s p r f slot off where
  watch : s.pwr.st ≠ .watch
  ready : s.nv.ledgerReady = true
  pend : s.flk.pend = none
  crc : obCrcOk f.bytes = true
  vid : obVid f.bytes = fld FLK_VID.VID s
  position : positionOk r (frameEnded p (slot, f.ch)) (slot, f.ch) f.bytes = true
  open_ : p.pinStop = false
  token : tokenOf (obFslot f.bytes) s = some k
  epoch : obEpoch f.bytes = fld FLK_FLOCK.EPOCH s

/-- The state in which they run. -/
def frameState (t : Nat) (s : State) (p : Poll) (sc : Nat × Nat) : State := setPoll (frameHeard p sc) (elapse t s)

theorem FrameChecked.runs (h : FrameChecked t s p r f slot off k) :
    let x := frameState t s p (slot, f.ch)
    exec (.obaneAnswerFrame t f) s = .next (finish (checkAnswer (frameAnswer p f x) (obEpoch f.bytes) (frameMessage p f)
      (obMac f.bytes) r.req.node false x)) := by
  intro x
  have hrun := answerFrame_runs h.toFrameEnds
  have hst : (setPoll (frameEnded p (slot, f.ch)) (elapse t s)).pwr.st ≠ .watch := by
    rw [show (setPoll (frameEnded p (slot, f.ch)) (elapse t s)).pwr.st = s.pwr.st from congrArg Pwr.st (elapse_pwr t s)]
    exact h.watch
  have hfld : fld FLK_VID.VID (setPoll { frameEnded p (slot, f.ch) with heard := true }
      (setPoll (frameEnded p (slot, f.ch)) (elapse t s))) = fld FLK_VID.VID s := elapse_fld _ t s
  rw [if_pos h.crc, goodFrame] at hrun
  dsimp only at hrun
  rw [heardFrame_plain _ hst, if_neg (by rw [hfld]; exact fun hne => hne h.vid), if_neg (by rw [h.position]; decide)] at hrun
  exact hrun

theorem FrameChecked.may (h : FrameChecked t s p r f slot off k) :
    AnswerMay (frameHeard p (slot, f.ch)) (frameAnswer p f (frameState t s p (slot, f.ch))) k (obEpoch f.bytes)
      (frameState t s p (slot, f.ch)) := by
  refine ⟨(elapse_nv_ledgerReady t s).trans h.ready, ?_, rfl, h.open_, ?_, h.epoch.trans (elapse_fld _ t s).symm⟩
  · show (elapse t s).flk.pend = none
    rw [elapse_flk]
    exact h.pend
  · show tokenOf (obFslot f.bytes) (elapse t s) = some k
    rw [tokenOf, elapse_flk]
    exact h.token

theorem FrameChecked.wf (h : FrameChecked t s p r f slot off k) : Regs.wf (frameState t s p (slot, f.ch)) = true :=
  memorySafe_elapse_wf h.mem t

theorem frameState_fld (g : Field) : fld g (frameState t s p (slot, f.ch)) = fld g s := elapse_fld g t s

/-- A verified answer (R194, R197). -/
theorem obaneFrame_verified (h : FrameChecked t s p r f slot off k)
    (hmac : obMac f.bytes = (cmac k.key (frameMessage p f)).take 8) (hrole : k.role ≠ 4)
    (hc : counterAhead (obCounter f.bytes) k.last = true)
    (hnew : p.answers.any (fun y => y.verified && y.slot == obFslot f.bytes) = false) :
    ∃ (a : Answer) (p1 : Poll) (s' : State), exec (.obaneAnswerFrame t f) s = .next s' ∧
      s'.poll = some p1 ∧ p1.answers = p.answers ++ [a] ∧ a.verified = true ∧ a.status = stOk ∧
      a.slot = obFslot f.bytes ∧ a.counter = obCounter f.bytes ∧ a.mag = obMag f.bytes ∧ a.tb = now (elapse t s) ∧
      a.trig = some (now (elapse t s)) ∧ (tokenOf (obFslot f.bytes) s').map (·.last) = some (obCounter f.bytes) ∧
      AnswerLeaves s s' := by
  obtain ⟨⟨hstep, q, hq, hans, -⟩, hlast⟩ := verified_leaves (cells := []) (offs := []) (node := r.req.node) (coil := false)
    h.may hmac hc hnew hrole
  have hrun := h.runs
  dsimp only at hrun
  generalize checkAnswer _ _ _ _ _ _ _ = y at *
  obtain ⟨hset, hleaves⟩ := answered_finishes h.live h.watch rfl hstep
  refine ⟨_, q, _, hrun, (settles_poll hset).trans hq, hans, rfl, rfl, rfl, rfl, rfl, rfl, rfl, ?_, hleaves⟩
  rw [tokenOf, settles_flk hset]
  exact hlast

/-- A replayed one (R194). -/
theorem obaneFrame_replayed (h : FrameChecked t s p r f slot off k)
    (hmac : obMac f.bytes = (cmac k.key (frameMessage p f)).take 8)
    (hc : counterAhead (obCounter f.bytes) k.last = false) :
    ∃ (a : Answer) (p1 : Poll) (s' : State), exec (.obaneAnswerFrame t f) s = .next s' ∧
      s'.poll = some p1 ∧ p1.answers = p.answers ++ [a] ∧ a.verified = false ∧ a.status = stRollback ∧
      a.trig = none ∧ s'.flk = s.flk ∧ s'.lf = s.lf ∧
      fld FLK_AUTH_CNT.REPLAY s' = sat 16 (fld FLK_AUTH_CNT.REPLAY s + 1) := by
  obtain ⟨⟨hstep, q, hq, hans, -⟩, hflk, hfld⟩ := replay_leaves (cells := []) (node := r.req.node) (coil := false)
    h.may hmac hc h.wf
  have hrun := h.runs
  dsimp only at hrun
  generalize checkAnswer _ _ _ _ _ _ _ = y at *
  obtain ⟨hset, hleaves⟩ := answered_finishes h.live h.watch rfl hstep
  refine ⟨_, q, _, hrun, (settles_poll hset).trans hq, hans, rfl, rfl, rfl, ?_, hleaves.lf, ?_⟩
  · rw [settles_flk hset, hflk]
    exact elapse_flk t s
  · rw [settles_fld hset, hfld, frameState_fld]
    rfl

/-- One with a wrong MAC (R192). -/
theorem obaneFrame_badMac (h : FrameChecked t s p r f slot off k)
    (hmac : obMac f.bytes ≠ (cmac k.key (frameMessage p f)).take 8) :
    ∃ (a : Answer) (p1 : Poll) (s' : State), exec (.obaneAnswerFrame t f) s = .next s' ∧
      s'.poll = some p1 ∧ p1.answers = p.answers ++ [a] ∧ a.verified = false ∧ a.authFail = true ∧
      a.status = stMacFail ∧ a.trig = none ∧ s'.flk.flock = s.flk.flock ∧ s'.lf = s.lf ∧
      fld FLK_AUTH_CNT.AUTH_FAIL s' = sat 16 (fld FLK_AUTH_CNT.AUTH_FAIL s + 1) := by
  obtain ⟨⟨hstep, q, hq, hans, -⟩, hflk, hfld⟩ := badMac_leaves (node := r.req.node) (coil := false) h.may hmac h.wf
  have hrun := h.runs
  dsimp only at hrun
  generalize checkAnswer _ _ _ _ _ _ _ = y at *
  obtain ⟨hset, hleaves⟩ := answered_finishes h.live h.watch rfl hstep
  refine ⟨_, q, _, hrun, (settles_poll hset).trans hq, hans, rfl, rfl, rfl, rfl, ?_, hleaves.lf, ?_⟩
  · rw [settles_flk hset, hflk]
    exact congrArg Flk.flock (elapse_flk t s)
  · rw [settles_fld hset, hfld, frameState_fld]
    rfl

end

/-- Settles O30, from the effects of SYNCs, of frames without an answer, and of the three outcomes of an answer's checks. -/
theorem answersAreChecked : Obligations.AnswersAreChecked := by
  unfold Obligations.AnswersAreChecked
  intro s t r p slot off hl hm hsh hw hready hpend hr hp s0 hrecv hslot
  have hrc : Receives t s p slot off := ⟨hl, hm, hp, hrecv, hslot⟩
  refine ⟨fun ch hch => ⟨fun hn hlo hhi => ?_, fun hn hout => ?_, fun hin hc => ?_⟩, fun f hsync hend hlo hhi => ?_⟩
  · exact syncDetected_takes hrc hch hn (by simp [syncInside, hlo, hhi])
  · exact syncDetected_misplaced hrc hch hn (by simp [syncInside]; omega)
  · have h := syncDetected_collides hrc hch hin hc
    have hb : (decide (off < 30720) || decide (44544 < off)) = !syncInside off := by
      rw [Bool.eq_iff_iff]
      simp [syncInside]
    rw [hb]
    exact h
  · have hf : FrameEnds t s p r f slot off := ⟨hrc, hr, hsync, hend, hlo, hhi⟩
    refine ⟨fun hcrc hspread hc => ?_, fun hcrc hvid => ?_, fun k hcrc hvid hpos hopen hk hepoch => ?_⟩
    · exact obaneFrame_badCrc hf hcrc hspread hc
    · exact obaneFrame_otherVehicle hf hw hcrc hvid
    · have h : FrameChecked t s p r f slot off k := ⟨hf, hw, hready, hpend, hcrc, hvid, hpos, hopen, hk, hepoch⟩
      refine ⟨fun hmac hrole => ⟨fun hc hnew => ?_, fun hc => ?_⟩, fun hmac => ?_⟩
      · obtain ⟨a, p1, s', h1, h2, h3, h4, h5, h6, h7, h8, h9, h10, h11, hleaves⟩ :=
          obaneFrame_verified h hmac hrole hc hnew
        exact ⟨a, p1, s', h1, h2, h3, h4, h5, h6, h7, h8, h9, h10, h11, hleaves.lf, hleaves.uhf, hleaves.uwb, hleaves.vrd,
          hleaves.tmr⟩
      · exact obaneFrame_replayed h hmac hc
      · exact obaneFrame_badMac h hmac

end Sys2Proof.Machine
end

section
/-! SUPPORT. The exchange of a coil: the statement. -/
namespace Sys2Proof.Machine

section
variable {s x y : State} {t n pct at0 : Nat} {limit : Bool} {p q : Poll} {r : LfRun} {c : CoilRun} {b : Bytes} {k : Token}
  {offs : List Nat}

/-! ## A coil of the poll -/

/-- The poll with a coil's new state. -/
def withCoil (c : CoilRun) (p : Poll) : Poll := { p with coils := p.coils.map (fun x => if x.coil = c.coil then c else x) }

theorem setCoil_puts (c : CoilRun) (hp : x.poll = some p) : setCoil c x = setPoll (withCoil c p) x := by
  rw [setCoil, hp]
  rfl

/-- A poll whose window is not shut goes on. -/
theorem settlePoll_open (hp : x.poll = some p) (hopen : p.shut = false) : settlePoll x = x := by
  unfold settlePoll
  rw [hp]
  split
  · next r q _ hq =>
    obtain rfl : p = q := Option.some.inj hq
    rw [if_neg (by simp [pollDone, hopen])]
  · rfl

/-- The coil in its next attempt. -/
def coilTried (at0 : Nat) (x : State) (c : CoilRun) : CoilRun :=
  { c with
    tries := c.tries + 1, challenge := beNat (freeBytes 8 x), head := coilHead x, active := true, since := at0 }

/-- An attempt begins with a challenge. -/
theorem tryCoil_tries (c : CoilRun) (at0 : Nat) (hp : x.poll = some p) (hd : drawFails x = none) :
    tryCoil c at0 x = { x with
        poll := some (withCoil (coilTried at0 x c) p), regs := (tryCoil c at0 x).regs, free := x.free + 8 } ∧
      RegsKept [RNG_REQ_CNT.reg, RNG_STATUS.reg] x (tryCoil c at0 x) := by
  obtain ⟨hframe, hkept⟩ := drawBytes_frame 8 x
  have hpoll : (drawBytes 8 x).2.poll = some p := by
    rw [hframe]
    exact hp
  have hrun : tryCoil c at0 x = setPoll (withCoil (coilTried at0 x c) p) (drawBytes 8 x).2 := by
    rw [tryCoil, hd]
    exact setCoil_puts _ hpoll
  rw [hrun]
  refine ⟨?_, hkept.trans (.of_eq _ rfl rfl)⟩
  exact congrArg (setPoll (withCoil (coilTried at0 x c) p)) hframe

/-! ## The end of a coil's command -/

/-- A command that leaves the ledger and the folds, and registers outside a list. -/
theorem framed_settles (hl : live s = true) (hlgr : y.lgr = s.lgr) (hfold : y.fold = s.fold)
    (hf : x = { y with regs := x.regs }) (hk : RegsKept offs (elapse t s) x) :
    settles { y with regs := (finish x).regs } (finish x) ∧ keepsRegs offs s (finish x) ∧
      ∀ f, fld f (finish x) = fld f x := by
  have hset : settles x (finish x) :=
    finish_settles_of s x hl (by rw [hf]; exact hlgr) (by rw [hf]; exact hfold)
  have hregs : (finish x).regs = x.regs := settles_regs hset
  refine ⟨?_, fun off ho => ?_, settles_fld hset⟩
  · rw [hregs, ← hf]
    exact hset
  · rw [settles_regGet hset, hk.keeps off ho, elapse_regGet]

/-- A coil of a poll whose window is not shut. -/
structure CoilRuns (t n : Nat) (s : State) (r : LfRun) (p : Poll) (c : CoilRun) : Prop where
  live : live s = true
  mem : memorySafe s
  coil : coilOf n s = some (r, p, c)
  open_ : p.shut = false
  draws : drawFails s = none

theorem CoilRuns.at (h : CoilRuns t n s r p c) : coilOf n (elapse t s) = some (r, p, c) := by
  rw [← h.coil, coilOf, elapse_lf, elapse_poll]
  rfl

theorem CoilRuns.draws_at (h : CoilRuns t n s r p c) : drawFails (elapse t s) = none := by
  rw [← h.draws]
  simp only [drawFails, rngState, elapse_fld]
  rfl

/-- Where a coil is found. -/
theorem coilOf_some (h : coilOf n x = some (r, p, c)) : x.poll = some p ∧ c.coil = n := by
  unfold coilOf at h
  split at h
  · next r' p' hr hp =>
    split at h
    · next c' hc =>
      split at h
      · simp only [Option.some.injEq, Prod.mk.injEq] at h
        obtain ⟨-, rfl, rfl⟩ := h
        exact ⟨hp, by simpa using List.find?_some hc⟩
      · exact absurd h (by simp)
    · exact absurd h (by simp)
  · exact absurd h (by simp)

theorem CoilRuns.poll_at (h : CoilRuns t n s r p c) : (elapse t s).poll = some p := (coilOf_some h.at).1

theorem CoilRuns.number (h : CoilRuns t n s r p c) : c.coil = n := (coilOf_some h.coil).2

theorem coilTicks_elapse (k t : Nat) (s : State) : coilTicks k (elapse t s) = coilTicks k s := by
  simp only [coilTicks, elapse_fld]

theorem coilHead_elapse (t : Nat) (s : State) : coilHead (elapse t s) = coilHead s := by
  simp only [coilHead, elapse_fld]

/-! ## The start -/

/-- The state in which a coil's check is noted. -/
def coilNoted (n k : Nat) (s : State) : State := { s with lf := { s.lf with coils := s.lf.coils.set n k } }

theorem CoilRuns.starts (h : CoilRuns t n s r p c) (ha : c.active = false) (hd : c.done = false) (ht : c.tries = 0) :
    exec (.coilExchangeStart t n pct limit) s = .next (finish (if coilCheck pct limit ≠ 1 then
      settlePoll (setCoil { c with done := true } (noteCoil n (coilCheck pct limit) (elapse t s)))
      else settlePoll (tryCoil { c with from_ := some (now (elapse t s)) } (now (elapse t s) + coilTicks 625 (elapse t s))
        (setPoll { p with coilRan := true } (noteCoil n (coilCheck pct limit) (elapse t s)))))) := by
  refine (command_live t _ s h.live).trans ?_
  rw [coilStart, h.at]
  dsimp only
  rw [onlyIf, if_pos (by simp [ha, hd, ht])]

/-- The first attempt (R203). -/
theorem CoilRuns.begins (h : CoilRuns t n s r p c) (ha : c.active = false) (hd : c.done = false) (ht : c.tries = 0)
    (hok : coilCheck pct limit = 1) :
    ∃ (p1 : Poll) (s' : State), exec (.coilExchangeStart t n pct limit) s = .next s' ∧ p1.coilRan = true ∧
      p1.coils = p.coils.map (fun x => if x.coil = n then
        { c with
          tries := 1, challenge := beNat (freeBytes 8 (elapse t s)), head := coilHead s, active := true
          from_ := some (now (elapse t s)), since := now (elapse t s) + coilTicks 625 s } else x) ∧
      settles { elapse t s with
        poll := some p1, free := s.free + 8, regs := s'.regs, lf := { s.lf with coils := s.lf.coils.set n 1 } } s' ∧
      keepsRegs [RNG_REQ_CNT.reg, RNG_STATUS.reg] s s' := by
  have hrun := h.starts (pct := pct) (limit := limit) ha hd ht
  let x1 : State := setPoll { p with coilRan := true } (coilNoted n 1 (elapse t s))
  have hnote : noteCoil n 1 (elapse t s) = coilNoted n 1 (elapse t s) := by rw [noteCoil, if_neg (by decide)]; rfl
  rw [if_neg (by simp [hok]), hok, hnote] at hrun
  have hdraw : drawFails x1 = none := h.draws_at
  let c1 : CoilRun := { c with from_ := some (now (elapse t s)) }
  obtain ⟨hframe, hkept⟩ := tryCoil_tries (x := x1) (p := { p with coilRan := true }) c1
    (now (elapse t s) + coilTicks 625 (elapse t s)) rfl hdraw
  let p1 : Poll := withCoil (coilTried (now (elapse t s) + coilTicks 625 (elapse t s)) x1 c1) { p with coilRan := true }
  let y : State := { elapse t s with
    poll := some p1, free := s.free + 8, lf := { s.lf with coils := s.lf.coils.set n 1 } }
  have hopen : settlePoll (tryCoil c1 (now (elapse t s) + coilTicks 625 (elapse t s)) x1) =
      tryCoil c1 (now (elapse t s) + coilTicks 625 (elapse t s)) x1 := by
    refine settlePoll_open (p := p1) ?_ h.open_
    rw [hframe]
  rw [hopen] at hrun
  generalize hx : tryCoil c1 (now (elapse t s) + coilTicks 625 (elapse t s)) x1 = x at *
  have hy : x = { y with regs := x.regs } := by
    conv_lhs => rw [hframe]
    simp only [x1, y, setPoll, coilNoted, elapse_lf, elapse_free, p1]
  have hnoted : RegsKept [RNG_REQ_CNT.reg, RNG_STATUS.reg] (elapse t s) x1 := .of_eq _ rfl rfl
  obtain ⟨h1, h2, -⟩ := framed_settles (t := t) (y := y) h.live (elapse_lgr t s) (elapse_fold t s) hy (hnoted.trans hkept)
  refine ⟨p1, _, hrun, rfl, ?_, h1, h2⟩
  have hhead : coilHead x1 = coilHead s := coilHead_elapse t s
  have hbytes : freeBytes 8 x1 = freeBytes 8 (elapse t s) := rfl
  simp only [p1, c1, withCoil, coilTried, hhead, hbytes, h.number, ht, coilTicks_elapse]

/-- A coil that is OPEN or SHORT (R156). -/
theorem CoilRuns.leftOut (h : CoilRuns t n s r p c) (ha : c.active = false) (hd : c.done = false) (ht : c.tries = 0)
    (hbad : coilCheck pct limit ≠ 1) :
    ∃ s', exec (.coilExchangeStart t n pct limit) s = .next s' ∧
      settles { elapse t s with
        poll := some { p with coils := p.coils.map (fun x => if x.coil = n then { c with done := true } else x) }
        regs := s'.regs, lf := { s.lf with coils := s.lf.coils.set n (coilCheck pct limit) } } s' ∧
      (coilCheck pct limit = 3 → fld LFE_STATUS.COIL_FAULT s' = 1) ∧ keepsRegs [LFE_STATUS.reg] s s' := by
  have hrun := h.starts (pct := pct) (limit := limit) ha hd ht
  rw [if_pos hbad] at hrun
  generalize coilCheck pct limit = k at *
  have hnote : noteCoil n k (elapse t s) = { coilNoted n k (elapse t s) with regs := (noteCoil n k (elapse t s)).regs } ∧
      RegsKept [LFE_STATUS.reg] (elapse t s) (noteCoil n k (elapse t s)) ∧
      (k = 3 → fld LFE_STATUS.COIL_FAULT (noteCoil n k (elapse t s)) = 1) := by
    have hnoted : RegsKept [LFE_STATUS.reg] (elapse t s) (coilNoted n k (elapse t s)) := .of_eq _ rfl rfl
    rw [noteCoil]
    dsimp only
    split
    · refine ⟨rfl, hnoted.trans (.setFld LFE_STATUS.COIL_FAULT 1 _ (by decide)), fun _ => ?_⟩
      exact fld_setFld_same _ (by decide) 1 _ (memorySafe_elapse_wf h.mem t)
    · next hk => exact ⟨rfl, hnoted, fun hk' => absurd hk' hk⟩
  generalize noteCoil n k (elapse t s) = x at *
  obtain ⟨hframe, hkept, hfault⟩ := hnote
  have hx : x.poll = some p := by
    rw [hframe]
    exact h.poll_at
  rw [setCoil_puts _ hx, settlePoll_open (p := withCoil { c with done := true } p) rfl h.open_] at hrun
  let y : State := { elapse t s with
    poll := some (withCoil { c with done := true } p), lf := { s.lf with coils := s.lf.coils.set n k } }
  have hy : setPoll (withCoil { c with done := true } p) x =
      { y with regs := (setPoll (withCoil { c with done := true } p) x).regs } := by
    conv_lhs => rw [hframe]
    simp only [y, setPoll, coilNoted, elapse_lf]
  obtain ⟨h1, h2, h3⟩ := framed_settles (t := t) (y := y) h.live (elapse_lgr t s) (elapse_fold t s) hy
    (hkept.trans (.of_eq _ rfl rfl))
  refine ⟨_, hrun, ?_, fun hk => (h3 _).trans (hfault hk), h2⟩
  obtain rfl := h.number
  exact h1

/-! ## Attempts without a good answer -/

/-- What another attempt of the coil is (R203). -/
def TriesAgain (t n : Nat) (s : State) (p : Poll) (c : CoilRun) (s' : State) : Prop :=
  ∃ p1 : Poll, s'.poll = some p1 ∧ p1.coils = p.coils.map (fun x => if x.coil = n then
      { c with
        tries := c.tries + 1, challenge := beNat (freeBytes 8 (elapse t s)), head := coilHead s, active := true
        since := now (elapse t s) + coilTicks 125 s } else x) ∧
    p1.answers = p.answers ∧ settles { elapse t s with poll := some p1, free := s.free + 8, regs := s'.regs } s' ∧
    fld FLK_COIL_CNT.COIL_CRC s' = sat 16 (fld FLK_COIL_CNT.COIL_CRC s + 1) ∧
    keepsRegs [FLK_COIL_CNT.reg, RNG_REQ_CNT.reg, RNG_STATUS.reg] s s'

theorem CoilRuns.retries (h : CoilRuns t n s r p c) (ht : c.tries < 2) :
    TriesAgain t n s p c (finish (coilRetry c (elapse t s))) := by
  let x1 : State := bump FLK_COIL_CNT.COIL_CRC (elapse t s)
  let at1 : Nat := now (elapse t s) + coilTicks 125 (elapse t s)
  have hpoll : x1.poll = some p := h.poll_at
  have hbump : RegsKept [FLK_COIL_CNT.reg, RNG_REQ_CNT.reg, RNG_STATUS.reg] (elapse t s) x1 := .bump _ _ (by decide)
  have hcount := fld_bump_same FLK_COIL_CNT.COIL_CRC (by decide) (elapse t s) (memorySafe_elapse_wf h.mem t)
  have hstate : rngState x1 = rngState (elapse t s) :=
    (RegsKept.bump (offs := [FLK_COIL_CNT.reg]) FLK_COIL_CNT.COIL_CRC (elapse t s) (by decide)).fld RNG_STATUS.STATE (by decide)
  have hdraw : drawFails x1 = none := by
    rw [← h.draws_at, drawFails, hstate]
    rfl
  obtain ⟨hframe, hkept⟩ := tryCoil_tries c at1 hpoll hdraw
  have hopen : settlePoll (tryCoil c at1 x1) = tryCoil c at1 x1 := by
    refine settlePoll_open (p := withCoil (coilTried at1 x1 c) p) ?_ h.open_
    rw [hframe]
  rw [coilRetry, if_pos ht]
  show TriesAgain t n s p c (finish (settlePoll (tryCoil c at1 x1)))
  rw [hopen]
  have hcrc := hkept.fld FLK_COIL_CNT.COIL_CRC (by decide)
  generalize tryCoil c at1 x1 = x at *
  let y : State := { elapse t s with poll := some (withCoil (coilTried at1 x1 c) p), free := s.free + 8 }
  have hy : x = { y with regs := x.regs } := by
    conv_lhs => rw [hframe]
    simp only [x1, y, bump, addFld, setFld, regSet, elapse_free]
  obtain ⟨h1, h2, h3⟩ := framed_settles (t := t) (y := y) h.live (elapse_lgr t s) (elapse_fold t s) hy
    (hbump.trans (hkept.mono (by simp)))
  have hhead : coilHead x1 = coilHead s := by
    rw [← coilHead_elapse t s]
    simp only [coilHead, (RegsKept.bump (offs := [FLK_COIL_CNT.reg]) FLK_COIL_CNT.COIL_CRC (elapse t s) (by decide)).fld
      FLK_VID.VID (by decide), (RegsKept.bump (offs := [FLK_COIL_CNT.reg]) FLK_COIL_CNT.COIL_CRC (elapse t s)
      (by decide)).fld FLK_FLOCK.EPOCH (by decide), x1]
  have hbytes : freeBytes 8 x1 = freeBytes 8 (elapse t s) := rfl
  refine ⟨withCoil (coilTried at1 x1 c) p, settles_poll h1, ?_, rfl, h1, ?_, h2⟩
  · simp only [withCoil, coilTried, hhead, hbytes, h.number, at1, coilTicks_elapse]
  · rw [h3, hcrc, hcount, elapse_fld]
    rfl

/-- The coil is done (R203). -/
theorem CoilRuns.gives_up (h : CoilRuns t n s r p c) (ht : 2 ≤ c.tries) :
    settles { elapse t s with
        poll := some { p with coils := p.coils.map (fun x => if x.coil = n then { c with active := false, done := true } else x) }
        regs := (finish (coilRetry c (elapse t s))).regs } (finish (coilRetry c (elapse t s))) ∧
      keepsRegs [FLK_COIL_CNT.reg] s (finish (coilRetry c (elapse t s))) := by
  let c1 : CoilRun := { c with active := false, done := true }
  have hpoll : (bump FLK_COIL_CNT.COIL_CRC (elapse t s)).poll = some p := h.poll_at
  have hrun : coilRetry c (elapse t s) = setPoll (withCoil c1 p) (bump FLK_COIL_CNT.COIL_CRC (elapse t s)) := by
    rw [coilRetry, if_neg (by omega), setCoil_puts _ hpoll]
    exact settlePoll_open (p := withCoil c1 p) rfl h.open_
  rw [hrun]
  have hbump : RegsKept [FLK_COIL_CNT.reg] (elapse t s) (bump FLK_COIL_CNT.COIL_CRC (elapse t s)) := .bump _ _ (by decide)
  obtain ⟨h1, h2, -⟩ := framed_settles (t := t) (y := { elapse t s with poll := some (withCoil c1 p) })
    (x := setPoll (withCoil c1 p) (bump FLK_COIL_CNT.COIL_CRC (elapse t s))) h.live (elapse_lgr t s) (elapse_fold t s) rfl
    (hbump.trans (.of_eq _ rfl rfl))
  refine ⟨?_, h2⟩
  obtain rfl := h.number
  exact h1

theorem CoilRuns.times_out (h : CoilRuns t n s r p c) (ha : c.active = true)
    (hlate : coilStep3 c s + coilTicks 525 s ≤ now (elapse t s)) :
    exec (.coilAttemptTimeout t n) s = .next (finish (coilRetry c (elapse t s))) := by
  refine (command_live t _ s h.live).trans ?_
  rw [coilTimeout, h.at]
  dsimp only
  rw [onlyIf, if_pos (by simpa [ha, coilStep3, coilTicks_elapse] using hlate)]

/-! ## Uplinks -/

/-- The uplink ends in its window (R203). -/
structure UplinkEnds (t n : Nat) (s : State) (r : LfRun) (p : Poll) (c : CoilRun) : Prop extends CoilRuns t n s r p c where
  active : c.active = true
  lo : coilStep3 c s + coilTicks 3965 s ≤ now (elapse t s)
  hi : now (elapse t s) ≤ coilStep3 c s + coilTicks 4365 s

/-- An uplink with a bad form (R203). -/
theorem UplinkEnds.misread (h : UplinkEnds t n s r p c)
    (hbad : b.length ≠ 15 ∨ byteAt 0 b ≠ 0x7E ∨ crc16 (slice 1 12 b) ≠ beNat (slice 13 2 b)) :
    exec (.coilUplinkFrame t n b) s = .next (finish (coilRetry c (elapse t s))) := by
  have hlo := h.lo
  have hhi := h.hi
  refine (command_live t _ s h.live).trans ?_
  rw [coilFrame, h.toCoilRuns.at]
  dsimp only
  rw [onlyIf, if_pos (by simp [h.active, coilStep3, coilTicks_elapse] at hlo hhi ⊢; exact ⟨hlo, hhi⟩), if_pos hbad]

/-- The poll in which the uplink is checked. -/
def uplinkHeard (p : Poll) (c : CoilRun) : Poll :=
  { withCoil { c with active := false, done := true } p with heard := true, vidSeen := true }

/-- The state in which it is. -/
def uplinkState (t : Nat) (s : State) (p : Poll) (c : CoilRun) : State := setPoll (uplinkHeard p c) (tookFree 1 (elapse t s))

/-- The answer that the uplink gives (R202). -/
def uplinkAnswer (n : Nat) (b : Bytes) (p : Poll) (c : CoilRun) (fb : Bytes) (x : State) : Answer :=
  rawAnswer (byteAt 1 b / 4) (0x80 + n) p.rseq (beNat (slice 3 2 b)) 0 (List.replicate 16 0) (byteAt 0 fb) c.challenge 0 x

/-- The message that its MAC covers (R202). -/
def uplinkMessage (n : Nat) (b : Bytes) (c : CoilRun) : Bytes :=
  [2] ++ beBytes 8 c.challenge ++ beBytes 3 c.head.1 ++ [byteOf n] ++ slice 1 4 b

/-- An uplink of good form comes to checks 3 to 5. -/
theorem UplinkEnds.runs (h : UplinkEnds t n s r p c) (hw : s.pwr.st ≠ .watch) (hlen : b.length = 15)
    (hstart : byteAt 0 b = 0x7E) (hcrc : crc16 (slice 1 12 b) = beNat (slice 13 2 b)) :
    exec (.coilUplinkFrame t n b) s = .next (finish (settlePoll (checkAnswer
      (uplinkAnswer n b p c (freeBytes 1 (elapse t s)) (uplinkState t s p c)) (byteAt 2 b) (uplinkMessage n b c)
      (slice 5 8 b) (0x80 + n) true (uplinkState t s p c)))) := by
  have hlo := h.lo
  have hhi := h.hi
  let p1 : Poll := withCoil { c with active := false, done := true } p
  have hst : (setPoll p1 (tookFree 1 (elapse t s))).pwr.st ≠ .watch := by
    rw [show (setPoll p1 (tookFree 1 (elapse t s))).pwr.st = s.pwr.st from congrArg Pwr.st (elapse_pwr t s)]
    exact hw
  have hpoll : (tookFree 1 (elapse t s)).poll = some p := h.toCoilRuns.poll_at
  refine (command_live t _ s h.live).trans ?_
  rw [coilFrame, h.toCoilRuns.at]
  dsimp only
  rw [onlyIf, if_pos (by simp [h.active, coilStep3, coilTicks_elapse] at hlo hhi ⊢; exact ⟨hlo, hhi⟩),
    if_neg (by simp [hlen, hstart, hcrc]), setCoil_puts _ hpoll]
  show Host.Outcome.next (finish (settlePoll (checkAnswer (rawAnswer _ _ _ _ _ _ _ _ _
    (heardFrame { p1 with vidSeen := true } (setPoll p1 (tookFree 1 (elapse t s))))) _ _ _ _ _
    (heardFrame { p1 with vidSeen := true } (setPoll p1 (tookFree 1 (elapse t s))))))) = _
  rw [heardFrame_plain _ hst]
  rfl

/-- A good uplink is an answer of the coil (R202, R203). -/
theorem UplinkEnds.answers (h : UplinkEnds t n s r p c) (hw : s.pwr.st ≠ .watch) (hlen : b.length = 15)
    (hstart : byteAt 0 b = 0x7E) (hcrc : crc16 (slice 1 12 b) = beNat (slice 13 2 b)) (hready : s.nv.ledgerReady = true)
    (hpend : s.flk.pend = none) (hopen : p.pinStop = false) (hk : tokenOf (byteAt 1 b / 4) s = some k)
    (hepoch : byteAt 2 b = fld FLK_FLOCK.EPOCH s) (hrole : k.role ≠ 4)
    (hmac : slice 5 8 b = (cmac k.key (uplinkMessage n b c)).take 8)
    (hc : counterAhead (beNat (slice 3 2 b)) k.last = true)
    (hnew : p.answers.any (fun y => y.verified && y.slot == byteAt 1 b / 4) = false) :
    ∃ (a : Answer) (p1 : Poll) (s' : State), exec (.coilUplinkFrame t n b) s = .next s' ∧ s'.poll = some p1 ∧
      p1.answers = p.answers ++ [a] ∧ a.verified = true ∧ a.source = 0x80 + n ∧ a.slot = byteAt 1 b / 4 ∧
      a.counter = beNat (slice 3 2 b) ∧ a.trig = some (now (elapse t s)) ∧
      (tokenOf (byteAt 1 b / 4) s').map (·.last) = some (beNat (slice 3 2 b)) ∧ s'.lf = s.lf ∧ s'.uhf = s.uhf := by
  have hmay : AnswerMay (uplinkHeard p c) (uplinkAnswer n b p c (freeBytes 1 (elapse t s)) (uplinkState t s p c)) k (byteAt 2 b)
      (uplinkState t s p c) := by
    refine ⟨(elapse_nv_ledgerReady t s).trans hready, ?_, rfl, hopen, ?_, hepoch.trans (elapse_fld _ t s).symm⟩
    · show (elapse t s).flk.pend = none
      rw [elapse_flk]
      exact hpend
    · show tokenOf (byteAt 1 b / 4) (elapse t s) = some k
      rw [tokenOf, elapse_flk]
      exact hk
  obtain ⟨⟨hstep, q, hq, hans, hshut⟩, hlast⟩ := verified_leaves (cells := []) (offs := []) (node := 0x80 + n) (coil := true)
    hmay hmac hc hnew hrole
  have hrun := h.runs hw hlen hstart hcrc
  generalize checkAnswer _ _ _ _ _ _ _ = y at *
  rw [settlePoll_open hq (hshut.trans h.open_)] at hrun
  obtain ⟨hset, hleaves⟩ := answered_finishes h.live hw rfl hstep
  refine ⟨_, q, _, hrun, (settles_poll hset).trans hq, hans, rfl, rfl, rfl, rfl, rfl, ?_, hleaves.lf, hleaves.uhf⟩
  rw [tokenOf, settles_flk hset]
  exact hlast

end

/-- Settles O32, from the start of a coil's exchange, its retries and its uplink. -/
theorem coilsExchange : Obligations.CoilsExchange := by
  unfold Obligations.CoilsExchange
  intro s t n r p c hl hm hsh hn hcoil hopen hdraw s0 again
  have h : CoilRuns t n s r p c := ⟨hl, hm, hcoil, hopen, hdraw⟩
  refine ⟨fun pct limit ha hd ht => ⟨h.begins ha hd ht, h.leftOut ha hd ht⟩, fun ha hlate => ⟨fun ht => ?_, fun ht => ?_⟩,
    fun b ha hlo hhi => ⟨fun hbad ht => ?_, ?_⟩⟩
  · exact ⟨_, h.times_out ha hlate, h.retries ht⟩
  · exact ⟨_, h.times_out ha hlate, h.gives_up ht⟩
  · exact ⟨_, UplinkEnds.misread ⟨h, ha, hlo, hhi⟩ hbad, h.retries ht⟩
  · intro k hlen hstart hcrc hw hready hpend hstop hk hepoch hrole hmac hc hnew
    exact UplinkEnds.answers ⟨h, ha, hlo, hhi⟩ hw hlen hstart hcrc hready hpend hstop hk hepoch hrole hmac hc hnew

end Sys2Proof.Machine
end

section
/-! SUPPORT. The drive at the end of a command, and the results that LF channels show. -/
namespace Sys2Proof.Machine

section
variable {s x y : State} {t : Nat} {offs : List Nat}

/-! ## The drive -/

/-- The drive phase is told from the LF operation and the registers. -/
theorem drivePhase_congr (hlf : y.lf = x.lf) (hregs : y.regs = x.regs) (hpart : y.part = x.part) :
    drivePhase y = drivePhase x := by
  have hget : ∀ off, regGet off y = regGet off x := fun off => by rw [regGet, regGet, hregs, hpart]
  have hfld : ∀ f, fld f y = fld f x := fun f => by rw [fld, fld, hget]
  have hfreq : ∀ r c, runFreq r c y = runFreq r c x := fun r c => by simp only [runFreq, lfFreq, hfld]
  have hburst : ∀ r l, burstTicks r l y = burstTicks r l x := fun r l => by simp only [burstTicks, hfld, hfreq]
  unfold drivePhase
  rw [hlf]
  simp only [hburst]

/-- The end of a command drives what its drive phase says. -/
theorem finish_drive_at (hh : x.lgr.hostWait.all (fun p => decide (p.2 ≠ 0)) = true) (hw : x.fold.wait = [])
    (hq : x.fold.queue = []) : ∃ z, settles x z ∧ z.pins.resetN = x.pins.resetN ∧
      (x.pwr.st ≠ .watch → z.pwr = x.pwr) ∧ (finish x).pins.drive = (refreshDrive z).pins.drive ∧
      (finish x).pins.bridge = (refreshDrive z).pins.bridge := by
  refine ⟨refreshRadio (settleIslands x), (settleIslands_settles x), ?_, fun hst => ?_, ?_, ?_⟩
  · unfold settleIslands
    split <;> rfl
  · unfold settleIslands
    rw [if_neg (by simp [hst])]
    rfl
  all_goals
    unfold finish
    rw [flushDisplaced_calm x hh, settleFolds_calm x hw hq]
    rfl

/-- Nothing drives before a drive phase, after it, or without one. -/
theorem finish_drives_nothing (hh : x.lgr.hostWait.all (fun p => decide (p.2 ≠ 0)) = true) (hw : x.fold.wait = [])
    (hq : x.fold.queue = []) (h : ∀ q a e, drivePhase x = some (q, a, e) → now x < a ∨ e ≤ now x) :
    (finish x).pins.drive = 0 ∧ (finish x).pins.bridge = 0 := by
  obtain ⟨z, hz, -, -, hdrive, hbridge⟩ := finish_drive_at hh hw hq
  have hphase : drivePhase z = drivePhase x := drivePhase_congr (settles_lf hz) (settles_regs hz) (settles_part hz)
  have hnow : now z = now x := by rw [now, now, settles_clk hz]
  rw [hdrive, hbridge]
  unfold refreshDrive
  split
  · exact ⟨rfl, rfl⟩
  · rw [hphase]
    cases hp : drivePhase x with
    | none => exact ⟨rfl, rfl⟩
    | some v =>
      obtain ⟨q, a, e⟩ := v
      have hbefore := h q a e hp
      refine ⟨if_neg ?_, if_neg ?_⟩
      · simp only [hnow, Bool.and_eq_true, decide_eq_true_eq]
        omega
      · simp only [hnow, Bool.and_eq_true, decide_eq_true_eq]
        omega

/-- In a drive phase its quarters drive. -/
theorem finish_drives (hh : x.lgr.hostWait.all (fun p => decide (p.2 ≠ 0)) = true) (hw : x.fold.wait = [])
    (hq : x.fold.queue = []) (hst : x.pwr.st ≠ .watch) (hsafe : padsSafe x = false) {q : BitVec 4} {a e : Nat}
    (hp : drivePhase x = some (q, a, e)) :
    (finish x).pins.drive = (if a ≤ now x && now x < e then q else 0) ∧
      (finish x).pins.bridge = if 5 * a + 192 ≤ 5 * now x && now x < e then q else 0 := by
  obtain ⟨z, hz, hreset, hpwr, hdrive, hbridge⟩ := finish_drive_at hh hw hq
  have hphase : drivePhase z = drivePhase x := drivePhase_congr (settles_lf hz) (settles_regs hz) (settles_part hz)
  have hclk : z.clk = x.clk := settles_clk hz
  have hz' : padsSafe z = false := by
    rw [← hsafe, padsSafe, padsSafe, hreset, islandOn, islandOn, hpwr hst, hclk]
  rw [hdrive, hbridge]
  unfold refreshDrive
  rw [if_neg (by rw [hz']; decide), hphase, hp, show now x = now z by rw [now, now, hclk]]
  exact ⟨rfl, rfl⟩

/-- What waits nowhere on a live device. -/
theorem live_hostWait (hl : live s = true) (hlgr : x.lgr = s.lgr) (hfold : x.fold = s.fold) :
    x.lgr.hostWait.all (fun p => decide (p.2 ≠ 0)) = true ∧ x.fold.wait = [] ∧ x.fold.queue = [] := by
  obtain ⟨-, -, -, -, hw, hq, hh⟩ := (calm_iff s).mp (live_calm hl)
  exact ⟨by rw [hlgr]; exact hh, by rw [hfold]; exact hw, by rw [hfold]; exact hq⟩

/-! ## Fields set in a row -/

/-- A field that the writes give one value alone. -/
theorem lastSet_eq {g : Field} {l : List (Field × Nat)} {v old : Nat} (hv : v < 2 ^ g.width)
    (hall : ∀ p ∈ l, p.1 = g → p.2 = v) (hex : (∃ p ∈ l, p.1 = g) ∨ old = v) : lastSet g l old = v := by
  induction l generalizing old with
  | nil => simpa [lastSet] using hex
  | cons p l ih =>
    rw [lastSet, List.foldl_cons, ← lastSet]
    refine ih (fun q hq => hall q (List.mem_cons_of_mem _ hq)) ?_
    by_cases hp : p.1 = g
    · right
      rw [if_pos hp, hall p List.mem_cons_self hp]
      exact Nat.mod_eq_of_lt hv
    · rw [if_neg hp]
      rcases hex with ⟨q, hq, hqg⟩ | hold
      · rcases List.mem_cons.mp hq with rfl | hq
        · exact absurd hqg hp
        · exact .inl ⟨q, hq, hqg⟩
      · exact .inr hold

theorem setFlds_append (l m : List (Field × Nat)) (x : State) : setFlds (l ++ m) x = setFlds m (setFlds l x) := by
  simp only [setFlds, List.foldl_append]

/-- Fields set in a row, read once each. -/
theorem fld_setFlds_eq {g : Field} {l : List (Field × Nat)} {v : Nat} (hwf : Regs.wf x = true) (hr : readable g l = true)
    (hv : v < 2 ^ g.width) (hall : ∀ p ∈ l, p.1 = g → p.2 = v) (hex : (∃ p ∈ l, p.1 = g) ∨ fld g x = v) :
    fld g (setFlds l x) = v := by
  rw [fld_setFlds l g x hwf hr]
  exact lastSet_eq hv hall hex

/-! ## Writes that change nothing -/

/-- What a key holds, written to it. -/
theorem sset_sget {β : Type} [DecidableEq β] {d : Nat → β} {k : Nat} {lo : Option Nat} {l : List (Nat × β)}
    (h : swfFrom d lo l = true) : sset d k (sget d k l) l = l := by
  induction l generalizing lo with
  | nil => simp [sset, sget]
  | cons p l ih =>
    obtain ⟨a, w⟩ := p
    simp only [swfFrom, Bool.and_eq_true, decide_eq_true_eq] at h
    obtain ⟨⟨-, hw⟩, hl⟩ := h
    rcases Nat.lt_trichotomy k a with hlt | rfl | hgt
    · have hk : sget d k l = d k := swfFrom_lt d hl hlt.le
      simp only [sset, sget, if_neg hlt.ne', hk, if_pos hlt, if_true]
    · simp only [sset, sget, Nat.lt_irrefl, if_false, if_true, if_neg hw]
    · simp only [sset, sget, if_neg hgt.ne, if_neg (Nat.lt_asymm hgt), if_neg hgt.ne', ih hl]

/-- A field's own bits put back. -/
theorem Field.put_own (f : Field) (w : Word) : f.put (f.of w) w = w := by
  apply BitVec.eq_of_toNat_eq
  have hsplit : w.toNat % 2 ^ f.lo + w.toNat / 2 ^ f.lo % 2 ^ f.width * 2 ^ f.lo
      + w.toNat / 2 ^ (f.lo + f.width) * 2 ^ (f.lo + f.width) = w.toNat := by
    have h1 := Nat.mod_add_div w.toNat (2 ^ f.lo)
    have h2 := Nat.mod_add_div (w.toNat / 2 ^ f.lo) (2 ^ f.width)
    rw [Nat.div_div_eq_div_mul, ← pow_add] at h2
    calc _ = w.toNat % 2 ^ f.lo + 2 ^ f.lo * (w.toNat / 2 ^ f.lo % 2 ^ f.width
          + 2 ^ f.width * (w.toNat / 2 ^ (f.lo + f.width))) := by ring
      _ = w.toNat := by rw [h2, h1]
  simp only [Field.put, Field.of, Nat.mod_mod, hsplit, BitVec.toNat_ofNat]
  exact Nat.mod_eq_of_lt w.isLt

/-- A counter to which nothing is added. -/
theorem addFld_zero (f : Field) (hwf : Regs.wf x = true) : addFld f 0 x = x := by
  have hsat : f.put (sat f.width (fld f x + 0)) (regGet f.off x) = regGet f.off x := by
    rw [Nat.add_zero, ← fld_sat_self]
    exact f.put_own _
  rw [addFld, setFld, hsat, regSet, regGet, sset_sget hwf]

end

end Sys2Proof.Machine
end

section
/-! SUPPORT. The results that LF channels show. -/
namespace Sys2Proof.Machine

section
variable {s x y : State} {t : Nat} {hot : Bool} {rings : List RingRec} {ms : List SenseMeas}

/-! ## Ring-downs -/

/-- The fields that a ring-down's record sets (R149). -/
def ringFlds (r : RingRec) : List (Field × Nat) :=
  [(LFE_CHn_STAT.RESULT r.node, r.result), (LFE_CHn_STAT.Q r.node, r.q), (LFE_CHn_STAT.FRES r.node, r.fres)]

/-- The flag of saturated samples. -/
def satFlds (hot : Bool) : List (Field × Nat) := if hot then [(LFE_STATUS.SAT_SEEN, 1)] else []

/-- All that a round's records set. -/
def ringNotes (hot : Bool) (rings : List RingRec) : List (Field × Nat) := rings.flatMap ringFlds ++ satFlds hot

theorem noteSat_eq (hot : Bool) (x : State) : noteSat hot x = setFlds (satFlds hot) x := by
  cases hot <;> rfl

theorem noteRings_eq (hot : Bool) (rings : List RingRec) (x : State) :
    noteSat hot (rings.foldl (fun s r => noteRing r s) x) = setFlds (ringNotes hot rings) x := by
  rw [ringNotes, setFlds_append, noteSat_eq]
  congr 1
  induction rings generalizing x with
  | nil => rfl
  | cons r rings ih =>
    rw [List.flatMap_cons, setFlds_append]
    exact ih _

/-- The records fit their registers, and a channel has one. -/
structure RingsFit (rings : List RingRec) : Prop where
  fits : ∀ a ∈ rings, a.result < 8 ∧ a.fres < 16384 ∧ a.q < 256
  one : ∀ a ∈ rings, ∀ b ∈ rings, a.node = b.node → a = b

theorem ringRecs_fit (l : List Nat) (f k : Nat → Nat) (m : List RingMeas) (s : State) :
    RingsFit (l.map (fun c => ringRec c (f c) (k c) (ringOf m c) s)) := by
  constructor
  · intro a ha
    obtain ⟨c, -, rfl⟩ := List.mem_map.mp ha
    refine ⟨?_, ?_, ?_⟩
    · simp only [ringRec, RingFit.cls]
      split <;> [decide; skip]
      split <;> [decide; skip]
      split <;> [decide; skip]
      split <;> [decide; skip]
      split <;> decide
    · simp only [ringRec, RingFit.fres]
      split
      · split <;> omega
      · decide
    · simp only [ringRec, RingFit.qByte]
      split
      · split
        · decide
        · split <;> omega
      · decide
  · intro a ha b hb hab
    obtain ⟨c, -, rfl⟩ := List.mem_map.mp ha
    obtain ⟨c', -, rfl⟩ := List.mem_map.mp hb
    obtain rfl : c = c' := hab
    rfl

theorem ringNotes_offs (hot : Bool) (rings : List RingRec) : (ringNotes hot rings).all (fun p =>
    (LFE_STATUS.reg :: rings.map (fun r => LFE_CHn_STAT.reg r.node)).contains p.1.off) = true := by
  rw [List.all_eq_true]
  intro p hp
  rcases List.mem_append.mp hp with hp | hp
  · obtain ⟨r, hr, hp⟩ := List.mem_flatMap.mp hp
    have hoff : p.1.off = LFE_CHn_STAT.reg r.node := by
      simp only [ringFlds, List.mem_cons, List.not_mem_nil, or_false] at hp
      rcases hp with rfl | rfl | rfl <;> rfl
    rw [List.contains_iff_mem, hoff]
    exact List.mem_cons_of_mem _ (List.mem_map_of_mem hr)
  · cases hot
    · exact absurd hp (by simp [satFlds])
    · obtain rfl : p = (LFE_STATUS.SAT_SEEN, 1) := by simpa [satFlds] using hp
      rfl

/-- A field of a channel's results. -/
def isChanStat (g : Field) : Prop := ∃ n, g = LFE_CHn_STAT.RESULT n ∨ g = LFE_CHn_STAT.Q n ∨ g = LFE_CHn_STAT.FRES n ∨
  g = LFE_CHn_STAT.FF n

/-- Two of them are the same or apart. -/
theorem chanStat_apart {g f : Field} (hg : isChanStat g) (hf : isChanStat f) : (f.fits && (f == g || f.apart g)) = true := by
  obtain ⟨n, hg⟩ := hg
  obtain ⟨m, hf⟩ := hf
  rw [Bool.and_eq_true, Bool.or_eq_true, beq_iff_eq]
  constructor
  · rcases hf with rfl | rfl | rfl | rfl <;> rfl
  · by_cases hnm : n = m
    · subst hnm
      rcases hf with rfl | rfl | rfl | rfl <;> rcases hg with rfl | rfl | rfl | rfl <;>
        simp [Field.apart, LFE_CHn_STAT.RESULT, LFE_CHn_STAT.Q, LFE_CHn_STAT.FRES, LFE_CHn_STAT.FF]
    · right
      have h1 : g.off = 0x0C04 + 8 * n := by rcases hg with rfl | rfl | rfl | rfl <;> rfl
      have h2 : f.off = 0x0C04 + 8 * m := by rcases hf with rfl | rfl | rfl | rfl <;> rfl
      have hne : f.off ≠ g.off := by omega
      simp [Field.apart, hne]

/-- A status flag is apart from them. -/
theorem status_apart {g f : Field} (hg : isChanStat g) (hf : f.fits = true) (ho : f.off = LFE_STATUS.reg) :
    (f.fits && (f == g || f.apart g)) = true := by
  obtain ⟨n, hg⟩ := hg
  have h1 : g.off = 0x0C04 + 8 * n := by rcases hg with rfl | rfl | rfl | rfl <;> rfl
  have hne : f.off ≠ g.off := by
    rw [h1, ho, LFE_STATUS.reg]
    omega
  simp [hf, Field.apart, hne]

theorem satFlds_readable {g : Field} (hg : isChanStat g) (hot : Bool) : readable g (satFlds hot) = true := by
  cases hot
  · rfl
  · rw [readable, satFlds, if_pos rfl, List.all_cons, List.all_nil, Bool.and_true]
    exact status_apart hg rfl rfl

theorem satFlds_ne {g : Field} (hg : isChanStat g) {p : Field × Nat} (hp : p ∈ satFlds hot) : p.1 ≠ g := by
  obtain ⟨n, hg⟩ := hg
  cases hot
  · exact absurd hp (by simp [satFlds])
  · obtain rfl : p = (LFE_STATUS.SAT_SEEN, 1) := by simpa [satFlds] using hp
    have h1 : g.off = 0x0C04 + 8 * n := by rcases hg with rfl | rfl | rfl | rfl <;> rfl
    intro he
    have h2 : LFE_STATUS.SAT_SEEN.off = g.off := congrArg Field.off he
    rw [h1, show LFE_STATUS.SAT_SEEN.off = 0x0804 from rfl] at h2
    omega

theorem ringNotes_readable {g : Field} (hg : isChanStat g) (hot : Bool) (rings : List RingRec) :
    readable g (ringNotes hot rings) = true := by
  rw [readable, ringNotes, List.all_append, Bool.and_eq_true]
  refine ⟨List.all_eq_true.mpr fun p hp => ?_, satFlds_readable hg hot⟩
  obtain ⟨r, -, hp⟩ := List.mem_flatMap.mp hp
  refine chanStat_apart hg ⟨r.node, ?_⟩
  simp only [ringFlds, List.mem_cons, List.not_mem_nil, or_false] at hp
  rcases hp with rfl | rfl | rfl <;> simp

/-- A channel reads as its record (R149). -/
theorem ringNotes_fld (hfit : RingsFit rings) (hwf : Regs.wf x = true) {r : RingRec} (hr : r ∈ rings) :
    fld (LFE_CHn_STAT.RESULT r.node) (setFlds (ringNotes hot rings) x) = r.result ∧
      fld (LFE_CHn_STAT.FRES r.node) (setFlds (ringNotes hot rings) x) = r.fres ∧
      fld (LFE_CHn_STAT.Q r.node) (setFlds (ringNotes hot rings) x) = r.q := by
  obtain ⟨h1, h2, h3⟩ := hfit.fits r hr
  have hread : ∀ g v, isChanStat g → v < 2 ^ g.width → (g, v) ∈ ringFlds r →
      (∀ r' ∈ rings, ∀ p ∈ ringFlds r', p.1 = g → r'.node = r.node ∧ (r' = r → p.2 = v)) →
      fld g (setFlds (ringNotes hot rings) x) = v := by
    intro g v hg hv hin hsame
    refine fld_setFlds_eq hwf (ringNotes_readable hg hot rings) hv (fun p hp hpg => ?_)
      (.inl ⟨(g, v), List.mem_append_left _ (List.mem_flatMap.mpr ⟨r, hr, hin⟩), rfl⟩)
    rcases List.mem_append.mp hp with hp | hp
    · obtain ⟨r', hr', hp⟩ := List.mem_flatMap.mp hp
      obtain ⟨hnode, hval⟩ := hsame r' hr' p hp hpg
      exact hval (hfit.one r' hr' r hr hnode)
    · exact absurd hpg (satFlds_ne hg hp)
  have hcase : ∀ {r' : RingRec} {p : Field × Nat}, p ∈ ringFlds r' → p = (LFE_CHn_STAT.RESULT r'.node, r'.result) ∨
      p = (LFE_CHn_STAT.Q r'.node, r'.q) ∨ p = (LFE_CHn_STAT.FRES r'.node, r'.fres) := fun hp => by
    simpa only [ringFlds, List.mem_cons, List.not_mem_nil, or_false] using hp
  refine ⟨hread _ _ ⟨r.node, by simp⟩ h1 (by simp [ringFlds]) ?_, hread _ _ ⟨r.node, by simp⟩ h2 (by simp [ringFlds]) ?_,
    hread _ _ ⟨r.node, by simp⟩ h3 (by simp [ringFlds]) ?_⟩
  all_goals
    intro r' _ p hp hpg
    rcases hcase hp with rfl | rfl | rfl
    all_goals
      simp only [LFE_CHn_STAT.RESULT, LFE_CHn_STAT.Q, LFE_CHn_STAT.FRES, Field.mk.injEq] at hpg
      exact ⟨by omega, fun he => by subst he; simp_all⟩

/-! ## Foreign fields -/

/-- The flags that a sensed window's channels take (R153). -/
def flagFlds (v : Nat) (ms : List SenseMeas) : List (Field × Nat) := ms.map (fun m => (LFE_CHn_STAT.FF m.ch, v))

theorem clearFf_eq (ms : List SenseMeas) (x : State) :
    clearFf ms x = setFlds (flagFlds 0 (ms.filter (fun m => !overThr x m))) x := by
  rw [clearFf, setFlds, flagFlds, List.foldl_map]

theorem flagFlds_readable {g : Field} (hg : isChanStat g) (v : Nat) (ms : List SenseMeas) :
    readable g (flagFlds v ms) = true := by
  rw [readable, List.all_eq_true]
  intro p hp
  obtain ⟨m, -, rfl⟩ := List.mem_map.mp hp
  exact chanStat_apart hg ⟨m.ch, by simp⟩

theorem flagFlds_offs {offs : List Nat} {v : Nat} (h : ∀ m ∈ ms, LFE_CHn_STAT.reg m.ch ∈ offs) :
    (flagFlds v ms).all (fun p => offs.contains p.1.off) = true := by
  rw [List.all_eq_true]
  intro p hp
  obtain ⟨m, hm, rfl⟩ := List.mem_map.mp hp
  exact List.contains_iff_mem.mpr (h m hm)

theorem mem_flagFlds {v c : Nat} {p : Field × Nat} (hp : p ∈ flagFlds v ms) (hc : p.1 = LFE_CHn_STAT.FF c) :
    ∃ m ∈ ms, m.ch = c ∧ p.2 = v := by
  obtain ⟨m, hm, rfl⟩ := List.mem_map.mp hp
  simp only [LFE_CHn_STAT.FF, Field.mk.injEq] at hc
  exact ⟨m, hm, by omega, rfl⟩

/-- A channel is sensed once. -/
def SensedOnce (ms : List SenseMeas) : Prop := ∀ a ∈ ms, ∀ b ∈ ms, a.ch = b.ch → a = b

theorem senseOf_ch (m : List SenseMeas) (c : Nat) : (senseOf m c).ch = c := by
  unfold senseOf
  cases h : m.find? (fun x => x.ch = c) with
  | none => rfl
  | some x => simpa using List.find?_some h

theorem senseOf_once (m : List SenseMeas) (l : List Nat) : SensedOnce (l.map (senseOf m)) := by
  intro a ha b hb hab
  obtain ⟨c, -, rfl⟩ := List.mem_map.mp ha
  obtain ⟨c', -, rfl⟩ := List.mem_map.mp hb
  rw [senseOf_ch, senseOf_ch] at hab
  rw [hab]

end

end Sys2Proof.Machine
end

section
/-! SUPPORT. A poll's drive sequence, its foreign-field window and its response window. -/
namespace Sys2Proof.Machine

section
variable {s x y : State} {t : Nat} {r : LfRun} {p : Poll}

/-! ## The end of a drive sequence -/

/-- A poll runs on a live device. -/
structure PollRuns (s : State) (r : LfRun) : Prop where
  live : live s = true
  mem : memorySafe s
  run : s.lf.run = some r
  kind : r.req.kind = .poll

theorem ringRec_elapse (c f k t : Nat) (m : RingMeas) (s : State) : ringRec c f k m (elapse t s) = ringRec c f k m s := by
  simp only [ringRec, netOf, elapse_fld, elapse_flag]
  rfl

theorem lfFreq_elapse (c t : Nat) (s : State) : lfFreq c (elapse t s) = lfFreq c s := by
  simp only [lfFreq, elapse_fld]

theorem pollRings_elapse (r : LfRun) (m : List RingMeas) (t : Nat) (s : State) :
    pollRings r m (elapse t s) = pollRings r m s := by
  simp only [pollRings, ringOn, adcShare, netOf, lfFreq_elapse, ringRec_elapse, elapse_flag]
  rfl

theorem pollRings_fit (r : LfRun) (m : List RingMeas) (s : State) : RingsFit (pollRings r m s) := by
  unfold pollRings
  dsimp only
  split
  · exact ringRecs_fit _ (fun c => lfFreq c s) (fun c => adcShare _ c s) m s
  · exact ⟨fun a ha => absurd ha (by simp), fun a ha => absurd ha (by simp)⟩

/-- Registers set in a row at the end of a command. -/
theorem flagged_settles {l : List (Field × Nat)} {offs : List Nat} (hl : live s = true) (hlgr : y.lgr = s.lgr)
    (hfold : y.fold = s.fold) (hregs : y.regs = (elapse t s).regs) (hpart : y.part = (elapse t s).part)
    (ho : l.all (fun p => offs.contains p.1.off) = true) :
    settles { y with regs := (finish (setFlds l y)).regs } (finish (setFlds l y)) ∧
      keepsRegs offs s (finish (setFlds l y)) ∧ ∀ f, fld f (finish (setFlds l y)) = fld f (setFlds l y) := by
  have hk : RegsKept offs (elapse t s) y := .of_eq _ hregs hpart
  exact framed_settles (t := t) hl hlgr hfold (setFlds_regs l y) (hk.trans (.setFlds l y ho))

/-- A poll's drive phase ends with its last chip (R51). -/
theorem drivePhase_ends {q : BitVec 4} {a e : Nat} (hrun : x.lf.run = some r) (hk : r.req.kind = .poll)
    (hp : drivePhase x = some (q, a, e)) : e = r.seq + driveTicks r.f := by
  unfold drivePhase at hp
  rw [hrun] at hp
  dsimp only at hp
  rw [hk] at hp
  dsimp only at hp
  split at hp
  · exact absurd hp (by simp)
  · simp only [Option.some.injEq, Prod.mk.injEq] at hp
    exact hp.2.2.symm

/-- DRIVE_SEQUENCE_END (R51, R150). -/
theorem PollRuns.driveEnds (h : PollRuns s r) (m : List RingMeas) (hphase : r.phase = .drive)
    (hdue : r.seq + driveTicks r.f ≤ now (elapse t s)) : let rings := pollRings r m s
    ∃ (r1 : LfRun) (s' : State), exec (.driveSequenceEnd t m) s = .next s' ∧
      r1.phase = .sense ∧ r1.req = r.req ∧ r1.seq = r.seq ∧ r1.map = r.map ∧ r1.ff = r.ff ∧
      r1.ringBad = (r.ringBad || rings.any (fun x => x.result ≠ 1)) ∧
      s'.pins.drive = 0 ∧ s'.pins.bridge = 0 ∧
      settles { elapse t s with lf := { s.lf with run := some r1 }, regs := s'.regs } s' ∧
      (∀ x ∈ rings, fld (LFE_CHn_STAT.RESULT x.node) s' = x.result ∧ fld (LFE_CHn_STAT.FRES x.node) s' = x.fres ∧
        fld (LFE_CHn_STAT.Q x.node) s' = x.q) ∧
      keepsRegs (LFE_STATUS.reg :: rings.map (fun x => LFE_CHn_STAT.reg x.node)) s s' := by
  intro rings
  let hot : Bool := rings.any (fun x => x.sat > 0)
  let r1 : LfRun := { r with
    phase := .sense, ringBad := r.ringBad || rings.any (fun x => x.result ≠ 1), satur := r.satur || hot }
  let y : State := { elapse t s with lf := { s.lf with run := some r1 } }
  have hrun : exec (.driveSequenceEnd t m) s = .next (finish (setFlds (ringNotes hot rings) y)) := by
    refine (command_live t _ s h.live).trans ?_
    rw [driveEnd, elapse_lf, h.run]
    dsimp only
    rw [onlyIf, if_pos (by simp [h.kind, hphase, hdue]), pollRings_elapse, elapse_lf, noteRings_eq]
  have hlgr : y.lgr = s.lgr := elapse_lgr t s
  have hfold : y.fold = s.fold := elapse_fold t s
  obtain ⟨h1, h2, h3⟩ := flagged_settles (t := t) (y := y) h.live hlgr hfold rfl rfl (ringNotes_offs hot rings)
  obtain ⟨hh, hw, hq⟩ := live_hostWait (x := setFlds (ringNotes hot rings) y) h.live
    (by rw [setFlds_regs]; exact hlgr) (by rw [setFlds_regs]; exact hfold)
  have hlf : (setFlds (ringNotes hot rings) y).lf.run = some r1 := by rw [setFlds_regs]
  have hnow : now (setFlds (ringNotes hot rings) y) = now (elapse t s) := by
    rw [setFlds_regs]
    rfl
  obtain ⟨hdrive, hbridge⟩ := finish_drives_nothing hh hw hq (fun q a e hp => .inr (by
    rw [hnow, drivePhase_ends hlf h.kind hp]
    exact hdue))
  have hwf : Regs.wf y = true := memorySafe_elapse_wf h.mem t
  refine ⟨r1, _, hrun, rfl, rfl, rfl, rfl, rfl, rfl, hdrive, hbridge, h1, fun a ha => ?_, h2⟩
  rw [h3, h3, h3]
  exact ringNotes_fld (x := y) (hot := hot) (rings := rings) (pollRings_fit r m s) hwf ha

/-! ## The foreign-field window -/

theorem setFlds_withLf (l : List (Field × Nat)) (v : Lf) (x : State) :
    setFlds l { x with lf := v } = { setFlds l x with lf := v } := by
  induction l generalizing x with
  | nil => rfl
  | cons p l ih => exact ih (setFld p.1 p.2 x)

theorem overThr_elapse (t : Nat) (s : State) : overThr (elapse t s) = overThr s := by
  funext m
  simp only [overThr, elapse_fld]

theorem ffOn_elapse (r : LfRun) (t : Nat) (s : State) : ffOn r (elapse t s) = ffOn r s := by
  simp only [ffOn, elapse_flag]

theorem ffChans_elapse (r : LfRun) (t : Nat) (s : State) : ffChans r (elapse t s) = ffChans r s := by
  simp only [ffChans, elapse_flag]

/-- The poll's foreign-field window has ended (R152). -/
structure FfEnds (t : Nat) (s : State) (r : LfRun) : Prop extends PollRuns s r where
  phase : r.phase = .sense
  fresh : r.sensed = false
  on : ffOn r s = true
  due : r.seq + driveTicks r.f + 384 * (fld LFE_SENSE.FF_DELAY s + fld LFE_SENSE.FF_WIN s) ≤ now (elapse t s)

/-- Its measurements are evaluated (R153). -/
theorem FfEnds.runs (h : FfEnds t s r) (m : List SenseMeas) :
    let ms := (ffChans r s).map (senseOf m)
    let hot := ms.filter (overThr s)
    let wet := ms.any (·.sat)
    let r1 := { r with sensed := true, ff := r.ff || !hot.isEmpty, satur := r.satur || wet }
    exec (.foreignFieldWindowEnd t m) s = .next (finish (foreignSeen hot 0 (flag LFE_SENSE.FF_BAND s)
      (setFlds (flagFlds 0 (ms.filter (fun x => !overThr s x)) ++ satFlds wet)
        { elapse t s with lf := { s.lf with run := some r1 } }))) := by
  intro ms hot wet r1
  have hdue := h.due
  refine (command_live t _ s h.live).trans ?_
  rw [ffEnd, elapse_lf, h.run]
  dsimp only
  rw [onlyIf, if_pos (by simp [h.kind, h.phase, h.fresh, ffOn_elapse, h.on, hdue]), ffChans_elapse, overThr_elapse, elapse_flag,
    elapse_lf, clearFf_eq, noteSat_eq, ← setFlds_append]
  rw [show ∀ v : Lf, overThr { elapse t s with lf := v } = overThr s from fun _ => overThr_elapse t s]

theorem foreignSeen_none (source : Nat) (band : Bool) (x : State) :
    foreignSeen [] source band x = { x with lf := { x.lf with ffRec := none } } := rfl

/-- No field is over the threshold. -/
theorem FfEnds.clears (h : FfEnds t s r) (m : List SenseMeas) : let ms := (ffChans r s).map (senseOf m)
    ms.all (fun x => !overThr s x) = true → ∃ s', exec (.foreignFieldWindowEnd t m) s = .next s' ∧
      settles { elapse t s with
        lf := { s.lf with run := some { r with sensed := true }, ffRec := none }, regs := s'.regs } s' ∧
      (∀ x ∈ ms, fld (LFE_CHn_STAT.FF x.ch) s' = 0) ∧ keepsRegs (ms.map (fun x => LFE_CHn_STAT.reg x.ch)) s s' := by
  intro ms hall
  have hrun := h.runs m
  dsimp only at hrun
  have hquiet : ∀ x ∈ ms, overThr s x = false := fun x hx => by simpa using List.all_eq_true.mp hall x hx
  have hhot : ms.filter (overThr s) = [] := List.filter_eq_nil_iff.mpr fun x hx => by simp [hquiet x hx]
  have hcold : ms.filter (fun x => !overThr s x) = ms := List.filter_eq_self.mpr fun x hx => by simp [hquiet x hx]
  have hdry : ms.any (·.sat) = false := by
    rw [List.any_eq_false]
    intro x hx
    have := hquiet x hx
    simp only [overThr, Bool.or_eq_false_iff] at this
    simp [this.1]
  rw [show (ffChans r s).map (senseOf m) = ms from rfl, hhot, hcold, hdry, foreignSeen_none, satFlds, if_neg (by decide),
    List.append_nil, setFlds_withLf] at hrun
  let y : State := { elapse t s with lf := { s.lf with run := some { r with sensed := true }, ffRec := none } }
  have hlast : exec (.foreignFieldWindowEnd t m) s = .next (finish (setFlds (flagFlds 0 ms) y)) := by
    rw [hrun]
    simp only [y, setFlds_withLf, List.isEmpty_nil, Bool.not_true, Bool.or_false]
  obtain ⟨h1, h2, h3⟩ := flagged_settles (t := t) (y := y) h.live (elapse_lgr t s) (elapse_fold t s) rfl rfl
    (flagFlds_offs (v := 0) (ms := ms) (offs := ms.map (fun x => LFE_CHn_STAT.reg x.ch)) fun x hx => List.mem_map_of_mem hx)
  have hwf : Regs.wf y = true := memorySafe_elapse_wf h.mem t
  refine ⟨_, hlast, h1, fun x hx => ?_, h2⟩
  rw [h3]
  exact fld_setFlds_eq hwf (flagFlds_readable ⟨x.ch, by simp⟩ 0 ms) Nat.zero_lt_two
    (fun p hp hc => (mem_flagFlds hp hc).elim fun _ h => h.2.2) (.inl ⟨_, List.mem_map_of_mem hx, rfl⟩)

/-- The strongest of some measurements. -/
theorem strongest_some {l : List SenseMeas} (h : l ≠ []) : ∃ m, strongest l = some m := by
  have hfold : ∀ (l : List SenseMeas) (b : SenseMeas), ∃ m, l.foldl (fun b m =>
      match b with
      | none => some m
      | some x => if effPeak m > effPeak x then some m else some x) (some b) = some m := by
    intro l
    induction l with
    | nil => exact fun b => ⟨b, rfl⟩
    | cons a l ih =>
      intro b
      rw [List.foldl_cons]
      dsimp only
      split
      · exact ih a
      · exact ih b
  cases l with
  | nil => exact absurd rfl h
  | cons a l => exact hfold l a

/-- Foreign fields that last, without their event (R153). -/
theorem foreignSeen_again {hot : List SenseMeas} {source : Nat} {band : Bool} (hhot : hot ≠ [])
    (hevt : flag LFE_CTL.FF_EVT x = false) (hrec : x.lf.ffRec.any (fun a => decide (now x < a + secTicks 10)) = true) :
    foreignSeen hot source band x = setFlds ((LFE_STATUS.FF_SEEN, 1) :: flagFlds 1 hot) x := by
  obtain ⟨m, hm⟩ := strongest_some hhot
  have hset : hot.foldl (fun s v => setFld (LFE_CHn_STAT.FF v.ch) 1 s) (setFld LFE_STATUS.FF_SEEN 1 x) =
      setFlds ((LFE_STATUS.FF_SEEN, 1) :: flagFlds 1 hot) x := by
    rw [setFlds, List.foldl_cons, flagFlds, List.foldl_map]
  have hoffs : ((LFE_STATUS.FF_SEEN, 1) :: flagFlds 1 hot).all
      (fun p => (LFE_STATUS.reg :: hot.map (fun v => LFE_CHn_STAT.reg v.ch)).contains p.1.off) = true := by
    rw [List.all_cons, Bool.and_eq_true]
    exact ⟨rfl, flagFlds_offs fun v hv => List.mem_cons_of_mem _ (List.mem_map_of_mem hv)⟩
  have hctl : LFE_CTL.FF_EVT.off ∉ LFE_STATUS.reg :: hot.map (fun v => LFE_CHn_STAT.reg v.ch) := by
    simp only [List.mem_cons, List.mem_map, not_or, not_exists, not_and]
    refine ⟨by decide, fun v _ he => ?_⟩
    simp only [LFE_CHn_STAT.reg, LFE_CTL.FF_EVT] at he
    omega
  have hflag : flag LFE_CTL.FF_EVT (setFlds ((LFE_STATUS.FF_SEEN, 1) :: flagFlds 1 hot) x) = false := by
    rw [flag, (RegsKept.setFlds _ x hoffs).fld _ hctl]
    exact hevt
  unfold foreignSeen
  rw [hm]
  dsimp only
  rw [hset, hflag]
  simp only [Bool.false_eq_true, if_false]
  cases hr : x.lf.ffRec with
  | none =>
    rw [hr] at hrec
    exact absurd hrec Bool.false_ne_true
  | some a =>
    rw [hr, Option.any_some] at hrec
    have hlf : (setFlds ((LFE_STATUS.FF_SEEN, 1) :: flagFlds 1 hot) x).lf.ffRec = some a := by
      rw [setFlds_regs]
      exact hr
    have hnow : now (setFlds ((LFE_STATUS.FF_SEEN, 1) :: flagFlds 1 hot) x) = now x := by
      rw [setFlds_regs]
      rfl
    rw [hlf, hnow]
    exact if_pos hrec

/-- Some field is. -/
theorem FfEnds.sees (h : FfEnds t s r) (m : List SenseMeas) : let ms := (ffChans r s).map (senseOf m)
    ms.any (overThr s) = true → flag LFE_CTL.FF_EVT s = false →
      (s.lf.ffRec.any (fun x => decide (now (elapse t s) < x + secTicks 10))) = true →
      ∃ (r1 : LfRun) (s' : State), exec (.foreignFieldWindowEnd t m) s = .next s' ∧
        r1.ff = true ∧ r1.sensed = true ∧ r1.req = r.req ∧ r1.seq = r.seq ∧
        settles { elapse t s with lf := { s.lf with run := some r1 }, regs := s'.regs } s' ∧
        (∀ x ∈ ms, fld (LFE_CHn_STAT.FF x.ch) s' = b2n (overThr s x)) ∧ fld LFE_STATUS.FF_SEEN s' = 1 ∧
        keepsRegs (LFE_STATUS.reg :: ms.map (fun x => LFE_CHn_STAT.reg x.ch)) s s' := by
  intro ms hany hevt hrec
  have hrun := h.runs m
  dsimp only at hrun
  rw [show (ffChans r s).map (senseOf m) = ms from rfl] at hrun
  have hhot : ms.filter (overThr s) ≠ [] := by
    obtain ⟨v, hv, hov⟩ := List.any_eq_true.mp hany
    exact List.ne_nil_of_mem (List.mem_filter.mpr ⟨hv, hov⟩)
  have hempty : (ms.filter (overThr s)).isEmpty = false := by simpa using hhot
  rw [hempty, Bool.not_false, Bool.or_true] at hrun
  let r1 : LfRun := { r with sensed := true, ff := true, satur := r.satur || ms.any (·.sat) }
  let y : State := { elapse t s with lf := { s.lf with run := some r1 } }
  let l0 : List (Field × Nat) := flagFlds 0 (ms.filter (fun x => !overThr s x)) ++ satFlds (ms.any (·.sat))
  let l1 : List (Field × Nat) := (LFE_STATUS.FF_SEEN, 1) :: flagFlds 1 (ms.filter (overThr s))
  let offs : List Nat := LFE_STATUS.reg :: ms.map (fun x => LFE_CHn_STAT.reg x.ch)
  have hsub : ∀ q : SenseMeas → Bool, ∀ v ∈ ms.filter q, LFE_CHn_STAT.reg v.ch ∈ offs := fun q v hv =>
    List.mem_cons_of_mem _ (List.mem_map_of_mem (List.mem_filter.mp hv).1)
  have hsat : (satFlds (ms.any (·.sat))).all (fun p => offs.contains p.1.off) = true := by
    cases ms.any (·.sat)
    · rfl
    · rfl
  have ho0 : l0.all (fun p => offs.contains p.1.off) = true := by
    rw [List.all_append, Bool.and_eq_true]
    exact ⟨flagFlds_offs (hsub _), hsat⟩
  have ho1 : l1.all (fun p => offs.contains p.1.off) = true := by
    rw [List.all_cons, Bool.and_eq_true]
    exact ⟨rfl, flagFlds_offs (hsub _)⟩
  have hctl : LFE_CTL.FF_EVT.off ∉ offs := by
    simp only [offs, List.mem_cons, List.mem_map, not_or, not_exists, not_and]
    refine ⟨by decide, fun v _ he => ?_⟩
    simp only [LFE_CHn_STAT.reg, LFE_CTL.FF_EVT] at he
    omega
  have hflag : flag LFE_CTL.FF_EVT (setFlds l0 y) = false := by
    rw [flag, (RegsKept.setFlds l0 y ho0).fld _ hctl]
    exact (congrArg (· == 1) (elapse_fld LFE_CTL.FF_EVT t s)).trans hevt
  have hlast : exec (.foreignFieldWindowEnd t m) s = .next (finish (setFlds (l0 ++ l1) y)) := by
    rw [hrun, setFlds_append l0 l1]
    refine congrArg (fun z => Host.Outcome.next (finish z)) (foreignSeen_again hhot hflag ?_)
    rw [setFlds_regs]
    exact hrec
  obtain ⟨h1, h2, h3⟩ := flagged_settles (t := t) (y := y) (l := l0 ++ l1) (offs := offs) h.live (elapse_lgr t s)
    (elapse_fold t s) rfl rfl (by rw [List.all_append, ho0, ho1]; rfl)
  have hwf : Regs.wf y = true := memorySafe_elapse_wf h.mem t
  have hread : ∀ {g : Field}, isChanStat g → readable g (l0 ++ l1) = true := fun hg => by
    have h0 := flagFlds_readable hg 0 (ms.filter (fun x => !overThr s x))
    have h1 := flagFlds_readable hg 1 (ms.filter (overThr s))
    have h2 := satFlds_readable hg (ms.any (·.sat))
    simp only [readable, List.all_append, List.all_cons, l0, l1, Bool.and_eq_true] at h0 h1 h2 ⊢
    exact ⟨⟨h0, h2⟩, by simpa using status_apart hg (f := LFE_STATUS.FF_SEEN) rfl rfl, h1⟩
  refine ⟨r1, _, hlast, rfl, rfl, rfl, rfl, h1, fun x hx => ?_, ?_, h2⟩
  · have honce := senseOf_once m (ffChans r s)
    have hg : isChanStat (LFE_CHn_STAT.FF x.ch) := ⟨x.ch, by simp⟩
    have hb : b2n (overThr s x) < 2 ^ (LFE_CHn_STAT.FF x.ch).width := by
      cases overThr s x
      · exact Nat.zero_lt_two
      · exact Nat.one_lt_two
    rw [h3]
    refine fld_setFlds_eq hwf (hread hg) hb (fun p hp hc => ?_) (.inl ?_)
    · simp only [l0, l1, List.append_assoc, List.mem_append, List.mem_cons] at hp
      rcases hp with hp | hp | rfl | hp
      · obtain ⟨v, hv, hvc, hv0⟩ := mem_flagFlds hp hc
        obtain ⟨hv, hov⟩ := List.mem_filter.mp hv
        rw [hv0, ← honce v hv x hx hvc, show overThr s v = false by simpa using hov]
        rfl
      · exact absurd hc (satFlds_ne hg hp)
      · exact absurd (congrArg Field.off hc) (by
          show (0x0804 : Nat) ≠ 0x0C04 + 8 * x.ch
          omega)
      · obtain ⟨v, hv, hvc, hv1⟩ := mem_flagFlds hp hc
        obtain ⟨hv, hov⟩ := List.mem_filter.mp hv
        rw [hv1, ← honce v hv x hx hvc, hov]
        rfl
    · cases hov : overThr s x
      · exact ⟨_, List.mem_append_left _ (List.mem_append_left _ (List.mem_map_of_mem
          (List.mem_filter.mpr ⟨hx, by simp [hov]⟩))), rfl⟩
      · exact ⟨_, List.mem_append_right _ (List.mem_cons_of_mem _ (List.mem_map_of_mem (List.mem_filter.mpr ⟨hx, hov⟩))), rfl⟩
  · have hafter : LFE_STATUS.FF_SEEN.off ∉ (ms.filter (overThr s)).map (fun v => LFE_CHn_STAT.reg v.ch) := by
      simp only [List.mem_map, not_exists, not_and]
      intro v _ he
      simp only [LFE_CHn_STAT.reg, LFE_STATUS.FF_SEEN] at he
      omega
    have hkept : RegsKept ((ms.filter (overThr s)).map (fun v => LFE_CHn_STAT.reg v.ch))
        (setFld LFE_STATUS.FF_SEEN 1 (setFlds l0 y)) (setFlds (l0 ++ l1) y) := by
      rw [setFlds_append l0 l1]
      exact .setFlds _ _ (flagFlds_offs fun v hv => List.mem_map_of_mem (f := fun v : SenseMeas => LFE_CHn_STAT.reg v.ch) hv)
    rw [h3, hkept.fld _ hafter]
    exact fld_setFld_same _ rfl 1 _ (setFlds_wf l0 y hwf)

/-! ## The response window opens -/

theorem resumeCoils_whole {w : Nat} {l : List CoilRun} (h : l.all (fun c => !c.cut) = true) : resumeCoils w l x = (l, x) := by
  induction l with
  | nil => rfl
  | cons c l ih =>
    rw [List.all_cons, Bool.and_eq_true, Bool.not_eq_true'] at h
    rw [resumeCoils, h.1, ih h.2]
    rfl

theorem spanOk_congr (h : ∀ f, fld f y = fld f x) : spanOk y = spanOk x := by
  simp only [spanOk, chFreq, h]

/-- RESPONSE_WINDOW_OPEN (R145). -/
theorem PollRuns.windowOpens (h : PollRuns s r) (hp : s.poll = some p) (hphase : r.phase = .sense)
    (hcoils : p.coils.all (fun c => !c.cut) = true) (hspan : spanOk s = true)
    (hdue : (windowOf r.seq r.f p.s).1 ≤ now (elapse t s)) :
    ∃ (p1 : Poll) (s' : State), exec (.responseWindowOpen t) s = .next s' ∧
      p1.window = some (windowOf r.seq r.f p.s).1 ∧ p1.collided = [] ∧ p1.synced = [] ∧ p1.ended = [] ∧
      p1.answers = p.answers ∧ p1.challenge = p.challenge ∧ p1.coils = p.coils ∧
      settles { elapse t s with
        lf := { s.lf with run := some { r with phase := .respond } }, poll := some p1
        uhf := { s.uhf with window := true } } s' := by
  let w : Nat := (windowOf r.seq r.f p.s).1
  let p1 : Poll := { p with
    window := some w, collided := [], synced := [], ended := [], paused := false, denied := false
    rxFrom := if coexOk 0 (elapse t s) then w else 2 ^ 64 }
  let y : State := { elapse t s with
    lf := { s.lf with run := some { r with phase := .respond } }, poll := some p1, uhf := { s.uhf with window := true } }
  have hrun : exec (.responseWindowOpen t) s = .next (finish y) := by
    refine (command_live t _ s h.live).trans ?_
    rw [windowOpen, elapse_lf, elapse_poll, h.run, hp]
    dsimp only
    rw [onlyIf, if_pos (by simp [h.kind, hphase, hdue]), resumeCoils_whole hcoils]
    dsimp only
    rw [elapse_lf, elapse_uhf]
    refine congrArg (fun z => Host.Outcome.next (finish z)) (if_pos ?_)
    rw [← hspan]
    exact spanOk_congr fun f => elapse_fld f t s
  exact ⟨p1, _, hrun, rfl, rfl, rfl, rfl, rfl, rfl, rfl, finish_settles_of s y h.live (elapse_lgr t s) (elapse_fold t s)⟩

end

end Sys2Proof.Machine
end

section
/-! SUPPORT. What a poll's start reads of the tree. -/
namespace Sys2Proof.Machine

section
variable {s x y : State} {t : Nat} {r : LfReq}

/-! ## The tree's state -/

/-- Two states with the same part, registers, folds and flock unit. -/
structure SameTree (y x : State) : Prop where
  part : y.part = x.part
  regs : y.regs = x.regs
  fold : y.fold = x.fold
  flk : y.flk = x.flk

theorem sameTree_elapse (v : Lf) (t : Nat) (s : State) : SameTree { elapse t s with lf := v } s :=
  ⟨elapse_part t s, elapse_regs t s, elapse_fold t s, elapse_flk t s⟩

namespace SameTree

theorem fld (h : SameTree y x) (f : Field) : fld f y = fld f x := by
  simp only [Machine.fld, regGet, h.part, h.regs]

theorem flag (h : SameTree y x) (f : Field) : flag f y = flag f x := by
  rw [Machine.flag, Machine.flag, h.fld]

theorem leafPresent (h : SameTree y x) (i : Nat) : leafPresent i y = leafPresent i x := by
  simp only [Machine.leafPresent, h.part]

theorem leafRetired (h : SameTree y x) (i : Nat) : leafRetired i y = leafRetired i x := by
  simp only [Machine.leafRetired, h.fold]

theorem anyPin (h : SameTree y x) (l : List Nat) : anyPin l y = anyPin l x := by
  simp only [Machine.anyPin, ownPin, h.flk]

theorem frameMap (h : SameTree y x) (t : Tree) (node : Nat) : frameMap t node y = frameMap t node x := by
  simp only [Machine.frameMap, listed, leafPinned, h.anyPin, h.leafPresent, h.leafRetired, h.flag, h.fld]

theorem nodePinned (h : SameTree y x) (t : Tree) (node : Nat) : nodePinned t node y = nodePinned t node x := by
  simp only [Machine.nodePinned, leafPinned, h.anyPin]

theorem reqExists (h : SameTree y x) (r : LfReq) : reqExists r y = reqExists r x := by
  simp only [Machine.reqExists, nodeExists, h.leafPresent, h.fold]

theorem listenChans (h : SameTree y x) (t : Tree) (node : Nat) : listenChans t node y = listenChans t node x := by
  simp only [Machine.listenChans, h.leafPresent, h.leafRetired, h.flag]

theorem heldByReset (h : SameTree y x) (r : LfReq) : heldByReset r y = heldByReset r x := by
  simp only [Machine.heldByReset, h.fold]

end SameTree

/-! ## The turn of the head of the queue -/

/-- Nothing is held. -/
theorem applyHeld_none (lo hi : Nat) (h : x.heldWr = []) : applyHeld lo hi x = x := by
  have hx : ({ x with heldWr := [] } : State) = x := by rw [← h]
  unfold applyHeld
  rw [h]
  exact hx

/-- The head of the queue comes to its turn (R142, R144). -/
structure TurnComes (t : Nat) (s : State) (r : LfReq) (rest : List LfReq) : Prop where
  running : running s = true
  mem : memorySafe s
  queue : s.lf.queue = r :: rest
  wait : s.lf.wait = []
  idle : s.lf.run = none
  held : s.heldWr = []
  ready : lfReady r (elapse t s) = true
  reset : heldByReset r s = false
  timely : r.askers.all (fun a => !tooLate (elapse t s) a) = true
  asked : r.desc = none → r.askers ≠ []
  due : ∀ d, r.desc = some d → hasAt d = true → d.atTb ≤ now (elapse t s)

/-- The state in which it starts. -/
def atTurn (t : Nat) (s : State) (rest : List LfReq) : State := { elapse t s with lf := { s.lf with queue := rest } }

theorem TurnComes.live {rest : List LfReq} (h : TurnComes t s r rest) : live s = true :=
  ((Bool.and_eq_true _ _).mp h.running).1

theorem TurnComes.starts {rest : List LfReq} (h : TurnComes t s r rest) :
    exec (.pollStart t) s = .next (finish (startOp r (atTurn t s rest))) := by
  have hwf : Regs.wf (atTurn t s rest) = true := memorySafe_elapse_wf h.mem t
  have hadmit : admitWaiting (elapse t s).lf.wait { elapse t s with lf := { (elapse t s).lf with queue := rest } } =
      atTurn t s rest := by
    have hlf : ({ s.lf with queue := rest, wait := [] } : Lf) = { s.lf with queue := rest } := by rw [← h.wait]
    rw [elapse_lf, h.wait, admitWaiting, atTurn, ← hlf]
  have hlate : ∀ a ∈ r.askers, tooLate (atTurn t s rest) a = false := fun a ha => by
    have := List.all_eq_true.mp h.timely a ha
    exact Bool.not_eq_true'  _ ▸ this
  have hcount : r.askers.countP (tooLate (atTurn t s rest)) = 0 :=
    List.countP_eq_zero.mpr fun a ha => by simp [hlate a ha]
  have hdrop : dropLate (atTurn t s rest) r = r := by
    rw [dropLate, List.filter_eq_self.mpr fun a ha => by simp [hlate a ha]]
  have hasked : (r.desc.isNone && r.askers.isEmpty) = false := by
    cases hd : r.desc with
    | none => simpa using h.asked hd
    | some d => rfl
  refine (command_live t _ s h.live).trans ?_
  rw [pollStart, elapse_lf, h.queue]
  dsimp only
  rw [onlyIf, if_pos (by
    rw [h.ready, (sameTree_elapse (elapse t s).lf t s).heldByReset r, h.reset, show lfRuns (elapse t s) = false by
      simp [lfRuns, h.idle]]
    cases hd : r.desc with
    | none => rfl
    | some d =>
      have hdue := h.due d hd
      cases hat : hasAt d
      · simp [hat]
      · simp [hat, hdue hat])]
  rw [hadmit, hcount, addFld_zero _ hwf, hdrop, hasked]
  rfl

theorem startOp_exists {v : State} (hheld : v.heldWr = []) (hex : reqExists r v = true) (hk : r.kind = .poll) :
    ∃ late, startOp r v = startPoll r late v := by
  unfold startOp
  dsimp only
  rw [applyHeld_none 0x0800 0x0828 hheld, applyHeld_none 0x0C00 0x1000 hheld, if_neg (by rw [hex]; decide), hk]
  exact ⟨_, rfl⟩

/-! ## A poll with leaves to drive -/

/-- The operation drives (R145). -/
def drivingRun (r : LfReq) (late : Bool) (v : State) : LfRun :=
  freshRun r .drive (frameMap v.fold.live r.node v) [] (pollCoils v.fold.live r.node v) late v

/-- Its poll. -/
def drivingPoll (r : LfReq) (late : Bool) (v : State) : Poll :=
  freshPoll r v.fold.live (if bit 2 r.opts then [] else
    (pollCoils v.fold.live r.node v).filter (fun c => !leafPinned v.fold.live (128 + c) v)) (pollLeaves (drivingRun r late v))
    true (seqChallenge (freeBytes 8 v) 0 r.slots (drivingRun r late v).f) v

theorem startPoll_drives {late : Bool} {v : State} (hp : nodePinned v.fold.live r.node v = false)
    (hmap : (frameMap v.fold.live r.node v).any (fun m => !m.silent) = true) (hdraw : drawFails v = none)
    (hrun : v.uhf.run = none) : let run := drivingRun r late v
    ∃ p : Poll, p.challenge = seqChallenge (freeBytes 8 v) 0 r.slots run.f ∧ p.s = r.slots ∧ p.answers = [] ∧
      p.header = some (fld FLK_VID.VID v, fld FLK_FLOCK.EPOCH v) ∧
      startPoll r late v = { (drawBytes 8 v).2 with
        lf := { v.lf with run := some run }, poll := some p
        uhf := { v.uhf with windows := v.uhf.windows ++ [windowOf (now v) run.f r.slots] } } := by
  intro run
  obtain ⟨hframe, -⟩ := drawBytes_frame 8 v
  obtain ⟨m, hm, hloud⟩ := List.any_eq_true.mp hmap
  have hne : (frameMap v.fold.live r.node v).isEmpty = false := by
    simpa using List.ne_nil_of_mem hm
  have hsome : (frameMap v.fold.live r.node v).all (·.silent) = false := by
    rw [List.all_eq_false]
    exact ⟨m, hm, by simpa using hloud⟩
  have huhf : (drawBytes 8 v).2.uhf = v.uhf := by rw [hframe]
  unfold startPoll
  dsimp only
  rw [if_neg (by rw [hp]; decide), if_neg (by rw [hne]; simp), if_neg (by rw [hsome]; simp), if_neg (by rw [hne]; decide),
    hdraw]
  dsimp only
  refine ⟨drivingPoll r late v, rfl, rfl, rfl, rfl, ?_⟩
  unfold reserveWindows
  dsimp only
  rw [huhf, hrun]
  rfl

theorem TurnComes.polls {rest : List LfReq} (h : TurnComes t s r rest) (hreset : s.pins.resetN = false)
    (hex : reqExists r s = true) (hk : r.kind = .poll) (hp : nodePinned s.fold.live r.node s = false)
    (hmap : (frameMap s.fold.live r.node s).any (fun m => !m.silent) = true) (hdraw : drawFails s = none)
    (hrun : s.uhf.run = none) : let map := frameMap s.fold.live r.node s
    let f := ceilDiv map.length 16
    ∃ (run : LfRun) (p : Poll) (s' : State), exec (.pollStart t) s = .next s' ∧
      run.req = r ∧ run.start = now (elapse t s) ∧ run.seq = now (elapse t s) ∧ run.phase = .drive ∧ run.map = map ∧
      run.f = f ∧
      p.challenge = seqChallenge (freeBytes 8 (elapse t s)) 0 r.slots f ∧ p.s = r.slots ∧ p.answers = [] ∧
      p.header = some (fld FLK_VID.VID s, fld FLK_FLOCK.EPOCH s) ∧
      s'.pins.drive = quartersOf ((map.filter (fun m => !m.silent)).map (·.ch)) ∧ s'.pins.bridge = 0 ∧
      settles { elapse t s with
        lf := { s.lf with queue := rest, run := some run }
        poll := some p
        free := s.free + 8
        regs := s'.regs
        uhf := { s.uhf with windows := s.uhf.windows ++ [windowOf (now (elapse t s)) f r.slots] } } s' ∧
      keepsRegs [RNG_REQ_CNT.reg, RNG_STATUS.reg] s s' := by
  intro map f
  let v : State := atTurn t s rest
  have hsame : SameTree v s := sameTree_elapse _ t s
  have hlive : v.fold.live = s.fold.live := by rw [hsame.fold]
  have hvmap : frameMap v.fold.live r.node v = map := by rw [hlive, hsame.frameMap]
  have hvdraw : drawFails v = none := by
    rw [← hdraw]
    simp only [drawFails, rngState, hsame.fld]
    rfl
  obtain ⟨late, hstart⟩ := startOp_exists (r := r) (v := v) ((elapse_heldWr t s).trans h.held) ((hsame.reqExists r).trans hex) hk
  obtain ⟨p, hchal, hs, hans, hhead, hpoll⟩ := startPoll_drives (late := late) (v := v)
    (by rw [hlive, hsame.nodePinned]; exact hp) (by rw [hvmap]; exact hmap) hvdraw
    ((congrArg Uhf.run (elapse_uhf t s)).trans hrun)
  let run : LfRun := drivingRun r late v
  have hrmap : run.map = map := hvmap
  have hrf : run.f = f := by
    show ceilDiv (frameMap v.fold.live r.node v).length 16 = f
    rw [hvmap]
  obtain ⟨hframe, hkept⟩ := drawBytes_frame 8 v
  have hexec := h.starts
  rw [show startOp r (atTurn t s rest) = startOp r v from rfl, hstart, hpoll] at hexec
  let y : State := { elapse t s with
    lf := { s.lf with queue := rest, run := some run }, poll := some p, free := s.free + 8
    uhf := { s.uhf with windows := s.uhf.windows ++ [windowOf (now (elapse t s)) f r.slots] } }
  let x : State := { (drawBytes 8 v).2 with
    lf := { v.lf with run := some run }, poll := some p
    uhf := { v.uhf with windows := v.uhf.windows ++ [windowOf (now v) run.f r.slots] } }
  have hx : x = { y with regs := x.regs } := by
    simp only [x, y]
    conv_lhs => rw [hframe]
    have huhf : v.uhf = s.uhf := elapse_uhf t s
    have hfree : v.free = s.free := elapse_free t s
    rw [huhf, hfree, hrf]
    rfl
  have hk1 : RegsKept [RNG_REQ_CNT.reg, RNG_STATUS.reg] (elapse t s) x :=
    (RegsKept.of_eq (s := elapse t s) (s' := v) _ rfl rfl).trans (hkept.trans (.of_eq _ rfl rfl))
  have hlgr : x.lgr = s.lgr := by rw [hx]; exact elapse_lgr t s
  have hfold : x.fold = s.fold := by rw [hx]; exact elapse_fold t s
  obtain ⟨h1, h2, -⟩ := framed_settles (t := t) (y := y) h.live (elapse_lgr t s) (elapse_fold t s) hx hk1
  obtain ⟨hh, hw, hq⟩ := live_hostWait h.live hlgr hfold
  have hphase : drivePhase x = some (quartersOf ((map.filter (fun m => !m.silent)).map (·.ch)), now (elapse t s),
      now (elapse t s) + driveTicks f) := by
    have hne : run.map.isEmpty = false := by
      rw [hrmap]
      obtain ⟨m, hm, -⟩ := List.any_eq_true.mp hmap
      simpa using List.ne_nil_of_mem hm
    have hquarters : BitVec.ofNat 4 run.quarters = quartersOf ((map.filter (fun m => !m.silent)).map (·.ch)) := by
      rw [← hrmap]
      exact (BitVec.ofNat_toNat _ _).trans (BitVec.setWidth_eq _)
    rw [hx]
    unfold drivePhase
    dsimp only [y]
    rw [show run.req.kind = .poll from hk]
    dsimp only
    rw [hne, hquarters, ← hrf]
    rfl
  have hst : s.pwr.st = .run := ((running_iff s).mp h.running).2
  have hpwr : x.pwr = s.pwr := by rw [hx]; exact elapse_pwr t s
  have hsafe : padsSafe x = false := by
    have hready := h.ready
    have hlive := h.live
    simp only [Machine.live, Bool.and_eq_true, Bool.not_eq_true', stopped, Bool.or_eq_false_iff] at hlive
    obtain ⟨-, ⟨hlost, hvaon⟩, hin⟩ := hlive
    have hclk : x.clk.lost = s.clk.lost := by rw [hx]; exact (congrArg Clk.lost (elapse_clk_counts t s) :)
    have hpins : x.pins.resetN = false := by rw [hx]; exact (congrArg Pins.resetN (elapse_pins t s)).trans hreset
    have hlfs : islandOn .lfs x = true := by
      simp only [lfReady, Bool.and_eq_true, Bool.or_eq_true, islandOn, elapse_pwr, hst] at hready
      rcases hready.2 with hon | hwatch
      · rw [islandOn, hpwr]
        exact hon.1.2
      · exact absurd hwatch.1 (by decide)
    rw [padsSafe, hpins, hpwr, hin, hvaon, hclk, hlost, hlfs]
    rfl
  obtain ⟨hd, hb⟩ := finish_drives hh hw hq (by rw [hpwr, hst]; decide) hsafe hphase
  have hnow : now x = now (elapse t s) := by
    rw [hx]
    rfl
  have hlong : 0 < driveTicks f := by
    rw [driveTicks, msTicks]
    omega
  refine ⟨run, p, finish x, hexec, rfl, rfl, rfl, rfl, hrmap, hrf, ?_, hs, hans, ?_, ?_, ?_, h1, h2⟩
  · rw [hchal, show (drivingRun r late v).f = f from hrf]
    rfl
  · rw [hhead, hsame.fld, hsame.fld]
  · rw [hd, hnow, if_pos (by simp [hlong])]
  · rw [hb, hnow, if_neg (by simp)]

/-! ## A listen, and a TARGET that is gone -/

theorem TurnComes.listens {rest : List LfReq} (h : TurnComes t s r rest) (hex : reqExists r s = true)
    (hk : r.kind = .listen) : ∃ (run : LfRun) (s' : State), exec (.pollStart t) s = .next s' ∧ run.req = r ∧
      run.start = now (elapse t s) ∧ run.phase = .listen ∧ run.chans = listenChans s.fold.live r.node s ∧
      settles { elapse t s with lf := { s.lf with queue := rest, run := some run } } s' := by
  let v : State := atTurn t s rest
  have hsame : SameTree v s := sameTree_elapse _ t s
  have hheld : v.heldWr = [] := (elapse_heldWr t s).trans h.held
  have hexec := h.starts
  have hstart : ∃ late, startOp r v = { v with
      lf := { v.lf with run := some (freshRun r .listen [] (listenChans v.fold.live r.node v) [] late v) } } := by
    unfold startOp
    dsimp only
    rw [applyHeld_none 0x0800 0x0828 hheld, applyHeld_none 0x0C00 0x1000 hheld,
      if_neg (by rw [hsame.reqExists, hex]; decide), hk]
    exact ⟨_, rfl⟩
  obtain ⟨late, hstart⟩ := hstart
  rw [show startOp r (atTurn t s rest) = startOp r v from rfl, hstart] at hexec
  refine ⟨_, _, hexec, rfl, rfl, rfl, ?_, finish_settles_of s _ h.live (elapse_lgr t s) (elapse_fold t s)⟩
  show listenChans v.fold.live r.node v = _
  rw [hsame.fold, hsame.listenChans]

/-- A completion leaves the LF unit, and nothing of another command waits after it. -/
theorem complete_keeps {st det : Nat} {res : Bytes} {cells offs : List Nat} {d : Desc} (h : Answerable d x)
    (hr : Recorded cells offs x (counted d st x)) :
    (complete d st res det x).lf = x.lf ∧
      (complete d st res det x).lgr.hostWait.all (fun p => decide (p.2 ≠ 0)) = true ∧
      (complete d st res det x).fold.wait = [] ∧ (complete d st res det x).fold.queue = [] := by
  obtain ⟨-, -, hhost, hwait, hqueue⟩ := h.recorded hr
  have honly : hostOnly (counted d st x) (complete d st res det x) := by
    rw [complete_eq]
    exact routeEntry_hostOnly _ _ _ _
  have hlf : (complete d st res det x).lf = (counted d st x).lf := (congrArg State.lf honly :)
  have hlgr : (complete d st res det x).lgr = (counted d st x).lgr := (congrArg State.lgr honly :)
  have hfold : (complete d st res det x).fold = (counted d st x).fold := (congrArg State.fold honly :)
  rw [hlf, hlgr, hfold]
  exact ⟨(congrArg State.lf hr.blank :), hhost, hwait, hqueue⟩

/-- Without an LF_CAL nothing follows an LF operation. -/
theorem settleLfCals_none (h : x.lf.cals = []) : settleLfCals x = x := by
  rw [settleLfCals, h]
  rfl

/-- A TARGET that is gone is turned away. -/
theorem badFold_recorded (d : Desc) (x : State) : Recorded [] [HIF_VIOL_CNT.reg] x (counted d stBadFold x) := by
  have hviol : isHostViol stBadFold d.opcode = false := rfl
  have hc : counted d stBadFold x = bump HIF_VIOL_CNT.DESC (drained d x) := by
    rw [counted, hviol]
    rfl
  rw [hc]
  exact (drained_recorded d x).trans (Recorded.bump _ _ (by decide))

theorem TurnComes.misses {rest : List LfReq} (h : TurnComes t s r rest) (hex : reqExists r s = false)
    (hcals : s.lf.cals = []) {d : Desc} (hd : r.desc = some d) (hh : heard d (elapse t s) = true) :
    ∃ s', exec (.pollStart t) s = .next s' ∧ completed d stBadFold [] 4 (elapse t s) s' ∧ s'.lf.queue = rest ∧
      s'.lf.run = none ∧ s'.pins.drive = 0 ∧ s'.pins.bridge = 0 ∧ keepsRegs [LFE_CNT.reg, HIF_VIOL_CNT.reg] s s' := by
  let v : State := atTurn t s rest
  let x : State := endLf false false v
  have hsame : SameTree v s := sameTree_elapse _ t s
  have hheld : v.heldWr = [] := (elapse_heldWr t s).trans h.held
  have ha := answerable_at h.live h.mem hh
  have hans : Answerable d x := ⟨ha.heard, ha.mem, ha.hostWait, ha.wait, ha.queue⟩
  have hrec := badFold_recorded d x
  obtain ⟨hlf, hhost, hwait, hqueue⟩ := complete_keeps (res := []) (det := 4) hans hrec
  have hexec := h.starts
  have hstart : startOp r v = fail d stBadFold 4 x := by
    unfold startOp
    dsimp only
    rw [applyHeld_none 0x0800 0x0828 hheld, applyHeld_none 0x0C00 0x1000 hheld,
      if_pos (by rw [hsame.reqExists, hex]), hd]
    exact settleLfCals_none (by rw [fail, hlf]; exact hcals)
  rw [show startOp r (atTurn t s rest) = startOp r v from rfl, hstart] at hexec
  have hcnt : RegsKept [LFE_CNT.reg] (elapse t s) x :=
    (RegsKept.of_eq (s := elapse t s) (s' := v) _ rfl rfl).trans
      ((RegsKept.bump LFE_CNT.OPS v (by decide)).trans (.of_eq _ rfl rfl))
  obtain ⟨hcomp, -, -, hregs⟩ := turnedAway_of_fail (h := x.hif) (y := x) (st := stBadFold) (det := 4) hans (by decide) rfl
    (hcnt.wf (memorySafe_elapse_wf h.mem t)) rfl
  have hset : settles (fail d stBadFold 4 x) (finish (fail d stBadFold 4 x)) := finish_settles _ hhost hwait hqueue
  have hrun : (fail d stBadFold 4 x).lf.run = none := by
    rw [fail, hlf]
    rfl
  obtain ⟨hdrive, hbridge⟩ := finish_drives_nothing hhost hwait hqueue (fun q a e hp => absurd hp (by
    rw [drivePhase, show (complete d stBadFold [] 4 x).lf.run = none from hrun]
    simp))
  refine ⟨_, hexec, ?_, ?_, ?_, hdrive, hbridge, fun off ho => ?_⟩
  · refine completed_congr hcomp rfl (fun n => ?_) rfl
    have hreg : ∀ off, off ≠ LFE_CNT.reg → regGet off (elapse t s) = regGet off x := fun off ho =>
      (hcnt.keeps off (by simpa using ho)).symm
    rw [cqBase, cqBase, reg64, reg64, hreg _ (by rw [QPn_CQB_LO.reg, LFE_CNT.reg]; omega),
      hreg _ (by rw [QPn_CQB_LO.reg, LFE_CNT.reg]; omega)]
  · rw [settles_lf hset, fail, hlf]
    rfl
  · rw [settles_lf hset, hrun]
  · simp only [List.mem_cons, List.not_mem_nil, or_false, not_or] at ho
    exact (hregs off (by simpa using ho.2)).trans ((hcnt.keeps off (by simpa using ho.1)).trans (elapse_regGet off t s))

end

end Sys2Proof.Machine
end

section
/-! SUPPORT. The close of a poll's window, and the statement of its phases. -/
namespace Sys2Proof.Machine

section
variable {s x y v : State} {t w : Nat} {r : LfRun} {p : Poll} {d : Desc}

/-! ## Windows that go -/

/-- Windows that go from an idle radio. -/
structure WindowsDropped (keep : Nat × Nat → Bool) (x y : State) : Prop where
  frame : y = { x with uhf := y.uhf }
  windows : y.uhf.windows = x.uhf.windows.filter keep
  window : y.uhf.window = false
  queue : y.uhf.queue = []
  run : y.uhf.run = none

theorem uhfRest_walks (x : State) : ∃ l, uhfRest x = setUhfWalk l x := by
  unfold uhfRest
  dsimp only
  split
  · exact ⟨_, rfl⟩
  · split
    · exact ⟨_, rfl⟩
    · exact ⟨x.uhf.walk, rfl⟩

theorem dropWindows_drops (keep : Nat × Nat → Bool) (hq : x.uhf.queue = []) (hr : x.uhf.run = none) :
    WindowsDropped keep x (dropWindows keep x) := by
  let y : State := { x with uhf := { x.uhf with
    windows := x.uhf.windows.filter keep, window := false, lastEnd := now x, queue := [], run := none } }
  have hdrop : dropWindows keep x = uhfRest y := by
    unfold dropWindows
    dsimp only
    rw [hr]
    dsimp only
    unfold runUhfQueue
    dsimp only
    rw [hq, startNext]
    rfl
  obtain ⟨l, hl⟩ := uhfRest_walks y
  rw [hdrop, hl]
  exact ⟨rfl, rfl, rfl, rfl, rfl⟩

theorem endHold_none (h : x.uwb.hold = false) : endHold x = x := by
  rw [endHold, h]
  rfl

/-- What a command's end leaves of the UHF radio is what it shows. -/
theorem settles_takesUhf (h : settles x y) : settles { x with uhf := y.uhf } y := by
  have hst : y.pwr.st = x.pwr.st := settles_pwr_st h
  have huhf : (blankLines y).uhf = (blankLines x).uhf := congrArg State.uhf h
  have hsame : (blankLines { x with uhf := y.uhf }).uhf = (blankLines y).uhf := by
    simp only [blankLines, hst]
  calc blankLines y = blankLines x := h
    _ = { blankLines x with uhf := (blankLines { x with uhf := y.uhf }).uhf } := by rw [hsame, huhf]

/-! ## The end of an LF operation -/

theorem endLf_ends (ff sat : Bool) (x : State) (hwf : Regs.wf x = true) :
    endLf ff sat x = { x with lf := { x.lf with run := none }, regs := (endLf ff sat x).regs } ∧
      RegsKept [LFE_CNT.reg] x (endLf ff sat x) ∧
      fld LFE_CNT.OPS (endLf ff sat x) = Machine.sat 16 (fld LFE_CNT.OPS x + 1) := by
  have hops : fld LFE_CNT.OPS (bump LFE_CNT.OPS x) = Machine.sat 16 (fld LFE_CNT.OPS x + 1) :=
    fld_bump_same LFE_CNT.OPS (by decide) x hwf
  have hbump : ∀ (f : Field) (b : Bool) (z : State), f.off = LFE_CNT.reg → f.fits = true → f.apart LFE_CNT.OPS = true →
      Regs.wf z = true → (if b then bump f z else z) = { z with regs := (if b then bump f z else z).regs } ∧
        RegsKept [LFE_CNT.reg] z (if b then bump f z else z) ∧
        fld LFE_CNT.OPS (if b then bump f z else z) = fld LFE_CNT.OPS z := by
    intro f b z hoff hfits hap hz
    cases b
    · exact ⟨rfl, .refl _ z, rfl⟩
    · exact ⟨rfl, .bump f z (by rw [hoff]; exact List.mem_cons_self), fld_setFld_apart f _ hfits hap _ z hz⟩
  have hk1 : RegsKept [LFE_CNT.reg] x (bump LFE_CNT.OPS x) := .bump _ x (by decide)
  obtain ⟨hf2, hk2, ho2⟩ := hbump LFE_CNT.FF ff (bump LFE_CNT.OPS x) rfl rfl rfl (hk1.wf hwf)
  have hwf2 := hk2.wf (hk1.wf hwf)
  unfold endLf
  dsimp only
  generalize (if ff then bump LFE_CNT.FF (bump LFE_CNT.OPS x) else bump LFE_CNT.OPS x) = z at *
  obtain ⟨hf3, hk3, ho3⟩ := hbump LFE_CNT.SAT sat z rfl rfl rfl hwf2
  generalize (if sat then bump LFE_CNT.SAT z else z) = u at *
  refine ⟨?_, (hk1.trans hk2).trans (hk3.trans (.of_eq _ rfl rfl)), ?_⟩
  · rw [hf3, hf2]
    rfl
  · rw [← hops, ← ho2, ← ho3]
    rfl

/-! ## The close of a response window -/

/-- A poll's window has closed (R196). -/
structure WindowCloses (t : Nat) (s : State) (r : LfRun) (p : Poll) (w : Nat) : Prop extends PollRuns s r where
  poll : s.poll = some p
  window : p.window = some w
  queue : s.uhf.queue = []
  radio : s.uhf.run = none
  hold : s.uwb.hold = false
  due : w + p.s * slotTicks ≤ now (elapse t s)

/-- The state without the window. -/
def windowGone (w t : Nat) (s : State) : State := dropWindows (fun x => x.1 ≠ w) (elapse t s)

theorem WindowCloses.dropped (h : WindowCloses t s r p w) :
    WindowsDropped (fun x => x.1 ≠ w) (elapse t s) (windowGone w t s) :=
  dropWindows_drops _ (by rw [elapse_uhf]; exact h.queue) (by rw [elapse_uhf]; exact h.radio)

theorem WindowCloses.runs (h : WindowCloses t s r p w) : exec (.responseWindowClose t) s = .next (finish
    (if !p.collided.isEmpty && p.rseq < r.req.reslot && !p.pinStop && (drawFails (windowGone w t s)).isNone then
      reslot r p (w + p.s * slotTicks) (windowGone w t s)
    else settlePoll (endHold { windowGone w t s with poll := some { p with window := none, shut := true } }))) := by
  refine (command_live t _ s h.live).trans ?_
  rw [windowClose, elapse_lf, elapse_poll, h.run, h.poll]
  dsimp only
  rw [h.window]
  dsimp only
  rw [onlyIf, if_pos (by simpa using h.due)]
  rfl

/-- A poll's drive phase begins with its sequence. -/
theorem drivePhase_begins {q : BitVec 4} {a e : Nat} (hrun : x.lf.run = some r) (hk : r.req.kind = .poll)
    (hp : drivePhase x = some (q, a, e)) : a = r.seq := by
  unfold drivePhase at hp
  rw [hrun] at hp
  dsimp only at hp
  rw [hk] at hp
  dsimp only at hp
  split at hp
  · exact absurd hp (by simp)
  · simp only [Option.some.injEq, Prod.mk.injEq] at hp
    exact hp.2.1.symm

theorem drawFails_congr (h : rngState y = rngState x) : drawFails y = drawFails x := by
  rw [drawFails, h]
  rfl

/-- Windows reserved on an idle radio (R210). -/
theorem reserveWindows_idle (ws : List (Nat × Nat)) (h : x.uhf.run = none) :
    reserveWindows ws x = { x with uhf := { x.uhf with windows := x.uhf.windows ++ ws } } := by
  unfold reserveWindows
  dsimp only
  split
  · next r hr => exact absurd (h.symm.trans hr) (by simp)
  · rfl

/-- After a collision a new sequence follows (R196). -/
theorem WindowCloses.reslots (h : WindowCloses t s r p w) (hc : p.collided ≠ []) (hr : p.rseq < r.req.reslot)
    (hpin : p.pinStop = false) (hdraw : drawFails s = none) : let close := w + p.s * slotTicks
    ∃ (p1 : Poll) (s' : State), exec (.responseWindowClose t) s = .next s' ∧
      p1.rseq = p.rseq + 1 ∧ p1.challenge = seqChallenge (freeBytes 8 (elapse t s)) (p.rseq + 1) p.s r.f ∧
      p1.window = none ∧ p1.collided = [] ∧ p1.answers = p.answers ∧
      settles { elapse t s with
        lf := { s.lf with run := some { r with phase := .drive, seq := close + 384, sensed := false } }
        poll := some p1
        free := s.free + 8
        regs := s'.regs
        uhf := s'.uhf } s' ∧
      p1.header = none ∧ (now (elapse t s) < close + 384 → s'.pins.drive = 0 ∧ s'.pins.bridge = 0) ∧
      windowOf (close + 384) r.f p.s ∈ s'.uhf.windows ∧ keepsRegs [RNG_REQ_CNT.reg, RNG_STATUS.reg] s s' := by
  intro close
  let v : State := windowGone w t s
  have hv := h.dropped
  have hexec := h.runs
  have hvdraw : drawFails v = none := by
    rw [← hdraw]
    refine drawFails_congr ?_
    rw [show v = _ from hv.frame]
    exact elapse_fld RNG_STATUS.STATE t s
  rw [if_pos (by simp [hc, hr, hpin, show drawFails (windowGone w t s) = none from hvdraw])] at hexec
  obtain ⟨hframe, hkept⟩ := drawBytes_frame 8 v
  let run : LfRun := { r with phase := .drive, seq := close + 384, sensed := false }
  let p1 : Poll := { p with
    challenge := seqChallenge (freeBytes 8 v) (p.rseq + 1) p.s r.f, rseq := p.rseq + 1, window := none, collided := []
    synced := [], ended := [], header := none, coils := p.coils.map cutCoil }
  have hrun : (drawBytes 8 v).2.uhf.run = none := by
    rw [hframe]
    exact hv.run
  let x : State := { (drawBytes 8 v).2 with
    lf := { (drawBytes 8 v).2.lf with run := some run }, poll := some p1
    uhf := { (drawBytes 8 v).2.uhf with
      windows := (drawBytes 8 v).2.uhf.windows ++ [windowOf (close + 384) r.f p.s] } }
  have hx : reslot r p close v = x := by
    exact reserveWindows_idle _ hrun
  rw [show reslot r p (w + p.s * slotTicks) (windowGone w t s) = reslot r p close v from rfl, hx] at hexec
  let y : State := { elapse t s with
    lf := { s.lf with run := some run }, poll := some p1, free := s.free + 8, uhf := x.uhf }
  have hlf : v.lf = s.lf := by rw [show v = _ from hv.frame]; exact elapse_lf t s
  have hfree : v.free = s.free := by rw [show v = _ from hv.frame]; exact elapse_free t s
  have hd : (drawBytes 8 v).2 =
      { elapse t s with regs := (drawBytes 8 v).2.regs, free := s.free + 8, uhf := v.uhf } := by
    conv_lhs => rw [hframe]
    rw [hfree]
    exact congrArg (fun z : State => { z with regs := (drawBytes 8 v).2.regs, free := s.free + 8 }) hv.frame
  have hy : x = { y with regs := x.regs } := by
    simp only [x, y]
    rw [hd, elapse_lf]
  have hk : RegsKept [RNG_REQ_CNT.reg, RNG_STATUS.reg] (elapse t s) x := by
    have h0 : RegsKept [RNG_REQ_CNT.reg, RNG_STATUS.reg] (elapse t s) v := by
      rw [show v = _ from hv.frame]
      exact .of_eq _ rfl rfl
    exact h0.trans (hkept.trans (.of_eq _ rfl rfl))
  obtain ⟨h1, h2, -⟩ := framed_settles (t := t) (y := y) h.live (elapse_lgr t s) (elapse_fold t s) hy hk
  obtain ⟨hh, hw, hq⟩ := live_hostWait (x := x) h.live (by rw [hy]; exact elapse_lgr t s) (by rw [hy]; exact elapse_fold t s)
  refine ⟨p1, finish x, hexec, rfl, ?_, rfl, rfl, rfl, settles_takesUhf h1, rfl, fun hearly => ?_, ?_, h2⟩
  · show seqChallenge (freeBytes 8 v) _ _ _ = _
    rw [freeBytes, hfree, freeBytes, elapse_free]
  · refine finish_drives_nothing hh hw hq fun q a e hp => .inl ?_
    rw [drivePhase_begins (r := run) rfl h.kind hp, hy]
    exact hearly
  · rw [settles_uhf_windows h1]
    exact List.mem_append_right _ List.mem_cons_self

/-- The poll without its window. -/
def windowShut (p : Poll) : Poll := { p with window := none, shut := true }

/-- The state at the end of a poll's windows. -/
def pollShut (w t : Nat) (s : State) (p : Poll) : State := { windowGone w t s with poll := some (windowShut p) }

theorem WindowCloses.shuts (h : WindowCloses t s r p w) (hc : p.collided = [] ∨ r.req.reslot ≤ p.rseq) :
    exec (.responseWindowClose t) s = .next (finish (settlePoll (pollShut w t s p))) := by
  have hrun := h.runs
  have hhold : ({ windowGone w t s with poll := some { p with window := none, shut := true } } : State).uwb.hold = false := by
    show (windowGone w t s).uwb.hold = false
    rw [h.dropped.frame]
    exact (congrArg Uwb.hold (elapse_uwb t s)).trans h.hold
  rw [if_neg, endHold_none hhold] at hrun
  · exact hrun
  · rcases hc with hc | hc
    · simp [hc]
    · simp [Nat.not_lt.mpr hc]

/-- With coils left, the poll is shut (R197). -/
theorem WindowCloses.waits (h : WindowCloses t s r p w) (hc : p.collided = [] ∨ r.req.reslot ≤ p.rseq)
    (hcoils : p.coils.all (·.done) = false) : ∃ s', exec (.responseWindowClose t) s = .next s' ∧
      settles { elapse t s with poll := some { p with window := none, shut := true }, uhf := s'.uhf } s' ∧
      s'.uhf.window = false := by
  have hv := h.dropped
  have hexec := h.shuts hc
  have hx : pollShut w t s p = { elapse t s with poll := some (windowShut p), uhf := (windowGone w t s).uhf } :=
    congrArg (fun z : State => { z with poll := some (windowShut p) }) hv.frame
  have hopen : settlePoll (pollShut w t s p) = pollShut w t s p := by
    have hdone : pollDone (windowShut p) (pollShut w t s p) = false := by
      simp only [pollDone, windowShut, hcoils, Bool.and_false, Bool.false_and]
    unfold settlePoll
    split
    · next r' q _ hq =>
      obtain rfl : windowShut p = q := Option.some.inj hq
      rw [hdone, Bool.and_false, if_neg (by decide)]
    · rfl
  rw [hopen] at hexec
  have hset : settles (pollShut w t s p) (finish (pollShut w t s p)) :=
    finish_settles_of s _ h.live (by rw [hx]; exact elapse_lgr t s) (by rw [hx]; exact elapse_fold t s)
  refine ⟨_, hexec, ?_, ?_⟩
  · have := settles_takesUhf hset
    rw [hx] at this ⊢
    exact this
  · rw [settles_uhf_window hset]
    exact hv.window

end

end Sys2Proof.Machine
end

section
/-! SUPPORT. The end of a poll without an answer, and the statement of a poll's phases. -/
namespace Sys2Proof.Machine

section
variable {s x y v : State} {t w : Nat} {r : LfRun} {p : Poll} {d : Desc}

/-! ## The end of a poll -/

theorem dropPoll_drops (hq : x.uhf.queue = []) (hr : x.uhf.run = none) (hh : x.uwb.hold = false) :
    dropPoll x = { x with poll := none, uhf := (dropPoll x).uhf, uwb := { x.uwb with exch := [] } } ∧
      (dropPoll x).uhf.windows = [] := by
  have hd := dropWindows_drops (x := { x with poll := none, uwb := { x.uwb with exch := [] } }) (fun _ => false) hq hr
  have hhold : (dropWindows (fun _ => false) { x with poll := none, uwb := { x.uwb with exch := [] } }).uwb.hold = false := by
    rw [hd.frame]
    exact hh
  unfold dropPoll
  rw [endHold_none hhold]
  exact ⟨hd.frame, hd.windows.trans (List.filter_false _)⟩

/-- Without answers there is no driver, and no co-driver is present (R287). -/
theorem pollDriver_none (h : p.answers = []) (hwf : Regs.wf x = true) :
    pollDriver p x = { x with flk := (pollDriver p x).flk, regs := (pollDriver p x).regs } ∧
      RegsKept [FLK_DRIVER.reg] x (pollDriver p x) ∧ fld FLK_DRIVER.CO_PRESENT (pollDriver p x) = 0 := by
  have hseats : seatAnswers p = [] := by rw [seatAnswers, h]; rfl
  have hrun : ∃ f, pollDriver p x = setFld FLK_DRIVER.CO_PRESENT 0 { x with flk := f } := by
    unfold pollDriver
    dsimp only
    rw [hseats]
    dsimp only
    split
    · exact ⟨_, rfl⟩
    · exact ⟨x.flk, rfl⟩
  obtain ⟨f, hf⟩ := hrun
  have hk : RegsKept [FLK_DRIVER.reg] x { x with flk := f } := .of_eq _ rfl rfl
  rw [hf]
  exact ⟨rfl, hk.trans (.setFld _ 0 _ (by decide)), fld_setFld_same _ rfl 0 _ (hk.wf hwf)⟩

/-- A poll without answers reports that nothing responded (R159). -/
theorem reportPoll_nothing (hd : r.req.desc = some d) (h : p.answers = []) (st : Nat) (x : State) :
    reportPoll r p st x = complete d st (pollResult r p 0) 0 x := by
  have hfree : dmaBlocked d d.dstAddr 0 x = false := by
    cases hs : d.src <;> simp [dmaBlocked, hs]
  have hwrite : dmaWrite d d.dstAddr [] x = x := by
    cases hs : d.src <;> simp only [dmaWrite, hs, mwrite]
  unfold reportPoll
  rw [hd, h]
  dsimp only
  rw [List.map_nil, List.length_nil, Nat.zero_min, List.take_zero, List.flatten_nil, writeDst, List.length_nil, hfree,
    if_neg (by decide), hwrite]
  rfl

/-- What a poll's end leaves before its completion. -/
def pollOver (w t : Nat) (s : State) (r : LfRun) (p : Poll) : State :=
  pollDriver (windowShut p) (endLf r.ff r.satur (dropPoll (pollShut w t s p)))

/-- Nothing answered (R159). -/
theorem WindowCloses.ends (h : WindowCloses t s r p w) (hc : p.collided = []) (hcoils : p.coils.all (·.done) = true)
    (hexch : s.uwb.exch = []) (hans : p.answers = []) (hvid : p.vidSeen = false) (hd : r.req.desc = some d)
    (hh : heard d (elapse t s) = true) :
    ∃ s1 s', exec (.responseWindowClose t) s = .next s' ∧
      answers d stNoResponse (pollResult r { p with window := none, shut := true } 0) 0 s1 s' ∧
      s1 = { elapse t s with
        lf := { s.lf with run := none }, poll := none, regs := s1.regs, flk := s1.flk, uhf := s1.uhf, uwb := s1.uwb } ∧
      s1.uhf.windows = [] ∧ fld FLK_DRIVER.CO_PRESENT s1 = 0 ∧
      fld LFE_CNT.OPS s1 = sat 16 (fld LFE_CNT.OPS s + 1) ∧ keepsRegs [LFE_CNT.reg, FLK_DRIVER.reg] s s1 := by
  have hv := h.dropped
  have hz : pollShut w t s p = { elapse t s with poll := some (windowShut p), uhf := (windowGone w t s).uhf } :=
    congrArg (fun z : State => { z with poll := some (windowShut p) }) hv.frame
  let z : State := pollShut w t s p
  have hzuwb : z.uwb = s.uwb := by rw [show z = _ from hz]; exact elapse_uwb t s
  have hzlf : z.lf = s.lf := by rw [show z = _ from hz]; exact elapse_lf t s
  have hdone : pollDone (windowShut p) z = true := by
    simp only [pollDone, windowShut, hcoils, hans, hzuwb, hexch]
    rfl
  have hexec := h.shuts (.inl hc)
  have hstatus : pollStatus (windowShut p) = stNoResponse := by
    simp [pollStatus, windowShut, hans, hvid, hc]
  have hsettle : settlePoll z = complete d stNoResponse (pollResult r (windowShut p) 0) 0 (pollOver w t s r p) := by
    unfold settlePoll
    rw [hzlf, h.run, show z.poll = some (windowShut p) from rfl]
    dsimp only
    rw [hdone, Bool.and_true, if_pos (by rw [h.kind]; rfl), hstatus]
    exact reportPoll_nothing hd hans _ _
  rw [show pollShut w t s p = z from rfl, hsettle] at hexec
  obtain ⟨hdrop, hwins⟩ := dropPoll_drops (x := z) hv.queue hv.run (by rw [hzuwb]; exact h.hold)
  have hzk : RegsKept [LFE_CNT.reg, FLK_DRIVER.reg] (elapse t s) (dropPoll z) := by
    rw [hdrop, show z = _ from hz]
    exact .of_eq _ rfl rfl
  have hwf1 := hzk.wf (memorySafe_elapse_wf h.mem t)
  obtain ⟨he1, he2, he3⟩ := endLf_ends r.ff r.satur (dropPoll z) hwf1
  obtain ⟨hp1, hp2, hp3⟩ := pollDriver_none (p := windowShut p) (x := endLf r.ff r.satur (dropPoll z)) hans (he2.wf hwf1)
  have hover : pollOver w t s r p = pollDriver (windowShut p) (endLf r.ff r.satur (dropPoll z)) := rfl
  have hstart : ∀ a b : State, a = { z with poll := none, uhf := a.uhf, uwb := { z.uwb with exch := [] } } →
      b = { a with lf := { a.lf with run := none }, regs := b.regs } → ∀ u : State, u = { b with flk := u.flk, regs := u.regs } →
      u = { elapse t s with
        lf := { s.lf with run := none }, poll := none, regs := u.regs, flk := u.flk, uhf := u.uhf, uwb := u.uwb } := by
    intro a b ha hb u hu
    rw [hu, hb, ha, show z = _ from hz]
    simp only [elapse_lf]
  have hx1 := hstart _ _ hdrop he1 _ hp1
  rw [← hover] at hx1 hp1 hp2 hp3
  generalize pollOver w t s r p = x1 at *
  have hans1 : Answerable d x1 := by
    have ha := answerable_at h.live h.mem hh
    rw [hx1]
    exact ⟨ha.heard, ha.mem, ha.hostWait, ha.wait, ha.queue⟩
  refine ⟨x1, _, hexec, hans1.quiet rfl, hx1, ?_, hp3, ?_, ?_⟩
  · rw [hp1, he1]
    exact hwins
  · rw [hp2.fld LFE_CNT.OPS (by decide), he3, hdrop, show z = _ from hz]
    exact congrArg (fun n => sat 16 (n + 1)) (elapse_fld LFE_CNT.OPS t s)
  · intro off ho
    have h12 := (hzk.trans (he2.mono (by simp))).trans (hp2.mono (by simp))
    rw [h12.keeps off ho, elapse_regGet]

end

/-- Settles O22, from a poll's start, its drive sequence, its foreign-field window and the close of its window. -/
theorem pollsRunThroughTheirPhases : Obligations.PollsRunThroughTheirPhases := by
  unfold Obligations.PollsRunThroughTheirPhases
  refine ⟨?_, ?_, ?_⟩
  · intro s t r rest hr hm hsh hq hwait hrun hheld hreset s0 map f hready hheldr htimely hasked hdue
    have h : TurnComes t s r rest := ⟨hr, hm, hq, hwait, hrun, hheld, hready, hheldr, htimely, hasked, hdue⟩
    exact ⟨fun hex hk hp hmap hdraw hradio => h.polls hreset hex hk hp hmap hdraw hradio, fun hex hk => h.listens hex hk,
      fun hex hcals d hd hh => h.misses hex hcals hd hh⟩
  · intro s t r hl hm hrun hk s0
    have h : PollRuns s r := ⟨hl, hm, hrun, hk⟩
    refine ⟨fun m hphase hdue => h.driveEnds m hphase hdue, fun m hphase hfresh hon hdue => ?_,
      fun p hp hphase hcoils hspan hdue => h.windowOpens hp hphase hcoils hspan hdue⟩
    have hff : FfEnds t s r := ⟨h, hphase, hfresh, hon, hdue⟩
    exact ⟨hff.clears m, hff.sees m⟩
  · intro s t r p w hl hm hsh hrun hp hk hw hq hradio hhold s0 close hdue
    have h : WindowCloses t s r p w := ⟨⟨hl, hm, hrun, hk⟩, hp, hw, hq, hradio, hhold, hdue⟩
    exact ⟨fun hc hr hpin hdraw => h.reslots hc hr hpin hdraw, fun hc hcoils => h.waits hc hcoils,
      fun hc hcoils hexch hans hvid _ d hd hh => h.ends hc hcoils hexch hans hvid hd hh⟩

end Sys2Proof.Machine
end

section
/-! SUPPORT. Rounds of LF_DIAG RING. -/
namespace Sys2Proof.Machine

section
variable {s x y : State} {t k : Nat} {r : LfRun} {rest : List Nat} {m : List RingMeas} {d : Desc}

/-! ## A round -/

/-- The records of a round (R149). -/
def roundRecs (r : LfRun) (k : Nat) (m : List RingMeas) (s : State) : List RingRec :=
  (roundChans k r.chans).map (fun c => ringRec c (runFreq r.req c s) 1 (ringOf m c) s)

/-- The end of a round (R151). -/
def roundStop (r : LfRun) (k : Nat) (s : State) : Nat :=
  r.seq + usTicks 2 + burstTicks r.req (roundChans k r.chans) s + usTicks 3 + 384 * fld LFE_DIAG_CTL.RING s

/-- Some of its samples were saturated. -/
def roundHot (recs : List RingRec) : Bool := recs.any (fun x => x.sat > 0)

/-- The operation after a round. -/
def roundDone (r : LfRun) (recs : List RingRec) (rest : List Nat) (stop : Nat) : LfRun :=
  { r with
    todo := rest, rounds := r.rounds + 1, rings := r.rings ++ recs, satur := r.satur || roundHot recs, seq := stop
    phase := .drive }

/-- A round of LF_DIAG RING ends on a live device; its coils are tested with the last one, if it has any. -/
structure RoundEnds (t : Nat) (s : State) (r : LfRun) (k : Nat) (rest : List Nat) : Prop where
  live : live s = true
  mem : memorySafe s
  run : s.lf.run = some r
  kind : r.req.kind = .diagRing
  todo : r.todo = k :: rest
  coils : rest = [] → r.coils = []
  due : roundStop r k s ≤ now (elapse t s)

theorem runFreq_elapse (r : LfReq) (c t : Nat) (s : State) : runFreq r c (elapse t s) = runFreq r c s := by
  simp only [runFreq, lfFreq_elapse, elapse_fld]

theorem burstTicks_elapse (r : LfReq) (l : List Nat) (t : Nat) (s : State) :
    burstTicks r l (elapse t s) = burstTicks r l s := by
  simp only [burstTicks, runFreq_elapse, elapse_fld]

theorem roundRecs_elapse (r : LfRun) (k : Nat) (m : List RingMeas) (t : Nat) (s : State) :
    roundRecs r k m (elapse t s) = roundRecs r k m s := by
  simp only [roundRecs, ringRec_elapse, runFreq_elapse]

theorem roundStop_elapse (r : LfRun) (k t : Nat) (s : State) : roundStop r k (elapse t s) = roundStop r k s := by
  simp only [roundStop, burstTicks_elapse, elapse_fld]

theorem roundRecs_fit (r : LfRun) (k : Nat) (m : List RingMeas) (s : State) : RingsFit (roundRecs r k m s) :=
  ringRecs_fit _ (fun c => runFreq r.req c s) (fun _ => 1) m s

/-- The state in which a round's records are noted. -/
def roundNoted (t : Nat) (s : State) (recs : List RingRec) : State := setFlds (ringNotes (roundHot recs) recs) (elapse t s)

theorem RoundEnds.runs (h : RoundEnds t s r k rest) (m : List RingMeas) : let recs := roundRecs r k m s
    exec (.lfDiagRoundEnd t m) s = .next (finish
      (if rest.isEmpty then finishDiag (roundDone r recs rest (roundStop r k s)) (roundNoted t s recs)
      else { roundNoted t s recs with
        lf := { (roundNoted t s recs).lf with run := some (roundDone r recs rest (roundStop r k s)) } })) := by
  intro recs
  have hcoils : (if rest.isEmpty then r.coils else []) = [] := by
    cases rest with
    | nil => exact h.coils rfl
    | cons a l => rfl
  have hdue : roundStop r k (elapse t s) ≤ now (elapse t s) := by
    rw [roundStop_elapse]
    exact h.due
  refine (command_live t _ s h.live).trans ?_
  rw [diagRound, elapse_lf, h.run]
  dsimp only
  rw [h.todo]
  simp only [List.headD_cons, List.isEmpty_cons, Bool.false_eq_true, if_false, List.drop_one, List.tail_cons, hcoils,
    List.map_nil, List.append_nil, List.foldl_nil, noteRings_eq, Bool.not_false]
  rw [onlyIf, if_pos (by rw [h.kind]; exact decide_eq_true hdue)]
  have hrecs : (roundChans k r.chans).map (fun c => ringRec c (runFreq r.req c (elapse t s)) 1 (ringOf m c) (elapse t s)) =
      recs := roundRecs_elapse r k m t s
  rw [hrecs, ← roundStop_elapse r k t s]
  rfl

/-- A burst's length does not turn on what the channels show. -/
theorem burstTicks_noted {recs : List RingRec} (l : List Nat)
    (h : RegsKept (LFE_STATUS.reg :: recs.map (fun x => LFE_CHn_STAT.reg x.node)) x y) :
    burstTicks r.req l y = burstTicks r.req l x := by
  have hlow : ∀ off, off < 0x0C00 → off ≠ 0x0804 → off ∉ LFE_STATUS.reg :: recs.map (fun x => LFE_CHn_STAT.reg x.node) := by
    intro off hlt hne
    simp only [List.mem_cons, List.mem_map, not_or, not_exists, not_and]
    refine ⟨hne, fun v _ he => ?_⟩
    simp only [LFE_CHn_STAT.reg] at he
    omega
  have htrim : ∀ c, fld (LFE_CHn_CFG.TRIM c) y = fld (LFE_CHn_CFG.TRIM c) x := fun c => by
    refine h.fld _ ?_
    simp only [List.mem_cons, List.mem_map, not_or, not_exists, not_and]
    refine ⟨fun he => ?_, fun v _ he => ?_⟩
    · simp only [LFE_STATUS.reg, LFE_CHn_CFG.TRIM] at he
      omega
    · simp only [LFE_CHn_STAT.reg, LFE_CHn_CFG.TRIM] at he
      omega
  have hburst := h.fld LFE_DIAG_CTL.BURST (hlow _ (by decide) (by decide))
  have hfreq := h.fld LFE_CARRIER.F_HZ (hlow _ (by decide) (by decide))
  simp only [burstTicks, runFreq, lfFreq, hburst, hfreq, htrim]

/-- Another round follows (R151). -/
theorem RoundEnds.goesOn (h : RoundEnds t s r k rest) (m : List RingMeas) (hst : s.pwr.st ≠ .watch) {k1 : Nat} {l : List Nat}
    (hrest : rest = k1 :: l) (hsafe : padsSafe s = false) : let recs := roundRecs r k m s
    ∃ (r1 : LfRun) (s' : State), exec (.lfDiagRoundEnd t m) s = .next s' ∧
      r1.todo = rest ∧ r1.rounds = r.rounds + 1 ∧ r1.rings = r.rings ++ recs ∧ r1.seq = roundStop r k s ∧ r1.phase = .drive ∧
      (let ends := roundStop r k s + usTicks 2 + burstTicks r.req (roundChans k1 r.chans) s
       s'.pins.drive = if now (elapse t s) < ends then quartersOf (roundChans k1 r.chans) else 0) ∧
      settles { elapse t s with lf := { s.lf with run := some r1 }, regs := s'.regs } s' ∧
      (∀ x ∈ recs, fld (LFE_CHn_STAT.RESULT x.node) s' = x.result) ∧
      keepsRegs (LFE_STATUS.reg :: recs.map (fun x => LFE_CHn_STAT.reg x.node)) s s' := by
  intro recs
  let r1 : LfRun := roundDone r recs rest (roundStop r k s)
  let y : State := { elapse t s with lf := { s.lf with run := some r1 } }
  let notes : List (Field × Nat) := ringNotes (roundHot recs) recs
  have hexec : exec (.lfDiagRoundEnd t m) s = .next (finish (setFlds notes y)) := by
    have hrun := h.runs m
    dsimp only at hrun
    rw [hrest, if_neg (by simp)] at hrun
    rw [hrun]
    have hlf : (roundNoted t s recs).lf = s.lf := by rw [roundNoted, setFlds_regs]; exact elapse_lf t s
    simp only [y, setFlds_withLf, r1, hrest]
    rw [hlf]
    rfl
  have hlgr : y.lgr = s.lgr := elapse_lgr t s
  have hfold : y.fold = s.fold := elapse_fold t s
  have hoffs := ringNotes_offs (roundHot recs) recs
  obtain ⟨h1, h2, h3⟩ := flagged_settles (t := t) (y := y) h.live hlgr hfold rfl rfl hoffs
  have hframe : setFlds notes y = { y with regs := (setFlds notes y).regs } := setFlds_regs notes y
  obtain ⟨hh, hw, hq⟩ := live_hostWait (x := setFlds notes y) h.live (by rw [hframe]; exact hlgr) (by rw [hframe]; exact hfold)
  have hkept : RegsKept (LFE_STATUS.reg :: recs.map (fun x => LFE_CHn_STAT.reg x.node)) (elapse t s) (setFlds notes y) :=
    (RegsKept.of_eq (s := elapse t s) (s' := y) _ rfl rfl).trans (.setFlds notes y hoffs)
  have hphase : drivePhase (setFlds notes y) = some (quartersOf (roundChans k1 r.chans), roundStop r k s,
      roundStop r k s + usTicks 2 + burstTicks r.req (roundChans k1 r.chans) s) := by
    have hb := burstTicks_noted (r := r) (roundChans k1 r.chans) hkept
    rw [burstTicks_elapse] at hb
    rw [← hb]
    have hlf : (setFlds notes y).lf.run = some r1 := by rw [hframe]
    generalize setFlds notes y = z at *
    unfold drivePhase
    rw [hlf]
    dsimp only
    rw [show r1.req.kind = .diagRing from h.kind, show r1.todo = k1 :: l from hrest]
    rfl
  have hz : padsSafe (setFlds notes y) = false := by
    rw [hframe, ← hsafe]
    simp only [y, padsSafe, islandOn, elapse_pins, elapse_pwr]
    rw [elapse_clk_counts]
  have hpwr : (setFlds notes y).pwr.st ≠ .watch := by
    rw [hframe]
    exact fun he => hst ((congrArg Pwr.st (elapse_pwr t s)).symm.trans he)
  obtain ⟨hdrive, -⟩ := finish_drives hh hw hq hpwr hz hphase
  have hnow : now (setFlds notes y) = now (elapse t s) := by
    rw [hframe]
    rfl
  have hwf : Regs.wf y = true := memorySafe_elapse_wf h.mem t
  refine ⟨r1, _, hexec, rfl, rfl, rfl, rfl, rfl, ?_, h1, fun a ha => ?_, h2⟩
  · rw [hdrive, hnow]
    simp only [h.due, decide_true, Bool.true_and, decide_eq_true_eq]
  · rw [h3]
    exact (ringNotes_fld (x := y) (hot := roundHot recs) (rings := recs) (roundRecs_fit r k m s) hwf ha).1

/-! ## The last round -/

theorem notePass_none {rings : List RingRec} (h : x.lf.cals = []) : notePass d rings x = x := by
  have hlf : ({ x.lf with cals := [] } : Lf) = x.lf := by rw [← h]
  rw [notePass, h, List.map_nil, hlf]

theorem dmaWrite_lf (d : Desc) (a : Nat) (bs : Bytes) (x : State) : (dmaWrite d a bs x).lf = x.lf := by
  cases hs : d.src <;> simp only [dmaWrite, hs]

/-- The state at the end of an LF_DIAG RING, before its completion. -/
def ringsOver (t : Nat) (s : State) (r : LfRun) (recs : List RingRec) : State :=
  endLf false (r.satur || roundHot recs) (roundNoted t s recs)

/-- What its records leave (R149). -/
structure RingsNoted (t : Nat) (s : State) (recs : List RingRec) (x : State) : Prop where
  frame : x = { elapse t s with lf := { s.lf with run := none }, regs := x.regs }
  result : ∀ a ∈ recs, fld (LFE_CHn_STAT.RESULT a.node) x = a.result
  keeps : keepsRegs (LFE_STATUS.reg :: LFE_CNT.reg :: recs.map (fun x => LFE_CHn_STAT.reg x.node)) s x
  kept : RegsKept (LFE_STATUS.reg :: LFE_CNT.reg :: recs.map (fun x => LFE_CHn_STAT.reg x.node)) (elapse t s) x

theorem RoundEnds.noted (h : RoundEnds t s r k rest) (m : List RingMeas) :
    RingsNoted t s (roundRecs r k m s) (ringsOver t s r (roundRecs r k m s)) := by
  have hfit := roundRecs_fit r k m s
  generalize roundRecs r k m s = recs at *
  have hwf : Regs.wf (elapse t s) = true := memorySafe_elapse_wf h.mem t
  have hnoted : RegsKept (LFE_STATUS.reg :: recs.map (fun x => LFE_CHn_STAT.reg x.node)) (elapse t s) (roundNoted t s recs) :=
    .setFlds _ _ (ringNotes_offs _ recs)
  obtain ⟨hframe, hkept, -⟩ := endLf_ends false (r.satur || roundHot recs) (roundNoted t s recs) (hnoted.wf hwf)
  have hall : RegsKept (LFE_STATUS.reg :: LFE_CNT.reg :: recs.map (fun x => LFE_CHn_STAT.reg x.node)) (elapse t s)
      (ringsOver t s r recs) := by
    refine (hnoted.mono ?_).trans (hkept.mono ?_)
    · intro a ha
      rcases List.mem_cons.mp ha with rfl | ha
      · exact List.mem_cons_self
      · exact List.mem_cons_of_mem _ (List.mem_cons_of_mem _ ha)
    · intro a ha
      rw [List.mem_singleton.mp ha]
      exact List.mem_cons_of_mem _ List.mem_cons_self
  refine ⟨?_, fun a ha => ?_, fun off ho => by rw [hall.keeps off ho, elapse_regGet], hall⟩
  · have hregs : roundNoted t s recs = { elapse t s with regs := (roundNoted t s recs).regs } := setFlds_regs _ _
    show endLf false (r.satur || roundHot recs) (roundNoted t s recs) = _
    rw [ringsOver]
    generalize endLf false (r.satur || roundHot recs) (roundNoted t s recs) = z at *
    generalize roundNoted t s recs = v at *
    rw [hframe, hregs]
    simp only [elapse_lf]
  · have hcnt : (LFE_CHn_STAT.RESULT a.node).off ∉ [LFE_CNT.reg] := by
      simp only [List.mem_singleton, LFE_CHn_STAT.RESULT, LFE_CNT.reg]
      omega
    rw [ringsOver, hkept.fld _ hcnt]
    exact (ringNotes_fld (x := elapse t s) (hot := roundHot recs) (rings := recs) hfit hwf ha).1

/-- The rings in node order. -/
def ringsSorted (rings : List RingRec) : List RingRec := rings.foldl (fun l x => insertRing x l) []

/-- The bytes of the records that DST takes (R160). -/
def ringsOut (d : Desc) (rings : List RingRec) : Bytes := ((rings.take (d.len / 8)).map ringBytes).flatten

theorem take_min_length {α : Type} (l : List α) (n : Nat) : l.take (min l.length n) = l.take n := by
  rw [List.take_eq_take_iff]
  omega

/-- The descriptor completes with its records (R160). -/
theorem finishDiag_completes {v : State} {r1 : LfRun} (hd : r1.req.desc = some d)
    (hfree : dmaBlocked d d.dstAddr (ringsOut d (ringsSorted r1.rings)).length (endLf false r1.satur v) = false) :
    let rings := ringsSorted r1.rings
    finishDiag r1 v = settleLfCals (notePass d rings (complete d stOk (diagResult rings r1.rounds) 0
      (dmaWrite d d.dstAddr (ringsOut d rings) (endLf false r1.satur v)))) := by
  intro rings
  unfold finishDiag
  rw [hd]
  dsimp only
  rw [take_min_length]
  exact congrArg (fun z => settleLfCals (notePass d rings z)) (writeDst_ok _ hfree)

theorem RoundEnds.reports (h : RoundEnds t s r k []) (m : List RingMeas) (hcals : s.lf.cals = []) (hd : r.req.desc = some d)
    (hh : heard d (elapse t s) = true) : let recs := roundRecs r k m s
    let rings := ringsSorted (r.rings ++ recs)
    dmaBlocked d d.dstAddr (ringsOut d rings).length s = false →
    ∃ s1 s', exec (.lfDiagRoundEnd t m) s = .next s' ∧
      answers d stOk (diagResult rings (r.rounds + 1)) 0 (dmaWrite d d.dstAddr (ringsOut d rings) s1) s' ∧
      RingsNoted t s recs s1 := by
  intro recs rings hfree
  have hnoted := h.noted m
  let x : State := ringsOver t s r recs
  have hrun := h.runs m
  dsimp only at hrun
  rw [if_pos List.isEmpty_nil] at hrun
  have hblock : dmaBlocked d d.dstAddr (ringsOut d rings).length x = false := by
    rw [show x = _ from hnoted.frame, ← hfree, ← elapse_dmaBlocked d d.dstAddr (ringsOut d rings).length t s]
    rfl
  have hfin := finishDiag_completes (v := roundNoted t s recs) (r1 := roundDone r recs [] (roundStop r k s)) hd hblock
  have ha := answerable_at h.live h.mem hh
  have hans : Answerable d x := by
    rw [show x = _ from hnoted.frame]
    exact ⟨ha.heard, ha.mem, ha.hostWait, ha.wait, ha.queue⟩
  have hdone := (hans.dmaWrite d.dstAddr (ringsOut d rings)).quiet (res := diagResult rings (r.rounds + 1)) (det := 0)
    (quietStatus_ok d.opcode)
  have hhost := complete_quiet_hostOnly d stOk (diagResult rings (r.rounds + 1)) 0 (dmaWrite d d.dstAddr (ringsOut d rings) x)
    (quietStatus_ok d.opcode)
  have hlf : (complete d stOk (diagResult rings (r.rounds + 1)) 0 (dmaWrite d d.dstAddr (ringsOut d rings) x)).lf.cals = [] := by
    rw [show (complete d stOk (diagResult rings (r.rounds + 1)) 0 (dmaWrite d d.dstAddr (ringsOut d rings) x)).lf = x.lf from
      (congrArg State.lf hhost :).trans (dmaWrite_lf d _ _ x), show x = _ from hnoted.frame]
    exact hcals
  have hlast : exec (.lfDiagRoundEnd t m) s = .next (finish (complete d stOk (diagResult rings (r.rounds + 1)) 0
      (dmaWrite d d.dstAddr (ringsOut d rings) x))) := by
    rw [hrun, hfin]
    refine congrArg (fun z => Host.Outcome.next (finish z)) ?_
    refine (congrArg settleLfCals (notePass_none hlf)).trans (settleLfCals_none hlf)
  exact ⟨x, _, hlast, hdone, hnoted⟩

end

end Sys2Proof.Machine
end

section
/-! SUPPORT. The end of a listen. -/
namespace Sys2Proof.Machine

section
variable {s x y : State} {t : Nat} {r : LfRun} {d : Desc}

/-- A listen's window has ended (R161). -/
structure ListenEnds (t : Nat) (s : State) (r : LfRun) (d : Desc) : Prop where
  live : live s = true
  mem : memorySafe s
  run : s.lf.run = some r
  kind : r.req.kind = .listen
  desc : r.req.desc = some d
  quiet : bit 0 r.req.opts = false
  due : r.start + msTicks (p16 d 0) ≤ now (elapse t s)
  heard : heard d (elapse t s) = true

/-- What the measurements set (R153). -/
def listenFlds (s : State) (ms : List SenseMeas) : List (Field × Nat) :=
  flagFlds 0 (ms.filter (fun x => !overThr s x)) ++ satFlds (ms.any (·.sat))

/-- The state at the end of a listen, before its completion. -/
def listenOver (t : Nat) (s : State) (ms : List SenseMeas) : State :=
  endLf false (ms.any (·.sat)) (setFlds (listenFlds s ms) (elapse t s))

/-- What the strongest measurement reports (R161). -/
def listenTail (ms : List SenseMeas) : Bytes :=
  match strongest ms with
  | some x => leBytes 2 x.ch ++ leBytes 2 x.peak ++ leBytes 2 x.freq
  | none => leBytes 2 0xFFFF ++ leBytes 4 0

/-- The bytes at DST (Table 06.12). -/
def listenOut (s : State) (d : Desc) (ms : List SenseMeas) : Bytes := ((ms.take (d.len / 8)).map (listenBytes s)).flatten

theorem listenBytes_elapse (t : Nat) (s : State) : listenBytes (elapse t s) = listenBytes s := by
  funext m
  simp only [listenBytes, overThr_elapse]

theorem listenFlds_offs (s : State) (ms : List SenseMeas) : (listenFlds s ms).all (fun p =>
    (LFE_STATUS.reg :: ms.map (fun x => LFE_CHn_STAT.reg x.ch)).contains p.1.off) = true := by
  rw [listenFlds, List.all_append, Bool.and_eq_true]
  refine ⟨flagFlds_offs fun v hv => List.mem_cons_of_mem _ (List.mem_map_of_mem (List.mem_filter.mp hv).1), ?_⟩
  cases ms.any (·.sat)
  · rfl
  · rfl

theorem ListenEnds.runs (h : ListenEnds t s r d) (m : List SenseMeas) : let ms := r.chans.map (senseOf m)
    exec (.lfListenWindowEnd t m) s = .next (finish (writeDst d (listenOut s d ms) (complete d stOk
      (leBytes 2 ms.length ++ leBytes 2 (ms.countP (overThr s)) ++ listenTail ms) 0) (listenOver t s ms))) := by
  intro ms
  have hdue := h.due
  refine (command_live t _ s h.live).trans ?_
  rw [listenEnd, elapse_lf, h.run]
  dsimp only
  rw [h.desc]
  dsimp only
  rw [onlyIf, if_pos (by simp [h.kind, hdue]), h.quiet]
  simp only [Bool.false_eq_true, if_false, Bool.false_and, take_min_length, List.countP_eq_length_filter]
  rw [overThr_elapse, listenBytes_elapse, clearFf_eq, noteSat_eq, ← setFlds_append, overThr_elapse]
  rfl

/-- What a listen's end leaves. -/
structure Listened (t : Nat) (s : State) (ms : List SenseMeas) (x : State) : Prop where
  frame : x = { elapse t s with lf := { s.lf with run := none }, regs := x.regs }
  cleared : ∀ v ∈ ms, overThr s v = false → fld (LFE_CHn_STAT.FF v.ch) x = 0
  keeps : keepsRegs (LFE_STATUS.reg :: LFE_CNT.reg :: ms.map (fun x => LFE_CHn_STAT.reg x.ch)) s x

theorem listenOver_leaves (ms : List SenseMeas) (hwf : Regs.wf (elapse t s) = true) :
    Listened t s ms (listenOver t s ms) := by
  let v : State := setFlds (listenFlds s ms) (elapse t s)
  have hv : v = { elapse t s with regs := v.regs } := setFlds_regs _ _
  have hset : RegsKept (LFE_STATUS.reg :: ms.map (fun x => LFE_CHn_STAT.reg x.ch)) (elapse t s) v :=
    .setFlds _ _ (listenFlds_offs s ms)
  obtain ⟨hframe, hkept, -⟩ := endLf_ends false (ms.any (·.sat)) v (hset.wf hwf)
  refine ⟨?_, fun a ha hov => ?_, fun off ho => ?_⟩
  · show endLf false (ms.any (·.sat)) v = _
    rw [listenOver]
    rw [show setFlds (listenFlds s ms) (elapse t s) = v from rfl]
    generalize endLf false (ms.any (·.sat)) v = z at *
    generalize v = u at *
    rw [hframe, hv]
    simp only [elapse_lf]
  · have hcnt : (LFE_CHn_STAT.FF a.ch).off ∉ [LFE_CNT.reg] := by
      simp only [List.mem_singleton, LFE_CHn_STAT.FF, LFE_CNT.reg]
      omega
    have hg : isChanStat (LFE_CHn_STAT.FF a.ch) := ⟨a.ch, by simp⟩
    rw [listenOver, hkept.fld _ hcnt]
    refine fld_setFlds_eq hwf ?_ Nat.zero_lt_two (fun p hp hc => ?_)
      (.inl ⟨_, List.mem_append_left _ (List.mem_map_of_mem (List.mem_filter.mpr ⟨ha, by simp [hov]⟩)), rfl⟩)
    · rw [listenFlds, readable, List.all_append, Bool.and_eq_true]
      exact ⟨flagFlds_readable hg 0 _, satFlds_readable hg _⟩
    · rcases List.mem_append.mp hp with hp | hp
      · obtain ⟨v, -, -, hv0⟩ := mem_flagFlds hp hc
        exact hv0
      · exact absurd hc (satFlds_ne hg hp)
  · simp only [List.mem_cons, not_or] at ho
    rw [listenOver, hkept.keeps off (by simpa using ho.2.1), hset.keeps off (by rw [List.mem_cons, not_or]; exact ⟨ho.1, ho.2.2⟩), elapse_regGet]

/-- LF_LISTEN_WINDOW_END without events (R161). -/
theorem ListenEnds.answers (h : ListenEnds t s r d) (m : List SenseMeas) : let ms := r.chans.map (senseOf m)
    dmaBlocked d d.dstAddr (listenOut s d ms).length s = false →
    ∃ s1 s', exec (.lfListenWindowEnd t m) s = .next s' ∧
      answers d stOk (leBytes 2 ms.length ++ leBytes 2 (ms.countP (overThr s)) ++ listenTail ms) 0
        (dmaWrite d d.dstAddr (listenOut s d ms) s1) s' ∧ Listened t s ms s1 := by
  intro ms hfree
  have hleft := listenOver_leaves ms (memorySafe_elapse_wf h.mem t)
  have hrun := h.runs m
  dsimp only at hrun
  rw [show r.chans.map (senseOf m) = ms from rfl] at hrun
  generalize listenOver t s ms = x at *
  have hblock : dmaBlocked d d.dstAddr (listenOut s d ms).length x = false := by
    rw [hleft.frame, ← hfree, ← elapse_dmaBlocked d d.dstAddr (listenOut s d ms).length t s]
    rfl
  rw [writeDst_ok _ hblock] at hrun
  have ha := answerable_at h.live h.mem h.heard
  have hans : Answerable d x := by
    rw [hleft.frame]
    exact ⟨ha.heard, ha.mem, ha.hostWait, ha.wait, ha.queue⟩
  exact ⟨x, _, hrun, (hans.dmaWrite d.dstAddr (listenOut s d ms)).quiet (quietStatus_ok d.opcode), hleft⟩

end

end Sys2Proof.Machine
end

section
/-! SUPPORT. LF_CAL, and the statement of the diagnostics. -/
namespace Sys2Proof.Machine

section
variable {s w x y : State} {t tag : Nat} {d p : Desc} {c : LfCal} {step : CalStep} {l : List CalChan}

/-! ## A pass enters the queue -/

/-- A unit works on a descriptor in flight. -/
theorem atWork_flying (d : Desc) (x : State) : (atWork d x).hif.flight.any (fun f => f.is d) = true := by
  have hself : sameDesc d d = true := by simp [sameDesc]
  have haccept : ∀ z : State, z.hif.flight.any (fun f => f.is d) = true → (accept d z).hif.flight.any (fun f => f.is d) = true := by
    intro z hz
    obtain ⟨f, hf, hfd⟩ := List.any_eq_true.mp hz
    refine List.any_eq_true.mpr ⟨_, List.mem_map_of_mem hf, ?_⟩
    rw [if_pos hfd]
    exact hfd
  have henter : ∀ z : State, (enterFlight d z).hif.flight.any (fun f => f.is d) = true := by
    intro z
    have hdepth : ∀ u : State, (noteDepth u).hif = u.hif := by
      intro u
      unfold noteDepth
      split <;> rfl
    have hin : ⟨d, opFirmware d.opcode && isHost d, false, now z⟩ ∈ (enterFlight d z).hif.flight := by
      unfold enterFlight
      dsimp only
      split
      · rw [hdepth]
        exact List.mem_append_right _ (List.mem_singleton.mpr rfl)
      · exact List.mem_append_right _ (List.mem_singleton.mpr rfl)
    exact List.any_eq_true.mpr ⟨_, hin, hself⟩
  unfold atWork
  by_cases hf : x.hif.flight.any (fun f => f.d == d) = true
  · rw [if_pos hf]
    refine haccept x ?_
    obtain ⟨f, hf, hfd⟩ := List.any_eq_true.mp hf
    refine List.any_eq_true.mpr ⟨f, hf, ?_⟩
    rw [Flight.is, eq_of_beq hfd]
    exact hself
  · rw [if_neg hf]
    exact haccept _ (henter _)

/-- The LF_DIAG of a step of LF_CAL. -/
def calPassDesc (d : Desc) (tag : Nat) (step : CalStep) (l : List CalChan) (w : State) : Desc := calDesc d tag step l.length w

/-- Its entry in the LF queue. -/
def calReq (d : Desc) (tag : Nat) (step : CalStep) (l : List CalChan) (w : State) : LfReq :=
  { hostReq (if step == .apply then .diagApply else .diagRing) (calPassDesc d tag step l w) 0
      (p8 (calPassDesc d tag step l w) 1) 0 w with trial := calTrial l }

/-- The host interface with the pass in flight. -/
def calHif (d : Desc) (tag : Nat) (step : CalStep) (l : List CalChan) (w : State) : Hif :=
  { w.hif with
    dispNo := w.hif.dispNo + 1
    flight := (w.hif.flight ++ [(⟨calPassDesc d tag step l w, false, false, now w⟩ : Flight)]).map
      (fun f => if f.is (calPassDesc d tag step l w) then { f with accepted := true } else f) }

theorem enqueueHost_frame (d : Desc) (r : LfReq) (w : State) : enqueueHost d r w = { w with lf := (enqueueHost d r w).lf } ∧
    (enqueueHost d r w).lf.cals = w.lf.cals ∧ (enqueueHost d r w).lf.run = w.lf.run ∧
    (lfDepth w < 16 → w.lf.wait = [] → (enqueueHost d r w).lf.queue = w.lf.queue ++ [r]) := by
  unfold enqueueHost
  split
  · exact ⟨rfl, rfl, rfl, fun _ _ => rfl⟩
  · next h => exact ⟨rfl, rfl, rfl, fun h1 h2 => absurd (by simp [h1, h2]) h⟩

/-- What a pass leaves when it enters the queue (R16, R144). -/
structure PassEnters (d : Desc) (tag : Nat) (step : CalStep) (l : List CalChan) (w x : State) : Prop where
  frame : x = { w with hif := calHif d tag step l w, lf := x.lf }
  cals : x.lf.cals = w.lf.cals ++ [⟨d, step, l, calPassDesc d tag step l w, []⟩]
  run : x.lf.run = w.lf.run
  queue : lfDepth w < 16 → w.lf.wait = [] → x.lf.queue = w.lf.queue ++ [calReq d tag step l w]

theorem calPass_enters (d : Desc) (tag : Nat) (step : CalStep) (l : List CalChan) (w : State) :
    PassEnters d tag step l w (calPass d tag step l w) := by
  let v : State := { w with
    hif := calHif d tag step l w
    lf := { w.lf with cals := w.lf.cals ++ [⟨d, step, l, calPassDesc d tag step l w, []⟩] } }
  have hrun : calPass d tag step l w = enqueueHost (calPassDesc d tag step l w) (calReq d tag step l w) v := by
    have henter : ∀ z : State, enterFlight (calPassDesc d tag step l w) z =
        { z with hif := { z.hif with flight := z.hif.flight ++ [⟨calPassDesc d tag step l w, false, false, now z⟩] } } := by
      intro z
      unfold enterFlight
      dsimp only
      rw [show (opFirmware (calPassDesc d tag step l w).opcode && isHost (calPassDesc d tag step l w)) = false from rfl]
      rfl
    unfold calPass
    dsimp only
    rw [show calDesc d tag step l.length w = calPassDesc d tag step l w from rfl, henter]
    rfl
  obtain ⟨h1, h2, h3, h4⟩ := enqueueHost_frame (calPassDesc d tag step l w) (calReq d tag step l w) v
  rw [← hrun] at h1 h2 h3 h4
  exact ⟨h1, h2, h3, h4⟩

/-! ## The first pass -/

theorem fldNow_free (f : Field) (h : x.heldWr = []) : fldNow f x = fld f x := by
  rw [fldNow, regNow, h]
  rfl

/-- The step that LF_CAL begins with (R162). -/
def calFirst (d : Desc) : CalStep :=
  if bit 0 (p8 d 0) then .tune else if bit 1 (p8 d 0) then .level ((if p8 d 1 = 0 then 2 else p8 d 1) - 1) else .verify

theorem calFirst_ne_apply (d : Desc) : (calFirst d == .apply) = false := by
  unfold calFirst
  split
  · rfl
  · split
    · rfl
    · rfl

/-- Its channels with the settings that they have. -/
def calChans (s : State) (node : Nat) : List CalChan := (diagChans s.fold.live node s).map (fun c =>
  ⟨c, signed 12 (fld (LFE_CHn_CFG.TRIM c) s), fld (LFE_CHn_CFG.DUTY c) s, 0, 0, 0⟩)

theorem lfCal_begins (hs : serves t d s) (hheld : s.heldWr = []) (hrow : isRow 0x12 d = true) (hbad : lfCalParBad d = none)
    (hcals : s.lf.cals = []) (hroom : lfDepth s < 16) (hwait : s.lf.wait = []) :
    ∃ (p : Desc) (c : LfCal) (q : LfReq) (s' : State), exec (.lfCal t d tag) s = .next s' ∧
      p.src = .drover ∧ p.opcode = 0x11 ∧ p.tag = tag ∧ p.target = d.target ∧ p8 p 0 = 0 ∧
      s'.lf.cals = [c] ∧ c.d = d ∧ c.pass = p ∧ c.step = calFirst d ∧
      c.chans.map (·.ch) = diagChans s.fold.live d.target s ∧
      (∀ x ∈ c.chans, x.trim = signed 12 (fld (LFE_CHn_CFG.TRIM x.ch) s) ∧ x.duty = fld (LFE_CHn_CFG.DUTY x.ch) s) ∧
      s'.lf.queue = s.lf.queue ++ [q] ∧ q.kind = .diagRing ∧ q.node = d.target ∧ q.desc = some p ∧
      q.trial = c.chans.map (fun x => ⟨x.ch, x.duty, x.trim⟩) ∧
      s'.hif.flight.any (fun f => f.d == p) = true ∧ s'.hif.flight.any (fun f => f.is d) = true ∧
      keepsRegs [] s s' ∧ keepsMemory s s' := by
  obtain ⟨hans, hrun⟩ := served_atWork hs
  obtain ⟨h, hw, -⟩ := served_atUnit hs
  have hfly := atWork_flying d (elapse t s)
  have hl : live s = true := ((running_iff s).mp hs.1).1
  let w : State := atWork d (elapse t s)
  have hsame : SameTree w s := by
    rw [show w = withHif h (elapse t s) from hw]
    exact ⟨elapse_part t s, elapse_regs t s, elapse_fold t s, elapse_flk t s⟩
  have hwheld : w.heldWr = [] := by
    rw [show w = withHif h (elapse t s) from hw]
    exact (elapse_heldWr t s).trans hheld
  have hlf : w.lf = s.lf := by
    rw [show w = withHif h (elapse t s) from hw]
    exact elapse_lf t s
  let l : List CalChan := calChans s d.target
  have hchans : (diagChans w.fold.live d.target w).map (fun c =>
      (⟨c, trimOf c w, fldNow (LFE_CHn_CFG.DUTY c) w, 0, 0, 0⟩ : CalChan)) = l := by
    have hdiag : diagChans w.fold.live d.target w = diagChans s.fold.live d.target s := by
      simp only [diagChans, hsame.fold, hsame.leafPresent, hsame.leafRetired]
    simp only [hdiag, trimOf, fldNow_free _ hwheld, hsame.fld]
    rfl
  have hexec : exec (.lfCal t d tag) s = .next (finish (calPass d tag (calFirst d) l w)) := by
    show descCommand t (asOp 0x12 d) (lfCalUnit tag) s = _
    rw [asOp_self hrow, hrun (lfCalUnit tag)]
    refine congrArg (fun z => Host.Outcome.next (finish z)) ?_
    show lfCalUnit tag d w = _
    unfold lfCalUnit
    rw [hlf, hcals, List.any_nil, if_neg (by decide), hbad]
    dsimp only
    rw [hchans]
    rfl
  have hin := calPass_enters d tag (calFirst d) l w
  let p : Desc := calPassDesc d tag (calFirst d) l w
  generalize calPass d tag (calFirst d) l w = x at *
  have hlgr : x.lgr = s.lgr := by rw [hin.frame, show w = _ from hw]; exact elapse_lgr t s
  have hfold : x.fold = s.fold := by rw [hin.frame]; exact hsame.fold
  have hset : settles x (finish x) := finish_settles_of s x hl hlgr hfold
  have hpar : p8 p 0 = 0 := by
    show p8 (calDesc d tag (calFirst d) l.length w) 0 = 0
    simp only [calDesc, calFirst_ne_apply]
    rfl
  have hkind : (calReq d tag (calFirst d) l w).kind = .diagRing := by
    simp only [calReq, calFirst_ne_apply]
    rfl
  refine ⟨p, ⟨d, calFirst d, l, p, []⟩, calReq d tag (calFirst d) l w, _, hexec, rfl, rfl, rfl, rfl, hpar, ?_, rfl, rfl, rfl, ?_,
    fun a ha => ?_, ?_, hkind, rfl, rfl, rfl, ?_, ?_, fun off _ => ?_, ?_⟩
  · rw [settles_lf hset, hin.cals, hlf, hcals]
    rfl
  · simp only [l, calChans, List.map_map]
    exact List.map_id _
  · obtain ⟨n, -, rfl⟩ := List.mem_map.mp ha
    exact ⟨rfl, rfl⟩
  · rw [settles_lf hset, hin.queue (by rw [lfDepth, hlf]; exact hroom) (by rw [hlf]; exact hwait), hlf]
  · rw [settles_hif hset, hin.frame]
    refine List.any_eq_true.mpr ⟨_, List.mem_map_of_mem (List.mem_append_right _ (List.mem_singleton.mpr rfl)), ?_⟩
    split
    · exact beq_self_eq_true p
    · exact beq_self_eq_true p
  · obtain ⟨f, hf, hfd⟩ := List.any_eq_true.mp hfly
    rw [settles_hif hset, hin.frame]
    refine List.any_eq_true.mpr ⟨_, List.mem_map_of_mem (List.mem_append_left _ hf), ?_⟩
    split
    · exact hfd
    · exact hfd
  · rw [settles_regGet hset, hin.frame]
    show regGet off w = _
    rw [show w = withHif h (elapse t s) from hw]
    exact elapse_regGet off t s
  · refine keepsMemory_of hset ?_ ?_ ?_ ?_ ?_
    all_goals
      rw [hin.frame, show w = withHif h (elapse t s) from hw]
      simp [withHif]

/-! ## The end of a pass -/

/-- A quiet completion of Drover's own descriptor. -/
theorem complete_drover {st det : Nat} {res : Bytes} (hsrc : p.src = .drover) (hq : quietStatus st p.opcode = true)
    (hh : heard p x = true) (hmon : x.mon.desc = none) : complete p st res det x =
      leaveFlight p (withHif { x.hif with back := ⟨p, st, fit 14 res, det, now x⟩ :: x.hif.back } (drained p x)) := by
  have hgone : x.hif.flight.any (fun f => f.is p && f.discard) = false := by
    simp only [heard, Bool.and_eq_true, Bool.not_eq_true'] at hh
    exact hh.1
  have hdr : (drained p x).hif = x.hif ∧ (drained p x).mon = x.mon := by
    unfold drained
    split <;> exact ⟨rfl, rfl⟩
  rw [complete_eq, counted_quiet x hq, routeEntry, hsrc]
  dsimp only
  rw [hgone, if_neg (by decide), hdr.1]
  unfold answerDesc
  rw [show (leaveFlight p { drained p x with hif := { x.hif with back := ⟨p, st, fit 14 res, det, now x⟩ :: x.hif.back } }).mon.desc
    = none from (congrArg Mon.desc hdr.2).trans hmon]
  rfl

/-- After its pass an LF_CAL takes its next step (R162). -/
theorem settleLfCals_steps {rings : List RingRec} {st : Nat} {z : State} {b : HeldCpl} (hcals : z.lf.cals = [c])
    (hfly : isFlying c.pass z = false) (hback : z.hif.back.find? (fun v => sameDesc v.d c.pass) = some b)
    (hst : b.status = st) : settleLfCals (notePass c.pass rings z) =
      stepCal { c with rings := rings } st { z with lf := { z.lf with cals := [] } } := by
  have hself : ∀ d : Desc, sameDesc d d = true := fun d => by simp [sameDesc]
  have hnote : notePass c.pass rings z = { z with lf := { z.lf with cals := [{ c with rings := rings }] } } := by
    rw [notePass, hcals, List.map_cons, List.map_nil, if_pos (hself _)]
  rw [hnote]
  unfold settleLfCals
  rw [List.find?_cons, show (!isFlying ({ c with rings := rings } : LfCal).pass
    { z with lf := { z.lf with cals := [{ c with rings := rings }] } }) = true from by rw [← Bool.not_false, ← hfly]; rfl]
  dsimp only
  rw [hback, List.filter_cons, hself, if_neg (by decide), List.filter_nil]
  subst hst
  rfl

/-- A pass of LF_CAL ends with its only round. -/
structure PassEnds (t : Nat) (s : State) (r : LfRun) (c : LfCal) (k : Nat) : Prop extends RoundEnds t s r k [] where
  held : s.heldWr = []
  rings : r.rings = []
  desc : r.req.desc = some c.pass
  len : c.pass.len = 0
  port : c.pass.src = .drover
  other : c.d.src ≠ .drover
  cals : s.lf.cals = [c]
  heard : heard c.pass (elapse t s) = true
  quiet : s.mon.desc = none

/-- The host interface after the pass's completion. -/
def passHif (t : Nat) (s : State) (c : LfCal) (rings : List RingRec) (rounds : Nat) : Hif :=
  { s.hif with
    flight := s.hif.flight.filter (fun f => !f.is c.pass)
    droverQ := s.hif.droverQ.filter (fun x => !sameDesc x c.pass)
    back := ⟨c.pass, stOk, fit 14 (diagResult rings rounds), 0, now (elapse t s)⟩ :: s.hif.back }

/-- The state from which LF_CAL takes its next step. -/
def passOver (t : Nat) (s : State) (r : LfRun) (c : LfCal) (recs : List RingRec) : State :=
  drained c.pass { ringsOver t s r recs with
    hif := passHif t s c (ringsSorted recs) (r.rounds + 1), lf := { s.lf with run := none, cals := [] } }

theorem PassEnds.steps {r : LfRun} {k : Nat} (h : PassEnds t s r c k) (m : List RingMeas) : let recs := roundRecs r k m s
    exec (.lfDiagRoundEnd t m) s =
      .next (finish (stepCal { c with rings := ringsSorted recs } stOk (passOver t s r c recs))) := by
  intro recs
  have hnoted := h.toRoundEnds.noted m
  have hrun := h.toRoundEnds.runs m
  dsimp only at hrun
  rw [if_pos List.isEmpty_nil] at hrun
  let x : State := ringsOver t s r recs
  have hframe : x = _ := hnoted.frame
  let rings : List RingRec := ringsSorted recs
  have hrings : ringsSorted (roundDone r recs [] (roundStop r k s)).rings = rings := by
    show ringsSorted (r.rings ++ recs) = rings
    rw [h.rings, List.nil_append]
  have hout : ringsOut c.pass rings = [] := by
    rw [ringsOut, h.len]
    rfl
  have hfree : dmaBlocked c.pass c.pass.dstAddr (ringsOut c.pass (ringsSorted (roundDone r recs [] (roundStop r k s)).rings)).length
      (endLf false (roundDone r recs [] (roundStop r k s)).satur (roundNoted t s recs)) = false := by
    simp [dmaBlocked, h.port]
  have hfin := finishDiag_completes (v := roundNoted t s recs) (r1 := roundDone r recs [] (roundStop r k s)) h.desc hfree
  dsimp only at hfin
  rw [hrings, hout] at hfin
  have hwrite : dmaWrite c.pass c.pass.dstAddr [] (endLf false (roundDone r recs [] (roundStop r k s)).satur (roundNoted t s recs)) =
      x := by
    simp only [dmaWrite, h.port, mwrite]
    rfl
  rw [hwrite] at hfin
  have hh : Machine.heard c.pass x = true := by
    rw [hframe]
    exact h.heard
  have hmon : x.mon.desc = none := by
    rw [hframe]
    exact (congrArg Mon.desc (elapse_mon t s)).trans h.quiet
  have hcomp := complete_drover (res := diagResult rings (r.rounds + 1)) (det := 0) h.port (quietStatus_ok _) hh hmon
  have hxhif : x.hif = s.hif := by rw [hframe]; exact elapse_hif t s
  have hxlf : x.lf = { s.lf with run := none } := by rw [hframe]
  have hxnow : now x = now (elapse t s) := by rw [hframe]; rfl
  let z : State := complete c.pass stOk (diagResult rings (r.rounds + 1)) 0 x
  have hz : z = withHif (passHif t s c rings (r.rounds + 1)) (drained c.pass x) := by
    rw [show z = _ from hcomp, hxhif, hxnow]
    rfl
  have hdr : ∀ v : State, (drained c.pass v).lf = v.lf := by
    intro v
    unfold drained
    split <;> rfl
  have hzlf : z.lf = { s.lf with run := none } := by
    rw [hz, ← hxlf]
    exact hdr x
  have hzhif : z.hif = passHif t s c rings (r.rounds + 1) := by
    rw [hz]
    rfl
  have hfly : isFlying c.pass z = false := by
    rw [isFlying, hzhif, List.any_eq_false]
    intro f hf
    have := (List.mem_filter.mp hf).2
    simpa using this
  have hback : z.hif.back.find? (fun b => sameDesc b.d c.pass) =
      some ⟨c.pass, stOk, fit 14 (diagResult rings (r.rounds + 1)), 0, now (elapse t s)⟩ := by
    rw [hzhif]
    exact List.find?_cons_of_pos (by simp [sameDesc])
  have hnext := settleLfCals_steps (c := c) (rings := rings) (by rw [hzlf]; exact h.cals) hfly hback rfl
  have hover : ({ z with lf := { z.lf with cals := [] } } : State) = passOver t s r c recs := by
    rw [hzlf, hz]
    unfold passOver drained
    split <;> rfl
  rw [hrun]
  refine congrArg (fun v => Host.Outcome.next (finish v)) ?_
  rw [hfin, show (roundDone r recs [] (roundStop r k s)).rounds = r.rounds + 1 from rfl]
  exact hnext.trans (congrArg (stepCal { c with rings := rings } stOk) hover)

theorem drained_frame (d : Desc) (v : State) : drained d v = { v with nv := (drained d v).nv } := by
  unfold drained
  split <;> rfl

/-- After TUNE every channel that rang is driven at its own frequency (R162). -/
theorem PassEnds.tunes {r : LfRun} {k : Nat} (h : PassEnds t s r c k) (m : List RingMeas) (hstep : c.step = .tune) :
    ∃ (c1 : LfCal) (s' : State), exec (.lfDiagRoundEnd t m) s = .next s' ∧ s'.lf.cals = [c1] ∧ c1.d = c.d ∧
      c1.step = (if bit 1 (p8 c.d 0) then .level ((if p8 c.d 1 = 0 then 2 else p8 c.d 1) - 1) else .verify) ∧
      c1.chans = (calRead (ringsSorted (roundRecs r k m s)) c.chans).map (fun x => if x.result = 1 ∨ x.result = 4
        then { x with trim := clampTrim ((10 * x.fres : Int) - fld LFE_CARRIER.F_HZ s) } else x) := by
  have hrun := h.steps m
  dsimp only at hrun
  have hnoted := h.toRoundEnds.noted m
  generalize roundRecs r k m s = recs at *
  let u : State := passOver t s r c recs
  have hu : u = { ringsOver t s r recs with
      hif := passHif t s c (ringsSorted recs) (r.rounds + 1), lf := { s.lf with run := none, cals := [] }
      nv := u.nv } := drained_frame _ _
  have hheld : u.heldWr = [] := by
    rw [hu, hnoted.frame]
    exact (elapse_heldWr t s).trans h.held
  have hcar : LFE_CARRIER.F_HZ.off ∉ LFE_STATUS.reg :: LFE_CNT.reg :: recs.map (fun x => LFE_CHn_STAT.reg x.node) := by
    simp only [List.mem_cons, List.mem_map, not_or, not_exists, not_and]
    refine ⟨by decide, by decide, fun v _ he => ?_⟩
    simp only [LFE_CHn_STAT.reg, LFE_CARRIER.F_HZ] at he
    omega
  have hfreq : fldNow LFE_CARRIER.F_HZ u = fld LFE_CARRIER.F_HZ s := by
    rw [fldNow_free _ hheld, ← elapse_fld LFE_CARRIER.F_HZ t s, ← hnoted.kept.fld _ hcar, hu]
    rfl
  let found : List CalChan := calRead (ringsSorted recs) c.chans
  let step : CalStep := if bit 1 (p8 c.d 0) then .level ((if p8 c.d 1 = 0 then 2 else p8 c.d 1) - 1) else .verify
  have htune : calTune u found = found.map (fun x => if x.result = 1 ∨ x.result = 4
      then { x with trim := clampTrim ((10 * x.fres : Int) - fld LFE_CARRIER.F_HZ s) } else x) := by
    rw [calTune, hfreq]
    refine List.map_congr_left fun a _ => ?_
    by_cases hg : a.result = 1 ∨ a.result = 4
    · rw [if_pos hg, if_pos (by simpa [CalChan.good] using hg)]
    · rw [if_neg hg, if_neg (by simpa [CalChan.good] using hg)]
  have hnext : stepCal { c with rings := ringsSorted recs } stOk u = calPass c.d c.pass.tag step (calTune u found) u := by
    unfold stepCal
    rw [show ({ c with rings := ringsSorted recs } : LfCal).step = .tune from hstep]
    rfl
  have hin := calPass_enters c.d c.pass.tag step (calTune u found) u
  rw [← hnext] at hin
  have hlgr : u.lgr = s.lgr := by rw [hu, hnoted.frame]; exact elapse_lgr t s
  have hfold : u.fold = s.fold := by rw [hu, hnoted.frame]; exact elapse_fold t s
  have hset := finish_settles_of s (stepCal { c with rings := ringsSorted recs } stOk u) h.live
    (by rw [hin.frame]; exact hlgr) (by rw [hin.frame]; exact hfold)
  refine ⟨⟨c.d, step, calTune u found, calPassDesc c.d c.pass.tag step (calTune u found) u, []⟩, _, hrun, ?_, rfl, rfl, htune⟩
  rw [settles_lf hset, hin.cals, show u.lf.cals = [] by rw [hu]]
  rfl

/-- After VERIFY without APPLY it reports (R162). -/
theorem PassEnds.reportsCal {r : LfRun} {k : Nat} (h : PassEnds t s r c k) (m : List RingMeas) (hstep : c.step = .verify)
    (hno : bit 2 (p8 c.d 0) = false) (hh : Machine.heard c.d (elapse t s) = true) :
    let found := calRead (ringsSorted (roundRecs r k m s)) c.chans
    let out := (found.map calBytes).flatten.take c.d.len
    dmaBlocked c.d c.d.dstAddr out.length s = false →
    ∃ s1 s', exec (.lfDiagRoundEnd t m) s = .next s' ∧
      answers c.d stOk [] 0 (dmaWrite c.d c.d.dstAddr out s1) s' ∧
      s1 = { elapse t s with lf := { s.lf with run := none, cals := [] }, regs := s1.regs } := by
  intro found out hfree
  have hrun := h.steps m
  dsimp only at hrun
  have hnoted := h.toRoundEnds.noted m
  let recs : List RingRec := roundRecs r k m s
  let s1 : State := { ringsOver t s r recs with lf := { s.lf with run := none, cals := [] } }
  let v : Hif := passHif t s c (ringsSorted recs) (r.rounds + 1)
  have hs1 : s1 = { elapse t s with lf := { s.lf with run := none, cals := [] }, regs := s1.regs } :=
    congrArg (fun z : State => { z with lf := { s.lf with run := none, cals := [] } }) hnoted.frame
  have hover : passOver t s r c recs = withHif v (drained c.pass s1) := by
    unfold passOver drained
    split <;> rfl
  have hqps : v.qps = (drained c.pass s1).hif.qps := by
    have hdr : (drained c.pass s1).hif = s1.hif := by
      unfold drained
      split <;> rfl
    rw [hdr, hs1]
    exact (congrArg Hif.qps (elapse_hif t s)).symm
  have hbus : v.busMaster = (drained c.pass s1).hif.busMaster := by
    have hdr : (drained c.pass s1).hif = s1.hif := by
      unfold drained
      split <;> rfl
    rw [hdr, hs1]
    exact (congrArg Hif.busMaster (elapse_hif t s)).symm
  have hblock : dmaBlocked c.d c.d.dstAddr out.length (withHif v (drained c.pass s1)) = false := by
    rw [dmaBlocked_withHif hbus, drained_frame, hs1, ← hfree, ← elapse_dmaBlocked c.d c.d.dstAddr out.length t s]
    rfl
  have hans : Answerable c.d (withHif v (drained c.pass s1)) := by
    have ha := answerable_at h.live h.mem hh
    have hheard : Machine.heard c.d (withHif v (drained c.pass s1)) = true := by
      have hold := ha.heard
      simp only [Machine.heard, Bool.and_eq_true, Bool.not_eq_true', List.any_eq_false, elapse_hif] at hold ⊢
      obtain ⟨hgone, hway⟩ := hold
      refine ⟨fun f hf => hgone f (List.mem_filter.mp hf).1, ?_⟩
      rw [← hway]
      cases c.d.src
      · simp only [linkUp, qp, elapse_hif]
        rfl
      · rfl
      · rfl
    have hx : withHif v (drained c.pass s1) = { s1 with hif := v, nv := (drained c.pass s1).nv } := by
      rw [drained_frame]
      rfl
    refine ⟨hheard, ?_, ?_, ?_, ?_⟩
    all_goals rw [hx, hs1]
    · exact ha.mem
    · exact ha.hostWait
    · exact ha.wait
    · exact ha.queue
  have hnext : stepCal { c with rings := ringsSorted recs } stOk (passOver t s r c recs) =
      complete c.d stOk [] 0 (dmaWrite c.d c.d.dstAddr out (withHif v (drained c.pass s1))) := by
    rw [hover]
    unfold stepCal
    rw [show ({ c with rings := ringsSorted recs } : LfCal).step = .verify from hstep]
    unfold calNext
    dsimp only
    rw [hno]
    exact writeDst_ok _ hblock
  rw [show roundRecs r k m s = recs from rfl, hnext] at hrun
  have hdone := (hans.dmaWrite c.d.dstAddr out).quiet (st := stOk) (res := []) (det := 0) (quietStatus_ok c.d.opcode)
  have hfinal := hdone
  rw [dmaWrite_withHif] at hfinal
  have hdma : (dmaWrite c.d c.d.dstAddr out (drained c.pass s1)).hif = (drained c.pass s1).hif := by
    unfold dmaWrite
    split <;> rfl
  have hq2 := answers_of_withHif (by rw [hdma]; exact hqps) hfinal
  rw [← dmaWrite_withHif] at hq2
  refine ⟨s1, _, hrun, ?_, hs1⟩
  by_cases hw : waitsForNv c.pass.opcode = true
  · rw [drained, if_pos hw] at hq2 ⊢
    have hdrain : dmaWrite c.d c.d.dstAddr out (drainAll s1) = drainAll (dmaWrite c.d c.d.dstAddr out s1) := by
      unfold dmaWrite
      split <;> rfl
    rw [hdrain] at hq2
    exact answers_of_drainAll hq2
  · rw [drained, if_neg hw] at hq2 ⊢
    exact hq2

end

/-- Settles O23, from a pass of LF_CAL, a round of LF_DIAG RING and the end of a listen. -/
theorem diagnosticsReportAndTune : Obligations.DiagnosticsReportAndTune := by
  unfold Obligations.DiagnosticsReportAndTune
  refine ⟨?_, ?_⟩
  · intro s t hm hsh hheld s0
    refine ⟨fun d tag hs hrow hbad hcals hroom hwait => lfCal_begins hs hheld hrow hbad hcals hroom hwait, ?_⟩
    intro r c m k hr hrun hk htodo hcoils hrings hd hlen hport hother hcals hh hmon mine rings found hdue
    have hl : live s = true := ((running_iff s).mp hr).1
    have hround : RoundEnds t s r k [] := ⟨hl, hm, hrun, hk, htodo, fun _ => hcoils, hdue⟩
    have h : PassEnds t s r c k := ⟨hround, hheld, hrings, hd, hlen, hport, hother, hcals, hh, hmon⟩
    exact ⟨fun hstep => h.tunes m hstep, fun hstep hno hh hfree => h.reportsCal m hstep hno hh hfree⟩
  · intro s t r hr hm hsh hrun hcals s0
    obtain ⟨hl, hst⟩ := (running_iff s).mp hr
    refine ⟨?_, ?_⟩
    · intro m k rest hk htodo mine recs stop hdue
      refine ⟨fun k1 l hrest hsafe => ?_, fun hrest hcoils d hd hh => ?_⟩
      · have h : RoundEnds t s r k rest := ⟨hl, hm, hrun, hk, htodo, fun he => by simp [he] at hrest, hdue⟩
        exact h.goesOn m (by rw [hst]; decide) hrest hsafe
      · subst hrest
        have h : RoundEnds t s r k [] := ⟨hl, hm, hrun, hk, htodo, fun _ => hcoils, hdue⟩
        intro rings out hfree
        obtain ⟨s1, s', h1, h2, h3⟩ := h.reports m hcals hd hh hfree
        exact ⟨s1, s', h1, h2, h3.frame, h3.result, h3.keeps⟩
    · intro m d hk hd hquiet hdue hh ms out hfree
      have h : ListenEnds t s r d := ⟨hl, hm, hrun, hk, hd, hquiet, hdue, hh⟩
      obtain ⟨s1, s', h1, h2, h3⟩ := h.answers m hfree
      refine ⟨listenTail ms, s1, s', h1, h2, fun x hx => ?_, fun he => ?_, h3.frame, h3.cleared, h3.keeps⟩
      · rw [listenTail, hx]
      · rw [he]
        rfl

end Sys2Proof.Machine
end

section
/-! SUPPORT. The UHF radio: what a host activity's end leaves, and the ends of transmissions and receptions. -/
namespace Sys2Proof.Machine

section
variable {s x c : State} {t : Nat} {d : Desc} {r : UhfRun}

/-! ## A calm radio -/

/-- On a calm device no background calibration runs. -/
theorem live_uhf_bg (hl : live s = true) : s.uhf.bg = none := by
  obtain ⟨-, hcal, -⟩ := (calm_iff s).mp (live_calm hl)
  simp only [calibrating, Bool.or_eq_false_iff, Option.isSome_eq_false_iff, Option.isNone_iff_eq_none] at hcal
  exact hcal.1.1.1

/-- On a calm device the host activity is no UHF_CAL. -/
theorem live_uhf_cal (hl : live s = true) (hr : s.uhf.run = some r) : r.cal = none := by
  obtain ⟨-, hcal, -⟩ := (calm_iff s).mp (live_calm hl)
  rw [calibrating, hr] at hcal
  simp only [Bool.or_eq_false_iff, Option.isSome_eq_false_iff, Option.isNone_iff_eq_none] at hcal
  exact hcal.1.2

/-- With nothing that waits the radio at most moves. -/
theorem runUhfQueue_walks (hq : x.uhf.queue = []) : ∃ l, runUhfQueue x = setUhfWalk l x := by
  have hsame : { x with uhf := { x.uhf with queue := [] } } = x := by rw [← hq]
  unfold runUhfQueue
  rw [hq, startNext]
  simp only [hsame]
  split
  · exact uhfRest_walks x
  · exact ⟨x.uhf.walk, rfl⟩

/-- The end of a host activity with nothing behind it. -/
theorem endRun_walks (e : Nat) (hq : x.uhf.queue = []) :
    ∃ l, runUhfQueue (endRun e x) = { x with uhf := { x.uhf with run := none, lastEnd := e, walk := l } } := by
  obtain ⟨l, hl⟩ := runUhfQueue_walks (x := endRun e x) hq
  exact ⟨l, by rw [hl]; rfl⟩

/-! ## A completion before a change of the radio -/

/-- A completion of a state, and the same one with a change of the UHF unit after it. -/
theorem answers_withUhf {st det : Nat} {res : Bytes} (u : Uhf) (hans : Answerable d x)
    (hq : quietStatus st d.opcode = true) : answers d st res det { x with uhf := u }
      (finish { complete d st res det x with uhf := u }) := by
  have honly : hostOnly x (complete d st res det x) := complete_quiet_hostOnly d st res det x hq
  have hlgr : (complete d st res det x).lgr = x.lgr := (congrArg State.lgr honly :)
  have hfold : (complete d st res det x).fold = x.fold := (congrArg State.fold honly :)
  have hends : ∀ v : Uhf, settles { complete d st res det x with uhf := v }
      (finish { complete d st res det x with uhf := v }) := fun v =>
    finish_settles _ (by rw [show ({ complete d st res det x with uhf := v } : State).lgr = x.lgr from hlgr]; exact hans.hostWait)
      (by rw [show ({ complete d st res det x with uhf := v } : State).fold = x.fold from hfold]; exact hans.wait)
      (by rw [show ({ complete d st res det x with uhf := v } : State).fold = x.fold from hfold]; exact hans.queue)
  have hc : settles (complete d st res det x) (finish (complete d st res det x)) := hends (complete d st res det x).uhf
  have hu := hends u
  obtain ⟨⟨hflight, hentry⟩, hblank, hrest⟩ := hans.quiet (res := res) (det := det) hq
  generalize complete d st res det x = c at *
  have hhif : (finish { c with uhf := u }).hif = (finish c).hif := (settles_hif hu).trans (settles_hif hc).symm
  have hmem : (finish { c with uhf := u }).hostMem = (finish c).hostMem :=
    (settles_hostMem hu).trans (settles_hostMem hc).symm
  have hmon : (finish { c with uhf := u }).mon = (finish c).mon := (settles_mon hu).trans (settles_mon hc).symm
  refine ⟨⟨by rw [hhif]; exact hflight, ?_⟩, ?_, ?_⟩
  · rw [hmem, hhif]
    exact hentry
  · have hcx : blankLines (blankHost { c with uhf := u }) = blankLines (blankHost { x with uhf := u }) :=
      congrArg blankLines (congrArg (fun z : State => { z with uhf := u }) honly :)
    exact (congrArg blankHost hu : _).trans hcx
  · rw [hmem, hmon]
    exact hrest

/-! ## The end of a transmission -/

theorem txResult_elapse (r : UhfRun) (t : Nat) (s : State) : txResult r (elapse t s) = txResult r s := by
  simp [txResult, chRate, txPower, fld]

theorem uhfTxEnd_answers (hl : live s = true) (hm : memorySafe s) (hq : s.uhf.queue = []) (hr : s.uhf.run = some r)
    (htx : r.tx = true) (hph : r.phase = .air) (hstop : r.stop ≤ now (elapse t s)) (hh : heard r.d (elapse t s) = true) :
    ∃ s1 s', exec (.uhfTxEnd t) s = .next s' ∧ answers r.d stOk (txResult r s) 0 s1 s' ∧ s1 = { elapse t s with
      uhf := { s.uhf with run := none, lastEnd := r.stop, sent := r.data, walk := s1.uhf.walk } } := by
  let b : State := complete r.d stOk (txResult r s) 0 (elapse t s)
  have honly : hostOnly (elapse t s) b := complete_quiet_hostOnly _ _ _ _ _ (quietStatus_ok _)
  have huhf : b.uhf = s.uhf := (congrArg State.uhf honly :).trans (elapse_uhf t s)
  obtain ⟨l, hrest⟩ := endRun_walks (x := { b with uhf := { b.uhf with sent := r.data } }) r.stop
    (show b.uhf.queue = [] by rw [huhf]; exact hq)
  let u : Uhf := { s.uhf with run := none, lastEnd := r.stop, sent := r.data, walk := l }
  have hexec : exec (.uhfTxEnd t) s = .next (finish { b with uhf := u }) := by
    refine (command_live t _ s hl).trans ?_
    rw [txEnd, elapse_uhf, hr]
    dsimp only
    rw [onlyIf, if_pos (by simp [htx, hph, hstop]), txResult_elapse]
    refine congrArg (fun z => Host.Outcome.next (finish z)) (hrest.trans ?_)
    simp only [huhf, u]
  exact ⟨_, _, hexec, answers_withUhf u (answerable_at hl hm hh) (quietStatus_ok _), rfl⟩

/-! ## The end of a reception -/

/-- A reception without an error ends with OK or NO_RESPONSE (R221). -/
theorem finishRx_answers (hans : Answerable r.d x) (hq : x.uhf.queue = []) (herr : r.dmaErr = false) :
    ∃ l, answers r.d (if r.frames > 0 then stOk else stNoResponse) (rxResult r x) (sat 8 (r.frames - r.written))
      { x with uhf := { x.uhf with run := none, lastEnd := now x, walk := l } } (finish (finishRx r x)) := by
  let st : Nat := if r.frames > 0 then stOk else stNoResponse
  have hst : (if r.dmaErr then stBadAddr else if r.frames > 0 then stOk else stNoResponse) = st := by
    rw [herr]
    rfl
  have hquiet : quietStatus st r.d.opcode = true := by
    by_cases h0 : r.frames > 0
    · rw [show st = stOk from if_pos h0]
      rfl
    · rw [show st = stNoResponse from if_neg h0]
      rfl
  let b : State := complete r.d st (rxResult r x) (sat 8 (r.frames - r.written)) x
  have honly : hostOnly x b := complete_quiet_hostOnly _ _ _ _ _ hquiet
  have huhf : b.uhf = x.uhf := (congrArg State.uhf honly :)
  obtain ⟨l, hrest⟩ := endRun_walks (x := b) (now x) (show b.uhf.queue = [] by rw [huhf]; exact hq)
  have hrun : finishRx r x = { b with uhf := { x.uhf with run := none, lastEnd := now x, walk := l } } := by
    unfold finishRx
    dsimp only
    rw [hst]
    refine hrest.trans ?_
    rw [huhf]
  rw [hrun]
  exact ⟨l, answers_withUhf _ hans hquiet⟩

theorem uhfRxEnd_answers (hl : live s = true) (hm : memorySafe s) (hq : s.uhf.queue = []) (hr : s.uhf.run = some r)
    (htx : r.tx = false) (hph : r.phase = .air) (hstart : r.start ≤ now (elapse t s))
    (hend : r.stop ≤ now (elapse t s) ∨ rxFull r = true) (herr : r.dmaErr = false) (hh : heard r.d (elapse t s) = true) :
    ∃ s1 s', exec (.uhfRxEnd t) s = .next s' ∧
      answers r.d (if r.frames > 0 then stOk else stNoResponse)
        (rxResult { r with flags := r.flags + 4 * b2n (rxFull r) } (elapse t s)) (sat 8 (r.frames - r.written)) s1 s' ∧
      s1 = { elapse t s with uhf := { s.uhf with run := none, lastEnd := now (elapse t s), walk := s1.uhf.walk } } := by
  have hrx : isRx r = true := by simp [isRx, htx, live_uhf_cal hl hr]
  obtain ⟨l, hans⟩ := finishRx_answers (x := elapse t s) (r := { r with flags := r.flags + 4 * b2n (rxFull r) })
    (answerable_at hl hm hh) (by rw [elapse_uhf]; exact hq) herr
  refine ⟨_, _, ?_, hans, by rw [elapse_uhf]⟩
  refine (command_live t _ s hl).trans ?_
  rw [rxEnd, elapse_uhf, hr]
  dsimp only
  rw [onlyIf, if_pos (by simpa [hrx, hph, hstart] using hend)]

/-! ## A frame at a reception -/

/-- What an accepted frame makes of the reception, with its record written or not. -/
def frameTaken (r : UhfRun) (f : UhfFrame) (w : Nat) : UhfRun :=
  { r with frames := sat 16 (r.frames + 1), crcFail := r.crcFail + b2n (rxRecord r.d f).2, written := r.written + w }

/-- The UHF unit has no part in a write to DST. -/
theorem dmaWrite_withUhf (a : Nat) (bs : Bytes) (u : Uhf) (x : State) :
    dmaWrite d a bs { x with uhf := u } = { dmaWrite d a bs x with uhf := u } := by
  unfold dmaWrite
  split <;> rfl

theorem dmaWrite_fold (a : Nat) (bs : Bytes) (x : State) : (dmaWrite d a bs x).fold = x.fold := by
  unfold dmaWrite
  split <;> rfl

theorem rxFrame_stores (hr : x.uhf.run = some r) {f : UhfFrame} (hok : rxAccepts r f x = true)
    (hroom : 272 * r.written + 272 ≤ r.d.len) (hdma : dmaBlocked r.d (r.d.dstAddr + 272 * r.written) 272 x = false) :
    rxFrame f x = dmaWrite r.d (r.d.dstAddr + 272 * r.written) (rxRecord r.d f).1
      { x with uhf := { x.uhf with run := some (frameTaken r f 1) } } := by
  have hu : (dmaWrite r.d (r.d.dstAddr + 272 * r.written) (rxRecord r.d f).1 x).uhf = x.uhf := by
    unfold dmaWrite
    split <;> rfl
  unfold rxFrame
  rw [hr]
  dsimp only
  rw [onlyIf, if_pos hok]
  refine Eq.trans ?_ (dmaWrite_withUhf _ _ _ x).symm
  simp only [hdma, hroom, decide_true, Bool.and_false, Bool.or_false, Bool.not_false, Bool.and_true, if_true, hu]
  rfl

theorem rxFrame_misses (hr : x.uhf.run = some r) {f : UhfFrame} (hok : rxAccepts r f x = true)
    (hroom : r.d.len < 272 * r.written + 272) :
    rxFrame f x = { x with uhf := { x.uhf with run := some (frameTaken r f 0) } } := by
  unfold rxFrame
  rw [hr]
  dsimp only
  rw [onlyIf, if_pos hok]
  simp only [Nat.not_le.mpr hroom, decide_false, Bool.false_and, Bool.or_false, Bool.false_eq_true, if_false]
  rfl

theorem rxFrame_ignores (hr : x.uhf.run = some r) {f : UhfFrame} (hok : rxAccepts r f x = false) : rxFrame f x = x := by
  unfold rxFrame
  rw [hr]
  dsimp only
  rw [onlyIf, if_neg (by rw [hok]; decide)]

/-- With room for it, the frame's record stands at DST (R221). -/
theorem uhfFrame_stored (hl : live s = true) (hr : s.uhf.run = some r) (f : UhfFrame)
    (hok : rxAccepts r f (elapse t s) = true) (hroom : 272 * r.written + 272 ≤ r.d.len)
    (hdma : dmaBlocked r.d (r.d.dstAddr + 272 * r.written) 272 s = false) :
    ∃ s', exec (.uhfRxFrameDetected t f) s = .next s' ∧
      settles (dmaWrite r.d (r.d.dstAddr + 272 * r.written) (rxRecord r.d f).1
        { elapse t s with uhf := { s.uhf with run := some (frameTaken r f 1) } }) s' := by
  have hframe := rxFrame_stores (x := elapse t s) (by rw [elapse_uhf]; exact hr) hok hroom
    (by rw [elapse_dmaBlocked]; exact hdma)
  rw [elapse_uhf] at hframe
  refine ⟨_, command_live t _ s hl, ?_⟩
  rw [hframe]
  obtain ⟨-, -, hlgr, -⟩ := dmaWrite_keeps (d := r.d) (r.d.dstAddr + 272 * r.written) (rxRecord r.d f).1
    { elapse t s with uhf := { s.uhf with run := some (frameTaken r f 1) } }
  exact finish_settles_of s _ hl (hlgr.trans (elapse_lgr t s)) ((dmaWrite_fold _ _ _).trans (elapse_fold t s))

/-- Without room the frame is counted alone (R221). -/
theorem uhfFrame_missed (hl : live s = true) (hr : s.uhf.run = some r) (f : UhfFrame)
    (hok : rxAccepts r f (elapse t s) = true) (hroom : r.d.len < 272 * r.written + 272) :
    ∃ s', exec (.uhfRxFrameDetected t f) s = .next s' ∧
      settles { elapse t s with uhf := { s.uhf with run := some (frameTaken r f 0) } } s' := by
  have hframe := rxFrame_misses (x := elapse t s) (by rw [elapse_uhf]; exact hr) hok hroom
  rw [elapse_uhf] at hframe
  refine ⟨_, command_live t _ s hl, ?_⟩
  rw [hframe]
  exact finish_settles_of s _ hl (elapse_lgr t s) (elapse_fold t s)

/-- A frame that is not received changes nothing (R221). -/
theorem uhfFrame_ignored (hl : live s = true) (hr : s.uhf.run = some r) (f : UhfFrame)
    (hok : rxAccepts r f (elapse t s) = false) :
    ∃ s', exec (.uhfRxFrameDetected t f) s = .next s' ∧ settles (elapse t s) s' := by
  refine ⟨_, command_live t _ s hl, ?_⟩
  rw [rxFrame_ignores (by rw [elapse_uhf]; exact hr) hok]
  exact finish_settles_of s _ hl (elapse_lgr t s) (elapse_fold t s)

end

end Sys2Proof.Machine
end

section
/-! SUPPORT. The UHF radio: the start of a host activity. -/
namespace Sys2Proof.Machine

/-! ## What the radio reads -/

/-- The UHF unit, the registers and the grant are the same in both. -/
structure RadioSame (y x : State) : Prop where
  uhf : y.uhf = x.uhf
  fld : ∀ f, Machine.fld f y = Machine.fld f x
  pol : ∀ off, regGet off y = regGet off x
  grant : y.pins.coexGnt = x.pins.coexGnt

/-- Only the UHF unit and registers of a list change. -/
structure RadioKept (offs : List Nat) (x y : State) : Prop where
  frame : y = { x with uhf := y.uhf, regs := y.regs }
  regs : RegsKept offs x y

section
variable {s x y z : State} {t lo : Nat} {temp : Int} {d : Desc} {r : UhfRun} {w : UhfWait} {offs : List Nat}

theorem RadioSame.chFreq (h : RadioSame y x) (n : Nat) : chFreq n y = chFreq n x := by
  simp only [Machine.chFreq, h.fld]

theorem RadioSame.txAir (h : RadioSame y x) (d : Desc) : txAir d y = txAir d x := by
  simp only [Machine.txAir, chRate, h.fld]

theorem RadioSame.coexOk (h : RadioSame y x) (k : Nat) : coexOk k y = coexOk k x := by
  simp only [Machine.coexOk, coexEn, coexNeed, flag, h.fld, h.pol, h.grant]

theorem RadioSame.calOnWay (h : RadioSame y x) (st lo : Nat) (temp : Int) : calOnWay st lo temp y = calOnWay st lo temp x := by
  simp only [Machine.calOnWay, vcoDue, h.fld, h.uhf]

/-- The radio of the state from which a served descriptor's unit works. -/
theorem radioSame_atWork (hs : serves t d s) : RadioSame (atWork d (elapse t s)) s := by
  obtain ⟨h, hw, -⟩ := served_atUnit hs
  rw [hw]
  exact ⟨elapse_uhf t s, fun f => elapse_fld f t s, fun off => elapse_regGet off t s,
    congrArg Pins.coexGnt (elapse_pins t s)⟩

theorem RadioKept.trans (h1 : RadioKept offs x y) (h2 : RadioKept offs y z) : RadioKept offs x z :=
  ⟨by rw [h2.frame, h1.frame], h1.regs.trans h2.regs⟩

/-- A change of the UHF unit alone. -/
theorem RadioKept.withUhf (u : Uhf) (h : RadioKept offs x y) : RadioKept offs x { y with uhf := u } :=
  h.trans ⟨rfl, .of_eq _ rfl rfl⟩

/-- The end of a command that changed the radio alone. -/
theorem RadioKept.settles (hl : live s = true) (hlgr : x.lgr = s.lgr) (hfold : x.fold = s.fold)
    (hx : ∀ off, regGet off x = regGet off s) (h : RadioKept offs x y) :
    settles { x with uhf := (finish y).uhf, regs := (finish y).regs } (finish y) ∧ keepsRegs offs s (finish y) ∧
      (finish y).uhf.run = y.uhf.run ∧ (finish y).uhf.lo = y.uhf.lo := by
  have hset : Machine.settles y (finish y) :=
    finish_settles_of s y hl (by rw [h.frame]; exact hlgr) (by rw [h.frame]; exact hfold)
  have hregs : (finish y).regs = y.regs := settles_regs hset
  refine ⟨?_, fun off ho => ?_, settles_uhf_run hset, settles_uhf_lo hset⟩
  · have hy : ({ y with uhf := (finish y).uhf } : State) = { x with uhf := (finish y).uhf, regs := (finish y).regs } := by
      rw [hregs]
      exact (congrArg (fun z : State => { z with uhf := (finish y).uhf }) h.frame :)
    rw [← hy]
    exact settles_takesUhf hset
  · rw [settles_regGet hset, h.regs.keeps off ho, hx]

/-- The synthesiser's move to a frequency (Table 09.1). -/
theorem tuned_keeps (lo : Nat) (temp : Int) (cal : Bool) (x : State) :
    RadioKept [UHF_CAL_STAT.reg] x (tuned lo temp cal x) ∧ (tuned lo temp cal x).uhf.lo = lo := by
  unfold tuned
  dsimp only
  split
  · have hbands : RegsKept [UHF_CAL_STAT.reg] x { x with uhf := { x.uhf with lo := lo, bands := lo :: x.uhf.bands } } :=
      .of_eq _ rfl rfl
    exact ⟨⟨rfl, hbands.trans (.setFld UHF_CAL_STAT.CAL_TEMP _ _ (by decide))⟩, rfl⟩
  · exact ⟨⟨rfl, .of_eq _ rfl rfl⟩, rfl⟩

/-! ## The plan of an activity -/

theorem meetsWindow_none (a b : Nat) (h : x.uhf.windows = []) : meetsWindow a b x = none := by
  rw [meetsWindow, h]
  rfl

theorem clearOf_free (n us a : Nat) (h : x.uhf.windows = []) (k : Nat) : clearOf n us x k a = a := by
  cases k with
  | zero => rfl
  | succ k =>
    rw [clearOf, meetsWindow_none _ _ h]

/-- The time at which the radio is on the air for a transmission or a reception that does not wait. -/
def firstAir (r : UhfRun) (x : State) : Nat :=
  let p := uhfFrom x
  p.2 + usTicks (pathUs (airPath r.tx p.1 (x.uhf.lo == runLo r x) (calOnWay p.1 (runLo r x) r.temp x)))

/-- A transmission that may go on the air, with no window in its way (R211, R212). -/
theorem planTx_starts (hph : r.phase = .air) (htx : r.tx = true) (hwin : x.uhf.windows = []) : ∃ r1 : UhfRun,
    (planTx r x).uhf.run = some r1 ∧ r1.d = r.d ∧ r1.tx = true ∧ r1.data = r.data ∧ r1.phase = .air ∧
      r1.start = (if hasAt r.d then r.start else firstAir r x) ∧ r1.stop = r1.start + txAir r.d x ∧
      (planTx r x).uhf.lo = runLo r x ∧ RadioKept [UHF_CAL_STAT.reg] x (planTx r x) := by
  obtain ⟨hkept, hlo⟩ := tuned_keeps (runLo r x) r.temp (calOnWay (uhfFrom x).1 (runLo r x) r.temp x) x
  unfold planTx
  dsimp only
  split
  · exact ⟨_, rfl, rfl, htx, rfl, hph, rfl, rfl, hlo, hkept.withUhf _⟩
  · rw [clearOf_free _ _ _ hwin]
    exact ⟨_, rfl, rfl, htx, rfl, hph, by rw [firstAir, htx], rfl, hlo, hkept.withUhf _⟩

/-- A reception without AT that may go on the air, with no window in its way (R211, R221). -/
theorem planRx_starts (hph : r.phase = .air) (htx : r.tx = false) (hat : hasAt r.d = false) (hwin : x.uhf.windows = []) :
    ∃ r1 : UhfRun, (planRx r x).uhf.run = some r1 ∧ r1.d = r.d ∧ r1.tx = false ∧ r1.cal = r.cal ∧ r1.phase = .air ∧
      r1.start = firstAir r x ∧ r1.stop = r1.start + rxWindow r.d ∧ r1.frames = r.frames ∧ r1.dual = r.dual ∧
      (planRx r x).uhf.lo = runLo r x ∧ RadioKept [UHF_CAL_STAT.reg] x (planRx r x) := by
  obtain ⟨hkept, hlo⟩ := tuned_keeps (runLo r x) r.temp (calOnWay (uhfFrom x).1 (runLo r x) r.temp x) x
  have hatRun : atRun r = false := by simp [atRun, hat]
  unfold planRx
  dsimp only
  rw [meetsWindow_none _ _ hwin, hatRun]
  exact ⟨_, rfl, rfl, htx, rfl, hph, by simp [firstAir, htx], rfl, rfl, rfl, hlo, hkept.withUhf _⟩

/-! ## An activity at an idle radio -/

/-- What the radio does after what has started: without an activity it leaves RX or TX. -/
def restIfIdle (z : State) : State := if z.uhf.run.isNone && !z.uhf.window then uhfRest z else z

/-- The state with an activity's start at the radio, and the radio's moves after it. -/
def startedUhf (l : List Hop) (y : State) : State := { y with uhf := { y.uhf with queue := [], walk := l } }

/-- An activity that enters an idle radio starts; beside that the radio at most moves (R211). -/
theorem enterUhf_idle (hrun : x.uhf.run = none) (hq : x.uhf.queue = []) (hheld : x.heldWr = []) (hcal : w.cal = none) :
    let w1 : UhfWait := { w with late := hasAt w.d && decide (w.d.atTb < now x), calWait := false }
    ∃ l, enterUhf w x = startedUhf l (if w.tx then startTx w1 x else startRx w1 x) := by
  intro w1
  let y : State := if w.tx then startTx w1 x else startRx w1 x
  have hahead : calAhead x = false := by
    rw [calAhead, hrun, hq]
    rfl
  have hwait : ({ w with late := hasAt w.d && decide (w.d.atTb < now x), calWait := w.tx && calAhead x } : UhfWait) = w1 := by
    rw [hahead, Bool.and_false]
  have hsame : ({ x with uhf := { x.uhf with queue := [] } } : State) = x := by rw [← hq]
  have htake : takeUhfSetup x = x := by
    rw [takeUhfSetup, applyHeld_none _ _ hheld, ite_self]
  have hnext : startNext [w1] x = { y with uhf := { y.uhf with queue := [] } } := by
    rw [startNext, hrun, if_neg (by decide)]
    dsimp only
    rw [htake, show w1.cal.isSome = false by rw [show w1.cal = none from hcal]; rfl]
    rfl
  have henter : enterUhf w x = runUhfQueue { x with uhf := { x.uhf with queue := [w1] } } := by
    unfold enterUhf
    rw [hrun, hq]
    dsimp only
    rw [if_neg (by decide), hwait]
    rfl
  rw [henter]
  have hstarts : runUhfQueue { x with uhf := { x.uhf with queue := [w1] } } = restIfIdle (startNext [w1] x) :=
    congrArg (fun z => restIfIdle (startNext [w1] z)) hsame
  rw [hstarts, hnext, restIfIdle]
  split
  · obtain ⟨l, hl⟩ := uhfRest_walks { y with uhf := { y.uhf with queue := [] } }
    exact ⟨l, hl⟩
  · exact ⟨_, rfl⟩

end

end Sys2Proof.Machine
end

section
/-! SUPPORT. UHF_TX and UHF_RX at an idle radio, and the statement of the radio's sending and receiving. -/
namespace Sys2Proof.Machine

section
variable {s x : State} {t : Nat} {temp : Int} {d : Desc} {w : UhfWait} {data : Bytes}

theorem abortBg_none (h : x.uhf.bg = none) : abortBg x = (x, 0) := by
  rw [abortBg, h]

/-- When the radio has locked on a transmission's frequency (Table 09.1). -/
def lockTime (w : UhfWait) (x : State) : Nat :=
  let p := uhfFrom x
  let lo := chFreq w.d.target x
  p.2 + usTicks (pathUs (synthPath p.1 (x.uhf.lo == lo) (calOnWay p.1 lo w.temp x)))

/-- A transmission at a radio without a calibration or a window: it is planned, or too late for its AT (R212). -/
theorem startTx_calm (hbg : x.uhf.bg = none) (hwin : x.uhf.windows = []) :
    ((hasAt w.d = false ∨ lockTime w x + usTicks 10 ≤ w.d.atTb) → ∃ due flags req,
      startTx w x = planTx { freshUhf w flags req x with due := due } x) ∧
    (hasAt w.d = true → w.d.atTb < lockTime w x + usTicks 10 → startTx w x = txLate w.d x) := by
  unfold startTx
  dsimp only
  rw [abortBg_none hbg, ite_self, meetsWindow_none _ _ hwin]
  constructor
  · intro hin
    rw [if_neg (by
      rintro ⟨hat, hlate | hmeets⟩
      · rcases hin with hno | hle
        · exact absurd (hat.symm.trans hno) (by decide)
        · exact absurd hlate (Nat.not_lt.mpr hle)
      · exact absurd hmeets (by decide))]
    exact ⟨_, _, _, rfl⟩
  · intro hat hlate
    rw [if_pos ⟨hat, Or.inl hlate⟩]

/-- What the unit of a served UHF_TX or UHF_RX works on. -/
structure UhfServed (t : Nat) (d : Desc) (s : State) : Prop where
  serves : serves t d s
  run : s.uhf.run = none
  queue : s.uhf.queue = []
  windows : s.uhf.windows = []
  held : s.heldWr = []

theorem UhfServed.live (h : UhfServed t d s) : live s = true := ((running_iff s).mp h.serves.1).1

theorem UhfServed.bg (h : UhfServed t d s) : (atWork d (elapse t s)).uhf.bg = none := by
  rw [(radioSame_atWork h.serves).uhf]
  exact live_uhf_bg h.live

theorem UhfServed.noWindow (h : UhfServed t d s) : (atWork d (elapse t s)).uhf.windows = [] := by
  rw [(radioSame_atWork h.serves).uhf]
  exact h.windows

theorem atWork_heldWr (hs : serves t d s) : (atWork d (elapse t s)).heldWr = s.heldWr := by
  obtain ⟨h, hw, -⟩ := served_atUnit hs
  rw [hw]
  exact elapse_heldWr t s

/-- Such a descriptor enters an idle radio. -/
theorem UhfServed.enters (h : UhfServed t d s) (hcal : w.cal = none) : ∃ late l,
    enterUhf w (atWork d (elapse t s)) = startedUhf l
      (if w.tx then startTx { w with late := late, calWait := false } (atWork d (elapse t s))
       else startRx { w with late := late, calWait := false } (atWork d (elapse t s))) := by
  have huhf := (radioSame_atWork h.serves).uhf
  exact ⟨_, enterUhf_idle (by rw [huhf]; exact h.run) (by rw [huhf]; exact h.queue)
    (by rw [atWork_heldWr h.serves]; exact h.held) hcal⟩

/-- The end of a command that started an activity. -/
theorem UhfServed.settles {offs : List Nat} {y : State} (h : UhfServed t d s)
    (hy : RadioKept offs (atWork d (elapse t s)) y) (l : List Hop) :
    let s' := finish (startedUhf l y)
    Machine.settles { atWork d (elapse t s) with uhf := s'.uhf, regs := s'.regs } s' ∧ keepsRegs offs s s' ∧
      s'.uhf.run = y.uhf.run ∧ s'.uhf.lo = y.uhf.lo := by
  intro s'
  obtain ⟨-, hlgr, hfold, -⟩ := atWork_keeps h.serves
  have hkept := hy.withUhf { y.uhf with queue := [], walk := l }
  exact hkept.settles h.live hlgr hfold (radioSame_atWork h.serves).pol

/-! ## UHF_TX -/

theorem uhfTx_runs (hs : serves t d s) (hrow : isRow 0x20 d = true) (hbad : txParBad d = none)
    (hread : dmaRead d d.srcAddr d.len s = some data) : exec (.uhfTx t d temp) s =
      .next (finish (enterUhf ⟨d, data, true, none, temp, false, false⟩ (atWork d (elapse t s)))) := by
  obtain ⟨h, hw, -, hb, -⟩ := served_atUnit hs
  have hv : dmaRead d d.srcAddr d.len (atWork d (elapse t s)) = some data := by
    rw [hw, dmaRead_withHif hb, elapse_dmaRead]
    exact hread
  show descCommand t (asOp 0x20 d) (txUnit temp) s = _
  rw [asOp_self hrow, (served_atWork hs).2, txUnit, hbad]
  dsimp only
  rw [readSrc_some hv]

/-- What a transmission's times rest on is the same at the unit as at the command before. -/
theorem lockTime_atWork (hs : serves t d s) (w : UhfWait) : lockTime w (atWork d (elapse t s)) =
    let p := uhfFrom (elapse t s)
    let lo := chFreq w.d.target s
    p.2 + usTicks (pathUs (synthPath p.1 (s.uhf.lo == lo) (calOnWay p.1 lo w.temp s))) := by
  have hsame := radioSame_atWork hs
  have hfrom : uhfFrom (atWork d (elapse t s)) = uhfFrom (elapse t s) := by
    obtain ⟨h, hw, -⟩ := served_atUnit hs
    rw [hw]
    rfl
  simp only [lockTime, hfrom, hsame.chFreq, hsame.calOnWay, hsame.uhf]

theorem UhfServed.transmits (h : UhfServed t d s) (hrow : isRow 0x20 d = true) (hbad : txParBad d = none)
    (hread : dmaRead d d.srcAddr d.len s = some data) (hcoex : coexOk 3 s = true) :
    let s0 := elapse t s
    let lo := chFreq d.target s
    let p := uhfFrom s0
    let cal := calOnWay p.1 lo temp s
    let same := s.uhf.lo == lo
    let lock := p.2 + usTicks (pathUs (synthPath p.1 same cal))
    (hasAt d = false ∨ lock + usTicks 10 ≤ d.atTb →
      ∃ (r : UhfRun) (s' : State), exec (.uhfTx t d temp) s = .next s' ∧ r.d = d ∧ r.tx = true ∧
        r.data = txFrame d data ∧ r.phase = .air ∧
        r.start = (if hasAt d then d.atTb else p.2 + usTicks (pathUs (airPath true p.1 same cal))) ∧
        r.stop = r.start + txAir d s ∧ s'.uhf.run = some r ∧ s'.uhf.lo = lo ∧
        Machine.settles { atWork d s0 with uhf := s'.uhf, regs := s'.regs } s' ∧ keepsRegs [UHF_CAL_STAT.reg] s s') := by
  intro s0 lo p cal same lock hin
  have hsame := radioSame_atWork h.serves
  have hexec := uhfTx_runs (temp := temp) h.serves hrow hbad hread
  have hbg := h.bg
  have hwin := h.noWindow
  have hlock := lockTime_atWork h.serves
  obtain ⟨late, l, henter⟩ := h.enters (w := ⟨d, data, true, none, temp, false, false⟩) rfl
  have hsettles := fun (y : State) (hy : RadioKept [UHF_CAL_STAT.reg] (atWork d (elapse t s)) y) => h.settles hy l
  have hfrom : uhfFrom (atWork d (elapse t s)) = uhfFrom (elapse t s) := by
    obtain ⟨hif, hw, -⟩ := served_atUnit h.serves
    rw [hw]
    rfl
  generalize atWork d (elapse t s) = v at *
  rw [if_pos rfl] at henter
  generalize hw1 : (UhfWait.mk d data true none temp late false) = w1 at henter
  have hd : w1.d = d := by rw [← hw1]
  have hstart := (startTx_calm (w := w1) hbg hwin).1 (by rw [hlock, hd, ← hw1]; exact hin)
  obtain ⟨due, flags, req, hplan⟩ := hstart
  generalize hr : ({ freshUhf w1 flags req v with due := due } : UhfRun) = r at hplan
  have hphase : r.phase = .air := by
    rw [← hr, ← hw1]
    show (if (false || coexOk 3 v) = true then UhfPhase.air else .grant) = .air
    rw [hsame.coexOk, hcoex]
    rfl
  have hrlo : runLo r v = lo := by
    rw [← hr, ← hw1]
    exact hsame.chFreq _
  obtain ⟨r1, hrun, hrd, hrtx, hrdata, hrph, hrstart, hrstop, hrunlo, hkept⟩ :=
    planTx_starts (r := r) (x := v) hphase (by rw [← hr, ← hw1]; rfl) hwin
  obtain ⟨hset, hkeeps, hsrun, hslo⟩ := hsettles _ hkept
  have hfirst : firstAir r v = p.2 + usTicks (pathUs (airPath true p.1 same cal)) := by
    rw [firstAir, hfrom, hrlo, hsame.calOnWay, hsame.uhf, ← hr, ← hw1]
    rfl
  have hfd : r.d = d := by
    rw [← hr, ← hw1]
    rfl
  have hfs : r.start = d.atTb := by
    rw [← hr, ← hw1]
    rfl
  have hfdata : r.data = txFrame d data := by
    rw [← hr, ← hw1]
    rfl
  rw [hplan] at henter
  rw [henter] at hexec
  refine ⟨r1, _, hexec, hrd.trans hfd, hrtx, hrdata.trans hfdata, hrph, ?_, ?_, hsrun.trans hrun, ?_, hset, hkeeps⟩
  · rw [hrstart, hfd, hfs, hfirst]
  · rw [hrstop, hfd, hsame.txAir]
  · rw [hslo, hrunlo, hrlo]

/-- A transmission that comes too late for its AT is TX_LATE, and the radio at most moves (R212). -/
theorem UhfServed.tooLate (h : UhfServed t d s) (hrow : isRow 0x20 d = true) (hbad : txParBad d = none)
    (hread : dmaRead d d.srcAddr d.len s = some data) :
    let s0 := elapse t s
    let lo := chFreq d.target s
    let p := uhfFrom s0
    let lock := p.2 + usTicks (pathUs (synthPath p.1 (s.uhf.lo == lo) (calOnWay p.1 lo temp s)))
    hasAt d = true → d.atTb < lock + usTicks 10 →
    ∃ s1 s', exec (.uhfTx t d temp) s = .next s' ∧ answers d stTxLate [] 0 s1 s' ∧
      s1 = { s0 with uhf := { s.uhf with walk := s1.uhf.walk } } := by
  intro s0 lo p lock hat hlate
  obtain ⟨hans, -⟩ := served_atWork h.serves
  obtain ⟨hif, hw, hqps, -⟩ := served_atUnit h.serves
  obtain ⟨late, l, henter⟩ := h.enters (w := ⟨d, data, true, none, temp, false, false⟩) rfl
  have hstart : startTx ⟨d, data, true, none, temp, late, false⟩ (atWork d (elapse t s)) = txLate d (atWork d (elapse t s)) :=
    (startTx_calm h.bg h.noWindow).2 hat (by rw [lockTime_atWork h.serves]; exact hlate)
  rw [if_pos rfl, hstart] at henter
  have hquiet : quietStatus stTxLate d.opcode = true := by
    rw [opcode_of_isRow hrow]
    rfl
  let b : State := complete d stTxLate [] 0 (atWork d (elapse t s))
  have honly : hostOnly (atWork d (elapse t s)) b := complete_quiet_hostOnly d stTxLate [] 0 _ hquiet
  have huhf : b.uhf = s.uhf := (congrArg State.uhf honly :).trans (radioSame_atWork h.serves).uhf
  have hu : ({ b.uhf with queue := [], walk := l } : Uhf) = { s.uhf with walk := l } := by
    rw [huhf, ← h.queue]
  have hend : startedUhf l b = { b with uhf := { s.uhf with walk := l } } := by rw [startedUhf, hu]
  have hlast := answers_withUhf (res := []) (det := 0) { s.uhf with walk := l } hans hquiet
  have hexec := uhfTx_runs (temp := temp) h.serves hrow hbad hread
  rw [henter, show txLate d (atWork d (elapse t s)) = b from rfl, hend] at hexec
  refine ⟨{ elapse t s with uhf := { s.uhf with walk := l } }, _, hexec, ?_, rfl⟩
  rw [hw] at hlast
  refine answers_of_withHif (h := hif) hqps ?_
  rw [show b = complete d stTxLate [] 0 (withHif hif (elapse t s)) from by rw [← hw]]
  exact hlast

/-! ## UHF_RX -/

theorem uhfRx_runs (hs : serves t d s) (hrow : isRow 0x21 d = true) (hbad : rxParBad d = none)
    (htarget : bit 2 (p8 d 7) = true → d.target = 0) : exec (.uhfRx t d temp) s =
      .next (finish (enterUhf ⟨d, [], false, none, temp, false, false⟩ (atWork d (elapse t s)))) := by
  show descCommand t (asOp 0x21 d) (rxUnit temp) s = _
  rw [asOp_self hrow, (served_atWork hs).2, rxUnit, hbad]
  dsimp only
  rw [if_neg (fun hno => hno.2 (htarget hno.1))]

/-- A span outside the limits is noted, and reads of nothing else change (R208). -/
theorem spanNoted (b : Bool) (x : State) : let y := if b then setFld UHF_STATUS.SPAN_ERR 1 x else x
    RadioKept [UHF_CAL_STAT.reg, UHF_STATUS.reg] x y ∧ y.uhf = x.uhf ∧ now y = now x ∧
      ∀ f : Field, f.off ≠ UHF_STATUS.reg → fld f y = fld f x := by
  intro y
  have hkept : RegsKept [UHF_STATUS.reg] x (setFld UHF_STATUS.SPAN_ERR 1 x) := .setFld _ _ _ (by decide)
  cases b
  · exact ⟨⟨rfl, .of_eq _ rfl rfl⟩, rfl, rfl, fun f hf => rfl⟩
  · exact ⟨⟨rfl, hkept.mono (by simp)⟩, rfl, rfl, fun f hf => hkept.fld f (by simpa using hf)⟩

/-- A reception at a radio without a calibration (R208, R221). -/
theorem startRx_calm (hbg : x.uhf.bg = none) : ∃ flags req, startRx w x = planRx (freshUhf w flags req x)
    (if bit 2 (p8 w.d 7) && !spanOk x then setFld UHF_STATUS.SPAN_ERR 1 x else x) := by
  unfold startRx
  dsimp only
  rw [abortBg_none hbg, ite_self]
  exact ⟨_, _, rfl⟩

/-- The frequency of a reception (R208). -/
theorem runLo_receives {r : UhfRun} {y : State} (htx : r.tx = false) (hf : ∀ n, chFreq n y = chFreq n s)
    (hok : r.dual = true → spanOk s = true) :
    runLo r y = if r.dual then min (chFreq 0 s) (chFreq 1 s) - 500 else chFreq r.d.target s - 500 := by
  have hspan : spanOk y = spanOk s := by simp only [spanOk, hf]
  by_cases hd : r.dual = true
  · have hdual : dualLo y = min (chFreq 0 s) (chFreq 1 s) - 500 := by
      unfold dualLo
      rw [hspan, if_pos (hok hd), hf, hf]
    rw [runLo, if_neg (by rw [htx]; exact Bool.false_ne_true), if_pos hd, if_pos hd, hdual]
  · rw [runLo, if_neg (by rw [htx]; exact Bool.false_ne_true), if_neg hd, if_neg hd]
    exact congrArg (· - 500) (hf _)

theorem UhfServed.receives (h : UhfServed t d s) (hrow : isRow 0x21 d = true) (hbad : rxParBad d = none)
    (htarget : bit 2 (p8 d 7) = true → d.target = 0) (hcoex : coexOk 4 s = true) (hat : hasAt d = false) :
    let s0 := elapse t s
    let dual := bit 2 (p8 d 7) && spanOk s
    let lo := if dual then min (chFreq 0 s) (chFreq 1 s) - 500 else chFreq d.target s - 500
    let p := uhfFrom s0
    ∃ (r : UhfRun) (s' : State), exec (.uhfRx t d temp) s = .next s' ∧ r.d = d ∧ r.tx = false ∧ r.cal = none ∧
      r.phase = .air ∧ r.start = p.2 + usTicks (pathUs (airPath false p.1 (s.uhf.lo == lo) (calOnWay p.1 lo temp s))) ∧
      r.stop = r.start + rxWindow d ∧ r.frames = 0 ∧ r.dual = dual ∧ s'.uhf.run = some r ∧ s'.uhf.lo = lo ∧
      Machine.settles { atWork d s0 with uhf := s'.uhf, regs := s'.regs } s' ∧
      keepsRegs [UHF_CAL_STAT.reg, UHF_STATUS.reg] s s' := by
  intro s0 dual lo p
  have hsame := radioSame_atWork h.serves
  have hexec := uhfRx_runs (temp := temp) h.serves hrow hbad htarget
  have hbg := h.bg
  have hwin := h.noWindow
  obtain ⟨late, l, henter⟩ := h.enters (w := ⟨d, [], false, none, temp, false, false⟩) rfl
  have hsettles := fun (y : State) (hy : RadioKept [UHF_CAL_STAT.reg, UHF_STATUS.reg] (atWork d (elapse t s)) y) =>
    h.settles hy l
  have hfrom : uhfFrom (atWork d (elapse t s)) = uhfFrom (elapse t s) := by
    obtain ⟨hif, hw, -⟩ := served_atUnit h.serves
    rw [hw]
    rfl
  generalize atWork d (elapse t s) = v at *
  rw [if_neg Bool.false_ne_true] at henter
  generalize hw1 : (UhfWait.mk d [] false none temp late false) = w1 at henter
  obtain ⟨flags, req, hplan⟩ := startRx_calm (w := w1) hbg
  obtain ⟨hspan, hyuhf, hynow, hyfld⟩ := spanNoted (bit 2 (p8 w1.d 7) && !spanOk v) v
  generalize (if (bit 2 (p8 w1.d 7) && !spanOk v) = true then setFld UHF_STATUS.SPAN_ERR 1 v else v) = y at *
  generalize hr : freshUhf w1 flags req v = r at hplan
  have hphase : r.phase = .air := by
    rw [← hr, ← hw1]
    show (if (false || coexOk 4 v) = true then UhfPhase.air else .grant) = .air
    rw [hsame.coexOk, hcoex]
    rfl
  have hfd : r.d = d := by
    rw [← hr, ← hw1]
    rfl
  have hspanOk : spanOk v = spanOk s := spanOk_congr hsame.fld
  have hdual : r.dual = dual := by
    rw [← hr, ← hw1]
    exact congrArg (bit 2 (p8 d 7) && ·) hspanOk
  have htx : r.tx = false := by
    rw [← hr, ← hw1]
    rfl
  have hfreq : ∀ n, chFreq n y = chFreq n s := fun n => by
    rw [← hsame.chFreq, chFreq, chFreq, hyfld _ (by decide), hyfld _ (by decide)]
  have hspans : dual = true → spanOk s = true := fun hd => (Bool.and_eq_true_iff.mp hd).2
  have hlo : lo = if dual then min (chFreq 0 s) (chFreq 1 s) - 500 else chFreq d.target s - 500 := rfl
  clear_value lo dual
  have hrlo : runLo r y = lo := by
    rw [runLo_receives htx hfreq (fun hd => hspans (hdual.symm.trans hd)), hdual, hfd, hlo]
  have hcal : calOnWay p.1 lo temp y = calOnWay p.1 lo temp s := by
    rw [← hsame.calOnWay]
    simp only [calOnWay, vcoDue, hyuhf, hyfld UHF_CAL_STAT.CAL_TEMP (by decide)]
  obtain ⟨r1, hrun, hrd, hrtx, hrcal, hrph, hrstart, hrstop, hrframes, hrdual, hrunlo, hkept⟩ :=
    planRx_starts (r := r) (x := y) hphase htx (by rw [hfd]; exact hat) (by rw [hyuhf]; exact hwin)
  obtain ⟨hset, hkeeps, hsrun, hslo⟩ := hsettles _ (hspan.trans ⟨hkept.frame, hkept.regs.mono (by simp)⟩)
  have hfirst : firstAir r y = p.2 + usTicks (pathUs (airPath false p.1 (s.uhf.lo == lo) (calOnWay p.1 lo temp s))) := by
    have hfy : uhfFrom y = p := by
      rw [uhfFrom, hyuhf, hynow]
      exact hfrom
    rw [firstAir, hfy, hrlo, hyuhf, hsame.uhf, htx, show r.temp = temp by rw [← hr, ← hw1]; rfl, hcal]
  rw [hplan] at henter
  rw [henter] at hexec
  refine ⟨r1, _, hexec, hrd.trans hfd, hrtx, ?_, hrph, hrstart.trans hfirst, ?_, ?_, hrdual.trans hdual, hsrun.trans hrun,
    ?_, hset, hkeeps⟩
  · rw [hrcal, ← hr, ← hw1]
    rfl
  · rw [hrstop, hfd]
  · rw [hrframes, ← hr, ← hw1]
    rfl
  · rw [hslo, hrunlo, hrlo]

end

/-- Settles O26: each clause is the way of its descriptor through an idle radio, or the end of the activity that it
started. -/
theorem uhfSendsAndReceives : Obligations.UhfSendsAndReceives := by
  unfold Obligations.UhfSendsAndReceives
  refine ⟨fun s t hl hm hsh hq => ⟨?_, ?_⟩, fun s t hl hm hsh hq => ⟨?_, ?_, ?_⟩⟩
  · intro d temp data hs hrow hbad hread hrun hwin hheld hcoex
    have h : UhfServed t d s := ⟨hs, hrun, hq, hwin, hheld⟩
    exact ⟨h.transmits hrow hbad hread hcoex, h.tooLate hrow hbad hread⟩
  · exact fun r hr htx hph hstop hh => uhfTxEnd_answers hl hm hq hr htx hph hstop hh
  · intro d temp hs hrow hbad htarget hrun hwin hheld hcoex hat
    have h : UhfServed t d s := ⟨hs, hrun, hq, hwin, hheld⟩
    exact h.receives hrow hbad htarget hcoex hat
  · exact fun r f hr => ⟨uhfFrame_stored hl hr f, uhfFrame_missed hl hr f, uhfFrame_ignored hl hr f⟩
  · exact fun r hr htx hph hstart hend herr hh => uhfRxEnd_answers hl hm hq hr htx hph hstart hend herr hh

end Sys2Proof.Machine
end

section
/-! SUPPORT. The keying of a poll's drive sequence, and the LFD pins around it. -/
namespace Sys2Proof.Machine

section
variable {p : Poll} {m : MapLeaf} {w duty ramp n u : Nat}

/-! ## The carrier -/

/-- The carrier is high at a phase: for DUTY/128 of the period (R136). -/
def carrierHigh (duty ph : Nat) : Bool := decide (ph % 2 ^ 32 < duty * 2 ^ 25)

/-- Without RAMP a command is the carrier. -/
theorem commandHigh_plain {i : Nat} (hi : 1 ≤ i) (ph : Nat) : commandHigh duty 0 i ph = carrierHigh duty ph := by
  rw [commandHigh, carrierHigh, Nat.zero_add, Nat.min_eq_left hi, Nat.mul_one, Nat.mul_one]

/-- RAMP only shortens it (log entry 116). -/
theorem carrierHigh_of_commandHigh {i ph : Nat} (h : commandHigh duty ramp i ph = true) : carrierHigh duty ph = true := by
  rw [commandHigh, decide_eq_true_eq] at h
  rw [carrierHigh, decide_eq_true_eq]
  have hle : duty * 2 ^ 25 * min (ramp + 1) i ≤ duty * 2 ^ 25 * (ramp + 1) := Nat.mul_le_mul_left _ (Nat.min_le_left _ _)
  exact Nat.lt_of_mul_lt_mul_right (Nat.lt_of_lt_of_le h hle)

/-! ## A leaf's command -/

theorem pollCommand_off (hu : n / unitCycles = u) (hk : unitKey p m u = none) : pollCommand p m w duty ramp n = false := by
  unfold pollCommand
  simp only [hu, hk]

theorem pollCommand_before (h : n < firstCycle) : pollCommand p m w duty ramp n = false := by
  unfold pollCommand
  dsimp only
  split
  · rfl
  · rw [if_pos h]

/-- From the first carrier edge on, a unit with a key carries it. -/
theorem pollCommand_on {neg : Bool} (hu : n / unitCycles = u) (hk : unitKey p m u = some neg) (h : firstCycle ≤ n) :
    ∃ i, 1 ≤ i ∧ pollCommand p m w duty ramp n = commandHigh duty ramp i (phaseAt w n neg) := by
  unfold pollCommand
  simp only [hu, hk, if_neg (Nat.not_lt.mpr h)]
  exact ⟨_, Nat.le_min.mpr ⟨Nat.succ_le_succ (Nat.zero_le _), Nat.succ_le_succ (Nat.zero_le _)⟩, rfl⟩

/-- Without RAMP, a unit with a key is the carrier at its phase. -/
theorem pollCommand_carries {neg : Bool} (hu : n / unitCycles = u) (hk : unitKey p m u = some neg) (h : firstCycle ≤ n) :
    pollCommand p m w duty 0 n = carrierHigh duty (phaseAt w n neg) := by
  obtain ⟨i, hi, hcmd⟩ := pollCommand_on (w := w) (duty := duty) (ramp := 0) hu hk h
  rw [hcmd, commandHigh_plain hi]

/-- Where a command with RAMP is high, so is the one without. -/
theorem pollCommand_plain (h : pollCommand p m w duty ramp n = true) : pollCommand p m w duty 0 n = true := by
  cases hk : unitKey p m (n / unitCycles) with
  | none => exact absurd (h.symm.trans (pollCommand_off rfl hk)) (by decide)
  | some neg =>
    by_cases hn : n < firstCycle
    · exact absurd (h.symm.trans (pollCommand_before hn)) (by decide)
    · obtain ⟨i, -, hcmd⟩ := pollCommand_on (w := w) (duty := duty) (ramp := ramp) rfl hk (Nat.not_lt.mp hn)
      rw [pollCommand_carries rfl hk (Nat.not_lt.mp hn)]
      exact carrierHigh_of_commandHigh (hcmd.symm.trans h)

/-! ## The phase -/

/-- Through the preamble and the header the phase runs from the start of the preamble. -/
theorem phaseAt_header (h : n < 1433600) : phaseAt w n false = w * n := by
  rw [phaseAt, zeroCycle, if_pos h]
  rfl

/-- In a code frame it runs from the frame's start, and a -1 chip stands half a period ahead (R138). -/
theorem phaseAt_frame {f : Nat} (hlo : 1433600 + 204800 * f ≤ n) (hhi : n < 1638400 + 204800 * f) (neg : Bool) :
    phaseAt w n neg = w * (n - (1433600 + 204800 * f)) + if neg then 2 ^ 31 else 0 := by
  have hz : zeroCycle n = 1433600 + 204800 * f := by
    rw [zeroCycle, if_neg (by omega)]
    omega
  rw [phaseAt, hz]
  cases neg <;> rfl

/-! ## The units -/

theorem unitKey_preamble (h : u < 24 ∨ 28 ≤ u ∧ u < 32) : unitKey p m u = some false := by
  unfold unitKey
  by_cases h24 : u < 24
  · rw [if_pos h24]
  · rw [if_neg h24, if_neg (by omega), if_pos (by omega)]

theorem unitKey_gap (hlo : 24 ≤ u) (hhi : u < 28) : unitKey p m u = none := by
  unfold unitKey
  rw [if_neg (by omega), if_pos hhi]

theorem unitKey_header {i : Nat} (hi : i < 96) (hu : u / 2 = 16 + i) :
    unitKey p m u = if headerBit p i == (u % 2 == 1) then some false else none := by
  unfold unitKey
  rw [if_neg (by omega), if_neg (by omega), if_neg (by omega), if_pos (by omega), show (u - 32) / 2 = i by omega]

theorem unitKey_frame {f j : Nat} (hj : j < 16) (hu : u / 2 = 112 + 16 * f + j) :
    unitKey p m u = if f = m.frame then some (chipNeg m.code j) else none := by
  unfold unitKey
  rw [if_neg (by omega), if_neg (by omega), if_neg (by omega), if_neg (by omega),
    show (u - 224) / 32 = f by omega, show (u - 224) % 32 / 2 = j by omega]

theorem bit_eq_testBit (i k : Nat) : bit i k = k.testBit i := by
  rw [bit, Nat.testBit_eq_decide_div_mod_eq, beq_eq_decide]

/-- The header's bits, in the order of the air (Table 08.2). -/
theorem headerBit_eq {vid epoch : Nat} (h : p.header = some (vid, epoch)) (i : Nat) :
    headerBit p i = (vid % 2 ^ 24 * 2 ^ 72 + epoch % 2 ^ 8 * 2 ^ 64 + p.challenge % 2 ^ 64).testBit (95 - i) := by
  rw [headerBit, headerWord, h, bit_eq_testBit]
  rfl

/-- A chip's sign (R139). -/
theorem chipNeg_eq (k j : Nat) :
    chipNeg k j = decide (((List.range 4).filter (fun b => k.testBit b && j.testBit b)).length % 2 = 1) := by
  simp only [chipNeg, List.countP_eq_length_filter, beq_eq_decide, bit_eq_testBit]

/-! ## What a leaf sends -/

theorem pollCommand_preamble (h : 205 ≤ n ∧ n < 153600 ∨ 179200 ≤ n ∧ n < 204800) :
    pollCommand p m w duty 0 n = carrierHigh duty (w * n) := by
  have hk : unitKey p m (n / unitCycles) = some false := unitKey_preamble (by rw [unitCycles]; omega)
  rw [pollCommand_carries rfl hk (by rw [firstCycle]; omega), phaseAt_header (n := n) (by omega)]

/-- A 0 of the header is on then off, a 1 off then on (R184). -/
theorem pollCommand_header {i : Nat} (hi : i < 96) (hlo : 204800 + 12800 * i ≤ n) (hhi : n < 204800 + 12800 * (i + 1)) :
    pollCommand p m w duty 0 n = ((headerBit p i == decide (211200 + 12800 * i ≤ n)) && carrierHigh duty (w * n)) := by
  have hn : n < 1433600 := Nat.lt_of_lt_of_le hhi (Nat.add_le_add_left (Nat.mul_le_mul_left 12800 hi) 204800)
  have hfirst : firstCycle ≤ n := by
    rw [firstCycle]
    omega
  have hhalf : (n / unitCycles % 2 == 1) = decide (211200 + 12800 * i ≤ n) := by
    rw [beq_eq_decide, decide_eq_decide, unitCycles]
    omega
  have hk : unitKey p m (n / unitCycles) = _ := unitKey_header hi (by rw [unitCycles]; omega)
  rw [hhalf] at hk
  by_cases hbit : (headerBit p i == decide (211200 + 12800 * i ≤ n)) = true
  · rw [if_pos hbit] at hk
    rw [hbit, Bool.true_and, pollCommand_carries rfl hk hfirst, phaseAt_header hn]
  · rw [if_neg hbit] at hk
    rw [Bool.not_eq_true] at hbit
    rw [hbit, Bool.false_and, pollCommand_off rfl hk]

/-- In a code frame only its own leaves send, and theirs are their code's chips (R49, R139). -/
theorem pollCommand_frame {f j : Nat} (hj : j < 16) (hlo : 1433600 + 204800 * f + 12800 * j ≤ n)
    (hhi : n < 1433600 + 204800 * f + 12800 * (j + 1)) :
    (f ≠ m.frame → pollCommand p m w duty ramp n = false) ∧
    (f = m.frame → pollCommand p m w duty 0 n = carrierHigh duty (w * (n - (1433600 + 204800 * f)) +
      if ((List.range 4).filter (fun b => m.code.testBit b && j.testBit b)).length % 2 = 1 then 2 ^ 31 else 0)) := by
  have hstart : 1433600 + 204800 * f ≤ n := by omega
  have hend : n < 1638400 + 204800 * f := by
    have hlast : 12800 * (j + 1) ≤ 204800 := Nat.mul_le_mul_left 12800 hj
    generalize 12800 * (j + 1) = k at *
    omega
  have hfirst : firstCycle ≤ n := by
    rw [firstCycle]
    omega
  have hk : unitKey p m (n / unitCycles) = _ := unitKey_frame (f := f) hj (by rw [unitCycles]; omega)
  constructor
  · intro hne
    exact pollCommand_off rfl (hk.trans (if_neg hne))
  · intro heq
    rw [pollCommand_carries rfl (hk.trans (if_pos heq)) hfirst, phaseAt_frame hstart hend, chipNeg_eq]
    simp only [decide_eq_true_eq]

end

/-! ## The LFD pins -/

section
variable {s : State} {c : Nat}

theorem lfdPad_phase (hsafe : padsSafe s = false) :
    (quarterPhase (c / 32) s = .drive → chanDriven c s = false → lfdPad c s = if chanLive c s then .low else .pulled) ∧
    (quarterPhase (c / 32) s = .leaving → chanLive c s = true → lfdPad c s = .low) ∧
    (quarterPhase (c / 32) s = .listen → chanLive c s = true → lfdPad c s = .sensed) ∧
    (quarterPhase (c / 32) s = .listen → chanLive c s = false → chanListened c s = false → lfdPad c s = .pulled) := by
  unfold lfdPad
  rw [hsafe, if_neg Bool.false_ne_true]
  refine ⟨fun hp hd => ?_, fun hp hl => ?_, fun hp hl => ?_, fun hp hl hn => ?_⟩
  · simp only [hp, hd, Bool.false_eq_true, if_false]
  · simp only [hp, hl, Bool.or_true, if_true]
  · simp only [hp, hl, Bool.true_or, if_true]
  · simp only [hp, hl, hn, Bool.or_false, Bool.false_eq_true, if_false]

/-- The phases of a quarter of a sequence from its start on (R48, R50, R51). -/
theorem quarterPhase_drives {m : BitVec 4} {a e q : Nat} (hp : drivePhase s = some (m, a, e)) (hm : m.getLsbD q = true)
    (ha : a ≤ now s) : (now s < e → quarterPhase q s = .drive) ∧
      (e ≤ now s → 5 * now s < 5 * e + 192 → quarterPhase q s = .leaving) ∧
      (5 * e + 192 ≤ 5 * now s → quarterPhase q s = .listen) := by
  have hstart : ¬ ((!m.getLsbD q || decide (now s < a)) = true) := by
    simp only [hm, Bool.not_true, Bool.false_or, decide_eq_true_eq]
    omega
  unfold quarterPhase
  rw [hp]
  dsimp only
  rw [if_neg hstart]
  refine ⟨fun h => if_pos h, fun h1 h2 => ?_, fun h => ?_⟩
  · rw [if_neg (Nat.not_lt.mpr h1), if_pos h2]
  · rw [if_neg (by omega), if_neg (by omega)]

theorem quarterPhase_none {q : Nat} (hp : drivePhase s = none) : quarterPhase q s = .listen := by
  rw [quarterPhase, hp]

end

/-- Settles O24: the command by the unit of 62.5 us that a cycle lies in, and the pads by their quarter's phase. -/
theorem commandsAreKeyed : Obligations.CommandsAreKeyed := by
  unfold Obligations.CommandsAreKeyed
  refine ⟨fun p m vid epoch w duty ramp n hh => ⟨?_, ?_, ?_, ?_, ?_, ?_, ?_⟩, fun s c hsafe => ⟨?_, ?_, ?_⟩⟩
  · exact fun h => pollCommand_before h
  · exact fun h1 h2 => pollCommand_preamble (.inl ⟨h1, h2⟩)
  · exact fun h1 h2 => pollCommand_off rfl (unitKey_gap (by rw [unitCycles]; omega) (by rw [unitCycles]; omega))
  · exact fun h1 h2 => pollCommand_preamble (.inr ⟨h1, h2⟩)
  · intro i hi h1 h2
    rw [pollCommand_header hi h1 h2, headerBit_eq hh]
    rfl
  · exact fun f j hj h1 h2 => pollCommand_frame hj h1 h2
  · exact pollCommand_plain
  · intro m a e hp hm ha
    obtain ⟨hdrive, hleaving, hlisten⟩ := quarterPhase_drives hp hm ha
    obtain ⟨pdrive, pleaving, plisten, -⟩ := lfdPad_phase (c := c) hsafe
    exact ⟨fun h hd => pdrive (hdrive h) hd, fun h1 h2 hl => pleaving (hleaving h1 h2) hl, fun h hl => plisten (hlisten h) hl⟩
  · intro hp hl hn
    exact (lfdPad_phase hsafe).2.2.2 (quarterPhase_none hp) hl hn
  · intro hp hl
    exact (lfdPad_phase hsafe).2.2.1 (quarterPhase_none hp) hl

end Sys2Proof.Machine
end

section
/-! SUPPORT. FLOCK_STATUS. -/
namespace Sys2Proof.Machine

section
variable {s x : State} {t tn : Nat} {d : Desc} {fl : List Flight}

/-- Parameter bytes that are all 0, one by one. -/
theorem parNonzero_iff (lo hi : Nat) (d : Desc) : parNonzero lo hi d = none ↔ ∀ i, lo ≤ i → i < hi → p8 d i = 0 := by
  simp only [parNonzero, Option.map_eq_none_iff, List.find?_eq_none, List.mem_map, List.mem_range, decide_eq_true_eq, not_not]
  constructor
  · exact fun h i h1 h2 => h i ⟨i - lo, by omega, by omega⟩
  · rintro h i ⟨j, hj, rfl⟩
    exact h _ (by omega) (by omega)

/-! ## SLOT -/

theorem statusSlot_answers (hs : serves t d s) (hmode : isMode 0x39 0 d = true) (hp : parNonzero 1 24 d = none) :
    let out := ((List.range (d.len / 16)).map (fun i => flockSlotResult (d.target + i) s ++ [0, 0])).flatten
    dmaBlocked d d.dstAddr out.length s = false →
    ∃ s', exec (.flockStatusSlot t d) s = .next s' ∧
      answers d stOk (flockSlotResult d.target s) 0 (dmaWrite d d.dstAddr out (elapse t s)) s' := by
  intro out hdma
  obtain ⟨fl, tn, hans, hrun⟩ := served_working hs
  have hslot : ∀ i, flockSlotResult i (working fl tn (elapse t s)) = flockSlotResult i s := fun i => by
    have htok : tokenOf i (working fl tn (elapse t s)) = tokenOf i s := by
      rw [tokenOf, tokenOf, show (working fl tn (elapse t s)).flk = s.flk from elapse_flk t s]
    have hfld : ∀ f, fld f (working fl tn (elapse t s)) = fld f s := fun f => elapse_fld f t s
    simp only [flockSlotResult, htok, hfld]
  have hkeep : ∀ y : State, (dmaWrite d d.dstAddr out (working fl tn y)).flk = y.flk ∧
      ∀ f, fld f (dmaWrite d d.dstAddr out (working fl tn y)) = fld f y := fun y => by
    unfold dmaWrite
    split <;> exact ⟨rfl, fun _ => rfl⟩
  have hall := (parNonzero_iff 1 24 d).mp hp
  have hzero : p8 d 1 = 0 ∧ parNonzero 2 24 d = none :=
    ⟨hall 1 (by omega) (by omega), (parNonzero_iff 2 24 d).mpr fun i h1 h2 => hall i (by omega) h2⟩
  have hfree : dmaBlocked d d.dstAddr out.length (working fl tn (elapse t s)) = false :=
    (elapse_dmaBlocked d d.dstAddr out.length t s).trans hdma
  refine ⟨_, ?_, answers_atDst hans (quietStatus_ok _)⟩
  show descCommand t (asMode 0x39 0 d) statusSlot s = _
  rw [asMode_self _ _ _ hmode, hrun, statusSlot, if_neg (not_not.mpr hzero.1), reserved_free hzero.2]
  simp only [hslot]
  rw [writeDst_ok _ hfree]

/-! ## PIN -/

theorem pinResult_at (f : Nat) (fl : List Flight) (tn t : Nat) (s : State) :
    pinResult f (working fl tn (elapse t s)) = pinResult f s := by
  have hflk : (working fl tn (elapse t s)).flk = s.flk := elapse_flk t s
  have hfold : (working fl tn (elapse t s)).fold = s.fold := elapse_fold t s
  have hp : ptime (working fl tn (elapse t s)) = ptime s := elapse_fld _ t s
  simp only [pinResult, pruned, anyPin, ownPin, hflk, hfold, hp]

/-- A pinfold form of FLOCK_STATUS on a fold that exists (R278). -/
structure PinAsked (d : Desc) (s : State) : Prop where
  target : d.target = 0
  fold : s.fold.live.defined (p8 d 1) = true

theorem PinAsked.runs (h : PinAsked d s) (k : State → State) :
    pinForm d k (working fl tn (elapse t s)) = k (working fl tn (elapse t s)) := by
  have hfold : (working fl tn (elapse t s)).fold = s.fold := elapse_fold t s
  rw [pinForm, if_neg (not_not.mpr h.target), hfold, if_neg (by rw [h.fold]; decide)]

theorem statusPin_answers (hs : serves t d s) (h : PinAsked d s) (hmode : isMode 0x39 1 d = true)
    (hp : parNonzero 2 24 d = none) :
    ∃ s', exec (.flockStatusPin t d) s = .next s' ∧ answers d stOk (pinResult (p8 d 1) s) 0 (elapse t s) s' := by
  obtain ⟨fl, tn, hans, hrun⟩ := served_working hs
  refine ⟨_, ?_, answers_of_working (hans.quiet (quietStatus_ok _))⟩
  show descCommand t (asMode 0x39 1 d) statusPin s = _
  rw [asMode_self _ _ _ hmode, hrun, statusPin, hp]
  dsimp only
  rw [h.runs, pinResult_at]

/-! ## SHORTEN -/

/-- The unit's work of a SHORTEN in range (R285). -/
theorem statusShorten_runs (h : PinAsked d s) (hnew : p32 d 2 ≤ 2880) (hclear : p8 d 6 ≤ 1)
    (hp : parNonzero 7 24 d = none) : let w := working fl tn (elapse t s)
    let y := shorten (p8 d 1) (p32 d 2) (bit 0 (p8 d 6)) w
    statusShorten d w = complete d stOk (pinResult (p8 d 1) y) 0 y := by
  intro w y
  rw [statusShorten, if_neg (Nat.not_lt.mpr hnew), if_neg (Nat.not_lt.mpr hclear), hp]
  exact h.runs _

theorem pruned_at (fl : List Flight) (tn t : Nat) (s : State) : pruned (working fl tn (elapse t s)) = pruned s := by
  have hflk : (working fl tn (elapse t s)).flk = s.flk := elapse_flk t s
  have hp : ptime (working fl tn (elapse t s)) = ptime s := elapse_fld _ t s
  rw [pruned, pruned, hflk, hp]

theorem statusShorten_none (hs : serves t d s) (h : PinAsked d s) (hmode : isMode 0x39 2 d = true) (hnew : p32 d 2 ≤ 2880)
    (hclear : p8 d 6 ≤ 1) (hp : parNonzero 7 24 d = none) (hnone : (pruned s).find? (fun e => e.fold = p8 d 1) = none) :
    ∃ s', exec (.flockStatusShorten t d) s = .next s' ∧ answers d stOk (pinResult (p8 d 1) s) 0 (elapse t s) s' := by
  obtain ⟨fl, tn, hans, hrun⟩ := served_working hs
  have hsame : shorten (p8 d 1) (p32 d 2) (bit 0 (p8 d 6)) (working fl tn (elapse t s)) = working fl tn (elapse t s) := by
    rw [shorten, pruned_at, hnone]
  refine ⟨_, ?_, answers_of_working (hans.quiet (quietStatus_ok _))⟩
  show descCommand t (asMode 0x39 2 d) statusShorten s = _
  rw [asMode_self _ _ _ hmode, hrun, statusShorten_runs h hnew hclear hp, hsame, pinResult_at]

/-- The tracker with an entry's end cut (R285). -/
def cutAt (e : PinEntry) (p : Nat) (l : List PinEntry) : List PinEntry :=
  l.map (fun y => if y.fold = e.fold then { e with till := some p } else y)

/-- An entry with an end stays in the tracker. -/
theorem cutAt_kept (e : PinEntry) (p : Nat) (x : State) :
    (cutAt e p (pruned x)).filter (fun y => y.kept (ptime x)) = cutAt e p (pruned x) := by
  rw [List.filter_eq_self]
  intro y hy
  obtain ⟨z, hz, rfl⟩ := List.mem_map.mp hy
  by_cases hf : z.fold = e.fold
  · simp [hf, PinEntry.kept]
  · rw [if_neg hf]
    exact (List.mem_filter.mp hz).2

/-- A cut pinfold is stored with its records and its event (R284, R285). -/
theorem shorten_cuts {e : PinEntry} {f k u : Nat} (hm : memorySafe x) (hsh : shaped x) (hr : x.nv.ledgerReady = true)
    (he : (pruned x).find? (fun e => e.fold = f) = some e) (htill : e.till = some u) (hk : 0 < k)
    (hcut : ptime x + k < u) : PinStored (cutAt e (ptime x + k) (pruned x)) x (shorten f k false x) := by
  let l : List PinEntry := cutAt e (ptime x + k) (pruned x)
  let put : State := putEntry { e with till := some (ptime x + k) } (setTrack (pruned x) x)
  have hput : put = setTrack l x := rfl
  have hsome : e.till.isSome = true := by rw [htill]; rfl
  have hless : k < e.till.getD (ptime x) - ptime x := by
    rw [htill]
    show k < u - ptime x
    omega
  let r : Nat := (some (ptime x + k)).getD (ptime x) - ptime x
  let n : Nat := (PinEntry.window (ptime x) { e with till := some (ptime x + k) }).length
  let m : Nat := r % 65536 + 65536 * b2n false
  have hrun : shorten f k false x = storePin (pinEvent f 3 (e.level.getD 0) n r 0 (append 0x34 f m put)) := by
    rw [shorten, he]
    simp only [hsome, hless, decide_true, Bool.and_true, Bool.false_and, Bool.not_true, Bool.false_eq_true, if_false, if_true,
      Nat.pos_iff_ne_zero.mp hk, decide_false, Bool.and_false, Bool.not_false]
    rfl
  rw [hrun]
  have hrec : Recorded [] [] (setTrack l x) (pinEvent f 3 (e.level.getD 0) n r 0 (append 0x34 f m put)) := by
    rw [hput]
    exact (Recorded.append 0x34 f m (setTrack l x) hr).trans (pinEvent_recorded _ _ _ _ _ _ _)
  have hst := storePin_stores hm hsh hr hrec
  rwa [cutAt_kept] at hst

theorem statusShorten_cuts (hs : serves t d s) (h : PinAsked d s) (hmode : isMode 0x39 2 d = true) (hnew : p32 d 2 ≤ 2880)
    (hp : parNonzero 7 24 d = none) {e : PinEntry} {u : Nat} (hr : s.nv.ledgerReady = true)
    (he : (pruned s).find? (fun e => e.fold = p8 d 1) = some e) (htill : e.till = some u) (hpos : 0 < p32 d 2)
    (hcut : ptime s + p32 d 2 < u) (hclear : p8 d 6 = 0) :
    ∃ s1 s', exec (.flockStatusShorten t d) s = .next s' ∧ answers d stOk (pinResult (p8 d 1) s1) 0 s1 s' ∧
      recordsOnly [253] [NVS_TALLY_CNT.reg]
        { elapse t s with
          flk := { s.flk with track := s1.flk.track, pinRecAt := ptime s }
          nv := { (elapse t s).nv with recs := s1.nv.recs, twins := s1.nv.twins } } s1 ∧
      s1.flk.track = cutAt e (ptime s + p32 d 2) (pruned s) := by
  obtain ⟨fl, tn, hans, hrun⟩ := served_working hs
  obtain ⟨-, hm, hsh, -⟩ := hs
  have hptime : ptime (working fl tn (elapse t s)) = ptime s := elapse_fld _ t s
  have hst := shorten_cuts (x := working fl tn (elapse t s)) (f := p8 d 1) (memorySafe_elapse hm t) (shaped_elapse hsh t)
    ((elapse_nv_ledgerReady t s).trans hr) (by rw [pruned_at]; exact he) htill hpos (by rw [hptime]; exact hcut)
  have hbit : bit 0 (p8 d 6) = false := by rw [hclear]; rfl
  have hunit := statusShorten_runs (fl := fl) (tn := tn) (t := t) h hnew (by omega) hp
  dsimp only at hunit
  rw [hbit] at hunit
  rw [hptime, pruned_at] at hst
  generalize shorten (p8 d 1) (p32 d 2) false (working fl tn (elapse t s)) = y at *
  have hrec := hst.recorded
  have htrack : y.flk.track = cutAt e (ptime s + p32 d 2) (pruned s) := (congrArg Flk.track hrec.flk :)
  have hansy : Answerable d y := by
    refine Answerable.recorded ?_ hrec
    exact ⟨hans.heard, hans.mem, hans.hostWait, hans.wait, hans.queue⟩
  refine ⟨y, _, ?_, hansy.quiet (quietStatus_ok _), ?_, htrack⟩
  · show descCommand t (asMode 0x39 2 d) statusShorten s = _
    rw [asMode_self _ _ _ hmode, hrun, hunit]
  · rw [htrack, ← elapse_flk t s]
    rw [hptime] at hrec
    exact hrec.recordsOnly rfl rfl rfl

end

end Sys2Proof.Machine
end

section
/-! SUPPORT. FLOCK_LEARN: its checks, its wait for a Bellwether, and the Bellwether's polls. -/
namespace Sys2Proof.Machine

section
variable {s w x : State} {t tn n : Nat} {d : Desc} {fl : List Flight} {b : Bytes} {k : Slot}

/-! ## The checks -/

/-- The flock of a learn's blob, decrypted with the key's slot. -/
def learnEntries (d : Desc) (b : Bytes) (k : Slot) : List Bytes :=
  let blob := learnBlob d b
  chunks 32 (gcmCrypt k.key (slice 12 12 blob) (slice 32 (32 * byteAt 7 blob) blob))

/-- And the flock it makes. -/
def learnFlock (d : Desc) (b : Bytes) (k : Slot) : Flock := flockOf (leAt 4 3 (learnBlob d b)) (learnEntries d b k)

/-- A FLOCK_LEARN that passes every check (R274). -/
structure LearnPasses (d : Desc) (b : Bytes) (n : Nat) (k : Slot) (s : State) : Prop where
  auth : p8 d 0 ≤ 2
  rsv : p8 d 1 = 0
  par : parNonzero 6 24 d = none
  read : dmaRead d d.srcAddr d.len s = some b
  form : learnForm d b = true
  fold : bwFoldOk d = true
  key : keyFor (p16 d 2) 1 (fun k => k == 1 || k == 3) s = some (n, k)
  next : byteAt 8 (learnBlob d b) = fld FLK_FLOCK.NEXT s
  sig : p8 d 0 = 1 → learnSigOk b s = true
  tag : gcmTag k.key (slice 12 12 (learnBlob d b)) ((learnBlob d b).take 32)
    (slice 32 (32 * byteAt 7 (learnBlob d b)) (learnBlob d b)) = (learnBlob d b).drop (32 + 32 * byteAt 7 (learnBlob d b))
  entries : entryBad (learnEntries d b k) = none

/-- The state in which the checks have passed: busy, and a signature's verification counted. -/
def learnBegun (d : Desc) (x : State) : State :=
  if p8 d 0 = 1 then countVerify true (setFld FLK_STATUS.LEARN_BUSY 1 x) else setFld FLK_STATUS.LEARN_BUSY 1 x

/-- And the new flock stands in the staged bank. -/
def learnStaged (d : Desc) (b : Bytes) (k : Slot) (x : State) : State :=
  { learnBegun d x with flk := { x.flk with staged := some (learnFlock d b k) } }

theorem learnBegun_busy (d : Desc) (x : State) (hwf : Regs.wf x = true) :
    learnBegun d x = { x with regs := (learnBegun d x).regs } ∧
      RegsKept [FLK_STATUS.reg, CRY_PKE_CNT.reg] x (learnBegun d x) ∧
      (p8 d 0 ≠ 1 → RegsKept [FLK_STATUS.reg] x (learnBegun d x)) ∧ fld FLK_STATUS.LEARN_BUSY (learnBegun d x) = 1 := by
  let y : State := setFld FLK_STATUS.LEARN_BUSY 1 x
  have hy : RegsKept [FLK_STATUS.reg] x y := .setFld _ _ _ (by decide)
  have hbusy : fld FLK_STATUS.LEARN_BUSY y = 1 := fld_setFld_same FLK_STATUS.LEARN_BUSY (by decide) 1 x hwf
  have hcount : RegsKept [CRY_PKE_CNT.reg] y (countVerify true y) := .bump CRY_PKE_CNT.VERIFY y (by decide)
  unfold learnBegun
  by_cases h1 : p8 d 0 = 1
  · rw [if_pos h1]
    exact ⟨rfl, (hy.mono (by simp)).trans (hcount.mono (by simp)), fun h => absurd h1 h,
      (hcount.fld FLK_STATUS.LEARN_BUSY (by decide)).trans hbusy⟩
  · rw [if_neg h1]
    exact ⟨rfl, hy.mono (by simp), fun _ => hy, hbusy⟩

/-- The checks read nothing that the unit has changed by then. -/
theorem LearnPasses.at (h : LearnPasses d b n k s) (fl : List Flight) (tn t : Nat) :
    LearnPasses d b n k (working fl tn (elapse t s)) := by
  obtain ⟨hkey, hread, -⟩ := working_crypt (s := s) (t := t) (d := d) fl tn (p16 d 2) 1 (fun k => k == 1 || k == 3)
    d.srcAddr d.len
  have hrec : recRead recFleet (working fl tn (elapse t s)) = recRead recFleet s := by
    rw [recRead, recRead, recGet, recGet, show (working fl tn (elapse t s)).nv.recs = s.nv.recs from elapse_nv_recs t s]
  have htally : tallyVal 252 (working fl tn (elapse t s)) = tallyVal 252 s := by
    rw [tallyVal, tallyVal, show tally 252 (working fl tn (elapse t s)) = tally 252 s from elapse_tally 252 t s]
  have hsig : learnSigOk b (working fl tn (elapse t s)) = learnSigOk b s := by
    rw [learnSigOk, learnSigOk, fleetKey, fleetKey, learnMsg, learnMsg, hrec, htally]
  exact { h with
    read := hread.trans h.read
    key := hkey.trans h.key
    next := h.next.trans (elapse_fld _ t s).symm
    sig := fun h1 => hsig.trans (h.sig h1) }

/-- FLOCK_LEARN of such a blob comes to its authorisation (R274). -/
theorem LearnPasses.unit (h : LearnPasses d b n k x) (hwf : Regs.wf x = true) :
    learnUnit d x = authorise d (learnFlock d b k) (learnStaged d b k x) := by
  let y : State := setFld FLK_STATUS.LEARN_BUSY 1 x
  have hy : RegsKept [FLK_STATUS.reg] x y := .setFld _ _ _ (by decide)
  have hread : dmaRead d d.srcAddr d.len y = some b := h.read
  have hkey : keyFor (p16 d 2) 1 (fun k => k == 1 || k == 3) y = some (n, k) := h.key
  have hnext : byteAt 8 (learnBlob d b) = fld FLK_FLOCK.NEXT y :=
    h.next.trans (hy.fld FLK_FLOCK.NEXT (by decide)).symm
  have hsig : p8 d 0 = 1 → learnSigOk b y = true := h.sig
  unfold learnUnit
  dsimp only
  rw [if_neg (Nat.not_lt.mpr h.auth), if_neg (not_not.mpr h.rsv), h.par]
  dsimp only
  rw [show dmaRead d d.srcAddr d.len (setFld FLK_STATUS.LEARN_BUSY 1 x) = some b from hread]
  dsimp only
  rw [if_neg (by rw [h.form]; exact Bool.noConfusion), if_neg (by rw [h.fold]; exact Bool.noConfusion),
    show keyFor (p16 d 2) 1 (fun k => k == 1 || k == 3) (setFld FLK_STATUS.LEARN_BUSY 1 x) = some (n, k) from hkey]
  dsimp only
  rw [if_neg (not_not.mpr hnext), if_neg (by rintro ⟨h1, h2⟩; exact absurd ((hsig h1).symm.trans h2) (by decide)),
    if_neg (not_not.mpr h.tag), show entryBad (chunks 32 (gcmCrypt k.key (slice 12 12 (learnBlob d b))
      (slice 32 (32 * byteAt 7 (learnBlob d b)) (learnBlob d b)))) = none from h.entries]
  have hflk : (learnBegun d x).flk = x.flk := (congrArg State.flk (learnBegun_busy d x hwf).1 :)
  show authorise d (learnFlock d b k)
    { learnBegun d x with flk := { (learnBegun d x).flk with staged := some (learnFlock d b k) } } = _
  rw [hflk]
  rfl

theorem freshBell_congr (hf : w.flk.bell = x.flk.bell) (hn : now w = now x) : freshBell w = freshBell x := by
  rw [freshBell, freshBell, hf, hn]

/-! ## Waiting for a Bellwether -/

theorem flockLearn_waits (hs : serves t d s) (hrow : isRow 0x38 d = true) (h : LearnPasses d b n k s) (h0 : p8 d 0 = 0)
    (hbell : freshBell (elapse t s) = none) : let f := learnFlock d b k
    ∃ s', exec (.flockLearn t d) s = .next s' ∧ fld FLK_STATUS.BW_WAIT s' = 1 ∧ fld FLK_STATUS.LEARN_BUSY s' = 1 ∧
      settles { atWork d (elapse t s) with
        regs := s'.regs
        flk := { s.flk with
          staged := some f
          learn := some { d := d, flock := f, since := now (elapse t s), nextPoll := now (elapse t s) } } } s' ∧
      keepsRegs [FLK_STATUS.reg] s s' := by
  intro f
  obtain ⟨-, hrun⟩ := served_atWork hs
  obtain ⟨fl, tn, hw⟩ := atWork_working d (elapse t s) hs.2.2.2
  obtain ⟨-, hlgr, hfold, hnow, hwf, -⟩ := atWork_keeps hs
  have hflk : (atWork d (elapse t s)).flk = s.flk := by
    rw [hw]
    exact elapse_flk t s
  have hpass : LearnPasses d b n k (atWork d (elapse t s)) := by
    rw [hw]
    exact h.at fl tn t
  have hkept0 : RegsKept [FLK_STATUS.reg] (elapse t s) (atWork d (elapse t s)) := by
    rw [hw]
    exact .of_eq _ rfl rfl
  generalize atWork d (elapse t s) = v at *
  obtain ⟨hframe, -, hkept, hbusy⟩ := learnBegun_busy d v hwf
  have hwfz := (hkept (by omega)).wf hwf
  have hnowz : now (learnBegun d v) = now v := (congrArg now hframe :)
  let z : State := { learnBegun d v with flk := { v.flk with
    staged := some f
    learn := some { d := d, flock := f, since := now (elapse t s), nextPoll := now (elapse t s) } } }
  let y : State := setFld FLK_STATUS.BW_WAIT 1 z
  have hunit : learnUnit d v = y := by
    have hno : freshBell (learnStaged d b k v) = none :=
      (freshBell_congr (w := learnStaged d b k v) (x := elapse t s) (by rw [elapse_flk, ← hflk]; rfl)
        (hnowz.trans hnow)).trans hbell
    have hnows : now (learnStaged d b k v) = now (elapse t s) := hnowz.trans hnow
    rw [hpass.unit hwf, authorise, if_neg (not_not.mpr h0), hno]
    dsimp only
    rw [hnows]
    rfl
  have hexec : exec (.flockLearn t d) s = .next (finish y) := by
    show descCommand t (asOp 0x38 d) learnUnit s = _
    rw [asOp_self hrow, hrun, hunit]
  have hzk : RegsKept [FLK_STATUS.reg] (elapse t s) z :=
    (hkept0.trans (hkept (by omega))).trans (.of_eq _ rfl rfl)
  have hyk : RegsKept [FLK_STATUS.reg] (elapse t s) y := hzk.trans (.setFld FLK_STATUS.BW_WAIT 1 z (by decide))
  have hyframe : y = { v with
      regs := y.regs
      flk := { s.flk with
        staged := some f
        learn := some { d := d, flock := f, since := now (elapse t s), nextPoll := now (elapse t s) } } } := by
    rw [← hflk]
    exact (congrArg (fun u : State => { u with
      regs := y.regs
      flk := { v.flk with
        staged := some f
        learn := some { d := d, flock := f, since := now (elapse t s), nextPoll := now (elapse t s) } } }) hframe :)
  obtain ⟨hset, hkeeps, hfld⟩ := framed_settles (t := t) (y := { v with flk := { s.flk with
      staged := some f
      learn := some { d := d, flock := f, since := now (elapse t s), nextPoll := now (elapse t s) } } })
    ((running_iff s).mp hs.1).1 hlgr hfold hyframe hyk
  refine ⟨_, hexec, ?_, ?_, hset, hkeeps⟩
  · rw [hfld]
    exact fld_setFld_same FLK_STATUS.BW_WAIT (by decide) 1 z hwfz
  · rw [hfld]
    exact (fld_setFld_apart FLK_STATUS.BW_WAIT FLK_STATUS.LEARN_BUSY (by decide) (by decide) 1 z hwfz).trans hbusy

/-! ## The Bellwether's polls -/

/-- An LF operation enters a queue with room and nothing that waits (R144). -/
theorem enqueueHost_room {r : LfReq} (hdepth : lfDepth x < 16) (hwait : x.lf.wait = []) :
    enqueueHost d r x = { x with lf := { x.lf with nextNo := x.lf.nextNo + 1, queue := x.lf.queue ++ [r] } } := by
  rw [enqueueHost, if_pos (by rw [hwait, decide_eq_true hdepth]; rfl)]
  rfl

/-- A descriptor of the Drover port that is not there yet and passes its checks does its work (R121). -/
theorem withDesc_enters (hsrc : d.src = .drover) (hfly : isFlying d x = false) (hcheck : check119 d x = none)
    (run : Desc → State → State) : withDesc d run x = run d (atWork d x) := by
  have hnone : x.hif.flight.any (fun f => f.d == d) = false := by
    rw [List.any_eq_false]
    intro f hf heq
    rw [isFlying, List.any_eq_false] at hfly
    have hd : f.d = d := by simpa using heq
    exact hfly f hf (by simp [Flight.is, sameDesc, hd])
  have hhost : isHost d = false := by rw [isHost, hsrc]
  have hdrover : ¬ ((isHost d || isFlying d x) = true) := by rw [hhost, hfly]; decide
  rw [withDesc, hnone, if_neg (by decide), if_neg hdrover, hcheck, atWork, hnone, if_neg (by decide)]

/-- Work on a descriptor of the Drover port changes the port's bookkeeping alone. -/
theorem atWork_portDesc (hsrc : d.src = .drover) (x : State) : ∃ fl tn, atWork d x = working fl tn x := by
  have hfw : ¬ ((opFirmware d.opcode && isHost d) = true) := by rw [isHost, hsrc, Bool.and_false]; decide
  unfold atWork
  split
  · exact ⟨_, x.hif.turn, rfl⟩
  · rw [enterFlight]
    dsimp only
    rw [if_neg hfw]
    exact ⟨_, 32, rfl⟩

theorem bellPoll_queues {l : Learn} (hl : live s = true) (hlearn : s.flk.learn = some l) (hfold : p16 l.d 4 ≠ 0xFFFF)
    (hdue : l.nextPoll ≤ now (elapse t s)) (hend : now (elapse t s) ≤ l.since + secTicks 60) :
    let b := bellDesc l s
    isFlying b s = false → check119 b s = none → targetRetired b s = false → lfDepth s < 16 → s.lf.wait = [] →
    let s1 := { elapse t s with
      flk := { s.flk with learn := some { l with nextPoll := l.nextPoll + secTicks 2 } }
      hif := { s.hif with dispNo := s.hif.dispNo + 1 } }
    ∃ s', exec (.bellwetherPoll t) s = .next s' ∧
      settles { atWork b s1 with
        lf := { s.lf with nextNo := s.lf.nextNo + 1, queue := s.lf.queue ++ [hostReq .poll b 4 0 2 (elapse t s)] } } s' := by
  intro b hfly hcheck hret hdepth hwait s1
  have hfly1 : isFlying b s1 = false := hfly
  have hcheck1 : check119 b s1 = none :=
    (check119_congr (b := s) (elapse_part t s) (elapse_fold t s) (elapse_lcState t s)).trans hcheck
  obtain ⟨fl, tn, hwork⟩ : ∃ fl tn, atWork b s1 = working fl tn s1 := atWork_portDesc (d := b) rfl s1
  have hlf : (atWork b s1).lf = s.lf := by
    rw [hwork]
    exact elapse_lf t s
  have hret1 : targetRetired b (atWork b s1) = false := by
    rw [← hret, hwork]
    simp [targetRetired, leafRetired, working, withHif, s1]
  have hunit : lfPollUnit b (atWork b s1) = { atWork b s1 with
      lf := { s.lf with nextNo := s.lf.nextNo + 1, queue := s.lf.queue ++ [hostReq .poll b 4 0 2 (elapse t s)] } } := by
    have hbad : pollParBad b = none := rfl
    have hreq : hostReq .poll b (p8 b 0) (p8 b 1) (p8 b 2) (atWork b s1) = hostReq .poll b 4 0 2 (elapse t s) := by
      rw [hostReq, hostReq, hlf, elapse_lf]
      rfl
    rw [lfPollUnit, hbad]
    dsimp only
    rw [hret1, if_neg (by decide), hreq, enqueueHost_room (by rw [lfDepth, hlf]; exact hdepth) (by rw [hlf]; exact hwait), hlf]
  refine ⟨_, (command_live t _ s hl).trans ?_, finish_settles_of s _ hl ?_ ?_⟩
  · rw [bellPoll, elapse_flk, hlearn]
    dsimp only
    rw [onlyIf, if_pos (by simp [hfold, hdue, hend]), elapse_flk, elapse_hif,
      show bellDesc l (elapse t s) = b from by rw [bellDesc, elapse_hif]; rfl]
    rw [withDesc_enters (d := b) (x := s1) rfl hfly1 hcheck1, hunit]
  · show (atWork b s1).lgr = s.lgr
    rw [hwork]
    exact elapse_lgr t s
  · show (atWork b s1).fold = s.fold
    rw [hwork]
    exact elapse_fold t s

/-! ## The end of the wait -/

/-- The state of a learn that has ended without effect. -/
def learnDropped (x : State) : State :=
  setFld FLK_STATUS.LEARN_BUSY 0 (setFld FLK_STATUS.BW_WAIT 0
    { x with flk := { x.flk with staged := none, learn := none } })

theorem learnDropped_leaves (hwf : Regs.wf x = true) : RegsKept [FLK_STATUS.reg] x (learnDropped x) ∧
    fld FLK_STATUS.LEARN_BUSY (learnDropped x) = 0 ∧ fld FLK_STATUS.BW_WAIT (learnDropped x) = 0 := by
  let z : State := { x with flk := { x.flk with staged := none, learn := none } }
  let y : State := setFld FLK_STATUS.BW_WAIT 0 z
  have hz : RegsKept [FLK_STATUS.reg] x z := .of_eq _ rfl rfl
  have hy : RegsKept [FLK_STATUS.reg] x y := hz.trans (.setFld FLK_STATUS.BW_WAIT 0 z (by decide))
  refine ⟨hy.trans (.setFld FLK_STATUS.LEARN_BUSY 0 y (by decide)), fld_setFld_same FLK_STATUS.LEARN_BUSY (by decide) 0 y (hy.wf hwf), ?_⟩
  exact (fld_setFld_apart FLK_STATUS.LEARN_BUSY FLK_STATUS.BW_WAIT (by decide) (by decide) 0 y (hy.wf hwf)).trans
    (fld_setFld_same FLK_STATUS.BW_WAIT (by decide) 0 z hwf)

theorem bellTimeout_answers {l : Learn} (hl : live s = true) (hm : memorySafe s) (hlearn : s.flk.learn = some l)
    (hend : l.since + secTicks 60 ≤ now (elapse t s)) (hh : heard l.d (elapse t s) = true) :
    ∃ s1 s', exec (.bellwetherTimeout t) s = .next s' ∧
      answers l.d stNoResponse (learnResult l.d 0 0xFF 0xFF s) 0 s1 s' ∧
      s1 = { elapse t s with regs := s1.regs, flk := { s.flk with staged := none, learn := none } } ∧
      fld FLK_STATUS.LEARN_BUSY s1 = 0 ∧ fld FLK_STATUS.BW_WAIT s1 = 0 ∧ keepsRegs [FLK_STATUS.reg] s s1 := by
  obtain ⟨hkept, hbusy, hwait⟩ := learnDropped_leaves (memorySafe_elapse_wf hm t)
  have ha := answerable_at hl hm hh
  have hans : Answerable l.d (learnDropped (elapse t s)) := ⟨ha.heard, ha.mem, ha.hostWait, ha.wait, ha.queue⟩
  have hres : learnResult l.d 0 0xFF 0xFF (learnDropped (elapse t s)) = learnResult l.d 0 0xFF 0xFF s := by
    have htally : tallyVal 252 (learnDropped (elapse t s)) = tallyVal 252 s := by
      rw [tallyVal, tallyVal, show tally 252 (learnDropped (elapse t s)) = tally 252 s from elapse_tally 252 t s]
    rw [learnResult, learnResult, htally, hkept.fld FLK_FLOCK.EPOCH (by decide), hkept.fld FLK_VID.VID (by decide),
      elapse_fld, elapse_fld]
  refine ⟨learnDropped (elapse t s), _, ?_, hans.quiet (st := stNoResponse) rfl, ?_, hbusy, hwait, fun off ho => ?_⟩
  · refine (command_live t _ s hl).trans ?_
    rw [elapse_flk, hlearn]
    dsimp only
    rw [onlyIf, if_pos (decide_eq_true hend), ← hres]
    rfl
  · rw [learnDropped, elapse_flk]
    rfl
  · rw [hkept.keeps off ho, elapse_regGet]

end

end Sys2Proof.Machine
end

section
/-! SUPPORT. A flock that becomes active. -/
namespace Sys2Proof.Machine

/-- The registers that a learn changes. -/
def learnRegs : List Nat :=
  [FLK_STATUS.reg, FLK_FLOCK.reg, FLK_VID.reg, FLK_DRIVER.reg, CRY_PKE_CNT.reg, NVS_TALLY_CNT.reg]

section
variable {s x y : State} {d : Desc} {g : Flock} {bw : Nat} {cells offs : List Nat}

theorem Recorded.setFlds (l : List (Field × Nat)) (x : State) (hl : ∀ p ∈ l, p.1.off ∈ recordRegs ++ offs) :
    Recorded cells offs x (setFlds l x) := by
  induction l generalizing x with
  | nil => exact Recorded.refl x
  | cons p l ih =>
    exact (Recorded.setFld p.1 p.2 x (hl p List.mem_cons_self)).trans
      (ih (Machine.setFld p.1 p.2 x) (fun q hq => hl q (List.mem_cons_of_mem _ hq)))

/-! ## The flock's registers -/

/-- What FLK_FLOCK, FLK_VID and FLOCK_VALID are set to (R269, R298). -/
def flockFlds (s : State) : List (Field × Nat) :=
  let e := tallyVal 252 s % 256
  let slots := (s.flk.flock.map (·.slots)).getD []
  [(FLK_STATUS.FLOCK_VALID, b2n s.flk.flock.isSome), (FLK_VID.VID, (s.flk.flock.map (·.vid)).getD 0),
    (FLK_FLOCK.BELLS, slots.countP (fun x => match x with | some k => k.role == 4 | none => false)),
    (FLK_FLOCK.TOKENS, slots.countP (·.isSome)), (FLK_FLOCK.NEXT, (e + 1) % 256), (FLK_FLOCK.EPOCH, e)]

theorem syncFlock_eq (s : State) : syncFlock s = setFlds (flockFlds s) s := rfl

theorem syncFlock_fields (hf : x.flk.flock = some g) (hwf : Regs.wf x = true) :
    fld FLK_STATUS.FLOCK_VALID (syncFlock x) = 1 ∧ fld FLK_VID.VID (syncFlock x) = g.vid % 2 ^ 24 ∧
      fld FLK_FLOCK.EPOCH (syncFlock x) = tallyVal 252 x % 256 := by
  have hread : ∀ f : Field, readable f (flockFlds x) = true → fld f (syncFlock x) = lastSet f (flockFlds x) (fld f x) :=
    fun f hr => fld_setFlds (flockFlds x) f x hwf hr
  rw [hread _ rfl, hread _ rfl, hread _ rfl]
  refine ⟨?_, ?_, ?_⟩
  · show b2n x.flk.flock.isSome % 2 ^ 1 = 1
    rw [hf]
    rfl
  · show (x.flk.flock.map (·.vid)).getD 0 % 2 ^ 24 = _
    rw [hf]
    rfl
  · exact Nat.mod_mod _ 256

/-! ## The end of the permission leaves the flock's flag -/

theorem setDriver_keeps (dor co : Nat) (present : Bool) (hr : x.nv.ledgerReady = true) (f : Field) (hf : f.off = FLK_STATUS.reg) :
    fld f (setDriver dor co present x) = fld f x :=
  (Recorded.setDriver (cells := []) (offs := [FLK_DRIVER.reg]) dor co present x hr (by decide)).fld f (by rw [hf]; decide)

theorem endPermission_keeps (reason code : Nat) (hr : x.nv.ledgerReady = true) (hwf : Regs.wf x = true) :
    fld FLK_STATUS.FLOCK_VALID (endPermission reason code x) = fld FLK_STATUS.FLOCK_VALID x := by
  unfold endPermission
  split
  · rfl
  · let a : State := setFld FLK_STATUS.END_REASON reason { x with flk := { x.flk with perm := none } }
    let b : State := setFld FLK_STATUS.START_ACTIVE 0 a
    have ha : Regs.wf a = true := regs_wf_setFld _ _ _ hwf
    have hb : Recorded [] [] b (append 0x2B reason code b) := Recorded.append _ _ _ _ hr
    refine (setDriver_keeps _ _ _ (hb.ledgerReady.trans hr) _ rfl).trans ((hb.fld FLK_STATUS.FLOCK_VALID (by decide)).trans ?_)
    refine (fld_setFld_apart FLK_STATUS.START_ACTIVE FLK_STATUS.FLOCK_VALID (by decide) (by decide) 0 a ha).trans ?_
    exact fld_setFld_apart FLK_STATUS.END_REASON FLK_STATUS.FLOCK_VALID (by decide) (by decide) reason
      { x with flk := { x.flk with perm := none } } hwf

/-! ## The activation -/

/-- The bank of the flock before `g`. -/
def oldBank (g : Flock) (x : State) : Nat := 1 - (flockBank g.tag x).getD 0

/-- `x` with the flock in force, the permission gone and the other bank erased (R275, R276). -/
def flockTaken (g : Flock) (x : State) : State :=
  recErase (recFlock + oldBank g x) { x with flk := { x.flk with
    flock := some g, pend := none, staged := none, bell := none, perm := none } }

/-- The state in which a learn's activation completes. -/
def flockActive (g : Flock) (d : Desc) (bw : Nat) (s : State) : State :=
  let s1 := recErase (recFlock + oldBank g s) { s with flk := { s.flk with
    flock := some g, pend := none, staged := none, bell := none } }
  let s2 := endPermission 4 0 (clearDriver (syncFlock s1))
  let s3 := append 0x30 (p8 d 0) (g.tag % 256 + 256 * g.slots.countP (·.isSome) + 65536 * bw) s2
  setFlds [(FLK_STATUS.BW_WAIT, 0), (FLK_STATUS.LEARN_BUSY, 0)] s3

theorem activateFlock_eq (g : Flock) (d : Desc) (bw : Nat) (x : State) : activateFlock g d bw x =
    if isFlying d (flockActive g d bw x) then
      complete d stOk (learnResult d (g.slots.countP (·.isSome)) bw 0xFF (flockActive g d bw x)) 0 (flockActive g d bw x)
    else flockActive g d bw x := rfl

/-- What the activation makes of a state: the flock, its registers and records of it. -/
structure FlockActivated (cells : List Nat) (g : Flock) (x e : State) : Prop where
  frame : Recorded cells learnRegs (flockTaken g x) e
  valid : fld FLK_STATUS.FLOCK_VALID e = 1
  busy : fld FLK_STATUS.LEARN_BUSY e = 0
  vid : fld FLK_VID.VID e = g.vid % 2 ^ 24
  epoch : fld FLK_FLOCK.EPOCH e = tallyVal 252 x % 256

theorem flockActive_activates (g : Flock) (d : Desc) (bw : Nat) (hr : x.nv.ledgerReady = true) (hwf : Regs.wf x = true) :
    FlockActivated cells g x (flockActive g d bw x) := by
  let a : State := recErase (recFlock + oldBank g x) { x with flk := { x.flk with
    flock := some g, pend := none, staged := none, bell := none } }
  let b : State := syncFlock a
  let c : State := clearDriver b
  let f : State := endPermission 4 0 c
  let h : State := append 0x30 (p8 d 0) (g.tag % 256 + 256 * g.slots.countP (·.isSome) + 65536 * bw) f
  let e : State := setFlds [(FLK_STATUS.BW_WAIT, 0), (FLK_STATUS.LEARN_BUSY, 0)] h
  have hab : Recorded cells learnRegs a b := Recorded.setFlds (flockFlds a) a (by simp [flockFlds, learnRegs, FLK_STATUS.FLOCK_VALID,
    FLK_VID.VID, FLK_FLOCK.BELLS, FLK_FLOCK.TOKENS, FLK_FLOCK.NEXT, FLK_FLOCK.EPOCH, FLK_STATUS.reg, FLK_VID.reg, FLK_FLOCK.reg])
  have hbr : b.nv.ledgerReady = true := hab.ledgerReady.trans hr
  have hbc : ∀ {offs : List Nat}, FLK_DRIVER.reg ∈ offs → Recorded cells offs b c := fun ho =>
    Recorded.setDriver _ _ _ _ hbr ho
  have hac := hab.trans (hbc (by decide))
  have hcr : c.nv.ledgerReady = true := hac.ledgerReady.trans hr
  have hcflk : c.flk = a.flk := hac.flk
  let gone : Flk := { a.flk with perm := none }
  have hbase : Recorded cells learnRegs (flockTaken g x) { c with flk := gone } := hac.withFlk gone
  have hperm : Recorded cells [FLK_STATUS.reg, FLK_DRIVER.reg] { c with flk := gone } f := by
    have hend := Recorded.endPermission (cells := cells) 4 0 c hcr
    rw [hcflk] at hend
    exact hend
  have hfr : f.nv.ledgerReady = true := hperm.ledgerReady.trans hcr
  have hfh : Recorded cells [] f h := Recorded.append _ _ _ _ hfr
  have hhe : Recorded cells [FLK_STATUS.reg] h e := Recorded.setFlds _ h (by
    simp [FLK_STATUS.BW_WAIT, FLK_STATUS.LEARN_BUSY, FLK_STATUS.reg])
  have hwfa : Regs.wf a = true := hwf
  have hwfc : Regs.wf c = true := hac.regs_wf hwfa
  have hwfh : Regs.wf h = true := hfh.regs_wf (hperm.regs_wf hwfc)
  obtain ⟨hvalid, hvid, hepoch⟩ := syncFlock_fields (x := a) (g := g) rfl hwfa
  have hread : ∀ {r : Field}, readable r [(FLK_STATUS.BW_WAIT, 0), (FLK_STATUS.LEARN_BUSY, 0)] = true →
      fld r e = lastSet r [(FLK_STATUS.BW_WAIT, 0), (FLK_STATUS.LEARN_BUSY, 0)] (fld r h) := fun hr =>
    fld_setFlds _ _ h hwfh hr
  have hkeep : ∀ r : Field, r.off ∉ recordRegs ++ [FLK_STATUS.reg, FLK_DRIVER.reg] → fld r e = fld r b := fun r ho => by
    have hno : r.off ∉ recordRegs ∧ r.off ∉ [FLK_STATUS.reg, FLK_DRIVER.reg] := by simpa [not_or] using ho
    have hst : r.off ≠ FLK_STATUS.reg := fun heq => hno.2 (by simp [heq])
    have hdr : r.off ≠ FLK_DRIVER.reg := fun heq => hno.2 (by simp [heq])
    have hin : ∀ l : List Nat, (∀ o ∈ l, o = FLK_STATUS.reg ∨ o = FLK_DRIVER.reg) → r.off ∉ recordRegs ++ l := fun l hl hm =>
      (List.mem_append.mp hm).elim hno.1 fun hm => (hl _ hm).elim hst hdr
    rw [hhe.fld r (hin _ (by simp)), hfh.fld r (hin _ (by simp)), hperm.fld r (hin _ (by simp))]
    exact (hbc (offs := [FLK_DRIVER.reg]) (by simp)).fld r (hin _ (by simp))
  refine ⟨((hbase.trans (hperm.mono (fun _ h => h) (by decide))).trans (hfh.mono (fun _ h => h) (by decide))).trans
    (hhe.mono (fun _ h => h) (by decide)), ?_, ?_, (hkeep _ (by decide)).trans hvid, (hkeep _ (by decide)).trans hepoch⟩
  · show fld _ e = 1
    rw [hread rfl]
    show fld FLK_STATUS.FLOCK_VALID h = 1
    rw [hfh.fld FLK_STATUS.FLOCK_VALID (by decide), show fld FLK_STATUS.FLOCK_VALID f = _ from endPermission_keeps 4 0 hcr hwfc,
      show fld FLK_STATUS.FLOCK_VALID c = _ from setDriver_keeps _ _ _ hbr _ rfl]
    exact hvalid
  · show fld _ e = 0
    rw [hread rfl]
    rfl

/-! ## The banks -/

/-- A bank that holds the flock in force stays (R275). -/
theorem flockBank_taken {b : Nat} (hb : b < 2) {bs : Bytes} (hread : recRead (recFlock + b) x = some bs) (htag : leAt 4 6 bs = g.tag) :
    (flockBank g.tag (flockTaken g x)).isSome = true := by
  have hfound : (flockBank g.tag x).isSome = true :=
    List.find?_isSome.mpr ⟨b, List.mem_range.mpr hb, by simp [hread, htag]⟩
  obtain ⟨k, hk⟩ := Option.isSome_iff_exists.mp hfound
  have hk2 : k < 2 := List.mem_range.mp (List.mem_of_find?_eq_some hk)
  have hkeep : recRead (recFlock + k) (flockTaken g x) = recRead (recFlock + k) x := by
    have hne : recFlock + k ≠ recFlock + oldBank g x := by
      rw [oldBank, hk]
      simp only [Option.getD_some]
      omega
    exact congrArg (fun z : Dual => z.newest.map Copy.data) (sget_sset_ne (fun _ => Dual.empty) _ _ _ hne _)
  refine List.find?_isSome.mpr ⟨k, List.mem_range.mpr hk2, ?_⟩
  rw [hkeep]
  rw [flockBank] at hk
  have hholds := List.find?_some hk
  exact hholds

theorem flockBank_congr {tag : Nat} (h : y.nv.recs = x.nv.recs) : flockBank tag y = flockBank tag x := by
  have hread : ∀ id, recRead id y = recRead id x := fun id => by rw [recRead, recRead, recGet, recGet, h]
  simp only [flockBank, hread]

/-- A stored flock names its tag. -/
theorem leAt_flockBytes (f : Flock) : leAt 4 6 (flockBytes f) = f.tag % 2 ^ 48 := by
  rw [flockBytes]
  exact (leAt_between (by rw [leBytes_length])).trans rfl

end

end Sys2Proof.Machine
end

section
/-! SUPPORT. A learn that commits, and the statement of the flock. -/
namespace Sys2Proof.Machine

section
variable {s x : State} {t n : Nat} {d : Desc} {b : Bytes} {k : Slot} {f g : Flock} {bw : Nat}

/-! ## The commit -/

/-- What a flock's commit rests on: its records and counter 252 take writes, and no trigger waits. -/
structure LearnMay (x : State) : Prop where
  ready : x.nv.ledgerReady = true
  recs : x.nv.wornRecs = []
  cells : x.nv.worn = []
  counter : (tally 252 x).isSome = true
  room : tallyVal 252 x < tallyMax
  trigger : triggerWaits x = false
  mem : memorySafe x
  seqs : x.nv.recs.all (fun r => seqsOk r.2) = true

/-- The flock `g` is stored, and counter 252 holds its tag. -/
structure LearnStored (g : Flock) (x c : State) : Prop where
  step : FlockStep [252] learnRegs x c
  flk : c.flk = { x.flk with learn := none }
  poll : c.poll = x.poll
  value : tallyVal 252 c = tallyVal 252 x + 1
  bank : ∃ i < 2, recRead (recFlock + i) c = some (flockBytes g)

/-- The commit of a flock in such a state goes on to its activation (R274 check 8, R275). -/
theorem commitLearn_stores (h : LearnMay x) (d : Desc) (f : Flock) (bw : Nat) :
    let g : Flock := { f with tag := tallyVal 252 x + 1 }
    ∃ c, commitLearn d f bw x = activateFlock g d bw c ∧ LearnStored g x c := by
  intro g
  obtain ⟨hready, hwr, hwc, hsome, hroom, htrig, ⟨-, -, -, hmem, -, hswf⟩, hseq⟩ := h
  obtain ⟨⟨v, slot⟩, htally⟩ := Option.isSome_iff_exists.mp hsome
  have hval : tallyVal 252 x = v := tallyVal_of_tally htally
  let x0 : State := { x with flk := { x.flk with learn := none } }
  obtain ⟨other, hother, hcommit⟩ : ∃ other < 2, commitLearn d f bw x =
      (if tallyVal 252 x ≥ tallyMax then learnFails d stTallySat 0 0xFF x0
        else
          let r := recStore (recFlock + other) (flockBytes g) x0
          if r.2 then learnFails d stEcc 0 0xFF r.1
          else
            let c := tallyStep 252 1 r.1
            match c.2 with
            | .done _ _ _ _ =>
              if triggerWaits c.1 then { c.1 with flk := { c.1.flk with pend := some (g, d, bw) } }
              else activateFlock g d bw c.1
            | .saturated => learnFails d stTallySat 0 0xFF c.1
            | _ => learnFails d stEcc 0 0xFF c.1) := by
    refine ⟨match x0.flk.flock with | some y => 1 - (flockBank y.tag x0).getD 1 | none => 0, ?_, rfl⟩
    split <;> omega
  obtain ⟨hok, hframe, hread, -, -, -⟩ := recStore_done (s := x0) (recFlock + other) (flockBytes g) hwr hswf hseq
  have hstep : FlockStep [252] learnRegs x0 (recStore (recFlock + other) (flockBytes g) x0).1 :=
    FlockStep.recStore _ _ x0 hready
  have hstored := Recorded.recStore (cells := []) (offs := []) (recFlock + other) (flockBytes g) x0 hready
  dsimp only at hcommit
  rw [hok] at hcommit
  generalize (recStore (recFlock + other) (flockBytes g) x0).1 = r at *
  have htr : tally 252 r = some (v, slot) := (hstored.tally 252 (by simp) (by decide)).trans htally
  obtain ⟨⟨clip, again, hdone⟩, hrec, hnew⟩ := tallyStep_done 252 1 r (hstored.worn.trans hwc) (hstored.array.wf hmem) htr
    (by decide) (by omega)
  have hrflk : r.flk = x0.flk := (congrArg State.flk hframe :)
  have hrpoll : r.poll = x0.poll := (congrArg State.poll hframe :)
  rw [if_neg (Nat.not_le.mpr hroom), if_neg Bool.false_ne_true, hdone] at hcommit
  dsimp only at hcommit
  generalize (tallyStep 252 1 r).1 = c at *
  have hcflk : c.flk = r.flk := hrec.flk
  have hcpoll : c.poll = r.poll := (congrArg State.poll hrec.blank :)
  have hctrig : triggerWaits c = false := by
    rw [triggerWaits, hcpoll, hrpoll]
    exact htrig
  rw [hctrig, if_neg Bool.false_ne_true] at hcommit
  refine ⟨c, hcommit, ?_, hcflk.trans hrflk, hcpoll.trans hrpoll, ?_, other, hother, ?_⟩
  · exact ((FlockStep.setFlk { x.flk with learn := none } x).trans hstep).trans
      (.of_recorded (hrec.mono (fun _ h => h) (by decide)))
  · rw [hval]
    exact tallyVal_of_tally hnew
  · rw [recRead, recGet, hrec.recs]
    exact hread

/-! ## The learn's end -/

/-- From the state in which a learn began to the one in which it completes. -/
structure Learnt (g : Flock) (x e : State) : Prop where
  frame : Recorded [252] learnRegs
    { x with
      flk := { x.flk with
        flock := some g, staged := none, pend := none, learn := none, perm := none, bell := none }
      nv := { x.nv with recs := e.nv.recs, twins := e.nv.twins } } e
  value : tallyVal 252 e = tallyVal 252 x + 1
  epoch : fld FLK_FLOCK.EPOCH e = (tallyVal 252 x + 1) % 256
  vid : fld FLK_VID.VID e = g.vid % 2 ^ 24
  busy : fld FLK_STATUS.LEARN_BUSY e = 0
  valid : fld FLK_STATUS.FLOCK_VALID e = 1
  bank : (flockBank g.tag e).isSome = true

/-- A stored flock's activation ends the learn (R275, R276). `y` is the learn's state before its commit, which differs
from `x` in registers, the staged bank and the answer kept. -/
theorem learnt_of_stored {y c : State} (hxy : FlockStep [252] learnRegs x y) (hpoll : y.poll = x.poll)
    (hflk : ∃ st bl, y.flk = { x.flk with staged := st, bell := bl }) (hval : tallyVal 252 y = tallyVal 252 x)
    (hc : LearnStored g y c) (htag : g.tag = tallyVal 252 x + 1) (hroom : tallyVal 252 x < tallyMax)
    (hready : x.nv.ledgerReady = true) (hwf : Regs.wf x = true) : Learnt g x (flockActive g d bw c) := by
  obtain ⟨hstep, hcflk, hcpoll, hcval, i, hi, hbank⟩ := hc
  have hxc : FlockStep [252] learnRegs x c := hxy.trans hstep
  have hcr : c.nv.ledgerReady = true := hxc.ledgerReady.trans hready
  obtain ⟨hframe, -, -, -, -⟩ := flockActive_activates (cells := []) g d bw hcr (hxc.wf hwf)
  obtain ⟨-, hvalid, hbusy, hvid, hepoch⟩ := flockActive_activates (cells := [252]) g d bw hcr (hxc.wf hwf)
  generalize flockActive g d bw c = e at *
  have heflk : e.flk = { x.flk with
      flock := some g, staged := none, pend := none, learn := none, perm := none, bell := none } := by
    obtain ⟨st, bl, hy⟩ := hflk
    have htaken : e.flk = (flockTaken g c).flk := hframe.flk
    rw [htaken, flockTaken, hcflk, hy]
    rfl
  have hepoll : e.poll = x.poll := ((congrArg State.poll hframe.blank :) : e.poll = c.poll).trans (hcpoll.trans hpoll)
  have hce : FlockStep [252] learnRegs c e := by
    have hreshaped : reshaped c e = flockTaken g c := by
      have h1 : e.flk = (flockTaken g c).flk := hframe.flk
      have h2 : e.poll = (flockTaken g c).poll := (congrArg State.poll hframe.blank :)
      have h3 : e.nv.twins = (flockTaken g c).nv.twins := (congrArg (fun z : State => z.nv.twins) hframe.blank :)
      rw [reshaped, h1, h2, hframe.recs, h3]
      rfl
    rw [FlockStep, hreshaped]
    exact hframe.mono (List.nil_subset _) (fun _ h => h)
  have hxe : Recorded [252] learnRegs (reshaped x e) e := hxc.trans hce
  rw [reshaped, heflk, hepoll] at hxe
  have htally : tallyVal 252 e = tallyVal 252 c := by
    rw [tallyVal, tallyVal, hframe.tally 252 (by simp) (by decide)]
    rfl
  have hv : tallyVal 252 c = tallyVal 252 x + 1 := hcval.trans (by rw [hval])
  refine ⟨hxe, htally.trans hv, by rw [hepoch, hv], hvid, hbusy, hvalid, ?_⟩
  rw [flockBank_congr hframe.recs]
  refine flockBank_taken hi hbank ?_
  rw [leAt_flockBytes, htag]
  exact Nat.mod_eq_of_lt (by rw [tallyMax] at hroom; omega)

/-- A learn that may commit, at the tick. -/
theorem LearnMay.at (h : LearnMay s) (fl : List Flight) (tn t : Nat) : LearnMay (working fl tn (elapse t s)) := by
  obtain ⟨hready, hwr, hwc, hsome, hroom, htrig, hmem, hseq⟩ := h
  have htally : tally 252 (working fl tn (elapse t s)) = tally 252 s := elapse_tally 252 t s
  have hpoll : (working fl tn (elapse t s)).poll = s.poll := elapse_poll t s
  refine ⟨(elapse_nv_ledgerReady t s).trans hready, (elapse_nv_wornRecs t s).trans hwr, (elapse_nv_worn t s).trans hwc,
    by rw [htally]; exact hsome, by rw [tallyVal, htally]; exact hroom, by rw [triggerWaits, hpoll]; exact htrig,
    memorySafe_elapse hmem t, ?_⟩
  rw [show (working fl tn (elapse t s)).nv.recs = s.nv.recs from elapse_nv_recs t s]
  exact hseq

theorem learnBegun_recorded (d : Desc) (x : State) : Recorded [252] learnRegs x (learnBegun d x) := by
  have hbusy : Recorded [252] learnRegs x (setFld FLK_STATUS.LEARN_BUSY 1 x) := Recorded.setFld _ _ _ (by decide)
  unfold learnBegun
  split
  · exact hbusy.trans (Recorded.bump CRY_PKE_CNT.VERIFY _ (by decide))
  · exact hbusy

/-- A completion leaves the counters. -/
theorem answers_tallyVal {c st det : Nat} {res : Bytes} {s' : State} (h : answers d st res det x s') :
    tallyVal c s' = tallyVal c x := by
  have hmem : s'.nv.mem = x.nv.mem := (congrArg (fun z : State => z.nv.mem) h.2.1 :)
  have hbad : s'.nv.bad = x.nv.bad := (congrArg (fun z : State => z.nv.bad) h.2.1 :)
  have htally : tally c s' = tally c x :=
    tally_congr c (fun i _ => cellVal_congr c i (fun _ _ => by rw [hmem]) (by rw [hbad]))
  rw [tallyVal, tallyVal, htally]

/-- The unit's work of a learn that is authorised, up to its completion. -/
theorem learnUnit_learns (h : LearnPasses d b n k x) (hmay : LearnMay x)
    (hbell : p8 d 0 = 0 → freshBell x = some bw) (hno : p8 d 0 ≠ 0 → bw = 0xFF) :
    let g : Flock := { learnFlock d b k with tag := tallyVal 252 x + 1 }
    ∃ c, learnUnit d x = activateFlock g d bw c ∧ Learnt g x (flockActive g d bw c) := by
  intro g
  obtain ⟨-, -, -, -, hregs, -⟩ := hmay.mem
  have hwf : Regs.wf x = true := hregs
  have hbegun : Recorded [252] learnRegs x (learnBegun d x) := learnBegun_recorded d x
  obtain ⟨hframe, -⟩ := learnBegun_busy d x hwf
  obtain ⟨y, hunit, hflk, hy⟩ : ∃ y, learnUnit d x = commitLearn d (learnFlock d b k) bw y ∧
      (∃ st bl, y.flk = { x.flk with staged := st, bell := bl }) ∧ y = { learnBegun d x with flk := y.flk } := by
    rw [h.unit hwf, authorise]
    by_cases h0 : p8 d 0 = 0
    · have hb : freshBell (learnStaged d b k x) = some bw :=
        (freshBell_congr (w := learnStaged d b k x) (x := x) rfl (congrArg now hframe :)).trans (hbell h0)
      rw [if_neg (not_not.mpr h0), hb]
      exact ⟨_, rfl, ⟨_, _, rfl⟩, rfl⟩
    · rw [if_pos h0, hno h0]
      exact ⟨_, rfl, ⟨_, x.flk.bell, rfl⟩, rfl⟩
  have hxy : FlockStep [252] learnRegs x y := by
    rw [hy]
    exact (FlockStep.of_recorded hbegun).trans (.setFlk _ _)
  have hpoll : y.poll = x.poll := by
    rw [hy]
    exact (congrArg State.poll hframe :)
  have hnv : y.nv = x.nv := by
    rw [hy]
    exact (congrArg State.nv hframe :)
  have htally : tally 252 y = tally 252 x :=
    tally_congr 252 (fun i _ => cellVal_congr 252 i (fun _ _ => by rw [hnv]) (by rw [hnv]))
  have hval : tallyVal 252 y = tallyVal 252 x := by rw [tallyVal, tallyVal, htally]
  obtain ⟨-, hwr, hwc, hsome, hroom, htrig, hmem, hseq⟩ := id hmay
  have hmem1 : memorySafe y := by
    obtain ⟨h1, h2, h3, h4, -, h6⟩ := hmem
    have hwfy : Regs.wf y = true := hxy.wf hwf
    rw [← hnv] at h4 h6
    have hhost : y.hostMem = x.hostMem ∧ y.droverMem = x.droverMem ∧ y.monMem = x.monMem := by
      rw [hy]
      exact ⟨(congrArg State.hostMem hframe :), (congrArg State.droverMem hframe :), (congrArg State.monMem hframe :)⟩
    obtain ⟨hh, hd, hm⟩ := hhost
    exact ⟨by rw [hh]; exact h1, by rw [hd]; exact h2, by rw [hm]; exact h3, h4, hwfy, h6⟩
  have hmay1 : LearnMay y := ⟨hxy.ledgerReady.trans hmay.ready, by rw [hnv]; exact hwr, by rw [hnv]; exact hwc,
    by rw [htally]; exact hsome, by rw [hval]; exact hroom, by rw [triggerWaits, hpoll]; exact htrig, hmem1,
    by rw [hnv]; exact hseq⟩
  obtain ⟨c, hcommit, hstored⟩ := commitLearn_stores hmay1 d (learnFlock d b k) bw
  rw [hval] at hcommit hstored
  exact ⟨c, hunit.trans hcommit, learnt_of_stored hxy hpoll hflk hval hstored rfl hroom hmay.ready hwf⟩

/-! ## FLOCK_LEARN -/

/-- A learn that is authorised answers with the new flock in force (R275). -/
theorem flockLearn_learns (hs : serves t d s) (hrow : isRow 0x38 d = true) (h : LearnPasses d b n k s) (hmay : LearnMay s)
    (hbell : p8 d 0 = 0 → freshBell (elapse t s) = some bw) (hno : p8 d 0 ≠ 0 → bw = 0xFF) :
    let g : Flock := { learnFlock d b k with tag := tallyVal 252 s + 1 }
    ∃ s1 s', exec (.flockLearn t d) s = .next s' ∧
      answers d stOk (learnResult d ((learnFlock d b k).slots.countP (·.isSome)) bw 0xFF s1) 0 s1 s' ∧
      recordsOnly [252] learnRegs
        { elapse t s with
          flk := { s.flk with flock := some g, staged := none, pend := none, learn := none, perm := none, bell := none }
          nv := { (elapse t s).nv with recs := s1.nv.recs, twins := s1.nv.twins } } s1 ∧
      tallyVal 252 s' = tallyVal 252 s + 1 ∧ fld FLK_FLOCK.EPOCH s' = (tallyVal 252 s + 1) % 256 ∧
      fld FLK_VID.VID s' = leAt 4 3 (learnBlob d b) ∧ fld FLK_STATUS.LEARN_BUSY s' = 0 ∧ fld FLK_STATUS.FLOCK_VALID s' = 1 ∧
      (flockBank g.tag s').isSome = true := by
  intro g
  obtain ⟨fl, tn, hw⟩ := atWork_working d (elapse t s) hs.2.2.2
  obtain ⟨hans, hrun⟩ := served_atWork hs
  have hfly := atWork_flying d (elapse t s)
  rw [hw] at hans hrun hfly
  have htally : tallyVal 252 (working fl tn (elapse t s)) = tallyVal 252 s := by
    rw [tallyVal, tallyVal, show tally 252 (working fl tn (elapse t s)) = tally 252 s from elapse_tally 252 t s]
  obtain ⟨c, hunit, hlearnt⟩ := learnUnit_learns (bw := bw) (h.at fl tn t) (hmay.at fl tn t) hbell hno
  rw [htally] at hunit hlearnt
  have hcomplete : activateFlock g d bw c = complete d stOk
      (learnResult d (g.slots.countP (·.isSome)) bw 0xFF (flockActive g d bw c)) 0 (flockActive g d bw c) := by
    have hfe : isFlying d (flockActive g d bw c) = true := by
      rw [isFlying, hlearnt.frame.host.flight]
      exact hfly
    rw [activateFlock_eq, if_pos hfe]
  have hexec : exec (.flockLearn t d) s = .next (finish (complete d stOk
      (learnResult d (g.slots.countP (·.isSome)) bw 0xFF (flockActive g d bw c)) 0 (flockActive g d bw c))) := by
    show descCommand t (asOp 0x38 d) learnUnit s = _
    rw [asOp_self hrow, hrun, hunit]
    exact congrArg (fun z => Host.Outcome.next (finish z)) hcomplete
  change Learnt g (working fl tn (elapse t s)) (flockActive g d bw c) at hlearnt
  generalize flockActive g d bw c = e at *
  obtain ⟨hframe, hvalue, hepoch, hvid, hbusy, hvalid, hbank⟩ := hlearnt
  have hanse : Answerable d e := by
    refine Answerable.recorded ?_ hframe
    exact ⟨hans.heard, hans.mem, hans.hostWait, hans.wait, hans.queue⟩
  have ha := hanse.quiet (res := learnResult d (g.slots.countP (·.isSome)) bw 0xFF e) (det := 0) (quietStatus_ok d.opcode)
  refine ⟨e, _, hexec, ha, ?_, ?_, ?_, ?_, (answers_fld ha _).trans hbusy, (answers_fld ha _).trans hvalid, ?_⟩
  · rw [← elapse_flk t s]
    exact hframe.recordsOnly rfl rfl rfl
  · exact (answers_tallyVal ha).trans (hvalue.trans (by rw [htally]))
  · exact (answers_fld ha _).trans (hepoch.trans (by rw [htally]))
  · refine (answers_fld ha _).trans (hvid.trans ?_)
    exact Nat.mod_eq_of_lt (leAt_lt_pow 4 3 (learnBlob d b))
  · rw [flockBank_congr (answers_recs ha)]
    exact hbank

end

/-- Settles O36: a learn's checks and its commit, the Bellwether's wait, and the three forms of FLOCK_STATUS. -/
theorem flocksAreLearnedAndReported : Obligations.FlocksAreLearnedAndReported := by
  unfold Obligations.FlocksAreLearnedAndReported
  refine ⟨fun s t hl hm hsh => ⟨?_, fun l hlearn => ⟨?_, ?_⟩⟩, fun s t d hs => ⟨?_, fun htarget hfold => ⟨?_, ?_⟩⟩⟩
  · intro d b n k hs hrow hauth hrsv hpar hread hform hbw hkey blob tokens ct iv es f hnext hsig htag hentries
    have h : LearnPasses d b n k s := ⟨hauth, hrsv, hpar, hread, hform, hbw, hkey, hnext, hsig, htag, hentries⟩
    refine ⟨fun h0 hbell => flockLearn_waits hs hrow h h0 hbell, ?_⟩
    intro bw hbell hno hready hwr hwc hsome hroom htrig
    obtain ⟨-, -, -, -, -, -, -, hseq⟩ := hsh
    exact flockLearn_learns hs hrow h ⟨hready, hwr, hwc, hsome, hroom, htrig, hm, hseq⟩ hbell hno
  · intro hrun hfold hdue hend
    exact bellPoll_queues hl hlearn hfold hdue hend
  · exact fun hend hh => bellTimeout_answers hl hm hlearn hend hh
  · exact statusSlot_answers hs
  · exact fun hmode hp => statusPin_answers hs ⟨htarget, hfold⟩ hmode hp
  · intro hmode hnew hclear hp
    refine ⟨statusShorten_none hs ⟨htarget, hfold⟩ hmode hnew hclear hp, ?_⟩
    intro e u hready he htill hpos hcut hzero
    exact statusShorten_cuts hs ⟨htarget, hfold⟩ hmode hnew hp hready he htill hpos hcut hzero

end Sys2Proof.Machine
end

section
/-! SUPPORT. Every step keeps the memories safe, part 1: the register file, the stores and the host side. -/
namespace Sys2Proof.Machine

section
variable {s : State}

/-! One lemma for each operation that a step can run, in the order of the model: it keeps `memorySafe`. An operation that
writes one of the six stores is taken through the rule of that store; another is put together from the lemmas of the
operations that it calls and the two frame rules below. -/

/-! ## What an operation may change -/

/-- What stands outside the memories, the register file, the store of records and the part is free. -/
theorem frame_safe (h : memorySafe s) (pending free latchHi heldWr clk pwr pins hif dmaBad lgr fold lf poll flk lcy mon
    uhf uwb vrd cry rng tmr) :
    memorySafe { s with
      pending := pending, free := free, latchHi := latchHi, heldWr := heldWr, clk := clk, pwr := pwr, pins := pins
      hif := hif, dmaBad := dmaBad, lgr := lgr, fold := fold, lf := lf, poll := poll, flk := flk, lcy := lcy, mon := mon
      uhf := uhf, uwb := uwb, vrd := vrd, cry := cry, rng := rng, tmr := tmr } := h

/-- Beside its array and its records the NV store is free too. -/
theorem nvFrame_safe (h : memorySafe s) (pending free latchHi heldWr clk pwr pins hif dmaBad lgr fold lf poll flk lcy
    mon uhf uwb vrd cry rng tmr bad soft weak worn wornRecs twins checked buf incAt scrubEnd holdWasLow holdAt
    ledgerReady loaded) :
    memorySafe { s with
      pending := pending, free := free, latchHi := latchHi, heldWr := heldWr, clk := clk, pwr := pwr, pins := pins
      hif := hif, dmaBad := dmaBad, lgr := lgr, fold := fold, lf := lf, poll := poll, flk := flk, lcy := lcy, mon := mon
      uhf := uhf, uwb := uwb, vrd := vrd, cry := cry, rng := rng, tmr := tmr
      nv := { s.nv with
        bad := bad, soft := soft, weak := weak, worn := worn, wornRecs := wornRecs, twins := twins, checked := checked
        buf := buf, incAt := incAt, scrubEnd := scrubEnd, holdWasLow := holdWasLow, holdAt := holdAt
        ledgerReady := ledgerReady, loaded := loaded } } := h

theorem ite_safe {c : Prop} [Decidable c] {a b : State} (ha : memorySafe a) (hb : memorySafe b) :
    memorySafe (if c then a else b) := by
  split
  · exact ha
  · exact hb

/-- A fold of safe steps is safe. -/
theorem foldl_safe {α : Type} (f : State → α → State) (l : List α) (h : memorySafe s)
    (hf : ∀ s x, memorySafe s → memorySafe (f s x)) : memorySafe (l.foldl f s) := by
  induction l generalizing s with
  | nil => exact h
  | cons x l ih => exact ih (hf s x h)

/-! ## Registers, time and power states -/

theorem regSet_safe (off v) (h : memorySafe s) : memorySafe (regSet off v s) := by
  obtain ⟨hh, hd, hm, hn, hr, hc⟩ := h
  exact ⟨hh, hd, hm, hn, swf_sset _ off v hr, hc⟩

theorem setFld_safe (f v) (h : memorySafe s) : memorySafe (setFld f v s) := by
  grind [setFld, regSet_safe]

theorem setFlag_safe (f b) (h : memorySafe s) : memorySafe (setFlag f b s) := by
  grind [setFlag, setFld_safe]

theorem addFld_safe (f k) (h : memorySafe s) : memorySafe (addFld f k s) := by
  grind [addFld, setFld_safe]

theorem bump_safe (f) (h : memorySafe s) : memorySafe (bump f s) := by
  grind [bump, addFld_safe]

theorem wrRw_safe (err f ok v) (h : memorySafe s) : memorySafe (wrRw err f ok v s) := by
  grind [wrRw, setFld_safe]

theorem wrW1c_safe (f v) (h : memorySafe s) : memorySafe (wrW1c f v s) := by
  grind [wrW1c, setFld_safe]

theorem wrW1cs_safe (fs v) (h : memorySafe s) : memorySafe (wrW1cs fs v s) := by
  grind [wrW1cs, wrW1c_safe, foldl_safe]

theorem onlyIf_safe (c k) (hk : ∀ s, memorySafe s → memorySafe (k s)) (h : memorySafe s) :
    memorySafe (onlyIf c k s) := by
  grind [onlyIf]

theorem setReg64_safe (off n) (h : memorySafe s) : memorySafe (setReg64 off n s) := by
  grind [setReg64, regSet_safe]

/-- Registers that go back to their reset values leave the register file in canonical form. -/
theorem filterRegs_safe (q : Nat × Word → Bool) (h : memorySafe s) :
    memorySafe { s with regs := s.regs.filter q } := by
  obtain ⟨hh, hd, hm, hn, hr, hc⟩ := h
  exact ⟨hh, hd, hm, hn, swfFrom_filter _ q hr, hc⟩

theorem clearRegs_safe (lo hi) (h : memorySafe s) : memorySafe (clearRegs lo hi s) := filterRegs_safe _ h

theorem clearRegList_safe (offs) (h : memorySafe s) : memorySafe (clearRegList offs s) := filterRegs_safe _ h

theorem tookFree_safe (k) (h : memorySafe s) : memorySafe (tookFree k s) := by
  grind [tookFree, frame_safe]

theorem passTicks_safe (n) (h : memorySafe s) : memorySafe (passTicks n s) := by
  grind [passTicks, nvFrame_safe]

theorem elapse_safe (t) (h : memorySafe s) : memorySafe (elapse t s) := by
  grind [elapse, passTicks_safe, frame_safe]

theorem oneEdge_safe (h : memorySafe s) : memorySafe (oneEdge s) := by
  grind [oneEdge, passTicks_safe, frame_safe]

theorem setPState_safe (p) (h : memorySafe s) : memorySafe (setPState p s) := by
  grind [setPState, setFld_safe, frame_safe]

/-! ## The NV store -/

theorem countRead_safe (a n) (h : memorySafe s) : memorySafe (countRead a n s) := by
  grind [countRead, addFld_safe, setFld_safe, bump_safe]

/-- The write-combining buffer is outside the array. -/
theorem pushBuf_safe (e) (h : memorySafe s) : memorySafe (pushBuf e s) := by
  grind [pushBuf, setFld_safe, nvFrame_safe]

theorem drainAll_safe (h : memorySafe s) : memorySafe (drainAll s) := by
  grind [drainAll, nvFrame_safe]

/-- Bytes written to the array. -/
theorem nvMem_safe (a : Nat) (bs : Bytes) (h : memorySafe s) :
    memorySafe { s with nv := { s.nv with mem := mwrite nvDflt s.nv.mem a bs } } := by
  obtain ⟨hh, hd, hm, hn, hr, hc⟩ := h
  exact ⟨hh, hd, hm, wf_mwrite nvDflt bs a hn, hr, hc⟩

/-- A device record put in the store. -/
theorem nvRec_safe (id : Nat) (d : Dual) (h : memorySafe s) :
    memorySafe { s with nv := { s.nv with recs := sset (fun _ => Dual.empty) id d s.nv.recs } } := by
  obtain ⟨hh, hd, hm, hn, hr, hc⟩ := h
  exact ⟨hh, hd, hm, hn, hr, swf_sset _ id d hc⟩

theorem nvWriteWord_safe (a bs) (h : memorySafe s) : memorySafe (nvWriteWord a bs s).1 := by
  unfold nvWriteWord
  split
  · exact bump_safe _ h
  · exact nvFrame_safe (nvMem_safe a _ (pushBuf_safe _ h)) ..

theorem nvWriteWords_safe (a bs ws) (h : memorySafe s) : memorySafe (nvWriteWords a bs ws s).1 := by
  induction ws generalizing s with
  | nil => exact h
  | cons w ws ih =>
    unfold nvWriteWords
    dsimp only
    split
    · exact nvWriteWord_safe _ _ h
    · exact ih (nvWriteWord_safe _ _ h)

theorem nvWrite_safe (a bs) (h : memorySafe s) : memorySafe (nvWrite a bs s).1 := by
  grind [nvWrite, nvWriteWords_safe]

theorem recWrite_safe (id bs) (h : memorySafe s) : memorySafe (recWrite id bs s).1 := by
  unfold recWrite
  split
  · exact bump_safe _ (nvRec_safe id _ h)
  · exact nvFrame_safe (nvRec_safe id _ (pushBuf_safe _ h)) ..

theorem recErase_safe (id) (h : memorySafe s) : memorySafe (recErase id s) := nvRec_safe id _ h

theorem writeHostCopy_safe (n c cp) (h : memorySafe s) : memorySafe (writeHostCopy n c cp s).1 := by
  grind [writeHostCopy, nvWrite_safe, nvWriteWord_safe]

theorem tallyInc_safe (c n) (h : memorySafe s) : memorySafe (tallyInc c n s).1 := by
  grind [tallyInc, addFld_safe, bump_safe, nvWriteWord_safe]

theorem undoEntry_safe (e) (h : memorySafe s) : memorySafe (undoEntry e s) := by
  cases e with
  | word a o => exact nvMem_safe a _ h
  | record i o _ => exact nvRec_safe i o h

theorem emergencyDrain_safe (cut torn) (h : memorySafe s) : memorySafe (emergencyDrain cut torn s) := by
  have hu : ∀ l : List BufEntry, memorySafe (l.foldl (fun s x => undoEntry x s) s) :=
    fun l => foldl_safe _ l h fun _ x hs => undoEntry_safe x hs
  unfold emergencyDrain
  split
  · exact drainAll_safe h
  · dsimp only
    split
    · exact drainAll_safe h
    next e rest _ =>
      refine drainAll_safe ?_
      cases torn with
      | new => exact hu _
      | old => exact undoEntry_safe _ (hu _)
      | uncorrectable =>
        cases e with
        | word a o => exact nvFrame_safe (nvMem_safe a _ (hu _)) ..
        | record i o n => exact nvRec_safe i o (hu _)

/-! ## The host side -/

theorem say_safe (l) (h : memorySafe s) : memorySafe (say l s) := by
  grind [say, frame_safe]

theorem answer_safe (ls) (h : memorySafe s) : memorySafe (answer ls s) := by
  grind [answer, say_safe, foldl_safe]

theorem setQp_safe (n q) (h : memorySafe s) : memorySafe (setQp n q s) := by
  grind [setQp, frame_safe]

theorem raiseVector_safe (n) (h : memorySafe s) : memorySafe (raiseVector n s) := by
  grind [raiseVector, frame_safe]

theorem setFault_safe (f) (h : memorySafe s) : memorySafe (setFault f s) := by
  grind [setFault, raiseVector_safe, setFld_safe]

/-- Bytes written to host memory. -/
theorem hostMem_safe (a : Nat) (bs : Bytes) (h : memorySafe s) :
    memorySafe { s with hostMem := mwrite zeroByte s.hostMem a bs } := by
  obtain ⟨hh, hd, hm, hn, hr, hc⟩ := h
  exact ⟨wf_mwrite zeroByte bs a hh, hd, hm, hn, hr, hc⟩

/-- Bytes written to Drover's memory. -/
theorem droverMem_safe (a : Nat) (bs : Bytes) (h : memorySafe s) :
    memorySafe { s with droverMem := mwrite zeroByte s.droverMem a bs } := by
  obtain ⟨hh, hd, hm, hn, hr, hc⟩ := h
  exact ⟨hh, wf_mwrite zeroByte bs a hd, hm, hn, hr, hc⟩

/-- Bytes written to the monitor's buffer. -/
theorem monMem_safe (a : Nat) (bs : Bytes) (h : memorySafe s) :
    memorySafe { s with monMem := mwrite zeroByte s.monMem a bs } := by
  obtain ⟨hh, hd, hm, hn, hr, hc⟩ := h
  exact ⟨hh, hd, wf_mwrite zeroByte bs a hm, hn, hr, hc⟩

theorem writeEntry_safe (n e) (h : memorySafe s) : memorySafe (writeEntry n e s) :=
  setQp_safe n _ (hostMem_safe _ _ h)

theorem deliver_safe (e fromBacklog) (h : memorySafe s) : memorySafe (deliver e fromBacklog s) := by
  grind [deliver, raiseVector_safe, writeEntry_safe]

theorem deliverList_safe (es) (h : memorySafe s) : memorySafe (deliverList es s) := by
  induction es generalizing s with
  | nil => exact frame_safe h ..
  | cons e es ih =>
    unfold deliverList
    split
    · exact ih (deliver_safe e true h)
    · exact frame_safe h ..

theorem deliverBacklog_safe (h : memorySafe s) : memorySafe (deliverBacklog s) := by
  grind [deliverBacklog, deliverList_safe, deliver_safe, frame_safe]

theorem storeEvt_safe (e) (h : memorySafe s) : memorySafe (storeEvt e s) := by
  grind [storeEvt, setFault_safe, frame_safe]

theorem echoEvt_safe (e) (h : memorySafe s) : memorySafe (echoEvt e s) := by
  grind [echoEvt, say_safe]

theorem postDet_safe (code status det ts res) (h : memorySafe s) : memorySafe (postDet code status det ts res s) := by
  grind [postDet, deliverBacklog_safe, echoEvt_safe, deliver_safe, storeEvt_safe, frame_safe]

theorem postAt_safe (code status ts res) (h : memorySafe s) : memorySafe (postAt code status ts res s) := by
  grind [postAt, postDet_safe]

theorem post_safe (code status res) (h : memorySafe s) : memorySafe (post code status res s) := by
  grind [post, postAt_safe]

end

end Sys2Proof.Machine
end

section
/-! SUPPORT. Every step keeps the memories safe, part 2: the ledger, the descriptors and the radios' common part. -/
namespace Sys2Proof.Machine

section
variable {s : State}

/-! ## The ledger -/

theorem useCtl_safe (h : memorySafe s) : memorySafe (useCtl s) := by
  grind [useCtl, frame_safe]

theorem lgrEvt_safe (kind seq count) (h : memorySafe s) : memorySafe (lgrEvt kind seq count s) := by
  grind [lgrEvt, post_safe]

theorem lgrWrite_safe (a bs) (h : memorySafe s) : memorySafe (lgrWrite a bs s) := by
  grind [lgrWrite, nvWrite_safe]

theorem preClear_safe (h : memorySafe s) : memorySafe (preClear s) := by
  grind [preClear, lgrWrite_safe, frame_safe]

theorem duePreClear_safe (h : memorySafe s) : memorySafe (duePreClear s) := by
  grind [duePreClear, preClear_safe]

theorem sealBlock_safe (flagBits) (h : memorySafe s) : memorySafe (sealBlock flagBits s) := by
  grind [sealBlock, lgrWrite_safe, setFlag_safe, preClear_safe, frame_safe]

theorem openBlock_safe (wall) (h : memorySafe s) : memorySafe (openBlock wall s) := by
  grind [openBlock, lgrWrite_safe, lgrEvt_safe, frame_safe]

theorem putRecord_safe (r) (h : memorySafe s) : memorySafe (putRecord r s) := by
  grind [putRecord, lgrWrite_safe, bump_safe, sealBlock_safe, frame_safe]

theorem placeRecord_safe (r isS) (h : memorySafe s) : memorySafe (placeRecord r isS s).1 := by
  grind [placeRecord, useCtl_safe, sealBlock_safe, putRecord_safe, openBlock_safe]

theorem dropRecord_safe (h : memorySafe s) : memorySafe (dropRecord s) := by
  grind [dropRecord, setFld_safe, bump_safe, useCtl_safe, lgrEvt_safe, frame_safe]

theorem reportLost_safe (h : memorySafe s) : memorySafe (reportLost s) := by
  grind [reportLost, placeRecord_safe, frame_safe]

theorem writeRecord_safe (r) (h : memorySafe s) : memorySafe (writeRecord r s) := by
  grind [writeRecord, dropRecord_safe, reportLost_safe, placeRecord_safe]

theorem appendAt_safe (typ src data wall) (h : memorySafe s) : memorySafe (appendAt typ src data wall s) := by
  grind [appendAt, writeRecord_safe, frame_safe]

theorem append_safe (typ src data) (h : memorySafe s) : memorySafe (append typ src data s) := by
  grind [append, appendAt_safe]

theorem nvStore_safe (a bs) (h : memorySafe s) : memorySafe (nvStore a bs s).1 := by
  grind [nvStore, nvWrite_safe, append_safe]

theorem recStore_safe (id bs) (h : memorySafe s) : memorySafe (recStore id bs s).1 := by
  grind [recStore, recWrite_safe, append_safe]

theorem tallyStep_safe (c n) (h : memorySafe s) : memorySafe (tallyStep c n s).1 := by
  grind [tallyStep, tallyInc_safe, append_safe]

/-! ## Descriptors -/

theorem dmaWrite_safe (d a bs) (h : memorySafe s) : memorySafe (dmaWrite d a bs s) := by
  unfold dmaWrite
  split
  · exact hostMem_safe a bs h
  · exact droverMem_safe a bs h
  · exact monMem_safe a bs h

/-! ## Completions -/

theorem settlePair_safe (n) (h : memorySafe s) : memorySafe (settlePair n s) := by
  grind [settlePair, setQp_safe]

theorem signal_safe (n d st) (h : memorySafe s) : memorySafe (signal n d st s) := by
  grind [signal, raiseVector_safe, setQp_safe]

theorem writeCpl_safe (n c) (h : memorySafe s) : memorySafe (writeCpl n c s) := by
  grind [writeCpl, signal_safe, writeEntry_safe]

theorem leaveFlight_safe (d) (h : memorySafe s) : memorySafe (leaveFlight d s) := by
  grind [leaveFlight, frame_safe]

theorem answerDesc_safe (c) (h : memorySafe s) : memorySafe (answerDesc c s) := by
  grind [answerDesc, answer_safe, frame_safe]

theorem complete_safe (d st res det) (h : memorySafe s) : memorySafe (complete d st res det s) := by
  grind [complete, drainAll_safe, bump_safe, append_safe, leaveFlight_safe, writeCpl_safe, settlePair_safe,
    answerDesc_safe, frame_safe]

theorem fail_safe (d st det) (h : memorySafe s) : memorySafe (fail d st det s) := by
  grind [fail, complete_safe]

theorem releaseHeld_safe (h : memorySafe s) : memorySafe (releaseHeld s) := by
  grind [releaseHeld, writeCpl_safe, foldl_safe, frame_safe]

theorem flushDisplaced_safe (h : memorySafe s) : memorySafe (flushDisplaced s) := by
  grind [flushDisplaced, fail_safe, foldl_safe, frame_safe]

theorem noteDepth_safe (h : memorySafe s) : memorySafe (noteDepth s) := by
  grind [noteDepth, setFld_safe]

theorem enterFlight_safe (d) (h : memorySafe s) : memorySafe (enterFlight d s) := by
  grind [enterFlight, noteDepth_safe, frame_safe]

theorem accept_safe (d) (h : memorySafe s) : memorySafe (accept d s) := by
  grind [accept, frame_safe]

theorem blockDrover_safe (n) (h : memorySafe s) : memorySafe (blockDrover n s) := by
  grind [blockDrover, setFld_safe, bump_safe, setQp_safe]

theorem unblockDrover_safe (n) (h : memorySafe s) : memorySafe (unblockDrover n s) := by
  grind [unblockDrover, setFld_safe, setQp_safe]

theorem whenServed_safe (d run) (hrun : ∀ y0 s, memorySafe s → memorySafe (run y0 s)) (h : memorySafe s) :
    memorySafe (whenServed d run s) := by
  grind [whenServed, complete_safe]

theorem droverTurn_safe (h : memorySafe s) : memorySafe (droverTurn s) := by
  grind [droverTurn, frame_safe]

theorem withDesc_safe (d run) (hrun : ∀ y0 s, memorySafe s → memorySafe (run y0 s)) (h : memorySafe s) :
    memorySafe (withDesc d run s) := by
  grind [withDesc, whenServed_safe, accept_safe, complete_safe, droverTurn_safe, enterFlight_safe]

theorem reserved_safe (lo d k) (hk : ∀ s, memorySafe s → memorySafe (k s)) (h : memorySafe s) :
    memorySafe (reserved lo d k s) := by
  grind [reserved, fail_safe]

theorem readSrc_safe (d n k) (hk : ∀ y0 s, memorySafe s → memorySafe (k y0 s)) (h : memorySafe s) :
    memorySafe (readSrc d n k s) := by
  grind [readSrc, fail_safe, setFault_safe]

theorem writeDst_safe (d bs k) (hk : ∀ s, memorySafe s → memorySafe (k s)) (h : memorySafe s) :
    memorySafe (writeDst d bs k s) := by
  grind [writeDst, fail_safe, setFault_safe, dmaWrite_safe]

/-! ## The Caddy -/

theorem setSlot_safe (n x) (h : memorySafe s) : memorySafe (setSlot n x s) := by
  grind [setSlot, frame_safe]

theorem holdSlot_safe (n d) (h : memorySafe s) : memorySafe (holdSlot n d s) := by
  grind [holdSlot, frame_safe]

theorem applyChange_safe (c) (h : memorySafe s) : memorySafe (applyChange c s) := by
  grind [applyChange, complete_safe, setSlot_safe]

theorem applyChanges_safe (cs) (h : memorySafe s) : memorySafe (applyChanges cs s) := by
  induction cs generalizing s with
  | nil => exact h
  | cons c cs ih =>
    unfold applyChanges
    split
    · exact ih (frame_safe h ..)
    · exact ih (applyChange_safe c h)

theorem runChanges_safe (h : memorySafe s) : memorySafe (runChanges s) := by
  grind [runChanges, applyChanges_safe, frame_safe]

theorem changeSlot_safe (d n x) (h : memorySafe s) : memorySafe (changeSlot d n x s) := by
  grind [changeSlot, runChanges_safe, frame_safe]

theorem releaseSlots_safe (d) (h : memorySafe s) : memorySafe (releaseSlots d s) := by
  grind [releaseSlots, runChanges_safe, frame_safe]

theorem wipeCaddy_safe (h : memorySafe s) : memorySafe (wipeCaddy s) := by
  grind [wipeCaddy, frame_safe]

theorem countGenerate_safe (h : memorySafe s) : memorySafe (countGenerate s) := by
  grind [countGenerate, setFld_safe]

theorem drawBytes_safe (k) (h : memorySafe s) : memorySafe (drawBytes k s).2 := by
  grind [drawBytes, countGenerate_safe, tookFree_safe]

theorem drawNonce_safe (h : memorySafe s) : memorySafe (drawNonce s).2 := by
  grind [drawNonce, drawBytes_safe]

theorem signWith_safe (d digest) (h : memorySafe s) : memorySafe (signWith d digest s).2 := by
  grind [signWith, drawNonce_safe]

theorem countVerify_safe (ok) (h : memorySafe s) : memorySafe (countVerify ok s) := by
  grind [countVerify, bump_safe]

theorem countMac_safe (h : memorySafe s) : memorySafe (countMac s) := by
  grind [countMac, bump_safe]

/-! ## Coexistence -/

theorem setUhfWalk_safe (w) (h : memorySafe s) : memorySafe (setUhfWalk w s) := by
  grind [setUhfWalk, frame_safe]

theorem setUwbWalk_safe (w) (h : memorySafe s) : memorySafe (setUwbWalk w s) := by
  grind [setUwbWalk, frame_safe]

theorem refreshRadio_safe (h : memorySafe s) : memorySafe (refreshRadio s) := by
  grind [refreshRadio, frame_safe]

theorem settleCals_safe (h : memorySafe s) : memorySafe (settleCals s) := by
  grind [settleCals, setFld_safe, frame_safe]

theorem holdWrite_safe (busy off w) (h : memorySafe s) : memorySafe (holdWrite busy off w s) := by
  grind [holdWrite, regSet_safe, frame_safe]

theorem applyHeld_safe (lo hi) (h : memorySafe s) : memorySafe (applyHeld lo hi s) := by
  grind [applyHeld, regSet_safe, foldl_safe, frame_safe]

end

end Sys2Proof.Machine
end

section
/-! SUPPORT. Every step keeps the memories safe, part 3: the radios and the fold engine. -/
namespace Sys2Proof.Machine

section
variable {s : State}

/-! ## The UHF radio -/

theorem tuned_safe (lo temp cal) (h : memorySafe s) : memorySafe (tuned lo temp cal s) := by
  grind [tuned, setFld_safe, frame_safe]

theorem uhfRest_safe (h : memorySafe s) : memorySafe (uhfRest s) := by
  grind [uhfRest, setUhfWalk_safe]

theorem commitSetup_safe (id valid err bs) (h : memorySafe s) : memorySafe (commitSetup id valid err bs s) := by
  grind [commitSetup, recStore_safe, setFld_safe]

theorem commitUhf_safe (h : memorySafe s) : memorySafe (commitUhf s) := by
  grind [commitUhf, commitSetup_safe]

theorem applyUhfCal_safe (m d) (h : memorySafe s) : memorySafe (applyUhfCal m d s) := by
  grind [applyUhfCal, setFld_safe, frame_safe]

theorem finishUhfCal_safe (m d) (h : memorySafe s) : memorySafe (finishUhfCal m d s) := by
  grind [finishUhfCal, applyUhfCal_safe, commitUhf_safe, writeDst_safe, complete_safe]

theorem endRun_safe (e) (h : memorySafe s) : memorySafe (endRun e s) := by
  grind [endRun, frame_safe]

theorem txLate_safe (d) (h : memorySafe s) : memorySafe (txLate d s) := by
  grind [txLate, fail_safe]

theorem countDenied_safe (h : memorySafe s) : memorySafe (countDenied s) := by
  grind [countDenied, setFld_safe, bump_safe]

theorem countAbort_safe (h : memorySafe s) : memorySafe (countAbort s) := by
  grind [countAbort, setFld_safe, bump_safe]

theorem abortBg_safe (h : memorySafe s) : memorySafe (abortBg s).1 := by
  grind [abortBg, setFld_safe, setUhfWalk_safe, frame_safe]

theorem planTx_safe (r) (h : memorySafe s) : memorySafe (planTx r s) := by
  grind [planTx, tuned_safe, setUhfWalk_safe, frame_safe]

theorem planRx_safe (r) (h : memorySafe s) : memorySafe (planRx r s) := by
  grind [planRx, setUhfWalk_safe, tuned_safe, frame_safe]

theorem planCal_safe (r) (h : memorySafe s) : memorySafe (planCal r s) := by
  grind [planCal, setUhfWalk_safe, frame_safe]

theorem planRun_safe (r) (h : memorySafe s) : memorySafe (planRun r s) := by
  grind [planRun, planCal_safe, planTx_safe, planRx_safe]

theorem replan_safe (h : memorySafe s) : memorySafe (replan s) := by
  grind [replan, planRun_safe]

theorem startTx_safe (w) (h : memorySafe s) : memorySafe (startTx w s) := by
  grind [startTx, abortBg_safe, txLate_safe, planTx_safe]

theorem startRx_safe (w) (h : memorySafe s) : memorySafe (startRx w s) := by
  grind [startRx, abortBg_safe, setFld_safe, planRx_safe]

theorem takeUhfSetup_safe (h : memorySafe s) : memorySafe (takeUhfSetup s) := by
  grind [takeUhfSetup, applyHeld_safe]

theorem startNext_safe (ws) (h : memorySafe s) : memorySafe (startNext ws s) := by
  induction ws generalizing s with
  | nil => exact frame_safe h ..
  | cons w ws ih =>
    have h0 := takeUhfSetup_safe h
    unfold startNext
    split
    · exact frame_safe h ..
    · exact ih (ite_safe (planCal_safe _ (abortBg_safe h0)) (ite_safe (startTx_safe w h0) (startRx_safe w h0)))

theorem runUhfQueue_safe (h : memorySafe s) : memorySafe (runUhfQueue s) := by
  grind [runUhfQueue, startNext_safe, uhfRest_safe, frame_safe]

theorem enterUhf_safe (w) (h : memorySafe s) : memorySafe (enterUhf w s) := by
  grind [enterUhf, txLate_safe, runUhfQueue_safe, frame_safe]

theorem settleUhfCal_safe (h : memorySafe s) : memorySafe (settleUhfCal s) := by
  grind [settleUhfCal, runUhfQueue_safe, finishUhfCal_safe, endRun_safe]

theorem txEnd_safe (h : memorySafe s) : memorySafe (txEnd s) := by
  grind [txEnd, onlyIf_safe, complete_safe, runUhfQueue_safe, endRun_safe, frame_safe]

theorem finishRx_safe (r) (h : memorySafe s) : memorySafe (finishRx r s) := by
  grind [finishRx, runUhfQueue_safe, endRun_safe, complete_safe]

theorem rxEnd_safe (h : memorySafe s) : memorySafe (rxEnd s) := by
  grind [rxEnd, onlyIf_safe, finishRx_safe]

theorem rxFrame_safe (f) (h : memorySafe s) : memorySafe (rxFrame f s) := by
  grind [rxFrame, onlyIf_safe, dmaWrite_safe, setFault_safe, frame_safe]

theorem yieldRun_safe (h : memorySafe s) : memorySafe (yieldRun s) := by
  grind [yieldRun, finishRx_safe, frame_safe]

theorem prepareWindow_safe (temp) (h : memorySafe s) : memorySafe (prepareWindow temp s) := by
  unfold prepareWindow
  split
  · exact h
  · have h1 := abortBg_safe (takeUhfSetup_safe h)
    refine replan_safe (setUhfWalk_safe _ (tuned_safe _ _ _ (ite_safe ?_ (setFld_safe _ _ ?_)))) <;>
      exact yieldRun_safe (frame_safe h1 ..)

theorem reserveWindows_safe (ws) (h : memorySafe s) : memorySafe (reserveWindows ws s) := by
  grind [reserveWindows, runUhfQueue_safe, endRun_safe, txLate_safe, planRun_safe, frame_safe]

theorem dropWindows_safe (keep) (h : memorySafe s) : memorySafe (dropWindows keep s) := by
  grind [dropWindows, planRun_safe, runUhfQueue_safe, frame_safe]

theorem uhfSleep_safe (h : memorySafe s) : memorySafe (uhfSleep s) := by
  grind [uhfSleep, replan_safe, setUhfWalk_safe]

theorem startUhfBg_safe (irr dc temp) (h : memorySafe s) : memorySafe (startUhfBg irr dc temp s) := by
  grind [startUhfBg, replan_safe, setUhfWalk_safe, frame_safe]

theorem uhfGranted_safe (h : memorySafe s) : memorySafe (uhfGranted s) := by
  grind [uhfGranted, setUhfWalk_safe, planRun_safe, frame_safe]

theorem uhfDenied_safe (h : memorySafe s) : memorySafe (uhfDenied s) := by
  grind [uhfDenied, onlyIf_safe, runUhfQueue_safe, endRun_safe, fail_safe, countDenied_safe]

theorem uhfWithdrawn_safe (h : memorySafe s) : memorySafe (uhfWithdrawn s) := by
  grind [uhfWithdrawn, setUhfWalk_safe, planRun_safe, complete_safe, countAbort_safe, runUhfQueue_safe, endRun_safe,
    frame_safe]

/-! ## The UWB radio -/

theorem uwbTune_safe (c by_ temp) (h : memorySafe s) : memorySafe (uwbTune c by_ temp s) := by
  grind [uwbTune, setUwbWalk_safe, setFld_safe, frame_safe]

theorem uwbAbortBg_safe (h : memorySafe s) : memorySafe (uwbAbortBg s).1 := by
  grind [uwbAbortBg, setFld_safe, setUwbWalk_safe, frame_safe]

theorem uwbToRest_safe (h : memorySafe s) : memorySafe (uwbToRest s) := by
  grind [uwbToRest, setUwbWalk_safe]

theorem keepStandby_safe (h : memorySafe s) : memorySafe (keepStandby s) := by
  grind [keepStandby, uwbToRest_safe]

theorem uwbOffAir_safe (x) (h : memorySafe s) : memorySafe (uwbOffAir x s) := by
  grind [uwbOffAir, setUwbWalk_safe]

theorem stsFailed_safe (x stsq) (h : memorySafe s) : memorySafe (stsFailed x stsq s) := by
  grind [stsFailed, append_safe, setFld_safe, bump_safe]

theorem noteLast_safe (x) (h : memorySafe s) : memorySafe (noteLast x s) := by
  grind [noteLast, setFld_safe]

theorem endUwbRun_safe (h : memorySafe s) : memorySafe (endUwbRun s) := by
  grind [endUwbRun, frame_safe]

theorem finishRange_safe (r) (h : memorySafe s) : memorySafe (finishRange r s) := by
  grind [finishRange, releaseSlots_safe, writeDst_safe, complete_safe, endUwbRun_safe]

theorem rangeLate_safe (r) (h : memorySafe s) : memorySafe (rangeLate r s) := by
  grind [rangeLate, setFld_safe, bump_safe, releaseSlots_safe, fail_safe, endUwbRun_safe]

theorem pollOnAir_safe (x) (h : memorySafe s) : memorySafe (pollOnAir x s) := by
  grind [pollOnAir, frame_safe]

theorem takeUwbSetup_safe (busy) (h : memorySafe s) : memorySafe (takeUwbSetup busy s) := by
  grind [takeUwbSetup, applyHeld_safe]

theorem prepareAttempt_safe (r p t) (h : memorySafe s) : memorySafe (prepareAttempt r p t s) := by
  grind [prepareAttempt, takeUwbSetup_safe, uwbAbortBg_safe, rangeLate_safe, uwbTune_safe, pollOnAir_safe, frame_safe]

theorem nextAttempt_safe (t) (h : memorySafe s) : memorySafe (nextAttempt t s) := by
  grind [nextAttempt, releaseSlots_safe, fail_safe, endUwbRun_safe, finishRange_safe, prepareAttempt_safe, frame_safe]

theorem startCal_safe (w m slot key v) (h : memorySafe s) : memorySafe (startCal w m slot key v s) := by
  grind [startCal, uwbAbortBg_safe, setUwbWalk_safe, frame_safe]

theorem startRanges_safe (ws) (h : memorySafe s) : memorySafe (startRanges ws s) := by
  induction ws generalizing s with
  | nil => exact frame_safe h ..
  | cons w ws ih =>
    have h1 := takeUhfSetup_safe h
    unfold startRanges
    split
    · exact frame_safe h ..
    · dsimp only
      split
      · split
        · split
          · exact ih (fail_safe _ _ _ h)
          · exact ih (startCal_safe _ _ _ _ _ (takeUwbSetup_safe _ h1))
        · exact ih (fail_safe _ _ _ h)
      · split
        · have h2 := takeUwbSetup_safe (uwbBusy (takeUhfSetup s)) h1
          exact ih (startCal_safe _ _ _ _ _ (ite_safe (holdSlot_safe _ _ h2) h2))
        · exact ih (nextAttempt_safe _ (holdSlot_safe _ _ (frame_safe h1 ..)))

theorem runUwbQueue_safe (h : memorySafe s) : memorySafe (runUwbQueue s) := by
  grind [runUwbQueue, nextAttempt_safe, startRanges_safe, frame_safe]

theorem enterUwb_safe (w) (h : memorySafe s) : memorySafe (enterUwb w s) := by
  grind [enterUwb, runUwbQueue_safe, frame_safe]

theorem startHold_safe (temp) (h : memorySafe s) : memorySafe (startHold temp s) := by
  grind [startHold, takeUwbSetup_safe, takeUhfSetup_safe, uwbTune_safe, uwbAbortBg_safe, frame_safe]

theorem endHold_safe (h : memorySafe s) : memorySafe (endHold s) := by
  grind [endHold, runUwbQueue_safe, uwbToRest_safe, frame_safe]

theorem dropAttempt_safe (h : memorySafe s) : memorySafe (dropAttempt s) := by
  grind [dropAttempt, frame_safe]

theorem prewarm_safe (temp) (h : memorySafe s) : memorySafe (prewarm temp s) := by
  grind [prewarm, onlyIf_safe, startHold_safe, dropAttempt_safe, frame_safe]

theorem lateWarm_safe (temp) (h : memorySafe s) : memorySafe (lateWarm temp s) := by
  grind [lateWarm, startHold_safe]

theorem attemptEnded_safe (x) (h : memorySafe s) : memorySafe (attemptEnded x s) := by
  grind [attemptEnded, bump_safe, uwbOffAir_safe, noteLast_safe, lateWarm_safe, runUwbQueue_safe, finishRange_safe,
    nextAttempt_safe, frame_safe]

theorem stopRetired_safe (h : memorySafe s) : memorySafe (stopRetired s) := by
  grind [stopRetired, runUwbQueue_safe, nextAttempt_safe, dropAttempt_safe]

theorem setExch_safe (x) (h : memorySafe s) : memorySafe (setExch x s) := by
  grind [setExch, frame_safe]

theorem exchEnded_safe (x) (h : memorySafe s) : memorySafe (exchEnded x s) := by
  grind [exchEnded, uwbOffAir_safe, noteLast_safe, endHold_safe, setExch_safe, frame_safe]

theorem tuneExch_safe (x) (h : memorySafe s) : memorySafe (tuneExch x s) := by
  grind [tuneExch, uwbTune_safe, uwbAbortBg_safe]

theorem startExch_safe (h : memorySafe s) : memorySafe (startExch s) := by
  grind [startExch, onlyIf_safe, takeUwbSetup_safe, applyHeld_safe, tuneExch_safe, exchEnded_safe, setExch_safe,
    bump_safe, uwbAbortBg_safe]

theorem applyStep_safe (st stsq) (h : memorySafe s) : memorySafe (applyStep st stsq s) := by
  grind [applyStep, stsFailed_safe, bump_safe, exchEnded_safe, setExch_safe, attemptEnded_safe, frame_safe]

theorem replyFrame_safe (f) (h : memorySafe s) : memorySafe (replyFrame f s) := by
  grind [replyFrame, onlyIf_safe, applyStep_safe]

theorem reportFrame_safe (f) (h : memorySafe s) : memorySafe (reportFrame f s) := by
  grind [reportFrame, onlyIf_safe, applyStep_safe]

theorem replyTimeout_safe (h : memorySafe s) : memorySafe (replyTimeout s) := by
  grind [replyTimeout, onlyIf_safe, applyStep_safe]

theorem uwbReplan_safe (h : memorySafe s) : memorySafe (uwbReplan s) := by
  grind [uwbReplan, uwbTune_safe]

theorem startUwbBg_safe (irr temp) (h : memorySafe s) : memorySafe (startUwbBg irr temp s) := by
  grind [startUwbBg, uwbReplan_safe, setUwbWalk_safe, frame_safe]

theorem commitUwb_safe (h : memorySafe s) : memorySafe (commitUwb s) := by
  grind [commitUwb, commitSetup_safe]

theorem calApply_safe (d p m) (h : memorySafe s) : memorySafe (calApply d p m s) := by
  grind [calApply, setFld_safe]

theorem finishUwbCal_safe (r m) (h : memorySafe s) : memorySafe (finishUwbCal r m s) := by
  grind [finishUwbCal, calApply_safe, setFld_safe, commitUwb_safe, releaseSlots_safe, writeDst_safe, complete_safe,
    foldl_safe, frame_safe]

theorem afterCal_safe (r) (h : memorySafe s) : memorySafe (afterCal r s) := by
  grind [afterCal, runUwbQueue_safe, lateWarm_safe, frame_safe]

theorem settleUwbCal_safe (h : memorySafe s) : memorySafe (settleUwbCal s) := by
  grind [settleUwbCal, afterCal_safe, finishUwbCal_safe, endUwbRun_safe]

theorem cutCal_safe (r st) (h : memorySafe s) : memorySafe (cutCal r st s) := by
  grind [cutCal, afterCal_safe, releaseSlots_safe, fail_safe, endUwbRun_safe, setUwbWalk_safe]

theorem calGranted_safe (h : memorySafe s) : memorySafe (calGranted s) := by
  grind [calGranted, setUwbWalk_safe, frame_safe]

theorem denyCal_safe (h : memorySafe s) : memorySafe (denyCal s) := by
  grind [denyCal, cutCal_safe, countDenied_safe]

theorem calWithdrawn_safe (h : memorySafe s) : memorySafe (calWithdrawn s) := by
  grind [calWithdrawn, cutCal_safe, countAbort_safe, setUwbWalk_safe, frame_safe]

theorem uwbGranted_safe (h : memorySafe s) : memorySafe (uwbGranted s) := by
  grind [uwbGranted, pollOnAir_safe, frame_safe]

theorem windowGranted_safe (h : memorySafe s) : memorySafe (windowGranted s) := by
  grind [windowGranted, frame_safe]

theorem denyExchs_safe (n) (h : memorySafe s) : memorySafe (denyExchs n s) := by
  induction n generalizing s with
  | zero => exact h
  | succ n ih =>
    unfold denyExchs
    split
    · exact ih (exchEnded_safe _ (countDenied_safe h))
    · exact h

theorem denyAttempt_safe (h : memorySafe s) : memorySafe (denyAttempt s) := by
  grind [denyAttempt, attemptEnded_safe, countDenied_safe]

theorem denyWindow_safe (h : memorySafe s) : memorySafe (denyWindow s) := by
  grind [denyWindow, countDenied_safe, frame_safe]

theorem uwbWithdrawn_safe (h : memorySafe s) : memorySafe (uwbWithdrawn s) := by
  grind [uwbWithdrawn, setFld_safe, bump_safe, exchEnded_safe, attemptEnded_safe]

theorem holdAttempt_safe (h : memorySafe s) : memorySafe (holdAttempt s) := by
  grind [holdAttempt, frame_safe]

theorem windowWithdrawn_safe (h : memorySafe s) : memorySafe (windowWithdrawn s) := by
  grind [windowWithdrawn, frame_safe]

theorem grantFalls_safe (h : memorySafe s) : memorySafe (grantFalls s) := by
  grind [grantFalls, windowWithdrawn_safe, holdAttempt_safe, uwbWithdrawn_safe, calWithdrawn_safe, uhfWithdrawn_safe]

/-! ## The fold engine -/

theorem makeLive_safe (h : memorySafe s) : memorySafe (makeLive s) := by
  grind [makeLive, append_safe, setFld_safe, frame_safe]

theorem foldDone_safe (d st res det) (h : memorySafe s) : memorySafe (foldDone d st res det s) := by
  grind [foldDone, complete_safe, bump_safe]

theorem startFolds_safe (ds) (h : memorySafe s) : memorySafe (startFolds ds s) := by
  induction ds generalizing s with
  | nil => exact frame_safe h ..
  | cons d ds ih =>
    have h1 := makeLive_safe h
    unfold startFolds
    split
    · exact frame_safe h ..
    · dsimp only
      split
      · exact ih (foldDone_safe _ _ _ _ h1)
      · split
        · exact ih (foldDone_safe _ _ _ _ h1)
        · exact ih (frame_safe h1 ..)

theorem releaseWaits_safe (h : memorySafe s) : memorySafe (releaseWaits s) := by
  grind [releaseWaits, frame_safe]

theorem settleFolds_safe (h : memorySafe s) : memorySafe (settleFolds s) := by
  grind [settleFolds, releaseWaits_safe, startFolds_safe, frame_safe]

theorem lfeSet_safe (f v) (h : memorySafe s) : memorySafe (lfeSet f v s) := by
  grind [lfeSet, holdWrite_safe]

theorem commitLfe_safe (h : memorySafe s) : memorySafe (commitLfe s) := by
  grind [commitLfe, commitSetup_safe]

theorem broadcastLeaf_safe (field v i) (h : memorySafe s) : memorySafe (broadcastLeaf field v i s) := by
  unfold broadcastLeaf
  split
  · split <;> exact lfeSet_safe _ _ h
  · split
    · exact lfeSet_safe _ _ h
    · exact holdWrite_safe _ _ _ h

theorem broadcastAt_safe (o) (h : memorySafe s) : memorySafe (broadcastAt o s) := by
  grind [broadcastAt, broadcastLeaf_safe, commitLfe_safe, foldDone_safe, foldl_safe]

theorem snapshotAt_safe (o) (h : memorySafe s) : memorySafe (snapshotAt o s) := by
  grind [snapshotAt, bump_safe, writeDst_safe, complete_safe]

theorem resetLeaf_safe (cfg i) (h : memorySafe s) : memorySafe (resetLeaf cfg i s) := by
  grind [resetLeaf, setFld_safe, holdWrite_safe, broadcastLeaf_safe, regSet_safe, frame_safe]

theorem resetAt_safe (o) (h : memorySafe s) : memorySafe (resetAt o s) := by
  grind [resetAt, resetLeaf_safe, foldDone_safe, foldl_safe]

theorem commitTree_safe (h : memorySafe s) : memorySafe (commitTree s).1 := by
  grind [commitTree, recStore_safe, setFld_safe]

theorem nextGen_safe (h : memorySafe s) : memorySafe (nextGen s) := by
  grind [nextGen, setFld_safe]

theorem retireAt_safe (o) (h : memorySafe s) : memorySafe (retireAt o s) := by
  grind [retireAt, nextGen_safe, commitTree_safe, append_safe, stopRetired_safe, foldDone_safe, frame_safe]

theorem adoptTune_safe (copy i o) (h : memorySafe s) : memorySafe (adoptTune copy i o s) := by
  grind [adoptTune, lfeSet_safe, holdWrite_safe]

theorem adoptAt_safe (o) (h : memorySafe s) : memorySafe (adoptAt o s) := by
  grind [adoptAt, nextGen_safe, adoptTune_safe, commitTree_safe, commitLfe_safe, append_safe, foldDone_safe,
    frame_safe]

theorem foldAt_safe (h : memorySafe s) : memorySafe (foldAt s) := by
  grind [foldAt, onlyIf_safe, foldDone_safe, broadcastAt_safe, snapshotAt_safe, resetAt_safe, retireAt_safe,
    adoptAt_safe, frame_safe]

theorem cancelFold_safe (st) (h : memorySafe s) : memorySafe (cancelFold st s) := by
  grind [cancelFold, foldDone_safe, frame_safe]

theorem resetMembers_safe (member) (h : memorySafe s) : memorySafe (resetMembers member s) := by
  grind [resetMembers, cancelFold_safe]

end

end Sys2Proof.Machine
end

section
/-! SUPPORT. Every step keeps the memories safe, part 4: a command's frame, ciphers, radio and fold commands. -/
namespace Sys2Proof.Machine

section
variable {s : State}

/-! ## The frame of a command -/

theorem applyShadows_safe (h : memorySafe s) : memorySafe (applyShadows s) := by
  grind [applyShadows, regSet_safe, setFld_safe, frame_safe]

theorem settleIslands_safe (h : memorySafe s) : memorySafe (settleIslands s) := by
  grind [settleIslands, setUwbWalk_safe, setUhfWalk_safe, frame_safe]

theorem radiosOff_safe (h : memorySafe s) : memorySafe (radiosOff s) := by
  grind [radiosOff, setUwbWalk_safe, setUhfWalk_safe]

theorem radiosOn_safe (h : memorySafe s) : memorySafe (radiosOn s) := by
  grind [radiosOn, setUwbWalk_safe, setUhfWalk_safe]

theorem commitState_safe (p) (h : memorySafe s) : memorySafe (commitState p s) := by
  unfold commitState
  grind [setPState_safe, applyShadows_safe, radiosOff_safe, frame_safe]

theorem commitEntry_safe (h : memorySafe s) : memorySafe (commitEntry s) := by
  grind [commitEntry, commitState_safe]

theorem refreshDrive_safe (h : memorySafe s) : memorySafe (refreshDrive s) := by
  grind [refreshDrive, frame_safe]

theorem runDue_safe (h : memorySafe s) : memorySafe (runDue s) := by
  grind [runDue, settleUwbCal_safe, settleUhfCal_safe, settleCals_safe, commitEntry_safe, settleFolds_safe,
    foldAt_safe]

theorem runTo_safe (n t) (h : memorySafe s) : memorySafe (runTo n t s) := by
  induction n generalizing s with
  | zero => exact elapse_safe t h
  | succ n ih =>
    unfold runTo
    split
    · exact ih (runDue_safe (elapse_safe _ h))
    · exact elapse_safe t h

theorem latchHeader_safe (h : memorySafe s) : memorySafe (latchHeader s) := by
  grind [latchHeader, frame_safe]

theorem begin_safe (t) (h : memorySafe s) : memorySafe (begin t s) := by
  grind [begin, latchHeader_safe, runTo_safe]

theorem noteIdle_safe (h : memorySafe s) : memorySafe (noteIdle s) := by
  grind [noteIdle, frame_safe]

theorem noteWork_safe (h : memorySafe s) : memorySafe (noteWork s) := by
  grind [noteWork, frame_safe]

theorem finish_safe (h : memorySafe s) : memorySafe (finish s) := by
  grind [finish, noteWork_safe, noteIdle_safe, refreshDrive_safe, refreshRadio_safe, settleIslands_safe,
    settleFolds_safe, flushDisplaced_safe]

/-- What a command that ends goes on with is safe. -/
def nextSafe (o : Host.Outcome State Fault Refusal) : Prop := ∀ s, o = .next s → memorySafe s

theorem nextSafe_next (h : memorySafe s) : nextSafe (.next s) := by
  rintro _ ⟨⟩
  exact h

theorem outerCommand_safe (t k) (hk : ∀ s, memorySafe s → memorySafe (k s)) (h : memorySafe s) :
    nextSafe (outerCommand t k s) :=
  nextSafe_next (finish_safe (hk _ (begin_safe t h)))

theorem command_safe (t k) (hk : ∀ s, memorySafe s → memorySafe (k s)) (h : memorySafe s) :
    nextSafe (command t k s) :=
  outerCommand_safe _ _ (fun _ hs => onlyIf_safe _ _ hk hs) h

theorem descCommand_safe (t d run) (hr : ∀ d s, memorySafe s → memorySafe (run d s)) (h : memorySafe s) :
    nextSafe (descCommand t d run s) :=
  command_safe _ _ (fun _ hs => onlyIf_safe _ _ (fun _ hs => withDesc_safe _ _ hr hs) hs) h

theorem setSrc_safe (k) (h : memorySafe s) : memorySafe (setSrc k s) := by
  grind [setSrc, setFld_safe, frame_safe]

theorem abortEntry_safe (h : memorySafe s) : memorySafe (abortEntry s) := by
  grind [abortEntry, append_safe, frame_safe]

theorem powerAll_safe (h : memorySafe s) : memorySafe (powerAll s) := by
  grind [powerAll, radiosOn_safe, frame_safe]

theorem exitRun_safe (k) (h : memorySafe s) : memorySafe (exitRun k s) := by
  grind [exitRun, setSrc_safe, abortEntry_safe, setPState_safe, powerAll_safe, frame_safe]

theorem reselect_safe (h : memorySafe s) : memorySafe (reselect s) := by
  grind [reselect, exitRun_safe]

/-! ## Cipher engine and signer -/

theorem countCrypt_safe (st) (h : memorySafe s) : memorySafe (countCrypt st s) := by
  grind [countCrypt, bump_safe]

theorem cryptDmaError_safe (key d det) (h : memorySafe s) : memorySafe (cryptDmaError key d det s) := by
  grind [cryptDmaError, dmaWrite_safe, tookFree_safe, setFault_safe, complete_safe]

theorem stageFlock_safe (pt st) (h : memorySafe s) : memorySafe (stageFlock pt st s) := by
  grind [stageFlock, frame_safe]

theorem cryptUnit_safe (d) (h : memorySafe s) : memorySafe (cryptUnit d s) := by
  grind [cryptUnit, fail_safe, cryptDmaError_safe, complete_safe, countCrypt_safe, stageFlock_safe, dmaWrite_safe]

theorem unwrapUnit_safe (d) (h : memorySafe s) : memorySafe (unwrapUnit d s) := by
  unfold unwrapUnit
  dsimp only
  split
  · exact fail_safe _ _ _ h
  refine ite_safe (fail_safe _ _ _ h) ?_
  split
  · exact fail_safe _ _ _ h
  split
  · exact fail_safe _ _ _ (countCrypt_safe _ h)
  refine readSrc_safe _ _ _ (fun src s hs => ?_) h
  refine ite_safe (ite_safe (fail_safe _ _ _ (countCrypt_safe _ hs))
    (writeDst_safe _ _ _ (fun _ hs => changeSlot_safe _ _ _ hs) hs)) ?_
  split
  · exact fail_safe _ _ _ (countCrypt_safe _ hs)
  · exact ite_safe (fail_safe _ _ _ (countCrypt_safe _ hs)) <|
      ite_safe (complete_safe _ _ _ _ (frame_safe hs ..)) (changeSlot_safe _ _ _ hs)

theorem deriveUnit_safe (d) (h : memorySafe s) : memorySafe (deriveUnit d s) := by
  grind [deriveUnit, fail_safe, readSrc_safe, changeSlot_safe]

theorem clearUnit_safe (d) (h : memorySafe s) : memorySafe (clearUnit d s) := by
  grind [clearUnit, reserved_safe, fail_safe, changeSlot_safe]

theorem signNow_safe (k d e) (h : memorySafe s) : memorySafe (signNow k d e s) := by
  grind [signNow, signWith_safe, writeDst_safe, complete_safe, bump_safe]

theorem signUnit_safe (d) (h : memorySafe s) : memorySafe (signUnit d s) := by
  unfold signUnit
  grind [fail_safe, holdSlot_safe, readSrc_safe, releaseSlots_safe, signNow_safe, frame_safe]

theorem verifyUnit_safe (d) (h : memorySafe s) : memorySafe (verifyUnit d s) := by
  grind [verifyUnit, fail_safe, readSrc_safe, bump_safe, complete_safe]

theorem cryptTimeout_safe (d) (h : memorySafe s) : memorySafe (cryptTimeout d s) := by
  grind [cryptTimeout, onlyIf_safe, fail_safe]

theorem pkeTimeout_safe (d) (h : memorySafe s) : memorySafe (pkeTimeout d s) := by
  grind [pkeTimeout, onlyIf_safe, fail_safe]

theorem steepTimeout_safe (h : memorySafe s) : memorySafe (steepTimeout s) := by
  grind [steepTimeout, releaseSlots_safe, fail_safe, foldl_safe, frame_safe]

/-! ## UHF commands -/

theorem txUnit_safe (temp d) (h : memorySafe s) : memorySafe (txUnit temp d s) := by
  grind [txUnit, fail_safe, readSrc_safe, enterUhf_safe]

theorem rxUnit_safe (temp d) (h : memorySafe s) : memorySafe (rxUnit temp d s) := by
  grind [rxUnit, fail_safe, enterUhf_safe]

theorem uhfCalUnit_safe (m d) (h : memorySafe s) : memorySafe (uhfCalUnit m d s) := by
  grind [uhfCalUnit, fail_safe, enterUhf_safe]

/-! ## UWB commands -/

theorem rangeUnit_safe (temp d) (h : memorySafe s) : memorySafe (rangeUnit temp d s) := by
  grind [rangeUnit, fail_safe, enterUwb_safe]

theorem uwbCalUnit_safe (m temp d) (h : memorySafe s) : memorySafe (uwbCalUnit m temp d s) := by
  grind [uwbCalUnit, fail_safe, enterUwb_safe]

theorem execUwbRadioIdleSleep_safe (t) (h : memorySafe s) : nextSafe (execUwbRadioIdleSleep t s) := by
  grind [execUwbRadioIdleSleep, command_safe, onlyIf_safe, uwbReplan_safe, uwbToRest_safe]

theorem execCoexGrant_safe (t) (h : memorySafe s) : nextSafe (execCoexGrant t s) := by
  grind [execCoexGrant, command_safe, onlyIf_safe, windowGranted_safe, uwbGranted_safe, calGranted_safe,
    uhfGranted_safe, frame_safe]

theorem execCoexTimeout_safe (t) (h : memorySafe s) : nextSafe (execCoexTimeout t s) := by
  grind [execCoexTimeout, command_safe, onlyIf_safe, denyWindow_safe, denyAttempt_safe, denyExchs_safe, denyCal_safe,
    uhfDenied_safe]

theorem execCoexGrantWithdrawn_safe (t) (h : memorySafe s) : nextSafe (execCoexGrantWithdrawn t s) := by
  grind [execCoexGrantWithdrawn, command_safe, onlyIf_safe, grantFalls_safe, frame_safe]

/-! ## Fold commands -/

theorem foldUnit_safe (d) (h : memorySafe s) : memorySafe (foldUnit d s) := by
  grind [foldUnit, fail_safe, frame_safe]

theorem barrierTimeout_safe (h : memorySafe s) : memorySafe (barrierTimeout s) := by
  grind [barrierTimeout, fail_safe, bump_safe, frame_safe]

theorem applyTree_safe (h : memorySafe s) : memorySafe (applyTree s) := by
  grind [applyTree, setFld_safe, bump_safe, frame_safe]

theorem discardTree_safe (h : memorySafe s) : memorySafe (discardTree s) := by
  grind [discardTree, frame_safe]

/-! ## Pinfold -/

theorem setTrack_safe (l) (h : memorySafe s) : memorySafe (setTrack l s) := by
  grind [setTrack, frame_safe]

theorem putEntry_safe (e) (h : memorySafe s) : memorySafe (putEntry e s) := by
  grind [putEntry, setTrack_safe]

theorem pinEvent_safe (f kind level fails secs folds) (h : memorySafe s) :
    memorySafe (pinEvent f kind level fails secs folds s) := by
  grind [pinEvent, post_safe]

theorem storePin_safe (h : memorySafe s) : memorySafe (storePin s) := by
  grind [storePin, tallyStep_safe, setTrack_safe, recStore_safe, frame_safe]

theorem engage_safe (e) (h : memorySafe s) : memorySafe (engage e s) := by
  grind [engage, putEntry_safe, append_safe, bump_safe, pinEvent_safe]

theorem addFailure_safe (e) (h : memorySafe s) : memorySafe (addFailure e s) := by
  grind [addFailure, engage_safe, putEntry_safe]

theorem countToward_safe (f) (h : memorySafe s) : memorySafe (countToward f s).1 := by
  grind [countToward, setTrack_safe, addFailure_safe, pinEvent_safe, append_safe, setFld_safe]

/-- A fold that counts a failure at each of several folds. -/
theorem countTowards_safe (fs : List Nat) (a : State × Bool) (h : memorySafe a.1) :
    memorySafe (fs.foldl (fun a g => ((countToward g a.1).1, a.2 || (countToward g a.1).2)) a).1 := by
  induction fs generalizing a with
  | nil => exact h
  | cons g fs ih => exact ih _ (countToward_safe g h)

theorem countFailure_safe (f) (h : memorySafe s) : memorySafe (countFailure f s) := by
  unfold countFailure
  split
  · exact h
  · exact ite_safe (storePin_safe (countTowards_safe _ _ h)) (countTowards_safe _ _ h)

theorem expire_safe (e) (h : memorySafe s) : memorySafe (expire e s) := by
  grind [expire, putEntry_safe, pinEvent_safe, append_safe]

theorem expireDue_safe (h : memorySafe s) : memorySafe (expireDue s) := by
  grind [expireDue, storePin_safe, expire_safe, foldl_safe]

theorem execPtimeAdvance_safe (t) (h : memorySafe s) : nextSafe (execPtimeAdvance t s) :=
  command_safe _ _ (fun _ hs => onlyIf_safe _ _ (fun _ hs => setFld_safe _ _ (frame_safe hs ..)) hs) h

theorem loadPin_safe (ptimeToo) (h : memorySafe s) : memorySafe (loadPin ptimeToo s) := by
  grind [loadPin, setTrack_safe, setFld_safe, addFailure_safe, pinEvent_safe, append_safe, storePin_safe, foldl_safe]

theorem shorten_safe (f newS clear) (h : memorySafe s) : memorySafe (shorten f newS clear s) := by
  grind [shorten, putEntry_safe, setTrack_safe, append_safe, pinEvent_safe, expire_safe, storePin_safe]

end

end Sys2Proof.Machine
end

section
/-! SUPPORT. Every step keeps the memories safe, part 5: timers, the immobiliser and the LF queue. -/
namespace Sys2Proof.Machine

section
variable {s : State}

/-! ## Timers -/

theorem setChan_safe (n c) (h : memorySafe s) : memorySafe (setChan n c s) := by
  grind [setChan, frame_safe]

theorem drivePins_safe (h : memorySafe s) : memorySafe (drivePins s) := by
  grind [drivePins, frame_safe]

theorem setPinf_safe (g v) (h : memorySafe s) : memorySafe (setPinf g v s) := by
  grind [setPinf, setFld_safe, frame_safe]

theorem writePinf_safe (n w) (h : memorySafe s) : memorySafe (writePinf n w s) := by
  grind [writePinf, drivePins_safe, setPinf_safe, foldl_safe]

theorem startPulse_safe (g width level) (h : memorySafe s) : memorySafe (startPulse g width level s) := by
  grind [startPulse, drivePins_safe, frame_safe]

theorem execGpioPulseEnd_safe (t pin) (h : memorySafe s) : nextSafe (execGpioPulseEnd t pin s) := by
  grind [execGpioPulseEnd, command_safe, onlyIf_safe, drivePins_safe, frame_safe]

theorem cfgUnit_safe (d) (h : memorySafe s) : memorySafe (cfgUnit d s) := by
  grind [cfgUnit, fail_safe, drivePins_safe, setChan_safe, setFld_safe, complete_safe]

theorem readUnit_safe (d) (h : memorySafe s) : memorySafe (readUnit d s) := by
  grind [readUnit, reserved_safe, writeDst_safe, complete_safe, setChan_safe]

theorem compareEvt_safe (n kind c late credit out missed) (h : memorySafe s) :
    memorySafe (compareEvt n kind c late credit out missed s) := by
  grind [compareEvt, post_safe]

theorem overflowAt_safe (credit n) (h : memorySafe s) : memorySafe (overflowAt credit n s) := by
  grind [overflowAt, setChan_safe, compareEvt_safe]

theorem runOverflow_safe (credit) (h : memorySafe s) : memorySafe (runOverflow credit s) := by
  grind [runOverflow, drivePins_safe, overflowAt_safe, foldl_safe, frame_safe]

theorem matchAt_safe (n credit) (h : memorySafe s) : memorySafe (matchAt n credit s) := by
  grind [matchAt, drivePins_safe, setChan_safe, setFld_safe, addFld_safe, compareEvt_safe]

theorem execTimerCompareMatch_safe (t n credit) (h : memorySafe s) :
    nextSafe (execTimerCompareMatch t n credit s) := by
  grind [execTimerCompareMatch, command_safe, onlyIf_safe, matchAt_safe, runOverflow_safe]

theorem captureAt_safe (n first second credit) (h : memorySafe s) :
    memorySafe (captureAt n first second credit s) := by
  grind [captureAt, setFld_safe, bump_safe, postAt_safe, setChan_safe]

theorem seeWake_safe (pin level) (h : memorySafe s) : memorySafe (seeWake pin level s) := by
  grind [seeWake, frame_safe]

theorem seePin_safe (src level) (h : memorySafe s) : memorySafe (seePin src level s) := by
  grind [seePin, seeWake_safe, frame_safe]

theorem execTimerCapturePair_safe (t n edge1 edge2 credit) (h : memorySafe s) :
    nextSafe (execTimerCapturePair t n edge1 edge2 credit s) := by
  grind [execTimerCapturePair, command_safe, onlyIf_safe, captureAt_safe, seePin_safe]

/-! ## The immobiliser -/

theorem setDriver_safe (dor co present) (h : memorySafe s) : memorySafe (setDriver dor co present s) := by
  grind [setDriver, setFld_safe, setFlag_safe, append_safe]

theorem clearDriver_safe (h : memorySafe s) : memorySafe (clearDriver s) := by
  grind [clearDriver, setDriver_safe]

theorem endPermission_safe (reason code) (h : memorySafe s) : memorySafe (endPermission reason code s) := by
  grind [endPermission, clearDriver_safe, append_safe, setFld_safe, frame_safe]

theorem grantStart_safe (slot g) (h : memorySafe s) : memorySafe (grantStart slot g s) := by
  grind [grantStart, setFld_safe, append_safe, frame_safe]

theorem execStartHoldExpiry_safe (t) (h : memorySafe s) : nextSafe (execStartHoldExpiry t s) := by
  refine command_safe _ _ (fun s hs => ?_) h
  split
  · exact onlyIf_safe _ _ (fun _ hs => endPermission_safe _ _ hs) hs
  · exact hs

theorem revokeUnit_safe (d) (h : memorySafe s) : memorySafe (revokeUnit d s) := by
  grind [revokeUnit, reserved_safe, endPermission_safe, complete_safe, frame_safe]

theorem setStarten_safe (a b) (h : memorySafe s) : memorySafe (setStarten a b s) := by
  grind [setStarten, setChan_safe, frame_safe]

theorem startenTick_safe (h : memorySafe s) : memorySafe (startenTick s) := by
  grind [startenTick, onlyIf_safe, setStarten_safe, complete_safe, foldl_safe, frame_safe]

theorem queueCan_safe (f) (h : memorySafe s) : memorySafe (queueCan f s) := by
  grind [queueCan, bump_safe, frame_safe]

theorem drainCan_safe (h : memorySafe s) : memorySafe (drainCan s) := by
  grind [drainCan, frame_safe]

theorem execCanBusOffRecovery_safe (t) (h : memorySafe s) : nextSafe (execCanBusOffRecovery t s) := by
  grind [execCanBusOffRecovery, command_safe, onlyIf_safe, drainCan_safe, setFld_safe]

theorem ecuEvent_safe (kind reason st ecnt id) (h : memorySafe s) :
    memorySafe (ecuEvent kind reason st ecnt id s) := by
  grind [ecuEvent, post_safe]

theorem syncPair_safe (h : memorySafe s) : memorySafe (syncPair s) := by
  grind [syncPair, setFld_safe, setFlag_safe, regSet_safe]

theorem setPair_safe (p) (h : memorySafe s) : memorySafe (setPair p s) := by
  grind [setPair, recStore_safe, frame_safe]

theorem queueSelect_safe (sel) (h : memorySafe s) : memorySafe (queueSelect sel s) := by
  grind [queueSelect, bump_safe, setPair_safe, queueCan_safe]

theorem startSilence_safe (h : memorySafe s) : memorySafe (startSilence s) := by
  grind [startSilence, setFld_safe, bump_safe, ecuEvent_safe, append_safe, frame_safe]

theorem silenceEnd_safe (h : memorySafe s) : memorySafe (silenceEnd s) := by
  grind [silenceEnd, onlyIf_safe, setFld_safe, ecuEvent_safe, append_safe, startSilence_safe, frame_safe]

theorem ecuChallenge_safe (f) (h : memorySafe s) : memorySafe (ecuChallenge f s) := by
  grind [ecuChallenge, onlyIf_safe, queueCan_safe, setPair_safe, bump_safe, ecuEvent_safe]

theorem frameEnds_safe (h : memorySafe s) : memorySafe (frameEnds s) := by
  grind [frameEnds, frame_safe]

theorem execEcuChallenge_safe (t f) (h : memorySafe s) : nextSafe (execEcuChallenge t f s) := by
  grind [execEcuChallenge, command_safe, frameEnds_safe, ecuChallenge_safe, silenceEnd_safe]

theorem ecuViolation_safe (f) (h : memorySafe s) : memorySafe (ecuViolation f s) := by
  unfold ecuViolation
  grind [onlyIf_safe, bump_safe, append_safe, queueCan_safe, ecuEvent_safe, startSilence_safe, frame_safe]

theorem execEcuViolation_safe (t f) (h : memorySafe s) : nextSafe (execEcuViolation t f s) := by
  grind [execEcuViolation, command_safe, frameEnds_safe, ecuViolation_safe, silenceEnd_safe]

theorem installPair_safe (d probed p) (h : memorySafe s) : memorySafe (installPair d probed p s) := by
  grind [installPair, recStore_safe, fail_safe, syncPair_safe, complete_safe, append_safe, frame_safe]

theorem sendProbe_safe (g) (h : memorySafe s) : memorySafe (sendProbe g s) := by
  grind [sendProbe, drawBytes_safe, queueCan_safe, frame_safe]

theorem pairUnit_safe (d) (h : memorySafe s) : memorySafe (pairUnit d s) := by
  unfold pairUnit
  refine ite_safe (fail_safe _ _ _ h) <| ite_safe (fail_safe _ _ _ h) <|
    reserved_safe _ _ _ (fun s hs => readSrc_safe _ _ _ (fun b s hs => ?_) hs) h
  grind [fail_safe, bump_safe, countMac_safe, installPair_safe, sendProbe_safe]

theorem stepForm_safe (d k) (hk : ∀ s, memorySafe s → memorySafe (k s)) (h : memorySafe s) :
    memorySafe (stepForm d k s) := by
  grind [stepForm, reserved_safe, fail_safe]

theorem stepCmac_safe (d) (h : memorySafe s) : memorySafe (stepCmac d s) := by
  grind [stepCmac, stepForm_safe, readSrc_safe, fail_safe, countMac_safe, complete_safe, frame_safe]

theorem stepProbe_safe (d) (h : memorySafe s) : memorySafe (stepProbe d s) := by
  grind [stepProbe, stepForm_safe, fail_safe, sendProbe_safe]

theorem stepInstall_safe (d) (h : memorySafe s) : memorySafe (stepInstall d s) := by
  grind [stepInstall, stepForm_safe, fail_safe, installPair_safe]

theorem probeEnds_safe (g st) (h : memorySafe s) : memorySafe (probeEnds g st s) := by
  grind [probeEnds, fail_safe, complete_safe, installPair_safe, frame_safe]

theorem probeAns_safe (f) (h : memorySafe s) : memorySafe (probeAns f s) := by
  grind [probeAns, onlyIf_safe, probeEnds_safe]

theorem execProbeAnsFrame_safe (t f) (h : memorySafe s) : nextSafe (execProbeAnsFrame t f s) := by
  grind [execProbeAnsFrame, command_safe, frameEnds_safe, probeAns_safe]

theorem execProbeAnsTimeout_safe (t) (h : memorySafe s) : nextSafe (execProbeAnsTimeout t s) := by
  refine command_safe _ _ (fun s hs => ?_) h
  split
  · exact hs
  split
  · exact hs
  · exact onlyIf_safe _ _ (fun _ hs => probeEnds_safe _ _ hs) hs

/-! ## The LF queue -/

theorem pushLf_safe (r) (h : memorySafe s) : memorySafe (pushLf r s) := by
  grind [pushLf, frame_safe]

theorem takeNo_safe (h : memorySafe s) : memorySafe (takeNo s) := by
  grind [takeNo, frame_safe]

theorem enqueueHost_safe (d r) (h : memorySafe s) : memorySafe (enqueueHost d r s) := by
  grind [enqueueHost, takeNo_safe, pushLf_safe, frame_safe]

theorem admitWaiting_safe (ws) (h : memorySafe s) : memorySafe (admitWaiting ws s) := by
  induction ws generalizing s with
  | nil => exact frame_safe h ..
  | cons w ws ih =>
    unfold admitWaiting
    split
    · exact ih (pushLf_safe _ h)
    · exact frame_safe h ..

theorem joinAuto_safe (a due node) (h : memorySafe s) : memorySafe (joinAuto a due node s) := by
  grind [joinAuto, frame_safe]

theorem enqueueAuto_safe (a f slots due) (h : memorySafe s) : memorySafe (enqueueAuto a f slots due s) := by
  grind [enqueueAuto, joinAuto_safe, takeNo_safe, pushLf_safe]

theorem lfQueueTimeout_safe (h : memorySafe s) : memorySafe (lfQueueTimeout s) := by
  grind [lfQueueTimeout, fail_safe, frame_safe]

theorem lfPollUnit_safe (d) (h : memorySafe s) : memorySafe (lfPollUnit d s) := by
  grind [lfPollUnit, fail_safe, enqueueHost_safe]

theorem lfDiagUnit_safe (d) (h : memorySafe s) : memorySafe (lfDiagUnit d s) := by
  grind [lfDiagUnit, fail_safe, enqueueHost_safe]

theorem lfListenUnit_safe (d) (h : memorySafe s) : memorySafe (lfListenUnit d s) := by
  grind [lfListenUnit, fail_safe, enqueueHost_safe]

theorem noteRing_safe (r) (h : memorySafe s) : memorySafe (noteRing r s) := by
  grind [noteRing, setFld_safe]

theorem noteCoil_safe (c k) (h : memorySafe s) : memorySafe (noteCoil c k s) := by
  grind [noteCoil, setFld_safe, frame_safe]

theorem applyTune_safe (es) (h : memorySafe s) : memorySafe (applyTune es s) := by
  grind [applyTune, lfeSet_safe, foldl_safe]

theorem applyEntries_safe (t d es) (h : memorySafe s) : memorySafe (applyEntries t d es s) := by
  grind [applyEntries, fail_safe, applyTune_safe, commitLfe_safe, complete_safe]

theorem runApply_safe (t r d) (h : memorySafe s) : memorySafe (runApply t r d s) := by
  grind [runApply, readSrc_safe, applyEntries_safe]

theorem foreignSeen_safe (hot source band) (h : memorySafe s) : memorySafe (foreignSeen hot source band s) := by
  grind [foreignSeen, setFld_safe, post_safe, append_safe, foldl_safe, frame_safe]

theorem clearFf_safe (ms) (h : memorySafe s) : memorySafe (clearFf ms s) := by
  grind [clearFf, setFld_safe, foldl_safe]

theorem noteSat_safe (sat) (h : memorySafe s) : memorySafe (noteSat sat s) := by
  grind [noteSat, setFld_safe]

theorem endLf_safe (ff sat) (h : memorySafe s) : memorySafe (endLf ff sat s) := by
  grind [endLf, bump_safe, frame_safe]

theorem calPass_safe (d tag step l) (h : memorySafe s) : memorySafe (calPass d tag step l s) := by
  grind [calPass, accept_safe, enterFlight_safe, enqueueHost_safe, frame_safe]

theorem finishCal_safe (c st) (h : memorySafe s) : memorySafe (finishCal c st s) := by
  grind [finishCal, writeDst_safe, complete_safe]

theorem stepCal_safe (c st) (h : memorySafe s) : memorySafe (stepCal c st s) := by
  grind [stepCal, finishCal_safe, fail_safe, calPass_safe]

theorem settleLfCals_safe (h : memorySafe s) : memorySafe (settleLfCals s) := by
  grind [settleLfCals, stepCal_safe, frame_safe]

theorem notePass_safe (d rings) (h : memorySafe s) : memorySafe (notePass d rings s) := by
  grind [notePass, frame_safe]

theorem lfCalUnit_safe (tag d) (h : memorySafe s) : memorySafe (lfCalUnit tag d s) := by
  grind [lfCalUnit, fail_safe, calPass_safe]

theorem execLfQueueTimeout_safe (t) (h : memorySafe s) : nextSafe (execLfQueueTimeout t s) := by
  grind [execLfQueueTimeout, command_safe, settleLfCals_safe, lfQueueTimeout_safe]

/-! ## Verdict set-up -/

theorem syncVrd_safe (h : memorySafe s) : memorySafe (syncVrd s) := by
  grind [syncVrd, regSet_safe, setFlag_safe]

theorem storeSel_safe (h : memorySafe s) : memorySafe (storeSel s) := by
  grind [storeSel, recStore_safe, setFld_safe]

theorem activateRules_safe (h : memorySafe s) : memorySafe (activateRules s) := by
  grind [activateRules, recErase_safe, append_safe, frame_safe]

theorem activateMap_safe (h : memorySafe s) : memorySafe (activateMap s) := by
  grind [activateMap, recErase_safe, append_safe, frame_safe]

theorem activate_safe (rules map) (h : memorySafe s) : memorySafe (activate rules map s) := by
  grind [activate, setFld_safe, activateRules_safe, activateMap_safe, storeSel_safe, syncVrd_safe]

theorem dropStaged_safe (rules) (h : memorySafe s) : memorySafe (dropStaged rules s) := by
  grind [dropStaged, syncVrd_safe, recErase_safe, frame_safe]

theorem loadChecked_safe (rules d key b) (h : memorySafe s) : memorySafe (loadChecked rules d key b s) := by
  unfold loadChecked
  grind [complete_safe, bump_safe, recStore_safe, syncVrd_safe, activate_safe, frame_safe]

theorem loadUnit_safe (rules d) (h : memorySafe s) : memorySafe (loadUnit rules d s) := by
  grind [loadUnit, dropStaged_safe, fail_safe, reserved_safe, readSrc_safe, complete_safe, loadChecked_safe]

theorem evalUnit_safe (d) (h : memorySafe s) : memorySafe (evalUnit d s) := by
  unfold evalUnit
  refine ite_safe (fail_safe _ _ _ h) (reserved_safe _ _ _ (fun s hs => ?_) h)
  refine ite_safe (fail_safe _ _ _ hs) (readSrc_safe _ _ _ (fun b s hs => ?_) hs)
  dsimp only
  split
  · exact fail_safe _ _ _ hs
  · exact writeDst_safe _ _ _ (fun _ hs => complete_safe _ _ _ _ hs) hs

end

end Sys2Proof.Machine
end

section
/-! SUPPORT. Every step keeps the memories safe, part 6: polls, the flock, the verdict and the clock. -/
namespace Sys2Proof.Machine

section
variable {s : State}

/-! ## Polls -/

theorem pollDriver_safe (p) (h : memorySafe s) : memorySafe (pollDriver p s) := by
  grind [pollDriver, setFld_safe, setDriver_safe, frame_safe]

theorem reportPoll_safe (r p st) (h : memorySafe s) : memorySafe (reportPoll r p st s) := by
  grind [reportPoll, writeDst_safe, complete_safe]

theorem dropPoll_safe (h : memorySafe s) : memorySafe (dropPoll s) := by
  grind [dropPoll, endHold_safe, dropWindows_safe, frame_safe]

theorem settlePoll_safe (h : memorySafe s) : memorySafe (settlePoll s) := by
  grind [settlePoll, endLf_safe, dropPoll_safe, reportPoll_safe, pollDriver_safe]

theorem abortLf_safe (st) (h : memorySafe s) : memorySafe (abortLf st s) := by
  grind [abortLf, endLf_safe, dropPoll_safe, settleLfCals_safe, reportPoll_safe, fail_safe]

theorem endAtStart_safe (r late st map f) (h : memorySafe s) : memorySafe (endAtStart r late st map f s) := by
  grind [endAtStart, endLf_safe, complete_safe, tookFree_safe]

theorem startPoll_safe (r late) (h : memorySafe s) : memorySafe (startPoll r late s) := by
  grind [startPoll, endAtStart_safe, drawBytes_safe, reserveWindows_safe, frame_safe]

theorem finishDiag_safe (r) (h : memorySafe s) : memorySafe (finishDiag r s) := by
  grind [finishDiag, endLf_safe, settleLfCals_safe, notePass_safe, writeDst_safe, complete_safe]

theorem startDiag_safe (r) (h : memorySafe s) : memorySafe (startDiag r s) := by
  grind [startDiag, finishDiag_safe, frame_safe]

theorem startOp_safe (r) (h : memorySafe s) : memorySafe (startOp r s) := by
  grind [startOp, applyHeld_safe, settleLfCals_safe, fail_safe, endLf_safe, addFld_safe, startPoll_safe,
    startDiag_safe, runApply_safe, frame_safe]

theorem pollStart_safe (h : memorySafe s) : memorySafe (pollStart s) := by
  grind [pollStart, onlyIf_safe, admitWaiting_safe, addFld_safe, startOp_safe, frame_safe]

theorem driveEnd_safe (m) (h : memorySafe s) : memorySafe (driveEnd m s) := by
  unfold driveEnd
  split
  · exact onlyIf_safe _ _ (fun _ hs => noteSat_safe _ <|
      foldl_safe _ _ (frame_safe hs ..) fun _ x hs => noteRing_safe x hs) h
  · exact h

theorem ffEnd_safe (m) (h : memorySafe s) : memorySafe (ffEnd m s) := by
  unfold ffEnd
  split
  · exact onlyIf_safe _ _ (fun _ hs => foreignSeen_safe _ _ _ <| noteSat_safe _ <|
      clearFf_safe _ (frame_safe hs ..)) h
  · exact h

theorem resumeCoils_safe (w cs) (h : memorySafe s) : memorySafe (resumeCoils w cs s).2 := by
  induction cs generalizing s with
  | nil => exact h
  | cons c cs ih =>
    unfold resumeCoils
    split
    · exact ih h
    · split
      · split
        · exact ih h
        · exact ih (drawBytes_safe 8 h)
      · exact ih h

theorem windowOpen_safe (h : memorySafe s) : memorySafe (windowOpen s) := by
  unfold windowOpen
  split
  · refine onlyIf_safe _ _ (fun s hs => ?_) h
    refine ite_safe ?_ (setFld_safe _ _ ?_) <;> exact frame_safe (resumeCoils_safe _ _ hs) ..
  · exact h

theorem reslot_safe (r p close) (h : memorySafe s) : memorySafe (reslot r p close s) := by
  grind [reslot, drawBytes_safe, reserveWindows_safe, frame_safe]

theorem windowClose_safe (h : memorySafe s) : memorySafe (windowClose s) := by
  unfold windowClose
  split
  · split
    · exact h
    · refine onlyIf_safe _ _ (fun s hs => ?_) h
      exact ite_safe (reslot_safe _ _ _ (dropWindows_safe _ hs))
        (settlePoll_safe (endHold_safe (frame_safe (dropWindows_safe _ hs) ..)))
  · exact h

theorem diagRound_safe (m) (h : memorySafe s) : memorySafe (diagRound m s) := by
  grind [diagRound, onlyIf_safe, noteSat_safe, noteRing_safe, noteCoil_safe, finishDiag_safe, foldl_safe, frame_safe]

theorem listenEnd_safe (m) (h : memorySafe s) : memorySafe (listenEnd m s) := by
  unfold listenEnd
  split
  · split
    · refine onlyIf_safe _ _ (fun s hs => ?_) h
      refine writeDst_safe _ _ _ (fun _ hs => complete_safe _ _ _ _ hs) (endLf_safe _ _ ?_)
      exact ite_safe (foreignSeen_safe _ _ _ (noteSat_safe _ (clearFf_safe _ hs))) (noteSat_safe _ (clearFf_safe _ hs))
    · exact h
  · exact h

/-! ## The flock -/

theorem storeFlock_safe (h : memorySafe s) : memorySafe (storeFlock s) := by
  grind [storeFlock, recStore_safe]

theorem syncFlock_safe (h : memorySafe s) : memorySafe (syncFlock s) := by
  grind [syncFlock, setFld_safe, setFlag_safe]

theorem loadFlock_safe (h : memorySafe s) : memorySafe (loadFlock s) := by
  grind [loadFlock, syncFlock_safe, recErase_safe, append_safe, frame_safe]

theorem learnFails_safe (d st det err) (h : memorySafe s) : memorySafe (learnFails d st det err s) := by
  grind [learnFails, setFld_safe, complete_safe, frame_safe]

theorem activateFlock_safe (f d bw) (h : memorySafe s) : memorySafe (activateFlock f d bw s) := by
  grind [activateFlock, recErase_safe, endPermission_safe, clearDriver_safe, syncFlock_safe, append_safe,
    setFld_safe, complete_safe, frame_safe]

theorem commitLearn_safe (d f bw) (h : memorySafe s) : memorySafe (commitLearn d f bw s) := by
  grind [commitLearn, learnFails_safe, recStore_safe, tallyStep_safe, activateFlock_safe, frame_safe]

theorem authorise_safe (d f) (h : memorySafe s) : memorySafe (authorise d f s) := by
  grind [authorise, commitLearn_safe, setFld_safe, frame_safe]

theorem learnUnit_safe (d) (h : memorySafe s) : memorySafe (learnUnit d s) := by
  have h0 := setFld_safe FLK_STATUS.LEARN_BUSY 1 h
  unfold learnUnit
  generalize setFld FLK_STATUS.LEARN_BUSY 1 s = s0 at h0
  have hf : ∀ st det i, memorySafe (learnFails d st det i s0) := fun st det i => learnFails_safe d st det i h0
  dsimp only
  refine ite_safe (hf ..) (ite_safe (hf ..) ?_)
  split
  · exact hf ..
  split
  · exact learnFails_safe _ _ _ _ (ite_safe (setFault_safe _ h0) h0)
  refine ite_safe (hf ..) (ite_safe (hf ..) ?_)
  split
  · exact hf ..
  refine ite_safe (hf ..) (ite_safe (learnFails_safe _ _ _ _ (countVerify_safe _ h0)) ?_)
  have h1 : memorySafe (if p8 d 0 = 1 then countVerify true s0 else s0) := ite_safe (countVerify_safe _ h0) h0
  refine ite_safe (learnFails_safe _ _ _ _ (bump_safe _ h1)) ?_
  split
  · exact learnFails_safe _ _ _ _ h1
  · exact authorise_safe _ _ (frame_safe h1 ..)

theorem bellAnswer_safe (slot) (h : memorySafe s) : memorySafe (bellAnswer slot s) := by
  grind [bellAnswer, commitLearn_safe, frame_safe]

theorem bellPoll_safe (h : memorySafe s) : memorySafe (bellPoll s) := by
  grind [bellPoll, onlyIf_safe, withDesc_safe, lfPollUnit_safe, frame_safe]

theorem execBellwetherTimeout_safe (t) (h : memorySafe s) : nextSafe (execBellwetherTimeout t s) := by
  refine command_safe _ _ (fun s hs => ?_) h
  split
  · exact hs
  · exact onlyIf_safe _ _ (fun _ hs => learnFails_safe _ _ _ _ hs) hs

theorem statusSlot_safe (d) (h : memorySafe s) : memorySafe (statusSlot d s) := by
  grind [statusSlot, fail_safe, reserved_safe, writeDst_safe, complete_safe]

theorem pinForm_safe (d k) (hk : ∀ s, memorySafe s → memorySafe (k s)) (h : memorySafe s) :
    memorySafe (pinForm d k s) := by
  grind [pinForm, fail_safe]

theorem statusPin_safe (d) (h : memorySafe s) : memorySafe (statusPin d s) := by
  grind [statusPin, fail_safe, pinForm_safe, complete_safe]

theorem statusShorten_safe (d) (h : memorySafe s) : memorySafe (statusShorten d s) := by
  grind [statusShorten, fail_safe, pinForm_safe, shorten_safe, complete_safe]

/-! ## Answers -/

theorem setPoll_safe (p) (h : memorySafe s) : memorySafe (setPoll p s) := by
  grind [setPoll, frame_safe]

theorem noteStop_safe (s0) (h : memorySafe s) : memorySafe (noteStop s0 s) := by
  grind [noteStop, setPoll_safe]

theorem noteConcurrent_safe (h : memorySafe s) : memorySafe (noteConcurrent s) := by
  grind [noteConcurrent, append_safe, setPoll_safe]

theorem addAnswer_safe (a) (h : memorySafe s) : memorySafe (addAnswer a s) := by
  grind [addAnswer, noteConcurrent_safe, setPoll_safe]

theorem authFailed_safe (fslot reason node coil) (h : memorySafe s) :
    memorySafe (authFailed fslot reason node coil s) := by
  grind [authFailed, append_safe, bump_safe, noteStop_safe, countFailure_safe]

theorem acceptCounter_safe (slot c) (h : memorySafe s) : memorySafe (acceptCounter slot c s) := by
  grind [acceptCounter, storeFlock_safe, bellAnswer_safe, frame_safe]

theorem takeFlock_safe (h : memorySafe s) : memorySafe (takeFlock s) := by
  grind [takeFlock, activateFlock_safe]

theorem checkAnswer_safe (a epoch msg mac node coil) (h : memorySafe s) :
    memorySafe (checkAnswer a epoch msg mac node coil s) := by
  have h0 := takeFlock_safe h
  unfold checkAnswer
  dsimp only
  split
  · exact h0
  refine ite_safe (addAnswer_safe _ h0) ?_
  split
  · exact addAnswer_safe _ (authFailed_safe _ _ _ _ h0)
  · exact ite_safe (addAnswer_safe _ (append_safe _ _ _ (bump_safe _ h0))) <|
      ite_safe (addAnswer_safe _ (acceptCounter_safe _ _ h0)) (acceptCounter_safe _ _ (addAnswer_safe _ h0))

theorem syncSeen_safe (ch) (h : memorySafe s) : memorySafe (syncSeen ch s) := by
  grind [syncSeen, onlyIf_safe, bump_safe, setPoll_safe]

theorem badCrc_safe (p sc spread) (h : memorySafe s) : memorySafe (badCrc p sc spread s) := by
  grind [badCrc, bump_safe, setPoll_safe]

theorem heardFrame_safe (p) (h : memorySafe s) : memorySafe (heardFrame p s) := by
  grind [heardFrame, setPoll_safe, radiosOn_safe, setPState_safe, frame_safe]

theorem positionViol_safe (h : memorySafe s) : memorySafe (positionViol s) := by
  grind [positionViol, bump_safe, append_safe, frame_safe]

theorem goodFrame_safe (r p sc f) (h : memorySafe s) : memorySafe (goodFrame r p sc f s) := by
  grind [goodFrame, heardFrame_safe, bump_safe, setPoll_safe, positionViol_safe, checkAnswer_safe]

theorem answerFrame_safe (f) (h : memorySafe s) : memorySafe (answerFrame f s) := by
  grind [answerFrame, onlyIf_safe, setPoll_safe, goodFrame_safe, badCrc_safe]

theorem setCoil_safe (c) (h : memorySafe s) : memorySafe (setCoil c s) := by
  grind [setCoil, setPoll_safe]

theorem tryCoil_safe (c at0) (h : memorySafe s) : memorySafe (tryCoil c at0 s) := by
  grind [tryCoil, setCoil_safe, drawBytes_safe]

theorem coilStart_safe (n pct limit) (h : memorySafe s) : memorySafe (coilStart n pct limit s) := by
  grind [coilStart, onlyIf_safe, noteCoil_safe, settlePoll_safe, setCoil_safe, tryCoil_safe, setPoll_safe]

theorem coilRetry_safe (c) (h : memorySafe s) : memorySafe (coilRetry c s) := by
  grind [coilRetry, bump_safe, settlePoll_safe, tryCoil_safe, setCoil_safe]

theorem coilFrame_safe (n b) (h : memorySafe s) : memorySafe (coilFrame n b s) := by
  unfold coilFrame
  split
  · refine onlyIf_safe _ _ (fun s hs => ite_safe (coilRetry_safe _ hs) ?_) h
    refine settlePoll_safe (checkAnswer_safe _ _ _ _ _ _ ?_)
    split
    · exact heardFrame_safe _ (setCoil_safe _ (tookFree_safe _ hs))
    · exact setCoil_safe _ (tookFree_safe _ hs)
  · exact h

theorem coilTimeout_safe (n) (h : memorySafe s) : memorySafe (coilTimeout n s) := by
  unfold coilTimeout
  split
  · exact onlyIf_safe _ _ (fun _ hs => coilRetry_safe _ hs) h
  · exact h

/-! ## The verdict -/

theorem setAnswer_safe (i a) (h : memorySafe s) : memorySafe (setAnswer i a s) := by
  grind [setAnswer, setPoll_safe]

theorem noteWait_safe (trig) (h : memorySafe s) : memorySafe (noteWait trig s) := by
  grind [noteWait, setFld_safe]

theorem requestRange_safe (i p a cand ff) (h : memorySafe s) : memorySafe (requestRange i p a cand ff s) := by
  grind [requestRange, setAnswer_safe, frame_safe]

theorem pulsePin_safe (x) (h : memorySafe s) : memorySafe (pulsePin s x) := by
  grind [pulsePin, startPulse_safe, bump_safe]

theorem issueActions_safe (r slot gs) (h : memorySafe s) : memorySafe (issueActions r slot gs s) := by
  grind [issueActions, pulsePin_safe, endPermission_safe, grantStart_safe, queueSelect_safe, foldl_safe]

theorem assertWake_safe (h : memorySafe s) : memorySafe (assertWake s) := by
  grind [assertWake, frame_safe]

theorem noteLastPass_safe (cycles trig st) (h : memorySafe s) : memorySafe (noteLastPass cycles trig st s) := by
  grind [noteLastPass, setFld_safe, noteWait_safe]

theorem countVerdict_safe (v stale ambig) (h : memorySafe s) : memorySafe (countVerdict v stale ambig s) := by
  grind [countVerdict, bump_safe]

theorem recordVerdict_safe (r v a) (h : memorySafe s) : memorySafe (recordVerdict r v a s) := by
  grind [recordVerdict, append_safe]

theorem verdictEvent_safe (v a ambig stale ff target cycles trig) (h : memorySafe s) :
    memorySafe (verdictEvent v a ambig stale ff target cycles trig s) := by
  grind [verdictEvent, postDet_safe]

theorem verdictOf_safe (k r p a) (h : memorySafe s) : memorySafe (verdictOf k r p a s) := by
  grind [verdictOf, setPoll_safe, tookFree_safe, noteLastPass_safe, countVerdict_safe, issueActions_safe,
    verdictEvent_safe, recordVerdict_safe, assertWake_safe]

theorem takeAtRange_safe (q) (h : memorySafe s) : memorySafe (takeAtRange q s) := by
  grind [takeAtRange, onlyIf_safe, takeFlock_safe]

theorem verdictPass_safe (h : memorySafe s) : memorySafe (verdictPass s) := by
  unfold verdictPass
  split
  · exact h
  refine onlyIf_safe _ _ (fun s hs => ?_) h
  have ht := takeAtRange_safe ‹Poll› hs
  dsimp only
  split
  · split
    · exact ht
    split
    · exact ht
    · exact ite_safe (requestRange_safe _ _ _ _ _ (noteWait_safe _ ht)) (settlePoll_safe (verdictOf_safe _ _ _ _ ht))
  · exact ht

theorem rangeArrives_safe (h : memorySafe s) : memorySafe (rangeArrives s) := by
  grind [rangeArrives, endHold_safe, setAnswer_safe, frame_safe]

/-! ## Clocks and marks -/

theorem storeWall_safe (h : memorySafe s) : memorySafe (storeWall s) := by
  grind [storeWall, recStore_safe]

theorem setWall_safe (w rem slew) (h : memorySafe s) : memorySafe (setWall w rem slew s) := by
  grind [setWall, frame_safe]

theorem applyWall_safe (mode v) (h : memorySafe s) : memorySafe (applyWall mode v s).1 := by
  grind [applyWall, setWall_safe, storeWall_safe, append_safe, setFld_safe]

theorem dropPending_safe (h : memorySafe s) : memorySafe (dropPending s) := by
  grind [dropPending, setFld_safe, frame_safe]

theorem timeUnit_safe (d) (h : memorySafe s) : memorySafe (timeUnit d s) := by
  grind [timeUnit, reserved_safe, fail_safe, applyWall_safe, dropPending_safe, complete_safe, setFld_safe,
    tookFree_safe, frame_safe]

theorem execWallClockStore_safe (t) (h : memorySafe s) : nextSafe (execWallClockStore t s) := by
  grind [execWallClockStore, command_safe, onlyIf_safe, storeWall_safe, frame_safe]

theorem noteGap_safe (g) (h : memorySafe s) : memorySafe (noteGap g s) := by
  grind [noteGap, captureAt_safe, frame_safe]

theorem noteMark_safe (k cnt) (h : memorySafe s) : memorySafe (noteMark k cnt s) := by
  grind [noteMark, setReg64_safe, setFld_safe, bump_safe]

theorem discipline_safe (h : memorySafe s) : memorySafe (discipline s).1 := by
  grind [discipline, setFld_safe, storeWall_safe, setWall_safe]

theorem markEvent_safe (kind o) (h : memorySafe s) : memorySafe (markEvent kind o s) := by
  grind [markEvent, post_safe]

theorem secondMark_safe (g) (h : memorySafe s) : memorySafe (secondMark g s) := by
  grind [secondMark, onlyIf_safe, discipline_safe, noteMark_safe, noteGap_safe, markEvent_safe]

theorem epochAct_safe (h : memorySafe s) : memorySafe (epochAct s).1 := by
  grind [epochAct, discipline_safe, dropPending_safe, applyWall_safe]

theorem epochMark_safe (g) (h : memorySafe s) : memorySafe (epochMark g s) := by
  grind [epochMark, onlyIf_safe, epochAct_safe, noteMark_safe, noteGap_safe, append_safe, markEvent_safe]

theorem attentionMark_safe (g) (h : memorySafe s) : memorySafe (attentionMark g s) := by
  grind [attentionMark, onlyIf_safe, noteMark_safe, noteGap_safe, markEvent_safe, exitRun_safe, setFld_safe]

theorem noteViol_safe (h : memorySafe s) : memorySafe (noteViol s) := by
  grind [noteViol, append_safe, frame_safe]

theorem gapViol_safe (g) (h : memorySafe s) : memorySafe (gapViol g s) := by
  grind [gapViol, onlyIf_safe, noteViol_safe, bump_safe, noteGap_safe, post_safe]

/-! ## Exits and wake pins -/

theorem tlpWake_safe (h : memorySafe s) : memorySafe (tlpWake s) := by
  grind [tlpWake, exitRun_safe]

theorem wakeExit_safe (w) (h : memorySafe s) : memorySafe (wakeExit w s) := by
  unfold wakeExit
  grind [onlyIf_safe, exitRun_safe, tlpWake_safe, frame_safe]

theorem askPoll_safe (a f slots due first) (h : memorySafe s) : memorySafe (askPoll a f slots due first s) := by
  grind [askPoll, joinAuto_safe, enqueueAuto_safe]

theorem wakeAct_safe (pin tb st held) (h : memorySafe s) : memorySafe (wakeAct pin tb st held s) := by
  grind [wakeAct, assertWake_safe, askPoll_safe, append_safe, postAt_safe]

theorem hold_safe (w) (h : memorySafe s) : memorySafe (hold w s) := by
  grind [hold, assertWake_safe, frame_safe]

theorem wakeWork_safe (k w act) (hact : ∀ s, memorySafe s → memorySafe (act s)) (h : memorySafe s) :
    memorySafe (wakeWork k w act s) := by
  grind [wakeWork, exitRun_safe, hold_safe]

theorem seeActive_safe (pin) (h : memorySafe s) : memorySafe (seeActive pin s) := by
  grind [seeActive, seeWake_safe]

theorem noteWakeSeen_safe (pin) (h : memorySafe s) : memorySafe (noteWakeSeen pin s) := by
  grind [noteWakeSeen, frame_safe]

theorem execWakePinEvent_safe (t e) (h : memorySafe s) : nextSafe (execWakePinEvent t e s) := by
  grind [execWakePinEvent, command_safe, onlyIf_safe, wakeWork_safe, wakeAct_safe, noteWakeSeen_safe, seeActive_safe]

theorem schedPoll_safe (e due first) (h : memorySafe s) : memorySafe (schedPoll e due first s) := by
  grind [schedPoll, askPoll_safe, addFld_safe]

theorem setDue_safe (e d) (h : memorySafe s) : memorySafe (setDue e d s) := by
  grind [setDue, frame_safe]

theorem schedDue_safe (e) (h : memorySafe s) : memorySafe (schedDue e s) := by
  grind [schedDue, onlyIf_safe, wakeWork_safe, schedPoll_safe, setDue_safe]

theorem runWork_safe (ws first) (h : memorySafe s) : memorySafe (runWork ws first s) := by
  induction ws generalizing s first with
  | nil => exact h
  | cons w ws ih =>
    cases w with
    | sched e d => exact ih _ (schedPoll_safe e d first h)
    | wake p tb => exact ih _ (wakeAct_safe p tb 3 _ h)

theorem runHeld_safe (h : memorySafe s) : memorySafe (runHeld s) := by
  grind [runHeld, runWork_safe, frame_safe]

theorem startSched_safe (h : memorySafe s) : memorySafe (startSched s) := by
  grind [startSched, setDue_safe, foldl_safe]

theorem stopSched_safe (h : memorySafe s) : memorySafe (stopSched s) := by
  grind [stopSched, frame_safe]

theorem writeSched_safe (e v) (h : memorySafe s) : memorySafe (writeSched e v s) := by
  grind [writeSched, setFld_safe, regSet_safe, setDue_safe, reselect_safe]

theorem commitSched_safe (h : memorySafe s) : memorySafe (commitSched s) := by
  grind [commitSched, recStore_safe, setFld_safe]

theorem writeSchedCtl_safe (v) (h : memorySafe s) : memorySafe (writeSchedCtl v s) := by
  grind [writeSchedCtl, wrW1c_safe, setFlag_safe, reselect_safe, startSched_safe, stopSched_safe, commitSched_safe]

theorem loadSched_safe (h : memorySafe s) : memorySafe (loadSched s) := by
  grind [loadSched, setFld_safe, regSet_safe, foldl_safe]

theorem enter_safe (p) (h : memorySafe s) : memorySafe (enter p s) := by
  grind [enter, frame_safe]

end

end Sys2Proof.Machine
end

section
/-! SUPPORT. Every step keeps the memories safe, part 7: queues, stores, ledger, generator and lifecycle. -/
namespace Sys2Proof.Machine

section
variable {s : State}

/-! ## Queue pairs -/

theorem nopUnit_safe (d) (h : memorySafe s) : memorySafe (nopUnit d s) := by
  grind [nopUnit, reserved_safe, complete_safe]

theorem loadHint_safe (h : memorySafe s) : memorySafe (loadHint s) := by
  grind [loadHint, setFld_safe]

theorem hintUnit_safe (d) (h : memorySafe s) : memorySafe (hintUnit d s) := by
  grind [hintUnit, fail_safe, keepStandby_safe, setFld_safe, recStore_safe, complete_safe]

theorem routeUnit_safe (d) (h : memorySafe s) : memorySafe (routeUnit d s) := by
  grind [routeUnit, reserved_safe, complete_safe, setFld_safe, frame_safe]

theorem takeHead_safe (n) (h : memorySafe s) : memorySafe (takeHead n s) := by
  grind [takeHead, unblockDrover_safe, setQp_safe, frame_safe]

theorem markBlocked_safe (n) (h : memorySafe s) : memorySafe (markBlocked s n) := by
  grind [markBlocked, blockDrover_safe]

theorem fetchError_safe (n) (h : memorySafe s) : memorySafe (fetchError n s) := by
  grind [fetchError, setFault_safe, setFld_safe, setQp_safe]

theorem dispatch_safe (n) (h : memorySafe s) : memorySafe (dispatch n s) := by
  grind [dispatch, fetchError_safe, markBlocked_safe, complete_safe, takeHead_safe, enterFlight_safe, fail_safe,
    frame_safe]

theorem dispatchTurn_safe (n) (h : memorySafe s) : memorySafe (dispatchTurn n s) := by
  grind [dispatchTurn, dispatch_safe, markBlocked_safe, foldl_safe]

theorem doorbellViol_safe (f) (h : memorySafe s) : memorySafe (doorbellViol f s) := by
  grind [doorbellViol, setFault_safe, bump_safe]

theorem sqTail_safe (n v) (h : memorySafe s) : memorySafe (sqTail n v s) := by
  grind [sqTail, doorbellViol_safe, setQp_safe]

theorem execSqTailDoorbell_safe (t n v) (h : memorySafe s) : nextSafe (execSqTailDoorbell t n v s) := by
  grind [execSqTailDoorbell, command_safe, onlyIf_safe, sqTail_safe, tlpWake_safe]

theorem cqHead_safe (n v) (h : memorySafe s) : memorySafe (cqHead n v s) := by
  grind [cqHead, doorbellViol_safe, setQp_safe]

theorem execCqHeadDoorbell_safe (t n v) (h : memorySafe s) : nextSafe (execCqHeadDoorbell t n v s) := by
  grind [execCqHeadDoorbell, command_safe, onlyIf_safe, cqHead_safe, tlpWake_safe]

theorem cfgViol_safe (h : memorySafe s) : memorySafe (cfgViol s) := by
  grind [cfgViol, setFault_safe, bump_safe]

theorem enablePair_safe (n) (h : memorySafe s) : memorySafe (enablePair n s) := by
  grind [enablePair, setFld_safe, setQp_safe]

theorem disablePair_safe (n) (h : memorySafe s) : memorySafe (disablePair n s) := by
  grind [disablePair, unblockDrover_safe, setQp_safe, settlePair_safe, frame_safe]

theorem writeQpCfg_safe (n v) (h : memorySafe s) : memorySafe (writeQpCfg n v s) := by
  grind [writeQpCfg, setFld_safe, regSet_safe, disablePair_safe, cfgViol_safe, enablePair_safe]

theorem writeRingBase_safe (n off v) (h : memorySafe s) : memorySafe (writeRingBase n off v s) := by
  grind [writeRingBase, cfgViol_safe, regSet_safe]

theorem execBusMasterEnableChange_safe (t on) (h : memorySafe s) : nextSafe (execBusMasterEnableChange t on s) := by
  grind [execBusMasterEnableChange, command_safe, releaseHeld_safe, tlpWake_safe, frame_safe]

theorem execD3hotTransition_safe (t enter) (h : memorySafe s) : nextSafe (execD3hotTransition t enter s) := by
  grind [execD3hotTransition, command_safe, tlpWake_safe, frame_safe]

theorem coalesceTimeout_safe (n) (h : memorySafe s) : memorySafe (coalesceTimeout n s) := by
  grind [coalesceTimeout, onlyIf_safe, raiseVector_safe, setQp_safe]

theorem sendPending_safe (n) (h : memorySafe s) : memorySafe (sendPending s n) := by
  grind [sendPending, frame_safe]

theorem maskVector_safe (n m) (h : memorySafe s) : memorySafe (maskVector n m s) := by
  grind [maskVector, sendPending_safe, frame_safe]

theorem execMsixVectorUnmask_safe (t n en) (h : memorySafe s) : nextSafe (execMsixVectorUnmask t n en s) := by
  refine command_safe _ _ (fun s hs => ?_) h
  exact ite_safe (foldl_safe _ _ (tlpWake_safe (frame_safe hs ..)) fun _ n hs => sendPending_safe n hs)
    (ite_safe (maskVector_safe _ _ (tlpWake_safe hs)) hs)

theorem linkChange_safe (l speed width) (h : memorySafe s) : memorySafe (linkChange l speed width s) := by
  grind [linkChange, setFld_safe, tlpWake_safe, releaseHeld_safe, reselect_safe, frame_safe]

theorem execPmeTurnOff_safe (t) (h : memorySafe s) : nextSafe (execPmeTurnOff t s) := by
  grind [execPmeTurnOff, command_safe, onlyIf_safe, tlpWake_safe, frame_safe]

theorem execPmeToAck_safe (t) (h : memorySafe s) : nextSafe (execPmeToAck t s) := by
  grind [execPmeToAck, command_safe, onlyIf_safe, frame_safe]

/-! ## NV commands -/

theorem noteTwin_safe (id) (h : memorySafe s) : memorySafe (noteTwin id s) := by
  grind [noteTwin, setFld_safe, bump_safe, append_safe, nvFrame_safe]

theorem noteRepair_safe (h : memorySafe s) : memorySafe (noteRepair s) := by
  grind [noteRepair, setFld_safe, bump_safe]

theorem countHostRec_safe (n) (h : memorySafe s) : memorySafe (countHostRec n s) := by
  grind [countHostRec, countRead_safe]

theorem repairHost_safe (n) (h : memorySafe s) : memorySafe (repairHost n s) := by
  unfold repairHost
  split
  · exact h
  · dsimp only
    split
    · exact noteRepair_safe (writeHostCopy_safe _ _ _ (nvFrame_safe h ..))
    · exact noteRepair_safe (writeHostCopy_safe _ _ _ (nvFrame_safe h ..))
    · exact nvFrame_safe h ..

theorem repairRec_safe (id) (h : memorySafe s) : memorySafe (repairRec id s) := by
  have h1 : memorySafe (if (recGet id s).twin then noteTwin id s else s) := ite_safe (noteTwin_safe id h) h
  unfold repairRec
  exact ite_safe (noteRepair_safe (nvRec_safe id _ h1)) h1

theorem readHostRec_safe (d) (h : memorySafe s) : memorySafe (readHostRec d s) := by
  grind [readHostRec, repairHost_safe, countHostRec_safe, noteTwin_safe, complete_safe, setFault_safe, dmaWrite_safe]

theorem readRaw_safe (d a) (h : memorySafe s) : memorySafe (readRaw d a s) := by
  grind [readRaw, countRead_safe, complete_safe, setFault_safe, dmaWrite_safe]

theorem nvReadUnit_safe (d) (h : memorySafe s) : memorySafe (nvReadUnit d s) := by
  grind [nvReadUnit, fail_safe, reserved_safe, readHostRec_safe, readRaw_safe]

theorem writeHostRec_safe (d) (h : memorySafe s) : memorySafe (writeHostRec d s) := by
  grind [writeHostRec, readSrc_safe, repairHost_safe, writeHostCopy_safe, complete_safe, append_safe, nvFrame_safe]

theorem writeRaw_safe (d a st det b) (h : memorySafe s) : memorySafe (writeRaw d a st det b s) := by
  grind [writeRaw, nvStore_safe, complete_safe]

theorem writeScratch_safe (d) (h : memorySafe s) : memorySafe (writeScratch d s) := by
  grind [writeScratch, writeRaw_safe, setFault_safe]

theorem nvBarrier_safe (d) (h : memorySafe s) : memorySafe (nvBarrier d s) := by
  grind [nvBarrier, complete_safe, drainAll_safe]

theorem nvWriteUnit_safe (d) (h : memorySafe s) : memorySafe (nvWriteUnit d s) := by
  grind [nvWriteUnit, fail_safe, reserved_safe, nvBarrier_safe, writeHostRec_safe, writeScratch_safe]

theorem fwChunkUnit_safe (d) (h : memorySafe s) : memorySafe (fwChunkUnit d s) := by
  grind [fwChunkUnit, fail_safe, reserved_safe, nvBarrier_safe, readSrc_safe, writeRaw_safe]

theorem devRecUnit_safe (d) (h : memorySafe s) : memorySafe (devRecUnit d s) := by
  grind [devRecUnit, fail_safe, reserved_safe, nvBarrier_safe, readSrc_safe, recStore_safe, complete_safe]

theorem programOtp_safe (k) (h : memorySafe s) : memorySafe (programOtp k s) := by
  grind [programOtp, frame_safe]

theorem otpUnit_safe (d) (h : memorySafe s) : memorySafe (otpUnit d s) := by
  grind [otpUnit, fail_safe, reserved_safe, nvBarrier_safe, readSrc_safe, complete_safe, programOtp_safe]

theorem tallyIncUnit_safe (d) (h : memorySafe s) : memorySafe (tallyIncUnit d s) := by
  grind [tallyIncUnit, fail_safe, reserved_safe, elapse_safe, tallyStep_safe, complete_safe, nvFrame_safe]

theorem tallyReadUnit_safe (d) (h : memorySafe s) : memorySafe (tallyReadUnit d s) := by
  grind [tallyReadUnit, reserved_safe, addFld_safe, complete_safe, append_safe]

theorem scrubWord_safe (a) (h : memorySafe s) : memorySafe (scrubWord s a) := by
  grind [scrubWord, nvWriteWord_safe]

theorem scrubPass_safe (h : memorySafe s) : memorySafe (scrubPass s) := by
  grind [scrubPass, addFld_safe, setFld_safe, bump_safe, scrubWord_safe, foldl_safe, nvFrame_safe]

theorem execScrubPass_safe (t) (h : memorySafe s) : nextSafe (execScrubPass t s) :=
  command_safe _ _ (fun _ hs => onlyIf_safe _ _ (fun _ hs => scrubPass_safe hs) hs) h

theorem measureHold_safe (atRelease vhold vaon) (h : memorySafe s) :
    memorySafe (measureHold atRelease vhold vaon s) := by
  grind [measureHold, setFld_safe, setFlag_safe, append_safe, nvFrame_safe]

/-! ## Ledger commands -/

theorem placeAll_safe (wall es ps) (h : memorySafe s) {r} (hr : placeAll wall es ps s = some r) : memorySafe r.1 := by
  induction es generalizing s ps with
  | nil =>
    cases hr
    exact h
  | cons e es ih =>
    unfold placeAll at hr
    dsimp only at hr
    split at hr
    · exact ih _ (placeRecord_safe _ false h) hr
    · cases hr

theorem refuseAppend_safe (d) (h : memorySafe s) : memorySafe (refuseAppend d s) := by
  grind [refuseAppend, fail_safe, setFld_safe, bump_safe]

theorem writeHost_safe (d wall b) (h : memorySafe s) : memorySafe (writeHost d wall b s) := by
  have h0 := reportLost_safe h
  unfold writeHost
  dsimp only
  split
  · exact refuseAppend_safe d h0
  next s1 ps hp =>
    have h1 : memorySafe s1 := placeAll_safe _ _ _ h0 hp
    exact complete_safe _ _ _ _ (ite_safe (sealBlock_safe padForced h1) h1)

theorem appendHost_safe (d b) (h : memorySafe s) : memorySafe (appendHost d b s) := by
  grind [appendHost, writeHost_safe, frame_safe]

theorem ledgerAppend_safe (d) (h : memorySafe s) : memorySafe (ledgerAppend d s) := by
  grind [ledgerAppend, fail_safe, reserved_safe, readSrc_safe, appendHost_safe]

theorem appendTimeout_safe (h : memorySafe s) : memorySafe (appendTimeout s) := by
  grind [appendTimeout, fail_safe, foldl_safe, frame_safe]

theorem afterRecall_safe (d k) (hk : ∀ s, memorySafe s → memorySafe (k s)) (h : memorySafe s) :
    memorySafe (afterRecall d k s) := by
  grind [afterRecall, fail_safe]

theorem countBlocks_safe (qs) (h : memorySafe s) : memorySafe (countBlocks qs s) := by
  grind [countBlocks, countRead_safe, foldl_safe]

theorem readBlocks_safe (d) (h : memorySafe s) : memorySafe (readBlocks d s) := by
  grind [readBlocks, complete_safe, fail_safe, writeDst_safe, countBlocks_safe]

theorem readStatements_safe (d) (h : memorySafe s) : memorySafe (readStatements d s) := by
  grind [readStatements, complete_safe, fail_safe, writeDst_safe, tookFree_safe]

theorem ledgerRead_safe (k d) (hk : ∀ y0 s, memorySafe s → memorySafe (k y0 s)) (h : memorySafe s) :
    memorySafe (ledgerRead k d s) := by
  grind [ledgerRead, fail_safe, reserved_safe, afterRecall_safe]

theorem execLedgerReadBlocks_safe (t d) (h : memorySafe s) : nextSafe (execLedgerReadBlocks t d s) := by
  grind [execLedgerReadBlocks, descCommand_safe, ledgerRead_safe, readBlocks_safe]

theorem execLedgerReadStatements_safe (t d) (h : memorySafe s) : nextSafe (execLedgerReadStatements t d s) := by
  grind [execLedgerReadStatements, descCommand_safe, ledgerRead_safe, readStatements_safe]

theorem ledgerSeal_safe (d) (h : memorySafe s) : memorySafe (ledgerSeal d s) := by
  grind [ledgerSeal, reserved_safe, afterRecall_safe, sealBlock_safe, complete_safe]

theorem execLedgerSealTimer_safe (t) (h : memorySafe s) : nextSafe (execLedgerSealTimer t s) :=
  command_safe _ _ (fun _ hs => onlyIf_safe _ _ (fun _ hs => sealBlock_safe _ hs) hs) h

theorem raiseW_safe (d u) (h : memorySafe s) : memorySafe (raiseW d u s) := by
  grind [raiseW, append_safe, recStore_safe, complete_safe, duePreClear_safe, frame_safe]

theorem ledgerRelease_safe (d) (h : memorySafe s) : memorySafe (ledgerRelease d s) := by
  grind [ledgerRelease, reserved_safe, afterRecall_safe, fail_safe, complete_safe, raiseW_safe]

theorem signStatement_safe (hd) (h : memorySafe s) : memorySafe (signStatement hd s).2 := by
  grind [signStatement, signWith_safe, bump_safe]

theorem chainBreak_safe (q) (h : memorySafe s) : memorySafe (chainBreak q s) := by
  grind [chainBreak, lgrEvt_safe, append_safe, bump_safe, setFld_safe]

theorem noteSigned_safe (q) (h : memorySafe s) : memorySafe (noteSigned q s) := by
  grind [noteSigned, frame_safe]

theorem attestWait_safe (d b) (h : memorySafe s) : memorySafe (attestWait d b s) := by
  grind [attestWait, frame_safe]

theorem attestNow_safe (d a b) (h : memorySafe s) : memorySafe (attestNow d a b s) := by
  grind [attestNow, signStatement_safe, writeDst_safe, complete_safe, append_safe, noteSigned_safe]

theorem ledgerAttest_safe (d) (h : memorySafe s) : memorySafe (ledgerAttest d s) := by
  grind [ledgerAttest, afterRecall_safe, sealBlock_safe, fail_safe, complete_safe, chainBreak_safe, attestWait_safe,
    attestNow_safe]

theorem makeCheckpoint_safe (k extra a b) (h : memorySafe s) : memorySafe (makeCheckpoint k extra a b s).1 := by
  grind [makeCheckpoint, signStatement_safe, recStore_safe, setFld_safe, noteSigned_safe, bump_safe, append_safe,
    chainBreak_safe, lgrEvt_safe]

theorem takeCheckpoint_safe (h : memorySafe s) : memorySafe (takeCheckpoint s) := by
  grind [takeCheckpoint, makeCheckpoint_safe, setFlag_safe, frame_safe]

theorem writeLgrCtl_safe (v) (h : memorySafe s) : memorySafe (writeLgrCtl v s) := by
  grind [writeLgrCtl, wrW1c_safe, wrRw_safe, commitSetup_safe]

theorem loadLgr_safe (h : memorySafe s) : memorySafe (loadLgr s) := by
  grind [loadLgr, setFld_safe]

/-! ## The generator -/

theorem noteObs_safe (o) (h : memorySafe s) : memorySafe (noteObs o s) := by
  grind [noteObs, setFld_safe, frame_safe]

theorem startSteep_safe (h : memorySafe s) : memorySafe (startSteep s) := by
  grind [startSteep, setFld_safe]

theorem getFail_safe (st w) (h : memorySafe s) : memorySafe (getFail st w s) := by
  grind [getFail, complete_safe]

theorem reseed_safe (h : memorySafe s) : memorySafe (reseed s) := by
  grind [reseed, setFld_safe, bump_safe]

theorem getOutput_safe (d) (h : memorySafe s) : memorySafe (getOutput d s).2 := by
  grind [getOutput, tookFree_safe]

theorem serveGet_safe (w) (h : memorySafe s) : memorySafe (serveGet w s) := by
  grind [serveGet, reseed_safe, getOutput_safe, countGenerate_safe, writeDst_safe, complete_safe]

theorem serveList_safe (ws) (h : memorySafe s) : memorySafe (serveList ws s) := by
  induction ws generalizing s with
  | nil => exact h
  | cons w ws ih =>
    unfold serveList
    split
    · exact ih (frame_safe h ..)
    · exact ih (serveGet_safe w h)

theorem serveWaiting_safe (h : memorySafe s) : memorySafe (serveWaiting s) := by
  grind [serveWaiting, serveList_safe, frame_safe]

theorem getUnit_safe (d) (h : memorySafe s) : memorySafe (getUnit d s) := by
  grind [getUnit, fail_safe, reserved_safe, complete_safe, getFail_safe, serveGet_safe, frame_safe]

theorem statUnit_safe (o d) (h : memorySafe s) : memorySafe (statUnit o d s) := by
  grind [statUnit, reserved_safe, noteObs_safe, writeDst_safe, complete_safe]

theorem failWaiters_safe (h : memorySafe s) : memorySafe (failWaiters s) := by
  grind [failWaiters, getFail_safe, releaseSlots_safe, fail_safe, foldl_safe, frame_safe]

theorem rngEvent_safe (kind test value) (h : memorySafe s) : memorySafe (rngEvent kind test value s) := by
  grind [rngEvent, post_safe]

theorem healthFail_safe (test value o) (h : memorySafe s) : memorySafe (healthFail test value o s) := by
  grind [healthFail, noteObs_safe, setFld_safe, bump_safe, failWaiters_safe, rngEvent_safe, append_safe]

theorem execRngFailsClear_safe (t o) (h : memorySafe s) : nextSafe (execRngFailsClear t o s) := by
  grind [execRngFailsClear, command_safe, onlyIf_safe, setFld_safe, noteObs_safe]

theorem execRngPoolRefill_safe (t) (h : memorySafe s) : nextSafe (execRngPoolRefill t s) := by
  grind [execRngPoolRefill, command_safe, onlyIf_safe, serveWaiting_safe, setFld_safe]

theorem execRngReseed_safe (t) (h : memorySafe s) : nextSafe (execRngReseed t s) := by
  grind [execRngReseed, command_safe, onlyIf_safe, serveWaiting_safe, reseed_safe]

theorem execRngEstimatorWindow_safe (t bias c1 c2 c3 c4 o) (h : memorySafe s) :
    nextSafe (execRngEstimatorWindow t bias c1 c2 c3 c4 o s) := by
  grind [execRngEstimatorWindow, command_safe, onlyIf_safe, noteObs_safe, setFld_safe, frame_safe]

theorem rngTimeout_safe (h : memorySafe s) : memorySafe (rngTimeout s) := by
  grind [rngTimeout, getFail_safe, foldl_safe, frame_safe]

/-! ## Lifecycle and firmware -/

theorem invalidateBank_safe (b) (h : memorySafe s) : memorySafe (invalidateBank b s) := by
  grind [invalidateBank, recStore_safe]

theorem setStage_safe (g) (h : memorySafe s) : memorySafe (setStage g s) := by
  grind [setStage, frame_safe]

theorem stageFails_safe (d st det) (h : memorySafe s) : memorySafe (stageFails d st det s) := by
  grind [stageFails, fail_safe, setStage_safe, invalidateBank_safe]

theorem stageChunk_safe (d hd data) (h : memorySafe s) : memorySafe (stageChunk d hd data s) := by
  grind [stageChunk, nvStore_safe, stageFails_safe, complete_safe, setStage_safe, bump_safe, recStore_safe,
    append_safe]

theorem stageChecks_safe (d data) (h : memorySafe s) : memorySafe (stageChecks d data s) := by
  grind [stageChecks, stageFails_safe, setStage_safe, invalidateBank_safe, countVerify_safe, stageChunk_safe]

theorem fwStage_safe (d) (h : memorySafe s) : memorySafe (fwStage d s) := by
  grind [fwStage, fail_safe, reserved_safe, readSrc_safe, stageChecks_safe]

theorem dropLine_safe (h : memorySafe s) : memorySafe (dropLine s) := by
  grind [dropLine, frame_safe]

theorem cutDrover_safe (h : memorySafe s) : memorySafe (cutDrover s) := by
  grind [cutDrover, dropLine_safe, frame_safe]

theorem bootBank_safe (b) (h : memorySafe s) : memorySafe (bootBank b s) := by
  grind [bootBank, cutDrover_safe, frame_safe]

theorem chooseBoot_safe (h : memorySafe s) : memorySafe (chooseBoot s) := by
  grind [chooseBoot, bootBank_safe, cutDrover_safe, frame_safe]

theorem setTrial_safe (x p) (h : memorySafe s) : memorySafe (setTrial x p s) := by
  grind [setTrial, frame_safe]

theorem fwTrial_safe (d) (h : memorySafe s) : memorySafe (fwTrial d s) := by
  grind [fwTrial, reserved_safe, bootBank_safe, setTrial_safe, fail_safe]

theorem storeBankSel_safe (b) (h : memorySafe s) : memorySafe (storeBankSel b s).1 := by
  grind [storeBankSel, recStore_safe, frame_safe]

theorem fwConfirm_safe (d) (h : memorySafe s) : memorySafe (fwConfirm d s) := by
  grind [fwConfirm, fail_safe, reserved_safe, storeBankSel_safe, tallyStep_safe, append_safe, setTrial_safe,
    complete_safe]

theorem fwRevert_safe (d) (h : memorySafe s) : memorySafe (fwRevert d s) := by
  grind [fwRevert, reserved_safe, bootBank_safe, setTrial_safe, fail_safe]

theorem dropAct_safe (h : memorySafe s) : memorySafe (dropAct s) := by
  grind [dropAct, fail_safe, frame_safe]

theorem autoRevert_safe (h : memorySafe s) : memorySafe (autoRevert s) := by
  grind [autoRevert, dropAct_safe, bump_safe, bootBank_safe, append_safe, setTrial_safe]

theorem workOutCkpts_safe (h : memorySafe s) : memorySafe (workOutCkpts s) := by
  grind [workOutCkpts, setFlag_safe, frame_safe]

theorem droverBoot_safe (h : memorySafe s) : memorySafe (droverBoot s) := by
  grind [droverBoot, workOutCkpts_safe, append_safe, invalidateBank_safe, autoRevert_safe, chooseBoot_safe,
    dropAct_safe, frame_safe]

theorem fwReady_safe (h : memorySafe s) : memorySafe (fwReady s) := by
  grind [fwReady, complete_safe, append_safe, frame_safe]

theorem execFwTrialTimeout_safe (t) (h : memorySafe s) : nextSafe (execFwTrialTimeout t s) := by
  refine command_safe _ _ (fun s hs => ?_) h
  split
  · exact onlyIf_safe _ _ (fun _ hs => autoRevert_safe hs) hs
  · exact hs

theorem resetRng_safe (h : memorySafe s) : memorySafe (resetRng s) := by
  grind [resetRng, getFail_safe, startSteep_safe, setFld_safe, clearRegList_safe, foldl_safe, frame_safe]

theorem lcyForm_safe (d k) (hk : ∀ s, memorySafe s → memorySafe (k s)) (h : memorySafe s) :
    memorySafe (lcyForm d k s) := by
  grind [lcyForm, fail_safe, reserved_safe]

theorem challengeNow_safe (d) (h : memorySafe s) : memorySafe (challengeNow d s) := by
  grind [challengeNow, drawBytes_safe, writeDst_safe, complete_safe, frame_safe]

theorem challenge_safe (d) (h : memorySafe s) : memorySafe (challenge d s) := by
  grind [challenge, lcyForm_safe, challengeNow_safe, fail_safe, frame_safe]

theorem signedRequest_safe (d op to_ extra sig k) (hk : ∀ s, memorySafe s → memorySafe (k s)) (h : memorySafe s) :
    memorySafe (signedRequest d op to_ extra sig k s) := by
  grind [signedRequest, countVerify_safe, fail_safe, bump_safe, frame_safe]

theorem endUnlock_safe (h : memorySafe s) : memorySafe (endUnlock s) := by
  grind [endUnlock, frame_safe]

theorem lcyRecord_safe (st prev) (h : memorySafe s) : memorySafe (lcyRecord st prev s) := by
  grind [lcyRecord, endUnlock_safe, append_safe]

theorem enterService_safe (h : memorySafe s) : memorySafe (enterService s) := by
  grind [enterService, lcyRecord_safe, bump_safe, frame_safe]

theorem restartService_safe (h : memorySafe s) : memorySafe (restartService s) := by
  grind [restartService, frame_safe]

theorem endService_safe (h : memorySafe s) : memorySafe (endService s) := by
  grind [endService, lcyRecord_safe, frame_safe]

theorem clearTestSrc_safe (h : memorySafe s) : memorySafe (clearTestSrc s) := by
  grind [clearTestSrc, setFld_safe]

theorem clearLedger_safe (h : memorySafe s) : memorySafe (clearLedger s) := by
  have h0 := drainAll_safe h
  obtain ⟨-, -, -, hn, -, -⟩ := id h0
  obtain ⟨hh, hd, hm, -, hr, hc⟩ := recStore_safe recW (leBytes 4 0) h0
  exact ⟨hh, hd, hm, swfFrom_filter _ _ hn, hr, swfFrom_filter _ _ hc⟩

theorem raiseState_safe (d n prev k) (hk : ∀ s, memorySafe s → memorySafe (k s)) (h : memorySafe s) :
    memorySafe (raiseState d n prev k s) := by
  grind [raiseState, tallyStep_safe, complete_safe]

theorem lcyDone_safe (d prev) (h : memorySafe s) : memorySafe (lcyDone d prev s) := by
  grind [lcyDone, complete_safe]

theorem provision_safe (d) (h : memorySafe s) : memorySafe (provision d s) := by
  grind [provision, tallyStep_safe, clearLedger_safe, clearTestSrc_safe, lcyDone_safe, lcyRecord_safe, append_safe,
    resetRng_safe, complete_safe]

theorem finalCheckpoint_safe (h : memorySafe s) : memorySafe (finalCheckpoint s).1 := by
  grind [finalCheckpoint, signStatement_safe, recStore_safe, setFld_safe, noteSigned_safe, bump_safe, lgrEvt_safe]

theorem withdrawKeys_safe (h : memorySafe s) : memorySafe (withdrawKeys s) := by
  grind [withdrawKeys, wipeCaddy_safe, recErase_safe, syncPair_safe, syncFlock_safe, setFlag_safe, frame_safe]

theorem finishRetire_safe (h : memorySafe s) : memorySafe (finishRetire s) := by
  grind [finishRetire, withdrawKeys_safe, finalCheckpoint_safe]

theorem closeLedger_safe (h : memorySafe s) : memorySafe (closeLedger s) := by
  grind [closeLedger, setFlag_safe, frame_safe]

theorem retireSteps_safe (prev) (h : memorySafe s) : memorySafe (retireSteps prev s) := by
  grind [retireSteps, finishRetire_safe, closeLedger_safe, sealBlock_safe, lcyRecord_safe, endPermission_safe]

theorem retire_safe (d prev) (h : memorySafe s) : memorySafe (retire d prev s) := by
  grind [retire, clearTestSrc_safe, raiseState_safe, lcyDone_safe, retireSteps_safe, resetRng_safe]

theorem advance_safe (d) (h : memorySafe s) : memorySafe (advance d s) := by
  grind [advance, fail_safe, reserved_safe, readSrc_safe, signedRequest_safe, lcyDone_safe, restartService_safe,
    provision_safe, raiseState_safe, lcyRecord_safe, enterService_safe, endService_safe, retire_safe]

theorem storeFleet_safe (d key) (h : memorySafe s) : memorySafe (storeFleet d key s) := by
  grind [storeFleet, fail_safe, recStore_safe, complete_safe]

theorem fleetUnit_safe (d) (h : memorySafe s) : memorySafe (fleetUnit d s) := by
  grind [fleetUnit, lcyForm_safe, fail_safe, readSrc_safe, storeFleet_safe, signedRequest_safe]

theorem otpKUnit_safe (d) (h : memorySafe s) : memorySafe (otpKUnit d s) := by
  grind [otpKUnit, lcyForm_safe, readSrc_safe, fail_safe, programOtp_safe, complete_safe]

theorem execServiceTimeout_safe (t) (h : memorySafe s) : nextSafe (execServiceTimeout t s) := by
  grind [execServiceTimeout, command_safe, onlyIf_safe, endService_safe]

theorem execLifecycleNonceExpiry_safe (t) (h : memorySafe s) : nextSafe (execLifecycleNonceExpiry t s) := by
  refine command_safe _ _ (fun s hs => ?_) h
  split
  · exact onlyIf_safe _ _ (fun _ hs => frame_safe hs ..) hs
  · exact hs

theorem resumeSteep_safe (h : memorySafe s) : memorySafe (resumeSteep s) := by
  grind [resumeSteep, finishRetire_safe, signUnit_safe, ledgerAttest_safe, challenge_safe, foldl_safe, frame_safe]

theorem steepPass_safe (o) (h : memorySafe s) : memorySafe (steepPass o s) := by
  grind [steepPass, setFld_safe, bump_safe, noteObs_safe, resumeSteep_safe, serveWaiting_safe]

theorem writeRngCtl_safe (v) (h : memorySafe s) : memorySafe (writeRngCtl v s) := by
  grind [writeRngCtl, setFld_safe, startSteep_safe, clearTestSrc_safe]

theorem writeLcyCtl_safe (v) (h : memorySafe s) : memorySafe (writeLcyCtl v s) := by
  grind [writeLcyCtl, wrW1c_safe, wrRw_safe, commitSetup_safe]

end

end Sys2Proof.Machine
end

section
/-! SUPPORT. Every step keeps the memories safe, part 8: load, resets and power. -/
namespace Sys2Proof.Machine

section
variable {s : State}

/-! ## Recall and load -/

theorem setPointers_safe (tail) (h : memorySafe s) : memorySafe (setPointers tail s) := by
  grind [setPointers, frame_safe]

theorem loadMarks_safe (h : memorySafe s) : memorySafe (loadMarks s) := by
  grind [loadMarks, frame_safe]

theorem restoreWall_safe (tail) (h : memorySafe s) : memorySafe (restoreWall tail s) := by
  grind [restoreWall, setFld_safe, frame_safe]

theorem sealedLate_safe (kept discarded q) (h : memorySafe s) : memorySafe (sealedLate kept discarded q s) := by
  grind [sealedLate, append_safe, setFld_safe, bump_safe, lgrEvt_safe]

theorem repairTail_safe (h : memorySafe s) : memorySafe (repairTail s) := by
  have h1 := sealBlock_safe padLate h
  have h2 := sealBlock_safe padLate (openBlock_safe s.clk.wall.toNat h)
  have h3 : memorySafe (if positionClear (lgrTail s + 1) s then s else preClear s) := ite_safe h (preClear_safe h)
  unfold repairTail
  cases firstBad (newestSealed s) s with
  | none => cases s.lgr.openRecs with
    | none => exact ite_safe h (ite_safe (sealedLate_safe _ _ _ h2) h3)
    | some k => exact sealedLate_safe _ _ _ h1
  | some q => cases s.lgr.openRecs with
    | none =>
      exact ite_safe (chainBreak_safe q h)
        (ite_safe (sealedLate_safe _ _ _ (chainBreak_safe q h2)) (chainBreak_safe q h3))
    | some k => exact sealedLate_safe _ _ _ (chainBreak_safe q h1)

theorem writeBuffered_safe (h : memorySafe s) : memorySafe (writeBuffered s) := by
  grind [writeBuffered, writeRecord_safe, writeHost_safe, ledgerAppend_safe, foldl_safe, frame_safe]

theorem recallLedger_safe (h : memorySafe s) : memorySafe (recallLedger s) := by
  grind [recallLedger, loadMarks_safe, restoreWall_safe, setPointers_safe, writeBuffered_safe, append_safe,
    repairTail_safe, nvFrame_safe]

theorem recallRecords_safe (h : memorySafe s) : memorySafe (recallRecords s) := by
  grind [recallRecords, repairRec_safe, foldl_safe, nvFrame_safe]

theorem recallAll_safe (h : memorySafe s) : memorySafe (recallAll s) := by
  grind [recallAll, recallRecords_safe, recallLedger_safe]

theorem loadWords_safe (b os) (h : memorySafe s) : memorySafe (loadWords b os s) := by
  induction os generalizing s b with
  | nil => exact h
  | cons o os ih => exact ih _ (regSet_safe o _ h)

theorem loadSetup_safe (id offs valid err) (h : memorySafe s) : memorySafe (loadSetup id offs valid err s) := by
  grind [loadSetup, setFld_safe, loadWords_safe]

theorem loadTree_safe (h : memorySafe s) : memorySafe (loadTree s) := by
  grind [loadTree, setFld_safe, frame_safe]

theorem loadUhf_safe (h : memorySafe s) : memorySafe (loadUhf s) := by
  grind [loadUhf, loadSetup_safe, frame_safe]

theorem loadUwb_safe (h : memorySafe s) : memorySafe (loadUwb s) := by
  grind [loadUwb, loadSetup_safe, setFld_safe]

theorem loadBanks_safe (h : memorySafe s) : memorySafe (loadBanks s) := by
  grind [loadBanks, syncVrd_safe, frame_safe]

theorem loadPair_safe (h : memorySafe s) : memorySafe (loadPair s) := by
  grind [loadPair, syncPair_safe, frame_safe]

theorem loadVrdCry_safe (ptimeToo) (h : memorySafe s) : memorySafe (loadVrdCry ptimeToo s) := by
  grind [loadVrdCry, loadPair_safe, loadPin_safe, loadFlock_safe, loadBanks_safe]

theorem loadPinf_safe (h : memorySafe s) : memorySafe (loadPinf s) := by
  grind [loadPinf, setFld_safe, drivePins_safe, setPinf_safe, foldl_safe]

theorem loadLcy_safe (h : memorySafe s) : memorySafe (loadLcy s) := by
  grind [loadLcy, setFld_safe]

theorem loadMon_safe (h : memorySafe s) : memorySafe (loadMon s) := by
  grind [loadMon, loadWords_safe]

theorem loadAon_safe (h : memorySafe s) : memorySafe (loadAon s) := by
  grind [loadAon, loadLcy_safe, loadPinf_safe, loadSched_safe, loadHint_safe]

theorem loadUnits_safe (h : memorySafe s) : memorySafe (loadUnits s) := by
  grind [loadUnits, loadMon_safe, loadLgr_safe, loadSetup_safe, loadVrdCry_safe, loadUwb_safe, loadUhf_safe,
    loadTree_safe]

theorem finishTransition_safe (h : memorySafe s) : memorySafe (finishTransition s) := by
  grind [finishTransition, append_safe, withdrawKeys_safe, finishRetire_safe, closeLedger_safe, sealBlock_safe]

theorem endTrial_safe (h : memorySafe s) : memorySafe (endTrial s) := by
  grind [endTrial, append_safe, setTrial_safe, bump_safe, dropAct_safe]

theorem bootDrover_safe (h : memorySafe s) : memorySafe (bootDrover s) := by
  grind [bootDrover, chooseBoot_safe, frame_safe]

theorem startAutonomous_safe (h : memorySafe s) : memorySafe (startAutonomous s) := by
  grind [startAutonomous, startSched_safe]

theorem loadConfig_safe (h : memorySafe s) : memorySafe (loadConfig s) := by
  grind [loadConfig, endTrial_safe, finishTransition_safe, loadUnits_safe, loadAon_safe, keepStandby_safe,
    startAutonomous_safe, setFlag_safe, workOutCkpts_safe, bootDrover_safe, frame_safe]

/-! ## Resets -/

theorem keepRegs_safe (keep) (h : memorySafe s) : memorySafe (keepRegs keep s) :=
  frame_safe (filterRegs_safe _ h) ..

theorem keepLatch_safe (latched) (h : memorySafe s) : memorySafe (keepLatch latched s) := by
  grind [keepLatch, setFld_safe]

theorem safePads_safe (h : memorySafe s) : memorySafe (safePads s) := by
  grind [safePads, frame_safe]

theorem transmittersOff_safe (h : memorySafe s) : memorySafe (transmittersOff s) := by
  grind [transmittersOff, frame_safe]

theorem endFlights_safe (p) (h : memorySafe s) : memorySafe (endFlights p s) := by
  grind [endFlights, releaseSlots_safe, fail_safe, foldl_safe]

theorem endPoll_safe (h : memorySafe s) : memorySafe (endPoll s) := by
  grind [endPoll, abortLf_safe]

theorem resetLfs_safe (h : memorySafe s) : memorySafe (resetLfs s) := by
  grind [resetLfs, abortLf_safe, resetMembers_safe, safePads_safe, settleLfCals_safe, endFlights_safe, frame_safe]

theorem resetLfa_safe (h : memorySafe s) : memorySafe (resetLfa s) := by
  grind [resetLfa, abortLf_safe, resetMembers_safe]

theorem resetUhf_safe (h : memorySafe s) : memorySafe (resetUhf s) := by
  grind [resetUhf, endPoll_safe, transmittersOff_safe, endFlights_safe, frame_safe]

theorem resetUwb_safe (h : memorySafe s) : memorySafe (resetUwb s) := by
  grind [resetUwb, endPoll_safe, resetMembers_safe, endFlights_safe, frame_safe]

theorem resetVrdCry_safe (h : memorySafe s) : memorySafe (resetVrdCry s) := by
  grind [resetVrdCry, abortLf_safe, endFlights_safe, wipeCaddy_safe, loadVrdCry_safe, activateFlock_safe, frame_safe]

theorem resetCan_safe (h : memorySafe s) : memorySafe (resetCan s) := by
  grind [resetCan, regSet_safe, frame_safe]

theorem resetFabric_safe (h : memorySafe s) : memorySafe (resetFabric s) := by
  grind [resetFabric, settleLfCals_safe, endFlights_safe, frame_safe]

theorem startRecall_safe (h : memorySafe s) : memorySafe (startRecall s) := by
  grind [startRecall, clearRegList_safe, nvFrame_safe]

theorem resetNvs_safe (h : memorySafe s) : memorySafe (resetNvs s) := by
  grind [resetNvs, endFlights_safe, startRecall_safe, drainAll_safe]

theorem resetSlow_safe (h : memorySafe s) : memorySafe (resetSlow s) := by
  grind [resetSlow, grantFalls_safe, endUnlock_safe, dropLine_safe, drivePins_safe, frame_safe]

theorem endDrover_safe (h : memorySafe s) : memorySafe (endDrover s) := by
  grind [endDrover, fail_safe, unblockDrover_safe, setFld_safe, setFlag_safe, foldl_safe, frame_safe]

theorem resetDrover_safe (h : memorySafe s) : memorySafe (resetDrover s) := by
  have h1 := endDrover_safe h
  unfold resetDrover
  refine ite_safe (autoRevert_safe h1) ?_
  split
  · exact cutDrover_safe h1
  · exact chooseBoot_safe h1
  · exact bootBank_safe _ h1

theorem resetLink_safe (flr) (h : memorySafe s) : memorySafe (resetLink flr s) := by
  grind [resetLink, setFlag_safe, clearRegs_safe, regSet_safe, frame_safe]

theorem resetRecord_safe (h : memorySafe s) : memorySafe (resetRecord s) := by
  grind [resetRecord, append_safe]

theorem hostLinkReset_safe (flr) (h : memorySafe s) : memorySafe (hostLinkReset flr s) := by
  grind [hostLinkReset, resetRecord_safe, setFld_safe, resetLink_safe]

theorem execPerstNAssert_safe (t flr) (h : memorySafe s) : nextSafe (execPerstNAssert t flr s) := by
  grind [execPerstNAssert, outerCommand_safe, resetRecord_safe, setFld_safe, hostLinkReset_safe, onlyIf_safe,
    tlpWake_safe, frame_safe]

theorem execPerstNDeassert_safe (t) (h : memorySafe s) : nextSafe (execPerstNDeassert t s) := by
  grind [execPerstNDeassert, outerCommand_safe, onlyIf_safe, wakeExit_safe, frame_safe]

theorem islandEffect_safe (i) (h : memorySafe s) : memorySafe (islandEffect i s) := by
  unfold islandEffect
  grind [resetDrover_safe, resetFabric_safe, resetVrdCry_safe, resetLfs_safe, resetLfa_safe, resetUhf_safe,
    resetUwb_safe, resetLink_safe, resetNvs_safe, resetCan_safe, resetSlow_safe, resetRng_safe, frame_safe]

theorem islandReset_safe (i cause) (h : memorySafe s) : memorySafe (islandReset i cause s) := by
  grind [islandReset, islandEffect_safe, append_safe, postAt_safe]

theorem writeIslandRst_safe (v) (h : memorySafe s) : memorySafe (writeIslandRst v s) := by
  grind [writeIslandRst, islandReset_safe, setFld_safe, foldl_safe]

theorem execDroverWatchdogExpiry_safe (t) (h : memorySafe s) : nextSafe (execDroverWatchdogExpiry t s) := by
  grind [execDroverWatchdogExpiry, command_safe, onlyIf_safe, islandReset_safe, setFld_safe, bump_safe]

theorem execResetNLow_safe (t) (h : memorySafe s) : nextSafe (execResetNLow t s) := by
  grind [execResetNLow, outerCommand_safe, safePads_safe, frame_safe]

theorem execResetNPulseRejected_safe (t) (h : memorySafe s) : nextSafe (execResetNPulseRejected t s) := by
  grind [execResetNPulseRejected, outerCommand_safe, onlyIf_safe, islandReset_safe, frame_safe]

theorem clearUnits_safe (h : memorySafe s) : memorySafe (clearUnits s) :=
  nvFrame_safe h ..

theorem systemReset_safe (h : memorySafe s) : memorySafe (systemReset s) := by
  grind [systemReset, setFld_safe, clearUnits_safe, keepRegs_safe, frame_safe]

theorem systemResetFor_safe (cause) (h : memorySafe s) : memorySafe (systemResetFor cause s) := by
  grind [systemResetFor, systemReset_safe, drainAll_safe, setFld_safe]

/-- The register file of a power-on reset is in canonical form on every part. -/
theorem swf_porRegs (p : Part) : swf (regReset p) [(PWR_RST_CAUSE.reg, 1)] = true := by
  cases p <;> decide

theorem powerOnReset_safe (h : memorySafe s) : memorySafe (powerOnReset s) := by
  obtain ⟨hh, hd, hm, hn, -, hc⟩ := clearUnits_safe (drainAll_safe h)
  exact ⟨hh, hd, hm, hn, swf_porRegs _, hc⟩

theorem porRelease_safe (straps testN) (h : memorySafe s) : memorySafe (porRelease straps testN s) := by
  grind [porRelease, setFld_safe, frame_safe]

theorem retiredPins_safe (h : memorySafe s) : memorySafe (retiredPins s) := by
  grind [retiredPins, onlyIf_safe, regSet_safe]

theorem releaseReset_safe (vhold vaon) (h : memorySafe s) : memorySafe (releaseReset vhold vaon s) := by
  grind [releaseReset, startSteep_safe, measureHold_safe, powerAll_safe, retiredPins_safe, frame_safe]

theorem brownOut_safe (written torn) (h : memorySafe s) : memorySafe (brownOut written torn s) := by
  grind [brownOut, emergencyDrain_safe, transmittersOff_safe, safePads_safe, systemReset_safe, setFld_safe, bump_safe]

theorem islandHang_safe (i) (h : memorySafe s) : memorySafe (islandHang i s) := by
  grind [islandHang, setFld_safe, systemReset_safe, drainAll_safe, islandReset_safe, frame_safe]

theorem execIslandHang_safe (t isl) (h : memorySafe s) : nextSafe (execIslandHang t isl s) := by
  grind [execIslandHang, command_safe, onlyIf_safe, islandHang_safe]

/-! ## Clock loss, Fallow and wakes -/

theorem noteFreq_safe (freq) (h : memorySafe s) : memorySafe (noteFreq freq s) := by
  grind [noteFreq, setFld_safe, frame_safe]

theorem settleMeas_safe (h : memorySafe s) : memorySafe (settleMeas s) := by
  grind [settleMeas, setFld_safe, frame_safe]

theorem alignEven_safe (c) (h : memorySafe s) : memorySafe (alignEven c s) := by
  grind [alignEven, passTicks_safe]

theorem takeFast_safe (c) (h : memorySafe s) : memorySafe (takeFast c s) := by
  grind [takeFast, alignEven_safe, frame_safe]

theorem creditWatch_safe (c) (h : memorySafe s) : memorySafe (creditWatch c s) := by
  unfold creditWatch
  grind [passTicks_safe, frame_safe]

theorem takeInvalid_safe (h : memorySafe s) : memorySafe (takeInvalid s) := by
  grind [takeInvalid, frame_safe]

theorem qualifiedWatch_safe (c) (h : memorySafe s) : memorySafe (qualifiedWatch c s) := by
  grind [qualifiedWatch, creditWatch_safe, takeFast_safe, exitRun_safe, runHeld_safe, frame_safe]

theorem refclkQualified_safe (freq) (h : memorySafe s) : memorySafe (refclkQualified freq s) := by
  grind [refclkQualified, noteFreq_safe, takeInvalid_safe, qualifiedWatch_safe, takeFast_safe]

theorem execQualificationCountStart_safe (t) (h : memorySafe s) : nextSafe (execQualificationCountStart t s) := by
  grind [execQualificationCountStart, outerCommand_safe, onlyIf_safe, frame_safe]

theorem staticStart_safe (h : memorySafe s) : memorySafe (staticStart s) := by
  grind [staticStart, setStarten_safe, complete_safe, foldl_safe, frame_safe]

theorem noteCheck_safe (why) (h : memorySafe s) : memorySafe (noteCheck why s) := by
  unfold noteCheck
  grind [settleMeas_safe, setFld_safe, bump_safe, noteFreq_safe, frame_safe]

theorem refclkStop_safe (why) (h : memorySafe s) : memorySafe (refclkStop why s) := by
  grind [refclkStop, setReg64_safe, bump_safe, noteCheck_safe, endPermission_safe, staticStart_safe, frame_safe]

theorem breakCount_safe (h : memorySafe s) : memorySafe (breakCount s) := by
  grind [breakCount, frame_safe]

theorem execRefclkStop_safe (t why) (h : memorySafe s) : nextSafe (execRefclkStop t why s) := by
  grind [execRefclkStop, outerCommand_safe, breakCount_safe, onlyIf_safe, refclkStop_safe]

theorem clockLoss_safe (why) (h : memorySafe s) : memorySafe (clockLoss why s) := by
  grind [clockLoss, setFld_safe, bump_safe, noteCheck_safe, setReg64_safe, transmittersOff_safe, endPermission_safe,
    setStarten_safe, safePads_safe, drainAll_safe, append_safe, abortEntry_safe, nvFrame_safe]

theorem execClockLoss_safe (t why) (h : memorySafe s) : nextSafe (execClockLoss t why s) := by
  grind [execClockLoss, outerCommand_safe, breakCount_safe, onlyIf_safe, clockLoss_safe]

theorem restartUnits_safe (keep) (h : memorySafe s) : memorySafe (restartUnits keep s) := by
  grind [restartUnits, keepLatch_safe, wipeCaddy_safe, clearUnits_safe, keepRegs_safe, powerAll_safe, setPState_safe,
    frame_safe]

theorem endLost_safe (h : memorySafe s) : memorySafe (endLost s) := by
  grind [endLost, fail_safe, unblockDrover_safe, foldl_safe, frame_safe]

theorem clockRecovery_safe (c) (h : memorySafe s) : memorySafe (clockRecovery c s) := by
  grind [clockRecovery, takeFast_safe, append_safe, endLost_safe, endService_safe, resetRecord_safe, setFld_safe,
    setFlag_safe, restartUnits_safe, startSteep_safe, drivePins_safe, runHeld_safe, post_safe, frame_safe]

theorem execClockLossRecovery_safe (t freq) (h : memorySafe s) : nextSafe (execClockLossRecovery t freq s) := by
  grind [execClockLossRecovery, outerCommand_safe, onlyIf_safe, clockRecovery_safe, noteFreq_safe]

theorem execFallowEntry_safe (t) (h : memorySafe s) : nextSafe (execFallowEntry t s) := by
  grind [execFallowEntry, command_safe, onlyIf_safe, enter_safe, drainAll_safe, storeWall_safe, storePin_safe,
    sealBlock_safe, append_safe, endService_safe]

theorem execFallowEdgeDetectorArm_safe (t) (h : memorySafe s) : nextSafe (execFallowEdgeDetectorArm t s) := by
  grind [execFallowEdgeDetectorArm, command_safe, onlyIf_safe, frame_safe]

theorem fallowExit_safe (w c) (h : memorySafe s) : memorySafe (fallowExit w c s) := by
  unfold fallowExit
  grind [restartUnits_safe, takeFast_safe, setFld_safe, setSrc_safe, loadConfig_safe, recallAll_safe,
    startSteep_safe, append_safe, droverBoot_safe, wakeAct_safe, noteWakeSeen_safe, seeActive_safe, frame_safe]

theorem execFallowExit_safe (t w freq) (h : memorySafe s) : nextSafe (execFallowExit t w freq s) := by
  grind [execFallowExit, command_safe, onlyIf_safe, fallowExit_safe, noteFreq_safe]

theorem execCanWake_safe (t) (h : memorySafe s) : nextSafe (execCanWake t s) := by
  grind [execCanWake, command_safe, exitRun_safe, frame_safe]

end

end Sys2Proof.Machine
end

section
/-! SUPPORT. Every step keeps the memories safe, part 9: register accesses, the monitor and the step. -/
namespace Sys2Proof.Machine

section
variable {s : State}

/-! ## Register writes -/

theorem clearFields_safe (fs) (h : memorySafe s) : memorySafe (clearFields fs s) := by
  grind [clearFields, setFld_safe, foldl_safe]

theorem writeClr_safe (off v) (h : memorySafe s) : memorySafe (writeClr off v s) := by
  grind [writeClr, clearFields_safe, foldl_safe]

theorem writeRows_safe (off v) (h : memorySafe s) : memorySafe (writeRows off v s) := by
  grind [writeRows, setFld_safe, holdWrite_safe]

theorem writeSense_safe (v) (h : memorySafe s) : memorySafe (writeSense v s) := by
  grind [writeSense, setFld_safe, writeRows_safe]

theorem writeShadow_safe (off v) (h : memorySafe s) : memorySafe (writeShadow off v s) := by
  grind [writeShadow, setFld_safe, frame_safe]

theorem writeStaging_safe (off v) (h : memorySafe s) : memorySafe (writeStaging off v s) := by
  grind [writeStaging, frame_safe]

theorem writeFldCtl_safe (v) (h : memorySafe s) : memorySafe (writeFldCtl v s) := by
  grind [writeFldCtl, applyTree_safe, commitTree_safe, discardTree_safe]

theorem writeVrdCtl_safe (v) (h : memorySafe s) : memorySafe (writeVrdCtl v s) := by
  grind [writeVrdCtl, activate_safe, commitSetup_safe]

theorem storeMon_safe (h : memorySafe s) : memorySafe (storeMon s) := by
  grind [storeMon, recStore_safe]

theorem writeActs_safe (off v) (h : memorySafe s) : memorySafe (writeActs off v s) := by
  unfold writeActs
  exact ite_safe (ite_safe (commitLfe_safe h) h) <| ite_safe (writeFldCtl_safe v h) <|
    ite_safe (ite_safe (commitUhf_safe h) h) <| ite_safe (ite_safe (commitUwb_safe h) h) <|
    ite_safe (writeVrdCtl_safe v h) <| ite_safe (ite_safe (commitSetup_safe _ _ _ _ h) h) <|
    ite_safe (ite_safe (endPermission_safe _ _ h) h) <| ite_safe (ite_safe (commitSetup_safe _ _ _ _ h) h) <|
    ite_safe (ite_safe (commitSetup_safe _ _ _ _ h) h) <| ite_safe (storeMon_safe h) h

theorem writePlain_safe (off v) (h : memorySafe s) : memorySafe (writePlain off v s) := by
  grind [writePlain, writeActs_safe, writeClr_safe, writeRows_safe, wrW1cs_safe]

theorem writeMsix_safe (o v) (h : memorySafe s) : memorySafe (writeMsix o v s) := by
  grind [writeMsix, maskVector_safe, frame_safe]

theorem writeBar2_safe (o v) (h : memorySafe s) : memorySafe (writeBar2 o v s) := by
  grind [writeBar2, sqTail_safe, cqHead_safe, writeMsix_safe]

theorem barStore_safe (off v) (h : memorySafe s) : memorySafe (barStore off v s) := by
  unfold barStore
  exact ite_safe (writeBar2_safe _ v h) <|
    ite_safe (ite_safe (writeQpCfg_safe _ v h) <| ite_safe (ite_safe (cfgViol_safe h) h)
      (writeRingBase_safe _ _ v h)) <|
    ite_safe (writeShadow_safe off v h) <| ite_safe (writeSchedCtl_safe v h) <| ite_safe (writeSched_safe _ v h) <|
    ite_safe (writeIslandRst_safe v h) <| ite_safe (writeSense_safe v h) <| ite_safe (writeStaging_safe off v h) <|
    ite_safe h <| ite_safe (writeRngCtl_safe v h) <| ite_safe (writeLgrCtl_safe v h) <|
    ite_safe (writePinf_safe _ v h) <| ite_safe (writeLcyCtl_safe v h) (writePlain_safe off v h)

theorem barWrite_safe (off v) (h : memorySafe s) : memorySafe (barWrite off v s) := by
  grind [barWrite, barStore_safe, frame_safe]

theorem regWrite_safe (t off v) (h : memorySafe s) : nextSafe (regWrite t off v s) := by
  grind [regWrite, command_safe, onlyIf_safe, barWrite_safe, tlpWake_safe]

theorem execRegisterWrite_safe (t a v) (h : memorySafe s) : nextSafe (execRegisterWrite t a v s) := by
  grind [execRegisterWrite, command_safe, onlyIf_safe, barWrite_safe, tlpWake_safe]

theorem execQpEnable_safe (t n v) (h : memorySafe s) : nextSafe (execQpEnable t n v s) := by
  grind [execQpEnable, command_safe, onlyIf_safe, writeQpCfg_safe, tlpWake_safe]

theorem execQpDisable_safe (t n v) (h : memorySafe s) : nextSafe (execQpDisable t n v s) := by
  grind [execQpDisable, command_safe, onlyIf_safe, writeQpCfg_safe, tlpWake_safe]

theorem execClkShadowWrite_safe (t off v) (h : memorySafe s) : nextSafe (execClkShadowWrite t off v s) := by
  grind [execClkShadowWrite, regWrite_safe, command_safe]

theorem execPwrSchedEnable_safe (t off v) (h : memorySafe s) : nextSafe (execPwrSchedEnable t off v s) := by
  grind [execPwrSchedEnable, regWrite_safe, command_safe]

theorem execTmrPinfWrite_safe (t n v) (h : memorySafe s) : nextSafe (execTmrPinfWrite t n v s) := by
  grind [execTmrPinfWrite, command_safe, onlyIf_safe, writePinf_safe, tlpWake_safe]

/-! ## Register reads -/

theorem barLatch_safe (off) (h : memorySafe s) : memorySafe (barLatch off s) := by
  grind [barLatch, frame_safe]

theorem barReads_safe (n off) (h : memorySafe s) : memorySafe (barReads n off s).2 := by
  induction n generalizing s off with
  | zero => exact h
  | succ n ih => exact ih _ (barLatch_safe off h)

/-! ## The monitor -/

theorem badArg_safe (h : memorySafe s) : memorySafe (badArg s) := by
  grind [badArg, answer_safe]

theorem noAccess_safe (h : memorySafe s) : memorySafe (noAccess s) := by
  grind [noAccess, answer_safe]

theorem monFails_safe (st) (h : memorySafe s) : memorySafe (monFails st s) := by
  grind [monFails, answer_safe, bump_safe]

theorem serveLine_safe (k) (hk : ∀ s, memorySafe s → memorySafe (k s)) (h : memorySafe s) :
    memorySafe (serveLine k s) := by
  grind [serveLine, onlyIf_safe, bump_safe, frame_safe]

theorem lockedLine_safe (k) (hk : ∀ s, memorySafe s → memorySafe (k s)) (h : memorySafe s) :
    memorySafe (lockedLine k s) := by
  grind [lockedLine, serveLine_safe, noAccess_safe]

theorem execMonInfo_safe (t) (h : memorySafe s) : nextSafe (execMonInfo t s) := by
  grind [execMonInfo, command_safe, serveLine_safe, answer_safe]

theorem monRd_safe (addr count) (h : memorySafe s) : memorySafe (monRd addr count s) := by
  grind [monRd, badArg_safe, barReads_safe, answer_safe]

theorem execMonRd_safe (t addr count) (h : memorySafe s) : nextSafe (execMonRd t addr count s) := by
  grind [execMonRd, command_safe, lockedLine_safe, monRd_safe]

theorem monWr_safe (addr value) (h : memorySafe s) : memorySafe (monWr addr value s) := by
  grind [monWr, badArg_safe, noAccess_safe, answer_safe, barWrite_safe]

theorem execMonWr_safe (t addr value) (h : memorySafe s) : nextSafe (execMonWr t addr value s) := by
  grind [execMonWr, command_safe, lockedLine_safe, monWr_safe]

theorem monBuf_safe (off bs) (h : memorySafe s) : memorySafe (monBuf off bs s) := by
  unfold monBuf
  split
  · exact badArg_safe h
  · split
    · exact answer_safe _ h
    · exact answer_safe _ (monMem_safe off bs h)

theorem execMonBuf_safe (t off bs) (h : memorySafe s) : nextSafe (execMonBuf t off bs s) := by
  grind [execMonBuf, command_safe, lockedLine_safe, monBuf_safe]

theorem monDesc_safe (bs) (h : memorySafe s) : memorySafe (monDesc bs s) := by
  grind [monDesc, badArg_safe, exitRun_safe, droverTurn_safe, complete_safe, fail_safe, enterFlight_safe, frame_safe]

theorem execMonDesc_safe (t bs) (h : memorySafe s) : nextSafe (execMonDesc t bs s) := by
  grind [execMonDesc, command_safe, lockedLine_safe, monDesc_safe]

theorem monFolds_safe (node) (h : memorySafe s) : memorySafe (monFolds node s) := by
  unfold monFolds
  grind [answer_safe, bump_safe, monFails_safe, addFld_safe, frame_safe]

theorem execMonFolds_safe (t node) (h : memorySafe s) : nextSafe (execMonFolds t node s) := by
  grind [execMonFolds, command_safe, lockedLine_safe, monFolds_safe]

theorem monLedger_safe (q count) (h : memorySafe s) : memorySafe (monLedger q count s) := by
  grind [monLedger, badArg_safe, monFails_safe, answer_safe, countBlocks_safe]

theorem execMonLedger_safe (t q count) (h : memorySafe s) : nextSafe (execMonLedger t q count s) := by
  grind [execMonLedger, command_safe, lockedLine_safe, monLedger_safe]

theorem monRng_safe (o) (h : memorySafe s) : memorySafe (monRng o s) := by
  grind [monRng, noteObs_safe, answer_safe]

theorem execMonRng_safe (t o) (h : memorySafe s) : nextSafe (execMonRng t o s) := by
  grind [execMonRng, command_safe, lockedLine_safe, monRng_safe]

theorem execMonTb_safe (t) (h : memorySafe s) : nextSafe (execMonTb t s) := by
  grind [execMonTb, command_safe, serveLine_safe, answer_safe]

theorem execMonEvt_safe (t on) (h : memorySafe s) : nextSafe (execMonEvt t on s) := by
  grind [execMonEvt, command_safe, lockedLine_safe, answer_safe, setFlag_safe]

theorem monBaud_safe (code) (h : memorySafe s) : memorySafe (monBaud code s) := by
  grind [monBaud, badArg_safe, storeMon_safe, setFld_safe, answer_safe]

theorem execMonBaud_safe (t code) (h : memorySafe s) : nextSafe (execMonBaud t code s) := by
  grind [execMonBaud, command_safe, lockedLine_safe, monBaud_safe]

theorem monNonce_safe (h : memorySafe s) : memorySafe (monNonce s) := by
  grind [monNonce, noAccess_safe, monFails_safe, drawBytes_safe, answer_safe, frame_safe]

theorem execMonUnlockNonce_safe (t) (h : memorySafe s) : nextSafe (execMonUnlockNonce t s) := by
  grind [execMonUnlockNonce, command_safe, serveLine_safe, monNonce_safe]

theorem unlockFails_safe (h : memorySafe s) : memorySafe (unlockFails s) := by
  grind [unlockFails, bump_safe, answer_safe, frame_safe]

theorem unlockPasses_safe (h : memorySafe s) : memorySafe (unlockPasses s) := by
  grind [unlockPasses, answer_safe, bump_safe, frame_safe]

theorem monUnlock_safe (sig) (h : memorySafe s) : memorySafe (monUnlock sig s) := by
  grind [monUnlock, badArg_safe, noAccess_safe, countVerify_safe, append_safe, unlockPasses_safe, unlockFails_safe,
    frame_safe]

theorem execMonUnlock_safe (t sig) (h : memorySafe s) : nextSafe (execMonUnlock t sig s) := by
  grind [execMonUnlock, command_safe, serveLine_safe, monUnlock_safe]

theorem execMonLock_safe (t) (h : memorySafe s) : nextSafe (execMonLock t s) := by
  grind [execMonLock, command_safe, serveLine_safe, answer_safe, endUnlock_safe]

theorem execMonIdleTimeout_safe (t) (h : memorySafe s) : nextSafe (execMonIdleTimeout t s) :=
  command_safe _ _ (fun _ hs => onlyIf_safe _ _ (fun _ hs => endUnlock_safe hs) hs) h

theorem endLockout_safe (h : memorySafe s) : memorySafe (endLockout s) := by
  grind [endLockout, frame_safe]

theorem execMonLockoutEnd_safe (t) (h : memorySafe s) : nextSafe (execMonLockoutEnd t s) := by
  refine command_safe _ _ (fun s hs => ?_) h
  split
  · exact onlyIf_safe _ _ (fun _ hs => endLockout_safe hs) hs
  · exact hs

theorem execMonUnknownCommand_safe (t) (h : memorySafe s) : nextSafe (execMonUnknownCommand t s) := by
  grind [execMonUnknownCommand, command_safe, serveLine_safe, answer_safe]

/-! ## The step -/

theorem exec_safe (i) (h : memorySafe s) : nextSafe (exec i s) := by
  cases i with
  | nopFence _ _ => exact descCommand_safe _ _ _ (fun _ _ hs => nopUnit_safe _ hs) h
  | powerHint _ _ => exact descCommand_safe _ _ _ (fun _ _ hs => hintUnit_safe _ hs) h
  | timeSetNow _ _ => exact descCommand_safe _ _ _ (fun _ _ hs => timeUnit_safe _ hs) h
  | timeSetAtEpoch _ _ => exact descCommand_safe _ _ _ (fun _ _ hs => timeUnit_safe _ hs) h
  | timeSetCancel _ _ => exact descCommand_safe _ _ _ (fun _ _ hs => timeUnit_safe _ hs) h
  | eventRoute _ _ => exact descCommand_safe _ _ _ (fun _ _ hs => routeUnit_safe _ hs) h
  | lfPoll _ _ => exact descCommand_safe _ _ _ (fun _ _ hs => lfPollUnit_safe _ hs) h
  | lfDiagRing _ _ => exact descCommand_safe _ _ _ (fun _ _ hs => lfDiagUnit_safe _ hs) h
  | lfDiagApply _ _ => exact descCommand_safe _ _ _ (fun _ _ hs => lfDiagUnit_safe _ hs) h
  | lfCal _ _ _ => exact descCommand_safe _ _ _ (fun _ _ hs => lfCalUnit_safe _ _ hs) h
  | lfListen _ _ => exact descCommand_safe _ _ _ (fun _ _ hs => lfListenUnit_safe _ hs) h
  | foldBarrier _ _ => exact descCommand_safe _ _ _ (fun _ _ hs => foldUnit_safe _ hs) h
  | foldBroadcast _ _ => exact descCommand_safe _ _ _ (fun _ _ hs => foldUnit_safe _ hs) h
  | foldSnapshot _ _ => exact descCommand_safe _ _ _ (fun _ _ hs => foldUnit_safe _ hs) h
  | foldReset _ _ => exact descCommand_safe _ _ _ (fun _ _ hs => foldUnit_safe _ hs) h
  | foldRetire _ _ => exact descCommand_safe _ _ _ (fun _ _ hs => foldUnit_safe _ hs) h
  | foldAdopt _ _ => exact descCommand_safe _ _ _ (fun _ _ hs => foldUnit_safe _ hs) h
  | foldBroadcastTick _ => exact command_safe _ _ (fun _ hs => foldAt_safe hs) h
  | uhfTx _ _ _ => exact descCommand_safe _ _ _ (fun _ _ hs => txUnit_safe _ _ hs) h
  | uhfTxEnd _ => exact command_safe _ _ (fun _ hs => txEnd_safe hs) h
  | uhfRx _ _ _ => exact descCommand_safe _ _ _ (fun _ _ hs => rxUnit_safe _ _ hs) h
  | uhfRxEnd _ => exact command_safe _ _ (fun _ hs => rxEnd_safe hs) h
  | uhfCal _ _ _ => exact descCommand_safe _ _ _ (fun _ _ hs => uhfCalUnit_safe _ _ hs) h
  | uwbRange _ _ _ => exact descCommand_safe _ _ _ (fun _ _ hs => rangeUnit_safe _ _ hs) h
  | uwbCal _ _ _ _ => exact descCommand_safe _ _ _ (fun _ _ hs => uwbCalUnit_safe _ _ _ hs) h
  | vrdRulesLoad _ _ => exact descCommand_safe _ _ _ (fun _ _ hs => loadUnit_safe _ _ hs) h
  | vrdMapLoad _ _ => exact descCommand_safe _ _ _ (fun _ _ hs => loadUnit_safe _ _ hs) h
  | vrdEval _ _ => exact descCommand_safe _ _ _ (fun _ _ hs => evalUnit_safe _ hs) h
  | flockLearn _ _ => exact descCommand_safe _ _ _ (fun _ _ hs => learnUnit_safe _ hs) h
  | flockStatusSlot _ _ => exact descCommand_safe _ _ _ (fun _ _ hs => statusSlot_safe _ hs) h
  | flockStatusPin _ _ => exact descCommand_safe _ _ _ (fun _ _ hs => statusPin_safe _ hs) h
  | flockStatusShorten _ _ => exact descCommand_safe _ _ _ (fun _ _ hs => statusShorten_safe _ hs) h
  | immoPair _ _ => exact descCommand_safe _ _ _ (fun _ _ hs => pairUnit_safe _ hs) h
  | immoPairStepCmac _ _ => exact descCommand_safe _ _ _ (fun _ _ hs => stepCmac_safe _ hs) h
  | immoPairStepProbe _ _ => exact descCommand_safe _ _ _ (fun _ _ hs => stepProbe_safe _ hs) h
  | immoPairStepInstall _ _ => exact descCommand_safe _ _ _ (fun _ _ hs => stepInstall_safe _ hs) h
  | startRevoke _ _ => exact descCommand_safe _ _ _ (fun _ _ hs => revokeUnit_safe _ hs) h
  | cryptEcb _ _ => exact descCommand_safe _ _ _ (fun _ _ hs => cryptUnit_safe _ hs) h
  | cryptCbc _ _ => exact descCommand_safe _ _ _ (fun _ _ hs => cryptUnit_safe _ hs) h
  | cryptCtr _ _ => exact descCommand_safe _ _ _ (fun _ _ hs => cryptUnit_safe _ hs) h
  | cryptGcm _ _ => exact descCommand_safe _ _ _ (fun _ _ hs => cryptUnit_safe _ hs) h
  | cryptCcm _ _ => exact descCommand_safe _ _ _ (fun _ _ hs => cryptUnit_safe _ hs) h
  | cryptCmac _ _ => exact descCommand_safe _ _ _ (fun _ _ hs => cryptUnit_safe _ hs) h
  | cryptKw _ _ => exact descCommand_safe _ _ _ (fun _ _ hs => cryptUnit_safe _ hs) h
  | cryptStage _ _ => exact descCommand_safe _ _ _ (fun _ _ hs => cryptUnit_safe _ hs) h
  | keyUnwrap _ _ => exact descCommand_safe _ _ _ (fun _ _ hs => unwrapUnit_safe _ hs) h
  | keyImport _ _ => exact descCommand_safe _ _ _ (fun _ _ hs => unwrapUnit_safe _ hs) h
  | keyUnwrapPairing _ _ => exact descCommand_safe _ _ _ (fun _ _ hs => unwrapUnit_safe _ hs) h
  | keyDerive _ _ => exact descCommand_safe _ _ _ (fun _ _ hs => deriveUnit_safe _ hs) h
  | keyClear _ _ => exact descCommand_safe _ _ _ (fun _ _ hs => clearUnit_safe _ hs) h
  | pkeSignMessage _ _ => exact descCommand_safe _ _ _ (fun _ _ hs => signUnit_safe _ hs) h
  | pkeSignDigest _ _ => exact descCommand_safe _ _ _ (fun _ _ hs => signUnit_safe _ hs) h
  | pkeSignLedger _ _ => exact descCommand_safe _ _ _ (fun _ _ hs => signUnit_safe _ hs) h
  | pkeVerify _ _ => exact descCommand_safe _ _ _ (fun _ _ hs => verifyUnit_safe _ hs) h
  | rngGet _ _ => exact descCommand_safe _ _ _ (fun _ _ hs => getUnit_safe _ hs) h
  | rngStat _ _ _ => exact descCommand_safe _ _ _ (fun _ _ hs => statUnit_safe _ _ hs) h
  | nvRead _ _ => exact descCommand_safe _ _ _ (fun _ _ hs => nvReadUnit_safe _ hs) h
  | nvWrite _ _ => exact descCommand_safe _ _ _ (fun _ _ hs => nvWriteUnit_safe _ hs) h
  | nvWriteFwChunk _ _ => exact descCommand_safe _ _ _ (fun _ _ hs => fwChunkUnit_safe _ hs) h
  | nvWriteOtp _ _ => exact descCommand_safe _ _ _ (fun _ _ hs => otpUnit_safe _ hs) h
  | nvWriteDeviceRecord _ _ => exact descCommand_safe _ _ _ (fun _ _ hs => devRecUnit_safe _ hs) h
  | tallyInc _ _ => exact descCommand_safe _ _ _ (fun _ _ hs => tallyIncUnit_safe _ hs) h
  | tallyRead _ _ => exact descCommand_safe _ _ _ (fun _ _ hs => tallyReadUnit_safe _ hs) h
  | ledgerAppend _ _ => exact descCommand_safe _ _ _ (fun _ _ hs => ledgerAppend_safe _ hs) h
  | ledgerReadBlocks t d => exact execLedgerReadBlocks_safe t d h
  | ledgerReadStatements t d => exact execLedgerReadStatements_safe t d h
  | ledgerSeal _ _ => exact descCommand_safe _ _ _ (fun _ _ hs => ledgerSeal_safe _ hs) h
  | ledgerAttest _ _ => exact descCommand_safe _ _ _ (fun _ _ hs => ledgerAttest_safe _ hs) h
  | ledgerRelease _ _ => exact descCommand_safe _ _ _ (fun _ _ hs => ledgerRelease_safe _ hs) h
  | timerCfg _ _ => exact descCommand_safe _ _ _ (fun _ _ hs => cfgUnit_safe _ hs) h
  | timerRead _ _ => exact descCommand_safe _ _ _ (fun _ _ hs => readUnit_safe _ hs) h
  | fwStage _ _ => exact descCommand_safe _ _ _ (fun _ _ hs => fwStage_safe _ hs) h
  | fwActivateTrial _ _ => exact descCommand_safe _ _ _ (fun _ _ hs => fwTrial_safe _ hs) h
  | fwActivateConfirm _ _ => exact descCommand_safe _ _ _ (fun _ _ hs => fwConfirm_safe _ hs) h
  | fwActivateRevert _ _ => exact descCommand_safe _ _ _ (fun _ _ hs => fwRevert_safe _ hs) h
  | lifecycleChallenge _ _ => exact descCommand_safe _ _ _ (fun _ _ hs => challenge_safe _ hs) h
  | lifecycleAdvance _ _ => exact descCommand_safe _ _ _ (fun _ _ hs => advance_safe _ hs) h
  | lifecycleFleetKey _ _ => exact descCommand_safe _ _ _ (fun _ _ hs => fleetUnit_safe _ hs) h
  | lifecycleOtpK _ _ => exact descCommand_safe _ _ _ (fun _ _ hs => otpKUnit_safe _ hs) h
  | descriptorDispatch _ _ =>
    exact command_safe _ _ (fun _ hs => onlyIf_safe _ _ (fun _ hs => dispatchTurn_safe _ hs) hs) h
  | sqFetchError _ _ => exact command_safe _ _ (fun _ hs => onlyIf_safe _ _ (fun _ hs => fetchError_safe _ hs) hs) h
  | sqTailDoorbell t n v => exact execSqTailDoorbell_safe t n v h
  | cqHeadDoorbell t n v => exact execCqHeadDoorbell_safe t n v h
  | qpEnable t n v => exact execQpEnable_safe t n v h
  | qpDisable t n v => exact execQpDisable_safe t n v h
  | qpQuiesced _ _ => exact command_safe _ _ (fun _ hs => onlyIf_safe _ _ (fun _ hs => settlePair_safe _ hs) hs) h
  | hifCtlEnWrite _ _ => exact regWrite_safe _ _ _ h
  | busMasterEnableChange t on => exact execBusMasterEnableChange_safe t on h
  | d3hotTransition t enter => exact execD3hotTransition_safe t enter h
  | msixCoalesceTimeout _ _ =>
    exact command_safe _ _ (fun _ hs => onlyIf_safe _ _ (fun _ hs => coalesceTimeout_safe _ hs) hs) h
  | backlogDelivery _ => exact command_safe _ _ (fun _ hs => deliverBacklog_safe hs) h
  | powerOnReset _ => exact outerCommand_safe _ _ (fun _ hs => powerOnReset_safe hs) h
  | porRelease _ _ _ =>
    exact outerCommand_safe _ _ (fun _ hs => onlyIf_safe _ _ (fun _ hs => porRelease_safe _ _ hs) hs) h
  | resetNLow t => exact execResetNLow_safe t h
  | systemReset _ =>
    exact outerCommand_safe _ _ (fun _ hs => onlyIf_safe _ _ (fun _ hs => systemResetFor_safe _ hs) hs) h
  | resetNPulseRejected t => exact execResetNPulseRejected_safe t h
  | systemResetRelease _ _ _ =>
    exact outerCommand_safe _ _ (fun _ hs => onlyIf_safe _ _ (fun _ hs => releaseReset_safe _ _ hs) hs) h
  | brownOut _ _ _ => exact outerCommand_safe _ _ (fun _ hs => onlyIf_safe _ _ (fun _ hs => brownOut_safe _ _ hs) hs) h
  | brownOutRelease _ _ _ =>
    exact outerCommand_safe _ _ (fun _ hs => onlyIf_safe _ _ (fun _ hs => releaseReset_safe _ _ hs) hs) h
  | refclkQualified _ _ => exact outerCommand_safe _ _ (fun _ hs => refclkQualified_safe _ hs) h
  | secondMark _ _ => exact command_safe _ _ (fun _ hs => secondMark_safe _ hs) h
  | epochMark _ _ => exact command_safe _ _ (fun _ hs => epochMark_safe _ hs) h
  | attentionMark _ _ => exact command_safe _ _ (fun _ hs => attentionMark_safe _ hs) h
  | gapViolation _ _ => exact command_safe _ _ (fun _ hs => gapViol_safe _ hs) h
  | clockLoss t why => exact execClockLoss_safe t why h
  | refclkStop t why => exact execRefclkStop_safe t why h
  | clockLossRecovery t freq => exact execClockLossRecovery_safe t freq h
  | wakePinEvent t e => exact execWakePinEvent_safe t e h
  | scheduledPollDue _ _ => exact command_safe _ _ (fun _ hs => schedDue_safe _ hs) h
  | pwrSchedEnable t off v => exact execPwrSchedEnable_safe t off v h
  | pwrSchedCommit _ _ => exact regWrite_safe _ _ _ h
  | powerStateEntry _ => exact command_safe _ _ (fun _ hs => onlyIf_safe _ _ (fun _ hs => enter_safe _ hs) hs) h
  | fallowEntry t => exact execFallowEntry_safe t h
  | wakeExit _ _ => exact command_safe _ _ (fun _ hs => wakeExit_safe _ hs) h
  | fallowExit t w freq => exact execFallowExit_safe t w freq h
  | perstNAssert t flr => exact execPerstNAssert_safe t flr h
  | perstNDeassert t => exact execPerstNDeassert_safe t h
  | linkStateChange _ _ _ _ =>
    exact command_safe _ _ (fun _ hs => onlyIf_safe _ _ (fun _ hs => linkChange_safe _ _ _ hs) hs) h
  | pmeTurnOff t => exact execPmeTurnOff_safe t h
  | pmeToAck t => exact execPmeToAck_safe t h
  | pcieTlpWake _ => exact command_safe _ _ (fun _ hs => onlyIf_safe _ _ (fun _ hs => tlpWake_safe hs) hs) h
  | droverWatchdogExpiry t => exact execDroverWatchdogExpiry_safe t h
  | islandHang t isl => exact execIslandHang_safe t isl h
  | pwrIslandRst _ _ => exact regWrite_safe _ _ _ h
  | droverBoot _ => exact command_safe _ _ (fun _ hs => onlyIf_safe _ _ (fun _ hs => droverBoot_safe hs) hs) h
  | fwReady _ => exact command_safe _ _ (fun _ hs => onlyIf_safe _ _ (fun _ hs => fwReady_safe hs) hs) h
  | fwTrialTimeout t => exact execFwTrialTimeout_safe t h
  | nvRecall _ => exact command_safe _ _ (fun _ hs => onlyIf_safe _ _ (fun _ hs => recallAll_safe hs) hs) h
  | configurationLoad _ => exact command_safe _ _ (fun _ hs => onlyIf_safe _ _ (fun _ hs => loadConfig_safe hs) hs) h
  | scrubPass t => exact execScrubPass_safe t h
  | vholdMeasure _ _ _ =>
    exact command_safe _ _ (fun _ hs => onlyIf_safe _ _ (fun _ hs => measureHold_safe _ _ _ hs) hs) h
  | pollStart _ => exact command_safe _ _ (fun _ hs => pollStart_safe hs) h
  | driveSequenceEnd _ _ => exact command_safe _ _ (fun _ hs => driveEnd_safe _ hs) h
  | foreignFieldWindowEnd _ _ => exact command_safe _ _ (fun _ hs => ffEnd_safe _ hs) h
  | responseWindowOpen _ => exact command_safe _ _ (fun _ hs => windowOpen_safe hs) h
  | responseWindowClose _ => exact command_safe _ _ (fun _ hs => windowClose_safe hs) h
  | lfDiagRoundEnd _ _ => exact command_safe _ _ (fun _ hs => diagRound_safe _ hs) h
  | lfListenWindowEnd _ _ => exact command_safe _ _ (fun _ hs => listenEnd_safe _ hs) h
  | lfQueueTimeout t => exact execLfQueueTimeout_safe t h
  | uhfWindowPrepare _ _ =>
    exact command_safe _ _ (fun _ hs => onlyIf_safe _ _ (fun _ hs => prepareWindow_safe _ hs) hs) h
  | obaneAnswerFrame _ _ => exact command_safe _ _ (fun _ hs => answerFrame_safe _ hs) h
  | verdictPass _ => exact command_safe _ _ (fun _ hs => verdictPass_safe hs) h
  | uwbPrewarm _ _ => exact command_safe _ _ (fun _ hs => prewarm_safe _ hs) h
  | uwbExchangeStart _ => exact command_safe _ _ (fun _ hs => startExch_safe hs) h
  | uwbResponseFrame _ _ => exact command_safe _ _ (fun _ hs => replyFrame_safe _ hs) h
  | uwbReportFrame _ _ => exact command_safe _ _ (fun _ hs => reportFrame_safe _ hs) h
  | uwbReplyTimeout _ => exact command_safe _ _ (fun _ hs => replyTimeout_safe hs) h
  | rangeResultArrival _ => exact command_safe _ _ (fun _ hs => rangeArrives_safe hs) h
  | uhfRadioIdleSleep _ => exact command_safe _ _ (fun _ hs => onlyIf_safe _ _ (fun _ hs => uhfSleep_safe hs) hs) h
  | uwbRadioIdleSleep t => exact execUwbRadioIdleSleep_safe t h
  | uhfBgCal _ _ _ _ => exact command_safe _ _ (fun _ hs => onlyIf_safe _ _ (fun _ hs => startUhfBg_safe _ _ _ hs) hs) h
  | uwbBgCal _ _ _ => exact command_safe _ _ (fun _ hs => onlyIf_safe _ _ (fun _ hs => startUwbBg_safe _ _ hs) hs) h
  | coexGrant t => exact execCoexGrant_safe t h
  | coexTimeout t => exact execCoexTimeout_safe t h
  | coexGrantWithdrawn t => exact execCoexGrantWithdrawn_safe t h
  | coilExchangeStart _ _ _ _ => exact command_safe _ _ (fun _ hs => coilStart_safe _ _ _ hs) h
  | coilUplinkFrame _ _ _ => exact command_safe _ _ (fun _ hs => coilFrame_safe _ _ hs) h
  | coilAttemptTimeout _ _ => exact command_safe _ _ (fun _ hs => coilTimeout_safe _ hs) h
  | ecuChallenge t f => exact execEcuChallenge_safe t f h
  | ecuViolation t f => exact execEcuViolation_safe t f h
  | ecuSilenceEnd _ => exact command_safe _ _ (fun _ hs => silenceEnd_safe hs) h
  | canWake t => exact execCanWake_safe t h
  | canBusOffRecovery t => exact execCanBusOffRecovery_safe t h
  | startHoldExpiry t => exact execStartHoldExpiry_safe t h
  | startenTick _ => exact command_safe _ _ (fun _ hs => startenTick_safe hs) h
  | flkStartDisable _ _ => exact regWrite_safe _ _ _ h
  | ptimeAdvance t => exact execPtimeAdvance_safe t h
  | pinfoldExpiry _ => exact command_safe _ _ (fun _ hs => expireDue_safe hs) h
  | pinfoldRecordPeriodic _ => exact command_safe _ _ (fun _ hs => onlyIf_safe _ _ (fun _ hs => storePin_safe hs) hs) h
  | wallClockStore t => exact execWallClockStore_safe t h
  | bellwetherPoll _ => exact command_safe _ _ (fun _ hs => bellPoll_safe hs) h
  | bellwetherTimeout t => exact execBellwetherTimeout_safe t h
  | timerCompareMatch t n credit => exact execTimerCompareMatch_safe t n credit h
  | timerOverflow _ _ => exact command_safe _ _ (fun _ hs => onlyIf_safe _ _ (fun _ hs => runOverflow_safe _ hs) hs) h
  | timerCapturePair t n first second credit => exact execTimerCapturePair_safe t n first second credit h
  | gpioPulseEnd t pin => exact execGpioPulseEnd_safe t pin h
  | rngSteepPass _ _ => exact command_safe _ _ (fun _ hs => onlyIf_safe _ _ (fun _ hs => steepPass_safe _ hs) hs) h
  | rngHealthFail _ _ _ _ =>
    exact command_safe _ _ (fun _ hs => onlyIf_safe _ _ (fun _ hs => healthFail_safe _ _ _ hs) hs) h
  | rngFailsClear t o => exact execRngFailsClear_safe t o h
  | rngPoolRefill t => exact execRngPoolRefill_safe t h
  | rngReseed t => exact execRngReseed_safe t h
  | rngEstimatorWindow t bias c1 c2 c3 c4 o => exact execRngEstimatorWindow_safe t bias c1 c2 c3 c4 o h
  | rngWaitTimeout _ => exact command_safe _ _ (fun _ hs => onlyIf_safe _ _ (fun _ hs => rngTimeout_safe hs) hs) h
  | cryptQueueTimeout _ _ => exact command_safe _ _ (fun _ hs => cryptTimeout_safe _ hs) h
  | pkeWaitTimeout _ _ => exact command_safe _ _ (fun _ hs => pkeTimeout_safe _ hs) h
  | steepWaitTimeout _ => exact command_safe _ _ (fun _ hs => steepTimeout_safe hs) h
  | barrierTimeout _ => exact command_safe _ _ (fun _ hs => barrierTimeout_safe hs) h
  | ledgerAppendWaitTimeout _ => exact command_safe _ _ (fun _ hs => appendTimeout_safe hs) h
  | ledgerSealTimer t => exact execLedgerSealTimer_safe t h
  | ledgerCheckpoint _ => exact command_safe _ _ (fun _ hs => onlyIf_safe _ _ (fun _ hs => takeCheckpoint_safe hs) hs) h
  | foldTreeLive _ => exact command_safe _ _ (fun _ hs => onlyIf_safe _ _ (fun _ hs => makeLive_safe hs) hs) h
  | fldApply _ _ => exact regWrite_safe _ _ _ h
  | fldCommit _ _ => exact regWrite_safe _ _ _ h
  | fldDiscard _ _ => exact regWrite_safe _ _ _ h
  | lfeCommit _ _ => exact regWrite_safe _ _ _ h
  | uhfCommit _ _ => exact regWrite_safe _ _ _ h
  | uwbCommit _ _ => exact regWrite_safe _ _ _ h
  | vrdActRules _ _ => exact regWrite_safe _ _ _ h
  | vrdActMap _ _ => exact regWrite_safe _ _ _ h
  | vrdCommit _ _ => exact regWrite_safe _ _ _ h
  | flkCommit _ _ => exact regWrite_safe _ _ _ h
  | cryCommit _ _ => exact regWrite_safe _ _ _ h
  | lgrCommit _ _ => exact regWrite_safe _ _ _ h
  | tmrCommit _ _ => exact regWrite_safe _ _ _ h
  | lcyCommit _ _ => exact regWrite_safe _ _ _ h
  | monCtlWrite _ _ => exact regWrite_safe _ _ _ h
  | tmrPinfWrite t n v => exact execTmrPinfWrite_safe t n v h
  | rngTestSrcWrite _ _ => exact regWrite_safe _ _ _ h
  | clkShadowWrite t off v => exact execClkShadowWrite_safe t off v h
  | clkCntClr _ _ => exact regWrite_safe _ _ _ h
  | hifCntClr _ _ => exact regWrite_safe _ _ _ h
  | lfeCntClr _ _ => exact regWrite_safe _ _ _ h
  | fldCntClr _ _ => exact regWrite_safe _ _ _ h
  | uhfCntClr _ _ => exact regWrite_safe _ _ _ h
  | uwbCntClr _ _ => exact regWrite_safe _ _ _ h
  | vrdCntClr _ _ => exact regWrite_safe _ _ _ h
  | flkCntClr _ _ => exact regWrite_safe _ _ _ h
  | cryCntClr _ _ => exact regWrite_safe _ _ _ h
  | rngCntClr _ _ => exact regWrite_safe _ _ _ h
  | nvsCntClr _ _ => exact regWrite_safe _ _ _ h
  | lgrCntClr _ _ => exact regWrite_safe _ _ _ h
  | tmrCntClr _ _ => exact regWrite_safe _ _ _ h
  | lcyCntClr _ _ => exact regWrite_safe _ _ _ h
  | monCntClr _ _ => exact regWrite_safe _ _ _ h
  | registerWrite t a v => exact execRegisterWrite_safe t a v h
  | serviceTimeout t => exact execServiceTimeout_safe t h
  | lifecycleNonceExpiry t => exact execLifecycleNonceExpiry_safe t h
  | monInfo t => exact execMonInfo_safe t h
  | monRd t addr count => exact execMonRd_safe t addr count h
  | monWr t addr value => exact execMonWr_safe t addr value h
  | monBuf t off bs => exact execMonBuf_safe t off bs h
  | monDesc t bs => exact execMonDesc_safe t bs h
  | monFolds t node => exact execMonFolds_safe t node h
  | monLedger t q count => exact execMonLedger_safe t q count h
  | monRng t o => exact execMonRng_safe t o h
  | monTb t => exact execMonTb_safe t h
  | monEvt t on => exact execMonEvt_safe t on h
  | monBaud t code => exact execMonBaud_safe t code h
  | monUnlockNonce t => exact execMonUnlockNonce_safe t h
  | monUnlock t sig => exact execMonUnlock_safe t sig h
  | monLock t => exact execMonLock_safe t h
  | monIdleTimeout t => exact execMonIdleTimeout_safe t h
  | monLockoutEnd t => exact execMonLockoutEnd_safe t h
  | syncDetected _ _ => exact command_safe _ _ (fun _ hs => syncSeen_safe _ hs) h
  | uhfRxFrameDetected _ _ => exact command_safe _ _ (fun _ hs => rxFrame_safe _ hs) h
  | probeAnsFrame t f => exact execProbeAnsFrame_safe t f h
  | probeAnsTimeout t => exact execProbeAnsTimeout_safe t h
  | msixVectorUnmask t n en => exact execMsixVectorUnmask_safe t n en h
  | fallowEdgeDetectorArm t => exact execFallowEdgeDetectorArm_safe t h
  | qualificationCountStart t => exact execQualificationCountStart_safe t h
  | monUnknownCommand t => exact execMonUnknownCommand_safe t h

end

/-- Settles O6: every operation that a step runs keeps the memories and the register file canonical. -/
theorem stepKeepsMemorySafe : Obligations.StepKeepsMemorySafe := by
  unfold Obligations.StepKeepsMemorySafe
  intro s s' h hs
  unfold step at hs
  split at hs
  · cases hs
    exact oneEdge_safe h
  · exact exec_safe _ (frame_safe h ..) _ hs

end Sys2Proof.Machine
end
